-- ==== Sys2Proof/Word.lean ====
section
/-!
DEFINITION. The plain word types: a byte, a 32-bit helper register word, the value of a dictionary object, and
tables of things kept by number.
-/
namespace Sys2Proof

/-- One byte of a message, a memory or an OCTETS value. -/
abbrev Byte := BitVec 8

/-- A helper register (R512, R543, R552 and so on). -/
abbrev Word := BitVec 32

/-- The value of a dictionary object (R448): a number of any numeric type (BOOL is 0 or 1, PTPTIME is nanoseconds since
the PTP epoch), or the bytes of a STRING or OCTETS value. -/
inductive Val where
  | num (i : Int)
  | bytes (b : List Byte)
  deriving DecidableEq, Repr

/-- Things kept by number (a lane, a slot, an entry), those at their initial condition left out. -/
abbrev Table (α : Type) := List (Nat × α)

end Sys2Proof
end

