-- ==== Sys2Proof/Syntax.lean ====
section
/-!
DEFINITION. The commands of the block: one constructor per row of the opcode table, and the operand types they use.
The table gives its rows no operands; each constructor carries what the row's rule needs from outside the device.
`dt` is the local-oscillator time in nanoseconds since the command before it (notes/assumptions/1.md).
-/
namespace Sys2Proof

/-- What the header of a received Ilril message shows (R449 to R453, R458): where it came from, its numbers, and whether
its magic, length and tag pass. `tagOk` is false also when the message's ENCRYPTED flag differs from its session's mode. -/
structure Msg where
  session : Nat
  tcp : Bool
  port : Nat          -- 0 CTL_A, 1 CTL_B
  addr : List Byte    -- 4 or 16 bytes
  peerPort : Nat
  seq : Nat
  fenceSeq : Nat
  version : Nat
  magicOk : Bool
  lengthOk : Bool
  tagOk : Bool
  fragment : Bool
  deriving DecidableEq, Repr

/-- The HELLO body of R454. -/
structure Hello where
  role : Nat
  encrypt : Bool
  nc : List Byte
  deriving DecidableEq, Repr

/-- The balls latched by R609. -/
structure Straps where
  twinPresent : Bool
  twinSide : Nat
  avsEn : Bool
  avsAddr : Nat
  testEn : Bool
  deriving DecidableEq, Repr

/-- What an ST 352 payload ID says (R57, R58, R65): its four bytes as one word, the format it names, its colour code
(0xFFFF none, R251), division (0 none, 1 SQD, 2 2SI) and link number less 1. -/
structure PayloadId where
  word : Nat
  format : Nat
  colour : Nat
  division : Nat
  link : Nat
  deriving DecidableEq, Repr

/-- One line as a locked receiver reads it (R58, R63): its number, whether its CRC differs, and its ST 352 payload ID. -/
structure SdiLine where
  number : Nat
  crcError : Bool
  pid : Option PayloadId
  deriving DecidableEq, Repr

/-- The raster a receiver measures (R57): total lines, samples per line, whether the two fields are seen as interlaced or
segmented, and level (1 A, 2 B, 0 none). -/
structure Raster where
  lines : Nat
  samples : Nat
  interlaced : Bool
  level : Nat
  deriving DecidableEq, Repr

/-- One ST 291-1 packet (R73): line, space, link, field, identifiers, size in the side-data area and user data. -/
structure Anc where
  line : Nat
  vanc : Bool
  offset : Nat
  link : Nat
  field2 : Bool
  did : Nat
  sdid : Nat
  size : Nat
  data : List Byte
  checksumOk : Bool
  deriving DecidableEq, Repr

/-- The result of an embedded audio packet's ECC and checksum (R70). -/
inductive EccResult where
  | clean
  | corrected
  | uncorrectable
  deriving DecidableEq, Repr

/-- One embedded audio data packet: its group bit (R68), whether its control packet declares 48 kHz (R69), the ECC
result, the non-audio bit of each of its two pairs, the samples of its four channels, and the bits that go with each word
(R70): validity + 2 x user + 4 x channel status. `phase` is what its audio clock phase data says: the video clocks of the link from
the instant of its first sample at the lane input to the packet. -/
structure AudioPacket where
  groupBit : Nat
  rate48 : Bool
  ecc : EccResult
  nonAudio : List Bool
  samples : List Int
  side : List Nat
  phase : Nat
  deriving DecidableEq, Repr

/-- What happens to the frame that a source slot is writing (R16, R56, R157): it starts, its writer completes lines up to
`n`, it completes, or it is abandoned. A started frame carries the arrival of the SAV of its first active line on each link at
the deserialiser, in nanoseconds of the time counter (R23, R61). -/
inductive FramePart where
  | start (arrivals : List Nat)
  | lines (n : Nat)
  | finish
  | abandon
  deriving DecidableEq, Repr

/-- A row segment of an ST2110_20 packet (R112): line, first pixel, number of pixels, field 2. -/
structure Segment where
  line : Nat
  pixel : Nat
  count : Nat
  field2 : Bool
  deriving DecidableEq, Repr

/-- An RTP packet as the receive flow table sees it (R93, R104, R106, R112, R116). `bytes` is its size in the receive
buffer. `seq` is the extended number for ST2110_20 and the 16-bit number otherwise. `samples` are audio words of 24 bits, the
channels of one sample instant after another; `nonAudio` is the non-audio bit of each pair of channels of an ST2110_31 packet, and
`side` the bits that go with each word: validity + 2 x user + 4 x channel status (R115). -/
structure Rtp where
  dst : List Byte
  src : List Byte
  udpPort : Nat
  payloadType : Nat
  ssrc : Nat
  seq : Nat
  timestamp : Nat
  marker : Bool
  bytes : Nat
  segments : List Segment
  samples : List Int
  nonAudio : List Bool
  side : List Nat
  anc : List Anc
  sav : Bool
  deriving DecidableEq, Repr

/-- What an Announce message says of its sender (R336, R341; IEEE 1588-2019): the sending port, the grandmaster's identity, and what the
dataset comparison compares. -/
structure PtpDataset where
  source : List Byte
  grandmaster : List Byte
  priority1 : Nat
  clockClass : Nat
  accuracy : Nat
  variance : Nat
  priority2 : Nat
  steps : Nat
  deriving DecidableEq, Repr

/-- A PTP message of the reference's port (R336, R341): an Announce, a Sync (with its Follow_Up, of a two-step master) and a Delay_Resp,
each with the sending port and the logarithm of its interval in seconds, and the offset and path delay in nanoseconds that the
timestamps give with it. -/
inductive PtpMsg where
  | announce (d : PtpDataset) (logInterval : Int)
  | sync (source : List Byte) (offsetNs pathDelayNs logInterval : Int)
  | delayResp (source : List Byte) (offsetNs pathDelayNs logInterval : Int)
  deriving DecidableEq, Repr

/-- The contents of an Ethernet frame on a media port (R91, R92, R101, R145). -/
inductive EthBody where
  | rtp (p : Rtp)
  | udpOther
  | arpRequest (addr : List Byte)
  | neighbourSolicitation (addr : List Byte)
  | resolution (addr mac : List Byte)
  | membershipQuery (mld : Bool) (version : Nat) (group : List Byte)
  | ptp (domain : Nat) (ipv6 : Bool) (m : PtpMsg)
  deriving DecidableEq, Repr

/-- An Ethernet frame on a media port (R91): length in bytes, FCS result, VLAN tags, destination MAC address, contents. -/
structure EthFrame where
  bytes : Nat
  fcsOk : Bool
  vlans : List Nat
  dstMac : List Byte
  body : EthBody
  deriving DecidableEq, Repr

/-- Why a reference is lost (R339). -/
inductive LossCause where
  | frequency
  | ptpState
  | pulseMissing
  | pulseMoved
  | tenMegMissing
  | ppsMissing
  | sdiUnlocked
  deriving DecidableEq, Repr

/-- The level of ARB_ROLE in one window (R367). -/
inductive ArbLevel where
  | high
  | low
  | mixed
  deriving DecidableEq, Repr

/-- A status block of the peer (R379): side, role, pattern, readiness, not-ready bits, stale count, the two time-counter values of the
two-way exchange in nanoseconds, when the peer received the last block sent to it (0 for none) and when it sent this one, the
versions that R380 compares (Bedrock patch, Upland image, persistent store) and its MacBase (R146). -/
structure StatusBlock where
  side : Nat
  role : Nat
  pattern : Nat
  readiness : Nat
  notReady : Nat
  copyStale : Nat
  heardAt : Nat
  sentAt : Nat
  images : List Nat
  macBase : List Byte
  deriving DecidableEq, Repr

/-- One write carried by a per-frame copy (R377): address, value, and the due boundary of a Frame-class write in nanoseconds, 0
for every other one. -/
structure CopyWrite where
  addr : Nat
  val : Val
  due : Nat
  deriving DecidableEq, Repr

/-- A change of a salvo (R187): its number, the object's address (index x 65536 + subindex) and the value. -/
structure Change where
  number : Nat
  addr : Nat
  val : Val
  deriving DecidableEq, Repr

/-- The salvo item of a copy (R377, R381): number, state, owner, execution boundary in nanoseconds, and in a resync the
changes. -/
structure CopySalvo where
  number : Nat
  state : Nat
  owner : Nat
  boundary : Nat
  changes : Option (List Change)
  deriving DecidableEq, Repr

/-- A surface or table that a resync carries (R381): 0 and 1 front and back of a graphics layer, 2 and 3 of a stage's
shaper, 4 and 5 of its 3D LUT; the layer or stage; the bytes by their offsets; and the spans of them that have been written. -/
structure CopyTable where
  kind : Nat
  number : Nat
  cells : List (Nat × Byte)
  spans : List (Nat × Nat)
  deriving DecidableEq, Repr

/-- The transmit numbering item of a copy (R135): entry, SSRC, next number, live format, and the alignment point or
first-sample time to which the number belongs, in units of the time counter. -/
structure CopyNumber where
  entry : Nat
  ssrc : Nat
  next : Nat
  format : Nat
  at_ : Nat
  deriving DecidableEq, Repr

/-- A salvo that has executed since the last complete copy (R377): its number and its execution boundary in nanoseconds. -/
structure ExecutedSalvo where
  number : Nat
  boundary : Nat
  deriving DecidableEq, Repr

/-- A per-frame copy for one boundary in nanoseconds (R376, R377). One that ends a resync carries the whole of R381 too: every
copied object, the ones at their defaults left out (notes/assumptions/46.md). -/
structure Copy where
  boundary : Nat
  writes : List CopyWrite
  salvos : List CopySalvo
  executed : List ExecutedSalvo
  numbers : List CopyNumber
  block : List Byte
  resyncDone : Bool
  tables : List CopyTable
  deriving DecidableEq, Repr

/-- The three PLLs of an octet (R391). -/
inductive Pll where
  | eth
  | sdiInt
  | sdiM
  deriving DecidableEq, Repr

/-- What an NVMe completion belongs to (R423, R429, R438, R439, R441). -/
inductive NvmeJob where
  | recordFrame (r : Nat)
  | delayStore (l k : Nat)
  | playStage (p frame : Nat)
  | delayStage (l k : Nat)
  | journal
  | metadata
  deriving DecidableEq, Repr

/-- A frame on a control port (R505). -/
structure CtlFrame where
  codeError : Bool
  fcsOk : Bool
  vlans : List Nat
  etherType : Nat
  dst : List Byte
  payload : List Byte   -- the frame as delivered: FCS and, when VLAN_EN is 1, tag removed
  bytes : Nat           -- received length, tag included
  room : Nat            -- bytes free in the receive FIFO when it arrives (R506)
  deriving DecidableEq, Repr

/-- A request waiting at a Col target port (R535). -/
structure ColReq where
  master : Nat
  trusted : Bool
  write : Bool
  addr : Nat
  data : List Byte      -- bytes to write; for a read, its length is the number of bytes read
  waited : Nat          -- fabric cycles waited so far
  targetError : Bool
  deriving DecidableEq, Repr

/-- What met an uncorrectable error (R555). A video block is named by its line in transmission order and its number within the
line; `tagBlock` is one whose symbol code holds and whose frame tag the reader checks (R158, R175), with that of the block at the
same position in the previous complete frame. -/
inductive MemConsumer where
  | videoBlock (slot seq line block : Nat) (previousBad : Bool) (destinations : List Nat)
  | tagBlock (slot seq line block tag previousTag : Nat) (destinations : List Nat)
  | sideData (slot seq : Nat)
  | receivePacket (entry seq : Nat)
  | corniceBlock (channel : Nat)
  | graphicsBlock (layer offset : Nat)
  | firn (engine : Nat)
  | colourTable (stage : Nat) (reloadFails : Bool)
  | commitTable
  | moraineStaging (play frame : Nat)
  | uplandFetch (pc : Nat)
  | uplandLoad (pc addr : Nat)
  | screeRead
  | macRead (port : Nat)
  | bedrock
  deriving DecidableEq, Repr

/-- What a scrub read finds (R556). -/
inductive ScrubResult where
  | good
  | correctable
  | correctableOverwritten
  | uncorrectable
  deriving DecidableEq, Repr

/-- A buffer argument of a gate call (R522): address and length. -/
structure Buf where
  addr : Nat
  len : Nat
  deriving DecidableEq, Repr

/-- A commit engine request through the gate (R523 CE_SUBMIT). -/
inductive CeRequest where
  | write (addr : Nat) (value : List Byte)
  | salvoOpen
  | salvoAdd (n addr : Nat) (value : List Byte)
  | salvoRemove (n addr : Nat)
  | salvoClear (n : Nat)
  | salvoArm (n : Nat)
  | salvoDisarm (n : Nat)
  | salvoTake (n : Nat) (implicitArm : Bool) (at_ : Option Nat)
  | salvoDiscard (n : Nat)
  deriving DecidableEq, Repr

/-- The operations of the gate call CRYPTO (R523). -/
inductive CryptoOp where
  | sha256
  | sha384
  | hmacSha256
  | aesGcmSeal
  | aesGcmOpen
  | ecdsaVerify
  | random
  deriving DecidableEq, Repr

/-- The operations of the gate call UPDATE (R523, R591); `selfConfirm` is the shipped Upland's own confirmation (R592). -/
inductive UpdateOp where
  | begin_ (kind : Nat)
  | data (value : List Byte)
  | commit
  | activate
  | abort
  | confirm
  | selfConfirm
  deriving DecidableEq, Repr

/-- The commands. Each line names the row of the opcode table and its rule. -/
inductive Instr where
  -- Power, reset, boot and health
  | powerOn (dt : Nat)  -- POWER_ON R604
  | resetNAssert (dt width : Nat)  -- RESET_N_ASSERT R607
  | resetNRelease (dt : Nat) (straps : Straps)  -- RESET_N_RELEASE R609
  | railFault (dt rail microvolts lasted : Nat)  -- RAIL_FAULT R606
  | vddAuxLow (dt microvolts : Nat)  -- VDD_AUX_LOW R606
  | thermalTrip (dt : Nat) (temp : Int) (lasted : Nat)  -- THERMAL_TRIP R642
  | thermalTripRelease (dt : Nat) (temp : Int)  -- THERMAL_TRIP_RELEASE R642
  | romStageEnd (dt : Nat) (avsLinear : Bool) (avsNacks : Nat)  -- ROM_STAGE_END R613
  | hbmReady (dt : Nat) (hbms : List Bool)  -- HBM_READY R613
  | uplandEntered (dt : Nat)  -- UPLAND_ENTERED R613
  | avsTargetUpdate (dt microvolts : Nat)  -- AVS_TARGET_UPDATE R611
  | avsStep (dt nacks : Nat)  -- AVS_STEP R611
  | deviceRestartSoft (dt : Nat) (m : Msg)  -- DEVICE_RESTART_SOFT R620
  | softRestartProceed (dt : Nat)  -- SOFT_RESTART_PROCEED R620
  | deviceRestartHard (dt : Nat) (m : Msg)  -- DEVICE_RESTART_HARD R619
  | watchdogExpiry (dt : Nat)  -- WATCHDOG_EXPIRY R529
  | wdtKick (dt : Nat) (trusted : Bool) (key : Nat)  -- WDT_KICK R529
  | healthMonitorSample (dt : Nat) (temp : Int) (margins hbmTemps : List Int)  -- HEALTH_MONITOR_SAMPLE R484
  | healthClear (dt : Nat) (m : Msg) (value : List Byte)  -- HEALTH_CLEAR R484
  -- Ilril
  | ilrilHello (dt : Nat) (m : Msg) (h : Hello)  -- ILRIL_HELLO R456
  | ilrilProof (dt : Nat) (m : Msg) (handle : Nat) (proof : List Byte)  -- ILRIL_PROOF R456
  | challengeExpiry (dt handle : Nat)  -- CHALLENGE_EXPIRY R456
  | lockoutEnd (dt : Nat) (addr : List Byte)  -- LOCKOUT_END R457
  | lockoutTimeReset (dt : Nat) (addr : List Byte)  -- LOCKOUT_TIME_RESET R457
  | ilrilClose (dt : Nat) (m : Msg)  -- ILRIL_CLOSE R460
  | sessionIdleTimeout (dt session : Nat)  -- SESSION_IDLE_TIMEOUT R460
  | tcpConnectionClose (dt session : Nat)  -- TCP_CONNECTION_CLOSE R450
  | ilrilKeepalive (dt : Nat) (m : Msg)  -- ILRIL_KEEPALIVE R460
  | ilrilRead (dt : Nat) (m : Msg) (index sub offset maxLength : Nat)  -- ILRIL_READ R463
  | ilrilWrite (dt : Nat) (m : Msg) (index sub : Nat) (value : List Byte)  -- ILRIL_WRITE R464
  | ilrilBulkRead (dt : Nat) (m : Msg) (items : List (Nat × Nat))  -- ILRIL_BULK_READ R465
  | ilrilBulkWrite (dt : Nat) (m : Msg) (items : List (Nat × Nat × List Byte))  -- ILRIL_BULK_WRITE R465
  | ilrilFence (dt : Nat) (m : Msg) (scope : Nat)  -- ILRIL_FENCE R466
  | fenceComplete (dt session seq : Nat)  -- FENCE_COMPLETE R211
  | fenceMissing (dt session seq : Nat)  -- FENCE_MISSING R467
  | notifySend (dt session : Nat)  -- NOTIFY_SEND R575
  | notifyResend (dt session : Nat)  -- NOTIFY_RESEND R470
  | notifyAck (dt : Nat) (m : Msg) (notifySeq : Nat)  -- NOTIFY_ACK R470
  -- Salvos and the house boundary
  | salvoOpen (dt : Nat) (m : Msg)  -- SALVO_OPEN R188
  | salvoAdd (dt : Nat) (m : Msg) (n index sub : Nat) (value : List Byte)  -- SALVO_ADD R187
  | salvoRemove (dt : Nat) (m : Msg) (n index sub : Nat)  -- SALVO_REMOVE R189
  | salvoClear (dt : Nat) (m : Msg) (n : Nat)  -- SALVO_CLEAR R189
  | salvoArm (dt : Nat) (m : Msg) (n : Nat)  -- SALVO_ARM R193
  | salvoMirrorAck (dt n : Nat)  -- SALVO_MIRROR_ACK R206
  | mirrorTimeout (dt n : Nat)  -- MIRROR_TIMEOUT R206
  | salvoDisarm (dt : Nat) (m : Msg) (n : Nat)  -- SALVO_DISARM R189
  | salvoDiscard (dt : Nat) (m : Msg) (n : Nat)  -- SALVO_DISCARD R189
  | salvoTake (dt : Nat) (m : Msg) (n : Nat) (implicitArm : Bool) (at_ : Option Nat)  -- SALVO_TAKE R202
  | takeMirrorAck (dt n : Nat)  -- TAKE_MIRROR_ACK R207
  | houseFrameBoundary (dt : Nat)  -- HOUSE_FRAME_BOUNDARY R204
  -- SDI ports
  | sdiSignalDetect (dt lane lasted : Nat)  -- SDI_SIGNAL_DETECT R53
  | sdiRateSearchStep (dt lane : Nat)  -- SDI_RATE_SEARCH_STEP R53
  | sdiClockLock (dt lane : Nat)  -- SDI_CLOCK_LOCK R53
  | sdiLock (dt lane : Nat) (raster : Raster) (pid : Option PayloadId)  -- SDI_LOCK R53
  | sdiClockLoss (dt lane : Nat)  -- SDI_CLOCK_LOSS R54
  | sdiSignalLoss (dt lane lasted : Nat)  -- SDI_SIGNAL_LOSS R54
  | sdiEavTimeout (dt lane periods : Nat)  -- SDI_EAV_TIMEOUT R54
  | sdiRasterMismatch (dt lane lines samples : Nat)  -- SDI_RASTER_MISMATCH R54
  | sdiLineReceived (dt lane : Nat) (line : SdiLine) (skew : Nat)  -- SDI_LINE_RECEIVED R63
  | sdiEdhField (dt lane : Nat) (edhFlags : Option Nat) (apMismatch ffMismatch : Bool)  -- SDI_EDH_FIELD R64
  | sdiAudioPacket (dt lane : Nat) (p : AudioPacket)  -- SDI_AUDIO_PACKET R70
  | sdiAudioGroupAbsent (dt lane groupBit : Nat)  -- SDI_AUDIO_GROUP_ABSENT R69
  | sdiAncPacket (dt lane : Nat) (p : Anc)  -- SDI_ANC_PACKET R73
  | sdiTxFrameEmit (dt lane : Nat)  -- SDI_TX_FRAME_EMIT R66
  | sdiTxIdleEnd (dt lane : Nat)  -- SDI_TX_IDLE_END R79
  -- Ridge
  | sourceFrameWrite (dt slot : Nat) (part : FramePart)  -- SOURCE_FRAME_WRITE R16
  | generatorFrameWrite (dt slot : Nat)  -- GENERATOR_FRAME_WRITE R177
  | destinationReadStart (dt dst : Nat)  -- DESTINATION_READ_START R163
  | partialFrame (dt dst line : Nat)  -- PARTIAL_FRAME R169
  -- Cirque and colour
  | engineAlignmentPoint (dt engine : Nat)  -- ENGINE_ALIGNMENT_POINT R222
  | layerGfxOffset (dt : Nat) (m : Msg) (sub : Nat) (value : List Byte)  -- LAYER_GFX_OFFSET R236
  | layerGfxData (dt : Nat) (m : Msg) (sub : Nat) (value : List Byte)  -- LAYER_GFX_DATA R236
  | layerGfxFlip (dt : Nat) (m : Msg) (sub : Nat) (value : List Byte)  -- LAYER_GFX_FLIP R236
  | colShaperData (dt : Nat) (m : Msg) (sub : Nat) (value : List Byte)  -- COL_SHAPER_DATA R263
  | colLutOffset (dt : Nat) (m : Msg) (sub : Nat) (value : List Byte)  -- COL_LUT_OFFSET R263
  | colLutData (dt : Nat) (m : Msg) (sub : Nat) (value : List Byte)  -- COL_LUT_DATA R263
  | colTableFlip (dt : Nat) (m : Msg) (sub : Nat) (value : List Byte)  -- COL_TABLE_FLIP R263
  -- Cornice
  | corniceBlock (dt : Nat) (inputs : List (Nat × List Int))  -- CORNICE_BLOCK R274
  | auInputRate (dt channel : Nat) (ppb : Int)  -- AU_INPUT_RATE R277
  | tapChangeStart (dt output : Nat)  -- TAP_CHANGE_START R288
  | crossfadeEnd (dt output : Nat)  -- CROSSFADE_END R290
  | meterPeriod (dt : Nat)  -- METER_PERIOD R296
  | loudnessUpdate (dt group : Nat)  -- LOUDNESS_UPDATE R297
  | meterClear (dt : Nat) (m : Msg) (index sub : Nat) (value : List Byte)  -- METER_CLEAR R296
  -- Tarn
  | tarnEnWrite (dt port value : Nat)  -- TARN_EN_WRITE R314
  | tarnGo (dt value : Nat)  -- TARN_GO R315
  | tarnTrigEdge (dt : Nat)  -- TARN_TRIG_EDGE R315
  | tarnStarted (dt : Nat)  -- TARN_STARTED R315
  | tarnFrameStart (dt port : Nat) (rx : List Int) (pdmClip : Bool)  -- TARN_FRAME_START R316
  | tarnMaskWrite (dt port : Nat) (tx : Bool) (value : Nat) (late : Bool)  -- TARN_MASK_WRITE R317
  | tarnFsEdge (dt port : Nat)  -- TARN_FS_EDGE R312
  | tarnFsLost (dt port : Nat)  -- TARN_FS_LOST R312
  | tarnRateMeasure (dt port milliHertz fill : Nat)  -- TARN_RATE_MEASURE R312
  | tarnRxfifoRead (dt port : Nat)  -- TARN_RXFIFO_READ R321
  | tarnTxfifoWrite (dt port value : Nat)  -- TARN_TXFIFO_WRITE R321
  -- Media receive
  | mpFrameReceived (dt port : Nat) (f : EthFrame)  -- MP_FRAME_RECEIVED R91
  | reportRetransmit (dt port : Nat) (group : List Byte)  -- REPORT_RETRANSMIT R101
  | packetRelease (dt entry : Nat)  -- PACKET_RELEASE R107
  | flowLost (dt entry : Nat)  -- FLOW_LOST R103
  | mergePathLost (dt entry : Nat)  -- MERGE_PATH_LOST R109
  | mergePathRestored (dt entry : Nat)  -- MERGE_PATH_RESTORED R109
  | ancUnmatched (dt entry : Nat)  -- ANC_UNMATCHED R116
  | pdvSecond (dt entry : Nat)  -- PDV_SECOND R118
  | mpLinkUp (dt port : Nat)  -- MP_LINK_UP R90
  | mpLinkDown (dt port : Nat)  -- MP_LINK_DOWN R90
  -- Media transmit
  | txPacketDeparture (dt entry : Nat)  -- TX_PACKET_DEPARTURE R138
  | txAudioPacket (dt entry : Nat)  -- TX_AUDIO_PACKET R142
  | txAncPackets (dt entry : Nat) (field2 : Bool)  -- TX_ANC_PACKETS R141
  | txOpaqueForward (dt entry : Nat)  -- TX_OPAQUE_FORWARD R143
  | txResolveRenew (dt entry : Nat)  -- TX_RESOLVE_RENEW R145
  | txUnresolved (dt entry : Nat)  -- TX_UNRESOLVED R145
  -- Watershed
  | wsEvaluation (dt : Nat)  -- WS_EVALUATION R343
  | refEdge (dt ref width : Nat)  -- REF_EDGE R335
  | refFreqMeasure (dt : Nat) (diffs : List (Nat × Int))  -- REF_FREQ_MEASURE R335
  | refLost (dt ref : Nat) (cause : LossCause)  -- REF_LOST R339
  | refSignalBack (dt ref : Nat)  -- REF_SIGNAL_BACK R339
  | refAvailable (dt ref : Nat)  -- REF_AVAILABLE R340
  | ptpAnnounceTimeout (dt ref : Nat)  -- PTP_ANNOUNCE_TIMEOUT R339
  | wsLocked (dt : Nat)  -- WS_LOCKED R345
  | wsTimeSet (dt : Nat) (m : Msg) (value : List Byte)  -- WS_TIME_SET R350
  | loFault (dt missing : Nat) (ppm : Int)  -- LO_FAULT R329
  | loRestored (dt : Nat)  -- LO_RESTORED R329
  | holdoverReady (dt : Nat)  -- HOLDOVER_READY R352
  | holdoverModelSave (dt : Nat)  -- HOLDOVER_MODEL_SAVE R352
  | holdoverExpired (dt : Nat)  -- HOLDOVER_EXPIRED R354
  | wsHoldoverReset (dt : Nat) (m : Msg) (value : List Byte)  -- WS_HOLDOVER_RESET R352
  | fpPulseEmit (dt output : Nat)  -- FP_PULSE_EMIT R356
  | wsHistoryClear (dt : Nat) (m : Msg) (value : List Byte)  -- WS_HISTORY_CLEAR R359
  -- Twin
  | arbPatternRecognised (dt : Nat) (first second : ArbLevel)  -- ARB_PATTERN_RECOGNISED R368
  | twinStatusSend (dt : Nat)  -- TWIN_STATUS_SEND R379
  | twinStatusBlock (dt : Nat) (b : StatusBlock)  -- TWIN_STATUS_BLOCK R379
  | twinPeerLost (dt : Nat)  -- TWIN_PEER_LOST R379
  | twinPeerFound (dt : Nat)  -- TWIN_PEER_FOUND R379
  | twinCopySend (dt : Nat)  -- TWIN_COPY_SEND R376
  | twinCopyReceive (dt : Nat) (c : Copy)  -- TWIN_COPY_RECEIVE R376
  | twinCopyAck (dt : Nat)  -- TWIN_COPY_ACK R376
  | salvoMirrorReceive (dt n state owner : Nat) (changes : List Change)  -- SALVO_MIRROR_RECEIVE R206
  | takeMirrorReceive (dt n boundary : Nat)  -- TAKE_MIRROR_RECEIVE R207
  | writeThroughAck (dt : Nat)  -- WRITE_THROUGH_ACK R378
  | writeThroughTimeout (dt : Nat)  -- WRITE_THROUGH_TIMEOUT R378
  | twinAnnounce (dt : Nat)  -- TWIN_ANNOUNCE R384
  -- Lanes and the Saddle link
  | ethPllLock (dt octet : Nat)  -- ETH_PLL_LOCK R407
  | laneAligned (dt lane : Nat)  -- LANE_ALIGNED R408
  | laneAlignLost (dt lane invalid : Nat)  -- LANE_ALIGN_LOST R408
  | saddleAutoSlip (dt : Nat)  -- SADDLE_AUTO_SLIP R408
  | saddleSlip (dt : Nat) (m : Msg) (sub : Nat) (value : List Byte)  -- SADDLE_SLIP R408
  | saddleMarker (dt lane : Nat) (before word : List Bool) (row : Nat)  -- SADDLE_MARKER R411
  | saddleSeed (dt lane : Nat) (before word : List Bool)  -- SADDLE_SEED R410
  | saddleTrainWord (dt lane : Nat) (line : List Bool)  -- SADDLE_TRAIN_WORD R412
  | saddleTrainStep (dt lane eye : Nat)  -- SADDLE_TRAIN_STEP R413
  | saddleTrainRequest (dt : Nat) (m : Msg) (sub : Nat) (value : List Byte)  -- SADDLE_TRAIN_REQUEST R413
  | saddleRestart (dt : Nat) (m : Msg) (value : List Byte)  -- SADDLE_RESTART R414
  | markerMissing (dt lane : Nat)  -- MARKER_MISSING R414
  | saddleMessage (dt : Nat) (before start rest : List (List Bool))  -- SADDLE_MESSAGE R406
  | spurRefLost (dt input : Nat)  -- SPUR_REF_LOST R394
  | spurRefRestored (dt input : Nat)  -- SPUR_REF_RESTORED R394
  | octetPllUnlock (dt octet : Nat) (pll : Pll)  -- OCTET_PLL_UNLOCK R394
  | lanePrbsLocked (dt lane : Nat) (inverted : Bool)  -- LANE_PRBS_LOCKED R416
  | lanePrbsLost (dt lane bits errors : Nat)  -- LANE_PRBS_LOST R416
  -- Moraine
  | morDriveLost (dt drive : Nat)  -- MOR_DRIVE_LOST R424
  | morDriveRetry (dt drive : Nat)  -- MOR_DRIVE_RETRY R424
  | morDriveUp (dt drive rate width capacity : Nat) (nvme : Bool) (label : Option (Nat × List Nat))  -- MOR_DRIVE_UP R424
  | smartPoll (dt drive warning used : Nat)  -- SMART_POLL R424
  | nvmeCompletion (dt drive : Nat) (job : NvmeJob) (ok : Bool)  -- NVME_COMPLETION R423
  | playbackFrameWrite (dt p : Nat)  -- PLAYBACK_FRAME_WRITE R435
  | delayFrameWrite (dt l : Nat)  -- DELAY_FRAME_WRITE R431
  | morFormat (dt : Nat) (m : Msg) (value : List Byte)  -- MOR_FORMAT R425
  | clipDelete (dt : Nat) (m : Msg) (sub : Nat) (value : List Byte)  -- CLIP_DELETE R437
  | morJournalRead (dt : Nat) (m : Msg)  -- MOR_JOURNAL_READ R444
  -- Control ports
  | ctlFrameReceived (dt port : Nat) (f : CtlFrame)  -- CTL_FRAME_RECEIVED R505
  | ctlTxFrame (dt port : Nat)  -- CTL_TX_FRAME R510
  | ctlLinkUp (dt port speed : Nat)  -- CTL_LINK_UP R515
  | ctlLinkDown (dt port : Nat)  -- CTL_LINK_DOWN R515
  | ctlSpeedCycle (dt port : Nat)  -- CTL_SPEED_CYCLE R503
  | ctlLoadWindow (dt port rxMbps txMbps : Nat)  -- CTL_LOAD_WINDOW R504
  | ctlStepFail (dt port : Nat)  -- CTL_STEP_FAIL R504
  | cmacCtrlWrite (dt port value : Nat)  -- CMAC_CTRL_WRITE R512
  -- Col, Scree, memory integrity
  | colRequest (dt target : Nat) (waiting : List ColReq)  -- COL_REQUEST R535
  | colPortClockStop (dt target : Nat)  -- COL_PORT_CLOCK_STOP R538
  | colFence (dt value : Nat)  -- COL_FENCE R540
  | colApertureRefused (dt value : Nat) (trusted : Bool)  -- COL_APERTURE_REFUSED R542
  | scrTailWrite (dt channel value : Nat)  -- SCR_TAIL_WRITE R544
  | scrDescriptorStart (dt : Nat)  -- SCR_DESCRIPTOR_START R544
  | scrPeriphRequest (dt periph : Nat) (asserted : Bool)  -- SCR_PERIPH_REQUEST R548
  | scrDescriptorComplete (dt : Nat) (lateError : Bool)  -- SCR_DESCRIPTOR_COMPLETE R549
  | scrHalted (dt code bytesDone : Nat)  -- SCR_HALTED R550
  | scrStall (dt : Nat)  -- SCR_STALL R548
  | scrAbort (dt channel bursts : Nat)  -- SCR_ABORT R551
  | scrClear (dt : Nat) (skip : Bool)  -- SCR_CLEAR R550
  | scrChannelDisable (dt channel bursts : Nat)  -- SCR_CHANNEL_DISABLE R552
  | memCorrected (dt memory : Nat)  -- MEM_CORRECTED R554
  | memUncorrectable (dt memory addr : Nat) (c : MemConsumer)  -- MEM_UNCORRECTABLE R555
  | memScrubRead (dt memory addr : Nat) (r : ScrubResult) (passEnd : Bool)  -- MEM_SCRUB_READ R556
  -- Monitors and events
  | monSample (dt unit : Nat) (value : Int)  -- MON_SAMPLE R566
  | monPeriod (dt unit : Nat)  -- MON_PERIOD R568
  | monConfigWrite (dt : Nat) (m : Msg) (index sub : Nat) (value : List Byte)  -- MON_CONFIG_WRITE R567
  | monClear (dt : Nat) (m : Msg) (sub : Nat) (value : List Byte)  -- MON_CLEAR R567
  | evtPop (dt value : Nat)  -- EVT_POP R577
  | evtSwraise (dt value : Nat)  -- EVT_SWRAISE R573
  | evtPinAck (dt value : Nat)  -- EVT_PIN_ACK R576
  | evtPulseEnd (dt pin : Nat)  -- EVT_PULSE_END R576
  | subscriptionWrite (dt : Nat) (m : Msg) (value : List Byte)  -- SUBSCRIPTION_WRITE R574
  | counterClearWrite (dt : Nat) (m : Msg) (index sub : Nat) (value : List Byte)  -- COUNTER_CLEAR_WRITE R560
  | regCounterClear (dt addr value : Nat)  -- REG_COUNTER_CLEAR R560
  | latencyClear (dt : Nat) (m : Msg) (sub : Nat) (value : List Byte)  -- LATENCY_CLEAR R33
  | phaseHistogramClear (dt : Nat) (m : Msg) (value : List Byte)  -- PHASE_HISTOGRAM_CLEAR R565
  -- The service gate
  | gateVersion (dt : Nat)  -- GATE_VERSION R523
  | gateHeartbeat (dt : Nat)  -- GATE_HEARTBEAT R523
  | gateRestart (dt session kind : Nat)  -- GATE_RESTART R524
  | gateHbmRegion (dt : Nat)  -- GATE_HBM_REGION R518
  | gateAuthHello (dt : Nat) (m : Msg) (h : Hello) (buf : Buf)  -- GATE_AUTH_HELLO R523
  | gateAuthProof (dt : Nat) (m : Msg) (handle : Nat) (proof : List Byte) (buf : Buf)  -- GATE_AUTH_PROOF R523
  | gateMsgOpen (dt : Nat) (m : Msg) (buf : Buf)  -- GATE_MSG_OPEN R523
  | gateMsgSeal (dt session : Nat) (buf : Buf)  -- GATE_MSG_SEAL R523
  | gateSessionEnd (dt session reason : Nat)  -- GATE_SESSION_END R523
  | gateCeSubmit (dt session : Nat) (r : CeRequest) (buf : Buf)  -- GATE_CE_SUBMIT R523
  | gateCeRead (dt index sub : Nat) (buf : Buf)  -- GATE_CE_READ R523
  | gateKeyWrite (dt session role : Nat) (key : List Byte) (buf : Buf)  -- GATE_KEY_WRITE R486
  | gateOwnerLock (dt session : Nat) (lock : Bool)  -- GATE_OWNER_LOCK R491
  | gateOtpProgram (dt session : Nat) (hash : List Byte) (buf : Buf)  -- GATE_OTP_PROGRAM R525
  | gateOtpRevoke (dt session slot : Nat)  -- GATE_OTP_REVOKE R525
  | gateStoreLoad (dt : Nat) (buf : Buf)  -- GATE_STORE_LOAD R523
  | gateStoreSave (dt : Nat) (buf : Buf)  -- GATE_STORE_SAVE R523
  | gateTwinPut (dt : Nat) (buf : Buf)  -- GATE_TWIN_PUT R528
  | gateTwinGet (dt : Nat) (buf : Buf)  -- GATE_TWIN_GET R528
  | gateCrypto (dt : Nat) (op : CryptoOp) (key : List Byte) (input output : Buf)  -- GATE_CRYPTO R523
  | gateUpdate (dt session : Nat) (op : UpdateOp) (buf : Buf)  -- GATE_UPDATE R523
  | gateDone (dt ticket : Nat)  -- GATE_DONE R522
  -- Cairn, Upland and the timers
  | interruptForward (dt line : Nat)  -- INTERRUPT_FORWARD R521
  | cacheClean (dt addr : Nat)  -- CACHE_CLEAN R520
  | cacheInval (dt addr : Nat)  -- CACHE_INVAL R520
  | cacheCleanInval (dt addr : Nat)  -- CACHE_CLEAN_INVAL R520
  | uplandFault (dt cause pc addr : Nat)  -- UPLAND_FAULT R530
  | uplandHeartbeatLate (dt : Nat)  -- UPLAND_HEARTBEAT_LATE R530
  | heartbeatTimeout (dt : Nat)  -- HEARTBEAT_TIMEOUT R530
  | tmwTimerExpiry (dt timer : Nat)  -- TMW_TIMER_EXPIRY R527
  | tmwAlarmArm (dt value : Nat)  -- TMW_ALARM_ARM R527
  | tmwAlarmFire (dt : Nat)  -- TMW_ALARM_FIRE R527
  | tmwPtpLatch (dt : Nat)  -- TMW_PTP_LATCH R527
  | tarnFcntLatch (dt port : Nat)  -- TARN_FCNT_LATCH R324
  | registerWrite (dt addr value : Nat) (trusted : Bool)  -- REGISTER_WRITE R517
  -- Keys, store and update
  | roleKeyChanged (dt : Nat) (m : Msg) (sub : Nat) (value : List Byte)  -- ROLE_KEY_CHANGED R486
  | lockoutClear (dt : Nat) (m : Msg) (value : List Byte)  -- LOCKOUT_CLEAR R490
  | ownerLockChange (dt : Nat) (m : Msg) (value : List Byte)  -- OWNER_LOCK_CHANGE R491
  | ownerKeyProgram (dt : Nat) (m : Msg) (value : List Byte)  -- OWNER_KEY_PROGRAM R492
  | ownerKeyRevoke (dt : Nat) (m : Msg) (value : List Byte)  -- OWNER_KEY_REVOKE R492
  | storeSaveStart (dt : Nat)  -- STORE_SAVE_START R498
  | storeSaved (dt : Nat) (ok : Bool)  -- STORE_SAVED R498
  | storeSaveNow (dt : Nat) (m : Msg) (value : List Byte)  -- STORE_SAVE_NOW R498
  | updateBegin (dt : Nat) (m : Msg) (value : List Byte)  -- UPDATE_BEGIN R586
  | updateData (dt : Nat) (m : Msg) (value : List Byte)  -- UPDATE_DATA R587
  | updateCommit (dt : Nat) (m : Msg) (value : List Byte)  -- UPDATE_COMMIT R588
  | updateActivate (dt : Nat) (m : Msg) (value : List Byte)  -- UPDATE_ACTIVATE R589
  | updateAbort (dt : Nat) (m : Msg) (value : List Byte)  -- UPDATE_ABORT R584
  | healthConfirm (dt : Nat) (m : Msg) (value : List Byte)  -- HEALTH_CONFIRM R591
  | updateNotConfirmed (dt : Nat)  -- UPDATE_NOT_CONFIRMED R593
  | osfRead (dt : Nat)  -- OSF_READ R600
  | osfProgram (dt : Nat)  -- OSF_PROGRAM R600
  | osfErase4k (dt : Nat)  -- OSF_ERASE_4K R600
  | osfErase64k (dt : Nat)  -- OSF_ERASE_64K R600
  | osfDone (dt : Nat) (verifyError : Bool)  -- OSF_DONE R600
  -- Late rows of the table
  | octetPllLock (dt octet : Nat) (pll : Pll)  -- OCTET_PLL_LOCK R394
  | laneClockLockLost (dt lane : Nat)  -- LANE_CLOCK_LOCK_LOST R414
  | laneCdrLocked (dt lane : Nat)  -- LANE_CDR_LOCKED R407
  | ctlTxFrameWait (dt port waitedUs : Nat)  -- CTL_TX_FRAME_WAIT R504
  deriving DecidableEq, Repr

end Sys2Proof
end

