-- ==== Sys2Proof/Config.lean ====
section
/-!
DEFINITION. What the spec leaves open: constants and functions without a body (notes/assumptions/4.md to 7.md). Nothing
can be proved about their values, so every claim holds whatever they are. Those applied to a counter of State give a fresh
value each time; the others stand for algorithms of named standards that the spec's own words do not define.
-/
namespace Sys2Proof

/-- A fresh value that the device draws (random generator, drawn numbers): R132, R133, R454, R523. -/
opaque Config.freeNat : Nat → Nat

/-- Fresh random bytes: the count, then how many. -/
opaque Config.freeBytes : Nat → Nat → List Byte

/-- The 128-bit unique ID of the fuses (R2, R525). -/
opaque Config.uniqueIdWord : BitVec 128

/-- The unique ID as sixteen bytes, most significant byte first (R2, R447). -/
def Config.uniqueId : List Byte := (List.range 16).map fun i => (Config.uniqueIdWord >>> (8 * (15 - i))).setWidth 8

/-- The device secret of the fuses (R525). -/
opaque Config.deviceSecret : List Byte

/-- The vendor key hash of the fuses (R525). -/
opaque Config.vendorKeyHash : List Byte

/-- The die stepping (0x1002). -/
opaque Config.dieStepping : Nat

/-- The ROM's version (0x1005 sub 0). -/
opaque Config.romVersion : Nat

/-- The base of the Upland HBM region in units of 256 MB of HBM offset (R518, R542). -/
opaque Config.hbmRegion : Nat

/-- The migration rules of an Upland (R595): store version, its own version, address, recorded value; the value for the new
object, none where it has no rule. -/
opaque Config.migrate : Nat → Nat → Nat → Val → Option Val

/-- DiagInfo's text (R482). -/
opaque Config.diagInfo : List Byte

/-- SHA-256. -/
opaque Config.sha256 : List Byte → List Byte

/-- SHA-384. -/
opaque Config.sha384 : List Byte → List Byte

/-- HMAC-SHA-256: key, message (R455, R496). -/
opaque Config.hmac : List Byte → List Byte → List Byte

/-- HKDF-SHA-256: salt, key material, info, length (R455, R526). -/
opaque Config.hkdf : List Byte → List Byte → List Byte → Nat → List Byte

/-- AES-256-GCM: key, nonce, additional data, plaintext; the ciphertext and the tag (R458). -/
opaque Config.gcm : List Byte → List Byte → List Byte → List Byte → List Byte × List Byte

/-- AES-256-GCM opening: key, nonce, additional data, ciphertext with tag; none where the tag fails (R523). -/
opaque Config.gcmOpen : List Byte → List Byte → List Byte → List Byte → Option (List Byte)

/-- ECDSA P-384 verification: key, message hash, signature (R581). -/
opaque Config.ecdsaOk : List Byte → List Byte → List Byte → Bool

/-- The ST 352 payload ID word of a carriage, format, colour code, division and link (R66). -/
opaque Config.payloadId : Nat → Nat → Nat → Nat → Nat → Nat

/-- Bytes of ancillary packets that one blanking line of a format takes: horizontal space or vertical space (R75). -/
opaque Config.ancRoom : Nat → Bool → Nat

/-- The session description of a transmit entry (R151), by its settings. -/
opaque Config.sdp : List (Nat × Val) → List Byte

/-- The AUTO coefficient set as a table (R228, R246): horizontal or vertical, the taps in force, and the step, 65,536 for 1:1 and
below. -/
opaque Config.autoCoef : Bool → Nat → Nat → List Byte

/-- The samples of a frame that a source slot receives, which the spec leaves to its feed: slot, frame number, lane of a group (0
otherwise), component 0 Y′, 1 Cb or 2 Cr, column and line. -/
opaque Config.received : Nat → Nat → Nat → Nat → Nat → Nat → Int

/-- The ITU-R BT.2111 patterns (R178), whose content the spec does not give: PQ or HLG, format, component, column and line. -/
opaque Config.bt2111 : Bool → Nat → Nat → Nat → Nat → Int

/-- How far a colour stage's component lies from its exact value, before the limit of R265: input and output colour, the working
values in, the exact ones out, component. -/
opaque Config.stageError : Nat × Nat → Rat × Rat × Rat → Rat × Rat × Rat → Nat → Rat

/-- Whether a fraction that is no whole number becomes its upper neighbour, where the spec states no rounding (R275, R280, R281, R297). -/
opaque Config.roundUp : Rat → Bool

/-- The 40-bit accumulator of Cornice after a sum that 40 bits do not hold (R275): what it held, what is added. -/
opaque Config.overflow40 : Int → Int → Int

/-- The input converter (R277): the deviation in ppb and the position between input words when tracking, the input words newest first,
and which of the block's 16 samples. -/
opaque Config.upsample : Option (Int × Nat) → List Int → Nat → Int

/-- How far a tracking converter's delay lies from its group delay, in nanoseconds, before the limit of R277: deviation, position. -/
opaque Config.trackDelay : Int → Nat → Int

/-- The output converter (R278): the internal samples, newest first. -/
opaque Config.downsample : List Rat → Int

/-- The origin kind of the samples of an input channel without a feed, for which the spec names no code (R291). -/
opaque Config.unfedOriginKind : Nat

/-- The triangular dither of a word, in units of 24 bits before the limit of R276: counter. -/
opaque Config.dither : Nat → Rat

/-- The true peak of samples, newest first, by the oversampling of BS.1770-4 Annex 2 (R296). -/
opaque Config.truePeak : List Rat → Nat

/-- A K-weighted sample by the filter of BS.1770-4 for 96 kHz (R297): the history, newest first, and the number of the sample in it. -/
opaque Config.kWeighted : List Int → Nat → Rat

/-- A sample of a Tarn port's converter (R309): the ratio of its rates, the place of the sample between input words, and these, newest
first. -/
opaque Config.portSample : Rat → Rat → List Int → Int

/-- The proportional-integral loop of a converter with SRCMODE BUFFER (R310): bandwidth code, the fill's deviation from 32 samples and
the sum of these; how far the ratio is turned, before the limit of notes/assumptions/80.md. -/
opaque Config.portSteer : Nat → Int → Int → Rat

/-- The PDM decimator before it saturates (R308): whether the clock is 6.144 MHz, the words of 64 bits, newest first. -/
opaque Config.decimate : Bool → List Nat → Int

/-- The DC blocker of 10 Hz (R308): rate, input, last input, last output. -/
opaque Config.dcBlock : Nat → Int → Int → Int → Int

/-- The write that a WRITE_THROUGH message carries (R378, R406), whose layout the spec does not give: its data words. -/
opaque Config.forwarded : List Nat → Option (Nat × Val)

/-- The tracking filter of the Watershed loop (R345, R346): bandwidth code, phase difference, reference frequency and present
correction; the new correction in 10^-18, before the limit of R331. -/
opaque Config.trackY : Nat → Int → Int → Int → Int

/-- How a sample changes a coefficient of the holdover model (R352): 0 y0, 1 a, 2 b or 3 d, the present ones, the junction temperature
less its mean, the age in days, and y in 10^-18. -/
opaque Config.learn : Nat → List Rat → Rat → Rat → Int → Rat

end Sys2Proof
end

