-- ==== Sys2Proof/Machine/Bits.lean ====
section
/-!
DEFINITION. Bit fields, byte order and small list helpers.
-/
namespace Sys2Proof.Machine

/-- Bits [hi:lo] of a number (R6). -/
def field (x lo hi : Nat) : Nat := x / 2 ^ lo % 2 ^ (hi + 1 - lo)

/-- Bit n of a number (R6). -/
def bit (x n : Nat) : Bool := x.testBit n

/-- 1 for true. -/
def b2n (b : Bool) : Nat := if b then 1 else 0

/-- x with bit n set to b. -/
def setBit (x n : Nat) (b : Bool) : Nat :=
  if x.testBit n == b then x else if b then x + 2 ^ n else x - 2 ^ n

/-- x with bits [hi:lo] replaced by the low bits of v. -/
def setField (x lo hi v : Nat) : Nat :=
  x - field x lo hi * 2 ^ lo + v % 2 ^ (hi + 1 - lo) * 2 ^ lo

/-- n bytes of a number, most significant byte first (R447). -/
def beBytes : Nat → Nat → List Byte
  | 0, _ => []
  | n + 1, x => BitVec.ofNat 8 (x / 256 ^ n) :: beBytes n x

/-- The number that bytes hold, most significant byte first (R447). -/
def fromBe (b : List Byte) : Nat := b.foldl (fun a x => a * 256 + x.toNat) 0

/-- n bytes of a number, least significant byte first (R511, R545). -/
def leBytes : Nat → Nat → List Byte
  | 0, _ => []
  | n + 1, x => BitVec.ofNat 8 x :: leBytes n (x / 256)

/-- The number that bytes hold, least significant byte first. -/
def fromLe (b : List Byte) : Nat := b.foldr (fun x a => x.toNat + a * 256) 0

/-- A number of w bits read as two's complement. -/
def toSigned (w x : Nat) : Int := if x < 2 ^ (w - 1) then x else (x : Int) - 2 ^ w

/-- An integer as the w-bit two's complement number. -/
def ofSigned (w : Nat) (i : Int) : Nat := (i % (2 ^ w : Nat)).toNat

/-- n bytes of 0. -/
def zeros (n : Nat) : List Byte := List.replicate n 0

/-- The bytes of an ASCII text. -/
def ascii (t : String) : List Byte := t.toList.map fun c => BitVec.ofNat 8 c.toNat

/-- The bytes cut into pieces of n, the last one possibly shorter; `fuel` bounds the number of pieces. -/
def chunksOf (n : Nat) : Nat → List Byte → List (List Byte)
  | 0, _ => []
  | fuel + 1, b => if b.isEmpty then [] else b.take n :: chunksOf n fuel (b.drop n)

/-- An unsigned number moved up to the next multiple of m. -/
def roundUp (x m : Nat) : Nat := (x + m - 1) / m * m

/-- x / y rounded up. -/
def ceilDiv (x y : Nat) : Nat := (x + y - 1) / y

/-- The absolute difference of two numbers. -/
def absDiff (x y : Nat) : Nat := if x ≤ y then y - x else x - y

/-- An integer limited to a range. -/
def clampInt (lo hi x : Int) : Int := if x < lo then lo else if hi < x then hi else x

/-- A byte that continues a UTF-8 sequence. -/
def utf8Cont (b : Byte) : Bool := 0x80 ≤ b.toNat && b.toNat < 0xC0

/-- Whether bytes are valid UTF-8 (R448, R477). -/
def utf8Ok : List Byte → Bool
  | [] => true
  | b :: rest =>
    if b.toNat < 0x80 then utf8Ok rest
    else match rest with
      | [] => false
      | c :: rest2 =>
        if 0xC2 ≤ b.toNat && b.toNat < 0xE0 then utf8Cont c && utf8Ok rest2
        else match rest2 with
          | [] => false
          | d :: rest3 =>
            if 0xE0 ≤ b.toNat && b.toNat < 0xF0 then
              utf8Cont c && utf8Cont d && (b.toNat != 0xE0 || 0xA0 ≤ c.toNat) &&
                (b.toNat != 0xED || c.toNat < 0xA0) && utf8Ok rest3
            else match rest3 with
              | [] => false
              | e :: rest4 =>
                0xF0 ≤ b.toNat && b.toNat < 0xF5 && utf8Cont c && utf8Cont d && utf8Cont e &&
                  (b.toNat != 0xF0 || 0x90 ≤ c.toNat) && (b.toNat != 0xF4 || c.toNat < 0x90) && utf8Ok rest4

/-- One bit step of CRC-32 (IEEE 802.3, reflected). -/
def crcBit (c : Nat) : Nat := if c % 2 = 1 then Nat.xor (c / 2) 0xEDB88320 else c / 2

/-- One byte of CRC-32. -/
def crcByte (c : Nat) (b : Byte) : Nat :=
  crcBit (crcBit (crcBit (crcBit (crcBit (crcBit (crcBit (crcBit (Nat.xor c b.toNat))))))))

/-- CRC-32 of IEEE 802.3 over bytes. -/
def crc32 (b : List Byte) : Nat := Nat.xor (b.foldl crcByte 0xFFFFFFFF) 0xFFFFFFFF

/-! Tables: lists of numbered things, at most one entry to a number. -/

/-- The entry of a table, or its initial condition. -/
def look {α : Type} (t : Table α) (k : Nat) (d : α) : α := (t.lookup k).getD d

/-- A table with one entry replaced. -/
def put {α : Type} (t : Table α) (k : Nat) (v : α) : Table α := (k, v) :: t.filter (fun p => p.1 != k)

/-- A table with one entry changed. -/
def upd {α : Type} (t : Table α) (k : Nat) (d : α) (f : α → α) : Table α := put t k (f (look t k d))

/-- A table with one entry removed. -/
def del {α : Type} (t : Table α) (k : Nat) : Table α := t.filter (fun p => p.1 != k)

/-- An element put into a sorted list, before the first one that it comes before. -/
def insertBy {α : Type} (le : α → α → Bool) (x : α) : List α → List α
  | [] => [x]
  | y :: t => if le x y then x :: y :: t else y :: insertBy le x t

/-- A list sorted by an order; elements that the order does not tell apart keep their order. -/
def sortBy {α : Type} (le : α → α → Bool) : List α → List α
  | [] => []
  | x :: t => insertBy le x (sortBy le t)

/-! Stores: tables in a canonical form, keys strictly rising and no entry equal to what an unlisted key reads as. -/

/-- A new key inserted before the first greater key. -/
def insertSorted {α : Type} (k : Nat) (v : α) : List (Nat × α) → List (Nat × α)
  | [] => [(k, v)]
  | (k', v') :: t => if k < k' then (k, v) :: (k', v') :: t else (k', v') :: insertSorted k v t

/-- What a store reads as at a key. -/
def storeGet {α : Type} (dflt : Nat → α) (t : List (Nat × α)) (k : Nat) : α := (t.lookup k).getD (dflt k)

/-- A store with one key set: the default value leaves no entry. -/
def storeSet {α : Type} [DecidableEq α] (dflt : Nat → α) (t : List (Nat × α)) (k : Nat) (v : α) : List (Nat × α) :=
  let t' := t.filter (fun p => p.1 != k)
  if v = dflt k then t' else insertSorted k v t'

/-- The canonical form of a store. -/
def storeWf {α : Type} [DecidableEq α] (dflt : Nat → α) : List (Nat × α) → Bool
  | [] => true
  | [(k, v)] => v ≠ dflt k
  | (k, v) :: (k', v') :: t => (v ≠ dflt k) && k < k' && storeWf dflt ((k', v') :: t)

/-! Spans: disjoint ranges from a start to an end. -/

/-- A span of bytes added to disjoint spans; touching spans are joined. -/
def addSpan (a b : Nat) (l : List (Nat × Nat)) : List (Nat × Nat) :=
  let touch := fun p : Nat × Nat => p.1 ≤ b && a ≤ p.2
  let lo := ((l.filter touch).map (·.1)).foldl min a
  let hi := ((l.filter touch).map (·.2)).foldl max b
  (lo, hi) :: l.filter fun p => !touch p

/-- What disjoint spans keep when another span is taken from them. -/
def cutSpan (l : List (Nat × Nat)) (q : Nat × Nat) : List (Nat × Nat) :=
  l.flatMap fun p => if q.2 ≤ p.1 || p.2 ≤ q.1 then [p] else [(p.1, q.1), (q.2, p.2)].filter fun r => r.1 < r.2

/-- What disjoint spans keep when others are taken from them. -/
def spansLess (l m : List (Nat × Nat)) : List (Nat × Nat) := m.foldl cutSpan l

/-- Whether spans cover the first n bytes. -/
def spansFull (l : List (Nat × Nat)) (n : Nat) : Bool := l.any fun p => p.1 == 0 && n ≤ p.2

end Sys2Proof.Machine
end

