-- ==== Sys2Proof/Machine/Dictionary.lean ====
section
/-!
DEFINITION. The object dictionary (R475 to R483 and the object tables of every chapter): one row per object, with its
subindices, type, access, minimum role (0 Monitor to 3 Owner), commit class, default and range of written values.
-/
namespace Sys2Proof.Machine

/-- The types of R448. -/
inductive Ty where
  | bool | u8 | u16 | u32 | u64 | i16 | i32 | i64 | enum16 | bits32 | route | ptptime | string | octets
  deriving DecidableEq, Repr

/-- The access codes of the dictionary (R7). -/
inductive Access where
  | ro | rw | wo
  deriving DecidableEq, Repr

/-- The commit classes of R8. -/
inductive Commit where
  | immediate | frame | take | restart
  deriving DecidableEq, Repr

/-- The range that an object's Notes give a written value beside its type (R477). `spanOr` adds the code for none to a
range; `lens` gives the least length, the greatest and the step; `step` the same for numbers. -/
inductive Rng where
  | any
  | span (lo hi : Int)
  | spanOr (lo hi other : Int)
  | step (lo hi step : Nat)
  | mask (m : Nat)
  | keep (m : Nat)
  | lens (lo hi step : Nat)
  | addr
  | macBase
  | route
  | format
  | audioRef
  | gain
  | gains (n : Nat)
  | eq (sections : Nat)
  | busSrc
  | loud
  | coef (bytes : Nat)
  deriving DecidableEq, Repr

/-- One row of an object table. -/
structure Row where
  index : Nat
  lo : Nat
  hi : Nat
  ty : Ty
  access : Access
  role : Nat
  commit : Commit
  dflt : Val
  rng : Rng
  deriving DecidableEq, Repr

/-- Objects 0x1000 to 0x1193. -/
def dictRows0 : List Row :=
  [⟨0x1000, 0, 0, .string, .ro, 0, .immediate, .bytes (ascii "WJ2048-H4"), .any⟩,
   ⟨0x1001, 0, 0, .octets, .ro, 0, .immediate, .bytes [], .any⟩,
   ⟨0x1002, 0, 0, .u16, .ro, 0, .immediate, .num 0, .any⟩,
   ⟨0x1003, 0, 0, .string, .ro, 0, .immediate, .bytes (ascii "Welsan"), .any⟩,
   ⟨0x1004, 0, 0, .string, .ro, 0, .immediate, .bytes (ascii "Drara"), .any⟩,
   ⟨0x1005, 0, 1, .u32, .ro, 0, .immediate, .num 0, .any⟩,
   ⟨0x1006, 0, 0, .u32, .ro, 0, .immediate, .num 0, .any⟩,
   ⟨0x1007, 0, 0, .string, .rw, 2, .immediate, .bytes [], .any⟩,
   ⟨0x1010, 0, 0, .enum16, .ro, 0, .immediate, .num 0, .any⟩,
   ⟨0x1011, 0, 0, .bits32, .ro, 0, .immediate, .num 0, .any⟩,
   ⟨0x1012, 0, 0, .bool, .wo, 2, .immediate, .num 0, .any⟩,
   ⟨0x1013, 0, 0, .u64, .ro, 0, .immediate, .num 0, .any⟩,
   ⟨0x1014, 0, 0, .u64, .ro, 0, .immediate, .num 0, .any⟩,
   ⟨0x1015, 0, 0, .enum16, .ro, 0, .immediate, .num 0, .any⟩,
   ⟨0x1016, 0, 0, .i16, .ro, 0, .immediate, .num 0, .any⟩,
   ⟨0x1017, 0, 0, .i16, .ro, 0, .immediate, .num (-400), .any⟩,
   ⟨0x1018, 0, 7, .i16, .ro, 0, .immediate, .num 0, .any⟩,
   ⟨0x1019, 0, 0, .enum16, .wo, 3, .immediate, .num 0, .span 1 2⟩,
   ⟨0x1040, 0, 0, .u16, .ro, 0, .immediate, .num 0, .any⟩,
   ⟨0x1041, 0, 0, .u16, .ro, 0, .immediate, .num 0, .any⟩,
   ⟨0x1042, 0, 0, .enum16, .ro, 0, .immediate, .num 2, .any⟩,
   ⟨0x1043, 0, 0, .u64, .ro, 0, .immediate, .num 0, .any⟩,
   ⟨0x1044, 0, 1, .u32, .ro, 0, .immediate, .num 0, .any⟩,
   ⟨0x1045, 0, 0, .ptptime, .ro, 0, .immediate, .num 0, .any⟩,
   ⟨0x1046, 0, 0, .bool, .ro, 0, .immediate, .num 0, .any⟩,
   ⟨0x1047, 0, 0, .bool, .wo, 2, .immediate, .num 0, .any⟩,
   ⟨0x1100, 0, 3, .octets, .wo, 3, .immediate, .bytes [], .lens 0 32 32⟩,
   ⟨0x1101, 0, 3, .bool, .ro, 0, .immediate, .num 0, .any⟩,
   ⟨0x1102, 0, 3, .ptptime, .ro, 0, .immediate, .num 0, .any⟩,
   ⟨0x1110, 0, 15, .enum16, .ro, 0, .immediate, .num 0, .any⟩,
   ⟨0x1111, 0, 15, .enum16, .ro, 0, .immediate, .num 0, .any⟩,
   ⟨0x1112, 0, 15, .enum16, .ro, 0, .immediate, .num 0, .any⟩,
   ⟨0x1113, 0, 15, .enum16, .ro, 0, .immediate, .num 0, .any⟩,
   ⟨0x1114, 0, 15, .octets, .ro, 0, .immediate, .bytes [], .any⟩,
   ⟨0x1115, 0, 15, .u16, .ro, 0, .immediate, .num 0, .any⟩,
   ⟨0x1116, 0, 15, .bool, .ro, 0, .immediate, .num 0, .any⟩,
   ⟨0x1117, 0, 15, .ptptime, .ro, 0, .immediate, .num 0, .any⟩,
   ⟨0x1118, 0, 15, .ptptime, .ro, 0, .immediate, .num 0, .any⟩,
   ⟨0x1119, 0, 15, .u64, .ro, 0, .immediate, .num 0, .any⟩,
   ⟨0x111A, 0, 15, .u16, .ro, 0, .immediate, .num 0, .any⟩,
   ⟨0x111B, 0, 15, .u64, .ro, 0, .immediate, .num 0, .any⟩,
   ⟨0x1120, 0, 0, .u16, .ro, 0, .immediate, .num 0, .any⟩,
   ⟨0x1130, 0, 1, .u64, .ro, 0, .immediate, .num 0, .any⟩,
   ⟨0x1131, 0, 1, .u64, .ro, 0, .immediate, .num 0, .any⟩,
   ⟨0x1132, 0, 1, .u64, .ro, 0, .immediate, .num 0, .any⟩,
   ⟨0x1133, 0, 1, .u64, .ro, 0, .immediate, .num 0, .any⟩,
   ⟨0x1134, 0, 1, .u64, .ro, 0, .immediate, .num 0, .any⟩,
   ⟨0x1135, 0, 1, .u64, .ro, 0, .immediate, .num 0, .any⟩,
   ⟨0x1136, 0, 1, .u64, .ro, 0, .immediate, .num 0, .any⟩,
   ⟨0x1137, 0, 1, .u64, .ro, 0, .immediate, .num 0, .any⟩,
   ⟨0x113F, 0, 0, .bool, .wo, 1, .immediate, .num 0, .any⟩,
   ⟨0x1140, 0, 0, .octets, .ro, 2, .immediate, .bytes [], .any⟩,
   ⟨0x1141, 0, 0, .bool, .wo, 3, .immediate, .num 0, .any⟩,
   ⟨0x1142, 0, 0, .u64, .ro, 0, .immediate, .num 0, .any⟩,
   ⟨0x1180, 0, 0, .bool, .rw, 3, .immediate, .num 0, .any⟩,
   ⟨0x1181, 0, 0, .ptptime, .ro, 0, .immediate, .num 0, .any⟩,
   ⟨0x1190, 0, 0, .octets, .ro, 0, .immediate, .bytes [], .any⟩,
   ⟨0x1191, 0, 3, .octets, .ro, 0, .immediate, .bytes [], .any⟩,
   ⟨0x1192, 0, 3, .enum16, .ro, 0, .immediate, .num 0, .any⟩,
   ⟨0x1193, 0, 0, .octets, .wo, 3, .immediate, .bytes [], .lens 48 48 1⟩]

/-- Objects 0x1194 to 0x1426. -/
def dictRows1 : List Row :=
  [⟨0x1194, 0, 0, .u8, .wo, 3, .immediate, .num 0, .span 0 3⟩,
   ⟨0x1200, 0, 0, .enum16, .ro, 0, .immediate, .num 0, .any⟩,
   ⟨0x1201, 0, 0, .enum16, .rw, 3, .immediate, .num 0, .span 0 1⟩,
   ⟨0x1202, 0, 0, .u16, .rw, 3, .immediate, .num 300, .span 30 3600⟩,
   ⟨0x1203, 0, 0, .enum16, .wo, 3, .immediate, .num 0, .span 1 2⟩,
   ⟨0x1204, 0, 0, .octets, .wo, 3, .immediate, .bytes [], .lens 5 65535 1⟩,
   ⟨0x1205, 0, 0, .u32, .ro, 0, .immediate, .num 0, .any⟩,
   ⟨0x1206, 0, 0, .bool, .wo, 3, .immediate, .num 0, .any⟩,
   ⟨0x1207, 0, 0, .bool, .wo, 3, .immediate, .num 0, .any⟩,
   ⟨0x1208, 0, 0, .bool, .wo, 3, .immediate, .num 0, .any⟩,
   ⟨0x1209, 0, 0, .u16, .ro, 0, .immediate, .num 0, .any⟩,
   ⟨0x120A, 0, 0, .u32, .ro, 0, .immediate, .num 0, .any⟩,
   ⟨0x120B, 0, 0, .u8, .ro, 0, .immediate, .num 0, .any⟩,
   ⟨0x1210, 0, 0, .bool, .wo, 2, .immediate, .num 0, .any⟩,
   ⟨0x1211, 0, 0, .u32, .ro, 0, .immediate, .num 0, .any⟩,
   ⟨0x1220, 0, 3, .u32, .ro, 0, .immediate, .num 0, .any⟩,
   ⟨0x1221, 0, 3, .enum16, .ro, 0, .immediate, .num 0, .any⟩,
   ⟨0x1230, 0, 0, .u8, .ro, 0, .immediate, .num 0, .any⟩,
   ⟨0x1240, 0, 0, .octets, .ro, 0, .immediate, .bytes [], .any⟩,
   ⟨0x1241, 0, 0, .u32, .ro, 0, .immediate, .num 0, .any⟩,
   ⟨0x1242, 0, 0, .enum16, .ro, 0, .immediate, .num 2, .any⟩,
   ⟨0x1250, 0, 0, .octets, .ro, 0, .immediate, .bytes [], .any⟩,
   ⟨0x1300, 0, 511, .u64, .ro, 0, .immediate, .num 0, .any⟩,
   ⟨0x1301, 0, 511, .ptptime, .ro, 0, .immediate, .num 0, .any⟩,
   ⟨0x1302, 0, 511, .u32, .ro, 0, .immediate, .num 0, .any⟩,
   ⟨0x1303, 0, 511, .string, .ro, 0, .immediate, .bytes [], .any⟩,
   ⟨0x1304, 0, 511, .u8, .rw, 2, .immediate, .num 0, .span 0 3⟩,
   ⟨0x1310, 0, 0, .octets, .rw, 0, .immediate, .bytes [], .lens 0 64 64⟩,
   ⟨0x131F, 0, 0, .bool, .wo, 1, .immediate, .num 0, .any⟩,
   ⟨0x1400, 0, 0, .enum16, .rw, 2, .restart, .num 6, .span 1 8⟩,
   ⟨0x1401, 0, 0, .enum16, .rw, 2, .immediate, .num 0, .span 0 3⟩,
   ⟨0x1402, 0, 0, .u8, .rw, 2, .immediate, .num 0, .span 0 10⟩,
   ⟨0x1403, 0, 0, .u32, .rw, 2, .immediate, .num 50, .span 1 10000⟩,
   ⟨0x1404, 0, 0, .u32, .rw, 2, .immediate, .num 2000, .span 100 100000⟩,
   ⟨0x1405, 0, 0, .enum16, .rw, 2, .immediate, .num 0, .span 0 2⟩,
   ⟨0x1406, 0, 0, .u32, .rw, 2, .immediate, .num 1000000, .span 1000 1000000000⟩,
   ⟨0x1407, 0, 0, .u8, .rw, 2, .immediate, .num 8, .span 1 15⟩,
   ⟨0x1408, 0, 0, .u32, .rw, 2, .immediate, .num 86400, .span 60 2592000⟩,
   ⟨0x1409, 0, 0, .ptptime, .wo, 2, .immediate, .num 0, .any⟩,
   ⟨0x140A, 0, 0, .bool, .wo, 3, .immediate, .num 0, .any⟩,
   ⟨0x140F, 0, 0, .bool, .wo, 1, .immediate, .num 0, .any⟩,
   ⟨0x1410, 0, 0, .enum16, .ro, 0, .immediate, .num 0, .any⟩,
   ⟨0x1411, 0, 0, .u8, .ro, 0, .immediate, .num 0xFF, .any⟩,
   ⟨0x1412, 0, 0, .u8, .ro, 0, .immediate, .num 15, .any⟩,
   ⟨0x1413, 0, 0, .i64, .ro, 0, .immediate, .num 0, .any⟩,
   ⟨0x1414, 0, 0, .i64, .ro, 0, .immediate, .num 0, .any⟩,
   ⟨0x1415, 0, 0, .ptptime, .ro, 0, .immediate, .num 0, .any⟩,
   ⟨0x1416, 0, 0, .u32, .ro, 0, .immediate, .num 0, .any⟩,
   ⟨0x1417, 0, 0, .u32, .ro, 0, .immediate, .num 0, .any⟩,
   ⟨0x1418, 0, 0, .bits32, .ro, 0, .immediate, .num 0, .any⟩,
   ⟨0x1419, 0, 0, .enum16, .ro, 0, .immediate, .num 0, .any⟩,
   ⟨0x141A, 0, 0, .u64, .ro, 0, .immediate, .num 0, .any⟩,
   ⟨0x141B, 0, 0, .octets, .ro, 0, .immediate, .bytes [], .any⟩,
   ⟨0x1420, 0, 10, .bool, .rw, 2, .immediate, .num 0, .any⟩,
   ⟨0x1421, 0, 10, .u8, .rw, 2, .immediate, .num 128, .span 1 255⟩,
   ⟨0x1422, 0, 10, .u8, .rw, 2, .immediate, .num 0xFF, .spanOr 0 15 0xFF⟩,
   ⟨0x1423, 0, 10, .u8, .rw, 2, .immediate, .num 8, .span 1 15⟩,
   ⟨0x1424, 0, 10, .u16, .rw, 2, .immediate, .num 10, .span 1 3600⟩,
   ⟨0x1425, 0, 10, .i32, .rw, 2, .immediate, .num 0, .span (-1000000) 1000000⟩,
   ⟨0x1426, 0, 10, .enum16, .rw, 2, .immediate, .num 6, .span 1 8⟩]

/-- Objects 0x1427 to 0x1605. -/
def dictRows2 : List Row :=
  [⟨0x1427, 0, 10, .enum16, .rw, 2, .immediate, .num 0, .span 0 1⟩,
   ⟨0x1428, 0, 10, .u16, .rw, 2, .immediate, .num 0xFFFF, .spanOr 0 287 0xFFFF⟩,
   ⟨0x1429, 0, 10, .enum16, .rw, 2, .immediate, .num 2, .span 0 4⟩,
   ⟨0x142A, 0, 10, .u32, .rw, 2, .immediate, .num 12000, .span 1000 100000⟩,
   ⟨0x1430, 0, 10, .enum16, .ro, 0, .immediate, .num 0, .any⟩,
   ⟨0x1431, 0, 10, .u8, .ro, 0, .immediate, .num 0, .any⟩,
   ⟨0x1432, 0, 10, .i64, .ro, 0, .immediate, .num 0, .any⟩,
   ⟨0x1433, 0, 10, .i64, .ro, 0, .immediate, .num 0, .any⟩,
   ⟨0x1434, 0, 10, .u16, .ro, 0, .immediate, .num 0, .any⟩,
   ⟨0x1435, 0, 10, .bits32, .ro, 0, .immediate, .num 0, .any⟩,
   ⟨0x1436, 0, 10, .u64, .ro, 0, .immediate, .num 0, .any⟩,
   ⟨0x1437, 0, 10, .u64, .ro, 0, .immediate, .num 0, .any⟩,
   ⟨0x1440, 0, 1, .u8, .rw, 2, .immediate, .num 0xFF, .spanOr 0 71 0xFF⟩,
   ⟨0x1441, 0, 1, .u8, .rw, 2, .immediate, .num 127, .span 0 127⟩,
   ⟨0x1442, 0, 1, .enum16, .rw, 2, .immediate, .num 0, .span 0 1⟩,
   ⟨0x1443, 0, 1, .enum16, .rw, 2, .immediate, .num 0, .span 0 1⟩,
   ⟨0x1444, 0, 1, .u8, .rw, 2, .immediate, .num 3, .span 2 10⟩,
   ⟨0x1450, 0, 1, .enum16, .ro, 0, .immediate, .num 0, .any⟩,
   ⟨0x1451, 0, 1, .octets, .ro, 0, .immediate, .bytes [], .any⟩,
   ⟨0x1452, 0, 1, .u8, .ro, 0, .immediate, .num 255, .any⟩,
   ⟨0x1453, 0, 1, .i64, .ro, 0, .immediate, .num 0, .any⟩,
   ⟨0x1454, 0, 1, .i64, .ro, 0, .immediate, .num 0, .any⟩,
   ⟨0x1460, 0, 3, .bool, .rw, 2, .immediate, .num 0, .any⟩,
   ⟨0x1461, 0, 3, .enum16, .rw, 2, .immediate, .num 0, .span 0 4⟩,
   ⟨0x1462, 0, 3, .enum16, .rw, 2, .immediate, .num 6, .span 1 8⟩,
   ⟨0x1463, 0, 3, .u32, .rw, 2, .immediate, .num 0, .any⟩,
   ⟨0x1464, 0, 3, .enum16, .rw, 2, .immediate, .num 0, .span 0 1⟩,
   ⟨0x1465, 0, 3, .u32, .rw, 2, .immediate, .num 2000, .span 100 1000000⟩,
   ⟨0x1466, 0, 3, .enum16, .rw, 2, .immediate, .num 0, .span 0 1⟩,
   ⟨0x1470, 0, 3, .enum16, .ro, 0, .immediate, .num 0, .any⟩,
   ⟨0x1500, 0, 0, .u8, .rw, 2, .immediate, .num 3, .span 1 25⟩,
   ⟨0x1501, 0, 0, .enum16, .rw, 2, .frame, .num 0, .span 0 1⟩,
   ⟨0x1502, 0, 0, .u8, .rw, 2, .immediate, .num 3, .span 1 10⟩,
   ⟨0x1503, 0, 0, .u16, .rw, 2, .immediate, .num 200, .span 10 2000⟩,
   ⟨0x1510, 0, 0, .bool, .ro, 0, .immediate, .num 0, .any⟩,
   ⟨0x1511, 0, 0, .u8, .ro, 0, .immediate, .num 0, .any⟩,
   ⟨0x1512, 0, 0, .enum16, .ro, 0, .immediate, .num 0, .any⟩,
   ⟨0x1513, 0, 0, .enum16, .ro, 0, .immediate, .num 0, .any⟩,
   ⟨0x1514, 0, 0, .enum16, .ro, 0, .immediate, .num 0xFFFF, .any⟩,
   ⟨0x1515, 0, 0, .enum16, .ro, 0, .immediate, .num 0xFFFF, .any⟩,
   ⟨0x1516, 0, 0, .enum16, .ro, 0, .immediate, .num 0, .any⟩,
   ⟨0x1517, 0, 0, .enum16, .ro, 0, .immediate, .num 0, .any⟩,
   ⟨0x1518, 0, 0, .bits32, .ro, 0, .immediate, .num 0x00000009, .any⟩,
   ⟨0x1519, 0, 0, .u32, .ro, 0, .immediate, .num 0, .any⟩,
   ⟨0x151A, 0, 0, .ptptime, .ro, 0, .immediate, .num 0, .any⟩,
   ⟨0x151B, 0, 0, .i64, .ro, 0, .immediate, .num 0, .any⟩,
   ⟨0x151C, 0, 0, .u8, .ro, 0, .immediate, .num 0, .any⟩,
   ⟨0x151D, 0, 0, .enum16, .ro, 0, .immediate, .num 0, .any⟩,
   ⟨0x151E, 0, 0, .ptptime, .ro, 0, .immediate, .num 0, .any⟩,
   ⟨0x1520, 0, 0, .bool, .rw, 2, .immediate, .num 0, .any⟩,
   ⟨0x1521, 0, 0, .u64, .ro, 0, .immediate, .num 0, .any⟩,
   ⟨0x1522, 0, 0, .u64, .ro, 0, .immediate, .num 0, .any⟩,
   ⟨0x152F, 0, 0, .bool, .wo, 1, .immediate, .num 0, .any⟩,
   ⟨0x1530, 0, 71, .u32, .rw, 2, .immediate, .num 0, .any⟩,
   ⟨0x1600, 0, 287, .enum16, .rw, 2, .immediate, .num 0, .span 0 2⟩,
   ⟨0x1601, 0, 287, .enum16, .rw, 2, .immediate, .num 1, .span 0 3⟩,
   ⟨0x1602, 0, 287, .enum16, .rw, 2, .immediate, .num 0, .span 0 3⟩,
   ⟨0x1603, 0, 287, .bool, .rw, 2, .immediate, .num 0, .any⟩,
   ⟨0x1604, 0, 287, .bool, .rw, 2, .immediate, .num 0, .any⟩,
   ⟨0x1605, 0, 287, .u8, .rw, 2, .immediate, .num 0, .span 0 12⟩]

/-- Objects 0x1606 to 0x1813. -/
def dictRows3 : List Row :=
  [⟨0x1606, 0, 287, .u8, .rw, 2, .immediate, .num 0, .span 0 24⟩,
   ⟨0x1607, 0, 287, .enum16, .rw, 2, .immediate, .num 0, .span 0 3⟩,
   ⟨0x1608, 0, 287, .enum16, .rw, 2, .immediate, .num 0, .span 0 3⟩,
   ⟨0x1610, 0, 287, .enum16, .ro, 0, .immediate, .num 0, .any⟩,
   ⟨0x1611, 0, 287, .u8, .ro, 0, .immediate, .num 0, .any⟩,
   ⟨0x1612, 0, 287, .u8, .ro, 0, .immediate, .num 0, .any⟩,
   ⟨0x1613, 0, 287, .u8, .ro, 0, .immediate, .num 63, .any⟩,
   ⟨0x1614, 0, 287, .u16, .ro, 0, .immediate, .num 0, .any⟩,
   ⟨0x1615, 0, 287, .u8, .ro, 0, .immediate, .num 0, .any⟩,
   ⟨0x1616, 0, 287, .enum16, .ro, 0, .immediate, .num 0, .any⟩,
   ⟨0x1617, 0, 287, .u64, .ro, 0, .immediate, .num 0, .any⟩,
   ⟨0x1618, 0, 287, .u64, .ro, 0, .immediate, .num 0, .any⟩,
   ⟨0x1619, 0, 287, .u64, .ro, 0, .immediate, .num 0, .any⟩,
   ⟨0x161A, 0, 287, .u64, .ro, 0, .immediate, .num 0, .any⟩,
   ⟨0x161B, 0, 287, .u64, .ro, 0, .immediate, .num 0, .any⟩,
   ⟨0x161F, 0, 287, .bool, .wo, 1, .immediate, .num 0, .any⟩,
   ⟨0x1640, 0, 35, .u8, .rw, 2, .immediate, .num 0, .span 0 3⟩,
   ⟨0x1641, 0, 35, .bits32, .ro, 0, .immediate, .num 0, .any⟩,
   ⟨0x1650, 0, 3, .enum16, .rw, 2, .immediate, .num 0, .span 0 1⟩,
   ⟨0x1651, 0, 3, .enum16, .ro, 0, .immediate, .num 0, .any⟩,
   ⟨0x1680, 0, 0, .u16, .rw, 2, .restart, .num 280, .step 0 280 8⟩,
   ⟨0x1681, 0, 0, .enum16, .rw, 2, .restart, .num 2, .span 0 2⟩,
   ⟨0x1682, 0, 0, .enum16, .rw, 2, .immediate, .num 0, .span 0 1⟩,
   ⟨0x1683, 0, 7, .bool, .wo, 2, .immediate, .num 0, .any⟩,
   ⟨0x1684, 0, 7, .u8, .wo, 2, .immediate, .num 0, .span 0 15⟩,
   ⟨0x1685, 0, 7, .bool, .rw, 2, .immediate, .num 0, .any⟩,
   ⟨0x1686, 0, 0, .bool, .wo, 2, .immediate, .num 0, .any⟩,
   ⟨0x1690, 0, 0, .enum16, .ro, 0, .immediate, .num 0, .any⟩,
   ⟨0x1691, 0, 0, .u32, .ro, 0, .immediate, .num 0, .any⟩,
   ⟨0x1692, 0, 0, .u16, .ro, 0, .immediate, .num 0, .any⟩,
   ⟨0x1693, 0, 0, .u64, .ro, 0, .immediate, .num 0, .any⟩,
   ⟨0x1694, 0, 0, .u64, .ro, 0, .immediate, .num 0, .any⟩,
   ⟨0x1695, 0, 0, .u64, .ro, 0, .immediate, .num 0, .any⟩,
   ⟨0x1696, 0, 0, .u64, .ro, 0, .immediate, .num 0, .any⟩,
   ⟨0x169F, 0, 0, .bool, .wo, 1, .immediate, .num 0, .any⟩,
   ⟨0x1700, 0, 1, .u32, .rw, 3, .restart, .num 0, .any⟩,
   ⟨0x1701, 0, 1, .u8, .rw, 3, .restart, .num 24, .span 0 32⟩,
   ⟨0x1702, 0, 1, .u32, .rw, 3, .restart, .num 0, .any⟩,
   ⟨0x1703, 0, 1, .octets, .rw, 3, .restart, .bytes [], .lens 0 16 16⟩,
   ⟨0x1704, 0, 1, .u8, .rw, 3, .restart, .num 64, .span 0 128⟩,
   ⟨0x1705, 0, 1, .u16, .rw, 3, .restart, .num 0xFFFF, .spanOr 0 4094 0xFFFF⟩,
   ⟨0x1706, 0, 1, .u16, .rw, 3, .restart, .num 7101, .span 1 65535⟩,
   ⟨0x1707, 0, 1, .enum16, .rw, 2, .immediate, .num 0, .span 0 3⟩,
   ⟨0x1708, 0, 1, .bool, .rw, 2, .immediate, .num 0, .any⟩,
   ⟨0x1709, 0, 1, .u16, .rw, 2, .immediate, .num 200, .span 1 999⟩,
   ⟨0x170A, 0, 1, .u16, .rw, 2, .immediate, .num 60, .span 1 3600⟩,
   ⟨0x1710, 0, 1, .octets, .ro, 0, .immediate, .bytes [], .any⟩,
   ⟨0x1711, 0, 1, .bits32, .ro, 0, .immediate, .num 0, .any⟩,
   ⟨0x1712, 0, 8, .u64, .ro, 0, .immediate, .num 0, .any⟩,
   ⟨0x1713, 0, 8, .u64, .ro, 0, .immediate, .num 0, .any⟩,
   ⟨0x1714, 0, 1, .u64, .ro, 0, .immediate, .num 0, .any⟩,
   ⟨0x171F, 0, 1, .bool, .wo, 1, .immediate, .num 0, .any⟩,
   ⟨0x1800, 0, 0, .enum16, .rw, 2, .restart, .num 0, .span 0 2⟩,
   ⟨0x1801, 0, 0, .u32, .rw, 2, .immediate, .num 0x40000000, .step 67108864 4292870144 2097152⟩,
   ⟨0x1802, 0, 0, .bool, .wo, 3, .immediate, .num 0, .any⟩,
   ⟨0x1803, 0, 3, .u64, .rw, 2, .take, .num 0, .any⟩,
   ⟨0x1810, 0, 3, .enum16, .ro, 0, .immediate, .num 0, .any⟩,
   ⟨0x1811, 0, 3, .bits32, .ro, 0, .immediate, .num 0, .any⟩,
   ⟨0x1812, 0, 3, .u64, .ro, 0, .immediate, .num 0, .any⟩,
   ⟨0x1813, 0, 3, .bits32, .ro, 0, .immediate, .num 0, .any⟩]

/-- Objects 0x1814 to 0x3010. -/
def dictRows4 : List Row :=
  [⟨0x1814, 0, 3, .u64, .ro, 0, .immediate, .num 0, .any⟩,
   ⟨0x1820, 0, 0, .enum16, .ro, 0, .immediate, .num 0, .any⟩,
   ⟨0x1821, 0, 0, .u32, .ro, 0, .immediate, .num 0, .any⟩,
   ⟨0x1822, 0, 1, .u32, .ro, 0, .immediate, .num 0, .any⟩,
   ⟨0x1823, 0, 1, .u64, .ro, 0, .immediate, .num 0, .any⟩,
   ⟨0x1824, 0, 1, .u64, .ro, 0, .immediate, .num 0, .any⟩,
   ⟨0x182F, 0, 0, .bool, .wo, 1, .immediate, .num 0, .any⟩,
   ⟨0x1840, 0, 63, .bool, .rw, 2, .take, .num 0, .any⟩,
   ⟨0x1841, 0, 63, .u16, .rw, 2, .take, .num 0xFFFF, .spanOr 0 2047 0xFFFF⟩,
   ⟨0x1842, 0, 63, .u16, .rw, 2, .take, .num 0xFFFF, .spanOr 0 2047 0xFFFF⟩,
   ⟨0x1843, 0, 63, .u32, .rw, 2, .take, .num 4, .span 4 16777216⟩,
   ⟨0x1844, 0, 63, .u32, .rw, 1, .frame, .num 4, .span 4 16777216⟩,
   ⟨0x1850, 0, 63, .u32, .ro, 0, .immediate, .num 0, .any⟩,
   ⟨0x1851, 0, 63, .u64, .ro, 0, .immediate, .num 0, .any⟩,
   ⟨0x1860, 0, 63, .bool, .rw, 2, .take, .num 0, .any⟩,
   ⟨0x1861, 0, 63, .u16, .rw, 2, .take, .num 0xFFFF, .any⟩,
   ⟨0x1862, 0, 63, .u16, .rw, 2, .take, .num 0xFFFF, .spanOr 0 4095 0xFFFF⟩,
   ⟨0x1863, 0, 63, .u32, .rw, 2, .take, .num 1, .span 1 16777216⟩,
   ⟨0x1864, 0, 63, .bool, .rw, 1, .take, .num 0, .any⟩,
   ⟨0x1870, 0, 63, .enum16, .ro, 0, .immediate, .num 0, .any⟩,
   ⟨0x1871, 0, 63, .u64, .ro, 0, .immediate, .num 0, .any⟩,
   ⟨0x1880, 0, 63, .bool, .rw, 2, .take, .num 0, .any⟩,
   ⟨0x1881, 0, 63, .u16, .rw, 2, .take, .num 0xFFFF, .any⟩,
   ⟨0x1882, 0, 63, .u16, .rw, 1, .take, .num 0xFFFF, .any⟩,
   ⟨0x1883, 0, 63, .u32, .rw, 1, .take, .num 0, .any⟩,
   ⟨0x1884, 0, 63, .enum16, .rw, 1, .take, .num 0, .span 0 1⟩,
   ⟨0x1885, 0, 63, .bool, .rw, 1, .take, .num 0, .any⟩,
   ⟨0x1890, 0, 63, .u32, .ro, 0, .immediate, .num 0, .any⟩,
   ⟨0x1891, 0, 63, .u64, .ro, 0, .immediate, .num 0, .any⟩,
   ⟨0x18A0, 0, 4095, .enum16, .ro, 0, .immediate, .num 0, .any⟩,
   ⟨0x18A1, 0, 4095, .enum16, .ro, 0, .immediate, .num 0, .any⟩,
   ⟨0x18A2, 0, 4095, .u32, .ro, 0, .immediate, .num 0, .any⟩,
   ⟨0x18A3, 0, 4095, .u32, .ro, 0, .immediate, .num 0, .any⟩,
   ⟨0x18A4, 0, 4095, .ptptime, .ro, 0, .immediate, .num 0, .any⟩,
   ⟨0x18A5, 0, 4095, .string, .rw, 1, .immediate, .bytes [], .any⟩,
   ⟨0x18A6, 0, 4095, .bool, .wo, 2, .immediate, .num 0, .any⟩,
   ⟨0x2000, 0, 2047, .enum16, .ro, 0, .immediate, .num 0, .any⟩,
   ⟨0x2001, 0, 2047, .enum16, .ro, 0, .immediate, .num 0, .any⟩,
   ⟨0x2002, 0, 2047, .u8, .rw, 2, .take, .num 0xFF, .spanOr 0 15 0xFF⟩,
   ⟨0x2003, 0, 2047, .enum16, .ro, 0, .immediate, .num 0, .any⟩,
   ⟨0x2004, 0, 2047, .u32, .ro, 0, .immediate, .num 0, .any⟩,
   ⟨0x2005, 0, 2047, .u64, .ro, 0, .immediate, .num 0, .any⟩,
   ⟨0x2006, 0, 2047, .u64, .ro, 0, .immediate, .num 0, .any⟩,
   ⟨0x2008, 0, 2047, .enum16, .rw, 2, .take, .num 0, .format⟩,
   ⟨0x2009, 0, 2047, .bits32, .ro, 0, .immediate, .num 0, .any⟩,
   ⟨0x200F, 0, 2047, .bool, .wo, 1, .immediate, .num 0, .any⟩,
   ⟨0x2010, 0, 0, .u32, .ro, 0, .immediate, .num 0, .any⟩,
   ⟨0x2011, 0, 0, .u32, .ro, 0, .immediate, .num 0, .any⟩,
   ⟨0x2100, 0, 15, .enum16, .rw, 1, .frame, .num 2, .span 0 7⟩,
   ⟨0x2101, 0, 15, .u32, .rw, 1, .frame, .num 0x04080200, .keep 0x3FFFFFFF⟩,
   ⟨0x2102, 0, 15, .bool, .rw, 1, .frame, .num 0, .any⟩,
   ⟨0x3000, 0, 2047, .enum16, .rw, 2, .take, .num 1, .span 0 1⟩,
   ⟨0x3001, 0, 2047, .u32, .rw, 2, .take, .num 0, .any⟩,
   ⟨0x3002, 0, 2047, .enum16, .rw, 2, .frame, .num 0, .span 0 1⟩,
   ⟨0x3003, 0, 2047, .enum16, .rw, 1, .frame, .num 0, .span 0 2⟩,
   ⟨0x3004, 0, 2047, .u8, .rw, 1, .frame, .num 0, .span 0 15⟩,
   ⟨0x3005, 0, 2047, .u8, .rw, 1, .frame, .num 0, .any⟩,
   ⟨0x3006, 0, 2047, .bool, .rw, 2, .take, .num 0, .any⟩,
   ⟨0x3008, 0, 2047, .enum16, .rw, 2, .take, .num 0, .format⟩,
   ⟨0x3010, 0, 2047, .enum16, .ro, 0, .immediate, .num 0, .any⟩]

/-- Objects 0x3011 to 0x4103. -/
def dictRows5 : List Row :=
  [⟨0x3011, 0, 2047, .enum16, .ro, 0, .immediate, .num 1, .any⟩,
   ⟨0x3012, 0, 2047, .i32, .ro, 0, .immediate, .num 0, .any⟩,
   ⟨0x3013, 0, 2047, .enum16, .ro, 0, .immediate, .num 0, .any⟩,
   ⟨0x3014, 0, 2047, .u64, .ro, 0, .immediate, .num 0, .any⟩,
   ⟨0x3015, 0, 2047, .u64, .ro, 0, .immediate, .num 0, .any⟩,
   ⟨0x3016, 0, 2047, .u64, .ro, 0, .immediate, .num 0, .any⟩,
   ⟨0x3017, 0, 2047, .u64, .ro, 0, .immediate, .num 0, .any⟩,
   ⟨0x3018, 0, 2047, .u64, .ro, 0, .immediate, .num 0, .any⟩,
   ⟨0x301F, 0, 2047, .bool, .wo, 1, .immediate, .num 0, .any⟩,
   ⟨0x3040, 0, 2047, .u64, .ro, 0, .immediate, .num 0, .any⟩,
   ⟨0x3041, 0, 2047, .u64, .ro, 0, .immediate, .num 0xFFFFFFFFFFFFFFFF, .any⟩,
   ⟨0x3042, 0, 2047, .u64, .ro, 0, .immediate, .num 0, .any⟩,
   ⟨0x3043, 0, 2047, .enum16, .ro, 0, .immediate, .num 0, .any⟩,
   ⟨0x3044, 0, 2047, .octets, .ro, 0, .immediate, .bytes [], .any⟩,
   ⟨0x3045, 0, 2047, .bool, .wo, 1, .immediate, .num 0, .any⟩,
   ⟨0x3800, 0, 2047, .route, .rw, 1, .take, .num 0x00000800, .route⟩,
   ⟨0x3801, 0, 2047, .route, .ro, 0, .immediate, .num 0x00000800, .any⟩,
   ⟨0x3802, 0, 2047, .ptptime, .ro, 0, .immediate, .num 0, .any⟩,
   ⟨0x3803, 0, 2047, .u8, .ro, 0, .immediate, .num 0xFF, .any⟩,
   ⟨0x3810, 0, 15, .enum16, .ro, 0, .immediate, .num 0, .any⟩,
   ⟨0x3811, 0, 15, .u16, .ro, 0, .immediate, .num 0xFFFF, .any⟩,
   ⟨0x3812, 0, 15, .u16, .ro, 0, .immediate, .num 0, .any⟩,
   ⟨0x3813, 0, 15, .u16, .ro, 0, .immediate, .num 0, .any⟩,
   ⟨0x3814, 0, 15, .bits32, .ro, 0, .immediate, .num 0, .any⟩,
   ⟨0x3815, 0, 15, .ptptime, .ro, 0, .immediate, .num 0, .any⟩,
   ⟨0x3816, 0, 15, .ptptime, .ro, 0, .immediate, .num 0, .any⟩,
   ⟨0x3817, 0, 15, .enum16, .ro, 0, .immediate, .num 0, .any⟩,
   ⟨0x3820, 0, 0, .u64, .ro, 0, .immediate, .num 0, .any⟩,
   ⟨0x3821, 0, 0, .u64, .ro, 0, .immediate, .num 0, .any⟩,
   ⟨0x3822, 0, 0, .u64, .ro, 0, .immediate, .num 0, .any⟩,
   ⟨0x3823, 0, 0, .u64, .ro, 0, .immediate, .num 0, .any⟩,
   ⟨0x382F, 0, 0, .bool, .wo, 1, .immediate, .num 0, .any⟩,
   ⟨0x3830, 0, 0, .ptptime, .ro, 0, .immediate, .num 0, .any⟩,
   ⟨0x3831, 0, 0, .ptptime, .ro, 0, .immediate, .num 0, .any⟩,
   ⟨0x3880, 0, 1, .u64, .ro, 0, .immediate, .num 0, .any⟩,
   ⟨0x3881, 0, 1, .u64, .ro, 0, .immediate, .num 0, .any⟩,
   ⟨0x3882, 0, 1, .u64, .ro, 0, .immediate, .num 0, .any⟩,
   ⟨0x3883, 0, 127, .u64, .ro, 0, .immediate, .num 0, .any⟩,
   ⟨0x3884, 0, 127, .u64, .ro, 0, .immediate, .num 0, .any⟩,
   ⟨0x4000, 0, 31, .u16, .rw, 2, .take, .num 0xFFFF, .spanOr 0 2047 0xFFFF⟩,
   ⟨0x4001, 0, 31, .u32, .rw, 2, .take, .num 0, .any⟩,
   ⟨0x4002, 0, 31, .enum16, .rw, 2, .take, .num 0, .span 0 1⟩,
   ⟨0x4003, 0, 31, .u32, .rw, 2, .take, .num 0x76543210, .any⟩,
   ⟨0x4004, 0, 31, .u8, .rw, 2, .take, .num 0, .span 0 3⟩,
   ⟨0x4005, 0, 31, .u32, .rw, 1, .frame, .num 0x04080200, .keep 0x3FFFFFFF⟩,
   ⟨0x4006, 0, 31, .octets, .rw, 2, .frame, .bytes [], .coef 1024⟩,
   ⟨0x4007, 0, 31, .octets, .rw, 2, .frame, .bytes [], .coef 768⟩,
   ⟨0x4008, 0, 31, .octets, .rw, 2, .frame, .bytes [], .coef 1024⟩,
   ⟨0x4009, 0, 31, .octets, .rw, 2, .frame, .bytes [], .coef 768⟩,
   ⟨0x4010, 0, 31, .enum16, .ro, 0, .immediate, .num 0, .any⟩,
   ⟨0x4011, 0, 31, .enum16, .ro, 0, .immediate, .num 0, .any⟩,
   ⟨0x4012, 0, 31, .enum16, .ro, 0, .immediate, .num 0, .any⟩,
   ⟨0x4013, 0, 31, .u64, .ro, 0, .immediate, .num 0, .any⟩,
   ⟨0x4014, 0, 31, .u64, .ro, 0, .immediate, .num 0, .any⟩,
   ⟨0x4015, 0, 31, .u64, .ro, 0, .immediate, .num 0, .any⟩,
   ⟨0x401F, 0, 31, .bool, .wo, 1, .immediate, .num 0, .any⟩,
   ⟨0x4100, 0, 255, .bool, .rw, 2, .take, .num 0, .any⟩,
   ⟨0x4101, 0, 255, .u16, .rw, 2, .take, .num 0xFFFF, .spanOr 0 2047 0xFFFF⟩,
   ⟨0x4102, 0, 255, .u32, .rw, 2, .take, .num 0, .any⟩,
   ⟨0x4103, 0, 255, .u32, .rw, 2, .take, .num 0, .any⟩]

/-- Objects 0x4104 to 0x5113. -/
def dictRows6 : List Row :=
  [⟨0x4104, 0, 255, .u32, .rw, 1, .frame, .num 0, .any⟩,
   ⟨0x4105, 0, 255, .u32, .rw, 2, .take, .num 0, .any⟩,
   ⟨0x4106, 0, 255, .enum16, .rw, 1, .frame, .num 0, .span 0 3⟩,
   ⟨0x4107, 0, 255, .enum16, .rw, 2, .take, .num 0, .span 0 1⟩,
   ⟨0x4108, 0, 255, .u16, .rw, 1, .frame, .num 1024, .span 0 1024⟩,
   ⟨0x4109, 0, 255, .enum16, .rw, 1, .frame, .num 1, .span 0 1⟩,
   ⟨0x410A, 0, 255, .u8, .rw, 1, .frame, .num 3, .any⟩,
   ⟨0x410B, 0, 255, .bool, .rw, 2, .take, .num 0, .any⟩,
   ⟨0x410C, 0, 255, .u32, .wo, 1, .immediate, .num 0, .step 0 0xFFFFFFFF 64⟩,
   ⟨0x410D, 0, 255, .octets, .wo, 1, .immediate, .bytes [], .any⟩,
   ⟨0x410E, 0, 255, .bool, .wo, 1, .frame, .num 0, .any⟩,
   ⟨0x4110, 0, 255, .enum16, .ro, 0, .immediate, .num 0, .any⟩,
   ⟨0x4111, 0, 255, .u8, .ro, 0, .immediate, .num 6, .any⟩,
   ⟨0x4112, 0, 255, .u32, .ro, 0, .immediate, .num 65536, .any⟩,
   ⟨0x4113, 0, 255, .u32, .ro, 0, .immediate, .num 65536, .any⟩,
   ⟨0x4114, 0, 255, .bool, .ro, 0, .immediate, .num 0, .any⟩,
   ⟨0x4115, 0, 255, .u64, .ro, 0, .immediate, .num 0, .any⟩,
   ⟨0x411F, 0, 255, .bool, .wo, 1, .immediate, .num 0, .any⟩,
   ⟨0x4800, 0, 0, .u16, .rw, 2, .frame, .num 100, .span 48 400⟩,
   ⟨0x4801, 0, 0, .u16, .rw, 2, .frame, .num 1000, .span 400 4000⟩,
   ⟨0x4810, 0, 2047, .enum16, .rw, 2, .take, .num 0, .span 0 3⟩,
   ⟨0x4811, 0, 2047, .enum16, .ro, 0, .immediate, .num 0xFFFF, .any⟩,
   ⟨0x4820, 0, 2047, .enum16, .rw, 2, .take, .num 0xFFFF, .spanOr 0 3 0xFFFF⟩,
   ⟨0x4821, 0, 2047, .enum16, .ro, 0, .immediate, .num 0, .any⟩,
   ⟨0x4830, 0, 31, .enum16, .rw, 2, .take, .num 0xFFFF, .spanOr 0 3 0xFFFF⟩,
   ⟨0x4831, 0, 31, .enum16, .rw, 2, .take, .num 0, .span 0 3⟩,
   ⟨0x4840, 0, 255, .enum16, .rw, 1, .frame, .num 0, .span 0 3⟩,
   ⟨0x4850, 0, 287, .enum16, .rw, 1, .frame, .num 0, .span 0 1⟩,
   ⟨0x4851, 0, 287, .u16, .rw, 1, .frame, .num 1000, .span 100 10000⟩,
   ⟨0x4852, 0, 287, .u16, .rw, 1, .frame, .num 203, .span 50 1000⟩,
   ⟨0x4853, 0, 287, .bool, .rw, 1, .frame, .num 0, .any⟩,
   ⟨0x4854, 0, 287, .bool, .rw, 1, .frame, .num 0, .any⟩,
   ⟨0x4855, 0, 287, .octets, .wo, 1, .immediate, .bytes [], .lens 6150 6150 1⟩,
   ⟨0x4856, 0, 287, .u32, .wo, 1, .immediate, .num 0, .any⟩,
   ⟨0x4857, 0, 287, .octets, .wo, 1, .immediate, .bytes [], .any⟩,
   ⟨0x4858, 0, 287, .bool, .wo, 1, .frame, .num 0, .any⟩,
   ⟨0x4860, 0, 287, .bits32, .ro, 0, .immediate, .num 0x00000001, .any⟩,
   ⟨0x4861, 0, 287, .enum16, .ro, 0, .immediate, .num 0, .any⟩,
   ⟨0x4862, 0, 287, .enum16, .ro, 0, .immediate, .num 0, .any⟩,
   ⟨0x5000, 0, 32767, .i16, .rw, 1, .immediate, .num 0, .gain⟩,
   ⟨0x5001, 0, 32767, .bool, .rw, 1, .immediate, .num 0, .any⟩,
   ⟨0x5002, 0, 32767, .u16, .rw, 1, .immediate, .num 0, .span 0 9600⟩,
   ⟨0x5003, 0, 32767, .octets, .rw, 1, .immediate, .bytes [], .eq 4⟩,
   ⟨0x5010, 0, 32767, .enum16, .ro, 0, .immediate, .num 0, .any⟩,
   ⟨0x5011, 0, 32767, .enum16, .ro, 0, .immediate, .num 0, .any⟩,
   ⟨0x5012, 0, 32767, .enum16, .ro, 0, .immediate, .num 0, .any⟩,
   ⟨0x5013, 0, 32767, .i32, .ro, 0, .immediate, .num 0, .any⟩,
   ⟨0x5014, 0, 32767, .bool, .ro, 0, .immediate, .num 0, .any⟩,
   ⟨0x5015, 0, 32767, .i16, .ro, 0, .immediate, .num (-12800), .any⟩,
   ⟨0x5016, 0, 32767, .i16, .ro, 0, .immediate, .num (-12800), .any⟩,
   ⟨0x501F, 0, 32767, .bool, .wo, 1, .immediate, .num 0, .any⟩,
   ⟨0x5100, 0, 2047, .octets, .rw, 1, .take, .bytes [], .busSrc⟩,
   ⟨0x5101, 0, 2047, .octets, .rw, 1, .immediate, .bytes [], .gains 128⟩,
   ⟨0x5102, 0, 2047, .i16, .rw, 1, .immediate, .num 0, .gain⟩,
   ⟨0x5103, 0, 2047, .octets, .rw, 1, .immediate, .bytes [], .eq 8⟩,
   ⟨0x5104, 0, 2047, .u8, .rw, 2, .take, .num 0, .span 0 127⟩,
   ⟨0x5110, 0, 2047, .i16, .ro, 0, .immediate, .num (-12800), .any⟩,
   ⟨0x5111, 0, 2047, .i16, .ro, 0, .immediate, .num (-12800), .any⟩,
   ⟨0x5112, 0, 2047, .i16, .ro, 0, .immediate, .num (-12800), .any⟩,
   ⟨0x5113, 0, 2047, .u64, .ro, 0, .immediate, .num 0, .any⟩]

/-- Objects 0x511F to 0x601B. -/
def dictRows7 : List Row :=
  [⟨0x511F, 0, 2047, .bool, .wo, 1, .immediate, .num 0, .any⟩,
   ⟨0x5200, 0, 32767, .u32, .rw, 1, .take, .num 0x00000000, .audioRef⟩,
   ⟨0x5201, 0, 32767, .enum16, .rw, 2, .take, .num 0, .span 0 1⟩,
   ⟨0x5202, 0, 32767, .u16, .rw, 1, .frame, .num 480, .span 0 9600⟩,
   ⟨0x5203, 0, 32767, .enum16, .rw, 1, .frame, .num 0, .span 0 1⟩,
   ⟨0x5204, 0, 32767, .u16, .rw, 2, .take, .num 0xFFFF, .spanOr 0 2047 0xFFFF⟩,
   ⟨0x5205, 0, 32767, .i32, .rw, 1, .frame, .num 0, .span (-100000000) 100000000⟩,
   ⟨0x5206, 0, 32767, .u16, .rw, 2, .take, .num 200, .span 1 2000⟩,
   ⟨0x5207, 0, 32767, .bool, .rw, 2, .frame, .num 1, .any⟩,
   ⟨0x5210, 0, 32767, .enum16, .ro, 0, .immediate, .num 0, .any⟩,
   ⟨0x5211, 0, 32767, .enum16, .ro, 0, .immediate, .num 0, .any⟩,
   ⟨0x5212, 0, 32767, .u32, .ro, 0, .immediate, .num 0, .any⟩,
   ⟨0x5213, 0, 32767, .u64, .ro, 0, .immediate, .num 0, .any⟩,
   ⟨0x5214, 0, 32767, .i32, .ro, 0, .immediate, .num 0, .any⟩,
   ⟨0x5215, 0, 32767, .enum16, .ro, 0, .immediate, .num 0, .any⟩,
   ⟨0x5216, 0, 32767, .i16, .ro, 0, .immediate, .num (-12800), .any⟩,
   ⟨0x5217, 0, 32767, .i16, .ro, 0, .immediate, .num (-12800), .any⟩,
   ⟨0x5218, 0, 32767, .i16, .ro, 0, .immediate, .num (-12800), .any⟩,
   ⟨0x5219, 0, 32767, .u64, .ro, 0, .immediate, .num 0, .any⟩,
   ⟨0x521A, 0, 32767, .u64, .ro, 0, .immediate, .num 0, .any⟩,
   ⟨0x521F, 0, 32767, .bool, .wo, 1, .immediate, .num 0, .any⟩,
   ⟨0x5300, 0, 0, .u16, .rw, 1, .frame, .num 2000, .span 0 60000⟩,
   ⟨0x5301, 0, 0, .u64, .ro, 0, .immediate, .num 0, .any⟩,
   ⟨0x5302, 0, 0, .u64, .ro, 0, .immediate, .num 0, .any⟩,
   ⟨0x5400, 0, 255, .octets, .rw, 1, .frame, .bytes [], .loud⟩,
   ⟨0x5401, 0, 255, .i16, .rw, 1, .frame, .num 0x7FFF, .any⟩,
   ⟨0x5410, 0, 255, .i16, .ro, 0, .immediate, .num (-12800), .any⟩,
   ⟨0x5411, 0, 255, .i16, .ro, 0, .immediate, .num (-12800), .any⟩,
   ⟨0x541F, 0, 255, .bool, .wo, 1, .immediate, .num 0, .any⟩,
   ⟨0x5800, 0, 7, .u16, .rw, 2, .take, .num 0xFFFF, .any⟩,
   ⟨0x5801, 0, 7, .u8, .rw, 2, .take, .num 0, .span 0 32⟩,
   ⟨0x5802, 0, 7, .u16, .rw, 2, .take, .num 0xFFFF, .any⟩,
   ⟨0x5803, 0, 7, .u8, .rw, 2, .take, .num 0, .span 0 32⟩,
   ⟨0x5804, 0, 7, .u32, .rw, 2, .immediate, .num 0x00000290, .any⟩,
   ⟨0x5805, 0, 7, .bits32, .rw, 1, .immediate, .num 0x00000003, .any⟩,
   ⟨0x5806, 0, 7, .bits32, .rw, 1, .immediate, .num 0x00000003, .any⟩,
   ⟨0x5810, 0, 7, .bits32, .ro, 0, .immediate, .num 0x00000070, .any⟩,
   ⟨0x5811, 0, 7, .u32, .ro, 0, .immediate, .num 0, .any⟩,
   ⟨0x5812, 0, 7, .u64, .ro, 0, .immediate, .num 0, .any⟩,
   ⟨0x6000, 0, 287, .u16, .rw, 2, .take, .num 0xFFFF, .spanOr 0 2047 0xFFFF⟩,
   ⟨0x6001, 0, 287, .bits32, .rw, 2, .immediate, .num 0x000001FF, .mask 0x1FF⟩,
   ⟨0x6002, 0, 287, .bool, .rw, 2, .take, .num 0, .any⟩,
   ⟨0x6003, 0, 287, .enum16, .rw, 2, .immediate, .num 0, .span 0 2⟩,
   ⟨0x6004, 0, 287, .enum16, .rw, 2, .immediate, .num 0, .span 0 2⟩,
   ⟨0x6005, 0, 287, .enum16, .rw, 2, .immediate, .num 0, .span 0 1⟩,
   ⟨0x6006, 0, 287, .u16, .rw, 2, .take, .num 0xFFFF, .spanOr 0 32767 0xFFFF⟩,
   ⟨0x6007, 0, 287, .bits32, .rw, 2, .take, .num 0x0000000F, .any⟩,
   ⟨0x6008, 0, 287, .octets, .rw, 2, .frame, .bytes [], .lens 0 16 2⟩,
   ⟨0x6010, 0, 287, .enum16, .ro, 0, .immediate, .num 0, .any⟩,
   ⟨0x6011, 0, 287, .enum16, .ro, 0, .immediate, .num 0xFFFF, .any⟩,
   ⟨0x6012, 0, 287, .enum16, .ro, 0, .immediate, .num 0, .any⟩,
   ⟨0x6013, 0, 287, .u32, .ro, 0, .immediate, .num 0, .any⟩,
   ⟨0x6014, 0, 287, .bits32, .ro, 0, .immediate, .num 0, .any⟩,
   ⟨0x6015, 0, 287, .u32, .ro, 0, .immediate, .num 0, .any⟩,
   ⟨0x6016, 0, 287, .u64, .ro, 0, .immediate, .num 0, .any⟩,
   ⟨0x6017, 0, 287, .bits32, .ro, 0, .immediate, .num 0, .any⟩,
   ⟨0x6018, 0, 287, .u64, .ro, 0, .immediate, .num 0, .any⟩,
   ⟨0x6019, 0, 287, .u64, .ro, 0, .immediate, .num 0, .any⟩,
   ⟨0x601A, 0, 287, .bits32, .ro, 0, .immediate, .num 0, .any⟩,
   ⟨0x601B, 0, 287, .u64, .ro, 0, .immediate, .num 0, .any⟩]

/-- Objects 0x601C to 0x6843. -/
def dictRows8 : List Row :=
  [⟨0x601C, 0, 287, .u64, .ro, 0, .immediate, .num 0, .any⟩,
   ⟨0x601D, 0, 287, .u64, .ro, 0, .immediate, .num 0, .any⟩,
   ⟨0x601E, 0, 287, .u64, .ro, 0, .immediate, .num 0, .any⟩,
   ⟨0x601F, 0, 287, .bool, .wo, 1, .immediate, .num 0, .any⟩,
   ⟨0x6040, 0, 287, .u16, .rw, 2, .take, .num 0xFFFF, .spanOr 0 2047 0xFFFF⟩,
   ⟨0x6041, 0, 287, .enum16, .rw, 2, .take, .num 0, .span 0 8⟩,
   ⟨0x6042, 0, 287, .enum16, .rw, 2, .take, .num 2, .span 1 2⟩,
   ⟨0x6043, 0, 287, .u16, .rw, 2, .take, .num 0xFFFF, .spanOr 0 32767 0xFFFF⟩,
   ⟨0x6044, 0, 287, .bits32, .rw, 2, .take, .num 0x0000000F, .any⟩,
   ⟨0x6045, 0, 287, .bool, .rw, 2, .frame, .num 1, .any⟩,
   ⟨0x6046, 0, 287, .enum16, .rw, 2, .frame, .num 0, .span 0 1⟩,
   ⟨0x6050, 0, 287, .enum16, .ro, 0, .immediate, .num 0, .any⟩,
   ⟨0x6051, 0, 287, .enum16, .ro, 0, .immediate, .num 0xFFFF, .any⟩,
   ⟨0x6052, 0, 287, .enum16, .ro, 0, .immediate, .num 0, .any⟩,
   ⟨0x6053, 0, 287, .u32, .ro, 0, .immediate, .num 0, .any⟩,
   ⟨0x6054, 0, 287, .enum16, .ro, 0, .immediate, .num 0, .any⟩,
   ⟨0x6055, 0, 287, .u64, .ro, 0, .immediate, .num 0, .any⟩,
   ⟨0x6056, 0, 287, .bool, .wo, 1, .immediate, .num 0, .any⟩,
   ⟨0x6800, 0, 71, .enum16, .rw, 2, .take, .num 0, .span 0 7⟩,
   ⟨0x6801, 0, 71, .u16, .rw, 2, .take, .num 0xFFFF, .spanOr 0 287 0xFFFF⟩,
   ⟨0x6802, 0, 71, .u16, .rw, 2, .take, .num 0xFFFF, .spanOr 0 4094 0xFFFF⟩,
   ⟨0x6803, 0, 71, .octets, .rw, 2, .take, .bytes [], .lens 6 6 1⟩,
   ⟨0x6804, 0, 71, .u32, .rw, 2, .take, .num 0, .any⟩,
   ⟨0x6805, 0, 71, .u8, .rw, 2, .take, .num 24, .span 0 32⟩,
   ⟨0x6806, 0, 71, .octets, .rw, 2, .take, .bytes [], .lens 0 16 16⟩,
   ⟨0x6807, 0, 71, .u8, .rw, 2, .take, .num 64, .span 0 128⟩,
   ⟨0x6808, 0, 71, .u8, .rw, 2, .frame, .num 2, .span 1 7⟩,
   ⟨0x6809, 0, 71, .u16, .rw, 2, .frame, .num 1000, .span 100 10000⟩,
   ⟨0x6810, 0, 71, .enum16, .ro, 0, .immediate, .num 0, .any⟩,
   ⟨0x6811, 0, 71, .u64, .ro, 0, .immediate, .num 0, .any⟩,
   ⟨0x6812, 0, 71, .u64, .ro, 0, .immediate, .num 0, .any⟩,
   ⟨0x6813, 0, 71, .u64, .ro, 0, .immediate, .num 0, .any⟩,
   ⟨0x6814, 0, 71, .u64, .ro, 0, .immediate, .num 0, .any⟩,
   ⟨0x6815, 0, 71, .u64, .ro, 0, .immediate, .num 0, .any⟩,
   ⟨0x6816, 0, 71, .u64, .ro, 0, .immediate, .num 0, .any⟩,
   ⟨0x6817, 0, 71, .bits32, .ro, 0, .immediate, .num 0, .any⟩,
   ⟨0x681F, 0, 71, .bool, .wo, 1, .immediate, .num 0, .any⟩,
   ⟨0x6820, 0, 71, .enum16, .rw, 2, .take, .num 0, .span 0 7⟩,
   ⟨0x6821, 0, 71, .u16, .rw, 2, .take, .num 0xFFFF, .spanOr 0 287 0xFFFF⟩,
   ⟨0x6822, 0, 71, .u16, .rw, 2, .take, .num 0xFFFF, .spanOr 0 4094 0xFFFF⟩,
   ⟨0x6823, 0, 71, .octets, .rw, 2, .take, .bytes [], .lens 6 6 1⟩,
   ⟨0x6824, 0, 71, .u32, .rw, 2, .take, .num 0, .any⟩,
   ⟨0x6825, 0, 71, .u8, .rw, 2, .take, .num 24, .span 0 32⟩,
   ⟨0x6826, 0, 71, .octets, .rw, 2, .take, .bytes [], .lens 0 16 16⟩,
   ⟨0x6827, 0, 71, .u8, .rw, 2, .take, .num 64, .span 0 128⟩,
   ⟨0x6828, 0, 71, .u8, .rw, 2, .frame, .num 2, .span 1 7⟩,
   ⟨0x6829, 0, 71, .u16, .rw, 2, .frame, .num 1000, .span 100 10000⟩,
   ⟨0x6830, 0, 71, .enum16, .ro, 0, .immediate, .num 0, .any⟩,
   ⟨0x6831, 0, 71, .u64, .ro, 0, .immediate, .num 0, .any⟩,
   ⟨0x6832, 0, 71, .u64, .ro, 0, .immediate, .num 0, .any⟩,
   ⟨0x6833, 0, 71, .u64, .ro, 0, .immediate, .num 0, .any⟩,
   ⟨0x6834, 0, 71, .u64, .ro, 0, .immediate, .num 0, .any⟩,
   ⟨0x6835, 0, 71, .u64, .ro, 0, .immediate, .num 0, .any⟩,
   ⟨0x6836, 0, 71, .u64, .ro, 0, .immediate, .num 0, .any⟩,
   ⟨0x6837, 0, 71, .bits32, .ro, 0, .immediate, .num 0, .any⟩,
   ⟨0x683F, 0, 71, .bool, .wo, 1, .immediate, .num 0, .any⟩,
   ⟨0x6840, 0, 71, .u64, .ro, 0, .immediate, .num 0, .any⟩,
   ⟨0x6841, 0, 71, .u64, .ro, 0, .immediate, .num 0, .any⟩,
   ⟨0x6842, 0, 71, .octets, .ro, 0, .immediate, .bytes [], .any⟩,
   ⟨0x6843, 0, 71, .u64, .ro, 0, .immediate, .num 0, .any⟩]

/-- Objects 0x6844 to 0x6A45. -/
def dictRows9 : List Row :=
  [⟨0x6844, 0, 71, .u64, .ro, 0, .immediate, .num 0, .any⟩,
   ⟨0x684F, 0, 71, .bool, .wo, 1, .immediate, .num 0, .any⟩,
   ⟨0x6850, 0, 71, .u64, .ro, 0, .immediate, .num 0, .any⟩,
   ⟨0x6851, 0, 71, .u64, .ro, 0, .immediate, .num 0, .any⟩,
   ⟨0x6852, 0, 71, .octets, .ro, 0, .immediate, .bytes [], .any⟩,
   ⟨0x6853, 0, 71, .u64, .ro, 0, .immediate, .num 0, .any⟩,
   ⟨0x6854, 0, 71, .u64, .ro, 0, .immediate, .num 0, .any⟩,
   ⟨0x685F, 0, 71, .bool, .wo, 1, .immediate, .num 0, .any⟩,
   ⟨0x6860, 0, 0, .u8, .rw, 2, .restart, .num 36, .span 0 72⟩,
   ⟨0x6861, 0, 0, .octets, .rw, 3, .restart, .bytes [], .macBase⟩,
   ⟨0x6A00, 0, 8191, .bool, .rw, 2, .take, .num 0, .any⟩,
   ⟨0x6A01, 0, 8191, .u16, .rw, 2, .take, .num 0xFFFF, .any⟩,
   ⟨0x6A02, 0, 8191, .octets, .rw, 2, .take, .bytes [], .addr⟩,
   ⟨0x6A03, 0, 8191, .octets, .rw, 2, .take, .bytes [], .addr⟩,
   ⟨0x6A04, 0, 8191, .u16, .rw, 2, .take, .num 0, .any⟩,
   ⟨0x6A05, 0, 8191, .enum16, .rw, 2, .take, .num 0, .span 0 6⟩,
   ⟨0x6A06, 0, 8191, .u8, .rw, 2, .take, .num 96, .span 96 127⟩,
   ⟨0x6A07, 0, 8191, .u16, .rw, 2, .take, .num 0xFFFF, .any⟩,
   ⟨0x6A08, 0, 8191, .u16, .rw, 2, .take, .num 0xFFFF, .spanOr 0 8191 0xFFFF⟩,
   ⟨0x6A09, 0, 8191, .enum16, .rw, 2, .take, .num 0, .format⟩,
   ⟨0x6A0A, 0, 8191, .enum16, .rw, 2, .take, .num 0, .span 0 2⟩,
   ⟨0x6A0B, 0, 8191, .u8, .rw, 2, .take, .num 2, .any⟩,
   ⟨0x6A0C, 0, 8191, .enum16, .rw, 2, .take, .num 0, .span 0 1⟩,
   ⟨0x6A0D, 0, 8191, .enum16, .rw, 2, .take, .num 1, .span 0 1⟩,
   ⟨0x6A0E, 0, 8191, .enum16, .rw, 2, .take, .num 3, .span 0 4⟩,
   ⟨0x6A0F, 0, 8191, .u16, .rw, 2, .take, .num 1200, .any⟩,
   ⟨0x6A10, 0, 8191, .u64, .rw, 2, .take, .num 0, .any⟩,
   ⟨0x6A11, 0, 8191, .enum16, .rw, 2, .take, .num 2, .span 0 2⟩,
   ⟨0x6A12, 0, 8191, .u32, .rw, 2, .take, .num 0, .spanOr 16000 10000000 0⟩,
   ⟨0x6A13, 0, 8191, .u32, .rw, 2, .take, .num 0, .any⟩,
   ⟨0x6A14, 0, 8191, .u8, .rw, 2, .take, .num 5, .span 0 100⟩,
   ⟨0x6A15, 0, 8191, .u16, .rw, 2, .take, .num 0xFFFF, .any⟩,
   ⟨0x6A16, 0, 8191, .bits32, .rw, 2, .take, .num 0x0000000F, .any⟩,
   ⟨0x6A17, 0, 8191, .octets, .rw, 2, .frame, .bytes [], .lens 0 16 2⟩,
   ⟨0x6A20, 0, 8191, .enum16, .ro, 0, .immediate, .num 0, .any⟩,
   ⟨0x6A21, 0, 8191, .u64, .ro, 0, .immediate, .num 0, .any⟩,
   ⟨0x6A22, 0, 8191, .u64, .ro, 0, .immediate, .num 0, .any⟩,
   ⟨0x6A23, 0, 8191, .u64, .ro, 0, .immediate, .num 0, .any⟩,
   ⟨0x6A24, 0, 8191, .u64, .ro, 0, .immediate, .num 0, .any⟩,
   ⟨0x6A25, 0, 8191, .u64, .ro, 0, .immediate, .num 0, .any⟩,
   ⟨0x6A26, 0, 8191, .u64, .ro, 0, .immediate, .num 0, .any⟩,
   ⟨0x6A27, 0, 8191, .u64, .ro, 0, .immediate, .num 0, .any⟩,
   ⟨0x6A28, 0, 8191, .u64, .ro, 0, .immediate, .num 0, .any⟩,
   ⟨0x6A29, 0, 8191, .u64, .ro, 0, .immediate, .num 0, .any⟩,
   ⟨0x6A2A, 0, 8191, .u64, .ro, 0, .immediate, .num 0, .any⟩,
   ⟨0x6A2B, 0, 8191, .u64, .ro, 0, .immediate, .num 0, .any⟩,
   ⟨0x6A2C, 0, 8191, .u64, .ro, 0, .immediate, .num 0, .any⟩,
   ⟨0x6A2D, 0, 8191, .u64, .ro, 0, .immediate, .num 0, .any⟩,
   ⟨0x6A2E, 0, 8191, .u64, .ro, 0, .immediate, .num 0, .any⟩,
   ⟨0x6A2F, 0, 8191, .i64, .ro, 0, .immediate, .num 0, .any⟩,
   ⟨0x6A30, 0, 8191, .i64, .ro, 0, .immediate, .num 0, .any⟩,
   ⟨0x6A31, 0, 8191, .u32, .ro, 0, .immediate, .num 0, .any⟩,
   ⟨0x6A32, 0, 8191, .octets, .ro, 0, .immediate, .bytes [], .any⟩,
   ⟨0x6A3F, 0, 8191, .bool, .wo, 1, .immediate, .num 0, .any⟩,
   ⟨0x6A40, 0, 8191, .enum16, .ro, 0, .immediate, .num 0, .any⟩,
   ⟨0x6A41, 0, 8191, .u32, .ro, 0, .immediate, .num 0, .any⟩,
   ⟨0x6A42, 0, 8191, .bits32, .ro, 0, .immediate, .num 0, .any⟩,
   ⟨0x6A43, 0, 8191, .u64, .ro, 0, .immediate, .num 0, .any⟩,
   ⟨0x6A44, 0, 8191, .bits32, .ro, 0, .immediate, .num 0, .any⟩,
   ⟨0x6A45, 0, 8191, .u64, .ro, 0, .immediate, .num 0, .any⟩]

/-- Objects 0x6A46 to 0x7031. -/
def dictRows10 : List Row :=
  [⟨0x6A46, 0, 8191, .u64, .ro, 0, .immediate, .num 0, .any⟩,
   ⟨0x6A47, 0, 8191, .bits32, .ro, 0, .immediate, .num 0, .any⟩,
   ⟨0x6A48, 0, 8191, .u64, .ro, 0, .immediate, .num 0, .any⟩,
   ⟨0x6A49, 0, 8191, .u64, .ro, 0, .immediate, .num 0, .any⟩,
   ⟨0x6A4A, 0, 8191, .u64, .ro, 0, .immediate, .num 0, .any⟩,
   ⟨0x6A4B, 0, 8191, .u64, .ro, 0, .immediate, .num 0, .any⟩,
   ⟨0x6A4F, 0, 8191, .bool, .wo, 1, .immediate, .num 0, .any⟩,
   ⟨0x6C00, 0, 8191, .bool, .rw, 2, .take, .num 0, .any⟩,
   ⟨0x6C01, 0, 8191, .u16, .rw, 2, .take, .num 0xFFFF, .any⟩,
   ⟨0x6C02, 0, 8191, .octets, .rw, 2, .take, .bytes [], .addr⟩,
   ⟨0x6C03, 0, 8191, .u16, .rw, 2, .take, .num 0, .any⟩,
   ⟨0x6C04, 0, 8191, .u16, .rw, 2, .take, .num 0, .any⟩,
   ⟨0x6C05, 0, 8191, .enum16, .rw, 2, .take, .num 0, .span 0 6⟩,
   ⟨0x6C06, 0, 8191, .u8, .rw, 2, .take, .num 96, .span 96 127⟩,
   ⟨0x6C07, 0, 8191, .u16, .rw, 2, .take, .num 0xFFFF, .any⟩,
   ⟨0x6C08, 0, 8191, .u16, .rw, 2, .take, .num 0xFFFF, .spanOr 0 8191 0xFFFF⟩,
   ⟨0x6C09, 0, 8191, .enum16, .rw, 2, .take, .num 0, .span 0 1⟩,
   ⟨0x6C0A, 0, 8191, .u32, .rw, 2, .take, .num 0, .any⟩,
   ⟨0x6C0B, 0, 8191, .u16, .rw, 2, .take, .num 1200, .any⟩,
   ⟨0x6C0C, 0, 8191, .enum16, .rw, 2, .take, .num 0, .span 0 2⟩,
   ⟨0x6C0D, 0, 8191, .u8, .rw, 2, .take, .num 2, .any⟩,
   ⟨0x6C0E, 0, 8191, .enum16, .rw, 2, .take, .num 0, .span 0 1⟩,
   ⟨0x6C0F, 0, 8191, .enum16, .rw, 2, .take, .num 1, .span 0 1⟩,
   ⟨0x6C10, 0, 8191, .enum16, .rw, 2, .take, .num 3, .span 0 4⟩,
   ⟨0x6C11, 0, 8191, .u32, .rw, 2, .take, .num 0, .any⟩,
   ⟨0x6C12, 0, 8191, .u8, .rw, 2, .take, .num 0xFF, .spanOr 0 63 0xFF⟩,
   ⟨0x6C13, 0, 8191, .u8, .rw, 2, .take, .num 16, .span 1 255⟩,
   ⟨0x6C14, 0, 8191, .enum16, .rw, 2, .take, .num 0, .span 0 4⟩,
   ⟨0x6C15, 0, 8191, .u16, .rw, 2, .take, .num 0xFFFF, .any⟩,
   ⟨0x6C16, 0, 8191, .bits32, .rw, 2, .take, .num 0x0000000F, .any⟩,
   ⟨0x6C17, 0, 8191, .bool, .rw, 2, .frame, .num 1, .any⟩,
   ⟨0x6C18, 0, 8191, .octets, .rw, 2, .frame, .bytes [], .lens 0 16 2⟩,
   ⟨0x6C19, 0, 8191, .bool, .rw, 2, .frame, .num 0, .any⟩,
   ⟨0x6C1A, 0, 8191, .u64, .rw, 2, .take, .num 0, .any⟩,
   ⟨0x6C20, 0, 8191, .enum16, .ro, 0, .immediate, .num 0, .any⟩,
   ⟨0x6C21, 0, 8191, .u32, .ro, 0, .immediate, .num 0, .any⟩,
   ⟨0x6C22, 0, 8191, .enum16, .ro, 0, .immediate, .num 0, .any⟩,
   ⟨0x6C23, 0, 8191, .u32, .ro, 0, .immediate, .num 0, .any⟩,
   ⟨0x6C24, 0, 8191, .u64, .ro, 0, .immediate, .num 0, .any⟩,
   ⟨0x6C25, 0, 8191, .u64, .ro, 0, .immediate, .num 0, .any⟩,
   ⟨0x6C26, 0, 8191, .u64, .ro, 0, .immediate, .num 0, .any⟩,
   ⟨0x6C27, 0, 8191, .u64, .ro, 0, .immediate, .num 0, .any⟩,
   ⟨0x6C28, 0, 8191, .u32, .ro, 0, .immediate, .num 0, .any⟩,
   ⟨0x6C29, 0, 8191, .octets, .ro, 0, .immediate, .bytes [], .any⟩,
   ⟨0x6C3F, 0, 8191, .bool, .wo, 1, .immediate, .num 0, .any⟩,
   ⟨0x7000, 0, 0, .u32, .ro, 0, .immediate, .num 0, .any⟩,
   ⟨0x7001, 0, 0, .octets, .ro, 0, .immediate, .bytes [], .any⟩,
   ⟨0x7010, 0, 31, .enum16, .rw, 1, .immediate, .num 0, .span 0 7⟩,
   ⟨0x7011, 0, 31, .u32, .rw, 1, .immediate, .num 0, .span 0 32767⟩,
   ⟨0x7012, 0, 31, .enum16, .rw, 1, .immediate, .num 1, .span 1 2⟩,
   ⟨0x7013, 0, 31, .u64, .rw, 1, .immediate, .num 1000, .span 1 0xFFFFFFFFFFFFFFFF⟩,
   ⟨0x7014, 0, 31, .i64, .rw, 1, .immediate, .num 0, .any⟩,
   ⟨0x7015, 0, 31, .u32, .rw, 1, .immediate, .num 0, .span 0 86400⟩,
   ⟨0x7016, 0, 31, .i64, .rw, 1, .immediate, .num 0x7FFFFFFFFFFFFFFF, .any⟩,
   ⟨0x7017, 0, 31, .enum16, .ro, 0, .immediate, .num 0, .any⟩,
   ⟨0x7020, 0, 31, .octets, .ro, 0, .immediate, .bytes [], .any⟩,
   ⟨0x7021, 0, 31, .octets, .ro, 0, .immediate, .bytes [], .any⟩,
   ⟨0x702F, 0, 31, .bool, .wo, 1, .immediate, .num 0, .any⟩,
   ⟨0x7030, 0, 1, .enum16, .rw, 2, .immediate, .num 0, .span 0 1⟩,
   ⟨0x7031, 0, 1, .bool, .wo, 1, .immediate, .num 0, .any⟩]

/-- Objects 0x7032 to 0x782F. -/
def dictRows11 : List Row :=
  [⟨0x7032, 0, 1, .bits32, .ro, 0, .immediate, .num 0, .any⟩,
   ⟨0x7033, 0, 0, .u64, .ro, 0, .immediate, .num 0, .any⟩,
   ⟨0x7038, 0, 0, .bool, .wo, 1, .immediate, .num 0, .any⟩,
   ⟨0x7040, 0, 0, .u64, .rw, 0, .immediate, .num 0, .any⟩,
   ⟨0x7041, 0, 0, .octets, .ro, 0, .immediate, .bytes [], .any⟩,
   ⟨0x7042, 0, 0, .u64, .ro, 0, .immediate, .num 0, .any⟩,
   ⟨0x7043, 0, 0, .u64, .ro, 0, .immediate, .num 0, .any⟩,
   ⟨0x7800, 0, 5, .u8, .ro, 0, .immediate, .num 0, .any⟩,
   ⟨0x7801, 0, 5, .u64, .ro, 0, .immediate, .num 0, .any⟩,
   ⟨0x7802, 0, 5, .u32, .ro, 0, .immediate, .num 0, .any⟩,
   ⟨0x7810, 0, 0, .u64, .ro, 0, .immediate, .num 0, .any⟩,
   ⟨0x7811, 0, 0, .u64, .ro, 0, .immediate, .num 0, .any⟩,
   ⟨0x7820, 0, 6, .u64, .ro, 0, .immediate, .num 0, .any⟩,
   ⟨0x7821, 0, 6, .u64, .ro, 0, .immediate, .num 0, .any⟩,
   ⟨0x7822, 0, 0, .u16, .rw, 2, .immediate, .num 24, .span 1 168⟩,
   ⟨0x7823, 0, 0, .u8, .ro, 0, .immediate, .num 0, .any⟩,
   ⟨0x7824, 0, 0, .ptptime, .ro, 0, .immediate, .num 0, .any⟩,
   ⟨0x7825, 0, 0, .octets, .ro, 0, .immediate, .bytes [], .any⟩,
   ⟨0x782F, 0, 0, .bool, .wo, 1, .immediate, .num 0, .any⟩]

/-- The rows among which an index is looked up. -/
def dictChunk (index : Nat) : List Row :=
  if index < 0x1194 then dictRows0 else
  if index < 0x1427 then dictRows1 else
  if index < 0x1606 then dictRows2 else
  if index < 0x1814 then dictRows3 else
  if index < 0x3011 then dictRows4 else
  if index < 0x4104 then dictRows5 else
  if index < 0x511F then dictRows6 else
  if index < 0x601C then dictRows7 else
  if index < 0x6844 then dictRows8 else
  if index < 0x6A46 then dictRows9 else
  if index < 0x7032 then dictRows10 else
  dictRows11

/-- The row of an object, none where no table lists the index and subindex (R475). -/
def dictRow (index sub : Nat) : Option Row :=
  (dictChunk index).find? fun r => r.index == index && r.lo ≤ sub && sub ≤ r.hi

/-- Every row. -/
def dictionary : List Row :=
  dictRows0 ++ dictRows1 ++ dictRows2 ++ dictRows3 ++ dictRows4 ++ dictRows5 ++ dictRows6 ++ dictRows7 ++ dictRows8 ++ dictRows9 ++ dictRows10 ++ dictRows11

end Sys2Proof.Machine
end

