-- ==== Sys2Proof/Machine/Names.lean ====
section
/-!
DEFINITION. The names of the object dictionary, of the event sources (R570) and of the status codes (R471).
-/
namespace Sys2Proof.Machine

/-! Dictionary indices. -/

/-- OrderingCode, R483. -/
abbrev Obj.orderingCode : Nat := 0x1000
/-- UniqueId, R483. -/
abbrev Obj.uniqueId : Nat := 0x1001
/-- DieStepping, R483. -/
abbrev Obj.dieStepping : Nat := 0x1002
/-- VendorName, R483. -/
abbrev Obj.vendorName : Nat := 0x1003
/-- FamilyName, R483. -/
abbrev Obj.familyName : Nat := 0x1004
/-- BedrockVersion, R483. -/
abbrev Obj.bedrockVersion : Nat := 0x1005
/-- UplandVersion, R483. -/
abbrev Obj.uplandVersion : Nat := 0x1006
/-- DeviceLabel, R483. -/
abbrev Obj.deviceLabel : Nat := 0x1007
/-- HealthState, R483. -/
abbrev Obj.healthState : Nat := 0x1010
/-- HealthReasons, R483. -/
abbrev Obj.healthReasons : Nat := 0x1011
/-- HealthClear, R483. -/
abbrev Obj.healthClear : Nat := 0x1012
/-- UptimeSeconds, R483. -/
abbrev Obj.uptimeSeconds : Nat := 0x1013
/-- RestartCount, R483. -/
abbrev Obj.restartCount : Nat := 0x1014
/-- LastRestartCause, R483. -/
abbrev Obj.lastRestartCause : Nat := 0x1015
/-- JunctionTemp, R483. -/
abbrev Obj.junctionTemp : Nat := 0x1016
/-- JunctionTempMax, R483. -/
abbrev Obj.junctionTempMax : Nat := 0x1017
/-- SupplyMargin, R483. -/
abbrev Obj.supplyMargin : Nat := 0x1018
/-- DeviceRestart, R483. -/
abbrev Obj.deviceRestart : Nat := 0x1019
/-- StoreVersionLoaded, R500. -/
abbrev Obj.storeVersionLoaded : Nat := 0x1040
/-- StoreVersionWritten, R500. -/
abbrev Obj.storeVersionWritten : Nat := 0x1041
/-- StoreSlotLoaded, R500. -/
abbrev Obj.storeSlotLoaded : Nat := 0x1042
/-- StoreGeneration, R500. -/
abbrev Obj.storeGeneration : Nat := 0x1043
/-- StoreBytesUsed, R500. -/
abbrev Obj.storeBytesUsed : Nat := 0x1044
/-- StoreLastSavedAt, R500. -/
abbrev Obj.storeLastSavedAt : Nat := 0x1045
/-- StoreDirty, R500. -/
abbrev Obj.storeDirty : Nat := 0x1046
/-- StoreSaveNow, R500. -/
abbrev Obj.storeSaveNow : Nat := 0x1047
/-- RoleKey, R489. -/
abbrev Obj.roleKey : Nat := 0x1100
/-- RoleKeyPresent, R489. -/
abbrev Obj.roleKeyPresent : Nat := 0x1101
/-- RoleKeyChangedAt, R489. -/
abbrev Obj.roleKeyChangedAt : Nat := 0x1102
/-- SessState, R489. -/
abbrev Obj.sessState : Nat := 0x1110
/-- SessRole, R489. -/
abbrev Obj.sessRole : Nat := 0x1111
/-- SessTransport, R489. -/
abbrev Obj.sessTransport : Nat := 0x1112
/-- SessPort, R489. -/
abbrev Obj.sessPort : Nat := 0x1113
/-- SessPeerAddr, R489. -/
abbrev Obj.sessPeerAddr : Nat := 0x1114
/-- SessPeerPort, R489. -/
abbrev Obj.sessPeerPort : Nat := 0x1115
/-- SessEncrypted, R489. -/
abbrev Obj.sessEncrypted : Nat := 0x1116
/-- SessOpenedAt, R489. -/
abbrev Obj.sessOpenedAt : Nat := 0x1117
/-- SessLastRxAt, R489. -/
abbrev Obj.sessLastRxAt : Nat := 0x1118
/-- SessRequests, R489. -/
abbrev Obj.sessRequests : Nat := 0x1119
/-- SessOutstanding, R489. -/
abbrev Obj.sessOutstanding : Nat := 0x111A
/-- SessNotifyLost, R489. -/
abbrev Obj.sessNotifyLost : Nat := 0x111B
/-- SessSelf, R489. -/
abbrev Obj.sessSelf : Nat := 0x1120
/-- DropMagic, R489. -/
abbrev Obj.dropMagic : Nat := 0x1130
/-- DropLength, R489. -/
abbrev Obj.dropLength : Nat := 0x1131
/-- DropNoSession, R489. -/
abbrev Obj.dropNoSession : Nat := 0x1132
/-- DropTag, R489. -/
abbrev Obj.dropTag : Nat := 0x1133
/-- DropSequence, R489. -/
abbrev Obj.dropSequence : Nat := 0x1134
/-- DropVersion, R489. -/
abbrev Obj.dropVersion : Nat := 0x1135
/-- DropBinding, R489. -/
abbrev Obj.dropBinding : Nat := 0x1136
/-- DropFragment, R489. -/
abbrev Obj.dropFragment : Nat := 0x1137
/-- DropCounterClear, R489. -/
abbrev Obj.dropCounterClear : Nat := 0x113F
/-- LockoutTable, R489. -/
abbrev Obj.lockoutTable : Nat := 0x1140
/-- LockoutClear, R489. -/
abbrev Obj.lockoutClear : Nat := 0x1141
/-- AuthFailures, R489. -/
abbrev Obj.authFailures : Nat := 0x1142
/-- OwnerLock, R493. -/
abbrev Obj.ownerLock : Nat := 0x1180
/-- OwnerLockChangedAt, R493. -/
abbrev Obj.ownerLockChangedAt : Nat := 0x1181
/-- VendorKeyHash, R493. -/
abbrev Obj.vendorKeyHash : Nat := 0x1190
/-- OwnerKeyHash, R493. -/
abbrev Obj.ownerKeyHash : Nat := 0x1191
/-- OwnerKeyState, R493. -/
abbrev Obj.ownerKeyState : Nat := 0x1192
/-- OwnerKeyProgram, R493. -/
abbrev Obj.ownerKeyProgram : Nat := 0x1193
/-- OwnerKeyRevoke, R493. -/
abbrev Obj.ownerKeyRevoke : Nat := 0x1194
/-- UpdateState, R601. -/
abbrev Obj.updateState : Nat := 0x1200
/-- UpdatePolicy, R601. -/
abbrev Obj.updatePolicy : Nat := 0x1201
/-- ConfirmWindow, R601. -/
abbrev Obj.confirmWindow : Nat := 0x1202
/-- UpdateBegin, R601. -/
abbrev Obj.updateBegin : Nat := 0x1203
/-- UpdateData, R601. -/
abbrev Obj.updateData : Nat := 0x1204
/-- UpdateReceived, R601. -/
abbrev Obj.updateReceived : Nat := 0x1205
/-- UpdateCommit, R601. -/
abbrev Obj.updateCommit : Nat := 0x1206
/-- UpdateActivate, R601. -/
abbrev Obj.updateActivate : Nat := 0x1207
/-- UpdateAbort, R601. -/
abbrev Obj.updateAbort : Nat := 0x1208
/-- UpdateResult, R601. -/
abbrev Obj.updateResult : Nat := 0x1209
/-- StagedVersion, R601. -/
abbrev Obj.stagedVersion : Nat := 0x120A
/-- StagedSecurityVersion, R601. -/
abbrev Obj.stagedSecurityVersion : Nat := 0x120B
/-- HealthConfirm, R601. -/
abbrev Obj.healthConfirm : Nat := 0x1210
/-- ConfirmRemaining, R601. -/
abbrev Obj.confirmRemaining : Nat := 0x1211
/-- SlotVersion, R601. -/
abbrev Obj.slotVersion : Nat := 0x1220
/-- SlotRole, R601. -/
abbrev Obj.slotRole : Nat := 0x1221
/-- RollbackCounter, R601. -/
abbrev Obj.rollbackCounter : Nat := 0x1230
/-- MigrationReport, R601. -/
abbrev Obj.migrationReport : Nat := 0x1240
/-- MigrationReportCount, R601. -/
abbrev Obj.migrationReportCount : Nat := 0x1241
/-- StoreHeldSlot, R601. -/
abbrev Obj.storeHeldSlot : Nat := 0x1242
/-- UpdateJournal, R601. -/
abbrev Obj.updateJournal : Nat := 0x1250
/-- EventCount, R494. -/
abbrev Obj.eventCount : Nat := 0x1300
/-- EventLastAt, R494. -/
abbrev Obj.eventLastAt : Nat := 0x1301
/-- EventLastSubject, R494. -/
abbrev Obj.eventLastSubject : Nat := 0x1302
/-- EventName, R494. -/
abbrev Obj.eventName : Nat := 0x1303
/-- EventPinMap, R494. -/
abbrev Obj.eventPinMap : Nat := 0x1304
/-- Subscription, R494. -/
abbrev Obj.subscription : Nat := 0x1310
/-- EventCounterClear, R494. -/
abbrev Obj.eventCounterClear : Nat := 0x131F
/-- WsHouseRate, R360. -/
abbrev Obj.wsHouseRate : Nat := 0x1400
/-- WsMode, R360. -/
abbrev Obj.wsMode : Nat := 0x1401
/-- WsManualRef, R360. -/
abbrev Obj.wsManualRef : Nat := 0x1402
/-- WsSlopeLimit, R360. -/
abbrev Obj.wsSlopeLimit : Nat := 0x1403
/-- WsDisagreeThreshold, R360. -/
abbrev Obj.wsDisagreeThreshold : Nat := 0x1404
/-- WsStepPolicy, R360. -/
abbrev Obj.wsStepPolicy : Nat := 0x1405
/-- WsStepThreshold, R360. -/
abbrev Obj.wsStepThreshold : Nat := 0x1406
/-- WsHoldoverQl, R360. -/
abbrev Obj.wsHoldoverQl : Nat := 0x1407
/-- WsHoldoverLimit, R360. -/
abbrev Obj.wsHoldoverLimit : Nat := 0x1408
/-- WsTimeSet, R360. -/
abbrev Obj.wsTimeSet : Nat := 0x1409
/-- WsHoldoverReset, R360. -/
abbrev Obj.wsHoldoverReset : Nat := 0x140A
/-- WsHistoryClear, R360. -/
abbrev Obj.wsHistoryClear : Nat := 0x140F
/-- WsState, R360. -/
abbrev Obj.wsState : Nat := 0x1410
/-- WsSelectedRef, R360. -/
abbrev Obj.wsSelectedRef : Nat := 0x1411
/-- WsDeviceQl, R360. -/
abbrev Obj.wsDeviceQl : Nat := 0x1412
/-- WsPhaseError, R360. -/
abbrev Obj.wsPhaseError : Nat := 0x1413
/-- WsFreqCorrection, R360. -/
abbrev Obj.wsFreqCorrection : Nat := 0x1414
/-- WsTimeNow, R360. -/
abbrev Obj.wsTimeNow : Nat := 0x1415
/-- WsHoldoverLearned, R360. -/
abbrev Obj.wsHoldoverLearned : Nat := 0x1416
/-- WsHoldoverElapsed, R360. -/
abbrev Obj.wsHoldoverElapsed : Nat := 0x1417
/-- WsHistory, R360. -/
abbrev Obj.wsHistory : Nat := 0x1418
/-- WsLoState, R360. -/
abbrev Obj.wsLoState : Nat := 0x1419
/-- WsRefSwitches, R360. -/
abbrev Obj.wsRefSwitches : Nat := 0x141A
/-- WsPhaseHistogram, R360. -/
abbrev Obj.wsPhaseHistogram : Nat := 0x141B
/-- RefEnable, R361. -/
abbrev Obj.refEnable : Nat := 0x1420
/-- RefPriority, R361. -/
abbrev Obj.refPriority : Nat := 0x1421
/-- RefQlOverride, R361. -/
abbrev Obj.refQlOverride : Nat := 0x1422
/-- RefQlDefault, R361. -/
abbrev Obj.refQlDefault : Nat := 0x1423
/-- RefWaitToRestore, R361. -/
abbrev Obj.refWaitToRestore : Nat := 0x1424
/-- RefOffset, R361. -/
abbrev Obj.refOffset : Nat := 0x1425
/-- RefRate, R361. -/
abbrev Obj.refRate : Nat := 0x1426
/-- RefPolarity, R361. -/
abbrev Obj.refPolarity : Nat := 0x1427
/-- RefSdiLane, R361. -/
abbrev Obj.refSdiLane : Nat := 0x1428
/-- RefBandwidth, R361. -/
abbrev Obj.refBandwidth : Nat := 0x1429
/-- RefFreqRange, R361. -/
abbrev Obj.refFreqRange : Nat := 0x142A
/-- RefState, R361. -/
abbrev Obj.refState : Nat := 0x1430
/-- RefQlInForce, R361. -/
abbrev Obj.refQlInForce : Nat := 0x1431
/-- RefFreqDiff, R361. -/
abbrev Obj.refFreqDiff : Nat := 0x1432
/-- RefPhaseDiff, R361. -/
abbrev Obj.refPhaseDiff : Nat := 0x1433
/-- RefWtrRemaining, R361. -/
abbrev Obj.refWtrRemaining : Nat := 0x1434
/-- RefHistory, R361. -/
abbrev Obj.refHistory : Nat := 0x1435
/-- RefLosses, R361. -/
abbrev Obj.refLosses : Nat := 0x1436
/-- RefInvalidPulses, R361. -/
abbrev Obj.refInvalidPulses : Nat := 0x1437
/-- PtpPort, R362. -/
abbrev Obj.ptpPort : Nat := 0x1440
/-- PtpDomain, R362. -/
abbrev Obj.ptpDomain : Nat := 0x1441
/-- PtpProfile, R362. -/
abbrev Obj.ptpProfile : Nat := 0x1442
/-- PtpTransport, R362. -/
abbrev Obj.ptpTransport : Nat := 0x1443
/-- PtpAnnounceTimeout, R362. -/
abbrev Obj.ptpAnnounceTimeout : Nat := 0x1444
/-- PtpState, R362. -/
abbrev Obj.ptpState : Nat := 0x1450
/-- PtpGmIdentity, R362. -/
abbrev Obj.ptpGmIdentity : Nat := 0x1451
/-- PtpClockClass, R362. -/
abbrev Obj.ptpClockClass : Nat := 0x1452
/-- PtpOffsetFromMaster, R362. -/
abbrev Obj.ptpOffsetFromMaster : Nat := 0x1453
/-- PtpMeanPathDelay, R362. -/
abbrev Obj.ptpMeanPathDelay : Nat := 0x1454
/-- FpEnable, R363. -/
abbrev Obj.fpEnable : Nat := 0x1460
/-- FpAlign, R363. -/
abbrev Obj.fpAlign : Nat := 0x1461
/-- FpRate, R363. -/
abbrev Obj.fpRate : Nat := 0x1462
/-- FpOffset, R363. -/
abbrev Obj.fpOffset : Nat := 0x1463
/-- FpWidthMode, R363. -/
abbrev Obj.fpWidthMode : Nat := 0x1464
/-- FpWidth, R363. -/
abbrev Obj.fpWidth : Nat := 0x1465
/-- FpPolarity, R363. -/
abbrev Obj.fpPolarity : Nat := 0x1466
/-- FpState, R363. -/
abbrev Obj.fpState : Nat := 0x1470
/-- TwinStaleLimit, R387. -/
abbrev Obj.twinStaleLimit : Nat := 0x1500
/-- TwinSdiStandby, R387. -/
abbrev Obj.twinSdiStandby : Nat := 0x1501
/-- TwinAnnounceCount, R387. -/
abbrev Obj.twinAnnounceCount : Nat := 0x1502
/-- TwinAnnounceInterval, R387. -/
abbrev Obj.twinAnnounceInterval : Nat := 0x1503
/-- TwinPaired, R388. -/
abbrev Obj.twinPaired : Nat := 0x1510
/-- TwinSide, R388. -/
abbrev Obj.twinSide : Nat := 0x1511
/-- TwinRole, R388. -/
abbrev Obj.twinRole : Nat := 0x1512
/-- TwinArbPattern, R388. -/
abbrev Obj.twinArbPattern : Nat := 0x1513
/-- TwinPeerRole, R388. -/
abbrev Obj.twinPeerRole : Nat := 0x1514
/-- TwinPeerPattern, R388. -/
abbrev Obj.twinPeerPattern : Nat := 0x1515
/-- TwinLinkState, R388. -/
abbrev Obj.twinLinkState : Nat := 0x1516
/-- TwinReadiness, R388. -/
abbrev Obj.twinReadiness : Nat := 0x1517
/-- TwinNotReady, R388. -/
abbrev Obj.twinNotReady : Nat := 0x1518
/-- TwinCopyStale, R388. -/
abbrev Obj.twinCopyStale : Nat := 0x1519
/-- TwinLastCopyAt, R388. -/
abbrev Obj.twinLastCopyAt : Nat := 0x151A
/-- TwinPeerOffset, R388. -/
abbrev Obj.twinPeerOffset : Nat := 0x151B
/-- TwinResyncProgress, R388. -/
abbrev Obj.twinResyncProgress : Nat := 0x151C
/-- TwinHealth, R388. -/
abbrev Obj.twinHealth : Nat := 0x151D
/-- TwinTakeoverAt, R388. -/
abbrev Obj.twinTakeoverAt : Nat := 0x151E
/-- TwinHealthHold, R388. -/
abbrev Obj.twinHealthHold : Nat := 0x1520
/-- TwinTakeovers, R388. -/
abbrev Obj.twinTakeovers : Nat := 0x1521
/-- TwinCopiesDiscarded, R388. -/
abbrev Obj.twinCopiesDiscarded : Nat := 0x1522
/-- TwinCounterClear, R388. -/
abbrev Obj.twinCounterClear : Nat := 0x152F
/-- TwinStationIpv4, R388. -/
abbrev Obj.twinStationIpv4 : Nat := 0x1530
/-- LaneMode, R417. -/
abbrev Obj.laneMode : Nat := 0x1600
/-- LaneEthRate, R417. -/
abbrev Obj.laneEthRate : Nat := 0x1601
/-- LaneFec, R417. -/
abbrev Obj.laneFec : Nat := 0x1602
/-- LaneRxInvert, R417. -/
abbrev Obj.laneRxInvert : Nat := 0x1603
/-- LaneTxInvert, R417. -/
abbrev Obj.laneTxInvert : Nat := 0x1604
/-- LaneTxPre, R417. -/
abbrev Obj.laneTxPre : Nat := 0x1605
/-- LaneTxPost, R417. -/
abbrev Obj.laneTxPost : Nat := 0x1606
/-- LanePrbsMode, R417. -/
abbrev Obj.lanePrbsMode : Nat := 0x1607
/-- LanePrbsCheck, R417. -/
abbrev Obj.lanePrbsCheck : Nat := 0x1608
/-- LaneState, R417. -/
abbrev Obj.laneState : Nat := 0x1610
/-- LaneTxPreInForce, R417. -/
abbrev Obj.laneTxPreInForce : Nat := 0x1611
/-- LaneTxPostInForce, R417. -/
abbrev Obj.laneTxPostInForce : Nat := 0x1612
/-- LaneTxMain, R417. -/
abbrev Obj.laneTxMain : Nat := 0x1613
/-- LaneEyeHeight, R417. -/
abbrev Obj.laneEyeHeight : Nat := 0x1614
/-- LaneRxPolarityFound, R417. -/
abbrev Obj.laneRxPolarityFound : Nat := 0x1615
/-- LanePrbsState, R417. -/
abbrev Obj.lanePrbsState : Nat := 0x1616
/-- LanePrbsBits, R417. -/
abbrev Obj.lanePrbsBits : Nat := 0x1617
/-- LanePrbsErrors, R417. -/
abbrev Obj.lanePrbsErrors : Nat := 0x1618
/-- LanePrbsLosses, R417. -/
abbrev Obj.lanePrbsLosses : Nat := 0x1619
/-- LaneHdrErrors, R417. -/
abbrev Obj.laneHdrErrors : Nat := 0x161A
/-- LaneStuffErrors, R417. -/
abbrev Obj.laneStuffErrors : Nat := 0x161B
/-- LaneCounterClear, R417. -/
abbrev Obj.laneCounterClear : Nat := 0x161F
/-- OctetRef, R418. -/
abbrev Obj.octetRef : Nat := 0x1640
/-- OctetPllState, R418. -/
abbrev Obj.octetPllState : Nat := 0x1641
/-- SpurRefFreq, R418. -/
abbrev Obj.spurRefFreq : Nat := 0x1650
/-- SpurRefState, R418. -/
abbrev Obj.spurRefState : Nat := 0x1651
/-- SaddleLaneBase, R419. -/
abbrev Obj.saddleLaneBase : Nat := 0x1680
/-- SaddleConfig, R419. -/
abbrev Obj.saddleConfig : Nat := 0x1681
/-- SaddleBringUp, R419. -/
abbrev Obj.saddleBringUp : Nat := 0x1682
/-- SaddleSlip, R419. -/
abbrev Obj.saddleSlip : Nat := 0x1683
/-- SaddleTrainRequest, R419. -/
abbrev Obj.saddleTrainRequest : Nat := 0x1684
/-- SaddleRxReady, R419. -/
abbrev Obj.saddleRxReady : Nat := 0x1685
/-- SaddleRestart, R419. -/
abbrev Obj.saddleRestart : Nat := 0x1686
/-- SaddleState, R419. -/
abbrev Obj.saddleState : Nat := 0x1690
/-- SaddleLaneOrder, R419. -/
abbrev Obj.saddleLaneOrder : Nat := 0x1691
/-- SaddleSkew, R419. -/
abbrev Obj.saddleSkew : Nat := 0x1692
/-- SaddleRate, R419. -/
abbrev Obj.saddleRate : Nat := 0x1693
/-- SaddleSeedMismatch, R419. -/
abbrev Obj.saddleSeedMismatch : Nat := 0x1694
/-- SaddleMsgErrors, R419. -/
abbrev Obj.saddleMsgErrors : Nat := 0x1695
/-- SaddleDownCount, R419. -/
abbrev Obj.saddleDownCount : Nat := 0x1696
/-- SaddleCounterClear, R419. -/
abbrev Obj.saddleCounterClear : Nat := 0x169F
/-- CtlIpv4Addr, R514. -/
abbrev Obj.ctlIpv4Addr : Nat := 0x1700
/-- CtlIpv4Prefix, R514. -/
abbrev Obj.ctlIpv4Prefix : Nat := 0x1701
/-- CtlIpv4Gateway, R514. -/
abbrev Obj.ctlIpv4Gateway : Nat := 0x1702
/-- CtlIpv6Addr, R514. -/
abbrev Obj.ctlIpv6Addr : Nat := 0x1703
/-- CtlIpv6Prefix, R514. -/
abbrev Obj.ctlIpv6Prefix : Nat := 0x1704
/-- CtlVlan, R514. -/
abbrev Obj.ctlVlan : Nat := 0x1705
/-- CtlIlrilPort, R514. -/
abbrev Obj.ctlIlrilPort : Nat := 0x1706
/-- CtlSpeedMode, R514. -/
abbrev Obj.ctlSpeedMode : Nat := 0x1707
/-- CtlStepEnable, R514. -/
abbrev Obj.ctlStepEnable : Nat := 0x1708
/-- CtlStepThreshold, R514. -/
abbrev Obj.ctlStepThreshold : Nat := 0x1709
/-- CtlStepHold, R514. -/
abbrev Obj.ctlStepHold : Nat := 0x170A
/-- CtlMacAddr, R514. -/
abbrev Obj.ctlMacAddr : Nat := 0x1710
/-- CtlLinkState, R514. -/
abbrev Obj.ctlLinkState : Nat := 0x1711
/-- CtlRxCounts, R514. -/
abbrev Obj.ctlRxCounts : Nat := 0x1712
/-- CtlRxCountsB, R514. -/
abbrev Obj.ctlRxCountsB : Nat := 0x1713
/-- CtlTxFrames, R514. -/
abbrev Obj.ctlTxFrames : Nat := 0x1714
/-- CtlCounterClear, R514. -/
abbrev Obj.ctlCounterClear : Nat := 0x171F
/-- MorLinkMode, R442. -/
abbrev Obj.morLinkMode : Nat := 0x1800
/-- MorJournalBytes, R442. -/
abbrev Obj.morJournalBytes : Nat := 0x1801
/-- MorFormat, R442. -/
abbrev Obj.morFormat : Nat := 0x1802
/-- MorDriveRate, R442. -/
abbrev Obj.morDriveRate : Nat := 0x1803
/-- MorDriveState, R442. -/
abbrev Obj.morDriveState : Nat := 0x1810
/-- MorDriveLink, R442. -/
abbrev Obj.morDriveLink : Nat := 0x1811
/-- MorDriveCapacity, R442. -/
abbrev Obj.morDriveCapacity : Nat := 0x1812
/-- MorDriveHealth, R442. -/
abbrev Obj.morDriveHealth : Nat := 0x1813
/-- MorMediaErrors, R442. -/
abbrev Obj.morMediaErrors : Nat := 0x1814
/-- MorPoolState, R442. -/
abbrev Obj.morPoolState : Nat := 0x1820
/-- MorPoolExtents, R442. -/
abbrev Obj.morPoolExtents : Nat := 0x1821
/-- MorExtentsUsed, R442. -/
abbrev Obj.morExtentsUsed : Nat := 0x1822
/-- MorWriteCharge, R442. -/
abbrev Obj.morWriteCharge : Nat := 0x1823
/-- MorReadCharge, R442. -/
abbrev Obj.morReadCharge : Nat := 0x1824
/-- MorCounterClear, R442. -/
abbrev Obj.morCounterClear : Nat := 0x182F
/-- DlyEnable, R443. -/
abbrev Obj.dlyEnable : Nat := 0x1840
/-- DlyDst, R443. -/
abbrev Obj.dlyDst : Nat := 0x1841
/-- DlySlot, R443. -/
abbrev Obj.dlySlot : Nat := 0x1842
/-- DlyCapacity, R443. -/
abbrev Obj.dlyCapacity : Nat := 0x1843
/-- DlyFrames, R443. -/
abbrev Obj.dlyFrames : Nat := 0x1844
/-- DlyStored, R443. -/
abbrev Obj.dlyStored : Nat := 0x1850
/-- DlyLateFrames, R443. -/
abbrev Obj.dlyLateFrames : Nat := 0x1851
/-- RecEnable, R443. -/
abbrev Obj.recEnable : Nat := 0x1860
/-- RecDst, R443. -/
abbrev Obj.recDst : Nat := 0x1861
/-- RecClip, R443. -/
abbrev Obj.recClip : Nat := 0x1862
/-- RecMaxFrames, R443. -/
abbrev Obj.recMaxFrames : Nat := 0x1863
/-- RecRun, R443. -/
abbrev Obj.recRun : Nat := 0x1864
/-- RecState, R443. -/
abbrev Obj.recState : Nat := 0x1870
/-- RecLateFrames, R443. -/
abbrev Obj.recLateFrames : Nat := 0x1871
/-- PlayEnable, R443. -/
abbrev Obj.playEnable : Nat := 0x1880
/-- PlaySlot, R443. -/
abbrev Obj.playSlot : Nat := 0x1881
/-- PlayClip, R443. -/
abbrev Obj.playClip : Nat := 0x1882
/-- PlayStartFrame, R443. -/
abbrev Obj.playStartFrame : Nat := 0x1883
/-- PlayMode, R443. -/
abbrev Obj.playMode : Nat := 0x1884
/-- PlayRun, R443. -/
abbrev Obj.playRun : Nat := 0x1885
/-- PlayPosition, R443. -/
abbrev Obj.playPosition : Nat := 0x1890
/-- PlayLateFrames, R443. -/
abbrev Obj.playLateFrames : Nat := 0x1891
/-- ClipState, R444. -/
abbrev Obj.clipState : Nat := 0x18A0
/-- ClipFormat, R444. -/
abbrev Obj.clipFormat : Nat := 0x18A1
/-- ClipFrames, R444. -/
abbrev Obj.clipFrames : Nat := 0x18A2
/-- ClipMissing, R444. -/
abbrev Obj.clipMissing : Nat := 0x18A3
/-- ClipRecordedAt, R444. -/
abbrev Obj.clipRecordedAt : Nat := 0x18A4
/-- ClipName, R444. -/
abbrev Obj.clipName : Nat := 0x18A5
/-- ClipDelete, R444. -/
abbrev Obj.clipDelete : Nat := 0x18A6
/-- SrcState, R180. -/
abbrev Obj.srcState : Nat := 0x2000
/-- SrcFeedKind, R180. -/
abbrev Obj.srcFeedKind : Nat := 0x2001
/-- SrcGenerator, R180. -/
abbrev Obj.srcGenerator : Nat := 0x2002
/-- SrcLiveFormat, R180. -/
abbrev Obj.srcLiveFormat : Nat := 0x2003
/-- SrcStorePages, R180. -/
abbrev Obj.srcStorePages : Nat := 0x2004
/-- SrcFramesWritten, R180. -/
abbrev Obj.srcFramesWritten : Nat := 0x2005
/-- SrcFramesAbandoned, R180. -/
abbrev Obj.srcFramesAbandoned : Nat := 0x2006
/-- SrcReservedFormat, R36. -/
abbrev Obj.srcReservedFormat : Nat := 0x2008
/-- SrcReservationStatus, R36. -/
abbrev Obj.srcReservationStatus : Nat := 0x2009
/-- SrcCounterClear, R180. -/
abbrev Obj.srcCounterClear : Nat := 0x200F
/-- StorePagesInForce, R180. -/
abbrev Obj.storePagesInForce : Nat := 0x2010
/-- StorePagesProjected, R180. -/
abbrev Obj.storePagesProjected : Nat := 0x2011
/-- GenPattern, R182. -/
abbrev Obj.genPattern : Nat := 0x2100
/-- GenFlatValue, R182. -/
abbrev Obj.genFlatValue : Nat := 0x2101
/-- GenMotion, R182. -/
abbrev Obj.genMotion : Nat := 0x2102
/-- DstAlignMode, R181. -/
abbrev Obj.dstAlignMode : Nat := 0x3000
/-- DstTimingOffset, R181. -/
abbrev Obj.dstTimingOffset : Nat := 0x3001
/-- DstTimedFallback, R181. -/
abbrev Obj.dstTimedFallback : Nat := 0x3002
/-- DstLossPicture, R181. -/
abbrev Obj.dstLossPicture : Nat := 0x3003
/-- DstLossGenerator, R181. -/
abbrev Obj.dstLossGenerator : Nat := 0x3004
/-- DstReturnHold, R181. -/
abbrev Obj.dstReturnHold : Nat := 0x3005
/-- DstFollowSource, R181. -/
abbrev Obj.dstFollowSource : Nat := 0x3006
/-- DstReservedFormat, R36. -/
abbrev Obj.dstReservedFormat : Nat := 0x3008
/-- DstState, R181. -/
abbrev Obj.dstState : Nat := 0x3010
/-- DstModeInForce, R181. -/
abbrev Obj.dstModeInForce : Nat := 0x3011
/-- DstTimingError, R181. -/
abbrev Obj.dstTimingError : Nat := 0x3012
/-- DstFormatLive, R181. -/
abbrev Obj.dstFormatLive : Nat := 0x3013
/-- DstRepeats, R181. -/
abbrev Obj.dstRepeats : Nat := 0x3014
/-- DstDrops, R181. -/
abbrev Obj.dstDrops : Nat := 0x3015
/-- DstPartialFrames, R181. -/
abbrev Obj.dstPartialFrames : Nat := 0x3016
/-- DstLossFrames, R181. -/
abbrev Obj.dstLossFrames : Nat := 0x3017
/-- DstConcealedBlocks, R181. -/
abbrev Obj.dstConcealedBlocks : Nat := 0x3018
/-- DstCounterClear, R181. -/
abbrev Obj.dstCounterClear : Nat := 0x301F
/-- LatencyLast, R33. -/
abbrev Obj.latencyLast : Nat := 0x3040
/-- LatencyMin, R33. -/
abbrev Obj.latencyMin : Nat := 0x3041
/-- LatencyMax, R33. -/
abbrev Obj.latencyMax : Nat := 0x3042
/-- OriginKind, R33. -/
abbrev Obj.originKind : Nat := 0x3043
/-- StageBreakdown, R33. -/
abbrev Obj.stageBreakdown : Nat := 0x3044
/-- LatencyClear, R33. -/
abbrev Obj.latencyClear : Nat := 0x3045
/-- Route, R213. -/
abbrev Obj.route : Nat := 0x3800
/-- RouteOnAir, R213. -/
abbrev Obj.routeOnAir : Nat := 0x3801
/-- RouteTakenAt, R213. -/
abbrev Obj.routeTakenAt : Nat := 0x3802
/-- RouteSalvo, R213. -/
abbrev Obj.routeSalvo : Nat := 0x3803
/-- SalvoState, R214. -/
abbrev Obj.salvoState : Nat := 0x3810
/-- SalvoOwner, R214. -/
abbrev Obj.salvoOwner : Nat := 0x3811
/-- SalvoChangeCount, R214. -/
abbrev Obj.salvoChangeCount : Nat := 0x3812
/-- SalvoResult, R214. -/
abbrev Obj.salvoResult : Nat := 0x3813
/-- SalvoResultDetail, R214. -/
abbrev Obj.salvoResultDetail : Nat := 0x3814
/-- SalvoTakeBoundary, R214. -/
abbrev Obj.salvoTakeBoundary : Nat := 0x3815
/-- SalvoArmedAt, R214. -/
abbrev Obj.salvoArmedAt : Nat := 0x3816
/-- SalvoMirror, R214. -/
abbrev Obj.salvoMirror : Nat := 0x3817
/-- TakesExecuted, R215. -/
abbrev Obj.takesExecuted : Nat := 0x3820
/-- ArmRefusals, R215. -/
abbrev Obj.armRefusals : Nat := 0x3821
/-- OrderConflicts, R215. -/
abbrev Obj.orderConflicts : Nat := 0x3822
/-- StaleTakes, R215. -/
abbrev Obj.staleTakes : Nat := 0x3823
/-- CommitCounterClear, R215. -/
abbrev Obj.commitCounterClear : Nat := 0x382F
/-- NextHouseBoundary, R215. -/
abbrev Obj.nextHouseBoundary : Nat := 0x3830
/-- TakeDeadline, R215. -/
abbrev Obj.takeDeadline : Nat := 0x3831
/-- HbmCharge, R48. -/
abbrev Obj.hbmCharge : Nat := 0x3880
/-- PayloadInCharge, R48. -/
abbrev Obj.payloadInCharge : Nat := 0x3881
/-- PayloadOutCharge, R48. -/
abbrev Obj.payloadOutCharge : Nat := 0x3882
/-- WriterGroupCharge, R48. -/
abbrev Obj.writerGroupCharge : Nat := 0x3883
/-- ReaderGroupCharge, R48. -/
abbrev Obj.readerGroupCharge : Nat := 0x3884
/-- CqSrcSlot, R246. -/
abbrev Obj.cqSrcSlot : Nat := 0x4000
/-- CqTimingOffset, R246. -/
abbrev Obj.cqTimingOffset : Nat := 0x4001
/-- CqOrderMode, R246. -/
abbrev Obj.cqOrderMode : Nat := 0x4002
/-- CqOrder, R246. -/
abbrev Obj.cqOrder : Nat := 0x4003
/-- CqLedgerLayer, R246. -/
abbrev Obj.cqLedgerLayer : Nat := 0x4004
/-- CqBgColour, R246. -/
abbrev Obj.cqBgColour : Nat := 0x4005
/-- CqCoefHA, R246. -/
abbrev Obj.cqCoefHA : Nat := 0x4006
/-- CqCoefVA, R246. -/
abbrev Obj.cqCoefVA : Nat := 0x4007
/-- CqCoefHB, R246. -/
abbrev Obj.cqCoefHB : Nat := 0x4008
/-- CqCoefVB, R246. -/
abbrev Obj.cqCoefVB : Nat := 0x4009
/-- CqState, R246. -/
abbrev Obj.cqState : Nat := 0x4010
/-- CqFormat, R246. -/
abbrev Obj.cqFormat : Nat := 0x4011
/-- CqFirnState, R246. -/
abbrev Obj.cqFirnState : Nat := 0x4012
/-- CqFramesOut, R246. -/
abbrev Obj.cqFramesOut : Nat := 0x4013
/-- CqDiscardedFrames, R246. -/
abbrev Obj.cqDiscardedFrames : Nat := 0x4014
/-- CqFirnRebuilds, R246. -/
abbrev Obj.cqFirnRebuilds : Nat := 0x4015
/-- CqCounterClear, R246. -/
abbrev Obj.cqCounterClear : Nat := 0x401F
/-- LayerEnable, R247. -/
abbrev Obj.layerEnable : Nat := 0x4100
/-- LayerDstSlot, R247. -/
abbrev Obj.layerDstSlot : Nat := 0x4101
/-- LayerCropPos, R247. -/
abbrev Obj.layerCropPos : Nat := 0x4102
/-- LayerCropSize, R247. -/
abbrev Obj.layerCropSize : Nat := 0x4103
/-- LayerWinPos, R247. -/
abbrev Obj.layerWinPos : Nat := 0x4104
/-- LayerWinSize, R247. -/
abbrev Obj.layerWinSize : Nat := 0x4105
/-- LayerFilter, R247. -/
abbrev Obj.layerFilter : Nat := 0x4106
/-- LayerScan, R247. -/
abbrev Obj.layerScan : Nat := 0x4107
/-- LayerAlpha, R247. -/
abbrev Obj.layerAlpha : Nat := 0x4108
/-- LayerAlphaMode, R247. -/
abbrev Obj.layerAlphaMode : Nat := 0x4109
/-- LayerHoldCount, R247. -/
abbrev Obj.layerHoldCount : Nat := 0x410A
/-- LayerStatic, R247. -/
abbrev Obj.layerStatic : Nat := 0x410B
/-- LayerGfxOffset, R247. -/
abbrev Obj.layerGfxOffset : Nat := 0x410C
/-- LayerGfxData, R247. -/
abbrev Obj.layerGfxData : Nat := 0x410D
/-- LayerGfxFlip, R247. -/
abbrev Obj.layerGfxFlip : Nat := 0x410E
/-- LayerState, R247. -/
abbrev Obj.layerState : Nat := 0x4110
/-- LayerTapsInForce, R247. -/
abbrev Obj.layerTapsInForce : Nat := 0x4111
/-- LayerStepX, R247. -/
abbrev Obj.layerStepX : Nat := 0x4112
/-- LayerStepY, R247. -/
abbrev Obj.layerStepY : Nat := 0x4113
/-- LayerGfxComplete, R247. -/
abbrev Obj.layerGfxComplete : Nat := 0x4114
/-- LayerNotReadyFrames, R247. -/
abbrev Obj.layerNotReadyFrames : Nat := 0x4115
/-- LayerCounterClear, R247. -/
abbrev Obj.layerCounterClear : Nat := 0x411F
/-- ColSdrPeak, R266. -/
abbrev Obj.colSdrPeak : Nat := 0x4800
/-- ColHlgPeak, R266. -/
abbrev Obj.colHlgPeak : Nat := 0x4801
/-- SrcColour, R266. -/
abbrev Obj.srcColour : Nat := 0x4810
/-- SrcColourLive, R266. -/
abbrev Obj.srcColourLive : Nat := 0x4811
/-- DstColour, R266. -/
abbrev Obj.dstColour : Nat := 0x4820
/-- DstColourInForce, R266. -/
abbrev Obj.dstColourInForce : Nat := 0x4821
/-- CqMixColour, R266. -/
abbrev Obj.cqMixColour : Nat := 0x4830
/-- CqOutputColour, R266. -/
abbrev Obj.cqOutputColour : Nat := 0x4831
/-- ColGfxColour, R267. -/
abbrev Obj.colGfxColour : Nat := 0x4840
/-- ColTmoMode, R267. -/
abbrev Obj.colTmoMode : Nat := 0x4850
/-- ColTmoSourcePeak, R267. -/
abbrev Obj.colTmoSourcePeak : Nat := 0x4851
/-- ColTmoRefWhite, R267. -/
abbrev Obj.colTmoRefWhite : Nat := 0x4852
/-- ColShaperEnable, R267. -/
abbrev Obj.colShaperEnable : Nat := 0x4853
/-- ColLutEnable, R267. -/
abbrev Obj.colLutEnable : Nat := 0x4854
/-- ColShaperData, R267. -/
abbrev Obj.colShaperData : Nat := 0x4855
/-- ColLutOffset, R267. -/
abbrev Obj.colLutOffset : Nat := 0x4856
/-- ColLutData, R267. -/
abbrev Obj.colLutData : Nat := 0x4857
/-- ColTableFlip, R267. -/
abbrev Obj.colTableFlip : Nat := 0x4858
/-- ColStageState, R267. -/
abbrev Obj.colStageState : Nat := 0x4860
/-- ColStageIn, R267. -/
abbrev Obj.colStageIn : Nat := 0x4861
/-- ColStageOut, R267. -/
abbrev Obj.colStageOut : Nat := 0x4862
/-- AiGain, R298. -/
abbrev Obj.aiGain : Nat := 0x5000
/-- AiPolarity, R298. -/
abbrev Obj.aiPolarity : Nat := 0x5001
/-- AiDelay, R298. -/
abbrev Obj.aiDelay : Nat := 0x5002
/-- AiEq, R298. -/
abbrev Obj.aiEq : Nat := 0x5003
/-- AiFeed, R298. -/
abbrev Obj.aiFeed : Nat := 0x5010
/-- AiRateIn, R298. -/
abbrev Obj.aiRateIn : Nat := 0x5011
/-- AiConverter, R298. -/
abbrev Obj.aiConverter : Nat := 0x5012
/-- AiRateDeviation, R298. -/
abbrev Obj.aiRateDeviation : Nat := 0x5013
/-- AiNonAudio, R298. -/
abbrev Obj.aiNonAudio : Nat := 0x5014
/-- AiPeak, R298. -/
abbrev Obj.aiPeak : Nat := 0x5015
/-- AiPeakHold, R298. -/
abbrev Obj.aiPeakHold : Nat := 0x5016
/-- AiMeterClear, R298. -/
abbrev Obj.aiMeterClear : Nat := 0x501F
/-- BusInputSrc, R299. -/
abbrev Obj.busInputSrc : Nat := 0x5100
/-- BusInputGain, R299. -/
abbrev Obj.busInputGain : Nat := 0x5101
/-- BusGain, R299. -/
abbrev Obj.busGain : Nat := 0x5102
/-- BusEq, R299. -/
abbrev Obj.busEq : Nat := 0x5103
/-- BusLedgerInput, R299. -/
abbrev Obj.busLedgerInput : Nat := 0x5104
/-- BusPeak, R299. -/
abbrev Obj.busPeak : Nat := 0x5110
/-- BusPeakHold, R299. -/
abbrev Obj.busPeakHold : Nat := 0x5111
/-- BusTruePeakMax, R299. -/
abbrev Obj.busTruePeakMax : Nat := 0x5112
/-- BusClipSamples, R299. -/
abbrev Obj.busClipSamples : Nat := 0x5113
/-- BusCounterClear, R299. -/
abbrev Obj.busCounterClear : Nat := 0x511F
/-- AoSource, R300. -/
abbrev Obj.aoSource : Nat := 0x5200
/-- AoPath, R300. -/
abbrev Obj.aoPath : Nat := 0x5201
/-- AoFadeSamples, R300. -/
abbrev Obj.aoFadeSamples : Nat := 0x5202
/-- AoFadeShape, R300. -/
abbrev Obj.aoFadeShape : Nat := 0x5203
/-- AoBindDst, R300. -/
abbrev Obj.aoBindDst : Nat := 0x5204
/-- AoBindTrim, R300. -/
abbrev Obj.aoBindTrim : Nat := 0x5205
/-- AoDelayReserve, R300. -/
abbrev Obj.aoDelayReserve : Nat := 0x5206
/-- AoDither, R300. -/
abbrev Obj.aoDither : Nat := 0x5207
/-- AoPathInForce, R300. -/
abbrev Obj.aoPathInForce : Nat := 0x5210
/-- AoBindState, R300. -/
abbrev Obj.aoBindState : Nat := 0x5211
/-- AoBindDelay, R300. -/
abbrev Obj.aoBindDelay : Nat := 0x5212
/-- AoLatencyLast, R300. -/
abbrev Obj.aoLatencyLast : Nat := 0x5213
/-- AoLipSyncError, R300. -/
abbrev Obj.aoLipSyncError : Nat := 0x5214
/-- AoOriginKind, R300. -/
abbrev Obj.aoOriginKind : Nat := 0x5215
/-- AoPeak, R300. -/
abbrev Obj.aoPeak : Nat := 0x5216
/-- AoPeakHold, R300. -/
abbrev Obj.aoPeakHold : Nat := 0x5217
/-- AoTruePeakMax, R300. -/
abbrev Obj.aoTruePeakMax : Nat := 0x5218
/-- AoClipSamples, R300. -/
abbrev Obj.aoClipSamples : Nat := 0x5219
/-- AoTapsDeferred, R300. -/
abbrev Obj.aoTapsDeferred : Nat := 0x521A
/-- AoCounterClear, R300. -/
abbrev Obj.aoCounterClear : Nat := 0x521F
/-- MeterHoldTime, R301. -/
abbrev Obj.meterHoldTime : Nat := 0x5300
/-- DelayPoolInForce, R301. -/
abbrev Obj.delayPoolInForce : Nat := 0x5301
/-- DelayPoolProjected, R301. -/
abbrev Obj.delayPoolProjected : Nat := 0x5302
/-- LoudMembers, R301. -/
abbrev Obj.loudMembers : Nat := 0x5400
/-- LoudLimit, R301. -/
abbrev Obj.loudLimit : Nat := 0x5401
/-- LoudShortTerm, R301. -/
abbrev Obj.loudShortTerm : Nat := 0x5410
/-- LoudShortTermMax, R301. -/
abbrev Obj.loudShortTermMax : Nat := 0x5411
/-- LoudClear, R301. -/
abbrev Obj.loudClear : Nat := 0x541F
/-- TarnAiBase, R325. -/
abbrev Obj.tarnAiBase : Nat := 0x5800
/-- TarnAiCount, R325. -/
abbrev Obj.tarnAiCount : Nat := 0x5801
/-- TarnAoBase, R325. -/
abbrev Obj.tarnAoBase : Nat := 0x5802
/-- TarnAoCount, R325. -/
abbrev Obj.tarnAoCount : Nat := 0x5803
/-- TarnCtrl, R325. -/
abbrev Obj.tarnCtrl : Nat := 0x5804
/-- TarnRxMask, R325. -/
abbrev Obj.tarnRxMask : Nat := 0x5805
/-- TarnTxMask, R325. -/
abbrev Obj.tarnTxMask : Nat := 0x5806
/-- TarnStatus, R325. -/
abbrev Obj.tarnStatus : Nat := 0x5810
/-- TarnRateMeasured, R325. -/
abbrev Obj.tarnRateMeasured : Nat := 0x5811
/-- TarnUnderruns, R325. -/
abbrev Obj.tarnUnderruns : Nat := 0x5812
/-- RxSlot, R84. -/
abbrev Obj.rxSlot : Nat := 0x6000
/-- RxRateMask, R84. -/
abbrev Obj.rxRateMask : Nat := 0x6001
/-- RxQuad, R84. -/
abbrev Obj.rxQuad : Nat := 0x6002
/-- RxQuadDivision, R84. -/
abbrev Obj.rxQuadDivision : Nat := 0x6003
/-- RxAssumeSampling, R84. -/
abbrev Obj.rxAssumeSampling : Nat := 0x6004
/-- RxAssumeScan, R84. -/
abbrev Obj.rxAssumeScan : Nat := 0x6005
/-- RxAudioBase, R84. -/
abbrev Obj.rxAudioBase : Nat := 0x6006
/-- RxAudioGroups, R84. -/
abbrev Obj.rxAudioGroups : Nat := 0x6007
/-- SdiRxAncDrop, R84. -/
abbrev Obj.sdiRxAncDrop : Nat := 0x6008
/-- RxState, R84. -/
abbrev Obj.rxState : Nat := 0x6010
/-- RxRate, R84. -/
abbrev Obj.rxRate : Nat := 0x6011
/-- RxFormat, R84. -/
abbrev Obj.rxFormat : Nat := 0x6012
/-- RxPayloadId, R84. -/
abbrev Obj.rxPayloadId : Nat := 0x6013
/-- RxStructure, R84. -/
abbrev Obj.rxStructure : Nat := 0x6014
/-- RxQuadSkew, R84. -/
abbrev Obj.rxQuadSkew : Nat := 0x6015
/-- RxCrcErrLines, R84. -/
abbrev Obj.rxCrcErrLines : Nat := 0x6016
/-- RxEdhFlags, R84. -/
abbrev Obj.rxEdhFlags : Nat := 0x6017
/-- RxEdhApErrFields, R84. -/
abbrev Obj.rxEdhApErrFields : Nat := 0x6018
/-- RxEdhFfErrFields, R84. -/
abbrev Obj.rxEdhFfErrFields : Nat := 0x6019
/-- RxAudioPresent, R84. -/
abbrev Obj.rxAudioPresent : Nat := 0x601A
/-- RxAudioEccCorrected, R84. -/
abbrev Obj.rxAudioEccCorrected : Nat := 0x601B
/-- RxAudioUncorrectable, R84. -/
abbrev Obj.rxAudioUncorrectable : Nat := 0x601C
/-- RxAncChecksumErr, R84. -/
abbrev Obj.rxAncChecksumErr : Nat := 0x601D
/-- RxAncOverflow, R84. -/
abbrev Obj.rxAncOverflow : Nat := 0x601E
/-- SdiRxCounterClear, R84. -/
abbrev Obj.sdiRxCounterClear : Nat := 0x601F
/-- TxSlot, R85. -/
abbrev Obj.txSlot : Nat := 0x6040
/-- SdiTxCarriage, R85. -/
abbrev Obj.sdiTxCarriage : Nat := 0x6041
/-- TxQuadDivision, R85. -/
abbrev Obj.txQuadDivision : Nat := 0x6042
/-- TxAudioBase, R85. -/
abbrev Obj.txAudioBase : Nat := 0x6043
/-- TxAudioGroups, R85. -/
abbrev Obj.txAudioGroups : Nat := 0x6044
/-- SdiTxAncEnable, R85. -/
abbrev Obj.sdiTxAncEnable : Nat := 0x6045
/-- TxIdle, R85. -/
abbrev Obj.txIdle : Nat := 0x6046
/-- TxState, R85. -/
abbrev Obj.txState : Nat := 0x6050
/-- TxRate, R85. -/
abbrev Obj.txRate : Nat := 0x6051
/-- TxFormat, R85. -/
abbrev Obj.txFormat : Nat := 0x6052
/-- TxPayloadId, R85. -/
abbrev Obj.txPayloadId : Nat := 0x6053
/-- TxDriverMode, R85. -/
abbrev Obj.txDriverMode : Nat := 0x6054
/-- SdiTxAncDropped, R85. -/
abbrev Obj.sdiTxAncDropped : Nat := 0x6055
/-- SdiTxCounterClear, R85. -/
abbrev Obj.sdiTxCounterClear : Nat := 0x6056
/-- PortMode, R120. -/
abbrev Obj.portMode : Nat := 0x6800
/-- PortLaneBase, R120. -/
abbrev Obj.portLaneBase : Nat := 0x6801
/-- PortVlan, R120. -/
abbrev Obj.portVlan : Nat := 0x6802
/-- PortMacAddr, R120. -/
abbrev Obj.portMacAddr : Nat := 0x6803
/-- PortIpv4Addr, R120. -/
abbrev Obj.portIpv4Addr : Nat := 0x6804
/-- PortIpv4Prefix, R120. -/
abbrev Obj.portIpv4Prefix : Nat := 0x6805
/-- PortIpv6Addr, R120. -/
abbrev Obj.portIpv6Addr : Nat := 0x6806
/-- PortIpv6Prefix, R120. -/
abbrev Obj.portIpv6Prefix : Nat := 0x6807
/-- PortRobustness, R120. -/
abbrev Obj.portRobustness : Nat := 0x6808
/-- PortReportInterval, R120. -/
abbrev Obj.portReportInterval : Nat := 0x6809
/-- PortLinkState, R120. -/
abbrev Obj.portLinkState : Nat := 0x6810
/-- PortRxCharge, R120. -/
abbrev Obj.portRxCharge : Nat := 0x6811
/-- PortRxChargeProjected, R120. -/
abbrev Obj.portRxChargeProjected : Nat := 0x6812
/-- PortRxFrames, R120. -/
abbrev Obj.portRxFrames : Nat := 0x6813
/-- PortRxBytes, R120. -/
abbrev Obj.portRxBytes : Nat := 0x6814
/-- PortRxDropBad, R120. -/
abbrev Obj.portRxDropBad : Nat := 0x6815
/-- PortRxDropNoFlow, R120. -/
abbrev Obj.portRxDropNoFlow : Nat := 0x6816
/-- PortQuerier, R120. -/
abbrev Obj.portQuerier : Nat := 0x6817
/-- PortCounterClear, R120. -/
abbrev Obj.portCounterClear : Nat := 0x681F
/-- PortModeB, R120. -/
abbrev Obj.portModeB : Nat := 0x6820
/-- PortLaneBaseB, R120. -/
abbrev Obj.portLaneBaseB : Nat := 0x6821
/-- PortVlanB, R120. -/
abbrev Obj.portVlanB : Nat := 0x6822
/-- PortMacAddrB, R120. -/
abbrev Obj.portMacAddrB : Nat := 0x6823
/-- PortIpv4AddrB, R120. -/
abbrev Obj.portIpv4AddrB : Nat := 0x6824
/-- PortIpv4PrefixB, R120. -/
abbrev Obj.portIpv4PrefixB : Nat := 0x6825
/-- PortIpv6AddrB, R120. -/
abbrev Obj.portIpv6AddrB : Nat := 0x6826
/-- PortIpv6PrefixB, R120. -/
abbrev Obj.portIpv6PrefixB : Nat := 0x6827
/-- PortRobustnessB, R120. -/
abbrev Obj.portRobustnessB : Nat := 0x6828
/-- PortReportIntervalB, R120. -/
abbrev Obj.portReportIntervalB : Nat := 0x6829
/-- PortLinkStateB, R120. -/
abbrev Obj.portLinkStateB : Nat := 0x6830
/-- PortRxChargeB, R120. -/
abbrev Obj.portRxChargeB : Nat := 0x6831
/-- PortRxChargeProjectedB, R120. -/
abbrev Obj.portRxChargeProjectedB : Nat := 0x6832
/-- PortRxFramesB, R120. -/
abbrev Obj.portRxFramesB : Nat := 0x6833
/-- PortRxBytesB, R120. -/
abbrev Obj.portRxBytesB : Nat := 0x6834
/-- PortRxDropBadB, R120. -/
abbrev Obj.portRxDropBadB : Nat := 0x6835
/-- PortRxDropNoFlowB, R120. -/
abbrev Obj.portRxDropNoFlowB : Nat := 0x6836
/-- PortQuerierB, R120. -/
abbrev Obj.portQuerierB : Nat := 0x6837
/-- PortCounterClearB, R120. -/
abbrev Obj.portCounterClearB : Nat := 0x683F
/-- PortTxCharge, R150. -/
abbrev Obj.portTxCharge : Nat := 0x6840
/-- PortTxChargeProjected, R150. -/
abbrev Obj.portTxChargeProjected : Nat := 0x6841
/-- PortStationMac, R150. -/
abbrev Obj.portStationMac : Nat := 0x6842
/-- PortTxFrames, R150. -/
abbrev Obj.portTxFrames : Nat := 0x6843
/-- PortTxBytes, R150. -/
abbrev Obj.portTxBytes : Nat := 0x6844
/-- PortTxCounterClear, R150. -/
abbrev Obj.portTxCounterClear : Nat := 0x684F
/-- PortTxChargeB, R150. -/
abbrev Obj.portTxChargeB : Nat := 0x6850
/-- PortTxChargeProjectedB, R150. -/
abbrev Obj.portTxChargeProjectedB : Nat := 0x6851
/-- PortStationMacB, R150. -/
abbrev Obj.portStationMacB : Nat := 0x6852
/-- PortTxFramesB, R150. -/
abbrev Obj.portTxFramesB : Nat := 0x6853
/-- PortTxBytesB, R150. -/
abbrev Obj.portTxBytesB : Nat := 0x6854
/-- PortTxCounterClearB, R150. -/
abbrev Obj.portTxCounterClearB : Nat := 0x685F
/-- PortCountA, R120. -/
abbrev Obj.portCountA : Nat := 0x6860
/-- MacBase, R150. -/
abbrev Obj.macBase : Nat := 0x6861
/-- RxEnable, R121. -/
abbrev Obj.rxEnable : Nat := 0x6A00
/-- RxPort, R121. -/
abbrev Obj.rxPort : Nat := 0x6A01
/-- RxDstAddr, R121. -/
abbrev Obj.rxDstAddr : Nat := 0x6A02
/-- RxSrcFilter, R121. -/
abbrev Obj.rxSrcFilter : Nat := 0x6A03
/-- RxUdpPort, R121. -/
abbrev Obj.rxUdpPort : Nat := 0x6A04
/-- RxEssence, R121. -/
abbrev Obj.rxEssence : Nat := 0x6A05
/-- RxPayloadType, R121. -/
abbrev Obj.rxPayloadType : Nat := 0x6A06
/-- RxTarget, R121. -/
abbrev Obj.rxTarget : Nat := 0x6A07
/-- RxPartner, R121. -/
abbrev Obj.rxPartner : Nat := 0x6A08
/-- RxVideoFormat, R121. -/
abbrev Obj.rxVideoFormat : Nat := 0x6A09
/-- RxVideoSampling, R121. -/
abbrev Obj.rxVideoSampling : Nat := 0x6A0A
/-- RxAudioChannels, R121. -/
abbrev Obj.rxAudioChannels : Nat := 0x6A0B
/-- RxAudioRate, R121. -/
abbrev Obj.rxAudioRate : Nat := 0x6A0C
/-- RxAudioDepth, R121. -/
abbrev Obj.rxAudioDepth : Nat := 0x6A0D
/-- RxPacketTime, R121. -/
abbrev Obj.rxPacketTime : Nat := 0x6A0E
/-- RxPacketBytes, R121. -/
abbrev Obj.rxPacketBytes : Nat := 0x6A0F
/-- RxDeclaredRate, R121. -/
abbrev Obj.rxDeclaredRate : Nat := 0x6A10
/-- RxSenderType, R121. -/
abbrev Obj.rxSenderType : Nat := 0x6A11
/-- RxBufferDelay, R121. -/
abbrev Obj.rxBufferDelay : Nat := 0x6A12
/-- RxLossTimeout, R121. -/
abbrev Obj.rxLossTimeout : Nat := 0x6A13
/-- RxConcealLimit, R121. -/
abbrev Obj.rxConcealLimit : Nat := 0x6A14
/-- RxEmbAudioBase, R121. -/
abbrev Obj.rxEmbAudioBase : Nat := 0x6A15
/-- RxEmbAudioGroups, R121. -/
abbrev Obj.rxEmbAudioGroups : Nat := 0x6A16
/-- RxAncDrop, R121. -/
abbrev Obj.rxAncDrop : Nat := 0x6A17
/-- RxFlowState, R121. -/
abbrev Obj.rxFlowState : Nat := 0x6A20
/-- RxReservation, R121. -/
abbrev Obj.rxReservation : Nat := 0x6A21
/-- RxPackets, R121. -/
abbrev Obj.rxPackets : Nat := 0x6A22
/-- RxLostPackets, R121. -/
abbrev Obj.rxLostPackets : Nat := 0x6A23
/-- RxPathLost, R121. -/
abbrev Obj.rxPathLost : Nat := 0x6A24
/-- RxLatePackets, R121. -/
abbrev Obj.rxLatePackets : Nat := 0x6A25
/-- RxDuplicates, R121. -/
abbrev Obj.rxDuplicates : Nat := 0x6A26
/-- RxOutOfOrder, R121. -/
abbrev Obj.rxOutOfOrder : Nat := 0x6A27
/-- RxForeign, R121. -/
abbrev Obj.rxForeign : Nat := 0x6A28
/-- RxGeometryErr, R121. -/
abbrev Obj.rxGeometryErr : Nat := 0x6A29
/-- RxConcealedFrames, R121. -/
abbrev Obj.rxConcealedFrames : Nat := 0x6A2A
/-- RxAbandonedFrames, R121. -/
abbrev Obj.rxAbandonedFrames : Nat := 0x6A2B
/-- RxBufferOverrun, R121. -/
abbrev Obj.rxBufferOverrun : Nat := 0x6A2C
/-- RxPeakOccupancy, R121. -/
abbrev Obj.rxPeakOccupancy : Nat := 0x6A2D
/-- RxAncUnmatched, R121. -/
abbrev Obj.rxAncUnmatched : Nat := 0x6A2E
/-- RxSkewMin, R121. -/
abbrev Obj.rxSkewMin : Nat := 0x6A2F
/-- RxSkewMax, R121. -/
abbrev Obj.rxSkewMax : Nat := 0x6A30
/-- RxPdvMax, R121. -/
abbrev Obj.rxPdvMax : Nat := 0x6A31
/-- RxPdvHistogram, R121. -/
abbrev Obj.rxPdvHistogram : Nat := 0x6A32
/-- RxCounterClear, R121. -/
abbrev Obj.rxCounterClear : Nat := 0x6A3F
/-- EmbFormat, R121. -/
abbrev Obj.embFormat : Nat := 0x6A40
/-- EmbPayloadId, R121. -/
abbrev Obj.embPayloadId : Nat := 0x6A41
/-- EmbStructure, R121. -/
abbrev Obj.embStructure : Nat := 0x6A42
/-- EmbCrcErrLines, R121. -/
abbrev Obj.embCrcErrLines : Nat := 0x6A43
/-- EmbEdhFlags, R121. -/
abbrev Obj.embEdhFlags : Nat := 0x6A44
/-- EmbEdhApErrFields, R121. -/
abbrev Obj.embEdhApErrFields : Nat := 0x6A45
/-- EmbEdhFfErrFields, R121. -/
abbrev Obj.embEdhFfErrFields : Nat := 0x6A46
/-- EmbAudioPresent, R121. -/
abbrev Obj.embAudioPresent : Nat := 0x6A47
/-- EmbAudioEccCorrected, R121. -/
abbrev Obj.embAudioEccCorrected : Nat := 0x6A48
/-- EmbAudioUncorrectable, R121. -/
abbrev Obj.embAudioUncorrectable : Nat := 0x6A49
/-- EmbAncChecksumErr, R121. -/
abbrev Obj.embAncChecksumErr : Nat := 0x6A4A
/-- EmbAncOverflow, R121. -/
abbrev Obj.embAncOverflow : Nat := 0x6A4B
/-- EmbCounterClear, R121. -/
abbrev Obj.embCounterClear : Nat := 0x6A4F
/-- TxEnable, R151. -/
abbrev Obj.txEnable : Nat := 0x6C00
/-- TxPort, R151. -/
abbrev Obj.txPort : Nat := 0x6C01
/-- TxDstAddr, R151. -/
abbrev Obj.txDstAddr : Nat := 0x6C02
/-- TxUdpPort, R151. -/
abbrev Obj.txUdpPort : Nat := 0x6C03
/-- TxSrcUdpPort, R151. -/
abbrev Obj.txSrcUdpPort : Nat := 0x6C04
/-- TxEssence, R151. -/
abbrev Obj.txEssence : Nat := 0x6C05
/-- TxPayloadType, R151. -/
abbrev Obj.txPayloadType : Nat := 0x6C06
/-- TxSource, R151. -/
abbrev Obj.txSource : Nat := 0x6C07
/-- TxPartner, R151. -/
abbrev Obj.txPartner : Nat := 0x6C08
/-- TxSenderType, R151. -/
abbrev Obj.txSenderType : Nat := 0x6C09
/-- TxTro, R151. -/
abbrev Obj.txTro : Nat := 0x6C0A
/-- TxPacketBytes, R151. -/
abbrev Obj.txPacketBytes : Nat := 0x6C0B
/-- TxVideoSampling, R151. -/
abbrev Obj.txVideoSampling : Nat := 0x6C0C
/-- TxAudioChannels, R151. -/
abbrev Obj.txAudioChannels : Nat := 0x6C0D
/-- TxAudioRate, R151. -/
abbrev Obj.txAudioRate : Nat := 0x6C0E
/-- TxAudioDepth, R151. -/
abbrev Obj.txAudioDepth : Nat := 0x6C0F
/-- TxPacketTime, R151. -/
abbrev Obj.txPacketTime : Nat := 0x6C10
/-- TxSsrc, R151. -/
abbrev Obj.txSsrc : Nat := 0x6C11
/-- TxDscp, R151. -/
abbrev Obj.txDscp : Nat := 0x6C12
/-- TxTtl, R151. -/
abbrev Obj.txTtl : Nat := 0x6C13
/-- TxCarriage, R151. -/
abbrev Obj.txCarriage : Nat := 0x6C14
/-- TxEmbAudioBase, R151. -/
abbrev Obj.txEmbAudioBase : Nat := 0x6C15
/-- TxEmbAudioGroups, R151. -/
abbrev Obj.txEmbAudioGroups : Nat := 0x6C16
/-- TxAncEnable, R151. -/
abbrev Obj.txAncEnable : Nat := 0x6C17
/-- TxAncDrop, R151. -/
abbrev Obj.txAncDrop : Nat := 0x6C18
/-- TxAncPayloadId, R151. -/
abbrev Obj.txAncPayloadId : Nat := 0x6C19
/-- TxDeclaredRate, R151. -/
abbrev Obj.txDeclaredRate : Nat := 0x6C1A
/-- TxFlowState, R151. -/
abbrev Obj.txFlowState : Nat := 0x6C20
/-- TxSsrcInUse, R151. -/
abbrev Obj.txSsrcInUse : Nat := 0x6C21
/-- TxFormatLive, R151. -/
abbrev Obj.txFormatLive : Nat := 0x6C22
/-- TxNextSeq, R151. -/
abbrev Obj.txNextSeq : Nat := 0x6C23
/-- TxPackets, R151. -/
abbrev Obj.txPackets : Nat := 0x6C24
/-- TxPortDownDiscards, R151. -/
abbrev Obj.txPortDownDiscards : Nat := 0x6C25
/-- TxUnresolvedDrops, R151. -/
abbrev Obj.txUnresolvedDrops : Nat := 0x6C26
/-- TxAncDropped, R151. -/
abbrev Obj.txAncDropped : Nat := 0x6C27
/-- TxPacingErrMax, R151. -/
abbrev Obj.txPacingErrMax : Nat := 0x6C28
/-- TxSdp, R151. -/
abbrev Obj.txSdp : Nat := 0x6C29
/-- TxCounterClear, R151. -/
abbrev Obj.txCounterClear : Nat := 0x6C3F
/-- PinnedCount, R578. -/
abbrev Obj.pinnedCount : Nat := 0x7000
/-- PinnedList, R578. -/
abbrev Obj.pinnedList : Nat := 0x7001
/-- MonKind, R578. -/
abbrev Obj.monKind : Nat := 0x7010
/-- MonSubject, R578. -/
abbrev Obj.monSubject : Nat := 0x7011
/-- MonLayout, R578. -/
abbrev Obj.monLayout : Nat := 0x7012
/-- MonWidth, R578. -/
abbrev Obj.monWidth : Nat := 0x7013
/-- MonOrigin, R578. -/
abbrev Obj.monOrigin : Nat := 0x7014
/-- MonPeriod, R578. -/
abbrev Obj.monPeriod : Nat := 0x7015
/-- MonAlarm, R578. -/
abbrev Obj.monAlarm : Nat := 0x7016
/-- MonState, R578. -/
abbrev Obj.monState : Nat := 0x7017
/-- MonHistogram, R578. -/
abbrev Obj.monHistogram : Nat := 0x7020
/-- MonPrevious, R578. -/
abbrev Obj.monPrevious : Nat := 0x7021
/-- MonClear, R578. -/
abbrev Obj.monClear : Nat := 0x702F
/-- EvtPinMode, R578. -/
abbrev Obj.evtPinMode : Nat := 0x7030
/-- EvtPinAck, R578. -/
abbrev Obj.evtPinAck : Nat := 0x7031
/-- EvtPinState, R578. -/
abbrev Obj.evtPinState : Nat := 0x7032
/-- EvtFifoDropped, R578. -/
abbrev Obj.evtFifoDropped : Nat := 0x7033
/-- PhaseHistogramClear, R578. -/
abbrev Obj.phaseHistogramClear : Nat := 0x7038
/-- MorJournalCursor, R444. -/
abbrev Obj.morJournalCursor : Nat := 0x7040
/-- MorJournalRead, R444. -/
abbrev Obj.morJournalRead : Nat := 0x7041
/-- MorJournalOldest, R444. -/
abbrev Obj.morJournalOldest : Nat := 0x7042
/-- MorJournalNewest, R444. -/
abbrev Obj.morJournalNewest : Nat := 0x7043
/-- ColMasterQos, R557. -/
abbrev Obj.colMasterQos : Nat := 0x7800
/-- ColRefused, R557. -/
abbrev Obj.colRefused : Nat := 0x7801
/-- ColWaitMax, R557. -/
abbrev Obj.colWaitMax : Nat := 0x7802
/-- ScrDescriptors, R557. -/
abbrev Obj.scrDescriptors : Nat := 0x7810
/-- ScrErrors, R557. -/
abbrev Obj.scrErrors : Nat := 0x7811
/-- MemCorrected, R557. -/
abbrev Obj.memCorrected : Nat := 0x7820
/-- MemUncorrectable, R557. -/
abbrev Obj.memUncorrectable : Nat := 0x7821
/-- MemScrubPeriod, R557. -/
abbrev Obj.memScrubPeriod : Nat := 0x7822
/-- MemScrubProgress, R557. -/
abbrev Obj.memScrubProgress : Nat := 0x7823
/-- MemScrubLastPass, R557. -/
abbrev Obj.memScrubLastPass : Nat := 0x7824
/-- MemErrorLog, R557. -/
abbrev Obj.memErrorLog : Nat := 0x7825
/-- DiagCounterClear, R557. -/
abbrev Obj.diagCounterClear : Nat := 0x782F

/-! Event sources. -/

/-- SDI_LOCK, R87. -/
abbrev Ev.sdiLock : Nat := 192
/-- SDI_UNLOCK, R87. -/
abbrev Ev.sdiUnlock : Nat := 193
/-- SDI_FORMAT_CHANGE, R87. -/
abbrev Ev.sdiFormatChange : Nat := 194
/-- SDI_PID_MISMATCH, R87. -/
abbrev Ev.sdiPidMismatch : Nat := 195
/-- SDI_QUAD_SKEW, R87. -/
abbrev Ev.sdiQuadSkew : Nat := 196
/-- SDI_CRC_ERROR, R87. -/
abbrev Ev.sdiCrcError : Nat := 197
/-- SDI_EDH_ERROR, R87. -/
abbrev Ev.sdiEdhError : Nat := 198
/-- SDI_AUDIO_GROUP, R87. -/
abbrev Ev.sdiAudioGroup : Nat := 199
/-- SDI_AUDIO_ERROR, R87. -/
abbrev Ev.sdiAudioError : Nat := 200
/-- SDI_ANC_OVERFLOW, R87. -/
abbrev Ev.sdiAncOverflow : Nat := 201
/-- SDI_ANC_TX_DROP, R87. -/
abbrev Ev.sdiAncTxDrop : Nat := 202
/-- SDI_FOLLOW_OUTSIDE, R87. -/
abbrev Ev.sdiFollowOutside : Nat := 203
/-- SDI_TX_RATE, R87. -/
abbrev Ev.sdiTxRate : Nat := 204
/-- MP_LINK_UP, R123. -/
abbrev Ev.mpLinkUp : Nat := 256
/-- MP_LINK_DOWN, R123. -/
abbrev Ev.mpLinkDown : Nat := 257
/-- FLOW_RECEIVING, R123. -/
abbrev Ev.flowReceiving : Nat := 258
/-- FLOW_LOST, R123. -/
abbrev Ev.flowLost : Nat := 259
/-- MERGE_PATH_LOST, R123. -/
abbrev Ev.mergePathLost : Nat := 260
/-- MERGE_PATH_RESTORED, R123. -/
abbrev Ev.mergePathRestored : Nat := 261
/-- MERGE_LATE, R123. -/
abbrev Ev.mergeLate : Nat := 262
/-- FLOW_GEOMETRY, R123. -/
abbrev Ev.flowGeometry : Nat := 263
/-- FLOW_FRAME_ABANDONED, R123. -/
abbrev Ev.flowFrameAbandoned : Nat := 264
/-- RX_BUFFER_OVERRUN, R123. -/
abbrev Ev.rxBufferOverrun : Nat := 265
/-- IGMP_COMPAT, R123. -/
abbrev Ev.igmpCompat : Nat := 266
/-- ANC_UNMATCHED, R123. -/
abbrev Ev.ancUnmatched : Nat := 267
/-- FLOW_FOREIGN, R123. -/
abbrev Ev.flowForeign : Nat := 268
/-- FLOW_CONCEAL, R123. -/
abbrev Ev.flowConceal : Nat := 269
/-- TX_SENDING, R153. -/
abbrev Ev.txSending : Nat := 270
/-- TX_STOPPED, R153. -/
abbrev Ev.txStopped : Nat := 271
/-- TX_PATH_DOWN, R153. -/
abbrev Ev.txPathDown : Nat := 272
/-- TX_PATH_RESTORED, R153. -/
abbrev Ev.txPathRestored : Nat := 273
/-- TX_UNRESOLVED, R153. -/
abbrev Ev.txUnresolved : Nat := 274
/-- TX_FORMAT_CHANGE, R153. -/
abbrev Ev.txFormatChange : Nat := 275
/-- TX_ANC_DROP, R153. -/
abbrev Ev.txAncDrop : Nat := 276
/-- TX_OPAQUE_IDLE, R153. -/
abbrev Ev.txOpaqueIdle : Nat := 277
/-- SRC_LOCKED, R184. -/
abbrev Ev.srcLocked : Nat := 320
/-- SRC_UNLOCKED, R184. -/
abbrev Ev.srcUnlocked : Nat := 321
/-- SOURCE_OVER_RESERVATION, R184. -/
abbrev Ev.sourceOverReservation : Nat := 322
/-- DST_LOSS, R184. -/
abbrev Ev.dstLoss : Nat := 323
/-- DST_LIVE, R184. -/
abbrev Ev.dstLive : Nat := 324
/-- TIMED_WINDOW_EXIT, R184. -/
abbrev Ev.timedWindowExit : Nat := 325
/-- TIMED_WINDOW_RETURN, R184. -/
abbrev Ev.timedWindowReturn : Nat := 326
/-- FSYNC_SLIP, R184. -/
abbrev Ev.fsyncSlip : Nat := 327
/-- PARTIAL_FRAME, R184. -/
abbrev Ev.partialFrame : Nat := 328
/-- MEM_CONCEAL, R184. -/
abbrev Ev.memConceal : Nat := 329
/-- FRAME_META_ERROR, R184. -/
abbrev Ev.frameMetaError : Nat := 330
/-- SALVO_ARMED, R217. -/
abbrev Ev.salvoArmed : Nat := 336
/-- SALVO_REFUSED, R217. -/
abbrev Ev.salvoRefused : Nat := 337
/-- SALVO_TAKEN, R217. -/
abbrev Ev.salvoTaken : Nat := 338
/-- TAKE_CONFLICT, R217. -/
abbrev Ev.takeConflict : Nat := 339
/-- SALVO_STALE, R217. -/
abbrev Ev.salvoStale : Nat := 340
/-- SALVO_SESSION_DISCARD, R217. -/
abbrev Ev.salvoSessionDiscard : Nat := 341
/-- DST_FORMAT_ADOPT, R217. -/
abbrev Ev.dstFormatAdopt : Nat := 342
/-- CQ_RUNNING, R249. -/
abbrev Ev.cqRunning : Nat := 384
/-- CQ_STOPPED, R249. -/
abbrev Ev.cqStopped : Nat := 385
/-- CQ_FRAME_DISCARDED, R249. -/
abbrev Ev.cqFrameDiscarded : Nat := 386
/-- CQ_TAPS_REDUCED, R249. -/
abbrev Ev.cqTapsReduced : Nat := 387
/-- CQ_LAYER_NOT_READY, R249. -/
abbrev Ev.cqLayerNotReady : Nat := 388
/-- CQ_LAYER_TRANSPARENT, R249. -/
abbrev Ev.cqLayerTransparent : Nat := 389
/-- CQ_LAYER_READY, R249. -/
abbrev Ev.cqLayerReady : Nat := 390
/-- CQ_FIRN_WAIT, R249. -/
abbrev Ev.cqFirnWait : Nat := 391
/-- COL_LABEL_MISMATCH, R269. -/
abbrev Ev.colLabelMismatch : Nat := 416
/-- COL_LUT_PENDING, R269. -/
abbrev Ev.colLutPending : Nat := 417
/-- COL_TABLE_FLIPPED, R269. -/
abbrev Ev.colTableFlipped : Nat := 418
/-- AU_CLIP, R303. -/
abbrev Ev.auClip : Nat := 448
/-- AU_NONAUDIO_MUTED, R303. -/
abbrev Ev.auNonaudioMuted : Nat := 449
/-- AU_LIPSYNC_LATE, R303. -/
abbrev Ev.auLipsyncLate : Nat := 450
/-- AU_LIPSYNC_LIMITED, R303. -/
abbrev Ev.auLipsyncLimited : Nat := 451
/-- AU_LIPSYNC_LOCKED, R303. -/
abbrev Ev.auLipsyncLocked : Nat := 452
/-- AU_PATH_CHANGE, R303. -/
abbrev Ev.auPathChange : Nat := 453
/-- AU_INPUT_RATE, R303. -/
abbrev Ev.auInputRate : Nat := 454
/-- AU_LOUD_OVER, R303. -/
abbrev Ev.auLoudOver : Nat := 455
/-- AU_TAP_DEFERRED, R303. -/
abbrev Ev.auTapDeferred : Nat := 456
/-- TARN_STARTED, R327. -/
abbrev Ev.tarnStarted : Nat := 464
/-- TARN_FS_LOST, R327. -/
abbrev Ev.tarnFsLost : Nat := 465
/-- TARN_FS_RESTORED, R327. -/
abbrev Ev.tarnFsRestored : Nat := 466
/-- TARN_RATE_CHANGE, R327. -/
abbrev Ev.tarnRateChange : Nat := 467
/-- TARN_SRC_STATE, R327. -/
abbrev Ev.tarnSrcState : Nat := 468
/-- TARN_UNDERRUN, R327. -/
abbrev Ev.tarnUnderrun : Nat := 469
/-- TARN_OVERRUN, R327. -/
abbrev Ev.tarnOverrun : Nat := 470
/-- TARN_MASK_APPLIED, R327. -/
abbrev Ev.tarnMaskApplied : Nat := 471
/-- TARN_CFG_ERR, R327. -/
abbrev Ev.tarnCfgErr : Nat := 472
/-- WS_LOCKED, R364. -/
abbrev Ev.wsLocked : Nat := 64
/-- WS_ACQUIRING, R364. -/
abbrev Ev.wsAcquiring : Nat := 65
/-- WS_HOLDOVER, R364. -/
abbrev Ev.wsHoldover : Nat := 66
/-- WS_FREE_RUN, R364. -/
abbrev Ev.wsFreeRun : Nat := 67
/-- WS_REF_SWITCH, R364. -/
abbrev Ev.wsRefSwitch : Nat := 68
/-- REF_AVAILABLE, R364. -/
abbrev Ev.refAvailable : Nat := 69
/-- REF_LOST, R364. -/
abbrev Ev.refLost : Nat := 70
/-- REF_QL_CHANGE, R364. -/
abbrev Ev.refQlChange : Nat := 71
/-- DISAGREE, R364. -/
abbrev Ev.disagree : Nat := 72
/-- TIME_STEP, R364. -/
abbrev Ev.timeStep : Nat := 73
/-- HOLDOVER_EXPIRED, R364. -/
abbrev Ev.holdoverExpired : Nat := 74
/-- HOLDOVER_READY, R364. -/
abbrev Ev.holdoverReady : Nat := 75
/-- LO_FAULT, R364. -/
abbrev Ev.loFault : Nat := 76
/-- LO_RESTORED, R364. -/
abbrev Ev.loRestored : Nat := 77
/-- REF_PULSE_INVALID, R364. -/
abbrev Ev.refPulseInvalid : Nat := 78
/-- FP_FLYWHEEL, R364. -/
abbrev Ev.fpFlywheel : Nat := 79
/-- FP_FOLLOWING, R364. -/
abbrev Ev.fpFollowing : Nat := 80
/-- PTP_GM_CHANGE, R364. -/
abbrev Ev.ptpGmChange : Nat := 81
/-- TWIN_ROLE_ACTIVE, R389. -/
abbrev Ev.twinRoleActive : Nat := 128
/-- TWIN_ROLE_STANDBY, R389. -/
abbrev Ev.twinRoleStandby : Nat := 129
/-- TWIN_ARB_LOST, R389. -/
abbrev Ev.twinArbLost : Nat := 130
/-- TWIN_ARB_RESTORED, R389. -/
abbrev Ev.twinArbRestored : Nat := 131
/-- TWIN_READY, R389. -/
abbrev Ev.twinReady : Nat := 132
/-- TWIN_NOT_READY, R389. -/
abbrev Ev.twinNotReady : Nat := 133
/-- TWIN_COPY_DISCARDED, R389. -/
abbrev Ev.twinCopyDiscarded : Nat := 134
/-- TWIN_ROLE_BLOCKED, R389. -/
abbrev Ev.twinRoleBlocked : Nat := 135
/-- TWIN_DUAL_ACTIVE, R389. -/
abbrev Ev.twinDualActive : Nat := 136
/-- TWIN_PEER_LOST, R389. -/
abbrev Ev.twinPeerLost : Nat := 137
/-- TWIN_PEER_FOUND, R389. -/
abbrev Ev.twinPeerFound : Nat := 138
/-- TWIN_RESYNC_DONE, R389. -/
abbrev Ev.twinResyncDone : Nat := 139
/-- TWIN_TIME_OFFSET, R389. -/
abbrev Ev.twinTimeOffset : Nat := 140
/-- SPUR_REF_LOST, R421. -/
abbrev Ev.spurRefLost : Nat := 144
/-- SPUR_REF_RESTORED, R421. -/
abbrev Ev.spurRefRestored : Nat := 145
/-- OCTET_PLL_UNLOCK, R421. -/
abbrev Ev.octetPllUnlock : Nat := 146
/-- LANE_ALIGNED, R421. -/
abbrev Ev.laneAligned : Nat := 147
/-- LANE_ALIGN_LOST, R421. -/
abbrev Ev.laneAlignLost : Nat := 148
/-- SADDLE_UP, R421. -/
abbrev Ev.saddleUp : Nat := 149
/-- SADDLE_DOWN, R421. -/
abbrev Ev.saddleDown : Nat := 150
/-- SADDLE_SKEW, R421. -/
abbrev Ev.saddleSkew : Nat := 151
/-- SADDLE_TRAIN_DONE, R421. -/
abbrev Ev.saddleTrainDone : Nat := 152
/-- SADDLE_SEED_MISMATCH, R421. -/
abbrev Ev.saddleSeedMismatch : Nat := 153
/-- SADDLE_MSG_ERROR, R421. -/
abbrev Ev.saddleMsgError : Nat := 154
/-- LANE_PRBS_LOCKED, R421. -/
abbrev Ev.lanePrbsLocked : Nat := 155
/-- LANE_PRBS_LOST, R421. -/
abbrev Ev.lanePrbsLost : Nat := 156
/-- MOR_DRIVE_UP, R446. -/
abbrev Ev.morDriveUp : Nat := 504
/-- MOR_DRIVE_LOST, R446. -/
abbrev Ev.morDriveLost : Nat := 505
/-- MOR_POOL_STATE, R446. -/
abbrev Ev.morPoolState : Nat := 506
/-- MOR_RECORD_END, R446. -/
abbrev Ev.morRecordEnd : Nat := 507
/-- MOR_PLAY_END, R446. -/
abbrev Ev.morPlayEnd : Nat := 508
/-- MOR_LATE, R446. -/
abbrev Ev.morLate : Nat := 509
/-- MOR_MEDIA_ERROR, R446. -/
abbrev Ev.morMediaError : Nat := 510
/-- MOR_DRIVE_WARNING, R446. -/
abbrev Ev.morDriveWarning : Nat := 511
/-- HEALTH_CHANGE, R502. -/
abbrev Ev.healthChange : Nat := 0
/-- DEVICE_STARTED, R502. -/
abbrev Ev.deviceStarted : Nat := 1
/-- STORE_INVALID, R502. -/
abbrev Ev.storeInvalid : Nat := 2
/-- STORE_SAVE_FAILED, R502. -/
abbrev Ev.storeSaveFailed : Nat := 3
/-- STORE_SAVED, R502. -/
abbrev Ev.storeSaved : Nat := 4
/-- THERMAL_HIGH, R502. -/
abbrev Ev.thermalHigh : Nat := 5
/-- SUPPLY_LOW, R502. -/
abbrev Ev.supplyLow : Nat := 6
/-- OWNER_LOCK_CHANGE, R502. -/
abbrev Ev.ownerLockChange : Nat := 7
/-- AUTH_FAILURE, R502. -/
abbrev Ev.authFailure : Nat := 480
/-- LOCKOUT, R502. -/
abbrev Ev.lockout : Nat := 481
/-- SESSION_OPENED, R502. -/
abbrev Ev.sessionOpened : Nat := 482
/-- SESSION_CLOSED, R502. -/
abbrev Ev.sessionClosed : Nat := 483
/-- SESSION_REFUSED_LIMIT, R502. -/
abbrev Ev.sessionRefusedLimit : Nat := 484
/-- ROLE_KEY_CHANGED, R502. -/
abbrev Ev.roleKeyChanged : Nat := 485
/-- OWNER_KEY_CHANGE, R502. -/
abbrev Ev.ownerKeyChange : Nat := 486
/-- UNPROVISIONED_ACCESS, R502. -/
abbrev Ev.unprovisionedAccess : Nat := 487
/-- CTL_LINK_UP, R515. -/
abbrev Ev.ctlLinkUp : Nat := 488
/-- CTL_LINK_DOWN, R515. -/
abbrev Ev.ctlLinkDown : Nat := 489
/-- CTL_SPEED_CHANGE, R515. -/
abbrev Ev.ctlSpeedChange : Nat := 490
/-- CTL_STEP_FAIL, R515. -/
abbrev Ev.ctlStepFail : Nat := 491
/-- CTL_RX_NOBUF, R515. -/
abbrev Ev.ctlRxNobuf : Nat := 492
/-- UPLAND_FAULT, R532. -/
abbrev Ev.uplandFault : Nat := 16
/-- UPLAND_RESTARTED, R532. -/
abbrev Ev.uplandRestarted : Nat := 17
/-- UPLAND_HEARTBEAT_LATE, R532. -/
abbrev Ev.uplandHeartbeatLate : Nat := 18
/-- BEDROCK_PATCH_REJECTED, R532. -/
abbrev Ev.bedrockPatchRejected : Nat := 19
/-- GATE_BUFFER_REFUSED, R532. -/
abbrev Ev.gateBufferRefused : Nat := 20
/-- COL_ACCESS_REFUSED, R558. -/
abbrev Ev.colAccessRefused : Nat := 32
/-- COL_APERTURE_REFUSED, R558. -/
abbrev Ev.colApertureRefused : Nat := 33
/-- SCR_HALTED, R558. -/
abbrev Ev.scrHalted : Nat := 34
/-- MEM_CORRECTED, R558. -/
abbrev Ev.memCorrected : Nat := 35
/-- MEM_UNCORRECTABLE, R558. -/
abbrev Ev.memUncorrectable : Nat := 36
/-- MEM_SCRUB_PASS, R558. -/
abbrev Ev.memScrubPass : Nat := 37
/-- CTRL_MEM_REPAIRED, R558. -/
abbrev Ev.ctrlMemRepaired : Nat := 38
/-- CTRL_MEM_LOST, R558. -/
abbrev Ev.ctrlMemLost : Nat := 39
/-- COUNTER_PINNED, R571. -/
abbrev Ev.counterPinned : Nat := 48
/-- REG_COUNTER_PINNED, R571. -/
abbrev Ev.regCounterPinned : Nat := 49
/-- EVENT_FIFO_OVERFLOW, R571. -/
abbrev Ev.eventFifoOverflow : Nat := 50
/-- NOTIFY_LOST, R571. -/
abbrev Ev.notifyLost : Nat := 51
/-- MON_PERIOD, R571. -/
abbrev Ev.monPeriod : Nat := 52
/-- MON_ALARM, R571. -/
abbrev Ev.monAlarm : Nat := 53
/-- UPLAND_EVENT0, R571. -/
abbrev Ev.uplandEvent0 : Nat := 56
/-- UPLAND_EVENT1, R571. -/
abbrev Ev.uplandEvent1 : Nat := 57
/-- UPLAND_EVENT2, R571. -/
abbrev Ev.uplandEvent2 : Nat := 58
/-- UPLAND_EVENT3, R571. -/
abbrev Ev.uplandEvent3 : Nat := 59
/-- UPLAND_EVENT4, R571. -/
abbrev Ev.uplandEvent4 : Nat := 60
/-- UPLAND_EVENT5, R571. -/
abbrev Ev.uplandEvent5 : Nat := 61
/-- UPLAND_EVENT6, R571. -/
abbrev Ev.uplandEvent6 : Nat := 62
/-- UPLAND_EVENT7, R571. -/
abbrev Ev.uplandEvent7 : Nat := 63
/-- UPDATE_STAGED, R603. -/
abbrev Ev.updateStaged : Nat := 496
/-- UPDATE_REFUSED, R603. -/
abbrev Ev.updateRefused : Nat := 497
/-- UPDATE_TRIAL_STARTED, R603. -/
abbrev Ev.updateTrialStarted : Nat := 498
/-- UPDATE_CONFIRMED, R603. -/
abbrev Ev.updateConfirmed : Nat := 499
/-- UPDATE_NOT_CONFIRMED, R603. -/
abbrev Ev.updateNotConfirmed : Nat := 500
/-- UPDATE_FALLBACK, R603. -/
abbrev Ev.updateFallback : Nat := 501
/-- RECOVERY_EXITED, R603. -/
abbrev Ev.recoveryExited : Nat := 502
/-- STORE_MIGRATED, R603. -/
abbrev Ev.storeMigrated : Nat := 503

/-! Status codes. -/

/-- WRITER_GROUP_FULL, R47. -/
abbrev Code.writerGroupFull : Nat := 0x0041
/-- READER_GROUP_FULL, R47. -/
abbrev Code.readerGroupFull : Nat := 0x0042
/-- PAYLOAD_IN_LIMIT, R47. -/
abbrev Code.payloadInLimit : Nat := 0x0043
/-- PAYLOAD_OUT_LIMIT, R47. -/
abbrev Code.payloadOutLimit : Nat := 0x0044
/-- PORT_RATE_LIMIT, R47. -/
abbrev Code.portRateLimit : Nat := 0x0045
/-- HBM_BUDGET, R47. -/
abbrev Code.hbmBudget : Nat := 0x0046
/-- SDI_LANE_MODE, R86. -/
abbrev Code.sdiLaneMode : Nat := 0x0050
/-- SDI_CARRIAGE_INVALID, R86. -/
abbrev Code.sdiCarriageInvalid : Nat := 0x0051
/-- SDI_QUAD_MEMBER_BOUND, R86. -/
abbrev Code.sdiQuadMemberBound : Nat := 0x0052
/-- AI_RANGE_CONFLICT, R86. -/
abbrev Code.aiRangeConflict : Nat := 0x0053
/-- SDI_AUDIO_GROUPS, R86. -/
abbrev Code.sdiAudioGroups : Nat := 0x0054
/-- MP_LANE_MODE, R122. -/
abbrev Code.mpLaneMode : Nat := 0x0060
/-- MP_LANE_CONFLICT, R122. -/
abbrev Code.mpLaneConflict : Nat := 0x0061
/-- FLOW_TABLE_FULL, R122. -/
abbrev Code.flowTableFull : Nat := 0x0062
/-- FLOW_DUPLICATE, R122. -/
abbrev Code.flowDuplicate : Nat := 0x0063
/-- FLOW_PORT_INVALID, R122. -/
abbrev Code.flowPortInvalid : Nat := 0x0064
/-- FLOW_PAIR_INVALID, R122. -/
abbrev Code.flowPairInvalid : Nat := 0x0065
/-- FLOW_OVER_RESERVATION, R122. -/
abbrev Code.flowOverReservation : Nat := 0x0066
/-- FLOW_PARAM_INVALID, R122. -/
abbrev Code.flowParamInvalid : Nat := 0x0067
/-- RX_BUFFER_FULL, R122. -/
abbrev Code.rxBufferFull : Nat := 0x0068
/-- FLOW_TARGET_CONFLICT, R122. -/
abbrev Code.flowTargetConflict : Nat := 0x0069
/-- TX_FLOW_TABLE_FULL, R152. -/
abbrev Code.txFlowTableFull : Nat := 0x0070
/-- TX_DUPLICATE, R152. -/
abbrev Code.txDuplicate : Nat := 0x0071
/-- TX_PORT_INVALID, R152. -/
abbrev Code.txPortInvalid : Nat := 0x0072
/-- TX_PAIR_INVALID, R152. -/
abbrev Code.txPairInvalid : Nat := 0x0073
/-- TX_ADDR_INVALID, R152. -/
abbrev Code.txAddrInvalid : Nat := 0x0074
/-- TX_PARAM_INVALID, R152. -/
abbrev Code.txParamInvalid : Nat := 0x0075
/-- TX_SOURCE_CONFLICT, R152. -/
abbrev Code.txSourceConflict : Nat := 0x0076
/-- FRAME_STORE_FULL, R183. -/
abbrev Code.frameStoreFull : Nat := 0x0047
/-- SLOT_NOT_RESERVED, R183. -/
abbrev Code.slotNotReserved : Nat := 0x0048
/-- SRC_FEED_CONFLICT, R183. -/
abbrev Code.srcFeedConflict : Nat := 0x0049
/-- DST_PARAM_INVALID, R183. -/
abbrev Code.dstParamInvalid : Nat := 0x004A
/-- SALVO_LIMIT, R216. -/
abbrev Code.salvoLimit : Nat := 0x0030
/-- SALVO_FULL, R216. -/
abbrev Code.salvoFull : Nat := 0x0031
/-- SALVO_STATE, R216. -/
abbrev Code.salvoState : Nat := 0x0032
/-- SALVO_NOT_OWNER, R216. -/
abbrev Code.salvoNotOwner : Nat := 0x0033
/-- SALVO_OBJECT_INVALID, R216. -/
abbrev Code.salvoObjectInvalid : Nat := 0x0034
/-- SALVO_EMPTY, R216. -/
abbrev Code.salvoEmpty : Nat := 0x0035
/-- FORMAT_MISMATCH, R216. -/
abbrev Code.formatMismatch : Nat := 0x0036
/-- FOLLOW_OVER_RESERVATION, R216. -/
abbrev Code.followOverReservation : Nat := 0x0037
/-- ROUTE_PROTECTED, R216. -/
abbrev Code.routeProtected : Nat := 0x0038
/-- ORDER_CONFLICT, R216. -/
abbrev Code.orderConflict : Nat := 0x0039
/-- ARM_STALE, R216. -/
abbrev Code.armStale : Nat := 0x003A
/-- TAKE_LATE, R216. -/
abbrev Code.takeLate : Nat := 0x003B
/-- TAKE_TOO_FAR, R216. -/
abbrev Code.takeTooFar : Nat := 0x003C
/-- TWIN_STANDBY, R216. -/
abbrev Code.twinStandby : Nat := 0x003D
/-- CQ_PARAM_INVALID, R248. -/
abbrev Code.cqParamInvalid : Nat := 0x0080
/-- CQ_LAYER_BINDING, R248. -/
abbrev Code.cqLayerBinding : Nat := 0x0081
/-- CQ_MIGRATION_CONFLICT, R248. -/
abbrev Code.cqMigrationConflict : Nat := 0x0082
/-- CQ_LEDGER_LOOP, R248. -/
abbrev Code.cqLedgerLoop : Nat := 0x0083
/-- CQ_SOURCE_OVER_LAYER, R248. -/
abbrev Code.cqSourceOverLayer : Nat := 0x0084
/-- CQ_CROP_OUTSIDE, R248. -/
abbrev Code.cqCropOutside : Nat := 0x0085
/-- CQ_LAYER_RATE, R248. -/
abbrev Code.cqLayerRate : Nat := 0x0086
/-- CQ_LINE_BUFFER, R248. -/
abbrev Code.cqLineBuffer : Nat := 0x0087
/-- CQ_ENGINE_RATE, R248. -/
abbrev Code.cqEngineRate : Nat := 0x0088
/-- CQ_FIRN_SPLIT, R248. -/
abbrev Code.cqFirnSplit : Nat := 0x0089
/-- COL_MISMATCH, R268. -/
abbrev Code.colMismatch : Nat := 0x0090
/-- AU_PARAM_INVALID, R302. -/
abbrev Code.auParamInvalid : Nat := 0x00A0
/-- AU_BUS_ORDER, R302. -/
abbrev Code.auBusOrder : Nat := 0x00A1
/-- AU_BIND_INVALID, R302. -/
abbrev Code.auBindInvalid : Nat := 0x00A2
/-- AU_DELAY_POOL_FULL, R302. -/
abbrev Code.auDelayPoolFull : Nat := 0x00A3
/-- TARN_CHANNEL_RANGE, R326. -/
abbrev Code.tarnChannelRange : Nat := 0x00A8
/-- TIME_SET_REFUSED, R647. -/
abbrev Code.timeSetRefused : Nat := 0x00E0
/-- LANE_IN_USE, R420. -/
abbrev Code.laneInUse : Nat := 0x0055
/-- LANE_RATE_CONFLICT, R420. -/
abbrev Code.laneRateConflict : Nat := 0x0056
/-- LANE_REF_INVALID, R420. -/
abbrev Code.laneRefInvalid : Nat := 0x0057
/-- MOR_PARAM_INVALID, R445. -/
abbrev Code.morParamInvalid : Nat := 0x00B0
/-- MOR_BINDING, R445. -/
abbrev Code.morBinding : Nat := 0x00B1
/-- MOR_CLIP_BUSY, R445. -/
abbrev Code.morClipBusy : Nat := 0x00B2
/-- MOR_POOL_DOWN, R445. -/
abbrev Code.morPoolDown : Nat := 0x00B3
/-- MOR_FORMAT, R445. -/
abbrev Code.morFormat : Nat := 0x00B4
/-- MOR_SPACE, R445. -/
abbrev Code.morSpace : Nat := 0x00B5
/-- MOR_STREAMS, R445. -/
abbrev Code.morStreams : Nat := 0x00B6
/-- MOR_IN_USE, R445. -/
abbrev Code.morInUse : Nat := 0x00B7
/-- SESSION_LIMIT, R472. -/
abbrev Code.sessionLimit : Nat := 0x0001
/-- AUTH_FAILED, R472. -/
abbrev Code.authFailed : Nat := 0x0002
/-- LOCKED_OUT, R472. -/
abbrev Code.lockedOut : Nat := 0x0003
/-- ROLE_KEY_ABSENT, R472. -/
abbrev Code.roleKeyAbsent : Nat := 0x0004
/-- VERSION_UNSUPPORTED, R472. -/
abbrev Code.versionUnsupported : Nat := 0x0005
/-- MALFORMED, R472. -/
abbrev Code.malformed : Nat := 0x0006
/-- UNKNOWN_TYPE, R472. -/
abbrev Code.unknownType : Nat := 0x0007
/-- NO_OBJECT, R472. -/
abbrev Code.noObject : Nat := 0x0008
/-- ACCESS, R472. -/
abbrev Code.access : Nat := 0x0009
/-- ROLE_TOO_LOW, R472. -/
abbrev Code.roleTooLow : Nat := 0x000A
/-- RANGE, R472. -/
abbrev Code.range : Nat := 0x000B
/-- COMMIT_CLASS, R472. -/
abbrev Code.commitClass : Nat := 0x000C
/-- SEQUENCE_ORDER, R472. -/
abbrev Code.sequenceOrder : Nat := 0x000D
/-- FENCE_PASSED, R472. -/
abbrev Code.fencePassed : Nat := 0x000E
/-- FENCE_MISSING, R472. -/
abbrev Code.fenceMissing : Nat := 0x000F
/-- TOO_LARGE, R472. -/
abbrev Code.tooLarge : Nat := 0x0010
/-- BUSY, R472. -/
abbrev Code.busy : Nat := 0x0011
/-- RECOVERY_ONLY, R472. -/
abbrev Code.recoveryOnly : Nat := 0x0012
/-- UNPROVISIONED, R501. -/
abbrev Code.unprovisioned : Nat := 0x00C0
/-- OWNER_LOCKED, R501. -/
abbrev Code.ownerLocked : Nat := 0x00C1
/-- OTP_NO_SLOT, R501. -/
abbrev Code.otpNoSlot : Nat := 0x00C2
/-- OTP_LAST_KEY, R501. -/
abbrev Code.otpLastKey : Nat := 0x00C3
/-- STORE_FULL, R501. -/
abbrev Code.storeFull : Nat := 0x00C4
/-- STORE_SAVE_FAILED, R501. -/
abbrev Code.storeSaveFailed : Nat := 0x00C5
/-- UPDATE_TWIN_NOT_READY, R602. -/
abbrev Code.updateTwinNotReady : Nat := 0x00D0
/-- UPDATE_ENVIRONMENT, R602. -/
abbrev Code.updateEnvironment : Nat := 0x00D1
/-- UPDATE_SALVO_PENDING, R602. -/
abbrev Code.updateSalvoPending : Nat := 0x00D2
/-- UPDATE_STATE, R602. -/
abbrev Code.updateState : Nat := 0x00D3
/-- UPDATE_OFFSET, R602. -/
abbrev Code.updateOffset : Nat := 0x00D4
/-- UPDATE_TOO_LARGE, R602. -/
abbrev Code.updateTooLarge : Nat := 0x00D5
/-- UPDATE_FORMAT, R602. -/
abbrev Code.updateFormat : Nat := 0x00D6
/-- UPDATE_SIGNATURE, R602. -/
abbrev Code.updateSignature : Nat := 0x00D7
/-- UPDATE_ROLLBACK, R602. -/
abbrev Code.updateRollback : Nat := 0x00D8
/-- UPDATE_INCOMPATIBLE, R602. -/
abbrev Code.updateIncompatible : Nat := 0x00D9
/-- UPDATE_FLASH, R602. -/
abbrev Code.updateFlash : Nat := 0x00DA

/-- Event names (R494), part 0. -/
def eventNames0 : List (Nat × String) :=
  [(192, "SDI_LOCK"),
   (193, "SDI_UNLOCK"),
   (194, "SDI_FORMAT_CHANGE"),
   (195, "SDI_PID_MISMATCH"),
   (196, "SDI_QUAD_SKEW"),
   (197, "SDI_CRC_ERROR"),
   (198, "SDI_EDH_ERROR"),
   (199, "SDI_AUDIO_GROUP"),
   (200, "SDI_AUDIO_ERROR"),
   (201, "SDI_ANC_OVERFLOW"),
   (202, "SDI_ANC_TX_DROP"),
   (203, "SDI_FOLLOW_OUTSIDE"),
   (204, "SDI_TX_RATE"),
   (256, "MP_LINK_UP"),
   (257, "MP_LINK_DOWN"),
   (258, "FLOW_RECEIVING"),
   (259, "FLOW_LOST"),
   (260, "MERGE_PATH_LOST"),
   (261, "MERGE_PATH_RESTORED"),
   (262, "MERGE_LATE"),
   (263, "FLOW_GEOMETRY"),
   (264, "FLOW_FRAME_ABANDONED"),
   (265, "RX_BUFFER_OVERRUN"),
   (266, "IGMP_COMPAT"),
   (267, "ANC_UNMATCHED"),
   (268, "FLOW_FOREIGN"),
   (269, "FLOW_CONCEAL"),
   (270, "TX_SENDING"),
   (271, "TX_STOPPED"),
   (272, "TX_PATH_DOWN"),
   (273, "TX_PATH_RESTORED"),
   (274, "TX_UNRESOLVED"),
   (275, "TX_FORMAT_CHANGE"),
   (276, "TX_ANC_DROP"),
   (277, "TX_OPAQUE_IDLE"),
   (320, "SRC_LOCKED"),
   (321, "SRC_UNLOCKED"),
   (322, "SOURCE_OVER_RESERVATION"),
   (323, "DST_LOSS"),
   (324, "DST_LIVE")]

/-- Event names (R494), part 1. -/
def eventNames1 : List (Nat × String) :=
  [(325, "TIMED_WINDOW_EXIT"),
   (326, "TIMED_WINDOW_RETURN"),
   (327, "FSYNC_SLIP"),
   (328, "PARTIAL_FRAME"),
   (329, "MEM_CONCEAL"),
   (330, "FRAME_META_ERROR"),
   (336, "SALVO_ARMED"),
   (337, "SALVO_REFUSED"),
   (338, "SALVO_TAKEN"),
   (339, "TAKE_CONFLICT"),
   (340, "SALVO_STALE"),
   (341, "SALVO_SESSION_DISCARD"),
   (342, "DST_FORMAT_ADOPT"),
   (384, "CQ_RUNNING"),
   (385, "CQ_STOPPED"),
   (386, "CQ_FRAME_DISCARDED"),
   (387, "CQ_TAPS_REDUCED"),
   (388, "CQ_LAYER_NOT_READY"),
   (389, "CQ_LAYER_TRANSPARENT"),
   (390, "CQ_LAYER_READY"),
   (391, "CQ_FIRN_WAIT"),
   (416, "COL_LABEL_MISMATCH"),
   (417, "COL_LUT_PENDING"),
   (418, "COL_TABLE_FLIPPED"),
   (448, "AU_CLIP"),
   (449, "AU_NONAUDIO_MUTED"),
   (450, "AU_LIPSYNC_LATE"),
   (451, "AU_LIPSYNC_LIMITED"),
   (452, "AU_LIPSYNC_LOCKED"),
   (453, "AU_PATH_CHANGE"),
   (454, "AU_INPUT_RATE"),
   (455, "AU_LOUD_OVER"),
   (456, "AU_TAP_DEFERRED"),
   (464, "TARN_STARTED"),
   (465, "TARN_FS_LOST"),
   (466, "TARN_FS_RESTORED"),
   (467, "TARN_RATE_CHANGE"),
   (468, "TARN_SRC_STATE"),
   (469, "TARN_UNDERRUN"),
   (470, "TARN_OVERRUN")]

/-- Event names (R494), part 2. -/
def eventNames2 : List (Nat × String) :=
  [(471, "TARN_MASK_APPLIED"),
   (472, "TARN_CFG_ERR"),
   (64, "WS_LOCKED"),
   (65, "WS_ACQUIRING"),
   (66, "WS_HOLDOVER"),
   (67, "WS_FREE_RUN"),
   (68, "WS_REF_SWITCH"),
   (69, "REF_AVAILABLE"),
   (70, "REF_LOST"),
   (71, "REF_QL_CHANGE"),
   (72, "DISAGREE"),
   (73, "TIME_STEP"),
   (74, "HOLDOVER_EXPIRED"),
   (75, "HOLDOVER_READY"),
   (76, "LO_FAULT"),
   (77, "LO_RESTORED"),
   (78, "REF_PULSE_INVALID"),
   (79, "FP_FLYWHEEL"),
   (80, "FP_FOLLOWING"),
   (81, "PTP_GM_CHANGE"),
   (128, "TWIN_ROLE_ACTIVE"),
   (129, "TWIN_ROLE_STANDBY"),
   (130, "TWIN_ARB_LOST"),
   (131, "TWIN_ARB_RESTORED"),
   (132, "TWIN_READY"),
   (133, "TWIN_NOT_READY"),
   (134, "TWIN_COPY_DISCARDED"),
   (135, "TWIN_ROLE_BLOCKED"),
   (136, "TWIN_DUAL_ACTIVE"),
   (137, "TWIN_PEER_LOST"),
   (138, "TWIN_PEER_FOUND"),
   (139, "TWIN_RESYNC_DONE"),
   (140, "TWIN_TIME_OFFSET"),
   (144, "SPUR_REF_LOST"),
   (145, "SPUR_REF_RESTORED"),
   (146, "OCTET_PLL_UNLOCK"),
   (147, "LANE_ALIGNED"),
   (148, "LANE_ALIGN_LOST"),
   (149, "SADDLE_UP"),
   (150, "SADDLE_DOWN")]

/-- Event names (R494), part 3. -/
def eventNames3 : List (Nat × String) :=
  [(151, "SADDLE_SKEW"),
   (152, "SADDLE_TRAIN_DONE"),
   (153, "SADDLE_SEED_MISMATCH"),
   (154, "SADDLE_MSG_ERROR"),
   (155, "LANE_PRBS_LOCKED"),
   (156, "LANE_PRBS_LOST"),
   (504, "MOR_DRIVE_UP"),
   (505, "MOR_DRIVE_LOST"),
   (506, "MOR_POOL_STATE"),
   (507, "MOR_RECORD_END"),
   (508, "MOR_PLAY_END"),
   (509, "MOR_LATE"),
   (510, "MOR_MEDIA_ERROR"),
   (511, "MOR_DRIVE_WARNING"),
   (0, "HEALTH_CHANGE"),
   (1, "DEVICE_STARTED"),
   (2, "STORE_INVALID"),
   (3, "STORE_SAVE_FAILED"),
   (4, "STORE_SAVED"),
   (5, "THERMAL_HIGH"),
   (6, "SUPPLY_LOW"),
   (7, "OWNER_LOCK_CHANGE"),
   (480, "AUTH_FAILURE"),
   (481, "LOCKOUT"),
   (482, "SESSION_OPENED"),
   (483, "SESSION_CLOSED"),
   (484, "SESSION_REFUSED_LIMIT"),
   (485, "ROLE_KEY_CHANGED"),
   (486, "OWNER_KEY_CHANGE"),
   (487, "UNPROVISIONED_ACCESS"),
   (488, "CTL_LINK_UP"),
   (489, "CTL_LINK_DOWN"),
   (490, "CTL_SPEED_CHANGE"),
   (491, "CTL_STEP_FAIL"),
   (492, "CTL_RX_NOBUF"),
   (16, "UPLAND_FAULT"),
   (17, "UPLAND_RESTARTED"),
   (18, "UPLAND_HEARTBEAT_LATE"),
   (19, "BEDROCK_PATCH_REJECTED"),
   (20, "GATE_BUFFER_REFUSED")]

/-- Event names (R494), part 4. -/
def eventNames4 : List (Nat × String) :=
  [(32, "COL_ACCESS_REFUSED"),
   (33, "COL_APERTURE_REFUSED"),
   (34, "SCR_HALTED"),
   (35, "MEM_CORRECTED"),
   (36, "MEM_UNCORRECTABLE"),
   (37, "MEM_SCRUB_PASS"),
   (38, "CTRL_MEM_REPAIRED"),
   (39, "CTRL_MEM_LOST"),
   (48, "COUNTER_PINNED"),
   (49, "REG_COUNTER_PINNED"),
   (50, "EVENT_FIFO_OVERFLOW"),
   (51, "NOTIFY_LOST"),
   (52, "MON_PERIOD"),
   (53, "MON_ALARM"),
   (56, "UPLAND_EVENT0"),
   (57, "UPLAND_EVENT1"),
   (58, "UPLAND_EVENT2"),
   (59, "UPLAND_EVENT3"),
   (60, "UPLAND_EVENT4"),
   (61, "UPLAND_EVENT5"),
   (62, "UPLAND_EVENT6"),
   (63, "UPLAND_EVENT7"),
   (496, "UPDATE_STAGED"),
   (497, "UPDATE_REFUSED"),
   (498, "UPDATE_TRIAL_STARTED"),
   (499, "UPDATE_CONFIRMED"),
   (500, "UPDATE_NOT_CONFIRMED"),
   (501, "UPDATE_FALLBACK"),
   (502, "RECOVERY_EXITED"),
   (503, "STORE_MIGRATED")]

/-- The name of each event source that a table lists. -/
def eventNames : List (Nat × String) :=
  eventNames0 ++ eventNames1 ++ eventNames2 ++ eventNames3 ++ eventNames4

end Sys2Proof.Machine
end

