-- ==== Sys2Proof/Machine/RegTable.lean ====
section
/-!
DEFINITION. The helper registers (R323, R324, R512, R527, R543, R552, R577, R600): address, reset value and the bits of
each access code of R7. A register counter (R559) has its count in [30:0] and PINNED in [31].
-/
namespace Sys2Proof.Machine

/-- One helper register. -/
structure RegRow where
  addr : Nat
  reset : Nat
  rw : Nat      -- bits that are RW
  w1c : Nat     -- bits that are W1C
  counter : Bool
  deriving DecidableEq, Repr

/-- Registers 0x40000000 on. -/
def regRows00_0 : List RegRow :=
  [⟨0x40000000, 0x10000, 0x7FF0001, 0x0, false⟩,
   ⟨0x40000004, 0x0, 0x0, 0x30000, false⟩,
   ⟨0x40000008, 0x0, 0x0, 0x0, true⟩,
   ⟨0x4000000C, 0x0, 0x0, 0x0, false⟩,
   ⟨0x40000010, 0x0, 0x0, 0x0, false⟩,
   ⟨0x40000014, 0x0, 0x0, 0x0, false⟩,
   ⟨0x40000018, 0x0, 0x0, 0x0, false⟩,
   ⟨0x4000001C, 0x0, 0x0, 0x0, false⟩,
   ⟨0x40000020, 0x0, 0x0, 0x0, false⟩,
   ⟨0x40000024, 0x0, 0xFFFFFFFF, 0x0, false⟩,
   ⟨0x40000028, 0x0, 0x0, 0x0, false⟩,
   ⟨0x40000040, 0x0, 0xFFFFFFFF, 0x0, false⟩,
   ⟨0x40000044, 0x0, 0xFFFFFFFF, 0x0, false⟩,
   ⟨0x40000048, 0x0, 0xFFFFFFFF, 0x0, false⟩,
   ⟨0x4000004C, 0x0, 0xFFFFFFFF, 0x0, false⟩,
   ⟨0x40000050, 0x0, 0xFFFFFFFF, 0x0, false⟩,
   ⟨0x40000054, 0x0, 0xFFFFFFFF, 0x0, false⟩,
   ⟨0x40000058, 0x0, 0xFFFFFFFF, 0x0, false⟩,
   ⟨0x4000005C, 0x0, 0xFFFFFFFF, 0x0, false⟩,
   ⟨0x40000060, 0x0, 0xFFFFFFFF, 0x0, false⟩,
   ⟨0x40000064, 0x0, 0xFFFFFFFF, 0x0, false⟩,
   ⟨0x40000068, 0x0, 0xFFFFFFFF, 0x0, false⟩,
   ⟨0x4000006C, 0x0, 0xFFFFFFFF, 0x0, false⟩,
   ⟨0x40000070, 0x0, 0xFFFFFFFF, 0x0, false⟩,
   ⟨0x40000074, 0x0, 0xFFFFFFFF, 0x0, false⟩,
   ⟨0x40000078, 0x0, 0xFFFFFFFF, 0x0, false⟩,
   ⟨0x4000007C, 0x0, 0xFFFFFFFF, 0x0, false⟩,
   ⟨0x40000080, 0x0, 0xFFFFFFFF, 0x0, false⟩,
   ⟨0x40000084, 0x0, 0xFFFFFFFF, 0x0, false⟩,
   ⟨0x40000088, 0x0, 0xFFFFFFFF, 0x0, false⟩,
   ⟨0x4000008C, 0x0, 0xFFFFFFFF, 0x0, false⟩,
   ⟨0x40000090, 0x0, 0xFFFFFFFF, 0x0, false⟩,
   ⟨0x40000094, 0x0, 0xFFFFFFFF, 0x0, false⟩,
   ⟨0x40000098, 0x0, 0xFFFFFFFF, 0x0, false⟩,
   ⟨0x4000009C, 0x0, 0xFFFFFFFF, 0x0, false⟩,
   ⟨0x400000A0, 0x0, 0xFFFFFFFF, 0x0, false⟩,
   ⟨0x400000A4, 0x0, 0xFFFFFFFF, 0x0, false⟩,
   ⟨0x400000A8, 0x0, 0xFFFFFFFF, 0x0, false⟩,
   ⟨0x400000AC, 0x0, 0xFFFFFFFF, 0x0, false⟩,
   ⟨0x400000B0, 0x0, 0xFFFFFFFF, 0x0, false⟩,
   ⟨0x400000B4, 0x0, 0xFFFFFFFF, 0x0, false⟩,
   ⟨0x400000B8, 0x0, 0xFFFFFFFF, 0x0, false⟩,
   ⟨0x400000BC, 0x0, 0xFFFFFFFF, 0x0, false⟩,
   ⟨0x400000C0, 0x0, 0x3, 0x0, false⟩,
   ⟨0x400000C4, 0x0, 0x0, 0x0, false⟩,
   ⟨0x400000C8, 0x0, 0x0, 0x0, false⟩,
   ⟨0x400000CC, 0x0, 0x0, 0x0, false⟩]

/-- Registers 0x40010000 on. -/
def regRows10_0 : List RegRow :=
  [⟨0x40010000, 0x0, 0x1, 0x0, false⟩,
   ⟨0x40010004, 0x0, 0x0, 0x0, false⟩,
   ⟨0x40010008, 0x0, 0x0, 0x0, false⟩,
   ⟨0x4001000C, 0x0, 0x0, 0x0, false⟩,
   ⟨0x40010010, 0x0, 0x0, 0x3FFFF, false⟩,
   ⟨0x40010014, 0x0, 0x3FFFF, 0x0, false⟩,
   ⟨0x40010018, 0x3E8, 0xFFFF, 0x0, false⟩,
   ⟨0x40010020, 0x0, 0x0, 0x0, true⟩,
   ⟨0x40010024, 0x0, 0x0, 0x0, true⟩,
   ⟨0x40010028, 0x0, 0x0, 0x0, false⟩,
   ⟨0x40010100, 0x0, 0xFFFFFFC0, 0x0, false⟩,
   ⟨0x40010104, 0x0, 0xFFFF, 0x0, false⟩,
   ⟨0x40010108, 0x2, 0x1FF, 0x0, false⟩,
   ⟨0x4001010C, 0x0, 0x0, 0x0, false⟩,
   ⟨0x40010110, 0x0, 0xFF, 0x0, false⟩,
   ⟨0x40010114, 0x0, 0x1, 0x0, false⟩,
   ⟨0x40010120, 0x0, 0xFFFFFFC0, 0x0, false⟩,
   ⟨0x40010124, 0x0, 0xFFFF, 0x0, false⟩,
   ⟨0x40010128, 0x2, 0x1FF, 0x0, false⟩,
   ⟨0x4001012C, 0x0, 0x0, 0x0, false⟩,
   ⟨0x40010130, 0x0, 0xFF, 0x0, false⟩,
   ⟨0x40010134, 0x0, 0x1, 0x0, false⟩,
   ⟨0x40010140, 0x0, 0xFFFFFFC0, 0x0, false⟩,
   ⟨0x40010144, 0x0, 0xFFFF, 0x0, false⟩,
   ⟨0x40010148, 0x2, 0x1FF, 0x0, false⟩,
   ⟨0x4001014C, 0x0, 0x0, 0x0, false⟩,
   ⟨0x40010150, 0x0, 0xFF, 0x0, false⟩,
   ⟨0x40010154, 0x0, 0x1, 0x0, false⟩,
   ⟨0x40010160, 0x0, 0xFFFFFFC0, 0x0, false⟩,
   ⟨0x40010164, 0x0, 0xFFFF, 0x0, false⟩,
   ⟨0x40010168, 0x2, 0x1FF, 0x0, false⟩,
   ⟨0x4001016C, 0x0, 0x0, 0x0, false⟩,
   ⟨0x40010170, 0x0, 0xFF, 0x0, false⟩,
   ⟨0x40010174, 0x0, 0x1, 0x0, false⟩,
   ⟨0x40010180, 0x0, 0xFFFFFFC0, 0x0, false⟩,
   ⟨0x40010184, 0x0, 0xFFFF, 0x0, false⟩,
   ⟨0x40010188, 0x2, 0x1FF, 0x0, false⟩,
   ⟨0x4001018C, 0x0, 0x0, 0x0, false⟩,
   ⟨0x40010190, 0x0, 0xFF, 0x0, false⟩,
   ⟨0x40010194, 0x0, 0x1, 0x0, false⟩,
   ⟨0x400101A0, 0x0, 0xFFFFFFC0, 0x0, false⟩,
   ⟨0x400101A4, 0x0, 0xFFFF, 0x0, false⟩,
   ⟨0x400101A8, 0x2, 0x1FF, 0x0, false⟩,
   ⟨0x400101AC, 0x0, 0x0, 0x0, false⟩,
   ⟨0x400101B0, 0x0, 0xFF, 0x0, false⟩,
   ⟨0x400101B4, 0x0, 0x1, 0x0, false⟩,
   ⟨0x400101C0, 0x0, 0xFFFFFFC0, 0x0, false⟩,
   ⟨0x400101C4, 0x0, 0xFFFF, 0x0, false⟩,
   ⟨0x400101C8, 0x2, 0x1FF, 0x0, false⟩,
   ⟨0x400101CC, 0x0, 0x0, 0x0, false⟩,
   ⟨0x400101D0, 0x0, 0xFF, 0x0, false⟩,
   ⟨0x400101D4, 0x0, 0x1, 0x0, false⟩,
   ⟨0x400101E0, 0x0, 0xFFFFFFC0, 0x0, false⟩,
   ⟨0x400101E4, 0x0, 0xFFFF, 0x0, false⟩,
   ⟨0x400101E8, 0x2, 0x1FF, 0x0, false⟩,
   ⟨0x400101EC, 0x0, 0x0, 0x0, false⟩,
   ⟨0x400101F0, 0x0, 0xFF, 0x0, false⟩,
   ⟨0x400101F4, 0x0, 0x1, 0x0, false⟩,
   ⟨0x40010200, 0x0, 0xFFFFFFC0, 0x0, false⟩,
   ⟨0x40010204, 0x0, 0xFFFF, 0x0, false⟩]

/-- Registers 0x40010208 on. -/
def regRows10_1 : List RegRow :=
  [⟨0x40010208, 0x2, 0x1FF, 0x0, false⟩,
   ⟨0x4001020C, 0x0, 0x0, 0x0, false⟩,
   ⟨0x40010210, 0x0, 0xFF, 0x0, false⟩,
   ⟨0x40010214, 0x0, 0x1, 0x0, false⟩,
   ⟨0x40010220, 0x0, 0xFFFFFFC0, 0x0, false⟩,
   ⟨0x40010224, 0x0, 0xFFFF, 0x0, false⟩,
   ⟨0x40010228, 0x2, 0x1FF, 0x0, false⟩,
   ⟨0x4001022C, 0x0, 0x0, 0x0, false⟩,
   ⟨0x40010230, 0x0, 0xFF, 0x0, false⟩,
   ⟨0x40010234, 0x0, 0x1, 0x0, false⟩,
   ⟨0x40010240, 0x0, 0xFFFFFFC0, 0x0, false⟩,
   ⟨0x40010244, 0x0, 0xFFFF, 0x0, false⟩,
   ⟨0x40010248, 0x2, 0x1FF, 0x0, false⟩,
   ⟨0x4001024C, 0x0, 0x0, 0x0, false⟩,
   ⟨0x40010250, 0x0, 0xFF, 0x0, false⟩,
   ⟨0x40010254, 0x0, 0x1, 0x0, false⟩,
   ⟨0x40010260, 0x0, 0xFFFFFFC0, 0x0, false⟩,
   ⟨0x40010264, 0x0, 0xFFFF, 0x0, false⟩,
   ⟨0x40010268, 0x2, 0x1FF, 0x0, false⟩,
   ⟨0x4001026C, 0x0, 0x0, 0x0, false⟩,
   ⟨0x40010270, 0x0, 0xFF, 0x0, false⟩,
   ⟨0x40010274, 0x0, 0x1, 0x0, false⟩,
   ⟨0x40010280, 0x0, 0xFFFFFFC0, 0x0, false⟩,
   ⟨0x40010284, 0x0, 0xFFFF, 0x0, false⟩,
   ⟨0x40010288, 0x2, 0x1FF, 0x0, false⟩,
   ⟨0x4001028C, 0x0, 0x0, 0x0, false⟩,
   ⟨0x40010290, 0x0, 0xFF, 0x0, false⟩,
   ⟨0x40010294, 0x0, 0x1, 0x0, false⟩,
   ⟨0x400102A0, 0x0, 0xFFFFFFC0, 0x0, false⟩,
   ⟨0x400102A4, 0x0, 0xFFFF, 0x0, false⟩,
   ⟨0x400102A8, 0x2, 0x1FF, 0x0, false⟩,
   ⟨0x400102AC, 0x0, 0x0, 0x0, false⟩,
   ⟨0x400102B0, 0x0, 0xFF, 0x0, false⟩,
   ⟨0x400102B4, 0x0, 0x1, 0x0, false⟩,
   ⟨0x400102C0, 0x0, 0xFFFFFFC0, 0x0, false⟩,
   ⟨0x400102C4, 0x0, 0xFFFF, 0x0, false⟩,
   ⟨0x400102C8, 0x2, 0x1FF, 0x0, false⟩,
   ⟨0x400102CC, 0x0, 0x0, 0x0, false⟩,
   ⟨0x400102D0, 0x0, 0xFF, 0x0, false⟩,
   ⟨0x400102D4, 0x0, 0x1, 0x0, false⟩,
   ⟨0x400102E0, 0x0, 0xFFFFFFC0, 0x0, false⟩,
   ⟨0x400102E4, 0x0, 0xFFFF, 0x0, false⟩,
   ⟨0x400102E8, 0x2, 0x1FF, 0x0, false⟩,
   ⟨0x400102EC, 0x0, 0x0, 0x0, false⟩,
   ⟨0x400102F0, 0x0, 0xFF, 0x0, false⟩,
   ⟨0x400102F4, 0x0, 0x1, 0x0, false⟩]

/-- Registers 0x40020000 on. -/
def regRows20_0 : List RegRow :=
  [⟨0x40020000, 0x0, 0x0, 0x0, false⟩,
   ⟨0x40020004, 0x0, 0x0, 0x0, false⟩,
   ⟨0x40020010, 0x8, 0xF, 0x0, false⟩,
   ⟨0x40020014, 0x4, 0xF, 0x0, false⟩,
   ⟨0x40020018, 0xA, 0x0, 0x0, false⟩,
   ⟨0x4002001C, 0x6, 0xF, 0x0, false⟩,
   ⟨0x40020020, 0xC, 0x0, 0x0, false⟩,
   ⟨0x40020024, 0xE, 0x0, 0x0, false⟩,
   ⟨0x40020030, 0x0, 0x3FF, 0x0, false⟩,
   ⟨0x40020034, 0x0, 0x0, 0x1, false⟩,
   ⟨0x40020040, 0x0, 0x0, 0x0, false⟩,
   ⟨0x40020044, 0x0, 0x0, 0x0, false⟩,
   ⟨0x40020048, 0x0, 0x0, 0x80000000, false⟩,
   ⟨0x4002004C, 0x0, 0x0, 0x0, true⟩,
   ⟨0x40020050, 0x0, 0x0, 0x3, false⟩,
   ⟨0x40020054, 0x0, 0x3, 0x0, false⟩,
   ⟨0x40020060, 0x0, 0x0, 0x0, false⟩,
   ⟨0x40020064, 0x0, 0x0, 0x0, false⟩,
   ⟨0x40020068, 0x0, 0x0, 0x0, false⟩,
   ⟨0x4002006C, 0x0, 0x0, 0x0, false⟩,
   ⟨0x40020070, 0x0, 0x0, 0x0, false⟩,
   ⟨0x40020074, 0x0, 0x0, 0x0, false⟩,
   ⟨0x4002007C, 0x0, 0x0, 0x0, false⟩]

/-- Registers 0x40030000 on. -/
def regRows30_0 : List RegRow :=
  [⟨0x40030000, 0x80, 0x1F7, 0x0, false⟩,
   ⟨0x40030004, 0x0, 0x0, 0x700, false⟩,
   ⟨0x40030008, 0x0, 0xFFF, 0x0, false⟩,
   ⟨0x4003000C, 0x3C00C8, 0xFFFFFFFF, 0x0, false⟩,
   ⟨0x40030010, 0x0, 0x0, 0x0, false⟩,
   ⟨0x40030014, 0x0, 0x0, 0x3F, false⟩,
   ⟨0x40030018, 0x0, 0x3F, 0x0, false⟩,
   ⟨0x40030040, 0x0, 0xFFFFFFFF, 0x0, false⟩,
   ⟨0x40030044, 0x80000000, 0x8000FFFF, 0x0, false⟩,
   ⟨0x40030048, 0x0, 0xFFFFFFFF, 0x0, false⟩,
   ⟨0x4003004C, 0x0, 0x8000FFFF, 0x0, false⟩,
   ⟨0x40030050, 0x0, 0xFFFFFFFF, 0x0, false⟩,
   ⟨0x40030054, 0x0, 0x8000FFFF, 0x0, false⟩,
   ⟨0x40030058, 0x0, 0xFFFFFFFF, 0x0, false⟩,
   ⟨0x4003005C, 0x0, 0x8000FFFF, 0x0, false⟩,
   ⟨0x40030060, 0x0, 0xFFFFFFFF, 0x0, false⟩,
   ⟨0x40030064, 0x0, 0x8000FFFF, 0x0, false⟩,
   ⟨0x40030068, 0x0, 0xFFFFFFFF, 0x0, false⟩,
   ⟨0x4003006C, 0x0, 0x8000FFFF, 0x0, false⟩,
   ⟨0x40030070, 0x0, 0xFFFFFFFF, 0x0, false⟩,
   ⟨0x40030074, 0x0, 0x8000FFFF, 0x0, false⟩,
   ⟨0x40030078, 0x0, 0xFFFFFFFF, 0x0, false⟩,
   ⟨0x4003007C, 0x0, 0x8000FFFF, 0x0, false⟩,
   ⟨0x40030080, 0x0, 0xFFFFFFFF, 0x0, false⟩,
   ⟨0x40030084, 0x0, 0x8000FFFF, 0x0, false⟩,
   ⟨0x40030088, 0x0, 0xFFFFFFFF, 0x0, false⟩,
   ⟨0x4003008C, 0x0, 0x8000FFFF, 0x0, false⟩,
   ⟨0x40030090, 0x0, 0xFFFFFFFF, 0x0, false⟩,
   ⟨0x40030094, 0x0, 0x8000FFFF, 0x0, false⟩,
   ⟨0x40030098, 0x0, 0xFFFFFFFF, 0x0, false⟩,
   ⟨0x4003009C, 0x0, 0x8000FFFF, 0x0, false⟩,
   ⟨0x400300A0, 0x0, 0xFFFFFFFF, 0x0, false⟩,
   ⟨0x400300A4, 0x0, 0x8000FFFF, 0x0, false⟩,
   ⟨0x400300A8, 0x0, 0xFFFFFFFF, 0x0, false⟩,
   ⟨0x400300AC, 0x0, 0x8000FFFF, 0x0, false⟩,
   ⟨0x400300B0, 0x0, 0xFFFFFFFF, 0x0, false⟩,
   ⟨0x400300B4, 0x0, 0x8000FFFF, 0x0, false⟩,
   ⟨0x400300B8, 0x0, 0xFFFFFFFF, 0x0, false⟩,
   ⟨0x400300BC, 0x0, 0x8000FFFF, 0x0, false⟩,
   ⟨0x40030100, 0x0, 0xFFFFFFFF, 0x0, false⟩,
   ⟨0x40030104, 0x0, 0xFFFF, 0x0, false⟩,
   ⟨0x40030108, 0x8, 0x1FFF, 0x0, false⟩,
   ⟨0x4003010C, 0x0, 0x0, 0x0, false⟩,
   ⟨0x40030180, 0x0, 0xFFFFFFFF, 0x0, false⟩,
   ⟨0x40030184, 0x0, 0xFFFF, 0x0, false⟩,
   ⟨0x40030188, 0x8, 0x7FF, 0x0, false⟩,
   ⟨0x4003018C, 0x0, 0x0, 0x0, false⟩,
   ⟨0x40030190, 0x0, 0xFFFFFFFF, 0x0, false⟩,
   ⟨0x40030194, 0x0, 0xFFFF, 0x0, false⟩,
   ⟨0x40030198, 0x8, 0x7FF, 0x0, false⟩,
   ⟨0x4003019C, 0x0, 0x0, 0x0, false⟩,
   ⟨0x400301A0, 0x0, 0xFFFFFFFF, 0x0, false⟩,
   ⟨0x400301A4, 0x0, 0xFFFF, 0x0, false⟩,
   ⟨0x400301A8, 0x8, 0x7FF, 0x0, false⟩,
   ⟨0x400301AC, 0x0, 0x0, 0x0, false⟩,
   ⟨0x400301B0, 0x0, 0xFFFFFFFF, 0x0, false⟩,
   ⟨0x400301B4, 0x0, 0xFFFF, 0x0, false⟩,
   ⟨0x400301B8, 0x8, 0x7FF, 0x0, false⟩,
   ⟨0x400301BC, 0x0, 0x0, 0x0, false⟩,
   ⟨0x400301C0, 0x0, 0xFFFFFFFF, 0x0, false⟩]

/-- Registers 0x400301C4 on. -/
def regRows30_1 : List RegRow :=
  [⟨0x400301C4, 0x0, 0xFFFF, 0x0, false⟩,
   ⟨0x400301C8, 0x8, 0x7FF, 0x0, false⟩,
   ⟨0x400301CC, 0x0, 0x0, 0x0, false⟩,
   ⟨0x400301D0, 0x0, 0xFFFFFFFF, 0x0, false⟩,
   ⟨0x400301D4, 0x0, 0xFFFF, 0x0, false⟩,
   ⟨0x400301D8, 0x8, 0x7FF, 0x0, false⟩,
   ⟨0x400301DC, 0x0, 0x0, 0x0, false⟩,
   ⟨0x400301E0, 0x0, 0xFFFFFFFF, 0x0, false⟩,
   ⟨0x400301E4, 0x0, 0xFFFF, 0x0, false⟩,
   ⟨0x400301E8, 0x8, 0x7FF, 0x0, false⟩,
   ⟨0x400301EC, 0x0, 0x0, 0x0, false⟩,
   ⟨0x400301F0, 0x0, 0xFFFFFFFF, 0x0, false⟩,
   ⟨0x400301F4, 0x0, 0xFFFF, 0x0, false⟩,
   ⟨0x400301F8, 0x8, 0x7FF, 0x0, false⟩,
   ⟨0x400301FC, 0x0, 0x0, 0x0, false⟩,
   ⟨0x40030200, 0x0, 0x0, 0x0, true⟩,
   ⟨0x40030204, 0x0, 0x0, 0x0, true⟩,
   ⟨0x40030208, 0x0, 0x0, 0x0, true⟩,
   ⟨0x4003020C, 0x0, 0x0, 0x0, true⟩,
   ⟨0x40030210, 0x0, 0x0, 0x0, true⟩,
   ⟨0x40030214, 0x0, 0x0, 0x0, true⟩,
   ⟨0x40030218, 0x0, 0x0, 0x0, true⟩,
   ⟨0x4003021C, 0x0, 0x0, 0x0, true⟩,
   ⟨0x40030220, 0x0, 0x0, 0x0, true⟩,
   ⟨0x40030224, 0x0, 0x0, 0x0, true⟩,
   ⟨0x40030228, 0x0, 0x0, 0x0, true⟩,
   ⟨0x4003022C, 0x0, 0x0, 0x0, false⟩]

/-- Registers 0x40040000 on. -/
def regRows40_0 : List RegRow :=
  [⟨0x40040000, 0x80, 0x1F7, 0x0, false⟩,
   ⟨0x40040004, 0x0, 0x0, 0x700, false⟩,
   ⟨0x40040008, 0x0, 0xFFF, 0x0, false⟩,
   ⟨0x4004000C, 0x3C00C8, 0xFFFFFFFF, 0x0, false⟩,
   ⟨0x40040010, 0x0, 0x0, 0x0, false⟩,
   ⟨0x40040014, 0x0, 0x0, 0x3F, false⟩,
   ⟨0x40040018, 0x0, 0x3F, 0x0, false⟩,
   ⟨0x40040040, 0x0, 0xFFFFFFFF, 0x0, false⟩,
   ⟨0x40040044, 0x80000000, 0x8000FFFF, 0x0, false⟩,
   ⟨0x40040048, 0x0, 0xFFFFFFFF, 0x0, false⟩,
   ⟨0x4004004C, 0x0, 0x8000FFFF, 0x0, false⟩,
   ⟨0x40040050, 0x0, 0xFFFFFFFF, 0x0, false⟩,
   ⟨0x40040054, 0x0, 0x8000FFFF, 0x0, false⟩,
   ⟨0x40040058, 0x0, 0xFFFFFFFF, 0x0, false⟩,
   ⟨0x4004005C, 0x0, 0x8000FFFF, 0x0, false⟩,
   ⟨0x40040060, 0x0, 0xFFFFFFFF, 0x0, false⟩,
   ⟨0x40040064, 0x0, 0x8000FFFF, 0x0, false⟩,
   ⟨0x40040068, 0x0, 0xFFFFFFFF, 0x0, false⟩,
   ⟨0x4004006C, 0x0, 0x8000FFFF, 0x0, false⟩,
   ⟨0x40040070, 0x0, 0xFFFFFFFF, 0x0, false⟩,
   ⟨0x40040074, 0x0, 0x8000FFFF, 0x0, false⟩,
   ⟨0x40040078, 0x0, 0xFFFFFFFF, 0x0, false⟩,
   ⟨0x4004007C, 0x0, 0x8000FFFF, 0x0, false⟩,
   ⟨0x40040080, 0x0, 0xFFFFFFFF, 0x0, false⟩,
   ⟨0x40040084, 0x0, 0x8000FFFF, 0x0, false⟩,
   ⟨0x40040088, 0x0, 0xFFFFFFFF, 0x0, false⟩,
   ⟨0x4004008C, 0x0, 0x8000FFFF, 0x0, false⟩,
   ⟨0x40040090, 0x0, 0xFFFFFFFF, 0x0, false⟩,
   ⟨0x40040094, 0x0, 0x8000FFFF, 0x0, false⟩,
   ⟨0x40040098, 0x0, 0xFFFFFFFF, 0x0, false⟩,
   ⟨0x4004009C, 0x0, 0x8000FFFF, 0x0, false⟩,
   ⟨0x400400A0, 0x0, 0xFFFFFFFF, 0x0, false⟩,
   ⟨0x400400A4, 0x0, 0x8000FFFF, 0x0, false⟩,
   ⟨0x400400A8, 0x0, 0xFFFFFFFF, 0x0, false⟩,
   ⟨0x400400AC, 0x0, 0x8000FFFF, 0x0, false⟩,
   ⟨0x400400B0, 0x0, 0xFFFFFFFF, 0x0, false⟩,
   ⟨0x400400B4, 0x0, 0x8000FFFF, 0x0, false⟩,
   ⟨0x400400B8, 0x0, 0xFFFFFFFF, 0x0, false⟩,
   ⟨0x400400BC, 0x0, 0x8000FFFF, 0x0, false⟩,
   ⟨0x40040100, 0x0, 0xFFFFFFFF, 0x0, false⟩,
   ⟨0x40040104, 0x0, 0xFFFF, 0x0, false⟩,
   ⟨0x40040108, 0x8, 0x1FFF, 0x0, false⟩,
   ⟨0x4004010C, 0x0, 0x0, 0x0, false⟩,
   ⟨0x40040180, 0x0, 0xFFFFFFFF, 0x0, false⟩,
   ⟨0x40040184, 0x0, 0xFFFF, 0x0, false⟩,
   ⟨0x40040188, 0x8, 0x7FF, 0x0, false⟩,
   ⟨0x4004018C, 0x0, 0x0, 0x0, false⟩,
   ⟨0x40040190, 0x0, 0xFFFFFFFF, 0x0, false⟩,
   ⟨0x40040194, 0x0, 0xFFFF, 0x0, false⟩,
   ⟨0x40040198, 0x8, 0x7FF, 0x0, false⟩,
   ⟨0x4004019C, 0x0, 0x0, 0x0, false⟩,
   ⟨0x400401A0, 0x0, 0xFFFFFFFF, 0x0, false⟩,
   ⟨0x400401A4, 0x0, 0xFFFF, 0x0, false⟩,
   ⟨0x400401A8, 0x8, 0x7FF, 0x0, false⟩,
   ⟨0x400401AC, 0x0, 0x0, 0x0, false⟩,
   ⟨0x400401B0, 0x0, 0xFFFFFFFF, 0x0, false⟩,
   ⟨0x400401B4, 0x0, 0xFFFF, 0x0, false⟩,
   ⟨0x400401B8, 0x8, 0x7FF, 0x0, false⟩,
   ⟨0x400401BC, 0x0, 0x0, 0x0, false⟩,
   ⟨0x400401C0, 0x0, 0xFFFFFFFF, 0x0, false⟩]

/-- Registers 0x400401C4 on. -/
def regRows40_1 : List RegRow :=
  [⟨0x400401C4, 0x0, 0xFFFF, 0x0, false⟩,
   ⟨0x400401C8, 0x8, 0x7FF, 0x0, false⟩,
   ⟨0x400401CC, 0x0, 0x0, 0x0, false⟩,
   ⟨0x400401D0, 0x0, 0xFFFFFFFF, 0x0, false⟩,
   ⟨0x400401D4, 0x0, 0xFFFF, 0x0, false⟩,
   ⟨0x400401D8, 0x8, 0x7FF, 0x0, false⟩,
   ⟨0x400401DC, 0x0, 0x0, 0x0, false⟩,
   ⟨0x400401E0, 0x0, 0xFFFFFFFF, 0x0, false⟩,
   ⟨0x400401E4, 0x0, 0xFFFF, 0x0, false⟩,
   ⟨0x400401E8, 0x8, 0x7FF, 0x0, false⟩,
   ⟨0x400401EC, 0x0, 0x0, 0x0, false⟩,
   ⟨0x400401F0, 0x0, 0xFFFFFFFF, 0x0, false⟩,
   ⟨0x400401F4, 0x0, 0xFFFF, 0x0, false⟩,
   ⟨0x400401F8, 0x8, 0x7FF, 0x0, false⟩,
   ⟨0x400401FC, 0x0, 0x0, 0x0, false⟩,
   ⟨0x40040200, 0x0, 0x0, 0x0, true⟩,
   ⟨0x40040204, 0x0, 0x0, 0x0, true⟩,
   ⟨0x40040208, 0x0, 0x0, 0x0, true⟩,
   ⟨0x4004020C, 0x0, 0x0, 0x0, true⟩,
   ⟨0x40040210, 0x0, 0x0, 0x0, true⟩,
   ⟨0x40040214, 0x0, 0x0, 0x0, true⟩,
   ⟨0x40040218, 0x0, 0x0, 0x0, true⟩,
   ⟨0x4004021C, 0x0, 0x0, 0x0, true⟩,
   ⟨0x40040220, 0x0, 0x0, 0x0, true⟩,
   ⟨0x40040224, 0x0, 0x0, 0x0, true⟩,
   ⟨0x40040228, 0x0, 0x0, 0x0, true⟩,
   ⟨0x4004022C, 0x0, 0x0, 0x0, false⟩]

/-- Registers 0x40050004 on. -/
def regRows50_0 : List RegRow :=
  [⟨0x40050004, 0x0, 0x1FF, 0x0, false⟩,
   ⟨0x40050008, 0x0, 0x0, 0x0, false⟩,
   ⟨0x4005000C, 0x0, 0x0, 0x0, false⟩,
   ⟨0x40050010, 0x0, 0x0, 0x0, false⟩,
   ⟨0x40050100, 0x290, 0x1FFFFFF, 0x0, false⟩,
   ⟨0x40050104, 0x3, 0xFFFFFFFF, 0x0, false⟩,
   ⟨0x40050108, 0x3, 0xFFFFFFFF, 0x0, false⟩,
   ⟨0x4005010C, 0x0, 0x0, 0x0, false⟩,
   ⟨0x40050110, 0x0, 0x0, 0x0, false⟩,
   ⟨0x40050114, 0x0, 0x0, 0x0, false⟩,
   ⟨0x40050118, 0x0, 0x0, 0x0, false⟩,
   ⟨0x4005011C, 0x0, 0x0, 0x0, false⟩,
   ⟨0x40050120, 0x70, 0x0, 0x3F00, false⟩,
   ⟨0x40050124, 0x0, 0x0, 0x0, false⟩,
   ⟨0x40050128, 0x0, 0x0, 0x0, false⟩,
   ⟨0x4005012C, 0x0, 0x0, 0x0, false⟩,
   ⟨0x40050130, 0x3, 0x7, 0x0, false⟩,
   ⟨0x40050134, 0x0, 0x0, 0x0, true⟩,
   ⟨0x40050138, 0x0, 0x0, 0x0, true⟩,
   ⟨0x4005013C, 0x0, 0x0, 0x0, true⟩,
   ⟨0x40050140, 0x0, 0x0, 0x0, false⟩,
   ⟨0x40050144, 0x0, 0x0, 0x0, false⟩,
   ⟨0x40050148, 0x0, 0x0, 0x0, false⟩,
   ⟨0x4005014C, 0x800000, 0x0, 0x0, false⟩,
   ⟨0x40050150, 0x10001000, 0x7F007F03, 0x0, false⟩,
   ⟨0x40050200, 0x290, 0x1FFFFFF, 0x0, false⟩,
   ⟨0x40050204, 0x3, 0xFFFFFFFF, 0x0, false⟩,
   ⟨0x40050208, 0x3, 0xFFFFFFFF, 0x0, false⟩,
   ⟨0x4005020C, 0x0, 0x0, 0x0, false⟩,
   ⟨0x40050210, 0x0, 0x0, 0x0, false⟩,
   ⟨0x40050214, 0x0, 0x0, 0x0, false⟩,
   ⟨0x40050218, 0x0, 0x0, 0x0, false⟩,
   ⟨0x4005021C, 0x0, 0x0, 0x0, false⟩,
   ⟨0x40050220, 0x70, 0x0, 0x3F00, false⟩,
   ⟨0x40050224, 0x0, 0x0, 0x0, false⟩,
   ⟨0x40050228, 0x0, 0x0, 0x0, false⟩,
   ⟨0x4005022C, 0x0, 0x0, 0x0, false⟩,
   ⟨0x40050230, 0x3, 0x7, 0x0, false⟩,
   ⟨0x40050234, 0x0, 0x0, 0x0, true⟩,
   ⟨0x40050238, 0x0, 0x0, 0x0, true⟩,
   ⟨0x4005023C, 0x0, 0x0, 0x0, true⟩,
   ⟨0x40050240, 0x0, 0x0, 0x0, false⟩,
   ⟨0x40050244, 0x0, 0x0, 0x0, false⟩,
   ⟨0x40050248, 0x0, 0x0, 0x0, false⟩,
   ⟨0x4005024C, 0x800000, 0x0, 0x0, false⟩,
   ⟨0x40050250, 0x10001000, 0x7F007F03, 0x0, false⟩,
   ⟨0x40050300, 0x290, 0x1FFFFFF, 0x0, false⟩,
   ⟨0x40050304, 0x3, 0xFFFFFFFF, 0x0, false⟩,
   ⟨0x40050308, 0x3, 0xFFFFFFFF, 0x0, false⟩,
   ⟨0x4005030C, 0x0, 0x0, 0x0, false⟩,
   ⟨0x40050310, 0x0, 0x0, 0x0, false⟩,
   ⟨0x40050314, 0x0, 0x0, 0x0, false⟩,
   ⟨0x40050318, 0x0, 0x0, 0x0, false⟩,
   ⟨0x4005031C, 0x0, 0x0, 0x0, false⟩,
   ⟨0x40050320, 0x70, 0x0, 0x3F00, false⟩,
   ⟨0x40050324, 0x0, 0x0, 0x0, false⟩,
   ⟨0x40050328, 0x0, 0x0, 0x0, false⟩,
   ⟨0x4005032C, 0x0, 0x0, 0x0, false⟩,
   ⟨0x40050330, 0x3, 0x7, 0x0, false⟩,
   ⟨0x40050334, 0x0, 0x0, 0x0, true⟩]

/-- Registers 0x40050338 on. -/
def regRows50_1 : List RegRow :=
  [⟨0x40050338, 0x0, 0x0, 0x0, true⟩,
   ⟨0x4005033C, 0x0, 0x0, 0x0, true⟩,
   ⟨0x40050340, 0x0, 0x0, 0x0, false⟩,
   ⟨0x40050344, 0x0, 0x0, 0x0, false⟩,
   ⟨0x40050348, 0x0, 0x0, 0x0, false⟩,
   ⟨0x4005034C, 0x800000, 0x0, 0x0, false⟩,
   ⟨0x40050350, 0x10001000, 0x7F007F03, 0x0, false⟩,
   ⟨0x40050400, 0x290, 0x1FFFFFF, 0x0, false⟩,
   ⟨0x40050404, 0x3, 0xFFFFFFFF, 0x0, false⟩,
   ⟨0x40050408, 0x3, 0xFFFFFFFF, 0x0, false⟩,
   ⟨0x4005040C, 0x0, 0x0, 0x0, false⟩,
   ⟨0x40050410, 0x0, 0x0, 0x0, false⟩,
   ⟨0x40050414, 0x0, 0x0, 0x0, false⟩,
   ⟨0x40050418, 0x0, 0x0, 0x0, false⟩,
   ⟨0x4005041C, 0x0, 0x0, 0x0, false⟩,
   ⟨0x40050420, 0x70, 0x0, 0x3F00, false⟩,
   ⟨0x40050424, 0x0, 0x0, 0x0, false⟩,
   ⟨0x40050428, 0x0, 0x0, 0x0, false⟩,
   ⟨0x4005042C, 0x0, 0x0, 0x0, false⟩,
   ⟨0x40050430, 0x3, 0x7, 0x0, false⟩,
   ⟨0x40050434, 0x0, 0x0, 0x0, true⟩,
   ⟨0x40050438, 0x0, 0x0, 0x0, true⟩,
   ⟨0x4005043C, 0x0, 0x0, 0x0, true⟩,
   ⟨0x40050440, 0x0, 0x0, 0x0, false⟩,
   ⟨0x40050444, 0x0, 0x0, 0x0, false⟩,
   ⟨0x40050448, 0x0, 0x0, 0x0, false⟩,
   ⟨0x4005044C, 0x800000, 0x0, 0x0, false⟩,
   ⟨0x40050450, 0x10001000, 0x7F007F03, 0x0, false⟩,
   ⟨0x40050500, 0x290, 0x1FFFFFF, 0x0, false⟩,
   ⟨0x40050504, 0x3, 0xFFFFFFFF, 0x0, false⟩,
   ⟨0x40050508, 0x3, 0xFFFFFFFF, 0x0, false⟩,
   ⟨0x4005050C, 0x0, 0x0, 0x0, false⟩,
   ⟨0x40050510, 0x0, 0x0, 0x0, false⟩,
   ⟨0x40050514, 0x0, 0x0, 0x0, false⟩,
   ⟨0x40050518, 0x0, 0x0, 0x0, false⟩,
   ⟨0x4005051C, 0x0, 0x0, 0x0, false⟩,
   ⟨0x40050520, 0x70, 0x0, 0x3F00, false⟩,
   ⟨0x40050524, 0x0, 0x0, 0x0, false⟩,
   ⟨0x40050528, 0x0, 0x0, 0x0, false⟩,
   ⟨0x4005052C, 0x0, 0x0, 0x0, false⟩,
   ⟨0x40050530, 0x3, 0x7, 0x0, false⟩,
   ⟨0x40050534, 0x0, 0x0, 0x0, true⟩,
   ⟨0x40050538, 0x0, 0x0, 0x0, true⟩,
   ⟨0x4005053C, 0x0, 0x0, 0x0, true⟩,
   ⟨0x40050540, 0x0, 0x0, 0x0, false⟩,
   ⟨0x40050544, 0x0, 0x0, 0x0, false⟩,
   ⟨0x40050548, 0x0, 0x0, 0x0, false⟩,
   ⟨0x4005054C, 0x800000, 0x0, 0x0, false⟩,
   ⟨0x40050550, 0x10001000, 0x7F007F03, 0x0, false⟩,
   ⟨0x40050600, 0x290, 0x1FFFFFF, 0x0, false⟩,
   ⟨0x40050604, 0x3, 0xFFFFFFFF, 0x0, false⟩,
   ⟨0x40050608, 0x3, 0xFFFFFFFF, 0x0, false⟩,
   ⟨0x4005060C, 0x0, 0x0, 0x0, false⟩,
   ⟨0x40050610, 0x0, 0x0, 0x0, false⟩,
   ⟨0x40050614, 0x0, 0x0, 0x0, false⟩,
   ⟨0x40050618, 0x0, 0x0, 0x0, false⟩,
   ⟨0x4005061C, 0x0, 0x0, 0x0, false⟩,
   ⟨0x40050620, 0x70, 0x0, 0x3F00, false⟩,
   ⟨0x40050624, 0x0, 0x0, 0x0, false⟩,
   ⟨0x40050628, 0x0, 0x0, 0x0, false⟩]

/-- Registers 0x4005062C on. -/
def regRows50_2 : List RegRow :=
  [⟨0x4005062C, 0x0, 0x0, 0x0, false⟩,
   ⟨0x40050630, 0x3, 0x7, 0x0, false⟩,
   ⟨0x40050634, 0x0, 0x0, 0x0, true⟩,
   ⟨0x40050638, 0x0, 0x0, 0x0, true⟩,
   ⟨0x4005063C, 0x0, 0x0, 0x0, true⟩,
   ⟨0x40050640, 0x0, 0x0, 0x0, false⟩,
   ⟨0x40050644, 0x0, 0x0, 0x0, false⟩,
   ⟨0x40050648, 0x0, 0x0, 0x0, false⟩,
   ⟨0x4005064C, 0x800000, 0x0, 0x0, false⟩,
   ⟨0x40050650, 0x10001000, 0x7F007F03, 0x0, false⟩,
   ⟨0x40050700, 0x290, 0x1FFFFFF, 0x0, false⟩,
   ⟨0x40050704, 0x3, 0xFFFFFFFF, 0x0, false⟩,
   ⟨0x40050708, 0x3, 0xFFFFFFFF, 0x0, false⟩,
   ⟨0x4005070C, 0x0, 0x0, 0x0, false⟩,
   ⟨0x40050710, 0x0, 0x0, 0x0, false⟩,
   ⟨0x40050714, 0x0, 0x0, 0x0, false⟩,
   ⟨0x40050718, 0x0, 0x0, 0x0, false⟩,
   ⟨0x4005071C, 0x0, 0x0, 0x0, false⟩,
   ⟨0x40050720, 0x70, 0x0, 0x3F00, false⟩,
   ⟨0x40050724, 0x0, 0x0, 0x0, false⟩,
   ⟨0x40050728, 0x0, 0x0, 0x0, false⟩,
   ⟨0x4005072C, 0x0, 0x0, 0x0, false⟩,
   ⟨0x40050730, 0x3, 0x7, 0x0, false⟩,
   ⟨0x40050734, 0x0, 0x0, 0x0, true⟩,
   ⟨0x40050738, 0x0, 0x0, 0x0, true⟩,
   ⟨0x4005073C, 0x0, 0x0, 0x0, true⟩,
   ⟨0x40050740, 0x0, 0x0, 0x0, false⟩,
   ⟨0x40050744, 0x0, 0x0, 0x0, false⟩,
   ⟨0x40050748, 0x0, 0x0, 0x0, false⟩,
   ⟨0x4005074C, 0x800000, 0x0, 0x0, false⟩,
   ⟨0x40050750, 0x10001000, 0x7F007F03, 0x0, false⟩,
   ⟨0x40050800, 0x290, 0x1FFFFFF, 0x0, false⟩,
   ⟨0x40050804, 0x3, 0xFFFFFFFF, 0x0, false⟩,
   ⟨0x40050808, 0x3, 0xFFFFFFFF, 0x0, false⟩,
   ⟨0x4005080C, 0x0, 0x0, 0x0, false⟩,
   ⟨0x40050810, 0x0, 0x0, 0x0, false⟩,
   ⟨0x40050814, 0x0, 0x0, 0x0, false⟩,
   ⟨0x40050818, 0x0, 0x0, 0x0, false⟩,
   ⟨0x4005081C, 0x0, 0x0, 0x0, false⟩,
   ⟨0x40050820, 0x70, 0x0, 0x3F00, false⟩,
   ⟨0x40050824, 0x0, 0x0, 0x0, false⟩,
   ⟨0x40050828, 0x0, 0x0, 0x0, false⟩,
   ⟨0x4005082C, 0x0, 0x0, 0x0, false⟩,
   ⟨0x40050830, 0x3, 0x7, 0x0, false⟩,
   ⟨0x40050834, 0x0, 0x0, 0x0, true⟩,
   ⟨0x40050838, 0x0, 0x0, 0x0, true⟩,
   ⟨0x4005083C, 0x0, 0x0, 0x0, true⟩,
   ⟨0x40050840, 0x0, 0x0, 0x0, false⟩,
   ⟨0x40050844, 0x0, 0x0, 0x0, false⟩,
   ⟨0x40050848, 0x0, 0x0, 0x0, false⟩,
   ⟨0x4005084C, 0x800000, 0x0, 0x0, false⟩,
   ⟨0x40050850, 0x10001000, 0x7F007F03, 0x0, false⟩]

/-- Registers 0x40060000 on. -/
def regRows60_0 : List RegRow :=
  [⟨0x40060000, 0x0, 0xF, 0x0, false⟩,
   ⟨0x40060010, 0x0, 0xFFFFFFFF, 0x0, false⟩,
   ⟨0x40060014, 0x0, 0x0, 0x0, false⟩,
   ⟨0x40060018, 0x0, 0xF1, 0x0, false⟩,
   ⟨0x40060020, 0x0, 0xFFFFFFFF, 0x0, false⟩,
   ⟨0x40060024, 0x0, 0x0, 0x0, false⟩,
   ⟨0x40060028, 0x0, 0xF1, 0x0, false⟩,
   ⟨0x40060030, 0x0, 0xFFFFFFFF, 0x0, false⟩,
   ⟨0x40060034, 0x0, 0x0, 0x0, false⟩,
   ⟨0x40060038, 0x0, 0xF1, 0x0, false⟩,
   ⟨0x40060040, 0x0, 0xFFFFFFFF, 0x0, false⟩,
   ⟨0x40060044, 0x0, 0x0, 0x0, false⟩,
   ⟨0x40060048, 0x0, 0xF1, 0x0, false⟩,
   ⟨0x40060050, 0x0, 0xFFFFFFFF, 0x0, false⟩,
   ⟨0x40060054, 0x0, 0x3FFFFFFF, 0x0, false⟩,
   ⟨0x40060058, 0x0, 0x1, 0x0, false⟩,
   ⟨0x40060060, 0x0, 0x0, 0x0, false⟩,
   ⟨0x40060064, 0x0, 0x0, 0x0, false⟩,
   ⟨0x40060068, 0x0, 0x0, 0x0, false⟩,
   ⟨0x40060070, 0x0, 0x0, 0x3F, false⟩,
   ⟨0x40060074, 0x0, 0x3F, 0x0, false⟩,
   ⟨0x40060080, 0x1, 0x0, 0x0, false⟩,
   ⟨0x40060084, 0x186A0, 0x0, 0x0, false⟩,
   ⟨0x40060088, 0x0, 0x0, 0x0, false⟩,
   ⟨0x40060090, 0x0, 0x0, 0x0, true⟩,
   ⟨0x400600A0, 0x0, 0x0, 0x0, false⟩,
   ⟨0x400600A4, 0x0, 0x0, 0x0, false⟩,
   ⟨0x400600A8, 0x0, 0x0, 0x0, false⟩,
   ⟨0x400600F0, 0x0, 0x0, 0x0, false⟩]

/-- Registers 0x40080000 on. -/
def regRows80_0 : List RegRow :=
  [⟨0x40080000, 0x0, 0x7, 0x0, false⟩,
   ⟨0x40080004, 0x0, 0x3FFFFFF, 0x0, false⟩,
   ⟨0x40080008, 0x100, 0x1FF, 0x0, false⟩,
   ⟨0x4008000C, 0x0, 0x0, 0xE, false⟩,
   ⟨0x40080010, 0x0, 0x0, 0x0, false⟩,
   ⟨0x40080014, 0x0, 0x0, 0x0, false⟩,
   ⟨0x40080018, 0x0, 0x1, 0x0, false⟩,
   ⟨0x40080100, 0x0, 0xFFFFFFFF, 0x0, false⟩,
   ⟨0x40080104, 0x0, 0xFFFFFFFF, 0x0, false⟩,
   ⟨0x40080108, 0x0, 0xFFFFFFFF, 0x0, false⟩,
   ⟨0x4008010C, 0x0, 0xFFFFFFFF, 0x0, false⟩,
   ⟨0x40080110, 0x0, 0xFFFFFFFF, 0x0, false⟩,
   ⟨0x40080114, 0x0, 0xFFFFFFFF, 0x0, false⟩,
   ⟨0x40080118, 0x0, 0xFFFFFFFF, 0x0, false⟩,
   ⟨0x4008011C, 0x0, 0xFFFFFFFF, 0x0, false⟩,
   ⟨0x40080120, 0x0, 0xFFFFFFFF, 0x0, false⟩,
   ⟨0x40080124, 0x0, 0xFFFFFFFF, 0x0, false⟩,
   ⟨0x40080128, 0x0, 0xFFFFFFFF, 0x0, false⟩,
   ⟨0x4008012C, 0x0, 0xFFFFFFFF, 0x0, false⟩,
   ⟨0x40080130, 0x0, 0xFFFFFFFF, 0x0, false⟩,
   ⟨0x40080134, 0x0, 0xFFFFFFFF, 0x0, false⟩,
   ⟨0x40080138, 0x0, 0xFFFFFFFF, 0x0, false⟩,
   ⟨0x4008013C, 0x0, 0xFFFFFFFF, 0x0, false⟩,
   ⟨0x40080140, 0x0, 0xFFFFFFFF, 0x0, false⟩,
   ⟨0x40080144, 0x0, 0xFFFFFFFF, 0x0, false⟩,
   ⟨0x40080148, 0x0, 0xFFFFFFFF, 0x0, false⟩,
   ⟨0x4008014C, 0x0, 0xFFFFFFFF, 0x0, false⟩,
   ⟨0x40080150, 0x0, 0xFFFFFFFF, 0x0, false⟩,
   ⟨0x40080154, 0x0, 0xFFFFFFFF, 0x0, false⟩,
   ⟨0x40080158, 0x0, 0xFFFFFFFF, 0x0, false⟩,
   ⟨0x4008015C, 0x0, 0xFFFFFFFF, 0x0, false⟩,
   ⟨0x40080160, 0x0, 0xFFFFFFFF, 0x0, false⟩,
   ⟨0x40080164, 0x0, 0xFFFFFFFF, 0x0, false⟩,
   ⟨0x40080168, 0x0, 0xFFFFFFFF, 0x0, false⟩,
   ⟨0x4008016C, 0x0, 0xFFFFFFFF, 0x0, false⟩,
   ⟨0x40080170, 0x0, 0xFFFFFFFF, 0x0, false⟩,
   ⟨0x40080174, 0x0, 0xFFFFFFFF, 0x0, false⟩,
   ⟨0x40080178, 0x0, 0xFFFFFFFF, 0x0, false⟩,
   ⟨0x4008017C, 0x0, 0xFFFFFFFF, 0x0, false⟩,
   ⟨0x40080180, 0x0, 0xFFFFFFFF, 0x0, false⟩,
   ⟨0x40080184, 0x0, 0xFFFFFFFF, 0x0, false⟩,
   ⟨0x40080188, 0x0, 0xFFFFFFFF, 0x0, false⟩,
   ⟨0x4008018C, 0x0, 0xFFFFFFFF, 0x0, false⟩,
   ⟨0x40080190, 0x0, 0xFFFFFFFF, 0x0, false⟩,
   ⟨0x40080194, 0x0, 0xFFFFFFFF, 0x0, false⟩,
   ⟨0x40080198, 0x0, 0xFFFFFFFF, 0x0, false⟩,
   ⟨0x4008019C, 0x0, 0xFFFFFFFF, 0x0, false⟩,
   ⟨0x400801A0, 0x0, 0xFFFFFFFF, 0x0, false⟩,
   ⟨0x400801A4, 0x0, 0xFFFFFFFF, 0x0, false⟩,
   ⟨0x400801A8, 0x0, 0xFFFFFFFF, 0x0, false⟩,
   ⟨0x400801AC, 0x0, 0xFFFFFFFF, 0x0, false⟩,
   ⟨0x400801B0, 0x0, 0xFFFFFFFF, 0x0, false⟩,
   ⟨0x400801B4, 0x0, 0xFFFFFFFF, 0x0, false⟩,
   ⟨0x400801B8, 0x0, 0xFFFFFFFF, 0x0, false⟩,
   ⟨0x400801BC, 0x0, 0xFFFFFFFF, 0x0, false⟩,
   ⟨0x400801C0, 0x0, 0xFFFFFFFF, 0x0, false⟩,
   ⟨0x400801C4, 0x0, 0xFFFFFFFF, 0x0, false⟩,
   ⟨0x400801C8, 0x0, 0xFFFFFFFF, 0x0, false⟩,
   ⟨0x400801CC, 0x0, 0xFFFFFFFF, 0x0, false⟩,
   ⟨0x400801D0, 0x0, 0xFFFFFFFF, 0x0, false⟩]

/-- Registers 0x400801D4 on. -/
def regRows80_1 : List RegRow :=
  [⟨0x400801D4, 0x0, 0xFFFFFFFF, 0x0, false⟩,
   ⟨0x400801D8, 0x0, 0xFFFFFFFF, 0x0, false⟩,
   ⟨0x400801DC, 0x0, 0xFFFFFFFF, 0x0, false⟩,
   ⟨0x400801E0, 0x0, 0xFFFFFFFF, 0x0, false⟩,
   ⟨0x400801E4, 0x0, 0xFFFFFFFF, 0x0, false⟩,
   ⟨0x400801E8, 0x0, 0xFFFFFFFF, 0x0, false⟩,
   ⟨0x400801EC, 0x0, 0xFFFFFFFF, 0x0, false⟩,
   ⟨0x400801F0, 0x0, 0xFFFFFFFF, 0x0, false⟩,
   ⟨0x400801F4, 0x0, 0xFFFFFFFF, 0x0, false⟩,
   ⟨0x400801F8, 0x0, 0xFFFFFFFF, 0x0, false⟩,
   ⟨0x400801FC, 0x0, 0xFFFFFFFF, 0x0, false⟩]

/-- The rows among which an address is looked up. -/
def regChunk (addr : Nat) : List RegRow :=
  if addr < 0x40010000 then regRows00_0 else
  if addr < 0x40010208 then regRows10_0 else
  if addr < 0x40020000 then regRows10_1 else
  if addr < 0x40030000 then regRows20_0 else
  if addr < 0x400301C4 then regRows30_0 else
  if addr < 0x40040000 then regRows30_1 else
  if addr < 0x400401C4 then regRows40_0 else
  if addr < 0x40050004 then regRows40_1 else
  if addr < 0x40050338 then regRows50_0 else
  if addr < 0x4005062C then regRows50_1 else
  if addr < 0x40060000 then regRows50_2 else
  if addr < 0x40080000 then regRows60_0 else
  if addr < 0x400801D4 then regRows80_0 else
  regRows80_1

/-- The row of a register address, none where no table lists it. -/
def regRow (addr : Nat) : Option RegRow := (regChunk addr).find? fun r => r.addr == addr

/-- The default MacBase: 02, four bytes of SHA-256 over the unique ID, 00 (R146). -/
def defaultMacBase : List Byte := (0x02 : Byte) :: ((Config.sha256 Config.uniqueId).take 4 ++ [0])

/-- CMAC_ADDR0 of a control port's address: MacBase with its last byte set (R512, R513). -/
def cmacAddr0 (macBase : List Byte) (last : Nat) (hi : Bool) : Nat :=
  let a := macBase.take 5 ++ [BitVec.ofNat 8 last]
  if hi then 0x80000000 + fromBe (a.take 2) else fromBe (a.drop 2)

/-- The reset value of a register; an unlisted address reads 0 (R517). The aperture base starts at the region's base
(R543), slot 0 of a control MAC at the port's address (R512). -/
def regReset (addr : Nat) : Word :=
  BitVec.ofNat 32 (match addr with
    | 0x40020030 => Config.hbmRegion % 1024
    | 0x40030040 => cmacAddr0 defaultMacBase 0xFE false
    | 0x40030044 => cmacAddr0 defaultMacBase 0xFE true
    | 0x40040040 => cmacAddr0 defaultMacBase 0xFF false
    | 0x40040044 => cmacAddr0 defaultMacBase 0xFF true
    | _ => (regRow addr).elim 0 (·.reset))

end Sys2Proof.Machine
end

