-- ==== Sys2Proof/Machine/State.lean ====
section
/-!
DEFINITION. The state of the block, as plain data. Dictionary objects stand in one store and helper registers in another;
what the chapters describe and no object reports stands in the structures below, one block at a time. Tables hold only
what differs from its initial condition.
-/
namespace Sys2Proof.Machine

/-! ## What the device sends -/

/-- The bytes of a response after the 16 of R461, by request (R463, R465, R468). -/
inductive Body where
  | none
  | read (total : Nat) (value : List Byte)
  | write (effectiveAt : Nat)
  | bulkRead (items : List (Nat × List Byte))
  | bulkWrite (statuses : List Nat)
  | salvo (number state count change boundary : Nat)
  deriving DecidableEq, Repr

/-- An event record (R469, R570): source, subject, time raised in nanoseconds. -/
structure EvRec where
  source : Nat
  subject : Nat
  time : Nat
  deriving DecidableEq, Repr

/-- What a colour stage does to working values (R254 to R263), as it stood when a frame was composited: input and output
colour, the settings of the conversion, and the tables in force where they are enabled. -/
structure StageLook where
  input : Nat := 0
  output : Nat := 0
  bypass : Bool := true
  onLayer : Bool := true                -- a layer stage: its tables come before the conversion
  compresses : Bool := false
  sdrPeak : Nat := 0
  hlgPeak : Nat := 0
  sourcePeak : Nat := 0
  refWhite : Nat := 0
  shaper : Option (List Byte) := none
  lut : Option (List Host.Cell) := none
  deriving DecidableEq, Repr

/-- How a video layer is scaled and placed (R226 to R231): format of its source, the field shown (0 the whole frame), whether it
scales single fields, crop, window, steps, the taps of the vertical filter and the coefficients (none for AUTO). -/
structure ScaleLook where
  layer : Nat := 0
  format : Nat := 0
  field : Nat := 0
  single : Bool := false
  crop : Nat × Nat × Nat × Nat := (0, 0, 0, 0)
  at_ : Int × Int := (0, 0)
  window : Nat × Nat := (0, 0)
  steps : Nat × Nat := (65536, 65536)
  taps : Nat := 6
  filter : Nat := 0                     -- LayerFilter
  coefH : List Byte := []
  coefV : List Byte := []
  deriving DecidableEq, Repr

/-- How a layer is blended (R232, R233): LayerAlpha, LayerAlphaMode and its colour stage. -/
structure BlendLook where
  alpha : Nat := 1024
  mode : Nat := 0
  stage : StageLook := {}
  deriving DecidableEq, Repr

/-- A picture, by what it is made of; Machine/Picture.lean gives its samples. -/
inductive Pic where
  /-- BLACK (R173). -/
  | black
  /-- A test generator's frame (R178, R179): generator, grid index, pattern, GenFlatValue, GenMotion and the colour code of the
  consumer. -/
  | generator (g index pattern flat : Nat) (motion : Bool) (colour : Nat)
  /-- A frame received by a source slot, by its number. -/
  | frame (slot seq : Nat)
  /-- A frame of a quad-link group (R59): division, and the lane offsets of links 1 to 4. -/
  | quad (slot seq division : Nat) (links : List Nat)
  /-- A frame whose lines from `line` on come from an older one (R169). -/
  | partialOf (newer older : Pic) (line : Nat)
  /-- A frame whose pixels in some spans, numbered through the frame in transmission order, are copied from an older one (R113). -/
  | patched (base older : Pic) (spans : List (Nat × Nat))
  /-- What a link of a quad-link group carries of a 2160p picture (R59): division, and the link from 0. -/
  | link (whole : Pic) (division number : Nat)
  /-- A frame with one block of a line replaced from another picture (R175). -/
  | concealed (base other : Pic) (line block : Nat)
  /-- CqBgColour (R232). -/
  | ground (value : Nat)
  /-- A pixel that shows nothing: below the static layers of a Firn surface (R237). -/
  | clear
  /-- A video layer over what lies below it. -/
  | video (below source : Pic) (scale : ScaleLook) (look : BlendLook)
  /-- A graphics surface over what lies below it (R235), with its width. -/
  | surface (below : Pic) (width : Nat) (cells : List Host.Cell) (look : BlendLook)
  /-- A Firn surface over what lies below it (R237). -/
  | firn (below run : Pic)
  /-- The composite of an engine: number, index of its alignment point, the layers over the background, and the output stage. -/
  | composite (engine index : Nat) (layers : Pic) (stage : StageLook) (format : Nat)
  /-- Blanking lines (R199). -/
  | blanking
  deriving DecidableEq, Repr

/-- The balls that a command can move. -/
inductive PinName where
  | evtN | armHealth | pciePerst | fpOut
  deriving DecidableEq, Repr

/-- The Ethernet, IP and UDP headers of a packet that a media port sends (R144, R145). The ECN field is 0, IPv4 has DF set
and identification 0, and the UDP checksum is 0 over IPv4. -/
structure PacketHead where
  srcMac : List Byte
  dstMac : List Byte
  vlan : Nat                            -- 0xFFFF untagged
  src : List Byte
  dst : List Byte
  srcUdp : Nat
  dstUdp : Nat
  dscp : Nat
  ttl : Nat
  deriving DecidableEq, Repr

/-- One embedded audio group of an SDI output frame (R71): link, group of 1 to 8, its first AO channel, the samples of the frame,
the number of the first one since the output started, and the clock phase of each: video sample clocks from the start of the
frame. An audio control packet goes with it. -/
structure SdiGroup where
  link : Nat
  group : Nat
  channel : Nat
  samples : Nat
  first : Nat
  phases : List Nat
  deriving DecidableEq, Repr

/-- What goes with an output word (R284, R285): the validity, user and channel status bits of the input word, as validity +
2 x user + 4 x channel status; or a channel status that the device generates: professional use, linear PCM, the word length and
the rate in kHz. -/
inductive SideBits where
  | carried (bits : Nat)
  | generated (professional linearPcm : Bool) (wordBits rate : Nat)
  deriving DecidableEq, Repr

/-- An SDI output frame of a port or group (R64, R66, R71, R75): its picture and format, the driver's setting, the payload ID of
each link with the lines that carry it, embedded audio, inserted packets, the fields that carry a fresh EDH packet with all
flags clear, and whether every line carries its line number and CRC words; `sav` is when the SAV of its first active line leaves
the lane output (R28, R163). A quad-link group has a division, and the picture of each of its links (R59). -/
structure SdiOut where
  lane : Nat
  pic : Pic
  format : Nat
  driverMode : Nat
  payloadIds : List Nat := []
  pidLines : List Nat := []
  audio : List SdiGroup := []
  ancillary : List Anc := []
  edhFields : List Nat := []
  lineWords : Bool := false
  sav : Nat := 0
  division : Nat := 0                   -- 0 none, 1 square division, 2 two-sample interleave
  links : List Pic := []
  deriving DecidableEq, Repr

/-- What a packet of a media port carries (R136, R140 to R143): row segments of a picture; words of consecutive output channels, one
sample instant after another; ancillary packets of a field, each with its horizontal offset; a datagram of an SDI stream; or a
packet that is passed on. -/
inductive Payload where
  | pixels (pic : Pic) (rows : List Segment)
  | audio (channel channels : Nat) (words : List Int) (side : List SideBits)
  | anc (field : Nat) (packets : List (Anc × Nat))
  | sdi (frame : SdiOut) (datagram : Nat)
  | forward (p : Rtp)
  deriving DecidableEq, Repr

/-- What leaves the device because of the last command. -/
inductive Out where
  | response (session devSeq reqSeq type status detail : Nat) (body : Body)
  | challenge (port : Nat) (addr nc nd uid : List Byte) (handle : Nat)
  | welcome (session role flags : Nat) (proof : List Byte)
  | refuse (port : Nat) (addr nc : List Byte) (status retryAfter : Nat)
  | close (session devSeq reason : Nat)
  | notify (session devSeq lost : Nat) (entries : List EvRec)
  | pin (name : PinName) (index level : Nat)
  | twinStatus (side role pattern readiness notReady copyStale heardAt sentAt : Nat) (images : List Nat) (macBase : List Byte)
  | twinAck (kind number : Nat)
  | twinCopy (c : Copy)
  | twinMirror (n state owner boundary : Nat) (changes : List Change)
  | twinThrough (addr : Nat) (v : Val)
  | pmbus (address command data : Nat)
  | sdi (x : SdiOut)
  | sdiRest (lane : Nat) (pic : Pic) (links : List Pic)
  | sdiAnc (lane : Nat) (p : Anc)
  | sdiIdle (lane : Nat)
  | packet (entry : Nat) (head : PacketHead) (payloadType ssrc seq timestamp : Nat) (marker : Bool) (bytes : Nat) (payload : Payload)
  | arp (port kind : Nat) (addr mac dst : List Byte)
  | membership (port version : Nat) (group : List Byte) (exclude : Bool) (sources : List (List Byte)) (src : List Byte) (dscp : Nat)
      (routerAlert : Bool)
  | audio (channel rate bits : Nat) (samples : List Int) (side : List SideBits)
  | tarn (port slot : Nat) (sample : Int)
  /-- A frame of a Tarn port begins (R304 to R306): whether the device drives BCLK and FS, whether the frame starts on the falling edge
  of FS, the bit clocks from that edge to the first data bit, and, where it drives them, the bit clocks of the FS pulse and of the
  frame. -/
  | tarnFrame (port : Nat) (drives falling : Bool) (delay width clocks : Nat)
  | pulse (output at_ width level : Nat)
  /-- A Delay_Req of a PTP reference (R341, R373): port, reference, profile, domain, whether over IPv6, MAC and IP source address. -/
  | ptpDelayReq (port ref profile domain : Nat) (ipv6 : Bool) (srcMac src : List Byte)
  | saddle (lane : Nat) (bits : List Bool)
  | nvme (drive kind arg : Nat)
  | ctlFrame (port : Nat) (bytes : List Byte)
  | col (target : Nat) (data : List Byte)
  | interrupt (line : Nat)
  | gate (status a1 a2 : Nat)
  | readback (addr value : Nat)
  deriving DecidableEq, Repr

/-- A journal record (R441): sequence number, time in nanoseconds, kind and the bytes from 20 on. -/
structure JRec where
  seq : Nat
  time : Nat
  kind : Nat
  data : List Byte
  deriving DecidableEq, Repr

/-- Who waits for an answer: a request of a session, an async call of the gate, or nobody any more. -/
inductive Asker where
  | request (session seq : Nat)
  | ticket (number : Nat)
  | nobody
  deriving DecidableEq, Repr

/-- An answer that waits: who asked, the response's type and body, the item of a bulk write that it waits for, and the Frame-class
values that it acknowledges (R9). -/
structure Answer where
  asker : Asker
  type : Nat
  body : Body
  item : Nat
  frames : List (Nat × Val) := []
  deriving DecidableEq, Repr

/-! ## Boot, health and the watchdog (chapter 22, R484, R527 to R530) -/

/-- The stages of R613, recovery (R596) and RESET. -/
inductive Stage where
  | reset | rom | bedrock | uplandLoad | restore | running | recovery
  deriving DecidableEq, Repr

/-- Power, reset and boot. Times are in `State.now`. -/
structure Boot where
  stage : Stage := .reset
  straps : Straps := ⟨false, 0, false, 0, false⟩
  cause : Nat := 0                      -- of the next start (R485)
  held : Bool := false                  -- THERMAL_TRIP holds the device in reset (R642)
  resetLow : Bool := true               -- RESET_N is low
  datapath : Bool := false              -- a restore commit has executed since the last full reset
  soft : Bool := false                  -- this start is a SOFT restart
  softWait : Bool := false              -- a SOFT restart waits (R620)
  softReplies : List Answer := []        -- of the writes that it answers
  startedAt : Nat := 0
  stageAt : Nat := 0
  avsRunning : Bool := false
  avsMicrovolts : Nat := 0              -- last VOUT_COMMAND that the regulator took
  avsTarget : Nat := 0
  avsStepAt : Nat := 0
  patchRejected : Bool := false
  fellBack : Bool := false              -- this start reports FALLBACK (R593)
  hbmFailed : Bool := false
  restoreChanges : List (Nat × Val) := []
  restoreDue : Option Nat := none       -- boundary of the restore commit, in `State.tc`
  started : Bool := false               -- DEVICE_STARTED raised
  wdtAt : Nat := 0                      -- last watchdog kick
  wdtRunning : Bool := false
  wdtExpired : Bool := false            -- the last restart came from it
  uplandRuns : Bool := false
  uplandAt : Nat := 0                   -- Upland entered, or Bedrock stopped it
  heartbeatAt : Option Nat := none      -- last HEARTBEAT since Upland was entered
  heartbeatLate : Bool := false
  uplandRestarting : Bool := false      -- UPLAND_RESTARTED is owed (R530)
  uplandRestarts : List Nat := []       -- times, newest first
  thermalCool : Option Nat := none      -- since when JunctionTemp is at or below 97.0 C
  limitCool : Option Nat := none        -- since when it is at or below 100.0 C
  supplyGood : Option Nat := none       -- since when every margin is at or above 300
  refreshDoubled : List Bool := [false, false, false, false]
  ctrlMemLost : Bool := false           -- R555: the watchdog is left to expire
  deriving DecidableEq, Repr

/-! ## Events (chapter 20) -/

/-- An event pin (R576). -/
structure EvPin where
  asserted : Bool := false
  cause : Option Nat := none
  pulseAt : Option Nat := none          -- start of the last pulse emitted
  deriving DecidableEq, Repr

/-- The event controller. -/
structure EvCtl where
  fifo : List EvRec := []               -- oldest first
  episode : Bool := false               -- overflow episode (R572)
  episodeDrops : Nat := 0
  droppedUnseen : Nat := 0              -- drops not yet added to Lost (R574)
  pin0 : EvPin := {}
  pin1 : EvPin := {}
  lastRaise : List ((Nat × Nat) × Nat) := []   -- (source, scope), time counter at the last raise (R648)
  deriving DecidableEq, Repr

/-! ## Ilril (chapter 15) -/

/-- A salvo operation (R189, R468). -/
inductive SalvoOp where
  | open_
  | add (n addr : Nat) (value : List Byte)
  | remove (n addr : Nat)
  | clear (n : Nat)
  | arm (n : Nat)
  | disarm (n : Nat)
  | take (n : Nat) (implicitArm : Bool) (at_ : Option Nat)
  | discard (n : Nat)
  deriving DecidableEq, Repr

/-- A request of a session (R452). -/
inductive Req where
  | read (index sub offset maxLength : Nat)
  | write (index sub : Nat) (value : List Byte)
  | bulkRead (items : List (Nat × Nat))
  | bulkWrite (items : List (Nat × Nat × List Byte))
  | fence (scope : Nat)
  | salvo (op : SalvoOp)
  | keepalive
  | close
  deriving DecidableEq, Repr

/-- A FENCE that the device has received in a session (R211, R466): the requests it waits for, as (session, Seq). -/
structure Fence where
  seq : Nat
  scope : Nat                           -- 0 SESSION, 1 DEVICE
  complete : Bool
  waits : List (Nat × Nat)              -- requests by session and Seq; 65,536 + session where the session has ended
  takes : Nat                           -- TAKEs accepted before it (R212)
  late : List Nat := []                 -- TAKEs it waited for and that were accepted meanwhile, in `Salvo.accepted` (R212)
  deriving DecidableEq, Repr

/-- A message held until a FENCE arrives or completes (R467). -/
structure Held where
  seq : Nat
  fenceSeq : Nat
  req : Req
  at_ : Nat
  deriving DecidableEq, Repr

/-- The NOTIFY that a UDP session has not acknowledged (R470). -/
structure Unacked where
  seq : Nat
  lost : Nat
  entries : List EvRec
  sentAt : Nat
  resends : Nat
  deriving DecidableEq, Repr

/-- An open session (R454 to R470). -/
structure Session where
  role : Nat
  encrypted : Bool
  tcp : Bool
  port : Nat
  addr : List Byte
  peerPort : Nat
  keys : List Byte := []
  openedAt : Nat := 0                   -- nanoseconds of the time counter
  openNow : Nat := 0                    -- `State.now` when it opened (R592)
  lastRx : Nat := 0                     -- `State.now`
  lastRxAt : Nat := 0                   -- nanoseconds of the time counter
  high : Nat := 0                       -- H of R459
  seen : List Nat := []                 -- accepted numbers from H - 63 to H
  devSeq : Nat := 1                     -- the next number the device sends
  sent : List (Nat × Out) := []         -- the last 64 responses, newest first, by request
  outstanding : List Nat := []
  busy : List (Nat × List Nat) := []    -- objects that the outstanding requests which have started address (R208)
  requests : Nat := 0
  lostTotal : Nat := 0
  subscription : List Byte := []
  queue : List (EvRec × Nat) := []      -- oldest first, with the time each was queued
  lost : Nat := 0
  unacked : Option Unacked := none
  fences : List Fence := []
  held : List Held := []
  started : Table Nat := []             -- highest Seq that has started to address an object
  deriving DecidableEq, Repr

/-- An open challenge (R456). -/
structure Challenge where
  handle : Nat
  role : Nat
  encrypt : Bool
  nc : List Byte
  nd : List Byte
  port : Nat
  addr : List Byte
  peerPort : Nat
  tcp : Bool
  openedAt : Nat
  deriving DecidableEq, Repr

/-- An address that R457 tracks. -/
structure Lockout where
  addr : List Byte
  failures : Nat
  step : Nat                            -- 0 none, 1 for 30 s to 6 for 900 s
  until_ : Option Nat                   -- end of the running lock-out
  lastFailure : Nat
  role : Nat
  deriving DecidableEq, Repr

/-- The protocol's state. -/
structure Ilril where
  ctlUp : Bool := false                 -- Upland serves the control ports
  sessions : Table Session := []
  challenges : List Challenge := []     -- oldest first
  lockouts : List Lockout := []         -- newest failure first
  roleKeys : Table (List Byte) := []
  deriving DecidableEq, Repr

/-! ## Salvos (chapter 06) -/

/-- The states of R190. -/
inductive SalvoState where
  | free | staged | arming | armed | pending | done
  deriving DecidableEq, Repr

/-- One entry of a read set (R195): the object and the value that the checks used. -/
structure ReadEntry where
  addr : Nat
  val : Val
  deriving DecidableEq, Repr

/-- A salvo (R187 to R190). -/
structure Salvo where
  state : SalvoState := .free
  owner : Nat := 0xFFFF
  role : Nat := 0                       -- of the owner session
  changes : List Change := []           -- rising numbers
  reads : List ReadEntry := []
  result : Nat := 0
  detail : Nat := 0
  boundary : Nat := 0                   -- `State.tc`
  armedAt : Nat := 0                    -- nanoseconds of the time counter
  mirror : Nat := 0
  mirroredAt : Nat := 0                 -- `State.tc` at the last mirror record received (R377)
  accepted : Nat := 0                   -- order of acceptance of its TAKE
  takeSession : Nat := 0                -- session and Seq of its TAKE (R212)
  takeSeq : Nat := 0
  prejoined : List Nat := []            -- receive entries that its ARM pre-joined (R100)
  deriving DecidableEq, Repr

/-- A Frame-class write that waits for its boundary (R9), in order of acknowledgement. -/
structure FrameWrite where
  addr : Nat
  val : Val
  due : Nat                             -- `State.tc`
  deriving DecidableEq, Repr

/-- An operation that the commit engine has accepted (R196): its session, the place of its message for R212, who asked. -/
structure EngineOp where
  session : Nat
  seq : Nat
  asker : Asker
  op : SalvoOp
  deriving DecidableEq, Repr

/-- What the commit engine waits for: the standby's acknowledgement of an ARM, DISARM, DISCARD or TAKE (R206, R207). -/
structure MirrorWait where
  op : EngineOp
  isTake : Bool                         -- the TAKE record is out; else the salvo, its DISARM or its DISCARD
  candidate : Nat
  sentAt : Nat
  gone : Bool := false                  -- its salvo was discarded while the engine waited (R191)
  deriving DecidableEq, Repr

/-- The commit engine. -/
structure CommitEngine where
  salvos : Table Salvo := []
  frameWrites : List FrameWrite := []
  restartWrites : List (Nat × Val) := []   -- last written values of Restart-class objects not yet in force
  lastBoundary : Nat := 0               -- the last house frame boundary handled, `State.tc`
  wait : Option MirrorWait := none
  queue : List EngineOp := []           -- operations behind it
  takes : Nat := 0
  atCopy : Option (Nat × Table Salvo) := none -- the salvos as of the last copy point that a change of one followed, by its boundary (R377)
  executed : List (Nat × Nat) := []     -- salvos executed since the last complete copy, with their boundaries (R377)
  deriving DecidableEq, Repr

/-! ## Twin (chapter 12) -/

/-- A write waiting for the standby (R378): it takes effect with its acknowledgement (R8). -/
structure Through where
  answer : Option Answer                -- what the acknowledgement releases
  sentAt : Nat
  addr : Nat
  val : Val
  deriving DecidableEq, Repr

/-- A write that a copy must carry (R377), with the time counter at its acknowledgement. -/
structure LogWrite where
  addr : Nat
  val : Val
  due : Nat
  ackAt : Nat
  deriving DecidableEq, Repr

/-- The twin layer. -/
structure Twin where
  waited : Nat := 0                     -- R370
  lastPattern : Nat := 0                -- the pattern used at the previous boundary
  lastFirst : ArbLevel := .mixed        -- the symbol of the frame before
  lastSecond : ArbLevel := .mixed
  blockedRaised : Bool := false
  dualEpisode : Bool := false
  demoteNext : Bool := false            -- R372
  armHealth : Bool := false             -- level of ARB_HEALTH
  side0Mac : Option (List Byte) := none -- side 0's MacBase, from the link (R146)
  validSince : Option Nat := none       -- status blocks have been valid since
  lastBlockAt : Nat := 0
  peerBlock : Option StatusBlock := none   -- the peer's last status block
  offsets : List (Nat × Int) := []      -- the last second's exchanges
  sentAt : Option Nat := none           -- PTPTIME of the last status block sent, and of the last one received (R379)
  heardAt : Nat := 0
  arbFrame : Nat := 0                   -- house frame of the last symbol (R367)
  timeOffsetOver : Bool := false
  resyncAt : Option (Nat × Nat) := none -- start of the resync that runs, and how long its transfer takes
  resyncNeeded : Bool := true           -- RESYNC (standby)
  roleAt : Nat := 0                     -- counter value of the boundary at which the role last changed (R382, R383)
  mirrorLost : Bool := false
  log : List LogWrite := []             -- writes since the copy point of the last complete copy
  copySent : Option (Nat × Nat × Bool) := none -- the copy in flight: boundary, writes of the log in it, whether it ends a resync
  copyApplied : Option Nat := none      -- boundary of the copy that the standby has applied
  numbers : List CopyNumber := []       -- transmit numbering as the last applied copy has it
  drain : Option Nat := none            -- boundary of a demotion whose last frames and packets still leave (R383)
  block : List Byte := []               -- the pending block of R528
  blockNew : Nat := 0                   -- 1 no copy has carried it yet, 2 no complete copy has
  blocks : List (List Byte) := []       -- received blocks, oldest first
  blocksLost : Nat := 0
  through : List Through := []
  announceLeft : Nat := 0
  announceAt : Nat := 0
  deriving DecidableEq, Repr

/-! ## Store, fuses, update and flash (R495 to R500, R525, chapter 21) -/

/-- The holdover model (R352): y0, a, b and d, what the mean junction temperature is taken from, in 0.1 °C, and its age in seconds. -/
structure HoldoverModel where
  coefs : List Rat := [0, 0, 0, 0]
  temps : Int := 0
  samples : Nat := 0
  age : Nat := 0
  deriving DecidableEq, Repr

/-- The holdover model as it is saved: learned seconds, whether it was ready, and the model. -/
structure SavedModel where
  learned : Nat
  ready : Bool
  model : HoldoverModel
  deriving DecidableEq, Repr

/-- A store slot of R496 that passes its check. -/
structure StoreSlot where
  version : Nat
  generation : Nat
  records : List (Nat × Val)            -- by address of the object
  roleKeys : Table (List Byte)
  model : Option SavedModel             -- the holdover model
  deriving DecidableEq, Repr

/-- A store save that runs (R498). -/
structure Save where
  startedAt : Nat
  retried : Bool
  content : StoreSlot
  slot : Nat
  replies : List Answer                 -- StoreSaveNow requests that it answers
  tickets : List Nat                    -- STORE_SAVE calls that it completes
  deriving DecidableEq, Repr

/-- The persistent store. -/
structure Store where
  slotA : Option StoreSlot := none
  slotB : Option StoreSlot := none
  save : Option Save := none
  lastStart : Option Nat := none
  last : Nat := 1                       -- slot last loaded or saved (0 A, 1 B)
  current : Option StoreSlot := none    -- its content
  model : Option SavedModel := none     -- the holdover model as last saved (R352)
  replies : List Answer := []           -- StoreSaveNow requests that wait for the next save
  loaded : Option StoreSlot := none     -- the slot that was loaded at start
  gateTickets : List Nat := []          -- STORE_SAVE calls that wait
  deriving DecidableEq, Repr

/-- The boot control record of R579: active slots (0 A, 1 B), trial and prior. -/
structure BootControl where
  patchActive : Nat := 0
  uplandActive : Nat := 0
  trial : Option (Nat × Nat) := none    -- kind (1 patch, 2 Upland) and slot
  prior : Option Nat := none
  notConfirmed : Bool := false          -- the trial failed; the next start boots the prior slot
  failed : Option Nat := none           -- the Upland slot that failed last
  recover : Bool := false               -- starts enter recovery until an image is activated (R593)
  deriving DecidableEq, Repr

/-- The update machine (R584) and the fuses it burns. -/
structure Update where
  ctl : BootControl := {}
  kind : Nat := 0
  slot : Nat := 0
  session : Nat := 0xFFFF
  windowEnds : Option Nat := none       -- end of the confirmation window
  windowLength : Nat := 0               -- ConfirmWindow as it stood at UpdateActivate
  trialRuns : Bool := false
  rollback : Nat := 0                   -- bits burned (R582)
  patchRuns : Bool := false
  patchVersion : Nat := 0
  uplandVersion : Nat := 0
  storeVersion : Nat := 0
  ownerHashes : Table (List Byte) := []
  ownerStates : Table Nat := []         -- 0 EMPTY, 1 ACTIVE, 2 REVOKED
  journal : List JRec := []             -- flash journal (R599), newest first
  journalSeq : Nat := 0
  activating : Bool := false
  policy : Nat := 0                     -- UpdatePolicy as Bedrock last saw it in force
  deriving DecidableEq, Repr

/-- An OSF command that runs (R600). -/
structure OsfJob where
  op : Nat
  addr : Nat
  len : Nat
  deriving DecidableEq, Repr

/-! ## The service gate and timers (R521 to R528) -/

/-- An async gate call (R522). -/
structure Ticket where
  number : Nat
  buf : Buf                             -- where its answer goes (notes/assumptions/44.md)
  done : Bool
  status : Nat
  result : List Byte
  deriving DecidableEq, Repr

/-- The gate, the caches and the timers. -/
structure Gate where
  tickets : List Ticket := []
  nextTicket : Nat := 1
  ring : List (List Byte) := []         -- completion records, oldest first
  timerStart : Table (Nat × Nat) := []  -- when each running timer started to count, and from what
  ptpSec : Nat := 0                     -- latched seconds of TMW_PTP
  deriving DecidableEq, Repr

/-! ## Control ports (chapter 17), Col and Scree (chapter 19), capture units (chapter 20) -/

/-- A control port beside its registers. Speeds are the codes of CMAC_STAT; times are `State.now`. -/
structure CtlPort where
  trying : Nat := 1                     -- rate that AUTO is trying (R503), and since when
  tryAt : Nat := 0
  lastSpeed : Nat := 0                  -- speed of the link when it was last up
  lowSince : Option Nat := none         -- since when the load has stayed below DOWN_MBPS (R504)
  step : Option (Nat × Nat × Nat) := none   -- rate left, rate sought and start of a step
  deriving DecidableEq, Repr

/-- A Scree descriptor that runs: its channel, its sixteen words, the bytes written, and since when its peripheral's
request has been withdrawn within it. -/
structure ScrRun where
  channel : Nat
  words : List Nat
  moved : Nat
  waitSince : Option Nat
  deriving DecidableEq, Repr

/-- Scree beside its registers. -/
structure Scree where
  run : Option ScrRun := none
  lastDone : Option Nat := none         -- channel of a descriptor completed since the last choice (R551)
  removed : Bool := false               -- an abort has removed the failed descriptor (R551)
  deriving DecidableEq, Repr

/-- A capture unit beside its objects. -/
structure MonUnit where
  alarmed : Bool := false               -- MON_ALARM raised in this period (R569)
  roll : Nat := 0                       -- number of the period in which the unit last rolled or restarted
  deriving DecidableEq, Repr

/-! ## SDI ports and Ridge (chapters 01, 02, 05) -/

/-- What an SDI receive lane keeps beside its objects. -/
structure SdiRx where
  tryBit : Nat := 9                     -- rate being tried in RATE_SEARCH (R53)
  tryAt : Nat := 0                      -- since when, `State.now`
  pid : Option PayloadId := none        -- the payload ID in force (R65)
  pidNext : Option (Option PayloadId) := none   -- one read that acts from the next frame start (R58)
  raster : Option Raster := none        -- the raster measured at the lock (R57)
  bit : Nat := 9                        -- lane rate at which it was identified, bit of R52
  mismatchRaised : Bool := false        -- SDI_PID_MISMATCH raised since the entry to LOCKED (R58)
  lastFormat : Nat := 0                 -- the format last identified (R69)
  skewGood : Option Nat := none         -- since when the group skew is within its limit after an excess
  skewBad : Bool := false               -- R60 unlocks the slot
  groups : Table Nat := []              -- present groups, with their last extraction
  groupAt : Option Nat := none          -- frame in which SDI_AUDIO_GROUP was last raised
  ancRaised : Bool := false             -- SDI_ANC_OVERFLOW raised in this frame
  anc : List Anc := []                  -- packets of the frame being received
  ancSeq : Option Nat := none           -- that frame's number in the slot, once its writer has begun it
  ancBytes : Nat := 0
  ancFull : Bool := false
  frame : Nat := 0                      -- frames received
  deriving DecidableEq, Repr

/-- What an SDI transmit lane keeps beside its objects. -/
structure SdiTx where
  ran : Bool := false
  idleUntil : Option Nat := none        -- end of the idle frame of R79
  carriage : Nat := 0                   -- last carriage, and the payload IDs of its links (R80)
  pids : List Nat := []
  frame : Nat := 0                      -- frames emitted, for the sequences of R71
  embedded : Nat := 0                   -- samples embedded since it started
  deriving DecidableEq, Repr

/-- A stored frame (R157, R158, R18, R23, R27). Times are nanoseconds of the time counter. -/
structure Frame where
  seq : Nat
  format : Nat
  kind : Nat                            -- origin kind, codes of 0x3043
  origin : Nat
  stages : List (Nat × Nat)             -- stage code and entry time, oldest first
  write : Nat                           -- write start W
  lines : Nat                           -- lines completed
  complete : Bool
  abandoned : Bool
  finishAt : Option Nat                 -- when a frame that the device itself times is complete (R177, R222, R435)
  lastLine : Nat                        -- when a line was last completed
  pic : Pic
  anc : List Anc
  payloadId : Nat
  metaBad : Bool                        -- the side-data area fails (R176)
  metaRaised : Bool                     -- FRAME_META_ERROR has been raised for it
  ancFull : Bool                        -- a packet has found the side-data area full (R74)
  deriving DecidableEq, Repr

/-- The frame store of a source slot. -/
structure SrcSlot where
  frames : List Frame := []             -- newest first, at most three buffers
  nextSeq : Nat := 0
  lockedAt : Option Nat := none         -- since when the slot is locked
  newStore : Bool := false              -- a new store starts at the next frame start (R161)
  opening : Bool := false               -- the new store's first frame is not yet complete: it holds none (R161)
  oldPages : Nat := 0                   -- pages of an old store not yet returned (R161)
  colour : Nat := 0xFFFF                -- colour of the payload ID of an SDI or ST2022_6 feed (R251)
  generatorAt : Option Nat := none      -- grid index of the last frame that the device wrote (R177, R431, R435)
  deriving DecidableEq, Repr

/-- The output frame that a destination reads. Of a stored frame it carries what the ledger and the output need. -/
structure Shown where
  pic : Pic
  loss : Bool
  route : Nat
  slot : Nat
  seq : Nat
  kind : Nat
  origin : Nat
  stages : List (Nat × Nat)
  read : Nat                            -- read start R
  align : Nat                           -- alignment point t_a, `State.tc`
  format : Nat
  anc : List Anc
  wholePartial : Bool := false          -- lines of the frame before it stand in it (R169)
  emitted : Bool := false
  first : Bool := false                 -- the destination emits this frame for the first time (R18)
  store : Option (Nat × Nat) := none    -- slot and number of the stored frame that it reads, a frozen one too (R173, R175)
  deriving DecidableEq, Repr

/-- A destination slot. -/
structure DstSlot where
  shown : Option Shown := none
  last : Option (Nat × Nat) := none     -- slot and frame read at the previous read start
  fallen : Bool := false                -- out of the timed window (R165)
  good : Nat := 0                       -- consecutive frames within a quarter line
  frozen : Option (Nat × Nat) := none   -- the frozen frame of the loss episode (R173)
  froze : Bool := false                 -- it has been chosen, for the route in use
  episode : Bool := false               -- a loss episode runs
  route : Nat := 0x800                  -- route in use since the last switching point
  routes : List (Nat × Nat) := []       -- routes taken and not yet switched to: boundary and route, oldest first (R170)
  labels : List (Nat × Option Nat) := []   -- labels taken and not yet in force: boundary and colour, none for an unchanged one (R252)
  adopted : Nat := 0                    -- format adopted by a follow-source destination (R199)
  adoptNext : Option (Nat × Nat) := none   -- format to be adopted, and the start of its first frame
  outside : Bool := false               -- the live source lies outside the rate family (R78)
  deriving DecidableEq, Repr

/-- Ridge. -/
structure Ridge where
  src : Table SrcSlot := []
  dst : Table DstSlot := []
  deriving DecidableEq, Repr

/-! ## Cirque and the colour stages (chapters 07, 08) -/

/-- An engine. Alignment points, handover and boundaries are in `State.tc`. -/
structure Engine where
  slot : Nat := 0xFFFF                  -- slot that its configuration names, as last acted on
  writing : Nat := 0xFFFF               -- slot that it writes
  handover : Nat := 0                   -- h of a migration or start (R243)
  old : Option (List (Nat × Val)) := none   -- configuration that an engine of a migration keeps until h (R244, R245)
  takenBy : Nat := 0xFFFF               -- engine that takes over its slot
  lastAt : Option Nat := none           -- last alignment point handled
  from_ : Nat := 0                      -- boundary from which its present timing acts (R242)
  stopping : Bool := false              -- CQ_STOPPED is owed for the slot that it has left (R244)
  firn : Pic := .clear                  -- the Firn surface (R237)
  firnSig : List (Nat × Val) := []      -- the static layers as the Firn surface shows them
  firnShown : List (Nat × Nat) := []    -- transparency of the static layers in the Firn surface
  firnSince : Option Nat := none        -- house boundary index since which the engine is stale
  firnWaitRaised : Bool := false
  deriving DecidableEq, Repr

/-- A layer. -/
structure Layer where
  route : Nat := 0x800                  -- route since the last switching point
  last : Option (Nat × Nat × Nat) := none   -- slot, frame and field last shown from that route (field 0: the whole frame)
  lastPic : Pic := .black               -- that frame, its format,
  lastFormat : Nat := 0
  lastOrigin : Nat × Nat := (0, 0)      -- origin kind and time
  lastStages : List (Nat × Nat) := []
  lastAnc : List Anc := []
  held : Nat := 0                       -- engine frames for which it has not been ready
  notReady : Bool := false
  transparent : Bool := false
  flipDue : List Nat := []              -- Frame-class boundaries of the LayerGfxFlip writes not yet done, `State.tc`
  flipped : Bool := false               -- has completed a flip
  pos : Nat := 0                        -- write position in the back surface (R236)
  spans : List (Nat × Nat) := []        -- bytes of the back surface written since the last flip
  front : List Host.Cell := []
  back : List Host.Cell := []
  deriving DecidableEq, Repr

/-- A colour stage (R263). -/
structure ColStage where
  shaperFront : List Byte := []
  shaperBack : List Byte := []
  shaperFull : Bool := false            -- the back shaper has been written since the last flip
  lutFront : List Host.Cell := []
  lutBack : List Host.Cell := []
  lutPos : Nat := 0
  lutSpans : List (Nat × Nat) := []     -- bytes of the back LUT written since the last flip
  flipDue : List Nat := []              -- Frame-class boundaries of the ColTableFlip writes not yet done, `State.tc`
  pendingRaised : Bool := false         -- a flip has fallen due and waits for its LUT
  failed : Bool := false                -- its tables could not be reloaded: it is in bypass (R555)
  deriving DecidableEq, Repr

/-- Cirque. -/
structure Cirque where
  engines : Table Engine := []
  layers : Table Layer := []
  stages : Table ColStage := []
  deriving DecidableEq, Repr

/-! ## Media ports and entries (chapters 03, 04) -/

/-- A packet in a receive buffer: its extended number, the arrival of its first copy, and the entries whose copy has
arrived. Times are nanoseconds of the time counter. -/
structure RxPkt where
  seq : Nat
  arrival : Nat
  holder : Nat                          -- entry whose reservation it fills
  paths : List Nat
  p : Rtp
  deriving DecidableEq, Repr

/-- The frame that a video entry assembles (R113). Pixels are numbered through the whole frame in transmission order. -/
structure Assembly where
  seq : Nat                             -- frame number in the slot
  timestamp : Nat
  supplied : List (Nat × Nat)           -- spans that packets supplied
  placed : List (Nat × Nat)             -- spans supplied or copied
  cursor : Nat                          -- end of the last segment
  field2 : Bool
  deriving DecidableEq, Repr

/-- A receive entry. The buffer and what follows from it stand with the lead entry of a pair. -/
structure RxEntry where
  ssrc : Option Nat := none
  buffer : List RxPkt := []             -- rising numbers
  next : Option Nat := none             -- the number after the last released or lost
  lastRelease : Nat := 0
  high : Nat := 0                       -- highest number seen
  pathHigh : Option Nat := none         -- highest number seen on this path
  firstCopies : List (Nat × Nat × Nat) := []   -- number, entry and arrival of first copies, newest first (R119)
  lastCopy : Nat := 0                   -- last accepted packet on this path
  pathUp : Bool := false
  pathDownSeen : Bool := false          -- the path has been down since it was last restored
  restoreFrom : Option Nat := none      -- since when its copies have arrived before release
  occupancy : Nat := 0
  marker : Bool := false                -- the last released packet had the marker
  asm : Option Assembly := none
  ancWait : List (Nat × Nat × List Anc) := []  -- arrival, timestamp and packets of ST2110_40 packets whose frame has not begun
  lastTimestamp : Option Nat := none    -- newest on this path
  startSeq : Option Nat := none         -- number from which the next SDI frame's datagrams run on this path (R118)
  transits : List (Nat × Int) := []     -- second of the time counter and transit, oldest first (R118)
  skewSeen : Bool := false              -- a skew has been recorded since the last clear (R119)
  waitingAt : Nat := 0                  -- entry to WAITING
  deriving DecidableEq, Repr

/-- What a flow that ended or restarted at a TAKE was doing: the frame in flight goes on by it (R129). Fields as in `TxEntry`. -/
structure TxRun where
  frame : Option (Nat × Nat)
  shown : Option Shown
  sdi : Option SdiOut
  audioNext : Option Nat
  startAt : Nat
  frames : Nat
  embedded : Nat
  opaque_ : List (Rtp × Nat)
  deriving DecidableEq, Repr

/-- A transmit entry. What concerns the flow stands with the lead entry of a pair. Alignment points and boundaries are in
`State.tc`. -/
structure TxEntry where
  drawn : Option Nat := none            -- SSRC drawn (R132)
  frame : Option (Nat × Nat) := none    -- alignment point of the frame being sent, and its next packet
  shown : Option Shown := none          -- that frame (R136, R140)
  audioNext : Option Nat := none        -- count of the next packet's first sample (R134)
  startAt : Nat := 0                    -- boundary from which it acts (R129)
  mac : Option (List Byte) := none      -- resolved address (R145)
  resolveAt : Option Nat := none        -- since when a resolution or renewal runs
  unresolvedRaised : Bool := false
  opaque_ : List (Rtp × Nat) := []      -- released packets to forward, with their release
  ancBytes : Nat := 0                   -- bytes of ancillary packets sent in this frame
  ancFrame : Nat := 0                   -- its alignment point, and the fields sent
  ancSent : List Bool := []
  sdi : Option SdiOut := none           -- SDI frame of an ST2022_6 flow being sent (R140)
  frames : Nat := 0                     -- frames sent, and samples embedded since it started (R71)
  embedded : Nat := 0
  triedAt : Nat := 0                    -- last request of a resolution
  held : List (Nat × Val) := []         -- objects of the flow as they stood before a TAKE (R129)
  heldUntil : Nat := 0                  -- boundary of that TAKE; frames and packets before it go by `held`
  heldRun : Option TxRun := none        -- what a flow that ended or restarted then was doing
  heldMac : Option (List Byte) := none  -- the resolved address before that TAKE
  deriving DecidableEq, Repr

/-- A media port. -/
structure MediaPort where
  records : List (List Byte × Bool × List (List Byte)) := []  -- group, EXCLUDE, sources, as last reported (R99)
  reports : List (List Byte × Nat × Nat) := []  -- group, repeats left, time of the next (R101)
  older : List (Nat × Nat) := []        -- older queriers present: IGMP version 1 or 2, or 3 for MLDv1, and until when (R101)
  deriving DecidableEq, Repr

/-- Media network. Ports are numbered by their port codes. -/
structure Media where
  rx : Table RxEntry := []
  pre : Table RxEntry := []             -- what pre-joined entries measure by (R100)
  tx : Table TxEntry := []
  ports : Table MediaPort := []
  deriving DecidableEq, Repr

/-! ## Cornice (chapter 09) -/

/-- A gain and its targets before it: (value in 0.01 dB, samples since it was set), newest first (R280). -/
abbrev Ramp := List (Int × Nat)

/-- Biquad state: x[n-1], x[n-2], y[n-1], y[n-2] (R281). -/
structure Biquad where
  x1 : Int := 0
  x2 : Int := 0
  y1 : Int := 0
  y2 : Int := 0
  deriving DecidableEq, Repr

/-- A meter between its periods: the largest absolute sample of the running period, the held one with its time, and the
largest true peak (R296). -/
structure Meter where
  peak : Nat := 0
  hold : Nat := 0
  holdAt : Nat := 0
  truePeak : Nat := 0
  deriving DecidableEq, Repr

/-- An input channel and its strip (R277, R279). Sample lists are newest first. -/
structure Strip where
  input : List Int := []                -- 24-bit input words
  queue : List Int := []                -- words that packets have delivered and no block has taken, oldest first
  inputSide : List Nat := []            -- what goes with `input` (R70, R115): validity + 2 x user + 4 x channel status
  queueSide : List Nat := []            -- what goes with `queue`
  kind : Nat := 3                       -- origin kind and time from the origin to Cornice entry, in nanoseconds (R26)
  latency : Int := 0
  frac : Nat := 0                       -- position of a tracking converter between input words, in 10^-9 of one (R277)
  ratedAt : Nat := 0                    -- last measurement of the rate, `State.now` (R277)
  gain : Ramp := [(0, 64)]
  line : List Int := []                 -- delay memory
  delay : Nat := 0
  oldDelay : Nat := 0
  delayPos : Nat := 480
  eq : List Byte := []                  -- set in use
  eqState : List Biquad := []
  out : List Int := []
  meter : Meter := {}
  deriving DecidableEq, Repr

/-- A mix bus (R282). -/
structure Bus where
  gains : List Ramp := []
  gain : Ramp := [(0, 64)]
  eq : List Byte := []
  eqState : List Biquad := []
  out : List Int := []
  muted : Bool := false
  meter : Meter := {}
  deriving DecidableEq, Repr

/-- What an output emits from: source reference, path, bind delay in samples (R288). -/
structure Tap where
  source : Nat := 0
  bypass : Bool := false
  delay : Nat := 0
  deriving DecidableEq, Repr

/-- An output channel (R285 to R294). -/
structure AOut where
  tap : Tap := {}
  old : Option Tap := none              -- the tap that a running crossfade leaves
  fadePos : Nat := 0
  fadeLen : Nat := 0
  waiting : Option Tap := none          -- a tap change that waits for the crossfade (R290)
  due : Option (Tap × Nat) := none      -- a tap change and its change time
  toMain : Option Nat := none           -- boundary from which a bound output must leave the bypass path (R286)
  recut : Option Nat := none            -- boundary of a salvo that changed a bound output (R288)
  muted : Bool := false
  meter : Meter := {}
  pos : Nat := 0                        -- index of the next sample to be emitted, in 1/96,000 s
  -- for each kind of reader (rate, word length) the index of its next word and the last ones, newest first
  sent : List ((Nat × Nat) × Nat × List (Int × SideBits)) := []
  line : List Rat := []                 -- the last internal samples, newest first
  first : Option (Nat × Int) := none    -- origin kind and latency of the first sample of the metering period (R291)
  deriving DecidableEq, Repr

/-- Cornice. -/
structure Cornice where
  strips : Table Strip := []
  buses : Table Bus := []
  outs : Table AOut := []
  loudOver : List Nat := []             -- groups above their limit (R297)
  block : Nat := 0                      -- number of the last block, in 1/6,000 s (R274)
  deriving DecidableEq, Repr

/-! ## Tarn (chapter 10) -/

/-- What a Tarn port keeps beside its registers. -/
structure TarnPort where
  startAt : Option Nat := none          -- counter value at which frame 0 starts (R314, R315)
  waitFs : Option Nat := none           -- a slave waits for its first FS edge at or after this counter value
  count : Nat := 0                      -- frames since frame 0
  countPinned : Bool := false
  rxMask : Nat := 3                     -- masks in force (R317)
  txMask : Nat := 3
  rxPend : Option (Nat × Nat × Bool) := none -- a mask write that waits: its value, its counter value, and whether it came late
  txPend : Option (Nat × Nat × Bool) := none
  rxFifo : List Nat := []               -- words, oldest first (R318)
  txFifo : List Nat := []
  rxBytes : List Byte := []             -- bytes of an incomplete packed word
  txBytes : List Byte := []             -- bytes of a word of which a part has been sent
  fsAt : Nat := 0                       -- last FS edge, `State.now`
  edges : List Nat := []                -- FS edges whose frames have not begun, counter values, oldest first
  grid : Nat := 0                       -- the next frame's multiple of 1/rate, of a master (R307, R316)
  stepAt : Option Nat := none           -- counter value after a step that no frame has followed yet (R348)
  fsFrom : Option Nat := none           -- first and last FS edge of the measurement, counter values, and the frames between (R312)
  fsTo : Nat := 0
  fsFrames : Nat := 0
  measured : Nat := 0                   -- whole second of the last measurement
  since : Option Nat := none            -- counter value from which the elastic buffer's fill is reckoned (R309)
  made : Rat := 0                       -- samples at 96 kHz that the converter has made since then
  loop : Int := 0                       -- sum of the fill's deviations from 32 in that time (R310)
  heard : List (List Int) := []         -- the last words of each receive slot, newest first
  mics : List (List Nat) := []          -- the last PDM words of each microphone channel, newest first (R306)
  hpf : List (Int × Int) := []          -- the DC blocker of each: its last input and output (R308)
  deriving DecidableEq, Repr

/-- Tarn. -/
structure Tarn where
  ports : Table TarnPort := []
  t0 : Option Nat := none               -- start instant of a triggered group start, counter value (R315)
  deriving DecidableEq, Repr

/-! ## Watershed (chapter 11). Counter values are `State.tc`. -/

/-- A master that announces (R341), when it last did (`State.now`), and its announce interval in nanoseconds. -/
structure PtpMaster where
  set : PtpDataset
  heard : Nat
  every : Nat
  deriving DecidableEq, Repr

/-- What a reference keeps beside its objects. -/
structure RefPart where
  fit : List Nat := []                  -- the last 8 pulses near their expected position, newest first (R339, R356)
  lastValid : Option Nat := none
  streak : Nat := 0                     -- consecutive valid pulses one period apart since the loss
  off : Nat := 0                        -- consecutive pulses off their expected position
  code : Nat := 0                       -- last decoded QL code, 0 unspecified
  codeRun : Nat := 0
  rxQl : Nat := 0                       -- received QL code, 0 unspecified (R337)
  qualAt : Nat := 0                     -- `State.now` at entry to QUALIFYING
  lo : Option Int := none               -- frequency against the local oscillator over the last second, 10^-18
  freqs : List Int := []                -- the last 10 of these, newest first (R344)
  masters : List PtpMaster := []        -- the masters that announce (R341)
  master : Option PtpMaster := none     -- the selected one
  lastMaster : List (List Byte) := []   -- sending port and grandmaster of the last one selected
  lastSync : Nat := 0                   -- `State.now`
  syncEvery : Nat := 0                  -- Sync interval in nanoseconds
  delayAt : Nat := 0                    -- `State.now` from which the next Delay_Req may go
  delayEvery : Nat := 0                 -- interval that the master has announced for it, 0 before
  deriving DecidableEq, Repr

/-- What a frame-pulse output keeps beside its objects (R356, R358). -/
structure FpOut where
  align : Nat := 0                      -- settings in use
  rate : Nat := 6
  offset : Nat := 0
  changeAt : Option Nat := none         -- boundary from which changed settings act
  last : Option Nat := none             -- last pulse
  base : Nat := 0                       -- a point of the grid that it follows, and the grid's period
  per : Rat := 0
  moving : Bool := false                -- it moves to a new fitted grid
  changed : Bool := false               -- no pulse has left since its settings changed
  deriving DecidableEq, Repr

/-- Watershed. -/
structure Ws where
  refs : Table RefPart := []
  fps : Table FpOut := []
  disagree : List ((Nat × Nat) × Option Nat) := []   -- pairs that have raised DISAGREE, with since when they agree again
  selectedOnce : Bool := false          -- a reference has been selected since restart (R348)
  evalIndex : Nat := 0                  -- number of the last 100 ms evaluation
  lockSince : Option Nat := none        -- `State.now` since which |x| is within 100 ns
  y : Int := 0                          -- the frequency correction, 10^-18 (R331)
  slope : Int := 0                      -- its slope term (R346)
  tracking : Bool := false              -- the loop tracks while it is still ACQUIRING (R346)
  side : Int := 0                       -- sign of x at the last look while ACQUIRING
  second : Nat := 0                     -- whole second of the last frequency measurement (R335)
  loBadAt : Nat := 0                    -- `State.now` at which LOI_CLK was last out of tolerance (R329)
  heldMean : Int := 0                   -- tracking frequency at entry to HOLDOVER, 10^-18 (R351)
  heldModel : Rat := 0                  -- what the model gave then
  model : HoldoverModel := {}           -- the holdover model (R352)
  track : List Int := []                -- tracking frequency of the last 60 s, newest first (R351)
  ready : Bool := false                 -- the holdover model is ready (R352)
  wasReady : Bool := false              -- a ready model came from the persistent store
  runLearned : Nat := 0                 -- seconds of LOCKED since restart
  savedAt : Nat := 0                    -- `State.now` at the last save of the model
  heldSince : Nat := 0                  -- `State.now` at entry to HOLDOVER
  expired : Bool := false               -- HOLDOVER_EXPIRED has been raised in this holdover
  histStart : Nat := 0                  -- start of WsPhaseHistogram, nanoseconds of the counter
  deriving DecidableEq, Repr

/-! ## The Saddle link (chapter 13) -/

/-- Where the training of a receive lane stands (R413). -/
inductive TrainStep where
  | start | moved | undone | done
  deriving DecidableEq, Repr

/-- A run of equal bits on a serial line (R402). -/
structure BitRun where
  last : Bool := false
  count : Nat := 0
  deriving DecidableEq, Repr

/-- A Saddle lane: the receiver of this offset in the octet, and the transmitter of this logical number. -/
structure SaddleLane where
  -- receiver
  settled : Bool := false               -- its polarity is settled (R409)
  complements : Nat := 0                -- consecutive marker periods with a complemented MARKER
  seed : Option Nat := none             -- state of the additive descrambler since its first SEED (R402, R410)
  rxRun : BitRun := {}                  -- run of equal bits received (R402)
  rxHist : Nat := 0                     -- the last 58 scrambled payload bits received (R403, notes/assumptions/59.md)
  rxRest : List Bool := []              -- bits of a word that is not yet whole
  marker : Option (Nat × Nat × Nat) := none   -- sending lane, marker count, row of arrival
  slips : Nat := 0                      -- slips since the last pause (R408)
  slipFrom : Nat := 0                   -- `State.now` from which the next automatic slip may come
  boundary : Nat := 0                   -- word boundary, in bits moved
  rxReady : Bool := false               -- its training is finished
  step : TrainStep := .start
  tapPre : Bool := false                -- training moves pre (else post)
  dirInc : Bool := true
  improved : Bool := false
  best : Nat := 0
  requests : Nat := 0
  reqPre : Nat := 0                     -- request being sent
  reqPost : Nat := 0
  reqSeq : Nat := 0
  awaiting : Bool := false              -- its echo has not come
  echoed : Nat := 0                     -- statuses that came with the echo: pre + 4 x post
  -- transmitter
  acted : Nat := 0                      -- last request sequence acted on
  statPre : Nat := 0
  statPost : Nat := 0
  peerReady : Bool := false             -- RX_READY received for it
  txScr : Option Nat := none            -- additive scrambler, none in its initial state 0x7FFFFF - k (R402)
  txRun : BitRun := {}                  -- run of equal bits sent
  txHist : Nat := 0                     -- the last 58 scrambled payload bits sent (R403, notes/assumptions/59.md)
  deriving DecidableEq, Repr

/-- The Saddle link. -/
structure Saddle where
  base : Option Nat := none             -- first lane of the octet in force
  config : Nat := 2                     -- configuration in force
  lanes : Table SaddleLane := []
  skewRaised : Bool := false
  doneRaised : Bool := false
  deriving DecidableEq, Repr

/-! ## Moraine (chapter 14) -/

/-- A frame in the pool or in staging: its grid index, read start, and what its side-data area carries. -/
structure MFrame where
  index : Nat
  read : Nat
  kind : Nat
  origin : Nat
  stages : List (Nat × Nat)
  pic : Pic
  anc : List Anc
  deriving DecidableEq, Repr

/-- A drive at the root port (R423, R424). Times are `State.now`. -/
structure Drive where
  present : Bool := false
  nvme : Bool := false
  label : Option (Nat × List Nat) := none   -- pool identity and drive set
  held : Bool := false                  -- PERST_N is asserted
  triedAt : Nat := 0                    -- when PERST_N last changed after a loss
  polledAt : Option Nat := none         -- last SMART poll
  deriving DecidableEq, Repr

/-- A clip (R434, R438): state as ClipState has it, format, frames with those missing, alignment point of frame 0, and the
drive of its first extent. -/
structure Clip where
  state : Nat := 0
  format : Nat := 0
  frames : List (Option MFrame) := []
  recordedAt : Nat := 0
  drive : Nat := 0
  deriving DecidableEq, Repr

/-- A delay line (R431 to R433). -/
structure DelayLine where
  staged : List MFrame := []            -- to be stored
  ring : List MFrame := []              -- stored, newest first
  fetched : List Nat := []              -- indices staged for the slot, newest first
  deriving DecidableEq, Repr

/-- A record (R434). -/
structure Recorder where
  running : Bool := false
  stopping : Bool := false              -- it ends when its staged frames are stored
  from_ : Nat := 0                      -- boundary from which it records, `State.tc`
  clip : Nat := 0                       -- the clip it records and its RecMaxFrames
  most : Nat := 0
  staged : List (Option MFrame) := []   -- to be stored, oldest first; none for a frame that found staging full
  deriving DecidableEq, Repr

/-- A playback (R435, R436). -/
structure Player where
  start : Option Nat := none            -- boundary from which PlayStartFrame is due, nanoseconds
  next : Nat := 0
  last : Option (Nat × MFrame) := none  -- clip frame last written
  fetched : List Nat := []
  ended : Bool := false                 -- MOR_PLAY_END raised
  deriving DecidableEq, Repr

/-- The delay and clip store. -/
structure Moraine where
  drives : Table Drive := []
  poolId : Option Nat := none           -- identity of the pool, and its drive set
  pool : List Nat := []
  diskId : Option Nat := none           -- identity of the pool whose clips and journal the model holds
  diskJournalBytes : Nat := 0           -- size of its journal region
  clips : Table Clip := []
  delays : Table DelayLine := []
  records : Table Recorder := []
  plays : Table Player := []
  playLive : List Nat := []             -- playbacks whose slot is locked
  dlyLive : List Nat := []              -- delay lines whose slot is locked (R433)
  journal : List JRec := []             -- newest first; every drive of the pool holds it (R441)
  journalSeq : Nat := 0
  restart : Option Nat := none          -- cause of a restart whose record waits for the pool
  deriving DecidableEq, Repr

/-! ## The whole state -/

/-- The machine. -/
structure State where
  pending : List Instr := []            -- commands that wait, first in, first out
  out : List Out := []                  -- what the last command sent, oldest first (the model's own)
  fresh : Nat := 0                      -- counter of the free values drawn (the model's own)
  tcRest : Nat := 0                     -- what the counter has gained below its resolution, in 10^-18 of 2^-16 ns (R331)
  now : Nat := 0                        -- local oscillator time in nanoseconds
  tc : Nat := 0                         -- the time counter in units of 2^-16 ns since the PTP epoch (R330)
  objs : List (Nat × Val) := []         -- dictionary objects in force, by index x 65536 + subindex
  pinned : List Nat := []               -- dictionary counters whose PINNED bit is set (R562)
  regs : List (Nat × Word) := []        -- helper registers
  mem : List Host.Cell := []            -- bytes at Col addresses
  flash : List Host.Cell := []          -- bytes of the flash
  boot : Boot := {}
  ev : EvCtl := {}
  il : Ilril := {}
  ce : CommitEngine := {}
  tw : Twin := {}
  st : Store := {}
  up : Update := {}
  osf : Option OsfJob := none
  gate : Gate := {}
  ctl : Table CtlPort := []
  colLast : Table Nat := []             -- master that each Col target granted last (R535)
  scr : Scree := {}
  mon : Table MonUnit := []
  sdiRx : Table SdiRx := []
  sdiTx : Table SdiTx := []
  ridge : Ridge := {}
  cq : Cirque := {}
  media : Media := {}
  ws : Ws := {}
  au : Cornice := {}
  tarn : Tarn := {}
  sad : Saddle := {}
  mor : Moraine := {}
  deriving DecidableEq, Repr

/-- Why a command stops with a fault: no meaning of this model does (every behaviour of the spec is a next state). Safe. -/
inductive Fault where
  /-- Raised by no meaning; safe. -/
  | unused
  deriving DecidableEq, Repr

/-- Why a command is refused. -/
inductive Refusal where
  /-- Raised by an arm of Dispatch.lean that has no meaning yet. Safe: the machine stops. -/
  | notModelled (mnemonic : String)
  deriving DecidableEq, Repr

/-- The machine right after reset: RESET_N low after power-on, every object at its default, every register at its reset
value, memory with nothing listed (notes/assumptions/3.md). -/
def State.reset : State := {}

end Sys2Proof.Machine
end

