-- ==== Sys2Proof/Machine/Ops.lean ====
section
/-!
DEFINITION. The named operations over objects, registers, memory and time.
-/
namespace Sys2Proof.Machine

/-! ## Objects -/

/-- The address of an object: index x 65,536 + subindex (R562). -/
def adr (index sub : Nat) : Nat := 65536 * index + sub % 65536

/-- The index of an address. -/
def adrIndex (a : Nat) : Nat := a / 65536

/-- The subindex of an address. -/
def adrSub (a : Nat) : Nat := a % 65536

/-- The section of R281 that passes its input unchanged. -/
def bypassSection : List Byte := beBytes 4 0x40000000 ++ zeros 16

/-- The name of an event source; a reserved source reads "Reserved" (R494). -/
def eventName (source : Nat) : List Byte := ascii ((eventNames.lookup source).getD "Reserved")

/-- The default of an object (R478), with the values that its chapter gives a device-assigned default. -/
def objDefault (a : Nat) : Val :=
  match adrIndex a with
  | 0x1001 => .bytes Config.uniqueId
  | 0x1002 => .num Config.dieStepping
  | 0x1005 => if adrSub a = 0 then .num Config.romVersion else .num 0
  | 0x1190 => .bytes Config.vendorKeyHash
  | 0x1303 => .bytes (eventName (adrSub a))
  | 0x4006 => .bytes (Config.autoCoef true 8 65536)
  | 0x4007 => .bytes (Config.autoCoef false 6 65536)
  | 0x4008 => .bytes (Config.autoCoef true 8 65536)
  | 0x4009 => .bytes (Config.autoCoef false 6 65536)
  | 0x5003 => .bytes (List.replicate 4 bypassSection).flatten
  | 0x5101 => .bytes (zeros 256)
  | 0x5103 => .bytes (List.replicate 8 bypassSection).flatten
  | 0x6861 => .bytes defaultMacBase
  | 0xF000 => .bytes Config.diagInfo
  | i => (dictRow i (adrSub a)).elim (.num 0) (·.dflt)

/-- A configuration: the object store, or a projection of it (R195). -/
abbrev Objs := List (Nat × Val)

/-- The value of an object in a configuration. -/
def Objs.val (c : Objs) (a : Nat) : Val := storeGet objDefault c a

/-- A configuration with one object set. -/
def Objs.set (c : Objs) (a : Nat) (v : Val) : Objs := storeSet objDefault c a v

/-- The number a value holds. -/
def Val.toInt : Val → Int
  | .num i => i
  | .bytes _ => 0

/-- The bytes a value holds. -/
def Val.toBytes : Val → List Byte
  | .num _ => []
  | .bytes b => b

/-- An object as a number of 0 or more. -/
def Objs.n (c : Objs) (index sub : Nat) : Nat := (Val.toInt (Objs.val c (adr index sub))).toNat

/-- An object as a signed number. -/
def Objs.i (c : Objs) (index sub : Nat) : Int := Val.toInt (Objs.val c (adr index sub))

/-- A BOOL object. -/
def Objs.b (c : Objs) (index sub : Nat) : Bool := Objs.n c index sub != 0

/-- An OCTETS or STRING object. -/
def Objs.by (c : Objs) (index sub : Nat) : List Byte := Val.toBytes (Objs.val c (adr index sub))

/-- The subindices at which an object of this index differs from its default. -/
def Objs.subs (c : Objs) (index : Nat) : List Nat :=
  c.filterMap fun p => if adrIndex p.1 = index then some (adrSub p.1) else none

/-- An object in force, as a number of 0 or more. -/
def State.n (s : State) (index sub : Nat) : Nat := Objs.n s.objs index sub

/-- An object in force, as a signed number. -/
def State.i (s : State) (index sub : Nat) : Int := Objs.i s.objs index sub

/-- A BOOL object in force. -/
def State.b (s : State) (index sub : Nat) : Bool := Objs.b s.objs index sub

/-- An OCTETS or STRING object in force. -/
def State.by (s : State) (index sub : Nat) : List Byte := Objs.by s.objs index sub

/-- An object set to a value. -/
def State.setVal (s : State) (index sub : Nat) (v : Val) : State :=
  { s with objs := Objs.set s.objs (adr index sub) v }

/-- An object set to a number. -/
def State.setN (s : State) (index sub n : Nat) : State := s.setVal index sub (.num n)

/-- An object set to a signed number. -/
def State.setI (s : State) (index sub : Nat) (i : Int) : State := s.setVal index sub (.num i)

/-- A BOOL object set. -/
def State.setB (s : State) (index sub : Nat) (b : Bool) : State := s.setN index sub (b2n b)

/-- An OCTETS object set. -/
def State.setBy (s : State) (index sub : Nat) (b : List Byte) : State := s.setVal index sub (.bytes b)

/-- One bit of a BITS32 object set or cleared. -/
def State.setBitN (s : State) (index sub k : Nat) (b : Bool) : State :=
  s.setN index sub (setBit (s.n index sub) k b)

/-- An object put back to its default (R478). -/
def State.toDefault (s : State) (index sub : Nat) : State := s.setVal index sub (objDefault (adr index sub))

/-! ## Helper registers (R7, R517) -/

/-- The register at an address. -/
def State.reg (s : State) (addr : Nat) : Word := storeGet regReset s.regs addr

/-- The register at an address as a number. -/
def State.regN (s : State) (addr : Nat) : Nat := (s.reg addr).toNat

/-- A register set, whatever its access codes. -/
def State.setReg (s : State) (addr : Nat) (v : Word) : State := { s with regs := storeSet regReset s.regs addr v }

/-- A register set to a number. -/
def State.setRegN (s : State) (addr v : Nat) : State := s.setReg addr (BitVec.ofNat 32 v)

/-- One bit of a register set or cleared. -/
def State.setRegBit (s : State) (addr k : Nat) (b : Bool) : State :=
  s.setRegN addr (setBit (s.regN addr) k b)

/-- A field of a register. -/
def State.regField (s : State) (addr lo hi : Nat) : Nat := field (s.regN addr) lo hi

/-- A field of a register set. -/
def State.setRegField (s : State) (addr lo hi v : Nat) : State := s.setRegN addr (setField (s.regN addr) lo hi v)

/-- A bus write by the access codes alone (R7): RW bits take the value, W1C bits written as 1 clear, every other bit
stays. -/
def State.busWrite (s : State) (addr v : Nat) : State :=
  match regRow addr with
  | none => s
  | some r =>
    let old := s.regN addr
    let kept := Nat.land old (0xFFFFFFFF - Nat.lor r.rw r.w1c)
    let rw := Nat.land v r.rw
    let w1c := Nat.land (Nat.land old r.w1c) (0xFFFFFFFF - Nat.land v 0xFFFFFFFF)
    s.setRegN addr (kept + rw + w1c)

/-! ## Memory -/

/-- What a byte of Col memory that nothing has written reads as (notes/assumptions/8.md). -/
def memDefault (_ : Nat) : Byte := 0

/-- What a byte of the flash that nothing has written reads as: erased (notes/assumptions/9.md). -/
def flashDefault (_ : Nat) : Byte := 0xFF

/-- A memory in canonical form. -/
abbrev Memory := List Host.Cell

/-- The canonical form of the Col memory. -/
def Memory.wf (m : Memory) : Bool := storeWf memDefault m

/-- The canonical form of the flash. -/
def Memory.flashWf (m : Memory) : Bool := storeWf flashDefault m

/-- One byte read. -/
def State.memByte (s : State) (a : Nat) : Byte := storeGet memDefault s.mem a

/-- One byte written. -/
def State.setMemByte (s : State) (a : Nat) (b : Byte) : State := { s with mem := storeSet memDefault s.mem a b }

/-- n bytes read from an address on. -/
def State.memBytes (s : State) (a : Nat) : Nat → List Byte
  | 0 => []
  | n + 1 => s.memByte a :: s.memBytes (a + 1) n

/-- Bytes written from an address on. -/
def State.setMem (s : State) (a : Nat) : List Byte → State
  | [] => s
  | b :: t => (s.setMemByte a b).setMem (a + 1) t

/-- One byte of the flash. -/
def State.flashByte (s : State) (a : Nat) : Byte := storeGet flashDefault s.flash a

/-- n bytes of the flash. -/
def State.flashBytes (s : State) (a : Nat) : Nat → List Byte
  | 0 => []
  | n + 1 => s.flashByte a :: s.flashBytes (a + 1) n

/-- One byte of the flash set. -/
def State.setFlashByte (s : State) (a : Nat) (b : Byte) : State := { s with flash := storeSet flashDefault s.flash a b }

/-- Bytes programmed: a NOR cell changes only from 1 to 0 (notes/assumptions/9.md). -/
def State.program (s : State) (a : Nat) : List Byte → State
  | [] => s
  | b :: t => (s.setFlashByte a (s.flashByte a &&& b)).program (a + 1) t

/-- A range of the flash erased to 0xFF. -/
def State.erase (s : State) (a n : Nat) : State :=
  { s with flash := s.flash.filter fun c => !(a ≤ c.1 && c.1 < a + n) }

/-! ## Free values -/

/-- A fresh value, and the state that has drawn it. -/
def State.draw (s : State) : Nat × State := (Config.freeNat s.fresh, { s with fresh := s.fresh + 1 })

/-- Fresh random bytes, and the state that has drawn them. -/
def State.drawBytes (s : State) (n : Nat) : List Byte × State :=
  (Config.freeBytes s.fresh n, { s with fresh := s.fresh + 1 })

/-! ## Time -/

/-- Units of the time counter in a nanosecond (R330). -/
def tcNs : Nat := 65536

/-- Units of the time counter in a second. -/
def tcSec : Nat := 1000000000 * tcNs

/-- The time counter in whole nanoseconds (PTPTIME, R330). -/
def State.ptp (s : State) : Nat := s.tc / tcNs

/-- How far the counter gets in a time, in 10^-18 of its units: the oscillator's rate times 1 + y, and what it gained below its
resolution before (R331). -/
def State.gain (s : State) (dt : Nat) : Nat := (((tcNs * dt : Nat) : Int) * (1000000000000000000 + s.ws.y)).toNat + s.tcRest

/-- Time passes: the counter advances (R331), and the last command's output is gone. -/
def State.tick (s : State) (dt : Nat) : State :=
  { s with
    now := s.now + dt
    tc := s.tc + s.gain dt / 1000000000000000000
    tcRest := s.gain dt % 1000000000000000000
    out := [] }

/-- What the device sends. -/
def State.emit (s : State) (o : Out) : State := { s with out := s.out ++ [o] }

/-- The frame rate of a rate code as a fraction of Hz (R154); code 0 gives none. -/
def rateFrac : Nat → Nat × Nat
  | 1 => (24000, 1001)
  | 2 => (24, 1)
  | 3 => (25, 1)
  | 4 => (30000, 1001)
  | 5 => (30, 1)
  | 6 => (50, 1)
  | 7 => (60000, 1001)
  | 8 => (60, 1)
  | 9 => (100, 1)
  | 10 => (120000, 1001)
  | 11 => (120, 1)
  | _ => (0, 1)

/-- A period in seconds, as a fraction. -/
structure Period where
  num : Nat
  den : Nat
  deriving DecidableEq, Repr

/-- Grid point k of a period: k x T after the epoch, rounded down to 2^-16 ns (R162, R332). -/
def gridPoint (p : Period) (k : Nat) : Nat := tcSec * (k * p.num) / p.den

/-- The number of the last grid point at or before a counter value. -/
def gridIndex (p : Period) (t : Nat) : Nat :=
  if p.num = 0 then 0 else ((t + 1) * p.den - 1) / (tcSec * p.num)

/-- The number of the first grid point at or after a counter value. -/
def gridNext (p : Period) (t : Nat) : Nat := if t = 0 then 0 else gridIndex p (t - 1) + 1

/-- The period in nanoseconds, rounded down. -/
def periodNs (p : Period) : Nat := 1000000000 * p.num / p.den

/-- The period of a rate code. -/
def ratePeriod (code : Nat) : Period := let f := rateFrac code; ⟨f.2, f.1⟩

/-- The house frame (R332). -/
def State.house (s : State) : Period := ratePeriod (s.n Obj.wsHouseRate 0)

/-- The TAKE and Frame-class deadline: 2.0 ms before a boundary (R9, R201). -/
def deadline : Nat := 2000000 * tcNs

/-- The first house frame boundary at least 2.0 ms after the present (R9, R201). -/
def State.boundaryAfterDeadline (s : State) : Nat := gridPoint s.house (gridNext s.house (s.tc + deadline))

/-- The next house frame boundary (0x3830). -/
def State.nextBoundary (s : State) : Nat := gridPoint s.house (gridIndex s.house s.tc + 1)

/-- PTPTIME on the wire (R448): seconds U48, nanoseconds U32. -/
def ptpBytes (ns : Nat) : List Byte := beBytes 6 (ns / 1000000000) ++ beBytes 4 (ns % 1000000000)

end Sys2Proof.Machine
end

