-- ==== Sys2Proof/Machine/Flags.lean ====
section
/-!
DEFINITION. Status flags: events and their pins (R570 to R576, R648), counters and PINNED bits (R559 to R562), journal
records (R441, R599) and the health reasons (R484).
-/
namespace Sys2Proof.Machine

/-! ## Journals -/

/-- The bytes of a record from 20 to 59 of kind EVENT (R441). -/
def eventData (source subject : Nat) : List Byte :=
  beBytes 2 source ++ beBytes 4 subject ++ zeros 34

/-- A record added to a journal; the newest `limit` records stay. -/
def pushRecord (limit : Nat) (l : List JRec) (r : JRec) : List JRec := (r :: l).take limit

/-- A record appended to the journal of every drive of the pool (R441); a pool without a drive takes none. -/
def State.journal (s : State) (kind : Nat) (data : List Byte) : State :=
  if !s.mor.pool.any (fun d => s.n Obj.morDriveState d == 1) then s else
    { s with mor := { s.mor with
        journal := pushRecord (s.mor.diskJournalBytes / 64) s.mor.journal ⟨s.mor.journalSeq, s.ptp, kind, data⟩
        journalSeq := s.mor.journalSeq + 1 } }

/-- A record appended to the flash journal of 12 MB (R579, R599). -/
def State.flashJournal (s : State) (kind : Nat) (data : List Byte) : State :=
  { s with up := { s.up with
      journal := pushRecord 196608 s.up.journal ⟨s.up.journalSeq, s.ptp, kind, data⟩
      journalSeq := s.up.journalSeq + 1 } }

/-! ## Events -/

/-- The registers of the event controller (R577). -/
abbrev Reg.evtCtrl : Nat := 0x40000000
/-- EVT_STAT. -/
abbrev Reg.evtStat : Nat := 0x40000004
/-- EVT_DROPPED. -/
abbrev Reg.evtDropped : Nat := 0x40000008
/-- EVT_SWSUBJ. -/
abbrev Reg.evtSwsubj : Nat := 0x40000024
/-- EVT_PINCTL. -/
abbrev Reg.evtPinctl : Nat := 0x400000C0

/-- EVT_PINMAPk for a source. -/
def Reg.evtPinmap (source : Nat) : Nat := 0x40000040 + 4 * (source / 16)

/-- The code that EVT_PINMAP gives a source (R577). -/
def State.pinMap (s : State) (source : Nat) : Nat :=
  s.regField (Reg.evtPinmap source) (2 * (source % 16)) (2 * (source % 16) + 1)

/-- An event pin. -/
def State.evPin (s : State) (n : Nat) : EvPin := if n = 0 then s.ev.pin0 else s.ev.pin1

/-- An event pin replaced; a change of level leaves at the ball, asserted low (R576). -/
def State.setEvPin (s : State) (n : Nat) (p : EvPin) : State :=
  let changed := (s.evPin n).asserted != p.asserted
  let s1 := if n = 0 then { s with ev := { s.ev with pin0 := p } } else { s with ev := { s.ev with pin1 := p } }
  if changed then s1.emit (.pin .evtN n (b2n (!p.asserted))) else s1

/-- A raise meets pin n (R576). -/
def State.assertPin (s : State) (n source : Nat) : State :=
  let p := s.evPin n
  if s.regField Reg.evtPinctl n n = 0 then
    s.setEvPin n { p with asserted := true, cause := p.cause.orElse fun _ => some source }
  else
    match p.pulseAt with
    | some t => if s.now < t + 4000 then s else s.setEvPin n { p with asserted := true, pulseAt := some s.now }
    | none => s.setEvPin n { p with asserted := true, pulseAt := some s.now }

/-- A U64 object one greater, held at its largest value (R559), without its PINNED bit. -/
def State.count64 (s : State) (index sub by_ : Nat) : State :=
  s.setN index sub (min (s.n index sub + by_) 0xFFFFFFFFFFFFFFFF)

/-- The PINNED bit of a dictionary counter. -/
def State.setPinned (s : State) (a : Nat) : State :=
  if s.pinned.contains a then s else { s with pinned := s.pinned ++ [a] }

/-- The record of a raise meets the FIFO of 1,024 (R572). -/
def State.evPush (s : State) (r : EvRec) : State :=
  if s.ev.fifo.length < 1024 then { s with ev := { s.ev with fifo := s.ev.fifo ++ [r] } }
  else
    let first := !s.ev.episode
    let s1 := { s with ev := { s.ev with
      episode := true
      episodeDrops := min ((if first then 0 else s.ev.episodeDrops) + 1) 0xFFFFFFFF
      droppedUnseen := s.ev.droppedUnseen + 1 } }
    let s2 := s1.setRegBit Reg.evtStat 16 true
    if field (s2.regN Reg.evtDropped) 0 30 < 0x7FFFFFFF then s2.setRegN Reg.evtDropped (s2.regN Reg.evtDropped + 1)
    else s2

/-- A raise, without the PINNED bit of its own EventCount: count, time, subject, FIFO, pins and journals. -/
def State.raiseOnce (s : State) (source subject : Nat) : State :=
  let s1 := s.count64 Obj.eventCount source 1
  let s2 := s1.setN Obj.eventLastAt source s.ptp
  let s3 := s2.setN Obj.eventLastSubject source (subject % 0x100000000)
  let s4 := s3.evPush ⟨source, subject % 0x100000000, s.ptp⟩
  let m := s.pinMap source
  let s5 := if bit m 0 then s4.assertPin 0 source else s4
  let s6 := if bit m 1 then s5.assertPin 1 source else s5
  let s7 := s6.journal 1 (eventData source subject)
  if 496 ≤ source && source ≤ 503 then s7.flashJournal 1 (eventData source subject) else s7

/-- A raise of an event (R570). The saturation of its EventCount sets PINNED and raises COUNTER_PINNED once (R559). -/
def State.raise (s : State) (source subject : Nat) : State :=
  let a := adr Obj.eventCount source
  let full := s.n Obj.eventCount source = 0xFFFFFFFFFFFFFFFF && !s.pinned.contains a
  let s1 := s.raiseOnce source subject
  if full then (s1.setPinned a).raiseOnce Ev.counterPinned a else s1

/-- A raise that its chapter limits to once per second within a scope (R648). -/
def State.raiseLimited (s : State) (source scope subject : Nat) : State :=
  let hit := fun p : (Nat × Nat) × Nat => p.1 == (source, scope)
  let held : Bool := match s.ev.lastRaise.find? hit with
    | some p => decide (s.tc < p.2 + tcSec)
    | none => false
  if held then s
  else
    let s1 := s.raise source subject
    { s1 with ev := { s1.ev with
        lastRaise := ((source, scope), s.tc) :: s1.ev.lastRaise.filter fun p => !hit p } }

/-! ## Counters -/

/-- The largest value of a counter object (R559). -/
def counterMax (index sub : Nat) : Nat :=
  match dictRow index sub with
  | none => 0xFFFFFFFFFFFFFFFF
  | some r => if r.ty = Ty.u8 then 0xFF else if r.ty = Ty.u16 then 0xFFFF
    else if r.ty = Ty.u32 then 0xFFFFFFFF else 0xFFFFFFFFFFFFFFFF

/-- A dictionary counter incremented (R559). -/
def State.bump (s : State) (index sub : Nat) (by_ : Nat := 1) : State :=
  let a := adr index sub
  let top := counterMax index sub
  let v := s.n index sub + by_
  if v ≤ top then s.setN index sub v
  else if s.pinned.contains a then s.setN index sub top
  else ((s.setN index sub top).setPinned a).raise Ev.counterPinned a

/-- A dictionary counter cleared together with its PINNED bit (R560). -/
def State.clearCounter (s : State) (index sub : Nat) : State :=
  let a := adr index sub
  let s1 := s.toDefault index sub
  { s1 with pinned := s1.pinned.filter (· != a) }

/-- Several counters of one item cleared. -/
def State.clearCounters (s : State) (indices : List Nat) (sub : Nat) : State :=
  indices.foldl (fun t i => t.clearCounter i sub) s

/-- A register counter incremented: count in [30:0], PINNED in [31] (R559, R561). -/
def State.bumpReg (s : State) (addr : Nat) (by_ : Nat := 1) : State :=
  let v := s.regN addr
  let count := field v 0 30
  if count + by_ ≤ 0x7FFFFFFF then s.setRegN addr (v + by_)
  else if bit v 31 then s
  else (s.setRegN addr 0xFFFFFFFF).raise Ev.regCounterPinned addr

/-! ## Health (R484) -/

/-- HealthState from HealthReasons: 0 OK, 1 DEGRADED, 2 FAILED. -/
def healthOf (reasons : Nat) : Nat := if bit reasons 1 || bit reasons 3 then 2 else if reasons = 0 then 0 else 1

/-- One reason set or cleared; each change of HealthState raises HEALTH_CHANGE with the reason's bit. -/
def State.setReason (s : State) (k : Nat) (v : Bool) : State :=
  let old := s.n Obj.healthState 0
  let s1 := s.setBitN Obj.healthReasons 0 k v
  let new := healthOf (s1.n Obj.healthReasons 0)
  let s2 := s1.setN Obj.healthState 0 new
  if new = old then s2 else s2.raise Ev.healthChange k

end Sys2Proof.Machine
end

