-- ==== Sys2Proof/Machine/Operands.lean ====
section
/-!
DEFINITION. The forms of values: the wire form by type (R448), ranges (R477), format codes (R154 to R156) and the figures
of a format (R39 to R43, R159), routes (R185), audio references (R270), gains (R280) and biquad sections (R281).
-/
namespace Sys2Proof.Machine

/-! ## Wire form (R448) -/

/-- The bytes of a fixed-width type; none for STRING and OCTETS. -/
def Ty.width : Ty → Option Nat
  | .bool | .u8 => some 1
  | .u16 | .i16 | .enum16 => some 2
  | .u32 | .i32 | .bits32 | .route => some 4
  | .u64 | .i64 => some 8
  | .ptptime => some 10
  | .string | .octets => none

/-- Whether numbers of a type are two's complement. -/
def Ty.signed : Ty → Bool
  | .i16 | .i32 | .i64 => true
  | _ => false

/-- A value on the wire. -/
def encodeVal (ty : Ty) (v : Val) : List Byte :=
  match v with
  | .bytes b => b
  | .num i =>
    match ty with
    | .ptptime => ptpBytes i.toNat
    | _ => match ty.width with
      | some w => beBytes w (ofSigned (8 * w) i)
      | none => []

/-- A value read from the wire; none where its length or content lies outside the type. -/
def decodeVal (ty : Ty) (b : List Byte) : Option Val :=
  match ty with
  | .octets => if b.length ≤ 65535 then some (.bytes b) else none
  | .string => if b.length ≤ 255 && utf8Ok b then some (.bytes b) else none
  | .ptptime =>
    let ns := fromBe (b.drop 6)
    if b.length = 10 && ns < 1000000000 then some (.num (1000000000 * fromBe (b.take 6) + ns)) else none
  | .bool => if b.length = 1 && fromBe b < 2 then some (.num (fromBe b)) else none
  | ty => match ty.width with
    | some w => if b.length = w then some (.num (if ty.signed then toSigned (8 * w) (fromBe b) else (fromBe b : Int))) else none
    | none => none

/-! ## Formats (R154 to R156) -/

/-- The raster of a format code. -/
def fmtRaster (f : Nat) : Nat := field f 12 15

/-- The rate of a format code. -/
def fmtRate (f : Nat) : Nat := field f 8 11

/-- The sampling of a format code: 0 4:2:2 10-bit, 1 4:4:4 10-bit, 2 4:4:4 12-bit. -/
def fmtSampling (f : Nat) : Nat := field f 4 7

/-- A format code put together. -/
def fmtCode (raster rate sampling : Nat) : Nat := raster * 4096 + rate * 256 + sampling * 16

/-- Active width of a raster. -/
def rasterWidth : Nat → Nat
  | 1 => 720
  | 2 => 720
  | 3 => 1280
  | 4 => 1920
  | 5 => 1920
  | 6 => 1920
  | 7 => 3840
  | _ => 0

/-- Active lines of a raster. -/
def rasterHeight : Nat → Nat
  | 1 => 486
  | 2 => 576
  | 3 => 720
  | 4 => 1080
  | 5 => 1080
  | 6 => 1080
  | 7 => 2160
  | _ => 0

/-- Total lines of a raster. -/
def rasterLines : Nat → Nat
  | 1 => 525
  | 2 => 625
  | 3 => 750
  | 4 => 1125
  | 5 => 1125
  | 6 => 1125
  | 7 => 2250
  | _ => 0

/-- Whether the rate code of a raster is a field rate. -/
def rasterInterlaced (r : Nat) : Bool := r == 1 || r == 2 || r == 4

/-- The combinations of R155, NONE included. -/
def fmtValid (f : Nat) : Bool :=
  let r := fmtRaster f
  let t := fmtRate f
  let m := fmtSampling f
  f == 0 || (f < 65536 && f % 16 == 0 && match r with
    | 1 => t == 7 && m == 0
    | 2 => t == 6 && m == 0
    | 3 => 6 ≤ t && t ≤ 8 && m == 0
    | 4 => 6 ≤ t && t ≤ 8 && m ≤ 2
    | 5 => 1 ≤ t && t ≤ 5 && m ≤ 2
    | 6 => (1 ≤ t && t ≤ 8 && m ≤ 2) || (9 ≤ t && t ≤ 11 && m == 0)
    | 7 => (1 ≤ t && t ≤ 5 && m ≤ 2) || (6 ≤ t && t ≤ 8 && m == 0)
    | _ => false)

/-- The two rates of a 1/1.001 pair share one number. -/
def ratePair : Nat → Nat
  | 1 => 2
  | 4 => 5
  | 7 => 8
  | 10 => 11
  | r => r

/-- A source format matches a destination format (R156). -/
def fmtMatch (a b : Nat) : Bool :=
  fmtRaster a == fmtRaster b && fmtSampling a == fmtSampling b && ratePair (fmtRate a) == ratePair (fmtRate b)

/-- The frame period of a format: two field periods for an interlaced raster (R154). -/
def fmtPeriod (f : Nat) : Period :=
  let p := ratePeriod (fmtRate f)
  if rasterInterlaced (fmtRaster f) then ⟨2 * p.num, p.den⟩ else p

/-- The frame period in nanoseconds, rounded down. -/
def fmtPeriodNs (f : Nat) : Nat := periodNs (fmtPeriod f)

/-- A number of lines of a format in picoseconds (R156, T_l), rounded down. -/
def fmtLinesPs (f n : Nat) : Nat :=
  let p := fmtPeriod f
  1000000000000 * (n * p.num) / (p.den * rasterLines (fmtRaster f))

/-- The rate at which a format is charged (R39): frames per second, a 1/1.001 rate at its integer rate. -/
def fmtChargeRate (f : Nat) : Nat :=
  let hz := (rateFrac (ratePair (fmtRate f))).1
  if rasterInterlaced (fmtRaster f) then hz / 2 else hz

/-- The active pixel rate (R39). -/
def fmtPixelRate (f : Nat) : Nat := rasterWidth (fmtRaster f) * rasterHeight (fmtRaster f) * fmtChargeRate f

/-- Bits per pixel (R40). -/
def fmtBits (f : Nat) : Nat := match fmtSampling f with
  | 0 => 20
  | 1 => 30
  | _ => 36

/-- The payload charge of video (R40). -/
def fmtPayload (f : Nat) : Nat := fmtPixelRate f * fmtBits f

/-- Pixels per 64-byte block (R42). -/
def fmtBlockPixels (f : Nat) : Nat := match fmtSampling f with
  | 0 => 24
  | 1 => 16
  | _ => 13

/-- Bytes per frame (R43, R159). -/
def fmtFrameBytes (f : Nat) : Nat :=
  if f = 0 then 0 else
    rasterHeight (fmtRaster f) * ceilDiv (rasterWidth (fmtRaster f)) (fmtBlockPixels f) * 64 + 65536

/-- The stream rate of a format at a number of frames per second (R43, R44). -/
def fmtStreamAt (f hz : Nat) : Nat := fmtFrameBytes f * hz

/-- The stream rate of a format (R43). -/
def fmtStream (f : Nat) : Nat := fmtStreamAt f (fmtChargeRate f)

/-- The stream rate of a graphics surface of a size (R42, R43). -/
def surfaceStream (f : Nat) : Nat :=
  rasterHeight (fmtRaster f) * ceilDiv (rasterWidth (fmtRaster f)) 12 * 64 * fmtChargeRate f

/-- The pages of a slot (R159). -/
def fmtPages (f : Nat) : Nat := 3 * ceilDiv (fmtFrameBytes f) 2097152

/-! ## Routes (R185) -/

/-- The source that a route names; none with NO_SOURCE. -/
def routeSource (r : Nat) : Option Nat := if bit r 11 then none else some (field r 0 10)

/-- Whether a route takes the source's ancillary packets. -/
def routeAnc (r : Nat) : Bool := bit r 25

/-- Whether a route is protected. -/
def routeProtect (r : Nat) : Bool := bit r 16

/-- The layout of R185. -/
def routeValid (r : Nat) : Bool :=
  r < 2 ^ 26 && field r 12 15 == 0 && field r 17 23 == 0 &&
    (if bit r 11 then field r 0 10 == 0 && !bit r 24 && !bit r 25 else bit r 24)

/-! ## Audio values (R270, R280, R281) -/

/-- A signed value of n bytes at an offset. -/
def intAt (b : List Byte) (at_ n : Nat) : Int := toSigned (8 * n) (fromBe ((b.drop at_).take n))

/-- An audio source reference (R270). -/
def audioRefOk (v : Nat) : Bool :=
  field v 16 27 == 0 && match field v 28 31 with
    | 0 => v == 0
    | 1 => field v 0 15 ≤ 32767
    | 2 => field v 0 15 ≤ 2047
    | _ => false

/-- A gain in 0.01 dB, or OFF (R280). -/
def gainOk (g : Int) : Bool := g == -32768 || (-9600 ≤ g && g ≤ 2400)

/-- Q2.30 one. -/
def q230 : Int := 1073741824

/-- The stability rule of one biquad section (R281): |a2| < 1 and |a1| < 1 + a2. -/
def sectionOk (b : List Byte) : Bool :=
  let a1 := intAt b 12 4
  let a2 := intAt b 16 4
  a2.natAbs < q230.natAbs && (a1.natAbs : Int) < q230 + a2

/-- The gains of a list of I16 bytes (R282). -/
def gainsOk (b : List Byte) : Bool := (chunksOf 2 128 b).all fun c => gainOk (intAt c 0 2)

/-- The references of BusInputSrc (R272). -/
def busSrcOk (b : List Byte) : Bool :=
  b.length % 4 == 0 && b.length ≤ 512 && (chunksOf 4 128 b).all fun c => audioRefOk (fromBe c)

/-- The members of LoudMembers (R297). -/
def loudOk (b : List Byte) : Bool :=
  b.length % 5 == 0 && b.length ≤ 120 && (chunksOf 5 24 b).all fun c =>
    let r := fromBe (c.take 4)
    audioRefOk r && field r 28 31 != 0 && (fromBe (c.drop 4)) ≤ 2

/-- The sum of a list of I16 bytes. -/
def sum16 : Nat → List Byte → Int
  | 0, _ => 0
  | n + 1, b => intAt b 0 2 + sum16 n (b.drop 2)

/-- A coefficient table (R228): 8 horizontal or 6 vertical taps of 64 phases, each phase summing to 1,024. -/
def coefOk (bytes : Nat) (b : List Byte) : Bool :=
  b.length == bytes && (chunksOf (bytes / 64) 64 b).all fun c => sum16 (bytes / 128) c == 1024

/-! ## Ranges (R477) -/

/-- Whether a value of the right type lies in the range that the Notes give. -/
def Rng.ok (r : Rng) (v : Val) : Bool :=
  let i := Val.toInt v
  let n := i.toNat
  let b := Val.toBytes v
  match r with
  | .any => true
  | .span lo hi => lo ≤ i && i ≤ hi
  | .spanOr lo hi other => (lo ≤ i && i ≤ hi) || i == other
  | .step lo hi k => lo ≤ n && n ≤ hi && n % k == 0
  | .mask m => Nat.land n m == n
  | .keep _ => true
  | .lens lo hi k => lo ≤ b.length && b.length ≤ hi && (b.length - lo) % k == 0
  | .addr => b.length == 0 || b.length == 4 || b.length == 16
  | .macBase => b.length == 6 && (b.drop 5) == [0]
  | .route => routeValid n
  | .format => fmtValid n
  | .audioRef => audioRefOk n
  | .gain => gainOk i
  | .gains k => b.length == 2 * k && gainsOk b
  | .eq k => b.length == 20 * k && (chunksOf 20 k b).all sectionOk
  | .busSrc => busSrcOk b
  | .loud => loudOk b
  | .coef k => coefOk k b

/-- A written value as its object holds it: the bits of a number that its Notes mark as reading 0 are dropped, where R477 does not
refuse them. -/
def Rng.kept (r : Rng) (v : Val) : Val :=
  match r, v with
  | .keep m, .num i => .num (Nat.land i.toNat m)
  | _, v => v

/-- A written value read by its object's row: none where it is outside the type or the range. A default that the device
computes lies in its object's range (notes/assumptions/12.md). -/
def Row.value (r : Row) (b : List Byte) : Option Val :=
  match decodeVal r.ty b with
  | none => none
  | some v => if r.rng.ok v || (r.access == .rw && v != .bytes [] && v == objDefault (adr r.index 0)) then
      some (r.rng.kept v) else none

end Sys2Proof.Machine
end

