-- ==== Sys2Proof/Machine/Feeds.lean ====
section
/-!
DEFINITION. What a configuration says of feeds and uses: the feed of a source slot and the use of a destination slot
(R15), SDI carriages and lane rates (R51, R52), ports (R88, R89), RTP timing (R134, R138, R139) and audio ranges (R68).
Every function reads a configuration, so that ARM can apply it to a projection (R195).
-/
namespace Sys2Proof.Machine

/-! ## Carriages (R51, R52) -/

/-- Whether a rate code is a 1/1.001 rate. -/
def rateIs1001 (r : Nat) : Bool := r == 1 || r == 4 || r == 7 || r == 10

/-- The formats that a carriage carries (R51). -/
def carries (carriage f : Nat) : Bool :=
  let r := fmtRaster f
  let t := fmtRate f
  let m := fmtSampling f
  fmtValid f && f != 0 && match carriage with
    | 1 => r == 1 || r == 2
    | 2 => m == 0 && ((r == 3) || (r == 4) || ((r == 5 || r == 6) && t ≤ 5))
    | 3 => (r == 6 && m == 0 && 6 ≤ t && t ≤ 8) || ((r == 5 || r == 6) && t ≤ 5 && (m == 1 || m == 2))
    | 4 => (r == 6 && m == 0 && 6 ≤ t && t ≤ 8) || ((r == 5 || r == 6) && t ≤ 5 && (m == 1 || m == 2))
    | 5 => (r == 7 && m == 0 && t ≤ 5) || (r == 6 && m == 0 && 9 ≤ t) || (r == 6 && m == 1 && 6 ≤ t && t ≤ 8)
    | 6 => (r == 7 && m == 0 && 6 ≤ t) || (r == 6 && m == 2 && 6 ≤ t && t ≤ 8)
    | 7 => r == 7 && m == 0 && 6 ≤ t
    | 8 => r == 7 && m == 0 && 6 ≤ t
    | _ => false

/-- The bit of R52 at which a carriage sends a format. -/
def carriageRate (carriage f : Nat) : Nat :=
  let lower := b2n (rateIs1001 (fmtRate f))
  match carriage with
  | 1 => 0
  | 2 => 1 + lower
  | 5 => 5 + lower
  | 6 => 7 + lower
  | _ => 3 + lower

/-- The carriage that TxCarriage selects for a format (R77): AUTO takes the first of R51 that carries it, never a quad
link; 0 where none is. -/
def carriageFor (selected f : Nat) : Nat :=
  if selected = 0 then (([1, 2, 3, 4, 5, 6].find? fun k => carries k f).getD 0) else selected

/-- Whether a carriage is a quad link. -/
def carriageQuad (k : Nat) : Bool := k == 7 || k == 8

/-- The line rate of a bit of R52 in b/s, as a fraction. -/
def laneRate : Nat → Nat × Nat
  | 0 => (270000000, 1)
  | 1 => (1485000000, 1)
  | 2 => (1485000000000, 1001)
  | 3 => (2970000000, 1)
  | 4 => (2970000000000, 1001)
  | 5 => (5940000000, 1)
  | 6 => (5940000000000, 1001)
  | 7 => (11880000000, 1)
  | 8 => (11880000000000, 1001)
  | _ => (0, 1)

/-- The sample clock of one data stream at a bit of R52: a twentieth of the line rate. -/
def laneClock (b : Nat) : Nat × Nat := let r := laneRate b; (r.1, r.2 * 20)

/-- The fixed receive delay of a lane rate in nanoseconds (R62). -/
def laneRxDelay : Nat → Nat
  | 0 => 310
  | 1 => 62
  | 2 => 62
  | 3 => 38
  | 4 => 38
  | 5 => 26
  | 6 => 26
  | _ => 20

/-- Groups of audio that the receiver extracts from a link at a bit of R52 (R67). -/
def rateGroups (b : Nat) : Nat := if b ≤ 2 then 4 else 8

/-- The lines of a raster that carry the ST 352 packet (R66); sub-images of a 2160p carriage are 1080p. -/
def pidLines (raster : Nat) : List Nat := match raster with
  | 1 => [13, 276]
  | 2 => [9, 322]
  | 4 => [10, 572]
  | 5 => [10, 572]
  | _ => [10]

/-- The first line of a raster's frame (525-line frames begin with line 4), and the first active line of field 1 or of the frame.
PRESUMED from the standards of R51 (notes/assumptions/16.md). -/
def firstLines (raster : Nat) : Nat × Nat := match raster with
  | 1 => (4, 21)
  | 2 => (1, 23)
  | 3 => (1, 26)
  | 4 => (1, 21)
  | 5 => (1, 21)
  | _ => (1, 42)

/-- Groups of audio that a link of a carriage holds (R67). -/
def carriageGroups (k : Nat) : Nat := if k = 1 || k = 2 then 4 else 8

/-- Links of a carriage. -/
def carriageLinks (k : Nat) : Nat := if carriageQuad k then 4 else 1

/-- Every valid format code. -/
def allFormats : List Nat :=
  ([1, 2, 3, 4, 5, 6, 7].map fun r => [1, 2, 3, 4, 5, 6, 7, 8, 9, 10, 11].map fun t => [0, 1, 2].map fun m =>
    fmtCode r t m).flatten.flatten.filter fmtValid

/-- Whether a measured raster is that of a format at a lane rate: lines, and samples per line of one data stream
(R57). -/
def rasterIs (r : Raster) (b f : Nat) : Bool :=
  let c := laneClock b
  let p := fmtPeriod f
  r.lines == rasterLines (fmtRaster f) && r.samples * r.lines * p.den * c.2 == c.1 * p.num &&
    r.interlaced == (rasterInterlaced (fmtRaster f) || fmtRaster f == 5)

/-- The formats that R51 lists for a raster, carriage and lane rate. -/
def rasterFormats (r : Raster) (b : Nat) : List Nat :=
  allFormats.filter fun f => rasterIs r b f &&
    [1, 2, 3, 4, 5, 6].any fun k => carries k f && carriageRate k f == b

/-- Format identification (R57, R58): the format, none where R51 lists none, and whether the payload ID disagrees with the
measured raster. Where an assumption does not apply the scan is interlaced, and psF at a rate for which R51 lists no interlaced
format: there the raster itself fixes it. -/
def identify (r : Raster) (b : Nat) (pid : Option PayloadId) (sampling scan : Nat) : Option Nat × Bool :=
  let l := rasterFormats r b
  let assumed :=
    let hasM := l.any fun f => fmtSampling f == sampling
    let m := if hasM then sampling else 0
    let ras := fun f => if fmtRaster f == 5 then 1 else 0
    let l2 := l.filter fun f => fmtSampling f == m
    let sc := if l2.any fun f => ras f == scan then scan else if l2.any fun f => ras f == 0 then 0 else 1
    l2.find? fun f => ras f == sc
  match pid with
  | none => (assumed, false)
  | some p =>
    if l.contains p.format then (some p.format, false)
    else (assumed, l.all fun f => fmtRaster f != fmtRaster p.format || fmtRate f != fmtRate p.format)

/-! ## SDI ports -/

/-- The lead lane of a lane's quad (R50). -/
def quadLead (lane : Nat) : Nat := lane / 4 * 4

/-- The lanes of a receive port or group (R50). -/
def Objs.rxLanes (c : Objs) (lead : Nat) : List Nat :=
  if lead < 65536 && Objs.b c Obj.rxQuad lead then [lead, lead + 1, lead + 2, lead + 3] else [lead]

/-- The receive port or group to which a lane belongs. -/
def Objs.rxLead (c : Objs) (lane : Nat) : Nat :=
  if lane < 65536 && Objs.b c Obj.rxQuad (quadLead lane) then quadLead lane else lane

/-- The lanes of a transmit port or group (R50, R77). -/
def Objs.txLanes (c : Objs) (lead : Nat) : List Nat :=
  if carriageQuad (Objs.n c Obj.sdiTxCarriage lead) then [lead, lead + 1, lead + 2, lead + 3] else [lead]

/-- The transmit port or group to which a lane belongs. -/
def Objs.txLead (c : Objs) (lane : Nat) : Nat :=
  if carriageQuad (Objs.n c Obj.sdiTxCarriage (quadLead lane)) then quadLead lane else lane

/-- The group objects of receive ports: those that configure a group or report it as a whole (R50, R84). DEDUCED
(notes/assumptions/67.md). -/
def rxGroupObjects : List Nat :=
  [Obj.rxSlot, Obj.rxQuad, Obj.rxQuadDivision, Obj.rxAssumeSampling, Obj.rxAssumeScan, Obj.rxAudioBase, Obj.rxAudioGroups,
    Obj.sdiRxAncDrop, Obj.rxPayloadId, Obj.rxQuadSkew, Obj.rxAudioPresent, Obj.rxAudioEccCorrected, Obj.rxAudioUncorrectable,
    Obj.rxAncChecksumErr, Obj.rxAncOverflow]

/-- The group objects of transmit ports (R85). DEDUCED (notes/assumptions/67.md). -/
def txGroupObjects : List Nat :=
  [Obj.txSlot, Obj.sdiTxCarriage, Obj.txQuadDivision, Obj.txAudioBase, Obj.txAudioGroups, Obj.sdiTxAncEnable, Obj.txIdle,
    Obj.txState, Obj.txRate, Obj.txFormat, Obj.txPayloadId, Obj.sdiTxAncDropped, Obj.sdiTxCounterClear]

/-- Whether an object stands on a member lane of a group, where a group object reads its default and takes no write (R84, R85). -/
def Objs.onMember (c : Objs) (a : Nat) : Bool :=
  let i := adrIndex a
  let n := adrSub a
  (rxGroupObjects.contains i && Objs.rxLead c n != n) || (txGroupObjects.contains i && Objs.txLead c n != n)

/-- The channels that audio groups take (R68, R71): four from base + 4b for each bit b set. -/
def groupChannels (base groups : Nat) : List Nat :=
  if base = 0xFFFF then [] else
    ((List.range 32).filter fun b => groups.testBit b).flatMap fun b =>
      [base + 4 * b, base + 4 * b + 1, base + 4 * b + 2, base + 4 * b + 3]

/-! ## Media ports and entries -/

/-- Whether a port code names network B. -/
def portIsB (code : Nat) : Bool := bit code 15

/-- The number of a port code. -/
def portNo (code : Nat) : Nat := field code 0 6

/-- A port object of 0x6800 to 0x681F for the network of a port code. -/
def portIdx (code index : Nat) : Nat := if portIsB code then index + 0x20 else index

/-- A port object of 0x6840 to 0x684F for the network of a port code. -/
def portTxIdx (code index : Nat) : Nat := if portIsB code then index + 0x10 else index

/-- Whether the split of R89 gives a port code a port. -/
def Objs.portExists (c : Objs) (code : Nat) : Bool :=
  let n := Objs.n c Obj.portCountA 0
  field code 7 14 == 0 && if portIsB code then portNo code < 72 - n else portNo code < n

/-- A port's mode in a configuration, 0 for a code that names no port. -/
def Objs.portMode (c : Objs) (code : Nat) : Nat :=
  if Objs.portExists c code then Objs.n c (portIdx code Obj.portMode) (portNo code) else 0

/-- Lanes of a port mode (R88). -/
def modeLanes : Nat → Nat
  | 0 => 0
  | 3 => 4
  | 4 => 2
  | 6 => 8
  | 7 => 4
  | _ => 1

/-- LaneEthRate of a port mode (R88, R398). -/
def modeEthRate : Nat → Nat
  | 1 => 0
  | 2 => 1
  | 3 => 1
  | 4 => 2
  | 6 => 2
  | _ => 3

/-- Nominal rate of a port mode in b/s (R88). -/
def modeRate : Nat → Nat
  | 1 => 10000000000
  | 2 => 25000000000
  | 3 => 100000000000
  | 4 => 100000000000
  | 5 => 100000000000
  | 6 => 400000000000
  | 7 => 400000000000
  | _ => 0

/-- The lanes of a port. -/
def Objs.portLanes (c : Objs) (code : Nat) : List Nat :=
  let base := Objs.n c (portIdx code Obj.portLaneBase) (portNo code)
  (List.range (modeLanes (Objs.portMode c code))).map (base + ·)

/-- The port codes of both networks whose mode is not OFF, in ascending order. -/
def Objs.ports (c : Objs) : List Nat :=
  ((Objs.subs c Obj.portMode).map id ++ (Objs.subs c Obj.portModeB).map (· + 0x8000)).filter fun p =>
    Objs.portMode c p != 0

/-- The port index of R146. -/
def Objs.portIndex (c : Objs) (code : Nat) : Nat :=
  if portIsB code then Objs.n c Obj.portCountA 0 + portNo code else portNo code

/-- The enabled receive entries. -/
def Objs.rxEntries (c : Objs) : List Nat := (Objs.subs c Obj.rxEnable).filter fun e => Objs.b c Obj.rxEnable e

/-- The enabled transmit entries. -/
def Objs.txEntries (c : Objs) : List Nat := (Objs.subs c Obj.txEnable).filter fun e => Objs.b c Obj.txEnable e

/-- The lead entry of a receive pair, or the entry itself (R109). -/
def Objs.rxLeadEntry (c : Objs) (e : Nat) : Nat :=
  let p := Objs.n c Obj.rxPartner e
  if p != 0xFFFF && p < e && Objs.b c Obj.rxEnable p then p else e

/-- The lead entry of a transmit pair, or the entry itself. -/
def Objs.txLeadEntry (c : Objs) (e : Nat) : Nat :=
  let p := Objs.n c Obj.txPartner e
  if p != 0xFFFF && p < e && Objs.b c Obj.txEnable p then p else e

/-- The entries of a flow: the lead entry and its partner (R124). -/
def Objs.txPaths (c : Objs) (lead : Nat) : List Nat :=
  let p := Objs.n c Obj.txPartner lead
  if p != 0xFFFF && Objs.b c Obj.txEnable p then [lead, p] else [lead]

/-- The entries of the flows that send what a destination emits: video, and ancillary packets beside it (R125, R126). -/
def Objs.txOfDst (c : Objs) (d : Nat) : List Nat :=
  (Objs.txEntries c).filter fun e =>
    let lead := Objs.txLeadEntry c e
    Objs.n c Obj.txSource lead == d && [1, 4, 5].contains (Objs.n c Obj.txEssence lead)

/-- The format that an ST2110_20 receive entry declares (R112). -/
def Objs.rxFormat (c : Objs) (e : Nat) : Nat :=
  let f := Objs.n c Obj.rxVideoFormat e
  fmtCode (fmtRaster f) (fmtRate f) (Objs.n c Obj.rxVideoSampling e)

/-! ## Feeds and uses (R15) -/

/-- What feeds a source slot. -/
inductive Feed where
  | none
  | sdi (lane : Nat)
  | flow (entry : Nat)
  | cirque (engine : Nat)
  | generator (g : Nat)
  | play (p : Nat)
  | delay (l : Nat)
  deriving DecidableEq, Repr

/-- The code of SrcFeedKind (0x2001). -/
def Feed.code : Feed → Nat
  | .none => 0
  | .sdi _ => 1
  | .flow _ => 2
  | .cirque _ => 3
  | .generator _ => 4
  | .play _ => 5
  | .delay _ => 6

/-- Every feed that a configuration gives a source slot: a valid configuration gives at most one. -/
def Objs.feeds (c : Objs) (slot : Nat) : List Feed :=
  ((Objs.subs c Obj.rxSlot).filter fun l => Objs.n c Obj.rxSlot l == slot).map Feed.sdi ++
  ((Objs.rxEntries c).filter fun e => Objs.n c Obj.rxTarget e == slot && Objs.rxLeadEntry c e == e &&
      (Objs.n c Obj.rxEssence e == 1 || Objs.n c Obj.rxEssence e == 5)).map Feed.flow ++
  ((Objs.subs c Obj.cqSrcSlot).filter fun e => Objs.n c Obj.cqSrcSlot e == slot).map Feed.cirque ++
  (if Objs.n c Obj.srcGenerator slot == 0xFF then [] else [Feed.generator (Objs.n c Obj.srcGenerator slot)]) ++
  ((Objs.subs c Obj.playEnable).filter fun p => Objs.b c Obj.playEnable p && Objs.n c Obj.playSlot p == slot).map Feed.play ++
  ((Objs.subs c Obj.dlyEnable).filter fun l => Objs.b c Obj.dlyEnable l && Objs.n c Obj.dlySlot l == slot).map Feed.delay

/-- The feed of a source slot. -/
def Objs.feed (c : Objs) (slot : Nat) : Feed := (Objs.feeds c slot).headD .none

/-- What a destination slot feeds. -/
inductive Sink where
  | none
  | sdi (lane : Nat)
  | tx (entry : Nat)
  | layer (engine l : Nat)
  | record (r : Nat)
  | delay (l : Nat)
  deriving DecidableEq, Repr

/-- Every use that a configuration gives a destination slot. -/
def Objs.sinks (c : Objs) (dst : Nat) : List Sink :=
  ((Objs.subs c Obj.txSlot).filter fun l => Objs.n c Obj.txSlot l == dst).map Sink.sdi ++
  ((Objs.txEntries c).filter fun e => Objs.n c Obj.txSource e == dst && Objs.txLeadEntry c e == e &&
      (Objs.n c Obj.txEssence e == 1 || Objs.n c Obj.txEssence e == 5)).map Sink.tx ++
  ((Objs.subs c Obj.layerDstSlot).filter fun x => x % 8 < 4 && Objs.n c Obj.layerDstSlot x == dst).map
    (fun x => Sink.layer (x / 8) (x % 8)) ++
  ((Objs.subs c Obj.recEnable).filter fun r => Objs.b c Obj.recEnable r && Objs.n c Obj.recDst r == dst).map Sink.record ++
  ((Objs.subs c Obj.dlyEnable).filter fun l => Objs.b c Obj.dlyEnable l && Objs.n c Obj.dlyDst l == dst).map Sink.delay

/-- The use of a destination slot. -/
def Objs.sink (c : Objs) (dst : Nat) : Sink := (Objs.sinks c dst).headD .none

/-! ## Transmit timing (R134, R138, R139) -/

/-- The default TRO of a format, as a fraction of the frame period (R138). -/
def defaultTro (f : Nat) : Nat × Nat := match fmtRaster f with
  | 1 => (20, 525)
  | 2 => (25, 625)
  | 3 => (28, 750)
  | 4 => (22, 1125)
  | 5 => (22, 1125)
  | _ => (43, 1125)

/-- The TRO of a transmit entry in seconds, as a fraction. -/
def Objs.troSec (c : Objs) (e f : Nat) : Nat × Nat :=
  let t := Objs.n c Obj.txTro e
  let p := fmtPeriod f
  if t = 0 then (p.num * (defaultTro f).1, p.den * (defaultTro f).2) else (t, 1000000000)

/-- The TRO of a transmit entry in nanoseconds, rounded down. -/
def Objs.tro (c : Objs) (e f : Nat) : Nat := let t := Objs.troSec c e f; 1000000000 * t.1 / t.2

/-- The time from the read start to the emission of an output frame (R139, R163), by the use. -/
def Objs.emitDelay (c : Objs) (dst : Nat) : Nat :=
  match Objs.sink c dst with
  | .sdi _ => 3200
  | .tx e => if Objs.n c Obj.txEssence e = 5 then 9600 else 7700
  | _ => 0

/-- Bytes of the pixel groups of R112 and the pixels they hold. -/
def pixelGroup (sampling : Nat) : Nat × Nat := match sampling with
  | 0 => (5, 2)
  | 1 => (15, 4)
  | _ => (9, 2)

/-- Bytes of pixel data in one active line of a format. -/
def lineBytes (f : Nat) : Nat := let g := pixelGroup (fmtSampling f); rasterWidth (fmtRaster f) * g.1 / g.2

/-- Packets per frame of an ST2110_20 entry: each field or frame ends with its own last packet (R136). -/
def framePackets (f p : Nat) : Nat :=
  let h := rasterHeight (fmtRaster f)
  if rasterInterlaced (fmtRaster f) || fmtRaster f == 5 then 2 * ceilDiv (lineBytes f * (h / 2)) p
  else ceilDiv (lineBytes f * h) p

/-- Samples per packet of a packet time and rate (R115). -/
def packetSamples (time rate96 : Nat) : Nat :=
  let n := match time with
    | 0 => 6
    | 1 => 12
    | 2 => 16
    | 3 => 48
    | _ => 192
  if rate96 = 1 then 2 * n else n

/-- Bytes per sample of an audio entry: L16, L24 or the AES3 subframes of ST2110_31 (R115). -/
def sampleBytes (essence depth : Nat) : Nat := if essence = 3 then 4 else if depth = 0 then 2 else 3

/-! ## Audio ranges (R68, R96, R322) -/

/-- Each audio feed of a configuration with its channels: the objects that name the feed, and the channels. A pair feeds
one set of channels. -/
def Objs.audioFeeds (c : Objs) : List (List Nat × List Nat) :=
  ((Objs.subs c Obj.rxAudioBase).map fun l =>
    ([adr Obj.rxAudioBase l, adr Obj.rxAudioGroups l],
      groupChannels (Objs.n c Obj.rxAudioBase l) (Objs.n c Obj.rxAudioGroups l))) ++
  (((Objs.rxEntries c).filter fun e => Objs.rxLeadEntry c e == e &&
      (Objs.n c Obj.rxEssence e == 2 || Objs.n c Obj.rxEssence e == 3)).map fun e =>
    ([adr Obj.rxEnable e, adr Obj.rxPartner e, adr Obj.rxTarget e, adr Obj.rxAudioChannels e, adr Obj.rxEssence e],
      (List.range (Objs.n c Obj.rxAudioChannels e)).map (Objs.n c Obj.rxTarget e + ·))) ++
  (((Objs.rxEntries c).filter fun e => Objs.rxLeadEntry c e == e && Objs.n c Obj.rxEssence e == 5).map fun e =>
    ([adr Obj.rxEnable e, adr Obj.rxPartner e, adr Obj.rxEmbAudioBase e, adr Obj.rxEmbAudioGroups e, adr Obj.rxEssence e],
      groupChannels (Objs.n c Obj.rxEmbAudioBase e) (Objs.n c Obj.rxEmbAudioGroups e))) ++
  ((Objs.subs c Obj.tarnAiBase).map fun p =>
    ([adr Obj.tarnAiBase p, adr Obj.tarnAiCount p],
      if Objs.n c Obj.tarnAiBase p = 0xFFFF then [] else
        (List.range (Objs.n c Obj.tarnAiCount p)).map (Objs.n c Obj.tarnAiBase p + ·)))

end Sys2Proof.Machine
end

