-- ==== Sys2Proof/Machine/Slots.lean ====
section
/-!
DEFINITION. Source slots (chapter 05): their lock, their frames and their writers; and what every command shares.
-/
namespace Sys2Proof.Machine

/-! ## Commands -/

/-- What a command answers. -/
abbrev Result := Host.Outcome State Fault Refusal

/-- Whether the device is held in reset, or does nothing for its TEST_EN strap (R609). -/
def State.inReset (s : State) : Bool := s.boot.stage == .reset || s.boot.straps.testEn

/-- A command: time passes, then its effect (notes/assumptions/1.md); nothing acts in a device that is held in reset
(notes/assumptions/3.md). -/
def act (dt : Nat) (s : State) (f : State → State) : Result :=
  let t := s.tick dt
  .next (if t.inReset then t else f t)

/-- A command that acts in reset too. -/
def actAlways (dt : Nat) (s : State) (f : State → State) : Result := .next (f (s.tick dt))

/-- A state changed where a condition holds. -/
def State.onlyIf (s : State) (c : Bool) (f : State → State) : State := if c then f s else s

/-- A command that is no such event where its condition fails (notes/assumptions/2.md). -/
def actIf (dt : Nat) (s : State) (c : State → Bool) (f : State → State) : Result := act dt s fun t => t.onlyIf (c t) f

/-- Whether the essence path runs: a restore commit has executed since the last full reset (R613, R614). -/
def State.live (s : State) : Bool := s.boot.datapath

/-- Whether the device is the standby of a pair (R373). -/
def State.standby (s : State) : Bool := s.n Obj.twinRole 0 == 2

/-- Whether the device drives the outputs of a frame that begins at a counter value: a new role holds from its boundary on (R373, R382,
R383). -/
def State.drives (s : State) (at_ : Nat) : Bool := if at_ < s.tw.roleAt then s.standby else !s.standby

/-! ## Formats of feeds -/

/-- The colour of a source slot (R251): an engine's slot has the engine's output colour. -/
def Objs.srcColourOf (c : Objs) (slot : Nat) : Nat :=
  match Objs.feed c slot with
  | .cirque e => Objs.n c Obj.cqOutputColour e
  | _ => Objs.n c Obj.srcColour slot

/-- The format that an SDI receive port or group delivers: a quad-link group assembles 2160p (R59), where R51 lists that format
for its lane rate. -/
def State.sdiFormat (s : State) (lead : Nat) : Nat :=
  let f := s.n Obj.rxFormat lead
  if (Objs.rxLanes s.objs lead).length = 4 then
    let g := fmtCode 7 (fmtRate f) (fmtSampling f)
    if carries 7 g && carriageRate 7 g = s.n Obj.rxRate lead then g else 0
  else f

/-- The format of the live signal of a feed, 0 while it is not known. -/
def State.feedFormat (s : State) (slot : Nat) (f : Feed) : Nat :=
  match f with
  | .sdi l => s.sdiFormat l
  | .flow e => if s.n Obj.rxEssence e = 5 then s.n Obj.embFormat e else Objs.rxFormat s.objs e
  | _ => s.n Obj.srcReservedFormat slot

/-- A live format that exceeds a reservation (R37). -/
def fmtExceeds (live reserved : Nat) : Bool :=
  fmtPixelRate live > fmtPixelRate reserved || fmtPayload live > fmtPayload reserved ||
    fmtStream live > fmtStream reserved

/-! ## Lock -/

/-- A source slot's frame store. -/
def State.src (s : State) (slot : Nat) : SrcSlot := look s.ridge.src slot {}

/-- Whether a frame is being written. -/
def Frame.open_ (f : Frame) : Bool := !f.complete && !f.abandoned

/-- A composite that is being written: its engine stops only after it (R244). -/
def Frame.inFlight (f : Frame) : Bool := f.open_ && match f.pic with
  | .composite .. => true
  | _ => false

/-- Whether the feed of a slot is locked (R55, R60, R105, R433, R440; a generator always is; a slot of Cirque while an
engine writes it: notes/assumptions/13.md). -/
def State.feedLocked (s : State) (slot : Nat) (f : Feed) : Bool :=
  match f with
  | .none => (s.src slot).frames.any Frame.inFlight
  | .sdi l =>
    let lanes := Objs.rxLanes s.objs l
    lanes.all (fun k => s.n Obj.rxState k == 4 && s.n Obj.rxRate k == s.n Obj.rxRate l &&
      s.n Obj.rxFormat k == s.n Obj.rxFormat l) && s.sdiFormat l != 0 && !(lanes.length == 4 && (look s.sdiRx l {}).skewBad)
  | .flow e =>
    let p := s.n Obj.rxPartner e
    s.n Obj.rxFlowState e == 4 || (p != 0xFFFF && s.b Obj.rxEnable p && s.n Obj.rxFlowState p == 4)
  | .cirque _ => s.cq.engines.any fun x => x.2.writing == slot
  | .generator _ => true
  | .play p => s.mor.playLive.contains p
  | .delay l => s.mor.dlyLive.contains l

/-- A source slot's frame store changed. -/
def State.setSrc (s : State) (slot : Nat) (x : SrcSlot) : State :=
  { s with ridge := { s.ridge with src := put s.ridge.src slot x } }

/-- The frame of a slot changed, by its number. -/
def SrcSlot.mapFrame (x : SrcSlot) (seq : Nat) (g : Frame → Frame) : SrcSlot :=
  { x with frames := x.frames.map fun f => if f.seq = seq then g f else f }

/-- The writer leaves the frame that it is writing (R56, R113). A frame that the device itself times completes (R222). -/
def State.abandonFrame (s : State) (slot : Nat) : State :=
  match (s.src slot).frames.find? fun f => f.open_ && f.finishAt.isNone with
  | some f =>
    (s.setSrc slot ((s.src slot).mapFrame f.seq fun g => { g with abandoned := true })).bump Obj.srcFramesAbandoned slot
  | none => s

/-- A frame becomes complete; the first one of a new store returns the old store's pages, and from it on the store holds frames
(R161). -/
def State.finishFrame (s : State) (slot seq : Nat) : State :=
  match (s.src slot).frames.find? fun f => f.seq == seq && f.open_ with
  | some f =>
    let x := (s.src slot).mapFrame seq fun g =>
      { g with complete := true, lines := rasterHeight (fmtRaster g.format) }
    let x2 := { x with oldPages := if x.newStore then x.oldPages else 0, opening := false }
    ((s.setSrc slot x2).setN Obj.srcLiveFormat slot f.format).bump Obj.srcFramesWritten slot
  | none => s

/-- Frames that the device itself times and whose time has come are complete. -/
def State.finishTimed (s : State) (slot : Nat) : State :=
  (((s.src slot).frames.filter fun f => f.open_ && (f.finishAt.elim false fun t => t ≤ s.ptp)).map fun f => f.seq).foldl
    (fun t n => t.finishFrame slot n) s

/-- The buffers that stay when a new frame is begun (R157, R56): the two newest, the newest complete frame among them. -/
def keptFrames (l : List Frame) : List Frame :=
  match l.find? (·.complete), l.take 2 with
  | some c, [a, b] => if a.complete || b.complete then [a, b] else [a, c]
  | _, t => t

/-- A frame that is still being written when the next one's write starts is abandoned (R56, R157). A composite is begun at its
alignment point, when the one before it is not yet complete (R222), and that one completes (R242, R244). -/
def State.abandonBefore (s : State) (slot w : Nat) : State :=
  match (s.src slot).frames.find? fun f => f.open_ && !f.inFlight && (f.finishAt.elim true fun t => w < t) with
  | some f =>
    (s.setSrc slot ((s.src slot).mapFrame f.seq fun g => { g with abandoned := true })).bump Obj.srcFramesAbandoned slot
  | none => s

/-- A writer begins a frame: its number follows the one before. -/
def State.startFrame (s : State) (slot : Nat) (f : Nat → Frame) : State :=
  let t := (s.finishTimed slot).abandonBefore slot (f 0).write
  let x := t.src slot
  let old := if x.newStore then [] else keptFrames x.frames
  t.setSrc slot { x with
    frames := f x.nextSeq :: old, nextSeq := x.nextSeq + 1, newStore := false, opening := x.newStore || x.opening }

/-- A frame of a feed as its writer begins it. -/
def newFrame (format kind origin : Nat) (stages : List (Nat × Nat)) (w : Nat) (pic : Nat → Pic) (pid : Nat)
    (finishAt : Option Nat) (anc : List Anc) (seq : Nat) : Frame :=
  ⟨seq, format, kind, origin, stages, w, 0, false, false, finishAt, w, pic seq, anc, pid, false, false, false⟩

/-- The colour that SrcColourLive reports (R251). -/
def State.liveColour (s : State) (slot : Nat) (f : Feed) : Nat :=
  match f with
  | .none => 0xFFFF
  | .sdi _ => (s.src slot).colour
  | .flow e => if s.n Obj.rxEssence e = 5 then (s.src slot).colour else Objs.srcColourOf s.objs slot
  | _ => Objs.srcColourOf s.objs slot

/-- SrcColourLive follows; COL_LABEL_MISMATCH once per change (R251). -/
def State.refreshColour (s : State) (slot : Nat) (f : Feed) : State :=
  let c := s.liveColour slot f
  if c = s.n Obj.srcColourLive slot then s
  else
    let t := s.setN Obj.srcColourLive slot c
    if c != 0xFFFF && c != Objs.srcColourOf t.objs slot then t.raise Ev.colLabelMismatch slot else t

/-- The lock, state and reservation status of a source slot follow its feed (R37, R55, R105, R180). -/
def State.refreshSlot (s : State) (slot : Nat) : State :=
  let f := Objs.feed s.objs slot
  let reserved := s.n Obj.srcReservedFormat slot
  let raw := reserved != 0 && s.feedLocked slot f
  let excess := raw && fmtExceeds (s.feedFormat slot f) reserved
  let locked := raw && !excess
  let was := (s.src slot).lockedAt.isSome
  let wasOver := s.n Obj.srcReservationStatus slot != 0
  let s1 := s.setN Obj.srcFeedKind slot f.code
  let s2 := s1.setN Obj.srcState slot
    (if f = .none || reserved = 0 then 0 else if excess then 3 else if locked then 2 else 1)
  let s3 := s2.setN Obj.srcReservationStatus slot (b2n excess)
  let s4 := if excess && !wasOver then s3.raise Ev.sourceOverReservation slot else s3
  let s5 := if locked && !was then
      (s4.setSrc slot { s4.src slot with lockedAt := some s4.ptp }).raise Ev.srcLocked slot
    else if !locked && was then
      let t := s4.abandonFrame slot
      (t.setSrc slot { t.src slot with lockedAt := none }).raise Ev.srcUnlocked slot
    else s4
  s5.refreshColour slot f

/-- Several slots refreshed. -/
def State.refreshSlots (s : State) (l : List Nat) : State := l.foldl State.refreshSlot s

/-- A slot at the present time: its timed frames are complete once their time has come, and the slot of an engine that has
stopped unlocks after its last frame (R244). -/
def State.settle (s : State) (slot : Nat) : State :=
  let t := s.finishTimed slot
  if t.src slot = s.src slot then s
  else if Objs.feed t.objs slot = .none then t.refreshSlot slot
  else t

/-- Whether a slot is locked. -/
def State.slotLocked (s : State) (slot : Nat) : Bool := (s.src slot).lockedAt.isSome

/-- The frames that a slot's store holds for its readers, newest first: none before the first frame of a new store is complete
(R161). -/
def SrcSlot.held (x : SrcSlot) : List Frame := if x.opening then [] else x.frames

/-- The newest complete frame of a slot. -/
def State.newestComplete (s : State) (slot : Nat) : Option Frame := (s.src slot).held.find? (·.complete)

/-- The previous complete frame of a slot, which gives the lines and blocks that a frame lacks; black without one (R169, R175). -/
def SrcSlot.previousPic (x : SrcSlot) (seq : Nat) : Pic :=
  ((x.frames.find? fun f => f.complete && f.seq < seq).map (·.pic)).getD .black

/-- The frame tag of a block (R158): source slot, line in transmission order, and the low bits of the frame's number. The writer
sets it with the pixels. -/
def frameTag (slot line seq : Nat) : Nat := slot % 2048 * 2 ^ 21 + line % 8192 * 2 ^ 8 + seq % 256

/-! ## Media time and origins (R24) -/

/-- The PTP time in nanoseconds of an RTP timestamp on a clock of f Hz: of the times that the timestamp can stand for, the
one nearest to the arrival, rounded down. A time before the PTP epoch, which the counter of R330 cannot hold, is taken as 0: DESIGN
CHOICE, notes/assumptions/84.md. -/
def mediaTime (timestamp f arrival : Nat) : Nat :=
  let a : Int := arrival * f
  let k : Int := ((2 * a - 2 * (1000000000 * timestamp : Nat) + 4294967296 * 1000000000) / (2 * (4294967296 * 1000000000)))
  (((timestamp : Int) + 4294967296 * k) * 1000000000 / f).toNat

/-- The RTP clock of an essence (R112, R114). -/
def essenceClock (essence : Nat) : Nat := if essence = 5 then 27000000 else 90000

/-- The origin kind, the origin time and the stages before the frame store of a frame that a feed delivers (R23, R24, R27).
For SDI `origin` is the deserialiser's time of the first SAV, on the link that arrives last (R61); for a flow it is the RTP
timestamp, and `first` the arrival of the frame's first packet. -/
def State.originOf (s : State) (f : Feed) (origin first : Nat) : Nat × Nat × List (Nat × Nat) :=
  match f with
  | .sdi l =>
    let o := origin - laneRxDelay (s.n Obj.rxRate l)
    (1, o, [(2, o)])
  | .flow e =>
    let o := mediaTime origin (essenceClock (s.n Obj.rxEssence e)) first
    (2, o, [(1, o), (3, first)])
  | _ => (3, s.ptp, [])

end Sys2Proof.Machine
end

