-- ==== Sys2Proof/Machine/Charges.lean ====
section
/-!
DEFINITION. Charges (R38 to R45, R97, R111, R127, R137, R160): exact functions of a configuration.
-/
namespace Sys2Proof.Machine

/-! ## Exact fractions -/

/-- A fraction in lowest terms. -/
def frac (n d : Nat) : Nat × Nat := let g := Nat.gcd n d; if g = 0 then (n, d) else (n / g, d / g)

/-- The sum of two fractions. -/
def addFrac (a b : Nat × Nat) : Nat × Nat := frac (a.1 * b.2 + b.1 * a.2) (a.2 * b.2)

/-- The sum of fractions. -/
def sumFrac (l : List (Nat × Nat)) : Nat × Nat := l.foldl addFrac (0, 1)

/-- A fraction rounded up. -/
def ceilFrac (a : Nat × Nat) : Nat := ceilDiv a.1 a.2

/-- The difference of two fractions, 0 where it is negative. -/
def subFrac (a b : Nat × Nat) : Nat × Nat := frac (a.1 * b.2 - b.1 * a.2) (a.2 * b.2)

/-- Whether one fraction is greater than another. -/
def gtFrac (a b : Nat × Nat) : Bool := b.1 * a.2 < a.1 * b.2

/-! ## Flows (R40, R41, R137) -/

/-- What a charge needs to know of a flow. -/
structure FlowCharge where
  essence : Nat
  payload : Nat × Nat          -- b/s charged on the port
  packet : Nat                 -- P
  header : Nat                 -- H
  port : Nat
  deriving DecidableEq, Repr

/-- The payload charge of an audio flow (R40). -/
def audioPayload (essence channels depth rate96 : Nat) : Nat :=
  channels * (if essence = 3 then 32 else if depth = 0 then 16 else 24) * (if rate96 = 1 then 96000 else 48000)

/-- The derived packet payload of an audio flow (R115). -/
def audioPacket (essence channels depth time rate96 : Nat) : Nat :=
  packetSamples time rate96 * channels * sampleBytes essence depth

/-- Per-packet overhead H (R41, R137). -/
def flowHeader (essence vlan ipLen : Nat) (oneRow : Bool) : Nat :=
  38 + (if vlan = 0xFFFF then 0 else 4) + (if ipLen = 16 then 40 else 20) + 8 + 12 +
    match essence with
    | 1 => if oneRow then 8 else 14
    | 4 => 8
    | 5 => 8
    | _ => 0

/-- A port's VLAN in a configuration. -/
def Objs.portVlan (c : Objs) (port : Nat) : Nat := Objs.n c (portIdx port Obj.portVlan) (portNo port)

/-- The carriage from which a receive ST2022_6 entry is charged (R114). -/
def Objs.rxCarriage (c : Objs) (e : Nat) : Nat :=
  (([1, 2, 3, 4].find? fun k => carries k (Objs.n c Obj.rxVideoFormat e)).getD 0)

/-- The lane rate that a carriage gives a format. -/
def carriageBits (k f : Nat) : Nat × Nat := if k = 0 then (0, 1) else laneRate (carriageRate k f)

/-- The charge of a receive entry. -/
def Objs.rxFlow (c : Objs) (e : Nat) : FlowCharge :=
  let es := Objs.n c Obj.rxEssence e
  let f := Objs.rxFormat c e
  let bytes := Objs.n c Obj.rxPacketBytes e
  let ch := Objs.n c Obj.rxAudioChannels e
  let dep := Objs.n c Obj.rxAudioDepth e
  let r96 := Objs.n c Obj.rxAudioRate e
  let pay : Nat × Nat := match es with
    | 1 => (fmtPayload f, 1)
    | 2 => (audioPayload 2 ch dep r96, 1)
    | 3 => (audioPayload 3 ch dep r96, 1)
    | 5 => carriageBits (Objs.rxCarriage c e) (Objs.n c Obj.rxVideoFormat e)
    | _ => (Objs.n c Obj.rxDeclaredRate e, 1)
  let p := match es with
    | 2 => audioPacket 2 ch dep (Objs.n c Obj.rxPacketTime e) r96
    | 3 => audioPacket 3 ch dep (Objs.n c Obj.rxPacketTime e) r96
    | 5 => 1376
    | _ => bytes
  let port := Objs.n c Obj.rxPort e
  ⟨es, pay, p, flowHeader es (Objs.portVlan c port) (Objs.by c Obj.rxDstAddr e).length (p != 0 && lineBytes f % p == 0), port⟩

/-- The format of a transmit video entry: its destination's reserved format (R137). -/
def Objs.txFormatOf (c : Objs) (e : Nat) : Nat := Objs.n c Obj.dstReservedFormat (Objs.n c Obj.txSource e)

/-- The carriage of a transmit ST2022_6 entry (R140). -/
def Objs.txCarriageOf (c : Objs) (e : Nat) : Nat :=
  let k := carriageFor (Objs.n c Obj.txCarriage e) (Objs.txFormatOf c e)
  if 1 ≤ k && k ≤ 4 then k else 0

/-- The charge of a transmit entry. -/
def Objs.txFlow (c : Objs) (e : Nat) : FlowCharge :=
  let es := Objs.n c Obj.txEssence e
  let f := Objs.txFormatOf c e
  let ch := Objs.n c Obj.txAudioChannels e
  let dep := Objs.n c Obj.txAudioDepth e
  let r96 := Objs.n c Obj.txAudioRate e
  let src := Objs.n c Obj.txSource e
  let pay : Nat × Nat := match es with
    | 1 => (fmtPayload f, 1)
    | 2 => (audioPayload 2 ch dep r96, 1)
    | 3 => (audioPayload 3 ch dep r96, 1)
    | 5 => carriageBits (Objs.txCarriageOf c e) f
    | 6 => (Objs.n c Obj.rxDeclaredRate src, 1)
    | _ => (Objs.n c Obj.txDeclaredRate e, 1)
  let p := match es with
    | 2 => audioPacket 2 ch dep (Objs.n c Obj.txPacketTime e) r96
    | 3 => audioPacket 3 ch dep (Objs.n c Obj.txPacketTime e) r96
    | 5 => 1376
    | 6 => Objs.n c Obj.rxPacketBytes src
    | _ => Objs.n c Obj.txPacketBytes e
  let port := Objs.n c Obj.txPort e
  ⟨es, pay, p, flowHeader es (Objs.portVlan c port) (Objs.by c Obj.txDstAddr e).length (p != 0 && lineBytes f % p == 0), port⟩

/-- The port charge of a flow: payload × (P + H) / P (R41). For P = 0, which R41 leaves undefined, the model charges 0
(DESIGN CHOICE, notes/assumptions/60.md). -/
def FlowCharge.rate (x : FlowCharge) : Nat × Nat :=
  if x.packet = 0 then (0, 1) else frac (x.payload.1 * (x.packet + x.header)) (x.payload.2 * x.packet)

/-- The charge of a media port in one direction. -/
def Objs.portCharge (c : Objs) (port : Nat) (tx : Bool) : Nat × Nat :=
  if tx then sumFrac (((Objs.txEntries c).filter fun e => Objs.n c Obj.txPort e == port).map fun e => (Objs.txFlow c e).rate)
  else sumFrac (((Objs.rxEntries c).filter fun e => Objs.n c Obj.rxPort e == port).map fun e => (Objs.rxFlow c e).rate)

/-- RxBufferDelay in force in nanoseconds (R121). -/
def Objs.rxDelay (c : Objs) (e : Nat) : Nat :=
  let d := Objs.n c Obj.rxBufferDelay e
  let es := Objs.n c Obj.rxEssence e
  if d != 0 then d else if es = 2 || es = 3 then 250000 else 64000

/-- The receive buffer reservation M of an entry (R111). -/
def Objs.rxReserve (c : Objs) (e : Nat) : Nat :=
  let x := Objs.rxFlow c e
  let r := x.rate
  let b := if Objs.n c Obj.rxSenderType e = 2 then 256 else 16
  ceilDiv (Objs.rxDelay c e * r.1) (1000000000 * 8 * r.2) + b * (x.packet + x.header)

/-! ## Slots (R38 to R44) -/

/-- The source slots that have a reserved format. -/
def Objs.srcSlots (c : Objs) : List Nat := (Objs.subs c Obj.srcReservedFormat).filter fun n => Objs.n c Obj.srcReservedFormat n != 0

/-- The destination slots that have a reserved format. -/
def Objs.dstSlots (c : Objs) : List Nat := (Objs.subs c Obj.dstReservedFormat).filter fun n => Objs.n c Obj.dstReservedFormat n != 0

/-- A writer group's charge. -/
def Objs.writerGroup (c : Objs) (g : Nat) : Nat :=
  (((Objs.srcSlots c).filter fun n => n / 16 == g).map fun n => fmtPixelRate (Objs.n c Obj.srcReservedFormat n)).sum

/-- A reader group's charge. -/
def Objs.readerGroup (c : Objs) (g : Nat) : Nat :=
  (((Objs.dstSlots c).filter fun n => n / 16 == g).map fun n => fmtPixelRate (Objs.n c Obj.dstReservedFormat n)).sum

/-- The payload of audio, ancillary and opaque flows: a pair counts once. -/
def flowPayload (x : FlowCharge) : Nat :=
  if x.essence = 2 || x.essence = 3 || x.essence = 4 || x.essence = 6 then x.payload.1 else 0

/-- Payload in (R38). -/
def Objs.payloadIn (c : Objs) : Nat :=
  ((Objs.srcSlots c).map fun n => match Objs.feed c n with
    | .sdi _ => fmtPayload (Objs.n c Obj.srcReservedFormat n)
    | .flow _ => fmtPayload (Objs.n c Obj.srcReservedFormat n)
    | _ => 0).sum +
  (((Objs.rxEntries c).filter fun e => Objs.rxLeadEntry c e == e).map fun e => flowPayload (Objs.rxFlow c e)).sum

/-- Payload out (R38). -/
def Objs.payloadOut (c : Objs) : Nat :=
  ((Objs.dstSlots c).map fun n => match Objs.sink c n with
    | .sdi _ => fmtPayload (Objs.n c Obj.dstReservedFormat n)
    | .tx _ => fmtPayload (Objs.n c Obj.dstReservedFormat n)
    | _ => 0).sum +
  (((Objs.txEntries c).filter fun e => Objs.txLeadEntry c e == e).map fun e => flowPayload (Objs.txFlow c e)).sum

/-- The output frame rate of a format in frames per 1,001 seconds, a whole number for every rate (R39, R154). -/
def frameRate1001 (f : Nat) : Nat :=
  let r := rateFrac (fmtRate f)
  let n := if r.2 = 0 then 0 else 1001 * r.1 / r.2
  if rasterInterlaced (fmtRaster f) then n / 2 else n

/-- The timing key of a destination (R20, R220): output frame rate, offset, mode. -/
def Objs.timingKey (c : Objs) (d : Nat) : Nat × Nat × Nat :=
  match Objs.sink c d with
  | .layer e _ =>
    let f := Objs.n c Obj.srcReservedFormat (Objs.n c Obj.cqSrcSlot e)
    (frameRate1001 f, Objs.n c Obj.cqTimingOffset e, 0)
  | _ =>
    let f := Objs.n c Obj.dstReservedFormat d
    (frameRate1001 f, Objs.n c Obj.dstTimingOffset d, Objs.n c Obj.dstAlignMode d)

/-- Frames per second of a timing key, as charged: a 1/1.001 rate at its integer rate (R39). -/
def keyHz (k : Nat × Nat × Nat) : Nat := ceilDiv k.1 1001

/-- The read streams of a configuration (R21, R36, R44, R200): the source slot, the format and the frame rate charged, and
none for a stream of its own or the timing key of a shared one. A follow-source destination, whatever it feeds, has a stream of
its own and is charged at its own reserved format (notes/assumptions/41.md). -/
def Objs.readStreams (c : Objs) : List (Nat × Nat × Nat × Option (Nat × Nat × Nat)) :=
  let all := (Objs.dstSlots c).filterMap fun d =>
    match routeSource (Objs.n c Obj.route d), Objs.sink c d with
    | none, _ => none
    | _, .none => none
    | some slot, k =>
      let key := Objs.timingKey c d
      let f := Objs.n c Obj.srcReservedFormat slot
      let g := Objs.n c Obj.dstReservedFormat d
      if Objs.b c Obj.dstFollowSource d then some (slot, g, fmtChargeRate g, none)
      else match k with
        | .record _ => some (slot, f, keyHz key, none)
        | .delay _ => some (slot, f, keyHz key, none)
        | _ => some (slot, f, keyHz key, some key)
  all.filter (·.2.2.2.isNone) ++ (all.filter (·.2.2.2.isSome)).eraseDups

/-- The graphics charge of an engine (R44). -/
def Objs.engineCharge (c : Objs) (e : Nat) : Nat :=
  let slot := Objs.n c Obj.cqSrcSlot e
  if slot = 0xFFFF then 0
  else
    let r := surfaceStream (Objs.n c Obj.srcReservedFormat slot)
    let on := ([4, 5, 6, 7].map (8 * e + ·)).filter fun x => Objs.b c Obj.layerEnable x
    let live := (on.filter fun x => !Objs.b c Obj.layerStatic x).length
    live * r + if (on.any fun x => Objs.b c Obj.layerStatic x) then 2 * r else 0

/-- The HBM charge (R44). -/
def Objs.hbmCharge (c : Objs) : Nat :=
  ((Objs.srcSlots c).map fun n => fmtStream (Objs.n c Obj.srcReservedFormat n)).sum +
  ((Objs.readStreams c).map fun x => fmtStreamAt x.2.1 x.2.2.1).sum +
  ((List.range 32).map (Objs.engineCharge c)).sum

/-- Pages of the frame-store pool in force (R159). -/
def Objs.storePages (c : Objs) : Nat := ((Objs.srcSlots c).map fun n => fmtPages (Objs.n c Obj.srcReservedFormat n)).sum

/-! ## Moraine (R426, R430, R432) -/

/-- Bytes that a frame takes in the pool (R428). -/
def poolFrame (f : Nat) : Nat := roundUp (fmtFrameBytes f) 4096

/-- Extents of a number of frames. -/
def poolExtents (f frames : Nat) : Nat := ceilDiv (frames * poolFrame f) 2097152

/-- The ring of an enabled delay line (R432). -/
def Objs.ringExtents (c : Objs) (l : Nat) : Nat :=
  poolExtents (Objs.n c Obj.dstReservedFormat (Objs.n c Obj.dlyDst l)) (Objs.n c Obj.dlyCapacity l + 2)

/-- Enabled delay lines, records and playbacks. -/
def Objs.delays (c : Objs) : List Nat := (Objs.subs c Obj.dlyEnable).filter fun l => Objs.b c Obj.dlyEnable l

/-- Enabled records. -/
def Objs.records (c : Objs) : List Nat := (Objs.subs c Obj.recEnable).filter fun r => Objs.b c Obj.recEnable r

/-- Enabled playbacks. -/
def Objs.plays (c : Objs) : List Nat := (Objs.subs c Obj.playEnable).filter fun p => Objs.b c Obj.playEnable p

/-- The write charge of Moraine (R430). -/
def Objs.morWrite (c : Objs) : Nat :=
  ((Objs.delays c).map fun l => fmtStream (Objs.n c Obj.dstReservedFormat (Objs.n c Obj.dlyDst l))).sum +
  ((Objs.records c).map fun r => fmtStream (Objs.n c Obj.dstReservedFormat (Objs.n c Obj.recDst r))).sum

/-- The read charge of Moraine (R430). -/
def Objs.morRead (c : Objs) : Nat :=
  ((Objs.delays c).map fun l => fmtStream (Objs.n c Obj.srcReservedFormat (Objs.n c Obj.dlySlot l))).sum +
  ((Objs.plays c).map fun p => fmtStream (Objs.n c Obj.srcReservedFormat (Objs.n c Obj.playSlot p))).sum

/-! ## Salvos as overlays (R45, R195) -/

/-- A configuration overlaid with the changes of a salvo. -/
def Objs.overlay (c : Objs) (l : List Change) : Objs := l.foldl (fun o x => Objs.set o x.addr x.val) c

/-- The salvos that hold a projection (R193, R195): the PENDING ones by boundary and order of acceptance, the ARMED ones, and
the one whose mirror is out. -/
def State.heldSalvos (s : State) : List (Nat × Salvo) :=
  sortBy (fun (a b : Nat × Salvo) =>
      a.2.boundary < b.2.boundary || (a.2.boundary == b.2.boundary && a.2.accepted ≤ b.2.accepted))
    (s.ce.salvos.filter fun x => x.2.state == .pending) ++
  sortBy (fun (a b : Nat × Salvo) => decide (a.2.armedAt ≤ b.2.armedAt))
    (s.ce.salvos.filter fun x => x.2.state == .armed) ++
  s.ce.salvos.filter fun x => x.2.state == .arming

/-- The configuration in force overlaid with every ARMED and PENDING salvo but one. -/
def State.projection (s : State) (but : Nat) : Objs :=
  (s.heldSalvos.filter fun x => x.1 != but).foldl (fun c x => Objs.overlay c x.2.changes) s.objs

/-- A charge projected: the charge in force plus the increase that each salvo makes to it, in their order (R45). -/
def projectNat (f : Objs → Nat) (c : Objs) (l : List (List Change)) : Nat :=
  (l.foldl (fun (p : Objs × Nat) x => let d := Objs.overlay p.1 x; (d, p.2 + (f d - f p.1))) (c, f c)).2

/-- An exact charge projected. -/
def projectFrac (f : Objs → Nat × Nat) (c : Objs) (l : List (List Change)) : Nat × Nat :=
  (l.foldl (fun (p : Objs × Nat × Nat) x => let d := Objs.overlay p.1 x; (d, addFrac p.2 (subFrac (f d) (f p.1)))) (c, f c)).2

end Sys2Proof.Machine
end

