-- ==== Sys2Proof/Machine/Dests.lean ====
section
/-!
DEFINITION. Destination slots (chapters 01, 05, 06): switching points, the choice of the frame to read, loss pictures,
follow-source formats and the latency ledger.
-/
namespace Sys2Proof.Machine

/-! ## State of a destination -/

/-- A destination slot. -/
def State.dst (s : State) (d : Nat) : DstSlot := look s.ridge.dst d {}

/-- A destination slot changed. -/
def State.setDst (s : State) (d : Nat) (x : DstSlot) : State :=
  { s with ridge := { s.ridge with dst := put s.ridge.dst d x } }

/-- A transmit entry. -/
def State.txe (s : State) (e : Nat) : TxEntry := look s.media.tx e {}

/-- A transmit entry changed. -/
def State.setTxe (s : State) (e : Nat) (x : TxEntry) : State :=
  { s with media := { s.media with tx := put s.media.tx e x } }

/-- A receive entry. -/
def State.rxe (s : State) (e : Nat) : RxEntry := look s.media.rx e {}

/-- A receive entry changed. -/
def State.setRxe (s : State) (e : Nat) (x : RxEntry) : State :=
  { s with media := { s.media with rx := put s.media.rx e x } }

/-- The format that a destination sends: what a follow-source destination has adopted, else the reserved format. -/
def State.dstFormat (s : State) (d : Nat) : Nat :=
  let r := s.n Obj.dstReservedFormat d
  if s.b Obj.dstFollowSource d && (s.dst d).adopted != 0 then (s.dst d).adopted else r

/-! ## Alignment and switching points (R81, R162, R163, R170) -/

/-- The alignment point of number k of a format's grid with an offset in nanoseconds, in units of the time counter (R162, R332). -/
def alignPoint (f offset k : Nat) : Nat := gridPoint (fmtPeriod f) k + tcNs * offset

/-- The number of the last alignment point at or before a value of the time counter. -/
def alignIndex (f offset t : Nat) : Nat := gridIndex (fmtPeriod f) (t - tcNs * offset)

/-- The exact alignment point of number k, in seconds as a fraction (R134, R162). -/
def pointSec (f offset k : Nat) : Nat × Nat :=
  let p := fmtPeriod f
  addFrac (k * p.num, p.den) (offset, 1000000000)

/-- The exact time of an alignment point of the time counter, in seconds as a fraction (R134). -/
def alignSec (f offset align : Nat) : Nat × Nat :=
  let k := alignIndex f offset align
  if alignPoint f offset k = align then pointSec f offset k else (align, tcSec)

/-- A time in seconds in whole nanoseconds, rounded down. -/
def secNs (t : Nat × Nat) : Nat := 1000000000 * t.1 / t.2

/-- The switching line of a raster (R81). -/
def switchLine (raster : Nat) : Nat := match raster with
  | 1 => 10
  | 2 => 6
  | _ => 7

/-- The line period of one link of a format, as a fraction of a nanosecond: a 2160p output is carried as sub-images of 1,125
lines. -/
def linkLine (f : Nat) : Nat × Nat :=
  let p := fmtPeriod f
  (1000000000 * p.num, p.den * (if fmtRaster f = 7 then 1125 else rasterLines (fmtRaster f)))

/-- The time from the alignment point to the switching point of an output frame, in units of the time counter (R170); the alignment
point is the start of line 1 (ST 2059-1), and 2160p switches by the lines of its sub-images. DEDUCED (notes/assumptions/14.md). -/
def switchOffset (u : Sink) (f : Nat) : Nat :=
  match u with
  | .sdi _ => let t := linkLine f; (switchLine (fmtRaster f) - 1) * t.1 * tcNs / t.2
  | _ => 0

/-- The exact time from the alignment point of an output frame to its emission, in seconds (R139, R163): of an SDI output the lines
before the first active one, of a flow TRO, of a Moraine stream none. The SAV of the first active line is put at the very start of
its line: DESIGN CHOICE, notes/assumptions/75.md. -/
def Objs.emitOffset (c : Objs) (d f : Nat) : Nat × Nat :=
  match Objs.sink c d with
  | .sdi _ => let t := linkLine f; frac (((firstLines (fmtRaster f)).2 - 1) * t.1) (1000000000 * t.2)
  | .tx e => Objs.troSec c e f
  | _ => (0, 1)

/-- The read start of the output frame of alignment point number k (R139, R163): of an SDI output 3,200 ns before the SAV of the
first active line, of a flow 7,700 or 9,600 ns before t_a + TRO. The sum is exact, and rounded down to a whole nanosecond (R27). -/
def Objs.readAt (c : Objs) (d f k : Nat) : Nat :=
  secNs (addFrac (pointSec f (Objs.n c Obj.dstTimingOffset d) k) (Objs.emitOffset c d f)) - Objs.emitDelay c d

/-- The number of the last output frame of a format whose read start lies at or before a time in nanoseconds. -/
def Objs.frameIndex (c : Objs) (d f t : Nat) : Nat :=
  let k := alignIndex f (Objs.n c Obj.dstTimingOffset d) (tcNs * (t + Objs.emitDelay c d + 1))
  ([k, k - 1, k - 2].find? fun i => Objs.readAt c d f i ≤ t).getD 0

/-! ## Timed mode and frame-sync mode (R164 to R168) -/

/-- The line period of a format as a fraction of a nanosecond. -/
def linePeriod (f : Nat) : Nat × Nat :=
  let p := fmtPeriod f
  (1000000000 * p.num, p.den * rasterLines (fmtRaster f))

/-- The timing error R − W − 2 T_l of R164, times the divisor of the line period. -/
def timingError (f : Frame) (r : Nat) : Int :=
  let t := linePeriod f.format
  ((r : Int) - f.write) * t.2 - 2 * t.1

/-- Whether a frame lies within half (k = 2) or a quarter (k = 4) of a line of the window. -/
def inWindow (k : Nat) (f : Frame) (r : Nat) : Bool :=
  (timingError f r).natAbs * k ≤ (linePeriod f.format).1

/-- Whether a frame is far enough ahead of its reader: R − W at least the guard G of R166. -/
def pastGuard (f : Frame) (d r : Nat) : Bool :=
  let a := linePeriod f.format
  let b := linePeriod d
  f.write ≤ r && 2 * a.1 * b.2 + (rasterHeight (fmtRaster d) - 1) * (a.1 * b.2 - b.1 * a.2) ≤ (r - f.write) * (a.2 * b.2)

/-- The candidate of R166: the frame with the greatest write start that is past the guard. -/
def candidate (l : List Frame) (d r : Nat) : Option Frame := l.find? fun f => pastGuard f d r

/-- Whether a frame can be read at r: complete, or its writer is writing normally (R166). -/
def Frame.readable (f : Frame) (r : Nat) : Bool :=
  let t := linePeriod f.format
  f.complete || (!f.abandoned && (f.finishAt.isSome || (r - f.lastLine) * t.2 ≤ 2 * t.1))

/-! ## Loss pictures (R172 to R174) -/

/-- The picture of a generator for a consumer of a colour at a grid index, as its objects stand (R177 to R179, R182). -/
def State.genPic (s : State) (g index colour : Nat) : Pic :=
  .generator g index (s.n Obj.genPattern g) (s.n Obj.genFlatValue g) (s.b Obj.genMotion g) colour

/-- The frozen frame of a destination, while the store keeps it (R173). -/
def State.frozenFrame (s : State) (d : Nat) : Option Frame :=
  (s.dst d).frozen.bind fun p => (s.src p.1).held.find? fun f => f.seq == p.2

/-- The loss picture of a destination for the output frame of an alignment point (R173). -/
def State.lossPic (s : State) (d align : Nat) : Pic :=
  match s.n Obj.dstLossPicture d with
  | 1 => ((s.frozenFrame d).map (·.pic)).getD .black
  | 2 =>
    let f := s.n Obj.dstReservedFormat d
    s.genPic (s.n Obj.dstLossGenerator d) (alignIndex f (s.n Obj.dstTimingOffset d) align) (s.n Obj.dstColourInForce d)
  | _ => .black

/-- Whether the source of a route has been locked for DstReturnHold whole frames of a format (R174). -/
def State.holdMet (s : State) (d slot f : Nat) : Bool :=
  match (s.src slot).lockedAt with
  | some t => let p := fmtPeriod f; s.n Obj.dstReturnHold d * (1000000000 * p.num) ≤ (s.ptp - t) * p.den && t ≤ s.ptp
  | none => false

/-- Entry to a loss episode (R173, R174). The frozen frame is chosen at the first loss frame of the episode, and again after a
switch within it: nothing is carried over from the old source (R171). -/
def State.enterLoss (s : State) (d : Nat) : State :=
  let x := s.dst d
  let fr := (routeSource x.route).bind fun slot => (s.newestComplete slot).map fun f => (slot, f.seq)
  let t := s.setDst d (if x.froze then { x with episode := true } else { x with episode := true, froze := true, frozen := fr })
  if x.episode then t else t.raise Ev.dstLoss d

/-- The end of a loss episode (R174). -/
def State.leaveLoss (s : State) (d : Nat) : State :=
  let x := s.dst d
  if x.episode then (s.setDst d { x with episode := false, froze := false, frozen := none }).raise Ev.dstLive d else s

/-- An output frame that shows a loss picture. `route` is the route on air (R186). -/
def emptyShown (pic : Pic) (r align format : Nat) : Shown :=
  { pic := pic, loss := true, route := 0x800, slot := 0, seq := 0, kind := 5, origin := r, stages := [], read := r, align := align,
    format := format, anc := [] }

/-- An output frame shown as the loss picture, in the reserved format (R173): a follow-source destination leaves the format
that it had adopted. -/
def State.showLoss (s : State) (d r align : Nat) : State :=
  let t := s.enterLoss d
  let x := t.dst d
  let t1 := t.setDst d { x with
    shown := some { emptyShown (t.lossPic d align) r align (t.n Obj.dstReservedFormat d) with
      store := if t.n Obj.dstLossPicture d = 1 && (t.frozenFrame d).isSome then x.frozen else none }
    last := none
    adopted := 0
    adoptNext := none
    frozen := if (t.frozenFrame d).isSome then x.frozen else none }
  (t1.setN Obj.dstState d (if bit x.route 11 then 1 else 3)).bump Obj.dstLossFrames d

/-! ## Reading a frame -/

/-- The stages of a frame at its read: those before the store, then FRAME_STORE (R27). -/
def Frame.readStages (f : Frame) : List (Nat × Nat) := f.stages ++ [(4, f.write)]

/-- Repeats and drops between two reads (R167); `n` is the number of the frame now read. A drop at the return to timed mode is
counted (R165); FSYNC_SLIP belongs to frame-sync mode. -/
def State.slip (s : State) (d slot n : Nat) : State :=
  let event := fun t : State => if t.n Obj.dstModeInForce d = 1 then t.raiseLimited Ev.fsyncSlip d d else t
  match (s.dst d).last with
  | some (slot0, n0) =>
    if slot0 != slot then s
    else if n0 = n then event (s.bump Obj.dstRepeats d)
    else if n0 + 1 < n then event (s.bump Obj.dstDrops d (n - n0 - 1))
    else s
  | none => s

/-- Whether a destination emits a frame for the first time. -/
def DstSlot.firstTime (x : DstSlot) (slot seq : Nat) : Bool := x.last != some (slot, seq)

/-- Whether a packet is the ST 352 packet. -/
def ancIsPid (p : Anc) : Bool := p.did == 0x41 && p.sdid == 0x01

/-- A reader meets the side-data area of a frame: where it fails, FRAME_META_ERROR is raised once for the frame (R176). -/
def State.meetSideData (s : State) (slot : Nat) (f : Frame) : State :=
  if f.metaBad && !f.metaRaised then
    (s.setSrc slot ((s.src slot).mapFrame f.seq fun g => { g with metaRaised := true })).raise Ev.frameMetaError slot
  else s

/-- A destination reads a frame of a slot: it becomes the output frame, in the format that the destination sends (R18, R156,
R164, R166). -/
def State.showFrame (s : State) (d slot : Nat) (f : Frame) (r align : Nat) : State :=
  let t := s.leaveLoss d
  let x := t.dst d
  let first := x.firstTime slot f.seq
  let anc := if !routeAnc x.route || f.metaBad then [] else if first then f.anc else f.anc.filter ancIsPid
  let y : Shown :=
    { pic := f.pic, loss := false, route := x.route, slot := slot, seq := f.seq, kind := f.kind, origin := f.origin,
      stages := f.readStages, read := r, align := align, format := t.dstFormat d, anc := anc, first := first,
      store := some (slot, f.seq) }
  let t1 := t.setDst d { x with shown := some y, last := some (slot, f.seq) }
  (t1.setN Obj.dstState d 2).meetSideData slot f

/-! ## Modes (R164 to R167) -/

/-- Timed mode's memory of the window after an output frame: leaving it raises TIMED_WINDOW_EXIT once, 50 frames within a
quarter of a line end the fall-back at the next read start (R165). DstTimingError is e rounded down to a whole nanosecond: DESIGN
CHOICE, notes/assumptions/62.md. -/
def State.timedWindow (s : State) (d r : Nat) (inHalf : Option Frame) (inQuarter : Bool) : State :=
  let x := s.dst d
  match inHalf with
  | some f =>
    let t := (s.setN Obj.dstModeInForce d 0).setI Obj.dstTimingError d (timingError f r / (linePeriod f.format).2)
    if !x.fallen then t
    else if 50 ≤ x.good then (t.setDst d { x with fallen := false, good := 0 }).raise Ev.timedWindowReturn d
    else s.setDst d { x with good := if inQuarter then x.good + 1 else 0 }
  | none =>
    if x.fallen then s.setDst d { x with good := 0 }
    else  ((s.setDst d { x with fallen := true, good := 0 }).setN Obj.dstModeInForce d 1).raise Ev.timedWindowExit d

/-- An output frame of a destination whose source is not locked or lies over its reservation: no frame of it meets the window (R164,
R165). -/
def State.timedOut (s : State) (d r : Nat) : State :=
  if s.n Obj.dstAlignMode d = 0 then s.timedWindow d r none false else s.setN Obj.dstModeInForce d 1

/-- An output frame of a destination without a route (R165): it breaks the run of frames within a quarter of a line, and
DstModeInForce goes on reading TIMED unless the destination has fallen out of it. DESIGN CHOICE, notes/assumptions/63.md. -/
def State.timedMissed (s : State) (d : Nat) : State :=
  let timed := s.n Obj.dstAlignMode d = 0
  (s.setDst d { s.dst d with good := 0 }).setN Obj.dstModeInForce d (if timed && !(s.dst d).fallen then 0 else 1)

/-- What a destination reads at r from a slot whose lock and reservation hold: a frame, or none for the loss picture. -/
def State.choose (s : State) (d slot r : Nat) : Option Frame :=
  let frames := (s.src slot).held
  let df := s.dstFormat d
  let same := fun f : Frame => f.format == df || s.b Obj.dstFollowSource d
  let sync := (candidate frames df r).filter fun f => f.readable r
  if s.n Obj.dstAlignMode d = 0 && !(s.dst d).fallen then
    frames.find? fun f => inWindow 2 f r && same f
  else if s.n Obj.dstAlignMode d = 0 && s.n Obj.dstTimedFallback d = 1 then none
  else sync

/-- The bookkeeping of timed mode before a frame is chosen. -/
def State.timedStep (s : State) (d slot r : Nat) : State :=
  if s.n Obj.dstAlignMode d = 0 then
    let frames := (s.src slot).held
    let df := s.dstFormat d
    let same := fun f : Frame => f.format == df || s.b Obj.dstFollowSource d
    s.timedWindow d r (frames.find? fun f => inWindow 2 f r && same f) (frames.any fun f => inWindow 4 f r && same f)
  else s.setN Obj.dstModeInForce d 1

/-! ## Follow-source destinations (R78, R199) -/

/-- Whether a format lies in the rate family of an SDI transmit port (R78); other uses have none. -/
def Objs.inFamily (c : Objs) (d f : Nat) : Bool :=
  match Objs.sink c d with
  | .sdi l =>
    let r := Objs.n c Obj.dstReservedFormat d
    let k := carriageFor (Objs.n c Obj.sdiTxCarriage l) r
    carries k f && carriageRate k f == carriageRate k r
  | _ => true

/-- A follow-source destination meets a frame of another format: it will start the new format at the first grid point of
that format plus its offset, at or after the end of its last frame, which is the alignment point of this one (R199). -/
def State.beginAdopt (s : State) (d f align : Nat) : State :=
  let off := s.n Obj.dstTimingOffset d
  let k := alignIndex f off align
  let at_ := if alignPoint f off k = align then align else alignPoint f off (k + 1)
  s.setDst d { s.dst d with adoptNext := some (f, at_) }

/-- Every entry that sends what a destination emits raises TX_FORMAT_CHANGE (R151, R253). -/
def State.txChanged (s : State) (d : Nat) : State :=
  (Objs.txOfDst s.objs d).foldl (fun t e => t.raise Ev.txFormatChange e) s

/-- The new format starts (R199). -/
def State.adopt (s : State) (d f : Nat) : State :=
  ((s.setDst d { s.dst d with adopted := f, adoptNext := none }).raise Ev.dstFormatAdopt d).txChanged d

/-- The interval between two formats: an SDI output sends blanking lines, a flow sends nothing. -/
def State.showBlanking (s : State) (d r align : Nat) : State :=
  let x := s.dst d
  s.setDst d { x with
    shown := some { emptyShown .blanking r align (s.dstFormat d) with loss := false, route := x.route, kind := 0 }
    last := none }

/-- The format that a follow-source destination emits for a frame (R198, R199): its raster and rate, in the destination's
sampling where that gives a format. -/
def followFormat (reserved live : Nat) : Nat :=
  let g := fmtCode (fmtRaster live) (fmtRate live) (fmtSampling reserved)
  if fmtValid g then g else live

/-- A format that was to be adopted is not: the source is back in the format of the destination (R199). -/
def State.forgetAdopt (s : State) (d : Nat) : State := s.setDst d { s.dst d with adoptNext := none }

/-- A chosen frame meets the follow-source rules, then is shown. -/
def State.follow (s : State) (d slot : Nat) (f : Frame) (r align : Nat) : State :=
  let x := s.dst d
  let want := followFormat (s.n Obj.dstReservedFormat d) f.format
  if !s.b Obj.dstFollowSource d then (s.slip d slot f.seq).showFrame d slot f r align
  else if !Objs.inFamily s.objs d want then
    let lane := match Objs.sink s.objs d with
      | .sdi l => l
      | _ => 0
    let t := if x.outside then s else (s.setDst d { x with outside := true }).raise Ev.sdiFollowOutside lane
    t.showLoss d r align
  else
    let s := if x.outside then s.setDst d { x with outside := false } else s
    if want = s.dstFormat d then ((s.forgetAdopt d).slip d slot f.seq).showFrame d slot f r align
    else
      let t := match (s.dst d).adoptNext with
        | some (g, _) => if g = want then s else s.beginAdopt d want align
        | none => s.beginAdopt d want align
      match (t.dst d).adoptNext with
      | some (g, at_) => if at_ ≤ align then (t.adopt d g).showFrame d slot f r align else t.showBlanking d r align
      | none => t

/-! ## The read start (R163 to R174) -/

/-- The routes that a destination has not yet switched to, oldest first: those of its TAKEs, and the one in force where no TAKE
of the device brought it. -/
def State.routesAhead (s : State) (d : Nat) : List (Nat × Nat) :=
  let x := s.dst d
  let now := (tcNs * s.n Obj.routeTakenAt d, s.n Obj.route d)
  if (x.routes.getLast?.elim x.route (·.2)) = now.2 then x.routes else x.routes ++ [now]

/-- The destination takes its new route at its first switching point at or after the TAKE's boundary, and carries nothing over
from the old source (R170, R171). -/
def State.switchRoute (s : State) (d align : Nat) : State :=
  let x := s.dst d
  let sp := align + switchOffset (Objs.sink s.objs d) (s.dstFormat d)
  let ahead := s.routesAhead d
  let y := { x with routes := x.routes.filter fun p => sp < p.1 }
  match (ahead.filter fun p => p.1 ≤ sp).getLast? with
  | some (_, route) =>
    if route = x.route then s.setDst d y
    else s.setDst d { y with
      route := route, last := none, fallen := false, good := 0, frozen := none, froze := false, adoptNext := none, outside := false }
  | none => s

/-- The label of a destination with a route in a configuration (R252): a fixed colour, the source's, or none for the colour last in
force; a layer's destination takes no fixed one. -/
def Objs.labelOf (c : Objs) (d route : Nat) : Option Nat :=
  let fixed := match Objs.sink c d with
    | .layer _ _ => 0xFFFF
    | _ => Objs.n c Obj.dstColour d
  if fixed != 0xFFFF then some fixed else (routeSource route).map (Objs.srcColourOf c)

/-- The label that a read at switching point sp puts in force (R252): the newest that is due; without one that waits, that of the
route in use. -/
def DstSlot.labelAt (x : DstSlot) (c : Objs) (d sp : Nat) : Option Nat :=
  match (x.labels.filter fun p => p.1 ≤ sp).getLast? with
  | some (_, l) => l
  | none => if x.labels.isEmpty then Objs.labelOf c d x.route else none

/-- DstColourInForce at a switching point (R252): the label of the last TAKE whose boundary lies at or before it; where no label
waits, that of the configuration and of the route in use. A change of label changes the SDP of a flow (R253). -/
def State.labelColour (s : State) (d sp : Nat) : State :=
  let x := s.dst d
  let t := s.setDst d { x with labels := x.labels.filter fun p => sp < p.1 }
  match x.labelAt s.objs d sp with
  | some c => if c = t.n Obj.dstColourInForce d then t else (t.setN Obj.dstColourInForce d c).txChanged d
  | none => t

/-- The output frame at read start r with alignment point `align`. -/
def State.readStart (s : State) (d r align : Nat) : State :=
  let s1 := (s.switchRoute d align).labelColour d (align + switchOffset (Objs.sink s.objs d) (s.dstFormat d))
  let s2 := match routeSource (s1.dst d).route with
    | none => (s1.timedMissed d).showLoss d r align
    | some slot =>
      let t := s1.settle slot
      if !t.slotLocked slot then (t.timedOut d r).showLoss d r align
      else
        let u := t.timedStep d slot r
        match u.choose d slot r with
        | some f =>
          if (u.dst d).episode && !u.holdMet d slot (u.dstFormat d) then u.showLoss d r align
          else u.follow d slot f r align
        | none => u.showLoss d r align
  s2.setN Obj.dstFormatLive d ((s2.dst d).shown.elim 0 (·.format))

/-! ## The ledger (R27 to R35) -/

/-- The delays of stages: each stage ends where the next begins. -/
def stageDelays : List (Nat × Nat) → Nat → List (Nat × Int)
  | [], _ => []
  | [(c, a)], t => [(c, (t : Int) - a)]
  | (c, a) :: (c', b) :: l, t => (c, (b : Int) - a) :: stageDelays ((c', b) :: l) t

/-- At most 8 stages: the oldest are merged into one EARLIER entry (R34). -/
def mergeStages (l : List (Nat × Nat)) : List (Nat × Nat) :=
  if l.length ≤ 8 then l else
    match l with
    | (_, a) :: _ => (0xFF, a) :: l.drop (l.length - 7)
    | [] => []

/-- The stage delays of an emitted frame, of which the oldest makes the sum the latency that is reported (R27, R34). -/
def stageEntries (l : List (Nat × Nat)) (t latency : Nat) : List (Nat × Int) :=
  match stageDelays (mergeStages l) t with
  | [] => []
  | (c, _) :: rest => (c, (latency : Int) - (rest.map (·.2)).sum) :: rest

/-- The bytes of StageBreakdown (R34). A negative delay, which the spec gives no value, stands in its U64 entry as two's complement,
so that the entries still sum to LatencyLast: DESIGN CHOICE, notes/assumptions/15.md. -/
def stageBytes (l : List (Nat × Nat)) (t latency : Nat) : List Byte :=
  (stageEntries l t latency).flatMap fun x => beBytes 2 x.1 ++ zeros 2 ++ beBytes 8 (ofSigned 64 x.2)

/-- The output frame that a destination shows has been emitted. -/
def State.markEmitted (s : State) (d : Nat) (x : Shown) : State :=
  s.setDst d { s.dst d with shown := some { x with emitted := true } }

/-- The route and the origin of the frame that a destination has emitted (R33, R186). -/
def State.putOnAir (s : State) (d : Nat) (x : Shown) : State :=
  ((s.markEmitted d x).setN Obj.routeOnAir d x.route).setN Obj.originKind d x.kind

/-- A destination emits its output frame at a time: the latency, the origin and the stages are reported, and the route on
air (R28, R30, R33, R35, R186). A frame emitted before its own origin has no latency that the spec states: a free value
(notes/assumptions/15.md). -/
def State.emitLedger (s : State) (d code emission : Nat) : State :=
  match (s.dst d).shown with
  | none => s
  | some x =>
    if x.emitted then s
    else if x.pic = .blanking then s.markEmitted d x
    else
      let s2 := s.putOnAir d x
      if x.loss then (s2.setN Obj.latencyLast d 0).setBy Obj.stageBreakdown d []
      else
        let stages := if code = 0 then x.stages else x.stages ++ [(code, x.read)]
        let (drawn, s3) := if x.origin ≤ emission then (emission - x.origin, s2) else s2.draw
        let lat := drawn % 2 ^ 64
        let s4 := (s3.setN Obj.latencyLast d lat).setBy Obj.stageBreakdown d (stageBytes stages emission lat)
        let s5 := s4.setN Obj.latencyMin d (min lat (s4.n Obj.latencyMin d))
        s5.setN Obj.latencyMax d (max lat (s5.n Obj.latencyMax d))

end Sys2Proof.Machine
end

