-- ==== Sys2Proof/Machine/Histogram.lean ====
section
/-!
DEFINITION. Histograms (R563 to R565): the value of 188 bytes, its bins and a sample's place.
-/
namespace Sys2Proof.Machine

/-- A histogram. -/
structure Hist where
  layout : Nat                          -- 1 LOG2, 2 LINEAR
  flags : Nat
  width : Nat
  origin : Int
  start : Nat                           -- nanoseconds since the PTP epoch
  samples : Nat
  low : Int
  high : Int
  bins : List Nat
  deriving DecidableEq, Repr

/-- A histogram that starts empty. -/
def Hist.fresh (layout width : Nat) (origin : Int) (start : Nat) : Hist :=
  ⟨layout, 0, width, origin, start, 0, 0, 0, List.replicate 32 0⟩

/-- The 188 bytes of a histogram (R563). -/
def Hist.encode (h : Hist) : List Byte :=
  beBytes 2 h.layout ++ beBytes 2 32 ++ beBytes 1 h.flags ++ zeros 3 ++ beBytes 8 h.width ++
    beBytes 8 (ofSigned 64 h.origin) ++ ptpBytes h.start ++ zeros 2 ++ beBytes 8 h.samples ++
    beBytes 8 (ofSigned 64 h.low) ++ beBytes 8 (ofSigned 64 h.high) ++ (h.bins.map (beBytes 4)).flatten

/-- A histogram read from its bytes; none where it has never captured. -/
def Hist.decode (b : List Byte) : Option Hist :=
  if b.length = 188 then
    let at_ := fun i n => fromBe ((b.drop i).take n)
    some ⟨at_ 0 2, at_ 4 1, at_ 8 8, toSigned 64 (at_ 16 8), 1000000000 * at_ 24 6 + at_ 30 4, at_ 36 8,
      toSigned 64 (at_ 44 8), toSigned 64 (at_ 52 8), (chunksOf 4 32 (b.drop 60)).map fromBe⟩
  else none

/-- The bin of a sample (R564). -/
def Hist.bin (h : Hist) (v : Int) : Nat :=
  let edge : Nat → Int := fun k => if h.layout = 1 then ((h.width * 2 ^ k : Nat) : Int) else h.origin + k * h.width
  ((List.range 31).find? fun k => v < edge k).getD 31

/-- A sample captured, and whether a bin or the sample count saturates at it for the first time (R559, R564). -/
def Hist.add (h : Hist) (v : Int) : Hist × Bool :=
  let k := h.bin v
  let n := h.bins.getD k 0
  let full := n = 0xFFFFFFFF || h.samples = 0xFFFFFFFFFFFFFFFF
  ({ h with
     flags := if full then 1 else h.flags
     samples := min (h.samples + 1) 0xFFFFFFFFFFFFFFFF
     low := if h.samples = 0 then v else min h.low v
     high := if h.samples = 0 then v else max h.high v
     bins := h.bins.set k (min (n + 1) 0xFFFFFFFF) }, full && h.flags = 0)

/-- A sample captured in a histogram object; `start` is the histogram with which an empty object begins. -/
def State.capture (s : State) (index sub : Nat) (start : Hist) (v : Int) : State :=
  let h := (Hist.decode (s.by index sub)).getD start
  let r := h.add v
  let t := s.setBy index sub r.1.encode
  if r.2 then (t.setPinned (adr index sub)).raise Ev.counterPinned (adr index sub) else t

end Sys2Proof.Machine
end

