-- ==== Sys2Proof/Machine/Monitor.lean ====
section
/-!
DEFINITION. Monitors, counters and events (chapter 20): capture units, the event FIFO as Upland empties it, the event
pins and the counter clears.
-/
namespace Sys2Proof.Machine

/-! ## Capture units (R566 to R569) -/

/-- A capture unit. -/
def State.monUnit (s : State) (u : Nat) : MonUnit := look s.mon u {}

/-- A capture unit replaced. -/
def State.setMonUnit (s : State) (u : Nat) (x : MonUnit) : State := { s with mon := put s.mon u x }

/-- Subjects of a kind (R566): the number of items it can name. -/
def monSubjects : Nat → Nat
  | 1 => 2048
  | 2 => 32768
  | 3 => 2048
  | 4 => 32768
  | 5 => 32768
  | 6 => 11
  | 7 => 6
  | _ => 0

/-- MonState of a unit. -/
def State.monStateOf (s : State) (u : Nat) : Nat :=
  let k := s.n Obj.monKind u
  if k = 0 then 0 else if s.n Obj.monSubject u < monSubjects k then 1 else 2

/-- The period of a unit in which a time falls. -/
def State.monIndex (s : State) (u : Nat) : Nat :=
  let p := s.n Obj.monPeriod u
  if p = 0 then 0 else s.ptp / (1000000000 * p)

/-- The empty histogram of a unit's layout. -/
def State.monFresh (s : State) (u start : Nat) : Hist :=
  let l := s.n Obj.monLayout u
  Hist.fresh l (s.n Obj.monWidth u) (if l = 1 then 0 else s.i Obj.monOrigin u) start

/-- A unit restarts at the present (R567): its histogram is empty; a unit that captures starts one at once. -/
def State.monRestart (s : State) (u : Nat) : State :=
  let st := s.monStateOf u
  let t := (s.clearCounter Obj.monHistogram u).setN Obj.monState u st
  let t := if st = 1 then t.setBy Obj.monHistogram u (t.monFresh u t.ptp).encode else t
  t.setMonUnit u ⟨false, t.monIndex u⟩

/-- MonClear: the unit restarts, and MonPrevious is emptied. -/
def State.monClear (s : State) (u : Nat) : State := (s.monRestart u).toDefault Obj.monPrevious u

/-- A write of a unit's settings (R567, R568): MonPeriod and MonAlarm do not restart it. -/
def State.monWritten (s : State) (index u : Nat) : State :=
  if index = Obj.monPeriod then s.setMonUnit u { s.monUnit u with roll := s.monIndex u }
  else if index = Obj.monAlarm then s
  else s.monRestart u

/-- The value that a unit samples now; none where its item has none. Kind 7 takes the grant's wait. -/
def State.monValue (s : State) (u : Nat) (value : Int) : Option Int :=
  let n := s.n Obj.monSubject u
  match s.n Obj.monKind u with
  | 1 => match (s.dst n).shown with
    | some x => if x.loss || !x.emitted then none else some (s.i Obj.latencyLast n)
    | none => none
  | 2 => some (s.i Obj.aiPeak n)
  | 3 => some (s.i Obj.busPeak n)
  | 4 => some (s.i Obj.aoPeak n)
  | 5 => some (s.i Obj.aoLatencyLast n)
  | 6 => if 2 ≤ s.n Obj.refState n then some (s.i Obj.refPhaseDiff n) else none
  | 7 => some value
  | _ => none

/-- MON_SAMPLE (R566, R569). -/
def execMonSample (dt unit : Nat) (value : Int) (s : State) : Result :=
  actIf dt s (fun t => t.monStateOf unit = 1) fun t =>
    match t.monValue unit value with
    | none => t
    | some v =>
      let u := t.capture Obj.monHistogram unit (t.monFresh unit t.ptp) v
      let x := u.monUnit unit
      if u.i Obj.monAlarm unit < v && !x.alarmed then
        (u.setMonUnit unit { x with alarmed := true }).raise Ev.monAlarm unit
      else u

/-- MON_PERIOD (R568): the unit rolls at a whole multiple of its period. -/
def execMonPeriod (dt unit : Nat) (s : State) : Result :=
  actIf dt s (fun t => t.monStateOf unit = 1 && t.n Obj.monPeriod unit != 0 && (t.monUnit unit).roll != t.monIndex unit)
    fun t =>
    let k := t.monIndex unit
    let t := t.setBy Obj.monPrevious unit (t.by Obj.monHistogram unit)
    let a := adr Obj.monHistogram unit
    let t := { t with pinned := t.pinned.filter (· != a) }
    let t := t.setBy Obj.monHistogram unit (t.monFresh unit (k * (1000000000 * t.n Obj.monPeriod unit))).encode
    (t.setMonUnit unit ⟨false, k⟩).raise Ev.monPeriod unit

/-! ## The event FIFO and notifications (R572 to R575, R577) -/

/-- Whether a subscription selects a source (R494). -/
def subscribed (sub : List Byte) (source : Nat) : Bool :=
  match sub[source / 8]? with
  | some b => bit b.toNat (source % 8)
  | none => false

/-- An entry queued for a session; a full queue of 1,024 discards its oldest (R470). -/
def Session.enqueue (x : Session) (r : EvRec) (now : Nat) : Session :=
  if 1024 ≤ x.queue.length then
    { x with
      queue := x.queue.drop 1 ++ [(r, now)]
      lost := min (x.lost + 1) 0xFFFF
      lostTotal := min (x.lostTotal + 1) 0xFFFFFFFFFFFFFFFF }
  else { x with queue := x.queue ++ [(r, now)] }

/-- What Upland does for each session when it takes a record: the drops it has not yet reported, and the entry. -/
def Session.takeRecord (x : Session) (r : EvRec) (drops now : Nat) : Session :=
  let y := if x.subscription.isEmpty then x else
    { x with
      lost := min (x.lost + drops) 0xFFFF
      lostTotal := min (x.lostTotal + drops) 0xFFFFFFFFFFFFFFFF }
  if subscribed x.subscription r.source then y.enqueue r now else y

/-- The head record leaves the FIFO; at 512 records an overflow episode ends (R572). Upland takes it (R574). -/
def State.evPop (s : State) : State :=
  match s.ev.fifo with
  | [] => s
  | r :: l =>
    let drops := s.ev.droppedUnseen
    let t := { s with
      ev := { s.ev with fifo := l, droppedUnseen := if s.il.ctlUp then 0 else drops }
      il := { s.il with sessions := if s.il.ctlUp then
          s.il.sessions.map fun (p : Nat × Session) => (p.1, p.2.takeRecord r drops s.now)
        else s.il.sessions } }
    if t.ev.episode && l.length ≤ 512 then
      let n := t.ev.episodeDrops
      { t with ev := { t.ev with episode := false, episodeDrops := 0 } }.raise Ev.eventFifoOverflow n
    else t

/-- EVT_POP (R574, R577). -/
def execEvtPop (dt _value : Nat) (s : State) : Result := act dt s fun t => t.evPop

/-- A write of EVT_SWRAISE (R573). -/
def State.evSwraise (s : State) (value : Nat) : State :=
  let source := field value 0 8
  if 56 ≤ source && source ≤ 63 then s.raise source (s.regN Reg.evtSwsubj) else s.setRegBit Reg.evtStat 17 true

/-- EVT_SWRAISE (R573). -/
def execEvtSwraise (dt value : Nat) (s : State) : Result := act dt s fun t => t.evSwraise value

/-- ACKn of a pin (R576). -/
def State.evAckPin (s : State) (n : Nat) : State :=
  s.setEvPin n { s.evPin n with asserted := false, cause := none }

/-- A write of EVT_PINACK (R576, R577). In PULSE mode a running pulse keeps its width. -/
def State.evPinAck (s : State) (value : Nat) : State :=
  [0, 1].foldl (fun t n =>
    if !bit value n then t
    else if t.regField Reg.evtPinctl n n = 0 then t.evAckPin n
    else t.setEvPin n { t.evPin n with cause := none }) s

/-- EVT_PIN_ACK (R576). -/
def execEvtPinAck (dt value : Nat) (s : State) : Result := act dt s fun t => t.evPinAck value

/-- EVT_PULSE_END (R576): a pulse ends 2 µs after its start. -/
def execEvtPulseEnd (dt pin : Nat) (s : State) : Result :=
  actIf dt s (fun t => pin < 2 && (t.evPin pin).asserted && t.regField Reg.evtPinctl pin pin = 1 &&
      ((t.evPin pin).pulseAt.elim false fun a => decide (a + 2000 ≤ t.now))) fun t =>
    t.setEvPin pin { t.evPin pin with asserted := false }

/-- The shipped Upland copies EventPinMap into EVT_PINMAP (R576). -/
def State.copyPinMap (s : State) (source : Nat) : State :=
  s.setRegField (Reg.evtPinmap source) (2 * (source % 16)) (2 * (source % 16) + 1) (s.n Obj.eventPinMap source)

/-- EvtPinMode reaches EVT_PINCTL. -/
def State.copyPinMode (s : State) (pin : Nat) : State := s.setRegField Reg.evtPinctl pin pin (s.n Obj.evtPinMode pin)

/-- EvtPinState (R578). -/
def State.evtPinStateOf (s : State) (pin : Nat) : Nat :=
  let p := s.evPin pin
  b2n p.asserted + 2 * (p.cause.getD 0) + 1024 * b2n p.cause.isSome

/-! ## Counters (R560 to R562) -/

/-- The PINNED dictionary counters in ascending order (R562). -/
def State.pinnedSorted (s : State) : List Nat := sortBy (fun (a b : Nat) => decide (a ≤ b)) s.pinned

/-- PinnedList (R562). -/
def State.pinnedBytes (s : State) : List Byte := (s.pinnedSorted.take 4096).flatMap fun a => beBytes 4 a

/-- The counters that a clear register clears; none where an address is no clear register. -/
def clearRange (addr : Nat) : List Nat :=
  let off := fun base l => l.map (base + ·)
  if addr = 0x40000028 then [0x40000008]
  else if addr = 0x40010028 then [0x40010020, 0x40010024]
  else if addr = 0x4002007C then [0x4002004C, 0x40020060, 0x40020064, 0x40020068, 0x4002006C, 0x40020070, 0x40020074]
  else if addr = 0x4003022C || addr = 0x4004022C then
    off (addr - 0x2C) [0, 4, 8, 12, 16, 20, 24, 28, 32, 36, 40]
  else if 0x40050100 ≤ addr && addr < 0x40050900 && addr % 0x100 = 0x40 then off (addr - 0x40) [0x34, 0x38, 0x3C]
  else []

/-- A write of a clear register clears its counters and their PINNED bits (R560). -/
def State.clearRegs (s : State) (addr value : Nat) : State :=
  if bit value 0 then (clearRange addr).foldl (fun t a => t.setRegN a 0) s else s

/-- REG_COUNTER_CLEAR (R560). -/
def execRegCounterClear (dt addr value : Nat) (s : State) : Result := act dt s fun t => t.clearRegs addr value

/-- A destination's latency extremes return to their defaults (R33). -/
def State.latencyClear (s : State) (d : Nat) : State := (s.toDefault Obj.latencyMin d).toDefault Obj.latencyMax d

end Sys2Proof.Machine
end

