-- ==== Sys2Proof/Machine/Real.lean ====
section
/-!
DEFINITION. The real functions that rules name (R258, R260, R280, R289, R296, R297): logarithms, powers, the cosine and the sine, as
fractions. Each is its series with 96 fractional bits, far within every tolerance of the spec (notes/assumptions/6.md).
-/
namespace Sys2Proof.Machine

/-! ## Fixed point -/

/-- One, with 96 fractional bits. -/
def fixOne : Int := 2 ^ 96

/-- A fraction with 96 fractional bits, rounded down. -/
def toFix (x : Rat) : Int := (x * fixOne).floor

/-- The fraction of a fixed-point number. -/
def ofFix (a : Int) : Rat := mkRat a (2 ^ 96)

/-- The product of two fixed-point numbers. -/
def fixMul (a b : Int) : Int := a * b / fixOne

/-- A sum of a series: its first term, and each next one from the one before and its number from 1. -/
def seriesSum (n : Nat) (first : Int) (next : Int → Nat → Int) : Int :=
  ((List.range n).foldl (fun (p : Int × Int) i => (next p.1 (i + 1), p.2 + p.1)) (first, 0)).2

/-! ## Logarithm and power -/

/-- 2 artanh z, for z of at most a third. -/
def fixArtanh (z : Int) : Int :=
  let q := fixMul z z
  2 * ((List.range 48).foldl (fun (p : Int × Int) i => (fixMul p.1 q, p.2 + p.1 / (2 * i + 1 : Nat))) (z, 0)).2

/-- The natural logarithm of 2. -/
def fixLn2 : Int := fixArtanh (fixOne / 3)

/-- Two to an integer. -/
def twoTo (k : Int) : Rat := if 0 ≤ k then (2 : Rat) ^ k.toNat else 1 / (2 : Rat) ^ (-k).toNat

/-- The natural logarithm of a positive fraction. -/
def fixLn (x : Rat) : Int :=
  let k : Int := (x.num.toNat.log2 : Int) - x.den.log2
  let m := x / twoTo k
  k * fixLn2 + fixArtanh (toFix ((m - 1) / (m + 1)))

/-- e to a fixed-point number. -/
def fixExp (y : Int) : Rat :=
  let k := y / fixLn2
  ofFix (seriesSum 40 fixOne fun t i => fixMul t (y - k * fixLn2) / (i : Int)) * twoTo k

/-- A fraction to a power; 0 for one that is not positive. -/
def power (x y : Rat) : Rat := if x ≤ 0 then 0 else fixExp (((fixLn x : Int) : Rat) * y).floor

/-- The natural logarithm of a positive fraction, as a fraction. -/
def ln (x : Rat) : Rat := ofFix (fixLn x)

/-- The logarithm to the base 10 of a positive fraction. -/
def log10 (x : Rat) : Rat := ln x / ln 10

/-! ## Cosine and sine -/

/-- Half of the circle's ratio. -/
def fixHalfPi : Int := toFix (mkRat 157079632679489661923132169163975144210 100000000000000000000000000000000000000)

/-- The sine of a fixed-point angle between 0 and a right angle. -/
def fixSin (x : Int) : Int :=
  seriesSum 24 x fun t i => -(fixMul (fixMul t x) x / ((2 * i) * (2 * i + 1) : Nat))

/-- The sine of a part of a right angle. -/
def sinPart (x : Rat) : Rat := ofFix (fixSin (((fixHalfPi : Int) : Rat) * x).floor)

/-- The cosine of a part of a right angle. -/
def cosPart (x : Rat) : Rat := sinPart (1 - x)

/-! ## Limits and rounding -/

/-- A fraction limited to a range. -/
def clampRat (lo hi x : Rat) : Rat := if x < lo then lo else if hi < x then hi else x

/-- A fraction rounded, halves away from zero (R233, R276). -/
def roundHalfAway (x : Rat) : Int := if 0 ≤ x then (x + 1 / 2).floor else -(1 / 2 - x).floor

end Sys2Proof.Machine
end

