-- ==== Sys2Proof/Machine/Cornice.lean ====
section
/-!
DEFINITION. Cornice (chapter 09): input converters, strips, buses, outputs and their tap changes, lip-sync binding, meters
and loudness.
-/
namespace Sys2Proof.Machine

/-! ## Words (R274 to R276) -/

/-- An internal word saturated to 32 bits. -/
def sat32 (x : Int) : Int := clampInt (-2147483648) 2147483647 x

/-- Whether a value saturates when it is written back. -/
def saturates (x : Int) : Bool := sat32 x != x

/-- A fraction as an internal word (R275, R280, R281): exact where it is whole; where it is not, the spec states no rounding, and one of
its two neighbours is taken. DESIGN CHOICE, notes/assumptions/6.md. -/
def roundRat (x : Rat) : Int := if x.den = 1 then x.num else x.floor + (if Config.roundUp x then 1 else 0)

/-- n / d as an internal word. -/
def roundFrac (n : Int) (d : Nat) : Int := roundRat (mkRat n d)

/-- A term added in the 40-bit accumulator (R275). What it holds after a sum beyond 40 bits is free (notes/assumptions/6.md). -/
def acc40 (a b : Int) : Int :=
  if -549755813888 ≤ a + b && a + b < 549755813888 then a + b
  else clampInt (-549755813888) 549755813887 (Config.overflow40 a b)

/-- An internal sample as a 24-bit output word, and whether it is clipped (R276). -/
def outWord (x : Rat) : Int × Bool :=
  let r := roundHalfAway (x / 16)
  let c := clampInt (-8388608) 8388607 r
  (c, c != r)

/-! ## Gains (R280) -/

/-- The linear gain of a gain value, 10^(G / 2,000), and 0 for OFF. -/
def linearGain (g : Int) : Rat :=
  if g = -32768 then 0
  else if g % 2000 = 0 then (if 0 ≤ g then (10 : Rat) ^ (g / 2000).toNat else 1 / (10 : Rat) ^ (-(g / 2000)).toNat)
  else power 10 ((g : Rat) / 2000)

/-- The linear gain on its way: a straight line of 64 samples from what it was when its target was set. -/
def rampValue : Ramp → Rat
  | [] => 1
  | [(g, _)] => linearGain g
  | (g, n) :: rest =>
    let v := rampValue rest
    v + (linearGain g - v) * n / 64

/-- A sample times a gain. -/
def gainTimes (r : Ramp) (x : Int) : Int := if x = 0 then 0 else roundRat (rampValue r * x)

/-- A gain turns to a new target. -/
def rampTo (r : Ramp) (g : Int) : Ramp :=
  match r with
  | (t, _) :: _ => if t = g then r else (g, 0) :: r
  | [] => [(g, 64)]

/-- A gain one sample on: after 64 samples it stands at its target. -/
def rampNext : Ramp → Ramp
  | (t, n) :: rest => if 64 ≤ n + 1 then [(t, 64)] else (t, n + 1) :: rest
  | [] => [(0, 64)]

/-- A run of samples through a gain. -/
def rampRun : Ramp → List Int → List Int × Ramp
  | r, [] => ([], r)
  | r, x :: t =>
    let r2 := rampNext r
    let q := rampRun r2 t
    (gainTimes r2 x :: q.1, q.2)

/-! ## Biquads (R281) -/

/-- One sample through a section: the value before saturation, and the new state. Each product has the binary point of the internal word
in the accumulator (R275). -/
def biquadStep (c : List Byte) (b : Biquad) (x : Int) : Int × Biquad :=
  let products := [intAt c 0 4 * x, intAt c 4 4 * b.x1, intAt c 8 4 * b.x2, -(intAt c 12 4 * b.y1), -(intAt c 16 4 * b.y2)]
  let y := (products.map fun p => roundFrac p 1073741824).foldl acc40 0
  (y, ⟨x, b.x1, sat32 y, b.y1⟩)

/-- A run of samples through a section: the saturated values, which of them saturate, the new state. -/
def biquadRun (c : List Byte) : Biquad → List Int → List (Int × Bool) × Biquad
  | b, [] => ([], b)
  | b, x :: t =>
    let r := biquadStep c b x
    let q := biquadRun c r.2 t
    ((sat32 r.1, saturates r.1) :: q.1, q.2)

/-- A run of samples through a set of sections. -/
def eqRun : List (List Byte) → List Biquad → List Int → List Bool → List Int × List Biquad × List Bool
  | [], _, xs, f => (xs, [], f)
  | c :: cs, st, xs, f =>
    let r := biquadRun c (st.headD {}) xs
    let q := eqRun cs (st.drop 1) (r.1.map (·.1)) ((f.zip (r.1.map (·.2))).map fun p => p.1 || p.2)
    (q.1, r.2 :: q.2.1, q.2.2)

/-- Whether every section of a set is in bypass. -/
def eqFlat (b : List Byte) : Bool := (chunksOf 20 8 b).all fun c => c == bypassSection

/-! ## References and feeds (R270, R271) -/

/-- The number of an audio source reference. -/
def refNo (v : Nat) : Nat := field v 0 15

/-- Whether a reference names an input channel. -/
def refIsAi (v : Nat) : Bool := field v 28 31 == 1

/-- Whether a reference names a bus. -/
def refIsMb (v : Nat) : Bool := field v 28 31 == 2

/-- What feeds an input channel, by the codes of AiFeed, with the number of the lane, entry or port, and the group bit of an
embedded channel. -/
def Objs.aiFeed (c : Objs) (ch : Nat) : Nat × Nat × Nat :=
  let emb := fun (base : Nat) => (ch - base) / 4
  match (Objs.subs c Obj.rxAudioBase).find? fun l =>
      (groupChannels (Objs.n c Obj.rxAudioBase l) (Objs.n c Obj.rxAudioGroups l)).contains ch with
  | some l => (1, l, emb (Objs.n c Obj.rxAudioBase l))
  | none =>
    match (Objs.rxEntries c).find? fun e => Objs.rxLeadEntry c e == e && Objs.n c Obj.rxEssence e == 5 &&
        (groupChannels (Objs.n c Obj.rxEmbAudioBase e) (Objs.n c Obj.rxEmbAudioGroups e)).contains ch with
    | some e => (2, e, emb (Objs.n c Obj.rxEmbAudioBase e))
    | none =>
      match (Objs.rxEntries c).find? fun e => Objs.rxLeadEntry c e == e &&
          (Objs.n c Obj.rxEssence e == 2 || Objs.n c Obj.rxEssence e == 3) &&
          Objs.n c Obj.rxTarget e ≤ ch && ch < Objs.n c Obj.rxTarget e + Objs.n c Obj.rxAudioChannels e with
      | some e => (3, e, 0)
      | none =>
        match (Objs.subs c Obj.tarnAiBase).find? fun p => Objs.n c Obj.tarnAiBase p != 0xFFFF &&
            Objs.n c Obj.tarnAiBase p ≤ ch && ch < Objs.n c Obj.tarnAiBase p + Objs.n c Obj.tarnAiCount p with
        | some p => (4, p, 0)
        | none => (0, 0, 0)

/-- AiRateIn of a feed: 0 none, 1 48 kHz, 2 96 kHz. -/
def Objs.aiRate (c : Objs) (ch : Nat) : Nat :=
  match Objs.aiFeed c ch with
  | (0, _) => 0
  | (1, _) => 1
  | (2, _) => 1
  | (3, e, _) => if Objs.n c Obj.rxAudioRate e = 1 then 2 else 1
  | _ => 2

/-- A Tarn port delivers to Cornice while it runs and RXCORNICE is 1 (R322). -/
def State.tarnFeeds (s : State) (p : Nat) : Bool :=
  bit (s.regN (0x40050100 + 0x100 * p)) 20 && bit (s.regN (0x40050120 + 0x100 * p)) 0

/-! ## Slots of a Tarn port (R304 to R306) -/

/-- MODE: 0 TDM, 1 I2S, 2 PDM. -/
def tpMode (c : Nat) : Nat := field c 1 2

/-- Slots of a frame, or microphone channels. -/
def tpSlots (c : Nat) : Nat := if tpMode c = 1 then 2 else if tpMode c = 2 then 4 else field c 9 13 + 1

/-- Whether slot k of a port delivers samples: one of its slots, unmasked, its converter in range (R309, R322). -/
def State.tarnSlotOn (s : State) (p k : Nat) : Bool :=
  k < tpSlots (s.regN (0x40050100 + 0x100 * p)) && (look s.tarn.ports p {}).rxMask.testBit k &&
    s.regField (0x40050120 + 0x100 * p) 2 3 != 3

/-- Whether an input channel is present: R69, R105, R271, R277, R309. -/
def State.aiPresent (s : State) (ch : Nat) : Bool :=
  s.n Obj.aiConverter ch != 3 && match Objs.aiFeed s.objs ch with
    | (1, l, g) => (Objs.rxLanes s.objs l).all (fun k => s.n Obj.rxState k == 4) && bit (s.n Obj.rxAudioPresent l) g
    | (2, e, g) => s.n Obj.rxFlowState e == 4 && bit (s.n Obj.embAudioPresent e) g
    | (3, e, _) => s.n Obj.rxFlowState e == 4
    | (4, p, _) => s.tarnFeeds p
    | _ => false

/-- A strip. -/
def State.strip (s : State) (ch : Nat) : Strip := look s.au.strips ch {}

/-- A strip changed. -/
def State.setStrip (s : State) (ch : Nat) (x : Strip) : State := { s with au := { s.au with strips := put s.au.strips ch x } }

/-- A bus. -/
def State.bus (s : State) (m : Nat) : Bus := look s.au.buses m {}

/-- A bus changed. -/
def State.setBus (s : State) (m : Nat) (x : Bus) : State := { s with au := { s.au with buses := put s.au.buses m x } }

/-- An output channel. -/
def State.aout (s : State) (ch : Nat) : AOut := look s.au.outs ch {}

/-- An output channel changed. -/
def State.setAout (s : State) (ch : Nat) (x : AOut) : State := { s with au := { s.au with outs := put s.au.outs ch x } }

/-- How far the delay of a channel's input converter lies from its group delay (R277, R287): within 10.4 µs while it tracks. -/
def State.trackDelay (s : State) (ch : Nat) : Int :=
  if Objs.aiRate s.objs ch = 1 && s.n Obj.aiConverter ch = 2 then
    clampInt (-10400) 10400 (Config.trackDelay (s.i Obj.aiRateDeviation ch) (s.strip ch).frac)
  else 0

/-- The origin kind of an input channel's samples, and the time from their origin to Cornice entry (R26, R70, R291). -/
def State.aiLatency (s : State) (ch : Nat) : Nat × Int :=
  match Objs.aiFeed s.objs ch with
  | (1, _) => (1, (s.strip ch).latency)
  | (2, _) => (2, (s.strip ch).latency)
  | (3, _) => (2, (s.strip ch).latency)
  | (4, _) => (3, (s.strip ch).latency)
  | _ => (Config.unfedOriginKind, 0)

/-- The time from origin to entry of the samples that a feed has just delivered to channels. -/
def State.setInLatency (s : State) (chs : List Nat) (v : Int) : State :=
  chs.foldl (fun t ch => t.setStrip ch { t.strip ch with latency := v }) s

/-- Words that a packet delivers to an input channel wait for the blocks that take them (R271, R274). -/
def State.queueWords (s : State) (ch : Nat) (ws : List (Int × Nat)) : State :=
  if s.aiPresent ch then s.setStrip ch { s.strip ch with
    queue := (s.strip ch).queue ++ ws.map fun w => clampInt (-8388608) 8388607 w.1
    queueSide := (s.strip ch).queueSide ++ ws.map (·.2) }
  else s

/-- Words of several channels, sample instant by sample instant, go to the channels from `base` on, with the validity, user and
channel status bits of each (R70, R115). -/
def State.queueFrames (s : State) (base channels : Nat) (ws : List Int) (side : List Nat) : State :=
  (List.range channels).foldl (fun t k =>
    t.queueWords (base + k) ((List.range (ws.length / channels)).map fun i =>
      (ws.getD (i * channels + k) 0, side.getD (i * channels + k) 0))) s

/-- The non-audio bits of pairs go to their input channels, from `base` on (R70, R115, R284). -/
def State.setNonAudio (s : State) (base : Nat) : List Bool → State
  | [] => s
  | a :: l => ((s.setB Obj.aiNonAudio base a).setB Obj.aiNonAudio (base + 1) a).setNonAudio (base + 2) l

/-- A flat strip (R283). -/
def State.flat (s : State) (ch : Nat) : Bool :=
  s.i Obj.aiGain ch == 0 && !s.b Obj.aiPolarity ch && s.n Obj.aiDelay ch == 0 && eqFlat (s.by Obj.aiEq ch)

/-! ## Who reads an output (R71, R125, R322) -/

/-- The readers of an output channel: rate (48 or 96) and word length. -/
def State.aoReaders (s : State) (ch : Nat) : List (Nat × Nat) :=
  (((Objs.subs s.objs Obj.txAudioBase).filter fun l =>
      (groupChannels (s.n Obj.txAudioBase l) (s.n Obj.txAudioGroups l)).contains ch).map fun _ => (48, 24)) ++
  (((Objs.txEntries s.objs).filter fun e => s.n Obj.txEssence e == 5 &&
      (groupChannels (s.n Obj.txEmbAudioBase e) (s.n Obj.txEmbAudioGroups e)).contains ch).map fun _ => (48, 24)) ++
  (((Objs.txEntries s.objs).filter fun e => (s.n Obj.txEssence e == 2 || s.n Obj.txEssence e == 3) &&
      s.n Obj.txSource e ≤ ch && ch < s.n Obj.txSource e + s.n Obj.txAudioChannels e).map fun e =>
    (if s.n Obj.txAudioRate e = 1 then 96 else 48, if s.n Obj.txEssence e = 2 && s.n Obj.txAudioDepth e = 0 then 16 else 24)) ++
  (((Objs.subs s.objs Obj.tarnAoBase).filter fun p => s.n Obj.tarnAoBase p != 0xFFFF &&
      s.n Obj.tarnAoBase p ≤ ch && ch < s.n Obj.tarnAoBase p + s.n Obj.tarnAoCount p).map fun _ => (96, 24))

/-- The rate at which an output runs: that of its first reader, 96 kHz without one. -/
def State.aoRate (s : State) (ch : Nat) : Nat := ((s.aoReaders ch).head?.map (·.1)).getD 96

/-! ## Paths and latencies (R285 to R287, R291, R292) -/

/-- Whether an output may use the bypass path (R285). -/
def State.bypassOk (s : State) (source rate : Nat) : Bool :=
  let ch := refNo source
  refIsAi source && Objs.aiRate s.objs ch == (if rate = 48 then 1 else 2) &&
    (rate == 96 || s.n Obj.aiConverter ch == 1 || (Objs.aiFeed s.objs ch).1 == 4) && s.flat ch

/-- The origin of a source reference through its ledger inputs (R272, R292): origin kind, the time from origin to Cornice entry and
through the strip, and whether the input is at 48 kHz. A bus takes the position of BusLedgerInput, or the lowest one, that has a gain
other than OFF and comes from a fed, present channel; none where there is no such position. -/
def State.ledger (s : State) : Nat → Nat → Option (Nat × Int × Bool)
  | 0, _ => none
  | fuel + 1, v =>
    if refIsAi v then
      let ch := refNo v
      let l := s.aiLatency ch
      if s.aiPresent ch then
        some (l.1, l.2 + s.trackDelay ch + (1000000 * s.n Obj.aiDelay ch / 96 : Nat), Objs.aiRate s.objs ch == 1)
      else none
    else if refIsMb v then
      let m := refNo v
      let refs := (chunksOf 4 128 (s.by Obj.busInputSrc m)).map fromBe
      (s.n Obj.busLedgerInput m :: List.range refs.length).findSome? fun k =>
        if intAt (s.by Obj.busInputGain m) (2 * k) 2 = -32768 then none else s.ledger fuel (refs.getD k 0)
    else none

/-- The origin of what an output reads (R291, R292): a channel's own, present or not; SYNTHETIC with the block's own time for a bus
without a ledger input and for NONE. -/
def State.audioOrigin (s : State) (source : Nat) : Nat × Int × Bool :=
  (s.ledger 2049 source).getD (if refIsAi source then
    ((s.aiLatency (refNo source)).1, (s.aiLatency (refNo source)).2 + (1000000 * s.n Obj.aiDelay (refNo source) / 96 : Nat),
      Objs.aiRate s.objs (refNo source) == 1)
  else (4, 0, false))

/-- The fixed latency of a path in nanoseconds (R287). -/
def pathLatency (bypass in48 out48 : Bool) : Nat :=
  if bypass then (if out48 then 41667 else 20833)
  else 170000 + (if in48 then 125000 else 0) + (if out48 then 125000 else 0)

/-- The natural latency of an output tapped at a source (R293). -/
def State.naturalLatency (s : State) (source : Nat) (bypass : Bool) (rate : Nat) : Int :=
  let l := s.audioOrigin source
  l.2.1 + pathLatency bypass l.2.2 (rate = 48)

/-- Samples per second of a bind delay: internal ones on the main path, those of the common rate on the bypass path. -/
def tapHz (bypass : Bool) (rate : Nat) : Nat := if bypass && rate = 48 then 48000 else 96000

/-! ## Tap changes (R288 to R290) -/

/-- The latency of an output's samples on a tap (R287, R291). -/
def State.tapLatency (s : State) (t : Tap) (rate : Nat) : Int :=
  s.naturalLatency t.source t.bypass rate + (1000000000 * t.delay / tapHz t.bypass rate : Nat)

/-- The tap that an output's configuration asks for, with a bind delay. -/
def State.wantedTap (s : State) (ch delay : Nat) : Tap :=
  let src := s.n Obj.aoSource ch
  ⟨src, s.n Obj.aoPath ch == 0 && s.bypassOk src (s.aoRate ch), delay⟩

/-- AoPathInForce. -/
def tapCode (t : Tap) : Nat := if t.source = 0 then 0 else if t.bypass then 2 else 1

/-- Whether a crossfade runs. -/
def AOut.fading (x : AOut) : Bool := x.old.isSome && x.fadePos < x.fadeLen

/-- A tap change starts: a crossfade of n samples from main to main, else a cut (R286, R289). A bound output that stays on the bypass path
still owes the move that R286 asks for. -/
def AOut.start (x : AOut) (t : Tap) (n : Nat) (bound : Bool) : AOut :=
  { x with
    tap := t
    old := if !t.bypass && !x.tap.bypass && n != 0 then some x.tap else none
    fadePos := 0
    fadeLen := n
    waiting := none
    toMain := if bound && t.bypass then x.toMain else none }

/-- A tap change whose time has come starts, or waits for the crossfade that runs and replaces one that waits (R288, R290): the output,
and how many changes have begun to wait. -/
def AOut.begin (x : AOut) (n : Nat) (bound : Bool) : AOut × Nat :=
  match x.due with
  | none => (x, 0)
  | some (t, _) =>
    if x.fading then ({ x with due := none, waiting := some t }, 1) else (({ x with due := none } : AOut).start t n bound, 0)

/-- Whether a change time has come at an internal sample instant, counted in 1/96,000 s (R288). -/
def reached (at_ index : Nat) : Bool := 96000 * at_ ≤ 1000000000 * index

/-- What an output meets before the sample of an index (R288, R290): a tap change that is due there, at a sample of the output's rate;
after a crossfade the one that waits. -/
def AOut.meet (x : AOut) (n : Nat) (bound : Bool) (rate index : Nat) : AOut × Nat :=
  if x.due.elim false (fun d => reached d.2 index) && index % (96 / rate) = 0 then x.begin n bound
  else match x.waiting with
    | some t => if x.fading then (x, 0) else (x.start t n bound, 0)
    | none => (x, 0)

/-- What a sample of an output is taken from: the tap, and the tap that a crossfade leaves, with its place in the crossfade. -/
structure Voice where
  tap : Tap
  old : Option Tap
  pos : Nat
  len : Nat
  deriving DecidableEq, Repr

/-- A run of samples of an output, by their indices: the output after them, what each is taken from, and how many tap changes have
begun to wait. -/
def AOut.run (n : Nat) (bound : Bool) (rate : Nat) : AOut → List Nat → AOut × List Voice × Nat
  | x, [] => (x, [], 0)
  | x, i :: l =>
    let r := x.meet n bound rate i
    let y := r.1
    let q := AOut.run n bound rate { y with fadePos := if y.old.isSome then min y.fadeLen (y.fadePos + 1) else y.fadePos } l
    (q.1, ⟨y.tap, y.old, y.fadePos, y.fadeLen⟩ :: q.2.1, r.2 + q.2.2)

/-- AoPathInForce and AoBindDelay follow the tap (R285, R294). -/
def State.tapObjects (s : State) (ch : Nat) : State :=
  let t := (s.aout ch).tap
  let u := s.setN Obj.aoPathInForce ch (tapCode t)
  if u.n Obj.aoBindState ch = 0 then u
  else u.setN Obj.aoBindDelay ch (1000000000 * t.delay / tapHz t.bypass (s.aoRate ch))

/-- Tap changes have begun to wait (R290). -/
def State.deferred (s : State) (ch waits : Nat) : State :=
  if waits = 0 then s else (s.bump Obj.aoTapsDeferred ch waits).raiseLimited Ev.auTapDeferred ch ch

/-- Whether an output is bound (R293). -/
def State.aoBound (s : State) (ch : Nat) : Bool := s.n Obj.aoBindDst ch != 0xFFFF

/-- An output meets its tap changes as AOut.begin says. -/
def State.beginTap (s : State) (ch : Nat) : State :=
  let r := (s.aout ch).begin (s.n Obj.aoFadeSamples ch) (s.aoBound ch)
  ((s.setAout ch r.1).tapObjects ch).deferred ch r.2

/-- A bypass output whose conditions have ended: the move to the main path falls due at the next house boundary, or from it
on at the video mark (R286, R288). A tap change that is already due chooses its path itself, and none goes to a bypass path whose
conditions have ended. -/
def State.checkPath (s : State) (ch : Nat) : State :=
  let x := s.aout ch
  let rate := s.aoRate ch
  let main := fun (t : Tap) => if t.bypass && !s.bypassOk t.source rate then { t with bypass := false } else t
  let x := { x with due := x.due.map fun p => (main p.1, p.2), waiting := x.waiting.map main }
  if !x.tap.bypass || x.toMain.isSome || s.bypassOk x.tap.source rate then
    (if x = s.aout ch then s else s.setAout ch x)
  else
    let b := s.nextBoundary / tcNs
    let t := s.raise Ev.auPathChange ch
    t.setAout ch { x with
      due := if s.aoBound ch || x.due.isSome then x.due else some ({ x.tap with bypass := false }, b)
      toMain := some b }

/-! ## Lip-sync binding (R293, R294) -/

/-- AoBindState moves; its events on entry. -/
def State.setBind (s : State) (ch st : Nat) : State :=
  let old := s.n Obj.aoBindState ch
  let t := s.setN Obj.aoBindState ch st
  if old = st then t
  else match st with
    | 2 => t.raise Ev.auLipsyncLocked ch
    | 3 => t.raise Ev.auLipsyncLate ch
    | 4 => t.raise Ev.auLipsyncLimited ch
    | _ => t

/-- floor(v x hz / 10^9 + 1/2), for a time v in nanoseconds. -/
def samplesOf (v : Int) (hz : Nat) : Int := (2 * v * hz + 1000000000) / 2000000000

/-- AoBindState and the bind delay that R293 gives a tap, for a frame of latency v. -/
def State.bindDelay (s : State) (ch v source : Nat) (bypass : Bool) : Nat × Nat :=
  let rate := s.aoRate ch
  let hz := tapHz bypass rate
  let want := samplesOf ((v : Int) + s.i Obj.aoBindTrim ch - s.naturalLatency source bypass rate) hz
  let most := s.n Obj.aoDelayReserve ch * hz / 1000
  if want < 0 then (3, 0) else if most < want.toNat then (4, most) else (2, want.toNat)

/-- The newest tap that an output has been given. -/
def AOut.newest (x : AOut) : Tap := x.due.elim (x.waiting.getD x.tap) (·.1)

/-- A frame that the bound destination of an output emits: the bind delay, and the tap change that it causes. The path is
chosen only at a tap change (R286): one that a salvo or the end of the bypass conditions has made due, or a new delay. AoLipSyncError
takes the latency that the output has at the mark: a change that must wait for a crossfade is not yet in it (R290, R294). -/
def State.bindMark (s : State) (ch emission : Nat) (lost noRoute : Bool) (v : Nat) : State :=
  let x := s.aout ch
  let rate := s.aoRate ch
  let cut := x.recut.elim false fun b => b ≤ emission
  let toMain := x.toMain.elim false fun b => b ≤ emission
  let newest := x.newest
  let source := if cut then s.n Obj.aoSource ch else newest.source
  let path := if cut then (s.wantedTap ch 0).bypass else !toMain && newest.bypass
  let want := fun bypass => if noRoute || (lost && s.n Obj.aoBindState ch = 1) then (1, 0)
    else if lost then (s.n Obj.aoBindState ch, newest.delay)
    else s.bindDelay ch v source bypass
  let moves := cut || toMain || (want path).2 != newest.delay
  let bypass := if moves && !cut && !toMain then s.n Obj.aoPath ch == 0 && s.bypassOk source rate else path
  let (st, d) := want bypass
  let waits := x.fading && ceilDiv (96000 * emission) 1000000000 < x.pos + (x.fadeLen - x.fadePos)
  let heard : Tap := if waits || !moves then x.tap else ⟨source, bypass, d⟩
  let t := s.setBind ch st
  let t := if lost || noRoute then t else t.setI Obj.aoLipSyncError ch (t.tapLatency heard rate - (v + t.i Obj.aoBindTrim ch))
  let t := t.setAout ch { t.aout ch with
    recut := if cut then none else x.recut
    toMain := if toMain || cut then none else x.toMain }
  if moves then t.setAout ch { t.aout ch with due := some (⟨source, bypass, d⟩, emission) } else t

/-- A destination emits a frame (R293): every output bound to it. Whether it has a route is that of its last switching point: a loss
picture leaves the delay as it is. -/
def State.videoMark (s : State) (d emission : Nat) : State :=
  match (s.dst d).shown with
  | none => s
  | some x =>
    ((Objs.subs s.objs Obj.aoBindDst).filter fun ch => s.n Obj.aoBindDst ch == d).foldl (fun t ch =>
      t.bindMark ch emission x.loss ((routeSource (s.dst d).route).isNone) (t.n Obj.latencyLast d)) s

/-- A destination emits its output frame: the ledger, and the outputs bound to it (R28, R293). -/
def State.emitFrame (s : State) (d code emission : Nat) : State :=
  if (s.dst d).shown.elim true fun x => x.emitted then s
  else (s.emitLedger d code emission).videoMark d emission

/-! ## The block (R274, R277 to R284) -/

/-- Samples of a history, newest first, as the block's 16 samples at a delay. -/
def blockAt (hist : List Int) (delay : Nat) : List Int :=
  (List.range 16).map fun i => hist.getD (15 - i + delay) 0

/-- The 16 internal samples that an input channel delivers (R274, R277). -/
def State.convert (s : State) (ch : Nat) (words hist : List Int) : List Int :=
  if !s.aiPresent ch then List.replicate 16 0
  else if Objs.aiRate s.objs ch = 1 then
    let dev := if s.n Obj.aiConverter ch = 1 then none else some (s.i Obj.aiRateDeviation ch, (s.strip ch).frac)
    (List.range 16).map fun i => if hist.all (· == 0) then 0 else sat32 (Config.upsample dev hist i)
  else (List.range 16).map fun i => words.getD i 0 * 16

/-- A meter takes samples; `tail` are the last ones at 96 kHz, newest first (R296). -/
def Meter.take (m : Meter) (xs : List Int) (tail : List Rat) (tp : Bool) : Meter :=
  let p := (xs.map Int.natAbs).foldl max m.peak
  { m with peak := p, truePeak := if tp && !(tail.all (· == 0)) then max m.truePeak (Config.truePeak tail) else m.truePeak }

/-- Negation as polarity inversion does it (R280). -/
def invert (x : Int) : Int := if x = -2147483648 then 2147483647 else -x

/-- Histories that Cornice keeps: the longest bind delay and the 3 s of R297. -/
def histLen : Nat := 288000

/-- One block through a strip (R279 to R281). -/
def State.stripBlock (s : State) (ch : Nat) (words : List Int) (side : List Nat) : State :=
  let x := s.strip ch
  let input := (words.reverse ++ x.input).take 96000
  let xs := s.convert ch words input
  let g := rampRun (rampTo x.gain (s.i Obj.aiGain ch)) xs
  let gs := (g.1.map sat32).map fun v => if s.b Obj.aiPolarity ch then invert v else v
  let line := (gs.reverse ++ x.line).take 10080
  let want := s.n Obj.aiDelay ch
  let (old, new, pos) := if want = x.delay then (x.oldDelay, x.delay, x.delayPos) else (x.delay, want, 0)
  let a := blockAt line old
  let b := blockAt line new
  let ds := (List.range 16).map fun i =>
    let k := pos + i
    if 480 ≤ k then b.getD i 0
    else sat32 (roundFrac ((960 - (2 * k + 1)) * a.getD i 0 + (2 * k + 1) * b.getD i 0) 960)
  let eq := s.by Obj.aiEq ch
  let q := eqRun (chunksOf 20 4 eq) x.eqState ds (ds.map fun _ => false)
  let out := (q.1.reverse ++ x.out).take histLen
  s.setStrip ch { x with
    input := input
    inputSide := (side.reverse ++ x.inputSide).take 96000
    gain := g.2
    line := line
    delay := new
    oldDelay := old
    delayPos := min 480 (pos + 16)
    eq := eq
    eqState := q.2.1
    out := out
    meter := x.meter.take q.1 [] false }

/-- The history of what a reference names, and whether it is non-audio on the main path (R284). -/
def State.history (s : State) (v : Nat) : List Int × Bool :=
  if refIsAi v then ((s.strip (refNo v)).out, s.b Obj.aiNonAudio (refNo v))
  else if refIsMb v then ((s.bus (refNo v)).out, false)
  else ([], false)

/-- AU_NONAUDIO_MUTED once for each bus or output that is muted (R284). -/
def State.muteEvent (s : State) (was is : Bool) (subject : Nat) : State :=
  if is && !was then s.raise Ev.auNonaudioMuted subject else s

/-- The sum of two runs of samples (R275). -/
def addRuns (a b : List Int) : List Int := (List.range 16).map fun i => acc40 (a.getD i 0) (b.getD i 0)

/-- One block through a bus (R275, R282). -/
def State.busBlock (s : State) (m : Nat) : State :=
  let x := s.bus m
  let refs := (chunksOf 4 128 (s.by Obj.busInputSrc m)).map fromBe
  let gb := s.by Obj.busInputGain m
  let parts := (List.range refs.length).map fun k =>
    let h := s.history (refs.getD k 0)
    let g := rampTo (x.gains.getD k [(intAt gb (2 * k) 2, 64)]) (intAt gb (2 * k) 2)
    let r := rampRun g (if h.2 then List.replicate 16 0 else blockAt h.1 0)
    (r.1, r.2, h.2)
  let sum := (parts.map (·.1)).foldl addRuns (List.replicate 16 0)
  let muted := parts.any fun p => p.2.2
  let f0 := sum.map saturates
  let g := rampRun (rampTo x.gain (s.i Obj.busGain m)) (sum.map sat32)
  let f1 := (f0.zip (g.1.map saturates)).map fun p => p.1 || p.2
  let eq := s.by Obj.busEq m
  let q := eqRun (chunksOf 20 8 eq) x.eqState (g.1.map sat32) f1
  let clips := (q.2.2.filter id).length
  let out := (q.1.reverse ++ x.out).take histLen
  let t := s.setBus m { x with
    gains := parts.map fun p => p.2.1
    gain := g.2
    eq := eq
    eqState := q.2.1
    out := out
    muted := muted
    meter := x.meter.take q.1 ((out.take 64).map fun v => (v : Rat)) true }
  let t := t.muteEvent x.muted muted m
  if clips = 0 then t else (t.bump Obj.busClipSamples m clips).raiseLimited Ev.auClip (0x20000000 + m) m

/-! ## Outputs (R276, R278, R284, R285, R289)

An output emits its samples at whole multiples of 1/96,000 s, and at 48 kHz at every second one. Their number is that multiple. -/

/-- The number of a block: its boundary in 1/6,000 s (R274). -/
def State.blockNo (s : State) : Nat := 6000 * s.ptp / 1000000000

/-- A sample of a history, newest first, by its number; `newest` is that of the newest one. -/
def sampleAt (hist : List Int) (newest n : Nat) : Int := if newest < n then 0 else hist.getD (newest - n) 0

/-- The internal samples from Cornice entry to emission on the main path, without the input conversion (R287): one block and the transfer,
and the output conversion at 48 kHz. -/
def mainLag (rate : Nat) : Nat := if rate = 48 then 28 else 16

/-- The internal sample that a tap gives an output of a rate at an index, and whether it is muted (R284). -/
def State.tapSample (s : State) (t : Tap) (rate index : Nat) : Int × Bool :=
  let h := s.history t.source
  let delay := if t.bypass then 96 / rate * t.delay else t.delay
  if h.2 then (0, true) else (sampleAt h.1 (16 * s.au.block - 1) (index - mainLag rate - delay), false)

/-- An output's internal sample (R289): in a crossfade of N samples, w = (k + 0.5) / N. -/
def State.voiceSample (s : State) (v : Voice) (equalPower : Bool) (rate index : Nat) : Rat :=
  let new : Rat := (s.tapSample v.tap rate index).1
  match v.old with
  | none => new
  | some o =>
    if v.len ≤ v.pos then new
    else
      let old : Rat := (s.tapSample o rate index).1
      let w : Rat := (2 * v.pos + 1 : Nat) / (2 * v.len : Nat)
      if equalPower then cosPart w * old + sinPart w * new else (1 - w) * old + w * new

/-- An input word of a channel and what goes with it, by its number at the channel's rate: one that a block has taken, or one that still
waits. -/
def Strip.wordAt (x : Strip) (newest n : Nat) : Int × Nat :=
  if n ≤ newest then (x.input.getD (newest - n) 0, x.inputSide.getD (newest - n) 0)
  else (x.queue.getD (n - newest - 1) 0, x.queueSide.getD (n - newest - 1) 0)

/-- A word on the bypass path, by its number at the rate: the input word of 2 samples and the bind delay before (R285). -/
def State.bypassWord (s : State) (t : Tap) (rate n : Nat) : Int × Nat :=
  (s.strip (refNo t.source)).wordAt (s.au.block * (rate / 6) - 1) (n - 2 - t.delay)

/-- A word reduced to 16 bits (R276), with dither of at most 1 LSB where the output asks for it. -/
def word16 (dither : Option Nat) (w : Int) : Int :=
  let d : Rat := dither.elim 0 fun k => clampRat (-256) 256 (Config.dither k)
  clampInt (-32768) 32767 (roundHalfAway ((w + d) / 256))

/-- The words of a run of samples for readers of a rate (R276, R278, R284, R285): each with whether it is clipped and what goes with it,
on the bypass path the bits of the input word, on the main path the channel status that the device generates. `main` are the run's
internal samples and `line` those before them, newest first. -/
def State.runWords (s : State) (rate from_ : Nat) (vs : List Voice) (main line : List Rat) : List (Int × Bool × SideBits) :=
  vs.zipIdx.filterMap fun p =>
    let i := from_ + p.2
    if i % (96 / rate) != 0 then none
    else if p.1.tap.bypass then
      let w := s.bypassWord p.1.tap rate (i / (96 / rate))
      some (w.1, false, .carried w.2)
    else
      let w := if rate = 48 then
          let h := (main.take (p.2 + 1)).reverse ++ line
          if h.all (· == 0) then (0, false) else outWord ((Config.downsample h : Int) : Rat)
        else outWord (main.getD p.2 0)
      some (w.1, w.2, .generated true true 24 rate)

/-- An output passes over samples that it does not emit: a crossfade goes on. -/
def AOut.skip (x : AOut) (n : Nat) : AOut :=
  { x with fadePos := if x.old.isSome && n != 0 then min x.fadeLen (x.fadePos + n) else x.fadePos }

/-- The words of an output for a kind of reader with a run added, which ends before an index (R142). -/
def sentMore (l : List ((Nat × Nat) × Nat × List (Int × SideBits))) (r : Nat × Nat) (next : Nat) (ws : List (Int × SideBits)) :
    List ((Nat × Nat) × Nat × List (Int × SideBits)) :=
  (r, next, (ws.reverse ++ ((l.lookup r).getD (0, [])).2).take 512) :: l.filter fun p => p.1 != r

/-- A word of an output for a kind of reader, by its number at the reader's rate. -/
def AOut.sentWord (x : AOut) (r : Nat × Nat) (n : Nat) : Int × SideBits :=
  match x.sent.lookup r with
  | some (next, l) => if n < next then l.getD (next - 1 - n) (0, .carried 0) else (0, .carried 0)
  | none => (0, .carried 0)

/-- The words of a run leave for one kind of reader. -/
def State.sendWords (s : State) (ch : Nat) (r : Nat × Nat) (next : Nat) (ws : List (Int × SideBits)) : State :=
  (s.setAout ch { s.aout ch with sent := sentMore (s.aout ch).sent r next ws }).emit
    (.audio ch r.1 r.2 (ws.map (·.1)) (ws.map (·.2)))

/-- Free values have been used. -/
def State.drawn (s : State) (n : Nat) : State := { s with fresh := s.fresh + n }

/-- The words of a run for one kind of reader (R276): 16-bit readers take them reduced. -/
def State.serveReader (s : State) (ch : Nat) (r : Nat × Nat) (target : Nat) (ws : List (Int × SideBits)) : State :=
  let next := ceilDiv target (96 / r.1)
  if r.2 = 16 then
    let dither := s.b Obj.aoDither ch
    (s.sendWords ch r next (ws.zipIdx.map fun p =>
      (word16 (if dither then some (s.fresh + p.2) else none) p.1.1, p.1.2))).drawn (if dither then ws.length else 0)
  else s.sendWords ch r next ws

/-- Clipped words of an output (R276). -/
def State.clipped (s : State) (ch clips : Nat) : State :=
  if clips = 0 then s else (s.bump Obj.aoClipSamples ch clips).raiseLimited Ev.auClip (0x10000000 + ch) ch

/-- An output emits its samples up to an index (R276, R278, R284, R289): the words that leave for each kind of reader, its meters, and the
latency of the first sample of a metering period (R291). An output that has not emitted for more than two blocks begins one block
before. -/
def State.runOut (s : State) (ch target : Nat) : State :=
  let from_ := if (s.aout ch).pos + 32 < target then target - 16 else (s.aout ch).pos
  let x := (s.aout ch).skip (from_ - (s.aout ch).pos)
  if target ≤ from_ then s
  else
    let rate := s.aoRate ch
    let r := x.run (s.n Obj.aoFadeSamples ch) (s.aoBound ch) rate ((List.range (target - from_)).map (from_ + ·))
    let y := r.1
    let vs := r.2.1
    let main := vs.zipIdx.map fun p => s.voiceSample p.1 (s.n Obj.aoFadeShape ch == 1) rate (from_ + p.2)
    let own := s.runWords rate from_ vs main x.line
    let muted := !y.tap.bypass && (s.tapSample y.tap rate (target - 1)).2
    let line := (main.reverse ++ x.line).take 256
    let first := (vs.head?.map (·.tap)).getD x.tap
    let t := s.setAout ch { y with
      pos := target
      muted := muted
      line := line
      meter := x.meter.take (own.map (·.1)) (line.take 64) true
      first := some (x.first.getD ((s.audioOrigin first.source).1, s.tapLatency first rate)) }
    let t := (s.aoReaders ch).eraseDups.foldl (fun u r =>
      u.serveReader ch r target ((s.runWords r.1 from_ vs main x.line).map fun w => (w.1, w.2.2))) t
    let t := ((t.tapObjects ch).deferred ch r.2.2).muteEvent x.muted muted ch
    t.clipped ch (own.filter fun w => w.2.1).length

/-- An index at or after another one at which an output of a rate has a sample. -/
def onRate (rate index : Nat) : Nat := 96 / rate * ceilDiv index (96 / rate)

/-- TAP_CHANGE_START (R288, R290): a tap change whose time has come starts at the first sample at or after it, or waits for the running
crossfade. -/
def execTapChangeStart (dt output : Nat) (s : State) : Result :=
  actIf dt s (fun t => t.live && (t.aout output).due.elim false fun d => d.2 ≤ t.ptp) fun t =>
    let d := (t.aout output).due.elim 0 (·.2)
    (t.runOut output (onRate (t.aoRate output) (ceilDiv (96000 * d) 1000000000))).beginTap output

/-- A crossfade is done: a tap change that waits starts (R290). -/
def State.endFade (s : State) (ch : Nat) : State :=
  let x := s.aout ch
  if x.fading then s
  else match x.waiting with
    | some t => (s.setAout ch (x.start t (s.n Obj.aoFadeSamples ch) (s.aoBound ch))).tapObjects ch
    | none => s.setAout ch { x with old := none }

/-- CROSSFADE_END (R289, R290): the last sample of the crossfade has left; a waiting tap change starts at the next one. -/
def execCrossfadeEnd (dt output : Nat) (s : State) : Result :=
  actIf dt s (fun t =>
      let x := t.aout output
      t.live && x.old.isSome && 1000000000 * (x.pos + (x.fadeLen - x.fadePos)) ≤ 96000 * t.ptp) fun t =>
    let x := t.aout output
    (t.runOut output (onRate (t.aoRate output) (x.pos + (x.fadeLen - x.fadePos)))).endFade output

/-- One block of an output channel: its samples up to the block's boundary. -/
def State.outBlock (s : State) (ch : Nat) : State := (s.checkPath ch).runOut ch (16 * s.au.block)

/-- Whether the words of a channel reach Cornice: it is present, and a Tarn port delivers its slot. -/
def State.aiDelivers (s : State) (ch : Nat) : Bool :=
  s.aiPresent ch && match Objs.aiFeed s.objs ch with
    | (4, p, _) => s.tarnSlotOn p (ch - s.n Obj.tarnAiBase p)
    | _ => true

/-- The words of one channel for a block: those that wait, then those that the command gives; a channel that delivers nothing
brings zeros (R271, R322). A converter that tracks takes as many as the measured rate brings in a block (R277). -/
def State.inputBlock (s : State) (given : List (Nat × List Int)) (ch : Nat) : State :=
  let dev := if s.n Obj.aiConverter ch = 2 then s.i Obj.aiRateDeviation ch else 0
  let step := ((s.strip ch).frac + 8 * (1000000000 + dev)).toNat
  let n := if Objs.aiRate s.objs ch = 1 then step / 1000000000 else 16
  let w := if s.aiDelivers ch then
      ((s.strip ch).queue ++ ((given.lookup ch).getD []).map (clampInt (-8388608) 8388607)).take n else []
  let side := if s.aiDelivers ch then (s.strip ch).queueSide.take n else []
  (s.setStrip ch { s.strip ch with
    queue := if s.aiDelivers ch then (s.strip ch).queue.drop n else []
    queueSide := if s.aiDelivers ch then (s.strip ch).queueSide.drop n else []
    frac := if Objs.aiRate s.objs ch = 1 then step % 1000000000 else 0 }).stripBlock ch
    ((List.range n).map fun i => w.getD i 0) ((List.range n).map fun i => side.getD i 0)

/-- A block is the last one that has run. -/
def State.setBlock (s : State) (n : Nat) : State := { s with au := { s.au with block := n } }

/-- CORNICE_BLOCK (R274): one block of 16 samples, once at each block boundary. A block takes 8 words of a channel at 48 kHz and 16 of
one at 96 kHz: those that packets and Tarn frames have delivered, and `inputs`. Buses run in ascending order (R272). -/
def execCorniceBlock (dt : Nat) (inputs : List (Nat × List Int)) (s : State) : Result :=
  actIf dt s (fun t => t.live && t.au.block < t.blockNo) fun t =>
    let t := t.setBlock t.blockNo
    let given := inputs.filter fun p => p.1 ≤ 32767
    let chs := ((given.map (·.1)) ++ (t.au.strips.map (·.1))).eraseDups
    let t := chs.foldl (fun u ch => u.inputBlock given ch) t
    let ms := sortBy (fun (a b : Nat) => decide (a ≤ b)) (Objs.subs t.objs Obj.busInputSrc ++ t.au.buses.map (·.1)).eraseDups
    let t := ms.foldl State.busBlock t
    let outs := sortBy (fun (a b : Nat) => decide (a ≤ b)) (Objs.subs t.objs Obj.aoSource ++ t.au.outs.map (·.1)).eraseDups
    outs.foldl State.outBlock t

/-- The state of a 48 kHz input's converter (R277): each change raises AU_INPUT_RATE. -/
def State.setConverter (s : State) (ch st : Nat) : State :=
  if st = s.n Obj.aiConverter ch then s
  else if st = 0 then s.setN Obj.aiConverter ch st
  else (s.setN Obj.aiConverter ch st).raise Ev.auInputRate ch

/-- AU_INPUT_RATE (R277): the second's measurement of a 48 kHz input. -/
def execAuInputRate (dt channel : Nat) (ppb : Int) (s : State) : Result :=
  actIf dt s (fun t => t.live && channel ≤ 32767 && Objs.aiRate t.objs channel == 1 &&
      (t.strip channel).ratedAt + 1000000000 ≤ t.now) fun t =>
    let u := (t.setStrip channel { t.strip channel with ratedAt := t.now }).setI Obj.aiRateDeviation channel ppb
    u.setConverter channel (if ppb.natAbs ≤ 500 then 1 else if ppb.natAbs ≤ 1000000 then 2 else 3)

/-! ## Meters and loudness (R296, R297) -/

/-- A level in 0.01 dB relative to full scale, rounded down: −12,800 for silence and below −128 dB, at most +2,408. -/
def levelOf (full peak : Nat) : Int :=
  if peak = 0 then -12800 else clampInt (-12800) 2408 (2000 * log10 ((peak : Rat) / full)).floor

/-- 0 dBFS of the internal word, and of a 24-bit word. -/
def fullScale : Nat := 134217728

/-- A meter at the end of a period: the new hold. -/
def Meter.period (m : Meter) (now holdMs : Nat) : Meter :=
  if m.hold < m.peak || (holdMs != 0 && m.holdAt + 1000000 * holdMs ≤ now) then
    { m with hold := m.peak, holdAt := now, peak := 0 }
  else { m with peak := 0 }

/-- AoLatencyLast and AoOriginKind take those of the first sample of the metering period that ends (R291); a period without a sample
leaves them. A sample that leaves before its own origin has no latency that the spec states: a free value
(notes/assumptions/15.md). -/
def State.reportLatency (s : State) (ch : Nat) : State :=
  match (s.aout ch).first with
  | none => s
  | some (kind, v) =>
    let u := s.setAout ch { s.aout ch with first := none }
    let (lat, u) := if 0 ≤ v then (v.toNat, u) else u.draw
    (u.setN Obj.aoLatencyLast ch lat).setN Obj.aoOriginKind ch kind

/-- METER_PERIOD (R291, R296): 10 ms are over. -/
def execMeterPeriod (dt : Nat) (s : State) : Result :=
  actIf dt s State.live fun t =>
    let hold := t.n Obj.meterHoldTime 0
    let t := t.au.strips.foldl (fun u p =>
      let m := p.2.meter
      let m2 := m.period u.now hold
      ((u.setStrip p.1 { u.strip p.1 with meter := m2 }).setI Obj.aiPeak p.1 (levelOf fullScale m.peak)).setI Obj.aiPeakHold
        p.1 (levelOf fullScale m2.hold)) t
    let t := t.au.buses.foldl (fun u p =>
      let m := p.2.meter
      let m2 := m.period u.now hold
      (((u.setBus p.1 { u.bus p.1 with meter := m2 }).setI Obj.busPeak p.1 (levelOf fullScale m.peak)).setI Obj.busPeakHold
        p.1 (levelOf fullScale m2.hold)).setI Obj.busTruePeakMax p.1 (levelOf fullScale m2.truePeak)) t
    t.au.outs.foldl (fun u p =>
      let ch := p.1
      let m := p.2.meter
      let m2 := m.period u.now hold
      let u := (((u.setAout ch { u.aout ch with meter := m2 }).setI Obj.aoPeak ch (levelOf 8388608 m.peak)).setI Obj.aoPeakHold
        ch (levelOf 8388608 m2.hold)).setI Obj.aoTruePeakMax ch (levelOf fullScale m2.truePeak)
      u.reportLatency ch) t

/-- The mean square of a history over 3 s, K-weighted, relative to full scale (R297). -/
def meanSquare (h : List Int) : Rat :=
  ((List.range h.length).map fun i => (Config.kWeighted h i / fullScale) ^ 2).sum / histLen

/-- Σ G_i z_i of members (R297): weight code 1 for 1.0, 2 for 1.41. -/
def loudSum (members : List (Nat × List Int)) : Rat :=
  (members.map fun (m : Nat × List Int) => (if m.1 = 2 then 141 / 100 else 1) * meanSquare m.2).sum

/-- Short-term loudness in 0.01 LUFS (R297); −12,800 below −70 LUFS. -/
def loudnessOf (members : List (Nat × List Int)) : Int :=
  let z := loudSum members
  if z ≤ 0 then -12800
  else
    let v := 100 * (-691 / 1000 + 10 * log10 z)
    if v < -7000 then -12800 else clampInt (-12800) 32767 (roundRat v)

/-- LOUDNESS_UPDATE (R297): the loudness of a group, every 100 ms. -/
def execLoudnessUpdate (dt group : Nat) (s : State) : Result :=
  actIf dt s (fun t => t.live && group ≤ 255) fun t =>
    let members := (chunksOf 5 24 (t.by Obj.loudMembers group)).filterMap fun c =>
      let w := fromBe (c.drop 4)
      if w = 0 then none else some (w, (t.history (fromBe (c.take 4))).1)
    let silent := members.all fun m => m.2.all (· == 0)
    let v := if silent then -12800 else loudnessOf members
    let u := t.setI Obj.loudShortTerm group v
    let u := u.setI Obj.loudShortTermMax group (max v (u.i Obj.loudShortTermMax group))
    let limit := u.i Obj.loudLimit group
    let excess := u.au.loudOver.contains group
    if limit != 0x7FFF && limit < v then
      if excess then u else { u with au := { u.au with loudOver := group :: u.au.loudOver } }.raise Ev.auLoudOver group
    else if excess && v + 100 ≤ limit then { u with au := { u.au with loudOver := u.au.loudOver.filter (· != group) } }
    else u

/-- The clears of a strip's, bus's or output's meter (R296): the held value and the largest true peak. -/
def Meter.cleared (m : Meter) : Meter := { m with hold := 0, truePeak := 0 }

/-! ## Commit (R273, R277, R288, R293) -/

/-- Audio feeds follow a configuration: AiFeed, AiRateIn, AiConverter of the channels that were or are fed. -/
def State.refreshInputs (s : State) (old : Objs) : State :=
  let chs := ((Objs.audioFeeds s.objs ++ Objs.audioFeeds old).flatMap (·.2)).eraseDups
  chs.foldl (fun t ch =>
    let f := Objs.aiFeed t.objs ch
    let r := Objs.aiRate t.objs ch
    if f = Objs.aiFeed old ch && r = t.n Obj.aiRateIn ch && f.1 = t.n Obj.aiFeed ch then t
    else
      let u := (t.setN Obj.aiFeed ch f.1).setN Obj.aiRateIn ch r
      let u := (u.setConverter ch (if r = 1 then 2 else 0)).toDefault Obj.aiRateDeviation ch
      (u.toDefault Obj.aiNonAudio ch).setStrip ch { u.strip ch with queue := [], queueSide := [], frac := 0, ratedAt := u.now }) s

/-- A commit reaches the outputs: tap changes fall due (R288, R293). A new reserve is none: it acts on the next bind delay. -/
def State.corniceCommit (s : State) (old : Objs) (boundary : Nat) : State :=
  let s := s.refreshInputs old
  let touched := ((s.objs ++ old).filterMap fun p =>
    let i := adrIndex p.1
    if (i = Obj.aoSource || i = Obj.aoPath || i = Obj.aoBindDst) &&
      Objs.val old p.1 != Objs.val s.objs p.1 then some (adrSub p.1) else none).eraseDups
  touched.foldl (fun t ch =>
    let x := t.aout ch
    let bound := t.n Obj.aoBindDst ch != 0xFFFF
    let rebound := Objs.n old Obj.aoBindDst ch != t.n Obj.aoBindDst ch
    if bound then
      let u := if rebound then t.setN Obj.aoBindState ch 1 else t
      u.setAout ch { x with recut := some boundary }
    else
      let u := if rebound then ((t.setN Obj.aoBindState ch 0).setN Obj.aoBindDelay ch 0).toDefault Obj.aoLipSyncError ch else t
      u.setAout ch { x with due := some (u.wantedTap ch 0, boundary), toMain := none, recut := none }) s

/-- Bytes that a bound output reserves (R295). -/
def Objs.bindBytes (c : Objs) (ch : Nat) : Nat :=
  if Objs.n c Obj.aoBindDst ch = 0xFFFF then 0 else 2 * (Objs.n c Obj.aoDelayReserve ch * 96) * 4

/-- The delay pool of a configuration (R295). -/
def Objs.delayPool (c : Objs) : Nat := ((Objs.subs c Obj.aoBindDst).map (Objs.bindBytes c)).sum

end Sys2Proof.Machine
end

