-- ==== Sys2Proof/Machine/Moraine.lean ====
section
/-!
DEFINITION. The Moraine store (chapter 14): drives, pool, delay lines, records, playbacks and the state journal; and the output
frames that flows and Moraine hold on their way.
-/
namespace Sys2Proof.Machine

/-! ## Drives and the pool (R422 to R427) -/

/-- A drive. -/
def State.drive (s : State) (d : Nat) : Drive := look s.mor.drives d {}

/-- A drive replaced. -/
def State.setDrive (s : State) (d : Nat) (x : Drive) : State :=
  { s with mor := { s.mor with drives := put s.mor.drives d x } }

/-- A clip. -/
def State.clip (s : State) (c : Nat) : Clip := look s.mor.clips c {}

/-- A clip replaced. -/
def State.setClip (s : State) (c : Nat) (x : Clip) : State :=
  { s with mor := { s.mor with clips := put s.mor.clips c x } }

/-- A delay line. -/
def State.line (s : State) (l : Nat) : DelayLine := look s.mor.delays l {}

/-- A delay line replaced; DlyStored follows. -/
def State.setLine (s : State) (l : Nat) (x : DelayLine) : State :=
  { s with mor := { s.mor with delays := put s.mor.delays l x } }.setN Obj.dlyStored l x.ring.length

/-- A record. -/
def State.recorder (s : State) (r : Nat) : Recorder := look s.mor.records r {}

/-- A record replaced. -/
def State.setRecorder (s : State) (r : Nat) (x : Recorder) : State :=
  { s with mor := { s.mor with records := put s.mor.records r x } }

/-- A playback. -/
def State.player (s : State) (p : Nat) : Player := look s.mor.plays p {}

/-- A playback replaced. -/
def State.setPlayer (s : State) (p : Nat) (x : Player) : State :=
  { s with mor := { s.mor with plays := put s.mor.plays p x } }

/-- Whether the pool is READY. -/
def State.poolReady (s : State) : Bool := s.n Obj.morPoolState 0 == 1

/-- The extents of a drive of a size in bytes (R426). -/
def driveExtents (journalBytes bytes : Nat) : Nat := (bytes - 8388608 - journalBytes) / 2097152

/-- The extents of the pool (R426). -/
def State.poolExtents (s : State) : Nat :=
  match s.mor.pool.map fun d => driveExtents s.mor.diskJournalBytes (s.n Obj.morDriveCapacity d) with
  | [] => 0
  | e :: l => min (s.mor.pool.length * l.foldl min e) 7629394

/-- The drive rate that R430 counts: MorDriveRate, or the rate of the trained link. -/
def driveRate (rate link : Nat) : Nat :=
  if rate != 0 then rate
  else match field link 0 3 with
    | 5 => 3500000000 * field link 4 8
    | 4 => 1750000000 * field link 4 8
    | 3 => 875000000 * field link 4 8
    | _ => 0

/-- MOR_LATE, at most once per second per stream (R438): delay line l is stream l, record r is 256 + r, playback p is
512 + p (notes/assumptions/31.md). -/
def State.morLate (s : State) (stream : Nat) : State := s.raiseLimited Ev.morLate stream stream

/-- A data error of a drive that a retry has not mended (R439). -/
def State.mediaError (s : State) (d : Nat) : State :=
  (s.bump Obj.morMediaErrors d).raiseLimited Ev.morMediaError 0 d

/-! ## Records (R434, R438) -/

/-- A record ends: its clip is COMPLETE, or DAMAGED where the pool went DOWN (R440). -/
def State.endRecord (s : State) (r state : Nat) : State :=
  let x := s.recorder r
  let t := s.setClip x.clip { s.clip x.clip with state := state }
  ((t.setRecorder r {}).setN Obj.recState r 2).raise Ev.morRecordEnd r

/-- The frames that found staging full take their place in the clip once the frames before them have. -/
def drainMissing : List (Option MFrame) → List (Option MFrame) × List (Option MFrame)
  | none :: l => let p := drainMissing l; (none :: p.1, p.2)
  | l => ([], l)

/-- The clip takes what is due; a record that has stopped ends with its last staged frame. -/
def State.drainRecord (s : State) (r : Nat) : State :=
  let x := s.recorder r
  let p := drainMissing x.staged
  let c := s.clip x.clip
  let t := (s.setClip x.clip { c with frames := c.frames ++ p.1 }).setRecorder r { x with staged := p.2 }
  if x.stopping && p.2.isEmpty then t.endRecord r 2 else t

/-- The output frame of a destination as a stored frame with its side data. -/
def Shown.toStored (x : Shown) (index : Nat) : MFrame := ⟨index, x.read, x.kind, x.origin, x.stages, x.pic, x.anc⟩

/-- A record takes the output frame of its destination (R434, R438). -/
def State.recordFrame (s : State) (r dst align : Nat) : State :=
  let x := s.recorder r
  if !x.running || x.stopping || align < x.from_ || !s.poolReady then s
  else
    match (s.dst dst).shown with
    | none => s
    | some f =>
      let c := s.clip x.clip
      let first := c.frames.isEmpty && x.staged.isEmpty
      let s1 := if first then s.setClip x.clip { c with recordedAt := align / tcNs } else s
      let full := 4 ≤ (x.staged.filter (·.isSome)).length
      let entry := if full then none else some (f.toStored 0)
      let staged := x.staged ++ [entry]
      let s2 := s1.setRecorder r { x with staged := staged, stopping := x.most ≤ c.frames.length + staged.length }
      let s3 := if full then (s2.bump Obj.recLateFrames r).morLate (256 + r) else s2
      s3.drainRecord r

/-- The stored frames of a read start, with the picture and the packets that its output frame now has (R18, R169, R175). -/
def MFrame.renew (read : Nat) (x : Shown) (f : MFrame) : MFrame :=
  if f.read = read then { f with pic := x.pic, anc := x.anc } else f

/-- A record takes what has changed in the output frame that it holds: staged, or stored already. -/
def State.renewRecord (s : State) (r : Nat) (x : Shown) : State :=
  let y := s.recorder r
  let one := fun (f : Option MFrame) => f.map (MFrame.renew x.read x)
  let c := s.clip y.clip
  if y.running then
    (s.setRecorder r { y with staged := y.staged.map one }).setClip y.clip { c with frames := c.frames.map one }
  else s

/-- The oldest staged frame of a record is stored, or missing after an error (R438, R439). -/
def State.recordStored (s : State) (r d : Nat) (ok : Bool) : State :=
  let x := s.recorder r
  match x.staged with
  | some f :: l =>
    let c := s.clip x.clip
    let t := (s.setClip x.clip { c with frames := c.frames ++ [if ok then some f else none] }).setRecorder r { x with staged := l }
    let t := if ok then t else t.mediaError d
    t.drainRecord r
  | _ => s

/-- A record starts into an EMPTY clip at a boundary (R434). The drive of its first extent is the pool's choice, which the
spec leaves open: a free value. -/
def State.startRecord (s : State) (r boundary : Nat) : State :=
  let c := s.n Obj.recClip r
  if (s.clip c).state != 0 || !s.poolReady || (s.recorder r).running then s
  else
    let (d, t) := s.draw
    let u := t.setClip c
      { state := 1
        format := t.n Obj.dstReservedFormat (t.n Obj.recDst r)
        drive := d % t.mor.pool.length }
    (u.setRecorder r
      { running := true
        from_ := boundary
        clip := c
        most := u.n Obj.recMaxFrames r }).setN Obj.recState r 1

/-- A record stops: it ends at once, or with the last of its staged frames. -/
def State.stopRecord (s : State) (r : Nat) : State :=
  let x := s.recorder r
  if x.running then (s.setRecorder r { x with stopping := true }).drainRecord r else s

/-! ## Delay lines (R431 to R433) -/

/-- A delay line takes the output frame of its destination (R431, R438). -/
def State.delayFrame (s : State) (l dst align : Nat) : State :=
  if !s.poolReady then s
  else
    match (s.dst dst).shown with
    | none => s
    | some f =>
      let x := s.line l
      let k := alignIndex (s.dstFormat dst) (s.n Obj.dstTimingOffset dst) align
      if 4 ≤ x.staged.length then (s.bump Obj.dlyLateFrames l).morLate l
      else s.setLine l { x with staged := x.staged ++ [{ f.toStored k with read := align / tcNs }] }

/-- A delay line takes what has changed in the output frame that it holds. -/
def State.renewDelay (s : State) (l : Nat) (x : Shown) : State :=
  let y := s.line l
  let one := MFrame.renew (x.align / tcNs) x
  s.setLine l { y with staged := y.staged.map one, ring := y.ring.map one }

/-! ## Output frames on their way (R18, R136, R140, R169, R175) -/

/-- The pictures of the links of a quad-link output (R59); a single link has none. -/
def linkPics (division : Nat) (pic : Pic) : List Pic := if division = 0 then [] else (List.range 4).map (Pic.link pic division)

/-- An SDI output frame with another picture. -/
def SdiOut.repaint (o : SdiOut) (pic : Pic) : SdiOut := { o with pic := pic, links := linkPics o.division pic }

/-- The frame that a flow is sending, and the one that it was sending before a TAKE, where each is the output frame of an alignment
point, with what has changed in it. -/
def TxEntry.renew (y : TxEntry) (now before : Bool) (x : Shown) (f : SdiOut → SdiOut) : TxEntry :=
  let mine := fun (z : Option Shown) => z.elim false fun z => z.align == x.align
  let here := now && mine y.shown
  { y with
    shown := if here then some x else y.shown
    sdi := if here then y.sdi.map f else y.sdi
    heldRun := y.heldRun.map fun r =>
      if before && mine r.shown then { r with shown := some x, sdi := r.sdi.map f } else r }

/-- The flows of a destination take what has changed in the output frame that they send. -/
def State.renewTx (s : State) (d : Nat) (x : Shown) (f : SdiOut → SdiOut) : State :=
  s.media.tx.foldl (fun t p =>
    t.setTxe p.1 (p.2.renew (s.n Obj.txSource p.1 == d) (Objs.n p.2.held Obj.txSource p.1 == d) x f)) s

/-- The output frame of a destination has changed while it is read: what sends or stores it goes on with the change. -/
def State.reshow (s : State) (d : Nat) (x : Shown) (f : SdiOut → SdiOut) : State :=
  let t := s.setDst d { s.dst d with shown := some x }
  match Objs.sink t.objs d with
  | .record r => t.renewRecord r x
  | .delay l => t.renewDelay l x
  | .tx _ => t.renewTx d x f
  | _ => t

/-- An output frame whose picture has changed while it is read: an SDI output that has begun to send it goes on with the rest (R169,
R175). -/
def State.repaint (s : State) (d : Nat) (x : Shown) : State :=
  let t := s.reshow d x fun o => o.repaint x.pic
  match Objs.sink t.objs d with
  | .sdi lane =>
    if x.emitted then
      t.emit (.sdiRest lane x.pic (linkPics (if carriageQuad (t.n Obj.sdiTxCarriage lane) then t.n Obj.txQuadDivision lane else 0)
        x.pic))
    else t
  | _ => t

/-- A picture with another in the place of one that it rests on. -/
def Pic.swap (old new : Pic) : Pic → Pic
  | .partialOf newer older line => .partialOf (Pic.swap old new newer) older line
  | .concealed base other line block => .concealed (Pic.swap old new base) other line block
  | p => if p = old then new else p

/-- What a stored frame holds has changed (R113, R175): the destinations that read it go on with the change. -/
def State.amendPic (s : State) (slot seq : Nat) (f : Pic → Pic) : State :=
  match (s.src slot).frames.find? fun g => g.seq == seq with
  | none => s
  | some g =>
    if f g.pic = g.pic then s
    else
      let t := s.setSrc slot ((s.src slot).mapFrame seq fun h => { h with pic := f h.pic })
      t.ridge.dst.foldl (fun u y => match y.2.shown with
        | some x => if x.store = some (slot, seq) then u.repaint y.1 { x with pic := Pic.swap g.pic (f g.pic) x.pic } else u
        | none => u) t

/-- Frame k of a delay line is stored; it overwrites the frame DlyCapacity + 2 before it (R432). -/
def State.delayStored (s : State) (l k d : Nat) (ok : Bool) : State :=
  let x := s.line l
  match x.staged.find? fun f => f.index == k with
  | some f =>
    let rest := x.staged.filter fun g => g.index != k
    let room := s.n Obj.dlyCapacity l + 2
    let kept := x.ring.filter fun g => k < g.index + room
    let t := s.setLine l { x with staged := rest, ring := if ok then f :: kept else kept }
    if ok then t else t.mediaError d
  | none => s

/-- A delay line's ring is emptied (R432, R440), and its slot unlocked. -/
def State.emptyRing (s : State) (l : Nat) : State :=
  let t := s.setLine l {}
  { t with mor := { t.mor with dlyLive := t.mor.dlyLive.filter (· != l) } }

/-! ## The pool's state (R427, R440) -/

/-- The slots that delay lines and playbacks feed. -/
def State.morSlots (s : State) : List Nat :=
  (Objs.delays s.objs).map (s.n Obj.dlySlot) ++ (Objs.plays s.objs).map (s.n Obj.playSlot)

/-- The pool goes DOWN: every stream stops (R440). -/
def State.poolDown (s : State) : State :=
  let running := (s.mor.records.filter fun x => x.2.running).map fun (x : Nat × Recorder) => x.1
  let s1 := running.foldl (fun t r => t.endRecord r 3) s
  let s2 := (s1.mor.delays.map fun (x : Nat × DelayLine) => x.1).foldl State.emptyRing s1
  let s3 := { s2 with mor := { s2.mor with
    playLive := []
    plays := s2.mor.plays.map fun (x : Nat × Player) => (x.1, { x.2 with last := none, fetched := [] }) } }
  s3.refreshSlots s3.morSlots

/-- A playback starts at PlayStartFrame with the first grid point at or after a boundary (R435). -/
def State.startPlay (s : State) (p boundary : Nat) : State :=
  s.setPlayer p
    { s.player p with
      start := some boundary
      fetched := []
      ended := false }

/-- The pool is READY: playbacks resume at PlayStartFrame (R440). -/
def State.poolUp (s : State) : State :=
  let t := s.setN Obj.morPoolExtents 0 s.poolExtents
  ((Objs.plays t.objs).filter fun p => t.b Obj.playRun p).foldl (fun u p => u.startPlay p u.ptp) t

/-- The pool's state follows its drives; each change raises MOR_POOL_STATE (R427). A restart's record waits for the pool. -/
def State.refreshPool (s : State) : State :=
  let v : Nat := if s.mor.poolId.isNone then 0
    else if s.mor.pool.all fun d => s.n Obj.morDriveState d == 1 then 1 else 2
  let s0 := match s.mor.restart with
    | some c =>
      if s.mor.pool.any fun d => s.n Obj.morDriveState d == 1 then
        { s with mor := { s.mor with restart := none } }.journal 4 (beBytes 2 c ++ zeros 38)
      else s
    | none => s
  let old := s0.n Obj.morPoolState 0
  if v = old then s0
  else
    let t := s0.setN Obj.morPoolState 0 v
    let u := if v = 1 then t.poolUp else if old == 1 then t.poolDown else t
    (u.raise Ev.morPoolState v).setReason 7 (v == 2)

/-- A restart is journalled (R441), now or once the pool has a drive. -/
def State.journalRestart (s : State) (cause : Nat) : State :=
  { s with mor := { s.mor with restart := some cause } }.refreshPool

/-- Whether a clip has an extent on a drive: extent j of a stream lies on the drive j places after its first (R426). -/
def State.clipOn (s : State) (c : Clip) (d : Nat) : Bool :=
  let n := s.mor.pool.length
  match s.mor.pool.idxOf? d with
  | some i => (i + n - c.drive) % n < Sys2Proof.Machine.poolExtents c.format c.frames.length
  | none => false

/-- A drive is lost (R424): PERST_N is asserted, and a pool that held it goes DOWN (R440). -/
def State.driveLost (s : State) (d : Nat) : State :=
  let t := s.setDrive d { s.drive d with present := false, held := true, triedAt := s.now }
  let t := (t.setN Obj.morDriveState d 2).setN Obj.morDriveLink d 0
  let t := (t.emit (.pin .pciePerst d 0)).raise Ev.morDriveLost d
  let ready := t.poolReady
  let hit := t.mor.pool.contains d
  let u := t.refreshPool
  if ready && hit then
    { u with mor := { u.mor with clips := u.mor.clips.map fun (x : Nat × Clip) =>
        (x.1, if x.2.state != 0 && u.clipOn x.2 d then { x.2 with state := 3 } else x.2) } }
  else u

/-- Drives that a link mode has (R422). -/
def linkDrives (mode : Nat) : Nat := if mode = 0 then 1 else if mode = 1 then 2 else 4

/-- A pool is formed from an identity and a drive set (R427). The clips and the journal that the model holds are those of
the pool that it last held; another pool's stand on its drives and are not modelled (notes/assumptions/32.md). -/
def State.formPool (s : State) (ident : Nat) (set : List Nat) : State :=
  let same := s.mor.diskId == some ident
  { s with mor := { s.mor with
    poolId := some ident
    pool := set
    diskId := some ident
    diskJournalBytes := if same then s.mor.diskJournalBytes else s.n Obj.morJournalBytes 0
    clips := if same then s.mor.clips else []
    journal := if same then s.mor.journal else []
    journalSeq := if same then s.mor.journalSeq else 0 } }

/-! ## The commands of the drives -/

/-- MOR_DRIVE_LOST (R424). -/
def execMorDriveLost (dt drive : Nat) (s : State) : Result :=
  actIf dt s (fun t => (t.drive drive).present) fun t => t.driveLost drive

/-- MOR_DRIVE_RETRY (R424): PERST_N of a lost drive is released after 100 ms, and pulsed again every 10 s. -/
def execMorDriveRetry (dt drive : Nat) (s : State) : Result :=
  actIf dt s (fun t => t.n Obj.morDriveState drive == 2) fun t =>
    let x := t.drive drive
    if x.held then
      if x.triedAt + 100000000 ≤ t.now then
        (t.setDrive drive { x with held := false, triedAt := t.now }).emit (.pin .pciePerst drive 1)
      else t
    else if x.triedAt + 10000000000 ≤ t.now then
      (t.setDrive drive { x with held := true, triedAt := t.now }).emit (.pin .pciePerst drive 0)
    else t

/-- MOR_DRIVE_UP (R423, R424, R427): a drive's link has trained and its controller is identified. -/
def execMorDriveUp (dt drive rate width capacity : Nat) (nvme : Bool) (label : Option (Nat × List Nat)) (s : State) : Result :=
  actIf dt s (fun t => !(t.drive drive).present && !(t.drive drive).held &&
      drive < linkDrives (t.n Obj.morLinkMode 0)) fun t =>
    let lost := t.n Obj.morDriveState drive == 2
    let lbl := if nvme then label else none
    let t := t.setDrive drive { t.drive drive with present := true, nvme := nvme, label := lbl, polledAt := none }
    let t := (t.setN Obj.morDriveLink drive (rate % 16 + 16 * (width % 32))).setN Obj.morDriveCapacity drive capacity
    let t := match lbl with
      | some (ident, set) => if t.mor.poolId.isNone then t.formPool ident set else t
      | none => t
    let mine := (lbl.map (·.1)).isSome && lbl.map (·.1) == t.mor.poolId && t.mor.pool.contains drive
    let t := t.setN Obj.morDriveState drive (if mine then 1 else 3)
    let t := if nvme then t else t.emit (.pin .pciePerst drive 0)
    let t := if lost then t.raise Ev.morDriveUp drive else t
    t.refreshPool

/-- SMART_POLL (R423, R424): the SMART log is read every 60 s. -/
def execSmartPoll (dt drive warning used : Nat) (s : State) : Result :=
  actIf dt s (fun t => (t.drive drive).present && (t.drive drive).nvme &&
      ((t.drive drive).polledAt.elim true fun a => a + 60000000000 ≤ t.now)) fun t =>
    let old := field (t.n Obj.morDriveHealth drive) 0 7
    let u := (t.setDrive drive { t.drive drive with polledAt := some t.now }).setN Obj.morDriveHealth drive
      (warning % 256 + 256 * (used % 256))
    if warning % 256 != 0 && warning % 256 != old then u.raise Ev.morDriveWarning drive else u

/-- NVME_COMPLETION (R423, R424, R429, R438, R439): a command completes, with its one retry. -/
def execNvmeCompletion (dt drive : Nat) (job : NvmeJob) (ok : Bool) (s : State) : Result :=
  actIf dt s (fun t => (t.drive drive).present && t.poolReady) fun t =>
    match job with
    | .recordFrame r => t.recordStored r drive ok
    | .delayStore l k => t.delayStored l k drive ok
    | .playStage p frame =>
      if !ok then t.mediaError drive
      else
        let x := t.player p
        t.setPlayer p { x with fetched := (frame :: x.fetched.filter (· != frame)).take 4 }
    | .delayStage l k =>
      if !ok then t.mediaError drive
      else
        let x := t.line l
        if x.ring.any fun f => f.index == k then
          t.setLine l { x with fetched := (k :: x.fetched.filter (· != k)).take 4 }
        else t
    | .journal => t
    | .metadata => if ok then t else t.driveLost drive

/-! ## Writing slots (R431, R435, R436) -/

/-- A frame of a read stream is written into its slot at a grid point. -/
def State.writeStored (s : State) (slot k w kind origin : Nat) (stages : List (Nat × Nat)) (pic : Pic) (anc : List Anc) : State :=
  let f := s.n Obj.srcReservedFormat slot
  let u := (s.refreshSlot slot).startFrame slot
    (newFrame f kind origin stages w (fun _ => pic) 0 (some (w + fmtPeriodNs f)) anc)
  u.setSrc slot { u.src slot with generatorAt := some k }

/-- A playback writes a clip frame. -/
def State.playWrite (s : State) (p slot k w : Nat) (m : MFrame) : State :=
  let live := if s.mor.playLive.contains p then s.mor.playLive else p :: s.mor.playLive
  { s with mor := { s.mor with playLive := live } }.writeStored slot k w 3 w [] m.pic m.anc

/-- The frame last written is written again; before the first one nothing is. -/
def State.playRepeat (s : State) (p slot k w : Nat) : State :=
  match (s.player p).last with
  | some (_, m) => s.playWrite p slot k w m
  | none => s

/-- The clip frame that is due at a grid point, and the playback beyond it. -/
def State.playFrame (s : State) (p slot k w target : Nat) : State :=
  let x := s.player p
  let c := s.clip (s.n Obj.playClip p)
  let n := c.frames.length
  let loop := s.n Obj.playMode p = 1 && c.state != 1 && n != 0
  let at_ := if loop && n ≤ target then target % n else target
  match c.frames[at_]? with
  | some (some m) =>
    let t := s.setPlayer p { x with start := none, next := at_ + 1 }
    if x.fetched.contains at_ || x.last.map (·.1) == some at_ then
      let u := t.setPlayer p { t.player p with last := some (at_, m), fetched := x.fetched.filter (· != at_) }
      (u.setN Obj.playPosition p at_).playWrite p slot k w m
    else (t.bump Obj.playLateFrames p).morLate (512 + p)
  | some none => (s.setPlayer p { x with start := none, next := at_ + 1 }).playRepeat p slot k w
  | none =>
    let t := s.setPlayer p { x with start := none, next := at_ }
    if c.state = 1 then (t.bump Obj.playLateFrames p).playRepeat p slot k w
    else if n = 0 then t
    else
      let u := if x.ended then t else (t.setPlayer p { t.player p with ended := true }).raise Ev.morPlayEnd p
      u.playRepeat p slot k w

/-- PLAYBACK_FRAME_WRITE (R435, R436, R438): one frame per grid point of the slot's reserved format. -/
def execPlaybackFrameWrite (dt p : Nat) (s : State) : Result :=
  actIf dt s (fun t => t.live && t.b Obj.playEnable p && t.poolReady) fun t =>
    let slot := t.n Obj.playSlot p
    let f := t.n Obj.srcReservedFormat slot
    let k := gridIndex (fmtPeriod f) t.tc
    if f = 0 || (t.src slot).generatorAt = some k then t
    else
      let w := gridPoint (fmtPeriod f) k / tcNs
      let t := t.setSrc slot { t.src slot with generatorAt := some k }
      let x := t.player p
      if !t.b Obj.playRun p then t.playRepeat p slot k w
      else match x.start with
        | some b => if b ≤ w then t.playFrame p slot k w (t.n Obj.playStartFrame p) else t.playRepeat p slot k w
        | none => t.playFrame p slot k w x.next

/-- DELAY_FRAME_WRITE (R431, R433, R438): the line writes input frame j - DlyFrames at grid point j. -/
def execDelayFrameWrite (dt l : Nat) (s : State) : Result :=
  actIf dt s (fun t => t.live && t.b Obj.dlyEnable l && t.poolReady) fun t =>
    let slot := t.n Obj.dlySlot l
    let f := t.n Obj.srcReservedFormat slot
    let off := t.n Obj.dstTimingOffset (t.n Obj.dlyDst l)
    let j := alignIndex f off t.tc
    if f = 0 || (t.src slot).generatorAt = some j then t
    else
      let w := alignPoint f off j / tcNs
      let t := t.setSrc slot { t.src slot with generatorAt := some j }
      let k := j - t.n Obj.dlyFrames l
      let x := t.line l
      let live := t.mor.dlyLive.filter (· != l)
      match x.ring.find? fun g => g.index == k && t.n Obj.dlyFrames l ≤ j with
      | none => { t with mor := { t.mor with dlyLive := live } }.refreshSlot slot
      | some m =>
        let u := { t with mor := { t.mor with dlyLive := l :: live } }
        if x.fetched.contains k then
          let u := u.setLine l { x with fetched := x.fetched.filter (· != k) }
          u.writeStored slot j w m.kind m.origin (m.stages ++ [(6, m.read)]) m.pic m.anc
        else ((u.refreshSlot slot).bump Obj.dlyLateFrames l).morLate l

/-! ## Takes (R432, R434, R435) -/

/-- Whether an object differs between two configurations. -/
def Objs.differs (a b : Objs) (index sub : Nat) : Bool := Objs.val a (adr index sub) != Objs.val b (adr index sub)

/-- A TAKE at a boundary meets the streams: rings whose line changed are emptied, records and playbacks start and stop. -/
def State.morCommit (s : State) (old : Objs) (changes : List Change) (boundary : Nat) : State :=
  let sets := fun (i n : Nat) => changes.any fun c => c.addr == adr i n && c.val == .num 1
  let s1 := (List.range 64).foldl (fun t l =>
    if [Obj.dlyEnable, Obj.dlyDst, Obj.dlySlot, Obj.dlyCapacity].any fun i => Objs.differs old t.objs i l then t.emptyRing l
    else t) s
  let s2 := (List.range 64).foldl (fun t r =>
    let moved := [Obj.recEnable, Obj.recDst, Obj.recClip].any fun i => Objs.differs old t.objs i r
    let on := t.b Obj.recEnable r && t.b Obj.recRun r
    let u := if moved || !on then t.stopRecord r else t
    let u := if moved && !(u.recorder r).running then u.setN Obj.recState r 0 else u
    if on && (moved || sets Obj.recRun r) then u.startRecord r boundary else u) s1
  (List.range 64).foldl (fun t p =>
    let moved := [Obj.playEnable, Obj.playSlot, Obj.playClip].any fun i => Objs.differs old t.objs i p
    let on := t.b Obj.playEnable p
    let t := if on && !(moved && Objs.differs old t.objs Obj.playEnable p || Objs.differs old t.objs Obj.playSlot p) then t
      else { t with mor := { t.mor with playLive := t.mor.playLive.filter (· != p), plays := del t.mor.plays p } }
    if on && t.b Obj.playRun p && (moved || sets Obj.playRun p) then t.startPlay p (boundary / tcNs) else t) s2

/-! ## Writes (R425, R437) and charges (R430) -/

/-- The configuration in force, and the projection with each ARMED or PENDING salvo. -/
def State.configs (s : State) : List Objs :=
  s.objs :: s.heldSalvos.map fun x => Objs.overlay (s.projection x.1) x.2.changes

/-- The clips that the records and playbacks of a configuration name, enabled or not (R437). -/
def Objs.namedClips (c : Objs) : List Nat :=
  ((List.range 64).map (Objs.n c Obj.recClip) ++ (List.range 64).map (Objs.n c Obj.playClip)).filter (· < 4096)

/-- Whether any Moraine stream is enabled, or any clip named (R425, R437). -/
def State.morInUse (s : State) : Bool :=
  s.configs.any fun c =>
    !(Objs.delays c).isEmpty || !(Objs.records c).isEmpty || !(Objs.plays c).isEmpty || !(Objs.namedClips c).isEmpty

/-- Whether a record or playback names a clip (R437). -/
def State.clipInUse (s : State) (n : Nat) : Bool := s.configs.any fun c => (Objs.namedClips c).contains n

/-- MorFormat builds a pool from the present drives (R425). Its identity is a free value. -/
def State.morFormat (s : State) : State :=
  let set := (List.range 4).filter fun d => (s.drive d).present && (s.drive d).nvme
  let (ident, t) := s.draw
  let u := { t with mor := { t.mor with
    poolId := if set.isEmpty then none else some ident
    pool := set
    diskId := some ident
    diskJournalBytes := t.n Obj.morJournalBytes 0
    clips := []
    journal := []
    journalSeq := 0
    delays := []
    records := []
    plays := [] } }
  let u := set.foldl (fun v d => (v.setDrive d { v.drive d with label := some (ident, set) }).setN Obj.morDriveState d 1) u
  let u := (List.range 64).foldl (fun v i => (v.setN Obj.dlyStored i 0).setN Obj.recState i 0) u
  let u := u.refreshPool
  u.setN Obj.morPoolExtents 0 u.poolExtents

/-- ClipDelete releases a clip (R437). -/
def State.clipDelete (s : State) (c : Nat) : State := { s with mor := { s.mor with clips := del s.mor.clips c } }

/-- The extents of a clip that is not EMPTY and that no record holds. -/
def Clip.extents (c : Clip) : Nat :=
  if c.state = 0 || c.state = 1 then 0 else Sys2Proof.Machine.poolExtents c.format c.frames.length

/-- The extents of a record that is not complete: RecMaxFrames (R430). -/
def State.recExtents (s : State) (c : Objs) (r : Nat) : Nat :=
  if 2 ≤ (s.clip (Objs.n c Obj.recClip r)).state then 0
  else Sys2Proof.Machine.poolExtents (Objs.n c Obj.dstReservedFormat (Objs.n c Obj.recDst r)) (Objs.n c Obj.recMaxFrames r)

/-- The extents that clips hold. -/
def State.clipExtents (s : State) : Nat := (s.mor.clips.map fun (x : Nat × Clip) => x.2.extents).sum

/-- Extents in force. -/
def State.extentsUsed (s : State) : Nat :=
  s.clipExtents + ((Objs.delays s.objs).map (Objs.ringExtents s.objs)).sum + ((Objs.records s.objs).map (s.recExtents s.objs)).sum

/-- What a configuration adds to the extents of another: allocations that are new or larger count beside those they
replace (R430). -/
def State.extentsAdded (s : State) (old new : Objs) : Nat :=
  ((Objs.delays new).map fun l =>
    let b := Objs.ringExtents new l
    let same := Objs.b old Obj.dlyEnable l && Objs.n old Obj.dlyDst l == Objs.n new Obj.dlyDst l &&
      Objs.n old Obj.dlySlot l == Objs.n new Obj.dlySlot l && b ≤ Objs.ringExtents old l
    if same then 0 else b).sum +
  ((Objs.records new).map fun r =>
    let b := s.recExtents new r
    let same := Objs.b old Obj.recEnable r && Objs.n old Obj.recClip r == Objs.n new Obj.recClip r &&
      b ≤ s.recExtents old r
    if same then 0 else b).sum

/-- The journal record on the wire (R441). -/
def JRec.bytes (r : JRec) : List Byte :=
  let b := beBytes 8 r.seq ++ ptpBytes r.time ++ beBytes 2 r.kind ++ r.data.take 40 ++ zeros (40 - r.data.length)
  b ++ beBytes 4 (crc32 b)

/-- A read of MorJournalRead (R444): up to 1,024 records from the cursor on, and the cursor past the last one. -/
def State.morJournalRead (s : State) : List Byte × State :=
  let l := (s.mor.journal.reverse.dropWhile fun r => r.seq < s.n Obj.morJournalCursor 0).take 1024
  (l.flatMap JRec.bytes, match l.getLast? with
    | some r => s.setN Obj.morJournalCursor 0 (r.seq + 1)
    | none => s)

/-- A full reset of the store's own part: the links are down and every stream is gone; what the drives hold stays. -/
def State.morReset (s : State) : State :=
  { s with mor :=
    { diskId := s.mor.diskId
      diskJournalBytes := s.mor.diskJournalBytes
      clips := s.mor.clips.map fun (x : Nat × Clip) => (x.1, if x.2.state = 1 then { x.2 with state := 3 } else x.2)
      journal := s.mor.journal
      journalSeq := s.mor.journalSeq } }

end Sys2Proof.Machine
end

