-- ==== Sys2Proof/Machine/Sdi.lean ====
section
/-!
DEFINITION. SDI ports (chapter 02): lock, checking, payload ID, audio and ancillary packets on receive lanes, and the
frames of transmit lanes.
-/
namespace Sys2Proof.Machine

/-- A receive lane. -/
def State.rxLane (s : State) (l : Nat) : SdiRx := look s.sdiRx l {}

/-- A receive lane changed. -/
def State.setRxLane (s : State) (l : Nat) (x : SdiRx) : State := { s with sdiRx := put s.sdiRx l x }

/-- A transmit lane. -/
def State.txLane (s : State) (l : Nat) : SdiTx := look s.sdiTx l {}

/-- A transmit lane changed. -/
def State.setTxLane (s : State) (l : Nat) (x : SdiTx) : State := { s with sdiTx := put s.sdiTx l x }

/-! ## Receive signals: lanes, and the signals of ST2022_6 entries (R114)

A lane number is that of an SDI lane, or 0x1_0000 plus a receive entry: the subject by which R114 tells the two apart. -/

/-- The object that reports, or configures, an SDI receive function of an ST2022_6 entry (R114, R121). -/
def embIndex (index : Nat) : Nat :=
  (([(Obj.rxFormat, Obj.embFormat), (Obj.rxPayloadId, Obj.embPayloadId), (Obj.rxStructure, Obj.embStructure),
    (Obj.rxCrcErrLines, Obj.embCrcErrLines), (Obj.rxEdhFlags, Obj.embEdhFlags),
    (Obj.rxEdhApErrFields, Obj.embEdhApErrFields), (Obj.rxEdhFfErrFields, Obj.embEdhFfErrFields),
    (Obj.rxAudioPresent, Obj.embAudioPresent), (Obj.rxAudioEccCorrected, Obj.embAudioEccCorrected),
    (Obj.rxAudioUncorrectable, Obj.embAudioUncorrectable), (Obj.rxAncChecksumErr, Obj.embAncChecksumErr),
    (Obj.rxAncOverflow, Obj.embAncOverflow), (Obj.rxAudioBase, Obj.rxEmbAudioBase),
    (Obj.rxAudioGroups, Obj.rxEmbAudioGroups), (Obj.sdiRxAncDrop, Obj.rxAncDrop),
    (Obj.rxSlot, Obj.rxTarget)] : List (Nat × Nat)).lookup index).getD index

/-- The object of a receive function of a lane number. -/
def laneIx (lane index : Nat) : Nat := if lane < 65536 then index else embIndex index

/-- A receive object of a lane number. -/
def State.rxn (s : State) (index lane : Nat) : Nat := s.n (laneIx lane index) lane

/-- A receive object of a lane number set. -/
def State.setRxn (s : State) (index lane v : Nat) : State := s.setN (laneIx lane index) lane v

/-- The state of a lane number: RxState of a lane; of the signal of an ST2022_6 entry, LOCKED while its format is known and
CLOCK_LOCKED while the entry is RECEIVING without one. -/
def State.rxSt (s : State) (lane : Nat) : Nat :=
  if lane < 65536 then s.n Obj.rxState lane
  else
    let e := lane - 65536
    if lane < 73728 && s.b Obj.rxEnable e && s.n Obj.rxEssence e = 5 && Objs.rxLeadEntry s.objs e = e && s.n Obj.rxFlowState e = 4
    then (if s.n Obj.embFormat e = 0 then 3 else 4) else 0

/-- The slot that a lane's port or group feeds, refreshed. -/
def State.refreshLaneSlot (s : State) (l : Nat) : State :=
  let slot := s.rxn Obj.rxSlot (Objs.rxLead s.objs l)
  if slot = 0xFFFF then s else s.refreshSlot slot

/-! ## Receive lock (R53, R54) -/

/-- A use is bound to a receive port (R53): a source slot, an audio group, or an enabled reference. -/
def Objs.laneUsed (c : Objs) (l : Nat) : Bool :=
  let lead := Objs.rxLead c l
  Objs.n c Obj.rxSlot lead != 0xFFFF || groupChannels (Objs.n c Obj.rxAudioBase lead) (Objs.n c Obj.rxAudioGroups lead) != [] ||
    (List.range 11).any fun r => Objs.b c Obj.refEnable r && Objs.n c Obj.refSdiLane r == l

/-- The objects of the identified signal back at their defaults. -/
def State.clearIdentified (s : State) (l : Nat) : State :=
  ((s.toDefault Obj.rxFormat l).toDefault Obj.rxPayloadId l).toDefault Obj.rxStructure l

/-- The next frame of a lane begins with its first line: its packets, its side-data area and its events are counted anew (R69,
R73, R74). -/
def State.nextFrame (s : State) (lead : Nat) : State :=
  let x := s.rxLane lead
  s.setRxLane lead { x with
    anc := [], ancBytes := 0, ancFull := false, ancRaised := false, ancSeq := none, frame := x.frame + 1 }

/-- The colour that the payload ID of a lane number's feed declares (R251): none while its signal is not identified. -/
def State.feedColour (s : State) (lead colour : Nat) : State :=
  let slot := s.rxn Obj.rxSlot lead
  if slot = 0xFFFF then s else s.setSrc slot { s.src slot with colour := colour }

/-- A lane moves to a state below LOCKED; leaving LOCKED raises SDI_UNLOCK (R54). -/
def State.rxDown (s : State) (l toState : Nat) : State :=
  let was := s.n Obj.rxState l
  let s1 := s.setN Obj.rxState l toState
  let s2 := if toState < 3 then s1.toDefault Obj.rxRate l else s1
  let s3 := if toState = 2 then s2.setRxLane l { s2.rxLane l with tryBit := 9, tryAt := s2.now } else s2
  if was = 4 then
    let s4 := (s3.clearIdentified l).setRxLane l { s3.rxLane l with pid := none, pidNext := none, raster := none }
    let lead := Objs.rxLead s4.objs l
    (((s4.nextFrame lead).feedColour lead 0xFFFF).raise Ev.sdiUnlock l).refreshLaneSlot l
  else s3

/-- The port's use and the lane's mode put it into service or out of it (R53). -/
def State.refreshLane (s : State) (l : Nat) : State :=
  let used := s.n Obj.laneMode l = 1 && Objs.laneUsed s.objs l
  let st := s.n Obj.rxState l
  if used && st = 0 then s.setN Obj.rxState l 1
  else if !used && st != 0 then s.rxDown l 0
  else s

/-- The next enabled rate below a bit; from the lowest it starts again at the highest (R53). -/
def nextRate (mask b : Nat) : Nat :=
  match ((List.range 9).reverse.find? fun k => k < b && mask.testBit k) with
  | some k => k
  | none => ((List.range 9).reverse.find? fun k => mask.testBit k).getD 9

/-- SDI_SIGNAL_DETECT (R53). -/
def execSdiSignalDetect (dt lane lasted : Nat) (s : State) : Result :=
  actIf dt s (fun t => t.live && lane < 288 && t.n Obj.rxState lane == 1 && 10000 ≤ lasted) fun t =>
    let t1 := t.setN Obj.rxState lane 2
    t1.setRxLane lane { t1.rxLane lane with tryBit := nextRate (t1.n Obj.rxRateMask lane) 9, tryAt := t1.now }

/-- SDI_RATE_SEARCH_STEP (R53): each enabled rate for 1 ms. -/
def execSdiRateSearchStep (dt lane : Nat) (s : State) : Result :=
  actIf dt s (fun t => t.live && lane < 288 && t.n Obj.rxState lane == 2 && (t.rxLane lane).tryAt + 1000000 ≤ t.now) fun t =>
    t.setRxLane lane { t.rxLane lane with
      tryBit := nextRate (t.n Obj.rxRateMask lane) (t.rxLane lane).tryBit, tryAt := t.now }

/-- SDI_CLOCK_LOCK (R53): clock recovery locks at the rate being tried. -/
def execSdiClockLock (dt lane : Nat) (s : State) : Result :=
  actIf dt s (fun t => t.live && lane < 288 && t.n Obj.rxState lane == 2 && (t.rxLane lane).tryBit < 9) fun t =>
    (t.setN Obj.rxState lane 3).setN Obj.rxRate lane (t.rxLane lane).tryBit

/-! ## Payload IDs (R57, R58, R65) -/

/-- The payload ID from which a lane takes the open properties: none where it disagrees with the raster (R58). -/
def State.openPid (s : State) (lane : Nat) : Option PayloadId :=
  if bit (s.rxn Obj.rxStructure lane) 5 then none else (s.rxLane lane).pid

/-- The division in force of a quad-link group: the payload ID's, else RxQuadDivision, AUTO giving 2SI (R57, R58, R84). -/
def State.quadDivision (s : State) (lead : Nat) : Nat :=
  let d := (s.openPid lead).elim 0 (·.division)
  if d != 0 then d else let q := s.n Obj.rxQuadDivision lead; if q = 0 then 2 else q

/-- The payload ID as a member link shows it: a quad-link ID names 2160p where the link carries 1080p. -/
def linkPid (quad : Bool) (p : PayloadId) : PayloadId :=
  if quad && fmtRaster p.format = 7 then { p with format := fmtCode 6 (fmtRate p.format) (fmtSampling p.format) } else p

/-- Whether a lane leads a quad-link group. -/
def State.quad (s : State) (lead : Nat) : Bool := (Objs.rxLanes s.objs lead).length = 4

/-- The lane offsets of links 1 to 4: by the link numbers of the payload IDs, or lane order (R57, R58). -/
def State.linkOrder (s : State) (lead : Nat) : List Nat :=
  let offs := [0, 1, 2, 3]
  let byPid := offs.map fun k => offs.find? fun o => (s.openPid (lead + o)).elim false fun p => p.link == k
  if byPid.all Option.isSome then byPid.map (·.getD 0) else offs

/-- The lane that carries link k + 1 of a port or group. -/
def State.linkLane (s : State) (lead k : Nat) : Nat := if s.quad lead then lead + (s.linkOrder lead).getD k 0 else lead

/-- RxStructure [15:8] of a locked group's lead lane, and the division of all four (R84). -/
def State.setLinkOrder (s : State) (lead : Nat) : State :=
  if s.quad lead && (Objs.rxLanes s.objs lead).all (fun k => s.n Obj.rxState k == 4) then
    let d := s.quadDivision lead
    let t := (Objs.rxLanes s.objs lead).foldl (fun u k =>
      u.setN Obj.rxStructure k (setField (u.n Obj.rxStructure k) 2 3 d)) s
    match s.linkOrder lead with
    | [a, b, c, e] => t.setN Obj.rxStructure lead
        (setField (t.n Obj.rxStructure lead) 8 15 (a + 4 * b + 16 * c + 64 * e))
    | _ => t
  else s

/-- What a port or group reports of the payload IDs of its links: RxPayloadId of link 1, division and link order, and the colour of
its slot (R57, R65, R84, R251). -/
def State.meetPids (s : State) (lead : Nat) : State :=
  let p := (s.rxLane (s.linkLane lead 0)).pid
  let t := (s.setRxn Obj.rxPayloadId lead (p.elim 0 (·.word))).setLinkOrder lead
  let slot := t.rxn Obj.rxSlot lead
  if slot = 0xFFFF then t
  else (t.setSrc slot { t.src slot with colour := p.elim 0xFFFF (·.colour) }).refreshSlot slot

/-- The lane rates at which a lane number's signal can be: the lane's own, or for an ST2022_6 entry that of its declared carriage
and then the others, in the order of R52. That no assumption but the first listed sampling and scan applies to an entry, and the
order of the rates, are a DESIGN CHOICE (notes/assumptions/64.md). -/
def State.signalRates (s : State) (lane : Nat) : List Nat :=
  if lane < 65536 then [s.n Obj.rxRate lane]
  else
    let f := s.n Obj.rxVideoFormat (lane - 65536)
    let k := ([1, 2, 3, 4].find? fun k => carries k f).getD 1
    [carriageRate k f, 0, 1, 2, 3, 4]

/-- Format identification at the first of some lane rates that gives a format: the format and the rate, and whether the payload ID
disagrees with the raster (R57, R58, R114). The assumptions of a group stand on its lead lane. -/
def State.identifyOn (s : State) (lane : Nat) (rates : List Nat) (raster : Raster) (pid : Option PayloadId) :
    Option (Nat × Nat) × Bool :=
  let lead := Objs.rxLead s.objs lane
  let a := fun index => if lane < 65536 then s.n index lead else 0
  let l := rates.map fun b => (identify raster b (pid.map (linkPid (s.quad lead))) (a Obj.rxAssumeSampling) (a Obj.rxAssumeScan), b)
  match l.find? fun r => r.1.1.isSome with
  | some ((some f, mismatch), b) => (some (f, b), mismatch)
  | _ => (none, (l.headD ((none, false), 0)).1.2)

/-- SDI_PID_MISMATCH once per entry to LOCKED (R58). -/
def State.pidMismatch (s : State) (lane : Nat) (mismatch : Bool) : State :=
  if mismatch && !(s.rxLane lane).mismatchRaised then
    (s.setRxLane lane { s.rxLane lane with mismatchRaised := true }).raise Ev.sdiPidMismatch lane
  else s

/-- A lane's signal is identified: its objects, and what a later payload ID is held against. -/
def State.identified (s : State) (lane f b : Nat) (mismatch : Bool) (raster : Raster) (pid : Option PayloadId) : State :=
  let old := Nat.land (s.rxn Obj.rxStructure lane) 0xFF0C
  ((s.setRxn Obj.rxFormat lane f).setRxn Obj.rxStructure lane
    (old + raster.level + 16 * b2n pid.isSome + 32 * b2n mismatch)).setRxLane lane { s.rxLane lane with
      pid := pid, pidNext := none, raster := some raster, bit := b, lastFormat := f }

/-- SDI_LOCK (R53, R57, R58, R114): two frames of one raster that R51 lists. -/
def execSdiLock (dt lane : Nat) (raster : Raster) (pid : Option PayloadId) (s : State) : Result :=
  actIf dt s (fun t => t.live && t.rxSt lane == 3) fun t =>
    match t.identifyOn lane (t.signalRates lane) raster pid with
    | (some (f, b), mismatch) =>
      let t1 := if lane < 65536 then t.setN Obj.rxState lane 4 else t
      let t2 := t1.identified lane f b mismatch raster pid
      let t3 := (t2.setRxLane lane { t2.rxLane lane with mismatchRaised := false }).raise Ev.sdiLock lane
      (t3.pidMismatch lane mismatch).meetPids (Objs.rxLead t3.objs lane)
    | (none, _) => t

/-- A signal is identified again by a payload ID or its absence, with the raster as it was measured (R57, R58, R65). Where neither the
payload ID nor an assumption gives a format that R51 lists for it, the format identified before stands: DESIGN CHOICE,
notes/assumptions/64.md. -/
def State.reidentify (s : State) (lane : Nat) (pid : Option PayloadId) : State :=
  let x := s.rxLane lane
  match x.raster with
  | some raster =>
    let r := s.identifyOn lane [x.bit] raster pid
    let (f, b) := r.1.getD (s.rxn Obj.rxFormat lane, x.bit)
    (s.identified lane f b r.2 raster pid).pidMismatch lane r.2
  | none => s

/-- A payload ID that a lane has read acts from a frame start on (R58). -/
def State.applyPid (s : State) (lane : Nat) : State :=
  match (s.rxLane lane).pidNext with
  | some pid =>
    let t := s.reidentify lane pid
    if t.rxn Obj.rxFormat lane = s.rxn Obj.rxFormat lane then t else t.raise Ev.sdiFormatChange lane
  | none => s

/-- The frame of a port or group starts: the payload IDs read since the last frame start act, and a changed division or link order
raises SDI_FORMAT_CHANGE too (R58, R65). -/
def State.applyPids (s : State) (lead : Nat) : State :=
  let lanes := Objs.rxLanes s.objs lead
  if lanes.all fun k => (s.rxLane k).pidNext.isNone then s
  else
    let t := (lanes.foldl State.applyPid s).meetPids lead
    if Nat.land (t.rxn Obj.rxStructure lead) 0xFF0C = Nat.land (s.rxn Obj.rxStructure lead) 0xFF0C then t
    else t.raise Ev.sdiFormatChange lead

/-- A LOCKED lane is identified by the settings as they now stand; a payload ID that it has read still acts from the next frame
start. -/
def State.resettle (s : State) (lane : Nat) : State :=
  if s.rxSt lane = 4 then
    let next := (s.rxLane lane).pidNext
    let t := s.reidentify lane (s.rxLane lane).pid
    t.setRxLane lane { t.rxLane lane with pidNext := next }
  else s

/-- An assumption of a port or group has been written (R57): a LOCKED one takes it at once, without an event. DESIGN CHOICE,
notes/assumptions/64.md. -/
def State.assumed (s : State) (lead : Nat) : State :=
  let t := (Objs.rxLanes s.objs lead).foldl State.resettle s
  if (Objs.rxLanes s.objs lead).all fun k => s.rxSt k != 4 then t else t.meetPids lead

/-- The lanes of a quad meet a change of their grouping, or of the slot that one feeds: division and link order are those of the new
group (R50, R84), and the slot takes the colour of its feed's payload ID (R251). -/
def State.regroup (s : State) (old : Objs) (q : Nat) : State :=
  let lanes := [q, q + 1, q + 2, q + 3]
  let gone := (lanes.map (Objs.n old Obj.rxSlot)).filter fun slot =>
    slot != 0xFFFF && !(lanes.map (s.n Obj.rxSlot)).contains slot
  let t := gone.foldl (fun u slot => u.setSrc slot { u.src slot with colour := 0xFFFF }) s
  let t := lanes.foldl (fun u k =>
    (u.setN Obj.rxStructure k (setField (setField (u.n Obj.rxStructure k) 2 3 0) 8 15 0)).resettle k) t
  ((lanes.map (Objs.rxLead t.objs)).eraseDups.filter fun lead => t.n Obj.rxState lead = 4).foldl State.meetPids t

/-- SDI_CLOCK_LOSS (R54): the receiver loses clock lock. -/
def execSdiClockLoss (dt lane : Nat) (s : State) : Result :=
  actIf dt s (fun t => t.live && lane < 288 && 3 ≤ t.n Obj.rxState lane) fun t =>
    let u := t.rxDown lane 2
    u.setRxLane lane { u.rxLane lane with tryBit := nextRate (u.n Obj.rxRateMask lane) 9, tryAt := u.now }

/-- SDI_SIGNAL_LOSS (R54): signal detect fails for 10 µs. -/
def execSdiSignalLoss (dt lane lasted : Nat) (s : State) : Result :=
  actIf dt s (fun t => t.live && lane < 288 && 2 ≤ t.n Obj.rxState lane && 10000 ≤ lasted) fun t => t.rxDown lane 1

/-- SDI_EAV_TIMEOUT (R54): no valid EAV for 16 line periods. -/
def execSdiEavTimeout (dt lane periods : Nat) (s : State) : Result :=
  actIf dt s (fun t => t.live && lane < 288 && t.n Obj.rxState lane == 4 && 16 ≤ periods) fun t => t.rxDown lane 3

/-- The signal of an ST2022_6 entry is no longer identified (R114): the frame being written is abandoned. -/
def State.clearEmb (s : State) (e : Nat) : State :=
  let l := 65536 + e
  let t := ((s.toDefault Obj.embFormat e).toDefault Obj.embPayloadId e).toDefault Obj.embStructure e
  ((t.setRxLane l { t.rxLane l with pid := none, pidNext := none, raster := none }).nextFrame l)

/-- The raster of a running ST2022_6 flow has changed (R114): its format is live, so that the frame being written is abandoned as R56
gives, and the signal is to be identified anew. SDI_UNLOCK names the entry: DESIGN CHOICE, notes/assumptions/64.md. -/
def State.embDown (s : State) (lane : Nat) : State :=
  let e := lane - 65536
  let slot := s.n Obj.rxTarget e
  let t := ((s.abandonFrame slot).setRxe e { s.rxe e with asm := none }).clearEmb e
  ((t.feedColour lane 0xFFFF).raise Ev.sdiUnlock lane).refreshSlot slot

/-- SDI_RASTER_MISMATCH (R54, R114): a frame's line count or samples per line differ from the identified raster. -/
def execSdiRasterMismatch (dt lane lines samples : Nat) (s : State) : Result :=
  actIf dt s (fun t => t.live && t.rxSt lane == 4 &&
      (let f := t.rxn Obj.rxFormat lane
       let rate := if lane < 65536 then t.n Obj.rxRate lane else (t.rxLane lane).bit
       !rasterIs ⟨lines, samples, rasterInterlaced (fmtRaster f) || fmtRaster f == 5, 0⟩ rate f))
    fun t => if lane < 65536 then t.rxDown lane 3 else t.embDown lane

/-! ## Lines (R58, R60, R63, R64) -/

/-- The skew limit of a quad-link group: a quarter of a link line period (R60). -/
def skewLimit (f : Nat) : Nat := let p := fmtPeriod f; 1000000000 * p.num / (p.den * 1125 * 4)

/-- The group skew of a lead lane (R60). -/
def State.measureSkew (s : State) (lead skew : Nat) : State :=
  let f := s.n Obj.rxFormat lead
  let x := s.rxLane lead
  let s1 := s.setN Obj.rxQuadSkew lead skew
  if skewLimit f < skew then
    let s2 := s1.setRxLane lead { x with skewBad := true, skewGood := none }
    if x.skewBad then s2 else (s2.raise Ev.sdiQuadSkew lead).refreshLaneSlot lead
  else if x.skewBad then
    match x.skewGood with
    | none => s1.setRxLane lead { x with skewGood := some s1.now }
    | some t =>
      if t + fmtPeriodNs f ≤ s1.now then
        (s1.setRxLane lead { x with skewBad := false, skewGood := none }).refreshLaneSlot lead
      else s1
  else s1

/-- A line ends: the frame starts with its first line, the ST 352 packet is read on the first line of R66, and with the first active
line the properties that it names act (R58, R65, R73). -/
def State.meetLine (s : State) (lane line : Nat) (pid : Option PayloadId) : State :=
  let r := fmtRaster (s.rxn Obj.rxFormat lane)
  let x := s.rxLane lane
  let lead := Objs.rxLead s.objs lane
  if line = (firstLines r).1 && lane = lead then s.nextFrame lead
  else if line = (pidLines r).headD 0 && pid != x.pid then s.setRxLane lane { x with pidNext := some pid }
  else if line = (firstLines r).2 && lane = lead then s.applyPids lead
  else s

/-- SDI_LINE_RECEIVED (R58, R60, R63, R65): one line, and the group skew at it on a lead lane.
The errored lines of a member link count and raise on the member lane itself: DESIGN CHOICE, notes/assumptions/65.md. -/
def execSdiLineReceived (dt lane : Nat) (line : SdiLine) (skew : Nat) (s : State) : Result :=
  actIf dt s (fun t => t.live && t.rxSt lane == 4) fun t =>
    let r := fmtRaster (t.rxn Obj.rxFormat lane)
    let t1 := if line.crcError && (t.rxn Obj.rxFormat lane != 0 && r != 1 && r != 2) then
        (t.bump (laneIx lane Obj.rxCrcErrLines) lane).raiseLimited Ev.sdiCrcError lane lane else t
    let t2 := if t1.quad lane then t1.measureSkew lane skew else t1
    t2.meetLine lane line.number line.pid

/-- SDI_EDH_FIELD (R64): the EDH packet of one field at 270 Mb/s, or its absence. -/
def execSdiEdhField (dt lane : Nat) (edhFlags : Option Nat) (apMismatch ffMismatch : Bool) (s : State) : Result :=
  actIf dt s (fun t => t.live && t.rxSt lane == 4 &&
      (fmtRaster (t.rxn Obj.rxFormat lane) == 1 || fmtRaster (t.rxn Obj.rxFormat lane) == 2)) fun t =>
    match edhFlags with
    | none => t.setBitN (laneIx lane Obj.rxEdhFlags) lane 16 true
    | some w =>
      let t1 := t.setN (laneIx lane Obj.rxEdhFlags) lane (field w 0 14)
      let t2 := if apMismatch then t1.bump (laneIx lane Obj.rxEdhApErrFields) lane else t1
      let t3 := if ffMismatch then t2.bump (laneIx lane Obj.rxEdhFfErrFields) lane else t2
      if apMismatch || ffMismatch then t3.raiseLimited Ev.sdiEdhError lane lane else t3

/-! ## Embedded audio (R67 to R70) -/

/-- SDI_AUDIO_GROUP once per port per frame (R69). The time in which a port is not LOCKED counts as one frame, in which groups that go
absent raise it once: DESIGN CHOICE, notes/assumptions/76.md. -/
def State.raiseGroup (s : State) (lead : Nat) : State :=
  let x := s.rxLane lead
  if x.groupAt = some x.frame then s
  else (s.setRxLane lead { x with groupAt := some x.frame }).raise Ev.sdiAudioGroup lead

/-- The samples that an audio packet delivers: zeros where it cannot be corrected (R70). -/
def audioWords (p : AudioPacket) : List Int :=
  if p.ecc = .uncorrectable then List.replicate p.samples.length 0 else p.samples

/-- The bits that go with the words of an audio packet: none with the zeros of one that cannot be corrected (R70). -/
def audioSide (p : AudioPacket) : List Nat :=
  if p.ecc = .uncorrectable then List.replicate p.samples.length 0 else p.side

/-- A group of a port or group is present or absent; each change raises SDI_AUDIO_GROUP once per frame (R69). -/
def State.setPresent (s : State) (lead groupBit : Nat) (present : Bool) : State :=
  if bit (s.rxn Obj.rxAudioPresent lead) groupBit = present then s
  else (s.setBitN (laneIx lead Obj.rxAudioPresent) lead groupBit present).raiseGroup lead

/-- Whether a lane is the one from which a group is extracted: its link carries it, and the rate has room for it (R67). -/
def State.carriesGroup (s : State) (lane groupBit : Nat) : Bool :=
  let lead := Objs.rxLead s.objs lane
  let rate := if lane < 65536 then s.n Obj.rxRate lane else (s.rxLane lane).bit
  groupBit / 8 < (Objs.rxLanes s.objs lead).length && s.linkLane lead (groupBit / 8) = lane && groupBit % 8 < rateGroups rate

/-- An audio data packet of a selected group delivers its samples (R68 to R70). The time from their origin at the lane input is what their
audio clock phase data gives (R26, R70; notes/assumptions/21.md). -/
def State.takeAudio (s : State) (lead : Nat) (p : AudioPacket) : State :=
  let t1 := s.setRxLane lead { s.rxLane lead with groups := put (s.rxLane lead).groups p.groupBit s.now }
  let t2 := t1.setPresent lead p.groupBit true
  let base := t2.rxn Obj.rxAudioBase lead + 4 * p.groupBit
  let c := laneClock (t2.rxn Obj.rxRate lead)
  let t3 := if lead < 65536 then t2.setInLatency ((List.range 4).map (base + ·)) (1000000000 * p.phase * c.2 / c.1 : Nat) else t2
  let t3 := (t3.setNonAudio base (p.nonAudio.take 2)).queueFrames base 4 (audioWords p) (audioSide p)
  match p.ecc with
  | .clean => t3
  | .corrected => t3.bump (laneIx lead Obj.rxAudioEccCorrected) lead
  | .uncorrectable => (t3.bump (laneIx lead Obj.rxAudioUncorrectable) lead).raiseLimited Ev.sdiAudioError lead lead

/-- SDI_AUDIO_PACKET (R67 to R70): an audio data packet of a selected group; one whose control packet declares another rate makes
its group absent. -/
def execSdiAudioPacket (dt lane : Nat) (p : AudioPacket) (s : State) : Result :=
  actIf dt s (fun t =>
      let lead := Objs.rxLead t.objs lane
      t.live && (Objs.rxLanes t.objs lead).all (fun k => t.rxSt k == 4) && t.carriesGroup lane p.groupBit &&
        t.rxn Obj.rxAudioBase lead != 0xFFFF && bit (t.rxn Obj.rxAudioGroups lead) p.groupBit) fun t =>
    let lead := Objs.rxLead t.objs lane
    if p.rate48 then t.takeAudio lead p else t.setPresent lead p.groupBit false

/-- SDI_AUDIO_GROUP_ABSENT (R69): no packet of a group for 2 frame periods of the format last identified. -/
def execSdiAudioGroupAbsent (dt lane groupBit : Nat) (s : State) : Result :=
  actIf dt s (fun t =>
      let x := t.rxLane lane
      t.live && bit (t.rxn Obj.rxAudioPresent lane) groupBit &&
        look x.groups groupBit 0 + 2 * fmtPeriodNs x.lastFormat ≤ t.now) fun t =>
    t.setPresent lane groupBit false

/-! ## Ancillary packets (R73, R74) -/

/-- Audio data and audio control packets (ST 272, ST 299-1, ST 299-2) and EDH packets (RP 165), by their DID. PRESUMED from
those standards (notes/assumptions/16.md). -/
def ancGenerated (did : Nat) : Bool :=
  did == 0xF4 || (0xF8 ≤ did && did ≤ 0xFF) || (0xE0 ≤ did && did ≤ 0xE7) || (0xEC ≤ did && did ≤ 0xEF) ||
    (0xA0 ≤ did && did ≤ 0xA7)

/-- Whether a drop list of DID, SDID pairs names a packet. -/
def ancDropped (l : List Byte) (did sdid : Nat) : Bool :=
  (chunksOf 2 8 l).any fun c => fromBe (c.take 1) == did && fromBe (c.drop 1) == sdid

/-- The size of the ancillary part of a frame's side-data area (R74). -/
def ancArea : Nat := 65024

/-- The lines of one field in transmission order (R75): the numbers of the standards of R51. PRESUMED (notes/assumptions/16.md). -/
def fieldLines (raster : Nat) (field2 : Bool) : List Nat :=
  let span := fun (a b : Nat) => (List.range (b + 1 - a)).map (a + ·)
  match raster, field2 with
  | 1, false => span 4 265
  | 1, true => span 266 525 ++ span 1 3
  | 2, false => span 1 312
  | 2, true => span 313 625
  | 3, _ => span 1 750
  | 4, false => span 1 563
  | 5, false => span 1 563
  | 4, true => span 564 1125
  | 5, true => span 564 1125
  | _, _ => span 1 1125

/-- The active lines of a raster, by first and last, of each field. PRESUMED (notes/assumptions/16.md). -/
def activeLines (raster : Nat) : List (Nat × Nat) := match raster with
  | 1 => [(21, 263), (283, 525)]
  | 2 => [(23, 310), (336, 623)]
  | 3 => [(26, 745)]
  | 4 => [(21, 560), (584, 1123)]
  | 5 => [(21, 560), (584, 1123)]
  | _ => [(42, 1121)]

/-- Whether a line lies in the vertical blanking of a raster. -/
def lineBlank (raster l : Nat) : Bool := (activeLines raster).all fun a => l < a.1 || a.2 < l

/-- The lines of its field on which a packet may go, from its stored line on (R75): of the vertical blanking for VANC, every line for
HANC, but for the switching line and the line after it. -/
def ancLines (f : Nat) (p : Anc) : List Nat :=
  let r := fmtRaster f
  let sw := switchLine r
  let order := fun l => if r = 1 && l < 4 then l + 525 else l
  (fieldLines r p.field2).filter fun l =>
    order p.line ≤ order l && l != sw && l != sw + 1 && (!p.vanc || lineBlank r l)

/-- Packets placed on lines of the output raster: each on its line, or the next on which it is allowed and fits; the second
list is discarded (R75). `used` counts the bytes on each line and space. -/
def placeAnc (f : Nat) (used : Table Nat) : List Anc → List Anc × Nat
  | [] => ([], 0)
  | p :: t =>
    if ancGenerated p.did || ancIsPid p then placeAnc f used t
    else
      let key := fun l => 8 * l + 2 * p.link + b2n p.vanc
      match (ancLines f p).find? fun l => look used (key l) 0 + p.size ≤ Config.ancRoom f p.vanc with
      | some l =>
        let r := placeAnc f (upd used (key l) 0 (· + p.size)) t
        ({ p with line := l } :: r.1, r.2)
      | none => let r := placeAnc f used t; (r.1, r.2 + 1)

/-- A packet of the frame that a destination shows for the first time joins its output frame (R18): what a record or delay line holds,
and the stream of an ST2022_6 flow. Where an SDI output has begun to send the frame, the packet goes in as it comes, or is discarded
(R75). -/
def State.joinAnc (s : State) (d : Nat) (x : Shown) (p : Anc) : State :=
  let y : Shown := { x with anc := x.anc ++ [p] }
  let old := placeAnc x.format [] x.anc
  let new := placeAnc x.format [] y.anc
  match Objs.sink s.objs d with
  | .sdi lane =>
    let t := s.reshow d y id
    if x.emitted && t.b Obj.sdiTxAncEnable lane then
      if old.1.length < new.1.length then t.emit (.sdiAnc lane (new.1.getLastD p))
      else if old.2 = new.2 then t
      else
        let u := t.bump Obj.sdiTxAncDropped lane
        if old.2 = 0 then u.raise Ev.sdiAncTxDrop lane else u
    else t
  | .tx e =>
    if s.n Obj.txEssence e = 5 && s.b Obj.txAncEnable e && ((s.txe e).shown.elim false fun z => z.align == x.align) then
      let t := s.reshow d y fun o => { o with ancillary := new.1 }
      if old.2 = new.2 then t
      else
        let u := (Objs.txPaths t.objs e).foldl (fun v q => v.bump Obj.txAncDropped q) t
        if old.2 = 0 then u.raise Ev.sdiAncTxDrop (65536 + e) else u
    else s.reshow d y id
  | _ => s.reshow d y id

/-- A packet is stored with a frame of a slot, and goes with it to the destinations that show the frame for the first time (R18,
R73, R116). -/
def State.attachAnc (s : State) (slot seq : Nat) (p : Anc) : State :=
  let t := s.setSrc slot ((s.src slot).mapFrame seq fun f => { f with anc := f.anc ++ [p] })
  t.ridge.dst.foldl (fun u y => match y.2.shown with
    | some x => if x.first && x.slot = slot && x.seq = seq && routeAnc x.route then u.joinAnc y.1 x p else u
    | none => u) t

/-- The slot that a lane number's signal feeds, and the number of the frame that its packets belong to. -/
def State.ancFrame (s : State) (lead : Nat) : Option (Nat × Nat) :=
  let slot := s.rxn Obj.rxSlot lead
  if slot = 0xFFFF then none else (s.rxLane lead).ancSeq.map fun n => (slot, n)

/-- The writer has begun the frame of a lane number's signal: the packets that came before are stored with it (R73). -/
def State.ancBegin (s : State) (lead slot : Nat) : State :=
  match (s.src slot).frames.head? with
  | some f =>
    let t := s.setSrc slot ((s.src slot).mapFrame f.seq fun g => { g with anc := (s.rxLane lead).anc })
    t.setRxLane lead { t.rxLane lead with ancSeq := some f.seq }
  | none => s

/-- The writer abandons its frame: no packet of it goes with a later one. -/
def State.ancAbandon (s : State) (lead : Nat) : State :=
  s.setRxLane lead { s.rxLane lead with anc := [], ancSeq := none }

/-- SDI_ANC_PACKET (R73, R74): a packet is dropped, discarded, or stored with the frame being received. -/
def execSdiAncPacket (dt lane : Nat) (p : Anc) (s : State) : Result :=
  actIf dt s (fun t => t.live && t.rxSt lane == 4) fun t =>
    let lead := Objs.rxLead t.objs lane
    let x := t.rxLane lead
    if !p.checksumOk then t.bump (laneIx lead Obj.rxAncChecksumErr) lead
    else if ancGenerated p.did || ancDropped (t.by (laneIx lead Obj.sdiRxAncDrop) lead) p.did p.sdid then t
    else if x.ancFull || ancArea < x.ancBytes + p.size then
      let t1 := (t.setRxLane lead { x with ancFull := true, ancRaised := true }).bump (laneIx lead Obj.rxAncOverflow) lead
      if x.ancRaised then t1 else t1.raise Ev.sdiAncOverflow lead
    else
      let t1 := t.setRxLane lead { x with anc := x.anc ++ [p], ancBytes := x.ancBytes + p.size }
      match t1.ancFrame lead with
      | some (slot, n) => t1.attachAnc slot n p
      | none => t1

/-! ## Transmit (R66, R71, R75 to R80, R83) -/

/-- Embedded samples of output frame k (R71). At 119.88 frames per second, for which R71 gives no sequence, the samples follow the
48 kHz grid: 400, 400, 401, 400, 401. DESIGN CHOICE, notes/assumptions/61.md. -/
def embedSamples (f k : Nat) : Nat :=
  let p := fmtPeriod f
  if 60000 * p.num = p.den * 1001 then (if k % 5 = 4 then 800 else 801)
  else if 30000 * p.num = p.den * 1001 then (if k % 5 % 2 = 0 then 1602 else 1601)
  else 48000 * ((k + 1) * p.num) / p.den - 48000 * (k * p.num) / p.den

/-- The video sample clock of an output format on one link of a carriage's lane rate: the clock phase of embedded sample i of a
frame counts from the start of the frame (R71). The first sample of every frame stands at its start: DESIGN CHOICE,
notes/assumptions/61.md. -/
def clockPhase (rate i : Nat) : Nat := let c := laneClock rate; i * c.1 / (48000 * c.2)

/-- The fixed transmit delay of a lane rate (R62). -/
def laneTxDelay : Nat → Nat
  | 0 => 290
  | 1 => 58
  | 2 => 58
  | 3 => 35
  | 4 => 35
  | 5 => 24
  | 6 => 24
  | _ => 19

/-- The slew setting of a lane rate (R83). -/
def driverMode (rate : Nat) : Nat := if rate = 0 then 1 else 2

/-- The carriage of a transmit port in force. -/
def State.txCarriageOf (s : State) (lead d : Nat) : Nat :=
  carriageFor (s.n Obj.sdiTxCarriage lead) (s.n Obj.dstReservedFormat d)

/-- The division of a transmit port or group on a carriage (R59, R85): none on a single link. -/
def State.txDivision (s : State) (lead carriage : Nat) : Nat := if carriageQuad carriage then s.n Obj.txQuadDivision lead else 0

/-- The payload IDs of an output's links (R66), in the colour of the destination (R253). -/
def State.txPids (s : State) (lead d carriage f : Nat) : List Nat :=
  (List.range (carriageLinks carriage)).map fun k =>
    Config.payloadId carriage f (s.n Obj.dstColourInForce d) (s.txDivision lead carriage) (k + 1)

/-- The slew setting of every lane of a transmit port or group (R83). -/
def State.setDriver (s : State) (lead mode : Nat) : State :=
  (Objs.txLanes s.objs lead).foldl (fun t l => t.setN Obj.txDriverMode l mode) s

/-- A transmit port or group sends electrical idle. -/
def State.txIdleNow (s : State) (lane st : Nat) : State :=
  ((s.setN Obj.txState lane st).setDriver lane 0).emit (.sdiIdle lane)

/-- The bit of OctetPllState of the PLL that serves a lane rate: SDI_INT or SDI_M (R391). -/
def sdiPllBit (rate : Nat) : Nat := if rate = 2 || rate = 4 || rate = 6 || rate = 8 then 2 else 1

/-- Whether the PLL of a transmit lane's rate is locked: without it the lane sends electrical idle (R394). -/
def State.sdiPll (s : State) (lane rate : Nat) : Bool := bit (s.n Obj.octetPllState (lane / 8)) (sdiPllBit rate)

/-- The audio groups that an output frame embeds (R71): for each set bit of TxAudioGroups one group of four channels from
TxAudioBase on. -/
def embeddedGroups (base groups rate samples first : Nat) : List SdiGroup :=
  if base = 0xFFFF then [] else
    ((List.range 32).filter fun b => groups.testBit b).map fun b =>
      ⟨b / 8 + 1, b % 8 + 1, base + 4 * b, samples, first, (List.range samples).map (clockPhase rate)⟩

/-- An SDI output frame with what the device generates for it (R64, R66): the ST 352 packet of every link, at 270 Mb/s a fresh EDH
packet in each field, above it line numbers and CRC words. Each link of a quad-link group carries its part of the picture (R59). -/
def sdiFrame (lane : Nat) (pic : Pic) (f mode division : Nat) (pids : List Nat) : SdiOut :=
  let sd := fmtRaster f = 1 || fmtRaster f = 2
  { lane := lane, pic := pic, format := f, driverMode := mode, payloadIds := pids, pidLines := pidLines (fmtRaster f),
    edhFields := if sd then [1, 2] else [], lineWords := !sd, division := division, links := linkPics division pic }

/-- Blanking lines between two formats of a follow-source output: no ancillary packet of any kind goes with them (R199). -/
def blankingFrame (lane f mode : Nat) : SdiOut :=
  { lane := lane, pic := .blanking, format := f, driverMode := mode, lineWords := !(fmtRaster f = 1 || fmtRaster f = 2) }

/-- The SDI stream of an output frame (R64, R66, R71, R75): what the device generates for it, its audio groups and the packets that
are inserted. -/
def sdiOutput (lane : Nat) (x : Shown) (rate division : Nat) (pids : List Nat) (groups : List SdiGroup) (packets : List Anc) :
    SdiOut :=
  { sdiFrame lane x.pic x.format (driverMode rate) division pids with
    audio := groups
    ancillary := packets
    sav := x.read + 3200 + laneTxDelay rate }

/-- An output frame leaves: payload ID, ancillary packets, embedded audio, ledger (R28, R64, R66, R71, R75, R163). -/
def State.txEmit (s : State) (lane d carriage rate : Nat) : State :=
  match (s.dst d).shown with
  | none => s.txIdleNow lane 0
  | some x =>
    let mode := driverMode rate
    let y := s.txLane lane
    let pids := s.txPids lane d carriage x.format
    let placed := if s.b Obj.sdiTxAncEnable lane && !x.emitted then placeAnc x.format [] x.anc else ([], 0)
    let n := embedSamples x.format y.frame
    let s1 := (((s.setN Obj.txState lane 1).setN Obj.txRate lane rate).setN Obj.txFormat lane x.format).setDriver lane mode
    if x.pic = .blanking then
      ((s1.setTxLane lane { y with ran := true, carriage := carriage }).emit (.sdi (blankingFrame lane x.format mode))).emitFrame d
        7 (x.read + 3200)
    else
      let s2 := (s1.setN Obj.txPayloadId lane (pids.headD 0)).setTxLane lane
        { y with ran := true, carriage := carriage, pids := pids, frame := y.frame + 1, embedded := y.embedded + n }
      let s3 := s2.emit (.sdi (sdiOutput lane x rate (s2.txDivision lane carriage) pids
        (embeddedGroups (s2.n Obj.txAudioBase lane) (s2.n Obj.txAudioGroups lane) rate n y.embedded) placed.1))
      let s4 := if placed.2 = 0 then s3 else (s3.bump Obj.sdiTxAncDropped lane placed.2).raise Ev.sdiAncTxDrop lane
      s4.emitFrame d 7 (x.read + 3200)

/-- The lanes of a port's last carriage that send BLACK with it: not those that lead a port of their own with a destination. -/
def State.blackLanes (s : State) (lane : Nat) : List Nat :=
  if carriageQuad (s.txLane lane).carriage then
    lane :: ([lane + 1, lane + 2, lane + 3].filter fun l => s.n Obj.laneMode l = 1 &&
      (Objs.txLead s.objs l != l || s.n Obj.txSlot l = 0xFFFF))
  else [lane]

/-- A port without a destination sends BLACK at its last carriage, with the payload IDs of its links (R80). TxState reads 0 IDLE, and the
output carries no embedded audio: DESIGN CHOICE, notes/assumptions/66.md. -/
def State.txBlack (s : State) (lane : Nat) : State :=
  let x := s.txLane lane
  let mode := driverMode (s.n Obj.txRate lane)
  ((s.blackLanes lane).foldl (fun t l => t.setN Obj.txDriverMode l mode) (s.setN Obj.txState lane 0)).emit
    (.sdi (sdiFrame lane .black (s.n Obj.txFormat lane) mode (s.txDivision lane x.carriage) x.pids))

/-- What a transmit port or group sends next as an active device does (R76 to R80). -/
def State.sdiNext (s : State) (lane : Nat) : State :=
  let d := s.n Obj.txSlot lane
  let x := s.txLane lane
  if d = 0xFFFF then
    if s.n Obj.txIdle lane = 1 && x.ran && s.sdiPll lane (s.n Obj.txRate lane) then s.txBlack lane
    else s.txIdleNow lane 0
  else
    let f := s.n Obj.dstReservedFormat d
    let carriage := s.txCarriageOf lane d
    let rate := carriageRate carriage f
    if !s.sdiPll lane rate then s.txIdleNow lane 0
    else if x.ran && s.n Obj.txRate lane != rate then
      let u := (s.setN Obj.txState lane 2).setN Obj.txRate lane rate
      let u2 := u.setTxLane lane { x with idleUntil := some (u.now + fmtPeriodNs f) }
      ((u2.setDriver lane (driverMode rate)).emit (.sdiIdle lane)).raise Ev.sdiTxRate lane
    else s.txEmit lane d carriage rate

/-- The alignment point of the frame that a transmit port sends next, the present where it has none. -/
def State.txAlign (s : State) (lane : Nat) : Nat :=
  let d := s.n Obj.txSlot lane
  if d = 0xFFFF then s.tc else (s.dst d).shown.elim s.tc fun x => x.align

/-- Whether the SAV of the frame that a transmit port sends next has left the lane (R28, R333): a port without a frame waits for none. -/
def State.txDue (s : State) (lane : Nat) : Bool :=
  let d := s.n Obj.txSlot lane
  d == 0xFFFF || (s.dst d).shown.elim true fun x =>
    decide (x.read + 3200 + laneTxDelay (carriageRate (s.txCarriageOf lane d) (s.n Obj.dstReservedFormat d)) ≤ s.ptp)

/-- SDI_TX_FRAME_EMIT (R28, R66, R75 to R80, R333, R373, R382, R383): the next output frame of a transmit port or group, when its SAV leaves.
A port that has become active starts with the first frame whose alignment point lies at or after the boundary, and one that has become
standby ends with the last before it. -/
def execSdiTxFrameEmit (dt lane : Nat) (s : State) : Result :=
  actIf dt s (fun t => t.live && lane < 288 && t.n Obj.laneMode lane == 1 && Objs.txLead t.objs lane == lane &&
      (t.txLane lane).idleUntil.isNone && t.txDue lane) fun t =>
    if t.drives (t.txAlign lane) then t.sdiNext lane
    else if t.n Obj.twinSdiStandby 0 = 0 then t.txIdleNow lane 3
    else (t.sdiNext lane).setN Obj.txState lane 3

/-- SDI_TX_IDLE_END (R79, R373): the idle frame of a lane-rate change ends. -/
def execSdiTxIdleEnd (dt lane : Nat) (s : State) : Result :=
  actIf dt s (fun t => t.live && ((t.txLane lane).idleUntil.elim false fun u => u ≤ t.now)) fun t =>
    (t.setTxLane lane { t.txLane lane with idleUntil := none }).setN Obj.txState lane (if t.standby then 3 else 1)

end Sys2Proof.Machine
end

