-- ==== Sys2Proof/Machine/MediaTx.lean ====
section
/-!
DEFINITION. Media ports' addresses and transmit entries (chapter 04): states, SSRC and numbering, timestamps, pacing,
ancillary and opaque flows, address resolution.
-/
namespace Sys2Proof.Machine

/-! ## Ports -/

/-- A port object of the receive chapter. -/
def State.portN (s : State) (port index : Nat) : Nat := s.n (portIdx port index) (portNo port)

/-- A media port. -/
def State.port (s : State) (p : Nat) : MediaPort := look s.media.ports p {}

/-- A media port changed. -/
def State.setPort (s : State) (p : Nat) (x : MediaPort) : State :=
  { s with media := { s.media with ports := put s.media.ports p x } }

/-- A MAC address plus a number in its last byte (R146). -/
def macPlus (b : List Byte) (n : Nat) : List Byte := b.take 5 ++ [BitVec.ofNat 8 (fromBe (b.drop 5) + n)]

/-- The MacBase from which identity addresses come: side 0's for side 1 of a pair, once the link has carried it (R146). -/
def State.identityBase (s : State) : List Byte :=
  if s.boot.straps.twinPresent && s.boot.straps.twinSide = 1 then s.tw.side0Mac.getD (s.by Obj.macBase 0)
  else s.by Obj.macBase 0

/-- The identity address of a port: PortMacAddr, whose default comes from MacBase (R146). -/
def State.identityMac (s : State) (port : Nat) : List Byte :=
  let b := s.by (portIdx port Obj.portMacAddr) (portNo port)
  if b.length = 6 then b else macPlus s.identityBase (Objs.portIndex s.objs port)

/-- The station address of a port (R146). -/
def State.stationMac (s : State) (port : Nat) : List Byte :=
  macPlus (s.by Obj.macBase 0) (0x80 + Objs.portIndex s.objs port)

/-- The address that a port uses now (R147). -/
def State.portMacNow (s : State) (port : Nat) : List Byte := if s.standby then s.stationMac port else s.identityMac port

/-- The link-local IPv6 address of a MAC address (RFC 4291). PRESUMED (notes/assumptions/17.md). -/
def linkLocal (mac : List Byte) : List Byte :=
  beBytes 2 0xFE80 ++ zeros 6 ++ (mac.take 1).map (· ^^^ 0x02) ++ (mac.drop 1).take 2 ++ beBytes 2 0xFFFE ++ mac.drop 3

/-- Whether an IP address is multicast. -/
def multicast (a : List Byte) : Bool :=
  match a with
  | x :: _ => if a.length = 4 then 224 ≤ x.toNat && x.toNat < 240 else x == 0xFF
  | [] => false

/-- The MAC address of a multicast group (R145). -/
def groupMac (a : List Byte) : List Byte :=
  if a.length = 4 then beBytes 3 0x01005E ++ ((a.drop 1).take 1).map (· &&& 0x7F) ++ a.drop 2
  else beBytes 2 0x3333 ++ a.drop 12

/-- The IP source address of a port for a destination (R144), with its identity address: what has a source of this kind leaves an active
or unpaired device, or one whose last frames and packets leave after its demotion (R147, R383). -/
def State.portSrc (s : State) (port : Nat) (dst : List Byte) : List Byte :=
  if dst.length = 4 then beBytes 4 (s.portN port Obj.portIpv4Addr)
  else
    let a := s.by (portIdx port Obj.portIpv6Addr) (portNo port)
    if a.isEmpty || dst.take 8 == beBytes 2 0xFE80 ++ zeros 6 then linkLocal (s.identityMac port) else a

/-! ## Transmit entries -/

/-- A port sends an Ethernet frame (R150). -/
def State.countTx (s : State) (port bytes : Nat) : State :=
  (s.bump (portTxIdx port Obj.portTxFrames) (portNo port)).bump (portTxIdx port Obj.portTxBytes) (portNo port) bytes

/-- A port whose link is up sends an ARP message or a neighbour discovery message. Its length is that of the protocol's standard. PRESUMED
(notes/assumptions/20.md). -/
def State.sendArp (s : State) (port kind : Nat) (addr mac dst : List Byte) : State :=
  let tag := if s.portN port Obj.portVlan = 0xFFFF then 0 else 4
  if s.portN port Obj.portLinkState != 2 then s
  else (s.countTx port ((if addr.length = 4 then 64 else 90) + tag)).emit (.arp port kind addr mac dst)

/-- An ARP request or neighbour solicitation for an entry's destination, on a port whose link is up (R145); a standby sends none
(R147). -/
def State.resolve (s : State) (e : Nat) : State :=
  let port := s.n Obj.txPort e
  let dst := s.by Obj.txDstAddr e
  if multicast dst || dst.isEmpty || s.standby || s.portN port Obj.portLinkState != 2 then s
  else (s.setTxe e { s.txe e with resolveAt := some s.ptp, triedAt := s.ptp }).sendArp port 0
    (s.portSrc port dst) (s.portMacNow port) dst

/-- An entry's resolution meets its new state (R145): on entry to RESOLVING it begins, with 3 s to come until TX_UNRESOLVED; out of
RESOLVING and SENDING there is none. -/
def State.meetResolving (s : State) (e st : Nat) : State :=
  let x := s.txe e
  if st = 2 then (if x.resolveAt.isNone then (s.setTxe e { x with unresolvedRaised := false }).resolve e else s)
  else if st = 3 then s
  else s.setTxe e { x with resolveAt := none, unresolvedRaised := false }

/-- A transmit entry moves to a state: TX_SENDING, TX_STOPPED, TX_PATH_DOWN, TX_PATH_RESTORED (R130, R148). -/
def State.setTxState (s : State) (e st : Nat) : State :=
  let old := s.n Obj.txFlowState e
  if old = st then s
  else
    let t := (s.setN Obj.txFlowState e st).meetResolving e st
    let t := if old = 3 then t.raise Ev.txStopped e else t
    let t := if old = 4 && (st = 2 || st = 3) then t.raise Ev.txPathRestored e else t
    let t := if st = 3 then t.raise Ev.txSending e else t
    if st = 4 then t.raise Ev.txPathDown e else t

/-- The sample rate of an audio entry. -/
def State.txAudioHz (s : State) (e : Nat) : Nat := if s.n Obj.txAudioRate e = 1 then 96000 else 48000

/-- Whether a demoted device still sends from a flow (R383): video frames whose alignment point, and audio packets whose
first sample, lies before the boundary of the demotion. -/
def State.drains (s : State) (e : Nat) : Bool :=
  let lead := Objs.txLeadEntry s.objs e
  let es := s.n Obj.txEssence lead
  match s.tw.drain with
  | none => false
  | some b =>
    if es = 1 || es = 5 then
      (s.txe lead).frame.isSome ||
        ((look s.ridge.dst (s.n Obj.txSource lead) {}).shown.elim false fun x => !x.emitted && x.align < b)
    else if es = 2 || es = 3 then (s.txe lead).audioNext.elim false fun i => tcSec * i < b * s.txAudioHz lead
    else false

/-- The state that an enabled entry in force has (R130, R145, R147, R148). -/
def State.txStateOf (s : State) (e : Nat) : Nat :=
  if !s.b Obj.txEnable e then 0
  else if s.standby && !s.drains e then 5
  else if s.portN (s.n Obj.txPort e) Obj.portLinkState != 2 then 4
  else if !multicast (s.by Obj.txDstAddr e) && (s.txe e).mac.isNone then 2
  else 3

/-- An entry follows its state. -/
def State.refreshTx (s : State) (e : Nat) : State := s.setTxState e (s.txStateOf e)

/-- Every enabled entry on a port follows its state. -/
def State.refreshTxPort (s : State) (port : Nat) : State :=
  ((Objs.txEntries s.objs).filter fun e => s.n Obj.txPort e == port).foldl State.refreshTx s

/-- Every enabled entry follows its state. -/
def State.refreshTxAll (s : State) : State := (Objs.txEntries s.objs).foldl State.refreshTx s

/-- The destination or the port of an entry is a new one: its address is resolved afresh, and what is in flight keeps the old address
(R129, R145). -/
def State.readdress (s : State) (e : Nat) : State :=
  let x := s.txe e
  (s.setTxe e { x with mac := none, heldMac := x.heldMac.orElse fun _ => x.mac, resolveAt := none, unresolvedRaised := false }).resolve e

/-- The first number from v on, other than 0, that a list does not hold. -/
def freshSsrc (used : List Nat) : Nat → Nat → Nat
  | 0, v => v
  | fuel + 1, v => if v % 2 ^ 32 = 0 || used.contains (v % 2 ^ 32) then freshSsrc used fuel (v + 1) else v % 2 ^ 32

/-- SSRCs in use in the table, but for the paths of one flow. -/
def State.ssrcsInUse (s : State) (lead : Nat) : List Nat :=
  ((Objs.txEntries s.objs).filter fun e => Objs.txLeadEntry s.objs e != lead).map fun e => s.n Obj.txSsrcInUse e

/-- The SSRC of a flow: TxSsrc, the drawn one it keeps, or a fresh one (R132). -/
def State.chooseSsrc (s : State) (lead : Nat) (redraw : Bool) : State :=
  let paths := Objs.txPaths s.objs lead
  let setting := s.n Obj.txSsrc lead
  let used := s.ssrcsInUse lead
  let (v, t) :=
    if setting != 0 then (setting, s)
    else match (if redraw then none else (s.txe lead).drawn) with
      | some d => if used.contains d then s.draw else (d, s)
      | none => s.draw
  let w := if setting != 0 then v else freshSsrc used (used.length + 2) v
  paths.foldl (fun u e =>
    (if setting != 0 then u else u.setTxe e { u.txe e with drawn := some w }).setN Obj.txSsrcInUse e w) t

/-- The modulus of sequence numbers of an essence (R133). -/
def seqMod (essence : Nat) : Nat := if essence = 1 then 2 ^ 32 else 2 ^ 16

/-- A flow is newly enabled, or restarts (R129, R132, R133): SSRC, a random number to begin with, resolution. -/
def State.startTx (s : State) (lead boundary : Nat) (redraw : Bool) : State :=
  let es := s.n Obj.txEssence lead
  let t := s.chooseSsrc lead redraw
  let (v, t) := t.draw
  let n := v % seqMod es
  let paths := Objs.txPaths t.objs lead
  let t := t.setTxe lead { t.txe lead with
    frame := none, shown := none, audioNext := none, startAt := boundary, opaque_ := [], frames := 0, embedded := 0, sdi := none }
  paths.foldl (fun u e => ((u.setN Obj.txNextSeq e n).readdress e).refreshTx e) t

/-- Objects of a transmit entry that its session description is made of (R151). -/
def State.sdpOf (s : State) (e : Nat) : List Byte :=
  Config.sdp ((s.objs.filter fun p => adrSub p.1 == e && 0x6C00 ≤ adrIndex p.1 && adrIndex p.1 ≤ 0x6C22) ++
    [(adr Obj.dstColourInForce 0, .num (s.n Obj.dstColourInForce (s.n Obj.txSource e)))])

/-- TxSdp and TxFormatLive of an entry's live flow. -/
def State.refreshSdp (s : State) (e : Nat) : State :=
  s.setBy Obj.txSdp e (if s.b Obj.txEnable e then s.sdpOf e else [])

/-! ## Packets -/

/-- The RTP timestamp of a time in seconds, a fraction, at a clock (R134). -/
def rtpTime (t : Nat × Nat) (f : Nat) : Nat := t.1 * f / t.2 % 2 ^ 32

/-- The exact alignment point of an output frame, or for field 2 and the second segment half a frame later (R134). -/
def State.fieldTime (s : State) (d f align : Nat) (field2 : Bool) : Nat × Nat :=
  let a := alignSec f (s.n Obj.dstTimingOffset d) align
  if field2 then addFrac a ((fmtPeriod f).num, 2 * (fmtPeriod f).den) else a

/-- The headers of an entry's packets (R144, R145), always with the identity address (R147, R383). -/
def State.txHead (s : State) (e : Nat) : PacketHead :=
  let port := s.n Obj.txPort e
  let dst := s.by Obj.txDstAddr e
  let es := s.n Obj.txEssence e
  let dscp := s.n Obj.txDscp e
  let sport := s.n Obj.txSrcUdpPort e
  { srcMac := s.identityMac port
    dstMac := if multicast dst then groupMac dst else (s.txe e).mac.getD []
    vlan := s.portN port Obj.portVlan
    src := s.portSrc port dst
    dst := dst
    srcUdp := if sport = 0 then s.n Obj.txUdpPort e else sport
    dstUdp := s.n Obj.txUdpPort e
    dscp := if dscp != 0xFF then dscp else if es = 2 || es = 3 then 46 else 34
    ttl := s.n Obj.txTtl e }

/-- One packet of a flow leaves on each of its paths, or is discarded there (R130, R145, R148). -/
def State.sendPacket (s : State) (lead timestamp : Nat) (marker : Bool) (bytes : Nat) (payload : Payload) : State :=
  let seq := s.n Obj.txNextSeq lead
  let next := (seq + 1) % seqMod (s.n Obj.txEssence lead)
  (Objs.txPaths s.objs lead).foldl (fun t e =>
    let u := match t.n Obj.txFlowState e with
      | 3 =>
        ((t.bump Obj.txPackets e).countTx (t.n Obj.txPort e) bytes).emit
          (.packet e (t.txHead e) (t.n Obj.txPayloadType e) (t.n Obj.txSsrcInUse e) seq timestamp marker bytes payload)
      | 4 => t.bump Obj.txPortDownDiscards e
      | 2 => t.bump Obj.txUnresolvedDrops e
      | _ => t
    u.setN Obj.txNextSeq e next) s

/-- Datagrams per frame of an ST2022_6 flow (R140). -/
def datagrams (carriage f : Nat) : Nat :=
  let r := carriageBits carriage f
  let p := fmtPeriod f
  ceilDiv (r.1 * p.num) (r.2 * p.den * 8 * 1376)

/-- Packets per frame of a video entry. -/
def State.txFramePackets (s : State) (lead f : Nat) : Nat :=
  if s.n Obj.txEssence lead = 5 then datagrams (Objs.txCarriageOf s.objs lead) f
  else framePackets f (s.n Obj.txPacketBytes lead)

/-- The exact scheduled departure of packet k of a frame, in seconds (R138, R140). Of an interlaced or psF frame the formula of R138
packs both fields into one span of active lines, so that packets of field 2 leave in the blanking between the fields, which R138
also forbids; the model follows the formula: DESIGN CHOICE, notes/assumptions/68.md. -/
def State.txSchedule (s : State) (lead f align k : Nat) : Nat × Nat :=
  let p := fmtPeriod f
  let n := s.txFramePackets lead f
  let (ra, rb) := if s.n Obj.txEssence lead = 1 && s.n Obj.txSenderType lead = 0
    then (rasterHeight (fmtRaster f), rasterLines (fmtRaster f)) else (1, 1)
  addFrac (addFrac (alignSec f (s.n Obj.dstTimingOffset (s.n Obj.txSource lead)) align) (Objs.troSec s.objs lead f))
    (k * p.num * ra, p.den * n * rb)

/-- Whether a format is sent as two fields or segments. -/
def sentAsFields (f : Nat) : Bool := rasterInterlaced (fmtRaster f) || fmtRaster f == 5

/-- The row segments of packet k of the n of an ST2110_20 frame with P bytes of pixel data (R136): pixels go on across line ends, and
each field ends with its own last packet. Lines count from 0 in the field. -/
def packetRows (f p k n : Nat) : List Segment :=
  let fields := if sentAsFields f then 2 else 1
  let per := n / fields
  let w := rasterWidth (fmtRaster f)
  let g := pixelGroup (fmtSampling f)
  let a := k % per * (p / g.1 * g.2)
  let b := min (w * (rasterHeight (fmtRaster f) / fields)) (a + p / g.1 * g.2)
  (List.range ((b + w - 1) / w - a / w)).map fun i =>
    let l := a / w + i
    ⟨l, max a (l * w) - l * w, min b (l * w + w) - max a (l * w), fields = 2 && per ≤ k⟩

/-- The bytes of a video packet on the wire, without preamble and gap: its pixel groups under one sample row data header for each line
that they lie on (R41, R136), or a datagram. -/
def State.txPacketSize (s : State) (lead f : Nat) (rows : List Segment) : Nat :=
  let x := Objs.txFlow s.objs lead
  if s.n Obj.txEssence lead = 5 then x.packet + x.header - 20
  else
    let g := pixelGroup (fmtSampling f)
    (rows.map (·.count)).sum / g.2 * g.1 + 6 * (rows.length - 1) - 20 +
      flowHeader 1 (Objs.portVlan s.objs x.port) (s.by Obj.txDstAddr lead).length true

/-- The largest pacing error (R138). -/
def State.pacing (s : State) (lead scheduled : Nat) : State :=
  let err := absDiff s.ptp scheduled
  (Objs.txPaths s.objs lead).foldl (fun t e => t.setN Obj.txPacingErrMax e (max err (t.n Obj.txPacingErrMax e))) s

/-- Whether a flow generates packets: some path is not IDLE, ARMED or STANDBY. -/
def State.txRuns (s : State) (lead : Nat) : Bool :=
  s.live && (Objs.txPaths s.objs lead).any fun e => [2, 3, 4].contains (s.n Obj.txFlowState e)

/-! ## Settings of frames and packets that a TAKE finds in flight (R129) -/

/-- The objects of a flow that a frame in flight goes by, as a configuration had them. -/
def Objs.txSettings (c : Objs) (e : Nat) : List (Nat × Val) :=
  ((List.range 27).map (0x6C00 + ·) ++ [Obj.txFlowState, Obj.txSsrcInUse, Obj.txNextSeq, Obj.txFormatLive]).map fun i =>
    (adr i e, Objs.val c (adr i e))

/-- Objects set to listed values. -/
def State.setObjs (s : State) (l : List (Nat × Val)) : State :=
  { s with objs := l.foldl (fun c p => Objs.set c p.1 p.2) s.objs }

/-- The entries whose settings are kept for what is in flight. -/
def heldPaths (x : TxEntry) : List Nat := (x.held.map fun p => adrSub p.1).eraseDups

/-- What the flow of an entry is doing. -/
def TxEntry.run (x : TxEntry) : TxRun := ⟨x.frame, x.shown, x.sdi, x.audioNext, x.startAt, x.frames, x.embedded, x.opaque_⟩

/-- An entry whose flow does something else. -/
def TxEntry.doing (x : TxEntry) (r : TxRun) : TxEntry :=
  { x with
    frame := r.frame, shown := r.shown, sdi := r.sdi, audioNext := r.audioNext, startAt := r.startAt, frames := r.frames
    embedded := r.embedded, opaque_ := r.opaque_ }

/-- An entry that keeps what its flow was doing before a TAKE, and its settings then. -/
def TxEntry.keeping (x : TxEntry) (r : TxRun) (l : List (Nat × Val)) : TxEntry := { x with heldRun := some r, held := l }

/-- The flow as it stood before a TAKE: its settings, and where it ended or restarted what it was doing too. -/
def State.heldFlow (s : State) (e : Nat) : State :=
  let x := s.txe e
  let t := (heldPaths x).foldl (fun t q =>
    t.setTxe q { t.txe q with mac := (t.txe q).heldMac.orElse fun _ => (t.txe q).mac }) (s.setObjs x.held)
  match x.heldRun with
  | some r => t.setTxe e ((t.txe e).doing r)
  | none => t

/-- The flow as it stands since the TAKE, after a packet of the flow before it. -/
def State.unheldFlow (s u : State) (e : Nat) : State :=
  let x := s.txe e
  let y := u.txe e
  let t := (heldPaths x).foldl (fun t q => t.setTxe q { t.txe q with mac := (s.txe q).mac })
    (u.setObjs (x.held.map fun p => (p.1, Objs.val s.objs p.1)))
  match x.heldRun with
  | some _ => t.setTxe e (((t.txe e).doing x.run).keeping y.run (x.held.map fun p => (p.1, Objs.val u.objs p.1)))
  | none => t

/-- Nothing of a flow is in flight any more from before a TAKE. -/
def State.dropHeld (s : State) (e : Nat) : State :=
  let t := (heldPaths (s.txe e)).foldl (fun t q => t.setTxe q { t.txe q with heldMac := none }) s
  t.setTxe e { t.txe e with held := [], heldRun := none }

/-- A packet of a flow: by the settings before the last TAKE where a test on that flow says so, otherwise by its own. -/
def State.txUnder (s : State) (e : Nat) (before : State → Bool) (f : State → State) : State :=
  let x := s.txe e
  if x.held.isEmpty then f s
  else
    let u := s.heldFlow e
    if before u then s.unheldFlow (f u) e else f (s.dropHeld e)

/-- Whether the frame that a video or ancillary flow sends next lies before a boundary. -/
def State.frameBefore (s : State) (e b : Nat) : Bool :=
  match (s.txe e).frame with
  | some (a, _) => a < b
  | none => (s.dst (s.n Obj.txSource e)).shown.elim false fun x => x.align < b

/-- Whether a change gives an audio entry other packets: their samples, or their clock (R134). -/
def retimed (old new : Objs) (e : Nat) : Bool :=
  [Obj.txPacketTime, Obj.txAudioRate].any fun i => Objs.n old i e != Objs.n new i e

/-- The settings of a flow are kept for what is in flight at a TAKE; those of an earlier TAKE stay while they are needed. -/
def State.holdTx (s : State) (old : Objs) (lead boundary : Nat) : State :=
  let x := s.txe lead
  let ended := !Objs.b s.objs Obj.txEnable lead || Objs.txLeadEntry s.objs lead != lead ||
    Objs.n old Obj.txEssence lead != s.n Obj.txEssence lead
  let again := ended || retimed old s.objs lead
  let keep := !x.held.isEmpty && ((x.heldRun.elim x.frame (·.frame)).elim false fun p => p.1 < x.heldUntil)
  if keep then s
  else
    let all := (Objs.txPaths old lead).flatMap (Objs.txSettings old)
    let runs := [Obj.txSsrcInUse, Obj.txNextSeq, Obj.txFormatLive]
    let t := (Objs.txPaths old lead).foldl (fun u q => u.setTxe q { u.txe q with heldMac := none }) s
    t.setTxe lead { t.txe lead with
      held := if ended then all else all.filter fun p => !runs.contains (adrIndex p.1)
      heldUntil := boundary
      heldRun := if again then some x.run else none }

/-- The SDI stream that an ST2022_6 flow sends of an output frame: what an SDI port would send for the destination, by the entry's own
settings (R66, R71, R75, R140). A stored packet that finds no room counts in the entry's TxAncDropped, and SDI_ANC_TX_DROP names the
entry as R114 does. -/
def State.beginStream (s : State) (lead d : Nat) (x : Shown) : State :=
  let y := s.txe lead
  let carriage := Objs.txCarriageOf s.objs lead
  let rate := carriageRate carriage x.format
  let placed := if s.b Obj.txAncEnable lead then placeAnc x.format [] x.anc else ([], 0)
  let n := embedSamples x.format y.frames
  let frame := sdiOutput (65536 + lead) x rate 0 [Config.payloadId carriage x.format (s.n Obj.dstColourInForce d) 0 1]
    (embeddedGroups (s.n Obj.txEmbAudioBase lead) (s.n Obj.txEmbAudioGroups lead) rate n y.embedded) placed.1
  let t := s.setTxe lead { y with sdi := some frame, frames := y.frames + 1, embedded := y.embedded + n }
  if placed.2 = 0 then t
  else ((Objs.txPaths t.objs lead).foldl (fun u e => u.bump Obj.txAncDropped e placed.2) t).raise Ev.sdiAncTxDrop (65536 + lead)

/-- The first packet of a frame of a video flow: the live format and its session description change with it (R151), an ST2022_6 flow
takes the SDI stream of the frame (R140), and the ledger has the frame emitted at its scheduled time (R28, R139). -/
def State.beginFrame (s : State) (lead d : Nat) (x : Shown) : State :=
  let t := (Objs.txPaths s.objs lead).foldl (fun u e => (u.setN Obj.txFormatLive e x.format).refreshSdp e) s
  let t := t.setTxe lead { t.txe lead with shown := some x }
  let t := if t.n Obj.txEssence lead = 5 then t.beginStream lead d x else t
  t.emitFrame d 8 (x.read + Objs.emitDelay t.objs d)

/-- The output frame from which a video flow takes its next packet: the one that it has begun, to its last packet (R136), else the
one that its destination shows. -/
def State.txShown (s : State) (e : Nat) : Option Shown :=
  if (s.txe e).frame.isSome then (s.txe e).shown else (s.dst (s.n Obj.txSource e)).shown

/-- TX_PACKET_DEPARTURE (R134, R136, R138 to R140, R333): the next packet of a video flow, named by its lead entry, within 50 ns of its
scheduled time or after it. -/
def execTxPacketDeparture (dt entry : Nat) (s : State) : Result :=
  act dt s fun t0 => t0.txUnder entry (fun u => u.frameBefore entry (u.txe entry).heldUntil) fun t =>
    if !(t.txRuns entry && Objs.txLeadEntry t.objs entry == entry &&
        (t.n Obj.txEssence entry == 1 || t.n Obj.txEssence entry == 5)) then t
    else
    let d := t.n Obj.txSource entry
    match t.txShown entry with
    | none => t
    | some x =>
      let begin_ := (t.txe entry).frame.isNone
      let late := t.tw.drain.elim false fun b => b ≤ x.align
      let (align, k) := (t.txe entry).frame.getD (x.align, 0)
      let sched := t.txSchedule entry x.format align k
      if (begin_ && (x.emitted || x.align < (t.txe entry).startAt || late)) || x.pic = .blanking || t.ptp + 50 < secNs sched then t
      else
        let n := t.txFramePackets entry x.format
        let sdi := t.n Obj.txEssence entry = 5
        let two := !sdi && sentAsFields x.format
        let ts := if sdi then rtpTime sched 27000000 else rtpTime (t.fieldTime d x.format align (two && n / 2 ≤ k)) 90000
        let marker := k + 1 = n || (two && k + 1 = n / 2)
        let t1 := if begin_ then t.beginFrame entry d x else t
        let rows := packetRows x.format (t1.n Obj.txPacketBytes entry) k n
        let payload := match if sdi then (t1.txe entry).sdi else none with
          | some y => Payload.sdi y k
          | none => .pixels x.pic rows
        let t2 := (t1.sendPacket entry ts marker (t1.txPacketSize entry x.format rows) payload).pacing entry (secNs sched)
        let t3 := t2.setTxe entry { t2.txe entry with
          frame := if n ≤ k + 1 then none else some (align, k + 1)
          shown := if n ≤ k + 1 then none else (t2.txe entry).shown }
        if t3.standby then t3.refreshTxAll else t3

/-- The first sample of the next packet of an audio flow: a multiple of the samples per packet, at or after the boundary
from which the entry acts (R129, R134). -/
def State.txAudioIndex (s : State) (e : Nat) : Nat :=
  let n := packetSamples (s.n Obj.txPacketTime e) (s.n Obj.txAudioRate e)
  (s.txe e).audioNext.getD (ceilDiv ((s.txe e).startAt * s.txAudioHz e) (tcSec * n) * n)

/-- The kind of reader of Cornice that an audio flow is: rate and word length (R142). -/
def State.txReader (s : State) (e : Nat) : Nat × Nat :=
  (if s.n Obj.txAudioRate e = 1 then 96 else 48, if s.n Obj.txEssence e = 2 && s.n Obj.txAudioDepth e = 0 then 16 else 24)

/-- The output channels of an audio flow emit their samples up to the number of one at the flow's rate (R134). -/
def State.txRunOut (s : State) (e n : Nat) : State :=
  (List.range (s.n Obj.txAudioChannels e)).foldl (fun t k => t.runOut (s.n Obj.txSource e + k) (96 / (s.txReader e).1 * n)) s

/-- What an audio packet of n sample instants from the number `at_` carries (R125, R134, R142): the words that Cornice has given its
output channels for this kind of reader, and for ST2110_31 what goes with each. -/
def State.audioPayload (s : State) (e at_ n : Nat) : Payload :=
  let base := s.n Obj.txSource e
  let count := s.n Obj.txAudioChannels e
  let es := s.n Obj.txEssence e
  let words := (List.range n).flatMap fun i => (List.range count).map fun k => (s.aout (base + k)).sentWord (s.txReader e) (at_ + i)
  .audio base count (words.map (·.1)) (if es = 3 then words.map (·.2) else [])

/-- TX_AUDIO_PACKET (R134, R142): the next packet of an audio flow; it leaves 8 µs after the media time that follows its last
sample. TxPacingErrMax takes its deviation from that time as it does those of R138: DESIGN CHOICE, notes/assumptions/77.md. -/
def execTxAudioPacket (dt entry : Nat) (s : State) : Result :=
  act dt s fun t0 => t0.txUnder entry
      (fun u => tcSec * u.txAudioIndex entry < (u.txe entry).heldUntil * u.txAudioHz entry) fun t =>
    let n := packetSamples (t.n Obj.txPacketTime entry) (t.n Obj.txAudioRate entry)
    let i := t.txAudioIndex entry
    if !(t.txRuns entry && Objs.txLeadEntry t.objs entry == entry &&
        (t.n Obj.txEssence entry == 2 || t.n Obj.txEssence entry == 3) &&
        1000000000 * (i + n) / t.txAudioHz entry + 7000 ≤ t.ptp) then t
    else
    let x := Objs.txFlow t.objs entry
    let sched := 1000000000 * (i + n) / t.txAudioHz entry + 8000
    let t0 := t.txRunOut entry (i + n)
    let t1 := (t0.sendPacket entry (i % 2 ^ 32) false (x.packet + x.header - 20) (t0.audioPayload entry i n)).pacing entry sched
    let t2 := t1.setTxe entry { t1.txe entry with audioNext := some (i + n) }
    if t2.standby then t2.refreshTxAll else t2

/-- ANC packets cut into RTP payloads of at most 1,420 bytes; a field without packets has one empty payload (R141). -/
def ancPackets : List Anc → List Anc → List (List Anc)
  | [], now => [now]
  | p :: t, now =>
    if !now.isEmpty && 1420 < (now.map (·.size)).sum + p.size then now :: ancPackets t [p] else ancPackets t (now ++ [p])

/-- The packets that fit under a limit of bytes, in order, and how many do not (R141). A packet counts with its size in the side-data
area, here and in the 1,420 bytes of `ancPackets`: DESIGN CHOICE, notes/assumptions/78.md. -/
def ancFit (room : Nat) : List Anc → List Anc × Nat
  | [] => ([], 0)
  | p :: t => if p.size ≤ room then let r := ancFit (room - p.size) t; (p :: r.1, r.2) else let r := ancFit 0 t; (r.1, r.2 + 1)

/-- The stored packets of an output frame that an ST2110_40 flow sends in one field (R141). -/
def State.ancChosen (s : State) (e : Nat) (x : Shown) (field2 : Bool) : List Anc :=
  x.anc.filter fun p => (p.field2 && sentAsFields x.format) == field2 &&
    !ancDropped (s.by Obj.txAncDrop e) p.did p.sdid && (!ancIsPid p || s.b Obj.txAncPayloadId e)

/-- One RTP payload of an ST2110_40 flow (R141): VANC packets carry offset 0, HANC packets the active width. -/
def ancPayload (f : Nat) (field2 : Bool) (l : List Anc) : Payload :=
  .anc (if field2 then 2 else 1) (l.map fun p => (p, if p.vanc then 0 else rasterWidth (fmtRaster f)))

/-- The scheduled departure of the first video packet of a field of a destination's flow (R138). -/
def State.videoSchedule (s : State) (d : Nat) (x : Shown) (field2 : Bool) : Option Nat :=
  ((Objs.txEntries s.objs).find? fun e => s.n Obj.txEssence e == 1 && s.n Obj.txSource e == d &&
    Objs.txLeadEntry s.objs e == e).map fun e =>
      secNs (s.txSchedule e x.format x.align (if field2 then s.txFramePackets e x.format / 2 else 0))

/-- Whether the packets of a field of an ST2110_40 flow leave now: once, in the 20 µs before the first video packet of the field, for
a frame from the entry's boundary on (R129, R141); no packet leaves between two formats (R199). -/
def State.ancLeaves (s : State) (e : Nat) (x : Shown) (field2 : Bool) : Bool :=
  (!field2 || sentAsFields x.format) && x.pic != .blanking && (s.txe e).startAt ≤ x.align &&
    !((s.txe e).ancFrame == x.align && (s.txe e).ancSent.contains field2) &&
    (s.videoSchedule (s.n Obj.txSource e) x field2).elim false fun a => a ≤ s.ptp + 20000 && s.ptp ≤ a

/-- One ancillary packet of a field leaves (R141). -/
def State.sendAncPacket (s : State) (e ts format : Nat) (field2 : Bool) (l : List Anc) (last : Bool) : State :=
  s.sendPacket e ts last ((Objs.txFlow s.objs e).header - 20 + (l.map (·.size)).sum) (ancPayload format field2 l)

/-- The packets of one field leave (R141), of those that the limit of a frame's bytes lets through. Packets of a frame that is still
being received that come after this are not sent, and those beyond the limit count on the lead entry of a pair: DESIGN CHOICE,
notes/assumptions/78.md. -/
def State.sendAnc (s : State) (e : Nat) (x : Shown) (field2 : Bool) : State :=
  let y := s.txe e
  let same := y.ancFrame = x.align
  let sent := if same then y.ancBytes else 0
  let p := fmtPeriod x.format
  let (fit, dropped) := ancFit (s.n Obj.txDeclaredRate e * p.num / (p.den * 8) - sent) (s.ancChosen e x field2)
  let ts := rtpTime (s.fieldTime (s.n Obj.txSource e) x.format x.align field2) 90000
  let t := (Objs.txPaths s.objs e).foldl (fun u q =>
    if u.n Obj.txFormatLive q = x.format then u else (u.setN Obj.txFormatLive q x.format).refreshSdp q) s
  let cut := ancPackets fit []
  let t := cut.dropLast.foldl (fun u l => u.sendAncPacket e ts x.format field2 l false) t
  let t := t.sendAncPacket e ts x.format field2 (cut.getLastD []) true
  let t := t.setTxe e { t.txe e with
    ancFrame := x.align
    ancBytes := sent + (fit.map (·.size)).sum
    ancSent := if same then field2 :: y.ancSent else [field2] }
  if dropped = 0 then t else (t.bump Obj.txAncDropped e dropped).raiseLimited Ev.txAncDrop e e

/-- TX_ANC_PACKETS (R129, R141): the packets of one field of an ST2110_40 flow. -/
def execTxAncPackets (dt entry : Nat) (field2 : Bool) (s : State) : Result :=
  act dt s fun t0 => t0.txUnder entry (fun u => u.frameBefore entry (u.txe entry).heldUntil) fun t =>
    if !(t.txRuns entry && Objs.txLeadEntry t.objs entry == entry && t.n Obj.txEssence entry == 4) then t
    else match (t.dst (t.n Obj.txSource entry)).shown with
    | none => t
    | some x => if t.ancLeaves entry x field2 then t.sendAnc entry x field2 else t

/-- The bytes of a forwarded packet on the wire of one path, without preamble and gap: its size in the receive buffer (R111) with the
headers of that path in place of those with which it came (R143). -/
def State.forwardBytes (s : State) (e : Nat) (p : Rtp) : Nat :=
  let rx := s.n Obj.txSource e
  p.bytes + flowHeader 6 (Objs.portVlan s.objs (s.n Obj.txPort e)) (s.by Obj.txDstAddr e).length false - 20 -
    flowHeader 6 (Objs.portVlan s.objs (s.n Obj.rxPort rx)) p.dst.length false

/-- TX_OPAQUE_FORWARD (R129, R143): the oldest released packet, 1,200 ns after its release, unchanged from the RTP header on; one
released before a TAKE goes by the settings before it. -/
def execTxOpaqueForward (dt entry : Nat) (s : State) : Result :=
  act dt s fun t0 => t0.txUnder entry
      (fun u => (u.txe entry).opaque_.head?.elim false fun p => tcNs * p.2 < (u.txe entry).heldUntil) fun t =>
    if !(t.txRuns entry && t.n Obj.txEssence entry == 6) then t
    else match (t.txe entry).opaque_ with
    | (p, at_) :: rest =>
      if t.ptp < at_ + 1200 then t
      else
        (Objs.txPaths t.objs entry).foldl (fun u e =>
          match u.n Obj.txFlowState e with
          | 3 =>
            ((u.bump Obj.txPackets e).countTx (u.n Obj.txPort e) (u.forwardBytes e p)).emit
              (.packet e (u.txHead e) p.payloadType p.ssrc p.seq p.timestamp p.marker (u.forwardBytes e p) (.forward p))
          | 4 => u.bump Obj.txPortDownDiscards e
          | 2 => u.bump Obj.txUnresolvedDrops e
          | _ => u) (t.setTxe entry { t.txe entry with opaque_ := rest })
    | [] => t

/-! ## Resolution (R145) -/

/-- TX_RESOLVE_RENEW (R145): the resolution of a unicast destination is tried again, once resolved every 60 s. -/
def execTxResolveRenew (dt entry : Nat) (s : State) : Result :=
  actIf dt s (fun t => t.live && !t.standby && t.b Obj.txEnable entry && !multicast (t.by Obj.txDstAddr entry) &&
      t.portN (t.n Obj.txPort entry) Obj.portLinkState == 2 &&
      ((t.txe entry).resolveAt.isSome || (t.txe entry).triedAt + 60000000000 ≤ t.ptp)) fun t =>
    let keep := (t.txe entry).resolveAt
    let u := t.resolve entry
    u.setTxe entry { u.txe entry with resolveAt := keep.orElse fun _ => (u.txe entry).resolveAt }

/-- TX_UNRESOLVED (R145): RESOLVING, or a renewal of an entry that is SENDING fails, for 3 s. -/
def execTxUnresolved (dt entry : Nat) (s : State) : Result :=
  actIf dt s (fun t => t.live && (t.n Obj.txFlowState entry == 2 || t.n Obj.txFlowState entry == 3) && !(t.txe entry).unresolvedRaised &&
      ((t.txe entry).resolveAt.elim false fun a => a + 3000000000 ≤ t.ptp)) fun t =>
    (t.setTxe entry { t.txe entry with unresolvedRaised := true }).raise Ev.txUnresolved entry

/-- A resolution arrives for the entries of a port that send to an address (R145). -/
def State.resolved (s : State) (port : Nat) (addr mac : List Byte) : State :=
  ((Objs.txEntries s.objs).filter fun e => s.n Obj.txPort e == port && s.by Obj.txDstAddr e == addr).foldl
    (fun t e => (t.setTxe e { t.txe e with mac := some mac, resolveAt := none, unresolvedRaised := false }).refreshTx e) s

/-- An entry that ran before a commit with the same essence, among the paths of a flow: the flow goes on (R129, R133). -/
def Objs.txGoesOn (old new : Objs) (lead : Nat) : Option Nat :=
  (Objs.txPaths new lead).find? fun e => Objs.b old Obj.txEnable e && Objs.n old Obj.txEssence e == Objs.n new Obj.txEssence e

/-- Packets that a flow still sends with its own numbers before a boundary: the rest of the frame in flight, or the audio packets
whose first sample lies before it (R129). -/
def State.txInFlight (s : State) (lead boundary : Nat) : Nat :=
  let x := s.txe lead
  match x.frame, x.audioNext with
  | some (_, k), _ => s.txFramePackets lead (s.n Obj.txFormatLive lead) - k
  | none, some i =>
    let n := packetSamples (s.n Obj.txPacketTime lead) (s.n Obj.txAudioRate lead)
    ceilDiv (ceilDiv (boundary * s.txAudioHz lead) tcSec - i) n
  | none, none => 0

/-- A flow goes on with a path that is newly in force, or under another lead (R129, R133, R148): what stands with the lead moves with
it, and every path has the flow's SSRC and number. -/
def State.txContinue (s : State) (old : Objs) (lead from_ boundary : Nat) : State :=
  let was := Objs.txLeadEntry old from_
  let y := s.txe was
  let x := s.txe lead
  let ssrc := s.n Obj.txSsrcInUse from_
  let left := if was = lead then 0 else s.txInFlight was boundary
  let next := (s.n Obj.txNextSeq from_ + left) % seqMod (s.n Obj.txEssence lead)
  let t := if was = lead then s else
    s.setTxe lead { x with drawn := y.drawn, startAt := boundary, opaque_ := y.opaque_, frames := y.frames, embedded := y.embedded }
  (Objs.txPaths t.objs lead).foldl (fun u e =>
    let u := (u.setN Obj.txSsrcInUse e ssrc).setN Obj.txNextSeq e next
    if Objs.b old Obj.txEnable e then u
    else ((u.setTxe e { u.txe e with drawn := if u.n Obj.txSsrc e = 0 then some ssrc else (u.txe e).drawn }).readdress e).refreshTx e) t

/-- A flow meets a commit: it starts, restarts with a new essence, or goes on (R129, R132, R133). -/
def State.txFlowCommit (s : State) (old : Objs) (lead boundary : Nat) : State :=
  match Objs.txGoesOn old s.objs lead with
  | none => s.startTx lead boundary ((Objs.txPaths s.objs lead).any fun e => Objs.b old Obj.txEnable e)
  | some q =>
    let t := s.txContinue old lead q boundary
    let t := if Objs.n old Obj.txSsrc q != t.n Obj.txSsrc lead then t.chooseSsrc lead false else t
    if retimed old t.objs lead then t.setTxe lead { t.txe lead with audioNext := none, startAt := boundary } else t

/-- A commit reaches the transmit entries (R129, R130, R132, R133, R145): entries enabled, restarted, readdressed or disabled. -/
def State.txCommit (s : State) (old : Objs) (boundary : Nat) : State :=
  let touched := ((s.objs ++ old).filterMap fun p =>
    if 0x6C00 ≤ adrIndex p.1 && adrIndex p.1 ≤ 0x6C1A && Objs.val old p.1 != Objs.val s.objs p.1
    then some (adrSub p.1) else none).eraseDups
  let before := ((touched.filter fun e => Objs.b old Obj.txEnable e).map fun e => Objs.txLeadEntry old e).eraseDups
  let s := before.foldl (fun t e => t.holdTx old e boundary) s
  -- a partner that stays when its lead ends is the lead of the flow
  let flows := ((touched ++ before.flatMap fun e => Objs.txPaths old e).filter fun e => s.b Obj.txEnable e).map fun e =>
    Objs.txLeadEntry s.objs e
  let s := flows.eraseDups.foldl (fun t e => t.txFlowCommit old e boundary) s
  touched.foldl (fun t e =>
    let was := Objs.b old Obj.txEnable e
    let is := t.b Obj.txEnable e
    let moved := Objs.by old Obj.txDstAddr e != t.by Obj.txDstAddr e || Objs.n old Obj.txPort e != t.n Obj.txPort e
    let t := if is && was && moved then t.readdress e else t
    let t := if is then t
      else (t.setTxe e { t.txe e with frame := none, shown := none, audioNext := none, opaque_ := [] }).setN Obj.txFormatLive e 0
    (t.refreshTx e).refreshSdp e) s

end Sys2Proof.Machine
end

