-- ==== Sys2Proof/Machine/Coding.lean ====
section
/-!
DEFINITION. The serial coding of the Saddle link (R402 to R404): word headers, the additive scrambler and the bit stuffing of
the small configurations, the self-synchronous scrambler of the large one, and the words that a receive lane reads from the
bits of its line.
-/
namespace Sys2Proof.Machine

/-- The low n bits of a number, bit 0 first, as a payload is sent (R402, R403). -/
def lsbBits (n x : Nat) : List Bool := (List.range n).map (bit x)

/-- The number that bits spell, bit 0 first. -/
def ofBits (l : List Bool) : Nat := l.foldr (fun b a => b2n b + 2 * a) 0

/-- The initial state of transmit lane k's additive scrambler (R402). -/
def scramblerInit (k : Nat) : Nat := 0x7FFFFF - k

/-- The additive scrambler over the payload bits of a data word: the bits sent, and the state after them (R402). The same
function descrambles. -/
def scramble : List Bool → Nat → List Bool × Nat
  | [], x => ([], x)
  | p :: t, x =>
    let o := bit x 22 != bit x 17
    let r := scramble t ((2 * x + b2n o) % 2 ^ 23)
    ((p != o) :: r.1, r.2)

/-- The self-synchronous scrambler over payload bits (R403). Bit n - 1 of the history is y(-n). -/
def selfScramble : List Bool → Nat → List Bool × Nat
  | [], h => ([], h)
  | p :: t, h =>
    let y := (p != bit h 38) != bit h 57
    let r := selfScramble t ((2 * h + b2n y) % 2 ^ 58)
    (y :: r.1, r.2)

/-- The self-synchronous descrambler over received payload bits (R403). -/
def selfDescramble : List Bool → Nat → List Bool × Nat
  | [], h => ([], h)
  | y :: t, h =>
    let r := selfDescramble t ((2 * h + b2n y) % 2 ^ 58)
    (((y != bit h 38) != bit h 57) :: r.1, r.2)

/-- A run of equal bits after one more bit. -/
def BitRun.next (r : BitRun) (b : Bool) : BitRun := if r.last == b then ⟨b, r.count + 1⟩ else ⟨b, 1⟩

/-- Bit stuffing (R402): after 24 equal bits one bit of the opposite value, which begins a new run. -/
def stuff : List Bool → BitRun → List Bool × BitRun
  | [], r => ([], r)
  | b :: t, r =>
    if (r.next b).count = 24 then
      let u := stuff t ⟨!b, 1⟩
      (b :: (!b) :: u.1, u.2)
    else
      let u := stuff t (r.next b)
      (b :: u.1, u.2)

/-- Destuffing (R402): the bit after 24 equal bits is removed and begins a new run; one that equals the run is an error. The
bits kept, the run after them, and the errors. -/
def destuff : List Bool → BitRun → List Bool × BitRun × Nat
  | [], r => ([], r, 0)
  | b :: t, r =>
    if r.count = 24 then
      let u := destuff t ⟨b, 1⟩
      (u.1, u.2.1, u.2.2 + b2n (b == r.last))
    else
      let u := destuff t (r.next b)
      (b :: u.1, u.2.1, u.2.2)

/-- A word of transmit lane k: header, coded payload and, in the small configurations, stuffing (R402, R403). -/
def SaddleLane.code (x : SaddleLane) (k : Nat) (large control : Bool) (payload : Nat) : SaddleLane × List Bool :=
  let header := [control, !control]
  if large then
    let r := selfScramble (lsbBits 64 payload) x.txHist
    ({ x with txHist := r.2 }, header ++ r.1)
  else
    let r := if control then (lsbBits 32 payload, x.txScr) else
      let u := scramble (lsbBits 32 payload) (x.txScr.getD (scramblerInit k))
      (u.1, some u.2)
    let u := stuff (header ++ r.1) x.txRun
    ({ x with txScr := r.2, txRun := u.2 }, u.1)

/-- A word as a receive lane reads it: whether its header is valid, whether it is a control word, its payload before the
additive descrambler and after it, and whether a data word came before the first SEED and is discarded (R410). -/
structure RxWord where
  valid : Bool
  control : Bool
  raw : Nat
  payload : Nat
  discarded : Bool
  deriving DecidableEq, Repr

/-- The types of control words (R404). -/
def wordTypes : List Nat := [0x1E, 0x33, 0x4B, 0x55, 0x78]

/-- A word that is not invalid (R404). -/
def RxWord.ok (w : RxWord) : Bool := w.valid && (!w.control || wordTypes.contains (w.payload % 256))

/-- One word, header first, read by a receive lane. -/
def SaddleLane.takeWord (x : SaddleLane) (large : Bool) (word : List Bool) : SaddleLane × RxWord :=
  let h0 := word.getD 0 false
  let h1 := word.getD 1 false
  let body := word.drop 2
  if large then
    let r := selfDescramble body x.rxHist
    ({ x with rxHist := r.2 }, ⟨h0 != h1, h0 && !h1, ofBits r.1, ofBits r.1, false⟩)
  else if !h0 && h1 then
    match x.seed with
    | some d =>
      let r := scramble body d
      ({ x with seed := some r.2 }, ⟨true, false, ofBits body, ofBits r.1, false⟩)
    | none => (x, ⟨true, false, ofBits body, ofBits body, true⟩)
  else (x, ⟨h0 != h1, h0 && !h1, ofBits body, ofBits body, false⟩)

/-- The whole words of a list of destuffed bits; the first argument is their number. -/
def SaddleLane.takeWords (large : Bool) : Nat → SaddleLane → List Bool → SaddleLane × List RxWord
  | 0, x, rest => ({ x with rxRest := rest }, [])
  | n + 1, x, bits =>
    let w := if large then 66 else 34
    let r := x.takeWord large (bits.take w)
    let u := takeWords large n r.1 (bits.drop w)
    (u.1, r.2 :: u.2)

/-- The bits of a line taken by a receive lane: the lane after them, stuffing errors, and the words. -/
def SaddleLane.takeLine (x : SaddleLane) (large : Bool) (line : List Bool) : SaddleLane × Nat × List RxWord :=
  let d := if large then (line, x.rxRun, 0) else destuff line x.rxRun
  let bits := x.rxRest ++ d.1
  let u := SaddleLane.takeWords large (bits.length / (if large then 66 else 34)) { x with rxRun := d.2.1 } bits
  (u.1, d.2.2, u.2)

/-- The message in a row of words (R406): the START word, its data words, and whether an invalid word or another START falls
inside it. Control rows inside it are skipped; none where no START comes. -/
def messageIn (words : List RxWord) : Option (Nat × List Nat × Bool) :=
  match words.dropWhile (fun w => !(w.control && w.payload % 256 == 0x78)) with
  | [] => none
  | start :: rest =>
    let bad := rest.any fun w => !w.ok || (w.control && w.payload % 256 == 0x78)
    some (start.payload, (rest.filter fun w => w.valid && !w.control && !w.discarded).map (·.payload), bad)

end Sys2Proof.Machine
end

