-- ==== Sys2Proof/Machine/Lanes.lean ====
section
/-!
DEFINITION. Spur lanes and the Saddle link (chapter 13): modes, PLLs and reference inputs, PRBS checkers, bring-up, tap
training and messages. In commands named for lanes the number is that of the lane; in those named for the Saddle link it is
the lane's offset in the Saddle octet.
-/
namespace Sys2Proof.Machine

/-! ## Saddle lanes -/

/-- A Saddle lane. -/
def State.sl (s : State) (k : Nat) : SaddleLane := look s.sad.lanes k {}

/-- A Saddle lane changed. -/
def State.setSl (s : State) (k : Nat) (x : SaddleLane) : State :=
  { s with sad := { s.sad with lanes := put s.sad.lanes k x } }

/-- The offsets of the Saddle octet. -/
def eight : List Nat := [0, 1, 2, 3, 4, 5, 6, 7]

/-- Whether a lane lies in the Saddle octet in force, and its offset there. -/
def State.saddleOffset (s : State) (lane : Nat) : Option Nat :=
  match s.sad.base with
  | some b => if b ≤ lane && lane < b + 8 then some (lane - b) else none
  | none => none

/-- The large configuration. -/
def State.large (s : State) : Bool := s.sad.config == 2

/-- Lane rate of a configuration (R401). -/
def saddleRateOf : Nat → Nat
  | 0 => 10312500000
  | 1 => 12500000000
  | _ => 25781250000

/-- The receive lane, as an offset, of the peer's lane k (R411). -/
def State.rxOf (s : State) (k : Nat) : Nat := field (s.n Obj.saddleLaneOrder 0) (3 * k) (3 * k + 2)

/-- The peer's lane that a receive lane carries. -/
def State.peerLane (s : State) (r : Nat) : Nat := (eight.find? fun k => s.rxOf k == r).getD r

/-! ## Link states (R407, R414) -/

/-- SaddleState moves; SADDLE_UP, SADDLE_DOWN. -/
def State.setSaddle (s : State) (st : Nat) : State :=
  let old := s.n Obj.saddleState 0
  if old = st then s
  else
    let t := s.setN Obj.saddleState 0 st
    let t := if old = 4 then (t.bump Obj.saddleDownCount 0).raise Ev.saddleDown 0 else t
    let t := if st = 2 then { t with sad := { t.sad with skewRaised := false } } else t
    if st = 4 then t.raise Ev.saddleUp 0 else t

/-- A lane's training starts again from the taps in force. -/
def SaddleLane.retrain (x : SaddleLane) : SaddleLane :=
  { x with
    rxReady := false
    step := .start
    tapPre := false
    dirInc := true
    improved := false
    best := 0
    requests := 0
    reqPre := 0
    reqPost := 0
    awaiting := false }

/-- The TRAIN word of transmit lane k (R404, R405, R412): requests and readiness of the receiver for the peer's lane k, and the
statuses of the own lane k. -/
def State.trainWord (s : State) (k : Nat) : Nat :=
  let r := s.sl (s.rxOf k)
  let t := s.sl k
  let ready := if s.n Obj.saddleBringUp 0 = 0 then r.rxReady else s.b Obj.saddleRxReady (s.rxOf k)
  0x55 + 0x100 * r.reqPre + 0x400 * r.reqPost + 0x1000 * r.reqSeq + 0x8000 * b2n ready +
    0x10000 * t.statPre + 0x40000 * t.statPost + 0x100000 * t.acted

/-- The next TRAIN word of lane k leaves, coded on its line (R402, R403). The rows between two such words are not commands: the
line goes on from the last word that the model has sent (notes/assumptions/59.md). -/
def State.sendTrain (s : State) (k : Nat) : State :=
  let r := (s.sl k).code k s.large true (s.trainWord k)
  (s.setSl k r.1).emit (.saddle k r.2)

/-- Whether a receive lane sends RX_READY. -/
def State.laneReady (s : State) (r : Nat) : Bool :=
  if s.n Obj.saddleBringUp 0 = 0 then (s.sl r).rxReady else s.b Obj.saddleRxReady r

/-- TRAINING ends when RX_READY is sent and received on all eight lanes; SADDLE_TRAIN_DONE (R407, R413). -/
def State.checkReady (s : State) : State :=
  let mine := eight.all s.laneReady
  let t := if mine && !s.sad.doneRaised then
      { s with sad := { s.sad with doneRaised := true } }.raise Ev.saddleTrainDone 0
    else if !mine then { s with sad := { s.sad with doneRaised := false } } else s
  if t.n Obj.saddleState 0 = 3 && mine && eight.all (fun k => (t.sl k).peerReady) then t.setSaddle 4 else t

/-- ALIGNING ends when every lane is ALIGNED, has settled its polarity and, in small, has a SEED (R407). -/
def State.checkAligned (s : State) : State :=
  match s.sad.base with
  | none => s
  | some b =>
    if s.n Obj.saddleState 0 = 1 && eight.all (fun k =>
        s.n Obj.laneState (b + k) == 3 && (s.sl k).settled && (s.large || (s.sl k).seed.isSome))
    then s.setSaddle 2 else s

/-- The link falls back to ALIGNING (R414); the state of a lane's reception is as it was but for what the cause changes. -/
def State.saddleAlign (s : State) : State := if 2 ≤ s.n Obj.saddleState 0 then s.setSaddle 1 else s

/-- A receive lane of the Saddle octet loses its alignment or its clock (R414). -/
def State.saddleLaneLost (s : State) (k : Nat) : State :=
  let x := s.sl k
  let t := s.setSl k { x.retrain with settled := false, complements := 0, seed := none, marker := none, rxRest := [] }
  { t.saddleAlign with sad := { t.saddleAlign.sad with doneRaised := false } }

/-! ## Taps (R395, R396) -/

/-- The taps in force of a lane. -/
def State.setTaps (s : State) (lane pre post : Nat) : State :=
  ((s.setN Obj.laneTxPreInForce lane pre).setN Obj.laneTxPostInForce lane post).setN Obj.laneTxMain lane (63 - pre - post)

/-- R395's limits. -/
def tapsOk (pre post : Nat) : Bool := pre ≤ 12 && post ≤ 24 && pre + post ≤ 32

/-- The presets become the taps in force. -/
def State.presetTaps (s : State) (lane : Nat) : State :=
  s.setTaps lane (s.n Obj.laneTxPre lane) (s.n Obj.laneTxPost lane)

/-! ## Lane states and modes (R390) -/

/-- A lane's mode has changed: its state, its taps, its SDI service. -/
def State.laneModeSet (s : State) (lane : Nat) : State :=
  let m := s.n Obj.laneMode lane
  let t := s.setN Obj.laneState lane (if m = 0 then 0 else 1)
  let t := if m = 0 then t.setTaps lane 0 0 else t.presetTaps lane
  let t := if m = 1 then t else t.setN Obj.txDriverMode lane 0
  t.refreshLane lane

/-- The Saddle octet is formed (R400), when a paired device starts: its lanes are SADDLE with the preset taps. -/
def State.formSaddle (s : State) (base config : Nat) : State :=
  let t := { s with sad := { base := some base, config := config } }
  let t := eight.foldl (fun u k => (u.setN Obj.laneMode (base + k) 3).setN Obj.laneState (base + k) 1) t
  let t := eight.foldl (fun u k => u.presetTaps (base + k)) t
  t.setN Obj.saddleRate 0 (saddleRateOf config)

/-- LANE_CDR_LOCKED (R407): a receiver's clock recovery locks. -/
def execLaneCdrLocked (dt lane : Nat) (s : State) : Result :=
  actIf dt s (fun t => lane < 288 && t.n Obj.laneState lane == 1) fun t => t.setN Obj.laneState lane 2

/-- LANE_CLOCK_LOCK_LOST (R414): a receiver loses clock lock. -/
def execLaneClockLockLost (dt lane : Nat) (s : State) : Result :=
  actIf dt s (fun t => lane < 288 && 2 ≤ t.n Obj.laneState lane) fun t =>
    let u := t.setN Obj.laneState lane 1
    match u.saddleOffset lane with
    | some k => u.saddleLaneLost k
    | none => u

/-- LANE_ALIGNED (R408): 64 consecutive words with valid headers. -/
def execLaneAligned (dt lane : Nat) (s : State) : Result :=
  actIf dt s (fun t => lane < 288 && 2 ≤ t.n Obj.laneMode lane && t.n Obj.laneState lane == 2) fun t =>
    let u := (t.setN Obj.laneState lane 3).raise Ev.laneAligned lane
    match u.saddleOffset lane with
    | some k => (u.setSl k { u.sl k with slips := 0 }).checkAligned
    | none => u

/-- LANE_ALIGN_LOST (R408, R414): 16 of 64 words are invalid. -/
def execLaneAlignLost (dt lane invalid : Nat) (s : State) : Result :=
  actIf dt s (fun t => lane < 288 && t.n Obj.laneState lane == 3 && 16 ≤ invalid) fun t =>
    let u := ((t.setN Obj.laneState lane 2).bump Obj.laneHdrErrors lane invalid).raise Ev.laneAlignLost lane
    match u.saddleOffset lane with
    | some k => u.saddleLaneLost k
    | none => u

/-! ## PLLs and reference inputs (R391, R394) -/

/-- The OctetPllState bit of a PLL. -/
def pllBit : Pll → Nat
  | .eth => 0
  | .sdiInt => 1
  | .sdiM => 2

/-- The octets that a reference input feeds. -/
def State.octetsOf (s : State) (input : Nat) : List Nat := (List.range 36).filter fun o => s.n Obj.octetRef o == input

/-- Ethernet ports with a lane in an octet. -/
def State.octetPorts (s : State) (o : Nat) : List Nat :=
  (Objs.ports s.objs).filter fun p => (Objs.portLanes s.objs p).any fun l => l / 8 == o

/-- Whether an octet is the Saddle octet. -/
def State.octetSaddle (s : State) (o : Nat) : Bool := s.sad.base == some (8 * o)

/-- A PLL of an octet locks. -/
def State.pllLocked (s : State) (o : Nat) (p : Pll) : State :=
  let t := s.setBitN Obj.octetPllState o (pllBit p) true
  if p = .eth && t.octetSaddle o && t.n Obj.saddleState 0 = 0 then
    let t := t.setSaddle 1
    eight.foldl (fun u k => u.setSl k {}) t
  else t

/-- ETH_PLL_LOCK (R407). -/
def execEthPllLock (dt octet : Nat) (s : State) : Result :=
  actIf dt s (fun t => octet < 36 && !bit (t.n Obj.octetPllState octet) 0) fun t => t.pllLocked octet .eth

/-- OCTET_PLL_LOCK (R394): a PLL locks, or locks again. -/
def execOctetPllLock (dt octet : Nat) (pll : Pll) (s : State) : Result :=
  actIf dt s (fun t => octet < 36 && !bit (t.n Obj.octetPllState octet) (pllBit pll)) fun t => t.pllLocked octet pll

/-- The transmit lanes of an octet that an SDI PLL serves send idle. -/
def State.idleSdiLanes (s : State) (o : Nat) (p : Pll) : State :=
  ((List.range 8).map (8 * o + ·)).foldl (fun t l =>
    let rate := if t.n Obj.txRate l = 0xFFFF then t.n Obj.txRate (quadLead l) else t.n Obj.txRate l
    if t.n Obj.laneMode l = 1 && t.n Obj.txDriverMode l != 0 && sdiPllBit rate = pllBit p then
      (if Objs.txLead t.objs l = l then t.txIdleNow l 0 else t).setN Obj.txDriverMode l 0
    else t) s

/-- OCTET_PLL_UNLOCK (R394): a PLL loses lock while its reference is good. -/
def execOctetPllUnlock (dt octet : Nat) (pll : Pll) (s : State) : Result :=
  actIf dt s (fun t => octet < 36 && bit (t.n Obj.octetPllState octet) (pllBit pll)) fun t =>
    let u := (t.setBitN Obj.octetPllState octet (pllBit pll) false).raise Ev.octetPllUnlock octet
    match pll with
    | .eth =>
      let u := (u.octetPorts octet).foldl (fun v p =>
        if v.portN p Obj.portLinkState = 2 then
          ((v.setN (portIdx p Obj.portLinkState) (portNo p) 0).raise Ev.mpLinkDown p).refreshTxPort p
        else v) u
      if u.octetSaddle octet then eight.foldl (fun v k => v.saddleLaneLost k) (u.setSaddle 0) else u
    | p => u.idleSdiLanes octet p

/-- SPUR_REF_LOST (R394): the PLLs that use the input hold. -/
def execSpurRefLost (dt input : Nat) (s : State) : Result :=
  actIf dt s (fun t => input < 4 && t.n Obj.spurRefState input == 1) fun t =>
    (t.octetsOf input).foldl (fun u o => u.setBitN Obj.octetPllState o 3 true)
      (((t.setN Obj.spurRefState input 2).raise Ev.spurRefLost input).setReason 8 true)

/-- SPUR_REF_RESTORED (R394): an input has been good for 1 s; one seen for the first time becomes GOOD. -/
def execSpurRefRestored (dt input : Nat) (s : State) : Result :=
  actIf dt s (fun t => input < 4 && t.n Obj.spurRefState input != 1) fun t =>
    let lost := t.n Obj.spurRefState input = 2
    let u := (t.octetsOf input).foldl (fun u o => u.setBitN Obj.octetPllState o 3 false) (t.setN Obj.spurRefState input 1)
    let u := u.setReason 8 ((List.range 4).any fun i => u.n Obj.spurRefState i == 2)
    if lost then u.raise Ev.spurRefRestored input else u

/-! ## PRBS (R415, R416) -/

/-- The checker follows LanePrbsCheck. -/
def State.prbsSet (s : State) (lane : Nat) : State :=
  let on := s.n Obj.lanePrbsCheck lane != 0
  let st := s.n Obj.laneState lane
  let t := s.setN Obj.lanePrbsState lane (b2n on)
  if on && st != 0 then t.setN Obj.laneState lane 4 else if !on && st = 4 then t.setN Obj.laneState lane 2 else t

/-- A running generator on a Saddle lane takes the link out of UP (R415). -/
def State.prbsGenerator (s : State) (lane : Nat) : State :=
  if s.n Obj.lanePrbsMode lane != 0 && (s.saddleOffset lane).isSome then s.saddleAlign else s

/-- LANE_PRBS_LOCKED (R416). -/
def execLanePrbsLocked (dt lane : Nat) (inverted : Bool) (s : State) : Result :=
  actIf dt s (fun t => lane < 288 && t.n Obj.lanePrbsState lane == 1) fun t =>
    (t.setN Obj.lanePrbsState lane (if inverted then 3 else 2)).raise Ev.lanePrbsLocked lane

/-- LANE_PRBS_LOST (R416): the bits compared and the errors found; more than 32 of the last 1,024 lose the lock. -/
def execLanePrbsLost (dt lane bits errors : Nat) (s : State) : Result :=
  actIf dt s (fun t => lane < 288 && 2 ≤ t.n Obj.lanePrbsState lane) fun t =>
    let u := (t.bump Obj.lanePrbsBits lane bits).bump Obj.lanePrbsErrors lane errors
    if 32 < errors then ((u.setN Obj.lanePrbsState lane 1).bump Obj.lanePrbsLosses lane).raise Ev.lanePrbsLost lane else u

/-! ## Words (R404 to R412) -/

/-- A word received on a Saddle lane is heard: the octet exists and its receiver is ALIGNED. -/
def State.hears (s : State) (k : Nat) : Bool :=
  k < 8 && match s.sad.base with
    | some b => s.n Obj.laneState (b + k) == 3
    | none => false

/-- The bits of receive lane k's line as its receiver takes them, inverted where it has found the pair swapped (R409). -/
def State.lineBits (s : State) (k : Nat) (line : List Bool) : List Bool :=
  if s.n Obj.laneRxPolarityFound (s.sad.base.getD 0 + k) = 1 then line.map (!·) else line

/-- The words that receive lane k reads from the bits of its line, which begin where the command before it left off. -/
def State.heardWords (s : State) (k : Nat) (line : List Bool) : List RxWord :=
  ((s.sl k).takeLine s.large (s.lineBits k line)).2.2

/-- Receive lane k takes the bits of its line: LaneStuffErrors (R402) and invalid words in LaneHdrErrors (R404). -/
def State.hearLine (s : State) (k : Nat) (line : List Bool) : State :=
  let r := (s.sl k).takeLine s.large (s.lineBits k line)
  let b := s.sad.base.getD 0
  ((s.setSl k r.1).bump Obj.laneStuffErrors (b + k) r.2.1).bump Obj.laneHdrErrors (b + k) (r.2.2.countP fun w => !w.ok)

/-- An invalid word (R404). -/
def State.badWord (s : State) (k : Nat) : State :=
  match s.sad.base with
  | some b => s.bump Obj.laneHdrErrors (b + k)
  | none => s

/-- The complement of a payload. -/
def State.complement (s : State) (p : Nat) : Nat := (if s.large then 2 ^ 64 else 2 ^ 32) - 1 - p

/-- Whether a payload is a valid MARKER (R404). -/
def State.markerOk (s : State) (p : Nat) : Bool :=
  p % 256 == 0x33 && bit p 11 == s.large && field p 24 63 == 0

/-- Deskew (R411): every lane has a MARKER of one count, all within 32 rows of the first. -/
def State.deskew (s : State) : State :=
  if s.n Obj.saddleState 0 != 2 then s
  else
    let ms := eight.filterMap fun r => (s.sl r).marker.map fun m => (r, m)
    match ms with
    | [] => s
    | (_, _, c, row) :: _ =>
      if ms.length != 8 || !ms.all (fun m => m.2.2.1 == c) then s
      else
        let first := (ms.map fun m => m.2.2.2).foldl min row
        let last := (ms.map fun m => m.2.2.2).foldl max row
        if 32 < last - first then
          if s.sad.skewRaised then s else { s with sad := { s.sad with skewRaised := true } }.raise Ev.saddleSkew 0
        else
          let order := (eight.map fun k =>
            ((ms.find? fun m => m.2.1 == k).map (·.1)).getD 0 * 8 ^ k).sum
          (((s.setN Obj.saddleLaneOrder 0 order).setN Obj.saddleSkew 0 (last - first)).setSaddle 3).checkReady

/-- A MARKER on a receive lane, as a control word or, complemented, as a data word (R409, R411, R414). -/
def State.takeMarker (s : State) (lane p row : Nat) (data : Bool) : State :=
  let b := s.sad.base.getD 0
  let x := s.sl lane
  let n := if data then x.complements + 1 else 0
  let flip := n = 2
  let late := s.n Obj.saddleState 0 = 4 && x.marker.elim false fun m => row % 4096 != m.2.2 % 4096
  let t := s.setSl lane { (if late then x.retrain else x) with
    settled := true
    complements := if flip then 0 else n
    marker := if data && !flip then x.marker else some (field p 8 10, field p 12 23, row) }
  let t := if flip then
      t.setN Obj.laneRxPolarityFound (b + lane) (1 - t.n Obj.laneRxPolarityFound (b + lane)) else t
  (if late then t.saddleAlign else t).checkAligned.deskew

/-- SADDLE_MARKER (R409, R411, R414): the bits of a receive lane's line since the command before, up to the end of a word of the peer's
MARKER row: those `before` it and those of the `word`. `row` is the receive row of its arrival. In the small configurations a
complemented MARKER is seen before the descrambler, since it was sent in clear. -/
def execSaddleMarker (dt lane : Nat) (before word : List Bool) (row : Nat) (s : State) : Result :=
  actIf dt s (fun t => t.hears lane) fun t =>
    let u := t.hearLine lane (before ++ word)
    match (t.heardWords lane (before ++ word)).getLast? with
    | none => u
    | some w =>
      let p := if w.control then w.payload else t.complement w.raw
      if !w.valid then u
      else if t.markerOk p then u.takeMarker lane p row (!w.control)
      else if w.control && w.ok then u.badWord lane else u

/-- MARKER_MISSING (R414): no MARKER on a lane for 2 marker periods. -/
def execMarkerMissing (dt lane : Nat) (s : State) : Result :=
  actIf dt s (fun t => lane < 8 && t.n Obj.saddleState 0 == 4) fun t =>
    let x := t.sl lane
    (t.setSl lane { x.retrain with marker := none }).saddleAlign

/-- A SEED on a receive lane (R410): it is loaded, and one that differs from the descrambler's state is counted. -/
def State.takeSeed (s : State) (lane seed : Nat) : State :=
  let x := s.sl lane
  let differs := x.seed.isSome && x.seed != some seed
  let u := s.setSl lane { x with seed := some seed }
  let u := if differs then (u.bump Obj.saddleSeedMismatch 0).raiseLimited Ev.saddleSeedMismatch 0 lane else u
  u.checkAligned

/-- SADDLE_SEED (R410): the bits of a receive lane's line since the command before, up to the end of a SEED word: those `before` it
and those of the `word`; small configurations. -/
def execSaddleSeed (dt lane : Nat) (before word : List Bool) (s : State) : Result :=
  actIf dt s (fun t => t.hears lane && !t.large) fun t =>
    let u := t.hearLine lane (before ++ word)
    match (t.heardWords lane (before ++ word)).getLast? with
    | none => u
    | some w =>
      if !w.ok || !w.control then u
      else if w.payload % 256 != 0x4B || bit w.payload 31 then u.badWord lane
      else u.takeSeed lane (field w.payload 8 30)

/-- One tap's request at the transmitter: the tap, and NOT_UPDATED, UPDATED or AT_LIMIT (R412). -/
def tapMove (code v other most : Nat) : Nat × Nat :=
  match code with
  | 1 => if v < most && v + other < 32 then (v + 1, 1) else (v, 2)
  | 2 => if 0 < v then (v - 1, 1) else (v, 2)
  | _ => (v, 0)

/-- A request reaches transmit lane k: each sequence acts once (R412). -/
def State.actRequest (s : State) (k pre post seq : Nat) : State :=
  let x := s.sl k
  let lane := s.sad.base.getD 0 + k
  if seq = x.acted then s
  else
    let p0 := s.n Obj.laneTxPreInForce lane
    let q0 := s.n Obj.laneTxPostInForce lane
    if pre = 3 || post = 3 then
      ((s.presetTaps lane).setSl k { x with acted := seq, statPre := b2n (pre == 3), statPost := b2n (post == 3) }).sendTrain k
    else
      let a := tapMove pre p0 q0 12
      let b := tapMove post q0 a.1 24
      ((s.setTaps lane a.1 b.1).setSl k { x with acted := seq, statPre := a.2, statPost := b.2 }).sendTrain k

/-- A TRAIN word on a receive lane (R412 to R414). -/
def State.takeTrain (s : State) (lane payload : Nat) : State :=
  let k := s.peerLane lane
  let t := s.actRequest k (field payload 8 9) (field payload 10 11) (field payload 12 14)
  let ready := bit payload 15
  let was := (t.sl k).peerReady
  let t := t.setSl k { t.sl k with peerReady := ready }
  let x := t.sl lane
  let t := if x.awaiting && field payload 20 22 = x.reqSeq then
      t.setSl lane { x with awaiting := false, echoed := field payload 16 17 + 4 * field payload 18 19 } else t
  if t.n Obj.saddleState 0 = 4 && was && !ready then
    (t.setSl lane (t.sl lane).retrain).setSaddle 3
  else t.checkReady

/-- SADDLE_TRAIN_WORD (R412 to R414): the line of a receive lane up to the end of a TRAIN word. -/
def execSaddleTrainWord (dt lane : Nat) (line : List Bool) (s : State) : Result :=
  actIf dt s (fun t => t.hears lane && 3 ≤ t.n Obj.saddleState 0) fun t =>
    let u := t.hearLine lane line
    match (t.heardWords lane line).getLast? with
    | none => u
    | some w =>
      if !w.ok || !w.control then u
      else if w.payload % 256 != 0x55 || bit w.payload 23 then u.badWord lane
      else u.takeTrain lane w.payload

/-- A receive lane asks for a move of a tap: INC is true (R412, R413). -/
def State.requestTap (s : State) (r : Nat) (inc : Bool) (step : TrainStep) : State :=
  let x := s.sl r
  let code := if inc then 1 else 2
  (s.setSl r { x with
    reqPre := if x.tapPre then code else 0
    reqPost := if x.tapPre then 0 else code
    reqSeq := (x.reqSeq + 1) % 8
    requests := x.requests + 1
    awaiting := true
    step := step }).sendTrain (s.peerLane r)

/-- A receive lane has finished its training. -/
def State.laneDone (s : State) (r : Nat) : State :=
  ((s.setSl r { s.sl r with rxReady := true, step := .done }).sendTrain (s.peerLane r)).checkReady

/-- The loop of one tap is left: post is followed by pre, and pre ends the training (R413). -/
def State.leaveTap (s : State) (r : Nat) : State :=
  let x := s.sl r
  if x.tapPre then s.laneDone r
  else (s.setSl r { x with tapPre := true, dirInc := true, improved := false }).requestTap r true .moved

/-- SADDLE_TRAIN_STEP (R413): one step of a receive lane's training, with eye() in mV. -/
def execSaddleTrainStep (dt lane eye : Nat) (s : State) : Result :=
  actIf dt s (fun t => lane < 8 && t.sad.base.isSome && t.n Obj.saddleState 0 == 3 && t.n Obj.saddleBringUp 0 == 0 &&
      !(t.sl lane).awaiting && !(t.sl lane).rxReady) fun t =>
    let t := t.setN Obj.laneEyeHeight (t.sad.base.getD 0 + lane) eye
    let x := t.sl lane
    let status := if x.tapPre then x.echoed % 4 else x.echoed / 4
    if 64 ≤ x.requests then t.laneDone lane
    else match x.step with
      | .start => (t.setSl lane { x with best := eye }).requestTap lane true .moved
      | .moved =>
        if status = 2 then t.leaveTap lane
        else if x.best < eye then (t.setSl lane { x with best := eye, improved := true }).requestTap lane x.dirInc .moved
        else t.requestTap lane (!x.dirInc) .undone
      | .undone =>
        if x.dirInc && !x.improved then (t.setSl lane { x with dirInc := false }).requestTap lane false .moved
        else t.leaveTap lane
      | .done => t

/-! ## Slips (R408) -/

/-- Bits of a word. -/
def State.wordBits (s : State) : Nat := if s.large then 66 else 34

/-- A lane's word boundary moves one bit; an ALIGNED lane loses its alignment. -/
def State.slipLane (s : State) (k : Nat) : State :=
  match s.sad.base with
  | none => s
  | some b =>
    let x := s.sl k
    let t := s.setSl k { x with boundary := (x.boundary + 1) % s.wordBits }
    if t.n Obj.laneState (b + k) = 3 then (t.setN Obj.laneState (b + k) 2).saddleLaneLost k else t

/-- SADDLE_AUTO_SLIP (R408): Upland slips every lane that has clock lock and is not ALIGNED; after a full word length it waits
1 ms. -/
def execSaddleAutoSlip (dt : Nat) (s : State) : Result :=
  actIf dt s (fun t => t.sad.base.isSome && t.n Obj.saddleBringUp 0 == 0) fun t =>
    let b := t.sad.base.getD 0
    eight.foldl (fun u k =>
      let x := u.sl k
      if u.n Obj.laneState (b + k) = 2 && x.slipFrom ≤ u.now then
        let full := u.wordBits ≤ x.slips + 1
        (u.setSl k { x with
          slips := if full then 0 else x.slips + 1
          slipFrom := u.now + if full then 1000000 else 10000 }).slipLane k
      else u) t

/-! ## Writes (R408, R413, R414) -/

/-- SaddleTrainRequest's effect in MANUAL (R413). -/
def State.trainRequest (s : State) (r v : Nat) : State :=
  let x := s.sl r
  (s.setSl r { x with reqPre := field v 0 1, reqPost := field v 2 3, reqSeq := (x.reqSeq + 1) % 8, awaiting := true }).sendTrain
    (s.peerLane r)

/-- SaddleRestart's effect (R414): every lane restarts from the preset. -/
def State.saddleRestart (s : State) : State :=
  match s.sad.base with
  | none => s
  | some b =>
    let t := eight.foldl (fun u k =>
      ((u.setSl k {}).presetTaps (b + k))) s
    let t := { t with sad := { t.sad with doneRaised := false } }
    if t.n Obj.saddleState 0 = 0 then t else t.setSaddle 1

/-! ## Messages (R406) -/

/-- The bytes of a word's payload, P[0] first. -/
def State.wordBytes (s : State) (w : Nat) : List Byte := leBytes (if s.large then 8 else 4) w

/-- Whether a message is whole: type, length and CRC (R404, R406). -/
def State.messageOk (s : State) (start : Nat) (words : List Nat) : Bool :=
  start % 256 == 0x78 && field start 8 11 ≤ 6 && field start 12 31 == words.length && !words.isEmpty &&
    field (words.getLastD 0) 0 31 == crc32 ((start :: words.dropLast).flatMap s.wordBytes)

/-- The words of the eight receive lines in row order and, within a row, in logical lane order (R406, R411). -/
def State.heardRows (s : State) (lines : List (List Bool)) : List RxWord :=
  let ws := eight.map fun k => s.heardWords (s.rxOf k) (lines.getD (s.rxOf k) [])
  (List.range ((ws.map (·.length)).foldl max 0)).flatMap fun i => ws.filterMap fun l => l[i]?

/-- The eight receive lanes take the bits of their lines. -/
def State.hearLines (s : State) (lines : List (List Bool)) : State :=
  eight.foldl (fun t r => t.hearLine r (lines.getD r [])) s

/-- The eight receive lines of a message: their bits before it, in the row of its START, and in the rows after. -/
def messageLines (before start rest : List (List Bool)) : List (List Bool) :=
  eight.map fun r => before.getD r [] ++ start.getD r [] ++ rest.getD r []

end Sys2Proof.Machine
end

