-- ==== Sys2Proof/Machine/Ridge.lean ====
section
/-!
DEFINITION. The commands of Ridge (chapter 05): the writers of SDI and flow feeds, the test generators, the read starts of
destinations and partial frames.
-/
namespace Sys2Proof.Machine

/-! ## Writers (R16, R56, R157, R161) -/

/-- The payload ID word of a feed's signal. -/
def State.feedPid (s : State) (f : Feed) : Nat :=
  match f with
  | .sdi l => s.n Obj.rxPayloadId l
  | .flow e => if s.n Obj.rxEssence e = 5 then s.n Obj.embPayloadId e else 0
  | _ => 0

/-- The writer of an SDI feed begins a frame (R16, R23, R56, R61): its origin is the SAV of the first active line on the link that
arrives last, and the payload IDs read since the last frame act from here on (R58). A flow's frames begin with their packets (R113,
R114). -/
def State.beginWrite (s : State) (slot : Nat) (arrivals : List Nat) : State :=
  match Objs.feed s.objs slot with
  | .sdi l =>
    let t := s.applyPids l
    let o := t.originOf (.sdi l) (arrivals.foldl max 0) 0
    if t.slotLocked slot then
      let pic := fun n => if t.quad l then Pic.quad slot n (t.quadDivision l) (t.linkOrder l) else Pic.frame slot n
      (t.startFrame slot (newFrame (t.sdiFormat l) o.1 o.2.1 o.2.2 t.ptp pic (t.feedPid (.sdi l)) none [])).ancBegin l slot
    else t
  | _ => s

/-- The frame being written is complete. -/
def State.endWrite (s : State) (slot : Nat) : State :=
  match (s.src slot).frames.find? Frame.open_ with
  | some f => s.finishFrame slot f.seq
  | none => s

/-- Whether a feed is an SDI port or group. -/
def Feed.isSdi : Feed → Bool
  | .sdi _ => true
  | _ => false

/-- SOURCE_FRAME_WRITE (R16): the frame of an SDI feed begins, grows, completes or is abandoned; what the packets of a flow
do to its frames stands with PACKET_RELEASE. -/
def execSourceFrameWrite (dt slot : Nat) (part : FramePart) (s : State) : Result :=
  actIf dt s State.live fun t =>
    let sdi := (Objs.feed t.objs slot).isSdi
    match part with
    | .start arrivals => t.beginWrite slot arrivals
    | .lines n =>
      match (t.src slot).frames.find? Frame.open_ with
      | some f =>
        if sdi then t.setSrc slot ((t.src slot).mapFrame f.seq fun g => { g with lines := max g.lines n, lastLine := t.ptp })
        else t
      | none => t
    | .finish => if sdi then t.endWrite slot else t
    | .abandon =>
      match Objs.feed t.objs slot with
      | .sdi l => (t.abandonFrame slot).ancAbandon l
      | _ => t

/-- GENERATOR_FRAME_WRITE (R177): one frame per grid point of the slot's reserved format, written from the grid point. -/
def execGeneratorFrameWrite (dt slot : Nat) (s : State) : Result :=
  actIf dt s State.live fun t =>
    match Objs.feed t.objs slot with
    | .generator g =>
      let f := t.n Obj.srcReservedFormat slot
      let k := gridIndex (fmtPeriod f) t.tc
      if f = 0 || (t.src slot).generatorAt = some k then t
      else
        let w := gridPoint (fmtPeriod f) k / tcNs
        let u := t.refreshSlot slot
        let u := u.startFrame slot
          (newFrame f 3 w [] w (fun _ => u.genPic g k (Objs.srcColourOf u.objs slot)) 0 (some (w + fmtPeriodNs f)) [])
        u.setSrc slot { u.src slot with generatorAt := some k }
    | _ => t

/-! ## Readers -/

/-- Whether a destination reads at all: it has a reserved format and feeds a port, a flow or a stream (R21, R36, R172). -/
def State.reads (s : State) (d : Nat) : Bool :=
  s.n Obj.dstReservedFormat d != 0 && match Objs.sink s.objs d with
    | .none => false
    | .layer _ _ => false
    | _ => true

/-- The alignment point and the read start of the output frame of a format that a destination reads at a time: the last one whose
read start lies at or before it (R134, R139, R163). -/
def State.frameAt (s : State) (d f t : Nat) : Nat × Nat :=
  let k := Objs.frameIndex s.objs d f t
  (alignPoint f (s.n Obj.dstTimingOffset d) k, Objs.readAt s.objs d f k)

/-- The alignment point and the read start of the output frame that a destination reads at a time: on the grid of the format that it
is about to adopt from the start of that format's first frame on (R199). -/
def State.nextRead (s : State) (d t : Nat) : Nat × Nat :=
  match (s.dst d).adoptNext with
  | some (g, a) => let k := s.frameAt d g t; if a ≤ k.1 then k else s.frameAt d (s.dstFormat d) t
  | none => s.frameAt d (s.dstFormat d) t

/-- DESTINATION_READ_START (R163): the output frame of a destination that is no Cirque layer, once for each frame. The latency
of a Moraine stream's frame is taken at its read start, where the frame leaves Ridge (notes/assumptions/15.md). -/
def execDestinationReadStart (dt dst : Nat) (s : State) : Result :=
  actIf dt s (fun t => t.live && t.reads dst &&
      (t.dst dst).shown.elim true fun x => x.align != (t.nextRead dst t.ptp).1) fun t =>
    let (align, r) := t.nextRead dst t.ptp
    let u := t.readStart dst r align
    match Objs.sink u.objs dst with
    | .record n => (u.emitLedger dst 0 r).recordFrame n dst align
    | .delay l => (u.emitLedger dst 0 r).delayFrame l dst align
    | _ => u

/-- PARTIAL_FRAME (R169): the reader reaches a line that the writer has not completed; it takes that line and the later
ones from the previous complete frame. -/
def execPartialFrame (dt dst line : Nat) (s : State) : Result :=
  actIf dt s State.live fun t =>
    match (t.dst dst).shown with
    | some x =>
      if x.loss || x.store.isNone || x.wholePartial then t
      else
        match (t.src x.slot).frames.find? fun f => f.seq == x.seq with
        | some f =>
          if f.complete || line < f.lines || (f.finishAt.isSome && !f.abandoned) then t
          else
            let pic := Pic.partialOf x.pic ((t.src x.slot).previousPic x.seq) line
            let u := t.repaint dst { x with pic := pic, wholePartial := true }
            (u.bump Obj.dstPartialFrames dst).raiseLimited Ev.partialFrame dst dst
        | none => t
    | none => t

end Sys2Proof.Machine
end

