-- ==== Sys2Proof/Machine/MediaRx.lean ====
section
/-!
DEFINITION. Receive entries (chapter 03): matching, group membership, flow states, release and merge, depacketisation and
measurements.
-/
namespace Sys2Proof.Machine

/-! ## Entries -/

/-- The entries of a flow: the lead entry and its partner (R109). -/
def Objs.rxPaths (c : Objs) (lead : Nat) : List Nat :=
  let p := Objs.n c Obj.rxPartner lead
  if p != 0xFFFF && Objs.b c Obj.rxEnable p then [lead, p] else [lead]

/-- The match key of an entry (R93). -/
def Objs.rxKey (c : Objs) (e : Nat) : Nat × List Byte × Nat × List Byte :=
  (Objs.n c Obj.rxPort e, Objs.by c Obj.rxDstAddr e, Objs.n c Obj.rxUdpPort e, Objs.by c Obj.rxSrcFilter e)

/-- Whether a packet matches an entry, by the filter or by its absence (R93). -/
def Objs.rxMatch (c : Objs) (port : Nat) (p : Rtp) (specific : Bool) (e : Nat) : Bool :=
  let k := Objs.rxKey c e
  k.1 == port && k.2.1 == p.dst && k.2.2.1 == p.udpPort && (if specific then k.2.2.2 == p.src else k.2.2.2.isEmpty)

/-- The entries that salvos have pre-joined, each with the configuration of its salvo (R100). -/
def State.prejoined (s : State) : List (Objs × Nat) :=
  s.ce.salvos.flatMap fun x => x.2.prejoined.map fun e => (Objs.overlay s.objs x.2.changes, e)

/-- What a pre-joined entry measures by (R100). -/
def State.pre (s : State) (e : Nat) : RxEntry := look s.media.pre e {}

/-- What a pre-joined entry measures by, changed. -/
def State.setPre (s : State) (e : Nat) (x : RxEntry) : State :=
  { s with media := { s.media with pre := put s.media.pre e x } }

/-- The entry or pre-joined entry that takes a packet, source-specific before any-source: a configuration, the entry, and
whether it is in force. An entry in force goes on under its old settings until the TAKE, whatever it is pre-joined with (R98). -/
def State.rxTaker (s : State) (port : Nat) (p : Rtp) : Option (Objs × Nat × Bool) :=
  let now := Objs.rxEntries s.objs
  let goesOn := fun e => now.contains e && (Objs.rxMatch s.objs port p true e || Objs.rxMatch s.objs port p false e)
  let all := (now.map fun e => (s.objs, e, true)) ++ ((s.prejoined.filter fun x => !goesOn x.2).map fun x => (x.1, x.2, false))
  match all.find? fun x => Objs.rxMatch x.1 port p true x.2.1 with
  | some x => some x
  | none => all.find? fun x => Objs.rxMatch x.1 port p false x.2.1

/-! ## Group membership (R99 to R102) -/

/-- The record that a port holds for a group: EXCLUDE with no sources, or INCLUDE with the filters of the entries (R99). -/
def groupRecord (filters : List (List Byte)) : Bool × List (List Byte) :=
  if filters.any List.isEmpty then (true, []) else (false, filters.eraseDups)

/-- The records that the enabled and pre-joined entries of a port need. -/
def State.portRecords (s : State) (port : Nat) : List (List Byte × Bool × List (List Byte)) :=
  let all := ((Objs.rxEntries s.objs).map fun e => (s.objs, e)) ++ s.prejoined
  let mine := all.filter fun x => Objs.n x.1 Obj.rxPort x.2 == port && multicast (Objs.by x.1 Obj.rxDstAddr x.2)
  let groups := (mine.map fun x => Objs.by x.1 Obj.rxDstAddr x.2).eraseDups
  groups.map fun g =>
    (g, groupRecord ((mine.filter fun x => Objs.by x.1 Obj.rxDstAddr x.2 == g).map fun x => Objs.by x.1 Obj.rxSrcFilter x.2))

/-- The source address of a report: PortIpv4Addr, on a standby TwinStationIpv4, or the link-local address (R99, R373). -/
def State.reportSrc (s : State) (port : Nat) (group : List Byte) : List Byte :=
  if group.length = 4 then
    beBytes 4 (if s.standby then s.n Obj.twinStationIpv4 (Objs.portIndex s.objs port) else s.portN port Obj.portIpv4Addr)
  else linkLocal (s.portMacNow port)

/-- The version that a port speaks: IGMPv3 and MLDv2, or that of the oldest querier still present (R101, RFC 3376, RFC 3810). -/
def State.groupVersion (s : State) (port : Nat) (v6 : Bool) : Nat :=
  let present := fun k => (s.port port).older.any fun x => x.1 == k && s.now < x.2
  if v6 then (if present 3 then 1 else 2) else if present 1 then 1 else if present 2 then 2 else 3

/-- Whether a port runs the compatibility mode of an older querier, in which it joins whole groups (R101). -/
def State.compatMode (s : State) (port : Nat) (v6 : Bool) : Bool := s.groupVersion port v6 != if v6 then 2 else 3

/-- How long an older querier counts as present: the robustness times the query interval of 125 s, and a response interval of 10 s.
PRESUMED from RFC 3376 and RFC 3810 (notes/assumptions/20.md). -/
def State.olderTimeout (s : State) (port : Nat) : Nat := (s.portN port Obj.portRobustness * 125 + 10) * 1000000000

/-- The length of a report of one record with the Router Alert option, in the newest version or an older one. PRESUMED from their
standards (notes/assumptions/20.md). -/
def reportBytes (vlan len sources : Nat) (compat : Bool) : Nat :=
  (if len = 4 then (if compat then 64 else max 64 (14 + 24 + 8 + 8 + 4 * sources + 4))
    else if compat then 14 + 40 + 8 + 24 + 4 else 14 + 40 + 8 + 8 + 20 + 16 * sources + 4) +
    if vlan = 0xFFFF then 0 else 4

/-- A report of one record leaves a port whose link is up, with DSCP CS6 and the Router Alert option (R99); IGMPv1 has none for a
group that is left. -/
def State.report (s : State) (port : Nat) (r : List Byte × Bool × List (List Byte)) : State :=
  let v6 := r.1.length == 16
  let compat := s.compatMode port v6
  let version := s.groupVersion port v6
  let left := !r.2.1 && r.2.2.isEmpty
  let sources := if compat then [] else r.2.2
  if s.portN port Obj.portLinkState = 2 && !(left && !v6 && version = 1) then
    (s.countTx port (reportBytes (s.portN port Obj.portVlan) r.1.length sources.length compat)).emit
      (.membership port version r.1 (!left && (r.2.1 || compat)) sources (s.reportSrc port r.1) 48 true)
  else s

/-- A state-change report is sent at once, and is to be repeated (R101). -/
def State.changeReport (s : State) (port : Nat) (r : List Byte × Bool × List (List Byte)) : State :=
  let t := s.report port r
  let x := t.port port
  let left := t.portN port Obj.portRobustness - 1
  let rest := x.reports.filter fun q => q.1 != r.1
  t.setPort port { x with reports :=
    if left = 0 then rest else rest ++ [(r.1, left, t.ptp + t.portN port Obj.portReportInterval * 1000000)] }

/-- The records of a port follow its entries: a state-change report for each one that begins, changes or ends (R100). -/
def State.syncPort (s : State) (port : Nat) : State :=
  let old := (s.port port).records
  let new := s.portRecords port
  let t := s.setPort port { s.port port with records := new }
  let changed := new.filter fun r => !old.contains r
  let ended := old.filter fun r => !(new.any fun q => q.1 == r.1)
  (changed ++ ended.map fun (r : List Byte × Bool × List (List Byte)) => (r.1, false, [])).foldl
    (fun u r => u.changeReport port r) t

/-- The records of every port follow the entries. -/
def State.syncMembership (s : State) : State :=
  ((Objs.ports s.objs) ++ (s.media.ports.map (·.1))).eraseDups.foldl State.syncPort s

/-- REPORT_RETRANSMIT (R101). -/
def execReportRetransmit (dt port : Nat) (group : List Byte) (s : State) : Result :=
  actIf dt s State.live fun t =>
    let x := t.port port
    match x.reports.find? fun q => q.1 == group with
    | some (_, left, at_) =>
      if t.ptp < at_ then t
      else
        let r := (x.records.find? fun r => r.1 == group).getD (group, false, [])
        let rest := x.reports.filter fun q => q.1 != group
        (t.setPort port { x with reports :=
          if left ≤ 1 then rest
          else rest ++ [(group, left - 1, at_ + t.portN port Obj.portReportInterval * 1000000)] }).report port r
    | none => t

/-! ## Flow states (R103 to R105) -/

/-- RxLossTimeout in force in nanoseconds (R103). -/
def State.lossTimeout (s : State) (e : Nat) : Nat :=
  let v := s.n Obj.rxLossTimeout e
  let es := s.n Obj.rxEssence e
  if v != 0 then v
  else if es = 1 then 2 * fmtPeriodNs (Objs.rxFormat s.objs e)
  else if es = 5 then 2 * fmtPeriodNs (s.n Obj.rxVideoFormat e)
  else if es = 2 || es = 3 then
    1000000000 * (10 * packetSamples (s.n Obj.rxPacketTime e) (s.n Obj.rxAudioRate e)) /
      (if s.n Obj.rxAudioRate e = 1 then 96000 else 48000)
  else 10000000

/-- The slot of a video entry follows its state (R105). -/
def State.refreshRxSlot (s : State) (lead : Nat) : State :=
  let es := s.n Obj.rxEssence lead
  if es = 1 || es = 5 then s.refreshSlot (s.n Obj.rxTarget lead) else s

/-- The transmit entries that forward an OPAQUE receive entry (R117, R143). -/
def State.forwarders (s : State) (e : Nat) : List Nat :=
  (Objs.txEntries s.objs).filter fun x => s.n Obj.txEssence x == 6 && s.n Obj.txSource x == e

/-- A flow moves to a state, and its partner mirrors it; FLOW_RECEIVING and FLOW_LOST (R103, R109). -/
def State.setFlow (s : State) (lead st : Nat) : State :=
  let old := s.n Obj.rxFlowState lead
  let t := (Objs.rxPaths s.objs lead).foldl (fun u e => u.setN Obj.rxFlowState e st) s
  let t := if st = 4 && old != 4 then t.raise Ev.flowReceiving lead else t
  let t := if old = 4 && st != 4 then
      let t := t.clearEmb lead
      let t := if st = 2 then t.raise Ev.flowLost lead else t
      (t.forwarders lead).foldl (fun u x => u.raise Ev.txOpaqueIdle x) t
    else t
  if (old = 4) = (st = 4) then t else t.refreshRxSlot lead

/-- A receive entry at its entry to WAITING: what it has measured and whether its path is down stay (R109, R118, R119). -/
def RxEntry.waiting (x : RxEntry) (now : Nat) : RxEntry :=
  { waitingAt := now, skewSeen := x.skewSeen, transits := x.transits, lastCopy := x.lastCopy, pathUp := x.pathUp,
    pathDownSeen := x.pathDownSeen }

/-- A flow enters WAITING: no SSRC, an empty receive buffer, and a histogram that starts anew (R103, R104, R565). -/
def State.enterWaiting (s : State) (lead : Nat) : State :=
  let paths := Objs.rxPaths s.objs lead
  let t := s.setFlow lead 2
  paths.foldl (fun u e => (u.setRxe e ((u.rxe e).waiting u.ptp)).toDefault Obj.rxPdvHistogram e) t

/-! ## Arrival (R104 to R108, R111, R118, R119) -/

/-- A sequence number extended to the value nearest to the highest one seen (R106). -/
def extendSeq (m high seq : Nat) : Nat :=
  let base := high / m * m + seq % m
  let up := if base + m / 2 ≤ high then base + m else base
  if high + m / 2 < up && m ≤ up then up - m else up

/-- A copy's skew recorded on an entry (R119). -/
def State.recordSkew (s : State) (e : Nat) (v : Int) : State :=
  let x := s.rxe e
  if x.skewSeen then
    (s.setI Obj.rxSkewMin e (min v (s.i Obj.rxSkewMin e))).setI Obj.rxSkewMax e (max v (s.i Obj.rxSkewMax e))
  else ((s.setRxe e { x with skewSeen := true }).setI Obj.rxSkewMin e v).setI Obj.rxSkewMax e v

/-- A copy of a number met on an entry's path: what is remembered, and the other path with the time since its copy (R119). -/
def RxEntry.meetCopy (x : RxEntry) (e q now : Nat) : RxEntry × Option (Nat × Int) :=
  match x.firstCopies.find? fun c => c.1 == q with
  | none => ({ x with firstCopies := (q, e, now) :: x.firstCopies }, none)
  | some (_, other, at_) =>
    if other = e then (x, none)
    else ({ x with firstCopies := x.firstCopies.filter fun c => c.1 != q }, some (other, (now : Int) - at_))

/-- The skew of a number that has come on both paths, recorded on each entry. -/
def State.recordPair (s : State) (e : Nat) : Option (Nat × Int) → State
  | some (other, d) => (s.recordSkew e d).recordSkew other (-d)
  | none => s

/-- The arrival of a number on a path, measured against the other path's (R119). -/
def State.measurePair (s : State) (lead e q : Nat) : State :=
  if (Objs.rxPaths s.objs lead).length = 1 then s
  else
    let r := (s.rxe lead).meetCopy e q s.ptp
    (s.setRxe lead r.1).recordPair e r.2

/-- A packet met on an entry's path: whether its transit is measured, as the first of a frame or a packet of an essence without
frames, and what is remembered (R118). A frame of video begins with a new timestamp in field 1, one of SDI after the marker. -/
def RxEntry.meetPacket (x : RxEntry) (essence q : Nat) (p : Rtp) : RxEntry × Bool :=
  if essence = 1 then
    let newer := x.lastTimestamp.elim true fun a => a != p.timestamp && (p.timestamp + 4294967296 - a) % 4294967296 < 2147483648
    (if newer then { x with lastTimestamp := some p.timestamp } else x, newer && !(p.segments.head?.map (·.field2)).getD false)
  else if essence = 5 then
    let first := x.startSeq.elim false (· ≤ q)
    let newest := x.pathHigh.elim true (· ≤ q)
    ({ x with startSeq := if p.marker && newest then some (q + 1) else if first then none else x.startSeq }, first)
  else (x, essence != 6)

/-- The RTP clock of an entry's essence. -/
def Objs.rxHz (c : Objs) (e : Nat) : Nat :=
  let es := Objs.n c Obj.rxEssence e
  if es = 2 || es = 3 then (if Objs.n c Obj.rxAudioRate e = 1 then 96000 else 48000) else essenceClock es

/-- The transit of a packet, recorded with the second in which it arrives (R118). -/
def State.recordTransit (s : State) (c : Objs) (e : Nat) (p : Rtp) (measured : Bool) : State :=
  if measured then
    s.setRxe e { s.rxe e with
      transits := (s.rxe e).transits ++ [(s.ptp / 1000000000, (s.ptp : Int) - mediaTime p.timestamp (Objs.rxHz c e) s.ptp)] }
  else s

/-- The transit of a packet of an entry in force (R118). -/
def State.measureTransit (s : State) (e q : Nat) (p : Rtp) : State :=
  let r := (s.rxe e).meetPacket (s.n Obj.rxEssence e) q p
  (s.setRxe e r.1).recordTransit s.objs e p r.2

/-- A number met on a path: it is counted where it is below the highest seen there (R108). -/
def RxEntry.meetNumber (x : RxEntry) (q : Nat) : RxEntry × Bool :=
  if x.pathHigh.elim false fun h => q < h then (x, true) else ({ x with pathHigh := some q }, false)

/-- The modulus of an essence's sequence numbers (R106). -/
def seqSpan (essence : Nat) : Nat := if essence = 1 then 2 ^ 32 else 2 ^ 16

/-- A packet that a pre-joined entry takes is counted and measured, and delivered nowhere (R100). -/
def State.premeasure (s : State) (c : Objs) (e : Nat) (p : Rtp) : State :=
  let es := Objs.n c Obj.rxEssence e
  let lead := Objs.rxLeadEntry c e
  let high := (s.pre lead).high
  let q := if high = 0 then p.seq % seqSpan es + seqSpan es else extendSeq (seqSpan es) high p.seq
  let s1 := (s.setPre lead { s.pre lead with high := max q high }).bump Obj.rxPackets e
  let n := (s1.pre e).meetNumber q
  let s2 := s1.setPre e n.1
  let s3 := if n.2 then s2.bump Obj.rxOutOfOrder e else s2
  let r := (s3.pre e).meetPacket es q p
  let s4 := (s3.setPre e r.1).recordTransit c e p r.2
  if (Objs.rxPaths c lead).length = 1 then s4
  else
    let d := (s4.pre lead).meetCopy e q s4.ptp
    (s4.setPre lead d.1).recordPair e d.2

/-- A packet inserted in a receive buffer, in order of its number. -/
def insertPkt (r : RxPkt) : List RxPkt → List RxPkt
  | [] => [r]
  | x :: t => if r.seq < x.seq then r :: x :: t else x :: insertPkt r t

/-- A path's copies arrive (R109): the break that ends a restoration, or its start. A path that has had no copy since its flow began
counts as neither up nor down: DESIGN CHOICE, notes/assumptions/84.md. -/
def State.pathCopy (s : State) (e : Nat) (inTime : Bool) : State :=
  let x := s.rxe e
  let since := if x.lastCopy + s.lossTimeout e ≤ s.ptp then s.ptp else x.restoreFrom.getD s.ptp
  s.setRxe e { x with
    lastCopy := s.ptp
    pathUp := x.pathUp || !x.pathDownSeen
    restoreFrom := if !x.pathDownSeen then none else if inTime then some since else none }

/-- The first copy of a number goes into the buffer, where its entry's reservation has room (R111). -/
def State.bufferPkt (s : State) (lead e q : Nat) (p : Rtp) : State :=
  let x := s.rxe e
  if Objs.rxReserve s.objs e < x.occupancy + p.bytes then
    (s.bump Obj.rxBufferOverrun e).raiseLimited Ev.rxBufferOverrun e e
  else
    let t := s.setRxe e { x with occupancy := x.occupancy + p.bytes }
    let t := t.setN Obj.rxPeakOccupancy e (max (x.occupancy + p.bytes) (t.n Obj.rxPeakOccupancy e))
    t.setRxe lead { t.rxe lead with buffer := insertPkt ⟨q, t.ptp, e, [e], p⟩ (t.rxe lead).buffer }

/-- Half a frame period of a format that comes as two fields (R112), otherwise 0. -/
def fieldHalf (f : Nat) : Nat := if rasterInterlaced (fmtRaster f) || fmtRaster f == 5 then fmtPeriodNs f / 2 else 0

/-- Whether ancillary packets, by their arrival and timestamp, belong to a frame (R116): that of their timestamp, in field 2 half a
period later. -/
def ancMatches (origin half : Nat) (w : Nat × Nat × List Anc) : Bool :=
  let o := mediaTime w.2.1 90000 w.1
  absDiff o origin ≤ 1 || (half != 0 && absDiff o (origin + half) ≤ 1)

/-- The frame of a slot to which ancillary packets belong. -/
def SrcSlot.ancFrame (x : SrcSlot) (w : Nat × Nat × List Anc) : Option Frame :=
  x.frames.find? fun f => f.kind == 2 && ancMatches f.origin (fieldHalf f.format) w

/-- An ancillary packet that finds no frame (R116). -/
def State.ancLost (s : State) (e count : Nat) : State :=
  if count = 0 then s else (s.bump Obj.rxAncUnmatched e count).raiseLimited Ev.ancUnmatched e e

/-- The first copy of a number arrives: ancillary packets whose frame has ended are dropped from it (R116). -/
def State.bufferCopy (s : State) (lead e q : Nat) (p : Rtp) : State :=
  let ended := ((s.src (s.n Obj.rxTarget lead)).ancFrame (s.ptp, p.timestamp, p.anc)).elim false fun f => !f.open_
  if s.n Obj.rxEssence lead = 4 && ended then (s.ancLost lead p.anc.length).bufferPkt lead e q { p with anc := [] }
  else s.bufferPkt lead e q p

/-- An accepted packet of an entry in force (R104 to R108). The signal of an ST2022_6 entry has begun with its first SAV (R103). -/
def State.acceptPkt (s : State) (lead e : Nat) (p : Rtp) : State :=
  let m := seqSpan (s.n Obj.rxEssence e)
  let fresh := s.n Obj.rxFlowState lead = 2
  let q := if fresh then p.seq % m + m else extendSeq m (s.rxe lead).high p.seq
  let t := s.setRxe lead { s.rxe lead with ssrc := some p.ssrc, high := max q (s.rxe lead).high }
  let t := if fresh then t.setFlow lead (if [1, 5].contains (t.n Obj.rxEssence lead) then 3 else 4) else t
  let t := if t.n Obj.rxEssence lead = 5 && p.sav && t.n Obj.rxFlowState lead = 3 then t.setFlow lead 4 else t
  let t := t.bump Obj.rxPackets e
  let n := (t.rxe e).meetNumber q
  let t := t.setRxe e n.1
  let t := if n.2 then t.bump Obj.rxOutOfOrder e else t
  let t := (t.measureTransit e q p).measurePair lead e q
  let late := (t.rxe lead).next.elim false fun n => q < n
  let t := t.pathCopy e !late
  if late then
    let u := t.bump Obj.rxLatePackets e
    if (Objs.rxPaths u.objs lead).length = 1 then u else u.raiseLimited Ev.mergeLate lead lead
  else if (t.rxe lead).buffer.any fun r => r.seq == q then
    let x := t.rxe lead
    (t.setRxe lead { x with buffer := x.buffer.map fun r =>
      if r.seq = q && !r.paths.contains e then { r with paths := e :: r.paths } else r }).bump Obj.rxDuplicates e
  else t.bufferCopy lead e q p

/-- A packet that an entry in force takes (R104). -/
def State.receive (s : State) (e : Nat) (p : Rtp) : State :=
  let lead := Objs.rxLeadEntry s.objs e
  if p.payloadType != s.n Obj.rxPayloadType e || s.n Obj.rxFlowState lead < 2 then s
  else if s.n Obj.rxFlowState lead != 2 && (s.rxe lead).ssrc != some p.ssrc then
    (s.bump Obj.rxForeign e).raiseLimited Ev.flowForeign e e
  else s.acceptPkt lead e p

/-! ## Depacketisation (R110, R112 to R117) -/

/-- Whether an entry's format comes as two fields (R112). -/
def twoFields (f : Nat) : Bool := rasterInterlaced (fmtRaster f) || fmtRaster f == 5

/-- Pixels that a list of spans holds. -/
def spanTotal (l : List (Nat × Nat)) : Nat := (l.map fun p => p.2 - p.1).sum

/-- Whether a row segment lies in a format (R112). -/
def segmentOk (f : Nat) (g : Segment) : Bool :=
  let h := rasterHeight (fmtRaster f)
  g.line < (if twoFields f then h / 2 else h) && g.pixel + g.count ≤ rasterWidth (fmtRaster f) &&
    (!g.field2 || twoFields f)

/-- The first pixel of a row segment in transmission order. -/
def segmentAt (f : Nat) (g : Segment) : Nat :=
  (if g.field2 then rasterWidth (fmtRaster f) * (rasterHeight (fmtRaster f) / 2) else 0) +
    g.line * rasterWidth (fmtRaster f) + g.pixel

/-- Whether the horizontal offset of an RFC 8331 packet lies in horizontal blanking (R116): the samples from the active width on, or
the code of the horizontal ancillary space. The codes FFDh and FFFh name no place in it (PRESUMED, notes/assumptions/79.md). -/
def offsetBlanks (f offset : Nat) : Bool :=
  offset == 0xFFE || (rasterWidth (fmtRaster f) ≤ offset && offset != 0xFFD && offset != 0xFFF)

/-- Ancillary packets of an ST2110_40 flow stored with a frame of a slot, in the space that their offsets give: the first that would
overflow its side-data area is discarded with every later one of the frame (R73, R74, R116). SDI_ANC_OVERFLOW, once for the frame,
names the entry as it does for an ST2022_6 one (DEDUCED, notes/assumptions/79.md). -/
def State.ancStore (s : State) (lead slot seq : Nat) (l : List Anc) : State :=
  l.foldl (fun t p =>
    match (t.src slot).frames.find? fun f => f.seq == seq with
    | none => t
    | some f =>
      if !p.checksumOk || ancGenerated p.did then t
      else if f.ancFull || ancArea < (f.anc.map (·.size)).sum + p.size then
        let u := t.setSrc slot ((t.src slot).mapFrame seq fun g => { g with ancFull := true })
        if f.ancFull then u else u.raise Ev.sdiAncOverflow (65536 + lead)
      else t.attachAnc slot seq { p with vanc := !offsetBlanks f.format p.offset }) s

/-- The ST2110_40 flows that feed a slot. -/
def State.ancFlows (s : State) (slot : Nat) : List Nat :=
  (Objs.rxEntries s.objs).filter fun e =>
    s.n Obj.rxEssence e == 4 && s.n Obj.rxTarget e == slot && Objs.rxLeadEntry s.objs e == e

/-- The packets that waited for the frame which now begins are attached to it (R116). -/
def State.attachWaiting (s : State) (slot seq : Nat) : State :=
  (s.ancFlows slot).foldl (fun t e =>
    match (t.src slot).frames.find? fun f => f.seq == seq with
    | none => t
    | some f =>
      let x := t.rxe e
      let mine := fun w => ancMatches f.origin (fieldHalf f.format) w
      (t.setRxe e { x with ancWait := x.ancWait.filter fun w => !mine w }).ancStore e slot seq
        ((x.ancWait.filter mine).flatMap fun w => w.2.2)) s

/-- An ST2110_40 packet is released (R116): what it carries goes to the frame of its timestamp, or waits for it. -/
def State.deliverAnc (s : State) (lead : Nat) (r : RxPkt) : State :=
  let slot := s.n Obj.rxTarget lead
  let w := (r.arrival, r.p.timestamp, r.p.anc)
  match (s.src slot).ancFrame w with
  | some f => s.ancStore lead slot f.seq r.p.anc
  | none => if r.p.anc.isEmpty then s else s.setRxe lead { s.rxe lead with ancWait := (s.rxe lead).ancWait ++ [w] }

/-- A picture in which some spans are copied from an older one: once it has begun to copy, always the same one (R113). -/
def Pic.copied (older : Pic) (spans : List (Nat × Nat)) : Pic → Pic
  | .patched base first _ => .patched base first spans
  | p => if spans.isEmpty then p else .patched p older spans

/-- The writer copies the pixels of some spans of a frame from the previous complete one (R113). -/
def State.copyPixels (s : State) (slot seq : Nat) (spans : List (Nat × Nat)) : State :=
  s.amendPic slot seq (Pic.copied ((s.src slot).previousPic seq) spans)

/-- The frame that a video entry assembles ends (R113). -/
def State.endAssembly (s : State) (lead : Nat) : State :=
  let x := s.rxe lead
  match x.asm with
  | none => s
  | some a =>
    let slot := s.n Obj.rxTarget lead
    let f := Objs.rxFormat s.objs lead
    let total := rasterWidth (fmtRaster f) * rasterHeight (fmtRaster f)
    let missing := total - spanTotal a.supplied
    let t := s.setRxe lead { x with asm := none }
    if missing = 0 then t.finishFrame slot a.seq
    else if missing * 100 ≤ total * t.n Obj.rxConcealLimit lead then
      (((t.copyPixels slot a.seq (spansLess [(0, total)] a.supplied)).finishFrame slot a.seq).bump Obj.rxConcealedFrames
        lead).raiseLimited Ev.flowConceal lead lead
    else ((t.abandonFrame slot).bump Obj.rxAbandonedFrames lead).raise Ev.flowFrameAbandoned lead

/-- A video entry begins a frame: its write starts when the depacketiser has the first packet (R16, R110). -/
def State.beginAssembly (s : State) (lead release : Nat) (r : RxPkt) : State :=
  let slot := s.n Obj.rxTarget lead
  let f := Feed.flow lead
  let o := s.originOf f r.p.timestamp r.arrival
  let seq := (s.src slot).nextSeq
  let t := s.startFrame slot (newFrame (s.feedFormat slot f) o.1 o.2.1 o.2.2 (release + 1800) (Pic.frame slot) 0 none [])
  let t := t.setRxe lead { t.rxe lead with asm := some ⟨seq, r.p.timestamp, [], [], 0, false⟩ }
  t.attachWaiting slot seq

/-- The row segments of a packet are placed; the pixels of packets lost before it are copied (R112, R113). -/
def State.placeSegments (s : State) (lead lost : Nat) (p : Rtp) : State :=
  let f := Objs.rxFormat s.objs lead
  let good := p.segments.filter (segmentOk f)
  let bad := p.segments.length - good.length
  let t := if bad = 0 then s else (s.bump Obj.rxGeometryErr lead bad).raiseLimited Ev.flowGeometry lead lead
  match (t.rxe lead).asm with
  | none => t
  | some a =>
    let first := (good.head?.map (segmentAt f)).getD a.cursor
    let placed := if lost != 0 && a.cursor < first then addSpan a.cursor first a.placed else a.placed
    let spans := good.map fun g => (segmentAt f g, segmentAt f g + g.count)
    let add := fun (l : List (Nat × Nat)) (q : Nat × Nat) => if q.1 < q.2 then addSpan q.1 q.2 l else l
    let a2 : Assembly := { a with
      supplied := spans.foldl add a.supplied
      placed := spans.foldl add placed
      cursor := (spans.getLast?.map (·.2)).getD a.cursor
      field2 := a.field2 || good.any (·.field2) }
    let lines := ((a2.placed.find? fun q => q.1 == 0).map (·.2)).getD 0 / rasterWidth (fmtRaster f)
    let slot := t.n Obj.rxTarget lead
    let u := (t.setRxe lead { t.rxe lead with asm := some a2 }).copyPixels slot a2.seq (spansLess a2.placed a2.supplied)
    u.setSrc slot ((u.src slot).mapFrame a2.seq fun g =>
      if g.lines < lines then { g with lines := lines, lastLine := u.ptp } else g)

/-- An ST2110_20 packet is released (R103, R112, R113). -/
def State.deliverVideo (s : State) (lead release lost : Nat) (r : RxPkt) : State :=
  let p := r.p
  let f := Objs.rxFormat s.objs lead
  let f2 := (p.segments.head?.map (·.field2)).getD false
  let sameFrame := match (s.rxe lead).asm with
    | some a => a.timestamp == p.timestamp || (twoFields f && f2 && !a.field2)
    | none => false
  let t := if sameFrame then s else s.endAssembly lead
  let t := if t.n Obj.rxFlowState lead = 3 && (t.rxe lead).marker && !f2 then t.setFlow lead 4 else t
  if t.n Obj.rxFlowState lead != 4 then t
  else
    let t := if sameFrame then
        (match (t.rxe lead).asm with
         | some a => t.setRxe lead { t.rxe lead with asm := some { a with timestamp := p.timestamp } }
         | none => t)
      else t.beginAssembly lead release r
    let t := t.placeSegments lead lost p
    if p.marker && (!twoFields f || f2) then t.endAssembly lead else t

/-- The frame that an ST2022_6 entry assembles ends (R113): it is complete, complete and concealed, or abandoned. -/
def State.endSdi (s : State) (lead : Nat) : State :=
  match (s.rxe lead).asm with
  | none => s
  | some a =>
    let slot := s.n Obj.rxTarget lead
    let missing := a.cursor - spanTotal a.supplied
    let t := s.setRxe lead { s.rxe lead with asm := none }
    if missing = 0 then t.endWrite slot
    else if missing * 100 ≤ a.cursor * t.n Obj.rxConcealLimit lead then
      ((t.endWrite slot).bump Obj.rxConcealedFrames lead).raiseLimited Ev.flowConceal lead lead
    else
      (((t.abandonFrame slot).ancAbandon (65536 + lead)).bump Obj.rxAbandonedFrames lead).raise Ev.flowFrameAbandoned lead

/-- An ST2022_6 entry begins a frame (R58, R73, R114). -/
def State.beginSdi (s : State) (lead release : Nat) (r : RxPkt) : State :=
  let slot := s.n Obj.rxTarget lead
  let f := Feed.flow lead
  let t := s.applyPids (65536 + lead)
  if t.n Obj.embFormat lead = 0 || !t.slotLocked slot then t
  else
    let o := t.originOf f r.p.timestamp r.arrival
    let t := t.setInLatency (groupChannels (t.n Obj.rxEmbAudioBase lead) (t.n Obj.rxEmbAudioGroups lead))
      ((release + 2400 : Nat) - o.2.1)
    let seq := (t.src slot).nextSeq
    let t := t.startFrame slot (newFrame (t.feedFormat slot f) o.1 o.2.1 o.2.2 (release + 2400) (Pic.frame slot) (t.feedPid f) none [])
    (t.setRxe lead { t.rxe lead with asm := some ⟨seq, r.p.timestamp, [(0, 1)], [], 1, false⟩ }).ancBegin (65536 + lead) slot

/-- An ST2022_6 datagram is released (R110, R113, R114): the one that carries the SAV of a frame's first active line
begins the frame. Datagrams stand for the pixels they carry in the count of R113 (notes/assumptions/18.md). -/
def State.deliverSdi (s : State) (lead release lost : Nat) (r : RxPkt) : State :=
  let x := s.rxe lead
  let t := match x.asm with
    | some a => s.setRxe lead { x with asm := some { a with
        cursor := a.cursor + 1 + lost
        supplied := addSpan (a.cursor + lost) (a.cursor + lost + 1) a.supplied } }
    | none => s
  if r.p.sav && t.n Obj.rxFlowState lead = 4 then (t.endSdi lead).beginSdi lead release r else t

/-- An audio packet is released (R26, R110, R115): its samples after zeros for those that lost packets would have carried, the
non-audio, validity, user and channel status bits of ST2110_31, and the time from the origin of the samples to Cornice entry. -/
def State.deliverAudio (s : State) (lead release lost : Nat) (r : RxPkt) : State :=
  let channels := s.n Obj.rxAudioChannels lead
  let base := s.n Obj.rxTarget lead
  let gap := lost * packetSamples (s.n Obj.rxPacketTime lead) (s.n Obj.rxAudioRate lead) * channels
  let t := s.setInLatency ((List.range channels).map (base + ·))
    ((release + 1200 : Nat) - mediaTime r.p.timestamp (Objs.rxHz s.objs lead) r.arrival)
  let aes := s.n Obj.rxEssence lead = 3
  let t := if aes then t.setNonAudio base (r.p.nonAudio.take (channels / 2)) else t
  t.queueFrames base channels (List.replicate gap 0 ++ r.p.samples) (if aes then List.replicate gap 0 ++ r.p.side else [])

/-- A released packet goes to what its entry feeds (R95, R117). -/
def State.deliver (s : State) (lead release lost : Nat) (r : RxPkt) : State :=
  match s.n Obj.rxEssence lead with
  | 1 => s.deliverVideo lead release lost r
  | 2 => s.deliverAudio lead release lost r
  | 3 => s.deliverAudio lead release lost r
  | 4 => s.deliverAnc lead r
  | 5 => s.deliverSdi lead release lost r
  | 6 => (s.forwarders lead).foldl (fun t e =>
      if Objs.txLeadEntry t.objs e = e && (Objs.txPaths t.objs e).any fun q => [2, 3, 4].contains (t.n Obj.txFlowState q) then
        t.setTxe e { t.txe e with opaque_ := (t.txe e).opaque_ ++ [(r.p, release)] }
      else t) s
  | _ => s

/-! ## Commands -/

/-- PACKET_RELEASE (R107, R108): the lowest number in the buffer of a flow, once it is due; the numbers skipped are lost. -/
def execPacketRelease (dt entry : Nat) (s : State) : Result :=
  actIf dt s (fun t => t.live && t.b Obj.rxEnable entry && Objs.rxLeadEntry t.objs entry == entry &&
      3 ≤ t.n Obj.rxFlowState entry) fun t =>
    let x := t.rxe entry
    match x.buffer with
    | [] => t
    | r :: rest =>
      let due := max (r.arrival + Objs.rxDelay t.objs entry) x.lastRelease
      if t.ptp < due then t
      else
        let lost := x.next.elim 0 fun n => r.seq - n
        let paths := Objs.rxPaths t.objs entry
        let t := if lost = 0 then t else
          paths.foldl (fun u e => u.bump Obj.rxPathLost e lost) (t.bump Obj.rxLostPackets entry lost)
        let t := paths.foldl (fun u e => if r.paths.contains e then u else u.bump Obj.rxPathLost e) t
        let t := t.setRxe r.holder { t.rxe r.holder with occupancy := (t.rxe r.holder).occupancy - r.p.bytes }
        let t := t.setRxe entry { t.rxe entry with buffer := rest, next := some (r.seq + 1), lastRelease := due }
        let t := t.deliver entry due lost r
        t.setRxe entry { t.rxe entry with marker := r.p.marker }

/-- FLOW_LOST (R103): no accepted packet for RxLossTimeout. -/
def execFlowLost (dt entry : Nat) (s : State) : Result :=
  actIf dt s (fun t => t.live && t.b Obj.rxEnable entry && Objs.rxLeadEntry t.objs entry == entry &&
      3 ≤ t.n Obj.rxFlowState entry &&
      (Objs.rxPaths t.objs entry).all fun e => (t.rxe e).lastCopy + t.lossTimeout entry ≤ t.ptp) fun t =>
    t.enterWaiting entry

/-- MERGE_PATH_LOST (R109): a path of a pair goes down after RxLossTimeout without a copy. -/
def execMergePathLost (dt entry : Nat) (s : State) : Result :=
  actIf dt s (fun t => t.live && (Objs.rxPaths t.objs (Objs.rxLeadEntry t.objs entry)).length == 2 &&
      (t.rxe entry).pathUp && (t.rxe entry).lastCopy + t.lossTimeout entry ≤ t.ptp) fun t =>
    (t.setRxe entry { t.rxe entry with pathUp := false, pathDownSeen := true, restoreFrom := none }).raise
      Ev.mergePathLost entry

/-- MERGE_PATH_RESTORED (R109): a path's copies have arrived before release for 1 s without a break, and arrive still. -/
def execMergePathRestored (dt entry : Nat) (s : State) : Result :=
  actIf dt s (fun t => t.live && (t.rxe entry).pathDownSeen && t.ptp < (t.rxe entry).lastCopy + t.lossTimeout entry &&
      (t.rxe entry).restoreFrom.elim false fun a => a + 1000000000 ≤ t.ptp) fun t =>
    (t.setRxe entry { t.rxe entry with pathUp := true, pathDownSeen := false, restoreFrom := none }).raise
      Ev.mergePathRestored entry

/-- ANC_UNMATCHED (R116): packets for which no frame has started within 2 frame periods of their arrival. -/
def execAncUnmatched (dt entry : Nat) (s : State) : Result :=
  actIf dt s State.live fun t =>
    let x := t.rxe entry
    let slot := t.n Obj.rxTarget entry
    let period := fmtPeriodNs (t.feedFormat slot (Objs.feed t.objs slot))
    let excess := fun w : Nat × Nat × List Anc => w.1 + 2 * period ≤ t.ptp
    (t.setRxe entry { x with ancWait := x.ancWait.filter fun w => !excess w }).ancLost entry
      ((x.ancWait.filter excess).map fun w => w.2.2.length).sum

/-- PDV_SECOND (R118, R565): a whole second of the time counter is over; its sample is its largest transit less its smallest
(notes/assumptions/19.md). -/
def execPdvSecond (dt entry : Nat) (s : State) : Result :=
  actIf dt s (fun t => t.live && (t.rxe entry).transits.head?.elim false fun a => a.1 < t.ptp / 1000000000) fun t =>
    let x := t.rxe entry
    let k := (x.transits.headD (0, 0)).1
    let l := (x.transits.filter fun a => a.1 == k).map (·.2)
    let v := (l.foldl max (l.headD 0) - l.foldl min (l.headD 0)).toNat
    let u := t.setRxe entry { x with transits := x.transits.filter fun a => a.1 != k }
    (u.setN Obj.rxPdvMax entry (max (min v 0xFFFFFFFF) (u.n Obj.rxPdvMax entry))).capture Obj.rxPdvHistogram entry
      (Hist.fresh 1 100 0 x.waitingAt) v

/-- MP_LINK_UP (R90): the PCS of a port's mode reports the link up. -/
def execMpLinkUp (dt port : Nat) (s : State) : Result :=
  actIf dt s (fun t => t.live && Objs.portMode t.objs port != 0 && t.portN port Obj.portLinkState != 2) fun t =>
    ((t.setN (portIdx port Obj.portLinkState) (portNo port) 2).raise Ev.mpLinkUp port).refreshTxPort port

/-- MP_LINK_DOWN (R90): a port's link goes down. -/
def execMpLinkDown (dt port : Nat) (s : State) : Result :=
  actIf dt s (fun t => t.live && Objs.portMode t.objs port != 0 && t.portN port Obj.portLinkState == 2) fun t =>
    ((t.setN (portIdx port Obj.portLinkState) (portNo port) 0).raise Ev.mpLinkDown port).refreshTxPort port

/-! ## Commit (R90, R98, R100, R103) -/

/-- A commit reaches the ports: one whose mode or lanes change stops and retrains (R90). -/
def State.portCommit (s : State) (old : Objs) : State :=
  let codes := (Objs.ports s.objs ++ Objs.ports old).eraseDups
  codes.foldl (fun t p =>
    let was := Objs.portMode old p
    let is := Objs.portMode t.objs p
    if was = is && Objs.portLanes old p = Objs.portLanes t.objs p then t
    else
      let up := t.portN p Obj.portLinkState = 2
      let t := t.setN (portIdx p Obj.portLinkState) (portNo p) (if is = 0 then 0 else 1)
      (if up then t.raise Ev.mpLinkDown p else t).refreshTxPort p) s

/-- What stands with the lead entry of a flow, carried from one entry to another that now leads it (R98). -/
def RxEntry.lead (x old : RxEntry) : RxEntry :=
  { x with ssrc := old.ssrc, buffer := old.buffer, next := old.next, lastRelease := old.lastRelease, high := old.high
           firstCopies := old.firstCopies, marker := old.marker, asm := old.asm, ancWait := old.ancWait }

/-- Whether an entry stays enabled with its match key and essence (R98). -/
def Objs.rxKept (old new : Objs) (e : Nat) : Bool :=
  Objs.b old Obj.rxEnable e && Objs.b new Obj.rxEnable e && Objs.rxKey old e == Objs.rxKey new e &&
    Objs.n old Obj.rxEssence e == Objs.n new Obj.rxEssence e

/-- An entry that stays as it is keeps its state and SSRC where a partner joins or leaves it, under its new lead entry (R98, R109). -/
def State.rxRelead (s : State) (old : Objs) (e : Nat) : State :=
  let was := Objs.rxLeadEntry old e
  let now := Objs.rxLeadEntry s.objs e
  if was = now || !Objs.rxKept old s.objs e then s
  else (s.setRxe now ((s.rxe now).lead (s.rxe was))).setN Obj.rxFlowState now (s.n Obj.rxFlowState was)

/-- The merged counters of a partner, and the SDI receive objects of an entry that has none of these functions, read as their
defaults (R109, R121). -/
def State.rxDefaults (s : State) (e : Nat) : State :=
  let partner := Objs.rxLeadEntry s.objs e != e
  let t := if partner then
      [Obj.rxLostPackets, Obj.rxGeometryErr, Obj.rxConcealedFrames, Obj.rxAbandonedFrames, Obj.rxAncUnmatched].foldl
        (fun u i => u.toDefault i e) s
    else s
  if partner || t.n Obj.rxEssence e != 5 then
    ((List.range 12).map (Obj.embFormat + ·)).foldl (fun u i => u.toDefault i e) t
  else t

/-- An entry that a salvo disables is IDLE: what it has measured stays until it is cleared (R103, R119). -/
def State.rxIdle (s : State) (old : Objs) (e : Nat) : State :=
  let was := s.n Obj.rxFlowState e
  let t := (s.setN Obj.rxFlowState e 0).clearEmb e
  let t := if was = 4 then (t.forwarders e).foldl (fun u x => u.raise Ev.txOpaqueIdle x) t else t
  let t := t.setRxe e { skewSeen := (t.rxe e).skewSeen, transits := (t.rxe e).transits }
  if Objs.n old Obj.rxEssence e = 1 || Objs.n old Obj.rxEssence e = 5 then t.refreshSlot (Objs.n old Obj.rxTarget e) else t

/-- A flow of enabled entries meets a commit (R98, R103): it is in force anew, or enters WAITING where the match key or essence of one
of its entries changes (of a pair's one entry: DESIGN CHOICE, notes/assumptions/73.md), or goes on. -/
def State.rxMeet (s : State) (old : Objs) (lead : Nat) : State :=
  let paths := Objs.rxPaths s.objs lead
  let before := paths.filter fun q => Objs.b old Obj.rxEnable q
  if before.isEmpty then (s.setN Obj.rxFlowState lead 1).enterWaiting lead
  else if before.all fun q => Objs.rxKept old s.objs q then
    paths.foldl (fun u q => u.setN Obj.rxFlowState q (s.n Obj.rxFlowState lead)) s
  else s.enterWaiting lead

/-- A commit reaches the receive entries: flows go on, begin or end (R98, R103). -/
def State.rxCommit (s : State) (old : Objs) : State :=
  let touched := ((s.objs ++ old).filterMap fun p =>
    if 0x6A00 ≤ adrIndex p.1 && adrIndex p.1 ≤ 0x6A16 && Objs.val old p.1 != Objs.val s.objs p.1
    then some (adrSub p.1) else none).eraseDups
  let t := touched.foldl (fun u e => u.rxRelead old e) s
  let t := (touched.filter fun e => Objs.b old Obj.rxEnable e && !t.b Obj.rxEnable e).foldl (fun u e => u.rxIdle old e) t
  let flows := ((touched.filter fun e => t.b Obj.rxEnable e).map (Objs.rxLeadEntry t.objs)).eraseDups
  touched.foldl State.rxDefaults (flows.foldl (fun u e => u.rxMeet old e) t)

end Sys2Proof.Machine
end

