-- ==== Sys2Proof/Machine/Watershed.lean ====
section
/-!
DEFINITION. Watershed (chapter 11): references, selection, the disciplining loop, holdover, frame pulses and history.
-/
namespace Sys2Proof.Machine

/-! ## References -/

/-- What a reference keeps. -/
def State.ref (s : State) (r : Nat) : RefPart := look s.ws.refs r {}

/-- What a reference keeps, changed. -/
def State.setRef (s : State) (r : Nat) (x : RefPart) : State := { s with ws := { s.ws with refs := put s.ws.refs r x } }

/-- A pulse input (R334). -/
def refIsPulse (r : Nat) : Bool := 2 ≤ r && r ≤ 5

/-- An SDI reference (R334). -/
def refIsSdi (r : Nat) : Bool := 7 ≤ r && r ≤ 10

/-- The period of a periodic reference (R335). -/
def State.refPeriod (s : State) (r : Nat) : Period :=
  if refIsPulse r then ratePeriod (s.n Obj.refRate r)
  else if r = 6 then ⟨1, 1⟩
  else
    let l := s.n Obj.refSdiLane r
    if l < 288 then fmtPeriod (s.n Obj.rxFormat l) else ⟨0, 1⟩

/-- The media port code of a PTP reference, where PtpPort names a port of the split in force (R339, R362). -/
def State.ptpPortCode (s : State) (r : Nat) : Option Nat :=
  let n := s.n Obj.ptpPort r
  let code := n + (if r = 1 then 0x8000 else 0)
  if n != 0xFF && Objs.portExists s.objs code then some code else none

/-- QL of a clockClass (R336). -/
def clockQl (c : Nat) : Nat :=
  if c = 6 then 1 else if c = 7 then 2 else if c = 13 then 3 else if c = 14 then 4
  else if c = 52 || c = 187 then 6 else if c = 58 || c = 193 then 7
  else if 1 ≤ c && c ≤ 127 then 8 else if 128 ≤ c && c ≤ 247 then 10 else if c = 248 then 12 else 0

/-- The QL in force of a reference (R338). -/
def State.qlNow (s : State) (r : Nat) : Nat :=
  let o := s.n Obj.refQlOverride r
  if o ≤ 15 then o
  else if r < 2 then clockQl (s.n Obj.ptpClockClass r)
  else if refIsPulse r && (s.ref r).rxQl != 0 then (s.ref r).rxQl
  else s.n Obj.refQlDefault r

/-- A bit of RefHistory sets (R359). -/
def State.refHist (s : State) (r k : Nat) : State := s.setBitN Obj.refHistory r k true

/-- A bit of WsHistory sets (R359). -/
def State.wsHist (s : State) (k : Nat) : State := s.setBitN Obj.wsHistory 0 k true

/-- Whether the input that a frame-pulse output follows is measured and not lost. -/
def State.inputGood (s : State) (n : Nat) : Bool := 2 ≤ s.n Obj.refState (s.n Obj.fpAlign n + 1)

/-- FpState follows the settings and the followed input; FP_FLYWHEEL, FP_FOLLOWING (R358). -/
def State.refreshFp (s : State) (n : Nat) : State :=
  let old := s.n Obj.fpState n
  let new := if !s.b Obj.fpEnable n then 0 else if s.n Obj.fpAlign n = 0 then 1 else if s.inputGood n then 2 else 3
  let t := s.setN Obj.fpState n new
  if old = 2 && new = 3 then t.raise Ev.fpFlywheel n
  else if old = 3 && new = 2 then
    let x := look t.ws.fps n {}
    ({ t with ws := { t.ws with fps := put t.ws.fps n { x with moving := x.last.isSome } } }).raise Ev.fpFollowing n
  else t

/-- Every frame-pulse output. -/
def State.refreshFps (s : State) : State := [0, 1, 2, 3].foldl State.refreshFp s

/-- A reference moves to a state (R340). -/
def State.setRefState (s : State) (r st : Nat) : State :=
  let old := s.n Obj.refState r
  if old = st then s
  else
    let t := s.setN Obj.refState r st
    let t := if old = 3 then (t.raise Ev.refLost r).bump Obj.refLosses r else t
    let t := match st with
      | 1 => (t.setRef r { t.ref r with streak := 0 }).refHist r 0
      | 2 => t.setRef r { t.ref r with qualAt := t.now, freqs := [] }
      | 3 => (t.raise Ev.refAvailable r).refHist r 1
      | _ => t
    t.refreshFps

/-- The QL in force of a reference follows; REF_QL_CHANGE (R338). A disabled reference reads 0. -/
def State.refreshQl (s : State) (r : Nat) : State :=
  let new := if s.b Obj.refEnable r then s.qlNow r else 0
  if new = s.n Obj.refQlInForce r then s
  else
    let t := s.setN Obj.refQlInForce r new
    let t := if t.b Obj.refEnable r then (t.raise Ev.refQlChange r).refHist r 2 else t
    match t.n Obj.refState r with
    | 3 => if new = 0 then t.setRefState r 4 else t
    | 4 => if new = 0 then t else t.setRefState r 2
    | _ => t

/-- A reference follows its settings: enabled or disabled, and its QL. -/
def State.refreshRef (s : State) (r : Nat) : State :=
  let st := s.n Obj.refState r
  let t :=
    if s.b Obj.refEnable r && st = 0 then
      let u := (s.setRef r {}).setRefState r 1
      if r < 2 then u.setN Obj.ptpState r 1 else u
    else if !s.b Obj.refEnable r && st != 0 then
      let u := s.setRefState r 0
      if r < 2 then ((((u.setN Obj.ptpState r 0).toDefault Obj.ptpGmIdentity r).toDefault Obj.ptpClockClass r).setRef r {}) else u
    else s
  t.refreshQl r

/-- A condition of R339 holds: the reference is lost. A loss during QUALIFYING goes through LOST, and the wait starts again. -/
def State.loseRef (s : State) (r : Nat) : State := if 2 ≤ s.n Obj.refState r then s.setRefState r 1 else s

/-- The nearest value to 0 of a difference in a period, in counter units: in (-T/2, T/2]. -/
def wrapPhase (t : Nat) (d : Int) : Int :=
  if t = 0 then d
  else
    let m := d % t
    if (t : Int) < 2 * m then m - t else m

/-- The number of the grid point that lies nearest to a counter value. -/
def nearPoint (base : Int) (per : Rat) (at_ : Int) : Int := if per = 0 then 0 else roundHalfAway (((at_ - base : Int) : Rat) / per)

/-- The least-squares line through points (k, e): its slope, and where it lies at k = 0; points of one k alone take a given slope. -/
def fitLine (l : List (Int × Int)) (slope : Rat) : Rat × Rat :=
  let n : Rat := l.length
  let k : Rat := ((l.map fun p => p.1).sum : Int) / n
  let e : Rat := ((l.map fun p => p.2).sum : Int) / n
  let xx : Rat := (l.map fun (p : Int × Int) => ((p.1 : Rat) - k) * ((p.1 : Rat) - k)).sum
  let xy : Rat := (l.map fun (p : Int × Int) => ((p.1 : Rat) - k) * ((p.2 : Rat) - e)).sum
  let m := if xx = 0 then slope else xy / xx
  (m, e - m * k)

/-- The grid fitted to a reference's last pulses (R339, R356), newest first: a grid point, and the grid's period, both in counter units.
One pulse alone takes the nominal period t. That the fit is one of least squares is DEDUCED (notes/assumptions/81.md). -/
def fitGrid (t : Nat) (fit : List Nat) : Option (Int × Rat) :=
  match fit with
  | [] => none
  | n :: _ =>
    let q := fitLine (fit.map fun (e : Nat) => (nearPoint n t e, (e : Int) - (n : Int))) t
    some ((n : Int) + q.2.floor, q.1)

/-- How far a counter value lies from the nearest point of a fitted grid. -/
def gridError (g : Int × Rat) (at_ : Int) : Rat := ((at_ - g.1 : Int) : Rat) - nearPoint g.1 g.2 at_ * g.2

/-- A period in counter units, rounded down. -/
def periodTc (p : Period) : Nat := if p.den = 0 then 0 else p.num * tcSec / p.den

/-- The QL code of a pulse width in nanoseconds: none for an invalid pulse, 0 for QL unspecified (R337). -/
def pulseCode (w : Nat) : Option Nat :=
  if 2000 ≤ w && w < 2500 then some 0
  else if 2500 ≤ w && w < 16500 then some ((w - 1500) / 1000)
  else if 16500 ≤ w && w ≤ 18000 then some 15
  else none

/-- The phase difference of a periodic reference at an edge, in nanoseconds (R335). -/
def State.edgePhase (s : State) (r : Nat) : Int :=
  let p := s.refPeriod r
  let c : Int := (s.tc : Int) - tcNs * s.i Obj.refOffset r
  let k := gridIndex p c.toNat
  let below : Int := gridPoint p k
  let above : Int := gridPoint p (k + 1)
  let g := if above - c ≤ c - below then above else below
  (g - c) / tcNs

/-- A valid edge of a periodic reference: phase, fit, and the runs that R339 counts. -/
def State.goodEdge (s : State) (r : Nat) : State :=
  let p := s.refPeriod r
  let t := periodTc p
  let x := s.ref r
  let onTime := (fitGrid t x.fit).elim true fun g => decide (abs (gridError g s.tc) ≤ (1000 * tcNs : Nat))
  let spaced := x.lastValid.elim false fun a => absDiff (s.tc - a) t ≤ 1000 * tcNs
  let lost := s.n Obj.refState r = 1
  let streak := if spaced && x.streak != 0 then x.streak + 1 else 1
  let fit := if lost then (if streak = 1 then [s.tc] else (s.tc :: x.fit).take 8)
    else if onTime then (s.tc :: x.fit).take 8 else x.fit
  (s.setRef r { x with
    fit := fit
    lastValid := some s.tc
    streak := streak
    off := if onTime then 0 else x.off + 1 }).setI Obj.refPhaseDiff r (s.edgePhase r)

/-! ## The loop's correction and its states (R331, R345, R346, R351) -/

/-- The limit of R331: ±100 ppm. -/
def limitY (y : Int) : Int := clampInt (-100000000000000) 100000000000000 y

/-- The frequency correction takes a value, of which a part is the slope term of R346. It is held in 10^-18, and WsFreqCorrection shows it
in 10^-15. -/
def State.setY (s : State) (y slope : Int) : State :=
  { s with ws := { s.ws with y := limitY y, slope := slope } }.setI Obj.wsFreqCorrection 0 (limitY y / 1000)

/-- The selected reference. -/
def State.selected (s : State) : Option Nat :=
  let r := s.n Obj.wsSelectedRef 0
  if r ≤ 10 then some r else none

/-- The junction temperature less its mean during learning, in °C. -/
def State.modelTemp (s : State) : Rat :=
  let m := s.ws.model
  if m.samples = 0 then 0 else ((s.i Obj.junctionTemp 0 : Int) : Rat) / 10 - (m.temps : Rat) / (10 * m.samples : Nat)

/-- The age of the model in days. -/
def HoldoverModel.days (m : HoldoverModel) : Rat := m.age / 86400

/-- What the model gives for the present temperature and age (R352): y0 + a ΔT + b ΔT² + d age, in 10^-18. -/
def State.modelY (s : State) : Rat :=
  let c := s.ws.model.coefs
  let dt := s.modelTemp
  c.getD 0 0 + c.getD 1 0 * dt + c.getD 2 0 * dt * dt + c.getD 3 0 * s.ws.model.days

/-- A pull begins (R346, R347). -/
def State.startPull (s : State) : State :=
  { s with ws := { s.ws with lockSince := none, tracking := false, side := 0 } }

/-- The loop moves to a state (R345, R351, R359, R364): WS_LOCKED and WS_ACQUIRING name the selected reference. -/
def State.enterWs (s : State) (st : Nat) : State :=
  let old := s.n Obj.wsState 0
  if old = st then s
  else
    let t := s.setN Obj.wsState 0 st
    let t := if old = 2 then t.wsHist 7 else t
    match st with
    | 0 => (t.wsHist 0).raise Ev.wsFreeRun 0
    | 1 => t.startPull.raise Ev.wsAcquiring (t.selected.getD 0)
    | 2 => t.raise Ev.wsLocked (t.selected.getD 0)
    | _ =>
      let n := t.ws.track.length
      let mean := if n = 0 then t.ws.y - t.ws.slope else t.ws.track.foldl (· + ·) 0 / n
      let u := { t with ws := { t.ws with heldSince := t.now, expired := false, heldMean := mean, heldModel := t.modelY } }
      ((u.setY mean 0).wsHist 1).raise Ev.wsHoldover 0

/-- In HOLDOVER the frequency follows a ready model: by as much as the model has moved since the mean was taken (R351, R352;
notes/assumptions/82.md). -/
def State.followModel (s : State) : State :=
  if s.ws.ready then s.setY (s.ws.heldMean + roundHalfAway (s.modelY - s.ws.heldModel)) 0 else s

/-- The loop meets a new phase difference of the selected reference (R345, R346): beyond 1,000 ns a LOCKED loop is ACQUIRING; while
ACQUIRING the time within 100 ns counts, and at 100 ns, or where x has passed 0 since the last look, the pull hands over to
tracking without a step. -/
def State.watchPhase (s : State) (r : Nat) : State :=
  let x := s.i Obj.refPhaseDiff r
  if s.selected != some r then s
  else if s.n Obj.wsState 0 = 2 then (if 1000 < x.natAbs then s.enterWs 1 else s)
  else if s.n Obj.wsState 0 = 1 then
    let near := decide (x.natAbs ≤ 100)
    let passed := decide (x.sign * s.ws.side < 0)
    let tracking := near || ((passed || s.ws.tracking) && decide (x.natAbs ≤ 1000))
    let t := { s with ws := { s.ws with
      lockSince := if near then some (s.ws.lockSince.getD s.now) else none
      tracking := tracking
      side := x.sign } }
    if tracking && t.ws.slope != 0 then t.setY (t.ws.y - t.ws.slope) 0 else t
  else s

/-- A valid edge of a periodic reference: the loop watches its phase if it is the selected one (R335, R345). -/
def State.takeEdge (s : State) (r : Nat) : State := (s.goodEdge r).watchPhase r

/-- REF_EDGE (R335, R337, R345): an edge of an enabled periodic reference; `width` is a pulse's width in nanoseconds. -/
def execRefEdge (dt ref width : Nat) (s : State) : Result :=
  actIf dt s (fun t => 2 ≤ ref && ref ≤ 10 && t.b Obj.refEnable ref && (t.refPeriod ref).num != 0) fun t =>
    if refIsPulse ref then
      match pulseCode width with
      | none =>
        let u := t.setRef ref { t.ref ref with codeRun := 0 }
        ((u.bump Obj.refInvalidPulses ref).raiseLimited Ev.refPulseInvalid ref ref).refHist ref 3
      | some c =>
        let x := t.ref ref
        let run := if x.codeRun != 0 && x.code = c then x.codeRun + 1 else 1
        let u := t.setRef ref { x with code := c, codeRun := run, rxQl := if 3 ≤ run then c else x.rxQl }
        (u.refreshQl ref).takeEdge ref
    else t.takeEdge ref

/-- Whether the selected master's Announce messages have stopped for PtpAnnounceTimeout of its intervals (R339). -/
def State.announceLate (s : State) (r : Nat) : Bool :=
  (s.ref r).master.elim false fun m => decide (m.heard + s.n Obj.ptpAnnounceTimeout r * m.every ≤ s.now)

/-- Whether the selected master's Sync messages have stopped for 3 of its intervals (R339). -/
def State.syncLate (s : State) (r : Nat) : Bool := decide ((s.ref r).lastSync + 3 * (s.ref r).syncEvery ≤ s.now)

/-- Whether a cause of loss holds for a reference (R339). What only the input itself shows is taken from the command. -/
def State.causeHolds (s : State) (r : Nat) (c : LossCause) : Bool :=
  let x := s.ref r
  let t := periodTc (s.refPeriod r)
  match c with
  | .frequency => x.lo.elim false fun f => 1000000000 * (s.n Obj.refFreqRange r) < f.natAbs
  | .ptpState => r < 2 && (s.n Obj.ptpState r != 3 ||
      (s.ptpPortCode r).elim true (fun p => s.n (portIdx p Obj.portLinkState) (portNo p) != 2) || s.announceLate r || s.syncLate r)
  | .pulseMissing => refIsPulse r && x.lastValid.elim true fun a => a + 2 * t ≤ s.tc
  | .pulseMoved => refIsPulse r && 3 ≤ x.off
  | .tenMegMissing => r = 6
  | .ppsMissing => r = 6 && x.lastValid.elim true fun a => a + 2 * tcSec ≤ s.tc
  | .sdiUnlocked => refIsSdi r && s.n Obj.rxState (s.n Obj.refSdiLane r) != 4

/-- REF_LOST (R339, R340). While REF_10M is missing no PPS edge counts towards the return: its signal is back with 3 edges after the last
report of the loss. -/
def execRefLost (dt ref : Nat) (cause : LossCause) (s : State) : Result :=
  actIf dt s (fun t => ref ≤ 10 && t.causeHolds ref cause) fun t =>
    let u := if cause = .frequency then t.refHist ref 4
      else if cause = .tenMegMissing then t.setRef ref { t.ref ref with streak := 0 } else t
    u.loseRef ref

/-- Whether a lost reference's signal is back (R339). -/
def State.signalBack (s : State) (r : Nat) : Bool :=
  if r < 2 then
    s.n Obj.ptpState r == 3 && (s.ptpPortCode r).elim false fun p => s.n (portIdx p Obj.portLinkState) (portNo p) == 2
  else if r ≤ 6 then 3 ≤ (s.ref r).streak
  else s.n Obj.refSdiLane r < 288 && s.n Obj.rxState (s.n Obj.refSdiLane r) == 4

/-- REF_SIGNAL_BACK (R339, R340). -/
def execRefSignalBack (dt ref : Nat) (s : State) : Result :=
  actIf dt s (fun t => ref ≤ 10 && t.n Obj.refState ref == 1 && t.signalBack ref) fun t =>
    (t.setRef ref { t.ref ref with off := 0 }).setRefState ref 2

/-- REF_AVAILABLE (R340): the wait to restore has passed. -/
def execRefAvailable (dt ref : Nat) (s : State) : Result :=
  actIf dt s (fun t => ref ≤ 10 && t.n Obj.refState ref == 2 &&
      (t.ref ref).qualAt + 1000000000 * t.n Obj.refWaitToRestore ref ≤ t.now) fun t =>
    t.setRefState ref (if t.n Obj.refQlInForce ref = 0 then 4 else 3)

/-! ## PTP (R336, R341) -/

/-- An interval of 2^k seconds in nanoseconds. -/
def logNs (k : Int) : Nat := if k < 0 then 1000000000 / 2 ^ k.natAbs else 1000000000 * 2 ^ k.natAbs

/-- Whether a list of numbers comes before another. -/
def natsBefore : List Nat → List Nat → Bool
  | a :: l, b :: m => a < b || (a == b && natsBefore l m)
  | _, _ => false

/-- The dataset comparison (R341). PRESUMED from IEEE 1588-2019 (notes/assumptions/83.md): by priority1, clockClass, accuracy, variance,
priority2 and identity of different grandmasters, by the steps to the same one, and then by the sending port. -/
def ptpBefore (a b : PtpDataset) : Bool :=
  let bytes := fun (l : List Byte) => l.map BitVec.toNat
  let key := fun (d : PtpDataset) =>
    (if a.grandmaster = b.grandmaster then [] else
      [d.priority1, d.clockClass, d.accuracy, d.variance, d.priority2] ++ bytes d.grandmaster) ++ [d.steps] ++ bytes d.source
  natsBefore (key a) (key b)

/-- The best of the masters that announce. -/
def bestMaster : List PtpMaster → Option PtpMaster
  | [] => none
  | m :: l => match bestMaster l with
    | some b => some (if ptpBefore b.set m.set then b else m)
    | none => some m

/-- The sending port and the grandmaster of a master: a change of either is a change of master. -/
def PtpMaster.who (m : PtpMaster) : List (List Byte) := [m.set.source, m.set.grandmaster]

/-- A PTP reference takes the best of its masters (R341): each change of master, also to one that follows a master whose Announce messages
had stopped, raises PTP_GM_CHANGE and takes the reference through LOST. -/
def State.takeMaster (s : State) (r : Nat) (masters : List PtpMaster) : State :=
  let x := s.ref r
  match bestMaster masters with
  | none =>
    ((((s.setRef r { x with masters := [], master := none }).setN Obj.ptpState r 1).toDefault Obj.ptpGmIdentity r).toDefault
      Obj.ptpClockClass r).loseRef r
  | some m =>
    let same := x.master.elim false fun o => o.who == m.who
    let t := s.setRef r { x with masters := masters, master := some m, lastMaster := m.who }
    let t := (t.setBy Obj.ptpGmIdentity r m.set.grandmaster).setN Obj.ptpClockClass r m.set.clockClass
    if same then t
    else
      let u := t.setN Obj.ptpState r 2
      if x.lastMaster.isEmpty || x.lastMaster = m.who then u.loseRef r else (u.raise Ev.ptpGmChange r).loseRef r

/-- The masters whose Announce messages have not stopped. -/
def State.announcing (s : State) (r : Nat) : List PtpMaster :=
  (s.ref r).masters.filter fun m => decide (s.now < m.heard + s.n Obj.ptpAnnounceTimeout r * m.every)

/-- PTP_ANNOUNCE_TIMEOUT (R339, R341): the master's Announce messages have stopped for PtpAnnounceTimeout of its intervals; another master
that announces is selected. -/
def execPtpAnnounceTimeout (dt ref : Nat) (s : State) : Result :=
  actIf dt s (fun t => ref < 2 && 2 ≤ t.n Obj.ptpState ref && t.announceLate ref) fun t =>
    ((t.takeMaster ref (t.announcing ref)).loseRef ref).refreshQl ref

/-- The PTP references that a message on a media port concerns (R341). -/
def State.ptpRefs (s : State) (port domain : Nat) (ipv6 : Bool) : List Nat :=
  [0, 1].filter fun r => s.b Obj.refEnable r && s.ptpPortCode r == some port && s.n Obj.ptpDomain r == domain &&
    (s.n Obj.ptpTransport r == 1) == ipv6

/-- The offset and the path delay that a message of the selected master gives (R335). -/
def State.ptpOffset (s : State) (r : Nat) (off path : Int) : State :=
  (((s.setI Obj.ptpOffsetFromMaster r off).setI Obj.ptpMeanPathDelay r path).setI Obj.refPhaseDiff r
    (-off + s.i Obj.refOffset r)).watchPhase r

/-- Whether a message comes from the selected master of a reference that has one. -/
def State.fromMaster (s : State) (r : Nat) (source : List Byte) : Bool :=
  2 ≤ s.n Obj.ptpState r && (s.ref r).master.elim false fun m => m.set.source == source

/-- A PTP message arrives on a media port (R336, R341). -/
def State.ptpMessage (s : State) (port domain : Nat) (ipv6 : Bool) (m : PtpMsg) : State :=
  (s.ptpRefs port domain ipv6).foldl (fun t r =>
    match m with
    | .announce d every =>
      (t.takeMaster r (⟨d, t.now, logNs every⟩ :: (t.announcing r).filter fun o => o.set.source != d.source)).refreshQl r
    | .sync source off path every =>
      if t.fromMaster r source then
        (t.setRef r { t.ref r with lastSync := t.now, syncEvery := logNs every }).ptpOffset r off path
      else t
    | .delayResp source off path every =>
      if t.fromMaster r source then
        ((t.setRef r { t.ref r with delayEvery := logNs every }).ptpOffset r off path).setN Obj.ptpState r 3
      else t) s

/-! ## The loop (R342 to R350) -/

/-- WsPhaseError: x of the selected reference. -/
def State.phaseError (s : State) : Int := s.selected.elim 0 fun r => s.i Obj.refPhaseDiff r

/-- Seconds of the present holdover. -/
def State.heldFor (s : State) : Nat :=
  if s.n Obj.wsState 0 = 3 then (s.now - s.ws.heldSince) / 1000000000 else 0

/-- The device's own QL (R354). -/
def State.deviceQl (s : State) : Nat :=
  match s.n Obj.wsState 0 with
  | 1 => s.selected.elim 15 fun r => s.n Obj.refQlInForce r
  | 2 => s.selected.elim 15 fun r => s.n Obj.refQlInForce r
  | 3 => if s.ws.ready && s.heldFor < s.n Obj.wsHoldoverLimit 0 then s.n Obj.wsHoldoverQl 0 else 15
  | _ => 15

/-- RefWtrRemaining: whole seconds still to pass, rounded up. -/
def State.wtrLeft (s : State) (r : Nat) : Nat :=
  if s.n Obj.refState r = 2 then
    ceilDiv ((s.ref r).qualAt + 1000000000 * s.n Obj.refWaitToRestore r - s.now) 1000000000
  else 0

/-- Number of a 100 ms evaluation. -/
def State.evalIndex (s : State) : Nat := s.tc / (100000000 * tcNs)

/-- A counter value kept from before a step. -/
def movedBy (d : Int) (v : Nat) : Nat := ((v : Int) + d).toNat

/-- What Watershed keeps in counter values moves with a step by d: the fitted grids, the frame pulses, and the seconds and evaluations that
have passed. -/
def Ws.moved (w : Ws) (d : Int) (evals second : Nat) : Ws :=
  { w with
    refs := w.refs.map fun (p : Nat × RefPart) =>
      (p.1, { p.2 with fit := p.2.fit.map (movedBy d), lastValid := p.2.lastValid.map (movedBy d) })
    fps := w.fps.map fun (p : Nat × FpOut) => (p.1, { p.2 with last := p.2.last.map (movedBy d), base := movedBy d p.2.base })
    evalIndex := evals
    second := second }

/-- The counter steps by an amount in nanoseconds; TIME_STEP (R348, R350). The phase differences measured against the counter, and what is
kept in counter values, move with it. Frames of master Tarn ports go on with the first multiple of their period (R307). -/
def State.stepCounter (s : State) (by_ : Int) : State :=
  let t := { s with tc := ((s.tc : Int) + tcNs * by_).toNat }
  let t := { t with
    ce := { t.ce with lastBoundary := gridPoint t.house (gridIndex t.house t.tc) }
    ws := s.ws.moved (tcNs * by_) (t.evalIndex - (s.evalIndex - s.ws.evalIndex)) (t.tc / tcSec)
    tarn := { t.tarn with ports := t.tarn.ports.map fun (p : Nat × TarnPort) =>
      (p.1, { p.2 with stepAt := some t.tc, since := none, fsFrom := none, fsFrames := 0, measured := t.tc / tcSec }) } }
  let t := (List.range 11).foldl (fun u r =>
    if 2 ≤ u.n Obj.refState r then
      let d := u.i Obj.refPhaseDiff r - by_
      u.setI Obj.refPhaseDiff r (if r < 2 then d else wrapPhase (periodNs (u.refPeriod r)) d)
    else u) t
  (t.wsHist 4).raise Ev.timeStep 0

/-- Mean of the newest n of a list. -/
def meanOf (n : Nat) (l : List Int) : Int := if n = 0 then 0 else (l.take n).foldl (· + ·) 0 / n

/-- Whether two references disagree (R344). -/
def State.disagrees (s : State) (a b : Nat) : Bool :=
  let fa := (s.ref a).freqs
  let fb := (s.ref b).freqs
  let n := min fa.length fb.length
  n != 0 && 1000000000 * s.n Obj.wsDisagreeThreshold 0 < (meanOf n fa - meanOf n fb).natAbs

/-- The references in AVAILABLE. -/
def State.candidates (s : State) : List Nat := (List.range 11).filter fun r => s.n Obj.refState r == 3

/-- Whether a reference ranks before another: by RefPriority, then by number (R343). -/
def State.ranksBefore (s : State) (a b : Nat) : Bool :=
  s.n Obj.refPriority a < s.n Obj.refPriority b || (s.n Obj.refPriority a == s.n Obj.refPriority b && a < b)

/-- The members of a list in rank order. -/
def State.ranked (s : State) (l : List Nat) : List Nat :=
  sortBy s.ranksBefore l

/-- The choice of an evaluation in AUTO (R343). -/
def State.autoChoice (s : State) : Option Nat :=
  let cand := s.candidates
  let ql := fun r => s.n Obj.refQlInForce r
  match cand with
  | [] => none
  | c :: _ =>
    let q := (cand.map ql).foldl min (ql c)
    let best := s.ranked (cand.filter fun r => ql r == q)
    match s.selected.filter cand.contains with
    | none => best.head?
    | some cur =>
      if q < ql cur then best.head?
      else some (((best.filter fun r => s.ranksBefore r cur).find? fun r => !s.disagrees r cur).getD cur)

/-- What WsMode chooses (R342). -/
def State.choice (s : State) : Option Nat :=
  match s.n Obj.wsMode 0 with
  | 0 => s.autoChoice
  | 1 => let r := s.n Obj.wsManualRef 0; if s.n Obj.refState r = 3 then some r else none
  | _ => none

/-- A reference is selected (R345, R347, R348). -/
def State.select (s : State) (r : Nat) : State :=
  let changed := s.n Obj.wsSelectedRef 0 != r
  let t := if changed then
      (((s.setN Obj.wsSelectedRef 0 r).bump Obj.wsRefSwitches 0).wsHist 2).raise Ev.wsRefSwitch r else s
  let x := t.i Obj.refPhaseDiff r
  let excess := t.n Obj.wsStepThreshold 0 < x.natAbs
  let step := excess && match t.n Obj.wsStepPolicy 0 with
    | 0 => !t.ws.selectedOnce
    | 2 => changed || t.n Obj.wsState 0 == 1
    | _ => false
  let t := { t with ws := { t.ws with selectedOnce := true } }
  let t := if step then t.stepCounter x else t
  if changed || t.n Obj.wsState 0 = 0 || t.n Obj.wsState 0 = 3 then (t.enterWs 1).startPull else t

/-- The frequency of a reference: as last measured, or before the first measurement the loop's own without its slope term. -/
def State.refFreq (s : State) (r : Nat) : Int := (s.ref r).lo.getD (s.ws.y - s.ws.slope)

/-- The frequency correction at an evaluation (R345, R346): while it pulls, the reference's frequency and S towards it; else what the
tracking filter gives. -/
def State.pull (s : State) (r : Nat) : State :=
  let t := s.watchPhase r
  let x := t.i Obj.refPhaseDiff r
  let f := t.refFreq r
  let slope : Int := 1000000000 * t.n Obj.wsSlopeLimit 0
  if t.n Obj.wsState 0 = 1 && !t.ws.tracking then
    (if 0 < x then t.setY (f + slope) slope else t.setY (f - slope) (-slope))
  else t.setY (Config.trackY (t.n Obj.refBandwidth r) x f t.ws.y) 0

/-- WS_EVALUATION (R342, R343): every 100 ms of the counter. -/
def execWsEvaluation (dt : Nat) (s : State) : Result :=
  actIf dt s (fun t => t.evalIndex != t.ws.evalIndex) fun t0 =>
    let steps := t0.evalIndex - t0.ws.evalIndex
    let t := { t0 with ws := { t0.ws with evalIndex := t0.evalIndex } }
    match t.choice with
    | some r => (t.select r).pull r
    | none =>
      let st := t.n Obj.wsState 0
      let t := t.toDefault Obj.wsSelectedRef 0
      if t.n Obj.wsMode 0 = 3 then
        let y := t.ws.y
        let move : Int := 1000000000 * steps
        let y2 := if y.natAbs ≤ move.natAbs then 0 else if 0 < y then y - move else y + move
        (t.enterWs 0).setY y2 0
      else if st = 1 || st = 2 then t.enterWs 3
      else if st = 3 then t.followModel
      else t

/-- WS_LOCKED (R345): the phase difference has been within 100 ns for 10 s. -/
def execWsLocked (dt : Nat) (s : State) : Result :=
  actIf dt s (fun t => t.n Obj.wsState 0 == 1 && t.phaseError.natAbs ≤ 100 &&
      t.ws.lockSince.elim false fun a => a + 10000000000 ≤ t.now) fun t => t.enterWs 2

/-- Pairs of references to compare (R344). -/
def State.comparable (s : State) : List (Nat × Nat) :=
  let c := s.candidates
  (c.flatMap fun a => (c.filter fun b => a < b).map fun b => (a, b)).filter fun p =>
    s.n Obj.refQlInForce p.1 == s.n Obj.refQlInForce p.2

/-- A pair begins to disagree, or agrees (R344). -/
def State.watchPair (s : State) (p : Nat × Nat) : State :=
  let known := s.ws.disagree.find? fun d => d.1 == p
  let others := s.ws.disagree.filter fun d => d.1 != p
  let keep := fun (t : State) (l : List ((Nat × Nat) × Option Nat)) => { t with ws := { t.ws with disagree := l } }
  if s.disagrees p.1 p.2 then
    match known with
    | some _ => keep s ((p, none) :: others)
    | none =>
      ((((keep s ((p, none) :: others)).raise Ev.disagree (p.1 + 256 * p.2)).wsHist 3).refHist p.1 5).refHist p.2 5
  else
    match known with
    | some (_, some a) => if a + 10000000000 ≤ s.now then keep s others else s
    | some (_, none) => keep s ((p, some s.now) :: others)
    | none => s

/-- A second of LOCKED: the model learns from y at the junction temperature and age (R352). How it does is free. -/
def State.learn (s : State) : State :=
  let m := s.ws.model
  let x : HoldoverModel := { m with temps := m.temps + s.i Obj.junctionTemp 0, samples := m.samples + 1 }
  let t := { s with ws := { s.ws with model := x, runLearned := s.ws.runLearned + 1 } }
  let u := { t with ws := { t.ws with model := { t.ws.model with
    coefs := (List.range 4).map fun k => Config.learn k m.coefs t.modelTemp m.days t.ws.y } } }
  u.setN Obj.wsHoldoverLearned 0 (min (u.n Obj.wsHoldoverLearned 0 + 1) 0xFFFFFFFF)

/-- The model is a second older. -/
def State.ageModel (s : State) : State :=
  if s.ws.model.samples = 0 then s else { s with ws := { s.ws with model := { s.ws.model with age := s.ws.model.age + 1 } } }

/-- What the second brings by the state of the loop (R351, R352): the tracking frequency, which is the correction in LOCKED and the
reference's frequency in ACQUIRING, is kept; LOCKED teaches the model, and HOLDOVER follows it. -/
def State.wsSecond (s : State) : State :=
  let st := s.n Obj.wsState 0
  let tracked := if st = 2 then some s.ws.y else if st = 1 then s.selected.map s.refFreq else none
  let t := { s with ws := { s.ws with track := tracked.elim s.ws.track fun f => (f :: s.ws.track).take 60 } }
  if st = 2 then t.learn else if st = 3 then t.followModel else t

/-- REF_FREQ_MEASURE (R335, R344, R351, R352, R359): once for each whole second of the counter, the frequency differences over it, in
10^-15, and what the device does each second. -/
def execRefFreqMeasure (dt : Nat) (diffs : List (Nat × Int)) (s : State) : Result :=
  actIf dt s (fun t => t.tc / tcSec != t.ws.second) fun t =>
    let t := { t with ws := { t.ws with second := t.tc / tcSec } }
    let good := diffs.filter fun d => d.1 ≤ 10 && t.b Obj.refEnable d.1
    let t := good.foldl (fun u d =>
      let x := u.ref d.1
      let lo := u.ws.y + 1000 * d.2
      (u.setRef d.1 { x with lo := some lo, freqs := (lo :: x.freqs).take 10 }).setI Obj.refFreqDiff d.1 d.2) t
    let t := t.comparable.foldl State.watchPair t
    let t := t.onlyIf t.selected.isSome fun u =>
      u.capture Obj.wsPhaseHistogram 0 (Hist.fresh 2 100 (-1500) u.ws.histStart) u.phaseError
    t.ageModel.wsSecond

/-! ## Time set, oscillator, holdover model (R329, R350, R352, R354) -/

/-- WsTimeSet's effect (R350). -/
def State.timeSet (s : State) (ns : Nat) : State := s.stepCounter ((ns : Int) - s.ptp)

/-- Whether WsTimeSet is refused: a PTP reference is selected (R350). -/
def State.timeSetRefused (s : State) : Bool := s.selected.elim false fun r => r < 2

/-- The holdover model is discarded (R352). -/
def State.dropModel (s : State) : State :=
  { s with
    ws := { s.ws with ready := false, wasReady := false, runLearned := 0, model := {} }
    st := { s.st with model := none } }.setN Obj.wsHoldoverLearned 0 0

/-- LO_FAULT (R329): four missing cycles, or a period outside ±200 ppm; the fault begins with the first, and lasts with every other. -/
def execLoFault (dt missing : Nat) (ppm : Int) (s : State) : Result :=
  actIf dt s (fun _ => 4 ≤ missing || 200 < ppm.natAbs) fun t =>
    let u := { t with ws := { t.ws with loBadAt := t.now } }
    if t.n Obj.wsLoState 0 = 0 then (((u.setN Obj.wsLoState 0 1).dropModel.wsHist 5).raise Ev.loFault 0).setReason 6 true else u

/-- LO_RESTORED (R329): the oscillator has been within tolerance for 1 s and Summit has relocked. -/
def execLoRestored (dt : Nat) (s : State) : Result :=
  actIf dt s (fun t => t.n Obj.wsLoState 0 == 1 && decide (t.ws.loBadAt + 1000000000 ≤ t.now)) fun t =>
    ((t.setN Obj.wsLoState 0 0).raise Ev.loRestored 0).setReason 6 false

/-- HOLDOVER_READY (R352): 48 h of LOCKED time; after a restart, 1 h of it where the model was ready. -/
def execHoldoverReady (dt : Nat) (s : State) : Result :=
  actIf dt s (fun t => !t.ws.ready &&
      (if t.ws.wasReady then decide (3600 ≤ t.ws.runLearned) else decide (172800 ≤ t.n Obj.wsHoldoverLearned 0))) fun t =>
    { t with ws := { t.ws with ready := true } }.raise Ev.holdoverReady 0

/-- HOLDOVER_EXPIRED (R354): the holdover has reached WsHoldoverLimit. -/
def execHoldoverExpired (dt : Nat) (s : State) : Result :=
  actIf dt s (fun t => t.n Obj.wsState 0 == 3 && !t.ws.expired && t.n Obj.wsHoldoverLimit 0 ≤ t.heldFor) fun t =>
    ({ t with ws := { t.ws with expired := true } }.wsHist 6).raise Ev.holdoverExpired 0

/-- WsHistoryClear's effect (R360). -/
def State.clearHistory (s : State) : State :=
  (List.range 11).foldl (fun t r => ((t.setN Obj.refHistory r 0).clearCounter Obj.refLosses r).clearCounter Obj.refInvalidPulses r)
    ((s.setN Obj.wsHistory 0 0).clearCounter Obj.wsRefSwitches 0)

/-- PhaseHistogramClear's effect (R565). -/
def State.clearPhaseHistogram (s : State) : State :=
  { s with ws := { s.ws with histStart := s.ptp } }.clearCounter Obj.wsPhaseHistogram 0

/-! ## Frame pulses (R356, R357) -/

/-- A frame-pulse output. -/
def State.fp (s : State) (n : Nat) : FpOut := look s.ws.fps n {}

/-- A frame-pulse output changed. -/
def State.setFp (s : State) (n : Nat) (x : FpOut) : State := { s with ws := { s.ws with fps := put s.ws.fps n x } }

/-- A write changes an output's settings: they act at the first pulse at or after the next boundary. An output that was disabled takes them
at once when it is enabled, and none of its pulses comes closer to the last one than a period (R356). -/
def State.fpWritten (s : State) (n : Nat) : State :=
  let x := s.fp n
  let t := if s.n Obj.fpState n = 0 && s.b Obj.fpEnable n then
      s.setFp n { x with
        align := s.n Obj.fpAlign n
        rate := s.n Obj.fpRate n
        offset := s.n Obj.fpOffset n
        changeAt := none
        per := 0
        moving := false
        changed := true }
    else s.setFp n { x with changeAt := some s.nextBoundary }
  t.refreshFp n

/-- The inactive level of an output: low where it is active high (R357). -/
def State.fpRest (s : State) (n : Nat) : Nat := b2n (s.n Obj.fpPolarity n != 0)

/-- An output comes to rest at its inactive level (R357). -/
def State.fpIdle (s : State) (n : Nat) : State := s.emit (.pin .fpOut n (s.fpRest n))

/-- The grid that an output follows (R356, R358): a point near the present, and its period. On a lost input it is the last one; on its way
back to a new fitted grid it moves by no more than WsSlopeLimit. -/
def State.fpGrid (s : State) (x : FpOut) : Option (Int × Rat × Bool) :=
  let r := x.align + 1
  match fitGrid (periodTc (s.refPeriod r)) (s.ref r).fit with
  | none => none
  | some g =>
    if s.n Obj.refState r < 2 && x.per != 0 then some (x.base, x.per, x.moving)
    else if x.moving && x.per != 0 then
      let here : Int := (x.base : Int) + (nearPoint x.base x.per s.tc * x.per).floor
      let d : Int := -(gridError g here).floor
      let most : Int := s.n Obj.wsSlopeLimit 0 * (x.last.elim 0 fun a => s.tc - a) / 1000000000
      if most < d.natAbs then some (here + clampInt (-most) most d, g.2, true) else some (g.1, g.2, false)
    else some (g.1, g.2, false)

/-- The last pulse position of an output at or before the present, of the grid of its rate, or of the grid that it follows, plus FpOffset
(R356), with the period, and the output with the grid that it has used. -/
def State.fpPoint (s : State) (x : FpOut) : Option (Nat × Rat × FpOut) :=
  let off := tcNs * x.offset
  if s.tc < off then none
  else if x.align = 0 then
    let p := ratePeriod x.rate
    some (gridPoint p (gridIndex p (s.tc - off)) + off, periodTc p, x)
  else
    match s.fpGrid x with
    | none => none
    | some (b, per, moving) =>
      if per ≤ 0 then none
      else
        let k : Int := (((s.tc : Int) - off - b : Int) / per : Rat).floor
        let at_ : Int := b + off + (k * per : Rat).floor
        if at_ < 0 then none else some (at_.toNat, per, { x with base := b.toNat, per := per, moving := moving })

/-- The next pulse of an output: with changed settings from their boundary on (R356). -/
def State.fpNext (s : State) (n : Nat) : Option (Nat × Rat × FpOut) :=
  let x := s.fp n
  let y : FpOut := { x with
    align := s.n Obj.fpAlign n
    rate := s.n Obj.fpRate n
    offset := s.n Obj.fpOffset n
    changeAt := none
    moving := false
    changed := true }
  match x.changeAt with
  | none => s.fpPoint x
  | some b =>
    match s.fpPoint y with
    | some q => if b ≤ q.1 then some q else s.fpPoint x
    | none => if b ≤ s.tc then none else s.fpPoint x

/-- Whether a pulse may leave after the last one (R356): a whole period after it where the output's settings have changed or it keeps a
grid of its own; an output that follows an input keeps to the points of that grid. -/
def FpOut.spaced (x : FpOut) (at_ : Nat) (per : Rat) : Bool :=
  x.last.elim true fun a => if x.changed || x.align = 0 then decide ((a : Rat) + per ≤ at_) else decide ((a : Rat) + per / 2 ≤ at_)

/-- FP_PULSE_EMIT (R333, R356 to R358): the pulse of an enabled output at its last grid position. -/
def execFpPulseEmit (dt output : Nat) (s : State) : Result :=
  actIf dt s (fun t => output < 4 && t.b Obj.fpEnable output) fun t =>
    match t.fpNext output with
    | none => t
    | some (at_, per, x) =>
      if x.spaced at_ per then
        let w := if t.n Obj.fpWidthMode output = 0 then 2000 + 1000 * t.deviceQl else t.n Obj.fpWidth output
        (t.setFp output { x with last := some at_, changed := false }).emit (.pulse output (at_ / tcNs) w (1 - t.fpRest output))
      else t

/-! ## Writes -/

/-- A write of a Watershed object has set its value. -/
def State.wsWritten (s : State) (index sub : Nat) : State :=
  if index = Obj.refEnable || index = Obj.refQlOverride || index = Obj.refQlDefault then s.refreshRef sub
  else if index = Obj.fpEnable then (if s.b Obj.fpEnable sub then (if s.n Obj.fpState sub = 0 then s.fpWritten sub else s)
    else (s.fpWritten sub).fpIdle sub)
  else if index = Obj.fpAlign || index = Obj.fpRate || index = Obj.fpOffset then s.fpWritten sub
  else if index = Obj.fpPolarity then s.fpIdle sub
  else s

end Sys2Proof.Machine
end

