-- ==== Sys2Proof/Machine/MediaFrame.lean ====
section
/-!
DEFINITION. Ethernet frames on media ports (R91, R92, R101, R145): acceptance, and what each kind of contents does.
-/
namespace Sys2Proof.Machine

/-- The port's own IP addresses, by which flows and requests may reach it (R92, R102). -/
def State.portAddrs (s : State) (port : Nat) : List (List Byte) :=
  let a := s.portN port Obj.portIpv4Addr
  let b := s.by (portIdx port Obj.portIpv6Addr) (portNo port)
  (if a = 0 then [] else [beBytes 4 a]) ++ (if b.isEmpty then [] else [b]) ++ [linkLocal (s.portMacNow port)]

/-- The groups that a port has joined by itself: the solicited-node groups of its addresses, those of all hosts and all nodes, and
those of PTP. PRESUMED from RFC 1112, RFC 4291 and IEEE 1588 (notes/assumptions/20.md). -/
def State.serviceGroups (s : State) (port : Nat) : List (List Byte) :=
  let v6 := fun (scope : Nat) (low : List Byte) => beBytes 1 0xFF ++ beBytes 1 scope ++ zeros (14 - low.length) ++ low
  ((s.portAddrs port).filter fun a => a.length = 16).map (fun a => v6 2 (beBytes 2 0x01FF ++ a.drop 13)) ++
    [beBytes 4 0xE0000001, v6 2 (beBytes 1 1), beBytes 4 0xE0000181, beBytes 4 0xE000006B, v6 0xE (beBytes 2 0x181),
      v6 2 (beBytes 1 0x6B)]

/-- Whether a port's filter takes a destination MAC address (R91). -/
def State.macTaken (s : State) (port : Nat) (mac : List Byte) : Bool :=
  mac == s.portMacNow port || mac == List.replicate 6 0xFF ||
    (s.serviceGroups port ++ (s.port port).records.map (·.1)).any fun g => groupMac g == mac

/-- Whether a port accepts a frame (R91). -/
def State.frameTaken (s : State) (port : Nat) (f : EthFrame) : Bool :=
  let v := s.portN port Obj.portVlan
  64 ≤ f.bytes && f.bytes ≤ 1522 && f.fcsOk && f.vlans == (if v = 0xFFFF then [] else [v]) && s.macTaken port f.dstMac

/-- An ARP request or neighbour solicitation is answered for an own address (R92); a standby answers nothing (R147). -/
def State.answer (s : State) (port : Nat) (addr : List Byte) : State :=
  if !s.standby && (s.portAddrs port).contains addr then s.sendArp port 1 addr (s.identityMac port) [] else s

/-- A membership query (R101): PortQuerier, the presence of an older querier, IGMP_COMPAT, and the answer with the records it asks
for. -/
def State.query (s : State) (port : Nat) (mld : Bool) (version : Nat) (group : List Byte) : State :=
  let was := s.compatMode port mld
  let ix := portIdx port Obj.portQuerier
  let q := s.n ix (portNo port)
  let t := s.setN ix (portNo port) (if mld then setField q 2 3 version else setField q 0 1 version)
  let kind := if mld then 3 else version
  let t := if version < (if mld then 2 else 3) then
      t.setPort port { t.port port with older := put (t.port port).older kind (t.now + t.olderTimeout port) }
    else t
  let t := if !was && t.compatMode port mld then t.raise Ev.igmpCompat port else t
  ((t.port port).records.filter fun r =>
    (r.1.length == if mld then 16 else 4) && (group.isEmpty || group == r.1)).foldl (fun u r => u.report port r) t

/-- A packet of a flow (R92, R93, R100, R102): an entry takes it, a pre-joined entry counts it, or it is dropped. A unicast one must
have come to the port's own addresses. -/
def State.flowPacket (s : State) (port : Nat) (mac : List Byte) (p : Rtp) : State :=
  let ok := multicast p.dst || (mac == s.portMacNow port && (s.portAddrs port).contains p.dst)
  match if ok then s.rxTaker port p else none with
  | some (_, e, true) => s.receive e p
  | some (c, e, false) => if p.payloadType = Objs.n c Obj.rxPayloadType e then s.premeasure c e p else s
  | none => s.bump (portIdx port Obj.portRxDropNoFlow) (portNo port)

/-- A Delay_Req leaves for a PTP reference (R341), with the port's own addresses; on a standby with the station addresses (R373). Its length is
that of the standard. PRESUMED (notes/assumptions/20.md). -/
def State.sendDelayReq (s : State) (port r : Nat) : State :=
  let v6 := s.n Obj.ptpTransport r == 1
  let tag := if s.portN port Obj.portVlan = 0xFFFF then 0 else 4
  let t := s.setRef r { s.ref r with delayAt := s.now + (s.ref r).delayEvery }
  (t.countTx port ((if v6 then 110 else 90) + tag)).emit
    (.ptpDelayReq port r (s.n Obj.ptpProfile r) (s.n Obj.ptpDomain r) v6 (s.portMacNow port)
      (s.reportSrc port (zeros (if v6 then 16 else 4))))

/-- The Delay_Req messages that fall due (R341): with the first Sync of the selected master once its interval has passed
(notes/assumptions/83.md). -/
def State.delayReqs (s : State) (port domain : Nat) (ipv6 : Bool) (m : PtpMsg) : State :=
  match m with
  | .sync source _ _ _ =>
    ((s.ptpRefs port domain ipv6).filter fun r => s.fromMaster r source && (s.ref r).delayAt ≤ s.now).foldl
      (fun t r => t.sendDelayReq port r) s
  | _ => s

/-- MP_FRAME_RECEIVED (R91, R92). -/
def execMpFrameReceived (dt port : Nat) (f : EthFrame) (s : State) : Result :=
  actIf dt s (fun t => t.live && Objs.portMode t.objs port != 0 && t.portN port Obj.portLinkState == 2) fun t =>
    if !t.frameTaken port f then t.bump (portIdx port Obj.portRxDropBad) (portNo port)
    else
      let u := (t.bump (portIdx port Obj.portRxFrames) (portNo port)).bump (portIdx port Obj.portRxBytes) (portNo port) f.bytes
      match f.body with
      | .rtp p => u.flowPacket port f.dstMac p
      | .udpOther => u.bump (portIdx port Obj.portRxDropNoFlow) (portNo port)
      | .arpRequest a => u.answer port a
      | .neighbourSolicitation a => u.answer port a
      | .resolution a mac => u.resolved port a mac
      | .membershipQuery mld v g => u.query port mld v g
      | .ptp d v6 m => (u.ptpMessage port d v6 m).delayReqs port d v6 m

end Sys2Proof.Machine
end

