-- ==== Sys2Proof/Machine/Cirque.lean ====
section
/-!
DEFINITION. Cirque compositors and colour stages (chapters 07, 08): geometry, timing, layers, graphics surfaces, the Firn
cache, migration, tables and their flips.
-/
namespace Sys2Proof.Machine

/-! ## State -/

/-- An engine. -/
def State.engine (s : State) (e : Nat) : Engine := look s.cq.engines e {}

/-- An engine changed. -/
def State.setEngine (s : State) (e : Nat) (x : Engine) : State :=
  { s with cq := { s.cq with engines := put s.cq.engines e x } }

/-- A layer. -/
def State.layer (s : State) (x : Nat) : Layer := look s.cq.layers x {}

/-- A layer changed. -/
def State.setLayer (s : State) (x : Nat) (y : Layer) : State :=
  { s with cq := { s.cq with layers := put s.cq.layers x y } }

/-- A colour stage. -/
def State.stage (s : State) (x : Nat) : ColStage := look s.cq.stages x {}

/-- A colour stage changed. -/
def State.setStage (s : State) (x : Nat) (y : ColStage) : State :=
  { s with cq := { s.cq with stages := put s.cq.stages x y } }

/-- Subindices of layers whose number in the engine is below 4 are video layers (R218). -/
def layerVideo (x : Nat) : Bool := x % 8 < 4

/-! ## Geometry and scaling (R226 to R231) -/

/-- The step of one axis: 65,536 × crop / window, halves rounded up (R227). -/
def scaleStep (crop window : Nat) : Nat := (2 * 65536 * crop + window) / (2 * window)

/-- The source position of output column or row i, in 16 fractional bits (R227). -/
def scalePos (origin step i : Nat) : Int := 65536 * origin + i * step + ((step : Int) - 65536) / 2

/-- The source sample and the phase of a position (R227). -/
def scaleTap (p : Int) : Int × Nat := (p / 65536, (p % 65536).toNat / 1024)

/-- The lines that the line buffer leaves for the vertical filter (R229); `u` is 1 for a 4:2:2 source and 2 otherwise. -/
def lineTaps (cropWidth u stepY : Nat) : Int :=
  let l : Int := (16384 / (cropWidth * u) : Nat)
  let k : Int := (max 1 (stepY / 65536) : Nat)
  min 6 (l - k + 1)

/-- The route of a video layer (R219): that of its destination, none for a layer that names none. -/
def Objs.layerRoute (c : Objs) (x : Nat) : Nat :=
  let d := Objs.n c Obj.layerDstSlot x
  if d = 0xFFFF then 0x800 else Objs.n c Obj.route d

/-- A layer's format as the geometry checks take it: its source's reserved format, else its destination's (R226). -/
def Objs.layerSource (c : Objs) (x : Nat) : Nat :=
  let d := Objs.n c Obj.layerDstSlot x
  match routeSource (Objs.layerRoute c x) with
  | some slot => Objs.n c Obj.srcReservedFormat slot
  | none => Objs.n c Obj.dstReservedFormat d

/-- The output format of an engine (R218). -/
def Objs.engineFormat (c : Objs) (e : Nat) : Nat :=
  let slot := Objs.n c Obj.cqSrcSlot e
  if slot = 0xFFFF then 0 else Objs.n c Obj.srcReservedFormat slot

/-- Whether a layer scales single fields (R231). -/
def Objs.layerField (c : Objs) (x : Nat) : Bool :=
  let r := fmtRaster (Objs.layerSource c x)
  Objs.n c Obj.layerScan x == 1 && (rasterInterlaced r || r == 5)

/-- The crop of a video layer (x, y, w, h) in frame lines (R226). -/
def Objs.layerCrop (c : Objs) (x : Nat) : Nat × Nat × Nat × Nat :=
  let r := fmtRaster (Objs.layerSource c x)
  let size := Objs.n c Obj.layerCropSize x
  let pos := Objs.n c Obj.layerCropPos x
  if size = 0 then (0, 0, rasterWidth r, rasterHeight r)
  else (field pos 0 15, field pos 16 31, field size 0 15, field size 16 31)

/-- The window size of a video layer (R226). -/
def Objs.layerWindow (c : Objs) (x : Nat) : Nat × Nat :=
  let r := fmtRaster (Objs.engineFormat c (x / 8))
  let size := Objs.n c Obj.layerWinSize x
  if size = 0 then (rasterWidth r, rasterHeight r) else (field size 0 15, field size 16 31)

/-- The steps of a layer (R227, R231). -/
def Objs.layerSteps (c : Objs) (x : Nat) : Nat × Nat :=
  let (_, _, w, h) := Objs.layerCrop c x
  let (wo, ho) := Objs.layerWindow c x
  (scaleStep w wo, scaleStep (if Objs.layerField c x then h / 2 else h) ho)

/-- The taps of a layer (R229). -/
def Objs.layerTaps (c : Objs) (x : Nat) : Int :=
  let (_, _, w, _) := Objs.layerCrop c x
  lineTaps w (if fmtSampling (Objs.layerSource c x) = 0 then 1 else 2) (Objs.layerSteps c x).2

/-! ## Timing (R222) -/

/-- D_c: 8 output line periods and 2,000 ns, in nanoseconds. -/
def compositeDelay (f : Nat) : Nat := let t := linePeriod f; 8 * t.1 / t.2 + 2000

/-! ## Graphics surfaces (R235, R236) -/

/-- The bytes of a surface of an engine's output raster. -/
def surfaceBytes (f : Nat) : Nat := rasterHeight (fmtRaster f) * ceilDiv (rasterWidth (fmtRaster f)) 12 * 64

/-- Bytes stored from a position on in a surface or table. -/
def storeBytes (m : List Host.Cell) (a : Nat) : List Byte → List Host.Cell
  | [] => m
  | b :: t => storeBytes (storeSet memDefault m a b) (a + 1) t

/-- The configuration that an engine runs under: that which an engine of a migration keeps until its handover point, else the one in
force (R244, R245). -/
def State.engineConfig (s : State) (e : Nat) : Objs := (s.engine e).old.getD s.objs

/-- The format whose raster sizes a layer's surfaces. -/
def State.layerFormat (s : State) (x : Nat) : Nat := Objs.engineFormat (s.engineConfig (x / 8)) (x / 8)

/-- Whether the back surface is complete. -/
def State.backFull (s : State) (x : Nat) : Bool :=
  let n := surfaceBytes (s.layerFormat x)
  n != 0 && spansFull (s.layer x).spans n

/-- A write of LayerGfxOffset (R236). -/
def State.gfxOffset (s : State) (x pos : Nat) : State := s.setLayer x { s.layer x with pos := pos }

/-- Whether LayerGfxData takes a length at the position (R236). -/
def State.gfxDataOk (s : State) (x len : Nat) : Bool :=
  len % 64 == 0 && (s.layer x).pos + len ≤ surfaceBytes (s.layerFormat x)

/-- A write of LayerGfxData (R236). -/
def State.gfxData (s : State) (x : Nat) (b : List Byte) : State :=
  let y := s.layer x
  let t := s.setLayer x { y with
    back := storeBytes y.back y.pos b, spans := if b.isEmpty then y.spans else addSpan y.pos (y.pos + b.length) y.spans,
    pos := y.pos + b.length }
  t.setB Obj.layerGfxComplete x (t.backFull x)

/-- A write of LayerGfxFlip: due at the Frame-class boundary (R236). -/
def State.gfxFlip (s : State) (x boundary : Nat) : State :=
  s.setLayer x { s.layer x with flipDue := (s.layer x).flipDue ++ [boundary] }

/-- Front and back exchange in the engine frame of alignment point te (R236). -/
def State.doFlip (s : State) (x te : Nat) : State :=
  let y := s.layer x
  (s.setLayer x { y with
    front := y.back, back := y.front, spans := [], flipDue := y.flipDue.filter (te < ·), flipped := true }).setB
    Obj.layerGfxComplete x false

/-- Whether a flip falls due in the engine frame of an alignment point (R236). -/
def Layer.flipFallen (y : Layer) (te : Nat) : Bool := y.flipDue.any (· ≤ te)

/-! ## Colour stages (R254 to R263) -/

/-- The mix colour of an engine (R254). -/
def Objs.mixColour (c : Objs) (e : Nat) : Nat :=
  let m := Objs.n c Obj.cqMixColour e
  if m = 0xFFFF then Objs.n c Obj.cqOutputColour e else m

/-- Input and output colour of a stage (R254). -/
def Objs.stageColours (c : Objs) (x : Nat) : Nat × Nat :=
  if 0x100 ≤ x then (Objs.mixColour c (x - 0x100), Objs.n c Obj.cqOutputColour (x - 0x100))
  else if layerVideo x then
    (match routeSource (Objs.layerRoute c x) with
      | some slot => Objs.srcColourOf c slot
      | none => Objs.n c Obj.colStageIn x, Objs.mixColour c (x / 8))
  else (Objs.n c Obj.colGfxColour x, Objs.mixColour c (x / 8))

/-- The colour code of a transfer: 0 BT.1886, 1 HLG, 2 PQ (R250). -/
def transferOf (colour : Nat) : Nat := if colour < 2 then 0 else colour - 1

/-- Whether a stage compresses (R260): AUTO, colours that differ, and g × L_s above L_t. -/
def Objs.stageCompresses (c : Objs) (x : Nat) : Bool :=
  let (i, o) := Objs.stageColours c x
  let sdr := Objs.n c Obj.colSdrPeak 0
  let hlg := Objs.n c Obj.colHlgPeak 0
  let ref := Objs.n c Obj.colTmoRefWhite x
  let peak := fun t pq => if t = 0 then sdr else if t = 1 then hlg else pq
  let ls := peak (transferOf i) (Objs.n c Obj.colTmoSourcePeak x)
  let lt := peak (transferOf o) 10000
  i != o && Objs.n c Obj.colTmoMode x == 0 &&
    (if transferOf i != 0 && transferOf o == 0 then lt * ref < sdr * ls
     else if transferOf i == 0 && transferOf o != 0 then lt * sdr < ref * ls
     else lt < ls)

/-- Whether a stage has a shaper and a 3D LUT: all but those of graphics layers (R254). -/
def stageHasTables (x : Nat) : Bool := 0x100 ≤ x || layerVideo x

/-- Whether a stage's shaper, or its 3D LUT, is enabled (R254, R256). -/
def Objs.tableOn (c : Objs) (enable x : Nat) : Bool := stageHasTables x && Objs.b c enable x

/-- Whether a stage is in bypass (R255). -/
def Objs.stageBypass (c : Objs) (x : Nat) : Bool :=
  let (i, o) := Objs.stageColours c x
  i == o && !Objs.tableOn c Obj.colShaperEnable x && !Objs.tableOn c Obj.colLutEnable x

/-- The bytes of a 3D LUT (R262). -/
def lutBytes : Nat := 215622

/-- Bits [4:2] of ColStageState follow the stage's tables (R263, R267): a flip that has fallen due and waits, and the back copies
written in full. -/
def State.tableBits (s : State) (x : Nat) : State :=
  let y := s.stage x
  s.setN Obj.colStageState x (setField (s.n Obj.colStageState x) 2 4
    (b2n y.pendingRaised + 2 * b2n y.shaperFull + 4 * b2n (spansFull y.lutSpans lutBytes)))

/-- ColShaperData (R263). -/
def State.shaperData (s : State) (x : Nat) (b : List Byte) : State :=
  (s.setStage x { s.stage x with shaperBack := b, shaperFull := true }).tableBits x

/-- ColLutOffset (R263). -/
def State.lutOffset (s : State) (x pos : Nat) : State := s.setStage x { s.stage x with lutPos := pos }

/-- Whether ColLutData takes a length at the position (R263). -/
def State.lutDataOk (s : State) (x len : Nat) : Bool :=
  let pos := (s.stage x).lutPos
  len % 6 == 0 && pos % 6 == 0 && pos + len ≤ lutBytes

/-- ColLutData (R263). -/
def State.lutData (s : State) (x : Nat) (b : List Byte) : State :=
  let y := s.stage x
  (s.setStage x { y with
    lutBack := storeBytes y.lutBack y.lutPos b,
    lutSpans := if b.isEmpty then y.lutSpans else addSpan y.lutPos (y.lutPos + b.length) y.lutSpans,
    lutPos := y.lutPos + b.length }).tableBits x

/-- ColTableFlip, with the Frame-class boundary of its write: it falls due at the stage's first engine frame at or after it
(R263). -/
def State.tableFlip (s : State) (x boundary : Nat) : State :=
  s.setStage x { s.stage x with flipDue := (s.stage x).flipDue ++ [boundary] }

/-- The flip of a stage in the engine frame of alignment point te (R263): every table written in full exchanges; a LUT written in
part holds the flip back. -/
def State.doTableFlip (s : State) (x te : Nat) : State :=
  let y := s.stage x
  if !y.flipDue.any (· ≤ te) then s
  else
    let lutFull := spansFull y.lutSpans lutBytes
    if !y.lutSpans.isEmpty && !lutFull then
      if y.pendingRaised then s
      else ((s.setStage x { y with pendingRaised := true }).tableBits x).raise Ev.colLutPending x
    else
      let t := (s.setStage x { y with
        shaperFront := if y.shaperFull then y.shaperBack else y.shaperFront
        shaperBack := if y.shaperFull then y.shaperFront else y.shaperBack
        shaperFull := false
        lutFront := if lutFull then y.lutBack else y.lutFront
        lutBack := if lutFull then y.lutFront else y.lutBack
        lutSpans := []
        flipDue := y.flipDue.filter (te < ·)
        pendingRaised := false
        failed := y.failed && !(y.shaperFull || lutFull) }).tableBits x
      if y.shaperFull || lutFull then t.raise Ev.colTableFlipped x else t

/-- The reported state of a stage in the engine frame of alignment point te (R260, R267), under the engine's configuration. -/
def State.refreshStage (s : State) (c : Objs) (x te : Nat) : State :=
  let t := s.doTableFlip x te
  let (i, o) := Objs.stageColours c x
  let t1 := (t.setN Obj.colStageIn x i).setN Obj.colStageOut x o
  (t1.setBitN Obj.colStageState x 0 (Objs.stageBypass c x || (t1.stage x).failed)).setBitN Obj.colStageState x 1
    (Objs.stageCompresses c x)

/-! ## Layers at an engine frame (R223, R239 to R241) -/

/-- A layer that is not ready: it holds its last frame for up to LayerHoldCount frames, then becomes transparent (R240). -/
def State.layerNotReady (s : State) (c : Objs) (x : Nat) (has : Bool) : State :=
  let y := s.layer x
  let hold := Objs.n c Obj.layerHoldCount x
  let held := y.held + 1
  let clear := !has || (hold != 255 && hold < held)
  let s1 := s.setLayer x { y with held := held, notReady := true, transparent := clear }
  let s2 := (s1.bump Obj.layerNotReadyFrames x).setN Obj.layerState x (if clear then 3 else 2)
  let s3 := if y.notReady then s2 else s2.raise Ev.cqLayerNotReady x
  if clear && !(y.notReady && y.transparent) then s3.raise Ev.cqLayerTransparent x else s3

/-- A layer that is ready (R241). -/
def State.layerReady (s : State) (x : Nat) : State :=
  let y := s.layer x
  let s1 := (s.setLayer x { y with held := 0, notReady := false, transparent := false }).setN Obj.layerState x 1
  if y.notReady then s1.raise Ev.cqLayerReady x else s1

/-- Whether a frame's first field is complete at a time in nanoseconds: half of its lines, which come first (R223). -/
def Frame.fieldDone (g : Frame) (t : Nat) : Bool :=
  g.open_ && match g.finishAt with
    | some at_ => at_ ≤ t + fmtPeriodNs g.format / 2
    | none => rasterHeight (fmtRaster g.format) ≤ 2 * g.lines

/-- What a video layer selects from a slot at a time in nanoseconds (R223): the newest complete frame, as field 0; in FIELD mode the
newest complete field. A slot without a complete frame has nothing to select (R239). -/
def State.layerPick (s : State) (isField : Bool) (slot t : Nat) : Option (Frame × Nat) :=
  match s.newestComplete slot with
  | none => none
  | some f =>
    if isField then
      ((s.src slot).held.find? fun g => g.complete || g.fieldDone t).map fun g => (g, if g.complete then 2 else 1)
    else some (f, 0)

/-- The number by which a layer counts repeats and drops: of the frame, in FIELD mode of the field (R223). -/
def pickNumber (g : Frame) (k : Nat) : Nat := if k = 0 then g.seq else 2 * g.seq + k

/-- A video layer of destination d has nothing to show in an engine frame (R239, R174): no route, or a loss. -/
def State.layerLoss (s : State) (c : Objs) (d x state : Nat) : State :=
  (((s.enterLoss d).setN Obj.dstState d state).bump Obj.dstLossFrames d).layerNotReady c x (s.layer x).last.isSome

/-- A video layer shows a frame or field (R223, R225, R241). -/
def State.layerShow (s : State) (d x slot te : Nat) (p : Frame × Nat) : State :=
  let g := p.1
  let n := pickNumber g p.2
  let t := ((s.slip d slot n).showFrame d slot g (te / tcNs) te).emitLedger d 0 (te / tcNs)
  let t := (t.setN Obj.dstFormatLive d g.format).setDst d { t.dst d with last := some (slot, n) }
  (t.setLayer x { t.layer x with
    last := some (slot, g.seq, p.2)
    lastPic := g.pic
    lastFormat := g.format
    lastOrigin := (g.kind, g.origin)
    lastStages := g.readStages
    lastAnc := g.anc }).layerReady x

/-- A video layer meets the route of its destination, whose switching point is t_e (R170): it has shown nothing of a new one (R240). -/
def State.layerSwitch (s : State) (d x te route : Nat) : State :=
  let y := s.layer x
  let z := s.dst d
  let ahead := z.routes.filter fun p => te < p.1
  if y.route = route then s.setDst d { z with routes := ahead }
  else (s.setLayer x { y with route := route, last := none }).setDst d { z with routes := ahead, route := route, last := none }

/-- A video layer at t_e (R223, R239 to R241). `c` is the configuration that the engine runs under. -/
def State.videoLayer (s : State) (c : Objs) (x te : Nat) : State :=
  let d := Objs.n c Obj.layerDstSlot x
  let route := Objs.layerRoute c x
  let s := s.layerSwitch d x te route
  let s := (s.setN Obj.dstModeInForce d 1).labelColour d te
  let f := Objs.engineFormat c (x / 8)
  match routeSource route with
  | none => s.layerLoss c d x 1
  | some slot =>
    let s := s.settle slot
    match s.layerPick (Objs.layerField c x) slot (te / tcNs) with
    | some p =>
      if s.slotLocked slot && (!(s.dst d).episode || s.holdMet d slot f) then s.layerShow d x slot te p
      else s.layerLoss c d x 3
    | none => s.layerLoss c d x 3

/-- A disabled layer has no history (R247). -/
def State.layerOff (s : State) (x : Nat) : State :=
  (s.setLayer x { s.layer x with
    route := 0x800, last := none, held := 0, notReady := false, transparent := false }).setN Obj.layerState x 0

/-- A graphics layer in the engine frame of alignment point te (R236, R239, R240); `static` defers a flip to the rebuild frame
(R238). -/
def State.gfxLayer (s : State) (c : Objs) (x te : Nat) (isStatic rebuild : Bool) : State :=
  let y := s.layer x
  if y.flipFallen te then
    if s.backFull x then (if isStatic && !rebuild then s else (s.doFlip x te).layerReady x)
    else s.layerNotReady c x y.flipped
  else s.layerReady x

/-! ## The Firn cache (R237, R238) -/

/-- The static layers of an engine. -/
def Objs.staticLayers (c : Objs) (e : Nat) : List Nat :=
  ([4, 5, 6, 7].map (8 * e + ·)).filter fun x => Objs.b c Obj.layerEnable x && Objs.b c Obj.layerStatic x

/-- The peaks that a stage takes (R258, R260): that of each transfer of its colours, none in bypass. -/
def Objs.stagePeaks (c : Objs) (x : Nat) : List Nat :=
  let (i, o) := Objs.stageColours c x
  let takes := fun t => i != o && (transferOf i == t || transferOf o == t)
  (if takes 0 then [Obj.colSdrPeak] else []) ++ (if takes 1 then [Obj.colHlgPeak] else [])

/-- What the Firn surface depends on beside the surfaces: settings of the static layers (R238, R264). -/
def Objs.firnSig (c : Objs) (e : Nat) : List (Nat × Val) :=
  (Objs.staticLayers c e).flatMap fun x =>
    ([Obj.layerAlpha, Obj.layerAlphaMode, Obj.colGfxColour, Obj.colTmoMode, Obj.colTmoSourcePeak, Obj.colTmoRefWhite].map
      fun i => (adr i x, Objs.val c (adr i x))) ++
    (Objs.stagePeaks c x).map fun i => (adr i 0, Objs.val c (adr i 0))

/-- The transparency of the static layers. -/
def State.firnShown (s : State) (c : Objs) (e : Nat) : List (Nat × Nat) :=
  (Objs.staticLayers c e).map fun x => (x, b2n (s.layer x).transparent)

/-! ## What a frame is made of (R226 to R237, R254) -/

/-- The order of layers from bottom to top (R234). -/
def Objs.layerOrder (c : Objs) (e : Nat) : List Nat :=
  if Objs.n c Obj.cqOrderMode e = 0 then List.range 8
  else (List.range 8).map fun p => field (Objs.n c Obj.cqOrder e) (4 * p) (4 * p + 3)

/-- A colour stage as it stands (R254 to R263): one whose tables the memory has lost passes its input on (R555). -/
def State.stageLook (s : State) (c : Objs) (x : Nat) : StageLook :=
  let (i, o) := Objs.stageColours c x
  let y := s.stage x
  { input := i, output := o, bypass := Objs.stageBypass c x || y.failed, onLayer := x < 0x100
    compresses := Objs.stageCompresses c x, sdrPeak := Objs.n c Obj.colSdrPeak 0, hlgPeak := Objs.n c Obj.colHlgPeak 0
    sourcePeak := Objs.n c Obj.colTmoSourcePeak x, refWhite := Objs.n c Obj.colTmoRefWhite x
    shaper := if Objs.tableOn c Obj.colShaperEnable x then some y.shaperFront else none
    lut := if Objs.tableOn c Obj.colLutEnable x then some y.lutFront else none }

/-- How a layer is blended, as it stands (R232, R233). -/
def State.blendLook (s : State) (c : Objs) (x : Nat) : BlendLook :=
  { alpha := Objs.n c Obj.layerAlpha x, mode := Objs.n c Obj.layerAlphaMode x, stage := s.stageLook c x }

/-- How a video layer is scaled and placed, as it stands (R226 to R231): LayerFilter selects a user table of its engine (R228), and
LayerWinPos places the window. -/
def State.scaleLook (s : State) (c : Objs) (x : Nat) : ScaleLook :=
  let y := s.layer x
  let pos := Objs.n c Obj.layerWinPos x
  let filter := Objs.n c Obj.layerFilter x
  let table := fun a b => if filter = 2 then Objs.by c a (x / 8) else if filter = 3 then Objs.by c b (x / 8) else []
  { layer := x, format := y.lastFormat, field := (y.last.map (·.2.2)).getD 0, single := Objs.layerField c x, crop := Objs.layerCrop c x
    at_ := (toSigned 16 (field pos 0 15), toSigned 16 (field pos 16 31)), window := Objs.layerWindow c x
    steps := Objs.layerSteps c x, taps := (Objs.layerTaps c x).toNat, filter := filter
    coefH := table Obj.cqCoefHA Obj.cqCoefHB, coefV := table Obj.cqCoefVA Obj.cqCoefVB }

/-- A layer over what lies below it: nothing where it is disabled or transparent (R234, R240). -/
def State.overLayer (s : State) (c : Objs) (x : Nat) (below : Pic) : Pic :=
  let y := s.layer x
  if !Objs.b c Obj.layerEnable x || y.transparent then below
  else if layerVideo x then
    (if y.last.isSome then .video below y.lastPic (s.scaleLook c x) (s.blendLook c x) else below)
  else .surface below (rasterWidth (fmtRaster (Objs.engineFormat c (x / 8)))) y.front (s.blendLook c x)

/-- The static layers of an engine over nothing, in its order: what its Firn surface holds (R237). -/
def State.firnRun (s : State) (c : Objs) (e : Nat) : Pic :=
  ((Objs.layerOrder c e).filter fun l => (Objs.staticLayers c e).contains (8 * e + l)).foldl
    (fun p l => s.overLayer c (8 * e + l) p) .clear

/-- The layers of a frame over the background, bottom to top (R233, R234). The Firn surface stands in place of the run of static
layers, but in a frame that rebuilds it (R237, R238). -/
def State.layersPic (s : State) (c : Objs) (e : Nat) (rebuild : Bool) : Pic :=
  let static_ := fun l => (Objs.staticLayers c e).contains (8 * e + l)
  let order := Objs.layerOrder c e
  let first := order.find? static_
  order.foldl (fun p l =>
    if rebuild || !static_ l then s.overLayer c (8 * e + l) p
    else if first = some l then .firn p (s.engine e).firn
    else p) (.ground (Objs.n c Obj.cqBgColour e))

/-- Staleness after the engine frame of alignment point te, and the end of a rebuild (R238). -/
def State.firnStep (s : State) (c : Objs) (e te : Nat) (rebuilt : Bool) : State :=
  let static_ := Objs.staticLayers c e
  let x := s.engine e
  if static_.isEmpty then
    (s.setEngine e { x with firn := .clear, firnSig := [], firnShown := [], firnSince := none }).setN Obj.cqFirnState e 0
  else if rebuilt then
    ((s.setEngine e { x with
      firn := s.firnRun c e
      firnSig := Objs.firnSig c e
      firnShown := s.firnShown c e
      firnSince := none
      firnWaitRaised := false }).setN Obj.cqFirnState e 1).bump Obj.cqFirnRebuilds e
  else
    let swaps := static_.any fun k => (s.layer k).flipFallen te && s.backFull k
    let stale := swaps || Objs.firnSig c e != x.firnSig || s.firnShown c e != x.firnShown
    if stale && x.firnSince.isNone then
      (s.setEngine e { x with firnSince := some (gridIndex s.house s.tc), firnWaitRaised := false }).setN Obj.cqFirnState e 2
    else s

/-- The engines that wait, the longest waiting first and then the lowest number (R238). -/
def State.firnWaiting (s : State) : List (Nat × Nat) :=
  sortBy (fun (a b : Nat × Nat) => a.1 < b.1 || (a.1 == b.1 && a.2 ≤ b.2))
    ((List.range 32).filterMap fun e =>
      if s.n Obj.cqFirnState e = 2 && s.n Obj.cqState e != 0 then (s.engine e).firnSince.map fun t => (t, e) else none)

/-- Rebuild grants at house frame boundary number n: up to 8, then CQ_FIRN_WAIT for those that have waited more than one
boundary (R238). -/
def State.firnGrants (s : State) (n : Nat) : State :=
  let w := s.firnWaiting
  let t := w.foldl (fun u p =>
    if p.1 + 2 ≤ n && !(u.engine p.2).firnWaitRaised then
      (u.setEngine p.2 { u.engine p.2 with firnWaitRaised := true }).raise Ev.cqFirnWait p.2
    else u) s
  (w.take 8).foldl (fun u p => u.setN Obj.cqFirnState p.2 3) t

/-! ## The engine frame (R222 to R225, R243, R244) -/

/-- Origin kind, origin time, stages and ancillary packets of a composite (R18, R29, R225), at t_e in nanoseconds. -/
def State.compositeOrigin (s : State) (c : Objs) (e te : Nat) : Nat × Nat × List (Nat × Nat) × List Anc :=
  let shows := fun l => Objs.b c Obj.layerEnable (8 * e + l) && !(s.layer (8 * e + l)).transparent &&
    (s.layer (8 * e + l)).last.isSome
  let led := Objs.n c Obj.cqLedgerLayer e
  let pick := if shows led then some led else [0, 1, 2, 3].find? shows
  match pick with
  | some l =>
    let y := s.layer (8 * e + l)
    (y.lastOrigin.1, y.lastOrigin.2, y.lastStages ++ [(5, te)], if l = led then y.lastAnc else [])
  | none => (4, te, [(5, te)], [])

/-- The layers of an engine frame, video then graphics, and the colour stages. -/
def State.engineLayers (s : State) (c : Objs) (e te : Nat) (rebuild : Bool) : State :=
  let one := fun (t : State) l =>
    let x := 8 * e + l
    if !Objs.b c Obj.layerEnable x then t.layerOff x
    else if l < 4 then t.videoLayer c x te
    else t.gfxLayer c x te (Objs.b c Obj.layerStatic x) rebuild
  let t := (List.range 8).foldl one s
  let t := (List.range 8).foldl (fun u l => u.refreshStage c (8 * e + l) te) t
  t.refreshStage c (0x100 + e) te

/-- A composite as its engine begins to write it. -/
def newComposite (f kind origin : Nat) (stages : List (Nat × Nat)) (w : Nat) (pic : Pic) (done : Nat) (anc : List Anc) (seq : Nat) :
    Frame :=
  newFrame f kind origin stages w (fun _ => pic) 0 (some done) anc seq

/-- The composite of alignment point k goes to a slot (R222, R225). -/
def State.writeComposite (s : State) (c : Objs) (e slot te k f : Nat) (rebuild : Bool) : State :=
  let (kind, origin, stages, anc) := s.compositeOrigin c e (te / tcNs)
  let w := te / tcNs + compositeDelay f
  let pic := Pic.composite e k (s.layersPic c e rebuild) (s.stageLook c (0x100 + e)) f
  let t := s.startFrame slot (newComposite f kind origin stages w pic (w + fmtPeriodNs f) anc)
  t.bump Obj.cqFramesOut e

/-- Whether an engine is the new engine of a migration, before its handover point (R244, R245). -/
def State.migrating (s : State) (b : Nat) : Bool :=
  s.n Obj.cqState b == 1 && (List.range 32).any fun a => s.n Obj.cqState a == 3 && (s.engine a).takenBy == b

/-- The first frame of an engine at or after counter value b is composited and written nowhere; the next one starts at the
handover point (R243). -/
def State.preroll (s : State) (e b : Nat) : State :=
  let want := s.n Obj.cqSrcSlot e
  let f := Objs.engineFormat s.objs e
  let off := s.n Obj.cqTimingOffset e
  let k := gridNext (fmtPeriod f) (b - tcNs * off)
  ((s.setEngine e { s.engine e with
    slot := want, writing := 0xFFFF, handover := alignPoint f off (k + 1), from_ := alignPoint f off k }).setN
      Obj.cqState e 1).setN Obj.cqFormat e f

/-- The engine that takes over the slot of engine e in a commit (R244). -/
def State.taker (s : State) (old : Objs) (e : Nat) : Option Nat :=
  let slot := (s.engine e).slot
  (List.range 32).find? fun b => b != e && s.n Obj.cqSrcSlot b == slot && Objs.n old Obj.cqSrcSlot b != slot

/-- The engine meets the slot that its configuration now names, from counter value b on (R243, R244). One whose slot another engine
takes over retires, in pre-roll too. One that writes a slot and has no new one stops at its next alignment point, after the frame in
flight; a pre-roll that is no migration begins anew for another slot. -/
def State.engineAssign (s : State) (old : Objs) (e b : Nat) : State :=
  let x := s.engine e
  let want := s.n Obj.cqSrcSlot e
  if x.slot = want then s
  else if x.slot = 0xFFFF then s.preroll e b
  else
    match s.taker old e with
    | some k => (s.setEngine e { x with old := some old, takenBy := k }).setN Obj.cqState e 3
    | none =>
      let t := s.setEngine e { x with
        stopping := x.stopping || s.n Obj.cqState e = 2 || want = 0xFFFF, old := if want = 0xFFFF then some old else none }
      if want = 0xFFFF then t else t.preroll e b

/-- The new engine of a migration keeps its configuration until its handover point, where later salvos act (R245). -/
def State.holdMigration (s : State) (e : Nat) : State :=
  if s.migrating e && (s.engine e).old.isNone then s.setEngine e { s.engine e with old := some s.objs } else s

/-- The engine has left its slot and no other has taken it: CQ_STOPPED (R244). -/
def State.engineStopped (s : State) (e : Nat) : State :=
  let x := s.engine e
  if !x.stopping then s
  else
    let t := (s.setEngine e { x with stopping := false }).raise Ev.cqStopped e
    if s.n Obj.cqSrcSlot e != 0xFFFF then t
    else
      ((t.setEngine e { t.engine e with slot := 0xFFFF, writing := 0xFFFF, old := none }).setN Obj.cqState e 0).setN
        Obj.cqFormat e 0

/-- Steps and taps in force (R227, R229): CQ_TAPS_REDUCED at the commit for a layer that it touches. -/
def State.layerGeometry (s : State) (x : Nat) : State :=
  let st := Objs.layerSteps s.objs x
  let taps := Objs.layerTaps s.objs x
  let t := ((s.setN Obj.layerStepX x st.1).setN Obj.layerStepY x st.2).setN Obj.layerTapsInForce x taps.toNat
  if taps < 6 && st.2 != 65536 then t.raise Ev.cqTapsReduced x else t

/-- Frame-class writes reach the configurations that engines of a migration keep: they act at the engine's next frame (R242). -/
def State.keptWrites (s : State) (l : List Change) : State :=
  (List.range 32).foldl (fun t e => match (t.engine e).old with
    | some c => t.setEngine e { t.engine e with old := some (Objs.overlay c l) }
    | none => t) s

/-- A layer that a commit gives another destination, or another scan, starts its counts anew. -/
def State.layerMoved (s : State) (old : Objs) (x : Nat) : State :=
  let d := s.n Obj.layerDstSlot x
  if Objs.n old Obj.layerDstSlot x != d then
    (s.setLayer x { s.layer x with route := 0x800, last := none }).setDst d { s.dst d with last := none }
  else if Objs.n old Obj.layerScan x != s.n Obj.layerScan x then s.setDst d { s.dst d with last := none }
  else s

/-- What the steps and taps of a layer depend on: nothing before its engine has an output format. -/
def Objs.layerPlace (c : Objs) (x : Nat) : Option ((Nat × Nat) × Int × Bool × (Nat × Nat × Nat × Nat)) :=
  if Objs.engineFormat c (x / 8) = 0 || Objs.layerSource c x = 0 then none
  else some (Objs.layerSteps c x, Objs.layerTaps c x, Objs.b c Obj.layerEnable x, Objs.layerCrop c x)

/-- The video layers of an engine meet a configuration that replaces another (R227, R229). -/
def State.layersMeet (s : State) (old : Objs) (e : Nat) : State :=
  (([0, 1, 2, 3].map (8 * e + ·)).filter fun x => s.b Obj.layerEnable x).foldl (fun u x =>
    let v := u.layerMoved old x
    if Objs.layerPlace old x == Objs.layerPlace v.objs x || (Objs.layerPlace v.objs x).isNone then v else v.layerGeometry x) s

/-- An engine's timing meets a configuration that replaces another, from counter value b on (R242): of a pre-roll that has composited
its first frame, the handover point moves. -/
def State.timingMeet (s : State) (old : Objs) (e b : Nat) : State :=
  let timing := fun (c : Objs) => (Objs.engineFormat c e, Objs.n c Obj.cqTimingOffset e)
  let x := s.engine e
  let (f, off) := timing s.objs
  if timing old = (f, off) || x.stopping then s
  else if s.n Obj.cqState e = 2 then (s.setEngine e { x with from_ := b }).setN Obj.cqFormat e f
  else if s.n Obj.cqState e = 1 then
    (if x.lastAt.elim false (x.from_ ≤ ·) then
      let h := alignPoint f off (gridNext (fmtPeriod f) (b - tcNs * off))
      (s.setEngine e { x with handover := h, from_ := h }).setN Obj.cqFormat e f
    else s.preroll e b)
  else s

/-- The handover point of engine b: it writes its slot from its frame at h, the engine that it replaces stops, and later
changes of either act (R243 to R245). -/
def State.handover (s : State) (b : Nat) : State :=
  let slot := (s.engine b).slot
  let olds := (List.range 32).filter fun a => s.n Obj.cqState a == 3 && (s.engine a).takenBy == b
  let t := olds.foldl (fun u a =>
    let kept := (u.engine a).old.getD u.objs
    ((((u.setEngine a { u.engine a with writing := 0xFFFF, slot := 0xFFFF, old := none, takenBy := 0xFFFF }).setN
      Obj.cqState a 0).setN Obj.cqFormat a 0).layersMeet kept a).engineAssign u.objs a u.tc) s
  let kept := (t.engine b).old.getD t.objs
  let t := (((t.setEngine b { t.engine b with writing := slot, old := none }).setN Obj.cqState b 2).raise Ev.cqRunning b).refreshSlot
    slot
  ((t.layersMeet kept b).engineAssign t.objs b t.tc).timingMeet kept b t.tc

/-- A retiring engine writes its slot for a frame only if the write completes before its successor's begins (R244). -/
def State.mayWrite (s : State) (x : Engine) (te f : Nat) : Bool :=
  te + tcNs * (compositeDelay f + fmtPeriodNs f) ≤
    (s.engine x.takenBy).handover + tcNs * compositeDelay (Objs.engineFormat (s.engineConfig x.takenBy) x.takenBy)

/-- The slot that an engine's frame goes to, none where it is written nowhere (R243, R244): an engine in pre-roll writes none before its
handover point, one that retires only what its successor leaves it time for. -/
def State.frameSlot (s : State) (e te f : Nat) : Option Nat :=
  let x := s.engine e
  if s.n Obj.cqState e = 3 then (if x.handover ≤ te && s.mayWrite x te f then some x.slot else none)
  else if x.writing = 0xFFFF || x.stopping then none else some x.writing

/-- A retiring engine that was still in pre-roll comes to write its slot at its own handover point (R243, R244). -/
def State.retireWrites (s : State) (e slot : Nat) : State :=
  let x := s.engine e
  if x.writing = slot then s
  else ((s.setEngine e { x with writing := slot }).raise Ev.cqRunning e).refreshSlot slot

/-- An engine frame at alignment point number k (R222 to R225, R238, R243, R244). A retiring engine discards a frame that it may not
write; the frame of a pre-roll is none such. -/
def State.engineFrame (s : State) (c : Objs) (e te k f : Nat) : State :=
  let rebuild := s.n Obj.cqFirnState e = 3
  let t := s.setEngine e { s.engine e with lastAt := some te }
  let t := (t.engineLayers c e te rebuild).firnStep c e te rebuild
  match t.frameSlot e te f with
  | some slot => (t.retireWrites e slot).writeComposite c e slot te k f rebuild
  | none =>
    if t.n Obj.cqState e = 3 && (t.engine e).handover ≤ te then (t.bump Obj.cqDiscardedFrames e).raise Ev.cqFrameDiscarded e
    else t

/-- At its handover point an engine meets what later salvos have changed, before its frame there (R245). -/
def State.meetHandover (s : State) (e : Nat) : State :=
  let c := s.engineConfig e
  let f := Objs.engineFormat c e
  let off := Objs.n c Obj.cqTimingOffset e
  if s.n Obj.cqState e = 1 && f != 0 && (s.engine e).handover ≤ alignPoint f off (alignIndex f off s.tc) then s.handover e else s

/-- ENGINE_ALIGNMENT_POINT (R222 to R225, R238, R242 to R244): once for each alignment point of the engine's timing. -/
def execEngineAlignmentPoint (dt engine : Nat) (s : State) : Result :=
  actIf dt s (fun t => t.live && t.n Obj.cqState engine != 0) fun t =>
    let t := (t.engineStopped engine).meetHandover engine
    let x := t.engine engine
    let c := t.engineConfig engine
    let f := Objs.engineFormat c engine
    let off := Objs.n c Obj.cqTimingOffset engine
    let k := alignIndex f off t.tc
    let te := alignPoint f off k
    if f = 0 || t.n Obj.cqState engine = 0 || te < x.from_ || x.lastAt = some te then t
    else t.engineFrame c engine te k f

/-- A commit reaches Cirque at counter value b (R229, R242 to R245): engines meet their slots and their timing, layers their
geometry. What concerns an engine of a migration waits for its handover point. -/
def State.cirqueCommit (s : State) (old : Objs) (b : Nat) : State :=
  let waits := fun (u : State) e => u.n Obj.cqState e = 3 || u.migrating e
  let held := (List.range 32).filter fun e => waits s e
  let t := ((List.range 32).filter fun e => !held.contains e).foldl (fun u e => u.engineAssign old e b) s
  let t := (List.range 32).foldl (fun u e => if waits u e then u else u.timingMeet old e b) t
  let t := ((List.range 32).filter fun e => !held.contains e && t.n Obj.cqState e != 3).foldl (fun u e => u.layersMeet old e) t
  (List.range 32).foldl State.holdMigration t

end Sys2Proof.Machine
end

