-- ==== Sys2Proof/Machine/Tarn.lean ====
section
/-!
DEFINITION. Tarn local audio ports (chapter 10): registers, starts, frames, masks, FIFOs, rate measurement and conversion.
-/
namespace Sys2Proof.Machine

/-! ## Registers (R323, R324) -/

/-- A register of a port. -/
def tpReg (port off : Nat) : Nat := 0x40050100 + 0x100 * port + off

/-- TPn_CTRL. -/
abbrev Tp.ctrl : Nat := 0x00
/-- TPn_RXMASK. -/
abbrev Tp.rxMask : Nat := 0x04
/-- TPn_TXMASK. -/
abbrev Tp.txMask : Nat := 0x08
/-- TPn_MASKSTAT. -/
abbrev Tp.maskStat : Nat := 0x0C
/-- TPn_FCNT_LO. -/
abbrev Tp.fcntLo : Nat := 0x18
/-- TPn_STAT. -/
abbrev Tp.stat : Nat := 0x20
/-- TPn_FIFOLVL. -/
abbrev Tp.fifoLvl : Nat := 0x4C
/-- TRN_GRPCTL. -/
abbrev Reg.trnGrpctl : Nat := 0x40050004
/-- TRN_GRPGO. -/
abbrev Reg.trnGrpgo : Nat := 0x40050008

/-- A field of TPn_CTRL. -/
def State.tctrl (s : State) (p lo hi : Nat) : Nat := s.regField (tpReg p Tp.ctrl) lo hi

/-- A bit of TPn_CTRL. -/
def State.tctrlBit (s : State) (p k : Nat) : Bool := bit (s.regN (tpReg p Tp.ctrl)) k

/-- A bit of TPn_STAT. -/
def State.tstat (s : State) (p k : Nat) : Bool := bit (s.regN (tpReg p Tp.stat)) k

/-- A bit of TPn_STAT set or cleared. -/
def State.setTstat (s : State) (p k : Nat) (v : Bool) : State := s.setRegBit (tpReg p Tp.stat) k v

/-- A port. -/
def State.tp (s : State) (p : Nat) : TarnPort := look s.tarn.ports p {}

/-- A port changed. -/
def State.setTp (s : State) (p : Nat) (x : TarnPort) : State := { s with tarn := { s.tarn with ports := put s.tarn.ports p x } }

/-! ## Settings (R304 to R307) -/

/-- Whether a control word makes the port master; PDM always does (R306). -/
def tpMaster (c : Nat) : Bool := tpMode c == 2 || bit c 3

/-- Bit clocks of a slot (R304, R305). -/
def tpSlotWidth (c : Nat) : Nat := if tpMode c = 1 then 32 else match field c 7 8 with
  | 0 => 16
  | 1 => 24
  | _ => 32

/-- The rate of a RATE code in Hz (R307). -/
def rateHz : Nat → Nat
  | 0 => 44100
  | 1 => 48000
  | 2 => 88200
  | 3 => 96000
  | 4 => 176400
  | _ => 192000

/-- The frame rate of a control word: a PDM port's is that of its decimator (R308). -/
def tpHz (c : Nat) : Nat := if tpMode c = 2 then (if bit c 23 then 96000 else 48000) else rateHz (field c 4 6)

/-- A configuration error of a write that sets EN (R307). -/
def tpCfgBad (c : Nat) : Bool :=
  6 ≤ field c 4 6 || (tpMode c != 2 && (tpMode c == 0 && field c 7 8 == 3 || 24576000 < tpHz c * tpSlots c * tpSlotWidth c))

/-- The frame period of a port. -/
def tpPeriod (c : Nat) : Period := ⟨1, tpHz c⟩

/-- The first multiple of a period at least 4 µs after the present, as a counter value (R314, R315). -/
def State.tarnStart (s : State) (p : Period) : Nat := gridPoint p (gridNext p (s.tc + 4000 * tcNs))

/-- Bit clocks of a frame; a PDM port has 64 PDM clocks in each decimated sample (R304, R306, R308). -/
def tpClocks (c : Nat) : Nat := if tpMode c = 2 then 64 else tpSlots c * tpSlotWidth c

/-- Whether a frame starts on the falling FS edge (R304, R305). -/
def tpFalling (c : Nat) : Bool := if tpMode c = 1 then true else tpMode c == 0 && bit c 15

/-- Bit clocks from the FS edge to the first data bit of slot 0 (R304, R305). -/
def tpDelay (c : Nat) : Nat := if tpMode c = 1 then 1 else if tpMode c = 2 then 0 else field c 14 14

/-- Bit clocks of the FS pulse of a master (R305, R306, R324). -/
def tpFsWidth (c : Nat) : Nat := if tpMode c = 1 || (tpMode c = 0 && bit c 16) then tpClocks c / 2 else 1

/-- Whether a port runs on its own clocks: a master, but not on a standby, which receives on those of the active device (R373). -/
def State.tarnOwn (s : State) (p : Nat) : Bool := tpMaster (s.regN (tpReg p Tp.ctrl)) && !s.standby

/-! ## Converter state (R309) -/

/-- SRCSTATE moves; TARN_SRC_STATE. -/
def State.setSrcState (s : State) (p st : Nat) : State :=
  let old := s.regField (tpReg p Tp.stat) 2 3
  if old = st then s else (s.setRegField (tpReg p Tp.stat) 2 3 st).raise Ev.tarnSrcState p

/-- The converter state of a port (R309, R310): a converter with SRCMODE BUFFER is never LOCKED, a master's no more than a slave's. -/
def State.srcStateOf (s : State) (p : Nat) : Nat :=
  let c := s.regN (tpReg p Tp.ctrl)
  let dev := toSigned 32 (s.regN (tpReg p 0x28))
  let fill := s.regN (tpReg p 0x2C)
  let used := bit c 20 || (!bit c 21 && s.n Obj.tarnAoBase p != 0xFFFF && s.n Obj.tarnAoCount p != 0)
  if !s.tstat p 0 || !used then 0
  else if tpMaster c then (if field c 18 19 == 1 then 2 else 1)
  else if !s.tstat p 1 || 1000000 < dev.natAbs then 3
  else if field c 18 19 == 0 && s.regN (tpReg p 0x24) != 0 && dev.natAbs ≤ 500 && 24 ≤ fill && fill ≤ 40 then 1
  else 2

/-- The converter follows its conditions. -/
def State.refreshSrc (s : State) (p : Nat) : State := s.setSrcState p (s.srcStateOf p)

/-! ## FIFO levels (R318, R321) -/

/-- TPn_FIFOLVL follows the FIFOs. -/
def State.refreshFifo (s : State) (p : Nat) : State :=
  let x := s.tp p
  s.setRegN (tpReg p Tp.fifoLvl) (x.rxFifo.length + 65536 * (128 - x.txFifo.length))

/-- TPn_RATEDEV of a rate in mHz (R312). -/
def rateDeviation (c mHz : Nat) : Int :=
  let nom : Int := tpHz c * 1000
  clampInt (-2147483648) 2147483647 (((mHz : Int) - nom) * 1000000000 / nom)

/-- The code of the supported rate within 1,000 ppm of a measured rate in mHz, the port's own first; 7 where there is none (R313). -/
def rateDetected (own mHz : Nat) : Nat :=
  ((own :: [0, 1, 2, 3, 4, 5]).find? fun k => k ≤ 5 && absDiff mHz (rateHz k * 1000) ≤ rateHz k).getD 7

/-- The measurement registers of a port for a rate in mHz (R312, R313). -/
def State.setRate (s : State) (p mHz : Nat) : State :=
  let c := s.regN (tpReg p Tp.ctrl)
  ((s.setRegN (tpReg p 0x24) (mHz % 2 ^ 32)).setRegN (tpReg p 0x28) (ofSigned 32 (rateDeviation c mHz))).setRegField
    (tpReg p Tp.stat) 4 6 (rateDetected (field c 4 6) mHz)

/-- The measurement registers follow a new rate or mode (R312, R313): a master's read the nominal rate and 0, a slave's keep its
measurement, against the new rate; a port that has been master has measured nothing. -/
def State.tarnRate (s : State) (p old : Nat) : State :=
  let c := s.regN (tpReg p Tp.ctrl)
  if tpMaster c then (s.setRegN (tpReg p 0x24) (tpHz c * 1000)).setRegN (tpReg p 0x28) 0
  else if tpMaster old then ((s.setRegN (tpReg p 0x24) 0).setRegN (tpReg p 0x28) 0).setRegField (tpReg p Tp.stat) 4 6 7
  else if s.regN (tpReg p 0x24) = 0 then s
  else s.setRate p (s.regN (tpReg p 0x24))

/-- The receive FIFO's Scree request (R321). -/
def State.tarnRxRequest (s : State) (p : Nat) : Bool :=
  bit (s.regN (tpReg p 0x50)) 0 && s.regField (tpReg p 0x50) 8 14 ≤ (s.tp p).rxFifo.length

/-- The transmit FIFO's Scree request (R321). -/
def State.tarnTxRequest (s : State) (p : Nat) : Bool :=
  bit (s.regN (tpReg p 0x50)) 1 && s.regField (tpReg p 0x50) 24 30 ≤ 128 - (s.tp p).txFifo.length

/-- The Scree request of a peripheral number: 2n + 1 the receive FIFO of port n, 2n + 2 its transmit FIFO (R321, R545). -/
def State.periphRequest (s : State) (k : Nat) : Bool :=
  if k % 2 = 1 then s.tarnRxRequest ((k - 1) / 2) else k != 0 && s.tarnTxRequest ((k - 2) / 2)

/-- OVERRUN (R319, R321). -/
def State.tarnOverrun (s : State) (p : Nat) : State := (s.setTstat p 9 true).raiseLimited Ev.tarnOverrun p p

/-- The word of 4 bytes, least significant first, or fewer bytes as far as they go. -/
def packWord (b : List Byte) : Nat := fromLe (b.take 4)

/-- Packing realigns to a word boundary (R318): bytes that wait in a receive word leave in a word whose other bytes no rule
gives, and the rest of a transmit word is passed over. -/
def State.realign (s : State) (p : Nat) : State :=
  let x := s.tp p
  if x.rxBytes.isEmpty then s.setTp p { x with txBytes := [] }
  else
    let (v, t) := s.drawBytes (4 - x.rxBytes.length)
    let w := packWord (x.rxBytes ++ (v ++ zeros 4))
    t.setTp p { x with
      rxBytes := []
      txBytes := []
      rxFifo := if x.rxFifo.length < 128 then x.rxFifo ++ [w] else x.rxFifo }

/-! ## Writes of TPn_CTRL (R307, R314, R324) -/

/-- The port stops. -/
def State.tarnStop (s : State) (p : Nat) : State :=
  let t := s.setTp p { s.tp p with startAt := none, waitFs := none, edges := [], stepAt := none, since := none }
  ((t.setTstat p 0 false).setTstat p 1 false).refreshSrc p

/-- The port is enabled: it waits for its group, for frame 0, or for its first FS edge (R314). -/
def State.tarnEnable (s : State) (p : Nat) : State :=
  let c := s.regN (tpReg p Tp.ctrl)
  if bit (s.regN Reg.trnGrpctl) p then s
  else if tpMaster c then s.setTp p { s.tp p with startAt := some (s.tarnStart (tpPeriod c)) }
  else s.setTp p { s.tp p with waitFs := some s.tc }

/-- CFG_ERR (R307, R324). -/
def State.tarnCfgErr (s : State) (p : Nat) : State := (s.setTstat p 12 true).raise Ev.tarnCfgErr p

/-- A write of TPn_CTRL (R307, R314, R324). -/
def State.tarnCtrlWrite (s : State) (p value : Nat) : State :=
  let a := tpReg p Tp.ctrl
  let old := s.regN a
  let v0 := Nat.land value 0x1FFFFFF
  let v := if tpMode v0 = 2 then setBit v0 3 true else v0
  if bit old 0 then
    if v / 2 != old / 2 then s.tarnCfgErr p
    else if bit v 0 then s
    else (s.setRegN a v).tarnStop p
  else if bit v 0 && tpCfgBad v then (s.setRegN a (v - 1)).tarnCfgErr p
  else
    let t := (s.setRegN a v).tarnRate p old
    if bit v 0 then t.tarnEnable p else t.refreshSrc p

/-- TARN_EN_WRITE (R314). -/
def execTarnEnWrite (dt port value : Nat) (s : State) : Result :=
  actIf dt s (fun _ => port < 8) fun t => t.tarnCtrlWrite port value

/-! ## Group start (R315) -/

/-- The members of the start group: enabled ports whose GROUP bit is set. -/
def State.tarnMembers (s : State) : List Nat :=
  (List.range 8).filter fun p => bit (s.regN Reg.trnGrpctl) p && s.tctrlBit p 0

/-- The common period of the group: 1 / r_min within one family, else 1/300 s. A group of slaves alone takes its own rates. -/
def State.tarnPeriod (s : State) : Period :=
  let m := s.tarnMembers
  let ctrl := fun p => s.regN (tpReg p Tp.ctrl)
  let masters := m.filter fun p => tpMaster (ctrl p)
  let hz := ((if masters.isEmpty then m else masters).map fun p => tpHz (ctrl p))
  let a := hz.any fun f => f % 44100 == 0
  let b := hz.any fun f => f % 48000 == 0
  match hz with
  | [] => ⟨1, 300⟩
  | f :: _ => if a && b then ⟨1, 300⟩ else ⟨1, hz.foldl min f⟩

/-- The trigger: the start instant t0. -/
def State.tarnTrigger (s : State) : State := { s with tarn := { s.tarn with t0 := some (s.tarnStart s.tarnPeriod) } }

/-- A write of TRN_GRPGO. -/
def State.tarnGoWrite (s : State) (value : Nat) : State :=
  if bit value 0 && !bit (s.regN Reg.trnGrpgo) 0 then
    let t := s.setRegN Reg.trnGrpgo 1
    if bit (t.regN Reg.trnGrpctl) 8 then t else t.tarnTrigger
  else s

/-- TARN_GO (R315): a write of TRN_GRPGO. -/
def execTarnGo (dt value : Nat) (s : State) : Result := act dt s fun t => t.tarnGoWrite value

/-- TARN_TRIG_EDGE (R315): a rising edge on TARN_TRIG while the trigger is armed. -/
def execTarnTrigEdge (dt : Nat) (s : State) : Result :=
  actIf dt s (fun t => bit (t.regN Reg.trnGrpgo) 0 && bit (t.regN Reg.trnGrpctl) 8 && t.tarn.t0.isNone) State.tarnTrigger

/-- TARN_STARTED (R315): t0 has come. -/
def execTarnStarted (dt : Nat) (s : State) : Result :=
  actIf dt s (fun t => t.tarn.t0.elim false fun a => a ≤ t.tc) fun t =>
    match t.tarn.t0 with
    | none => t
    | some t0 =>
      let ns := t0 / tcNs
      let u := { t with tarn := { t.tarn with t0 := none } }
      let u := ((u.setRegN Reg.trnGrpgo 0).setRegN 0x4005000C (ns / 1000000000 % 2 ^ 32)).setRegN 0x40050010 (ns % 1000000000)
      u.tarnMembers.foldl (fun v p =>
        let v := v.tarnStop p
        let x := v.tp p
        let v := if tpMaster (v.regN (tpReg p Tp.ctrl)) then v.setTp p { x with startAt := some t0 }
          else v.setTp p { x with waitFs := some t0 }
        v.raise Ev.tarnStarted p) u

/-! ## Frames (R304, R316 to R320) -/

/-- A word on the wire: a 16-bit slot carries the top 16 bits, rounded half away from zero (R304). -/
def slotSend (w : Nat) (x : Int) : Int :=
  if w = 16 then clampInt (-32768) 32767 (roundHalfAway ((x : Rat) / 256)) * 256 else x

/-- A word received: a 16-bit slot carries the top 16 bits (R304). -/
def slotReceive (w : Nat) (x : Int) : Int := if w = 16 then x / 256 * 256 else x

/-- Whether a write lands in the last 8 bit clocks before a frame start (R317), both counter values. -/
def tooLate (c written start : Nat) : Bool := start * (tpHz c * tpClocks c) ≤ written * (tpHz c * tpClocks c) + 8 * tcSec

/-- A mask write that waits takes effect at a frame start, or lets it pass when it came late (R317). -/
def State.applyMask (s : State) (p : Nat) (tx : Bool) (start : Nat) : State :=
  let x := s.tp p
  match (if tx then x.txPend else x.rxPend) with
  | none => s
  | some (v, at_, late) =>
    if late || tooLate (s.regN (tpReg p Tp.ctrl)) at_ start then
      s.setTp p (if tx then { x with txPend := some (v, at_, false) } else { x with rxPend := some (v, at_, false) })
    else
    let t := s.setTp p (if tx then { x with txPend := none, txMask := v } else { x with rxPend := none, rxMask := v })
    let t := (t.setRegBit (tpReg p Tp.maskStat) (b2n tx) false).setRegN (tpReg p 0x10) (x.count % 2 ^ 32)
    ((t.setRegN (tpReg p 0x14) (x.count / 2 ^ 32)).realign p).raise Ev.tarnMaskApplied p

/-- The enabled slots of a mask. -/
def enabledSlots (c mask : Nat) : List Nat := (List.range (tpSlots c)).filter fun k => mask.testBit k

/-! ### The PDM decimator (R306, R308) -/

/-- A 24-bit sample. -/
def sat24 (x : Int) : Int := clampInt (-8388608) 8388607 x

/-- The decimated sample of PDM words of 64 bits, newest first, and whether it saturates: 100 % ones are full scale. -/
def decimated (fast : Bool) (ws : List Nat) : Int × Bool :=
  if ws.all (· == 2 ^ 64 - 1) then (8388607, false)
  else if ws.all (· == 0) then (-8388608, false)
  else
    let v := Config.decimate fast ws
    (sat24 v, sat24 v != v)

/-- The DC blocker; silence stays silent. -/
def dcBlocked (hz : Nat) (x : Int) (before : Int × Int) : Int :=
  if x = 0 && before.1 = 0 && before.2 = 0 then 0 else sat24 (Config.dcBlock hz x before.1 before.2)

/-- A PDM port takes 64 bits of each microphone channel: 0 on DIN at the rising edges, 1 on DIN at the falling edges, 2 and 3 the same on
DOUT. The samples, whether one saturates, and the port. -/
def TarnPort.listen (x : TarnPort) (c : Nat) (rx : List Int) : List Int × Bool × TarnPort :=
  let mics := (List.range 4).map fun k => (((rx.getD k 0).toNat % 2 ^ 64) :: x.mics.getD k []).take 128
  let dec := mics.map (decimated (bit c 23))
  let out := dec.zipIdx.map fun p => if bit c 24 then dcBlocked (tpHz c) p.1.1 (x.hpf.getD p.2 (0, 0)) else p.1.1
  (out, dec.any (·.2), { x with mics := mics, hpf := (dec.map (·.1)).zip out })

/-! ### The elastic buffer and the converter (R309, R310, R322) -/

/-- The fill of the elastic buffer at a counter value, in samples at 96 kHz: 32 at first, and then what the converter has made less what
Cornice has taken. -/
def TarnPort.fill (x : TarnPort) (at_ : Nat) : Rat :=
  32 + x.made - 96000 * (((at_ : Int) - ((x.since.getD at_ : Nat) : Int) : Int) : Rat) / (tcSec : Rat)

/-- The buffer at a frame start: one that has not begun, or that has run empty or full, starts at 32 samples
(notes/assumptions/80.md). -/
def TarnPort.centred (x : TarnPort) (at_ : Nat) : TarnPort :=
  if x.since.isNone || x.fill at_ < 0 || 64 < x.fill at_ then { x with since := some at_, made := 0, loop := 0 } else x

/-- TPn_SRCFILL at a frame start. -/
def State.tarnFill (s : State) (p at_ : Nat) : State :=
  let x := (s.tp p).centred at_
  let k := clampInt 0 64 (roundHalfAway (x.fill at_))
  (s.setTp p { x with loop := x.loop + (k - 32) }).setRegN (tpReg p 0x2C) k.toNat

/-- Samples at 96 kHz for each frame of a port (R309, R310): the nominal ratio when LOCKED; when TRACKING that of the measured rate, or
the one the fill steers. -/
def State.tarnRatio (s : State) (p : Nat) : Rat :=
  let c := s.regN (tpReg p Tp.ctrl)
  let nominal : Rat := 96000 / (tpHz c : Rat)
  let mHz := s.regN (tpReg p 0x24)
  let e : Int := (s.regN (tpReg p 0x2C) : Int) - 32
  let sum := (s.tp p).loop
  if s.srcStateOf p != 2 then nominal
  else if field c 18 19 = 1 then
    (if e = 0 && sum = 0 then nominal
    else nominal * (1 + clampRat (-1 / 500) (1 / 500) (Config.portSteer (min 6 (s.regN (tpReg p 0x30) % 8)) e sum)))
  else if mHz = 0 then nominal
  else 96000000 / (mHz : Rat)

/-- A sample of the converter; silence stays silent. -/
def ported (ratio at_ : Rat) (words : List Int) : Int :=
  if words.all (· == 0) then 0 else sat24 (Config.portSample ratio at_ words)

/-- The internal sample instant, in 1/96,000 s, at or before a counter value. -/
def instant96 (at_ : Nat) : Nat := 96000 * at_ / tcSec

/-- Zeros that stand before the first sample of a channel: it enters 156.250 µs after its frame, and the next block begins at the last
one's boundary. -/
def State.tarnLead (s : State) (at_ : Nat) : Nat := min 64 (instant96 at_ + 15 - 16 * s.au.block)

/-- Whether a receive slot feeds an input channel (R322). -/
def State.aiBound (s : State) (p k : Nat) : Bool := s.n Obj.tarnAiBase p != 0xFFFF && k < s.n Obj.tarnAiCount p

/-- The converter delivers a frame to its input channels (R309, R322). -/
def State.tarnDeliver (s : State) (p at_ : Nat) (ratio : Rat) : State :=
  let x := s.tp p
  let n := ((x.made + ratio).floor - x.made.floor).toNat
  let base := s.n Obj.tarnAiBase p
  let t := s.setTp p { x with made := x.made + ratio }
  ((List.range x.heard.length).filter fun k => s.aiBound p k).foldl (fun u k =>
    u.queueWords (base + k)
      ((if (u.strip (base + k)).queue.isEmpty then List.replicate (u.tarnLead at_) (0, 0) else []) ++
        (List.range n).map fun j => (ported ratio (((x.made.floor + 1 + j : Int) : Rat) - x.made) (x.heard.getD k []), 0))) t

/-- The time from the origin of a port's samples, its frame's FS edge, to Cornice entry (R310, R311). -/
def State.tarnDelay (s : State) (p : Nat) : Int :=
  let c := s.regN (tpReg p Tp.ctrl)
  let m := (s.tp p).made
  if tpMode c = 2 then (if bit c 23 then 208333 else 364583)
  else if field c 18 19 = 1 then 156250 + ((s.regN (tpReg p 0x2C) : Int) - 32) * 1000000 / 96
  else if s.srcStateOf p = 2 then
    156250 + clampInt (-10400) 10400 (Config.trackDelay (toSigned 32 (s.regN (tpReg p 0x28))) (1000000000 * (m - m.floor)).floor.toNat)
  else 156250

/-- The receive FIFO takes the samples of a frame's enabled slots (R318, R319). -/
def State.tarnCollect (s : State) (p : Nat) (samples : List Int) : State :=
  let c := s.regN (tpReg p Tp.ctrl)
  let x := s.tp p
  let bytes := x.rxBytes ++ samples.flatMap fun v => leBytes 3 (ofSigned 24 v)
  let words := if bit c 22 then (chunksOf 4 64 (bytes.take (bytes.length / 4 * 4))).map packWord
    else samples.map fun v => ofSigned 32 v
  if 128 < x.rxFifo.length + words.length then (s.bumpReg (tpReg p 0x38)).tarnOverrun p
  else s.setTp p { x with
    rxFifo := x.rxFifo ++ words
    rxBytes := if bit c 22 then bytes.drop (bytes.length / 4 * 4) else [] }

/-- The samples that a port hears in a frame, by slot, whether a decimator saturates, and the port. -/
def TarnPort.hear (x : TarnPort) (c : Nat) (rx : List Int) : List Int × Bool × TarnPort :=
  if tpMode c = 2 then x.listen c rx
  else ((List.range (tpSlots c)).map fun k => slotReceive (tpSlotWidth c) (sat24 (rx.getD k 0)), false, x)

/-- The receive side of a frame that starts at a counter value: the FIFO and the Cornice path (R308 to R311, R317 to R319, R322). A masked
slot delivers zeros to Cornice and nothing to the FIFO. -/
def State.tarnReceive (s : State) (p at_ : Nat) (rx : List Int) (pdmClip : Bool) : State :=
  let c := s.regN (tpReg p Tp.ctrl)
  let h := (s.tp p).hear c rx
  let mask := (s.tp p).rxMask
  let x := h.2.2
  let words := h.1.zipIdx.map fun q => if mask.testBit q.2 then q.1 else 0
  let t := s.setTp p { x with heard := words.zipIdx.map fun q => (q.1 :: x.heard.getD q.2 []).take 64 }
  let t := if tpMode c = 2 && (h.2.1 || pdmClip) then t.setTstat p 13 true else t
  let t := (t.tarnCollect p ((enabledSlots c mask).map fun k => words.getD k 0)).tarnFill p at_
  let t := t.tarnDeliver p at_ (t.tarnRatio p)
  if t.n Obj.tarnAiBase p = 0xFFFF || !bit c 20 then t
  else t.setInLatency ((List.range (t.n Obj.tarnAiCount p)).map (t.n Obj.tarnAiBase p + ·)) (t.tarnDelay p)

/-! ### The transmit side -/

/-- The words that the transmit side takes from the FIFO for n samples: none where it lacks a whole frame (R318, R320). -/
def takeTx (pack : Bool) (n : Nat) (x : TarnPort) : Option (List Int × TarnPort) :=
  if pack then
    let bytes := x.txBytes ++ x.txFifo.flatMap (leBytes 4)
    if bytes.length < 3 * n then none
    else
      let used := 3 * n
      let left := bytes.drop used
      let samples := (chunksOf 3 n (bytes.take used)).map fun b => toSigned 24 (fromLe b)
      some (samples, { x with txBytes := left.take (left.length % 4), txFifo := x.txFifo.drop (x.txFifo.length - left.length / 4) })
  else if x.txFifo.length < n then none
  else some ((x.txFifo.take n).map fun w => toSigned 24 (w % 2 ^ 24), { x with txFifo := x.txFifo.drop n })

/-- Whether a transmit slot takes an output channel (R322). -/
def State.aoTaken (s : State) (p k : Nat) : Bool := s.n Obj.tarnAoBase p != 0xFFFF && k < s.n Obj.tarnAoCount p

/-- Whether the converter lacks a frame that starts at a counter value (R320): Cornice has not run the block of the frame's samples. -/
def State.tarnLacks (s : State) (p at_ : Nat) (slots : List Nat) : Bool :=
  slots.any (s.aoTaken p) && (s.srcStateOf p == 1 || s.srcStateOf p == 2) && decide (16 * (s.au.block + 1) ≤ instant96 at_)

/-- The output channels of a port emit up to a frame's start (R291). -/
def State.tarnRun (s : State) (p at_ : Nat) (slots : List Nat) : State :=
  (slots.filter (s.aoTaken p)).foldl (fun t k => t.runOut (s.n Obj.tarnAoBase p + k) (instant96 at_ + 1)) s

/-- The samples of the enabled transmit slots from the converter (R309, R322): zeros from one that is OUT_OF_RANGE. -/
def State.tarnConverted (s : State) (p at_ : Nat) (slots : List Nat) : List Int :=
  slots.map fun k =>
    if !s.aoTaken p k || s.srcStateOf p = 3 || s.srcStateOf p = 0 then 0
    else
      let n := instant96 at_
      ported (1 / s.tarnRatio p) (96000 * (at_ : Rat) / (tcSec : Rat) - (n : Rat))
        ((List.range 64).map fun i => if n < i then 0 else ((s.aout (s.n Obj.tarnAoBase p + k)).sentWord (96, 24) (n - i)).1)

/-- A frame for which the source lacks a sample (R320). -/
def State.tarnUnderrun (s : State) (p : Nat) : State :=
  ((s.bumpReg (tpReg p 0x34)).setTstat p 8 true).raiseLimited Ev.tarnUnderrun p p

/-- The samples of the enabled slots of a frame from the port's source, and the state after it: zeros where the source lacks one (R320). -/
def State.tarnSource (s : State) (p at_ : Nat) (slots : List Nat) : List Int × State :=
  if s.tctrlBit p 21 then
    match takeTx (s.tctrlBit p 22) slots.length (s.tp p) with
    | some (l, x) => (l, s.setTp p x)
    | none => (slots.map fun _ => 0, s.tarnUnderrun p)
  else if s.tarnLacks p at_ slots then (slots.map fun _ => 0, s.tarnUnderrun p)
  else ((s.tarnRun p at_ slots).tarnConverted p at_ slots, s.tarnRun p at_ slots)

/-- The words of a frame leave at TPn_DOUT (R304, R317). -/
def State.tarnWords (s : State) (p : Nat) (slots : List Nat) (samples : List Int) : State :=
  let c := s.regN (tpReg p Tp.ctrl)
  let t := (slots.zip samples).foldl (fun u q => u.emit (.tarn p q.1 (slotSend (tpSlotWidth c) q.2))) s
  if bit c 17 then t
  else ((List.range (tpSlots c)).filter fun k => !slots.contains k).foldl (fun u k => u.emit (.tarn p k 0)) t

/-- The frame's clocks leave, where the device drives them (R304 to R306, R373). -/
def State.tarnClocks (s : State) (p at_ : Nat) : State :=
  let c := s.regN (tpReg p Tp.ctrl)
  if s.drives at_ then
    s.emit (.tarnFrame p (tpMaster c) (tpFalling c) (tpDelay c) (if tpMaster c then tpFsWidth c else 0)
      (if tpMaster c then tpClocks c else 0))
  else s

/-- The transmit side of a frame (R304, R317, R320); a PDM port sends no audio, and the pins of a standby are at high
impedance (R306, R373). -/
def State.tarnSend (s : State) (p at_ : Nat) : State :=
  let c := s.regN (tpReg p Tp.ctrl)
  if tpMode c = 2 then s
  else
    let slots := enabledSlots c (s.tp p).txMask
    let r := s.tarnSource p at_ slots
    if s.drives at_ then r.2.tarnWords p slots r.1 else r.2

/-- The counter value at which the next frame of a port starts, where it is known (R307, R314 to R316): a master's at the next multiple
of 1/rate, after a step of the counter the first one from there on; a slave's at an FS edge. -/
def State.tarnFrameAt (s : State) (p : Nat) : Option Nat :=
  let x := s.tp p
  let per := tpPeriod (s.regN (tpReg p Tp.ctrl))
  if !s.tctrlBit p 0 then none
  else if s.tarnOwn p then
    x.startAt.or (if !s.tstat p 0 then none
      else some (gridPoint per (x.stepAt.elim x.grid (gridNext per))))
  else if x.startAt.isSome || s.tstat p 0 then x.edges.head?
  else none

/-- Half a nominal frame period, in units of the counter. -/
def halfFrame (c : Nat) : Nat := tcSec / tpHz c / 2

/-- The frame count and the next frame's place (R314, R316, R324). -/
def TarnPort.counted (x : TarnPort) (c at_ : Nat) (own : Bool) : TarnPort :=
  let first := x.startAt.isSome
  let excess := !first && x.count = 2 ^ 48 - 1
  { x with
    startAt := none
    count := if first then 0 else if excess then x.count else x.count + 1
    countPinned := if first then false else x.countPinned || excess
    grid := gridNext (tpPeriod c) (at_ - halfFrame c) + 1
    stepAt := none
    edges := if own then [] else x.edges.drop 1
    heard := if first then [] else x.heard
    mics := if first then [] else x.mics
    hpf := if first then [] else x.hpf }

/-- TARN_FRAME_START (R304 to R312, R314 to R322): the next frame of a port that runs, or frame 0 of one whose start has come. `rx` are
the words received, by slot, MSB first from the bit that FSDLY gives; those of a PDM port are the 64 bits of each microphone channel. -/
def execTarnFrameStart (dt port : Nat) (rx : List Int) (pdmClip : Bool) (s : State) : Result :=
  actIf dt s (fun t => port < 8 && (t.tarnFrameAt port).elim false fun a => a ≤ t.tc) fun t =>
    let a := (t.tarnFrameAt port).getD 0
    let x := t.tp port
    let first := x.startAt.isSome
    let c := t.regN (tpReg port Tp.ctrl)
    let y := x.counted c a (t.tarnOwn port)
    let t := t.setTp port y
    let t := if y.countPinned && !x.countPinned then t.raise Ev.regCounterPinned (tpReg port Tp.fcntLo) else t
    let t := if first then (t.realign port).setTstat port 0 true else t
    let t := ((t.applyMask port false a).applyMask port true a).tarnClocks port a
    (((t.tarnReceive port a rx pdmClip).tarnSend port a).refreshSrc port).refreshFifo port

/-- A write of a mask (R317). The frame start that follows sees from the counter whether it landed in the last 8 bit clocks before it; `late`
says the same of a write whose own time the command does not give. -/
def State.tarnMaskWrite (s : State) (port : Nat) (tx : Bool) (value : Nat) (late : Bool) : State :=
  let x := s.tp port
  let v := value % 2 ^ 32
  let u := (s.setRegN (tpReg port (if tx then Tp.txMask else Tp.rxMask)) v).setRegBit (tpReg port Tp.maskStat) (b2n tx) true
  u.setTp port (if tx then { x with txPend := some (v, s.tc, late) } else { x with rxPend := some (v, s.tc, late) })

/-- TARN_MASK_WRITE (R317). -/
def execTarnMaskWrite (dt port : Nat) (tx : Bool) (value : Nat) (late : Bool) (s : State) : Result :=
  actIf dt s (fun _ => port < 8) fun t => t.tarnMaskWrite port tx value late

/-! ## Frame sync of slaves (R312, R313) -/

/-- TARN_FS_EDGE (R312, R314, R315, R373): the edge of TPn_FS that TPn_CTRL selects for the start of a frame, at a port that receives on
the clocks of another device. It is timestamped; a port that runs, or whose start has come, begins a frame there. -/
def execTarnFsEdge (dt port : Nat) (s : State) : Result :=
  actIf dt s (fun t => port < 8 && t.tctrlBit port 0 && !t.tarnOwn port) fun t =>
    let x := t.tp port
    let back := t.tstat port 0 && !t.tstat port 1
    let start := x.waitFs.elim false fun a => a ≤ t.tc
    let soon := x.startAt.elim false fun a => a ≤ t.tc + halfFrame (t.regN (tpReg port Tp.ctrl))
    let u := (t.setTp port { x with
      fsAt := t.now
      fsFrom := x.fsFrom.orElse fun _ => some t.tc
      fsTo := t.tc
      fsFrames := x.fsFrames + b2n x.fsFrom.isSome
      edges := if start || soon || t.tstat port 0 then x.edges ++ [t.tc] else x.edges
      since := if back then none else x.since
      startAt := if start then some t.tc else x.startAt
      waitFs := if start then none else x.waitFs }).setTstat port 1 true
    let u := if back then u.raise Ev.tarnFsRestored port else u
    u.refreshSrc port

/-- TARN_FS_LOST (R312): no FS edge for 2 nominal frame periods. -/
def execTarnFsLost (dt port : Nat) (s : State) : Result :=
  actIf dt s (fun t => port < 8 && t.tstat port 0 && t.tstat port 1 && !t.tarnOwn port &&
      (t.tp port).fsAt + 2000000000 / tpHz (t.regN (tpReg port Tp.ctrl)) ≤ t.now) fun t =>
    let u := t.setTp port { t.tp port with fsFrom := none, fsFrames := 0 }
    ((((u.setTstat port 1 false).setTstat port 10 true).bumpReg (tpReg port 0x3C)).raise Ev.tarnFsLost port).refreshSrc port

/-- The frame rate in mHz that the timestamps of a port give, where they span a frame (R312). -/
def TarnPort.rate (x : TarnPort) : Option Rat :=
  match x.fsFrom with
  | some a => if a < x.fsTo && x.fsFrames != 0 then some ((1000 * tcSec * x.fsFrames : Nat) / ((x.fsTo - a : Nat) : Rat)) else none
  | none => none

/-- Whether a value is the whole number below or above a rate: the spec does not say how TPn_RATEMEAS is rounded. -/
def nearRate (r : Option Rat) (v : Nat) : Bool := r.elim true fun q => q - 1 < (v : Rat) && (v : Rat) < q + 1

/-- TARN_RATE_MEASURE (R309, R312, R313): a whole second of the counter is over, of a port that is enabled. A slave's `milliHertz` is the
rate that its FS edges of the last second give, and `fill` what TPn_SRCFILL reads. A second without a frame leaves the last
measurement. -/
def execTarnRateMeasure (dt port milliHertz fill : Nat) (s : State) : Result :=
  actIf dt s (fun t => port < 8 && t.tctrlBit port 0 && decide ((t.tp port).measured < t.tc / tcSec) &&
      fill == t.regN (tpReg port 0x2C) && (t.tarnOwn port || nearRate (t.tp port).rate milliHertz)) fun t =>
    let c := t.regN (tpReg port Tp.ctrl)
    let x := t.tp port
    let t := t.setTp port { x with measured := t.tc / tcSec, fsFrom := x.fsFrom.map fun _ => x.fsTo, fsFrames := 0 }
    if tpMaster c || x.rate.isNone then t.refreshSrc port
    else
      let old := t.regField (tpReg port Tp.stat) 4 6
      let u := t.setRate port milliHertz
      let det := rateDetected (field c 4 6) milliHertz
      let u := if det != 7 && det != field c 4 6 && det != old then (u.setTstat port 11 true).raise Ev.tarnRateChange port else u
      u.refreshSrc port

/-! ## FIFO accesses (R321) and the frame counter (R324) -/

/-- A word taken from a receive FIFO (R321). -/
def State.rxfifoPop (s : State) (p : Nat) : Nat × State :=
  let x := s.tp p
  match x.rxFifo with
  | w :: rest => (w, (s.setTp p { x with rxFifo := rest }).refreshFifo p)
  | [] => (0, s.tarnOverrun p)

/-- A word put into a transmit FIFO (R321). -/
def State.txfifoPush (s : State) (p value : Nat) : State :=
  let x := s.tp p
  if x.txFifo.length < 128 then (s.setTp p { x with txFifo := x.txFifo ++ [value % 2 ^ 32] }).refreshFifo p
  else s.tarnOverrun p

/-- TARN_RXFIFO_READ (R321). -/
def execTarnRxfifoRead (dt port : Nat) (s : State) : Result :=
  actIf dt s (fun _ => port < 8) fun t => let r := t.rxfifoPop port; r.2.emit (.readback (tpReg port 0x44) r.1)

/-- TARN_TXFIFO_WRITE (R321). -/
def execTarnTxfifoWrite (dt port value : Nat) (s : State) : Result :=
  actIf dt s (fun _ => port < 8) fun t => t.txfifoPush port value

/-- TARN_FCNT_LATCH (R324): a read of TPn_FCNT_LO latches TPn_FCNT_HI. -/
def execTarnFcntLatch (dt port : Nat) (s : State) : Result :=
  actIf dt s (fun _ => port < 8) fun t =>
    let x := t.tp port
    let u := t.setRegN (tpReg port 0x1C) (x.count / 2 ^ 32 + if x.countPinned then 2 ^ 31 else 0)
    (u.setRegN (tpReg port Tp.fcntLo) (x.count % 2 ^ 32)).emit (.readback (tpReg port Tp.fcntLo) (x.count % 2 ^ 32))

end Sys2Proof.Machine
end

