-- ==== Sys2Proof/Machine/Ctl.lean ====
section
/-!
DEFINITION. The control ports (chapter 17): link and speed, receive filter and ring, transmit queues.
-/
namespace Sys2Proof.Machine

/-! ## Registers (R512) -/

/-- A register of a control MAC. -/
def cmac (port off : Nat) : Nat := 0x40030000 + 0x10000 * port + off

/-- A control port. -/
def State.ctlPort (s : State) (port : Nat) : CtlPort := look s.ctl port {}

/-- A control port replaced. -/
def State.setCtlPort (s : State) (port : Nat) (x : CtlPort) : State := { s with ctl := put s.ctl port x }

/-- A bit of CMAC_IRQ_STAT set. -/
def State.cmacIrq (s : State) (port k : Nat) : State := s.setRegBit (cmac port 0x14) k true

/-- A counter of the port one greater; the PINNED interrupt follows its first saturation. -/
def State.cmacCount (s : State) (port off : Nat) : State :=
  let t := s.bumpReg (cmac port off)
  if bit (t.regN (cmac port off)) 31 && !bit (s.regN (cmac port off)) 31 then t.cmacIrq port 5 else t

/-- Whether the port's link is up. -/
def State.ctlUp (s : State) (port : Nat) : Bool := bit (s.regN (cmac port 4)) 0

/-- The speed code of the link. -/
def State.ctlSpeed (s : State) (port : Nat) : Nat := s.regField (cmac port 4) 1 2

/-- SPEED_MODE. -/
def State.speedMode (s : State) (port : Nat) : Nat := s.regField (cmac port 0) 4 5

/-- Megabits per second of a speed code. -/
def speedMbps : Nat → Nat
  | 1 => 10000
  | 2 => 2500
  | 3 => 1000
  | _ => 0

/-! ## Link and speed (R503, R504) -/

/-- LINK_UP becomes 0; the port starts to look for a link with 10GBASE-R. -/
def State.ctlDown (s : State) (port : Nat) : State :=
  let t := (s.setRegBit (cmac port 4) 0 false).setRegField (cmac port 4) 1 2 0
  let t := (t.setRegBit (cmac port 4) 8 true).cmacIrq port 3
  let t := t.setCtlPort port { t.ctlPort port with trying := 1, tryAt := t.now, lowSince := none }
  t.raise Ev.ctlLinkDown port

/-- LINK_UP becomes 1 at a speed; a change of speed sets SPEED_CHG and raises CTL_SPEED_CHANGE. -/
def State.ctlLinked (s : State) (port speed : Nat) : State :=
  let x := s.ctlPort port
  let stepped := match x.step with
    | some (left, sought, _) => if sought = speed then speed != 1 else left = speed && bit (s.regN (cmac port 4)) 3
    | none => false
  let t := ((s.setRegBit (cmac port 4) 0 true).setRegField (cmac port 4) 1 2 speed).setRegBit (cmac port 4) 3 stepped
  let t := (t.setRegBit (cmac port 4) 8 true).cmacIrq port 3
  let changed := x.lastSpeed != 0 && x.lastSpeed != speed
  let t := t.setCtlPort port { x with lastSpeed := speed, step := none, lowSince := none }
  let t := t.raise Ev.ctlLinkUp port
  if changed then ((t.setRegBit (cmac port 4) 10 true).cmacIrq port 4).raise Ev.ctlSpeedChange port else t

/-- The rate at which a port without a link can come up: the fixed one, the one sought by a step, or the one AUTO tries. -/
def State.ctlSought (s : State) (port : Nat) : Nat :=
  let x := s.ctlPort port
  if s.speedMode port != 0 then s.speedMode port
  else match x.step with
    | some (_, sought, _) => sought
    | none => x.trying

/-- CTL_LINK_UP (R503, R515). -/
def execCtlLinkUp (dt port speed : Nat) (s : State) : Result :=
  actIf dt s (fun t => t.il.ctlUp && t.regField (cmac port 0) 0 0 = 1 && !t.ctlUp port && speed == t.ctlSought port && 1 ≤ speed)
    fun t => t.ctlLinked port speed

/-- CTL_LINK_DOWN (R515). -/
def execCtlLinkDown (dt port : Nat) (s : State) : Result :=
  actIf dt s (fun t => t.ctlUp port) fun t => t.ctlDown port

/-- CTL_SPEED_CYCLE (R503): in AUTO a port whose link is down tries the next rate after 500 ms. -/
def execCtlSpeedCycle (dt port : Nat) (s : State) : Result :=
  actIf dt s (fun t => t.regField (cmac port 0) 0 0 = 1 && !t.ctlUp port && t.speedMode port = 0 &&
      (t.ctlPort port).step.isNone && (t.ctlPort port).tryAt + 500000000 ≤ t.now) fun t =>
    let x := t.ctlPort port
    t.setCtlPort port { x with trying := x.trying % 3 + 1, tryAt := t.now }

/-- A step to another rate takes the link down (R504). -/
def State.ctlStep (s : State) (port speed : Nat) : State :=
  let left := s.ctlSpeed port
  let t := s.ctlDown port
  t.setCtlPort port { t.ctlPort port with step := some (left, speed, t.now) }

/-- Whether stepping applies: STEP_EN is 1, SPEED_MODE is AUTO and the link is up. -/
def State.ctlStepping (s : State) (port : Nat) : Bool :=
  bit (s.regN (cmac port 0)) 6 && s.speedMode port == 0 && s.ctlUp port

/-- CTL_LOAD_WINDOW (R504): the load of the last 100 ms window, and the steps that follow from it. -/
def execCtlLoadWindow (dt port rxMbps txMbps : Nat) (s : State) : Result :=
  actIf dt s (fun t => t.regField (cmac port 0) 0 0 = 1) fun t =>
    let u := t.setRegN (cmac port 0x10) (rxMbps % 65536 + 65536 * (txMbps % 65536))
    if !u.ctlStepping port then u
    else
      let l := max rxMbps txMbps
      let v := u.ctlSpeed port
      if v != 1 && 70 * speedMbps v < 100 * l then u.ctlStep port 1
      else if l < u.regField (cmac port 0xC) 0 15 then
        let x := u.ctlPort port
        let since := x.lowSince.getD (u.now - 100000000)
        let u := u.setCtlPort port { x with lowSince := some since }
        if v < 3 && 1000000000 * u.regField (cmac port 0xC) 16 31 ≤ u.now - since then u.ctlStep port (v + 1) else u
      else u.setCtlPort port { u.ctlPort port with lowSince := none }

/-- CTL_TX_FRAME_WAIT (R504): a transmit frame has waited more than 10 ms at a stepped-down rate. -/
def execCtlTxFrameWait (dt port waitedUs : Nat) (s : State) : Result :=
  actIf dt s (fun t => t.ctlStepping port && t.ctlSpeed port != 1 && decide (10000 < waitedUs)) fun t => t.ctlStep port 1

/-- CTL_STEP_FAIL (R504): the new rate has not come up within 1 s. -/
def execCtlStepFail (dt port : Nat) (s : State) : Result :=
  actIf dt s (fun t => !t.ctlUp port) fun t =>
    let x := t.ctlPort port
    match x.step with
    | some (left, sought, at_) =>
      if sought = left || t.now < at_ + 1000000000 then t
      else
        let t := t.setCtlPort port { x with step := some (left, left, t.now) }
        let t := (t.setRegBit (cmac port 0) 6 false).setRegBit (cmac port 4) 9 true
        t.raise Ev.ctlStepFail port
    | none => t

/-- A write of CMAC_CTRL: a port that is no longer enabled, or runs at a rate that SPEED_MODE excludes, drops its link. -/
def State.cmacCtrl (s : State) (port value : Nat) : State :=
  let t := s.busWrite (cmac port 0) value
  let m := t.speedMode port
  let started := !bit (s.regN (cmac port 0)) 0 && bit (t.regN (cmac port 0)) 0
  let t := if started then t.setCtlPort port { t.ctlPort port with trying := 1, tryAt := t.now } else t
  if t.ctlUp port && (!bit (t.regN (cmac port 0)) 0 || (m != 0 && m != t.ctlSpeed port)) then t.ctlDown port else t

/-- CMAC_CTRL_WRITE (R512). -/
def execCmacCtrlWrite (dt port value : Nat) (s : State) : Result := act dt s fun t => t.cmacCtrl port value

/-- Both ports stop (R530, R596). -/
def State.ctlStop (s : State) : State := ((s.cmacCtrl 0 0).cmacCtrl 1 0)

/-! ## Receive (R505 to R509) -/

/-- The filter slot that an address matches; 31 for an accepted broadcast. -/
def State.ctlSlot (s : State) (port : Nat) (dst : List Byte) : Option Nat :=
  let hit := fun n =>
    let hi := s.regN (cmac port (0x44 + 8 * n))
    bit hi 31 && field hi 0 15 == fromBe (dst.take 2) && s.regN (cmac port (0x40 + 8 * n)) == fromBe (dst.drop 2)
  match (List.range 16).find? hit with
  | some n => some n
  | none => if dst == List.replicate 6 0xFF && bit (s.regN (cmac port 0)) 7 then some 31 else none

/-- Whether a frame's tags are those that the port takes. -/
def State.ctlVlanOk (s : State) (port : Nat) (vlans : List Nat) : Bool :=
  if bit (s.regN (cmac port 0)) 8 then vlans == [s.regN (cmac port 8)] else vlans.isEmpty

/-- The counter of the first reason to drop a frame, in the order of R505; none where it is accepted. -/
def State.ctlDrop (s : State) (port : Nat) (f : CtlFrame) : Option Nat :=
  if f.codeError then some 0x204
  else if f.bytes < 64 || 1522 < f.bytes then some 0x208
  else if !f.fcsOk then some 0x20C
  else if !s.ctlVlanOk port f.vlans then some 0x210
  else if f.etherType = 0x8808 then some 0x214
  else if (s.ctlSlot port f.dst).isNone then some 0x218
  else if f.room < f.bytes then some 0x21C
  else none

/-- A word of memory, least significant byte first (R511). -/
def State.memWord (s : State) (a : Nat) : Nat := fromLe (s.memBytes a 4)

/-- A word of memory written. -/
def State.setMemWord (s : State) (a v : Nat) : State := s.setMem a (leBytes 4 v)

/-- The 48-bit address in a descriptor's first two words. -/
def State.descAddr (s : State) (d : Nat) : Nat := s.memWord d + 2 ^ 32 * (s.memWord (d + 4) % 65536)

/-- The address of receive descriptor i. -/
def State.rxDesc (s : State) (port i : Nat) : Nat :=
  s.regN (cmac port 0x100) + 2 ^ 32 * s.regN (cmac port 0x104) + 16 * i

/-- The descriptors that a frame takes, with the bytes that each takes; none where one has OWN 0 (R508). -/
def State.rxPlan (s : State) (port size : Nat) : Nat → Nat → List Byte → Option (List (Nat × List Byte))
  | 0, _, _ => none
  | fuel + 1, i, b =>
    let d := s.rxDesc port i
    let len := field (s.memWord (d + 8)) 0 13
    if !bit (s.memWord (d + 12)) 31 then none
    else if b.length ≤ len then some [(i, b)]
    else (s.rxPlan port size fuel ((i + 1) % size) (b.drop len)).map fun l => (i, b.take len) :: l

/-- The bytes of a frame written to memory. -/
def State.rxData (s : State) (port : Nat) : List (Nat × List Byte) → State
  | [] => s
  | (i, b) :: l => (s.setMem (s.descAddr (s.rxDesc port i)) b).rxData port l

/-- Word 3 of each descriptor of a frame, in ring order (R509, R511). -/
def State.rxStatus (s : State) (port slot : Nat) (first : Bool) : List (Nat × List Byte) → State
  | [] => s
  | (i, b) :: l =>
    let w := b.length + 2 ^ 16 * slot + 2 ^ 29 * b2n l.isEmpty + 2 ^ 30 * b2n first
    (s.setMemWord (s.rxDesc port i + 12) w).rxStatus port slot false l

/-- An accepted frame meets the ring. -/
def State.ctlDeliver (s : State) (port slot : Nat) (payload : List Byte) : State :=
  let size := max 1 (s.regN (cmac port 0x108))
  match s.rxPlan port size (payload.length + 1) (s.regN (cmac port 0x10C)) payload with
  | none => (((s.cmacCount port 0x220).cmacIrq port 1)).raiseLimited Ev.ctlRxNobuf port port
  | some l =>
    let t := (s.rxData port l).rxStatus port slot true l
    let t := t.setRegN (cmac port 0x10C) ((s.regN (cmac port 0x10C) + l.length) % size)
    (t.cmacCount port 0x200).cmacIrq port 0

/-- CTL_FRAME_RECEIVED (R505 to R509). -/
def execCtlFrameReceived (dt port : Nat) (f : CtlFrame) (s : State) : Result :=
  actIf dt s (fun t => t.ctlUp port && bit (t.regN (cmac port 0)) 0 && bit (t.regN (cmac port 0)) 1) fun t =>
    match t.ctlDrop port f with
    | some off => t.cmacCount port off
    | none => t.ctlDeliver port ((t.ctlSlot port f.dst).getD 31) f.payload

/-! ## Transmit (R510) -/

/-- The address of transmit descriptor i of a queue. -/
def State.txDesc (s : State) (port q i : Nat) : Nat :=
  s.regN (cmac port (0x180 + 0x10 * q)) + 2 ^ 32 * s.regN (cmac port (0x184 + 0x10 * q)) + 16 * i

/-- The descriptors of a queue's next frame; none where the queue is not ready. -/
def State.txPlan (s : State) (port q size : Nat) : Nat → Nat → Option (List Nat)
  | 0, _ => none
  | fuel + 1, i =>
    let w := s.memWord (s.txDesc port q i + 8)
    if !bit w 31 then none
    else if bit w 29 then some [i]
    else (s.txPlan port q size fuel ((i + 1) % size)).map fun l => i :: l

/-- A queue's next frame, where it is ready. -/
def State.txNext (s : State) (port q : Nat) : Option (List Nat) :=
  let size := max 1 (s.regN (cmac port (0x188 + 0x10 * q)))
  s.txPlan port q size size (s.regN (cmac port (0x18C + 0x10 * q)))

/-- The bytes that a queue's descriptors hold. -/
def State.txBytes (s : State) (port q : Nat) (l : List Nat) : List Byte :=
  l.flatMap fun i =>
    let d := s.txDesc port q i
    s.memBytes (s.descAddr d) (field (s.memWord (d + 8)) 0 13)

/-- The port clears OWN and writes word 3 of each descriptor, in ring order. -/
def State.txStatus (s : State) (port q : Nat) (err : Bool) : List Nat → State
  | [] => s
  | i :: l =>
    let d := s.txDesc port q i
    let t := s.setMemWord (d + 8) (setBit (s.memWord (d + 8)) 31 false)
    (t.setMemWord (d + 12) (b2n err)).txStatus port q err l

/-- A frame as it leaves the port: padded to 60 bytes, with a tag (TPID 0x8100: notes/assumptions/33.md) when VLAN_EN is
1, and the FCS. -/
def State.txWire (s : State) (port : Nat) (b : List Byte) : List Byte :=
  let p := b ++ zeros (60 - b.length)
  let t := if bit (s.regN (cmac port 0)) 8 then
      p.take 12 ++ beBytes 2 0x8100 ++ beBytes 2 (s.regN (cmac port 8)) ++ p.drop 12
    else p
  t ++ leBytes 4 (crc32 t)

/-- CTL_TX_FRAME (R510): the next frame of the highest-numbered ready queue. -/
def execCtlTxFrame (dt port : Nat) (s : State) : Result :=
  actIf dt s (fun t => t.ctlUp port && bit (t.regN (cmac port 0)) 0 && bit (t.regN (cmac port 0)) 2) fun t =>
    match [7, 6, 5, 4, 3, 2, 1, 0].find? fun q => (t.txNext port q).isSome with
    | none => t
    | some q =>
      let l := (t.txNext port q).getD []
      let b := t.txBytes port q l
      let excess := 1518 < b.length
      let irq := l.any fun i => bit (t.memWord (t.txDesc port q i + 8)) 28
      let u := if excess then t.cmacCount port 0x228 else (t.cmacCount port 0x224).emit (.ctlFrame port (t.txWire port b))
      let u := u.txStatus port q excess l
      let size := max 1 (u.regN (cmac port (0x188 + 0x10 * q)))
      let u := u.setRegN (cmac port (0x18C + 0x10 * q)) ((u.regN (cmac port (0x18C + 0x10 * q)) + l.length) % size)
      if irq then u.cmacIrq port 2 else u

/-! ## Objects (R514) -/

/-- The objects of a port's speed reach its registers, as the shipped Upland writes them. -/
def State.ctlSettings (s : State) (port : Nat) : State :=
  let v := setField (setBit (s.regN (cmac port 0)) 6 (s.b Obj.ctlStepEnable port)) 4 5 (s.n Obj.ctlSpeedMode port)
  (s.cmacCtrl port v).setRegN (cmac port 0xC) (s.n Obj.ctlStepThreshold port + 65536 * s.n Obj.ctlStepHold port)

/-- The port address (R513). -/
def State.ctlMac (s : State) (port : Nat) : List Byte :=
  (s.by Obj.macBase 0).take 5 ++ [if port = 0 then 0xFE else 0xFF]

/-- The shipped Upland starts the ports after the store has loaded (R512, R613): its own address and VLAN, the settings, and
EN, RX_EN, TX_EN and BCAST_EN. The rings are what its program writes. -/
def State.ctlStart (s : State) (port : Nat) : State :=
  let vlan := s.n Obj.ctlVlan port
  let t := (s.setRegN (cmac port 0x40) (cmacAddr0 (s.by Obj.macBase 0) (0xFE + port) false)).setRegN (cmac port 0x44)
    (cmacAddr0 (s.by Obj.macBase 0) (0xFE + port) true)
  let t := if vlan = 0xFFFF then t else t.setRegN (cmac port 8) vlan
  (t.cmacCtrl port (0x87 + if vlan = 0xFFFF then 0 else 0x100)).ctlSettings port

end Sys2Proof.Machine
end

