-- ==== Sys2Proof/Machine/Sessions.lean ====
section
/-!
DEFINITION. Sessions as the device keeps them (R459 to R462): what it sends in them, and their end with the salvos that
they own (R191).
-/
namespace Sys2Proof.Machine

/-! ## Sending -/

/-- An open session. -/
def State.session (s : State) (n : Nat) : Option Session := s.il.sessions.lookup n

/-- A session replaced. -/
def State.setSession (s : State) (n : Nat) (x : Session) : State :=
  { s with il := { s.il with sessions := put s.il.sessions n x } }

/-- A message of the device in a session takes the next number (R459). -/
def State.sendIn (s : State) (n : Nat) (f : Nat → Out) : State :=
  match s.session n with
  | some x => (s.setSession n { x with devSeq := x.devSeq + 1 }).emit (f x.devSeq)
  | none => s

/-- A response (R461): the request is complete, and the last 64 responses are kept to be sent again (R459). -/
def State.respond (s : State) (n seq type status detail : Nat) (body : Body) : State :=
  match s.session n with
  | some x =>
    let o := Out.response n x.devSeq seq type status detail body
    (s.setSession n { x with
      devSeq := x.devSeq + 1
      sent := ((seq, o) :: x.sent).take 64
      outstanding := x.outstanding.filter (· != seq)
      busy := x.busy.filter fun b => b.1 != seq }).emit o
  | none => s

/-! ## What is copied (R374) -/

/-- The counter-clear and meter-clear objects, which are local wherever they stand. -/
def clearObjects : List Nat :=
  [0x200F, 0x301F, 0x3045, 0x382F, 0x401F, 0x411F, 0x501F, 0x511F, 0x521F, 0x541F, 0x140F, 0x152F, 0x182F, 0x601F, 0x6056,
   0x681F, 0x683F, 0x684F, 0x685F, 0x6A3F, 0x6A4F, 0x6C3F]

/-- Whether an object is local to the device. -/
def localObject (i : Nat) : Bool :=
  (0x1000 ≤ i && i < 0x1400) || (0x1510 ≤ i && i < 0x1600) || (0x1600 ≤ i && i < 0x1800) || 0x7000 ≤ i || i = Obj.macBase ||
    clearObjects.contains i

/-- Whether an object is copied to the standby: RW or WO, and not local. -/
def copiedObject (a : Nat) : Bool :=
  match dictRow (adrIndex a) (adrSub a) with
  | some r => r.access != .ro && !localObject (adrIndex a)
  | none => false

/-- Whether a write is written through (R378). -/
def writtenThrough (a : Nat) (v : Val) : Bool :=
  let i := adrIndex a
  (Obj.layerGfxOffset ≤ i && i ≤ Obj.layerGfxFlip) || (Obj.colShaperData ≤ i && i ≤ Obj.colTableFlip) ||
    ((dictRow i (adrSub a)).elim false fun r => r.ty == .octets && 4096 < (Val.toBytes v).length)

/-- Whether the device is the active one of a pair. -/
def State.active (s : State) : Bool := s.n Obj.twinRole 0 == 1

/-- Whether the device mirrors: it is active and its standby ready (R380). -/
def State.mirrors (s : State) : Bool := s.n Obj.twinRole 0 == 1 && s.n Obj.twinReadiness 0 == 1

/-- A write that the next copies carry (R377). -/
def State.logWrite (s : State) (a : Nat) (v : Val) (due : Nat) : State :=
  if s.active && copiedObject a then { s with tw := { s.tw with log := s.tw.log ++ [⟨a, v, due, s.tc⟩] } } else s

/-- A Frame-class write that is acknowledged now waits for the boundary of R9. The next copy carries it, unless it has been written
through (R377, R378). -/
def State.frameWrite (s : State) (w : Nat × Val) : State :=
  let due := s.boundaryAfterDeadline
  let t := { s with ce := { s.ce with frameWrites := s.ce.frameWrites ++ [⟨w.1, w.2, due⟩] } }
  if s.mirrors && writtenThrough w.1 w.2 then t else t.logWrite w.1 w.2 due

/-! ## Answers (R461, R468, R522) -/

/-- SalvoState's code. -/
def SalvoState.code : SalvoState → Nat
  | .free => 0
  | .staged => 1
  | .arming => 2
  | .armed => 3
  | .pending => 4
  | .done => 5

/-- The body of a response on the wire (R463, R465, R468). -/
def Body.bytes : Body → List Byte
  | .none => []
  | .read total value => beBytes 4 total ++ value
  | .write at_ => ptpBytes at_ ++ zeros 2
  | .bulkRead items => beBytes 2 items.length ++ zeros 2 ++
      items.flatMap fun x => beBytes 2 x.1 ++ zeros 2 ++ beBytes 4 x.2.length ++ x.2
  | .bulkWrite l => beBytes 2 l.length ++ zeros 2 ++ l.flatMap fun x => beBytes 2 x ++ zeros 2
  | .salvo n st count change b => beBytes 1 n ++ beBytes 1 st ++ beBytes 2 count ++ beBytes 2 change ++ zeros 2 ++
      ptpBytes b ++ zeros 2

/-- The body of a response (R461): the prefix and what follows it. -/
def responseBytes (seq status detail : Nat) (b : Body) : List Byte :=
  beBytes 8 seq ++ beBytes 2 status ++ zeros 2 ++ beBytes 4 detail ++ b.bytes

/-- An async gate call is complete (R522): its record is written when GATE_DONE is served. -/
def State.completeTicket (s : State) (number status : Nat) (result : List Byte) : State :=
  { s with gate := { s.gate with tickets := s.gate.tickets.map fun (t : Ticket) =>
      if t.number = number then { t with done := true, status := status, result := result } else t } }

/-- Whoever asked gets the answer. A gate call's answer stands in its buffer (notes/assumptions/44.md). -/
def State.reply (s : State) (a : Asker) (type status detail : Nat) (b : Body) : State :=
  match a with
  | .request n seq => s.respond n seq type status detail b
  | .ticket k => match s.gate.tickets.find? fun x => x.number == k with
    | some x =>
      (s.setMem x.buf.addr ((responseBytes 0 status detail b).take x.buf.len)).completeTicket k
        (if status = 0 then 0 else 3) (beBytes 2 status)
    | none => s
  | .nobody => s

/-- An answer that has waited is given (R378, R498, R620): the request's body where what it waited for succeeds; else its
item of a bulk write has the status, and a single write has it as its own. The Frame-class values that it acknowledges wait for
their boundary from now on (R9). -/
def State.answerFor (s : State) (x : Answer) (status : Nat) : State :=
  let t := x.frames.foldl State.frameWrite s
  if status = 0 then t.reply x.asker x.type 0 0 x.body
  else match x.body with
    | .bulkWrite l => t.reply x.asker x.type 0 0 (.bulkWrite (l.set x.item status))
    | _ => t.reply x.asker x.type status 0 (.write 0)

/-! ## Salvos released -/

/-- A salvo. -/
def State.salvo (s : State) (n : Nat) : Salvo := look s.ce.salvos n {}

/-- The salvos as of a copy point (R377): the first change of one after it leaves them behind. -/
def State.salvosKept (s : State) : Option (Nat × Table Salvo) :=
  let b := s.nextBoundary
  if s.tc + deadline < b || s.ce.atCopy.elim false (fun p => p.1 == b) then s.ce.atCopy else some (b, s.ce.salvos)

/-- A salvo replaced; SalvoState and SalvoOwner follow. -/
def State.setSalvo (s : State) (n : Nat) (x : Salvo) : State :=
  { s with ce := { s.ce with atCopy := s.salvosKept, salvos := put s.ce.salvos n x } }

/-- The transmit entries that a salvo enables. -/
def Salvo.enablesTx (x : Salvo) : List Nat :=
  x.changes.filterMap fun c => if adrIndex c.addr = Obj.txEnable && c.val != .num 0 then some (adrSub c.addr) else none

/-- A salvo gives up what its ARM projected and pre-joined, and is STAGED (R189, R203). Entries that only it has pre-joined
are IDLE again (R103), and so are transmit entries that only it would enable (R130). -/
def State.unarm (s : State) (n : Nat) : State :=
  let l := (s.salvo n).prejoined
  let t := s.setSalvo n { s.salvo n with state := .staged, reads := [], prejoined := [] }
  let idle := l.filter fun e => !t.b Obj.rxEnable e && !(t.prejoined.any fun x => x.2 == e)
  let t := idle.foldl (fun u e => u.setN Obj.rxFlowState e 0) t
  let others := (t.heldSalvos.filter fun x => x.1 != n).flatMap fun x => x.2.enablesTx
  let t := ((s.salvo n).enablesTx.filter fun e => t.n Obj.txFlowState e == 1 && !others.contains e).foldl
    (fun u e => u.setN Obj.txFlowState e 0) t
  t.syncMembership

/-- A salvo is FREE. -/
def State.freeSalvo (s : State) (n : Nat) : State := ((s.unarm n).setSalvo n {})

/-- The salvo that an operation names. -/
def SalvoOp.number : SalvoOp → Nat
  | .open_ => 0
  | .add n _ _ => n
  | .remove n _ => n
  | .clear n => n
  | .arm n => n
  | .disarm n => n
  | .take n _ _ => n
  | .discard n => n

/-- A salvo that ends with its session is FREE, with SALVO_SESSION_DISCARD where it has a change left; an operation on it that
waits for the standby finds no salvo any more (R190, R191). -/
def State.discardSalvo (s : State) (n : Nat) (empty : Bool) : State :=
  let t := s.freeSalvo n
  let t := { t with ce := { t.ce with wait := t.ce.wait.map fun (w : MirrorWait) =>
    if w.op.op.number = n then { w with gone := true } else w } }
  if empty then t else t.raise Ev.salvoSessionDiscard n

/-- The salvos of a session that end with it (R191); one that has a change left raises SALVO_SESSION_DISCARD. A salvo that is
being armed loses its owner, and is discarded when its ARM is decided. The salvos of a standby belong to the other device's
sessions. -/
def State.discardOwned (s : State) (n : Nat) : State :=
  if s.standby then s else s.ce.salvos.foldl (fun t (p : Nat × Salvo) =>
    if p.2.owner != n then t
    else match p.2.state with
      | .staged => t.discardSalvo p.1 p.2.changes.isEmpty
      | .armed => t.discardSalvo p.1 p.2.changes.isEmpty
      | .arming => t.setSalvo p.1 { p.2 with owner := 0xFFFF }
      | _ => t) s

/-! ## The end of a session (R460) -/

/-- The objects of a session that restart with it read as a free session's are computed at a read (R489). The staging
session's end returns a RECEIVING update to IDLE and closes the window (R584). -/
def State.endStaging (s : State) (n : Nat) : State :=
  if s.n Obj.updateState 0 = 1 && s.up.session = n then
    let t := (s.setN Obj.updateState 0 0).setRegN 0x40080014 0
    { t with up := { t.up with session := 0xFFFF } }
  else s

/-- The place of an operation among the messages that a FENCE waits for: that of its session, or the one of an ended session
while the engine still handles it (R211). -/
def EngineOp.slot (e : EngineOp) (seq : Nat) : Nat × Nat :=
  if e.asker = .nobody then (0x10000 + e.session, seq) else (e.session, seq)

/-- A message of a session that ends, as a FENCE waits for it: only where the commit engine still handles it (R211). -/
def State.waitLeft (s : State) (n : Nat) (w : Nat × Nat) : Option (Nat × Nat) :=
  if w.1 != n then some w
  else if s.ce.wait.elim false fun y => y.op.session == w.1 && y.op.seq == w.2 then some (0x10000 + w.1, w.2)
  else none

/-- No FENCE waits for a session's requests any more, but for the one that the commit engine still handles (R211). -/
def State.dropWaits (s : State) (n : Nat) : State :=
  { s with il := { s.il with sessions := s.il.sessions.map fun (p : Nat × Session) =>
      (p.1, { p.2 with fences := p.2.fences.map fun (f : Fence) => { f with waits := f.waits.filterMap (s.waitLeft n) } }) } }

/-- The operations that a session has left in the commit engine: those that wait are dropped, and the one that is being handled
goes on without a client. A gate call is answered all the same (R523). -/
def State.leaveEngine (s : State) (n : Nat) : State :=
  let gone := s.ce.queue.filter fun q => q.session == n
  let t := { s with ce := { s.ce with
    queue := s.ce.queue.filter fun q => q.session != n
    wait := s.ce.wait.map fun (w : MirrorWait) => match w.op.asker with
      | .request k _ => if k = n then { w with op := { w.op with asker := .nobody } } else w
      | _ => w
    salvos := s.ce.salvos.map fun (p : Nat × Salvo) =>
      if p.2.takeSession = n then (p.1, { p.2 with takeSession := 0xFFFF }) else p } }
  gone.foldl (fun (u : State) q => match q.asker with
    | .ticket k => u.completeTicket k 3 (beBytes 2 Code.malformed)
    | _ => u) t

/-- A session ends; a reason is sent in a CLOSE first (R460). -/
def State.endSession (s : State) (n : Nat) (reason : Option Nat) : State :=
  match s.session n with
  | none => s
  | some _ =>
    let t := match reason with
      | some r => s.sendIn n fun k => .close n k r
      | none => s
    let t := { t with il := { t.il with sessions := del t.il.sessions n } }.dropWaits n
    (((t.leaveEngine n).discardOwned n).endStaging n).raise Ev.sessionClosed n

/-- Every session ends. -/
def State.endSessions (s : State) (reason : Option Nat) : State :=
  (s.il.sessions.map fun (p : Nat × Session) => p.1).foldl (fun t n => t.endSession n reason) s

/-- Every session of a role ends (R486). -/
def State.endRole (s : State) (role reason : Nat) : State :=
  ((s.il.sessions.filter fun (p : Nat × Session) => p.2.role == role).map fun (p : Nat × Session) => p.1).foldl
    (fun t n => t.endSession n (some reason)) s

end Sys2Proof.Machine
end

