-- ==== Sys2Proof/Machine/Store.lean ====
section
/-!
DEFINITION. The persistent store (R495 to R500): its records, saves and loads. A slot is kept as what it says; its bytes
are under keys that only Bedrock holds (notes/assumptions/34.md).
-/
namespace Sys2Proof.Machine

/-! ## Records (R495, R496) -/

/-- Whether an object's value is kept in the store (R495), RoleKey and the model apart. -/
def persistent (a : Nat) : Bool :=
  let i := adrIndex a
  if i = Obj.txSsrcInUse || i = Obj.restartCount || i = Obj.roleKeyChangedAt || i = Obj.ownerLockChangedAt ||
      i = Obj.eventPinMap then true
  else if (0x1300 ≤ i && i < 0x1400) || 0x7000 ≤ i || i = Obj.twinHealthHold || i = Obj.saddleRxReady then false
  else match dictRow i (adrSub a) with
    | some r => r.access == .rw
    | none => false

/-- The objects as the store records them: in force, with the last written values of Frame- and Restart-class objects
(R13), and with loaded values that wait for the restore commit. -/
def State.recorded (s : State) : Objs :=
  let c := s.boot.restoreChanges.foldl (fun c x => Objs.set c x.1 x.2) s.objs
  let c := s.ce.frameWrites.foldl (fun c w => Objs.set c w.addr w.val) c
  s.ce.restartWrites.foldl (fun c w => Objs.set c w.1 w.2) c

/-- The records of a configuration, in order of address. The mode SADDLE is the octet's, not a setting (R390, R400). -/
def storeRecords (c : Objs) : List (Nat × Val) :=
  c.filter fun p => persistent p.1 && !(adrIndex p.1 == Obj.laneMode && p.2 == .num 3)

/-- Bytes of a value's record. -/
def recordBytes (n : Nat) : Nat := 8 + 4 * ceilDiv n 4

/-- Bytes of a record of an object. -/
def objRecordBytes (a : Nat) (v : Val) : Nat :=
  match dictRow (adrIndex a) (adrSub a) with
  | some r => recordBytes (encodeVal r.ty v).length
  | none => 0

/-- The length L of the records of a configuration, with the role keys (60 bytes each) and the model. -/
def State.storeLength (s : State) (c : Objs) : Nat :=
  ((storeRecords c).map fun (p : Nat × Val) => objRecordBytes p.1 p.2).sum + 68 * s.il.roleKeys.length +
    if s.st.model.isSome then 72 else 0

/-- The largest L (R496). -/
def storeLimit : Nat := 2097088

/-- What a save of the present settings holds. -/
def State.snapshot (s : State) (generation : Nat) : StoreSlot :=
  ⟨s.up.storeVersion, generation, storeRecords s.recorded, s.il.roleKeys, s.st.model⟩

/-- Whether two slots hold the same settings. -/
def StoreSlot.same (a b : StoreSlot) : Bool :=
  a.version == b.version && a.records == b.records && a.roleKeys == b.roleKeys && a.model == b.model

/-- StoreDirty: the settings differ from those last saved or loaded, or being saved (notes/assumptions/35.md). -/
def State.storeDirtyNow (s : State) : Bool :=
  let now := s.snapshot 0
  match s.st.save, s.st.current with
  | some x, _ => !x.content.same now
  | none, some x => !x.same now
  | none, none => !now.records.isEmpty || !now.roleKeys.isEmpty || now.model.isSome

/-! ## Saves (R498, R594) -/

/-- The slot that the next save goes to: not the one last loaded or saved, and never a held one. -/
def State.saveSlot (s : State) : Nat :=
  let held := s.n Obj.storeHeldSlot 0
  if held < 2 then 1 - held else 1 - s.st.last

/-- A slot's content replaced. -/
def State.setSlot (s : State) (slot : Nat) (x : Option StoreSlot) : State :=
  if slot = 0 then { s with st := { s.st with slotA := x } } else { s with st := { s.st with slotB := x } }

/-- A save starts: its slot fails its check until the save has written it (R498). -/
def State.startSave (s : State) : State :=
  let slot := s.saveSlot
  let content := s.snapshot (s.n Obj.storeGeneration 0 + 1)
  let t := s.setSlot slot none
  { t with st := { t.st with
    save := some ⟨t.now, false, content, slot, t.st.replies, t.st.gateTickets⟩
    lastStart := some t.now
    replies := []
    gateTickets := [] } }

/-- The requests and calls that a save answers. -/
def State.answerSave (s : State) (x : Save) (status : Nat) : State :=
  let t := x.replies.foldl (fun (u : State) r => u.answerFor r status) s
  x.tickets.foldl (fun u n => u.completeTicket n (if status = 0 then 0 else 3)
    (if status = 0 then [] else beBytes 2 status)) t

/-- A save completes, or fails; it is retried once. -/
def State.endSave (s : State) (ok : Bool) : State :=
  match s.st.save with
  | none => s
  | some x =>
    if ok then
      let t := s.setSlot x.slot (some x.content)
      let t := { t with st := { t.st with
        save := none
        last := x.slot
        current := some x.content } }
      let t := (t.setN Obj.storeGeneration 0 x.content.generation).setN Obj.storeLastSavedAt 0 t.ptp
      (t.answerSave x 0).raise Ev.storeSaved (x.content.generation % 2 ^ 32)
    else if x.retried then
      let t := { s with st := { s.st with save := none } }
      ((t.setReason 5 true).raise Ev.storeSaveFailed 0).answerSave x 0xC5
    else { s with st := { s.st with save := some { x with retried := true } } }

/-- STORE_SAVE_START (R498): at least 1 s after the last start, when there is something to save or answer. -/
def execStoreSaveStart (dt : Nat) (s : State) : Result :=
  actIf dt s (fun t => t.boot.uplandRuns && t.st.save.isNone && (t.st.lastStart.elim true fun a => a + 1000000000 ≤ t.now) &&
      (t.storeDirtyNow || !t.st.replies.isEmpty || !t.st.gateTickets.isEmpty)) State.startSave

/-- A restart completes every save already started (R524, R589). -/
def State.completeSaves (s : State) : State := s.endSave true

/-- HOLDOVER_MODEL_SAVE (R352): the model is saved every hour. -/
def execHoldoverModelSave (dt : Nat) (s : State) : Result :=
  actIf dt s (fun t => t.live && t.n Obj.wsHoldoverLearned 0 != 0 && t.ws.savedAt + 3600000000000 ≤ t.now) fun t =>
    { t with
      ws := { t.ws with savedAt := t.now }
      st := { t.st with model := some ⟨t.n Obj.wsHoldoverLearned 0, t.ws.ready, t.ws.model⟩ } }

/-! ## Loading (R497, R595) -/

/-- The slot that a start loads: the held one after a fall-back, else the higher generation. -/
def State.loadChoice (s : State) : Option (Nat × StoreSlot) :=
  let held := s.n Obj.storeHeldSlot 0
  let slot := fun k => if k = 0 then s.st.slotA else s.st.slotB
  if s.boot.fellBack && held < 2 && (slot held).isSome then (slot held).map fun x => (held, x)
  else match s.st.slotA, s.st.slotB with
    | some a, some b => if b.generation ≤ a.generation then some (0, a) else some (1, b)
    | some a, none => some (0, a)
    | none, some b => some (1, b)
    | none, none => none

/-- An 8-byte entry of MigrationReport (R595). -/
def reportEntry (a reason : Nat) : List Byte := beBytes 4 a ++ beBytes 1 reason ++ zeros 3

/-- One more entry of MigrationReport, of which 8,000 are held. -/
def State.addReport (s : State) (a reason : Nat) : State :=
  let n := s.n Obj.migrationReportCount 0
  let t := s.setN Obj.migrationReportCount 0 (n + 1)
  if n < 8000 then t.setBy Obj.migrationReport 0 (t.by Obj.migrationReport 0 ++ reportEntry a reason) else t

/-- A record as the running Upland takes it: the value, or the reason for the default. -/
def State.migrateRecord (s : State) (version a : Nat) (v : Val) : Val ⊕ Nat :=
  if version / 256 = s.up.storeVersion / 256 then .inl v
  else match Config.migrate version s.up.storeVersion a v with
    | none => .inr 1
    | some w => match dictRow (adrIndex a) (adrSub a) with
      | some r => if r.rng.ok w then .inl w else .inr 2
      | none => .inr 1

/-- The objects of a class that the records give, and the report of those that took their defaults. -/
def State.loadRecords (s : State) (version : Nat) (l : List (Nat × Val)) : State × List (Nat × Val) :=
  l.foldl (fun (p : State × List (Nat × Val)) r =>
    if !persistent r.1 then p
    else match p.1.migrateRecord version r.1 r.2 with
      | .inr reason => (p.1.addReport r.1 reason, p.2)
      | .inl v => match dictRow (adrIndex r.1) (adrSub r.1) with
        | some row =>
          if row.commit == .take || row.commit == .frame then (p.1, p.2 ++ [(r.1, v)])
          else (p.1.setVal (adrIndex r.1) (adrSub r.1) v, p.2)
        | none => p) (s, [])

/-- Upland loads the store (R497, R594, R595): Immediate- and Restart-class values act at once, the others wait for the
restore commit. -/
def State.loadStore (s : State) : State :=
  match s.loadChoice with
  | none =>
    let t := { s with st := { s.st with last := 1, current := none, loaded := none, model := none } }
    let t := ((t.setN Obj.storeSlotLoaded 0 2).setN Obj.storeVersionLoaded 0 0).setN Obj.storeGeneration 0 0
    (t.setReason 5 true).raise Ev.storeInvalid 0
  | some (k, x) =>
    let t := { s with
      st := { s.st with last := k, current := some x, loaded := some x, model := x.model }
      il := { s.il with roleKeys := x.roleKeys }
      ws := { s.ws with wasReady := x.model.elim false (·.ready), model := x.model.elim {} (·.model) } }
    let t := t.setN Obj.wsHoldoverLearned 0 (x.model.elim 0 (·.learned))
    let t := ((t.setN Obj.storeSlotLoaded 0 k).setN Obj.storeVersionLoaded 0 x.version).setN Obj.storeGeneration 0 x.generation
    let t := if t.up.ctl.trial.elim false (fun (y : Nat × Nat) => y.1 == 2) then t.setN Obj.storeHeldSlot 0 k else t
    let p := t.loadRecords x.version x.records
    { p.1 with boot := { p.1.boot with restoreChanges := p.2 } }

/-- Provisioning (R488): a device whose store holds no Owner key. -/
def State.unprovisioned (s : State) : Bool := !s.il.roleKeys.any fun (p : Nat × List Byte) => p.1 == 3

/-- The reason UNPROVISIONED follows. -/
def State.refreshProvision (s : State) : State := s.setReason 9 s.unprovisioned

/-- The records of the loaded slot as STORE_LOAD gives them (R496, R523), without the role keys. -/
def StoreSlot.bytes (x : StoreSlot) : List Byte :=
  x.records.flatMap fun (p : Nat × Val) =>
    match dictRow (adrIndex p.1) (adrSub p.1) with
    | some r =>
      let b := encodeVal r.ty p.2
      beBytes 4 p.1 ++ beBytes 4 b.length ++ b ++ zeros (4 * ceilDiv b.length 4 - b.length)
    | none => []

end Sys2Proof.Machine
end

