-- ==== Sys2Proof/Machine/Reset.lean ====
section
/-!
DEFINITION. Resets and restarts (R606 to R608, R619, R620): what each one keeps.
-/
namespace Sys2Proof.Machine

/-- Outputs take the RESET column of R617; level 2 is high impedance. -/
def State.releaseOutputs (s : State) : State :=
  let t := if s.ev.pin0.asserted then s.emit (.pin .evtN 0 1) else s
  let t := if s.ev.pin1.asserted then t.emit (.pin .evtN 1 1) else t
  let t := if s.boot.stage = .reset then t else t.emit (.pin .armHealth 0 2)
  let t := [0, 1, 2, 3].foldl (fun u n => if s.boot.stage = .reset then u else u.emit (.pin .fpOut n 2)) t
  [0, 1, 2, 3].foldl (fun u d => if s.boot.stage = .reset then u else u.emit (.pin .pciePerst d 0)) t

/-- The whole device is reset: flash, fuses, the store's slots, the drives' contents and the always-on monitors keep what
they hold (R606, R619). The held store slot is part of boot control (R594). -/
def State.fullReset (s : State) : State :=
  let o := s.releaseOutputs
  let t : State := { State.reset with
    pending := s.pending
    out := o.out
    fresh := s.fresh
    now := s.now
    flash := s.flash
    st := { slotA := s.st.slotA, slotB := s.st.slotB }
    up :=
      { ctl := s.up.ctl
        rollback := s.up.rollback
        ownerHashes := s.up.ownerHashes
        ownerStates := s.up.ownerStates
        journal := s.up.journal
        journalSeq := s.up.journalSeq
        windowLength := s.up.windowLength
        trialRuns := s.up.trialRuns
        policy := if s.boot.uplandRuns || s.boot.started then s.n Obj.updatePolicy 0 else s.up.policy
        activating := s.up.activating }
    boot :=
      { straps := s.boot.straps
        held := s.boot.held
        resetLow := s.boot.resetLow
        avsRunning := s.boot.avsRunning
        avsMicrovolts := s.boot.avsMicrovolts
        avsTarget := s.boot.avsTarget
        avsStepAt := s.boot.avsStepAt } }
  { t with mor := s.morReset.mor }.setN Obj.storeHeldSlot 0 (s.n Obj.storeHeldSlot 0)

/-- The device enters reset: RESET_N is low, or a monitor of R606 holds it there. The cause is that of the next start, and
the cause that acts last counts (R608). -/
def State.enterReset (s : State) (cause : Nat) : State :=
  let t := s.fullReset
  { t with boot := { t.boot with stage := .reset, cause := cause, avsRunning := false } }

/-- The ROM stage begins (R613): the time counter starts at 0, and ARB_HEALTH is held low (R617). -/
def State.startRom (s : State) (cause : Nat) : State :=
  { s.emit (.pin .armHealth 0 0) with
    tc := 0
    boot := { s.boot with
      stage := .rom
      cause := cause
      startedAt := s.now
      stageAt := s.now } }

/-- A HARD restart with a cause (R619): a restart from the watchdog shows in LAST_EXPIRED (R527). -/
def State.hardRestart (s : State) (cause : Nat) : State :=
  let t := (s.fullReset).startRom cause
  { t with boot := { t.boot with wdtExpired := cause == 4 } }

/-- A SOFT restart begins once its sessions have ended (R620): Cairn, Bedrock and Upland restart, and nothing else. An
update that is STAGED ends with Bedrock's restart (notes/assumptions/23.md). -/
def State.startSoft (s : State) : State :=
  let t := (s.ctlStop.setN Obj.updateState 0 (if s.n Obj.updateState 0 = 4 then 4 else 0)).setRegN 0x40080014 0
  let t := { t with
    gate := { ptpSec := t.gate.ptpSec }
    scr := {}
    il := {}
    up := { t.up with session := 0xFFFF, kind := 0, policy := t.n Obj.updatePolicy 0 }
    boot := { t.boot with
      stage := .rom
      cause := 2
      soft := true
      softWait := false
      softReplies := []
      startedAt := t.now
      stageAt := t.now
      wdtRunning := false
      wdtExpired := false
      started := false
      fellBack := false
      uplandRuns := false
      heartbeatAt := none
      heartbeatLate := false
      uplandRestarting := false } }
  t

end Sys2Proof.Machine
end

