-- ==== Sys2Proof/Machine/Update.lean ====
section
/-!
DEFINITION. Firmware images and the update machine (chapter 21): headers, signatures, staging, trial and confirmation.
-/
namespace Sys2Proof.Machine

/-! ## Images (R579 to R582) -/

/-- The flash address of a slot of a kind (R579). -/
def slotBase (kind slot : Nat) : Nat := if kind = 1 then 0x10000 * (1 + slot) else 0x1000000 * (1 + slot)

/-- The size of a slot of a kind. -/
def slotSize (kind : Nat) : Nat := if kind = 1 then 0x10000 else 0x1000000

/-- The largest image of a kind (R580): a patch in total, an Upland with its body and two signature blocks. -/
def imageLimit (kind : Nat) : Nat := if kind = 1 then 65536 else 128 + 400 + 6291456

/-- A number in an image. -/
def State.imageN (s : State) (base at_ n : Nat) : Nat := fromBe (s.flashBytes (base + at_) n)

/-- The body length that a header gives. -/
def State.imageBody (s : State) (base : Nat) : Nat := s.imageN base 16 4

/-- The signature blocks that a header gives. -/
def State.imageSigs (s : State) (base : Nat) : Nat := s.imageN base 7 1

/-- The length of an image as its header gives it. -/
def State.imageLength (s : State) (base : Nat) : Nat := 128 + 200 * s.imageSigs base + s.imageBody base

/-- The version of an image. -/
def State.imageVersion (s : State) (base : Nat) : Nat := s.imageN base 8 4

/-- The security version of an image. -/
def State.imageSecurity (s : State) (base : Nat) : Nat := s.imageN base 12 1

/-- The header conforms to R580, and the body has its hash. -/
def State.headerOk (s : State) (kind base : Nat) : Bool :=
  let n := s.imageN base
  n 0 4 == 0x494C494D && n 4 2 == 1 && n 6 1 == kind && (n 7 1 == 1 || n 7 1 == 2) && n 12 1 ≤ 64 && n 13 3 == 0 &&
    n 20 4 < n 16 4 && n 26 2 == 0 && s.flashBytes (base + 80) 48 == zeros 48 &&
    (if kind = 1 then n 24 2 == 0 && n 28 4 == 0 && s.imageLength base ≤ 65536 else n 16 4 ≤ 6291456) &&
    s.flashBytes (base + 32) 48 ==
      Config.sha384 (s.flashBytes (base + 128 + 200 * s.imageSigs base) (s.imageBody base))

/-- Whether a key's hash is one that a signer may use (R581). -/
def State.signerKey (s : State) (signer : Nat) (hash : List Byte) : Bool :=
  if signer = 0 then hash == Config.vendorKeyHash
  else signer == 1 && (List.range 4).any fun k => look s.up.ownerStates k 0 == 1 && look s.up.ownerHashes k [] == hash

/-- The signer of signature block k where the block is valid (R581), the other block's signer apart. -/
def State.sigSigner (s : State) (base k : Nat) : Option Nat :=
  let b := base + 128 + 200 * k
  let signer := s.imageN b 0 1
  let key := s.flashBytes (b + 4) 97
  if s.imageN b 1 3 = 0 && s.imageN b 101 3 = 0 && (key.take 1) == [4] && s.signerKey signer (Config.sha384 key) &&
      Config.ecdsaOk key (Config.sha384 (s.flashBytes base 128)) (s.flashBytes (b + 104) 96) then some signer else none

/-- The valid signers of an image: of two blocks with one signer neither is valid. -/
def State.signers (s : State) (base : Nat) : List Nat :=
  if s.imageSigs base = 2 && s.imageN (base + 128) 0 1 = s.imageN (base + 328) 0 1 then []
  else (List.range (s.imageSigs base)).filterMap (s.sigSigner base)

/-- Whether an image carries the blocks that R581 requires. -/
def State.signedFor (s : State) (kind base : Nat) (recovery : Bool) : Bool :=
  let l := s.signers base
  if kind = 1 then l.contains 0 && (!recovery || l.contains 1)
  else if recovery then l.contains 1 else l.contains 0 || l.contains 1

/-- The effective Bedrock version (R580). -/
def State.bedrockVersionNow (s : State) : Nat := if s.up.patchRuns then s.up.patchVersion else Config.romVersion

/-- The first code of R588 that an image meets; none where it is accepted (R581). -/
def State.imageFault (s : State) (kind base : Nat) (recovery : Bool) : Option Nat :=
  if !s.headerOk kind base then some 0xD6
  else if !s.signedFor kind base recovery then some 0xD7
  else if s.imageSecurity base < s.up.rollback then some 0xD8
  else if kind = 2 && s.bedrockVersionNow < s.imageN base 28 4 then some 0xD9
  else none

/-- Whether the image of a slot is accepted. -/
def State.accepted (s : State) (kind slot : Nat) : Bool := (s.imageFault kind (slotBase kind slot) false).isNone

/-- SlotVersion (R601): 0 where the image is not accepted. -/
def State.slotVersionOf (s : State) (k : Nat) : Nat :=
  let kind := 1 + k / 2
  if s.accepted kind (k % 2) then s.imageVersion (slotBase kind (k % 2)) else 0

/-- SlotRole (R601). -/
def State.slotRoleOf (s : State) (k : Nat) : Nat :=
  let kind := 1 + k / 2
  let slot := k % 2
  let c := s.up.ctl
  if c.trial = some (kind, slot) then 2
  else if c.trial.elim false (fun (p : Nat × Nat) => p.1 == kind) && c.prior = some slot then 3
  else if slot = (if kind = 1 then c.patchActive else c.uplandActive) then 1 else 0

/-! ## Staging (R584 to R589) -/

/-- The result of a write that the update machine decides: its status, and the device after it. -/
abbrev Written := Nat × State

/-- A refusal: UpdateResult holds its code (R584). -/
def State.updateNo (s : State) (code : Nat) : Written := (code, s.setN Obj.updateResult 0 code)

/-- An accepted operation. -/
def State.updateOk (s : State) : Written := (0, s.setN Obj.updateResult 0 0)

/-- The window of R517 over a target slot, or closed. -/
def State.setWindow (s : State) (base size : Nat) : State := (s.setRegN 0x40080010 base).setRegN 0x40080014 size

/-- The checks of R585 from 2 on; in recovery only 2 and 4 (R597). `state` is the state in which the operation is allowed. -/
def State.updateChecks (s : State) (state : Nat) : Option Nat :=
  let recovery := s.boot.stage == .recovery
  if s.n Obj.updateState 0 != state then some 0xD3
  else if !recovery && s.n Obj.twinRole 0 = 1 && s.n Obj.twinReadiness 0 != 1 then some 0xD0
  else if 1000 < s.i Obj.junctionTemp 0 || (List.range 8).any fun k => s.i Obj.supplyMargin k < 300 then some 0xD1
  else if !recovery && s.ce.salvos.any fun (p : Nat × Salvo) => p.2.state == .pending then some 0xD2
  else none

/-- A refusal of R585 raises UPDATE_REFUSED; OWNER_LOCKED is check 1. -/
def State.updateRefuse (s : State) (code : Nat) : Written :=
  let w := s.updateNo code
  (w.1, w.2.raise Ev.updateRefused code)

/-- The slot that an update of a kind writes: the one that is not active, or in recovery the Upland slot that failed last
(R586, R597). -/
def State.targetSlot (s : State) (kind : Nat) : Nat :=
  if kind = 1 then 1 - s.up.ctl.patchActive
  else match s.boot.stage, s.up.ctl.failed with
    | .recovery, some k => k
    | _, _ => 1 - s.up.ctl.uplandActive

/-- UpdateBegin (R585, R586): the target slot is erased and the window opened over it. -/
def State.updateBegin (s : State) (session kind : Nat) : Written :=
  match s.updateChecks 0 with
  | some c => s.updateRefuse c
  | none =>
    let slot := s.targetSlot kind
    let base := slotBase kind slot
    let t := (s.erase base (slotSize kind)).setWindow base (slotSize kind)
    let t := { t with up := { t.up with kind := kind, slot := slot, session := session } }
    ((t.setN Obj.updateState 0 1).setN Obj.updateReceived 0 0).updateOk

/-- UpdateData (R586, R587): the shipped Upland programs the data and reads it back. -/
def State.updateData (s : State) (session : Nat) (value : List Byte) : Written :=
  let off := fromBe (value.take 4)
  let b := value.drop 4
  let base := slotBase s.up.kind s.up.slot
  if s.n Obj.updateState 0 != 1 || s.up.session != session then s.updateNo 0xD3
  else if off != s.n Obj.updateReceived 0 then s.updateNo 0xD4
  else if imageLimit s.up.kind < off + b.length then s.updateNo 0xD5
  else
    let t := s.program (base + off) b
    if t.flashBytes (base + off) b.length != b then
      ((t.setWindow 0 0).setN Obj.updateState 0 0).updateNo 0xDA
    else (t.setN Obj.updateReceived 0 (off + b.length)).updateOk

/-- UpdateCommit (R588): the image is checked, and is STAGED or dropped. -/
def State.updateCommit (s : State) (session : Nat) : Written :=
  if s.n Obj.updateState 0 != 1 || s.up.session != session then s.updateNo 0xD3
  else
    let t := s.setWindow 0 0
    let base := slotBase t.up.kind t.up.slot
    let fault := if t.headerOk t.up.kind base && t.imageLength base != t.n Obj.updateReceived 0 then some 0xD6
      else t.imageFault t.up.kind base (t.boot.stage == .recovery)
    match fault with
    | some c => (t.setN Obj.updateState 0 0).updateNo c
    | none =>
      let t := (t.setN Obj.stagedVersion 0 (t.imageVersion base)).setN Obj.stagedSecurityVersion 0 (t.imageSecurity base)
      ((t.setN Obj.updateState 0 3).raise Ev.updateStaged t.up.kind).updateOk

/-- UpdateAbort (R584): allowed while RECEIVING or STAGED. -/
def State.updateAbort (s : State) : Written :=
  let st := s.n Obj.updateState 0
  if st = 1 || st = 3 then ((s.setWindow 0 0).setN Obj.updateState 0 0).updateOk else s.updateNo 0xD3

/-- UpdateActivate (R589, R597): boot control names the staged slot as trial and the active one as prior; in recovery the
prior is the other slot where its image is accepted. The restart follows the response. -/
def State.updateActivate (s : State) : Written :=
  match s.updateChecks 3 with
  | some c => s.updateRefuse c
  | none =>
    let active := if s.up.kind = 1 then s.up.ctl.patchActive else s.up.ctl.uplandActive
    let recovery := s.boot.stage == .recovery
    let prior := if !recovery then some active else if s.accepted s.up.kind (1 - s.up.slot) then some (1 - s.up.slot) else none
    let t := { s with up := { s.up with
      ctl := { s.up.ctl with
        trial := some (s.up.kind, s.up.slot)
        prior := prior
        notConfirmed := false
        recover := false }
      windowLength := s.n Obj.confirmWindow 0
      activating := true } }
    t.updateOk

/-! ## Trial and confirmation (R590 to R593) -/

/-- UpdatePolicy: 1 is ROM_RECOVERY. -/
def State.romRecovery (s : State) : Bool := s.n Obj.updatePolicy 0 == 1

/-- HealthConfirm TRUE (R591): inside the window the trial image is confirmed; outside a trial nothing happens. -/
def State.confirm (s : State) : State :=
  match s.up.ctl.trial, s.up.windowEnds with
  | some (kind, slot), some e =>
    if e < s.now then s
    else
      let sec := s.imageSecurity (slotBase kind slot)
      let t := { s with up := { s.up with
        ctl := { s.up.ctl with
          patchActive := if kind = 1 then slot else s.up.ctl.patchActive
          uplandActive := if kind = 2 then slot else s.up.ctl.uplandActive
          trial := none
          prior := none }
        rollback := max s.up.rollback sec
        windowEnds := none
        trialRuns := false } }
      ((t.setN Obj.storeHeldSlot 0 2).setN Obj.updateState 0 0).raise Ev.updateConfirmed kind
  | _, _ => s

/-- The four conditions under which the shipped Upland confirms itself (R592). -/
def State.selfConfirms (s : State) : Bool :=
  s.boot.started && s.n Obj.healthState 0 != 2 && s.st.loaded.isSome &&
    s.il.sessions.any fun p => decide (p.2.openNow + 10000000000 ≤ s.now)

/-- A trial has failed: boot control makes the prior slot active and names the trial slot no longer. Without a prior slot the
next start finds what it can (R583). -/
def BootControl.failTrial (c : BootControl) : BootControl :=
  match c.trial with
  | some (kind, slot) =>
    { c with
      patchActive := if kind = 1 then c.prior.getD c.patchActive else c.patchActive
      uplandActive := if kind = 2 then c.prior.getD c.uplandActive else c.uplandActive
      trial := none
      prior := none
      failed := if kind = 2 then some slot else c.failed }
  | none => c

/-- A trial fails and the device restarts for it: to the prior slot with cause FALLBACK, or into recovery (R593). -/
def State.trialRestart (s : State) : State :=
  let rec_ := s.romRecovery
  let t := { s with up := { s.up with
    ctl := { s.up.ctl.failTrial with recover := rec_, notConfirmed := !rec_ }
    trialRuns := false } }
  t.hardRestart 3

/-- UPDATE_NOT_CONFIRMED (R593): the window has expired. -/
def execUpdateNotConfirmed (dt : Nat) (s : State) : Result :=
  actIf dt s (fun t => t.up.ctl.trial.isSome && (t.up.windowEnds.elim false fun e => e ≤ t.now)) fun t =>
    if t.romRecovery then t.trialRestart
    else
      let kind := t.up.ctl.trial.elim 0 fun (p : Nat × Nat) => p.1
      let u := { t with up := { t.up with
        ctl := { t.up.ctl.failTrial with notConfirmed := true }
        windowEnds := none
        trialRuns := false } }
      (u.setN Obj.updateState 0 0).raise Ev.updateNotConfirmed kind

/-- ConfirmRemaining in seconds, rounded up (R590). -/
def State.confirmLeft (s : State) : Nat :=
  match s.up.ctl.trial, s.up.windowEnds with
  | some _, some e => ceilDiv (e - s.now) 1000000000
  | _, _ => 0

/-- The newest 64 records of the flash journal (R599). -/
def State.updateJournalBytes (s : State) : List Byte := (s.up.journal.take 64).flatMap JRec.bytes

end Sys2Proof.Machine
end

