-- ==== Sys2Proof/Machine/Upland.lean ====
section
/-!
DEFINITION. Upland's faults and restarts, and its heartbeat (R530).
-/
namespace Sys2Proof.Machine

/-- TMW_HB_AGE in milliseconds (R527, R530): it counts while Upland runs after its first HEARTBEAT. -/
def State.hbAge (s : State) : Nat :=
  if s.boot.uplandRuns then s.boot.heartbeatAt.elim 0 fun a => (s.now - a) / 1000000 else 0

/-- Scree stops with Upland (R530). -/
def State.stopScree (s : State) : State :=
  let t := { s with scr := {} }
  (t.setRegBit 0x40010000 0 false).setRegBit 0x40010004 0 false

/-- Bedrock restarts Upland alone (R530): cause, program counter and data address. The third restart within 600 s, and one
in a trial (R593), restart the device. -/
def State.uplandRestart (s : State) (cause pc addr : Nat) : State :=
  let t := s.stopScree.ctlStop
  let t := t.endSessions none
  let t := (t.setRegN 0x400600A0 cause).setRegN 0x400600A4 pc
  let t := t.setRegN 0x400600A8 (if 2 ≤ cause && cause ≤ 4 then addr else 0)
  let t := (t.bumpReg 0x40060090).raise Ev.uplandFault cause
  let recent := t.now :: t.boot.uplandRestarts.filter fun a => t.now < a + 600000000000
  let t := { t with
    il := { t.il with ctlUp := false, challenges := [] }
    gate := { ptpSec := t.gate.ptpSec, timerStart := t.gate.timerStart, nextTicket := t.gate.nextTicket }
    boot := { t.boot with
      uplandRuns := false
      uplandAt := t.now
      heartbeatAt := none
      heartbeatLate := false
      uplandRestarting := true
      uplandRestarts := recent } }
  if t.up.ctl.trial.isSome && t.up.trialRuns then t.trialRestart
  else if 3 ≤ recent.length then t.hardRestart 4
  else t

/-- UPLAND_FAULT (R530): causes 1 FETCH to 6 PRIVILEGED. -/
def execUplandFault (dt cause pc addr : Nat) (s : State) : Result :=
  actIf dt s (fun t => t.boot.uplandRuns && 1 ≤ cause && cause ≤ 6) fun t => t.uplandRestart cause pc addr

/-- UPLAND_HEARTBEAT_LATE (R530): TMW_HB_AGE has reached 500 ms. -/
def execUplandHeartbeatLate (dt : Nat) (s : State) : Result :=
  actIf dt s (fun t => !t.boot.heartbeatLate && 500 ≤ t.hbAge) fun t =>
    { t with boot := { t.boot with heartbeatLate := true } }.raise Ev.uplandHeartbeatLate 0

/-- HEARTBEAT_TIMEOUT (R530): TMW_HB_AGE has reached 1,000 ms, or 3,000 ms have passed since Upland was entered without a
first HEARTBEAT. -/
def execHeartbeatTimeout (dt : Nat) (s : State) : Result :=
  actIf dt s (fun t => t.boot.uplandRuns && match t.boot.heartbeatAt with
      | some a => decide (a + 1000000000 ≤ t.now)
      | none => decide (t.boot.uplandAt + 3000000000 ≤ t.now)) fun t => t.uplandRestart 7 0 0

/-- A HEARTBEAT (R523, R530): the first one after a restart raises UPLAND_RESTARTED, and the first one of a trial opens the
confirmation window (R590). -/
def State.heartbeat (s : State) : State :=
  if !s.boot.uplandRuns then s
  else
    let first := s.boot.heartbeatAt.isNone
    let t := { s with boot := { s.boot with heartbeatAt := some s.now, heartbeatLate := false } }
    let t := if first && t.boot.uplandRestarting then
        { t with boot := { t.boot with uplandRestarting := false } }.raise Ev.uplandRestarted 0
      else t
    match t.up.ctl.trial with
    | some (kind, _) =>
      if t.up.trialRuns && t.up.windowEnds.isNone then
        { t with up := { t.up with windowEnds := some (t.now + 1000000000 * t.up.windowLength) } }.raise
          Ev.updateTrialStarted kind
      else t
    | none => t

end Sys2Proof.Machine
end

