-- ==== Sys2Proof/Machine/Bus.lean ====
section
/-!
DEFINITION. The helper registers as software meets them (R7, R517, R527, R577, R600): writes with their effects, reads,
the timers, the flash controller, and Col's refusals (R541).
-/
namespace Sys2Proof.Machine

/-! ## Col's map (R533, R534) and refusals (R541) -/

/-- The target of a bus address: 0 Bedrock SRAM, 1 Upland SRAM, 2 registers, 3 HBM, 4 flash, 5 PCIe. -/
def colTarget (a : Nat) : Option Nat :=
  if 0x08000000 ≤ a && a < 0x08040000 then some 0
  else if 0x10000000 ≤ a && a < 0x10800000 then some 1
  else if (0x40000000 ≤ a && a < 0x40090000) || (0x40100000 ≤ a && a < 0x50000000) then some 2
  else if 0x1000000000 ≤ a && a < 0x3400000000 then some 3
  else if 0x0800000000 ≤ a && a < 0x0804000000 then some 4
  else if 0x4000000000 ≤ a && a < 2 ^ 48 then some 5
  else none

/-- The targets that a master reaches (R533). -/
def colReach (master : Nat) : List Nat :=
  match master with
  | 0 => [0, 1, 2, 3, 4, 5]
  | 1 => [1, 2, 3, 4]
  | 2 => [0, 1, 3]
  | 3 => [1]
  | 4 => [0, 3, 5]
  | 5 => [0, 3]
  | _ => []

/-- Whether an untrusted transaction of a master may act (R516 to R519): not on Bedrock's memory and registers, on HBM only
inside the Upland region, and on the flash only as a read of Scree. -/
def untrustedOk (master target a n : Nat) (write : Bool) : Bool :=
  let base := 0x1000000000 + 0x10000000 * Config.hbmRegion
  match target with
  | 1 => true
  | 2 => a + n ≤ 0x40090000
  | 3 => base ≤ a && a + n ≤ base + 0x100000000
  | 4 => master == 1 && !write
  | _ => false

/-- A Cairn address in the HBM aperture as a bus address (R534). -/
def State.busAddr (s : State) (master a : Nat) : Nat :=
  if master = 0 && 0x90000000 ≤ a && a < 0xA0000000 then
    0x1000000000 + 0x10000000 * s.regField 0x40020030 0 9 + (a - 0x90000000)
  else a

/-- The target of a transaction, or the reason of its refusal with the target it names: 0 DECODE (no target), 1 TRUST. -/
def colCheck (master a n : Nat) (write trusted : Bool) : Nat ⊕ Nat × Nat :=
  match colTarget a with
  | none => .inr (0, 7)
  | some t =>
    if !(colReach master).contains t || colTarget (a + n - 1) != some t then .inr (0, t)
    else if !trusted && !untrustedOk master t a n write then .inr (1, t)
    else .inl t

/-- A refusal (R541): the first one is latched until VALID is cleared. -/
def State.colRefuse (s : State) (master target reason a : Nat) (write : Bool) : State :=
  let t := if bit (s.regN 0x40020048) 31 then s
    else ((s.setRegN 0x40020040 (a % 2 ^ 32)).setRegN 0x40020044 (a / 2 ^ 32 % 65536)).setRegN 0x40020048
      (master + 16 * target + 256 * b2n write + 1024 * reason + 2 ^ 31)
  let t := ((t.bumpReg 0x4002004C).bump Obj.colRefused master).setRegBit 0x40020050 0 true
  t.raiseLimited Ev.colAccessRefused 0 master

/-- A refusal of Cairn also faults Upland (R530, R541): LOAD or STORE. The program counter is the program's own: a free
value. -/
def State.cairnRefused (s : State) (target reason a : Nat) (write : Bool) : State :=
  let (pc, t) := (s.colRefuse 0 target reason a write).draw
  if t.boot.uplandRuns then t.uplandRestart (if write then 3 else 2) (pc % 2 ^ 32) (a % 2 ^ 32) else t

/-- A write of COL_APBASE (R542): a base whose window leaves the Upland region is ignored. -/
def State.apbaseWrite (s : State) (value : Nat) (trusted : Bool) : State :=
  let b := field value 0 9
  if trusted || (Config.hbmRegion ≤ b && b ≤ Config.hbmRegion + 15) then s.setRegN 0x40020030 b
  else (((s.setRegBit 0x40020034 0 true).setRegBit 0x40020050 1 true)).raise Ev.colApertureRefused 0

/-- COL_APERTURE_REFUSED (R542): a write of COL_APBASE. -/
def execColApertureRefused (dt value : Nat) (trusted : Bool) (s : State) : Result :=
  act dt s fun t => t.apbaseWrite value trusted

/-- COL_FENCE (R540): the model completes Cairn's writes in order, so nothing is left to wait for. -/
def execColFence (dt _value : Nat) (s : State) : Result := act dt s fun t => t

/-! ## Timers (R527) -/

/-- A register of a timer. -/
def tmw (t off : Nat) : Nat := 0x40060000 + 0x10 * t + off

/-- Ticks of a timer since it started: the fabric clock of 297 MHz divided by its prescaler. -/
def State.timerTicks (s : State) (t : Nat) : Nat :=
  match s.gate.timerStart.lookup t with
  | some (at_, _) => (s.now - at_) * 297 / 1000 / 2 ^ s.regField (tmw t 0x18) 4 7
  | none => 0

/-- A write of TMW_CTRL: a bit that becomes 1 runs its timer from LOAD, and one that becomes 0 stops it where it stands. -/
def State.timerCtrl (s : State) (value : Nat) : State :=
  (List.range 4).foldl (fun u t =>
    let was := bit (s.regN 0x40060000) t
    let is := bit value t
    if is && !was then
      { u with gate := { u.gate with timerStart := put u.gate.timerStart t (u.now, u.regN (tmw t 0x10)) } }
    else if !is && was then
      match u.gate.timerStart.lookup t with
      | some (_, load) =>
        { u with gate := { u.gate with timerStart := del u.gate.timerStart t } }.setRegN (tmw t 0x14) (load - u.timerTicks t)
      | none => u
    else u) (s.busWrite 0x40060000 value)

/-- TMW_TIMER_EXPIRY (R527): a timer has counted down to 0. -/
def execTmwTimerExpiry (dt timer : Nat) (s : State) : Result :=
  actIf dt s (fun t => timer < 4 && ((t.gate.timerStart.lookup timer).elim false fun x => x.2 ≤ t.timerTicks timer)) fun t =>
    let u := t.setRegBit 0x40060070 timer true
    let g := u.gate.timerStart
    if bit (u.regN (tmw timer 0x18)) 0 then
      { u with gate := { u.gate with timerStart := put g timer (u.now, u.regN (tmw timer 0x10)) } }
    else { u with gate := { u.gate with timerStart := del g timer } }.setRegN (tmw timer 0x14) 0

/-- Whether the alarm's time is reached: SEC is the low 32 bits of the seconds. -/
def State.alarmDue (s : State) : Bool :=
  let sec := s.ptp / 1000000000 % 2 ^ 32
  let ns := s.ptp % 1000000000
  let a := s.regN 0x40060050
  a < sec || (a == sec && s.regN 0x40060054 ≤ ns)

/-- A write of TMW_ALARM_CTRL: ARM written past the alarm's time sets ALARM_LATE and ALARM. -/
def State.alarmArm (s : State) (value : Nat) : State :=
  if bit value 0 && s.alarmDue then
    ((s.setRegBit 0x40060070 4 true).setRegBit 0x40060070 5 true).setRegBit 0x40060058 0 false
  else s.setRegBit 0x40060058 0 (bit value 0)

/-- TMW_ALARM_ARM (R527). -/
def execTmwAlarmArm (dt value : Nat) (s : State) : Result := act dt s fun t => t.alarmArm value

/-- TMW_ALARM_FIRE (R527): the counter reaches the alarm's time. -/
def execTmwAlarmFire (dt : Nat) (s : State) : Result :=
  actIf dt s (fun t => bit (t.regN 0x40060058) 0 && t.alarmDue) fun t =>
    (t.setRegBit 0x40060070 4 true).setRegBit 0x40060058 0 false

/-- A read of TMW_PTP_NS latches the seconds. -/
def State.ptpLatch (s : State) : Nat × State :=
  let sec := s.ptp / 1000000000
  let ns := s.ptp % 1000000000
  let t := { s with gate := { s.gate with ptpSec := sec } }
  (ns, ((t.setRegN 0x40060060 ns).setRegN 0x40060064 (sec % 2 ^ 32)).setRegN 0x40060068 (sec / 2 ^ 32 % 65536))

/-- TMW_PTP_LATCH (R527). -/
def execTmwPtpLatch (dt : Nat) (s : State) : Result :=
  act dt s fun t => let r := t.ptpLatch; r.2.emit (.readback 0x40060060 r.1)

/-- A kick of the watchdog (R527, R529): Bedrock's alone. -/
def State.wdtKick (s : State) (trusted : Bool) : State :=
  if trusted && s.boot.wdtRunning then { s with boot := { s.boot with wdtAt := s.now } } else s

/-- WDT_KICK (R529). -/
def execWdtKick (dt : Nat) (trusted : Bool) (_key : Nat) (s : State) : Result := act dt s fun t => t.wdtKick trusted

/-! ## The flash controller (R517, R579, R600) -/

/-- Whether a range of the flash holds images or is reserved; the bytes of boot control, store and journal are Bedrock's
(notes/assumptions/34.md). -/
def flashPlain (a n : Nat) : Bool := 0x10000 ≤ a && a + n ≤ 0x03000000

/-- Bytes of the flash as a reader meets them. -/
def State.flashRead (s : State) (a n : Nat) : List Byte × State :=
  if flashPlain a n then (s.flashBytes a n, s) else s.drawBytes n

/-- Whether a range lies in the window that Bedrock opens. -/
def State.inWindow (s : State) (a n : Nat) : Bool :=
  let base := s.regN 0x40080010
  let size := s.regN 0x40080014
  size != 0 && base ≤ a && a + n ≤ base + size

/-- A command of the controller (R600): outside the window a program or erase does nothing and sets WIN_REJECT. A PROGRAM
across a 256-byte boundary is rejected too (notes/assumptions/36.md). -/
def State.osfGo (s : State) (op : Nat) : State :=
  let addr := s.regField 0x40080004 0 25
  let len := s.regField 0x40080008 0 8
  let job : OsfJob := match op with
    | 3 => ⟨3, addr / 4096 * 4096, 4096⟩
    | 4 => ⟨4, 65536 * (addr / 65536), 65536⟩
    | k => ⟨k, addr, len⟩
  if s.osf.isSome || op = 0 || 4 < op then s
  else if op = 1 || (s.inWindow job.addr job.len && (op != 2 || addr % 256 + len ≤ 256)) then
    ({ s with osf := some job }.setRegBit 0x4008000C 0 true).setRegBit 0x40080000 31 true
  else s.setRegBit 0x4008000C 2 true

/-- A write of OSF_CMD. -/
def State.osfCmd (s : State) (value : Nat) : State :=
  let t := s.setRegField 0x40080000 0 2 value
  if bit value 31 then t.osfGo (field value 0 2) else t

/-- The buffer of the controller. -/
def State.osfBuf (s : State) (n : Nat) : List Byte :=
  ((List.range 64).flatMap fun k => leBytes 4 (s.regN (0x40080100 + 4 * k))).take n

/-- Bytes put into the buffer. -/
def State.setOsfBuf (s : State) (b : List Byte) : State :=
  let all := b ++ (s.osfBuf 256).drop b.length
  (List.range 64).foldl (fun t k => t.setRegN (0x40080100 + 4 * k) (fromLe ((all.drop (4 * k)).take 4))) s

/-- OSF_READ (R600). -/
def execOsfRead (dt : Nat) (s : State) : Result := act dt s fun t => t.osfCmd (0x80000001)

/-- OSF_PROGRAM (R600). -/
def execOsfProgram (dt : Nat) (s : State) : Result := act dt s fun t => t.osfCmd (0x80000002)

/-- OSF_ERASE_4K (R600). -/
def execOsfErase4k (dt : Nat) (s : State) : Result := act dt s fun t => t.osfCmd (0x80000003)

/-- OSF_ERASE_64K (R600). -/
def execOsfErase64k (dt : Nat) (s : State) : Result := act dt s fun t => t.osfCmd (0x80000004)

/-- OSF_DONE (R600): the command has acted. A program that the flash does not hold reads back otherwise: what it then holds
is a free value. -/
def execOsfDone (dt : Nat) (verifyError : Bool) (s : State) : Result :=
  act dt s fun t =>
    match t.osf with
    | none => t
    | some j =>
      let u := match j.op with
        | 1 => let r := t.flashRead j.addr j.len; r.2.setOsfBuf r.1
        | 2 =>
          let b := t.osfBuf j.len
          let r := if verifyError then t.drawBytes j.len else (b, t)
          let v := r.2.program j.addr r.1
          if verifyError || v.flashBytes j.addr j.len != b then v.setRegBit 0x4008000C 3 true else v
        | _ => t.erase j.addr j.len
      (({ u with osf := none }.setRegBit 0x4008000C 0 false).setRegBit 0x4008000C 1 true).setRegBit 0x40080000 31 false

/-! ## Register reads and writes -/

/-- A register as a read returns it, Scree's FIFO reads apart: fields that follow from the state beside the registers. -/
def State.regView (s : State) (addr : Nat) : Nat :=
  let head := s.ev.fifo.head?
  match addr with
  | 0x40000004 => setField (s.regN addr) 0 10 s.ev.fifo.length
  | 0x40000010 => head.elim 0 fun r => r.source + 2 ^ 15 + 2 ^ 16 * (r.time / 1000000000 / 2 ^ 32 % 65536)
  | 0x40000014 => head.elim 0 (·.subject)
  | 0x40000018 => head.elim 0 fun r => r.time % 1000000000
  | 0x4000001C => head.elim 0 fun r => r.time / 1000000000 % 2 ^ 32
  | 0x400000C0 => s.regN addr + 256 * b2n s.ev.pin0.asserted + 512 * b2n s.ev.pin1.asserted
  | 0x400000C8 => s.ev.pin0.cause.elim 0 fun c => c + 2 ^ 31
  | 0x400000CC => s.ev.pin1.cause.elim 0 fun c => c + 2 ^ 31
  | 0x40060080 => b2n s.boot.wdtRunning + 2 * b2n s.boot.wdtExpired
  | 0x40060084 => if s.boot.wdtRunning then 100000 - min 100000 ((s.now - s.boot.wdtAt) / 1000) else 100000
  | 0x40060088 => min s.hbAge 0xFFFFFF
  | a =>
    if (List.range 4).any fun t => a == tmw t 0x14 then
      let t := (a - 0x40060014) / 0x10
      match s.gate.timerStart.lookup t with
      | some (_, load) => load - s.timerTicks t
      | none => s.regN a
    else s.regN a

/-- A read of a register on the bus, with what it does. -/
def State.busRead (s : State) (addr : Nat) : Nat × State :=
  if addr = 0x40060060 then s.ptpLatch
  else if 0x40050100 ≤ addr && addr < 0x40050900 && addr % 0x100 = 0x44 then s.rxfifoPop ((addr - 0x40050100) / 0x100)
  else if 0x40050100 ≤ addr && addr < 0x40050900 && addr % 0x100 = 0x18 then
    let p := (addr - 0x40050100) / 0x100
    let x := s.tp p
    (x.count % 2 ^ 32, s.setRegN (tpReg p 0x1C) (x.count / 2 ^ 32 + if x.countPinned then 2 ^ 31 else 0))
  else (s.regView addr, s)

/-- The address at which a register's bits can be written at all (R512): ring bases only while their direction is off. -/
def State.regLocked (s : State) (addr : Nat) : Bool :=
  let port := (addr - 0x40030000) / 0x10000
  let off := (addr - 0x40030000) % 0x10000
  0x40030000 ≤ addr && addr < 0x40050000 &&
    (((off == 0x100 || off == 0x104) && bit (s.regN (cmac port 0)) 1) ||
      (0x180 ≤ off && off < 0x200 && off % 0x10 < 8 && bit (s.regN (cmac port 0)) 2))

/-- A write of a helper register with its effects (R7, R517); Scree's own registers stand in Scree.lean. -/
def State.busReg (s : State) (addr value : Nat) (trusted : Bool) : State :=
  let v := value % 2 ^ 32
  if !trusted && ((0x40070000 ≤ addr && addr < 0x40080000) || addr = 0x400600F0) then s
  else if s.regLocked addr then s
  else if 0x40050100 ≤ addr && addr < 0x40050900 then
    let p := (addr - 0x40050100) / 0x100
    match addr % 0x100 with
    | 0x00 => s.tarnCtrlWrite p v
    | 0x04 => s.tarnMaskWrite p false v false
    | 0x08 => s.tarnMaskWrite p true v false
    | 0x40 => s.clearRegs addr v
    | 0x48 => s.txfifoPush p v
    | _ => s.busWrite addr v
  else match addr with
    | 0x4000000C => s.evPop
    | 0x40000020 => s.evSwraise v
    | 0x40000028 => s.clearRegs addr v
    | 0x400000C4 => s.evPinAck v
    | 0x40020000 => s
    | 0x40020010 => s.busWrite addr (min (v % 16) 13)
    | 0x40020014 => s.busWrite addr (min (v % 16) 13)
    | 0x4002001C => s.busWrite addr (min (v % 16) 13)
    | 0x40020030 => s.apbaseWrite v trusted
    | 0x4002007C => s.clearRegs addr v
    | 0x40030000 => s.cmacCtrl 0 v
    | 0x40040000 => s.cmacCtrl 1 v
    | 0x4003022C => s.clearRegs addr v
    | 0x4004022C => s.clearRegs addr v
    | 0x40050008 => s.tarnGoWrite v
    | 0x40060000 => s.timerCtrl v
    | 0x40060058 => s.alarmArm v
    | 0x400600F0 => s.wdtKick trusted
    | 0x40080000 => s.osfCmd v
    | _ => s.busWrite addr v

end Sys2Proof.Machine
end

