-- ==== Sys2Proof/Machine/Scree.lean ====
section
/-!
DEFINITION. Data on Col (R533 to R541) and the Scree DMA engine (R544 to R552). A descriptor's bursts move at the command
that ends or interrupts it; those of a descriptor that names a peripheral also move one at each of the peripheral's
requests (notes/assumptions/37.md).
-/
namespace Sys2Proof.Machine

/-! ## Data on Col -/

/-- The words of the registers at a bus address, as many as n bytes meet, each read with what it does (R7). -/
def State.loadRegs (s : State) (a : Nat) : Nat → List Byte × State
  | 0 => ([], s)
  | k + 1 =>
    let r := s.busRead a
    let rest := r.2.loadRegs (a + 4) k
    (leBytes 4 r.1 ++ rest.1, rest.2)

/-- n bytes read at a target. What a PCIe device answers is a free value. -/
def State.busLoad (s : State) (target a n : Nat) : List Byte × State :=
  match target with
  | 2 =>
    let r := s.loadRegs (a / 4 * 4) ((a % 4 + n + 3) / 4)
    ((r.1.drop (a % 4)).take n, r.2)
  | 4 => s.flashRead (a - 0x0800000000) n
  | 5 => s.drawBytes n
  | _ => (s.memBytes a n, s)

/-- The registers of Scree (R552). -/
def scrRg (off : Nat) : Nat := 0x40010000 + off

/-- A register of channel n. -/
def scrCh (n off : Nat) : Nat := 0x40010100 + 0x20 * n + off

/-- A register written by a master of Col. Scree's own registers take such a write by their access codes alone. -/
def State.storeReg (s : State) (a v : Nat) (trusted : Bool) : State :=
  if 0x40010000 ≤ a && a < 0x40020000 then s.busWrite a v else s.busReg a v trusted

/-- Bytes written to registers, a word at a time. The bytes of a word that a write does not carry are free values. -/
def State.storeRegs (s : State) (a : Nat) (trusted : Bool) : List (List Byte) → State
  | [] => s
  | w :: rest => (s.storeReg a (fromLe w) trusted).storeRegs (a + 4) trusted rest

/-- Bytes written at a target; the flash takes none (R534). -/
def State.busStore (s : State) (target a : Nat) (trusted : Bool) (b : List Byte) : State :=
  match target with
  | 2 =>
    let pre := s.drawBytes (a % 4)
    let whole := if a % 4 = 0 then b else pre.1 ++ b
    let t := if a % 4 = 0 then s else pre.2
    let post := t.drawBytes (3 - (whole.length + 3) % 4)
    let full := if whole.length % 4 = 0 then (whole, t) else (whole ++ post.1, post.2)
    full.2.storeRegs (a / 4 * 4) trusted (chunksOf 4 full.1.length full.1)
  | 4 => s
  | 5 => s.emit (.col 5 b)
  | _ => s.setMem a b

/-! ## Descriptors (R544 to R546) -/

/-- A word of a descriptor. -/
def dw (words : List Nat) (k : Nat) : Nat := words.getD k 0

/-- The 48-bit address in words k and k + 1. -/
def dAddr (words : List Nat) (k : Nat) : Nat := dw words k + 2 ^ 32 * field (dw words (k + 1)) 0 15

/-- LEN. -/
def dLen (w : List Nat) : Nat := field (dw w 4) 0 23

/-- INDEX. -/
def dIndex (w : List Nat) : Nat := field (dw w 5) 12 13

/-- The bytes of an element; without an index the transfer is one element. -/
def dElem (w : List Nat) : Nat := if dIndex w = 0 then dLen w else field (dw w 5) 0 11 + 1

/-- The bytes that a descriptor moves. -/
def dTotal (w : List Nat) : Nat := if dIndex w = 0 then dLen w else dLen w * dElem w

/-- SWAP. -/
def dSwap (w : List Nat) : Nat := field (dw w 8) 0 1

/-- PERIPH. -/
def dPeriph (w : List Nat) : Nat := field (dw w 8) 6 10

/-- SRC_FIXED. -/
def dSrcFixed (w : List Nat) : Bool := bit (dw w 8) 4

/-- DST_FIXED. -/
def dDstFixed (w : List Nat) : Bool := bit (dw w 8) 5

/-- Whether a descriptor ends with PARAM before it moves anything (R546, R547); a LEN of 0 and INDEX 3 lie outside R545. -/
def paramFault (w : List Nat) : Bool :=
  let fixed := dSrcFixed w || dDstFixed w
  dLen w == 0 || dIndex w == 3 ||
    (dSrcFixed w && (dLen w % 4 != 0 || dAddr w 0 % 4 != 0)) || (dDstFixed w && (dLen w % 4 != 0 || dAddr w 2 % 4 != 0)) ||
    (fixed && dIndex w != 0) || (dSrcFixed w && dDstFixed w) ||
    (dSwap w == 1 && dElem w % 2 != 0) || (2 ≤ dSwap w && dElem w % 4 != 0)

/-- The input position of an output position within an element (R547). -/
def swapAt (mode i : Nat) : Nat :=
  match mode with
  | 1 => i / 2 * 2 + (1 - i % 2)
  | 2 => i / 4 * 4 + (3 - i % 4)
  | 3 => i / 4 * 4 + (i + 2) % 4
  | _ => i

/-- HEAD of a channel. -/
def State.scrHead (s : State) (n : Nat) : Nat := s.regField (scrCh n 0x0C) 0 7

/-- TAIL of a channel. -/
def State.scrTail (s : State) (n : Nat) : Nat := s.regField (scrCh n 0x10) 0 7

/-- The address of a channel's next descriptor. -/
def State.scrDesc (s : State) (n : Nat) : Nat :=
  s.regN (scrCh n 0) + 2 ^ 32 * s.regField (scrCh n 4) 0 15 + 64 * s.scrHead n

/-- HEAD advanced past a descriptor. -/
def State.scrAdvance (s : State) (n : Nat) : State :=
  s.setRegN (scrCh n 0x0C) ((s.scrHead n + 1) % max 1 (s.regField (scrCh n 8) 0 8))

/-- A descriptor's sixteen words, or the refusal of its fetch. -/
def State.scrFetch (s : State) (n : Nat) : (List Nat × State) ⊕ (Nat × Nat) :=
  match colCheck 1 (s.scrDesc n) 64 false false with
  | .inr r => .inr r
  | .inl t =>
    let b := s.busLoad t (s.scrDesc n) 64
    .inl ((chunksOf 4 16 b.1).map fromLe, b.2)

/-- Whether a channel is ready (R544): enabled, with work, and its next descriptor's peripheral, if it names one, asserts its
request. -/
def State.scrReady (s : State) (n : Nat) : Bool :=
  bit (s.regN (scrCh n 0x14)) 0 && s.scrHead n != s.scrTail n &&
    match s.scrFetch n with
    | .inl (w, _) => dPeriph w == 0 || s.periphRequest (dPeriph w)
    | .inr _ => true

/-- Scree writes words of a descriptor. -/
def State.scrWord (s : State) (n k v : Nat) : State :=
  let a := s.scrDesc n + 4 * k
  match colCheck 1 a 4 true false with
  | .inl t => s.busStore t a false (leBytes 4 v)
  | .inr _ => s

/-- Scree writes words 10 and 9 of the running descriptor (R549, R550). -/
def State.scrWrite (s : State) (n bytes code : Nat) (done : Bool) : State :=
  (s.scrWord n 10 bytes).scrWord n 9 (code % 256 + if done then 2 ^ 31 else 0)

/-- Whether an engine is halted. -/
def State.scrHalted (s : State) : Bool := bit (s.regN (scrRg 4)) 1

/-- The engine is halted by a channel's descriptor (R550). -/
def State.scrHalt (s : State) (n code : Nat) : State :=
  let t := { s with scr := { s.scr with run := none, removed := false } }
  let st := setField (setField (setField (setField (t.regN (scrRg 4)) 0 0 0) 1 1 1) 8 11 n) 12 19 code
  let t := (t.setRegN (scrRg 4) st).setRegBit (scrRg 0x10) 16 true
  (t.bumpReg (scrRg 0x24)).raise Ev.scrHalted n

/-- The running descriptor stops at once with a code (R550); HEAD stays on it. -/
def State.scrFail (s : State) (code : Nat) : State :=
  match s.scr.run with
  | none => s
  | some r => (s.scrWrite r.channel r.moved code false).scrHalt r.channel code

/-! ## Bursts (R546 to R548) -/

/-- Bytes of the burst at a position: the element's end, 512-byte boundaries of sides that are not FIXED, and 16 beats of a
FIXED side, whose beats are never cut (notes/assumptions/53.md). -/
def burstLen (w : List Nat) (src dst off : Nat) : Nat :=
  let n := dElem w - off
  let n := if dSrcFixed w then min n 64 else min n (512 - (src + off) % 512)
  let n := if dDstFixed w then min n 64 else min n (512 - (dst + off) % 512)
  if dSrcFixed w || dDstFixed w then roundUp n 4 else n

/-- The offset that the index table gives an element; none where its read is refused. -/
def State.scrOffset (s : State) (w : List Nat) (k : Nat) : (Nat × State) ⊕ (Nat × Nat × Nat) :=
  let a := dAddr w 6 + 4 * k
  match colCheck 1 a 4 false false with
  | .inl t => let b := s.busLoad t a 4; .inl (fromLe b.1, b.2)
  | .inr (reason, target) => .inr (reason, target, a)

/-- A side of k beats of 4 bytes at one address. -/
def State.loadFixed (s : State) (target a : Nat) : Nat → List Byte × State
  | 0 => ([], s)
  | k + 1 =>
    let b := s.busLoad target a 4
    let rest := b.2.loadFixed target a k
    (b.1 ++ rest.1, rest.2)

/-- Beats written at one address. -/
def State.storeFixed (s : State) (target a : Nat) : List (List Byte) → State
  | [] => s
  | w :: l => (s.busStore target a false w).storeFixed target a l

/-- The bytes of a burst as they are written: read, then swapped within their element. -/
def State.burstData (s : State) (w : List Nat) (target src off n : Nat) : List Byte × State :=
  if dSrcFixed w then
    let b := s.loadFixed target src (n / 4)
    ((List.range n).map fun i => b.1.getD (swapAt (dSwap w) i) 0, b.2)
  else
    let lo := off / 4 * 4
    let hi := if dSwap w = 0 then off + n else min (dElem w) ((off + n + 3) / 4 * 4)
    let lo := if dSwap w = 0 then off else lo
    let b := s.busLoad target (src + lo) (hi - lo)
    ((List.range n).map fun i => b.1.getD (swapAt (dSwap w) (off + i) - lo) 0, b.2)

/-- One burst of the running descriptor: none where every byte has moved. `limit` ends a burst whose later beats meet an
error. A refused access ends the descriptor (R541, R550). -/
def State.scrBurst (s : State) (r : ScrRun) (limit : Nat) : State :=
  let w := r.words
  let k := if dIndex w = 0 then 0 else r.moved / dElem w
  let off := if dIndex w = 0 then r.moved else r.moved % dElem w
  let idx := if dIndex w = 0 then .inl (0, s) else s.scrOffset w k
  match idx with
  | .inr (reason, target, a) => (s.colRefuse 1 target reason a false).scrFail 3
  | .inl (o, s) =>
    let src := if dIndex w = 1 then dAddr w 0 + o else dAddr w 0 + k * if dIndex w = 2 then dElem w else 0
    let dst := if dIndex w = 2 then dAddr w 2 + o else dAddr w 2 + k * if dIndex w = 1 then dElem w else 0
    let n := burstLen w src dst off
    let ra := if dSrcFixed w then src else src + off
    let wa := if dDstFixed w then dst else dst + off
    match colCheck 1 ra (if dSrcFixed w then 4 else n) false false with
    | .inr (reason, target) => (s.colRefuse 1 target reason ra false).scrFail 1
    | .inl ts =>
      let d := s.burstData w ts src off n
      match colCheck 1 wa (if dDstFixed w then 4 else n) true false with
      | .inr (reason, target) => (d.2.colRefuse 1 target reason wa true).scrFail 2
      | .inl td =>
        let b := d.1.take limit
        let t := if dDstFixed w then d.2.storeFixed td wa (chunksOf 4 16 b) else d.2.busStore td wa false b
        { t with scr := { t.scr with run := some { r with moved := r.moved + b.length } } }

/-- Up to k bursts of the running descriptor, none of them past `most` bytes in all. -/
def State.scrBursts (s : State) (most : Nat) : Nat → State
  | 0 => s
  | k + 1 =>
    match s.scr.run with
    | none => s
    | some r => if min (dTotal r.words) most ≤ r.moved then s
      else (s.scrBurst r (most - r.moved)).scrBursts most k

/-- Whole bursts of the running descriptor, up to so many bytes in all. -/
def State.scrWhole (s : State) (most : Nat) : Nat → State
  | 0 => s
  | k + 1 =>
    match s.scr.run with
    | none => s
    | some r =>
      let t := s.scrBursts (dTotal r.words) 1
      match t.scr.run with
      | none => t
      | some x => if x.moved ≤ most && r.moved < x.moved then t.scrWhole most k else s

/-- Every byte that the running descriptor has left. -/
def State.scrRest (s : State) : State :=
  match s.scr.run with
  | none => s
  | some r => s.scrBursts (dTotal r.words) (dTotal r.words)

/-- Whether the running descriptor has moved every byte: its count is 0. -/
def ScrRun.counted (r : ScrRun) : Bool := dTotal r.words ≤ r.moved

/-- The running descriptor completes (R549): words 10 and 9, HEAD, and DONEn where IRQ is set. A late error of its last beat
leaves that beat's bytes undefined and halts the engine with BEAT_ERR (R550). -/
def State.scrComplete (s : State) (lateError : Bool) : State :=
  match s.scr.run with
  | none => s
  | some r =>
    let n := r.channel
    let w := r.words
    let k := (dTotal w - 1) / dElem w
    let n4 := if dDstFixed w then 4 else min 32 (dElem w)
    let dst := dAddr w 2 + (if dIndex w = 1 then k * dElem w else 0) + (dElem w - n4)
    let s := if !lateError then s
      else
        let o := if dIndex w = 2 then match s.scrOffset w k with
          | .inl (o, _) => o
          | .inr _ => 0 else 0
        let free := s.drawBytes n4
        let a := if dDstFixed w then dAddr w 2 else dst + o
        match colCheck 1 a n4 true false with
        | .inl t => free.2.busStore t a false free.1
        | .inr _ => free.2
    let t := (s.scrWrite n r.moved (if lateError then 5 else 0) true).scrAdvance n
    let t := { t with scr := { t.scr with run := none, lastDone := some n } }
    let t := (t.setRegBit (scrRg 4) 0 false).bumpReg (scrRg 0x20)
    let t := if bit (dw w 8) 3 then t.setRegBit (scrRg 0x10) n true else t
    if lateError then t.scrHalt n 5 else t

/-! ## Commands (R544, R548 to R552) -/

/-- SCR_TAIL_WRITE (R544). -/
def execScrTailWrite (dt channel value : Nat) (s : State) : Result :=
  act dt s fun t => if channel < 16 then t.busWrite (scrCh channel 0x10) value else t

/-- SCR_DESCRIPTOR_START (R544): the engine chooses the lowest-numbered ready channel. Scree's writes are complete in the
model, so a FENCE descriptor waits for nothing (R549). -/
def execScrDescriptorStart (dt : Nat) (s : State) : Result :=
  actIf dt s (fun t => bit (t.regN (scrRg 0)) 0 && !t.scrHalted && t.scr.run.isNone) fun t =>
    match (List.range 16).find? t.scrReady with
    | none => t
    | some n =>
      let t := { t with scr := { t.scr with lastDone := none } }
      let t := t.setRegN (scrRg 4) (setField (setField (t.regN (scrRg 4)) 0 0 1) 4 7 n)
      match t.scrFetch n with
      | .inr (reason, target) => (t.colRefuse 1 target reason (t.scrDesc n) false).scrHalt n 8
      | .inl (w, t) =>
        let t := { t with scr := { t.scr with run := some ⟨n, w, 0, none⟩ } }
        if paramFault w then t.scrFail 4
        else if dPeriph w = 0 then t
        else t.scrBursts (dTotal w) 1

/-- SCR_PERIPH_REQUEST (R321, R548): the request of a peripheral as its FIFO gives it; one that appears moves the running descriptor's
next burst, and one that is withdrawn holds it at the burst boundary. -/
def execScrPeriphRequest (dt periph : Nat) (asserted : Bool) (s : State) : Result :=
  actIf dt s (fun t => 1 ≤ periph && periph ≤ 16 && asserted == t.periphRequest periph && t.boot.stage != .rom) fun t =>
    match t.scr.run with
    | none => t
    | some r =>
      if dPeriph r.words != periph then t
      else if asserted then
        { t with scr := { t.scr with run := some { r with waitSince := none } } }.scrBursts (dTotal r.words) 1
      else if r.counted || r.waitSince.isSome then t
      else { t with scr := { t.scr with run := some { r with waitSince := some t.now } } }

/-- SCR_DESCRIPTOR_COMPLETE (R549). -/
def execScrDescriptorComplete (dt : Nat) (lateError : Bool) (s : State) : Result :=
  actIf dt s (fun t => t.scr.run.elim false fun r => r.waitSince.isNone && (dPeriph r.words == 0 || r.counted)) fun t =>
    t.scrRest.scrComplete lateError

/-- SCR_HALTED (R550): an error that comes from a target. A code 1 SRC_ERR, 2 DST_ERR or 3 IDX_ERR stops the running
descriptor after so many bytes (whole bursts for the errors of a read); 8 DESC_ERR is a fetch that fails. -/
def execScrHalted (dt code bytesDone : Nat) (s : State) : Result :=
  actIf dt s (fun t => !t.scrHalted) fun t =>
    match t.scr.run with
    | some r =>
      if code = 2 then
        let u := t.scrBursts (min bytesDone (dTotal r.words - 1)) (dTotal r.words)
        (u.colRefuse 1 ((colTarget (dAddr r.words 2)).getD 7) 2 (dAddr r.words 2) true).scrFail 2
      else if code = 1 || code = 3 then
        let whole := t.scrWhole (min bytesDone (dTotal r.words - 1)) (dTotal r.words)
        match whole.scr.run with
        | some _ =>
          let a := if code = 1 then dAddr r.words 0 else dAddr r.words 6
          (whole.colRefuse 1 ((colTarget a).getD 7) 2 a false).scrFail code
        | none => whole
      else t
    | none =>
      if code = 8 && bit (t.regN (scrRg 0)) 0 then
        match (List.range 16).find? t.scrReady with
        | some n => (t.colRefuse 1 ((colTarget (t.scrDesc n)).getD 7) 2 (t.scrDesc n) false).scrHalt n 8
        | none => t
      else t

/-- SCR_STALL (R548): the request has stayed withdrawn for SCR_STALL µs. -/
def execScrStall (dt : Nat) (s : State) : Result :=
  actIf dt s (fun t => t.scr.run.elim false fun r =>
      r.waitSince.elim false fun a => decide (a + t.regField (scrRg 0x18) 0 15 * 1000 ≤ t.now)) fun t => t.scrFail 6

/-- An abort of a channel (R551); a running descriptor moves `bursts` more bursts before its next boundary. -/
def State.scrAbort (s : State) (channel bursts : Nat) : State :=
  let drop := fun (t : State) => t.setRegN (scrCh channel 0x0C) (t.scrTail channel)
  let result := fun (t : State) (v : Nat) => t.setRegN (scrRg 0x0C) v
  match s.scr.run with
  | some r =>
    if r.channel != channel then
      drop (result s (if s.scr.lastDone = some channel then 2 else 3))
    else
      let t := s.scrBursts (dTotal r.words) bursts
      match t.scr.run with
      | none => result (drop { t with scr := { t.scr with removed := true } }) 3
      | some x =>
        if x.counted then result (drop (t.scrComplete false)) 2
        else
          let u := (t.scrWrite channel x.moved 7 false).setRegBit (scrRg 4) 0 false
          let u := { u with scr := { u.scr with run := none } }
          result (drop (u.setRegBit (scrRg 0x10) 17 true)) 1
  | none =>
    let hit := s.scrHalted && s.regField (scrRg 4) 8 11 = channel
    if hit then result (drop { s with scr := { s.scr with removed := true } }) 3
    else drop (result s (if s.scr.lastDone = some channel then 2 else 3))

/-- SCR_ABORT (R551). -/
def execScrAbort (dt channel bursts : Nat) (s : State) : Result :=
  actIf dt s (fun _ => channel < 16) fun t => t.scrAbort channel bursts

/-- CLEAR (R550): the engine runs again; SKIP passes the failed descriptor, which BEAT_ERR has already passed and an abort
has already removed. -/
def State.scrClear (s : State) (skip : Bool) : State :=
  if !s.scrHalted then s
  else
    let st := s.regN (scrRg 4)
    let n := field st 8 11
    let t := if skip && field st 12 19 != 5 && !s.scr.removed then s.scrAdvance n else s
    { t with scr := { t.scr with removed := false } }.setRegN (scrRg 4) (setField (setField (setField st 1 1 0) 8 11 0) 12 19 0)

/-- SCR_CLEAR (R550). -/
def execScrClear (dt : Nat) (skip : Bool) (s : State) : Result := act dt s fun t => t.scrClear skip

/-- CHn_CFG.EN written 0 (R552): an abort, then disabled. -/
def State.scrDisable (s : State) (channel bursts : Nat) : State :=
  (s.scrAbort channel bursts).setRegBit (scrCh channel 0x14) 0 false

/-- SCR_CHANNEL_DISABLE (R552). -/
def execScrChannelDisable (dt channel bursts : Nat) (s : State) : Result :=
  actIf dt s (fun _ => channel < 16) fun t => t.scrDisable channel bursts

/-- A write of one of Scree's registers. -/
def State.scrReg (s : State) (addr v : Nat) : State :=
  let off := addr - 0x40010000
  let ch := (off - 0x100) / 0x20
  let o := (off - 0x100) % 0x20
  if off = 0 then
    let t := s.busWrite addr v
    if bit v 8 then t.scrClear (bit v 9) else t
  else if off = 8 then s.scrAbort (v % 16) 0
  else if off = 0x28 then s.clearRegs addr v
  else if 0x100 ≤ off && off < 0x300 then
    if o = 0x14 && !bit v 0 then s.scrDisable ch 0
    else if (o = 0 || o = 4) && bit (s.regN (scrCh ch 0x14)) 0 then s
    else s.busWrite addr v
  else s.busWrite addr v

/-! ## Transactions (R535 to R541) -/

/-- The trust of a master's request (R519): Cairn's follows its mode. -/
def colTrust (r : ColReq) : Bool := if r.master = 0 then r.trusted else r.master == 2 || r.master == 4 || r.master == 5

/-- The effective QoS of a request (R535, R536). -/
def State.colQos (s : State) (r : ColReq) (wake : Nat) : Nat :=
  let q := if r.master = 0 && r.trusted then 13 else s.regField (0x40020010 + 4 * r.master) 0 3
  if 14 ≤ q then q else min 14 (q + (r.waited + wake) / 256)

/-- The order of a round robin of six that starts after a master. -/
def robin (last master : Nat) : Nat := (master + 11 - last) % 6

/-- The request that a port grants: the highest effective QoS, then round-robin after the master granted last. -/
def State.colWinner (s : State) (target wake : Nat) (l : List ColReq) : Option ColReq :=
  let last := look s.colLast target 5
  l.foldl (fun (best : Option ColReq) r =>
    match best with
    | none => some r
    | some b =>
      let q := s.colQos r wake
      let p := s.colQos b wake
      if p < q || (p = q && robin last r.master < robin last b.master) then some r else some b) none

/-- The piece of a burst that a grant carries: at most 16 beats of 32 bytes (R537). -/
def colPiece (a n : Nat) : Nat := min n (512 - a % 32)

/-- An error of a Scree transaction ends the running descriptor. -/
def State.colError (s : State) (r : ColReq) (a target reason : Nat) : State :=
  if r.master = 0 && !r.trusted then s.cairnRefused target reason a r.write
  else
    let t := s.colRefuse r.master target reason a r.write
    if r.master = 1 then t.scrFail (if r.write then 2 else 1) else t

/-- COL_REQUEST (R535 to R538): a port grants one request, and its access completes or is refused. -/
def execColRequest (dt target : Nat) (waiting : List ColReq) (s : State) : Result :=
  act dt s fun t =>
    let at_ := fun (r : ColReq) => t.busAddr r.master r.addr
    let l := waiting.filter fun r => r.master < 6 && !r.data.isEmpty && (colTarget (at_ r)).getD 7 == target
    let clocked := bit (t.regN 0x40020004) target
    let wake := if clocked then 0 else 2
    match t.colWinner target wake l with
    | none => t
    | some r =>
      let a := at_ r
      let n := colPiece a r.data.length
      let w := min 0xFFFF (r.waited + wake)
      let u := if target < 6 then
          let v := { t with colLast := put t.colLast target r.master }.setRegBit 0x40020004 target true
          v.setRegN (0x40020060 + 4 * target) (max w (v.regN (0x40020060 + 4 * target)))
        else t
      match colCheck r.master a n r.write (colTrust r) with
      | .inr (reason, tg) => u.colError r a tg reason
      | .inl tg =>
        if r.targetError then u.colError r a tg 2
        else if r.write then u.busStore tg a (colTrust r) (r.data.take n)
        else let b := u.busLoad tg a n; b.2.emit (.col tg b.1)

/-- COL_PORT_CLOCK_STOP (R538): a port without a request for 16 fabric cycles stops its clock. -/
def execColPortClockStop (dt target : Nat) (s : State) : Result :=
  actIf dt s (fun _ => target < 6) fun t => t.setRegBit 0x40020004 target false

/-- REGISTER_WRITE (R516, R517): a write by Upland or Bedrock. One that Upland may not make faults it (R516, R530). -/
def execRegisterWrite (dt addr value : Nat) (trusted : Bool) (s : State) : Result :=
  act dt s fun t =>
    let a := t.busAddr 0 addr
    match colCheck 0 a 4 true trusted with
    | .inl 2 =>
      if 0x40010000 ≤ a && a < 0x40020000 then t.scrReg (a / 4 * 4) (value % 2 ^ 32) else t.busReg (a / 4 * 4) value trusted
    | .inl tg => t.busStore tg a trusted (leBytes 4 value)
    | .inr (reason, target) => if trusted then t.colRefuse 0 target reason a true else t.cairnRefused target reason a true

/-! ## Interrupts and caches (R520, R521) -/

/-- Whether an interrupt line is asserted: EVT, SCR, CMAC_A, CMAC_B, TRN, TMW, OSF, GATE_DONE. TRN has no enables, and is
taken to follow its sticky bits (notes/assumptions/38.md). -/
def State.lineUp (s : State) (line : Nat) : Bool :=
  let en := fun stat mask => Nat.land (s.regN stat) (s.regN mask) != 0
  match line with
  | 0 => bit (s.regN Reg.evtCtrl) 0 && s.regField Reg.evtCtrl 16 26 ≤ s.ev.fifo.length
  | 1 => en (scrRg 0x10) (scrRg 0x14)
  | 2 => en (cmac 0 0x14) (cmac 0 0x18)
  | 3 => en (cmac 1 0x14) (cmac 1 0x18)
  | 4 => (List.range 8).any fun p => s.regField (tpReg p 0x20) 8 13 != 0
  | 5 => en 0x40060070 0x40060074
  | 6 => bit (s.regN 0x40080018) 0 && bit (s.regN 0x4008000C) 1
  | 7 => !s.gate.ring.isEmpty
  | _ => false

/-- INTERRUPT_FORWARD (R521): Bedrock forwards an asserted line to Upland's vector. -/
def execInterruptForward (dt line : Nat) (s : State) : Result :=
  actIf dt s (fun t => t.boot.uplandRuns && t.lineUp line) fun t => t.emit (.interrupt line)

/-- A cache instruction of user mode (R520): on any address but a line of Upland SRAM it faults with ALIGN. What the caches
hold is the program's own (notes/assumptions/39.md), and memory holds what a clean writes: on a line of Upland SRAM nothing
else changes. -/
def State.cacheOp (s : State) (addr : Nat) : State :=
  if colTarget addr = some 1 || !s.boot.uplandRuns then s
  else
    let d := s.draw
    d.2.uplandRestart 4 (d.1 % 2 ^ 32) addr

/-- CACHE_CLEAN (R520). -/
def execCacheClean (dt addr : Nat) (s : State) : Result := act dt s fun t => t.cacheOp addr

/-- CACHE_INVAL (R520). -/
def execCacheInval (dt addr : Nat) (s : State) : Result := act dt s fun t => t.cacheOp addr

/-- CACHE_CLEAN_INVAL (R520). -/
def execCacheCleanInval (dt addr : Nat) (s : State) : Result := act dt s fun t => t.cacheOp addr

end Sys2Proof.Machine
end

