-- ==== Sys2Proof/Machine/Memory.lean ====
section
/-!
DEFINITION. Memory integrity (R553 to R556): correctable and uncorrectable errors, what each consumer does, and the patrol
scrubber.
-/
namespace Sys2Proof.Machine

/-- A read that meets a correctable error (R554). -/
def State.memCorrected (s : State) (memory : Nat) : State :=
  (s.bump Obj.memCorrected memory).raiseLimited Ev.memCorrected memory memory

/-- MEM_CORRECTED (R554). -/
def execMemCorrected (dt memory : Nat) (s : State) : Result :=
  actIf dt s (fun _ => memory ≤ 6) fun t => t.memCorrected memory

/-- The consumer byte of MemErrorLog: the order of the table of R555 from 1; 0 for the scrubber (notes/assumptions/40.md). -/
def consumerCode : MemConsumer → Nat
  | .videoBlock .. => 1
  | .tagBlock .. => 1
  | .sideData .. => 2
  | .receivePacket .. => 3
  | .corniceBlock .. => 4
  | .graphicsBlock .. => 5
  | .firn .. => 6
  | .colourTable .. => 7
  | .commitTable => 8
  | .moraineStaging .. => 9
  | .uplandFetch .. => 10
  | .uplandLoad .. => 10
  | .screeRead => 11
  | .macRead .. => 11
  | .bedrock => 12

/-- An uncorrectable error is counted, logged and raised (R555, R557). -/
def State.memLogged (s : State) (memory consumer addr : Nat) : State :=
  let t := s.bump Obj.memUncorrectable memory
  let entry := ptpBytes t.ptp ++ beBytes 1 memory ++ beBytes 1 consumer ++ beBytes 6 addr ++ zeros 6
  (t.setBy Obj.memErrorLog 0 ((entry ++ t.by Obj.memErrorLog 0).take 384)).raise Ev.memUncorrectable memory

/-- A buffered frame of a slot changed. -/
def State.mapFrame (s : State) (slot seq : Nat) (f : Frame → Frame) : State :=
  let x := s.src slot
  s.setSrc slot { x with frames := x.frames.map fun y => if y.seq = seq then f y else y }

/-- A composite with another picture as the source of a video layer. -/
def Pic.relayer (layer : Nat) (source : Pic) : Pic → Pic
  | .video below old z k => .video (Pic.relayer layer source below) (if z.layer = layer then source else old) z k
  | .surface below width cells k => .surface (Pic.relayer layer source below) width cells k
  | .firn below run => .firn (Pic.relayer layer source below) run
  | .composite e k layers stage f => .composite e k (Pic.relayer layer source layers) stage f
  | p => p

/-- What a Cirque layer reads has changed: the composite that its engine makes of it holds the change. -/
def State.relayer (s : State) (d : Nat) (pic : Pic) : State :=
  match Objs.sink s.objs d with
  | .layer e l =>
    let slot := (s.engine e).writing
    match (s.src slot).frames.head? with
    | some g => s.amendPic slot g.seq (Pic.relayer (8 * e + l) pic)
    | none => s
  | _ => s

/-- A block of video is concealed (R175) on every destination that its stream serves, in a loss picture that shows a frozen frame too:
the block at the same position of the previous complete frame stands in its place, or a black one where that fails too. -/
def State.conceal (s : State) (slot seq line block : Nat) (previousBad : Bool) (destinations : List Nat) : State :=
  let other := if previousBad then .black else (s.src slot).previousPic seq
  destinations.foldl (fun t d =>
    match (t.dst d).shown with
    | some x =>
      if x.store != some (slot, seq) then t
      else
        let pic := Pic.concealed x.pic other line block
        (((t.repaint d { x with pic := pic }).relayer d pic).bump Obj.dstConcealedBlocks d).raiseLimited Ev.memConceal d d
    | none => t) s

/-- The side-data area of a frame fails (R176): what destinations show of it loses its stored packets, and FRAME_META_ERROR is
raised once for the frame, at once where a destination is reading it. -/
def State.loseSideData (s : State) (slot seq : Nat) : State :=
  let reading := s.ridge.dst.filter fun y => y.2.shown.elim false fun x => !x.loss && x.store == some (slot, seq)
  let t := reading.foldl (fun u y =>
    u.setDst y.1 { y.2 with shown := y.2.shown.map fun x => { x with anc := [], first := false } }) s
  let t := t.mapFrame slot seq fun f => { f with metaBad := true }
  if reading.isEmpty then t
  else match (t.src slot).frames.find? fun f => f.seq == seq with
    | some f => t.meetSideData slot f
    | none => t

/-- What the reader of a bad codeword does (R555). -/
def State.memConsume (s : State) (memory : Nat) (c : MemConsumer) : State :=
  match c with
  | .videoBlock slot seq line block previousBad destinations =>
    s.conceal slot seq line block previousBad destinations
  | .tagBlock slot seq line block tag previousTag destinations =>
    if tag = frameTag slot line seq then s
    else
      let prev := (s.src slot).frames.find? fun f => f.complete && f.seq < seq
      let bad := prev.elim true fun f => previousTag != frameTag slot line f.seq
      s.conceal slot seq line block bad destinations
  | .sideData slot seq => s.loseSideData slot seq
  | .receivePacket entry seq =>
    let x := s.rxe entry
    s.setRxe entry { x with buffer := x.buffer.filter fun r => r.seq != seq }
  | .corniceBlock channel =>
    let x := s.strip channel
    s.setStrip channel { x with
      line := List.replicate (min 16 x.line.length) 0 ++ x.line.drop 16
      out := List.replicate (min 16 x.out.length) 0 ++ x.out.drop 16 }
  | .graphicsBlock layer offset =>
    let y := s.layer layer
    let a := offset / 64 * 64
    s.setLayer layer { y with front := y.front.filter fun c => !(a ≤ c.1 && c.1 < a + 64) }
  | .firn engine =>
    let x := s.engine engine
    if s.n Obj.cqFirnState engine = 1 then
      (s.setEngine engine { x with
        firnSince := some (gridIndex s.house s.tc)
        firnWaitRaised := false }).setN Obj.cqFirnState engine 2
    else s
  | .colourTable stage reloadFails =>
    if reloadFails then
      (s.setStage stage { s.stage stage with failed := true }).setBitN Obj.colStageState stage 0 true
    else s
  | .commitTable => (s.setReason 0 true).raise Ev.ctrlMemRepaired memory
  | .moraineStaging play frame =>
    let x := s.player play
    s.setPlayer play { x with fetched := x.fetched.filter (· != frame) }
  | .uplandFetch pc => if s.boot.uplandRuns then s.uplandRestart 1 (pc % 2 ^ 32) 0 else s
  | .uplandLoad pc addr => if s.boot.uplandRuns then s.uplandRestart 2 (pc % 2 ^ 32) (addr % 2 ^ 32) else s
  | .screeRead => s.scrFail 1
  | .macRead port => s.cmacCount port 0x21C
  | .bedrock =>
    let t := s.setReason 1 true
    { t with boot := { t.boot with ctrlMemLost := true } }.raise Ev.ctrlMemLost memory

/-- Whether a block's symbol code fails: a block that only its frame tag betrays is no memory error (R158, R175). -/
def codeFails : MemConsumer → Bool
  | .tagBlock .. => false
  | _ => true

/-- MEM_UNCORRECTABLE (R175, R555). -/
def execMemUncorrectable (dt memory addr : Nat) (c : MemConsumer) (s : State) : Result :=
  actIf dt s (fun _ => memory ≤ 6) fun t =>
    (if codeFails c then t.memLogged memory (consumerCode c) addr else t).memConsume memory c

/-- The percentage of the HBM that lies before a bus address (0x7823). -/
def scrubPercent (addr : Nat) : Nat := min 100 ((addr - 0x1000000000) * 100 / 0x2400000000)

/-- MEM_SCRUB_READ (R556): a correctable codeword is rewritten corrected, unless a write has come between; an uncorrectable
one is logged only. The end of an HBM pass raises MEM_SCRUB_PASS. -/
def execMemScrubRead (dt memory addr : Nat) (r : ScrubResult) (passEnd : Bool) (s : State) : Result :=
  actIf dt s (fun _ => memory ≤ 6) fun t =>
    let t := match r with
      | .good => t
      | .correctable => t.memCorrected memory
      | .correctableOverwritten => t.memCorrected memory
      | .uncorrectable => t.memLogged memory 0 addr
    if memory < 4 then
      if passEnd then
        ((t.setN Obj.memScrubProgress 0 0).setN Obj.memScrubLastPass 0 t.ptp).raise Ev.memScrubPass memory
      else t.setN Obj.memScrubProgress 0 (scrubPercent addr)
    else t

end Sys2Proof.Machine
end

