-- ==== Sys2Proof/Machine/ArmChecks.lean ====
section
/-!
DEFINITION. The ARM checks of phases 1 to 3 (R193, R194): what each check consults and when it fails. Every check reads the
projected configuration. A check belongs to a salvo when it consults an object that the salvo writes
(notes/assumptions/42.md).
-/
namespace Sys2Proof.Machine

/-- One check: its phase and code, the objects that it consults, whether it fails, and the port at fault (R214). -/
structure Check where
  phase : Nat
  code : Nat
  keys : List Nat
  bad : Bool
  at_ : Nat := 0xFFFF
  deriving DecidableEq, Repr

/-- Objects of one item. -/
def keysOf (l : List Nat) (sub : Nat) : List Nat := l.map (adr · sub)

/-- An object of one item. -/
def key (index sub : Nat) : List Nat := [adr index sub]

/-! ## Phase 1: parameters -/

/-- DST_PARAM_INVALID (R183): a timing offset of one frame period or more. -/
def Objs.checkDst (c : Objs) (d : Nat) : Check :=
  let f := Objs.n c Obj.dstReservedFormat d
  let p := fmtPeriod f
  ⟨1, Code.dstParamInvalid, keysOf [Obj.dstTimingOffset, Obj.dstReservedFormat] d,
    f != 0 && 1000000000 * p.num ≤ Objs.n c Obj.dstTimingOffset d * p.den, 0xFFFF⟩

/-- Whether audio groups from a base exceed what a carriage holds (carriage 0: not known) or AO32767 (R71). -/
def groupsBad (carriage base groups : Nat) : Bool :=
  base != 0xFFFF && ((List.range 32).any fun b => groups.testBit b &&
    ((carriage != 0 && (carriageLinks carriage ≤ b / 8 || carriageGroups carriage ≤ b % 8)) || 32767 < base + 4 * b + 3))

/-- SDI_AUDIO_GROUPS of an SDI transmit port (R71). -/
def Objs.checkTxAudio (c : Objs) (l : Nat) : Check :=
  let d := Objs.n c Obj.txSlot l
  let f := if d < 2048 then Objs.n c Obj.dstReservedFormat d else 0
  ⟨1, Code.sdiAudioGroups,
    keysOf [Obj.txSlot, Obj.sdiTxCarriage, Obj.txAudioBase, Obj.txAudioGroups] l ++ key Obj.dstReservedFormat d,
    groupsBad (carriageFor (Objs.n c Obj.sdiTxCarriage l) f) (Objs.n c Obj.txAudioBase l) (Objs.n c Obj.txAudioGroups l), 0xFFFF⟩

/-- Whether the settings of an audio flow break R115 or R142. -/
def audioBad (essence channels depth time rate96 : Nat) : Bool :=
  (if essence = 3 then !(2 ≤ channels && channels ≤ 64 && channels % 2 == 0) else !(1 ≤ channels && channels ≤ 64)) ||
    1440 < audioPacket essence channels depth time rate96

/-- FLOW_PARAM_INVALID of an enabled receive entry (R96, R112, R114, R115). -/
def Objs.checkRxParam (c : Objs) (e : Nat) : Check :=
  let es := Objs.n c Obj.rxEssence e
  let p : List Nat × Bool := match es with
    | 0 => ([], true)
    | 1 => ([Obj.rxVideoFormat, Obj.rxVideoSampling],
        Objs.n c Obj.rxVideoFormat e == 0 || !fmtValid (Objs.rxFormat c e))
    | 2 => ([Obj.rxAudioChannels, Obj.rxAudioRate, Obj.rxAudioDepth, Obj.rxPacketTime],
        audioBad 2 (Objs.n c Obj.rxAudioChannels e) (Objs.n c Obj.rxAudioDepth e) (Objs.n c Obj.rxPacketTime e)
          (Objs.n c Obj.rxAudioRate e))
    | 3 => ([Obj.rxAudioChannels, Obj.rxAudioRate, Obj.rxAudioDepth, Obj.rxPacketTime],
        audioBad 3 (Objs.n c Obj.rxAudioChannels e) (Objs.n c Obj.rxAudioDepth e) (Objs.n c Obj.rxPacketTime e)
          (Objs.n c Obj.rxAudioRate e))
    | 5 => ([Obj.rxVideoFormat], Objs.rxCarriage c e == 0)
    | _ => ([], false)
  ⟨1, Code.flowParamInvalid, keysOf ([Obj.rxEnable, Obj.rxEssence] ++ p.1) e, p.2, 0xFFFF⟩

/-- Whether two IP addresses agree in their first bits. -/
def samePrefix (a b : List Byte) (bits : Nat) : Bool :=
  let n := 8 * a.length
  fromBe a / 2 ^ (n - bits) == fromBe b / 2 ^ (n - bits)

/-- Whether R145 refuses a destination address on a port. -/
def Objs.txAddrBad (c : Objs) (port : Nat) (a : List Byte) : Bool :=
  let own4 := Objs.n c (portIdx port Obj.portIpv4Addr) (portNo port)
  let own6 := Objs.by c (portIdx port Obj.portIpv6Addr) (portNo port)
  if a.length = 4 then
    own4 == 0 || (if multicast a then a.take 3 == beBytes 3 0xE00000
      else !samePrefix a (beBytes 4 own4) (Objs.n c (portIdx port Obj.portIpv4Prefix) (portNo port)))
  else if a.length = 16 then
    if multicast a then fromBe ((a.drop 1).take 1) % 16 < 2
    else !(a.take 8 == beBytes 2 0xFE80 ++ zeros 6) &&
      (own6.isEmpty || !samePrefix a own6 (Objs.n c (portIdx port Obj.portIpv6Prefix) (portNo port)))
  else true

/-- TX_ADDR_INVALID of an enabled transmit entry (R145). -/
def Objs.checkTxAddr (c : Objs) (e : Nat) : Check :=
  let port := Objs.n c Obj.txPort e
  ⟨1, Code.txAddrInvalid,
    keysOf [Obj.txEnable, Obj.txPort, Obj.txDstAddr] e ++
      keysOf ([Obj.portIpv4Addr, Obj.portIpv4Prefix, Obj.portIpv6Addr, Obj.portIpv6Prefix].map (portIdx port)) (portNo port),
    Objs.txAddrBad c port (Objs.by c Obj.txDstAddr e), 0xFFFF⟩

/-- The sampling that R136 takes for an ST2110_20 entry: TxVideoSampling, or the source's for a follow-source destination
(R198); and the objects that say so. -/
def Objs.txSampling (c : Objs) (e : Nat) : Nat × List Nat :=
  let d := Objs.n c Obj.txSource e
  let own := (Objs.n c Obj.txVideoSampling e, keysOf [Obj.dstFollowSource, Obj.dstReservedFormat] d)
  if Objs.b c Obj.dstFollowSource d then
    match routeSource (Objs.n c Obj.route d) with
    | some slot =>
      let f := Objs.n c Obj.srcReservedFormat slot
      if f = 0 then own
      else (fmtSampling f, keysOf [Obj.dstFollowSource, Obj.dstReservedFormat, Obj.route] d ++ key Obj.srcReservedFormat slot)
    | none => own
  else own

/-- TX_PARAM_INVALID and SDI_AUDIO_GROUPS of an enabled transmit entry (R71, R115, R126, R136, R140, R142). The least TxPacketBytes
of an ST2110_40 entry, which R151 does not give, is 1: DESIGN CHOICE, notes/assumptions/72.md. -/
def Objs.checkTxParam (c : Objs) (e : Nat) : List Check :=
  let n := fun i => Objs.n c i e
  let ks := fun l => keysOf ([Obj.txEnable, Obj.txEssence] ++ l) e
  let audio := fun es =>
    [⟨1, Code.txParamInvalid,
      ks [Obj.txSource, Obj.txAudioChannels, Obj.txAudioRate, Obj.txAudioDepth, Obj.txPacketTime],
      audioBad es (n Obj.txAudioChannels) (n Obj.txAudioDepth) (n Obj.txPacketTime) (n Obj.txAudioRate) ||
        32768 < n Obj.txSource + n Obj.txAudioChannels, 0xFFFF⟩]
  match n Obj.txEssence with
  | 0 => [⟨1, Code.txParamInvalid, ks [], true, 0xFFFF⟩]
  | 1 =>
    let m := Objs.txSampling c e
    let p := n Obj.txPacketBytes
    let f := Objs.txFormatOf c e
    [⟨1, Code.txParamInvalid, ks [Obj.txSource, Obj.txPacketBytes, Obj.txVideoSampling] ++ m.2,
      !(480 ≤ p && p ≤ 1420 && p % (pixelGroup m.1).1 == 0) ||
        (f != 0 && !fmtValid (fmtCode (fmtRaster f) (fmtRate f) m.1)), 0xFFFF⟩]
  | 2 => audio 2
  | 3 => audio 3
  | 4 => [⟨1, Code.txParamInvalid, ks [Obj.txPacketBytes],
      !(1 ≤ n Obj.txPacketBytes && n Obj.txPacketBytes ≤ 1420), 0xFFFF⟩]
  | 5 =>
    let k := carriageFor (n Obj.txCarriage) (Objs.txFormatOf c e)
    [⟨1, Code.sdiAudioGroups,
      ks [Obj.txSource, Obj.txCarriage, Obj.txEmbAudioBase, Obj.txEmbAudioGroups] ++
        key Obj.dstReservedFormat (n Obj.txSource),
      groupsBad k (n Obj.txEmbAudioBase) (n Obj.txEmbAudioGroups), 0xFFFF⟩]
  | _ => []

/-- The objects that place a video layer. -/
def Objs.layerKeys (c : Objs) (x : Nat) : List Nat :=
  let d := Objs.n c Obj.layerDstSlot x
  keysOf [Obj.layerEnable, Obj.layerDstSlot, Obj.layerScan, Obj.layerCropPos, Obj.layerCropSize] x ++
    keysOf [Obj.route, Obj.dstReservedFormat] d ++
    (match routeSource (Objs.n c Obj.route d) with
      | some slot => key Obj.srcReservedFormat slot
      | none => []) ++
    key Obj.cqSrcSlot (x / 8)

/-- Whether the size of a layer's window is known: it is given, or the engine has an output format. -/
def Objs.layerSized (c : Objs) (x : Nat) : Bool := Objs.n c Obj.layerWinSize x != 0 || Objs.engineFormat c (x / 8) != 0

/-- The video layers that a configuration gives a destination or a window, enabled or not. -/
def Objs.videoLayers (c : Objs) : List Nat :=
  ((Objs.subs c Obj.layerDstSlot ++ Objs.subs c Obj.layerWinSize).eraseDups).filter layerVideo

/-- CQ_PARAM_INVALID for the window and the ratios of a video layer (R226, R231). -/
def Objs.checkLayerParam (c : Objs) (x : Nat) : Check :=
  let (_, _, w, h) := Objs.layerCrop c x
  let (wo, ho) := Objs.layerWindow c x
  let k := if Objs.layerField c x then 2 else 1
  ⟨1, Code.cqParamInvalid,
    Objs.layerKeys c x ++ key Obj.layerWinSize x ++ key Obj.srcReservedFormat (Objs.n c Obj.cqSrcSlot (x / 8)),
    Objs.layerSized c x && (!(16 ≤ wo && wo ≤ 8192 && 16 ≤ ho && ho ≤ 8192) ||
      (Objs.layerSource c x != 0 && !(wo ≤ 16 * w && w ≤ 16 * wo && k * ho ≤ 16 * h && h ≤ 16 * k * ho))), 0xFFFF⟩

/-- CQ_PARAM_INVALID of an engine's timing offset (R248). -/
def Objs.checkEngineParam (c : Objs) (e : Nat) : Check :=
  let f := Objs.engineFormat c e
  let p := fmtPeriod f
  ⟨1, Code.cqParamInvalid, keysOf [Obj.cqSrcSlot, Obj.cqTimingOffset] e ++ key Obj.srcReservedFormat (Objs.n c Obj.cqSrcSlot e),
      f != 0 && 1000000000 * p.num ≤ Objs.n c Obj.cqTimingOffset e * p.den, 0xFFFF⟩

/-- CQ_PARAM_INVALID for CqOrder (R234). -/
def Objs.checkOrder (c : Objs) (e : Nat) : Check :=
  ⟨1, Code.cqParamInvalid, keysOf [Obj.cqOrderMode, Obj.cqOrder] e,
    Objs.n c Obj.cqOrderMode e == 1 && (List.range 8).any fun l => !(Objs.layerOrder c e).contains l, 0xFFFF⟩

/-- Inputs of a bus. -/
def Objs.busInputs (c : Objs) (m : Nat) : Nat := (Objs.by c Obj.busInputSrc m).length / 4

/-- AU_PARAM_INVALID (R304). -/
def Objs.checkLedgerInput (c : Objs) (m : Nat) : Check :=
  ⟨1, Code.auParamInvalid, keysOf [Obj.busInputSrc, Obj.busLedgerInput] m,
    Objs.busInputs c m ≤ Objs.n c Obj.busLedgerInput m, 0xFFFF⟩

/-- TARN_CHANNEL_RANGE (R322): an output range above AO32767, or a count above 32. -/
def Objs.checkTarn (c : Objs) (p : Nat) : Check :=
  let b := Objs.n c Obj.tarnAoBase p
  ⟨1, Code.tarnChannelRange, keysOf [Obj.tarnAoBase, Obj.tarnAoCount, Obj.tarnAiCount] p,
    32 < Objs.n c Obj.tarnAoCount p || 32 < Objs.n c Obj.tarnAiCount p ||
      (b != 0xFFFF && 32768 < b + Objs.n c Obj.tarnAoCount p), 0xFFFF⟩

/-- MOR_PARAM_INVALID of a delay line (R431). -/
def Objs.checkDelay (c : Objs) (l : Nat) : Check :=
  ⟨1, Code.morParamInvalid, keysOf [Obj.dlyCapacity, Obj.dlyFrames] l,
    Objs.n c Obj.dlyCapacity l < Objs.n c Obj.dlyFrames l, 0xFFFF⟩

/-- MOR_PARAM_INVALID of a playback (R445). -/
def State.checkPlayStart (s : State) (c : Objs) (p : Nat) : Check :=
  let n := Objs.n c Obj.playClip p
  ⟨1, Code.morParamInvalid, keysOf [Obj.playClip, Obj.playStartFrame] p ++ keysOf [Obj.clipState, Obj.clipFrames] n,
    (s.clip n).state == 2 && (s.clip n).frames.length ≤ Objs.n c Obj.playStartFrame p, 0xFFFF⟩

/-- The checks of phase 1. `touched` gives the items at which the salvo writes an object. -/
def State.phase1 (s : State) (c : Objs) (touched : Nat → List Nat) : List Check :=
  (touched Obj.dstTimingOffset ++ touched Obj.dstReservedFormat).map (Objs.checkDst c) ++
  (Objs.subs c Obj.txAudioBase).map (Objs.checkTxAudio c) ++
  (Objs.rxEntries c).map (Objs.checkRxParam c) ++
  (Objs.txEntries c).map (Objs.checkTxAddr c) ++
  (Objs.txEntries c).flatMap (Objs.checkTxParam c) ++
  (Objs.subs c Obj.cqOrderMode).map (Objs.checkOrder c) ++
  (Objs.subs c Obj.cqSrcSlot).map (Objs.checkEngineParam c) ++ (Objs.videoLayers c).map (Objs.checkLayerParam c) ++
  ((touched Obj.busInputSrc ++ touched Obj.busLedgerInput).map (Objs.checkLedgerInput c)) ++
  ((Objs.subs c Obj.tarnAoBase ++ Objs.subs c Obj.tarnAoCount ++ Objs.subs c Obj.tarnAiCount).map (Objs.checkTarn c)) ++
  ((Objs.subs c Obj.dlyFrames ++ Objs.subs c Obj.dlyCapacity).map (Objs.checkDelay c)) ++
  (Objs.subs c Obj.playClip).map (s.checkPlayStart c)

/-! ## Phase 2: bindings -/

/-- A use of a slot: the slot, the kind of use, and the objects that make it. -/
structure Claim where
  slot : Nat
  kind : Nat
  item : Nat
  keys : List Nat
  deriving DecidableEq, Repr

/-- The lead entries of enabled receive flows of some essences. -/
def Objs.rxFlows (c : Objs) (essences : List Nat) : List Nat :=
  (Objs.rxEntries c).filter fun e => Objs.rxLeadEntry c e == e && essences.contains (Objs.n c Obj.rxEssence e)

/-- The lead entries of enabled transmit flows of some essences. -/
def Objs.txFlows (c : Objs) (essences : List Nat) : List Nat :=
  (Objs.txEntries c).filter fun e => Objs.txLeadEntry c e == e && essences.contains (Objs.n c Obj.txEssence e)

/-- The feeds of source slots (R15), by the kinds of SrcFeedKind; ST2110_40 flows have kind 7. -/
def Objs.feedClaims (c : Objs) : List Claim :=
  (Objs.subs c Obj.rxSlot).map (fun l => ⟨Objs.n c Obj.rxSlot l, 1, l, keysOf [Obj.rxSlot, Obj.rxQuad] l⟩) ++
  ((Objs.rxFlows c [1, 4, 5]).filter fun e => Objs.n c Obj.rxTarget e < 2048).map (fun e =>
    ⟨Objs.n c Obj.rxTarget e, if Objs.n c Obj.rxEssence e = 4 then 7 else 2, e,
      (Objs.rxPaths c e).flatMap (keysOf [Obj.rxEnable, Obj.rxEssence, Obj.rxTarget, Obj.rxPartner])⟩) ++
  (Objs.subs c Obj.cqSrcSlot).map (fun e => ⟨Objs.n c Obj.cqSrcSlot e, 3, e, key Obj.cqSrcSlot e⟩) ++
  (Objs.subs c Obj.srcGenerator).map (fun n => ⟨n, 4, n, key Obj.srcGenerator n⟩) ++
  (Objs.plays c).map (fun p => ⟨Objs.n c Obj.playSlot p, 5, p, keysOf [Obj.playEnable, Obj.playSlot] p⟩) ++
  (Objs.delays c).map (fun l => ⟨Objs.n c Obj.dlySlot l, 6, l, keysOf [Obj.dlyEnable, Obj.dlySlot] l⟩)

/-- The uses of destination slots (R15): 1 an SDI port, 2 a flow, 3 a Cirque layer, 5 a record, 6 a delay line, 7 an ST2110_40
flow. -/
def Objs.sinkClaims (c : Objs) : List Claim :=
  (Objs.subs c Obj.txSlot).map (fun l => ⟨Objs.n c Obj.txSlot l, 1, l, key Obj.txSlot l⟩) ++
  ((Objs.txFlows c [1, 4, 5]).filter fun e => Objs.n c Obj.txSource e < 2048).map (fun e =>
    ⟨Objs.n c Obj.txSource e, if Objs.n c Obj.txEssence e = 4 then 7 else 2, e,
      (Objs.txPaths c e).flatMap (keysOf [Obj.txEnable, Obj.txEssence, Obj.txSource, Obj.txPartner])⟩) ++
  (Objs.subs c Obj.layerDstSlot).map (fun x => ⟨Objs.n c Obj.layerDstSlot x, 3, x, key Obj.layerDstSlot x⟩) ++
  (Objs.records c).map (fun r => ⟨Objs.n c Obj.recDst r, 5, r, keysOf [Obj.recEnable, Obj.recDst] r⟩) ++
  (Objs.delays c).map (fun l => ⟨Objs.n c Obj.dlyDst l, 6, l, keysOf [Obj.dlyEnable, Obj.dlyDst] l⟩)

/-- Claims by the slot that they name. -/
def bySlot (l : List Claim) : List (Nat × List Claim) :=
  ((l.map fun x => x.slot).eraseDups).map fun n => (n, l.filter fun x => x.slot == n)

/-- SLOT_NOT_RESERVED for routes, feeds and uses (R36, R183). -/
def Objs.checkReserved (c : Objs) (feeds sinks : List Claim) : List Check :=
  let bad := Code.slotNotReserved
  (Objs.subs c Obj.route).filterMap (fun d =>
    (routeSource (Objs.n c Obj.route d)).map fun n =>
      ⟨2, bad, keysOf [Obj.route, Obj.dstReservedFormat] d ++ key Obj.srcReservedFormat n,
        Objs.n c Obj.srcReservedFormat n == 0 || Objs.n c Obj.dstReservedFormat d == 0, 0xFFFF⟩) ++
  feeds.map (fun x => ⟨2, bad, x.keys ++ key Obj.srcReservedFormat x.slot, Objs.n c Obj.srcReservedFormat x.slot == 0, 0xFFFF⟩) ++
  sinks.map (fun x => ⟨2, bad, x.keys ++ key Obj.dstReservedFormat x.slot, Objs.n c Obj.dstReservedFormat x.slot == 0, 0xFFFF⟩)

/-- Conflicts of feeds: SRC_FEED_CONFLICT (R177), FLOW_TARGET_CONFLICT (R96), CQ_LAYER_BINDING (R221), MOR_BINDING
(R445). A salvo that takes away what fed a slot (`was`) counts for the check of its ST2110_40 entry too. -/
def Objs.checkFeeds (c : Objs) (feeds was : List Claim) : List Check :=
  (bySlot feeds).flatMap fun (p : Nat × List Claim) =>
    let lost := (was.filter fun x => x.slot == p.1).flatMap fun x => x.keys
    let video := p.2.filter fun x => x.kind != 7
    let anc := p.2.filter fun x => x.kind == 7
    let many := 1 < video.length
    let ks := video.flatMap fun x => x.keys
    let kind := fun k => video.any fun x => x.kind == k
    let has20 := video.any fun x => x.kind == 2 && Objs.n c Obj.rxEssence x.item == 1
    [⟨2, Code.srcFeedConflict, ks, (kind 4 && many) || 1 < (video.filter fun x => x.kind == 1).length, 0xFFFF⟩,
     ⟨2, Code.flowTargetConflict, ks, kind 2 && many, 0xFFFF⟩,
     ⟨2, Code.cqLayerBinding, ks, kind 3 && many, 0xFFFF⟩,
     ⟨2, Code.morBinding, ks, (kind 5 || kind 6) && many, 0xFFFF⟩,
     ⟨2, Code.flowTargetConflict, ks ++ (anc.flatMap fun x => x.keys) ++ lost,
      !anc.isEmpty && (1 < anc.length || !has20), 0xFFFF⟩]

/-- Conflicts of uses: TX_SOURCE_CONFLICT (R126), CQ_LAYER_BINDING (R221), MOR_BINDING (R445). Two SDI ports that name one destination
have no code in the spec: ARM lets them pass, and both emit its frames. DESIGN CHOICE, notes/assumptions/70.md. A salvo that
takes away what used a destination (`was`) counts for the check of its ST2110_40 flow too. -/
def Objs.checkSinks (c : Objs) (sinks was : List Claim) : List Check :=
  (bySlot sinks).flatMap fun (p : Nat × List Claim) =>
    let lost := (was.filter fun x => x.slot == p.1).flatMap fun x => x.keys
    let n := fun k => (p.2.filter fun x => x.kind == k).length
    let ks := p.2.flatMap fun x => x.keys
    let has20 := p.2.any fun x => x.kind == 2 && Objs.n c Obj.txEssence x.item == 1
    [⟨2, Code.txSourceConflict, ks, 0 < n 2 + n 7 && (1 < n 2 || 1 < n 7 || 0 < n 1 + n 3 + n 5 + n 6), 0xFFFF⟩,
     ⟨2, Code.txSourceConflict, ks ++ lost, 0 < n 7 && !has20, 0xFFFF⟩,
     ⟨2, Code.cqLayerBinding, ks, 0 < n 3 && (1 < n 3 || 0 < n 1), 0xFFFF⟩,
     ⟨2, Code.morBinding, ks, 0 < n 5 + n 6 && 1 < p.2.length, 0xFFFF⟩]

/-- Lanes that SDI ports use, with the objects that say so (R49, R50). -/
def Objs.sdiClaims (c : Objs) : List (List Nat × List Nat) :=
  (Objs.subs c Obj.rxSlot).map (fun l => (Objs.rxLanes c l, keysOf [Obj.rxSlot, Obj.rxQuad] l)) ++
  (Objs.subs c Obj.txSlot).map (fun l => (Objs.txLanes c l, keysOf [Obj.txSlot, Obj.sdiTxCarriage] l))

/-- SDI_LANE_MODE (R49). -/
def Objs.checkSdiLanes (c : Objs) : List Check :=
  (Objs.sdiClaims c).map fun (p : List Nat × List Nat) =>
    ⟨2, Code.sdiLaneMode, p.2 ++ p.1.map (adr Obj.laneMode), p.1.any fun l => Objs.n c Obj.laneMode l != 1, 0xFFFF⟩

/-- SDI_QUAD_MEMBER_BOUND (R50, R86). -/
def Objs.checkQuads (c : Objs) : List Check :=
  (Objs.subs c Obj.rxQuad).flatMap (fun l =>
    if l % 4 != 0 then [⟨2, Code.sdiQuadMemberBound, key Obj.rxQuad l, true, 0xFFFF⟩]
    else [l + 1, l + 2, l + 3].map fun m =>
      ⟨2, Code.sdiQuadMemberBound, key Obj.rxQuad l ++ keysOf [Obj.rxSlot, Obj.rxAudioBase] m,
        Objs.n c Obj.rxSlot m != 0xFFFF || Objs.n c Obj.rxAudioBase m != 0xFFFF, 0xFFFF⟩) ++
  ((Objs.subs c Obj.sdiTxCarriage).filter fun l => l % 4 == 0 && carriageQuad (Objs.n c Obj.sdiTxCarriage l)).flatMap (fun l =>
    [l + 1, l + 2, l + 3].map fun m =>
      ⟨2, Code.sdiQuadMemberBound, key Obj.sdiTxCarriage l ++ keysOf [Obj.txSlot, Obj.txAudioBase, Obj.sdiTxCarriage] m,
        Objs.n c Obj.txSlot m != 0xFFFF || Objs.n c Obj.txAudioBase m != 0xFFFF || Objs.n c Obj.sdiTxCarriage m != 0, 0xFFFF⟩)

/-- Pairs of a list. -/
def pairs {α : Type} : List α → List (α × α)
  | [] => []
  | a :: l => l.map (fun b => (a, b)) ++ pairs l

/-- AI_RANGE_CONFLICT (R68, R96, R322). -/
def Objs.checkInputs (c : Objs) : List Check :=
  let l := Objs.audioFeeds c
  l.map (fun (p : List Nat × List Nat) => ⟨2, Code.aiRangeConflict, p.1, p.2.any (32767 < ·), 0xFFFF⟩) ++
  ((pairs l).filter fun (p : (List Nat × List Nat) × (List Nat × List Nat)) => p.1.2.any fun ch => p.2.2.contains ch).map
    fun (p : (List Nat × List Nat) × (List Nat × List Nat)) => ⟨2, Code.aiRangeConflict, p.1.1 ++ p.2.1, true, 0xFFFF⟩

/-- Whether LaneFec may stand on the first lane of a port in a mode (R398): 0 AUTO, 1 NONE, 2 BASE_R, 3 RS528. -/
def fecOk (mode fec : Nat) : Bool :=
  fec == 0 || match mode with
    | 1 => fec == 1
    | 2 => fec ≤ 3
    | 3 => fec == 1 || fec == 3
    | _ => false

/-- The lanes that count as used by the Saddle link (R400): the octet in force, and the newly named one of a paired device. -/
def State.saddleLanes (s : State) : List Nat :=
  let base := fun (b : Nat) => eight.map (b + ·)
  (s.sad.base.elim [] base) ++
    match s.ce.restartWrites.lookup (adr Obj.saddleLaneBase 0) with
    | some (.num b) => base b.toNat
    | _ => []

/-- The objects that place a port. -/
def portKeys (p : Nat) : List Nat := keysOf ([Obj.portMode, Obj.portLaneBase].map (portIdx p)) (portNo p)

/-- MP_LANE_MODE and MP_LANE_CONFLICT of a port (R88, R122, R398). -/
def State.checkPort (s : State) (c : Objs) (sdi : List (List Nat × List Nat)) (p : Nat) : List Check :=
  let m := Objs.portMode c p
  let lanes := Objs.portLanes c p
  let base := lanes.headD 0xFFFF
  let off := base % modeLanes m != 0 || 288 < base + modeLanes m
  let laneKeys := lanes.flatMap (keysOf [Obj.laneMode, Obj.laneEthRate]) ++ key Obj.laneFec base
  [⟨2, Code.mpLaneMode, portKeys p ++ laneKeys,
      !off && ((lanes.any fun l => Objs.n c Obj.laneMode l != 2 || Objs.n c Obj.laneEthRate l != modeEthRate m) ||
        !fecOk m (Objs.n c Obj.laneFec base)), p⟩,
    ⟨2, Code.mpLaneConflict, portKeys p, off || lanes.any fun l => s.saddleLanes.contains l, p⟩] ++
  ((sdi.filter fun (q : List Nat × List Nat) => q.1.any fun l => lanes.contains l).map
    fun (q : List Nat × List Nat) => ⟨2, Code.mpLaneConflict, portKeys p ++ q.2, true, p⟩) ++
  (((Objs.ports c).filter fun q => q < p && (Objs.portLanes c q).any fun l => lanes.contains l).map
    fun q => ⟨2, Code.mpLaneConflict, portKeys p ++ portKeys q, true, q⟩)

/-- What two transmit entries may not share (R128). -/
def Objs.sendKey (c : Objs) (e : Nat) : Nat × List Byte × Nat × List Byte :=
  (Objs.n c Obj.txPort e, Objs.by c Obj.txDstAddr e, Objs.n c Obj.txUdpPort e, [])

/-- The entries other than e whose key in one of the configurations is e's key in the projection (R94, R128). -/
def rivals {κ : Type} [DecidableEq κ] (layers : List Objs) (entries : Objs → List Nat) (k : Objs → Nat → κ) (c : Objs)
    (e : Nat) : List Nat :=
  (layers.flatMap fun o => (entries o).filter fun x => x != e && k o x = k c e).eraseDups

/-- Objects of an entry in which partners are equal, receive (R122) and transmit (R124). -/
def rxPairKeys : List Nat :=
  [Obj.rxEnable, Obj.rxEssence, Obj.rxPayloadType, Obj.rxTarget, Obj.rxVideoFormat, Obj.rxVideoSampling, Obj.rxAudioChannels,
   Obj.rxAudioRate, Obj.rxAudioDepth, Obj.rxPacketTime, Obj.rxPacketBytes, Obj.rxDeclaredRate, Obj.rxSenderType,
   Obj.rxBufferDelay, Obj.rxLossTimeout, Obj.rxConcealLimit, Obj.rxEmbAudioBase, Obj.rxEmbAudioGroups, Obj.rxAncDrop]

/-- As `rxPairKeys`, for transmit entries. -/
def txPairKeys : List Nat :=
  [Obj.txEnable, Obj.txEssence, Obj.txPayloadType, Obj.txSource, Obj.txSenderType, Obj.txTro, Obj.txPacketBytes,
   Obj.txVideoSampling, Obj.txAudioChannels, Obj.txAudioRate, Obj.txAudioDepth, Obj.txPacketTime, Obj.txSsrc, Obj.txCarriage,
   Obj.txEmbAudioBase, Obj.txEmbAudioGroups, Obj.txAncEnable, Obj.txAncDrop, Obj.txAncPayloadId, Obj.txDeclaredRate]

/-- Whether two entries differ in one of some objects. -/
def Objs.unequal (c : Objs) (l : List Nat) (a b : Nat) : Bool := l.any fun i => Objs.val c (adr i a) != Objs.val c (adr i b)

/-- The phase 2 checks of an enabled receive entry: FLOW_DUPLICATE, FLOW_PORT_INVALID, FLOW_PAIR_INVALID,
FLOW_TARGET_CONFLICT (R94, R96, R122). -/
def Objs.checkRx (c : Objs) (layers : List Objs) (e : Nat) : List Check :=
  let n := fun i => Objs.n c i e
  let p := n Obj.rxPartner
  let port := n Obj.rxPort
  let es := n Obj.rxEssence
  let mk := keysOf [Obj.rxEnable, Obj.rxPort, Obj.rxDstAddr, Obj.rxUdpPort, Obj.rxSrcFilter]
  let r := rivals layers Objs.rxEntries Objs.rxKey c e
  let pk := keysOf (Obj.rxPort :: Obj.rxPartner :: rxPairKeys)
  [⟨2, Code.flowDuplicate, mk e, !r.isEmpty, 0xFFFF⟩,
   ⟨2, Code.flowPortInvalid, keysOf [Obj.rxEnable, Obj.rxPort] e ++ key (portIdx port Obj.portMode) (portNo port),
      Objs.portMode c port == 0, port⟩,
   ⟨2, Code.flowTargetConflict, keysOf [Obj.rxEnable, Obj.rxEssence, Obj.rxTarget] e,
      ((es == 1 || es == 4 || es == 5) && 2047 < n Obj.rxTarget) || (es == 6 && n Obj.rxTarget != 0xFFFF), 0xFFFF⟩] ++
  (if p = 0xFFFF then [] else
    [⟨2, Code.flowPairInvalid, pk e ++ pk p,
      Objs.n c Obj.rxPartner p != e || portIsB port == portIsB (Objs.n c Obj.rxPort p) || Objs.unequal c rxPairKeys e p,
      0xFFFF⟩])

/-- Whether TxSource names an enabled OPAQUE receive entry that leads its pair (R125). -/
def Objs.opaqueSource (c : Objs) (x : Nat) : Bool :=
  Objs.b c Obj.rxEnable x && Objs.n c Obj.rxEssence x == 6 && Objs.rxLeadEntry c x == x

/-- The phase 2 checks of an enabled transmit entry: TX_DUPLICATE, TX_PORT_INVALID, TX_PAIR_INVALID, TX_SOURCE_CONFLICT
(R124 to R128, R152). TX_PORT_INVALID gives the bare port code: bit [30] of SalvoResultDetail marks the direction of a port
charge (R46, R214), which only PORT_RATE_LIMIT has. DESIGN CHOICE, notes/assumptions/84.md. -/
def Objs.checkTx (c : Objs) (layers : List Objs) (e : Nat) : List Check :=
  let n := fun i => Objs.n c i e
  let p := n Obj.txPartner
  let port := n Obj.txPort
  let es := n Obj.txEssence
  let src := n Obj.txSource
  let mk := keysOf [Obj.txEnable, Obj.txPort, Obj.txDstAddr, Obj.txUdpPort]
  let r := rivals layers Objs.txEntries Objs.sendKey c e
  let pk := keysOf (Obj.txPort :: Obj.txPartner :: txPairKeys)
  let sk := keysOf [Obj.txEnable, Obj.txEssence, Obj.txSource]
  let same := (Objs.txEntries c).filter fun x => Objs.n c Obj.txEssence x == 6 && Objs.n c Obj.txSource x == src
  [⟨2, Code.txDuplicate, mk e, !r.isEmpty, 0xFFFF⟩,
   ⟨2, Code.txPortInvalid, keysOf [Obj.txEnable, Obj.txPort] e ++ key (portIdx port Obj.portMode) (portNo port),
      Objs.portMode c port == 0, port⟩,
   ⟨2, Code.txSourceConflict, sk e, (es == 1 || es == 4 || es == 5) && 2047 < src, 0xFFFF⟩] ++
  (if p = 0xFFFF then [] else
    [⟨2, Code.txPairInvalid, pk e ++ pk p,
      Objs.n c Obj.txPartner p != e || portIsB port == portIsB (Objs.n c Obj.txPort p) || Objs.unequal c txPairKeys e p,
      0xFFFF⟩]) ++
  (if es != 6 then [] else
    [⟨2, Code.txSourceConflict, sk e ++ keysOf [Obj.rxEnable, Obj.rxEssence, Obj.rxPartner] src,
      !Objs.opaqueSource c src, 0xFFFF⟩,
     ⟨2, Code.txSourceConflict, same.flatMap sk, 8 < same.length, 0xFFFF⟩])

/-- A layer that R221 wants bound. -/
def Objs.checkLayerBound (c : Objs) (x : Nat) : Check :=
  ⟨2, Code.cqLayerBinding, keysOf [Obj.layerEnable, Obj.layerDstSlot] x,
    if x % 8 < 4 then Objs.b c Obj.layerEnable x && Objs.n c Obj.layerDstSlot x == 0xFFFF
    else Objs.n c Obj.layerDstSlot x != 0xFFFF, 0xFFFF⟩

/-- CQ_MIGRATION_CONFLICT (R245): an engine that loses its slot to another engine takes no slot itself. -/
def checkMigration (before c : Objs) (a : Nat) : Check :=
  let was := fun e => Objs.n before Obj.cqSrcSlot e
  let is := fun e => Objs.n c Obj.cqSrcSlot e
  let takers := (List.range 32).filter fun b => b != a && was a != 0xFFFF && is b == was a && was b != was a
  ⟨2, Code.cqMigrationConflict, (a :: takers).map (adr Obj.cqSrcSlot),
    !takers.isEmpty && is a != 0xFFFF && is a != was a, 0xFFFF⟩

/-- Follow the ledger layers from an engine (R225): the objects consulted, and whether the way leads back to `home`. -/
def Objs.ledgerWay (c : Objs) (home : Nat) : Nat → Nat → List Nat × Bool
  | 0, _ => ([], false)
  | n + 1, e =>
    let x := 8 * e + Objs.n c Obj.cqLedgerLayer e
    let d := Objs.n c Obj.layerDstSlot x
    let ks := keysOf [Obj.cqSrcSlot, Obj.cqLedgerLayer] e ++ key Obj.layerDstSlot x
    if d = 0xFFFF then (ks, false)
    else
      let ks := ks ++ key Obj.route d
      match routeSource (Objs.n c Obj.route d) with
      | none => (ks, false)
      | some slot =>
        match (Objs.subs c Obj.cqSrcSlot).find? fun f => Objs.n c Obj.cqSrcSlot f == slot with
        | none => (ks, false)
        | some f =>
          if f = home then (ks ++ key Obj.cqSrcSlot f, true)
          else let r := Objs.ledgerWay c home n f; (ks ++ r.1, r.2)

/-- CQ_LEDGER_LOOP (R225). -/
def Objs.checkLedger (c : Objs) (e : Nat) : Check :=
  let r := Objs.ledgerWay c e 32 e
  ⟨2, Code.cqLedgerLoop, r.1, r.2, 0xFFFF⟩

/-- AU_BUS_ORDER (R272). -/
def Objs.checkBus (c : Objs) (m : Nat) : Check :=
  ⟨2, Code.auBusOrder, key Obj.busInputSrc m,
    (chunksOf 4 128 (Objs.by c Obj.busInputSrc m)).any fun b => field (fromBe b) 28 31 == 2 && m ≤ field (fromBe b) 0 15,
    0xFFFF⟩

/-- AU_BIND_INVALID (R295). A salvo that takes away the last port or flow of the destination (`was`) counts too. -/
def Objs.checkBind (c : Objs) (sinks was : List Claim) (ch : Nat) : Check :=
  let d := Objs.n c Obj.aoBindDst ch
  let uses := fun (u : List Claim) => u.filter fun x => x.slot == d && (x.kind == 1 || x.kind == 2)
  let l := uses sinks
  ⟨2, Code.auBindInvalid, key Obj.aoBindDst ch ++ key Obj.dstReservedFormat d ++ (l ++ uses was).flatMap (fun x => x.keys),
    d != 0xFFFF && (Objs.n c Obj.dstReservedFormat d == 0 || l.isEmpty), 0xFFFF⟩

/-- MOR_CLIP_BUSY and MOR_POOL_DOWN (R434, R440). -/
def State.checkMor (s : State) (c : Objs) : List Check :=
  (Objs.records c).map (fun r =>
    let n := Objs.n c Obj.recClip r
    ⟨2, Code.morClipBusy, keysOf ([Obj.recEnable, Obj.recClip] ++ if Objs.b c Obj.recRun r then [Obj.recRun] else []) r ++
        key Obj.clipState n, (s.clip n).state != 0, 0xFFFF⟩) ++
  ((Objs.delays c).map (adr Obj.dlyEnable) ++ (Objs.records c).map (adr Obj.recEnable) ++
    (Objs.plays c).map (adr Obj.playEnable)).map fun a =>
      ⟨2, Code.morPoolDown, [a, adr Obj.morPoolState 0], s.n Obj.morPoolState 0 == 2, 0xFFFF⟩

/-- ROUTE_PROTECTED (R216): an Operator's salvo changes a route that is PROTECT in force or in the projection of R195. -/
def State.checkProtect (s : State) (c : Objs) (changes : List Change) : List Check :=
  changes.filterMap fun x =>
    if adrIndex x.addr = Obj.route then
      some ⟨2, Code.routeProtected, [x.addr],
        routeProtect (s.n Obj.route (adrSub x.addr)) || routeProtect (Objs.n c Obj.route (adrSub x.addr)), 0xFFFF⟩
    else none

/-- The checks of phase 2. `layers` are the configurations from the one in force to the projection, salvo by salvo. -/
def State.phase2 (s : State) (c before : Objs) (layers : List Objs) (changes : List Change) (role : Nat) : List Check :=
  let feeds := Objs.feedClaims c
  let sinks := Objs.sinkClaims c
  let used := Objs.sinkClaims before
  let engines := (Objs.subs c Obj.cqSrcSlot ++ Objs.subs before Obj.cqSrcSlot).eraseDups
  (if role < 2 then s.checkProtect c changes else []) ++
  Objs.checkReserved c feeds sinks ++ Objs.checkFeeds c feeds (Objs.feedClaims before) ++ Objs.checkSinks c sinks used ++
  Objs.checkSdiLanes c ++ Objs.checkQuads c ++ Objs.checkInputs c ++
  (Objs.ports c).flatMap (s.checkPort c (Objs.sdiClaims c)) ++
  (Objs.rxEntries c).flatMap (Objs.checkRx c layers) ++ (Objs.txEntries c).flatMap (Objs.checkTx c layers) ++
  ((Objs.subs c Obj.layerEnable ++ Objs.subs c Obj.layerDstSlot).eraseDups.map (Objs.checkLayerBound c)) ++
  engines.map (checkMigration before c) ++ (Objs.subs c Obj.cqSrcSlot).map (Objs.checkLedger c) ++
  (Objs.subs c Obj.busInputSrc).map (Objs.checkBus c) ++ (Objs.subs c Obj.aoBindDst).map (Objs.checkBind c sinks used) ++
  s.checkMor c

/-! ## Phase 3: formats -/

/-- The checks of a routed destination: FORMAT_MISMATCH, FOLLOW_OVER_RESERVATION, CQ_SOURCE_OVER_LAYER, COL_MISMATCH
(R197, R198, R219, R252). -/
def Objs.checkRoute (c : Objs) (sinks : List Claim) (d : Nat) : List Check :=
  match routeSource (Objs.n c Obj.route d) with
  | none => []
  | some slot =>
    let src := Objs.n c Obj.srcReservedFormat slot
    let dst := Objs.n c Obj.dstReservedFormat d
    let l := sinks.filter fun x => x.slot == d
    let uses := l.flatMap fun x => x.keys
    let layer := l.any fun x => x.kind == 3
    let lanes := (l.filter fun x => x.kind == 1).map fun x => x.item
    let ks := keysOf [Obj.route, Obj.dstFollowSource, Obj.dstReservedFormat] d ++ key Obj.srcReservedFormat slot ++ uses
    let fixed := Objs.n c Obj.dstColour d
    let colour : Check :=
      ⟨3, Code.colMismatch, keysOf [Obj.route, Obj.dstColour] d ++ uses ++
          (match Objs.feed c slot with
            | .cirque e => [adr Obj.cqSrcSlot e, adr Obj.cqOutputColour e]
            | _ => key Obj.srcColour slot),
        fixed != 0xFFFF && Objs.srcColourOf c slot != fixed, 0xFFFF⟩
    if layer then
      [⟨3, Code.cqSourceOverLayer, keysOf [Obj.route, Obj.dstReservedFormat] d ++ key Obj.srcReservedFormat slot ++ uses,
        rasterWidth (fmtRaster dst) < rasterWidth (fmtRaster src) || rasterHeight (fmtRaster dst) < rasterHeight (fmtRaster src) ||
          fmtSampling dst < fmtSampling src, 0xFFFF⟩]
    else if Objs.b c Obj.dstFollowSource d then
      [⟨3, Code.formatMismatch, ks ++ lanes.map (adr Obj.sdiTxCarriage),
          fmtSampling src != fmtSampling dst || !Objs.inFamily c d src, 0xFFFF⟩,
       ⟨3, Code.followOverReservation, ks, fmtExceeds src dst, 0xFFFF⟩, colour]
    else if l.isEmpty then [colour]
    else [⟨3, Code.formatMismatch, ks, !fmtMatch src dst, 0xFFFF⟩, colour]

/-- SDI_CARRIAGE_INVALID of an SDI transmit port (R77, R86). -/
def Objs.checkCarriage (c : Objs) (l : Nat) : Check :=
  let d := Objs.n c Obj.txSlot l
  let f := if d < 2048 then Objs.n c Obj.dstReservedFormat d else 0
  let k := Objs.n c Obj.sdiTxCarriage l
  ⟨3, Code.sdiCarriageInvalid, keysOf [Obj.txSlot, Obj.sdiTxCarriage] l ++ key Obj.dstReservedFormat d,
    (carriageQuad k && l % 4 != 0) || (f != 0 && !carries (carriageFor k f) f), 0xFFFF⟩

/-- SDI_CARRIAGE_INVALID of an ST2022_6 transmit entry (R140). -/
def Objs.checkTxCarriage (c : Objs) (e : Nat) : Check :=
  let f := Objs.txFormatOf c e
  ⟨3, Code.sdiCarriageInvalid, keysOf [Obj.txEnable, Obj.txEssence, Obj.txSource, Obj.txCarriage] e ++
      key Obj.dstReservedFormat (Objs.n c Obj.txSource e),
    f != 0 && !carries (Objs.txCarriageOf c e) f, 0xFFFF⟩

/-- FLOW_OVER_RESERVATION (R112). -/
def Objs.checkDeclared (c : Objs) (e : Nat) : Check :=
  let n := Objs.n c Obj.rxTarget e
  ⟨3, Code.flowOverReservation, keysOf [Obj.rxEnable, Obj.rxEssence, Obj.rxTarget, Obj.rxVideoFormat, Obj.rxVideoSampling] e ++
      key Obj.srcReservedFormat n,
    fmtExceeds (Objs.rxFormat c e) (Objs.n c Obj.srcReservedFormat n), 0xFFFF⟩

/-- CQ_CROP_OUTSIDE, CQ_LAYER_RATE and CQ_LINE_BUFFER of a video layer, enabled or not (R224, R226, R229). -/
def Objs.checkLayer (c : Objs) (x : Nat) : List Check :=
  let f := Objs.layerSource c x
  let out := Objs.engineFormat c (x / 8)
  let (cx, cy, w, h) := Objs.layerCrop c x
  let routed := out != 0 && (routeSource (Objs.n c Obj.route (Objs.n c Obj.layerDstSlot x))).isSome
  let ps := fmtPeriod f
  let po := fmtPeriod out
  let k := if Objs.layerField c x then 2 else 1
  let ks := Objs.layerKeys c x ++ key Obj.srcReservedFormat (Objs.n c Obj.cqSrcSlot (x / 8))
  if f = 0 || 2047 < Objs.n c Obj.layerDstSlot x then [] else
  [⟨3, Code.cqCropOutside, ks, rasterWidth (fmtRaster f) < cx + w || rasterHeight (fmtRaster f) < cy + h, 0xFFFF⟩,
   ⟨3, Code.cqLayerRate, ks, routed && 1001 * po.den * ps.num < 1000 * k * ps.den * po.num, 0xFFFF⟩,
   ⟨3, Code.cqLineBuffer, ks ++ key Obj.layerWinSize x, Objs.layerSized c x && Objs.layerTaps c x < 2, 0xFFFF⟩]

/-- CQ_ENGINE_RATE and CQ_FIRN_SPLIT of an engine (R234, R237). -/
def Objs.checkEngine (c : Objs) (e : Nat) : List Check :=
  let f := Objs.engineFormat c e
  let statics := [4, 5, 6, 7].filter fun l => Objs.b c Obj.layerStatic (8 * e + l)
  let at_ := (List.range 8).filter fun p => statics.contains ((Objs.layerOrder c e).getD p 8)
  [⟨3, Code.cqEngineRate, keysOf [Obj.cqSrcSlot, Obj.cqOrderMode] e ++ key Obj.srcReservedFormat (Objs.n c Obj.cqSrcSlot e),
      Objs.n c Obj.cqOrderMode e == 1 && 124416000 < fmtPixelRate f, 0xFFFF⟩,
   ⟨3, Code.cqFirnSplit, keysOf [Obj.cqSrcSlot, Obj.cqOrderMode, Obj.cqOrder] e ++
        [4, 5, 6, 7].map (fun l => adr Obj.layerStatic (8 * e + l)),
      at_.getLastD 0 + 1 != at_.headD 0 + at_.length && !at_.isEmpty, 0xFFFF⟩]

/-- MOR_FORMAT (R431, R435). -/
def State.checkMorFormat (s : State) (c : Objs) : List Check :=
  (Objs.delays c).map (fun l =>
    let d := Objs.n c Obj.dlyDst l
    let n := Objs.n c Obj.dlySlot l
    ⟨3, Code.morFormat, keysOf [Obj.dlyEnable, Obj.dlyDst, Obj.dlySlot] l ++ key Obj.dstReservedFormat d ++
        key Obj.srcReservedFormat n,
      Objs.n c Obj.dstReservedFormat d != Objs.n c Obj.srcReservedFormat n, 0xFFFF⟩) ++
  (Objs.plays c).map (fun p =>
    let n := Objs.n c Obj.playSlot p
    let k := Objs.n c Obj.playClip p
    ⟨3, Code.morFormat, keysOf [Obj.playEnable, Obj.playSlot, Obj.playClip] p ++ key Obj.srcReservedFormat n ++
        key Obj.clipFormat k,
      (s.clip k).format != Objs.n c Obj.srcReservedFormat n, 0xFFFF⟩)

/-- The checks of phase 3. -/
def State.phase3 (s : State) (c : Objs) : List Check :=
  let sinks := Objs.sinkClaims c
  (Objs.subs c Obj.route).flatMap (Objs.checkRoute c sinks) ++
  ((Objs.subs c Obj.txSlot ++ Objs.subs c Obj.sdiTxCarriage).eraseDups.map (Objs.checkCarriage c)) ++
  ((Objs.txEntries c).filter fun e => Objs.n c Obj.txEssence e == 5).map (Objs.checkTxCarriage c) ++
  ((Objs.rxEntries c).filter fun e => Objs.n c Obj.rxEssence e == 1).map (Objs.checkDeclared c) ++
  ((Objs.subs c Obj.cqSrcSlot ++ (Objs.subs c Obj.layerStatic).map (· / 8)).eraseDups).flatMap (Objs.checkEngine c) ++
  (Objs.videoLayers c).flatMap (Objs.checkLayer c) ++ s.checkMorFormat c

end Sys2Proof.Machine
end

