-- ==== Sys2Proof/Machine/Arm.lean ====
section
/-!
DEFINITION. ARM (R193 to R196): the capacity checks of phases 4 and 5, the refusal that a salvo meets, its read set and its
pre-joins.
-/
namespace Sys2Proof.Machine

/-! ## Phase 4: tables -/

/-- A count in the way of R97: the count in force, and what each salvo adds over the configuration before it. -/
def countOver (base : Nat) (added : Objs → Objs → Nat) (c : Objs) (l : List (List Change)) : Nat :=
  (l.foldl (fun (p : Objs × Nat) x => let d := Objs.overlay p.1 x; (d, p.2 + added p.1 d)) (c, base)).2

/-- Pages that a configuration adds (R160). -/
def pagesAdded (old new : Objs) : Nat :=
  (((Objs.srcSlots new).filter fun n => Objs.n old Obj.srcReservedFormat n != Objs.n new Obj.srcReservedFormat n).map fun n =>
    fmtPages (Objs.n new Obj.srcReservedFormat n)).sum

/-- The receive entries that take a new place (R97). -/
def rxNew (old new : Objs) : List Nat :=
  (Objs.rxEntries new).filter fun e => !Objs.b old Obj.rxEnable e || Objs.rxKey old e != Objs.rxKey new e

/-- Receive buffer that a configuration adds (R111). -/
def bufferAdded (old new : Objs) : Nat :=
  ((Objs.rxEntries new).map fun e =>
    if (rxNew old new).contains e then Objs.rxReserve new e else Objs.rxReserve new e - Objs.rxReserve old e).sum

/-- Transmit entries that a configuration enables (R127). -/
def txNew (old new : Objs) : Nat := ((Objs.txEntries new).filter fun e => !Objs.b old Obj.txEnable e).length

/-- Delay memory that a configuration adds (R295, notes/assumptions/43.md). -/
def delayAdded (old new : Objs) : Nat :=
  (((Objs.subs new Obj.aoBindDst).filter fun ch => Objs.bindBytes old ch != Objs.bindBytes new ch).map fun ch =>
    Objs.bindBytes new ch).sum

/-- The checks of phase 4 in ascending order of code: the code, and whether it fails. -/
def State.phase4 (s : State) (stack : List (List Change)) (before c : Objs) : List (Nat × Bool) :=
  [(Code.frameStoreFull, 51200 < countOver (Objs.storePages s.objs) pagesAdded s.objs stack),
   (Code.flowTableFull, 8192 < countOver (Objs.rxEntries s.objs).length (fun a b => (rxNew a b).length) s.objs stack),
   (Code.rxBufferFull,
     8589934592 < countOver ((Objs.rxEntries s.objs).map (Objs.rxReserve s.objs)).sum bufferAdded s.objs stack),
   (Code.txFlowTableFull, 8192 < countOver (Objs.txEntries s.objs).length txNew s.objs stack),
   (Code.auDelayPoolFull, 8589934592 < countOver (Objs.delayPool s.objs) delayAdded s.objs stack),
   (Code.morSpace, s.extentsAdded before c != 0 &&
     s.n Obj.morPoolExtents 0 < countOver s.extentsUsed s.extentsAdded s.objs stack),
   (Code.storeFull, storeLimit < s.storeLength (stack.foldl Objs.overlay s.recorded))]

/-! ## Phase 5: budgets (R38 to R46, R430) -/

/-- The groups that a list of slots lies in, in ascending order. -/
def groupsOf (l : List Nat) : List Nat := (List.range 128).filter fun g => l.any fun n => n / 16 == g

/-- The share of Moraine's bandwidth that streams may take (R430). -/
def State.morBandwidth (s : State) (c : Objs) : Nat :=
  min 43000000000 ((([0, 1, 2, 3].filter fun d => s.n Obj.morDriveState d == 1).map fun d =>
    driveRate (Objs.n c Obj.morDriveRate d) (s.n Obj.morDriveLink d)).sum * 8 / 10)

/-- Moraine streams of a configuration: writes and reads. -/
def Objs.morStreams (c : Objs) : Nat × Nat :=
  ((Objs.delays c).length + (Objs.records c).length, (Objs.delays c).length + (Objs.plays c).length)

/-- MOR_STREAMS (R430). A salvo that adds no stream and no charge and leaves the drives' rates alone is not refused
(notes/assumptions/43.md). -/
def State.morStreamsBad (s : State) (stack : List (List Change)) (before c : Objs) : Bool :=
  let adds := Objs.morWrite before < Objs.morWrite c || Objs.morRead before < Objs.morRead c ||
    (Objs.morStreams before).1 < (Objs.morStreams c).1 || (Objs.morStreams before).2 < (Objs.morStreams c).2 ||
    [0, 1, 2, 3].any fun d => Objs.differs before c Obj.morDriveRate d
  let w := projectNat Objs.morWrite s.objs stack
  let r := projectNat Objs.morRead s.objs stack
  adds && (64 < projectNat (fun o => (Objs.morStreams o).1) s.objs stack ||
    64 < projectNat (fun o => (Objs.morStreams o).2) s.objs stack ||
    21500000000 < w || 21500000000 < r || s.morBandwidth c < w + r)

/-- The checks of phase 5 in their order (R46): the code, the group or port at fault, and whether it fails. -/
def State.phase5 (s : State) (stack : List (List Change)) (before c : Objs) : List (Nat × Nat × Bool) :=
  (groupsOf (Objs.srcSlots c)).map (fun g =>
    (Code.writerGroupFull, g, decide (4752000000 < projectNat (fun o => Objs.writerGroup o g) s.objs stack))) ++
  (groupsOf (Objs.dstSlots c)).map (fun g =>
    (Code.readerGroupFull, g, decide (4752000000 < projectNat (fun o => Objs.readerGroup o g) s.objs stack))) ++
  [(Code.payloadInLimit, 0xFFFF, decide (12800000000000 < projectNat Objs.payloadIn s.objs stack)),
   (Code.payloadOutLimit, 0xFFFF, decide (12800000000000 < projectNat Objs.payloadOut s.objs stack))] ++
  (Objs.ports c).flatMap (fun p =>
    let lim := (modeRate (Objs.portMode c p) * 96, 100)
    [(Code.portRateLimit, p, gtFrac (projectFrac (fun o => Objs.portCharge o p false) s.objs stack) lim),
     (Code.portRateLimit, p + 0x4000, gtFrac (projectFrac (fun o => Objs.portCharge o p true) s.objs stack) lim)]) ++
  [(Code.hbmBudget, 0xFFFF, decide (4200000000000 < projectNat Objs.hbmCharge s.objs stack)),
   (Code.morStreams, 0xFFFF, s.morStreamsBad stack before c)]

/-! ## The whole of ARM -/

/-- SalvoResultDetail (R214): phase, change and group or port. -/
def armDetail (phase change at_ : Nat) : Nat := change + phase * 4096 + 65536 * at_

/-- What the checks read at an address: the clips and the pool as they stand, everything else from the projection. -/
def State.checkVal (s : State) (c : Objs) (a : Nat) : Val :=
  let k := s.clip (adrSub a)
  if adrIndex a = Obj.clipState then .num k.state
  else if adrIndex a = Obj.clipFormat then .num k.format
  else if adrIndex a = Obj.clipFrames then .num k.frames.length
  else Objs.val c a

/-- The numbers of the changes that a check consults. -/
def Check.changes (x : Check) (l : List Change) : List Nat :=
  (l.filter fun y => x.keys.contains y.addr).map fun y => y.number

/-- Whether one refusal of a phase comes before another: by change, then by code (R193). -/
def refusalLe (a b : Nat × Nat × Nat) : Bool := a.1 < b.1 || (a.1 == b.1 && a.2.1 ≤ b.2.1)

/-- The first failing check of a phase: change, code, port. A check that involves several changes counts for the one with
the highest number (R194). -/
def firstRefusal (checks : List Check) (l : List Change) : Option (Nat × Nat × Nat) :=
  let bad := checks.filterMap fun x =>
    let n := x.changes l
    if x.bad && !n.isEmpty then some (n.foldl max 0, x.code, x.at_) else none
  match bad with
  | [] => none
  | a :: t => some (t.foldl (fun m x => if refusalLe m x then m else x) a)

/-- The result of an ARM: a refusal with its code and detail, or the read set and the pre-joined entries. -/
inductive ArmResult where
  | refused (code detail : Nat)
  | passed (reads : List ReadEntry) (prejoined : List Nat)
  deriving DecidableEq, Repr

/-- The configurations from the one in force on, salvo by salvo. -/
def layersOf (c : Objs) : List (List Change) → List Objs
  | [] => [c]
  | x :: l => c :: layersOf (Objs.overlay c x) l

/-- The changes of the ARMED and PENDING salvos other than one, in their order. -/
def State.heldChanges (s : State) (but : Nat) : List (List Change) :=
  (s.heldSalvos.filter fun x => x.1 != but).map fun x => x.2.changes

/-- The refusal of the capacity checks (R193). -/
def State.capacityRefusal (s : State) (stack : List (List Change)) (before c : Objs) : Option (Nat × Nat) :=
  match (s.phase4 stack before c).find? fun x => x.2 with
  | some x => some (x.1, armDetail 4 0xFFF 0xFFFF)
  | none => match (s.phase5 stack before c).find? fun x => x.2.2 with
    | some x => some (x.1, armDetail 5 0xFFF x.2.1)
    | none => none

/-- ARM of a salvo's changes (R193 to R195). -/
def State.armChecks (s : State) (n : Nat) (l : List Change) (role : Nat) : ArmResult :=
  if l.isEmpty then .refused Code.salvoEmpty (armDetail 0 0xFFF 0xFFFF)
  else
    let held := s.heldChanges n
    let before := held.foldl Objs.overlay s.objs
    let c := Objs.overlay before l
    let stack := held ++ [l]
    let touched := fun i => l.filterMap fun x => if adrIndex x.addr = i then some (adrSub x.addr) else none
    let p1 := s.phase1 c touched
    let p2 := s.phase2 c before (layersOf s.objs stack) l role
    let p3 := s.phase3 c
    match firstRefusal p1 l, firstRefusal p2 l, firstRefusal p3 l with
    | some x, _, _ => .refused x.2.1 (armDetail 1 x.1 x.2.2)
    | none, some x, _ => .refused x.2.1 (armDetail 2 x.1 x.2.2)
    | none, none, some x => .refused x.2.1 (armDetail 3 x.1 x.2.2)
    | none, none, none =>
      match s.capacityRefusal stack before c with
      | some x => .refused x.1 x.2
      | none =>
        let mine := (p1 ++ p2 ++ p3).filter fun x => !(x.changes l).isEmpty
        let keys := (mine.flatMap fun x => x.keys).eraseDups.filter fun a =>
          !(l.any fun y => y.addr == a) && (dictRow (adrIndex a) (adrSub a)).isSome
        .passed (keys.map fun a => ⟨a, s.checkVal c a⟩) (rxNew before c ++ rxNew s.objs (Objs.overlay s.objs l)).eraseDups

/-- Whether a read set differs from how its objects will stand at a boundary (R203): the configuration in force overlaid
with the salvos already accepted for that boundary or an earlier one. -/
def State.readsStale (s : State) (n boundary : Nat) : Bool :=
  let l := s.heldSalvos.filter fun x => x.1 != n && x.2.state == .pending && x.2.boundary ≤ boundary
  let c := l.foldl (fun o x => Objs.overlay o x.2.changes) s.objs
  (s.salvo n).reads.any fun r => s.checkVal c r.addr != r.val

end Sys2Proof.Machine
end

