-- ==== Sys2Proof/Machine/Commit.lean ====
section
/-!
DEFINITION. A commit (R8 to R11, R204, R205, R614): values take force at a house frame boundary, and the blocks meet them.
-/
namespace Sys2Proof.Machine

/-- The subindices at which any of some objects differs between two configurations. -/
def Objs.moved (a b : Objs) (indices : List Nat) : List Nat :=
  ((a ++ b).filterMap fun p =>
    if indices.contains (adrIndex p.1) && Objs.val a p.1 != Objs.val b p.1 then some (adrSub p.1) else none).eraseDups

/-- The routes that a list of changes moves take the boundary and the salvo, 0xFF for none (R213), and wait for the switching
point of their destination (R170). -/
def State.markRoutes (s : State) (old : Objs) (l : List Change) (salvo boundary : Nat) : State :=
  l.foldl (fun t c =>
    let d := adrSub c.addr
    if adrIndex c.addr = Obj.route && Objs.val old c.addr != Objs.val t.objs c.addr then
      ((t.setN Obj.routeTakenAt d (boundary / tcNs)).setN Obj.routeSalvo d salvo).setDst d { t.dst d with
        routes := (t.dst d).routes ++ [(boundary, t.n Obj.route d)] }
    else t) s

/-- The labels of destinations that a TAKE changes wait for the switching point, as its routes do (R252). -/
def State.markLabels (s : State) (old : Objs) (boundary : Nat) : State :=
  if (Objs.moved old s.objs [Obj.route, Obj.dstColour, Obj.srcColour, Obj.cqOutputColour, Obj.cqSrcSlot]).isEmpty then s
  else (Objs.dstSlots s.objs).foldl (fun t d =>
    let is := Objs.labelOf s.objs d (s.n Obj.route d)
    if Objs.labelOf old d (Objs.n old Obj.route d) = is then t
    else t.setDst d { t.dst d with labels := (t.dst d).labels ++ [(boundary, is)] }) s

/-- Frame stores follow their reserved formats (R161): a new store starts with the next frame, and a slot without a format
has none. -/
def State.moveStores (s : State) (old : Objs) : State :=
  (Objs.moved old s.objs [Obj.srcReservedFormat]).foldl (fun t n =>
    let x := t.src n
    if t.n Obj.srcReservedFormat n = 0 then
      t.setSrc n { x with frames := [], newStore := false, opening := false, oldPages := 0 }
    else t.setSrc n { x with newStore := true, oldPages := x.oldPages + fmtPages (Objs.n old Obj.srcReservedFormat n) }) s

/-- A destination that feeds nothing, or has no reserved format, is unused (R181). -/
def State.unuseDst (s : State) (d : Nat) : State :=
  if s.n Obj.dstState d = 0 || (s.n Obj.dstReservedFormat d != 0 && Objs.sink s.objs d != .none) then s
  else ((s.setN Obj.dstState d 0).setN Obj.dstFormatLive d 0).setDst d { s.dst d with shown := none }

/-- The blocks meet a configuration that has taken force at a boundary: frame stores, lanes, engines, ports, flows, slots,
audio, group membership and Moraine. -/
def State.meetCommit (s : State) (old : Objs) (changes : List Change) (boundary : Nat) : State :=
  if s.objs = old && changes.isEmpty then s
  else
    let t := s.moveStores old
    let lanes := (Objs.moved old t.objs [Obj.rxSlot, Obj.rxQuad, Obj.rxAudioBase, Obj.rxAudioGroups]).flatMap fun l =>
      [0, 1, 2, 3].map (quadLead l + ·)
    let t := lanes.eraseDups.foldl State.refreshLane t
    let t := ((Objs.moved old t.objs [Obj.rxSlot, Obj.rxQuad]).map quadLead).eraseDups.foldl (fun u q => u.regroup old q) t
    let t := (t.cirqueCommit old boundary).portCommit old
    let t := (t.rxCommit old).txCommit old boundary
    let t := t.refreshSlots ((Objs.srcSlots old ++ Objs.srcSlots t.objs).eraseDups)
    let t := (t.corniceCommit old (boundary / tcNs)).syncMembership
    let t := (Objs.moved old t.objs [Obj.tarnAiBase, Obj.tarnAiCount, Obj.tarnAoBase, Obj.tarnAoCount]).foldl State.refreshSrc t
    let t := t.morCommit old changes boundary
    let t := (Objs.subs t.objs Obj.dstState).foldl State.unuseDst t
    (Objs.txEntries t.objs).foldl State.refreshSdp t

/-- The Frame-class writes due at a boundary or before (R9, R11), in order of acknowledgement, and a state without them. -/
def State.dueWrites (s : State) (b : Nat) : List Change × State :=
  let due := s.ce.frameWrites.filter fun w => w.due ≤ b
  (due.map fun w => ⟨0, w.addr, w.val⟩, { s with ce := { s.ce with frameWrites := s.ce.frameWrites.filter fun w => b < w.due } })

/-- The flips among changes that take force are due at the boundary (R236, R263); their objects hold no value. -/
def State.flips (s : State) (l : List Change) (b : Nat) : State :=
  l.foldl (fun t c =>
    let i := adrIndex c.addr
    let n := adrSub c.addr
    if i = Obj.layerGfxFlip then
      let u := t.toDefault i n
      if c.val = .num 1 then u.gfxFlip n b else u
    else if i = Obj.colTableFlip then
      let u := t.toDefault i n
      if c.val = .num 1 then u.tableFlip n b else u
    else t) s

/-- One salvo becomes DONE (R204): its values are in force, and a Frame-class value that it wrote is the last one written. -/
def State.salvoDone (s : State) (n : Nat) : State :=
  let x := s.salvo n
  let t := { s with objs := Objs.overlay s.objs x.changes }
  let t := ((t.markRoutes s.objs x.changes n x.boundary).markLabels s.objs x.boundary).flips x.changes x.boundary
  let t := t.setSalvo n { x with state := .done, reads := [], prejoined := [] }
  let t := if t.active then { t with ce := { t.ce with executed := t.ce.executed ++ [(n, x.boundary)] } } else t
  let data := beBytes 1 n ++ beBytes 2 x.changes.length ++ ptpBytes (x.boundary / tcNs) ++ zeros 27
  ((t.bump Obj.takesExecuted 0).journal 2 data).raise Ev.salvoTaken n

/-- The salvos accepted for boundaries up to one, by boundary and then by precedence (R204, R212). -/
def State.dueSalvos (s : State) (b : Nat) : List (Nat × Salvo) :=
  s.heldSalvos.filter fun x => x.2.state == .pending && x.2.boundary ≤ b

/-- The boundaries up to one at which something is due, in order. More than one are due where a boundary has been passed by
a step of the counter, or at a takeover (R382). -/
def State.duePoints (s : State) (b : Nat) : List Nat :=
  sortBy (fun (x y : Nat) => decide (x ≤ y)) ((((s.ce.frameWrites.map fun w => w.due).filter fun x => x ≤ b) ++
    ((s.dueSalvos b).map fun x => x.2.boundary)).eraseDups)

/-- What is due at one boundary (R204): the Frame-class writes, then the salvos. -/
def State.applyPoint (s : State) (b : Nat) : State :=
  let (writes, t) := s.dueWrites b
  let t := { t with objs := Objs.overlay t.objs writes }
  let t := t.flips writes b
  (t.dueSalvos b).foldl (fun u x => u.salvoDone x.1) t

/-- A boundary (R204): everything due, and then the blocks meet the whole. -/
def State.executeBoundary (s : State) (b : Nat) : State :=
  let changes := (s.dueSalvos b).flatMap fun x => x.2.changes
  (((s.duePoints b).foldl State.applyPoint s).meetCommit s.objs changes b).keptWrites (s.dueWrites b).1

end Sys2Proof.Machine
end

