-- ==== Sys2Proof/Machine/Salvo.lean ====
section
/-!
DEFINITION. The commit engine (R187 to R203, R206, R207, R212): the operations of a salvo, the mirror to the standby and
the answers.
-/
namespace Sys2Proof.Machine

/-! ## Answers (R468) -/

/-- The answer to a salvo operation (R468). -/
def State.replySalvo (s : State) (e : EngineOp) (n status detail change boundary : Nat) : State :=
  let x := s.salvo n
  s.reply e.asker 0x30 status detail (.salvo n x.state.code x.changes.length change (boundary / tcNs))

/-- An operation refused without effect. -/
def State.refuseSalvo (s : State) (e : EngineOp) (n status : Nat) : State := s.replySalvo e n status 0 0xFFFF 0

/-! ## Building a salvo (R187, R188) -/

/-- The salvo that OPEN assigns (R188): the lowest FREE one, else the DONE one with the oldest boundary. -/
def State.openChoice (s : State) : Option Nat :=
  let all := List.range 16
  match all.find? fun n => (s.salvo n).state == .free with
  | some n => some n
  | none =>
    (sortBy (fun (a b : Nat × Nat) => decide (a.2 ≤ b.2)) ((all.filter fun n => (s.salvo n).state == .done).map fun n =>
      (n, (s.salvo n).boundary))).head?.map fun x => x.1

/-- A salvo's state in which an operation of R189 is allowed. -/
def SalvoOp.allowed (o : SalvoOp) (st : SalvoState) : Bool :=
  match o with
  | .open_ => true
  | .add _ _ _ => st == .staged
  | .remove _ _ => st == .staged
  | .clear _ => st == .staged
  | .arm _ => st == .staged
  | .disarm _ => st == .armed
  | .take _ implicit _ => st == .armed || (st == .staged && implicit)
  | .discard _ => st == .staged || st == .armed || st == .done

/-- Whether a session may send an operation (R189): the owner, for DISCARD any Owner session too; OPEN and TAKE any
session from Operator up. -/
def State.mayOperate (s : State) (e : EngineOp) (role : Nat) : Bool :=
  let own := (s.salvo e.op.number).owner == e.session
  match e.op with
  | .open_ => 1 ≤ role
  | .take _ _ _ => 1 ≤ role
  | .discard _ => own || role == 3
  | _ => own

/-- The refusal of an operation before it is handled (R189, R192, R202, R621). -/
def State.salvoRefusal (s : State) (e : EngineOp) (role : Nat) : Option Nat :=
  let isTake := match e.op with
    | .take _ _ _ => true
    | _ => false
  let free := match e.op with
    | .open_ => true
    | .take _ _ _ => true
    | _ => false
  if s.standby then some Code.twinStandby
  else if !e.op.allowed (s.salvo e.op.number).state then some Code.salvoState
  else if isTake && s.boot.softWait then some Code.salvoState
  else if !s.mayOperate e role then some (if free then Code.roleTooLow else Code.salvoNotOwner)
  else none

/-- The number that ADD gives a new change, and the changes renumbered from 0 where it would exceed 4,095 (R187). -/
def newChange (l : List Change) : Nat × List Change :=
  let next := (l.map fun x => x.number + 1).foldl max 0
  if next ≤ 4095 then (next, l) else (l.length, l.zipIdx.map fun (x : Change × Nat) => { x.1 with number := x.2 })

/-- Whether an object is at a subindex whose item does not take it: a video-only object of a graphics layer, or a graphics-only
object of a video layer (R247); a shaper or LUT object of a graphics stage, or ColGfxColour of another (R267); a group object of a
member lane (R84); SrcColour of an engine's slot (R251, R266). -/
def Objs.itemRefuses (c : Objs) (a : Nat) : Bool :=
  let i := adrIndex a
  let n := adrSub a
  let video := (Obj.layerDstSlot ≤ i && i ≤ Obj.layerScan)
  let graphics := (Obj.layerStatic ≤ i && i ≤ Obj.layerGfxFlip) || i == Obj.colGfxColour
  let table := Obj.colShaperEnable ≤ i && i ≤ Obj.colTableFlip
  let engine := match Objs.feed c n with
    | .cirque _ => true
    | _ => false
  (video && !layerVideo n) || (graphics && layerVideo n) || (table && !stageHasTables n) || Objs.onMember c a ||
    (i == Obj.srcColour && engine)

/-- What ADD checks of a change (R187), over the configuration that the salvo's changes so far make: the value, or the status. -/
def addCheck (c : Objs) (role a : Nat) (value : List Byte) : Nat ⊕ Val :=
  match dictRow (adrIndex a) (adrSub a) with
  | none => .inl Code.salvoObjectInvalid
  | some r =>
    if Objs.itemRefuses c a then .inl Code.salvoObjectInvalid
    else if role < r.role then .inl Code.roleTooLow
    else if r.commit != .take && r.commit != .frame then .inl Code.salvoObjectInvalid
    else match r.value value with
      | some v => .inr v
      | none => .inl Code.salvoObjectInvalid

/-- A change put into a salvo's changes (R187): in place of the one for its object, or with a new number; none where the
salvo is full. -/
def addChange (l : List Change) (a : Nat) (v : Val) : Option (Nat × List Change) :=
  match l.find? fun x => x.addr == a with
  | some old => some (old.number, l.map fun x => if x.addr = a then { x with val := v } else x)
  | none =>
    if 4096 ≤ l.length then none
    else let p := newChange l; some (p.1, p.2 ++ [⟨p.1, a, v⟩])

/-- OPEN, ADD, REMOVE and CLEAR (R187 to R189). -/
def State.editSalvo (s : State) (e : EngineOp) (role : Nat) : State :=
  let n := e.op.number
  let x := s.salvo n
  match e.op with
  | .open_ => match s.openChoice with
    | none => s.refuseSalvo e 0xFF Code.salvoLimit
    | some k =>
      (s.setSalvo k { ({} : Salvo) with state := .staged, owner := e.session, role := role }).replySalvo e k 0 0 0xFFFF 0
  | .add _ a value => match addCheck (Objs.overlay s.objs x.changes) role a value with
    | .inl st => s.refuseSalvo e n st
    | .inr v => match addChange x.changes a v with
      | none => s.refuseSalvo e n Code.salvoFull
      | some (k, l) => (s.setSalvo n { x with changes := l }).replySalvo e n 0 0 k 0
  | .remove _ a =>
    (s.setSalvo n { x with changes := x.changes.filter fun y => y.addr != a }).replySalvo e n 0 0 0xFFFF 0
  | .clear _ => (s.setSalvo n { x with changes := [] }).replySalvo e n 0 0 0xFFFF 0
  | _ => s

/-! ## The mirror (R206, R207) -/

/-- SalvoMirror where no mirror is sent. -/
def State.noMirror (s : State) : Nat := if s.n Obj.twinRole 0 = 0 then 0 else 2

/-- A salvo's record goes to the standby, and the engine waits (R206, R207). -/
def State.sendMirror (s : State) (e : EngineOp) (isTake : Bool) (state candidate : Nat) : State :=
  let n := e.op.number
  { s with ce := { s.ce with wait := some ⟨e, isTake, candidate, s.now, false⟩ } }.emit
    (.twinMirror n state (s.salvo n).owner (candidate / tcNs) (s.salvo n).changes)

/-- SalvoMirror records an outcome. -/
def State.setMirror (s : State) (n m : Nat) : State := s.setSalvo n { s.salvo n with mirror := m }

/-! ## ARM (R193 to R196) -/

/-- A refusal of ARM or TAKE is recorded (R214). -/
def State.salvoResult (s : State) (n code detail : Nat) : State :=
  s.setSalvo n { s.salvo n with result := code, detail := detail }

/-- ARM is decided: the salvo becomes ARMED (R193); one whose owner has left is discarded (R191). -/
def State.armDone (s : State) (n mirror : Nat) : State :=
  let x := s.salvo n
  let t := (s.setSalvo n { x with state := .armed, armedAt := s.ptp, mirror := mirror, result := 0, detail := 0 }).raise
    Ev.salvoArmed n
  if x.owner = 0xFFFF then (t.freeSalvo n).raise Ev.salvoSessionDiscard n else t

/-- The checks pass: the projection and the pre-joins are installed (R100, R130, R193). -/
def State.install (s : State) (n : Nat) (reads : List ReadEntry) (pre : List Nat) : State :=
  let t := s.setSalvo n { s.salvo n with state := .arming, reads := reads, prejoined := pre }
  let t := pre.foldl (fun u e => if (u.heldSalvos.any fun x => x.1 != n && x.2.prejoined.contains e) then u else u.setPre e {}) t
  let t := pre.foldl (fun u e => if u.b Obj.rxEnable e || u.n Obj.rxFlowState e != 0 then u else u.setN Obj.rxFlowState e 1) t
  ((s.salvo n).enablesTx.foldl (fun u e => if u.b Obj.txEnable e then u else u.setN Obj.txFlowState e 1) t).syncMembership

/-- The checks of ARM: a refusal leaves the salvo STAGED and is the operation's answer; none of them leaves it installed. -/
def State.armStart (s : State) (e : EngineOp) (n : Nat) : Bool × State :=
  match s.armChecks n (s.salvo n).changes (s.salvo n).role with
  | .refused code detail =>
    let t := ((s.salvoResult n code detail).bump Obj.armRefusals 0).raise Ev.salvoRefused n
    (false, t.replySalvo e n code detail 0xFFFF 0)
  | .passed reads pre => (true, s.install n reads pre)

/-! ## TAKE (R201 to R203, R212) -/

/-- The boundary that R201 gives a TAKE accepted now. -/
def State.takeBoundary (s : State) (at_ : Option Nat) : Nat :=
  match at_ with
  | none => s.boundaryAfterDeadline
  | some t => gridPoint s.house (gridNext s.house (tcNs * t))

/-- Whether a boundary of mode AT is too near or too far (R201). -/
def State.takeTiming (s : State) (at_ : Option Nat) (b : Nat) : Option Nat :=
  if at_.isNone then none
  else if b < s.tc + deadline then some Code.takeLate
  else if s.tc + 3600 * tcSec < b then some Code.takeTooFar
  else none

/-- Whether a TAKE already accepted precedes another (R212): a FENCE of the other's session separates them. -/
def State.precedes (s : State) (x : Salvo) (e : EngineOp) : Bool :=
  (s.session e.session).elim false fun z => z.fences.any fun f =>
    f.complete && f.seq < e.seq &&
      ((x.takeSession == e.session && x.takeSeq < f.seq) ||
        (f.scope == 1 && (x.accepted ≤ f.takes || f.late.contains x.accepted)))

/-- ORDER_CONFLICT (R212): a TAKE accepted for the boundary touches the salvo and does not precede its TAKE. -/
def State.orderConflict (s : State) (e : EngineOp) (n b : Nat) : Bool :=
  let mine := (s.salvo n).changes
  s.ce.salvos.any fun (p : Nat × Salvo) =>
    p.1 != n && p.2.state == .pending && p.2.boundary == b &&
      (p.2.changes.any fun y => mine.any fun z => z.addr == y.addr) && !s.precedes p.2 e

/-- A TAKE is refused once its state allows it: SalvoResult has the code. -/
def State.refuseTake (s : State) (e : EngineOp) (n code : Nat) : State := (s.salvoResult n code 0).refuseSalvo e n code

/-- The place of a TAKE among its session's messages (R212): its own number, or behind the last one for a gate call, which
counts one more than it (notes/assumptions/30.md). -/
def EngineOp.place (e : EngineOp) : Nat :=
  match e.asker with
  | .ticket _ => e.seq - 1
  | _ => e.seq

/-- The FENCEs that wait for a TAKE note its acceptance: it lies before them (R212). -/
def State.noteLate (s : State) (e : EngineOp) (k : Nat) : State :=
  { s with il := { s.il with sessions := s.il.sessions.map fun (p : Nat × Session) =>
      (p.1, { p.2 with fences := p.2.fences.map fun (f : Fence) =>
        if f.waits.contains (e.slot e.place) then { f with late := f.late ++ [k] } else f }) } }

/-- A TAKE is accepted: the salvo is PENDING (R190, R201). -/
def State.acceptTake (s : State) (e : EngineOp) (n b mirror : Nat) : State :=
  let k := s.ce.takes + 1
  let t := { s with ce := { s.ce with takes := k } }.noteLate e k
  let t := t.setSalvo n { t.salvo n with
    state := .pending
    boundary := b
    accepted := k
    takeSession := e.session
    takeSeq := e.place
    mirror := mirror
    result := 0
    detail := 0 }
  t.replySalvo e n 0 0 0xFFFF b

/-- Steps 3 to 5 of R202 for the boundary that acceptance now would give; the deadline is that of acceptance
(notes/assumptions/45.md). -/
def State.takeSteps (s : State) (e : EngineOp) (n : Nat) (at_ : Option Nat) : State :=
  let b := s.takeBoundary at_
  if s.readsStale n b then
    (((s.unarm n).bump Obj.staleTakes 0).raise Ev.salvoStale n).refuseTake e n Code.armStale
  else if s.orderConflict e n b then
    ((s.bump Obj.orderConflicts 0).raise Ev.takeConflict n).refuseTake e n Code.orderConflict
  else match s.takeTiming at_ b with
    | some c => s.refuseTake e n c
    | none => if s.mirrors then s.sendMirror e true 4 b else s.acceptTake e n b s.noMirror

/-- The TAKE record has been acknowledged, or its time is up (R202, R207): a boundary now too near moves in mode NEXT. -/
def State.takeMirrored (s : State) (e : EngineOp) (n candidate mirror : Nat) (at_ : Option Nat) : State :=
  if s.takeBoundary at_ != candidate then s.takeSteps e n at_
  else match s.takeTiming at_ candidate with
    | some c => s.refuseTake e n c
    | none => s.acceptTake e n candidate mirror

/-! ## The engine (R196) -/

/-- DISARM or DISCARD takes effect (R189). -/
def State.release (s : State) (e : EngineOp) (n : Nat) : State :=
  match e.op with
  | .discard _ => (s.freeSalvo n).replySalvo e n 0 0 0xFFFF 0
  | _ => (s.unarm n).replySalvo e n 0 0 0xFFFF 0

/-- An operation that no mirror holds up any more goes on: a TAKE to its steps, and every other to its end. -/
def State.afterArm (s : State) (e : EngineOp) (n mirror : Nat) : State :=
  let t := s.armDone n mirror
  match e.op with
  | .take _ _ at_ => if (t.salvo n).state = .armed then t.takeSteps e n at_ else t.refuseSalvo e n Code.salvoState
  | _ => t.replySalvo e n 0 0 0xFFFF 0

/-- ARM, alone or within a TAKE. -/
def State.armOp (s : State) (e : EngineOp) (n : Nat) : State :=
  let (ok, t) := s.armStart e n
  if !ok then t
  else if t.mirrors then t.sendMirror e false 3 0
  else t.afterArm e n t.noMirror

/-- One operation of the engine, from its checks on. -/
def State.runOp (s : State) (e : EngineOp) : State :=
  let n := e.op.number
  let role := (s.session e.session).elim 0 fun z => z.role
  match s.salvoRefusal e role with
  | some c => s.refuseSalvo e n c
  | none => match e.op with
    | .arm _ => s.armOp e n
    | .take _ _ at_ => if (s.salvo n).state = .staged then s.armOp e n else s.takeSteps e n at_
    | .disarm _ => if s.mirrors then s.sendMirror e false 1 0 else (s.setMirror n s.noMirror).release e n
    | .discard _ => if s.mirrors then s.sendMirror e false 0 0 else s.release e n
    | _ => s.editSalvo e role

/-- The operations that wait are handled until one waits for the standby. -/
def State.pump : Nat → State → State
  | 0, s => s
  | k + 1, s => match s.ce.wait, s.ce.queue with
    | none, e :: rest => State.pump k ({ s with ce := { s.ce with queue := rest } }.runOp e)
    | _, _ => s

/-- Whether an operation goes through the engine's queue (R196), or must keep the order of its session behind one that
does (R208). -/
def State.mustQueue (s : State) (e : EngineOp) : Bool :=
  let same := fun (x : EngineOp) => x.session == e.session && x.op.number == e.op.number
  let behind := (s.ce.wait.elim false fun w => same w.op) || s.ce.queue.any same
  s.ce.wait.isSome && match e.op with
    | .open_ => false
    | .add _ _ _ => behind
    | .remove _ _ => behind
    | .clear _ => behind
    | _ => true

/-- An operation reaches the commit engine. -/
def State.toEngine (s : State) (e : EngineOp) : State :=
  if s.mustQueue e then { s with ce := { s.ce with queue := s.ce.queue ++ [e] } } else s.runOp e

/-- The standby has acknowledged what the engine sent, or 2.0 ms have passed: the operation goes on, and then the ones
behind it. -/
def State.mirrorEnd (s : State) (mirror : Nat) : State :=
  match s.ce.wait with
  | none => s
  | some w =>
    let n := w.op.op.number
    let t := { s with ce := { s.ce with wait := none } }
    let t := if w.gone then t.refuseSalvo w.op n Code.salvoState
      else if w.isTake then
        match w.op.op with
        | .take _ _ at_ => t.takeMirrored w.op n w.candidate mirror at_
        | _ => t
      else match w.op.op with
        | .arm _ => t.afterArm w.op n mirror
        | .take _ _ _ => t.afterArm w.op n mirror
        | _ => (t.setMirror n mirror).release w.op n
    State.pump t.ce.queue.length t

/-- SALVO_MIRROR_ACK (R206): the standby acknowledges an ARM, DISARM or DISCARD within 2.0 ms. -/
def execSalvoMirrorAck (dt n : Nat) (s : State) : Result :=
  actIf dt s (fun t => t.ce.wait.elim false fun w => !w.isTake && w.op.op.number == n && t.now ≤ w.sentAt + 2000000) fun t =>
    t.mirrorEnd 1

/-- TAKE_MIRROR_ACK (R207): the standby acknowledges a TAKE record within 2.0 ms. -/
def execTakeMirrorAck (dt n : Nat) (s : State) : Result :=
  actIf dt s (fun t => t.ce.wait.elim false fun w => w.isTake && w.op.op.number == n && t.now ≤ w.sentAt + 2000000) fun t =>
    t.mirrorEnd 1

end Sys2Proof.Machine
end

