-- ==== Sys2Proof/Machine/Twin.lean ====
section
/-!
DEFINITION. Twin operation (chapter 12): the arbiter's patterns, status blocks, readiness and soundness, the mirror, writes
that are written through, resyncs, and the changes of role. The subject of every twin event is the device's side.
-/
namespace Sys2Proof.Machine

/-! ## Standing -/

/-- Whether the device belongs to a pair (R365). -/
def State.paired (s : State) : Bool := s.b Obj.twinPaired 0

/-- Whether the link counts as UP for twin purposes (R379). -/
def State.twinUp (s : State) : Bool := s.n Obj.twinLinkState 0 == 1

/-- Whether messages pass over the Saddle link. -/
def State.linked (s : State) : Bool := s.paired && s.n Obj.saddleState 0 == 4

/-- A twin event. -/
def State.raiseTwin (s : State) (source : Nat) : State := s.raise source (s.n Obj.twinSide 0)

/-- Sound (R369). An expiry of the watchdog restarts the device at once (R529), so no expiry has come since the last restart. -/
def State.sound (s : State) : Bool :=
  s.boot.started && s.live && s.n Obj.healthState 0 != 2 && !s.b Obj.twinHealthHold 0

/-- Fit (R369). -/
def State.fit (s : State) : Bool := s.sound && (!s.standby || s.n Obj.twinReadiness 0 != 0)

/-- The versions that R380 compares with the peer's. -/
def State.imageVersions (s : State) : List Nat := [s.up.patchVersion, s.up.uplandVersion, s.up.storeVersion]

/-- Whether an image differs from the peer's (R380). -/
def State.imageMismatch (s : State) : Bool := s.tw.peerBlock.elim false fun b => b.images != s.imageVersions

/-- The bits of TwinNotReady as the standby evaluates them (R380). -/
def State.notReadyBits (s : State) : Nat :=
  let ws := s.n Obj.wsState 0
  b2n (!s.twinUp) +
    2 * b2n (s.twinUp && (s.tw.peerBlock.elim false fun b => b.side == s.n Obj.twinSide 0)) +
    4 * b2n s.imageMismatch +
    8 * b2n s.tw.resyncNeeded +
    16 * b2n (s.n Obj.twinStaleLimit 0 < s.n Obj.twinCopyStale 0) +
    32 * b2n (1000 < (s.i Obj.twinPeerOffset 0).natAbs || (ws != 2 && ws != 3)) +
    64 * b2n s.tw.mirrorLost +
    128 * b2n (!s.sound)

/-- The standby evaluates its readiness (R380). -/
def State.readyStandby (s : State) : State :=
  let old := s.n Obj.twinReadiness 0
  let bits := s.notReadyBits
  let held := !s.twinUp && old != 0 && !bit bits 7
  let new := if held then 2 else if bits = 0 then 1 else 0
  let bits := if held then setBit (setBit bits 4 false) 5 false else bits
  let t := (s.setN Obj.twinReadiness 0 new).setN Obj.twinNotReady 0 bits
  if new = 1 && old != 1 then t.raiseTwin Ev.twinReady
  else if new = 0 && old != 0 then t.raiseTwin Ev.twinNotReady else t

/-- The active device reports the standby's readiness as last received, with MIRROR_LOST of its own (R378, R380). -/
def State.readyActive (s : State) : State :=
  let peer := match s.tw.peerBlock with
    | some b => if b.role = 2 then some b else none
    | none => none
  let new := if s.twinUp && !s.tw.mirrorLost then peer.elim 0 fun b => b.readiness else 0
  let bits := peer.elim (s.n Obj.twinNotReady 0) fun b => b.notReady
  let t := (s.setN Obj.twinReadiness 0 new).setN Obj.twinNotReady 0 (if s.tw.mirrorLost then setBit bits 6 true else bits)
  peer.elim t fun b => t.setN Obj.twinCopyStale 0 b.copyStale

/-- TwinResyncProgress while a resync runs (R381). -/
def State.resyncProgress (s : State) : Nat :=
  match s.tw.resyncAt with
  | some (a, d) => if d = 0 then 100 else min 100 ((s.now - a) * 100 / d)
  | none => s.n Obj.twinResyncProgress 0

/-- Readiness, resync progress and TwinHealth follow. It is evaluated by every command of the twin layer, and at each
boundary (notes/assumptions/47.md). -/
def State.refreshTwin (s : State) : State :=
  let t := if s.standby then s.readyStandby else if s.active then s.readyActive else s
  let t := t.setN Obj.twinResyncProgress 0 t.resyncProgress
  t.setN Obj.twinHealth 0 (b2n t.fit)

/-! ## Resyncs (R381) -/

/-- A resync starts. How long its transfer takes is free within the largest that R381 gives. -/
def State.startResync (s : State) : State :=
  let (v, t) := s.draw
  let most := if t.large then 2000000000 else 4000000000
  ({ t with tw := { t.tw with resyncAt := some (t.now, v % (most + 1)) } }).setN Obj.twinResyncProgress 0 0

/-- The active device starts a resync unless one runs. -/
def State.wantResync (s : State) : State := if s.active && s.twinUp && s.tw.resyncAt.isNone then s.startResync else s

/-- A cause of a resync (R381): the active device starts one unless one runs, and the standby, which meets the same causes, sets RESYNC and
reckons its progress (R380). -/
def State.resyncCause (s : State) : State :=
  if s.standby then
    let t := { s with tw := { s.tw with resyncNeeded := true } }
    if t.twinUp && t.tw.resyncAt.isNone then t.startResync else t
  else s.wantResync

/-- MIRROR_LOST is set, and a resync starts (R378, R380, R381). -/
def State.loseMirror (s : State) : State :=
  let t := { s with tw := { s.tw with mirrorLost := true, resyncNeeded := s.tw.resyncNeeded || s.standby } }
  (if (t.active || t.standby) && t.twinUp then t.startResync else t).refreshTwin

/-! ## The arbiter (R367, R368) -/

/-- A frame's symbol: 1 for A, 2 for B, 0 for X. -/
def arbSymbol : ArbLevel → ArbLevel → Nat
  | .high, .low => 1
  | .low, .high => 2
  | _, _ => 0

/-- The pattern of the last two symbols: 0 LOST, 1 ACTIVE, 2 STANDBY. -/
def arbPattern (before now : Nat) : Nat :=
  match before, now with
  | 1, 1 => 1
  | 1, 2 => 2
  | 2, 1 => 2
  | _, _ => 0

/-- The house frame whose second window ended last (R367): it ends 7/8 of the frame period after the boundary. -/
def State.arbWindow (s : State) : Nat :=
  let k := gridIndex s.house s.tc
  let a := gridPoint s.house k
  if a + 7 * (gridPoint s.house (k + 1) - a) / 8 ≤ s.tc then k else k - 1

/-- ARB_PATTERN_RECOGNISED (R367, R368): the levels in the two windows of a house frame, once for each frame, at the end of the second
window. A frame without the command before it gives the symbol X. An unpaired device ignores them (R366). -/
def execArbPatternRecognised (dt : Nat) (first second : ArbLevel) (s : State) : Result :=
  actIf dt s (fun t => t.paired && t.arbWindow != t.tw.arbFrame) fun t =>
    let before := if t.arbWindow = t.tw.arbFrame + 1 then arbSymbol t.tw.lastFirst t.tw.lastSecond else 0
    let p := arbPattern before (arbSymbol first second)
    let old := t.n Obj.twinArbPattern 0
    let u := { t with tw := { t.tw with
      lastFirst := first
      lastSecond := second
      arbFrame := t.arbWindow } }.setN Obj.twinArbPattern 0 p
    if p = 0 && old != 0 then u.raiseTwin Ev.twinArbLost
    else if p != 0 && old = 0 then u.raiseTwin Ev.twinArbRestored else u

/-! ## Status blocks (R379) -/

/-- TWIN_STATUS_SEND (R379): the block's two time-counter values are the time at which the last block came and that of the sending. -/
def execTwinStatusSend (dt : Nat) (s : State) : Result :=
  actIf dt s State.linked fun t =>
    let u := { t with tw := { t.tw with sentAt := some t.ptp } }.refreshTwin
    u.emit (.twinStatus (u.n Obj.twinSide 0) (u.n Obj.twinRole 0) (u.n Obj.twinArbPattern 0) (u.n Obj.twinReadiness 0)
      (u.n Obj.twinNotReady 0) (u.n Obj.twinCopyStale 0) u.tw.heardAt u.ptp u.imageVersions (u.by Obj.macBase 0))

/-- The peer's counter minus the device's own by one two-way exchange, for a symmetric link, in whole nanoseconds rounded down
(notes/assumptions/48.md): the device's last block went at `out` and came at the peer at b.heardAt, and the peer's went at b.sentAt and
comes at `back`. -/
def exchangeOffset (out back : Nat) (b : StatusBlock) : Int :=
  ((((b.heardAt : Nat) : Int) - out) + (((b.sentAt : Nat) : Int) - back)) / 2

/-- The exchanges of the last second, with the one that a block completes. -/
def State.exchanges (s : State) (b : StatusBlock) : List (Nat × Int) :=
  let old := s.tw.offsets.filter fun x => s.now < x.1 + 1000000000
  match s.tw.sentAt with
  | some out => if b.heardAt = 0 then old else (s.now, exchangeOffset out s.ptp b) :: old
  | none => old

/-- The median of the last second's exchanges: the lower middle one of an even number (notes/assumptions/48.md). -/
def medianOf (l : List (Nat × Int)) : Int :=
  let v := sortBy (fun (a b : Int) => decide (a ≤ b)) (l.map fun x => x.2)
  v.getD ((v.length - 1) / 2) 0

/-- TwinPeerRole and TwinPeerPattern follow the last status block while the link is UP. -/
def State.showPeer (s : State) : State :=
  match s.tw.peerBlock with
  | some b => if s.twinUp then (s.setN Obj.twinPeerRole 0 b.role).setN Obj.twinPeerPattern 0 b.pattern else s
  | none => s

/-- A status block arrives (R379). MIRROR_LOST, which the active device sets in the standby's readiness, comes to the standby with its
blocks (R378, R380). -/
def State.takeBlock (s : State) (b : StatusBlock) : State :=
  let mismatch := s.imageMismatch
  let gap := s.tw.lastBlockAt + 200000 < s.now
  let offsets := s.exchanges b
  let lost := s.standby && b.role == 1 && bit b.notReady 6 && !(s.tw.peerBlock.elim false fun o => o.role == 1 && bit o.notReady 6)
  let t := { s with tw := { s.tw with
    lastBlockAt := s.now
    heardAt := s.ptp
    validSince := if gap then some s.now else s.tw.validSince.orElse fun _ => some s.now
    peerBlock := some b
    offsets := offsets
    side0Mac := if b.side = 0 then some b.macBase else s.tw.side0Mac } }
  let t := (if offsets.isEmpty then t else t.setVal Obj.twinPeerOffset 0 (.num (medianOf offsets))).showPeer
  let excess := 1000 < (t.i Obj.twinPeerOffset 0).natAbs
  let t := if excess != t.tw.timeOffsetOver then
      { t with tw := { t.tw with timeOffsetOver := excess } }.raiseTwin Ev.twinTimeOffset else t
  let t := if lost then t.loseMirror else t.refreshTwin
  if (mismatch && !t.imageMismatch) || (b.role = 2 && t.n Obj.twinStaleLimit 0 < b.copyStale) then t.resyncCause.refreshTwin else t

/-- TWIN_STATUS_BLOCK (R379). -/
def execTwinStatusBlock (dt : Nat) (b : StatusBlock) (s : State) : Result := actIf dt s State.linked fun t => t.takeBlock b

/-- TWIN_PEER_LOST (R379): no valid status block for 200 µs. -/
def execTwinPeerLost (dt : Nat) (s : State) : Result :=
  actIf dt s (fun t => t.paired && t.twinUp && t.tw.lastBlockAt + 200000 ≤ t.now) fun t =>
    let u := ((t.setN Obj.twinLinkState 0 0).setN Obj.twinPeerRole 0 0xFFFF).setN Obj.twinPeerPattern 0 0xFFFF
    let u := { u with tw := { u.tw with validSince := none, resyncAt := none, offsets := [] } }
    (u.raiseTwin Ev.twinPeerLost).refreshTwin

/-- TWIN_PEER_FOUND (R379): 1 ms of valid status blocks. RESYNC is set, and a resync starts (R380, R381). -/
def execTwinPeerFound (dt : Nat) (s : State) : Result :=
  actIf dt s (fun t => t.paired && !t.twinUp && t.now ≤ t.tw.lastBlockAt + 200000 &&
      (t.tw.validSince.elim false fun a => a + 1000000 ≤ t.now)) fun t =>
    let u := (t.setN Obj.twinLinkState 0 1).showPeer
    let u := { u with tw := { u.tw with resyncNeeded := true } }.raiseTwin Ev.twinPeerFound
    u.resyncCause.refreshTwin

/-! ## Mirrors and writes through (R206, R207, R378) -/

/-- MIRROR_TIMEOUT (R206): the standby has not acknowledged within 2.0 ms. -/
def execMirrorTimeout (dt n : Nat) (s : State) : Result :=
  actIf dt s (fun t => t.ce.wait.elim false fun w => w.op.op.number == n && w.sentAt + 2000000 ≤ t.now) fun t =>
    t.loseMirror.mirrorEnd 3

/-- SALVO_MIRROR_RECEIVE (R206): the record of an ARM, DISARM or DISCARD reaches the standby, which acknowledges it. -/
def execSalvoMirrorReceive (dt n state owner : Nat) (changes : List Change) (s : State) : Result :=
  actIf dt s (fun t => t.linked && t.standby && n < 16) fun t =>
    let st := if state = 0 then SalvoState.free else if state = 1 then SalvoState.staged else SalvoState.armed
    let x : Salvo := { ({} : Salvo) with
      state := st
      owner := if state = 0 then 0xFFFF else owner
      changes := if state = 0 then [] else changes
      armedAt := if state = 3 then t.ptp else 0
      mirroredAt := t.tc }
    (t.setSalvo n x).emit (.twinAck 0 n)

/-- The boundary that a time in nanoseconds names, in `State.tc`. -/
def State.boundaryOf (s : State) (ns : Nat) : Nat := gridPoint s.house (gridIndex s.house (tcNs * (ns + 1) - 1))

/-- TAKE_MIRROR_RECEIVE (R207): the standby applies the salvo at the boundary that the record names. -/
def execTakeMirrorReceive (dt n boundary : Nat) (s : State) : Result :=
  actIf dt s (fun t => t.linked && t.standby && n < 16) fun t =>
    let k := t.ce.takes + 1
    let u := { t with ce := { t.ce with takes := k } }
    (u.setSalvo n { u.salvo n with
      state := .pending
      boundary := u.boundaryOf boundary
      accepted := k
      takeSession := 0xFFFF
      mirroredAt := u.tc }).emit (.twinAck 1 n)

/-! ## Roles (R370 to R372) -/

/-- The pattern that a boundary uses: a new one restarts the wait. -/
def State.usePattern (s : State) : State :=
  let p := s.n Obj.twinArbPattern 0
  if p = s.tw.lastPattern then s
  else { s with tw := { s.tw with lastPattern := p, waited := 0, blockedRaised := false } }

/-- R370: the role that the device takes, if it changes. -/
def State.newRole (s : State) : Option Nat × State :=
  let p := s.n Obj.twinArbPattern 0
  let pr := s.n Obj.twinPeerRole 0
  let pp := s.n Obj.twinPeerPattern 0
  if s.tw.demoteNext && s.active then (some 2, { s with tw := { s.tw with demoteNext := false } })
  else if s.standby && p = 1 then
    if s.twinUp && pr = 1 && pp != 2 then
      (none, if s.tw.blockedRaised then s else
        { s with tw := { s.tw with blockedRaised := true } }.raiseTwin Ev.twinRoleBlocked)
    else (some 1, s)
  else if s.active && p = 2 then
    if s.twinUp && pp != 1 && s.tw.waited < 2 then (none, { s with tw := { s.tw with waited := s.tw.waited + 1 } })
    else (some 2, s)
  else (none, s)

/-- R372: both devices are ACTIVE with the link UP. -/
def State.dualActive (s : State) : State :=
  let dual := s.twinUp && s.active && s.n Obj.twinPeerRole 0 == 1
  let p := s.n Obj.twinArbPattern 0
  let yields := p != 1 || (s.n Obj.twinPeerPattern 0 == 1 && s.n Obj.twinSide 0 == 1)
  let first := dual && !s.tw.dualEpisode
  let t := { s with tw := { s.tw with dualEpisode := dual, demoteNext := dual && yields } }
  if first then t.raiseTwin Ev.twinDualActive else t

/-- The role decision of a boundary. -/
def State.decideRole (s : State) : Option Nat × State :=
  let t := s.usePattern
  let r := t.newRole
  match r.1 with
  | some x =>
    let first := t.twinUp && t.active && t.n Obj.twinPeerRole 0 == 1 && !t.tw.dualEpisode
    let u := if first then r.2.raiseTwin Ev.twinDualActive else r.2
    (some x, { u with tw := { u.tw with dualEpisode := false, demoteNext := false } })
  | none => (none, r.2.dualActive)

/-! ## Announcements (R384) -/

/-- The all-nodes address. -/
def allNodes : List Byte := beBytes 2 0xFF02 ++ zeros 13 ++ [1]

/-- A port announces its own addresses: a gratuitous ARP request, and unsolicited neighbour advertisements. -/
def State.announcePort (s : State) (port : Nat) : State :=
  (s.portAddrs port).foldl (fun t a =>
    if a.length = 4 then t.sendArp port 2 a (t.identityMac port) a else t.sendArp port 3 a (t.identityMac port) allNodes) s

/-- Every media port announces. -/
def State.announce (s : State) : State := (Objs.ports s.objs).foldl State.announcePort s

/-- TWIN_ANNOUNCE (R384): the announcements after the first. -/
def execTwinAnnounce (dt : Nat) (s : State) : Result :=
  actIf dt s (fun t => t.active && t.tw.announceLeft != 0 && t.tw.announceAt ≤ t.now) fun t =>
    { t with tw := { t.tw with
      announceLeft := t.tw.announceLeft - 1
      announceAt := t.tw.announceAt + t.n Obj.twinAnnounceInterval 0 * 1000000 } }.announce

/-! ## Numbering (R135) -/

/-- The number of the first video frame of a destination whose alignment point lies at or after a value of the time counter. -/
def alignFrom (f offset t : Nat) : Nat := gridNext (fmtPeriod f) (t - tcNs * offset)

/-- The packets that the old active device would have sent between the point to which a copied number belongs and the first
packet of a device that takes over at boundary b (R135). An ST2110_40 entry, which has no fixed packets per frame, advances by 0:
DESIGN CHOICE, notes/assumptions/71.md. -/
def State.packetsBetween (s : State) (x : CopyNumber) (b : Nat) : Int :=
  let es := s.n Obj.txEssence x.entry
  let lead := Objs.txLeadEntry s.objs x.entry
  if es = 1 || es = 5 then
    let off := s.n Obj.dstTimingOffset (s.n Obj.txSource lead)
    ((alignFrom x.format off b : Int) - alignFrom x.format off x.at_) * s.txFramePackets lead x.format
  else if es = 2 || es = 3 then
    let hz := s.txAudioHz lead
    let n := packetSamples (s.n Obj.txPacketTime lead) (s.n Obj.txAudioRate lead)
    ((ceilDiv (b * hz) (tcSec * n) : Nat) : Int) - ceilDiv (x.at_ * hz) tcSec / n
  else 0

/-- An entry takes over the numbering of the old active device. -/
def State.continueNumber (s : State) (b : Nat) (x : CopyNumber) : State :=
  if !s.b Obj.txEnable x.entry then s
  else
    let es := s.n Obj.txEssence x.entry
    let next := ((x.next : Int) + s.packetsBetween x b) % (seqMod es : Nat)
    let t := (s.setN Obj.txNextSeq x.entry next.toNat).setN Obj.txSsrcInUse x.entry x.ssrc
    if t.n Obj.txSsrc x.entry = 0 then t.setTxe x.entry { t.txe x.entry with drawn := some x.ssrc } else t

/-! ## Takeover and demotion (R382, R383) -/

/-- A change of role is journalled (R441). -/
def State.journalRole (s : State) (role : Nat) : State := s.journal 3 (beBytes 2 role ++ zeros 38)

/-- The salvos that a change of role discards. -/
def State.discardUnexecuted (s : State) (always : Bool) : State :=
  (List.range 16).foldl (fun t n =>
    let x := t.salvo n
    if x.state == .staged || x.state == .arming || x.state == .armed then
      let u := t.freeSalvo n
      if always || !x.changes.isEmpty then u.raise Ev.salvoSessionDiscard n else u
    else t) s

/-- The standby becomes ACTIVE at a boundary (R382), once everything due there has been applied. -/
def State.takeover (s : State) (b : Nat) : State :=
  let ns := b / tcNs
  let t := s.discardUnexecuted true
  let t := { t with ce := { t.ce with salvos := t.ce.salvos.map fun (p : Nat × Salvo) => (p.1, { p.2 with owner := 0xFFFF }) } }
  let t := (t.setN Obj.twinRole 0 1).journalRole 1
  let t := t.announce
  let t := (Objs.ports t.objs).foldl (fun u p => (u.portRecords p).foldl (fun v r => v.report p r) u) t
  let t := t.tw.numbers.foldl (fun u x => u.continueNumber b x) t
  let t := (Objs.txEntries t.objs).foldl (fun u e =>
    (u.setTxe e { u.txe e with frame := none, shown := none, audioNext := none, startAt := b, opaque_ := [] }).resolve e) t
  let t := t.refreshTxAll
  let t := { t with tw := { t.tw with
    drain := none
    roleAt := b
    mirrorLost := false
    log := []
    copySent := none
    copyApplied := none
    numbers := []
    resyncAt := none
    announceLeft := t.n Obj.twinAnnounceCount 0 - 1
    announceAt := t.now + t.n Obj.twinAnnounceInterval 0 * 1000000 } }
  let t := { t with ce := { t.ce with executed := [] } }
  let t := (t.setN Obj.twinTakeoverAt 0 ns).bump Obj.twinTakeovers 0
  (t.raiseTwin Ev.twinRoleActive).wantResync.refreshTwin

/-- The operation that waits for the peer ends as a standby refuses it (R192). -/
def State.dropWait (s : State) : State :=
  match s.ce.wait with
  | some w => { s with ce := { s.ce with wait := none } }.refuseSalvo w.op w.op.op.number Code.twinStandby
  | none => s

/-- The active device becomes STANDBY at a boundary (R383). Writes that wait for the peer end with its acknowledgement or after
2.0 ms (R378). -/
def State.demote (s : State) (b : Nat) : State :=
  let t := ((s.setN Obj.twinRole 0 2).setN Obj.twinReadiness 0 0).journalRole 2
  let t := { t with tw := { t.tw with drain := some b } }.refreshTxAll
  let t := (t.discardUnexecuted false).dropWait
  let t := State.pump t.ce.queue.length t
  let t := { t with
    ce := { t.ce with executed := [] }
    tw := { t.tw with
    resyncNeeded := true
    resyncAt := none
    roleAt := b
    mirrorLost := false
    log := []
    copySent := none
    copyApplied := none
    numbers := []
    announceLeft := 0 } }
  ((t.setN Obj.twinCopyStale 0 0).raiseTwin Ev.twinRoleStandby).resyncCause.refreshTwin

/-- A standby at a boundary (R376): TwinCopyStale counts the boundaries without their copy, and a copy that an active peer
still owes then is discarded whenever it comes (notes/assumptions/24.md). -/
def State.countStale (s : State) (b : Nat) : State :=
  if !s.standby then s
  else if s.tw.copyApplied = some b then s.setN Obj.twinCopyStale 0 0
  else
    let t := s.setN Obj.twinCopyStale 0 (min (s.n Obj.twinCopyStale 0 + 1) 0xFFFFFFFF)
    let t := if t.n Obj.twinStaleLimit 0 < t.n Obj.twinCopyStale 0 then t.resyncCause else t
    if t.twinUp && t.n Obj.twinPeerRole 0 = 1 then
      (t.bump Obj.twinCopiesDiscarded 0).raiseLimited Ev.twinCopyDiscarded 0 (t.n Obj.twinSide 0)
    else t

/-- ARB_HEALTH after a boundary (R369). -/
def State.toggleHealth (s : State) : State :=
  if s.fit then
    let level := !s.tw.armHealth
    ({ s with tw := { s.tw with armHealth := level } }.emit (.pin .armHealth 0 (b2n level))).setN Obj.twinHealth 0 1
  else s.setN Obj.twinHealth 0 0

end Sys2Proof.Machine
end

