-- ==== Sys2Proof/Machine/Effects.lean ====
section
/-!
DEFINITION. What a new value of an Immediate-class object does in its block (R8): the same for a write, a copy to the standby
and a value loaded at start. Objects that their blocks read where they need them do nothing here.
-/
namespace Sys2Proof.Machine

/-- The lanes of a reference before and after a change of its settings. -/
def State.refLanes (s : State) (old : Objs) (r : Nat) : List Nat :=
  [Objs.n old Obj.refSdiLane r, s.n Obj.refSdiLane r].filter fun l => l < 288

/-- The PLLs of an octet hold while its reference is lost (R394). -/
def State.octetHold (s : State) (o : Nat) : State :=
  s.setBitN Obj.octetPllState o 3 (s.n Obj.spurRefState (s.n Obj.octetRef o) == 2)

/-- SaddleRxReady, or a change of SaddleBringUp, reaches the next TRAIN words (R413). -/
def State.sendReady (s : State) : State :=
  if s.sad.base.isNone then s else (eight.foldl (fun (t : State) r => t.sendTrain (t.peerLane r)) s).checkReady

/-- A strip's settings may leave outputs that must leave the bypass path (R286). -/
def State.checkPaths (s : State) : State := (s.au.outs.map fun (p : Nat × AOut) => p.1).foldl State.checkPath s

/-- A Watershed setting has changed. -/
def State.wsSetting (s : State) (old : Objs) (i n : Nat) : State :=
  let t := s.wsWritten i n
  if i = Obj.refEnable || i = Obj.refSdiLane then (s.refLanes old n).foldl State.refreshLane t else t

/-- A lane setting has changed (R390, R396, R415). -/
def State.laneSetting (s : State) (i n : Nat) : State :=
  if i = Obj.laneMode then s.laneModeSet n
  else if i = Obj.laneTxPre || i = Obj.laneTxPost then
    (if s.n Obj.laneMode n = 1 || s.n Obj.laneMode n = 2 then s.presetTaps n else s)
  else if i = Obj.lanePrbsMode then s.prbsGenerator n
  else if i = Obj.lanePrbsCheck then s.prbsSet n
  else if i = Obj.octetRef then s.octetHold n
  else if i = Obj.saddleRxReady || i = Obj.saddleBringUp then s.sendReady
  else s

/-- A write of TarnCtrl reaches TPn_CTRL; the object follows the register, which refuses what the EN rule forbids (R324, R325). -/
def State.tarnCtrlObject (s : State) (n : Nat) : State :=
  let t := s.tarnCtrlWrite n (s.n Obj.tarnCtrl n)
  t.setN Obj.tarnCtrl n (t.regN (tpReg n Tp.ctrl))

/-- An Immediate-class object has taken a value; `old` is the configuration before it. -/
def State.written (s : State) (old : Objs) (i n : Nat) : State :=
  if 0x1600 ≤ i && i < 0x1690 then s.laneSetting i n
  else if 0x1400 ≤ i && i < 0x1500 then s.wsSetting old i n
  else if i = Obj.tarnCtrl then s.tarnCtrlObject n
  else if i = Obj.tarnRxMask then s.tarnMaskWrite n false (s.n i n) false
  else if i = Obj.tarnTxMask then s.tarnMaskWrite n true (s.n i n) false
  else if i = Obj.rxAssumeSampling || i = Obj.rxAssumeScan || i = Obj.rxQuadDivision then s.assumed n
  else if i = Obj.aiGain || i = Obj.aiPolarity || i = Obj.aiDelay || i = Obj.aiEq then s.checkPaths
  else if i = Obj.twinHealthHold then s.refreshTwin
  else if i = Obj.eventPinMap then s.copyPinMap n
  else if i = Obj.evtPinMode then s.copyPinMode n
  else if Obj.ctlSpeedMode ≤ i && i ≤ Obj.ctlStepHold then s.ctlSettings n
  else if Obj.monKind ≤ i && i ≤ Obj.monAlarm then s.monWritten i n
  else s

/-- An Immediate-class value takes force (R8). -/
def State.putNow (s : State) (a : Nat) (v : Val) : State :=
  (s.setVal (adrIndex a) (adrSub a) v).written s.objs (adrIndex a) (adrSub a)

end Sys2Proof.Machine
end

