-- ==== Sys2Proof/Machine/Boot.lean ====
section
/-!
DEFINITION. Power, reset and the boot stages (chapter 22), the adaptive core voltage (R610 to R612), the health monitors
(R484, R642, R643), restarts, and the restore commit (R614).
-/
namespace Sys2Proof.Machine

/-! ## Rails and reset (R604 to R609, R642) -/

/-- POWER_ON (R604): the rails have come up while RESET_N is low; nothing of an earlier supply remains but flash and fuses. -/
def execPowerOn (dt : Nat) (s : State) : Result :=
  actAlways dt s fun t =>
    let u := t.enterReset 0
    { u with boot := { u.boot with
      straps := ⟨false, 0, false, 0, false⟩
      held := false
      resetLow := true
      avsMicrovolts := 0
      avsTarget := 0 } }

/-- The length of a low pulse that resets: below 1 µs it is ignored, from 10 µs on it always resets, and between the two the
spec leaves it open (R607). -/
def State.pulseResets (s : State) (width : Nat) : Bool × State :=
  if width < 1000 then (false, s)
  else if 10000 ≤ width then (true, s)
  else let r := s.draw; (r.1 % 2 == 1, r.2)

/-- RESET_N_ASSERT (R607): RESET_N has been low for a time. -/
def execResetNAssert (dt width : Nat) (s : State) : Result :=
  actAlways dt s fun t =>
    let (yes, u) := t.pulseResets width
    if yes then
      let v := u.enterReset 1
      { v with boot := { v.boot with resetLow := true } }
    else u

/-- RESET_N_RELEASE (R609): the straps are latched and the ROM stage starts, unless the thermal trip holds the device. The
command stands for the end of a reset under R606 too. -/
def execResetNRelease (dt : Nat) (straps : Straps) (s : State) : Result :=
  actAlways dt s fun t =>
    if t.boot.stage != .reset then t
    else
      let u := { t with boot := { t.boot with straps := straps, resetLow := false } }
      if u.boot.held then u else u.startRom u.boot.cause

/-- The recommended minimum of a rail in microvolts (R628), in the order of SupplyMargin, VDD_AUX apart. -/
def State.railMinimum (s : State) (rail : Nat) : Nat :=
  match rail with
  | 0 => (if s.boot.avsMicrovolts = 0 then 750000 else s.boot.avsMicrovolts) * 95 / 100
  | 1 => 807500
  | 2 => 855000
  | 3 => 1140000
  | 4 => 1045000
  | 5 => 380000
  | 6 => 1710000
  | _ => 0

/-- RAIL_FAULT (R606): a rail more than 5 % below its recommended minimum for 10 µs. -/
def execRailFault (dt rail microvolts lasted : Nat) (s : State) : Result :=
  actAlways dt s fun t =>
    if 100 * microvolts < 95 * t.railMinimum rail && 10000 ≤ lasted then t.enterReset 0 else t

/-- VDD_AUX_LOW (R606): VDD_AUX below 2.90 V. -/
def execVddAuxLow (dt microvolts : Nat) (s : State) : Result :=
  actAlways dt s fun t => if microvolts < 2900000 then t.enterReset 0 else t

/-- THERMAL_TRIP (R642): the hottest sensor above 115 °C for 10 ms. -/
def execThermalTrip (dt : Nat) (temp : Int) (lasted : Nat) (s : State) : Result :=
  actAlways dt s fun t =>
    if 1150 < temp && 10000000 ≤ lasted then
      let u := t.enterReset 0
      { u with boot := { u.boot with held := true } }
    else t

/-- THERMAL_TRIP_RELEASE (R642): the sensor reads 95 °C or less. The straps are stable, so their latched values stand. -/
def execThermalTripRelease (dt : Nat) (temp : Int) (s : State) : Result :=
  actAlways dt s fun t =>
    if t.boot.held && temp ≤ 950 then
      let u := { t with boot := { t.boot with held := false } }
      if u.boot.resetLow then u else u.startRom u.boot.cause
    else t

/-! ## Adaptive core voltage (R610 to R612) -/

/-- The regulator's address (R609). -/
def State.avsAddress (s : State) : Nat := 0x40 + s.boot.straps.avsAddr

/-- A VOUT_COMMAND, given in microvolts; after three failures AVS stops until the next start. -/
def State.avsCommand (s : State) (microvolts nacks : Nat) : State :=
  let t := (List.range (min (nacks + 1) 3)).foldl (fun u _ => u.emit (.pmbus u.avsAddress 0x21 microvolts)) s
  if nacks < 3 then { t with boot := { t.boot with avsMicrovolts := microvolts } }
  else { t with boot := { t.boot with avsRunning := false } }

/-- The ROM reads VOUT_MODE and writes 0.750 V; a mode other than linear ends AVS (R610, R611). -/
def State.avsStart (s : State) (linear : Bool) (nacks : Nat) : State :=
  if !s.boot.straps.avsEn then s
  else
    let t := s.emit (.pmbus s.avsAddress 0x20 0)
    let t := { t with boot := { t.boot with avsRunning := linear, avsTarget := 750000 } }
    if linear then t.avsCommand 750000 nacks else t

/-- AVS_TARGET_UPDATE (R611): Bedrock's target, from the end of the ROM stage on. -/
def execAvsTargetUpdate (dt microvolts : Nat) (s : State) : Result :=
  actIf dt s (fun t => t.boot.avsRunning && t.boot.stage != .rom) fun t =>
    { t with boot := { t.boot with avsTarget := max 700000 (min 800000 microvolts) } }

/-- AVS_STEP (R611): one step of 5 mV towards the target, at most one per millisecond. -/
def execAvsStep (dt nacks : Nat) (s : State) : Result :=
  actIf dt s (fun t => t.boot.avsRunning && t.boot.stage != .rom && t.boot.avsMicrovolts != t.boot.avsTarget &&
      t.boot.avsStepAt + 1000000 ≤ t.now) fun t =>
    let v := t.boot.avsMicrovolts
    let next := if t.boot.avsTarget < v then max t.boot.avsTarget (v - 5000) else min t.boot.avsTarget (v + 5000)
    ({ t with boot := { t.boot with avsStepAt := t.now } }).avsCommand next nacks

/-! ## The ROM stage and boot control (R583, R593, R613) -/

/-- The device enters recovery (R596): the ROM runs alone and serves CTL_A. -/
def State.enterRecovery (s : State) : State :=
  let t := if s.boot.soft then s.fullReset.startRom s.boot.cause else s
  let t := { t with
    up := { t.up with patchRuns := false, patchVersion := 0 }
    boot := { t.boot with stage := .recovery, stageAt := t.now, wdtRunning := false }
    il := { t.il with ctlUp := true } }
  t.ctlStart 0

/-- The start is recorded (R485, R599, R608). -/
def State.recordStart (s : State) : State :=
  let c := s.boot.cause
  let t := (s.setN Obj.lastRestartCause 0 c).flashJournal 4 (beBytes 2 c ++ zeros 38)
  let t := t.journalRestart c
  if c = 7 then t.raise Ev.recoveryExited 0 else t

/-- A start that boots the prior slot, or the other Upland slot, reports FALLBACK (R583, R593). -/
def State.fallBack (s : State) : State :=
  { s with boot := { s.boot with cause := 6, fellBack := true } }.raise Ev.updateFallback 0

/-- What boot control makes of a start: a trial begins, has failed, or is none; under ROM_RECOVERY a failed one ends in
recovery (R589, R593). -/
def State.bootControl (s : State) : State :=
  let u := s.up
  if u.ctl.trial.isSome && u.activating then
    { s with up := { u with trialRuns := true, activating := false } }.setN Obj.updateState 0 4
  else if u.ctl.trial.isSome then
    let c := u.ctl.failTrial
    let t := { s.setN Obj.updateState 0 0 with up := { u with
      ctl := { c with recover := u.policy == 1, notConfirmed := false }
      trialRuns := false } }
    if u.policy = 1 then t else t.fallBack
  else if u.ctl.notConfirmed then
    { s with up := { u with ctl := { u.ctl with notConfirmed := false } } }.fallBack
  else s

/-- The patch slot that a start uses (R583). -/
def State.patchSlot (s : State) : Nat :=
  match s.up.ctl.trial with
  | some (1, k) => k
  | _ => s.up.ctl.patchActive

/-- The ROM checks the patch (R531, R583). An erased slot holds none. -/
def State.loadPatch (s : State) : State :=
  let k := s.patchSlot
  let base := slotBase 1 k
  let ok := s.accepted 1 k
  let t := { s with up := { s.up with
    patchRuns := ok
    patchVersion := if ok then s.imageVersion base else 0 } }
  { t with boot := { t.boot with patchRejected := !ok && s.imageN base 0 4 != 0xFFFFFFFF } }

/-- A program write that lost power between its two burns has consumed its slot (R525). -/
def State.lostBurns (s : State) : State :=
  (List.range 4).foldl (fun t k =>
    if look t.up.ownerStates k 0 = 0 && look t.up.ownerHashes k [] != [] then
      { t with up := { t.up with ownerStates := put t.up.ownerStates k 2 } }.raise Ev.ownerKeyChange k
    else t) s

/-- The twin straps (R365, R371): a paired device is STANDBY from reset. -/
def State.latchTwin (s : State) : State :=
  if s.boot.straps.twinPresent && !s.boot.soft then
    ((s.setN Obj.twinPaired 0 1).setN Obj.twinSide 0 (s.boot.straps.twinSide % 2)).setN Obj.twinRole 0 2
  else s

/-- The Upland slot that boot control names (R583). -/
def State.uplandSlot (s : State) : Nat :=
  match s.up.ctl.trial with
  | some (2, k) => k
  | _ => s.up.ctl.uplandActive

/-- The Upland image is chosen (R583): the slot that boot control names, else the other slot with cause FALLBACK; none where
neither is accepted. A trial image that is not accepted has failed. -/
def State.chooseUpland (s : State) : Option State :=
  let k := s.uplandSlot
  if s.accepted 2 k then some s
  else
    let trial := s.up.ctl.trial.elim false fun (p : Nat × Nat) => p.1 == 2
    let c := s.up.ctl.failTrial
    let t := if trial then { s with up := { s.up with ctl := c, trialRuns := false } }.setN Obj.updateState 0 0 else s
    if trial && s.up.policy = 1 then none
    else if t.accepted 2 (1 - k) then
      some { t with up := { t.up with ctl := { t.up.ctl with uplandActive := 1 - k } } }.fallBack
    else none

/-- PCIE_PERST_N is released for the drives of the link mode (R640). -/
def State.releasePerst (s : State) : State :=
  (List.range (linkDrives (s.n Obj.morLinkMode 0))).foldl (fun t d => t.emit (.pin .pciePerst d 1)) s

/-- UPLAND_LOAD begins (R613): the image is read and checked, and the start is recorded; without an image the device enters
recovery. -/
def State.loadUpland (s : State) : State :=
  match s.chooseUpland with
  | some t =>
    let u := t.recordStart
    { u with boot := { u.boot with stage := .uplandLoad, stageAt := u.now } }
  | none => s.recordStart.enterRecovery

/-- ROM_STAGE_END (R613): `avsLinear` and `avsNacks` are the regulator's answers. A SOFT restart neither writes AVS nor trains
HBM (R620). -/
def execRomStageEnd (dt : Nat) (avsLinear : Bool) (avsNacks : Nat) (s : State) : Result :=
  actIf dt s (fun t => t.boot.stage == .rom) fun t =>
    let u := if t.boot.soft then t else t.avsStart avsLinear avsNacks
    let u := u.bootControl.lostBurns
    if u.up.ctl.recover then u.recordStart.enterRecovery
    else
      let u := u.loadPatch.latchTwin
      let u := { u with boot := { u.boot with stage := .bedrock, stageAt := u.now, wdtRunning := true, wdtAt := u.now } }
      if u.boot.soft then u.loadUpland else u

/-- HBM_READY (R613, R616): whether each stack has trained and passed its write check. -/
def execHbmReady (dt : Nat) (hbms : List Bool) (s : State) : Result :=
  actIf dt s (fun t => t.boot.stage == .bedrock) fun t =>
    if hbms.all id && hbms.length = 4 then t.releasePerst.loadUpland
    else
      let u := { t with boot := { t.boot with hbmFailed := true } }.setReason 1 true
      u.loadUpland

/-! ## The restore (R614) -/

/-- The charge that a capacity code measures, for the changes of one salvo over the configuration in force. -/
def State.chargeAt (s : State) (code at_ : Nat) (l : List Change) : Nat :=
  let c := Objs.overlay s.objs l
  let frac := fun (p : Nat × Nat) => 2 ^ 32 * p.1 / max 1 p.2
  if code = Code.frameStoreFull then countOver (Objs.storePages s.objs) pagesAdded s.objs [l]
  else if code = Code.flowTableFull then
    countOver (Objs.rxEntries s.objs).length (fun a b => (rxNew a b).length) s.objs [l]
  else if code = Code.rxBufferFull then
    countOver ((Objs.rxEntries s.objs).map (Objs.rxReserve s.objs)).sum bufferAdded s.objs [l]
  else if code = Code.txFlowTableFull then countOver (Objs.txEntries s.objs).length txNew s.objs [l]
  else if code = Code.auDelayPoolFull then countOver (Objs.delayPool s.objs) delayAdded s.objs [l]
  else if code = Code.morSpace then countOver s.extentsUsed s.extentsAdded s.objs [l]
  else if code = Code.storeFull then s.storeLength (Objs.overlay s.recorded l)
  else if code = Code.writerGroupFull then projectNat (fun o => Objs.writerGroup o at_) s.objs [l]
  else if code = Code.readerGroupFull then projectNat (fun o => Objs.readerGroup o at_) s.objs [l]
  else if code = Code.payloadInLimit then projectNat Objs.payloadIn s.objs [l]
  else if code = Code.payloadOutLimit then projectNat Objs.payloadOut s.objs [l]
  else if code = Code.portRateLimit then
    frac (projectFrac (fun o => Objs.portCharge o (at_ % 0x4000) (0x4000 ≤ at_)) s.objs [l])
  else if code = Code.hbmBudget then projectNat Objs.hbmCharge s.objs [l]
  else Objs.morWrite c + Objs.morRead c + (Objs.morStreams c).1 + (Objs.morStreams c).2

/-- The highest-numbered change that increases the charge at fault. -/
def State.heaviest (s : State) (code at_ : Nat) (l : List Change) : Nat :=
  let all := s.chargeAt code at_ l
  match l.reverse.find? fun x => s.chargeAt code at_ (l.filter fun y => y.number != x.number) < all with
  | some x => x.number
  | none => (l.map fun x => x.number).foldl max 0

/-- The number of the change that the checks of R194 make the restore drop; MOR_POOL_DOWN does not apply. -/
def State.restoreFault (s : State) (l : List Change) : Option Nat :=
  let c := Objs.overlay s.objs l
  let touched := fun i => l.filterMap fun x => if adrIndex x.addr = i then some (adrSub x.addr) else none
  let ok := fun (x : Check) => x.code != Code.morPoolDown
  let first := fun (p : List Check) => firstRefusal (p.filter ok) l
  match first (s.phase1 c touched), first (s.phase2 c s.objs (layersOf s.objs [l]) l 3), first (s.phase3 c) with
  | some x, _, _ => some x.1
  | none, some x, _ => some x.1
  | none, none, some x => some x.1
  | none, none, none =>
    match s.capacityRefusal [l] s.objs c with
    | some x => some (s.heaviest x.1 (x.2 / 65536) l)
    | none => none

/-- The restore salvo once it passes, and the removed objects; each round drops one change. -/
def State.restorePass (s : State) : Nat → List Change → List Change × List Nat
  | 0, l => (l, [])
  | k + 1, l =>
    match s.restoreFault l with
    | none => (l, [])
    | some n =>
      let r := s.restorePass k (l.filter fun x => x.number != n)
      (r.1, ((l.filter fun x => x.number == n).map fun x => x.addr) ++ r.2)

/-- The changes of a restore, numbered in ascending order of index and then of subindex. -/
def restoreNumbers (l : List (Nat × Val)) : List Change :=
  ((sortBy (fun (a b : Nat × Val) => decide (a.1 ≤ b.1)) l).zipIdx).map fun (x : (Nat × Val) × Nat) => ⟨x.2, x.1.1, x.1.2⟩

/-- The restore checks (R614). A SOFT restart finds its values in force: only those that differ are restored (R620). -/
def State.restoreChecks (s : State) : State :=
  let now := { s with boot := { s.boot with restoreChanges := [] } }.recorded
  let l := if s.boot.soft then s.boot.restoreChanges.filter fun x => Objs.val now x.1 != x.2 else s.boot.restoreChanges
  let r := if l.isEmpty then ([], []) else s.restorePass l.length (restoreNumbers l)
  let t := { s with boot := { s.boot with
    restoreChanges := r.1.map fun x => (x.addr, x.val)
    restoreDue := some s.boundaryAfterDeadline } }
  let t := r.2.foldl (fun u a => u.addReport a 3) t
  if r.2.isEmpty then t else t.raise Ev.storeMigrated (t.n Obj.migrationReportCount 0)

/-- The blocks meet the Immediate-class values that the store gave (R8, R614). -/
def State.meetLoaded (s : State) (old : Objs) : State :=
  s.objs.foldl (fun t (p : Nat × Val) =>
    if persistent p.1 && Objs.val old p.1 != p.2 &&
        (dictRow (adrIndex p.1) (adrSub p.1)).elim false (fun r => r.commit == .immediate)
    then t.written old (adrIndex p.1) (adrSub p.1) else t) s

/-- The drawn SSRCs survive the restart (R132): those that TxSsrcInUse held of entries with TxSsrc 0. -/
def State.restoreSsrcs (s : State) : State :=
  let c := s.recorded
  (Objs.subs c Obj.txSsrcInUse).foldl (fun t e =>
    if Objs.n c Obj.txSsrcInUse e = 0 || Objs.n c Obj.txSsrc e != 0 then t
    else t.setTxe e { t.txe e with drawn := some (Objs.n c Obj.txSsrcInUse e) }) s

/-- The persistent Restart-class objects are at their defaults before the store's records give them (R8, R497): a SOFT restart finds
the old values. -/
def State.clearRestart (s : State) : State :=
  (s.objs.filter fun (p : Nat × Val) => persistent p.1 &&
      (dictRow (adrIndex p.1) (adrSub p.1)).elim false fun r => r.commit == .restart).foldl
    (fun (t : State) p => t.toDefault (adrIndex p.1) (adrSub p.1)) s

/-- Upland loads the store (R497, R595, R614): the values act, RestartCount counts the start, and a migrated store is saved at
once. A SOFT restart, through which the Spur lanes run on (R620), reads the new SaddleLaneBase and SaddleConfig but leaves the
Saddle octet as it is formed: DESIGN CHOICE, notes/assumptions/69.md. -/
def State.loadSettings (s : State) : State :=
  let old := s.objs
  let t := s.clearRestart
  let t := { t with ce := { t.ce with restartWrites := [] } }.loadStore
  let t := t.bump Obj.restartCount 0
  let t := if s.boot.soft then t else (t.meetLoaded old).restoreSsrcs
  let t := if t.b Obj.twinPaired 0 && !s.boot.soft then t.formSaddle (t.n Obj.saddleLaneBase 0) (t.n Obj.saddleConfig 0) else t
  let t := if t.n Obj.migrationReportCount 0 != s.n Obj.migrationReportCount 0 then
      t.raise Ev.storeMigrated (t.n Obj.migrationReportCount 0) else t
  let migrated := t.st.loaded.elim false fun x => x.version / 256 != t.up.storeVersion / 256
  if migrated && t.st.save.isNone then t.startSave else t

/-- The control ports come up (R613), and provisioning shows (R488). -/
def State.openControl (s : State) : State :=
  let t := ((s.ctlStart 0).ctlStart 1).refreshProvision
  { t with il := { t.il with ctlUp := true } }

/-- Upland is entered: nothing has been heard from it yet (R530). -/
def State.enterUpland (s : State) : State :=
  let base := slotBase 2 s.uplandSlot
  { s with
    up := { s.up with
      uplandVersion := s.imageVersion base
      storeVersion := s.imageN base 24 2 }
    boot := { s.boot with
      uplandRuns := true
      uplandAt := s.now
      heartbeatAt := none
      heartbeatLate := false } }

/-- Upland is entered in a start. -/
def State.bootUpland (s : State) : State :=
  let t := s.enterUpland
  let t := { t with boot := { t.boot with stage := .restore, stageAt := t.now } }
  let t := t.loadSettings
  let t := if t.boot.soft || t.boot.hbmFailed then t else t.releasePerst
  let t := t.openControl
  if t.boot.hbmFailed then t else t.restoreChecks

/-- Upland is entered again (R530): its image meets the check of R583, and the control ports come up. -/
def State.reenterUpland (s : State) : State :=
  match s.chooseUpland with
  | some t => { t with boot := { t.boot with cause := s.boot.cause } }.enterUpland.openControl
  | none => { s with up := { s.up with ctl := { s.up.ctl with recover := true } } }.hardRestart 3

/-- UPLAND_ENTERED (R613): in a start, or in an Upland restart. -/
def execUplandEntered (dt : Nat) (s : State) : Result :=
  act dt s fun t =>
    if t.boot.stage == .uplandLoad then t.bootUpland
    else if t.boot.uplandRestarting && !t.boot.uplandRuns && (t.boot.stage == .restore || t.boot.stage == .running) then
      t.reenterUpland
    else t

/-- The restore commit executes at its boundary, and the start is complete (R614, R615). -/
def State.restoreCommit (s : State) (b : Nat) : State :=
  let l := restoreNumbers s.boot.restoreChanges
  let rejected := s.boot.patchRejected
  let t := { s with
    objs := Objs.overlay s.objs l
    boot := { s.boot with
      restoreChanges := []
      restoreDue := none
      datapath := true
      soft := false
      started := true
      stage := .running
      stageAt := s.now
      patchRejected := false } }
  let t := (t.markRoutes s.objs l 0xFF b).meetCommit s.objs l b
  let t := t.raise Ev.deviceStarted (t.n Obj.lastRestartCause 0)
  if rejected then t.raise Ev.bedrockPatchRejected 0 else t

/-! ## Restarts and the watchdog (R529, R619 to R621) -/

/-- WATCHDOG_EXPIRY (R529): 100 ms after the last kick. -/
def execWatchdogExpiry (dt : Nat) (s : State) : Result :=
  actIf dt s (fun t => t.boot.wdtRunning && t.boot.wdtAt + 100000000 ≤ t.now) fun t => t.hardRestart 4

/-- Whether a salvo is PENDING. -/
def State.anyPending (s : State) : Bool := s.ce.salvos.any fun (p : Nat × Salvo) => p.2.state == .pending

/-- A SOFT restart goes on once no salvo is PENDING (R620): saves already started complete, the write is acknowledged, a save
is completed, and the sessions end with reason RESTART. -/
def State.proceedSoft (s : State) : State :=
  let t := s.completeSaves
  let t := t.boot.softReplies.foldl (fun (u : State) x => u.answerFor x 0) t
  (t.startSave.completeSaves.endSessions (some 4)).startSoft

/-- DeviceRestart SOFT (R620). -/
def State.requestSoft (s : State) (a : Option Answer) : State :=
  let t := { s with boot := { s.boot with softWait := true, softReplies := s.boot.softReplies ++ a.toList } }
  if t.anyPending then t else t.proceedSoft

/-- DeviceRestart HARD (R524, R619): the response follows the saves already started. -/
def State.requestHard (s : State) (a : Option Answer) : State :=
  let t := s.completeSaves
  let t := a.elim t fun x => t.answerFor x 0
  (t.endSessions (some 4)).hardRestart 3

/-- SOFT_RESTART_PROCEED (R620): no salvo is PENDING any more. -/
def execSoftRestartProceed (dt : Nat) (s : State) : Result :=
  actIf dt s (fun t => t.boot.softWait && !t.anyPending) State.proceedSoft

/-! ## Health monitors (R484, R643) -/

/-- Since when a condition has held without a break. -/
def since (now : Nat) (before : Option Nat) (holds : Bool) : Option Nat :=
  if holds then some (before.getD now) else none

/-- Whether a condition has held for a time. -/
def heldFor (now : Nat) (x : Option Nat) (ns : Nat) : Bool := x.elim false fun a => a + ns ≤ now

/-- One reason of the monitors: it is set, or cleared once its condition for that has held long enough. -/
def State.monitorReason (s : State) (k : Nat) (set clear : Bool) (event subject : Nat) : State :=
  let was := bit (s.n Obj.healthReasons 0) k
  if set && !was then (s.setReason k true).raise event subject
  else if clear && was && !set then s.setReason k false
  else s

/-- HEALTH_MONITOR_SAMPLE (R484): the junction temperature in 0.1 °C, the margins in 0.01 %, the stacks' sensors in 0.1 °C. -/
def execHealthMonitorSample (dt : Nat) (temp : Int) (margins hbmTemps : List Int) (s : State) : Result :=
  act dt s fun t =>
    let low := margins.findIdx? fun m => m < 300
    let u := (t.setI Obj.junctionTemp 0 temp).setI Obj.junctionTempMax 0 (max temp (t.i Obj.junctionTempMax 0))
    let u := (margins.take 8).zipIdx.foldl (fun v (x : Int × Nat) => v.setI Obj.supplyMargin x.2 x.1) u
    let u := { u with boot := { u.boot with
      thermalCool := since u.now u.boot.thermalCool (temp ≤ 970)
      limitCool := since u.now u.boot.limitCool (temp ≤ 1000)
      supplyGood := since u.now u.boot.supplyGood low.isNone
      refreshDoubled := hbmTemps.map fun x => decide (850 < x) } }
    let u := u.monitorReason 2 (1000 < temp) (heldFor u.now u.boot.thermalCool 60000000000) Ev.thermalHigh 2
    let u := u.monitorReason 3 (1050 < temp) (heldFor u.now u.boot.limitCool 60000000000) Ev.thermalHigh 3
    u.monitorReason 4 low.isSome (heldFor u.now u.boot.supplyGood 10000000000) Ev.supplyLow (low.getD 0)

/-- HealthClear TRUE (R483, R484): the sticky reasons and JunctionTempMax. -/
def State.clearHealth (s : State) : State := ((s.setReason 0 false).setReason 5 false).toDefault Obj.junctionTempMax 0

end Sys2Proof.Machine
end

