-- ==== Sys2Proof/Machine/Boundary.lean ====
section
/-!
DEFINITION. The house frame boundary (R204, R238, R369 to R372, R376, R382, R383, R614): what the device does there, in order.
-/
namespace Sys2Proof.Machine

/-- The last boundary of the time counter. -/
def State.boundaryNow (s : State) : Nat := gridPoint s.house (gridIndex s.house s.tc)

/-- The restore commit, where it is due at a boundary (R614). -/
def State.restoreAt (s : State) (b : Nat) : State :=
  s.onlyIf (s.boot.restoreDue.elim false fun d => d ≤ b) fun t => t.restoreCommit b

/-- A boundary of a running device: the role is decided from what is known before it (R370), what is due takes force (R204),
and a new role acts (R382, R383). A SOFT restart decides no role (R615, R620). -/
def State.runBoundary (s : State) (b : Nat) : State :=
  let (role, t) := if s.paired && s.boot.started then s.decideRole else (none, s)
  let t := (t.countStale b).executeBoundary b
  let t := match role with
    | some 1 => t.takeover b
    | some _ => t.demote b
    | none => t
  let t := t.restoreAt b
  t.firnGrants (gridIndex t.house b)

/-- HOUSE_FRAME_BOUNDARY (R204): each boundary once. A device whose restore commit has not executed meets nothing else there. -/
def execHouseFrameBoundary (dt : Nat) (s : State) : Result :=
  actIf dt s (fun t => t.ce.lastBoundary < t.boundaryNow) fun t =>
    let b := t.boundaryNow
    let u := { t with ce := { t.ce with lastBoundary := b } }
    let u := if u.live then u.runBoundary b else u.restoreAt b
    (u.onlyIf u.paired State.refreshTwin).toggleHealth

end Sys2Proof.Machine
end

