-- ==== Sys2Proof/Machine/Reads.lean ====
section
/-!
DEFINITION. What a read of an object returns (R13, R14, R462, R463): the last value written, the value in force, and the
objects that the device computes at the read.
-/
namespace Sys2Proof.Machine

/-! ## Computed values -/

/-- The changes of every salvo that holds a projection. -/
def State.stack (s : State) : List (List Change) := s.heldSalvos.map fun x => x.2.changes

/-- The object and the projected value of a charge (R48), by subindex: 0 in force, 1 projected. -/
def State.chargeOf (s : State) (f : Objs → Nat) (sub : Nat) : Nat := if sub = 0 then f s.objs else projectNat f s.objs s.stack

/-- A port's charge in a direction: in force or projected, rounded up to whole bits per second (notes/assumptions/22.md). -/
def State.portLoad (s : State) (port : Nat) (tx projected : Bool) : Nat :=
  let f := fun o => Objs.portCharge o port tx
  ceilFrac (if projected then projectFrac f s.objs s.stack else f s.objs)

/-- The count of a register counter (R561). -/
def State.regCount (s : State) (addr : Nat) : Nat := field (s.regN addr) 0 30

/-- A lock-out that runs, in seconds rounded up (R457, R490). -/
def Lockout.left (x : Lockout) (now : Nat) : Nat := x.until_.elim 0 fun e => ceilDiv (e - now) 1000000000

/-- LockoutTable (R490). -/
def State.lockoutBytes (s : State) : List Byte :=
  (s.il.lockouts.filter fun x => x.failures != 0 || x.left s.now != 0).flatMap fun x =>
    zeros (16 - x.addr.length) ++ x.addr ++ beBytes 1 x.failures ++ beBytes 1 (if x.left s.now = 0 then 0 else x.step) ++
      zeros 2 ++ beBytes 4 (x.left s.now)

/-- PortMacAddr's default follows from MacBase (R146): the value that a port's object reads. -/
def State.portMac (s : State) (port : Nat) : List Byte := s.identityMac port

/-- The objects of a session (R489); none of a free one. -/
def Session.value (x : Session) (index : Nat) : Option Val :=
  if index = Obj.sessState then some (.num 1)
  else if index = Obj.sessRole then some (.num x.role)
  else if index = Obj.sessTransport then some (.num (b2n x.tcp))
  else if index = Obj.sessPort then some (.num x.port)
  else if index = Obj.sessPeerAddr then some (.bytes x.addr)
  else if index = Obj.sessPeerPort then some (.num x.peerPort)
  else if index = Obj.sessEncrypted then some (.num (b2n x.encrypted))
  else if index = Obj.sessOpenedAt then some (.num x.openedAt)
  else if index = Obj.sessLastRxAt then some (.num x.lastRxAt)
  else if index = Obj.sessRequests then some (.num x.requests)
  else if index = Obj.sessOutstanding then some (.num x.outstanding.length)
  else if index = Obj.sessNotifyLost then some (.num x.lostTotal)
  else none

/-- The objects of a salvo (R214). -/
def Salvo.value (x : Salvo) (index : Nat) : Option Val :=
  if index = Obj.salvoState then some (.num x.state.code)
  else if index = Obj.salvoOwner then some (.num x.owner)
  else if index = Obj.salvoChangeCount then some (.num x.changes.length)
  else if index = Obj.salvoResult then some (.num x.result)
  else if index = Obj.salvoResultDetail then some (.num x.detail)
  else if index = Obj.salvoTakeBoundary then some (.num (x.boundary / tcNs))
  else if index = Obj.salvoArmedAt then some (.num x.armedAt)
  else if index = Obj.salvoMirror then some (.num x.mirror)
  else none

/-- The objects of a clip (R444). -/
def Clip.value (x : Clip) (index : Nat) : Option Val :=
  if index = Obj.clipState then some (.num x.state)
  else if index = Obj.clipFormat then some (.num x.format)
  else if index = Obj.clipFrames then some (.num x.frames.length)
  else if index = Obj.clipMissing then some (.num (x.frames.filter fun f => f.isNone).length)
  else if index = Obj.clipRecordedAt then some (.num x.recordedAt)
  else none

/-- Charges, pools and extents (R48, R111, R120, R150, R180, R301, R442). -/
def State.chargeValue (s : State) (index sub : Nat) : Option Val :=
  let port := fun (i : Nat) (tx projected : Bool) =>
    if index = i then some (Val.num (s.portLoad sub tx projected))
    else if index = (if tx then portTxIdx 0x8000 i else portIdx 0x8000 i) then
      some (.num (s.portLoad (0x8000 + sub) tx projected))
    else none
  if index = Obj.hbmCharge then some (.num (s.chargeOf Objs.hbmCharge sub))
  else if index = Obj.payloadInCharge then some (.num (s.chargeOf Objs.payloadIn sub))
  else if index = Obj.payloadOutCharge then some (.num (s.chargeOf Objs.payloadOut sub))
  else if index = Obj.writerGroupCharge then some (.num (Objs.writerGroup s.objs sub))
  else if index = Obj.readerGroupCharge then some (.num (Objs.readerGroup s.objs sub))
  else if index = Obj.rxReservation then
    some (.num (if s.b Obj.rxEnable sub then Objs.rxReserve s.objs sub
      else (s.prejoined.find? fun x => x.2 == sub).elim 0 fun x => Objs.rxReserve x.1 sub))
  else if index = Obj.srcStorePages then some (.num (fmtPages (s.n Obj.srcReservedFormat sub)))
  else if index = Obj.storePagesProjected then some (.num (countOver (Objs.storePages s.objs) pagesAdded s.objs s.stack))
  else if index = Obj.delayPoolInForce then some (.num (Objs.delayPool s.objs))
  else if index = Obj.delayPoolProjected then some (.num (countOver (Objs.delayPool s.objs) delayAdded s.objs s.stack))
  else if index = Obj.morExtentsUsed then
    some (.num (if sub = 0 then s.extentsUsed else countOver s.extentsUsed s.extentsAdded s.objs s.stack))
  else if index = Obj.morWriteCharge then some (.num (s.chargeOf Objs.morWrite sub))
  else if index = Obj.morReadCharge then some (.num (s.chargeOf Objs.morRead sub))
  else ((port Obj.portRxCharge false false).orElse fun _ => port Obj.portRxChargeProjected false true).orElse fun _ =>
    (port Obj.portTxCharge true false).orElse fun _ => port Obj.portTxChargeProjected true true

/-- Objects that report registers (R325, R514, R536, R557, R561, R578). -/
def State.mirrorValue (s : State) (index sub : Nat) : Option Val :=
  let count := fun (addr : Nat) => some (Val.num (s.regCount addr))
  let plain := fun (addr : Nat) => some (Val.num (s.regN addr))
  if index = Obj.tarnStatus then plain (tpReg sub Tp.stat)
  else if index = Obj.tarnRateMeasured then plain (tpReg sub 0x24)
  else if index = Obj.tarnUnderruns then count (tpReg sub 0x34)
  else if index = Obj.ctlLinkState then some (.num (field (s.regN (cmac sub 4)) 0 3))
  else if index = Obj.ctlRxCounts then count (cmac 0 (0x200 + 4 * sub))
  else if index = Obj.ctlRxCountsB then count (cmac 1 (0x200 + 4 * sub))
  else if index = Obj.ctlTxFrames then count (cmac sub 0x224)
  else if index = Obj.colMasterQos then plain (0x40020010 + 4 * sub)
  else if index = Obj.colWaitMax then plain (0x40020060 + 4 * sub)
  else if index = Obj.scrDescriptors then count 0x40010020
  else if index = Obj.scrErrors then count 0x40010024
  else if index = Obj.evtFifoDropped then count Reg.evtDropped
  else if index = Obj.evtPinState then some (.num (s.evtPinStateOf sub))
  else none

/-- Times, versions, keys, the store and updates (R360, R482, R483, R489 to R493, R500, R562, R601). -/
def State.systemValue (s : State) (index sub : Nat) : Option Val :=
  if index = Obj.wsTimeNow then some (.num s.ptp)
  else if index = Obj.wsDeviceQl then some (.num s.deviceQl)
  else if index = Obj.wsPhaseError then some (.num s.phaseError)
  else if index = Obj.wsHoldoverElapsed then some (.num s.heldFor)
  else if index = Obj.refWtrRemaining then some (.num (s.wtrLeft sub))
  else if index = Obj.nextHouseBoundary then some (.num (s.nextBoundary / tcNs : Nat))
  else if index = Obj.takeDeadline then some (.num (s.nextBoundary / tcNs - 2000000 : Nat))
  else if index = Obj.bedrockVersion && sub = 1 then some (.num s.up.patchVersion)
  else if index = Obj.uplandVersion then some (.num s.up.uplandVersion)
  else if index = Obj.uptimeSeconds then some (.num ((s.now - s.boot.startedAt) / 1000000000 : Nat))
  else if index = Obj.roleKeyPresent then some (.num (b2n (s.il.roleKeys.any fun (p : Nat × List Byte) => p.1 == sub)))
  else if index = Obj.lockoutTable then some (.bytes s.lockoutBytes)
  else if index = Obj.ownerKeyHash then
    some (.bytes (if look s.up.ownerStates sub 0 = 0 then [] else look s.up.ownerHashes sub []))
  else if index = Obj.ownerKeyState then some (.num (look s.up.ownerStates sub 0 : Nat))
  else if index = Obj.storeVersionWritten then some (.num s.up.storeVersion)
  else if index = Obj.storeBytesUsed then
    some (.num (s.storeLength (if sub = 0 then s.recorded else s.stack.foldl Objs.overlay s.recorded)))
  else if index = Obj.storeDirty then some (.num (b2n s.storeDirtyNow))
  else if index = Obj.ctlMacAddr then some (.bytes (s.ctlMac sub))
  else if index = Obj.pinnedCount then some (.num s.pinned.length)
  else if index = Obj.pinnedList then some (.bytes s.pinnedBytes)
  else if index = Obj.confirmRemaining then some (.num s.confirmLeft)
  else if index = Obj.slotVersion then some (.num (s.slotVersionOf sub))
  else if index = Obj.slotRole then some (.num (s.slotRoleOf sub))
  else if index = Obj.rollbackCounter then some (.num s.up.rollback)
  else if index = Obj.updateJournal then some (.bytes s.updateJournalBytes)
  else if index = Obj.twinResyncProgress then some (.num s.resyncProgress)
  else if index = Obj.morJournalOldest then some (.num ((s.mor.journal.getLast?).elim 0 (·.seq)))
  else if index = Obj.morJournalNewest then some (.num ((s.mor.journal.head?).elim 0 (·.seq)))
  else if index = Obj.portMacAddr then some (.bytes (s.portMac sub))
  else if index = Obj.portMacAddrB then some (.bytes (s.portMac (0x8000 + sub)))
  else if index = Obj.portStationMac then some (.bytes (s.stationMac sub))
  else if index = Obj.portStationMacB then some (.bytes (s.stationMac (0x8000 + sub)))
  else if index = Obj.srcColour then some (.num (Objs.srcColourOf s.objs sub))
  else none

/-- What a slot's store has written by now, and the pool pages in use: the frames that the device itself times complete at their
time (R161, R177, R180). -/
def State.storeValue (s : State) (index sub : Nat) : Option Val :=
  if index = Obj.srcFramesWritten || index = Obj.srcLiveFormat then some (Objs.val (s.finishTimed sub).objs (adr index sub))
  else if index = Obj.storePagesInForce then
    some (.num (Objs.storePages s.objs +
      (s.ridge.src.map fun (p : Nat × SrcSlot) => ((s.finishTimed p.1).src p.1).oldPages).sum : Nat))
  else none

/-- An object that the device computes at the read; none for one that the store of objects holds. -/
def State.computed (s : State) (session : Option Nat) (index sub : Nat) : Option Val :=
  if index = Obj.sessSelf then some (.num (session.getD 0xFFFF))
  else if index = Obj.subscription then
    some (.bytes ((session.bind s.session).elim [] fun x => x.subscription))
  else if Obj.sessState ≤ index && index ≤ Obj.sessNotifyLost then (s.session sub).bind fun x => x.value index
  else if Obj.salvoState ≤ index && index ≤ Obj.salvoMirror then (s.salvo sub).value index
  else if Obj.clipState ≤ index && index ≤ Obj.clipRecordedAt then (s.clip sub).value index
  else (((s.chargeValue index sub).orElse fun _ => s.mirrorValue index sub).orElse fun _ => s.systemValue index sub).orElse
    fun _ => s.storeValue index sub

/-- The value that a read returns (R13, R14). A Frame-class object's is that of its newest write; a group object of a member lane
reads its default (R84, R85). -/
def State.readVal (s : State) (session : Option Nat) (a : Nat) : Val :=
  if Objs.onMember s.objs a then objDefault a else
  match (s.ce.frameWrites.reverse.find? fun w => w.addr == a), s.ce.restartWrites.lookup a with
  | some w, _ => w.val
  | none, some v => v
  | none, none => (s.computed session (adrIndex a) (adrSub a)).getD (Objs.val s.objs a)

end Sys2Proof.Machine
end

