-- ==== Sys2Proof/Machine/Writes.lean ====
section
/-!
DEFINITION. A direct write of an object (R8 to R12, R464): its checks in their order, and its effect by class. A copy to the
standby applies Immediate-class values through `State.applyNow` too.
-/
namespace Sys2Proof.Machine

/-! ## Checks of the dictionary (R464, steps 1 to 5) -/

/-- Whether a reference's kind has no use for an object (R361): rates of pulses, polarity of pulses and PPS, lanes of SDI. -/
def refRefuses (i n : Nat) : Bool :=
  (i = Obj.refRate && !(2 ≤ n && n ≤ 5)) || (i = Obj.refPolarity && !(2 ≤ n && n ≤ 6)) ||
    (i = Obj.refSdiLane && !(7 ≤ n && n ≤ 10))

/-- Whether a direct write meets ACCESS beside its object's access code (R84, R247, R251, R267, R361). That it is ACCESS by which a
write to a group object of a member lane, or to a stage object at a subindex that does not take it, is refused is DEDUCED from R247
(notes/assumptions/67.md). -/
def State.itemAccess (s : State) (a : Nat) : Bool :=
  Objs.itemRefuses s.objs a || refRefuses (adrIndex a) (adrSub a)

/-- Ranges that depend on other values (R236, R262, R263, R356, R395, R432, R486). -/
def State.itemRange (s : State) (a : Nat) (v : Val) : Bool :=
  let i := adrIndex a
  let n := adrSub a
  let x := (Val.toInt v).toNat
  let len := (Val.toBytes v).length
  if i = Obj.laneTxPre then tapsOk x (s.n Obj.laneTxPost n)
  else if i = Obj.laneTxPost then tapsOk (s.n Obj.laneTxPre n) x
  else if i = Obj.fpOffset then
    x < periodNs (if s.n Obj.fpAlign n = 0 then ratePeriod (s.n Obj.fpRate n) else s.refPeriod (s.n Obj.fpAlign n + 1))
  else if i = Obj.dlyFrames then s.configs.all fun c => x ≤ Objs.n c Obj.dlyCapacity n
  else if i = Obj.roleKey then !(n = 3 && len = 0)
  else if i = Obj.layerGfxData then s.gfxDataOk n len
  else if i = Obj.colLutOffset then x % 6 == 0
  else if i = Obj.colLutData then s.lutDataOk n len
  else true

/-- Steps 1 to 5 of R464 for a write: the value, or the status. -/
def State.dictCheck (s : State) (role a : Nat) (value : List Byte) : Nat ⊕ Val :=
  match dictRow (adrIndex a) (adrSub a) with
  | none => .inl Code.noObject
  | some r =>
    if r.access == .ro || s.itemAccess a then .inl Code.access
    else if role < r.role then .inl Code.roleTooLow
    else if r.commit == .take then .inl Code.commitClass
    else match r.value value with
      | none => .inl Code.range
      | some v => if s.itemRange a v then .inr v else .inl Code.range

/-! ## Standing (R464, steps 6 and 7; R613) -/

/-- Objects of the datapath, which are not written before the restore commit (R613, notes/assumptions/25.md). -/
def datapathObject (i : Nat) : Bool := (0x1400 ≤ i && i < 0x1700) || (0x1800 ≤ i && i < 0x7000)

/-- Whether the owner lock refuses a write (R491, R601). -/
def State.lockRefuses (s : State) (a : Nat) : Bool :=
  let i := adrIndex a
  s.b Obj.ownerLock 0 &&
    (i = Obj.roleKey || i = Obj.ownerKeyProgram || i = Obj.ownerKeyRevoke || i = Obj.updatePolicy || i = Obj.confirmWindow ||
      i = Obj.updateBegin || i = Obj.updateData || i = Obj.updateCommit || i = Obj.updateActivate || i = Obj.morFormat ||
      i = Obj.wsHoldoverReset || (dictRow i (adrSub a)).elim false fun r => r.commit == .restart)

/-! ## Codes of the chapters (R464, step 8) -/

/-- Whether anything but the Saddle octet binds a lane, in force or projected (R390). -/
def State.laneBound (s : State) (lane : Nat) : Bool :=
  (s.configs.any fun c =>
    (Objs.sdiClaims c).any (fun (p : List Nat × List Nat) => p.1.contains lane) ||
      (Objs.ports c).any fun p => (Objs.portLanes c p).contains lane) ||
    [7, 8, 9, 10].any fun r => s.n Obj.refSdiLane r == lane

/-- Whether another lane of the octet is ETHERNET at another rate (R392). -/
def State.rateConflict (s : State) (lane rate : Nat) : Bool :=
  eight.any fun k =>
    let l := lane / 8 * 8 + k
    l != lane && s.n Obj.laneMode l == 2 && s.n Obj.laneEthRate l != rate

/-- Whether an octet's reference is declared at 148.5 MHz (R393). -/
def State.refSlow (s : State) (octet : Nat) : Bool := s.n Obj.spurRefFreq (s.n Obj.octetRef octet) == 1

/-- The lanes that a new reference of an octet, or a new frequency of an input, would affect (R393). -/
def State.affected (s : State) (i n : Nat) : List Nat :=
  (if i = Obj.octetRef then [n] else s.octetsOf n).flatMap fun o => eight.map (8 * o + ·)

/-- Whether LaneMode is refused with LANE_IN_USE: on a bound lane, and on a lane of a Saddle octet, but that a newly named
octet's lanes take OFF (R390, R400). -/
def State.modeInUse (s : State) (lane mode : Nat) : Bool :=
  s.laneBound lane || (s.saddleOffset lane).isSome || (s.saddleLanes.contains lane && mode != 0)

/-- The codes of R420. -/
def State.laneCode (s : State) (a : Nat) (v : Val) : Option Nat :=
  let i := adrIndex a
  let n := adrSub a
  let x := (Val.toInt v).toNat
  if i = Obj.laneMode then
    if s.modeInUse n x then some Code.laneInUse
    else if x = 2 && s.rateConflict n (s.n Obj.laneEthRate n) then some Code.laneRateConflict
    else if x = 2 && s.refSlow (n / 8) then some Code.laneRefInvalid
    else none
  else if i = Obj.laneEthRate then
    if s.n Obj.laneMode n = 2 && s.rateConflict n x then some Code.laneRateConflict else none
  else if i = Obj.octetRef || i = Obj.spurRefFreq then
    if (s.affected i n).any fun l => s.n Obj.laneMode l != 0 then some Code.laneInUse else none
  else if i = Obj.saddleLaneBase then if s.refSlow (x / 8) then some Code.laneRefInvalid else none
  else if i = Obj.saddleSlip then if s.n Obj.saddleBringUp 0 = 0 then some Code.laneInUse else none
  else if i = Obj.lanePrbsMode || i = Obj.lanePrbsCheck then
    if s.laneBound n || ((s.saddleOffset n).isSome && s.n Obj.saddleBringUp 0 = 0) then some Code.laneInUse else none
  else none

/-- An owner key slot that is EMPTY and has nothing burned: the lowest one (R492, R525). -/
def State.emptySlot (s : State) : Option Nat :=
  (List.range 4).find? fun k => look s.up.ownerStates k 0 == 0 && look s.up.ownerHashes k [] == []

/-- Whether an owner key slot can be revoked: it is ACTIVE, and another one is (R492). -/
def State.canRevoke (s : State) (k : Nat) : Bool :=
  look s.up.ownerStates k 0 == 1 && (List.range 4).any fun j => j != k && look s.up.ownerStates j 0 == 1

/-- The codes of the other chapters (R350, R425, R437, R492). -/
def State.chapterCode (s : State) (a : Nat) (v : Val) : Option Nat :=
  let i := adrIndex a
  let n := adrSub a
  if i = Obj.wsTimeSet then if s.timeSetRefused then some Code.timeSetRefused else none
  else if i = Obj.morFormat then if s.morInUse then some Code.morInUse else none
  else if i = Obj.clipDelete then if s.clipInUse n then some Code.morInUse else none
  else if i = Obj.ownerKeyProgram then if s.emptySlot.isNone then some Code.otpNoSlot else none
  else if i = Obj.ownerKeyRevoke then if s.canRevoke (Val.toInt v).toNat then none else some Code.otpLastKey
  else s.laneCode a v

/-! ## The store's room (R499, step 9) -/

/-- The role keys after a write of RoleKey (R486). -/
def keysAfter (keys : Table (List Byte)) (role : Nat) (key : List Byte) : Table (List Byte) :=
  if key.isEmpty then del keys role else put keys role key

/-- Whether a write would take the store's records beyond their limit; a return to the default never does. -/
def State.storeRefuses (s : State) (a : Nat) (v : Val) : Bool :=
  if adrIndex a = Obj.roleKey then
    let t := { s with il := { s.il with roleKeys := keysAfter s.il.roleKeys (adrSub a) (Val.toBytes v) } }
    storeLimit < t.storeLength t.recorded
  else persistent a && v != objDefault a && storeLimit < s.storeLength (Objs.set s.recorded a v)

/-- Steps 6 to 9 of R464, with BUSY of R613 before them (notes/assumptions/25.md): the status, none where the write may act. -/
def State.standCheck (s : State) (a : Nat) (v : Val) : Option Nat :=
  if datapathObject (adrIndex a) && !s.boot.started then some Code.busy
  else if s.standby && copiedObject a then some Code.twinStandby
  else if s.lockRefuses a then some Code.ownerLocked
  else match s.chapterCode a v with
    | some c => some c
    | none => if s.storeRefuses a v then some Code.storeFull else none

/-! ## Immediate-class effects -/

/-- The objects of the same subindex that a clear object clears (R560). -/
def clearedBy (i : Nat) : List Nat :=
  match i with
  | 0x601F => [0x6016, 0x6018, 0x6019, 0x601B, 0x601C, 0x601D, 0x601E]
  | 0x6056 => [0x6055]
  | 0x681F => [0x6813, 0x6814, 0x6815, 0x6816]
  | 0x683F => [0x6833, 0x6834, 0x6835, 0x6836]
  | 0x6A3F => (List.range 17).map (0x6A22 + ·)
  | 0x6A4F => [0x6A43, 0x6A45, 0x6A46, 0x6A48, 0x6A49, 0x6A4A, 0x6A4B]
  | 0x684F => [0x6843, 0x6844]
  | 0x685F => [0x6853, 0x6854]
  | 0x6C3F => [0x6C24, 0x6C25, 0x6C26, 0x6C27, 0x6C28]
  | 0x200F => [0x2005, 0x2006]
  | 0x301F => [0x3014, 0x3015, 0x3016, 0x3017, 0x3018]
  | 0x3045 => [0x3041, 0x3042]
  | 0x382F => [0x3820, 0x3821, 0x3822, 0x3823]
  | 0x401F => [0x4013, 0x4014, 0x4015]
  | 0x411F => [0x4115]
  | 0x501F => [0x5016]
  | 0x511F => [0x5111, 0x5112, 0x5113]
  | 0x521F => [0x5217, 0x5218, 0x5219, 0x521A]
  | 0x541F => [0x5411]
  | 0x152F => [0x1521, 0x1522]
  | 0x161F => [0x1617, 0x1618, 0x1619, 0x161A, 0x161B]
  | 0x169F => [0x1694, 0x1695, 0x1696]
  | _ => []

/-- The objects of other subindices that a clear object clears: index and number of subindices. -/
def clearedAll (i : Nat) : List (Nat × Nat) :=
  match i with
  | 0x131F => [(0x1300, 512)]
  | 0x113F => (List.range 8).map (fun k => (0x1130 + k, 2)) ++ [(0x1142, 1)]
  | 0x182F => [(0x1814, 4), (0x1851, 64), (0x1871, 64), (0x1891, 64)]
  | 0x782F => [(0x7801, 6), (0x7820, 7), (0x7821, 7), (0x7825, 1)]
  | _ => []

/-- What a clear takes with it beside its objects: meters, the skew of a flow, registers that objects mirror. -/
def State.clearBeside (s : State) (i n : Nat) : State :=
  match i with
  | 0x501F => s.setStrip n { s.strip n with meter := (s.strip n).meter.cleared }
  | 0x511F => s.setBus n { s.bus n with meter := (s.bus n).meter.cleared }
  | 0x521F => s.setAout n { s.aout n with meter := (s.aout n).meter.cleared }
  | 0x6A3F => s.setRxe n { s.rxe n with skewSeen := false, waitingAt := s.ptp }
  | 0x171F => s.clearRegs (cmac n 0x22C) 1
  | 0x782F => [0x40020060, 0x40020064, 0x40020068, 0x4002006C, 0x40020070, 0x40020074, 0x40010020, 0x40010024].foldl
      (fun t r => t.setRegN r 0) s
  | 0x140F => s.clearHistory
  | 0x7038 => s.clearPhaseHistogram
  | 0x702F => s.monClear n
  | _ => s

/-- A clear (R560, R565): the counters that differ from their defaults are the only ones to touch. -/
def State.clearObject (s : State) (i n : Nat) : State :=
  let t := s.clearCounters (clearedBy i) n
  let t := (clearedAll i).foldl (fun (u : State) p => (Objs.subs u.objs p.1).foldl (fun v k => v.clearCounter p.1 k) u) t
  t.clearBeside i n

/-- TRUE written to a BOOL object, or a value to another WO object, of Immediate class. -/
def State.trigger (s : State) (i n : Nat) (v : Val) : State :=
  let x := (Val.toInt v).toNat
  let b := Val.toBytes v
  if i = Obj.layerGfxOffset then s.gfxOffset n x
  else if i = Obj.layerGfxData then s.gfxData n b
  else if i = Obj.colShaperData then s.shaperData n b
  else if i = Obj.colLutOffset then s.lutOffset n x
  else if i = Obj.colLutData then s.lutData n b
  else if i = Obj.wsTimeSet then s.timeSet x
  else if i = Obj.saddleTrainRequest then
    (if s.sad.base.isSome && s.n Obj.saddleBringUp 0 = 1 then s.trainRequest n x else s)
  else if x = 0 then s
  else if i = Obj.wsHoldoverReset then s.dropModel
  else if i = Obj.saddleSlip then s.slipLane n
  else if i = Obj.saddleRestart then s.saddleRestart
  else if i = Obj.morFormat then s.morFormat
  else if i = Obj.clipDelete then s.clipDelete n
  else if i = Obj.healthClear then s.clearHealth
  else if i = Obj.lockoutClear then { s with il := { s.il with lockouts := [] } }
  else if i = Obj.evtPinAck then s.evPinAck (2 ^ n)
  else if i = Obj.healthConfirm then s.confirm
  else s.clearObject i n

/-- An Immediate-class value takes effect: a written one, or one that a copy carries. -/
def State.applyNow (s : State) (a : Nat) (v : Val) : State :=
  if (dictRow (adrIndex a) (adrSub a)).elim false fun r => r.access == .rw then s.putNow a v
  else s.trigger (adrIndex a) (adrSub a) v

/-! ## Writes -/

/-- What follows an accepted write: nothing more, or one of the effects that come with its answer or after it. -/
inductive After where
  | none
  | frame (a : Nat) (v : Val)
  | through (a : Nat) (v : Val)
  | save
  | endRole (role : Nat)
  | activate
  | soft
  | hard
  deriving DecidableEq, Repr

/-- One write decided: its status, EffectiveAt in nanoseconds, what follows it, and the device. -/
structure Wrote where
  status : Nat
  effectiveAt : Nat
  after : After
  state : State
  deriving DecidableEq, Repr

/-- A refused write. -/
def State.refused (s : State) (code : Nat) : Wrote := ⟨code, 0, .none, s⟩

/-- An accepted write that acts now. -/
def State.wrote (s : State) (after : After := .none) : Wrote := ⟨0, s.ptp, after, s⟩

/-- A write decided by the update machine. -/
def Written.wrote (w : Written) (after : After) : Wrote :=
  if w.1 = 0 then w.2.wrote after else w.2.refused w.1

/-- RoleKey (R486, R488). -/
def State.writeKey (s : State) (role : Nat) (key : List Byte) : State :=
  let t := { s with il := { s.il with roleKeys := keysAfter s.il.roleKeys role key } }
  ((t.setN Obj.roleKeyChangedAt role t.ptp).raise Ev.roleKeyChanged role).refreshProvision

/-- OwnerLock (R491). -/
def State.writeLock (s : State) (on : Bool) : State :=
  if s.b Obj.ownerLock 0 == on then s
  else ((s.setB Obj.ownerLock 0 on).setN Obj.ownerLockChangedAt 0 s.ptp).raise Ev.ownerLockChange (b2n on)

/-- OwnerKeyProgram (R492, R525): the hash, then its state. -/
def State.programKey (s : State) (hash : List Byte) : State :=
  match s.emptySlot with
  | some k => { s with up := { s.up with
      ownerHashes := put s.up.ownerHashes k hash
      ownerStates := put s.up.ownerStates k 1 } }.raise Ev.ownerKeyChange k
  | none => s

/-- OwnerKeyRevoke (R492). -/
def State.revokeKey (s : State) (k : Nat) : State :=
  { s with up := { s.up with ownerStates := put s.up.ownerStates k 2 } }.raise Ev.ownerKeyChange k

/-- Writes that act on the device itself; none for every other object. -/
def State.ownWrite (s : State) (session a : Nat) (v : Val) : Option Wrote :=
  let i := adrIndex a
  let x := (Val.toInt v).toNat
  let b := Val.toBytes v
  if i = Obj.roleKey then some ((s.writeKey (adrSub a) b).wrote (.endRole (adrSub a)))
  else if i = Obj.ownerLock then some (s.writeLock (x = 1)).wrote
  else if i = Obj.ownerKeyProgram then some (s.programKey b).wrote
  else if i = Obj.ownerKeyRevoke then some (s.revokeKey x).wrote
  else if i = Obj.subscription then
    some ((s.session session).elim s fun z => s.setSession session { z with subscription := b }).wrote
  else if i = Obj.deviceRestart then some (s.wrote (if x = 1 then .soft else .hard))
  else if i = Obj.storeSaveNow then some (s.wrote (if x = 1 then .save else .none))
  else if i = Obj.updateBegin then some (Written.wrote (s.updateBegin session x) .none)
  else if i = Obj.updateData then some (Written.wrote (s.updateData session b) .none)
  else if i = Obj.updateCommit then some (if x = 1 then Written.wrote (s.updateCommit session) .none else s.wrote)
  else if i = Obj.updateActivate then some (if x = 1 then Written.wrote s.updateActivate .activate else s.wrote)
  else if i = Obj.updateAbort then some (if x = 1 then Written.wrote s.updateAbort .none else s.wrote)
  else none

/-- The boundary at which a value of a class acknowledged now takes effect, 0 for other classes than Frame (R8, R9). -/
def State.classDue (s : State) (c : Commit) : Nat := if c == .frame then s.boundaryAfterDeadline else 0

/-- EffectiveAt of a write of a class acknowledged now (R8, R464). -/
def State.classAt (s : State) (c : Commit) : Nat :=
  match c with
  | .frame => s.classDue c / tcNs
  | .restart => 0
  | _ => s.ptp

/-- The effect of an acknowledged write by its class: Immediate now, Restart at the next start (R8). A Frame-class value goes with
the answer that acknowledges it (R9). -/
def State.classEffect (s : State) (a : Nat) (v : Val) (c : Commit) : State :=
  match c with
  | .frame => s
  | .restart => { s with ce := { s.ce with restartWrites :=
      (s.ce.restartWrites.filter fun w => w.1 != a) ++ (if v = Objs.val s.objs a then [] else [(a, v)]) } }
  | _ => s.applyNow a v

/-- An accepted write by its class. One that is written through waits for the standby and takes effect with its
acknowledgement (R8, R378); every other copied one goes into the next copy (R377). -/
def State.classWrite (s : State) (a : Nat) (v : Val) (c : Commit) : Wrote :=
  if s.mirrors && writtenThrough a v then ⟨0, 0, .through a v, s⟩
  else if c == .frame then ⟨0, s.classAt c, .frame a v, s⟩
  else ⟨0, s.classAt c, .none, (s.classEffect a v c).logWrite a v 0⟩

/-- One direct write of a session (R464). A write of UpdateBegin or UpdateActivate under the owner lock is check 1 of R585. -/
def State.writeItem (s : State) (session role a : Nat) (value : List Byte) : Wrote :=
  match s.dictCheck role a value with
  | .inl c => s.refused c
  | .inr v =>
    match s.standCheck a v with
    | some c =>
      if c = Code.ownerLocked && (adrIndex a = Obj.updateBegin || adrIndex a = Obj.updateActivate) then
        Written.wrote (s.updateRefuse c) .none
      else s.refused c
    | none => match s.ownWrite session a v with
      | some w => w
      | none => s.classWrite a v ((dictRow (adrIndex a) (adrSub a)).elim .immediate fun r => r.commit)

/-! ## Answers and what follows them -/

/-- The order in which effects follow. -/
def After.rank : After → Nat
  | .none => 0
  | .frame _ _ => 0
  | .through _ _ => 1
  | .save => 2
  | .endRole _ => 3
  | .activate => 4
  | .soft => 5
  | .hard => 6

/-- Whether an effect gives the answer itself, once it has come about. -/
def After.delays : After → Bool
  | .through _ _ => true
  | .save => true
  | .soft => true
  | .hard => true
  | _ => false

/-- The commit class of an object, Immediate where none is defined. -/
def commitOf (a : Nat) : Commit := (dictRow (adrIndex a) (adrSub a)).elim .immediate fun r => r.commit

/-- The Frame-class value that takes effect with the answer (R9). -/
def After.frameOf : After → Option (Nat × Val)
  | .frame a v => some (a, v)
  | .through a v => if commitOf a == .frame then some (a, v) else Option.none
  | _ => Option.none

/-- A save that has been asked for starts at once, subject to the 1 s spacing (R498). -/
def State.saveSoon (s : State) : State :=
  if s.boot.uplandRuns && s.st.save.isNone && s.st.lastStart.elim true (fun a => a + 1000000000 ≤ s.now) then s.startSave else s

/-- The restart of UpdateActivate (R589, R597). -/
def State.activateNow (s : State) : State :=
  let cause := if s.boot.stage = .recovery then 7 else 5
  (s.completeSaves.endSessions (some 4)).hardRestart cause

/-- One effect of a write, with the answer that it gives. -/
def State.followWrite (s : State) (x : After) (a : Option Answer) : State :=
  match x with
  | .none => s
  | .frame _ _ => s
  | .through adr_ v =>
    { s with tw := { s.tw with through := s.tw.through ++ [Through.mk a s.now adr_ v] } }.emit (.twinThrough adr_ v)
  | .save => { s with st := { s.st with replies := s.st.replies ++ a.toList } }.saveSoon
  | .endRole r => s.endRole r 3
  | .activate => s.activateNow
  | .soft => s.requestSoft a
  | .hard => s.requestHard a

/-- The answer, and what follows it: the last effect that delays an answer gives it (notes/assumptions/26.md). Frame-class values
go with it. -/
def State.finish (s : State) (a : Answer) (afters : List (Nat × After)) : State :=
  let l := sortBy (fun (x y : Nat × After) => decide (x.2.rank ≤ y.2.rank)) (afters.filter fun x => x.2 != .none)
  let last := (l.filter fun x => x.2.delays).getLast?
  let a := { a with frames := afters.filterMap fun x => x.2.frameOf }
  let t := if last.isNone then s.answerFor a 0 else s
  l.foldl (fun (u : State) x => u.followWrite x.2 (if last = some x then some { a with item := x.1 } else none)) t

/-- A write that a request or a gate call asks for, with its answer. -/
def State.writeFor (s : State) (asker : Asker) (session role a : Nat) (value : List Byte) : State :=
  let w := s.writeItem session role a value
  if w.status != 0 then w.state.reply asker 0x11 w.status 0 (.write 0)
  else w.state.finish ⟨asker, 0x11, .write w.effectiveAt, 0, []⟩ [(0, w.after)]

/-! ## Writes that were written through (R378) -/

/-- The body of a response whose write takes effect at a time. -/
def Body.effective (b : Body) (at_ : Nat) : Body :=
  match b with
  | .write _ => .write at_
  | b => b

/-- The answer that waited for a write is given; EffectiveAt is that of the acknowledgement (R9). -/
def State.grant (s : State) (a : Option Answer) (at_ : Nat) : State :=
  a.elim s fun x => s.answerFor { x with body := x.body.effective at_ } 0

/-- A write that waited takes effect, and its answer is given (R8, R9). -/
def State.endThrough (s : State) (x : Through) : State :=
  let c := commitOf x.addr
  (s.classEffect x.addr x.val c).grant x.answer (s.classAt c)

end Sys2Proof.Machine
end

