-- ==== Sys2Proof/Machine/TwinCopy.lean ====
section
/-!
DEFINITION. The per-frame copies of a twin pair (R376, R377, R381, R528): what the active device sends, what the standby makes
of it, and when a copy is complete.
-/
namespace Sys2Proof.Machine

/-! ## What a copy holds (R377) -/

/-- The log's writes up to the last one acknowledged at a copy point or before. -/
def logUpTo (l : List LogWrite) (cp : Nat) : List LogWrite := (l.reverse.dropWhile fun w => cp < w.ackAt).reverse

/-- A write of the log on its way. A set of the time counter goes as what the counter reads now
(notes/assumptions/27.md). -/
def State.copyWrite (s : State) (w : LogWrite) : CopyWrite :=
  if adrIndex w.addr = Obj.wsTimeSet then ⟨w.addr, .num (Val.toInt w.val + (s.tc - w.ackAt) / tcNs), 0⟩
  else ⟨w.addr, w.val, w.due / tcNs⟩

/-- Whether an object is a setting that a copy carries by value: RW and copied. -/
def copiedSetting (a : Nat) : Bool :=
  copiedObject a && (dictRow (adrIndex a) (adrSub a)).elim false fun r => r.access == .rw

/-- The copied objects of a resync (R381): settings in force, recorded Restart-class values, Frame-class writes that wait, and
logged writes of WO objects. -/
def State.resyncWrites (s : State) (logged : List LogWrite) : List CopyWrite :=
  ((s.objs.filter fun (p : Nat × Val) => copiedSetting p.1 && commitOf p.1 != .restart).map fun (p : Nat × Val) =>
      CopyWrite.mk p.1 p.2 0) ++
    ((s.recorded.filter fun (p : Nat × Val) => copiedSetting p.1 && commitOf p.1 == .restart).map fun (p : Nat × Val) =>
      CopyWrite.mk p.1 p.2 0) ++
    ((s.ce.frameWrites.filter fun w => copiedObject w.addr).map fun w => CopyWrite.mk w.addr w.val (w.due / tcNs)) ++
    ((logged.filter fun w => !copiedSetting w.addr && commitOf w.addr != .frame).map s.copyWrite)

/-- The salvos as of the copy point of a boundary (R377): as the first change after it left them behind, or as they are. -/
def State.salvosAt (s : State) (b : Nat) : Table Salvo :=
  match s.ce.atCopy with
  | some (x, l) => if x = b then l else s.ce.salvos
  | none => s.ce.salvos

/-- The salvos of a copy; in a resync with their changes. -/
def State.copySalvos (s : State) (b : Nat) (resync : Bool) : List CopySalvo :=
  (List.range 16).map fun n =>
    let x := look (s.salvosAt b) n {}
    ⟨n, x.state.code, x.owner, x.boundary / tcNs, if resync then some x.changes else none⟩

/-- The point to which an entry's next number belongs, its format, and the number there (R135): the frame being sent, the next
one, or the first sample of the next audio packet. -/
def State.copyNumber (s : State) (e : Nat) : CopyNumber :=
  let lead := Objs.txLeadEntry s.objs e
  let es := s.n Obj.txEssence e
  let next := s.n Obj.txNextSeq e
  let ssrc := s.n Obj.txSsrcInUse e
  if es = 1 || es = 5 then
    let d := s.n Obj.txSource lead
    let off := s.n Obj.dstTimingOffset d
    let following := fun (f : Nat) (t : Nat) => alignPoint f off (alignIndex f off t + 1)
    match s.txShown lead, (s.txe lead).frame with
    | some x, some (align, k) =>
      let m : Int := seqMod es
      ⟨e, ssrc, (((next : Int) - k) % m).toNat, x.format, align⟩
    | some x, none =>
      ⟨e, ssrc, next, x.format, if x.emitted then following x.format x.align else max x.align (s.txe lead).startAt⟩
    | none, _ => let f := s.dstFormat d; ⟨e, ssrc, next, f, following f s.tc⟩
  else if es = 2 || es = 3 then ⟨e, ssrc, next, 0, tcSec * s.txAudioIndex lead / s.txAudioHz lead⟩
  else ⟨e, ssrc, next, s.dstFormat (s.n Obj.txSource lead), s.tc⟩

/-- Every enabled entry's number. -/
def State.copyNumbers (s : State) : List CopyNumber := (Objs.txEntries s.objs).map s.copyNumber

/-- A surface or table by its offsets. -/
def bytesAt (b : List Byte) : List (Nat × Byte) := b.zipIdx.map fun (p : Byte × Nat) => (p.2, p.1)

/-- The surfaces and tables of a resync (R381). -/
def State.copyTables (s : State) : List CopyTable :=
  (s.cq.layers.flatMap fun (p : Nat × Layer) =>
    [CopyTable.mk 0 p.1 p.2.front (if p.2.flipped then [(0, 0)] else []), CopyTable.mk 1 p.1 p.2.back p.2.spans]) ++
  s.cq.stages.flatMap fun (p : Nat × ColStage) =>
    [CopyTable.mk 2 p.1 (bytesAt p.2.shaperFront) [],
     CopyTable.mk 3 p.1 (bytesAt p.2.shaperBack) (if p.2.shaperFull then [(0, p.2.shaperBack.length)] else []),
     CopyTable.mk 4 p.1 p.2.lutFront [],
     CopyTable.mk 5 p.1 p.2.lutBack p.2.lutSpans]

/-- Whether a resync's transfer is complete (R381). -/
def State.resyncSent (s : State) : Bool := s.tw.resyncAt.elim false fun x => x.1 + x.2 ≤ s.now

/-- The copy for a boundary. -/
def State.copyFor (s : State) (b : Nat) (logged : List LogWrite) : Copy :=
  let r := s.resyncSent
  { boundary := b / tcNs
    writes := if r then s.resyncWrites logged else logged.map s.copyWrite
    salvos := s.copySalvos b r
    executed := s.ce.executed.map fun (p : Nat × Nat) => ⟨p.1, p.2 / tcNs⟩
    numbers := s.copyNumbers
    block := if s.tw.blockNew != 0 then s.tw.block else []
    resyncDone := r
    tables := if r then s.copyTables else [] }

/-- Whether the copy for the next boundary is due: from its copy point, once. -/
def State.copyDue (s : State) : Bool :=
  let b := s.nextBoundary
  s.linked && s.active && s.twinUp && s.boot.started && b ≤ s.tc + deadline &&
    (s.tw.copySent.elim true fun (x : Nat × Nat × Bool) => x.1 != b) && s.n Obj.twinLastCopyAt 0 != b / tcNs

/-- TWIN_COPY_SEND (R376, R377, R528): the copy for the next boundary, from its copy point on. -/
def execTwinCopySend (dt : Nat) (s : State) : Result :=
  actIf dt s State.copyDue fun t =>
    let b := t.nextBoundary
    let logged := logUpTo t.tw.log (b - deadline)
    let u := t.emit (.twinCopy (t.copyFor b logged))
    { u with tw := { u.tw with
      copySent := some (b, logged.length, t.resyncSent)
      blockNew := if u.tw.blockNew = 1 then 2 else u.tw.blockNew } }.refreshTwin

/-- TWIN_COPY_ACK (R376): the acknowledgement of the copy in flight before its boundary completes it. -/
def execTwinCopyAck (dt : Nat) (s : State) : Result :=
  actIf dt s (fun t => t.active && t.tw.copySent.elim false fun (x : Nat × Nat × Bool) => t.tc < x.1) fun t =>
    match t.tw.copySent with
    | none => t
    | some (b, k, ends) =>
      let sent := t.tw.blockNew == 2
      let u := { t with tw := { t.tw with
        copySent := none
        log := t.tw.log.drop k
        block := if sent then [] else t.tw.block
        blockNew := if sent then 0 else t.tw.blockNew } }
      let u := { u with ce := { u.ce with executed := u.ce.executed.filter fun p => b ≤ p.2 } }
      let u := u.setN Obj.twinLastCopyAt 0 (b / tcNs)
      let u := if ends then
          ({ u with tw := { u.tw with
            resyncAt := none
            mirrorLost := false } }.setN Obj.twinResyncProgress 0 100).raiseTwin Ev.twinResyncDone
        else u
      u.refreshTwin

/-! ## What the standby makes of it (R376, R377, R382) -/

/-- Whether a salvo that has executed since a late Frame-class write was due has set its object (notes/assumptions/28.md). -/
def State.overtaken (s : State) (a due : Nat) : Bool :=
  s.ce.salvos.any fun (p : Nat × Salvo) =>
    p.2.state == .done && due ≤ p.2.boundary && p.2.changes.any fun c => c.addr == a

/-- A Restart-class value reaches the store's records (R8, R376). -/
def State.keepRestart (s : State) (a : Nat) (v : Val) : State :=
  { s with ce := { s.ce with restartWrites :=
      (s.ce.restartWrites.filter fun w => w.1 != a) ++ (if v = Objs.val s.objs a then [] else [(a, v)]) } }

/-- A Frame-class write waits for its boundary. One that waits already is not doubled, but takes its place in the order in which the
copy lists them, so that the last one acknowledged acts last (R11). -/
def State.keepFrame (s : State) (w : FrameWrite) : State :=
  if s.overtaken w.addr w.due then s
  else { s with ce := { s.ce with frameWrites := (s.ce.frameWrites.filter fun x => x != w) ++ [w] } }

/-- One write of a copy (R376); an object that the device does not define is ignored (R598). -/
def State.takeWrite (s : State) (w : CopyWrite) : State :=
  if !copiedObject w.addr then s
  else match commitOf w.addr with
    | .frame => s.keepFrame ⟨w.addr, w.val, s.boundaryOf w.due⟩
    | .restart => s.keepRestart w.addr w.val
    | _ => s.applyNow w.addr w.val

/-- The salvo state of a code. -/
def salvoStateOf : Nat → SalvoState
  | 1 => .staged
  | 2 => .arming
  | 3 => .armed
  | 4 => .pending
  | 5 => .done
  | _ => .free

/-- A salvo's state from a copy, where no mirror record received since the copy point says more (R377). -/
def State.takeSalvo (s : State) (cp : Nat) (c : CopySalvo) : State :=
  let x := s.salvo c.number
  if 16 ≤ c.number || cp < x.mirroredAt then s
  else if c.state = 0 then s.setSalvo c.number {}
  else
    let base := if x.state == .free then { ({} : Salvo) with mirroredAt := x.mirroredAt } else x
    let k := s.ce.takes + 1
    let fresh := c.state = 4 && x.state != .pending
    let t := if fresh then { s with ce := { s.ce with takes := k } } else s
    t.setSalvo c.number { base with
      state := salvoStateOf c.state
      owner := c.owner
      changes := c.changes.getD base.changes
      boundary := if c.state < 4 then base.boundary else s.boundaryOf c.boundary
      accepted := if fresh then k else base.accepted
      takeSession := 0xFFFF }

/-- A salvo that a copy shows as executed (R377): one whose TAKE record has not come is DONE here too, at the boundary that the copy
names. -/
def State.takeExecuted (s : State) (cp : Nat) (c : ExecutedSalvo) : State :=
  let x := s.salvo c.number
  if 16 ≤ c.number || cp < x.mirroredAt || x.state == .pending || x.state == .free || x.state == .done then s
  else s.setSalvo c.number { x with state := .done, boundary := s.boundaryOf c.boundary }

/-- A received block joins the queue of 8 (R528). -/
def State.takeBlockOf (s : State) (b : List Byte) : State :=
  if b.isEmpty then s
  else if s.tw.blocks.length < 8 then { s with tw := { s.tw with blocks := s.tw.blocks ++ [b] } }
  else { s with tw := { s.tw with
    blocks := s.tw.blocks.drop 1 ++ [b]
    blocksLost := s.tw.blocksLost + 1 } }

/-- A resync's surface or table is stored (R381). -/
def State.takeTable (s : State) (x : CopyTable) : State :=
  let bytes := x.cells.map fun (p : Nat × Byte) => p.2
  let y := s.layer x.number
  let z := s.stage x.number
  match x.kind with
  | 0 => s.setLayer x.number { y with
      front := x.cells
      flipped := !x.spans.isEmpty }
  | 1 => s.setLayer x.number { y with
      back := x.cells
      spans := x.spans }
  | 2 => s.setStage x.number { z with shaperFront := bytes }
  | 3 => (s.setStage x.number { z with
      shaperBack := bytes
      shaperFull := !x.spans.isEmpty }).tableBits x.number
  | 4 => s.setStage x.number { z with lutFront := x.cells }
  | 5 => (s.setStage x.number { z with
      lutBack := x.cells
      lutSpans := x.spans }).tableBits x.number
  | _ => s

/-- The configuration that a resync gives: every copied setting as it has it, a default where it lists none. -/
def resyncObjs (c : Objs) (l : List CopyWrite) : Objs :=
  let kept := c.filter fun (p : Nat × Val) => !copiedSetting p.1 || commitOf p.1 == .restart
  (l.filter fun w => copiedSetting w.addr && commitOf w.addr != .restart && w.due = 0).foldl
    (fun o w => Objs.set o w.addr w.val) kept

/-- The Restart-class values that a resync leaves to the next start: those that it lists, and defaults for the rest. -/
def resyncRestarts (c : Objs) (l : List CopyWrite) : List (Nat × Val) :=
  let listed := l.filterMap fun w => if copiedSetting w.addr && commitOf w.addr == .restart then some (w.addr, w.val) else none
  let unlisted := c.filterMap fun (p : Nat × Val) =>
    if copiedSetting p.1 && commitOf p.1 == .restart && !(listed.any fun x => x.1 == p.1) then some (p.1, objDefault p.1) else none
  (listed ++ unlisted).filter fun x => x.2 != Objs.val c x.1

/-- The whole of a resync takes force at once (R381, notes/assumptions/46.md): settings, and then the blocks meet them. -/
def State.takeResync (s : State) (c : Copy) : State :=
  let old := s.objs
  let next := resyncObjs old c.writes
  let local_ := s.ce.restartWrites.filter fun w => !copiedObject w.1
  let waits := (c.writes.filter fun w => copiedObject w.addr && commitOf w.addr == .frame && w.due != 0).map fun w =>
    FrameWrite.mk w.addr w.val (s.boundaryOf w.due)
  let t := { s with
    objs := next
    ce := { s.ce with
      restartWrites := local_ ++ resyncRestarts next c.writes
      frameWrites := (s.ce.frameWrites.filter fun w => !copiedObject w.addr) ++ waits } }
  let touched := ((old ++ next).map fun (p : Nat × Val) => p.1).eraseDups.filter fun a =>
    Objs.val old a != Objs.val next a && commitOf a == .immediate
  let t := touched.foldl (fun (u : State) a => u.written old (adrIndex a) (adrSub a)) t
  let t := t.meetCommit old [] t.tc
  let t := (c.writes.filter fun w => !copiedSetting w.addr && commitOf w.addr == .immediate && copiedObject w.addr).foldl
    (fun (u : State) w => u.applyNow w.addr w.val) t
  c.tables.foldl State.takeTable t

/-- A copy is applied. -/
def State.applyCopy (s : State) (b : Nat) (c : Copy) : State :=
  let t := if c.resyncDone then s.takeResync c else c.writes.foldl State.takeWrite s
  let t := c.executed.foldl (fun (u : State) x => u.takeExecuted (b - deadline) x) t
  let t := c.salvos.foldl (fun (u : State) x => u.takeSalvo (b - deadline) x) t
  let t := (t.takeBlockOf c.block).setN Obj.twinLastCopyAt 0 (b / tcNs)
  { t with tw := { t.tw with
    numbers := c.numbers
    copyApplied := some b } }

/-- A resync ends on the standby with the copy that completes it (R381). -/
def State.endResync (s : State) : State :=
  ({ s with tw := { s.tw with
    resyncNeeded := false
    resyncAt := none
    mirrorLost := false } }.setN Obj.twinResyncProgress 0 100).raiseTwin Ev.twinResyncDone

/-- TWIN_COPY_RECEIVE (R376): a copy that has come whole before its boundary is applied and acknowledged; any other is discarded,
and the boundary has counted it (notes/assumptions/24.md). -/
def execTwinCopyReceive (dt : Nat) (c : Copy) (s : State) : Result :=
  actIf dt s (fun t => t.linked && t.standby && t.live && t.tc < t.boundaryOf c.boundary) fun t =>
    let again := t.tw.copyApplied == some (t.boundaryOf c.boundary)
    let u := t.applyCopy (t.boundaryOf c.boundary) c
    let u := if c.resyncDone && !again then u.endResync else u
    (u.emit (.twinAck 2 0)).refreshTwin

/-! ## Forwarded writes at the standby (R378, R406) -/

/-- A forwarded write takes effect on the standby by its class (R376, R378). -/
def State.takeThrough (s : State) (a : Nat) (v : Val) : State :=
  if !copiedObject a then s
  else match commitOf a with
    | .frame => s.keepFrame ⟨a, v, s.boundaryAfterDeadline⟩
    | .restart => s.keepRestart a v
    | _ => s.applyNow a v

/-- A WRITE_THROUGH message at the standby (R378): the write is applied and acknowledged. How the message spells it is free. -/
def State.takeForwarded (s : State) (words : List Nat) : State :=
  match Config.forwarded words with
  | some (a, v) => (s.takeThrough a v).emit (.twinAck 3 0)
  | none => s

/-- SADDLE_MESSAGE (R406): the eight receive lines, by offset in the octet, up to the end of a message in the transport rows. A
whole message reaches the twin layer, where a WRITE_THROUGH has its effect here and the commands of the twin layer carry the contents of
the others; any message that is not whole is discarded and counted. -/
def execSaddleMessage (dt : Nat) (before start rest : List (List Bool)) (s : State) : Result :=
  actIf dt s (fun t => t.n Obj.saddleState 0 == 4) fun t =>
    let u := t.hearLines (messageLines before start rest)
    match messageIn (t.heardRows (messageLines before start rest)) with
    | none => u
    | some (start, words, bad) =>
      if t.messageOk start words && !bad then
        (if field start 8 11 = 4 && u.paired && u.standby && u.live then u.takeForwarded words.dropLast else u)
      else (u.bump Obj.saddleMsgErrors 0).raiseLimited Ev.saddleMsgError 0 0

end Sys2Proof.Machine
end

