-- ==== Sys2Proof/Machine/Ilril.lean ====
section
/-!
DEFINITION. The Ilril protocol (chapter 15): opening sessions (R454 to R457), messages received (R453, R459), requests and
their order (R461 to R468), notifications (R469, R470), and the subset of recovery (R473, R474).
-/
namespace Sys2Proof.Machine

/-! ## Who answers (R473, R613) -/

/-- Whether the ROM serves Ilril. -/
def State.recovery (s : State) : Bool := s.boot.stage == .recovery

/-- Whether a message reaches Ilril: Upland serves both ports; the ROM serves CTL_A over UDP. -/
def State.serves (s : State) (m : Msg) : Bool := s.il.ctlUp && (!s.recovery || (m.port == 0 && !m.tcp))

/-- The reason for which the bytes themselves are dropped (R449, R453): a drop counter's index. -/
def msgDrop (m : Msg) : Option Nat :=
  if m.fragment then some Obj.dropFragment
  else if !m.magicOk then some Obj.dropMagic
  else if !m.lengthOk then some Obj.dropLength
  else none

/-- Whether a message comes over the transport, port and address of a session or challenge (R450). -/
def msgBound (m : Msg) (tcp : Bool) (port : Nat) (addr : List Byte) (peerPort : Nat) : Bool :=
  m.tcp == tcp && m.port == port && m.addr == addr && m.peerPort == peerPort

/-! ## Lock-outs (R457, R490) -/

/-- The seconds of a lock-out step: 30, doubled each time, at most 900. -/
def lockSeconds (step : Nat) : Nat := min 900 (30 * 2 ^ (step - 1))

/-- The entry of an address. -/
def State.lockout (s : State) (addr : List Byte) : Option Lockout := s.il.lockouts.find? fun x => x.addr == addr

/-- An entry as time has left it: the count is 0 once a lock-out has ended, and the lock-out time is 30 s again after 3,600 s
without a failure. -/
def Lockout.settle (x : Lockout) (now : Nat) : Lockout :=
  let y := if x.until_.elim false fun e => decide (e ≤ now) then { x with until_ := none, failures := 0 } else x
  if y.until_.isNone && y.lastFailure + 3600000000000 ≤ now then { y with step := 0 } else y

/-- The whole seconds for which an address is still locked out, rounded up. -/
def State.lockLeft (s : State) (addr : List Byte) : Nat :=
  (s.lockout addr).elim 0 fun x => (x.settle s.now).left s.now

/-- The lock-out entries replaced. -/
def State.setLockouts (s : State) (l : List Lockout) : State := { s with il := { s.il with lockouts := l } }

/-- Every entry but an address's. -/
def State.otherLockouts (s : State) (addr : List Byte) : List Lockout := s.il.lockouts.filter fun x => x.addr != addr

/-- A wrong proof counts against its address; the fifth in a row locks it out. The device tracks 256 addresses. -/
def State.countFailure (s : State) (addr : List Byte) (role : Nat) : State :=
  let x := ((s.lockout addr).getD ⟨addr, 0, 0, none, s.now, role⟩).settle s.now
  let failures := x.failures + 1
  let locks : Bool := 5 ≤ failures
  let step := if locks then min (x.step + 1) 6 else x.step
  let y : Lockout := { x with
    failures := failures
    step := step
    until_ := if locks then some (s.now + 1000000000 * lockSeconds step) else x.until_
    lastFailure := s.now
    role := role }
  let t := s.setLockouts (y :: (s.otherLockouts addr).take 255)
  let t := (t.bump Obj.authFailures 0).raise Ev.authFailure role
  if locks then t.raise Ev.lockout role else t

/-- LOCKOUT_END (R457): the lock-out of an address ends. -/
def execLockoutEnd (dt : Nat) (addr : List Byte) (s : State) : Result :=
  actIf dt s (fun t => (t.lockout addr).elim false fun x => x.until_.elim false fun e => decide (e ≤ t.now)) fun t =>
    t.setLockouts (t.il.lockouts.map fun x => if x.addr == addr then { x with until_ := none, failures := 0 } else x)

/-- LOCKOUT_TIME_RESET (R457): 3,600 s without a failure. -/
def execLockoutTimeReset (dt : Nat) (addr : List Byte) (s : State) : Result :=
  actIf dt s (fun t => (t.lockout addr).elim false fun x =>
      x.until_.isNone && decide (x.lastFailure + 3600000000000 ≤ t.now)) fun t =>
    t.setLockouts (t.il.lockouts.map fun x => if x.addr == addr then { x with step := 0 } else x)

/-! ## Opening a session (R454 to R456, R473, R474, R488) -/

/-- The Owner key that the ROM finds in a store slot that passes its check (R474). -/
def State.slotKey (s : State) : Option (List Byte) :=
  let key := fun (x : Option StoreSlot) => x.bind fun y => y.roleKeys.lookup 3
  ((s.loadChoice.bind fun p => p.2.roleKeys.lookup 3).orElse fun _ => key s.st.slotA).orElse fun _ => key s.st.slotB

/-- The key of a role: 32 bytes of 0 for the Owner of an unprovisioned device and of a recovery without a key. -/
def State.keyFor (s : State) (role : Nat) : Option (List Byte) :=
  if s.recovery then (if role = 3 then some (s.slotKey.getD (zeros 32)) else none)
  else if role = 3 then some ((s.il.roleKeys.lookup 3).getD (zeros 32))
  else s.il.roleKeys.lookup role

/-- Whether WELCOME sets OPEN_RECOVERY (R474, R488). -/
def State.openAccess (s : State) (role : Nat) : Bool :=
  role == 3 && (if s.recovery then s.slotKey.isNone else s.unprovisioned)

/-- The sessions that may be open at once (R456, R473). -/
def State.sessionMost (s : State) : Nat := if s.recovery then 1 else 16

/-- A session is refused for the limit (R456, R502). -/
def State.limitRefused (s : State) : State := s.raiseLimited Ev.sessionRefusedLimit 0 0

/-- The refusal of a HELLO (R453, R456): status and RetryAfter. -/
def State.helloRefusal (s : State) (m : Msg) (h : Hello) : Option (Nat × Nat) :=
  if m.version != 1 then some (Code.versionUnsupported, 0)
  else if s.lockLeft m.addr != 0 then some (Code.lockedOut, s.lockLeft m.addr)
  else if (s.keyFor h.role).isNone then some (Code.roleKeyAbsent, 0)
  else if s.sessionMost ≤ s.il.sessions.length then some (Code.sessionLimit, 0)
  else none

/-- The first number from v on that a list does not hold, of 16 bits. -/
def freshHandle (used : List Nat) : Nat → Nat → Nat
  | 0, v => v % 65536
  | fuel + 1, v => if used.contains (v % 65536) then freshHandle used fuel (v + 1) else v % 65536

/-- A challenge is opened (R454, R456): one to an address and eight in all. Its nonce and its handle are free. -/
def State.openChallenge (s : State) (m : Msg) (h : Hello) : Challenge × State :=
  let (nd, t) := s.drawBytes 32
  let (v, t) := t.draw
  let live := t.il.challenges.filter fun c => c.addr != m.addr && decide (t.now < c.openedAt + 2000000000)
  let kept := if 8 ≤ live.length then live.drop 1 else live
  let handle := freshHandle (kept.map fun c => c.handle) 8 v
  let c : Challenge := ⟨handle, h.role, h.encrypt, h.nc, nd, m.port, m.addr, m.peerPort, m.tcp, t.now⟩
  (c, { t with il := { t.il with challenges := kept ++ [c] } })

/-- What a HELLO comes to: a refusal with its status and RetryAfter, or a challenge. -/
inductive HelloEnd where
  | refused (status retryAfter : Nat)
  | challenge (c : Challenge)
  deriving DecidableEq, Repr

/-- A HELLO decided (R456). -/
def State.hello (s : State) (m : Msg) (h : Hello) : HelloEnd × State :=
  match s.helloRefusal m h with
  | some (st, retry) => (.refused st retry, if st = Code.sessionLimit then s.limitRefused else s)
  | none => let (c, t) := s.openChallenge m h; (.challenge c, t)

/-- ILRIL_HELLO (R453, R456). -/
def execIlrilHello (dt : Nat) (m : Msg) (h : Hello) (s : State) : Result :=
  actIf dt s (fun t => t.serves m) fun t =>
    match msgDrop m with
    | some i => t.bump i m.port
    | none => match t.hello m h with
      | (.refused st retry, u) => u.emit (.refuse m.port m.addr h.nc st retry)
      | (.challenge c, u) => u.emit (.challenge m.port m.addr c.nc c.nd Config.uniqueId c.handle)

/-- The open challenge that a PROOF answers: its handle and its binding (R456). -/
def State.challengeOf (s : State) (m : Msg) (handle : Nat) : Option Challenge :=
  s.il.challenges.find? fun c =>
    c.handle == handle && msgBound m c.tcp c.port c.addr c.peerPort && decide (s.now < c.openedAt + 2000000000)

/-- The session keys of R455: K_cd, and K_dc behind it. -/
def sessionKeys (c : Challenge) (key : List Byte) (n : Nat) : List Byte :=
  Config.hkdf (c.nd ++ c.nc) key (ascii "ilril session" ++ Config.uniqueId ++ beBytes 2 n ++ beBytes 1 c.role) 64

/-- What a PROOF comes to: a refusal with its status and the client nonce it echoes, or a session with its WELCOME flags and
the device's proof. -/
inductive ProofEnd where
  | refused (status : Nat) (nc : List Byte)
  | welcome (session role flags : Nat) (proof : List Byte)
  deriving DecidableEq, Repr

/-- The lowest free session identifier. -/
def State.freeSession (s : State) : Nat := ((List.range 16).find? fun n => (s.session n).isNone).getD 0

/-- A session opens (R455, R456, R458). -/
def State.openSession (s : State) (c : Challenge) (key : List Byte) : ProofEnd × State :=
  let n := s.freeSession
  let enc := c.encrypt && !s.recovery
  let open_ := s.openAccess c.role
  let x : Session :=
    { role := c.role
      encrypted := enc
      tcp := c.tcp
      port := c.port
      addr := c.addr
      peerPort := c.peerPort
      keys := sessionKeys c key n
      openedAt := s.ptp
      openNow := s.now
      lastRx := s.now
      lastRxAt := s.ptp }
  let t := (s.setSession n x).raise Ev.sessionOpened n
  let t := if open_ && !s.recovery then t.raise Ev.unprovisionedAccess n else t
  (.welcome n c.role (b2n enc + 2 * b2n open_) (Config.hmac key (c.nc ++ c.nd ++ Config.uniqueId)), t)

/-- A PROOF decided (R455 to R457): one that names no open challenge of its binding is not counted. An answered challenge is
closed. The nonce that a refusal echoes for no challenge is free. -/
def State.proof (s : State) (m : Msg) (handle : Nat) (proof : List Byte) : ProofEnd × State :=
  match s.challengeOf m handle with
  | none => let (nc, t) := s.drawBytes 32; (.refused Code.authFailed nc, t)
  | some c =>
    let t := { s with il := { s.il with challenges := s.il.challenges.filter fun x => x.handle != handle } }
    match t.keyFor c.role with
    | none => (.refused Code.roleKeyAbsent c.nc, t)
    | some key =>
      if proof != Config.hmac key (c.nd ++ c.nc ++ Config.uniqueId) then
        (.refused Code.authFailed c.nc, t.countFailure m.addr c.role)
      else
        let t := t.setLockouts (t.otherLockouts m.addr)
        if t.sessionMost ≤ t.il.sessions.length then (.refused Code.sessionLimit c.nc, t.limitRefused)
        else t.openSession c key

/-- ILRIL_PROOF (R454 to R457). -/
def execIlrilProof (dt : Nat) (m : Msg) (handle : Nat) (proof : List Byte) (s : State) : Result :=
  actIf dt s (fun t => t.serves m) fun t =>
    match msgDrop m with
    | some i => t.bump i m.port
    | none =>
      if m.version != 1 then t.bump Obj.dropVersion m.port
      else match t.proof m handle proof with
        | (.refused st nc, u) => u.emit (.refuse m.port m.addr nc st 0)
        | (.welcome n role flags p, u) => u.emit (.welcome n role flags p)

/-- CHALLENGE_EXPIRY (R456): a challenge has stood for 2 s. -/
def execChallengeExpiry (dt handle : Nat) (s : State) : Result :=
  act dt s fun t =>
    let kept := t.il.challenges.filter fun c => c.handle != handle || decide (t.now < c.openedAt + 2000000000)
    { t with il := { t.il with challenges := kept } }

/-! ## Messages of a session (R453, R459) -/

/-- The reason for which a message of a session is dropped (R449, R450, R453, R458, R459): a drop counter's index. -/
def State.dropReason (s : State) (m : Msg) : Option Nat :=
  match msgDrop m with
  | some i => some i
  | none => match s.session m.session with
    | none => some Obj.dropNoSession
    | some x =>
      if m.version != 1 then some Obj.dropVersion
      else if !msgBound m x.tcp x.port x.addr x.peerPort then some Obj.dropBinding
      else if !m.tagOk then some Obj.dropTag
      else if m.seq = 0 || m.seq + 63 < x.high then some Obj.dropSequence
      else none

/-- A number accepted (R459). -/
def Session.number (x : Session) (seq : Nat) : Session :=
  let h := max x.high seq
  { x with
    high := h
    seen := (seq :: x.seen).filter fun k => h ≤ k + 63 }

/-- A session has heard from its client (R460). -/
def Session.heard (x : Session) (now ptp : Nat) : Session := { x with lastRx := now, lastRxAt := ptp }

/-- A message of a session: dropped and counted, known already and its response sent again, or accepted and acted on. -/
def State.accept (s : State) (m : Msg) (f : State → State) : State :=
  match s.dropReason m, s.session m.session with
  | some i, _ => s.bump i m.port
  | none, none => s
  | none, some x =>
    let y := x.heard s.now s.ptp
    if x.seen.contains m.seq then
      let t := s.setSession m.session y
      match x.sent.lookup m.seq with
      | some o => t.emit o
      | none => t
    else f (s.setSession m.session (y.number m.seq))

/-! ## Requests (R461 to R468) -/

/-- The message type of a request (R452). -/
def Req.type : Req → Nat
  | .read _ _ _ _ => 0x10
  | .write _ _ _ => 0x11
  | .bulkRead _ => 0x12
  | .bulkWrite _ => 0x13
  | .fence _ => 0x20
  | .salvo _ => 0x30
  | .keepalive => 0x06
  | .close => 0x05

/-- Whether a request's body does not parse (R453, R465, R466, R468). -/
def Req.malformed : Req → Bool
  | .bulkRead l => l.isEmpty || 256 < l.length
  | .bulkWrite l => l.isEmpty || 256 < l.length
  | .fence scope => 1 < scope
  | .salvo op => 15 < op.number
  | _ => false

/-- The key under which R467 keeps a salvo. -/
def salvoKey (n : Nat) : Nat := 2 ^ 32 + n

/-- What a request addresses as a whole (R467): an object, or its salvo; OPEN, the salvo that it would be assigned. -/
def State.addressed (s : State) (r : Req) : List Nat :=
  match r with
  | .read i n _ _ => [adr i n]
  | .write i n _ => [adr i n]
  | .salvo .open_ => (s.openChoice.map salvoKey).toList
  | .salvo op => [salvoKey op.number]
  | _ => []

/-- Whether a message with a higher number has started to address something (R467). -/
def Session.overtaken (x : Session) (seq a : Nat) : Bool := decide (seq < look x.started a 0)

/-- A message starts to address something. -/
def State.mark (s : State) (n seq a : Nat) : State :=
  (s.session n).elim s fun x => s.setSession n { x with started := put x.started a (max seq (look x.started a 0)) }

/-- The objects of an update in recovery (R597). -/
def recoveryWrite (i : Nat) : Bool :=
  i == Obj.updateBegin || i == Obj.updateData || i == Obj.updateCommit || i == Obj.updateActivate || i == Obj.updateAbort

/-- The status of a request that the device does not serve now: the ROM's subset (R473, R597), or an unprovisioned device
(R488). -/
def State.unserved (s : State) (r : Req) : Option Nat :=
  if s.recovery then
    match r with
    | .close => none
    | .keepalive => none
    | .read i _ _ _ => if (0x1000 ≤ i && i < 0x1100) || (0x1200 ≤ i && i < 0x1300) then none else some Code.recoveryOnly
    | .write i _ _ => if recoveryWrite i then none else some Code.recoveryOnly
    | _ => some Code.recoveryOnly
  else if s.unprovisioned then
    match r with
    | .close => none
    | .keepalive => none
    | .read _ _ _ _ => none
    | .bulkRead _ => none
    | .write i n _ => if i = Obj.roleKey && n = 3 then none else some Code.unprovisioned
    | _ => some Code.unprovisioned
  else none

/-- The bytes of a value that a read returns, and the device after it (R463, R464); or the status. What a source slot's objects
read counts the frames that are complete by now. -/
def State.readItem (s : State) (session : Option Nat) (role i n : Nat) : Nat ⊕ (List Byte × State) :=
  match dictRow i n with
  | none => .inl Code.noObject
  | some r =>
    if r.access == .wo then .inl Code.access
    else if role < r.role then .inl Code.roleTooLow
    else if i = Obj.morJournalRead then .inr s.morJournalRead
    else
      let t := if 0x2000 ≤ i && i < 0x2100 then s.settle n else s
      .inr (encodeVal r.ty (t.readVal session (adr i n)), t)

/-- Whether an object's value has no fixed width. -/
def openWidth (i n : Nat) : Bool := (dictRow i n).elim false fun r => r.ty == .octets || r.ty == .string

/-- The value bytes of a READ response that fit in a message (R463). -/
def readRoom (tcp : Bool) : Nat := if tcp then 131072 - 64 else 1408

/-- READ (R463). -/
def State.doRead (s : State) (n seq : Nat) (x : Session) (i sub offset most : Nat) : State :=
  match s.readItem (some n) x.role i sub with
  | .inl c => s.respond n seq 0x10 c 0 .none
  | .inr (b, t) =>
    if b.length < offset || (offset != 0 && !openWidth i sub) then s.respond n seq 0x10 Code.range 0 .none
    else
      let room := if most = 0 then readRoom x.tcp else min most (readRoom x.tcp)
      t.respond n seq 0x10 0 0 (.read b.length ((b.drop offset).take room))

/-- The items of a BULK_READ (R465, R467): statuses and values so far, and the bytes of values that still fit. -/
def State.bulkReadItems (s : State) (n seq role : Nat) : Nat → List (Nat × Nat) → List (Nat × List Byte) × State
  | _, [] => ([], s)
  | room, (i, sub) :: l =>
    let late := (s.session n).elim false fun x => x.overtaken seq (adr i sub)
    let t := if late then s else s.mark n seq (adr i sub)
    let next := fun (room : Nat) (item : Nat × List Byte) (u : State) =>
      let r := u.bulkReadItems n seq role room l
      (item :: r.1, r.2)
    if late then next room (Code.sequenceOrder, []) t
    else match t.readItem (some n) role i sub with
      | .inl c => next room (c, []) t
      | .inr (b, u) => if room < b.length then next room (Code.tooLarge, []) t else next (room - b.length) (0, b) u

/-- BULK_READ (R465): every item's header finds room, and values in the order of the items (notes/assumptions/29.md). -/
def State.doBulkRead (s : State) (n seq : Nat) (x : Session) (l : List (Nat × Nat)) : State :=
  let r := s.bulkReadItems n seq x.role (readRoom x.tcp - 8 * l.length) l
  r.2.respond n seq 0x12 0 0 (.bulkRead r.1)

/-- The items of a BULK_WRITE (R465, R467): the statuses, and what follows the accepted ones by item. -/
def State.bulkWriteItems (s : State) (n seq role : Nat) :
    Nat → List (Nat × Nat × List Byte) → List Nat × List (Nat × After) × State
  | _, [] => ([], [], s)
  | k, (i, sub, value) :: l =>
    let a := adr i sub
    if (s.session n).elim false fun x => x.overtaken seq a then
      let r := s.bulkWriteItems n seq role (k + 1) l
      (Code.sequenceOrder :: r.1, r.2)
    else
      let w := (s.mark n seq a).writeItem n role a value
      let r := w.state.bulkWriteItems n seq role (k + 1) l
      (w.status :: r.1, if w.status = 0 then (k, w.after) :: r.2.1 else r.2.1, r.2.2)

/-- BULK_WRITE (R465). Frame-class items take effect with the response (R9). -/
def State.doBulkWrite (s : State) (n seq : Nat) (x : Session) (l : List (Nat × Nat × List Byte)) : State :=
  let r := s.bulkWriteItems n seq x.role 0 l
  r.2.2.finish ⟨.request n seq, 0x13, .bulkWrite r.1, 0, []⟩ r.2.1

/-- The requests of other sessions that are not complete, and what the commit engine handles of a session that has ended. -/
def State.othersOutstanding (s : State) (n : Nat) : List (Nat × Nat) :=
  ((s.il.sessions.filter fun (p : Nat × Session) => p.1 != n).flatMap fun (p : Nat × Session) =>
    p.2.outstanding.map fun q => (p.1, q)) ++
  match s.ce.wait with
  | some w => if w.op.asker = .nobody then [w.op.slot w.op.seq] else []
  | none => []

/-- FENCE (R211, R466): it waits for what lies below it, and is answered at once where nothing does. -/
def State.doFence (s : State) (n seq : Nat) (x : Session) (scope : Nat) : State :=
  let below := (x.outstanding.filter fun q => decide (q < seq)).map fun q => (n, q)
  let waits := below ++ if scope = 1 then s.othersOutstanding n else []
  let f : Fence := ⟨seq, scope, waits.isEmpty, waits, s.ce.takes, []⟩
  let t := s.setSession n { x with fences := x.fences ++ [f] }
  if waits.isEmpty then t.respond n seq 0x20 0 0 .none else t

/-- The objects that a request reads or writes (R208). -/
def Req.objects : Req → List Nat
  | .read i n _ _ => [adr i n]
  | .write i n _ => [adr i n]
  | .bulkRead l => l.map fun x => adr x.1 x.2
  | .bulkWrite l => l.map fun x => adr x.1 x.2.1
  | _ => []

/-- Whether a message waits for an earlier one of its session that addresses one of its objects and is not complete: one that has
started, or one that is held itself (R208). -/
def Session.waitsFor (x : Session) (seq : Nat) (r : Req) : Bool :=
  (x.busy.any fun b => decide (b.1 < seq) && b.2.any r.objects.contains) ||
    x.held.any fun h => decide (h.seq < seq) && h.req.objects.any r.objects.contains

/-- The objects of a request that has started are busy until it is answered. -/
def State.engage (s : State) (n seq : Nat) (r : Req) : State :=
  match s.session n with
  | some x => s.setSession n { x with busy := x.busy ++ [(seq, r.objects)] }
  | none => s

/-- A request that starts (R211, R461): its effect and its response, if that does not wait for something. -/
def State.startReq (s : State) (n seq : Nat) (r : Req) : State :=
  match s.session n with
  | none => s
  | some x =>
    match s.unserved r with
    | some c => s.respond n seq r.type c 0 .none
    | none =>
      let l := s.addressed r
      if l.any fun a => x.overtaken seq a then s.respond n seq r.type Code.sequenceOrder 0 .none
      else
        let t := l.foldl (fun (u : State) a => u.mark n seq a) (s.engage n seq r)
        match r with
        | .read i sub offset most => t.doRead n seq x i sub offset most
        | .write i sub value => t.writeFor (.request n seq) n x.role (adr i sub) value
        | .bulkRead items => t.doBulkRead n seq x items
        | .bulkWrite items => t.doBulkWrite n seq x items
        | .fence scope => t.doFence n seq x scope
        | .salvo op => t.toEngine ⟨n, seq, .request n seq, op⟩
        | .keepalive => t.respond n seq 0x06 0 0 .none
        | .close => (t.respond n seq 0x05 0 0 .none).endSession n none

/-- Whether a message is held (R211, R467): the FENCE that it names has not come, or one below it is not complete. -/
def Session.holds (x : Session) (seq fenceSeq : Nat) : Bool :=
  (fenceSeq != 0 && !(x.fences.any fun f => f.seq == fenceSeq)) || x.fences.any fun f => !f.complete && decide (f.seq < seq)

/-- The held messages of a session that nothing holds any more start, in the order of their numbers. -/
def State.releaseUpTo : Nat → State → Nat → State
  | 0, s, _ => s
  | k + 1, s, n =>
    match s.session n with
    | none => s
    | some x =>
      let l := sortBy (fun (a b : Held) => decide (a.seq ≤ b.seq)) x.held
      match l.find? fun h => !x.holds h.seq h.fenceSeq && !x.waitsFor h.seq h.req with
      | none => s
      | some h =>
        let t := s.setSession n { x with held := x.held.filter fun y => y.seq != h.seq }
        State.releaseUpTo k (t.startReq n h.seq h.req) n

/-- Held messages of a session start where they may. -/
def State.releaseHeld (s : State) (n : Nat) : State :=
  State.releaseUpTo ((s.session n).elim 0 fun x => x.held.length) s n

/-- Held messages of every session start where they may: a request has been answered. -/
def State.releaseAll (s : State) : State := (s.il.sessions.map fun (p : Nat × Session) => p.1).foldl State.releaseHeld s

/-- A request that has been accepted (R461, R462, R467): refused, held, or started. -/
def State.request (s : State) (n seq fenceSeq : Nat) (r : Req) : State :=
  match s.session n with
  | none => s
  | some x =>
    let y := { x with requests := min (x.requests + 1) 0xFFFFFFFFFFFFFFFF }
    let refuse := fun (c : Nat) => (s.setSession n y).respond n seq r.type c 0 .none
    if seq ≤ fenceSeq || r.malformed then refuse Code.malformed
    else if y.fences.any fun f => decide (seq < f.seq) then refuse Code.fencePassed
    else if 64 ≤ y.outstanding.length then refuse Code.busy
    else
      let y := { y with outstanding := y.outstanding ++ [seq] }
      if y.holds seq fenceSeq || y.waitsFor seq r then s.setSession n { y with held := y.held ++ [⟨seq, fenceSeq, r, s.now⟩] }
      else ((s.setSession n y).startReq n seq r).releaseHeld n

/-- A message with a request reaches the device. -/
def State.message (s : State) (m : Msg) (r : Req) : State :=
  if s.serves m then s.accept m fun t => t.request m.session m.seq m.fenceSeq r else s

/-! ## The rows of sessions and requests -/

/-- ILRIL_CLOSE (R460). -/
def execIlrilClose (dt : Nat) (m : Msg) (s : State) : Result := act dt s fun t => t.message m .close

/-- ILRIL_KEEPALIVE (R460). -/
def execIlrilKeepalive (dt : Nat) (m : Msg) (s : State) : Result := act dt s fun t => t.message m .keepalive

/-- ILRIL_READ (R463, R464). -/
def execIlrilRead (dt : Nat) (m : Msg) (index sub offset maxLength : Nat) (s : State) : Result :=
  act dt s fun t => t.message m (.read index sub offset maxLength)

/-- ILRIL_WRITE (R464). -/
def execIlrilWrite (dt : Nat) (m : Msg) (index sub : Nat) (value : List Byte) (s : State) : Result :=
  act dt s fun t => t.message m (.write index sub value)

/-- ILRIL_BULK_READ (R465). -/
def execIlrilBulkRead (dt : Nat) (m : Msg) (items : List (Nat × Nat)) (s : State) : Result :=
  act dt s fun t => t.message m (.bulkRead items)

/-- ILRIL_BULK_WRITE (R465). -/
def execIlrilBulkWrite (dt : Nat) (m : Msg) (items : List (Nat × Nat × List Byte)) (s : State) : Result :=
  act dt s fun t => t.message m (.bulkWrite items)

/-- ILRIL_FENCE (R466). -/
def execIlrilFence (dt : Nat) (m : Msg) (scope : Nat) (s : State) : Result := act dt s fun t => t.message m (.fence scope)

/-- Whether a message that a FENCE waits for is complete (R211): its session has had its response, or the engine has decided
what an ended session left it. -/
def State.waitOver (s : State) (w : Nat × Nat) : Bool :=
  if 0x10000 ≤ w.1 then s.ce.wait.elim true fun y => y.op.slot y.op.seq != w
  else (s.session w.1).elim true fun z => !z.outstanding.contains w.2

/-- Whether a FENCE that is not complete waits for nothing any more (R211). -/
def State.fenceReady (s : State) (n seq : Nat) : Bool :=
  (s.session n).elim false fun x => x.fences.any fun f => f.seq == seq && !f.complete && f.waits.all s.waitOver

/-- FENCE_COMPLETE (R211, R466, R467): the response goes out, and the messages held behind it start. -/
def execFenceComplete (dt session seq : Nat) (s : State) : Result :=
  actIf dt s (fun t => t.fenceReady session seq) fun t =>
    let u := (t.session session).elim t fun x =>
      t.setSession session { x with fences := x.fences.map fun (f : Fence) =>
        if f.seq = seq then { f with complete := true, waits := [] } else f }
    (u.respond session seq 0x20 0 0 .none).releaseHeld session

/-- The message that a session holds under a number, for a FENCE that has not come for 100 ms. -/
def State.missing (s : State) (n seq : Nat) : Option Held :=
  (s.session n).bind fun x => x.held.find? fun h =>
    h.seq == seq && h.fenceSeq != 0 && !(x.fences.any fun f => f.seq == h.fenceSeq) && decide (h.at_ + 100000000 ≤ s.now)

/-- FENCE_MISSING (R467): the FENCE that a held message names has not come within 100 ms. -/
def execFenceMissing (dt session seq : Nat) (s : State) : Result :=
  act dt s fun t =>
    match t.missing session seq, t.session session with
    | some h, some x =>
      (t.setSession session { x with held := x.held.filter fun y => y.seq != seq }).respond session seq h.req.type
        Code.fenceMissing 0 .none
    | _, _ => t

/-- SESSION_IDLE_TIMEOUT (R460): 60 s without a message. -/
def execSessionIdleTimeout (dt session : Nat) (s : State) : Result :=
  actIf dt s (fun t => (t.session session).elim false fun x => decide (x.lastRx + 60000000000 ≤ t.now)) fun t =>
    t.endSession session (some 2)

/-- TCP_CONNECTION_CLOSE (R450, R460). -/
def execTcpConnectionClose (dt session : Nat) (s : State) : Result :=
  actIf dt s (fun t => (t.session session).elim false fun x => x.tcp) fun t => t.endSession session none

/-! ## Notifications (R469, R470, R575) -/

/-- Whether a session's next NOTIFY is due: 64 entries, or 10 ms after its oldest one was queued; over UDP only once the one
before is acknowledged. -/
def Session.notifyDue (x : Session) (now : Nat) : Bool :=
  x.unacked.isNone && match x.queue with
    | [] => false
    | (_, at_) :: _ => 64 ≤ x.queue.length || decide (at_ + 10000000 ≤ now)

/-- NOTIFY_SEND (R469, R574, R575). -/
def execNotifySend (dt session : Nat) (s : State) : Result :=
  actIf dt s (fun t => t.il.ctlUp && (t.session session).elim false fun x => x.notifyDue t.now) fun t =>
    match t.session session with
    | none => t
    | some x =>
      let l := (x.queue.take 64).map fun (p : EvRec × Nat) => p.1
      let y := { x with
        queue := x.queue.drop 64
        lost := 0
        unacked := if x.tcp then none else some ⟨x.devSeq, x.lost, l, t.now, 0⟩ }
      let u := (t.setSession session y).sendIn session fun k => .notify session k x.lost l
      if x.lost = 0 then u else u.raise Ev.notifyLost session

/-- NOTIFY_RESEND (R470): an unacknowledged NOTIFY goes out every 250 ms, four times; then its entries are lost. -/
def execNotifyResend (dt session : Nat) (s : State) : Result :=
  act dt s fun t =>
    match (t.session session).bind fun x => x.unacked.map fun u => (x, u) with
    | none => t
    | some (x, u) =>
      if t.now < u.sentAt + 250000000 then t
      else if u.resends < 4 then
        (t.setSession session { x with unacked := some { u with sentAt := t.now, resends := u.resends + 1 } }).emit
          (.notify session u.seq u.lost u.entries)
      else
        let k := u.entries.length
        t.setSession session { x with
          unacked := none
          lost := min (x.lost + k) 0xFFFF
          lostTotal := min (x.lostTotal + k) 0xFFFFFFFFFFFFFFFF }

/-- NOTIFY_ACK (R470): it has no response. -/
def execNotifyAck (dt : Nat) (m : Msg) (notifySeq : Nat) (s : State) : Result :=
  actIf dt s (fun t => t.serves m) fun t => t.accept m fun u =>
    (u.session m.session).elim u fun x =>
      if x.unacked.elim false fun y => y.seq == notifySeq then u.setSession m.session { x with unacked := none } else u

/-! ## Salvo operations (R187 to R202, R468) -/

/-- SALVO_OPEN (R188). -/
def execSalvoOpen (dt : Nat) (m : Msg) (s : State) : Result := act dt s fun t => t.message m (.salvo .open_)

/-- SALVO_ADD (R187). -/
def execSalvoAdd (dt : Nat) (m : Msg) (n index sub : Nat) (value : List Byte) (s : State) : Result :=
  act dt s fun t => t.message m (.salvo (.add n (adr index sub) value))

/-- SALVO_REMOVE (R189). -/
def execSalvoRemove (dt : Nat) (m : Msg) (n index sub : Nat) (s : State) : Result :=
  act dt s fun t => t.message m (.salvo (.remove n (adr index sub)))

/-- SALVO_CLEAR (R189). -/
def execSalvoClear (dt : Nat) (m : Msg) (n : Nat) (s : State) : Result := act dt s fun t => t.message m (.salvo (.clear n))

/-- SALVO_ARM (R193). -/
def execSalvoArm (dt : Nat) (m : Msg) (n : Nat) (s : State) : Result := act dt s fun t => t.message m (.salvo (.arm n))

/-- SALVO_DISARM (R189). -/
def execSalvoDisarm (dt : Nat) (m : Msg) (n : Nat) (s : State) : Result := act dt s fun t => t.message m (.salvo (.disarm n))

/-- SALVO_DISCARD (R189). -/
def execSalvoDiscard (dt : Nat) (m : Msg) (n : Nat) (s : State) : Result := act dt s fun t => t.message m (.salvo (.discard n))

/-- SALVO_TAKE (R201, R202). -/
def execSalvoTake (dt : Nat) (m : Msg) (n : Nat) (implicitArm : Bool) (at_ : Option Nat) (s : State) : Result :=
  act dt s fun t => t.message m (.salvo (.take n implicitArm at_))

/-! ## Answers that have waited (R378, R498) -/

/-- STORE_SAVED (R498). -/
def execStoreSaved (dt : Nat) (ok : Bool) (s : State) : Result :=
  actIf dt s (fun t => t.st.save.isSome) fun t => (t.endSave ok).releaseAll

/-- WRITE_THROUGH_ACK (R378): the standby has acknowledged the oldest write that waits; it takes effect, and the controller gets
its answer. -/
def execWriteThroughAck (dt : Nat) (s : State) : Result :=
  actIf dt s (fun t => !t.tw.through.isEmpty) fun t =>
    match t.tw.through with
    | x :: l => if x.sentAt + 2000000 < t.now then t else
        ({ t with tw := { t.tw with through := l } }.endThrough x).releaseAll
    | [] => t

/-- WRITE_THROUGH_TIMEOUT (R378): no acknowledgement within 2.0 ms. The write takes effect and goes into the next copy
(notes/assumptions/49.md). -/
def execWriteThroughTimeout (dt : Nat) (s : State) : Result :=
  actIf dt s (fun t => !t.tw.through.isEmpty) fun t =>
    match t.tw.through with
    | x :: l => if t.now < x.sentAt + 2000000 then t else
        let u := { t with tw := { t.tw with through := l } }.loseMirror.endThrough x
        (if commitOf x.addr == .frame then u else u.logWrite x.addr x.val 0).releaseAll
    | [] => t

end Sys2Proof.Machine
end

