-- ==== Sys2Proof/Machine/Gate.lean ====
section
/-!
DEFINITION. The service gate (R522 to R526, R528): the calls that Upland makes. A call that names a session checks its role
in Bedrock. What R523 gives as result stands in A1 and A2 in its order, a length where the result is bytes in a buffer, and
0 where there is none (notes/assumptions/50.md).
-/
namespace Sys2Proof.Machine

/-! ## Statuses and buffers (R522) -/

/-- A call returns. -/
def State.gateEnd (s : State) (status a1 a2 : Nat) : State := s.emit (.gate status a1 a2)

/-- OK. -/
def State.gateOk (s : State) (a1 : Nat := 0) (a2 : Nat := 0) : State := s.gateEnd 0 a1 a2

/-- REFUSED with an Ilril status. -/
def State.gateNo (s : State) (code : Nat) (a2 : Nat := 0) : State := s.gateEnd 3 code a2

/-- Whether a buffer lies wholly in Upland SRAM. -/
def bufOk (b : Buf) : Bool := 0x10000000 ≤ b.addr && b.addr + b.len ≤ 0x10800000

/-- A call with a buffer: any other one than a buffer in Upland SRAM gives BAD_BUFFER, and the call has no effect. -/
def State.withBuf (s : State) (b : Buf) (f : State → State) : State :=
  if bufOk b then f s else (s.raiseLimited Ev.gateBufferRefused 0 0).gateEnd 2 0 0

/-- A result written into a buffer, as much as it takes. -/
def State.putBuf (s : State) (b : Buf) (bytes : List Byte) : State := s.setMem b.addr (bytes.take b.len)

/-- The bytes of a buffer. -/
def State.getBuf (s : State) (b : Buf) : List Byte := s.memBytes b.addr b.len

/-- A call on an open session; on one that has ended it is refused (R523). -/
def State.withSession (s : State) (n : Nat) (f : State → Session → State) : State :=
  match s.session n with
  | some x => f s x
  | none => s.gateNo Code.malformed

/-- A call that needs an Owner session. -/
def State.withOwner (s : State) (n : Nat) (f : State → State) : State :=
  s.withSession n fun t x => if x.role = 3 then f t else t.gateNo Code.roleTooLow

/-- A call: Upland makes it, so it comes only while Upland runs. -/
def gateCall (dt : Nat) (s : State) (f : State → State) : Result := actIf dt s (fun t => t.boot.uplandRuns) f

/-- A ticket for an async call, whose answer goes into a buffer. -/
def State.newTicket (s : State) (b : Buf) : Nat × State :=
  let k := s.gate.nextTicket
  (k, { s with gate := { s.gate with
    nextTicket := (k + 1) % 2 ^ 32
    tickets := s.gate.tickets ++ [⟨k, b, false, 0, []⟩] } })

/-! ## Versions, heartbeat, restart, HBM -/

/-- GATE_VERSION (R523). -/
def execGateVersion (dt : Nat) (s : State) : Result := gateCall dt s fun t => t.gateOk Config.romVersion t.up.patchVersion

/-- GATE_HEARTBEAT (R523, R530, R590). -/
def execGateHeartbeat (dt : Nat) (s : State) : Result := gateCall dt s fun t => t.heartbeat.gateOk

/-- GATE_RESTART (R524): it does not return. -/
def execGateRestart (dt session kind : Nat) (s : State) : Result :=
  gateCall dt s fun t => t.withOwner session fun u =>
    if kind = 1 then u.requestSoft none
    else if kind = 2 then u.requestHard none
    else u.gateNo Code.range

/-- GATE_HBM_REGION (R518): base and size. -/
def execGateHbmRegion (dt : Nat) (s : State) : Result :=
  gateCall dt s fun t => t.gateOk (0x10000000 * Config.hbmRegion) 0x100000000

/-! ## Sessions -/

/-- GATE_AUTH_HELLO (R454, R456). -/
def execGateAuthHello (dt : Nat) (m : Msg) (h : Hello) (buf : Buf) (s : State) : Result :=
  gateCall dt s fun t => t.withBuf buf fun u =>
    match u.hello m h with
    | (.refused st retry, v) => v.gateNo st retry
    | (.challenge c, v) =>
      let body := c.nc ++ c.nd ++ Config.uniqueId ++ beBytes 2 c.handle ++ zeros 2
      (v.putBuf buf body).gateOk body.length

/-- GATE_AUTH_PROOF (R454 to R457): the WELCOME body, and the session. -/
def execGateAuthProof (dt : Nat) (m : Msg) (handle : Nat) (proof : List Byte) (buf : Buf) (s : State) : Result :=
  gateCall dt s fun t => t.withBuf buf fun u =>
    match u.proof m handle proof with
    | (.refused st _, v) => v.gateNo st
    | (.welcome n role flags p, v) =>
      (v.putBuf buf (beBytes 2 n ++ beBytes 1 role ++ beBytes 1 flags ++ beBytes 2 60 ++ zeros 2 ++ p)).gateOk n

/-- The nonce of R458: direction code, Seq. -/
def gcmNonce (direction seq : Nat) : List Byte := beBytes 4 direction ++ beBytes 8 seq

/-- A message decrypted in place (R458): an encrypted session's body. -/
def State.openBody (s : State) (x : Session) (seq : Nat) (b : Buf) : State :=
  if !x.encrypted then s
  else
    let l := s.getBuf b
    match Config.gcmOpen (x.keys.take 32) (gcmNonce 1 seq) (l.take 28) (l.drop 28) with
    | some p => s.setMem (b.addr + 28) (p.take (b.len - 44))
    | none => s

/-- GATE_MSG_OPEN (R458, R459): a failure returns the drop counter's index; a duplicate is no failure. -/
def execGateMsgOpen (dt : Nat) (m : Msg) (buf : Buf) (s : State) : Result :=
  gateCall dt s fun t => t.withBuf buf fun u => u.withSession m.session fun v x =>
    if !m.tagOk then v.gateNo Obj.dropTag
    else if m.seq = 0 || m.seq + 63 < x.high then v.gateNo Obj.dropSequence
    else ((v.setSession m.session ((x.heard v.now v.ptp).number m.seq)).openBody x m.seq buf).gateOk

/-- A message of the device sealed in place (R451, R458): Seq and FenceSeq, then the body and the tag. -/
def State.sealBody (s : State) (x : Session) (b : Buf) : State :=
  let l := s.getBuf b
  let head := l.take 8 ++ beBytes 8 x.devSeq ++ zeros 8 ++ (l.drop 24).take 4
  let body := (l.drop 28).take (b.len - 44)
  let key := x.keys.drop 32
  let nonce := gcmNonce 2 x.devSeq
  if x.encrypted then
    let r := Config.gcm key nonce head body
    s.putBuf b (head ++ r.1 ++ r.2)
  else s.putBuf b (head ++ body ++ (Config.gcm key nonce (head ++ body) []).2)

/-- GATE_MSG_SEAL (R451, R458): a message is at least a header and a tag. -/
def execGateMsgSeal (dt session : Nat) (buf : Buf) (s : State) : Result :=
  gateCall dt s fun t => t.withBuf buf fun u => u.withSession session fun v x =>
    if buf.len < 44 then v.gateNo Code.malformed
    else ((v.sealBody x buf).setSession session { x with devSeq := x.devSeq + 1 }).gateOk

/-- GATE_SESSION_END (R460): its keys are erased. A CLOSE with its reason has been sealed before by Upland. -/
def execGateSessionEnd (dt session _reason : Nat) (s : State) : Result :=
  gateCall dt s fun t => t.withSession session fun u _ => (u.endSession session none).gateOk

/-! ## The commit engine -/

/-- The salvo operation of a request. -/
def requestOp : CeRequest → Option SalvoOp
  | .write _ _ => none
  | .salvoOpen => some .open_
  | .salvoAdd n a v => some (.add n a v)
  | .salvoRemove n a => some (.remove n a)
  | .salvoClear n => some (.clear n)
  | .salvoArm n => some (.arm n)
  | .salvoDisarm n => some (.disarm n)
  | .salvoTake n i t => some (.take n i t)
  | .salvoDiscard n => some (.discard n)

/-- GATE_CE_SUBMIT (R523): a write of a datapath object, or a salvo operation. A TAKE comes behind every message that its
session has sent so far (notes/assumptions/30.md). -/
def execGateCeSubmit (dt session : Nat) (r : CeRequest) (buf : Buf) (s : State) : Result :=
  gateCall dt s fun t => t.withBuf buf fun u => u.withSession session fun v x =>
    let (k, w) := v.newTicket buf
    let w := w.gateOk k
    match r, requestOp r with
    | .write a value, _ =>
      if datapathObject (adrIndex a) then w.writeFor (.ticket k) session x.role a value
      else w.reply (.ticket k) 0x11 Code.noObject 0 (.write 0)
    | _, some op =>
      if 15 < op.number then w.reply (.ticket k) 0x30 Code.malformed 0 .none
      else w.toEngine ⟨session, x.high + 1, .ticket k, op⟩
    | _, none => w

/-- GATE_CE_READ (R523). -/
def execGateCeRead (dt index sub : Nat) (buf : Buf) (s : State) : Result :=
  gateCall dt s fun t => t.withBuf buf fun u =>
    if !datapathObject index then u.gateNo Code.noObject
    else match u.readItem none 3 index sub with
      | .inl c => u.gateNo c
      | .inr (b, v) => (v.putBuf buf b).gateOk b.length

/-! ## Keys, the owner lock and fuses -/

/-- A write that Bedrock makes itself, under R464 (R486, R491, R492). -/
def State.gateWrite (s : State) (n a : Nat) (value : List Byte) : State :=
  s.withSession n fun t x =>
    let w := t.writeItem n x.role a value
    if w.status = 0 then (w.state.followWrite w.after none).gateOk else w.state.gateNo w.status

/-- GATE_KEY_WRITE (R486). -/
def execGateKeyWrite (dt session role : Nat) (key : List Byte) (buf : Buf) (s : State) : Result :=
  gateCall dt s fun t => t.withBuf buf fun u => u.withOwner session fun v => v.gateWrite session (adr Obj.roleKey role) key

/-- GATE_OWNER_LOCK (R491). -/
def execGateOwnerLock (dt session : Nat) (lock : Bool) (s : State) : Result :=
  gateCall dt s fun t => t.withOwner session fun u => u.gateWrite session (adr Obj.ownerLock 0) (beBytes 1 (b2n lock))

/-- GATE_OTP_PROGRAM (R492, R525). -/
def execGateOtpProgram (dt session : Nat) (hash : List Byte) (buf : Buf) (s : State) : Result :=
  gateCall dt s fun t => t.withBuf buf fun u => u.withOwner session fun v =>
    v.gateWrite session (adr Obj.ownerKeyProgram 0) hash

/-- GATE_OTP_REVOKE (R492, R525). -/
def execGateOtpRevoke (dt session slot : Nat) (s : State) : Result :=
  gateCall dt s fun t => t.withOwner session fun u =>
    if 255 < slot then u.gateNo Code.range else u.gateWrite session (adr Obj.ownerKeyRevoke 0) (beBytes 1 slot)

/-! ## The store -/

/-- GATE_STORE_LOAD (R497, R523): the records of the slot loaded at start, without the role keys. -/
def execGateStoreLoad (dt : Nat) (buf : Buf) (s : State) : Result :=
  gateCall dt s fun t => t.withBuf buf fun u =>
    let b := u.st.loaded.elim [] StoreSlot.bytes
    (u.putBuf buf b).gateOk b.length

/-- The Restart-class records of some records. -/
def restartRecords (l : List (Nat × Val)) : List (Nat × Val) := l.filter fun (p : Nat × Val) => commitOf p.1 == .restart

/-- GATE_STORE_SAVE (R498, R526). The records that Upland gives are those of R495 (notes/assumptions/51.md). -/
def execGateStoreSave (dt : Nat) (buf : Buf) (s : State) : Result :=
  gateCall dt s fun t => t.withBuf buf fun u =>
    let held := u.st.loaded.elim [] fun x => x.records
    if u.b Obj.ownerLock 0 && restartRecords (u.snapshot 0).records != restartRecords held then u.gateNo Code.ownerLocked
    else
      let (k, v) := u.newTicket buf
      ({ v with st := { v.st with gateTickets := v.st.gateTickets ++ [k] } }.saveSoon).gateOk k

/-! ## The twin's block (R528) -/

/-- GATE_TWIN_PUT (R528): the pending block is replaced. -/
def execGateTwinPut (dt : Nat) (buf : Buf) (s : State) : Result :=
  gateCall dt s fun t => t.withBuf buf fun u =>
    if 65536 < buf.len then u.gateNo Code.range
    else { u with tw := { u.tw with
      block := u.getBuf buf
      blockNew := 1 } }.gateOk

/-- GATE_TWIN_GET (R523, R528): the oldest received block of a standby, and the count lost. -/
def execGateTwinGet (dt : Nat) (buf : Buf) (s : State) : Result :=
  gateCall dt s fun t => t.withBuf buf fun u =>
    if !u.standby then u.gateNo Code.access
    else
      let b := u.tw.blocks.headD []
      let v := { u with tw := { u.tw with
        blocks := u.tw.blocks.drop 1
        blocksLost := 0 } }
      (v.putBuf buf b).gateOk b.length u.tw.blocksLost

/-! ## Cryptography and updates -/

/-- GATE_CRYPTO (R523). R523 gives no layout for nonces, additional data, hashes and signatures in the input: what the
engine makes of it stands in the constants of Config (notes/assumptions/52.md). -/
def execGateCrypto (dt : Nat) (op : CryptoOp) (key : List Byte) (input output : Buf) (s : State) : Result :=
  gateCall dt s fun t => t.withBuf input fun u => u.withBuf output fun v =>
    let x := v.getBuf input
    match op with
    | .sha256 => (v.putBuf output (Config.sha256 x)).gateOk
    | .sha384 => (v.putBuf output (Config.sha384 x)).gateOk
    | .hmacSha256 => (v.putBuf output (Config.hmac key x)).gateOk
    | .aesGcmSeal => let r := Config.gcm key [] [] x; (v.putBuf output (r.1 ++ r.2)).gateOk
    | .aesGcmOpen => match Config.gcmOpen key [] [] x with
      | some p => (v.putBuf output p).gateOk
      | none => v.gateNo Code.authFailed
    | .ecdsaVerify => v.gateOk (b2n (Config.ecdsaOk key x []))
    | .random => let (b, w) := v.drawBytes output.len; (w.putBuf output b).gateOk

/-- The object whose write an update operation is (R584), and its value. -/
def updateWrite : UpdateOp → Nat × List Byte
  | .begin_ kind => (Obj.updateBegin, beBytes 2 kind)
  | .data value => (Obj.updateData, value)
  | .commit => (Obj.updateCommit, [1])
  | .activate => (Obj.updateActivate, [1])
  | .abort => (Obj.updateAbort, [1])
  | .confirm | .selfConfirm => (Obj.healthConfirm, [1])

/-- GATE_UPDATE (R523, R591, R592): the trial Upland confirms its image, and passes on what a session writes. The shipped Upland
confirms itself only where the four conditions of R592 hold together; where they do not, it makes no such call. -/
def execGateUpdate (dt session : Nat) (op : UpdateOp) (buf : Buf) (s : State) : Result :=
  gateCall dt s fun t => t.withBuf buf fun u =>
    let w := updateWrite op
    if op = .selfConfirm then (if u.selfConfirms then u.confirm.gateOk else u)
    else if op = .confirm then u.confirm.gateOk else u.gateWrite session (adr w.1 0) w.2

/-! ## Completion (R522) -/

/-- GATE_DONE (R522): the completion record of an async call goes into the ring. -/
def execGateDone (dt ticket : Nat) (s : State) : Result :=
  actIf dt s (fun t => t.boot.uplandRuns) fun t =>
    match t.gate.tickets.find? fun x => x.number == ticket && x.done with
    | none => t
    | some x =>
      let rec_ := beBytes 4 x.number ++ beBytes 2 x.status ++ zeros 2 ++ (x.result ++ zeros 8).take 8
      { t with gate := { t.gate with
        tickets := t.gate.tickets.filter fun y => y.number != ticket
        ring := t.gate.ring ++ [rec_] } }.emit (.interrupt 7)

end Sys2Proof.Machine
end

