-- ==== Sys2Proof/Machine/Rows.lean ====
section
/-!
DEFINITION. The rows of the table that are requests for one object: a WRITE of it, or a READ of the journal. Each is a message
of a session as any other, with the checks of R464 and the effect that the object's rule gives (Writes.lean).
-/
namespace Sys2Proof.Machine

/-- A WRITE of an object reaches the device. -/
def State.writeRow (s : State) (m : Msg) (index sub : Nat) (value : List Byte) : State := s.message m (.write index sub value)

/-- DEVICE_RESTART_SOFT (R524, R620): DeviceRestart with 1 SOFT. -/
def execDeviceRestartSoft (dt : Nat) (m : Msg) (s : State) : Result :=
  act dt s fun t => t.writeRow m Obj.deviceRestart 0 (beBytes 2 1)

/-- DEVICE_RESTART_HARD (R524, R619): DeviceRestart with 2 HARD. -/
def execDeviceRestartHard (dt : Nat) (m : Msg) (s : State) : Result :=
  act dt s fun t => t.writeRow m Obj.deviceRestart 0 (beBytes 2 2)

/-- MOR_JOURNAL_READ (R444): MorJournalRead, whole. -/
def execMorJournalRead (dt : Nat) (m : Msg) (s : State) : Result :=
  act dt s fun t => t.message m (.read Obj.morJournalRead 0 0 0)

/-- The objects that clear meters (R296, R297). -/
def meterClears : List Nat := [Obj.aiMeterClear, Obj.busCounterClear, Obj.aoCounterClear, Obj.loudClear]

/-- The objects that clear counters (R560). -/
def counterClears : List Nat :=
  [0x113F, 0x131F, 0x140F, 0x152F, 0x161F, 0x169F, 0x171F, 0x182F, 0x200F, 0x301F, 0x382F, 0x401F, 0x411F, 0x511F, 0x521F, 0x601F,
   0x6056, 0x681F, 0x683F, 0x684F, 0x685F, 0x6A3F, 0x6A4F, 0x6C3F, 0x782F]

/-- METER_CLEAR (R296). -/
def execMeterClear (dt : Nat) (m : Msg) (index sub : Nat) (value : List Byte) (s : State) : Result :=
  actIf dt s (fun _ => meterClears.contains index) fun t => t.writeRow m index sub value

/-- COUNTER_CLEAR_WRITE (R560). -/
def execCounterClearWrite (dt : Nat) (m : Msg) (index sub : Nat) (value : List Byte) (s : State) : Result :=
  actIf dt s (fun _ => counterClears.contains index) fun t => t.writeRow m index sub value

/-- MON_CONFIG_WRITE (R567): MonKind to MonAlarm. -/
def execMonConfigWrite (dt : Nat) (m : Msg) (index sub : Nat) (value : List Byte) (s : State) : Result :=
  actIf dt s (fun _ => Obj.monKind ≤ index && index ≤ Obj.monAlarm) fun t => t.writeRow m index sub value

/-- LAYER_GFX_OFFSET (R236). -/
def execLayerGfxOffset (dt : Nat) (m : Msg) (sub : Nat) (value : List Byte) (s : State) : Result :=
  act dt s fun t => t.writeRow m Obj.layerGfxOffset sub value

/-- LAYER_GFX_DATA (R236). -/
def execLayerGfxData (dt : Nat) (m : Msg) (sub : Nat) (value : List Byte) (s : State) : Result :=
  act dt s fun t => t.writeRow m Obj.layerGfxData sub value

/-- LAYER_GFX_FLIP (R236). -/
def execLayerGfxFlip (dt : Nat) (m : Msg) (sub : Nat) (value : List Byte) (s : State) : Result :=
  act dt s fun t => t.writeRow m Obj.layerGfxFlip sub value

/-- COL_SHAPER_DATA (R263). -/
def execColShaperData (dt : Nat) (m : Msg) (sub : Nat) (value : List Byte) (s : State) : Result :=
  act dt s fun t => t.writeRow m Obj.colShaperData sub value

/-- COL_LUT_OFFSET (R263). -/
def execColLutOffset (dt : Nat) (m : Msg) (sub : Nat) (value : List Byte) (s : State) : Result :=
  act dt s fun t => t.writeRow m Obj.colLutOffset sub value

/-- COL_LUT_DATA (R262, R263). -/
def execColLutData (dt : Nat) (m : Msg) (sub : Nat) (value : List Byte) (s : State) : Result :=
  act dt s fun t => t.writeRow m Obj.colLutData sub value

/-- COL_TABLE_FLIP (R263). -/
def execColTableFlip (dt : Nat) (m : Msg) (sub : Nat) (value : List Byte) (s : State) : Result :=
  act dt s fun t => t.writeRow m Obj.colTableFlip sub value

/-- SADDLE_SLIP (R408). -/
def execSaddleSlip (dt : Nat) (m : Msg) (sub : Nat) (value : List Byte) (s : State) : Result :=
  act dt s fun t => t.writeRow m Obj.saddleSlip sub value

/-- SADDLE_TRAIN_REQUEST (R413). -/
def execSaddleTrainRequest (dt : Nat) (m : Msg) (sub : Nat) (value : List Byte) (s : State) : Result :=
  act dt s fun t => t.writeRow m Obj.saddleTrainRequest sub value

/-- CLIP_DELETE (R437). -/
def execClipDelete (dt : Nat) (m : Msg) (sub : Nat) (value : List Byte) (s : State) : Result :=
  act dt s fun t => t.writeRow m Obj.clipDelete sub value

/-- MON_CLEAR (R567). -/
def execMonClear (dt : Nat) (m : Msg) (sub : Nat) (value : List Byte) (s : State) : Result :=
  act dt s fun t => t.writeRow m Obj.monClear sub value

/-- LATENCY_CLEAR (R33). -/
def execLatencyClear (dt : Nat) (m : Msg) (sub : Nat) (value : List Byte) (s : State) : Result :=
  act dt s fun t => t.writeRow m Obj.latencyClear sub value

/-- ROLE_KEY_CHANGED (R486). -/
def execRoleKeyChanged (dt : Nat) (m : Msg) (sub : Nat) (value : List Byte) (s : State) : Result :=
  act dt s fun t => t.writeRow m Obj.roleKey sub value

/-- HEALTH_CLEAR (R484). -/
def execHealthClear (dt : Nat) (m : Msg) (value : List Byte) (s : State) : Result :=
  act dt s fun t => t.writeRow m Obj.healthClear 0 value

/-- WS_TIME_SET (R350). -/
def execWsTimeSet (dt : Nat) (m : Msg) (value : List Byte) (s : State) : Result :=
  act dt s fun t => t.writeRow m Obj.wsTimeSet 0 value

/-- WS_HOLDOVER_RESET (R352). -/
def execWsHoldoverReset (dt : Nat) (m : Msg) (value : List Byte) (s : State) : Result :=
  act dt s fun t => t.writeRow m Obj.wsHoldoverReset 0 value

/-- WS_HISTORY_CLEAR (R359). -/
def execWsHistoryClear (dt : Nat) (m : Msg) (value : List Byte) (s : State) : Result :=
  act dt s fun t => t.writeRow m Obj.wsHistoryClear 0 value

/-- SADDLE_RESTART (R414). -/
def execSaddleRestart (dt : Nat) (m : Msg) (value : List Byte) (s : State) : Result :=
  act dt s fun t => t.writeRow m Obj.saddleRestart 0 value

/-- MOR_FORMAT (R425). -/
def execMorFormat (dt : Nat) (m : Msg) (value : List Byte) (s : State) : Result :=
  act dt s fun t => t.writeRow m Obj.morFormat 0 value

/-- SUBSCRIPTION_WRITE (R494, R574). -/
def execSubscriptionWrite (dt : Nat) (m : Msg) (value : List Byte) (s : State) : Result :=
  act dt s fun t => t.writeRow m Obj.subscription 0 value

/-- PHASE_HISTOGRAM_CLEAR (R565). -/
def execPhaseHistogramClear (dt : Nat) (m : Msg) (value : List Byte) (s : State) : Result :=
  act dt s fun t => t.writeRow m Obj.phaseHistogramClear 0 value

/-- LOCKOUT_CLEAR (R490). -/
def execLockoutClear (dt : Nat) (m : Msg) (value : List Byte) (s : State) : Result :=
  act dt s fun t => t.writeRow m Obj.lockoutClear 0 value

/-- OWNER_LOCK_CHANGE (R491). -/
def execOwnerLockChange (dt : Nat) (m : Msg) (value : List Byte) (s : State) : Result :=
  act dt s fun t => t.writeRow m Obj.ownerLock 0 value

/-- OWNER_KEY_PROGRAM (R492, R525). -/
def execOwnerKeyProgram (dt : Nat) (m : Msg) (value : List Byte) (s : State) : Result :=
  act dt s fun t => t.writeRow m Obj.ownerKeyProgram 0 value

/-- OWNER_KEY_REVOKE (R492, R525). -/
def execOwnerKeyRevoke (dt : Nat) (m : Msg) (value : List Byte) (s : State) : Result :=
  act dt s fun t => t.writeRow m Obj.ownerKeyRevoke 0 value

/-- STORE_SAVE_NOW (R498). -/
def execStoreSaveNow (dt : Nat) (m : Msg) (value : List Byte) (s : State) : Result :=
  act dt s fun t => t.writeRow m Obj.storeSaveNow 0 value

/-- UPDATE_BEGIN (R585, R586). -/
def execUpdateBegin (dt : Nat) (m : Msg) (value : List Byte) (s : State) : Result :=
  act dt s fun t => t.writeRow m Obj.updateBegin 0 value

/-- UPDATE_DATA (R587). -/
def execUpdateData (dt : Nat) (m : Msg) (value : List Byte) (s : State) : Result :=
  act dt s fun t => t.writeRow m Obj.updateData 0 value

/-- UPDATE_COMMIT (R588). -/
def execUpdateCommit (dt : Nat) (m : Msg) (value : List Byte) (s : State) : Result :=
  act dt s fun t => t.writeRow m Obj.updateCommit 0 value

/-- UPDATE_ACTIVATE (R589, R597). -/
def execUpdateActivate (dt : Nat) (m : Msg) (value : List Byte) (s : State) : Result :=
  act dt s fun t => t.writeRow m Obj.updateActivate 0 value

/-- UPDATE_ABORT (R584). -/
def execUpdateAbort (dt : Nat) (m : Msg) (value : List Byte) (s : State) : Result :=
  act dt s fun t => t.writeRow m Obj.updateAbort 0 value

/-- HEALTH_CONFIRM (R591). -/
def execHealthConfirm (dt : Nat) (m : Msg) (value : List Byte) (s : State) : Result :=
  act dt s fun t => t.writeRow m Obj.healthConfirm 0 value

end Sys2Proof.Machine
end

