-- ==== Sys2Proof/Machine/Dispatch.lean ====
section
/-!
DEFINITION. The dispatch: one arm per row of the opcode table.
-/
namespace Sys2Proof.Machine

/-- The effect of a command on everything but the queue. -/
def exec (i : Instr) (s : State) : Host.Outcome State Fault Refusal :=
  match i with
  | .powerOn dt => Sys2Proof.Machine.execPowerOn dt s
  | .resetNAssert dt width => Sys2Proof.Machine.execResetNAssert dt width s
  | .resetNRelease dt straps => Sys2Proof.Machine.execResetNRelease dt straps s
  | .railFault dt rail microvolts lasted => Sys2Proof.Machine.execRailFault dt rail microvolts lasted s
  | .vddAuxLow dt microvolts => Sys2Proof.Machine.execVddAuxLow dt microvolts s
  | .thermalTrip dt temp lasted => Sys2Proof.Machine.execThermalTrip dt temp lasted s
  | .thermalTripRelease dt temp => Sys2Proof.Machine.execThermalTripRelease dt temp s
  | .romStageEnd dt avsLinear avsNacks => Sys2Proof.Machine.execRomStageEnd dt avsLinear avsNacks s
  | .hbmReady dt hbms => Sys2Proof.Machine.execHbmReady dt hbms s
  | .uplandEntered dt => Sys2Proof.Machine.execUplandEntered dt s
  | .avsTargetUpdate dt microvolts => Sys2Proof.Machine.execAvsTargetUpdate dt microvolts s
  | .avsStep dt nacks => Sys2Proof.Machine.execAvsStep dt nacks s
  | .deviceRestartSoft dt m => Sys2Proof.Machine.execDeviceRestartSoft dt m s
  | .softRestartProceed dt => Sys2Proof.Machine.execSoftRestartProceed dt s
  | .deviceRestartHard dt m => Sys2Proof.Machine.execDeviceRestartHard dt m s
  | .watchdogExpiry dt => Sys2Proof.Machine.execWatchdogExpiry dt s
  | .wdtKick dt trusted key => Sys2Proof.Machine.execWdtKick dt trusted key s
  | .healthMonitorSample dt temp margins hbmTemps => Sys2Proof.Machine.execHealthMonitorSample dt temp margins hbmTemps s
  | .healthClear dt m value => Sys2Proof.Machine.execHealthClear dt m value s
  | .ilrilHello dt m h => Sys2Proof.Machine.execIlrilHello dt m h s
  | .ilrilProof dt m handle proof => Sys2Proof.Machine.execIlrilProof dt m handle proof s
  | .challengeExpiry dt handle => Sys2Proof.Machine.execChallengeExpiry dt handle s
  | .lockoutEnd dt addr => Sys2Proof.Machine.execLockoutEnd dt addr s
  | .lockoutTimeReset dt addr => Sys2Proof.Machine.execLockoutTimeReset dt addr s
  | .ilrilClose dt m => Sys2Proof.Machine.execIlrilClose dt m s
  | .sessionIdleTimeout dt session => Sys2Proof.Machine.execSessionIdleTimeout dt session s
  | .tcpConnectionClose dt session => Sys2Proof.Machine.execTcpConnectionClose dt session s
  | .ilrilKeepalive dt m => Sys2Proof.Machine.execIlrilKeepalive dt m s
  | .ilrilRead dt m index sub offset maxLength => Sys2Proof.Machine.execIlrilRead dt m index sub offset maxLength s
  | .ilrilWrite dt m index sub value => Sys2Proof.Machine.execIlrilWrite dt m index sub value s
  | .ilrilBulkRead dt m items => Sys2Proof.Machine.execIlrilBulkRead dt m items s
  | .ilrilBulkWrite dt m items => Sys2Proof.Machine.execIlrilBulkWrite dt m items s
  | .ilrilFence dt m scope => Sys2Proof.Machine.execIlrilFence dt m scope s
  | .fenceComplete dt session seq => Sys2Proof.Machine.execFenceComplete dt session seq s
  | .fenceMissing dt session seq => Sys2Proof.Machine.execFenceMissing dt session seq s
  | .notifySend dt session => Sys2Proof.Machine.execNotifySend dt session s
  | .notifyResend dt session => Sys2Proof.Machine.execNotifyResend dt session s
  | .notifyAck dt m notifySeq => Sys2Proof.Machine.execNotifyAck dt m notifySeq s
  | .salvoOpen dt m => Sys2Proof.Machine.execSalvoOpen dt m s
  | .salvoAdd dt m n index sub value => Sys2Proof.Machine.execSalvoAdd dt m n index sub value s
  | .salvoRemove dt m n index sub => Sys2Proof.Machine.execSalvoRemove dt m n index sub s
  | .salvoClear dt m n => Sys2Proof.Machine.execSalvoClear dt m n s
  | .salvoArm dt m n => Sys2Proof.Machine.execSalvoArm dt m n s
  | .salvoMirrorAck dt n => Sys2Proof.Machine.execSalvoMirrorAck dt n s
  | .mirrorTimeout dt n => Sys2Proof.Machine.execMirrorTimeout dt n s
  | .salvoDisarm dt m n => Sys2Proof.Machine.execSalvoDisarm dt m n s
  | .salvoDiscard dt m n => Sys2Proof.Machine.execSalvoDiscard dt m n s
  | .salvoTake dt m n implicitArm at_ => Sys2Proof.Machine.execSalvoTake dt m n implicitArm at_ s
  | .takeMirrorAck dt n => Sys2Proof.Machine.execTakeMirrorAck dt n s
  | .houseFrameBoundary dt => Sys2Proof.Machine.execHouseFrameBoundary dt s
  | .sdiSignalDetect dt lane lasted => Sys2Proof.Machine.execSdiSignalDetect dt lane lasted s
  | .sdiRateSearchStep dt lane => Sys2Proof.Machine.execSdiRateSearchStep dt lane s
  | .sdiClockLock dt lane => Sys2Proof.Machine.execSdiClockLock dt lane s
  | .sdiLock dt lane raster pid => Sys2Proof.Machine.execSdiLock dt lane raster pid s
  | .sdiClockLoss dt lane => Sys2Proof.Machine.execSdiClockLoss dt lane s
  | .sdiSignalLoss dt lane lasted => Sys2Proof.Machine.execSdiSignalLoss dt lane lasted s
  | .sdiEavTimeout dt lane periods => Sys2Proof.Machine.execSdiEavTimeout dt lane periods s
  | .sdiRasterMismatch dt lane lines samples => Sys2Proof.Machine.execSdiRasterMismatch dt lane lines samples s
  | .sdiLineReceived dt lane line skew => Sys2Proof.Machine.execSdiLineReceived dt lane line skew s
  | .sdiEdhField dt lane edhFlags apMismatch ffMismatch => Sys2Proof.Machine.execSdiEdhField dt lane edhFlags apMismatch ffMismatch s
  | .sdiAudioPacket dt lane p => Sys2Proof.Machine.execSdiAudioPacket dt lane p s
  | .sdiAudioGroupAbsent dt lane groupBit => Sys2Proof.Machine.execSdiAudioGroupAbsent dt lane groupBit s
  | .sdiAncPacket dt lane p => Sys2Proof.Machine.execSdiAncPacket dt lane p s
  | .sdiTxFrameEmit dt lane => Sys2Proof.Machine.execSdiTxFrameEmit dt lane s
  | .sdiTxIdleEnd dt lane => Sys2Proof.Machine.execSdiTxIdleEnd dt lane s
  | .sourceFrameWrite dt slot part => Sys2Proof.Machine.execSourceFrameWrite dt slot part s
  | .generatorFrameWrite dt slot => Sys2Proof.Machine.execGeneratorFrameWrite dt slot s
  | .destinationReadStart dt dst => Sys2Proof.Machine.execDestinationReadStart dt dst s
  | .partialFrame dt dst line => Sys2Proof.Machine.execPartialFrame dt dst line s
  | .engineAlignmentPoint dt engine => Sys2Proof.Machine.execEngineAlignmentPoint dt engine s
  | .layerGfxOffset dt m sub value => Sys2Proof.Machine.execLayerGfxOffset dt m sub value s
  | .layerGfxData dt m sub value => Sys2Proof.Machine.execLayerGfxData dt m sub value s
  | .layerGfxFlip dt m sub value => Sys2Proof.Machine.execLayerGfxFlip dt m sub value s
  | .colShaperData dt m sub value => Sys2Proof.Machine.execColShaperData dt m sub value s
  | .colLutOffset dt m sub value => Sys2Proof.Machine.execColLutOffset dt m sub value s
  | .colLutData dt m sub value => Sys2Proof.Machine.execColLutData dt m sub value s
  | .colTableFlip dt m sub value => Sys2Proof.Machine.execColTableFlip dt m sub value s
  | .corniceBlock dt inputs => Sys2Proof.Machine.execCorniceBlock dt inputs s
  | .auInputRate dt channel ppb => Sys2Proof.Machine.execAuInputRate dt channel ppb s
  | .tapChangeStart dt output => Sys2Proof.Machine.execTapChangeStart dt output s
  | .crossfadeEnd dt output => Sys2Proof.Machine.execCrossfadeEnd dt output s
  | .meterPeriod dt => Sys2Proof.Machine.execMeterPeriod dt s
  | .loudnessUpdate dt group => Sys2Proof.Machine.execLoudnessUpdate dt group s
  | .meterClear dt m index sub value => Sys2Proof.Machine.execMeterClear dt m index sub value s
  | .tarnEnWrite dt port value => Sys2Proof.Machine.execTarnEnWrite dt port value s
  | .tarnGo dt value => Sys2Proof.Machine.execTarnGo dt value s
  | .tarnTrigEdge dt => Sys2Proof.Machine.execTarnTrigEdge dt s
  | .tarnStarted dt => Sys2Proof.Machine.execTarnStarted dt s
  | .tarnFrameStart dt port rx pdmClip => Sys2Proof.Machine.execTarnFrameStart dt port rx pdmClip s
  | .tarnMaskWrite dt port tx value late => Sys2Proof.Machine.execTarnMaskWrite dt port tx value late s
  | .tarnFsEdge dt port => Sys2Proof.Machine.execTarnFsEdge dt port s
  | .tarnFsLost dt port => Sys2Proof.Machine.execTarnFsLost dt port s
  | .tarnRateMeasure dt port milliHertz fill => Sys2Proof.Machine.execTarnRateMeasure dt port milliHertz fill s
  | .tarnRxfifoRead dt port => Sys2Proof.Machine.execTarnRxfifoRead dt port s
  | .tarnTxfifoWrite dt port value => Sys2Proof.Machine.execTarnTxfifoWrite dt port value s
  | .mpFrameReceived dt port f => Sys2Proof.Machine.execMpFrameReceived dt port f s
  | .reportRetransmit dt port group => Sys2Proof.Machine.execReportRetransmit dt port group s
  | .packetRelease dt entry => Sys2Proof.Machine.execPacketRelease dt entry s
  | .flowLost dt entry => Sys2Proof.Machine.execFlowLost dt entry s
  | .mergePathLost dt entry => Sys2Proof.Machine.execMergePathLost dt entry s
  | .mergePathRestored dt entry => Sys2Proof.Machine.execMergePathRestored dt entry s
  | .ancUnmatched dt entry => Sys2Proof.Machine.execAncUnmatched dt entry s
  | .pdvSecond dt entry => Sys2Proof.Machine.execPdvSecond dt entry s
  | .mpLinkUp dt port => Sys2Proof.Machine.execMpLinkUp dt port s
  | .mpLinkDown dt port => Sys2Proof.Machine.execMpLinkDown dt port s
  | .txPacketDeparture dt entry => Sys2Proof.Machine.execTxPacketDeparture dt entry s
  | .txAudioPacket dt entry => Sys2Proof.Machine.execTxAudioPacket dt entry s
  | .txAncPackets dt entry field2 => Sys2Proof.Machine.execTxAncPackets dt entry field2 s
  | .txOpaqueForward dt entry => Sys2Proof.Machine.execTxOpaqueForward dt entry s
  | .txResolveRenew dt entry => Sys2Proof.Machine.execTxResolveRenew dt entry s
  | .txUnresolved dt entry => Sys2Proof.Machine.execTxUnresolved dt entry s
  | .wsEvaluation dt => Sys2Proof.Machine.execWsEvaluation dt s
  | .refEdge dt ref width => Sys2Proof.Machine.execRefEdge dt ref width s
  | .refFreqMeasure dt diffs => Sys2Proof.Machine.execRefFreqMeasure dt diffs s
  | .refLost dt ref cause => Sys2Proof.Machine.execRefLost dt ref cause s
  | .refSignalBack dt ref => Sys2Proof.Machine.execRefSignalBack dt ref s
  | .refAvailable dt ref => Sys2Proof.Machine.execRefAvailable dt ref s
  | .ptpAnnounceTimeout dt ref => Sys2Proof.Machine.execPtpAnnounceTimeout dt ref s
  | .wsLocked dt => Sys2Proof.Machine.execWsLocked dt s
  | .wsTimeSet dt m value => Sys2Proof.Machine.execWsTimeSet dt m value s
  | .loFault dt missing ppm => Sys2Proof.Machine.execLoFault dt missing ppm s
  | .loRestored dt => Sys2Proof.Machine.execLoRestored dt s
  | .holdoverReady dt => Sys2Proof.Machine.execHoldoverReady dt s
  | .holdoverModelSave dt => Sys2Proof.Machine.execHoldoverModelSave dt s
  | .holdoverExpired dt => Sys2Proof.Machine.execHoldoverExpired dt s
  | .wsHoldoverReset dt m value => Sys2Proof.Machine.execWsHoldoverReset dt m value s
  | .fpPulseEmit dt output => Sys2Proof.Machine.execFpPulseEmit dt output s
  | .wsHistoryClear dt m value => Sys2Proof.Machine.execWsHistoryClear dt m value s
  | .arbPatternRecognised dt first second => Sys2Proof.Machine.execArbPatternRecognised dt first second s
  | .twinStatusSend dt => Sys2Proof.Machine.execTwinStatusSend dt s
  | .twinStatusBlock dt b => Sys2Proof.Machine.execTwinStatusBlock dt b s
  | .twinPeerLost dt => Sys2Proof.Machine.execTwinPeerLost dt s
  | .twinPeerFound dt => Sys2Proof.Machine.execTwinPeerFound dt s
  | .twinCopySend dt => Sys2Proof.Machine.execTwinCopySend dt s
  | .twinCopyReceive dt c => Sys2Proof.Machine.execTwinCopyReceive dt c s
  | .twinCopyAck dt => Sys2Proof.Machine.execTwinCopyAck dt s
  | .salvoMirrorReceive dt n state owner changes => Sys2Proof.Machine.execSalvoMirrorReceive dt n state owner changes s
  | .takeMirrorReceive dt n boundary => Sys2Proof.Machine.execTakeMirrorReceive dt n boundary s
  | .writeThroughAck dt => Sys2Proof.Machine.execWriteThroughAck dt s
  | .writeThroughTimeout dt => Sys2Proof.Machine.execWriteThroughTimeout dt s
  | .twinAnnounce dt => Sys2Proof.Machine.execTwinAnnounce dt s
  | .ethPllLock dt octet => Sys2Proof.Machine.execEthPllLock dt octet s
  | .laneAligned dt lane => Sys2Proof.Machine.execLaneAligned dt lane s
  | .laneAlignLost dt lane invalid => Sys2Proof.Machine.execLaneAlignLost dt lane invalid s
  | .saddleAutoSlip dt => Sys2Proof.Machine.execSaddleAutoSlip dt s
  | .saddleSlip dt m sub value => Sys2Proof.Machine.execSaddleSlip dt m sub value s
  | .saddleMarker dt lane before word row => Sys2Proof.Machine.execSaddleMarker dt lane before word row s
  | .saddleSeed dt lane before word => Sys2Proof.Machine.execSaddleSeed dt lane before word s
  | .saddleTrainWord dt lane line => Sys2Proof.Machine.execSaddleTrainWord dt lane line s
  | .saddleTrainStep dt lane eye => Sys2Proof.Machine.execSaddleTrainStep dt lane eye s
  | .saddleTrainRequest dt m sub value => Sys2Proof.Machine.execSaddleTrainRequest dt m sub value s
  | .saddleRestart dt m value => Sys2Proof.Machine.execSaddleRestart dt m value s
  | .markerMissing dt lane => Sys2Proof.Machine.execMarkerMissing dt lane s
  | .saddleMessage dt before start rest => Sys2Proof.Machine.execSaddleMessage dt before start rest s
  | .spurRefLost dt input => Sys2Proof.Machine.execSpurRefLost dt input s
  | .spurRefRestored dt input => Sys2Proof.Machine.execSpurRefRestored dt input s
  | .octetPllUnlock dt octet pll => Sys2Proof.Machine.execOctetPllUnlock dt octet pll s
  | .lanePrbsLocked dt lane inverted => Sys2Proof.Machine.execLanePrbsLocked dt lane inverted s
  | .lanePrbsLost dt lane bits errors => Sys2Proof.Machine.execLanePrbsLost dt lane bits errors s
  | .morDriveLost dt drive => Sys2Proof.Machine.execMorDriveLost dt drive s
  | .morDriveRetry dt drive => Sys2Proof.Machine.execMorDriveRetry dt drive s
  | .morDriveUp dt drive rate width capacity nvme label => Sys2Proof.Machine.execMorDriveUp dt drive rate width capacity nvme label s
  | .smartPoll dt drive warning used => Sys2Proof.Machine.execSmartPoll dt drive warning used s
  | .nvmeCompletion dt drive job ok => Sys2Proof.Machine.execNvmeCompletion dt drive job ok s
  | .playbackFrameWrite dt p => Sys2Proof.Machine.execPlaybackFrameWrite dt p s
  | .delayFrameWrite dt l => Sys2Proof.Machine.execDelayFrameWrite dt l s
  | .morFormat dt m value => Sys2Proof.Machine.execMorFormat dt m value s
  | .clipDelete dt m sub value => Sys2Proof.Machine.execClipDelete dt m sub value s
  | .morJournalRead dt m => Sys2Proof.Machine.execMorJournalRead dt m s
  | .ctlFrameReceived dt port f => Sys2Proof.Machine.execCtlFrameReceived dt port f s
  | .ctlTxFrame dt port => Sys2Proof.Machine.execCtlTxFrame dt port s
  | .ctlLinkUp dt port speed => Sys2Proof.Machine.execCtlLinkUp dt port speed s
  | .ctlLinkDown dt port => Sys2Proof.Machine.execCtlLinkDown dt port s
  | .ctlSpeedCycle dt port => Sys2Proof.Machine.execCtlSpeedCycle dt port s
  | .ctlLoadWindow dt port rxMbps txMbps => Sys2Proof.Machine.execCtlLoadWindow dt port rxMbps txMbps s
  | .ctlStepFail dt port => Sys2Proof.Machine.execCtlStepFail dt port s
  | .cmacCtrlWrite dt port value => Sys2Proof.Machine.execCmacCtrlWrite dt port value s
  | .colRequest dt target waiting => Sys2Proof.Machine.execColRequest dt target waiting s
  | .colPortClockStop dt target => Sys2Proof.Machine.execColPortClockStop dt target s
  | .colFence dt value => Sys2Proof.Machine.execColFence dt value s
  | .colApertureRefused dt value trusted => Sys2Proof.Machine.execColApertureRefused dt value trusted s
  | .scrTailWrite dt channel value => Sys2Proof.Machine.execScrTailWrite dt channel value s
  | .scrDescriptorStart dt => Sys2Proof.Machine.execScrDescriptorStart dt s
  | .scrPeriphRequest dt periph asserted => Sys2Proof.Machine.execScrPeriphRequest dt periph asserted s
  | .scrDescriptorComplete dt lateError => Sys2Proof.Machine.execScrDescriptorComplete dt lateError s
  | .scrHalted dt code bytesDone => Sys2Proof.Machine.execScrHalted dt code bytesDone s
  | .scrStall dt => Sys2Proof.Machine.execScrStall dt s
  | .scrAbort dt channel bursts => Sys2Proof.Machine.execScrAbort dt channel bursts s
  | .scrClear dt skip => Sys2Proof.Machine.execScrClear dt skip s
  | .scrChannelDisable dt channel bursts => Sys2Proof.Machine.execScrChannelDisable dt channel bursts s
  | .memCorrected dt memory => Sys2Proof.Machine.execMemCorrected dt memory s
  | .memUncorrectable dt memory addr c => Sys2Proof.Machine.execMemUncorrectable dt memory addr c s
  | .memScrubRead dt memory addr r passEnd => Sys2Proof.Machine.execMemScrubRead dt memory addr r passEnd s
  | .monSample dt unit value => Sys2Proof.Machine.execMonSample dt unit value s
  | .monPeriod dt unit => Sys2Proof.Machine.execMonPeriod dt unit s
  | .monConfigWrite dt m index sub value => Sys2Proof.Machine.execMonConfigWrite dt m index sub value s
  | .monClear dt m sub value => Sys2Proof.Machine.execMonClear dt m sub value s
  | .evtPop dt value => Sys2Proof.Machine.execEvtPop dt value s
  | .evtSwraise dt value => Sys2Proof.Machine.execEvtSwraise dt value s
  | .evtPinAck dt value => Sys2Proof.Machine.execEvtPinAck dt value s
  | .evtPulseEnd dt pin => Sys2Proof.Machine.execEvtPulseEnd dt pin s
  | .subscriptionWrite dt m value => Sys2Proof.Machine.execSubscriptionWrite dt m value s
  | .counterClearWrite dt m index sub value => Sys2Proof.Machine.execCounterClearWrite dt m index sub value s
  | .regCounterClear dt addr value => Sys2Proof.Machine.execRegCounterClear dt addr value s
  | .latencyClear dt m sub value => Sys2Proof.Machine.execLatencyClear dt m sub value s
  | .phaseHistogramClear dt m value => Sys2Proof.Machine.execPhaseHistogramClear dt m value s
  | .gateVersion dt => Sys2Proof.Machine.execGateVersion dt s
  | .gateHeartbeat dt => Sys2Proof.Machine.execGateHeartbeat dt s
  | .gateRestart dt session kind => Sys2Proof.Machine.execGateRestart dt session kind s
  | .gateHbmRegion dt => Sys2Proof.Machine.execGateHbmRegion dt s
  | .gateAuthHello dt m h buf => Sys2Proof.Machine.execGateAuthHello dt m h buf s
  | .gateAuthProof dt m handle proof buf => Sys2Proof.Machine.execGateAuthProof dt m handle proof buf s
  | .gateMsgOpen dt m buf => Sys2Proof.Machine.execGateMsgOpen dt m buf s
  | .gateMsgSeal dt session buf => Sys2Proof.Machine.execGateMsgSeal dt session buf s
  | .gateSessionEnd dt session reason => Sys2Proof.Machine.execGateSessionEnd dt session reason s
  | .gateCeSubmit dt session r buf => Sys2Proof.Machine.execGateCeSubmit dt session r buf s
  | .gateCeRead dt index sub buf => Sys2Proof.Machine.execGateCeRead dt index sub buf s
  | .gateKeyWrite dt session role key buf => Sys2Proof.Machine.execGateKeyWrite dt session role key buf s
  | .gateOwnerLock dt session lock => Sys2Proof.Machine.execGateOwnerLock dt session lock s
  | .gateOtpProgram dt session hash buf => Sys2Proof.Machine.execGateOtpProgram dt session hash buf s
  | .gateOtpRevoke dt session slot => Sys2Proof.Machine.execGateOtpRevoke dt session slot s
  | .gateStoreLoad dt buf => Sys2Proof.Machine.execGateStoreLoad dt buf s
  | .gateStoreSave dt buf => Sys2Proof.Machine.execGateStoreSave dt buf s
  | .gateTwinPut dt buf => Sys2Proof.Machine.execGateTwinPut dt buf s
  | .gateTwinGet dt buf => Sys2Proof.Machine.execGateTwinGet dt buf s
  | .gateCrypto dt op key input output => Sys2Proof.Machine.execGateCrypto dt op key input output s
  | .gateUpdate dt session op buf => Sys2Proof.Machine.execGateUpdate dt session op buf s
  | .gateDone dt ticket => Sys2Proof.Machine.execGateDone dt ticket s
  | .interruptForward dt line => Sys2Proof.Machine.execInterruptForward dt line s
  | .cacheClean dt addr => Sys2Proof.Machine.execCacheClean dt addr s
  | .cacheInval dt addr => Sys2Proof.Machine.execCacheInval dt addr s
  | .cacheCleanInval dt addr => Sys2Proof.Machine.execCacheCleanInval dt addr s
  | .uplandFault dt cause pc addr => Sys2Proof.Machine.execUplandFault dt cause pc addr s
  | .uplandHeartbeatLate dt => Sys2Proof.Machine.execUplandHeartbeatLate dt s
  | .heartbeatTimeout dt => Sys2Proof.Machine.execHeartbeatTimeout dt s
  | .tmwTimerExpiry dt timer => Sys2Proof.Machine.execTmwTimerExpiry dt timer s
  | .tmwAlarmArm dt value => Sys2Proof.Machine.execTmwAlarmArm dt value s
  | .tmwAlarmFire dt => Sys2Proof.Machine.execTmwAlarmFire dt s
  | .tmwPtpLatch dt => Sys2Proof.Machine.execTmwPtpLatch dt s
  | .tarnFcntLatch dt port => Sys2Proof.Machine.execTarnFcntLatch dt port s
  | .registerWrite dt addr value trusted => Sys2Proof.Machine.execRegisterWrite dt addr value trusted s
  | .roleKeyChanged dt m sub value => Sys2Proof.Machine.execRoleKeyChanged dt m sub value s
  | .lockoutClear dt m value => Sys2Proof.Machine.execLockoutClear dt m value s
  | .ownerLockChange dt m value => Sys2Proof.Machine.execOwnerLockChange dt m value s
  | .ownerKeyProgram dt m value => Sys2Proof.Machine.execOwnerKeyProgram dt m value s
  | .ownerKeyRevoke dt m value => Sys2Proof.Machine.execOwnerKeyRevoke dt m value s
  | .storeSaveStart dt => Sys2Proof.Machine.execStoreSaveStart dt s
  | .storeSaved dt ok => Sys2Proof.Machine.execStoreSaved dt ok s
  | .storeSaveNow dt m value => Sys2Proof.Machine.execStoreSaveNow dt m value s
  | .updateBegin dt m value => Sys2Proof.Machine.execUpdateBegin dt m value s
  | .updateData dt m value => Sys2Proof.Machine.execUpdateData dt m value s
  | .updateCommit dt m value => Sys2Proof.Machine.execUpdateCommit dt m value s
  | .updateActivate dt m value => Sys2Proof.Machine.execUpdateActivate dt m value s
  | .updateAbort dt m value => Sys2Proof.Machine.execUpdateAbort dt m value s
  | .healthConfirm dt m value => Sys2Proof.Machine.execHealthConfirm dt m value s
  | .updateNotConfirmed dt => Sys2Proof.Machine.execUpdateNotConfirmed dt s
  | .osfRead dt => Sys2Proof.Machine.execOsfRead dt s
  | .osfProgram dt => Sys2Proof.Machine.execOsfProgram dt s
  | .osfErase4k dt => Sys2Proof.Machine.execOsfErase4k dt s
  | .osfErase64k dt => Sys2Proof.Machine.execOsfErase64k dt s
  | .osfDone dt verifyError => Sys2Proof.Machine.execOsfDone dt verifyError s
  | .octetPllLock dt octet pll => Sys2Proof.Machine.execOctetPllLock dt octet pll s
  | .laneClockLockLost dt lane => Sys2Proof.Machine.execLaneClockLockLost dt lane s
  | .laneCdrLocked dt lane => Sys2Proof.Machine.execLaneCdrLocked dt lane s
  | .ctlTxFrameWait dt port waitedUs => Sys2Proof.Machine.execCtlTxFrameWait dt port waitedUs s

end Sys2Proof.Machine
end

