-- ==== Sys2Proof/Machine/Colour.lean ====
section
/-!
DEFINITION. The arithmetic of pixels (R227 to R233, R254 to R265): scaler sums, colour stages, blending and rounding. A frame in
State names its picture by what it is made of (`Pic`); Machine/Picture.lean gives its samples by these functions. Working values
are those of the 10-bit scale, exact fractions; a 12-bit value counts a quarter. What a stage that is not in bypass gives lies within
R265's tolerance of the exact value (notes/assumptions/55.md).
-/
namespace Sys2Proof.Machine

/-! ## The scaler (R227 to R231) -/

/-- BILINEAR (R228): the coefficients of a filter whose tap `zeroTap` lies at offset 0. -/
def bilinear (taps zeroTap phase : Nat) : List Int :=
  (List.range taps).map fun t => if t = zeroTap then 1024 - 16 * (phase : Int) else if t = zeroTap + 1 then 16 * (phase : Int) else 0

/-- The coefficients of one phase of a table (R228): I16 values, phase-major. -/
def tableRow (table : List Byte) (taps phase : Nat) : List Int :=
  (List.range taps).map fun t => intAt table (2 * (phase * taps + t)) 2

/-- The taps of the vertical filter kept with T taps, as first and last tap; offset o is tap o + 2 (R230). -/
def keptTaps (t phase : Nat) : Nat × Nat := match t with
  | 6 => (0, 5)
  | 5 => if phase < 32 then (0, 4) else (1, 5)
  | 4 => (1, 4)
  | 3 => if phase < 32 then (1, 3) else (2, 4)
  | _ => (2, 3)

/-- The coefficients of a USER table with T taps (R230): each removed one is added to the outermost kept one of its side. -/
def foldTaps (t phase : Nat) (coef : List Int) : List Int :=
  let k := keptTaps t phase
  (List.range 6).map fun i =>
    if i < k.1 || k.2 < i then 0
    else coef.getD i 0 + (if i = k.1 then (coef.take k.1).sum else 0) + (if i = k.2 then (coef.drop (k.2 + 1)).sum else 0)

/-- A position limited to a range that starts at `lo` and holds n columns or rows (R227). -/
def clampPos (lo n : Nat) (p : Int) : Nat := (clampInt lo (lo + n - 1 : Nat) p).toNat

/-- One sum of the scaler at a position: the samples around it with tap `zeroTap` at the position, those outside the crop taking the nearest
one inside (R227). -/
def scaleSum (coef : List Int) (zeroTap lo n : Nat) (sample : Nat → Rat) (at_ : Int) : Rat :=
  ((List.range coef.length).map fun (t : Nat) =>
    ((coef[t]?.getD 0 : Int) : Rat) * sample (clampPos lo n (at_ - (zeroTap : Int) + (t : Int)))).sum / 1024

/-- The missing chroma sample between two co-sited ones, from the four around it (R231). -/
def chromaUp (a b c d : Rat) : Rat := (-a + 9 * b + 9 * c - d) / 16

/-- Chroma reduced at an even pixel, from it and its neighbours (R231). -/
def chromaDown (a b c : Rat) : Rat := (a + 2 * b + c) / 4

/-! ## Matrices (R250, R257, R259) -/

/-- A triple of components. -/
abbrev Rgb := Rat × Rat × Rat

/-- Kr and Kb of a colour code (R250). -/
def lumaWeights (colour : Nat) : Rat × Rat := if colour = 0 then (2126 / 10000, 722 / 10000) else (2627 / 10000, 593 / 10000)

/-- R′G′B′ of working values Y′, Cb′, Cr′ (R257, step 1). -/
def toRgb (colour : Nat) (v : Rgb) : Rgb :=
  let k := lumaWeights colour
  let y := v.1 / 876
  let b := y + 2 * (1 - k.2) * (v.2.1 / 896)
  let r := y + 2 * (1 - k.1) * (v.2.2 / 896)
  (r, (y - k.1 * r - k.2 * b) / (1 - k.1 - k.2), b)

/-- Working values of R′G′B′ (R257, step 10). -/
def fromRgb (colour : Nat) (v : Rgb) : Rgb :=
  let k := lumaWeights colour
  let y := k.1 * v.1 + (1 - k.1 - k.2) * v.2.1 + k.2 * v.2.2
  (876 * y, 896 * ((v.2.2 - y) / (2 * (1 - k.2))), 896 * ((v.1 - y) / (2 * (1 - k.1))))

/-- A triple changed component by component. -/
def mapRgb (f : Rat → Rat) (v : Rgb) : Rgb := (f v.1, f v.2.1, f v.2.2)

/-- A matrix of ten-thousandths times linear RGB. -/
def mat (a b c d e f g h i : Int) (v : Rgb) : Rgb :=
  let row := fun (x y z : Int) => ((x : Rat) * v.1 + y * v.2.1 + z * v.2.2) / 10000
  (row a b c, row d e f, row g h i)

/-- The conversion of primaries between colour codes (R259). -/
def primaries (i o : Nat) (v : Rgb) : Rgb :=
  if (i = 0) = (o = 0) then v
  else if i = 0 then mat 6274 3293 433 691 9195 114 164 880 8956 v
  else mat 16605 (-5876) (-728) (-1246) 11329 (-83) (-182) (-1006) 11187 v

/-! ## Shapers and 3D LUTs (R261, R262) -/

/-- A U16 of a table as a fraction of 65,535. -/
def point (x : Nat) : Rat := (x : Rat) / 65535

/-- A shaper of one component, 0 R′, 1 G′, 2 B′ (R261). -/
def shaperAt (table : List Byte) (component : Nat) (x : Rat) : Rat :=
  let i := min (1024 * x).floor.toNat 1023
  let f := 1024 * x - i
  let p := fun k => point (fromBe ((table.drop (2 * (1025 * component + k))).take 2))
  (1 - f) * p i + f * p (i + 1)

/-- Entry (r, g, b) of a 3D LUT (R262). -/
def lutEntry (table : List Host.Cell) (r g b : Nat) : Rgb :=
  let at_ := 6 * (r + 33 * g + 1089 * b)
  let p := fun k => point ((storeGet memDefault table (at_ + k)).toNat * 256 + (storeGet memDefault table (at_ + k + 1)).toNat)
  (p 0, p 2, p 4)

/-- The tetrahedral interpolation of a 3D LUT (R262). -/
def lutAt (table : List Host.Cell) (v : Rgb) : Rgb :=
  let i := fun (x : Rat) => min (32 * x).floor.toNat 31
  let f := fun (x : Rat) => 32 * x - i x
  let fr := sortBy (fun (a b : Rat × Nat) => decide (b.1 < a.1) || (a.1 == b.1 && a.2 ≤ b.2)) [(f v.1, 0), (f v.2.1, 1), (f v.2.2, 2)]
  let ax := fun (k : Nat) => (fr[k]?.getD (0, 0)).2
  let fk := fun (k : Nat) => (fr[k]?.getD (0, 0)).1
  let corner := fun (l : List Nat) =>
    lutEntry table (i v.1 + b2n (l.contains 0)) (i v.2.1 + b2n (l.contains 1)) (i v.2.2 + b2n (l.contains 2))
  let p0 := corner []
  let p1 := corner [ax 0]
  let p2 := corner [ax 0, ax 1]
  let p3 := corner [0, 1, 2]
  let one := fun (c : Rgb → Rat) => (1 - fk 0) * c p0 + (fk 0 - fk 1) * c p1 + (fk 1 - fk 2) * c p2 + fk 2 * c p3
  (one (·.1), one (·.2.1), one (·.2.2))

/-- The shaper and the 3D LUT of a stage, each where it is enabled (R256, steps 3 and 9). -/
def StageLook.tables (y : StageLook) (v : Rgb) : Rgb :=
  let a := match y.shaper with
    | some m => (shaperAt m 0 v.1, shaperAt m 1 v.2.1, shaperAt m 2 v.2.2)
    | none => v
  match y.lut with
  | some m => lutAt m a
  | none => a

/-! ## Transfer functions (R258) -/

/-- The numbers of ST 2084 (R258): m1, m2, c1, c2, c3. -/
def pqM1 : Rat := 2610 / 16384
/-- m2. -/
def pqM2 : Rat := 2523 / 32
/-- c1. -/
def pqC1 : Rat := 3424 / 4096
/-- c2. -/
def pqC2 : Rat := 2413 / 128
/-- c3. -/
def pqC3 : Rat := 2392 / 128

/-- The PQ linearisation: display light of a value (R258). -/
def pqLight (e : Rat) : Rat :=
  let p := power e (1 / pqM2)
  10000 * power (max (p - pqC1) 0 / (pqC2 - pqC3 * p)) (1 / pqM1)

/-- The PQ encode, V() of R260: the inverse of the linearisation (R258). -/
def pqCode (l : Rat) : Rat :=
  let y := power (l / 10000) pqM1
  power ((pqC1 + pqC2 * y) / (1 + pqC3 * y)) pqM2

/-- The numbers of the BT.2100 HLG curve (R258): a, b, c. -/
def hlgA : Rat := 17883277 / 100000000
/-- b. -/
def hlgB : Rat := 28466892 / 100000000
/-- c. -/
def hlgC : Rat := 55991073 / 100000000

/-- The BT.2100 HLG OETF of scene light (R258). -/
def hlgOetf (e : Rat) : Rat := if 12 * e ≤ 1 then power (3 * e) (1 / 2) else hlgA * ln (12 * e - hlgB) + hlgC

/-- The BT.2100 HLG inverse OETF of a value (R258). -/
def hlgScene (v : Rat) : Rat := if 2 * v ≤ 1 then v * v / 3 else (fixExp (toFix ((v - hlgC) / hlgA)) + hlgB) / 12

/-- γ of the HLG OOTF for a peak (R258). -/
def hlgGamma (peak : Rat) : Rat := 12 / 10 + 42 / 100 * log10 (peak / 1000)

/-- The luminance of linear BT.2020 RGB (R258). -/
def luminance (v : Rgb) : Rat := (2627 * v.1 + 6780 * v.2.1 + 593 * v.2.2) / 10000

/-- Display light of R′G′B′ by a transfer (R258); `peaks` is ColSdrPeak and ColHlgPeak. -/
def linearise (transfer : Nat) (peaks : Rat × Rat) (v : Rgb) : Rgb := match transfer with
  | 0 => mapRgb (fun e => peaks.1 * power e (24 / 10)) v
  | 1 =>
    let e := mapRgb hlgScene v
    let k := peaks.2 * power (luminance e) (hlgGamma peaks.2 - 1)
    mapRgb (k * ·) e
  | _ => mapRgb pqLight v

/-- R′G′B′ of display light by a transfer (R258). -/
def encodeLight (transfer : Nat) (peaks : Rat × Rat) (f : Rgb) : Rgb := match transfer with
  | 0 => mapRgb (fun l => power (l / peaks.1) (10 / 24)) f
  | 1 =>
    let y := luminance f
    if y ≤ 0 then (0, 0, 0)
    else
      let gamma := hlgGamma peaks.2
      let k := peaks.2 * power (power (y / peaks.2) (1 / gamma)) (gamma - 1)
      mapRgb (fun l => hlgOetf (l / k)) f
  | _ => mapRgb pqCode f

/-! ## Compression (R260) -/

/-- The BT.2390 curve between K and 1 (R260): e, m to e′. -/
def kneeCurve (e m : Rat) : Rat :=
  let k := max 0 (3 / 2 * m - 1 / 2)
  if e < k then e
  else
    let t := (e - k) / (1 - k)
    (2 * t ^ 3 - 3 * t ^ 2 + 1) * k + (t ^ 3 - 2 * t ^ 2 + t) * (1 - k) + (-2 * t ^ 3 + 3 * t ^ 2) * m

/-- The compression of linear RGB from the peak L_m to the peak L_t, with Kr and Kb of the output colour (R260). -/
def compress (colour : Nat) (lm lt : Rat) (v : Rgb) : Rgb :=
  let k := lumaWeights colour
  let y := k.1 * v.1 + (1 - k.1 - k.2) * v.2.1 + k.2 * v.2.2
  if y ≤ 0 then v
  else
    let top := pqCode lm
    let new := pqLight (kneeCurve (pqCode y / top) (pqCode lt / top) * top)
    mapRgb (fun z => z * (new / y)) v

/-! ## A colour stage (R254 to R260) -/

/-- The peak of a colour's transfer in cd/m² (R260). -/
def StageLook.peak (y : StageLook) (colour pq : Nat) : Nat := match transferOf colour with
  | 0 => y.sdrPeak
  | 1 => y.hlgPeak
  | _ => pq

/-- The scale g of a stage (R260). -/
def StageLook.scale (y : StageLook) : Rat :=
  if transferOf y.input != 0 && transferOf y.output == 0 then (y.sdrPeak : Rat) / y.refWhite
  else if transferOf y.input == 0 && transferOf y.output != 0 then (y.refWhite : Rat) / y.sdrPeak
  else 1

/-- Steps 4 to 8 (R256): to display light and back, between colours that differ. -/
def StageLook.convert (y : StageLook) (v : Rgb) : Rgb :=
  if y.input = y.output then v
  else
    let peaks : Rat × Rat := (y.sdrPeak, y.hlgPeak)
    let lt : Rat := y.peak y.output 10000
    let ls := y.scale * y.peak y.input y.sourcePeak
    let scaled := mapRgb (fun z => y.scale * z) (primaries y.input y.output (linearise (transferOf y.input) peaks v))
    let mapped := if y.compresses then compress y.output ls lt scaled else scaled
    encodeLight (transferOf y.output) peaks (mapRgb (clampRat 0 lt) mapped)

/-- How far the device's value lies from the exact one, at most one code of the 10-bit scale (R265). -/
def StageLook.error (y : StageLook) (v exact : Rgb) (component : Nat) : Rat :=
  clampRat (-1) 1 (Config.stageError (y.input, y.output) v exact component)

/-- The exact evaluation of a stage that is not in bypass (R256): a layer stage applies its tables before the conversion, the output
stage after it. -/
def StageLook.exact (y : StageLook) (v : Rgb) : Rgb :=
  let a := mapRgb (clampRat 0 1) (toRgb y.input v)
  fromRgb y.output (if y.onLayer then y.convert (y.tables a) else y.tables (y.convert a))

/-- What a stage makes of working values (R255, R256, R265). -/
def StageLook.apply (y : StageLook) (v : Rgb) : Rgb :=
  if y.bypass then v
  else
    let w := y.exact v
    (w.1 + y.error v w 0, w.2.1 + y.error v w 1, w.2.2 + y.error v w 2)

/-- A graphics stage (R255, R264): a premultiplied pixel of alpha A is converted without its alpha; in bypass it passes unchanged. -/
def BlendLook.applyGfx (k : BlendLook) (a : Nat) (v : Rgb) : Rgb :=
  if k.mode = 0 || k.stage.bypass then k.stage.apply v
  else if a = 0 then (0, 0, 0)
  else
    let ap : Rat := (a : Rat) / 1023
    mapRgb (fun z => z * ap) (k.stage.apply (mapRgb (fun z => z / ap) v))

/-! ## Blending and the output (R232, R233, R265) -/

/-- One layer over what lies below it, for one component (R232, R233): pixel alpha a_p, layer alpha a_L, mode. -/
def blend (mode : Nat) (ap al s b : Rat) : Rat := (if mode = 0 then ap * al * s else al * s) + (1 - ap * al) * b

/-- A pixel on its way through an engine: working values, and how much of what lies below it they cover (1 for the background). -/
structure Mixed where
  value : Rgb
  cover : Rat

/-- A layer's pixel of alpha a_p over what lies below it (R232, R233). -/
def BlendLook.over (k : BlendLook) (ap : Rat) (v : Rgb) (b : Mixed) : Mixed :=
  let al : Rat := (k.alpha : Rat) / 1024
  let one := blend k.mode ap al
  ⟨(one v.1 b.value.1, one v.2.1 b.value.2.1, one v.2.2 b.value.2.2), ap * al + (1 - ap * al) * b.cover⟩

/-- A pixel of the Firn surface over what lies below it, as one premultiplied layer with a_L = 1 (R237). -/
def Mixed.over (f b : Mixed) : Mixed :=
  let one := blend 1 f.cover 1
  ⟨(one f.value.1 b.value.1, one f.value.2.1 b.value.2.1, one f.value.2.2 b.value.2.2), f.cover + (1 - f.cover) * b.cover⟩

/-- The working values of a CqBgColour (R232): Y in [29:20], Cb in [19:10], Cr in [9:0]. -/
def bgValue (v : Nat) : Rgb := ((field v 20 29 : Rat) - 64, (field v 10 19 : Rat) - 512, (field v 0 9 : Rat) - 512)

/-- A component of the output: rounded once to the bit depth, with its offset, then clipped (R233, R265). -/
def outputCode (twelve : Bool) (offset x : Rat) : Int :=
  if twelve then clampInt 16 4079 (roundHalfAway (4 * (x + offset))) else clampInt 4 1019 (roundHalfAway (x + offset))

end Sys2Proof.Machine
end

