-- ==== Sys2Proof/Machine/Picture.lean ====
section
/-!
DEFINITION. The samples of the pictures that frames name (R59, R157, R158, R169, R173, R175, R178, R179, R226 to R237, R254): received
frames, test patterns, partial and concealed frames, and composites; and the blocks in which a frame store holds them.
-/
namespace Sys2Proof.Machine

/-! ## Lines and blocks (R42, R158) -/

/-- Whether a format comes as two fields (R112). -/
def asFields (f : Nat) : Bool := rasterInterlaced (fmtRaster f) || fmtRaster f == 5

/-- The number of a frame line in transmission order (R158): the lines of field 1, which are taken to be the even ones from the top, and
then those of field 2 (DESIGN CHOICE, notes/assumptions/74.md). -/
def sentLine (f y : Nat) : Nat := if asFields f then (if y % 2 = 0 then y / 2 else rasterHeight (fmtRaster f) / 2 + y / 2) else y

/-- The frame line of a number in transmission order. -/
def lineOfSent (f n : Nat) : Nat :=
  let half := rasterHeight (fmtRaster f) / 2
  if asFields f then (if n < half then 2 * n else 2 * (n - half) + 1) else n

/-! ## Levels and patterns (R173, R178, R179) -/

/-- Whether a format is of 12 bits. -/
def twelveBit (f : Nat) : Bool := fmtSampling f == 2

/-- A level of the 10-bit scale in a format (R173, R178). -/
def levelIn (f : Nat) (v : Int) : Int := if twelveBit f then 4 * v else v

/-- A component of three levels of the 10-bit scale. -/
def component (k : Nat) (y cb cr : Int) : Int := if k = 0 then y else if k = 1 then cb else cr

/-- BLACK (R173). -/
def blackCode (f k : Nat) : Int := levelIn f (component k 64 512 512)

/-- R′G′B′ of a colour bar at a level: white, yellow, cyan, green, magenta, red, blue (R178). -/
def barRgb (bar : Nat) (v : Rat) : Rgb :=
  let on := fun (l : List Nat) => if l.contains bar then v else 0
  (on [0, 1, 4, 5], on [0, 1, 2, 3], on [0, 2, 4, 6])

/-- A component of working values as the code of a format (R178, R233): its offset added, and rounded once. -/
def codeOf (f k : Nat) (v : Rgb) : Int :=
  outputCode (twelveBit f) (if k = 0 then 64 else 512) (if k = 0 then v.1 else if k = 1 then v.2.1 else v.2.2)

/-- Whether a pixel lies in the moving box of a generator at grid index n (R179). The box ends at the right edge (DEDUCED,
notes/assumptions/74.md). -/
def inBox (f n x y : Nat) : Bool :=
  let w := rasterWidth (fmtRaster f)
  let left := 8 * n % w
  let top := (rasterHeight (fmtRaster f) - 64) / 2
  left ≤ x && x < left + 64 && top ≤ y && y < top + 64

/-- A pattern's code (R178), in the colour settings of its consumer; RAMP is rounded, halves away from zero (DEDUCED,
notes/assumptions/74.md). The BT.2111 patterns render as BARS_75 in any other colour than theirs (R253). -/
def patternCode (pattern flat colour f k x y : Nat) : Int :=
  let w := rasterWidth (fmtRaster f)
  let bars := fun (v : Rat) => codeOf f k (fromRgb colour (barRgb (7 * x / w) v))
  match pattern with
  | 1 => levelIn f (component k (field flat 20 29) (field flat 10 19) (field flat 0 9))
  | 2 => bars (3 / 4)
  | 3 => bars 1
  | 4 => if colour = 2 then Config.bt2111 false f k x y else bars (3 / 4)
  | 5 => if colour = 3 then Config.bt2111 true f k x y else bars (3 / 4)
  | 6 => codeOf f k ((876 * x : Nat) / (w - 1 : Nat), 0, 0)
  | 7 => levelIn f (component k (if (x / 64 + y / 64) % 2 = 0 then 64 else 940) 512 512)
  | _ => blackCode f k

/-- A generator's code (R178, R179). -/
def generatorCode (n pattern flat : Nat) (motion : Bool) (colour f k x y : Nat) : Int :=
  if motion && inBox f n x y then levelIn f (component k 940 512 512) else patternCode pattern flat colour f k x y

/-! ## Quad-link groups (R59) -/

/-- The link that carries a pixel of a 2160p picture, from 0, and its place in the sub-image: square division (1) or two-sample
interleave (2). -/
def linkPixel (division x y : Nat) : Nat × Nat × Nat :=
  if division = 1 then (x / 1920 + 2 * (y / 1080), x % 1920, y % 1080)
  else (x / 2 % 2 + 2 * (y % 2), 2 * (x / 4) + x % 2, y / 2)

/-- The pixel of a 2160p picture that a place of a link's sub-image carries: what a transmit group sends there. -/
def pixelOfLink (division link x y : Nat) : Nat × Nat :=
  if division = 1 then (1920 * (link % 2) + x, 1080 * (link / 2) + y)
  else (4 * (x / 2) + 2 * (link % 2) + x % 2, 2 * y + link / 2)

/-! ## The scaler (R226 to R231) -/

/-- The samples of a picture, or of a field of it: component, column and line to a code. -/
abbrev Codes := Nat → Nat → Nat → Int

/-- A component's working value of a code (R232). -/
def workingValue (f k : Nat) (code : Int) : Rat :=
  (code : Rat) / (if twelveBit f then 4 else 1) - (if k = 0 then 64 else 512)

/-- A source's samples as working values in 4:4:4 (R231): the chroma that 4:2:2 lacks comes from the four co-sited samples around it,
those beyond the edge taking the nearest one. -/
def fullSamples (f : Nat) (codes : Codes) (k x y : Nat) : Rat :=
  let w := rasterWidth (fmtRaster f)
  if k = 0 || fmtSampling f != 0 || x % 2 = 0 then workingValue f k (codes k x y)
  else
    let at_ := fun (i : Int) => workingValue f k (codes k (clampPos 0 (w / 2) i * 2) y)
    let i : Int := (x / 2 : Nat)
    chromaUp (at_ (i - 1)) (at_ i) (at_ (i + 1)) (at_ (i + 2))

/-- The horizontal coefficients of a layer at a phase (R228). -/
def ScaleLook.rowCoef (z : ScaleLook) (phase : Nat) : List Int := match z.filter with
  | 0 => tableRow (Config.autoCoef true 8 (max 65536 z.steps.1)) 8 phase
  | 1 => bilinear 8 3 phase
  | _ => tableRow z.coefH 8 phase

/-- The vertical coefficients of a layer at a phase, with its taps (R228 to R230). -/
def ScaleLook.columnCoef (z : ScaleLook) (phase : Nat) : List Int :=
  let kept := keptTaps z.taps phase
  match z.filter with
  | 0 => (tableRow (Config.autoCoef false z.taps (max 65536 z.steps.2)) 6 phase).mapIdx fun i c =>
      if i < kept.1 || kept.2 < i then 0 else c
  | 1 => bilinear 6 2 phase
  | _ => foldTaps z.taps phase (tableRow z.coefV 6 phase)

/-- What the scaler delivers for a pixel of the window (R227, R231): with single fields, the lines of the field, half a line
earlier in field 2. -/
def ScaleLook.pixel (z : ScaleLook) (codes : Codes) (k i j : Nat) : Rat :=
  let (cx, cy, cw, ch) := z.crop
  let fieldLine := fun y => if z.single then 2 * y + (z.field - 1) else y
  let cy := if z.single then cy / 2 else cy
  let ch := if z.single then ch / 2 else ch
  let h := scaleTap (scalePos cx z.steps.1 i)
  let v := scaleTap (scalePos cy z.steps.2 j - if z.single && z.field = 2 then 32768 else 0)
  let row := fun y => scaleSum (z.rowCoef h.2) 3 cx cw (fun x => fullSamples z.format codes k x (fieldLine y)) h.1
  scaleSum (z.columnCoef v.2) 2 cy ch row v.1

/-- The place of an output pixel in a layer's window; none outside it, where the layer contributes nothing (R226, R232). -/
def ScaleLook.place (z : ScaleLook) (x y : Nat) : Option (Nat × Nat) :=
  let i : Int := (x : Int) - z.at_.1
  let j : Int := (y : Int) - z.at_.2
  if 0 ≤ i && 0 ≤ j && i < z.window.1 && j < z.window.2 then some (i.toNat, j.toNat) else none

/-! ## Graphics surfaces (R235) -/

/-- The 40 bits of a surface's pixel: 12 pixels a block, each line in whole blocks. -/
def surfacePixel (width : Nat) (cells : List Host.Cell) (x y : Nat) : Nat :=
  let block := 64 * (y * ceilDiv width 12 + x / 12)
  fromLe ((List.range 60).map fun j => storeGet memDefault cells (block + j)) / 2 ^ (40 * (x % 12)) % 2 ^ 40

/-- A of a surface's pixel, and its working values (R232, R235). -/
def surfaceValue (p : Nat) : Nat × Rgb :=
  (field p 30 39, (field p 0 9 : Rat) - 64, (field p 10 19 : Rat) - 512, (field p 20 29 : Rat) - 512)

/-! ## Pictures -/

/-- How a picture looks: the codes of a stored or sent picture in a format, and the pixels of layers over one another. -/
structure Look where
  code : Nat → Codes
  mixed : Nat → Nat → Mixed

/-- A picture that is stored or sent. -/
def Look.stored (code : Nat → Codes) : Look := ⟨code, fun _ _ => ⟨(0, 0, 0), 0⟩⟩

/-- Layers over one another, as an engine blends them. -/
def Look.layers (mixed : Nat → Nat → Mixed) : Look := ⟨fun f k _ _ => blackCode f k, mixed⟩

/-- The output pixel of an engine (R231, R233, R254, R265): through the output stage, chroma reduced for 4:2:2, rounded once. -/
def compositeCode (stage : StageLook) (mixed : Nat → Nat → Mixed) (f k x y : Nat) : Int :=
  let w := rasterWidth (fmtRaster f)
  let value := fun (i : Int) => stage.apply (mixed (clampPos 0 w i) y).value
  let one := fun (v : Rgb) => if k = 0 then v.1 else if k = 1 then v.2.1 else v.2.2
  let offset : Rat := if k = 0 then 64 else 512
  if k = 0 || fmtSampling f != 0 then outputCode (twelveBit f) offset (one (value x))
  else
    let i : Int := (x / 2 * 2 : Nat)
    outputCode (twelveBit f) offset (chromaDown (one (value (i - 1))) (one (value i)) (one (value (i + 1))))

/-- What a picture looks like. Blanking lines hold black (R199). -/
def Pic.look : Pic → Look
  | .black => .stored fun f k _ _ => blackCode f k
  | .blanking => .stored fun f k _ _ => blackCode f k
  | .generator _ n pattern flat motion colour => .stored (generatorCode n pattern flat motion colour)
  | .frame slot seq => .stored fun _ k x y => Config.received slot seq 0 k x y
  | .quad slot seq division links => .stored fun _ k x y =>
      let p := linkPixel division x y
      Config.received slot seq (links.getD p.1 0) k p.2.1 p.2.2
  | .partialOf newer older line => .stored fun f k x y =>
      if sentLine f y < line then newer.look.code f k x y else older.look.code f k x y
  | .patched base older spans => .stored fun f k x y =>
      let p := sentLine f y * rasterWidth (fmtRaster f) + x
      if spans.any (fun r => r.1 ≤ p && p < r.2) then older.look.code f k x y else base.look.code f k x y
  | .link whole division number => .stored fun f k x y =>
      let p := pixelOfLink division number x y
      whole.look.code f k p.1 p.2
  | .concealed base other line block => .stored fun f k x y =>
      if sentLine f y = line && x / fmtBlockPixels f = block then other.look.code f k x y else base.look.code f k x y
  | .ground v => .layers fun _ _ => ⟨bgValue v, 1⟩
  | .clear => .layers fun _ _ => ⟨(0, 0, 0), 0⟩
  | .video below source scale k => .layers fun x y =>
      match scale.place x y with
      | some (i, j) =>
        let s := fun n => scale.pixel (source.look.code scale.format) n i j
        k.over 1 (k.stage.apply (s 0, s 1, s 2)) (below.look.mixed x y)
      | none => below.look.mixed x y
  | .surface below width cells k => .layers fun x y =>
      let p := surfaceValue (surfacePixel width cells x y)
      k.over ((p.1 : Rat) / 1023) (k.applyGfx p.1 p.2) (below.look.mixed x y)
  | .firn below run => .layers fun x y => (run.look.mixed x y).over (below.look.mixed x y)
  | .composite _ _ layers stage f => .stored fun _ => compositeCode stage layers.look.mixed f

/-- The code of a pixel of a picture in a format: of component 0 Y′, 1 Cb or 2 Cr. -/
def Pic.code (p : Pic) (f k x y : Nat) : Int := p.look.code f k x y

/-! ## The frame store (R42, R43, R157, R158) -/

/-- A 64-byte block of a buffer: its frame tag and the pixels that it holds, each as its three codes. -/
structure Block where
  tag : Nat
  pixels : List (Int × Int × Int)
  deriving DecidableEq, Repr

/-- Blocks of one line of a format (R43). -/
def lineBlocks (f : Nat) : Nat := ceilDiv (rasterWidth (fmtRaster f)) (fmtBlockPixels f)

/-- A block of a frame in its slot's store, by its line in transmission order (R42, R158). -/
def Frame.block (g : Frame) (slot line block : Nat) : Block :=
  let n := fmtBlockPixels g.format
  let y := lineOfSent g.format line
  let xs := ((List.range n).map (block * n + ·)).filter fun x => x < rasterWidth (fmtRaster g.format)
  ⟨frameTag slot line g.seq, xs.map fun x => (g.pic.code g.format 0 x y, g.pic.code g.format 1 x y, g.pic.code g.format 2 x y)⟩

/-- A buffer as its writer fills it (R157, R158): the blocks of the lines that it has completed. -/
def Frame.buffer (g : Frame) (slot : Nat) : List (List Block) :=
  (List.range g.lines).map fun line => (List.range (lineBlocks g.format)).map fun b => g.block slot line b

end Sys2Proof.Machine
end

