-- ==== Sys2Proof/Machine/Frame.lean ====
section
/-!
DEFINITION. Frames: the families of commands, and for each command the reach outside of which it leaves everything as it was:
parts of the state, dictionary objects by index and registers by address.
-/
namespace Sys2Proof.Machine

/-- The parts of the state. -/
inductive Part where
  | pending | out | fresh | now | tc | objs | pinned | regs | mem | flash | boot | ev
  | ctlUp | sessions | challenges | lockouts | roleKeys | salvos | frameWrites | restartWrites | engine
  | tw | st | update | rollback | owners | flashJournal | osf | gate | ctl | colLast | scr | mon | sdiRx | sdiTx
  | ridge | cq | media | ws | au | tarn | sad | mor | diskJournal
  deriving DecidableEq, Repr

/-- Every part. -/
def Part.all : List Part :=
  [.pending, .out, .fresh, .now, .tc, .objs, .pinned, .regs, .mem, .flash, .boot, .ev] ++
  [.ctlUp, .sessions, .challenges, .lockouts, .roleKeys, .salvos, .frameWrites, .restartWrites, .engine] ++
  [.tw, .st, .update, .rollback, .owners, .flashJournal, .osf, .gate, .ctl, .colLast, .scr, .mon, .sdiRx, .sdiTx] ++
  [.ridge, .cq, .media, .ws, .au, .tarn, .sad, .mor, .diskJournal]

/-- A part of the state is as it was. -/
def Part.same (s t : State) : Part → Prop
  | .pending => t.pending = s.pending
  | .out => t.out = s.out
  | .fresh => t.fresh = s.fresh
  | .now => t.now = s.now
  | .tc => (t.tc, t.tcRest) = (s.tc, s.tcRest)
  | .objs => t.objs = s.objs
  | .pinned => t.pinned = s.pinned
  | .regs => t.regs = s.regs
  | .mem => t.mem = s.mem
  | .flash => t.flash = s.flash
  | .boot => t.boot = s.boot
  | .ev => t.ev = s.ev
  | .ctlUp => t.il.ctlUp = s.il.ctlUp
  | .sessions => t.il.sessions = s.il.sessions
  | .challenges => t.il.challenges = s.il.challenges
  | .lockouts => t.il.lockouts = s.il.lockouts
  | .roleKeys => t.il.roleKeys = s.il.roleKeys
  | .salvos => (t.ce.salvos, t.ce.atCopy, t.ce.executed) = (s.ce.salvos, s.ce.atCopy, s.ce.executed)
  | .frameWrites => t.ce.frameWrites = s.ce.frameWrites
  | .restartWrites => t.ce.restartWrites = s.ce.restartWrites
  | .engine => { t.ce with salvos := [], frameWrites := [], restartWrites := [], atCopy := none, executed := [] } =
      { s.ce with salvos := [], frameWrites := [], restartWrites := [], atCopy := none, executed := [] }
  | .tw => t.tw = s.tw
  | .st => t.st = s.st
  | .update => { t.up with rollback := 0, ownerHashes := [], ownerStates := [], journal := [], journalSeq := 0 } =
      { s.up with rollback := 0, ownerHashes := [], ownerStates := [], journal := [], journalSeq := 0 }
  | .rollback => t.up.rollback = s.up.rollback
  | .owners => (t.up.ownerHashes, t.up.ownerStates) = (s.up.ownerHashes, s.up.ownerStates)
  | .flashJournal => (t.up.journal, t.up.journalSeq) = (s.up.journal, s.up.journalSeq)
  | .osf => t.osf = s.osf
  | .gate => t.gate = s.gate
  | .ctl => t.ctl = s.ctl
  | .colLast => t.colLast = s.colLast
  | .scr => t.scr = s.scr
  | .mon => t.mon = s.mon
  | .sdiRx => t.sdiRx = s.sdiRx
  | .sdiTx => t.sdiTx = s.sdiTx
  | .ridge => t.ridge = s.ridge
  | .cq => t.cq = s.cq
  | .media => t.media = s.media
  | .ws => t.ws = s.ws
  | .au => t.au = s.au
  | .tarn => t.tarn = s.tarn
  | .sad => t.sad = s.sad
  | .mor => { t.mor with journal := [], journalSeq := 0 } = { s.mor with journal := [], journalSeq := 0 }
  | .diskJournal => (t.mor.journal, t.mor.journalSeq) = (s.mor.journal, s.mor.journalSeq)

/-- What may change: parts, objects by index, registers by address. The part `objs` stands for every object, the part `regs`
for every register. -/
structure Reach where
  parts : List Part
  objs : List Nat
  regs : List Nat
  deriving DecidableEq, Repr

/-- t differs from s in nothing outside the reach r. -/
structure Only (r : Reach) (s t : State) : Prop where
  part : ∀ p, p ∉ r.parts → p ≠ .objs → p ≠ .regs → p.same s t
  obj : Part.objs ∉ r.parts → ∀ a, adrIndex a ∉ r.objs → Objs.val t.objs a = Objs.val s.objs a
  reg : Part.regs ∉ r.parts → ∀ a, a ∉ r.regs → t.reg a = s.reg a

/-- The families of commands. -/
inductive Family where
  /-- Commands of the power supply, resets, the start, the store and the update. -/
  | power
  /-- Commands of sessions and requests. -/
  | session
  /-- Commands of requests for one object. -/
  | object
  /-- Commands of salvos and the house frame boundary. -/
  | salvo
  /-- Commands of SDI ports. -/
  | sdi
  /-- Commands of frame stores and engines. -/
  | picture
  /-- Commands of Cornice. -/
  | audio
  /-- Commands of Tarn ports. -/
  | tarn
  /-- Commands of the media network. -/
  | media
  /-- Commands of Watershed. -/
  | watershed
  /-- Commands of the twin link. -/
  | twin
  /-- Commands of Spur lanes and the Saddle link. -/
  | lane
  /-- Commands of Moraine. -/
  | moraine
  /-- Commands of control ports. -/
  | control
  /-- Commands of Col, Scree, registers, timers and the flash engine. -/
  | bus
  /-- Commands of memory errors, monitors and events. -/
  | monitor
  /-- Commands of the service gate. -/
  | gate
  deriving DecidableEq, Repr

/-- The family of a command. -/
def familyOf : Instr → Family
  | .powerOn _ => .power
  | .resetNAssert _ _ => .power
  | .resetNRelease _ _ => .power
  | .railFault _ _ _ _ => .power
  | .vddAuxLow _ _ => .power
  | .thermalTrip _ _ _ => .power
  | .thermalTripRelease _ _ => .power
  | .romStageEnd _ _ _ => .power
  | .hbmReady _ _ => .power
  | .uplandEntered _ => .power
  | .avsTargetUpdate _ _ => .power
  | .avsStep _ _ => .power
  | .deviceRestartSoft _ _ => .object
  | .softRestartProceed _ => .power
  | .deviceRestartHard _ _ => .object
  | .watchdogExpiry _ => .power
  | .wdtKick _ _ _ => .power
  | .healthMonitorSample _ _ _ _ => .power
  | .healthClear _ _ _ => .object
  | .ilrilHello _ _ _ => .session
  | .ilrilProof _ _ _ _ => .session
  | .challengeExpiry _ _ => .session
  | .lockoutEnd _ _ => .session
  | .lockoutTimeReset _ _ => .session
  | .ilrilClose _ _ => .session
  | .sessionIdleTimeout _ _ => .session
  | .tcpConnectionClose _ _ => .session
  | .ilrilKeepalive _ _ => .session
  | .ilrilRead _ _ _ _ _ _ => .session
  | .ilrilWrite _ _ _ _ _ => .session
  | .ilrilBulkRead _ _ _ => .session
  | .ilrilBulkWrite _ _ _ => .session
  | .ilrilFence _ _ _ => .session
  | .fenceComplete _ _ _ => .session
  | .fenceMissing _ _ _ => .session
  | .notifySend _ _ => .session
  | .notifyResend _ _ => .session
  | .notifyAck _ _ _ => .session
  | .salvoOpen _ _ => .salvo
  | .salvoAdd _ _ _ _ _ _ => .salvo
  | .salvoRemove _ _ _ _ _ => .salvo
  | .salvoClear _ _ _ => .salvo
  | .salvoArm _ _ _ => .salvo
  | .salvoMirrorAck _ _ => .salvo
  | .mirrorTimeout _ _ => .salvo
  | .salvoDisarm _ _ _ => .salvo
  | .salvoDiscard _ _ _ => .salvo
  | .salvoTake _ _ _ _ _ => .salvo
  | .takeMirrorAck _ _ => .salvo
  | .houseFrameBoundary _ => .salvo
  | .sdiSignalDetect _ _ _ => .sdi
  | .sdiRateSearchStep _ _ => .sdi
  | .sdiClockLock _ _ => .sdi
  | .sdiLock _ _ _ _ => .sdi
  | .sdiClockLoss _ _ => .sdi
  | .sdiSignalLoss _ _ _ => .sdi
  | .sdiEavTimeout _ _ _ => .sdi
  | .sdiRasterMismatch _ _ _ _ => .sdi
  | .sdiLineReceived _ _ _ _ => .sdi
  | .sdiEdhField _ _ _ _ _ => .sdi
  | .sdiAudioPacket _ _ _ => .sdi
  | .sdiAudioGroupAbsent _ _ _ => .sdi
  | .sdiAncPacket _ _ _ => .sdi
  | .sdiTxFrameEmit _ _ => .sdi
  | .sdiTxIdleEnd _ _ => .sdi
  | .sourceFrameWrite _ _ _ => .picture
  | .generatorFrameWrite _ _ => .picture
  | .destinationReadStart _ _ => .picture
  | .partialFrame _ _ _ => .picture
  | .engineAlignmentPoint _ _ => .picture
  | .layerGfxOffset _ _ _ _ => .object
  | .layerGfxData _ _ _ _ => .object
  | .layerGfxFlip _ _ _ _ => .object
  | .colShaperData _ _ _ _ => .object
  | .colLutOffset _ _ _ _ => .object
  | .colLutData _ _ _ _ => .object
  | .colTableFlip _ _ _ _ => .object
  | .corniceBlock _ _ => .audio
  | .auInputRate _ _ _ => .audio
  | .tapChangeStart _ _ => .audio
  | .crossfadeEnd _ _ => .audio
  | .meterPeriod _ => .audio
  | .loudnessUpdate _ _ => .audio
  | .meterClear _ _ _ _ _ => .object
  | .tarnEnWrite _ _ _ => .tarn
  | .tarnGo _ _ => .tarn
  | .tarnTrigEdge _ => .tarn
  | .tarnStarted _ => .tarn
  | .tarnFrameStart _ _ _ _ => .tarn
  | .tarnMaskWrite _ _ _ _ _ => .tarn
  | .tarnFsEdge _ _ => .tarn
  | .tarnFsLost _ _ => .tarn
  | .tarnRateMeasure _ _ _ _ => .tarn
  | .tarnRxfifoRead _ _ => .tarn
  | .tarnTxfifoWrite _ _ _ => .tarn
  | .mpFrameReceived _ _ _ => .media
  | .reportRetransmit _ _ _ => .media
  | .packetRelease _ _ => .media
  | .flowLost _ _ => .media
  | .mergePathLost _ _ => .media
  | .mergePathRestored _ _ => .media
  | .ancUnmatched _ _ => .media
  | .pdvSecond _ _ => .media
  | .mpLinkUp _ _ => .media
  | .mpLinkDown _ _ => .media
  | .txPacketDeparture _ _ => .media
  | .txAudioPacket _ _ => .media
  | .txAncPackets _ _ _ => .media
  | .txOpaqueForward _ _ => .media
  | .txResolveRenew _ _ => .media
  | .txUnresolved _ _ => .media
  | .wsEvaluation _ => .watershed
  | .refEdge _ _ _ => .watershed
  | .refFreqMeasure _ _ => .watershed
  | .refLost _ _ _ => .watershed
  | .refSignalBack _ _ => .watershed
  | .refAvailable _ _ => .watershed
  | .ptpAnnounceTimeout _ _ => .watershed
  | .wsLocked _ => .watershed
  | .wsTimeSet _ _ _ => .object
  | .loFault _ _ _ => .watershed
  | .loRestored _ => .watershed
  | .holdoverReady _ => .watershed
  | .holdoverModelSave _ => .watershed
  | .holdoverExpired _ => .watershed
  | .wsHoldoverReset _ _ _ => .object
  | .fpPulseEmit _ _ => .watershed
  | .wsHistoryClear _ _ _ => .object
  | .arbPatternRecognised _ _ _ => .twin
  | .twinStatusSend _ => .twin
  | .twinStatusBlock _ _ => .twin
  | .twinPeerLost _ => .twin
  | .twinPeerFound _ => .twin
  | .twinCopySend _ => .twin
  | .twinCopyReceive _ _ => .twin
  | .twinCopyAck _ => .twin
  | .salvoMirrorReceive _ _ _ _ _ => .twin
  | .takeMirrorReceive _ _ _ => .twin
  | .writeThroughAck _ => .twin
  | .writeThroughTimeout _ => .twin
  | .twinAnnounce _ => .twin
  | .ethPllLock _ _ => .lane
  | .laneAligned _ _ => .lane
  | .laneAlignLost _ _ _ => .lane
  | .saddleAutoSlip _ => .lane
  | .saddleSlip _ _ _ _ => .object
  | .saddleMarker _ _ _ _ _ => .lane
  | .saddleSeed _ _ _ _ => .lane
  | .saddleTrainWord _ _ _ => .lane
  | .saddleTrainStep _ _ _ => .lane
  | .saddleTrainRequest _ _ _ _ => .object
  | .saddleRestart _ _ _ => .object
  | .markerMissing _ _ => .lane
  | .saddleMessage _ _ _ _ => .lane
  | .spurRefLost _ _ => .lane
  | .spurRefRestored _ _ => .lane
  | .octetPllUnlock _ _ _ => .lane
  | .lanePrbsLocked _ _ _ => .lane
  | .lanePrbsLost _ _ _ _ => .lane
  | .morDriveLost _ _ => .moraine
  | .morDriveRetry _ _ => .moraine
  | .morDriveUp _ _ _ _ _ _ _ => .moraine
  | .smartPoll _ _ _ _ => .moraine
  | .nvmeCompletion _ _ _ _ => .moraine
  | .playbackFrameWrite _ _ => .moraine
  | .delayFrameWrite _ _ => .moraine
  | .morFormat _ _ _ => .object
  | .clipDelete _ _ _ _ => .object
  | .morJournalRead _ _ => .object
  | .ctlFrameReceived _ _ _ => .control
  | .ctlTxFrame _ _ => .control
  | .ctlLinkUp _ _ _ => .control
  | .ctlLinkDown _ _ => .control
  | .ctlSpeedCycle _ _ => .control
  | .ctlLoadWindow _ _ _ _ => .control
  | .ctlStepFail _ _ => .control
  | .cmacCtrlWrite _ _ _ => .control
  | .colRequest _ _ _ => .bus
  | .colPortClockStop _ _ => .bus
  | .colFence _ _ => .bus
  | .colApertureRefused _ _ _ => .bus
  | .scrTailWrite _ _ _ => .bus
  | .scrDescriptorStart _ => .bus
  | .scrPeriphRequest _ _ _ => .bus
  | .scrDescriptorComplete _ _ => .bus
  | .scrHalted _ _ _ => .bus
  | .scrStall _ => .bus
  | .scrAbort _ _ _ => .bus
  | .scrClear _ _ => .bus
  | .scrChannelDisable _ _ _ => .bus
  | .memCorrected _ _ => .monitor
  | .memUncorrectable _ _ _ _ => .monitor
  | .memScrubRead _ _ _ _ _ => .monitor
  | .monSample _ _ _ => .monitor
  | .monPeriod _ _ => .monitor
  | .monConfigWrite _ _ _ _ _ => .object
  | .monClear _ _ _ _ => .object
  | .evtPop _ _ => .monitor
  | .evtSwraise _ _ => .monitor
  | .evtPinAck _ _ => .monitor
  | .evtPulseEnd _ _ => .monitor
  | .subscriptionWrite _ _ _ => .object
  | .counterClearWrite _ _ _ _ _ => .object
  | .regCounterClear _ _ _ => .bus
  | .latencyClear _ _ _ _ => .object
  | .phaseHistogramClear _ _ _ => .object
  | .gateVersion _ => .gate
  | .gateHeartbeat _ => .gate
  | .gateRestart _ _ _ => .gate
  | .gateHbmRegion _ => .gate
  | .gateAuthHello _ _ _ _ => .gate
  | .gateAuthProof _ _ _ _ _ => .gate
  | .gateMsgOpen _ _ _ => .gate
  | .gateMsgSeal _ _ _ => .gate
  | .gateSessionEnd _ _ _ => .gate
  | .gateCeSubmit _ _ _ _ => .gate
  | .gateCeRead _ _ _ _ => .gate
  | .gateKeyWrite _ _ _ _ _ => .gate
  | .gateOwnerLock _ _ _ => .gate
  | .gateOtpProgram _ _ _ _ => .gate
  | .gateOtpRevoke _ _ _ => .gate
  | .gateStoreLoad _ _ => .gate
  | .gateStoreSave _ _ => .gate
  | .gateTwinPut _ _ => .gate
  | .gateTwinGet _ _ => .gate
  | .gateCrypto _ _ _ _ _ => .gate
  | .gateUpdate _ _ _ _ => .gate
  | .gateDone _ _ => .gate
  | .interruptForward _ _ => .bus
  | .cacheClean _ _ => .bus
  | .cacheInval _ _ => .bus
  | .cacheCleanInval _ _ => .bus
  | .uplandFault _ _ _ _ => .power
  | .uplandHeartbeatLate _ => .power
  | .heartbeatTimeout _ => .power
  | .tmwTimerExpiry _ _ => .bus
  | .tmwAlarmArm _ _ => .bus
  | .tmwAlarmFire _ => .bus
  | .tmwPtpLatch _ => .bus
  | .tarnFcntLatch _ _ => .tarn
  | .registerWrite _ _ _ _ => .bus
  | .roleKeyChanged _ _ _ _ => .object
  | .lockoutClear _ _ _ => .object
  | .ownerLockChange _ _ _ => .object
  | .ownerKeyProgram _ _ _ => .object
  | .ownerKeyRevoke _ _ _ => .object
  | .storeSaveStart _ => .power
  | .storeSaved _ _ => .power
  | .storeSaveNow _ _ _ => .object
  | .updateBegin _ _ _ => .object
  | .updateData _ _ _ => .object
  | .updateCommit _ _ _ => .object
  | .updateActivate _ _ _ => .object
  | .updateAbort _ _ _ => .object
  | .healthConfirm _ _ _ => .object
  | .updateNotConfirmed _ => .power
  | .osfRead _ => .bus
  | .osfProgram _ => .bus
  | .osfErase4k _ => .bus
  | .osfErase64k _ => .bus
  | .osfDone _ _ => .bus
  | .octetPllLock _ _ _ => .lane
  | .laneClockLockLost _ _ => .lane
  | .laneCdrLocked _ _ => .lane
  | .ctlTxFrameWait _ _ _ => .control

/-- The reach of a command that raises no event: its output and time change at every command. -/
def quiet (parts : List Part) (objs regs : List Nat) : Reach := ⟨.out :: .now :: .tc :: parts, objs, regs⟩

/-- The reach of a command that may raise events: their objects, their FIFO with its registers, their pins and both journals. -/
def loud (parts : List Part) (objs regs : List Nat) : Reach :=
  ⟨.out :: .now :: .tc :: .pinned :: .ev :: .flashJournal :: .diskJournal :: parts,
    Obj.eventCount :: Obj.eventLastAt :: Obj.eventLastSubject :: objs, 0x40000004 :: 0x40000008 :: regs⟩

/-- The reach of a command that may restart the device, or start requests that do: every part but some. -/
def wide (kept : List Part) : Reach := ⟨Part.all.filter fun p => !kept.contains p, [], []⟩

/-- What commands of the power supply, resets, the start, the store and the update may change. -/
def framePower : Instr → Reach
  | .powerOn .. => wide [.pending, .fresh, .flash, .rollback, .owners, .flashJournal]
  | .resetNAssert .. => wide [.pending, .flash, .rollback, .owners, .flashJournal]
  | .resetNRelease .. => quiet [.boot] [] []
  | .railFault .. => wide [.pending, .fresh, .flash, .rollback, .owners, .flashJournal]
  | .vddAuxLow .. => wide [.pending, .fresh, .flash, .rollback, .owners, .flashJournal]
  | .thermalTrip .. => wide [.pending, .fresh, .flash, .rollback, .owners, .flashJournal]
  | .thermalTripRelease .. => quiet [.boot] [] []
  | .romStageEnd .. => wide [.pending, .fresh, .flash]
  | .hbmReady .. => wide [.pending, .fresh, .flash, .rollback, .owners]
  | .uplandEntered .. => wide [.pending, .fresh, .flash, .rollback, .owners]
  | .avsTargetUpdate .. => quiet [.boot] [] []
  | .avsStep .. => quiet [.boot] [] []
  | .softRestartProceed .. =>
    loud [.regs, .mem, .boot, .ctlUp, .sessions, .challenges, .lockouts, .roleKeys, .salvos, .engine, .st, .update,
      .gate, .ctl, .scr, .media, .frameWrites, .tw] [Obj.storeLastSavedAt, Obj.storeGeneration, Obj.healthReasons,
      Obj.healthState, Obj.updateState, Obj.rxFlowState, Obj.txFlowState, Obj.portTxBytesB, Obj.portTxBytes,
      Obj.portTxFramesB, Obj.portTxFrames] []
  | .watchdogExpiry .. => wide [.pending, .fresh, .flash, .rollback, .owners, .flashJournal]
  | .wdtKick .. => quiet [.boot] [] []
  | .healthMonitorSample .. =>
    loud [.boot] [Obj.junctionTempMax, Obj.junctionTemp, Obj.supplyMargin, Obj.healthReasons, Obj.healthState] []
  | .uplandFault .. => wide [.pending, .fresh, .flash, .rollback, .owners]
  | .uplandHeartbeatLate .. => loud [.boot] [] []
  | .heartbeatTimeout .. => wide [.pending, .fresh, .flash, .rollback, .owners]
  | .storeSaveStart .. => quiet [.st] [] []
  | .storeSaved .. => wide [.pending]
  | .updateNotConfirmed .. => wide [.pending, .fresh, .flash, .rollback, .owners]
  | _ => quiet [] [] []

/-- What commands of sessions and requests may change. -/
def frameSession : Instr → Reach
  | .ilrilHello .. => loud [.fresh, .challenges] [Obj.dropFragment, Obj.dropMagic, Obj.dropLength] []
  | .ilrilProof .. =>
    loud [.fresh, .sessions, .challenges, .lockouts] [Obj.dropFragment, Obj.dropMagic, Obj.dropLength, Obj.dropVersion,
      Obj.authFailures] []
  | .challengeExpiry .. => quiet [.challenges] [] []
  | .lockoutEnd .. => quiet [.lockouts] [] []
  | .lockoutTimeReset .. => quiet [.lockouts] [] []
  | .ilrilClose .. => wide [.pending]
  | .sessionIdleTimeout .. =>
    loud [.sessions, .salvos, .engine, .update, .gate, .media] [Obj.updateState, Obj.rxFlowState, Obj.txFlowState,
      Obj.portTxBytesB, Obj.portTxBytes, Obj.portTxFramesB, Obj.portTxFrames] [0x40080014]
  | .tcpConnectionClose .. =>
    loud [.sessions, .salvos, .engine, .update, .gate, .media] [Obj.updateState, Obj.rxFlowState, Obj.txFlowState,
      Obj.portTxBytesB, Obj.portTxBytes, Obj.portTxFramesB, Obj.portTxFrames] [0x40080014]
  | .ilrilKeepalive .. => wide [.pending]
  | .ilrilRead .. => wide [.pending]
  | .ilrilWrite .. => wide [.pending]
  | .ilrilBulkRead .. => wide [.pending]
  | .ilrilBulkWrite .. => wide [.pending]
  | .ilrilFence .. => wide [.pending]
  | .fenceComplete .. => wide [.pending]
  | .fenceMissing .. => quiet [.sessions] [] []
  | .notifySend .. => loud [.sessions] [] []
  | .notifyResend .. => quiet [.sessions] [] []
  | .notifyAck .. => loud [.objs, .regs, .sessions] [] []
  | _ => quiet [] [] []

/-- What commands of requests for one object may change. -/
def frameObject : Instr → Reach
  | .deviceRestartSoft .. => wide [.pending]
  | .deviceRestartHard .. => wide [.pending]
  | .healthClear .. => wide [.pending]
  | .layerGfxOffset .. => wide [.pending]
  | .layerGfxData .. => wide [.pending]
  | .layerGfxFlip .. => wide [.pending]
  | .colShaperData .. => wide [.pending]
  | .colLutOffset .. => wide [.pending]
  | .colLutData .. => wide [.pending]
  | .colTableFlip .. => wide [.pending]
  | .meterClear .. => wide [.pending]
  | .wsTimeSet .. => wide [.pending]
  | .wsHoldoverReset .. => wide [.pending]
  | .wsHistoryClear .. => wide [.pending]
  | .saddleSlip .. => wide [.pending]
  | .saddleTrainRequest .. => wide [.pending]
  | .saddleRestart .. => wide [.pending]
  | .morFormat .. => wide [.pending]
  | .clipDelete .. => wide [.pending]
  | .morJournalRead .. => wide [.pending]
  | .monConfigWrite .. => wide [.pending]
  | .monClear .. => wide [.pending]
  | .subscriptionWrite .. => wide [.pending]
  | .counterClearWrite .. => wide [.pending]
  | .latencyClear .. => wide [.pending]
  | .phaseHistogramClear .. => wide [.pending]
  | .roleKeyChanged .. => wide [.pending]
  | .lockoutClear .. => wide [.pending]
  | .ownerLockChange .. => wide [.pending]
  | .ownerKeyProgram .. => wide [.pending]
  | .ownerKeyRevoke .. => wide [.pending]
  | .storeSaveNow .. => wide [.pending]
  | .updateBegin .. => wide [.pending]
  | .updateData .. => wide [.pending]
  | .updateCommit .. => wide [.pending]
  | .updateActivate .. => wide [.pending]
  | .updateAbort .. => wide [.pending]
  | .healthConfirm .. => wide [.pending]
  | _ => quiet [] [] []

/-- What commands of salvos and the house frame boundary may change. -/
def frameSalvo : Instr → Reach
  | .salvoOpen .. => wide [.pending]
  | .salvoAdd .. => wide [.pending]
  | .salvoRemove .. => wide [.pending]
  | .salvoClear .. => wide [.pending]
  | .salvoArm .. => wide [.pending]
  | .salvoMirrorAck .. =>
    loud [.mem, .sessions, .salvos, .engine, .gate, .media] [Obj.staleTakes, Obj.rxFlowState, Obj.txFlowState,
      Obj.portTxBytesB, Obj.portTxBytes, Obj.portTxFramesB, Obj.portTxFrames, Obj.orderConflicts, Obj.armRefusals] []
  | .mirrorTimeout .. =>
    loud [.fresh, .mem, .sessions, .salvos, .engine, .tw, .gate, .media] [Obj.staleTakes, Obj.rxFlowState,
      Obj.txFlowState, Obj.portTxBytesB, Obj.portTxBytes, Obj.portTxFramesB, Obj.portTxFrames, Obj.orderConflicts,
      Obj.armRefusals, Obj.twinNotReady, Obj.twinReadiness, Obj.twinCopyStale, Obj.twinResyncProgress, Obj.twinHealth] []
  | .salvoDisarm .. => wide [.pending]
  | .salvoDiscard .. => wide [.pending]
  | .salvoTake .. => wide [.pending]
  | .takeMirrorAck .. =>
    loud [.mem, .sessions, .salvos, .engine, .gate, .media] [Obj.staleTakes, Obj.rxFlowState, Obj.txFlowState,
      Obj.portTxBytesB, Obj.portTxBytes, Obj.portTxFramesB, Obj.portTxFrames, Obj.orderConflicts, Obj.armRefusals] []
  | .houseFrameBoundary .. =>
    wide [.pending, .flash, .ctlUp, .challenges, .lockouts, .roleKeys, .restartWrites, .st, .update, .rollback, .owners,
      .osf, .ctl, .colLast, .scr, .mon, .sdiTx, .ws, .tarn, .sad]
  | _ => quiet [] [] []

/-- What commands of SDI ports may change. -/
def frameSdi : Instr → Reach
  | .sdiSignalDetect .. => quiet [.sdiRx] [Obj.rxState] []
  | .sdiRateSearchStep .. => quiet [.sdiRx] [] []
  | .sdiClockLock .. => quiet [] [Obj.rxRate, Obj.rxState] []
  | .sdiLock .. =>
    loud [.sdiRx, .ridge] [Obj.rxState, Obj.rxPayloadId, Obj.embPayloadId, Obj.rxFormat, Obj.embFormat, Obj.rxStructure,
      Obj.embStructure, Obj.srcFeedKind, Obj.srcState, Obj.srcReservationStatus, Obj.srcFramesAbandoned, Obj.srcColourLive]
      []
  | .sdiClockLoss .. =>
    loud [.sdiRx, .ridge] [Obj.rxState, Obj.rxRate, Obj.srcFeedKind, Obj.srcState, Obj.srcReservationStatus,
      Obj.srcFramesAbandoned, Obj.srcColourLive, Obj.rxStructure, Obj.rxPayloadId, Obj.rxFormat] []
  | .sdiSignalLoss .. =>
    loud [.sdiRx, .ridge] [Obj.rxState, Obj.rxRate, Obj.srcFeedKind, Obj.srcState, Obj.srcReservationStatus,
      Obj.srcFramesAbandoned, Obj.srcColourLive, Obj.rxStructure, Obj.rxPayloadId, Obj.rxFormat] []
  | .sdiEavTimeout .. =>
    loud [.sdiRx, .ridge] [Obj.rxState, Obj.rxRate, Obj.srcFeedKind, Obj.srcState, Obj.srcReservationStatus,
      Obj.srcFramesAbandoned, Obj.srcColourLive, Obj.rxStructure, Obj.rxPayloadId, Obj.rxFormat] []
  | .sdiRasterMismatch .. =>
    loud [.sdiRx, .ridge, .media] [Obj.rxState, Obj.rxRate, Obj.srcFeedKind, Obj.srcState, Obj.srcReservationStatus,
      Obj.srcFramesAbandoned, Obj.srcColourLive, Obj.rxStructure, Obj.rxPayloadId, Obj.rxFormat, Obj.embFormat,
      Obj.embPayloadId, Obj.embStructure] []
  | .sdiLineReceived .. =>
    loud [.sdiRx, .ridge] [Obj.rxCrcErrLines, Obj.embCrcErrLines, Obj.rxQuadSkew, Obj.srcFeedKind, Obj.srcState,
      Obj.srcReservationStatus, Obj.srcFramesAbandoned, Obj.srcColourLive, Obj.rxFormat, Obj.embFormat, Obj.rxStructure,
      Obj.embStructure, Obj.rxPayloadId, Obj.embPayloadId] []
  | .sdiEdhField .. =>
    loud [] [Obj.rxEdhFlags, Obj.embEdhFlags, Obj.rxEdhApErrFields, Obj.embEdhApErrFields, Obj.rxEdhFfErrFields,
      Obj.embEdhFfErrFields] []
  | .sdiAudioPacket .. =>
    loud [.sdiRx, .au] [Obj.rxAudioPresent, Obj.embAudioPresent, Obj.aiNonAudio, Obj.rxAudioEccCorrected,
      Obj.embAudioEccCorrected, Obj.rxAudioUncorrectable, Obj.embAudioUncorrectable] []
  | .sdiAudioGroupAbsent .. => loud [.sdiRx] [Obj.rxAudioPresent, Obj.embAudioPresent] []
  | .sdiAncPacket .. =>
    loud [.sdiRx, .ridge, .media, .mor] [Obj.rxAncChecksumErr, Obj.embAncChecksumErr, Obj.rxAncOverflow,
      Obj.embAncOverflow, Obj.sdiTxAncDropped, Obj.dlyStored, Obj.txAncDropped] []
  | .sdiTxFrameEmit .. =>
    loud [.fresh, .sdiTx, .ridge, .au] [Obj.txDriverMode, Obj.txState, Obj.txRate, Obj.txPayloadId, Obj.txFormat,
      Obj.sdiTxAncDropped, Obj.aoBindState, Obj.aoLipSyncError, Obj.routeOnAir, Obj.originKind, Obj.stageBreakdown,
      Obj.latencyLast, Obj.latencyMin, Obj.latencyMax] []
  | .sdiTxIdleEnd .. => quiet [.sdiTx] [Obj.txState] []
  | _ => quiet [] [] []

/-- What commands of frame stores and engines may change. -/
def framePicture : Instr → Reach
  | .sourceFrameWrite .. =>
    loud [.sdiRx, .ridge] [Obj.rxStructure, Obj.rxPayloadId, Obj.embStructure, Obj.embPayloadId, Obj.rxFormat,
      Obj.srcFeedKind, Obj.srcState, Obj.srcReservationStatus, Obj.srcFramesAbandoned, Obj.srcColourLive, Obj.embFormat,
      Obj.srcFramesWritten, Obj.srcLiveFormat] []
  | .generatorFrameWrite .. =>
    loud [.ridge] [Obj.srcFeedKind, Obj.srcState, Obj.srcReservationStatus, Obj.srcFramesAbandoned, Obj.srcColourLive,
      Obj.srcFramesWritten, Obj.srcLiveFormat] []
  | .destinationReadStart .. =>
    loud [.fresh, .ridge, .mor] [Obj.dstColourInForce, Obj.dstLossFrames, Obj.dstState, Obj.dstModeInForce,
      Obj.srcFramesWritten, Obj.srcLiveFormat, Obj.srcFeedKind, Obj.srcState, Obj.srcReservationStatus,
      Obj.srcFramesAbandoned, Obj.srcColourLive, Obj.dstTimingError, Obj.dstRepeats, Obj.dstDrops, Obj.dstFormatLive,
      Obj.recLateFrames, Obj.recState, Obj.routeOnAir, Obj.originKind, Obj.stageBreakdown, Obj.latencyLast, Obj.latencyMin,
      Obj.latencyMax, Obj.dlyLateFrames, Obj.dlyStored] []
  | .partialFrame .. => loud [.ridge, .media, .mor] [Obj.dstPartialFrames, Obj.dlyStored] []
  | .engineAlignmentPoint .. =>
    loud [.fresh, .ridge, .cq] [Obj.cqFormat, Obj.cqState, Obj.cqFirnState, Obj.cqFirnRebuilds, Obj.layerState,
      Obj.dstColourInForce, Obj.dstModeInForce, Obj.layerNotReadyFrames, Obj.dstLossFrames, Obj.dstState, Obj.srcFramesWritten,
      Obj.srcLiveFormat, Obj.srcFeedKind, Obj.srcState, Obj.srcReservationStatus, Obj.srcFramesAbandoned, Obj.srcColourLive,
      Obj.routeOnAir, Obj.originKind, Obj.stageBreakdown, Obj.latencyLast, Obj.latencyMin, Obj.latencyMax, Obj.dstRepeats,
      Obj.dstDrops, Obj.dstFormatLive, Obj.layerGfxComplete, Obj.colStageState, Obj.colStageOut, Obj.colStageIn,
      Obj.cqFramesOut, Obj.cqDiscardedFrames, Obj.layerStepX, Obj.layerStepY, Obj.layerTapsInForce] []
  | _ => quiet [] [] []

/-- What commands of Cornice may change. -/
def frameAudio : Instr → Reach
  | .corniceBlock .. =>
    loud [.fresh, .au] [Obj.busClipSamples, Obj.aoClipSamples, Obj.aoPathInForce, Obj.aoBindDelay, Obj.aoTapsDeferred]
      []
  | .auInputRate .. => loud [.au] [Obj.aiConverter, Obj.aiRateDeviation] []
  | .tapChangeStart .. =>
    loud [.au, .fresh] [Obj.aoTapsDeferred, Obj.aoPathInForce, Obj.aoBindDelay, Obj.aoClipSamples] []
  | .crossfadeEnd .. =>
    loud [.au, .fresh] [Obj.aoPathInForce, Obj.aoBindDelay, Obj.aoTapsDeferred, Obj.aoClipSamples] []
  | .meterPeriod .. =>
    quiet [.au, .fresh] [Obj.aiPeakHold, Obj.aiPeak, Obj.busTruePeakMax, Obj.busPeakHold, Obj.busPeak, Obj.aoTruePeakMax,
      Obj.aoPeakHold, Obj.aoPeak, Obj.aoOriginKind, Obj.aoLatencyLast] []
  | .loudnessUpdate .. => loud [.au] [Obj.loudShortTerm, Obj.loudShortTermMax] []
  | _ => quiet [] [] []

/-- What commands of Tarn ports may change. -/
def frameTarn : Instr → Reach
  | .tarnEnWrite .. => loud [.regs, .tarn] [] []
  | .tarnGo .. => quiet [.tarn] [] [0x40050008]
  | .tarnTrigEdge .. => quiet [.tarn] [] []
  | .tarnStarted .. => loud [.regs, .tarn] [] []
  | .tarnFrameStart .. =>
    loud [.fresh, .regs, .au, .tarn] [Obj.aoPathInForce, Obj.aoBindDelay, Obj.aoTapsDeferred, Obj.aoClipSamples] []
  | .tarnMaskWrite .. => quiet [.regs, .tarn] [] []
  | .tarnFsEdge .. => loud [.regs, .tarn] [] []
  | .tarnFsLost .. => loud [.regs, .tarn] [] []
  | .tarnRateMeasure .. => loud [.regs, .tarn] [] []
  | .tarnRxfifoRead .. => loud [.regs, .tarn] [] []
  | .tarnTxfifoWrite .. => loud [.regs, .tarn] [] []
  | .tarnFcntLatch .. => quiet [.regs] [] []
  | _ => quiet [] [] []

/-- What commands of the media network may change. -/
def frameMedia : Instr → Reach
  | .mpFrameReceived .. =>
    loud [.sdiRx, .ridge, .media, .ws] [Obj.portRxDropBadB, Obj.portRxDropBad, Obj.portRxBytesB, Obj.portRxBytes,
      Obj.portRxFramesB, Obj.portRxFrames, Obj.rxForeign, Obj.rxFlowState, Obj.embStructure, Obj.embPayloadId,
      Obj.embFormat, Obj.srcFeedKind, Obj.srcState, Obj.srcReservationStatus, Obj.srcFramesAbandoned,
      Obj.srcColourLive, Obj.rxPackets, Obj.rxOutOfOrder, Obj.rxSkewMax, Obj.rxSkewMin, Obj.rxLatePackets,
      Obj.rxDuplicates, Obj.rxBufferOverrun, Obj.rxPeakOccupancy, Obj.portRxDropNoFlowB, Obj.portRxDropNoFlow,
      Obj.portTxBytesB, Obj.portTxBytes, Obj.portTxFramesB, Obj.portTxFrames, Obj.txFlowState, Obj.portQuerierB,
      Obj.portQuerier, Obj.ptpClockClass, Obj.ptpGmIdentity, Obj.ptpState, Obj.refState, Obj.refLosses,
      Obj.refHistory, Obj.fpState, Obj.refQlInForce, Obj.ptpMeanPathDelay, Obj.ptpOffsetFromMaster, Obj.refPhaseDiff,
      Obj.rxAncUnmatched, Obj.wsState, Obj.wsHistory, Obj.wsFreqCorrection] []
  | .reportRetransmit .. => loud [.media] [Obj.portTxBytesB, Obj.portTxBytes, Obj.portTxFramesB, Obj.portTxFrames] []
  | .packetRelease .. =>
    loud [.sdiRx, .ridge, .media, .au, .mor] [Obj.rxPathLost, Obj.rxLostPackets, Obj.srcFramesWritten,
      Obj.srcLiveFormat, Obj.rxConcealedFrames, Obj.rxAbandonedFrames, Obj.srcFramesAbandoned, Obj.rxFlowState,
      Obj.embStructure, Obj.embPayloadId, Obj.embFormat, Obj.srcFeedKind, Obj.srcState, Obj.srcReservationStatus,
      Obj.srcColourLive, Obj.rxGeometryErr, Obj.aiNonAudio, Obj.rxAncUnmatched, Obj.sdiTxAncDropped, Obj.rxFormat,
      Obj.rxStructure, Obj.rxPayloadId, Obj.dlyStored, Obj.txAncDropped] []
  | .flowLost .. =>
    loud [.sdiRx, .ridge, .media] [Obj.rxFlowState, Obj.embStructure, Obj.embPayloadId, Obj.embFormat, Obj.srcFeedKind,
      Obj.srcState, Obj.srcReservationStatus, Obj.srcFramesAbandoned, Obj.srcColourLive, Obj.rxPdvHistogram] []
  | .mergePathLost .. => loud [.media] [] []
  | .mergePathRestored .. => loud [.media] [] []
  | .ancUnmatched .. => loud [.media] [Obj.rxAncUnmatched] []
  | .pdvSecond .. => loud [.media] [Obj.rxPdvHistogram, Obj.rxPdvMax] []
  | .mpLinkUp .. =>
    loud [.media] [Obj.txFlowState, Obj.portLinkStateB, Obj.portLinkState, Obj.portTxFramesB, Obj.portTxFrames,
      Obj.portTxBytesB, Obj.portTxBytes] []
  | .mpLinkDown .. =>
    loud [.media] [Obj.txFlowState, Obj.portLinkStateB, Obj.portLinkState, Obj.portTxFramesB, Obj.portTxFrames,
      Obj.portTxBytesB, Obj.portTxBytes] []
  | .txPacketDeparture .. => loud [.fresh, .objs, .ridge, .media, .au] [] []
  | .txAudioPacket .. => loud [.objs, .media, .fresh, .au] [] []
  | .txAncPackets .. => loud [.objs, .media] [] []
  | .txOpaqueForward .. => loud [.media, .objs] [] []
  | .txResolveRenew .. => loud [.media] [Obj.portTxBytesB, Obj.portTxBytes, Obj.portTxFramesB, Obj.portTxFrames] []
  | .txUnresolved .. => loud [.media] [] []
  | _ => quiet [] [] []

/-- What commands of Watershed may change. -/
def frameWatershed : Instr → Reach
  | .wsEvaluation .. =>
    loud [.engine, .ws, .tarn] [Obj.wsState, Obj.wsHistory, Obj.wsFreqCorrection, Obj.wsRefSwitches,
      Obj.wsSelectedRef, Obj.refPhaseDiff] []
  | .refEdge .. =>
    loud [.ws] [Obj.refHistory, Obj.refInvalidPulses, Obj.refPhaseDiff, Obj.refQlInForce, Obj.refState, Obj.refLosses,
      Obj.fpState, Obj.wsState, Obj.wsHistory, Obj.wsFreqCorrection] []
  | .refFreqMeasure .. =>
    loud [.ws] [Obj.refFreqDiff, Obj.wsPhaseHistogram, Obj.wsHoldoverLearned, Obj.refHistory, Obj.wsHistory,
      Obj.wsFreqCorrection] []
  | .refLost .. => loud [.ws] [Obj.refHistory, Obj.refState, Obj.refLosses, Obj.fpState] []
  | .refSignalBack .. => loud [.ws] [Obj.refState, Obj.refLosses, Obj.refHistory, Obj.fpState] []
  | .refAvailable .. => loud [.ws] [Obj.refState, Obj.refLosses, Obj.refHistory, Obj.fpState] []
  | .ptpAnnounceTimeout .. =>
    loud [.ws] [Obj.ptpClockClass, Obj.ptpGmIdentity, Obj.ptpState, Obj.refQlInForce, Obj.refHistory, Obj.refState,
      Obj.refLosses, Obj.fpState] []
  | .wsLocked .. => loud [.ws] [Obj.wsState, Obj.wsHistory, Obj.wsFreqCorrection] []
  | .loFault .. => loud [.st, .ws] [Obj.healthReasons, Obj.healthState, Obj.wsHistory, Obj.wsHoldoverLearned, Obj.wsLoState] []
  | .loRestored .. => loud [] [Obj.healthReasons, Obj.healthState, Obj.wsLoState] []
  | .holdoverReady .. => loud [.ws] [] []
  | .holdoverModelSave .. => quiet [.st, .ws] [] []
  | .holdoverExpired .. => loud [.ws] [Obj.wsHistory] []
  | .fpPulseEmit .. => quiet [.ws] [] []
  | _ => quiet [] [] []

/-- What commands of the twin link may change. -/
def frameTwin : Instr → Reach
  | .arbPatternRecognised .. => loud [.tw] [Obj.twinArbPattern] []
  | .twinStatusSend .. =>
    loud [.tw] [Obj.twinNotReady, Obj.twinReadiness, Obj.twinCopyStale, Obj.twinResyncProgress, Obj.twinHealth] []
  | .twinStatusBlock .. =>
    loud [.fresh, .tw] [Obj.twinPeerPattern, Obj.twinPeerRole, Obj.twinPeerOffset, Obj.twinNotReady, Obj.twinReadiness,
      Obj.twinCopyStale, Obj.twinResyncProgress, Obj.twinHealth] []
  | .twinPeerLost .. =>
    loud [.tw] [Obj.twinPeerPattern, Obj.twinPeerRole, Obj.twinLinkState, Obj.twinNotReady, Obj.twinReadiness,
      Obj.twinCopyStale, Obj.twinResyncProgress, Obj.twinHealth] []
  | .twinPeerFound .. =>
    loud [.fresh, .tw] [Obj.twinPeerPattern, Obj.twinPeerRole, Obj.twinLinkState, Obj.twinNotReady, Obj.twinReadiness,
      Obj.twinCopyStale, Obj.twinResyncProgress, Obj.twinHealth] []
  | .twinCopySend .. =>
    loud [.tw] [Obj.twinNotReady, Obj.twinReadiness, Obj.twinCopyStale, Obj.twinResyncProgress, Obj.twinHealth] []
  | .twinCopyReceive .. =>
    wide [.pending, .mem, .flash, .boot, .ctlUp, .sessions, .challenges, .roleKeys, .owners, .osf, .gate, .colLast, .scr,
      .sdiTx]
  | .twinCopyAck .. =>
    loud [.tw, .salvos] [Obj.twinLastCopyAt, Obj.twinResyncProgress, Obj.twinNotReady, Obj.twinReadiness,
      Obj.twinCopyStale, Obj.twinHealth] []
  | .salvoMirrorReceive .. => quiet [.salvos] [] []
  | .takeMirrorReceive .. => quiet [.salvos, .engine] [] []
  | .writeThroughAck .. => wide [.pending]
  | .writeThroughTimeout .. => wide [.pending]
  | .twinAnnounce .. => loud [.tw] [Obj.portTxBytesB, Obj.portTxBytes, Obj.portTxFramesB, Obj.portTxFrames] []
  | _ => quiet [] [] []

/-- What commands of Spur lanes and the Saddle link may change. -/
def frameLane : Instr → Reach
  | .ethPllLock .. => loud [.sad] [Obj.octetPllState, Obj.saddleState, Obj.saddleDownCount] []
  | .laneAligned .. => loud [.sad] [Obj.laneState, Obj.saddleState, Obj.saddleDownCount] []
  | .laneAlignLost .. => loud [.sad] [Obj.laneHdrErrors, Obj.laneState, Obj.saddleState, Obj.saddleDownCount] []
  | .saddleAutoSlip .. => loud [.sad] [Obj.saddleState, Obj.saddleDownCount, Obj.laneState] []
  | .saddleMarker .. =>
    loud [.sad] [Obj.laneHdrErrors, Obj.laneRxPolarityFound, Obj.saddleState, Obj.saddleDownCount, Obj.saddleSkew,
      Obj.saddleLaneOrder, Obj.laneStuffErrors] []
  | .saddleSeed .. =>
    loud [.sad] [Obj.laneHdrErrors, Obj.saddleSeedMismatch, Obj.saddleState, Obj.saddleDownCount, Obj.laneStuffErrors] []
  | .saddleTrainWord .. =>
    loud [.sad] [Obj.laneHdrErrors, Obj.laneTxMain, Obj.laneTxPostInForce, Obj.laneTxPreInForce, Obj.saddleState,
      Obj.saddleDownCount, Obj.laneStuffErrors] []
  | .saddleTrainStep .. => loud [.sad] [Obj.laneEyeHeight, Obj.saddleState, Obj.saddleDownCount] []
  | .markerMissing .. => loud [.sad] [Obj.saddleState, Obj.saddleDownCount] []
  | .saddleMessage .. =>
    wide [.pending, .mem, .flash, .boot, .ctlUp, .sessions, .challenges, .roleKeys, .salvos, .tw, .owners, .osf, .gate, .colLast,
      .scr, .sdiTx]
  | .spurRefLost .. => loud [] [Obj.octetPllState, Obj.healthReasons, Obj.healthState, Obj.spurRefState] []
  | .spurRefRestored .. => loud [] [Obj.octetPllState, Obj.spurRefState, Obj.healthReasons, Obj.healthState] []
  | .octetPllUnlock .. =>
    loud [.sad, .media] [Obj.octetPllState, Obj.txFlowState, Obj.portLinkStateB, Obj.portLinkState, Obj.saddleState,
      Obj.saddleDownCount, Obj.txDriverMode, Obj.txState, Obj.portTxFramesB, Obj.portTxFrames, Obj.portTxBytesB,
      Obj.portTxBytes] []
  | .lanePrbsLocked .. => loud [] [Obj.lanePrbsState] []
  | .lanePrbsLost .. => loud [] [Obj.lanePrbsErrors, Obj.lanePrbsBits, Obj.lanePrbsLosses, Obj.lanePrbsState] []
  | .octetPllLock .. => loud [.sad] [Obj.octetPllState, Obj.saddleState, Obj.saddleDownCount] []
  | .laneClockLockLost .. => loud [.sad] [Obj.laneState, Obj.saddleState, Obj.saddleDownCount] []
  | .laneCdrLocked .. => quiet [] [Obj.laneState] []
  | _ => quiet [] [] []

/-- What commands of Moraine may change. -/
def frameMoraine : Instr → Reach
  | .morDriveLost .. =>
    loud [.ridge, .mor] [Obj.morDriveLink, Obj.morDriveState, Obj.morPoolState, Obj.morPoolExtents, Obj.recState,
      Obj.srcFeedKind, Obj.srcState, Obj.srcReservationStatus, Obj.srcFramesAbandoned, Obj.srcColourLive, Obj.dlyStored,
      Obj.healthReasons, Obj.healthState] []
  | .morDriveRetry .. => quiet [.mor] [] []
  | .morDriveUp .. =>
    loud [.ridge, .mor] [Obj.morDriveCapacity, Obj.morDriveLink, Obj.morDriveState, Obj.morPoolState, Obj.morPoolExtents,
      Obj.recState, Obj.srcFeedKind, Obj.srcState, Obj.srcReservationStatus, Obj.srcFramesAbandoned, Obj.srcColourLive,
      Obj.dlyStored, Obj.healthReasons, Obj.healthState] []
  | .smartPoll .. => loud [.mor] [Obj.morDriveHealth] []
  | .nvmeCompletion .. =>
    loud [.ridge, .mor] [Obj.morMediaErrors, Obj.recState, Obj.dlyStored, Obj.morDriveLink, Obj.morDriveState,
      Obj.morPoolState, Obj.morPoolExtents, Obj.srcFeedKind, Obj.srcState, Obj.srcReservationStatus, Obj.srcFramesAbandoned,
      Obj.srcColourLive, Obj.healthReasons, Obj.healthState] []
  | .playbackFrameWrite .. =>
    loud [.ridge, .mor] [Obj.srcFramesAbandoned, Obj.srcFramesWritten, Obj.srcLiveFormat, Obj.srcFeedKind, Obj.srcState,
      Obj.srcReservationStatus, Obj.srcColourLive, Obj.playPosition, Obj.playLateFrames] []
  | .delayFrameWrite .. =>
    loud [.ridge, .mor] [Obj.srcFeedKind, Obj.srcState, Obj.srcReservationStatus, Obj.srcFramesAbandoned,
      Obj.srcColourLive, Obj.dlyStored, Obj.srcFramesWritten, Obj.srcLiveFormat, Obj.dlyLateFrames] []
  | _ => quiet [] [] []

/-- What commands of control ports may change. -/
def frameControl : Instr → Reach
  | .ctlFrameReceived .. => loud [.regs, .mem] [] []
  | .ctlTxFrame .. => loud [.regs, .mem] [] []
  | .ctlLinkUp .. => loud [.regs, .ctl] [] []
  | .ctlLinkDown .. => loud [.regs, .ctl] [] []
  | .ctlSpeedCycle .. => quiet [.ctl] [] []
  | .ctlLoadWindow .. => loud [.regs, .ctl] [] []
  | .ctlStepFail .. => loud [.regs, .ctl] [] []
  | .cmacCtrlWrite .. => loud [.regs, .ctl] [] []
  | .ctlTxFrameWait .. => loud [.regs, .ctl] [] []
  | _ => quiet [] [] []

/-- What commands of Col, Scree, registers, timers and the flash engine may change. -/
def frameBus : Instr → Reach
  | .colRequest .. => wide [.pending, .flash, .rollback, .owners]
  | .colPortClockStop .. => quiet [] [] [0x40020004]
  | .colFence .. => quiet [] [] []
  | .colApertureRefused .. => loud [] [] [0x40020030, 0x40020050, 0x40020034]
  | .scrTailWrite .. => quiet [.regs] [] []
  | .scrDescriptorStart .. => loud [.fresh, .regs, .mem, .boot, .sessions, .osf, .gate, .ctl, .scr, .tarn] [Obj.colRefused] []
  | .scrPeriphRequest .. => loud [.fresh, .regs, .mem, .boot, .sessions, .osf, .gate, .ctl, .scr, .tarn] [Obj.colRefused] []
  | .scrDescriptorComplete .. =>
    loud [.fresh, .regs, .mem, .boot, .sessions, .osf, .gate, .ctl, .scr, .tarn] [Obj.colRefused] []
  | .scrHalted .. => loud [.fresh, .regs, .mem, .boot, .sessions, .osf, .gate, .ctl, .scr, .tarn] [Obj.colRefused] []
  | .scrStall .. => loud [.fresh, .regs, .mem, .boot, .sessions, .osf, .gate, .ctl, .scr, .tarn] [] []
  | .scrAbort .. => loud [.fresh, .regs, .mem, .boot, .sessions, .osf, .gate, .ctl, .scr, .tarn] [Obj.colRefused] []
  | .scrClear .. => quiet [.regs, .scr] [] []
  | .scrChannelDisable .. => loud [.fresh, .regs, .mem, .boot, .sessions, .osf, .gate, .ctl, .scr, .tarn] [Obj.colRefused] []
  | .regCounterClear .. => quiet [.regs] [] []
  | .interruptForward .. => quiet [] [] []
  | .cacheClean .. => wide [.pending, .flash, .rollback, .owners]
  | .cacheInval .. => wide [.pending, .flash, .rollback, .owners]
  | .cacheCleanInval .. => wide [.pending, .flash, .rollback, .owners]
  | .tmwTimerExpiry .. => quiet [.regs, .gate] [] []
  | .tmwAlarmArm .. => quiet [] [] [0x40060058, 0x40060070]
  | .tmwAlarmFire .. => quiet [] [] [0x40060058, 0x40060070]
  | .tmwPtpLatch .. => quiet [.gate] [] [0x40060068, 0x40060064, 0x40060060]
  | .registerWrite .. => wide [.pending, .flash, .rollback, .owners]
  | .osfRead .. => quiet [.osf] [] [0x40080000, 0x4008000c]
  | .osfProgram .. => quiet [.osf] [] [0x40080000, 0x4008000c]
  | .osfErase4k .. => quiet [.osf] [] [0x40080000, 0x4008000c]
  | .osfErase64k .. => quiet [.osf] [] [0x40080000, 0x4008000c]
  | .osfDone .. => quiet [.fresh, .regs, .flash, .osf] [] []
  | _ => quiet [] [] []

/-- What commands of memory errors, monitors and events may change. -/
def frameMonitor : Instr → Reach
  | .memCorrected .. => loud [] [Obj.memCorrected] []
  | .memUncorrectable .. => wide [.pending, .flash, .rollback, .owners]
  | .memScrubRead .. =>
    loud [] [Obj.memCorrected, Obj.memUncorrectable, Obj.memErrorLog, Obj.memScrubLastPass, Obj.memScrubProgress] []
  | .monSample .. => loud [.mon] [Obj.monHistogram] []
  | .monPeriod .. => loud [.mon] [Obj.monPrevious, Obj.monHistogram] []
  | .evtPop .. => loud [.sessions] [] []
  | .evtSwraise .. => loud [] [] []
  | .evtPinAck .. => quiet [.ev] [] []
  | .evtPulseEnd .. => quiet [.ev] [] []
  | _ => quiet [] [] []

/-- What commands of the service gate may change. -/
def frameGate : Instr → Reach
  | .gateVersion .. => quiet [] [] []
  | .gateHeartbeat .. => loud [.boot, .update] [] []
  | .gateRestart .. => wide [.pending, .fresh, .flash, .rollback, .owners]
  | .gateHbmRegion .. => quiet [] [] []
  | .gateAuthHello .. => loud [.fresh, .mem, .challenges] [] []
  | .gateAuthProof .. => loud [.fresh, .mem, .sessions, .challenges, .lockouts] [Obj.authFailures] []
  | .gateMsgOpen .. => loud [.mem, .sessions] [] []
  | .gateMsgSeal .. => loud [.mem, .sessions] [] []
  | .gateSessionEnd .. =>
    loud [.sessions, .salvos, .engine, .update, .gate, .media] [Obj.updateState, Obj.rxFlowState, Obj.txFlowState,
      Obj.portTxBytesB, Obj.portTxBytes, Obj.portTxFramesB, Obj.portTxFrames] [0x40080014]
  | .gateCeSubmit .. => wide [.pending]
  | .gateCeRead .. =>
    loud [.mem, .ridge] [Obj.morJournalCursor, Obj.srcFramesWritten, Obj.srcLiveFormat, Obj.srcFeedKind, Obj.srcState,
      Obj.srcReservationStatus, Obj.srcFramesAbandoned, Obj.srcColourLive] []
  | .gateKeyWrite .. => wide [.pending]
  | .gateOwnerLock .. => wide [.pending]
  | .gateOtpProgram .. => wide [.pending]
  | .gateOtpRevoke .. => wide [.pending]
  | .gateStoreLoad .. => loud [.mem] [] []
  | .gateStoreSave .. => loud [.st, .gate] [] []
  | .gateTwinPut .. => loud [.tw] [] []
  | .gateTwinGet .. => loud [.mem, .tw] [] []
  | .gateCrypto .. => loud [.fresh, .mem] [] []
  | .gateUpdate .. => wide [.pending]
  | .gateDone .. => quiet [.gate] [] []
  | _ => quiet [] [] []

/-- What a command may change. -/
def frameOf (c : Instr) : Reach :=
  match familyOf c with
  | .power => framePower c
  | .session => frameSession c
  | .object => frameObject c
  | .salvo => frameSalvo c
  | .sdi => frameSdi c
  | .picture => framePicture c
  | .audio => frameAudio c
  | .tarn => frameTarn c
  | .media => frameMedia c
  | .watershed => frameWatershed c
  | .twin => frameTwin c
  | .lane => frameLane c
  | .moraine => frameMoraine c
  | .control => frameControl c
  | .bus => frameBus c
  | .monitor => frameMonitor c
  | .gate => frameGate c

end Sys2Proof.Machine
end

