-- ==== Sys2Proof/Safety.lean ====
section
/-!
DEFINITION. What a safe run of the block is, and the terms in which the statements speak: its stores keep their canonical form, its
bounded queues their bounds, and a step answers a next state; a command completes; an event is raised and a counter counts; a
request of a session is handled.
-/
namespace Sys2Proof.Machine

/-! ## Safe states -/

/-- The stores of the machine are in canonical form: keys strictly rising, no entry equal to what an unlisted key reads as. -/
def State.Canonical (s : State) : Prop :=
  storeWf objDefault s.objs = true ∧ storeWf regReset s.regs = true ∧ Memory.wf s.mem = true ∧ Memory.flashWf s.flash = true

/-- The canonical form, and the bounds that the spec sets: 1,024 records in the event FIFO (R572), 8 open challenges (R456),
256 tracked addresses (R457), and 12 MB of flash journal (R579, R599). -/
def State.Sound (s : State) : Prop :=
  s.Canonical ∧ s.ev.fifo.length ≤ 1024 ∧ s.il.challenges.length ≤ 8 ∧ s.il.lockouts.length ≤ 256 ∧
    s.up.journal.length ≤ 196608

/-- A state from which the step answers a next state that is sound. -/
def State.SafeStep (s : State) : Prop := ∃ t, step s = .next t ∧ t.Sound

/-! ## Completion -/

/-- A command completes in a state: it answers a next state, and that state is as P says. -/
def Completes (c : Instr) (s : State) (P : State → Prop) : Prop := ∃ t, exec c s = .next t ∧ P t

/-- The device is out of reset, and not held by its TEST_EN strap (R609). -/
abbrev State.awake (s : State) : Prop := s.inReset = false

/-- The device is awake and its essence path runs (R613, R614). -/
abbrev State.on (s : State) : Prop := s.inReset = false ∧ s.live = true

/-- The device is awake and Upland runs, so that it can call the gate (R522). -/
abbrev State.gated (s : State) : Prop := s.inReset = false ∧ s.boot.uplandRuns = true

/-- No session holds a message back (R208, R467). -/
abbrev State.noneHeld (s : State) : Prop := ∀ p ∈ s.il.sessions, p.2.held = []

/-- The next descriptor of a Scree channel lies in Upland SRAM (R533, R544). -/
abbrev State.descIn (s : State) (n : Nat) : Prop := 0x10000000 ≤ s.scrDesc n ∧ s.scrDesc n + 64 ≤ 0x10800000

/-- An event source has been raised (R570): its count is one more, up to its largest value (R559), its last subject is this
one, and its last time is the present. -/
def Raised (source subject : Nat) (s t : State) : Prop :=
  t.n Obj.eventCount source = min (s.n Obj.eventCount source + 1) 0xFFFFFFFFFFFFFFFF ∧
    t.n Obj.eventLastSubject source = subject % 0x100000000 ∧ t.n Obj.eventLastAt source = t.ptp

/-- The engine stands halted on a channel's descriptor with a code (R550), and HEAD has not moved. -/
def HaltedBy (n code : Nat) (s t : State) : Prop :=
  t.scr.run = none ∧ t.scrHalted = true ∧ t.regField (scrRg 4) 8 11 = n ∧ t.regField (scrRg 4) 12 19 = code ∧
    t.scrHead n = s.scrHead n ∧ Raised Ev.scrHalted n s t

/-- Upland alone has been stopped with a cause (R530): it runs no more, its sessions are gone, and the fault is recorded. -/
def UplandStopped (cause : Nat) (s t : State) : Prop :=
  t.boot.uplandRuns = false ∧ t.boot.uplandRestarting = true ∧ t.il.sessions = [] ∧ t.regN 0x400600A0 = cause ∧
    Raised Ev.uplandFault cause s t

/-- A fault of Upland at a time restarts Upland and not the device (R530, R593): no trial is under way, and fewer than two
restarts have come within the 600 s before it. -/
def State.faultStays (s : State) (dt : Nat) : Prop :=
  s.up.ctl.trial = none ∧ (s.boot.uplandRestarts.filter fun a => s.now + dt < a + 600000000000).length < 2

/-- A counter object has counted k more, up to its largest value (R559). -/
def Counted (index sub k : Nat) (s t : State) : Prop :=
  t.n index sub = if k = 0 then s.n index sub else min (s.n index sub + k) (counterMax index sub)

/-! ## Requests -/

/-- A request reaches an open session, is new, is in order, and starts at once (R208, R453, R459, R461, R467): nothing is dropped,
no FENCE holds it, nothing overtook it, and no message waits in the session. -/
structure Ready (s : State) (m : Msg) (x : Session) (r : Req) : Prop where
  awake : s.inReset = false
  served : s.serves m = true
  kept : s.dropReason m = none
  session : s.session m.session = some x
  new : x.seen.contains m.seq = false
  fence : m.fenceSeq < m.seq
  named : m.fenceSeq = 0 ∨ x.fences.any (fun f => f.seq == m.fenceSeq) = true
  fences : ∀ f ∈ x.fences, f.complete = true ∧ f.seq ≤ m.seq
  room : x.outstanding.length < 64
  free : x.held = []
  idle : x.waitsFor m.seq r = false
  wellFormed : r.malformed = false
  open_ : s.unserved r = none
  order : ∀ a ∈ s.addressed r, look x.started a 0 ≤ m.seq

/-- The response to a request (R461), with the session's next number. -/
def answerOf (m : Msg) (x : Session) (type status : Nat) (body : Body) : Out :=
  .response m.session x.devSeq m.seq type status 0 body

/-- A direct write that passes steps 1 to 9 of R464, with its value, at the time of the command. -/
structure Writable (s : State) (dt : Nat) (m : Msg) (x : Session) (index sub : Nat) (value : List Byte) (v : Val) : Prop where
  small : sub < 65536
  ready : Ready s m x (.write index sub value)
  dict : (s.tick dt).dictCheck x.role (adr index sub) value = .inr v
  stands : (s.tick dt).standCheck (adr index sub) v = none

/-- A write that acts and is answered without waiting for the standby (R378). -/
structure Acts (s : State) (dt : Nat) (m : Msg) (x : Session) (index sub : Nat) (value : List Byte) (v : Val) : Prop where
  may : Writable s dt m x index sub value v
  alone : (s.mirrors && writtenThrough (adr index sub) v) = false

/-- An Immediate-class write has been answered: status OK, EffectiveAt the present (R464, R468). -/
def Answered (m : Msg) (x : Session) (t : State) : Prop := answerOf m x 0x11 0 (.write t.ptp) ∈ t.out

end Sys2Proof.Machine
end

