-- ==== Sys2Proof/Certificates/Slice0/Obligations.lean ====
section
/-!
DEFINITION. The statements for the provers: the machine, whole-machine rules, frames, and for every command where it completes and
with what effect.
-/
open Sys2Proof Sys2Proof.Machine

/-! ## The machine -/

/-- A step of a state with a command at the front of its queue is exec of that command on the state with the rest of it. -/
def Obligations.StepRunsFrontCommand : Prop :=
  ∀ (s : State) (c : Instr) (rest : List Instr),
    s.pending = c :: rest → step s = exec c { s with pending := rest }

/-- On an empty queue the block idles: the step answers the same state. The model's choice, notes/assumptions/10.md. -/
def Obligations.StepIdlesOnEmptyQueue : Prop := ∀ s : State, s.pending = [] → step s = .next s

/-- Every step answers a next state, takes the front command and no other from the queue, and never turns the oscillator time
back. A total step is the model's own property: no behaviour of the spec stops the block. -/
def Obligations.StepAnswers : Prop :=
  ∀ s : State, ∃ t, step s = .next t ∧ t.pending = s.pending.tail ∧ s.now ≤ t.now

/-- After reset every object reads as its default (R478) and every register as its reset value, no byte of memory is listed, no
session is open, every salvo is FREE, the queue is empty and the state is sound. That this is the state at RESET_N low after
power-on is the model's choice, notes/assumptions/3.md. -/
def Obligations.ResetState : Prop :=
  (∀ a, Objs.val State.reset.objs a = objDefault a) ∧ (∀ a, State.reset.reg a = regReset a) ∧
    (∀ a, State.reset.memByte a = memDefault a) ∧ (∀ n, State.reset.session n = none) ∧
    (∀ n, (State.reset.salvo n).state = .free) ∧ State.reset.pending = [] ∧ State.reset.Sound

/-- The tables of objects, registers, memory and flash keep their canonical form at every step, and the event FIFO, the open
challenges, the tracked addresses and the flash journal keep their bounds. -/
def Obligations.StepKeepsSound : Prop := ∀ s t : State, s.Sound → step s = .next t → t.Sound

/-- Fuses only burn (R492, R525): at every step a burned owner key hash stays as it is, the state of an owner key slot only
moves forward from EMPTY over ACTIVE to REVOKED, and the fuse security version never falls. -/
def Obligations.FusesOnlyBurn : Prop :=
  ∀ s t : State, step s = .next t →
    (∀ k, look s.up.ownerHashes k [] ≠ [] → look t.up.ownerHashes k [] = look s.up.ownerHashes k []) ∧
    (∀ k, look s.up.ownerStates k 0 ≤ look t.up.ownerStates k 0) ∧ s.up.rollback ≤ t.up.rollback

/-- The bytes of the flash change only at the end of an operation of the flash engine and at a request of a session or a gate
call: no frame, packet, reference edge, lane word, control frame or bus access of the datapath changes them. -/
def Obligations.FlashKept : Prop :=
  ∀ (c : Instr) (s t : State),
    familyOf c ∈ [.power, .sdi, .picture, .audio, .tarn, .media, .watershed, .twin, .lane, .moraine, .control, .monitor] →
      exec c s = .next t → ∀ a, t.flashByte a = s.flashByte a

/-- The owner key slots change only at the ROM's stage of a start and at a request of a session or a gate call (R492, R525). -/
def Obligations.OwnerKeysKept : Prop :=
  ∀ (c : Instr) (s t : State),
    familyOf c ∈ [.sdi, .picture, .audio, .tarn, .media, .watershed, .twin, .lane, .moraine, .control, .bus, .monitor] →
      exec c s = .next t → t.up.ownerHashes = s.up.ownerHashes ∧ t.up.ownerStates = s.up.ownerStates

/-- Routes and the twin role are as they were after every event of a source, a destination, an audio port, a reference, a lane, a
drive or a control port (R12, R14, R204, R370): they move at house frame boundaries, by requests and copies, and at
restarts. -/
def Obligations.RoutesKept : Prop :=
  ∀ (c : Instr) (s t : State),
    familyOf c ∈ [.sdi, .picture, .audio, .tarn, .watershed, .lane, .moraine, .control] →
      exec c s = .next t → (∀ d, t.n Obj.route d = s.n Obj.route d) ∧ t.n Obj.twinRole 0 = s.n Obj.twinRole 0

/-! ## The frame of every command -/

/-- Where a command answers a next state, nothing outside its reach has changed (`frameOf`, by row of the table): every other part of
the state, every object of another index and every other register reads as before; where its reach has no memory, so does
every byte of it, and where it has no flash, every byte of the flash. -/
def Obligations.CommandFrame : Prop := ∀ (c : Instr) (s t : State), exec c s = .next t → Only (frameOf c) s t

/-- Every command completes in every state, in all its forms: it answers a next state in which time has not gone back and the queue
is as it was, and which differs from the state before it only within the command's reach. In a device that is held in reset (R609)
nothing but time has moved, for every command but those of the power family. -/
def Obligations.CommandsComplete : Prop :=
  ∀ (c : Instr) (s : State), Completes c s fun t =>
    t.pending = s.pending ∧ s.now ≤ t.now ∧ Only (frameOf c) s t ∧
      (s.inReset = true → familyOf c ≠ .power → ∃ dt, t = s.tick dt)

/-! ## SDI ports (chapter 02) -/

/-- SDI_SIGNAL_DETECT, SDI_RATE_SEARCH_STEP and SDI_CLOCK_LOCK (R53): 10 µs of signal start the search at the highest enabled
rate, each rate is tried for 1 ms, and clock recovery locks at the rate being tried. -/
def Obligations.SdiReceiveStarts : Prop :=
  (∀ s dt lane lasted, s.on → lane < 288 → s.n Obj.rxState lane = 1 → 10000 ≤ lasted →
    Completes (.sdiSignalDetect dt lane lasted) s fun t =>
      t.n Obj.rxState lane = 2 ∧ (t.rxLane lane).tryBit = nextRate (s.n Obj.rxRateMask lane) 9 ∧ (t.rxLane lane).tryAt = t.now) ∧
  (∀ s dt lane, s.on → lane < 288 → s.n Obj.rxState lane = 2 → (s.rxLane lane).tryAt + 1000000 ≤ s.now + dt →
    Completes (.sdiRateSearchStep dt lane) s fun t =>
      t.n Obj.rxState lane = 2 ∧ (t.rxLane lane).tryAt = t.now ∧
        (t.rxLane lane).tryBit = nextRate (s.n Obj.rxRateMask lane) (s.rxLane lane).tryBit) ∧
  (∀ s dt lane, s.on → lane < 288 → s.n Obj.rxState lane = 2 → (s.rxLane lane).tryBit < 9 →
    Completes (.sdiClockLock dt lane) s fun t =>
      t.n Obj.rxState lane = 3 ∧ t.n Obj.rxRate lane = (s.rxLane lane).tryBit)

/-- SDI_CLOCK_LOSS, SDI_SIGNAL_LOSS, SDI_EAV_TIMEOUT and SDI_RASTER_MISMATCH (R54): the state that each leaves the lane in; a
lane that was LOCKED has no identified format any more. -/
def Obligations.SdiReceiveStops : Prop :=
  (∀ s dt lane, s.on → lane < 288 → 3 ≤ s.n Obj.rxState lane →
    Completes (.sdiClockLoss dt lane) s fun t =>
      t.n Obj.rxState lane = 2 ∧ (t.rxLane lane).tryBit = nextRate (s.n Obj.rxRateMask lane) 9 ∧ (t.rxLane lane).tryAt = t.now ∧
        (s.n Obj.rxState lane = 4 → t.n Obj.rxFormat lane = 0)) ∧
  (∀ s dt lane lasted, s.on → lane < 288 → 2 ≤ s.n Obj.rxState lane → 10000 ≤ lasted →
    Completes (.sdiSignalLoss dt lane lasted) s fun t =>
      t.n Obj.rxState lane = 1 ∧ (s.n Obj.rxState lane = 4 → t.n Obj.rxFormat lane = 0)) ∧
  (∀ s dt lane periods, s.on → lane < 288 → s.n Obj.rxState lane = 4 → 16 ≤ periods →
    Completes (.sdiEavTimeout dt lane periods) s fun t =>
      t.n Obj.rxState lane = 3 ∧ t.n Obj.rxRate lane = s.n Obj.rxRate lane ∧ t.n Obj.rxFormat lane = 0) ∧
  (∀ s dt lane lines samples, s.on → lane < 288 → s.n Obj.rxState lane = 4 →
    rasterIs ⟨lines, samples, rasterInterlaced (fmtRaster (s.n Obj.rxFormat lane)) || fmtRaster (s.n Obj.rxFormat lane) == 5, 0⟩
      (s.n Obj.rxRate lane) (s.n Obj.rxFormat lane) = false →
    Completes (.sdiRasterMismatch dt lane lines samples) s fun t =>
      t.n Obj.rxState lane = 3 ∧ t.n Obj.rxRate lane = s.n Obj.rxRate lane ∧ t.n Obj.rxFormat lane = 0)

/-- SDI_LOCK (R53, R57, R58, R65): a lane with clock lock whose raster is identified is LOCKED and reports the format; raster and
payload ID are kept for what comes later, and a port of one link reports that ID. A lane number from 65,536 on is the signal of
an ST2022_6 entry, whose state follows from its format. -/
def Obligations.SdiLocks : Prop :=
  ∀ s dt lane raster pid f b mismatch, s.on → s.rxSt lane = 3 →
    s.identifyOn lane (s.signalRates lane) raster pid = (some (f, b), mismatch) →
    Completes (.sdiLock dt lane raster pid) s fun t =>
      (lane < 65536 → t.n Obj.rxState lane = 4) ∧ t.rxn Obj.rxFormat lane = f ∧
        (t.rxLane lane).lastFormat = f ∧ (t.rxLane lane).bit = b ∧ (t.rxLane lane).pid = pid ∧
        (t.rxLane lane).raster = some raster ∧
        (Objs.rxLead s.objs lane = lane → s.quad lane = false → t.rxn Obj.rxPayloadId lane = pid.elim 0 (·.word))

/-- SDI_LINE_RECEIVED and SDI_EDH_FIELD (R58, R60, R63, R64, R73): a line with a CRC error of a signal that has line CRCs is counted;
a group reports its skew; a frame begins with its first line, with no packets yet; a payload ID that differs from the lane's is
read on its line, to act from a frame start on; an EDH packet leaves its flags and its mismatches are counted, and its absence
sets the bit that says so. -/
def Obligations.SdiChecks : Prop :=
  (∀ s dt lane line skew, s.on → s.rxSt lane = 4 → s.rxn Obj.rxFormat lane ≠ 0 → line.crcError = true →
    fmtRaster (s.rxn Obj.rxFormat lane) ≠ 1 → fmtRaster (s.rxn Obj.rxFormat lane) ≠ 2 →
    Completes (.sdiLineReceived dt lane line skew) s (Counted (laneIx lane Obj.rxCrcErrLines) lane 1 s)) ∧
  (∀ s dt lane line skew, s.on → s.rxSt lane = 4 → s.quad lane = true →
    Completes (.sdiLineReceived dt lane line skew) s fun t => t.n Obj.rxQuadSkew lane = skew) ∧
  (∀ s dt lane line skew, s.on → s.rxSt lane = 4 → Objs.rxLead s.objs lane = lane →
    line.number = (firstLines (fmtRaster (s.rxn Obj.rxFormat lane))).1 →
    Completes (.sdiLineReceived dt lane line skew) s fun t =>
      (t.rxLane lane).anc = [] ∧ (t.rxLane lane).ancBytes = 0 ∧ (t.rxLane lane).ancFull = false ∧
        (t.rxLane lane).frame = (s.rxLane lane).frame + 1) ∧
  (∀ s dt lane line skew, s.on → s.rxSt lane = 4 →
    line.number = (pidLines (fmtRaster (s.rxn Obj.rxFormat lane))).headD 0 → line.pid ≠ (s.rxLane lane).pid →
    Completes (.sdiLineReceived dt lane line skew) s fun t => (t.rxLane lane).pidNext = some line.pid) ∧
  (∀ s dt lane w ap ff, s.on → s.rxSt lane = 4 →
    fmtRaster (s.rxn Obj.rxFormat lane) = 1 ∨ fmtRaster (s.rxn Obj.rxFormat lane) = 2 →
    Completes (.sdiEdhField dt lane (some w) ap ff) s fun t =>
      t.rxn Obj.rxEdhFlags lane = field w 0 14 ∧ Counted (laneIx lane Obj.rxEdhApErrFields) lane (b2n ap) s t ∧
        Counted (laneIx lane Obj.rxEdhFfErrFields) lane (b2n ff) s t) ∧
  (∀ s dt lane ap ff, s.on → s.rxSt lane = 4 →
    fmtRaster (s.rxn Obj.rxFormat lane) = 1 ∨ fmtRaster (s.rxn Obj.rxFormat lane) = 2 →
    Completes (.sdiEdhField dt lane none ap ff) s fun t =>
      t.rxn Obj.rxEdhFlags lane = setBit (s.rxn Obj.rxEdhFlags lane) 16 true)

/-- SDI_AUDIO_PACKET, SDI_AUDIO_GROUP_ABSENT and SDI_ANC_PACKET (R67, R69, R70, R73, R74): a packet of a selected group, on the link
that carries it, makes its group present and is counted by its ECC result, and makes it absent where its control packet declares
another rate; a group without packets for 2 frame periods is absent; a packet with a bad checksum
is only counted, a good one that no exclusion names is stored with the frame while the side-data area has room, and after the
first one that has not, every one is discarded and counted. -/
def Obligations.SdiCarriesData : Prop :=
  (∀ s dt lane p, s.on → (∀ k ∈ Objs.rxLanes s.objs (Objs.rxLead s.objs lane), s.rxSt k = 4) → p.rate48 = true →
    s.rxn Obj.rxAudioBase (Objs.rxLead s.objs lane) ≠ 0xFFFF →
    bit (s.rxn Obj.rxAudioGroups (Objs.rxLead s.objs lane)) p.groupBit = true → s.carriesGroup lane p.groupBit = true →
    Completes (.sdiAudioPacket dt lane p) s fun t =>
      let lead := Objs.rxLead s.objs lane
      bit (t.rxn Obj.rxAudioPresent lead) p.groupBit = true ∧ look (t.rxLane lead).groups p.groupBit 0 = t.now ∧
        Counted (laneIx lead Obj.rxAudioEccCorrected) lead (b2n (p.ecc = .corrected)) s t ∧
        Counted (laneIx lead Obj.rxAudioUncorrectable) lead (b2n (p.ecc = .uncorrectable)) s t) ∧
  (∀ s dt lane p, s.on → (∀ k ∈ Objs.rxLanes s.objs (Objs.rxLead s.objs lane), s.rxSt k = 4) → p.rate48 = false →
    s.rxn Obj.rxAudioBase (Objs.rxLead s.objs lane) ≠ 0xFFFF →
    bit (s.rxn Obj.rxAudioGroups (Objs.rxLead s.objs lane)) p.groupBit = true → s.carriesGroup lane p.groupBit = true →
    Completes (.sdiAudioPacket dt lane p) s fun t =>
      bit (t.rxn Obj.rxAudioPresent (Objs.rxLead s.objs lane)) p.groupBit = false) ∧
  (∀ s dt lane groupBit, s.on → bit (s.rxn Obj.rxAudioPresent lane) groupBit = true →
    look (s.rxLane lane).groups groupBit 0 + 2 * fmtPeriodNs (s.rxLane lane).lastFormat ≤ s.now + dt →
    Completes (.sdiAudioGroupAbsent dt lane groupBit) s fun t => bit (t.rxn Obj.rxAudioPresent lane) groupBit = false) ∧
  (∀ s dt lane p, s.on → s.rxSt lane = 4 →
    Completes (.sdiAncPacket dt lane p) s fun t =>
      let lead := Objs.rxLead s.objs lane
      let out := ancGenerated p.did || ancDropped (s.by (laneIx lead Obj.sdiRxAncDrop) lead) p.did p.sdid
      let full := (s.rxLane lead).ancFull || decide (65024 < (s.rxLane lead).ancBytes + p.size)
      Counted (laneIx lead Obj.rxAncChecksumErr) lead (b2n !p.checksumOk) s t ∧
        Counted (laneIx lead Obj.rxAncOverflow) lead (b2n (p.checksumOk && !out && full)) s t ∧
        (t.rxLane lead).anc = if p.checksumOk && !out && !full then (s.rxLane lead).anc ++ [p] else (s.rxLane lead).anc)

/-- SDI_TX_FRAME_EMIT and SDI_TX_IDLE_END (R28, R59, R64, R66, R79, R80, R83, R85, R199, R333, R373, R382, R394): an SDI lane with a
shown picture whose PLL is locked sends it once its SAV leaves, at the lane rate of its carriage, each link with its part of the
picture in the division in force and with a payload ID on the lines that carry one, in the driver mode of its rate, and reports its
format; between two formats it sends blanking without any packet; a change of lane rate sends an idle frame first; a lane without a
slot that has never run sends electrical idle, and one that has run and idles with BLACK sends that with its last payload IDs (that
TxState then reads 0 is the model's choice, notes/assumptions/66.md); the idle frame of a rate change ends after one frame period. On
a standby whose outputs idle, every lane sends electrical idle and TxState reads STANDBY. Which device of a pair drives a frame is
decided by the frame's alignment point. -/
def Obligations.SdiTransmits : Prop :=
  (∀ s dt lane x, s.on → lane < 288 → s.n Obj.laneMode lane = 1 → Objs.txLead s.objs lane = lane →
    (s.txLane lane).idleUntil = none → s.n Obj.txSlot lane ≠ 0xFFFF → (s.dst (s.n Obj.txSlot lane)).shown = some x →
    s.drives x.align = true → x.pic ≠ .blanking →
    let carriage := s.txCarriageOf lane (s.n Obj.txSlot lane)
    let rate := carriageRate carriage (s.n Obj.dstReservedFormat (s.n Obj.txSlot lane))
    x.read + 3200 + laneTxDelay rate ≤ (s.tick dt).ptp →
    s.sdiPll lane rate = true → ((s.txLane lane).ran = true → s.n Obj.txRate lane = rate) →
    Completes (.sdiTxFrameEmit dt lane) s fun t =>
      t.n Obj.txState lane = 1 ∧ t.n Obj.txRate lane = rate ∧ t.n Obj.txFormat lane = x.format ∧ (t.txLane lane).ran = true ∧
        (t.txLane lane).frame = (s.txLane lane).frame + 1 ∧
        ∃ o, Out.sdi o ∈ t.out ∧ o.lane = lane ∧ o.pic = x.pic ∧ o.format = x.format ∧ o.driverMode = driverMode rate ∧
          o.payloadIds = s.txPids lane (s.n Obj.txSlot lane) carriage x.format ∧
          o.division = s.txDivision lane carriage ∧ o.links = linkPics o.division x.pic ∧
          o.pidLines = pidLines (fmtRaster x.format) ∧ (o.lineWords = true ↔ o.edhFields = []) ∧
          o.sav = x.read + 3200 + laneTxDelay rate) ∧
  (∀ s dt lane x, s.on → lane < 288 → s.n Obj.laneMode lane = 1 → Objs.txLead s.objs lane = lane →
    (s.txLane lane).idleUntil = none → s.n Obj.txSlot lane ≠ 0xFFFF → (s.dst (s.n Obj.txSlot lane)).shown = some x →
    s.drives x.align = true → x.pic = .blanking →
    let rate := carriageRate (s.txCarriageOf lane (s.n Obj.txSlot lane)) (s.n Obj.dstReservedFormat (s.n Obj.txSlot lane))
    x.read + 3200 + laneTxDelay rate ≤ (s.tick dt).ptp →
    s.sdiPll lane rate = true → ((s.txLane lane).ran = true → s.n Obj.txRate lane = rate) →
    Completes (.sdiTxFrameEmit dt lane) s fun t =>
      t.n Obj.txState lane = 1 ∧ t.n Obj.txFormat lane = x.format ∧
        ∃ o, Out.sdi o ∈ t.out ∧ o.lane = lane ∧ o.pic = .blanking ∧ o.format = x.format ∧ o.payloadIds = [] ∧ o.audio = [] ∧
          o.ancillary = [] ∧ o.edhFields = []) ∧
  (∀ s dt lane, s.on → s.drives (s.tick dt).tc = true → lane < 288 → s.n Obj.laneMode lane = 1 → Objs.txLead s.objs lane = lane →
    (s.txLane lane).idleUntil = none → s.n Obj.txSlot lane = 0xFFFF → s.n Obj.txIdle lane = 1 → (s.txLane lane).ran = true →
    s.sdiPll lane (s.n Obj.txRate lane) = true →
    Completes (.sdiTxFrameEmit dt lane) s fun t =>
      t.n Obj.txState lane = 0 ∧
        ∃ o, Out.sdi o ∈ t.out ∧ o.lane = lane ∧ o.pic = .black ∧ o.format = s.n Obj.txFormat lane ∧
          o.payloadIds = (s.txLane lane).pids ∧ o.audio = []) ∧
  (∀ s dt lane, s.on → lane < 288 → s.n Obj.laneMode lane = 1 → Objs.txLead s.objs lane = lane →
    (s.txLane lane).idleUntil = none → s.n Obj.txSlot lane ≠ 0xFFFF → (s.txLane lane).ran = true →
    (s.tick dt).txDue lane = true → (s.tick dt).drives ((s.tick dt).txAlign lane) = true →
    let f := s.n Obj.dstReservedFormat (s.n Obj.txSlot lane)
    let rate := carriageRate (s.txCarriageOf lane (s.n Obj.txSlot lane)) f
    s.sdiPll lane rate = true → s.n Obj.txRate lane ≠ rate →
    Completes (.sdiTxFrameEmit dt lane) s fun t =>
      t.n Obj.txState lane = 2 ∧ t.n Obj.txRate lane = rate ∧
        (t.txLane lane).idleUntil = some (t.now + fmtPeriodNs f) ∧ Out.sdiIdle lane ∈ t.out) ∧
  (∀ s dt lane, s.on → s.drives (s.tick dt).tc = true → lane < 288 → s.n Obj.laneMode lane = 1 → Objs.txLead s.objs lane = lane →
    (s.txLane lane).idleUntil = none → s.n Obj.txSlot lane = 0xFFFF → (s.txLane lane).ran = false →
    Completes (.sdiTxFrameEmit dt lane) s fun t => t.n Obj.txState lane = 0 ∧ Out.sdiIdle lane ∈ t.out) ∧
  (∀ s dt lane u, s.on → s.standby = false → (s.txLane lane).idleUntil = some u → u ≤ s.now + dt →
    Completes (.sdiTxIdleEnd dt lane) s fun t => t.n Obj.txState lane = 1 ∧ (t.txLane lane).idleUntil = none) ∧
  (∀ s dt lane, s.on → s.n Obj.twinSdiStandby 0 = 0 → lane < 288 → s.n Obj.laneMode lane = 1 → Objs.txLead s.objs lane = lane →
    (s.txLane lane).idleUntil = none → (s.tick dt).txDue lane = true →
    (s.tick dt).drives ((s.tick dt).txAlign lane) = false →
    Completes (.sdiTxFrameEmit dt lane) s fun t => t.n Obj.txState lane = 3 ∧ Out.sdiIdle lane ∈ t.out)

/-! ## Frame stores and engines (chapters 05, 07) -/

/-- SOURCE_FRAME_WRITE and GENERATOR_FRAME_WRITE (R16, R23, R56, R59, R61, R73, R157, R177 to R179): the writer of a locked SDI feed
begins a frame with the next number, the live format, the packets that came before, the picture of its links in their division and order,
and the origin time of the link that arrives last; its lines complete; it completes with its ancillary packets and is counted; it
is abandoned and counted, and its packets go with no later frame; a test generator writes one frame of its pattern for each grid
point of its reserved format. -/
def Obligations.PictureWriters : Prop :=
  (∀ s dt slot l arrivals, s.on → Objs.feed s.objs slot = .sdi l → s.slotLocked slot = true →
    (∀ k ∈ Objs.rxLanes s.objs l, (s.rxLane k).pidNext = none) →
    Completes (.sourceFrameWrite dt slot (.start arrivals)) s fun t =>
      (t.src slot).nextSeq = (s.src slot).nextSeq + 1 ∧
        ∃ f, (t.src slot).frames.head? = some f ∧ f.seq = (s.src slot).nextSeq ∧ f.format = s.sdiFormat l ∧ f.kind = 1 ∧
          f.origin = arrivals.foldl max 0 - laneRxDelay (s.n Obj.rxRate l) ∧ f.complete = false ∧ f.anc = (s.rxLane l).anc ∧
          f.pic = if s.quad l = true then .quad slot f.seq (s.quadDivision l) (s.linkOrder l) else .frame slot f.seq) ∧
  (∀ s dt slot l f n, s.on → Objs.feed s.objs slot = .sdi l → (s.src slot).frames.find? Frame.open_ = some f →
    Completes (.sourceFrameWrite dt slot (.lines n)) s fun t =>
      ∃ g ∈ (t.src slot).frames, g.seq = f.seq ∧ g.lines = max f.lines n ∧ g.lastLine = t.ptp) ∧
  (∀ s dt slot l f, s.on → Objs.feed s.objs slot = .sdi l → (s.src slot).frames.find? Frame.open_ = some f →
    Completes (.sourceFrameWrite dt slot .finish) s fun t =>
      (∃ g ∈ (t.src slot).frames, g.seq = f.seq ∧ g.complete = true ∧ g.anc = f.anc) ∧
        t.n Obj.srcLiveFormat slot = f.format ∧ Counted Obj.srcFramesWritten slot 1 s t) ∧
  (∀ s dt slot l f, s.on → Objs.feed s.objs slot = .sdi l →
    (s.src slot).frames.find? (fun f => f.open_ && f.finishAt.isNone) = some f →
    Completes (.sourceFrameWrite dt slot .abandon) s fun t =>
      (∃ g ∈ (t.src slot).frames, g.seq = f.seq ∧ g.abandoned = true) ∧ Counted Obj.srcFramesAbandoned slot 1 s t ∧
        (t.rxLane l).anc = []) ∧
  (∀ s dt slot g k, s.on → Objs.feed s.objs slot = .generator g → s.n Obj.srcReservedFormat slot ≠ 0 →
    k = gridIndex (fmtPeriod (s.n Obj.srcReservedFormat slot)) (s.tick dt).tc → (s.src slot).generatorAt ≠ some k →
    Completes (.generatorFrameWrite dt slot) s fun t =>
      (t.src slot).generatorAt = some k ∧
        ∃ f, (t.src slot).frames.head? = some f ∧ f.format = s.n Obj.srcReservedFormat slot ∧
          f.pic = s.genPic g k (Objs.srcColourOf s.objs slot) ∧
          (∀ c x y, f.pic.code f.format c x y = generatorCode k (s.n Obj.genPattern g) (s.n Obj.genFlatValue g) (s.b Obj.genMotion g)
            (Objs.srcColourOf s.objs slot) f.format c x y) ∧
          f.kind = 3 ∧ f.write = gridPoint (fmtPeriod f.format) k / tcNs ∧ f.origin = f.write)

/-- DESTINATION_READ_START (R170, R171, R163, R166, R172, R173): at the read start of its output frame a destination takes its new
route, once the switching point of that frame lies at or after the boundary of the TAKE; with NO_SOURCE it shows its loss picture
in its reserved format and counts the frame; in frame-sync mode it reads the newest frame of its locked source that is past the
guard. -/
def Obligations.DestinationReads : Prop :=
  (∀ s dt d align r, s.on → (s.tick dt).reads d = true → (s.tick dt).nextRead d (s.tick dt).ptp = (align, r) →
    (∀ x, (s.dst d).shown = some x → x.align ≠ align) →
    (∀ p ∈ s.routesAhead d, p.1 ≤ align + switchOffset (Objs.sink s.objs d) (s.dstFormat d)) →
    Completes (.destinationReadStart dt d) s fun t => (t.dst d).route = s.n Obj.route d) ∧
  (∀ s dt d align r, s.on → (s.tick dt).reads d = true → (s.tick dt).nextRead d (s.tick dt).ptp = (align, r) →
    (∀ x, (s.dst d).shown = some x → x.align ≠ align) →
    (s.dst d).routes = [] → s.n Obj.route d = (s.dst d).route → bit (s.dst d).route 11 = true →
    Completes (.destinationReadStart dt d) s fun t =>
      t.n Obj.dstState d = 1 ∧ t.n Obj.dstFormatLive d = s.n Obj.dstReservedFormat d ∧
        Counted Obj.dstLossFrames d 1 s t ∧
        ∃ x, (t.dst d).shown = some x ∧ x.loss = true ∧ x.read = r ∧ x.align = align ∧ x.format = s.n Obj.dstReservedFormat d) ∧
  (∀ s dt d slot f align r, s.on → (s.tick dt).reads d = true → (s.tick dt).nextRead d (s.tick dt).ptp = (align, r) →
    (∀ x, (s.dst d).shown = some x → x.align ≠ align) →
    (s.dst d).routes = [] → s.n Obj.route d = (s.dst d).route → routeSource (s.dst d).route = some slot →
    s.slotLocked slot = true →
    (∀ g ∈ (s.src slot).frames, g.open_ = true → ∀ w, g.finishAt = some w → (s.tick dt).ptp < w) →
    s.n Obj.dstAlignMode d = 1 → s.b Obj.dstFollowSource d = false → (s.dst d).episode = false →
    candidate (s.src slot).held (s.n Obj.dstReservedFormat d) r = some f → f.readable r = true →
    Completes (.destinationReadStart dt d) s fun t =>
      t.n Obj.dstState d = 2 ∧ t.n Obj.dstModeInForce d = 1 ∧ t.n Obj.dstFormatLive d = s.n Obj.dstReservedFormat d ∧
        ∃ x, (t.dst d).shown = some x ∧ x.loss = false ∧ x.pic = f.pic ∧ x.slot = slot ∧ x.seq = f.seq ∧
          x.origin = f.origin ∧ x.read = r ∧ x.align = align)

/-- PARTIAL_FRAME and ENGINE_ALIGNMENT_POINT (R169, R222, R225): a reader that meets a line its writer has not completed takes the
rest from the complete frame before it, black without one, and the frame is counted; at an alignment point of a running engine the
composite of that point begins in the engine's slot, and is counted. -/
def Obligations.PictureEngines : Prop :=
  (∀ s dt d line x f, s.on → (s.dst d).shown = some x → x.loss = false → x.store ≠ none → x.wholePartial = false →
    (s.src x.slot).frames.find? (fun g => g.seq == x.seq) = some f → f.complete = false → f.lines ≤ line →
    (f.finishAt = none ∨ f.abandoned = true) →
    Completes (.partialFrame dt d line) s fun t =>
      (t.dst d).shown = some { x with pic := .partialOf x.pic ((s.src x.slot).previousPic x.seq) line, wholePartial := true } ∧
        Counted Obj.dstPartialFrames d 1 s t) ∧
  (∀ s dt e slot f k te, s.on → s.n Obj.cqState e = 2 → (s.engine e).stopping = false → (s.engine e).old = none →
    (s.engine e).writing = slot → slot ≠ 0xFFFF → f = Objs.engineFormat s.objs e → f ≠ 0 →
    k = alignIndex f (s.n Obj.cqTimingOffset e) (s.tick dt).tc → te = alignPoint f (s.n Obj.cqTimingOffset e) k →
    (s.engine e).from_ ≤ te → (s.engine e).lastAt ≠ some te →
    Completes (.engineAlignmentPoint dt e) s fun t =>
      (t.engine e).lastAt = some te ∧ Counted Obj.cqFramesOut e 1 s t ∧
        (t.src slot).nextSeq = (s.src slot).nextSeq + 1 ∧
        ∃ g layers stage, (t.src slot).frames.head? = some g ∧ g.pic = .composite e k layers stage f ∧ g.format = f ∧
          g.write = te / tcNs + compositeDelay f)

/-! ## Sessions (chapter 15) -/

/-- ILRIL_HELLO, ILRIL_PROOF and CHALLENGE_EXPIRY (R454 to R457): a HELLO that nothing refuses opens a challenge, and one that
something refuses gets its status; a right proof of an open challenge opens the lowest free session for its role and raises
SESSION_OPENED; a wrong one is counted, raised and refused; no challenge stands longer than 2 s. -/
def Obligations.SessionsOpen : Prop :=
  (∀ s dt m h, s.awake → s.serves m = true → msgDrop m = none → (s.tick dt).helloRefusal m h = none →
    Completes (.ilrilHello dt m h) s fun t =>
      ∃ c ∈ t.il.challenges, c.role = h.role ∧ c.nc = h.nc ∧ c.addr = m.addr ∧ c.openedAt = t.now ∧
        Out.challenge m.port m.addr h.nc c.nd Config.uniqueId c.handle ∈ t.out) ∧
  (∀ s dt m h st retry, s.awake → s.serves m = true → msgDrop m = none →
    (s.tick dt).helloRefusal m h = some (st, retry) →
    Completes (.ilrilHello dt m h) s fun t =>
      t.il.challenges = s.il.challenges ∧ Out.refuse m.port m.addr h.nc st retry ∈ t.out) ∧
  (∀ s dt m handle c key, s.awake → s.serves m = true → msgDrop m = none → m.version = 1 →
    (s.tick dt).challengeOf m handle = some c → s.keyFor c.role = some key → s.il.sessions.length < s.sessionMost →
    Completes (.ilrilProof dt m handle (Config.hmac key (c.nd ++ c.nc ++ Config.uniqueId))) s fun t =>
      Raised Ev.sessionOpened s.freeSession s t ∧
        (∃ x, t.session s.freeSession = some x ∧ x.role = c.role ∧ x.addr = c.addr ∧ x.openedAt = t.ptp ∧ x.devSeq = 1) ∧
        ∃ flags, Out.welcome s.freeSession c.role flags (Config.hmac key (c.nc ++ c.nd ++ Config.uniqueId)) ∈ t.out) ∧
  (∀ s dt m handle proof c key, s.awake → s.serves m = true → msgDrop m = none → m.version = 1 →
    (s.tick dt).challengeOf m handle = some c → s.keyFor c.role = some key →
    proof ≠ Config.hmac key (c.nd ++ c.nc ++ Config.uniqueId) →
    Completes (.ilrilProof dt m handle proof) s fun t =>
      t.il.sessions = s.il.sessions ∧ Counted Obj.authFailures 0 1 s t ∧ Raised Ev.authFailure c.role s t ∧
        Out.refuse m.port m.addr c.nc Code.authFailed 0 ∈ t.out) ∧
  (∀ s dt handle, s.awake →
    Completes (.challengeExpiry dt handle) s fun t =>
      ∀ c ∈ t.il.challenges, c.handle = handle → t.now < c.openedAt + 2000000000)

/-- LOCKOUT_END, LOCKOUT_TIME_RESET, ILRIL_CLOSE, SESSION_IDLE_TIMEOUT, TCP_CONNECTION_CLOSE and ILRIL_KEEPALIVE (R457, R460): a
lock-out ends with its count at 0; its time starts anew after 3,600 s without a failure; a session ends by its CLOSE, after
60 s without a message, or with its connection, and raises SESSION_CLOSED; a KEEPALIVE is answered and keeps it open. -/
def Obligations.SessionsEnd : Prop :=
  (∀ s dt addr x e, s.awake → s.lockout addr = some x → x.until_ = some e → e ≤ s.now + dt →
    Completes (.lockoutEnd dt addr) s fun t => t.lockout addr = some { x with until_ := none, failures := 0 }) ∧
  (∀ s dt addr x, s.awake → s.lockout addr = some x → x.until_ = none → x.lastFailure + 3600000000000 ≤ s.now + dt →
    Completes (.lockoutTimeReset dt addr) s fun t => t.lockout addr = some { x with step := 0 }) ∧
  (∀ s dt m x, Ready s m x .close →
    Completes (.ilrilClose dt m) s fun t =>
      t.session m.session = none ∧ answerOf m x 0x05 0 .none ∈ t.out ∧ Raised Ev.sessionClosed m.session s t) ∧
  (∀ s dt n x, s.awake → s.session n = some x → x.lastRx + 60000000000 ≤ s.now + dt →
    Completes (.sessionIdleTimeout dt n) s fun t =>
      t.session n = none ∧ Out.close n x.devSeq 2 ∈ t.out ∧ Raised Ev.sessionClosed n s t) ∧
  (∀ s dt n x, s.awake → s.session n = some x → x.tcp = true →
    Completes (.tcpConnectionClose dt n) s fun t => t.session n = none ∧ Raised Ev.sessionClosed n s t) ∧
  (∀ s dt m x, Ready s m x .keepalive →
    Completes (.ilrilKeepalive dt m) s fun t =>
      answerOf m x 0x06 0 .none ∈ t.out ∧ ∃ y, t.session m.session = some y ∧ y.lastRx = t.now ∧ y.devSeq = x.devSeq + 1)

/-- ILRIL_READ, ILRIL_WRITE, ILRIL_BULK_READ and ILRIL_BULK_WRITE (R463 to R465, R8, R9, R378): every read is answered; one of an
object that its role may read answers the length of its value and as much from its offset on as fits, and one that fails a check
the check's code; an Immediate-class write takes effect and is answered with the present, a write that acts on the device itself
is answered as it is decided; a write of a Frame-class object waits for the boundary that R9 gives it and its answer names that
boundary; one of a Restart-class object waits for the next start; one that fails a check answers the check's code; one that is
written through goes to the standby and takes no effect before it is answered; a bulk read answers every item, and a bulk write
acts as its items do. All of this for a message that waits for no other (R208, R467). -/
def Obligations.RequestsAnswered : Prop :=
  (∀ s dt m x index sub offset most, Ready s m x (.read index sub offset most) →
    Completes (.ilrilRead dt m index sub offset most) s fun t =>
      (∃ status body, answerOf m x 0x10 status body ∈ t.out) ∧
        ∃ y, t.session m.session = some y ∧ y.devSeq = x.devSeq + 1 ∧ y.lastRx = t.now) ∧
  (∀ s dt m x index sub offset most c, Ready s m x (.read index sub offset most) →
    (s.tick dt).readItem (some m.session) x.role index sub = .inl c →
    Completes (.ilrilRead dt m index sub offset most) s fun t => answerOf m x 0x10 c .none ∈ t.out ∧ t.objs = s.objs) ∧
  (∀ s dt m x index sub offset most b u, Ready s m x (.read index sub offset most) →
    (s.tick dt).readItem (some m.session) x.role index sub = .inr (b, u) →
    (index < Obj.sessState ∨ Obj.sessNotifyLost < index) →
    Completes (.ilrilRead dt m index sub offset most) s fun t =>
      if b.length < offset ∨ offset ≠ 0 ∧ openWidth index sub = false then answerOf m x 0x10 Code.range .none ∈ t.out
      else
        let room := if most = 0 then readRoom x.tcp else min most (readRoom x.tcp)
        answerOf m x 0x10 0 (.read b.length ((b.drop offset).take room)) ∈ t.out) ∧
  (∀ s dt m x index sub value v r, Acts s dt m x index sub value v → dictRow index sub = some r → r.commit = .immediate →
    (s.tick dt).ownWrite m.session (adr index sub) v = none →
    Completes (.ilrilWrite dt m index sub value) s fun t =>
      answerOf m x 0x11 0 (.write (s.tick dt).ptp) ∈ t.out ∧
        (r.access = .rw → 0x2000 ≤ index → index < 0x7000 → index ≠ Obj.tarnCtrl → Objs.val t.objs (adr index sub) = v)) ∧
  (∀ s dt m x index sub value v w, Writable s dt m x index sub value v →
    (s.tick dt).ownWrite m.session (adr index sub) v = some w → w.after = .none →
    Completes (.ilrilWrite dt m index sub value) s fun t =>
      answerOf m x 0x11 w.status (.write (if w.status = 0 then w.effectiveAt else 0)) ∈ t.out) ∧
  (∀ s dt m x index sub most r, Ready s m x (.read index sub 0 most) → dictRow index sub = some r → r.access ≠ .wo →
    r.role ≤ x.role → index ≠ Obj.morJournalRead → (index < 0x2000 ∨ 0x2100 ≤ index) →
    (index < Obj.sessState ∨ Obj.sessNotifyLost < index) →
    Completes (.ilrilRead dt m index sub 0 most) s fun t =>
      let b := encodeVal r.ty ((s.tick dt).readVal (some m.session) (adr index sub))
      answerOf m x 0x10 0 (.read b.length (b.take (if most = 0 then readRoom x.tcp else min most (readRoom x.tcp)))) ∈ t.out) ∧
  (∀ s dt m x index sub value v r, Writable s dt m x index sub value v → dictRow index sub = some r → r.commit = .frame →
    (s.mirrors && writtenThrough (adr index sub) v) = false → (s.tick dt).ownWrite m.session (adr index sub) v = none →
    Completes (.ilrilWrite dt m index sub value) s fun t =>
      t.ce.frameWrites = s.ce.frameWrites ++ [⟨adr index sub, v, t.boundaryAfterDeadline⟩] ∧
        answerOf m x 0x11 0 (.write (t.boundaryAfterDeadline / tcNs)) ∈ t.out) ∧
  (∀ s dt m x index sub value v r, Writable s dt m x index sub value v → dictRow index sub = some r → r.commit = .restart →
    (s.mirrors && writtenThrough (adr index sub) v) = false → v ≠ Objs.val s.objs (adr index sub) →
    Completes (.ilrilWrite dt m index sub value) s fun t =>
      (adr index sub, v) ∈ t.ce.restartWrites ∧ t.objs = s.objs ∧ answerOf m x 0x11 0 (.write 0) ∈ t.out) ∧
  (∀ s dt m x index sub value c, Ready s m x (.write index sub value) →
    (s.tick dt).dictCheck x.role (adr index sub) value = .inl c →
    Completes (.ilrilWrite dt m index sub value) s fun t => t.objs = s.objs ∧ answerOf m x 0x11 c (.write 0) ∈ t.out) ∧
  (∀ s dt m x index sub value v, Writable s dt m x index sub value v → s.mirrors = true →
    writtenThrough (adr index sub) v = true → (s.tick dt).ownWrite m.session (adr index sub) v = none →
    Completes (.ilrilWrite dt m index sub value) s fun t =>
      Out.twinThrough (adr index sub) v ∈ t.out ∧ t.objs = s.objs ∧
        ∃ w ∈ t.tw.through, w.addr = adr index sub ∧ w.val = v ∧ w.sentAt = t.now ∧ w.answer.isSome = true) ∧
  (∀ s dt m x items, Ready s m x (.bulkRead items) →
    Completes (.ilrilBulkRead dt m items) s fun t =>
      ∃ l, l.length = items.length ∧ answerOf m x 0x12 0 (.bulkRead l) ∈ t.out) ∧
  (∀ s dt m x index sub b u, Ready s m x (.bulkRead [(index, sub)]) → look x.started (adr index sub) 0 ≤ m.seq →
    (s.tick dt).readItem (some m.session) x.role index sub = .inr (b, u) →
    (index < Obj.sessState ∨ Obj.sessNotifyLost < index) → b.length + 8 ≤ readRoom x.tcp →
    Completes (.ilrilBulkRead dt m [(index, sub)]) s fun t => answerOf m x 0x12 0 (.bulkRead [(0, b)]) ∈ t.out) ∧
  (∀ s dt m x items codes, Ready s m x (.bulkWrite items) →
    items.map (fun (i, sub, value) => (s.tick dt).dictCheck x.role (adr i sub) value) = codes.map .inl →
    (∀ i ∈ items, look x.started (adr i.1 i.2.1) 0 ≤ m.seq) →
    Completes (.ilrilBulkWrite dt m items) s fun t => t.objs = s.objs ∧ answerOf m x 0x13 0 (.bulkWrite codes) ∈ t.out) ∧
  (∀ s dt m x index sub value v r, Ready s m x (.bulkWrite [(index, sub, value)]) →
    look x.started (adr index sub) 0 ≤ m.seq → (s.tick dt).dictCheck x.role (adr index sub) value = .inr v →
    (s.tick dt).standCheck (adr index sub) v = none → (s.tick dt).ownWrite m.session (adr index sub) v = none →
    sub < 65536 → dictRow index sub = some r → r.commit = .immediate →
    (s.mirrors && writtenThrough (adr index sub) v) = false →
    Completes (.ilrilBulkWrite dt m [(index, sub, value)]) s fun t =>
      answerOf m x 0x13 0 (.bulkWrite [0]) ∈ t.out ∧
        (r.access = .rw → 0x2000 ≤ index → index < 0x7000 → index ≠ Obj.tarnCtrl → Objs.val t.objs (adr index sub) = v)) ∧
  (∀ s dt m x index sub value v r, Ready s m x (.bulkWrite [(index, sub, value)]) →
    look x.started (adr index sub) 0 ≤ m.seq → (s.tick dt).dictCheck x.role (adr index sub) value = .inr v →
    (s.tick dt).standCheck (adr index sub) v = none → (s.tick dt).ownWrite m.session (adr index sub) v = none →
    sub < 65536 → dictRow index sub = some r → r.commit = .frame →
    (s.mirrors && writtenThrough (adr index sub) v) = false →
    Completes (.ilrilBulkWrite dt m [(index, sub, value)]) s fun t =>
      t.ce.frameWrites = s.ce.frameWrites ++ [⟨adr index sub, v, t.boundaryAfterDeadline⟩] ∧
        answerOf m x 0x13 0 (.bulkWrite [0]) ∈ t.out)

/-- ILRIL_FENCE, FENCE_COMPLETE, FENCE_MISSING, NOTIFY_SEND, NOTIFY_RESEND and NOTIFY_ACK (R211, R466, R467, R469, R470, R575): a
FENCE below which nothing is outstanding is answered at once, and one that waits once what it waits for is done; a message
whose FENCE has not come for 100 ms is answered FENCE_MISSING; a due NOTIFY carries up to 64 entries; over UDP it goes out again
every 250 ms, four times, and then its entries count as lost; its acknowledgement ends that. -/
def Obligations.SessionsNotify : Prop :=
  (∀ s dt m x scope, Ready s m x (.fence scope) → (∀ q ∈ x.outstanding, m.seq ≤ q) →
    (scope = 1 → s.othersOutstanding m.session = []) →
    Completes (.ilrilFence dt m scope) s fun t =>
      answerOf m x 0x20 0 .none ∈ t.out ∧
        ∃ y, t.session m.session = some y ∧ ∃ f ∈ y.fences, f.seq = m.seq ∧ f.scope = scope ∧ f.complete = true) ∧
  (∀ s dt n seq x, s.awake → s.fenceReady n seq = true → s.session n = some x →
    Completes (.fenceComplete dt n seq) s fun t => Out.response n x.devSeq seq 0x20 0 0 .none ∈ t.out) ∧
  (∀ s dt n seq x h, s.awake → (s.tick dt).missing n seq = some h → s.session n = some x →
    Completes (.fenceMissing dt n seq) s fun t =>
      Out.response n x.devSeq seq h.req.type Code.fenceMissing 0 .none ∈ t.out ∧
        ∃ y, t.session n = some y ∧ ∀ g ∈ y.held, g.seq ≠ seq) ∧
  (∀ s dt n x, s.awake → s.il.ctlUp = true → s.session n = some x → x.notifyDue (s.now + dt) = true →
    Completes (.notifySend dt n) s fun t =>
      Out.notify n x.devSeq x.lost ((x.queue.take 64).map (·.1)) ∈ t.out ∧
        ∃ y, t.session n = some y ∧ y.queue = x.queue.drop 64 ∧ y.lost = 0 ∧ y.unacked.isNone = x.tcp) ∧
  (∀ s dt n x u, s.awake → s.session n = some x → x.unacked = some u → u.sentAt + 250000000 ≤ s.now + dt →
    Completes (.notifyResend dt n) s fun t =>
      ∃ y, t.session n = some y ∧
        (u.resends < 4 → Out.notify n u.seq u.lost u.entries ∈ t.out ∧
          y.unacked = some { u with sentAt := t.now, resends := u.resends + 1 }) ∧
        (4 ≤ u.resends → y.unacked = none ∧ y.lost = min (x.lost + u.entries.length) 0xFFFF)) ∧
  (∀ s dt m x u, s.awake → s.serves m = true → s.dropReason m = none → s.session m.session = some x →
    x.seen.contains m.seq = false → x.unacked = some u →
    Completes (.notifyAck dt m u.seq) s fun t => ∃ y, t.session m.session = some y ∧ y.unacked = none)

/-! ## Requests for one object -/

/-- LAYER_GFX_OFFSET, LAYER_GFX_DATA, LAYER_GFX_FLIP, COL_SHAPER_DATA, COL_LUT_OFFSET, COL_LUT_DATA and COL_TABLE_FLIP (R236, R263):
the write position, the bytes stored from it on, and a flip that waits for the boundary of R9. -/
def Obligations.TablesWritten : Prop :=
  (∀ s dt m x sub value (p : Nat), Acts s dt m x Obj.layerGfxOffset sub value (.num p) →
    Completes (.layerGfxOffset dt m sub value) s fun t => (t.layer sub).pos = p ∧ Answered m x t) ∧
  (∀ s dt m x sub value b, Acts s dt m x Obj.layerGfxData sub value (.bytes b) →
    Completes (.layerGfxData dt m sub value) s fun t =>
      (t.layer sub).back = storeBytes (s.layer sub).back (s.layer sub).pos b ∧
        (t.layer sub).pos = (s.layer sub).pos + b.length ∧ t.b Obj.layerGfxComplete sub = t.backFull sub ∧ Answered m x t) ∧
  (∀ s dt m x sub value v, Acts s dt m x Obj.layerGfxFlip sub value v →
    Completes (.layerGfxFlip dt m sub value) s fun t =>
      t.ce.frameWrites = s.ce.frameWrites ++ [⟨adr Obj.layerGfxFlip sub, v, t.boundaryAfterDeadline⟩] ∧
        answerOf m x 0x11 0 (.write (t.boundaryAfterDeadline / tcNs)) ∈ t.out) ∧
  (∀ s dt m x sub value b, Acts s dt m x Obj.colShaperData sub value (.bytes b) →
    Completes (.colShaperData dt m sub value) s fun t =>
      (t.stage sub).shaperBack = b ∧ bit (t.n Obj.colStageState sub) 3 = true ∧ Answered m x t) ∧
  (∀ s dt m x sub value (p : Nat), Acts s dt m x Obj.colLutOffset sub value (.num p) →
    Completes (.colLutOffset dt m sub value) s fun t => (t.stage sub).lutPos = p ∧ Answered m x t) ∧
  (∀ s dt m x sub value b, Acts s dt m x Obj.colLutData sub value (.bytes b) →
    Completes (.colLutData dt m sub value) s fun t =>
      (t.stage sub).lutBack = storeBytes (s.stage sub).lutBack (s.stage sub).lutPos b ∧
        (t.stage sub).lutPos = (s.stage sub).lutPos + b.length ∧ Answered m x t) ∧
  (∀ s dt m x sub value v, Acts s dt m x Obj.colTableFlip sub value v →
    Completes (.colTableFlip dt m sub value) s fun t =>
      t.ce.frameWrites = s.ce.frameWrites ++ [⟨adr Obj.colTableFlip sub, v, t.boundaryAfterDeadline⟩] ∧
        answerOf m x 0x11 0 (.write (t.boundaryAfterDeadline / tcNs)) ∈ t.out)

/-- METER_CLEAR, COUNTER_CLEAR_WRITE, LATENCY_CLEAR, WS_HISTORY_CLEAR, PHASE_HISTOGRAM_CLEAR, LOCKOUT_CLEAR, HEALTH_CLEAR, MON_CLEAR
and MON_CONFIG_WRITE (R33, R296, R359, R484, R490, R560, R565, R567): TRUE written to a clear object puts its counters back to their
defaults and clears their PINNED bits; the lock-outs are gone; the sticky health reasons are clear; a capture unit is emptied
and restarts, and one whose settings are written restarts with them. -/
def Obligations.ClearsClear : Prop :=
  (∀ s dt m x index sub value, meterClears.contains index = true → Acts s dt m x index sub value (.num 1) →
    Completes (.meterClear dt m index sub value) s fun t =>
      (∀ i ∈ clearedBy index, Objs.val t.objs (adr i sub) = objDefault (adr i sub) ∧ adr i sub ∉ t.pinned) ∧ Answered m x t) ∧
  (∀ s dt m x index sub value, counterClears.contains index = true → Acts s dt m x index sub value (.num 1) →
    Completes (.counterClearWrite dt m index sub value) s fun t =>
      (∀ i ∈ clearedBy index, Objs.val t.objs (adr i sub) = objDefault (adr i sub) ∧ adr i sub ∉ t.pinned) ∧
        (∀ p ∈ clearedAll index, ∀ k, Objs.val t.objs (adr p.1 k) = objDefault (adr p.1 k)) ∧ Answered m x t) ∧
  (∀ s dt m x sub value, Acts s dt m x Obj.latencyClear sub value (.num 1) →
    Completes (.latencyClear dt m sub value) s fun t =>
      Objs.val t.objs (adr Obj.latencyMin sub) = objDefault (adr Obj.latencyMin sub) ∧
        Objs.val t.objs (adr Obj.latencyMax sub) = objDefault (adr Obj.latencyMax sub) ∧ Answered m x t) ∧
  (∀ s dt m x value, Acts s dt m x Obj.wsHistoryClear 0 value (.num 1) →
    Completes (.wsHistoryClear dt m value) s fun t =>
      t.n Obj.wsHistory 0 = 0 ∧ t.n Obj.wsRefSwitches 0 = 0 ∧
        (∀ r < 11, t.n Obj.refHistory r = 0 ∧ t.n Obj.refLosses r = 0 ∧ t.n Obj.refInvalidPulses r = 0) ∧ Answered m x t) ∧
  (∀ s dt m x value, Acts s dt m x Obj.phaseHistogramClear 0 value (.num 1) →
    Completes (.phaseHistogramClear dt m value) s fun t =>
      Objs.val t.objs (adr Obj.wsPhaseHistogram 0) = objDefault (adr Obj.wsPhaseHistogram 0) ∧ t.ws.histStart = t.ptp ∧
        Answered m x t) ∧
  (∀ s dt m x value, Acts s dt m x Obj.lockoutClear 0 value (.num 1) →
    Completes (.lockoutClear dt m value) s fun t => t.il.lockouts = [] ∧ Answered m x t) ∧
  (∀ s dt m x value, Acts s dt m x Obj.healthClear 0 value (.num 1) →
    Completes (.healthClear dt m value) s fun t =>
      bit (t.n Obj.healthReasons 0) 0 = false ∧ bit (t.n Obj.healthReasons 0) 5 = false ∧
        t.n Obj.healthState 0 = healthOf (t.n Obj.healthReasons 0) ∧ Answered m x t) ∧
  (∀ s dt m x sub value, Acts s dt m x Obj.monClear sub value (.num 1) →
    Completes (.monClear dt m sub value) s fun t =>
      Objs.val t.objs (adr Obj.monPrevious sub) = objDefault (adr Obj.monPrevious sub) ∧ t.n Obj.monState sub = t.monStateOf sub ∧
        (t.monStateOf sub = 1 → t.by Obj.monHistogram sub = (t.monFresh sub t.ptp).encode) ∧ Answered m x t) ∧
  (∀ s dt m x index sub value v, Obj.monKind ≤ index → index ≤ Obj.monAlarm → Acts s dt m x index sub value v →
    Completes (.monConfigWrite dt m index sub value) s fun t =>
      Objs.val t.objs (adr index sub) = v ∧
        (index ≠ Obj.monPeriod → index ≠ Obj.monAlarm → t.n Obj.monState sub = t.monStateOf sub) ∧ Answered m x t)

/-- ROLE_KEY_CHANGED, OWNER_LOCK_CHANGE, OWNER_KEY_PROGRAM, OWNER_KEY_REVOKE, SUBSCRIPTION_WRITE and STORE_SAVE_NOW (R486, R491, R492,
R494, R498): the role's key is as written, or absent, and every session of the role ends after the answer; the owner lock
changes with its time and event; the lowest EMPTY owner key slot is burned and ACTIVE, and a revoked one REVOKED; the session has
the subscription; a save starts, which will answer the request. -/
def Obligations.KeysAndStore : Prop :=
  (∀ s dt m x sub value b, Acts s dt m x Obj.roleKey sub value (.bytes b) →
    Completes (.roleKeyChanged dt m sub value) s fun t =>
      t.il.roleKeys = keysAfter s.il.roleKeys sub b ∧ t.n Obj.roleKeyChangedAt sub = t.ptp ∧
        (∀ p ∈ t.il.sessions, p.2.role ≠ sub) ∧ Answered m x t) ∧
  (∀ s dt m x value (on : Bool), Acts s dt m x Obj.ownerLock 0 value (.num (b2n on)) → s.b Obj.ownerLock 0 ≠ on →
    Completes (.ownerLockChange dt m value) s fun t =>
      t.b Obj.ownerLock 0 = on ∧ t.n Obj.ownerLockChangedAt 0 = t.ptp ∧ Raised Ev.ownerLockChange (b2n on) s t ∧ Answered m x t) ∧
  (∀ s dt m x value b k, Acts s dt m x Obj.ownerKeyProgram 0 value (.bytes b) → s.emptySlot = some k →
    Completes (.ownerKeyProgram dt m value) s fun t =>
      look t.up.ownerHashes k [] = b ∧ look t.up.ownerStates k 0 = 1 ∧ Raised Ev.ownerKeyChange k s t ∧ Answered m x t) ∧
  (∀ s dt m x value (k : Nat), Acts s dt m x Obj.ownerKeyRevoke 0 value (.num k) →
    Completes (.ownerKeyRevoke dt m value) s fun t =>
      look t.up.ownerStates k 0 = 2 ∧ Raised Ev.ownerKeyChange k s t ∧ Answered m x t) ∧
  (∀ s dt m x value b, Acts s dt m x Obj.subscription 0 value (.bytes b) →
    Completes (.subscriptionWrite dt m value) s fun t =>
      (∃ y, t.session m.session = some y ∧ y.subscription = b) ∧ Answered m x t) ∧
  (∀ s dt m x value, Acts s dt m x Obj.storeSaveNow 0 value (.num 1) → s.boot.uplandRuns = true → s.st.save = none →
    (∀ a, s.st.lastStart = some a → a + 1000000000 ≤ s.now + dt) →
    Completes (.storeSaveNow dt m value) s fun t =>
      t.st.lastStart = some t.now ∧
        ∃ y, t.st.save = some y ∧ y.slot = s.saveSlot ∧ ⟨.request m.session m.seq, 0x11, .write t.ptp, 0, []⟩ ∈ y.replies)

/-- UPDATE_BEGIN, UPDATE_DATA, UPDATE_COMMIT, UPDATE_ACTIVATE, UPDATE_ABORT and HEALTH_CONFIRM (R584 to R589, R591): the target slot is
erased and receives; data that continues what has been received is programmed; an image that passes every check is STAGED with
its version, and one that fails ends the update with its code; its activation names it as trial and restarts the device, after the
answer; an abort ends it; a confirmation within the window makes the trial image the active one and burns its security version. -/
def Obligations.UpdateRequests : Prop :=
  (∀ s dt m x value (kind : Nat), Acts s dt m x Obj.updateBegin 0 value (.num kind) → s.updateChecks 0 = none →
    Completes (.updateBegin dt m value) s fun t =>
      t.n Obj.updateState 0 = 1 ∧ t.n Obj.updateReceived 0 = 0 ∧ t.n Obj.updateResult 0 = 0 ∧ t.up.session = m.session ∧
        t.up.slot = s.targetSlot kind ∧ Answered m x t ∧
        ∀ a, slotBase kind t.up.slot ≤ a → a < slotBase kind t.up.slot + slotSize kind → t.flashByte a = 0xFF) ∧
  (∀ s dt m x value (kind : Nat) c, Acts s dt m x Obj.updateBegin 0 value (.num kind) → s.updateChecks 0 = some c →
    Completes (.updateBegin dt m value) s fun t =>
      t.n Obj.updateResult 0 = c ∧ t.n Obj.updateState 0 = s.n Obj.updateState 0 ∧ Raised Ev.updateRefused c s t ∧
        answerOf m x 0x11 c (.write 0) ∈ t.out) ∧
  (∀ s dt m x value (b : List Byte), Acts s dt m x Obj.updateData 0 value (.bytes b) → s.n Obj.updateState 0 = 1 →
    s.up.session = m.session →
    fromBe (b.take 4) = s.n Obj.updateReceived 0 →
    s.n Obj.updateReceived 0 + (b.drop 4).length ≤ imageLimit s.up.kind →
    (∀ k < (b.drop 4).length, s.flashByte (slotBase s.up.kind s.up.slot + s.n Obj.updateReceived 0 + k) = 0xFF) →
    Completes (.updateData dt m value) s fun t =>
      t.n Obj.updateReceived 0 = s.n Obj.updateReceived 0 + (b.drop 4).length ∧
        t.flashBytes (slotBase s.up.kind s.up.slot + s.n Obj.updateReceived 0) (b.drop 4).length = b.drop 4 ∧ Answered m x t) ∧
  (∀ s dt m x value, Acts s dt m x Obj.updateCommit 0 value (.num 1) → s.n Obj.updateState 0 = 1 → s.up.session = m.session →
    Completes (.updateCommit dt m value) s fun t =>
      let base := slotBase s.up.kind s.up.slot
      let fault := s.imageFault s.up.kind base (s.boot.stage == .recovery)
      (s.imageLength base = s.n Obj.updateReceived 0 → fault = none →
        t.n Obj.updateState 0 = 3 ∧ t.n Obj.stagedVersion 0 = s.imageVersion base ∧ Raised Ev.updateStaged s.up.kind s t ∧
          Answered m x t) ∧
        (∀ c, s.imageLength base = s.n Obj.updateReceived 0 ∨ s.headerOk s.up.kind base = false → fault = some c →
          t.n Obj.updateState 0 = 0 ∧ t.n Obj.updateResult 0 = c ∧ answerOf m x 0x11 c (.write 0) ∈ t.out)) ∧
  (∀ s dt m x value, Acts s dt m x Obj.updateActivate 0 value (.num 1) → s.updateChecks 3 = none →
    Completes (.updateActivate dt m value) s fun t =>
      t.boot.stage = .rom ∧ t.boot.cause = (if s.boot.stage = .recovery then 7 else 5) ∧ t.up.activating = true ∧
        t.up.ctl.trial = some (s.up.kind, s.up.slot) ∧ t.il.sessions = [] ∧
        answerOf m x 0x11 0 (.write (s.tick dt).ptp) ∈ t.out) ∧
  (∀ s dt m x value, Acts s dt m x Obj.updateAbort 0 value (.num 1) →
    (s.n Obj.updateState 0 = 1 ∨ s.n Obj.updateState 0 = 3) →
    Completes (.updateAbort dt m value) s fun t =>
      t.n Obj.updateState 0 = 0 ∧ t.n Obj.updateResult 0 = 0 ∧ Answered m x t) ∧
  (∀ s dt m x value kind slot e, Acts s dt m x Obj.healthConfirm 0 value (.num 1) → s.up.ctl.trial = some (kind, slot) →
    s.up.windowEnds = some e → s.now + dt ≤ e →
    Completes (.healthConfirm dt m value) s fun t =>
      t.up.ctl.trial = none ∧ t.n Obj.updateState 0 = 0 ∧ s.imageSecurity (slotBase kind slot) ≤ t.up.rollback ∧
        (kind = 1 → t.up.ctl.patchActive = slot) ∧ (kind = 2 → t.up.ctl.uplandActive = slot) ∧
        Raised Ev.updateConfirmed kind s t ∧ Answered m x t)

/-- DEVICE_RESTART_SOFT and DEVICE_RESTART_HARD (R524, R619, R620): a SOFT restart waits while a salvo is PENDING; else, and for a
HARD one, the request is answered, every session ends, and the ROM stage begins with the cause of the restart. -/
def Obligations.RestartRequests : Prop :=
  (∀ s dt m x, Acts s dt m x Obj.deviceRestart 0 (beBytes 2 1) (.num 1) → s.anyPending = false →
    Completes (.deviceRestartSoft dt m) s fun t =>
      t.boot.stage = .rom ∧ t.boot.cause = 2 ∧ t.boot.soft = true ∧ t.il.sessions = [] ∧
        answerOf m x 0x11 0 (.write (s.tick dt).ptp) ∈ t.out) ∧
  (∀ s dt m x, Acts s dt m x Obj.deviceRestart 0 (beBytes 2 1) (.num 1) → s.anyPending = true →
    Completes (.deviceRestartSoft dt m) s fun t =>
      t.boot.softWait = true ∧ t.boot.stage = s.boot.stage ∧
        ⟨.request m.session m.seq, 0x11, .write t.ptp, 0, []⟩ ∈ t.boot.softReplies) ∧
  (∀ s dt m x, Acts s dt m x Obj.deviceRestart 0 (beBytes 2 2) (.num 2) →
    Completes (.deviceRestartHard dt m) s fun t =>
      t.boot.stage = .rom ∧ t.boot.cause = 3 ∧ t.il.sessions = [] ∧ t.tc = 0 ∧
        answerOf m x 0x11 0 (.write (s.tick dt).ptp) ∈ t.out)

/-! ## Salvos and the house frame boundary (chapter 06) -/

/-- SALVO_OPEN, SALVO_ADD, SALVO_REMOVE and SALVO_CLEAR (R187 to R189): OPEN gives its session the lowest FREE salvo, or the DONE one
with the oldest boundary; its owner adds, removes and clears changes while it is STAGED; each answer says the salvo's state and
the number of its changes. -/
def Obligations.SalvoBuilds : Prop :=
  (∀ s dt m x k, Ready s m x (.salvo .open_) → s.standby = false → 1 ≤ x.role → s.openChoice = some k →
    Completes (.salvoOpen dt m) s fun t =>
      (t.salvo k).state = .staged ∧ (t.salvo k).owner = m.session ∧ (t.salvo k).changes = [] ∧
        answerOf m x 0x30 0 (.salvo k 1 0 0xFFFF 0) ∈ t.out) ∧
  (∀ s dt m x n index sub value v k l, Ready s m x (.salvo (.add n (adr index sub) value)) → s.standby = false →
    s.ce.wait = none → (s.salvo n).state = .staged → (s.salvo n).owner = m.session →
    addCheck (Objs.overlay s.objs (s.salvo n).changes) x.role (adr index sub) value = .inr v →
    addChange (s.salvo n).changes (adr index sub) v = some (k, l) →
    Completes (.salvoAdd dt m n index sub value) s fun t =>
      (t.salvo n).changes = l ∧ (t.salvo n).state = .staged ∧ answerOf m x 0x30 0 (.salvo n 1 l.length k 0) ∈ t.out) ∧
  (∀ s dt m x n index sub, Ready s m x (.salvo (.remove n (adr index sub))) → s.standby = false → s.ce.wait = none →
    (s.salvo n).state = .staged → (s.salvo n).owner = m.session →
    Completes (.salvoRemove dt m n index sub) s fun t =>
      (t.salvo n).changes = ((s.salvo n).changes.filter fun c => c.addr != adr index sub) ∧
        answerOf m x 0x30 0 (.salvo n 1 (t.salvo n).changes.length 0xFFFF 0) ∈ t.out) ∧
  (∀ s dt m x n, Ready s m x (.salvo (.clear n)) → s.standby = false → s.ce.wait = none →
    (s.salvo n).state = .staged → (s.salvo n).owner = m.session →
    Completes (.salvoClear dt m n) s fun t =>
      (t.salvo n).changes = [] ∧ answerOf m x 0x30 0 (.salvo n 1 0 0xFFFF 0) ∈ t.out)

/-- SALVO_ARM, SALVO_DISARM and SALVO_DISCARD, and the refusal of an ARM (R189, R193 to R196, R214), on a device that mirrors to no
standby: the salvo that passes the checks is ARMED with its read set, the one that fails stays STAGED with the code and is
counted; DISARM makes it STAGED again; DISCARD makes it FREE. -/
def Obligations.SalvoArms : Prop :=
  (∀ s dt m x n reads pre, Ready s m x (.salvo (.arm n)) → s.standby = false → s.mirrors = false → s.ce.wait = none →
    (s.salvo n).state = .staged → (s.salvo n).owner = m.session → m.session < 16 →
    (s.tick dt).armChecks n (s.salvo n).changes (s.salvo n).role = .passed reads pre →
    Completes (.salvoArm dt m n) s fun t =>
      (t.salvo n).state = .armed ∧ (t.salvo n).reads = reads ∧ (t.salvo n).armedAt = t.ptp ∧ (t.salvo n).result = 0 ∧
        Raised Ev.salvoArmed n s t ∧ answerOf m x 0x30 0 (.salvo n 3 (s.salvo n).changes.length 0xFFFF 0) ∈ t.out) ∧
  (∀ s dt m x n code detail, Ready s m x (.salvo (.arm n)) → s.standby = false → s.ce.wait = none →
    (s.salvo n).state = .staged → (s.salvo n).owner = m.session →
    (s.tick dt).armChecks n (s.salvo n).changes (s.salvo n).role = .refused code detail →
    Completes (.salvoArm dt m n) s fun t =>
      (t.salvo n).state = .staged ∧ (t.salvo n).result = code ∧ (t.salvo n).detail = detail ∧
        Counted Obj.armRefusals 0 1 s t ∧ Raised Ev.salvoRefused n s t) ∧
  (∀ s dt m x n, Ready s m x (.salvo (.disarm n)) → s.standby = false → s.mirrors = false → s.ce.wait = none →
    (s.salvo n).state = .armed → (s.salvo n).owner = m.session →
    Completes (.salvoDisarm dt m n) s fun t =>
      (t.salvo n).state = .staged ∧ (t.salvo n).changes = (s.salvo n).changes ∧ (t.salvo n).reads = [] ∧
        answerOf m x 0x30 0 (.salvo n 1 (s.salvo n).changes.length 0xFFFF 0) ∈ t.out) ∧
  (∀ s dt m x n, Ready s m x (.salvo (.discard n)) → s.standby = false → s.mirrors = false → s.ce.wait = none →
    (s.salvo n).state ∈ [.staged, .armed, .done] → ((s.salvo n).owner = m.session ∨ x.role = 3) →
    Completes (.salvoDiscard dt m n) s fun t =>
      t.salvo n = {} ∧ answerOf m x 0x30 0 (.salvo n 0 0 0xFFFF 0) ∈ t.out)

/-- SALVO_TAKE, SALVO_MIRROR_ACK, TAKE_MIRROR_ACK and MIRROR_TIMEOUT (R201, R202, R206, R207): an ARMED salvo whose reads stand, that
no conflict meets and whose boundary is neither too near nor too far is PENDING for it; on a device that mirrors, the standby's
acknowledgement within 2.0 ms, or the end of that time, lets an ARM or a TAKE go on. -/
def Obligations.SalvoTakes : Prop :=
  (∀ s dt m x n implicitArm at_ b, Ready s m x (.salvo (.take n implicitArm at_)) → s.standby = false → s.mirrors = false →
    s.ce.wait = none → s.boot.softWait = false → 1 ≤ x.role → (s.salvo n).state = .armed →
    b = (s.tick dt).takeBoundary at_ → (s.tick dt).readsStale n b = false →
    (s.tick dt).orderConflict ⟨m.session, m.seq, .request m.session m.seq, .take n implicitArm at_⟩ n b = false →
    (s.tick dt).takeTiming at_ b = none →
    Completes (.salvoTake dt m n implicitArm at_) s fun t =>
      (t.salvo n).state = .pending ∧ (t.salvo n).boundary = b ∧ (t.salvo n).accepted = s.ce.takes + 1 ∧
        answerOf m x 0x30 0 (.salvo n 4 (s.salvo n).changes.length 0xFFFF (b / tcNs)) ∈ t.out) ∧
  (∀ s dt n e b sentAt, s.awake → s.ce.wait = some ⟨e, false, b, sentAt, false⟩ → e.op = .arm n → s.ce.queue = [] →
    (s.salvo n).owner ≠ 0xFFFF → s.now + dt ≤ sentAt + 2000000 →
    Completes (.salvoMirrorAck dt n) s fun t =>
      (t.salvo n).state = .armed ∧ (t.salvo n).mirror = 1 ∧ t.ce.wait = none ∧ Raised Ev.salvoArmed n s t) ∧
  (∀ s dt n e b sentAt, s.awake → s.ce.wait = some ⟨e, false, b, sentAt, false⟩ → e.op = .arm n → s.ce.queue = [] →
    (s.salvo n).owner ≠ 0xFFFF → sentAt + 2000000 ≤ s.now + dt →
    Completes (.mirrorTimeout dt n) s fun t =>
      (t.salvo n).state = .armed ∧ (t.salvo n).mirror = 3 ∧ t.ce.wait = none ∧ t.tw.mirrorLost = true) ∧
  (∀ s dt n implicitArm at_ e b sentAt, s.awake → s.ce.wait = some ⟨e, true, b, sentAt, false⟩ → e.op = .take n implicitArm at_ →
    s.ce.queue = [] → s.now + dt ≤ sentAt + 2000000 → (s.tick dt).takeBoundary at_ = b →
    (s.tick dt).takeTiming at_ b = none →
    Completes (.takeMirrorAck dt n) s fun t =>
      (t.salvo n).state = .pending ∧ (t.salvo n).boundary = b ∧ (t.salvo n).mirror = 1 ∧ t.ce.wait = none)

/-- HOUSE_FRAME_BOUNDARY (R9, R204, R205, R213): each boundary acts once. Where the essence path runs, no Frame-class write that is
due there waits any longer, and of an unpaired device no salvo that was PENDING for it or an earlier one: it is DONE. The value
of a due write is in force; a salvo's routes are in force, and name its boundary and it. In a device that is awake and whose
essence path does not run yet the boundary has passed too. -/
def Obligations.BoundaryActs : Prop :=
  (∀ s dt b, s.awake → b = (s.tick dt).boundaryNow → s.ce.lastBoundary < b →
    Completes (.houseFrameBoundary dt) s fun t => t.ce.lastBoundary = b ∧ (s.live = true → ∀ w ∈ t.ce.frameWrites, b < w.due)) ∧
  (∀ s dt, s.awake → (s.tick dt).boundaryNow ≤ s.ce.lastBoundary →
    Completes (.houseFrameBoundary dt) s fun t => t = s.tick dt) ∧
  (∀ s dt b, s.on → s.n Obj.twinPaired 0 = 0 → b = (s.tick dt).boundaryNow → s.ce.lastBoundary < b →
    Completes (.houseFrameBoundary dt) s fun t =>
      ∀ n, (s.salvo n).state = .pending → (s.salvo n).boundary ≤ b → (t.salvo n).state = .done) ∧
  (∀ s dt b w, s.on → s.n Obj.twinPaired 0 = 0 → s.boot.restoreDue = none → b = (s.tick dt).boundaryNow →
    s.ce.lastBoundary < b → s.ce.frameWrites = [w] → w.due ≤ b → commitOf w.addr = .frame → s.ce.salvos = [] →
    adrIndex w.addr ≠ Obj.layerGfxFlip → adrIndex w.addr ≠ Obj.colTableFlip →
    Completes (.houseFrameBoundary dt) s fun t => Objs.val t.objs w.addr = w.val ∧ t.ce.frameWrites = []) ∧
  (∀ s dt b n y k d (r : Nat), s.on → s.n Obj.twinPaired 0 = 0 → s.boot.restoreDue = none →
    b = (s.tick dt).boundaryNow → s.ce.lastBoundary < b → s.ce.frameWrites = [] → s.ce.salvos = [(n, y)] →
    y.state = .pending → y.boundary ≤ b → (y.changes.map (·.addr)).Nodup → d < 65536 →
    (∀ c ∈ y.changes, commitOf c.addr = .take ∨ commitOf c.addr = .frame) →
    ⟨k, adr Obj.route d, .num r⟩ ∈ y.changes → s.n Obj.route d ≠ r →
    Completes (.houseFrameBoundary dt) s fun t =>
      (t.salvo n).state = .done ∧ t.n Obj.route d = r ∧ t.n Obj.routeTakenAt d = y.boundary / tcNs ∧
        t.n Obj.routeSalvo d = n ∧ Raised Ev.salvoTaken n s t)

/-! ## Cornice and the Tarn ports (chapters 09, 10) -/

/-- CORNICE_BLOCK, AU_INPUT_RATE, TAP_CHANGE_START, CROSSFADE_END, METER_PERIOD and LOUDNESS_UPDATE (R274, R277, R288 to R291, R296,
R297): a block takes the 16 words of a delivered 96 kHz channel; the deviation of a 48 kHz input decides its converter's state;
a due tap change starts, or waits for the running crossfade and is counted; a crossfade ends, and a waiting change starts; a
meter period reports its largest sample, and the latency and the origin of its first output sample, and begins anew; a group's loudness and its maximum are reported, and an excess of
its limit is raised once. -/
def Obligations.AudioRuns : Prop :=
  (∀ s dt inputs ch ws, s.on → ch ≤ 32767 → inputs.lookup ch = some ws → s.aiDelivers ch = true → Objs.aiRate s.objs ch ≠ 1 →
    (s.strip ch).queue = [] → ws.length = 16 → (∀ w ∈ ws, -8388608 ≤ w ∧ w ≤ 8388607) → s.au.block < (s.tick dt).blockNo →
    Completes (.corniceBlock dt inputs) s fun t => (t.strip ch).input.take 16 = ws.reverse) ∧
  (∀ s dt ch (ppb : Int), s.on → ch ≤ 32767 → Objs.aiRate s.objs ch = 1 → (s.strip ch).ratedAt + 1000000000 ≤ s.now + dt →
    Completes (.auInputRate dt ch ppb) s fun t =>
      t.i Obj.aiRateDeviation ch = ppb ∧
        t.n Obj.aiConverter ch = (if ppb.natAbs ≤ 500 then 1 else if ppb.natAbs ≤ 1000000 then 2 else 3) ∧
        (t.n Obj.aiConverter ch ≠ s.n Obj.aiConverter ch → Raised Ev.auInputRate ch s t)) ∧
  (∀ s dt o tap a, s.on → (s.aout o).due = some (tap, a) → a ≤ (s.tick dt).ptp → (s.aout o).fading = false →
    (s.aout o).waiting = none →
    Completes (.tapChangeStart dt o) s fun t =>
      (t.aout o).tap = tap ∧ (t.aout o).due = none ∧ t.n Obj.aoPathInForce o = tapCode tap) ∧
  (∀ s dt o tap a, s.on → (s.aout o).due = some (tap, a) → a ≤ (s.tick dt).ptp → (s.aout o).old.isSome = true →
    (s.aout o).fadePos + (onRate (s.aoRate o) (ceilDiv (96000 * a) 1000000000) - (s.aout o).pos) < (s.aout o).fadeLen →
    Completes (.tapChangeStart dt o) s fun t =>
      (t.aout o).waiting = some tap ∧ (t.aout o).tap = (s.aout o).tap ∧ Counted Obj.aoTapsDeferred o 1 s t) ∧
  (∀ s dt o e, s.on → (s.aout o).old.isSome = true → e = (s.aout o).pos + ((s.aout o).fadeLen - (s.aout o).fadePos) →
    1000000000 * e ≤ 96000 * (s.tick dt).ptp →
    (∀ d, (s.aout o).due = some d → 1000000000 * onRate (s.aoRate o) e ≤ 96000 * d.2) →
    Completes (.crossfadeEnd dt o) s fun t =>
      (t.aout o).waiting = none ∧ (t.aout o).tap = (s.aout o).waiting.getD (s.aout o).tap ∧
        ((s.aout o).waiting = none → (t.aout o).old = none)) ∧
  (∀ s dt ch x, s.on → (s.au.strips.map (·.1)).Nodup → (∀ p ∈ s.au.strips, p.1 < 65536) → (ch, x) ∈ s.au.strips →
    Completes (.meterPeriod dt) s fun t =>
      t.i Obj.aiPeak ch = levelOf fullScale x.meter.peak ∧ (t.strip ch).meter.peak = 0) ∧
  (∀ s dt o x kind (v : Nat), s.on → (s.au.outs.map (·.1)).Nodup → (∀ p ∈ s.au.outs, p.1 < 65536) → (o, x) ∈ s.au.outs →
    x.first = some (kind, (v : Int)) →
    Completes (.meterPeriod dt) s fun t =>
      t.n Obj.aoLatencyLast o = v ∧ t.n Obj.aoOriginKind o = kind ∧ (t.aout o).first = none) ∧
  (∀ s dt g, s.on → g ≤ 255 →
    Completes (.loudnessUpdate dt g) s fun t =>
      t.i Obj.loudShortTermMax g = max (t.i Obj.loudShortTerm g) (s.i Obj.loudShortTermMax g) ∧
        -12800 ≤ t.i Obj.loudShortTerm g ∧
        (s.i Obj.loudLimit g ≠ 0x7FFF → s.i Obj.loudLimit g < t.i Obj.loudShortTerm g → g ∉ s.au.loudOver →
          g ∈ t.au.loudOver ∧ Raised Ev.auLoudOver g s t))

/-- TARN_EN_WRITE, TARN_GO, TARN_TRIG_EDGE, TARN_STARTED and TARN_FRAME_START (R307, R312, R314 to R320): a write that enables a master
port starts it at the first multiple of its period at least 4 µs away, with its nominal rate as the measured one, and a setting that
R307 forbids sets CFG_ERR; a group start takes its instant at once or at the trigger, and reports it; frame 0 sets RUNNING, later
frames count, none begins before its place, and that of the next one of a master is a frame period later; a frame's received words
reach the FIFO, and a transmit FIFO that lacks a frame keeps its words and sets UNDERRUN. -/
def Obligations.TarnStarts : Prop :=
  (∀ s dt p v c, s.awake → p < 8 → v < 2 ^ 25 → c = (if tpMode v = 2 then setBit v 3 true else v) → tpMaster c = true →
    bit v 0 = true → tpCfgBad c = false → bit (s.regN (tpReg p Tp.ctrl)) 0 = false → bit (s.regN Reg.trnGrpctl) p = false →
    Completes (.tarnEnWrite dt p v) s fun t =>
      t.regN (tpReg p Tp.ctrl) = c ∧ (t.tp p).startAt = some (t.tarnStart (tpPeriod c)) ∧
        t.regN (tpReg p 0x24) = tpHz c * 1000 ∧ t.regN (tpReg p 0x28) = 0) ∧
  (∀ s dt p v c, s.awake → p < 8 → v < 2 ^ 25 → c = (if tpMode v = 2 then setBit v 3 true else v) → bit v 0 = true →
    tpCfgBad c = true → bit (s.regN (tpReg p Tp.ctrl)) 0 = false →
    Completes (.tarnEnWrite dt p v) s fun t =>
      t.tctrlBit p 0 = false ∧ t.tstat p 12 = true ∧ Raised Ev.tarnCfgErr p s t) ∧
  (∀ s dt v, s.awake → bit v 0 = true → bit (s.regN Reg.trnGrpgo) 0 = false →
    Completes (.tarnGo dt v) s fun t =>
      t.regN Reg.trnGrpgo = 1 ∧
        t.tarn.t0 = if bit (s.regN Reg.trnGrpctl) 8 then s.tarn.t0 else some (t.tarnStart s.tarnPeriod)) ∧
  (∀ s dt, s.awake → bit (s.regN Reg.trnGrpgo) 0 = true → bit (s.regN Reg.trnGrpctl) 8 = true → s.tarn.t0 = none →
    Completes (.tarnTrigEdge dt) s fun t => t.tarn.t0 = some (t.tarnStart s.tarnPeriod)) ∧
  (∀ s dt a, s.awake → s.tarn.t0 = some a → a ≤ (s.tick dt).tc →
    Completes (.tarnStarted dt) s fun t =>
      t.tarn.t0 = none ∧ t.regN Reg.trnGrpgo = 0 ∧ t.regN 0x4005000C = a / tcNs / 1000000000 % 2 ^ 32 ∧
        t.regN 0x40050010 = a / tcNs % 1000000000 ∧
        ∀ p ∈ s.tarnMembers, tpMaster (s.regN (tpReg p Tp.ctrl)) = true → (t.tp p).startAt = some a) ∧
  (∀ s dt p rx clip a, s.awake → p < 8 → s.tarnFrameAt p = some a → a ≤ (s.tick dt).tc → (s.tp p).startAt.isSome = true →
    Completes (.tarnFrameStart dt p rx clip) s fun t =>
      (t.tp p).startAt = none ∧ (t.tp p).count = 0 ∧ t.tstat p 0 = true) ∧
  (∀ s dt p rx clip a, s.awake → p < 8 → s.tarnFrameAt p = some a → a ≤ (s.tick dt).tc → (s.tp p).startAt = none →
    (s.tp p).count < 2 ^ 48 - 1 →
    Completes (.tarnFrameStart dt p rx clip) s fun t => (t.tp p).count = (s.tp p).count + 1) ∧
  (∀ s dt p rx clip, s.awake → (∀ a, s.tarnFrameAt p = some a → (s.tick dt).tc < a) →
    Completes (.tarnFrameStart dt p rx clip) s fun t => t = s.tick dt) ∧
  (∀ s dt p rx clip per k, s.awake → p < 8 → s.tarnOwn p = true → per = tpPeriod (s.regN (tpReg p Tp.ctrl)) →
    s.tarnFrameAt p = some (gridPoint per k) → gridPoint per k ≤ (s.tick dt).tc →
    Completes (.tarnFrameStart dt p rx clip) s fun t => t.tarnFrameAt p = some (gridPoint per (k + 1))) ∧
  (∀ s dt p rx clip c a, s.awake → p < 8 → c = s.regN (tpReg p Tp.ctrl) → s.tarnFrameAt p = some a → a ≤ (s.tick dt).tc →
    tpMode c ≠ 2 → bit c 22 = false → (s.tp p).rxPend = none → (s.tp p).rxBytes = [] →
    (s.tp p).rxFifo.length + (enabledSlots c (s.tp p).rxMask).length ≤ 128 →
    Completes (.tarnFrameStart dt p rx clip) s fun t =>
      (t.tp p).rxFifo = (s.tp p).rxFifo ++ (enabledSlots c (s.tp p).rxMask).map fun k =>
        ofSigned 32 (slotReceive (tpSlotWidth c) (sat24 (rx.getD k 0)))) ∧
  (∀ s dt p rx clip c a, s.awake → p < 8 → c = s.regN (tpReg p Tp.ctrl) → s.tarnFrameAt p = some a → a ≤ (s.tick dt).tc →
    tpMode c ≠ 2 → bit c 21 = true → (s.tp p).txPend = none →
    takeTx (bit c 22) (enabledSlots c (s.tp p).txMask).length (s.tp p) = none →
    Completes (.tarnFrameStart dt p rx clip) s fun t => t.tstat p 8 = true ∧ (t.tp p).txFifo = (s.tp p).txFifo)

/-- TARN_MASK_WRITE, TARN_FS_EDGE, TARN_FS_LOST, TARN_RATE_MEASURE, TARN_RXFIFO_READ, TARN_TXFIFO_WRITE and TARN_FCNT_LATCH (R312,
R313, R317, R321, R324): a mask waits for a frame start; the first FS edge at or after its instant starts a slave; FS lost for two
frame periods is a sticky status and an event; a slave's rate, its deviation and the rate code that it has are measured; a FIFO gives its oldest word and takes one, and an
access that it cannot serve sets OVERRUN; a read of the frame counter latches its upper half. -/
def Obligations.TarnServes : Prop :=
  (∀ s dt p tx v late, s.awake → p < 8 →
    Completes (.tarnMaskWrite dt p tx v late) s fun t =>
      t.regN (tpReg p (if tx then Tp.txMask else Tp.rxMask)) = v % 2 ^ 32 ∧
        bit (t.regN (tpReg p Tp.maskStat)) (b2n tx) = true ∧
        (if tx then (t.tp p).txPend else (t.tp p).rxPend) = some (v % 2 ^ 32, t.tc, late)) ∧
  (∀ s dt p, s.awake → p < 8 → s.tctrlBit p 0 = true → s.tarnOwn p = false →
    Completes (.tarnFsEdge dt p) s fun t =>
      t.tstat p 1 = true ∧ (t.tp p).fsAt = t.now ∧
        (∀ a, (s.tp p).waitFs = some a → a ≤ t.tc → (t.tp p).startAt = some t.tc ∧ (t.tp p).waitFs = none) ∧
        (s.tstat p 0 = true → (t.tp p).edges = (s.tp p).edges ++ [t.tc]) ∧
        (s.tstat p 0 = true → s.tstat p 1 = false → Raised Ev.tarnFsRestored p s t)) ∧
  (∀ s dt p, s.awake → p < 8 → s.tstat p 0 = true → s.tstat p 1 = true → s.tarnOwn p = false →
    (s.tp p).fsAt + 2000000000 / tpHz (s.regN (tpReg p Tp.ctrl)) ≤ s.now + dt →
    Completes (.tarnFsLost dt p) s fun t =>
      t.tstat p 1 = false ∧ t.tstat p 10 = true ∧ Raised Ev.tarnFsLost p s t) ∧
  (∀ s dt p mHz fill c, s.awake → p < 8 → c = s.regN (tpReg p Tp.ctrl) → s.tctrlBit p 0 = true → tpMaster c = false →
    (s.tp p).measured < (s.tick dt).tc / tcSec → fill = s.regN (tpReg p 0x2C) → (s.tp p).rate.isSome = true →
    nearRate (s.tp p).rate mHz = true → mHz < 2 ^ 32 →
    Completes (.tarnRateMeasure dt p mHz fill) s fun t =>
      t.regN (tpReg p 0x24) = mHz ∧ toSigned 32 (t.regN (tpReg p 0x28)) = rateDeviation c mHz ∧
        t.regField (tpReg p Tp.stat) 4 6 = rateDetected (field c 4 6) mHz) ∧
  (∀ s dt p w rest, s.awake → p < 8 → (s.tp p).rxFifo = w :: rest →
    Completes (.tarnRxfifoRead dt p) s fun t => (t.tp p).rxFifo = rest ∧ Out.readback (tpReg p 0x44) w ∈ t.out) ∧
  (∀ s dt p, s.awake → p < 8 → (s.tp p).rxFifo = [] →
    Completes (.tarnRxfifoRead dt p) s fun t => t.tstat p 9 = true ∧ Out.readback (tpReg p 0x44) 0 ∈ t.out) ∧
  (∀ s dt p v, s.awake → p < 8 → (s.tp p).txFifo.length < 128 →
    Completes (.tarnTxfifoWrite dt p v) s fun t => (t.tp p).txFifo = (s.tp p).txFifo ++ [v % 2 ^ 32]) ∧
  (∀ s dt p v, s.awake → p < 8 → 128 ≤ (s.tp p).txFifo.length →
    Completes (.tarnTxfifoWrite dt p v) s fun t => (t.tp p).txFifo = (s.tp p).txFifo ∧ t.tstat p 9 = true) ∧
  (∀ s dt p, s.awake → p < 8 → (s.tp p).count < 2 ^ 48 → (s.tp p).countPinned = false →
    Completes (.tarnFcntLatch dt p) s fun t =>
      t.regN (tpReg p 0x1C) = (s.tp p).count / 2 ^ 32 ∧
        Out.readback (tpReg p Tp.fcntLo) ((s.tp p).count % 2 ^ 32) ∈ t.out)

/-! ## The media network (chapters 03, 04) -/

/-- MP_FRAME_RECEIVED, MP_LINK_UP, MP_LINK_DOWN and REPORT_RETRANSMIT (R90 to R93, R99, R101 to R103): a frame that a port does not
accept is counted as bad; one that it accepts is counted, and a packet of a waiting flow, which has come to a group or to the
port's own addresses, gives the flow its SSRC and starts it, one that no entry takes is counted as of no flow, a request for an
own address is answered; the link state follows with its event; a due report goes out again with DSCP CS6 and the Router Alert
option, and the last one is not repeated. -/
def Obligations.MediaReceives : Prop :=
  (∀ s dt port f, s.on → Objs.portMode s.objs port ≠ 0 → s.portN port Obj.portLinkState = 2 → s.frameTaken port f = false →
    Completes (.mpFrameReceived dt port f) s (Counted (portIdx port Obj.portRxDropBad) (portNo port) 1 s)) ∧
  (∀ s dt port f, s.on → Objs.portMode s.objs port ≠ 0 → s.portN port Obj.portLinkState = 2 → s.frameTaken port f = true →
    Completes (.mpFrameReceived dt port f) s (Counted (portIdx port Obj.portRxFrames) (portNo port) 1 s)) ∧
  (∀ s dt port f p e lead, s.on → Objs.portMode s.objs port ≠ 0 → s.portN port Obj.portLinkState = 2 →
    s.frameTaken port f = true → f.body = .rtp p → (s.rxTaker port p).map (fun x => x.2) = some (e, true) →
    (multicast p.dst = true ∨ f.dstMac = s.portMacNow port ∧ p.dst ∈ s.portAddrs port) →
    lead = Objs.rxLeadEntry s.objs e → p.payloadType = s.n Obj.rxPayloadType e → s.n Obj.rxFlowState lead = 2 →
    Completes (.mpFrameReceived dt port f) s fun t =>
      (t.rxe lead).ssrc = some p.ssrc ∧
        t.n Obj.rxFlowState lead =
          if s.n Obj.rxEssence lead = 1 ∨ s.n Obj.rxEssence lead = 5 ∧ p.sav = false then 3 else 4) ∧
  (∀ s dt port f p, s.on → Objs.portMode s.objs port ≠ 0 → s.portN port Obj.portLinkState = 2 →
    s.frameTaken port f = true → f.body = .rtp p →
    (s.rxTaker port p = none ∨ multicast p.dst = false ∧ (f.dstMac ≠ s.portMacNow port ∨ p.dst ∉ s.portAddrs port)) →
    Completes (.mpFrameReceived dt port f) s (Counted (portIdx port Obj.portRxDropNoFlow) (portNo port) 1 s)) ∧
  (∀ s dt port f a, s.on → Objs.portMode s.objs port ≠ 0 → s.portN port Obj.portLinkState = 2 →
    s.standby = false → s.frameTaken port f = true → f.body = .arpRequest a → a ∈ s.portAddrs port →
    Completes (.mpFrameReceived dt port f) s fun t => Out.arp port 1 a (s.identityMac port) [] ∈ t.out) ∧
  (∀ s dt port, s.on → Objs.portMode s.objs port ≠ 0 → s.portN port Obj.portLinkState ≠ 2 →
    Completes (.mpLinkUp dt port) s fun t => t.portN port Obj.portLinkState = 2 ∧ Raised Ev.mpLinkUp port s t) ∧
  (∀ s dt port, s.on → Objs.portMode s.objs port ≠ 0 → s.portN port Obj.portLinkState = 2 →
    Completes (.mpLinkDown dt port) s fun t => t.portN port Obj.portLinkState = 0 ∧ Raised Ev.mpLinkDown port s t) ∧
  (∀ s dt port g left a, s.on → (s.port port).reports.find? (fun q => q.1 == g) = some (g, left, a) → a ≤ (s.tick dt).ptp →
    s.portN port Obj.portLinkState = 2 → (g.length = 16 ∨ (s.tick dt).groupVersion port false ≠ 1) →
    Completes (.reportRetransmit dt port g) s fun t =>
      (∃ version exclude sources src, Out.membership port version g exclude sources src 48 true ∈ t.out) ∧
        (left ≤ 1 → ∀ q ∈ (t.port port).reports, q.1 ≠ g))

/-- PACKET_RELEASE, FLOW_LOST, MERGE_PATH_LOST, MERGE_PATH_RESTORED, ANC_UNMATCHED and PDV_SECOND (R103, R107 to R109, R116, R118): the
lowest number of the buffer leaves when it is due, and the numbers skipped are counted lost; a flow without packets waits
again with an empty buffer; a path of a pair goes down and comes back with its events; packets that have found no frame are
counted; the transit spread of a second that is over is recorded. -/
def Obligations.MediaFlows : Prop :=
  (∀ s dt e r rest due, s.on → s.b Obj.rxEnable e = true → Objs.rxLeadEntry s.objs e = e → 3 ≤ s.n Obj.rxFlowState e →
    (s.rxe e).buffer = r :: rest → due = max (r.arrival + Objs.rxDelay s.objs e) (s.rxe e).lastRelease →
    due ≤ (s.tick dt).ptp →
    Completes (.packetRelease dt e) s fun t =>
      (t.rxe e).buffer = rest ∧ (t.rxe e).next = some (r.seq + 1) ∧ (t.rxe e).lastRelease = due ∧
        (t.rxe e).marker = r.p.marker ∧ Counted Obj.rxLostPackets e ((s.rxe e).next.elim 0 fun n => r.seq - n) s t) ∧
  (∀ s dt e, s.on → s.b Obj.rxEnable e = true → Objs.rxLeadEntry s.objs e = e → 3 ≤ s.n Obj.rxFlowState e →
    (∀ k ∈ Objs.rxPaths s.objs e, (s.rxe k).lastCopy + s.lossTimeout e ≤ (s.tick dt).ptp) →
    Completes (.flowLost dt e) s fun t =>
      t.n Obj.rxFlowState e = 2 ∧ (t.rxe e).buffer = [] ∧ (t.rxe e).ssrc = none ∧
        (s.n Obj.rxFlowState e = 4 → Raised Ev.flowLost e s t)) ∧
  (∀ s dt e, s.on → (Objs.rxPaths s.objs (Objs.rxLeadEntry s.objs e)).length = 2 → (s.rxe e).pathUp = true →
    (s.rxe e).lastCopy + s.lossTimeout e ≤ (s.tick dt).ptp →
    Completes (.mergePathLost dt e) s fun t => (t.rxe e).pathUp = false ∧ Raised Ev.mergePathLost e s t) ∧
  (∀ s dt e a, s.on → (s.rxe e).pathDownSeen = true → (s.rxe e).restoreFrom = some a → a + 1000000000 ≤ (s.tick dt).ptp →
    (s.tick dt).ptp < (s.rxe e).lastCopy + s.lossTimeout e →
    Completes (.mergePathRestored dt e) s fun t => (t.rxe e).pathUp = true ∧ Raised Ev.mergePathRestored e s t) ∧
  (∀ s dt e, s.on →
    Completes (.ancUnmatched dt e) s fun t =>
      let late := fun (w : Nat × Nat × List Anc) =>
        decide (w.1 + 2 * fmtPeriodNs (s.feedFormat (s.n Obj.rxTarget e) (Objs.feed s.objs (s.n Obj.rxTarget e))) ≤ t.ptp)
      (t.rxe e).ancWait = (s.rxe e).ancWait.filter (fun w => !late w) ∧
        Counted Obj.rxAncUnmatched e (((s.rxe e).ancWait.filter late).map fun w => w.2.2.length).sum s t) ∧
  (∀ s dt e k v rest, s.on → (s.rxe e).transits = (k, v) :: rest → k < (s.tick dt).ptp / 1000000000 →
    Completes (.pdvSecond dt e) s fun t =>
      (t.rxe e).transits = rest.filter (fun a => a.1 != k) ∧ s.n Obj.rxPdvMax e ≤ t.n Obj.rxPdvMax e ∧
        ∀ a ∈ rest, a.1 = k → min (a.2 - v).natAbs 0xFFFFFFFF ≤ t.n Obj.rxPdvMax e)

/-- TX_PACKET_DEPARTURE, TX_AUDIO_PACKET, TX_ANC_PACKETS, TX_OPAQUE_FORWARD, TX_RESOLVE_RENEW and TX_UNRESOLVED (R133, R134, R136, R138,
R141 to R143, R145): a flow that is SENDING emits the next packet of its frame with the row segments that are its share, of its
samples with the words that Cornice gave, of its ancillary packets, or of those it forwards unchanged, with its SSRC and the next
number; an unresolved destination is asked for again, and raised after 3 s. -/
def Obligations.MediaTransmits : Prop :=
  (∀ s dt e x p, s.on → (s.txe e).held = [] → Objs.txLeadEntry s.objs e = e → s.txRuns e = true →
    (s.n Obj.txEssence e = 1 ∨ s.n Obj.txEssence e = 5) → s.tw.drain = none →
    s.txShown e = some x → x.pic ≠ .blanking →
    ((s.txe e).frame = none → x.emitted = false ∧ (s.txe e).startAt ≤ x.align) → p = (s.txe e).frame.getD (x.align, 0) →
    secNs (s.txSchedule e x.format p.1 p.2) ≤ (s.tick dt).ptp + 50 →
    Completes (.txPacketDeparture dt e) s fun t =>
      (t.txe e).frame = (if s.txFramePackets e x.format ≤ p.2 + 1 then none else some (p.1, p.2 + 1)) ∧
        t.n Obj.txNextSeq e = (s.n Obj.txNextSeq e + 1) % seqMod (s.n Obj.txEssence e) ∧
        (s.n Obj.txFlowState e = 3 → ∃ head time marker bytes payload,
          Out.packet e head (s.n Obj.txPayloadType e) (s.n Obj.txSsrcInUse e) (s.n Obj.txNextSeq e) time marker bytes payload ∈
            t.out ∧
          (s.n Obj.txEssence e = 1 →
            payload = .pixels x.pic (packetRows x.format (s.n Obj.txPacketBytes e) p.2 (s.txFramePackets e x.format))))) ∧
  (∀ s dt e n, s.on → (s.txe e).held = [] → Objs.txLeadEntry s.objs e = e → s.txRuns e = true →
    (s.n Obj.txEssence e = 2 ∨ s.n Obj.txEssence e = 3) →
    n = packetSamples (s.n Obj.txPacketTime e) (s.n Obj.txAudioRate e) →
    1000000000 * (s.txAudioIndex e + n) / s.txAudioHz e + 7000 ≤ (s.tick dt).ptp →
    Completes (.txAudioPacket dt e) s fun t =>
      (t.txe e).audioNext = some (s.txAudioIndex e + n) ∧
        t.n Obj.txNextSeq e = (s.n Obj.txNextSeq e + 1) % seqMod (s.n Obj.txEssence e) ∧
        (s.n Obj.txFlowState e = 3 → ∃ head bytes,
          Out.packet e head (s.n Obj.txPayloadType e) (s.n Obj.txSsrcInUse e) (s.n Obj.txNextSeq e)
            (s.txAudioIndex e % 2 ^ 32) false bytes
            (((s.tick dt).txRunOut e (s.txAudioIndex e + n)).audioPayload e (s.txAudioIndex e) n) ∈ t.out)) ∧
  (∀ s dt e field2 x, s.on → (s.txe e).held = [] → Objs.txLeadEntry s.objs e = e → s.txRuns e = true →
    s.n Obj.txEssence e = 4 → (s.dst (s.n Obj.txSource e)).shown = some x → (s.tick dt).ancLeaves e x field2 = true →
    Completes (.txAncPackets dt e field2) s fun t =>
      (t.txe e).ancFrame = x.align ∧
        (s.n Obj.txFlowState e = 3 → ∃ head seq bytes l,
          Out.packet e head (s.n Obj.txPayloadType e) (s.n Obj.txSsrcInUse e) seq
            (rtpTime (s.fieldTime (s.n Obj.txSource e) x.format x.align field2) 90000) true bytes
            (ancPayload x.format field2 l) ∈ t.out)) ∧
  (∀ s dt e p a rest, s.on → (s.txe e).held = [] → s.txRuns e = true → s.n Obj.txEssence e = 6 →
    (s.txe e).opaque_ = (p, a) :: rest →
    a + 1200 ≤ (s.tick dt).ptp →
    Completes (.txOpaqueForward dt e) s fun t =>
      (t.txe e).opaque_ = rest ∧
        (s.n Obj.txFlowState e = 3 →
          ∃ head, Out.packet e head p.payloadType p.ssrc p.seq p.timestamp p.marker (s.forwardBytes e p) (.forward p) ∈ t.out)) ∧
  (∀ s dt e, s.on → s.standby = false → s.b Obj.txEnable e = true → multicast (s.by Obj.txDstAddr e) = false →
    s.by Obj.txDstAddr e ≠ [] → s.portN (s.n Obj.txPort e) Obj.portLinkState = 2 →
    ((s.txe e).resolveAt.isSome = true ∨ (s.txe e).triedAt + 60000000000 ≤ (s.tick dt).ptp) →
    Completes (.txResolveRenew dt e) s fun t =>
      (t.txe e).triedAt = t.ptp ∧
        Out.arp (s.n Obj.txPort e) 0 (s.portSrc (s.n Obj.txPort e) (s.by Obj.txDstAddr e)) (s.portMacNow (s.n Obj.txPort e))
          (s.by Obj.txDstAddr e) ∈ t.out) ∧
  (∀ s dt e a, s.on → (s.n Obj.txFlowState e = 2 ∨ s.n Obj.txFlowState e = 3) → (s.txe e).unresolvedRaised = false →
    (s.txe e).resolveAt = some a →
    a + 3000000000 ≤ (s.tick dt).ptp →
    Completes (.txUnresolved dt e) s fun t => (t.txe e).unresolvedRaised = true ∧ Raised Ev.txUnresolved e s t)

/-! ## Watershed (chapter 11) -/

/-- REF_EDGE, REF_LOST, REF_SIGNAL_BACK, REF_AVAILABLE, PTP_ANNOUNCE_TIMEOUT and REF_FREQ_MEASURE (R335 to R341, R351, R352, R359):
a pulse whose width has no code is counted and leaves the reference as it was; a valid edge gives the phase difference; the third
equal QL code is the received one; a cause of loss takes a measured reference to LOST; its signal back takes it to QUALIFYING,
and the wait to restore from there to AVAILABLE, or to UNUSABLE without a quality; a PTP reference whose master's Announce messages
stop takes another master that announces, as a change of grandmaster, and without one it has no master; once for each whole second
of the counter the frequency difference is recorded, and LOCKED time is learned. Which master is the best is the model's reading
(notes/assumptions/83.md). -/
def Obligations.ReferencesFollow : Prop :=
  (∀ s dt r w, s.awake → refIsPulse r = true → s.b Obj.refEnable r = true → (s.refPeriod r).num ≠ 0 → pulseCode w = none →
    Completes (.refEdge dt r w) s fun t =>
      Counted Obj.refInvalidPulses r 1 s t ∧ bit (t.n Obj.refHistory r) 3 = true ∧ t.ref r = { s.ref r with codeRun := 0 }) ∧
  (∀ s dt r w, s.awake → 2 ≤ r → r ≤ 10 → s.b Obj.refEnable r = true → (s.refPeriod r).num ≠ 0 →
    (refIsPulse r = true → (pulseCode w).isSome = true) →
    Completes (.refEdge dt r w) s fun t =>
      (t.ref r).lastValid = some t.tc ∧ t.i Obj.refPhaseDiff r = (s.tick dt).edgePhase r) ∧
  (∀ s dt r w c, s.awake → refIsPulse r = true → s.b Obj.refEnable r = true → (s.refPeriod r).num ≠ 0 →
    pulseCode w = some c → (s.ref r).code = c → 2 ≤ (s.ref r).codeRun →
    Completes (.refEdge dt r w) s fun t => (t.ref r).rxQl = c ∧ (t.ref r).codeRun = (s.ref r).codeRun + 1) ∧
  (∀ s dt r c, s.awake → r ≤ 10 → (s.tick dt).causeHolds r c = true → 2 ≤ s.n Obj.refState r →
    Completes (.refLost dt r c) s fun t =>
      t.n Obj.refState r = 1 ∧ bit (t.n Obj.refHistory r) 0 = true ∧
        (s.n Obj.refState r = 3 → Counted Obj.refLosses r 1 s t ∧ Raised Ev.refLost r s t)) ∧
  (∀ s dt r, s.awake → r ≤ 10 → s.n Obj.refState r = 1 → (s.tick dt).signalBack r = true →
    Completes (.refSignalBack dt r) s fun t => t.n Obj.refState r = 2 ∧ (t.ref r).qualAt = t.now) ∧
  (∀ s dt r, s.awake → r ≤ 10 → s.n Obj.refState r = 2 →
    (s.ref r).qualAt + 1000000000 * s.n Obj.refWaitToRestore r ≤ s.now + dt →
    Completes (.refAvailable dt r) s fun t =>
      t.n Obj.refState r = (if s.n Obj.refQlInForce r = 0 then 4 else 3) ∧
        (s.n Obj.refQlInForce r ≠ 0 → Raised Ev.refAvailable r s t ∧ bit (t.n Obj.refHistory r) 1 = true)) ∧
  (∀ s dt r b, s.awake → r < 2 → 2 ≤ s.n Obj.ptpState r → (s.tick dt).announceLate r = true →
    bestMaster ((s.tick dt).announcing r) = some b → (∀ m, (s.ref r).master = some m → m.who ≠ b.who) →
    Completes (.ptpAnnounceTimeout dt r) s fun t =>
      t.n Obj.ptpState r = 2 ∧ (t.ref r).master = some b ∧ t.by Obj.ptpGmIdentity r = b.set.grandmaster ∧
        t.n Obj.ptpClockClass r = b.set.clockClass ∧ (2 ≤ s.n Obj.refState r → t.n Obj.refState r = 1) ∧
        ((s.ref r).lastMaster ≠ [] → (s.ref r).lastMaster ≠ b.who → Raised Ev.ptpGmChange r s t)) ∧
  (∀ s dt r, s.awake → r < 2 → 2 ≤ s.n Obj.ptpState r → (s.tick dt).announceLate r = true → (s.tick dt).announcing r = [] →
    Completes (.ptpAnnounceTimeout dt r) s fun t =>
      t.n Obj.ptpState r = 1 ∧ Objs.val t.objs (adr Obj.ptpGmIdentity r) = objDefault (adr Obj.ptpGmIdentity r) ∧
        Objs.val t.objs (adr Obj.ptpClockClass r) = objDefault (adr Obj.ptpClockClass r) ∧
        (2 ≤ s.n Obj.refState r → t.n Obj.refState r = 1)) ∧
  (∀ s dt diffs r d, s.awake → (s.tick dt).tc / tcSec ≠ s.ws.second → (diffs.map (·.1)).Nodup → (r, d) ∈ diffs → r ≤ 10 →
    s.b Obj.refEnable r = true →
    Completes (.refFreqMeasure dt diffs) s fun t =>
      t.i Obj.refFreqDiff r = d ∧ (t.ref r).lo = some (s.ws.y + 1000 * d)) ∧
  (∀ s dt diffs, s.awake → (s.tick dt).tc / tcSec ≠ s.ws.second → s.n Obj.wsState 0 = 2 →
    Completes (.refFreqMeasure dt diffs) s fun t =>
      t.n Obj.wsHoldoverLearned 0 = min (s.n Obj.wsHoldoverLearned 0 + 1) 0xFFFFFFFF ∧
        t.ws.runLearned = s.ws.runLearned + 1)

/-- WS_EVALUATION, WS_LOCKED, LO_FAULT, LO_RESTORED and WS_TIME_SET (R329, R331, R342, R343, R345, R347, R350, R353, R359): an evaluation
selects what WsMode chooses and keeps the correction within its limit; a new choice is counted and acquired; without one a
locked or acquiring loop holds over, and mode 3 returns towards the free-running frequency; 10 s within 100 ns lock the loop; an
oscillator fault discards the holdover model and degrades the health, and ends after 1 s within tolerance; a time set steps the counter to the time written. -/
def Obligations.ClockDisciplined : Prop :=
  (∀ s dt r, s.awake → (s.tick dt).evalIndex ≠ s.ws.evalIndex → (s.tick dt).choice = some r →
    Completes (.wsEvaluation dt) s fun t =>
      t.n Obj.wsSelectedRef 0 = r ∧ (t.i Obj.wsFreqCorrection 0).natAbs ≤ 100000000000 ∧ t.ws.selectedOnce = true ∧
        (s.n Obj.wsSelectedRef 0 ≠ r → Counted Obj.wsRefSwitches 0 1 s t ∧ t.n Obj.wsState 0 = 1)) ∧
  (∀ s dt, s.awake → (s.tick dt).evalIndex ≠ s.ws.evalIndex → (s.tick dt).choice = none → s.n Obj.wsMode 0 ≠ 3 →
    (s.n Obj.wsState 0 = 1 ∨ s.n Obj.wsState 0 = 2) →
    Completes (.wsEvaluation dt) s fun t =>
      t.n Obj.wsState 0 = 3 ∧ t.ws.heldSince = t.now ∧ bit (t.n Obj.wsHistory 0) 1 = true ∧ Raised Ev.wsHoldover 0 s t ∧
        Objs.val t.objs (adr Obj.wsSelectedRef 0) = objDefault (adr Obj.wsSelectedRef 0)) ∧
  (∀ s dt, s.awake → (s.tick dt).evalIndex ≠ s.ws.evalIndex → s.n Obj.wsMode 0 = 3 →
    Completes (.wsEvaluation dt) s fun t =>
      t.n Obj.wsState 0 = 0 ∧ t.ws.y.natAbs ≤ s.ws.y.natAbs ∧ t.i Obj.wsFreqCorrection 0 = t.ws.y / 1000) ∧
  (∀ s dt a, s.awake → s.n Obj.wsState 0 = 1 → s.phaseError.natAbs ≤ 100 → s.ws.lockSince = some a →
    a + 10000000000 ≤ s.now + dt →
    Completes (.wsLocked dt) s fun t => t.n Obj.wsState 0 = 2 ∧ Raised Ev.wsLocked (s.selected.getD 0) s t) ∧
  (∀ s dt missing ppm, s.awake → s.n Obj.wsLoState 0 = 0 → (4 ≤ missing ∨ 200 < ppm.natAbs) →
    Completes (.loFault dt missing ppm) s fun t =>
      t.n Obj.wsLoState 0 = 1 ∧ t.ws.ready = false ∧ t.st.model = none ∧ t.n Obj.wsHoldoverLearned 0 = 0 ∧
        bit (t.n Obj.healthReasons 0) 6 = true ∧ Raised Ev.loFault 0 s t) ∧
  (∀ s dt, s.awake → s.n Obj.wsLoState 0 = 1 → s.ws.loBadAt + 1000000000 ≤ s.now + dt →
    Completes (.loRestored dt) s fun t =>
      t.n Obj.wsLoState 0 = 0 ∧ bit (t.n Obj.healthReasons 0) 6 = false ∧ Raised Ev.loRestored 0 s t) ∧
  (∀ s dt m x value (ns : Nat), Acts s dt m x Obj.wsTimeSet 0 value (.num ns) →
    Completes (.wsTimeSet dt m value) s fun t =>
      t.tc = (((s.tick dt).tc : Int) + 65536 * ((ns : Int) - (s.tick dt).ptp)).toNat ∧ Raised Ev.timeStep 0 s t ∧
        answerOf m x 0x11 0 (.write (s.tick dt).ptp) ∈ t.out)

/-- HOLDOVER_READY, HOLDOVER_MODEL_SAVE, HOLDOVER_EXPIRED, WS_HOLDOVER_RESET and FP_PULSE_EMIT (R352, R354, R356, R357, R359): 48 h of
learned time, or 1 h after a restart of a ready one, make the holdover model ready; it is saved every hour; a holdover that reaches its limit expires; the reset
discards the model; an enabled frame-pulse output emits its pulse at its grid position, with the width of its mode. -/
def Obligations.HoldoverAndPulses : Prop :=
  (∀ s dt, s.awake → s.ws.ready = false →
    (if s.ws.wasReady = true then 3600 ≤ s.ws.runLearned else 172800 ≤ s.n Obj.wsHoldoverLearned 0) →
    Completes (.holdoverReady dt) s fun t => t.ws.ready = true ∧ Raised Ev.holdoverReady 0 s t) ∧
  (∀ s dt, s.on → s.n Obj.wsHoldoverLearned 0 ≠ 0 → s.ws.savedAt + 3600000000000 ≤ s.now + dt →
    Completes (.holdoverModelSave dt) s fun t =>
      t.ws.savedAt = t.now ∧ t.st.model = some ⟨s.n Obj.wsHoldoverLearned 0, s.ws.ready, s.ws.model⟩) ∧
  (∀ s dt, s.awake → s.n Obj.wsState 0 = 3 → s.ws.expired = false → s.n Obj.wsHoldoverLimit 0 ≤ (s.tick dt).heldFor →
    Completes (.holdoverExpired dt) s fun t =>
      t.ws.expired = true ∧ bit (t.n Obj.wsHistory 0) 6 = true ∧ Raised Ev.holdoverExpired 0 s t) ∧
  (∀ s dt m x value, Acts s dt m x Obj.wsHoldoverReset 0 value (.num 1) →
    Completes (.wsHoldoverReset dt m value) s fun t =>
      t.ws.ready = false ∧ t.st.model = none ∧ t.n Obj.wsHoldoverLearned 0 = 0 ∧ Answered m x t) ∧
  (∀ s dt n at_ per x, s.awake → n < 4 → s.b Obj.fpEnable n = true → (s.tick dt).fpNext n = some (at_, per, x) →
    x.spaced at_ per = true →
    Completes (.fpPulseEmit dt n) s fun t =>
      (t.fp n).last = some at_ ∧
        Out.pulse n (at_ / 65536) (if s.n Obj.fpWidthMode n = 0 then 2000 + 1000 * (s.tick dt).deviceQl else s.n Obj.fpWidth n)
          (b2n (s.n Obj.fpPolarity n == 0)) ∈ t.out)

/-! ## The twin link (chapter 12) -/

/-- ARB_PATTERN_RECOGNISED, TWIN_STATUS_SEND, TWIN_STATUS_BLOCK, TWIN_PEER_LOST and TWIN_PEER_FOUND (R366 to R368, R379 to R381): the
last two symbols give the pattern, once for each house frame, and its loss and return are raised; a status block tells the side,
role, pattern and readiness with its two counter values; a received one is kept and gives the peer's offset and role; 200 µs without one are the loss of the peer, and 1 ms of them
find it again and set RESYNC, which the active device starts. The rounding of the offset is the model's (notes/assumptions/48.md). -/
def Obligations.TwinLink : Prop :=
  (∀ s dt a b p, s.awake → s.paired = true → (s.tick dt).arbWindow ≠ s.tw.arbFrame →
    p = arbPattern (if (s.tick dt).arbWindow = s.tw.arbFrame + 1 then arbSymbol s.tw.lastFirst s.tw.lastSecond else 0)
      (arbSymbol a b) →
    Completes (.arbPatternRecognised dt a b) s fun t =>
      t.n Obj.twinArbPattern 0 = p ∧ t.tw.lastFirst = a ∧ t.tw.lastSecond = b ∧ t.tw.arbFrame = (s.tick dt).arbWindow ∧
        (p = 0 → s.n Obj.twinArbPattern 0 ≠ 0 → Raised Ev.twinArbLost (s.n Obj.twinSide 0) s t) ∧
        (p ≠ 0 → s.n Obj.twinArbPattern 0 = 0 → Raised Ev.twinArbRestored (s.n Obj.twinSide 0) s t)) ∧
  (∀ s dt, s.awake → s.linked = true →
    Completes (.twinStatusSend dt) s fun t =>
      Out.twinStatus (s.n Obj.twinSide 0) (s.n Obj.twinRole 0) (s.n Obj.twinArbPattern 0) (t.n Obj.twinReadiness 0)
        (t.n Obj.twinNotReady 0) (t.n Obj.twinCopyStale 0) s.tw.heardAt t.ptp s.imageVersions (s.by Obj.macBase 0) ∈ t.out ∧
        t.tw.sentAt = some t.ptp) ∧
  (∀ s dt b, s.awake → s.linked = true →
    Completes (.twinStatusBlock dt b) s fun t =>
      t.tw.peerBlock = some b ∧ t.tw.lastBlockAt = t.now ∧
        t.tw.heardAt = t.ptp ∧
        (∀ out, s.tw.sentAt = some out → b.heardAt ≠ 0 → t.i Obj.twinPeerOffset 0 =
          medianOf ((t.now, exchangeOffset out t.ptp b) :: s.tw.offsets.filter fun x => t.now < x.1 + 1000000000)) ∧
        (s.twinUp = true → t.n Obj.twinPeerRole 0 = b.role ∧ t.n Obj.twinPeerPattern 0 = b.pattern)) ∧
  (∀ s dt, s.awake → s.paired = true → s.twinUp = true → s.tw.lastBlockAt + 200000 ≤ s.now + dt →
    Completes (.twinPeerLost dt) s fun t =>
      t.n Obj.twinLinkState 0 = 0 ∧ t.n Obj.twinPeerRole 0 = 0xFFFF ∧ t.n Obj.twinPeerPattern 0 = 0xFFFF ∧
        t.tw.resyncAt = none ∧ Raised Ev.twinPeerLost (s.n Obj.twinSide 0) s t) ∧
  (∀ s dt a, s.awake → s.paired = true → s.twinUp = false → s.now + dt ≤ s.tw.lastBlockAt + 200000 →
    s.tw.validSince = some a → a + 1000000 ≤ s.now + dt →
    Completes (.twinPeerFound dt) s fun t =>
      t.n Obj.twinLinkState 0 = 1 ∧ t.tw.resyncNeeded = true ∧ Raised Ev.twinPeerFound (s.n Obj.twinSide 0) s t ∧
        (s.active = true → t.tw.resyncAt.isSome = true))

/-- TWIN_COPY_SEND, TWIN_COPY_RECEIVE, TWIN_COPY_ACK, SALVO_MIRROR_RECEIVE, TAKE_MIRROR_RECEIVE, WRITE_THROUGH_ACK,
WRITE_THROUGH_TIMEOUT and TWIN_ANNOUNCE (R206, R207, R376 to R378, R381, R384): the active device sends the copy that is due; a
standby applies one that comes before its boundary and acknowledges it, and the one that ends a resync ends it; its acknowledgement
drops the writes that it carried; mirrored salvos and TAKEs stand in the standby as their records say; a write
through ends with its acknowledgement, or after 2.0 ms with MIRROR_LOST, and its answer names the time at which it then takes
effect (R8, R9); a due announcement goes out for every own address. -/
def Obligations.TwinCopies : Prop :=
  (∀ s dt, s.awake → (s.tick dt).copyDue = true →
    Completes (.twinCopySend dt) s fun t =>
      let b := (s.tick dt).nextBoundary
      let logged := logUpTo s.tw.log (b - deadline)
      Out.twinCopy ((s.tick dt).copyFor b logged) ∈ t.out ∧ t.tw.copySent = some (b, logged.length, (s.tick dt).resyncSent)) ∧
  (∀ s dt c, s.on → s.linked = true → s.standby = true → (s.tick dt).tc < (s.tick dt).boundaryOf c.boundary →
    Completes (.twinCopyReceive dt c) s fun t =>
      t.tw.copyApplied = some ((s.tick dt).boundaryOf c.boundary) ∧ t.tw.numbers = c.numbers ∧
        t.n Obj.twinLastCopyAt 0 = (s.tick dt).boundaryOf c.boundary / 65536 ∧ Out.twinAck 2 0 ∈ t.out ∧
        (c.resyncDone = true → s.tw.copyApplied ≠ some ((s.tick dt).boundaryOf c.boundary) →
          t.tw.resyncNeeded = false ∧ t.tw.mirrorLost = false)) ∧
  (∀ s dt b k ends, s.awake → s.active = true → s.tw.copySent = some (b, k, ends) → (s.tick dt).tc < b →
    Completes (.twinCopyAck dt) s fun t =>
      t.tw.copySent = none ∧ t.tw.log = s.tw.log.drop k ∧ t.n Obj.twinLastCopyAt 0 = b / 65536 ∧
        (ends = true → t.tw.mirrorLost = false ∧ t.tw.resyncAt = none ∧
          Raised Ev.twinResyncDone (s.n Obj.twinSide 0) s t)) ∧
  (∀ s dt n state owner changes, s.awake → s.linked = true → s.standby = true → n < 16 →
    Completes (.salvoMirrorReceive dt n state owner changes) s fun t =>
      Out.twinAck 0 n ∈ t.out ∧ (t.salvo n).changes = (if state = 0 then [] else changes) ∧
        (t.salvo n).state = (if state = 0 then .free else if state = 1 then .staged else .armed)) ∧
  (∀ s dt n boundary, s.awake → s.linked = true → s.standby = true → n < 16 →
    Completes (.takeMirrorReceive dt n boundary) s fun t =>
      Out.twinAck 1 n ∈ t.out ∧ (t.salvo n).state = .pending ∧ (t.salvo n).boundary = (s.tick dt).boundaryOf boundary ∧
        (t.salvo n).changes = (s.salvo n).changes) ∧
  (∀ s dt x l, s.awake → s.noneHeld → s.tw.through = x :: l → writtenThrough x.addr x.val = true →
    s.now + dt ≤ x.sentAt + 2000000 →
    Completes (.writeThroughAck dt) s fun t =>
      t.tw.through = l ∧ ∀ k q ty body i fr y, x.answer = some ⟨.request k q, ty, body, i, fr⟩ → s.session k = some y →
        Out.response k y.devSeq q ty 0 0 (body.effective ((s.tick dt).classAt (commitOf x.addr))) ∈ t.out) ∧
  (∀ s dt x l, s.awake → s.noneHeld → s.tw.through = x :: l → writtenThrough x.addr x.val = true →
    x.sentAt + 2000000 ≤ s.now + dt →
    Completes (.writeThroughTimeout dt) s fun t =>
      t.tw.through = l ∧ t.tw.mirrorLost = true ∧
        ∀ k q ty body i fr y, x.answer = some ⟨.request k q, ty, body, i, fr⟩ → s.session k = some y →
          Out.response k y.devSeq q ty 0 0 (body.effective ((s.tick dt).classAt (commitOf x.addr))) ∈ t.out) ∧
  (∀ s dt, s.awake → s.active = true → s.tw.announceLeft ≠ 0 → s.tw.announceAt ≤ s.now + dt →
    Completes (.twinAnnounce dt) s fun t =>
      t.tw.announceLeft = s.tw.announceLeft - 1 ∧
        t.tw.announceAt = s.tw.announceAt + s.n Obj.twinAnnounceInterval 0 * 1000000 ∧
        ∀ port ∈ Objs.ports s.objs, ∀ a ∈ s.portAddrs port, a.length = 4 → Out.arp port 2 a (s.identityMac port) a ∈ t.out)

/-! ## Lanes and the Saddle link (chapter 13) -/

/-- ETH_PLL_LOCK, OCTET_PLL_LOCK, OCTET_PLL_UNLOCK, SPUR_REF_LOST, SPUR_REF_RESTORED, LANE_CDR_LOCKED, LANE_CLOCK_LOCK_LOST, LANE_ALIGNED,
LANE_ALIGN_LOST, LANE_PRBS_LOCKED and LANE_PRBS_LOST (R394, R407, R408, R414, R416): a PLL's state bit follows its lock, and the Ethernet
PLL of the Saddle octet takes the link out of DOWN and back; a lost reference holds the PLLs of its octets and degrades the
health; a lane's state follows clock recovery and alignment; a checker's state, bits and errors follow what it finds. -/
def Obligations.LanesAlign : Prop :=
  (∀ s dt o, s.awake → o < 36 → bit (s.n Obj.octetPllState o) 0 = false →
    Completes (.ethPllLock dt o) s fun t =>
      bit (t.n Obj.octetPllState o) 0 = true ∧
        (s.octetSaddle o = true → s.n Obj.saddleState 0 = 0 → t.n Obj.saddleState 0 = 1)) ∧
  (∀ s dt o pll, s.awake → o < 36 → bit (s.n Obj.octetPllState o) (pllBit pll) = false →
    Completes (.octetPllLock dt o pll) s fun t => bit (t.n Obj.octetPllState o) (pllBit pll) = true) ∧
  (∀ s dt o pll, s.awake → o < 36 → bit (s.n Obj.octetPllState o) (pllBit pll) = true →
    Completes (.octetPllUnlock dt o pll) s fun t =>
      bit (t.n Obj.octetPllState o) (pllBit pll) = false ∧ Raised Ev.octetPllUnlock o s t ∧
        (pll = .eth → s.octetSaddle o = true → t.n Obj.saddleState 0 = 0)) ∧
  (∀ s dt i, s.awake → i < 4 → s.n Obj.spurRefState i = 1 →
    Completes (.spurRefLost dt i) s fun t =>
      t.n Obj.spurRefState i = 2 ∧ bit (t.n Obj.healthReasons 0) 8 = true ∧ Raised Ev.spurRefLost i s t ∧
        ∀ o < 36, s.n Obj.octetRef o = i → bit (t.n Obj.octetPllState o) 3 = true) ∧
  (∀ s dt i, s.awake → i < 4 → s.n Obj.spurRefState i = 2 →
    Completes (.spurRefRestored dt i) s fun t =>
      t.n Obj.spurRefState i = 1 ∧ Raised Ev.spurRefRestored i s t ∧
        ∀ o < 36, s.n Obj.octetRef o = i → bit (t.n Obj.octetPllState o) 3 = false) ∧
  (∀ s dt l, s.awake → l < 288 → s.n Obj.laneState l = 1 →
    Completes (.laneCdrLocked dt l) s fun t => t.n Obj.laneState l = 2) ∧
  (∀ s dt l, s.awake → l < 288 → 2 ≤ s.n Obj.laneState l →
    Completes (.laneClockLockLost dt l) s fun t => t.n Obj.laneState l = 1) ∧
  (∀ s dt l, s.awake → l < 288 → 2 ≤ s.n Obj.laneMode l → s.n Obj.laneState l = 2 →
    Completes (.laneAligned dt l) s fun t => t.n Obj.laneState l = 3 ∧ Raised Ev.laneAligned l s t) ∧
  (∀ s dt l k, s.awake → l < 288 → s.n Obj.laneState l = 3 → 16 ≤ k →
    Completes (.laneAlignLost dt l k) s fun t =>
      t.n Obj.laneState l = 2 ∧ Counted Obj.laneHdrErrors l k s t ∧ Raised Ev.laneAlignLost l s t) ∧
  (∀ s dt l inverted, s.awake → l < 288 → s.n Obj.lanePrbsState l = 1 →
    Completes (.lanePrbsLocked dt l inverted) s fun t =>
      t.n Obj.lanePrbsState l = (if inverted then 3 else 2) ∧ Raised Ev.lanePrbsLocked l s t) ∧
  (∀ s dt l bits errors, s.awake → l < 288 → 2 ≤ s.n Obj.lanePrbsState l →
    Completes (.lanePrbsLost dt l bits errors) s fun t =>
      t.n Obj.lanePrbsBits l = min (s.n Obj.lanePrbsBits l + bits) (counterMax Obj.lanePrbsBits l) ∧
        t.n Obj.lanePrbsErrors l = min (s.n Obj.lanePrbsErrors l + errors) (counterMax Obj.lanePrbsErrors l) ∧
        (errors ≤ 32 → t.n Obj.lanePrbsState l = s.n Obj.lanePrbsState l) ∧
        (32 < errors → t.n Obj.lanePrbsState l = 1 ∧ Counted Obj.lanePrbsLosses l 1 s t ∧ Raised Ev.lanePrbsLost l s t))

/-- SADDLE_AUTO_SLIP, SADDLE_SLIP, SADDLE_MARKER, SADDLE_SEED, SADDLE_TRAIN_WORD, SADDLE_TRAIN_STEP, SADDLE_TRAIN_REQUEST, SADDLE_RESTART,
MARKER_MISSING and SADDLE_MESSAGE (R402, R404, R406, R408 to R414): a slip moves a lane's word boundary one bit; of the words that a
lane's line spells, a MARKER settles the lane and is kept, and a control word in its place that is no MARKER is counted as invalid
beside the line's invalid words; a SEED is loaded, and one that differs from the descrambler's state is counted; a TRAIN word's
request is acted on once and its readiness kept; training starts with a request and ends after 64; a manual request goes out; a
restart begins every lane anew; missing MARKERs take the link down; a bad message is counted, and a whole one is not; a standby
acknowledges the write that a WRITE_THROUGH message carries (R378). -/
def Obligations.SaddleTrains : Prop :=
  (∀ s dt b k, s.awake → s.sad.base = some b → s.n Obj.saddleBringUp 0 = 0 → k < 8 → s.n Obj.laneState (b + k) = 2 →
    (s.sl k).slipFrom ≤ s.now + dt → b + 8 ≤ 65536 →
    Completes (.saddleAutoSlip dt) s fun t =>
      (t.sl k).boundary = ((s.sl k).boundary + 1) % s.wordBits ∧
        (t.sl k).slips = (if s.wordBits ≤ (s.sl k).slips + 1 then 0 else (s.sl k).slips + 1)) ∧
  (∀ s dt m x k value b, Acts s dt m x Obj.saddleSlip k value (.num 1) → s.sad.base = some b →
    Completes (.saddleSlip dt m k value) s fun t =>
      (t.sl k).boundary = ((s.sl k).boundary + 1) % s.wordBits ∧ Answered m x t) ∧
  (∀ s dt k before word row w, s.awake → s.hears k = true → (s.heardWords k (before ++ word)).getLast? = some w → w.valid = true →
    w.control = true → s.markerOk w.payload = true →
    Completes (.saddleMarker dt k before word row) s fun t =>
      (t.sl k).settled = true ∧ (t.sl k).complements = 0 ∧
        (t.sl k).marker = some (field w.payload 8 10, field w.payload 12 23, row)) ∧
  (∀ s dt k before word row w b, s.awake → s.hears k = true → (s.heardWords k (before ++ word)).getLast? = some w → w.ok = true →
    w.control = true → s.markerOk w.payload = false → s.sad.base = some b →
    Completes (.saddleMarker dt k before word row) s
      (Counted Obj.laneHdrErrors (b + k) ((s.heardWords k (before ++ word)).countP (fun v => !v.ok) + 1) s)) ∧
  (∀ s dt k before word w, s.awake → s.hears k = true → s.large = false →
    (s.heardWords k (before ++ word)).getLast? = some w → w.ok = true → w.control = true → w.payload % 256 = 0x4B →
    bit w.payload 31 = false →
    Completes (.saddleSeed dt k before word) s fun t =>
      (t.sl k).seed = some (field w.payload 8 30) ∧
        ∀ d, ((s.hearLine k (before ++ word)).sl k).seed = some d →
          Counted Obj.saddleSeedMismatch 0 (b2n (d != field w.payload 8 30)) s t) ∧
  (∀ s dt r line w k, s.awake → s.hears r = true → 3 ≤ s.n Obj.saddleState 0 → (s.heardWords r line).getLast? = some w →
    w.ok = true → w.control = true → w.payload % 256 = 0x55 → bit w.payload 23 = false → k = s.peerLane r →
    Completes (.saddleTrainWord dt r line) s fun t =>
      (t.sl k).acted = field w.payload 12 14 ∧ (t.sl k).peerReady = bit w.payload 15) ∧
  (∀ s dt k eye b, s.awake → k < 8 → s.sad.base = some b → s.n Obj.saddleState 0 = 3 → s.n Obj.saddleBringUp 0 = 0 →
    (s.sl k).awaiting = false → (s.sl k).rxReady = false →
    Completes (.saddleTrainStep dt k eye) s fun t =>
      t.n Obj.laneEyeHeight (b + k) = eye ∧
        ((s.sl k).step = .start → (s.sl k).requests < 64 →
          (t.sl k).best = eye ∧ (t.sl k).step = .moved ∧ (t.sl k).awaiting = true ∧
            (t.sl k).reqSeq = ((s.sl k).reqSeq + 1) % 8 ∧ (t.sl k).requests = (s.sl k).requests + 1) ∧
        (64 ≤ (s.sl k).requests → (t.sl k).rxReady = true ∧ (t.sl k).step = .done)) ∧
  (∀ s dt m x k value (v : Nat), Acts s dt m x Obj.saddleTrainRequest k value (.num v) → s.sad.base.isSome = true →
    s.n Obj.saddleBringUp 0 = 1 →
    Completes (.saddleTrainRequest dt m k value) s fun t =>
      (t.sl k).reqPre = field v 0 1 ∧ (t.sl k).reqPost = field v 2 3 ∧ (t.sl k).reqSeq = ((s.sl k).reqSeq + 1) % 8 ∧
        (t.sl k).awaiting = true ∧ Answered m x t) ∧
  (∀ s dt m x value b, Acts s dt m x Obj.saddleRestart 0 value (.num 1) → s.sad.base = some b →
    s.n Obj.saddleState 0 ≠ 0 →
    Completes (.saddleRestart dt m value) s fun t =>
      t.n Obj.saddleState 0 = 1 ∧ (∀ k < 8, t.sl k = {}) ∧ Answered m x t) ∧
  (∀ s dt k, s.awake → k < 8 → s.n Obj.saddleState 0 = 4 →
    Completes (.markerMissing dt k) s fun t =>
      t.n Obj.saddleState 0 = 1 ∧ (t.sl k).marker = none ∧ Counted Obj.saddleDownCount 0 1 s t ∧
        Raised Ev.saddleDown 0 s t) ∧
  (∀ s dt before head rest start words bad, s.awake → s.n Obj.saddleState 0 = 4 →
    messageIn (s.heardRows (messageLines before head rest)) = some (start, words, bad) → (s.messageOk start words && !bad) = false →
    Completes (.saddleMessage dt before head rest) s (Counted Obj.saddleMsgErrors 0 1 s)) ∧
  (∀ s dt before head rest start words, s.on → s.n Obj.saddleState 0 = 4 → s.paired = true → s.standby = true →
    messageIn (s.heardRows (messageLines before head rest)) = some (start, words, false) → s.messageOk start words = true →
    field start 8 11 = 4 →
    Completes (.saddleMessage dt before head rest) s fun t =>
      ∀ a v, Config.forwarded words.dropLast = some (a, v) → Out.twinAck 3 0 ∈ t.out) ∧
  (∀ s dt before head rest start words, s.awake → s.n Obj.saddleState 0 = 4 →
    messageIn (s.heardRows (messageLines before head rest)) = some (start, words, false) → s.messageOk start words = true →
    (field start 8 11 ≠ 4 ∨ s.standby = false) →
    Completes (.saddleMessage dt before head rest) s fun t =>
      t.n Obj.saddleMsgErrors 0 = s.n Obj.saddleMsgErrors 0 ∧
        ∀ k < 8, t.sl k = (s.hearLine k ((messageLines before head rest).getD k [])).sl k)

/-! ## Moraine (chapter 14) -/

/-- MOR_DRIVE_LOST, MOR_DRIVE_RETRY, MOR_DRIVE_UP, SMART_POLL and NVME_COMPLETION (R423, R424, R427, R429, R434, R438, R439): a lost drive
is held in reset and raised, tried again after 100 ms and every 10 s; one that comes up is of the pool where its label says so;
its health is polled; a stored frame of a record joins its clip with the missing ones behind it, a staged one is ready to play,
and metadata that cannot be written lose the drive. -/
def Obligations.DrivesServe : Prop :=
  (∀ s dt d, s.awake → (s.drive d).present = true →
    Completes (.morDriveLost dt d) s fun t =>
      (t.drive d).present = false ∧ (t.drive d).held = true ∧ t.n Obj.morDriveState d = 2 ∧ t.n Obj.morDriveLink d = 0 ∧
        Raised Ev.morDriveLost d s t ∧ Out.pin .pciePerst d 0 ∈ t.out) ∧
  (∀ s dt d, s.awake → s.n Obj.morDriveState d = 2 → (s.drive d).held = true → (s.drive d).triedAt + 100000000 ≤ s.now + dt →
    Completes (.morDriveRetry dt d) s fun t =>
      (t.drive d).held = false ∧ (t.drive d).triedAt = t.now ∧ Out.pin .pciePerst d 1 ∈ t.out) ∧
  (∀ s dt d, s.awake → s.n Obj.morDriveState d = 2 → (s.drive d).held = false →
    (s.drive d).triedAt + 10000000000 ≤ s.now + dt →
    Completes (.morDriveRetry dt d) s fun t =>
      (t.drive d).held = true ∧ (t.drive d).triedAt = t.now ∧ Out.pin .pciePerst d 0 ∈ t.out) ∧
  (∀ s dt d rate width capacity, s.awake → (s.drive d).present = false → (s.drive d).held = false →
    d < linkDrives (s.n Obj.morLinkMode 0) →
    Completes (.morDriveUp dt d rate width capacity true none) s fun t =>
      (t.drive d).present = true ∧ t.n Obj.morDriveState d = 3 ∧ t.n Obj.morDriveCapacity d = capacity ∧
        t.n Obj.morDriveLink d = rate % 16 + 16 * (width % 32) ∧
        (s.n Obj.morDriveState d = 2 → Raised Ev.morDriveUp d s t)) ∧
  (∀ s dt d rate width capacity ident set, s.awake → (s.drive d).present = false → (s.drive d).held = false →
    d < linkDrives (s.n Obj.morLinkMode 0) → s.mor.poolId = none → d ∈ set →
    Completes (.morDriveUp dt d rate width capacity true (some (ident, set))) s fun t =>
      t.n Obj.morDriveState d = 1 ∧ t.mor.poolId = some ident ∧ t.mor.pool = set) ∧
  (∀ s dt d warning used, s.awake → (s.drive d).present = true → (s.drive d).nvme = true →
    (∀ a, (s.drive d).polledAt = some a → a + 60000000000 ≤ s.now + dt) →
    Completes (.smartPoll dt d warning used) s fun t =>
      t.n Obj.morDriveHealth d = warning % 256 + 256 * (used % 256) ∧ (t.drive d).polledAt = some t.now ∧
        (warning % 256 ≠ 0 → warning % 256 ≠ field (s.n Obj.morDriveHealth d) 0 7 → Raised Ev.morDriveWarning d s t)) ∧
  (∀ s dt d r f l, s.awake → (s.drive d).present = true → s.poolReady = true → (s.recorder r).staged = some f :: l →
    Completes (.nvmeCompletion dt d (.recordFrame r) true) s fun t =>
      (t.clip (s.recorder r).clip).frames =
        (s.clip (s.recorder r).clip).frames ++ [some f] ++ (drainMissing l).1) ∧
  (∀ s dt d p frame, s.awake → (s.drive d).present = true → s.poolReady = true →
    Completes (.nvmeCompletion dt d (.playStage p frame) true) s fun t =>
      (t.player p).fetched = (frame :: (s.player p).fetched.filter (· != frame)).take 4) ∧
  (∀ s dt d, s.awake → (s.drive d).present = true → s.poolReady = true →
    Completes (.nvmeCompletion dt d .metadata false) s fun t =>
      t.n Obj.morDriveState d = 2 ∧ Raised Ev.morDriveLost d s t)

/-- PLAYBACK_FRAME_WRITE, DELAY_FRAME_WRITE, MOR_FORMAT, CLIP_DELETE and MOR_JOURNAL_READ (R425, R431, R433, R435 to R437, R444): a running
playback writes its next staged clip frame at a grid point; a delay line writes the frame DlyFrames before; a format builds an
empty pool from the present drives; a deleted clip is EMPTY; the journal is read from its cursor on. -/
def Obligations.StreamsPlay : Prop :=
  (∀ s dt p slot f k n q, s.on → s.b Obj.playEnable p = true → s.poolReady = true → slot = s.n Obj.playSlot p →
    f = s.n Obj.srcReservedFormat slot → f ≠ 0 → k = gridIndex (fmtPeriod f) (s.tick dt).tc →
    (s.src slot).generatorAt ≠ some k → s.b Obj.playRun p = true → (s.player p).start = none → (s.player p).next = n →
    (s.clip (s.n Obj.playClip p)).frames[n]? = some (some q) → (s.player p).fetched.contains n = true →
    Completes (.playbackFrameWrite dt p) s fun t =>
      t.n Obj.playPosition p = n ∧ (t.player p).next = n + 1 ∧ (t.player p).last = some (n, q) ∧
        (t.src slot).generatorAt = some k ∧
        ∃ g, (t.src slot).frames.head? = some g ∧ g.pic = q.pic ∧ g.format = f ∧ g.anc = q.anc ∧
          g.write = gridPoint (fmtPeriod f) k / 65536) ∧
  (∀ s dt l slot f j q, s.on → s.b Obj.dlyEnable l = true → s.poolReady = true → slot = s.n Obj.dlySlot l →
    f = s.n Obj.srcReservedFormat slot → f ≠ 0 →
    j = alignIndex f (s.n Obj.dstTimingOffset (s.n Obj.dlyDst l)) (s.tick dt).tc → (s.src slot).generatorAt ≠ some j →
    s.n Obj.dlyFrames l ≤ j → (s.line l).ring.find? (fun g => g.index == j - s.n Obj.dlyFrames l) = some q →
    (s.line l).fetched.contains (j - s.n Obj.dlyFrames l) = true →
    Completes (.delayFrameWrite dt l) s fun t =>
      l ∈ t.mor.dlyLive ∧ (t.src slot).generatorAt = some j ∧
        ∃ g, (t.src slot).frames.head? = some g ∧ g.pic = q.pic ∧ g.kind = q.kind ∧ g.origin = q.origin ∧
          g.stages = q.stages ++ [(6, q.read)]) ∧
  (∀ s dt m x value, Acts s dt m x Obj.morFormat 0 value (.num 1) →
    Completes (.morFormat dt m value) s fun t =>
      t.mor.pool = (List.range 4).filter (fun d => (s.drive d).present && (s.drive d).nvme) ∧ t.mor.clips = [] ∧
        t.mor.diskJournalBytes = s.n Obj.morJournalBytes 0 ∧ Answered m x t) ∧
  (∀ s dt m x k value, Acts s dt m x Obj.clipDelete k value (.num 1) →
    Completes (.clipDelete dt m k value) s fun t => t.clip k = {} ∧ Answered m x t) ∧
  (∀ s dt m x r, Ready s m x (.read Obj.morJournalRead 0 0 0) → dictRow Obj.morJournalRead 0 = some r → r.role ≤ x.role →
    Completes (.morJournalRead dt m) s fun t =>
      answerOf m x 0x10 0 (.read s.morJournalRead.1.length (s.morJournalRead.1.take (readRoom x.tcp))) ∈ t.out ∧
        t.n Obj.morJournalCursor 0 = s.morJournalRead.2.n Obj.morJournalCursor 0)

/-! ## Control ports (chapter 17) -/

/-- CTL_FRAME_RECEIVED, CTL_TX_FRAME, CTL_LINK_UP, CTL_LINK_DOWN, CTL_SPEED_CYCLE, CTL_LOAD_WINDOW, CTL_STEP_FAIL, CTL_TX_FRAME_WAIT and
CMAC_CTRL_WRITE (R503 to R512, R515): a frame that the filter drops is counted under its first reason and reaches no memory; an
accepted one is written through the ring, with its descriptors' status; the highest ready queue sends its next frame; the link
comes up at the rate that the port seeks, and goes down; without a link AUTO tries the next rate; a load above 70 % steps to the
highest one, as does a frame that has waited 10 ms; a step that fails returns and ends stepping; a port disabled has no link. -/
def Obligations.ControlPorts : Prop :=
  (∀ s dt p f off, s.awake → s.ctlUp p = true → bit (s.regN (cmac p 0)) 0 = true → bit (s.regN (cmac p 0)) 1 = true →
    s.ctlDrop p f = some off →
    Completes (.ctlFrameReceived dt p f) s fun t =>
      t.mem = s.mem ∧ (field (s.regN (cmac p off)) 0 30 < 0x7FFFFFFF → t.regN (cmac p off) = s.regN (cmac p off) + 1)) ∧
  (∀ s dt p f size l, s.awake → s.ctlUp p = true → bit (s.regN (cmac p 0)) 0 = true → bit (s.regN (cmac p 0)) 1 = true →
    s.ctlDrop p f = none → size = max 1 (s.regN (cmac p 0x108)) →
    s.rxPlan p size (f.payload.length + 1) (s.regN (cmac p 0x10C)) f.payload = some l →
    Completes (.ctlFrameReceived dt p f) s fun t =>
      t.mem = (((s.tick dt).rxData p l).rxStatus p ((s.ctlSlot p f.dst).getD 31) true l).mem ∧
        t.regN (cmac p 0x10C) = (s.regN (cmac p 0x10C) + l.length) % size ∧ bit (t.regN (cmac p 0x14)) 0 = true) ∧
  (∀ s dt p q l, s.awake → s.ctlUp p = true → bit (s.regN (cmac p 0)) 0 = true → bit (s.regN (cmac p 0)) 2 = true →
    [7, 6, 5, 4, 3, 2, 1, 0].find? (fun q => (s.txNext p q).isSome) = some q → s.txNext p q = some l →
    (s.txBytes p q l).length ≤ 1518 →
    Completes (.ctlTxFrame dt p) s fun t =>
      Out.ctlFrame p (s.txWire p (s.txBytes p q l)) ∈ t.out ∧
        t.regN (cmac p (0x18C + 0x10 * q)) =
          (s.regN (cmac p (0x18C + 0x10 * q)) + l.length) % max 1 (s.regN (cmac p (0x188 + 0x10 * q)))) ∧
  (∀ s dt p speed, s.awake → s.il.ctlUp = true → bit (s.regN (cmac p 0)) 0 = true → s.ctlUp p = false → 1 ≤ speed →
    speed ≤ 3 → speed = s.ctlSought p →
    Completes (.ctlLinkUp dt p speed) s fun t =>
      t.ctlUp p = true ∧ t.ctlSpeed p = speed ∧ (t.ctlPort p).lastSpeed = speed ∧ Raised Ev.ctlLinkUp p s t) ∧
  (∀ s dt p, s.awake → s.ctlUp p = true →
    Completes (.ctlLinkDown dt p) s fun t =>
      t.ctlUp p = false ∧ t.ctlSpeed p = 0 ∧ (t.ctlPort p).trying = 1 ∧ Raised Ev.ctlLinkDown p s t) ∧
  (∀ s dt p, s.awake → bit (s.regN (cmac p 0)) 0 = true → s.ctlUp p = false → s.speedMode p = 0 →
    (s.ctlPort p).step = none → (s.ctlPort p).tryAt + 500000000 ≤ s.now + dt →
    Completes (.ctlSpeedCycle dt p) s fun t =>
      (t.ctlPort p).trying = (s.ctlPort p).trying % 3 + 1 ∧ (t.ctlPort p).tryAt = t.now) ∧
  (∀ s dt p rx tx, s.awake → bit (s.regN (cmac p 0)) 0 = true →
    Completes (.ctlLoadWindow dt p rx tx) s fun t =>
      t.regN (cmac p 0x10) = rx % 65536 + 65536 * (tx % 65536) ∧
        (s.ctlStepping p = true → s.ctlSpeed p ≠ 1 → 70 * speedMbps (s.ctlSpeed p) < 100 * max rx tx →
          t.ctlUp p = false ∧ (t.ctlPort p).step = some (s.ctlSpeed p, 1, t.now))) ∧
  (∀ s dt p left sought a, s.awake → s.ctlUp p = false → (s.ctlPort p).step = some (left, sought, a) → sought ≠ left →
    a + 1000000000 ≤ s.now + dt →
    Completes (.ctlStepFail dt p) s fun t =>
      (t.ctlPort p).step = some (left, left, t.now) ∧ bit (t.regN (cmac p 0)) 6 = false ∧
        bit (t.regN (cmac p 4)) 9 = true ∧ Raised Ev.ctlStepFail p s t) ∧
  (∀ s dt p waited, s.awake → s.ctlStepping p = true → s.ctlSpeed p ≠ 1 → 10000 < waited →
    Completes (.ctlTxFrameWait dt p waited) s fun t =>
      t.ctlUp p = false ∧ (t.ctlPort p).step = some (s.ctlSpeed p, 1, t.now)) ∧
  (∀ s dt p v, s.awake → p < 2 →
    Completes (.cmacCtrlWrite dt p v) s fun t =>
      t.regN (cmac p 0) = (s.busWrite (cmac p 0) v).regN (cmac p 0) ∧
        (bit v 0 = false → bit (t.regN (cmac p 0)) 0 = false ∧ t.ctlUp p = false))

/-! ## The Col matrix (chapters 18 and 19) -/

/-- COL_REQUEST, COL_PORT_CLOCK_STOP, COL_FENCE, COL_APERTURE_REFUSED, INTERRUPT_FORWARD, CACHE_CLEAN, CACHE_INVAL,
CACHE_CLEAN_INVAL, REGISTER_WRITE and REG_COUNTER_CLEAR (R517, R520, R521, R535 to R542, R560): a request that Col accepts reads or
writes its piece of at most 16 beats; of two, the one of the higher effective QoS is granted, and of equals the next by round-robin;
a refused one changes no memory, is counted, and the first one latched; an idle port stops its clock; a base outside the Upland
region is ignored; an asserted line is forwarded; a cache instruction acts on Upland SRAM alone; a register write by Upland reaches
memory and a timer's LOAD and no trusted key store; a clear register clears its counters. That a fence has nothing left to wait for
and a cache holds nothing are the model's choices (notes/assumptions/39.md, and the docstring of execColFence). -/
def Obligations.ColServes : Prop :=
  (∀ s dt target r a n, s.awake → r.master < 6 → r.data ≠ [] → a = s.busAddr r.master r.addr →
    n = colPiece a r.data.length → colCheck r.master a n r.write (colTrust r) = .inl target → r.targetError = false →
    target ∈ [0, 1, 3] →
    Completes (.colRequest dt target [r]) s fun t =>
      if r.write then ∀ b, t.memByte b = if a ≤ b ∧ b < a + n then r.data.getD (b - a) 0 else s.memByte b
      else Out.col target (s.memBytes a n) ∈ t.out ∧ t.mem = s.mem) ∧
  (∀ s dt target r x a wake, s.awake → r.master < 6 → r.data ≠ [] → x.master < 6 → x.data ≠ [] →
    a = s.busAddr r.master r.addr → wake = (if bit (s.regN 0x40020004) target then 0 else 2) →
    colCheck r.master a (colPiece a r.data.length) r.write (colTrust r) = .inl target → r.targetError = false →
    (colTarget (s.busAddr x.master x.addr)).getD 7 = target → target ∈ [0, 1, 3] →
    (s.colQos x wake < s.colQos r wake ∨ s.colQos x wake = s.colQos r wake ∧
      robin (look s.colLast target 5) r.master < robin (look s.colLast target 5) x.master) →
    (Completes (.colRequest dt target [r, x]) s fun t => look t.colLast target 5 = r.master) ∧
      Completes (.colRequest dt target [x, r]) s fun t => look t.colLast target 5 = r.master) ∧
  (∀ s dt target r a reason tg, s.awake → r.master < 6 → r.master ≠ 1 → (r.master = 0 → r.trusted = true) → r.data ≠ [] →
    a = s.busAddr r.master r.addr → (colTarget a).getD 7 = target →
    colCheck r.master a (colPiece a r.data.length) r.write (colTrust r) = .inr (reason, tg) →
    Completes (.colRequest dt target [r]) s fun t =>
      t.mem = s.mem ∧ Counted Obj.colRefused r.master 1 s t ∧ bit (t.regN 0x40020050) 0 = true ∧
        (bit (s.regN 0x40020048) 31 = false → t.regN 0x40020040 = a % 2 ^ 32)) ∧
  (∀ s dt target, s.awake → target < 6 →
    Completes (.colPortClockStop dt target) s fun t => bit (t.regN 0x40020004) target = false) ∧
  (∀ s dt value, s.awake → Completes (.colFence dt value) s fun t => t = s.tick dt) ∧
  (∀ s dt value trusted, s.awake →
    Completes (.colApertureRefused dt value trusted) s fun t =>
      if trusted = true ∨ (Config.hbmRegion ≤ field value 0 9 ∧ field value 0 9 ≤ Config.hbmRegion + 15) then
        t.regN 0x40020030 = field value 0 9
      else t.regN 0x40020030 = s.regN 0x40020030 ∧ bit (t.regN 0x40020034) 0 = true ∧ Raised Ev.colApertureRefused 0 s t) ∧
  (∀ s dt line, s.gated → s.lineUp line = true →
    Completes (.interruptForward dt line) s fun t => Out.interrupt line ∈ t.out) ∧
  (∀ s dt addr, s.awake → colTarget addr = some 1 →
    (Completes (.cacheClean dt addr) s fun t => t = s.tick dt) ∧ (Completes (.cacheInval dt addr) s fun t => t = s.tick dt) ∧
      Completes (.cacheCleanInval dt addr) s fun t => t = s.tick dt) ∧
  (∀ s dt addr, s.gated → s.faultStays dt → colTarget addr ≠ some 1 →
    (Completes (.cacheClean dt addr) s fun t => UplandStopped 4 s t) ∧
      (Completes (.cacheInval dt addr) s fun t => UplandStopped 4 s t) ∧
        Completes (.cacheCleanInval dt addr) s fun t => UplandStopped 4 s t) ∧
  (∀ s dt addr value trusted, s.awake → 0x10000000 ≤ addr → addr + 4 ≤ 0x10800000 →
    Completes (.registerWrite dt addr value trusted) s fun t =>
      t.memWord addr = value % 2 ^ 32 ∧ ∀ b, b < addr ∨ addr + 4 ≤ b → t.memByte b = s.memByte b) ∧
  (∀ s dt k value trusted, s.awake → k < 4 →
    Completes (.registerWrite dt (tmw k 0x10) value trusted) s fun t => t.regN (tmw k 0x10) = value % 2 ^ 32) ∧
  (∀ s dt addr value, s.awake → 0x40070000 ≤ addr → addr + 4 ≤ 0x40080000 →
    Completes (.registerWrite dt addr value false) s fun t => t = s.tick dt) ∧
  (∀ s dt addr value, s.awake →
    Completes (.regCounterClear dt addr value) s fun t =>
      (∀ a, a ∉ clearRange addr → t.regN a = s.regN a) ∧
        if bit value 0 = true then ∀ a ∈ clearRange addr, t.regN a = 0 else t = s.tick dt)

/-! ## The Scree engine (chapter 19) -/

/-- The SCR commands (R544, R548 to R552): a TAIL write; the lowest ready channel's descriptor starts, or ends with PARAM before it
moves anything; a peripheral's request appears, or its withdrawal holds the descriptor; a completed one writes words 10 and 9,
advances HEAD and sets DONEn where IRQ is set; a late error completes it with BEAT_ERR; an error halts the engine with its code and
HEAD on the descriptor; a stalled one ends with STALL; an abort removes what has not started and ends what runs; CLEAR lets the engine
run again, with SKIP past the failed descriptor; a disabled channel is aborted. -/
def Obligations.ScreeRuns : Prop :=
  (∀ s dt channel value, s.awake → channel < 16 →
    Completes (.scrTailWrite dt channel value) s fun t => t.scrTail channel = field value 0 7) ∧
  (∀ s dt n w, s.awake → bit (s.regN (scrRg 0)) 0 = true → s.scrHalted = false → s.scr.run = none →
    (List.range 16).find? (s.tick dt).scrReady = some n → s.descIn n →
    w = (chunksOf 4 16 (s.memBytes (s.scrDesc n) 64)).map fromLe →
    Completes (.scrDescriptorStart dt) s fun t =>
      if paramFault w = true then HaltedBy n 4 s t ∧ t.memWord (s.scrDesc n + 36) = 4 ∧ t.memWord (s.scrDesc n + 40) = 0
      else dPeriph w = 0 → t.scr.run = some ⟨n, w, 0, none⟩ ∧ t.regField (scrRg 4) 4 7 = n ∧
        bit (t.regN (scrRg 4)) 0 = true) ∧
  (∀ s dt p asserted, s.awake → s.scr.run = none → Completes (.scrPeriphRequest dt p asserted) s fun t => t = s.tick dt) ∧
  (∀ s dt p r, s.awake → s.boot.stage ≠ .rom → 1 ≤ p → p ≤ 16 → s.periphRequest p = false → s.scr.run = some r →
    dPeriph r.words = p → r.counted = false → r.waitSince = none →
    Completes (.scrPeriphRequest dt p false) s fun t => t.scr.run = some { r with waitSince := some t.now }) ∧
  (∀ s dt r, s.awake → s.scr.run = some r → r.waitSince = none → r.counted = true → r.channel < 16 → s.descIn r.channel →
    Completes (.scrDescriptorComplete dt false) s fun t =>
      t.scr.run = none ∧ t.scr.lastDone = some r.channel ∧
        t.regN (scrCh r.channel 0x0C) = (s.scrHead r.channel + 1) % max 1 (s.regField (scrCh r.channel 8) 0 8) ∧
        t.memWord (s.scrDesc r.channel + 36) = 2 ^ 31 ∧ t.memWord (s.scrDesc r.channel + 40) = r.moved % 2 ^ 32 ∧
        (bit (dw r.words 8) 3 = true → bit (t.regN (scrRg 0x10)) r.channel = true) ∧
        ∀ b, b < s.scrDesc r.channel + 36 ∨ s.scrDesc r.channel + 44 ≤ b → t.memByte b = s.memByte b) ∧
  (∀ s dt r, s.awake → s.scr.run = some r → r.waitSince = none → r.counted = true → r.channel < 16 → s.descIn r.channel →
    dIndex r.words = 0 → dDstFixed r.words = false → 0x10000000 ≤ dAddr r.words 2 →
    dAddr r.words 2 + dLen r.words ≤ 0x10800000 →
    Completes (.scrDescriptorComplete dt true) s fun t =>
      t.scr.run = none ∧ t.scrHalted = true ∧ t.regField (scrRg 4) 8 11 = r.channel ∧ t.regField (scrRg 4) 12 19 = 5 ∧
        t.regN (scrCh r.channel 0x0C) = (s.scrHead r.channel + 1) % max 1 (s.regField (scrCh r.channel 8) 0 8) ∧
        t.memWord (s.scrDesc r.channel + 36) = 2 ^ 31 + 5 ∧ Raised Ev.scrHalted r.channel s t) ∧
  (∀ s dt r code, s.awake → s.scrHalted = false → s.scr.run = some r → r.channel < 16 → s.descIn r.channel →
    (code = 2 ∨ (code = 1 ∨ code = 3) ∧ ((s.tick dt).scrBursts (dTotal r.words) 1).scr.run ≠ none) →
    Completes (.scrHalted dt code 0) s fun t => HaltedBy r.channel code s t ∧ t.memWord (s.scrDesc r.channel + 36) = code) ∧
  (∀ s dt n, s.awake → s.scrHalted = false → s.scr.run = none → bit (s.regN (scrRg 0)) 0 = true →
    (List.range 16).find? (s.tick dt).scrReady = some n →
    Completes (.scrHalted dt 8 0) s fun t => HaltedBy n 8 s t ∧ t.mem = s.mem) ∧
  (∀ s dt r a, s.awake → s.scr.run = some r → r.waitSince = some a → r.channel < 16 → s.descIn r.channel →
    a + s.regField (scrRg 0x18) 0 15 * 1000 ≤ s.now + dt →
    Completes (.scrStall dt) s fun t => HaltedBy r.channel 6 s t ∧ t.memWord (s.scrDesc r.channel + 36) = 6) ∧
  (∀ s dt n bursts, s.awake → n < 16 → s.scr.run = none →
    Completes (.scrAbort dt n bursts) s fun t =>
      t.scrHead n = s.scrTail n ∧ t.scrHalted = s.scrHalted ∧
        t.regN (scrRg 0x0C) = if s.scrHalted = true ∧ s.regField (scrRg 4) 8 11 = n then 3
          else if s.scr.lastDone = some n then 2 else 3) ∧
  (∀ s dt r bursts, s.awake → s.scr.run = some r → r.channel < 16 → s.descIn r.channel → (r.counted = true ∨ bursts = 0) →
    Completes (.scrAbort dt r.channel bursts) s fun t =>
      t.scr.run = none ∧ t.scrHead r.channel = s.scrTail r.channel ∧
        if r.counted = true then t.regN (scrRg 0x0C) = 2 ∧ bit (t.regN (scrRg 0x10)) 17 = bit (s.regN (scrRg 0x10)) 17
        else t.regN (scrRg 0x0C) = 1 ∧ bit (t.regN (scrRg 0x10)) 17 = true ∧ t.memWord (s.scrDesc r.channel + 36) = 7) ∧
  (∀ s dt n skip, s.awake → s.scrHalted = true → n = s.regField (scrRg 4) 8 11 →
    Completes (.scrClear dt skip) s fun t =>
      t.scrHalted = false ∧ t.regField (scrRg 4) 12 19 = 0 ∧
        t.regN (scrCh n 0x0C) =
          if skip = true ∧ s.regField (scrRg 4) 12 19 ≠ 5 ∧ s.scr.removed = false then
            (s.scrHead n + 1) % max 1 (s.regField (scrCh n 8) 0 8)
          else s.regN (scrCh n 0x0C)) ∧
  (∀ s dt n bursts, s.awake → n < 16 → s.scr.run = none →
    Completes (.scrChannelDisable dt n bursts) s fun t =>
      bit (t.regN (scrCh n 0x14)) 0 = false ∧ t.scrHead n = s.scrTail n)

/-- A descriptor with SWAP that moves one burst (R545 to R549): mode 0 copies the bytes, mode 1 swaps the bytes of each half-word,
mode 2 reverses the bytes of each word, and mode 3 swaps the half-words of each word, counted from the transfer's first byte; a
length that the mode forbids ends the descriptor with PARAM before it moves anything. -/
def Obligations.SwapsBytes : Prop :=
  (∀ s dt r w src dst n, s.awake → s.scr.run = some r → w = r.words → r.moved = 0 → r.waitSince = none → r.channel < 16 →
    s.descIn r.channel → dIndex w = 0 → dSrcFixed w = false → dDstFixed w = false → n = dLen w → 0 < n →
    src = dAddr w 0 → dst = dAddr w 2 → 0x10000000 ≤ src → src + n ≤ 0x10800000 → 0x10000000 ≤ dst → dst + n ≤ 0x10800000 →
    src % 512 + n ≤ 512 → dst % 512 + n ≤ 512 →
    (dst + n ≤ s.scrDesc r.channel + 36 ∨ s.scrDesc r.channel + 44 ≤ dst) →
    (dSwap w = 1 → n % 2 = 0) → (2 ≤ dSwap w → n % 4 = 0) → dPeriph w = 0 →
    Completes (.scrDescriptorComplete dt false) s fun t =>
      (dSwap w = 0 → ∀ i, i < n → t.memByte (dst + i) = s.memByte (src + i)) ∧
      (dSwap w = 1 → ∀ i, 2 * i < n →
        t.memByte (dst + 2 * i) = s.memByte (src + 2 * i + 1) ∧ t.memByte (dst + 2 * i + 1) = s.memByte (src + 2 * i)) ∧
      (dSwap w = 2 → ∀ i j, 4 * i < n → j < 4 → t.memByte (dst + 4 * i + j) = s.memByte (src + 4 * i + (3 - j))) ∧
      (dSwap w = 3 → ∀ i j, 4 * i < n → j < 2 →
        t.memByte (dst + 4 * i + j) = s.memByte (src + 4 * i + 2 + j) ∧
          t.memByte (dst + 4 * i + 2 + j) = s.memByte (src + 4 * i + j)) ∧
      (∀ b, (b < dst ∨ dst + n ≤ b) → (b < s.scrDesc r.channel + 36 ∨ s.scrDesc r.channel + 44 ≤ b) →
        t.memByte b = s.memByte b)) ∧
  (∀ s dt n w, s.awake → bit (s.regN (scrRg 0)) 0 = true → s.scrHalted = false → s.scr.run = none →
    (List.range 16).find? (s.tick dt).scrReady = some n → s.descIn n →
    w = (chunksOf 4 16 (s.memBytes (s.scrDesc n) 64)).map fromLe →
    (dSwap w = 1 ∧ dElem w % 2 ≠ 0 ∨ 2 ≤ dSwap w ∧ dElem w % 4 ≠ 0) →
    Completes (.scrDescriptorStart dt) s fun t => HaltedBy n 4 s t)

/-! ## Memory integrity, monitors and events (chapters 19 and 20) -/

/-- MEM_CORRECTED, MEM_UNCORRECTABLE, MEM_SCRUB_READ, MON_PERIOD, EVT_POP, EVT_PIN_ACK and EVT_PULSE_END (R554 to R556, R568, R572,
R574, R576): a memory error is counted and raised; the reader of an uncorrectable one acts as R555 gives (a shown block is concealed,
a packet discarded, a graphics block transparent, a Firn surface stale, a stage bypassed, a table rebuilt, a frame missing, Upland or
Scree stopped, Bedrock's state lost); the scrubber reports its progress and the end of a pass; a unit rolls at its period; a record
leaves the FIFO for the subscribed sessions, and an overflow episode ends at 512; a pin is released by its acknowledgement or at the
end of its pulse. -/
def Obligations.MemoryAndEvents : Prop :=
  (∀ s dt memory, s.awake → memory ≤ 6 →
    Completes (.memCorrected dt memory) s fun t => Counted Obj.memCorrected memory 1 s t) ∧
  (∀ s dt memory addr entry seq, s.awake → memory ≤ 6 →
    Completes (.memUncorrectable dt memory addr (.receivePacket entry seq)) s fun t =>
      Counted Obj.memUncorrectable memory 1 s t ∧ Raised Ev.memUncorrectable memory s t ∧
        (t.rxe entry).buffer = (s.rxe entry).buffer.filter fun r => r.seq != seq) ∧
  (∀ s dt memory addr slot seq line block previousBad d x, s.awake → memory ≤ 6 → (s.dst d).shown = some x →
    x.store = some (slot, seq) → (∀ e l, Objs.sink s.objs d = .layer e l → (s.engine e).writing ≠ slot) →
    Completes (.memUncorrectable dt memory addr (.videoBlock slot seq line block previousBad [d])) s fun t =>
      Counted Obj.dstConcealedBlocks d 1 s t ∧
        ∃ y, (t.dst d).shown = some y ∧
          y.pic = .concealed x.pic (if previousBad = true then .black else (s.src slot).previousPic seq) line block) ∧
  (∀ s dt memory addr slot seq line block tag previousTag d x, s.awake → memory ≤ 6 → (s.dst d).shown = some x →
    x.store = some (slot, seq) →
    Completes (.memUncorrectable dt memory addr (.tagBlock slot seq line block tag previousTag [d])) s fun t =>
      t.n Obj.memUncorrectable memory = s.n Obj.memUncorrectable memory ∧
        Counted Obj.dstConcealedBlocks d (b2n (tag != frameTag slot line seq)) s t) ∧
  (∀ s dt memory addr slot seq, s.awake → memory ≤ 6 →
    Completes (.memUncorrectable dt memory addr (.sideData slot seq)) s fun t =>
      (∀ f ∈ (t.src slot).frames, f.seq = seq → f.metaBad = true) ∧
        ∀ d x, (s.dst d).shown = some x → x.loss = false → x.store = some (slot, seq) → (s.ridge.dst.map (·.1)).Nodup →
          ∃ y, (t.dst d).shown = some y ∧ y.anc = []) ∧
  (∀ s dt memory addr layer offset, s.awake → memory ≤ 6 →
    Completes (.memUncorrectable dt memory addr (.graphicsBlock layer offset)) s fun t =>
      (t.layer layer).front =
        (s.layer layer).front.filter fun c => !(offset / 64 * 64 ≤ c.1 && c.1 < offset / 64 * 64 + 64)) ∧
  (∀ s dt memory addr engine, s.awake → memory ≤ 6 → s.n Obj.cqFirnState engine = 1 →
    Completes (.memUncorrectable dt memory addr (.firn engine)) s fun t => t.n Obj.cqFirnState engine = 2) ∧
  (∀ s dt memory addr stage, s.awake → memory ≤ 6 →
    Completes (.memUncorrectable dt memory addr (.colourTable stage true)) s fun t =>
      (t.stage stage).failed = true ∧ bit (t.n Obj.colStageState stage) 0 = true) ∧
  (∀ s dt memory addr, s.awake → memory ≤ 6 →
    Completes (.memUncorrectable dt memory addr .commitTable) s fun t =>
      bit (t.n Obj.healthReasons 0) 0 = true ∧ Raised Ev.ctrlMemRepaired memory s t) ∧
  (∀ s dt memory addr play frame, s.awake → memory ≤ 6 →
    Completes (.memUncorrectable dt memory addr (.moraineStaging play frame)) s fun t =>
      (t.player play).fetched = (s.player play).fetched.filter fun x => x != frame) ∧
  (∀ s dt memory addr pc a, s.gated → s.faultStays dt → memory ≤ 6 →
    (Completes (.memUncorrectable dt memory addr (.uplandFetch pc)) s fun t => UplandStopped 1 s t) ∧
      Completes (.memUncorrectable dt memory addr (.uplandLoad pc a)) s fun t => UplandStopped 2 s t) ∧
  (∀ s dt memory addr r, s.awake → memory ≤ 6 → s.scr.run = some r → r.channel < 16 → s.descIn r.channel →
    Completes (.memUncorrectable dt memory addr .screeRead) s fun t => HaltedBy r.channel 1 s t) ∧
  (∀ s dt memory addr, s.awake → memory ≤ 6 →
    Completes (.memUncorrectable dt memory addr .bedrock) s fun t =>
      t.boot.ctrlMemLost = true ∧ bit (t.n Obj.healthReasons 0) 1 = true ∧ t.n Obj.healthState 0 = 2 ∧
        Raised Ev.ctrlMemLost memory s t) ∧
  (∀ s dt memory addr r passEnd, s.awake → memory ≤ 6 →
    Completes (.memScrubRead dt memory addr r passEnd) s fun t =>
      (r = .correctable ∨ r = .correctableOverwritten → Counted Obj.memCorrected memory 1 s t) ∧
      (r = .uncorrectable → Counted Obj.memUncorrectable memory 1 s t ∧ Raised Ev.memUncorrectable memory s t) ∧
      (memory < 4 → if passEnd = true then
          t.n Obj.memScrubProgress 0 = 0 ∧ t.n Obj.memScrubLastPass 0 = t.ptp ∧ Raised Ev.memScrubPass memory s t
        else t.n Obj.memScrubProgress 0 = scrubPercent addr)) ∧
  (∀ s dt u, s.awake → s.monStateOf u = 1 → s.n Obj.monPeriod u ≠ 0 → (s.monUnit u).roll ≠ (s.tick dt).monIndex u →
    Completes (.monPeriod dt u) s fun t =>
      t.by Obj.monPrevious u = s.by Obj.monHistogram u ∧
        t.by Obj.monHistogram u =
          (s.monFresh u ((s.tick dt).monIndex u * (1000000000 * s.n Obj.monPeriod u))).encode ∧
        (t.monUnit u).roll = (s.tick dt).monIndex u ∧ Raised Ev.monPeriod u s t) ∧
  (∀ s dt value r l, s.awake → s.ev.fifo = r :: l → (s.ev.episode = false ∨ 512 < l.length) →
    Completes (.evtPop dt value) s fun t =>
      t.ev.fifo = l ∧ t.il.sessions =
        if s.il.ctlUp = true then
          s.il.sessions.map fun (p : Nat × Session) => (p.1, p.2.takeRecord r s.ev.droppedUnseen t.now)
        else s.il.sessions) ∧
  (∀ s dt value r l, s.awake → s.ev.fifo = r :: l → s.ev.episode = true → l.length ≤ 512 →
    Completes (.evtPop dt value) s fun t => t.ev.episode = false ∧ Raised Ev.eventFifoOverflow s.ev.episodeDrops s t) ∧
  (∀ s dt value n, s.awake → n < 2 →
    Completes (.evtPinAck dt value) s fun t =>
      if bit value n = true then
        (t.evPin n).cause = none ∧
          (t.evPin n).asserted = if s.regField Reg.evtPinctl n n = 0 then false else (s.evPin n).asserted
      else t.evPin n = s.evPin n) ∧
  (∀ s dt pin a, s.awake → pin < 2 → (s.evPin pin).asserted = true → s.regField Reg.evtPinctl pin pin = 1 →
    (s.evPin pin).pulseAt = some a → a + 2000 ≤ s.now + dt →
    Completes (.evtPulseEnd dt pin) s fun t => (t.evPin pin).asserted = false ∧ Out.pin .evtN pin 1 ∈ t.out)

/-- Software raises (R573): a write of EVT_SWRAISE, as a command or over the bus, raises a source from 56 to 63 with the subject in
EVT_SWSUBJ; one that names any other source is ignored and sets SW_REJECT; a write of EVT_SWSUBJ gives the subject. -/
def Obligations.SoftwareRaises : Prop :=
  (∀ s dt value, s.awake →
    Completes (.evtSwraise dt value) s fun t =>
      if 56 ≤ field value 0 8 ∧ field value 0 8 ≤ 63 then Raised (field value 0 8) (s.regN Reg.evtSwsubj) s t
      else t = (s.tick dt).setRegBit Reg.evtStat 17 true) ∧
  (∀ s dt value trusted, s.awake →
    Completes (.registerWrite dt 0x40000020 value trusted) s fun t =>
      if 56 ≤ field value 0 8 ∧ field value 0 8 ≤ 63 then Raised (field value 0 8) (s.regN Reg.evtSwsubj) s t
      else t = (s.tick dt).setRegBit Reg.evtStat 17 true) ∧
  (∀ s dt value trusted, s.awake →
    Completes (.registerWrite dt Reg.evtSwsubj value trusted) s fun t => t.regN Reg.evtSwsubj = value % 2 ^ 32)

/-- The alarm of a capture unit (R569): a sample greater than MonAlarm raises MON_ALARM once until the unit rolls or restarts, and
is captured as usual; with a MonPeriod of 0 the unit never rolls. -/
def Obligations.AlarmsOnce : Prop :=
  (∀ s dt u value v, s.awake → s.monStateOf u = 1 → s.monValue u value = some v →
    Completes (.monSample dt u value) s fun t =>
      t.by Obj.monHistogram u =
          (((Hist.decode (s.by Obj.monHistogram u)).getD (s.monFresh u t.ptp)).add v).1.encode ∧
        if s.i Obj.monAlarm u < v ∧ (s.monUnit u).alarmed = false then
          Raised Ev.monAlarm u s t ∧ (t.monUnit u).alarmed = true
        else t.n Obj.eventCount Ev.monAlarm = s.n Obj.eventCount Ev.monAlarm ∧ t.monUnit u = s.monUnit u) ∧
  (∀ s dt u, s.awake → s.monStateOf u = 1 → s.n Obj.monPeriod u ≠ 0 → (s.monUnit u).roll ≠ (s.tick dt).monIndex u →
    Completes (.monPeriod dt u) s fun t => (t.monUnit u).alarmed = false) ∧
  (∀ s dt u, s.awake → s.n Obj.monPeriod u = 0 → Completes (.monPeriod dt u) s fun t => t = s.tick dt) ∧
  (∀ s dt m x sub value, Acts s dt m x Obj.monClear sub value (.num 1) →
    Completes (.monClear dt m sub value) s fun t => (t.monUnit sub).alarmed = false) ∧
  (∀ s dt m x index sub value v, Obj.monKind ≤ index → index < Obj.monPeriod → Acts s dt m x index sub value v →
    Completes (.monConfigWrite dt m index sub value) s fun t => (t.monUnit sub).alarmed = false)

/-! ## Timers and the flash controller (chapters 18 and 21) -/

/-- TMW_TIMER_EXPIRY, TMW_ALARM_ARM, TMW_ALARM_FIRE, TMW_PTP_LATCH, WDT_KICK, OSF_READ, OSF_PROGRAM, OSF_ERASE_4K, OSF_ERASE_64K and
OSF_DONE (R527, R529, R600): an expired timer sets its bit and reloads when it is periodic; an alarm armed late fires at once, and an
armed one at its time; a read of the seconds is latched; Bedrock alone kicks the watchdog; a flash command starts, erases aligned to
their size, and one outside the window does nothing and sets WIN_REJECT; at its end a program has cleared the bits of its buffer's
zeros, an erase has set its range to 0xFF, and a read fills the buffer. That a program of a NOR flash clears bits is the model's choice
(notes/assumptions/9.md), as is the refusal of one across a 256-byte boundary (notes/assumptions/36.md). -/
def Obligations.TimersAndFlash : Prop :=
  (∀ s dt k at_ load, s.awake → k < 4 → s.gate.timerStart.lookup k = some (at_, load) → load ≤ (s.tick dt).timerTicks k →
    Completes (.tmwTimerExpiry dt k) s fun t =>
      bit (t.regN 0x40060070) k = true ∧
        if bit (s.regN (tmw k 0x18)) 0 = true then t.gate.timerStart.lookup k = some (t.now, s.regN (tmw k 0x10))
        else t.gate.timerStart.lookup k = none ∧ t.regN (tmw k 0x14) = 0) ∧
  (∀ s dt value, s.awake →
    Completes (.tmwAlarmArm dt value) s fun t =>
      if bit value 0 = true ∧ (s.tick dt).alarmDue = true then
        bit (t.regN 0x40060070) 4 = true ∧ bit (t.regN 0x40060070) 5 = true ∧ bit (t.regN 0x40060058) 0 = false
      else bit (t.regN 0x40060058) 0 = bit value 0 ∧ t.regN 0x40060070 = s.regN 0x40060070) ∧
  (∀ s dt, s.awake → bit (s.regN 0x40060058) 0 = true → (s.tick dt).alarmDue = true →
    Completes (.tmwAlarmFire dt) s fun t => bit (t.regN 0x40060070) 4 = true ∧ bit (t.regN 0x40060058) 0 = false) ∧
  (∀ s dt, s.awake →
    Completes (.tmwPtpLatch dt) s fun t =>
      Out.readback 0x40060060 (t.ptp % 1000000000) ∈ t.out ∧ t.regN 0x40060064 = t.ptp / 1000000000 % 2 ^ 32 ∧
        t.regN 0x40060068 = t.ptp / 1000000000 / 2 ^ 32 % 65536) ∧
  (∀ s dt trusted key, s.awake →
    Completes (.wdtKick dt trusted key) s fun t =>
      if trusted = true ∧ s.boot.wdtRunning = true then t.boot.wdtAt = t.now else t = s.tick dt) ∧
  (∀ s dt addr len, s.awake → s.osf = none → addr = s.regField 0x40080004 0 25 → len = s.regField 0x40080008 0 8 →
    (Completes (.osfRead dt) s fun t => t.osf = some ⟨1, addr, len⟩ ∧ bit (t.regN 0x4008000C) 0 = true) ∧
    (Completes (.osfProgram dt) s fun t =>
      if s.inWindow addr len = true ∧ addr % 256 + len ≤ 256 then
        t.osf = some ⟨2, addr, len⟩ ∧ bit (t.regN 0x4008000C) 0 = true
      else t.osf = none ∧ bit (t.regN 0x4008000C) 2 = true ∧ t.flash = s.flash) ∧
    (Completes (.osfErase4k dt) s fun t =>
      if s.inWindow (addr / 4096 * 4096) 4096 = true then
        t.osf = some ⟨3, addr / 4096 * 4096, 4096⟩ ∧ bit (t.regN 0x4008000C) 0 = true
      else t.osf = none ∧ bit (t.regN 0x4008000C) 2 = true ∧ t.flash = s.flash) ∧
    Completes (.osfErase64k dt) s fun t =>
      if s.inWindow (addr / 65536 * 65536) 65536 = true then
        t.osf = some ⟨4, addr / 65536 * 65536, 65536⟩ ∧ bit (t.regN 0x4008000C) 0 = true
      else t.osf = none ∧ bit (t.regN 0x4008000C) 2 = true ∧ t.flash = s.flash) ∧
  (∀ s dt e j, s.awake → s.osf = some j →
    Completes (.osfDone dt e) s fun t =>
      t.osf = none ∧ bit (t.regN 0x4008000C) 0 = false ∧ bit (t.regN 0x4008000C) 1 = true ∧
        (j.op = 1 → j.len ≤ 256 → flashPlain j.addr j.len = true →
          t.osfBuf j.len = s.flashBytes j.addr j.len ∧ t.flash = s.flash) ∧
        (j.op = 2 → j.len ≤ 256 → e = false →
          ∀ a, t.flashByte a = if j.addr ≤ a ∧ a < j.addr + j.len then
            s.flashByte a &&& (s.osfBuf j.len).getD (a - j.addr) 0 else s.flashByte a) ∧
        (j.op = 2 → e = true → bit (t.regN 0x4008000C) 3 = true) ∧
        (j.op ≠ 1 → j.op ≠ 2 →
          ∀ a, t.flashByte a = if j.addr ≤ a ∧ a < j.addr + j.len then 0xFF else s.flashByte a))

/-! ## The service gate (chapter 18) -/

/-- GATE_VERSION, GATE_HBM_REGION, GATE_HEARTBEAT, GATE_RESTART, GATE_AUTH_HELLO, GATE_AUTH_PROOF, GATE_MSG_OPEN, GATE_MSG_SEAL,
GATE_SESSION_END, GATE_CE_SUBMIT, GATE_CE_READ and GATE_DONE (R454 to R460, R518, R522 to R524, R530): the calls of a running Upland
and their answers. A heartbeat is recorded, and the first one after a restart is reported; an Owner session restarts the device; a
HELLO opens a challenge, and its right proof a session; a message is checked and numbered, or sealed under the session's next number; a
session ends; a salvo operation takes a ticket; an object is read; and a completed ticket's record goes into the ring. A buffer outside
Upland SRAM is refused. Where a result stands in A1 and A2 is the model's reading (notes/assumptions/50.md). -/
def Obligations.GateAnswers : Prop :=
  (∀ s dt, s.gated →
    (Completes (.gateVersion dt) s fun t => Out.gate 0 Config.romVersion s.up.patchVersion ∈ t.out) ∧
    (Completes (.gateHbmRegion dt) s fun t => Out.gate 0 (0x10000000 * Config.hbmRegion) 0x100000000 ∈ t.out) ∧
    Completes (.gateHeartbeat dt) s fun t =>
      Out.gate 0 0 0 ∈ t.out ∧ t.boot.heartbeatAt = some t.now ∧ t.boot.heartbeatLate = false ∧
        (s.boot.heartbeatAt = none → s.boot.uplandRestarting = true →
          t.boot.uplandRestarting = false ∧ Raised Ev.uplandRestarted 0 s t) ∧
        ∀ kind slot, s.up.ctl.trial = some (kind, slot) → s.up.trialRuns = true → s.up.windowEnds = none →
          t.up.windowEnds = some (t.now + 1000000000 * s.up.windowLength) ∧ Raised Ev.updateTrialStarted kind s t) ∧
  (∀ s dt session x kind, s.gated → s.session session = some x →
    Completes (.gateRestart dt session kind) s fun t =>
      if x.role ≠ 3 then Out.gate 3 Code.roleTooLow 0 ∈ t.out
      else if kind = 1 then s.anyPending = false → t.boot.stage = .rom ∧ t.boot.cause = 2 ∧ t.boot.soft = true
      else if kind = 2 then t.boot.stage = .rom ∧ t.boot.cause = 3 ∧ t.il.sessions = []
      else Out.gate 3 Code.range 0 ∈ t.out) ∧
  (∀ s dt m h buf, s.gated → bufOk buf = true →
    Completes (.gateAuthHello dt m h buf) s fun t =>
      match (s.tick dt).helloRefusal m h with
      | some (st, retry) => Out.gate 3 st retry ∈ t.out
      | none => (∃ n, Out.gate 0 n 0 ∈ t.out) ∧
          ∃ c ∈ t.il.challenges, c.nc = h.nc ∧ c.role = h.role ∧ c.addr = m.addr ∧ c.openedAt = t.now) ∧
  (∀ s dt m handle proof buf c key, s.gated → bufOk buf = true → (s.tick dt).challengeOf m handle = some c →
    s.keyFor c.role = some key →
    Completes (.gateAuthProof dt m handle proof buf) s fun t =>
      if proof ≠ Config.hmac key (c.nd ++ c.nc ++ Config.uniqueId) then
        Out.gate 3 Code.authFailed 0 ∈ t.out ∧ Counted Obj.authFailures 0 1 s t ∧ Raised Ev.authFailure c.role s t
      else s.il.sessions.length < s.sessionMost →
        Out.gate 0 s.freeSession 0 ∈ t.out ∧ Raised Ev.sessionOpened s.freeSession s t ∧
          ∃ y, t.session s.freeSession = some y ∧ y.role = c.role) ∧
  (∀ s dt m buf x, s.gated → bufOk buf = true → s.session m.session = some x →
    Completes (.gateMsgOpen dt m buf) s fun t =>
      if m.tagOk = false then Out.gate 3 Obj.dropTag 0 ∈ t.out
      else if m.seq = 0 ∨ m.seq + 63 < x.high then Out.gate 3 Obj.dropSequence 0 ∈ t.out
      else Out.gate 0 0 0 ∈ t.out ∧ t.session m.session = some ((x.heard t.now t.ptp).number m.seq)) ∧
  (∀ s dt session buf x, s.gated → bufOk buf = true → s.session session = some x →
    Completes (.gateMsgSeal dt session buf) s fun t =>
      if buf.len < 44 then Out.gate 3 Code.malformed 0 ∈ t.out
      else Out.gate 0 0 0 ∈ t.out ∧ t.session session = some { x with devSeq := x.devSeq + 1 }) ∧
  (∀ s dt session reason x, s.gated → s.session session = some x →
    Completes (.gateSessionEnd dt session reason) s fun t =>
      Out.gate 0 0 0 ∈ t.out ∧ t.session session = none ∧ Raised Ev.sessionClosed session s t) ∧
  (∀ s dt session buf x k, s.gated → bufOk buf = true → s.session session = some x → 1 ≤ x.role → s.standby = false →
    s.openChoice = some k →
    Completes (.gateCeSubmit dt session .salvoOpen buf) s fun t =>
      Out.gate 0 s.gate.nextTicket 0 ∈ t.out ∧ (t.salvo k).state = .staged ∧ (t.salvo k).owner = session ∧
        ∃ y ∈ t.gate.tickets, y.number = s.gate.nextTicket ∧ y.done = true ∧ y.status = 0) ∧
  (∀ s dt index sub buf b v, s.gated → bufOk buf = true → datapathObject index = true →
    (s.tick dt).readItem none 3 index sub = .inr (b, v) →
    Completes (.gateCeRead dt index sub buf) s fun t =>
      Out.gate 0 b.length 0 ∈ t.out ∧ ∀ i, i < min b.length buf.len → t.memByte (buf.addr + i) = b.getD i 0) ∧
  (∀ s dt ticket x, s.gated → (s.gate.tickets.find? fun x => x.number == ticket && x.done) = some x →
    Completes (.gateDone dt ticket) s fun t =>
      Out.interrupt 7 ∈ t.out ∧ (∃ r, t.gate.ring = s.gate.ring ++ [r]) ∧ ∀ y ∈ t.gate.tickets, y.number ≠ ticket) ∧
  (∀ s dt buf index sub, s.gated → bufOk buf = false →
    (Completes (.gateCeRead dt index sub buf) s fun t => Out.gate 2 0 0 ∈ t.out ∧ t.mem = s.mem) ∧
      (Completes (.gateStoreLoad dt buf) s fun t => Out.gate 2 0 0 ∈ t.out ∧ t.mem = s.mem) ∧
        Completes (.gateTwinGet dt buf) s fun t => Out.gate 2 0 0 ∈ t.out ∧ t.mem = s.mem)

/-- GATE_KEY_WRITE, GATE_OWNER_LOCK, GATE_OTP_PROGRAM, GATE_OTP_REVOKE, GATE_UPDATE, GATE_STORE_LOAD, GATE_STORE_SAVE, GATE_TWIN_PUT,
GATE_TWIN_GET and GATE_CRYPTO (R486, R491, R492, R497, R498, R523, R525, R526, R528, R585, R586, R591, R592): an Owner session's write that
passes R464 writes a role key and ends that role's sessions, sets the lock, burns or revokes an owner key slot, and begins or aborts
an update; a trial Upland confirms its image, the shipped one only where the four conditions of R592 hold together; the loaded
records are given; a save starts; the twin's block is replaced or taken; hashes are computed. The records that STORE_SAVE takes and the layout of CRYPTO are the model's (notes/assumptions/51.md, 52.md). -/
def Obligations.GateWrites : Prop :=
  (∀ s dt session role key buf x v, s.gated → bufOk buf = true → s.session session = some x → x.role = 3 → role < 65536 →
    (s.tick dt).dictCheck 3 (adr Obj.roleKey role) key = .inr v → (s.tick dt).standCheck (adr Obj.roleKey role) v = none →
    Completes (.gateKeyWrite dt session role key buf) s fun t =>
      Out.gate 0 0 0 ∈ t.out ∧ t.il.roleKeys = keysAfter s.il.roleKeys role (Val.toBytes v) ∧ Raised Ev.roleKeyChanged role s t ∧
        ∀ n y, t.session n = some y → y.role ≠ role) ∧
  (∀ s dt session lock x, s.gated → s.session session = some x → x.role = 3 →
    (s.tick dt).dictCheck 3 (adr Obj.ownerLock 0) (beBytes 1 (b2n lock)) = .inr (.num (b2n lock)) →
    (s.tick dt).standCheck (adr Obj.ownerLock 0) (.num (b2n lock)) = none →
    Completes (.gateOwnerLock dt session lock) s fun t => Out.gate 0 0 0 ∈ t.out ∧ t.b Obj.ownerLock 0 = lock) ∧
  (∀ s dt session hash buf x v k, s.gated → bufOk buf = true → s.session session = some x → x.role = 3 →
    (s.tick dt).dictCheck 3 (adr Obj.ownerKeyProgram 0) hash = .inr v →
    (s.tick dt).standCheck (adr Obj.ownerKeyProgram 0) v = none → s.emptySlot = some k →
    Completes (.gateOtpProgram dt session hash buf) s fun t =>
      Out.gate 0 0 0 ∈ t.out ∧ look t.up.ownerHashes k [] = Val.toBytes v ∧ look t.up.ownerStates k 0 = 1 ∧
        Raised Ev.ownerKeyChange k s t) ∧
  (∀ s dt session slot x, s.gated → s.session session = some x → x.role = 3 → slot ≤ 255 →
    (s.tick dt).dictCheck 3 (adr Obj.ownerKeyRevoke 0) (beBytes 1 slot) = .inr (.num slot) →
    (s.tick dt).standCheck (adr Obj.ownerKeyRevoke 0) (.num slot) = none →
    Completes (.gateOtpRevoke dt session slot) s fun t =>
      Out.gate 0 0 0 ∈ t.out ∧ look t.up.ownerStates slot 0 = 2 ∧ Raised Ev.ownerKeyChange slot s t) ∧
  (∀ s dt session kind buf x, s.gated → bufOk buf = true → s.session session = some x →
    (s.tick dt).dictCheck x.role (adr Obj.updateBegin 0) (beBytes 2 kind) = .inr (.num kind) →
    (s.tick dt).standCheck (adr Obj.updateBegin 0) (.num kind) = none → s.updateChecks 0 = none →
    Completes (.gateUpdate dt session (.begin_ kind) buf) s fun t =>
      Out.gate 0 0 0 ∈ t.out ∧ t.n Obj.updateState 0 = 1 ∧ t.up.session = session ∧ t.up.kind = kind ∧
        ∀ a, slotBase kind (s.targetSlot kind) ≤ a → a < slotBase kind (s.targetSlot kind) + slotSize kind →
          t.flashByte a = 0xFF) ∧
  (∀ s dt session buf x, s.gated → bufOk buf = true → s.session session = some x →
    (s.tick dt).dictCheck x.role (adr Obj.updateAbort 0) [1] = .inr (.num 1) →
    (s.tick dt).standCheck (adr Obj.updateAbort 0) (.num 1) = none →
    Completes (.gateUpdate dt session .abort buf) s fun t =>
      if s.n Obj.updateState 0 = 1 ∨ s.n Obj.updateState 0 = 3 then
        Out.gate 0 0 0 ∈ t.out ∧ t.n Obj.updateState 0 = 0 ∧ t.regN 0x40080014 = 0
      else Out.gate 3 0xD3 0 ∈ t.out ∧ t.n Obj.updateState 0 = s.n Obj.updateState 0) ∧
  (∀ s dt session buf kind slot e, s.gated → bufOk buf = true → s.up.ctl.trial = some (kind, slot) →
    s.up.windowEnds = some e → s.now + dt ≤ e →
    Completes (.gateUpdate dt session .confirm buf) s fun t =>
      Out.gate 0 0 0 ∈ t.out ∧ t.up.ctl.trial = none ∧ t.up.ctl.prior = none ∧ t.n Obj.updateState 0 = 0 ∧
        (kind = 1 → t.up.ctl.patchActive = slot) ∧ (kind = 2 → t.up.ctl.uplandActive = slot) ∧
        t.up.rollback = max s.up.rollback (s.imageSecurity (slotBase kind slot)) ∧ Raised Ev.updateConfirmed kind s t) ∧
  (∀ s dt session buf kind slot e, s.gated → bufOk buf = true → s.up.ctl.trial = some (kind, slot) →
    s.up.windowEnds = some e → s.now + dt ≤ e → s.boot.started = true → s.n Obj.healthState 0 ≠ 2 → s.st.loaded.isSome = true →
    (∃ p ∈ s.il.sessions, p.2.openNow + 10000000000 ≤ s.now + dt) →
    Completes (.gateUpdate dt session .selfConfirm buf) s fun t =>
      Out.gate 0 0 0 ∈ t.out ∧ t.up.ctl.trial = none ∧ t.n Obj.updateState 0 = 0 ∧ Raised Ev.updateConfirmed kind s t) ∧
  (∀ s dt session buf, s.gated → bufOk buf = true →
    (s.boot.started = false ∨ s.n Obj.healthState 0 = 2 ∨ s.st.loaded = none ∨
      ∀ p ∈ s.il.sessions, s.now + dt < p.2.openNow + 10000000000) →
    Completes (.gateUpdate dt session .selfConfirm buf) s fun t => t = s.tick dt) ∧
  (∀ s dt buf b, s.gated → bufOk buf = true → b = s.st.loaded.elim [] StoreSlot.bytes →
    Completes (.gateStoreLoad dt buf) s fun t =>
      Out.gate 0 b.length 0 ∈ t.out ∧ ∀ i, i < min b.length buf.len → t.memByte (buf.addr + i) = b.getD i 0) ∧
  (∀ s dt buf, s.gated → bufOk buf = true → s.b Obj.ownerLock 0 = false →
    Completes (.gateStoreSave dt buf) s fun t =>
      Out.gate 0 s.gate.nextTicket 0 ∈ t.out ∧
        (s.st.save = none → s.st.lastStart = none →
          ∃ x, t.st.save = some x ∧ s.gate.nextTicket ∈ x.tickets ∧ x.slot = s.saveSlot)) ∧
  (∀ s dt buf, s.gated → bufOk buf = true →
    Completes (.gateTwinPut dt buf) s fun t =>
      if 65536 < buf.len then Out.gate 3 Code.range 0 ∈ t.out ∧ t.tw = s.tw
      else Out.gate 0 0 0 ∈ t.out ∧ t.tw.block = s.memBytes buf.addr buf.len ∧ t.tw.blockNew = 1) ∧
  (∀ s dt buf b, s.gated → bufOk buf = true → b = s.tw.blocks.headD [] →
    Completes (.gateTwinGet dt buf) s fun t =>
      if s.standby = true then
        Out.gate 0 b.length s.tw.blocksLost ∈ t.out ∧ t.tw.blocks = s.tw.blocks.drop 1 ∧ t.tw.blocksLost = 0 ∧
          ∀ i, i < min b.length buf.len → t.memByte (buf.addr + i) = b.getD i 0
      else Out.gate 3 Code.access 0 ∈ t.out ∧ t.tw = s.tw) ∧
  (∀ s dt op key input output b, s.gated → bufOk input = true → bufOk output = true →
    (op = .sha256 ∧ b = Config.sha256 (s.memBytes input.addr input.len) ∨
      op = .sha384 ∧ b = Config.sha384 (s.memBytes input.addr input.len) ∨
        op = .hmacSha256 ∧ b = Config.hmac key (s.memBytes input.addr input.len)) →
    Completes (.gateCrypto dt op key input output) s fun t =>
      Out.gate 0 0 0 ∈ t.out ∧ ∀ i, i < min b.length output.len → t.memByte (output.addr + i) = b.getD i 0)

/-! ## Power, resets and the start (chapters 18, 21 and 22) -/

/-- POWER_ON, RESET_N_ASSERT, RESET_N_RELEASE, RAIL_FAULT, VDD_AUX_LOW, THERMAL_TRIP, THERMAL_TRIP_RELEASE, SOFT_RESTART_PROCEED and
WATCHDOG_EXPIRY (R529, R606 to R609, R619, R620, R642): a reset leaves registers at their reset values, no session and no byte of
memory, and keeps flash and fuses; a pulse below 1 µs is ignored and one from 10 µs on resets; at the release the straps are latched and
the ROM stage starts, unless the thermal trip holds the device; a rail or VDD_AUX too low, and a junction too hot, reset it; a SOFT
restart proceeds once no salvo is PENDING; an expired watchdog makes a HARD restart. They act in every state, held in reset or not.
That a byte of memory then reads as 0 is the model's choice (notes/assumptions/8.md). -/
def Obligations.PowerResets : Prop :=
  (∀ s dt,
    Completes (.powerOn dt) s fun t =>
      t.boot.stage = .reset ∧ t.boot.cause = 0 ∧ t.boot.held = false ∧ t.flash = s.flash ∧ (∀ a, t.reg a = regReset a) ∧
        t.mem = [] ∧ t.il.sessions = [] ∧ t.up.ownerHashes = s.up.ownerHashes ∧ t.up.ownerStates = s.up.ownerStates ∧
        t.up.rollback = s.up.rollback ∧ t.up.ctl = s.up.ctl) ∧
  (∀ s dt width, 10000 ≤ width →
    Completes (.resetNAssert dt width) s fun t =>
      t.boot.stage = .reset ∧ t.boot.cause = 1 ∧ t.flash = s.flash ∧ (∀ a, t.reg a = regReset a) ∧ t.mem = [] ∧
        t.il.sessions = [] ∧ t.up.ownerHashes = s.up.ownerHashes) ∧
  (∀ s dt width, width < 1000 → Completes (.resetNAssert dt width) s fun t => t = s.tick dt) ∧
  (∀ s dt straps, s.boot.stage = .reset →
    Completes (.resetNRelease dt straps) s fun t =>
      t.boot.straps = straps ∧ t.boot.resetLow = false ∧
        if s.boot.held = true then t.boot.stage = .reset
        else t.boot.stage = .rom ∧ t.boot.cause = s.boot.cause ∧ t.tc = 0 ∧ Out.pin .armHealth 0 0 ∈ t.out) ∧
  (∀ s dt straps, s.boot.stage ≠ .reset → Completes (.resetNRelease dt straps) s fun t => t = s.tick dt) ∧
  (∀ s dt rail microvolts lasted,
    Completes (.railFault dt rail microvolts lasted) s fun t =>
      if 100 * microvolts < 95 * s.railMinimum rail ∧ 10000 ≤ lasted then
        t.boot.stage = .reset ∧ t.boot.cause = 0 ∧ t.il.sessions = [] ∧ t.flash = s.flash
      else t = s.tick dt) ∧
  (∀ s dt microvolts,
    Completes (.vddAuxLow dt microvolts) s fun t =>
      if microvolts < 2900000 then t.boot.stage = .reset ∧ t.boot.cause = 0 ∧ t.il.sessions = [] ∧ t.flash = s.flash
      else t = s.tick dt) ∧
  (∀ s dt temp lasted,
    Completes (.thermalTrip dt temp lasted) s fun t =>
      if 1150 < temp ∧ 10000000 ≤ lasted then
        t.boot.stage = .reset ∧ t.boot.cause = 0 ∧ t.boot.held = true ∧ t.il.sessions = []
      else t = s.tick dt) ∧
  (∀ s dt temp, s.boot.held = true → temp ≤ 950 →
    Completes (.thermalTripRelease dt temp) s fun t =>
      t.boot.held = false ∧ t.boot.straps = s.boot.straps ∧
        if s.boot.resetLow = true then t.boot.stage = s.boot.stage else t.boot.stage = .rom ∧ t.boot.cause = s.boot.cause) ∧
  (∀ s dt temp, (s.boot.held = false ∨ 950 < temp) → Completes (.thermalTripRelease dt temp) s fun t => t = s.tick dt) ∧
  (∀ s dt, s.awake → s.boot.softWait = true → s.anyPending = false →
    Completes (.softRestartProceed dt) s fun t =>
      t.boot.stage = .rom ∧ t.boot.cause = 2 ∧ t.boot.soft = true ∧ t.boot.softWait = false ∧ t.il.sessions = []) ∧
  (∀ s dt, s.awake → s.boot.wdtRunning = true → s.boot.wdtAt + 100000000 ≤ s.now + dt →
    Completes (.watchdogExpiry dt) s fun t =>
      t.boot.stage = .rom ∧ t.boot.cause = 4 ∧ t.boot.wdtExpired = true ∧ t.tc = 0 ∧ t.il.sessions = [] ∧
        t.boot.straps = s.boot.straps ∧ t.flash = s.flash)

/-- ROM_STAGE_END, HBM_READY, UPLAND_ENTERED, AVS_TARGET_UPDATE, AVS_STEP, HEALTH_MONITOR_SAMPLE, UPLAND_FAULT, UPLAND_HEARTBEAT_LATE,
HEARTBEAT_TIMEOUT, STORE_SAVE_START, STORE_SAVED and UPDATE_NOT_CONFIRMED (R484, R498, R530, R583, R593, R611, R613, R616): the ROM
stage ends in Bedrock, or in recovery where boot control says so; with the HBM trained an accepted Upland image is loaded, the other
slot's where the named one is not accepted, and recovery otherwise; Upland is entered and the control ports come up; AVS steps towards
its target within 0.700 V to 0.800 V; the monitors set and clear the health reasons; a fault or a missing heartbeat stops Upland, and the
third within 600 s restarts the device; a save writes its slot, is retried once, or fails; and a trial that is not confirmed falls back
at the next start, or into recovery. -/
def Obligations.BootStages : Prop :=
  (∀ s dt linear nacks, s.awake → s.boot.stage = .rom → s.boot.soft = false → s.up.ctl.trial = none →
    s.up.ctl.notConfirmed = false →
    Completes (.romStageEnd dt linear nacks) s fun t =>
      if s.up.ctl.recover = true then t.boot.stage = .recovery ∧ t.il.ctlUp = true ∧ t.boot.wdtRunning = false
      else t.boot.stage = .bedrock ∧ t.boot.wdtRunning = true ∧ t.boot.wdtAt = t.now ∧
        t.up.patchRuns = s.accepted 1 s.up.ctl.patchActive ∧
        (s.boot.straps.twinPresent = true →
          t.n Obj.twinPaired 0 = 1 ∧ t.n Obj.twinRole 0 = 2 ∧ t.n Obj.twinSide 0 = s.boot.straps.twinSide % 2) ∧
        (s.boot.straps.avsEn = true → linear = true → nacks < 3 →
          t.boot.avsMicrovolts = 750000 ∧ Out.pmbus s.avsAddress 0x21 750000 ∈ t.out)) ∧
  (∀ s dt hbms k, s.awake → s.boot.stage = .bedrock → s.boot.soft = false → s.up.ctl.trial = none → k = s.up.ctl.uplandActive →
    Completes (.hbmReady dt hbms) s fun t =>
      (t.boot.stage = if (s.accepted 2 k || s.accepted 2 (1 - k)) = true then .uplandLoad else .recovery) ∧
        (false ∈ hbms ∨ hbms.length ≠ 4 → t.boot.hbmFailed = true ∧ bit (t.n Obj.healthReasons 0) 1 = true)) ∧
  (∀ s dt, s.awake → s.boot.stage = .uplandLoad →
    Completes (.uplandEntered dt) s fun t =>
      t.boot.stage = .restore ∧ t.boot.uplandRuns = true ∧ t.boot.uplandAt = t.now ∧ t.boot.heartbeatAt = none ∧
        t.il.ctlUp = true) ∧
  (∀ s dt microvolts, s.awake → s.boot.avsRunning = true → s.boot.stage ≠ .rom →
    Completes (.avsTargetUpdate dt microvolts) s fun t => t.boot.avsTarget = max 700000 (min 800000 microvolts)) ∧
  (∀ s dt nacks v, s.awake → s.boot.avsRunning = true → s.boot.stage ≠ .rom → s.boot.avsMicrovolts ≠ s.boot.avsTarget →
    s.boot.avsStepAt + 1000000 ≤ s.now + dt →
    v = (if s.boot.avsTarget < s.boot.avsMicrovolts then max s.boot.avsTarget (s.boot.avsMicrovolts - 5000)
      else min s.boot.avsTarget (s.boot.avsMicrovolts + 5000)) →
    Completes (.avsStep dt nacks) s fun t =>
      Out.pmbus s.avsAddress 0x21 v ∈ t.out ∧
        if nacks < 3 then t.boot.avsMicrovolts = v ∧ t.boot.avsRunning = true
        else t.boot.avsMicrovolts = s.boot.avsMicrovolts ∧ t.boot.avsRunning = false) ∧
  (∀ s dt temp margins hbmTemps, s.awake →
    Completes (.healthMonitorSample dt temp margins hbmTemps) s fun t =>
      t.i Obj.junctionTemp 0 = temp ∧ t.i Obj.junctionTempMax 0 = max temp (s.i Obj.junctionTempMax 0) ∧
        (∀ k m, k < 8 → margins[k]? = some m → t.i Obj.supplyMargin k = m) ∧
        (1000 < temp → bit (t.n Obj.healthReasons 0) 2 = true) ∧ (1050 < temp → bit (t.n Obj.healthReasons 0) 3 = true) ∧
        ((∃ m ∈ margins, m < 300) → bit (t.n Obj.healthReasons 0) 4 = true) ∧
        (∀ a, temp ≤ 970 → s.boot.thermalCool = some a → a + 60000000000 ≤ s.now + dt →
          bit (t.n Obj.healthReasons 0) 2 = false)) ∧
  (∀ s dt cause pc addr, s.gated → s.faultStays dt → 1 ≤ cause → cause ≤ 6 →
    Completes (.uplandFault dt cause pc addr) s fun t =>
      UplandStopped cause s t ∧ t.regN 0x400600A4 = pc % 2 ^ 32 ∧
        t.regN 0x400600A8 = if 2 ≤ cause ∧ cause ≤ 4 then addr % 2 ^ 32 else 0) ∧
  (∀ s dt cause pc addr, s.gated → s.up.ctl.trial = none → 1 ≤ cause → cause ≤ 6 →
    2 ≤ (s.boot.uplandRestarts.filter fun a => s.now + dt < a + 600000000000).length →
    Completes (.uplandFault dt cause pc addr) s fun t => t.boot.stage = .rom ∧ t.boot.cause = 4) ∧
  (∀ s dt a, s.gated → s.boot.heartbeatLate = false → s.boot.heartbeatAt = some a → a + 500000000 ≤ s.now + dt →
    Completes (.uplandHeartbeatLate dt) s fun t => t.boot.heartbeatLate = true ∧ Raised Ev.uplandHeartbeatLate 0 s t) ∧
  (∀ s dt, s.gated → s.faultStays dt →
    (∃ a, s.boot.heartbeatAt = some a ∧ a + 1000000000 ≤ s.now + dt ∨
      s.boot.heartbeatAt = none ∧ s.boot.uplandAt + 3000000000 ≤ s.now + dt) →
    Completes (.heartbeatTimeout dt) s fun t => UplandStopped 7 s t) ∧
  (∀ s dt, s.gated → s.st.save = none → (∀ a, s.st.lastStart = some a → a + 1000000000 ≤ s.now + dt) →
    (s.storeDirtyNow = true ∨ s.st.replies ≠ [] ∨ s.st.gateTickets ≠ []) →
    Completes (.storeSaveStart dt) s fun t =>
      (∃ x, t.st.save = some x ∧ x.slot = s.saveSlot ∧ x.retried = false ∧
        x.content = s.snapshot (s.n Obj.storeGeneration 0 + 1)) ∧
        (if s.saveSlot = 0 then t.st.slotA else t.st.slotB) = none) ∧
  (∀ s dt x ok, s.awake → s.noneHeld → s.st.save = some x →
    Completes (.storeSaved dt ok) s fun t =>
      if ok = true then
        t.st.save = none ∧ (if x.slot = 0 then t.st.slotA else t.st.slotB) = some x.content ∧
          t.n Obj.storeGeneration 0 = x.content.generation ∧ Raised Ev.storeSaved x.content.generation s t
      else if x.retried = true then
        t.st.save = none ∧ bit (t.n Obj.healthReasons 0) 5 = true ∧ Raised Ev.storeSaveFailed 0 s t
      else t.st.save = some { x with retried := true }) ∧
  (∀ s dt kind slot e, s.awake → s.up.ctl.trial = some (kind, slot) → s.up.windowEnds = some e → e ≤ s.now + dt →
    Completes (.updateNotConfirmed dt) s fun t =>
      t.up.ctl.trial = none ∧
        if s.n Obj.updatePolicy 0 = 1 then t.boot.stage = .rom ∧ t.up.ctl.recover = true
        else t.up.ctl.notConfirmed = true ∧ t.boot.stage = s.boot.stage ∧ t.n Obj.updateState 0 = 0 ∧
          (kind = 1 → t.up.ctl.patchActive = s.up.ctl.prior.getD s.up.ctl.patchActive) ∧
          (kind = 2 → t.up.ctl.uplandActive = s.up.ctl.prior.getD s.up.ctl.uplandActive) ∧
          Raised Ev.updateNotConfirmed kind s t)
end

