-- ==== Sys2Proof/Laws/Store.lean ====
section
/-!
SUPPORT. Laws of the stores (Bits.lean): what a read gives after a write, and that a write keeps the canonical form.
-/
namespace Sys2Proof.Machine

/-! ## Reads after writes -/

theorem lookup_filter_ne {α : Type} (k k' : Nat) (h : k' ≠ k) (t : List (Nat × α)) :
    (t.filter fun p => p.1 != k).lookup k' = t.lookup k' := by
  induction t with
  | nil => rfl
  | cons p t ih =>
    obtain ⟨a, v⟩ := p
    by_cases ha : a = k
    · have hk : (k' == a) = false := by simp; omega
      rw [List.filter_cons_of_neg (by simp [ha]), ih, List.lookup, hk]
    · rw [List.filter_cons_of_pos (by simp [ha])]
      simp only [List.lookup, ih]

theorem lookup_filter_self {α : Type} (k : Nat) (t : List (Nat × α)) :
    (t.filter fun p => p.1 != k).lookup k = none := by
  induction t with
  | nil => rfl
  | cons p t ih =>
    obtain ⟨a, v⟩ := p
    by_cases ha : a = k
    · rw [List.filter_cons_of_neg (by simp [ha]), ih]
    · have hk : (k == a) = false := by simp; omega
      rw [List.filter_cons_of_pos (by simp [ha]), List.lookup, hk, ih]

theorem lookup_insertSorted_self {α : Type} (k : Nat) (v : α) (t : List (Nat × α)) (h : t.lookup k = none) :
    (insertSorted k v t).lookup k = some v := by
  induction t with
  | nil => simp [insertSorted]
  | cons p t ih =>
    obtain ⟨a, w⟩ := p
    simp only [insertSorted]
    split
    · simp [List.lookup]
    · have hk : (k == a) = false := by
        cases e : k == a with
        | false => rfl
        | true => simp [List.lookup, e] at h
      simp only [List.lookup, hk] at h ⊢
      exact ih h

theorem lookup_insertSorted_ne {α : Type} (k k' : Nat) (v : α) (h : k' ≠ k) (t : List (Nat × α)) :
    (insertSorted k v t).lookup k' = t.lookup k' := by
  have hk : (k' == k) = false := by simpa using h
  induction t with
  | nil => simp [insertSorted, List.lookup, hk]
  | cons p t ih =>
    obtain ⟨a, w⟩ := p
    simp only [insertSorted]
    split
    · simp [List.lookup, hk]
    · simp only [List.lookup, ih]

/-- A read of the key that was written gives the value written. -/
@[simp] theorem storeGet_storeSet_self {α : Type} [DecidableEq α] (d : Nat → α) (t : List (Nat × α)) (k : Nat) (v : α) :
    storeGet d (storeSet d t k v) k = v := by
  unfold storeGet storeSet
  dsimp only
  split
  · next h => rw [lookup_filter_self, h]; rfl
  · rw [lookup_insertSorted_self _ _ _ (lookup_filter_self k t)]; rfl

/-- A read of another key gives what it gave before. -/
theorem storeGet_storeSet_ne {α : Type} [DecidableEq α] (d : Nat → α) (t : List (Nat × α)) (k k' : Nat) (v : α) (h : k' ≠ k) :
    storeGet d (storeSet d t k v) k' = storeGet d t k' := by
  unfold storeGet storeSet
  dsimp only
  split
  · rw [lookup_filter_ne k k' h]
  · rw [lookup_insertSorted_ne k k' v h, lookup_filter_ne k k' h]

theorem storeGet_storeSet {α : Type} [DecidableEq α] (d : Nat → α) (t : List (Nat × α)) (k k' : Nat) (v : α) :
    storeGet d (storeSet d t k v) k' = if k' = k then v else storeGet d t k' := by
  split
  · next h => subst h; exact storeGet_storeSet_self d t _ v
  · next h => exact storeGet_storeSet_ne d t k k' v h

/-! ## The canonical form -/

/-- The canonical form of a longer store, part by part. -/
theorem storeWf_cons {α : Type} [DecidableEq α] (d : Nat → α) (k : Nat) (v : α) (t : List (Nat × α)) :
    storeWf d ((k, v) :: t) = true ↔ v ≠ d k ∧ (∀ p ∈ t, k < p.1) ∧ storeWf d t = true := by
  induction t generalizing k v with
  | nil => simp [storeWf]
  | cons q t ih =>
    obtain ⟨k', v'⟩ := q
    rw [storeWf]
    simp only [Bool.and_eq_true, decide_eq_true_eq, List.mem_cons, forall_eq_or_imp]
    constructor
    · rintro ⟨⟨h1, h2⟩, h3⟩
      exact ⟨h1, ⟨h2, fun p hp => Nat.lt_trans h2 (((ih k' v').1 h3).2.1 p hp)⟩, h3⟩
    · rintro ⟨h1, ⟨h2, _⟩, h3⟩
      exact ⟨⟨h1, h2⟩, h3⟩

/-- A store with entries taken out keeps the canonical form. -/
theorem storeWf_filter {α : Type} [DecidableEq α] (d : Nat → α) (f : Nat × α → Bool) (t : List (Nat × α))
    (h : storeWf d t = true) : storeWf d (t.filter f) = true := by
  induction t with
  | nil => rfl
  | cons q t ih =>
    obtain ⟨k, v⟩ := q
    have hc := (storeWf_cons d k v t).1 h
    by_cases hf : f (k, v) = true
    · rw [List.filter_cons_of_pos hf]
      exact (storeWf_cons d k v _).2 ⟨hc.1, fun p hp => hc.2.1 p (List.mem_filter.1 hp).1, ih hc.2.2⟩
    · rw [List.filter_cons_of_neg (by simpa using hf)]
      exact ih hc.2.2

theorem mem_insertSorted {α : Type} (k : Nat) (v : α) (t : List (Nat × α)) (p : Nat × α) (h : p ∈ insertSorted k v t) :
    p = (k, v) ∨ p ∈ t := by
  induction t with
  | nil => simpa [insertSorted] using h
  | cons q t ih =>
    obtain ⟨k', v'⟩ := q
    simp only [insertSorted] at h
    split at h
    · simpa using h
    · rcases List.mem_cons.1 h with h | h
      · exact .inr (h ▸ List.mem_cons_self ..)
      · exact (ih h).imp_right (List.mem_cons_of_mem _)

theorem storeWf_insertSorted {α : Type} [DecidableEq α] (d : Nat → α) (k : Nat) (v : α) (t : List (Nat × α))
    (hv : v ≠ d k) (hk : ∀ p ∈ t, p.1 ≠ k) (h : storeWf d t = true) : storeWf d (insertSorted k v t) = true := by
  induction t with
  | nil => simpa [insertSorted, storeWf] using hv
  | cons q t ih =>
    obtain ⟨k', v'⟩ := q
    have hc := (storeWf_cons d k' v' t).1 h
    have hne : k' ≠ k := hk (k', v') (List.mem_cons_self ..)
    simp only [insertSorted]
    split
    · next hlt =>
      refine (storeWf_cons d k v _).2 ⟨hv, ?_, h⟩
      intro p hp
      rcases List.mem_cons.1 hp with rfl | hp
      · exact hlt
      · exact Nat.lt_trans hlt (hc.2.1 p hp)
    · next hlt =>
      refine (storeWf_cons d k' v' _).2 ⟨hc.1, ?_, ih (fun p hp => hk p (List.mem_cons_of_mem _ hp)) hc.2.2⟩
      intro p hp
      rcases mem_insertSorted k v t p hp with rfl | hp
      · exact Nat.lt_of_le_of_ne (Nat.le_of_not_lt hlt) hne
      · exact hc.2.1 p hp

/-- A write keeps the canonical form. -/
theorem storeWf_storeSet {α : Type} [DecidableEq α] (d : Nat → α) (t : List (Nat × α)) (k : Nat) (v : α)
    (h : storeWf d t = true) : storeWf d (storeSet d t k v) = true := by
  unfold storeSet
  dsimp only
  have hf := storeWf_filter d (fun p => p.1 != k) t h
  split
  · exact hf
  · next hv =>
    refine storeWf_insertSorted d k v _ hv ?_ hf
    intro p hp
    simpa using (List.mem_filter.1 hp).2

end Sys2Proof.Machine
end

