-- ==== Sys2Proof/Laws/Kept.lean ====
section
/-!
SUPPORT. What every function of the model keeps: the queue of waiting commands stays, time and the counter of free values
never run backwards, and a sound state stays sound. Functions are composed by the lemmas of this file.
-/
namespace Sys2Proof.Machine

/-- A state that follows another one: the same queue, no earlier time, no free value drawn again, and sound where the other
one is. -/
structure Kept (s t : State) : Prop where
  pending : t.pending = s.pending
  fresh : s.fresh ≤ t.fresh
  now : s.now ≤ t.now
  sound : s.Sound → t.Sound

/-- A result whose next state follows a state. -/
structure KeptR (s : State) (r : Result) : Prop where
  kept : ∀ t, r = .next t → Kept s t

theorem Kept.refl (s : State) : Kept s s := ⟨rfl, Nat.le_refl _, Nat.le_refl _, id⟩

/-- Outermost first. -/
theorem Kept.seq {s t u : State} (h : Kept t u) (g : Kept s t) : Kept s u :=
  ⟨h.pending.trans g.pending, Nat.le_trans g.fresh h.fresh, Nat.le_trans g.now h.now, fun x => h.sound (g.sound x)⟩

theorem Kept.ite {c : Prop} [Decidable c] {s a b : State} (h : Kept s a) (g : Kept s b) : Kept s (if c then a else b) := by
  split
  · exact h
  · exact g

theorem Kept.cond {c : Bool} {s a b : State} (h : Kept s a) (g : Kept s b) : Kept s (bif c then a else b) := by
  cases c
  · exact g
  · exact h

/-- A record update that touches none of the parts that soundness is about. -/
theorem Kept.upd {s t : State} (h0 : t.pending = s.pending) (h1 : t.fresh = s.fresh) (h2 : t.now = s.now) (h3 : t.objs = s.objs)
    (h4 : t.regs = s.regs) (h5 : t.mem = s.mem) (h6 : t.flash = s.flash) (h7 : t.ev.fifo = s.ev.fifo)
    (h8 : t.il.challenges = s.il.challenges) (h9 : t.il.lockouts = s.il.lockouts) (h10 : t.up.journal = s.up.journal) :
    Kept s t :=
  ⟨h0, Nat.le_of_eq h1.symm, Nat.le_of_eq h2.symm, fun h => by
    unfold State.Sound State.Canonical at *; rw [h3, h4, h5, h6, h7, h8, h9, h10]; exact h⟩

/-- As `Kept.upd`, for an update that takes records from a queue. -/
theorem Kept.less {s t : State} (h0 : t.pending = s.pending) (h1 : t.fresh = s.fresh) (h2 : t.now = s.now) (h3 : t.objs = s.objs)
    (h4 : t.regs = s.regs) (h5 : t.mem = s.mem) (h6 : t.flash = s.flash) (h7 : t.ev.fifo.length ≤ s.ev.fifo.length)
    (h8 : t.il.challenges.length ≤ s.il.challenges.length) (h9 : t.il.lockouts.length ≤ s.il.lockouts.length)
    (h10 : t.up.journal.length ≤ s.up.journal.length) : Kept s t :=
  ⟨h0, Nat.le_of_eq h1.symm, Nat.le_of_eq h2.symm, fun h => by
    unfold State.Sound State.Canonical at *; rw [h3, h4, h5, h6]
    exact ⟨h.1, Nat.le_trans h7 h.2.1, Nat.le_trans h8 h.2.2.1, Nat.le_trans h9 h.2.2.2.1, Nat.le_trans h10 h.2.2.2.2⟩⟩

theorem Kept.foldl {α : Type} {f : State → α → State} {l : List α} {s t : State} (h : ∀ u x, Kept u (f u x)) (g : Kept s t) :
    Kept s (l.foldl f t) := by
  induction l generalizing t with
  | nil => exact g
  | cons x l ih => exact ih ((h t x).seq g)

theorem Kept.optElim {α : Type} {o : Option α} {s d : State} {f : α → State} (h : ∀ x, Kept s (f x)) (g : Kept s d) :
    Kept s (o.elim d f) := by
  cases o
  · exact g
  · exact h _

/-- The state part of a pair whose parts a match has named. -/
theorem Kept.snd {α : Type} {p : α × State} {a : α} {s t : State} (e : p = (a, t)) (h : Kept s p.2) : Kept s t := by
  subst e; exact h

theorem Kept.iteMap {α : Type} (g : α → State) {c : Prop} [Decidable c] {s : State} {a b : α} (h : Kept s (g a))
    (k : Kept s (g b)) : Kept s (g (if c then a else b)) := by
  split
  · exact h
  · exact k

theorem Kept.mk2 {α : Type} {a : α} {s t : State} (h : Kept s t) : Kept s (a, t).2 := h

theorem Kept.mk1 {α : Type} {a : α} {s t : State} (h : Kept s t) : Kept s (t, a).1 := h

/-! ## The primitives -/

theorem Kept.ofObjs {s t : State} (h0 : t.pending = s.pending) (h1 : t.fresh = s.fresh) (h2 : t.now = s.now)
    (h3 : storeWf objDefault s.objs = true → storeWf objDefault t.objs = true)
    (h4 : t.regs = s.regs) (h5 : t.mem = s.mem) (h6 : t.flash = s.flash) (h7 : t.ev.fifo = s.ev.fifo)
    (h8 : t.il.challenges = s.il.challenges) (h9 : t.il.lockouts = s.il.lockouts) (h10 : t.up.journal = s.up.journal) :
    Kept s t :=
  ⟨h0, Nat.le_of_eq h1.symm, Nat.le_of_eq h2.symm, fun h => by
    unfold State.Sound State.Canonical at *; rw [h4, h5, h6, h7, h8, h9, h10]; exact ⟨⟨h3 h.1.1, h.1.2⟩, h.2⟩⟩

theorem Objs.set_wf (c : Objs) (a : Nat) (v : Val) (h : storeWf objDefault c = true) :
    storeWf objDefault (Objs.set c a v) = true := storeWf_storeSet _ _ _ _ h

theorem Objs.foldSet_wf {α : Type} (f : α → Nat) (g : α → Val) (l : List α) (c : Objs) (h : storeWf objDefault c = true) :
    storeWf objDefault (l.foldl (fun c x => Objs.set c (f x) (g x)) c) = true := by
  induction l generalizing c with
  | nil => exact h
  | cons x l ih => exact ih _ (Objs.set_wf _ _ _ h)

theorem Objs.overlay_wf (c : Objs) (l : List Change) (h : storeWf objDefault c = true) :
    storeWf objDefault (Objs.overlay c l) = true := Objs.foldSet_wf _ _ _ _ h

theorem State.setVal_kept (s : State) (i n : Nat) (v : Val) : Kept s (s.setVal i n v) :=
  Kept.ofObjs rfl rfl rfl (Objs.set_wf _ _ _) rfl rfl rfl rfl rfl rfl rfl

theorem State.setReg_kept (s : State) (a : Nat) (v : Word) : Kept s (s.setReg a v) :=
  ⟨rfl, Nat.le_refl _, Nat.le_refl _, fun h => ⟨⟨h.1.1, storeWf_storeSet _ _ _ _ h.1.2.1, h.1.2.2⟩, h.2⟩⟩

theorem State.setMemByte_kept (s : State) (a : Nat) (b : Byte) : Kept s (s.setMemByte a b) :=
  ⟨rfl, Nat.le_refl _, Nat.le_refl _, fun h =>
    ⟨⟨h.1.1, h.1.2.1, storeWf_storeSet _ _ _ _ h.1.2.2.1, h.1.2.2.2⟩, h.2⟩⟩

theorem State.setMem_kept (s : State) (a : Nat) (l : List Byte) : Kept s (s.setMem a l) := by
  induction l generalizing s a with
  | nil => exact Kept.refl s
  | cons b l ih => exact (ih _ _).seq (State.setMemByte_kept s a b)

theorem State.setFlashByte_kept (s : State) (a : Nat) (b : Byte) : Kept s (s.setFlashByte a b) :=
  ⟨rfl, Nat.le_refl _, Nat.le_refl _, fun h =>
    ⟨⟨h.1.1, h.1.2.1, h.1.2.2.1, storeWf_storeSet _ _ _ _ h.1.2.2.2⟩, h.2⟩⟩

theorem State.program_kept (s : State) (a : Nat) (l : List Byte) : Kept s (s.program a l) := by
  induction l generalizing s a with
  | nil => exact Kept.refl s
  | cons b l ih => exact (ih _ _).seq (State.setFlashByte_kept s a _)

theorem State.erase_kept (s : State) (a n : Nat) : Kept s (s.erase a n) :=
  ⟨rfl, Nat.le_refl _, Nat.le_refl _, fun h =>
    ⟨⟨h.1.1, h.1.2.1, h.1.2.2.1, storeWf_filter _ _ _ h.1.2.2.2⟩, h.2⟩⟩

theorem State.fresh_kept (s : State) : Kept s { s with fresh := s.fresh + 1 } :=
  ⟨rfl, Nat.le_succ _, Nat.le_refl _, id⟩

theorem State.draw_kept (s : State) : Kept s s.draw.2 := s.fresh_kept

theorem State.drawBytes_kept (s : State) (n : Nat) : Kept s (s.drawBytes n).2 := s.fresh_kept

theorem State.tick_kept (s : State) (dt : Nat) : Kept s (s.tick dt) :=
  ⟨rfl, Nat.le_refl _, Nat.le_add_right _ _, id⟩

theorem State.evPush_kept (s : State) (r : EvRec) : Kept s (s.evPush r) := by
  unfold State.evPush
  split
  · next h => exact ⟨rfl, Nat.le_refl _, Nat.le_refl _, fun x => ⟨x.1, by simp; omega, x.2.2⟩⟩
  · refine Kept.ite ((State.setReg_kept ..).seq ?_) ?_ <;>
      exact (State.setReg_kept ..).seq (Kept.upd rfl rfl rfl rfl rfl rfl rfl rfl rfl rfl rfl)

theorem State.flashJournal_kept (s : State) (kind : Nat) (data : List Byte) : Kept s (s.flashJournal kind data) :=
  ⟨rfl, Nat.le_refl _, Nat.le_refl _, fun h => ⟨h.1, h.2.1, h.2.2.1, h.2.2.2.1, by
    simp only [State.flashJournal, pushRecord, List.length_take]; exact Nat.min_le_left _ _⟩⟩

theorem KeptR.next {s t : State} (h : Kept s t) : KeptR s (.next t) := ⟨fun _ e => by cases e; exact h⟩

theorem act_kept (dt : Nat) (s : State) (f : State → State) (hk2 : ∀ t, Kept t (f t)) : KeptR s (act dt s f) :=
  .next (.ite (s.tick_kept dt) ((hk2 _).seq (s.tick_kept dt)))

theorem actAlways_kept (dt : Nat) (s : State) (f : State → State) (hk2 : ∀ t, Kept t (f t)) : KeptR s (actAlways dt s f) :=
  .next ((hk2 _).seq (s.tick_kept dt))

end Sys2Proof.Machine
end

