-- ==== Sys2Proof/Laws/KeptOps.lean ====
section
/-!
SUPPORT. That the functions of Machine/Ops.lean keep the queue, never turn time back and keep a sound state sound
(`Kept` of Laws/Kept.lean).
-/
namespace Sys2Proof.Machine

theorem State.setN_kept (s_a index_a sub_a n_a) : Kept s_a (State.setN s_a index_a sub_a n_a) := by
  unfold State.setN
  refine Kept.seq (State.setVal_kept ..) ?_
  exact Kept.refl _

theorem State.setI_kept (s_a index_a sub_a i_a) : Kept s_a (State.setI s_a index_a sub_a i_a) := by
  unfold State.setI
  refine Kept.seq (State.setVal_kept ..) ?_
  exact Kept.refl _

theorem State.setB_kept (s_a index_a sub_a b_a) : Kept s_a (State.setB s_a index_a sub_a b_a) := by
  unfold State.setB
  refine Kept.seq (State.setN_kept ..) ?_
  exact Kept.refl _

theorem State.setBy_kept (s_a index_a sub_a b_a) : Kept s_a (State.setBy s_a index_a sub_a b_a) := by
  unfold State.setBy
  refine Kept.seq (State.setVal_kept ..) ?_
  exact Kept.refl _

theorem State.setBitN_kept (s_a index_a sub_a k_a b_a) : Kept s_a (State.setBitN s_a index_a sub_a k_a b_a) := by
  unfold State.setBitN
  refine Kept.seq (State.setN_kept ..) ?_
  exact Kept.refl _

theorem State.toDefault_kept (s_a index_a sub_a) : Kept s_a (State.toDefault s_a index_a sub_a) := by
  unfold State.toDefault
  refine Kept.seq (State.setVal_kept ..) ?_
  exact Kept.refl _

theorem State.setRegN_kept (s_a addr_a v_a) : Kept s_a (State.setRegN s_a addr_a v_a) := by
  unfold State.setRegN
  refine Kept.seq (State.setReg_kept ..) ?_
  exact Kept.refl _

theorem State.setRegBit_kept (s_a addr_a k_a b_a) : Kept s_a (State.setRegBit s_a addr_a k_a b_a) := by
  unfold State.setRegBit
  refine Kept.seq (State.setRegN_kept ..) ?_
  exact Kept.refl _

theorem State.setRegField_kept (s_a addr_a lo_a hi_a v_a) : Kept s_a (State.setRegField s_a addr_a lo_a hi_a v_a) := by
  unfold State.setRegField
  refine Kept.seq (State.setRegN_kept ..) ?_
  exact Kept.refl _

theorem State.busWrite_kept (s_a addr_a v_a) : Kept s_a (State.busWrite s_a addr_a v_a) := by
  unfold State.busWrite
  split
  · exact Kept.refl _
  · extract_lets +onlyGivenNames x1
    extract_lets +onlyGivenNames x2
    extract_lets +onlyGivenNames x3
    extract_lets +onlyGivenNames x4
    refine Kept.seq (State.setRegN_kept ..) ?_
    exact Kept.refl _

theorem State.emit_kept (s_a o_a) : Kept s_a (State.emit s_a o_a) := by
  unfold State.emit
  exact Kept.upd rfl rfl rfl rfl rfl rfl rfl rfl rfl rfl rfl

end Sys2Proof.Machine
end

