-- ==== Sys2Proof/Laws/KeptFlags.lean ====
section
/-!
SUPPORT. That the functions of Machine/Flags.lean keep the queue, never turn time back and keep a sound state sound
(`Kept` of Laws/Kept.lean).
-/
namespace Sys2Proof.Machine

theorem State.journal_kept (s_a kind_a data_a) : Kept s_a (State.journal s_a kind_a data_a) := by
  unfold State.journal
  refine Kept.ite ?_ ?_
  · exact Kept.refl _
  · exact Kept.upd rfl rfl rfl rfl rfl rfl rfl rfl rfl rfl rfl

theorem State.setEvPin_kept (s_a n_a p_a) : Kept s_a (State.setEvPin s_a n_a p_a) := by
  unfold State.setEvPin
  extract_lets +onlyGivenNames x1
  extract_lets +onlyGivenNames x2
  extract_lets +onlyGivenNames x3
  have hx3 : Kept s_a x3 := by
    subst x3
    refine Kept.ite ?_ ?_
    · exact Kept.upd rfl rfl rfl rfl rfl rfl rfl rfl rfl rfl rfl
    · exact Kept.upd rfl rfl rfl rfl rfl rfl rfl rfl rfl rfl rfl
  clear_value x3
  refine Kept.ite ?_ ?_
  · refine Kept.seq (State.emit_kept ..) ?_
    exact hx3
  · exact hx3

theorem State.assertPin_kept (s_a n_a source_a) : Kept s_a (State.assertPin s_a n_a source_a) := by
  unfold State.assertPin
  extract_lets +onlyGivenNames x1
  refine Kept.ite ?_ ?_
  · refine Kept.seq (State.setEvPin_kept ..) ?_
    exact Kept.refl _
  · split
    · refine Kept.ite ?_ ?_
      · exact Kept.refl _
      · refine Kept.seq (State.setEvPin_kept ..) ?_
        exact Kept.refl _
    · refine Kept.seq (State.setEvPin_kept ..) ?_
      exact Kept.refl _

theorem State.count64_kept (s_a index_a sub_a by__a) : Kept s_a (State.count64 s_a index_a sub_a by__a) := by
  unfold State.count64
  refine Kept.seq (State.setN_kept ..) ?_
  exact Kept.refl _

theorem State.setPinned_kept (s_a a_a) : Kept s_a (State.setPinned s_a a_a) := by
  unfold State.setPinned
  refine Kept.ite ?_ ?_
  · exact Kept.refl _
  · exact Kept.upd rfl rfl rfl rfl rfl rfl rfl rfl rfl rfl rfl

theorem State.raiseOnce_kept (s_a source_a subject_a) : Kept s_a (State.raiseOnce s_a source_a subject_a) := by
  unfold State.raiseOnce
  extract_lets +onlyGivenNames x1
  have hx1 : Kept s_a x1 := by
    subst x1
    refine Kept.seq (State.count64_kept ..) ?_
    exact Kept.refl _
  clear_value x1
  extract_lets +onlyGivenNames x2
  have hx2 : Kept s_a x2 := by
    subst x2
    refine Kept.seq (State.setN_kept ..) ?_
    exact hx1
  clear_value x2
  extract_lets +onlyGivenNames x3
  have hx3 : Kept s_a x3 := by
    subst x3
    refine Kept.seq (State.setN_kept ..) ?_
    exact hx2
  clear_value x3
  extract_lets +onlyGivenNames x4
  have hx4 : Kept s_a x4 := by
    subst x4
    refine Kept.seq (State.evPush_kept ..) ?_
    exact hx3
  clear_value x4
  extract_lets +onlyGivenNames x5
  extract_lets +onlyGivenNames x6
  have hx6 : Kept s_a x6 := by
    subst x6
    refine Kept.ite ?_ ?_
    · refine Kept.seq (State.assertPin_kept ..) ?_
      exact hx4
    · exact hx4
  clear_value x6
  extract_lets +onlyGivenNames x7
  have hx7 : Kept s_a x7 := by
    subst x7
    refine Kept.ite ?_ ?_
    · refine Kept.seq (State.assertPin_kept ..) ?_
      exact hx6
    · exact hx6
  clear_value x7
  extract_lets +onlyGivenNames x8
  have hx8 : Kept s_a x8 := by
    subst x8
    refine Kept.seq (State.journal_kept ..) ?_
    exact hx7
  clear_value x8
  refine Kept.ite ?_ ?_
  · refine Kept.seq (State.flashJournal_kept ..) ?_
    exact hx8
  · exact hx8

theorem State.raise_kept (s_a source_a subject_a) : Kept s_a (State.raise s_a source_a subject_a) := by
  unfold State.raise
  extract_lets +onlyGivenNames x1
  extract_lets +onlyGivenNames x2
  extract_lets +onlyGivenNames x3
  have hx3 : Kept s_a x3 := by
    subst x3
    refine Kept.seq (State.raiseOnce_kept ..) ?_
    exact Kept.refl _
  clear_value x3
  refine Kept.ite ?_ ?_
  · refine Kept.seq (State.raiseOnce_kept ..) ?_
    refine Kept.seq (State.setPinned_kept ..) ?_
    exact hx3
  · exact hx3

theorem State.raiseLimited_kept (s_a source_a scope_a subject_a) : Kept s_a (State.raiseLimited s_a source_a scope_a subject_a) := by
  unfold State.raiseLimited
  extract_lets +onlyGivenNames x1
  extract_lets +onlyGivenNames x2
  refine Kept.ite ?_ ?_
  · exact Kept.refl _
  · extract_lets +onlyGivenNames x3
    have hx3 : Kept s_a x3 := by
      subst x3
      refine Kept.seq (State.raise_kept ..) ?_
      exact Kept.refl _
    clear_value x3
    refine Kept.seq (Kept.upd (s := x3) rfl rfl rfl rfl rfl rfl rfl rfl rfl rfl rfl) ?_
    exact hx3

theorem State.bump_kept (s_a index_a sub_a by__a) : Kept s_a (State.bump s_a index_a sub_a by__a) := by
  unfold State.bump
  extract_lets +onlyGivenNames x1
  extract_lets +onlyGivenNames x2
  extract_lets +onlyGivenNames x3
  refine Kept.ite ?_ ?_
  · refine Kept.seq (State.setN_kept ..) ?_
    exact Kept.refl _
  · refine Kept.ite ?_ ?_
    · refine Kept.seq (State.setN_kept ..) ?_
      exact Kept.refl _
    · refine Kept.seq (State.raise_kept ..) ?_
      refine Kept.seq (State.setPinned_kept ..) ?_
      refine Kept.seq (State.setN_kept ..) ?_
      exact Kept.refl _

theorem State.clearCounter_kept (s_a index_a sub_a) : Kept s_a (State.clearCounter s_a index_a sub_a) := by
  unfold State.clearCounter
  extract_lets +onlyGivenNames x1
  extract_lets +onlyGivenNames x2
  have hx2 : Kept s_a x2 := by
    subst x2
    refine Kept.seq (State.toDefault_kept ..) ?_
    exact Kept.refl _
  clear_value x2
  refine Kept.seq (Kept.upd (s := x2) rfl rfl rfl rfl rfl rfl rfl rfl rfl rfl rfl) ?_
  exact hx2

theorem State.clearCounters_kept (s_a indices_a sub_a) : Kept s_a (State.clearCounters s_a indices_a sub_a) := by
  unfold State.clearCounters
  refine Kept.foldl (fun u1 x2 => ?_) ?_
  · refine Kept.seq (State.clearCounter_kept ..) ?_
    exact Kept.refl _
  · exact Kept.refl _

theorem State.bumpReg_kept (s_a addr_a by__a) : Kept s_a (State.bumpReg s_a addr_a by__a) := by
  unfold State.bumpReg
  extract_lets +onlyGivenNames x1
  extract_lets +onlyGivenNames x2
  refine Kept.ite ?_ ?_
  · refine Kept.seq (State.setRegN_kept ..) ?_
    exact Kept.refl _
  · refine Kept.ite ?_ ?_
    · exact Kept.refl _
    · refine Kept.seq (State.raise_kept ..) ?_
      refine Kept.seq (State.setRegN_kept ..) ?_
      exact Kept.refl _

theorem State.setReason_kept (s_a k_a v_a) : Kept s_a (State.setReason s_a k_a v_a) := by
  unfold State.setReason
  extract_lets +onlyGivenNames x1
  extract_lets +onlyGivenNames x2
  have hx2 : Kept s_a x2 := by
    subst x2
    refine Kept.seq (State.setBitN_kept ..) ?_
    exact Kept.refl _
  clear_value x2
  extract_lets +onlyGivenNames x3
  extract_lets +onlyGivenNames x4
  have hx4 : Kept s_a x4 := by
    subst x4
    refine Kept.seq (State.setN_kept ..) ?_
    exact hx2
  clear_value x4
  refine Kept.ite ?_ ?_
  · exact hx4
  · refine Kept.seq (State.raise_kept ..) ?_
    exact hx4

end Sys2Proof.Machine
end

