-- ==== Sys2Proof/Laws/KeptSlots.lean ====
section
/-!
SUPPORT. That the functions of Machine/Slots.lean keep the queue, never turn time back and keep a sound state sound
(`Kept` of Laws/Kept.lean).
-/
namespace Sys2Proof.Machine

theorem State.onlyIf_kept (s_a c_a f_a) (hk2 : ∀ y0, Kept y0 (f_a y0)) : Kept s_a (State.onlyIf s_a c_a f_a) := by
  unfold State.onlyIf
  refine Kept.ite ?_ ?_
  · refine Kept.seq (hk2 ..) ?_
    exact Kept.refl _
  · exact Kept.refl _

theorem actIf_kept (dt_a s_a c_a f_a) (hk3 : ∀ y0, Kept y0 (f_a y0)) : KeptR s_a (actIf dt_a s_a c_a f_a) := by
  unfold actIf
  refine act_kept (hk2 := fun u1 => ?_) ..
  refine Kept.seq (State.onlyIf_kept (hk2 := fun u2 => ?_) ..) ?_
  · refine Kept.seq (hk3 ..) ?_
    exact Kept.refl _
  · exact Kept.refl _

theorem State.setSrc_kept (s_a slot_a x_a) : Kept s_a (State.setSrc s_a slot_a x_a) := by
  unfold State.setSrc
  exact Kept.upd rfl rfl rfl rfl rfl rfl rfl rfl rfl rfl rfl

theorem State.abandonFrame_kept (s_a slot_a) : Kept s_a (State.abandonFrame s_a slot_a) := by
  unfold State.abandonFrame
  split
  · refine Kept.seq (State.bump_kept ..) ?_
    refine Kept.seq (State.setSrc_kept ..) ?_
    exact Kept.refl _
  · exact Kept.refl _

theorem State.finishFrame_kept (s_a slot_a seq_a) : Kept s_a (State.finishFrame s_a slot_a seq_a) := by
  unfold State.finishFrame
  split
  · extract_lets +onlyGivenNames x1
    extract_lets +onlyGivenNames x2
    refine Kept.seq (State.bump_kept ..) ?_
    refine Kept.seq (State.setN_kept ..) ?_
    refine Kept.seq (State.setSrc_kept ..) ?_
    exact Kept.refl _
  · exact Kept.refl _

theorem State.finishTimed_kept (s_a slot_a) : Kept s_a (State.finishTimed s_a slot_a) := by
  unfold State.finishTimed
  refine Kept.foldl (fun u1 x2 => ?_) ?_
  · refine Kept.seq (State.finishFrame_kept ..) ?_
    exact Kept.refl _
  · exact Kept.refl _

theorem State.abandonBefore_kept (s_a slot_a w_a) : Kept s_a (State.abandonBefore s_a slot_a w_a) := by
  unfold State.abandonBefore
  split
  · refine Kept.seq (State.bump_kept ..) ?_
    refine Kept.seq (State.setSrc_kept ..) ?_
    exact Kept.refl _
  · exact Kept.refl _

theorem State.startFrame_kept (s_a slot_a f_a) : Kept s_a (State.startFrame s_a slot_a f_a) := by
  unfold State.startFrame
  extract_lets +onlyGivenNames x1
  have hx1 : Kept s_a x1 := by
    subst x1
    refine Kept.seq (State.abandonBefore_kept ..) ?_
    refine Kept.seq (State.finishTimed_kept ..) ?_
    exact Kept.refl _
  clear_value x1
  extract_lets +onlyGivenNames x2
  extract_lets +onlyGivenNames x3
  refine Kept.seq (State.setSrc_kept ..) ?_
  exact hx1

theorem State.refreshColour_kept (s_a slot_a f_a) : Kept s_a (State.refreshColour s_a slot_a f_a) := by
  unfold State.refreshColour
  extract_lets +onlyGivenNames x1
  refine Kept.ite ?_ ?_
  · exact Kept.refl _
  · extract_lets +onlyGivenNames x2
    have hx2 : Kept s_a x2 := by
      subst x2
      refine Kept.seq (State.setN_kept ..) ?_
      exact Kept.refl _
    clear_value x2
    refine Kept.ite ?_ ?_
    · refine Kept.seq (State.raise_kept ..) ?_
      exact hx2
    · exact hx2

theorem State.refreshSlot_kept (s_a slot_a) : Kept s_a (State.refreshSlot s_a slot_a) := by
  unfold State.refreshSlot
  extract_lets +onlyGivenNames x1
  extract_lets +onlyGivenNames x2
  extract_lets +onlyGivenNames x3
  extract_lets +onlyGivenNames x4
  extract_lets +onlyGivenNames x5
  extract_lets +onlyGivenNames x6
  extract_lets +onlyGivenNames x7
  extract_lets +onlyGivenNames x8
  have hx8 : Kept s_a x8 := by
    subst x8
    refine Kept.seq (State.setN_kept ..) ?_
    exact Kept.refl _
  clear_value x8
  extract_lets +onlyGivenNames x9
  have hx9 : Kept s_a x9 := by
    subst x9
    refine Kept.seq (State.setN_kept ..) ?_
    exact hx8
  clear_value x9
  extract_lets +onlyGivenNames x10
  have hx10 : Kept s_a x10 := by
    subst x10
    refine Kept.seq (State.setN_kept ..) ?_
    exact hx9
  clear_value x10
  extract_lets +onlyGivenNames x11
  have hx11 : Kept s_a x11 := by
    subst x11
    refine Kept.ite ?_ ?_
    · refine Kept.seq (State.raise_kept ..) ?_
      exact hx10
    · exact hx10
  clear_value x11
  extract_lets +onlyGivenNames x12
  extract_lets +onlyGivenNames x13
  have hx13 : Kept s_a x13 := by
    subst x13
    refine Kept.seq (State.abandonFrame_kept ..) ?_
    exact hx11
  clear_value x13
  extract_lets +onlyGivenNames x14
  extract_lets +onlyGivenNames x15
  have hx15 : Kept s_a x15 := by
    subst x15
    refine Kept.ite ?_ ?_
    · refine Kept.seq (State.raise_kept ..) ?_
      refine Kept.seq (State.setSrc_kept ..) ?_
      exact hx11
    · refine Kept.ite ?_ ?_
      · refine Kept.seq (State.raise_kept ..) ?_
        refine Kept.seq (State.setSrc_kept ..) ?_
        exact hx13
      · exact hx11
  clear_value x15
  refine Kept.seq (State.refreshColour_kept ..) ?_
  exact hx15

theorem State.refreshSlots_kept (s_a l_a) : Kept s_a (State.refreshSlots s_a l_a) := by
  unfold State.refreshSlots
  refine Kept.foldl (fun u1 x2 => ?_) ?_
  · refine Kept.seq (State.refreshSlot_kept ..) ?_
    exact Kept.refl _
  · exact Kept.refl _

theorem State.settle_kept (s_a slot_a) : Kept s_a (State.settle s_a slot_a) := by
  unfold State.settle
  extract_lets +onlyGivenNames x1
  have hx1 : Kept s_a x1 := by
    subst x1
    refine Kept.seq (State.finishTimed_kept ..) ?_
    exact Kept.refl _
  clear_value x1
  refine Kept.ite ?_ ?_
  · exact Kept.refl _
  · refine Kept.ite ?_ ?_
    · refine Kept.seq (State.refreshSlot_kept ..) ?_
      exact hx1
    · exact hx1

end Sys2Proof.Machine
end

