-- ==== Sys2Proof/Laws/KeptDests.lean ====
section
/-!
SUPPORT. That the functions of Machine/Dests.lean keep the queue, never turn time back and keep a sound state sound
(`Kept` of Laws/Kept.lean).
-/
namespace Sys2Proof.Machine

theorem State.setDst_kept (s_a d_a x_a) : Kept s_a (State.setDst s_a d_a x_a) := by
  unfold State.setDst
  exact Kept.upd rfl rfl rfl rfl rfl rfl rfl rfl rfl rfl rfl

theorem State.setTxe_kept (s_a e_a x_a) : Kept s_a (State.setTxe s_a e_a x_a) := by
  unfold State.setTxe
  exact Kept.upd rfl rfl rfl rfl rfl rfl rfl rfl rfl rfl rfl

theorem State.setRxe_kept (s_a e_a x_a) : Kept s_a (State.setRxe s_a e_a x_a) := by
  unfold State.setRxe
  exact Kept.upd rfl rfl rfl rfl rfl rfl rfl rfl rfl rfl rfl

theorem State.enterLoss_kept (s_a d_a) : Kept s_a (State.enterLoss s_a d_a) := by
  unfold State.enterLoss
  extract_lets +onlyGivenNames x1
  extract_lets +onlyGivenNames x2
  extract_lets +onlyGivenNames x3
  have hx3 : Kept s_a x3 := by
    subst x3
    refine Kept.seq (State.setDst_kept ..) ?_
    exact Kept.refl _
  clear_value x3
  refine Kept.ite ?_ ?_
  · exact hx3
  · refine Kept.seq (State.raise_kept ..) ?_
    exact hx3

theorem State.leaveLoss_kept (s_a d_a) : Kept s_a (State.leaveLoss s_a d_a) := by
  unfold State.leaveLoss
  extract_lets +onlyGivenNames x1
  refine Kept.ite ?_ ?_
  · refine Kept.seq (State.raise_kept ..) ?_
    refine Kept.seq (State.setDst_kept ..) ?_
    exact Kept.refl _
  · exact Kept.refl _

theorem State.showLoss_kept (s_a d_a r_a align_a) : Kept s_a (State.showLoss s_a d_a r_a align_a) := by
  unfold State.showLoss
  extract_lets +onlyGivenNames x1
  have hx1 : Kept s_a x1 := by
    subst x1
    refine Kept.seq (State.enterLoss_kept ..) ?_
    exact Kept.refl _
  clear_value x1
  extract_lets +onlyGivenNames x2
  extract_lets +onlyGivenNames x3
  extract_lets +onlyGivenNames x4
  have hx4 : Kept s_a x4 := by
    subst x4
    refine Kept.seq (State.setDst_kept ..) ?_
    exact hx1
  clear_value x4
  refine Kept.seq (State.bump_kept ..) ?_
  refine Kept.seq (State.setN_kept ..) ?_
  exact hx4

theorem State.slip_kept (s_a d_a slot_a n_a) : Kept s_a (State.slip s_a d_a slot_a n_a) := by
  unfold State.slip
  extract_lets +onlyGivenNames x1
  subst x1
  split
  · refine Kept.ite ?_ ?_
    · exact Kept.refl _
    · refine Kept.ite ?_ ?_
      · dsimp -zeta only
        refine Kept.ite ?_ ?_
        · refine Kept.seq (State.raiseLimited_kept ..) ?_
          refine Kept.seq (State.bump_kept ..) ?_
          exact Kept.refl _
        · refine Kept.seq (State.bump_kept ..) ?_
          exact Kept.refl _
      · refine Kept.ite ?_ ?_
        · dsimp -zeta only
          refine Kept.ite ?_ ?_
          · refine Kept.seq (State.raiseLimited_kept ..) ?_
            refine Kept.seq (State.bump_kept ..) ?_
            exact Kept.refl _
          · refine Kept.seq (State.bump_kept ..) ?_
            exact Kept.refl _
        · exact Kept.refl _
  · exact Kept.refl _

theorem State.meetSideData_kept (s_a slot_a f_a) : Kept s_a (State.meetSideData s_a slot_a f_a) := by
  unfold State.meetSideData
  refine Kept.ite ?_ ?_
  · refine Kept.seq (State.raise_kept ..) ?_
    refine Kept.seq (State.setSrc_kept ..) ?_
    exact Kept.refl _
  · exact Kept.refl _

theorem State.showFrame_kept (s_a d_a slot_a f_a r_a align_a) : Kept s_a (State.showFrame s_a d_a slot_a f_a r_a align_a) := by
  unfold State.showFrame
  extract_lets +onlyGivenNames x1
  have hx1 : Kept s_a x1 := by
    subst x1
    refine Kept.seq (State.leaveLoss_kept ..) ?_
    exact Kept.refl _
  clear_value x1
  extract_lets +onlyGivenNames x2
  extract_lets +onlyGivenNames x3
  extract_lets +onlyGivenNames x4
  extract_lets +onlyGivenNames x5
  extract_lets +onlyGivenNames x6
  have hx6 : Kept s_a x6 := by
    subst x6
    refine Kept.seq (State.setDst_kept ..) ?_
    exact hx1
  clear_value x6
  refine Kept.seq (State.meetSideData_kept ..) ?_
  refine Kept.seq (State.setN_kept ..) ?_
  exact hx6

theorem State.timedWindow_kept (s_a d_a r_a inHalf_a inQuarter_a) : Kept s_a (State.timedWindow s_a d_a r_a inHalf_a inQuarter_a) := by
  unfold State.timedWindow
  extract_lets +onlyGivenNames x1
  split
  · extract_lets +onlyGivenNames x2
    have hx2 : Kept s_a x2 := by
      subst x2
      refine Kept.seq (State.setI_kept ..) ?_
      refine Kept.seq (State.setN_kept ..) ?_
      exact Kept.refl _
    clear_value x2
    refine Kept.ite ?_ ?_
    · exact hx2
    · refine Kept.ite ?_ ?_
      · refine Kept.seq (State.raise_kept ..) ?_
        refine Kept.seq (State.setDst_kept ..) ?_
        exact hx2
      · refine Kept.seq (State.setDst_kept ..) ?_
        exact Kept.refl _
  · refine Kept.ite ?_ ?_
    · refine Kept.seq (State.setDst_kept ..) ?_
      exact Kept.refl _
    · refine Kept.seq (State.raise_kept ..) ?_
      refine Kept.seq (State.setN_kept ..) ?_
      refine Kept.seq (State.setDst_kept ..) ?_
      exact Kept.refl _

theorem State.timedOut_kept (s_a d_a r_a) : Kept s_a (State.timedOut s_a d_a r_a) := by
  unfold State.timedOut
  refine Kept.ite ?_ ?_
  · refine Kept.seq (State.timedWindow_kept ..) ?_
    exact Kept.refl _
  · refine Kept.seq (State.setN_kept ..) ?_
    exact Kept.refl _

theorem State.timedMissed_kept (s_a d_a) : Kept s_a (State.timedMissed s_a d_a) := by
  unfold State.timedMissed
  extract_lets +onlyGivenNames x1
  refine Kept.seq (State.setN_kept ..) ?_
  refine Kept.seq (State.setDst_kept ..) ?_
  exact Kept.refl _

theorem State.timedStep_kept (s_a d_a slot_a r_a) : Kept s_a (State.timedStep s_a d_a slot_a r_a) := by
  unfold State.timedStep
  refine Kept.ite ?_ ?_
  · extract_lets +onlyGivenNames x1
    extract_lets +onlyGivenNames x2
    extract_lets +onlyGivenNames x3
    refine Kept.seq (State.timedWindow_kept ..) ?_
    exact Kept.refl _
  · refine Kept.seq (State.setN_kept ..) ?_
    exact Kept.refl _

theorem State.beginAdopt_kept (s_a d_a f_a align_a) : Kept s_a (State.beginAdopt s_a d_a f_a align_a) := by
  unfold State.beginAdopt
  extract_lets +onlyGivenNames x1
  extract_lets +onlyGivenNames x2
  extract_lets +onlyGivenNames x3
  refine Kept.seq (State.setDst_kept ..) ?_
  exact Kept.refl _

theorem State.txChanged_kept (s_a d_a) : Kept s_a (State.txChanged s_a d_a) := by
  unfold State.txChanged
  refine Kept.foldl (fun u1 x2 => ?_) ?_
  · refine Kept.seq (State.raise_kept ..) ?_
    exact Kept.refl _
  · exact Kept.refl _

theorem State.adopt_kept (s_a d_a f_a) : Kept s_a (State.adopt s_a d_a f_a) := by
  unfold State.adopt
  refine Kept.seq (State.txChanged_kept ..) ?_
  refine Kept.seq (State.raise_kept ..) ?_
  refine Kept.seq (State.setDst_kept ..) ?_
  exact Kept.refl _

theorem State.showBlanking_kept (s_a d_a r_a align_a) : Kept s_a (State.showBlanking s_a d_a r_a align_a) := by
  unfold State.showBlanking
  extract_lets +onlyGivenNames x1
  refine Kept.seq (State.setDst_kept ..) ?_
  exact Kept.refl _

theorem State.forgetAdopt_kept (s_a d_a) : Kept s_a (State.forgetAdopt s_a d_a) := by
  unfold State.forgetAdopt
  refine Kept.seq (State.setDst_kept ..) ?_
  exact Kept.refl _

theorem State.follow_kept (s_a d_a slot_a f_a r_a align_a) : Kept s_a (State.follow s_a d_a slot_a f_a r_a align_a) := by
  unfold State.follow
  extract_lets +onlyGivenNames x1
  extract_lets +onlyGivenNames x2
  refine Kept.ite ?_ ?_
  · refine Kept.seq (State.showFrame_kept ..) ?_
    refine Kept.seq (State.slip_kept ..) ?_
    exact Kept.refl _
  · refine Kept.ite ?_ ?_
    · extract_lets +onlyGivenNames x3
      extract_lets +onlyGivenNames x4
      have hx4 : Kept s_a x4 := by
        subst x4
        refine Kept.ite ?_ ?_
        · exact Kept.refl _
        · refine Kept.seq (State.raise_kept ..) ?_
          refine Kept.seq (State.setDst_kept ..) ?_
          exact Kept.refl _
      clear_value x4
      refine Kept.seq (State.showLoss_kept ..) ?_
      exact hx4
    · extract_lets +onlyGivenNames x5
      have hx5 : Kept s_a x5 := by
        subst x5
        refine Kept.ite ?_ ?_
        · refine Kept.seq (State.setDst_kept ..) ?_
          exact Kept.refl _
        · exact Kept.refl _
      clear_value x5
      refine Kept.ite ?_ ?_
      · refine Kept.seq (State.showFrame_kept ..) ?_
        refine Kept.seq (State.slip_kept ..) ?_
        refine Kept.seq (State.forgetAdopt_kept ..) ?_
        exact hx5
      · extract_lets +onlyGivenNames x6
        have hx6 : Kept s_a x6 := by
          subst x6
          split
          · refine Kept.ite ?_ ?_
            · exact hx5
            · refine Kept.seq (State.beginAdopt_kept ..) ?_
              exact hx5
          · refine Kept.seq (State.beginAdopt_kept ..) ?_
            exact hx5
        clear_value x6
        split
        · refine Kept.ite ?_ ?_
          · refine Kept.seq (State.showFrame_kept ..) ?_
            refine Kept.seq (State.adopt_kept ..) ?_
            exact hx6
          · refine Kept.seq (State.showBlanking_kept ..) ?_
            exact hx6
        · exact hx6

theorem State.switchRoute_kept (s_a d_a align_a) : Kept s_a (State.switchRoute s_a d_a align_a) := by
  unfold State.switchRoute
  extract_lets +onlyGivenNames x1
  extract_lets +onlyGivenNames x2
  extract_lets +onlyGivenNames x3
  extract_lets +onlyGivenNames x4
  split
  · refine Kept.ite ?_ ?_
    · refine Kept.seq (State.setDst_kept ..) ?_
      exact Kept.refl _
    · refine Kept.seq (State.setDst_kept ..) ?_
      exact Kept.refl _
  · exact Kept.refl _

theorem State.labelColour_kept (s_a d_a sp_a) : Kept s_a (State.labelColour s_a d_a sp_a) := by
  unfold State.labelColour
  extract_lets +onlyGivenNames x1
  extract_lets +onlyGivenNames x2
  have hx2 : Kept s_a x2 := by
    subst x2
    refine Kept.seq (State.setDst_kept ..) ?_
    exact Kept.refl _
  clear_value x2
  split
  · refine Kept.ite ?_ ?_
    · exact hx2
    · refine Kept.seq (State.txChanged_kept ..) ?_
      refine Kept.seq (State.setN_kept ..) ?_
      exact hx2
  · exact hx2

theorem State.readStart_kept (s_a d_a r_a align_a) : Kept s_a (State.readStart s_a d_a r_a align_a) := by
  unfold State.readStart
  extract_lets +onlyGivenNames x1
  have hx1 : Kept s_a x1 := by
    subst x1
    refine Kept.seq (State.labelColour_kept ..) ?_
    refine Kept.seq (State.switchRoute_kept ..) ?_
    exact Kept.refl _
  clear_value x1
  extract_lets +onlyGivenNames x2
  have hx2 : Kept s_a x2 := by
    subst x2
    split
    · refine Kept.seq (State.showLoss_kept ..) ?_
      refine Kept.seq (State.timedMissed_kept ..) ?_
      exact hx1
    · extract_lets +onlyGivenNames x3
      have hx3 : Kept s_a x3 := by
        subst x3
        refine Kept.seq (State.settle_kept ..) ?_
        exact hx1
      clear_value x3
      refine Kept.ite ?_ ?_
      · refine Kept.seq (State.showLoss_kept ..) ?_
        refine Kept.seq (State.timedOut_kept ..) ?_
        exact hx3
      · extract_lets +onlyGivenNames x4
        have hx4 : Kept s_a x4 := by
          subst x4
          refine Kept.seq (State.timedStep_kept ..) ?_
          exact hx3
        clear_value x4
        split
        · refine Kept.ite ?_ ?_
          · refine Kept.seq (State.showLoss_kept ..) ?_
            exact hx4
          · refine Kept.seq (State.follow_kept ..) ?_
            exact hx4
        · refine Kept.seq (State.showLoss_kept ..) ?_
          exact hx4
  clear_value x2
  refine Kept.seq (State.setN_kept ..) ?_
  exact hx2

theorem State.markEmitted_kept (s_a d_a x_a) : Kept s_a (State.markEmitted s_a d_a x_a) := by
  unfold State.markEmitted
  refine Kept.seq (State.setDst_kept ..) ?_
  exact Kept.refl _

theorem State.putOnAir_kept (s_a d_a x_a) : Kept s_a (State.putOnAir s_a d_a x_a) := by
  unfold State.putOnAir
  refine Kept.seq (State.setN_kept ..) ?_
  refine Kept.seq (State.setN_kept ..) ?_
  refine Kept.seq (State.markEmitted_kept ..) ?_
  exact Kept.refl _

theorem State.emitLedger_kept (s_a d_a code_a emission_a) : Kept s_a (State.emitLedger s_a d_a code_a emission_a) := by
  unfold State.emitLedger
  split
  · exact Kept.refl _
  · refine Kept.ite ?_ ?_
    · exact Kept.refl _
    · refine Kept.ite ?_ ?_
      · refine Kept.seq (State.markEmitted_kept ..) ?_
        exact Kept.refl _
      · extract_lets +onlyGivenNames x1
        have hx1 : Kept s_a x1 := by
          subst x1
          refine Kept.seq (State.putOnAir_kept ..) ?_
          exact Kept.refl _
        clear_value x1
        refine Kept.ite ?_ ?_
        · refine Kept.seq (State.setBy_kept ..) ?_
          refine Kept.seq (State.setN_kept ..) ?_
          exact hx1
        · extract_lets +onlyGivenNames x2
          split
          rename_i v3 t4 e5
          have ht4 : Kept s_a t4 := by
            refine Kept.snd e5 ?_
            split
            · refine Kept.mk2 ?_
              exact hx1
            · refine Kept.seq (State.draw_kept ..) ?_
              exact hx1
          extract_lets +onlyGivenNames x6
          extract_lets +onlyGivenNames x7
          have hx7 : Kept s_a x7 := by
            subst x7
            refine Kept.seq (State.setBy_kept ..) ?_
            refine Kept.seq (State.setN_kept ..) ?_
            exact ht4
          clear_value x7
          extract_lets +onlyGivenNames x8
          have hx8 : Kept s_a x8 := by
            subst x8
            refine Kept.seq (State.setN_kept ..) ?_
            exact hx7
          clear_value x8
          refine Kept.seq (State.setN_kept ..) ?_
          exact hx8

end Sys2Proof.Machine
end

