-- ==== Sys2Proof/Laws/KeptHistogram.lean ====
section
/-!
SUPPORT. That the functions of Machine/Histogram.lean keep the queue, never turn time back and keep a sound state sound
(`Kept` of Laws/Kept.lean).
-/
namespace Sys2Proof.Machine

theorem State.capture_kept (s_a index_a sub_a start_a v_a) : Kept s_a (State.capture s_a index_a sub_a start_a v_a) := by
  unfold State.capture
  extract_lets +onlyGivenNames x1
  extract_lets +onlyGivenNames x2
  extract_lets +onlyGivenNames x3
  have hx3 : Kept s_a x3 := by
    subst x3
    refine Kept.seq (State.setBy_kept ..) ?_
    exact Kept.refl _
  clear_value x3
  refine Kept.ite ?_ ?_
  · refine Kept.seq (State.raise_kept ..) ?_
    refine Kept.seq (State.setPinned_kept ..) ?_
    exact hx3
  · exact hx3

end Sys2Proof.Machine
end

