-- ==== Sys2Proof/Laws/KeptMonitor.lean ====
section
/-!
SUPPORT. That the functions of Machine/Monitor.lean keep the queue, never turn time back and keep a sound state sound
(`Kept` of Laws/Kept.lean).
-/
namespace Sys2Proof.Machine

theorem State.setMonUnit_kept (s_a u_a x_a) : Kept s_a (State.setMonUnit s_a u_a x_a) := by
  unfold State.setMonUnit
  exact Kept.upd rfl rfl rfl rfl rfl rfl rfl rfl rfl rfl rfl

theorem State.monRestart_kept (s_a u_a) : Kept s_a (State.monRestart s_a u_a) := by
  unfold State.monRestart
  extract_lets +onlyGivenNames x1
  extract_lets +onlyGivenNames x2
  have hx2 : Kept s_a x2 := by
    subst x2
    refine Kept.seq (State.setN_kept ..) ?_
    refine Kept.seq (State.clearCounter_kept ..) ?_
    exact Kept.refl _
  clear_value x2
  extract_lets +onlyGivenNames x3
  have hx3 : Kept s_a x3 := by
    subst x3
    refine Kept.ite ?_ ?_
    · refine Kept.seq (State.setBy_kept ..) ?_
      exact hx2
    · exact hx2
  clear_value x3
  refine Kept.seq (State.setMonUnit_kept ..) ?_
  exact hx3

theorem State.monClear_kept (s_a u_a) : Kept s_a (State.monClear s_a u_a) := by
  unfold State.monClear
  refine Kept.seq (State.toDefault_kept ..) ?_
  refine Kept.seq (State.monRestart_kept ..) ?_
  exact Kept.refl _

theorem State.monWritten_kept (s_a index_a u_a) : Kept s_a (State.monWritten s_a index_a u_a) := by
  unfold State.monWritten
  refine Kept.ite ?_ ?_
  · refine Kept.seq (State.setMonUnit_kept ..) ?_
    exact Kept.refl _
  · refine Kept.ite ?_ ?_
    · exact Kept.refl _
    · refine Kept.seq (State.monRestart_kept ..) ?_
      exact Kept.refl _

theorem execMonSample_kept (dt_a unit_a value_a s_a) : KeptR s_a (execMonSample dt_a unit_a value_a s_a) := by
  unfold execMonSample
  refine actIf_kept (hk3 := fun u1 => ?_) ..
  split
  · exact Kept.refl _
  · extract_lets +onlyGivenNames x2
    have hx2 : Kept u1 x2 := by
      subst x2
      refine Kept.seq (State.capture_kept ..) ?_
      exact Kept.refl _
    clear_value x2
    extract_lets +onlyGivenNames x3
    refine Kept.ite ?_ ?_
    · refine Kept.seq (State.raise_kept ..) ?_
      refine Kept.seq (State.setMonUnit_kept ..) ?_
      exact hx2
    · exact hx2

theorem execMonPeriod_kept (dt_a unit_a s_a) : KeptR s_a (execMonPeriod dt_a unit_a s_a) := by
  unfold execMonPeriod
  refine actIf_kept (hk3 := fun u1 => ?_) ..
  extract_lets +onlyGivenNames x2
  extract_lets +onlyGivenNames x3
  have hx3 : Kept u1 x3 := by
    subst x3
    refine Kept.seq (State.setBy_kept ..) ?_
    exact Kept.refl _
  clear_value x3
  extract_lets +onlyGivenNames x4
  extract_lets +onlyGivenNames x5
  have hx5 : Kept u1 x5 := by
    subst x5
    refine Kept.seq (Kept.upd (s := x3) rfl rfl rfl rfl rfl rfl rfl rfl rfl rfl rfl) ?_
    exact hx3
  clear_value x5
  extract_lets +onlyGivenNames x6
  have hx6 : Kept u1 x6 := by
    subst x6
    refine Kept.seq (State.setBy_kept ..) ?_
    exact hx5
  clear_value x6
  refine Kept.seq (State.raise_kept ..) ?_
  refine Kept.seq (State.setMonUnit_kept ..) ?_
  exact hx6

theorem State.evPop_kept (s : State) : Kept s s.evPop := by
  unfold State.evPop
  split
  · exact Kept.refl s
  · rename_i r l h
    extract_lets +onlyGivenNames drops e1 e2 t n
    have ht : Kept s t := Kept.less rfl rfl rfl rfl rfl rfl rfl (by rw [h]; exact Nat.le_succ _) (Nat.le_refl _)
      (Nat.le_refl _) (Nat.le_refl _)
    clear_value t
    exact Kept.ite ((State.raise_kept ..).seq (Kept.seq (t := t) (Kept.upd rfl rfl rfl rfl rfl rfl rfl rfl rfl rfl rfl) ht)) ht

theorem execEvtPop_kept (dt_a _value_a s_a) : KeptR s_a (execEvtPop dt_a _value_a s_a) := by
  unfold execEvtPop
  refine act_kept (hk2 := fun u1 => ?_) ..
  refine Kept.seq (State.evPop_kept ..) ?_
  exact Kept.refl _

theorem State.evSwraise_kept (s_a value_a) : Kept s_a (State.evSwraise s_a value_a) := by
  unfold State.evSwraise
  extract_lets +onlyGivenNames x1
  refine Kept.ite ?_ ?_
  · refine Kept.seq (State.raise_kept ..) ?_
    exact Kept.refl _
  · refine Kept.seq (State.setRegBit_kept ..) ?_
    exact Kept.refl _

theorem execEvtSwraise_kept (dt_a value_a s_a) : KeptR s_a (execEvtSwraise dt_a value_a s_a) := by
  unfold execEvtSwraise
  refine act_kept (hk2 := fun u1 => ?_) ..
  refine Kept.seq (State.evSwraise_kept ..) ?_
  exact Kept.refl _

theorem State.evAckPin_kept (s_a n_a) : Kept s_a (State.evAckPin s_a n_a) := by
  unfold State.evAckPin
  refine Kept.seq (State.setEvPin_kept ..) ?_
  exact Kept.refl _

theorem State.evPinAck_kept (s_a value_a) : Kept s_a (State.evPinAck s_a value_a) := by
  unfold State.evPinAck
  refine Kept.foldl (fun u1 x2 => ?_) ?_
  · refine Kept.ite ?_ ?_
    · exact Kept.refl _
    · refine Kept.ite ?_ ?_
      · refine Kept.seq (State.evAckPin_kept ..) ?_
        exact Kept.refl _
      · refine Kept.seq (State.setEvPin_kept ..) ?_
        exact Kept.refl _
  · exact Kept.refl _

theorem execEvtPinAck_kept (dt_a value_a s_a) : KeptR s_a (execEvtPinAck dt_a value_a s_a) := by
  unfold execEvtPinAck
  refine act_kept (hk2 := fun u1 => ?_) ..
  refine Kept.seq (State.evPinAck_kept ..) ?_
  exact Kept.refl _

theorem execEvtPulseEnd_kept (dt_a pin_a s_a) : KeptR s_a (execEvtPulseEnd dt_a pin_a s_a) := by
  unfold execEvtPulseEnd
  refine actIf_kept (hk3 := fun u1 => ?_) ..
  refine Kept.seq (State.setEvPin_kept ..) ?_
  exact Kept.refl _

theorem State.copyPinMap_kept (s_a source_a) : Kept s_a (State.copyPinMap s_a source_a) := by
  unfold State.copyPinMap
  refine Kept.seq (State.setRegField_kept ..) ?_
  exact Kept.refl _

theorem State.copyPinMode_kept (s_a pin_a) : Kept s_a (State.copyPinMode s_a pin_a) := by
  unfold State.copyPinMode
  refine Kept.seq (State.setRegField_kept ..) ?_
  exact Kept.refl _

theorem State.clearRegs_kept (s_a addr_a value_a) : Kept s_a (State.clearRegs s_a addr_a value_a) := by
  unfold State.clearRegs
  refine Kept.ite ?_ ?_
  · refine Kept.foldl (fun u1 x2 => ?_) ?_
    · refine Kept.seq (State.setRegN_kept ..) ?_
      exact Kept.refl _
    · exact Kept.refl _
  · exact Kept.refl _

theorem execRegCounterClear_kept (dt_a addr_a value_a s_a) : KeptR s_a (execRegCounterClear dt_a addr_a value_a s_a) := by
  unfold execRegCounterClear
  refine act_kept (hk2 := fun u1 => ?_) ..
  refine Kept.seq (State.clearRegs_kept ..) ?_
  exact Kept.refl _

theorem State.latencyClear_kept (s_a d_a) : Kept s_a (State.latencyClear s_a d_a) := by
  unfold State.latencyClear
  refine Kept.seq (State.toDefault_kept ..) ?_
  refine Kept.seq (State.toDefault_kept ..) ?_
  exact Kept.refl _

end Sys2Proof.Machine
end

