-- ==== Sys2Proof/Laws/KeptCornice.lean ====
section
/-!
SUPPORT. That the functions of Machine/Cornice.lean keep the queue, never turn time back and keep a sound state sound
(`Kept` of Laws/Kept.lean).
-/
namespace Sys2Proof.Machine

theorem State.setStrip_kept (s_a ch_a x_a) : Kept s_a (State.setStrip s_a ch_a x_a) := by
  unfold State.setStrip
  exact Kept.upd rfl rfl rfl rfl rfl rfl rfl rfl rfl rfl rfl

theorem State.setBus_kept (s_a m_a x_a) : Kept s_a (State.setBus s_a m_a x_a) := by
  unfold State.setBus
  exact Kept.upd rfl rfl rfl rfl rfl rfl rfl rfl rfl rfl rfl

theorem State.setAout_kept (s_a ch_a x_a) : Kept s_a (State.setAout s_a ch_a x_a) := by
  unfold State.setAout
  exact Kept.upd rfl rfl rfl rfl rfl rfl rfl rfl rfl rfl rfl

theorem State.setInLatency_kept (s_a chs_a v_a) : Kept s_a (State.setInLatency s_a chs_a v_a) := by
  unfold State.setInLatency
  refine Kept.foldl (fun u1 x2 => ?_) ?_
  · refine Kept.seq (State.setStrip_kept ..) ?_
    exact Kept.refl _
  · exact Kept.refl _

theorem State.queueWords_kept (s_a ch_a ws_a) : Kept s_a (State.queueWords s_a ch_a ws_a) := by
  unfold State.queueWords
  refine Kept.ite ?_ ?_
  · refine Kept.seq (State.setStrip_kept ..) ?_
    exact Kept.refl _
  · exact Kept.refl _

theorem State.queueFrames_kept (s_a base_a channels_a ws_a side_a) : Kept s_a (State.queueFrames s_a base_a channels_a ws_a side_a) := by
  unfold State.queueFrames
  refine Kept.foldl (fun u1 x2 => ?_) ?_
  · refine Kept.seq (State.queueWords_kept ..) ?_
    exact Kept.refl _
  · exact Kept.refl _

theorem State.setNonAudio_kept (s : State) (base : Nat) (l : List Bool) : Kept s (s.setNonAudio base l) := by
  induction l generalizing s base with
  | nil => exact Kept.refl s
  | cons b l ih => exact (ih _ _).seq ((State.setB_kept ..).seq (State.setB_kept ..))

theorem State.tapObjects_kept (s_a ch_a) : Kept s_a (State.tapObjects s_a ch_a) := by
  unfold State.tapObjects
  extract_lets +onlyGivenNames x1
  extract_lets +onlyGivenNames x2
  have hx2 : Kept s_a x2 := by
    subst x2
    refine Kept.seq (State.setN_kept ..) ?_
    exact Kept.refl _
  clear_value x2
  refine Kept.ite ?_ ?_
  · exact hx2
  · refine Kept.seq (State.setN_kept ..) ?_
    exact hx2

theorem State.deferred_kept (s_a ch_a waits_a) : Kept s_a (State.deferred s_a ch_a waits_a) := by
  unfold State.deferred
  refine Kept.ite ?_ ?_
  · exact Kept.refl _
  · refine Kept.seq (State.raiseLimited_kept ..) ?_
    refine Kept.seq (State.bump_kept ..) ?_
    exact Kept.refl _

theorem State.beginTap_kept (s_a ch_a) : Kept s_a (State.beginTap s_a ch_a) := by
  unfold State.beginTap
  extract_lets +onlyGivenNames x1
  refine Kept.seq (State.deferred_kept ..) ?_
  refine Kept.seq (State.tapObjects_kept ..) ?_
  refine Kept.seq (State.setAout_kept ..) ?_
  exact Kept.refl _

theorem State.checkPath_kept (s_a ch_a) : Kept s_a (State.checkPath s_a ch_a) := by
  unfold State.checkPath
  extract_lets +onlyGivenNames x1
  extract_lets +onlyGivenNames x2
  extract_lets +onlyGivenNames x3
  extract_lets +onlyGivenNames x4
  refine Kept.ite ?_ ?_
  · refine Kept.ite ?_ ?_
    · exact Kept.refl _
    · refine Kept.seq (State.setAout_kept ..) ?_
      exact Kept.refl _
  · extract_lets +onlyGivenNames x5
    extract_lets +onlyGivenNames x6
    have hx6 : Kept s_a x6 := by
      subst x6
      refine Kept.seq (State.raise_kept ..) ?_
      exact Kept.refl _
    clear_value x6
    refine Kept.seq (State.setAout_kept ..) ?_
    exact hx6

theorem State.setBind_kept (s_a ch_a st_a) : Kept s_a (State.setBind s_a ch_a st_a) := by
  unfold State.setBind
  extract_lets +onlyGivenNames x1
  extract_lets +onlyGivenNames x2
  have hx2 : Kept s_a x2 := by
    subst x2
    refine Kept.seq (State.setN_kept ..) ?_
    exact Kept.refl _
  clear_value x2
  refine Kept.ite ?_ ?_
  · exact hx2
  · split
    · refine Kept.seq (State.raise_kept ..) ?_
      exact hx2
    · refine Kept.seq (State.raise_kept ..) ?_
      exact hx2
    · refine Kept.seq (State.raise_kept ..) ?_
      exact hx2
    · exact hx2

theorem State.bindMark_kept (s_a ch_a emission_a lost_a noRoute_a v_a) : Kept s_a (State.bindMark s_a ch_a emission_a lost_a noRoute_a v_a) := by
  unfold State.bindMark
  extract_lets +onlyGivenNames x1
  extract_lets +onlyGivenNames x2
  extract_lets +onlyGivenNames x3
  extract_lets +onlyGivenNames x4
  extract_lets +onlyGivenNames x5
  extract_lets +onlyGivenNames x6
  extract_lets +onlyGivenNames x7
  extract_lets +onlyGivenNames x8
  extract_lets +onlyGivenNames x9
  extract_lets +onlyGivenNames x10
  split
  extract_lets +onlyGivenNames x11
  extract_lets +onlyGivenNames x12
  extract_lets +onlyGivenNames x13
  have hx13 : Kept s_a x13 := by
    subst x13
    refine Kept.seq (State.setBind_kept ..) ?_
    exact Kept.refl _
  clear_value x13
  extract_lets +onlyGivenNames x14
  have hx14 : Kept s_a x14 := by
    subst x14
    refine Kept.ite ?_ ?_
    · exact hx13
    · refine Kept.seq (State.setI_kept ..) ?_
      exact hx13
  clear_value x14
  extract_lets +onlyGivenNames x15
  extract_lets +onlyGivenNames x16
  have hx16 : Kept s_a x16 := by
    subst x16
    refine Kept.seq (State.setAout_kept ..) ?_
    exact hx14
  clear_value x16
  refine Kept.ite ?_ ?_
  · refine Kept.seq (State.setAout_kept ..) ?_
    exact hx16
  · exact hx16

theorem State.videoMark_kept (s_a d_a emission_a) : Kept s_a (State.videoMark s_a d_a emission_a) := by
  unfold State.videoMark
  split
  · exact Kept.refl _
  · refine Kept.foldl (fun u1 x2 => ?_) ?_
    · refine Kept.seq (State.bindMark_kept ..) ?_
      exact Kept.refl _
    · exact Kept.refl _

theorem State.emitFrame_kept (s_a d_a code_a emission_a) : Kept s_a (State.emitFrame s_a d_a code_a emission_a) := by
  unfold State.emitFrame
  refine Kept.ite ?_ ?_
  · exact Kept.refl _
  · refine Kept.seq (State.videoMark_kept ..) ?_
    refine Kept.seq (State.emitLedger_kept ..) ?_
    exact Kept.refl _

theorem State.stripBlock_kept (s_a ch_a words_a side_a) : Kept s_a (State.stripBlock s_a ch_a words_a side_a) := by
  unfold State.stripBlock
  extract_lets +onlyGivenNames x1
  extract_lets +onlyGivenNames x2
  extract_lets +onlyGivenNames x3
  extract_lets +onlyGivenNames x4
  extract_lets +onlyGivenNames x5
  extract_lets +onlyGivenNames x6
  extract_lets +onlyGivenNames x7
  split
  extract_lets +onlyGivenNames x8
  extract_lets +onlyGivenNames x9
  extract_lets +onlyGivenNames x10
  extract_lets +onlyGivenNames x11
  extract_lets +onlyGivenNames x12
  extract_lets +onlyGivenNames x13
  refine Kept.seq (State.setStrip_kept ..) ?_
  exact Kept.refl _

theorem State.muteEvent_kept (s_a was_a is_a subject_a) : Kept s_a (State.muteEvent s_a was_a is_a subject_a) := by
  unfold State.muteEvent
  refine Kept.ite ?_ ?_
  · refine Kept.seq (State.raise_kept ..) ?_
    exact Kept.refl _
  · exact Kept.refl _

theorem State.busBlock_kept (s_a m_a) : Kept s_a (State.busBlock s_a m_a) := by
  unfold State.busBlock
  extract_lets +onlyGivenNames x1
  extract_lets +onlyGivenNames x2
  extract_lets +onlyGivenNames x3
  extract_lets +onlyGivenNames x4
  extract_lets +onlyGivenNames x5
  extract_lets +onlyGivenNames x6
  extract_lets +onlyGivenNames x7
  extract_lets +onlyGivenNames x8
  extract_lets +onlyGivenNames x9
  extract_lets +onlyGivenNames x10
  extract_lets +onlyGivenNames x11
  extract_lets +onlyGivenNames x12
  extract_lets +onlyGivenNames x13
  extract_lets +onlyGivenNames x14
  have hx14 : Kept s_a x14 := by
    subst x14
    refine Kept.seq (State.setBus_kept ..) ?_
    exact Kept.refl _
  clear_value x14
  extract_lets +onlyGivenNames x15
  have hx15 : Kept s_a x15 := by
    subst x15
    refine Kept.seq (State.muteEvent_kept ..) ?_
    exact hx14
  clear_value x15
  refine Kept.ite ?_ ?_
  · exact hx15
  · refine Kept.seq (State.raiseLimited_kept ..) ?_
    refine Kept.seq (State.bump_kept ..) ?_
    exact hx15

theorem State.sendWords_kept (s_a ch_a r_a next_a ws_a) : Kept s_a (State.sendWords s_a ch_a r_a next_a ws_a) := by
  unfold State.sendWords
  refine Kept.seq (State.emit_kept ..) ?_
  refine Kept.seq (State.setAout_kept ..) ?_
  exact Kept.refl _

theorem State.drawn_kept (s_a n_a) : Kept s_a (State.drawn s_a n_a) :=
  ⟨rfl, Nat.le_add_right _ _, Nat.le_refl _, id⟩

theorem State.serveReader_kept (s_a ch_a r_a target_a ws_a) : Kept s_a (State.serveReader s_a ch_a r_a target_a ws_a) := by
  unfold State.serveReader
  extract_lets +onlyGivenNames x1
  refine Kept.ite ?_ ?_
  · extract_lets +onlyGivenNames x2
    refine Kept.seq (State.drawn_kept ..) ?_
    refine Kept.seq (State.sendWords_kept ..) ?_
    exact Kept.refl _
  · refine Kept.seq (State.sendWords_kept ..) ?_
    exact Kept.refl _

theorem State.clipped_kept (s_a ch_a clips_a) : Kept s_a (State.clipped s_a ch_a clips_a) := by
  unfold State.clipped
  refine Kept.ite ?_ ?_
  · exact Kept.refl _
  · refine Kept.seq (State.raiseLimited_kept ..) ?_
    refine Kept.seq (State.bump_kept ..) ?_
    exact Kept.refl _

theorem State.runOut_kept (s_a ch_a target_a) : Kept s_a (State.runOut s_a ch_a target_a) := by
  unfold State.runOut
  extract_lets +onlyGivenNames x1
  extract_lets +onlyGivenNames x2
  refine Kept.ite ?_ ?_
  · exact Kept.refl _
  · extract_lets +onlyGivenNames x3
    extract_lets +onlyGivenNames x4
    extract_lets +onlyGivenNames x5
    extract_lets +onlyGivenNames x6
    extract_lets +onlyGivenNames x7
    extract_lets +onlyGivenNames x8
    extract_lets +onlyGivenNames x9
    extract_lets +onlyGivenNames x10
    extract_lets +onlyGivenNames x11
    extract_lets +onlyGivenNames x12
    have hx12 : Kept s_a x12 := by
      subst x12
      refine Kept.seq (State.setAout_kept ..) ?_
      exact Kept.refl _
    clear_value x12
    extract_lets +onlyGivenNames x13
    have hx13 : Kept s_a x13 := by
      subst x13
      refine Kept.foldl (fun u14 x15 => ?_) ?_
      · refine Kept.seq (State.serveReader_kept ..) ?_
        exact Kept.refl _
      · exact hx12
    clear_value x13
    extract_lets +onlyGivenNames x16
    have hx16 : Kept s_a x16 := by
      subst x16
      refine Kept.seq (State.muteEvent_kept ..) ?_
      refine Kept.seq (State.deferred_kept ..) ?_
      refine Kept.seq (State.tapObjects_kept ..) ?_
      exact hx13
    clear_value x16
    refine Kept.seq (State.clipped_kept ..) ?_
    exact hx16

theorem execTapChangeStart_kept (dt_a output_a s_a) : KeptR s_a (execTapChangeStart dt_a output_a s_a) := by
  unfold execTapChangeStart
  refine actIf_kept (hk3 := fun u1 => ?_) ..
  extract_lets +onlyGivenNames x2
  refine Kept.seq (State.beginTap_kept ..) ?_
  refine Kept.seq (State.runOut_kept ..) ?_
  exact Kept.refl _

theorem State.endFade_kept (s_a ch_a) : Kept s_a (State.endFade s_a ch_a) := by
  unfold State.endFade
  extract_lets +onlyGivenNames x1
  refine Kept.ite ?_ ?_
  · exact Kept.refl _
  · split
    · refine Kept.seq (State.tapObjects_kept ..) ?_
      refine Kept.seq (State.setAout_kept ..) ?_
      exact Kept.refl _
    · refine Kept.seq (State.setAout_kept ..) ?_
      exact Kept.refl _

theorem execCrossfadeEnd_kept (dt_a output_a s_a) : KeptR s_a (execCrossfadeEnd dt_a output_a s_a) := by
  unfold execCrossfadeEnd
  refine actIf_kept (hk3 := fun u1 => ?_) ..
  extract_lets +onlyGivenNames x2
  refine Kept.seq (State.endFade_kept ..) ?_
  refine Kept.seq (State.runOut_kept ..) ?_
  exact Kept.refl _

theorem State.outBlock_kept (s_a ch_a) : Kept s_a (State.outBlock s_a ch_a) := by
  unfold State.outBlock
  refine Kept.seq (State.runOut_kept ..) ?_
  refine Kept.seq (State.checkPath_kept ..) ?_
  exact Kept.refl _

theorem State.inputBlock_kept (s_a given_a ch_a) : Kept s_a (State.inputBlock s_a given_a ch_a) := by
  unfold State.inputBlock
  extract_lets +onlyGivenNames x1
  extract_lets +onlyGivenNames x2
  extract_lets +onlyGivenNames x3
  extract_lets +onlyGivenNames x4
  extract_lets +onlyGivenNames x5
  refine Kept.seq (State.stripBlock_kept ..) ?_
  refine Kept.seq (State.setStrip_kept ..) ?_
  exact Kept.refl _

theorem State.setBlock_kept (s_a n_a) : Kept s_a (State.setBlock s_a n_a) := by
  unfold State.setBlock
  exact Kept.upd rfl rfl rfl rfl rfl rfl rfl rfl rfl rfl rfl

theorem execCorniceBlock_kept (dt_a inputs_a s_a) : KeptR s_a (execCorniceBlock dt_a inputs_a s_a) := by
  unfold execCorniceBlock
  refine actIf_kept (hk3 := fun u1 => ?_) ..
  extract_lets +onlyGivenNames x2
  have hx2 : Kept u1 x2 := by
    subst x2
    refine Kept.seq (State.setBlock_kept ..) ?_
    exact Kept.refl _
  clear_value x2
  extract_lets +onlyGivenNames x3
  extract_lets +onlyGivenNames x4
  extract_lets +onlyGivenNames x5
  have hx5 : Kept u1 x5 := by
    subst x5
    refine Kept.foldl (fun u6 x7 => ?_) ?_
    · refine Kept.seq (State.inputBlock_kept ..) ?_
      exact Kept.refl _
    · exact hx2
  clear_value x5
  extract_lets +onlyGivenNames x8
  extract_lets +onlyGivenNames x9
  have hx9 : Kept u1 x9 := by
    subst x9
    refine Kept.foldl (fun u10 x11 => ?_) ?_
    · refine Kept.seq (State.busBlock_kept ..) ?_
      exact Kept.refl _
    · exact hx5
  clear_value x9
  extract_lets +onlyGivenNames x12
  refine Kept.foldl (fun u13 x14 => ?_) ?_
  · refine Kept.seq (State.outBlock_kept ..) ?_
    exact Kept.refl _
  · exact hx9

theorem State.setConverter_kept (s_a ch_a st_a) : Kept s_a (State.setConverter s_a ch_a st_a) := by
  unfold State.setConverter
  refine Kept.ite ?_ ?_
  · exact Kept.refl _
  · refine Kept.ite ?_ ?_
    · refine Kept.seq (State.setN_kept ..) ?_
      exact Kept.refl _
    · refine Kept.seq (State.raise_kept ..) ?_
      refine Kept.seq (State.setN_kept ..) ?_
      exact Kept.refl _

theorem execAuInputRate_kept (dt_a channel_a ppb_a s_a) : KeptR s_a (execAuInputRate dt_a channel_a ppb_a s_a) := by
  unfold execAuInputRate
  refine actIf_kept (hk3 := fun u1 => ?_) ..
  extract_lets +onlyGivenNames x2
  extract_lets +onlyGivenNames x3
  have hx3 : Kept u1 x3 := by
    subst x3
    refine Kept.seq (State.setI_kept ..) ?_
    refine Kept.seq (State.setStrip_kept ..) ?_
    exact Kept.refl _
  clear_value x3
  refine Kept.seq (State.setConverter_kept ..) ?_
  exact hx3

theorem State.reportLatency_kept (s_a ch_a) : Kept s_a (State.reportLatency s_a ch_a) := by
  unfold State.reportLatency
  split
  · exact Kept.refl _
  · extract_lets +onlyGivenNames x1
    extract_lets +onlyGivenNames x2
    have hx2 : Kept s_a x2 := by
      subst x2
      refine Kept.seq (State.setAout_kept ..) ?_
      exact Kept.refl _
    clear_value x2
    split
    rename_i v3 t4 e5
    have ht4 : Kept s_a t4 := by
      refine Kept.snd e5 ?_
      split
      · refine Kept.mk2 ?_
        exact hx2
      · refine Kept.seq (State.draw_kept ..) ?_
        exact hx2
    refine Kept.seq (State.setN_kept ..) ?_
    refine Kept.seq (State.setN_kept ..) ?_
    exact ht4

theorem execMeterPeriod_kept (dt_a s_a) : KeptR s_a (execMeterPeriod dt_a s_a) := by
  unfold execMeterPeriod
  refine actIf_kept (hk3 := fun u1 => ?_) ..
  extract_lets +onlyGivenNames x2
  extract_lets +onlyGivenNames x3
  have hx3 : Kept u1 x3 := by
    subst x3
    refine Kept.foldl (fun u4 x5 => ?_) ?_
    · extract_lets +onlyGivenNames x6
      extract_lets +onlyGivenNames x7
      refine Kept.seq (State.setI_kept ..) ?_
      refine Kept.seq (State.setI_kept ..) ?_
      refine Kept.seq (State.setStrip_kept ..) ?_
      exact Kept.refl _
    · exact Kept.refl _
  clear_value x3
  extract_lets +onlyGivenNames x8
  have hx8 : Kept u1 x8 := by
    subst x8
    refine Kept.foldl (fun u9 x10 => ?_) ?_
    · extract_lets +onlyGivenNames x11
      extract_lets +onlyGivenNames x12
      refine Kept.seq (State.setI_kept ..) ?_
      refine Kept.seq (State.setI_kept ..) ?_
      refine Kept.seq (State.setI_kept ..) ?_
      refine Kept.seq (State.setBus_kept ..) ?_
      exact Kept.refl _
    · exact hx3
  clear_value x8
  refine Kept.foldl (fun u13 x14 => ?_) ?_
  · extract_lets +onlyGivenNames x15
    extract_lets +onlyGivenNames x16
    extract_lets +onlyGivenNames x17
    extract_lets +onlyGivenNames x18
    extract_lets +onlyGivenNames x19
    have hx19 : Kept u13 x19 := by
      subst x19
      refine Kept.seq (State.setI_kept ..) ?_
      refine Kept.seq (State.setI_kept ..) ?_
      refine Kept.seq (State.setI_kept ..) ?_
      refine Kept.seq (State.setAout_kept ..) ?_
      exact Kept.refl _
    clear_value x19
    refine Kept.seq (State.reportLatency_kept ..) ?_
    exact hx19
  · exact hx8

theorem execLoudnessUpdate_kept (dt_a group_a s_a) : KeptR s_a (execLoudnessUpdate dt_a group_a s_a) := by
  unfold execLoudnessUpdate
  refine actIf_kept (hk3 := fun u1 => ?_) ..
  extract_lets +onlyGivenNames x2
  extract_lets +onlyGivenNames x3
  extract_lets +onlyGivenNames x4
  extract_lets +onlyGivenNames x5
  have hx5 : Kept u1 x5 := by
    subst x5
    refine Kept.seq (State.setI_kept ..) ?_
    exact Kept.refl _
  clear_value x5
  extract_lets +onlyGivenNames x6
  have hx6 : Kept u1 x6 := by
    subst x6
    refine Kept.seq (State.setI_kept ..) ?_
    exact hx5
  clear_value x6
  extract_lets +onlyGivenNames x7
  extract_lets +onlyGivenNames x8
  refine Kept.ite ?_ ?_
  · refine Kept.ite ?_ ?_
    · exact hx6
    · refine Kept.seq (State.raise_kept ..) ?_
      refine Kept.seq (Kept.upd (s := x6) rfl rfl rfl rfl rfl rfl rfl rfl rfl rfl rfl) ?_
      exact hx6
  · refine Kept.ite ?_ ?_
    · refine Kept.seq (Kept.upd (s := x6) rfl rfl rfl rfl rfl rfl rfl rfl rfl rfl rfl) ?_
      exact hx6
    · exact hx6

theorem State.refreshInputs_kept (s_a old_a) : Kept s_a (State.refreshInputs s_a old_a) := by
  unfold State.refreshInputs
  extract_lets +onlyGivenNames x1
  refine Kept.foldl (fun u2 x3 => ?_) ?_
  · extract_lets +onlyGivenNames x4
    extract_lets +onlyGivenNames x5
    refine Kept.ite ?_ ?_
    · exact Kept.refl _
    · extract_lets +onlyGivenNames x6
      have hx6 : Kept u2 x6 := by
        subst x6
        refine Kept.seq (State.setN_kept ..) ?_
        refine Kept.seq (State.setN_kept ..) ?_
        exact Kept.refl _
      clear_value x6
      extract_lets +onlyGivenNames x7
      have hx7 : Kept u2 x7 := by
        subst x7
        refine Kept.seq (State.toDefault_kept ..) ?_
        refine Kept.seq (State.setConverter_kept ..) ?_
        exact hx6
      clear_value x7
      refine Kept.seq (State.setStrip_kept ..) ?_
      refine Kept.seq (State.toDefault_kept ..) ?_
      exact hx7
  · exact Kept.refl _

theorem State.corniceCommit_kept (s_a old_a boundary_a) : Kept s_a (State.corniceCommit s_a old_a boundary_a) := by
  unfold State.corniceCommit
  extract_lets +onlyGivenNames x1
  have hx1 : Kept s_a x1 := by
    subst x1
    refine Kept.seq (State.refreshInputs_kept ..) ?_
    exact Kept.refl _
  clear_value x1
  extract_lets +onlyGivenNames x2
  refine Kept.foldl (fun u3 x4 => ?_) ?_
  · extract_lets +onlyGivenNames x5
    extract_lets +onlyGivenNames x6
    extract_lets +onlyGivenNames x7
    refine Kept.ite ?_ ?_
    · extract_lets +onlyGivenNames x8
      have hx8 : Kept u3 x8 := by
        subst x8
        refine Kept.ite ?_ ?_
        · refine Kept.seq (State.setN_kept ..) ?_
          exact Kept.refl _
        · exact Kept.refl _
      clear_value x8
      refine Kept.seq (State.setAout_kept ..) ?_
      exact hx8
    · extract_lets +onlyGivenNames x9
      have hx9 : Kept u3 x9 := by
        subst x9
        refine Kept.ite ?_ ?_
        · refine Kept.seq (State.toDefault_kept ..) ?_
          refine Kept.seq (State.setN_kept ..) ?_
          refine Kept.seq (State.setN_kept ..) ?_
          exact Kept.refl _
        · exact Kept.refl _
      clear_value x9
      refine Kept.seq (State.setAout_kept ..) ?_
      exact hx9
  · exact hx1

end Sys2Proof.Machine
end

