-- ==== Sys2Proof/Laws/KeptMoraine.lean ====
section
/-!
SUPPORT. That the functions of Machine/Moraine.lean keep the queue, never turn time back and keep a sound state sound
(`Kept` of Laws/Kept.lean).
-/
namespace Sys2Proof.Machine

theorem State.setDrive_kept (s_a d_a x_a) : Kept s_a (State.setDrive s_a d_a x_a) := by
  unfold State.setDrive
  exact Kept.upd rfl rfl rfl rfl rfl rfl rfl rfl rfl rfl rfl

theorem State.setClip_kept (s_a c_a x_a) : Kept s_a (State.setClip s_a c_a x_a) := by
  unfold State.setClip
  exact Kept.upd rfl rfl rfl rfl rfl rfl rfl rfl rfl rfl rfl

theorem State.setLine_kept (s_a l_a x_a) : Kept s_a (State.setLine s_a l_a x_a) := by
  unfold State.setLine
  refine Kept.seq (State.setN_kept ..) ?_
  exact Kept.upd rfl rfl rfl rfl rfl rfl rfl rfl rfl rfl rfl

theorem State.setRecorder_kept (s_a r_a x_a) : Kept s_a (State.setRecorder s_a r_a x_a) := by
  unfold State.setRecorder
  exact Kept.upd rfl rfl rfl rfl rfl rfl rfl rfl rfl rfl rfl

theorem State.setPlayer_kept (s_a p_a x_a) : Kept s_a (State.setPlayer s_a p_a x_a) := by
  unfold State.setPlayer
  exact Kept.upd rfl rfl rfl rfl rfl rfl rfl rfl rfl rfl rfl

theorem State.morLate_kept (s_a stream_a) : Kept s_a (State.morLate s_a stream_a) := by
  unfold State.morLate
  refine Kept.seq (State.raiseLimited_kept ..) ?_
  exact Kept.refl _

theorem State.mediaError_kept (s_a d_a) : Kept s_a (State.mediaError s_a d_a) := by
  unfold State.mediaError
  refine Kept.seq (State.raiseLimited_kept ..) ?_
  refine Kept.seq (State.bump_kept ..) ?_
  exact Kept.refl _

theorem State.endRecord_kept (s_a r_a state_a) : Kept s_a (State.endRecord s_a r_a state_a) := by
  unfold State.endRecord
  extract_lets +onlyGivenNames x1
  extract_lets +onlyGivenNames x2
  extract_lets +onlyGivenNames x3
  have hx3 : Kept s_a x3 := by
    subst x3
    refine Kept.seq (State.setClip_kept ..) ?_
    exact Kept.refl _
  clear_value x3
  refine Kept.seq (State.raise_kept ..) ?_
  refine Kept.seq (State.setN_kept ..) ?_
  refine Kept.seq (State.setRecorder_kept ..) ?_
  exact hx3

theorem State.drainRecord_kept (s_a r_a) : Kept s_a (State.drainRecord s_a r_a) := by
  unfold State.drainRecord
  extract_lets +onlyGivenNames x1
  extract_lets +onlyGivenNames x2
  extract_lets +onlyGivenNames x3
  extract_lets +onlyGivenNames x4
  have hx4 : Kept s_a x4 := by
    subst x4
    refine Kept.seq (State.setRecorder_kept ..) ?_
    refine Kept.seq (State.setClip_kept ..) ?_
    exact Kept.refl _
  clear_value x4
  refine Kept.ite ?_ ?_
  · refine Kept.seq (State.endRecord_kept ..) ?_
    exact hx4
  · exact hx4

theorem State.recordFrame_kept (s_a r_a dst_a align_a) : Kept s_a (State.recordFrame s_a r_a dst_a align_a) := by
  unfold State.recordFrame
  extract_lets +onlyGivenNames x1
  refine Kept.ite ?_ ?_
  · exact Kept.refl _
  · split
    · exact Kept.refl _
    · extract_lets +onlyGivenNames x2
      extract_lets +onlyGivenNames x3
      extract_lets +onlyGivenNames x4
      have hx4 : Kept s_a x4 := by
        subst x4
        refine Kept.ite ?_ ?_
        · refine Kept.seq (State.setClip_kept ..) ?_
          exact Kept.refl _
        · exact Kept.refl _
      clear_value x4
      extract_lets +onlyGivenNames x5
      extract_lets +onlyGivenNames x6
      extract_lets +onlyGivenNames x7
      extract_lets +onlyGivenNames x8
      have hx8 : Kept s_a x8 := by
        subst x8
        refine Kept.seq (State.setRecorder_kept ..) ?_
        exact hx4
      clear_value x8
      extract_lets +onlyGivenNames x9
      have hx9 : Kept s_a x9 := by
        subst x9
        refine Kept.ite ?_ ?_
        · refine Kept.seq (State.morLate_kept ..) ?_
          refine Kept.seq (State.bump_kept ..) ?_
          exact hx8
        · exact hx8
      clear_value x9
      refine Kept.seq (State.drainRecord_kept ..) ?_
      exact hx9

theorem State.renewRecord_kept (s_a r_a x_a) : Kept s_a (State.renewRecord s_a r_a x_a) := by
  unfold State.renewRecord
  extract_lets +onlyGivenNames x1
  extract_lets +onlyGivenNames x2
  extract_lets +onlyGivenNames x3
  refine Kept.ite ?_ ?_
  · refine Kept.seq (State.setClip_kept ..) ?_
    refine Kept.seq (State.setRecorder_kept ..) ?_
    exact Kept.refl _
  · exact Kept.refl _

theorem State.recordStored_kept (s_a r_a d_a ok_a) : Kept s_a (State.recordStored s_a r_a d_a ok_a) := by
  unfold State.recordStored
  extract_lets +onlyGivenNames x1
  split
  · extract_lets +onlyGivenNames x2
    extract_lets +onlyGivenNames x3
    have hx3 : Kept s_a x3 := by
      subst x3
      refine Kept.seq (State.setRecorder_kept ..) ?_
      refine Kept.seq (State.setClip_kept ..) ?_
      exact Kept.refl _
    clear_value x3
    extract_lets +onlyGivenNames x4
    have hx4 : Kept s_a x4 := by
      subst x4
      refine Kept.ite ?_ ?_
      · exact hx3
      · refine Kept.seq (State.mediaError_kept ..) ?_
        exact hx3
    clear_value x4
    refine Kept.seq (State.drainRecord_kept ..) ?_
    exact hx4
  · exact Kept.refl _

theorem State.startRecord_kept (s_a r_a boundary_a) : Kept s_a (State.startRecord s_a r_a boundary_a) := by
  unfold State.startRecord
  extract_lets +onlyGivenNames x1
  refine Kept.ite ?_ ?_
  · exact Kept.refl _
  · split
    rename_i v2 t3 e4
    have ht3 := Kept.snd e4 (State.draw_kept ..)
    extract_lets +onlyGivenNames x5
    have hx5 : Kept s_a x5 := by
      subst x5
      refine Kept.seq (State.setClip_kept ..) ?_
      exact ht3
    clear_value x5
    refine Kept.seq (State.setN_kept ..) ?_
    refine Kept.seq (State.setRecorder_kept ..) ?_
    exact hx5

theorem State.stopRecord_kept (s_a r_a) : Kept s_a (State.stopRecord s_a r_a) := by
  unfold State.stopRecord
  extract_lets +onlyGivenNames x1
  refine Kept.ite ?_ ?_
  · refine Kept.seq (State.drainRecord_kept ..) ?_
    refine Kept.seq (State.setRecorder_kept ..) ?_
    exact Kept.refl _
  · exact Kept.refl _

theorem State.delayFrame_kept (s_a l_a dst_a align_a) : Kept s_a (State.delayFrame s_a l_a dst_a align_a) := by
  unfold State.delayFrame
  refine Kept.ite ?_ ?_
  · exact Kept.refl _
  · split
    · exact Kept.refl _
    · extract_lets +onlyGivenNames x1
      extract_lets +onlyGivenNames x2
      refine Kept.ite ?_ ?_
      · refine Kept.seq (State.morLate_kept ..) ?_
        refine Kept.seq (State.bump_kept ..) ?_
        exact Kept.refl _
      · refine Kept.seq (State.setLine_kept ..) ?_
        exact Kept.refl _

theorem State.renewDelay_kept (s_a l_a x_a) : Kept s_a (State.renewDelay s_a l_a x_a) := by
  unfold State.renewDelay
  extract_lets +onlyGivenNames x1
  extract_lets +onlyGivenNames x2
  refine Kept.seq (State.setLine_kept ..) ?_
  exact Kept.refl _

theorem State.renewTx_kept (s_a d_a x_a f_a) : Kept s_a (State.renewTx s_a d_a x_a f_a) := by
  unfold State.renewTx
  refine Kept.foldl (fun u1 x2 => ?_) ?_
  · refine Kept.seq (State.setTxe_kept ..) ?_
    exact Kept.refl _
  · exact Kept.refl _

theorem State.reshow_kept (s_a d_a x_a f_a) : Kept s_a (State.reshow s_a d_a x_a f_a) := by
  unfold State.reshow
  extract_lets +onlyGivenNames x1
  extract_lets +onlyGivenNames x2
  have hx2 : Kept s_a x2 := by
    subst x2
    refine Kept.seq (State.setDst_kept ..) ?_
    exact Kept.refl _
  clear_value x2
  split
  · refine Kept.seq (State.renewRecord_kept ..) ?_
    exact hx2
  · refine Kept.seq (State.renewDelay_kept ..) ?_
    exact hx2
  · refine Kept.seq (State.renewTx_kept ..) ?_
    exact hx2
  · exact hx2

theorem State.repaint_kept (s_a d_a x_a) : Kept s_a (State.repaint s_a d_a x_a) := by
  unfold State.repaint
  extract_lets +onlyGivenNames x1
  have hx1 : Kept s_a x1 := by
    subst x1
    refine Kept.seq (State.reshow_kept ..) ?_
    exact Kept.refl _
  clear_value x1
  split
  · refine Kept.ite ?_ ?_
    · refine Kept.seq (State.emit_kept ..) ?_
      exact hx1
    · exact hx1
  · exact hx1

theorem State.amendPic_kept (s_a slot_a seq_a f_a) : Kept s_a (State.amendPic s_a slot_a seq_a f_a) := by
  unfold State.amendPic
  split
  · exact Kept.refl _
  · refine Kept.ite ?_ ?_
    · exact Kept.refl _
    · extract_lets +onlyGivenNames x1
      have hx1 : Kept s_a x1 := by
        subst x1
        refine Kept.seq (State.setSrc_kept ..) ?_
        exact Kept.refl _
      clear_value x1
      refine Kept.foldl (fun u2 x3 => ?_) ?_
      · split
        · refine Kept.ite ?_ ?_
          · refine Kept.seq (State.repaint_kept ..) ?_
            exact Kept.refl _
          · exact Kept.refl _
        · exact Kept.refl _
      · exact hx1

theorem State.delayStored_kept (s_a l_a k_a d_a ok_a) : Kept s_a (State.delayStored s_a l_a k_a d_a ok_a) := by
  unfold State.delayStored
  extract_lets +onlyGivenNames x1
  split
  · extract_lets +onlyGivenNames x2
    extract_lets +onlyGivenNames x3
    extract_lets +onlyGivenNames x4
    extract_lets +onlyGivenNames x5
    have hx5 : Kept s_a x5 := by
      subst x5
      refine Kept.seq (State.setLine_kept ..) ?_
      exact Kept.refl _
    clear_value x5
    refine Kept.ite ?_ ?_
    · exact hx5
    · refine Kept.seq (State.mediaError_kept ..) ?_
      exact hx5
  · exact Kept.refl _

theorem State.emptyRing_kept (s_a l_a) : Kept s_a (State.emptyRing s_a l_a) := by
  unfold State.emptyRing
  extract_lets +onlyGivenNames x1
  have hx1 : Kept s_a x1 := by
    subst x1
    refine Kept.seq (State.setLine_kept ..) ?_
    exact Kept.refl _
  clear_value x1
  refine Kept.seq (Kept.upd (s := x1) rfl rfl rfl rfl rfl rfl rfl rfl rfl rfl rfl) ?_
  exact hx1

theorem State.poolDown_kept (s_a) : Kept s_a (State.poolDown s_a) := by
  unfold State.poolDown
  extract_lets +onlyGivenNames x1
  extract_lets +onlyGivenNames x2
  have hx2 : Kept s_a x2 := by
    subst x2
    refine Kept.foldl (fun u3 x4 => ?_) ?_
    · refine Kept.seq (State.endRecord_kept ..) ?_
      exact Kept.refl _
    · exact Kept.refl _
  clear_value x2
  extract_lets +onlyGivenNames x5
  have hx5 : Kept s_a x5 := by
    subst x5
    refine Kept.foldl (fun u6 x7 => ?_) ?_
    · refine Kept.seq (State.emptyRing_kept ..) ?_
      exact Kept.refl _
    · exact hx2
  clear_value x5
  extract_lets +onlyGivenNames x8
  extract_lets +onlyGivenNames x9
  have hx9 : Kept s_a x9 := by
    subst x9
    refine Kept.seq (Kept.upd (s := x5) rfl rfl rfl rfl rfl rfl rfl rfl rfl rfl rfl) ?_
    exact hx5
  clear_value x9
  refine Kept.seq (State.refreshSlots_kept ..) ?_
  exact hx9

theorem State.startPlay_kept (s_a p_a boundary_a) : Kept s_a (State.startPlay s_a p_a boundary_a) := by
  unfold State.startPlay
  refine Kept.seq (State.setPlayer_kept ..) ?_
  exact Kept.refl _

theorem State.poolUp_kept (s_a) : Kept s_a (State.poolUp s_a) := by
  unfold State.poolUp
  extract_lets +onlyGivenNames x1
  have hx1 : Kept s_a x1 := by
    subst x1
    refine Kept.seq (State.setN_kept ..) ?_
    exact Kept.refl _
  clear_value x1
  refine Kept.foldl (fun u2 x3 => ?_) ?_
  · refine Kept.seq (State.startPlay_kept ..) ?_
    exact Kept.refl _
  · exact hx1

theorem State.refreshPool_kept (s_a) : Kept s_a (State.refreshPool s_a) := by
  unfold State.refreshPool
  extract_lets +onlyGivenNames x1
  extract_lets +onlyGivenNames x2
  extract_lets +onlyGivenNames x3
  have hx3 : Kept s_a x3 := by
    subst x3
    split
    · refine Kept.ite ?_ ?_
      · refine Kept.seq (State.journal_kept ..) ?_
        exact Kept.upd rfl rfl rfl rfl rfl rfl rfl rfl rfl rfl rfl
      · exact Kept.refl _
    · exact Kept.refl _
  clear_value x3
  extract_lets +onlyGivenNames x4
  refine Kept.ite ?_ ?_
  · exact hx3
  · extract_lets +onlyGivenNames x5
    have hx5 : Kept s_a x5 := by
      subst x5
      refine Kept.seq (State.setN_kept ..) ?_
      exact hx3
    clear_value x5
    extract_lets +onlyGivenNames x6
    have hx6 : Kept s_a x6 := by
      subst x6
      refine Kept.ite ?_ ?_
      · refine Kept.seq (State.poolUp_kept ..) ?_
        exact hx5
      · refine Kept.ite ?_ ?_
        · refine Kept.seq (State.poolDown_kept ..) ?_
          exact hx5
        · exact hx5
    clear_value x6
    refine Kept.seq (State.setReason_kept ..) ?_
    refine Kept.seq (State.raise_kept ..) ?_
    exact hx6

theorem State.journalRestart_kept (s_a cause_a) : Kept s_a (State.journalRestart s_a cause_a) := by
  unfold State.journalRestart
  refine Kept.seq (State.refreshPool_kept ..) ?_
  exact Kept.upd rfl rfl rfl rfl rfl rfl rfl rfl rfl rfl rfl

theorem State.driveLost_kept (s_a d_a) : Kept s_a (State.driveLost s_a d_a) := by
  unfold State.driveLost
  extract_lets +onlyGivenNames x1
  extract_lets +onlyGivenNames x2
  have hx2 : Kept s_a x2 := by
    subst x2
    refine Kept.seq (State.setDrive_kept ..) ?_
    exact Kept.refl _
  clear_value x2
  extract_lets +onlyGivenNames x3
  have hx3 : Kept s_a x3 := by
    subst x3
    refine Kept.seq (State.setN_kept ..) ?_
    refine Kept.seq (State.setN_kept ..) ?_
    exact hx2
  clear_value x3
  extract_lets +onlyGivenNames x4
  have hx4 : Kept s_a x4 := by
    subst x4
    refine Kept.seq (State.raise_kept ..) ?_
    refine Kept.seq (State.emit_kept ..) ?_
    exact hx3
  clear_value x4
  extract_lets +onlyGivenNames x5
  extract_lets +onlyGivenNames x6
  extract_lets +onlyGivenNames x7
  have hx7 : Kept s_a x7 := by
    subst x7
    refine Kept.seq (State.refreshPool_kept ..) ?_
    exact hx4
  clear_value x7
  refine Kept.ite ?_ ?_
  · refine Kept.seq (Kept.upd (s := x7) rfl rfl rfl rfl rfl rfl rfl rfl rfl rfl rfl) ?_
    exact hx7
  · exact hx7

theorem State.formPool_kept (s_a ident_a set_a) : Kept s_a (State.formPool s_a ident_a set_a) := by
  unfold State.formPool
  extract_lets +onlyGivenNames x1
  exact Kept.upd rfl rfl rfl rfl rfl rfl rfl rfl rfl rfl rfl

theorem execMorDriveLost_kept (dt_a drive_a s_a) : KeptR s_a (execMorDriveLost dt_a drive_a s_a) := by
  unfold execMorDriveLost
  refine actIf_kept (hk3 := fun u1 => ?_) ..
  refine Kept.seq (State.driveLost_kept ..) ?_
  exact Kept.refl _

theorem execMorDriveRetry_kept (dt_a drive_a s_a) : KeptR s_a (execMorDriveRetry dt_a drive_a s_a) := by
  unfold execMorDriveRetry
  refine actIf_kept (hk3 := fun u1 => ?_) ..
  extract_lets +onlyGivenNames x2
  refine Kept.ite ?_ ?_
  · refine Kept.ite ?_ ?_
    · refine Kept.seq (State.emit_kept ..) ?_
      refine Kept.seq (State.setDrive_kept ..) ?_
      exact Kept.refl _
    · exact Kept.refl _
  · refine Kept.ite ?_ ?_
    · refine Kept.seq (State.emit_kept ..) ?_
      refine Kept.seq (State.setDrive_kept ..) ?_
      exact Kept.refl _
    · exact Kept.refl _

theorem execMorDriveUp_kept (dt drive rate width capacity : Nat) (nvme : Bool) (label : Option (Nat × List Nat)) (s : State) :
    KeptR s (execMorDriveUp dt drive rate width capacity nvme label s) := by
  unfold execMorDriveUp
  refine actIf_kept (hk3 := fun t => ?_) ..
  extract_lets +onlyGivenNames lost lbl src t1 t2 t3 mine t4 t5 t6
  have h1 : Kept t t1 := State.setDrive_kept ..
  clear_value t1 lbl
  have h2 : Kept t t2 := (State.setN_kept ..).seq ((State.setN_kept ..).seq h1)
  clear_value t2
  have h3 : Kept t t3 := by
    unfold t3
    split
    · exact Kept.ite ((State.formPool_kept ..).seq h2) h2
    · exact h2
  clear_value t3
  have h4 : Kept t t4 := (State.setN_kept ..).seq h3
  clear_value t4
  have h5 : Kept t t5 := Kept.ite h4 ((State.emit_kept ..).seq h4)
  clear_value t5
  exact (State.refreshPool_kept ..).seq (Kept.ite ((State.raise_kept ..).seq h5) h5)

theorem execSmartPoll_kept (dt_a drive_a warning_a used_a s_a) : KeptR s_a (execSmartPoll dt_a drive_a warning_a used_a s_a) := by
  unfold execSmartPoll
  refine actIf_kept (hk3 := fun u1 => ?_) ..
  extract_lets +onlyGivenNames x2
  extract_lets +onlyGivenNames x3
  extract_lets +onlyGivenNames x4
  have hx4 : Kept u1 x4 := by
    subst x4
    refine Kept.seq (State.setN_kept ..) ?_
    refine Kept.seq (State.setDrive_kept ..) ?_
    exact Kept.refl _
  clear_value x4
  refine Kept.ite ?_ ?_
  · refine Kept.seq (State.raise_kept ..) ?_
    exact hx4
  · exact hx4

theorem execNvmeCompletion_kept (dt_a drive_a job_a ok_a s_a) : KeptR s_a (execNvmeCompletion dt_a drive_a job_a ok_a s_a) := by
  unfold execNvmeCompletion
  refine actIf_kept (hk3 := fun u1 => ?_) ..
  split
  · refine Kept.seq (State.recordStored_kept ..) ?_
    exact Kept.refl _
  · refine Kept.seq (State.delayStored_kept ..) ?_
    exact Kept.refl _
  · refine Kept.ite ?_ ?_
    · refine Kept.seq (State.mediaError_kept ..) ?_
      exact Kept.refl _
    · extract_lets +onlyGivenNames x2
      refine Kept.seq (State.setPlayer_kept ..) ?_
      exact Kept.refl _
  · refine Kept.ite ?_ ?_
    · refine Kept.seq (State.mediaError_kept ..) ?_
      exact Kept.refl _
    · extract_lets +onlyGivenNames x3
      refine Kept.ite ?_ ?_
      · refine Kept.seq (State.setLine_kept ..) ?_
        exact Kept.refl _
      · exact Kept.refl _
  · exact Kept.refl _
  · refine Kept.ite ?_ ?_
    · exact Kept.refl _
    · refine Kept.seq (State.driveLost_kept ..) ?_
      exact Kept.refl _

theorem State.writeStored_kept (s_a slot_a k_a w_a kind_a origin_a stages_a pic_a anc_a) : Kept s_a (State.writeStored s_a slot_a k_a w_a kind_a origin_a stages_a pic_a anc_a) := by
  unfold State.writeStored
  extract_lets +onlyGivenNames x1
  extract_lets +onlyGivenNames x2
  have hx2 : Kept s_a x2 := by
    subst x2
    refine Kept.seq (State.startFrame_kept ..) ?_
    refine Kept.seq (State.refreshSlot_kept ..) ?_
    exact Kept.refl _
  clear_value x2
  refine Kept.seq (State.setSrc_kept ..) ?_
  exact hx2

theorem State.playWrite_kept (s_a p_a slot_a k_a w_a m_a) : Kept s_a (State.playWrite s_a p_a slot_a k_a w_a m_a) := by
  unfold State.playWrite
  extract_lets +onlyGivenNames x1
  refine Kept.seq (State.writeStored_kept ..) ?_
  exact Kept.upd rfl rfl rfl rfl rfl rfl rfl rfl rfl rfl rfl

theorem State.playRepeat_kept (s_a p_a slot_a k_a w_a) : Kept s_a (State.playRepeat s_a p_a slot_a k_a w_a) := by
  unfold State.playRepeat
  split
  · refine Kept.seq (State.playWrite_kept ..) ?_
    exact Kept.refl _
  · exact Kept.refl _

theorem State.playFrame_kept (s_a p_a slot_a k_a w_a target_a) : Kept s_a (State.playFrame s_a p_a slot_a k_a w_a target_a) := by
  unfold State.playFrame
  extract_lets +onlyGivenNames x1
  extract_lets +onlyGivenNames x2
  extract_lets +onlyGivenNames x3
  extract_lets +onlyGivenNames x4
  extract_lets +onlyGivenNames x5
  split
  · extract_lets +onlyGivenNames x6
    have hx6 : Kept s_a x6 := by
      subst x6
      refine Kept.seq (State.setPlayer_kept ..) ?_
      exact Kept.refl _
    clear_value x6
    refine Kept.ite ?_ ?_
    · extract_lets +onlyGivenNames x7
      extract_lets +onlyGivenNames x8
      have hx8 : Kept s_a x8 := by
        subst x8
        refine Kept.seq (State.setPlayer_kept ..) ?_
        exact hx6
      clear_value x8
      refine Kept.seq (State.playWrite_kept ..) ?_
      refine Kept.seq (State.setN_kept ..) ?_
      exact hx8
    · refine Kept.seq (State.morLate_kept ..) ?_
      refine Kept.seq (State.bump_kept ..) ?_
      exact hx6
  · refine Kept.seq (State.playRepeat_kept ..) ?_
    refine Kept.seq (State.setPlayer_kept ..) ?_
    exact Kept.refl _
  · extract_lets +onlyGivenNames x9
    have hx9 : Kept s_a x9 := by
      subst x9
      refine Kept.seq (State.setPlayer_kept ..) ?_
      exact Kept.refl _
    clear_value x9
    refine Kept.ite ?_ ?_
    · refine Kept.seq (State.playRepeat_kept ..) ?_
      refine Kept.seq (State.bump_kept ..) ?_
      exact hx9
    · refine Kept.ite ?_ ?_
      · exact hx9
      · extract_lets +onlyGivenNames x10
        extract_lets +onlyGivenNames x11
        have hx11 : Kept s_a x11 := by
          subst x11
          refine Kept.ite ?_ ?_
          · exact hx9
          · refine Kept.seq (State.raise_kept ..) ?_
            refine Kept.seq (State.setPlayer_kept ..) ?_
            exact hx9
        clear_value x11
        refine Kept.seq (State.playRepeat_kept ..) ?_
        exact hx11

theorem execPlaybackFrameWrite_kept (dt_a p_a s_a) : KeptR s_a (execPlaybackFrameWrite dt_a p_a s_a) := by
  unfold execPlaybackFrameWrite
  refine actIf_kept (hk3 := fun u1 => ?_) ..
  extract_lets +onlyGivenNames x2
  extract_lets +onlyGivenNames x3
  extract_lets +onlyGivenNames x4
  refine Kept.ite ?_ ?_
  · exact Kept.refl _
  · extract_lets +onlyGivenNames x5
    extract_lets +onlyGivenNames x6
    extract_lets +onlyGivenNames x7
    have hx7 : Kept u1 x7 := by
      subst x7
      refine Kept.seq (State.setSrc_kept ..) ?_
      exact Kept.refl _
    clear_value x7
    extract_lets +onlyGivenNames x8
    refine Kept.ite ?_ ?_
    · refine Kept.seq (State.playRepeat_kept ..) ?_
      exact hx7
    · split
      · refine Kept.ite ?_ ?_
        · refine Kept.seq (State.playFrame_kept ..) ?_
          exact hx7
        · refine Kept.seq (State.playRepeat_kept ..) ?_
          exact hx7
      · refine Kept.seq (State.playFrame_kept ..) ?_
        exact hx7

theorem execDelayFrameWrite_kept (dt_a l_a s_a) : KeptR s_a (execDelayFrameWrite dt_a l_a s_a) := by
  unfold execDelayFrameWrite
  refine actIf_kept (hk3 := fun u1 => ?_) ..
  extract_lets +onlyGivenNames x2
  extract_lets +onlyGivenNames x3
  extract_lets +onlyGivenNames x4
  extract_lets +onlyGivenNames x5
  refine Kept.ite ?_ ?_
  · exact Kept.refl _
  · extract_lets +onlyGivenNames x6
    extract_lets +onlyGivenNames x7
    extract_lets +onlyGivenNames x8
    have hx8 : Kept u1 x8 := by
      subst x8
      refine Kept.seq (State.setSrc_kept ..) ?_
      exact Kept.refl _
    clear_value x8
    extract_lets +onlyGivenNames x9
    extract_lets +onlyGivenNames x10
    extract_lets +onlyGivenNames x11
    split
    · refine Kept.seq (State.refreshSlot_kept ..) ?_
      refine Kept.seq (Kept.upd (s := x8) rfl rfl rfl rfl rfl rfl rfl rfl rfl rfl rfl) ?_
      exact hx8
    · extract_lets +onlyGivenNames x12
      extract_lets +onlyGivenNames x13
      have hx13 : Kept u1 x13 := by
        subst x13
        refine Kept.seq (Kept.upd (s := x8) rfl rfl rfl rfl rfl rfl rfl rfl rfl rfl rfl) ?_
        exact hx8
      clear_value x13
      refine Kept.ite ?_ ?_
      · extract_lets +onlyGivenNames x14
        have hx14 : Kept u1 x14 := by
          subst x14
          refine Kept.seq (State.setLine_kept ..) ?_
          exact hx13
        clear_value x14
        refine Kept.seq (State.writeStored_kept ..) ?_
        exact hx14
      · refine Kept.seq (State.morLate_kept ..) ?_
        refine Kept.seq (State.bump_kept ..) ?_
        refine Kept.seq (State.refreshSlot_kept ..) ?_
        exact hx13

theorem State.morCommit_kept (s_a old_a changes_a boundary_a) : Kept s_a (State.morCommit s_a old_a changes_a boundary_a) := by
  unfold State.morCommit
  extract_lets +onlyGivenNames x1
  extract_lets +onlyGivenNames x2
  have hx2 : Kept s_a x2 := by
    subst x2
    refine Kept.foldl (fun u3 x4 => ?_) ?_
    · refine Kept.ite ?_ ?_
      · refine Kept.seq (State.emptyRing_kept ..) ?_
        exact Kept.refl _
      · exact Kept.refl _
    · exact Kept.refl _
  clear_value x2
  extract_lets +onlyGivenNames x5
  have hx5 : Kept s_a x5 := by
    subst x5
    refine Kept.foldl (fun u6 x7 => ?_) ?_
    · extract_lets +onlyGivenNames x8
      extract_lets +onlyGivenNames x9
      extract_lets +onlyGivenNames x10
      have hx10 : Kept u6 x10 := by
        subst x10
        refine Kept.ite ?_ ?_
        · refine Kept.seq (State.stopRecord_kept ..) ?_
          exact Kept.refl _
        · exact Kept.refl _
      clear_value x10
      extract_lets +onlyGivenNames x11
      have hx11 : Kept u6 x11 := by
        subst x11
        refine Kept.ite ?_ ?_
        · refine Kept.seq (State.setN_kept ..) ?_
          exact hx10
        · exact hx10
      clear_value x11
      refine Kept.ite ?_ ?_
      · refine Kept.seq (State.startRecord_kept ..) ?_
        exact hx11
      · exact hx11
    · exact hx2
  clear_value x5
  refine Kept.foldl (fun u12 x13 => ?_) ?_
  · extract_lets +onlyGivenNames x14
    extract_lets +onlyGivenNames x15
    extract_lets +onlyGivenNames x16
    extract_lets +onlyGivenNames x17
    have hx17 : Kept u12 x17 := by
      subst x17
      refine Kept.ite ?_ ?_
      · exact Kept.refl _
      · exact Kept.upd rfl rfl rfl rfl rfl rfl rfl rfl rfl rfl rfl
    clear_value x17
    refine Kept.ite ?_ ?_
    · refine Kept.seq (State.startPlay_kept ..) ?_
      exact hx17
    · exact hx17
  · exact hx5

theorem State.morFormat_kept (s_a) : Kept s_a (State.morFormat s_a) := by
  unfold State.morFormat
  extract_lets +onlyGivenNames x1
  split
  rename_i v2 t3 e4
  have ht3 := Kept.snd e4 (State.draw_kept ..)
  extract_lets +onlyGivenNames x5
  extract_lets +onlyGivenNames x6
  have hx6 : Kept s_a x6 := by
    subst x6
    refine Kept.seq (Kept.upd (s := t3) rfl rfl rfl rfl rfl rfl rfl rfl rfl rfl rfl) ?_
    exact ht3
  clear_value x6
  extract_lets +onlyGivenNames x7
  have hx7 : Kept s_a x7 := by
    subst x7
    refine Kept.foldl (fun u8 x9 => ?_) ?_
    · refine Kept.seq (State.setN_kept ..) ?_
      refine Kept.seq (State.setDrive_kept ..) ?_
      exact Kept.refl _
    · exact hx6
  clear_value x7
  extract_lets +onlyGivenNames x10
  have hx10 : Kept s_a x10 := by
    subst x10
    refine Kept.foldl (fun u11 x12 => ?_) ?_
    · refine Kept.seq (State.setN_kept ..) ?_
      refine Kept.seq (State.setN_kept ..) ?_
      exact Kept.refl _
    · exact hx7
  clear_value x10
  extract_lets +onlyGivenNames x13
  have hx13 : Kept s_a x13 := by
    subst x13
    refine Kept.seq (State.refreshPool_kept ..) ?_
    exact hx10
  clear_value x13
  refine Kept.seq (State.setN_kept ..) ?_
  exact hx13

theorem State.clipDelete_kept (s_a c_a) : Kept s_a (State.clipDelete s_a c_a) := by
  unfold State.clipDelete
  exact Kept.upd rfl rfl rfl rfl rfl rfl rfl rfl rfl rfl rfl

theorem State.morJournalRead_kept (s_a) : Kept s_a (State.morJournalRead s_a).2 := by
  unfold State.morJournalRead
  extract_lets +onlyGivenNames x1
  refine Kept.mk2 ?_
  split
  · refine Kept.seq (State.setN_kept ..) ?_
    exact Kept.refl _
  · exact Kept.refl _

theorem State.morReset_kept (s_a) : Kept s_a (State.morReset s_a) := by
  unfold State.morReset
  exact Kept.upd rfl rfl rfl rfl rfl rfl rfl rfl rfl rfl rfl

end Sys2Proof.Machine
end

