-- ==== Sys2Proof/Laws/KeptSdi.lean ====
section
/-!
SUPPORT. That the functions of Machine/Sdi.lean keep the queue, never turn time back and keep a sound state sound
(`Kept` of Laws/Kept.lean).
-/
namespace Sys2Proof.Machine

theorem State.setRxLane_kept (s_a l_a x_a) : Kept s_a (State.setRxLane s_a l_a x_a) := by
  unfold State.setRxLane
  exact Kept.upd rfl rfl rfl rfl rfl rfl rfl rfl rfl rfl rfl

theorem State.setTxLane_kept (s_a l_a x_a) : Kept s_a (State.setTxLane s_a l_a x_a) := by
  unfold State.setTxLane
  exact Kept.upd rfl rfl rfl rfl rfl rfl rfl rfl rfl rfl rfl

theorem State.setRxn_kept (s_a index_a lane_a v_a) : Kept s_a (State.setRxn s_a index_a lane_a v_a) := by
  unfold State.setRxn
  refine Kept.seq (State.setN_kept ..) ?_
  exact Kept.refl _

theorem State.refreshLaneSlot_kept (s_a l_a) : Kept s_a (State.refreshLaneSlot s_a l_a) := by
  unfold State.refreshLaneSlot
  extract_lets +onlyGivenNames x1
  refine Kept.ite ?_ ?_
  · exact Kept.refl _
  · refine Kept.seq (State.refreshSlot_kept ..) ?_
    exact Kept.refl _

theorem State.clearIdentified_kept (s_a l_a) : Kept s_a (State.clearIdentified s_a l_a) := by
  unfold State.clearIdentified
  refine Kept.seq (State.toDefault_kept ..) ?_
  refine Kept.seq (State.toDefault_kept ..) ?_
  refine Kept.seq (State.toDefault_kept ..) ?_
  exact Kept.refl _

theorem State.nextFrame_kept (s_a lead_a) : Kept s_a (State.nextFrame s_a lead_a) := by
  unfold State.nextFrame
  extract_lets +onlyGivenNames x1
  refine Kept.seq (State.setRxLane_kept ..) ?_
  exact Kept.refl _

theorem State.feedColour_kept (s_a lead_a colour_a) : Kept s_a (State.feedColour s_a lead_a colour_a) := by
  unfold State.feedColour
  extract_lets +onlyGivenNames x1
  refine Kept.ite ?_ ?_
  · exact Kept.refl _
  · refine Kept.seq (State.setSrc_kept ..) ?_
    exact Kept.refl _

theorem State.rxDown_kept (s_a l_a toState_a) : Kept s_a (State.rxDown s_a l_a toState_a) := by
  unfold State.rxDown
  extract_lets +onlyGivenNames x1
  extract_lets +onlyGivenNames x2
  have hx2 : Kept s_a x2 := by
    subst x2
    refine Kept.seq (State.setN_kept ..) ?_
    exact Kept.refl _
  clear_value x2
  extract_lets +onlyGivenNames x3
  have hx3 : Kept s_a x3 := by
    subst x3
    refine Kept.ite ?_ ?_
    · refine Kept.seq (State.toDefault_kept ..) ?_
      exact hx2
    · exact hx2
  clear_value x3
  extract_lets +onlyGivenNames x4
  extract_lets +onlyGivenNames x5
  have hx5 : Kept s_a x5 := by
    subst x5
    refine Kept.ite ?_ ?_
    · refine Kept.seq (State.setRxLane_kept ..) ?_
      exact hx3
    · exact hx3
  clear_value x5
  refine Kept.ite ?_ ?_
  · extract_lets +onlyGivenNames x6
    extract_lets +onlyGivenNames x7
    have hx7 : Kept s_a x7 := by
      subst x7
      refine Kept.seq (State.setRxLane_kept ..) ?_
      refine Kept.seq (State.clearIdentified_kept ..) ?_
      exact hx5
    clear_value x7
    extract_lets +onlyGivenNames x8
    refine Kept.seq (State.refreshLaneSlot_kept ..) ?_
    refine Kept.seq (State.raise_kept ..) ?_
    refine Kept.seq (State.feedColour_kept ..) ?_
    refine Kept.seq (State.nextFrame_kept ..) ?_
    exact hx7
  · exact hx5

theorem State.refreshLane_kept (s_a l_a) : Kept s_a (State.refreshLane s_a l_a) := by
  unfold State.refreshLane
  extract_lets +onlyGivenNames x1
  extract_lets +onlyGivenNames x2
  refine Kept.ite ?_ ?_
  · refine Kept.seq (State.setN_kept ..) ?_
    exact Kept.refl _
  · refine Kept.ite ?_ ?_
    · refine Kept.seq (State.rxDown_kept ..) ?_
      exact Kept.refl _
    · exact Kept.refl _

theorem execSdiSignalDetect_kept (dt_a lane_a lasted_a s_a) : KeptR s_a (execSdiSignalDetect dt_a lane_a lasted_a s_a) := by
  unfold execSdiSignalDetect
  refine actIf_kept (hk3 := fun u1 => ?_) ..
  extract_lets +onlyGivenNames x2
  have hx2 : Kept u1 x2 := by
    subst x2
    refine Kept.seq (State.setN_kept ..) ?_
    exact Kept.refl _
  clear_value x2
  refine Kept.seq (State.setRxLane_kept ..) ?_
  exact hx2

theorem execSdiRateSearchStep_kept (dt_a lane_a s_a) : KeptR s_a (execSdiRateSearchStep dt_a lane_a s_a) := by
  unfold execSdiRateSearchStep
  refine actIf_kept (hk3 := fun u1 => ?_) ..
  refine Kept.seq (State.setRxLane_kept ..) ?_
  exact Kept.refl _

theorem execSdiClockLock_kept (dt_a lane_a s_a) : KeptR s_a (execSdiClockLock dt_a lane_a s_a) := by
  unfold execSdiClockLock
  refine actIf_kept (hk3 := fun u1 => ?_) ..
  refine Kept.seq (State.setN_kept ..) ?_
  refine Kept.seq (State.setN_kept ..) ?_
  exact Kept.refl _

theorem State.setLinkOrder_kept (s_a lead_a) : Kept s_a (State.setLinkOrder s_a lead_a) := by
  unfold State.setLinkOrder
  refine Kept.ite ?_ ?_
  · extract_lets +onlyGivenNames x1
    extract_lets +onlyGivenNames x2
    have hx2 : Kept s_a x2 := by
      subst x2
      refine Kept.foldl (fun u3 x4 => ?_) ?_
      · refine Kept.seq (State.setN_kept ..) ?_
        exact Kept.refl _
      · exact Kept.refl _
    clear_value x2
    split
    · refine Kept.seq (State.setN_kept ..) ?_
      exact hx2
    · exact hx2
  · exact Kept.refl _

theorem State.meetPids_kept (s_a lead_a) : Kept s_a (State.meetPids s_a lead_a) := by
  unfold State.meetPids
  extract_lets +onlyGivenNames x1
  extract_lets +onlyGivenNames x2
  have hx2 : Kept s_a x2 := by
    subst x2
    refine Kept.seq (State.setLinkOrder_kept ..) ?_
    refine Kept.seq (State.setRxn_kept ..) ?_
    exact Kept.refl _
  clear_value x2
  extract_lets +onlyGivenNames x3
  refine Kept.ite ?_ ?_
  · exact hx2
  · refine Kept.seq (State.refreshSlot_kept ..) ?_
    refine Kept.seq (State.setSrc_kept ..) ?_
    exact hx2

theorem State.pidMismatch_kept (s_a lane_a mismatch_a) : Kept s_a (State.pidMismatch s_a lane_a mismatch_a) := by
  unfold State.pidMismatch
  refine Kept.ite ?_ ?_
  · refine Kept.seq (State.raise_kept ..) ?_
    refine Kept.seq (State.setRxLane_kept ..) ?_
    exact Kept.refl _
  · exact Kept.refl _

theorem State.identified_kept (s_a lane_a f_a b_a mismatch_a raster_a pid_a) : Kept s_a (State.identified s_a lane_a f_a b_a mismatch_a raster_a pid_a) := by
  unfold State.identified
  extract_lets +onlyGivenNames x1
  refine Kept.seq (State.setRxLane_kept ..) ?_
  refine Kept.seq (State.setRxn_kept ..) ?_
  refine Kept.seq (State.setRxn_kept ..) ?_
  exact Kept.refl _

theorem execSdiLock_kept (dt_a lane_a raster_a pid_a s_a) : KeptR s_a (execSdiLock dt_a lane_a raster_a pid_a s_a) := by
  unfold execSdiLock
  refine actIf_kept (hk3 := fun u1 => ?_) ..
  split
  · extract_lets +onlyGivenNames x2
    have hx2 : Kept u1 x2 := by
      subst x2
      refine Kept.ite ?_ ?_
      · refine Kept.seq (State.setN_kept ..) ?_
        exact Kept.refl _
      · exact Kept.refl _
    clear_value x2
    extract_lets +onlyGivenNames x3
    have hx3 : Kept u1 x3 := by
      subst x3
      refine Kept.seq (State.identified_kept ..) ?_
      exact hx2
    clear_value x3
    extract_lets +onlyGivenNames x4
    extract_lets +onlyGivenNames x5
    have hx5 : Kept u1 x5 := by
      subst x5
      refine Kept.seq (State.raise_kept ..) ?_
      refine Kept.seq (State.setRxLane_kept ..) ?_
      exact hx3
    clear_value x5
    refine Kept.seq (State.meetPids_kept ..) ?_
    refine Kept.seq (State.pidMismatch_kept ..) ?_
    exact hx5
  · exact Kept.refl _

theorem State.reidentify_kept (s_a lane_a pid_a) : Kept s_a (State.reidentify s_a lane_a pid_a) := by
  unfold State.reidentify
  extract_lets +onlyGivenNames x1
  split
  · extract_lets +onlyGivenNames x2
    split
    refine Kept.seq (State.pidMismatch_kept ..) ?_
    refine Kept.seq (State.identified_kept ..) ?_
    exact Kept.refl _
  · exact Kept.refl _

theorem State.applyPid_kept (s_a lane_a) : Kept s_a (State.applyPid s_a lane_a) := by
  unfold State.applyPid
  split
  · extract_lets +onlyGivenNames x1
    have hx1 : Kept s_a x1 := by
      subst x1
      refine Kept.seq (State.reidentify_kept ..) ?_
      exact Kept.refl _
    clear_value x1
    refine Kept.ite ?_ ?_
    · exact hx1
    · refine Kept.seq (State.raise_kept ..) ?_
      exact hx1
  · exact Kept.refl _

theorem State.applyPids_kept (s_a lead_a) : Kept s_a (State.applyPids s_a lead_a) := by
  unfold State.applyPids
  extract_lets +onlyGivenNames x1
  refine Kept.ite ?_ ?_
  · exact Kept.refl _
  · extract_lets +onlyGivenNames x2
    have hx2 : Kept s_a x2 := by
      subst x2
      refine Kept.seq (State.meetPids_kept ..) ?_
      refine Kept.foldl (fun u3 x4 => ?_) ?_
      · refine Kept.seq (State.applyPid_kept ..) ?_
        exact Kept.refl _
      · exact Kept.refl _
    clear_value x2
    refine Kept.ite ?_ ?_
    · exact hx2
    · refine Kept.seq (State.raise_kept ..) ?_
      exact hx2

theorem State.resettle_kept (s_a lane_a) : Kept s_a (State.resettle s_a lane_a) := by
  unfold State.resettle
  refine Kept.ite ?_ ?_
  · extract_lets +onlyGivenNames x1
    extract_lets +onlyGivenNames x2
    have hx2 : Kept s_a x2 := by
      subst x2
      refine Kept.seq (State.reidentify_kept ..) ?_
      exact Kept.refl _
    clear_value x2
    refine Kept.seq (State.setRxLane_kept ..) ?_
    exact hx2
  · exact Kept.refl _

theorem State.assumed_kept (s_a lead_a) : Kept s_a (State.assumed s_a lead_a) := by
  unfold State.assumed
  extract_lets +onlyGivenNames x1
  have hx1 : Kept s_a x1 := by
    subst x1
    refine Kept.foldl (fun u2 x3 => ?_) ?_
    · refine Kept.seq (State.resettle_kept ..) ?_
      exact Kept.refl _
    · exact Kept.refl _
  clear_value x1
  refine Kept.ite ?_ ?_
  · exact hx1
  · refine Kept.seq (State.meetPids_kept ..) ?_
    exact hx1

theorem State.regroup_kept (s_a old_a q_a) : Kept s_a (State.regroup s_a old_a q_a) := by
  unfold State.regroup
  extract_lets +onlyGivenNames x1
  extract_lets +onlyGivenNames x2
  extract_lets +onlyGivenNames x3
  have hx3 : Kept s_a x3 := by
    subst x3
    refine Kept.foldl (fun u4 x5 => ?_) ?_
    · refine Kept.seq (State.setSrc_kept ..) ?_
      exact Kept.refl _
    · exact Kept.refl _
  clear_value x3
  extract_lets +onlyGivenNames x6
  have hx6 : Kept s_a x6 := by
    subst x6
    refine Kept.foldl (fun u7 x8 => ?_) ?_
    · refine Kept.seq (State.resettle_kept ..) ?_
      refine Kept.seq (State.setN_kept ..) ?_
      exact Kept.refl _
    · exact hx3
  clear_value x6
  refine Kept.foldl (fun u9 x10 => ?_) ?_
  · refine Kept.seq (State.meetPids_kept ..) ?_
    exact Kept.refl _
  · exact hx6

theorem execSdiClockLoss_kept (dt_a lane_a s_a) : KeptR s_a (execSdiClockLoss dt_a lane_a s_a) := by
  unfold execSdiClockLoss
  refine actIf_kept (hk3 := fun u1 => ?_) ..
  extract_lets +onlyGivenNames x2
  have hx2 : Kept u1 x2 := by
    subst x2
    refine Kept.seq (State.rxDown_kept ..) ?_
    exact Kept.refl _
  clear_value x2
  refine Kept.seq (State.setRxLane_kept ..) ?_
  exact hx2

theorem execSdiSignalLoss_kept (dt_a lane_a lasted_a s_a) : KeptR s_a (execSdiSignalLoss dt_a lane_a lasted_a s_a) := by
  unfold execSdiSignalLoss
  refine actIf_kept (hk3 := fun u1 => ?_) ..
  refine Kept.seq (State.rxDown_kept ..) ?_
  exact Kept.refl _

theorem execSdiEavTimeout_kept (dt_a lane_a periods_a s_a) : KeptR s_a (execSdiEavTimeout dt_a lane_a periods_a s_a) := by
  unfold execSdiEavTimeout
  refine actIf_kept (hk3 := fun u1 => ?_) ..
  refine Kept.seq (State.rxDown_kept ..) ?_
  exact Kept.refl _

theorem State.clearEmb_kept (s_a e_a) : Kept s_a (State.clearEmb s_a e_a) := by
  unfold State.clearEmb
  extract_lets +onlyGivenNames x1
  extract_lets +onlyGivenNames x2
  have hx2 : Kept s_a x2 := by
    subst x2
    refine Kept.seq (State.toDefault_kept ..) ?_
    refine Kept.seq (State.toDefault_kept ..) ?_
    refine Kept.seq (State.toDefault_kept ..) ?_
    exact Kept.refl _
  clear_value x2
  refine Kept.seq (State.nextFrame_kept ..) ?_
  refine Kept.seq (State.setRxLane_kept ..) ?_
  exact hx2

theorem State.embDown_kept (s_a lane_a) : Kept s_a (State.embDown s_a lane_a) := by
  unfold State.embDown
  extract_lets +onlyGivenNames x1
  extract_lets +onlyGivenNames x2
  extract_lets +onlyGivenNames x3
  extract_lets +onlyGivenNames x4
  have hx4 : Kept s_a x4 := by
    subst x4
    refine Kept.seq (State.clearEmb_kept ..) ?_
    refine Kept.seq (State.setRxe_kept ..) ?_
    refine Kept.seq (State.abandonFrame_kept ..) ?_
    exact Kept.refl _
  clear_value x4
  refine Kept.seq (State.refreshSlot_kept ..) ?_
  refine Kept.seq (State.raise_kept ..) ?_
  refine Kept.seq (State.feedColour_kept ..) ?_
  exact hx4

theorem execSdiRasterMismatch_kept (dt_a lane_a lines_a samples_a s_a) : KeptR s_a (execSdiRasterMismatch dt_a lane_a lines_a samples_a s_a) := by
  unfold execSdiRasterMismatch
  refine actIf_kept (hk3 := fun u1 => ?_) ..
  refine Kept.ite ?_ ?_
  · refine Kept.seq (State.rxDown_kept ..) ?_
    exact Kept.refl _
  · refine Kept.seq (State.embDown_kept ..) ?_
    exact Kept.refl _

theorem State.measureSkew_kept (s_a lead_a skew_a) : Kept s_a (State.measureSkew s_a lead_a skew_a) := by
  unfold State.measureSkew
  extract_lets +onlyGivenNames x1
  extract_lets +onlyGivenNames x2
  extract_lets +onlyGivenNames x3
  have hx3 : Kept s_a x3 := by
    subst x3
    refine Kept.seq (State.setN_kept ..) ?_
    exact Kept.refl _
  clear_value x3
  refine Kept.ite ?_ ?_
  · extract_lets +onlyGivenNames x4
    have hx4 : Kept s_a x4 := by
      subst x4
      refine Kept.seq (State.setRxLane_kept ..) ?_
      exact hx3
    clear_value x4
    refine Kept.ite ?_ ?_
    · exact hx4
    · refine Kept.seq (State.refreshLaneSlot_kept ..) ?_
      refine Kept.seq (State.raise_kept ..) ?_
      exact hx4
  · refine Kept.ite ?_ ?_
    · split
      · refine Kept.seq (State.setRxLane_kept ..) ?_
        exact hx3
      · refine Kept.ite ?_ ?_
        · refine Kept.seq (State.refreshLaneSlot_kept ..) ?_
          refine Kept.seq (State.setRxLane_kept ..) ?_
          exact hx3
        · exact hx3
    · exact hx3

theorem State.meetLine_kept (s_a lane_a line_a pid_a) : Kept s_a (State.meetLine s_a lane_a line_a pid_a) := by
  unfold State.meetLine
  extract_lets +onlyGivenNames x1
  extract_lets +onlyGivenNames x2
  extract_lets +onlyGivenNames x3
  refine Kept.ite ?_ ?_
  · refine Kept.seq (State.nextFrame_kept ..) ?_
    exact Kept.refl _
  · refine Kept.ite ?_ ?_
    · refine Kept.seq (State.setRxLane_kept ..) ?_
      exact Kept.refl _
    · refine Kept.ite ?_ ?_
      · refine Kept.seq (State.applyPids_kept ..) ?_
        exact Kept.refl _
      · exact Kept.refl _

theorem execSdiLineReceived_kept (dt_a lane_a line_a skew_a s_a) : KeptR s_a (execSdiLineReceived dt_a lane_a line_a skew_a s_a) := by
  unfold execSdiLineReceived
  refine actIf_kept (hk3 := fun u1 => ?_) ..
  extract_lets +onlyGivenNames x2
  extract_lets +onlyGivenNames x3
  have hx3 : Kept u1 x3 := by
    subst x3
    refine Kept.ite ?_ ?_
    · refine Kept.seq (State.raiseLimited_kept ..) ?_
      refine Kept.seq (State.bump_kept ..) ?_
      exact Kept.refl _
    · exact Kept.refl _
  clear_value x3
  extract_lets +onlyGivenNames x4
  have hx4 : Kept u1 x4 := by
    subst x4
    refine Kept.ite ?_ ?_
    · refine Kept.seq (State.measureSkew_kept ..) ?_
      exact hx3
    · exact hx3
  clear_value x4
  refine Kept.seq (State.meetLine_kept ..) ?_
  exact hx4

theorem execSdiEdhField_kept (dt_a lane_a edhFlags_a apMismatch_a ffMismatch_a s_a) : KeptR s_a (execSdiEdhField dt_a lane_a edhFlags_a apMismatch_a ffMismatch_a s_a) := by
  unfold execSdiEdhField
  refine actIf_kept (hk3 := fun u1 => ?_) ..
  split
  · refine Kept.seq (State.setBitN_kept ..) ?_
    exact Kept.refl _
  · extract_lets +onlyGivenNames x2
    have hx2 : Kept u1 x2 := by
      subst x2
      refine Kept.seq (State.setN_kept ..) ?_
      exact Kept.refl _
    clear_value x2
    extract_lets +onlyGivenNames x3
    have hx3 : Kept u1 x3 := by
      subst x3
      refine Kept.ite ?_ ?_
      · refine Kept.seq (State.bump_kept ..) ?_
        exact hx2
      · exact hx2
    clear_value x3
    extract_lets +onlyGivenNames x4
    have hx4 : Kept u1 x4 := by
      subst x4
      refine Kept.ite ?_ ?_
      · refine Kept.seq (State.bump_kept ..) ?_
        exact hx3
      · exact hx3
    clear_value x4
    refine Kept.ite ?_ ?_
    · refine Kept.seq (State.raiseLimited_kept ..) ?_
      exact hx4
    · exact hx4

theorem State.raiseGroup_kept (s_a lead_a) : Kept s_a (State.raiseGroup s_a lead_a) := by
  unfold State.raiseGroup
  extract_lets +onlyGivenNames x1
  refine Kept.ite ?_ ?_
  · exact Kept.refl _
  · refine Kept.seq (State.raise_kept ..) ?_
    refine Kept.seq (State.setRxLane_kept ..) ?_
    exact Kept.refl _

theorem State.setPresent_kept (s_a lead_a groupBit_a present_a) : Kept s_a (State.setPresent s_a lead_a groupBit_a present_a) := by
  unfold State.setPresent
  refine Kept.ite ?_ ?_
  · exact Kept.refl _
  · refine Kept.seq (State.raiseGroup_kept ..) ?_
    refine Kept.seq (State.setBitN_kept ..) ?_
    exact Kept.refl _

theorem State.takeAudio_kept (s_a lead_a p_a) : Kept s_a (State.takeAudio s_a lead_a p_a) := by
  unfold State.takeAudio
  extract_lets +onlyGivenNames x1
  extract_lets +onlyGivenNames x2
  have hx2 : Kept s_a x2 := by
    subst x2
    refine Kept.seq (State.setRxLane_kept ..) ?_
    exact Kept.refl _
  clear_value x2
  extract_lets +onlyGivenNames x3
  have hx3 : Kept s_a x3 := by
    subst x3
    refine Kept.seq (State.setPresent_kept ..) ?_
    exact hx2
  clear_value x3
  extract_lets +onlyGivenNames x4
  extract_lets +onlyGivenNames x5
  extract_lets +onlyGivenNames x6
  have hx6 : Kept s_a x6 := by
    subst x6
    refine Kept.ite ?_ ?_
    · refine Kept.seq (State.setInLatency_kept ..) ?_
      exact hx3
    · exact hx3
  clear_value x6
  extract_lets +onlyGivenNames x7
  have hx7 : Kept s_a x7 := by
    subst x7
    refine Kept.seq (State.queueFrames_kept ..) ?_
    refine Kept.seq (State.setNonAudio_kept ..) ?_
    exact hx6
  clear_value x7
  split
  · exact hx7
  · refine Kept.seq (State.bump_kept ..) ?_
    exact hx7
  · refine Kept.seq (State.raiseLimited_kept ..) ?_
    refine Kept.seq (State.bump_kept ..) ?_
    exact hx7

theorem execSdiAudioPacket_kept (dt_a lane_a p_a s_a) : KeptR s_a (execSdiAudioPacket dt_a lane_a p_a s_a) := by
  unfold execSdiAudioPacket
  refine actIf_kept (hk3 := fun u1 => ?_) ..
  extract_lets +onlyGivenNames x2
  refine Kept.ite ?_ ?_
  · refine Kept.seq (State.takeAudio_kept ..) ?_
    exact Kept.refl _
  · refine Kept.seq (State.setPresent_kept ..) ?_
    exact Kept.refl _

theorem execSdiAudioGroupAbsent_kept (dt_a lane_a groupBit_a s_a) : KeptR s_a (execSdiAudioGroupAbsent dt_a lane_a groupBit_a s_a) := by
  unfold execSdiAudioGroupAbsent
  refine actIf_kept (hk3 := fun u1 => ?_) ..
  refine Kept.seq (State.setPresent_kept ..) ?_
  exact Kept.refl _

theorem State.joinAnc_kept (s_a d_a x_a p_a) : Kept s_a (State.joinAnc s_a d_a x_a p_a) := by
  unfold State.joinAnc
  extract_lets +onlyGivenNames x1
  extract_lets +onlyGivenNames x2
  extract_lets +onlyGivenNames x3
  split
  · extract_lets +onlyGivenNames x4
    have hx4 : Kept s_a x4 := by
      subst x4
      refine Kept.seq (State.reshow_kept ..) ?_
      exact Kept.refl _
    clear_value x4
    refine Kept.ite ?_ ?_
    · refine Kept.ite ?_ ?_
      · refine Kept.seq (State.emit_kept ..) ?_
        exact hx4
      · refine Kept.ite ?_ ?_
        · exact hx4
        · extract_lets +onlyGivenNames x5
          have hx5 : Kept s_a x5 := by
            subst x5
            refine Kept.seq (State.bump_kept ..) ?_
            exact hx4
          clear_value x5
          refine Kept.ite ?_ ?_
          · refine Kept.seq (State.raise_kept ..) ?_
            exact hx5
          · exact hx5
    · exact hx4
  · refine Kept.ite ?_ ?_
    · extract_lets +onlyGivenNames x6
      have hx6 : Kept s_a x6 := by
        subst x6
        refine Kept.seq (State.reshow_kept ..) ?_
        exact Kept.refl _
      clear_value x6
      refine Kept.ite ?_ ?_
      · exact hx6
      · extract_lets +onlyGivenNames x7
        have hx7 : Kept s_a x7 := by
          subst x7
          refine Kept.foldl (fun u8 x9 => ?_) ?_
          · refine Kept.seq (State.bump_kept ..) ?_
            exact Kept.refl _
          · exact hx6
        clear_value x7
        refine Kept.ite ?_ ?_
        · refine Kept.seq (State.raise_kept ..) ?_
          exact hx7
        · exact hx7
    · refine Kept.seq (State.reshow_kept ..) ?_
      exact Kept.refl _
  · refine Kept.seq (State.reshow_kept ..) ?_
    exact Kept.refl _

theorem State.attachAnc_kept (s_a slot_a seq_a p_a) : Kept s_a (State.attachAnc s_a slot_a seq_a p_a) := by
  unfold State.attachAnc
  extract_lets +onlyGivenNames x1
  have hx1 : Kept s_a x1 := by
    subst x1
    refine Kept.seq (State.setSrc_kept ..) ?_
    exact Kept.refl _
  clear_value x1
  refine Kept.foldl (fun u2 x3 => ?_) ?_
  · split
    · refine Kept.ite ?_ ?_
      · refine Kept.seq (State.joinAnc_kept ..) ?_
        exact Kept.refl _
      · exact Kept.refl _
    · exact Kept.refl _
  · exact hx1

theorem State.ancBegin_kept (s_a lead_a slot_a) : Kept s_a (State.ancBegin s_a lead_a slot_a) := by
  unfold State.ancBegin
  split
  · extract_lets +onlyGivenNames x1
    have hx1 : Kept s_a x1 := by
      subst x1
      refine Kept.seq (State.setSrc_kept ..) ?_
      exact Kept.refl _
    clear_value x1
    refine Kept.seq (State.setRxLane_kept ..) ?_
    exact hx1
  · exact Kept.refl _

theorem State.ancAbandon_kept (s_a lead_a) : Kept s_a (State.ancAbandon s_a lead_a) := by
  unfold State.ancAbandon
  refine Kept.seq (State.setRxLane_kept ..) ?_
  exact Kept.refl _

theorem execSdiAncPacket_kept (dt_a lane_a p_a s_a) : KeptR s_a (execSdiAncPacket dt_a lane_a p_a s_a) := by
  unfold execSdiAncPacket
  refine actIf_kept (hk3 := fun u1 => ?_) ..
  extract_lets +onlyGivenNames x2
  extract_lets +onlyGivenNames x3
  refine Kept.ite ?_ ?_
  · refine Kept.seq (State.bump_kept ..) ?_
    exact Kept.refl _
  · refine Kept.ite ?_ ?_
    · exact Kept.refl _
    · refine Kept.ite ?_ ?_
      · extract_lets +onlyGivenNames x4
        have hx4 : Kept u1 x4 := by
          subst x4
          refine Kept.seq (State.bump_kept ..) ?_
          refine Kept.seq (State.setRxLane_kept ..) ?_
          exact Kept.refl _
        clear_value x4
        refine Kept.ite ?_ ?_
        · exact hx4
        · refine Kept.seq (State.raise_kept ..) ?_
          exact hx4
      · extract_lets +onlyGivenNames x5
        have hx5 : Kept u1 x5 := by
          subst x5
          refine Kept.seq (State.setRxLane_kept ..) ?_
          exact Kept.refl _
        clear_value x5
        split
        · refine Kept.seq (State.attachAnc_kept ..) ?_
          exact hx5
        · exact hx5

theorem State.setDriver_kept (s_a lead_a mode_a) : Kept s_a (State.setDriver s_a lead_a mode_a) := by
  unfold State.setDriver
  refine Kept.foldl (fun u1 x2 => ?_) ?_
  · refine Kept.seq (State.setN_kept ..) ?_
    exact Kept.refl _
  · exact Kept.refl _

theorem State.txIdleNow_kept (s_a lane_a st_a) : Kept s_a (State.txIdleNow s_a lane_a st_a) := by
  unfold State.txIdleNow
  refine Kept.seq (State.emit_kept ..) ?_
  refine Kept.seq (State.setDriver_kept ..) ?_
  refine Kept.seq (State.setN_kept ..) ?_
  exact Kept.refl _

theorem State.txEmit_kept (s_a lane_a d_a carriage_a rate_a) : Kept s_a (State.txEmit s_a lane_a d_a carriage_a rate_a) := by
  unfold State.txEmit
  split
  · refine Kept.seq (State.txIdleNow_kept ..) ?_
    exact Kept.refl _
  · extract_lets +onlyGivenNames x1
    extract_lets +onlyGivenNames x2
    extract_lets +onlyGivenNames x3
    extract_lets +onlyGivenNames x4
    extract_lets +onlyGivenNames x5
    extract_lets +onlyGivenNames x6
    have hx6 : Kept s_a x6 := by
      subst x6
      refine Kept.seq (State.setDriver_kept ..) ?_
      refine Kept.seq (State.setN_kept ..) ?_
      refine Kept.seq (State.setN_kept ..) ?_
      refine Kept.seq (State.setN_kept ..) ?_
      exact Kept.refl _
    clear_value x6
    refine Kept.ite ?_ ?_
    · refine Kept.seq (State.emitFrame_kept ..) ?_
      refine Kept.seq (State.emit_kept ..) ?_
      refine Kept.seq (State.setTxLane_kept ..) ?_
      exact hx6
    · extract_lets +onlyGivenNames x7
      have hx7 : Kept s_a x7 := by
        subst x7
        refine Kept.seq (State.setTxLane_kept ..) ?_
        refine Kept.seq (State.setN_kept ..) ?_
        exact hx6
      clear_value x7
      extract_lets +onlyGivenNames x8
      have hx8 : Kept s_a x8 := by
        subst x8
        refine Kept.seq (State.emit_kept ..) ?_
        exact hx7
      clear_value x8
      extract_lets +onlyGivenNames x9
      have hx9 : Kept s_a x9 := by
        subst x9
        refine Kept.ite ?_ ?_
        · exact hx8
        · refine Kept.seq (State.raise_kept ..) ?_
          refine Kept.seq (State.bump_kept ..) ?_
          exact hx8
      clear_value x9
      refine Kept.seq (State.emitFrame_kept ..) ?_
      exact hx9

theorem State.txBlack_kept (s_a lane_a) : Kept s_a (State.txBlack s_a lane_a) := by
  unfold State.txBlack
  extract_lets +onlyGivenNames x1
  extract_lets +onlyGivenNames x2
  refine Kept.seq (State.emit_kept ..) ?_
  refine Kept.foldl (fun u3 x4 => ?_) ?_
  · refine Kept.seq (State.setN_kept ..) ?_
    exact Kept.refl _
  · refine Kept.seq (State.setN_kept ..) ?_
    exact Kept.refl _

theorem State.sdiNext_kept (s_a lane_a) : Kept s_a (State.sdiNext s_a lane_a) := by
  unfold State.sdiNext
  extract_lets +onlyGivenNames x1
  extract_lets +onlyGivenNames x2
  refine Kept.ite ?_ ?_
  · refine Kept.ite ?_ ?_
    · refine Kept.seq (State.txBlack_kept ..) ?_
      exact Kept.refl _
    · refine Kept.seq (State.txIdleNow_kept ..) ?_
      exact Kept.refl _
  · extract_lets +onlyGivenNames x3
    extract_lets +onlyGivenNames x4
    extract_lets +onlyGivenNames x5
    refine Kept.ite ?_ ?_
    · refine Kept.seq (State.txIdleNow_kept ..) ?_
      exact Kept.refl _
    · refine Kept.ite ?_ ?_
      · extract_lets +onlyGivenNames x6
        have hx6 : Kept s_a x6 := by
          subst x6
          refine Kept.seq (State.setN_kept ..) ?_
          refine Kept.seq (State.setN_kept ..) ?_
          exact Kept.refl _
        clear_value x6
        extract_lets +onlyGivenNames x7
        have hx7 : Kept s_a x7 := by
          subst x7
          refine Kept.seq (State.setTxLane_kept ..) ?_
          exact hx6
        clear_value x7
        refine Kept.seq (State.raise_kept ..) ?_
        refine Kept.seq (State.emit_kept ..) ?_
        refine Kept.seq (State.setDriver_kept ..) ?_
        exact hx7
      · refine Kept.seq (State.txEmit_kept ..) ?_
        exact Kept.refl _

theorem execSdiTxFrameEmit_kept (dt_a lane_a s_a) : KeptR s_a (execSdiTxFrameEmit dt_a lane_a s_a) := by
  unfold execSdiTxFrameEmit
  refine actIf_kept (hk3 := fun u1 => ?_) ..
  refine Kept.ite ?_ ?_
  · refine Kept.seq (State.sdiNext_kept ..) ?_
    exact Kept.refl _
  · refine Kept.ite ?_ ?_
    · refine Kept.seq (State.txIdleNow_kept ..) ?_
      exact Kept.refl _
    · refine Kept.seq (State.setN_kept ..) ?_
      refine Kept.seq (State.sdiNext_kept ..) ?_
      exact Kept.refl _

theorem execSdiTxIdleEnd_kept (dt_a lane_a s_a) : KeptR s_a (execSdiTxIdleEnd dt_a lane_a s_a) := by
  unfold execSdiTxIdleEnd
  refine actIf_kept (hk3 := fun u1 => ?_) ..
  refine Kept.seq (State.setN_kept ..) ?_
  refine Kept.seq (State.setTxLane_kept ..) ?_
  exact Kept.refl _

end Sys2Proof.Machine
end

