-- ==== Sys2Proof/Laws/KeptMediaTx.lean ====
section
/-!
SUPPORT. That the functions of Machine/MediaTx.lean keep the queue, never turn time back and keep a sound state sound
(`Kept` of Laws/Kept.lean).
-/
namespace Sys2Proof.Machine

theorem State.setPort_kept (s_a p_a x_a) : Kept s_a (State.setPort s_a p_a x_a) := by
  unfold State.setPort
  exact Kept.upd rfl rfl rfl rfl rfl rfl rfl rfl rfl rfl rfl

theorem State.countTx_kept (s_a port_a bytes_a) : Kept s_a (State.countTx s_a port_a bytes_a) := by
  unfold State.countTx
  refine Kept.seq (State.bump_kept ..) ?_
  refine Kept.seq (State.bump_kept ..) ?_
  exact Kept.refl _

theorem State.sendArp_kept (s_a port_a kind_a addr_a mac_a dst_a) : Kept s_a (State.sendArp s_a port_a kind_a addr_a mac_a dst_a) := by
  unfold State.sendArp
  extract_lets +onlyGivenNames x1
  refine Kept.ite ?_ ?_
  · exact Kept.refl _
  · refine Kept.seq (State.emit_kept ..) ?_
    refine Kept.seq (State.countTx_kept ..) ?_
    exact Kept.refl _

theorem State.resolve_kept (s_a e_a) : Kept s_a (State.resolve s_a e_a) := by
  unfold State.resolve
  extract_lets +onlyGivenNames x1
  extract_lets +onlyGivenNames x2
  refine Kept.ite ?_ ?_
  · exact Kept.refl _
  · refine Kept.seq (State.sendArp_kept ..) ?_
    refine Kept.seq (State.setTxe_kept ..) ?_
    exact Kept.refl _

theorem State.meetResolving_kept (s_a e_a st_a) : Kept s_a (State.meetResolving s_a e_a st_a) := by
  unfold State.meetResolving
  extract_lets +onlyGivenNames x1
  refine Kept.ite ?_ ?_
  · refine Kept.ite ?_ ?_
    · refine Kept.seq (State.resolve_kept ..) ?_
      refine Kept.seq (State.setTxe_kept ..) ?_
      exact Kept.refl _
    · exact Kept.refl _
  · refine Kept.ite ?_ ?_
    · exact Kept.refl _
    · refine Kept.seq (State.setTxe_kept ..) ?_
      exact Kept.refl _

theorem State.setTxState_kept (s_a e_a st_a) : Kept s_a (State.setTxState s_a e_a st_a) := by
  unfold State.setTxState
  extract_lets +onlyGivenNames x1
  refine Kept.ite ?_ ?_
  · exact Kept.refl _
  · extract_lets +onlyGivenNames x2
    have hx2 : Kept s_a x2 := by
      subst x2
      refine Kept.seq (State.meetResolving_kept ..) ?_
      refine Kept.seq (State.setN_kept ..) ?_
      exact Kept.refl _
    clear_value x2
    extract_lets +onlyGivenNames x3
    have hx3 : Kept s_a x3 := by
      subst x3
      refine Kept.ite ?_ ?_
      · refine Kept.seq (State.raise_kept ..) ?_
        exact hx2
      · exact hx2
    clear_value x3
    extract_lets +onlyGivenNames x4
    have hx4 : Kept s_a x4 := by
      subst x4
      refine Kept.ite ?_ ?_
      · refine Kept.seq (State.raise_kept ..) ?_
        exact hx3
      · exact hx3
    clear_value x4
    extract_lets +onlyGivenNames x5
    have hx5 : Kept s_a x5 := by
      subst x5
      refine Kept.ite ?_ ?_
      · refine Kept.seq (State.raise_kept ..) ?_
        exact hx4
      · exact hx4
    clear_value x5
    refine Kept.ite ?_ ?_
    · refine Kept.seq (State.raise_kept ..) ?_
      exact hx5
    · exact hx5

theorem State.refreshTx_kept (s_a e_a) : Kept s_a (State.refreshTx s_a e_a) := by
  unfold State.refreshTx
  refine Kept.seq (State.setTxState_kept ..) ?_
  exact Kept.refl _

theorem State.refreshTxPort_kept (s_a port_a) : Kept s_a (State.refreshTxPort s_a port_a) := by
  unfold State.refreshTxPort
  refine Kept.foldl (fun u1 x2 => ?_) ?_
  · refine Kept.seq (State.refreshTx_kept ..) ?_
    exact Kept.refl _
  · exact Kept.refl _

theorem State.refreshTxAll_kept (s_a) : Kept s_a (State.refreshTxAll s_a) := by
  unfold State.refreshTxAll
  refine Kept.foldl (fun u1 x2 => ?_) ?_
  · refine Kept.seq (State.refreshTx_kept ..) ?_
    exact Kept.refl _
  · exact Kept.refl _

theorem State.readdress_kept (s_a e_a) : Kept s_a (State.readdress s_a e_a) := by
  unfold State.readdress
  extract_lets +onlyGivenNames x1
  refine Kept.seq (State.resolve_kept ..) ?_
  refine Kept.seq (State.setTxe_kept ..) ?_
  exact Kept.refl _

theorem State.chooseSsrc_kept (s_a lead_a redraw_a) : Kept s_a (State.chooseSsrc s_a lead_a redraw_a) := by
  unfold State.chooseSsrc
  extract_lets +onlyGivenNames x1
  extract_lets +onlyGivenNames x2
  extract_lets +onlyGivenNames x3
  split
  rename_i v4 t5 e6
  have ht5 : Kept s_a t5 := by
    refine Kept.snd e6 ?_
    split
    · refine Kept.mk2 ?_
      exact Kept.refl _
    · split
      · split
        · refine Kept.seq (State.draw_kept ..) ?_
          exact Kept.refl _
        · refine Kept.mk2 ?_
          exact Kept.refl _
      · refine Kept.seq (State.draw_kept ..) ?_
        exact Kept.refl _
  extract_lets +onlyGivenNames x7
  refine Kept.foldl (fun u8 x9 => ?_) ?_
  · refine Kept.seq (State.setN_kept ..) ?_
    refine Kept.ite ?_ ?_
    · exact Kept.refl _
    · refine Kept.seq (State.setTxe_kept ..) ?_
      exact Kept.refl _
  · exact ht5

theorem State.startTx_kept (s_a lead_a boundary_a redraw_a) : Kept s_a (State.startTx s_a lead_a boundary_a redraw_a) := by
  unfold State.startTx
  extract_lets +onlyGivenNames x1
  extract_lets +onlyGivenNames x2
  have hx2 : Kept s_a x2 := by
    subst x2
    refine Kept.seq (State.chooseSsrc_kept ..) ?_
    exact Kept.refl _
  clear_value x2
  split
  rename_i v3 t4 e5
  have ht4 : Kept s_a t4 := by
    refine Kept.snd e5 ?_
    refine Kept.seq (State.draw_kept ..) ?_
    exact hx2
  extract_lets +onlyGivenNames x6
  extract_lets +onlyGivenNames x7
  extract_lets +onlyGivenNames x8
  extract_lets +onlyGivenNames x9
  have hx9 : Kept s_a x9 := by
    subst x9
    refine Kept.seq (State.setTxe_kept ..) ?_
    exact ht4
  clear_value x9
  refine Kept.foldl (fun u10 x11 => ?_) ?_
  · refine Kept.seq (State.refreshTx_kept ..) ?_
    refine Kept.seq (State.readdress_kept ..) ?_
    refine Kept.seq (State.setN_kept ..) ?_
    exact Kept.refl _
  · exact hx9

theorem State.refreshSdp_kept (s_a e_a) : Kept s_a (State.refreshSdp s_a e_a) := by
  unfold State.refreshSdp
  refine Kept.seq (State.setBy_kept ..) ?_
  exact Kept.refl _

theorem State.sendPacket_kept (s_a lead_a timestamp_a marker_a bytes_a payload_a) : Kept s_a (State.sendPacket s_a lead_a timestamp_a marker_a bytes_a payload_a) := by
  unfold State.sendPacket
  extract_lets +onlyGivenNames x1
  extract_lets +onlyGivenNames x2
  refine Kept.foldl (fun u3 x4 => ?_) ?_
  · extract_lets +onlyGivenNames x5
    have hx5 : Kept u3 x5 := by
      subst x5
      split
      · refine Kept.seq (State.emit_kept ..) ?_
        refine Kept.seq (State.countTx_kept ..) ?_
        refine Kept.seq (State.bump_kept ..) ?_
        exact Kept.refl _
      · refine Kept.seq (State.bump_kept ..) ?_
        exact Kept.refl _
      · refine Kept.seq (State.bump_kept ..) ?_
        exact Kept.refl _
      · exact Kept.refl _
    clear_value x5
    refine Kept.seq (State.setN_kept ..) ?_
    exact hx5
  · exact Kept.refl _

theorem State.pacing_kept (s_a lead_a scheduled_a) : Kept s_a (State.pacing s_a lead_a scheduled_a) := by
  unfold State.pacing
  extract_lets +onlyGivenNames x1
  refine Kept.foldl (fun u2 x3 => ?_) ?_
  · refine Kept.seq (State.setN_kept ..) ?_
    exact Kept.refl _
  · exact Kept.refl _

theorem State.setObjs_kept (s : State) (l : List (Nat × Val)) : Kept s (s.setObjs l) :=
  Kept.ofObjs rfl rfl rfl (Objs.foldSet_wf _ _ l _) rfl rfl rfl rfl rfl rfl rfl

theorem State.heldFlow_kept (s_a e_a) : Kept s_a (State.heldFlow s_a e_a) := by
  unfold State.heldFlow
  extract_lets +onlyGivenNames x1
  extract_lets +onlyGivenNames x2
  have hx2 : Kept s_a x2 := by
    subst x2
    refine Kept.foldl (fun u3 x4 => ?_) ?_
    · refine Kept.seq (State.setTxe_kept ..) ?_
      exact Kept.refl _
    · refine Kept.seq (State.setObjs_kept ..) ?_
      exact Kept.refl _
  clear_value x2
  split
  · refine Kept.seq (State.setTxe_kept ..) ?_
    exact hx2
  · exact hx2

theorem State.unheldFlow_kept (s_a u_a e_a) : Kept u_a (State.unheldFlow s_a u_a e_a) := by
  unfold State.unheldFlow
  extract_lets +onlyGivenNames x1
  extract_lets +onlyGivenNames x2
  extract_lets +onlyGivenNames x3
  have hx3 : Kept u_a x3 := by
    subst x3
    refine Kept.foldl (fun u4 x5 => ?_) ?_
    · refine Kept.seq (State.setTxe_kept ..) ?_
      exact Kept.refl _
    · refine Kept.seq (State.setObjs_kept ..) ?_
      exact Kept.refl _
  clear_value x3
  split
  · refine Kept.seq (State.setTxe_kept ..) ?_
    exact hx3
  · exact hx3

theorem State.dropHeld_kept (s_a e_a) : Kept s_a (State.dropHeld s_a e_a) := by
  unfold State.dropHeld
  extract_lets +onlyGivenNames x1
  have hx1 : Kept s_a x1 := by
    subst x1
    refine Kept.foldl (fun u2 x3 => ?_) ?_
    · refine Kept.seq (State.setTxe_kept ..) ?_
      exact Kept.refl _
    · exact Kept.refl _
  clear_value x1
  refine Kept.seq (State.setTxe_kept ..) ?_
  exact hx1

theorem State.txUnder_kept (s_a e_a before_a f_a) (hk3 : ∀ y0, Kept y0 (f_a y0)) : Kept s_a (State.txUnder s_a e_a before_a f_a) := by
  unfold State.txUnder
  extract_lets +onlyGivenNames x1
  refine Kept.ite ?_ ?_
  · refine Kept.seq (hk3 ..) ?_
    exact Kept.refl _
  · extract_lets +onlyGivenNames x2
    have hx2 : Kept s_a x2 := by
      subst x2
      refine Kept.seq (State.heldFlow_kept ..) ?_
      exact Kept.refl _
    clear_value x2
    refine Kept.ite ?_ ?_
    · refine Kept.seq (State.unheldFlow_kept ..) ?_
      refine Kept.seq (hk3 ..) ?_
      exact hx2
    · refine Kept.seq (hk3 ..) ?_
      refine Kept.seq (State.dropHeld_kept ..) ?_
      exact Kept.refl _

theorem State.holdTx_kept (s_a old_a lead_a boundary_a) : Kept s_a (State.holdTx s_a old_a lead_a boundary_a) := by
  unfold State.holdTx
  extract_lets +onlyGivenNames x1
  extract_lets +onlyGivenNames x2
  extract_lets +onlyGivenNames x3
  extract_lets +onlyGivenNames x4
  refine Kept.ite ?_ ?_
  · exact Kept.refl _
  · extract_lets +onlyGivenNames x5
    extract_lets +onlyGivenNames x6
    extract_lets +onlyGivenNames x7
    have hx7 : Kept s_a x7 := by
      subst x7
      refine Kept.foldl (fun u8 x9 => ?_) ?_
      · refine Kept.seq (State.setTxe_kept ..) ?_
        exact Kept.refl _
      · exact Kept.refl _
    clear_value x7
    refine Kept.seq (State.setTxe_kept ..) ?_
    exact hx7

theorem State.beginStream_kept (s_a lead_a d_a x_a) : Kept s_a (State.beginStream s_a lead_a d_a x_a) := by
  unfold State.beginStream
  extract_lets +onlyGivenNames x1
  extract_lets +onlyGivenNames x2
  extract_lets +onlyGivenNames x3
  extract_lets +onlyGivenNames x4
  extract_lets +onlyGivenNames x5
  extract_lets +onlyGivenNames x6
  extract_lets +onlyGivenNames x7
  have hx7 : Kept s_a x7 := by
    subst x7
    refine Kept.seq (State.setTxe_kept ..) ?_
    exact Kept.refl _
  clear_value x7
  refine Kept.ite ?_ ?_
  · exact hx7
  · refine Kept.seq (State.raise_kept ..) ?_
    refine Kept.foldl (fun u8 x9 => ?_) ?_
    · refine Kept.seq (State.bump_kept ..) ?_
      exact Kept.refl _
    · exact hx7

theorem State.beginFrame_kept (s_a lead_a d_a x_a) : Kept s_a (State.beginFrame s_a lead_a d_a x_a) := by
  unfold State.beginFrame
  extract_lets +onlyGivenNames x1
  have hx1 : Kept s_a x1 := by
    subst x1
    refine Kept.foldl (fun u2 x3 => ?_) ?_
    · refine Kept.seq (State.refreshSdp_kept ..) ?_
      refine Kept.seq (State.setN_kept ..) ?_
      exact Kept.refl _
    · exact Kept.refl _
  clear_value x1
  extract_lets +onlyGivenNames x4
  extract_lets +onlyGivenNames x5
  have hx5 : Kept s_a x5 := by
    subst x5
    refine Kept.seq (State.setTxe_kept ..) ?_
    exact hx1
  clear_value x5
  extract_lets +onlyGivenNames x6
  have hx6 : Kept s_a x6 := by
    subst x6
    refine Kept.ite ?_ ?_
    · refine Kept.seq (State.beginStream_kept ..) ?_
      exact hx5
    · exact hx5
  clear_value x6
  refine Kept.seq (State.emitFrame_kept ..) ?_
  exact hx6

theorem execTxPacketDeparture_kept (dt_a entry_a s_a) : KeptR s_a (execTxPacketDeparture dt_a entry_a s_a) := by
  unfold execTxPacketDeparture
  refine act_kept (hk2 := fun u1 => ?_) ..
  refine Kept.seq (State.txUnder_kept (hk3 := fun u2 => ?_) ..) ?_
  · refine Kept.ite ?_ ?_
    · exact Kept.refl _
    · extract_lets +onlyGivenNames x3
      split
      · exact Kept.refl _
      · extract_lets +onlyGivenNames x4
        extract_lets +onlyGivenNames x5
        split
        extract_lets +onlyGivenNames x6
        refine Kept.ite ?_ ?_
        · exact Kept.refl _
        · extract_lets +onlyGivenNames x7
          extract_lets +onlyGivenNames x8
          extract_lets +onlyGivenNames x9
          extract_lets +onlyGivenNames x10
          extract_lets +onlyGivenNames x11
          extract_lets +onlyGivenNames x12
          have hx12 : Kept u2 x12 := by
            subst x12
            refine Kept.ite ?_ ?_
            · refine Kept.seq (State.beginFrame_kept ..) ?_
              exact Kept.refl _
            · exact Kept.refl _
          clear_value x12
          extract_lets +onlyGivenNames x13
          extract_lets +onlyGivenNames x14
          extract_lets +onlyGivenNames x15
          have hx15 : Kept u2 x15 := by
            subst x15
            refine Kept.seq (State.pacing_kept ..) ?_
            refine Kept.seq (State.sendPacket_kept ..) ?_
            exact hx12
          clear_value x15
          extract_lets +onlyGivenNames x16
          extract_lets +onlyGivenNames x17
          have hx17 : Kept u2 x17 := by
            subst x17
            refine Kept.seq (State.setTxe_kept ..) ?_
            exact hx15
          clear_value x17
          refine Kept.ite ?_ ?_
          · refine Kept.seq (State.refreshTxAll_kept ..) ?_
            exact hx17
          · exact hx17
  · exact Kept.refl _

theorem State.txRunOut_kept (s_a e_a n_a) : Kept s_a (State.txRunOut s_a e_a n_a) := by
  unfold State.txRunOut
  refine Kept.foldl (fun u1 x2 => ?_) ?_
  · refine Kept.seq (State.runOut_kept ..) ?_
    exact Kept.refl _
  · exact Kept.refl _

theorem execTxAudioPacket_kept (dt_a entry_a s_a) : KeptR s_a (execTxAudioPacket dt_a entry_a s_a) := by
  unfold execTxAudioPacket
  refine act_kept (hk2 := fun u1 => ?_) ..
  refine Kept.seq (State.txUnder_kept (hk3 := fun u2 => ?_) ..) ?_
  · extract_lets +onlyGivenNames x3
    extract_lets +onlyGivenNames x4
    refine Kept.ite ?_ ?_
    · exact Kept.refl _
    · extract_lets +onlyGivenNames x5
      extract_lets +onlyGivenNames x6
      extract_lets +onlyGivenNames x7
      have hx7 : Kept u2 x7 := by
        subst x7
        refine Kept.seq (State.txRunOut_kept ..) ?_
        exact Kept.refl _
      clear_value x7
      extract_lets +onlyGivenNames x8
      have hx8 : Kept u2 x8 := by
        subst x8
        refine Kept.seq (State.pacing_kept ..) ?_
        refine Kept.seq (State.sendPacket_kept ..) ?_
        exact hx7
      clear_value x8
      extract_lets +onlyGivenNames x9
      extract_lets +onlyGivenNames x10
      have hx10 : Kept u2 x10 := by
        subst x10
        refine Kept.seq (State.setTxe_kept ..) ?_
        exact hx8
      clear_value x10
      refine Kept.ite ?_ ?_
      · refine Kept.seq (State.refreshTxAll_kept ..) ?_
        exact hx10
      · exact hx10
  · exact Kept.refl _

theorem State.sendAncPacket_kept (s_a e_a ts_a format_a field2_a l_a last_a) : Kept s_a (State.sendAncPacket s_a e_a ts_a format_a field2_a l_a last_a) := by
  unfold State.sendAncPacket
  refine Kept.seq (State.sendPacket_kept ..) ?_
  exact Kept.refl _

theorem State.sendAnc_kept (s_a e_a x_a field2_a) : Kept s_a (State.sendAnc s_a e_a x_a field2_a) := by
  unfold State.sendAnc
  extract_lets +onlyGivenNames x1
  extract_lets +onlyGivenNames x2
  extract_lets +onlyGivenNames x3
  extract_lets +onlyGivenNames x4
  split
  extract_lets +onlyGivenNames x5
  extract_lets +onlyGivenNames x6
  have hx6 : Kept s_a x6 := by
    subst x6
    refine Kept.foldl (fun u7 x8 => ?_) ?_
    · refine Kept.ite ?_ ?_
      · exact Kept.refl _
      · refine Kept.seq (State.refreshSdp_kept ..) ?_
        refine Kept.seq (State.setN_kept ..) ?_
        exact Kept.refl _
    · exact Kept.refl _
  clear_value x6
  extract_lets +onlyGivenNames x9
  extract_lets +onlyGivenNames x10
  have hx10 : Kept s_a x10 := by
    subst x10
    refine Kept.foldl (fun u11 x12 => ?_) ?_
    · refine Kept.seq (State.sendAncPacket_kept ..) ?_
      exact Kept.refl _
    · exact hx6
  clear_value x10
  extract_lets +onlyGivenNames x13
  have hx13 : Kept s_a x13 := by
    subst x13
    refine Kept.seq (State.sendAncPacket_kept ..) ?_
    exact hx10
  clear_value x13
  extract_lets +onlyGivenNames x14
  extract_lets +onlyGivenNames x15
  have hx15 : Kept s_a x15 := by
    subst x15
    refine Kept.seq (State.setTxe_kept ..) ?_
    exact hx13
  clear_value x15
  refine Kept.ite ?_ ?_
  · exact hx15
  · refine Kept.seq (State.raiseLimited_kept ..) ?_
    refine Kept.seq (State.bump_kept ..) ?_
    exact hx15

theorem execTxAncPackets_kept (dt_a entry_a field2_a s_a) : KeptR s_a (execTxAncPackets dt_a entry_a field2_a s_a) := by
  unfold execTxAncPackets
  refine act_kept (hk2 := fun u1 => ?_) ..
  refine Kept.seq (State.txUnder_kept (hk3 := fun u2 => ?_) ..) ?_
  · refine Kept.ite ?_ ?_
    · exact Kept.refl _
    · split
      · exact Kept.refl _
      · refine Kept.ite ?_ ?_
        · refine Kept.seq (State.sendAnc_kept ..) ?_
          exact Kept.refl _
        · exact Kept.refl _
  · exact Kept.refl _

theorem execTxOpaqueForward_kept (dt_a entry_a s_a) : KeptR s_a (execTxOpaqueForward dt_a entry_a s_a) := by
  unfold execTxOpaqueForward
  refine act_kept (hk2 := fun u1 => ?_) ..
  refine Kept.seq (State.txUnder_kept (hk3 := fun u2 => ?_) ..) ?_
  · refine Kept.ite ?_ ?_
    · exact Kept.refl _
    · split
      · refine Kept.ite ?_ ?_
        · exact Kept.refl _
        · refine Kept.foldl (fun u3 x4 => ?_) ?_
          · split
            · refine Kept.seq (State.emit_kept ..) ?_
              refine Kept.seq (State.countTx_kept ..) ?_
              refine Kept.seq (State.bump_kept ..) ?_
              exact Kept.refl _
            · refine Kept.seq (State.bump_kept ..) ?_
              exact Kept.refl _
            · refine Kept.seq (State.bump_kept ..) ?_
              exact Kept.refl _
            · exact Kept.refl _
          · refine Kept.seq (State.setTxe_kept ..) ?_
            exact Kept.refl _
      · exact Kept.refl _
  · exact Kept.refl _

theorem execTxResolveRenew_kept (dt_a entry_a s_a) : KeptR s_a (execTxResolveRenew dt_a entry_a s_a) := by
  unfold execTxResolveRenew
  refine actIf_kept (hk3 := fun u1 => ?_) ..
  extract_lets +onlyGivenNames x2
  extract_lets +onlyGivenNames x3
  have hx3 : Kept u1 x3 := by
    subst x3
    refine Kept.seq (State.resolve_kept ..) ?_
    exact Kept.refl _
  clear_value x3
  refine Kept.seq (State.setTxe_kept ..) ?_
  exact hx3

theorem execTxUnresolved_kept (dt_a entry_a s_a) : KeptR s_a (execTxUnresolved dt_a entry_a s_a) := by
  unfold execTxUnresolved
  refine actIf_kept (hk3 := fun u1 => ?_) ..
  refine Kept.seq (State.raise_kept ..) ?_
  refine Kept.seq (State.setTxe_kept ..) ?_
  exact Kept.refl _

theorem State.resolved_kept (s_a port_a addr_a mac_a) : Kept s_a (State.resolved s_a port_a addr_a mac_a) := by
  unfold State.resolved
  refine Kept.foldl (fun u1 x2 => ?_) ?_
  · refine Kept.seq (State.refreshTx_kept ..) ?_
    refine Kept.seq (State.setTxe_kept ..) ?_
    exact Kept.refl _
  · exact Kept.refl _

theorem State.txContinue_kept (s_a old_a lead_a from__a boundary_a) : Kept s_a (State.txContinue s_a old_a lead_a from__a boundary_a) := by
  unfold State.txContinue
  extract_lets +onlyGivenNames x1
  extract_lets +onlyGivenNames x2
  extract_lets +onlyGivenNames x3
  extract_lets +onlyGivenNames x4
  extract_lets +onlyGivenNames x5
  extract_lets +onlyGivenNames x6
  extract_lets +onlyGivenNames x7
  have hx7 : Kept s_a x7 := by
    subst x7
    refine Kept.ite ?_ ?_
    · exact Kept.refl _
    · refine Kept.seq (State.setTxe_kept ..) ?_
      exact Kept.refl _
  clear_value x7
  refine Kept.foldl (fun u8 x9 => ?_) ?_
  · extract_lets +onlyGivenNames x10
    have hx10 : Kept u8 x10 := by
      subst x10
      refine Kept.seq (State.setN_kept ..) ?_
      refine Kept.seq (State.setN_kept ..) ?_
      exact Kept.refl _
    clear_value x10
    refine Kept.ite ?_ ?_
    · exact hx10
    · refine Kept.seq (State.refreshTx_kept ..) ?_
      refine Kept.seq (State.readdress_kept ..) ?_
      refine Kept.seq (State.setTxe_kept ..) ?_
      exact hx10
  · exact hx7

theorem State.txFlowCommit_kept (s_a old_a lead_a boundary_a) : Kept s_a (State.txFlowCommit s_a old_a lead_a boundary_a) := by
  unfold State.txFlowCommit
  split
  · refine Kept.seq (State.startTx_kept ..) ?_
    exact Kept.refl _
  · extract_lets +onlyGivenNames x1
    have hx1 : Kept s_a x1 := by
      subst x1
      refine Kept.seq (State.txContinue_kept ..) ?_
      exact Kept.refl _
    clear_value x1
    extract_lets +onlyGivenNames x2
    have hx2 : Kept s_a x2 := by
      subst x2
      refine Kept.ite ?_ ?_
      · refine Kept.seq (State.chooseSsrc_kept ..) ?_
        exact hx1
      · exact hx1
    clear_value x2
    refine Kept.ite ?_ ?_
    · refine Kept.seq (State.setTxe_kept ..) ?_
      exact hx2
    · exact hx2

theorem State.txCommit_kept (s_a old_a boundary_a) : Kept s_a (State.txCommit s_a old_a boundary_a) := by
  unfold State.txCommit
  extract_lets +onlyGivenNames x1
  extract_lets +onlyGivenNames x2
  extract_lets +onlyGivenNames x3
  have hx3 : Kept s_a x3 := by
    subst x3
    refine Kept.foldl (fun u4 x5 => ?_) ?_
    · refine Kept.seq (State.holdTx_kept ..) ?_
      exact Kept.refl _
    · exact Kept.refl _
  clear_value x3
  extract_lets +onlyGivenNames x6
  extract_lets +onlyGivenNames x7
  have hx7 : Kept s_a x7 := by
    subst x7
    refine Kept.foldl (fun u8 x9 => ?_) ?_
    · refine Kept.seq (State.txFlowCommit_kept ..) ?_
      exact Kept.refl _
    · exact hx3
  clear_value x7
  refine Kept.foldl (fun u10 x11 => ?_) ?_
  · extract_lets +onlyGivenNames x12
    extract_lets +onlyGivenNames x13
    extract_lets +onlyGivenNames x14
    extract_lets +onlyGivenNames x15
    have hx15 : Kept u10 x15 := by
      subst x15
      refine Kept.ite ?_ ?_
      · refine Kept.seq (State.readdress_kept ..) ?_
        exact Kept.refl _
      · exact Kept.refl _
    clear_value x15
    extract_lets +onlyGivenNames x16
    extract_lets +onlyGivenNames x17
    have hx17 : Kept u10 x17 := by
      subst x17
      refine Kept.ite ?_ ?_
      · exact hx15
      · refine Kept.seq (State.setN_kept ..) ?_
        refine Kept.seq (State.setTxe_kept ..) ?_
        exact hx15
    clear_value x17
    refine Kept.seq (State.refreshSdp_kept ..) ?_
    refine Kept.seq (State.refreshTx_kept ..) ?_
    exact hx17
  · exact hx7

end Sys2Proof.Machine
end

