-- ==== Sys2Proof/Laws/KeptLanes.lean ====
section
/-!
SUPPORT. That the functions of Machine/Lanes.lean keep the queue, never turn time back and keep a sound state sound
(`Kept` of Laws/Kept.lean).
-/
namespace Sys2Proof.Machine

theorem State.setSl_kept (s_a k_a x_a) : Kept s_a (State.setSl s_a k_a x_a) := by
  unfold State.setSl
  exact Kept.upd rfl rfl rfl rfl rfl rfl rfl rfl rfl rfl rfl

theorem State.setSaddle_kept (s_a st_a) : Kept s_a (State.setSaddle s_a st_a) := by
  unfold State.setSaddle
  extract_lets +onlyGivenNames x1
  refine Kept.ite ?_ ?_
  · exact Kept.refl _
  · extract_lets +onlyGivenNames x2
    have hx2 : Kept s_a x2 := by
      subst x2
      refine Kept.seq (State.setN_kept ..) ?_
      exact Kept.refl _
    clear_value x2
    extract_lets +onlyGivenNames x3
    have hx3 : Kept s_a x3 := by
      subst x3
      refine Kept.ite ?_ ?_
      · refine Kept.seq (State.raise_kept ..) ?_
        refine Kept.seq (State.bump_kept ..) ?_
        exact hx2
      · exact hx2
    clear_value x3
    extract_lets +onlyGivenNames x4
    extract_lets +onlyGivenNames x5
    have hx5 : Kept s_a x5 := by
      subst x5
      refine Kept.ite ?_ ?_
      · refine Kept.seq (Kept.upd (s := x3) rfl rfl rfl rfl rfl rfl rfl rfl rfl rfl rfl) ?_
        exact hx3
      · exact hx3
    clear_value x5
    refine Kept.ite ?_ ?_
    · refine Kept.seq (State.raise_kept ..) ?_
      exact hx5
    · exact hx5

theorem State.sendTrain_kept (s_a k_a) : Kept s_a (State.sendTrain s_a k_a) := by
  unfold State.sendTrain
  extract_lets +onlyGivenNames x1
  refine Kept.seq (State.emit_kept ..) ?_
  refine Kept.seq (State.setSl_kept ..) ?_
  exact Kept.refl _

theorem State.checkReady_kept (s_a) : Kept s_a (State.checkReady s_a) := by
  unfold State.checkReady
  extract_lets +onlyGivenNames x1
  extract_lets +onlyGivenNames x2
  extract_lets +onlyGivenNames x3
  have hx3 : Kept s_a x3 := by
    subst x3
    refine Kept.ite ?_ ?_
    · refine Kept.seq (State.raise_kept ..) ?_
      exact Kept.upd rfl rfl rfl rfl rfl rfl rfl rfl rfl rfl rfl
    · refine Kept.ite ?_ ?_
      · exact Kept.upd rfl rfl rfl rfl rfl rfl rfl rfl rfl rfl rfl
      · exact Kept.refl _
  clear_value x3
  refine Kept.ite ?_ ?_
  · refine Kept.seq (State.setSaddle_kept ..) ?_
    exact hx3
  · exact hx3

theorem State.checkAligned_kept (s_a) : Kept s_a (State.checkAligned s_a) := by
  unfold State.checkAligned
  split
  · exact Kept.refl _
  · refine Kept.ite ?_ ?_
    · refine Kept.seq (State.setSaddle_kept ..) ?_
      exact Kept.refl _
    · exact Kept.refl _

theorem State.saddleAlign_kept (s_a) : Kept s_a (State.saddleAlign s_a) := by
  unfold State.saddleAlign
  refine Kept.ite ?_ ?_
  · refine Kept.seq (State.setSaddle_kept ..) ?_
    exact Kept.refl _
  · exact Kept.refl _

theorem State.saddleLaneLost_kept (s_a k_a) : Kept s_a (State.saddleLaneLost s_a k_a) := by
  unfold State.saddleLaneLost
  extract_lets +onlyGivenNames x1
  extract_lets +onlyGivenNames x2
  extract_lets +onlyGivenNames x3
  have hx3 : Kept s_a x3 := by
    subst x3
    refine Kept.seq (State.setSl_kept ..) ?_
    exact Kept.refl _
  clear_value x3
  extract_lets +onlyGivenNames x4
  have hx4 : Kept s_a x4 := by
    subst x4
    refine Kept.seq (State.saddleAlign_kept ..) ?_
    exact hx3
  clear_value x4
  refine Kept.seq (Kept.upd (s := x4) rfl rfl rfl rfl rfl rfl rfl rfl rfl rfl rfl) ?_
  exact hx4

theorem State.setTaps_kept (s_a lane_a pre_a post_a) : Kept s_a (State.setTaps s_a lane_a pre_a post_a) := by
  unfold State.setTaps
  refine Kept.seq (State.setN_kept ..) ?_
  refine Kept.seq (State.setN_kept ..) ?_
  refine Kept.seq (State.setN_kept ..) ?_
  exact Kept.refl _

theorem State.presetTaps_kept (s_a lane_a) : Kept s_a (State.presetTaps s_a lane_a) := by
  unfold State.presetTaps
  refine Kept.seq (State.setTaps_kept ..) ?_
  exact Kept.refl _

theorem State.laneModeSet_kept (s_a lane_a) : Kept s_a (State.laneModeSet s_a lane_a) := by
  unfold State.laneModeSet
  extract_lets +onlyGivenNames x1
  extract_lets +onlyGivenNames x2
  have hx2 : Kept s_a x2 := by
    subst x2
    refine Kept.seq (State.setN_kept ..) ?_
    exact Kept.refl _
  clear_value x2
  extract_lets +onlyGivenNames x3
  have hx3 : Kept s_a x3 := by
    subst x3
    refine Kept.ite ?_ ?_
    · refine Kept.seq (State.setTaps_kept ..) ?_
      exact hx2
    · refine Kept.seq (State.presetTaps_kept ..) ?_
      exact hx2
  clear_value x3
  extract_lets +onlyGivenNames x4
  have hx4 : Kept s_a x4 := by
    subst x4
    refine Kept.ite ?_ ?_
    · exact hx3
    · refine Kept.seq (State.setN_kept ..) ?_
      exact hx3
  clear_value x4
  refine Kept.seq (State.refreshLane_kept ..) ?_
  exact hx4

theorem State.formSaddle_kept (s_a base_a config_a) : Kept s_a (State.formSaddle s_a base_a config_a) := by
  unfold State.formSaddle
  extract_lets +onlyGivenNames x1
  have hx1 : Kept s_a x1 := by
    subst x1
    exact Kept.upd rfl rfl rfl rfl rfl rfl rfl rfl rfl rfl rfl
  clear_value x1
  extract_lets +onlyGivenNames x2
  have hx2 : Kept s_a x2 := by
    subst x2
    refine Kept.foldl (fun u3 x4 => ?_) ?_
    · refine Kept.seq (State.setN_kept ..) ?_
      refine Kept.seq (State.setN_kept ..) ?_
      exact Kept.refl _
    · exact hx1
  clear_value x2
  extract_lets +onlyGivenNames x5
  have hx5 : Kept s_a x5 := by
    subst x5
    refine Kept.foldl (fun u6 x7 => ?_) ?_
    · refine Kept.seq (State.presetTaps_kept ..) ?_
      exact Kept.refl _
    · exact hx2
  clear_value x5
  refine Kept.seq (State.setN_kept ..) ?_
  exact hx5

theorem execLaneCdrLocked_kept (dt_a lane_a s_a) : KeptR s_a (execLaneCdrLocked dt_a lane_a s_a) := by
  unfold execLaneCdrLocked
  refine actIf_kept (hk3 := fun u1 => ?_) ..
  refine Kept.seq (State.setN_kept ..) ?_
  exact Kept.refl _

theorem execLaneClockLockLost_kept (dt_a lane_a s_a) : KeptR s_a (execLaneClockLockLost dt_a lane_a s_a) := by
  unfold execLaneClockLockLost
  refine actIf_kept (hk3 := fun u1 => ?_) ..
  extract_lets +onlyGivenNames x2
  have hx2 : Kept u1 x2 := by
    subst x2
    refine Kept.seq (State.setN_kept ..) ?_
    exact Kept.refl _
  clear_value x2
  split
  · refine Kept.seq (State.saddleLaneLost_kept ..) ?_
    exact hx2
  · exact hx2

theorem execLaneAligned_kept (dt_a lane_a s_a) : KeptR s_a (execLaneAligned dt_a lane_a s_a) := by
  unfold execLaneAligned
  refine actIf_kept (hk3 := fun u1 => ?_) ..
  extract_lets +onlyGivenNames x2
  have hx2 : Kept u1 x2 := by
    subst x2
    refine Kept.seq (State.raise_kept ..) ?_
    refine Kept.seq (State.setN_kept ..) ?_
    exact Kept.refl _
  clear_value x2
  split
  · refine Kept.seq (State.checkAligned_kept ..) ?_
    refine Kept.seq (State.setSl_kept ..) ?_
    exact hx2
  · exact hx2

theorem execLaneAlignLost_kept (dt_a lane_a invalid_a s_a) : KeptR s_a (execLaneAlignLost dt_a lane_a invalid_a s_a) := by
  unfold execLaneAlignLost
  refine actIf_kept (hk3 := fun u1 => ?_) ..
  extract_lets +onlyGivenNames x2
  have hx2 : Kept u1 x2 := by
    subst x2
    refine Kept.seq (State.raise_kept ..) ?_
    refine Kept.seq (State.bump_kept ..) ?_
    refine Kept.seq (State.setN_kept ..) ?_
    exact Kept.refl _
  clear_value x2
  split
  · refine Kept.seq (State.saddleLaneLost_kept ..) ?_
    exact hx2
  · exact hx2

theorem State.pllLocked_kept (s_a o_a p_a) : Kept s_a (State.pllLocked s_a o_a p_a) := by
  unfold State.pllLocked
  extract_lets +onlyGivenNames x1
  have hx1 : Kept s_a x1 := by
    subst x1
    refine Kept.seq (State.setBitN_kept ..) ?_
    exact Kept.refl _
  clear_value x1
  refine Kept.ite ?_ ?_
  · extract_lets +onlyGivenNames x2
    have hx2 : Kept s_a x2 := by
      subst x2
      refine Kept.seq (State.setSaddle_kept ..) ?_
      exact hx1
    clear_value x2
    refine Kept.foldl (fun u3 x4 => ?_) ?_
    · refine Kept.seq (State.setSl_kept ..) ?_
      exact Kept.refl _
    · exact hx2
  · exact hx1

theorem execEthPllLock_kept (dt_a octet_a s_a) : KeptR s_a (execEthPllLock dt_a octet_a s_a) := by
  unfold execEthPllLock
  refine actIf_kept (hk3 := fun u1 => ?_) ..
  refine Kept.seq (State.pllLocked_kept ..) ?_
  exact Kept.refl _

theorem execOctetPllLock_kept (dt_a octet_a pll_a s_a) : KeptR s_a (execOctetPllLock dt_a octet_a pll_a s_a) := by
  unfold execOctetPllLock
  refine actIf_kept (hk3 := fun u1 => ?_) ..
  refine Kept.seq (State.pllLocked_kept ..) ?_
  exact Kept.refl _

theorem State.idleSdiLanes_kept (s_a o_a p_a) : Kept s_a (State.idleSdiLanes s_a o_a p_a) := by
  unfold State.idleSdiLanes
  refine Kept.foldl (fun u1 x2 => ?_) ?_
  · extract_lets +onlyGivenNames x3
    refine Kept.ite ?_ ?_
    · refine Kept.seq (State.setN_kept ..) ?_
      refine Kept.ite ?_ ?_
      · refine Kept.seq (State.txIdleNow_kept ..) ?_
        exact Kept.refl _
      · exact Kept.refl _
    · exact Kept.refl _
  · exact Kept.refl _

theorem execOctetPllUnlock_kept (dt_a octet_a pll_a s_a) : KeptR s_a (execOctetPllUnlock dt_a octet_a pll_a s_a) := by
  unfold execOctetPllUnlock
  refine actIf_kept (hk3 := fun u1 => ?_) ..
  extract_lets +onlyGivenNames x2
  have hx2 : Kept u1 x2 := by
    subst x2
    refine Kept.seq (State.raise_kept ..) ?_
    refine Kept.seq (State.setBitN_kept ..) ?_
    exact Kept.refl _
  clear_value x2
  split
  · extract_lets +onlyGivenNames x3
    have hx3 : Kept u1 x3 := by
      subst x3
      refine Kept.foldl (fun u4 x5 => ?_) ?_
      · refine Kept.ite ?_ ?_
        · refine Kept.seq (State.refreshTxPort_kept ..) ?_
          refine Kept.seq (State.raise_kept ..) ?_
          refine Kept.seq (State.setN_kept ..) ?_
          exact Kept.refl _
        · exact Kept.refl _
      · exact hx2
    clear_value x3
    refine Kept.ite ?_ ?_
    · refine Kept.foldl (fun u6 x7 => ?_) ?_
      · refine Kept.seq (State.saddleLaneLost_kept ..) ?_
        exact Kept.refl _
      · refine Kept.seq (State.setSaddle_kept ..) ?_
        exact hx3
    · exact hx3
  · refine Kept.seq (State.idleSdiLanes_kept ..) ?_
    exact hx2

theorem execSpurRefLost_kept (dt_a input_a s_a) : KeptR s_a (execSpurRefLost dt_a input_a s_a) := by
  unfold execSpurRefLost
  refine actIf_kept (hk3 := fun u1 => ?_) ..
  refine Kept.foldl (fun u2 x3 => ?_) ?_
  · refine Kept.seq (State.setBitN_kept ..) ?_
    exact Kept.refl _
  · refine Kept.seq (State.setReason_kept ..) ?_
    refine Kept.seq (State.raise_kept ..) ?_
    refine Kept.seq (State.setN_kept ..) ?_
    exact Kept.refl _

theorem execSpurRefRestored_kept (dt_a input_a s_a) : KeptR s_a (execSpurRefRestored dt_a input_a s_a) := by
  unfold execSpurRefRestored
  refine actIf_kept (hk3 := fun u1 => ?_) ..
  extract_lets +onlyGivenNames x2
  extract_lets +onlyGivenNames x3
  have hx3 : Kept u1 x3 := by
    subst x3
    refine Kept.foldl (fun u4 x5 => ?_) ?_
    · refine Kept.seq (State.setBitN_kept ..) ?_
      exact Kept.refl _
    · refine Kept.seq (State.setN_kept ..) ?_
      exact Kept.refl _
  clear_value x3
  extract_lets +onlyGivenNames x6
  have hx6 : Kept u1 x6 := by
    subst x6
    refine Kept.seq (State.setReason_kept ..) ?_
    exact hx3
  clear_value x6
  refine Kept.ite ?_ ?_
  · refine Kept.seq (State.raise_kept ..) ?_
    exact hx6
  · exact hx6

theorem State.prbsSet_kept (s_a lane_a) : Kept s_a (State.prbsSet s_a lane_a) := by
  unfold State.prbsSet
  extract_lets +onlyGivenNames x1
  extract_lets +onlyGivenNames x2
  extract_lets +onlyGivenNames x3
  have hx3 : Kept s_a x3 := by
    subst x3
    refine Kept.seq (State.setN_kept ..) ?_
    exact Kept.refl _
  clear_value x3
  refine Kept.ite ?_ ?_
  · refine Kept.seq (State.setN_kept ..) ?_
    exact hx3
  · refine Kept.ite ?_ ?_
    · refine Kept.seq (State.setN_kept ..) ?_
      exact hx3
    · exact hx3

theorem State.prbsGenerator_kept (s_a lane_a) : Kept s_a (State.prbsGenerator s_a lane_a) := by
  unfold State.prbsGenerator
  refine Kept.ite ?_ ?_
  · refine Kept.seq (State.saddleAlign_kept ..) ?_
    exact Kept.refl _
  · exact Kept.refl _

theorem execLanePrbsLocked_kept (dt_a lane_a inverted_a s_a) : KeptR s_a (execLanePrbsLocked dt_a lane_a inverted_a s_a) := by
  unfold execLanePrbsLocked
  refine actIf_kept (hk3 := fun u1 => ?_) ..
  refine Kept.seq (State.raise_kept ..) ?_
  refine Kept.seq (State.setN_kept ..) ?_
  exact Kept.refl _

theorem execLanePrbsLost_kept (dt_a lane_a bits_a errors_a s_a) : KeptR s_a (execLanePrbsLost dt_a lane_a bits_a errors_a s_a) := by
  unfold execLanePrbsLost
  refine actIf_kept (hk3 := fun u1 => ?_) ..
  extract_lets +onlyGivenNames x2
  have hx2 : Kept u1 x2 := by
    subst x2
    refine Kept.seq (State.bump_kept ..) ?_
    refine Kept.seq (State.bump_kept ..) ?_
    exact Kept.refl _
  clear_value x2
  refine Kept.ite ?_ ?_
  · refine Kept.seq (State.raise_kept ..) ?_
    refine Kept.seq (State.bump_kept ..) ?_
    refine Kept.seq (State.setN_kept ..) ?_
    exact hx2
  · exact hx2

theorem State.hearLine_kept (s_a k_a line_a) : Kept s_a (State.hearLine s_a k_a line_a) := by
  unfold State.hearLine
  extract_lets +onlyGivenNames x1
  extract_lets +onlyGivenNames x2
  refine Kept.seq (State.bump_kept ..) ?_
  refine Kept.seq (State.bump_kept ..) ?_
  refine Kept.seq (State.setSl_kept ..) ?_
  exact Kept.refl _

theorem State.badWord_kept (s_a k_a) : Kept s_a (State.badWord s_a k_a) := by
  unfold State.badWord
  split
  · refine Kept.seq (State.bump_kept ..) ?_
    exact Kept.refl _
  · exact Kept.refl _

theorem State.deskew_kept (s : State) : Kept s s.deskew := by
  unfold State.deskew
  refine Kept.ite (Kept.refl s) ?_
  extract_lets +onlyGivenNames ms
  clear_value ms
  split
  · exact Kept.refl s
  · refine Kept.ite (Kept.refl s) ?_
    extract_lets +onlyGivenNames first last order
    clear_value first last order
    refine Kept.ite (Kept.ite (Kept.refl s) ?_) ?_
    · exact (State.raise_kept ..).seq (Kept.upd rfl rfl rfl rfl rfl rfl rfl rfl rfl rfl rfl)
    · exact (State.checkReady_kept ..).seq ((State.setSaddle_kept ..).seq ((State.setN_kept ..).seq (State.setN_kept ..)))

theorem State.takeMarker_kept (s_a lane_a p_a row_a data_a) : Kept s_a (State.takeMarker s_a lane_a p_a row_a data_a) := by
  unfold State.takeMarker
  extract_lets +onlyGivenNames x1
  extract_lets +onlyGivenNames x2
  extract_lets +onlyGivenNames x3
  extract_lets +onlyGivenNames x4
  extract_lets +onlyGivenNames x5
  extract_lets +onlyGivenNames x6
  extract_lets +onlyGivenNames x7
  have hx7 : Kept s_a x7 := by
    subst x7
    refine Kept.seq (State.setSl_kept ..) ?_
    exact Kept.refl _
  clear_value x7
  extract_lets +onlyGivenNames x8
  have hx8 : Kept s_a x8 := by
    subst x8
    refine Kept.ite ?_ ?_
    · refine Kept.seq (State.setN_kept ..) ?_
      exact hx7
    · exact hx7
  clear_value x8
  refine Kept.seq (State.deskew_kept ..) ?_
  refine Kept.seq (State.checkAligned_kept ..) ?_
  refine Kept.ite ?_ ?_
  · refine Kept.seq (State.saddleAlign_kept ..) ?_
    exact hx8
  · exact hx8

theorem execSaddleMarker_kept (dt_a lane_a before_a word_a row_a s_a) : KeptR s_a (execSaddleMarker dt_a lane_a before_a word_a row_a s_a) := by
  unfold execSaddleMarker
  refine actIf_kept (hk3 := fun u1 => ?_) ..
  extract_lets +onlyGivenNames x2
  have hx2 : Kept u1 x2 := by
    subst x2
    refine Kept.seq (State.hearLine_kept ..) ?_
    exact Kept.refl _
  clear_value x2
  split
  · exact hx2
  · extract_lets +onlyGivenNames x3
    refine Kept.ite ?_ ?_
    · exact hx2
    · refine Kept.ite ?_ ?_
      · refine Kept.seq (State.takeMarker_kept ..) ?_
        exact hx2
      · refine Kept.ite ?_ ?_
        · refine Kept.seq (State.badWord_kept ..) ?_
          exact hx2
        · exact hx2

theorem execMarkerMissing_kept (dt_a lane_a s_a) : KeptR s_a (execMarkerMissing dt_a lane_a s_a) := by
  unfold execMarkerMissing
  refine actIf_kept (hk3 := fun u1 => ?_) ..
  extract_lets +onlyGivenNames x2
  refine Kept.seq (State.saddleAlign_kept ..) ?_
  refine Kept.seq (State.setSl_kept ..) ?_
  exact Kept.refl _

theorem State.takeSeed_kept (s_a lane_a seed_a) : Kept s_a (State.takeSeed s_a lane_a seed_a) := by
  unfold State.takeSeed
  extract_lets +onlyGivenNames x1
  extract_lets +onlyGivenNames x2
  extract_lets +onlyGivenNames x3
  have hx3 : Kept s_a x3 := by
    subst x3
    refine Kept.seq (State.setSl_kept ..) ?_
    exact Kept.refl _
  clear_value x3
  extract_lets +onlyGivenNames x4
  have hx4 : Kept s_a x4 := by
    subst x4
    refine Kept.ite ?_ ?_
    · refine Kept.seq (State.raiseLimited_kept ..) ?_
      refine Kept.seq (State.bump_kept ..) ?_
      exact hx3
    · exact hx3
  clear_value x4
  refine Kept.seq (State.checkAligned_kept ..) ?_
  exact hx4

theorem execSaddleSeed_kept (dt_a lane_a before_a word_a s_a) : KeptR s_a (execSaddleSeed dt_a lane_a before_a word_a s_a) := by
  unfold execSaddleSeed
  refine actIf_kept (hk3 := fun u1 => ?_) ..
  extract_lets +onlyGivenNames x2
  have hx2 : Kept u1 x2 := by
    subst x2
    refine Kept.seq (State.hearLine_kept ..) ?_
    exact Kept.refl _
  clear_value x2
  split
  · exact hx2
  · refine Kept.ite ?_ ?_
    · exact hx2
    · refine Kept.ite ?_ ?_
      · refine Kept.seq (State.badWord_kept ..) ?_
        exact hx2
      · refine Kept.seq (State.takeSeed_kept ..) ?_
        exact hx2

theorem State.actRequest_kept (s_a k_a pre_a post_a seq_a) : Kept s_a (State.actRequest s_a k_a pre_a post_a seq_a) := by
  unfold State.actRequest
  extract_lets +onlyGivenNames x1
  extract_lets +onlyGivenNames x2
  refine Kept.ite ?_ ?_
  · exact Kept.refl _
  · extract_lets +onlyGivenNames x3
    extract_lets +onlyGivenNames x4
    refine Kept.ite ?_ ?_
    · refine Kept.seq (State.sendTrain_kept ..) ?_
      refine Kept.seq (State.setSl_kept ..) ?_
      refine Kept.seq (State.presetTaps_kept ..) ?_
      exact Kept.refl _
    · extract_lets +onlyGivenNames x5
      extract_lets +onlyGivenNames x6
      refine Kept.seq (State.sendTrain_kept ..) ?_
      refine Kept.seq (State.setSl_kept ..) ?_
      refine Kept.seq (State.setTaps_kept ..) ?_
      exact Kept.refl _

theorem State.takeTrain_kept (s_a lane_a payload_a) : Kept s_a (State.takeTrain s_a lane_a payload_a) := by
  unfold State.takeTrain
  extract_lets +onlyGivenNames x1
  extract_lets +onlyGivenNames x2
  have hx2 : Kept s_a x2 := by
    subst x2
    refine Kept.seq (State.actRequest_kept ..) ?_
    exact Kept.refl _
  clear_value x2
  extract_lets +onlyGivenNames x3
  extract_lets +onlyGivenNames x4
  extract_lets +onlyGivenNames x5
  extract_lets +onlyGivenNames x6
  have hx6 : Kept s_a x6 := by
    subst x6
    refine Kept.seq (State.setSl_kept ..) ?_
    exact hx2
  clear_value x6
  extract_lets +onlyGivenNames x7
  extract_lets +onlyGivenNames x8
  have hx8 : Kept s_a x8 := by
    subst x8
    refine Kept.ite ?_ ?_
    · refine Kept.seq (State.setSl_kept ..) ?_
      exact hx6
    · exact hx6
  clear_value x8
  refine Kept.ite ?_ ?_
  · refine Kept.seq (State.setSaddle_kept ..) ?_
    refine Kept.seq (State.setSl_kept ..) ?_
    exact hx8
  · refine Kept.seq (State.checkReady_kept ..) ?_
    exact hx8

theorem execSaddleTrainWord_kept (dt_a lane_a line_a s_a) : KeptR s_a (execSaddleTrainWord dt_a lane_a line_a s_a) := by
  unfold execSaddleTrainWord
  refine actIf_kept (hk3 := fun u1 => ?_) ..
  extract_lets +onlyGivenNames x2
  have hx2 : Kept u1 x2 := by
    subst x2
    refine Kept.seq (State.hearLine_kept ..) ?_
    exact Kept.refl _
  clear_value x2
  split
  · exact hx2
  · refine Kept.ite ?_ ?_
    · exact hx2
    · refine Kept.ite ?_ ?_
      · refine Kept.seq (State.badWord_kept ..) ?_
        exact hx2
      · refine Kept.seq (State.takeTrain_kept ..) ?_
        exact hx2

theorem State.requestTap_kept (s_a r_a inc_a step_a) : Kept s_a (State.requestTap s_a r_a inc_a step_a) := by
  unfold State.requestTap
  extract_lets +onlyGivenNames x1
  extract_lets +onlyGivenNames x2
  refine Kept.seq (State.sendTrain_kept ..) ?_
  refine Kept.seq (State.setSl_kept ..) ?_
  exact Kept.refl _

theorem State.laneDone_kept (s_a r_a) : Kept s_a (State.laneDone s_a r_a) := by
  unfold State.laneDone
  refine Kept.seq (State.checkReady_kept ..) ?_
  refine Kept.seq (State.sendTrain_kept ..) ?_
  refine Kept.seq (State.setSl_kept ..) ?_
  exact Kept.refl _

theorem State.leaveTap_kept (s_a r_a) : Kept s_a (State.leaveTap s_a r_a) := by
  unfold State.leaveTap
  extract_lets +onlyGivenNames x1
  refine Kept.ite ?_ ?_
  · refine Kept.seq (State.laneDone_kept ..) ?_
    exact Kept.refl _
  · refine Kept.seq (State.requestTap_kept ..) ?_
    refine Kept.seq (State.setSl_kept ..) ?_
    exact Kept.refl _

theorem execSaddleTrainStep_kept (dt_a lane_a eye_a s_a) : KeptR s_a (execSaddleTrainStep dt_a lane_a eye_a s_a) := by
  unfold execSaddleTrainStep
  refine actIf_kept (hk3 := fun u1 => ?_) ..
  extract_lets +onlyGivenNames x2
  have hx2 : Kept u1 x2 := by
    subst x2
    refine Kept.seq (State.setN_kept ..) ?_
    exact Kept.refl _
  clear_value x2
  extract_lets +onlyGivenNames x3
  extract_lets +onlyGivenNames x4
  refine Kept.ite ?_ ?_
  · refine Kept.seq (State.laneDone_kept ..) ?_
    exact hx2
  · split
    · refine Kept.seq (State.requestTap_kept ..) ?_
      refine Kept.seq (State.setSl_kept ..) ?_
      exact hx2
    · refine Kept.ite ?_ ?_
      · refine Kept.seq (State.leaveTap_kept ..) ?_
        exact hx2
      · refine Kept.ite ?_ ?_
        · refine Kept.seq (State.requestTap_kept ..) ?_
          refine Kept.seq (State.setSl_kept ..) ?_
          exact hx2
        · refine Kept.seq (State.requestTap_kept ..) ?_
          exact hx2
    · refine Kept.ite ?_ ?_
      · refine Kept.seq (State.requestTap_kept ..) ?_
        refine Kept.seq (State.setSl_kept ..) ?_
        exact hx2
      · refine Kept.seq (State.leaveTap_kept ..) ?_
        exact hx2
    · exact hx2

theorem State.slipLane_kept (s_a k_a) : Kept s_a (State.slipLane s_a k_a) := by
  unfold State.slipLane
  split
  · exact Kept.refl _
  · extract_lets +onlyGivenNames x1
    extract_lets +onlyGivenNames x2
    have hx2 : Kept s_a x2 := by
      subst x2
      refine Kept.seq (State.setSl_kept ..) ?_
      exact Kept.refl _
    clear_value x2
    refine Kept.ite ?_ ?_
    · refine Kept.seq (State.saddleLaneLost_kept ..) ?_
      refine Kept.seq (State.setN_kept ..) ?_
      exact hx2
    · exact hx2

theorem execSaddleAutoSlip_kept (dt_a s_a) : KeptR s_a (execSaddleAutoSlip dt_a s_a) := by
  unfold execSaddleAutoSlip
  refine actIf_kept (hk3 := fun u1 => ?_) ..
  extract_lets +onlyGivenNames x2
  refine Kept.foldl (fun u3 x4 => ?_) ?_
  · extract_lets +onlyGivenNames x5
    refine Kept.ite ?_ ?_
    · extract_lets +onlyGivenNames x6
      refine Kept.seq (State.slipLane_kept ..) ?_
      refine Kept.seq (State.setSl_kept ..) ?_
      exact Kept.refl _
    · exact Kept.refl _
  · exact Kept.refl _

theorem State.trainRequest_kept (s_a r_a v_a) : Kept s_a (State.trainRequest s_a r_a v_a) := by
  unfold State.trainRequest
  extract_lets +onlyGivenNames x1
  refine Kept.seq (State.sendTrain_kept ..) ?_
  refine Kept.seq (State.setSl_kept ..) ?_
  exact Kept.refl _

theorem State.saddleRestart_kept (s : State) : Kept s s.saddleRestart := by
  unfold State.saddleRestart
  split
  · exact Kept.refl s
  · rename_i b _
    have ht : Kept s (eight.foldl (fun (u : State) k => (u.setSl k {}).presetTaps (b + k)) s) :=
      Kept.foldl (fun _ _ => (State.presetTaps_kept ..).seq (State.setSl_kept ..)) (Kept.refl s)
    generalize eight.foldl (fun (u : State) k => (u.setSl k {}).presetTaps (b + k)) s = t at ht ⊢
    extract_lets +onlyGivenNames t1 src u
    have hu : Kept s u := Kept.seq (t := t) (Kept.upd rfl rfl rfl rfl rfl rfl rfl rfl rfl rfl rfl) ht
    exact Kept.ite hu ((State.setSaddle_kept ..).seq hu)

theorem State.hearLines_kept (s_a lines_a) : Kept s_a (State.hearLines s_a lines_a) := by
  unfold State.hearLines
  refine Kept.foldl (fun u1 x2 => ?_) ?_
  · refine Kept.seq (State.hearLine_kept ..) ?_
    exact Kept.refl _
  · exact Kept.refl _

end Sys2Proof.Machine
end

