-- ==== Sys2Proof/Laws/KeptRidge.lean ====
section
/-!
SUPPORT. That the functions of Machine/Ridge.lean keep the queue, never turn time back and keep a sound state sound
(`Kept` of Laws/Kept.lean).
-/
namespace Sys2Proof.Machine

theorem State.beginWrite_kept (s_a slot_a arrivals_a) : Kept s_a (State.beginWrite s_a slot_a arrivals_a) := by
  unfold State.beginWrite
  split
  · extract_lets +onlyGivenNames x1
    have hx1 : Kept s_a x1 := by
      subst x1
      refine Kept.seq (State.applyPids_kept ..) ?_
      exact Kept.refl _
    clear_value x1
    extract_lets +onlyGivenNames x2
    refine Kept.ite ?_ ?_
    · extract_lets +onlyGivenNames x3
      refine Kept.seq (State.ancBegin_kept ..) ?_
      refine Kept.seq (State.startFrame_kept ..) ?_
      exact hx1
    · exact hx1
  · exact Kept.refl _

theorem State.endWrite_kept (s_a slot_a) : Kept s_a (State.endWrite s_a slot_a) := by
  unfold State.endWrite
  split
  · refine Kept.seq (State.finishFrame_kept ..) ?_
    exact Kept.refl _
  · exact Kept.refl _

theorem execSourceFrameWrite_kept (dt_a slot_a part_a s_a) : KeptR s_a (execSourceFrameWrite dt_a slot_a part_a s_a) := by
  unfold execSourceFrameWrite
  refine actIf_kept (hk3 := fun u1 => ?_) ..
  extract_lets +onlyGivenNames x2
  split
  · refine Kept.seq (State.beginWrite_kept ..) ?_
    exact Kept.refl _
  · split
    · refine Kept.ite ?_ ?_
      · refine Kept.seq (State.setSrc_kept ..) ?_
        exact Kept.refl _
      · exact Kept.refl _
    · exact Kept.refl _
  · refine Kept.ite ?_ ?_
    · refine Kept.seq (State.endWrite_kept ..) ?_
      exact Kept.refl _
    · exact Kept.refl _
  · split
    · refine Kept.seq (State.ancAbandon_kept ..) ?_
      refine Kept.seq (State.abandonFrame_kept ..) ?_
      exact Kept.refl _
    · exact Kept.refl _

theorem execGeneratorFrameWrite_kept (dt_a slot_a s_a) : KeptR s_a (execGeneratorFrameWrite dt_a slot_a s_a) := by
  unfold execGeneratorFrameWrite
  refine actIf_kept (hk3 := fun u1 => ?_) ..
  split
  · extract_lets +onlyGivenNames x2
    extract_lets +onlyGivenNames x3
    refine Kept.ite ?_ ?_
    · exact Kept.refl _
    · extract_lets +onlyGivenNames x4
      extract_lets +onlyGivenNames x5
      have hx5 : Kept u1 x5 := by
        subst x5
        refine Kept.seq (State.refreshSlot_kept ..) ?_
        exact Kept.refl _
      clear_value x5
      extract_lets +onlyGivenNames x6
      have hx6 : Kept u1 x6 := by
        subst x6
        refine Kept.seq (State.startFrame_kept ..) ?_
        exact hx5
      clear_value x6
      refine Kept.seq (State.setSrc_kept ..) ?_
      exact hx6
  · exact Kept.refl _

theorem execDestinationReadStart_kept (dt_a dst_a s_a) : KeptR s_a (execDestinationReadStart dt_a dst_a s_a) := by
  unfold execDestinationReadStart
  refine actIf_kept (hk3 := fun u1 => ?_) ..
  split
  extract_lets +onlyGivenNames x2
  have hx2 : Kept u1 x2 := by
    subst x2
    refine Kept.seq (State.readStart_kept ..) ?_
    exact Kept.refl _
  clear_value x2
  split
  · refine Kept.seq (State.recordFrame_kept ..) ?_
    refine Kept.seq (State.emitLedger_kept ..) ?_
    exact hx2
  · refine Kept.seq (State.delayFrame_kept ..) ?_
    refine Kept.seq (State.emitLedger_kept ..) ?_
    exact hx2
  · exact hx2

theorem execPartialFrame_kept (dt_a dst_a line_a s_a) : KeptR s_a (execPartialFrame dt_a dst_a line_a s_a) := by
  unfold execPartialFrame
  refine actIf_kept (hk3 := fun u1 => ?_) ..
  split
  · refine Kept.ite ?_ ?_
    · exact Kept.refl _
    · split
      · refine Kept.ite ?_ ?_
        · exact Kept.refl _
        · extract_lets +onlyGivenNames x2
          extract_lets +onlyGivenNames x3
          have hx3 : Kept u1 x3 := by
            subst x3
            refine Kept.seq (State.repaint_kept ..) ?_
            exact Kept.refl _
          clear_value x3
          refine Kept.seq (State.raiseLimited_kept ..) ?_
          refine Kept.seq (State.bump_kept ..) ?_
          exact hx3
      · exact Kept.refl _
  · exact Kept.refl _

end Sys2Proof.Machine
end

