-- ==== Sys2Proof/Laws/KeptMediaRx.lean ====
section
/-!
SUPPORT. That the functions of Machine/MediaRx.lean keep the queue, never turn time back and keep a sound state sound
(`Kept` of Laws/Kept.lean).
-/
namespace Sys2Proof.Machine

theorem State.setPre_kept (s_a e_a x_a) : Kept s_a (State.setPre s_a e_a x_a) := by
  unfold State.setPre
  exact Kept.upd rfl rfl rfl rfl rfl rfl rfl rfl rfl rfl rfl

theorem State.report_kept (s_a port_a r_a) : Kept s_a (State.report s_a port_a r_a) := by
  unfold State.report
  extract_lets +onlyGivenNames x1
  extract_lets +onlyGivenNames x2
  extract_lets +onlyGivenNames x3
  extract_lets +onlyGivenNames x4
  extract_lets +onlyGivenNames x5
  refine Kept.ite ?_ ?_
  · refine Kept.seq (State.emit_kept ..) ?_
    refine Kept.seq (State.countTx_kept ..) ?_
    exact Kept.refl _
  · exact Kept.refl _

theorem State.changeReport_kept (s_a port_a r_a) : Kept s_a (State.changeReport s_a port_a r_a) := by
  unfold State.changeReport
  extract_lets +onlyGivenNames x1
  have hx1 : Kept s_a x1 := by
    subst x1
    refine Kept.seq (State.report_kept ..) ?_
    exact Kept.refl _
  clear_value x1
  extract_lets +onlyGivenNames x2
  extract_lets +onlyGivenNames x3
  extract_lets +onlyGivenNames x4
  refine Kept.seq (State.setPort_kept ..) ?_
  exact hx1

theorem State.syncPort_kept (s_a port_a) : Kept s_a (State.syncPort s_a port_a) := by
  unfold State.syncPort
  extract_lets +onlyGivenNames x1
  extract_lets +onlyGivenNames x2
  extract_lets +onlyGivenNames x3
  extract_lets +onlyGivenNames x4
  have hx4 : Kept s_a x4 := by
    subst x4
    refine Kept.seq (State.setPort_kept ..) ?_
    exact Kept.refl _
  clear_value x4
  extract_lets +onlyGivenNames x5
  extract_lets +onlyGivenNames x6
  refine Kept.foldl (fun u7 x8 => ?_) ?_
  · refine Kept.seq (State.changeReport_kept ..) ?_
    exact Kept.refl _
  · exact hx4

theorem State.syncMembership_kept (s_a) : Kept s_a (State.syncMembership s_a) := by
  unfold State.syncMembership
  refine Kept.foldl (fun u1 x2 => ?_) ?_
  · refine Kept.seq (State.syncPort_kept ..) ?_
    exact Kept.refl _
  · exact Kept.refl _

theorem execReportRetransmit_kept (dt_a port_a group_a s_a) : KeptR s_a (execReportRetransmit dt_a port_a group_a s_a) := by
  unfold execReportRetransmit
  refine actIf_kept (hk3 := fun u1 => ?_) ..
  extract_lets +onlyGivenNames x2
  split
  · refine Kept.ite ?_ ?_
    · exact Kept.refl _
    · extract_lets +onlyGivenNames x3
      extract_lets +onlyGivenNames x4
      refine Kept.seq (State.report_kept ..) ?_
      refine Kept.seq (State.setPort_kept ..) ?_
      exact Kept.refl _
  · exact Kept.refl _

theorem State.refreshRxSlot_kept (s_a lead_a) : Kept s_a (State.refreshRxSlot s_a lead_a) := by
  unfold State.refreshRxSlot
  extract_lets +onlyGivenNames x1
  refine Kept.ite ?_ ?_
  · refine Kept.seq (State.refreshSlot_kept ..) ?_
    exact Kept.refl _
  · exact Kept.refl _

theorem State.setFlow_kept (s_a lead_a st_a) : Kept s_a (State.setFlow s_a lead_a st_a) := by
  unfold State.setFlow
  extract_lets +onlyGivenNames x1
  extract_lets +onlyGivenNames x2
  have hx2 : Kept s_a x2 := by
    subst x2
    refine Kept.foldl (fun u3 x4 => ?_) ?_
    · refine Kept.seq (State.setN_kept ..) ?_
      exact Kept.refl _
    · exact Kept.refl _
  clear_value x2
  extract_lets +onlyGivenNames x5
  have hx5 : Kept s_a x5 := by
    subst x5
    refine Kept.ite ?_ ?_
    · refine Kept.seq (State.raise_kept ..) ?_
      exact hx2
    · exact hx2
  clear_value x5
  extract_lets +onlyGivenNames x6
  have hx6 : Kept s_a x6 := by
    subst x6
    refine Kept.seq (State.clearEmb_kept ..) ?_
    exact hx5
  clear_value x6
  extract_lets +onlyGivenNames x7
  have hx7 : Kept s_a x7 := by
    subst x7
    refine Kept.ite ?_ ?_
    · refine Kept.seq (State.raise_kept ..) ?_
      exact hx6
    · exact hx6
  clear_value x7
  extract_lets +onlyGivenNames x8
  have hx8 : Kept s_a x8 := by
    subst x8
    refine Kept.ite ?_ ?_
    · refine Kept.foldl (fun u9 x10 => ?_) ?_
      · refine Kept.seq (State.raise_kept ..) ?_
        exact Kept.refl _
      · exact hx7
    · exact hx5
  clear_value x8
  refine Kept.ite ?_ ?_
  · exact hx8
  · refine Kept.seq (State.refreshRxSlot_kept ..) ?_
    exact hx8

theorem State.enterWaiting_kept (s_a lead_a) : Kept s_a (State.enterWaiting s_a lead_a) := by
  unfold State.enterWaiting
  extract_lets +onlyGivenNames x1
  extract_lets +onlyGivenNames x2
  have hx2 : Kept s_a x2 := by
    subst x2
    refine Kept.seq (State.setFlow_kept ..) ?_
    exact Kept.refl _
  clear_value x2
  refine Kept.foldl (fun u3 x4 => ?_) ?_
  · refine Kept.seq (State.toDefault_kept ..) ?_
    refine Kept.seq (State.setRxe_kept ..) ?_
    exact Kept.refl _
  · exact hx2

theorem State.recordSkew_kept (s_a e_a v_a) : Kept s_a (State.recordSkew s_a e_a v_a) := by
  unfold State.recordSkew
  extract_lets +onlyGivenNames x1
  refine Kept.ite ?_ ?_
  · refine Kept.seq (State.setI_kept ..) ?_
    refine Kept.seq (State.setI_kept ..) ?_
    exact Kept.refl _
  · refine Kept.seq (State.setI_kept ..) ?_
    refine Kept.seq (State.setI_kept ..) ?_
    refine Kept.seq (State.setRxe_kept ..) ?_
    exact Kept.refl _

theorem State.recordPair_kept (s_a e_a x_a) : Kept s_a (State.recordPair s_a e_a x_a) := by
  unfold State.recordPair
  split
  · refine Kept.seq (State.recordSkew_kept ..) ?_
    refine Kept.seq (State.recordSkew_kept ..) ?_
    exact Kept.refl _
  · exact Kept.refl _

theorem State.measurePair_kept (s_a lead_a e_a q_a) : Kept s_a (State.measurePair s_a lead_a e_a q_a) := by
  unfold State.measurePair
  refine Kept.ite ?_ ?_
  · exact Kept.refl _
  · extract_lets +onlyGivenNames x1
    refine Kept.seq (State.recordPair_kept ..) ?_
    refine Kept.seq (State.setRxe_kept ..) ?_
    exact Kept.refl _

theorem State.recordTransit_kept (s_a c_a e_a p_a measured_a) : Kept s_a (State.recordTransit s_a c_a e_a p_a measured_a) := by
  unfold State.recordTransit
  refine Kept.ite ?_ ?_
  · refine Kept.seq (State.setRxe_kept ..) ?_
    exact Kept.refl _
  · exact Kept.refl _

theorem State.measureTransit_kept (s_a e_a q_a p_a) : Kept s_a (State.measureTransit s_a e_a q_a p_a) := by
  unfold State.measureTransit
  extract_lets +onlyGivenNames x1
  refine Kept.seq (State.recordTransit_kept ..) ?_
  refine Kept.seq (State.setRxe_kept ..) ?_
  exact Kept.refl _

theorem State.premeasure_kept (s_a c_a e_a p_a) : Kept s_a (State.premeasure s_a c_a e_a p_a) := by
  unfold State.premeasure
  extract_lets +onlyGivenNames x1
  extract_lets +onlyGivenNames x2
  extract_lets +onlyGivenNames x3
  extract_lets +onlyGivenNames x4
  extract_lets +onlyGivenNames x5
  extract_lets +onlyGivenNames x6
  have hx6 : Kept s_a x6 := by
    subst x6
    refine Kept.seq (State.bump_kept ..) ?_
    refine Kept.seq (State.setPre_kept ..) ?_
    exact Kept.refl _
  clear_value x6
  extract_lets +onlyGivenNames x7
  extract_lets +onlyGivenNames x8
  have hx8 : Kept s_a x8 := by
    subst x8
    refine Kept.seq (State.setPre_kept ..) ?_
    exact hx6
  clear_value x8
  extract_lets +onlyGivenNames x9
  have hx9 : Kept s_a x9 := by
    subst x9
    refine Kept.ite ?_ ?_
    · refine Kept.seq (State.bump_kept ..) ?_
      exact hx8
    · exact hx8
  clear_value x9
  extract_lets +onlyGivenNames x10
  extract_lets +onlyGivenNames x11
  have hx11 : Kept s_a x11 := by
    subst x11
    refine Kept.seq (State.recordTransit_kept ..) ?_
    refine Kept.seq (State.setPre_kept ..) ?_
    exact hx9
  clear_value x11
  refine Kept.ite ?_ ?_
  · exact hx11
  · extract_lets +onlyGivenNames x12
    refine Kept.seq (State.recordPair_kept ..) ?_
    refine Kept.seq (State.setPre_kept ..) ?_
    exact hx11

theorem State.pathCopy_kept (s_a e_a inTime_a) : Kept s_a (State.pathCopy s_a e_a inTime_a) := by
  unfold State.pathCopy
  extract_lets +onlyGivenNames x1
  extract_lets +onlyGivenNames x2
  refine Kept.seq (State.setRxe_kept ..) ?_
  exact Kept.refl _

theorem State.bufferPkt_kept (s_a lead_a e_a q_a p_a) : Kept s_a (State.bufferPkt s_a lead_a e_a q_a p_a) := by
  unfold State.bufferPkt
  extract_lets +onlyGivenNames x1
  refine Kept.ite ?_ ?_
  · refine Kept.seq (State.raiseLimited_kept ..) ?_
    refine Kept.seq (State.bump_kept ..) ?_
    exact Kept.refl _
  · extract_lets +onlyGivenNames x2
    have hx2 : Kept s_a x2 := by
      subst x2
      refine Kept.seq (State.setRxe_kept ..) ?_
      exact Kept.refl _
    clear_value x2
    extract_lets +onlyGivenNames x3
    have hx3 : Kept s_a x3 := by
      subst x3
      refine Kept.seq (State.setN_kept ..) ?_
      exact hx2
    clear_value x3
    refine Kept.seq (State.setRxe_kept ..) ?_
    exact hx3

theorem State.ancLost_kept (s_a e_a count_a) : Kept s_a (State.ancLost s_a e_a count_a) := by
  unfold State.ancLost
  refine Kept.ite ?_ ?_
  · exact Kept.refl _
  · refine Kept.seq (State.raiseLimited_kept ..) ?_
    refine Kept.seq (State.bump_kept ..) ?_
    exact Kept.refl _

theorem State.bufferCopy_kept (s_a lead_a e_a q_a p_a) : Kept s_a (State.bufferCopy s_a lead_a e_a q_a p_a) := by
  unfold State.bufferCopy
  extract_lets +onlyGivenNames x1
  refine Kept.ite ?_ ?_
  · refine Kept.seq (State.bufferPkt_kept ..) ?_
    refine Kept.seq (State.ancLost_kept ..) ?_
    exact Kept.refl _
  · refine Kept.seq (State.bufferPkt_kept ..) ?_
    exact Kept.refl _

theorem State.acceptPkt_kept (s_a lead_a e_a p_a) : Kept s_a (State.acceptPkt s_a lead_a e_a p_a) := by
  unfold State.acceptPkt
  extract_lets +onlyGivenNames x1
  extract_lets +onlyGivenNames x2
  extract_lets +onlyGivenNames x3
  extract_lets +onlyGivenNames x4
  extract_lets +onlyGivenNames x5
  have hx5 : Kept s_a x5 := by
    subst x5
    refine Kept.seq (State.setRxe_kept ..) ?_
    exact Kept.refl _
  clear_value x5
  extract_lets +onlyGivenNames x6
  have hx6 : Kept s_a x6 := by
    subst x6
    refine Kept.ite ?_ ?_
    · refine Kept.seq (State.setFlow_kept ..) ?_
      exact hx5
    · exact hx5
  clear_value x6
  extract_lets +onlyGivenNames x7
  have hx7 : Kept s_a x7 := by
    subst x7
    refine Kept.ite ?_ ?_
    · refine Kept.seq (State.setFlow_kept ..) ?_
      exact hx6
    · exact hx6
  clear_value x7
  extract_lets +onlyGivenNames x8
  have hx8 : Kept s_a x8 := by
    subst x8
    refine Kept.seq (State.bump_kept ..) ?_
    exact hx7
  clear_value x8
  extract_lets +onlyGivenNames x9
  extract_lets +onlyGivenNames x10
  have hx10 : Kept s_a x10 := by
    subst x10
    refine Kept.seq (State.setRxe_kept ..) ?_
    exact hx8
  clear_value x10
  extract_lets +onlyGivenNames x11
  have hx11 : Kept s_a x11 := by
    subst x11
    refine Kept.ite ?_ ?_
    · refine Kept.seq (State.bump_kept ..) ?_
      exact hx10
    · exact hx10
  clear_value x11
  extract_lets +onlyGivenNames x12
  have hx12 : Kept s_a x12 := by
    subst x12
    refine Kept.seq (State.measurePair_kept ..) ?_
    refine Kept.seq (State.measureTransit_kept ..) ?_
    exact hx11
  clear_value x12
  extract_lets +onlyGivenNames x13
  extract_lets +onlyGivenNames x14
  have hx14 : Kept s_a x14 := by
    subst x14
    refine Kept.seq (State.pathCopy_kept ..) ?_
    exact hx12
  clear_value x14
  refine Kept.ite ?_ ?_
  · extract_lets +onlyGivenNames x15
    have hx15 : Kept s_a x15 := by
      subst x15
      refine Kept.seq (State.bump_kept ..) ?_
      exact hx14
    clear_value x15
    refine Kept.ite ?_ ?_
    · exact hx15
    · refine Kept.seq (State.raiseLimited_kept ..) ?_
      exact hx15
  · refine Kept.ite ?_ ?_
    · extract_lets +onlyGivenNames x16
      refine Kept.seq (State.bump_kept ..) ?_
      refine Kept.seq (State.setRxe_kept ..) ?_
      exact hx14
    · refine Kept.seq (State.bufferCopy_kept ..) ?_
      exact hx14

theorem State.receive_kept (s_a e_a p_a) : Kept s_a (State.receive s_a e_a p_a) := by
  unfold State.receive
  extract_lets +onlyGivenNames x1
  refine Kept.ite ?_ ?_
  · exact Kept.refl _
  · refine Kept.ite ?_ ?_
    · refine Kept.seq (State.raiseLimited_kept ..) ?_
      refine Kept.seq (State.bump_kept ..) ?_
      exact Kept.refl _
    · refine Kept.seq (State.acceptPkt_kept ..) ?_
      exact Kept.refl _

theorem State.ancStore_kept (s_a lead_a slot_a seq_a l_a) : Kept s_a (State.ancStore s_a lead_a slot_a seq_a l_a) := by
  unfold State.ancStore
  refine Kept.foldl (fun u1 x2 => ?_) ?_
  · split
    · exact Kept.refl _
    · refine Kept.ite ?_ ?_
      · exact Kept.refl _
      · refine Kept.ite ?_ ?_
        · extract_lets +onlyGivenNames x3
          have hx3 : Kept u1 x3 := by
            subst x3
            refine Kept.seq (State.setSrc_kept ..) ?_
            exact Kept.refl _
          clear_value x3
          refine Kept.ite ?_ ?_
          · exact hx3
          · refine Kept.seq (State.raise_kept ..) ?_
            exact hx3
        · refine Kept.seq (State.attachAnc_kept ..) ?_
          exact Kept.refl _
  · exact Kept.refl _

theorem State.attachWaiting_kept (s_a slot_a seq_a) : Kept s_a (State.attachWaiting s_a slot_a seq_a) := by
  unfold State.attachWaiting
  refine Kept.foldl (fun u1 x2 => ?_) ?_
  · split
    · exact Kept.refl _
    · extract_lets +onlyGivenNames x3
      extract_lets +onlyGivenNames x4
      refine Kept.seq (State.ancStore_kept ..) ?_
      refine Kept.seq (State.setRxe_kept ..) ?_
      exact Kept.refl _
  · exact Kept.refl _

theorem State.deliverAnc_kept (s_a lead_a r_a) : Kept s_a (State.deliverAnc s_a lead_a r_a) := by
  unfold State.deliverAnc
  extract_lets +onlyGivenNames x1
  extract_lets +onlyGivenNames x2
  split
  · refine Kept.seq (State.ancStore_kept ..) ?_
    exact Kept.refl _
  · refine Kept.ite ?_ ?_
    · exact Kept.refl _
    · refine Kept.seq (State.setRxe_kept ..) ?_
      exact Kept.refl _

theorem State.copyPixels_kept (s_a slot_a seq_a spans_a) : Kept s_a (State.copyPixels s_a slot_a seq_a spans_a) := by
  unfold State.copyPixels
  refine Kept.seq (State.amendPic_kept ..) ?_
  exact Kept.refl _

theorem State.endAssembly_kept (s_a lead_a) : Kept s_a (State.endAssembly s_a lead_a) := by
  unfold State.endAssembly
  extract_lets +onlyGivenNames x1
  split
  · exact Kept.refl _
  · extract_lets +onlyGivenNames x2
    extract_lets +onlyGivenNames x3
    extract_lets +onlyGivenNames x4
    extract_lets +onlyGivenNames x5
    extract_lets +onlyGivenNames x6
    have hx6 : Kept s_a x6 := by
      subst x6
      refine Kept.seq (State.setRxe_kept ..) ?_
      exact Kept.refl _
    clear_value x6
    refine Kept.ite ?_ ?_
    · refine Kept.seq (State.finishFrame_kept ..) ?_
      exact hx6
    · refine Kept.ite ?_ ?_
      · refine Kept.seq (State.raiseLimited_kept ..) ?_
        refine Kept.seq (State.bump_kept ..) ?_
        refine Kept.seq (State.finishFrame_kept ..) ?_
        refine Kept.seq (State.copyPixels_kept ..) ?_
        exact hx6
      · refine Kept.seq (State.raise_kept ..) ?_
        refine Kept.seq (State.bump_kept ..) ?_
        refine Kept.seq (State.abandonFrame_kept ..) ?_
        exact hx6

theorem State.beginAssembly_kept (s_a lead_a release_a r_a) : Kept s_a (State.beginAssembly s_a lead_a release_a r_a) := by
  unfold State.beginAssembly
  extract_lets +onlyGivenNames x1
  extract_lets +onlyGivenNames x2
  extract_lets +onlyGivenNames x3
  extract_lets +onlyGivenNames x4
  extract_lets +onlyGivenNames x5
  have hx5 : Kept s_a x5 := by
    subst x5
    refine Kept.seq (State.startFrame_kept ..) ?_
    exact Kept.refl _
  clear_value x5
  extract_lets +onlyGivenNames x6
  extract_lets +onlyGivenNames x7
  have hx7 : Kept s_a x7 := by
    subst x7
    refine Kept.seq (State.setRxe_kept ..) ?_
    exact hx5
  clear_value x7
  refine Kept.seq (State.attachWaiting_kept ..) ?_
  exact hx7

theorem State.placeSegments_kept (s_a lead_a lost_a p_a) : Kept s_a (State.placeSegments s_a lead_a lost_a p_a) := by
  unfold State.placeSegments
  extract_lets +onlyGivenNames x1
  extract_lets +onlyGivenNames x2
  extract_lets +onlyGivenNames x3
  extract_lets +onlyGivenNames x4
  have hx4 : Kept s_a x4 := by
    subst x4
    refine Kept.ite ?_ ?_
    · exact Kept.refl _
    · refine Kept.seq (State.raiseLimited_kept ..) ?_
      refine Kept.seq (State.bump_kept ..) ?_
      exact Kept.refl _
  clear_value x4
  split
  · exact hx4
  · extract_lets +onlyGivenNames x5
    extract_lets +onlyGivenNames x6
    extract_lets +onlyGivenNames x7
    extract_lets +onlyGivenNames x8
    extract_lets +onlyGivenNames x9
    extract_lets +onlyGivenNames x10
    extract_lets +onlyGivenNames x11
    extract_lets +onlyGivenNames x12
    extract_lets +onlyGivenNames x13
    have hx13 : Kept s_a x13 := by
      subst x13
      refine Kept.seq (State.copyPixels_kept ..) ?_
      refine Kept.seq (State.setRxe_kept ..) ?_
      exact hx4
    clear_value x13
    refine Kept.seq (State.setSrc_kept ..) ?_
    exact hx13

theorem State.deliverVideo_kept (s_a lead_a release_a lost_a r_a) : Kept s_a (State.deliverVideo s_a lead_a release_a lost_a r_a) := by
  unfold State.deliverVideo
  extract_lets +onlyGivenNames x1
  extract_lets +onlyGivenNames x2
  extract_lets +onlyGivenNames x3
  extract_lets +onlyGivenNames x4
  extract_lets +onlyGivenNames x5
  have hx5 : Kept s_a x5 := by
    subst x5
    refine Kept.ite ?_ ?_
    · exact Kept.refl _
    · refine Kept.seq (State.endAssembly_kept ..) ?_
      exact Kept.refl _
  clear_value x5
  extract_lets +onlyGivenNames x6
  have hx6 : Kept s_a x6 := by
    subst x6
    refine Kept.ite ?_ ?_
    · refine Kept.seq (State.setFlow_kept ..) ?_
      exact hx5
    · exact hx5
  clear_value x6
  refine Kept.ite ?_ ?_
  · exact hx6
  · extract_lets +onlyGivenNames x7
    extract_lets +onlyGivenNames x8
    have hx8 : Kept s_a x8 := by
      subst x8
      refine Kept.ite ?_ ?_
      · split
        · refine Kept.seq (State.setRxe_kept ..) ?_
          exact hx6
        · exact hx6
      · refine Kept.seq (State.beginAssembly_kept ..) ?_
        exact hx6
    clear_value x8
    extract_lets +onlyGivenNames x9
    have hx9 : Kept s_a x9 := by
      subst x9
      refine Kept.seq (State.placeSegments_kept ..) ?_
      exact hx8
    clear_value x9
    refine Kept.ite ?_ ?_
    · refine Kept.seq (State.endAssembly_kept ..) ?_
      exact hx9
    · exact hx9

theorem State.endSdi_kept (s_a lead_a) : Kept s_a (State.endSdi s_a lead_a) := by
  unfold State.endSdi
  split
  · exact Kept.refl _
  · extract_lets +onlyGivenNames x1
    extract_lets +onlyGivenNames x2
    extract_lets +onlyGivenNames x3
    extract_lets +onlyGivenNames x4
    have hx4 : Kept s_a x4 := by
      subst x4
      refine Kept.seq (State.setRxe_kept ..) ?_
      exact Kept.refl _
    clear_value x4
    refine Kept.ite ?_ ?_
    · refine Kept.seq (State.endWrite_kept ..) ?_
      exact hx4
    · refine Kept.ite ?_ ?_
      · refine Kept.seq (State.raiseLimited_kept ..) ?_
        refine Kept.seq (State.bump_kept ..) ?_
        refine Kept.seq (State.endWrite_kept ..) ?_
        exact hx4
      · refine Kept.seq (State.raise_kept ..) ?_
        refine Kept.seq (State.bump_kept ..) ?_
        refine Kept.seq (State.ancAbandon_kept ..) ?_
        refine Kept.seq (State.abandonFrame_kept ..) ?_
        exact hx4

theorem State.beginSdi_kept (s_a lead_a release_a r_a) : Kept s_a (State.beginSdi s_a lead_a release_a r_a) := by
  unfold State.beginSdi
  extract_lets +onlyGivenNames x1
  extract_lets +onlyGivenNames x2
  extract_lets +onlyGivenNames x3
  have hx3 : Kept s_a x3 := by
    subst x3
    refine Kept.seq (State.applyPids_kept ..) ?_
    exact Kept.refl _
  clear_value x3
  refine Kept.ite ?_ ?_
  · exact hx3
  · extract_lets +onlyGivenNames x4
    extract_lets +onlyGivenNames x5
    have hx5 : Kept s_a x5 := by
      subst x5
      refine Kept.seq (State.setInLatency_kept ..) ?_
      exact hx3
    clear_value x5
    extract_lets +onlyGivenNames x6
    extract_lets +onlyGivenNames x7
    have hx7 : Kept s_a x7 := by
      subst x7
      refine Kept.seq (State.startFrame_kept ..) ?_
      exact hx5
    clear_value x7
    refine Kept.seq (State.ancBegin_kept ..) ?_
    refine Kept.seq (State.setRxe_kept ..) ?_
    exact hx7

theorem State.deliverSdi_kept (s_a lead_a release_a lost_a r_a) : Kept s_a (State.deliverSdi s_a lead_a release_a lost_a r_a) := by
  unfold State.deliverSdi
  extract_lets +onlyGivenNames x1
  extract_lets +onlyGivenNames x2
  have hx2 : Kept s_a x2 := by
    subst x2
    split
    · refine Kept.seq (State.setRxe_kept ..) ?_
      exact Kept.refl _
    · exact Kept.refl _
  clear_value x2
  refine Kept.ite ?_ ?_
  · refine Kept.seq (State.beginSdi_kept ..) ?_
    refine Kept.seq (State.endSdi_kept ..) ?_
    exact hx2
  · exact hx2

theorem State.deliverAudio_kept (s_a lead_a release_a lost_a r_a) : Kept s_a (State.deliverAudio s_a lead_a release_a lost_a r_a) := by
  unfold State.deliverAudio
  extract_lets +onlyGivenNames x1
  extract_lets +onlyGivenNames x2
  extract_lets +onlyGivenNames x3
  extract_lets +onlyGivenNames x4
  have hx4 : Kept s_a x4 := by
    subst x4
    refine Kept.seq (State.setInLatency_kept ..) ?_
    exact Kept.refl _
  clear_value x4
  extract_lets +onlyGivenNames x5
  extract_lets +onlyGivenNames x6
  have hx6 : Kept s_a x6 := by
    subst x6
    refine Kept.ite ?_ ?_
    · refine Kept.seq (State.setNonAudio_kept ..) ?_
      exact hx4
    · exact hx4
  clear_value x6
  refine Kept.seq (State.queueFrames_kept ..) ?_
  exact hx6

theorem State.deliver_kept (s_a lead_a release_a lost_a r_a) : Kept s_a (State.deliver s_a lead_a release_a lost_a r_a) := by
  unfold State.deliver
  split
  · refine Kept.seq (State.deliverVideo_kept ..) ?_
    exact Kept.refl _
  · refine Kept.seq (State.deliverAudio_kept ..) ?_
    exact Kept.refl _
  · refine Kept.seq (State.deliverAudio_kept ..) ?_
    exact Kept.refl _
  · refine Kept.seq (State.deliverAnc_kept ..) ?_
    exact Kept.refl _
  · refine Kept.seq (State.deliverSdi_kept ..) ?_
    exact Kept.refl _
  · refine Kept.foldl (fun u1 x2 => ?_) ?_
    · refine Kept.ite ?_ ?_
      · refine Kept.seq (State.setTxe_kept ..) ?_
        exact Kept.refl _
      · exact Kept.refl _
    · exact Kept.refl _
  · exact Kept.refl _

theorem execPacketRelease_kept (dt_a entry_a s_a) : KeptR s_a (execPacketRelease dt_a entry_a s_a) := by
  unfold execPacketRelease
  refine actIf_kept (hk3 := fun u1 => ?_) ..
  extract_lets +onlyGivenNames x2
  split
  · exact Kept.refl _
  · extract_lets +onlyGivenNames x3
    refine Kept.ite ?_ ?_
    · exact Kept.refl _
    · extract_lets +onlyGivenNames x4
      extract_lets +onlyGivenNames x5
      extract_lets +onlyGivenNames x6
      have hx6 : Kept u1 x6 := by
        subst x6
        refine Kept.ite ?_ ?_
        · exact Kept.refl _
        · refine Kept.foldl (fun u7 x8 => ?_) ?_
          · refine Kept.seq (State.bump_kept ..) ?_
            exact Kept.refl _
          · refine Kept.seq (State.bump_kept ..) ?_
            exact Kept.refl _
      clear_value x6
      extract_lets +onlyGivenNames x9
      have hx9 : Kept u1 x9 := by
        subst x9
        refine Kept.foldl (fun u10 x11 => ?_) ?_
        · refine Kept.ite ?_ ?_
          · exact Kept.refl _
          · refine Kept.seq (State.bump_kept ..) ?_
            exact Kept.refl _
        · exact hx6
      clear_value x9
      extract_lets +onlyGivenNames x12
      extract_lets +onlyGivenNames x13
      have hx13 : Kept u1 x13 := by
        subst x13
        refine Kept.seq (State.setRxe_kept ..) ?_
        exact hx9
      clear_value x13
      extract_lets +onlyGivenNames x14
      extract_lets +onlyGivenNames x15
      have hx15 : Kept u1 x15 := by
        subst x15
        refine Kept.seq (State.setRxe_kept ..) ?_
        exact hx13
      clear_value x15
      extract_lets +onlyGivenNames x16
      have hx16 : Kept u1 x16 := by
        subst x16
        refine Kept.seq (State.deliver_kept ..) ?_
        exact hx15
      clear_value x16
      refine Kept.seq (State.setRxe_kept ..) ?_
      exact hx16

theorem execFlowLost_kept (dt_a entry_a s_a) : KeptR s_a (execFlowLost dt_a entry_a s_a) := by
  unfold execFlowLost
  refine actIf_kept (hk3 := fun u1 => ?_) ..
  refine Kept.seq (State.enterWaiting_kept ..) ?_
  exact Kept.refl _

theorem execMergePathLost_kept (dt_a entry_a s_a) : KeptR s_a (execMergePathLost dt_a entry_a s_a) := by
  unfold execMergePathLost
  refine actIf_kept (hk3 := fun u1 => ?_) ..
  refine Kept.seq (State.raise_kept ..) ?_
  refine Kept.seq (State.setRxe_kept ..) ?_
  exact Kept.refl _

theorem execMergePathRestored_kept (dt_a entry_a s_a) : KeptR s_a (execMergePathRestored dt_a entry_a s_a) := by
  unfold execMergePathRestored
  refine actIf_kept (hk3 := fun u1 => ?_) ..
  refine Kept.seq (State.raise_kept ..) ?_
  refine Kept.seq (State.setRxe_kept ..) ?_
  exact Kept.refl _

theorem execAncUnmatched_kept (dt_a entry_a s_a) : KeptR s_a (execAncUnmatched dt_a entry_a s_a) := by
  unfold execAncUnmatched
  refine actIf_kept (hk3 := fun u1 => ?_) ..
  extract_lets +onlyGivenNames x2
  extract_lets +onlyGivenNames x3
  extract_lets +onlyGivenNames x4
  extract_lets +onlyGivenNames x5
  refine Kept.seq (State.ancLost_kept ..) ?_
  refine Kept.seq (State.setRxe_kept ..) ?_
  exact Kept.refl _

theorem execPdvSecond_kept (dt_a entry_a s_a) : KeptR s_a (execPdvSecond dt_a entry_a s_a) := by
  unfold execPdvSecond
  refine actIf_kept (hk3 := fun u1 => ?_) ..
  extract_lets +onlyGivenNames x2
  extract_lets +onlyGivenNames x3
  extract_lets +onlyGivenNames x4
  extract_lets +onlyGivenNames x5
  extract_lets +onlyGivenNames x6
  have hx6 : Kept u1 x6 := by
    subst x6
    refine Kept.seq (State.setRxe_kept ..) ?_
    exact Kept.refl _
  clear_value x6
  refine Kept.seq (State.capture_kept ..) ?_
  refine Kept.seq (State.setN_kept ..) ?_
  exact hx6

theorem execMpLinkUp_kept (dt_a port_a s_a) : KeptR s_a (execMpLinkUp dt_a port_a s_a) := by
  unfold execMpLinkUp
  refine actIf_kept (hk3 := fun u1 => ?_) ..
  refine Kept.seq (State.refreshTxPort_kept ..) ?_
  refine Kept.seq (State.raise_kept ..) ?_
  refine Kept.seq (State.setN_kept ..) ?_
  exact Kept.refl _

theorem execMpLinkDown_kept (dt_a port_a s_a) : KeptR s_a (execMpLinkDown dt_a port_a s_a) := by
  unfold execMpLinkDown
  refine actIf_kept (hk3 := fun u1 => ?_) ..
  refine Kept.seq (State.refreshTxPort_kept ..) ?_
  refine Kept.seq (State.raise_kept ..) ?_
  refine Kept.seq (State.setN_kept ..) ?_
  exact Kept.refl _

theorem State.portCommit_kept (s_a old_a) : Kept s_a (State.portCommit s_a old_a) := by
  unfold State.portCommit
  extract_lets +onlyGivenNames x1
  refine Kept.foldl (fun u2 x3 => ?_) ?_
  · extract_lets +onlyGivenNames x4
    extract_lets +onlyGivenNames x5
    refine Kept.ite ?_ ?_
    · exact Kept.refl _
    · extract_lets +onlyGivenNames x6
      extract_lets +onlyGivenNames x7
      have hx7 : Kept u2 x7 := by
        subst x7
        refine Kept.seq (State.setN_kept ..) ?_
        exact Kept.refl _
      clear_value x7
      refine Kept.seq (State.refreshTxPort_kept ..) ?_
      refine Kept.ite ?_ ?_
      · refine Kept.seq (State.raise_kept ..) ?_
        exact hx7
      · exact hx7
  · exact Kept.refl _

theorem State.rxRelead_kept (s_a old_a e_a) : Kept s_a (State.rxRelead s_a old_a e_a) := by
  unfold State.rxRelead
  extract_lets +onlyGivenNames x1
  extract_lets +onlyGivenNames x2
  refine Kept.ite ?_ ?_
  · exact Kept.refl _
  · refine Kept.seq (State.setN_kept ..) ?_
    refine Kept.seq (State.setRxe_kept ..) ?_
    exact Kept.refl _

theorem State.rxDefaults_kept (s_a e_a) : Kept s_a (State.rxDefaults s_a e_a) := by
  unfold State.rxDefaults
  extract_lets +onlyGivenNames x1
  extract_lets +onlyGivenNames x2
  have hx2 : Kept s_a x2 := by
    subst x2
    refine Kept.ite ?_ ?_
    · refine Kept.foldl (fun u3 x4 => ?_) ?_
      · refine Kept.seq (State.toDefault_kept ..) ?_
        exact Kept.refl _
      · exact Kept.refl _
    · exact Kept.refl _
  clear_value x2
  refine Kept.ite ?_ ?_
  · refine Kept.foldl (fun u5 x6 => ?_) ?_
    · refine Kept.seq (State.toDefault_kept ..) ?_
      exact Kept.refl _
    · exact hx2
  · exact hx2

theorem State.rxIdle_kept (s_a old_a e_a) : Kept s_a (State.rxIdle s_a old_a e_a) := by
  unfold State.rxIdle
  extract_lets +onlyGivenNames x1
  extract_lets +onlyGivenNames x2
  have hx2 : Kept s_a x2 := by
    subst x2
    refine Kept.seq (State.clearEmb_kept ..) ?_
    refine Kept.seq (State.setN_kept ..) ?_
    exact Kept.refl _
  clear_value x2
  extract_lets +onlyGivenNames x3
  have hx3 : Kept s_a x3 := by
    subst x3
    refine Kept.ite ?_ ?_
    · refine Kept.foldl (fun u4 x5 => ?_) ?_
      · refine Kept.seq (State.raise_kept ..) ?_
        exact Kept.refl _
      · exact hx2
    · exact hx2
  clear_value x3
  extract_lets +onlyGivenNames x6
  have hx6 : Kept s_a x6 := by
    subst x6
    refine Kept.seq (State.setRxe_kept ..) ?_
    exact hx3
  clear_value x6
  refine Kept.ite ?_ ?_
  · refine Kept.seq (State.refreshSlot_kept ..) ?_
    exact hx6
  · exact hx6

theorem State.rxMeet_kept (s_a old_a lead_a) : Kept s_a (State.rxMeet s_a old_a lead_a) := by
  unfold State.rxMeet
  extract_lets +onlyGivenNames x1
  extract_lets +onlyGivenNames x2
  refine Kept.ite ?_ ?_
  · refine Kept.seq (State.enterWaiting_kept ..) ?_
    refine Kept.seq (State.setN_kept ..) ?_
    exact Kept.refl _
  · refine Kept.ite ?_ ?_
    · refine Kept.foldl (fun u3 x4 => ?_) ?_
      · refine Kept.seq (State.setN_kept ..) ?_
        exact Kept.refl _
      · exact Kept.refl _
    · refine Kept.seq (State.enterWaiting_kept ..) ?_
      exact Kept.refl _

theorem State.rxCommit_kept (s_a old_a) : Kept s_a (State.rxCommit s_a old_a) := by
  unfold State.rxCommit
  extract_lets +onlyGivenNames x1
  extract_lets +onlyGivenNames x2
  have hx2 : Kept s_a x2 := by
    subst x2
    refine Kept.foldl (fun u3 x4 => ?_) ?_
    · refine Kept.seq (State.rxRelead_kept ..) ?_
      exact Kept.refl _
    · exact Kept.refl _
  clear_value x2
  extract_lets +onlyGivenNames x5
  have hx5 : Kept s_a x5 := by
    subst x5
    refine Kept.foldl (fun u6 x7 => ?_) ?_
    · refine Kept.seq (State.rxIdle_kept ..) ?_
      exact Kept.refl _
    · exact hx2
  clear_value x5
  extract_lets +onlyGivenNames x8
  refine Kept.foldl (fun u9 x10 => ?_) ?_
  · refine Kept.seq (State.rxDefaults_kept ..) ?_
    exact Kept.refl _
  · refine Kept.foldl (fun u11 x12 => ?_) ?_
    · refine Kept.seq (State.rxMeet_kept ..) ?_
      exact Kept.refl _
    · exact hx5

end Sys2Proof.Machine
end

