-- ==== Sys2Proof/Laws/KeptWatershed.lean ====
section
/-!
SUPPORT. That the functions of Machine/Watershed.lean keep the queue, never turn time back and keep a sound state sound
(`Kept` of Laws/Kept.lean).
-/
namespace Sys2Proof.Machine

theorem State.setRef_kept (s_a r_a x_a) : Kept s_a (State.setRef s_a r_a x_a) := by
  unfold State.setRef
  exact Kept.upd rfl rfl rfl rfl rfl rfl rfl rfl rfl rfl rfl

theorem State.refHist_kept (s_a r_a k_a) : Kept s_a (State.refHist s_a r_a k_a) := by
  unfold State.refHist
  refine Kept.seq (State.setBitN_kept ..) ?_
  exact Kept.refl _

theorem State.wsHist_kept (s_a k_a) : Kept s_a (State.wsHist s_a k_a) := by
  unfold State.wsHist
  refine Kept.seq (State.setBitN_kept ..) ?_
  exact Kept.refl _

theorem State.refreshFp_kept (s_a n_a) : Kept s_a (State.refreshFp s_a n_a) := by
  unfold State.refreshFp
  extract_lets +onlyGivenNames x1
  extract_lets +onlyGivenNames x2
  extract_lets +onlyGivenNames x3
  have hx3 : Kept s_a x3 := by
    subst x3
    refine Kept.seq (State.setN_kept ..) ?_
    exact Kept.refl _
  clear_value x3
  refine Kept.ite ?_ ?_
  · refine Kept.seq (State.raise_kept ..) ?_
    exact hx3
  · refine Kept.ite ?_ ?_
    · extract_lets +onlyGivenNames x4
      refine Kept.seq (State.raise_kept ..) ?_
      refine Kept.seq (Kept.upd (s := x3) rfl rfl rfl rfl rfl rfl rfl rfl rfl rfl rfl) ?_
      exact hx3
    · exact hx3

theorem State.refreshFps_kept (s_a) : Kept s_a (State.refreshFps s_a) := by
  unfold State.refreshFps
  refine Kept.foldl (fun u1 x2 => ?_) ?_
  · refine Kept.seq (State.refreshFp_kept ..) ?_
    exact Kept.refl _
  · exact Kept.refl _

theorem State.setRefState_kept (s_a r_a st_a) : Kept s_a (State.setRefState s_a r_a st_a) := by
  unfold State.setRefState
  extract_lets +onlyGivenNames x1
  refine Kept.ite ?_ ?_
  · exact Kept.refl _
  · extract_lets +onlyGivenNames x2
    have hx2 : Kept s_a x2 := by
      subst x2
      refine Kept.seq (State.setN_kept ..) ?_
      exact Kept.refl _
    clear_value x2
    extract_lets +onlyGivenNames x3
    have hx3 : Kept s_a x3 := by
      subst x3
      refine Kept.ite ?_ ?_
      · refine Kept.seq (State.bump_kept ..) ?_
        refine Kept.seq (State.raise_kept ..) ?_
        exact hx2
      · exact hx2
    clear_value x3
    extract_lets +onlyGivenNames x4
    extract_lets +onlyGivenNames x5
    have hx5 : Kept s_a x5 := by
      subst x5
      split
      · refine Kept.seq (State.refHist_kept ..) ?_
        refine Kept.seq (State.setRef_kept ..) ?_
        exact hx3
      · refine Kept.seq (State.setRef_kept ..) ?_
        exact hx3
      · refine Kept.seq (State.refHist_kept ..) ?_
        refine Kept.seq (State.raise_kept ..) ?_
        exact hx3
      · exact hx3
    clear_value x5
    refine Kept.seq (State.refreshFps_kept ..) ?_
    exact hx5

theorem State.refreshQl_kept (s_a r_a) : Kept s_a (State.refreshQl s_a r_a) := by
  unfold State.refreshQl
  extract_lets +onlyGivenNames x1
  refine Kept.ite ?_ ?_
  · exact Kept.refl _
  · extract_lets +onlyGivenNames x2
    have hx2 : Kept s_a x2 := by
      subst x2
      refine Kept.seq (State.setN_kept ..) ?_
      exact Kept.refl _
    clear_value x2
    extract_lets +onlyGivenNames x3
    have hx3 : Kept s_a x3 := by
      subst x3
      refine Kept.ite ?_ ?_
      · refine Kept.seq (State.refHist_kept ..) ?_
        refine Kept.seq (State.raise_kept ..) ?_
        exact hx2
      · exact hx2
    clear_value x3
    split
    · refine Kept.ite ?_ ?_
      · refine Kept.seq (State.setRefState_kept ..) ?_
        exact hx3
      · exact hx3
    · refine Kept.ite ?_ ?_
      · exact hx3
      · refine Kept.seq (State.setRefState_kept ..) ?_
        exact hx3
    · exact hx3

theorem State.refreshRef_kept (s_a r_a) : Kept s_a (State.refreshRef s_a r_a) := by
  unfold State.refreshRef
  extract_lets +onlyGivenNames x1
  extract_lets +onlyGivenNames x2
  have hx2 : Kept s_a x2 := by
    subst x2
    refine Kept.seq (State.setRefState_kept ..) ?_
    refine Kept.seq (State.setRef_kept ..) ?_
    exact Kept.refl _
  clear_value x2
  extract_lets +onlyGivenNames x3
  have hx3 : Kept s_a x3 := by
    subst x3
    refine Kept.seq (State.setRefState_kept ..) ?_
    exact Kept.refl _
  clear_value x3
  extract_lets +onlyGivenNames x4
  have hx4 : Kept s_a x4 := by
    subst x4
    refine Kept.ite ?_ ?_
    · refine Kept.ite ?_ ?_
      · refine Kept.seq (State.setN_kept ..) ?_
        exact hx2
      · exact hx2
    · refine Kept.ite ?_ ?_
      · refine Kept.ite ?_ ?_
        · refine Kept.seq (State.setRef_kept ..) ?_
          refine Kept.seq (State.toDefault_kept ..) ?_
          refine Kept.seq (State.toDefault_kept ..) ?_
          refine Kept.seq (State.setN_kept ..) ?_
          exact hx3
        · exact hx3
      · exact Kept.refl _
  clear_value x4
  refine Kept.seq (State.refreshQl_kept ..) ?_
  exact hx4

theorem State.loseRef_kept (s_a r_a) : Kept s_a (State.loseRef s_a r_a) := by
  unfold State.loseRef
  refine Kept.ite ?_ ?_
  · refine Kept.seq (State.setRefState_kept ..) ?_
    exact Kept.refl _
  · exact Kept.refl _

theorem State.goodEdge_kept (s_a r_a) : Kept s_a (State.goodEdge s_a r_a) := by
  unfold State.goodEdge
  extract_lets +onlyGivenNames x1
  extract_lets +onlyGivenNames x2
  extract_lets +onlyGivenNames x3
  extract_lets +onlyGivenNames x4
  extract_lets +onlyGivenNames x5
  extract_lets +onlyGivenNames x6
  extract_lets +onlyGivenNames x7
  extract_lets +onlyGivenNames x8
  refine Kept.seq (State.setI_kept ..) ?_
  refine Kept.seq (State.setRef_kept ..) ?_
  exact Kept.refl _

theorem State.setY_kept (s_a y_a slope_a) : Kept s_a (State.setY s_a y_a slope_a) := by
  unfold State.setY
  refine Kept.seq (State.setI_kept ..) ?_
  exact Kept.upd rfl rfl rfl rfl rfl rfl rfl rfl rfl rfl rfl

theorem State.startPull_kept (s_a) : Kept s_a (State.startPull s_a) := by
  unfold State.startPull
  exact Kept.upd rfl rfl rfl rfl rfl rfl rfl rfl rfl rfl rfl

theorem State.enterWs_kept (s_a st_a) : Kept s_a (State.enterWs s_a st_a) := by
  unfold State.enterWs
  extract_lets +onlyGivenNames x1
  refine Kept.ite ?_ ?_
  · exact Kept.refl _
  · extract_lets +onlyGivenNames x2
    have hx2 : Kept s_a x2 := by
      subst x2
      refine Kept.seq (State.setN_kept ..) ?_
      exact Kept.refl _
    clear_value x2
    extract_lets +onlyGivenNames x3
    have hx3 : Kept s_a x3 := by
      subst x3
      refine Kept.ite ?_ ?_
      · refine Kept.seq (State.wsHist_kept ..) ?_
        exact hx2
      · exact hx2
    clear_value x3
    split
    · refine Kept.seq (State.raise_kept ..) ?_
      refine Kept.seq (State.wsHist_kept ..) ?_
      exact hx3
    · refine Kept.seq (State.raise_kept ..) ?_
      refine Kept.seq (State.startPull_kept ..) ?_
      exact hx3
    · refine Kept.seq (State.raise_kept ..) ?_
      exact hx3
    · extract_lets +onlyGivenNames x4
      extract_lets +onlyGivenNames x5
      extract_lets +onlyGivenNames x6
      extract_lets +onlyGivenNames x7
      have hx7 : Kept s_a x7 := by
        subst x7
        refine Kept.seq (Kept.upd (s := x3) rfl rfl rfl rfl rfl rfl rfl rfl rfl rfl rfl) ?_
        exact hx3
      clear_value x7
      refine Kept.seq (State.raise_kept ..) ?_
      refine Kept.seq (State.wsHist_kept ..) ?_
      refine Kept.seq (State.setY_kept ..) ?_
      exact hx7

theorem State.followModel_kept (s_a) : Kept s_a (State.followModel s_a) := by
  unfold State.followModel
  refine Kept.ite ?_ ?_
  · refine Kept.seq (State.setY_kept ..) ?_
    exact Kept.refl _
  · exact Kept.refl _

theorem State.watchPhase_kept (s_a r_a) : Kept s_a (State.watchPhase s_a r_a) := by
  unfold State.watchPhase
  extract_lets +onlyGivenNames x1
  refine Kept.ite ?_ ?_
  · exact Kept.refl _
  · refine Kept.ite ?_ ?_
    · refine Kept.ite ?_ ?_
      · refine Kept.seq (State.enterWs_kept ..) ?_
        exact Kept.refl _
      · exact Kept.refl _
    · refine Kept.ite ?_ ?_
      · extract_lets +onlyGivenNames x2
        extract_lets +onlyGivenNames x3
        extract_lets +onlyGivenNames x4
        extract_lets +onlyGivenNames x5
        extract_lets +onlyGivenNames x6
        have hx6 : Kept s_a x6 := by
          subst x6
          exact Kept.upd rfl rfl rfl rfl rfl rfl rfl rfl rfl rfl rfl
        clear_value x6
        refine Kept.ite ?_ ?_
        · refine Kept.seq (State.setY_kept ..) ?_
          exact hx6
        · exact hx6
      · exact Kept.refl _

theorem State.takeEdge_kept (s_a r_a) : Kept s_a (State.takeEdge s_a r_a) := by
  unfold State.takeEdge
  refine Kept.seq (State.watchPhase_kept ..) ?_
  refine Kept.seq (State.goodEdge_kept ..) ?_
  exact Kept.refl _

theorem execRefEdge_kept (dt_a ref_a width_a s_a) : KeptR s_a (execRefEdge dt_a ref_a width_a s_a) := by
  unfold execRefEdge
  refine actIf_kept (hk3 := fun u1 => ?_) ..
  refine Kept.ite ?_ ?_
  · split
    · extract_lets +onlyGivenNames x2
      extract_lets +onlyGivenNames x3
      have hx3 : Kept u1 x3 := by
        subst x3
        refine Kept.seq (State.setRef_kept ..) ?_
        exact Kept.refl _
      clear_value x3
      refine Kept.seq (State.refHist_kept ..) ?_
      refine Kept.seq (State.raiseLimited_kept ..) ?_
      refine Kept.seq (State.bump_kept ..) ?_
      exact hx3
    · extract_lets +onlyGivenNames x4
      extract_lets +onlyGivenNames x5
      extract_lets +onlyGivenNames x6
      have hx6 : Kept u1 x6 := by
        subst x6
        refine Kept.seq (State.setRef_kept ..) ?_
        exact Kept.refl _
      clear_value x6
      refine Kept.seq (State.takeEdge_kept ..) ?_
      refine Kept.seq (State.refreshQl_kept ..) ?_
      exact hx6
  · refine Kept.seq (State.takeEdge_kept ..) ?_
    exact Kept.refl _

theorem execRefLost_kept (dt_a ref_a cause_a s_a) : KeptR s_a (execRefLost dt_a ref_a cause_a s_a) := by
  unfold execRefLost
  refine actIf_kept (hk3 := fun u1 => ?_) ..
  extract_lets +onlyGivenNames x2
  extract_lets +onlyGivenNames x3
  have hx3 : Kept u1 x3 := by
    subst x3
    refine Kept.ite ?_ ?_
    · refine Kept.seq (State.refHist_kept ..) ?_
      exact Kept.refl _
    · refine Kept.ite ?_ ?_
      · refine Kept.seq (State.setRef_kept ..) ?_
        exact Kept.refl _
      · exact Kept.refl _
  clear_value x3
  refine Kept.seq (State.loseRef_kept ..) ?_
  exact hx3

theorem execRefSignalBack_kept (dt_a ref_a s_a) : KeptR s_a (execRefSignalBack dt_a ref_a s_a) := by
  unfold execRefSignalBack
  refine actIf_kept (hk3 := fun u1 => ?_) ..
  refine Kept.seq (State.setRefState_kept ..) ?_
  refine Kept.seq (State.setRef_kept ..) ?_
  exact Kept.refl _

theorem execRefAvailable_kept (dt_a ref_a s_a) : KeptR s_a (execRefAvailable dt_a ref_a s_a) := by
  unfold execRefAvailable
  refine actIf_kept (hk3 := fun u1 => ?_) ..
  refine Kept.seq (State.setRefState_kept ..) ?_
  exact Kept.refl _

theorem State.takeMaster_kept (s_a r_a masters_a) : Kept s_a (State.takeMaster s_a r_a masters_a) := by
  unfold State.takeMaster
  extract_lets +onlyGivenNames x1
  split
  · refine Kept.seq (State.loseRef_kept ..) ?_
    refine Kept.seq (State.toDefault_kept ..) ?_
    refine Kept.seq (State.toDefault_kept ..) ?_
    refine Kept.seq (State.setN_kept ..) ?_
    refine Kept.seq (State.setRef_kept ..) ?_
    exact Kept.refl _
  · extract_lets +onlyGivenNames x2
    extract_lets +onlyGivenNames x3
    have hx3 : Kept s_a x3 := by
      subst x3
      refine Kept.seq (State.setRef_kept ..) ?_
      exact Kept.refl _
    clear_value x3
    extract_lets +onlyGivenNames x4
    have hx4 : Kept s_a x4 := by
      subst x4
      refine Kept.seq (State.setN_kept ..) ?_
      refine Kept.seq (State.setBy_kept ..) ?_
      exact hx3
    clear_value x4
    refine Kept.ite ?_ ?_
    · exact hx4
    · extract_lets +onlyGivenNames x5
      have hx5 : Kept s_a x5 := by
        subst x5
        refine Kept.seq (State.setN_kept ..) ?_
        exact hx4
      clear_value x5
      refine Kept.ite ?_ ?_
      · refine Kept.seq (State.loseRef_kept ..) ?_
        exact hx5
      · refine Kept.seq (State.loseRef_kept ..) ?_
        refine Kept.seq (State.raise_kept ..) ?_
        exact hx5

theorem execPtpAnnounceTimeout_kept (dt_a ref_a s_a) : KeptR s_a (execPtpAnnounceTimeout dt_a ref_a s_a) := by
  unfold execPtpAnnounceTimeout
  refine actIf_kept (hk3 := fun u1 => ?_) ..
  refine Kept.seq (State.refreshQl_kept ..) ?_
  refine Kept.seq (State.loseRef_kept ..) ?_
  refine Kept.seq (State.takeMaster_kept ..) ?_
  exact Kept.refl _

theorem State.ptpOffset_kept (s_a r_a off_a path_a) : Kept s_a (State.ptpOffset s_a r_a off_a path_a) := by
  unfold State.ptpOffset
  refine Kept.seq (State.watchPhase_kept ..) ?_
  refine Kept.seq (State.setI_kept ..) ?_
  refine Kept.seq (State.setI_kept ..) ?_
  refine Kept.seq (State.setI_kept ..) ?_
  exact Kept.refl _

theorem State.ptpMessage_kept (s_a port_a domain_a ipv6_a m_a) : Kept s_a (State.ptpMessage s_a port_a domain_a ipv6_a m_a) := by
  unfold State.ptpMessage
  refine Kept.foldl (fun u1 x2 => ?_) ?_
  · split
    · refine Kept.seq (State.refreshQl_kept ..) ?_
      refine Kept.seq (State.takeMaster_kept ..) ?_
      exact Kept.refl _
    · refine Kept.ite ?_ ?_
      · refine Kept.seq (State.ptpOffset_kept ..) ?_
        refine Kept.seq (State.setRef_kept ..) ?_
        exact Kept.refl _
      · exact Kept.refl _
    · refine Kept.ite ?_ ?_
      · refine Kept.seq (State.setN_kept ..) ?_
        refine Kept.seq (State.ptpOffset_kept ..) ?_
        refine Kept.seq (State.setRef_kept ..) ?_
        exact Kept.refl _
      · exact Kept.refl _
  · exact Kept.refl _

theorem State.stepCounter_kept (s_a by__a) : Kept s_a (State.stepCounter s_a by__a) := by
  unfold State.stepCounter
  extract_lets +onlyGivenNames x1
  have hx1 : Kept s_a x1 := by
    subst x1
    exact Kept.upd rfl rfl rfl rfl rfl rfl rfl rfl rfl rfl rfl
  clear_value x1
  extract_lets +onlyGivenNames x2
  extract_lets +onlyGivenNames x3
  extract_lets +onlyGivenNames x4
  have hx4 : Kept s_a x4 := by
    subst x4
    refine Kept.seq (Kept.upd (s := x1) rfl rfl rfl rfl rfl rfl rfl rfl rfl rfl rfl) ?_
    exact hx1
  clear_value x4
  extract_lets +onlyGivenNames x5
  have hx5 : Kept s_a x5 := by
    subst x5
    refine Kept.foldl (fun u6 x7 => ?_) ?_
    · refine Kept.ite ?_ ?_
      · extract_lets +onlyGivenNames x8
        refine Kept.seq (State.setI_kept ..) ?_
        exact Kept.refl _
      · exact Kept.refl _
    · exact hx4
  clear_value x5
  refine Kept.seq (State.raise_kept ..) ?_
  refine Kept.seq (State.wsHist_kept ..) ?_
  exact hx5

theorem State.select_kept (s_a r_a) : Kept s_a (State.select s_a r_a) := by
  unfold State.select
  extract_lets +onlyGivenNames x1
  extract_lets +onlyGivenNames x2
  have hx2 : Kept s_a x2 := by
    subst x2
    refine Kept.ite ?_ ?_
    · refine Kept.seq (State.raise_kept ..) ?_
      refine Kept.seq (State.wsHist_kept ..) ?_
      refine Kept.seq (State.bump_kept ..) ?_
      refine Kept.seq (State.setN_kept ..) ?_
      exact Kept.refl _
    · exact Kept.refl _
  clear_value x2
  extract_lets +onlyGivenNames x3
  extract_lets +onlyGivenNames x4
  extract_lets +onlyGivenNames x5
  extract_lets +onlyGivenNames x6
  extract_lets +onlyGivenNames x7
  have hx7 : Kept s_a x7 := by
    subst x7
    refine Kept.seq (Kept.upd (s := x2) rfl rfl rfl rfl rfl rfl rfl rfl rfl rfl rfl) ?_
    exact hx2
  clear_value x7
  extract_lets +onlyGivenNames x8
  have hx8 : Kept s_a x8 := by
    subst x8
    refine Kept.ite ?_ ?_
    · refine Kept.seq (State.stepCounter_kept ..) ?_
      exact hx7
    · exact hx7
  clear_value x8
  refine Kept.ite ?_ ?_
  · refine Kept.seq (State.startPull_kept ..) ?_
    refine Kept.seq (State.enterWs_kept ..) ?_
    exact hx8
  · exact hx8

theorem State.pull_kept (s_a r_a) : Kept s_a (State.pull s_a r_a) := by
  unfold State.pull
  extract_lets +onlyGivenNames x1
  have hx1 : Kept s_a x1 := by
    subst x1
    refine Kept.seq (State.watchPhase_kept ..) ?_
    exact Kept.refl _
  clear_value x1
  extract_lets +onlyGivenNames x2
  extract_lets +onlyGivenNames x3
  extract_lets +onlyGivenNames x4
  refine Kept.ite ?_ ?_
  · refine Kept.ite ?_ ?_
    · refine Kept.seq (State.setY_kept ..) ?_
      exact hx1
    · refine Kept.seq (State.setY_kept ..) ?_
      exact hx1
  · refine Kept.seq (State.setY_kept ..) ?_
    exact hx1

theorem execWsEvaluation_kept (dt_a s_a) : KeptR s_a (execWsEvaluation dt_a s_a) := by
  unfold execWsEvaluation
  refine actIf_kept (hk3 := fun u1 => ?_) ..
  extract_lets +onlyGivenNames x2
  extract_lets +onlyGivenNames x3
  extract_lets +onlyGivenNames x4
  have hx4 : Kept u1 x4 := by
    subst x4
    exact Kept.upd rfl rfl rfl rfl rfl rfl rfl rfl rfl rfl rfl
  clear_value x4
  split
  · refine Kept.seq (State.pull_kept ..) ?_
    refine Kept.seq (State.select_kept ..) ?_
    exact hx4
  · extract_lets +onlyGivenNames x5
    extract_lets +onlyGivenNames x6
    have hx6 : Kept u1 x6 := by
      subst x6
      refine Kept.seq (State.toDefault_kept ..) ?_
      exact hx4
    clear_value x6
    refine Kept.ite ?_ ?_
    · extract_lets +onlyGivenNames x7
      extract_lets +onlyGivenNames x8
      extract_lets +onlyGivenNames x9
      refine Kept.seq (State.setY_kept ..) ?_
      refine Kept.seq (State.enterWs_kept ..) ?_
      exact hx6
    · refine Kept.ite ?_ ?_
      · refine Kept.seq (State.enterWs_kept ..) ?_
        exact hx6
      · refine Kept.ite ?_ ?_
        · refine Kept.seq (State.followModel_kept ..) ?_
          exact hx6
        · exact hx6

theorem execWsLocked_kept (dt_a s_a) : KeptR s_a (execWsLocked dt_a s_a) := by
  unfold execWsLocked
  refine actIf_kept (hk3 := fun u1 => ?_) ..
  refine Kept.seq (State.enterWs_kept ..) ?_
  exact Kept.refl _

theorem State.watchPair_kept (s : State) (p : Nat × Nat) : Kept s (s.watchPair p) := by
  unfold State.watchPair
  extract_lets +onlyGivenNames known others keep
  have hk : ∀ t l, Kept t (keep t l) := fun t l => Kept.upd rfl rfl rfl rfl rfl rfl rfl rfl rfl rfl rfl
  clear_value keep known
  refine Kept.ite ?_ ?_
  · split
    · exact hk _ _
    · exact (State.refHist_kept ..).seq ((State.refHist_kept ..).seq ((State.wsHist_kept ..).seq
        ((State.raise_kept ..).seq (hk _ _))))
  · split
    · exact Kept.ite (hk _ _) (Kept.refl _)
    · exact hk _ _
    · exact Kept.refl _

theorem State.learn_kept (s_a) : Kept s_a (State.learn s_a) := by
  unfold State.learn
  extract_lets +onlyGivenNames x1
  extract_lets +onlyGivenNames x2
  extract_lets +onlyGivenNames x3
  extract_lets +onlyGivenNames x4
  have hx4 : Kept s_a x4 := by
    subst x4
    exact Kept.upd rfl rfl rfl rfl rfl rfl rfl rfl rfl rfl rfl
  clear_value x4
  extract_lets +onlyGivenNames x5
  extract_lets +onlyGivenNames x6
  extract_lets +onlyGivenNames x7
  have hx7 : Kept s_a x7 := by
    subst x7
    refine Kept.seq (Kept.upd (s := x4) rfl rfl rfl rfl rfl rfl rfl rfl rfl rfl rfl) ?_
    exact hx4
  clear_value x7
  refine Kept.seq (State.setN_kept ..) ?_
  exact hx7

theorem State.ageModel_kept (s_a) : Kept s_a (State.ageModel s_a) := by
  unfold State.ageModel
  refine Kept.ite ?_ ?_
  · exact Kept.refl _
  · exact Kept.upd rfl rfl rfl rfl rfl rfl rfl rfl rfl rfl rfl

theorem State.wsSecond_kept (s_a) : Kept s_a (State.wsSecond s_a) := by
  unfold State.wsSecond
  extract_lets +onlyGivenNames x1
  extract_lets +onlyGivenNames x2
  extract_lets +onlyGivenNames x3
  extract_lets +onlyGivenNames x4
  have hx4 : Kept s_a x4 := by
    subst x4
    exact Kept.upd rfl rfl rfl rfl rfl rfl rfl rfl rfl rfl rfl
  clear_value x4
  refine Kept.ite ?_ ?_
  · refine Kept.seq (State.learn_kept ..) ?_
    exact hx4
  · refine Kept.ite ?_ ?_
    · refine Kept.seq (State.followModel_kept ..) ?_
      exact hx4
    · exact hx4

theorem execRefFreqMeasure_kept (dt_a diffs_a s_a) : KeptR s_a (execRefFreqMeasure dt_a diffs_a s_a) := by
  unfold execRefFreqMeasure
  refine actIf_kept (hk3 := fun u1 => ?_) ..
  extract_lets +onlyGivenNames x2
  extract_lets +onlyGivenNames x3
  have hx3 : Kept u1 x3 := by
    subst x3
    exact Kept.upd rfl rfl rfl rfl rfl rfl rfl rfl rfl rfl rfl
  clear_value x3
  extract_lets +onlyGivenNames x4
  extract_lets +onlyGivenNames x5
  have hx5 : Kept u1 x5 := by
    subst x5
    refine Kept.foldl (fun u6 x7 => ?_) ?_
    · extract_lets +onlyGivenNames x8
      extract_lets +onlyGivenNames x9
      refine Kept.seq (State.setI_kept ..) ?_
      refine Kept.seq (State.setRef_kept ..) ?_
      exact Kept.refl _
    · exact hx3
  clear_value x5
  extract_lets +onlyGivenNames x10
  have hx10 : Kept u1 x10 := by
    subst x10
    refine Kept.foldl (fun u11 x12 => ?_) ?_
    · refine Kept.seq (State.watchPair_kept ..) ?_
      exact Kept.refl _
    · exact hx5
  clear_value x10
  extract_lets +onlyGivenNames x13
  have hx13 : Kept u1 x13 := by
    subst x13
    refine Kept.seq (State.onlyIf_kept (hk2 := fun u14 => ?_) ..) ?_
    · refine Kept.seq (State.capture_kept ..) ?_
      exact Kept.refl _
    · exact hx10
  clear_value x13
  refine Kept.seq (State.wsSecond_kept ..) ?_
  refine Kept.seq (State.ageModel_kept ..) ?_
  exact hx13

theorem State.timeSet_kept (s_a ns_a) : Kept s_a (State.timeSet s_a ns_a) := by
  unfold State.timeSet
  refine Kept.seq (State.stepCounter_kept ..) ?_
  exact Kept.refl _

theorem State.dropModel_kept (s_a) : Kept s_a (State.dropModel s_a) := by
  unfold State.dropModel
  refine Kept.seq (State.setN_kept ..) ?_
  exact Kept.upd rfl rfl rfl rfl rfl rfl rfl rfl rfl rfl rfl

theorem execLoFault_kept (dt_a missing_a ppm_a s_a) : KeptR s_a (execLoFault dt_a missing_a ppm_a s_a) := by
  unfold execLoFault
  refine actIf_kept (hk3 := fun u1 => ?_) ..
  extract_lets +onlyGivenNames x2
  extract_lets +onlyGivenNames x3
  have hx3 : Kept u1 x3 := by
    subst x3
    exact Kept.upd rfl rfl rfl rfl rfl rfl rfl rfl rfl rfl rfl
  clear_value x3
  refine Kept.ite ?_ ?_
  · refine Kept.seq (State.setReason_kept ..) ?_
    refine Kept.seq (State.raise_kept ..) ?_
    refine Kept.seq (State.wsHist_kept ..) ?_
    refine Kept.seq (State.dropModel_kept ..) ?_
    refine Kept.seq (State.setN_kept ..) ?_
    exact hx3
  · exact hx3

theorem execLoRestored_kept (dt_a s_a) : KeptR s_a (execLoRestored dt_a s_a) := by
  unfold execLoRestored
  refine actIf_kept (hk3 := fun u1 => ?_) ..
  refine Kept.seq (State.setReason_kept ..) ?_
  refine Kept.seq (State.raise_kept ..) ?_
  refine Kept.seq (State.setN_kept ..) ?_
  exact Kept.refl _

theorem execHoldoverReady_kept (dt_a s_a) : KeptR s_a (execHoldoverReady dt_a s_a) := by
  unfold execHoldoverReady
  refine actIf_kept (hk3 := fun u1 => ?_) ..
  refine Kept.seq (State.raise_kept ..) ?_
  exact Kept.upd rfl rfl rfl rfl rfl rfl rfl rfl rfl rfl rfl

theorem execHoldoverExpired_kept (dt_a s_a) : KeptR s_a (execHoldoverExpired dt_a s_a) := by
  unfold execHoldoverExpired
  refine actIf_kept (hk3 := fun u1 => ?_) ..
  refine Kept.seq (State.raise_kept ..) ?_
  refine Kept.seq (State.wsHist_kept ..) ?_
  exact Kept.upd rfl rfl rfl rfl rfl rfl rfl rfl rfl rfl rfl

theorem State.clearHistory_kept (s_a) : Kept s_a (State.clearHistory s_a) := by
  unfold State.clearHistory
  refine Kept.foldl (fun u1 x2 => ?_) ?_
  · refine Kept.seq (State.clearCounter_kept ..) ?_
    refine Kept.seq (State.clearCounter_kept ..) ?_
    refine Kept.seq (State.setN_kept ..) ?_
    exact Kept.refl _
  · refine Kept.seq (State.clearCounter_kept ..) ?_
    refine Kept.seq (State.setN_kept ..) ?_
    exact Kept.refl _

theorem State.clearPhaseHistogram_kept (s_a) : Kept s_a (State.clearPhaseHistogram s_a) := by
  unfold State.clearPhaseHistogram
  refine Kept.seq (State.clearCounter_kept ..) ?_
  exact Kept.upd rfl rfl rfl rfl rfl rfl rfl rfl rfl rfl rfl

theorem State.setFp_kept (s_a n_a x_a) : Kept s_a (State.setFp s_a n_a x_a) := by
  unfold State.setFp
  exact Kept.upd rfl rfl rfl rfl rfl rfl rfl rfl rfl rfl rfl

theorem State.fpWritten_kept (s_a n_a) : Kept s_a (State.fpWritten s_a n_a) := by
  unfold State.fpWritten
  extract_lets +onlyGivenNames x1
  extract_lets +onlyGivenNames x2
  have hx2 : Kept s_a x2 := by
    subst x2
    refine Kept.ite ?_ ?_
    · refine Kept.seq (State.setFp_kept ..) ?_
      exact Kept.refl _
    · refine Kept.seq (State.setFp_kept ..) ?_
      exact Kept.refl _
  clear_value x2
  refine Kept.seq (State.refreshFp_kept ..) ?_
  exact hx2

theorem State.fpIdle_kept (s_a n_a) : Kept s_a (State.fpIdle s_a n_a) := by
  unfold State.fpIdle
  refine Kept.seq (State.emit_kept ..) ?_
  exact Kept.refl _

theorem execFpPulseEmit_kept (dt_a output_a s_a) : KeptR s_a (execFpPulseEmit dt_a output_a s_a) := by
  unfold execFpPulseEmit
  refine actIf_kept (hk3 := fun u1 => ?_) ..
  split
  · exact Kept.refl _
  · refine Kept.ite ?_ ?_
    · extract_lets +onlyGivenNames x2
      refine Kept.seq (State.emit_kept ..) ?_
      refine Kept.seq (State.setFp_kept ..) ?_
      exact Kept.refl _
    · exact Kept.refl _

theorem State.wsWritten_kept (s_a index_a sub_a) : Kept s_a (State.wsWritten s_a index_a sub_a) := by
  unfold State.wsWritten
  refine Kept.ite ?_ ?_
  · refine Kept.seq (State.refreshRef_kept ..) ?_
    exact Kept.refl _
  · refine Kept.ite ?_ ?_
    · refine Kept.ite ?_ ?_
      · refine Kept.ite ?_ ?_
        · refine Kept.seq (State.fpWritten_kept ..) ?_
          exact Kept.refl _
        · exact Kept.refl _
      · refine Kept.seq (State.fpIdle_kept ..) ?_
        refine Kept.seq (State.fpWritten_kept ..) ?_
        exact Kept.refl _
    · refine Kept.ite ?_ ?_
      · refine Kept.seq (State.fpWritten_kept ..) ?_
        exact Kept.refl _
      · refine Kept.ite ?_ ?_
        · refine Kept.seq (State.fpIdle_kept ..) ?_
          exact Kept.refl _
        · exact Kept.refl _

end Sys2Proof.Machine
end

