-- ==== Sys2Proof/Laws/KeptMediaFrame.lean ====
section
/-!
SUPPORT. That the functions of Machine/MediaFrame.lean keep the queue, never turn time back and keep a sound state sound
(`Kept` of Laws/Kept.lean).
-/
namespace Sys2Proof.Machine

theorem State.answer_kept (s_a port_a addr_a) : Kept s_a (State.answer s_a port_a addr_a) := by
  unfold State.answer
  refine Kept.ite ?_ ?_
  · refine Kept.seq (State.sendArp_kept ..) ?_
    exact Kept.refl _
  · exact Kept.refl _

theorem State.query_kept (s_a port_a mld_a version_a group_a) : Kept s_a (State.query s_a port_a mld_a version_a group_a) := by
  unfold State.query
  extract_lets +onlyGivenNames x1
  extract_lets +onlyGivenNames x2
  extract_lets +onlyGivenNames x3
  extract_lets +onlyGivenNames x4
  have hx4 : Kept s_a x4 := by
    subst x4
    refine Kept.seq (State.setN_kept ..) ?_
    exact Kept.refl _
  clear_value x4
  extract_lets +onlyGivenNames x5
  extract_lets +onlyGivenNames x6
  extract_lets +onlyGivenNames x7
  have hx7 : Kept s_a x7 := by
    subst x7
    refine Kept.ite ?_ ?_
    · refine Kept.seq (State.setPort_kept ..) ?_
      exact hx4
    · exact hx4
  clear_value x7
  extract_lets +onlyGivenNames x8
  have hx8 : Kept s_a x8 := by
    subst x8
    refine Kept.ite ?_ ?_
    · refine Kept.seq (State.raise_kept ..) ?_
      exact hx7
    · exact hx7
  clear_value x8
  refine Kept.foldl (fun u9 x10 => ?_) ?_
  · refine Kept.seq (State.report_kept ..) ?_
    exact Kept.refl _
  · exact hx8

theorem State.flowPacket_kept (s_a port_a mac_a p_a) : Kept s_a (State.flowPacket s_a port_a mac_a p_a) := by
  unfold State.flowPacket
  extract_lets +onlyGivenNames x1
  split
  · refine Kept.seq (State.receive_kept ..) ?_
    exact Kept.refl _
  · refine Kept.ite ?_ ?_
    · refine Kept.seq (State.premeasure_kept ..) ?_
      exact Kept.refl _
    · exact Kept.refl _
  · refine Kept.seq (State.bump_kept ..) ?_
    exact Kept.refl _

theorem State.sendDelayReq_kept (s_a port_a r_a) : Kept s_a (State.sendDelayReq s_a port_a r_a) := by
  unfold State.sendDelayReq
  extract_lets +onlyGivenNames x1
  extract_lets +onlyGivenNames x2
  extract_lets +onlyGivenNames x3
  extract_lets +onlyGivenNames x4
  have hx4 : Kept s_a x4 := by
    subst x4
    refine Kept.seq (State.setRef_kept ..) ?_
    exact Kept.refl _
  clear_value x4
  refine Kept.seq (State.emit_kept ..) ?_
  refine Kept.seq (State.countTx_kept ..) ?_
  exact hx4

theorem State.delayReqs_kept (s_a port_a domain_a ipv6_a m_a) : Kept s_a (State.delayReqs s_a port_a domain_a ipv6_a m_a) := by
  unfold State.delayReqs
  split
  · refine Kept.foldl (fun u1 x2 => ?_) ?_
    · refine Kept.seq (State.sendDelayReq_kept ..) ?_
      exact Kept.refl _
    · exact Kept.refl _
  · exact Kept.refl _

theorem execMpFrameReceived_kept (dt_a port_a f_a s_a) : KeptR s_a (execMpFrameReceived dt_a port_a f_a s_a) := by
  unfold execMpFrameReceived
  refine actIf_kept (hk3 := fun u1 => ?_) ..
  refine Kept.ite ?_ ?_
  · refine Kept.seq (State.bump_kept ..) ?_
    exact Kept.refl _
  · extract_lets +onlyGivenNames x2
    have hx2 : Kept u1 x2 := by
      subst x2
      refine Kept.seq (State.bump_kept ..) ?_
      refine Kept.seq (State.bump_kept ..) ?_
      exact Kept.refl _
    clear_value x2
    split
    · refine Kept.seq (State.flowPacket_kept ..) ?_
      exact hx2
    · refine Kept.seq (State.bump_kept ..) ?_
      exact hx2
    · refine Kept.seq (State.answer_kept ..) ?_
      exact hx2
    · refine Kept.seq (State.answer_kept ..) ?_
      exact hx2
    · refine Kept.seq (State.resolved_kept ..) ?_
      exact hx2
    · refine Kept.seq (State.query_kept ..) ?_
      exact hx2
    · refine Kept.seq (State.delayReqs_kept ..) ?_
      refine Kept.seq (State.ptpMessage_kept ..) ?_
      exact hx2

end Sys2Proof.Machine
end

