-- ==== Sys2Proof/Laws/KeptCirque.lean ====
section
/-!
SUPPORT. That the functions of Machine/Cirque.lean keep the queue, never turn time back and keep a sound state sound
(`Kept` of Laws/Kept.lean).
-/
namespace Sys2Proof.Machine

theorem State.setEngine_kept (s_a e_a x_a) : Kept s_a (State.setEngine s_a e_a x_a) := by
  unfold State.setEngine
  exact Kept.upd rfl rfl rfl rfl rfl rfl rfl rfl rfl rfl rfl

theorem State.setLayer_kept (s_a x_a y_a) : Kept s_a (State.setLayer s_a x_a y_a) := by
  unfold State.setLayer
  exact Kept.upd rfl rfl rfl rfl rfl rfl rfl rfl rfl rfl rfl

theorem State.setStage_kept (s_a x_a y_a) : Kept s_a (State.setStage s_a x_a y_a) := by
  unfold State.setStage
  exact Kept.upd rfl rfl rfl rfl rfl rfl rfl rfl rfl rfl rfl

theorem State.gfxOffset_kept (s_a x_a pos_a) : Kept s_a (State.gfxOffset s_a x_a pos_a) := by
  unfold State.gfxOffset
  refine Kept.seq (State.setLayer_kept ..) ?_
  exact Kept.refl _

theorem State.gfxData_kept (s_a x_a b_a) : Kept s_a (State.gfxData s_a x_a b_a) := by
  unfold State.gfxData
  extract_lets +onlyGivenNames x1
  extract_lets +onlyGivenNames x2
  have hx2 : Kept s_a x2 := by
    subst x2
    refine Kept.seq (State.setLayer_kept ..) ?_
    exact Kept.refl _
  clear_value x2
  refine Kept.seq (State.setB_kept ..) ?_
  exact hx2

theorem State.gfxFlip_kept (s_a x_a boundary_a) : Kept s_a (State.gfxFlip s_a x_a boundary_a) := by
  unfold State.gfxFlip
  refine Kept.seq (State.setLayer_kept ..) ?_
  exact Kept.refl _

theorem State.doFlip_kept (s_a x_a te_a) : Kept s_a (State.doFlip s_a x_a te_a) := by
  unfold State.doFlip
  extract_lets +onlyGivenNames x1
  refine Kept.seq (State.setB_kept ..) ?_
  refine Kept.seq (State.setLayer_kept ..) ?_
  exact Kept.refl _

theorem State.tableBits_kept (s_a x_a) : Kept s_a (State.tableBits s_a x_a) := by
  unfold State.tableBits
  extract_lets +onlyGivenNames x1
  refine Kept.seq (State.setN_kept ..) ?_
  exact Kept.refl _

theorem State.shaperData_kept (s_a x_a b_a) : Kept s_a (State.shaperData s_a x_a b_a) := by
  unfold State.shaperData
  refine Kept.seq (State.tableBits_kept ..) ?_
  refine Kept.seq (State.setStage_kept ..) ?_
  exact Kept.refl _

theorem State.lutOffset_kept (s_a x_a pos_a) : Kept s_a (State.lutOffset s_a x_a pos_a) := by
  unfold State.lutOffset
  refine Kept.seq (State.setStage_kept ..) ?_
  exact Kept.refl _

theorem State.lutData_kept (s_a x_a b_a) : Kept s_a (State.lutData s_a x_a b_a) := by
  unfold State.lutData
  extract_lets +onlyGivenNames x1
  refine Kept.seq (State.tableBits_kept ..) ?_
  refine Kept.seq (State.setStage_kept ..) ?_
  exact Kept.refl _

theorem State.tableFlip_kept (s_a x_a boundary_a) : Kept s_a (State.tableFlip s_a x_a boundary_a) := by
  unfold State.tableFlip
  refine Kept.seq (State.setStage_kept ..) ?_
  exact Kept.refl _

theorem State.doTableFlip_kept (s_a x_a te_a) : Kept s_a (State.doTableFlip s_a x_a te_a) := by
  unfold State.doTableFlip
  extract_lets +onlyGivenNames x1
  refine Kept.ite ?_ ?_
  · exact Kept.refl _
  · extract_lets +onlyGivenNames x2
    refine Kept.ite ?_ ?_
    · refine Kept.ite ?_ ?_
      · exact Kept.refl _
      · refine Kept.seq (State.raise_kept ..) ?_
        refine Kept.seq (State.tableBits_kept ..) ?_
        refine Kept.seq (State.setStage_kept ..) ?_
        exact Kept.refl _
    · extract_lets +onlyGivenNames x3
      have hx3 : Kept s_a x3 := by
        subst x3
        refine Kept.seq (State.tableBits_kept ..) ?_
        refine Kept.seq (State.setStage_kept ..) ?_
        exact Kept.refl _
      clear_value x3
      refine Kept.ite ?_ ?_
      · refine Kept.seq (State.raise_kept ..) ?_
        exact hx3
      · exact hx3

theorem State.refreshStage_kept (s_a c_a x_a te_a) : Kept s_a (State.refreshStage s_a c_a x_a te_a) := by
  unfold State.refreshStage
  extract_lets +onlyGivenNames x1
  have hx1 : Kept s_a x1 := by
    subst x1
    refine Kept.seq (State.doTableFlip_kept ..) ?_
    exact Kept.refl _
  clear_value x1
  split
  extract_lets +onlyGivenNames x2
  have hx2 : Kept s_a x2 := by
    subst x2
    refine Kept.seq (State.setN_kept ..) ?_
    refine Kept.seq (State.setN_kept ..) ?_
    exact hx1
  clear_value x2
  refine Kept.seq (State.setBitN_kept ..) ?_
  refine Kept.seq (State.setBitN_kept ..) ?_
  exact hx2

theorem State.layerNotReady_kept (s_a c_a x_a has_a) : Kept s_a (State.layerNotReady s_a c_a x_a has_a) := by
  unfold State.layerNotReady
  extract_lets +onlyGivenNames x1
  extract_lets +onlyGivenNames x2
  extract_lets +onlyGivenNames x3
  extract_lets +onlyGivenNames x4
  extract_lets +onlyGivenNames x5
  have hx5 : Kept s_a x5 := by
    subst x5
    refine Kept.seq (State.setLayer_kept ..) ?_
    exact Kept.refl _
  clear_value x5
  extract_lets +onlyGivenNames x6
  have hx6 : Kept s_a x6 := by
    subst x6
    refine Kept.seq (State.setN_kept ..) ?_
    refine Kept.seq (State.bump_kept ..) ?_
    exact hx5
  clear_value x6
  extract_lets +onlyGivenNames x7
  have hx7 : Kept s_a x7 := by
    subst x7
    refine Kept.ite ?_ ?_
    · exact hx6
    · refine Kept.seq (State.raise_kept ..) ?_
      exact hx6
  clear_value x7
  refine Kept.ite ?_ ?_
  · refine Kept.seq (State.raise_kept ..) ?_
    exact hx7
  · exact hx7

theorem State.layerReady_kept (s_a x_a) : Kept s_a (State.layerReady s_a x_a) := by
  unfold State.layerReady
  extract_lets +onlyGivenNames x1
  extract_lets +onlyGivenNames x2
  have hx2 : Kept s_a x2 := by
    subst x2
    refine Kept.seq (State.setN_kept ..) ?_
    refine Kept.seq (State.setLayer_kept ..) ?_
    exact Kept.refl _
  clear_value x2
  refine Kept.ite ?_ ?_
  · refine Kept.seq (State.raise_kept ..) ?_
    exact hx2
  · exact hx2

theorem State.layerLoss_kept (s_a c_a d_a x_a state_a) : Kept s_a (State.layerLoss s_a c_a d_a x_a state_a) := by
  unfold State.layerLoss
  refine Kept.seq (State.layerNotReady_kept ..) ?_
  refine Kept.seq (State.bump_kept ..) ?_
  refine Kept.seq (State.setN_kept ..) ?_
  refine Kept.seq (State.enterLoss_kept ..) ?_
  exact Kept.refl _

theorem State.layerShow_kept (s_a d_a x_a slot_a te_a p_a) : Kept s_a (State.layerShow s_a d_a x_a slot_a te_a p_a) := by
  unfold State.layerShow
  extract_lets +onlyGivenNames x1
  extract_lets +onlyGivenNames x2
  extract_lets +onlyGivenNames x3
  have hx3 : Kept s_a x3 := by
    subst x3
    refine Kept.seq (State.emitLedger_kept ..) ?_
    refine Kept.seq (State.showFrame_kept ..) ?_
    refine Kept.seq (State.slip_kept ..) ?_
    exact Kept.refl _
  clear_value x3
  extract_lets +onlyGivenNames x4
  extract_lets +onlyGivenNames x5
  have hx5 : Kept s_a x5 := by
    subst x5
    refine Kept.seq (State.setDst_kept ..) ?_
    refine Kept.seq (State.setN_kept ..) ?_
    exact hx3
  clear_value x5
  refine Kept.seq (State.layerReady_kept ..) ?_
  refine Kept.seq (State.setLayer_kept ..) ?_
  exact hx5

theorem State.layerSwitch_kept (s_a d_a x_a te_a route_a) : Kept s_a (State.layerSwitch s_a d_a x_a te_a route_a) := by
  unfold State.layerSwitch
  extract_lets +onlyGivenNames x1
  extract_lets +onlyGivenNames x2
  extract_lets +onlyGivenNames x3
  refine Kept.ite ?_ ?_
  · refine Kept.seq (State.setDst_kept ..) ?_
    exact Kept.refl _
  · refine Kept.seq (State.setDst_kept ..) ?_
    refine Kept.seq (State.setLayer_kept ..) ?_
    exact Kept.refl _

theorem State.videoLayer_kept (s_a c_a x_a te_a) : Kept s_a (State.videoLayer s_a c_a x_a te_a) := by
  unfold State.videoLayer
  extract_lets +onlyGivenNames x1
  extract_lets +onlyGivenNames x2
  extract_lets +onlyGivenNames x3
  have hx3 : Kept s_a x3 := by
    subst x3
    refine Kept.seq (State.layerSwitch_kept ..) ?_
    exact Kept.refl _
  clear_value x3
  extract_lets +onlyGivenNames x4
  have hx4 : Kept s_a x4 := by
    subst x4
    refine Kept.seq (State.labelColour_kept ..) ?_
    refine Kept.seq (State.setN_kept ..) ?_
    exact hx3
  clear_value x4
  extract_lets +onlyGivenNames x5
  split
  · refine Kept.seq (State.layerLoss_kept ..) ?_
    exact hx4
  · extract_lets +onlyGivenNames x6
    have hx6 : Kept s_a x6 := by
      subst x6
      refine Kept.seq (State.settle_kept ..) ?_
      exact hx4
    clear_value x6
    split
    · refine Kept.ite ?_ ?_
      · refine Kept.seq (State.layerShow_kept ..) ?_
        exact hx6
      · refine Kept.seq (State.layerLoss_kept ..) ?_
        exact hx6
    · refine Kept.seq (State.layerLoss_kept ..) ?_
      exact hx6

theorem State.layerOff_kept (s_a x_a) : Kept s_a (State.layerOff s_a x_a) := by
  unfold State.layerOff
  refine Kept.seq (State.setN_kept ..) ?_
  refine Kept.seq (State.setLayer_kept ..) ?_
  exact Kept.refl _

theorem State.gfxLayer_kept (s_a c_a x_a te_a isStatic_a rebuild_a) : Kept s_a (State.gfxLayer s_a c_a x_a te_a isStatic_a rebuild_a) := by
  unfold State.gfxLayer
  extract_lets +onlyGivenNames x1
  refine Kept.ite ?_ ?_
  · refine Kept.ite ?_ ?_
    · refine Kept.ite ?_ ?_
      · exact Kept.refl _
      · refine Kept.seq (State.layerReady_kept ..) ?_
        refine Kept.seq (State.doFlip_kept ..) ?_
        exact Kept.refl _
    · refine Kept.seq (State.layerNotReady_kept ..) ?_
      exact Kept.refl _
  · refine Kept.seq (State.layerReady_kept ..) ?_
    exact Kept.refl _

theorem State.firnStep_kept (s_a c_a e_a te_a rebuilt_a) : Kept s_a (State.firnStep s_a c_a e_a te_a rebuilt_a) := by
  unfold State.firnStep
  extract_lets +onlyGivenNames x1
  extract_lets +onlyGivenNames x2
  refine Kept.ite ?_ ?_
  · refine Kept.seq (State.setN_kept ..) ?_
    refine Kept.seq (State.setEngine_kept ..) ?_
    exact Kept.refl _
  · refine Kept.ite ?_ ?_
    · refine Kept.seq (State.bump_kept ..) ?_
      refine Kept.seq (State.setN_kept ..) ?_
      refine Kept.seq (State.setEngine_kept ..) ?_
      exact Kept.refl _
    · extract_lets +onlyGivenNames x3
      extract_lets +onlyGivenNames x4
      refine Kept.ite ?_ ?_
      · refine Kept.seq (State.setN_kept ..) ?_
        refine Kept.seq (State.setEngine_kept ..) ?_
        exact Kept.refl _
      · exact Kept.refl _

theorem State.firnGrants_kept (s_a n_a) : Kept s_a (State.firnGrants s_a n_a) := by
  unfold State.firnGrants
  extract_lets +onlyGivenNames x1
  extract_lets +onlyGivenNames x2
  have hx2 : Kept s_a x2 := by
    subst x2
    refine Kept.foldl (fun u3 x4 => ?_) ?_
    · refine Kept.ite ?_ ?_
      · refine Kept.seq (State.raise_kept ..) ?_
        refine Kept.seq (State.setEngine_kept ..) ?_
        exact Kept.refl _
      · exact Kept.refl _
    · exact Kept.refl _
  clear_value x2
  refine Kept.foldl (fun u5 x6 => ?_) ?_
  · refine Kept.seq (State.setN_kept ..) ?_
    exact Kept.refl _
  · exact hx2

theorem State.engineLayers_kept (s_a c_a e_a te_a rebuild_a) : Kept s_a (State.engineLayers s_a c_a e_a te_a rebuild_a) := by
  unfold State.engineLayers
  extract_lets +onlyGivenNames x1
  subst x1
  extract_lets +onlyGivenNames x2
  have hx2 : Kept s_a x2 := by
    subst x2
    refine Kept.foldl (fun u3 x4 => ?_) ?_
    · extract_lets +onlyGivenNames x5
      refine Kept.ite ?_ ?_
      · refine Kept.seq (State.layerOff_kept ..) ?_
        exact Kept.refl _
      · refine Kept.ite ?_ ?_
        · refine Kept.seq (State.videoLayer_kept ..) ?_
          exact Kept.refl _
        · refine Kept.seq (State.gfxLayer_kept ..) ?_
          exact Kept.refl _
    · exact Kept.refl _
  clear_value x2
  extract_lets +onlyGivenNames x6
  have hx6 : Kept s_a x6 := by
    subst x6
    refine Kept.foldl (fun u7 x8 => ?_) ?_
    · refine Kept.seq (State.refreshStage_kept ..) ?_
      exact Kept.refl _
    · exact hx2
  clear_value x6
  refine Kept.seq (State.refreshStage_kept ..) ?_
  exact hx6

theorem State.writeComposite_kept (s_a c_a e_a slot_a te_a k_a f_a rebuild_a) : Kept s_a (State.writeComposite s_a c_a e_a slot_a te_a k_a f_a rebuild_a) := by
  unfold State.writeComposite
  split
  extract_lets +onlyGivenNames x1
  extract_lets +onlyGivenNames x2
  extract_lets +onlyGivenNames x3
  have hx3 : Kept s_a x3 := by
    subst x3
    refine Kept.seq (State.startFrame_kept ..) ?_
    exact Kept.refl _
  clear_value x3
  refine Kept.seq (State.bump_kept ..) ?_
  exact hx3

theorem State.preroll_kept (s_a e_a b_a) : Kept s_a (State.preroll s_a e_a b_a) := by
  unfold State.preroll
  extract_lets +onlyGivenNames x1
  extract_lets +onlyGivenNames x2
  extract_lets +onlyGivenNames x3
  extract_lets +onlyGivenNames x4
  refine Kept.seq (State.setN_kept ..) ?_
  refine Kept.seq (State.setN_kept ..) ?_
  refine Kept.seq (State.setEngine_kept ..) ?_
  exact Kept.refl _

theorem State.engineAssign_kept (s_a old_a e_a b_a) : Kept s_a (State.engineAssign s_a old_a e_a b_a) := by
  unfold State.engineAssign
  extract_lets +onlyGivenNames x1
  extract_lets +onlyGivenNames x2
  refine Kept.ite ?_ ?_
  · exact Kept.refl _
  · refine Kept.ite ?_ ?_
    · refine Kept.seq (State.preroll_kept ..) ?_
      exact Kept.refl _
    · split
      · refine Kept.seq (State.setN_kept ..) ?_
        refine Kept.seq (State.setEngine_kept ..) ?_
        exact Kept.refl _
      · extract_lets +onlyGivenNames x3
        have hx3 : Kept s_a x3 := by
          subst x3
          refine Kept.seq (State.setEngine_kept ..) ?_
          exact Kept.refl _
        clear_value x3
        refine Kept.ite ?_ ?_
        · exact hx3
        · refine Kept.seq (State.preroll_kept ..) ?_
          exact hx3

theorem State.holdMigration_kept (s_a e_a) : Kept s_a (State.holdMigration s_a e_a) := by
  unfold State.holdMigration
  refine Kept.ite ?_ ?_
  · refine Kept.seq (State.setEngine_kept ..) ?_
    exact Kept.refl _
  · exact Kept.refl _

theorem State.engineStopped_kept (s_a e_a) : Kept s_a (State.engineStopped s_a e_a) := by
  unfold State.engineStopped
  extract_lets +onlyGivenNames x1
  refine Kept.ite ?_ ?_
  · exact Kept.refl _
  · extract_lets +onlyGivenNames x2
    have hx2 : Kept s_a x2 := by
      subst x2
      refine Kept.seq (State.raise_kept ..) ?_
      refine Kept.seq (State.setEngine_kept ..) ?_
      exact Kept.refl _
    clear_value x2
    refine Kept.ite ?_ ?_
    · exact hx2
    · refine Kept.seq (State.setN_kept ..) ?_
      refine Kept.seq (State.setN_kept ..) ?_
      refine Kept.seq (State.setEngine_kept ..) ?_
      exact hx2

theorem State.layerGeometry_kept (s_a x_a) : Kept s_a (State.layerGeometry s_a x_a) := by
  unfold State.layerGeometry
  extract_lets +onlyGivenNames x1
  extract_lets +onlyGivenNames x2
  extract_lets +onlyGivenNames x3
  have hx3 : Kept s_a x3 := by
    subst x3
    refine Kept.seq (State.setN_kept ..) ?_
    refine Kept.seq (State.setN_kept ..) ?_
    refine Kept.seq (State.setN_kept ..) ?_
    exact Kept.refl _
  clear_value x3
  refine Kept.ite ?_ ?_
  · refine Kept.seq (State.raise_kept ..) ?_
    exact hx3
  · exact hx3

theorem State.keptWrites_kept (s_a l_a) : Kept s_a (State.keptWrites s_a l_a) := by
  unfold State.keptWrites
  refine Kept.foldl (fun u1 x2 => ?_) ?_
  · split
    · refine Kept.seq (State.setEngine_kept ..) ?_
      exact Kept.refl _
    · exact Kept.refl _
  · exact Kept.refl _

theorem State.layerMoved_kept (s_a old_a x_a) : Kept s_a (State.layerMoved s_a old_a x_a) := by
  unfold State.layerMoved
  extract_lets +onlyGivenNames x1
  refine Kept.ite ?_ ?_
  · refine Kept.seq (State.setDst_kept ..) ?_
    refine Kept.seq (State.setLayer_kept ..) ?_
    exact Kept.refl _
  · refine Kept.ite ?_ ?_
    · refine Kept.seq (State.setDst_kept ..) ?_
      exact Kept.refl _
    · exact Kept.refl _

theorem State.layersMeet_kept (s_a old_a e_a) : Kept s_a (State.layersMeet s_a old_a e_a) := by
  unfold State.layersMeet
  refine Kept.foldl (fun u1 x2 => ?_) ?_
  · extract_lets +onlyGivenNames x3
    have hx3 : Kept u1 x3 := by
      subst x3
      refine Kept.seq (State.layerMoved_kept ..) ?_
      exact Kept.refl _
    clear_value x3
    refine Kept.ite ?_ ?_
    · exact hx3
    · refine Kept.seq (State.layerGeometry_kept ..) ?_
      exact hx3
  · exact Kept.refl _

theorem State.timingMeet_kept (s_a old_a e_a b_a) : Kept s_a (State.timingMeet s_a old_a e_a b_a) := by
  unfold State.timingMeet
  extract_lets +onlyGivenNames x1
  extract_lets +onlyGivenNames x2
  split
  refine Kept.ite ?_ ?_
  · exact Kept.refl _
  · refine Kept.ite ?_ ?_
    · refine Kept.seq (State.setN_kept ..) ?_
      refine Kept.seq (State.setEngine_kept ..) ?_
      exact Kept.refl _
    · refine Kept.ite ?_ ?_
      · refine Kept.ite ?_ ?_
        · extract_lets +onlyGivenNames x3
          refine Kept.seq (State.setN_kept ..) ?_
          refine Kept.seq (State.setEngine_kept ..) ?_
          exact Kept.refl _
        · refine Kept.seq (State.preroll_kept ..) ?_
          exact Kept.refl _
      · exact Kept.refl _

theorem State.handover_kept (s_a b_a) : Kept s_a (State.handover s_a b_a) := by
  unfold State.handover
  extract_lets +onlyGivenNames x1
  extract_lets +onlyGivenNames x2
  extract_lets +onlyGivenNames x3
  have hx3 : Kept s_a x3 := by
    subst x3
    refine Kept.foldl (fun u4 x5 => ?_) ?_
    · extract_lets +onlyGivenNames x6
      refine Kept.seq (State.engineAssign_kept ..) ?_
      refine Kept.seq (State.layersMeet_kept ..) ?_
      refine Kept.seq (State.setN_kept ..) ?_
      refine Kept.seq (State.setN_kept ..) ?_
      refine Kept.seq (State.setEngine_kept ..) ?_
      exact Kept.refl _
    · exact Kept.refl _
  clear_value x3
  extract_lets +onlyGivenNames x7
  extract_lets +onlyGivenNames x8
  extract_lets +onlyGivenNames x9
  have hx9 : Kept s_a x9 := by
    subst x9
    refine Kept.seq (State.refreshSlot_kept ..) ?_
    refine Kept.seq (State.raise_kept ..) ?_
    refine Kept.seq (State.setN_kept ..) ?_
    refine Kept.seq (State.setEngine_kept ..) ?_
    exact hx3
  clear_value x9
  refine Kept.seq (State.timingMeet_kept ..) ?_
  refine Kept.seq (State.engineAssign_kept ..) ?_
  refine Kept.seq (State.layersMeet_kept ..) ?_
  exact hx9

theorem State.retireWrites_kept (s_a e_a slot_a) : Kept s_a (State.retireWrites s_a e_a slot_a) := by
  unfold State.retireWrites
  extract_lets +onlyGivenNames x1
  refine Kept.ite ?_ ?_
  · exact Kept.refl _
  · refine Kept.seq (State.refreshSlot_kept ..) ?_
    refine Kept.seq (State.raise_kept ..) ?_
    refine Kept.seq (State.setEngine_kept ..) ?_
    exact Kept.refl _

theorem State.engineFrame_kept (s_a c_a e_a te_a k_a f_a) : Kept s_a (State.engineFrame s_a c_a e_a te_a k_a f_a) := by
  unfold State.engineFrame
  extract_lets +onlyGivenNames x1
  extract_lets +onlyGivenNames x2
  extract_lets +onlyGivenNames x3
  have hx3 : Kept s_a x3 := by
    subst x3
    refine Kept.seq (State.setEngine_kept ..) ?_
    exact Kept.refl _
  clear_value x3
  extract_lets +onlyGivenNames x4
  have hx4 : Kept s_a x4 := by
    subst x4
    refine Kept.seq (State.firnStep_kept ..) ?_
    refine Kept.seq (State.engineLayers_kept ..) ?_
    exact hx3
  clear_value x4
  split
  · refine Kept.seq (State.writeComposite_kept ..) ?_
    refine Kept.seq (State.retireWrites_kept ..) ?_
    exact hx4
  · refine Kept.ite ?_ ?_
    · refine Kept.seq (State.raise_kept ..) ?_
      refine Kept.seq (State.bump_kept ..) ?_
      exact hx4
    · exact hx4

theorem State.meetHandover_kept (s_a e_a) : Kept s_a (State.meetHandover s_a e_a) := by
  unfold State.meetHandover
  extract_lets +onlyGivenNames x1
  extract_lets +onlyGivenNames x2
  extract_lets +onlyGivenNames x3
  refine Kept.ite ?_ ?_
  · refine Kept.seq (State.handover_kept ..) ?_
    exact Kept.refl _
  · exact Kept.refl _

theorem execEngineAlignmentPoint_kept (dt_a engine_a s_a) : KeptR s_a (execEngineAlignmentPoint dt_a engine_a s_a) := by
  unfold execEngineAlignmentPoint
  refine actIf_kept (hk3 := fun u1 => ?_) ..
  extract_lets +onlyGivenNames x2
  have hx2 : Kept u1 x2 := by
    subst x2
    refine Kept.seq (State.meetHandover_kept ..) ?_
    refine Kept.seq (State.engineStopped_kept ..) ?_
    exact Kept.refl _
  clear_value x2
  extract_lets +onlyGivenNames x3
  extract_lets +onlyGivenNames x4
  extract_lets +onlyGivenNames x5
  extract_lets +onlyGivenNames x6
  extract_lets +onlyGivenNames x7
  extract_lets +onlyGivenNames x8
  refine Kept.ite ?_ ?_
  · exact hx2
  · refine Kept.seq (State.engineFrame_kept ..) ?_
    exact hx2

theorem State.cirqueCommit_kept (s_a old_a b_a) : Kept s_a (State.cirqueCommit s_a old_a b_a) := by
  unfold State.cirqueCommit
  extract_lets +onlyGivenNames x1
  extract_lets +onlyGivenNames x2
  extract_lets +onlyGivenNames x3
  have hx3 : Kept s_a x3 := by
    subst x3
    refine Kept.foldl (fun u4 x5 => ?_) ?_
    · refine Kept.seq (State.engineAssign_kept ..) ?_
      exact Kept.refl _
    · exact Kept.refl _
  clear_value x3
  extract_lets +onlyGivenNames x6
  have hx6 : Kept s_a x6 := by
    subst x6
    refine Kept.foldl (fun u7 x8 => ?_) ?_
    · refine Kept.ite ?_ ?_
      · exact Kept.refl _
      · refine Kept.seq (State.timingMeet_kept ..) ?_
        exact Kept.refl _
    · exact hx3
  clear_value x6
  extract_lets +onlyGivenNames x9
  have hx9 : Kept s_a x9 := by
    subst x9
    refine Kept.foldl (fun u10 x11 => ?_) ?_
    · refine Kept.seq (State.layersMeet_kept ..) ?_
      exact Kept.refl _
    · exact hx6
  clear_value x9
  refine Kept.foldl (fun u12 x13 => ?_) ?_
  · refine Kept.seq (State.holdMigration_kept ..) ?_
    exact Kept.refl _
  · exact hx9

end Sys2Proof.Machine
end

