-- ==== Sys2Proof/Laws/KeptTarn.lean ====
section
/-!
SUPPORT. That the functions of Machine/Tarn.lean keep the queue, never turn time back and keep a sound state sound
(`Kept` of Laws/Kept.lean).
-/
namespace Sys2Proof.Machine

theorem State.setTstat_kept (s_a p_a k_a v_a) : Kept s_a (State.setTstat s_a p_a k_a v_a) := by
  unfold State.setTstat
  refine Kept.seq (State.setRegBit_kept ..) ?_
  exact Kept.refl _

theorem State.setTp_kept (s_a p_a x_a) : Kept s_a (State.setTp s_a p_a x_a) := by
  unfold State.setTp
  exact Kept.upd rfl rfl rfl rfl rfl rfl rfl rfl rfl rfl rfl

theorem State.setSrcState_kept (s_a p_a st_a) : Kept s_a (State.setSrcState s_a p_a st_a) := by
  unfold State.setSrcState
  extract_lets +onlyGivenNames x1
  refine Kept.ite ?_ ?_
  · exact Kept.refl _
  · refine Kept.seq (State.raise_kept ..) ?_
    refine Kept.seq (State.setRegField_kept ..) ?_
    exact Kept.refl _

theorem State.refreshSrc_kept (s_a p_a) : Kept s_a (State.refreshSrc s_a p_a) := by
  unfold State.refreshSrc
  refine Kept.seq (State.setSrcState_kept ..) ?_
  exact Kept.refl _

theorem State.refreshFifo_kept (s_a p_a) : Kept s_a (State.refreshFifo s_a p_a) := by
  unfold State.refreshFifo
  extract_lets +onlyGivenNames x1
  refine Kept.seq (State.setRegN_kept ..) ?_
  exact Kept.refl _

theorem State.setRate_kept (s_a p_a mHz_a) : Kept s_a (State.setRate s_a p_a mHz_a) := by
  unfold State.setRate
  extract_lets +onlyGivenNames x1
  refine Kept.seq (State.setRegField_kept ..) ?_
  refine Kept.seq (State.setRegN_kept ..) ?_
  refine Kept.seq (State.setRegN_kept ..) ?_
  exact Kept.refl _

theorem State.tarnRate_kept (s_a p_a old_a) : Kept s_a (State.tarnRate s_a p_a old_a) := by
  unfold State.tarnRate
  extract_lets +onlyGivenNames x1
  refine Kept.ite ?_ ?_
  · refine Kept.seq (State.setRegN_kept ..) ?_
    refine Kept.seq (State.setRegN_kept ..) ?_
    exact Kept.refl _
  · refine Kept.ite ?_ ?_
    · refine Kept.seq (State.setRegField_kept ..) ?_
      refine Kept.seq (State.setRegN_kept ..) ?_
      refine Kept.seq (State.setRegN_kept ..) ?_
      exact Kept.refl _
    · refine Kept.ite ?_ ?_
      · exact Kept.refl _
      · refine Kept.seq (State.setRate_kept ..) ?_
        exact Kept.refl _

theorem State.tarnOverrun_kept (s_a p_a) : Kept s_a (State.tarnOverrun s_a p_a) := by
  unfold State.tarnOverrun
  refine Kept.seq (State.raiseLimited_kept ..) ?_
  refine Kept.seq (State.setTstat_kept ..) ?_
  exact Kept.refl _

theorem State.realign_kept (s_a p_a) : Kept s_a (State.realign s_a p_a) := by
  unfold State.realign
  extract_lets +onlyGivenNames x1
  refine Kept.ite ?_ ?_
  · refine Kept.seq (State.setTp_kept ..) ?_
    exact Kept.refl _
  · split
    rename_i v2 t3 e4
    have ht3 := Kept.snd e4 (State.drawBytes_kept ..)
    extract_lets +onlyGivenNames x5
    refine Kept.seq (State.setTp_kept ..) ?_
    exact ht3

theorem State.tarnStop_kept (s_a p_a) : Kept s_a (State.tarnStop s_a p_a) := by
  unfold State.tarnStop
  extract_lets +onlyGivenNames x1
  extract_lets +onlyGivenNames x2
  have hx2 : Kept s_a x2 := by
    subst x2
    refine Kept.seq (State.setTp_kept ..) ?_
    exact Kept.refl _
  clear_value x2
  refine Kept.seq (State.refreshSrc_kept ..) ?_
  refine Kept.seq (State.setTstat_kept ..) ?_
  refine Kept.seq (State.setTstat_kept ..) ?_
  exact hx2

theorem State.tarnEnable_kept (s_a p_a) : Kept s_a (State.tarnEnable s_a p_a) := by
  unfold State.tarnEnable
  extract_lets +onlyGivenNames x1
  refine Kept.ite ?_ ?_
  · exact Kept.refl _
  · refine Kept.ite ?_ ?_
    · refine Kept.seq (State.setTp_kept ..) ?_
      exact Kept.refl _
    · refine Kept.seq (State.setTp_kept ..) ?_
      exact Kept.refl _

theorem State.tarnCfgErr_kept (s_a p_a) : Kept s_a (State.tarnCfgErr s_a p_a) := by
  unfold State.tarnCfgErr
  refine Kept.seq (State.raise_kept ..) ?_
  refine Kept.seq (State.setTstat_kept ..) ?_
  exact Kept.refl _

theorem State.tarnCtrlWrite_kept (s_a p_a value_a) : Kept s_a (State.tarnCtrlWrite s_a p_a value_a) := by
  unfold State.tarnCtrlWrite
  extract_lets +onlyGivenNames x1
  extract_lets +onlyGivenNames x2
  extract_lets +onlyGivenNames x3
  extract_lets +onlyGivenNames x4
  refine Kept.ite ?_ ?_
  · refine Kept.ite ?_ ?_
    · refine Kept.seq (State.tarnCfgErr_kept ..) ?_
      exact Kept.refl _
    · refine Kept.ite ?_ ?_
      · exact Kept.refl _
      · refine Kept.seq (State.tarnStop_kept ..) ?_
        refine Kept.seq (State.setRegN_kept ..) ?_
        exact Kept.refl _
  · refine Kept.ite ?_ ?_
    · refine Kept.seq (State.tarnCfgErr_kept ..) ?_
      refine Kept.seq (State.setRegN_kept ..) ?_
      exact Kept.refl _
    · extract_lets +onlyGivenNames x5
      have hx5 : Kept s_a x5 := by
        subst x5
        refine Kept.seq (State.tarnRate_kept ..) ?_
        refine Kept.seq (State.setRegN_kept ..) ?_
        exact Kept.refl _
      clear_value x5
      refine Kept.ite ?_ ?_
      · refine Kept.seq (State.tarnEnable_kept ..) ?_
        exact hx5
      · refine Kept.seq (State.refreshSrc_kept ..) ?_
        exact hx5

theorem execTarnEnWrite_kept (dt_a port_a value_a s_a) : KeptR s_a (execTarnEnWrite dt_a port_a value_a s_a) := by
  unfold execTarnEnWrite
  refine actIf_kept (hk3 := fun u1 => ?_) ..
  refine Kept.seq (State.tarnCtrlWrite_kept ..) ?_
  exact Kept.refl _

theorem State.tarnTrigger_kept (s_a) : Kept s_a (State.tarnTrigger s_a) := by
  unfold State.tarnTrigger
  exact Kept.upd rfl rfl rfl rfl rfl rfl rfl rfl rfl rfl rfl

theorem State.tarnGoWrite_kept (s_a value_a) : Kept s_a (State.tarnGoWrite s_a value_a) := by
  unfold State.tarnGoWrite
  refine Kept.ite ?_ ?_
  · extract_lets +onlyGivenNames x1
    have hx1 : Kept s_a x1 := by
      subst x1
      refine Kept.seq (State.setRegN_kept ..) ?_
      exact Kept.refl _
    clear_value x1
    refine Kept.ite ?_ ?_
    · exact hx1
    · refine Kept.seq (State.tarnTrigger_kept ..) ?_
      exact hx1
  · exact Kept.refl _

theorem execTarnGo_kept (dt_a value_a s_a) : KeptR s_a (execTarnGo dt_a value_a s_a) := by
  unfold execTarnGo
  refine act_kept (hk2 := fun u1 => ?_) ..
  refine Kept.seq (State.tarnGoWrite_kept ..) ?_
  exact Kept.refl _

theorem execTarnTrigEdge_kept (dt_a s_a) : KeptR s_a (execTarnTrigEdge dt_a s_a) := by
  unfold execTarnTrigEdge
  refine actIf_kept (hk3 := fun u1 => ?_) ..
  refine Kept.seq (State.tarnTrigger_kept ..) ?_
  exact Kept.refl _

theorem execTarnStarted_kept (dt_a s_a) : KeptR s_a (execTarnStarted dt_a s_a) := by
  unfold execTarnStarted
  refine actIf_kept (hk3 := fun u1 => ?_) ..
  split
  · exact Kept.refl _
  · extract_lets +onlyGivenNames x2
    extract_lets +onlyGivenNames x3
    extract_lets +onlyGivenNames x4
    have hx4 : Kept u1 x4 := by
      subst x4
      exact Kept.upd rfl rfl rfl rfl rfl rfl rfl rfl rfl rfl rfl
    clear_value x4
    extract_lets +onlyGivenNames x5
    have hx5 : Kept u1 x5 := by
      subst x5
      refine Kept.seq (State.setRegN_kept ..) ?_
      refine Kept.seq (State.setRegN_kept ..) ?_
      refine Kept.seq (State.setRegN_kept ..) ?_
      exact hx4
    clear_value x5
    refine Kept.foldl (fun u6 x7 => ?_) ?_
    · extract_lets +onlyGivenNames x8
      have hx8 : Kept u6 x8 := by
        subst x8
        refine Kept.seq (State.tarnStop_kept ..) ?_
        exact Kept.refl _
      clear_value x8
      extract_lets +onlyGivenNames x9
      extract_lets +onlyGivenNames x10
      have hx10 : Kept u6 x10 := by
        subst x10
        refine Kept.ite ?_ ?_
        · refine Kept.seq (State.setTp_kept ..) ?_
          exact hx8
        · refine Kept.seq (State.setTp_kept ..) ?_
          exact hx8
      clear_value x10
      refine Kept.seq (State.raise_kept ..) ?_
      exact hx10
    · exact hx5

theorem State.applyMask_kept (s_a p_a tx_a start_a) : Kept s_a (State.applyMask s_a p_a tx_a start_a) := by
  unfold State.applyMask
  extract_lets +onlyGivenNames x1
  split
  · exact Kept.refl _
  · refine Kept.ite ?_ ?_
    · refine Kept.seq (State.setTp_kept ..) ?_
      exact Kept.refl _
    · extract_lets +onlyGivenNames x2
      have hx2 : Kept s_a x2 := by
        subst x2
        refine Kept.seq (State.setTp_kept ..) ?_
        exact Kept.refl _
      clear_value x2
      extract_lets +onlyGivenNames x3
      have hx3 : Kept s_a x3 := by
        subst x3
        refine Kept.seq (State.setRegN_kept ..) ?_
        refine Kept.seq (State.setRegBit_kept ..) ?_
        exact hx2
      clear_value x3
      refine Kept.seq (State.raise_kept ..) ?_
      refine Kept.seq (State.realign_kept ..) ?_
      refine Kept.seq (State.setRegN_kept ..) ?_
      exact hx3

theorem State.tarnFill_kept (s_a p_a at__a) : Kept s_a (State.tarnFill s_a p_a at__a) := by
  unfold State.tarnFill
  extract_lets +onlyGivenNames x1
  extract_lets +onlyGivenNames x2
  refine Kept.seq (State.setRegN_kept ..) ?_
  refine Kept.seq (State.setTp_kept ..) ?_
  exact Kept.refl _

theorem State.tarnDeliver_kept (s_a p_a at__a ratio_a) : Kept s_a (State.tarnDeliver s_a p_a at__a ratio_a) := by
  unfold State.tarnDeliver
  extract_lets +onlyGivenNames x1
  extract_lets +onlyGivenNames x2
  extract_lets +onlyGivenNames x3
  extract_lets +onlyGivenNames x4
  have hx4 : Kept s_a x4 := by
    subst x4
    refine Kept.seq (State.setTp_kept ..) ?_
    exact Kept.refl _
  clear_value x4
  refine Kept.foldl (fun u5 x6 => ?_) ?_
  · refine Kept.seq (State.queueWords_kept ..) ?_
    exact Kept.refl _
  · exact hx4

theorem State.tarnCollect_kept (s_a p_a samples_a) : Kept s_a (State.tarnCollect s_a p_a samples_a) := by
  unfold State.tarnCollect
  extract_lets +onlyGivenNames x1
  extract_lets +onlyGivenNames x2
  extract_lets +onlyGivenNames x3
  extract_lets +onlyGivenNames x4
  refine Kept.ite ?_ ?_
  · refine Kept.seq (State.tarnOverrun_kept ..) ?_
    refine Kept.seq (State.bumpReg_kept ..) ?_
    exact Kept.refl _
  · refine Kept.seq (State.setTp_kept ..) ?_
    exact Kept.refl _

theorem State.tarnReceive_kept (s_a p_a at__a rx_a pdmClip_a) : Kept s_a (State.tarnReceive s_a p_a at__a rx_a pdmClip_a) := by
  unfold State.tarnReceive
  extract_lets +onlyGivenNames x1
  extract_lets +onlyGivenNames x2
  extract_lets +onlyGivenNames x3
  extract_lets +onlyGivenNames x4
  extract_lets +onlyGivenNames x5
  extract_lets +onlyGivenNames x6
  have hx6 : Kept s_a x6 := by
    subst x6
    refine Kept.seq (State.setTp_kept ..) ?_
    exact Kept.refl _
  clear_value x6
  extract_lets +onlyGivenNames x7
  have hx7 : Kept s_a x7 := by
    subst x7
    refine Kept.ite ?_ ?_
    · refine Kept.seq (State.setTstat_kept ..) ?_
      exact hx6
    · exact hx6
  clear_value x7
  extract_lets +onlyGivenNames x8
  have hx8 : Kept s_a x8 := by
    subst x8
    refine Kept.seq (State.tarnFill_kept ..) ?_
    refine Kept.seq (State.tarnCollect_kept ..) ?_
    exact hx7
  clear_value x8
  extract_lets +onlyGivenNames x9
  have hx9 : Kept s_a x9 := by
    subst x9
    refine Kept.seq (State.tarnDeliver_kept ..) ?_
    exact hx8
  clear_value x9
  refine Kept.ite ?_ ?_
  · exact hx9
  · refine Kept.seq (State.setInLatency_kept ..) ?_
    exact hx9

theorem State.tarnRun_kept (s_a p_a at__a slots_a) : Kept s_a (State.tarnRun s_a p_a at__a slots_a) := by
  unfold State.tarnRun
  refine Kept.foldl (fun u1 x2 => ?_) ?_
  · refine Kept.seq (State.runOut_kept ..) ?_
    exact Kept.refl _
  · exact Kept.refl _

theorem State.tarnUnderrun_kept (s_a p_a) : Kept s_a (State.tarnUnderrun s_a p_a) := by
  unfold State.tarnUnderrun
  refine Kept.seq (State.raiseLimited_kept ..) ?_
  refine Kept.seq (State.setTstat_kept ..) ?_
  refine Kept.seq (State.bumpReg_kept ..) ?_
  exact Kept.refl _

theorem State.tarnSource_kept (s_a p_a at__a slots_a) : Kept s_a (State.tarnSource s_a p_a at__a slots_a).2 := by
  unfold State.tarnSource
  split
  · split
    · refine Kept.mk2 ?_
      refine Kept.seq (State.setTp_kept ..) ?_
      exact Kept.refl _
    · refine Kept.mk2 ?_
      refine Kept.seq (State.tarnUnderrun_kept ..) ?_
      exact Kept.refl _
  · split
    · refine Kept.mk2 ?_
      refine Kept.seq (State.tarnUnderrun_kept ..) ?_
      exact Kept.refl _
    · refine Kept.mk2 ?_
      refine Kept.seq (State.tarnRun_kept ..) ?_
      exact Kept.refl _

theorem State.tarnWords_kept (s_a p_a slots_a samples_a) : Kept s_a (State.tarnWords s_a p_a slots_a samples_a) := by
  unfold State.tarnWords
  extract_lets +onlyGivenNames x1
  extract_lets +onlyGivenNames x2
  have hx2 : Kept s_a x2 := by
    subst x2
    refine Kept.foldl (fun u3 x4 => ?_) ?_
    · refine Kept.seq (State.emit_kept ..) ?_
      exact Kept.refl _
    · exact Kept.refl _
  clear_value x2
  refine Kept.ite ?_ ?_
  · exact hx2
  · refine Kept.foldl (fun u5 x6 => ?_) ?_
    · refine Kept.seq (State.emit_kept ..) ?_
      exact Kept.refl _
    · exact hx2

theorem State.tarnClocks_kept (s_a p_a at__a) : Kept s_a (State.tarnClocks s_a p_a at__a) := by
  unfold State.tarnClocks
  extract_lets +onlyGivenNames x1
  refine Kept.ite ?_ ?_
  · refine Kept.seq (State.emit_kept ..) ?_
    exact Kept.refl _
  · exact Kept.refl _

theorem State.tarnSend_kept (s_a p_a at__a) : Kept s_a (State.tarnSend s_a p_a at__a) := by
  unfold State.tarnSend
  extract_lets +onlyGivenNames x1
  refine Kept.ite ?_ ?_
  · exact Kept.refl _
  · extract_lets +onlyGivenNames x2
    extract_lets +onlyGivenNames x3
    have hx3 : Kept s_a x3.2 := by
      subst x3
      refine Kept.seq (State.tarnSource_kept ..) ?_
      exact Kept.refl _
    clear_value x3
    refine Kept.ite ?_ ?_
    · refine Kept.seq (State.tarnWords_kept ..) ?_
      exact hx3
    · exact hx3

theorem execTarnFrameStart_kept (dt_a port_a rx_a pdmClip_a s_a) : KeptR s_a (execTarnFrameStart dt_a port_a rx_a pdmClip_a s_a) := by
  unfold execTarnFrameStart
  refine actIf_kept (hk3 := fun u1 => ?_) ..
  extract_lets +onlyGivenNames x2
  extract_lets +onlyGivenNames x3
  extract_lets +onlyGivenNames x4
  extract_lets +onlyGivenNames x5
  extract_lets +onlyGivenNames x6
  extract_lets +onlyGivenNames x7
  have hx7 : Kept u1 x7 := by
    subst x7
    refine Kept.seq (State.setTp_kept ..) ?_
    exact Kept.refl _
  clear_value x7
  extract_lets +onlyGivenNames x8
  have hx8 : Kept u1 x8 := by
    subst x8
    refine Kept.ite ?_ ?_
    · refine Kept.seq (State.raise_kept ..) ?_
      exact hx7
    · exact hx7
  clear_value x8
  extract_lets +onlyGivenNames x9
  have hx9 : Kept u1 x9 := by
    subst x9
    refine Kept.ite ?_ ?_
    · refine Kept.seq (State.setTstat_kept ..) ?_
      refine Kept.seq (State.realign_kept ..) ?_
      exact hx8
    · exact hx8
  clear_value x9
  extract_lets +onlyGivenNames x10
  have hx10 : Kept u1 x10 := by
    subst x10
    refine Kept.seq (State.tarnClocks_kept ..) ?_
    refine Kept.seq (State.applyMask_kept ..) ?_
    refine Kept.seq (State.applyMask_kept ..) ?_
    exact hx9
  clear_value x10
  refine Kept.seq (State.refreshFifo_kept ..) ?_
  refine Kept.seq (State.refreshSrc_kept ..) ?_
  refine Kept.seq (State.tarnSend_kept ..) ?_
  refine Kept.seq (State.tarnReceive_kept ..) ?_
  exact hx10

theorem State.tarnMaskWrite_kept (s_a port_a tx_a value_a late_a) : Kept s_a (State.tarnMaskWrite s_a port_a tx_a value_a late_a) := by
  unfold State.tarnMaskWrite
  extract_lets +onlyGivenNames x1
  extract_lets +onlyGivenNames x2
  extract_lets +onlyGivenNames x3
  have hx3 : Kept s_a x3 := by
    subst x3
    refine Kept.seq (State.setRegBit_kept ..) ?_
    refine Kept.seq (State.setRegN_kept ..) ?_
    exact Kept.refl _
  clear_value x3
  refine Kept.seq (State.setTp_kept ..) ?_
  exact hx3

theorem execTarnMaskWrite_kept (dt_a port_a tx_a value_a late_a s_a) : KeptR s_a (execTarnMaskWrite dt_a port_a tx_a value_a late_a s_a) := by
  unfold execTarnMaskWrite
  refine actIf_kept (hk3 := fun u1 => ?_) ..
  refine Kept.seq (State.tarnMaskWrite_kept ..) ?_
  exact Kept.refl _

theorem execTarnFsEdge_kept (dt_a port_a s_a) : KeptR s_a (execTarnFsEdge dt_a port_a s_a) := by
  unfold execTarnFsEdge
  refine actIf_kept (hk3 := fun u1 => ?_) ..
  extract_lets +onlyGivenNames x2
  extract_lets +onlyGivenNames x3
  extract_lets +onlyGivenNames x4
  extract_lets +onlyGivenNames x5
  extract_lets +onlyGivenNames x6
  have hx6 : Kept u1 x6 := by
    subst x6
    refine Kept.seq (State.setTstat_kept ..) ?_
    refine Kept.seq (State.setTp_kept ..) ?_
    exact Kept.refl _
  clear_value x6
  extract_lets +onlyGivenNames x7
  have hx7 : Kept u1 x7 := by
    subst x7
    refine Kept.ite ?_ ?_
    · refine Kept.seq (State.raise_kept ..) ?_
      exact hx6
    · exact hx6
  clear_value x7
  refine Kept.seq (State.refreshSrc_kept ..) ?_
  exact hx7

theorem execTarnFsLost_kept (dt_a port_a s_a) : KeptR s_a (execTarnFsLost dt_a port_a s_a) := by
  unfold execTarnFsLost
  refine actIf_kept (hk3 := fun u1 => ?_) ..
  extract_lets +onlyGivenNames x2
  extract_lets +onlyGivenNames x3
  have hx3 : Kept u1 x3 := by
    subst x3
    refine Kept.seq (State.setTp_kept ..) ?_
    exact Kept.refl _
  clear_value x3
  refine Kept.seq (State.refreshSrc_kept ..) ?_
  refine Kept.seq (State.raise_kept ..) ?_
  refine Kept.seq (State.bumpReg_kept ..) ?_
  refine Kept.seq (State.setTstat_kept ..) ?_
  refine Kept.seq (State.setTstat_kept ..) ?_
  exact hx3

theorem execTarnRateMeasure_kept (dt_a port_a milliHertz_a fill_a s_a) : KeptR s_a (execTarnRateMeasure dt_a port_a milliHertz_a fill_a s_a) := by
  unfold execTarnRateMeasure
  refine actIf_kept (hk3 := fun u1 => ?_) ..
  extract_lets +onlyGivenNames x2
  extract_lets +onlyGivenNames x3
  extract_lets +onlyGivenNames x4
  have hx4 : Kept u1 x4 := by
    subst x4
    refine Kept.seq (State.setTp_kept ..) ?_
    exact Kept.refl _
  clear_value x4
  refine Kept.ite ?_ ?_
  · refine Kept.seq (State.refreshSrc_kept ..) ?_
    exact hx4
  · extract_lets +onlyGivenNames x5
    extract_lets +onlyGivenNames x6
    have hx6 : Kept u1 x6 := by
      subst x6
      refine Kept.seq (State.setRate_kept ..) ?_
      exact hx4
    clear_value x6
    extract_lets +onlyGivenNames x7
    extract_lets +onlyGivenNames x8
    have hx8 : Kept u1 x8 := by
      subst x8
      refine Kept.ite ?_ ?_
      · refine Kept.seq (State.raise_kept ..) ?_
        refine Kept.seq (State.setTstat_kept ..) ?_
        exact hx6
      · exact hx6
    clear_value x8
    refine Kept.seq (State.refreshSrc_kept ..) ?_
    exact hx8

theorem State.rxfifoPop_kept (s_a p_a) : Kept s_a (State.rxfifoPop s_a p_a).2 := by
  unfold State.rxfifoPop
  extract_lets +onlyGivenNames x1
  split
  · refine Kept.mk2 ?_
    refine Kept.seq (State.refreshFifo_kept ..) ?_
    refine Kept.seq (State.setTp_kept ..) ?_
    exact Kept.refl _
  · refine Kept.mk2 ?_
    refine Kept.seq (State.tarnOverrun_kept ..) ?_
    exact Kept.refl _

theorem State.txfifoPush_kept (s_a p_a value_a) : Kept s_a (State.txfifoPush s_a p_a value_a) := by
  unfold State.txfifoPush
  extract_lets +onlyGivenNames x1
  refine Kept.ite ?_ ?_
  · refine Kept.seq (State.refreshFifo_kept ..) ?_
    refine Kept.seq (State.setTp_kept ..) ?_
    exact Kept.refl _
  · refine Kept.seq (State.tarnOverrun_kept ..) ?_
    exact Kept.refl _

theorem execTarnRxfifoRead_kept (dt_a port_a s_a) : KeptR s_a (execTarnRxfifoRead dt_a port_a s_a) := by
  unfold execTarnRxfifoRead
  refine actIf_kept (hk3 := fun u1 => ?_) ..
  extract_lets +onlyGivenNames x2
  have hx2 : Kept u1 x2.2 := by
    subst x2
    refine Kept.seq (State.rxfifoPop_kept ..) ?_
    exact Kept.refl _
  clear_value x2
  refine Kept.seq (State.emit_kept ..) ?_
  exact hx2

theorem execTarnTxfifoWrite_kept (dt_a port_a value_a s_a) : KeptR s_a (execTarnTxfifoWrite dt_a port_a value_a s_a) := by
  unfold execTarnTxfifoWrite
  refine actIf_kept (hk3 := fun u1 => ?_) ..
  refine Kept.seq (State.txfifoPush_kept ..) ?_
  exact Kept.refl _

theorem execTarnFcntLatch_kept (dt_a port_a s_a) : KeptR s_a (execTarnFcntLatch dt_a port_a s_a) := by
  unfold execTarnFcntLatch
  refine actIf_kept (hk3 := fun u1 => ?_) ..
  extract_lets +onlyGivenNames x2
  extract_lets +onlyGivenNames x3
  have hx3 : Kept u1 x3 := by
    subst x3
    refine Kept.seq (State.setRegN_kept ..) ?_
    exact Kept.refl _
  clear_value x3
  refine Kept.seq (State.emit_kept ..) ?_
  refine Kept.seq (State.setRegN_kept ..) ?_
  exact hx3

end Sys2Proof.Machine
end

