-- ==== Sys2Proof/Laws/KeptCtl.lean ====
section
/-!
SUPPORT. That the functions of Machine/Ctl.lean keep the queue, never turn time back and keep a sound state sound
(`Kept` of Laws/Kept.lean).
-/
namespace Sys2Proof.Machine

theorem State.setCtlPort_kept (s_a port_a x_a) : Kept s_a (State.setCtlPort s_a port_a x_a) := by
  unfold State.setCtlPort
  exact Kept.upd rfl rfl rfl rfl rfl rfl rfl rfl rfl rfl rfl

theorem State.cmacIrq_kept (s_a port_a k_a) : Kept s_a (State.cmacIrq s_a port_a k_a) := by
  unfold State.cmacIrq
  refine Kept.seq (State.setRegBit_kept ..) ?_
  exact Kept.refl _

theorem State.cmacCount_kept (s_a port_a off_a) : Kept s_a (State.cmacCount s_a port_a off_a) := by
  unfold State.cmacCount
  extract_lets +onlyGivenNames x1
  have hx1 : Kept s_a x1 := by
    subst x1
    refine Kept.seq (State.bumpReg_kept ..) ?_
    exact Kept.refl _
  clear_value x1
  refine Kept.ite ?_ ?_
  · refine Kept.seq (State.cmacIrq_kept ..) ?_
    exact hx1
  · exact hx1

theorem State.ctlDown_kept (s_a port_a) : Kept s_a (State.ctlDown s_a port_a) := by
  unfold State.ctlDown
  extract_lets +onlyGivenNames x1
  have hx1 : Kept s_a x1 := by
    subst x1
    refine Kept.seq (State.setRegField_kept ..) ?_
    refine Kept.seq (State.setRegBit_kept ..) ?_
    exact Kept.refl _
  clear_value x1
  extract_lets +onlyGivenNames x2
  have hx2 : Kept s_a x2 := by
    subst x2
    refine Kept.seq (State.cmacIrq_kept ..) ?_
    refine Kept.seq (State.setRegBit_kept ..) ?_
    exact hx1
  clear_value x2
  extract_lets +onlyGivenNames x3
  extract_lets +onlyGivenNames x4
  have hx4 : Kept s_a x4 := by
    subst x4
    refine Kept.seq (State.setCtlPort_kept ..) ?_
    exact hx2
  clear_value x4
  refine Kept.seq (State.raise_kept ..) ?_
  exact hx4

theorem State.ctlLinked_kept (s_a port_a speed_a) : Kept s_a (State.ctlLinked s_a port_a speed_a) := by
  unfold State.ctlLinked
  extract_lets +onlyGivenNames x1
  extract_lets +onlyGivenNames x2
  extract_lets +onlyGivenNames x3
  have hx3 : Kept s_a x3 := by
    subst x3
    refine Kept.seq (State.setRegBit_kept ..) ?_
    refine Kept.seq (State.setRegField_kept ..) ?_
    refine Kept.seq (State.setRegBit_kept ..) ?_
    exact Kept.refl _
  clear_value x3
  extract_lets +onlyGivenNames x4
  have hx4 : Kept s_a x4 := by
    subst x4
    refine Kept.seq (State.cmacIrq_kept ..) ?_
    refine Kept.seq (State.setRegBit_kept ..) ?_
    exact hx3
  clear_value x4
  extract_lets +onlyGivenNames x5
  extract_lets +onlyGivenNames x6
  have hx6 : Kept s_a x6 := by
    subst x6
    refine Kept.seq (State.setCtlPort_kept ..) ?_
    exact hx4
  clear_value x6
  extract_lets +onlyGivenNames x7
  have hx7 : Kept s_a x7 := by
    subst x7
    refine Kept.seq (State.raise_kept ..) ?_
    exact hx6
  clear_value x7
  refine Kept.ite ?_ ?_
  · refine Kept.seq (State.raise_kept ..) ?_
    refine Kept.seq (State.cmacIrq_kept ..) ?_
    refine Kept.seq (State.setRegBit_kept ..) ?_
    exact hx7
  · exact hx7

theorem execCtlLinkUp_kept (dt_a port_a speed_a s_a) : KeptR s_a (execCtlLinkUp dt_a port_a speed_a s_a) := by
  unfold execCtlLinkUp
  refine actIf_kept (hk3 := fun u1 => ?_) ..
  refine Kept.seq (State.ctlLinked_kept ..) ?_
  exact Kept.refl _

theorem execCtlLinkDown_kept (dt_a port_a s_a) : KeptR s_a (execCtlLinkDown dt_a port_a s_a) := by
  unfold execCtlLinkDown
  refine actIf_kept (hk3 := fun u1 => ?_) ..
  refine Kept.seq (State.ctlDown_kept ..) ?_
  exact Kept.refl _

theorem execCtlSpeedCycle_kept (dt_a port_a s_a) : KeptR s_a (execCtlSpeedCycle dt_a port_a s_a) := by
  unfold execCtlSpeedCycle
  refine actIf_kept (hk3 := fun u1 => ?_) ..
  extract_lets +onlyGivenNames x2
  refine Kept.seq (State.setCtlPort_kept ..) ?_
  exact Kept.refl _

theorem State.ctlStep_kept (s_a port_a speed_a) : Kept s_a (State.ctlStep s_a port_a speed_a) := by
  unfold State.ctlStep
  extract_lets +onlyGivenNames x1
  extract_lets +onlyGivenNames x2
  have hx2 : Kept s_a x2 := by
    subst x2
    refine Kept.seq (State.ctlDown_kept ..) ?_
    exact Kept.refl _
  clear_value x2
  refine Kept.seq (State.setCtlPort_kept ..) ?_
  exact hx2

theorem execCtlLoadWindow_kept (dt_a port_a rxMbps_a txMbps_a s_a) : KeptR s_a (execCtlLoadWindow dt_a port_a rxMbps_a txMbps_a s_a) := by
  unfold execCtlLoadWindow
  refine actIf_kept (hk3 := fun u1 => ?_) ..
  extract_lets +onlyGivenNames x2
  have hx2 : Kept u1 x2 := by
    subst x2
    refine Kept.seq (State.setRegN_kept ..) ?_
    exact Kept.refl _
  clear_value x2
  refine Kept.ite ?_ ?_
  · exact hx2
  · extract_lets +onlyGivenNames x3
    extract_lets +onlyGivenNames x4
    refine Kept.ite ?_ ?_
    · refine Kept.seq (State.ctlStep_kept ..) ?_
      exact hx2
    · refine Kept.ite ?_ ?_
      · extract_lets +onlyGivenNames x5
        extract_lets +onlyGivenNames x6
        extract_lets +onlyGivenNames x7
        have hx7 : Kept u1 x7 := by
          subst x7
          refine Kept.seq (State.setCtlPort_kept ..) ?_
          exact hx2
        clear_value x7
        refine Kept.ite ?_ ?_
        · refine Kept.seq (State.ctlStep_kept ..) ?_
          exact hx7
        · exact hx7
      · refine Kept.seq (State.setCtlPort_kept ..) ?_
        exact hx2

theorem execCtlTxFrameWait_kept (dt_a port_a waitedUs_a s_a) : KeptR s_a (execCtlTxFrameWait dt_a port_a waitedUs_a s_a) := by
  unfold execCtlTxFrameWait
  refine actIf_kept (hk3 := fun u1 => ?_) ..
  refine Kept.seq (State.ctlStep_kept ..) ?_
  exact Kept.refl _

theorem execCtlStepFail_kept (dt_a port_a s_a) : KeptR s_a (execCtlStepFail dt_a port_a s_a) := by
  unfold execCtlStepFail
  refine actIf_kept (hk3 := fun u1 => ?_) ..
  extract_lets +onlyGivenNames x2
  split
  · refine Kept.ite ?_ ?_
    · exact Kept.refl _
    · extract_lets +onlyGivenNames x3
      have hx3 : Kept u1 x3 := by
        subst x3
        refine Kept.seq (State.setCtlPort_kept ..) ?_
        exact Kept.refl _
      clear_value x3
      extract_lets +onlyGivenNames x4
      have hx4 : Kept u1 x4 := by
        subst x4
        refine Kept.seq (State.setRegBit_kept ..) ?_
        refine Kept.seq (State.setRegBit_kept ..) ?_
        exact hx3
      clear_value x4
      refine Kept.seq (State.raise_kept ..) ?_
      exact hx4
  · exact Kept.refl _

theorem State.cmacCtrl_kept (s_a port_a value_a) : Kept s_a (State.cmacCtrl s_a port_a value_a) := by
  unfold State.cmacCtrl
  extract_lets +onlyGivenNames x1
  have hx1 : Kept s_a x1 := by
    subst x1
    refine Kept.seq (State.busWrite_kept ..) ?_
    exact Kept.refl _
  clear_value x1
  extract_lets +onlyGivenNames x2
  extract_lets +onlyGivenNames x3
  extract_lets +onlyGivenNames x4
  extract_lets +onlyGivenNames x5
  have hx5 : Kept s_a x5 := by
    subst x5
    refine Kept.ite ?_ ?_
    · refine Kept.seq (State.setCtlPort_kept ..) ?_
      exact hx1
    · exact hx1
  clear_value x5
  refine Kept.ite ?_ ?_
  · refine Kept.seq (State.ctlDown_kept ..) ?_
    exact hx5
  · exact hx5

theorem execCmacCtrlWrite_kept (dt_a port_a value_a s_a) : KeptR s_a (execCmacCtrlWrite dt_a port_a value_a s_a) := by
  unfold execCmacCtrlWrite
  refine act_kept (hk2 := fun u1 => ?_) ..
  refine Kept.seq (State.cmacCtrl_kept ..) ?_
  exact Kept.refl _

theorem State.ctlStop_kept (s_a) : Kept s_a (State.ctlStop s_a) := by
  unfold State.ctlStop
  refine Kept.seq (State.cmacCtrl_kept ..) ?_
  refine Kept.seq (State.cmacCtrl_kept ..) ?_
  exact Kept.refl _

theorem State.setMemWord_kept (s_a a_a v_a) : Kept s_a (State.setMemWord s_a a_a v_a) := by
  unfold State.setMemWord
  refine Kept.seq (State.setMem_kept ..) ?_
  exact Kept.refl _

theorem State.rxData_kept (s : State) (port : Nat) (l : List (Nat × List Byte)) : Kept s (s.rxData port l) := by
  induction l generalizing s with
  | nil => exact Kept.refl s
  | cons x l ih => exact (ih _).seq (State.setMem_kept ..)

theorem State.rxStatus_kept (s : State) (port slot : Nat) (first : Bool) (l : List (Nat × List Byte)) :
    Kept s (s.rxStatus port slot first l) := by
  induction l generalizing s first with
  | nil => exact Kept.refl s
  | cons x l ih => exact (ih _ _).seq (State.setMemWord_kept ..)

theorem State.ctlDeliver_kept (s_a port_a slot_a payload_a) : Kept s_a (State.ctlDeliver s_a port_a slot_a payload_a) := by
  unfold State.ctlDeliver
  extract_lets +onlyGivenNames x1
  split
  · refine Kept.seq (State.raiseLimited_kept ..) ?_
    refine Kept.seq (State.cmacIrq_kept ..) ?_
    refine Kept.seq (State.cmacCount_kept ..) ?_
    exact Kept.refl _
  · extract_lets +onlyGivenNames x2
    have hx2 : Kept s_a x2 := by
      subst x2
      refine Kept.seq (State.rxStatus_kept ..) ?_
      refine Kept.seq (State.rxData_kept ..) ?_
      exact Kept.refl _
    clear_value x2
    extract_lets +onlyGivenNames x3
    have hx3 : Kept s_a x3 := by
      subst x3
      refine Kept.seq (State.setRegN_kept ..) ?_
      exact hx2
    clear_value x3
    refine Kept.seq (State.cmacIrq_kept ..) ?_
    refine Kept.seq (State.cmacCount_kept ..) ?_
    exact hx3

theorem execCtlFrameReceived_kept (dt_a port_a f_a s_a) : KeptR s_a (execCtlFrameReceived dt_a port_a f_a s_a) := by
  unfold execCtlFrameReceived
  refine actIf_kept (hk3 := fun u1 => ?_) ..
  split
  · refine Kept.seq (State.cmacCount_kept ..) ?_
    exact Kept.refl _
  · refine Kept.seq (State.ctlDeliver_kept ..) ?_
    exact Kept.refl _

theorem State.txStatus_kept (s : State) (port q : Nat) (err : Bool) (l : List Nat) : Kept s (s.txStatus port q err l) := by
  induction l generalizing s with
  | nil => exact Kept.refl s
  | cons x l ih =>
    unfold State.txStatus
    extract_lets +onlyGivenNames d t
    have ht : Kept s t := State.setMemWord_kept ..
    clear_value t
    exact (ih _).seq ((State.setMemWord_kept ..).seq ht)

theorem execCtlTxFrame_kept (dt_a port_a s_a) : KeptR s_a (execCtlTxFrame dt_a port_a s_a) := by
  unfold execCtlTxFrame
  refine actIf_kept (hk3 := fun u1 => ?_) ..
  split
  · exact Kept.refl _
  · extract_lets +onlyGivenNames x2
    extract_lets +onlyGivenNames x3
    extract_lets +onlyGivenNames x4
    extract_lets +onlyGivenNames x5
    extract_lets +onlyGivenNames x6
    have hx6 : Kept u1 x6 := by
      subst x6
      refine Kept.ite ?_ ?_
      · refine Kept.seq (State.cmacCount_kept ..) ?_
        exact Kept.refl _
      · refine Kept.seq (State.emit_kept ..) ?_
        refine Kept.seq (State.cmacCount_kept ..) ?_
        exact Kept.refl _
    clear_value x6
    extract_lets +onlyGivenNames x7
    have hx7 : Kept u1 x7 := by
      subst x7
      refine Kept.seq (State.txStatus_kept ..) ?_
      exact hx6
    clear_value x7
    extract_lets +onlyGivenNames x8
    extract_lets +onlyGivenNames x9
    have hx9 : Kept u1 x9 := by
      subst x9
      refine Kept.seq (State.setRegN_kept ..) ?_
      exact hx7
    clear_value x9
    refine Kept.ite ?_ ?_
    · refine Kept.seq (State.cmacIrq_kept ..) ?_
      exact hx9
    · exact hx9

theorem State.ctlSettings_kept (s_a port_a) : Kept s_a (State.ctlSettings s_a port_a) := by
  unfold State.ctlSettings
  extract_lets +onlyGivenNames x1
  refine Kept.seq (State.setRegN_kept ..) ?_
  refine Kept.seq (State.cmacCtrl_kept ..) ?_
  exact Kept.refl _

theorem State.ctlStart_kept (s_a port_a) : Kept s_a (State.ctlStart s_a port_a) := by
  unfold State.ctlStart
  extract_lets +onlyGivenNames x1
  extract_lets +onlyGivenNames x2
  have hx2 : Kept s_a x2 := by
    subst x2
    refine Kept.seq (State.setRegN_kept ..) ?_
    refine Kept.seq (State.setRegN_kept ..) ?_
    exact Kept.refl _
  clear_value x2
  extract_lets +onlyGivenNames x3
  have hx3 : Kept s_a x3 := by
    subst x3
    refine Kept.ite ?_ ?_
    · exact hx2
    · refine Kept.seq (State.setRegN_kept ..) ?_
      exact hx2
  clear_value x3
  refine Kept.seq (State.ctlSettings_kept ..) ?_
  refine Kept.seq (State.cmacCtrl_kept ..) ?_
  exact hx3

end Sys2Proof.Machine
end

