-- ==== Sys2Proof/Laws/KeptSessions.lean ====
section
/-!
SUPPORT. That the functions of Machine/Sessions.lean keep the queue, never turn time back and keep a sound state sound
(`Kept` of Laws/Kept.lean).
-/
namespace Sys2Proof.Machine

theorem State.setSession_kept (s_a n_a x_a) : Kept s_a (State.setSession s_a n_a x_a) := by
  unfold State.setSession
  exact Kept.upd rfl rfl rfl rfl rfl rfl rfl rfl rfl rfl rfl

theorem State.sendIn_kept (s_a n_a f_a) : Kept s_a (State.sendIn s_a n_a f_a) := by
  unfold State.sendIn
  split
  · refine Kept.seq (State.emit_kept ..) ?_
    refine Kept.seq (State.setSession_kept ..) ?_
    exact Kept.refl _
  · exact Kept.refl _

theorem State.respond_kept (s_a n_a seq_a type_a status_a detail_a body_a) : Kept s_a (State.respond s_a n_a seq_a type_a status_a detail_a body_a) := by
  unfold State.respond
  split
  · extract_lets +onlyGivenNames x1
    refine Kept.seq (State.emit_kept ..) ?_
    refine Kept.seq (State.setSession_kept ..) ?_
    exact Kept.refl _
  · exact Kept.refl _

theorem State.logWrite_kept (s_a a_a v_a due_a) : Kept s_a (State.logWrite s_a a_a v_a due_a) := by
  unfold State.logWrite
  refine Kept.ite ?_ ?_
  · exact Kept.upd rfl rfl rfl rfl rfl rfl rfl rfl rfl rfl rfl
  · exact Kept.refl _

theorem State.frameWrite_kept (s_a w_a) : Kept s_a (State.frameWrite s_a w_a) := by
  unfold State.frameWrite
  extract_lets +onlyGivenNames x1
  extract_lets +onlyGivenNames x2
  extract_lets +onlyGivenNames x3
  have hx3 : Kept s_a x3 := by
    subst x3
    exact Kept.upd rfl rfl rfl rfl rfl rfl rfl rfl rfl rfl rfl
  clear_value x3
  refine Kept.ite ?_ ?_
  · exact hx3
  · refine Kept.seq (State.logWrite_kept ..) ?_
    exact hx3

theorem State.completeTicket_kept (s_a number_a status_a result_a) : Kept s_a (State.completeTicket s_a number_a status_a result_a) := by
  unfold State.completeTicket
  exact Kept.upd rfl rfl rfl rfl rfl rfl rfl rfl rfl rfl rfl

theorem State.reply_kept (s_a a_a type_a status_a detail_a b_a) : Kept s_a (State.reply s_a a_a type_a status_a detail_a b_a) := by
  unfold State.reply
  split
  · refine Kept.seq (State.respond_kept ..) ?_
    exact Kept.refl _
  · split
    · refine Kept.seq (State.completeTicket_kept ..) ?_
      refine Kept.seq (State.setMem_kept ..) ?_
      exact Kept.refl _
    · exact Kept.refl _
  · exact Kept.refl _

theorem State.answerFor_kept (s_a x_a status_a) : Kept s_a (State.answerFor s_a x_a status_a) := by
  unfold State.answerFor
  extract_lets +onlyGivenNames x1
  have hx1 : Kept s_a x1 := by
    subst x1
    refine Kept.foldl (fun u2 x3 => ?_) ?_
    · refine Kept.seq (State.frameWrite_kept ..) ?_
      exact Kept.refl _
    · exact Kept.refl _
  clear_value x1
  refine Kept.ite ?_ ?_
  · refine Kept.seq (State.reply_kept ..) ?_
    exact hx1
  · split
    · refine Kept.seq (State.reply_kept ..) ?_
      exact hx1
    · refine Kept.seq (State.reply_kept ..) ?_
      exact hx1

theorem State.setSalvo_kept (s_a n_a x_a) : Kept s_a (State.setSalvo s_a n_a x_a) := by
  unfold State.setSalvo
  exact Kept.upd rfl rfl rfl rfl rfl rfl rfl rfl rfl rfl rfl

theorem State.unarm_kept (s_a n_a) : Kept s_a (State.unarm s_a n_a) := by
  unfold State.unarm
  extract_lets +onlyGivenNames x1
  extract_lets +onlyGivenNames x2
  extract_lets +onlyGivenNames x3
  have hx3 : Kept s_a x3 := by
    subst x3
    refine Kept.seq (State.setSalvo_kept ..) ?_
    exact Kept.refl _
  clear_value x3
  extract_lets +onlyGivenNames x4
  extract_lets +onlyGivenNames x5
  have hx5 : Kept s_a x5 := by
    subst x5
    refine Kept.foldl (fun u6 x7 => ?_) ?_
    · refine Kept.seq (State.setN_kept ..) ?_
      exact Kept.refl _
    · exact hx3
  clear_value x5
  extract_lets +onlyGivenNames x8
  extract_lets +onlyGivenNames x9
  have hx9 : Kept s_a x9 := by
    subst x9
    refine Kept.foldl (fun u10 x11 => ?_) ?_
    · refine Kept.seq (State.setN_kept ..) ?_
      exact Kept.refl _
    · exact hx5
  clear_value x9
  refine Kept.seq (State.syncMembership_kept ..) ?_
  exact hx9

theorem State.freeSalvo_kept (s_a n_a) : Kept s_a (State.freeSalvo s_a n_a) := by
  unfold State.freeSalvo
  refine Kept.seq (State.setSalvo_kept ..) ?_
  refine Kept.seq (State.unarm_kept ..) ?_
  exact Kept.refl _

theorem State.discardSalvo_kept (s_a n_a empty_a) : Kept s_a (State.discardSalvo s_a n_a empty_a) := by
  unfold State.discardSalvo
  extract_lets +onlyGivenNames x1
  have hx1 : Kept s_a x1 := by
    subst x1
    refine Kept.seq (State.freeSalvo_kept ..) ?_
    exact Kept.refl _
  clear_value x1
  extract_lets +onlyGivenNames x2
  extract_lets +onlyGivenNames x3
  have hx3 : Kept s_a x3 := by
    subst x3
    refine Kept.seq (Kept.upd (s := x1) rfl rfl rfl rfl rfl rfl rfl rfl rfl rfl rfl) ?_
    exact hx1
  clear_value x3
  refine Kept.ite ?_ ?_
  · exact hx3
  · refine Kept.seq (State.raise_kept ..) ?_
    exact hx3

theorem State.discardOwned_kept (s_a n_a) : Kept s_a (State.discardOwned s_a n_a) := by
  unfold State.discardOwned
  refine Kept.ite ?_ ?_
  · exact Kept.refl _
  · refine Kept.foldl (fun u1 x2 => ?_) ?_
    · refine Kept.ite ?_ ?_
      · exact Kept.refl _
      · split
        · refine Kept.seq (State.discardSalvo_kept ..) ?_
          exact Kept.refl _
        · refine Kept.seq (State.discardSalvo_kept ..) ?_
          exact Kept.refl _
        · refine Kept.seq (State.setSalvo_kept ..) ?_
          exact Kept.refl _
        · exact Kept.refl _
    · exact Kept.refl _

theorem State.endStaging_kept (s_a n_a) : Kept s_a (State.endStaging s_a n_a) := by
  unfold State.endStaging
  refine Kept.ite ?_ ?_
  · extract_lets +onlyGivenNames x1
    have hx1 : Kept s_a x1 := by
      subst x1
      refine Kept.seq (State.setRegN_kept ..) ?_
      refine Kept.seq (State.setN_kept ..) ?_
      exact Kept.refl _
    clear_value x1
    refine Kept.seq (Kept.upd (s := x1) rfl rfl rfl rfl rfl rfl rfl rfl rfl rfl rfl) ?_
    exact hx1
  · exact Kept.refl _

theorem State.dropWaits_kept (s_a n_a) : Kept s_a (State.dropWaits s_a n_a) := by
  unfold State.dropWaits
  exact Kept.upd rfl rfl rfl rfl rfl rfl rfl rfl rfl rfl rfl

theorem State.leaveEngine_kept (s_a n_a) : Kept s_a (State.leaveEngine s_a n_a) := by
  unfold State.leaveEngine
  extract_lets +onlyGivenNames x1
  extract_lets +onlyGivenNames x2
  extract_lets +onlyGivenNames x3
  have hx3 : Kept s_a x3 := by
    subst x3
    exact Kept.upd rfl rfl rfl rfl rfl rfl rfl rfl rfl rfl rfl
  clear_value x3
  refine Kept.foldl (fun u4 x5 => ?_) ?_
  · split
    · refine Kept.seq (State.completeTicket_kept ..) ?_
      exact Kept.refl _
    · exact Kept.refl _
  · exact hx3

theorem State.endSession_kept (s_a n_a reason_a) : Kept s_a (State.endSession s_a n_a reason_a) := by
  unfold State.endSession
  split
  · exact Kept.refl _
  · extract_lets +onlyGivenNames x1
    have hx1 : Kept s_a x1 := by
      subst x1
      split
      · refine Kept.seq (State.sendIn_kept ..) ?_
        exact Kept.refl _
      · exact Kept.refl _
    clear_value x1
    extract_lets +onlyGivenNames x2
    extract_lets +onlyGivenNames x3
    have hx3 : Kept s_a x3 := by
      subst x3
      refine Kept.seq (State.dropWaits_kept ..) ?_
      refine Kept.seq (Kept.upd (s := x1) rfl rfl rfl rfl rfl rfl rfl rfl rfl rfl rfl) ?_
      exact hx1
    clear_value x3
    refine Kept.seq (State.raise_kept ..) ?_
    refine Kept.seq (State.endStaging_kept ..) ?_
    refine Kept.seq (State.discardOwned_kept ..) ?_
    refine Kept.seq (State.leaveEngine_kept ..) ?_
    exact hx3

theorem State.endSessions_kept (s_a reason_a) : Kept s_a (State.endSessions s_a reason_a) := by
  unfold State.endSessions
  refine Kept.foldl (fun u1 x2 => ?_) ?_
  · refine Kept.seq (State.endSession_kept ..) ?_
    exact Kept.refl _
  · exact Kept.refl _

theorem State.endRole_kept (s_a role_a reason_a) : Kept s_a (State.endRole s_a role_a reason_a) := by
  unfold State.endRole
  refine Kept.foldl (fun u1 x2 => ?_) ?_
  · refine Kept.seq (State.endSession_kept ..) ?_
    exact Kept.refl _
  · exact Kept.refl _

end Sys2Proof.Machine
end

