-- ==== Sys2Proof/Laws/KeptStore.lean ====
section
/-!
SUPPORT. That the functions of Machine/Store.lean keep the queue, never turn time back and keep a sound state sound
(`Kept` of Laws/Kept.lean).
-/
namespace Sys2Proof.Machine

theorem State.setSlot_kept (s_a slot_a x_a) : Kept s_a (State.setSlot s_a slot_a x_a) := by
  unfold State.setSlot
  refine Kept.ite ?_ ?_
  · exact Kept.upd rfl rfl rfl rfl rfl rfl rfl rfl rfl rfl rfl
  · exact Kept.upd rfl rfl rfl rfl rfl rfl rfl rfl rfl rfl rfl

theorem State.startSave_kept (s_a) : Kept s_a (State.startSave s_a) := by
  unfold State.startSave
  extract_lets +onlyGivenNames x1
  extract_lets +onlyGivenNames x2
  extract_lets +onlyGivenNames x3
  have hx3 : Kept s_a x3 := by
    subst x3
    refine Kept.seq (State.setSlot_kept ..) ?_
    exact Kept.refl _
  clear_value x3
  refine Kept.seq (Kept.upd (s := x3) rfl rfl rfl rfl rfl rfl rfl rfl rfl rfl rfl) ?_
  exact hx3

theorem State.answerSave_kept (s_a x_a status_a) : Kept s_a (State.answerSave s_a x_a status_a) := by
  unfold State.answerSave
  extract_lets +onlyGivenNames x1
  have hx1 : Kept s_a x1 := by
    subst x1
    refine Kept.foldl (fun u2 x3 => ?_) ?_
    · refine Kept.seq (State.answerFor_kept ..) ?_
      exact Kept.refl _
    · exact Kept.refl _
  clear_value x1
  refine Kept.foldl (fun u4 x5 => ?_) ?_
  · refine Kept.seq (State.completeTicket_kept ..) ?_
    exact Kept.refl _
  · exact hx1

theorem State.endSave_kept (s_a ok_a) : Kept s_a (State.endSave s_a ok_a) := by
  unfold State.endSave
  split
  · exact Kept.refl _
  · refine Kept.ite ?_ ?_
    · extract_lets +onlyGivenNames x1
      have hx1 : Kept s_a x1 := by
        subst x1
        refine Kept.seq (State.setSlot_kept ..) ?_
        exact Kept.refl _
      clear_value x1
      extract_lets +onlyGivenNames x2
      extract_lets +onlyGivenNames x3
      have hx3 : Kept s_a x3 := by
        subst x3
        refine Kept.seq (Kept.upd (s := x1) rfl rfl rfl rfl rfl rfl rfl rfl rfl rfl rfl) ?_
        exact hx1
      clear_value x3
      extract_lets +onlyGivenNames x4
      have hx4 : Kept s_a x4 := by
        subst x4
        refine Kept.seq (State.setN_kept ..) ?_
        refine Kept.seq (State.setN_kept ..) ?_
        exact hx3
      clear_value x4
      refine Kept.seq (State.raise_kept ..) ?_
      refine Kept.seq (State.answerSave_kept ..) ?_
      exact hx4
    · refine Kept.ite ?_ ?_
      · extract_lets +onlyGivenNames x5
        extract_lets +onlyGivenNames x6
        have hx6 : Kept s_a x6 := by
          subst x6
          exact Kept.upd rfl rfl rfl rfl rfl rfl rfl rfl rfl rfl rfl
        clear_value x6
        refine Kept.seq (State.answerSave_kept ..) ?_
        refine Kept.seq (State.raise_kept ..) ?_
        refine Kept.seq (State.setReason_kept ..) ?_
        exact hx6
      · exact Kept.upd rfl rfl rfl rfl rfl rfl rfl rfl rfl rfl rfl

theorem execStoreSaveStart_kept (dt_a s_a) : KeptR s_a (execStoreSaveStart dt_a s_a) := by
  unfold execStoreSaveStart
  refine actIf_kept (hk3 := fun u1 => ?_) ..
  refine Kept.seq (State.startSave_kept ..) ?_
  exact Kept.refl _

theorem State.completeSaves_kept (s_a) : Kept s_a (State.completeSaves s_a) := by
  unfold State.completeSaves
  refine Kept.seq (State.endSave_kept ..) ?_
  exact Kept.refl _

theorem execHoldoverModelSave_kept (dt_a s_a) : KeptR s_a (execHoldoverModelSave dt_a s_a) := by
  unfold execHoldoverModelSave
  refine actIf_kept (hk3 := fun u1 => ?_) ..
  exact Kept.upd rfl rfl rfl rfl rfl rfl rfl rfl rfl rfl rfl

theorem State.addReport_kept (s_a a_a reason_a) : Kept s_a (State.addReport s_a a_a reason_a) := by
  unfold State.addReport
  extract_lets +onlyGivenNames x1
  extract_lets +onlyGivenNames x2
  have hx2 : Kept s_a x2 := by
    subst x2
    refine Kept.seq (State.setN_kept ..) ?_
    exact Kept.refl _
  clear_value x2
  refine Kept.ite ?_ ?_
  · refine Kept.seq (State.setBy_kept ..) ?_
    exact hx2
  · exact hx2

theorem Kept.foldlFst {α β : Type} {f : State × β → α → State × β} {l : List α} {s : State} {p : State × β}
    (h : ∀ q x, Kept q.1 (f q x).1) (g : Kept s p.1) : Kept s (l.foldl f p).1 := by
  induction l generalizing p with
  | nil => exact g
  | cons x l ih => exact ih ((h p x).seq g)

theorem State.loadRecords_kept (s : State) (version : Nat) (l : List (Nat × Val)) : Kept s (s.loadRecords version l).1 := by
  unfold State.loadRecords
  refine Kept.foldlFst (fun q r => ?_) (Kept.refl s)
  split
  · exact Kept.refl _
  · split
    · exact State.addReport_kept ..
    · split
      · split
        · exact Kept.refl _
        · exact State.setVal_kept ..
      · exact Kept.refl _

theorem State.loadStore_kept (s_a) : Kept s_a (State.loadStore s_a) := by
  unfold State.loadStore
  split
  · extract_lets +onlyGivenNames x1
    extract_lets +onlyGivenNames x2
    have hx2 : Kept s_a x2 := by
      subst x2
      exact Kept.upd rfl rfl rfl rfl rfl rfl rfl rfl rfl rfl rfl
    clear_value x2
    extract_lets +onlyGivenNames x3
    have hx3 : Kept s_a x3 := by
      subst x3
      refine Kept.seq (State.setN_kept ..) ?_
      refine Kept.seq (State.setN_kept ..) ?_
      refine Kept.seq (State.setN_kept ..) ?_
      exact hx2
    clear_value x3
    refine Kept.seq (State.raise_kept ..) ?_
    refine Kept.seq (State.setReason_kept ..) ?_
    exact hx3
  · extract_lets +onlyGivenNames x4
    extract_lets +onlyGivenNames x5
    extract_lets +onlyGivenNames x6
    extract_lets +onlyGivenNames x7
    have hx7 : Kept s_a x7 := by
      subst x7
      exact Kept.upd rfl rfl rfl rfl rfl rfl rfl rfl rfl rfl rfl
    clear_value x7
    extract_lets +onlyGivenNames x8
    have hx8 : Kept s_a x8 := by
      subst x8
      refine Kept.seq (State.setN_kept ..) ?_
      exact hx7
    clear_value x8
    extract_lets +onlyGivenNames x9
    have hx9 : Kept s_a x9 := by
      subst x9
      refine Kept.seq (State.setN_kept ..) ?_
      refine Kept.seq (State.setN_kept ..) ?_
      refine Kept.seq (State.setN_kept ..) ?_
      exact hx8
    clear_value x9
    extract_lets +onlyGivenNames x10
    have hx10 : Kept s_a x10 := by
      subst x10
      refine Kept.ite ?_ ?_
      · refine Kept.seq (State.setN_kept ..) ?_
        exact hx9
      · exact hx9
    clear_value x10
    extract_lets +onlyGivenNames x11
    have hx11 : Kept s_a x11.1 := by
      subst x11
      refine Kept.seq (State.loadRecords_kept ..) ?_
      exact hx10
    clear_value x11
    extract_lets +onlyGivenNames x12
    have hx12 : Kept s_a x12 := by
      subst x12
      exact hx11
    clear_value x12
    refine Kept.seq (Kept.upd (s := x12) rfl rfl rfl rfl rfl rfl rfl rfl rfl rfl rfl) ?_
    exact hx12

theorem State.refreshProvision_kept (s_a) : Kept s_a (State.refreshProvision s_a) := by
  unfold State.refreshProvision
  refine Kept.seq (State.setReason_kept ..) ?_
  exact Kept.refl _

end Sys2Proof.Machine
end

