-- ==== Sys2Proof/Laws/KeptReset.lean ====
section
/-!
SUPPORT. That the functions of Machine/Reset.lean keep the queue, never turn time back and keep a sound state sound
(`Kept` of Laws/Kept.lean).
-/
namespace Sys2Proof.Machine

theorem State.releaseOutputs_kept (s_a) : Kept s_a (State.releaseOutputs s_a) := by
  unfold State.releaseOutputs
  extract_lets +onlyGivenNames x1
  have hx1 : Kept s_a x1 := by
    subst x1
    refine Kept.ite ?_ ?_
    · refine Kept.seq (State.emit_kept ..) ?_
      exact Kept.refl _
    · exact Kept.refl _
  clear_value x1
  extract_lets +onlyGivenNames x2
  have hx2 : Kept s_a x2 := by
    subst x2
    refine Kept.ite ?_ ?_
    · refine Kept.seq (State.emit_kept ..) ?_
      exact hx1
    · exact hx1
  clear_value x2
  extract_lets +onlyGivenNames x3
  have hx3 : Kept s_a x3 := by
    subst x3
    refine Kept.ite ?_ ?_
    · exact hx2
    · refine Kept.seq (State.emit_kept ..) ?_
      exact hx2
  clear_value x3
  extract_lets +onlyGivenNames x4
  have hx4 : Kept s_a x4 := by
    subst x4
    refine Kept.foldl (fun u5 x6 => ?_) ?_
    · refine Kept.ite ?_ ?_
      · exact Kept.refl _
      · refine Kept.seq (State.emit_kept ..) ?_
        exact Kept.refl _
    · exact hx3
  clear_value x4
  refine Kept.foldl (fun u7 x8 => ?_) ?_
  · refine Kept.ite ?_ ?_
    · exact Kept.refl _
    · refine Kept.seq (State.emit_kept ..) ?_
      exact Kept.refl _
  · exact hx4

theorem State.fullReset_kept (s : State) : Kept s s.fullReset := by
  unfold State.fullReset
  refine (State.setN_kept ..).seq ?_
  refine ⟨rfl, Nat.le_refl _, Nat.le_refl _, fun h => ?_⟩
  exact ⟨⟨rfl, rfl, rfl, h.1.2.2.2⟩, Nat.zero_le _, Nat.zero_le _, Nat.zero_le _, h.2.2.2.2⟩

theorem State.enterReset_kept (s_a cause_a) : Kept s_a (State.enterReset s_a cause_a) := by
  unfold State.enterReset
  extract_lets +onlyGivenNames x1
  have hx1 : Kept s_a x1 := by
    subst x1
    refine Kept.seq (State.fullReset_kept ..) ?_
    exact Kept.refl _
  clear_value x1
  refine Kept.seq (Kept.upd (s := x1) rfl rfl rfl rfl rfl rfl rfl rfl rfl rfl rfl) ?_
  exact hx1

theorem State.startRom_kept (s_a cause_a) : Kept s_a (State.startRom s_a cause_a) := by
  unfold State.startRom
  extract_lets +onlyGivenNames x1
  have hx1 : Kept s_a x1 := by
    subst x1
    refine Kept.seq (State.emit_kept ..) ?_
    exact Kept.refl _
  clear_value x1
  refine Kept.seq (Kept.upd (s := x1) rfl rfl rfl rfl rfl rfl rfl rfl rfl rfl rfl) ?_
  exact hx1

theorem State.hardRestart_kept (s_a cause_a) : Kept s_a (State.hardRestart s_a cause_a) := by
  unfold State.hardRestart
  extract_lets +onlyGivenNames x1
  have hx1 : Kept s_a x1 := by
    subst x1
    refine Kept.seq (State.startRom_kept ..) ?_
    refine Kept.seq (State.fullReset_kept ..) ?_
    exact Kept.refl _
  clear_value x1
  refine Kept.seq (Kept.upd (s := x1) rfl rfl rfl rfl rfl rfl rfl rfl rfl rfl rfl) ?_
  exact hx1

theorem State.startSoft_kept (s : State) : Kept s s.startSoft := by
  unfold State.startSoft
  extract_lets +onlyGivenNames t u
  have ht : Kept s t := (State.setRegN_kept ..).seq ((State.setN_kept ..).seq (State.ctlStop_kept ..))
  clear_value t
  exact Kept.seq (t := t)
    (Kept.less rfl rfl rfl rfl rfl rfl rfl (Nat.le_refl _) (Nat.zero_le _) (Nat.zero_le _) (Nat.le_refl _)) ht

end Sys2Proof.Machine
end

