-- ==== Sys2Proof/Laws/KeptUpdate.lean ====
section
/-!
SUPPORT. That the functions of Machine/Update.lean keep the queue, never turn time back and keep a sound state sound
(`Kept` of Laws/Kept.lean).
-/
namespace Sys2Proof.Machine

theorem State.updateNo_kept (s_a code_a) : Kept s_a (State.updateNo s_a code_a).2 := by
  unfold State.updateNo
  refine Kept.mk2 ?_
  refine Kept.seq (State.setN_kept ..) ?_
  exact Kept.refl _

theorem State.updateOk_kept (s_a) : Kept s_a (State.updateOk s_a).2 := by
  unfold State.updateOk
  refine Kept.mk2 ?_
  refine Kept.seq (State.setN_kept ..) ?_
  exact Kept.refl _

theorem State.setWindow_kept (s_a base_a size_a) : Kept s_a (State.setWindow s_a base_a size_a) := by
  unfold State.setWindow
  refine Kept.seq (State.setRegN_kept ..) ?_
  refine Kept.seq (State.setRegN_kept ..) ?_
  exact Kept.refl _

theorem State.updateRefuse_kept (s_a code_a) : Kept s_a (State.updateRefuse s_a code_a).2 := by
  unfold State.updateRefuse
  extract_lets +onlyGivenNames x1
  have hx1 : Kept s_a x1.2 := by
    subst x1
    refine Kept.seq (State.updateNo_kept ..) ?_
    exact Kept.refl _
  clear_value x1
  refine Kept.mk2 ?_
  refine Kept.seq (State.raise_kept ..) ?_
  exact hx1

theorem State.updateBegin_kept (s_a session_a kind_a) : Kept s_a (State.updateBegin s_a session_a kind_a).2 := by
  unfold State.updateBegin
  split
  · refine Kept.seq (State.updateRefuse_kept ..) ?_
    exact Kept.refl _
  · extract_lets +onlyGivenNames x1
    extract_lets +onlyGivenNames x2
    extract_lets +onlyGivenNames x3
    have hx3 : Kept s_a x3 := by
      subst x3
      refine Kept.seq (State.setWindow_kept ..) ?_
      refine Kept.seq (State.erase_kept ..) ?_
      exact Kept.refl _
    clear_value x3
    extract_lets +onlyGivenNames x4
    extract_lets +onlyGivenNames x5
    have hx5 : Kept s_a x5 := by
      subst x5
      refine Kept.seq (Kept.upd (s := x3) rfl rfl rfl rfl rfl rfl rfl rfl rfl rfl rfl) ?_
      exact hx3
    clear_value x5
    refine Kept.seq (State.updateOk_kept ..) ?_
    refine Kept.seq (State.setN_kept ..) ?_
    refine Kept.seq (State.setN_kept ..) ?_
    exact hx5

theorem State.updateData_kept (s_a session_a value_a) : Kept s_a (State.updateData s_a session_a value_a).2 := by
  unfold State.updateData
  extract_lets +onlyGivenNames x1
  extract_lets +onlyGivenNames x2
  extract_lets +onlyGivenNames x3
  split
  · refine Kept.seq (State.updateNo_kept ..) ?_
    exact Kept.refl _
  · split
    · refine Kept.seq (State.updateNo_kept ..) ?_
      exact Kept.refl _
    · split
      · refine Kept.seq (State.updateNo_kept ..) ?_
        exact Kept.refl _
      · extract_lets +onlyGivenNames x4
        have hx4 : Kept s_a x4 := by
          subst x4
          refine Kept.seq (State.program_kept ..) ?_
          exact Kept.refl _
        clear_value x4
        split
        · refine Kept.seq (State.updateNo_kept ..) ?_
          refine Kept.seq (State.setN_kept ..) ?_
          refine Kept.seq (State.setWindow_kept ..) ?_
          exact hx4
        · refine Kept.seq (State.updateOk_kept ..) ?_
          refine Kept.seq (State.setN_kept ..) ?_
          exact hx4

theorem State.updateCommit_kept (s : State) (session : Nat) : Kept s (s.updateCommit session).2 := by
  unfold State.updateCommit
  split
  · exact State.updateNo_kept ..
  · extract_lets +onlyGivenNames t base fault
    have ht : Kept s t := State.setWindow_kept ..
    clear_value t base fault
    split
    · exact (State.updateNo_kept ..).seq ((State.setN_kept ..).seq ht)
    · exact (State.updateOk_kept ..).seq ((State.raise_kept ..).seq ((State.setN_kept ..).seq
        ((State.setN_kept ..).seq ((State.setN_kept ..).seq ht))))

theorem State.updateAbort_kept (s_a) : Kept s_a (State.updateAbort s_a).2 := by
  unfold State.updateAbort
  extract_lets +onlyGivenNames x1
  split
  · refine Kept.seq (State.updateOk_kept ..) ?_
    refine Kept.seq (State.setN_kept ..) ?_
    refine Kept.seq (State.setWindow_kept ..) ?_
    exact Kept.refl _
  · refine Kept.seq (State.updateNo_kept ..) ?_
    exact Kept.refl _

theorem State.updateActivate_kept (s_a) : Kept s_a (State.updateActivate s_a).2 := by
  unfold State.updateActivate
  split
  · refine Kept.seq (State.updateRefuse_kept ..) ?_
    exact Kept.refl _
  · extract_lets +onlyGivenNames x1
    extract_lets +onlyGivenNames x2
    extract_lets +onlyGivenNames x3
    extract_lets +onlyGivenNames x4
    extract_lets +onlyGivenNames x5
    extract_lets +onlyGivenNames x6
    have hx6 : Kept s_a x6 := by
      subst x6
      exact Kept.upd rfl rfl rfl rfl rfl rfl rfl rfl rfl rfl rfl
    clear_value x6
    refine Kept.seq (State.updateOk_kept ..) ?_
    exact hx6

theorem State.confirm_kept (s_a) : Kept s_a (State.confirm s_a) := by
  unfold State.confirm
  split
  · refine Kept.ite ?_ ?_
    · exact Kept.refl _
    · extract_lets +onlyGivenNames x1
      extract_lets +onlyGivenNames x2
      extract_lets +onlyGivenNames x3
      extract_lets +onlyGivenNames x4
      have hx4 : Kept s_a x4 := by
        subst x4
        exact Kept.upd rfl rfl rfl rfl rfl rfl rfl rfl rfl rfl rfl
      clear_value x4
      refine Kept.seq (State.raise_kept ..) ?_
      refine Kept.seq (State.setN_kept ..) ?_
      refine Kept.seq (State.setN_kept ..) ?_
      exact hx4
  · exact Kept.refl _

theorem State.trialRestart_kept (s_a) : Kept s_a (State.trialRestart s_a) := by
  unfold State.trialRestart
  extract_lets +onlyGivenNames x1
  extract_lets +onlyGivenNames x2
  extract_lets +onlyGivenNames x3
  extract_lets +onlyGivenNames x4
  have hx4 : Kept s_a x4 := by
    subst x4
    exact Kept.upd rfl rfl rfl rfl rfl rfl rfl rfl rfl rfl rfl
  clear_value x4
  refine Kept.seq (State.hardRestart_kept ..) ?_
  exact hx4

theorem execUpdateNotConfirmed_kept (dt_a s_a) : KeptR s_a (execUpdateNotConfirmed dt_a s_a) := by
  unfold execUpdateNotConfirmed
  refine actIf_kept (hk3 := fun u1 => ?_) ..
  refine Kept.ite ?_ ?_
  · refine Kept.seq (State.trialRestart_kept ..) ?_
    exact Kept.refl _
  · extract_lets +onlyGivenNames x2
    extract_lets +onlyGivenNames x3
    extract_lets +onlyGivenNames x4
    extract_lets +onlyGivenNames x5
    have hx5 : Kept u1 x5 := by
      subst x5
      exact Kept.upd rfl rfl rfl rfl rfl rfl rfl rfl rfl rfl rfl
    clear_value x5
    refine Kept.seq (State.raise_kept ..) ?_
    refine Kept.seq (State.setN_kept ..) ?_
    exact hx5

end Sys2Proof.Machine
end

