-- ==== Sys2Proof/Laws/KeptUpland.lean ====
section
/-!
SUPPORT. That the functions of Machine/Upland.lean keep the queue, never turn time back and keep a sound state sound
(`Kept` of Laws/Kept.lean).
-/
namespace Sys2Proof.Machine

theorem State.stopScree_kept (s_a) : Kept s_a (State.stopScree s_a) := by
  unfold State.stopScree
  extract_lets +onlyGivenNames x1
  have hx1 : Kept s_a x1 := by
    subst x1
    exact Kept.upd rfl rfl rfl rfl rfl rfl rfl rfl rfl rfl rfl
  clear_value x1
  refine Kept.seq (State.setRegBit_kept ..) ?_
  refine Kept.seq (State.setRegBit_kept ..) ?_
  exact hx1

theorem State.uplandRestart_kept (s : State) (cause pc addr : Nat) : Kept s (s.uplandRestart cause pc addr) := by
  unfold State.uplandRestart
  extract_lets +onlyGivenNames a b c d e recent src src2 f
  have hb : Kept s b := (State.endSessions_kept ..).seq ((State.ctlStop_kept ..).seq (State.stopScree_kept ..))
  clear_value b
  have he : Kept s e := (State.raise_kept ..).seq ((State.bumpReg_kept ..).seq ((State.setRegN_kept ..).seq
    ((State.setRegN_kept ..).seq ((State.setRegN_kept ..).seq hb))))
  clear_value e
  have hf : Kept s f := Kept.seq (t := e)
    (Kept.less rfl rfl rfl rfl rfl rfl rfl (Nat.le_refl _) (Nat.zero_le _) (Nat.le_refl _) (Nat.le_refl _)) he
  clear_value f
  exact Kept.ite ((State.trialRestart_kept ..).seq hf) (Kept.ite ((State.hardRestart_kept ..).seq hf) hf)

theorem execUplandFault_kept (dt_a cause_a pc_a addr_a s_a) : KeptR s_a (execUplandFault dt_a cause_a pc_a addr_a s_a) := by
  unfold execUplandFault
  refine actIf_kept (hk3 := fun u1 => ?_) ..
  refine Kept.seq (State.uplandRestart_kept ..) ?_
  exact Kept.refl _

theorem execUplandHeartbeatLate_kept (dt_a s_a) : KeptR s_a (execUplandHeartbeatLate dt_a s_a) := by
  unfold execUplandHeartbeatLate
  refine actIf_kept (hk3 := fun u1 => ?_) ..
  refine Kept.seq (State.raise_kept ..) ?_
  exact Kept.upd rfl rfl rfl rfl rfl rfl rfl rfl rfl rfl rfl

theorem execHeartbeatTimeout_kept (dt_a s_a) : KeptR s_a (execHeartbeatTimeout dt_a s_a) := by
  unfold execHeartbeatTimeout
  refine actIf_kept (hk3 := fun u1 => ?_) ..
  refine Kept.seq (State.uplandRestart_kept ..) ?_
  exact Kept.refl _

theorem State.heartbeat_kept (s_a) : Kept s_a (State.heartbeat s_a) := by
  unfold State.heartbeat
  refine Kept.ite ?_ ?_
  · exact Kept.refl _
  · extract_lets +onlyGivenNames x1
    extract_lets +onlyGivenNames x2
    extract_lets +onlyGivenNames x3
    have hx3 : Kept s_a x3 := by
      subst x3
      exact Kept.upd rfl rfl rfl rfl rfl rfl rfl rfl rfl rfl rfl
    clear_value x3
    extract_lets +onlyGivenNames x4
    extract_lets +onlyGivenNames x5
    have hx5 : Kept s_a x5 := by
      subst x5
      refine Kept.ite ?_ ?_
      · refine Kept.seq (State.raise_kept ..) ?_
        refine Kept.seq (Kept.upd (s := x3) rfl rfl rfl rfl rfl rfl rfl rfl rfl rfl rfl) ?_
        exact hx3
      · exact hx3
    clear_value x5
    split
    · refine Kept.ite ?_ ?_
      · refine Kept.seq (State.raise_kept ..) ?_
        refine Kept.seq (Kept.upd (s := x5) rfl rfl rfl rfl rfl rfl rfl rfl rfl rfl rfl) ?_
        exact hx5
      · exact hx5
    · exact hx5

end Sys2Proof.Machine
end

