-- ==== Sys2Proof/Laws/KeptBus.lean ====
section
/-!
SUPPORT. That the functions of Machine/Bus.lean keep the queue, never turn time back and keep a sound state sound
(`Kept` of Laws/Kept.lean).
-/
namespace Sys2Proof.Machine

theorem State.colRefuse_kept (s_a master_a target_a reason_a a_a write_a) : Kept s_a (State.colRefuse s_a master_a target_a reason_a a_a write_a) := by
  unfold State.colRefuse
  extract_lets +onlyGivenNames x1
  have hx1 : Kept s_a x1 := by
    subst x1
    refine Kept.ite ?_ ?_
    · exact Kept.refl _
    · refine Kept.seq (State.setRegN_kept ..) ?_
      refine Kept.seq (State.setRegN_kept ..) ?_
      refine Kept.seq (State.setRegN_kept ..) ?_
      exact Kept.refl _
  clear_value x1
  extract_lets +onlyGivenNames x2
  have hx2 : Kept s_a x2 := by
    subst x2
    refine Kept.seq (State.setRegBit_kept ..) ?_
    refine Kept.seq (State.bump_kept ..) ?_
    refine Kept.seq (State.bumpReg_kept ..) ?_
    exact hx1
  clear_value x2
  refine Kept.seq (State.raiseLimited_kept ..) ?_
  exact hx2

theorem State.cairnRefused_kept (s_a target_a reason_a a_a write_a) : Kept s_a (State.cairnRefused s_a target_a reason_a a_a write_a) := by
  unfold State.cairnRefused
  split
  rename_i v1 t2 e3
  have ht2 := Kept.snd e3 (State.draw_kept ..)
  refine Kept.ite ?_ ?_
  · refine Kept.seq (State.uplandRestart_kept ..) ?_
    refine Kept.seq ht2 ?_
    refine Kept.seq (State.colRefuse_kept ..) ?_
    exact Kept.refl _
  · refine Kept.seq ht2 ?_
    refine Kept.seq (State.colRefuse_kept ..) ?_
    exact Kept.refl _

theorem State.apbaseWrite_kept (s_a value_a trusted_a) : Kept s_a (State.apbaseWrite s_a value_a trusted_a) := by
  unfold State.apbaseWrite
  extract_lets +onlyGivenNames x1
  refine Kept.ite ?_ ?_
  · refine Kept.seq (State.setRegN_kept ..) ?_
    exact Kept.refl _
  · refine Kept.seq (State.raise_kept ..) ?_
    refine Kept.seq (State.setRegBit_kept ..) ?_
    refine Kept.seq (State.setRegBit_kept ..) ?_
    exact Kept.refl _

theorem execColApertureRefused_kept (dt_a value_a trusted_a s_a) : KeptR s_a (execColApertureRefused dt_a value_a trusted_a s_a) := by
  unfold execColApertureRefused
  refine act_kept (hk2 := fun u1 => ?_) ..
  refine Kept.seq (State.apbaseWrite_kept ..) ?_
  exact Kept.refl _

theorem execColFence_kept (dt_a _value_a s_a) : KeptR s_a (execColFence dt_a _value_a s_a) := by
  unfold execColFence
  refine act_kept (hk2 := fun u1 => ?_) ..
  exact Kept.refl _

theorem State.timerCtrl_kept (s_a value_a) : Kept s_a (State.timerCtrl s_a value_a) := by
  unfold State.timerCtrl
  refine Kept.foldl (fun u1 x2 => ?_) ?_
  · extract_lets +onlyGivenNames x3
    extract_lets +onlyGivenNames x4
    refine Kept.ite ?_ ?_
    · exact Kept.upd rfl rfl rfl rfl rfl rfl rfl rfl rfl rfl rfl
    · refine Kept.ite ?_ ?_
      · split
        · refine Kept.seq (State.setRegN_kept ..) ?_
          exact Kept.upd rfl rfl rfl rfl rfl rfl rfl rfl rfl rfl rfl
        · exact Kept.refl _
      · exact Kept.refl _
  · refine Kept.seq (State.busWrite_kept ..) ?_
    exact Kept.refl _

theorem execTmwTimerExpiry_kept (dt_a timer_a s_a) : KeptR s_a (execTmwTimerExpiry dt_a timer_a s_a) := by
  unfold execTmwTimerExpiry
  refine actIf_kept (hk3 := fun u1 => ?_) ..
  extract_lets +onlyGivenNames x2
  have hx2 : Kept u1 x2 := by
    subst x2
    refine Kept.seq (State.setRegBit_kept ..) ?_
    exact Kept.refl _
  clear_value x2
  extract_lets +onlyGivenNames x3
  refine Kept.ite ?_ ?_
  · refine Kept.seq (Kept.upd (s := x2) rfl rfl rfl rfl rfl rfl rfl rfl rfl rfl rfl) ?_
    exact hx2
  · refine Kept.seq (State.setRegN_kept ..) ?_
    refine Kept.seq (Kept.upd (s := x2) rfl rfl rfl rfl rfl rfl rfl rfl rfl rfl rfl) ?_
    exact hx2

theorem State.alarmArm_kept (s_a value_a) : Kept s_a (State.alarmArm s_a value_a) := by
  unfold State.alarmArm
  refine Kept.ite ?_ ?_
  · refine Kept.seq (State.setRegBit_kept ..) ?_
    refine Kept.seq (State.setRegBit_kept ..) ?_
    refine Kept.seq (State.setRegBit_kept ..) ?_
    exact Kept.refl _
  · refine Kept.seq (State.setRegBit_kept ..) ?_
    exact Kept.refl _

theorem execTmwAlarmArm_kept (dt_a value_a s_a) : KeptR s_a (execTmwAlarmArm dt_a value_a s_a) := by
  unfold execTmwAlarmArm
  refine act_kept (hk2 := fun u1 => ?_) ..
  refine Kept.seq (State.alarmArm_kept ..) ?_
  exact Kept.refl _

theorem execTmwAlarmFire_kept (dt_a s_a) : KeptR s_a (execTmwAlarmFire dt_a s_a) := by
  unfold execTmwAlarmFire
  refine actIf_kept (hk3 := fun u1 => ?_) ..
  refine Kept.seq (State.setRegBit_kept ..) ?_
  refine Kept.seq (State.setRegBit_kept ..) ?_
  exact Kept.refl _

theorem State.ptpLatch_kept (s_a) : Kept s_a (State.ptpLatch s_a).2 := by
  unfold State.ptpLatch
  extract_lets +onlyGivenNames x1
  extract_lets +onlyGivenNames x2
  extract_lets +onlyGivenNames x3
  extract_lets +onlyGivenNames x4
  have hx4 : Kept s_a x4 := by
    subst x4
    exact Kept.upd rfl rfl rfl rfl rfl rfl rfl rfl rfl rfl rfl
  clear_value x4
  refine Kept.mk2 ?_
  refine Kept.seq (State.setRegN_kept ..) ?_
  refine Kept.seq (State.setRegN_kept ..) ?_
  refine Kept.seq (State.setRegN_kept ..) ?_
  exact hx4

theorem execTmwPtpLatch_kept (dt_a s_a) : KeptR s_a (execTmwPtpLatch dt_a s_a) := by
  unfold execTmwPtpLatch
  refine act_kept (hk2 := fun u1 => ?_) ..
  extract_lets +onlyGivenNames x2
  have hx2 : Kept u1 x2.2 := by
    subst x2
    refine Kept.seq (State.ptpLatch_kept ..) ?_
    exact Kept.refl _
  clear_value x2
  refine Kept.seq (State.emit_kept ..) ?_
  exact hx2

theorem State.wdtKick_kept (s_a trusted_a) : Kept s_a (State.wdtKick s_a trusted_a) := by
  unfold State.wdtKick
  refine Kept.ite ?_ ?_
  · exact Kept.upd rfl rfl rfl rfl rfl rfl rfl rfl rfl rfl rfl
  · exact Kept.refl _

theorem execWdtKick_kept (dt_a trusted_a _key_a s_a) : KeptR s_a (execWdtKick dt_a trusted_a _key_a s_a) := by
  unfold execWdtKick
  refine act_kept (hk2 := fun u1 => ?_) ..
  refine Kept.seq (State.wdtKick_kept ..) ?_
  exact Kept.refl _

theorem State.flashRead_kept (s_a a_a n_a) : Kept s_a (State.flashRead s_a a_a n_a).2 := by
  unfold State.flashRead
  split
  · refine Kept.mk2 ?_
    exact Kept.refl _
  · refine Kept.seq (State.drawBytes_kept ..) ?_
    exact Kept.refl _

theorem State.osfGo_kept (s_a op_a) : Kept s_a (State.osfGo s_a op_a) := by
  unfold State.osfGo
  extract_lets +onlyGivenNames x1
  extract_lets +onlyGivenNames x2
  extract_lets +onlyGivenNames x3
  refine Kept.ite ?_ ?_
  · exact Kept.refl _
  · refine Kept.ite ?_ ?_
    · refine Kept.seq (State.setRegBit_kept ..) ?_
      refine Kept.seq (State.setRegBit_kept ..) ?_
      exact Kept.upd rfl rfl rfl rfl rfl rfl rfl rfl rfl rfl rfl
    · refine Kept.seq (State.setRegBit_kept ..) ?_
      exact Kept.refl _

theorem State.osfCmd_kept (s_a value_a) : Kept s_a (State.osfCmd s_a value_a) := by
  unfold State.osfCmd
  extract_lets +onlyGivenNames x1
  have hx1 : Kept s_a x1 := by
    subst x1
    refine Kept.seq (State.setRegField_kept ..) ?_
    exact Kept.refl _
  clear_value x1
  refine Kept.ite ?_ ?_
  · refine Kept.seq (State.osfGo_kept ..) ?_
    exact hx1
  · exact hx1

theorem State.setOsfBuf_kept (s_a b_a) : Kept s_a (State.setOsfBuf s_a b_a) := by
  unfold State.setOsfBuf
  extract_lets +onlyGivenNames x1
  refine Kept.foldl (fun u2 x3 => ?_) ?_
  · refine Kept.seq (State.setRegN_kept ..) ?_
    exact Kept.refl _
  · exact Kept.refl _

theorem execOsfRead_kept (dt_a s_a) : KeptR s_a (execOsfRead dt_a s_a) := by
  unfold execOsfRead
  refine act_kept (hk2 := fun u1 => ?_) ..
  refine Kept.seq (State.osfCmd_kept ..) ?_
  exact Kept.refl _

theorem execOsfProgram_kept (dt_a s_a) : KeptR s_a (execOsfProgram dt_a s_a) := by
  unfold execOsfProgram
  refine act_kept (hk2 := fun u1 => ?_) ..
  refine Kept.seq (State.osfCmd_kept ..) ?_
  exact Kept.refl _

theorem execOsfErase4k_kept (dt_a s_a) : KeptR s_a (execOsfErase4k dt_a s_a) := by
  unfold execOsfErase4k
  refine act_kept (hk2 := fun u1 => ?_) ..
  refine Kept.seq (State.osfCmd_kept ..) ?_
  exact Kept.refl _

theorem execOsfErase64k_kept (dt_a s_a) : KeptR s_a (execOsfErase64k dt_a s_a) := by
  unfold execOsfErase64k
  refine act_kept (hk2 := fun u1 => ?_) ..
  refine Kept.seq (State.osfCmd_kept ..) ?_
  exact Kept.refl _

theorem execOsfDone_kept (dt_a verifyError_a s_a) : KeptR s_a (execOsfDone dt_a verifyError_a s_a) := by
  unfold execOsfDone
  refine act_kept (hk2 := fun u1 => ?_) ..
  split
  · exact Kept.refl _
  · extract_lets +onlyGivenNames x2
    have hx2 : Kept u1 x2.2 := by
      subst x2
      refine Kept.seq (State.flashRead_kept ..) ?_
      exact Kept.refl _
    clear_value x2
    extract_lets +onlyGivenNames x3
    extract_lets +onlyGivenNames x4
    have hx4 : Kept u1 x4.2 := by
      subst x4
      split
      · refine Kept.seq (State.drawBytes_kept ..) ?_
        exact Kept.refl _
      · refine Kept.mk2 ?_
        exact Kept.refl _
    clear_value x4
    extract_lets +onlyGivenNames x5
    have hx5 : Kept u1 x5 := by
      subst x5
      refine Kept.seq (State.program_kept ..) ?_
      exact hx4
    clear_value x5
    extract_lets +onlyGivenNames x6
    have hx6 : Kept u1 x6 := by
      subst x6
      split
      · refine Kept.seq (State.setOsfBuf_kept ..) ?_
        exact hx2
      · refine Kept.ite ?_ ?_
        · refine Kept.seq (State.setRegBit_kept ..) ?_
          exact hx5
        · exact hx5
      · refine Kept.seq (State.erase_kept ..) ?_
        exact Kept.refl _
    clear_value x6
    refine Kept.seq (State.setRegBit_kept ..) ?_
    refine Kept.seq (State.setRegBit_kept ..) ?_
    refine Kept.seq (State.setRegBit_kept ..) ?_
    refine Kept.seq (Kept.upd (s := x6) rfl rfl rfl rfl rfl rfl rfl rfl rfl rfl rfl) ?_
    exact hx6

theorem State.busRead_kept (s_a addr_a) : Kept s_a (State.busRead s_a addr_a).2 := by
  unfold State.busRead
  split
  · refine Kept.seq (State.ptpLatch_kept ..) ?_
    exact Kept.refl _
  · split
    · refine Kept.seq (State.rxfifoPop_kept ..) ?_
      exact Kept.refl _
    · split
      · extract_lets +onlyGivenNames x1
        extract_lets +onlyGivenNames x2
        refine Kept.mk2 ?_
        refine Kept.seq (State.setRegN_kept ..) ?_
        exact Kept.refl _
      · refine Kept.mk2 ?_
        exact Kept.refl _

theorem State.busReg_kept (s_a addr_a value_a trusted_a) : Kept s_a (State.busReg s_a addr_a value_a trusted_a) := by
  unfold State.busReg
  extract_lets +onlyGivenNames x1
  refine Kept.ite ?_ ?_
  · exact Kept.refl _
  · refine Kept.ite ?_ ?_
    · exact Kept.refl _
    · refine Kept.ite ?_ ?_
      · extract_lets +onlyGivenNames x2
        split
        · refine Kept.seq (State.tarnCtrlWrite_kept ..) ?_
          exact Kept.refl _
        · refine Kept.seq (State.tarnMaskWrite_kept ..) ?_
          exact Kept.refl _
        · refine Kept.seq (State.tarnMaskWrite_kept ..) ?_
          exact Kept.refl _
        · refine Kept.seq (State.clearRegs_kept ..) ?_
          exact Kept.refl _
        · refine Kept.seq (State.txfifoPush_kept ..) ?_
          exact Kept.refl _
        · refine Kept.seq (State.busWrite_kept ..) ?_
          exact Kept.refl _
      · split
        · refine Kept.seq (State.evPop_kept ..) ?_
          exact Kept.refl _
        · refine Kept.seq (State.evSwraise_kept ..) ?_
          exact Kept.refl _
        · refine Kept.seq (State.clearRegs_kept ..) ?_
          exact Kept.refl _
        · refine Kept.seq (State.evPinAck_kept ..) ?_
          exact Kept.refl _
        · exact Kept.refl _
        · refine Kept.seq (State.busWrite_kept ..) ?_
          exact Kept.refl _
        · refine Kept.seq (State.busWrite_kept ..) ?_
          exact Kept.refl _
        · refine Kept.seq (State.busWrite_kept ..) ?_
          exact Kept.refl _
        · refine Kept.seq (State.apbaseWrite_kept ..) ?_
          exact Kept.refl _
        · refine Kept.seq (State.clearRegs_kept ..) ?_
          exact Kept.refl _
        · refine Kept.seq (State.cmacCtrl_kept ..) ?_
          exact Kept.refl _
        · refine Kept.seq (State.cmacCtrl_kept ..) ?_
          exact Kept.refl _
        · refine Kept.seq (State.clearRegs_kept ..) ?_
          exact Kept.refl _
        · refine Kept.seq (State.clearRegs_kept ..) ?_
          exact Kept.refl _
        · refine Kept.seq (State.tarnGoWrite_kept ..) ?_
          exact Kept.refl _
        · refine Kept.seq (State.timerCtrl_kept ..) ?_
          exact Kept.refl _
        · refine Kept.seq (State.alarmArm_kept ..) ?_
          exact Kept.refl _
        · refine Kept.seq (State.wdtKick_kept ..) ?_
          exact Kept.refl _
        · refine Kept.seq (State.osfCmd_kept ..) ?_
          exact Kept.refl _
        · refine Kept.seq (State.busWrite_kept ..) ?_
          exact Kept.refl _

end Sys2Proof.Machine
end

