-- ==== Sys2Proof/Laws/KeptScree.lean ====
section
/-!
SUPPORT. That the functions of Machine/Scree.lean keep the queue, never turn time back and keep a sound state sound
(`Kept` of Laws/Kept.lean).
-/
namespace Sys2Proof.Machine

theorem State.loadRegs_kept (s : State) (a k : Nat) : Kept s (s.loadRegs a k).2 := by
  induction k generalizing s a with
  | zero => exact Kept.refl s
  | succ k ih => exact (ih _ _).seq (State.busRead_kept ..)

theorem State.busLoad_kept (s_a target_a a_a n_a) : Kept s_a (State.busLoad s_a target_a a_a n_a).2 := by
  unfold State.busLoad
  split
  · extract_lets +onlyGivenNames x1
    have hx1 : Kept s_a x1.2 := by
      subst x1
      refine Kept.seq (State.loadRegs_kept ..) ?_
      exact Kept.refl _
    clear_value x1
    refine Kept.mk2 ?_
    exact hx1
  · refine Kept.seq (State.flashRead_kept ..) ?_
    exact Kept.refl _
  · refine Kept.seq (State.drawBytes_kept ..) ?_
    exact Kept.refl _
  · refine Kept.mk2 ?_
    exact Kept.refl _

theorem State.storeReg_kept (s_a a_a v_a trusted_a) : Kept s_a (State.storeReg s_a a_a v_a trusted_a) := by
  unfold State.storeReg
  refine Kept.ite ?_ ?_
  · refine Kept.seq (State.busWrite_kept ..) ?_
    exact Kept.refl _
  · refine Kept.seq (State.busReg_kept ..) ?_
    exact Kept.refl _

theorem State.storeRegs_kept (s : State) (a : Nat) (trusted : Bool) (l : List (List Byte)) :
    Kept s (s.storeRegs a trusted l) := by
  induction l generalizing s a with
  | nil => exact Kept.refl s
  | cons w l ih => exact (ih _ _).seq (State.storeReg_kept ..)

theorem State.busStore_kept (s_a target_a a_a trusted_a b_a) : Kept s_a (State.busStore s_a target_a a_a trusted_a b_a) := by
  unfold State.busStore
  split
  · extract_lets +onlyGivenNames x1
    have hx1 : Kept s_a x1.2 := by
      subst x1
      refine Kept.seq (State.drawBytes_kept ..) ?_
      exact Kept.refl _
    clear_value x1
    extract_lets +onlyGivenNames x2
    extract_lets +onlyGivenNames x3
    have hx3 : Kept s_a x3 := by
      subst x3
      refine Kept.ite ?_ ?_
      · exact Kept.refl _
      · exact hx1
    clear_value x3
    extract_lets +onlyGivenNames x4
    have hx4 : Kept s_a x4.2 := by
      subst x4
      refine Kept.seq (State.drawBytes_kept ..) ?_
      exact hx3
    clear_value x4
    extract_lets +onlyGivenNames x5
    have hx5 : Kept s_a x5.2 := by
      subst x5
      split
      · refine Kept.mk2 ?_
        exact hx3
      · refine Kept.mk2 ?_
        exact hx4
    clear_value x5
    refine Kept.seq (State.storeRegs_kept ..) ?_
    exact hx5
  · exact Kept.refl _
  · refine Kept.seq (State.emit_kept ..) ?_
    exact Kept.refl _
  · refine Kept.seq (State.setMem_kept ..) ?_
    exact Kept.refl _

theorem State.scrAdvance_kept (s_a n_a) : Kept s_a (State.scrAdvance s_a n_a) := by
  unfold State.scrAdvance
  refine Kept.seq (State.setRegN_kept ..) ?_
  exact Kept.refl _

theorem State.scrFetch_kept {s t : State} {n : Nat} {w : List Nat} (h : s.scrFetch n = .inl (w, t)) : Kept s t := by
  unfold State.scrFetch at h
  split at h
  · cases h
  · cases h; exact State.busLoad_kept ..

theorem State.scrWord_kept (s_a n_a k_a v_a) : Kept s_a (State.scrWord s_a n_a k_a v_a) := by
  unfold State.scrWord
  extract_lets +onlyGivenNames x1
  split
  · refine Kept.seq (State.busStore_kept ..) ?_
    exact Kept.refl _
  · exact Kept.refl _

theorem State.scrWrite_kept (s_a n_a bytes_a code_a done_a) : Kept s_a (State.scrWrite s_a n_a bytes_a code_a done_a) := by
  unfold State.scrWrite
  refine Kept.seq (State.scrWord_kept ..) ?_
  refine Kept.seq (State.scrWord_kept ..) ?_
  exact Kept.refl _

theorem State.scrHalt_kept (s_a n_a code_a) : Kept s_a (State.scrHalt s_a n_a code_a) := by
  unfold State.scrHalt
  extract_lets +onlyGivenNames x1
  extract_lets +onlyGivenNames x2
  have hx2 : Kept s_a x2 := by
    subst x2
    exact Kept.upd rfl rfl rfl rfl rfl rfl rfl rfl rfl rfl rfl
  clear_value x2
  extract_lets +onlyGivenNames x3
  extract_lets +onlyGivenNames x4
  have hx4 : Kept s_a x4 := by
    subst x4
    refine Kept.seq (State.setRegBit_kept ..) ?_
    refine Kept.seq (State.setRegN_kept ..) ?_
    exact hx2
  clear_value x4
  refine Kept.seq (State.raise_kept ..) ?_
  refine Kept.seq (State.bumpReg_kept ..) ?_
  exact hx4

theorem State.scrFail_kept (s_a code_a) : Kept s_a (State.scrFail s_a code_a) := by
  unfold State.scrFail
  split
  · exact Kept.refl _
  · refine Kept.seq (State.scrHalt_kept ..) ?_
    refine Kept.seq (State.scrWrite_kept ..) ?_
    exact Kept.refl _

theorem State.scrOffset_kept {s t : State} {w : List Nat} {k o : Nat} (h : s.scrOffset w k = .inl (o, t)) : Kept s t := by
  unfold State.scrOffset at h
  extract_lets +onlyGivenNames a at h
  clear_value a
  split at h
  · cases h; exact State.busLoad_kept ..
  · cases h

theorem State.loadFixed_kept (s : State) (target a k : Nat) : Kept s (s.loadFixed target a k).2 := by
  induction k generalizing s with
  | zero => exact Kept.refl s
  | succ k ih => exact (ih _).seq (State.busLoad_kept ..)

theorem State.storeFixed_kept (s : State) (target a : Nat) (l : List (List Byte)) : Kept s (s.storeFixed target a l) := by
  induction l generalizing s with
  | nil => exact Kept.refl s
  | cons w l ih => exact (ih _).seq (State.busStore_kept ..)

theorem State.burstData_kept (s_a w_a target_a src_a off_a n_a) : Kept s_a (State.burstData s_a w_a target_a src_a off_a n_a).2 := by
  unfold State.burstData
  split
  · extract_lets +onlyGivenNames x1
    have hx1 : Kept s_a x1.2 := by
      subst x1
      refine Kept.seq (State.loadFixed_kept ..) ?_
      exact Kept.refl _
    clear_value x1
    refine Kept.mk2 ?_
    exact hx1
  · extract_lets +onlyGivenNames x2
    extract_lets +onlyGivenNames x3
    extract_lets +onlyGivenNames x4
    extract_lets +onlyGivenNames x5
    have hx5 : Kept s_a x5.2 := by
      subst x5
      refine Kept.seq (State.busLoad_kept ..) ?_
      exact Kept.refl _
    clear_value x5
    refine Kept.mk2 ?_
    exact hx5

theorem State.scrBurst_kept (s : State) (r : ScrRun) (limit : Nat) : Kept s (s.scrBurst r limit) := by
  unfold State.scrBurst
  extract_lets +onlyGivenNames w k off idx
  have hidx : ∀ o t, idx = .inl (o, t) → Kept s t := fun o t h => by
    unfold idx at h
    split at h
    · cases h; exact Kept.refl s
    · exact State.scrOffset_kept h
  clear_value idx
  split
  · exact (State.scrFail_kept ..).seq (State.colRefuse_kept ..)
  · rename_i o t
    refine Kept.seq ?_ (hidx o t rfl)
    extract_lets +onlyGivenNames src dst n ra wa
    clear_value src dst n ra wa
    split
    · exact (State.scrFail_kept ..).seq (State.colRefuse_kept ..)
    · extract_lets +onlyGivenNames d
      have hd : Kept t d.2 := State.burstData_kept ..
      clear_value d
      split
      · exact (State.scrFail_kept ..).seq ((State.colRefuse_kept ..).seq hd)
      · extract_lets +onlyGivenNames b x
        have hx : Kept t x := by
          unfold x
          exact Kept.ite ((State.storeFixed_kept ..).seq hd) ((State.busStore_kept ..).seq hd)
        clear_value x
        exact Kept.seq (t := x) (Kept.upd rfl rfl rfl rfl rfl rfl rfl rfl rfl rfl rfl) hx

theorem State.scrBursts_kept (s : State) (most k : Nat) : Kept s (s.scrBursts most k) := by
  induction k generalizing s with
  | zero => exact Kept.refl s
  | succ k ih =>
    unfold State.scrBursts
    split
    · exact Kept.refl s
    · exact Kept.ite (Kept.refl s) ((ih _).seq (State.scrBurst_kept ..))

theorem State.scrWhole_kept (s : State) (most k : Nat) : Kept s (s.scrWhole most k) := by
  induction k generalizing s with
  | zero => exact Kept.refl s
  | succ k ih =>
    unfold State.scrWhole
    split
    · exact Kept.refl s
    · next r _ =>
      extract_lets +onlyGivenNames t
      have ht : Kept s t := State.scrBursts_kept ..
      clear_value t
      split
      · exact ht
      · exact Kept.ite ((ih _).seq ht) (Kept.refl s)

theorem State.scrRest_kept (s_a) : Kept s_a (State.scrRest s_a) := by
  unfold State.scrRest
  split
  · exact Kept.refl _
  · refine Kept.seq (State.scrBursts_kept ..) ?_
    exact Kept.refl _

theorem State.scrComplete_kept (s_a lateError_a) : Kept s_a (State.scrComplete s_a lateError_a) := by
  unfold State.scrComplete
  split
  · exact Kept.refl _
  · extract_lets +onlyGivenNames x1
    extract_lets +onlyGivenNames x2
    extract_lets +onlyGivenNames x3
    extract_lets +onlyGivenNames x4
    extract_lets +onlyGivenNames x5
    extract_lets +onlyGivenNames x6
    extract_lets +onlyGivenNames x7
    have hx7 : Kept s_a x7.2 := by
      subst x7
      refine Kept.seq (State.drawBytes_kept ..) ?_
      exact Kept.refl _
    clear_value x7
    extract_lets +onlyGivenNames x8
    extract_lets +onlyGivenNames x9
    have hx9 : Kept s_a x9 := by
      subst x9
      refine Kept.ite ?_ ?_
      · exact Kept.refl _
      · split
        · refine Kept.seq (State.busStore_kept ..) ?_
          exact hx7
        · exact hx7
    clear_value x9
    extract_lets +onlyGivenNames x10
    have hx10 : Kept s_a x10 := by
      subst x10
      refine Kept.seq (State.scrAdvance_kept ..) ?_
      refine Kept.seq (State.scrWrite_kept ..) ?_
      exact hx9
    clear_value x10
    extract_lets +onlyGivenNames x11
    extract_lets +onlyGivenNames x12
    have hx12 : Kept s_a x12 := by
      subst x12
      refine Kept.seq (Kept.upd (s := x10) rfl rfl rfl rfl rfl rfl rfl rfl rfl rfl rfl) ?_
      exact hx10
    clear_value x12
    extract_lets +onlyGivenNames x13
    have hx13 : Kept s_a x13 := by
      subst x13
      refine Kept.seq (State.bumpReg_kept ..) ?_
      refine Kept.seq (State.setRegBit_kept ..) ?_
      exact hx12
    clear_value x13
    extract_lets +onlyGivenNames x14
    have hx14 : Kept s_a x14 := by
      subst x14
      refine Kept.ite ?_ ?_
      · refine Kept.seq (State.setRegBit_kept ..) ?_
        exact hx13
      · exact hx13
    clear_value x14
    refine Kept.ite ?_ ?_
    · refine Kept.seq (State.scrHalt_kept ..) ?_
      exact hx14
    · exact hx14

theorem execScrTailWrite_kept (dt_a channel_a value_a s_a) : KeptR s_a (execScrTailWrite dt_a channel_a value_a s_a) := by
  unfold execScrTailWrite
  refine act_kept (hk2 := fun u1 => ?_) ..
  refine Kept.ite ?_ ?_
  · refine Kept.seq (State.busWrite_kept ..) ?_
    exact Kept.refl _
  · exact Kept.refl _

theorem execScrDescriptorStart_kept (dt : Nat) (s : State) : KeptR s (execScrDescriptorStart dt s) := by
  unfold execScrDescriptorStart
  refine actIf_kept (hk3 := fun t => ?_) ..
  split
  · exact Kept.refl t
  · rename_i n _
    extract_lets +onlyGivenNames src x y
    have hx : Kept t x := Kept.upd rfl rfl rfl rfl rfl rfl rfl rfl rfl rfl rfl
    clear_value x
    have hy : Kept t y := (State.setRegN_kept ..).seq hx
    clear_value y
    split
    · exact (State.scrHalt_kept ..).seq ((State.colRefuse_kept ..).seq hy)
    · rename_i w u h
      refine Kept.seq ?_ ((State.scrFetch_kept h).seq hy)
      extract_lets +onlyGivenNames src z
      have hz : Kept u z := Kept.upd rfl rfl rfl rfl rfl rfl rfl rfl rfl rfl rfl
      clear_value z
      refine Kept.ite ((State.scrFail_kept ..).seq hz) (Kept.ite hz ((State.scrBursts_kept ..).seq hz))

theorem execScrPeriphRequest_kept (dt_a periph_a asserted_a s_a) : KeptR s_a (execScrPeriphRequest dt_a periph_a asserted_a s_a) := by
  unfold execScrPeriphRequest
  refine actIf_kept (hk3 := fun u1 => ?_) ..
  split
  · exact Kept.refl _
  · refine Kept.ite ?_ ?_
    · exact Kept.refl _
    · refine Kept.ite ?_ ?_
      · refine Kept.seq (State.scrBursts_kept ..) ?_
        exact Kept.upd rfl rfl rfl rfl rfl rfl rfl rfl rfl rfl rfl
      · refine Kept.ite ?_ ?_
        · exact Kept.refl _
        · exact Kept.upd rfl rfl rfl rfl rfl rfl rfl rfl rfl rfl rfl

theorem execScrDescriptorComplete_kept (dt_a lateError_a s_a) : KeptR s_a (execScrDescriptorComplete dt_a lateError_a s_a) := by
  unfold execScrDescriptorComplete
  refine actIf_kept (hk3 := fun u1 => ?_) ..
  refine Kept.seq (State.scrComplete_kept ..) ?_
  refine Kept.seq (State.scrRest_kept ..) ?_
  exact Kept.refl _

theorem execScrHalted_kept (dt_a code_a bytesDone_a s_a) : KeptR s_a (execScrHalted dt_a code_a bytesDone_a s_a) := by
  unfold execScrHalted
  refine actIf_kept (hk3 := fun u1 => ?_) ..
  split
  · refine Kept.ite ?_ ?_
    · extract_lets +onlyGivenNames x2
      have hx2 : Kept u1 x2 := by
        subst x2
        refine Kept.seq (State.scrBursts_kept ..) ?_
        exact Kept.refl _
      clear_value x2
      refine Kept.seq (State.scrFail_kept ..) ?_
      refine Kept.seq (State.colRefuse_kept ..) ?_
      exact hx2
    · refine Kept.ite ?_ ?_
      · extract_lets +onlyGivenNames x3
        have hx3 : Kept u1 x3 := by
          subst x3
          refine Kept.seq (State.scrWhole_kept ..) ?_
          exact Kept.refl _
        clear_value x3
        split
        · extract_lets +onlyGivenNames x4
          refine Kept.seq (State.scrFail_kept ..) ?_
          refine Kept.seq (State.colRefuse_kept ..) ?_
          exact hx3
        · exact hx3
      · exact Kept.refl _
  · refine Kept.ite ?_ ?_
    · split
      · refine Kept.seq (State.scrHalt_kept ..) ?_
        refine Kept.seq (State.colRefuse_kept ..) ?_
        exact Kept.refl _
      · exact Kept.refl _
    · exact Kept.refl _

theorem execScrStall_kept (dt_a s_a) : KeptR s_a (execScrStall dt_a s_a) := by
  unfold execScrStall
  refine actIf_kept (hk3 := fun u1 => ?_) ..
  refine Kept.seq (State.scrFail_kept ..) ?_
  exact Kept.refl _

theorem State.scrAbort_kept (s_a channel_a bursts_a) : Kept s_a (State.scrAbort s_a channel_a bursts_a) := by
  unfold State.scrAbort
  extract_lets +onlyGivenNames x1
  subst x1
  extract_lets +onlyGivenNames x2
  subst x2
  split
  · refine Kept.ite ?_ ?_
    · dsimp -zeta only
      refine Kept.seq (State.setRegN_kept ..) ?_
      refine Kept.seq (State.setRegN_kept ..) ?_
      exact Kept.refl _
    · extract_lets +onlyGivenNames x3
      have hx3 : Kept s_a x3 := by
        subst x3
        refine Kept.seq (State.scrBursts_kept ..) ?_
        exact Kept.refl _
      clear_value x3
      split
      · dsimp -zeta only
        refine Kept.seq (State.setRegN_kept ..) ?_
        refine Kept.seq (State.setRegN_kept ..) ?_
        refine Kept.seq (Kept.upd (s := x3) rfl rfl rfl rfl rfl rfl rfl rfl rfl rfl rfl) ?_
        exact hx3
      · refine Kept.ite ?_ ?_
        · dsimp -zeta only
          refine Kept.seq (State.setRegN_kept ..) ?_
          refine Kept.seq (State.setRegN_kept ..) ?_
          refine Kept.seq (State.scrComplete_kept ..) ?_
          exact hx3
        · extract_lets +onlyGivenNames x4
          have hx4 : Kept s_a x4 := by
            subst x4
            refine Kept.seq (State.setRegBit_kept ..) ?_
            refine Kept.seq (State.scrWrite_kept ..) ?_
            exact hx3
          clear_value x4
          extract_lets +onlyGivenNames x5
          extract_lets +onlyGivenNames x6
          have hx6 : Kept s_a x6 := by
            subst x6
            refine Kept.seq (Kept.upd (s := x4) rfl rfl rfl rfl rfl rfl rfl rfl rfl rfl rfl) ?_
            exact hx4
          clear_value x6
          dsimp -zeta only
          refine Kept.seq (State.setRegN_kept ..) ?_
          refine Kept.seq (State.setRegN_kept ..) ?_
          refine Kept.seq (State.setRegBit_kept ..) ?_
          exact hx6
  · extract_lets +onlyGivenNames x7
    refine Kept.ite ?_ ?_
    · dsimp -zeta only
      refine Kept.seq (State.setRegN_kept ..) ?_
      refine Kept.seq (State.setRegN_kept ..) ?_
      exact Kept.upd rfl rfl rfl rfl rfl rfl rfl rfl rfl rfl rfl
    · dsimp -zeta only
      refine Kept.seq (State.setRegN_kept ..) ?_
      refine Kept.seq (State.setRegN_kept ..) ?_
      exact Kept.refl _

theorem execScrAbort_kept (dt_a channel_a bursts_a s_a) : KeptR s_a (execScrAbort dt_a channel_a bursts_a s_a) := by
  unfold execScrAbort
  refine actIf_kept (hk3 := fun u1 => ?_) ..
  refine Kept.seq (State.scrAbort_kept ..) ?_
  exact Kept.refl _

theorem State.scrClear_kept (s_a skip_a) : Kept s_a (State.scrClear s_a skip_a) := by
  unfold State.scrClear
  refine Kept.ite ?_ ?_
  · exact Kept.refl _
  · extract_lets +onlyGivenNames x1
    extract_lets +onlyGivenNames x2
    extract_lets +onlyGivenNames x3
    have hx3 : Kept s_a x3 := by
      subst x3
      refine Kept.ite ?_ ?_
      · refine Kept.seq (State.scrAdvance_kept ..) ?_
        exact Kept.refl _
      · exact Kept.refl _
    clear_value x3
    refine Kept.seq (State.setRegN_kept ..) ?_
    refine Kept.seq (Kept.upd (s := x3) rfl rfl rfl rfl rfl rfl rfl rfl rfl rfl rfl) ?_
    exact hx3

theorem execScrClear_kept (dt_a skip_a s_a) : KeptR s_a (execScrClear dt_a skip_a s_a) := by
  unfold execScrClear
  refine act_kept (hk2 := fun u1 => ?_) ..
  refine Kept.seq (State.scrClear_kept ..) ?_
  exact Kept.refl _

theorem State.scrDisable_kept (s_a channel_a bursts_a) : Kept s_a (State.scrDisable s_a channel_a bursts_a) := by
  unfold State.scrDisable
  refine Kept.seq (State.setRegBit_kept ..) ?_
  refine Kept.seq (State.scrAbort_kept ..) ?_
  exact Kept.refl _

theorem execScrChannelDisable_kept (dt_a channel_a bursts_a s_a) : KeptR s_a (execScrChannelDisable dt_a channel_a bursts_a s_a) := by
  unfold execScrChannelDisable
  refine actIf_kept (hk3 := fun u1 => ?_) ..
  refine Kept.seq (State.scrDisable_kept ..) ?_
  exact Kept.refl _

theorem State.scrReg_kept (s_a addr_a v_a) : Kept s_a (State.scrReg s_a addr_a v_a) := by
  unfold State.scrReg
  extract_lets +onlyGivenNames x1
  extract_lets +onlyGivenNames x2
  extract_lets +onlyGivenNames x3
  refine Kept.ite ?_ ?_
  · extract_lets +onlyGivenNames x4
    have hx4 : Kept s_a x4 := by
      subst x4
      refine Kept.seq (State.busWrite_kept ..) ?_
      exact Kept.refl _
    clear_value x4
    refine Kept.ite ?_ ?_
    · refine Kept.seq (State.scrClear_kept ..) ?_
      exact hx4
    · exact hx4
  · refine Kept.ite ?_ ?_
    · refine Kept.seq (State.scrAbort_kept ..) ?_
      exact Kept.refl _
    · refine Kept.ite ?_ ?_
      · refine Kept.seq (State.clearRegs_kept ..) ?_
        exact Kept.refl _
      · refine Kept.ite ?_ ?_
        · refine Kept.ite ?_ ?_
          · refine Kept.seq (State.scrDisable_kept ..) ?_
            exact Kept.refl _
          · refine Kept.ite ?_ ?_
            · exact Kept.refl _
            · refine Kept.seq (State.busWrite_kept ..) ?_
              exact Kept.refl _
        · refine Kept.seq (State.busWrite_kept ..) ?_
          exact Kept.refl _

theorem State.colError_kept (s_a r_a a_a target_a reason_a) : Kept s_a (State.colError s_a r_a a_a target_a reason_a) := by
  unfold State.colError
  refine Kept.ite ?_ ?_
  · refine Kept.seq (State.cairnRefused_kept ..) ?_
    exact Kept.refl _
  · extract_lets +onlyGivenNames x1
    have hx1 : Kept s_a x1 := by
      subst x1
      refine Kept.seq (State.colRefuse_kept ..) ?_
      exact Kept.refl _
    clear_value x1
    refine Kept.ite ?_ ?_
    · refine Kept.seq (State.scrFail_kept ..) ?_
      exact hx1
    · exact hx1

theorem execColRequest_kept (dt_a target_a waiting_a s_a) : KeptR s_a (execColRequest dt_a target_a waiting_a s_a) := by
  unfold execColRequest
  refine act_kept (hk2 := fun u1 => ?_) ..
  extract_lets +onlyGivenNames x2
  extract_lets +onlyGivenNames x3
  extract_lets +onlyGivenNames x4
  extract_lets +onlyGivenNames x5
  split
  · exact Kept.refl _
  · extract_lets +onlyGivenNames x6
    extract_lets +onlyGivenNames x7
    extract_lets +onlyGivenNames x8
    extract_lets +onlyGivenNames x9
    have hx9 : Kept u1 x9 := by
      subst x9
      refine Kept.seq (State.setRegBit_kept ..) ?_
      exact Kept.upd rfl rfl rfl rfl rfl rfl rfl rfl rfl rfl rfl
    clear_value x9
    extract_lets +onlyGivenNames x10
    have hx10 : Kept u1 x10 := by
      subst x10
      refine Kept.ite ?_ ?_
      · refine Kept.seq (State.setRegN_kept ..) ?_
        exact hx9
      · exact Kept.refl _
    clear_value x10
    split
    · refine Kept.seq (State.colError_kept ..) ?_
      exact hx10
    · refine Kept.ite ?_ ?_
      · refine Kept.seq (State.colError_kept ..) ?_
        exact hx10
      · refine Kept.ite ?_ ?_
        · refine Kept.seq (State.busStore_kept ..) ?_
          exact hx10
        · extract_lets +onlyGivenNames x11
          have hx11 : Kept u1 x11.2 := by
            subst x11
            refine Kept.seq (State.busLoad_kept ..) ?_
            exact hx10
          clear_value x11
          refine Kept.seq (State.emit_kept ..) ?_
          exact hx11

theorem execColPortClockStop_kept (dt_a target_a s_a) : KeptR s_a (execColPortClockStop dt_a target_a s_a) := by
  unfold execColPortClockStop
  refine actIf_kept (hk3 := fun u1 => ?_) ..
  refine Kept.seq (State.setRegBit_kept ..) ?_
  exact Kept.refl _

theorem execRegisterWrite_kept (dt_a addr_a value_a trusted_a s_a) : KeptR s_a (execRegisterWrite dt_a addr_a value_a trusted_a s_a) := by
  unfold execRegisterWrite
  refine act_kept (hk2 := fun u1 => ?_) ..
  extract_lets +onlyGivenNames x2
  split
  · refine Kept.ite ?_ ?_
    · refine Kept.seq (State.scrReg_kept ..) ?_
      exact Kept.refl _
    · refine Kept.seq (State.busReg_kept ..) ?_
      exact Kept.refl _
  · refine Kept.seq (State.busStore_kept ..) ?_
    exact Kept.refl _
  · refine Kept.ite ?_ ?_
    · refine Kept.seq (State.colRefuse_kept ..) ?_
      exact Kept.refl _
    · refine Kept.seq (State.cairnRefused_kept ..) ?_
      exact Kept.refl _

theorem execInterruptForward_kept (dt_a line_a s_a) : KeptR s_a (execInterruptForward dt_a line_a s_a) := by
  unfold execInterruptForward
  refine actIf_kept (hk3 := fun u1 => ?_) ..
  refine Kept.seq (State.emit_kept ..) ?_
  exact Kept.refl _

theorem State.cacheOp_kept (s_a addr_a) : Kept s_a (State.cacheOp s_a addr_a) := by
  unfold State.cacheOp
  refine Kept.ite ?_ ?_
  · exact Kept.refl _
  · extract_lets +onlyGivenNames x1
    have hx1 : Kept s_a x1.2 := by
      subst x1
      refine Kept.seq (State.draw_kept ..) ?_
      exact Kept.refl _
    clear_value x1
    refine Kept.seq (State.uplandRestart_kept ..) ?_
    exact hx1

theorem execCacheClean_kept (dt_a addr_a s_a) : KeptR s_a (execCacheClean dt_a addr_a s_a) := by
  unfold execCacheClean
  refine act_kept (hk2 := fun u1 => ?_) ..
  refine Kept.seq (State.cacheOp_kept ..) ?_
  exact Kept.refl _

theorem execCacheInval_kept (dt_a addr_a s_a) : KeptR s_a (execCacheInval dt_a addr_a s_a) := by
  unfold execCacheInval
  refine act_kept (hk2 := fun u1 => ?_) ..
  refine Kept.seq (State.cacheOp_kept ..) ?_
  exact Kept.refl _

theorem execCacheCleanInval_kept (dt_a addr_a s_a) : KeptR s_a (execCacheCleanInval dt_a addr_a s_a) := by
  unfold execCacheCleanInval
  refine act_kept (hk2 := fun u1 => ?_) ..
  refine Kept.seq (State.cacheOp_kept ..) ?_
  exact Kept.refl _

end Sys2Proof.Machine
end

