-- ==== Sys2Proof/Laws/KeptMemory.lean ====
section
/-!
SUPPORT. That the functions of Machine/Memory.lean keep the queue, never turn time back and keep a sound state sound
(`Kept` of Laws/Kept.lean).
-/
namespace Sys2Proof.Machine

theorem State.memCorrected_kept (s_a memory_a) : Kept s_a (State.memCorrected s_a memory_a) := by
  unfold State.memCorrected
  refine Kept.seq (State.raiseLimited_kept ..) ?_
  refine Kept.seq (State.bump_kept ..) ?_
  exact Kept.refl _

theorem execMemCorrected_kept (dt_a memory_a s_a) : KeptR s_a (execMemCorrected dt_a memory_a s_a) := by
  unfold execMemCorrected
  refine actIf_kept (hk3 := fun u1 => ?_) ..
  refine Kept.seq (State.memCorrected_kept ..) ?_
  exact Kept.refl _

theorem State.memLogged_kept (s_a memory_a consumer_a addr_a) : Kept s_a (State.memLogged s_a memory_a consumer_a addr_a) := by
  unfold State.memLogged
  extract_lets +onlyGivenNames x1
  have hx1 : Kept s_a x1 := by
    subst x1
    refine Kept.seq (State.bump_kept ..) ?_
    exact Kept.refl _
  clear_value x1
  extract_lets +onlyGivenNames x2
  refine Kept.seq (State.raise_kept ..) ?_
  refine Kept.seq (State.setBy_kept ..) ?_
  exact hx1

theorem State.mapFrame_kept (s_a slot_a seq_a f_a) : Kept s_a (State.mapFrame s_a slot_a seq_a f_a) := by
  unfold State.mapFrame
  extract_lets +onlyGivenNames x1
  refine Kept.seq (State.setSrc_kept ..) ?_
  exact Kept.refl _

theorem State.relayer_kept (s_a d_a pic_a) : Kept s_a (State.relayer s_a d_a pic_a) := by
  unfold State.relayer
  split
  · extract_lets +onlyGivenNames x1
    split
    · refine Kept.seq (State.amendPic_kept ..) ?_
      exact Kept.refl _
    · exact Kept.refl _
  · exact Kept.refl _

theorem State.conceal_kept (s_a slot_a seq_a line_a block_a previousBad_a destinations_a) : Kept s_a (State.conceal s_a slot_a seq_a line_a block_a previousBad_a destinations_a) := by
  unfold State.conceal
  extract_lets +onlyGivenNames x1
  refine Kept.foldl (fun u2 x3 => ?_) ?_
  · split
    · refine Kept.ite ?_ ?_
      · exact Kept.refl _
      · extract_lets +onlyGivenNames x4
        refine Kept.seq (State.raiseLimited_kept ..) ?_
        refine Kept.seq (State.bump_kept ..) ?_
        refine Kept.seq (State.relayer_kept ..) ?_
        refine Kept.seq (State.repaint_kept ..) ?_
        exact Kept.refl _
    · exact Kept.refl _
  · exact Kept.refl _

theorem State.loseSideData_kept (s_a slot_a seq_a) : Kept s_a (State.loseSideData s_a slot_a seq_a) := by
  unfold State.loseSideData
  extract_lets +onlyGivenNames x1
  extract_lets +onlyGivenNames x2
  have hx2 : Kept s_a x2 := by
    subst x2
    refine Kept.foldl (fun u3 x4 => ?_) ?_
    · refine Kept.seq (State.setDst_kept ..) ?_
      exact Kept.refl _
    · exact Kept.refl _
  clear_value x2
  extract_lets +onlyGivenNames x5
  have hx5 : Kept s_a x5 := by
    subst x5
    refine Kept.seq (State.mapFrame_kept ..) ?_
    exact hx2
  clear_value x5
  refine Kept.ite ?_ ?_
  · exact hx5
  · split
    · refine Kept.seq (State.meetSideData_kept ..) ?_
      exact hx5
    · exact hx5

theorem State.memConsume_kept (s_a memory_a c_a) : Kept s_a (State.memConsume s_a memory_a c_a) := by
  unfold State.memConsume
  split
  · refine Kept.seq (State.conceal_kept ..) ?_
    exact Kept.refl _
  · refine Kept.ite ?_ ?_
    · exact Kept.refl _
    · extract_lets +onlyGivenNames x1
      extract_lets +onlyGivenNames x2
      refine Kept.seq (State.conceal_kept ..) ?_
      exact Kept.refl _
  · refine Kept.seq (State.loseSideData_kept ..) ?_
    exact Kept.refl _
  · extract_lets +onlyGivenNames x3
    refine Kept.seq (State.setRxe_kept ..) ?_
    exact Kept.refl _
  · extract_lets +onlyGivenNames x4
    refine Kept.seq (State.setStrip_kept ..) ?_
    exact Kept.refl _
  · extract_lets +onlyGivenNames x5
    extract_lets +onlyGivenNames x6
    refine Kept.seq (State.setLayer_kept ..) ?_
    exact Kept.refl _
  · extract_lets +onlyGivenNames x7
    refine Kept.ite ?_ ?_
    · refine Kept.seq (State.setN_kept ..) ?_
      refine Kept.seq (State.setEngine_kept ..) ?_
      exact Kept.refl _
    · exact Kept.refl _
  · refine Kept.ite ?_ ?_
    · refine Kept.seq (State.setBitN_kept ..) ?_
      refine Kept.seq (State.setStage_kept ..) ?_
      exact Kept.refl _
    · exact Kept.refl _
  · refine Kept.seq (State.raise_kept ..) ?_
    refine Kept.seq (State.setReason_kept ..) ?_
    exact Kept.refl _
  · extract_lets +onlyGivenNames x8
    refine Kept.seq (State.setPlayer_kept ..) ?_
    exact Kept.refl _
  · refine Kept.ite ?_ ?_
    · refine Kept.seq (State.uplandRestart_kept ..) ?_
      exact Kept.refl _
    · exact Kept.refl _
  · refine Kept.ite ?_ ?_
    · refine Kept.seq (State.uplandRestart_kept ..) ?_
      exact Kept.refl _
    · exact Kept.refl _
  · refine Kept.seq (State.scrFail_kept ..) ?_
    exact Kept.refl _
  · refine Kept.seq (State.cmacCount_kept ..) ?_
    exact Kept.refl _
  · extract_lets +onlyGivenNames x9
    have hx9 : Kept s_a x9 := by
      subst x9
      refine Kept.seq (State.setReason_kept ..) ?_
      exact Kept.refl _
    clear_value x9
    refine Kept.seq (State.raise_kept ..) ?_
    refine Kept.seq (Kept.upd (s := x9) rfl rfl rfl rfl rfl rfl rfl rfl rfl rfl rfl) ?_
    exact hx9

theorem execMemUncorrectable_kept (dt_a memory_a addr_a c_a s_a) : KeptR s_a (execMemUncorrectable dt_a memory_a addr_a c_a s_a) := by
  unfold execMemUncorrectable
  refine actIf_kept (hk3 := fun u1 => ?_) ..
  refine Kept.seq (State.memConsume_kept ..) ?_
  refine Kept.ite ?_ ?_
  · refine Kept.seq (State.memLogged_kept ..) ?_
    exact Kept.refl _
  · exact Kept.refl _

theorem execMemScrubRead_kept (dt_a memory_a addr_a r_a passEnd_a s_a) : KeptR s_a (execMemScrubRead dt_a memory_a addr_a r_a passEnd_a s_a) := by
  unfold execMemScrubRead
  refine actIf_kept (hk3 := fun u1 => ?_) ..
  extract_lets +onlyGivenNames x2
  have hx2 : Kept u1 x2 := by
    subst x2
    split
    · exact Kept.refl _
    · refine Kept.seq (State.memCorrected_kept ..) ?_
      exact Kept.refl _
    · refine Kept.seq (State.memCorrected_kept ..) ?_
      exact Kept.refl _
    · refine Kept.seq (State.memLogged_kept ..) ?_
      exact Kept.refl _
  clear_value x2
  refine Kept.ite ?_ ?_
  · refine Kept.ite ?_ ?_
    · refine Kept.seq (State.raise_kept ..) ?_
      refine Kept.seq (State.setN_kept ..) ?_
      refine Kept.seq (State.setN_kept ..) ?_
      exact hx2
    · refine Kept.seq (State.setN_kept ..) ?_
      exact hx2
  · exact hx2

end Sys2Proof.Machine
end

