-- ==== Sys2Proof/Laws/KeptCommit.lean ====
section
/-!
SUPPORT. That the functions of Machine/Commit.lean keep the queue, never turn time back and keep a sound state sound
(`Kept` of Laws/Kept.lean).
-/
namespace Sys2Proof.Machine

theorem State.markRoutes_kept (s_a old_a l_a salvo_a boundary_a) : Kept s_a (State.markRoutes s_a old_a l_a salvo_a boundary_a) := by
  unfold State.markRoutes
  refine Kept.foldl (fun u1 x2 => ?_) ?_
  · extract_lets +onlyGivenNames x3
    refine Kept.ite ?_ ?_
    · refine Kept.seq (State.setDst_kept ..) ?_
      refine Kept.seq (State.setN_kept ..) ?_
      refine Kept.seq (State.setN_kept ..) ?_
      exact Kept.refl _
    · exact Kept.refl _
  · exact Kept.refl _

theorem State.markLabels_kept (s_a old_a boundary_a) : Kept s_a (State.markLabels s_a old_a boundary_a) := by
  unfold State.markLabels
  refine Kept.ite ?_ ?_
  · exact Kept.refl _
  · refine Kept.foldl (fun u1 x2 => ?_) ?_
    · extract_lets +onlyGivenNames x3
      refine Kept.ite ?_ ?_
      · exact Kept.refl _
      · refine Kept.seq (State.setDst_kept ..) ?_
        exact Kept.refl _
    · exact Kept.refl _

theorem State.moveStores_kept (s_a old_a) : Kept s_a (State.moveStores s_a old_a) := by
  unfold State.moveStores
  refine Kept.foldl (fun u1 x2 => ?_) ?_
  · extract_lets +onlyGivenNames x3
    refine Kept.ite ?_ ?_
    · refine Kept.seq (State.setSrc_kept ..) ?_
      exact Kept.refl _
    · refine Kept.seq (State.setSrc_kept ..) ?_
      exact Kept.refl _
  · exact Kept.refl _

theorem State.unuseDst_kept (s_a d_a) : Kept s_a (State.unuseDst s_a d_a) := by
  unfold State.unuseDst
  refine Kept.ite ?_ ?_
  · exact Kept.refl _
  · refine Kept.seq (State.setDst_kept ..) ?_
    refine Kept.seq (State.setN_kept ..) ?_
    refine Kept.seq (State.setN_kept ..) ?_
    exact Kept.refl _

theorem State.meetCommit_kept (s_a old_a changes_a boundary_a) : Kept s_a (State.meetCommit s_a old_a changes_a boundary_a) := by
  unfold State.meetCommit
  refine Kept.ite ?_ ?_
  · exact Kept.refl _
  · extract_lets +onlyGivenNames x1
    have hx1 : Kept s_a x1 := by
      subst x1
      refine Kept.seq (State.moveStores_kept ..) ?_
      exact Kept.refl _
    clear_value x1
    extract_lets +onlyGivenNames x2
    extract_lets +onlyGivenNames x3
    have hx3 : Kept s_a x3 := by
      subst x3
      refine Kept.foldl (fun u4 x5 => ?_) ?_
      · refine Kept.seq (State.refreshLane_kept ..) ?_
        exact Kept.refl _
      · exact hx1
    clear_value x3
    extract_lets +onlyGivenNames x6
    have hx6 : Kept s_a x6 := by
      subst x6
      refine Kept.foldl (fun u7 x8 => ?_) ?_
      · refine Kept.seq (State.regroup_kept ..) ?_
        exact Kept.refl _
      · exact hx3
    clear_value x6
    extract_lets +onlyGivenNames x9
    have hx9 : Kept s_a x9 := by
      subst x9
      refine Kept.seq (State.portCommit_kept ..) ?_
      refine Kept.seq (State.cirqueCommit_kept ..) ?_
      exact hx6
    clear_value x9
    extract_lets +onlyGivenNames x10
    have hx10 : Kept s_a x10 := by
      subst x10
      refine Kept.seq (State.txCommit_kept ..) ?_
      refine Kept.seq (State.rxCommit_kept ..) ?_
      exact hx9
    clear_value x10
    extract_lets +onlyGivenNames x11
    have hx11 : Kept s_a x11 := by
      subst x11
      refine Kept.seq (State.refreshSlots_kept ..) ?_
      exact hx10
    clear_value x11
    extract_lets +onlyGivenNames x12
    have hx12 : Kept s_a x12 := by
      subst x12
      refine Kept.seq (State.syncMembership_kept ..) ?_
      refine Kept.seq (State.corniceCommit_kept ..) ?_
      exact hx11
    clear_value x12
    extract_lets +onlyGivenNames x13
    have hx13 : Kept s_a x13 := by
      subst x13
      refine Kept.foldl (fun u14 x15 => ?_) ?_
      · refine Kept.seq (State.refreshSrc_kept ..) ?_
        exact Kept.refl _
      · exact hx12
    clear_value x13
    extract_lets +onlyGivenNames x16
    have hx16 : Kept s_a x16 := by
      subst x16
      refine Kept.seq (State.morCommit_kept ..) ?_
      exact hx13
    clear_value x16
    extract_lets +onlyGivenNames x17
    have hx17 : Kept s_a x17 := by
      subst x17
      refine Kept.foldl (fun u18 x19 => ?_) ?_
      · refine Kept.seq (State.unuseDst_kept ..) ?_
        exact Kept.refl _
      · exact hx16
    clear_value x17
    refine Kept.foldl (fun u20 x21 => ?_) ?_
    · refine Kept.seq (State.refreshSdp_kept ..) ?_
      exact Kept.refl _
    · exact hx17

theorem State.dueWrites_kept (s_a b_a) : Kept s_a (State.dueWrites s_a b_a).2 := by
  unfold State.dueWrites
  extract_lets +onlyGivenNames x1
  refine Kept.mk2 ?_
  exact Kept.upd rfl rfl rfl rfl rfl rfl rfl rfl rfl rfl rfl

theorem State.flips_kept (s_a l_a b_a) : Kept s_a (State.flips s_a l_a b_a) := by
  unfold State.flips
  refine Kept.foldl (fun u1 x2 => ?_) ?_
  · extract_lets +onlyGivenNames x3
    extract_lets +onlyGivenNames x4
    refine Kept.ite ?_ ?_
    · extract_lets +onlyGivenNames x5
      have hx5 : Kept u1 x5 := by
        subst x5
        refine Kept.seq (State.toDefault_kept ..) ?_
        exact Kept.refl _
      clear_value x5
      refine Kept.ite ?_ ?_
      · refine Kept.seq (State.gfxFlip_kept ..) ?_
        exact hx5
      · exact hx5
    · refine Kept.ite ?_ ?_
      · extract_lets +onlyGivenNames x6
        have hx6 : Kept u1 x6 := by
          subst x6
          refine Kept.seq (State.toDefault_kept ..) ?_
          exact Kept.refl _
        clear_value x6
        refine Kept.ite ?_ ?_
        · refine Kept.seq (State.tableFlip_kept ..) ?_
          exact hx6
        · exact hx6
      · exact Kept.refl _
  · exact Kept.refl _

theorem State.salvoDone_kept (s : State) (n : Nat) : Kept s (s.salvoDone n) := by
  unfold State.salvoDone
  extract_lets +onlyGivenNames x t u v e w data
  have ht : Kept s t := Kept.ofObjs rfl rfl rfl (Objs.overlay_wf _ _) rfl rfl rfl rfl rfl rfl rfl
  clear_value t
  have hv : Kept s v := (State.setSalvo_kept ..).seq ((State.flips_kept ..).seq ((State.markLabels_kept ..).seq
    ((State.markRoutes_kept ..).seq ht)))
  clear_value v
  have hw : Kept s w := Kept.ite (Kept.seq (t := v) (Kept.upd rfl rfl rfl rfl rfl rfl rfl rfl rfl rfl rfl) hv) hv
  clear_value w
  exact (State.raise_kept ..).seq ((State.journal_kept ..).seq ((State.bump_kept ..).seq hw))

theorem State.applyPoint_kept (s : State) (b : Nat) : Kept s (s.applyPoint b) := by
  unfold State.applyPoint
  split
  rename_i writes t e
  have ht : Kept s t := Kept.snd e (State.dueWrites_kept ..)
  extract_lets +onlyGivenNames u v
  have hu : Kept s u := Kept.seq (t := t) (Kept.ofObjs rfl rfl rfl (Objs.overlay_wf _ _) rfl rfl rfl rfl rfl rfl rfl) ht
  clear_value u
  exact Kept.foldl (fun _ _ => State.salvoDone_kept ..) ((State.flips_kept ..).seq hu)

theorem State.executeBoundary_kept (s_a b_a) : Kept s_a (State.executeBoundary s_a b_a) := by
  unfold State.executeBoundary
  extract_lets +onlyGivenNames x1
  refine Kept.seq (State.keptWrites_kept ..) ?_
  refine Kept.seq (State.meetCommit_kept ..) ?_
  refine Kept.foldl (fun u2 x3 => ?_) ?_
  · refine Kept.seq (State.applyPoint_kept ..) ?_
    exact Kept.refl _
  · exact Kept.refl _

end Sys2Proof.Machine
end

