-- ==== Sys2Proof/Laws/KeptSalvo.lean ====
section
/-!
SUPPORT. That the functions of Machine/Salvo.lean keep the queue, never turn time back and keep a sound state sound
(`Kept` of Laws/Kept.lean).
-/
namespace Sys2Proof.Machine

theorem State.replySalvo_kept (s_a e_a n_a status_a detail_a change_a boundary_a) : Kept s_a (State.replySalvo s_a e_a n_a status_a detail_a change_a boundary_a) := by
  unfold State.replySalvo
  extract_lets +onlyGivenNames x1
  refine Kept.seq (State.reply_kept ..) ?_
  exact Kept.refl _

theorem State.refuseSalvo_kept (s_a e_a n_a status_a) : Kept s_a (State.refuseSalvo s_a e_a n_a status_a) := by
  unfold State.refuseSalvo
  refine Kept.seq (State.replySalvo_kept ..) ?_
  exact Kept.refl _

theorem State.editSalvo_kept (s_a e_a role_a) : Kept s_a (State.editSalvo s_a e_a role_a) := by
  unfold State.editSalvo
  extract_lets +onlyGivenNames x1
  extract_lets +onlyGivenNames x2
  split
  · split
    · refine Kept.seq (State.refuseSalvo_kept ..) ?_
      exact Kept.refl _
    · refine Kept.seq (State.replySalvo_kept ..) ?_
      refine Kept.seq (State.setSalvo_kept ..) ?_
      exact Kept.refl _
  · split
    · refine Kept.seq (State.refuseSalvo_kept ..) ?_
      exact Kept.refl _
    · split
      · refine Kept.seq (State.refuseSalvo_kept ..) ?_
        exact Kept.refl _
      · refine Kept.seq (State.replySalvo_kept ..) ?_
        refine Kept.seq (State.setSalvo_kept ..) ?_
        exact Kept.refl _
  · refine Kept.seq (State.replySalvo_kept ..) ?_
    refine Kept.seq (State.setSalvo_kept ..) ?_
    exact Kept.refl _
  · refine Kept.seq (State.replySalvo_kept ..) ?_
    refine Kept.seq (State.setSalvo_kept ..) ?_
    exact Kept.refl _
  · exact Kept.refl _

theorem State.sendMirror_kept (s_a e_a isTake_a state_a candidate_a) : Kept s_a (State.sendMirror s_a e_a isTake_a state_a candidate_a) := by
  unfold State.sendMirror
  extract_lets +onlyGivenNames x1
  refine Kept.seq (State.emit_kept ..) ?_
  exact Kept.upd rfl rfl rfl rfl rfl rfl rfl rfl rfl rfl rfl

theorem State.setMirror_kept (s_a n_a m_a) : Kept s_a (State.setMirror s_a n_a m_a) := by
  unfold State.setMirror
  refine Kept.seq (State.setSalvo_kept ..) ?_
  exact Kept.refl _

theorem State.salvoResult_kept (s_a n_a code_a detail_a) : Kept s_a (State.salvoResult s_a n_a code_a detail_a) := by
  unfold State.salvoResult
  refine Kept.seq (State.setSalvo_kept ..) ?_
  exact Kept.refl _

theorem State.armDone_kept (s_a n_a mirror_a) : Kept s_a (State.armDone s_a n_a mirror_a) := by
  unfold State.armDone
  extract_lets +onlyGivenNames x1
  extract_lets +onlyGivenNames x2
  have hx2 : Kept s_a x2 := by
    subst x2
    refine Kept.seq (State.raise_kept ..) ?_
    refine Kept.seq (State.setSalvo_kept ..) ?_
    exact Kept.refl _
  clear_value x2
  refine Kept.ite ?_ ?_
  · refine Kept.seq (State.raise_kept ..) ?_
    refine Kept.seq (State.freeSalvo_kept ..) ?_
    exact hx2
  · exact hx2

theorem State.install_kept (s_a n_a reads_a pre_a) : Kept s_a (State.install s_a n_a reads_a pre_a) := by
  unfold State.install
  extract_lets +onlyGivenNames x1
  extract_lets +onlyGivenNames x2
  have hx2 : Kept s_a x2 := by
    subst x2
    refine Kept.seq (State.setSalvo_kept ..) ?_
    exact Kept.refl _
  clear_value x2
  extract_lets +onlyGivenNames x3
  have hx3 : Kept s_a x3 := by
    subst x3
    refine Kept.foldl (fun u4 x5 => ?_) ?_
    · refine Kept.ite ?_ ?_
      · exact Kept.refl _
      · refine Kept.seq (State.setPre_kept ..) ?_
        exact Kept.refl _
    · exact hx2
  clear_value x3
  extract_lets +onlyGivenNames x6
  have hx6 : Kept s_a x6 := by
    subst x6
    refine Kept.foldl (fun u7 x8 => ?_) ?_
    · refine Kept.ite ?_ ?_
      · exact Kept.refl _
      · refine Kept.seq (State.setN_kept ..) ?_
        exact Kept.refl _
    · exact hx3
  clear_value x6
  refine Kept.seq (State.syncMembership_kept ..) ?_
  refine Kept.foldl (fun u9 x10 => ?_) ?_
  · refine Kept.ite ?_ ?_
    · exact Kept.refl _
    · refine Kept.seq (State.setN_kept ..) ?_
      exact Kept.refl _
  · exact hx6

theorem State.armStart_kept (s_a e_a n_a) : Kept s_a (State.armStart s_a e_a n_a).2 := by
  unfold State.armStart
  split
  · extract_lets +onlyGivenNames x1
    have hx1 : Kept s_a x1 := by
      subst x1
      refine Kept.seq (State.raise_kept ..) ?_
      refine Kept.seq (State.bump_kept ..) ?_
      refine Kept.seq (State.salvoResult_kept ..) ?_
      exact Kept.refl _
    clear_value x1
    refine Kept.mk2 ?_
    refine Kept.seq (State.replySalvo_kept ..) ?_
    exact hx1
  · refine Kept.mk2 ?_
    refine Kept.seq (State.install_kept ..) ?_
    exact Kept.refl _

theorem State.refuseTake_kept (s_a e_a n_a code_a) : Kept s_a (State.refuseTake s_a e_a n_a code_a) := by
  unfold State.refuseTake
  refine Kept.seq (State.refuseSalvo_kept ..) ?_
  refine Kept.seq (State.salvoResult_kept ..) ?_
  exact Kept.refl _

theorem State.noteLate_kept (s_a e_a k_a) : Kept s_a (State.noteLate s_a e_a k_a) := by
  unfold State.noteLate
  exact Kept.upd rfl rfl rfl rfl rfl rfl rfl rfl rfl rfl rfl

theorem State.acceptTake_kept (s_a e_a n_a b_a mirror_a) : Kept s_a (State.acceptTake s_a e_a n_a b_a mirror_a) := by
  unfold State.acceptTake
  extract_lets +onlyGivenNames x1
  extract_lets +onlyGivenNames x2
  extract_lets +onlyGivenNames x3
  have hx3 : Kept s_a x3 := by
    subst x3
    refine Kept.seq (State.noteLate_kept ..) ?_
    exact Kept.upd rfl rfl rfl rfl rfl rfl rfl rfl rfl rfl rfl
  clear_value x3
  extract_lets +onlyGivenNames x4
  extract_lets +onlyGivenNames x5
  have hx5 : Kept s_a x5 := by
    subst x5
    refine Kept.seq (State.setSalvo_kept ..) ?_
    exact hx3
  clear_value x5
  refine Kept.seq (State.replySalvo_kept ..) ?_
  exact hx5

theorem State.takeSteps_kept (s_a e_a n_a at__a) : Kept s_a (State.takeSteps s_a e_a n_a at__a) := by
  unfold State.takeSteps
  extract_lets +onlyGivenNames x1
  refine Kept.ite ?_ ?_
  · refine Kept.seq (State.refuseTake_kept ..) ?_
    refine Kept.seq (State.raise_kept ..) ?_
    refine Kept.seq (State.bump_kept ..) ?_
    refine Kept.seq (State.unarm_kept ..) ?_
    exact Kept.refl _
  · refine Kept.ite ?_ ?_
    · refine Kept.seq (State.refuseTake_kept ..) ?_
      refine Kept.seq (State.raise_kept ..) ?_
      refine Kept.seq (State.bump_kept ..) ?_
      exact Kept.refl _
    · split
      · refine Kept.seq (State.refuseTake_kept ..) ?_
        exact Kept.refl _
      · refine Kept.ite ?_ ?_
        · refine Kept.seq (State.sendMirror_kept ..) ?_
          exact Kept.refl _
        · refine Kept.seq (State.acceptTake_kept ..) ?_
          exact Kept.refl _

theorem State.takeMirrored_kept (s_a e_a n_a candidate_a mirror_a at__a) : Kept s_a (State.takeMirrored s_a e_a n_a candidate_a mirror_a at__a) := by
  unfold State.takeMirrored
  refine Kept.ite ?_ ?_
  · refine Kept.seq (State.takeSteps_kept ..) ?_
    exact Kept.refl _
  · split
    · refine Kept.seq (State.refuseTake_kept ..) ?_
      exact Kept.refl _
    · refine Kept.seq (State.acceptTake_kept ..) ?_
      exact Kept.refl _

theorem State.release_kept (s_a e_a n_a) : Kept s_a (State.release s_a e_a n_a) := by
  unfold State.release
  split
  · refine Kept.seq (State.replySalvo_kept ..) ?_
    refine Kept.seq (State.freeSalvo_kept ..) ?_
    exact Kept.refl _
  · refine Kept.seq (State.replySalvo_kept ..) ?_
    refine Kept.seq (State.unarm_kept ..) ?_
    exact Kept.refl _

theorem State.afterArm_kept (s_a e_a n_a mirror_a) : Kept s_a (State.afterArm s_a e_a n_a mirror_a) := by
  unfold State.afterArm
  extract_lets +onlyGivenNames x1
  have hx1 : Kept s_a x1 := by
    subst x1
    refine Kept.seq (State.armDone_kept ..) ?_
    exact Kept.refl _
  clear_value x1
  split
  · refine Kept.ite ?_ ?_
    · refine Kept.seq (State.takeSteps_kept ..) ?_
      exact hx1
    · refine Kept.seq (State.refuseSalvo_kept ..) ?_
      exact hx1
  · refine Kept.seq (State.replySalvo_kept ..) ?_
    exact hx1

theorem State.armOp_kept (s_a e_a n_a) : Kept s_a (State.armOp s_a e_a n_a) := by
  unfold State.armOp
  split
  rename_i v1 t2 e3
  have ht2 := Kept.snd e3 (State.armStart_kept ..)
  refine Kept.ite ?_ ?_
  · exact ht2
  · refine Kept.ite ?_ ?_
    · refine Kept.seq (State.sendMirror_kept ..) ?_
      exact ht2
    · refine Kept.seq (State.afterArm_kept ..) ?_
      exact ht2

theorem State.runOp_kept (s_a e_a) : Kept s_a (State.runOp s_a e_a) := by
  unfold State.runOp
  extract_lets +onlyGivenNames x1
  extract_lets +onlyGivenNames x2
  split
  · refine Kept.seq (State.refuseSalvo_kept ..) ?_
    exact Kept.refl _
  · split
    · refine Kept.seq (State.armOp_kept ..) ?_
      exact Kept.refl _
    · refine Kept.ite ?_ ?_
      · refine Kept.seq (State.armOp_kept ..) ?_
        exact Kept.refl _
      · refine Kept.seq (State.takeSteps_kept ..) ?_
        exact Kept.refl _
    · refine Kept.ite ?_ ?_
      · refine Kept.seq (State.sendMirror_kept ..) ?_
        exact Kept.refl _
      · refine Kept.seq (State.release_kept ..) ?_
        refine Kept.seq (State.setMirror_kept ..) ?_
        exact Kept.refl _
    · refine Kept.ite ?_ ?_
      · refine Kept.seq (State.sendMirror_kept ..) ?_
        exact Kept.refl _
      · refine Kept.seq (State.release_kept ..) ?_
        exact Kept.refl _
    · refine Kept.seq (State.editSalvo_kept ..) ?_
      exact Kept.refl _

theorem State.pump_kept (k : Nat) (s : State) : Kept s (State.pump k s) := by
  induction k generalizing s with
  | zero => exact Kept.refl s
  | succ k ih =>
    unfold State.pump
    split
    · exact (ih _).seq ((State.runOp_kept ..).seq (Kept.upd rfl rfl rfl rfl rfl rfl rfl rfl rfl rfl rfl))
    · exact Kept.refl s

theorem State.toEngine_kept (s_a e_a) : Kept s_a (State.toEngine s_a e_a) := by
  unfold State.toEngine
  refine Kept.ite ?_ ?_
  · exact Kept.upd rfl rfl rfl rfl rfl rfl rfl rfl rfl rfl rfl
  · refine Kept.seq (State.runOp_kept ..) ?_
    exact Kept.refl _

theorem State.mirrorEnd_kept (s_a mirror_a) : Kept s_a (State.mirrorEnd s_a mirror_a) := by
  unfold State.mirrorEnd
  split
  · exact Kept.refl _
  · extract_lets +onlyGivenNames x1
    extract_lets +onlyGivenNames x2
    extract_lets +onlyGivenNames x3
    have hx3 : Kept s_a x3 := by
      subst x3
      exact Kept.upd rfl rfl rfl rfl rfl rfl rfl rfl rfl rfl rfl
    clear_value x3
    extract_lets +onlyGivenNames x4
    have hx4 : Kept s_a x4 := by
      subst x4
      refine Kept.ite ?_ ?_
      · refine Kept.seq (State.refuseSalvo_kept ..) ?_
        exact hx3
      · refine Kept.ite ?_ ?_
        · split
          · refine Kept.seq (State.takeMirrored_kept ..) ?_
            exact hx3
          · exact hx3
        · split
          · refine Kept.seq (State.afterArm_kept ..) ?_
            exact hx3
          · refine Kept.seq (State.afterArm_kept ..) ?_
            exact hx3
          · refine Kept.seq (State.release_kept ..) ?_
            refine Kept.seq (State.setMirror_kept ..) ?_
            exact hx3
    clear_value x4
    refine Kept.seq (State.pump_kept ..) ?_
    exact hx4

theorem execSalvoMirrorAck_kept (dt_a n_a s_a) : KeptR s_a (execSalvoMirrorAck dt_a n_a s_a) := by
  unfold execSalvoMirrorAck
  refine actIf_kept (hk3 := fun u1 => ?_) ..
  refine Kept.seq (State.mirrorEnd_kept ..) ?_
  exact Kept.refl _

theorem execTakeMirrorAck_kept (dt_a n_a s_a) : KeptR s_a (execTakeMirrorAck dt_a n_a s_a) := by
  unfold execTakeMirrorAck
  refine actIf_kept (hk3 := fun u1 => ?_) ..
  refine Kept.seq (State.mirrorEnd_kept ..) ?_
  exact Kept.refl _

end Sys2Proof.Machine
end

