-- ==== Sys2Proof/Laws/KeptTwin.lean ====
section
/-!
SUPPORT. That the functions of Machine/Twin.lean keep the queue, never turn time back and keep a sound state sound
(`Kept` of Laws/Kept.lean).
-/
namespace Sys2Proof.Machine

theorem State.raiseTwin_kept (s_a source_a) : Kept s_a (State.raiseTwin s_a source_a) := by
  unfold State.raiseTwin
  refine Kept.seq (State.raise_kept ..) ?_
  exact Kept.refl _

theorem State.readyStandby_kept (s_a) : Kept s_a (State.readyStandby s_a) := by
  unfold State.readyStandby
  extract_lets +onlyGivenNames x1
  extract_lets +onlyGivenNames x2
  extract_lets +onlyGivenNames x3
  extract_lets +onlyGivenNames x4
  extract_lets +onlyGivenNames x5
  extract_lets +onlyGivenNames x6
  have hx6 : Kept s_a x6 := by
    subst x6
    refine Kept.seq (State.setN_kept ..) ?_
    refine Kept.seq (State.setN_kept ..) ?_
    exact Kept.refl _
  clear_value x6
  refine Kept.ite ?_ ?_
  · refine Kept.seq (State.raiseTwin_kept ..) ?_
    exact hx6
  · refine Kept.ite ?_ ?_
    · refine Kept.seq (State.raiseTwin_kept ..) ?_
      exact hx6
    · exact hx6

theorem State.readyActive_kept (s_a) : Kept s_a (State.readyActive s_a) := by
  unfold State.readyActive
  extract_lets +onlyGivenNames x1
  extract_lets +onlyGivenNames x2
  extract_lets +onlyGivenNames x3
  extract_lets +onlyGivenNames x4
  have hx4 : Kept s_a x4 := by
    subst x4
    refine Kept.seq (State.setN_kept ..) ?_
    refine Kept.seq (State.setN_kept ..) ?_
    exact Kept.refl _
  clear_value x4
  refine Kept.optElim (fun x5 => ?_) ?_
  · refine Kept.seq (State.setN_kept ..) ?_
    exact hx4
  · exact hx4

theorem State.refreshTwin_kept (s_a) : Kept s_a (State.refreshTwin s_a) := by
  unfold State.refreshTwin
  extract_lets +onlyGivenNames x1
  have hx1 : Kept s_a x1 := by
    subst x1
    refine Kept.ite ?_ ?_
    · refine Kept.seq (State.readyStandby_kept ..) ?_
      exact Kept.refl _
    · refine Kept.ite ?_ ?_
      · refine Kept.seq (State.readyActive_kept ..) ?_
        exact Kept.refl _
      · exact Kept.refl _
  clear_value x1
  extract_lets +onlyGivenNames x2
  have hx2 : Kept s_a x2 := by
    subst x2
    refine Kept.seq (State.setN_kept ..) ?_
    exact hx1
  clear_value x2
  refine Kept.seq (State.setN_kept ..) ?_
  exact hx2

theorem State.startResync_kept (s_a) : Kept s_a (State.startResync s_a) := by
  unfold State.startResync
  split
  rename_i v1 t2 e3
  have ht2 := Kept.snd e3 (State.draw_kept ..)
  extract_lets +onlyGivenNames x4
  refine Kept.seq (State.setN_kept ..) ?_
  refine Kept.seq (Kept.upd (s := t2) rfl rfl rfl rfl rfl rfl rfl rfl rfl rfl rfl) ?_
  exact ht2

theorem State.wantResync_kept (s_a) : Kept s_a (State.wantResync s_a) := by
  unfold State.wantResync
  refine Kept.ite ?_ ?_
  · refine Kept.seq (State.startResync_kept ..) ?_
    exact Kept.refl _
  · exact Kept.refl _

theorem State.resyncCause_kept (s_a) : Kept s_a (State.resyncCause s_a) := by
  unfold State.resyncCause
  refine Kept.ite ?_ ?_
  · extract_lets +onlyGivenNames x1
    extract_lets +onlyGivenNames x2
    have hx2 : Kept s_a x2 := by
      subst x2
      exact Kept.upd rfl rfl rfl rfl rfl rfl rfl rfl rfl rfl rfl
    clear_value x2
    refine Kept.ite ?_ ?_
    · refine Kept.seq (State.startResync_kept ..) ?_
      exact hx2
    · exact hx2
  · refine Kept.seq (State.wantResync_kept ..) ?_
    exact Kept.refl _

theorem State.loseMirror_kept (s_a) : Kept s_a (State.loseMirror s_a) := by
  unfold State.loseMirror
  extract_lets +onlyGivenNames x1
  extract_lets +onlyGivenNames x2
  have hx2 : Kept s_a x2 := by
    subst x2
    exact Kept.upd rfl rfl rfl rfl rfl rfl rfl rfl rfl rfl rfl
  clear_value x2
  refine Kept.seq (State.refreshTwin_kept ..) ?_
  refine Kept.ite ?_ ?_
  · refine Kept.seq (State.startResync_kept ..) ?_
    exact hx2
  · exact hx2

theorem execArbPatternRecognised_kept (dt_a first_a second_a s_a) : KeptR s_a (execArbPatternRecognised dt_a first_a second_a s_a) := by
  unfold execArbPatternRecognised
  refine actIf_kept (hk3 := fun u1 => ?_) ..
  extract_lets +onlyGivenNames x2
  extract_lets +onlyGivenNames x3
  extract_lets +onlyGivenNames x4
  extract_lets +onlyGivenNames x5
  extract_lets +onlyGivenNames x6
  have hx6 : Kept u1 x6 := by
    subst x6
    refine Kept.seq (State.setN_kept ..) ?_
    exact Kept.upd rfl rfl rfl rfl rfl rfl rfl rfl rfl rfl rfl
  clear_value x6
  refine Kept.ite ?_ ?_
  · refine Kept.seq (State.raiseTwin_kept ..) ?_
    exact hx6
  · refine Kept.ite ?_ ?_
    · refine Kept.seq (State.raiseTwin_kept ..) ?_
      exact hx6
    · exact hx6

theorem execTwinStatusSend_kept (dt_a s_a) : KeptR s_a (execTwinStatusSend dt_a s_a) := by
  unfold execTwinStatusSend
  refine actIf_kept (hk3 := fun u1 => ?_) ..
  extract_lets +onlyGivenNames x2
  extract_lets +onlyGivenNames x3
  have hx3 : Kept u1 x3 := by
    subst x3
    refine Kept.seq (State.refreshTwin_kept ..) ?_
    exact Kept.upd rfl rfl rfl rfl rfl rfl rfl rfl rfl rfl rfl
  clear_value x3
  refine Kept.seq (State.emit_kept ..) ?_
  exact hx3

theorem State.showPeer_kept (s_a) : Kept s_a (State.showPeer s_a) := by
  unfold State.showPeer
  split
  · refine Kept.ite ?_ ?_
    · refine Kept.seq (State.setN_kept ..) ?_
      refine Kept.seq (State.setN_kept ..) ?_
      exact Kept.refl _
    · exact Kept.refl _
  · exact Kept.refl _

theorem State.takeBlock_kept (s_a b_a) : Kept s_a (State.takeBlock s_a b_a) := by
  unfold State.takeBlock
  extract_lets +onlyGivenNames x1
  extract_lets +onlyGivenNames x2
  extract_lets +onlyGivenNames x3
  extract_lets +onlyGivenNames x4
  extract_lets +onlyGivenNames x5
  extract_lets +onlyGivenNames x6
  have hx6 : Kept s_a x6 := by
    subst x6
    exact Kept.upd rfl rfl rfl rfl rfl rfl rfl rfl rfl rfl rfl
  clear_value x6
  extract_lets +onlyGivenNames x7
  have hx7 : Kept s_a x7 := by
    subst x7
    refine Kept.seq (State.showPeer_kept ..) ?_
    refine Kept.ite ?_ ?_
    · exact hx6
    · refine Kept.seq (State.setVal_kept ..) ?_
      exact hx6
  clear_value x7
  extract_lets +onlyGivenNames x8
  extract_lets +onlyGivenNames x9
  extract_lets +onlyGivenNames x10
  have hx10 : Kept s_a x10 := by
    subst x10
    refine Kept.ite ?_ ?_
    · refine Kept.seq (State.raiseTwin_kept ..) ?_
      refine Kept.seq (Kept.upd (s := x7) rfl rfl rfl rfl rfl rfl rfl rfl rfl rfl rfl) ?_
      exact hx7
    · exact hx7
  clear_value x10
  extract_lets +onlyGivenNames x11
  have hx11 : Kept s_a x11 := by
    subst x11
    refine Kept.ite ?_ ?_
    · refine Kept.seq (State.loseMirror_kept ..) ?_
      exact hx10
    · refine Kept.seq (State.refreshTwin_kept ..) ?_
      exact hx10
  clear_value x11
  refine Kept.ite ?_ ?_
  · refine Kept.seq (State.refreshTwin_kept ..) ?_
    refine Kept.seq (State.resyncCause_kept ..) ?_
    exact hx11
  · exact hx11

theorem execTwinStatusBlock_kept (dt_a b_a s_a) : KeptR s_a (execTwinStatusBlock dt_a b_a s_a) := by
  unfold execTwinStatusBlock
  refine actIf_kept (hk3 := fun u1 => ?_) ..
  refine Kept.seq (State.takeBlock_kept ..) ?_
  exact Kept.refl _

theorem execTwinPeerLost_kept (dt_a s_a) : KeptR s_a (execTwinPeerLost dt_a s_a) := by
  unfold execTwinPeerLost
  refine actIf_kept (hk3 := fun u1 => ?_) ..
  extract_lets +onlyGivenNames x2
  have hx2 : Kept u1 x2 := by
    subst x2
    refine Kept.seq (State.setN_kept ..) ?_
    refine Kept.seq (State.setN_kept ..) ?_
    refine Kept.seq (State.setN_kept ..) ?_
    exact Kept.refl _
  clear_value x2
  extract_lets +onlyGivenNames x3
  extract_lets +onlyGivenNames x4
  have hx4 : Kept u1 x4 := by
    subst x4
    refine Kept.seq (Kept.upd (s := x2) rfl rfl rfl rfl rfl rfl rfl rfl rfl rfl rfl) ?_
    exact hx2
  clear_value x4
  refine Kept.seq (State.refreshTwin_kept ..) ?_
  refine Kept.seq (State.raiseTwin_kept ..) ?_
  exact hx4

theorem execTwinPeerFound_kept (dt_a s_a) : KeptR s_a (execTwinPeerFound dt_a s_a) := by
  unfold execTwinPeerFound
  refine actIf_kept (hk3 := fun u1 => ?_) ..
  extract_lets +onlyGivenNames x2
  have hx2 : Kept u1 x2 := by
    subst x2
    refine Kept.seq (State.showPeer_kept ..) ?_
    refine Kept.seq (State.setN_kept ..) ?_
    exact Kept.refl _
  clear_value x2
  extract_lets +onlyGivenNames x3
  extract_lets +onlyGivenNames x4
  have hx4 : Kept u1 x4 := by
    subst x4
    refine Kept.seq (State.raiseTwin_kept ..) ?_
    refine Kept.seq (Kept.upd (s := x2) rfl rfl rfl rfl rfl rfl rfl rfl rfl rfl rfl) ?_
    exact hx2
  clear_value x4
  refine Kept.seq (State.refreshTwin_kept ..) ?_
  refine Kept.seq (State.resyncCause_kept ..) ?_
  exact hx4

theorem execMirrorTimeout_kept (dt_a n_a s_a) : KeptR s_a (execMirrorTimeout dt_a n_a s_a) := by
  unfold execMirrorTimeout
  refine actIf_kept (hk3 := fun u1 => ?_) ..
  refine Kept.seq (State.mirrorEnd_kept ..) ?_
  refine Kept.seq (State.loseMirror_kept ..) ?_
  exact Kept.refl _

theorem execSalvoMirrorReceive_kept (dt_a n_a state_a owner_a changes_a s_a) : KeptR s_a (execSalvoMirrorReceive dt_a n_a state_a owner_a changes_a s_a) := by
  unfold execSalvoMirrorReceive
  refine actIf_kept (hk3 := fun u1 => ?_) ..
  extract_lets +onlyGivenNames x2
  extract_lets +onlyGivenNames x3
  extract_lets +onlyGivenNames x4
  refine Kept.seq (State.emit_kept ..) ?_
  refine Kept.seq (State.setSalvo_kept ..) ?_
  exact Kept.refl _

theorem execTakeMirrorReceive_kept (dt_a n_a boundary_a s_a) : KeptR s_a (execTakeMirrorReceive dt_a n_a boundary_a s_a) := by
  unfold execTakeMirrorReceive
  refine actIf_kept (hk3 := fun u1 => ?_) ..
  extract_lets +onlyGivenNames x2
  extract_lets +onlyGivenNames x3
  extract_lets +onlyGivenNames x4
  have hx4 : Kept u1 x4 := by
    subst x4
    exact Kept.upd rfl rfl rfl rfl rfl rfl rfl rfl rfl rfl rfl
  clear_value x4
  refine Kept.seq (State.emit_kept ..) ?_
  refine Kept.seq (State.setSalvo_kept ..) ?_
  exact hx4

theorem State.usePattern_kept (s_a) : Kept s_a (State.usePattern s_a) := by
  unfold State.usePattern
  extract_lets +onlyGivenNames x1
  refine Kept.ite ?_ ?_
  · exact Kept.refl _
  · exact Kept.upd rfl rfl rfl rfl rfl rfl rfl rfl rfl rfl rfl

theorem State.newRole_kept (s_a) : Kept s_a (State.newRole s_a).2 := by
  unfold State.newRole
  extract_lets +onlyGivenNames x1
  extract_lets +onlyGivenNames x2
  extract_lets +onlyGivenNames x3
  split
  · refine Kept.mk2 ?_
    exact Kept.upd rfl rfl rfl rfl rfl rfl rfl rfl rfl rfl rfl
  · split
    · split
      · refine Kept.mk2 ?_
        refine Kept.ite ?_ ?_
        · exact Kept.refl _
        · refine Kept.seq (State.raiseTwin_kept ..) ?_
          exact Kept.upd rfl rfl rfl rfl rfl rfl rfl rfl rfl rfl rfl
      · refine Kept.mk2 ?_
        exact Kept.refl _
    · split
      · split
        · refine Kept.mk2 ?_
          exact Kept.upd rfl rfl rfl rfl rfl rfl rfl rfl rfl rfl rfl
        · refine Kept.mk2 ?_
          exact Kept.refl _
      · refine Kept.mk2 ?_
        exact Kept.refl _

theorem State.dualActive_kept (s_a) : Kept s_a (State.dualActive s_a) := by
  unfold State.dualActive
  extract_lets +onlyGivenNames x1
  extract_lets +onlyGivenNames x2
  extract_lets +onlyGivenNames x3
  extract_lets +onlyGivenNames x4
  extract_lets +onlyGivenNames x5
  extract_lets +onlyGivenNames x6
  have hx6 : Kept s_a x6 := by
    subst x6
    exact Kept.upd rfl rfl rfl rfl rfl rfl rfl rfl rfl rfl rfl
  clear_value x6
  refine Kept.ite ?_ ?_
  · refine Kept.seq (State.raiseTwin_kept ..) ?_
    exact hx6
  · exact hx6

theorem State.decideRole_kept (s_a) : Kept s_a (State.decideRole s_a).2 := by
  unfold State.decideRole
  extract_lets +onlyGivenNames x1
  have hx1 : Kept s_a x1 := by
    subst x1
    refine Kept.seq (State.usePattern_kept ..) ?_
    exact Kept.refl _
  clear_value x1
  extract_lets +onlyGivenNames x2
  have hx2 : Kept s_a x2.2 := by
    subst x2
    refine Kept.seq (State.newRole_kept ..) ?_
    exact hx1
  clear_value x2
  split
  · extract_lets +onlyGivenNames x3
    extract_lets +onlyGivenNames x4
    have hx4 : Kept s_a x4 := by
      subst x4
      refine Kept.ite ?_ ?_
      · refine Kept.seq (State.raiseTwin_kept ..) ?_
        exact hx2
      · exact hx2
    clear_value x4
    refine Kept.mk2 ?_
    refine Kept.seq (Kept.upd (s := x4) rfl rfl rfl rfl rfl rfl rfl rfl rfl rfl rfl) ?_
    exact hx4
  · refine Kept.mk2 ?_
    refine Kept.seq (State.dualActive_kept ..) ?_
    exact hx2

theorem State.announcePort_kept (s_a port_a) : Kept s_a (State.announcePort s_a port_a) := by
  unfold State.announcePort
  refine Kept.foldl (fun u1 x2 => ?_) ?_
  · refine Kept.ite ?_ ?_
    · refine Kept.seq (State.sendArp_kept ..) ?_
      exact Kept.refl _
    · refine Kept.seq (State.sendArp_kept ..) ?_
      exact Kept.refl _
  · exact Kept.refl _

theorem State.announce_kept (s_a) : Kept s_a (State.announce s_a) := by
  unfold State.announce
  refine Kept.foldl (fun u1 x2 => ?_) ?_
  · refine Kept.seq (State.announcePort_kept ..) ?_
    exact Kept.refl _
  · exact Kept.refl _

theorem execTwinAnnounce_kept (dt_a s_a) : KeptR s_a (execTwinAnnounce dt_a s_a) := by
  unfold execTwinAnnounce
  refine actIf_kept (hk3 := fun u1 => ?_) ..
  refine Kept.seq (State.announce_kept ..) ?_
  exact Kept.upd rfl rfl rfl rfl rfl rfl rfl rfl rfl rfl rfl

theorem State.continueNumber_kept (s_a b_a x_a) : Kept s_a (State.continueNumber s_a b_a x_a) := by
  unfold State.continueNumber
  refine Kept.ite ?_ ?_
  · exact Kept.refl _
  · extract_lets +onlyGivenNames x1
    extract_lets +onlyGivenNames x2
    extract_lets +onlyGivenNames x3
    have hx3 : Kept s_a x3 := by
      subst x3
      refine Kept.seq (State.setN_kept ..) ?_
      refine Kept.seq (State.setN_kept ..) ?_
      exact Kept.refl _
    clear_value x3
    refine Kept.ite ?_ ?_
    · refine Kept.seq (State.setTxe_kept ..) ?_
      exact hx3
    · exact hx3

theorem State.journalRole_kept (s_a role_a) : Kept s_a (State.journalRole s_a role_a) := by
  unfold State.journalRole
  refine Kept.seq (State.journal_kept ..) ?_
  exact Kept.refl _

theorem State.discardUnexecuted_kept (s_a always_a) : Kept s_a (State.discardUnexecuted s_a always_a) := by
  unfold State.discardUnexecuted
  refine Kept.foldl (fun u1 x2 => ?_) ?_
  · extract_lets +onlyGivenNames x3
    refine Kept.ite ?_ ?_
    · extract_lets +onlyGivenNames x4
      have hx4 : Kept u1 x4 := by
        subst x4
        refine Kept.seq (State.freeSalvo_kept ..) ?_
        exact Kept.refl _
      clear_value x4
      refine Kept.ite ?_ ?_
      · refine Kept.seq (State.raise_kept ..) ?_
        exact hx4
      · exact hx4
    · exact Kept.refl _
  · exact Kept.refl _

theorem State.takeover_kept (s_a b_a) : Kept s_a (State.takeover s_a b_a) := by
  unfold State.takeover
  extract_lets +onlyGivenNames x1
  extract_lets +onlyGivenNames x2
  have hx2 : Kept s_a x2 := by
    subst x2
    refine Kept.seq (State.discardUnexecuted_kept ..) ?_
    exact Kept.refl _
  clear_value x2
  extract_lets +onlyGivenNames x3
  extract_lets +onlyGivenNames x4
  have hx4 : Kept s_a x4 := by
    subst x4
    refine Kept.seq (Kept.upd (s := x2) rfl rfl rfl rfl rfl rfl rfl rfl rfl rfl rfl) ?_
    exact hx2
  clear_value x4
  extract_lets +onlyGivenNames x5
  have hx5 : Kept s_a x5 := by
    subst x5
    refine Kept.seq (State.journalRole_kept ..) ?_
    refine Kept.seq (State.setN_kept ..) ?_
    exact hx4
  clear_value x5
  extract_lets +onlyGivenNames x6
  have hx6 : Kept s_a x6 := by
    subst x6
    refine Kept.seq (State.announce_kept ..) ?_
    exact hx5
  clear_value x6
  extract_lets +onlyGivenNames x7
  have hx7 : Kept s_a x7 := by
    subst x7
    refine Kept.foldl (fun u8 x9 => ?_) ?_
    · refine Kept.foldl (fun u10 x11 => ?_) ?_
      · refine Kept.seq (State.report_kept ..) ?_
        exact Kept.refl _
      · exact Kept.refl _
    · exact hx6
  clear_value x7
  extract_lets +onlyGivenNames x12
  have hx12 : Kept s_a x12 := by
    subst x12
    refine Kept.foldl (fun u13 x14 => ?_) ?_
    · refine Kept.seq (State.continueNumber_kept ..) ?_
      exact Kept.refl _
    · exact hx7
  clear_value x12
  extract_lets +onlyGivenNames x15
  have hx15 : Kept s_a x15 := by
    subst x15
    refine Kept.foldl (fun u16 x17 => ?_) ?_
    · refine Kept.seq (State.resolve_kept ..) ?_
      refine Kept.seq (State.setTxe_kept ..) ?_
      exact Kept.refl _
    · exact hx12
  clear_value x15
  extract_lets +onlyGivenNames x18
  have hx18 : Kept s_a x18 := by
    subst x18
    refine Kept.seq (State.refreshTxAll_kept ..) ?_
    exact hx15
  clear_value x18
  extract_lets +onlyGivenNames x19
  extract_lets +onlyGivenNames x20
  have hx20 : Kept s_a x20 := by
    subst x20
    refine Kept.seq (Kept.upd (s := x18) rfl rfl rfl rfl rfl rfl rfl rfl rfl rfl rfl) ?_
    exact hx18
  clear_value x20
  extract_lets +onlyGivenNames x21
  extract_lets +onlyGivenNames x22
  have hx22 : Kept s_a x22 := by
    subst x22
    refine Kept.seq (Kept.upd (s := x20) rfl rfl rfl rfl rfl rfl rfl rfl rfl rfl rfl) ?_
    exact hx20
  clear_value x22
  extract_lets +onlyGivenNames x23
  have hx23 : Kept s_a x23 := by
    subst x23
    refine Kept.seq (State.bump_kept ..) ?_
    refine Kept.seq (State.setN_kept ..) ?_
    exact hx22
  clear_value x23
  refine Kept.seq (State.refreshTwin_kept ..) ?_
  refine Kept.seq (State.wantResync_kept ..) ?_
  refine Kept.seq (State.raiseTwin_kept ..) ?_
  exact hx23

theorem State.dropWait_kept (s_a) : Kept s_a (State.dropWait s_a) := by
  unfold State.dropWait
  split
  · refine Kept.seq (State.refuseSalvo_kept ..) ?_
    exact Kept.upd rfl rfl rfl rfl rfl rfl rfl rfl rfl rfl rfl
  · exact Kept.refl _

theorem State.demote_kept (s_a b_a) : Kept s_a (State.demote s_a b_a) := by
  unfold State.demote
  extract_lets +onlyGivenNames x1
  have hx1 : Kept s_a x1 := by
    subst x1
    refine Kept.seq (State.journalRole_kept ..) ?_
    refine Kept.seq (State.setN_kept ..) ?_
    refine Kept.seq (State.setN_kept ..) ?_
    exact Kept.refl _
  clear_value x1
  extract_lets +onlyGivenNames x2
  extract_lets +onlyGivenNames x3
  have hx3 : Kept s_a x3 := by
    subst x3
    refine Kept.seq (State.refreshTxAll_kept ..) ?_
    refine Kept.seq (Kept.upd (s := x1) rfl rfl rfl rfl rfl rfl rfl rfl rfl rfl rfl) ?_
    exact hx1
  clear_value x3
  extract_lets +onlyGivenNames x4
  have hx4 : Kept s_a x4 := by
    subst x4
    refine Kept.seq (State.dropWait_kept ..) ?_
    refine Kept.seq (State.discardUnexecuted_kept ..) ?_
    exact hx3
  clear_value x4
  extract_lets +onlyGivenNames x5
  have hx5 : Kept s_a x5 := by
    subst x5
    refine Kept.seq (State.pump_kept ..) ?_
    exact hx4
  clear_value x5
  extract_lets +onlyGivenNames x6
  extract_lets +onlyGivenNames x7
  extract_lets +onlyGivenNames x8
  have hx8 : Kept s_a x8 := by
    subst x8
    refine Kept.seq (Kept.upd (s := x5) rfl rfl rfl rfl rfl rfl rfl rfl rfl rfl rfl) ?_
    exact hx5
  clear_value x8
  refine Kept.seq (State.refreshTwin_kept ..) ?_
  refine Kept.seq (State.resyncCause_kept ..) ?_
  refine Kept.seq (State.raiseTwin_kept ..) ?_
  refine Kept.seq (State.setN_kept ..) ?_
  exact hx8

theorem State.countStale_kept (s_a b_a) : Kept s_a (State.countStale s_a b_a) := by
  unfold State.countStale
  refine Kept.ite ?_ ?_
  · exact Kept.refl _
  · refine Kept.ite ?_ ?_
    · refine Kept.seq (State.setN_kept ..) ?_
      exact Kept.refl _
    · extract_lets +onlyGivenNames x1
      have hx1 : Kept s_a x1 := by
        subst x1
        refine Kept.seq (State.setN_kept ..) ?_
        exact Kept.refl _
      clear_value x1
      extract_lets +onlyGivenNames x2
      have hx2 : Kept s_a x2 := by
        subst x2
        refine Kept.ite ?_ ?_
        · refine Kept.seq (State.resyncCause_kept ..) ?_
          exact hx1
        · exact hx1
      clear_value x2
      refine Kept.ite ?_ ?_
      · refine Kept.seq (State.raiseLimited_kept ..) ?_
        refine Kept.seq (State.bump_kept ..) ?_
        exact hx2
      · exact hx2

theorem State.toggleHealth_kept (s_a) : Kept s_a (State.toggleHealth s_a) := by
  unfold State.toggleHealth
  refine Kept.ite ?_ ?_
  · extract_lets +onlyGivenNames x1
    refine Kept.seq (State.setN_kept ..) ?_
    refine Kept.seq (State.emit_kept ..) ?_
    exact Kept.upd rfl rfl rfl rfl rfl rfl rfl rfl rfl rfl rfl
  · refine Kept.seq (State.setN_kept ..) ?_
    exact Kept.refl _

end Sys2Proof.Machine
end

