-- ==== Sys2Proof/Laws/KeptEffects.lean ====
section
/-!
SUPPORT. That the functions of Machine/Effects.lean keep the queue, never turn time back and keep a sound state sound
(`Kept` of Laws/Kept.lean).
-/
namespace Sys2Proof.Machine

theorem State.octetHold_kept (s_a o_a) : Kept s_a (State.octetHold s_a o_a) := by
  unfold State.octetHold
  refine Kept.seq (State.setBitN_kept ..) ?_
  exact Kept.refl _

theorem State.sendReady_kept (s_a) : Kept s_a (State.sendReady s_a) := by
  unfold State.sendReady
  refine Kept.ite ?_ ?_
  · exact Kept.refl _
  · refine Kept.seq (State.checkReady_kept ..) ?_
    refine Kept.foldl (fun u1 x2 => ?_) ?_
    · refine Kept.seq (State.sendTrain_kept ..) ?_
      exact Kept.refl _
    · exact Kept.refl _

theorem State.checkPaths_kept (s_a) : Kept s_a (State.checkPaths s_a) := by
  unfold State.checkPaths
  refine Kept.foldl (fun u1 x2 => ?_) ?_
  · refine Kept.seq (State.checkPath_kept ..) ?_
    exact Kept.refl _
  · exact Kept.refl _

theorem State.wsSetting_kept (s_a old_a i_a n_a) : Kept s_a (State.wsSetting s_a old_a i_a n_a) := by
  unfold State.wsSetting
  extract_lets +onlyGivenNames x1
  have hx1 : Kept s_a x1 := by
    subst x1
    refine Kept.seq (State.wsWritten_kept ..) ?_
    exact Kept.refl _
  clear_value x1
  refine Kept.ite ?_ ?_
  · refine Kept.foldl (fun u2 x3 => ?_) ?_
    · refine Kept.seq (State.refreshLane_kept ..) ?_
      exact Kept.refl _
    · exact hx1
  · exact hx1

theorem State.laneSetting_kept (s_a i_a n_a) : Kept s_a (State.laneSetting s_a i_a n_a) := by
  unfold State.laneSetting
  refine Kept.ite ?_ ?_
  · refine Kept.seq (State.laneModeSet_kept ..) ?_
    exact Kept.refl _
  · refine Kept.ite ?_ ?_
    · refine Kept.ite ?_ ?_
      · refine Kept.seq (State.presetTaps_kept ..) ?_
        exact Kept.refl _
      · exact Kept.refl _
    · refine Kept.ite ?_ ?_
      · refine Kept.seq (State.prbsGenerator_kept ..) ?_
        exact Kept.refl _
      · refine Kept.ite ?_ ?_
        · refine Kept.seq (State.prbsSet_kept ..) ?_
          exact Kept.refl _
        · refine Kept.ite ?_ ?_
          · refine Kept.seq (State.octetHold_kept ..) ?_
            exact Kept.refl _
          · refine Kept.ite ?_ ?_
            · refine Kept.seq (State.sendReady_kept ..) ?_
              exact Kept.refl _
            · exact Kept.refl _

theorem State.tarnCtrlObject_kept (s_a n_a) : Kept s_a (State.tarnCtrlObject s_a n_a) := by
  unfold State.tarnCtrlObject
  extract_lets +onlyGivenNames x1
  have hx1 : Kept s_a x1 := by
    subst x1
    refine Kept.seq (State.tarnCtrlWrite_kept ..) ?_
    exact Kept.refl _
  clear_value x1
  refine Kept.seq (State.setN_kept ..) ?_
  exact hx1

theorem State.written_kept (s_a old_a i_a n_a) : Kept s_a (State.written s_a old_a i_a n_a) := by
  unfold State.written
  refine Kept.ite ?_ ?_
  · refine Kept.seq (State.laneSetting_kept ..) ?_
    exact Kept.refl _
  · refine Kept.ite ?_ ?_
    · refine Kept.seq (State.wsSetting_kept ..) ?_
      exact Kept.refl _
    · refine Kept.ite ?_ ?_
      · refine Kept.seq (State.tarnCtrlObject_kept ..) ?_
        exact Kept.refl _
      · refine Kept.ite ?_ ?_
        · refine Kept.seq (State.tarnMaskWrite_kept ..) ?_
          exact Kept.refl _
        · refine Kept.ite ?_ ?_
          · refine Kept.seq (State.tarnMaskWrite_kept ..) ?_
            exact Kept.refl _
          · refine Kept.ite ?_ ?_
            · refine Kept.seq (State.assumed_kept ..) ?_
              exact Kept.refl _
            · refine Kept.ite ?_ ?_
              · refine Kept.seq (State.checkPaths_kept ..) ?_
                exact Kept.refl _
              · refine Kept.ite ?_ ?_
                · refine Kept.seq (State.refreshTwin_kept ..) ?_
                  exact Kept.refl _
                · refine Kept.ite ?_ ?_
                  · refine Kept.seq (State.copyPinMap_kept ..) ?_
                    exact Kept.refl _
                  · refine Kept.ite ?_ ?_
                    · refine Kept.seq (State.copyPinMode_kept ..) ?_
                      exact Kept.refl _
                    · refine Kept.ite ?_ ?_
                      · refine Kept.seq (State.ctlSettings_kept ..) ?_
                        exact Kept.refl _
                      · refine Kept.ite ?_ ?_
                        · refine Kept.seq (State.monWritten_kept ..) ?_
                          exact Kept.refl _
                        · exact Kept.refl _

theorem State.putNow_kept (s_a a_a v_a) : Kept s_a (State.putNow s_a a_a v_a) := by
  unfold State.putNow
  refine Kept.seq (State.written_kept ..) ?_
  refine Kept.seq (State.setVal_kept ..) ?_
  exact Kept.refl _

end Sys2Proof.Machine
end

