-- ==== Sys2Proof/Laws/KeptBoot.lean ====
section
/-!
SUPPORT. That the functions of Machine/Boot.lean keep the queue, never turn time back and keep a sound state sound
(`Kept` of Laws/Kept.lean).
-/
namespace Sys2Proof.Machine

theorem execPowerOn_kept (dt_a s_a) : KeptR s_a (execPowerOn dt_a s_a) := by
  unfold execPowerOn
  refine actAlways_kept (hk2 := fun u1 => ?_) ..
  extract_lets +onlyGivenNames x2
  have hx2 : Kept u1 x2 := by
    subst x2
    refine Kept.seq (State.enterReset_kept ..) ?_
    exact Kept.refl _
  clear_value x2
  refine Kept.seq (Kept.upd (s := x2) rfl rfl rfl rfl rfl rfl rfl rfl rfl rfl rfl) ?_
  exact hx2

theorem State.pulseResets_kept (s_a width_a) : Kept s_a (State.pulseResets s_a width_a).2 := by
  unfold State.pulseResets
  split
  · refine Kept.mk2 ?_
    exact Kept.refl _
  · split
    · refine Kept.mk2 ?_
      exact Kept.refl _
    · extract_lets +onlyGivenNames x1
      have hx1 : Kept s_a x1.2 := by
        subst x1
        refine Kept.seq (State.draw_kept ..) ?_
        exact Kept.refl _
      clear_value x1
      refine Kept.mk2 ?_
      exact hx1

theorem execResetNAssert_kept (dt_a width_a s_a) : KeptR s_a (execResetNAssert dt_a width_a s_a) := by
  unfold execResetNAssert
  refine actAlways_kept (hk2 := fun u1 => ?_) ..
  split
  rename_i v2 t3 e4
  have ht3 := Kept.snd e4 (State.pulseResets_kept ..)
  refine Kept.ite ?_ ?_
  · extract_lets +onlyGivenNames x5
    have hx5 : Kept u1 x5 := by
      subst x5
      refine Kept.seq (State.enterReset_kept ..) ?_
      exact ht3
    clear_value x5
    refine Kept.seq (Kept.upd (s := x5) rfl rfl rfl rfl rfl rfl rfl rfl rfl rfl rfl) ?_
    exact hx5
  · exact ht3

theorem execResetNRelease_kept (dt_a straps_a s_a) : KeptR s_a (execResetNRelease dt_a straps_a s_a) := by
  unfold execResetNRelease
  refine actAlways_kept (hk2 := fun u1 => ?_) ..
  refine Kept.ite ?_ ?_
  · exact Kept.refl _
  · extract_lets +onlyGivenNames x2
    extract_lets +onlyGivenNames x3
    have hx3 : Kept u1 x3 := by
      subst x3
      exact Kept.upd rfl rfl rfl rfl rfl rfl rfl rfl rfl rfl rfl
    clear_value x3
    refine Kept.ite ?_ ?_
    · exact hx3
    · refine Kept.seq (State.startRom_kept ..) ?_
      exact hx3

theorem execRailFault_kept (dt_a rail_a microvolts_a lasted_a s_a) : KeptR s_a (execRailFault dt_a rail_a microvolts_a lasted_a s_a) := by
  unfold execRailFault
  refine actAlways_kept (hk2 := fun u1 => ?_) ..
  refine Kept.ite ?_ ?_
  · refine Kept.seq (State.enterReset_kept ..) ?_
    exact Kept.refl _
  · exact Kept.refl _

theorem execVddAuxLow_kept (dt_a microvolts_a s_a) : KeptR s_a (execVddAuxLow dt_a microvolts_a s_a) := by
  unfold execVddAuxLow
  refine actAlways_kept (hk2 := fun u1 => ?_) ..
  refine Kept.ite ?_ ?_
  · refine Kept.seq (State.enterReset_kept ..) ?_
    exact Kept.refl _
  · exact Kept.refl _

theorem execThermalTrip_kept (dt_a temp_a lasted_a s_a) : KeptR s_a (execThermalTrip dt_a temp_a lasted_a s_a) := by
  unfold execThermalTrip
  refine actAlways_kept (hk2 := fun u1 => ?_) ..
  refine Kept.ite ?_ ?_
  · extract_lets +onlyGivenNames x2
    have hx2 : Kept u1 x2 := by
      subst x2
      refine Kept.seq (State.enterReset_kept ..) ?_
      exact Kept.refl _
    clear_value x2
    refine Kept.seq (Kept.upd (s := x2) rfl rfl rfl rfl rfl rfl rfl rfl rfl rfl rfl) ?_
    exact hx2
  · exact Kept.refl _

theorem execThermalTripRelease_kept (dt_a temp_a s_a) : KeptR s_a (execThermalTripRelease dt_a temp_a s_a) := by
  unfold execThermalTripRelease
  refine actAlways_kept (hk2 := fun u1 => ?_) ..
  refine Kept.ite ?_ ?_
  · extract_lets +onlyGivenNames x2
    extract_lets +onlyGivenNames x3
    have hx3 : Kept u1 x3 := by
      subst x3
      exact Kept.upd rfl rfl rfl rfl rfl rfl rfl rfl rfl rfl rfl
    clear_value x3
    refine Kept.ite ?_ ?_
    · exact hx3
    · refine Kept.seq (State.startRom_kept ..) ?_
      exact hx3
  · exact Kept.refl _

theorem State.avsCommand_kept (s_a microvolts_a nacks_a) : Kept s_a (State.avsCommand s_a microvolts_a nacks_a) := by
  unfold State.avsCommand
  extract_lets +onlyGivenNames x1
  have hx1 : Kept s_a x1 := by
    subst x1
    refine Kept.foldl (fun u2 x3 => ?_) ?_
    · refine Kept.seq (State.emit_kept ..) ?_
      exact Kept.refl _
    · exact Kept.refl _
  clear_value x1
  refine Kept.ite ?_ ?_
  · refine Kept.seq (Kept.upd (s := x1) rfl rfl rfl rfl rfl rfl rfl rfl rfl rfl rfl) ?_
    exact hx1
  · refine Kept.seq (Kept.upd (s := x1) rfl rfl rfl rfl rfl rfl rfl rfl rfl rfl rfl) ?_
    exact hx1

theorem State.avsStart_kept (s_a linear_a nacks_a) : Kept s_a (State.avsStart s_a linear_a nacks_a) := by
  unfold State.avsStart
  refine Kept.ite ?_ ?_
  · exact Kept.refl _
  · extract_lets +onlyGivenNames x1
    have hx1 : Kept s_a x1 := by
      subst x1
      refine Kept.seq (State.emit_kept ..) ?_
      exact Kept.refl _
    clear_value x1
    extract_lets +onlyGivenNames x2
    extract_lets +onlyGivenNames x3
    have hx3 : Kept s_a x3 := by
      subst x3
      refine Kept.seq (Kept.upd (s := x1) rfl rfl rfl rfl rfl rfl rfl rfl rfl rfl rfl) ?_
      exact hx1
    clear_value x3
    refine Kept.ite ?_ ?_
    · refine Kept.seq (State.avsCommand_kept ..) ?_
      exact hx3
    · exact hx3

theorem execAvsTargetUpdate_kept (dt_a microvolts_a s_a) : KeptR s_a (execAvsTargetUpdate dt_a microvolts_a s_a) := by
  unfold execAvsTargetUpdate
  refine actIf_kept (hk3 := fun u1 => ?_) ..
  exact Kept.upd rfl rfl rfl rfl rfl rfl rfl rfl rfl rfl rfl

theorem execAvsStep_kept (dt_a nacks_a s_a) : KeptR s_a (execAvsStep dt_a nacks_a s_a) := by
  unfold execAvsStep
  refine actIf_kept (hk3 := fun u1 => ?_) ..
  extract_lets +onlyGivenNames x2
  extract_lets +onlyGivenNames x3
  refine Kept.seq (State.avsCommand_kept ..) ?_
  exact Kept.upd rfl rfl rfl rfl rfl rfl rfl rfl rfl rfl rfl

theorem State.enterRecovery_kept (s_a) : Kept s_a (State.enterRecovery s_a) := by
  unfold State.enterRecovery
  extract_lets +onlyGivenNames x1
  have hx1 : Kept s_a x1 := by
    subst x1
    refine Kept.ite ?_ ?_
    · refine Kept.seq (State.startRom_kept ..) ?_
      refine Kept.seq (State.fullReset_kept ..) ?_
      exact Kept.refl _
    · exact Kept.refl _
  clear_value x1
  extract_lets +onlyGivenNames x2
  extract_lets +onlyGivenNames x3
  extract_lets +onlyGivenNames x4
  extract_lets +onlyGivenNames x5
  have hx5 : Kept s_a x5 := by
    subst x5
    refine Kept.seq (Kept.upd (s := x1) rfl rfl rfl rfl rfl rfl rfl rfl rfl rfl rfl) ?_
    exact hx1
  clear_value x5
  refine Kept.seq (State.ctlStart_kept ..) ?_
  exact hx5

theorem State.recordStart_kept (s_a) : Kept s_a (State.recordStart s_a) := by
  unfold State.recordStart
  extract_lets +onlyGivenNames x1
  extract_lets +onlyGivenNames x2
  have hx2 : Kept s_a x2 := by
    subst x2
    refine Kept.seq (State.flashJournal_kept ..) ?_
    refine Kept.seq (State.setN_kept ..) ?_
    exact Kept.refl _
  clear_value x2
  extract_lets +onlyGivenNames x3
  have hx3 : Kept s_a x3 := by
    subst x3
    refine Kept.seq (State.journalRestart_kept ..) ?_
    exact hx2
  clear_value x3
  refine Kept.ite ?_ ?_
  · refine Kept.seq (State.raise_kept ..) ?_
    exact hx3
  · exact hx3

theorem State.fallBack_kept (s_a) : Kept s_a (State.fallBack s_a) := by
  unfold State.fallBack
  refine Kept.seq (State.raise_kept ..) ?_
  exact Kept.upd rfl rfl rfl rfl rfl rfl rfl rfl rfl rfl rfl

theorem State.bootControl_kept (s : State) : Kept s s.bootControl := by
  unfold State.bootControl
  extract_lets +onlyGivenNames u c src t
  refine Kept.ite ?_ (Kept.ite ?_ (Kept.ite ?_ (Kept.refl s)))
  · exact (State.setN_kept ..).seq (Kept.upd rfl rfl rfl rfl rfl rfl rfl rfl rfl rfl rfl)
  · have ht : Kept s t := Kept.seq (t := s.setN Obj.updateState 0 0)
      (Kept.upd rfl rfl rfl rfl rfl rfl rfl rfl rfl rfl rfl) (State.setN_kept ..)
    clear_value t
    exact Kept.ite ht ((State.fallBack_kept ..).seq ht)
  · exact (State.fallBack_kept ..).seq (Kept.upd rfl rfl rfl rfl rfl rfl rfl rfl rfl rfl rfl)

theorem State.loadPatch_kept (s_a) : Kept s_a (State.loadPatch s_a) := by
  unfold State.loadPatch
  extract_lets +onlyGivenNames x1
  extract_lets +onlyGivenNames x2
  extract_lets +onlyGivenNames x3
  extract_lets +onlyGivenNames x4
  extract_lets +onlyGivenNames x5
  have hx5 : Kept s_a x5 := by
    subst x5
    exact Kept.upd rfl rfl rfl rfl rfl rfl rfl rfl rfl rfl rfl
  clear_value x5
  refine Kept.seq (Kept.upd (s := x5) rfl rfl rfl rfl rfl rfl rfl rfl rfl rfl rfl) ?_
  exact hx5

theorem State.lostBurns_kept (s_a) : Kept s_a (State.lostBurns s_a) := by
  unfold State.lostBurns
  refine Kept.foldl (fun u1 x2 => ?_) ?_
  · refine Kept.ite ?_ ?_
    · refine Kept.seq (State.raise_kept ..) ?_
      exact Kept.upd rfl rfl rfl rfl rfl rfl rfl rfl rfl rfl rfl
    · exact Kept.refl _
  · exact Kept.refl _

theorem State.latchTwin_kept (s_a) : Kept s_a (State.latchTwin s_a) := by
  unfold State.latchTwin
  refine Kept.ite ?_ ?_
  · refine Kept.seq (State.setN_kept ..) ?_
    refine Kept.seq (State.setN_kept ..) ?_
    refine Kept.seq (State.setN_kept ..) ?_
    exact Kept.refl _
  · exact Kept.refl _

theorem State.chooseUpland_kept {s t : State} (h : s.chooseUpland = some t) : Kept s t := by
  unfold State.chooseUpland at h
  extract_lets +onlyGivenNames k trial c src u at h
  have hu : Kept s u := by
    unfold u
    exact Kept.ite ((State.setN_kept ..).seq (Kept.upd rfl rfl rfl rfl rfl rfl rfl rfl rfl rfl rfl)) (Kept.refl s)
  clear_value u
  split at h
  · cases h; exact Kept.refl s
  · split at h
    · cases h
    · split at h
      · cases h
        exact (State.fallBack_kept ..).seq (Kept.seq (t := u) (Kept.upd rfl rfl rfl rfl rfl rfl rfl rfl rfl rfl rfl) hu)
      · cases h

theorem State.releasePerst_kept (s_a) : Kept s_a (State.releasePerst s_a) := by
  unfold State.releasePerst
  refine Kept.foldl (fun u1 x2 => ?_) ?_
  · refine Kept.seq (State.emit_kept ..) ?_
    exact Kept.refl _
  · exact Kept.refl _

theorem State.loadUpland_kept (s : State) : Kept s s.loadUpland := by
  unfold State.loadUpland
  split
  · rename_i t h
    exact Kept.seq (t := t.recordStart) (Kept.upd rfl rfl rfl rfl rfl rfl rfl rfl rfl rfl rfl)
      ((State.recordStart_kept ..).seq (State.chooseUpland_kept h))
  · exact (State.enterRecovery_kept ..).seq (State.recordStart_kept ..)

theorem execRomStageEnd_kept (dt_a avsLinear_a avsNacks_a s_a) : KeptR s_a (execRomStageEnd dt_a avsLinear_a avsNacks_a s_a) := by
  unfold execRomStageEnd
  refine actIf_kept (hk3 := fun u1 => ?_) ..
  extract_lets +onlyGivenNames x2
  have hx2 : Kept u1 x2 := by
    subst x2
    refine Kept.ite ?_ ?_
    · exact Kept.refl _
    · refine Kept.seq (State.avsStart_kept ..) ?_
      exact Kept.refl _
  clear_value x2
  extract_lets +onlyGivenNames x3
  have hx3 : Kept u1 x3 := by
    subst x3
    refine Kept.seq (State.lostBurns_kept ..) ?_
    refine Kept.seq (State.bootControl_kept ..) ?_
    exact hx2
  clear_value x3
  refine Kept.ite ?_ ?_
  · refine Kept.seq (State.enterRecovery_kept ..) ?_
    refine Kept.seq (State.recordStart_kept ..) ?_
    exact hx3
  · extract_lets +onlyGivenNames x4
    have hx4 : Kept u1 x4 := by
      subst x4
      refine Kept.seq (State.latchTwin_kept ..) ?_
      refine Kept.seq (State.loadPatch_kept ..) ?_
      exact hx3
    clear_value x4
    extract_lets +onlyGivenNames x5
    extract_lets +onlyGivenNames x6
    have hx6 : Kept u1 x6 := by
      subst x6
      refine Kept.seq (Kept.upd (s := x4) rfl rfl rfl rfl rfl rfl rfl rfl rfl rfl rfl) ?_
      exact hx4
    clear_value x6
    refine Kept.ite ?_ ?_
    · refine Kept.seq (State.loadUpland_kept ..) ?_
      exact hx6
    · exact hx6

theorem execHbmReady_kept (dt_a hbms_a s_a) : KeptR s_a (execHbmReady dt_a hbms_a s_a) := by
  unfold execHbmReady
  refine actIf_kept (hk3 := fun u1 => ?_) ..
  refine Kept.ite ?_ ?_
  · refine Kept.seq (State.loadUpland_kept ..) ?_
    refine Kept.seq (State.releasePerst_kept ..) ?_
    exact Kept.refl _
  · extract_lets +onlyGivenNames x2
    extract_lets +onlyGivenNames x3
    have hx3 : Kept u1 x3 := by
      subst x3
      refine Kept.seq (State.setReason_kept ..) ?_
      exact Kept.upd rfl rfl rfl rfl rfl rfl rfl rfl rfl rfl rfl
    clear_value x3
    refine Kept.seq (State.loadUpland_kept ..) ?_
    exact hx3

theorem State.restoreChecks_kept (s_a) : Kept s_a (State.restoreChecks s_a) := by
  unfold State.restoreChecks
  extract_lets +onlyGivenNames x1
  extract_lets +onlyGivenNames x2
  extract_lets +onlyGivenNames x3
  extract_lets +onlyGivenNames x4
  extract_lets +onlyGivenNames x5
  have hx5 : Kept s_a x5 := by
    subst x5
    exact Kept.upd rfl rfl rfl rfl rfl rfl rfl rfl rfl rfl rfl
  clear_value x5
  extract_lets +onlyGivenNames x6
  have hx6 : Kept s_a x6 := by
    subst x6
    refine Kept.foldl (fun u7 x8 => ?_) ?_
    · refine Kept.seq (State.addReport_kept ..) ?_
      exact Kept.refl _
    · exact hx5
  clear_value x6
  refine Kept.ite ?_ ?_
  · exact hx6
  · refine Kept.seq (State.raise_kept ..) ?_
    exact hx6

theorem State.meetLoaded_kept (s_a old_a) : Kept s_a (State.meetLoaded s_a old_a) := by
  unfold State.meetLoaded
  refine Kept.foldl (fun u1 x2 => ?_) ?_
  · refine Kept.ite ?_ ?_
    · refine Kept.seq (State.written_kept ..) ?_
      exact Kept.refl _
    · exact Kept.refl _
  · exact Kept.refl _

theorem State.restoreSsrcs_kept (s_a) : Kept s_a (State.restoreSsrcs s_a) := by
  unfold State.restoreSsrcs
  extract_lets +onlyGivenNames x1
  refine Kept.foldl (fun u2 x3 => ?_) ?_
  · refine Kept.ite ?_ ?_
    · exact Kept.refl _
    · refine Kept.seq (State.setTxe_kept ..) ?_
      exact Kept.refl _
  · exact Kept.refl _

theorem State.clearRestart_kept (s_a) : Kept s_a (State.clearRestart s_a) := by
  unfold State.clearRestart
  refine Kept.foldl (fun u1 x2 => ?_) ?_
  · refine Kept.seq (State.toDefault_kept ..) ?_
    exact Kept.refl _
  · exact Kept.refl _

theorem State.loadSettings_kept (s_a) : Kept s_a (State.loadSettings s_a) := by
  unfold State.loadSettings
  extract_lets +onlyGivenNames x1
  extract_lets +onlyGivenNames x2
  have hx2 : Kept s_a x2 := by
    subst x2
    refine Kept.seq (State.clearRestart_kept ..) ?_
    exact Kept.refl _
  clear_value x2
  extract_lets +onlyGivenNames x3
  extract_lets +onlyGivenNames x4
  have hx4 : Kept s_a x4 := by
    subst x4
    refine Kept.seq (State.loadStore_kept ..) ?_
    refine Kept.seq (Kept.upd (s := x2) rfl rfl rfl rfl rfl rfl rfl rfl rfl rfl rfl) ?_
    exact hx2
  clear_value x4
  extract_lets +onlyGivenNames x5
  have hx5 : Kept s_a x5 := by
    subst x5
    refine Kept.seq (State.bump_kept ..) ?_
    exact hx4
  clear_value x5
  extract_lets +onlyGivenNames x6
  have hx6 : Kept s_a x6 := by
    subst x6
    refine Kept.ite ?_ ?_
    · exact hx5
    · refine Kept.seq (State.restoreSsrcs_kept ..) ?_
      refine Kept.seq (State.meetLoaded_kept ..) ?_
      exact hx5
  clear_value x6
  extract_lets +onlyGivenNames x7
  have hx7 : Kept s_a x7 := by
    subst x7
    refine Kept.ite ?_ ?_
    · refine Kept.seq (State.formSaddle_kept ..) ?_
      exact hx6
    · exact hx6
  clear_value x7
  extract_lets +onlyGivenNames x8
  have hx8 : Kept s_a x8 := by
    subst x8
    refine Kept.ite ?_ ?_
    · refine Kept.seq (State.raise_kept ..) ?_
      exact hx7
    · exact hx7
  clear_value x8
  extract_lets +onlyGivenNames x9
  refine Kept.ite ?_ ?_
  · refine Kept.seq (State.startSave_kept ..) ?_
    exact hx8
  · exact hx8

theorem State.openControl_kept (s_a) : Kept s_a (State.openControl s_a) := by
  unfold State.openControl
  extract_lets +onlyGivenNames x1
  have hx1 : Kept s_a x1 := by
    subst x1
    refine Kept.seq (State.refreshProvision_kept ..) ?_
    refine Kept.seq (State.ctlStart_kept ..) ?_
    refine Kept.seq (State.ctlStart_kept ..) ?_
    exact Kept.refl _
  clear_value x1
  refine Kept.seq (Kept.upd (s := x1) rfl rfl rfl rfl rfl rfl rfl rfl rfl rfl rfl) ?_
  exact hx1

theorem State.enterUpland_kept (s_a) : Kept s_a (State.enterUpland s_a) := by
  unfold State.enterUpland
  extract_lets +onlyGivenNames x1
  exact Kept.upd rfl rfl rfl rfl rfl rfl rfl rfl rfl rfl rfl

theorem State.bootUpland_kept (s_a) : Kept s_a (State.bootUpland s_a) := by
  unfold State.bootUpland
  extract_lets +onlyGivenNames x1
  have hx1 : Kept s_a x1 := by
    subst x1
    refine Kept.seq (State.enterUpland_kept ..) ?_
    exact Kept.refl _
  clear_value x1
  extract_lets +onlyGivenNames x2
  extract_lets +onlyGivenNames x3
  have hx3 : Kept s_a x3 := by
    subst x3
    refine Kept.seq (Kept.upd (s := x1) rfl rfl rfl rfl rfl rfl rfl rfl rfl rfl rfl) ?_
    exact hx1
  clear_value x3
  extract_lets +onlyGivenNames x4
  have hx4 : Kept s_a x4 := by
    subst x4
    refine Kept.seq (State.loadSettings_kept ..) ?_
    exact hx3
  clear_value x4
  extract_lets +onlyGivenNames x5
  have hx5 : Kept s_a x5 := by
    subst x5
    refine Kept.ite ?_ ?_
    · exact hx4
    · refine Kept.seq (State.releasePerst_kept ..) ?_
      exact hx4
  clear_value x5
  extract_lets +onlyGivenNames x6
  have hx6 : Kept s_a x6 := by
    subst x6
    refine Kept.seq (State.openControl_kept ..) ?_
    exact hx5
  clear_value x6
  refine Kept.ite ?_ ?_
  · exact hx6
  · refine Kept.seq (State.restoreChecks_kept ..) ?_
    exact hx6

theorem State.reenterUpland_kept (s : State) : Kept s s.reenterUpland := by
  unfold State.reenterUpland
  split
  · rename_i t h
    exact (State.openControl_kept ..).seq ((State.enterUpland_kept ..).seq
      (Kept.seq (t := t) (Kept.upd rfl rfl rfl rfl rfl rfl rfl rfl rfl rfl rfl) (State.chooseUpland_kept h)))
  · exact (State.hardRestart_kept ..).seq (Kept.upd rfl rfl rfl rfl rfl rfl rfl rfl rfl rfl rfl)

theorem execUplandEntered_kept (dt_a s_a) : KeptR s_a (execUplandEntered dt_a s_a) := by
  unfold execUplandEntered
  refine act_kept (hk2 := fun u1 => ?_) ..
  refine Kept.ite ?_ ?_
  · refine Kept.seq (State.bootUpland_kept ..) ?_
    exact Kept.refl _
  · refine Kept.ite ?_ ?_
    · refine Kept.seq (State.reenterUpland_kept ..) ?_
      exact Kept.refl _
    · exact Kept.refl _

theorem State.restoreCommit_kept (s : State) (b : Nat) : Kept s (s.restoreCommit b) := by
  unfold State.restoreCommit
  extract_lets +onlyGivenNames l rejected src t u v
  have ht : Kept s t := Kept.ofObjs rfl rfl rfl (Objs.overlay_wf _ _) rfl rfl rfl rfl rfl rfl rfl
  clear_value t
  have hv : Kept s v := (State.raise_kept ..).seq ((State.meetCommit_kept ..).seq ((State.markRoutes_kept ..).seq ht))
  clear_value v
  exact Kept.ite ((State.raise_kept ..).seq hv) hv

theorem execWatchdogExpiry_kept (dt_a s_a) : KeptR s_a (execWatchdogExpiry dt_a s_a) := by
  unfold execWatchdogExpiry
  refine actIf_kept (hk3 := fun u1 => ?_) ..
  refine Kept.seq (State.hardRestart_kept ..) ?_
  exact Kept.refl _

theorem State.proceedSoft_kept (s_a) : Kept s_a (State.proceedSoft s_a) := by
  unfold State.proceedSoft
  extract_lets +onlyGivenNames x1
  have hx1 : Kept s_a x1 := by
    subst x1
    refine Kept.seq (State.completeSaves_kept ..) ?_
    exact Kept.refl _
  clear_value x1
  extract_lets +onlyGivenNames x2
  have hx2 : Kept s_a x2 := by
    subst x2
    refine Kept.foldl (fun u3 x4 => ?_) ?_
    · refine Kept.seq (State.answerFor_kept ..) ?_
      exact Kept.refl _
    · exact hx1
  clear_value x2
  refine Kept.seq (State.startSoft_kept ..) ?_
  refine Kept.seq (State.endSessions_kept ..) ?_
  refine Kept.seq (State.completeSaves_kept ..) ?_
  refine Kept.seq (State.startSave_kept ..) ?_
  exact hx2

theorem State.requestSoft_kept (s_a a_a) : Kept s_a (State.requestSoft s_a a_a) := by
  unfold State.requestSoft
  extract_lets +onlyGivenNames x1
  extract_lets +onlyGivenNames x2
  have hx2 : Kept s_a x2 := by
    subst x2
    exact Kept.upd rfl rfl rfl rfl rfl rfl rfl rfl rfl rfl rfl
  clear_value x2
  refine Kept.ite ?_ ?_
  · exact hx2
  · refine Kept.seq (State.proceedSoft_kept ..) ?_
    exact hx2

theorem State.requestHard_kept (s_a a_a) : Kept s_a (State.requestHard s_a a_a) := by
  unfold State.requestHard
  extract_lets +onlyGivenNames x1
  have hx1 : Kept s_a x1 := by
    subst x1
    refine Kept.seq (State.completeSaves_kept ..) ?_
    exact Kept.refl _
  clear_value x1
  extract_lets +onlyGivenNames x2
  have hx2 : Kept s_a x2 := by
    subst x2
    refine Kept.optElim (fun x3 => ?_) ?_
    · refine Kept.seq (State.answerFor_kept ..) ?_
      exact hx1
    · exact hx1
  clear_value x2
  refine Kept.seq (State.hardRestart_kept ..) ?_
  refine Kept.seq (State.endSessions_kept ..) ?_
  exact hx2

theorem execSoftRestartProceed_kept (dt_a s_a) : KeptR s_a (execSoftRestartProceed dt_a s_a) := by
  unfold execSoftRestartProceed
  refine actIf_kept (hk3 := fun u1 => ?_) ..
  refine Kept.seq (State.proceedSoft_kept ..) ?_
  exact Kept.refl _

theorem State.monitorReason_kept (s_a k_a set_a clear_a event_a subject_a) : Kept s_a (State.monitorReason s_a k_a set_a clear_a event_a subject_a) := by
  unfold State.monitorReason
  extract_lets +onlyGivenNames x1
  refine Kept.ite ?_ ?_
  · refine Kept.seq (State.raise_kept ..) ?_
    refine Kept.seq (State.setReason_kept ..) ?_
    exact Kept.refl _
  · refine Kept.ite ?_ ?_
    · refine Kept.seq (State.setReason_kept ..) ?_
      exact Kept.refl _
    · exact Kept.refl _

theorem execHealthMonitorSample_kept (dt_a temp_a margins_a hbmTemps_a s_a) : KeptR s_a (execHealthMonitorSample dt_a temp_a margins_a hbmTemps_a s_a) := by
  unfold execHealthMonitorSample
  refine act_kept (hk2 := fun u1 => ?_) ..
  extract_lets +onlyGivenNames x2
  extract_lets +onlyGivenNames x3
  have hx3 : Kept u1 x3 := by
    subst x3
    refine Kept.seq (State.setI_kept ..) ?_
    refine Kept.seq (State.setI_kept ..) ?_
    exact Kept.refl _
  clear_value x3
  extract_lets +onlyGivenNames x4
  have hx4 : Kept u1 x4 := by
    subst x4
    refine Kept.foldl (fun u5 x6 => ?_) ?_
    · refine Kept.seq (State.setI_kept ..) ?_
      exact Kept.refl _
    · exact hx3
  clear_value x4
  extract_lets +onlyGivenNames x7
  extract_lets +onlyGivenNames x8
  have hx8 : Kept u1 x8 := by
    subst x8
    refine Kept.seq (Kept.upd (s := x4) rfl rfl rfl rfl rfl rfl rfl rfl rfl rfl rfl) ?_
    exact hx4
  clear_value x8
  extract_lets +onlyGivenNames x9
  have hx9 : Kept u1 x9 := by
    subst x9
    refine Kept.seq (State.monitorReason_kept ..) ?_
    exact hx8
  clear_value x9
  extract_lets +onlyGivenNames x10
  have hx10 : Kept u1 x10 := by
    subst x10
    refine Kept.seq (State.monitorReason_kept ..) ?_
    exact hx9
  clear_value x10
  refine Kept.seq (State.monitorReason_kept ..) ?_
  exact hx10

theorem State.clearHealth_kept (s_a) : Kept s_a (State.clearHealth s_a) := by
  unfold State.clearHealth
  refine Kept.seq (State.toDefault_kept ..) ?_
  refine Kept.seq (State.setReason_kept ..) ?_
  refine Kept.seq (State.setReason_kept ..) ?_
  exact Kept.refl _

end Sys2Proof.Machine
end

