-- ==== Sys2Proof/Laws/KeptBoundary.lean ====
section
/-!
SUPPORT. That the functions of Machine/Boundary.lean keep the queue, never turn time back and keep a sound state sound
(`Kept` of Laws/Kept.lean).
-/
namespace Sys2Proof.Machine

theorem State.restoreAt_kept (s_a b_a) : Kept s_a (State.restoreAt s_a b_a) := by
  unfold State.restoreAt
  refine Kept.seq (State.onlyIf_kept (hk2 := fun u1 => ?_) ..) ?_
  · refine Kept.seq (State.restoreCommit_kept ..) ?_
    exact Kept.refl _
  · exact Kept.refl _

theorem State.runBoundary_kept (s_a b_a) : Kept s_a (State.runBoundary s_a b_a) := by
  unfold State.runBoundary
  split
  rename_i v1 t2 e3
  have ht2 : Kept s_a t2 := by
    refine Kept.snd e3 ?_
    split
    · refine Kept.seq (State.decideRole_kept ..) ?_
      exact Kept.refl _
    · refine Kept.mk2 ?_
      exact Kept.refl _
  extract_lets +onlyGivenNames x4
  have hx4 : Kept s_a x4 := by
    subst x4
    refine Kept.seq (State.executeBoundary_kept ..) ?_
    refine Kept.seq (State.countStale_kept ..) ?_
    exact ht2
  clear_value x4
  extract_lets +onlyGivenNames x5
  have hx5 : Kept s_a x5 := by
    subst x5
    split
    · refine Kept.seq (State.takeover_kept ..) ?_
      exact hx4
    · refine Kept.seq (State.demote_kept ..) ?_
      exact hx4
    · exact hx4
  clear_value x5
  extract_lets +onlyGivenNames x6
  have hx6 : Kept s_a x6 := by
    subst x6
    refine Kept.seq (State.restoreAt_kept ..) ?_
    exact hx5
  clear_value x6
  refine Kept.seq (State.firnGrants_kept ..) ?_
  exact hx6

theorem execHouseFrameBoundary_kept (dt_a s_a) : KeptR s_a (execHouseFrameBoundary dt_a s_a) := by
  unfold execHouseFrameBoundary
  refine actIf_kept (hk3 := fun u1 => ?_) ..
  extract_lets +onlyGivenNames x2
  extract_lets +onlyGivenNames x3
  extract_lets +onlyGivenNames x4
  have hx4 : Kept u1 x4 := by
    subst x4
    exact Kept.upd rfl rfl rfl rfl rfl rfl rfl rfl rfl rfl rfl
  clear_value x4
  extract_lets +onlyGivenNames x5
  have hx5 : Kept u1 x5 := by
    subst x5
    refine Kept.ite ?_ ?_
    · refine Kept.seq (State.runBoundary_kept ..) ?_
      exact hx4
    · refine Kept.seq (State.restoreAt_kept ..) ?_
      exact hx4
  clear_value x5
  refine Kept.seq (State.toggleHealth_kept ..) ?_
  refine Kept.seq (State.onlyIf_kept (hk2 := fun u6 => ?_) ..) ?_
  · refine Kept.seq (State.refreshTwin_kept ..) ?_
    exact Kept.refl _
  · exact hx5

end Sys2Proof.Machine
end

