-- ==== Sys2Proof/Laws/KeptWrites.lean ====
section
/-!
SUPPORT. That the functions of Machine/Writes.lean keep the queue, never turn time back and keep a sound state sound
(`Kept` of Laws/Kept.lean).
-/
namespace Sys2Proof.Machine

theorem State.clearBeside_kept (s_a i_a n_a) : Kept s_a (State.clearBeside s_a i_a n_a) := by
  unfold State.clearBeside
  split
  · refine Kept.seq (State.setStrip_kept ..) ?_
    exact Kept.refl _
  · refine Kept.seq (State.setBus_kept ..) ?_
    exact Kept.refl _
  · refine Kept.seq (State.setAout_kept ..) ?_
    exact Kept.refl _
  · refine Kept.seq (State.setRxe_kept ..) ?_
    exact Kept.refl _
  · refine Kept.seq (State.clearRegs_kept ..) ?_
    exact Kept.refl _
  · refine Kept.foldl (fun u1 x2 => ?_) ?_
    · refine Kept.seq (State.setRegN_kept ..) ?_
      exact Kept.refl _
    · exact Kept.refl _
  · refine Kept.seq (State.clearHistory_kept ..) ?_
    exact Kept.refl _
  · refine Kept.seq (State.clearPhaseHistogram_kept ..) ?_
    exact Kept.refl _
  · refine Kept.seq (State.monClear_kept ..) ?_
    exact Kept.refl _
  · exact Kept.refl _

theorem State.clearObject_kept (s_a i_a n_a) : Kept s_a (State.clearObject s_a i_a n_a) := by
  unfold State.clearObject
  extract_lets +onlyGivenNames x1
  have hx1 : Kept s_a x1 := by
    subst x1
    refine Kept.seq (State.clearCounters_kept ..) ?_
    exact Kept.refl _
  clear_value x1
  extract_lets +onlyGivenNames x2
  have hx2 : Kept s_a x2 := by
    subst x2
    refine Kept.foldl (fun u3 x4 => ?_) ?_
    · refine Kept.foldl (fun u5 x6 => ?_) ?_
      · refine Kept.seq (State.clearCounter_kept ..) ?_
        exact Kept.refl _
      · exact Kept.refl _
    · exact hx1
  clear_value x2
  refine Kept.seq (State.clearBeside_kept ..) ?_
  exact hx2

theorem State.trigger_kept (s : State) (i n : Nat) (v : Val) : Kept s (s.trigger i n v) := by
  unfold State.trigger
  extract_lets +onlyGivenNames x b
  clear_value x b
  refine Kept.ite (State.gfxOffset_kept ..) (Kept.ite (State.gfxData_kept ..) (Kept.ite (State.shaperData_kept ..)
    (Kept.ite (State.lutOffset_kept ..) (Kept.ite (State.lutData_kept ..) (Kept.ite (State.timeSet_kept ..)
    (Kept.ite (Kept.ite (State.trainRequest_kept ..) (Kept.refl s)) (Kept.ite (Kept.refl s)
    (Kept.ite (State.dropModel_kept ..) (Kept.ite (State.slipLane_kept ..) (Kept.ite (State.saddleRestart_kept ..)
    (Kept.ite (State.morFormat_kept ..) (Kept.ite (State.clipDelete_kept ..) (Kept.ite (State.clearHealth_kept ..)
    (Kept.ite ?_ (Kept.ite (State.evPinAck_kept ..) (Kept.ite (State.confirm_kept ..)
    (State.clearObject_kept ..)))))))))))))))))
  exact Kept.less rfl rfl rfl rfl rfl rfl rfl (Nat.le_refl _) (Nat.le_refl _) (Nat.zero_le _) (Nat.le_refl _)

theorem State.applyNow_kept (s_a a_a v_a) : Kept s_a (State.applyNow s_a a_a v_a) := by
  unfold State.applyNow
  refine Kept.ite ?_ ?_
  · refine Kept.seq (State.putNow_kept ..) ?_
    exact Kept.refl _
  · refine Kept.seq (State.trigger_kept ..) ?_
    exact Kept.refl _

theorem State.writeKey_kept (s_a role_a key_a) : Kept s_a (State.writeKey s_a role_a key_a) := by
  unfold State.writeKey
  extract_lets +onlyGivenNames x1
  extract_lets +onlyGivenNames x2
  have hx2 : Kept s_a x2 := by
    subst x2
    exact Kept.upd rfl rfl rfl rfl rfl rfl rfl rfl rfl rfl rfl
  clear_value x2
  refine Kept.seq (State.refreshProvision_kept ..) ?_
  refine Kept.seq (State.raise_kept ..) ?_
  refine Kept.seq (State.setN_kept ..) ?_
  exact hx2

theorem State.writeLock_kept (s_a on_a) : Kept s_a (State.writeLock s_a on_a) := by
  unfold State.writeLock
  refine Kept.ite ?_ ?_
  · exact Kept.refl _
  · refine Kept.seq (State.raise_kept ..) ?_
    refine Kept.seq (State.setN_kept ..) ?_
    refine Kept.seq (State.setB_kept ..) ?_
    exact Kept.refl _

theorem State.programKey_kept (s_a hash_a) : Kept s_a (State.programKey s_a hash_a) := by
  unfold State.programKey
  split
  · refine Kept.seq (State.raise_kept ..) ?_
    exact Kept.upd rfl rfl rfl rfl rfl rfl rfl rfl rfl rfl rfl
  · exact Kept.refl _

theorem State.revokeKey_kept (s_a k_a) : Kept s_a (State.revokeKey s_a k_a) := by
  unfold State.revokeKey
  refine Kept.seq (State.raise_kept ..) ?_
  exact Kept.upd rfl rfl rfl rfl rfl rfl rfl rfl rfl rfl rfl

theorem Written.wrote_state (w : Written) (x : After) : (Written.wrote w x).state = w.2 := by
  unfold Written.wrote
  split <;> rfl

/-- What a write that may not be one of these keeps. -/
def KeptW (s : State) (o : Option Wrote) : Prop := ∀ w, o = some w → Kept s w.state

theorem KeptW.ite {p : Prop} [Decidable p] {s : State} {a b : Option Wrote} (h : KeptW s a) (g : KeptW s b) :
    KeptW s (if p then a else b) := by
  split
  · exact h
  · exact g

theorem KeptW.some {s : State} {w : Wrote} (h : Kept s w.state) : KeptW s (some w) := fun _ e => by cases e; exact h

theorem KeptW.written {s : State} {w : Written} {x : After} (h : Kept s w.2) : KeptW s (Option.some (Written.wrote w x)) :=
  KeptW.some (by rw [Written.wrote_state]; exact h)

theorem KeptW.when {p : Prop} [Decidable p] {s : State} {w : Written} {x : After} (h : Kept s w.2) :
    KeptW s (Option.some (if p then Written.wrote w x else s.wrote)) := KeptW.some (by
  split
  · rw [Written.wrote_state]; exact h
  · exact Kept.refl s)

theorem State.ownWrite_kept (s : State) (session a : Nat) (v : Val) : KeptW s (s.ownWrite session a v) := by
  unfold State.ownWrite
  extract_lets +onlyGivenNames i x b
  clear_value i x b
  refine .ite (.some (State.writeKey_kept ..)) (.ite (.some (State.writeLock_kept ..)) (.ite (.some (State.programKey_kept ..))
    (.ite (.some (State.revokeKey_kept ..)) (.ite (.some ?_) (.ite (.some (Kept.refl s)) (.ite (.some (Kept.refl s))
    (.ite (.written (State.updateBegin_kept ..)) (.ite (.written (State.updateData_kept ..))
    (.ite (.when (State.updateCommit_kept ..)) (.ite (.when (State.updateActivate_kept ..))
    (.ite (.when (State.updateAbort_kept ..)) ?_)))))))))))
  · exact Kept.optElim (fun _ => State.setSession_kept ..) (Kept.refl s)
  · exact fun _ e => by cases e

theorem State.classEffect_kept (s_a a_a v_a c_a) : Kept s_a (State.classEffect s_a a_a v_a c_a) := by
  unfold State.classEffect
  split
  · exact Kept.refl _
  · exact Kept.upd rfl rfl rfl rfl rfl rfl rfl rfl rfl rfl rfl
  · refine Kept.seq (State.applyNow_kept ..) ?_
    exact Kept.refl _

theorem State.classWrite_kept (s : State) (a : Nat) (v : Val) (k : Commit) : Kept s (s.classWrite a v k).state := by
  unfold State.classWrite
  split
  · exact Kept.refl s
  · split
    · exact Kept.refl s
    · exact (State.logWrite_kept ..).seq (State.classEffect_kept ..)

theorem State.writeItem_kept (s : State) (session role a : Nat) (value : List Byte) :
    Kept s (s.writeItem session role a value).state := by
  unfold State.writeItem
  split
  · exact Kept.refl s
  · split
    · split
      · rw [Written.wrote_state]; exact State.updateRefuse_kept ..
      · exact Kept.refl s
    · split
      · next h => exact State.ownWrite_kept _ _ _ _ _ h
      · exact State.classWrite_kept ..

theorem State.saveSoon_kept (s_a) : Kept s_a (State.saveSoon s_a) := by
  unfold State.saveSoon
  refine Kept.ite ?_ ?_
  · refine Kept.seq (State.startSave_kept ..) ?_
    exact Kept.refl _
  · exact Kept.refl _

theorem State.activateNow_kept (s_a) : Kept s_a (State.activateNow s_a) := by
  unfold State.activateNow
  extract_lets +onlyGivenNames x1
  refine Kept.seq (State.hardRestart_kept ..) ?_
  refine Kept.seq (State.endSessions_kept ..) ?_
  refine Kept.seq (State.completeSaves_kept ..) ?_
  exact Kept.refl _

theorem State.followWrite_kept (s_a x_a a_a) : Kept s_a (State.followWrite s_a x_a a_a) := by
  unfold State.followWrite
  split
  · exact Kept.refl _
  · exact Kept.refl _
  · refine Kept.seq (State.emit_kept ..) ?_
    exact Kept.upd rfl rfl rfl rfl rfl rfl rfl rfl rfl rfl rfl
  · refine Kept.seq (State.saveSoon_kept ..) ?_
    exact Kept.upd rfl rfl rfl rfl rfl rfl rfl rfl rfl rfl rfl
  · refine Kept.seq (State.endRole_kept ..) ?_
    exact Kept.refl _
  · refine Kept.seq (State.activateNow_kept ..) ?_
    exact Kept.refl _
  · refine Kept.seq (State.requestSoft_kept ..) ?_
    exact Kept.refl _
  · refine Kept.seq (State.requestHard_kept ..) ?_
    exact Kept.refl _

theorem State.finish_kept (s_a a_a afters_a) : Kept s_a (State.finish s_a a_a afters_a) := by
  unfold State.finish
  extract_lets +onlyGivenNames x1
  extract_lets +onlyGivenNames x2
  extract_lets +onlyGivenNames x3
  extract_lets +onlyGivenNames x4
  have hx4 : Kept s_a x4 := by
    subst x4
    refine Kept.ite ?_ ?_
    · refine Kept.seq (State.answerFor_kept ..) ?_
      exact Kept.refl _
    · exact Kept.refl _
  clear_value x4
  refine Kept.foldl (fun u5 x6 => ?_) ?_
  · refine Kept.seq (State.followWrite_kept ..) ?_
    exact Kept.refl _
  · exact hx4

theorem State.writeFor_kept (s : State) (asker : Asker) (session role a : Nat) (value : List Byte) :
    Kept s (s.writeFor asker session role a value) := by
  unfold State.writeFor
  extract_lets +onlyGivenNames w
  have hw : Kept s w.state := State.writeItem_kept ..
  clear_value w
  exact Kept.ite ((State.reply_kept ..).seq hw) ((State.finish_kept ..).seq hw)

theorem State.grant_kept (s_a a_a at__a) : Kept s_a (State.grant s_a a_a at__a) := by
  unfold State.grant
  refine Kept.optElim (fun x1 => ?_) ?_
  · refine Kept.seq (State.answerFor_kept ..) ?_
    exact Kept.refl _
  · exact Kept.refl _

theorem State.endThrough_kept (s_a x_a) : Kept s_a (State.endThrough s_a x_a) := by
  unfold State.endThrough
  extract_lets +onlyGivenNames x1
  refine Kept.seq (State.grant_kept ..) ?_
  refine Kept.seq (State.classEffect_kept ..) ?_
  exact Kept.refl _

end Sys2Proof.Machine
end

