-- ==== Sys2Proof/Laws/KeptTwinCopy.lean ====
section
/-!
SUPPORT. That the functions of Machine/TwinCopy.lean keep the queue, never turn time back and keep a sound state sound
(`Kept` of Laws/Kept.lean).
-/
namespace Sys2Proof.Machine

theorem execTwinCopySend_kept (dt_a s_a) : KeptR s_a (execTwinCopySend dt_a s_a) := by
  unfold execTwinCopySend
  refine actIf_kept (hk3 := fun u1 => ?_) ..
  extract_lets +onlyGivenNames x2
  extract_lets +onlyGivenNames x3
  extract_lets +onlyGivenNames x4
  have hx4 : Kept u1 x4 := by
    subst x4
    refine Kept.seq (State.emit_kept ..) ?_
    exact Kept.refl _
  clear_value x4
  refine Kept.seq (State.refreshTwin_kept ..) ?_
  refine Kept.seq (Kept.upd (s := x4) rfl rfl rfl rfl rfl rfl rfl rfl rfl rfl rfl) ?_
  exact hx4

theorem execTwinCopyAck_kept (dt_a s_a) : KeptR s_a (execTwinCopyAck dt_a s_a) := by
  unfold execTwinCopyAck
  refine actIf_kept (hk3 := fun u1 => ?_) ..
  split
  · exact Kept.refl _
  · extract_lets +onlyGivenNames x2
    extract_lets +onlyGivenNames x3
    extract_lets +onlyGivenNames x4
    have hx4 : Kept u1 x4 := by
      subst x4
      exact Kept.upd rfl rfl rfl rfl rfl rfl rfl rfl rfl rfl rfl
    clear_value x4
    extract_lets +onlyGivenNames x5
    extract_lets +onlyGivenNames x6
    have hx6 : Kept u1 x6 := by
      subst x6
      refine Kept.seq (Kept.upd (s := x4) rfl rfl rfl rfl rfl rfl rfl rfl rfl rfl rfl) ?_
      exact hx4
    clear_value x6
    extract_lets +onlyGivenNames x7
    have hx7 : Kept u1 x7 := by
      subst x7
      refine Kept.seq (State.setN_kept ..) ?_
      exact hx6
    clear_value x7
    extract_lets +onlyGivenNames x8
    extract_lets +onlyGivenNames x9
    have hx9 : Kept u1 x9 := by
      subst x9
      refine Kept.ite ?_ ?_
      · refine Kept.seq (State.raiseTwin_kept ..) ?_
        refine Kept.seq (State.setN_kept ..) ?_
        refine Kept.seq (Kept.upd (s := x7) rfl rfl rfl rfl rfl rfl rfl rfl rfl rfl rfl) ?_
        exact hx7
      · exact hx7
    clear_value x9
    refine Kept.seq (State.refreshTwin_kept ..) ?_
    exact hx9

theorem State.keepRestart_kept (s_a a_a v_a) : Kept s_a (State.keepRestart s_a a_a v_a) := by
  unfold State.keepRestart
  exact Kept.upd rfl rfl rfl rfl rfl rfl rfl rfl rfl rfl rfl

theorem State.keepFrame_kept (s_a w_a) : Kept s_a (State.keepFrame s_a w_a) := by
  unfold State.keepFrame
  refine Kept.ite ?_ ?_
  · exact Kept.refl _
  · exact Kept.upd rfl rfl rfl rfl rfl rfl rfl rfl rfl rfl rfl

theorem State.takeWrite_kept (s_a w_a) : Kept s_a (State.takeWrite s_a w_a) := by
  unfold State.takeWrite
  refine Kept.ite ?_ ?_
  · exact Kept.refl _
  · split
    · refine Kept.seq (State.keepFrame_kept ..) ?_
      exact Kept.refl _
    · refine Kept.seq (State.keepRestart_kept ..) ?_
      exact Kept.refl _
    · refine Kept.seq (State.applyNow_kept ..) ?_
      exact Kept.refl _

theorem State.takeSalvo_kept (s_a cp_a c_a) : Kept s_a (State.takeSalvo s_a cp_a c_a) := by
  unfold State.takeSalvo
  extract_lets +onlyGivenNames x1
  refine Kept.ite ?_ ?_
  · exact Kept.refl _
  · refine Kept.ite ?_ ?_
    · refine Kept.seq (State.setSalvo_kept ..) ?_
      exact Kept.refl _
    · extract_lets +onlyGivenNames x2
      extract_lets +onlyGivenNames x3
      extract_lets +onlyGivenNames x4
      extract_lets +onlyGivenNames x5
      extract_lets +onlyGivenNames x6
      extract_lets +onlyGivenNames x7
      have hx7 : Kept s_a x7 := by
        subst x7
        refine Kept.ite ?_ ?_
        · exact Kept.upd rfl rfl rfl rfl rfl rfl rfl rfl rfl rfl rfl
        · exact Kept.refl _
      clear_value x7
      refine Kept.seq (State.setSalvo_kept ..) ?_
      exact hx7

theorem State.takeExecuted_kept (s_a cp_a c_a) : Kept s_a (State.takeExecuted s_a cp_a c_a) := by
  unfold State.takeExecuted
  extract_lets +onlyGivenNames x1
  refine Kept.ite ?_ ?_
  · exact Kept.refl _
  · refine Kept.seq (State.setSalvo_kept ..) ?_
    exact Kept.refl _

theorem State.takeBlockOf_kept (s_a b_a) : Kept s_a (State.takeBlockOf s_a b_a) := by
  unfold State.takeBlockOf
  refine Kept.ite ?_ ?_
  · exact Kept.refl _
  · refine Kept.ite ?_ ?_
    · exact Kept.upd rfl rfl rfl rfl rfl rfl rfl rfl rfl rfl rfl
    · exact Kept.upd rfl rfl rfl rfl rfl rfl rfl rfl rfl rfl rfl

theorem State.takeTable_kept (s_a x_a) : Kept s_a (State.takeTable s_a x_a) := by
  unfold State.takeTable
  extract_lets +onlyGivenNames x1
  extract_lets +onlyGivenNames x2
  extract_lets +onlyGivenNames x3
  split
  · refine Kept.seq (State.setLayer_kept ..) ?_
    exact Kept.refl _
  · refine Kept.seq (State.setLayer_kept ..) ?_
    exact Kept.refl _
  · refine Kept.seq (State.setStage_kept ..) ?_
    exact Kept.refl _
  · refine Kept.seq (State.tableBits_kept ..) ?_
    refine Kept.seq (State.setStage_kept ..) ?_
    exact Kept.refl _
  · refine Kept.seq (State.setStage_kept ..) ?_
    exact Kept.refl _
  · refine Kept.seq (State.tableBits_kept ..) ?_
    refine Kept.seq (State.setStage_kept ..) ?_
    exact Kept.refl _
  · exact Kept.refl _

theorem resyncObjs_wf (o : Objs) (l : List CopyWrite) (h : storeWf objDefault o = true) :
    storeWf objDefault (resyncObjs o l) = true := Objs.foldSet_wf _ _ _ _ (storeWf_filter _ _ _ h)

theorem State.takeResync_kept (s : State) (x : Copy) : Kept s (s.takeResync x) := by
  unfold State.takeResync
  extract_lets +onlyGivenNames old next local_ waits src t touched u v w
  have ht : Kept s t := Kept.ofObjs rfl rfl rfl (resyncObjs_wf _ _) rfl rfl rfl rfl rfl rfl rfl
  clear_value t
  have hu : Kept s u := Kept.foldl (fun _ _ => State.written_kept ..) ht
  clear_value u
  have hv : Kept s v := (State.meetCommit_kept ..).seq hu
  clear_value v
  exact Kept.foldl (fun _ _ => State.takeTable_kept ..) (Kept.foldl (fun _ _ => State.applyNow_kept ..) hv)

theorem State.applyCopy_kept (s_a b_a c_a) : Kept s_a (State.applyCopy s_a b_a c_a) := by
  unfold State.applyCopy
  extract_lets +onlyGivenNames x1
  have hx1 : Kept s_a x1 := by
    subst x1
    refine Kept.ite ?_ ?_
    · refine Kept.seq (State.takeResync_kept ..) ?_
      exact Kept.refl _
    · refine Kept.foldl (fun u2 x3 => ?_) ?_
      · refine Kept.seq (State.takeWrite_kept ..) ?_
        exact Kept.refl _
      · exact Kept.refl _
  clear_value x1
  extract_lets +onlyGivenNames x4
  have hx4 : Kept s_a x4 := by
    subst x4
    refine Kept.foldl (fun u5 x6 => ?_) ?_
    · refine Kept.seq (State.takeExecuted_kept ..) ?_
      exact Kept.refl _
    · exact hx1
  clear_value x4
  extract_lets +onlyGivenNames x7
  have hx7 : Kept s_a x7 := by
    subst x7
    refine Kept.foldl (fun u8 x9 => ?_) ?_
    · refine Kept.seq (State.takeSalvo_kept ..) ?_
      exact Kept.refl _
    · exact hx4
  clear_value x7
  extract_lets +onlyGivenNames x10
  have hx10 : Kept s_a x10 := by
    subst x10
    refine Kept.seq (State.setN_kept ..) ?_
    refine Kept.seq (State.takeBlockOf_kept ..) ?_
    exact hx7
  clear_value x10
  refine Kept.seq (Kept.upd (s := x10) rfl rfl rfl rfl rfl rfl rfl rfl rfl rfl rfl) ?_
  exact hx10

theorem State.endResync_kept (s_a) : Kept s_a (State.endResync s_a) := by
  unfold State.endResync
  refine Kept.seq (State.raiseTwin_kept ..) ?_
  refine Kept.seq (State.setN_kept ..) ?_
  exact Kept.upd rfl rfl rfl rfl rfl rfl rfl rfl rfl rfl rfl

theorem execTwinCopyReceive_kept (dt_a c_a s_a) : KeptR s_a (execTwinCopyReceive dt_a c_a s_a) := by
  unfold execTwinCopyReceive
  refine actIf_kept (hk3 := fun u1 => ?_) ..
  extract_lets +onlyGivenNames x2
  extract_lets +onlyGivenNames x3
  have hx3 : Kept u1 x3 := by
    subst x3
    refine Kept.seq (State.applyCopy_kept ..) ?_
    exact Kept.refl _
  clear_value x3
  extract_lets +onlyGivenNames x4
  have hx4 : Kept u1 x4 := by
    subst x4
    refine Kept.ite ?_ ?_
    · refine Kept.seq (State.endResync_kept ..) ?_
      exact hx3
    · exact hx3
  clear_value x4
  refine Kept.seq (State.refreshTwin_kept ..) ?_
  refine Kept.seq (State.emit_kept ..) ?_
  exact hx4

theorem State.takeThrough_kept (s_a a_a v_a) : Kept s_a (State.takeThrough s_a a_a v_a) := by
  unfold State.takeThrough
  refine Kept.ite ?_ ?_
  · exact Kept.refl _
  · split
    · refine Kept.seq (State.keepFrame_kept ..) ?_
      exact Kept.refl _
    · refine Kept.seq (State.keepRestart_kept ..) ?_
      exact Kept.refl _
    · refine Kept.seq (State.applyNow_kept ..) ?_
      exact Kept.refl _

theorem State.takeForwarded_kept (s_a words_a) : Kept s_a (State.takeForwarded s_a words_a) := by
  unfold State.takeForwarded
  split
  · refine Kept.seq (State.emit_kept ..) ?_
    refine Kept.seq (State.takeThrough_kept ..) ?_
    exact Kept.refl _
  · exact Kept.refl _

theorem execSaddleMessage_kept (dt_a before_a start_a rest_a s_a) : KeptR s_a (execSaddleMessage dt_a before_a start_a rest_a s_a) := by
  unfold execSaddleMessage
  refine actIf_kept (hk3 := fun u1 => ?_) ..
  extract_lets +onlyGivenNames x2
  have hx2 : Kept u1 x2 := by
    subst x2
    refine Kept.seq (State.hearLines_kept ..) ?_
    exact Kept.refl _
  clear_value x2
  split
  · exact hx2
  · refine Kept.ite ?_ ?_
    · refine Kept.ite ?_ ?_
      · refine Kept.seq (State.takeForwarded_kept ..) ?_
        exact hx2
      · exact hx2
    · refine Kept.seq (State.raiseLimited_kept ..) ?_
      refine Kept.seq (State.bump_kept ..) ?_
      exact hx2

end Sys2Proof.Machine
end

