-- ==== Sys2Proof/Laws/KeptIlril.lean ====
section
/-!
SUPPORT. That the functions of Machine/Ilril.lean keep the queue, never turn time back and keep a sound state sound
(`Kept` of Laws/Kept.lean).
-/
namespace Sys2Proof.Machine

theorem State.setLockouts_kept (s : State) (l : List Lockout) (h : s.il.lockouts.length ≤ 256 → l.length ≤ 256) :
    Kept s (s.setLockouts l) :=
  ⟨rfl, Nat.le_refl _, Nat.le_refl _, fun x => ⟨x.1, x.2.1, x.2.2.1, h x.2.2.2.1, x.2.2.2.2⟩⟩

theorem State.countFailure_kept (s : State) (addr : List Byte) (role : Nat) : Kept s (s.countFailure addr role) := by
  unfold State.countFailure
  extract_lets +onlyGivenNames x failures locks step y t u
  have ht : Kept s t := State.setLockouts_kept _ _ fun _ => by
    simp only [List.length_cons, List.length_take]; omega
  clear_value t
  have hu : Kept s u := (State.raise_kept ..).seq ((State.bump_kept ..).seq ht)
  clear_value u
  exact Kept.ite ((State.raise_kept ..).seq hu) hu

theorem execLockoutEnd_kept (dt : Nat) (addr : List Byte) (s : State) : KeptR s (execLockoutEnd dt addr s) := by
  unfold execLockoutEnd
  exact actIf_kept (hk3 := fun t => State.setLockouts_kept _ _ fun h => by rw [List.length_map]; exact h) ..

theorem execLockoutTimeReset_kept (dt : Nat) (addr : List Byte) (s : State) : KeptR s (execLockoutTimeReset dt addr s) := by
  unfold execLockoutTimeReset
  exact actIf_kept (hk3 := fun t => State.setLockouts_kept _ _ fun h => by rw [List.length_map]; exact h) ..

theorem State.limitRefused_kept (s_a) : Kept s_a (State.limitRefused s_a) := by
  unfold State.limitRefused
  refine Kept.seq (State.raiseLimited_kept ..) ?_
  exact Kept.refl _

theorem State.openChallenge_kept (s : State) (m : Msg) (h : Hello) : Kept s (s.openChallenge m h).2 := by
  unfold State.openChallenge
  split
  rename_i nd t e
  have ht : Kept s t := Kept.snd e (State.drawBytes_kept ..)
  split
  rename_i v u e2
  have hu : Kept s u := (Kept.snd e2 (State.draw_kept ..)).seq ht
  extract_lets +onlyGivenNames live kept handle x
  have hl : live.length ≤ u.il.challenges.length := List.length_filter_le _ _
  clear_value live
  refine Kept.seq (t := u) ⟨rfl, Nat.le_refl _, Nat.le_refl _, fun y => ⟨y.1, y.2.1, ?_, y.2.2.2⟩⟩ hu
  have h8 := y.2.2.1
  show (kept ++ [x]).length ≤ 8
  unfold kept
  rw [List.length_append]
  split
  · rw [List.length_drop]; simp only [List.length_cons, List.length_nil]; omega
  · simp only [List.length_cons, List.length_nil]; omega

theorem State.hello_kept (s_a m_a h_a) : Kept s_a (State.hello s_a m_a h_a).2 := by
  unfold State.hello
  split
  · refine Kept.mk2 ?_
    refine Kept.ite ?_ ?_
    · refine Kept.seq (State.limitRefused_kept ..) ?_
      exact Kept.refl _
    · exact Kept.refl _
  · split
    rename_i v1 t2 e3
    have ht2 := Kept.snd e3 (State.openChallenge_kept ..)
    refine Kept.mk2 ?_
    exact ht2

theorem execIlrilHello_kept (dt : Nat) (m : Msg) (h : Hello) (s : State) : KeptR s (execIlrilHello dt m h s) := by
  unfold execIlrilHello
  refine actIf_kept (hk3 := fun t => ?_) ..
  split
  · exact State.bump_kept ..
  · split
    · next e => exact (State.emit_kept ..).seq (Kept.snd e (State.hello_kept ..))
    · next e => exact (State.emit_kept ..).seq (Kept.snd e (State.hello_kept ..))

theorem State.openSession_kept (s_a c_a key_a) : Kept s_a (State.openSession s_a c_a key_a).2 := by
  unfold State.openSession
  extract_lets +onlyGivenNames x1
  extract_lets +onlyGivenNames x2
  extract_lets +onlyGivenNames x3
  extract_lets +onlyGivenNames x4
  extract_lets +onlyGivenNames x5
  have hx5 : Kept s_a x5 := by
    subst x5
    refine Kept.seq (State.raise_kept ..) ?_
    refine Kept.seq (State.setSession_kept ..) ?_
    exact Kept.refl _
  clear_value x5
  extract_lets +onlyGivenNames x6
  have hx6 : Kept s_a x6 := by
    subst x6
    refine Kept.ite ?_ ?_
    · refine Kept.seq (State.raise_kept ..) ?_
      exact hx5
    · exact hx5
  clear_value x6
  refine Kept.mk2 ?_
  exact hx6

theorem State.proof_kept (s : State) (m : Msg) (handle : Nat) (proof : List Byte) : Kept s (s.proof m handle proof).2 := by
  unfold State.proof
  split
  · split
    rename_i e
    exact Kept.snd e (State.drawBytes_kept ..)
  · extract_lets +onlyGivenNames src t u
    have ht : Kept s t := Kept.less rfl rfl rfl rfl rfl rfl rfl (Nat.le_refl _) (List.length_filter_le _ _) (Nat.le_refl _)
      (Nat.le_refl _)
    clear_value t
    split
    · exact ht
    · split
      · exact (State.countFailure_kept ..).seq ht
      · have hu : Kept s u := (State.setLockouts_kept _ _ fun h => Nat.le_trans (List.length_filter_le _ _) h).seq ht
        clear_value u
        split
        · exact (State.limitRefused_kept ..).seq hu
        · exact (State.openSession_kept ..).seq hu

theorem execIlrilProof_kept (dt : Nat) (m : Msg) (handle : Nat) (proof : List Byte) (s : State) :
    KeptR s (execIlrilProof dt m handle proof s) := by
  unfold execIlrilProof
  refine actIf_kept (hk3 := fun t => ?_) ..
  split
  · exact State.bump_kept ..
  · refine Kept.ite (State.bump_kept ..) ?_
    split
    · next e => exact (State.emit_kept ..).seq (Kept.snd e (State.proof_kept ..))
    · next e => exact (State.emit_kept ..).seq (Kept.snd e (State.proof_kept ..))

theorem execChallengeExpiry_kept (dt handle : Nat) (s : State) : KeptR s (execChallengeExpiry dt handle s) := by
  unfold execChallengeExpiry
  exact act_kept (hk2 := fun t => Kept.less rfl rfl rfl rfl rfl rfl rfl (Nat.le_refl _) (List.length_filter_le _ _)
    (Nat.le_refl _) (Nat.le_refl _)) ..

theorem State.accept_kept (s_a m_a f_a) (hk2 : ∀ y0, Kept y0 (f_a y0)) : Kept s_a (State.accept s_a m_a f_a) := by
  unfold State.accept
  split
  · refine Kept.seq (State.bump_kept ..) ?_
    exact Kept.refl _
  · exact Kept.refl _
  · extract_lets +onlyGivenNames x1
    refine Kept.ite ?_ ?_
    · extract_lets +onlyGivenNames x2
      have hx2 : Kept s_a x2 := by
        subst x2
        refine Kept.seq (State.setSession_kept ..) ?_
        exact Kept.refl _
      clear_value x2
      split
      · refine Kept.seq (State.emit_kept ..) ?_
        exact hx2
      · exact hx2
    · refine Kept.seq (hk2 ..) ?_
      refine Kept.seq (State.setSession_kept ..) ?_
      exact Kept.refl _

theorem State.mark_kept (s_a n_a seq_a a_a) : Kept s_a (State.mark s_a n_a seq_a a_a) := by
  unfold State.mark
  refine Kept.optElim (fun x1 => ?_) ?_
  · refine Kept.seq (State.setSession_kept ..) ?_
    exact Kept.refl _
  · exact Kept.refl _

theorem State.readItem_kept {s : State} {session : Option Nat} {role i n : Nat} {p : List Byte × State}
    (h : s.readItem session role i n = .inr p) : Kept s p.2 := by
  unfold State.readItem at h
  split at h
  · cases h
  · split at h
    · cases h
    split at h
    · cases h
    split at h
    · cases h; exact State.morJournalRead_kept ..
    · cases h; exact Kept.ite (State.settle_kept ..) (Kept.refl s)

theorem State.doRead_kept (s : State) (n seq : Nat) (x : Session) (i sub offset most : Nat) :
    Kept s (s.doRead n seq x i sub offset most) := by
  unfold State.doRead
  split
  · exact State.respond_kept ..
  · next h => exact Kept.ite (State.respond_kept ..) ((State.respond_kept ..).seq (State.readItem_kept h))

theorem State.bulkReadItems_kept (s : State) (n seq role room : Nat) (l : List (Nat × Nat)) :
    Kept s (s.bulkReadItems n seq role room l).2 := by
  induction l generalizing s room with
  | nil => exact Kept.refl s
  | cons x l ih =>
    obtain ⟨i, sub⟩ := x
    simp only [State.bulkReadItems]
    split
    · exact (ih _ _).seq (Kept.refl s)
    · split
      · exact (ih _ _).seq (State.mark_kept ..)
      · next h =>
        split
        · exact (ih _ _).seq (State.mark_kept ..)
        · exact (ih _ _).seq ((State.readItem_kept h).seq (State.mark_kept ..))

theorem State.doBulkRead_kept (s_a n_a seq_a x_a l_a) : Kept s_a (State.doBulkRead s_a n_a seq_a x_a l_a) := by
  unfold State.doBulkRead
  extract_lets +onlyGivenNames x1
  have hx1 : Kept s_a x1.2 := by
    subst x1
    refine Kept.seq (State.bulkReadItems_kept ..) ?_
    exact Kept.refl _
  clear_value x1
  refine Kept.seq (State.respond_kept ..) ?_
  exact hx1

theorem State.bulkWriteItems_kept (s : State) (n seq role k : Nat) (l : List (Nat × Nat × List Byte)) :
    Kept s (s.bulkWriteItems n seq role k l).2.2 := by
  induction l generalizing s k with
  | nil => exact Kept.refl s
  | cons x l ih =>
    obtain ⟨i, sub, value⟩ := x
    simp only [State.bulkWriteItems]
    split
    · exact ih _ _
    · exact (ih _ _).seq ((State.writeItem_kept ..).seq (State.mark_kept ..))

theorem State.doBulkWrite_kept (s_a n_a seq_a x_a l_a) : Kept s_a (State.doBulkWrite s_a n_a seq_a x_a l_a) := by
  unfold State.doBulkWrite
  extract_lets +onlyGivenNames x1
  have hx1 : Kept s_a x1.2.2 := by
    subst x1
    refine Kept.seq (State.bulkWriteItems_kept ..) ?_
    exact Kept.refl _
  clear_value x1
  refine Kept.seq (State.finish_kept ..) ?_
  exact hx1

theorem State.doFence_kept (s_a n_a seq_a x_a scope_a) : Kept s_a (State.doFence s_a n_a seq_a x_a scope_a) := by
  unfold State.doFence
  extract_lets +onlyGivenNames x1
  extract_lets +onlyGivenNames x2
  extract_lets +onlyGivenNames x3
  extract_lets +onlyGivenNames x4
  have hx4 : Kept s_a x4 := by
    subst x4
    refine Kept.seq (State.setSession_kept ..) ?_
    exact Kept.refl _
  clear_value x4
  refine Kept.ite ?_ ?_
  · refine Kept.seq (State.respond_kept ..) ?_
    exact hx4
  · exact hx4

theorem State.engage_kept (s_a n_a seq_a r_a) : Kept s_a (State.engage s_a n_a seq_a r_a) := by
  unfold State.engage
  split
  · refine Kept.seq (State.setSession_kept ..) ?_
    exact Kept.refl _
  · exact Kept.refl _

theorem State.startReq_kept (s_a n_a seq_a r_a) : Kept s_a (State.startReq s_a n_a seq_a r_a) := by
  unfold State.startReq
  split
  · exact Kept.refl _
  · split
    · refine Kept.seq (State.respond_kept ..) ?_
      exact Kept.refl _
    · extract_lets +onlyGivenNames x1
      refine Kept.ite ?_ ?_
      · refine Kept.seq (State.respond_kept ..) ?_
        exact Kept.refl _
      · extract_lets +onlyGivenNames x2
        have hx2 : Kept s_a x2 := by
          subst x2
          refine Kept.foldl (fun u3 x4 => ?_) ?_
          · refine Kept.seq (State.mark_kept ..) ?_
            exact Kept.refl _
          · refine Kept.seq (State.engage_kept ..) ?_
            exact Kept.refl _
        clear_value x2
        split
        · refine Kept.seq (State.doRead_kept ..) ?_
          exact hx2
        · refine Kept.seq (State.writeFor_kept ..) ?_
          exact hx2
        · refine Kept.seq (State.doBulkRead_kept ..) ?_
          exact hx2
        · refine Kept.seq (State.doBulkWrite_kept ..) ?_
          exact hx2
        · refine Kept.seq (State.doFence_kept ..) ?_
          exact hx2
        · refine Kept.seq (State.toEngine_kept ..) ?_
          exact hx2
        · refine Kept.seq (State.respond_kept ..) ?_
          exact hx2
        · refine Kept.seq (State.endSession_kept ..) ?_
          refine Kept.seq (State.respond_kept ..) ?_
          exact hx2

theorem State.releaseUpTo_kept (k : Nat) (s : State) (n : Nat) : Kept s (State.releaseUpTo k s n) := by
  induction k generalizing s with
  | zero => exact Kept.refl s
  | succ k ih =>
    unfold State.releaseUpTo
    split
    · exact Kept.refl s
    · extract_lets +onlyGivenNames l
      clear_value l
      split
      · exact Kept.refl s
      · exact (ih _).seq ((State.startReq_kept ..).seq (State.setSession_kept ..))

theorem State.releaseHeld_kept (s_a n_a) : Kept s_a (State.releaseHeld s_a n_a) := by
  unfold State.releaseHeld
  refine Kept.seq (State.releaseUpTo_kept ..) ?_
  exact Kept.refl _

theorem State.releaseAll_kept (s_a) : Kept s_a (State.releaseAll s_a) := by
  unfold State.releaseAll
  refine Kept.foldl (fun u1 x2 => ?_) ?_
  · refine Kept.seq (State.releaseHeld_kept ..) ?_
    exact Kept.refl _
  · exact Kept.refl _

theorem State.request_kept (s : State) (n seq fenceSeq : Nat) (r : Req) : Kept s (s.request n seq fenceSeq r) := by
  unfold State.request
  split
  · exact Kept.refl s
  · extract_lets +onlyGivenNames y refuse z
    have hr : ∀ c, Kept s (refuse c) := fun c => (State.respond_kept ..).seq (State.setSession_kept ..)
    clear_value refuse y
    refine Kept.ite (hr _) (Kept.ite (hr _) (Kept.ite (hr _) ?_))
    exact Kept.ite (State.setSession_kept ..) ((State.releaseHeld_kept ..).seq ((State.startReq_kept ..).seq
      (State.setSession_kept ..)))

theorem State.message_kept (s_a m_a r_a) : Kept s_a (State.message s_a m_a r_a) := by
  unfold State.message
  refine Kept.ite ?_ ?_
  · refine Kept.seq (State.accept_kept (hk2 := fun u1 => ?_) ..) ?_
    · refine Kept.seq (State.request_kept ..) ?_
      exact Kept.refl _
    · exact Kept.refl _
  · exact Kept.refl _

theorem execIlrilClose_kept (dt_a m_a s_a) : KeptR s_a (execIlrilClose dt_a m_a s_a) := by
  unfold execIlrilClose
  refine act_kept (hk2 := fun u1 => ?_) ..
  refine Kept.seq (State.message_kept ..) ?_
  exact Kept.refl _

theorem execIlrilKeepalive_kept (dt_a m_a s_a) : KeptR s_a (execIlrilKeepalive dt_a m_a s_a) := by
  unfold execIlrilKeepalive
  refine act_kept (hk2 := fun u1 => ?_) ..
  refine Kept.seq (State.message_kept ..) ?_
  exact Kept.refl _

theorem execIlrilRead_kept (dt_a m_a index_a sub_a offset_a maxLength_a s_a) : KeptR s_a (execIlrilRead dt_a m_a index_a sub_a offset_a maxLength_a s_a) := by
  unfold execIlrilRead
  refine act_kept (hk2 := fun u1 => ?_) ..
  refine Kept.seq (State.message_kept ..) ?_
  exact Kept.refl _

theorem execIlrilWrite_kept (dt_a m_a index_a sub_a value_a s_a) : KeptR s_a (execIlrilWrite dt_a m_a index_a sub_a value_a s_a) := by
  unfold execIlrilWrite
  refine act_kept (hk2 := fun u1 => ?_) ..
  refine Kept.seq (State.message_kept ..) ?_
  exact Kept.refl _

theorem execIlrilBulkRead_kept (dt_a m_a items_a s_a) : KeptR s_a (execIlrilBulkRead dt_a m_a items_a s_a) := by
  unfold execIlrilBulkRead
  refine act_kept (hk2 := fun u1 => ?_) ..
  refine Kept.seq (State.message_kept ..) ?_
  exact Kept.refl _

theorem execIlrilBulkWrite_kept (dt_a m_a items_a s_a) : KeptR s_a (execIlrilBulkWrite dt_a m_a items_a s_a) := by
  unfold execIlrilBulkWrite
  refine act_kept (hk2 := fun u1 => ?_) ..
  refine Kept.seq (State.message_kept ..) ?_
  exact Kept.refl _

theorem execIlrilFence_kept (dt_a m_a scope_a s_a) : KeptR s_a (execIlrilFence dt_a m_a scope_a s_a) := by
  unfold execIlrilFence
  refine act_kept (hk2 := fun u1 => ?_) ..
  refine Kept.seq (State.message_kept ..) ?_
  exact Kept.refl _

theorem execFenceComplete_kept (dt_a session_a seq_a s_a) : KeptR s_a (execFenceComplete dt_a session_a seq_a s_a) := by
  unfold execFenceComplete
  refine actIf_kept (hk3 := fun u1 => ?_) ..
  extract_lets +onlyGivenNames x2
  have hx2 : Kept u1 x2 := by
    subst x2
    refine Kept.optElim (fun x3 => ?_) ?_
    · refine Kept.seq (State.setSession_kept ..) ?_
      exact Kept.refl _
    · exact Kept.refl _
  clear_value x2
  refine Kept.seq (State.releaseHeld_kept ..) ?_
  refine Kept.seq (State.respond_kept ..) ?_
  exact hx2

theorem execFenceMissing_kept (dt_a session_a seq_a s_a) : KeptR s_a (execFenceMissing dt_a session_a seq_a s_a) := by
  unfold execFenceMissing
  refine act_kept (hk2 := fun u1 => ?_) ..
  split
  · refine Kept.seq (State.respond_kept ..) ?_
    refine Kept.seq (State.setSession_kept ..) ?_
    exact Kept.refl _
  · exact Kept.refl _

theorem execSessionIdleTimeout_kept (dt_a session_a s_a) : KeptR s_a (execSessionIdleTimeout dt_a session_a s_a) := by
  unfold execSessionIdleTimeout
  refine actIf_kept (hk3 := fun u1 => ?_) ..
  refine Kept.seq (State.endSession_kept ..) ?_
  exact Kept.refl _

theorem execTcpConnectionClose_kept (dt_a session_a s_a) : KeptR s_a (execTcpConnectionClose dt_a session_a s_a) := by
  unfold execTcpConnectionClose
  refine actIf_kept (hk3 := fun u1 => ?_) ..
  refine Kept.seq (State.endSession_kept ..) ?_
  exact Kept.refl _

theorem execNotifySend_kept (dt_a session_a s_a) : KeptR s_a (execNotifySend dt_a session_a s_a) := by
  unfold execNotifySend
  refine actIf_kept (hk3 := fun u1 => ?_) ..
  split
  · exact Kept.refl _
  · extract_lets +onlyGivenNames x2
    extract_lets +onlyGivenNames x3
    extract_lets +onlyGivenNames x4
    have hx4 : Kept u1 x4 := by
      subst x4
      refine Kept.seq (State.sendIn_kept ..) ?_
      refine Kept.seq (State.setSession_kept ..) ?_
      exact Kept.refl _
    clear_value x4
    refine Kept.ite ?_ ?_
    · exact hx4
    · refine Kept.seq (State.raise_kept ..) ?_
      exact hx4

theorem execNotifyResend_kept (dt_a session_a s_a) : KeptR s_a (execNotifyResend dt_a session_a s_a) := by
  unfold execNotifyResend
  refine act_kept (hk2 := fun u1 => ?_) ..
  split
  · exact Kept.refl _
  · refine Kept.ite ?_ ?_
    · exact Kept.refl _
    · refine Kept.ite ?_ ?_
      · refine Kept.seq (State.emit_kept ..) ?_
        refine Kept.seq (State.setSession_kept ..) ?_
        exact Kept.refl _
      · extract_lets +onlyGivenNames x2
        refine Kept.seq (State.setSession_kept ..) ?_
        exact Kept.refl _

theorem execNotifyAck_kept (dt_a m_a notifySeq_a s_a) : KeptR s_a (execNotifyAck dt_a m_a notifySeq_a s_a) := by
  unfold execNotifyAck
  refine actIf_kept (hk3 := fun u1 => ?_) ..
  refine Kept.seq (State.accept_kept (hk2 := fun u2 => ?_) ..) ?_
  · refine Kept.optElim (fun x3 => ?_) ?_
    · refine Kept.ite ?_ ?_
      · refine Kept.seq (State.setSession_kept ..) ?_
        exact Kept.refl _
      · exact Kept.refl _
    · exact Kept.refl _
  · exact Kept.refl _

theorem execSalvoOpen_kept (dt_a m_a s_a) : KeptR s_a (execSalvoOpen dt_a m_a s_a) := by
  unfold execSalvoOpen
  refine act_kept (hk2 := fun u1 => ?_) ..
  refine Kept.seq (State.message_kept ..) ?_
  exact Kept.refl _

theorem execSalvoAdd_kept (dt_a m_a n_a index_a sub_a value_a s_a) : KeptR s_a (execSalvoAdd dt_a m_a n_a index_a sub_a value_a s_a) := by
  unfold execSalvoAdd
  refine act_kept (hk2 := fun u1 => ?_) ..
  refine Kept.seq (State.message_kept ..) ?_
  exact Kept.refl _

theorem execSalvoRemove_kept (dt_a m_a n_a index_a sub_a s_a) : KeptR s_a (execSalvoRemove dt_a m_a n_a index_a sub_a s_a) := by
  unfold execSalvoRemove
  refine act_kept (hk2 := fun u1 => ?_) ..
  refine Kept.seq (State.message_kept ..) ?_
  exact Kept.refl _

theorem execSalvoClear_kept (dt_a m_a n_a s_a) : KeptR s_a (execSalvoClear dt_a m_a n_a s_a) := by
  unfold execSalvoClear
  refine act_kept (hk2 := fun u1 => ?_) ..
  refine Kept.seq (State.message_kept ..) ?_
  exact Kept.refl _

theorem execSalvoArm_kept (dt_a m_a n_a s_a) : KeptR s_a (execSalvoArm dt_a m_a n_a s_a) := by
  unfold execSalvoArm
  refine act_kept (hk2 := fun u1 => ?_) ..
  refine Kept.seq (State.message_kept ..) ?_
  exact Kept.refl _

theorem execSalvoDisarm_kept (dt_a m_a n_a s_a) : KeptR s_a (execSalvoDisarm dt_a m_a n_a s_a) := by
  unfold execSalvoDisarm
  refine act_kept (hk2 := fun u1 => ?_) ..
  refine Kept.seq (State.message_kept ..) ?_
  exact Kept.refl _

theorem execSalvoDiscard_kept (dt_a m_a n_a s_a) : KeptR s_a (execSalvoDiscard dt_a m_a n_a s_a) := by
  unfold execSalvoDiscard
  refine act_kept (hk2 := fun u1 => ?_) ..
  refine Kept.seq (State.message_kept ..) ?_
  exact Kept.refl _

theorem execSalvoTake_kept (dt_a m_a n_a implicitArm_a at__a s_a) : KeptR s_a (execSalvoTake dt_a m_a n_a implicitArm_a at__a s_a) := by
  unfold execSalvoTake
  refine act_kept (hk2 := fun u1 => ?_) ..
  refine Kept.seq (State.message_kept ..) ?_
  exact Kept.refl _

theorem execStoreSaved_kept (dt_a ok_a s_a) : KeptR s_a (execStoreSaved dt_a ok_a s_a) := by
  unfold execStoreSaved
  refine actIf_kept (hk3 := fun u1 => ?_) ..
  refine Kept.seq (State.releaseAll_kept ..) ?_
  refine Kept.seq (State.endSave_kept ..) ?_
  exact Kept.refl _

theorem execWriteThroughAck_kept (dt_a s_a) : KeptR s_a (execWriteThroughAck dt_a s_a) := by
  unfold execWriteThroughAck
  refine actIf_kept (hk3 := fun u1 => ?_) ..
  split
  · refine Kept.ite ?_ ?_
    · exact Kept.refl _
    · refine Kept.seq (State.releaseAll_kept ..) ?_
      refine Kept.seq (State.endThrough_kept ..) ?_
      exact Kept.upd rfl rfl rfl rfl rfl rfl rfl rfl rfl rfl rfl
  · exact Kept.refl _

theorem execWriteThroughTimeout_kept (dt_a s_a) : KeptR s_a (execWriteThroughTimeout dt_a s_a) := by
  unfold execWriteThroughTimeout
  refine actIf_kept (hk3 := fun u1 => ?_) ..
  split
  · refine Kept.ite ?_ ?_
    · exact Kept.refl _
    · extract_lets +onlyGivenNames x2
      extract_lets +onlyGivenNames x3
      have hx3 : Kept u1 x3 := by
        subst x3
        refine Kept.seq (State.endThrough_kept ..) ?_
        refine Kept.seq (State.loseMirror_kept ..) ?_
        exact Kept.upd rfl rfl rfl rfl rfl rfl rfl rfl rfl rfl rfl
      clear_value x3
      refine Kept.seq (State.releaseAll_kept ..) ?_
      refine Kept.ite ?_ ?_
      · exact hx3
      · refine Kept.seq (State.logWrite_kept ..) ?_
        exact hx3
  · exact Kept.refl _

end Sys2Proof.Machine
end

