-- ==== Sys2Proof/Laws/KeptGate.lean ====
section
/-!
SUPPORT. That the functions of Machine/Gate.lean keep the queue, never turn time back and keep a sound state sound
(`Kept` of Laws/Kept.lean).
-/
namespace Sys2Proof.Machine

theorem State.gateEnd_kept (s_a status_a a1_a a2_a) : Kept s_a (State.gateEnd s_a status_a a1_a a2_a) := by
  unfold State.gateEnd
  refine Kept.seq (State.emit_kept ..) ?_
  exact Kept.refl _

theorem State.gateOk_kept (s_a a1_a a2_a) : Kept s_a (State.gateOk s_a a1_a a2_a) := by
  unfold State.gateOk
  refine Kept.seq (State.gateEnd_kept ..) ?_
  exact Kept.refl _

theorem State.gateNo_kept (s_a code_a a2_a) : Kept s_a (State.gateNo s_a code_a a2_a) := by
  unfold State.gateNo
  refine Kept.seq (State.gateEnd_kept ..) ?_
  exact Kept.refl _

theorem State.withBuf_kept (s_a b_a f_a) (hk2 : ∀ y0, Kept y0 (f_a y0)) : Kept s_a (State.withBuf s_a b_a f_a) := by
  unfold State.withBuf
  refine Kept.ite ?_ ?_
  · refine Kept.seq (hk2 ..) ?_
    exact Kept.refl _
  · refine Kept.seq (State.gateEnd_kept ..) ?_
    refine Kept.seq (State.raiseLimited_kept ..) ?_
    exact Kept.refl _

theorem State.putBuf_kept (s_a b_a bytes_a) : Kept s_a (State.putBuf s_a b_a bytes_a) := by
  unfold State.putBuf
  refine Kept.seq (State.setMem_kept ..) ?_
  exact Kept.refl _

theorem State.withSession_kept (s_a n_a f_a) (hk2 : ∀ y0 y1, Kept y0 (f_a y0 y1)) : Kept s_a (State.withSession s_a n_a f_a) := by
  unfold State.withSession
  split
  · refine Kept.seq (hk2 ..) ?_
    exact Kept.refl _
  · refine Kept.seq (State.gateNo_kept ..) ?_
    exact Kept.refl _

theorem State.withOwner_kept (s_a n_a f_a) (hk2 : ∀ y0, Kept y0 (f_a y0)) : Kept s_a (State.withOwner s_a n_a f_a) := by
  unfold State.withOwner
  refine Kept.seq (State.withSession_kept (hk2 := fun u1 x2 => ?_) ..) ?_
  · refine Kept.ite ?_ ?_
    · refine Kept.seq (hk2 ..) ?_
      exact Kept.refl _
    · refine Kept.seq (State.gateNo_kept ..) ?_
      exact Kept.refl _
  · exact Kept.refl _

theorem gateCall_kept (dt_a s_a f_a) (hk2 : ∀ y0, Kept y0 (f_a y0)) : KeptR s_a (gateCall dt_a s_a f_a) := by
  unfold gateCall
  refine actIf_kept (hk3 := fun u1 => ?_) ..
  refine Kept.seq (hk2 ..) ?_
  exact Kept.refl _

theorem State.newTicket_kept (s_a b_a) : Kept s_a (State.newTicket s_a b_a).2 := by
  unfold State.newTicket
  extract_lets +onlyGivenNames x1
  refine Kept.mk2 ?_
  exact Kept.upd rfl rfl rfl rfl rfl rfl rfl rfl rfl rfl rfl

theorem execGateVersion_kept (dt_a s_a) : KeptR s_a (execGateVersion dt_a s_a) := by
  unfold execGateVersion
  refine gateCall_kept (hk2 := fun u1 => ?_) ..
  refine Kept.seq (State.gateOk_kept ..) ?_
  exact Kept.refl _

theorem execGateHeartbeat_kept (dt_a s_a) : KeptR s_a (execGateHeartbeat dt_a s_a) := by
  unfold execGateHeartbeat
  refine gateCall_kept (hk2 := fun u1 => ?_) ..
  refine Kept.seq (State.gateOk_kept ..) ?_
  refine Kept.seq (State.heartbeat_kept ..) ?_
  exact Kept.refl _

theorem execGateRestart_kept (dt_a session_a kind_a s_a) : KeptR s_a (execGateRestart dt_a session_a kind_a s_a) := by
  unfold execGateRestart
  refine gateCall_kept (hk2 := fun u1 => ?_) ..
  refine Kept.seq (State.withOwner_kept (hk2 := fun u2 => ?_) ..) ?_
  · refine Kept.ite ?_ ?_
    · refine Kept.seq (State.requestSoft_kept ..) ?_
      exact Kept.refl _
    · refine Kept.ite ?_ ?_
      · refine Kept.seq (State.requestHard_kept ..) ?_
        exact Kept.refl _
      · refine Kept.seq (State.gateNo_kept ..) ?_
        exact Kept.refl _
  · exact Kept.refl _

theorem execGateHbmRegion_kept (dt_a s_a) : KeptR s_a (execGateHbmRegion dt_a s_a) := by
  unfold execGateHbmRegion
  refine gateCall_kept (hk2 := fun u1 => ?_) ..
  refine Kept.seq (State.gateOk_kept ..) ?_
  exact Kept.refl _

theorem execGateAuthHello_kept (dt : Nat) (m : Msg) (h : Hello) (buf : Buf) (s : State) :
    KeptR s (execGateAuthHello dt m h buf s) := by
  unfold execGateAuthHello
  refine gateCall_kept (hk2 := fun t => State.withBuf_kept (hk2 := fun u => ?_) ..) ..
  split
  · next e => exact (State.gateNo_kept ..).seq (Kept.snd e (State.hello_kept ..))
  · next e => exact (State.gateOk_kept ..).seq ((State.putBuf_kept ..).seq (Kept.snd e (State.hello_kept ..)))

theorem execGateAuthProof_kept (dt : Nat) (m : Msg) (handle : Nat) (proof : List Byte) (buf : Buf) (s : State) :
    KeptR s (execGateAuthProof dt m handle proof buf s) := by
  unfold execGateAuthProof
  refine gateCall_kept (hk2 := fun t => State.withBuf_kept (hk2 := fun u => ?_) ..) ..
  split
  · next e => exact (State.gateNo_kept ..).seq (Kept.snd e (State.proof_kept ..))
  · next e => exact (State.gateOk_kept ..).seq ((State.putBuf_kept ..).seq (Kept.snd e (State.proof_kept ..)))

theorem State.openBody_kept (s_a x_a seq_a b_a) : Kept s_a (State.openBody s_a x_a seq_a b_a) := by
  unfold State.openBody
  refine Kept.ite ?_ ?_
  · exact Kept.refl _
  · extract_lets +onlyGivenNames x1
    split
    · refine Kept.seq (State.setMem_kept ..) ?_
      exact Kept.refl _
    · exact Kept.refl _

theorem execGateMsgOpen_kept (dt_a m_a buf_a s_a) : KeptR s_a (execGateMsgOpen dt_a m_a buf_a s_a) := by
  unfold execGateMsgOpen
  refine gateCall_kept (hk2 := fun u1 => ?_) ..
  refine Kept.seq (State.withBuf_kept (hk2 := fun u2 => ?_) ..) ?_
  · refine Kept.seq (State.withSession_kept (hk2 := fun u3 x4 => ?_) ..) ?_
    · refine Kept.ite ?_ ?_
      · refine Kept.seq (State.gateNo_kept ..) ?_
        exact Kept.refl _
      · refine Kept.ite ?_ ?_
        · refine Kept.seq (State.gateNo_kept ..) ?_
          exact Kept.refl _
        · refine Kept.seq (State.gateOk_kept ..) ?_
          refine Kept.seq (State.openBody_kept ..) ?_
          refine Kept.seq (State.setSession_kept ..) ?_
          exact Kept.refl _
    · exact Kept.refl _
  · exact Kept.refl _

theorem State.sealBody_kept (s_a x_a b_a) : Kept s_a (State.sealBody s_a x_a b_a) := by
  unfold State.sealBody
  extract_lets +onlyGivenNames x1
  extract_lets +onlyGivenNames x2
  extract_lets +onlyGivenNames x3
  extract_lets +onlyGivenNames x4
  extract_lets +onlyGivenNames x5
  refine Kept.ite ?_ ?_
  · extract_lets +onlyGivenNames x6
    refine Kept.seq (State.putBuf_kept ..) ?_
    exact Kept.refl _
  · refine Kept.seq (State.putBuf_kept ..) ?_
    exact Kept.refl _

theorem execGateMsgSeal_kept (dt_a session_a buf_a s_a) : KeptR s_a (execGateMsgSeal dt_a session_a buf_a s_a) := by
  unfold execGateMsgSeal
  refine gateCall_kept (hk2 := fun u1 => ?_) ..
  refine Kept.seq (State.withBuf_kept (hk2 := fun u2 => ?_) ..) ?_
  · refine Kept.seq (State.withSession_kept (hk2 := fun u3 x4 => ?_) ..) ?_
    · refine Kept.ite ?_ ?_
      · refine Kept.seq (State.gateNo_kept ..) ?_
        exact Kept.refl _
      · refine Kept.seq (State.gateOk_kept ..) ?_
        refine Kept.seq (State.setSession_kept ..) ?_
        refine Kept.seq (State.sealBody_kept ..) ?_
        exact Kept.refl _
    · exact Kept.refl _
  · exact Kept.refl _

theorem execGateSessionEnd_kept (dt_a session_a _reason_a s_a) : KeptR s_a (execGateSessionEnd dt_a session_a _reason_a s_a) := by
  unfold execGateSessionEnd
  refine gateCall_kept (hk2 := fun u1 => ?_) ..
  refine Kept.seq (State.withSession_kept (hk2 := fun u2 x3 => ?_) ..) ?_
  · refine Kept.seq (State.gateOk_kept ..) ?_
    refine Kept.seq (State.endSession_kept ..) ?_
    exact Kept.refl _
  · exact Kept.refl _

theorem execGateCeSubmit_kept (dt_a session_a r_a buf_a s_a) : KeptR s_a (execGateCeSubmit dt_a session_a r_a buf_a s_a) := by
  unfold execGateCeSubmit
  refine gateCall_kept (hk2 := fun u1 => ?_) ..
  refine Kept.seq (State.withBuf_kept (hk2 := fun u2 => ?_) ..) ?_
  · refine Kept.seq (State.withSession_kept (hk2 := fun u3 x4 => ?_) ..) ?_
    · split
      rename_i v5 t6 e7
      have ht6 := Kept.snd e7 (State.newTicket_kept ..)
      extract_lets +onlyGivenNames x8
      have hx8 : Kept u3 x8 := by
        subst x8
        refine Kept.seq (State.gateOk_kept ..) ?_
        exact ht6
      clear_value x8
      split
      · refine Kept.ite ?_ ?_
        · refine Kept.seq (State.writeFor_kept ..) ?_
          exact hx8
        · refine Kept.seq (State.reply_kept ..) ?_
          exact hx8
      · refine Kept.ite ?_ ?_
        · refine Kept.seq (State.reply_kept ..) ?_
          exact hx8
        · refine Kept.seq (State.toEngine_kept ..) ?_
          exact hx8
      · exact hx8
    · exact Kept.refl _
  · exact Kept.refl _

theorem execGateCeRead_kept (dt index sub : Nat) (buf : Buf) (s : State) : KeptR s (execGateCeRead dt index sub buf s) := by
  unfold execGateCeRead
  refine gateCall_kept (hk2 := fun t => State.withBuf_kept (hk2 := fun u => ?_) ..) ..
  refine Kept.ite (State.gateNo_kept ..) ?_
  split
  · exact State.gateNo_kept ..
  · next h => exact (State.gateOk_kept ..).seq ((State.putBuf_kept ..).seq (State.readItem_kept h))

theorem State.gateWrite_kept (s : State) (n a : Nat) (value : List Byte) : Kept s (s.gateWrite n a value) := by
  unfold State.gateWrite
  refine State.withSession_kept (hk2 := fun t x => ?_) ..
  extract_lets +onlyGivenNames w
  have hw : Kept t w.state := State.writeItem_kept ..
  clear_value w
  exact Kept.ite ((State.gateOk_kept ..).seq ((State.followWrite_kept ..).seq hw)) ((State.gateNo_kept ..).seq hw)

theorem execGateKeyWrite_kept (dt_a session_a role_a key_a buf_a s_a) : KeptR s_a (execGateKeyWrite dt_a session_a role_a key_a buf_a s_a) := by
  unfold execGateKeyWrite
  refine gateCall_kept (hk2 := fun u1 => ?_) ..
  refine Kept.seq (State.withBuf_kept (hk2 := fun u2 => ?_) ..) ?_
  · refine Kept.seq (State.withOwner_kept (hk2 := fun u3 => ?_) ..) ?_
    · refine Kept.seq (State.gateWrite_kept ..) ?_
      exact Kept.refl _
    · exact Kept.refl _
  · exact Kept.refl _

theorem execGateOwnerLock_kept (dt_a session_a lock_a s_a) : KeptR s_a (execGateOwnerLock dt_a session_a lock_a s_a) := by
  unfold execGateOwnerLock
  refine gateCall_kept (hk2 := fun u1 => ?_) ..
  refine Kept.seq (State.withOwner_kept (hk2 := fun u2 => ?_) ..) ?_
  · refine Kept.seq (State.gateWrite_kept ..) ?_
    exact Kept.refl _
  · exact Kept.refl _

theorem execGateOtpProgram_kept (dt_a session_a hash_a buf_a s_a) : KeptR s_a (execGateOtpProgram dt_a session_a hash_a buf_a s_a) := by
  unfold execGateOtpProgram
  refine gateCall_kept (hk2 := fun u1 => ?_) ..
  refine Kept.seq (State.withBuf_kept (hk2 := fun u2 => ?_) ..) ?_
  · refine Kept.seq (State.withOwner_kept (hk2 := fun u3 => ?_) ..) ?_
    · refine Kept.seq (State.gateWrite_kept ..) ?_
      exact Kept.refl _
    · exact Kept.refl _
  · exact Kept.refl _

theorem execGateOtpRevoke_kept (dt_a session_a slot_a s_a) : KeptR s_a (execGateOtpRevoke dt_a session_a slot_a s_a) := by
  unfold execGateOtpRevoke
  refine gateCall_kept (hk2 := fun u1 => ?_) ..
  refine Kept.seq (State.withOwner_kept (hk2 := fun u2 => ?_) ..) ?_
  · refine Kept.ite ?_ ?_
    · refine Kept.seq (State.gateNo_kept ..) ?_
      exact Kept.refl _
    · refine Kept.seq (State.gateWrite_kept ..) ?_
      exact Kept.refl _
  · exact Kept.refl _

theorem execGateStoreLoad_kept (dt_a buf_a s_a) : KeptR s_a (execGateStoreLoad dt_a buf_a s_a) := by
  unfold execGateStoreLoad
  refine gateCall_kept (hk2 := fun u1 => ?_) ..
  refine Kept.seq (State.withBuf_kept (hk2 := fun u2 => ?_) ..) ?_
  · extract_lets +onlyGivenNames x3
    refine Kept.seq (State.gateOk_kept ..) ?_
    refine Kept.seq (State.putBuf_kept ..) ?_
    exact Kept.refl _
  · exact Kept.refl _

theorem execGateStoreSave_kept (dt_a buf_a s_a) : KeptR s_a (execGateStoreSave dt_a buf_a s_a) := by
  unfold execGateStoreSave
  refine gateCall_kept (hk2 := fun u1 => ?_) ..
  refine Kept.seq (State.withBuf_kept (hk2 := fun u2 => ?_) ..) ?_
  · extract_lets +onlyGivenNames x3
    refine Kept.ite ?_ ?_
    · refine Kept.seq (State.gateNo_kept ..) ?_
      exact Kept.refl _
    · split
      rename_i v4 t5 e6
      have ht5 := Kept.snd e6 (State.newTicket_kept ..)
      refine Kept.seq (State.gateOk_kept ..) ?_
      refine Kept.seq (State.saveSoon_kept ..) ?_
      refine Kept.seq (Kept.upd (s := t5) rfl rfl rfl rfl rfl rfl rfl rfl rfl rfl rfl) ?_
      exact ht5
  · exact Kept.refl _

theorem execGateTwinPut_kept (dt_a buf_a s_a) : KeptR s_a (execGateTwinPut dt_a buf_a s_a) := by
  unfold execGateTwinPut
  refine gateCall_kept (hk2 := fun u1 => ?_) ..
  refine Kept.seq (State.withBuf_kept (hk2 := fun u2 => ?_) ..) ?_
  · refine Kept.ite ?_ ?_
    · refine Kept.seq (State.gateNo_kept ..) ?_
      exact Kept.refl _
    · refine Kept.seq (State.gateOk_kept ..) ?_
      exact Kept.upd rfl rfl rfl rfl rfl rfl rfl rfl rfl rfl rfl
  · exact Kept.refl _

theorem execGateTwinGet_kept (dt_a buf_a s_a) : KeptR s_a (execGateTwinGet dt_a buf_a s_a) := by
  unfold execGateTwinGet
  refine gateCall_kept (hk2 := fun u1 => ?_) ..
  refine Kept.seq (State.withBuf_kept (hk2 := fun u2 => ?_) ..) ?_
  · refine Kept.ite ?_ ?_
    · refine Kept.seq (State.gateNo_kept ..) ?_
      exact Kept.refl _
    · extract_lets +onlyGivenNames x3
      extract_lets +onlyGivenNames x4
      extract_lets +onlyGivenNames x5
      have hx5 : Kept u2 x5 := by
        subst x5
        exact Kept.upd rfl rfl rfl rfl rfl rfl rfl rfl rfl rfl rfl
      clear_value x5
      refine Kept.seq (State.gateOk_kept ..) ?_
      refine Kept.seq (State.putBuf_kept ..) ?_
      exact hx5
  · exact Kept.refl _

theorem execGateCrypto_kept (dt_a op_a key_a input_a output_a s_a) : KeptR s_a (execGateCrypto dt_a op_a key_a input_a output_a s_a) := by
  unfold execGateCrypto
  refine gateCall_kept (hk2 := fun u1 => ?_) ..
  refine Kept.seq (State.withBuf_kept (hk2 := fun u2 => ?_) ..) ?_
  · refine Kept.seq (State.withBuf_kept (hk2 := fun u3 => ?_) ..) ?_
    · extract_lets +onlyGivenNames x4
      split
      · refine Kept.seq (State.gateOk_kept ..) ?_
        refine Kept.seq (State.putBuf_kept ..) ?_
        exact Kept.refl _
      · refine Kept.seq (State.gateOk_kept ..) ?_
        refine Kept.seq (State.putBuf_kept ..) ?_
        exact Kept.refl _
      · refine Kept.seq (State.gateOk_kept ..) ?_
        refine Kept.seq (State.putBuf_kept ..) ?_
        exact Kept.refl _
      · extract_lets +onlyGivenNames x5
        refine Kept.seq (State.gateOk_kept ..) ?_
        refine Kept.seq (State.putBuf_kept ..) ?_
        exact Kept.refl _
      · split
        · refine Kept.seq (State.gateOk_kept ..) ?_
          refine Kept.seq (State.putBuf_kept ..) ?_
          exact Kept.refl _
        · refine Kept.seq (State.gateNo_kept ..) ?_
          exact Kept.refl _
      · refine Kept.seq (State.gateOk_kept ..) ?_
        exact Kept.refl _
      · split
        rename_i v6 t7 e8
        have ht7 := Kept.snd e8 (State.drawBytes_kept ..)
        refine Kept.seq (State.gateOk_kept ..) ?_
        refine Kept.seq (State.putBuf_kept ..) ?_
        exact ht7
    · exact Kept.refl _
  · exact Kept.refl _

theorem execGateUpdate_kept (dt_a session_a op_a buf_a s_a) : KeptR s_a (execGateUpdate dt_a session_a op_a buf_a s_a) := by
  unfold execGateUpdate
  refine gateCall_kept (hk2 := fun u1 => ?_) ..
  refine Kept.seq (State.withBuf_kept (hk2 := fun u2 => ?_) ..) ?_
  · extract_lets +onlyGivenNames x3
    refine Kept.ite ?_ ?_
    · refine Kept.ite ?_ ?_
      · refine Kept.seq (State.gateOk_kept ..) ?_
        refine Kept.seq (State.confirm_kept ..) ?_
        exact Kept.refl _
      · exact Kept.refl _
    · refine Kept.ite ?_ ?_
      · refine Kept.seq (State.gateOk_kept ..) ?_
        refine Kept.seq (State.confirm_kept ..) ?_
        exact Kept.refl _
      · refine Kept.seq (State.gateWrite_kept ..) ?_
        exact Kept.refl _
  · exact Kept.refl _

theorem execGateDone_kept (dt_a ticket_a s_a) : KeptR s_a (execGateDone dt_a ticket_a s_a) := by
  unfold execGateDone
  refine actIf_kept (hk3 := fun u1 => ?_) ..
  split
  · exact Kept.refl _
  · extract_lets +onlyGivenNames x2
    refine Kept.seq (State.emit_kept ..) ?_
    exact Kept.upd rfl rfl rfl rfl rfl rfl rfl rfl rfl rfl rfl

end Sys2Proof.Machine
end

