-- ==== Sys2Proof/Laws/KeptRows.lean ====
section
/-!
SUPPORT. That the functions of Machine/Rows.lean keep the queue, never turn time back and keep a sound state sound
(`Kept` of Laws/Kept.lean).
-/
namespace Sys2Proof.Machine

theorem State.writeRow_kept (s_a m_a index_a sub_a value_a) : Kept s_a (State.writeRow s_a m_a index_a sub_a value_a) := by
  unfold State.writeRow
  refine Kept.seq (State.message_kept ..) ?_
  exact Kept.refl _

theorem execDeviceRestartSoft_kept (dt_a m_a s_a) : KeptR s_a (execDeviceRestartSoft dt_a m_a s_a) := by
  unfold execDeviceRestartSoft
  refine act_kept (hk2 := fun u1 => ?_) ..
  refine Kept.seq (State.writeRow_kept ..) ?_
  exact Kept.refl _

theorem execDeviceRestartHard_kept (dt_a m_a s_a) : KeptR s_a (execDeviceRestartHard dt_a m_a s_a) := by
  unfold execDeviceRestartHard
  refine act_kept (hk2 := fun u1 => ?_) ..
  refine Kept.seq (State.writeRow_kept ..) ?_
  exact Kept.refl _

theorem execMorJournalRead_kept (dt_a m_a s_a) : KeptR s_a (execMorJournalRead dt_a m_a s_a) := by
  unfold execMorJournalRead
  refine act_kept (hk2 := fun u1 => ?_) ..
  refine Kept.seq (State.message_kept ..) ?_
  exact Kept.refl _

theorem execMeterClear_kept (dt_a m_a index_a sub_a value_a s_a) : KeptR s_a (execMeterClear dt_a m_a index_a sub_a value_a s_a) := by
  unfold execMeterClear
  refine actIf_kept (hk3 := fun u1 => ?_) ..
  refine Kept.seq (State.writeRow_kept ..) ?_
  exact Kept.refl _

theorem execCounterClearWrite_kept (dt_a m_a index_a sub_a value_a s_a) : KeptR s_a (execCounterClearWrite dt_a m_a index_a sub_a value_a s_a) := by
  unfold execCounterClearWrite
  refine actIf_kept (hk3 := fun u1 => ?_) ..
  refine Kept.seq (State.writeRow_kept ..) ?_
  exact Kept.refl _

theorem execMonConfigWrite_kept (dt_a m_a index_a sub_a value_a s_a) : KeptR s_a (execMonConfigWrite dt_a m_a index_a sub_a value_a s_a) := by
  unfold execMonConfigWrite
  refine actIf_kept (hk3 := fun u1 => ?_) ..
  refine Kept.seq (State.writeRow_kept ..) ?_
  exact Kept.refl _

theorem execLayerGfxOffset_kept (dt_a m_a sub_a value_a s_a) : KeptR s_a (execLayerGfxOffset dt_a m_a sub_a value_a s_a) := by
  unfold execLayerGfxOffset
  refine act_kept (hk2 := fun u1 => ?_) ..
  refine Kept.seq (State.writeRow_kept ..) ?_
  exact Kept.refl _

theorem execLayerGfxData_kept (dt_a m_a sub_a value_a s_a) : KeptR s_a (execLayerGfxData dt_a m_a sub_a value_a s_a) := by
  unfold execLayerGfxData
  refine act_kept (hk2 := fun u1 => ?_) ..
  refine Kept.seq (State.writeRow_kept ..) ?_
  exact Kept.refl _

theorem execLayerGfxFlip_kept (dt_a m_a sub_a value_a s_a) : KeptR s_a (execLayerGfxFlip dt_a m_a sub_a value_a s_a) := by
  unfold execLayerGfxFlip
  refine act_kept (hk2 := fun u1 => ?_) ..
  refine Kept.seq (State.writeRow_kept ..) ?_
  exact Kept.refl _

theorem execColShaperData_kept (dt_a m_a sub_a value_a s_a) : KeptR s_a (execColShaperData dt_a m_a sub_a value_a s_a) := by
  unfold execColShaperData
  refine act_kept (hk2 := fun u1 => ?_) ..
  refine Kept.seq (State.writeRow_kept ..) ?_
  exact Kept.refl _

theorem execColLutOffset_kept (dt_a m_a sub_a value_a s_a) : KeptR s_a (execColLutOffset dt_a m_a sub_a value_a s_a) := by
  unfold execColLutOffset
  refine act_kept (hk2 := fun u1 => ?_) ..
  refine Kept.seq (State.writeRow_kept ..) ?_
  exact Kept.refl _

theorem execColLutData_kept (dt_a m_a sub_a value_a s_a) : KeptR s_a (execColLutData dt_a m_a sub_a value_a s_a) := by
  unfold execColLutData
  refine act_kept (hk2 := fun u1 => ?_) ..
  refine Kept.seq (State.writeRow_kept ..) ?_
  exact Kept.refl _

theorem execColTableFlip_kept (dt_a m_a sub_a value_a s_a) : KeptR s_a (execColTableFlip dt_a m_a sub_a value_a s_a) := by
  unfold execColTableFlip
  refine act_kept (hk2 := fun u1 => ?_) ..
  refine Kept.seq (State.writeRow_kept ..) ?_
  exact Kept.refl _

theorem execSaddleSlip_kept (dt_a m_a sub_a value_a s_a) : KeptR s_a (execSaddleSlip dt_a m_a sub_a value_a s_a) := by
  unfold execSaddleSlip
  refine act_kept (hk2 := fun u1 => ?_) ..
  refine Kept.seq (State.writeRow_kept ..) ?_
  exact Kept.refl _

theorem execSaddleTrainRequest_kept (dt_a m_a sub_a value_a s_a) : KeptR s_a (execSaddleTrainRequest dt_a m_a sub_a value_a s_a) := by
  unfold execSaddleTrainRequest
  refine act_kept (hk2 := fun u1 => ?_) ..
  refine Kept.seq (State.writeRow_kept ..) ?_
  exact Kept.refl _

theorem execClipDelete_kept (dt_a m_a sub_a value_a s_a) : KeptR s_a (execClipDelete dt_a m_a sub_a value_a s_a) := by
  unfold execClipDelete
  refine act_kept (hk2 := fun u1 => ?_) ..
  refine Kept.seq (State.writeRow_kept ..) ?_
  exact Kept.refl _

theorem execMonClear_kept (dt_a m_a sub_a value_a s_a) : KeptR s_a (execMonClear dt_a m_a sub_a value_a s_a) := by
  unfold execMonClear
  refine act_kept (hk2 := fun u1 => ?_) ..
  refine Kept.seq (State.writeRow_kept ..) ?_
  exact Kept.refl _

theorem execLatencyClear_kept (dt_a m_a sub_a value_a s_a) : KeptR s_a (execLatencyClear dt_a m_a sub_a value_a s_a) := by
  unfold execLatencyClear
  refine act_kept (hk2 := fun u1 => ?_) ..
  refine Kept.seq (State.writeRow_kept ..) ?_
  exact Kept.refl _

theorem execRoleKeyChanged_kept (dt_a m_a sub_a value_a s_a) : KeptR s_a (execRoleKeyChanged dt_a m_a sub_a value_a s_a) := by
  unfold execRoleKeyChanged
  refine act_kept (hk2 := fun u1 => ?_) ..
  refine Kept.seq (State.writeRow_kept ..) ?_
  exact Kept.refl _

theorem execHealthClear_kept (dt_a m_a value_a s_a) : KeptR s_a (execHealthClear dt_a m_a value_a s_a) := by
  unfold execHealthClear
  refine act_kept (hk2 := fun u1 => ?_) ..
  refine Kept.seq (State.writeRow_kept ..) ?_
  exact Kept.refl _

theorem execWsTimeSet_kept (dt_a m_a value_a s_a) : KeptR s_a (execWsTimeSet dt_a m_a value_a s_a) := by
  unfold execWsTimeSet
  refine act_kept (hk2 := fun u1 => ?_) ..
  refine Kept.seq (State.writeRow_kept ..) ?_
  exact Kept.refl _

theorem execWsHoldoverReset_kept (dt_a m_a value_a s_a) : KeptR s_a (execWsHoldoverReset dt_a m_a value_a s_a) := by
  unfold execWsHoldoverReset
  refine act_kept (hk2 := fun u1 => ?_) ..
  refine Kept.seq (State.writeRow_kept ..) ?_
  exact Kept.refl _

theorem execWsHistoryClear_kept (dt_a m_a value_a s_a) : KeptR s_a (execWsHistoryClear dt_a m_a value_a s_a) := by
  unfold execWsHistoryClear
  refine act_kept (hk2 := fun u1 => ?_) ..
  refine Kept.seq (State.writeRow_kept ..) ?_
  exact Kept.refl _

theorem execSaddleRestart_kept (dt_a m_a value_a s_a) : KeptR s_a (execSaddleRestart dt_a m_a value_a s_a) := by
  unfold execSaddleRestart
  refine act_kept (hk2 := fun u1 => ?_) ..
  refine Kept.seq (State.writeRow_kept ..) ?_
  exact Kept.refl _

theorem execMorFormat_kept (dt_a m_a value_a s_a) : KeptR s_a (execMorFormat dt_a m_a value_a s_a) := by
  unfold execMorFormat
  refine act_kept (hk2 := fun u1 => ?_) ..
  refine Kept.seq (State.writeRow_kept ..) ?_
  exact Kept.refl _

theorem execSubscriptionWrite_kept (dt_a m_a value_a s_a) : KeptR s_a (execSubscriptionWrite dt_a m_a value_a s_a) := by
  unfold execSubscriptionWrite
  refine act_kept (hk2 := fun u1 => ?_) ..
  refine Kept.seq (State.writeRow_kept ..) ?_
  exact Kept.refl _

theorem execPhaseHistogramClear_kept (dt_a m_a value_a s_a) : KeptR s_a (execPhaseHistogramClear dt_a m_a value_a s_a) := by
  unfold execPhaseHistogramClear
  refine act_kept (hk2 := fun u1 => ?_) ..
  refine Kept.seq (State.writeRow_kept ..) ?_
  exact Kept.refl _

theorem execLockoutClear_kept (dt_a m_a value_a s_a) : KeptR s_a (execLockoutClear dt_a m_a value_a s_a) := by
  unfold execLockoutClear
  refine act_kept (hk2 := fun u1 => ?_) ..
  refine Kept.seq (State.writeRow_kept ..) ?_
  exact Kept.refl _

theorem execOwnerLockChange_kept (dt_a m_a value_a s_a) : KeptR s_a (execOwnerLockChange dt_a m_a value_a s_a) := by
  unfold execOwnerLockChange
  refine act_kept (hk2 := fun u1 => ?_) ..
  refine Kept.seq (State.writeRow_kept ..) ?_
  exact Kept.refl _

theorem execOwnerKeyProgram_kept (dt_a m_a value_a s_a) : KeptR s_a (execOwnerKeyProgram dt_a m_a value_a s_a) := by
  unfold execOwnerKeyProgram
  refine act_kept (hk2 := fun u1 => ?_) ..
  refine Kept.seq (State.writeRow_kept ..) ?_
  exact Kept.refl _

theorem execOwnerKeyRevoke_kept (dt_a m_a value_a s_a) : KeptR s_a (execOwnerKeyRevoke dt_a m_a value_a s_a) := by
  unfold execOwnerKeyRevoke
  refine act_kept (hk2 := fun u1 => ?_) ..
  refine Kept.seq (State.writeRow_kept ..) ?_
  exact Kept.refl _

theorem execStoreSaveNow_kept (dt_a m_a value_a s_a) : KeptR s_a (execStoreSaveNow dt_a m_a value_a s_a) := by
  unfold execStoreSaveNow
  refine act_kept (hk2 := fun u1 => ?_) ..
  refine Kept.seq (State.writeRow_kept ..) ?_
  exact Kept.refl _

theorem execUpdateBegin_kept (dt_a m_a value_a s_a) : KeptR s_a (execUpdateBegin dt_a m_a value_a s_a) := by
  unfold execUpdateBegin
  refine act_kept (hk2 := fun u1 => ?_) ..
  refine Kept.seq (State.writeRow_kept ..) ?_
  exact Kept.refl _

theorem execUpdateData_kept (dt_a m_a value_a s_a) : KeptR s_a (execUpdateData dt_a m_a value_a s_a) := by
  unfold execUpdateData
  refine act_kept (hk2 := fun u1 => ?_) ..
  refine Kept.seq (State.writeRow_kept ..) ?_
  exact Kept.refl _

theorem execUpdateCommit_kept (dt_a m_a value_a s_a) : KeptR s_a (execUpdateCommit dt_a m_a value_a s_a) := by
  unfold execUpdateCommit
  refine act_kept (hk2 := fun u1 => ?_) ..
  refine Kept.seq (State.writeRow_kept ..) ?_
  exact Kept.refl _

theorem execUpdateActivate_kept (dt_a m_a value_a s_a) : KeptR s_a (execUpdateActivate dt_a m_a value_a s_a) := by
  unfold execUpdateActivate
  refine act_kept (hk2 := fun u1 => ?_) ..
  refine Kept.seq (State.writeRow_kept ..) ?_
  exact Kept.refl _

theorem execUpdateAbort_kept (dt_a m_a value_a s_a) : KeptR s_a (execUpdateAbort dt_a m_a value_a s_a) := by
  unfold execUpdateAbort
  refine act_kept (hk2 := fun u1 => ?_) ..
  refine Kept.seq (State.writeRow_kept ..) ?_
  exact Kept.refl _

theorem execHealthConfirm_kept (dt_a m_a value_a s_a) : KeptR s_a (execHealthConfirm dt_a m_a value_a s_a) := by
  unfold execHealthConfirm
  refine act_kept (hk2 := fun u1 => ?_) ..
  refine Kept.seq (State.writeRow_kept ..) ?_
  exact Kept.refl _

end Sys2Proof.Machine
end

