-- ==== Sys2Proof/Laws/Only.lean ====
section
/-!
SUPPORT. What a function of the model may change: `Only r s t` says that t differs from s in nothing outside the reach r, a list
of parts of the state, of dictionary objects by index and of registers by address.
-/
namespace Sys2Proof.Machine

theorem Part.same_refl (s : State) (p : Part) : p.same s s := by cases p <;> rfl

theorem Part.same_trans {s t u : State} {p : Part} (h : p.same t u) (g : p.same s t) : p.same s u := by
  cases p <;> exact Eq.trans h g

/-- One reach lies within another. -/
abbrev Reach.le (a b : Reach) : Prop :=
  (∀ p ∈ a.parts, p ∈ b.parts) ∧ ((∀ i ∈ a.objs, i ∈ b.objs) ∨ Part.objs ∈ b.parts) ∧
    ((∀ i ∈ a.regs, i ∈ b.regs) ∨ Part.regs ∈ b.parts)

theorem Reach.le_refl (a : Reach) : a.le a := ⟨fun _ => id, .inl fun _ => id, .inl fun _ => id⟩

theorem Reach.le_trans {a b x : Reach} (h : a.le b) (g : b.le x) : a.le x :=
  ⟨fun p k => g.1 p (h.1 p k),
   h.2.1.elim (fun k => g.2.1.elim (fun m => .inl fun i y => m i (k i y)) .inr) (fun k => .inr (g.1 _ k)),
   h.2.2.elim (fun k => g.2.2.elim (fun m => .inl fun i y => m i (k i y)) .inr) (fun k => .inr (g.1 _ k))⟩

/-- A result whose next state differs in nothing outside the reach. -/
structure OnlyR (r : Reach) (s : State) (o : Result) : Prop where
  only : ∀ t, o = .next t → Only r s t

theorem Only.refl (r : Reach) (s : State) : Only r s s :=
  ⟨fun p _ _ _ => p.same_refl s, fun _ _ _ => rfl, fun _ _ _ => rfl⟩

theorem Only.mono {a b : Reach} {s t : State} (h : Only a s t) (g : a.le b) : Only b s t :=
  ⟨fun p hp => h.part p (fun x => hp (g.1 p x)),
   fun hp a ha => h.obj (fun x => hp (g.1 _ x)) a fun x => (g.2.1.elim (fun k => ha (k _ x)) hp),
   fun hp a ha => h.reg (fun x => hp (g.1 _ x)) a fun x => (g.2.2.elim (fun k => ha (k _ x)) hp)⟩

theorem Only.up {a b : Reach} {s t : State} (h : Only a s t) (g : a.le b := by decide) : Only b s t := h.mono g

/-- Outermost first. -/
theorem Only.seq {a r : Reach} {s t u : State} (h : Only a t u) (g : Only r s t) (l : a.le r := by decide) :
    Only r s u :=
  have k := h.mono l
  ⟨fun p hp ho hr => Part.same_trans (k.part p hp ho hr) (g.part p hp ho hr), fun hp i hi => (k.obj hp i hi).trans (g.obj hp i hi),
   fun hp i hi => (k.reg hp i hi).trans (g.reg hp i hi)⟩

theorem Only.ite {p : Prop} [Decidable p] {r : Reach} {s a b : State} (h : Only r s a) (g : Only r s b) :
    Only r s (if p then a else b) := by
  split
  · exact h
  · exact g

theorem Only.cond {p : Bool} {r : Reach} {s a b : State} (h : Only r s a) (g : Only r s b) :
    Only r s (bif p then a else b) := by
  cases p
  · exact g
  · exact h

theorem Only.foldl {α : Type} {r : Reach} {f : State → α → State} {l : List α} {s t : State} (h : ∀ u x, Only r u (f u x))
    (g : Only r s t) : Only r s (l.foldl f t) := by
  induction l generalizing t with
  | nil => exact g
  | cons x l ih => exact ih ((h t x).seq g ⟨fun _ => id, .inl fun _ => id, .inl fun _ => id⟩)

theorem Only.optElim {α : Type} {r : Reach} {o : Option α} {s d : State} {f : α → State} (h : ∀ x, Only r s (f x))
    (g : Only r s d) : Only r s (o.elim d f) := by
  cases o
  · exact g
  · exact h _

theorem Only.snd {α : Type} {r : Reach} {p : α × State} {a : α} {s t : State} (e : p = (a, t)) (h : Only r s p.2) :
    Only r s t := by
  subst e; exact h

theorem Only.mk1 {α : Type} {r : Reach} {a : α} {s t : State} (h : Only r s t) : Only r s (t, a).1 := h

theorem Only.mk2 {α : Type} {r : Reach} {a : α} {s t : State} (h : Only r s t) : Only r s (a, t).2 := h

/-- A record update. -/
theorem Only.upd {r : Reach} {s t : State} (h : ∀ p, p ∈ r.parts ∨ p.same s t) : Only r s t :=
  ⟨fun p hp _ _ => (h p).resolve_left hp,
   fun hp a _ => by have x : t.objs = s.objs := (h .objs).resolve_left hp; rw [x],
   fun hp a _ => by have x : t.regs = s.regs := (h .regs).resolve_left hp; unfold State.reg; rw [x]⟩

theorem OnlyR.next {r : Reach} {s t : State} (h : Only r s t) : OnlyR r s (.next t) := ⟨fun _ e => by cases e; exact h⟩

theorem OnlyR.mono {a b : Reach} {s : State} {o : Result} (h : OnlyR a s o) (g : a.le b) : OnlyR b s o :=
  ⟨fun t e => (h.only t e).mono g⟩

/-! ## The primitives -/

theorem adr_ne {i n a : Nat} (h : adrIndex a ≠ i) : a ≠ adr i n := by
  intro e
  apply h
  rw [e]
  simp only [adrIndex, adr]
  omega

theorem State.setVal_only (s : State) (i n : Nat) (v : Val) : Only ⟨[], [i], []⟩ s (s.setVal i n v) :=
  ⟨fun p _ h _ => by cases p <;> first | rfl | exact absurd rfl h,
   fun _ a h => storeGet_storeSet_ne _ _ _ _ _ (adr_ne fun e => h (e ▸ List.mem_singleton.mpr rfl)),
   fun _ _ _ => rfl⟩

theorem State.setReg_only (s : State) (a : Nat) (v : Word) : Only ⟨[], [], [a]⟩ s (s.setReg a v) :=
  ⟨fun p _ _ h => by cases p <;> first | rfl | exact absurd rfl h,
   fun _ _ _ => rfl,
   fun _ b h => storeGet_storeSet_ne _ _ _ _ _ fun e => h (e ▸ List.mem_singleton.mpr rfl)⟩

theorem State.setMemByte_only (s : State) (a : Nat) (b : Byte) : Only ⟨[.mem], [], []⟩ s (s.setMemByte a b) :=
  Only.upd fun p => by cases p <;> first | exact .inr rfl | exact .inl (by decide)

theorem State.setMem_only (s : State) (a : Nat) (l : List Byte) : Only ⟨[.mem], [], []⟩ s (s.setMem a l) := by
  induction l generalizing s a with
  | nil => exact Only.refl _ s
  | cons b l ih => exact (ih _ _).seq (State.setMemByte_only s a b) (by decide)

theorem State.setFlashByte_only (s : State) (a : Nat) (b : Byte) : Only ⟨[.flash], [], []⟩ s (s.setFlashByte a b) :=
  Only.upd fun p => by cases p <;> first | exact .inr rfl | exact .inl (by decide)

theorem State.program_only (s : State) (a : Nat) (l : List Byte) : Only ⟨[.flash], [], []⟩ s (s.program a l) := by
  induction l generalizing s a with
  | nil => exact Only.refl _ s
  | cons b l ih => exact (ih _ _).seq (State.setFlashByte_only s a _) (by decide)

theorem State.draw_only (s : State) : Only ⟨[.fresh], [], []⟩ s s.draw.2 :=
  Only.upd fun p => by cases p <;> first | exact .inr rfl | exact .inl (by decide)

theorem State.drawBytes_only (s : State) (n : Nat) : Only ⟨[.fresh], [], []⟩ s (s.drawBytes n).2 :=
  Only.upd fun p => by cases p <;> first | exact .inr rfl | exact .inl (by decide)

theorem State.tick_only (s : State) (dt : Nat) : Only ⟨[.out, .now, .tc], [], []⟩ s (s.tick dt) :=
  Only.upd fun p => by cases p <;> first | exact .inr rfl | exact .inl (by decide)

theorem act_only {r : Reach} (dt : Nat) (s : State) (f : State → State) (hk2 : ∀ t, Only r t (f t))
    (l : Reach.le ⟨[.out, .now, .tc], [], []⟩ r) : OnlyR r s (act dt s f) :=
  .next (.ite ((s.tick_only dt).mono l) ((hk2 _).seq ((s.tick_only dt).mono l) ⟨fun _ => id, .inl fun _ => id, .inl fun _ => id⟩))

theorem actAlways_only {r : Reach} (dt : Nat) (s : State) (f : State → State) (hk2 : ∀ t, Only r t (f t))
    (l : Reach.le ⟨[.out, .now, .tc], [], []⟩ r) : OnlyR r s (actAlways dt s f) :=
  .next ((hk2 _).seq ((s.tick_only dt).mono l) ⟨fun _ => id, .inl fun _ => id, .inl fun _ => id⟩)

end Sys2Proof.Machine
end

