-- ==== Sys2Proof/Laws/OnlyOps.lean ====
section
/-!
SUPPORT. What the functions of Machine/Ops.lean may change (`Only` of Laws/Only.lean).
-/
namespace Sys2Proof.Machine
set_option Elab.async false

theorem State.setN_only (s_a index_a sub_a n_a) : Only ⟨[], [index_a], []⟩ s_a (State.setN s_a index_a sub_a n_a) := by
  unfold State.setN
  refine Only.seq (State.setVal_only ..) ?_ (by simp [Reach.le])
  exact Only.refl _ _

theorem State.setI_only (s_a index_a sub_a i_a) : Only ⟨[], [index_a], []⟩ s_a (State.setI s_a index_a sub_a i_a) := by
  unfold State.setI
  refine Only.seq (State.setVal_only ..) ?_ (by simp [Reach.le])
  exact Only.refl _ _

theorem State.setB_only (s_a index_a sub_a b_a) : Only ⟨[], [index_a], []⟩ s_a (State.setB s_a index_a sub_a b_a) := by
  unfold State.setB
  refine Only.seq (State.setN_only ..) ?_ (by simp [Reach.le])
  exact Only.refl _ _

theorem State.setBy_only (s_a index_a sub_a b_a) : Only ⟨[], [index_a], []⟩ s_a (State.setBy s_a index_a sub_a b_a) := by
  unfold State.setBy
  refine Only.seq (State.setVal_only ..) ?_ (by simp [Reach.le])
  exact Only.refl _ _

theorem State.setBitN_only (s_a index_a sub_a k_a b_a) : Only ⟨[], [index_a], []⟩ s_a (State.setBitN s_a index_a sub_a k_a b_a) := by
  unfold State.setBitN
  refine Only.seq (State.setN_only ..) ?_ (by simp [Reach.le])
  exact Only.refl _ _

theorem State.toDefault_only (s_a index_a sub_a) : Only ⟨[], [index_a], []⟩ s_a (State.toDefault s_a index_a sub_a) := by
  unfold State.toDefault
  refine Only.seq (State.setVal_only ..) ?_ (by simp [Reach.le])
  exact Only.refl _ _

theorem State.setRegN_only (s_a addr_a v_a) : Only ⟨[], [], [addr_a]⟩ s_a (State.setRegN s_a addr_a v_a) := by
  unfold State.setRegN
  refine Only.seq (State.setReg_only ..) ?_ (by simp [Reach.le])
  exact Only.refl _ _

theorem State.setRegBit_only (s_a addr_a k_a b_a) : Only ⟨[], [], [addr_a]⟩ s_a (State.setRegBit s_a addr_a k_a b_a) := by
  unfold State.setRegBit
  refine Only.seq (State.setRegN_only ..) ?_ (by simp [Reach.le])
  exact Only.refl _ _

theorem State.setRegField_only (s_a addr_a lo_a hi_a v_a) : Only ⟨[], [], [addr_a]⟩ s_a (State.setRegField s_a addr_a lo_a hi_a v_a) := by
  unfold State.setRegField
  refine Only.seq (State.setRegN_only ..) ?_ (by simp [Reach.le])
  exact Only.refl _ _

theorem State.busWrite_only (s_a addr_a v_a) : Only ⟨[], [], [addr_a]⟩ s_a (State.busWrite s_a addr_a v_a) := by
  unfold State.busWrite
  split
  · exact Only.refl _ _
  · extract_lets +onlyGivenNames x1
    extract_lets +onlyGivenNames x2
    extract_lets +onlyGivenNames x3
    extract_lets +onlyGivenNames x4
    refine Only.seq (State.setRegN_only ..) ?_ (by simp [Reach.le])
    exact Only.refl _ _

theorem State.erase_only (s_a a_a n_a) : Only ⟨[.flash], [], []⟩ s_a (State.erase s_a a_a n_a) := by
  unfold State.erase
  refine Only.seq (Only.upd (r := ⟨[.flash], [], []⟩) (s := s_a) (fun p => by cases p <;> first | exact .inr rfl | exact .inl (by decide))) ?_ (by decide)
  exact Only.refl _ _

theorem State.emit_only (s_a o_a) : Only ⟨[.out], [], []⟩ s_a (State.emit s_a o_a) := by
  unfold State.emit
  refine Only.seq (Only.upd (r := ⟨[.out], [], []⟩) (s := s_a) (fun p => by cases p <;> first | exact .inr rfl | exact .inl (by decide))) ?_ (by decide)
  exact Only.refl _ _

end Sys2Proof.Machine
end

