-- ==== Sys2Proof/Laws/OnlyFlags.lean ====
section
/-!
SUPPORT. What the functions of Machine/Flags.lean may change (`Only` of Laws/Only.lean).
-/
namespace Sys2Proof.Machine
set_option Elab.async false

theorem State.journal_only (s_a kind_a data_a) : Only ⟨[.diskJournal], [], []⟩ s_a (State.journal s_a kind_a data_a) := by
  unfold State.journal
  refine Only.ite ?_ ?_
  · exact Only.refl _ _
  · refine Only.seq (Only.upd (r := ⟨[.diskJournal], [], []⟩) (s := s_a) (fun p => by cases p <;> first | exact .inr rfl | exact .inl (by decide))) ?_ (by decide)
    exact Only.refl _ _

theorem State.flashJournal_only (s_a kind_a data_a) : Only ⟨[.flashJournal], [], []⟩ s_a (State.flashJournal s_a kind_a data_a) := by
  unfold State.flashJournal
  refine Only.seq (Only.upd (r := ⟨[.flashJournal], [], []⟩) (s := s_a) (fun p => by cases p <;> first | exact .inr rfl | exact .inl (by decide))) ?_ (by decide)
  exact Only.refl _ _

theorem State.setEvPin_only (s_a n_a p_a) : Only ⟨[.out, .ev], [], []⟩ s_a (State.setEvPin s_a n_a p_a) := by
  unfold State.setEvPin
  extract_lets +onlyGivenNames x1
  extract_lets +onlyGivenNames x2
  extract_lets +onlyGivenNames x3
  have hx3 : Only ⟨[.out, .ev], [], []⟩ s_a x3 := by
    subst x3
    refine Only.ite ?_ ?_
    · refine Only.seq (Only.upd (r := ⟨[.ev], [], []⟩) (s := s_a) (fun p => by cases p <;> first | exact .inr rfl | exact .inl (by decide))) ?_ (by decide)
      exact Only.refl _ _
    · refine Only.seq (Only.upd (r := ⟨[.ev], [], []⟩) (s := s_a) (fun p => by cases p <;> first | exact .inr rfl | exact .inl (by decide))) ?_ (by decide)
      exact Only.refl _ _
  clear_value x3
  refine Only.ite ?_ ?_
  · refine Only.seq (State.emit_only ..) ?_ (by decide)
    exact hx3
  · exact hx3

theorem State.assertPin_only (s_a n_a source_a) : Only ⟨[.out, .ev], [], []⟩ s_a (State.assertPin s_a n_a source_a) := by
  unfold State.assertPin
  extract_lets +onlyGivenNames x1
  refine Only.ite ?_ ?_
  · refine Only.seq (State.setEvPin_only ..) ?_ (by decide)
    exact Only.refl _ _
  · split
    · refine Only.ite ?_ ?_
      · exact Only.refl _ _
      · refine Only.seq (State.setEvPin_only ..) ?_ (by decide)
        exact Only.refl _ _
    · refine Only.seq (State.setEvPin_only ..) ?_ (by decide)
      exact Only.refl _ _

theorem State.count64_only (s_a index_a sub_a by__a) : Only ⟨[], [index_a], []⟩ s_a (State.count64 s_a index_a sub_a by__a) := by
  unfold State.count64
  refine Only.seq (State.setN_only ..) ?_ (by simp [Reach.le])
  exact Only.refl _ _

theorem State.setPinned_only (s_a a_a) : Only ⟨[.pinned], [], []⟩ s_a (State.setPinned s_a a_a) := by
  unfold State.setPinned
  refine Only.ite ?_ ?_
  · exact Only.refl _ _
  · refine Only.seq (Only.upd (r := ⟨[.pinned], [], []⟩) (s := s_a) (fun p => by cases p <;> first | exact .inr rfl | exact .inl (by decide))) ?_ (by decide)
    exact Only.refl _ _

theorem State.evPush_only (s_a r_a) : Only ⟨[.ev], [], [0x40000004, 0x40000008]⟩ s_a (State.evPush s_a r_a) := by
  unfold State.evPush
  refine Only.ite ?_ ?_
  · refine Only.seq (Only.upd (r := ⟨[.ev], [], []⟩) (s := s_a) (fun p => by cases p <;> first | exact .inr rfl | exact .inl (by decide))) ?_ (by decide)
    exact Only.refl _ _
  · extract_lets +onlyGivenNames x1
    extract_lets +onlyGivenNames x2
    extract_lets +onlyGivenNames x3
    have hx3 : Only ⟨[.ev], [], [0x40000004, 0x40000008]⟩ s_a x3 := by
      subst x3
      refine Only.seq (Only.upd (r := ⟨[.ev], [], []⟩) (s := s_a) (fun p => by cases p <;> first | exact .inr rfl | exact .inl (by decide))) ?_ (by decide)
      exact Only.refl _ _
    clear_value x3
    extract_lets +onlyGivenNames x4
    have hx4 : Only ⟨[.ev], [], [0x40000004, 0x40000008]⟩ s_a x4 := by
      subst x4
      refine Only.seq (State.setRegBit_only ..) ?_ (by decide)
      exact hx3
    clear_value x4
    refine Only.ite ?_ ?_
    · refine Only.seq (State.setRegN_only ..) ?_ (by decide)
      exact hx4
    · exact hx4

theorem State.raiseOnce_only (s_a source_a subject_a) : Only ⟨[.out, .ev, .flashJournal, .diskJournal], [Obj.eventCount, Obj.eventLastAt, Obj.eventLastSubject], [0x40000004, 0x40000008]⟩ s_a (State.raiseOnce s_a source_a subject_a) := by
  unfold State.raiseOnce
  extract_lets +onlyGivenNames x1
  have hx1 : Only ⟨[.out, .ev, .flashJournal, .diskJournal], [Obj.eventCount, Obj.eventLastAt, Obj.eventLastSubject], [0x40000004, 0x40000008]⟩ s_a x1 := by
    subst x1
    refine Only.seq (State.count64_only ..) ?_ (by decide)
    exact Only.refl _ _
  clear_value x1
  extract_lets +onlyGivenNames x2
  have hx2 : Only ⟨[.out, .ev, .flashJournal, .diskJournal], [Obj.eventCount, Obj.eventLastAt, Obj.eventLastSubject], [0x40000004, 0x40000008]⟩ s_a x2 := by
    subst x2
    refine Only.seq (State.setN_only ..) ?_ (by decide)
    exact hx1
  clear_value x2
  extract_lets +onlyGivenNames x3
  have hx3 : Only ⟨[.out, .ev, .flashJournal, .diskJournal], [Obj.eventCount, Obj.eventLastAt, Obj.eventLastSubject], [0x40000004, 0x40000008]⟩ s_a x3 := by
    subst x3
    refine Only.seq (State.setN_only ..) ?_ (by decide)
    exact hx2
  clear_value x3
  extract_lets +onlyGivenNames x4
  have hx4 : Only ⟨[.out, .ev, .flashJournal, .diskJournal], [Obj.eventCount, Obj.eventLastAt, Obj.eventLastSubject], [0x40000004, 0x40000008]⟩ s_a x4 := by
    subst x4
    refine Only.seq (State.evPush_only ..) ?_ (by decide)
    exact hx3
  clear_value x4
  extract_lets +onlyGivenNames x5
  extract_lets +onlyGivenNames x6
  have hx6 : Only ⟨[.out, .ev, .flashJournal, .diskJournal], [Obj.eventCount, Obj.eventLastAt, Obj.eventLastSubject], [0x40000004, 0x40000008]⟩ s_a x6 := by
    subst x6
    refine Only.ite ?_ ?_
    · refine Only.seq (State.assertPin_only ..) ?_ (by decide)
      exact hx4
    · exact hx4
  clear_value x6
  extract_lets +onlyGivenNames x7
  have hx7 : Only ⟨[.out, .ev, .flashJournal, .diskJournal], [Obj.eventCount, Obj.eventLastAt, Obj.eventLastSubject], [0x40000004, 0x40000008]⟩ s_a x7 := by
    subst x7
    refine Only.ite ?_ ?_
    · refine Only.seq (State.assertPin_only ..) ?_ (by decide)
      exact hx6
    · exact hx6
  clear_value x7
  extract_lets +onlyGivenNames x8
  have hx8 : Only ⟨[.out, .ev, .flashJournal, .diskJournal], [Obj.eventCount, Obj.eventLastAt, Obj.eventLastSubject], [0x40000004, 0x40000008]⟩ s_a x8 := by
    subst x8
    refine Only.seq (State.journal_only ..) ?_ (by decide)
    exact hx7
  clear_value x8
  refine Only.ite ?_ ?_
  · refine Only.seq (State.flashJournal_only ..) ?_ (by decide)
    exact hx8
  · exact hx8

theorem State.raise_only (s_a source_a subject_a) : Only ⟨[.out, .pinned, .ev, .flashJournal, .diskJournal], [Obj.eventCount, Obj.eventLastAt, Obj.eventLastSubject], [0x40000004, 0x40000008]⟩ s_a (State.raise s_a source_a subject_a) := by
  unfold State.raise
  extract_lets +onlyGivenNames x1
  extract_lets +onlyGivenNames x2
  extract_lets +onlyGivenNames x3
  have hx3 : Only ⟨[.out, .pinned, .ev, .flashJournal, .diskJournal], [Obj.eventCount, Obj.eventLastAt, Obj.eventLastSubject], [0x40000004, 0x40000008]⟩ s_a x3 := by
    subst x3
    refine Only.seq (State.raiseOnce_only ..) ?_ (by decide)
    exact Only.refl _ _
  clear_value x3
  refine Only.ite ?_ ?_
  · refine Only.seq (State.raiseOnce_only ..) ?_ (by decide)
    refine Only.seq (State.setPinned_only ..) ?_ (by decide)
    exact hx3
  · exact hx3

theorem State.raiseLimited_only (s_a source_a scope_a subject_a) : Only ⟨[.out, .pinned, .ev, .flashJournal, .diskJournal], [Obj.eventCount, Obj.eventLastAt, Obj.eventLastSubject], [0x40000004, 0x40000008]⟩ s_a (State.raiseLimited s_a source_a scope_a subject_a) := by
  unfold State.raiseLimited
  extract_lets +onlyGivenNames x1
  extract_lets +onlyGivenNames x2
  refine Only.ite ?_ ?_
  · exact Only.refl _ _
  · extract_lets +onlyGivenNames x3
    have hx3 : Only ⟨[.out, .pinned, .ev, .flashJournal, .diskJournal], [Obj.eventCount, Obj.eventLastAt, Obj.eventLastSubject], [0x40000004, 0x40000008]⟩ s_a x3 := by
      subst x3
      refine Only.seq (State.raise_only ..) ?_ (by decide)
      exact Only.refl _ _
    clear_value x3
    refine Only.seq (Only.upd (r := ⟨[.ev], [], []⟩) (s := x3) (fun p => by cases p <;> first | exact .inr rfl | exact .inl (by decide))) ?_ (by decide)
    exact hx3

theorem State.bump_only (s_a index_a sub_a by__a) : Only ⟨[.out, .pinned, .ev, .flashJournal, .diskJournal], [index_a, Obj.eventCount, Obj.eventLastAt, Obj.eventLastSubject], [0x40000004, 0x40000008]⟩ s_a (State.bump s_a index_a sub_a by__a) := by
  unfold State.bump
  extract_lets +onlyGivenNames x1
  extract_lets +onlyGivenNames x2
  extract_lets +onlyGivenNames x3
  refine Only.ite ?_ ?_
  · refine Only.seq (State.setN_only ..) ?_ (by simp [Reach.le])
    exact Only.refl _ _
  · refine Only.ite ?_ ?_
    · refine Only.seq (State.setN_only ..) ?_ (by simp [Reach.le])
      exact Only.refl _ _
    · refine Only.seq (State.raise_only ..) ?_ (by simp [Reach.le])
      refine Only.seq (State.setPinned_only ..) ?_ (by simp [Reach.le])
      refine Only.seq (State.setN_only ..) ?_ (by simp [Reach.le])
      exact Only.refl _ _

theorem State.clearCounter_only (s_a index_a sub_a) : Only ⟨[.pinned], [index_a], []⟩ s_a (State.clearCounter s_a index_a sub_a) := by
  unfold State.clearCounter
  extract_lets +onlyGivenNames x1
  extract_lets +onlyGivenNames x2
  have hx2 : Only ⟨[.pinned], [index_a], []⟩ s_a x2 := by
    subst x2
    refine Only.seq (State.toDefault_only ..) ?_ (by simp [Reach.le])
    exact Only.refl _ _
  clear_value x2
  refine Only.seq (Only.upd (r := ⟨[.pinned], [], []⟩) (s := x2) (fun p => by cases p <;> first | exact .inr rfl | exact .inl (by decide))) ?_ (by simp [Reach.le])
  exact hx2

theorem State.clearCounters_only (s_a indices_a sub_a) : Only ⟨[.objs, .pinned], [], []⟩ s_a (State.clearCounters s_a indices_a sub_a) := by
  unfold State.clearCounters
  refine Only.foldl (fun u1 x2 => ?_) ?_
  · refine Only.seq (State.clearCounter_only ..) ?_ (by simp [Reach.le])
    exact Only.refl _ _
  · exact Only.refl _ _

theorem State.bumpReg_only (s_a addr_a by__a) : Only ⟨[.out, .pinned, .ev, .flashJournal, .diskJournal], [Obj.eventCount, Obj.eventLastAt, Obj.eventLastSubject], [addr_a, 0x40000004, 0x40000008]⟩ s_a (State.bumpReg s_a addr_a by__a) := by
  unfold State.bumpReg
  extract_lets +onlyGivenNames x1
  extract_lets +onlyGivenNames x2
  refine Only.ite ?_ ?_
  · refine Only.seq (State.setRegN_only ..) ?_ (by simp [Reach.le])
    exact Only.refl _ _
  · refine Only.ite ?_ ?_
    · exact Only.refl _ _
    · refine Only.seq (State.raise_only ..) ?_ (by simp [Reach.le])
      refine Only.seq (State.setRegN_only ..) ?_ (by simp [Reach.le])
      exact Only.refl _ _

theorem State.setReason_only (s_a k_a v_a) : Only ⟨[.out, .pinned, .ev, .flashJournal, .diskJournal], [Obj.healthReasons, Obj.healthState, Obj.eventCount, Obj.eventLastAt, Obj.eventLastSubject], [0x40000004, 0x40000008]⟩ s_a (State.setReason s_a k_a v_a) := by
  unfold State.setReason
  extract_lets +onlyGivenNames x1
  extract_lets +onlyGivenNames x2
  have hx2 : Only ⟨[.out, .pinned, .ev, .flashJournal, .diskJournal], [Obj.healthReasons, Obj.healthState, Obj.eventCount, Obj.eventLastAt, Obj.eventLastSubject], [0x40000004, 0x40000008]⟩ s_a x2 := by
    subst x2
    refine Only.seq (State.setBitN_only ..) ?_ (by decide)
    exact Only.refl _ _
  clear_value x2
  extract_lets +onlyGivenNames x3
  extract_lets +onlyGivenNames x4
  have hx4 : Only ⟨[.out, .pinned, .ev, .flashJournal, .diskJournal], [Obj.healthReasons, Obj.healthState, Obj.eventCount, Obj.eventLastAt, Obj.eventLastSubject], [0x40000004, 0x40000008]⟩ s_a x4 := by
    subst x4
    refine Only.seq (State.setN_only ..) ?_ (by decide)
    exact hx2
  clear_value x4
  refine Only.ite ?_ ?_
  · exact hx4
  · refine Only.seq (State.raise_only ..) ?_ (by decide)
    exact hx4

end Sys2Proof.Machine
end

