-- ==== Sys2Proof/Laws/OnlySlots.lean ====
section
/-!
SUPPORT. What the functions of Machine/Slots.lean may change (`Only` of Laws/Only.lean).
-/
namespace Sys2Proof.Machine
set_option Elab.async false

theorem State.onlyIf_only {r : Reach} (s_a c_a f_a) (hk2 : ∀ y0, Only r y0 (f_a y0)) (l : Reach.le ⟨[], [], []⟩ r) : Only r s_a (State.onlyIf s_a c_a f_a) := by
  unfold State.onlyIf
  refine Only.ite ?_ ?_
  · refine Only.seq (hk2 ..) ?_ (Reach.le_refl _)
    exact Only.refl _ _
  · exact Only.refl _ _

theorem actIf_only {r : Reach} (dt_a s_a c_a f_a) (hk3 : ∀ y0, Only r y0 (f_a y0)) (l : Reach.le ⟨[.out, .now, .tc], [], []⟩ r) : OnlyR r s_a (actIf dt_a s_a c_a f_a) := by
  unfold actIf
  refine act_only (hk2 := fun u1 => ?_) (l := (Reach.le_trans (b := ⟨[.out, .now, .tc], [], []⟩) (by decide) l)) ..
  refine Only.seq (State.onlyIf_only (hk2 := fun u2 => ?_) (l := (Reach.le_trans (b := ⟨[.out, .now, .tc], [], []⟩) (by decide) l)) ..) ?_ (Reach.le_refl _)
  · refine Only.seq (hk3 ..) ?_ (Reach.le_refl _)
    exact Only.refl _ _
  · exact Only.refl _ _

theorem State.setSrc_only (s_a slot_a x_a) : Only ⟨[.ridge], [], []⟩ s_a (State.setSrc s_a slot_a x_a) := by
  unfold State.setSrc
  refine Only.seq (Only.upd (r := ⟨[.ridge], [], []⟩) (s := s_a) (fun p => by cases p <;> first | exact .inr rfl | exact .inl (by decide))) ?_ (by decide)
  exact Only.refl _ _

theorem State.abandonFrame_only (s_a slot_a) : Only ⟨[.out, .pinned, .ev, .flashJournal, .ridge, .diskJournal], [Obj.srcFramesAbandoned, Obj.eventCount, Obj.eventLastAt, Obj.eventLastSubject], [0x40000004, 0x40000008]⟩ s_a (State.abandonFrame s_a slot_a) := by
  unfold State.abandonFrame
  split
  · refine Only.seq (State.bump_only ..) ?_ (by decide)
    refine Only.seq (State.setSrc_only ..) ?_ (by decide)
    exact Only.refl _ _
  · exact Only.refl _ _

theorem State.finishFrame_only (s_a slot_a seq_a) : Only ⟨[.out, .pinned, .ev, .flashJournal, .ridge, .diskJournal], [Obj.srcLiveFormat, Obj.srcFramesWritten, Obj.eventCount, Obj.eventLastAt, Obj.eventLastSubject], [0x40000004, 0x40000008]⟩ s_a (State.finishFrame s_a slot_a seq_a) := by
  unfold State.finishFrame
  split
  · extract_lets +onlyGivenNames x1
    extract_lets +onlyGivenNames x2
    refine Only.seq (State.bump_only ..) ?_ (by decide)
    refine Only.seq (State.setN_only ..) ?_ (by decide)
    refine Only.seq (State.setSrc_only ..) ?_ (by decide)
    exact Only.refl _ _
  · exact Only.refl _ _

theorem State.finishTimed_only (s_a slot_a) : Only ⟨[.out, .pinned, .ev, .flashJournal, .ridge, .diskJournal], [Obj.srcLiveFormat, Obj.srcFramesWritten, Obj.eventCount, Obj.eventLastAt, Obj.eventLastSubject], [0x40000004, 0x40000008]⟩ s_a (State.finishTimed s_a slot_a) := by
  unfold State.finishTimed
  refine Only.foldl (fun u1 x2 => ?_) ?_
  · refine Only.seq (State.finishFrame_only ..) ?_ (by decide)
    exact Only.refl _ _
  · exact Only.refl _ _

theorem State.abandonBefore_only (s_a slot_a w_a) : Only ⟨[.out, .pinned, .ev, .flashJournal, .ridge, .diskJournal], [Obj.srcFramesAbandoned, Obj.eventCount, Obj.eventLastAt, Obj.eventLastSubject], [0x40000004, 0x40000008]⟩ s_a (State.abandonBefore s_a slot_a w_a) := by
  unfold State.abandonBefore
  split
  · refine Only.seq (State.bump_only ..) ?_ (by decide)
    refine Only.seq (State.setSrc_only ..) ?_ (by decide)
    exact Only.refl _ _
  · exact Only.refl _ _

theorem State.startFrame_only (s_a slot_a f_a) : Only ⟨[.out, .pinned, .ev, .flashJournal, .ridge, .diskJournal], [Obj.srcLiveFormat, Obj.srcFramesWritten, Obj.eventCount, Obj.eventLastAt, Obj.eventLastSubject, Obj.srcFramesAbandoned], [0x40000004, 0x40000008]⟩ s_a (State.startFrame s_a slot_a f_a) := by
  unfold State.startFrame
  extract_lets +onlyGivenNames x1
  have hx1 : Only ⟨[.out, .pinned, .ev, .flashJournal, .ridge, .diskJournal], [Obj.srcLiveFormat, Obj.srcFramesWritten, Obj.eventCount, Obj.eventLastAt, Obj.eventLastSubject, Obj.srcFramesAbandoned], [0x40000004, 0x40000008]⟩ s_a x1 := by
    subst x1
    refine Only.seq (State.abandonBefore_only ..) ?_ (by decide)
    refine Only.seq (State.finishTimed_only ..) ?_ (by decide)
    exact Only.refl _ _
  clear_value x1
  extract_lets +onlyGivenNames x2
  extract_lets +onlyGivenNames x3
  refine Only.seq (State.setSrc_only ..) ?_ (by decide)
  exact hx1

theorem State.refreshColour_only (s_a slot_a f_a) : Only ⟨[.out, .pinned, .ev, .flashJournal, .diskJournal], [Obj.srcColourLive, Obj.eventCount, Obj.eventLastAt, Obj.eventLastSubject], [0x40000004, 0x40000008]⟩ s_a (State.refreshColour s_a slot_a f_a) := by
  unfold State.refreshColour
  extract_lets +onlyGivenNames x1
  refine Only.ite ?_ ?_
  · exact Only.refl _ _
  · extract_lets +onlyGivenNames x2
    have hx2 : Only ⟨[.out, .pinned, .ev, .flashJournal, .diskJournal], [Obj.srcColourLive, Obj.eventCount, Obj.eventLastAt, Obj.eventLastSubject], [0x40000004, 0x40000008]⟩ s_a x2 := by
      subst x2
      refine Only.seq (State.setN_only ..) ?_ (by decide)
      exact Only.refl _ _
    clear_value x2
    refine Only.ite ?_ ?_
    · refine Only.seq (State.raise_only ..) ?_ (by decide)
      exact hx2
    · exact hx2

theorem State.refreshSlot_only (s_a slot_a) : Only ⟨[.out, .pinned, .ev, .flashJournal, .ridge, .diskJournal], [Obj.srcFeedKind, Obj.srcState, Obj.srcReservationStatus, Obj.eventCount, Obj.eventLastAt, Obj.eventLastSubject, Obj.srcFramesAbandoned, Obj.srcColourLive], [0x40000004, 0x40000008]⟩ s_a (State.refreshSlot s_a slot_a) := by
  unfold State.refreshSlot
  extract_lets +onlyGivenNames x1
  extract_lets +onlyGivenNames x2
  extract_lets +onlyGivenNames x3
  extract_lets +onlyGivenNames x4
  extract_lets +onlyGivenNames x5
  extract_lets +onlyGivenNames x6
  extract_lets +onlyGivenNames x7
  extract_lets +onlyGivenNames x8
  have hx8 : Only ⟨[.out, .pinned, .ev, .flashJournal, .ridge, .diskJournal], [Obj.srcFeedKind, Obj.srcState, Obj.srcReservationStatus, Obj.eventCount, Obj.eventLastAt, Obj.eventLastSubject, Obj.srcFramesAbandoned, Obj.srcColourLive], [0x40000004, 0x40000008]⟩ s_a x8 := by
    subst x8
    refine Only.seq (State.setN_only ..) ?_ (by decide)
    exact Only.refl _ _
  clear_value x8
  extract_lets +onlyGivenNames x9
  have hx9 : Only ⟨[.out, .pinned, .ev, .flashJournal, .ridge, .diskJournal], [Obj.srcFeedKind, Obj.srcState, Obj.srcReservationStatus, Obj.eventCount, Obj.eventLastAt, Obj.eventLastSubject, Obj.srcFramesAbandoned, Obj.srcColourLive], [0x40000004, 0x40000008]⟩ s_a x9 := by
    subst x9
    refine Only.seq (State.setN_only ..) ?_ (by decide)
    exact hx8
  clear_value x9
  extract_lets +onlyGivenNames x10
  have hx10 : Only ⟨[.out, .pinned, .ev, .flashJournal, .ridge, .diskJournal], [Obj.srcFeedKind, Obj.srcState, Obj.srcReservationStatus, Obj.eventCount, Obj.eventLastAt, Obj.eventLastSubject, Obj.srcFramesAbandoned, Obj.srcColourLive], [0x40000004, 0x40000008]⟩ s_a x10 := by
    subst x10
    refine Only.seq (State.setN_only ..) ?_ (by decide)
    exact hx9
  clear_value x10
  extract_lets +onlyGivenNames x11
  have hx11 : Only ⟨[.out, .pinned, .ev, .flashJournal, .ridge, .diskJournal], [Obj.srcFeedKind, Obj.srcState, Obj.srcReservationStatus, Obj.eventCount, Obj.eventLastAt, Obj.eventLastSubject, Obj.srcFramesAbandoned, Obj.srcColourLive], [0x40000004, 0x40000008]⟩ s_a x11 := by
    subst x11
    refine Only.ite ?_ ?_
    · refine Only.seq (State.raise_only ..) ?_ (by decide)
      exact hx10
    · exact hx10
  clear_value x11
  extract_lets +onlyGivenNames x12
  extract_lets +onlyGivenNames x13
  have hx13 : Only ⟨[.out, .pinned, .ev, .flashJournal, .ridge, .diskJournal], [Obj.srcFeedKind, Obj.srcState, Obj.srcReservationStatus, Obj.eventCount, Obj.eventLastAt, Obj.eventLastSubject, Obj.srcFramesAbandoned, Obj.srcColourLive], [0x40000004, 0x40000008]⟩ s_a x13 := by
    subst x13
    refine Only.seq (State.abandonFrame_only ..) ?_ (by decide)
    exact hx11
  clear_value x13
  extract_lets +onlyGivenNames x14
  extract_lets +onlyGivenNames x15
  have hx15 : Only ⟨[.out, .pinned, .ev, .flashJournal, .ridge, .diskJournal], [Obj.srcFeedKind, Obj.srcState, Obj.srcReservationStatus, Obj.eventCount, Obj.eventLastAt, Obj.eventLastSubject, Obj.srcFramesAbandoned, Obj.srcColourLive], [0x40000004, 0x40000008]⟩ s_a x15 := by
    subst x15
    refine Only.ite ?_ ?_
    · refine Only.seq (State.raise_only ..) ?_ (by decide)
      refine Only.seq (State.setSrc_only ..) ?_ (by decide)
      exact hx11
    · refine Only.ite ?_ ?_
      · refine Only.seq (State.raise_only ..) ?_ (by decide)
        refine Only.seq (State.setSrc_only ..) ?_ (by decide)
        exact hx13
      · exact hx11
  clear_value x15
  refine Only.seq (State.refreshColour_only ..) ?_ (by decide)
  exact hx15

theorem State.refreshSlots_only (s_a l_a) : Only ⟨[.out, .pinned, .ev, .flashJournal, .ridge, .diskJournal], [Obj.srcFeedKind, Obj.srcState, Obj.srcReservationStatus, Obj.eventCount, Obj.eventLastAt, Obj.eventLastSubject, Obj.srcFramesAbandoned, Obj.srcColourLive], [0x40000004, 0x40000008]⟩ s_a (State.refreshSlots s_a l_a) := by
  unfold State.refreshSlots
  refine Only.foldl (fun u1 x2 => ?_) ?_
  · refine Only.seq (State.refreshSlot_only ..) ?_ (by decide)
    exact Only.refl _ _
  · exact Only.refl _ _

theorem State.settle_only (s_a slot_a) : Only ⟨[.out, .pinned, .ev, .flashJournal, .ridge, .diskJournal], [Obj.srcLiveFormat, Obj.srcFramesWritten, Obj.eventCount, Obj.eventLastAt, Obj.eventLastSubject, Obj.srcFeedKind, Obj.srcState, Obj.srcReservationStatus, Obj.srcFramesAbandoned, Obj.srcColourLive], [0x40000004, 0x40000008]⟩ s_a (State.settle s_a slot_a) := by
  unfold State.settle
  extract_lets +onlyGivenNames x1
  have hx1 : Only ⟨[.out, .pinned, .ev, .flashJournal, .ridge, .diskJournal], [Obj.srcLiveFormat, Obj.srcFramesWritten, Obj.eventCount, Obj.eventLastAt, Obj.eventLastSubject, Obj.srcFeedKind, Obj.srcState, Obj.srcReservationStatus, Obj.srcFramesAbandoned, Obj.srcColourLive], [0x40000004, 0x40000008]⟩ s_a x1 := by
    subst x1
    refine Only.seq (State.finishTimed_only ..) ?_ (by decide)
    exact Only.refl _ _
  clear_value x1
  refine Only.ite ?_ ?_
  · exact Only.refl _ _
  · refine Only.ite ?_ ?_
    · refine Only.seq (State.refreshSlot_only ..) ?_ (by decide)
      exact hx1
    · exact hx1

end Sys2Proof.Machine
end

