-- ==== Sys2Proof/Laws/OnlyDests.lean ====
section
/-!
SUPPORT. What the functions of Machine/Dests.lean may change (`Only` of Laws/Only.lean).
-/
namespace Sys2Proof.Machine
set_option Elab.async false

theorem State.setDst_only (s_a d_a x_a) : Only ⟨[.ridge], [], []⟩ s_a (State.setDst s_a d_a x_a) := by
  unfold State.setDst
  refine Only.seq (Only.upd (r := ⟨[.ridge], [], []⟩) (s := s_a) (fun p => by cases p <;> first | exact .inr rfl | exact .inl (by decide))) ?_ (by decide)
  exact Only.refl _ _

theorem State.setTxe_only (s_a e_a x_a) : Only ⟨[.media], [], []⟩ s_a (State.setTxe s_a e_a x_a) := by
  unfold State.setTxe
  refine Only.seq (Only.upd (r := ⟨[.media], [], []⟩) (s := s_a) (fun p => by cases p <;> first | exact .inr rfl | exact .inl (by decide))) ?_ (by decide)
  exact Only.refl _ _

theorem State.setRxe_only (s_a e_a x_a) : Only ⟨[.media], [], []⟩ s_a (State.setRxe s_a e_a x_a) := by
  unfold State.setRxe
  refine Only.seq (Only.upd (r := ⟨[.media], [], []⟩) (s := s_a) (fun p => by cases p <;> first | exact .inr rfl | exact .inl (by decide))) ?_ (by decide)
  exact Only.refl _ _

theorem State.enterLoss_only (s_a d_a) : Only ⟨[.out, .pinned, .ev, .flashJournal, .ridge, .diskJournal], [Obj.eventCount, Obj.eventLastAt, Obj.eventLastSubject], [0x40000004, 0x40000008]⟩ s_a (State.enterLoss s_a d_a) := by
  unfold State.enterLoss
  extract_lets +onlyGivenNames x1
  extract_lets +onlyGivenNames x2
  extract_lets +onlyGivenNames x3
  have hx3 : Only ⟨[.out, .pinned, .ev, .flashJournal, .ridge, .diskJournal], [Obj.eventCount, Obj.eventLastAt, Obj.eventLastSubject], [0x40000004, 0x40000008]⟩ s_a x3 := by
    subst x3
    refine Only.seq (State.setDst_only ..) ?_ (by decide)
    exact Only.refl _ _
  clear_value x3
  refine Only.ite ?_ ?_
  · exact hx3
  · refine Only.seq (State.raise_only ..) ?_ (by decide)
    exact hx3

theorem State.leaveLoss_only (s_a d_a) : Only ⟨[.out, .pinned, .ev, .flashJournal, .ridge, .diskJournal], [Obj.eventCount, Obj.eventLastAt, Obj.eventLastSubject], [0x40000004, 0x40000008]⟩ s_a (State.leaveLoss s_a d_a) := by
  unfold State.leaveLoss
  extract_lets +onlyGivenNames x1
  refine Only.ite ?_ ?_
  · refine Only.seq (State.raise_only ..) ?_ (by decide)
    refine Only.seq (State.setDst_only ..) ?_ (by decide)
    exact Only.refl _ _
  · exact Only.refl _ _

theorem State.showLoss_only (s_a d_a r_a align_a) : Only ⟨[.out, .pinned, .ev, .flashJournal, .ridge, .diskJournal], [Obj.eventCount, Obj.eventLastAt, Obj.eventLastSubject, Obj.dstState, Obj.dstLossFrames], [0x40000004, 0x40000008]⟩ s_a (State.showLoss s_a d_a r_a align_a) := by
  unfold State.showLoss
  extract_lets +onlyGivenNames x1
  have hx1 : Only ⟨[.out, .pinned, .ev, .flashJournal, .ridge, .diskJournal], [Obj.eventCount, Obj.eventLastAt, Obj.eventLastSubject, Obj.dstState, Obj.dstLossFrames], [0x40000004, 0x40000008]⟩ s_a x1 := by
    subst x1
    refine Only.seq (State.enterLoss_only ..) ?_ (by decide)
    exact Only.refl _ _
  clear_value x1
  extract_lets +onlyGivenNames x2
  extract_lets +onlyGivenNames x3
  extract_lets +onlyGivenNames x4
  have hx4 : Only ⟨[.out, .pinned, .ev, .flashJournal, .ridge, .diskJournal], [Obj.eventCount, Obj.eventLastAt, Obj.eventLastSubject, Obj.dstState, Obj.dstLossFrames], [0x40000004, 0x40000008]⟩ s_a x4 := by
    subst x4
    refine Only.seq (State.setDst_only ..) ?_ (by decide)
    exact hx1
  clear_value x4
  refine Only.seq (State.bump_only ..) ?_ (by decide)
  refine Only.seq (State.setN_only ..) ?_ (by decide)
  exact hx4

theorem State.slip_only (s_a d_a slot_a n_a) : Only ⟨[.out, .pinned, .ev, .flashJournal, .diskJournal], [Obj.eventCount, Obj.eventLastAt, Obj.eventLastSubject, Obj.dstRepeats, Obj.dstDrops], [0x40000004, 0x40000008]⟩ s_a (State.slip s_a d_a slot_a n_a) := by
  unfold State.slip
  extract_lets +onlyGivenNames x1
  subst x1
  split
  · refine Only.ite ?_ ?_
    · exact Only.refl _ _
    · refine Only.ite ?_ ?_
      · dsimp -zeta only
        refine Only.ite ?_ ?_
        · refine Only.seq (State.raiseLimited_only ..) ?_ (by decide)
          refine Only.seq (State.bump_only ..) ?_ (by decide)
          exact Only.refl _ _
        · refine Only.seq (State.bump_only ..) ?_ (by decide)
          exact Only.refl _ _
      · refine Only.ite ?_ ?_
        · dsimp -zeta only
          refine Only.ite ?_ ?_
          · refine Only.seq (State.raiseLimited_only ..) ?_ (by decide)
            refine Only.seq (State.bump_only ..) ?_ (by decide)
            exact Only.refl _ _
          · refine Only.seq (State.bump_only ..) ?_ (by decide)
            exact Only.refl _ _
        · exact Only.refl _ _
  · exact Only.refl _ _

theorem State.meetSideData_only (s_a slot_a f_a) : Only ⟨[.out, .pinned, .ev, .flashJournal, .ridge, .diskJournal], [Obj.eventCount, Obj.eventLastAt, Obj.eventLastSubject], [0x40000004, 0x40000008]⟩ s_a (State.meetSideData s_a slot_a f_a) := by
  unfold State.meetSideData
  refine Only.ite ?_ ?_
  · refine Only.seq (State.raise_only ..) ?_ (by decide)
    refine Only.seq (State.setSrc_only ..) ?_ (by decide)
    exact Only.refl _ _
  · exact Only.refl _ _

theorem State.showFrame_only (s_a d_a slot_a f_a r_a align_a) : Only ⟨[.out, .pinned, .ev, .flashJournal, .ridge, .diskJournal], [Obj.eventCount, Obj.eventLastAt, Obj.eventLastSubject, Obj.dstState], [0x40000004, 0x40000008]⟩ s_a (State.showFrame s_a d_a slot_a f_a r_a align_a) := by
  unfold State.showFrame
  extract_lets +onlyGivenNames x1
  have hx1 : Only ⟨[.out, .pinned, .ev, .flashJournal, .ridge, .diskJournal], [Obj.eventCount, Obj.eventLastAt, Obj.eventLastSubject, Obj.dstState], [0x40000004, 0x40000008]⟩ s_a x1 := by
    subst x1
    refine Only.seq (State.leaveLoss_only ..) ?_ (by decide)
    exact Only.refl _ _
  clear_value x1
  extract_lets +onlyGivenNames x2
  extract_lets +onlyGivenNames x3
  extract_lets +onlyGivenNames x4
  extract_lets +onlyGivenNames x5
  extract_lets +onlyGivenNames x6
  have hx6 : Only ⟨[.out, .pinned, .ev, .flashJournal, .ridge, .diskJournal], [Obj.eventCount, Obj.eventLastAt, Obj.eventLastSubject, Obj.dstState], [0x40000004, 0x40000008]⟩ s_a x6 := by
    subst x6
    refine Only.seq (State.setDst_only ..) ?_ (by decide)
    exact hx1
  clear_value x6
  refine Only.seq (State.meetSideData_only ..) ?_ (by decide)
  refine Only.seq (State.setN_only ..) ?_ (by decide)
  exact hx6

theorem State.timedWindow_only (s_a d_a r_a inHalf_a inQuarter_a) : Only ⟨[.out, .pinned, .ev, .flashJournal, .ridge, .diskJournal], [Obj.dstModeInForce, Obj.dstTimingError, Obj.eventCount, Obj.eventLastAt, Obj.eventLastSubject], [0x40000004, 0x40000008]⟩ s_a (State.timedWindow s_a d_a r_a inHalf_a inQuarter_a) := by
  unfold State.timedWindow
  extract_lets +onlyGivenNames x1
  split
  · extract_lets +onlyGivenNames x2
    have hx2 : Only ⟨[.out, .pinned, .ev, .flashJournal, .ridge, .diskJournal], [Obj.dstModeInForce, Obj.dstTimingError, Obj.eventCount, Obj.eventLastAt, Obj.eventLastSubject], [0x40000004, 0x40000008]⟩ s_a x2 := by
      subst x2
      refine Only.seq (State.setI_only ..) ?_ (by decide)
      refine Only.seq (State.setN_only ..) ?_ (by decide)
      exact Only.refl _ _
    clear_value x2
    refine Only.ite ?_ ?_
    · exact hx2
    · refine Only.ite ?_ ?_
      · refine Only.seq (State.raise_only ..) ?_ (by decide)
        refine Only.seq (State.setDst_only ..) ?_ (by decide)
        exact hx2
      · refine Only.seq (State.setDst_only ..) ?_ (by decide)
        exact Only.refl _ _
  · refine Only.ite ?_ ?_
    · refine Only.seq (State.setDst_only ..) ?_ (by decide)
      exact Only.refl _ _
    · refine Only.seq (State.raise_only ..) ?_ (by decide)
      refine Only.seq (State.setN_only ..) ?_ (by decide)
      refine Only.seq (State.setDst_only ..) ?_ (by decide)
      exact Only.refl _ _

theorem State.timedOut_only (s_a d_a r_a) : Only ⟨[.out, .pinned, .ev, .flashJournal, .ridge, .diskJournal], [Obj.dstModeInForce, Obj.dstTimingError, Obj.eventCount, Obj.eventLastAt, Obj.eventLastSubject], [0x40000004, 0x40000008]⟩ s_a (State.timedOut s_a d_a r_a) := by
  unfold State.timedOut
  refine Only.ite ?_ ?_
  · refine Only.seq (State.timedWindow_only ..) ?_ (by decide)
    exact Only.refl _ _
  · refine Only.seq (State.setN_only ..) ?_ (by decide)
    exact Only.refl _ _

theorem State.timedMissed_only (s_a d_a) : Only ⟨[.ridge], [Obj.dstModeInForce], []⟩ s_a (State.timedMissed s_a d_a) := by
  unfold State.timedMissed
  extract_lets +onlyGivenNames x1
  refine Only.seq (State.setN_only ..) ?_ (by decide)
  refine Only.seq (State.setDst_only ..) ?_ (by decide)
  exact Only.refl _ _

theorem State.timedStep_only (s_a d_a slot_a r_a) : Only ⟨[.out, .pinned, .ev, .flashJournal, .ridge, .diskJournal], [Obj.dstModeInForce, Obj.dstTimingError, Obj.eventCount, Obj.eventLastAt, Obj.eventLastSubject], [0x40000004, 0x40000008]⟩ s_a (State.timedStep s_a d_a slot_a r_a) := by
  unfold State.timedStep
  refine Only.ite ?_ ?_
  · extract_lets +onlyGivenNames x1
    extract_lets +onlyGivenNames x2
    extract_lets +onlyGivenNames x3
    refine Only.seq (State.timedWindow_only ..) ?_ (by decide)
    exact Only.refl _ _
  · refine Only.seq (State.setN_only ..) ?_ (by decide)
    exact Only.refl _ _

theorem State.beginAdopt_only (s_a d_a f_a align_a) : Only ⟨[.ridge], [], []⟩ s_a (State.beginAdopt s_a d_a f_a align_a) := by
  unfold State.beginAdopt
  extract_lets +onlyGivenNames x1
  extract_lets +onlyGivenNames x2
  extract_lets +onlyGivenNames x3
  subst x3
  refine Only.seq (State.setDst_only ..) ?_ (by decide)
  exact Only.refl _ _

theorem State.txChanged_only (s_a d_a) : Only ⟨[.out, .pinned, .ev, .flashJournal, .diskJournal], [Obj.eventCount, Obj.eventLastAt, Obj.eventLastSubject], [0x40000004, 0x40000008]⟩ s_a (State.txChanged s_a d_a) := by
  unfold State.txChanged
  refine Only.foldl (fun u1 x2 => ?_) ?_
  · refine Only.seq (State.raise_only ..) ?_ (by decide)
    exact Only.refl _ _
  · exact Only.refl _ _

theorem State.adopt_only (s_a d_a f_a) : Only ⟨[.out, .pinned, .ev, .flashJournal, .ridge, .diskJournal], [Obj.eventCount, Obj.eventLastAt, Obj.eventLastSubject], [0x40000004, 0x40000008]⟩ s_a (State.adopt s_a d_a f_a) := by
  unfold State.adopt
  refine Only.seq (State.txChanged_only ..) ?_ (by decide)
  refine Only.seq (State.raise_only ..) ?_ (by decide)
  refine Only.seq (State.setDst_only ..) ?_ (by decide)
  exact Only.refl _ _

theorem State.showBlanking_only (s_a d_a r_a align_a) : Only ⟨[.ridge], [], []⟩ s_a (State.showBlanking s_a d_a r_a align_a) := by
  unfold State.showBlanking
  extract_lets +onlyGivenNames x1
  refine Only.seq (State.setDst_only ..) ?_ (by decide)
  exact Only.refl _ _

theorem State.forgetAdopt_only (s_a d_a) : Only ⟨[.ridge], [], []⟩ s_a (State.forgetAdopt s_a d_a) := by
  unfold State.forgetAdopt
  refine Only.seq (State.setDst_only ..) ?_ (by decide)
  exact Only.refl _ _

theorem State.follow_only (s_a d_a slot_a f_a r_a align_a) : Only ⟨[.out, .pinned, .ev, .flashJournal, .ridge, .diskJournal], [Obj.eventCount, Obj.eventLastAt, Obj.eventLastSubject, Obj.dstRepeats, Obj.dstDrops, Obj.dstState, Obj.dstLossFrames], [0x40000004, 0x40000008]⟩ s_a (State.follow s_a d_a slot_a f_a r_a align_a) := by
  unfold State.follow
  extract_lets +onlyGivenNames x1
  extract_lets +onlyGivenNames x2
  refine Only.ite ?_ ?_
  · refine Only.seq (State.showFrame_only ..) ?_ (by decide)
    refine Only.seq (State.slip_only ..) ?_ (by decide)
    exact Only.refl _ _
  · refine Only.ite ?_ ?_
    · extract_lets +onlyGivenNames x3
      extract_lets +onlyGivenNames x4
      have hx4 : Only ⟨[.out, .pinned, .ev, .flashJournal, .ridge, .diskJournal], [Obj.eventCount, Obj.eventLastAt, Obj.eventLastSubject, Obj.dstRepeats, Obj.dstDrops, Obj.dstState, Obj.dstLossFrames], [0x40000004, 0x40000008]⟩ s_a x4 := by
        subst x4
        refine Only.ite ?_ ?_
        · exact Only.refl _ _
        · refine Only.seq (State.raise_only ..) ?_ (by decide)
          refine Only.seq (State.setDst_only ..) ?_ (by decide)
          exact Only.refl _ _
      clear_value x4
      refine Only.seq (State.showLoss_only ..) ?_ (by decide)
      exact hx4
    · extract_lets +onlyGivenNames x5
      have hx5 : Only ⟨[.out, .pinned, .ev, .flashJournal, .ridge, .diskJournal], [Obj.eventCount, Obj.eventLastAt, Obj.eventLastSubject, Obj.dstRepeats, Obj.dstDrops, Obj.dstState, Obj.dstLossFrames], [0x40000004, 0x40000008]⟩ s_a x5 := by
        subst x5
        refine Only.ite ?_ ?_
        · refine Only.seq (State.setDst_only ..) ?_ (by decide)
          exact Only.refl _ _
        · exact Only.refl _ _
      clear_value x5
      refine Only.ite ?_ ?_
      · refine Only.seq (State.showFrame_only ..) ?_ (by decide)
        refine Only.seq (State.slip_only ..) ?_ (by decide)
        refine Only.seq (State.forgetAdopt_only ..) ?_ (by decide)
        exact hx5
      · extract_lets +onlyGivenNames x6
        have hx6 : Only ⟨[.out, .pinned, .ev, .flashJournal, .ridge, .diskJournal], [Obj.eventCount, Obj.eventLastAt, Obj.eventLastSubject, Obj.dstRepeats, Obj.dstDrops, Obj.dstState, Obj.dstLossFrames], [0x40000004, 0x40000008]⟩ s_a x6 := by
          subst x6
          split
          · refine Only.ite ?_ ?_
            · exact hx5
            · refine Only.seq (State.beginAdopt_only ..) ?_ (by decide)
              exact hx5
          · refine Only.seq (State.beginAdopt_only ..) ?_ (by decide)
            exact hx5
        clear_value x6
        split
        · refine Only.ite ?_ ?_
          · refine Only.seq (State.showFrame_only ..) ?_ (by decide)
            refine Only.seq (State.adopt_only ..) ?_ (by decide)
            exact hx6
          · refine Only.seq (State.showBlanking_only ..) ?_ (by decide)
            exact hx6
        · exact hx6

theorem State.switchRoute_only (s_a d_a align_a) : Only ⟨[.ridge], [], []⟩ s_a (State.switchRoute s_a d_a align_a) := by
  unfold State.switchRoute
  extract_lets +onlyGivenNames x1
  extract_lets +onlyGivenNames x2
  extract_lets +onlyGivenNames x3
  extract_lets +onlyGivenNames x4
  split
  · refine Only.ite ?_ ?_
    · refine Only.seq (State.setDst_only ..) ?_ (by decide)
      exact Only.refl _ _
    · refine Only.seq (State.setDst_only ..) ?_ (by decide)
      exact Only.refl _ _
  · exact Only.refl _ _

theorem State.labelColour_only (s_a d_a sp_a) : Only ⟨[.out, .pinned, .ev, .flashJournal, .ridge, .diskJournal], [Obj.dstColourInForce, Obj.eventCount, Obj.eventLastAt, Obj.eventLastSubject], [0x40000004, 0x40000008]⟩ s_a (State.labelColour s_a d_a sp_a) := by
  unfold State.labelColour
  extract_lets +onlyGivenNames x1
  extract_lets +onlyGivenNames x2
  have hx2 : Only ⟨[.out, .pinned, .ev, .flashJournal, .ridge, .diskJournal], [Obj.dstColourInForce, Obj.eventCount, Obj.eventLastAt, Obj.eventLastSubject], [0x40000004, 0x40000008]⟩ s_a x2 := by
    subst x2
    refine Only.seq (State.setDst_only ..) ?_ (by decide)
    exact Only.refl _ _
  clear_value x2
  split
  · refine Only.ite ?_ ?_
    · exact hx2
    · refine Only.seq (State.txChanged_only ..) ?_ (by decide)
      refine Only.seq (State.setN_only ..) ?_ (by decide)
      exact hx2
  · exact hx2

theorem State.readStart_only (s_a d_a r_a align_a) : Only ⟨[.out, .pinned, .ev, .flashJournal, .ridge, .diskJournal], [Obj.dstColourInForce, Obj.eventCount, Obj.eventLastAt, Obj.eventLastSubject, Obj.dstModeInForce, Obj.dstState, Obj.dstLossFrames, Obj.srcLiveFormat, Obj.srcFramesWritten, Obj.srcFeedKind, Obj.srcState, Obj.srcReservationStatus, Obj.srcFramesAbandoned, Obj.srcColourLive, Obj.dstTimingError, Obj.dstRepeats, Obj.dstDrops, Obj.dstFormatLive], [0x40000004, 0x40000008]⟩ s_a (State.readStart s_a d_a r_a align_a) := by
  unfold State.readStart
  extract_lets +onlyGivenNames x1
  have hx1 : Only ⟨[.out, .pinned, .ev, .flashJournal, .ridge, .diskJournal], [Obj.dstColourInForce, Obj.eventCount, Obj.eventLastAt, Obj.eventLastSubject, Obj.dstModeInForce, Obj.dstState, Obj.dstLossFrames, Obj.srcLiveFormat, Obj.srcFramesWritten, Obj.srcFeedKind, Obj.srcState, Obj.srcReservationStatus, Obj.srcFramesAbandoned, Obj.srcColourLive, Obj.dstTimingError, Obj.dstRepeats, Obj.dstDrops, Obj.dstFormatLive], [0x40000004, 0x40000008]⟩ s_a x1 := by
    subst x1
    refine Only.seq (State.labelColour_only ..) ?_ (by decide)
    refine Only.seq (State.switchRoute_only ..) ?_ (by decide)
    exact Only.refl _ _
  clear_value x1
  extract_lets +onlyGivenNames x2
  have hx2 : Only ⟨[.out, .pinned, .ev, .flashJournal, .ridge, .diskJournal], [Obj.dstColourInForce, Obj.eventCount, Obj.eventLastAt, Obj.eventLastSubject, Obj.dstModeInForce, Obj.dstState, Obj.dstLossFrames, Obj.srcLiveFormat, Obj.srcFramesWritten, Obj.srcFeedKind, Obj.srcState, Obj.srcReservationStatus, Obj.srcFramesAbandoned, Obj.srcColourLive, Obj.dstTimingError, Obj.dstRepeats, Obj.dstDrops, Obj.dstFormatLive], [0x40000004, 0x40000008]⟩ s_a x2 := by
    subst x2
    split
    · refine Only.seq (State.showLoss_only ..) ?_ (by decide)
      refine Only.seq (State.timedMissed_only ..) ?_ (by decide)
      exact hx1
    · extract_lets +onlyGivenNames x3
      have hx3 : Only ⟨[.out, .pinned, .ev, .flashJournal, .ridge, .diskJournal], [Obj.dstColourInForce, Obj.eventCount, Obj.eventLastAt, Obj.eventLastSubject, Obj.dstModeInForce, Obj.dstState, Obj.dstLossFrames, Obj.srcLiveFormat, Obj.srcFramesWritten, Obj.srcFeedKind, Obj.srcState, Obj.srcReservationStatus, Obj.srcFramesAbandoned, Obj.srcColourLive, Obj.dstTimingError, Obj.dstRepeats, Obj.dstDrops, Obj.dstFormatLive], [0x40000004, 0x40000008]⟩ s_a x3 := by
        subst x3
        refine Only.seq (State.settle_only ..) ?_ (by decide)
        exact hx1
      clear_value x3
      refine Only.ite ?_ ?_
      · refine Only.seq (State.showLoss_only ..) ?_ (by decide)
        refine Only.seq (State.timedOut_only ..) ?_ (by decide)
        exact hx3
      · extract_lets +onlyGivenNames x4
        have hx4 : Only ⟨[.out, .pinned, .ev, .flashJournal, .ridge, .diskJournal], [Obj.dstColourInForce, Obj.eventCount, Obj.eventLastAt, Obj.eventLastSubject, Obj.dstModeInForce, Obj.dstState, Obj.dstLossFrames, Obj.srcLiveFormat, Obj.srcFramesWritten, Obj.srcFeedKind, Obj.srcState, Obj.srcReservationStatus, Obj.srcFramesAbandoned, Obj.srcColourLive, Obj.dstTimingError, Obj.dstRepeats, Obj.dstDrops, Obj.dstFormatLive], [0x40000004, 0x40000008]⟩ s_a x4 := by
          subst x4
          refine Only.seq (State.timedStep_only ..) ?_ (by decide)
          exact hx3
        clear_value x4
        split
        · refine Only.ite ?_ ?_
          · refine Only.seq (State.showLoss_only ..) ?_ (by decide)
            exact hx4
          · refine Only.seq (State.follow_only ..) ?_ (by decide)
            exact hx4
        · refine Only.seq (State.showLoss_only ..) ?_ (by decide)
          exact hx4
  clear_value x2
  refine Only.seq (State.setN_only ..) ?_ (by decide)
  exact hx2

theorem State.markEmitted_only (s_a d_a x_a) : Only ⟨[.ridge], [], []⟩ s_a (State.markEmitted s_a d_a x_a) := by
  unfold State.markEmitted
  refine Only.seq (State.setDst_only ..) ?_ (by decide)
  exact Only.refl _ _

theorem State.putOnAir_only (s_a d_a x_a) : Only ⟨[.ridge], [Obj.routeOnAir, Obj.originKind], []⟩ s_a (State.putOnAir s_a d_a x_a) := by
  unfold State.putOnAir
  refine Only.seq (State.setN_only ..) ?_ (by decide)
  refine Only.seq (State.setN_only ..) ?_ (by decide)
  refine Only.seq (State.markEmitted_only ..) ?_ (by decide)
  exact Only.refl _ _

theorem State.emitLedger_only (s_a d_a code_a emission_a) : Only ⟨[.fresh, .ridge], [Obj.routeOnAir, Obj.originKind, Obj.latencyLast, Obj.stageBreakdown, Obj.latencyMin, Obj.latencyMax], []⟩ s_a (State.emitLedger s_a d_a code_a emission_a) := by
  unfold State.emitLedger
  split
  · exact Only.refl _ _
  · refine Only.ite ?_ ?_
    · exact Only.refl _ _
    · refine Only.ite ?_ ?_
      · refine Only.seq (State.markEmitted_only ..) ?_ (by decide)
        exact Only.refl _ _
      · extract_lets +onlyGivenNames x1
        have hx1 : Only ⟨[.fresh, .ridge], [Obj.routeOnAir, Obj.originKind, Obj.latencyLast, Obj.stageBreakdown, Obj.latencyMin, Obj.latencyMax], []⟩ s_a x1 := by
          subst x1
          refine Only.seq (State.putOnAir_only ..) ?_ (by decide)
          exact Only.refl _ _
        clear_value x1
        refine Only.ite ?_ ?_
        · refine Only.seq (State.setBy_only ..) ?_ (by decide)
          refine Only.seq (State.setN_only ..) ?_ (by decide)
          exact hx1
        · extract_lets +onlyGivenNames x2
          split
          rename_i v3 t4 e5
          have ht4 : Only ⟨[.fresh, .ridge], [Obj.routeOnAir, Obj.originKind, Obj.latencyLast, Obj.stageBreakdown, Obj.latencyMin, Obj.latencyMax], []⟩ s_a t4 := by
            refine Only.snd e5 ?_
            split
            · refine Only.mk2 ?_
              exact hx1
            · refine Only.seq (State.draw_only ..) ?_ (by decide)
              exact hx1
          extract_lets +onlyGivenNames x6
          extract_lets +onlyGivenNames x7
          have hx7 : Only ⟨[.fresh, .ridge], [Obj.routeOnAir, Obj.originKind, Obj.latencyLast, Obj.stageBreakdown, Obj.latencyMin, Obj.latencyMax], []⟩ s_a x7 := by
            subst x7
            refine Only.seq (State.setBy_only ..) ?_ (by decide)
            refine Only.seq (State.setN_only ..) ?_ (by decide)
            exact ht4
          clear_value x7
          extract_lets +onlyGivenNames x8
          have hx8 : Only ⟨[.fresh, .ridge], [Obj.routeOnAir, Obj.originKind, Obj.latencyLast, Obj.stageBreakdown, Obj.latencyMin, Obj.latencyMax], []⟩ s_a x8 := by
            subst x8
            refine Only.seq (State.setN_only ..) ?_ (by decide)
            exact hx7
          clear_value x8
          refine Only.seq (State.setN_only ..) ?_ (by decide)
          exact hx8

end Sys2Proof.Machine
end

