-- ==== Sys2Proof/Laws/OnlyHistogram.lean ====
section
/-!
SUPPORT. What the functions of Machine/Histogram.lean may change (`Only` of Laws/Only.lean).
-/
namespace Sys2Proof.Machine
set_option Elab.async false

theorem State.capture_only (s_a index_a sub_a start_a v_a) : Only ⟨[.out, .pinned, .ev, .flashJournal, .diskJournal], [index_a, Obj.eventCount, Obj.eventLastAt, Obj.eventLastSubject], [0x40000004, 0x40000008]⟩ s_a (State.capture s_a index_a sub_a start_a v_a) := by
  unfold State.capture
  extract_lets +onlyGivenNames x1
  extract_lets +onlyGivenNames x2
  extract_lets +onlyGivenNames x3
  have hx3 : Only ⟨[.out, .pinned, .ev, .flashJournal, .diskJournal], [index_a, Obj.eventCount, Obj.eventLastAt, Obj.eventLastSubject], [0x40000004, 0x40000008]⟩ s_a x3 := by
    subst x3
    refine Only.seq (State.setBy_only ..) ?_ (by simp [Reach.le])
    exact Only.refl _ _
  clear_value x3
  refine Only.ite ?_ ?_
  · refine Only.seq (State.raise_only ..) ?_ (by simp [Reach.le])
    refine Only.seq (State.setPinned_only ..) ?_ (by simp [Reach.le])
    exact hx3
  · exact hx3

end Sys2Proof.Machine
end

