-- ==== Sys2Proof/Laws/OnlyMonitor.lean ====
section
/-!
SUPPORT. What the functions of Machine/Monitor.lean may change (`Only` of Laws/Only.lean).
-/
namespace Sys2Proof.Machine
set_option Elab.async false

theorem State.setMonUnit_only (s_a u_a x_a) : Only ⟨[.mon], [], []⟩ s_a (State.setMonUnit s_a u_a x_a) := by
  unfold State.setMonUnit
  refine Only.seq (Only.upd (r := ⟨[.mon], [], []⟩) (s := s_a) (fun p => by cases p <;> first | exact .inr rfl | exact .inl (by decide))) ?_ (by decide)
  exact Only.refl _ _

theorem State.monRestart_only (s_a u_a) : Only ⟨[.pinned, .mon], [Obj.monHistogram, Obj.monState], []⟩ s_a (State.monRestart s_a u_a) := by
  unfold State.monRestart
  extract_lets +onlyGivenNames x1
  extract_lets +onlyGivenNames x2
  have hx2 : Only ⟨[.pinned, .mon], [Obj.monHistogram, Obj.monState], []⟩ s_a x2 := by
    subst x2
    refine Only.seq (State.setN_only ..) ?_ (by decide)
    refine Only.seq (State.clearCounter_only ..) ?_ (by decide)
    exact Only.refl _ _
  clear_value x2
  extract_lets +onlyGivenNames x3
  have hx3 : Only ⟨[.pinned, .mon], [Obj.monHistogram, Obj.monState], []⟩ s_a x3 := by
    subst x3
    refine Only.ite ?_ ?_
    · refine Only.seq (State.setBy_only ..) ?_ (by decide)
      exact hx2
    · exact hx2
  clear_value x3
  refine Only.seq (State.setMonUnit_only ..) ?_ (by decide)
  exact hx3

theorem State.monClear_only (s_a u_a) : Only ⟨[.pinned, .mon], [Obj.monHistogram, Obj.monState, Obj.monPrevious], []⟩ s_a (State.monClear s_a u_a) := by
  unfold State.monClear
  refine Only.seq (State.toDefault_only ..) ?_ (by decide)
  refine Only.seq (State.monRestart_only ..) ?_ (by decide)
  exact Only.refl _ _

theorem State.monWritten_only (s_a index_a u_a) : Only ⟨[.pinned, .mon], [Obj.monHistogram, Obj.monState], []⟩ s_a (State.monWritten s_a index_a u_a) := by
  unfold State.monWritten
  refine Only.ite ?_ ?_
  · refine Only.seq (State.setMonUnit_only ..) ?_ (by decide)
    exact Only.refl _ _
  · refine Only.ite ?_ ?_
    · exact Only.refl _ _
    · refine Only.seq (State.monRestart_only ..) ?_ (by decide)
      exact Only.refl _ _

theorem execMonSample_only (dt_a unit_a value_a s_a) : OnlyR ⟨[.out, .now, .tc, .pinned, .ev, .flashJournal, .mon, .diskJournal], [Obj.monHistogram, Obj.eventCount, Obj.eventLastAt, Obj.eventLastSubject], [0x40000004, 0x40000008]⟩ s_a (execMonSample dt_a unit_a value_a s_a) := by
  unfold execMonSample
  refine actIf_only (hk3 := fun u1 => ?_) (l := (by decide)) ..
  split
  · exact Only.refl _ _
  · extract_lets +onlyGivenNames x2
    have hx2 : Only ⟨[.out, .now, .tc, .pinned, .ev, .flashJournal, .mon, .diskJournal], [Obj.monHistogram, Obj.eventCount, Obj.eventLastAt, Obj.eventLastSubject], [0x40000004, 0x40000008]⟩ u1 x2 := by
      subst x2
      refine Only.seq (State.capture_only ..) ?_ (by decide)
      exact Only.refl _ _
    clear_value x2
    extract_lets +onlyGivenNames x3
    refine Only.ite ?_ ?_
    · refine Only.seq (State.raise_only ..) ?_ (by decide)
      refine Only.seq (State.setMonUnit_only ..) ?_ (by decide)
      exact hx2
    · exact hx2

theorem execMonPeriod_only (dt_a unit_a s_a) : OnlyR ⟨[.out, .now, .tc, .pinned, .ev, .flashJournal, .mon, .diskJournal], [Obj.monPrevious, Obj.monHistogram, Obj.eventCount, Obj.eventLastAt, Obj.eventLastSubject], [0x40000004, 0x40000008]⟩ s_a (execMonPeriod dt_a unit_a s_a) := by
  unfold execMonPeriod
  refine actIf_only (hk3 := fun u1 => ?_) (l := (by decide)) ..
  extract_lets +onlyGivenNames x2
  extract_lets +onlyGivenNames x3
  have hx3 : Only ⟨[.out, .now, .tc, .pinned, .ev, .flashJournal, .mon, .diskJournal], [Obj.monPrevious, Obj.monHistogram, Obj.eventCount, Obj.eventLastAt, Obj.eventLastSubject], [0x40000004, 0x40000008]⟩ u1 x3 := by
    subst x3
    refine Only.seq (State.setBy_only ..) ?_ (by decide)
    exact Only.refl _ _
  clear_value x3
  extract_lets +onlyGivenNames x4
  extract_lets +onlyGivenNames x5
  have hx5 : Only ⟨[.out, .now, .tc, .pinned, .ev, .flashJournal, .mon, .diskJournal], [Obj.monPrevious, Obj.monHistogram, Obj.eventCount, Obj.eventLastAt, Obj.eventLastSubject], [0x40000004, 0x40000008]⟩ u1 x5 := by
    subst x5
    refine Only.seq (Only.upd (r := ⟨[.pinned], [], []⟩) (s := x3) (fun p => by cases p <;> first | exact .inr rfl | exact .inl (by decide))) ?_ (by decide)
    exact hx3
  clear_value x5
  extract_lets +onlyGivenNames x6
  have hx6 : Only ⟨[.out, .now, .tc, .pinned, .ev, .flashJournal, .mon, .diskJournal], [Obj.monPrevious, Obj.monHistogram, Obj.eventCount, Obj.eventLastAt, Obj.eventLastSubject], [0x40000004, 0x40000008]⟩ u1 x6 := by
    subst x6
    refine Only.seq (State.setBy_only ..) ?_ (by decide)
    exact hx5
  clear_value x6
  refine Only.seq (State.raise_only ..) ?_ (by decide)
  refine Only.seq (State.setMonUnit_only ..) ?_ (by decide)
  exact hx6

theorem State.evPop_only (s_a) : Only ⟨[.out, .pinned, .ev, .sessions, .flashJournal, .diskJournal], [Obj.eventCount, Obj.eventLastAt, Obj.eventLastSubject], [0x40000004, 0x40000008]⟩ s_a (State.evPop s_a) := by
  unfold State.evPop
  split
  · exact Only.refl _ _
  · extract_lets +onlyGivenNames x1
    extract_lets +onlyGivenNames x2
    extract_lets +onlyGivenNames x3
    extract_lets +onlyGivenNames x4
    have hx4 : Only ⟨[.out, .pinned, .ev, .sessions, .flashJournal, .diskJournal], [Obj.eventCount, Obj.eventLastAt, Obj.eventLastSubject], [0x40000004, 0x40000008]⟩ s_a x4 := by
      subst x4
      refine Only.seq (Only.upd (r := ⟨[.ev, .sessions], [], []⟩) (s := s_a) (fun p => by cases p <;> first | exact .inr rfl | exact .inl (by decide))) ?_ (by decide)
      exact Only.refl _ _
    clear_value x4
    refine Only.ite ?_ ?_
    · extract_lets +onlyGivenNames x5
      refine Only.seq (State.raise_only ..) ?_ (by decide)
      refine Only.seq (Only.upd (r := ⟨[.ev], [], []⟩) (s := x4) (fun p => by cases p <;> first | exact .inr rfl | exact .inl (by decide))) ?_ (by decide)
      exact hx4
    · exact hx4

theorem execEvtPop_only (dt_a _value_a s_a) : OnlyR ⟨[.out, .now, .tc, .pinned, .ev, .sessions, .flashJournal, .diskJournal], [Obj.eventCount, Obj.eventLastAt, Obj.eventLastSubject], [0x40000004, 0x40000008]⟩ s_a (execEvtPop dt_a _value_a s_a) := by
  unfold execEvtPop
  refine act_only (hk2 := fun u1 => ?_) (l := (by decide)) ..
  refine Only.seq (State.evPop_only ..) ?_ (by decide)
  exact Only.refl _ _

theorem State.evSwraise_only (s_a value_a) : Only ⟨[.out, .pinned, .ev, .flashJournal, .diskJournal], [Obj.eventCount, Obj.eventLastAt, Obj.eventLastSubject], [0x40000004, 0x40000008]⟩ s_a (State.evSwraise s_a value_a) := by
  unfold State.evSwraise
  extract_lets +onlyGivenNames x1
  refine Only.ite ?_ ?_
  · refine Only.seq (State.raise_only ..) ?_ (by decide)
    exact Only.refl _ _
  · refine Only.seq (State.setRegBit_only ..) ?_ (by decide)
    exact Only.refl _ _

theorem execEvtSwraise_only (dt_a value_a s_a) : OnlyR ⟨[.out, .now, .tc, .pinned, .ev, .flashJournal, .diskJournal], [Obj.eventCount, Obj.eventLastAt, Obj.eventLastSubject], [0x40000004, 0x40000008]⟩ s_a (execEvtSwraise dt_a value_a s_a) := by
  unfold execEvtSwraise
  refine act_only (hk2 := fun u1 => ?_) (l := (by decide)) ..
  refine Only.seq (State.evSwraise_only ..) ?_ (by decide)
  exact Only.refl _ _

theorem State.evAckPin_only (s_a n_a) : Only ⟨[.out, .ev], [], []⟩ s_a (State.evAckPin s_a n_a) := by
  unfold State.evAckPin
  refine Only.seq (State.setEvPin_only ..) ?_ (by decide)
  exact Only.refl _ _

theorem State.evPinAck_only (s_a value_a) : Only ⟨[.out, .ev], [], []⟩ s_a (State.evPinAck s_a value_a) := by
  unfold State.evPinAck
  refine Only.foldl (fun u1 x2 => ?_) ?_
  · refine Only.ite ?_ ?_
    · exact Only.refl _ _
    · refine Only.ite ?_ ?_
      · refine Only.seq (State.evAckPin_only ..) ?_ (by decide)
        exact Only.refl _ _
      · refine Only.seq (State.setEvPin_only ..) ?_ (by decide)
        exact Only.refl _ _
  · exact Only.refl _ _

theorem execEvtPinAck_only (dt_a value_a s_a) : OnlyR ⟨[.out, .now, .tc, .ev], [], []⟩ s_a (execEvtPinAck dt_a value_a s_a) := by
  unfold execEvtPinAck
  refine act_only (hk2 := fun u1 => ?_) (l := (by decide)) ..
  refine Only.seq (State.evPinAck_only ..) ?_ (by decide)
  exact Only.refl _ _

theorem execEvtPulseEnd_only (dt_a pin_a s_a) : OnlyR ⟨[.out, .now, .tc, .ev], [], []⟩ s_a (execEvtPulseEnd dt_a pin_a s_a) := by
  unfold execEvtPulseEnd
  refine actIf_only (hk3 := fun u1 => ?_) (l := (by decide)) ..
  refine Only.seq (State.setEvPin_only ..) ?_ (by decide)
  exact Only.refl _ _

theorem State.copyPinMap_only (s_a source_a) : Only ⟨[], [], [Reg.evtPinmap source_a]⟩ s_a (State.copyPinMap s_a source_a) := by
  unfold State.copyPinMap
  refine Only.seq (State.setRegField_only ..) ?_ (by simp [Reach.le])
  exact Only.refl _ _

theorem State.copyPinMode_only (s_a pin_a) : Only ⟨[], [], [0x400000c0]⟩ s_a (State.copyPinMode s_a pin_a) := by
  unfold State.copyPinMode
  refine Only.seq (State.setRegField_only ..) ?_ (by decide)
  exact Only.refl _ _

theorem State.clearRegs_only (s_a addr_a value_a) : Only ⟨[.regs], [], []⟩ s_a (State.clearRegs s_a addr_a value_a) := by
  unfold State.clearRegs
  refine Only.ite ?_ ?_
  · refine Only.foldl (fun u1 x2 => ?_) ?_
    · refine Only.seq (State.setRegN_only ..) ?_ (by simp [Reach.le])
      exact Only.refl _ _
    · exact Only.refl _ _
  · exact Only.refl _ _

theorem execRegCounterClear_only (dt_a addr_a value_a s_a) : OnlyR ⟨[.out, .now, .tc, .regs], [], []⟩ s_a (execRegCounterClear dt_a addr_a value_a s_a) := by
  unfold execRegCounterClear
  refine act_only (hk2 := fun u1 => ?_) (l := (by decide)) ..
  refine Only.seq (State.clearRegs_only ..) ?_ (by decide)
  exact Only.refl _ _

theorem State.latencyClear_only (s_a d_a) : Only ⟨[], [Obj.latencyMin, Obj.latencyMax], []⟩ s_a (State.latencyClear s_a d_a) := by
  unfold State.latencyClear
  refine Only.seq (State.toDefault_only ..) ?_ (by decide)
  refine Only.seq (State.toDefault_only ..) ?_ (by decide)
  exact Only.refl _ _

end Sys2Proof.Machine
end

