-- ==== Sys2Proof/Laws/OnlyCornice.lean ====
section
/-!
SUPPORT. What the functions of Machine/Cornice.lean may change (`Only` of Laws/Only.lean).
-/
namespace Sys2Proof.Machine
set_option Elab.async false

theorem State.setStrip_only (s_a ch_a x_a) : Only ⟨[.au], [], []⟩ s_a (State.setStrip s_a ch_a x_a) := by
  unfold State.setStrip
  refine Only.seq (Only.upd (r := ⟨[.au], [], []⟩) (s := s_a) (fun p => by cases p <;> first | exact .inr rfl | exact .inl (by decide))) ?_ (by decide)
  exact Only.refl _ _

theorem State.setBus_only (s_a m_a x_a) : Only ⟨[.au], [], []⟩ s_a (State.setBus s_a m_a x_a) := by
  unfold State.setBus
  refine Only.seq (Only.upd (r := ⟨[.au], [], []⟩) (s := s_a) (fun p => by cases p <;> first | exact .inr rfl | exact .inl (by decide))) ?_ (by decide)
  exact Only.refl _ _

theorem State.setAout_only (s_a ch_a x_a) : Only ⟨[.au], [], []⟩ s_a (State.setAout s_a ch_a x_a) := by
  unfold State.setAout
  refine Only.seq (Only.upd (r := ⟨[.au], [], []⟩) (s := s_a) (fun p => by cases p <;> first | exact .inr rfl | exact .inl (by decide))) ?_ (by decide)
  exact Only.refl _ _

theorem State.setInLatency_only (s_a chs_a v_a) : Only ⟨[.au], [], []⟩ s_a (State.setInLatency s_a chs_a v_a) := by
  unfold State.setInLatency
  refine Only.foldl (fun u1 x2 => ?_) ?_
  · refine Only.seq (State.setStrip_only ..) ?_ (by decide)
    exact Only.refl _ _
  · exact Only.refl _ _

theorem State.queueWords_only (s_a ch_a ws_a) : Only ⟨[.au], [], []⟩ s_a (State.queueWords s_a ch_a ws_a) := by
  unfold State.queueWords
  refine Only.ite ?_ ?_
  · refine Only.seq (State.setStrip_only ..) ?_ (by decide)
    exact Only.refl _ _
  · exact Only.refl _ _

theorem State.queueFrames_only (s_a base_a channels_a ws_a side_a) : Only ⟨[.au], [], []⟩ s_a (State.queueFrames s_a base_a channels_a ws_a side_a) := by
  unfold State.queueFrames
  refine Only.foldl (fun u1 x2 => ?_) ?_
  · refine Only.seq (State.queueWords_only ..) ?_ (by decide)
    exact Only.refl _ _
  · exact Only.refl _ _

theorem State.setNonAudio_only (s : State) (base : Nat) (l : List Bool) : Only ⟨[], [Obj.aiNonAudio], []⟩ s (s.setNonAudio base l) := by
  induction l generalizing s base with
  | nil => exact Only.refl _ s
  | cons b l ih => exact (ih _ _).seq ((State.setB_only ..).seq ((State.setB_only ..).up))

theorem State.tapObjects_only (s_a ch_a) : Only ⟨[], [Obj.aoPathInForce, Obj.aoBindDelay], []⟩ s_a (State.tapObjects s_a ch_a) := by
  unfold State.tapObjects
  extract_lets +onlyGivenNames x1
  extract_lets +onlyGivenNames x2
  have hx2 : Only ⟨[], [Obj.aoPathInForce, Obj.aoBindDelay], []⟩ s_a x2 := by
    subst x2
    refine Only.seq (State.setN_only ..) ?_ (by decide)
    exact Only.refl _ _
  clear_value x2
  refine Only.ite ?_ ?_
  · exact hx2
  · refine Only.seq (State.setN_only ..) ?_ (by decide)
    exact hx2

theorem State.deferred_only (s_a ch_a waits_a) : Only ⟨[.out, .pinned, .ev, .flashJournal, .diskJournal], [Obj.aoTapsDeferred, Obj.eventCount, Obj.eventLastAt, Obj.eventLastSubject], [0x40000004, 0x40000008]⟩ s_a (State.deferred s_a ch_a waits_a) := by
  unfold State.deferred
  refine Only.ite ?_ ?_
  · exact Only.refl _ _
  · refine Only.seq (State.raiseLimited_only ..) ?_ (by decide)
    refine Only.seq (State.bump_only ..) ?_ (by decide)
    exact Only.refl _ _

theorem State.beginTap_only (s_a ch_a) : Only ⟨[.out, .pinned, .ev, .flashJournal, .au, .diskJournal], [Obj.aoPathInForce, Obj.aoBindDelay, Obj.aoTapsDeferred, Obj.eventCount, Obj.eventLastAt, Obj.eventLastSubject], [0x40000004, 0x40000008]⟩ s_a (State.beginTap s_a ch_a) := by
  unfold State.beginTap
  extract_lets +onlyGivenNames x1
  refine Only.seq (State.deferred_only ..) ?_ (by decide)
  refine Only.seq (State.tapObjects_only ..) ?_ (by decide)
  refine Only.seq (State.setAout_only ..) ?_ (by decide)
  exact Only.refl _ _

theorem State.checkPath_only (s_a ch_a) : Only ⟨[.out, .pinned, .ev, .flashJournal, .au, .diskJournal], [Obj.eventCount, Obj.eventLastAt, Obj.eventLastSubject], [0x40000004, 0x40000008]⟩ s_a (State.checkPath s_a ch_a) := by
  unfold State.checkPath
  extract_lets +onlyGivenNames x1
  extract_lets +onlyGivenNames x2
  extract_lets +onlyGivenNames x3
  extract_lets +onlyGivenNames x4
  refine Only.ite ?_ ?_
  · refine Only.ite ?_ ?_
    · exact Only.refl _ _
    · refine Only.seq (State.setAout_only ..) ?_ (by decide)
      exact Only.refl _ _
  · extract_lets +onlyGivenNames x5
    extract_lets +onlyGivenNames x6
    have hx6 : Only ⟨[.out, .pinned, .ev, .flashJournal, .au, .diskJournal], [Obj.eventCount, Obj.eventLastAt, Obj.eventLastSubject], [0x40000004, 0x40000008]⟩ s_a x6 := by
      subst x6
      refine Only.seq (State.raise_only ..) ?_ (by decide)
      exact Only.refl _ _
    clear_value x6
    refine Only.seq (State.setAout_only ..) ?_ (by decide)
    exact hx6

theorem State.setBind_only (s_a ch_a st_a) : Only ⟨[.out, .pinned, .ev, .flashJournal, .diskJournal], [Obj.aoBindState, Obj.eventCount, Obj.eventLastAt, Obj.eventLastSubject], [0x40000004, 0x40000008]⟩ s_a (State.setBind s_a ch_a st_a) := by
  unfold State.setBind
  extract_lets +onlyGivenNames x1
  extract_lets +onlyGivenNames x2
  have hx2 : Only ⟨[.out, .pinned, .ev, .flashJournal, .diskJournal], [Obj.aoBindState, Obj.eventCount, Obj.eventLastAt, Obj.eventLastSubject], [0x40000004, 0x40000008]⟩ s_a x2 := by
    subst x2
    refine Only.seq (State.setN_only ..) ?_ (by decide)
    exact Only.refl _ _
  clear_value x2
  refine Only.ite ?_ ?_
  · exact hx2
  · split
    · refine Only.seq (State.raise_only ..) ?_ (by decide)
      exact hx2
    · refine Only.seq (State.raise_only ..) ?_ (by decide)
      exact hx2
    · refine Only.seq (State.raise_only ..) ?_ (by decide)
      exact hx2
    · exact hx2

theorem State.bindMark_only (s_a ch_a emission_a lost_a noRoute_a v_a) : Only ⟨[.out, .pinned, .ev, .flashJournal, .au, .diskJournal], [Obj.aoBindState, Obj.eventCount, Obj.eventLastAt, Obj.eventLastSubject, Obj.aoLipSyncError], [0x40000004, 0x40000008]⟩ s_a (State.bindMark s_a ch_a emission_a lost_a noRoute_a v_a) := by
  unfold State.bindMark
  extract_lets +onlyGivenNames x1
  extract_lets +onlyGivenNames x2
  extract_lets +onlyGivenNames x3
  extract_lets +onlyGivenNames x4
  extract_lets +onlyGivenNames x5
  extract_lets +onlyGivenNames x6
  subst x6
  extract_lets +onlyGivenNames x7
  extract_lets +onlyGivenNames x8
  extract_lets +onlyGivenNames x9
  extract_lets +onlyGivenNames x10
  split
  extract_lets +onlyGivenNames x11
  extract_lets +onlyGivenNames x12
  extract_lets +onlyGivenNames x13
  have hx13 : Only ⟨[.out, .pinned, .ev, .flashJournal, .au, .diskJournal], [Obj.aoBindState, Obj.eventCount, Obj.eventLastAt, Obj.eventLastSubject, Obj.aoLipSyncError], [0x40000004, 0x40000008]⟩ s_a x13 := by
    subst x13
    refine Only.seq (State.setBind_only ..) ?_ (by decide)
    exact Only.refl _ _
  clear_value x13
  extract_lets +onlyGivenNames x14
  have hx14 : Only ⟨[.out, .pinned, .ev, .flashJournal, .au, .diskJournal], [Obj.aoBindState, Obj.eventCount, Obj.eventLastAt, Obj.eventLastSubject, Obj.aoLipSyncError], [0x40000004, 0x40000008]⟩ s_a x14 := by
    subst x14
    refine Only.ite ?_ ?_
    · exact hx13
    · refine Only.seq (State.setI_only ..) ?_ (by decide)
      exact hx13
  clear_value x14
  extract_lets +onlyGivenNames x15
  extract_lets +onlyGivenNames x16
  have hx16 : Only ⟨[.out, .pinned, .ev, .flashJournal, .au, .diskJournal], [Obj.aoBindState, Obj.eventCount, Obj.eventLastAt, Obj.eventLastSubject, Obj.aoLipSyncError], [0x40000004, 0x40000008]⟩ s_a x16 := by
    subst x16
    refine Only.seq (State.setAout_only ..) ?_ (by decide)
    exact hx14
  clear_value x16
  refine Only.ite ?_ ?_
  · refine Only.seq (State.setAout_only ..) ?_ (by decide)
    exact hx16
  · exact hx16

theorem State.videoMark_only (s_a d_a emission_a) : Only ⟨[.out, .pinned, .ev, .flashJournal, .au, .diskJournal], [Obj.aoBindState, Obj.eventCount, Obj.eventLastAt, Obj.eventLastSubject, Obj.aoLipSyncError], [0x40000004, 0x40000008]⟩ s_a (State.videoMark s_a d_a emission_a) := by
  unfold State.videoMark
  split
  · exact Only.refl _ _
  · refine Only.foldl (fun u1 x2 => ?_) ?_
    · refine Only.seq (State.bindMark_only ..) ?_ (by decide)
      exact Only.refl _ _
    · exact Only.refl _ _

theorem State.emitFrame_only (s_a d_a code_a emission_a) : Only ⟨[.out, .fresh, .pinned, .ev, .flashJournal, .ridge, .au, .diskJournal], [Obj.routeOnAir, Obj.originKind, Obj.latencyLast, Obj.stageBreakdown, Obj.latencyMin, Obj.latencyMax, Obj.aoBindState, Obj.eventCount, Obj.eventLastAt, Obj.eventLastSubject, Obj.aoLipSyncError], [0x40000004, 0x40000008]⟩ s_a (State.emitFrame s_a d_a code_a emission_a) := by
  unfold State.emitFrame
  refine Only.ite ?_ ?_
  · exact Only.refl _ _
  · refine Only.seq (State.videoMark_only ..) ?_ (by decide)
    refine Only.seq (State.emitLedger_only ..) ?_ (by decide)
    exact Only.refl _ _

theorem State.stripBlock_only (s_a ch_a words_a side_a) : Only ⟨[.au], [], []⟩ s_a (State.stripBlock s_a ch_a words_a side_a) := by
  unfold State.stripBlock
  extract_lets +onlyGivenNames x1
  extract_lets +onlyGivenNames x2
  extract_lets +onlyGivenNames x3
  extract_lets +onlyGivenNames x4
  extract_lets +onlyGivenNames x5
  extract_lets +onlyGivenNames x6
  extract_lets +onlyGivenNames x7
  split
  extract_lets +onlyGivenNames x8
  extract_lets +onlyGivenNames x9
  extract_lets +onlyGivenNames x10
  extract_lets +onlyGivenNames x11
  extract_lets +onlyGivenNames x12
  extract_lets +onlyGivenNames x13
  refine Only.seq (State.setStrip_only ..) ?_ (by decide)
  exact Only.refl _ _

theorem State.muteEvent_only (s_a was_a is_a subject_a) : Only ⟨[.out, .pinned, .ev, .flashJournal, .diskJournal], [Obj.eventCount, Obj.eventLastAt, Obj.eventLastSubject], [0x40000004, 0x40000008]⟩ s_a (State.muteEvent s_a was_a is_a subject_a) := by
  unfold State.muteEvent
  refine Only.ite ?_ ?_
  · refine Only.seq (State.raise_only ..) ?_ (by decide)
    exact Only.refl _ _
  · exact Only.refl _ _

theorem State.busBlock_only (s_a m_a) : Only ⟨[.out, .pinned, .ev, .flashJournal, .au, .diskJournal], [Obj.eventCount, Obj.eventLastAt, Obj.eventLastSubject, Obj.busClipSamples], [0x40000004, 0x40000008]⟩ s_a (State.busBlock s_a m_a) := by
  unfold State.busBlock
  extract_lets +onlyGivenNames x1
  extract_lets +onlyGivenNames x2
  extract_lets +onlyGivenNames x3
  extract_lets +onlyGivenNames x4
  extract_lets +onlyGivenNames x5
  extract_lets +onlyGivenNames x6
  extract_lets +onlyGivenNames x7
  extract_lets +onlyGivenNames x8
  extract_lets +onlyGivenNames x9
  extract_lets +onlyGivenNames x10
  extract_lets +onlyGivenNames x11
  extract_lets +onlyGivenNames x12
  extract_lets +onlyGivenNames x13
  extract_lets +onlyGivenNames x14
  have hx14 : Only ⟨[.out, .pinned, .ev, .flashJournal, .au, .diskJournal], [Obj.eventCount, Obj.eventLastAt, Obj.eventLastSubject, Obj.busClipSamples], [0x40000004, 0x40000008]⟩ s_a x14 := by
    subst x14
    refine Only.seq (State.setBus_only ..) ?_ (by decide)
    exact Only.refl _ _
  clear_value x14
  extract_lets +onlyGivenNames x15
  have hx15 : Only ⟨[.out, .pinned, .ev, .flashJournal, .au, .diskJournal], [Obj.eventCount, Obj.eventLastAt, Obj.eventLastSubject, Obj.busClipSamples], [0x40000004, 0x40000008]⟩ s_a x15 := by
    subst x15
    refine Only.seq (State.muteEvent_only ..) ?_ (by decide)
    exact hx14
  clear_value x15
  refine Only.ite ?_ ?_
  · exact hx15
  · refine Only.seq (State.raiseLimited_only ..) ?_ (by decide)
    refine Only.seq (State.bump_only ..) ?_ (by decide)
    exact hx15

theorem State.sendWords_only (s_a ch_a r_a next_a ws_a) : Only ⟨[.out, .au], [], []⟩ s_a (State.sendWords s_a ch_a r_a next_a ws_a) := by
  unfold State.sendWords
  refine Only.seq (State.emit_only ..) ?_ (by decide)
  refine Only.seq (State.setAout_only ..) ?_ (by decide)
  exact Only.refl _ _

theorem State.drawn_only (s_a n_a) : Only ⟨[.fresh], [], []⟩ s_a (State.drawn s_a n_a) := by
  unfold State.drawn
  refine Only.seq (Only.upd (r := ⟨[.fresh], [], []⟩) (s := s_a) (fun p => by cases p <;> first | exact .inr rfl | exact .inl (by decide))) ?_ (by decide)
  exact Only.refl _ _

theorem State.serveReader_only (s_a ch_a r_a target_a ws_a) : Only ⟨[.out, .fresh, .au], [], []⟩ s_a (State.serveReader s_a ch_a r_a target_a ws_a) := by
  unfold State.serveReader
  extract_lets +onlyGivenNames x1
  refine Only.ite ?_ ?_
  · extract_lets +onlyGivenNames x2
    refine Only.seq (State.drawn_only ..) ?_ (by decide)
    refine Only.seq (State.sendWords_only ..) ?_ (by decide)
    exact Only.refl _ _
  · refine Only.seq (State.sendWords_only ..) ?_ (by decide)
    exact Only.refl _ _

theorem State.clipped_only (s_a ch_a clips_a) : Only ⟨[.out, .pinned, .ev, .flashJournal, .diskJournal], [Obj.aoClipSamples, Obj.eventCount, Obj.eventLastAt, Obj.eventLastSubject], [0x40000004, 0x40000008]⟩ s_a (State.clipped s_a ch_a clips_a) := by
  unfold State.clipped
  refine Only.ite ?_ ?_
  · exact Only.refl _ _
  · refine Only.seq (State.raiseLimited_only ..) ?_ (by decide)
    refine Only.seq (State.bump_only ..) ?_ (by decide)
    exact Only.refl _ _

theorem State.runOut_only (s_a ch_a target_a) : Only ⟨[.out, .fresh, .pinned, .ev, .flashJournal, .au, .diskJournal], [Obj.aoPathInForce, Obj.aoBindDelay, Obj.aoTapsDeferred, Obj.eventCount, Obj.eventLastAt, Obj.eventLastSubject, Obj.aoClipSamples], [0x40000004, 0x40000008]⟩ s_a (State.runOut s_a ch_a target_a) := by
  unfold State.runOut
  extract_lets +onlyGivenNames x1
  subst x1
  extract_lets +onlyGivenNames x2
  refine Only.ite ?_ ?_
  · exact Only.refl _ _
  · extract_lets +onlyGivenNames x3
    extract_lets +onlyGivenNames x4
    extract_lets +onlyGivenNames x5
    extract_lets +onlyGivenNames x6
    extract_lets +onlyGivenNames x7
    extract_lets +onlyGivenNames x8
    extract_lets +onlyGivenNames x9
    extract_lets +onlyGivenNames x10
    extract_lets +onlyGivenNames x11
    extract_lets +onlyGivenNames x12
    have hx12 : Only ⟨[.out, .fresh, .pinned, .ev, .flashJournal, .au, .diskJournal], [Obj.aoPathInForce, Obj.aoBindDelay, Obj.aoTapsDeferred, Obj.eventCount, Obj.eventLastAt, Obj.eventLastSubject, Obj.aoClipSamples], [0x40000004, 0x40000008]⟩ s_a x12 := by
      subst x12
      refine Only.seq (State.setAout_only ..) ?_ (by decide)
      exact Only.refl _ _
    clear_value x12
    extract_lets +onlyGivenNames x13
    have hx13 : Only ⟨[.out, .fresh, .pinned, .ev, .flashJournal, .au, .diskJournal], [Obj.aoPathInForce, Obj.aoBindDelay, Obj.aoTapsDeferred, Obj.eventCount, Obj.eventLastAt, Obj.eventLastSubject, Obj.aoClipSamples], [0x40000004, 0x40000008]⟩ s_a x13 := by
      subst x13
      refine Only.foldl (fun u14 x15 => ?_) ?_
      · refine Only.seq (State.serveReader_only ..) ?_ (by decide)
        exact Only.refl _ _
      · exact hx12
    clear_value x13
    extract_lets +onlyGivenNames x16
    have hx16 : Only ⟨[.out, .fresh, .pinned, .ev, .flashJournal, .au, .diskJournal], [Obj.aoPathInForce, Obj.aoBindDelay, Obj.aoTapsDeferred, Obj.eventCount, Obj.eventLastAt, Obj.eventLastSubject, Obj.aoClipSamples], [0x40000004, 0x40000008]⟩ s_a x16 := by
      subst x16
      refine Only.seq (State.muteEvent_only ..) ?_ (by decide)
      refine Only.seq (State.deferred_only ..) ?_ (by decide)
      refine Only.seq (State.tapObjects_only ..) ?_ (by decide)
      exact hx13
    clear_value x16
    refine Only.seq (State.clipped_only ..) ?_ (by decide)
    exact hx16

theorem execTapChangeStart_only (dt_a output_a s_a) : OnlyR ⟨[.out, .fresh, .now, .tc, .pinned, .ev, .flashJournal, .au, .diskJournal], [Obj.aoPathInForce, Obj.aoBindDelay, Obj.aoTapsDeferred, Obj.eventCount, Obj.eventLastAt, Obj.eventLastSubject, Obj.aoClipSamples], [0x40000004, 0x40000008]⟩ s_a (execTapChangeStart dt_a output_a s_a) := by
  unfold execTapChangeStart
  refine actIf_only (hk3 := fun u1 => ?_) (l := (by decide)) ..
  extract_lets +onlyGivenNames x2
  refine Only.seq (State.beginTap_only ..) ?_ (by decide)
  refine Only.seq (State.runOut_only ..) ?_ (by decide)
  exact Only.refl _ _

theorem State.endFade_only (s_a ch_a) : Only ⟨[.au], [Obj.aoPathInForce, Obj.aoBindDelay], []⟩ s_a (State.endFade s_a ch_a) := by
  unfold State.endFade
  extract_lets +onlyGivenNames x1
  refine Only.ite ?_ ?_
  · exact Only.refl _ _
  · split
    · refine Only.seq (State.tapObjects_only ..) ?_ (by decide)
      refine Only.seq (State.setAout_only ..) ?_ (by decide)
      exact Only.refl _ _
    · refine Only.seq (State.setAout_only ..) ?_ (by decide)
      exact Only.refl _ _

theorem execCrossfadeEnd_only (dt_a output_a s_a) : OnlyR ⟨[.out, .fresh, .now, .tc, .pinned, .ev, .flashJournal, .au, .diskJournal], [Obj.aoPathInForce, Obj.aoBindDelay, Obj.aoTapsDeferred, Obj.eventCount, Obj.eventLastAt, Obj.eventLastSubject, Obj.aoClipSamples], [0x40000004, 0x40000008]⟩ s_a (execCrossfadeEnd dt_a output_a s_a) := by
  unfold execCrossfadeEnd
  refine actIf_only (hk3 := fun u1 => ?_) (l := (by decide)) ..
  extract_lets +onlyGivenNames x2
  refine Only.seq (State.endFade_only ..) ?_ (by decide)
  refine Only.seq (State.runOut_only ..) ?_ (by decide)
  exact Only.refl _ _

theorem State.outBlock_only (s_a ch_a) : Only ⟨[.out, .fresh, .pinned, .ev, .flashJournal, .au, .diskJournal], [Obj.eventCount, Obj.eventLastAt, Obj.eventLastSubject, Obj.aoPathInForce, Obj.aoBindDelay, Obj.aoTapsDeferred, Obj.aoClipSamples], [0x40000004, 0x40000008]⟩ s_a (State.outBlock s_a ch_a) := by
  unfold State.outBlock
  refine Only.seq (State.runOut_only ..) ?_ (by decide)
  refine Only.seq (State.checkPath_only ..) ?_ (by decide)
  exact Only.refl _ _

theorem State.inputBlock_only (s_a given_a ch_a) : Only ⟨[.au], [], []⟩ s_a (State.inputBlock s_a given_a ch_a) := by
  unfold State.inputBlock
  extract_lets +onlyGivenNames x1
  extract_lets +onlyGivenNames x2
  extract_lets +onlyGivenNames x3
  subst x3
  extract_lets +onlyGivenNames x4
  extract_lets +onlyGivenNames x5
  refine Only.seq (State.stripBlock_only ..) ?_ (by decide)
  refine Only.seq (State.setStrip_only ..) ?_ (by decide)
  exact Only.refl _ _

theorem State.setBlock_only (s_a n_a) : Only ⟨[.au], [], []⟩ s_a (State.setBlock s_a n_a) := by
  unfold State.setBlock
  refine Only.seq (Only.upd (r := ⟨[.au], [], []⟩) (s := s_a) (fun p => by cases p <;> first | exact .inr rfl | exact .inl (by decide))) ?_ (by decide)
  exact Only.refl _ _

theorem execCorniceBlock_only (dt_a inputs_a s_a) : OnlyR ⟨[.out, .fresh, .now, .tc, .pinned, .ev, .flashJournal, .au, .diskJournal], [Obj.eventCount, Obj.eventLastAt, Obj.eventLastSubject, Obj.busClipSamples, Obj.aoPathInForce, Obj.aoBindDelay, Obj.aoTapsDeferred, Obj.aoClipSamples], [0x40000004, 0x40000008]⟩ s_a (execCorniceBlock dt_a inputs_a s_a) := by
  unfold execCorniceBlock
  refine actIf_only (hk3 := fun u1 => ?_) (l := (by decide)) ..
  extract_lets +onlyGivenNames x2
  have hx2 : Only ⟨[.out, .fresh, .now, .tc, .pinned, .ev, .flashJournal, .au, .diskJournal], [Obj.eventCount, Obj.eventLastAt, Obj.eventLastSubject, Obj.busClipSamples, Obj.aoPathInForce, Obj.aoBindDelay, Obj.aoTapsDeferred, Obj.aoClipSamples], [0x40000004, 0x40000008]⟩ u1 x2 := by
    subst x2
    refine Only.seq (State.setBlock_only ..) ?_ (by decide)
    exact Only.refl _ _
  clear_value x2
  extract_lets +onlyGivenNames x3
  extract_lets +onlyGivenNames x4
  extract_lets +onlyGivenNames x5
  have hx5 : Only ⟨[.out, .fresh, .now, .tc, .pinned, .ev, .flashJournal, .au, .diskJournal], [Obj.eventCount, Obj.eventLastAt, Obj.eventLastSubject, Obj.busClipSamples, Obj.aoPathInForce, Obj.aoBindDelay, Obj.aoTapsDeferred, Obj.aoClipSamples], [0x40000004, 0x40000008]⟩ u1 x5 := by
    subst x5
    refine Only.foldl (fun u6 x7 => ?_) ?_
    · refine Only.seq (State.inputBlock_only ..) ?_ (by decide)
      exact Only.refl _ _
    · exact hx2
  clear_value x5
  extract_lets +onlyGivenNames x8
  extract_lets +onlyGivenNames x9
  have hx9 : Only ⟨[.out, .fresh, .now, .tc, .pinned, .ev, .flashJournal, .au, .diskJournal], [Obj.eventCount, Obj.eventLastAt, Obj.eventLastSubject, Obj.busClipSamples, Obj.aoPathInForce, Obj.aoBindDelay, Obj.aoTapsDeferred, Obj.aoClipSamples], [0x40000004, 0x40000008]⟩ u1 x9 := by
    subst x9
    refine Only.foldl (fun u10 x11 => ?_) ?_
    · refine Only.seq (State.busBlock_only ..) ?_ (by decide)
      exact Only.refl _ _
    · exact hx5
  clear_value x9
  extract_lets +onlyGivenNames x12
  refine Only.foldl (fun u13 x14 => ?_) ?_
  · refine Only.seq (State.outBlock_only ..) ?_ (by decide)
    exact Only.refl _ _
  · exact hx9

theorem State.setConverter_only (s_a ch_a st_a) : Only ⟨[.out, .pinned, .ev, .flashJournal, .diskJournal], [Obj.aiConverter, Obj.eventCount, Obj.eventLastAt, Obj.eventLastSubject], [0x40000004, 0x40000008]⟩ s_a (State.setConverter s_a ch_a st_a) := by
  unfold State.setConverter
  refine Only.ite ?_ ?_
  · exact Only.refl _ _
  · refine Only.ite ?_ ?_
    · refine Only.seq (State.setN_only ..) ?_ (by decide)
      exact Only.refl _ _
    · refine Only.seq (State.raise_only ..) ?_ (by decide)
      refine Only.seq (State.setN_only ..) ?_ (by decide)
      exact Only.refl _ _

theorem execAuInputRate_only (dt_a channel_a ppb_a s_a) : OnlyR ⟨[.out, .now, .tc, .pinned, .ev, .flashJournal, .au, .diskJournal], [Obj.aiRateDeviation, Obj.aiConverter, Obj.eventCount, Obj.eventLastAt, Obj.eventLastSubject], [0x40000004, 0x40000008]⟩ s_a (execAuInputRate dt_a channel_a ppb_a s_a) := by
  unfold execAuInputRate
  refine actIf_only (hk3 := fun u1 => ?_) (l := (by decide)) ..
  extract_lets +onlyGivenNames x2
  extract_lets +onlyGivenNames x3
  have hx3 : Only ⟨[.out, .now, .tc, .pinned, .ev, .flashJournal, .au, .diskJournal], [Obj.aiRateDeviation, Obj.aiConverter, Obj.eventCount, Obj.eventLastAt, Obj.eventLastSubject], [0x40000004, 0x40000008]⟩ u1 x3 := by
    subst x3
    refine Only.seq (State.setI_only ..) ?_ (by decide)
    refine Only.seq (State.setStrip_only ..) ?_ (by decide)
    exact Only.refl _ _
  clear_value x3
  refine Only.seq (State.setConverter_only ..) ?_ (by decide)
  exact hx3

theorem State.reportLatency_only (s_a ch_a) : Only ⟨[.fresh, .au], [Obj.aoLatencyLast, Obj.aoOriginKind], []⟩ s_a (State.reportLatency s_a ch_a) := by
  unfold State.reportLatency
  split
  · exact Only.refl _ _
  · extract_lets +onlyGivenNames x1
    extract_lets +onlyGivenNames x2
    have hx2 : Only ⟨[.fresh, .au], [Obj.aoLatencyLast, Obj.aoOriginKind], []⟩ s_a x2 := by
      subst x2
      refine Only.seq (State.setAout_only ..) ?_ (by decide)
      exact Only.refl _ _
    clear_value x2
    split
    rename_i v3 t4 e5
    have ht4 : Only ⟨[.fresh, .au], [Obj.aoLatencyLast, Obj.aoOriginKind], []⟩ s_a t4 := by
      refine Only.snd e5 ?_
      split
      · refine Only.mk2 ?_
        exact hx2
      · refine Only.seq (State.draw_only ..) ?_ (by decide)
        exact hx2
    refine Only.seq (State.setN_only ..) ?_ (by decide)
    refine Only.seq (State.setN_only ..) ?_ (by decide)
    exact ht4

theorem execMeterPeriod_only (dt_a s_a) : OnlyR ⟨[.out, .fresh, .now, .tc, .au], [Obj.aiPeak, Obj.aiPeakHold, Obj.busPeak, Obj.busPeakHold, Obj.busTruePeakMax, Obj.aoPeak, Obj.aoPeakHold, Obj.aoTruePeakMax, Obj.aoLatencyLast, Obj.aoOriginKind], []⟩ s_a (execMeterPeriod dt_a s_a) := by
  unfold execMeterPeriod
  refine actIf_only (hk3 := fun u1 => ?_) (l := (by decide)) ..
  extract_lets +onlyGivenNames x2
  extract_lets +onlyGivenNames x3
  have hx3 : Only ⟨[.out, .fresh, .now, .tc, .au], [Obj.aiPeak, Obj.aiPeakHold, Obj.busPeak, Obj.busPeakHold, Obj.busTruePeakMax, Obj.aoPeak, Obj.aoPeakHold, Obj.aoTruePeakMax, Obj.aoLatencyLast, Obj.aoOriginKind], []⟩ u1 x3 := by
    subst x3
    refine Only.foldl (fun u4 x5 => ?_) ?_
    · extract_lets +onlyGivenNames x6
      extract_lets +onlyGivenNames x7
      refine Only.seq (State.setI_only ..) ?_ (by decide)
      refine Only.seq (State.setI_only ..) ?_ (by decide)
      refine Only.seq (State.setStrip_only ..) ?_ (by decide)
      exact Only.refl _ _
    · exact Only.refl _ _
  clear_value x3
  extract_lets +onlyGivenNames x8
  have hx8 : Only ⟨[.out, .fresh, .now, .tc, .au], [Obj.aiPeak, Obj.aiPeakHold, Obj.busPeak, Obj.busPeakHold, Obj.busTruePeakMax, Obj.aoPeak, Obj.aoPeakHold, Obj.aoTruePeakMax, Obj.aoLatencyLast, Obj.aoOriginKind], []⟩ u1 x8 := by
    subst x8
    refine Only.foldl (fun u9 x10 => ?_) ?_
    · extract_lets +onlyGivenNames x11
      extract_lets +onlyGivenNames x12
      refine Only.seq (State.setI_only ..) ?_ (by decide)
      refine Only.seq (State.setI_only ..) ?_ (by decide)
      refine Only.seq (State.setI_only ..) ?_ (by decide)
      refine Only.seq (State.setBus_only ..) ?_ (by decide)
      exact Only.refl _ _
    · exact hx3
  clear_value x8
  refine Only.foldl (fun u13 x14 => ?_) ?_
  · extract_lets +onlyGivenNames x15
    extract_lets +onlyGivenNames x16
    extract_lets +onlyGivenNames x17
    extract_lets +onlyGivenNames x18
    extract_lets +onlyGivenNames x19
    have hx19 : Only ⟨[.out, .fresh, .now, .tc, .au], [Obj.aiPeak, Obj.aiPeakHold, Obj.busPeak, Obj.busPeakHold, Obj.busTruePeakMax, Obj.aoPeak, Obj.aoPeakHold, Obj.aoTruePeakMax, Obj.aoLatencyLast, Obj.aoOriginKind], []⟩ u13 x19 := by
      subst x19
      refine Only.seq (State.setI_only ..) ?_ (by decide)
      refine Only.seq (State.setI_only ..) ?_ (by decide)
      refine Only.seq (State.setI_only ..) ?_ (by decide)
      refine Only.seq (State.setAout_only ..) ?_ (by decide)
      exact Only.refl _ _
    clear_value x19
    refine Only.seq (State.reportLatency_only ..) ?_ (by decide)
    exact hx19
  · exact hx8

theorem execLoudnessUpdate_only (dt_a group_a s_a) : OnlyR ⟨[.out, .now, .tc, .pinned, .ev, .flashJournal, .au, .diskJournal], [Obj.loudShortTerm, Obj.loudShortTermMax, Obj.eventCount, Obj.eventLastAt, Obj.eventLastSubject], [0x40000004, 0x40000008]⟩ s_a (execLoudnessUpdate dt_a group_a s_a) := by
  unfold execLoudnessUpdate
  refine actIf_only (hk3 := fun u1 => ?_) (l := (by decide)) ..
  extract_lets +onlyGivenNames x2
  extract_lets +onlyGivenNames x3
  extract_lets +onlyGivenNames x4
  extract_lets +onlyGivenNames x5
  have hx5 : Only ⟨[.out, .now, .tc, .pinned, .ev, .flashJournal, .au, .diskJournal], [Obj.loudShortTerm, Obj.loudShortTermMax, Obj.eventCount, Obj.eventLastAt, Obj.eventLastSubject], [0x40000004, 0x40000008]⟩ u1 x5 := by
    subst x5
    refine Only.seq (State.setI_only ..) ?_ (by decide)
    exact Only.refl _ _
  clear_value x5
  extract_lets +onlyGivenNames x6
  have hx6 : Only ⟨[.out, .now, .tc, .pinned, .ev, .flashJournal, .au, .diskJournal], [Obj.loudShortTerm, Obj.loudShortTermMax, Obj.eventCount, Obj.eventLastAt, Obj.eventLastSubject], [0x40000004, 0x40000008]⟩ u1 x6 := by
    subst x6
    refine Only.seq (State.setI_only ..) ?_ (by decide)
    exact hx5
  clear_value x6
  extract_lets +onlyGivenNames x7
  extract_lets +onlyGivenNames x8
  refine Only.ite ?_ ?_
  · refine Only.ite ?_ ?_
    · exact hx6
    · refine Only.seq (State.raise_only ..) ?_ (by decide)
      refine Only.seq (Only.upd (r := ⟨[.au], [], []⟩) (s := x6) (fun p => by cases p <;> first | exact .inr rfl | exact .inl (by decide))) ?_ (by decide)
      exact hx6
  · refine Only.ite ?_ ?_
    · refine Only.seq (Only.upd (r := ⟨[.au], [], []⟩) (s := x6) (fun p => by cases p <;> first | exact .inr rfl | exact .inl (by decide))) ?_ (by decide)
      exact hx6
    · exact hx6

theorem State.refreshInputs_only (s_a old_a) : Only ⟨[.out, .pinned, .ev, .flashJournal, .au, .diskJournal], [Obj.aiFeed, Obj.aiRateIn, Obj.aiConverter, Obj.eventCount, Obj.eventLastAt, Obj.eventLastSubject, Obj.aiRateDeviation, Obj.aiNonAudio], [0x40000004, 0x40000008]⟩ s_a (State.refreshInputs s_a old_a) := by
  unfold State.refreshInputs
  extract_lets +onlyGivenNames x1
  refine Only.foldl (fun u2 x3 => ?_) ?_
  · extract_lets +onlyGivenNames x4
    extract_lets +onlyGivenNames x5
    refine Only.ite ?_ ?_
    · exact Only.refl _ _
    · extract_lets +onlyGivenNames x6
      have hx6 : Only ⟨[.out, .pinned, .ev, .flashJournal, .au, .diskJournal], [Obj.aiFeed, Obj.aiRateIn, Obj.aiConverter, Obj.eventCount, Obj.eventLastAt, Obj.eventLastSubject, Obj.aiRateDeviation, Obj.aiNonAudio], [0x40000004, 0x40000008]⟩ u2 x6 := by
        subst x6
        refine Only.seq (State.setN_only ..) ?_ (by decide)
        refine Only.seq (State.setN_only ..) ?_ (by decide)
        exact Only.refl _ _
      clear_value x6
      extract_lets +onlyGivenNames x7
      have hx7 : Only ⟨[.out, .pinned, .ev, .flashJournal, .au, .diskJournal], [Obj.aiFeed, Obj.aiRateIn, Obj.aiConverter, Obj.eventCount, Obj.eventLastAt, Obj.eventLastSubject, Obj.aiRateDeviation, Obj.aiNonAudio], [0x40000004, 0x40000008]⟩ u2 x7 := by
        subst x7
        refine Only.seq (State.toDefault_only ..) ?_ (by decide)
        refine Only.seq (State.setConverter_only ..) ?_ (by decide)
        exact hx6
      clear_value x7
      refine Only.seq (State.setStrip_only ..) ?_ (by decide)
      refine Only.seq (State.toDefault_only ..) ?_ (by decide)
      exact hx7
  · exact Only.refl _ _

theorem State.corniceCommit_only (s_a old_a boundary_a) : Only ⟨[.out, .pinned, .ev, .flashJournal, .au, .diskJournal], [Obj.aiFeed, Obj.aiRateIn, Obj.aiConverter, Obj.eventCount, Obj.eventLastAt, Obj.eventLastSubject, Obj.aiRateDeviation, Obj.aiNonAudio, Obj.aoBindState, Obj.aoBindDelay, Obj.aoLipSyncError], [0x40000004, 0x40000008]⟩ s_a (State.corniceCommit s_a old_a boundary_a) := by
  unfold State.corniceCommit
  extract_lets +onlyGivenNames x1
  have hx1 : Only ⟨[.out, .pinned, .ev, .flashJournal, .au, .diskJournal], [Obj.aiFeed, Obj.aiRateIn, Obj.aiConverter, Obj.eventCount, Obj.eventLastAt, Obj.eventLastSubject, Obj.aiRateDeviation, Obj.aiNonAudio, Obj.aoBindState, Obj.aoBindDelay, Obj.aoLipSyncError], [0x40000004, 0x40000008]⟩ s_a x1 := by
    subst x1
    refine Only.seq (State.refreshInputs_only ..) ?_ (by decide)
    exact Only.refl _ _
  clear_value x1
  extract_lets +onlyGivenNames x2
  refine Only.foldl (fun u3 x4 => ?_) ?_
  · extract_lets +onlyGivenNames x5
    extract_lets +onlyGivenNames x6
    extract_lets +onlyGivenNames x7
    refine Only.ite ?_ ?_
    · extract_lets +onlyGivenNames x8
      have hx8 : Only ⟨[.out, .pinned, .ev, .flashJournal, .au, .diskJournal], [Obj.aiFeed, Obj.aiRateIn, Obj.aiConverter, Obj.eventCount, Obj.eventLastAt, Obj.eventLastSubject, Obj.aiRateDeviation, Obj.aiNonAudio, Obj.aoBindState, Obj.aoBindDelay, Obj.aoLipSyncError], [0x40000004, 0x40000008]⟩ u3 x8 := by
        subst x8
        refine Only.ite ?_ ?_
        · refine Only.seq (State.setN_only ..) ?_ (by decide)
          exact Only.refl _ _
        · exact Only.refl _ _
      clear_value x8
      refine Only.seq (State.setAout_only ..) ?_ (by decide)
      exact hx8
    · extract_lets +onlyGivenNames x9
      have hx9 : Only ⟨[.out, .pinned, .ev, .flashJournal, .au, .diskJournal], [Obj.aiFeed, Obj.aiRateIn, Obj.aiConverter, Obj.eventCount, Obj.eventLastAt, Obj.eventLastSubject, Obj.aiRateDeviation, Obj.aiNonAudio, Obj.aoBindState, Obj.aoBindDelay, Obj.aoLipSyncError], [0x40000004, 0x40000008]⟩ u3 x9 := by
        subst x9
        refine Only.ite ?_ ?_
        · refine Only.seq (State.toDefault_only ..) ?_ (by decide)
          refine Only.seq (State.setN_only ..) ?_ (by decide)
          refine Only.seq (State.setN_only ..) ?_ (by decide)
          exact Only.refl _ _
        · exact Only.refl _ _
      clear_value x9
      refine Only.seq (State.setAout_only ..) ?_ (by decide)
      exact hx9
  · exact hx1

end Sys2Proof.Machine
end

