-- ==== Sys2Proof/Laws/OnlyMoraine.lean ====
section
/-!
SUPPORT. What the functions of Machine/Moraine.lean may change (`Only` of Laws/Only.lean).
-/
namespace Sys2Proof.Machine
set_option Elab.async false

theorem State.setDrive_only (s_a d_a x_a) : Only ⟨[.mor], [], []⟩ s_a (State.setDrive s_a d_a x_a) := by
  unfold State.setDrive
  refine Only.seq (Only.upd (r := ⟨[.mor], [], []⟩) (s := s_a) (fun p => by cases p <;> first | exact .inr rfl | exact .inl (by decide))) ?_ (by decide)
  exact Only.refl _ _

theorem State.setClip_only (s_a c_a x_a) : Only ⟨[.mor], [], []⟩ s_a (State.setClip s_a c_a x_a) := by
  unfold State.setClip
  refine Only.seq (Only.upd (r := ⟨[.mor], [], []⟩) (s := s_a) (fun p => by cases p <;> first | exact .inr rfl | exact .inl (by decide))) ?_ (by decide)
  exact Only.refl _ _

theorem State.setLine_only (s_a l_a x_a) : Only ⟨[.mor], [Obj.dlyStored], []⟩ s_a (State.setLine s_a l_a x_a) := by
  unfold State.setLine
  refine Only.seq (State.setN_only ..) ?_ (by decide)
  refine Only.seq (Only.upd (r := ⟨[.mor], [], []⟩) (s := s_a) (fun p => by cases p <;> first | exact .inr rfl | exact .inl (by decide))) ?_ (by decide)
  exact Only.refl _ _

theorem State.setRecorder_only (s_a r_a x_a) : Only ⟨[.mor], [], []⟩ s_a (State.setRecorder s_a r_a x_a) := by
  unfold State.setRecorder
  refine Only.seq (Only.upd (r := ⟨[.mor], [], []⟩) (s := s_a) (fun p => by cases p <;> first | exact .inr rfl | exact .inl (by decide))) ?_ (by decide)
  exact Only.refl _ _

theorem State.setPlayer_only (s_a p_a x_a) : Only ⟨[.mor], [], []⟩ s_a (State.setPlayer s_a p_a x_a) := by
  unfold State.setPlayer
  refine Only.seq (Only.upd (r := ⟨[.mor], [], []⟩) (s := s_a) (fun p => by cases p <;> first | exact .inr rfl | exact .inl (by decide))) ?_ (by decide)
  exact Only.refl _ _

theorem State.morLate_only (s_a stream_a) : Only ⟨[.out, .pinned, .ev, .flashJournal, .diskJournal], [Obj.eventCount, Obj.eventLastAt, Obj.eventLastSubject], [0x40000004, 0x40000008]⟩ s_a (State.morLate s_a stream_a) := by
  unfold State.morLate
  refine Only.seq (State.raiseLimited_only ..) ?_ (by decide)
  exact Only.refl _ _

theorem State.mediaError_only (s_a d_a) : Only ⟨[.out, .pinned, .ev, .flashJournal, .diskJournal], [Obj.morMediaErrors, Obj.eventCount, Obj.eventLastAt, Obj.eventLastSubject], [0x40000004, 0x40000008]⟩ s_a (State.mediaError s_a d_a) := by
  unfold State.mediaError
  refine Only.seq (State.raiseLimited_only ..) ?_ (by decide)
  refine Only.seq (State.bump_only ..) ?_ (by decide)
  exact Only.refl _ _

theorem State.endRecord_only (s_a r_a state_a) : Only ⟨[.out, .pinned, .ev, .flashJournal, .mor, .diskJournal], [Obj.recState, Obj.eventCount, Obj.eventLastAt, Obj.eventLastSubject], [0x40000004, 0x40000008]⟩ s_a (State.endRecord s_a r_a state_a) := by
  unfold State.endRecord
  extract_lets +onlyGivenNames x1
  extract_lets +onlyGivenNames x2
  extract_lets +onlyGivenNames x3
  have hx3 : Only ⟨[.out, .pinned, .ev, .flashJournal, .mor, .diskJournal], [Obj.recState, Obj.eventCount, Obj.eventLastAt, Obj.eventLastSubject], [0x40000004, 0x40000008]⟩ s_a x3 := by
    subst x3
    refine Only.seq (State.setClip_only ..) ?_ (by decide)
    exact Only.refl _ _
  clear_value x3
  refine Only.seq (State.raise_only ..) ?_ (by decide)
  refine Only.seq (State.setN_only ..) ?_ (by decide)
  refine Only.seq (State.setRecorder_only ..) ?_ (by decide)
  exact hx3

theorem State.drainRecord_only (s_a r_a) : Only ⟨[.out, .pinned, .ev, .flashJournal, .mor, .diskJournal], [Obj.recState, Obj.eventCount, Obj.eventLastAt, Obj.eventLastSubject], [0x40000004, 0x40000008]⟩ s_a (State.drainRecord s_a r_a) := by
  unfold State.drainRecord
  extract_lets +onlyGivenNames x1
  extract_lets +onlyGivenNames x2
  extract_lets +onlyGivenNames x3
  extract_lets +onlyGivenNames x4
  have hx4 : Only ⟨[.out, .pinned, .ev, .flashJournal, .mor, .diskJournal], [Obj.recState, Obj.eventCount, Obj.eventLastAt, Obj.eventLastSubject], [0x40000004, 0x40000008]⟩ s_a x4 := by
    subst x4
    refine Only.seq (State.setRecorder_only ..) ?_ (by decide)
    refine Only.seq (State.setClip_only ..) ?_ (by decide)
    exact Only.refl _ _
  clear_value x4
  refine Only.ite ?_ ?_
  · refine Only.seq (State.endRecord_only ..) ?_ (by decide)
    exact hx4
  · exact hx4

theorem State.recordFrame_only (s_a r_a dst_a align_a) : Only ⟨[.out, .pinned, .ev, .flashJournal, .mor, .diskJournal], [Obj.recLateFrames, Obj.eventCount, Obj.eventLastAt, Obj.eventLastSubject, Obj.recState], [0x40000004, 0x40000008]⟩ s_a (State.recordFrame s_a r_a dst_a align_a) := by
  unfold State.recordFrame
  extract_lets +onlyGivenNames x1
  refine Only.ite ?_ ?_
  · exact Only.refl _ _
  · split
    · exact Only.refl _ _
    · extract_lets +onlyGivenNames x2
      extract_lets +onlyGivenNames x3
      extract_lets +onlyGivenNames x4
      have hx4 : Only ⟨[.out, .pinned, .ev, .flashJournal, .mor, .diskJournal], [Obj.recLateFrames, Obj.eventCount, Obj.eventLastAt, Obj.eventLastSubject, Obj.recState], [0x40000004, 0x40000008]⟩ s_a x4 := by
        subst x4
        refine Only.ite ?_ ?_
        · refine Only.seq (State.setClip_only ..) ?_ (by decide)
          exact Only.refl _ _
        · exact Only.refl _ _
      clear_value x4
      extract_lets +onlyGivenNames x5
      extract_lets +onlyGivenNames x6
      extract_lets +onlyGivenNames x7
      extract_lets +onlyGivenNames x8
      have hx8 : Only ⟨[.out, .pinned, .ev, .flashJournal, .mor, .diskJournal], [Obj.recLateFrames, Obj.eventCount, Obj.eventLastAt, Obj.eventLastSubject, Obj.recState], [0x40000004, 0x40000008]⟩ s_a x8 := by
        subst x8
        refine Only.seq (State.setRecorder_only ..) ?_ (by decide)
        exact hx4
      clear_value x8
      extract_lets +onlyGivenNames x9
      have hx9 : Only ⟨[.out, .pinned, .ev, .flashJournal, .mor, .diskJournal], [Obj.recLateFrames, Obj.eventCount, Obj.eventLastAt, Obj.eventLastSubject, Obj.recState], [0x40000004, 0x40000008]⟩ s_a x9 := by
        subst x9
        refine Only.ite ?_ ?_
        · refine Only.seq (State.morLate_only ..) ?_ (by decide)
          refine Only.seq (State.bump_only ..) ?_ (by decide)
          exact hx8
        · exact hx8
      clear_value x9
      refine Only.seq (State.drainRecord_only ..) ?_ (by decide)
      exact hx9

theorem State.renewRecord_only (s_a r_a x_a) : Only ⟨[.mor], [], []⟩ s_a (State.renewRecord s_a r_a x_a) := by
  unfold State.renewRecord
  extract_lets +onlyGivenNames x1
  extract_lets +onlyGivenNames x2
  extract_lets +onlyGivenNames x3
  refine Only.ite ?_ ?_
  · refine Only.seq (State.setClip_only ..) ?_ (by decide)
    refine Only.seq (State.setRecorder_only ..) ?_ (by decide)
    exact Only.refl _ _
  · exact Only.refl _ _

theorem State.recordStored_only (s_a r_a d_a ok_a) : Only ⟨[.out, .pinned, .ev, .flashJournal, .mor, .diskJournal], [Obj.morMediaErrors, Obj.eventCount, Obj.eventLastAt, Obj.eventLastSubject, Obj.recState], [0x40000004, 0x40000008]⟩ s_a (State.recordStored s_a r_a d_a ok_a) := by
  unfold State.recordStored
  extract_lets +onlyGivenNames x1
  split
  · extract_lets +onlyGivenNames x2
    extract_lets +onlyGivenNames x3
    have hx3 : Only ⟨[.out, .pinned, .ev, .flashJournal, .mor, .diskJournal], [Obj.morMediaErrors, Obj.eventCount, Obj.eventLastAt, Obj.eventLastSubject, Obj.recState], [0x40000004, 0x40000008]⟩ s_a x3 := by
      subst x3
      refine Only.seq (State.setRecorder_only ..) ?_ (by decide)
      refine Only.seq (State.setClip_only ..) ?_ (by decide)
      exact Only.refl _ _
    clear_value x3
    extract_lets +onlyGivenNames x4
    have hx4 : Only ⟨[.out, .pinned, .ev, .flashJournal, .mor, .diskJournal], [Obj.morMediaErrors, Obj.eventCount, Obj.eventLastAt, Obj.eventLastSubject, Obj.recState], [0x40000004, 0x40000008]⟩ s_a x4 := by
      subst x4
      refine Only.ite ?_ ?_
      · exact hx3
      · refine Only.seq (State.mediaError_only ..) ?_ (by decide)
        exact hx3
    clear_value x4
    refine Only.seq (State.drainRecord_only ..) ?_ (by decide)
    exact hx4
  · exact Only.refl _ _

theorem State.startRecord_only (s_a r_a boundary_a) : Only ⟨[.fresh, .mor], [Obj.recState], []⟩ s_a (State.startRecord s_a r_a boundary_a) := by
  unfold State.startRecord
  extract_lets +onlyGivenNames x1
  refine Only.ite ?_ ?_
  · exact Only.refl _ _
  · split
    rename_i v2 t3 e4
    have ht3 := Only.mono (b := ⟨[.fresh, .mor], [Obj.recState], []⟩) (Only.snd e4 (State.draw_only ..)) (by decide)
    extract_lets +onlyGivenNames x5
    have hx5 : Only ⟨[.fresh, .mor], [Obj.recState], []⟩ s_a x5 := by
      subst x5
      refine Only.seq (State.setClip_only ..) ?_ (by decide)
      exact ht3
    clear_value x5
    refine Only.seq (State.setN_only ..) ?_ (by decide)
    refine Only.seq (State.setRecorder_only ..) ?_ (by decide)
    exact hx5

theorem State.stopRecord_only (s_a r_a) : Only ⟨[.out, .pinned, .ev, .flashJournal, .mor, .diskJournal], [Obj.recState, Obj.eventCount, Obj.eventLastAt, Obj.eventLastSubject], [0x40000004, 0x40000008]⟩ s_a (State.stopRecord s_a r_a) := by
  unfold State.stopRecord
  extract_lets +onlyGivenNames x1
  refine Only.ite ?_ ?_
  · refine Only.seq (State.drainRecord_only ..) ?_ (by decide)
    refine Only.seq (State.setRecorder_only ..) ?_ (by decide)
    exact Only.refl _ _
  · exact Only.refl _ _

theorem State.delayFrame_only (s_a l_a dst_a align_a) : Only ⟨[.out, .pinned, .ev, .flashJournal, .mor, .diskJournal], [Obj.dlyLateFrames, Obj.eventCount, Obj.eventLastAt, Obj.eventLastSubject, Obj.dlyStored], [0x40000004, 0x40000008]⟩ s_a (State.delayFrame s_a l_a dst_a align_a) := by
  unfold State.delayFrame
  refine Only.ite ?_ ?_
  · exact Only.refl _ _
  · split
    · exact Only.refl _ _
    · extract_lets +onlyGivenNames x1
      extract_lets +onlyGivenNames x2
      refine Only.ite ?_ ?_
      · refine Only.seq (State.morLate_only ..) ?_ (by decide)
        refine Only.seq (State.bump_only ..) ?_ (by decide)
        exact Only.refl _ _
      · refine Only.seq (State.setLine_only ..) ?_ (by decide)
        exact Only.refl _ _

theorem State.renewDelay_only (s_a l_a x_a) : Only ⟨[.mor], [Obj.dlyStored], []⟩ s_a (State.renewDelay s_a l_a x_a) := by
  unfold State.renewDelay
  extract_lets +onlyGivenNames x1
  extract_lets +onlyGivenNames x2
  refine Only.seq (State.setLine_only ..) ?_ (by decide)
  exact Only.refl _ _

theorem State.renewTx_only (s_a d_a x_a f_a) : Only ⟨[.media], [], []⟩ s_a (State.renewTx s_a d_a x_a f_a) := by
  unfold State.renewTx
  refine Only.foldl (fun u1 x2 => ?_) ?_
  · refine Only.seq (State.setTxe_only ..) ?_ (by decide)
    exact Only.refl _ _
  · exact Only.refl _ _

theorem State.reshow_only (s_a d_a x_a f_a) : Only ⟨[.ridge, .media, .mor], [Obj.dlyStored], []⟩ s_a (State.reshow s_a d_a x_a f_a) := by
  unfold State.reshow
  extract_lets +onlyGivenNames x1
  extract_lets +onlyGivenNames x2
  have hx2 : Only ⟨[.ridge, .media, .mor], [Obj.dlyStored], []⟩ s_a x2 := by
    subst x2
    refine Only.seq (State.setDst_only ..) ?_ (by decide)
    exact Only.refl _ _
  clear_value x2
  split
  · refine Only.seq (State.renewRecord_only ..) ?_ (by decide)
    exact hx2
  · refine Only.seq (State.renewDelay_only ..) ?_ (by decide)
    exact hx2
  · refine Only.seq (State.renewTx_only ..) ?_ (by decide)
    exact hx2
  · exact hx2

theorem State.repaint_only (s_a d_a x_a) : Only ⟨[.out, .ridge, .media, .mor], [Obj.dlyStored], []⟩ s_a (State.repaint s_a d_a x_a) := by
  unfold State.repaint
  extract_lets +onlyGivenNames x1
  have hx1 : Only ⟨[.out, .ridge, .media, .mor], [Obj.dlyStored], []⟩ s_a x1 := by
    subst x1
    refine Only.seq (State.reshow_only ..) ?_ (by decide)
    exact Only.refl _ _
  clear_value x1
  split
  · refine Only.ite ?_ ?_
    · refine Only.seq (State.emit_only ..) ?_ (by decide)
      exact hx1
    · exact hx1
  · exact hx1

theorem State.amendPic_only (s_a slot_a seq_a f_a) : Only ⟨[.out, .ridge, .media, .mor], [Obj.dlyStored], []⟩ s_a (State.amendPic s_a slot_a seq_a f_a) := by
  unfold State.amendPic
  split
  · exact Only.refl _ _
  · refine Only.ite ?_ ?_
    · exact Only.refl _ _
    · extract_lets +onlyGivenNames x1
      have hx1 : Only ⟨[.out, .ridge, .media, .mor], [Obj.dlyStored], []⟩ s_a x1 := by
        subst x1
        refine Only.seq (State.setSrc_only ..) ?_ (by decide)
        exact Only.refl _ _
      clear_value x1
      refine Only.foldl (fun u2 x3 => ?_) ?_
      · split
        · refine Only.ite ?_ ?_
          · refine Only.seq (State.repaint_only ..) ?_ (by decide)
            exact Only.refl _ _
          · exact Only.refl _ _
        · exact Only.refl _ _
      · exact hx1

theorem State.delayStored_only (s_a l_a k_a d_a ok_a) : Only ⟨[.out, .pinned, .ev, .flashJournal, .mor, .diskJournal], [Obj.dlyStored, Obj.morMediaErrors, Obj.eventCount, Obj.eventLastAt, Obj.eventLastSubject], [0x40000004, 0x40000008]⟩ s_a (State.delayStored s_a l_a k_a d_a ok_a) := by
  unfold State.delayStored
  extract_lets +onlyGivenNames x1
  split
  · extract_lets +onlyGivenNames x2
    extract_lets +onlyGivenNames x3
    extract_lets +onlyGivenNames x4
    extract_lets +onlyGivenNames x5
    have hx5 : Only ⟨[.out, .pinned, .ev, .flashJournal, .mor, .diskJournal], [Obj.dlyStored, Obj.morMediaErrors, Obj.eventCount, Obj.eventLastAt, Obj.eventLastSubject], [0x40000004, 0x40000008]⟩ s_a x5 := by
      subst x5
      refine Only.seq (State.setLine_only ..) ?_ (by decide)
      exact Only.refl _ _
    clear_value x5
    refine Only.ite ?_ ?_
    · exact hx5
    · refine Only.seq (State.mediaError_only ..) ?_ (by decide)
      exact hx5
  · exact Only.refl _ _

theorem State.emptyRing_only (s_a l_a) : Only ⟨[.mor], [Obj.dlyStored], []⟩ s_a (State.emptyRing s_a l_a) := by
  unfold State.emptyRing
  extract_lets +onlyGivenNames x1
  have hx1 : Only ⟨[.mor], [Obj.dlyStored], []⟩ s_a x1 := by
    subst x1
    refine Only.seq (State.setLine_only ..) ?_ (by decide)
    exact Only.refl _ _
  clear_value x1
  refine Only.seq (Only.upd (r := ⟨[.mor], [], []⟩) (s := x1) (fun p => by cases p <;> first | exact .inr rfl | exact .inl (by decide))) ?_ (by decide)
  exact hx1

theorem State.poolDown_only (s_a) : Only ⟨[.out, .pinned, .ev, .flashJournal, .ridge, .mor, .diskJournal], [Obj.recState, Obj.eventCount, Obj.eventLastAt, Obj.eventLastSubject, Obj.dlyStored, Obj.srcFeedKind, Obj.srcState, Obj.srcReservationStatus, Obj.srcFramesAbandoned, Obj.srcColourLive], [0x40000004, 0x40000008]⟩ s_a (State.poolDown s_a) := by
  unfold State.poolDown
  extract_lets +onlyGivenNames x1
  extract_lets +onlyGivenNames x2
  have hx2 : Only ⟨[.out, .pinned, .ev, .flashJournal, .ridge, .mor, .diskJournal], [Obj.recState, Obj.eventCount, Obj.eventLastAt, Obj.eventLastSubject, Obj.dlyStored, Obj.srcFeedKind, Obj.srcState, Obj.srcReservationStatus, Obj.srcFramesAbandoned, Obj.srcColourLive], [0x40000004, 0x40000008]⟩ s_a x2 := by
    subst x2
    refine Only.foldl (fun u3 x4 => ?_) ?_
    · refine Only.seq (State.endRecord_only ..) ?_ (by decide)
      exact Only.refl _ _
    · exact Only.refl _ _
  clear_value x2
  extract_lets +onlyGivenNames x5
  have hx5 : Only ⟨[.out, .pinned, .ev, .flashJournal, .ridge, .mor, .diskJournal], [Obj.recState, Obj.eventCount, Obj.eventLastAt, Obj.eventLastSubject, Obj.dlyStored, Obj.srcFeedKind, Obj.srcState, Obj.srcReservationStatus, Obj.srcFramesAbandoned, Obj.srcColourLive], [0x40000004, 0x40000008]⟩ s_a x5 := by
    subst x5
    refine Only.foldl (fun u6 x7 => ?_) ?_
    · refine Only.seq (State.emptyRing_only ..) ?_ (by decide)
      exact Only.refl _ _
    · exact hx2
  clear_value x5
  extract_lets +onlyGivenNames x8
  extract_lets +onlyGivenNames x9
  have hx9 : Only ⟨[.out, .pinned, .ev, .flashJournal, .ridge, .mor, .diskJournal], [Obj.recState, Obj.eventCount, Obj.eventLastAt, Obj.eventLastSubject, Obj.dlyStored, Obj.srcFeedKind, Obj.srcState, Obj.srcReservationStatus, Obj.srcFramesAbandoned, Obj.srcColourLive], [0x40000004, 0x40000008]⟩ s_a x9 := by
    subst x9
    refine Only.seq (Only.upd (r := ⟨[.mor], [], []⟩) (s := x5) (fun p => by cases p <;> first | exact .inr rfl | exact .inl (by decide))) ?_ (by decide)
    exact hx5
  clear_value x9
  refine Only.seq (State.refreshSlots_only ..) ?_ (by decide)
  exact hx9

theorem State.startPlay_only (s_a p_a boundary_a) : Only ⟨[.mor], [], []⟩ s_a (State.startPlay s_a p_a boundary_a) := by
  unfold State.startPlay
  refine Only.seq (State.setPlayer_only ..) ?_ (by decide)
  exact Only.refl _ _

theorem State.poolUp_only (s_a) : Only ⟨[.mor], [Obj.morPoolExtents], []⟩ s_a (State.poolUp s_a) := by
  unfold State.poolUp
  extract_lets +onlyGivenNames x1
  have hx1 : Only ⟨[.mor], [Obj.morPoolExtents], []⟩ s_a x1 := by
    subst x1
    refine Only.seq (State.setN_only ..) ?_ (by decide)
    exact Only.refl _ _
  clear_value x1
  refine Only.foldl (fun u2 x3 => ?_) ?_
  · refine Only.seq (State.startPlay_only ..) ?_ (by decide)
    exact Only.refl _ _
  · exact hx1

theorem State.refreshPool_only (s_a) : Only ⟨[.out, .pinned, .ev, .flashJournal, .ridge, .mor, .diskJournal], [Obj.morPoolState, Obj.morPoolExtents, Obj.recState, Obj.eventCount, Obj.eventLastAt, Obj.eventLastSubject, Obj.dlyStored, Obj.srcFeedKind, Obj.srcState, Obj.srcReservationStatus, Obj.srcFramesAbandoned, Obj.srcColourLive, Obj.healthReasons, Obj.healthState], [0x40000004, 0x40000008]⟩ s_a (State.refreshPool s_a) := by
  unfold State.refreshPool
  extract_lets +onlyGivenNames x1
  subst x1
  extract_lets +onlyGivenNames x2
  extract_lets +onlyGivenNames x3
  have hx3 : Only ⟨[.out, .pinned, .ev, .flashJournal, .ridge, .mor, .diskJournal], [Obj.morPoolState, Obj.morPoolExtents, Obj.recState, Obj.eventCount, Obj.eventLastAt, Obj.eventLastSubject, Obj.dlyStored, Obj.srcFeedKind, Obj.srcState, Obj.srcReservationStatus, Obj.srcFramesAbandoned, Obj.srcColourLive, Obj.healthReasons, Obj.healthState], [0x40000004, 0x40000008]⟩ s_a x3 := by
    subst x3
    split
    · refine Only.ite ?_ ?_
      · refine Only.seq (State.journal_only ..) ?_ (by decide)
        refine Only.seq (Only.upd (r := ⟨[.mor], [], []⟩) (s := s_a) (fun p => by cases p <;> first | exact .inr rfl | exact .inl (by decide))) ?_ (by decide)
        exact Only.refl _ _
      · exact Only.refl _ _
    · exact Only.refl _ _
  clear_value x3
  extract_lets +onlyGivenNames x4
  refine Only.ite ?_ ?_
  · exact hx3
  · extract_lets +onlyGivenNames x5
    have hx5 : Only ⟨[.out, .pinned, .ev, .flashJournal, .ridge, .mor, .diskJournal], [Obj.morPoolState, Obj.morPoolExtents, Obj.recState, Obj.eventCount, Obj.eventLastAt, Obj.eventLastSubject, Obj.dlyStored, Obj.srcFeedKind, Obj.srcState, Obj.srcReservationStatus, Obj.srcFramesAbandoned, Obj.srcColourLive, Obj.healthReasons, Obj.healthState], [0x40000004, 0x40000008]⟩ s_a x5 := by
      subst x5
      refine Only.seq (State.setN_only ..) ?_ (by decide)
      exact hx3
    clear_value x5
    extract_lets +onlyGivenNames x6
    have hx6 : Only ⟨[.out, .pinned, .ev, .flashJournal, .ridge, .mor, .diskJournal], [Obj.morPoolState, Obj.morPoolExtents, Obj.recState, Obj.eventCount, Obj.eventLastAt, Obj.eventLastSubject, Obj.dlyStored, Obj.srcFeedKind, Obj.srcState, Obj.srcReservationStatus, Obj.srcFramesAbandoned, Obj.srcColourLive, Obj.healthReasons, Obj.healthState], [0x40000004, 0x40000008]⟩ s_a x6 := by
      subst x6
      refine Only.ite ?_ ?_
      · refine Only.seq (State.poolUp_only ..) ?_ (by decide)
        exact hx5
      · refine Only.ite ?_ ?_
        · refine Only.seq (State.poolDown_only ..) ?_ (by decide)
          exact hx5
        · exact hx5
    clear_value x6
    refine Only.seq (State.setReason_only ..) ?_ (by decide)
    refine Only.seq (State.raise_only ..) ?_ (by decide)
    exact hx6

theorem State.journalRestart_only (s_a cause_a) : Only ⟨[.out, .pinned, .ev, .flashJournal, .ridge, .mor, .diskJournal], [Obj.morPoolState, Obj.morPoolExtents, Obj.recState, Obj.eventCount, Obj.eventLastAt, Obj.eventLastSubject, Obj.dlyStored, Obj.srcFeedKind, Obj.srcState, Obj.srcReservationStatus, Obj.srcFramesAbandoned, Obj.srcColourLive, Obj.healthReasons, Obj.healthState], [0x40000004, 0x40000008]⟩ s_a (State.journalRestart s_a cause_a) := by
  unfold State.journalRestart
  refine Only.seq (State.refreshPool_only ..) ?_ (by decide)
  refine Only.seq (Only.upd (r := ⟨[.mor], [], []⟩) (s := s_a) (fun p => by cases p <;> first | exact .inr rfl | exact .inl (by decide))) ?_ (by decide)
  exact Only.refl _ _

theorem State.driveLost_only (s_a d_a) : Only ⟨[.out, .pinned, .ev, .flashJournal, .ridge, .mor, .diskJournal], [Obj.morDriveState, Obj.morDriveLink, Obj.eventCount, Obj.eventLastAt, Obj.eventLastSubject, Obj.morPoolState, Obj.morPoolExtents, Obj.recState, Obj.dlyStored, Obj.srcFeedKind, Obj.srcState, Obj.srcReservationStatus, Obj.srcFramesAbandoned, Obj.srcColourLive, Obj.healthReasons, Obj.healthState], [0x40000004, 0x40000008]⟩ s_a (State.driveLost s_a d_a) := by
  unfold State.driveLost
  extract_lets +onlyGivenNames x1
  extract_lets +onlyGivenNames x2
  have hx2 : Only ⟨[.out, .pinned, .ev, .flashJournal, .ridge, .mor, .diskJournal], [Obj.morDriveState, Obj.morDriveLink, Obj.eventCount, Obj.eventLastAt, Obj.eventLastSubject, Obj.morPoolState, Obj.morPoolExtents, Obj.recState, Obj.dlyStored, Obj.srcFeedKind, Obj.srcState, Obj.srcReservationStatus, Obj.srcFramesAbandoned, Obj.srcColourLive, Obj.healthReasons, Obj.healthState], [0x40000004, 0x40000008]⟩ s_a x2 := by
    subst x2
    refine Only.seq (State.setDrive_only ..) ?_ (by decide)
    exact Only.refl _ _
  clear_value x2
  extract_lets +onlyGivenNames x3
  have hx3 : Only ⟨[.out, .pinned, .ev, .flashJournal, .ridge, .mor, .diskJournal], [Obj.morDriveState, Obj.morDriveLink, Obj.eventCount, Obj.eventLastAt, Obj.eventLastSubject, Obj.morPoolState, Obj.morPoolExtents, Obj.recState, Obj.dlyStored, Obj.srcFeedKind, Obj.srcState, Obj.srcReservationStatus, Obj.srcFramesAbandoned, Obj.srcColourLive, Obj.healthReasons, Obj.healthState], [0x40000004, 0x40000008]⟩ s_a x3 := by
    subst x3
    refine Only.seq (State.setN_only ..) ?_ (by decide)
    refine Only.seq (State.setN_only ..) ?_ (by decide)
    exact hx2
  clear_value x3
  extract_lets +onlyGivenNames x4
  have hx4 : Only ⟨[.out, .pinned, .ev, .flashJournal, .ridge, .mor, .diskJournal], [Obj.morDriveState, Obj.morDriveLink, Obj.eventCount, Obj.eventLastAt, Obj.eventLastSubject, Obj.morPoolState, Obj.morPoolExtents, Obj.recState, Obj.dlyStored, Obj.srcFeedKind, Obj.srcState, Obj.srcReservationStatus, Obj.srcFramesAbandoned, Obj.srcColourLive, Obj.healthReasons, Obj.healthState], [0x40000004, 0x40000008]⟩ s_a x4 := by
    subst x4
    refine Only.seq (State.raise_only ..) ?_ (by decide)
    refine Only.seq (State.emit_only ..) ?_ (by decide)
    exact hx3
  clear_value x4
  extract_lets +onlyGivenNames x5
  extract_lets +onlyGivenNames x6
  extract_lets +onlyGivenNames x7
  have hx7 : Only ⟨[.out, .pinned, .ev, .flashJournal, .ridge, .mor, .diskJournal], [Obj.morDriveState, Obj.morDriveLink, Obj.eventCount, Obj.eventLastAt, Obj.eventLastSubject, Obj.morPoolState, Obj.morPoolExtents, Obj.recState, Obj.dlyStored, Obj.srcFeedKind, Obj.srcState, Obj.srcReservationStatus, Obj.srcFramesAbandoned, Obj.srcColourLive, Obj.healthReasons, Obj.healthState], [0x40000004, 0x40000008]⟩ s_a x7 := by
    subst x7
    refine Only.seq (State.refreshPool_only ..) ?_ (by decide)
    exact hx4
  clear_value x7
  refine Only.ite ?_ ?_
  · refine Only.seq (Only.upd (r := ⟨[.mor], [], []⟩) (s := x7) (fun p => by cases p <;> first | exact .inr rfl | exact .inl (by decide))) ?_ (by decide)
    exact hx7
  · exact hx7

theorem State.formPool_only (s_a ident_a set_a) : Only ⟨[.mor, .diskJournal], [], []⟩ s_a (State.formPool s_a ident_a set_a) := by
  unfold State.formPool
  extract_lets +onlyGivenNames x1
  refine Only.seq (Only.upd (r := ⟨[.mor, .diskJournal], [], []⟩) (s := s_a) (fun p => by cases p <;> first | exact .inr rfl | exact .inl (by decide))) ?_ (by decide)
  exact Only.refl _ _

theorem execMorDriveLost_only (dt_a drive_a s_a) : OnlyR ⟨[.out, .now, .tc, .pinned, .ev, .flashJournal, .ridge, .mor, .diskJournal], [Obj.morDriveState, Obj.morDriveLink, Obj.eventCount, Obj.eventLastAt, Obj.eventLastSubject, Obj.morPoolState, Obj.morPoolExtents, Obj.recState, Obj.dlyStored, Obj.srcFeedKind, Obj.srcState, Obj.srcReservationStatus, Obj.srcFramesAbandoned, Obj.srcColourLive, Obj.healthReasons, Obj.healthState], [0x40000004, 0x40000008]⟩ s_a (execMorDriveLost dt_a drive_a s_a) := by
  unfold execMorDriveLost
  refine actIf_only (hk3 := fun u1 => ?_) (l := (by decide)) ..
  refine Only.seq (State.driveLost_only ..) ?_ (by decide)
  exact Only.refl _ _

theorem execMorDriveRetry_only (dt_a drive_a s_a) : OnlyR ⟨[.out, .now, .tc, .mor], [], []⟩ s_a (execMorDriveRetry dt_a drive_a s_a) := by
  unfold execMorDriveRetry
  refine actIf_only (hk3 := fun u1 => ?_) (l := (by decide)) ..
  extract_lets +onlyGivenNames x2
  refine Only.ite ?_ ?_
  · refine Only.ite ?_ ?_
    · refine Only.seq (State.emit_only ..) ?_ (by decide)
      refine Only.seq (State.setDrive_only ..) ?_ (by decide)
      exact Only.refl _ _
    · exact Only.refl _ _
  · refine Only.ite ?_ ?_
    · refine Only.seq (State.emit_only ..) ?_ (by decide)
      refine Only.seq (State.setDrive_only ..) ?_ (by decide)
      exact Only.refl _ _
    · exact Only.refl _ _

theorem execMorDriveUp_only (dt drive rate width capacity : Nat) (nvme : Bool) (label : Option (Nat × List Nat)) (s : State) :
    OnlyR ⟨[.out, .now, .tc, .pinned, .ev, .flashJournal, .ridge, .mor, .diskJournal], List.append [Obj.morDriveCapacity, Obj.morDriveLink, Obj.morDriveState, Obj.eventCount, Obj.eventLastAt, Obj.eventLastSubject, Obj.morPoolState, Obj.morPoolExtents, Obj.recState, Obj.srcFeedKind, Obj.srcState, Obj.srcReservationStatus, Obj.srcFramesAbandoned, Obj.srcColourLive, Obj.dlyStored, Obj.healthReasons] ([Obj.healthState]), [0x40000004, 0x40000008]⟩ s (execMorDriveUp dt drive rate width capacity nvme label s) := by
  unfold execMorDriveUp
  refine actIf_only (hk3 := fun t => ?_) (l := by decide +kernel) ..
  extract_lets +onlyGivenNames lost lbl src t1 t2 t3 mine t4 t5 t6
  have h1 : Only ⟨[.out, .now, .tc, .pinned, .ev, .flashJournal, .ridge, .mor, .diskJournal], List.append [Obj.morDriveCapacity, Obj.morDriveLink, Obj.morDriveState, Obj.eventCount, Obj.eventLastAt, Obj.eventLastSubject, Obj.morPoolState, Obj.morPoolExtents, Obj.recState, Obj.srcFeedKind, Obj.srcState, Obj.srcReservationStatus, Obj.srcFramesAbandoned, Obj.srcColourLive, Obj.dlyStored, Obj.healthReasons] ([Obj.healthState]), [0x40000004, 0x40000008]⟩ t t1 := (State.setDrive_only ..).up
  clear_value t1 lbl
  have h2 : Only ⟨[.out, .now, .tc, .pinned, .ev, .flashJournal, .ridge, .mor, .diskJournal], List.append [Obj.morDriveCapacity, Obj.morDriveLink, Obj.morDriveState, Obj.eventCount, Obj.eventLastAt, Obj.eventLastSubject, Obj.morPoolState, Obj.morPoolExtents, Obj.recState, Obj.srcFeedKind, Obj.srcState, Obj.srcReservationStatus, Obj.srcFramesAbandoned, Obj.srcColourLive, Obj.dlyStored, Obj.healthReasons] ([Obj.healthState]), [0x40000004, 0x40000008]⟩ t t2 := (State.setN_only ..).seq ((State.setN_only ..).seq h1)
  clear_value t2
  have h3 : Only ⟨[.out, .now, .tc, .pinned, .ev, .flashJournal, .ridge, .mor, .diskJournal], List.append [Obj.morDriveCapacity, Obj.morDriveLink, Obj.morDriveState, Obj.eventCount, Obj.eventLastAt, Obj.eventLastSubject, Obj.morPoolState, Obj.morPoolExtents, Obj.recState, Obj.srcFeedKind, Obj.srcState, Obj.srcReservationStatus, Obj.srcFramesAbandoned, Obj.srcColourLive, Obj.dlyStored, Obj.healthReasons] ([Obj.healthState]), [0x40000004, 0x40000008]⟩ t t3 := by
    unfold t3
    split
    · exact Only.ite ((State.formPool_only ..).seq h2) h2
    · exact h2
  clear_value t3
  have h4 : Only ⟨[.out, .now, .tc, .pinned, .ev, .flashJournal, .ridge, .mor, .diskJournal], List.append [Obj.morDriveCapacity, Obj.morDriveLink, Obj.morDriveState, Obj.eventCount, Obj.eventLastAt, Obj.eventLastSubject, Obj.morPoolState, Obj.morPoolExtents, Obj.recState, Obj.srcFeedKind, Obj.srcState, Obj.srcReservationStatus, Obj.srcFramesAbandoned, Obj.srcColourLive, Obj.dlyStored, Obj.healthReasons] ([Obj.healthState]), [0x40000004, 0x40000008]⟩ t t4 := (State.setN_only ..).seq h3
  clear_value t4
  have h5 : Only ⟨[.out, .now, .tc, .pinned, .ev, .flashJournal, .ridge, .mor, .diskJournal], List.append [Obj.morDriveCapacity, Obj.morDriveLink, Obj.morDriveState, Obj.eventCount, Obj.eventLastAt, Obj.eventLastSubject, Obj.morPoolState, Obj.morPoolExtents, Obj.recState, Obj.srcFeedKind, Obj.srcState, Obj.srcReservationStatus, Obj.srcFramesAbandoned, Obj.srcColourLive, Obj.dlyStored, Obj.healthReasons] ([Obj.healthState]), [0x40000004, 0x40000008]⟩ t t5 := Only.ite h4 ((State.emit_only ..).seq h4)
  clear_value t5
  exact (State.refreshPool_only ..).seq (Only.ite ((State.raise_only ..).seq h5) h5)

theorem execSmartPoll_only (dt_a drive_a warning_a used_a s_a) : OnlyR ⟨[.out, .now, .tc, .pinned, .ev, .flashJournal, .mor, .diskJournal], [Obj.morDriveHealth, Obj.eventCount, Obj.eventLastAt, Obj.eventLastSubject], [0x40000004, 0x40000008]⟩ s_a (execSmartPoll dt_a drive_a warning_a used_a s_a) := by
  unfold execSmartPoll
  refine actIf_only (hk3 := fun u1 => ?_) (l := (by decide)) ..
  extract_lets +onlyGivenNames x2
  extract_lets +onlyGivenNames x3
  extract_lets +onlyGivenNames x4
  have hx4 : Only ⟨[.out, .now, .tc, .pinned, .ev, .flashJournal, .mor, .diskJournal], [Obj.morDriveHealth, Obj.eventCount, Obj.eventLastAt, Obj.eventLastSubject], [0x40000004, 0x40000008]⟩ u1 x4 := by
    subst x4
    refine Only.seq (State.setN_only ..) ?_ (by decide)
    refine Only.seq (State.setDrive_only ..) ?_ (by decide)
    exact Only.refl _ _
  clear_value x4
  refine Only.ite ?_ ?_
  · refine Only.seq (State.raise_only ..) ?_ (by decide)
    exact hx4
  · exact hx4

theorem execNvmeCompletion_only (dt_a drive_a job_a ok_a s_a) : OnlyR ⟨[.out, .now, .tc, .pinned, .ev, .flashJournal, .ridge, .mor, .diskJournal], [Obj.morMediaErrors, Obj.eventCount, Obj.eventLastAt, Obj.eventLastSubject, Obj.recState, Obj.dlyStored, Obj.morDriveState, Obj.morDriveLink, Obj.morPoolState, Obj.morPoolExtents, Obj.srcFeedKind, Obj.srcState, Obj.srcReservationStatus, Obj.srcFramesAbandoned, Obj.srcColourLive, Obj.healthReasons, Obj.healthState], [0x40000004, 0x40000008]⟩ s_a (execNvmeCompletion dt_a drive_a job_a ok_a s_a) := by
  unfold execNvmeCompletion
  refine actIf_only (hk3 := fun u1 => ?_) (l := (by decide)) ..
  split
  · refine Only.seq (State.recordStored_only ..) ?_ (by decide)
    exact Only.refl _ _
  · refine Only.seq (State.delayStored_only ..) ?_ (by decide)
    exact Only.refl _ _
  · refine Only.ite ?_ ?_
    · refine Only.seq (State.mediaError_only ..) ?_ (by decide)
      exact Only.refl _ _
    · extract_lets +onlyGivenNames x2
      refine Only.seq (State.setPlayer_only ..) ?_ (by decide)
      exact Only.refl _ _
  · refine Only.ite ?_ ?_
    · refine Only.seq (State.mediaError_only ..) ?_ (by decide)
      exact Only.refl _ _
    · extract_lets +onlyGivenNames x3
      refine Only.ite ?_ ?_
      · refine Only.seq (State.setLine_only ..) ?_ (by decide)
        exact Only.refl _ _
      · exact Only.refl _ _
  · exact Only.refl _ _
  · refine Only.ite ?_ ?_
    · exact Only.refl _ _
    · refine Only.seq (State.driveLost_only ..) ?_ (by decide)
      exact Only.refl _ _

theorem State.writeStored_only (s_a slot_a k_a w_a kind_a origin_a stages_a pic_a anc_a) : Only ⟨[.out, .pinned, .ev, .flashJournal, .ridge, .diskJournal], [Obj.srcFeedKind, Obj.srcState, Obj.srcReservationStatus, Obj.eventCount, Obj.eventLastAt, Obj.eventLastSubject, Obj.srcFramesAbandoned, Obj.srcColourLive, Obj.srcLiveFormat, Obj.srcFramesWritten], [0x40000004, 0x40000008]⟩ s_a (State.writeStored s_a slot_a k_a w_a kind_a origin_a stages_a pic_a anc_a) := by
  unfold State.writeStored
  extract_lets +onlyGivenNames x1
  extract_lets +onlyGivenNames x2
  have hx2 : Only ⟨[.out, .pinned, .ev, .flashJournal, .ridge, .diskJournal], [Obj.srcFeedKind, Obj.srcState, Obj.srcReservationStatus, Obj.eventCount, Obj.eventLastAt, Obj.eventLastSubject, Obj.srcFramesAbandoned, Obj.srcColourLive, Obj.srcLiveFormat, Obj.srcFramesWritten], [0x40000004, 0x40000008]⟩ s_a x2 := by
    subst x2
    refine Only.seq (State.startFrame_only ..) ?_ (by decide)
    refine Only.seq (State.refreshSlot_only ..) ?_ (by decide)
    exact Only.refl _ _
  clear_value x2
  refine Only.seq (State.setSrc_only ..) ?_ (by decide)
  exact hx2

theorem State.playWrite_only (s_a p_a slot_a k_a w_a m_a) : Only ⟨[.out, .pinned, .ev, .flashJournal, .ridge, .mor, .diskJournal], [Obj.srcFeedKind, Obj.srcState, Obj.srcReservationStatus, Obj.eventCount, Obj.eventLastAt, Obj.eventLastSubject, Obj.srcFramesAbandoned, Obj.srcColourLive, Obj.srcLiveFormat, Obj.srcFramesWritten], [0x40000004, 0x40000008]⟩ s_a (State.playWrite s_a p_a slot_a k_a w_a m_a) := by
  unfold State.playWrite
  extract_lets +onlyGivenNames x1
  refine Only.seq (State.writeStored_only ..) ?_ (by decide)
  refine Only.seq (Only.upd (r := ⟨[.mor], [], []⟩) (s := s_a) (fun p => by cases p <;> first | exact .inr rfl | exact .inl (by decide))) ?_ (by decide)
  exact Only.refl _ _

theorem State.playRepeat_only (s_a p_a slot_a k_a w_a) : Only ⟨[.out, .pinned, .ev, .flashJournal, .ridge, .mor, .diskJournal], [Obj.srcFeedKind, Obj.srcState, Obj.srcReservationStatus, Obj.eventCount, Obj.eventLastAt, Obj.eventLastSubject, Obj.srcFramesAbandoned, Obj.srcColourLive, Obj.srcLiveFormat, Obj.srcFramesWritten], [0x40000004, 0x40000008]⟩ s_a (State.playRepeat s_a p_a slot_a k_a w_a) := by
  unfold State.playRepeat
  split
  · refine Only.seq (State.playWrite_only ..) ?_ (by decide)
    exact Only.refl _ _
  · exact Only.refl _ _

theorem State.playFrame_only (s_a p_a slot_a k_a w_a target_a) : Only ⟨[.out, .pinned, .ev, .flashJournal, .ridge, .mor, .diskJournal], [Obj.playPosition, Obj.srcFeedKind, Obj.srcState, Obj.srcReservationStatus, Obj.eventCount, Obj.eventLastAt, Obj.eventLastSubject, Obj.srcFramesAbandoned, Obj.srcColourLive, Obj.srcLiveFormat, Obj.srcFramesWritten, Obj.playLateFrames], [0x40000004, 0x40000008]⟩ s_a (State.playFrame s_a p_a slot_a k_a w_a target_a) := by
  unfold State.playFrame
  extract_lets +onlyGivenNames x1
  extract_lets +onlyGivenNames x2
  extract_lets +onlyGivenNames x3
  extract_lets +onlyGivenNames x4
  extract_lets +onlyGivenNames x5
  subst x5
  split
  · extract_lets +onlyGivenNames x6
    have hx6 : Only ⟨[.out, .pinned, .ev, .flashJournal, .ridge, .mor, .diskJournal], [Obj.playPosition, Obj.srcFeedKind, Obj.srcState, Obj.srcReservationStatus, Obj.eventCount, Obj.eventLastAt, Obj.eventLastSubject, Obj.srcFramesAbandoned, Obj.srcColourLive, Obj.srcLiveFormat, Obj.srcFramesWritten, Obj.playLateFrames], [0x40000004, 0x40000008]⟩ s_a x6 := by
      subst x6
      refine Only.seq (State.setPlayer_only ..) ?_ (by decide)
      exact Only.refl _ _
    clear_value x6
    refine Only.ite ?_ ?_
    · extract_lets +onlyGivenNames x7
      extract_lets +onlyGivenNames x8
      have hx8 : Only ⟨[.out, .pinned, .ev, .flashJournal, .ridge, .mor, .diskJournal], [Obj.playPosition, Obj.srcFeedKind, Obj.srcState, Obj.srcReservationStatus, Obj.eventCount, Obj.eventLastAt, Obj.eventLastSubject, Obj.srcFramesAbandoned, Obj.srcColourLive, Obj.srcLiveFormat, Obj.srcFramesWritten, Obj.playLateFrames], [0x40000004, 0x40000008]⟩ s_a x8 := by
        subst x8
        refine Only.seq (State.setPlayer_only ..) ?_ (by decide)
        exact hx6
      clear_value x8
      refine Only.seq (State.playWrite_only ..) ?_ (by decide)
      refine Only.seq (State.setN_only ..) ?_ (by decide)
      exact hx8
    · refine Only.seq (State.morLate_only ..) ?_ (by decide)
      refine Only.seq (State.bump_only ..) ?_ (by decide)
      exact hx6
  · refine Only.seq (State.playRepeat_only ..) ?_ (by decide)
    refine Only.seq (State.setPlayer_only ..) ?_ (by decide)
    exact Only.refl _ _
  · extract_lets +onlyGivenNames x9
    have hx9 : Only ⟨[.out, .pinned, .ev, .flashJournal, .ridge, .mor, .diskJournal], [Obj.playPosition, Obj.srcFeedKind, Obj.srcState, Obj.srcReservationStatus, Obj.eventCount, Obj.eventLastAt, Obj.eventLastSubject, Obj.srcFramesAbandoned, Obj.srcColourLive, Obj.srcLiveFormat, Obj.srcFramesWritten, Obj.playLateFrames], [0x40000004, 0x40000008]⟩ s_a x9 := by
      subst x9
      refine Only.seq (State.setPlayer_only ..) ?_ (by decide)
      exact Only.refl _ _
    clear_value x9
    refine Only.ite ?_ ?_
    · refine Only.seq (State.playRepeat_only ..) ?_ (by decide)
      refine Only.seq (State.bump_only ..) ?_ (by decide)
      exact hx9
    · refine Only.ite ?_ ?_
      · exact hx9
      · extract_lets +onlyGivenNames x10
        extract_lets +onlyGivenNames x11
        have hx11 : Only ⟨[.out, .pinned, .ev, .flashJournal, .ridge, .mor, .diskJournal], [Obj.playPosition, Obj.srcFeedKind, Obj.srcState, Obj.srcReservationStatus, Obj.eventCount, Obj.eventLastAt, Obj.eventLastSubject, Obj.srcFramesAbandoned, Obj.srcColourLive, Obj.srcLiveFormat, Obj.srcFramesWritten, Obj.playLateFrames], [0x40000004, 0x40000008]⟩ s_a x11 := by
          subst x11
          refine Only.ite ?_ ?_
          · exact hx9
          · refine Only.seq (State.raise_only ..) ?_ (by decide)
            refine Only.seq (State.setPlayer_only ..) ?_ (by decide)
            exact hx9
        clear_value x11
        refine Only.seq (State.playRepeat_only ..) ?_ (by decide)
        exact hx11

theorem execPlaybackFrameWrite_only (dt_a p_a s_a) : OnlyR ⟨[.out, .now, .tc, .pinned, .ev, .flashJournal, .ridge, .mor, .diskJournal], [Obj.srcFeedKind, Obj.srcState, Obj.srcReservationStatus, Obj.eventCount, Obj.eventLastAt, Obj.eventLastSubject, Obj.srcFramesAbandoned, Obj.srcColourLive, Obj.srcLiveFormat, Obj.srcFramesWritten, Obj.playPosition, Obj.playLateFrames], [0x40000004, 0x40000008]⟩ s_a (execPlaybackFrameWrite dt_a p_a s_a) := by
  unfold execPlaybackFrameWrite
  refine actIf_only (hk3 := fun u1 => ?_) (l := (by decide)) ..
  extract_lets +onlyGivenNames x2
  extract_lets +onlyGivenNames x3
  extract_lets +onlyGivenNames x4
  refine Only.ite ?_ ?_
  · exact Only.refl _ _
  · extract_lets +onlyGivenNames x5
    extract_lets +onlyGivenNames x6
    extract_lets +onlyGivenNames x7
    have hx7 : Only ⟨[.out, .now, .tc, .pinned, .ev, .flashJournal, .ridge, .mor, .diskJournal], [Obj.srcFeedKind, Obj.srcState, Obj.srcReservationStatus, Obj.eventCount, Obj.eventLastAt, Obj.eventLastSubject, Obj.srcFramesAbandoned, Obj.srcColourLive, Obj.srcLiveFormat, Obj.srcFramesWritten, Obj.playPosition, Obj.playLateFrames], [0x40000004, 0x40000008]⟩ u1 x7 := by
      subst x7
      refine Only.seq (State.setSrc_only ..) ?_ (by decide)
      exact Only.refl _ _
    clear_value x7
    extract_lets +onlyGivenNames x8
    refine Only.ite ?_ ?_
    · refine Only.seq (State.playRepeat_only ..) ?_ (by decide)
      exact hx7
    · split
      · refine Only.ite ?_ ?_
        · refine Only.seq (State.playFrame_only ..) ?_ (by decide)
          exact hx7
        · refine Only.seq (State.playRepeat_only ..) ?_ (by decide)
          exact hx7
      · refine Only.seq (State.playFrame_only ..) ?_ (by decide)
        exact hx7

theorem execDelayFrameWrite_only (dt_a l_a s_a) : OnlyR ⟨[.out, .now, .tc, .pinned, .ev, .flashJournal, .ridge, .mor, .diskJournal], [Obj.srcFeedKind, Obj.srcState, Obj.srcReservationStatus, Obj.eventCount, Obj.eventLastAt, Obj.eventLastSubject, Obj.srcFramesAbandoned, Obj.srcColourLive, Obj.dlyStored, Obj.srcLiveFormat, Obj.srcFramesWritten, Obj.dlyLateFrames], [0x40000004, 0x40000008]⟩ s_a (execDelayFrameWrite dt_a l_a s_a) := by
  unfold execDelayFrameWrite
  refine actIf_only (hk3 := fun u1 => ?_) (l := (by decide)) ..
  extract_lets +onlyGivenNames x2
  extract_lets +onlyGivenNames x3
  extract_lets +onlyGivenNames x4
  extract_lets +onlyGivenNames x5
  refine Only.ite ?_ ?_
  · exact Only.refl _ _
  · extract_lets +onlyGivenNames x6
    extract_lets +onlyGivenNames x7
    extract_lets +onlyGivenNames x8
    have hx8 : Only ⟨[.out, .now, .tc, .pinned, .ev, .flashJournal, .ridge, .mor, .diskJournal], [Obj.srcFeedKind, Obj.srcState, Obj.srcReservationStatus, Obj.eventCount, Obj.eventLastAt, Obj.eventLastSubject, Obj.srcFramesAbandoned, Obj.srcColourLive, Obj.dlyStored, Obj.srcLiveFormat, Obj.srcFramesWritten, Obj.dlyLateFrames], [0x40000004, 0x40000008]⟩ u1 x8 := by
      subst x8
      refine Only.seq (State.setSrc_only ..) ?_ (by decide)
      exact Only.refl _ _
    clear_value x8
    extract_lets +onlyGivenNames x9
    extract_lets +onlyGivenNames x10
    extract_lets +onlyGivenNames x11
    split
    · refine Only.seq (State.refreshSlot_only ..) ?_ (by decide)
      refine Only.seq (Only.upd (r := ⟨[.mor], [], []⟩) (s := x8) (fun p => by cases p <;> first | exact .inr rfl | exact .inl (by decide))) ?_ (by decide)
      exact hx8
    · extract_lets +onlyGivenNames x12
      extract_lets +onlyGivenNames x13
      have hx13 : Only ⟨[.out, .now, .tc, .pinned, .ev, .flashJournal, .ridge, .mor, .diskJournal], [Obj.srcFeedKind, Obj.srcState, Obj.srcReservationStatus, Obj.eventCount, Obj.eventLastAt, Obj.eventLastSubject, Obj.srcFramesAbandoned, Obj.srcColourLive, Obj.dlyStored, Obj.srcLiveFormat, Obj.srcFramesWritten, Obj.dlyLateFrames], [0x40000004, 0x40000008]⟩ u1 x13 := by
        subst x13
        refine Only.seq (Only.upd (r := ⟨[.mor], [], []⟩) (s := x8) (fun p => by cases p <;> first | exact .inr rfl | exact .inl (by decide))) ?_ (by decide)
        exact hx8
      clear_value x13
      refine Only.ite ?_ ?_
      · extract_lets +onlyGivenNames x14
        have hx14 : Only ⟨[.out, .now, .tc, .pinned, .ev, .flashJournal, .ridge, .mor, .diskJournal], [Obj.srcFeedKind, Obj.srcState, Obj.srcReservationStatus, Obj.eventCount, Obj.eventLastAt, Obj.eventLastSubject, Obj.srcFramesAbandoned, Obj.srcColourLive, Obj.dlyStored, Obj.srcLiveFormat, Obj.srcFramesWritten, Obj.dlyLateFrames], [0x40000004, 0x40000008]⟩ u1 x14 := by
          subst x14
          refine Only.seq (State.setLine_only ..) ?_ (by decide)
          exact hx13
        clear_value x14
        refine Only.seq (State.writeStored_only ..) ?_ (by decide)
        exact hx14
      · refine Only.seq (State.morLate_only ..) ?_ (by decide)
        refine Only.seq (State.bump_only ..) ?_ (by decide)
        refine Only.seq (State.refreshSlot_only ..) ?_ (by decide)
        exact hx13

theorem State.morCommit_only (s_a old_a changes_a boundary_a) : Only ⟨[.out, .fresh, .pinned, .ev, .flashJournal, .mor, .diskJournal], [Obj.dlyStored, Obj.recState, Obj.eventCount, Obj.eventLastAt, Obj.eventLastSubject], [0x40000004, 0x40000008]⟩ s_a (State.morCommit s_a old_a changes_a boundary_a) := by
  unfold State.morCommit
  extract_lets +onlyGivenNames x1
  extract_lets +onlyGivenNames x2
  have hx2 : Only ⟨[.out, .fresh, .pinned, .ev, .flashJournal, .mor, .diskJournal], [Obj.dlyStored, Obj.recState, Obj.eventCount, Obj.eventLastAt, Obj.eventLastSubject], [0x40000004, 0x40000008]⟩ s_a x2 := by
    subst x2
    refine Only.foldl (fun u3 x4 => ?_) ?_
    · refine Only.ite ?_ ?_
      · refine Only.seq (State.emptyRing_only ..) ?_ (by decide)
        exact Only.refl _ _
      · exact Only.refl _ _
    · exact Only.refl _ _
  clear_value x2
  extract_lets +onlyGivenNames x5
  have hx5 : Only ⟨[.out, .fresh, .pinned, .ev, .flashJournal, .mor, .diskJournal], [Obj.dlyStored, Obj.recState, Obj.eventCount, Obj.eventLastAt, Obj.eventLastSubject], [0x40000004, 0x40000008]⟩ s_a x5 := by
    subst x5
    refine Only.foldl (fun u6 x7 => ?_) ?_
    · extract_lets +onlyGivenNames x8
      extract_lets +onlyGivenNames x9
      extract_lets +onlyGivenNames x10
      have hx10 : Only ⟨[.out, .fresh, .pinned, .ev, .flashJournal, .mor, .diskJournal], [Obj.dlyStored, Obj.recState, Obj.eventCount, Obj.eventLastAt, Obj.eventLastSubject], [0x40000004, 0x40000008]⟩ u6 x10 := by
        subst x10
        refine Only.ite ?_ ?_
        · refine Only.seq (State.stopRecord_only ..) ?_ (by decide)
          exact Only.refl _ _
        · exact Only.refl _ _
      clear_value x10
      extract_lets +onlyGivenNames x11
      have hx11 : Only ⟨[.out, .fresh, .pinned, .ev, .flashJournal, .mor, .diskJournal], [Obj.dlyStored, Obj.recState, Obj.eventCount, Obj.eventLastAt, Obj.eventLastSubject], [0x40000004, 0x40000008]⟩ u6 x11 := by
        subst x11
        refine Only.ite ?_ ?_
        · refine Only.seq (State.setN_only ..) ?_ (by decide)
          exact hx10
        · exact hx10
      clear_value x11
      refine Only.ite ?_ ?_
      · refine Only.seq (State.startRecord_only ..) ?_ (by decide)
        exact hx11
      · exact hx11
    · exact hx2
  clear_value x5
  refine Only.foldl (fun u12 x13 => ?_) ?_
  · extract_lets +onlyGivenNames x14
    extract_lets +onlyGivenNames x15
    extract_lets +onlyGivenNames x16
    extract_lets +onlyGivenNames x17
    have hx17 : Only ⟨[.out, .fresh, .pinned, .ev, .flashJournal, .mor, .diskJournal], [Obj.dlyStored, Obj.recState, Obj.eventCount, Obj.eventLastAt, Obj.eventLastSubject], [0x40000004, 0x40000008]⟩ u12 x17 := by
      subst x17
      refine Only.ite ?_ ?_
      · exact Only.refl _ _
      · refine Only.seq (Only.upd (r := ⟨[.mor], [], []⟩) (s := u12) (fun p => by cases p <;> first | exact .inr rfl | exact .inl (by decide))) ?_ (by decide)
        exact Only.refl _ _
    clear_value x17
    refine Only.ite ?_ ?_
    · refine Only.seq (State.startPlay_only ..) ?_ (by decide)
      exact hx17
    · exact hx17
  · exact hx5

theorem State.morFormat_only (s_a) : Only ⟨[.out, .fresh, .pinned, .ev, .flashJournal, .ridge, .mor, .diskJournal], [Obj.morDriveState, Obj.recState, Obj.dlyStored, Obj.morPoolState, Obj.morPoolExtents, Obj.eventCount, Obj.eventLastAt, Obj.eventLastSubject, Obj.srcFeedKind, Obj.srcState, Obj.srcReservationStatus, Obj.srcFramesAbandoned, Obj.srcColourLive, Obj.healthReasons, Obj.healthState], [0x40000004, 0x40000008]⟩ s_a (State.morFormat s_a) := by
  unfold State.morFormat
  extract_lets +onlyGivenNames x1
  split
  rename_i v2 t3 e4
  have ht3 := Only.mono (b := ⟨[.out, .fresh, .pinned, .ev, .flashJournal, .ridge, .mor, .diskJournal], [Obj.morDriveState, Obj.recState, Obj.dlyStored, Obj.morPoolState, Obj.morPoolExtents, Obj.eventCount, Obj.eventLastAt, Obj.eventLastSubject, Obj.srcFeedKind, Obj.srcState, Obj.srcReservationStatus, Obj.srcFramesAbandoned, Obj.srcColourLive, Obj.healthReasons, Obj.healthState], [0x40000004, 0x40000008]⟩) (Only.snd e4 (State.draw_only ..)) (by decide)
  extract_lets +onlyGivenNames x5
  extract_lets +onlyGivenNames x6
  have hx6 : Only ⟨[.out, .fresh, .pinned, .ev, .flashJournal, .ridge, .mor, .diskJournal], [Obj.morDriveState, Obj.recState, Obj.dlyStored, Obj.morPoolState, Obj.morPoolExtents, Obj.eventCount, Obj.eventLastAt, Obj.eventLastSubject, Obj.srcFeedKind, Obj.srcState, Obj.srcReservationStatus, Obj.srcFramesAbandoned, Obj.srcColourLive, Obj.healthReasons, Obj.healthState], [0x40000004, 0x40000008]⟩ s_a x6 := by
    subst x6
    refine Only.seq (Only.upd (r := ⟨[.mor, .diskJournal], [], []⟩) (s := t3) (fun p => by cases p <;> first | exact .inr rfl | exact .inl (by decide))) ?_ (by decide)
    exact ht3
  clear_value x6
  extract_lets +onlyGivenNames x7
  have hx7 : Only ⟨[.out, .fresh, .pinned, .ev, .flashJournal, .ridge, .mor, .diskJournal], [Obj.morDriveState, Obj.recState, Obj.dlyStored, Obj.morPoolState, Obj.morPoolExtents, Obj.eventCount, Obj.eventLastAt, Obj.eventLastSubject, Obj.srcFeedKind, Obj.srcState, Obj.srcReservationStatus, Obj.srcFramesAbandoned, Obj.srcColourLive, Obj.healthReasons, Obj.healthState], [0x40000004, 0x40000008]⟩ s_a x7 := by
    subst x7
    refine Only.foldl (fun u8 x9 => ?_) ?_
    · refine Only.seq (State.setN_only ..) ?_ (by decide)
      refine Only.seq (State.setDrive_only ..) ?_ (by decide)
      exact Only.refl _ _
    · exact hx6
  clear_value x7
  extract_lets +onlyGivenNames x10
  have hx10 : Only ⟨[.out, .fresh, .pinned, .ev, .flashJournal, .ridge, .mor, .diskJournal], [Obj.morDriveState, Obj.recState, Obj.dlyStored, Obj.morPoolState, Obj.morPoolExtents, Obj.eventCount, Obj.eventLastAt, Obj.eventLastSubject, Obj.srcFeedKind, Obj.srcState, Obj.srcReservationStatus, Obj.srcFramesAbandoned, Obj.srcColourLive, Obj.healthReasons, Obj.healthState], [0x40000004, 0x40000008]⟩ s_a x10 := by
    subst x10
    refine Only.foldl (fun u11 x12 => ?_) ?_
    · refine Only.seq (State.setN_only ..) ?_ (by decide)
      refine Only.seq (State.setN_only ..) ?_ (by decide)
      exact Only.refl _ _
    · exact hx7
  clear_value x10
  extract_lets +onlyGivenNames x13
  have hx13 : Only ⟨[.out, .fresh, .pinned, .ev, .flashJournal, .ridge, .mor, .diskJournal], [Obj.morDriveState, Obj.recState, Obj.dlyStored, Obj.morPoolState, Obj.morPoolExtents, Obj.eventCount, Obj.eventLastAt, Obj.eventLastSubject, Obj.srcFeedKind, Obj.srcState, Obj.srcReservationStatus, Obj.srcFramesAbandoned, Obj.srcColourLive, Obj.healthReasons, Obj.healthState], [0x40000004, 0x40000008]⟩ s_a x13 := by
    subst x13
    refine Only.seq (State.refreshPool_only ..) ?_ (by decide)
    exact hx10
  clear_value x13
  refine Only.seq (State.setN_only ..) ?_ (by decide)
  exact hx13

theorem State.clipDelete_only (s_a c_a) : Only ⟨[.mor], [], []⟩ s_a (State.clipDelete s_a c_a) := by
  unfold State.clipDelete
  refine Only.seq (Only.upd (r := ⟨[.mor], [], []⟩) (s := s_a) (fun p => by cases p <;> first | exact .inr rfl | exact .inl (by decide))) ?_ (by decide)
  exact Only.refl _ _

theorem State.morJournalRead_only (s_a) : Only ⟨[], [Obj.morJournalCursor], []⟩ s_a (State.morJournalRead s_a).2 := by
  unfold State.morJournalRead
  extract_lets +onlyGivenNames x1
  refine Only.mk2 ?_
  split
  · refine Only.seq (State.setN_only ..) ?_ (by decide)
    exact Only.refl _ _
  · exact Only.refl _ _

theorem State.morReset_only (s_a) : Only ⟨[.mor], [], []⟩ s_a (State.morReset s_a) := by
  unfold State.morReset
  refine Only.seq (Only.upd (r := ⟨[.mor], [], []⟩) (s := s_a) (fun p => by cases p <;> first | exact .inr rfl | exact .inl (by decide))) ?_ (by decide)
  exact Only.refl _ _

end Sys2Proof.Machine
end

