-- ==== Sys2Proof/Laws/OnlySdi.lean ====
section
/-!
SUPPORT. What the functions of Machine/Sdi.lean may change (`Only` of Laws/Only.lean).
-/
namespace Sys2Proof.Machine
set_option Elab.async false

theorem State.setRxLane_only (s_a l_a x_a) : Only ⟨[.sdiRx], [], []⟩ s_a (State.setRxLane s_a l_a x_a) := by
  unfold State.setRxLane
  refine Only.seq (Only.upd (r := ⟨[.sdiRx], [], []⟩) (s := s_a) (fun p => by cases p <;> first | exact .inr rfl | exact .inl (by decide))) ?_ (by decide)
  exact Only.refl _ _

theorem State.setTxLane_only (s_a l_a x_a) : Only ⟨[.sdiTx], [], []⟩ s_a (State.setTxLane s_a l_a x_a) := by
  unfold State.setTxLane
  refine Only.seq (Only.upd (r := ⟨[.sdiTx], [], []⟩) (s := s_a) (fun p => by cases p <;> first | exact .inr rfl | exact .inl (by decide))) ?_ (by decide)
  exact Only.refl _ _

theorem State.setRxn_only (s_a index_a lane_a v_a) : Only ⟨[], [index_a, embIndex index_a], []⟩ s_a (State.setRxn s_a index_a lane_a v_a) := by
  unfold State.setRxn
  refine Only.seq (State.setN_only ..) ?_ (by unfold laneIx; split <;> first | decide | simp [Reach.le])
  exact Only.refl _ _

theorem State.refreshLaneSlot_only (s_a l_a) : Only ⟨[.out, .pinned, .ev, .flashJournal, .ridge, .diskJournal], [Obj.srcFeedKind, Obj.srcState, Obj.srcReservationStatus, Obj.eventCount, Obj.eventLastAt, Obj.eventLastSubject, Obj.srcFramesAbandoned, Obj.srcColourLive], [0x40000004, 0x40000008]⟩ s_a (State.refreshLaneSlot s_a l_a) := by
  unfold State.refreshLaneSlot
  extract_lets +onlyGivenNames x1
  refine Only.ite ?_ ?_
  · exact Only.refl _ _
  · refine Only.seq (State.refreshSlot_only ..) ?_ (by decide)
    exact Only.refl _ _

theorem State.clearIdentified_only (s_a l_a) : Only ⟨[], [Obj.rxFormat, Obj.rxPayloadId, Obj.rxStructure], []⟩ s_a (State.clearIdentified s_a l_a) := by
  unfold State.clearIdentified
  refine Only.seq (State.toDefault_only ..) ?_ (by decide)
  refine Only.seq (State.toDefault_only ..) ?_ (by decide)
  refine Only.seq (State.toDefault_only ..) ?_ (by decide)
  exact Only.refl _ _

theorem State.nextFrame_only (s_a lead_a) : Only ⟨[.sdiRx], [], []⟩ s_a (State.nextFrame s_a lead_a) := by
  unfold State.nextFrame
  extract_lets +onlyGivenNames x1
  refine Only.seq (State.setRxLane_only ..) ?_ (by decide)
  exact Only.refl _ _

theorem State.feedColour_only (s_a lead_a colour_a) : Only ⟨[.ridge], [], []⟩ s_a (State.feedColour s_a lead_a colour_a) := by
  unfold State.feedColour
  extract_lets +onlyGivenNames x1
  refine Only.ite ?_ ?_
  · exact Only.refl _ _
  · refine Only.seq (State.setSrc_only ..) ?_ (by decide)
    exact Only.refl _ _

theorem State.rxDown_only (s_a l_a toState_a) : Only ⟨[.out, .pinned, .ev, .flashJournal, .sdiRx, .ridge, .diskJournal], [Obj.rxState, Obj.rxRate, Obj.rxFormat, Obj.rxPayloadId, Obj.rxStructure, Obj.eventCount, Obj.eventLastAt, Obj.eventLastSubject, Obj.srcFeedKind, Obj.srcState, Obj.srcReservationStatus, Obj.srcFramesAbandoned, Obj.srcColourLive], [0x40000004, 0x40000008]⟩ s_a (State.rxDown s_a l_a toState_a) := by
  unfold State.rxDown
  extract_lets +onlyGivenNames x1
  extract_lets +onlyGivenNames x2
  have hx2 : Only ⟨[.out, .pinned, .ev, .flashJournal, .sdiRx, .ridge, .diskJournal], [Obj.rxState, Obj.rxRate, Obj.rxFormat, Obj.rxPayloadId, Obj.rxStructure, Obj.eventCount, Obj.eventLastAt, Obj.eventLastSubject, Obj.srcFeedKind, Obj.srcState, Obj.srcReservationStatus, Obj.srcFramesAbandoned, Obj.srcColourLive], [0x40000004, 0x40000008]⟩ s_a x2 := by
    subst x2
    refine Only.seq (State.setN_only ..) ?_ (by decide)
    exact Only.refl _ _
  clear_value x2
  extract_lets +onlyGivenNames x3
  have hx3 : Only ⟨[.out, .pinned, .ev, .flashJournal, .sdiRx, .ridge, .diskJournal], [Obj.rxState, Obj.rxRate, Obj.rxFormat, Obj.rxPayloadId, Obj.rxStructure, Obj.eventCount, Obj.eventLastAt, Obj.eventLastSubject, Obj.srcFeedKind, Obj.srcState, Obj.srcReservationStatus, Obj.srcFramesAbandoned, Obj.srcColourLive], [0x40000004, 0x40000008]⟩ s_a x3 := by
    subst x3
    refine Only.ite ?_ ?_
    · refine Only.seq (State.toDefault_only ..) ?_ (by decide)
      exact hx2
    · exact hx2
  clear_value x3
  extract_lets +onlyGivenNames x4
  extract_lets +onlyGivenNames x5
  have hx5 : Only ⟨[.out, .pinned, .ev, .flashJournal, .sdiRx, .ridge, .diskJournal], [Obj.rxState, Obj.rxRate, Obj.rxFormat, Obj.rxPayloadId, Obj.rxStructure, Obj.eventCount, Obj.eventLastAt, Obj.eventLastSubject, Obj.srcFeedKind, Obj.srcState, Obj.srcReservationStatus, Obj.srcFramesAbandoned, Obj.srcColourLive], [0x40000004, 0x40000008]⟩ s_a x5 := by
    subst x5
    refine Only.ite ?_ ?_
    · refine Only.seq (State.setRxLane_only ..) ?_ (by decide)
      exact hx3
    · exact hx3
  clear_value x5
  refine Only.ite ?_ ?_
  · extract_lets +onlyGivenNames x6
    extract_lets +onlyGivenNames x7
    have hx7 : Only ⟨[.out, .pinned, .ev, .flashJournal, .sdiRx, .ridge, .diskJournal], [Obj.rxState, Obj.rxRate, Obj.rxFormat, Obj.rxPayloadId, Obj.rxStructure, Obj.eventCount, Obj.eventLastAt, Obj.eventLastSubject, Obj.srcFeedKind, Obj.srcState, Obj.srcReservationStatus, Obj.srcFramesAbandoned, Obj.srcColourLive], [0x40000004, 0x40000008]⟩ s_a x7 := by
      subst x7
      refine Only.seq (State.setRxLane_only ..) ?_ (by decide)
      refine Only.seq (State.clearIdentified_only ..) ?_ (by decide)
      exact hx5
    clear_value x7
    extract_lets +onlyGivenNames x8
    refine Only.seq (State.refreshLaneSlot_only ..) ?_ (by decide)
    refine Only.seq (State.raise_only ..) ?_ (by decide)
    refine Only.seq (State.feedColour_only ..) ?_ (by decide)
    refine Only.seq (State.nextFrame_only ..) ?_ (by decide)
    exact hx7
  · exact hx5

theorem State.refreshLane_only (s_a l_a) : Only ⟨[.out, .pinned, .ev, .flashJournal, .sdiRx, .ridge, .diskJournal], [Obj.rxState, Obj.rxRate, Obj.rxFormat, Obj.rxPayloadId, Obj.rxStructure, Obj.eventCount, Obj.eventLastAt, Obj.eventLastSubject, Obj.srcFeedKind, Obj.srcState, Obj.srcReservationStatus, Obj.srcFramesAbandoned, Obj.srcColourLive], [0x40000004, 0x40000008]⟩ s_a (State.refreshLane s_a l_a) := by
  unfold State.refreshLane
  extract_lets +onlyGivenNames x1
  extract_lets +onlyGivenNames x2
  refine Only.ite ?_ ?_
  · refine Only.seq (State.setN_only ..) ?_ (by decide)
    exact Only.refl _ _
  · refine Only.ite ?_ ?_
    · refine Only.seq (State.rxDown_only ..) ?_ (by decide)
      exact Only.refl _ _
    · exact Only.refl _ _

theorem execSdiSignalDetect_only (dt_a lane_a lasted_a s_a) : OnlyR ⟨[.out, .now, .tc, .sdiRx], [Obj.rxState], []⟩ s_a (execSdiSignalDetect dt_a lane_a lasted_a s_a) := by
  unfold execSdiSignalDetect
  refine actIf_only (hk3 := fun u1 => ?_) (l := (by decide)) ..
  extract_lets +onlyGivenNames x2
  have hx2 : Only ⟨[.out, .now, .tc, .sdiRx], [Obj.rxState], []⟩ u1 x2 := by
    subst x2
    refine Only.seq (State.setN_only ..) ?_ (by decide)
    exact Only.refl _ _
  clear_value x2
  refine Only.seq (State.setRxLane_only ..) ?_ (by decide)
  exact hx2

theorem execSdiRateSearchStep_only (dt_a lane_a s_a) : OnlyR ⟨[.out, .now, .tc, .sdiRx], [], []⟩ s_a (execSdiRateSearchStep dt_a lane_a s_a) := by
  unfold execSdiRateSearchStep
  refine actIf_only (hk3 := fun u1 => ?_) (l := (by decide)) ..
  refine Only.seq (State.setRxLane_only ..) ?_ (by decide)
  exact Only.refl _ _

theorem execSdiClockLock_only (dt_a lane_a s_a) : OnlyR ⟨[.out, .now, .tc], [Obj.rxState, Obj.rxRate], []⟩ s_a (execSdiClockLock dt_a lane_a s_a) := by
  unfold execSdiClockLock
  refine actIf_only (hk3 := fun u1 => ?_) (l := (by decide)) ..
  refine Only.seq (State.setN_only ..) ?_ (by decide)
  refine Only.seq (State.setN_only ..) ?_ (by decide)
  exact Only.refl _ _

theorem State.setLinkOrder_only (s_a lead_a) : Only ⟨[], [Obj.rxStructure], []⟩ s_a (State.setLinkOrder s_a lead_a) := by
  unfold State.setLinkOrder
  refine Only.ite ?_ ?_
  · extract_lets +onlyGivenNames x1
    extract_lets +onlyGivenNames x2
    have hx2 : Only ⟨[], [Obj.rxStructure], []⟩ s_a x2 := by
      subst x2
      refine Only.foldl (fun u3 x4 => ?_) ?_
      · refine Only.seq (State.setN_only ..) ?_ (by decide)
        exact Only.refl _ _
      · exact Only.refl _ _
    clear_value x2
    split
    · refine Only.seq (State.setN_only ..) ?_ (by decide)
      exact hx2
    · exact hx2
  · exact Only.refl _ _

theorem State.meetPids_only (s_a lead_a) : Only ⟨[.out, .pinned, .ev, .flashJournal, .ridge, .diskJournal], [Obj.rxPayloadId, Obj.embPayloadId, Obj.rxStructure, Obj.srcFeedKind, Obj.srcState, Obj.srcReservationStatus, Obj.eventCount, Obj.eventLastAt, Obj.eventLastSubject, Obj.srcFramesAbandoned, Obj.srcColourLive], [0x40000004, 0x40000008]⟩ s_a (State.meetPids s_a lead_a) := by
  unfold State.meetPids
  extract_lets +onlyGivenNames x1
  extract_lets +onlyGivenNames x2
  have hx2 : Only ⟨[.out, .pinned, .ev, .flashJournal, .ridge, .diskJournal], [Obj.rxPayloadId, Obj.embPayloadId, Obj.rxStructure, Obj.srcFeedKind, Obj.srcState, Obj.srcReservationStatus, Obj.eventCount, Obj.eventLastAt, Obj.eventLastSubject, Obj.srcFramesAbandoned, Obj.srcColourLive], [0x40000004, 0x40000008]⟩ s_a x2 := by
    subst x2
    refine Only.seq (State.setLinkOrder_only ..) ?_ (by decide)
    refine Only.seq (State.setRxn_only ..) ?_ (by decide)
    exact Only.refl _ _
  clear_value x2
  extract_lets +onlyGivenNames x3
  refine Only.ite ?_ ?_
  · exact hx2
  · refine Only.seq (State.refreshSlot_only ..) ?_ (by decide)
    refine Only.seq (State.setSrc_only ..) ?_ (by decide)
    exact hx2

theorem State.pidMismatch_only (s_a lane_a mismatch_a) : Only ⟨[.out, .pinned, .ev, .flashJournal, .sdiRx, .diskJournal], [Obj.eventCount, Obj.eventLastAt, Obj.eventLastSubject], [0x40000004, 0x40000008]⟩ s_a (State.pidMismatch s_a lane_a mismatch_a) := by
  unfold State.pidMismatch
  refine Only.ite ?_ ?_
  · refine Only.seq (State.raise_only ..) ?_ (by decide)
    refine Only.seq (State.setRxLane_only ..) ?_ (by decide)
    exact Only.refl _ _
  · exact Only.refl _ _

theorem State.identified_only (s_a lane_a f_a b_a mismatch_a raster_a pid_a) : Only ⟨[.sdiRx], [Obj.rxFormat, Obj.embFormat, Obj.rxStructure, Obj.embStructure], []⟩ s_a (State.identified s_a lane_a f_a b_a mismatch_a raster_a pid_a) := by
  unfold State.identified
  extract_lets +onlyGivenNames x1
  refine Only.seq (State.setRxLane_only ..) ?_ (by decide)
  refine Only.seq (State.setRxn_only ..) ?_ (by decide)
  refine Only.seq (State.setRxn_only ..) ?_ (by decide)
  exact Only.refl _ _

theorem execSdiLock_only (dt_a lane_a raster_a pid_a s_a) : OnlyR ⟨[.out, .now, .tc, .pinned, .ev, .flashJournal, .sdiRx, .ridge, .diskJournal], [Obj.rxState, Obj.rxFormat, Obj.embFormat, Obj.rxStructure, Obj.embStructure, Obj.eventCount, Obj.eventLastAt, Obj.eventLastSubject, Obj.rxPayloadId, Obj.embPayloadId, Obj.srcFeedKind, Obj.srcState, Obj.srcReservationStatus, Obj.srcFramesAbandoned, Obj.srcColourLive], [0x40000004, 0x40000008]⟩ s_a (execSdiLock dt_a lane_a raster_a pid_a s_a) := by
  unfold execSdiLock
  refine actIf_only (hk3 := fun u1 => ?_) (l := (by decide)) ..
  split
  · extract_lets +onlyGivenNames x2
    have hx2 : Only ⟨[.out, .now, .tc, .pinned, .ev, .flashJournal, .sdiRx, .ridge, .diskJournal], [Obj.rxState, Obj.rxFormat, Obj.embFormat, Obj.rxStructure, Obj.embStructure, Obj.eventCount, Obj.eventLastAt, Obj.eventLastSubject, Obj.rxPayloadId, Obj.embPayloadId, Obj.srcFeedKind, Obj.srcState, Obj.srcReservationStatus, Obj.srcFramesAbandoned, Obj.srcColourLive], [0x40000004, 0x40000008]⟩ u1 x2 := by
      subst x2
      refine Only.ite ?_ ?_
      · refine Only.seq (State.setN_only ..) ?_ (by decide)
        exact Only.refl _ _
      · exact Only.refl _ _
    clear_value x2
    extract_lets +onlyGivenNames x3
    have hx3 : Only ⟨[.out, .now, .tc, .pinned, .ev, .flashJournal, .sdiRx, .ridge, .diskJournal], [Obj.rxState, Obj.rxFormat, Obj.embFormat, Obj.rxStructure, Obj.embStructure, Obj.eventCount, Obj.eventLastAt, Obj.eventLastSubject, Obj.rxPayloadId, Obj.embPayloadId, Obj.srcFeedKind, Obj.srcState, Obj.srcReservationStatus, Obj.srcFramesAbandoned, Obj.srcColourLive], [0x40000004, 0x40000008]⟩ u1 x3 := by
      subst x3
      refine Only.seq (State.identified_only ..) ?_ (by decide)
      exact hx2
    clear_value x3
    extract_lets +onlyGivenNames x4
    extract_lets +onlyGivenNames x5
    have hx5 : Only ⟨[.out, .now, .tc, .pinned, .ev, .flashJournal, .sdiRx, .ridge, .diskJournal], [Obj.rxState, Obj.rxFormat, Obj.embFormat, Obj.rxStructure, Obj.embStructure, Obj.eventCount, Obj.eventLastAt, Obj.eventLastSubject, Obj.rxPayloadId, Obj.embPayloadId, Obj.srcFeedKind, Obj.srcState, Obj.srcReservationStatus, Obj.srcFramesAbandoned, Obj.srcColourLive], [0x40000004, 0x40000008]⟩ u1 x5 := by
      subst x5
      refine Only.seq (State.raise_only ..) ?_ (by decide)
      refine Only.seq (State.setRxLane_only ..) ?_ (by decide)
      exact hx3
    clear_value x5
    refine Only.seq (State.meetPids_only ..) ?_ (by decide)
    refine Only.seq (State.pidMismatch_only ..) ?_ (by decide)
    exact hx5
  · exact Only.refl _ _

theorem State.reidentify_only (s_a lane_a pid_a) : Only ⟨[.out, .pinned, .ev, .flashJournal, .sdiRx, .diskJournal], [Obj.rxFormat, Obj.embFormat, Obj.rxStructure, Obj.embStructure, Obj.eventCount, Obj.eventLastAt, Obj.eventLastSubject], [0x40000004, 0x40000008]⟩ s_a (State.reidentify s_a lane_a pid_a) := by
  unfold State.reidentify
  extract_lets +onlyGivenNames x1
  split
  · extract_lets +onlyGivenNames x2
    split
    refine Only.seq (State.pidMismatch_only ..) ?_ (by decide)
    refine Only.seq (State.identified_only ..) ?_ (by decide)
    exact Only.refl _ _
  · exact Only.refl _ _

theorem State.applyPid_only (s_a lane_a) : Only ⟨[.out, .pinned, .ev, .flashJournal, .sdiRx, .diskJournal], [Obj.rxFormat, Obj.embFormat, Obj.rxStructure, Obj.embStructure, Obj.eventCount, Obj.eventLastAt, Obj.eventLastSubject], [0x40000004, 0x40000008]⟩ s_a (State.applyPid s_a lane_a) := by
  unfold State.applyPid
  split
  · extract_lets +onlyGivenNames x1
    have hx1 : Only ⟨[.out, .pinned, .ev, .flashJournal, .sdiRx, .diskJournal], [Obj.rxFormat, Obj.embFormat, Obj.rxStructure, Obj.embStructure, Obj.eventCount, Obj.eventLastAt, Obj.eventLastSubject], [0x40000004, 0x40000008]⟩ s_a x1 := by
      subst x1
      refine Only.seq (State.reidentify_only ..) ?_ (by decide)
      exact Only.refl _ _
    clear_value x1
    refine Only.ite ?_ ?_
    · exact hx1
    · refine Only.seq (State.raise_only ..) ?_ (by decide)
      exact hx1
  · exact Only.refl _ _

theorem State.applyPids_only (s_a lead_a) : Only ⟨[.out, .pinned, .ev, .flashJournal, .sdiRx, .ridge, .diskJournal], [Obj.rxFormat, Obj.embFormat, Obj.rxStructure, Obj.embStructure, Obj.eventCount, Obj.eventLastAt, Obj.eventLastSubject, Obj.rxPayloadId, Obj.embPayloadId, Obj.srcFeedKind, Obj.srcState, Obj.srcReservationStatus, Obj.srcFramesAbandoned, Obj.srcColourLive], [0x40000004, 0x40000008]⟩ s_a (State.applyPids s_a lead_a) := by
  unfold State.applyPids
  extract_lets +onlyGivenNames x1
  refine Only.ite ?_ ?_
  · exact Only.refl _ _
  · extract_lets +onlyGivenNames x2
    have hx2 : Only ⟨[.out, .pinned, .ev, .flashJournal, .sdiRx, .ridge, .diskJournal], [Obj.rxFormat, Obj.embFormat, Obj.rxStructure, Obj.embStructure, Obj.eventCount, Obj.eventLastAt, Obj.eventLastSubject, Obj.rxPayloadId, Obj.embPayloadId, Obj.srcFeedKind, Obj.srcState, Obj.srcReservationStatus, Obj.srcFramesAbandoned, Obj.srcColourLive], [0x40000004, 0x40000008]⟩ s_a x2 := by
      subst x2
      refine Only.seq (State.meetPids_only ..) ?_ (by decide)
      refine Only.foldl (fun u3 x4 => ?_) ?_
      · refine Only.seq (State.applyPid_only ..) ?_ (by decide)
        exact Only.refl _ _
      · exact Only.refl _ _
    clear_value x2
    refine Only.ite ?_ ?_
    · exact hx2
    · refine Only.seq (State.raise_only ..) ?_ (by decide)
      exact hx2

theorem State.resettle_only (s_a lane_a) : Only ⟨[.out, .pinned, .ev, .flashJournal, .sdiRx, .diskJournal], [Obj.rxFormat, Obj.embFormat, Obj.rxStructure, Obj.embStructure, Obj.eventCount, Obj.eventLastAt, Obj.eventLastSubject], [0x40000004, 0x40000008]⟩ s_a (State.resettle s_a lane_a) := by
  unfold State.resettle
  refine Only.ite ?_ ?_
  · extract_lets +onlyGivenNames x1
    extract_lets +onlyGivenNames x2
    have hx2 : Only ⟨[.out, .pinned, .ev, .flashJournal, .sdiRx, .diskJournal], [Obj.rxFormat, Obj.embFormat, Obj.rxStructure, Obj.embStructure, Obj.eventCount, Obj.eventLastAt, Obj.eventLastSubject], [0x40000004, 0x40000008]⟩ s_a x2 := by
      subst x2
      refine Only.seq (State.reidentify_only ..) ?_ (by decide)
      exact Only.refl _ _
    clear_value x2
    refine Only.seq (State.setRxLane_only ..) ?_ (by decide)
    exact hx2
  · exact Only.refl _ _

theorem State.assumed_only (s_a lead_a) : Only ⟨[.out, .pinned, .ev, .flashJournal, .sdiRx, .ridge, .diskJournal], [Obj.rxFormat, Obj.embFormat, Obj.rxStructure, Obj.embStructure, Obj.eventCount, Obj.eventLastAt, Obj.eventLastSubject, Obj.rxPayloadId, Obj.embPayloadId, Obj.srcFeedKind, Obj.srcState, Obj.srcReservationStatus, Obj.srcFramesAbandoned, Obj.srcColourLive], [0x40000004, 0x40000008]⟩ s_a (State.assumed s_a lead_a) := by
  unfold State.assumed
  extract_lets +onlyGivenNames x1
  have hx1 : Only ⟨[.out, .pinned, .ev, .flashJournal, .sdiRx, .ridge, .diskJournal], [Obj.rxFormat, Obj.embFormat, Obj.rxStructure, Obj.embStructure, Obj.eventCount, Obj.eventLastAt, Obj.eventLastSubject, Obj.rxPayloadId, Obj.embPayloadId, Obj.srcFeedKind, Obj.srcState, Obj.srcReservationStatus, Obj.srcFramesAbandoned, Obj.srcColourLive], [0x40000004, 0x40000008]⟩ s_a x1 := by
    subst x1
    refine Only.foldl (fun u2 x3 => ?_) ?_
    · refine Only.seq (State.resettle_only ..) ?_ (by decide)
      exact Only.refl _ _
    · exact Only.refl _ _
  clear_value x1
  refine Only.ite ?_ ?_
  · exact hx1
  · refine Only.seq (State.meetPids_only ..) ?_ (by decide)
    exact hx1

theorem State.regroup_only (s_a old_a q_a) : Only ⟨[.out, .pinned, .ev, .flashJournal, .sdiRx, .ridge, .diskJournal], [Obj.rxStructure, Obj.rxFormat, Obj.embFormat, Obj.embStructure, Obj.eventCount, Obj.eventLastAt, Obj.eventLastSubject, Obj.rxPayloadId, Obj.embPayloadId, Obj.srcFeedKind, Obj.srcState, Obj.srcReservationStatus, Obj.srcFramesAbandoned, Obj.srcColourLive], [0x40000004, 0x40000008]⟩ s_a (State.regroup s_a old_a q_a) := by
  unfold State.regroup
  extract_lets +onlyGivenNames x1
  extract_lets +onlyGivenNames x2
  extract_lets +onlyGivenNames x3
  have hx3 : Only ⟨[.out, .pinned, .ev, .flashJournal, .sdiRx, .ridge, .diskJournal], [Obj.rxStructure, Obj.rxFormat, Obj.embFormat, Obj.embStructure, Obj.eventCount, Obj.eventLastAt, Obj.eventLastSubject, Obj.rxPayloadId, Obj.embPayloadId, Obj.srcFeedKind, Obj.srcState, Obj.srcReservationStatus, Obj.srcFramesAbandoned, Obj.srcColourLive], [0x40000004, 0x40000008]⟩ s_a x3 := by
    subst x3
    refine Only.foldl (fun u4 x5 => ?_) ?_
    · refine Only.seq (State.setSrc_only ..) ?_ (by decide)
      exact Only.refl _ _
    · exact Only.refl _ _
  clear_value x3
  extract_lets +onlyGivenNames x6
  have hx6 : Only ⟨[.out, .pinned, .ev, .flashJournal, .sdiRx, .ridge, .diskJournal], [Obj.rxStructure, Obj.rxFormat, Obj.embFormat, Obj.embStructure, Obj.eventCount, Obj.eventLastAt, Obj.eventLastSubject, Obj.rxPayloadId, Obj.embPayloadId, Obj.srcFeedKind, Obj.srcState, Obj.srcReservationStatus, Obj.srcFramesAbandoned, Obj.srcColourLive], [0x40000004, 0x40000008]⟩ s_a x6 := by
    subst x6
    refine Only.foldl (fun u7 x8 => ?_) ?_
    · refine Only.seq (State.resettle_only ..) ?_ (by decide)
      refine Only.seq (State.setN_only ..) ?_ (by decide)
      exact Only.refl _ _
    · exact hx3
  clear_value x6
  refine Only.foldl (fun u9 x10 => ?_) ?_
  · refine Only.seq (State.meetPids_only ..) ?_ (by decide)
    exact Only.refl _ _
  · exact hx6

theorem execSdiClockLoss_only (dt_a lane_a s_a) : OnlyR ⟨[.out, .now, .tc, .pinned, .ev, .flashJournal, .sdiRx, .ridge, .diskJournal], [Obj.rxState, Obj.rxRate, Obj.rxFormat, Obj.rxPayloadId, Obj.rxStructure, Obj.eventCount, Obj.eventLastAt, Obj.eventLastSubject, Obj.srcFeedKind, Obj.srcState, Obj.srcReservationStatus, Obj.srcFramesAbandoned, Obj.srcColourLive], [0x40000004, 0x40000008]⟩ s_a (execSdiClockLoss dt_a lane_a s_a) := by
  unfold execSdiClockLoss
  refine actIf_only (hk3 := fun u1 => ?_) (l := (by decide)) ..
  extract_lets +onlyGivenNames x2
  have hx2 : Only ⟨[.out, .now, .tc, .pinned, .ev, .flashJournal, .sdiRx, .ridge, .diskJournal], [Obj.rxState, Obj.rxRate, Obj.rxFormat, Obj.rxPayloadId, Obj.rxStructure, Obj.eventCount, Obj.eventLastAt, Obj.eventLastSubject, Obj.srcFeedKind, Obj.srcState, Obj.srcReservationStatus, Obj.srcFramesAbandoned, Obj.srcColourLive], [0x40000004, 0x40000008]⟩ u1 x2 := by
    subst x2
    refine Only.seq (State.rxDown_only ..) ?_ (by decide)
    exact Only.refl _ _
  clear_value x2
  refine Only.seq (State.setRxLane_only ..) ?_ (by decide)
  exact hx2

theorem execSdiSignalLoss_only (dt_a lane_a lasted_a s_a) : OnlyR ⟨[.out, .now, .tc, .pinned, .ev, .flashJournal, .sdiRx, .ridge, .diskJournal], [Obj.rxState, Obj.rxRate, Obj.rxFormat, Obj.rxPayloadId, Obj.rxStructure, Obj.eventCount, Obj.eventLastAt, Obj.eventLastSubject, Obj.srcFeedKind, Obj.srcState, Obj.srcReservationStatus, Obj.srcFramesAbandoned, Obj.srcColourLive], [0x40000004, 0x40000008]⟩ s_a (execSdiSignalLoss dt_a lane_a lasted_a s_a) := by
  unfold execSdiSignalLoss
  refine actIf_only (hk3 := fun u1 => ?_) (l := (by decide)) ..
  refine Only.seq (State.rxDown_only ..) ?_ (by decide)
  exact Only.refl _ _

theorem execSdiEavTimeout_only (dt_a lane_a periods_a s_a) : OnlyR ⟨[.out, .now, .tc, .pinned, .ev, .flashJournal, .sdiRx, .ridge, .diskJournal], [Obj.rxState, Obj.rxRate, Obj.rxFormat, Obj.rxPayloadId, Obj.rxStructure, Obj.eventCount, Obj.eventLastAt, Obj.eventLastSubject, Obj.srcFeedKind, Obj.srcState, Obj.srcReservationStatus, Obj.srcFramesAbandoned, Obj.srcColourLive], [0x40000004, 0x40000008]⟩ s_a (execSdiEavTimeout dt_a lane_a periods_a s_a) := by
  unfold execSdiEavTimeout
  refine actIf_only (hk3 := fun u1 => ?_) (l := (by decide)) ..
  refine Only.seq (State.rxDown_only ..) ?_ (by decide)
  exact Only.refl _ _

theorem State.clearEmb_only (s_a e_a) : Only ⟨[.sdiRx], [Obj.embFormat, Obj.embPayloadId, Obj.embStructure], []⟩ s_a (State.clearEmb s_a e_a) := by
  unfold State.clearEmb
  extract_lets +onlyGivenNames x1
  extract_lets +onlyGivenNames x2
  have hx2 : Only ⟨[.sdiRx], [Obj.embFormat, Obj.embPayloadId, Obj.embStructure], []⟩ s_a x2 := by
    subst x2
    refine Only.seq (State.toDefault_only ..) ?_ (by decide)
    refine Only.seq (State.toDefault_only ..) ?_ (by decide)
    refine Only.seq (State.toDefault_only ..) ?_ (by decide)
    exact Only.refl _ _
  clear_value x2
  refine Only.seq (State.nextFrame_only ..) ?_ (by decide)
  refine Only.seq (State.setRxLane_only ..) ?_ (by decide)
  exact hx2

theorem State.embDown_only (s_a lane_a) : Only ⟨[.out, .pinned, .ev, .flashJournal, .sdiRx, .ridge, .media, .diskJournal], [Obj.srcFramesAbandoned, Obj.eventCount, Obj.eventLastAt, Obj.eventLastSubject, Obj.embFormat, Obj.embPayloadId, Obj.embStructure, Obj.srcFeedKind, Obj.srcState, Obj.srcReservationStatus, Obj.srcColourLive], [0x40000004, 0x40000008]⟩ s_a (State.embDown s_a lane_a) := by
  unfold State.embDown
  extract_lets +onlyGivenNames x1
  extract_lets +onlyGivenNames x2
  extract_lets +onlyGivenNames x3
  extract_lets +onlyGivenNames x4
  have hx4 : Only ⟨[.out, .pinned, .ev, .flashJournal, .sdiRx, .ridge, .media, .diskJournal], [Obj.srcFramesAbandoned, Obj.eventCount, Obj.eventLastAt, Obj.eventLastSubject, Obj.embFormat, Obj.embPayloadId, Obj.embStructure, Obj.srcFeedKind, Obj.srcState, Obj.srcReservationStatus, Obj.srcColourLive], [0x40000004, 0x40000008]⟩ s_a x4 := by
    subst x4
    refine Only.seq (State.clearEmb_only ..) ?_ (by decide)
    refine Only.seq (State.setRxe_only ..) ?_ (by decide)
    refine Only.seq (State.abandonFrame_only ..) ?_ (by decide)
    exact Only.refl _ _
  clear_value x4
  refine Only.seq (State.refreshSlot_only ..) ?_ (by decide)
  refine Only.seq (State.raise_only ..) ?_ (by decide)
  refine Only.seq (State.feedColour_only ..) ?_ (by decide)
  exact hx4

theorem execSdiRasterMismatch_only (dt_a lane_a lines_a samples_a s_a) : OnlyR ⟨[.out, .now, .tc, .pinned, .ev, .flashJournal, .sdiRx, .ridge, .media, .diskJournal], [Obj.rxState, Obj.rxRate, Obj.rxFormat, Obj.rxPayloadId, Obj.rxStructure, Obj.eventCount, Obj.eventLastAt, Obj.eventLastSubject, Obj.srcFeedKind, Obj.srcState, Obj.srcReservationStatus, Obj.srcFramesAbandoned, Obj.srcColourLive, Obj.embFormat, Obj.embPayloadId, Obj.embStructure], [0x40000004, 0x40000008]⟩ s_a (execSdiRasterMismatch dt_a lane_a lines_a samples_a s_a) := by
  unfold execSdiRasterMismatch
  refine actIf_only (hk3 := fun u1 => ?_) (l := (by decide)) ..
  refine Only.ite ?_ ?_
  · refine Only.seq (State.rxDown_only ..) ?_ (by decide)
    exact Only.refl _ _
  · refine Only.seq (State.embDown_only ..) ?_ (by decide)
    exact Only.refl _ _

theorem State.measureSkew_only (s_a lead_a skew_a) : Only ⟨[.out, .pinned, .ev, .flashJournal, .sdiRx, .ridge, .diskJournal], [Obj.rxQuadSkew, Obj.eventCount, Obj.eventLastAt, Obj.eventLastSubject, Obj.srcFeedKind, Obj.srcState, Obj.srcReservationStatus, Obj.srcFramesAbandoned, Obj.srcColourLive], [0x40000004, 0x40000008]⟩ s_a (State.measureSkew s_a lead_a skew_a) := by
  unfold State.measureSkew
  extract_lets +onlyGivenNames x1
  extract_lets +onlyGivenNames x2
  extract_lets +onlyGivenNames x3
  have hx3 : Only ⟨[.out, .pinned, .ev, .flashJournal, .sdiRx, .ridge, .diskJournal], [Obj.rxQuadSkew, Obj.eventCount, Obj.eventLastAt, Obj.eventLastSubject, Obj.srcFeedKind, Obj.srcState, Obj.srcReservationStatus, Obj.srcFramesAbandoned, Obj.srcColourLive], [0x40000004, 0x40000008]⟩ s_a x3 := by
    subst x3
    refine Only.seq (State.setN_only ..) ?_ (by decide)
    exact Only.refl _ _
  clear_value x3
  refine Only.ite ?_ ?_
  · extract_lets +onlyGivenNames x4
    have hx4 : Only ⟨[.out, .pinned, .ev, .flashJournal, .sdiRx, .ridge, .diskJournal], [Obj.rxQuadSkew, Obj.eventCount, Obj.eventLastAt, Obj.eventLastSubject, Obj.srcFeedKind, Obj.srcState, Obj.srcReservationStatus, Obj.srcFramesAbandoned, Obj.srcColourLive], [0x40000004, 0x40000008]⟩ s_a x4 := by
      subst x4
      refine Only.seq (State.setRxLane_only ..) ?_ (by decide)
      exact hx3
    clear_value x4
    refine Only.ite ?_ ?_
    · exact hx4
    · refine Only.seq (State.refreshLaneSlot_only ..) ?_ (by decide)
      refine Only.seq (State.raise_only ..) ?_ (by decide)
      exact hx4
  · refine Only.ite ?_ ?_
    · split
      · refine Only.seq (State.setRxLane_only ..) ?_ (by decide)
        exact hx3
      · refine Only.ite ?_ ?_
        · refine Only.seq (State.refreshLaneSlot_only ..) ?_ (by decide)
          refine Only.seq (State.setRxLane_only ..) ?_ (by decide)
          exact hx3
        · exact hx3
    · exact hx3

theorem State.meetLine_only (s_a lane_a line_a pid_a) : Only ⟨[.out, .pinned, .ev, .flashJournal, .sdiRx, .ridge, .diskJournal], [Obj.rxFormat, Obj.embFormat, Obj.rxStructure, Obj.embStructure, Obj.eventCount, Obj.eventLastAt, Obj.eventLastSubject, Obj.rxPayloadId, Obj.embPayloadId, Obj.srcFeedKind, Obj.srcState, Obj.srcReservationStatus, Obj.srcFramesAbandoned, Obj.srcColourLive], [0x40000004, 0x40000008]⟩ s_a (State.meetLine s_a lane_a line_a pid_a) := by
  unfold State.meetLine
  extract_lets +onlyGivenNames x1
  extract_lets +onlyGivenNames x2
  extract_lets +onlyGivenNames x3
  refine Only.ite ?_ ?_
  · refine Only.seq (State.nextFrame_only ..) ?_ (by decide)
    exact Only.refl _ _
  · refine Only.ite ?_ ?_
    · refine Only.seq (State.setRxLane_only ..) ?_ (by decide)
      exact Only.refl _ _
    · refine Only.ite ?_ ?_
      · refine Only.seq (State.applyPids_only ..) ?_ (by decide)
        exact Only.refl _ _
      · exact Only.refl _ _

theorem execSdiLineReceived_only (dt_a lane_a line_a skew_a s_a) : OnlyR ⟨[.out, .now, .tc, .pinned, .ev, .flashJournal, .sdiRx, .ridge, .diskJournal], [Obj.rxCrcErrLines, Obj.embCrcErrLines, Obj.eventCount, Obj.eventLastAt, Obj.eventLastSubject, Obj.rxQuadSkew, Obj.srcFeedKind, Obj.srcState, Obj.srcReservationStatus, Obj.srcFramesAbandoned, Obj.srcColourLive, Obj.rxFormat, Obj.embFormat, Obj.rxStructure, Obj.embStructure, Obj.rxPayloadId, Obj.embPayloadId], [0x40000004, 0x40000008]⟩ s_a (execSdiLineReceived dt_a lane_a line_a skew_a s_a) := by
  unfold execSdiLineReceived
  refine actIf_only (hk3 := fun u1 => ?_) (l := (by decide)) ..
  extract_lets +onlyGivenNames x2
  extract_lets +onlyGivenNames x3
  have hx3 : Only ⟨[.out, .now, .tc, .pinned, .ev, .flashJournal, .sdiRx, .ridge, .diskJournal], [Obj.rxCrcErrLines, Obj.embCrcErrLines, Obj.eventCount, Obj.eventLastAt, Obj.eventLastSubject, Obj.rxQuadSkew, Obj.srcFeedKind, Obj.srcState, Obj.srcReservationStatus, Obj.srcFramesAbandoned, Obj.srcColourLive, Obj.rxFormat, Obj.embFormat, Obj.rxStructure, Obj.embStructure, Obj.rxPayloadId, Obj.embPayloadId], [0x40000004, 0x40000008]⟩ u1 x3 := by
    subst x3
    refine Only.ite ?_ ?_
    · refine Only.seq (State.raiseLimited_only ..) ?_ (by decide)
      refine Only.seq (State.bump_only ..) ?_ (by unfold laneIx; split <;> first | decide | simp [Reach.le])
      exact Only.refl _ _
    · exact Only.refl _ _
  clear_value x3
  extract_lets +onlyGivenNames x4
  have hx4 : Only ⟨[.out, .now, .tc, .pinned, .ev, .flashJournal, .sdiRx, .ridge, .diskJournal], [Obj.rxCrcErrLines, Obj.embCrcErrLines, Obj.eventCount, Obj.eventLastAt, Obj.eventLastSubject, Obj.rxQuadSkew, Obj.srcFeedKind, Obj.srcState, Obj.srcReservationStatus, Obj.srcFramesAbandoned, Obj.srcColourLive, Obj.rxFormat, Obj.embFormat, Obj.rxStructure, Obj.embStructure, Obj.rxPayloadId, Obj.embPayloadId], [0x40000004, 0x40000008]⟩ u1 x4 := by
    subst x4
    refine Only.ite ?_ ?_
    · refine Only.seq (State.measureSkew_only ..) ?_ (by decide)
      exact hx3
    · exact hx3
  clear_value x4
  refine Only.seq (State.meetLine_only ..) ?_ (by decide)
  exact hx4

theorem execSdiEdhField_only (dt_a lane_a edhFlags_a apMismatch_a ffMismatch_a s_a) : OnlyR ⟨[.out, .now, .tc, .pinned, .ev, .flashJournal, .diskJournal], [Obj.rxEdhFlags, Obj.embEdhFlags, Obj.rxEdhApErrFields, Obj.embEdhApErrFields, Obj.eventCount, Obj.eventLastAt, Obj.eventLastSubject, Obj.rxEdhFfErrFields, Obj.embEdhFfErrFields], [0x40000004, 0x40000008]⟩ s_a (execSdiEdhField dt_a lane_a edhFlags_a apMismatch_a ffMismatch_a s_a) := by
  unfold execSdiEdhField
  refine actIf_only (hk3 := fun u1 => ?_) (l := (by decide)) ..
  split
  · refine Only.seq (State.setBitN_only ..) ?_ (by unfold laneIx; split <;> first | decide | simp [Reach.le])
    exact Only.refl _ _
  · extract_lets +onlyGivenNames x2
    have hx2 : Only ⟨[.out, .now, .tc, .pinned, .ev, .flashJournal, .diskJournal], [Obj.rxEdhFlags, Obj.embEdhFlags, Obj.rxEdhApErrFields, Obj.embEdhApErrFields, Obj.eventCount, Obj.eventLastAt, Obj.eventLastSubject, Obj.rxEdhFfErrFields, Obj.embEdhFfErrFields], [0x40000004, 0x40000008]⟩ u1 x2 := by
      subst x2
      refine Only.seq (State.setN_only ..) ?_ (by unfold laneIx; split <;> first | decide | simp [Reach.le])
      exact Only.refl _ _
    clear_value x2
    extract_lets +onlyGivenNames x3
    have hx3 : Only ⟨[.out, .now, .tc, .pinned, .ev, .flashJournal, .diskJournal], [Obj.rxEdhFlags, Obj.embEdhFlags, Obj.rxEdhApErrFields, Obj.embEdhApErrFields, Obj.eventCount, Obj.eventLastAt, Obj.eventLastSubject, Obj.rxEdhFfErrFields, Obj.embEdhFfErrFields], [0x40000004, 0x40000008]⟩ u1 x3 := by
      subst x3
      refine Only.ite ?_ ?_
      · refine Only.seq (State.bump_only ..) ?_ (by unfold laneIx; split <;> first | decide | simp [Reach.le])
        exact hx2
      · exact hx2
    clear_value x3
    extract_lets +onlyGivenNames x4
    have hx4 : Only ⟨[.out, .now, .tc, .pinned, .ev, .flashJournal, .diskJournal], [Obj.rxEdhFlags, Obj.embEdhFlags, Obj.rxEdhApErrFields, Obj.embEdhApErrFields, Obj.eventCount, Obj.eventLastAt, Obj.eventLastSubject, Obj.rxEdhFfErrFields, Obj.embEdhFfErrFields], [0x40000004, 0x40000008]⟩ u1 x4 := by
      subst x4
      refine Only.ite ?_ ?_
      · refine Only.seq (State.bump_only ..) ?_ (by unfold laneIx; split <;> first | decide | simp [Reach.le])
        exact hx3
      · exact hx3
    clear_value x4
    refine Only.ite ?_ ?_
    · refine Only.seq (State.raiseLimited_only ..) ?_ (by decide)
      exact hx4
    · exact hx4

theorem State.raiseGroup_only (s_a lead_a) : Only ⟨[.out, .pinned, .ev, .flashJournal, .sdiRx, .diskJournal], [Obj.eventCount, Obj.eventLastAt, Obj.eventLastSubject], [0x40000004, 0x40000008]⟩ s_a (State.raiseGroup s_a lead_a) := by
  unfold State.raiseGroup
  extract_lets +onlyGivenNames x1
  refine Only.ite ?_ ?_
  · exact Only.refl _ _
  · refine Only.seq (State.raise_only ..) ?_ (by decide)
    refine Only.seq (State.setRxLane_only ..) ?_ (by decide)
    exact Only.refl _ _

theorem State.setPresent_only (s_a lead_a groupBit_a present_a) : Only ⟨[.out, .pinned, .ev, .flashJournal, .sdiRx, .diskJournal], [Obj.rxAudioPresent, Obj.embAudioPresent, Obj.eventCount, Obj.eventLastAt, Obj.eventLastSubject], [0x40000004, 0x40000008]⟩ s_a (State.setPresent s_a lead_a groupBit_a present_a) := by
  unfold State.setPresent
  refine Only.ite ?_ ?_
  · exact Only.refl _ _
  · refine Only.seq (State.raiseGroup_only ..) ?_ (by decide)
    refine Only.seq (State.setBitN_only ..) ?_ (by unfold laneIx; split <;> first | decide | simp [Reach.le])
    exact Only.refl _ _

theorem State.takeAudio_only (s_a lead_a p_a) : Only ⟨[.out, .pinned, .ev, .flashJournal, .sdiRx, .au, .diskJournal], [Obj.rxAudioPresent, Obj.embAudioPresent, Obj.eventCount, Obj.eventLastAt, Obj.eventLastSubject, Obj.aiNonAudio, Obj.rxAudioEccCorrected, Obj.embAudioEccCorrected, Obj.rxAudioUncorrectable, Obj.embAudioUncorrectable], [0x40000004, 0x40000008]⟩ s_a (State.takeAudio s_a lead_a p_a) := by
  unfold State.takeAudio
  extract_lets +onlyGivenNames x1
  extract_lets +onlyGivenNames x2
  have hx2 : Only ⟨[.out, .pinned, .ev, .flashJournal, .sdiRx, .au, .diskJournal], [Obj.rxAudioPresent, Obj.embAudioPresent, Obj.eventCount, Obj.eventLastAt, Obj.eventLastSubject, Obj.aiNonAudio, Obj.rxAudioEccCorrected, Obj.embAudioEccCorrected, Obj.rxAudioUncorrectable, Obj.embAudioUncorrectable], [0x40000004, 0x40000008]⟩ s_a x2 := by
    subst x2
    refine Only.seq (State.setRxLane_only ..) ?_ (by decide)
    exact Only.refl _ _
  clear_value x2
  extract_lets +onlyGivenNames x3
  have hx3 : Only ⟨[.out, .pinned, .ev, .flashJournal, .sdiRx, .au, .diskJournal], [Obj.rxAudioPresent, Obj.embAudioPresent, Obj.eventCount, Obj.eventLastAt, Obj.eventLastSubject, Obj.aiNonAudio, Obj.rxAudioEccCorrected, Obj.embAudioEccCorrected, Obj.rxAudioUncorrectable, Obj.embAudioUncorrectable], [0x40000004, 0x40000008]⟩ s_a x3 := by
    subst x3
    refine Only.seq (State.setPresent_only ..) ?_ (by decide)
    exact hx2
  clear_value x3
  extract_lets +onlyGivenNames x4
  extract_lets +onlyGivenNames x5
  extract_lets +onlyGivenNames x6
  have hx6 : Only ⟨[.out, .pinned, .ev, .flashJournal, .sdiRx, .au, .diskJournal], [Obj.rxAudioPresent, Obj.embAudioPresent, Obj.eventCount, Obj.eventLastAt, Obj.eventLastSubject, Obj.aiNonAudio, Obj.rxAudioEccCorrected, Obj.embAudioEccCorrected, Obj.rxAudioUncorrectable, Obj.embAudioUncorrectable], [0x40000004, 0x40000008]⟩ s_a x6 := by
    subst x6
    refine Only.ite ?_ ?_
    · refine Only.seq (State.setInLatency_only ..) ?_ (by decide)
      exact hx3
    · exact hx3
  clear_value x6
  extract_lets +onlyGivenNames x7
  have hx7 : Only ⟨[.out, .pinned, .ev, .flashJournal, .sdiRx, .au, .diskJournal], [Obj.rxAudioPresent, Obj.embAudioPresent, Obj.eventCount, Obj.eventLastAt, Obj.eventLastSubject, Obj.aiNonAudio, Obj.rxAudioEccCorrected, Obj.embAudioEccCorrected, Obj.rxAudioUncorrectable, Obj.embAudioUncorrectable], [0x40000004, 0x40000008]⟩ s_a x7 := by
    subst x7
    refine Only.seq (State.queueFrames_only ..) ?_ (by decide)
    refine Only.seq (State.setNonAudio_only ..) ?_ (by decide)
    exact hx6
  clear_value x7
  split
  · exact hx7
  · refine Only.seq (State.bump_only ..) ?_ (by unfold laneIx; split <;> first | decide | simp [Reach.le])
    exact hx7
  · refine Only.seq (State.raiseLimited_only ..) ?_ (by decide)
    refine Only.seq (State.bump_only ..) ?_ (by unfold laneIx; split <;> first | decide | simp [Reach.le])
    exact hx7

theorem execSdiAudioPacket_only (dt_a lane_a p_a s_a) : OnlyR ⟨[.out, .now, .tc, .pinned, .ev, .flashJournal, .sdiRx, .au, .diskJournal], [Obj.rxAudioPresent, Obj.embAudioPresent, Obj.eventCount, Obj.eventLastAt, Obj.eventLastSubject, Obj.aiNonAudio, Obj.rxAudioEccCorrected, Obj.embAudioEccCorrected, Obj.rxAudioUncorrectable, Obj.embAudioUncorrectable], [0x40000004, 0x40000008]⟩ s_a (execSdiAudioPacket dt_a lane_a p_a s_a) := by
  unfold execSdiAudioPacket
  refine actIf_only (hk3 := fun u1 => ?_) (l := (by decide)) ..
  extract_lets +onlyGivenNames x2
  refine Only.ite ?_ ?_
  · refine Only.seq (State.takeAudio_only ..) ?_ (by decide)
    exact Only.refl _ _
  · refine Only.seq (State.setPresent_only ..) ?_ (by decide)
    exact Only.refl _ _

theorem execSdiAudioGroupAbsent_only (dt_a lane_a groupBit_a s_a) : OnlyR ⟨[.out, .now, .tc, .pinned, .ev, .flashJournal, .sdiRx, .diskJournal], [Obj.rxAudioPresent, Obj.embAudioPresent, Obj.eventCount, Obj.eventLastAt, Obj.eventLastSubject], [0x40000004, 0x40000008]⟩ s_a (execSdiAudioGroupAbsent dt_a lane_a groupBit_a s_a) := by
  unfold execSdiAudioGroupAbsent
  refine actIf_only (hk3 := fun u1 => ?_) (l := (by decide)) ..
  refine Only.seq (State.setPresent_only ..) ?_ (by decide)
  exact Only.refl _ _

theorem State.joinAnc_only (s_a d_a x_a p_a) : Only ⟨[.out, .pinned, .ev, .flashJournal, .ridge, .media, .mor, .diskJournal], [Obj.dlyStored, Obj.sdiTxAncDropped, Obj.eventCount, Obj.eventLastAt, Obj.eventLastSubject, Obj.txAncDropped], [0x40000004, 0x40000008]⟩ s_a (State.joinAnc s_a d_a x_a p_a) := by
  unfold State.joinAnc
  extract_lets +onlyGivenNames x1
  extract_lets +onlyGivenNames x2
  extract_lets +onlyGivenNames x3
  split
  · extract_lets +onlyGivenNames x4
    have hx4 : Only ⟨[.out, .pinned, .ev, .flashJournal, .ridge, .media, .mor, .diskJournal], [Obj.dlyStored, Obj.sdiTxAncDropped, Obj.eventCount, Obj.eventLastAt, Obj.eventLastSubject, Obj.txAncDropped], [0x40000004, 0x40000008]⟩ s_a x4 := by
      subst x4
      refine Only.seq (State.reshow_only ..) ?_ (by decide)
      exact Only.refl _ _
    clear_value x4
    refine Only.ite ?_ ?_
    · refine Only.ite ?_ ?_
      · refine Only.seq (State.emit_only ..) ?_ (by decide)
        exact hx4
      · refine Only.ite ?_ ?_
        · exact hx4
        · extract_lets +onlyGivenNames x5
          have hx5 : Only ⟨[.out, .pinned, .ev, .flashJournal, .ridge, .media, .mor, .diskJournal], [Obj.dlyStored, Obj.sdiTxAncDropped, Obj.eventCount, Obj.eventLastAt, Obj.eventLastSubject, Obj.txAncDropped], [0x40000004, 0x40000008]⟩ s_a x5 := by
            subst x5
            refine Only.seq (State.bump_only ..) ?_ (by decide)
            exact hx4
          clear_value x5
          refine Only.ite ?_ ?_
          · refine Only.seq (State.raise_only ..) ?_ (by decide)
            exact hx5
          · exact hx5
    · exact hx4
  · refine Only.ite ?_ ?_
    · extract_lets +onlyGivenNames x6
      have hx6 : Only ⟨[.out, .pinned, .ev, .flashJournal, .ridge, .media, .mor, .diskJournal], [Obj.dlyStored, Obj.sdiTxAncDropped, Obj.eventCount, Obj.eventLastAt, Obj.eventLastSubject, Obj.txAncDropped], [0x40000004, 0x40000008]⟩ s_a x6 := by
        subst x6
        refine Only.seq (State.reshow_only ..) ?_ (by decide)
        exact Only.refl _ _
      clear_value x6
      refine Only.ite ?_ ?_
      · exact hx6
      · extract_lets +onlyGivenNames x7
        have hx7 : Only ⟨[.out, .pinned, .ev, .flashJournal, .ridge, .media, .mor, .diskJournal], [Obj.dlyStored, Obj.sdiTxAncDropped, Obj.eventCount, Obj.eventLastAt, Obj.eventLastSubject, Obj.txAncDropped], [0x40000004, 0x40000008]⟩ s_a x7 := by
          subst x7
          refine Only.foldl (fun u8 x9 => ?_) ?_
          · refine Only.seq (State.bump_only ..) ?_ (by decide)
            exact Only.refl _ _
          · exact hx6
        clear_value x7
        refine Only.ite ?_ ?_
        · refine Only.seq (State.raise_only ..) ?_ (by decide)
          exact hx7
        · exact hx7
    · refine Only.seq (State.reshow_only ..) ?_ (by decide)
      exact Only.refl _ _
  · refine Only.seq (State.reshow_only ..) ?_ (by decide)
    exact Only.refl _ _

theorem State.attachAnc_only (s_a slot_a seq_a p_a) : Only ⟨[.out, .pinned, .ev, .flashJournal, .ridge, .media, .mor, .diskJournal], [Obj.dlyStored, Obj.sdiTxAncDropped, Obj.eventCount, Obj.eventLastAt, Obj.eventLastSubject, Obj.txAncDropped], [0x40000004, 0x40000008]⟩ s_a (State.attachAnc s_a slot_a seq_a p_a) := by
  unfold State.attachAnc
  extract_lets +onlyGivenNames x1
  have hx1 : Only ⟨[.out, .pinned, .ev, .flashJournal, .ridge, .media, .mor, .diskJournal], [Obj.dlyStored, Obj.sdiTxAncDropped, Obj.eventCount, Obj.eventLastAt, Obj.eventLastSubject, Obj.txAncDropped], [0x40000004, 0x40000008]⟩ s_a x1 := by
    subst x1
    refine Only.seq (State.setSrc_only ..) ?_ (by decide)
    exact Only.refl _ _
  clear_value x1
  refine Only.foldl (fun u2 x3 => ?_) ?_
  · split
    · refine Only.ite ?_ ?_
      · refine Only.seq (State.joinAnc_only ..) ?_ (by decide)
        exact Only.refl _ _
      · exact Only.refl _ _
    · exact Only.refl _ _
  · exact hx1

theorem State.ancBegin_only (s_a lead_a slot_a) : Only ⟨[.sdiRx, .ridge], [], []⟩ s_a (State.ancBegin s_a lead_a slot_a) := by
  unfold State.ancBegin
  split
  · extract_lets +onlyGivenNames x1
    have hx1 : Only ⟨[.sdiRx, .ridge], [], []⟩ s_a x1 := by
      subst x1
      refine Only.seq (State.setSrc_only ..) ?_ (by decide)
      exact Only.refl _ _
    clear_value x1
    refine Only.seq (State.setRxLane_only ..) ?_ (by decide)
    exact hx1
  · exact Only.refl _ _

theorem State.ancAbandon_only (s_a lead_a) : Only ⟨[.sdiRx], [], []⟩ s_a (State.ancAbandon s_a lead_a) := by
  unfold State.ancAbandon
  refine Only.seq (State.setRxLane_only ..) ?_ (by decide)
  exact Only.refl _ _

theorem execSdiAncPacket_only (dt_a lane_a p_a s_a) : OnlyR ⟨[.out, .now, .tc, .pinned, .ev, .flashJournal, .sdiRx, .ridge, .media, .mor, .diskJournal], [Obj.rxAncChecksumErr, Obj.embAncChecksumErr, Obj.eventCount, Obj.eventLastAt, Obj.eventLastSubject, Obj.rxAncOverflow, Obj.embAncOverflow, Obj.dlyStored, Obj.sdiTxAncDropped, Obj.txAncDropped], [0x40000004, 0x40000008]⟩ s_a (execSdiAncPacket dt_a lane_a p_a s_a) := by
  unfold execSdiAncPacket
  refine actIf_only (hk3 := fun u1 => ?_) (l := (by decide)) ..
  extract_lets +onlyGivenNames x2
  extract_lets +onlyGivenNames x3
  refine Only.ite ?_ ?_
  · refine Only.seq (State.bump_only ..) ?_ (by unfold laneIx; split <;> first | decide | simp [Reach.le])
    exact Only.refl _ _
  · refine Only.ite ?_ ?_
    · exact Only.refl _ _
    · refine Only.ite ?_ ?_
      · extract_lets +onlyGivenNames x4
        have hx4 : Only ⟨[.out, .now, .tc, .pinned, .ev, .flashJournal, .sdiRx, .ridge, .media, .mor, .diskJournal], [Obj.rxAncChecksumErr, Obj.embAncChecksumErr, Obj.eventCount, Obj.eventLastAt, Obj.eventLastSubject, Obj.rxAncOverflow, Obj.embAncOverflow, Obj.dlyStored, Obj.sdiTxAncDropped, Obj.txAncDropped], [0x40000004, 0x40000008]⟩ u1 x4 := by
          subst x4
          refine Only.seq (State.bump_only ..) ?_ (by unfold laneIx; split <;> first | decide | simp [Reach.le])
          refine Only.seq (State.setRxLane_only ..) ?_ (by decide)
          exact Only.refl _ _
        clear_value x4
        refine Only.ite ?_ ?_
        · exact hx4
        · refine Only.seq (State.raise_only ..) ?_ (by decide)
          exact hx4
      · extract_lets +onlyGivenNames x5
        have hx5 : Only ⟨[.out, .now, .tc, .pinned, .ev, .flashJournal, .sdiRx, .ridge, .media, .mor, .diskJournal], [Obj.rxAncChecksumErr, Obj.embAncChecksumErr, Obj.eventCount, Obj.eventLastAt, Obj.eventLastSubject, Obj.rxAncOverflow, Obj.embAncOverflow, Obj.dlyStored, Obj.sdiTxAncDropped, Obj.txAncDropped], [0x40000004, 0x40000008]⟩ u1 x5 := by
          subst x5
          refine Only.seq (State.setRxLane_only ..) ?_ (by decide)
          exact Only.refl _ _
        clear_value x5
        split
        · refine Only.seq (State.attachAnc_only ..) ?_ (by decide)
          exact hx5
        · exact hx5

theorem State.setDriver_only (s_a lead_a mode_a) : Only ⟨[], [Obj.txDriverMode], []⟩ s_a (State.setDriver s_a lead_a mode_a) := by
  unfold State.setDriver
  refine Only.foldl (fun u1 x2 => ?_) ?_
  · refine Only.seq (State.setN_only ..) ?_ (by decide)
    exact Only.refl _ _
  · exact Only.refl _ _

theorem State.txIdleNow_only (s_a lane_a st_a) : Only ⟨[.out], [Obj.txState, Obj.txDriverMode], []⟩ s_a (State.txIdleNow s_a lane_a st_a) := by
  unfold State.txIdleNow
  refine Only.seq (State.emit_only ..) ?_ (by decide)
  refine Only.seq (State.setDriver_only ..) ?_ (by decide)
  refine Only.seq (State.setN_only ..) ?_ (by decide)
  exact Only.refl _ _

theorem State.txEmit_only (s_a lane_a d_a carriage_a rate_a) : Only ⟨[.out, .fresh, .pinned, .ev, .flashJournal, .sdiTx, .ridge, .au, .diskJournal], [Obj.txState, Obj.txDriverMode, Obj.txRate, Obj.txFormat, Obj.routeOnAir, Obj.originKind, Obj.latencyLast, Obj.stageBreakdown, Obj.latencyMin, Obj.latencyMax, Obj.aoBindState, Obj.eventCount, Obj.eventLastAt, Obj.eventLastSubject, Obj.aoLipSyncError, Obj.txPayloadId, Obj.sdiTxAncDropped], [0x40000004, 0x40000008]⟩ s_a (State.txEmit s_a lane_a d_a carriage_a rate_a) := by
  unfold State.txEmit
  split
  · refine Only.seq (State.txIdleNow_only ..) ?_ (by decide)
    exact Only.refl _ _
  · extract_lets +onlyGivenNames x1
    extract_lets +onlyGivenNames x2
    extract_lets +onlyGivenNames x3
    extract_lets +onlyGivenNames x4
    extract_lets +onlyGivenNames x5
    extract_lets +onlyGivenNames x6
    have hx6 : Only ⟨[.out, .fresh, .pinned, .ev, .flashJournal, .sdiTx, .ridge, .au, .diskJournal], [Obj.txState, Obj.txDriverMode, Obj.txRate, Obj.txFormat, Obj.routeOnAir, Obj.originKind, Obj.latencyLast, Obj.stageBreakdown, Obj.latencyMin, Obj.latencyMax, Obj.aoBindState, Obj.eventCount, Obj.eventLastAt, Obj.eventLastSubject, Obj.aoLipSyncError, Obj.txPayloadId, Obj.sdiTxAncDropped], [0x40000004, 0x40000008]⟩ s_a x6 := by
      subst x6
      refine Only.seq (State.setDriver_only ..) ?_ (by decide)
      refine Only.seq (State.setN_only ..) ?_ (by decide)
      refine Only.seq (State.setN_only ..) ?_ (by decide)
      refine Only.seq (State.setN_only ..) ?_ (by decide)
      exact Only.refl _ _
    clear_value x6
    refine Only.ite ?_ ?_
    · refine Only.seq (State.emitFrame_only ..) ?_ (by decide)
      refine Only.seq (State.emit_only ..) ?_ (by decide)
      refine Only.seq (State.setTxLane_only ..) ?_ (by decide)
      exact hx6
    · extract_lets +onlyGivenNames x7
      have hx7 : Only ⟨[.out, .fresh, .pinned, .ev, .flashJournal, .sdiTx, .ridge, .au, .diskJournal], [Obj.txState, Obj.txDriverMode, Obj.txRate, Obj.txFormat, Obj.routeOnAir, Obj.originKind, Obj.latencyLast, Obj.stageBreakdown, Obj.latencyMin, Obj.latencyMax, Obj.aoBindState, Obj.eventCount, Obj.eventLastAt, Obj.eventLastSubject, Obj.aoLipSyncError, Obj.txPayloadId, Obj.sdiTxAncDropped], [0x40000004, 0x40000008]⟩ s_a x7 := by
        subst x7
        refine Only.seq (State.setTxLane_only ..) ?_ (by decide)
        refine Only.seq (State.setN_only ..) ?_ (by decide)
        exact hx6
      clear_value x7
      extract_lets +onlyGivenNames x8
      have hx8 : Only ⟨[.out, .fresh, .pinned, .ev, .flashJournal, .sdiTx, .ridge, .au, .diskJournal], [Obj.txState, Obj.txDriverMode, Obj.txRate, Obj.txFormat, Obj.routeOnAir, Obj.originKind, Obj.latencyLast, Obj.stageBreakdown, Obj.latencyMin, Obj.latencyMax, Obj.aoBindState, Obj.eventCount, Obj.eventLastAt, Obj.eventLastSubject, Obj.aoLipSyncError, Obj.txPayloadId, Obj.sdiTxAncDropped], [0x40000004, 0x40000008]⟩ s_a x8 := by
        subst x8
        refine Only.seq (State.emit_only ..) ?_ (by decide)
        exact hx7
      clear_value x8
      extract_lets +onlyGivenNames x9
      have hx9 : Only ⟨[.out, .fresh, .pinned, .ev, .flashJournal, .sdiTx, .ridge, .au, .diskJournal], [Obj.txState, Obj.txDriverMode, Obj.txRate, Obj.txFormat, Obj.routeOnAir, Obj.originKind, Obj.latencyLast, Obj.stageBreakdown, Obj.latencyMin, Obj.latencyMax, Obj.aoBindState, Obj.eventCount, Obj.eventLastAt, Obj.eventLastSubject, Obj.aoLipSyncError, Obj.txPayloadId, Obj.sdiTxAncDropped], [0x40000004, 0x40000008]⟩ s_a x9 := by
        subst x9
        refine Only.ite ?_ ?_
        · exact hx8
        · refine Only.seq (State.raise_only ..) ?_ (by decide)
          refine Only.seq (State.bump_only ..) ?_ (by decide)
          exact hx8
      clear_value x9
      refine Only.seq (State.emitFrame_only ..) ?_ (by decide)
      exact hx9

theorem State.txBlack_only (s_a lane_a) : Only ⟨[.out], [Obj.txDriverMode, Obj.txState], []⟩ s_a (State.txBlack s_a lane_a) := by
  unfold State.txBlack
  extract_lets +onlyGivenNames x1
  extract_lets +onlyGivenNames x2
  refine Only.seq (State.emit_only ..) ?_ (by decide)
  refine Only.foldl (fun u3 x4 => ?_) ?_
  · refine Only.seq (State.setN_only ..) ?_ (by decide)
    exact Only.refl _ _
  · refine Only.seq (State.setN_only ..) ?_ (by decide)
    exact Only.refl _ _

theorem State.sdiNext_only (s_a lane_a) : Only ⟨[.out, .fresh, .pinned, .ev, .flashJournal, .sdiTx, .ridge, .au, .diskJournal], [Obj.txDriverMode, Obj.txState, Obj.txRate, Obj.eventCount, Obj.eventLastAt, Obj.eventLastSubject, Obj.txFormat, Obj.routeOnAir, Obj.originKind, Obj.latencyLast, Obj.stageBreakdown, Obj.latencyMin, Obj.latencyMax, Obj.aoBindState, Obj.aoLipSyncError, Obj.txPayloadId, Obj.sdiTxAncDropped], [0x40000004, 0x40000008]⟩ s_a (State.sdiNext s_a lane_a) := by
  unfold State.sdiNext
  extract_lets +onlyGivenNames x1
  extract_lets +onlyGivenNames x2
  refine Only.ite ?_ ?_
  · refine Only.ite ?_ ?_
    · refine Only.seq (State.txBlack_only ..) ?_ (by decide)
      exact Only.refl _ _
    · refine Only.seq (State.txIdleNow_only ..) ?_ (by decide)
      exact Only.refl _ _
  · extract_lets +onlyGivenNames x3
    extract_lets +onlyGivenNames x4
    extract_lets +onlyGivenNames x5
    refine Only.ite ?_ ?_
    · refine Only.seq (State.txIdleNow_only ..) ?_ (by decide)
      exact Only.refl _ _
    · refine Only.ite ?_ ?_
      · extract_lets +onlyGivenNames x6
        have hx6 : Only ⟨[.out, .fresh, .pinned, .ev, .flashJournal, .sdiTx, .ridge, .au, .diskJournal], [Obj.txDriverMode, Obj.txState, Obj.txRate, Obj.eventCount, Obj.eventLastAt, Obj.eventLastSubject, Obj.txFormat, Obj.routeOnAir, Obj.originKind, Obj.latencyLast, Obj.stageBreakdown, Obj.latencyMin, Obj.latencyMax, Obj.aoBindState, Obj.aoLipSyncError, Obj.txPayloadId, Obj.sdiTxAncDropped], [0x40000004, 0x40000008]⟩ s_a x6 := by
          subst x6
          refine Only.seq (State.setN_only ..) ?_ (by decide)
          refine Only.seq (State.setN_only ..) ?_ (by decide)
          exact Only.refl _ _
        clear_value x6
        extract_lets +onlyGivenNames x7
        have hx7 : Only ⟨[.out, .fresh, .pinned, .ev, .flashJournal, .sdiTx, .ridge, .au, .diskJournal], [Obj.txDriverMode, Obj.txState, Obj.txRate, Obj.eventCount, Obj.eventLastAt, Obj.eventLastSubject, Obj.txFormat, Obj.routeOnAir, Obj.originKind, Obj.latencyLast, Obj.stageBreakdown, Obj.latencyMin, Obj.latencyMax, Obj.aoBindState, Obj.aoLipSyncError, Obj.txPayloadId, Obj.sdiTxAncDropped], [0x40000004, 0x40000008]⟩ s_a x7 := by
          subst x7
          refine Only.seq (State.setTxLane_only ..) ?_ (by decide)
          exact hx6
        clear_value x7
        refine Only.seq (State.raise_only ..) ?_ (by decide)
        refine Only.seq (State.emit_only ..) ?_ (by decide)
        refine Only.seq (State.setDriver_only ..) ?_ (by decide)
        exact hx7
      · refine Only.seq (State.txEmit_only ..) ?_ (by decide)
        exact Only.refl _ _

theorem execSdiTxFrameEmit_only (dt_a lane_a s_a) : OnlyR ⟨[.out, .fresh, .now, .tc, .pinned, .ev, .flashJournal, .sdiTx, .ridge, .au, .diskJournal], [Obj.txDriverMode, Obj.txState, Obj.txRate, Obj.eventCount, Obj.eventLastAt, Obj.eventLastSubject, Obj.txFormat, Obj.routeOnAir, Obj.originKind, Obj.latencyLast, Obj.stageBreakdown, Obj.latencyMin, Obj.latencyMax, Obj.aoBindState, Obj.aoLipSyncError, Obj.txPayloadId, Obj.sdiTxAncDropped], [0x40000004, 0x40000008]⟩ s_a (execSdiTxFrameEmit dt_a lane_a s_a) := by
  unfold execSdiTxFrameEmit
  refine actIf_only (hk3 := fun u1 => ?_) (l := (by decide)) ..
  refine Only.ite ?_ ?_
  · refine Only.seq (State.sdiNext_only ..) ?_ (by decide)
    exact Only.refl _ _
  · refine Only.ite ?_ ?_
    · refine Only.seq (State.txIdleNow_only ..) ?_ (by decide)
      exact Only.refl _ _
    · refine Only.seq (State.setN_only ..) ?_ (by decide)
      refine Only.seq (State.sdiNext_only ..) ?_ (by decide)
      exact Only.refl _ _

theorem execSdiTxIdleEnd_only (dt_a lane_a s_a) : OnlyR ⟨[.out, .now, .tc, .sdiTx], [Obj.txState], []⟩ s_a (execSdiTxIdleEnd dt_a lane_a s_a) := by
  unfold execSdiTxIdleEnd
  refine actIf_only (hk3 := fun u1 => ?_) (l := (by decide)) ..
  refine Only.seq (State.setN_only ..) ?_ (by decide)
  refine Only.seq (State.setTxLane_only ..) ?_ (by decide)
  exact Only.refl _ _

end Sys2Proof.Machine
end

