-- ==== Sys2Proof/Laws/OnlyMediaTx.lean ====
section
/-!
SUPPORT. What the functions of Machine/MediaTx.lean may change (`Only` of Laws/Only.lean).
-/
namespace Sys2Proof.Machine
set_option Elab.async false

theorem State.setPort_only (s_a p_a x_a) : Only ⟨[.media], [], []⟩ s_a (State.setPort s_a p_a x_a) := by
  unfold State.setPort
  refine Only.seq (Only.upd (r := ⟨[.media], [], []⟩) (s := s_a) (fun p => by cases p <;> first | exact .inr rfl | exact .inl (by decide))) ?_ (by decide)
  exact Only.refl _ _

theorem State.countTx_only (s_a port_a bytes_a) : Only ⟨[.out, .pinned, .ev, .flashJournal, .diskJournal], [Obj.portTxFramesB, Obj.portTxFrames, Obj.eventCount, Obj.eventLastAt, Obj.eventLastSubject, Obj.portTxBytesB, Obj.portTxBytes], [0x40000004, 0x40000008]⟩ s_a (State.countTx s_a port_a bytes_a) := by
  unfold State.countTx
  refine Only.seq (State.bump_only ..) ?_ (by unfold portTxIdx; split <;> first | decide | simp [Reach.le])
  refine Only.seq (State.bump_only ..) ?_ (by unfold portTxIdx; split <;> first | decide | simp [Reach.le])
  exact Only.refl _ _

theorem State.sendArp_only (s_a port_a kind_a addr_a mac_a dst_a) : Only ⟨[.out, .pinned, .ev, .flashJournal, .diskJournal], [Obj.portTxFramesB, Obj.portTxFrames, Obj.eventCount, Obj.eventLastAt, Obj.eventLastSubject, Obj.portTxBytesB, Obj.portTxBytes], [0x40000004, 0x40000008]⟩ s_a (State.sendArp s_a port_a kind_a addr_a mac_a dst_a) := by
  unfold State.sendArp
  extract_lets +onlyGivenNames x1
  subst x1
  refine Only.ite ?_ ?_
  · exact Only.refl _ _
  · refine Only.seq (State.emit_only ..) ?_ (by decide)
    refine Only.seq (State.countTx_only ..) ?_ (by decide)
    exact Only.refl _ _

theorem State.resolve_only (s_a e_a) : Only ⟨[.out, .pinned, .ev, .flashJournal, .media, .diskJournal], [Obj.portTxFramesB, Obj.portTxFrames, Obj.eventCount, Obj.eventLastAt, Obj.eventLastSubject, Obj.portTxBytesB, Obj.portTxBytes], [0x40000004, 0x40000008]⟩ s_a (State.resolve s_a e_a) := by
  unfold State.resolve
  extract_lets +onlyGivenNames x1
  extract_lets +onlyGivenNames x2
  refine Only.ite ?_ ?_
  · exact Only.refl _ _
  · refine Only.seq (State.sendArp_only ..) ?_ (by decide)
    refine Only.seq (State.setTxe_only ..) ?_ (by decide)
    exact Only.refl _ _

theorem State.meetResolving_only (s_a e_a st_a) : Only ⟨[.out, .pinned, .ev, .flashJournal, .media, .diskJournal], [Obj.portTxFramesB, Obj.portTxFrames, Obj.eventCount, Obj.eventLastAt, Obj.eventLastSubject, Obj.portTxBytesB, Obj.portTxBytes], [0x40000004, 0x40000008]⟩ s_a (State.meetResolving s_a e_a st_a) := by
  unfold State.meetResolving
  extract_lets +onlyGivenNames x1
  refine Only.ite ?_ ?_
  · refine Only.ite ?_ ?_
    · refine Only.seq (State.resolve_only ..) ?_ (by decide)
      refine Only.seq (State.setTxe_only ..) ?_ (by decide)
      exact Only.refl _ _
    · exact Only.refl _ _
  · refine Only.ite ?_ ?_
    · exact Only.refl _ _
    · refine Only.seq (State.setTxe_only ..) ?_ (by decide)
      exact Only.refl _ _

theorem State.setTxState_only (s_a e_a st_a) : Only ⟨[.out, .pinned, .ev, .flashJournal, .media, .diskJournal], [Obj.txFlowState, Obj.portTxFramesB, Obj.portTxFrames, Obj.eventCount, Obj.eventLastAt, Obj.eventLastSubject, Obj.portTxBytesB, Obj.portTxBytes], [0x40000004, 0x40000008]⟩ s_a (State.setTxState s_a e_a st_a) := by
  unfold State.setTxState
  extract_lets +onlyGivenNames x1
  refine Only.ite ?_ ?_
  · exact Only.refl _ _
  · extract_lets +onlyGivenNames x2
    have hx2 : Only ⟨[.out, .pinned, .ev, .flashJournal, .media, .diskJournal], [Obj.txFlowState, Obj.portTxFramesB, Obj.portTxFrames, Obj.eventCount, Obj.eventLastAt, Obj.eventLastSubject, Obj.portTxBytesB, Obj.portTxBytes], [0x40000004, 0x40000008]⟩ s_a x2 := by
      subst x2
      refine Only.seq (State.meetResolving_only ..) ?_ (by decide)
      refine Only.seq (State.setN_only ..) ?_ (by decide)
      exact Only.refl _ _
    clear_value x2
    extract_lets +onlyGivenNames x3
    have hx3 : Only ⟨[.out, .pinned, .ev, .flashJournal, .media, .diskJournal], [Obj.txFlowState, Obj.portTxFramesB, Obj.portTxFrames, Obj.eventCount, Obj.eventLastAt, Obj.eventLastSubject, Obj.portTxBytesB, Obj.portTxBytes], [0x40000004, 0x40000008]⟩ s_a x3 := by
      subst x3
      refine Only.ite ?_ ?_
      · refine Only.seq (State.raise_only ..) ?_ (by decide)
        exact hx2
      · exact hx2
    clear_value x3
    extract_lets +onlyGivenNames x4
    have hx4 : Only ⟨[.out, .pinned, .ev, .flashJournal, .media, .diskJournal], [Obj.txFlowState, Obj.portTxFramesB, Obj.portTxFrames, Obj.eventCount, Obj.eventLastAt, Obj.eventLastSubject, Obj.portTxBytesB, Obj.portTxBytes], [0x40000004, 0x40000008]⟩ s_a x4 := by
      subst x4
      refine Only.ite ?_ ?_
      · refine Only.seq (State.raise_only ..) ?_ (by decide)
        exact hx3
      · exact hx3
    clear_value x4
    extract_lets +onlyGivenNames x5
    have hx5 : Only ⟨[.out, .pinned, .ev, .flashJournal, .media, .diskJournal], [Obj.txFlowState, Obj.portTxFramesB, Obj.portTxFrames, Obj.eventCount, Obj.eventLastAt, Obj.eventLastSubject, Obj.portTxBytesB, Obj.portTxBytes], [0x40000004, 0x40000008]⟩ s_a x5 := by
      subst x5
      refine Only.ite ?_ ?_
      · refine Only.seq (State.raise_only ..) ?_ (by decide)
        exact hx4
      · exact hx4
    clear_value x5
    refine Only.ite ?_ ?_
    · refine Only.seq (State.raise_only ..) ?_ (by decide)
      exact hx5
    · exact hx5

theorem State.refreshTx_only (s_a e_a) : Only ⟨[.out, .pinned, .ev, .flashJournal, .media, .diskJournal], [Obj.txFlowState, Obj.portTxFramesB, Obj.portTxFrames, Obj.eventCount, Obj.eventLastAt, Obj.eventLastSubject, Obj.portTxBytesB, Obj.portTxBytes], [0x40000004, 0x40000008]⟩ s_a (State.refreshTx s_a e_a) := by
  unfold State.refreshTx
  refine Only.seq (State.setTxState_only ..) ?_ (by decide)
  exact Only.refl _ _

theorem State.refreshTxPort_only (s_a port_a) : Only ⟨[.out, .pinned, .ev, .flashJournal, .media, .diskJournal], [Obj.txFlowState, Obj.portTxFramesB, Obj.portTxFrames, Obj.eventCount, Obj.eventLastAt, Obj.eventLastSubject, Obj.portTxBytesB, Obj.portTxBytes], [0x40000004, 0x40000008]⟩ s_a (State.refreshTxPort s_a port_a) := by
  unfold State.refreshTxPort
  refine Only.foldl (fun u1 x2 => ?_) ?_
  · refine Only.seq (State.refreshTx_only ..) ?_ (by decide)
    exact Only.refl _ _
  · exact Only.refl _ _

theorem State.refreshTxAll_only (s_a) : Only ⟨[.out, .pinned, .ev, .flashJournal, .media, .diskJournal], [Obj.txFlowState, Obj.portTxFramesB, Obj.portTxFrames, Obj.eventCount, Obj.eventLastAt, Obj.eventLastSubject, Obj.portTxBytesB, Obj.portTxBytes], [0x40000004, 0x40000008]⟩ s_a (State.refreshTxAll s_a) := by
  unfold State.refreshTxAll
  refine Only.foldl (fun u1 x2 => ?_) ?_
  · refine Only.seq (State.refreshTx_only ..) ?_ (by decide)
    exact Only.refl _ _
  · exact Only.refl _ _

theorem State.readdress_only (s_a e_a) : Only ⟨[.out, .pinned, .ev, .flashJournal, .media, .diskJournal], [Obj.portTxFramesB, Obj.portTxFrames, Obj.eventCount, Obj.eventLastAt, Obj.eventLastSubject, Obj.portTxBytesB, Obj.portTxBytes], [0x40000004, 0x40000008]⟩ s_a (State.readdress s_a e_a) := by
  unfold State.readdress
  extract_lets +onlyGivenNames x1
  refine Only.seq (State.resolve_only ..) ?_ (by decide)
  refine Only.seq (State.setTxe_only ..) ?_ (by decide)
  exact Only.refl _ _

theorem State.chooseSsrc_only (s_a lead_a redraw_a) : Only ⟨[.fresh, .media], [Obj.txSsrcInUse], []⟩ s_a (State.chooseSsrc s_a lead_a redraw_a) := by
  unfold State.chooseSsrc
  extract_lets +onlyGivenNames x1
  extract_lets +onlyGivenNames x2
  extract_lets +onlyGivenNames x3
  split
  rename_i v4 t5 e6
  have ht5 : Only ⟨[.fresh, .media], [Obj.txSsrcInUse], []⟩ s_a t5 := by
    refine Only.snd e6 ?_
    split
    · refine Only.mk2 ?_
      exact Only.refl _ _
    · split
      · split
        · refine Only.seq (State.draw_only ..) ?_ (by decide)
          exact Only.refl _ _
        · refine Only.mk2 ?_
          exact Only.refl _ _
      · refine Only.seq (State.draw_only ..) ?_ (by decide)
        exact Only.refl _ _
  extract_lets +onlyGivenNames x7
  subst x7
  refine Only.foldl (fun u8 x9 => ?_) ?_
  · refine Only.seq (State.setN_only ..) ?_ (by decide)
    refine Only.ite ?_ ?_
    · exact Only.refl _ _
    · refine Only.seq (State.setTxe_only ..) ?_ (by decide)
      exact Only.refl _ _
  · exact ht5

theorem State.startTx_only (s_a lead_a boundary_a redraw_a) : Only ⟨[.out, .fresh, .pinned, .ev, .flashJournal, .media, .diskJournal], [Obj.txSsrcInUse, Obj.txNextSeq, Obj.portTxFramesB, Obj.portTxFrames, Obj.eventCount, Obj.eventLastAt, Obj.eventLastSubject, Obj.portTxBytesB, Obj.portTxBytes, Obj.txFlowState], [0x40000004, 0x40000008]⟩ s_a (State.startTx s_a lead_a boundary_a redraw_a) := by
  unfold State.startTx
  extract_lets +onlyGivenNames x1
  extract_lets +onlyGivenNames x2
  have hx2 : Only ⟨[.out, .fresh, .pinned, .ev, .flashJournal, .media, .diskJournal], [Obj.txSsrcInUse, Obj.txNextSeq, Obj.portTxFramesB, Obj.portTxFrames, Obj.eventCount, Obj.eventLastAt, Obj.eventLastSubject, Obj.portTxBytesB, Obj.portTxBytes, Obj.txFlowState], [0x40000004, 0x40000008]⟩ s_a x2 := by
    subst x2
    refine Only.seq (State.chooseSsrc_only ..) ?_ (by decide)
    exact Only.refl _ _
  clear_value x2
  split
  rename_i v3 t4 e5
  have ht4 : Only ⟨[.out, .fresh, .pinned, .ev, .flashJournal, .media, .diskJournal], [Obj.txSsrcInUse, Obj.txNextSeq, Obj.portTxFramesB, Obj.portTxFrames, Obj.eventCount, Obj.eventLastAt, Obj.eventLastSubject, Obj.portTxBytesB, Obj.portTxBytes, Obj.txFlowState], [0x40000004, 0x40000008]⟩ s_a t4 := by
    refine Only.snd e5 ?_
    refine Only.seq (State.draw_only ..) ?_ (by decide)
    exact hx2
  extract_lets +onlyGivenNames x6
  extract_lets +onlyGivenNames x7
  extract_lets +onlyGivenNames x8
  extract_lets +onlyGivenNames x9
  have hx9 : Only ⟨[.out, .fresh, .pinned, .ev, .flashJournal, .media, .diskJournal], [Obj.txSsrcInUse, Obj.txNextSeq, Obj.portTxFramesB, Obj.portTxFrames, Obj.eventCount, Obj.eventLastAt, Obj.eventLastSubject, Obj.portTxBytesB, Obj.portTxBytes, Obj.txFlowState], [0x40000004, 0x40000008]⟩ s_a x9 := by
    subst x9
    refine Only.seq (State.setTxe_only ..) ?_ (by decide)
    exact ht4
  clear_value x9
  refine Only.foldl (fun u10 x11 => ?_) ?_
  · refine Only.seq (State.refreshTx_only ..) ?_ (by decide)
    refine Only.seq (State.readdress_only ..) ?_ (by decide)
    refine Only.seq (State.setN_only ..) ?_ (by decide)
    exact Only.refl _ _
  · exact hx9

theorem State.refreshSdp_only (s_a e_a) : Only ⟨[], [Obj.txSdp], []⟩ s_a (State.refreshSdp s_a e_a) := by
  unfold State.refreshSdp
  refine Only.seq (State.setBy_only ..) ?_ (by decide)
  exact Only.refl _ _

theorem State.sendPacket_only (s_a lead_a timestamp_a marker_a bytes_a payload_a) : Only ⟨[.out, .pinned, .ev, .flashJournal, .diskJournal], [Obj.txPackets, Obj.eventCount, Obj.eventLastAt, Obj.eventLastSubject, Obj.portTxFramesB, Obj.portTxFrames, Obj.portTxBytesB, Obj.portTxBytes, Obj.txPortDownDiscards, Obj.txUnresolvedDrops, Obj.txNextSeq], [0x40000004, 0x40000008]⟩ s_a (State.sendPacket s_a lead_a timestamp_a marker_a bytes_a payload_a) := by
  unfold State.sendPacket
  extract_lets +onlyGivenNames x1
  extract_lets +onlyGivenNames x2
  refine Only.foldl (fun u3 x4 => ?_) ?_
  · extract_lets +onlyGivenNames x5
    have hx5 : Only ⟨[.out, .pinned, .ev, .flashJournal, .diskJournal], [Obj.txPackets, Obj.eventCount, Obj.eventLastAt, Obj.eventLastSubject, Obj.portTxFramesB, Obj.portTxFrames, Obj.portTxBytesB, Obj.portTxBytes, Obj.txPortDownDiscards, Obj.txUnresolvedDrops, Obj.txNextSeq], [0x40000004, 0x40000008]⟩ u3 x5 := by
      subst x5
      split
      · refine Only.seq (State.emit_only ..) ?_ (by decide)
        refine Only.seq (State.countTx_only ..) ?_ (by decide)
        refine Only.seq (State.bump_only ..) ?_ (by decide)
        exact Only.refl _ _
      · refine Only.seq (State.bump_only ..) ?_ (by decide)
        exact Only.refl _ _
      · refine Only.seq (State.bump_only ..) ?_ (by decide)
        exact Only.refl _ _
      · exact Only.refl _ _
    clear_value x5
    refine Only.seq (State.setN_only ..) ?_ (by decide)
    exact hx5
  · exact Only.refl _ _

theorem State.pacing_only (s_a lead_a scheduled_a) : Only ⟨[], [Obj.txPacingErrMax], []⟩ s_a (State.pacing s_a lead_a scheduled_a) := by
  unfold State.pacing
  extract_lets +onlyGivenNames x1
  refine Only.foldl (fun u2 x3 => ?_) ?_
  · refine Only.seq (State.setN_only ..) ?_ (by decide)
    exact Only.refl _ _
  · exact Only.refl _ _

theorem State.setObjs_only (s_a l_a) : Only ⟨[.objs], [], []⟩ s_a (State.setObjs s_a l_a) := by
  unfold State.setObjs
  refine Only.seq (Only.upd (r := ⟨[.objs], [], []⟩) (s := s_a) (fun p => by cases p <;> first | exact .inr rfl | exact .inl (by decide))) ?_ (by decide)
  exact Only.refl _ _

theorem State.heldFlow_only (s_a e_a) : Only ⟨[.objs, .media], [], []⟩ s_a (State.heldFlow s_a e_a) := by
  unfold State.heldFlow
  extract_lets +onlyGivenNames x1
  extract_lets +onlyGivenNames x2
  have hx2 : Only ⟨[.objs, .media], [], []⟩ s_a x2 := by
    subst x2
    refine Only.foldl (fun u3 x4 => ?_) ?_
    · refine Only.seq (State.setTxe_only ..) ?_ (by decide)
      exact Only.refl _ _
    · refine Only.seq (State.setObjs_only ..) ?_ (by decide)
      exact Only.refl _ _
  clear_value x2
  split
  · refine Only.seq (State.setTxe_only ..) ?_ (by decide)
    exact hx2
  · exact hx2

theorem State.unheldFlow_only (s_a u_a e_a) : Only ⟨[.objs, .media], [], []⟩ u_a (State.unheldFlow s_a u_a e_a) := by
  unfold State.unheldFlow
  extract_lets +onlyGivenNames x1
  extract_lets +onlyGivenNames x2
  extract_lets +onlyGivenNames x3
  have hx3 : Only ⟨[.objs, .media], [], []⟩ u_a x3 := by
    subst x3
    refine Only.foldl (fun u4 x5 => ?_) ?_
    · refine Only.seq (State.setTxe_only ..) ?_ (by decide)
      exact Only.refl _ _
    · refine Only.seq (State.setObjs_only ..) ?_ (by decide)
      exact Only.refl _ _
  clear_value x3
  split
  · refine Only.seq (State.setTxe_only ..) ?_ (by decide)
    exact hx3
  · exact hx3

theorem State.dropHeld_only (s_a e_a) : Only ⟨[.media], [], []⟩ s_a (State.dropHeld s_a e_a) := by
  unfold State.dropHeld
  extract_lets +onlyGivenNames x1
  have hx1 : Only ⟨[.media], [], []⟩ s_a x1 := by
    subst x1
    refine Only.foldl (fun u2 x3 => ?_) ?_
    · refine Only.seq (State.setTxe_only ..) ?_ (by decide)
      exact Only.refl _ _
    · exact Only.refl _ _
  clear_value x1
  refine Only.seq (State.setTxe_only ..) ?_ (by decide)
  exact hx1

theorem State.txUnder_only {r : Reach} (s_a e_a before_a f_a) (hk3 : ∀ y0, Only r y0 (f_a y0)) (l : Reach.le ⟨[.objs, .media], [], []⟩ r) : Only r s_a (State.txUnder s_a e_a before_a f_a) := by
  unfold State.txUnder
  extract_lets +onlyGivenNames x1
  refine Only.ite ?_ ?_
  · refine Only.seq (hk3 ..) ?_ (Reach.le_refl _)
    exact Only.refl _ _
  · extract_lets +onlyGivenNames x2
    have hx2 : Only r s_a x2 := by
      subst x2
      refine Only.seq (State.heldFlow_only ..) ?_ (Reach.le_trans (b := ⟨[.objs, .media], [], []⟩) (by decide) l)
      exact Only.refl _ _
    clear_value x2
    refine Only.ite ?_ ?_
    · refine Only.seq (State.unheldFlow_only ..) ?_ (Reach.le_trans (b := ⟨[.objs, .media], [], []⟩) (by decide) l)
      refine Only.seq (hk3 ..) ?_ (Reach.le_refl _)
      exact hx2
    · refine Only.seq (hk3 ..) ?_ (Reach.le_refl _)
      refine Only.seq (State.dropHeld_only ..) ?_ (Reach.le_trans (b := ⟨[.objs, .media], [], []⟩) (by decide) l)
      exact Only.refl _ _

theorem State.holdTx_only (s_a old_a lead_a boundary_a) : Only ⟨[.media], [], []⟩ s_a (State.holdTx s_a old_a lead_a boundary_a) := by
  unfold State.holdTx
  extract_lets +onlyGivenNames x1
  extract_lets +onlyGivenNames x2
  extract_lets +onlyGivenNames x3
  extract_lets +onlyGivenNames x4
  refine Only.ite ?_ ?_
  · exact Only.refl _ _
  · extract_lets +onlyGivenNames x5
    extract_lets +onlyGivenNames x6
    extract_lets +onlyGivenNames x7
    have hx7 : Only ⟨[.media], [], []⟩ s_a x7 := by
      subst x7
      refine Only.foldl (fun u8 x9 => ?_) ?_
      · refine Only.seq (State.setTxe_only ..) ?_ (by decide)
        exact Only.refl _ _
      · exact Only.refl _ _
    clear_value x7
    refine Only.seq (State.setTxe_only ..) ?_ (by decide)
    exact hx7

theorem State.beginStream_only (s_a lead_a d_a x_a) : Only ⟨[.out, .pinned, .ev, .flashJournal, .media, .diskJournal], [Obj.txAncDropped, Obj.eventCount, Obj.eventLastAt, Obj.eventLastSubject], [0x40000004, 0x40000008]⟩ s_a (State.beginStream s_a lead_a d_a x_a) := by
  unfold State.beginStream
  extract_lets +onlyGivenNames x1
  extract_lets +onlyGivenNames x2
  extract_lets +onlyGivenNames x3
  extract_lets +onlyGivenNames x4
  extract_lets +onlyGivenNames x5
  extract_lets +onlyGivenNames x6
  extract_lets +onlyGivenNames x7
  have hx7 : Only ⟨[.out, .pinned, .ev, .flashJournal, .media, .diskJournal], [Obj.txAncDropped, Obj.eventCount, Obj.eventLastAt, Obj.eventLastSubject], [0x40000004, 0x40000008]⟩ s_a x7 := by
    subst x7
    refine Only.seq (State.setTxe_only ..) ?_ (by decide)
    exact Only.refl _ _
  clear_value x7
  refine Only.ite ?_ ?_
  · exact hx7
  · refine Only.seq (State.raise_only ..) ?_ (by decide)
    refine Only.foldl (fun u8 x9 => ?_) ?_
    · refine Only.seq (State.bump_only ..) ?_ (by decide)
      exact Only.refl _ _
    · exact hx7

theorem State.beginFrame_only (s_a lead_a d_a x_a) : Only ⟨[.out, .fresh, .pinned, .ev, .flashJournal, .ridge, .media, .au, .diskJournal], [Obj.txFormatLive, Obj.txSdp, Obj.txAncDropped, Obj.eventCount, Obj.eventLastAt, Obj.eventLastSubject, Obj.routeOnAir, Obj.originKind, Obj.latencyLast, Obj.stageBreakdown, Obj.latencyMin, Obj.latencyMax, Obj.aoBindState, Obj.aoLipSyncError], [0x40000004, 0x40000008]⟩ s_a (State.beginFrame s_a lead_a d_a x_a) := by
  unfold State.beginFrame
  extract_lets +onlyGivenNames x1
  have hx1 : Only ⟨[.out, .fresh, .pinned, .ev, .flashJournal, .ridge, .media, .au, .diskJournal], [Obj.txFormatLive, Obj.txSdp, Obj.txAncDropped, Obj.eventCount, Obj.eventLastAt, Obj.eventLastSubject, Obj.routeOnAir, Obj.originKind, Obj.latencyLast, Obj.stageBreakdown, Obj.latencyMin, Obj.latencyMax, Obj.aoBindState, Obj.aoLipSyncError], [0x40000004, 0x40000008]⟩ s_a x1 := by
    subst x1
    refine Only.foldl (fun u2 x3 => ?_) ?_
    · refine Only.seq (State.refreshSdp_only ..) ?_ (by decide)
      refine Only.seq (State.setN_only ..) ?_ (by decide)
      exact Only.refl _ _
    · exact Only.refl _ _
  clear_value x1
  extract_lets +onlyGivenNames x4
  extract_lets +onlyGivenNames x5
  have hx5 : Only ⟨[.out, .fresh, .pinned, .ev, .flashJournal, .ridge, .media, .au, .diskJournal], [Obj.txFormatLive, Obj.txSdp, Obj.txAncDropped, Obj.eventCount, Obj.eventLastAt, Obj.eventLastSubject, Obj.routeOnAir, Obj.originKind, Obj.latencyLast, Obj.stageBreakdown, Obj.latencyMin, Obj.latencyMax, Obj.aoBindState, Obj.aoLipSyncError], [0x40000004, 0x40000008]⟩ s_a x5 := by
    subst x5
    refine Only.seq (State.setTxe_only ..) ?_ (by decide)
    exact hx1
  clear_value x5
  extract_lets +onlyGivenNames x6
  have hx6 : Only ⟨[.out, .fresh, .pinned, .ev, .flashJournal, .ridge, .media, .au, .diskJournal], [Obj.txFormatLive, Obj.txSdp, Obj.txAncDropped, Obj.eventCount, Obj.eventLastAt, Obj.eventLastSubject, Obj.routeOnAir, Obj.originKind, Obj.latencyLast, Obj.stageBreakdown, Obj.latencyMin, Obj.latencyMax, Obj.aoBindState, Obj.aoLipSyncError], [0x40000004, 0x40000008]⟩ s_a x6 := by
    subst x6
    refine Only.ite ?_ ?_
    · refine Only.seq (State.beginStream_only ..) ?_ (by decide)
      exact hx5
    · exact hx5
  clear_value x6
  refine Only.seq (State.emitFrame_only ..) ?_ (by decide)
  exact hx6

theorem execTxPacketDeparture_only (dt_a entry_a s_a) : OnlyR ⟨[.out, .fresh, .now, .tc, .objs, .pinned, .ev, .flashJournal, .ridge, .media, .au, .diskJournal], [], [0x40000004, 0x40000008]⟩ s_a (execTxPacketDeparture dt_a entry_a s_a) := by
  unfold execTxPacketDeparture
  refine act_only (hk2 := fun u1 => ?_) (l := (by decide)) ..
  refine Only.seq (State.txUnder_only (hk3 := fun u2 => ?_) (l := (by decide)) ..) ?_ (Reach.le_refl _)
  · refine Only.ite ?_ ?_
    · exact Only.refl _ _
    · extract_lets +onlyGivenNames x3
      split
      · exact Only.refl _ _
      · extract_lets +onlyGivenNames x4
        extract_lets +onlyGivenNames x5
        split
        extract_lets +onlyGivenNames x6
        refine Only.ite ?_ ?_
        · exact Only.refl _ _
        · extract_lets +onlyGivenNames x7
          extract_lets +onlyGivenNames x8
          extract_lets +onlyGivenNames x9
          extract_lets +onlyGivenNames x10
          subst x10
          extract_lets +onlyGivenNames x11
          extract_lets +onlyGivenNames x12
          have hx12 : Only ⟨[.out, .fresh, .now, .tc, .objs, .pinned, .ev, .flashJournal, .ridge, .media, .au, .diskJournal], [], [0x40000004, 0x40000008]⟩ u2 x12 := by
            subst x12
            refine Only.ite ?_ ?_
            · refine Only.seq (State.beginFrame_only ..) ?_ (by decide)
              exact Only.refl _ _
            · exact Only.refl _ _
          clear_value x12
          extract_lets +onlyGivenNames x13
          extract_lets +onlyGivenNames x14
          extract_lets +onlyGivenNames x15
          have hx15 : Only ⟨[.out, .fresh, .now, .tc, .objs, .pinned, .ev, .flashJournal, .ridge, .media, .au, .diskJournal], [], [0x40000004, 0x40000008]⟩ u2 x15 := by
            subst x15
            refine Only.seq (State.pacing_only ..) ?_ (by decide)
            refine Only.seq (State.sendPacket_only ..) ?_ (by decide)
            exact hx12
          clear_value x15
          extract_lets +onlyGivenNames x16
          extract_lets +onlyGivenNames x17
          have hx17 : Only ⟨[.out, .fresh, .now, .tc, .objs, .pinned, .ev, .flashJournal, .ridge, .media, .au, .diskJournal], [], [0x40000004, 0x40000008]⟩ u2 x17 := by
            subst x17
            refine Only.seq (State.setTxe_only ..) ?_ (by decide)
            exact hx15
          clear_value x17
          refine Only.ite ?_ ?_
          · refine Only.seq (State.refreshTxAll_only ..) ?_ (by decide)
            exact hx17
          · exact hx17
  · exact Only.refl _ _

theorem State.txRunOut_only (s_a e_a n_a) : Only ⟨[.out, .fresh, .pinned, .ev, .flashJournal, .au, .diskJournal], [Obj.aoPathInForce, Obj.aoBindDelay, Obj.aoTapsDeferred, Obj.eventCount, Obj.eventLastAt, Obj.eventLastSubject, Obj.aoClipSamples], [0x40000004, 0x40000008]⟩ s_a (State.txRunOut s_a e_a n_a) := by
  unfold State.txRunOut
  refine Only.foldl (fun u1 x2 => ?_) ?_
  · refine Only.seq (State.runOut_only ..) ?_ (by decide)
    exact Only.refl _ _
  · exact Only.refl _ _

theorem execTxAudioPacket_only (dt_a entry_a s_a) : OnlyR ⟨[.out, .fresh, .now, .tc, .objs, .pinned, .ev, .flashJournal, .media, .au, .diskJournal], [], [0x40000004, 0x40000008]⟩ s_a (execTxAudioPacket dt_a entry_a s_a) := by
  unfold execTxAudioPacket
  refine act_only (hk2 := fun u1 => ?_) (l := (by decide)) ..
  refine Only.seq (State.txUnder_only (hk3 := fun u2 => ?_) (l := (by decide)) ..) ?_ (Reach.le_refl _)
  · extract_lets +onlyGivenNames x3
    extract_lets +onlyGivenNames x4
    refine Only.ite ?_ ?_
    · exact Only.refl _ _
    · extract_lets +onlyGivenNames x5
      extract_lets +onlyGivenNames x6
      extract_lets +onlyGivenNames x7
      have hx7 : Only ⟨[.out, .fresh, .now, .tc, .objs, .pinned, .ev, .flashJournal, .media, .au, .diskJournal], [], [0x40000004, 0x40000008]⟩ u2 x7 := by
        subst x7
        refine Only.seq (State.txRunOut_only ..) ?_ (by decide)
        exact Only.refl _ _
      clear_value x7
      extract_lets +onlyGivenNames x8
      have hx8 : Only ⟨[.out, .fresh, .now, .tc, .objs, .pinned, .ev, .flashJournal, .media, .au, .diskJournal], [], [0x40000004, 0x40000008]⟩ u2 x8 := by
        subst x8
        refine Only.seq (State.pacing_only ..) ?_ (by decide)
        refine Only.seq (State.sendPacket_only ..) ?_ (by decide)
        exact hx7
      clear_value x8
      extract_lets +onlyGivenNames x9
      extract_lets +onlyGivenNames x10
      have hx10 : Only ⟨[.out, .fresh, .now, .tc, .objs, .pinned, .ev, .flashJournal, .media, .au, .diskJournal], [], [0x40000004, 0x40000008]⟩ u2 x10 := by
        subst x10
        refine Only.seq (State.setTxe_only ..) ?_ (by decide)
        exact hx8
      clear_value x10
      refine Only.ite ?_ ?_
      · refine Only.seq (State.refreshTxAll_only ..) ?_ (by decide)
        exact hx10
      · exact hx10
  · exact Only.refl _ _

theorem State.sendAncPacket_only (s_a e_a ts_a format_a field2_a l_a last_a) : Only ⟨[.out, .pinned, .ev, .flashJournal, .diskJournal], [Obj.txPackets, Obj.eventCount, Obj.eventLastAt, Obj.eventLastSubject, Obj.portTxFramesB, Obj.portTxFrames, Obj.portTxBytesB, Obj.portTxBytes, Obj.txPortDownDiscards, Obj.txUnresolvedDrops, Obj.txNextSeq], [0x40000004, 0x40000008]⟩ s_a (State.sendAncPacket s_a e_a ts_a format_a field2_a l_a last_a) := by
  unfold State.sendAncPacket
  refine Only.seq (State.sendPacket_only ..) ?_ (by decide)
  exact Only.refl _ _

theorem State.sendAnc_only (s_a e_a x_a field2_a) : Only ⟨[.out, .pinned, .ev, .flashJournal, .media, .diskJournal], [Obj.txFormatLive, Obj.txSdp, Obj.txPackets, Obj.eventCount, Obj.eventLastAt, Obj.eventLastSubject, Obj.portTxFramesB, Obj.portTxFrames, Obj.portTxBytesB, Obj.portTxBytes, Obj.txPortDownDiscards, Obj.txUnresolvedDrops, Obj.txNextSeq, Obj.txAncDropped], [0x40000004, 0x40000008]⟩ s_a (State.sendAnc s_a e_a x_a field2_a) := by
  unfold State.sendAnc
  extract_lets +onlyGivenNames x1
  extract_lets +onlyGivenNames x2
  extract_lets +onlyGivenNames x3
  subst x3
  extract_lets +onlyGivenNames x4
  split
  extract_lets +onlyGivenNames x5
  extract_lets +onlyGivenNames x6
  have hx6 : Only ⟨[.out, .pinned, .ev, .flashJournal, .media, .diskJournal], [Obj.txFormatLive, Obj.txSdp, Obj.txPackets, Obj.eventCount, Obj.eventLastAt, Obj.eventLastSubject, Obj.portTxFramesB, Obj.portTxFrames, Obj.portTxBytesB, Obj.portTxBytes, Obj.txPortDownDiscards, Obj.txUnresolvedDrops, Obj.txNextSeq, Obj.txAncDropped], [0x40000004, 0x40000008]⟩ s_a x6 := by
    subst x6
    refine Only.foldl (fun u7 x8 => ?_) ?_
    · refine Only.ite ?_ ?_
      · exact Only.refl _ _
      · refine Only.seq (State.refreshSdp_only ..) ?_ (by decide)
        refine Only.seq (State.setN_only ..) ?_ (by decide)
        exact Only.refl _ _
    · exact Only.refl _ _
  clear_value x6
  extract_lets +onlyGivenNames x9
  extract_lets +onlyGivenNames x10
  have hx10 : Only ⟨[.out, .pinned, .ev, .flashJournal, .media, .diskJournal], [Obj.txFormatLive, Obj.txSdp, Obj.txPackets, Obj.eventCount, Obj.eventLastAt, Obj.eventLastSubject, Obj.portTxFramesB, Obj.portTxFrames, Obj.portTxBytesB, Obj.portTxBytes, Obj.txPortDownDiscards, Obj.txUnresolvedDrops, Obj.txNextSeq, Obj.txAncDropped], [0x40000004, 0x40000008]⟩ s_a x10 := by
    subst x10
    refine Only.foldl (fun u11 x12 => ?_) ?_
    · refine Only.seq (State.sendAncPacket_only ..) ?_ (by decide)
      exact Only.refl _ _
    · exact hx6
  clear_value x10
  extract_lets +onlyGivenNames x13
  have hx13 : Only ⟨[.out, .pinned, .ev, .flashJournal, .media, .diskJournal], [Obj.txFormatLive, Obj.txSdp, Obj.txPackets, Obj.eventCount, Obj.eventLastAt, Obj.eventLastSubject, Obj.portTxFramesB, Obj.portTxFrames, Obj.portTxBytesB, Obj.portTxBytes, Obj.txPortDownDiscards, Obj.txUnresolvedDrops, Obj.txNextSeq, Obj.txAncDropped], [0x40000004, 0x40000008]⟩ s_a x13 := by
    subst x13
    refine Only.seq (State.sendAncPacket_only ..) ?_ (by decide)
    exact hx10
  clear_value x13
  extract_lets +onlyGivenNames x14
  extract_lets +onlyGivenNames x15
  have hx15 : Only ⟨[.out, .pinned, .ev, .flashJournal, .media, .diskJournal], [Obj.txFormatLive, Obj.txSdp, Obj.txPackets, Obj.eventCount, Obj.eventLastAt, Obj.eventLastSubject, Obj.portTxFramesB, Obj.portTxFrames, Obj.portTxBytesB, Obj.portTxBytes, Obj.txPortDownDiscards, Obj.txUnresolvedDrops, Obj.txNextSeq, Obj.txAncDropped], [0x40000004, 0x40000008]⟩ s_a x15 := by
    subst x15
    refine Only.seq (State.setTxe_only ..) ?_ (by decide)
    exact hx13
  clear_value x15
  refine Only.ite ?_ ?_
  · exact hx15
  · refine Only.seq (State.raiseLimited_only ..) ?_ (by decide)
    refine Only.seq (State.bump_only ..) ?_ (by decide)
    exact hx15

theorem execTxAncPackets_only (dt_a entry_a field2_a s_a) : OnlyR ⟨[.out, .now, .tc, .objs, .pinned, .ev, .flashJournal, .media, .diskJournal], [], [0x40000004, 0x40000008]⟩ s_a (execTxAncPackets dt_a entry_a field2_a s_a) := by
  unfold execTxAncPackets
  refine act_only (hk2 := fun u1 => ?_) (l := (by decide)) ..
  refine Only.seq (State.txUnder_only (hk3 := fun u2 => ?_) (l := (by decide)) ..) ?_ (Reach.le_refl _)
  · refine Only.ite ?_ ?_
    · exact Only.refl _ _
    · split
      · exact Only.refl _ _
      · refine Only.ite ?_ ?_
        · refine Only.seq (State.sendAnc_only ..) ?_ (by decide)
          exact Only.refl _ _
        · exact Only.refl _ _
  · exact Only.refl _ _

theorem execTxOpaqueForward_only (dt_a entry_a s_a) : OnlyR ⟨[.out, .now, .tc, .objs, .pinned, .ev, .flashJournal, .media, .diskJournal], [], [0x40000004, 0x40000008]⟩ s_a (execTxOpaqueForward dt_a entry_a s_a) := by
  unfold execTxOpaqueForward
  refine act_only (hk2 := fun u1 => ?_) (l := (by decide)) ..
  refine Only.seq (State.txUnder_only (hk3 := fun u2 => ?_) (l := (by decide)) ..) ?_ (Reach.le_refl _)
  · refine Only.ite ?_ ?_
    · exact Only.refl _ _
    · split
      · refine Only.ite ?_ ?_
        · exact Only.refl _ _
        · refine Only.foldl (fun u3 x4 => ?_) ?_
          · split
            · refine Only.seq (State.emit_only ..) ?_ (by decide)
              refine Only.seq (State.countTx_only ..) ?_ (by decide)
              refine Only.seq (State.bump_only ..) ?_ (by decide)
              exact Only.refl _ _
            · refine Only.seq (State.bump_only ..) ?_ (by decide)
              exact Only.refl _ _
            · refine Only.seq (State.bump_only ..) ?_ (by decide)
              exact Only.refl _ _
            · exact Only.refl _ _
          · refine Only.seq (State.setTxe_only ..) ?_ (by decide)
            exact Only.refl _ _
      · exact Only.refl _ _
  · exact Only.refl _ _

theorem execTxResolveRenew_only (dt_a entry_a s_a) : OnlyR ⟨[.out, .now, .tc, .pinned, .ev, .flashJournal, .media, .diskJournal], [Obj.portTxFramesB, Obj.portTxFrames, Obj.eventCount, Obj.eventLastAt, Obj.eventLastSubject, Obj.portTxBytesB, Obj.portTxBytes], [0x40000004, 0x40000008]⟩ s_a (execTxResolveRenew dt_a entry_a s_a) := by
  unfold execTxResolveRenew
  refine actIf_only (hk3 := fun u1 => ?_) (l := (by decide)) ..
  extract_lets +onlyGivenNames x2
  extract_lets +onlyGivenNames x3
  have hx3 : Only ⟨[.out, .now, .tc, .pinned, .ev, .flashJournal, .media, .diskJournal], [Obj.portTxFramesB, Obj.portTxFrames, Obj.eventCount, Obj.eventLastAt, Obj.eventLastSubject, Obj.portTxBytesB, Obj.portTxBytes], [0x40000004, 0x40000008]⟩ u1 x3 := by
    subst x3
    refine Only.seq (State.resolve_only ..) ?_ (by decide)
    exact Only.refl _ _
  clear_value x3
  refine Only.seq (State.setTxe_only ..) ?_ (by decide)
  exact hx3

theorem execTxUnresolved_only (dt_a entry_a s_a) : OnlyR ⟨[.out, .now, .tc, .pinned, .ev, .flashJournal, .media, .diskJournal], [Obj.eventCount, Obj.eventLastAt, Obj.eventLastSubject], [0x40000004, 0x40000008]⟩ s_a (execTxUnresolved dt_a entry_a s_a) := by
  unfold execTxUnresolved
  refine actIf_only (hk3 := fun u1 => ?_) (l := (by decide)) ..
  refine Only.seq (State.raise_only ..) ?_ (by decide)
  refine Only.seq (State.setTxe_only ..) ?_ (by decide)
  exact Only.refl _ _

theorem State.resolved_only (s_a port_a addr_a mac_a) : Only ⟨[.out, .pinned, .ev, .flashJournal, .media, .diskJournal], [Obj.txFlowState, Obj.portTxFramesB, Obj.portTxFrames, Obj.eventCount, Obj.eventLastAt, Obj.eventLastSubject, Obj.portTxBytesB, Obj.portTxBytes], [0x40000004, 0x40000008]⟩ s_a (State.resolved s_a port_a addr_a mac_a) := by
  unfold State.resolved
  refine Only.foldl (fun u1 x2 => ?_) ?_
  · refine Only.seq (State.refreshTx_only ..) ?_ (by decide)
    refine Only.seq (State.setTxe_only ..) ?_ (by decide)
    exact Only.refl _ _
  · exact Only.refl _ _

theorem State.txContinue_only (s_a old_a lead_a from__a boundary_a) : Only ⟨[.out, .pinned, .ev, .flashJournal, .media, .diskJournal], [Obj.txSsrcInUse, Obj.txNextSeq, Obj.portTxFramesB, Obj.portTxFrames, Obj.eventCount, Obj.eventLastAt, Obj.eventLastSubject, Obj.portTxBytesB, Obj.portTxBytes, Obj.txFlowState], [0x40000004, 0x40000008]⟩ s_a (State.txContinue s_a old_a lead_a from__a boundary_a) := by
  unfold State.txContinue
  extract_lets +onlyGivenNames x1
  extract_lets +onlyGivenNames x2
  extract_lets +onlyGivenNames x3
  extract_lets +onlyGivenNames x4
  extract_lets +onlyGivenNames x5
  subst x5
  extract_lets +onlyGivenNames x6
  extract_lets +onlyGivenNames x7
  have hx7 : Only ⟨[.out, .pinned, .ev, .flashJournal, .media, .diskJournal], [Obj.txSsrcInUse, Obj.txNextSeq, Obj.portTxFramesB, Obj.portTxFrames, Obj.eventCount, Obj.eventLastAt, Obj.eventLastSubject, Obj.portTxBytesB, Obj.portTxBytes, Obj.txFlowState], [0x40000004, 0x40000008]⟩ s_a x7 := by
    subst x7
    refine Only.ite ?_ ?_
    · exact Only.refl _ _
    · refine Only.seq (State.setTxe_only ..) ?_ (by decide)
      exact Only.refl _ _
  clear_value x7
  refine Only.foldl (fun u8 x9 => ?_) ?_
  · extract_lets +onlyGivenNames x10
    have hx10 : Only ⟨[.out, .pinned, .ev, .flashJournal, .media, .diskJournal], [Obj.txSsrcInUse, Obj.txNextSeq, Obj.portTxFramesB, Obj.portTxFrames, Obj.eventCount, Obj.eventLastAt, Obj.eventLastSubject, Obj.portTxBytesB, Obj.portTxBytes, Obj.txFlowState], [0x40000004, 0x40000008]⟩ u8 x10 := by
      subst x10
      refine Only.seq (State.setN_only ..) ?_ (by decide)
      refine Only.seq (State.setN_only ..) ?_ (by decide)
      exact Only.refl _ _
    clear_value x10
    refine Only.ite ?_ ?_
    · exact hx10
    · refine Only.seq (State.refreshTx_only ..) ?_ (by decide)
      refine Only.seq (State.readdress_only ..) ?_ (by decide)
      refine Only.seq (State.setTxe_only ..) ?_ (by decide)
      exact hx10
  · exact hx7

theorem State.txFlowCommit_only (s_a old_a lead_a boundary_a) : Only ⟨[.out, .fresh, .pinned, .ev, .flashJournal, .media, .diskJournal], [Obj.txSsrcInUse, Obj.txNextSeq, Obj.portTxFramesB, Obj.portTxFrames, Obj.eventCount, Obj.eventLastAt, Obj.eventLastSubject, Obj.portTxBytesB, Obj.portTxBytes, Obj.txFlowState], [0x40000004, 0x40000008]⟩ s_a (State.txFlowCommit s_a old_a lead_a boundary_a) := by
  unfold State.txFlowCommit
  split
  · refine Only.seq (State.startTx_only ..) ?_ (by decide)
    exact Only.refl _ _
  · extract_lets +onlyGivenNames x1
    have hx1 : Only ⟨[.out, .fresh, .pinned, .ev, .flashJournal, .media, .diskJournal], [Obj.txSsrcInUse, Obj.txNextSeq, Obj.portTxFramesB, Obj.portTxFrames, Obj.eventCount, Obj.eventLastAt, Obj.eventLastSubject, Obj.portTxBytesB, Obj.portTxBytes, Obj.txFlowState], [0x40000004, 0x40000008]⟩ s_a x1 := by
      subst x1
      refine Only.seq (State.txContinue_only ..) ?_ (by decide)
      exact Only.refl _ _
    clear_value x1
    extract_lets +onlyGivenNames x2
    have hx2 : Only ⟨[.out, .fresh, .pinned, .ev, .flashJournal, .media, .diskJournal], [Obj.txSsrcInUse, Obj.txNextSeq, Obj.portTxFramesB, Obj.portTxFrames, Obj.eventCount, Obj.eventLastAt, Obj.eventLastSubject, Obj.portTxBytesB, Obj.portTxBytes, Obj.txFlowState], [0x40000004, 0x40000008]⟩ s_a x2 := by
      subst x2
      refine Only.ite ?_ ?_
      · refine Only.seq (State.chooseSsrc_only ..) ?_ (by decide)
        exact hx1
      · exact hx1
    clear_value x2
    refine Only.ite ?_ ?_
    · refine Only.seq (State.setTxe_only ..) ?_ (by decide)
      exact hx2
    · exact hx2

theorem State.txCommit_only (s_a old_a boundary_a) : Only ⟨[.out, .fresh, .pinned, .ev, .flashJournal, .media, .diskJournal], [Obj.txSsrcInUse, Obj.txNextSeq, Obj.portTxFramesB, Obj.portTxFrames, Obj.eventCount, Obj.eventLastAt, Obj.eventLastSubject, Obj.portTxBytesB, Obj.portTxBytes, Obj.txFlowState, Obj.txFormatLive, Obj.txSdp], [0x40000004, 0x40000008]⟩ s_a (State.txCommit s_a old_a boundary_a) := by
  unfold State.txCommit
  extract_lets +onlyGivenNames x1
  extract_lets +onlyGivenNames x2
  extract_lets +onlyGivenNames x3
  have hx3 : Only ⟨[.out, .fresh, .pinned, .ev, .flashJournal, .media, .diskJournal], [Obj.txSsrcInUse, Obj.txNextSeq, Obj.portTxFramesB, Obj.portTxFrames, Obj.eventCount, Obj.eventLastAt, Obj.eventLastSubject, Obj.portTxBytesB, Obj.portTxBytes, Obj.txFlowState, Obj.txFormatLive, Obj.txSdp], [0x40000004, 0x40000008]⟩ s_a x3 := by
    subst x3
    refine Only.foldl (fun u4 x5 => ?_) ?_
    · refine Only.seq (State.holdTx_only ..) ?_ (by decide)
      exact Only.refl _ _
    · exact Only.refl _ _
  clear_value x3
  extract_lets +onlyGivenNames x6
  extract_lets +onlyGivenNames x7
  have hx7 : Only ⟨[.out, .fresh, .pinned, .ev, .flashJournal, .media, .diskJournal], [Obj.txSsrcInUse, Obj.txNextSeq, Obj.portTxFramesB, Obj.portTxFrames, Obj.eventCount, Obj.eventLastAt, Obj.eventLastSubject, Obj.portTxBytesB, Obj.portTxBytes, Obj.txFlowState, Obj.txFormatLive, Obj.txSdp], [0x40000004, 0x40000008]⟩ s_a x7 := by
    subst x7
    refine Only.foldl (fun u8 x9 => ?_) ?_
    · refine Only.seq (State.txFlowCommit_only ..) ?_ (by decide)
      exact Only.refl _ _
    · exact hx3
  clear_value x7
  refine Only.foldl (fun u10 x11 => ?_) ?_
  · extract_lets +onlyGivenNames x12
    extract_lets +onlyGivenNames x13
    extract_lets +onlyGivenNames x14
    extract_lets +onlyGivenNames x15
    have hx15 : Only ⟨[.out, .fresh, .pinned, .ev, .flashJournal, .media, .diskJournal], [Obj.txSsrcInUse, Obj.txNextSeq, Obj.portTxFramesB, Obj.portTxFrames, Obj.eventCount, Obj.eventLastAt, Obj.eventLastSubject, Obj.portTxBytesB, Obj.portTxBytes, Obj.txFlowState, Obj.txFormatLive, Obj.txSdp], [0x40000004, 0x40000008]⟩ u10 x15 := by
      subst x15
      refine Only.ite ?_ ?_
      · refine Only.seq (State.readdress_only ..) ?_ (by decide)
        exact Only.refl _ _
      · exact Only.refl _ _
    clear_value x15
    extract_lets +onlyGivenNames x16
    extract_lets +onlyGivenNames x17
    have hx17 : Only ⟨[.out, .fresh, .pinned, .ev, .flashJournal, .media, .diskJournal], [Obj.txSsrcInUse, Obj.txNextSeq, Obj.portTxFramesB, Obj.portTxFrames, Obj.eventCount, Obj.eventLastAt, Obj.eventLastSubject, Obj.portTxBytesB, Obj.portTxBytes, Obj.txFlowState, Obj.txFormatLive, Obj.txSdp], [0x40000004, 0x40000008]⟩ u10 x17 := by
      subst x17
      refine Only.ite ?_ ?_
      · exact hx15
      · refine Only.seq (State.setN_only ..) ?_ (by decide)
        refine Only.seq (State.setTxe_only ..) ?_ (by decide)
        exact hx15
    clear_value x17
    refine Only.seq (State.refreshSdp_only ..) ?_ (by decide)
    refine Only.seq (State.refreshTx_only ..) ?_ (by decide)
    exact hx17
  · exact hx7

end Sys2Proof.Machine
end

