-- ==== Sys2Proof/Laws/OnlyLanes.lean ====
section
/-!
SUPPORT. What the functions of Machine/Lanes.lean may change (`Only` of Laws/Only.lean).
-/
namespace Sys2Proof.Machine
set_option Elab.async false

theorem State.setSl_only (s_a k_a x_a) : Only ⟨[.sad], [], []⟩ s_a (State.setSl s_a k_a x_a) := by
  unfold State.setSl
  refine Only.seq (Only.upd (r := ⟨[.sad], [], []⟩) (s := s_a) (fun p => by cases p <;> first | exact .inr rfl | exact .inl (by decide))) ?_ (by decide)
  exact Only.refl _ _

theorem State.setSaddle_only (s_a st_a) : Only ⟨[.out, .pinned, .ev, .flashJournal, .sad, .diskJournal], [Obj.saddleState, Obj.saddleDownCount, Obj.eventCount, Obj.eventLastAt, Obj.eventLastSubject], [0x40000004, 0x40000008]⟩ s_a (State.setSaddle s_a st_a) := by
  unfold State.setSaddle
  extract_lets +onlyGivenNames x1
  refine Only.ite ?_ ?_
  · exact Only.refl _ _
  · extract_lets +onlyGivenNames x2
    have hx2 : Only ⟨[.out, .pinned, .ev, .flashJournal, .sad, .diskJournal], [Obj.saddleState, Obj.saddleDownCount, Obj.eventCount, Obj.eventLastAt, Obj.eventLastSubject], [0x40000004, 0x40000008]⟩ s_a x2 := by
      subst x2
      refine Only.seq (State.setN_only ..) ?_ (by decide)
      exact Only.refl _ _
    clear_value x2
    extract_lets +onlyGivenNames x3
    have hx3 : Only ⟨[.out, .pinned, .ev, .flashJournal, .sad, .diskJournal], [Obj.saddleState, Obj.saddleDownCount, Obj.eventCount, Obj.eventLastAt, Obj.eventLastSubject], [0x40000004, 0x40000008]⟩ s_a x3 := by
      subst x3
      refine Only.ite ?_ ?_
      · refine Only.seq (State.raise_only ..) ?_ (by decide)
        refine Only.seq (State.bump_only ..) ?_ (by decide)
        exact hx2
      · exact hx2
    clear_value x3
    extract_lets +onlyGivenNames x4
    extract_lets +onlyGivenNames x5
    have hx5 : Only ⟨[.out, .pinned, .ev, .flashJournal, .sad, .diskJournal], [Obj.saddleState, Obj.saddleDownCount, Obj.eventCount, Obj.eventLastAt, Obj.eventLastSubject], [0x40000004, 0x40000008]⟩ s_a x5 := by
      subst x5
      refine Only.ite ?_ ?_
      · refine Only.seq (Only.upd (r := ⟨[.sad], [], []⟩) (s := x3) (fun p => by cases p <;> first | exact .inr rfl | exact .inl (by decide))) ?_ (by decide)
        exact hx3
      · exact hx3
    clear_value x5
    refine Only.ite ?_ ?_
    · refine Only.seq (State.raise_only ..) ?_ (by decide)
      exact hx5
    · exact hx5

theorem State.sendTrain_only (s_a k_a) : Only ⟨[.out, .sad], [], []⟩ s_a (State.sendTrain s_a k_a) := by
  unfold State.sendTrain
  extract_lets +onlyGivenNames x1
  refine Only.seq (State.emit_only ..) ?_ (by decide)
  refine Only.seq (State.setSl_only ..) ?_ (by decide)
  exact Only.refl _ _

theorem State.checkReady_only (s_a) : Only ⟨[.out, .pinned, .ev, .flashJournal, .sad, .diskJournal], [Obj.eventCount, Obj.eventLastAt, Obj.eventLastSubject, Obj.saddleState, Obj.saddleDownCount], [0x40000004, 0x40000008]⟩ s_a (State.checkReady s_a) := by
  unfold State.checkReady
  extract_lets +onlyGivenNames x1
  extract_lets +onlyGivenNames x2
  extract_lets +onlyGivenNames x3
  have hx3 : Only ⟨[.out, .pinned, .ev, .flashJournal, .sad, .diskJournal], [Obj.eventCount, Obj.eventLastAt, Obj.eventLastSubject, Obj.saddleState, Obj.saddleDownCount], [0x40000004, 0x40000008]⟩ s_a x3 := by
    subst x3
    refine Only.ite ?_ ?_
    · refine Only.seq (State.raise_only ..) ?_ (by decide)
      refine Only.seq (Only.upd (r := ⟨[.sad], [], []⟩) (s := s_a) (fun p => by cases p <;> first | exact .inr rfl | exact .inl (by decide))) ?_ (by decide)
      exact Only.refl _ _
    · refine Only.ite ?_ ?_
      · refine Only.seq (Only.upd (r := ⟨[.sad], [], []⟩) (s := s_a) (fun p => by cases p <;> first | exact .inr rfl | exact .inl (by decide))) ?_ (by decide)
        exact Only.refl _ _
      · exact Only.refl _ _
  clear_value x3
  refine Only.ite ?_ ?_
  · refine Only.seq (State.setSaddle_only ..) ?_ (by decide)
    exact hx3
  · exact hx3

theorem State.checkAligned_only (s_a) : Only ⟨[.out, .pinned, .ev, .flashJournal, .sad, .diskJournal], [Obj.saddleState, Obj.saddleDownCount, Obj.eventCount, Obj.eventLastAt, Obj.eventLastSubject], [0x40000004, 0x40000008]⟩ s_a (State.checkAligned s_a) := by
  unfold State.checkAligned
  split
  · exact Only.refl _ _
  · refine Only.ite ?_ ?_
    · refine Only.seq (State.setSaddle_only ..) ?_ (by decide)
      exact Only.refl _ _
    · exact Only.refl _ _

theorem State.saddleAlign_only (s_a) : Only ⟨[.out, .pinned, .ev, .flashJournal, .sad, .diskJournal], [Obj.saddleState, Obj.saddleDownCount, Obj.eventCount, Obj.eventLastAt, Obj.eventLastSubject], [0x40000004, 0x40000008]⟩ s_a (State.saddleAlign s_a) := by
  unfold State.saddleAlign
  refine Only.ite ?_ ?_
  · refine Only.seq (State.setSaddle_only ..) ?_ (by decide)
    exact Only.refl _ _
  · exact Only.refl _ _

theorem State.saddleLaneLost_only (s_a k_a) : Only ⟨[.out, .pinned, .ev, .flashJournal, .sad, .diskJournal], [Obj.saddleState, Obj.saddleDownCount, Obj.eventCount, Obj.eventLastAt, Obj.eventLastSubject], [0x40000004, 0x40000008]⟩ s_a (State.saddleLaneLost s_a k_a) := by
  unfold State.saddleLaneLost
  extract_lets +onlyGivenNames x1
  extract_lets +onlyGivenNames x2
  extract_lets +onlyGivenNames x3
  have hx3 : Only ⟨[.out, .pinned, .ev, .flashJournal, .sad, .diskJournal], [Obj.saddleState, Obj.saddleDownCount, Obj.eventCount, Obj.eventLastAt, Obj.eventLastSubject], [0x40000004, 0x40000008]⟩ s_a x3 := by
    subst x3
    refine Only.seq (State.setSl_only ..) ?_ (by decide)
    exact Only.refl _ _
  clear_value x3
  extract_lets +onlyGivenNames x4
  have hx4 : Only ⟨[.out, .pinned, .ev, .flashJournal, .sad, .diskJournal], [Obj.saddleState, Obj.saddleDownCount, Obj.eventCount, Obj.eventLastAt, Obj.eventLastSubject], [0x40000004, 0x40000008]⟩ s_a x4 := by
    subst x4
    refine Only.seq (State.saddleAlign_only ..) ?_ (by decide)
    exact hx3
  clear_value x4
  refine Only.seq (Only.upd (r := ⟨[.sad], [], []⟩) (s := x4) (fun p => by cases p <;> first | exact .inr rfl | exact .inl (by decide))) ?_ (by decide)
  exact hx4

theorem State.setTaps_only (s_a lane_a pre_a post_a) : Only ⟨[], [Obj.laneTxPreInForce, Obj.laneTxPostInForce, Obj.laneTxMain], []⟩ s_a (State.setTaps s_a lane_a pre_a post_a) := by
  unfold State.setTaps
  refine Only.seq (State.setN_only ..) ?_ (by decide)
  refine Only.seq (State.setN_only ..) ?_ (by decide)
  refine Only.seq (State.setN_only ..) ?_ (by decide)
  exact Only.refl _ _

theorem State.presetTaps_only (s_a lane_a) : Only ⟨[], [Obj.laneTxPreInForce, Obj.laneTxPostInForce, Obj.laneTxMain], []⟩ s_a (State.presetTaps s_a lane_a) := by
  unfold State.presetTaps
  refine Only.seq (State.setTaps_only ..) ?_ (by decide)
  exact Only.refl _ _

theorem State.laneModeSet_only (s_a lane_a) : Only ⟨[.out, .pinned, .ev, .flashJournal, .sdiRx, .ridge, .diskJournal], [Obj.laneState, Obj.laneTxPreInForce, Obj.laneTxPostInForce, Obj.laneTxMain, Obj.txDriverMode, Obj.rxState, Obj.rxRate, Obj.rxFormat, Obj.rxPayloadId, Obj.rxStructure, Obj.eventCount, Obj.eventLastAt, Obj.eventLastSubject, Obj.srcFeedKind, Obj.srcState, Obj.srcReservationStatus, Obj.srcFramesAbandoned, Obj.srcColourLive], [0x40000004, 0x40000008]⟩ s_a (State.laneModeSet s_a lane_a) := by
  unfold State.laneModeSet
  extract_lets +onlyGivenNames x1
  extract_lets +onlyGivenNames x2
  have hx2 : Only ⟨[.out, .pinned, .ev, .flashJournal, .sdiRx, .ridge, .diskJournal], [Obj.laneState, Obj.laneTxPreInForce, Obj.laneTxPostInForce, Obj.laneTxMain, Obj.txDriverMode, Obj.rxState, Obj.rxRate, Obj.rxFormat, Obj.rxPayloadId, Obj.rxStructure, Obj.eventCount, Obj.eventLastAt, Obj.eventLastSubject, Obj.srcFeedKind, Obj.srcState, Obj.srcReservationStatus, Obj.srcFramesAbandoned, Obj.srcColourLive], [0x40000004, 0x40000008]⟩ s_a x2 := by
    subst x2
    refine Only.seq (State.setN_only ..) ?_ (by decide)
    exact Only.refl _ _
  clear_value x2
  extract_lets +onlyGivenNames x3
  have hx3 : Only ⟨[.out, .pinned, .ev, .flashJournal, .sdiRx, .ridge, .diskJournal], [Obj.laneState, Obj.laneTxPreInForce, Obj.laneTxPostInForce, Obj.laneTxMain, Obj.txDriverMode, Obj.rxState, Obj.rxRate, Obj.rxFormat, Obj.rxPayloadId, Obj.rxStructure, Obj.eventCount, Obj.eventLastAt, Obj.eventLastSubject, Obj.srcFeedKind, Obj.srcState, Obj.srcReservationStatus, Obj.srcFramesAbandoned, Obj.srcColourLive], [0x40000004, 0x40000008]⟩ s_a x3 := by
    subst x3
    refine Only.ite ?_ ?_
    · refine Only.seq (State.setTaps_only ..) ?_ (by decide)
      exact hx2
    · refine Only.seq (State.presetTaps_only ..) ?_ (by decide)
      exact hx2
  clear_value x3
  extract_lets +onlyGivenNames x4
  have hx4 : Only ⟨[.out, .pinned, .ev, .flashJournal, .sdiRx, .ridge, .diskJournal], [Obj.laneState, Obj.laneTxPreInForce, Obj.laneTxPostInForce, Obj.laneTxMain, Obj.txDriverMode, Obj.rxState, Obj.rxRate, Obj.rxFormat, Obj.rxPayloadId, Obj.rxStructure, Obj.eventCount, Obj.eventLastAt, Obj.eventLastSubject, Obj.srcFeedKind, Obj.srcState, Obj.srcReservationStatus, Obj.srcFramesAbandoned, Obj.srcColourLive], [0x40000004, 0x40000008]⟩ s_a x4 := by
    subst x4
    refine Only.ite ?_ ?_
    · exact hx3
    · refine Only.seq (State.setN_only ..) ?_ (by decide)
      exact hx3
  clear_value x4
  refine Only.seq (State.refreshLane_only ..) ?_ (by decide)
  exact hx4

theorem State.formSaddle_only (s_a base_a config_a) : Only ⟨[.sad], [Obj.laneMode, Obj.laneState, Obj.laneTxPreInForce, Obj.laneTxPostInForce, Obj.laneTxMain, Obj.saddleRate], []⟩ s_a (State.formSaddle s_a base_a config_a) := by
  unfold State.formSaddle
  extract_lets +onlyGivenNames x1
  have hx1 : Only ⟨[.sad], [Obj.laneMode, Obj.laneState, Obj.laneTxPreInForce, Obj.laneTxPostInForce, Obj.laneTxMain, Obj.saddleRate], []⟩ s_a x1 := by
    subst x1
    refine Only.seq (Only.upd (r := ⟨[.sad], [], []⟩) (s := s_a) (fun p => by cases p <;> first | exact .inr rfl | exact .inl (by decide))) ?_ (by decide)
    exact Only.refl _ _
  clear_value x1
  extract_lets +onlyGivenNames x2
  have hx2 : Only ⟨[.sad], [Obj.laneMode, Obj.laneState, Obj.laneTxPreInForce, Obj.laneTxPostInForce, Obj.laneTxMain, Obj.saddleRate], []⟩ s_a x2 := by
    subst x2
    refine Only.foldl (fun u3 x4 => ?_) ?_
    · refine Only.seq (State.setN_only ..) ?_ (by decide)
      refine Only.seq (State.setN_only ..) ?_ (by decide)
      exact Only.refl _ _
    · exact hx1
  clear_value x2
  extract_lets +onlyGivenNames x5
  have hx5 : Only ⟨[.sad], [Obj.laneMode, Obj.laneState, Obj.laneTxPreInForce, Obj.laneTxPostInForce, Obj.laneTxMain, Obj.saddleRate], []⟩ s_a x5 := by
    subst x5
    refine Only.foldl (fun u6 x7 => ?_) ?_
    · refine Only.seq (State.presetTaps_only ..) ?_ (by decide)
      exact Only.refl _ _
    · exact hx2
  clear_value x5
  refine Only.seq (State.setN_only ..) ?_ (by decide)
  exact hx5

theorem execLaneCdrLocked_only (dt_a lane_a s_a) : OnlyR ⟨[.out, .now, .tc], [Obj.laneState], []⟩ s_a (execLaneCdrLocked dt_a lane_a s_a) := by
  unfold execLaneCdrLocked
  refine actIf_only (hk3 := fun u1 => ?_) (l := (by decide)) ..
  refine Only.seq (State.setN_only ..) ?_ (by decide)
  exact Only.refl _ _

theorem execLaneClockLockLost_only (dt_a lane_a s_a) : OnlyR ⟨[.out, .now, .tc, .pinned, .ev, .flashJournal, .sad, .diskJournal], [Obj.laneState, Obj.saddleState, Obj.saddleDownCount, Obj.eventCount, Obj.eventLastAt, Obj.eventLastSubject], [0x40000004, 0x40000008]⟩ s_a (execLaneClockLockLost dt_a lane_a s_a) := by
  unfold execLaneClockLockLost
  refine actIf_only (hk3 := fun u1 => ?_) (l := (by decide)) ..
  extract_lets +onlyGivenNames x2
  have hx2 : Only ⟨[.out, .now, .tc, .pinned, .ev, .flashJournal, .sad, .diskJournal], [Obj.laneState, Obj.saddleState, Obj.saddleDownCount, Obj.eventCount, Obj.eventLastAt, Obj.eventLastSubject], [0x40000004, 0x40000008]⟩ u1 x2 := by
    subst x2
    refine Only.seq (State.setN_only ..) ?_ (by decide)
    exact Only.refl _ _
  clear_value x2
  split
  · refine Only.seq (State.saddleLaneLost_only ..) ?_ (by decide)
    exact hx2
  · exact hx2

theorem execLaneAligned_only (dt_a lane_a s_a) : OnlyR ⟨[.out, .now, .tc, .pinned, .ev, .flashJournal, .sad, .diskJournal], [Obj.laneState, Obj.eventCount, Obj.eventLastAt, Obj.eventLastSubject, Obj.saddleState, Obj.saddleDownCount], [0x40000004, 0x40000008]⟩ s_a (execLaneAligned dt_a lane_a s_a) := by
  unfold execLaneAligned
  refine actIf_only (hk3 := fun u1 => ?_) (l := (by decide)) ..
  extract_lets +onlyGivenNames x2
  have hx2 : Only ⟨[.out, .now, .tc, .pinned, .ev, .flashJournal, .sad, .diskJournal], [Obj.laneState, Obj.eventCount, Obj.eventLastAt, Obj.eventLastSubject, Obj.saddleState, Obj.saddleDownCount], [0x40000004, 0x40000008]⟩ u1 x2 := by
    subst x2
    refine Only.seq (State.raise_only ..) ?_ (by decide)
    refine Only.seq (State.setN_only ..) ?_ (by decide)
    exact Only.refl _ _
  clear_value x2
  split
  · refine Only.seq (State.checkAligned_only ..) ?_ (by decide)
    refine Only.seq (State.setSl_only ..) ?_ (by decide)
    exact hx2
  · exact hx2

theorem execLaneAlignLost_only (dt_a lane_a invalid_a s_a) : OnlyR ⟨[.out, .now, .tc, .pinned, .ev, .flashJournal, .sad, .diskJournal], [Obj.laneState, Obj.laneHdrErrors, Obj.eventCount, Obj.eventLastAt, Obj.eventLastSubject, Obj.saddleState, Obj.saddleDownCount], [0x40000004, 0x40000008]⟩ s_a (execLaneAlignLost dt_a lane_a invalid_a s_a) := by
  unfold execLaneAlignLost
  refine actIf_only (hk3 := fun u1 => ?_) (l := (by decide)) ..
  extract_lets +onlyGivenNames x2
  have hx2 : Only ⟨[.out, .now, .tc, .pinned, .ev, .flashJournal, .sad, .diskJournal], [Obj.laneState, Obj.laneHdrErrors, Obj.eventCount, Obj.eventLastAt, Obj.eventLastSubject, Obj.saddleState, Obj.saddleDownCount], [0x40000004, 0x40000008]⟩ u1 x2 := by
    subst x2
    refine Only.seq (State.raise_only ..) ?_ (by decide)
    refine Only.seq (State.bump_only ..) ?_ (by decide)
    refine Only.seq (State.setN_only ..) ?_ (by decide)
    exact Only.refl _ _
  clear_value x2
  split
  · refine Only.seq (State.saddleLaneLost_only ..) ?_ (by decide)
    exact hx2
  · exact hx2

theorem State.pllLocked_only (s_a o_a p_a) : Only ⟨[.out, .pinned, .ev, .flashJournal, .sad, .diskJournal], [Obj.octetPllState, Obj.saddleState, Obj.saddleDownCount, Obj.eventCount, Obj.eventLastAt, Obj.eventLastSubject], [0x40000004, 0x40000008]⟩ s_a (State.pllLocked s_a o_a p_a) := by
  unfold State.pllLocked
  extract_lets +onlyGivenNames x1
  have hx1 : Only ⟨[.out, .pinned, .ev, .flashJournal, .sad, .diskJournal], [Obj.octetPllState, Obj.saddleState, Obj.saddleDownCount, Obj.eventCount, Obj.eventLastAt, Obj.eventLastSubject], [0x40000004, 0x40000008]⟩ s_a x1 := by
    subst x1
    refine Only.seq (State.setBitN_only ..) ?_ (by decide)
    exact Only.refl _ _
  clear_value x1
  refine Only.ite ?_ ?_
  · extract_lets +onlyGivenNames x2
    have hx2 : Only ⟨[.out, .pinned, .ev, .flashJournal, .sad, .diskJournal], [Obj.octetPllState, Obj.saddleState, Obj.saddleDownCount, Obj.eventCount, Obj.eventLastAt, Obj.eventLastSubject], [0x40000004, 0x40000008]⟩ s_a x2 := by
      subst x2
      refine Only.seq (State.setSaddle_only ..) ?_ (by decide)
      exact hx1
    clear_value x2
    refine Only.foldl (fun u3 x4 => ?_) ?_
    · refine Only.seq (State.setSl_only ..) ?_ (by decide)
      exact Only.refl _ _
    · exact hx2
  · exact hx1

theorem execEthPllLock_only (dt_a octet_a s_a) : OnlyR ⟨[.out, .now, .tc, .pinned, .ev, .flashJournal, .sad, .diskJournal], [Obj.octetPllState, Obj.saddleState, Obj.saddleDownCount, Obj.eventCount, Obj.eventLastAt, Obj.eventLastSubject], [0x40000004, 0x40000008]⟩ s_a (execEthPllLock dt_a octet_a s_a) := by
  unfold execEthPllLock
  refine actIf_only (hk3 := fun u1 => ?_) (l := (by decide)) ..
  refine Only.seq (State.pllLocked_only ..) ?_ (by decide)
  exact Only.refl _ _

theorem execOctetPllLock_only (dt_a octet_a pll_a s_a) : OnlyR ⟨[.out, .now, .tc, .pinned, .ev, .flashJournal, .sad, .diskJournal], [Obj.octetPllState, Obj.saddleState, Obj.saddleDownCount, Obj.eventCount, Obj.eventLastAt, Obj.eventLastSubject], [0x40000004, 0x40000008]⟩ s_a (execOctetPllLock dt_a octet_a pll_a s_a) := by
  unfold execOctetPllLock
  refine actIf_only (hk3 := fun u1 => ?_) (l := (by decide)) ..
  refine Only.seq (State.pllLocked_only ..) ?_ (by decide)
  exact Only.refl _ _

theorem State.idleSdiLanes_only (s_a o_a p_a) : Only ⟨[.out], [Obj.txState, Obj.txDriverMode], []⟩ s_a (State.idleSdiLanes s_a o_a p_a) := by
  unfold State.idleSdiLanes
  refine Only.foldl (fun u1 x2 => ?_) ?_
  · extract_lets +onlyGivenNames x3
    subst x3
    refine Only.ite ?_ ?_
    · refine Only.seq (State.setN_only ..) ?_ (by decide)
      refine Only.ite ?_ ?_
      · refine Only.seq (State.txIdleNow_only ..) ?_ (by decide)
        exact Only.refl _ _
      · exact Only.refl _ _
    · exact Only.refl _ _
  · exact Only.refl _ _

theorem execOctetPllUnlock_only (dt_a octet_a pll_a s_a) : OnlyR ⟨[.out, .now, .tc, .pinned, .ev, .flashJournal, .media, .sad, .diskJournal], [Obj.octetPllState, Obj.eventCount, Obj.eventLastAt, Obj.eventLastSubject, Obj.portLinkStateB, Obj.portLinkState, Obj.txFlowState, Obj.portTxFramesB, Obj.portTxFrames, Obj.portTxBytesB, Obj.portTxBytes, Obj.saddleState, Obj.saddleDownCount, Obj.txState, Obj.txDriverMode], [0x40000004, 0x40000008]⟩ s_a (execOctetPllUnlock dt_a octet_a pll_a s_a) := by
  unfold execOctetPllUnlock
  refine actIf_only (hk3 := fun u1 => ?_) (l := (by decide)) ..
  extract_lets +onlyGivenNames x2
  have hx2 : Only ⟨[.out, .now, .tc, .pinned, .ev, .flashJournal, .media, .sad, .diskJournal], [Obj.octetPllState, Obj.eventCount, Obj.eventLastAt, Obj.eventLastSubject, Obj.portLinkStateB, Obj.portLinkState, Obj.txFlowState, Obj.portTxFramesB, Obj.portTxFrames, Obj.portTxBytesB, Obj.portTxBytes, Obj.saddleState, Obj.saddleDownCount, Obj.txState, Obj.txDriverMode], [0x40000004, 0x40000008]⟩ u1 x2 := by
    subst x2
    refine Only.seq (State.raise_only ..) ?_ (by decide)
    refine Only.seq (State.setBitN_only ..) ?_ (by decide)
    exact Only.refl _ _
  clear_value x2
  split
  · extract_lets +onlyGivenNames x3
    have hx3 : Only ⟨[.out, .now, .tc, .pinned, .ev, .flashJournal, .media, .sad, .diskJournal], [Obj.octetPllState, Obj.eventCount, Obj.eventLastAt, Obj.eventLastSubject, Obj.portLinkStateB, Obj.portLinkState, Obj.txFlowState, Obj.portTxFramesB, Obj.portTxFrames, Obj.portTxBytesB, Obj.portTxBytes, Obj.saddleState, Obj.saddleDownCount, Obj.txState, Obj.txDriverMode], [0x40000004, 0x40000008]⟩ u1 x3 := by
      subst x3
      refine Only.foldl (fun u4 x5 => ?_) ?_
      · refine Only.ite ?_ ?_
        · refine Only.seq (State.refreshTxPort_only ..) ?_ (by decide)
          refine Only.seq (State.raise_only ..) ?_ (by decide)
          refine Only.seq (State.setN_only ..) ?_ (by unfold portIdx; split <;> first | decide | simp [Reach.le])
          exact Only.refl _ _
        · exact Only.refl _ _
      · exact hx2
    clear_value x3
    refine Only.ite ?_ ?_
    · refine Only.foldl (fun u6 x7 => ?_) ?_
      · refine Only.seq (State.saddleLaneLost_only ..) ?_ (by decide)
        exact Only.refl _ _
      · refine Only.seq (State.setSaddle_only ..) ?_ (by decide)
        exact hx3
    · exact hx3
  · refine Only.seq (State.idleSdiLanes_only ..) ?_ (by decide)
    exact hx2

theorem execSpurRefLost_only (dt_a input_a s_a) : OnlyR ⟨[.out, .now, .tc, .pinned, .ev, .flashJournal, .diskJournal], [Obj.octetPllState, Obj.spurRefState, Obj.eventCount, Obj.eventLastAt, Obj.eventLastSubject, Obj.healthReasons, Obj.healthState], [0x40000004, 0x40000008]⟩ s_a (execSpurRefLost dt_a input_a s_a) := by
  unfold execSpurRefLost
  refine actIf_only (hk3 := fun u1 => ?_) (l := (by decide)) ..
  refine Only.foldl (fun u2 x3 => ?_) ?_
  · refine Only.seq (State.setBitN_only ..) ?_ (by decide)
    exact Only.refl _ _
  · refine Only.seq (State.setReason_only ..) ?_ (by decide)
    refine Only.seq (State.raise_only ..) ?_ (by decide)
    refine Only.seq (State.setN_only ..) ?_ (by decide)
    exact Only.refl _ _

theorem execSpurRefRestored_only (dt_a input_a s_a) : OnlyR ⟨[.out, .now, .tc, .pinned, .ev, .flashJournal, .diskJournal], [Obj.octetPllState, Obj.spurRefState, Obj.healthReasons, Obj.healthState, Obj.eventCount, Obj.eventLastAt, Obj.eventLastSubject], [0x40000004, 0x40000008]⟩ s_a (execSpurRefRestored dt_a input_a s_a) := by
  unfold execSpurRefRestored
  refine actIf_only (hk3 := fun u1 => ?_) (l := (by decide)) ..
  extract_lets +onlyGivenNames x2
  extract_lets +onlyGivenNames x3
  have hx3 : Only ⟨[.out, .now, .tc, .pinned, .ev, .flashJournal, .diskJournal], [Obj.octetPllState, Obj.spurRefState, Obj.healthReasons, Obj.healthState, Obj.eventCount, Obj.eventLastAt, Obj.eventLastSubject], [0x40000004, 0x40000008]⟩ u1 x3 := by
    subst x3
    refine Only.foldl (fun u4 x5 => ?_) ?_
    · refine Only.seq (State.setBitN_only ..) ?_ (by decide)
      exact Only.refl _ _
    · refine Only.seq (State.setN_only ..) ?_ (by decide)
      exact Only.refl _ _
  clear_value x3
  extract_lets +onlyGivenNames x6
  have hx6 : Only ⟨[.out, .now, .tc, .pinned, .ev, .flashJournal, .diskJournal], [Obj.octetPllState, Obj.spurRefState, Obj.healthReasons, Obj.healthState, Obj.eventCount, Obj.eventLastAt, Obj.eventLastSubject], [0x40000004, 0x40000008]⟩ u1 x6 := by
    subst x6
    refine Only.seq (State.setReason_only ..) ?_ (by decide)
    exact hx3
  clear_value x6
  refine Only.ite ?_ ?_
  · refine Only.seq (State.raise_only ..) ?_ (by decide)
    exact hx6
  · exact hx6

theorem State.prbsSet_only (s_a lane_a) : Only ⟨[], [Obj.lanePrbsState, Obj.laneState], []⟩ s_a (State.prbsSet s_a lane_a) := by
  unfold State.prbsSet
  extract_lets +onlyGivenNames x1
  extract_lets +onlyGivenNames x2
  extract_lets +onlyGivenNames x3
  have hx3 : Only ⟨[], [Obj.lanePrbsState, Obj.laneState], []⟩ s_a x3 := by
    subst x3
    refine Only.seq (State.setN_only ..) ?_ (by decide)
    exact Only.refl _ _
  clear_value x3
  refine Only.ite ?_ ?_
  · refine Only.seq (State.setN_only ..) ?_ (by decide)
    exact hx3
  · refine Only.ite ?_ ?_
    · refine Only.seq (State.setN_only ..) ?_ (by decide)
      exact hx3
    · exact hx3

theorem State.prbsGenerator_only (s_a lane_a) : Only ⟨[.out, .pinned, .ev, .flashJournal, .sad, .diskJournal], [Obj.saddleState, Obj.saddleDownCount, Obj.eventCount, Obj.eventLastAt, Obj.eventLastSubject], [0x40000004, 0x40000008]⟩ s_a (State.prbsGenerator s_a lane_a) := by
  unfold State.prbsGenerator
  refine Only.ite ?_ ?_
  · refine Only.seq (State.saddleAlign_only ..) ?_ (by decide)
    exact Only.refl _ _
  · exact Only.refl _ _

theorem execLanePrbsLocked_only (dt_a lane_a inverted_a s_a) : OnlyR ⟨[.out, .now, .tc, .pinned, .ev, .flashJournal, .diskJournal], [Obj.lanePrbsState, Obj.eventCount, Obj.eventLastAt, Obj.eventLastSubject], [0x40000004, 0x40000008]⟩ s_a (execLanePrbsLocked dt_a lane_a inverted_a s_a) := by
  unfold execLanePrbsLocked
  refine actIf_only (hk3 := fun u1 => ?_) (l := (by decide)) ..
  refine Only.seq (State.raise_only ..) ?_ (by decide)
  refine Only.seq (State.setN_only ..) ?_ (by decide)
  exact Only.refl _ _

theorem execLanePrbsLost_only (dt_a lane_a bits_a errors_a s_a) : OnlyR ⟨[.out, .now, .tc, .pinned, .ev, .flashJournal, .diskJournal], [Obj.lanePrbsBits, Obj.eventCount, Obj.eventLastAt, Obj.eventLastSubject, Obj.lanePrbsErrors, Obj.lanePrbsState, Obj.lanePrbsLosses], [0x40000004, 0x40000008]⟩ s_a (execLanePrbsLost dt_a lane_a bits_a errors_a s_a) := by
  unfold execLanePrbsLost
  refine actIf_only (hk3 := fun u1 => ?_) (l := (by decide)) ..
  extract_lets +onlyGivenNames x2
  have hx2 : Only ⟨[.out, .now, .tc, .pinned, .ev, .flashJournal, .diskJournal], [Obj.lanePrbsBits, Obj.eventCount, Obj.eventLastAt, Obj.eventLastSubject, Obj.lanePrbsErrors, Obj.lanePrbsState, Obj.lanePrbsLosses], [0x40000004, 0x40000008]⟩ u1 x2 := by
    subst x2
    refine Only.seq (State.bump_only ..) ?_ (by decide)
    refine Only.seq (State.bump_only ..) ?_ (by decide)
    exact Only.refl _ _
  clear_value x2
  refine Only.ite ?_ ?_
  · refine Only.seq (State.raise_only ..) ?_ (by decide)
    refine Only.seq (State.bump_only ..) ?_ (by decide)
    refine Only.seq (State.setN_only ..) ?_ (by decide)
    exact hx2
  · exact hx2

theorem State.hearLine_only (s_a k_a line_a) : Only ⟨[.out, .pinned, .ev, .flashJournal, .sad, .diskJournal], [Obj.laneStuffErrors, Obj.eventCount, Obj.eventLastAt, Obj.eventLastSubject, Obj.laneHdrErrors], [0x40000004, 0x40000008]⟩ s_a (State.hearLine s_a k_a line_a) := by
  unfold State.hearLine
  extract_lets +onlyGivenNames x1
  extract_lets +onlyGivenNames x2
  refine Only.seq (State.bump_only ..) ?_ (by decide)
  refine Only.seq (State.bump_only ..) ?_ (by decide)
  refine Only.seq (State.setSl_only ..) ?_ (by decide)
  exact Only.refl _ _

theorem State.badWord_only (s_a k_a) : Only ⟨[.out, .pinned, .ev, .flashJournal, .diskJournal], [Obj.laneHdrErrors, Obj.eventCount, Obj.eventLastAt, Obj.eventLastSubject], [0x40000004, 0x40000008]⟩ s_a (State.badWord s_a k_a) := by
  unfold State.badWord
  split
  · refine Only.seq (State.bump_only ..) ?_ (by decide)
    exact Only.refl _ _
  · exact Only.refl _ _

theorem State.deskew_only (s : State) : Only ⟨[.out, .pinned, .ev, .flashJournal, .sad, .diskJournal], [Obj.eventCount, Obj.eventLastAt, Obj.eventLastSubject, Obj.saddleState, Obj.saddleDownCount, Obj.saddleSkew, Obj.saddleLaneOrder], [0x40000004, 0x40000008]⟩ s s.deskew := by
  unfold State.deskew
  refine Only.ite (Only.refl _ s) ?_
  extract_lets +onlyGivenNames ms
  clear_value ms
  split
  · exact Only.refl _ s
  · refine Only.ite (Only.refl _ s) ?_
    extract_lets +onlyGivenNames first last order
    clear_value first last order
    refine Only.ite (Only.ite (Only.refl _ s) ?_) ?_
    · exact (State.raise_only ..).seq (Only.upd (r := ⟨[.out, .pinned, .ev, .flashJournal, .sad, .diskJournal], [Obj.eventCount, Obj.eventLastAt, Obj.eventLastSubject, Obj.saddleState, Obj.saddleDownCount, Obj.saddleSkew, Obj.saddleLaneOrder], [0x40000004, 0x40000008]⟩) (fun p => by cases p <;> first | exact .inr rfl | exact .inl (by decide)))
    · exact (State.checkReady_only ..).seq ((State.setSaddle_only ..).seq ((State.setN_only ..).seq ((State.setN_only ..).up)))

theorem State.takeMarker_only (s_a lane_a p_a row_a data_a) : Only ⟨[.out, .pinned, .ev, .flashJournal, .sad, .diskJournal], [Obj.laneRxPolarityFound, Obj.saddleState, Obj.saddleDownCount, Obj.eventCount, Obj.eventLastAt, Obj.eventLastSubject, Obj.saddleLaneOrder, Obj.saddleSkew], [0x40000004, 0x40000008]⟩ s_a (State.takeMarker s_a lane_a p_a row_a data_a) := by
  unfold State.takeMarker
  extract_lets +onlyGivenNames x1
  extract_lets +onlyGivenNames x2
  extract_lets +onlyGivenNames x3
  subst x3
  extract_lets +onlyGivenNames x4
  extract_lets +onlyGivenNames x5
  extract_lets +onlyGivenNames x6
  extract_lets +onlyGivenNames x7
  have hx7 : Only ⟨[.out, .pinned, .ev, .flashJournal, .sad, .diskJournal], [Obj.laneRxPolarityFound, Obj.saddleState, Obj.saddleDownCount, Obj.eventCount, Obj.eventLastAt, Obj.eventLastSubject, Obj.saddleLaneOrder, Obj.saddleSkew], [0x40000004, 0x40000008]⟩ s_a x7 := by
    subst x7
    refine Only.seq (State.setSl_only ..) ?_ (by decide)
    exact Only.refl _ _
  clear_value x7
  extract_lets +onlyGivenNames x8
  have hx8 : Only ⟨[.out, .pinned, .ev, .flashJournal, .sad, .diskJournal], [Obj.laneRxPolarityFound, Obj.saddleState, Obj.saddleDownCount, Obj.eventCount, Obj.eventLastAt, Obj.eventLastSubject, Obj.saddleLaneOrder, Obj.saddleSkew], [0x40000004, 0x40000008]⟩ s_a x8 := by
    subst x8
    refine Only.ite ?_ ?_
    · refine Only.seq (State.setN_only ..) ?_ (by decide)
      exact hx7
    · exact hx7
  clear_value x8
  refine Only.seq (State.deskew_only ..) ?_ (by decide)
  refine Only.seq (State.checkAligned_only ..) ?_ (by decide)
  refine Only.ite ?_ ?_
  · refine Only.seq (State.saddleAlign_only ..) ?_ (by decide)
    exact hx8
  · exact hx8

theorem execSaddleMarker_only (dt_a lane_a before_a word_a row_a s_a) : OnlyR ⟨[.out, .now, .tc, .pinned, .ev, .flashJournal, .sad, .diskJournal], [Obj.laneStuffErrors, Obj.eventCount, Obj.eventLastAt, Obj.eventLastSubject, Obj.laneHdrErrors, Obj.laneRxPolarityFound, Obj.saddleState, Obj.saddleDownCount, Obj.saddleLaneOrder, Obj.saddleSkew], [0x40000004, 0x40000008]⟩ s_a (execSaddleMarker dt_a lane_a before_a word_a row_a s_a) := by
  unfold execSaddleMarker
  refine actIf_only (hk3 := fun u1 => ?_) (l := (by decide)) ..
  extract_lets +onlyGivenNames x2
  have hx2 : Only ⟨[.out, .now, .tc, .pinned, .ev, .flashJournal, .sad, .diskJournal], [Obj.laneStuffErrors, Obj.eventCount, Obj.eventLastAt, Obj.eventLastSubject, Obj.laneHdrErrors, Obj.laneRxPolarityFound, Obj.saddleState, Obj.saddleDownCount, Obj.saddleLaneOrder, Obj.saddleSkew], [0x40000004, 0x40000008]⟩ u1 x2 := by
    subst x2
    refine Only.seq (State.hearLine_only ..) ?_ (by decide)
    exact Only.refl _ _
  clear_value x2
  split
  · exact hx2
  · extract_lets +onlyGivenNames x3
    subst x3
    refine Only.ite ?_ ?_
    · exact hx2
    · refine Only.ite ?_ ?_
      · refine Only.seq (State.takeMarker_only ..) ?_ (by decide)
        exact hx2
      · refine Only.ite ?_ ?_
        · refine Only.seq (State.badWord_only ..) ?_ (by decide)
          exact hx2
        · exact hx2

theorem execMarkerMissing_only (dt_a lane_a s_a) : OnlyR ⟨[.out, .now, .tc, .pinned, .ev, .flashJournal, .sad, .diskJournal], [Obj.saddleState, Obj.saddleDownCount, Obj.eventCount, Obj.eventLastAt, Obj.eventLastSubject], [0x40000004, 0x40000008]⟩ s_a (execMarkerMissing dt_a lane_a s_a) := by
  unfold execMarkerMissing
  refine actIf_only (hk3 := fun u1 => ?_) (l := (by decide)) ..
  extract_lets +onlyGivenNames x2
  refine Only.seq (State.saddleAlign_only ..) ?_ (by decide)
  refine Only.seq (State.setSl_only ..) ?_ (by decide)
  exact Only.refl _ _

theorem State.takeSeed_only (s_a lane_a seed_a) : Only ⟨[.out, .pinned, .ev, .flashJournal, .sad, .diskJournal], [Obj.saddleSeedMismatch, Obj.eventCount, Obj.eventLastAt, Obj.eventLastSubject, Obj.saddleState, Obj.saddleDownCount], [0x40000004, 0x40000008]⟩ s_a (State.takeSeed s_a lane_a seed_a) := by
  unfold State.takeSeed
  extract_lets +onlyGivenNames x1
  extract_lets +onlyGivenNames x2
  extract_lets +onlyGivenNames x3
  have hx3 : Only ⟨[.out, .pinned, .ev, .flashJournal, .sad, .diskJournal], [Obj.saddleSeedMismatch, Obj.eventCount, Obj.eventLastAt, Obj.eventLastSubject, Obj.saddleState, Obj.saddleDownCount], [0x40000004, 0x40000008]⟩ s_a x3 := by
    subst x3
    refine Only.seq (State.setSl_only ..) ?_ (by decide)
    exact Only.refl _ _
  clear_value x3
  extract_lets +onlyGivenNames x4
  have hx4 : Only ⟨[.out, .pinned, .ev, .flashJournal, .sad, .diskJournal], [Obj.saddleSeedMismatch, Obj.eventCount, Obj.eventLastAt, Obj.eventLastSubject, Obj.saddleState, Obj.saddleDownCount], [0x40000004, 0x40000008]⟩ s_a x4 := by
    subst x4
    refine Only.ite ?_ ?_
    · refine Only.seq (State.raiseLimited_only ..) ?_ (by decide)
      refine Only.seq (State.bump_only ..) ?_ (by decide)
      exact hx3
    · exact hx3
  clear_value x4
  refine Only.seq (State.checkAligned_only ..) ?_ (by decide)
  exact hx4

theorem execSaddleSeed_only (dt_a lane_a before_a word_a s_a) : OnlyR ⟨[.out, .now, .tc, .pinned, .ev, .flashJournal, .sad, .diskJournal], [Obj.laneStuffErrors, Obj.eventCount, Obj.eventLastAt, Obj.eventLastSubject, Obj.laneHdrErrors, Obj.saddleSeedMismatch, Obj.saddleState, Obj.saddleDownCount], [0x40000004, 0x40000008]⟩ s_a (execSaddleSeed dt_a lane_a before_a word_a s_a) := by
  unfold execSaddleSeed
  refine actIf_only (hk3 := fun u1 => ?_) (l := (by decide)) ..
  extract_lets +onlyGivenNames x2
  have hx2 : Only ⟨[.out, .now, .tc, .pinned, .ev, .flashJournal, .sad, .diskJournal], [Obj.laneStuffErrors, Obj.eventCount, Obj.eventLastAt, Obj.eventLastSubject, Obj.laneHdrErrors, Obj.saddleSeedMismatch, Obj.saddleState, Obj.saddleDownCount], [0x40000004, 0x40000008]⟩ u1 x2 := by
    subst x2
    refine Only.seq (State.hearLine_only ..) ?_ (by decide)
    exact Only.refl _ _
  clear_value x2
  split
  · exact hx2
  · refine Only.ite ?_ ?_
    · exact hx2
    · refine Only.ite ?_ ?_
      · refine Only.seq (State.badWord_only ..) ?_ (by decide)
        exact hx2
      · refine Only.seq (State.takeSeed_only ..) ?_ (by decide)
        exact hx2

theorem State.actRequest_only (s_a k_a pre_a post_a seq_a) : Only ⟨[.out, .sad], [Obj.laneTxPreInForce, Obj.laneTxPostInForce, Obj.laneTxMain], []⟩ s_a (State.actRequest s_a k_a pre_a post_a seq_a) := by
  unfold State.actRequest
  extract_lets +onlyGivenNames x1
  extract_lets +onlyGivenNames x2
  refine Only.ite ?_ ?_
  · exact Only.refl _ _
  · extract_lets +onlyGivenNames x3
    extract_lets +onlyGivenNames x4
    refine Only.ite ?_ ?_
    · refine Only.seq (State.sendTrain_only ..) ?_ (by decide)
      refine Only.seq (State.setSl_only ..) ?_ (by decide)
      refine Only.seq (State.presetTaps_only ..) ?_ (by decide)
      exact Only.refl _ _
    · extract_lets +onlyGivenNames x5
      extract_lets +onlyGivenNames x6
      refine Only.seq (State.sendTrain_only ..) ?_ (by decide)
      refine Only.seq (State.setSl_only ..) ?_ (by decide)
      refine Only.seq (State.setTaps_only ..) ?_ (by decide)
      exact Only.refl _ _

theorem State.takeTrain_only (s_a lane_a payload_a) : Only ⟨[.out, .pinned, .ev, .flashJournal, .sad, .diskJournal], [Obj.laneTxPreInForce, Obj.laneTxPostInForce, Obj.laneTxMain, Obj.saddleState, Obj.saddleDownCount, Obj.eventCount, Obj.eventLastAt, Obj.eventLastSubject], [0x40000004, 0x40000008]⟩ s_a (State.takeTrain s_a lane_a payload_a) := by
  unfold State.takeTrain
  extract_lets +onlyGivenNames x1
  extract_lets +onlyGivenNames x2
  have hx2 : Only ⟨[.out, .pinned, .ev, .flashJournal, .sad, .diskJournal], [Obj.laneTxPreInForce, Obj.laneTxPostInForce, Obj.laneTxMain, Obj.saddleState, Obj.saddleDownCount, Obj.eventCount, Obj.eventLastAt, Obj.eventLastSubject], [0x40000004, 0x40000008]⟩ s_a x2 := by
    subst x2
    refine Only.seq (State.actRequest_only ..) ?_ (by decide)
    exact Only.refl _ _
  clear_value x2
  extract_lets +onlyGivenNames x3
  extract_lets +onlyGivenNames x4
  extract_lets +onlyGivenNames x5
  extract_lets +onlyGivenNames x6
  have hx6 : Only ⟨[.out, .pinned, .ev, .flashJournal, .sad, .diskJournal], [Obj.laneTxPreInForce, Obj.laneTxPostInForce, Obj.laneTxMain, Obj.saddleState, Obj.saddleDownCount, Obj.eventCount, Obj.eventLastAt, Obj.eventLastSubject], [0x40000004, 0x40000008]⟩ s_a x6 := by
    subst x6
    refine Only.seq (State.setSl_only ..) ?_ (by decide)
    exact hx2
  clear_value x6
  extract_lets +onlyGivenNames x7
  extract_lets +onlyGivenNames x8
  have hx8 : Only ⟨[.out, .pinned, .ev, .flashJournal, .sad, .diskJournal], [Obj.laneTxPreInForce, Obj.laneTxPostInForce, Obj.laneTxMain, Obj.saddleState, Obj.saddleDownCount, Obj.eventCount, Obj.eventLastAt, Obj.eventLastSubject], [0x40000004, 0x40000008]⟩ s_a x8 := by
    subst x8
    refine Only.ite ?_ ?_
    · refine Only.seq (State.setSl_only ..) ?_ (by decide)
      exact hx6
    · exact hx6
  clear_value x8
  refine Only.ite ?_ ?_
  · refine Only.seq (State.setSaddle_only ..) ?_ (by decide)
    refine Only.seq (State.setSl_only ..) ?_ (by decide)
    exact hx8
  · refine Only.seq (State.checkReady_only ..) ?_ (by decide)
    exact hx8

theorem execSaddleTrainWord_only (dt_a lane_a line_a s_a) : OnlyR ⟨[.out, .now, .tc, .pinned, .ev, .flashJournal, .sad, .diskJournal], [Obj.laneStuffErrors, Obj.eventCount, Obj.eventLastAt, Obj.eventLastSubject, Obj.laneHdrErrors, Obj.laneTxPreInForce, Obj.laneTxPostInForce, Obj.laneTxMain, Obj.saddleState, Obj.saddleDownCount], [0x40000004, 0x40000008]⟩ s_a (execSaddleTrainWord dt_a lane_a line_a s_a) := by
  unfold execSaddleTrainWord
  refine actIf_only (hk3 := fun u1 => ?_) (l := (by decide)) ..
  extract_lets +onlyGivenNames x2
  have hx2 : Only ⟨[.out, .now, .tc, .pinned, .ev, .flashJournal, .sad, .diskJournal], [Obj.laneStuffErrors, Obj.eventCount, Obj.eventLastAt, Obj.eventLastSubject, Obj.laneHdrErrors, Obj.laneTxPreInForce, Obj.laneTxPostInForce, Obj.laneTxMain, Obj.saddleState, Obj.saddleDownCount], [0x40000004, 0x40000008]⟩ u1 x2 := by
    subst x2
    refine Only.seq (State.hearLine_only ..) ?_ (by decide)
    exact Only.refl _ _
  clear_value x2
  split
  · exact hx2
  · refine Only.ite ?_ ?_
    · exact hx2
    · refine Only.ite ?_ ?_
      · refine Only.seq (State.badWord_only ..) ?_ (by decide)
        exact hx2
      · refine Only.seq (State.takeTrain_only ..) ?_ (by decide)
        exact hx2

theorem State.requestTap_only (s_a r_a inc_a step_a) : Only ⟨[.out, .sad], [], []⟩ s_a (State.requestTap s_a r_a inc_a step_a) := by
  unfold State.requestTap
  extract_lets +onlyGivenNames x1
  extract_lets +onlyGivenNames x2
  subst x2
  refine Only.seq (State.sendTrain_only ..) ?_ (by decide)
  refine Only.seq (State.setSl_only ..) ?_ (by decide)
  exact Only.refl _ _

theorem State.laneDone_only (s_a r_a) : Only ⟨[.out, .pinned, .ev, .flashJournal, .sad, .diskJournal], [Obj.eventCount, Obj.eventLastAt, Obj.eventLastSubject, Obj.saddleState, Obj.saddleDownCount], [0x40000004, 0x40000008]⟩ s_a (State.laneDone s_a r_a) := by
  unfold State.laneDone
  refine Only.seq (State.checkReady_only ..) ?_ (by decide)
  refine Only.seq (State.sendTrain_only ..) ?_ (by decide)
  refine Only.seq (State.setSl_only ..) ?_ (by decide)
  exact Only.refl _ _

theorem State.leaveTap_only (s_a r_a) : Only ⟨[.out, .pinned, .ev, .flashJournal, .sad, .diskJournal], [Obj.eventCount, Obj.eventLastAt, Obj.eventLastSubject, Obj.saddleState, Obj.saddleDownCount], [0x40000004, 0x40000008]⟩ s_a (State.leaveTap s_a r_a) := by
  unfold State.leaveTap
  extract_lets +onlyGivenNames x1
  refine Only.ite ?_ ?_
  · refine Only.seq (State.laneDone_only ..) ?_ (by decide)
    exact Only.refl _ _
  · refine Only.seq (State.requestTap_only ..) ?_ (by decide)
    refine Only.seq (State.setSl_only ..) ?_ (by decide)
    exact Only.refl _ _

theorem execSaddleTrainStep_only (dt_a lane_a eye_a s_a) : OnlyR ⟨[.out, .now, .tc, .pinned, .ev, .flashJournal, .sad, .diskJournal], [Obj.laneEyeHeight, Obj.eventCount, Obj.eventLastAt, Obj.eventLastSubject, Obj.saddleState, Obj.saddleDownCount], [0x40000004, 0x40000008]⟩ s_a (execSaddleTrainStep dt_a lane_a eye_a s_a) := by
  unfold execSaddleTrainStep
  refine actIf_only (hk3 := fun u1 => ?_) (l := (by decide)) ..
  extract_lets +onlyGivenNames x2
  have hx2 : Only ⟨[.out, .now, .tc, .pinned, .ev, .flashJournal, .sad, .diskJournal], [Obj.laneEyeHeight, Obj.eventCount, Obj.eventLastAt, Obj.eventLastSubject, Obj.saddleState, Obj.saddleDownCount], [0x40000004, 0x40000008]⟩ u1 x2 := by
    subst x2
    refine Only.seq (State.setN_only ..) ?_ (by decide)
    exact Only.refl _ _
  clear_value x2
  extract_lets +onlyGivenNames x3
  extract_lets +onlyGivenNames x4
  subst x4
  refine Only.ite ?_ ?_
  · refine Only.seq (State.laneDone_only ..) ?_ (by decide)
    exact hx2
  · split
    · refine Only.seq (State.requestTap_only ..) ?_ (by decide)
      refine Only.seq (State.setSl_only ..) ?_ (by decide)
      exact hx2
    · refine Only.ite ?_ ?_
      · refine Only.seq (State.leaveTap_only ..) ?_ (by decide)
        exact hx2
      · refine Only.ite ?_ ?_
        · refine Only.seq (State.requestTap_only ..) ?_ (by decide)
          refine Only.seq (State.setSl_only ..) ?_ (by decide)
          exact hx2
        · refine Only.seq (State.requestTap_only ..) ?_ (by decide)
          exact hx2
    · refine Only.ite ?_ ?_
      · refine Only.seq (State.requestTap_only ..) ?_ (by decide)
        refine Only.seq (State.setSl_only ..) ?_ (by decide)
        exact hx2
      · refine Only.seq (State.leaveTap_only ..) ?_ (by decide)
        exact hx2
    · exact hx2

theorem State.slipLane_only (s_a k_a) : Only ⟨[.out, .pinned, .ev, .flashJournal, .sad, .diskJournal], [Obj.laneState, Obj.saddleState, Obj.saddleDownCount, Obj.eventCount, Obj.eventLastAt, Obj.eventLastSubject], [0x40000004, 0x40000008]⟩ s_a (State.slipLane s_a k_a) := by
  unfold State.slipLane
  split
  · exact Only.refl _ _
  · extract_lets +onlyGivenNames x1
    extract_lets +onlyGivenNames x2
    have hx2 : Only ⟨[.out, .pinned, .ev, .flashJournal, .sad, .diskJournal], [Obj.laneState, Obj.saddleState, Obj.saddleDownCount, Obj.eventCount, Obj.eventLastAt, Obj.eventLastSubject], [0x40000004, 0x40000008]⟩ s_a x2 := by
      subst x2
      refine Only.seq (State.setSl_only ..) ?_ (by decide)
      exact Only.refl _ _
    clear_value x2
    refine Only.ite ?_ ?_
    · refine Only.seq (State.saddleLaneLost_only ..) ?_ (by decide)
      refine Only.seq (State.setN_only ..) ?_ (by decide)
      exact hx2
    · exact hx2

theorem execSaddleAutoSlip_only (dt_a s_a) : OnlyR ⟨[.out, .now, .tc, .pinned, .ev, .flashJournal, .sad, .diskJournal], [Obj.laneState, Obj.saddleState, Obj.saddleDownCount, Obj.eventCount, Obj.eventLastAt, Obj.eventLastSubject], [0x40000004, 0x40000008]⟩ s_a (execSaddleAutoSlip dt_a s_a) := by
  unfold execSaddleAutoSlip
  refine actIf_only (hk3 := fun u1 => ?_) (l := (by decide)) ..
  extract_lets +onlyGivenNames x2
  refine Only.foldl (fun u3 x4 => ?_) ?_
  · extract_lets +onlyGivenNames x5
    refine Only.ite ?_ ?_
    · extract_lets +onlyGivenNames x6
      refine Only.seq (State.slipLane_only ..) ?_ (by decide)
      refine Only.seq (State.setSl_only ..) ?_ (by decide)
      exact Only.refl _ _
    · exact Only.refl _ _
  · exact Only.refl _ _

theorem State.trainRequest_only (s_a r_a v_a) : Only ⟨[.out, .sad], [], []⟩ s_a (State.trainRequest s_a r_a v_a) := by
  unfold State.trainRequest
  extract_lets +onlyGivenNames x1
  refine Only.seq (State.sendTrain_only ..) ?_ (by decide)
  refine Only.seq (State.setSl_only ..) ?_ (by decide)
  exact Only.refl _ _

theorem State.saddleRestart_only (s : State) : Only ⟨[.out, .pinned, .ev, .flashJournal, .sad, .diskJournal], [Obj.laneTxMain, Obj.laneTxPostInForce, Obj.laneTxPreInForce, Obj.saddleState, Obj.eventCount, Obj.eventLastAt, Obj.eventLastSubject, Obj.saddleDownCount], [0x40000004, 0x40000008]⟩ s s.saddleRestart := by
  unfold State.saddleRestart
  split
  · exact Only.refl _ s
  · rename_i b _
    have ht : Only ⟨[.out, .pinned, .ev, .flashJournal, .sad, .diskJournal], [Obj.laneTxMain, Obj.laneTxPostInForce, Obj.laneTxPreInForce, Obj.saddleState, Obj.eventCount, Obj.eventLastAt, Obj.eventLastSubject, Obj.saddleDownCount], [0x40000004, 0x40000008]⟩ s (eight.foldl (fun (u : State) k => (u.setSl k {}).presetTaps (b + k)) s) :=
      Only.foldl (fun _ _ => (State.presetTaps_only ..).seq ((State.setSl_only ..).up)) (Only.refl _ s)
    generalize eight.foldl (fun (u : State) k => (u.setSl k {}).presetTaps (b + k)) s = t at ht ⊢
    extract_lets +onlyGivenNames t1 src u
    have hu : Only ⟨[.out, .pinned, .ev, .flashJournal, .sad, .diskJournal], [Obj.laneTxMain, Obj.laneTxPostInForce, Obj.laneTxPreInForce, Obj.saddleState, Obj.eventCount, Obj.eventLastAt, Obj.eventLastSubject, Obj.saddleDownCount], [0x40000004, 0x40000008]⟩ s u := Only.seq (t := t) (Only.upd (r := ⟨[.out, .pinned, .ev, .flashJournal, .sad, .diskJournal], [Obj.laneTxMain, Obj.laneTxPostInForce, Obj.laneTxPreInForce, Obj.saddleState, Obj.eventCount, Obj.eventLastAt, Obj.eventLastSubject, Obj.saddleDownCount], [0x40000004, 0x40000008]⟩) (fun p => by cases p <;> first | exact .inr rfl | exact .inl (by decide))) ht
    exact Only.ite hu ((State.setSaddle_only ..).seq hu)

theorem State.hearLines_only (s_a lines_a) : Only ⟨[.out, .pinned, .ev, .flashJournal, .sad, .diskJournal], [Obj.laneStuffErrors, Obj.eventCount, Obj.eventLastAt, Obj.eventLastSubject, Obj.laneHdrErrors], [0x40000004, 0x40000008]⟩ s_a (State.hearLines s_a lines_a) := by
  unfold State.hearLines
  refine Only.foldl (fun u1 x2 => ?_) ?_
  · refine Only.seq (State.hearLine_only ..) ?_ (by decide)
    exact Only.refl _ _
  · exact Only.refl _ _

end Sys2Proof.Machine
end

