-- ==== Sys2Proof/Laws/OnlyRidge.lean ====
section
/-!
SUPPORT. What the functions of Machine/Ridge.lean may change (`Only` of Laws/Only.lean).
-/
namespace Sys2Proof.Machine
set_option Elab.async false

theorem State.beginWrite_only (s_a slot_a arrivals_a) : Only ⟨[.out, .pinned, .ev, .flashJournal, .sdiRx, .ridge, .diskJournal], [Obj.rxFormat, Obj.embFormat, Obj.rxStructure, Obj.embStructure, Obj.eventCount, Obj.eventLastAt, Obj.eventLastSubject, Obj.rxPayloadId, Obj.embPayloadId, Obj.srcFeedKind, Obj.srcState, Obj.srcReservationStatus, Obj.srcFramesAbandoned, Obj.srcColourLive, Obj.srcLiveFormat, Obj.srcFramesWritten], [0x40000004, 0x40000008]⟩ s_a (State.beginWrite s_a slot_a arrivals_a) := by
  unfold State.beginWrite
  split
  · extract_lets +onlyGivenNames x1
    have hx1 : Only ⟨[.out, .pinned, .ev, .flashJournal, .sdiRx, .ridge, .diskJournal], [Obj.rxFormat, Obj.embFormat, Obj.rxStructure, Obj.embStructure, Obj.eventCount, Obj.eventLastAt, Obj.eventLastSubject, Obj.rxPayloadId, Obj.embPayloadId, Obj.srcFeedKind, Obj.srcState, Obj.srcReservationStatus, Obj.srcFramesAbandoned, Obj.srcColourLive, Obj.srcLiveFormat, Obj.srcFramesWritten], [0x40000004, 0x40000008]⟩ s_a x1 := by
      subst x1
      refine Only.seq (State.applyPids_only ..) ?_ (by decide)
      exact Only.refl _ _
    clear_value x1
    extract_lets +onlyGivenNames x2
    refine Only.ite ?_ ?_
    · extract_lets +onlyGivenNames x3
      refine Only.seq (State.ancBegin_only ..) ?_ (by decide)
      refine Only.seq (State.startFrame_only ..) ?_ (by decide)
      exact hx1
    · exact hx1
  · exact Only.refl _ _

theorem State.endWrite_only (s_a slot_a) : Only ⟨[.out, .pinned, .ev, .flashJournal, .ridge, .diskJournal], [Obj.srcLiveFormat, Obj.srcFramesWritten, Obj.eventCount, Obj.eventLastAt, Obj.eventLastSubject], [0x40000004, 0x40000008]⟩ s_a (State.endWrite s_a slot_a) := by
  unfold State.endWrite
  split
  · refine Only.seq (State.finishFrame_only ..) ?_ (by decide)
    exact Only.refl _ _
  · exact Only.refl _ _

theorem execSourceFrameWrite_only (dt_a slot_a part_a s_a) : OnlyR ⟨[.out, .now, .tc, .pinned, .ev, .flashJournal, .sdiRx, .ridge, .diskJournal], [Obj.rxFormat, Obj.embFormat, Obj.rxStructure, Obj.embStructure, Obj.eventCount, Obj.eventLastAt, Obj.eventLastSubject, Obj.rxPayloadId, Obj.embPayloadId, Obj.srcFeedKind, Obj.srcState, Obj.srcReservationStatus, Obj.srcFramesAbandoned, Obj.srcColourLive, Obj.srcLiveFormat, Obj.srcFramesWritten], [0x40000004, 0x40000008]⟩ s_a (execSourceFrameWrite dt_a slot_a part_a s_a) := by
  unfold execSourceFrameWrite
  refine actIf_only (hk3 := fun u1 => ?_) (l := (by decide)) ..
  extract_lets +onlyGivenNames x2
  split
  · refine Only.seq (State.beginWrite_only ..) ?_ (by decide)
    exact Only.refl _ _
  · split
    · refine Only.ite ?_ ?_
      · refine Only.seq (State.setSrc_only ..) ?_ (by decide)
        exact Only.refl _ _
      · exact Only.refl _ _
    · exact Only.refl _ _
  · refine Only.ite ?_ ?_
    · refine Only.seq (State.endWrite_only ..) ?_ (by decide)
      exact Only.refl _ _
    · exact Only.refl _ _
  · split
    · refine Only.seq (State.ancAbandon_only ..) ?_ (by decide)
      refine Only.seq (State.abandonFrame_only ..) ?_ (by decide)
      exact Only.refl _ _
    · exact Only.refl _ _

theorem execGeneratorFrameWrite_only (dt_a slot_a s_a) : OnlyR ⟨[.out, .now, .tc, .pinned, .ev, .flashJournal, .ridge, .diskJournal], [Obj.srcFeedKind, Obj.srcState, Obj.srcReservationStatus, Obj.eventCount, Obj.eventLastAt, Obj.eventLastSubject, Obj.srcFramesAbandoned, Obj.srcColourLive, Obj.srcLiveFormat, Obj.srcFramesWritten], [0x40000004, 0x40000008]⟩ s_a (execGeneratorFrameWrite dt_a slot_a s_a) := by
  unfold execGeneratorFrameWrite
  refine actIf_only (hk3 := fun u1 => ?_) (l := (by decide)) ..
  split
  · extract_lets +onlyGivenNames x2
    extract_lets +onlyGivenNames x3
    refine Only.ite ?_ ?_
    · exact Only.refl _ _
    · extract_lets +onlyGivenNames x4
      extract_lets +onlyGivenNames x5
      have hx5 : Only ⟨[.out, .now, .tc, .pinned, .ev, .flashJournal, .ridge, .diskJournal], [Obj.srcFeedKind, Obj.srcState, Obj.srcReservationStatus, Obj.eventCount, Obj.eventLastAt, Obj.eventLastSubject, Obj.srcFramesAbandoned, Obj.srcColourLive, Obj.srcLiveFormat, Obj.srcFramesWritten], [0x40000004, 0x40000008]⟩ u1 x5 := by
        subst x5
        refine Only.seq (State.refreshSlot_only ..) ?_ (by decide)
        exact Only.refl _ _
      clear_value x5
      extract_lets +onlyGivenNames x6
      have hx6 : Only ⟨[.out, .now, .tc, .pinned, .ev, .flashJournal, .ridge, .diskJournal], [Obj.srcFeedKind, Obj.srcState, Obj.srcReservationStatus, Obj.eventCount, Obj.eventLastAt, Obj.eventLastSubject, Obj.srcFramesAbandoned, Obj.srcColourLive, Obj.srcLiveFormat, Obj.srcFramesWritten], [0x40000004, 0x40000008]⟩ u1 x6 := by
        subst x6
        refine Only.seq (State.startFrame_only ..) ?_ (by decide)
        exact hx5
      clear_value x6
      refine Only.seq (State.setSrc_only ..) ?_ (by decide)
      exact hx6
  · exact Only.refl _ _

theorem execDestinationReadStart_only (dt_a dst_a s_a) : OnlyR ⟨[.out, .fresh, .now, .tc, .pinned, .ev, .flashJournal, .ridge, .mor, .diskJournal], [Obj.dstColourInForce, Obj.eventCount, Obj.eventLastAt, Obj.eventLastSubject, Obj.dstModeInForce, Obj.dstState, Obj.dstLossFrames, Obj.srcLiveFormat, Obj.srcFramesWritten, Obj.srcFeedKind, Obj.srcState, Obj.srcReservationStatus, Obj.srcFramesAbandoned, Obj.srcColourLive, Obj.dstTimingError, Obj.dstRepeats, Obj.dstDrops, Obj.dstFormatLive, Obj.routeOnAir, Obj.originKind, Obj.latencyLast, Obj.stageBreakdown, Obj.latencyMin, Obj.latencyMax, Obj.recLateFrames, Obj.recState, Obj.dlyLateFrames, Obj.dlyStored], [0x40000004, 0x40000008]⟩ s_a (execDestinationReadStart dt_a dst_a s_a) := by
  unfold execDestinationReadStart
  refine actIf_only (hk3 := fun u1 => ?_) (l := (by decide)) ..
  split
  extract_lets +onlyGivenNames x2
  have hx2 : Only ⟨[.out, .fresh, .now, .tc, .pinned, .ev, .flashJournal, .ridge, .mor, .diskJournal], [Obj.dstColourInForce, Obj.eventCount, Obj.eventLastAt, Obj.eventLastSubject, Obj.dstModeInForce, Obj.dstState, Obj.dstLossFrames, Obj.srcLiveFormat, Obj.srcFramesWritten, Obj.srcFeedKind, Obj.srcState, Obj.srcReservationStatus, Obj.srcFramesAbandoned, Obj.srcColourLive, Obj.dstTimingError, Obj.dstRepeats, Obj.dstDrops, Obj.dstFormatLive, Obj.routeOnAir, Obj.originKind, Obj.latencyLast, Obj.stageBreakdown, Obj.latencyMin, Obj.latencyMax, Obj.recLateFrames, Obj.recState, Obj.dlyLateFrames, Obj.dlyStored], [0x40000004, 0x40000008]⟩ u1 x2 := by
    subst x2
    refine Only.seq (State.readStart_only ..) ?_ (by decide)
    exact Only.refl _ _
  clear_value x2
  split
  · refine Only.seq (State.recordFrame_only ..) ?_ (by decide)
    refine Only.seq (State.emitLedger_only ..) ?_ (by decide)
    exact hx2
  · refine Only.seq (State.delayFrame_only ..) ?_ (by decide)
    refine Only.seq (State.emitLedger_only ..) ?_ (by decide)
    exact hx2
  · exact hx2

theorem execPartialFrame_only (dt_a dst_a line_a s_a) : OnlyR ⟨[.out, .now, .tc, .pinned, .ev, .flashJournal, .ridge, .media, .mor, .diskJournal], [Obj.dlyStored, Obj.dstPartialFrames, Obj.eventCount, Obj.eventLastAt, Obj.eventLastSubject], [0x40000004, 0x40000008]⟩ s_a (execPartialFrame dt_a dst_a line_a s_a) := by
  unfold execPartialFrame
  refine actIf_only (hk3 := fun u1 => ?_) (l := (by decide)) ..
  split
  · refine Only.ite ?_ ?_
    · exact Only.refl _ _
    · split
      · refine Only.ite ?_ ?_
        · exact Only.refl _ _
        · extract_lets +onlyGivenNames x2
          extract_lets +onlyGivenNames x3
          have hx3 : Only ⟨[.out, .now, .tc, .pinned, .ev, .flashJournal, .ridge, .media, .mor, .diskJournal], [Obj.dlyStored, Obj.dstPartialFrames, Obj.eventCount, Obj.eventLastAt, Obj.eventLastSubject], [0x40000004, 0x40000008]⟩ u1 x3 := by
            subst x3
            refine Only.seq (State.repaint_only ..) ?_ (by decide)
            exact Only.refl _ _
          clear_value x3
          refine Only.seq (State.raiseLimited_only ..) ?_ (by decide)
          refine Only.seq (State.bump_only ..) ?_ (by decide)
          exact hx3
      · exact Only.refl _ _
  · exact Only.refl _ _

end Sys2Proof.Machine
end

