-- ==== Sys2Proof/Laws/OnlyMediaRx.lean ====
section
/-!
SUPPORT. What the functions of Machine/MediaRx.lean may change (`Only` of Laws/Only.lean).
-/
namespace Sys2Proof.Machine
set_option Elab.async false

theorem State.setPre_only (s_a e_a x_a) : Only ⟨[.media], [], []⟩ s_a (State.setPre s_a e_a x_a) := by
  unfold State.setPre
  refine Only.seq (Only.upd (r := ⟨[.media], [], []⟩) (s := s_a) (fun p => by cases p <;> first | exact .inr rfl | exact .inl (by decide))) ?_ (by decide)
  exact Only.refl _ _

theorem State.report_only (s_a port_a r_a) : Only ⟨[.out, .pinned, .ev, .flashJournal, .diskJournal], [Obj.portTxFramesB, Obj.portTxFrames, Obj.eventCount, Obj.eventLastAt, Obj.eventLastSubject, Obj.portTxBytesB, Obj.portTxBytes], [0x40000004, 0x40000008]⟩ s_a (State.report s_a port_a r_a) := by
  unfold State.report
  extract_lets +onlyGivenNames x1
  extract_lets +onlyGivenNames x2
  extract_lets +onlyGivenNames x3
  extract_lets +onlyGivenNames x4
  extract_lets +onlyGivenNames x5
  refine Only.ite ?_ ?_
  · refine Only.seq (State.emit_only ..) ?_ (by decide)
    refine Only.seq (State.countTx_only ..) ?_ (by decide)
    exact Only.refl _ _
  · exact Only.refl _ _

theorem State.changeReport_only (s_a port_a r_a) : Only ⟨[.out, .pinned, .ev, .flashJournal, .media, .diskJournal], [Obj.portTxFramesB, Obj.portTxFrames, Obj.eventCount, Obj.eventLastAt, Obj.eventLastSubject, Obj.portTxBytesB, Obj.portTxBytes], [0x40000004, 0x40000008]⟩ s_a (State.changeReport s_a port_a r_a) := by
  unfold State.changeReport
  extract_lets +onlyGivenNames x1
  have hx1 : Only ⟨[.out, .pinned, .ev, .flashJournal, .media, .diskJournal], [Obj.portTxFramesB, Obj.portTxFrames, Obj.eventCount, Obj.eventLastAt, Obj.eventLastSubject, Obj.portTxBytesB, Obj.portTxBytes], [0x40000004, 0x40000008]⟩ s_a x1 := by
    subst x1
    refine Only.seq (State.report_only ..) ?_ (by decide)
    exact Only.refl _ _
  clear_value x1
  extract_lets +onlyGivenNames x2
  extract_lets +onlyGivenNames x3
  extract_lets +onlyGivenNames x4
  refine Only.seq (State.setPort_only ..) ?_ (by decide)
  exact hx1

theorem State.syncPort_only (s_a port_a) : Only ⟨[.out, .pinned, .ev, .flashJournal, .media, .diskJournal], [Obj.portTxFramesB, Obj.portTxFrames, Obj.eventCount, Obj.eventLastAt, Obj.eventLastSubject, Obj.portTxBytesB, Obj.portTxBytes], [0x40000004, 0x40000008]⟩ s_a (State.syncPort s_a port_a) := by
  unfold State.syncPort
  extract_lets +onlyGivenNames x1
  extract_lets +onlyGivenNames x2
  extract_lets +onlyGivenNames x3
  extract_lets +onlyGivenNames x4
  have hx4 : Only ⟨[.out, .pinned, .ev, .flashJournal, .media, .diskJournal], [Obj.portTxFramesB, Obj.portTxFrames, Obj.eventCount, Obj.eventLastAt, Obj.eventLastSubject, Obj.portTxBytesB, Obj.portTxBytes], [0x40000004, 0x40000008]⟩ s_a x4 := by
    subst x4
    refine Only.seq (State.setPort_only ..) ?_ (by decide)
    exact Only.refl _ _
  clear_value x4
  extract_lets +onlyGivenNames x5
  extract_lets +onlyGivenNames x6
  refine Only.foldl (fun u7 x8 => ?_) ?_
  · refine Only.seq (State.changeReport_only ..) ?_ (by decide)
    exact Only.refl _ _
  · exact hx4

theorem State.syncMembership_only (s_a) : Only ⟨[.out, .pinned, .ev, .flashJournal, .media, .diskJournal], [Obj.portTxFramesB, Obj.portTxFrames, Obj.eventCount, Obj.eventLastAt, Obj.eventLastSubject, Obj.portTxBytesB, Obj.portTxBytes], [0x40000004, 0x40000008]⟩ s_a (State.syncMembership s_a) := by
  unfold State.syncMembership
  refine Only.foldl (fun u1 x2 => ?_) ?_
  · refine Only.seq (State.syncPort_only ..) ?_ (by decide)
    exact Only.refl _ _
  · exact Only.refl _ _

theorem execReportRetransmit_only (dt_a port_a group_a s_a) : OnlyR ⟨[.out, .now, .tc, .pinned, .ev, .flashJournal, .media, .diskJournal], [Obj.portTxFramesB, Obj.portTxFrames, Obj.eventCount, Obj.eventLastAt, Obj.eventLastSubject, Obj.portTxBytesB, Obj.portTxBytes], [0x40000004, 0x40000008]⟩ s_a (execReportRetransmit dt_a port_a group_a s_a) := by
  unfold execReportRetransmit
  refine actIf_only (hk3 := fun u1 => ?_) (l := (by decide)) ..
  extract_lets +onlyGivenNames x2
  split
  · refine Only.ite ?_ ?_
    · exact Only.refl _ _
    · extract_lets +onlyGivenNames x3
      extract_lets +onlyGivenNames x4
      refine Only.seq (State.report_only ..) ?_ (by decide)
      refine Only.seq (State.setPort_only ..) ?_ (by decide)
      exact Only.refl _ _
  · exact Only.refl _ _

theorem State.refreshRxSlot_only (s_a lead_a) : Only ⟨[.out, .pinned, .ev, .flashJournal, .ridge, .diskJournal], [Obj.srcFeedKind, Obj.srcState, Obj.srcReservationStatus, Obj.eventCount, Obj.eventLastAt, Obj.eventLastSubject, Obj.srcFramesAbandoned, Obj.srcColourLive], [0x40000004, 0x40000008]⟩ s_a (State.refreshRxSlot s_a lead_a) := by
  unfold State.refreshRxSlot
  extract_lets +onlyGivenNames x1
  refine Only.ite ?_ ?_
  · refine Only.seq (State.refreshSlot_only ..) ?_ (by decide)
    exact Only.refl _ _
  · exact Only.refl _ _

theorem State.setFlow_only (s_a lead_a st_a) : Only ⟨[.out, .pinned, .ev, .flashJournal, .sdiRx, .ridge, .diskJournal], [Obj.rxFlowState, Obj.eventCount, Obj.eventLastAt, Obj.eventLastSubject, Obj.embFormat, Obj.embPayloadId, Obj.embStructure, Obj.srcFeedKind, Obj.srcState, Obj.srcReservationStatus, Obj.srcFramesAbandoned, Obj.srcColourLive], [0x40000004, 0x40000008]⟩ s_a (State.setFlow s_a lead_a st_a) := by
  unfold State.setFlow
  extract_lets +onlyGivenNames x1
  extract_lets +onlyGivenNames x2
  have hx2 : Only ⟨[.out, .pinned, .ev, .flashJournal, .sdiRx, .ridge, .diskJournal], [Obj.rxFlowState, Obj.eventCount, Obj.eventLastAt, Obj.eventLastSubject, Obj.embFormat, Obj.embPayloadId, Obj.embStructure, Obj.srcFeedKind, Obj.srcState, Obj.srcReservationStatus, Obj.srcFramesAbandoned, Obj.srcColourLive], [0x40000004, 0x40000008]⟩ s_a x2 := by
    subst x2
    refine Only.foldl (fun u3 x4 => ?_) ?_
    · refine Only.seq (State.setN_only ..) ?_ (by decide)
      exact Only.refl _ _
    · exact Only.refl _ _
  clear_value x2
  extract_lets +onlyGivenNames x5
  have hx5 : Only ⟨[.out, .pinned, .ev, .flashJournal, .sdiRx, .ridge, .diskJournal], [Obj.rxFlowState, Obj.eventCount, Obj.eventLastAt, Obj.eventLastSubject, Obj.embFormat, Obj.embPayloadId, Obj.embStructure, Obj.srcFeedKind, Obj.srcState, Obj.srcReservationStatus, Obj.srcFramesAbandoned, Obj.srcColourLive], [0x40000004, 0x40000008]⟩ s_a x5 := by
    subst x5
    refine Only.ite ?_ ?_
    · refine Only.seq (State.raise_only ..) ?_ (by decide)
      exact hx2
    · exact hx2
  clear_value x5
  extract_lets +onlyGivenNames x6
  have hx6 : Only ⟨[.out, .pinned, .ev, .flashJournal, .sdiRx, .ridge, .diskJournal], [Obj.rxFlowState, Obj.eventCount, Obj.eventLastAt, Obj.eventLastSubject, Obj.embFormat, Obj.embPayloadId, Obj.embStructure, Obj.srcFeedKind, Obj.srcState, Obj.srcReservationStatus, Obj.srcFramesAbandoned, Obj.srcColourLive], [0x40000004, 0x40000008]⟩ s_a x6 := by
    subst x6
    refine Only.seq (State.clearEmb_only ..) ?_ (by decide)
    exact hx5
  clear_value x6
  extract_lets +onlyGivenNames x7
  have hx7 : Only ⟨[.out, .pinned, .ev, .flashJournal, .sdiRx, .ridge, .diskJournal], [Obj.rxFlowState, Obj.eventCount, Obj.eventLastAt, Obj.eventLastSubject, Obj.embFormat, Obj.embPayloadId, Obj.embStructure, Obj.srcFeedKind, Obj.srcState, Obj.srcReservationStatus, Obj.srcFramesAbandoned, Obj.srcColourLive], [0x40000004, 0x40000008]⟩ s_a x7 := by
    subst x7
    refine Only.ite ?_ ?_
    · refine Only.seq (State.raise_only ..) ?_ (by decide)
      exact hx6
    · exact hx6
  clear_value x7
  extract_lets +onlyGivenNames x8
  have hx8 : Only ⟨[.out, .pinned, .ev, .flashJournal, .sdiRx, .ridge, .diskJournal], [Obj.rxFlowState, Obj.eventCount, Obj.eventLastAt, Obj.eventLastSubject, Obj.embFormat, Obj.embPayloadId, Obj.embStructure, Obj.srcFeedKind, Obj.srcState, Obj.srcReservationStatus, Obj.srcFramesAbandoned, Obj.srcColourLive], [0x40000004, 0x40000008]⟩ s_a x8 := by
    subst x8
    refine Only.ite ?_ ?_
    · refine Only.foldl (fun u9 x10 => ?_) ?_
      · refine Only.seq (State.raise_only ..) ?_ (by decide)
        exact Only.refl _ _
      · exact hx7
    · exact hx5
  clear_value x8
  refine Only.ite ?_ ?_
  · exact hx8
  · refine Only.seq (State.refreshRxSlot_only ..) ?_ (by decide)
    exact hx8

theorem State.enterWaiting_only (s_a lead_a) : Only ⟨[.out, .pinned, .ev, .flashJournal, .sdiRx, .ridge, .media, .diskJournal], [Obj.rxFlowState, Obj.eventCount, Obj.eventLastAt, Obj.eventLastSubject, Obj.embFormat, Obj.embPayloadId, Obj.embStructure, Obj.srcFeedKind, Obj.srcState, Obj.srcReservationStatus, Obj.srcFramesAbandoned, Obj.srcColourLive, Obj.rxPdvHistogram], [0x40000004, 0x40000008]⟩ s_a (State.enterWaiting s_a lead_a) := by
  unfold State.enterWaiting
  extract_lets +onlyGivenNames x1
  extract_lets +onlyGivenNames x2
  have hx2 : Only ⟨[.out, .pinned, .ev, .flashJournal, .sdiRx, .ridge, .media, .diskJournal], [Obj.rxFlowState, Obj.eventCount, Obj.eventLastAt, Obj.eventLastSubject, Obj.embFormat, Obj.embPayloadId, Obj.embStructure, Obj.srcFeedKind, Obj.srcState, Obj.srcReservationStatus, Obj.srcFramesAbandoned, Obj.srcColourLive, Obj.rxPdvHistogram], [0x40000004, 0x40000008]⟩ s_a x2 := by
    subst x2
    refine Only.seq (State.setFlow_only ..) ?_ (by decide)
    exact Only.refl _ _
  clear_value x2
  refine Only.foldl (fun u3 x4 => ?_) ?_
  · refine Only.seq (State.toDefault_only ..) ?_ (by decide)
    refine Only.seq (State.setRxe_only ..) ?_ (by decide)
    exact Only.refl _ _
  · exact hx2

theorem State.recordSkew_only (s_a e_a v_a) : Only ⟨[.media], [Obj.rxSkewMin, Obj.rxSkewMax], []⟩ s_a (State.recordSkew s_a e_a v_a) := by
  unfold State.recordSkew
  extract_lets +onlyGivenNames x1
  refine Only.ite ?_ ?_
  · refine Only.seq (State.setI_only ..) ?_ (by decide)
    refine Only.seq (State.setI_only ..) ?_ (by decide)
    exact Only.refl _ _
  · refine Only.seq (State.setI_only ..) ?_ (by decide)
    refine Only.seq (State.setI_only ..) ?_ (by decide)
    refine Only.seq (State.setRxe_only ..) ?_ (by decide)
    exact Only.refl _ _

theorem State.recordPair_only (s_a e_a x_a) : Only ⟨[.media], [Obj.rxSkewMin, Obj.rxSkewMax], []⟩ s_a (State.recordPair s_a e_a x_a) := by
  unfold State.recordPair
  split
  · refine Only.seq (State.recordSkew_only ..) ?_ (by decide)
    refine Only.seq (State.recordSkew_only ..) ?_ (by decide)
    exact Only.refl _ _
  · exact Only.refl _ _

theorem State.measurePair_only (s_a lead_a e_a q_a) : Only ⟨[.media], [Obj.rxSkewMin, Obj.rxSkewMax], []⟩ s_a (State.measurePair s_a lead_a e_a q_a) := by
  unfold State.measurePair
  refine Only.ite ?_ ?_
  · exact Only.refl _ _
  · extract_lets +onlyGivenNames x1
    refine Only.seq (State.recordPair_only ..) ?_ (by decide)
    refine Only.seq (State.setRxe_only ..) ?_ (by decide)
    exact Only.refl _ _

theorem State.recordTransit_only (s_a c_a e_a p_a measured_a) : Only ⟨[.media], [], []⟩ s_a (State.recordTransit s_a c_a e_a p_a measured_a) := by
  unfold State.recordTransit
  refine Only.ite ?_ ?_
  · refine Only.seq (State.setRxe_only ..) ?_ (by decide)
    exact Only.refl _ _
  · exact Only.refl _ _

theorem State.measureTransit_only (s_a e_a q_a p_a) : Only ⟨[.media], [], []⟩ s_a (State.measureTransit s_a e_a q_a p_a) := by
  unfold State.measureTransit
  extract_lets +onlyGivenNames x1
  refine Only.seq (State.recordTransit_only ..) ?_ (by decide)
  refine Only.seq (State.setRxe_only ..) ?_ (by decide)
  exact Only.refl _ _

theorem State.premeasure_only (s_a c_a e_a p_a) : Only ⟨[.out, .pinned, .ev, .flashJournal, .media, .diskJournal], [Obj.rxPackets, Obj.eventCount, Obj.eventLastAt, Obj.eventLastSubject, Obj.rxOutOfOrder, Obj.rxSkewMin, Obj.rxSkewMax], [0x40000004, 0x40000008]⟩ s_a (State.premeasure s_a c_a e_a p_a) := by
  unfold State.premeasure
  extract_lets +onlyGivenNames x1
  extract_lets +onlyGivenNames x2
  extract_lets +onlyGivenNames x3
  extract_lets +onlyGivenNames x4
  subst x4
  extract_lets +onlyGivenNames x5
  extract_lets +onlyGivenNames x6
  have hx6 : Only ⟨[.out, .pinned, .ev, .flashJournal, .media, .diskJournal], [Obj.rxPackets, Obj.eventCount, Obj.eventLastAt, Obj.eventLastSubject, Obj.rxOutOfOrder, Obj.rxSkewMin, Obj.rxSkewMax], [0x40000004, 0x40000008]⟩ s_a x6 := by
    subst x6
    refine Only.seq (State.bump_only ..) ?_ (by decide)
    refine Only.seq (State.setPre_only ..) ?_ (by decide)
    exact Only.refl _ _
  clear_value x6
  extract_lets +onlyGivenNames x7
  extract_lets +onlyGivenNames x8
  have hx8 : Only ⟨[.out, .pinned, .ev, .flashJournal, .media, .diskJournal], [Obj.rxPackets, Obj.eventCount, Obj.eventLastAt, Obj.eventLastSubject, Obj.rxOutOfOrder, Obj.rxSkewMin, Obj.rxSkewMax], [0x40000004, 0x40000008]⟩ s_a x8 := by
    subst x8
    refine Only.seq (State.setPre_only ..) ?_ (by decide)
    exact hx6
  clear_value x8
  extract_lets +onlyGivenNames x9
  have hx9 : Only ⟨[.out, .pinned, .ev, .flashJournal, .media, .diskJournal], [Obj.rxPackets, Obj.eventCount, Obj.eventLastAt, Obj.eventLastSubject, Obj.rxOutOfOrder, Obj.rxSkewMin, Obj.rxSkewMax], [0x40000004, 0x40000008]⟩ s_a x9 := by
    subst x9
    refine Only.ite ?_ ?_
    · refine Only.seq (State.bump_only ..) ?_ (by decide)
      exact hx8
    · exact hx8
  clear_value x9
  extract_lets +onlyGivenNames x10
  extract_lets +onlyGivenNames x11
  have hx11 : Only ⟨[.out, .pinned, .ev, .flashJournal, .media, .diskJournal], [Obj.rxPackets, Obj.eventCount, Obj.eventLastAt, Obj.eventLastSubject, Obj.rxOutOfOrder, Obj.rxSkewMin, Obj.rxSkewMax], [0x40000004, 0x40000008]⟩ s_a x11 := by
    subst x11
    refine Only.seq (State.recordTransit_only ..) ?_ (by decide)
    refine Only.seq (State.setPre_only ..) ?_ (by decide)
    exact hx9
  clear_value x11
  refine Only.ite ?_ ?_
  · exact hx11
  · extract_lets +onlyGivenNames x12
    refine Only.seq (State.recordPair_only ..) ?_ (by decide)
    refine Only.seq (State.setPre_only ..) ?_ (by decide)
    exact hx11

theorem State.pathCopy_only (s_a e_a inTime_a) : Only ⟨[.media], [], []⟩ s_a (State.pathCopy s_a e_a inTime_a) := by
  unfold State.pathCopy
  extract_lets +onlyGivenNames x1
  extract_lets +onlyGivenNames x2
  subst x2
  refine Only.seq (State.setRxe_only ..) ?_ (by decide)
  exact Only.refl _ _

theorem State.bufferPkt_only (s_a lead_a e_a q_a p_a) : Only ⟨[.out, .pinned, .ev, .flashJournal, .media, .diskJournal], [Obj.rxBufferOverrun, Obj.eventCount, Obj.eventLastAt, Obj.eventLastSubject, Obj.rxPeakOccupancy], [0x40000004, 0x40000008]⟩ s_a (State.bufferPkt s_a lead_a e_a q_a p_a) := by
  unfold State.bufferPkt
  extract_lets +onlyGivenNames x1
  refine Only.ite ?_ ?_
  · refine Only.seq (State.raiseLimited_only ..) ?_ (by decide)
    refine Only.seq (State.bump_only ..) ?_ (by decide)
    exact Only.refl _ _
  · extract_lets +onlyGivenNames x2
    have hx2 : Only ⟨[.out, .pinned, .ev, .flashJournal, .media, .diskJournal], [Obj.rxBufferOverrun, Obj.eventCount, Obj.eventLastAt, Obj.eventLastSubject, Obj.rxPeakOccupancy], [0x40000004, 0x40000008]⟩ s_a x2 := by
      subst x2
      refine Only.seq (State.setRxe_only ..) ?_ (by decide)
      exact Only.refl _ _
    clear_value x2
    extract_lets +onlyGivenNames x3
    have hx3 : Only ⟨[.out, .pinned, .ev, .flashJournal, .media, .diskJournal], [Obj.rxBufferOverrun, Obj.eventCount, Obj.eventLastAt, Obj.eventLastSubject, Obj.rxPeakOccupancy], [0x40000004, 0x40000008]⟩ s_a x3 := by
      subst x3
      refine Only.seq (State.setN_only ..) ?_ (by decide)
      exact hx2
    clear_value x3
    refine Only.seq (State.setRxe_only ..) ?_ (by decide)
    exact hx3

theorem State.ancLost_only (s_a e_a count_a) : Only ⟨[.out, .pinned, .ev, .flashJournal, .diskJournal], [Obj.rxAncUnmatched, Obj.eventCount, Obj.eventLastAt, Obj.eventLastSubject], [0x40000004, 0x40000008]⟩ s_a (State.ancLost s_a e_a count_a) := by
  unfold State.ancLost
  refine Only.ite ?_ ?_
  · exact Only.refl _ _
  · refine Only.seq (State.raiseLimited_only ..) ?_ (by decide)
    refine Only.seq (State.bump_only ..) ?_ (by decide)
    exact Only.refl _ _

theorem State.bufferCopy_only (s_a lead_a e_a q_a p_a) : Only ⟨[.out, .pinned, .ev, .flashJournal, .media, .diskJournal], [Obj.rxAncUnmatched, Obj.eventCount, Obj.eventLastAt, Obj.eventLastSubject, Obj.rxBufferOverrun, Obj.rxPeakOccupancy], [0x40000004, 0x40000008]⟩ s_a (State.bufferCopy s_a lead_a e_a q_a p_a) := by
  unfold State.bufferCopy
  extract_lets +onlyGivenNames x1
  refine Only.ite ?_ ?_
  · refine Only.seq (State.bufferPkt_only ..) ?_ (by decide)
    refine Only.seq (State.ancLost_only ..) ?_ (by decide)
    exact Only.refl _ _
  · refine Only.seq (State.bufferPkt_only ..) ?_ (by decide)
    exact Only.refl _ _

theorem State.acceptPkt_only (s_a lead_a e_a p_a) : Only ⟨[.out, .pinned, .ev, .flashJournal, .sdiRx, .ridge, .media, .diskJournal], [Obj.rxFlowState, Obj.eventCount, Obj.eventLastAt, Obj.eventLastSubject, Obj.embFormat, Obj.embPayloadId, Obj.embStructure, Obj.srcFeedKind, Obj.srcState, Obj.srcReservationStatus, Obj.srcFramesAbandoned, Obj.srcColourLive, Obj.rxPackets, Obj.rxOutOfOrder, Obj.rxSkewMin, Obj.rxSkewMax, Obj.rxLatePackets, Obj.rxDuplicates, Obj.rxAncUnmatched, Obj.rxBufferOverrun, Obj.rxPeakOccupancy], [0x40000004, 0x40000008]⟩ s_a (State.acceptPkt s_a lead_a e_a p_a) := by
  unfold State.acceptPkt
  extract_lets +onlyGivenNames x1
  extract_lets +onlyGivenNames x2
  extract_lets +onlyGivenNames x3
  subst x3
  extract_lets +onlyGivenNames x4
  extract_lets +onlyGivenNames x5
  have hx5 : Only ⟨[.out, .pinned, .ev, .flashJournal, .sdiRx, .ridge, .media, .diskJournal], [Obj.rxFlowState, Obj.eventCount, Obj.eventLastAt, Obj.eventLastSubject, Obj.embFormat, Obj.embPayloadId, Obj.embStructure, Obj.srcFeedKind, Obj.srcState, Obj.srcReservationStatus, Obj.srcFramesAbandoned, Obj.srcColourLive, Obj.rxPackets, Obj.rxOutOfOrder, Obj.rxSkewMin, Obj.rxSkewMax, Obj.rxLatePackets, Obj.rxDuplicates, Obj.rxAncUnmatched, Obj.rxBufferOverrun, Obj.rxPeakOccupancy], [0x40000004, 0x40000008]⟩ s_a x5 := by
    subst x5
    refine Only.seq (State.setRxe_only ..) ?_ (by decide)
    exact Only.refl _ _
  clear_value x5
  extract_lets +onlyGivenNames x6
  have hx6 : Only ⟨[.out, .pinned, .ev, .flashJournal, .sdiRx, .ridge, .media, .diskJournal], [Obj.rxFlowState, Obj.eventCount, Obj.eventLastAt, Obj.eventLastSubject, Obj.embFormat, Obj.embPayloadId, Obj.embStructure, Obj.srcFeedKind, Obj.srcState, Obj.srcReservationStatus, Obj.srcFramesAbandoned, Obj.srcColourLive, Obj.rxPackets, Obj.rxOutOfOrder, Obj.rxSkewMin, Obj.rxSkewMax, Obj.rxLatePackets, Obj.rxDuplicates, Obj.rxAncUnmatched, Obj.rxBufferOverrun, Obj.rxPeakOccupancy], [0x40000004, 0x40000008]⟩ s_a x6 := by
    subst x6
    refine Only.ite ?_ ?_
    · refine Only.seq (State.setFlow_only ..) ?_ (by decide)
      exact hx5
    · exact hx5
  clear_value x6
  extract_lets +onlyGivenNames x7
  have hx7 : Only ⟨[.out, .pinned, .ev, .flashJournal, .sdiRx, .ridge, .media, .diskJournal], [Obj.rxFlowState, Obj.eventCount, Obj.eventLastAt, Obj.eventLastSubject, Obj.embFormat, Obj.embPayloadId, Obj.embStructure, Obj.srcFeedKind, Obj.srcState, Obj.srcReservationStatus, Obj.srcFramesAbandoned, Obj.srcColourLive, Obj.rxPackets, Obj.rxOutOfOrder, Obj.rxSkewMin, Obj.rxSkewMax, Obj.rxLatePackets, Obj.rxDuplicates, Obj.rxAncUnmatched, Obj.rxBufferOverrun, Obj.rxPeakOccupancy], [0x40000004, 0x40000008]⟩ s_a x7 := by
    subst x7
    refine Only.ite ?_ ?_
    · refine Only.seq (State.setFlow_only ..) ?_ (by decide)
      exact hx6
    · exact hx6
  clear_value x7
  extract_lets +onlyGivenNames x8
  have hx8 : Only ⟨[.out, .pinned, .ev, .flashJournal, .sdiRx, .ridge, .media, .diskJournal], [Obj.rxFlowState, Obj.eventCount, Obj.eventLastAt, Obj.eventLastSubject, Obj.embFormat, Obj.embPayloadId, Obj.embStructure, Obj.srcFeedKind, Obj.srcState, Obj.srcReservationStatus, Obj.srcFramesAbandoned, Obj.srcColourLive, Obj.rxPackets, Obj.rxOutOfOrder, Obj.rxSkewMin, Obj.rxSkewMax, Obj.rxLatePackets, Obj.rxDuplicates, Obj.rxAncUnmatched, Obj.rxBufferOverrun, Obj.rxPeakOccupancy], [0x40000004, 0x40000008]⟩ s_a x8 := by
    subst x8
    refine Only.seq (State.bump_only ..) ?_ (by decide)
    exact hx7
  clear_value x8
  extract_lets +onlyGivenNames x9
  extract_lets +onlyGivenNames x10
  have hx10 : Only ⟨[.out, .pinned, .ev, .flashJournal, .sdiRx, .ridge, .media, .diskJournal], [Obj.rxFlowState, Obj.eventCount, Obj.eventLastAt, Obj.eventLastSubject, Obj.embFormat, Obj.embPayloadId, Obj.embStructure, Obj.srcFeedKind, Obj.srcState, Obj.srcReservationStatus, Obj.srcFramesAbandoned, Obj.srcColourLive, Obj.rxPackets, Obj.rxOutOfOrder, Obj.rxSkewMin, Obj.rxSkewMax, Obj.rxLatePackets, Obj.rxDuplicates, Obj.rxAncUnmatched, Obj.rxBufferOverrun, Obj.rxPeakOccupancy], [0x40000004, 0x40000008]⟩ s_a x10 := by
    subst x10
    refine Only.seq (State.setRxe_only ..) ?_ (by decide)
    exact hx8
  clear_value x10
  extract_lets +onlyGivenNames x11
  have hx11 : Only ⟨[.out, .pinned, .ev, .flashJournal, .sdiRx, .ridge, .media, .diskJournal], [Obj.rxFlowState, Obj.eventCount, Obj.eventLastAt, Obj.eventLastSubject, Obj.embFormat, Obj.embPayloadId, Obj.embStructure, Obj.srcFeedKind, Obj.srcState, Obj.srcReservationStatus, Obj.srcFramesAbandoned, Obj.srcColourLive, Obj.rxPackets, Obj.rxOutOfOrder, Obj.rxSkewMin, Obj.rxSkewMax, Obj.rxLatePackets, Obj.rxDuplicates, Obj.rxAncUnmatched, Obj.rxBufferOverrun, Obj.rxPeakOccupancy], [0x40000004, 0x40000008]⟩ s_a x11 := by
    subst x11
    refine Only.ite ?_ ?_
    · refine Only.seq (State.bump_only ..) ?_ (by decide)
      exact hx10
    · exact hx10
  clear_value x11
  extract_lets +onlyGivenNames x12
  have hx12 : Only ⟨[.out, .pinned, .ev, .flashJournal, .sdiRx, .ridge, .media, .diskJournal], [Obj.rxFlowState, Obj.eventCount, Obj.eventLastAt, Obj.eventLastSubject, Obj.embFormat, Obj.embPayloadId, Obj.embStructure, Obj.srcFeedKind, Obj.srcState, Obj.srcReservationStatus, Obj.srcFramesAbandoned, Obj.srcColourLive, Obj.rxPackets, Obj.rxOutOfOrder, Obj.rxSkewMin, Obj.rxSkewMax, Obj.rxLatePackets, Obj.rxDuplicates, Obj.rxAncUnmatched, Obj.rxBufferOverrun, Obj.rxPeakOccupancy], [0x40000004, 0x40000008]⟩ s_a x12 := by
    subst x12
    refine Only.seq (State.measurePair_only ..) ?_ (by decide)
    refine Only.seq (State.measureTransit_only ..) ?_ (by decide)
    exact hx11
  clear_value x12
  extract_lets +onlyGivenNames x13
  extract_lets +onlyGivenNames x14
  have hx14 : Only ⟨[.out, .pinned, .ev, .flashJournal, .sdiRx, .ridge, .media, .diskJournal], [Obj.rxFlowState, Obj.eventCount, Obj.eventLastAt, Obj.eventLastSubject, Obj.embFormat, Obj.embPayloadId, Obj.embStructure, Obj.srcFeedKind, Obj.srcState, Obj.srcReservationStatus, Obj.srcFramesAbandoned, Obj.srcColourLive, Obj.rxPackets, Obj.rxOutOfOrder, Obj.rxSkewMin, Obj.rxSkewMax, Obj.rxLatePackets, Obj.rxDuplicates, Obj.rxAncUnmatched, Obj.rxBufferOverrun, Obj.rxPeakOccupancy], [0x40000004, 0x40000008]⟩ s_a x14 := by
    subst x14
    refine Only.seq (State.pathCopy_only ..) ?_ (by decide)
    exact hx12
  clear_value x14
  refine Only.ite ?_ ?_
  · extract_lets +onlyGivenNames x15
    have hx15 : Only ⟨[.out, .pinned, .ev, .flashJournal, .sdiRx, .ridge, .media, .diskJournal], [Obj.rxFlowState, Obj.eventCount, Obj.eventLastAt, Obj.eventLastSubject, Obj.embFormat, Obj.embPayloadId, Obj.embStructure, Obj.srcFeedKind, Obj.srcState, Obj.srcReservationStatus, Obj.srcFramesAbandoned, Obj.srcColourLive, Obj.rxPackets, Obj.rxOutOfOrder, Obj.rxSkewMin, Obj.rxSkewMax, Obj.rxLatePackets, Obj.rxDuplicates, Obj.rxAncUnmatched, Obj.rxBufferOverrun, Obj.rxPeakOccupancy], [0x40000004, 0x40000008]⟩ s_a x15 := by
      subst x15
      refine Only.seq (State.bump_only ..) ?_ (by decide)
      exact hx14
    clear_value x15
    refine Only.ite ?_ ?_
    · exact hx15
    · refine Only.seq (State.raiseLimited_only ..) ?_ (by decide)
      exact hx15
  · refine Only.ite ?_ ?_
    · extract_lets +onlyGivenNames x16
      refine Only.seq (State.bump_only ..) ?_ (by decide)
      refine Only.seq (State.setRxe_only ..) ?_ (by decide)
      exact hx14
    · refine Only.seq (State.bufferCopy_only ..) ?_ (by decide)
      exact hx14

theorem State.receive_only (s_a e_a p_a) : Only ⟨[.out, .pinned, .ev, .flashJournal, .sdiRx, .ridge, .media, .diskJournal], [Obj.rxForeign, Obj.eventCount, Obj.eventLastAt, Obj.eventLastSubject, Obj.rxFlowState, Obj.embFormat, Obj.embPayloadId, Obj.embStructure, Obj.srcFeedKind, Obj.srcState, Obj.srcReservationStatus, Obj.srcFramesAbandoned, Obj.srcColourLive, Obj.rxPackets, Obj.rxOutOfOrder, Obj.rxSkewMin, Obj.rxSkewMax, Obj.rxLatePackets, Obj.rxDuplicates, Obj.rxAncUnmatched, Obj.rxBufferOverrun, Obj.rxPeakOccupancy], [0x40000004, 0x40000008]⟩ s_a (State.receive s_a e_a p_a) := by
  unfold State.receive
  extract_lets +onlyGivenNames x1
  refine Only.ite ?_ ?_
  · exact Only.refl _ _
  · refine Only.ite ?_ ?_
    · refine Only.seq (State.raiseLimited_only ..) ?_ (by decide)
      refine Only.seq (State.bump_only ..) ?_ (by decide)
      exact Only.refl _ _
    · refine Only.seq (State.acceptPkt_only ..) ?_ (by decide)
      exact Only.refl _ _

theorem State.ancStore_only (s_a lead_a slot_a seq_a l_a) : Only ⟨[.out, .pinned, .ev, .flashJournal, .ridge, .media, .mor, .diskJournal], [Obj.eventCount, Obj.eventLastAt, Obj.eventLastSubject, Obj.dlyStored, Obj.sdiTxAncDropped, Obj.txAncDropped], [0x40000004, 0x40000008]⟩ s_a (State.ancStore s_a lead_a slot_a seq_a l_a) := by
  unfold State.ancStore
  refine Only.foldl (fun u1 x2 => ?_) ?_
  · split
    · exact Only.refl _ _
    · refine Only.ite ?_ ?_
      · exact Only.refl _ _
      · refine Only.ite ?_ ?_
        · extract_lets +onlyGivenNames x3
          have hx3 : Only ⟨[.out, .pinned, .ev, .flashJournal, .ridge, .media, .mor, .diskJournal], [Obj.eventCount, Obj.eventLastAt, Obj.eventLastSubject, Obj.dlyStored, Obj.sdiTxAncDropped, Obj.txAncDropped], [0x40000004, 0x40000008]⟩ u1 x3 := by
            subst x3
            refine Only.seq (State.setSrc_only ..) ?_ (by decide)
            exact Only.refl _ _
          clear_value x3
          refine Only.ite ?_ ?_
          · exact hx3
          · refine Only.seq (State.raise_only ..) ?_ (by decide)
            exact hx3
        · refine Only.seq (State.attachAnc_only ..) ?_ (by decide)
          exact Only.refl _ _
  · exact Only.refl _ _

theorem State.attachWaiting_only (s_a slot_a seq_a) : Only ⟨[.out, .pinned, .ev, .flashJournal, .ridge, .media, .mor, .diskJournal], [Obj.eventCount, Obj.eventLastAt, Obj.eventLastSubject, Obj.dlyStored, Obj.sdiTxAncDropped, Obj.txAncDropped], [0x40000004, 0x40000008]⟩ s_a (State.attachWaiting s_a slot_a seq_a) := by
  unfold State.attachWaiting
  refine Only.foldl (fun u1 x2 => ?_) ?_
  · split
    · exact Only.refl _ _
    · extract_lets +onlyGivenNames x3
      extract_lets +onlyGivenNames x4
      refine Only.seq (State.ancStore_only ..) ?_ (by decide)
      refine Only.seq (State.setRxe_only ..) ?_ (by decide)
      exact Only.refl _ _
  · exact Only.refl _ _

theorem State.deliverAnc_only (s_a lead_a r_a) : Only ⟨[.out, .pinned, .ev, .flashJournal, .ridge, .media, .mor, .diskJournal], [Obj.eventCount, Obj.eventLastAt, Obj.eventLastSubject, Obj.dlyStored, Obj.sdiTxAncDropped, Obj.txAncDropped], [0x40000004, 0x40000008]⟩ s_a (State.deliverAnc s_a lead_a r_a) := by
  unfold State.deliverAnc
  extract_lets +onlyGivenNames x1
  extract_lets +onlyGivenNames x2
  split
  · refine Only.seq (State.ancStore_only ..) ?_ (by decide)
    exact Only.refl _ _
  · refine Only.ite ?_ ?_
    · exact Only.refl _ _
    · refine Only.seq (State.setRxe_only ..) ?_ (by decide)
      exact Only.refl _ _

theorem State.copyPixels_only (s_a slot_a seq_a spans_a) : Only ⟨[.out, .ridge, .media, .mor], [Obj.dlyStored], []⟩ s_a (State.copyPixels s_a slot_a seq_a spans_a) := by
  unfold State.copyPixels
  refine Only.seq (State.amendPic_only ..) ?_ (by decide)
  exact Only.refl _ _

theorem State.endAssembly_only (s_a lead_a) : Only ⟨[.out, .pinned, .ev, .flashJournal, .ridge, .media, .mor, .diskJournal], [Obj.srcLiveFormat, Obj.srcFramesWritten, Obj.eventCount, Obj.eventLastAt, Obj.eventLastSubject, Obj.dlyStored, Obj.rxConcealedFrames, Obj.srcFramesAbandoned, Obj.rxAbandonedFrames], [0x40000004, 0x40000008]⟩ s_a (State.endAssembly s_a lead_a) := by
  unfold State.endAssembly
  extract_lets +onlyGivenNames x1
  split
  · exact Only.refl _ _
  · extract_lets +onlyGivenNames x2
    extract_lets +onlyGivenNames x3
    extract_lets +onlyGivenNames x4
    extract_lets +onlyGivenNames x5
    extract_lets +onlyGivenNames x6
    have hx6 : Only ⟨[.out, .pinned, .ev, .flashJournal, .ridge, .media, .mor, .diskJournal], [Obj.srcLiveFormat, Obj.srcFramesWritten, Obj.eventCount, Obj.eventLastAt, Obj.eventLastSubject, Obj.dlyStored, Obj.rxConcealedFrames, Obj.srcFramesAbandoned, Obj.rxAbandonedFrames], [0x40000004, 0x40000008]⟩ s_a x6 := by
      subst x6
      refine Only.seq (State.setRxe_only ..) ?_ (by decide)
      exact Only.refl _ _
    clear_value x6
    refine Only.ite ?_ ?_
    · refine Only.seq (State.finishFrame_only ..) ?_ (by decide)
      exact hx6
    · refine Only.ite ?_ ?_
      · refine Only.seq (State.raiseLimited_only ..) ?_ (by decide)
        refine Only.seq (State.bump_only ..) ?_ (by decide)
        refine Only.seq (State.finishFrame_only ..) ?_ (by decide)
        refine Only.seq (State.copyPixels_only ..) ?_ (by decide)
        exact hx6
      · refine Only.seq (State.raise_only ..) ?_ (by decide)
        refine Only.seq (State.bump_only ..) ?_ (by decide)
        refine Only.seq (State.abandonFrame_only ..) ?_ (by decide)
        exact hx6

theorem State.beginAssembly_only (s_a lead_a release_a r_a) : Only ⟨[.out, .pinned, .ev, .flashJournal, .ridge, .media, .mor, .diskJournal], [Obj.srcLiveFormat, Obj.srcFramesWritten, Obj.eventCount, Obj.eventLastAt, Obj.eventLastSubject, Obj.srcFramesAbandoned, Obj.dlyStored, Obj.sdiTxAncDropped, Obj.txAncDropped], [0x40000004, 0x40000008]⟩ s_a (State.beginAssembly s_a lead_a release_a r_a) := by
  unfold State.beginAssembly
  extract_lets +onlyGivenNames x1
  extract_lets +onlyGivenNames x2
  extract_lets +onlyGivenNames x3
  extract_lets +onlyGivenNames x4
  extract_lets +onlyGivenNames x5
  have hx5 : Only ⟨[.out, .pinned, .ev, .flashJournal, .ridge, .media, .mor, .diskJournal], [Obj.srcLiveFormat, Obj.srcFramesWritten, Obj.eventCount, Obj.eventLastAt, Obj.eventLastSubject, Obj.srcFramesAbandoned, Obj.dlyStored, Obj.sdiTxAncDropped, Obj.txAncDropped], [0x40000004, 0x40000008]⟩ s_a x5 := by
    subst x5
    refine Only.seq (State.startFrame_only ..) ?_ (by decide)
    exact Only.refl _ _
  clear_value x5
  extract_lets +onlyGivenNames x6
  extract_lets +onlyGivenNames x7
  have hx7 : Only ⟨[.out, .pinned, .ev, .flashJournal, .ridge, .media, .mor, .diskJournal], [Obj.srcLiveFormat, Obj.srcFramesWritten, Obj.eventCount, Obj.eventLastAt, Obj.eventLastSubject, Obj.srcFramesAbandoned, Obj.dlyStored, Obj.sdiTxAncDropped, Obj.txAncDropped], [0x40000004, 0x40000008]⟩ s_a x7 := by
    subst x7
    refine Only.seq (State.setRxe_only ..) ?_ (by decide)
    exact hx5
  clear_value x7
  refine Only.seq (State.attachWaiting_only ..) ?_ (by decide)
  exact hx7

theorem State.placeSegments_only (s_a lead_a lost_a p_a) : Only ⟨[.out, .pinned, .ev, .flashJournal, .ridge, .media, .mor, .diskJournal], [Obj.rxGeometryErr, Obj.eventCount, Obj.eventLastAt, Obj.eventLastSubject, Obj.dlyStored], [0x40000004, 0x40000008]⟩ s_a (State.placeSegments s_a lead_a lost_a p_a) := by
  unfold State.placeSegments
  extract_lets +onlyGivenNames x1
  extract_lets +onlyGivenNames x2
  extract_lets +onlyGivenNames x3
  extract_lets +onlyGivenNames x4
  have hx4 : Only ⟨[.out, .pinned, .ev, .flashJournal, .ridge, .media, .mor, .diskJournal], [Obj.rxGeometryErr, Obj.eventCount, Obj.eventLastAt, Obj.eventLastSubject, Obj.dlyStored], [0x40000004, 0x40000008]⟩ s_a x4 := by
    subst x4
    refine Only.ite ?_ ?_
    · exact Only.refl _ _
    · refine Only.seq (State.raiseLimited_only ..) ?_ (by decide)
      refine Only.seq (State.bump_only ..) ?_ (by decide)
      exact Only.refl _ _
  clear_value x4
  split
  · exact hx4
  · extract_lets +onlyGivenNames x5
    extract_lets +onlyGivenNames x6
    extract_lets +onlyGivenNames x7
    extract_lets +onlyGivenNames x8
    extract_lets +onlyGivenNames x9
    extract_lets +onlyGivenNames x10
    extract_lets +onlyGivenNames x11
    extract_lets +onlyGivenNames x12
    extract_lets +onlyGivenNames x13
    have hx13 : Only ⟨[.out, .pinned, .ev, .flashJournal, .ridge, .media, .mor, .diskJournal], [Obj.rxGeometryErr, Obj.eventCount, Obj.eventLastAt, Obj.eventLastSubject, Obj.dlyStored], [0x40000004, 0x40000008]⟩ s_a x13 := by
      subst x13
      refine Only.seq (State.copyPixels_only ..) ?_ (by decide)
      refine Only.seq (State.setRxe_only ..) ?_ (by decide)
      exact hx4
    clear_value x13
    refine Only.seq (State.setSrc_only ..) ?_ (by decide)
    exact hx13

theorem State.deliverVideo_only (s_a lead_a release_a lost_a r_a) : Only ⟨[.out, .pinned, .ev, .flashJournal, .sdiRx, .ridge, .media, .mor, .diskJournal], [Obj.srcLiveFormat, Obj.srcFramesWritten, Obj.eventCount, Obj.eventLastAt, Obj.eventLastSubject, Obj.dlyStored, Obj.rxConcealedFrames, Obj.srcFramesAbandoned, Obj.rxAbandonedFrames, Obj.rxFlowState, Obj.embFormat, Obj.embPayloadId, Obj.embStructure, Obj.srcFeedKind, Obj.srcState, Obj.srcReservationStatus, Obj.srcColourLive, Obj.sdiTxAncDropped, Obj.txAncDropped, Obj.rxGeometryErr], [0x40000004, 0x40000008]⟩ s_a (State.deliverVideo s_a lead_a release_a lost_a r_a) := by
  unfold State.deliverVideo
  extract_lets +onlyGivenNames x1
  extract_lets +onlyGivenNames x2
  extract_lets +onlyGivenNames x3
  extract_lets +onlyGivenNames x4
  extract_lets +onlyGivenNames x5
  have hx5 : Only ⟨[.out, .pinned, .ev, .flashJournal, .sdiRx, .ridge, .media, .mor, .diskJournal], [Obj.srcLiveFormat, Obj.srcFramesWritten, Obj.eventCount, Obj.eventLastAt, Obj.eventLastSubject, Obj.dlyStored, Obj.rxConcealedFrames, Obj.srcFramesAbandoned, Obj.rxAbandonedFrames, Obj.rxFlowState, Obj.embFormat, Obj.embPayloadId, Obj.embStructure, Obj.srcFeedKind, Obj.srcState, Obj.srcReservationStatus, Obj.srcColourLive, Obj.sdiTxAncDropped, Obj.txAncDropped, Obj.rxGeometryErr], [0x40000004, 0x40000008]⟩ s_a x5 := by
    subst x5
    refine Only.ite ?_ ?_
    · exact Only.refl _ _
    · refine Only.seq (State.endAssembly_only ..) ?_ (by decide)
      exact Only.refl _ _
  clear_value x5
  extract_lets +onlyGivenNames x6
  have hx6 : Only ⟨[.out, .pinned, .ev, .flashJournal, .sdiRx, .ridge, .media, .mor, .diskJournal], [Obj.srcLiveFormat, Obj.srcFramesWritten, Obj.eventCount, Obj.eventLastAt, Obj.eventLastSubject, Obj.dlyStored, Obj.rxConcealedFrames, Obj.srcFramesAbandoned, Obj.rxAbandonedFrames, Obj.rxFlowState, Obj.embFormat, Obj.embPayloadId, Obj.embStructure, Obj.srcFeedKind, Obj.srcState, Obj.srcReservationStatus, Obj.srcColourLive, Obj.sdiTxAncDropped, Obj.txAncDropped, Obj.rxGeometryErr], [0x40000004, 0x40000008]⟩ s_a x6 := by
    subst x6
    refine Only.ite ?_ ?_
    · refine Only.seq (State.setFlow_only ..) ?_ (by decide)
      exact hx5
    · exact hx5
  clear_value x6
  refine Only.ite ?_ ?_
  · exact hx6
  · extract_lets +onlyGivenNames x7
    extract_lets +onlyGivenNames x8
    have hx8 : Only ⟨[.out, .pinned, .ev, .flashJournal, .sdiRx, .ridge, .media, .mor, .diskJournal], [Obj.srcLiveFormat, Obj.srcFramesWritten, Obj.eventCount, Obj.eventLastAt, Obj.eventLastSubject, Obj.dlyStored, Obj.rxConcealedFrames, Obj.srcFramesAbandoned, Obj.rxAbandonedFrames, Obj.rxFlowState, Obj.embFormat, Obj.embPayloadId, Obj.embStructure, Obj.srcFeedKind, Obj.srcState, Obj.srcReservationStatus, Obj.srcColourLive, Obj.sdiTxAncDropped, Obj.txAncDropped, Obj.rxGeometryErr], [0x40000004, 0x40000008]⟩ s_a x8 := by
      subst x8
      refine Only.ite ?_ ?_
      · split
        · refine Only.seq (State.setRxe_only ..) ?_ (by decide)
          exact hx6
        · exact hx6
      · refine Only.seq (State.beginAssembly_only ..) ?_ (by decide)
        exact hx6
    clear_value x8
    extract_lets +onlyGivenNames x9
    have hx9 : Only ⟨[.out, .pinned, .ev, .flashJournal, .sdiRx, .ridge, .media, .mor, .diskJournal], [Obj.srcLiveFormat, Obj.srcFramesWritten, Obj.eventCount, Obj.eventLastAt, Obj.eventLastSubject, Obj.dlyStored, Obj.rxConcealedFrames, Obj.srcFramesAbandoned, Obj.rxAbandonedFrames, Obj.rxFlowState, Obj.embFormat, Obj.embPayloadId, Obj.embStructure, Obj.srcFeedKind, Obj.srcState, Obj.srcReservationStatus, Obj.srcColourLive, Obj.sdiTxAncDropped, Obj.txAncDropped, Obj.rxGeometryErr], [0x40000004, 0x40000008]⟩ s_a x9 := by
      subst x9
      refine Only.seq (State.placeSegments_only ..) ?_ (by decide)
      exact hx8
    clear_value x9
    refine Only.ite ?_ ?_
    · refine Only.seq (State.endAssembly_only ..) ?_ (by decide)
      exact hx9
    · exact hx9

theorem State.endSdi_only (s_a lead_a) : Only ⟨[.out, .pinned, .ev, .flashJournal, .sdiRx, .ridge, .media, .diskJournal], [Obj.srcLiveFormat, Obj.srcFramesWritten, Obj.eventCount, Obj.eventLastAt, Obj.eventLastSubject, Obj.rxConcealedFrames, Obj.srcFramesAbandoned, Obj.rxAbandonedFrames], [0x40000004, 0x40000008]⟩ s_a (State.endSdi s_a lead_a) := by
  unfold State.endSdi
  split
  · exact Only.refl _ _
  · extract_lets +onlyGivenNames x1
    extract_lets +onlyGivenNames x2
    extract_lets +onlyGivenNames x3
    extract_lets +onlyGivenNames x4
    have hx4 : Only ⟨[.out, .pinned, .ev, .flashJournal, .sdiRx, .ridge, .media, .diskJournal], [Obj.srcLiveFormat, Obj.srcFramesWritten, Obj.eventCount, Obj.eventLastAt, Obj.eventLastSubject, Obj.rxConcealedFrames, Obj.srcFramesAbandoned, Obj.rxAbandonedFrames], [0x40000004, 0x40000008]⟩ s_a x4 := by
      subst x4
      refine Only.seq (State.setRxe_only ..) ?_ (by decide)
      exact Only.refl _ _
    clear_value x4
    refine Only.ite ?_ ?_
    · refine Only.seq (State.endWrite_only ..) ?_ (by decide)
      exact hx4
    · refine Only.ite ?_ ?_
      · refine Only.seq (State.raiseLimited_only ..) ?_ (by decide)
        refine Only.seq (State.bump_only ..) ?_ (by decide)
        refine Only.seq (State.endWrite_only ..) ?_ (by decide)
        exact hx4
      · refine Only.seq (State.raise_only ..) ?_ (by decide)
        refine Only.seq (State.bump_only ..) ?_ (by decide)
        refine Only.seq (State.ancAbandon_only ..) ?_ (by decide)
        refine Only.seq (State.abandonFrame_only ..) ?_ (by decide)
        exact hx4

theorem State.beginSdi_only (s_a lead_a release_a r_a) : Only ⟨[.out, .pinned, .ev, .flashJournal, .sdiRx, .ridge, .media, .au, .diskJournal], [Obj.rxFormat, Obj.embFormat, Obj.rxStructure, Obj.embStructure, Obj.eventCount, Obj.eventLastAt, Obj.eventLastSubject, Obj.rxPayloadId, Obj.embPayloadId, Obj.srcFeedKind, Obj.srcState, Obj.srcReservationStatus, Obj.srcFramesAbandoned, Obj.srcColourLive, Obj.srcLiveFormat, Obj.srcFramesWritten], [0x40000004, 0x40000008]⟩ s_a (State.beginSdi s_a lead_a release_a r_a) := by
  unfold State.beginSdi
  extract_lets +onlyGivenNames x1
  extract_lets +onlyGivenNames x2
  extract_lets +onlyGivenNames x3
  have hx3 : Only ⟨[.out, .pinned, .ev, .flashJournal, .sdiRx, .ridge, .media, .au, .diskJournal], [Obj.rxFormat, Obj.embFormat, Obj.rxStructure, Obj.embStructure, Obj.eventCount, Obj.eventLastAt, Obj.eventLastSubject, Obj.rxPayloadId, Obj.embPayloadId, Obj.srcFeedKind, Obj.srcState, Obj.srcReservationStatus, Obj.srcFramesAbandoned, Obj.srcColourLive, Obj.srcLiveFormat, Obj.srcFramesWritten], [0x40000004, 0x40000008]⟩ s_a x3 := by
    subst x3
    refine Only.seq (State.applyPids_only ..) ?_ (by decide)
    exact Only.refl _ _
  clear_value x3
  refine Only.ite ?_ ?_
  · exact hx3
  · extract_lets +onlyGivenNames x4
    extract_lets +onlyGivenNames x5
    have hx5 : Only ⟨[.out, .pinned, .ev, .flashJournal, .sdiRx, .ridge, .media, .au, .diskJournal], [Obj.rxFormat, Obj.embFormat, Obj.rxStructure, Obj.embStructure, Obj.eventCount, Obj.eventLastAt, Obj.eventLastSubject, Obj.rxPayloadId, Obj.embPayloadId, Obj.srcFeedKind, Obj.srcState, Obj.srcReservationStatus, Obj.srcFramesAbandoned, Obj.srcColourLive, Obj.srcLiveFormat, Obj.srcFramesWritten], [0x40000004, 0x40000008]⟩ s_a x5 := by
      subst x5
      refine Only.seq (State.setInLatency_only ..) ?_ (by decide)
      exact hx3
    clear_value x5
    extract_lets +onlyGivenNames x6
    extract_lets +onlyGivenNames x7
    have hx7 : Only ⟨[.out, .pinned, .ev, .flashJournal, .sdiRx, .ridge, .media, .au, .diskJournal], [Obj.rxFormat, Obj.embFormat, Obj.rxStructure, Obj.embStructure, Obj.eventCount, Obj.eventLastAt, Obj.eventLastSubject, Obj.rxPayloadId, Obj.embPayloadId, Obj.srcFeedKind, Obj.srcState, Obj.srcReservationStatus, Obj.srcFramesAbandoned, Obj.srcColourLive, Obj.srcLiveFormat, Obj.srcFramesWritten], [0x40000004, 0x40000008]⟩ s_a x7 := by
      subst x7
      refine Only.seq (State.startFrame_only ..) ?_ (by decide)
      exact hx5
    clear_value x7
    refine Only.seq (State.ancBegin_only ..) ?_ (by decide)
    refine Only.seq (State.setRxe_only ..) ?_ (by decide)
    exact hx7

theorem State.deliverSdi_only (s_a lead_a release_a lost_a r_a) : Only ⟨[.out, .pinned, .ev, .flashJournal, .sdiRx, .ridge, .media, .au, .diskJournal], [Obj.srcLiveFormat, Obj.srcFramesWritten, Obj.eventCount, Obj.eventLastAt, Obj.eventLastSubject, Obj.rxConcealedFrames, Obj.srcFramesAbandoned, Obj.rxAbandonedFrames, Obj.rxFormat, Obj.embFormat, Obj.rxStructure, Obj.embStructure, Obj.rxPayloadId, Obj.embPayloadId, Obj.srcFeedKind, Obj.srcState, Obj.srcReservationStatus, Obj.srcColourLive], [0x40000004, 0x40000008]⟩ s_a (State.deliverSdi s_a lead_a release_a lost_a r_a) := by
  unfold State.deliverSdi
  extract_lets +onlyGivenNames x1
  extract_lets +onlyGivenNames x2
  have hx2 : Only ⟨[.out, .pinned, .ev, .flashJournal, .sdiRx, .ridge, .media, .au, .diskJournal], [Obj.srcLiveFormat, Obj.srcFramesWritten, Obj.eventCount, Obj.eventLastAt, Obj.eventLastSubject, Obj.rxConcealedFrames, Obj.srcFramesAbandoned, Obj.rxAbandonedFrames, Obj.rxFormat, Obj.embFormat, Obj.rxStructure, Obj.embStructure, Obj.rxPayloadId, Obj.embPayloadId, Obj.srcFeedKind, Obj.srcState, Obj.srcReservationStatus, Obj.srcColourLive], [0x40000004, 0x40000008]⟩ s_a x2 := by
    subst x2
    split
    · refine Only.seq (State.setRxe_only ..) ?_ (by decide)
      exact Only.refl _ _
    · exact Only.refl _ _
  clear_value x2
  refine Only.ite ?_ ?_
  · refine Only.seq (State.beginSdi_only ..) ?_ (by decide)
    refine Only.seq (State.endSdi_only ..) ?_ (by decide)
    exact hx2
  · exact hx2

theorem State.deliverAudio_only (s_a lead_a release_a lost_a r_a) : Only ⟨[.au], [Obj.aiNonAudio], []⟩ s_a (State.deliverAudio s_a lead_a release_a lost_a r_a) := by
  unfold State.deliverAudio
  extract_lets +onlyGivenNames x1
  extract_lets +onlyGivenNames x2
  extract_lets +onlyGivenNames x3
  extract_lets +onlyGivenNames x4
  have hx4 : Only ⟨[.au], [Obj.aiNonAudio], []⟩ s_a x4 := by
    subst x4
    refine Only.seq (State.setInLatency_only ..) ?_ (by decide)
    exact Only.refl _ _
  clear_value x4
  extract_lets +onlyGivenNames x5
  extract_lets +onlyGivenNames x6
  have hx6 : Only ⟨[.au], [Obj.aiNonAudio], []⟩ s_a x6 := by
    subst x6
    refine Only.ite ?_ ?_
    · refine Only.seq (State.setNonAudio_only ..) ?_ (by decide)
      exact hx4
    · exact hx4
  clear_value x6
  refine Only.seq (State.queueFrames_only ..) ?_ (by decide)
  exact hx6

theorem State.deliver_only (s_a lead_a release_a lost_a r_a) : Only ⟨[.out, .pinned, .ev, .flashJournal, .sdiRx, .ridge, .media, .au, .mor, .diskJournal], [Obj.srcLiveFormat, Obj.srcFramesWritten, Obj.eventCount, Obj.eventLastAt, Obj.eventLastSubject, Obj.dlyStored, Obj.rxConcealedFrames, Obj.srcFramesAbandoned, Obj.rxAbandonedFrames, Obj.rxFlowState, Obj.embFormat, Obj.embPayloadId, Obj.embStructure, Obj.srcFeedKind, Obj.srcState, Obj.srcReservationStatus, Obj.srcColourLive, Obj.sdiTxAncDropped, Obj.txAncDropped, Obj.rxGeometryErr, Obj.aiNonAudio, Obj.rxFormat, Obj.rxStructure, Obj.rxPayloadId], [0x40000004, 0x40000008]⟩ s_a (State.deliver s_a lead_a release_a lost_a r_a) := by
  unfold State.deliver
  split
  · refine Only.seq (State.deliverVideo_only ..) ?_ (by decide)
    exact Only.refl _ _
  · refine Only.seq (State.deliverAudio_only ..) ?_ (by decide)
    exact Only.refl _ _
  · refine Only.seq (State.deliverAudio_only ..) ?_ (by decide)
    exact Only.refl _ _
  · refine Only.seq (State.deliverAnc_only ..) ?_ (by decide)
    exact Only.refl _ _
  · refine Only.seq (State.deliverSdi_only ..) ?_ (by decide)
    exact Only.refl _ _
  · refine Only.foldl (fun u1 x2 => ?_) ?_
    · refine Only.ite ?_ ?_
      · refine Only.seq (State.setTxe_only ..) ?_ (by decide)
        exact Only.refl _ _
      · exact Only.refl _ _
    · exact Only.refl _ _
  · exact Only.refl _ _

theorem execPacketRelease_only (dt_a entry_a s_a) : OnlyR ⟨[.out, .now, .tc, .pinned, .ev, .flashJournal, .sdiRx, .ridge, .media, .au, .mor, .diskJournal], [Obj.rxPathLost, Obj.eventCount, Obj.eventLastAt, Obj.eventLastSubject, Obj.rxLostPackets, Obj.srcLiveFormat, Obj.srcFramesWritten, Obj.dlyStored, Obj.rxConcealedFrames, Obj.srcFramesAbandoned, Obj.rxAbandonedFrames, Obj.rxFlowState, Obj.embFormat, Obj.embPayloadId, Obj.embStructure, Obj.srcFeedKind, Obj.srcState, Obj.srcReservationStatus, Obj.srcColourLive, Obj.sdiTxAncDropped, Obj.txAncDropped, Obj.rxGeometryErr, Obj.aiNonAudio, Obj.rxFormat, Obj.rxStructure, Obj.rxPayloadId], [0x40000004, 0x40000008]⟩ s_a (execPacketRelease dt_a entry_a s_a) := by
  unfold execPacketRelease
  refine actIf_only (hk3 := fun u1 => ?_) (l := (by decide)) ..
  extract_lets +onlyGivenNames x2
  split
  · exact Only.refl _ _
  · extract_lets +onlyGivenNames x3
    refine Only.ite ?_ ?_
    · exact Only.refl _ _
    · extract_lets +onlyGivenNames x4
      extract_lets +onlyGivenNames x5
      extract_lets +onlyGivenNames x6
      have hx6 : Only ⟨[.out, .now, .tc, .pinned, .ev, .flashJournal, .sdiRx, .ridge, .media, .au, .mor, .diskJournal], [Obj.rxPathLost, Obj.eventCount, Obj.eventLastAt, Obj.eventLastSubject, Obj.rxLostPackets, Obj.srcLiveFormat, Obj.srcFramesWritten, Obj.dlyStored, Obj.rxConcealedFrames, Obj.srcFramesAbandoned, Obj.rxAbandonedFrames, Obj.rxFlowState, Obj.embFormat, Obj.embPayloadId, Obj.embStructure, Obj.srcFeedKind, Obj.srcState, Obj.srcReservationStatus, Obj.srcColourLive, Obj.sdiTxAncDropped, Obj.txAncDropped, Obj.rxGeometryErr, Obj.aiNonAudio, Obj.rxFormat, Obj.rxStructure, Obj.rxPayloadId], [0x40000004, 0x40000008]⟩ u1 x6 := by
        subst x6
        refine Only.ite ?_ ?_
        · exact Only.refl _ _
        · refine Only.foldl (fun u7 x8 => ?_) ?_
          · refine Only.seq (State.bump_only ..) ?_ (by decide)
            exact Only.refl _ _
          · refine Only.seq (State.bump_only ..) ?_ (by decide)
            exact Only.refl _ _
      clear_value x6
      extract_lets +onlyGivenNames x9
      have hx9 : Only ⟨[.out, .now, .tc, .pinned, .ev, .flashJournal, .sdiRx, .ridge, .media, .au, .mor, .diskJournal], [Obj.rxPathLost, Obj.eventCount, Obj.eventLastAt, Obj.eventLastSubject, Obj.rxLostPackets, Obj.srcLiveFormat, Obj.srcFramesWritten, Obj.dlyStored, Obj.rxConcealedFrames, Obj.srcFramesAbandoned, Obj.rxAbandonedFrames, Obj.rxFlowState, Obj.embFormat, Obj.embPayloadId, Obj.embStructure, Obj.srcFeedKind, Obj.srcState, Obj.srcReservationStatus, Obj.srcColourLive, Obj.sdiTxAncDropped, Obj.txAncDropped, Obj.rxGeometryErr, Obj.aiNonAudio, Obj.rxFormat, Obj.rxStructure, Obj.rxPayloadId], [0x40000004, 0x40000008]⟩ u1 x9 := by
        subst x9
        refine Only.foldl (fun u10 x11 => ?_) ?_
        · refine Only.ite ?_ ?_
          · exact Only.refl _ _
          · refine Only.seq (State.bump_only ..) ?_ (by decide)
            exact Only.refl _ _
        · exact hx6
      clear_value x9
      extract_lets +onlyGivenNames x12
      extract_lets +onlyGivenNames x13
      have hx13 : Only ⟨[.out, .now, .tc, .pinned, .ev, .flashJournal, .sdiRx, .ridge, .media, .au, .mor, .diskJournal], [Obj.rxPathLost, Obj.eventCount, Obj.eventLastAt, Obj.eventLastSubject, Obj.rxLostPackets, Obj.srcLiveFormat, Obj.srcFramesWritten, Obj.dlyStored, Obj.rxConcealedFrames, Obj.srcFramesAbandoned, Obj.rxAbandonedFrames, Obj.rxFlowState, Obj.embFormat, Obj.embPayloadId, Obj.embStructure, Obj.srcFeedKind, Obj.srcState, Obj.srcReservationStatus, Obj.srcColourLive, Obj.sdiTxAncDropped, Obj.txAncDropped, Obj.rxGeometryErr, Obj.aiNonAudio, Obj.rxFormat, Obj.rxStructure, Obj.rxPayloadId], [0x40000004, 0x40000008]⟩ u1 x13 := by
        subst x13
        refine Only.seq (State.setRxe_only ..) ?_ (by decide)
        exact hx9
      clear_value x13
      extract_lets +onlyGivenNames x14
      extract_lets +onlyGivenNames x15
      have hx15 : Only ⟨[.out, .now, .tc, .pinned, .ev, .flashJournal, .sdiRx, .ridge, .media, .au, .mor, .diskJournal], [Obj.rxPathLost, Obj.eventCount, Obj.eventLastAt, Obj.eventLastSubject, Obj.rxLostPackets, Obj.srcLiveFormat, Obj.srcFramesWritten, Obj.dlyStored, Obj.rxConcealedFrames, Obj.srcFramesAbandoned, Obj.rxAbandonedFrames, Obj.rxFlowState, Obj.embFormat, Obj.embPayloadId, Obj.embStructure, Obj.srcFeedKind, Obj.srcState, Obj.srcReservationStatus, Obj.srcColourLive, Obj.sdiTxAncDropped, Obj.txAncDropped, Obj.rxGeometryErr, Obj.aiNonAudio, Obj.rxFormat, Obj.rxStructure, Obj.rxPayloadId], [0x40000004, 0x40000008]⟩ u1 x15 := by
        subst x15
        refine Only.seq (State.setRxe_only ..) ?_ (by decide)
        exact hx13
      clear_value x15
      extract_lets +onlyGivenNames x16
      have hx16 : Only ⟨[.out, .now, .tc, .pinned, .ev, .flashJournal, .sdiRx, .ridge, .media, .au, .mor, .diskJournal], [Obj.rxPathLost, Obj.eventCount, Obj.eventLastAt, Obj.eventLastSubject, Obj.rxLostPackets, Obj.srcLiveFormat, Obj.srcFramesWritten, Obj.dlyStored, Obj.rxConcealedFrames, Obj.srcFramesAbandoned, Obj.rxAbandonedFrames, Obj.rxFlowState, Obj.embFormat, Obj.embPayloadId, Obj.embStructure, Obj.srcFeedKind, Obj.srcState, Obj.srcReservationStatus, Obj.srcColourLive, Obj.sdiTxAncDropped, Obj.txAncDropped, Obj.rxGeometryErr, Obj.aiNonAudio, Obj.rxFormat, Obj.rxStructure, Obj.rxPayloadId], [0x40000004, 0x40000008]⟩ u1 x16 := by
        subst x16
        refine Only.seq (State.deliver_only ..) ?_ (by decide)
        exact hx15
      clear_value x16
      refine Only.seq (State.setRxe_only ..) ?_ (by decide)
      exact hx16

theorem execFlowLost_only (dt_a entry_a s_a) : OnlyR ⟨[.out, .now, .tc, .pinned, .ev, .flashJournal, .sdiRx, .ridge, .media, .diskJournal], [Obj.rxFlowState, Obj.eventCount, Obj.eventLastAt, Obj.eventLastSubject, Obj.embFormat, Obj.embPayloadId, Obj.embStructure, Obj.srcFeedKind, Obj.srcState, Obj.srcReservationStatus, Obj.srcFramesAbandoned, Obj.srcColourLive, Obj.rxPdvHistogram], [0x40000004, 0x40000008]⟩ s_a (execFlowLost dt_a entry_a s_a) := by
  unfold execFlowLost
  refine actIf_only (hk3 := fun u1 => ?_) (l := (by decide)) ..
  refine Only.seq (State.enterWaiting_only ..) ?_ (by decide)
  exact Only.refl _ _

theorem execMergePathLost_only (dt_a entry_a s_a) : OnlyR ⟨[.out, .now, .tc, .pinned, .ev, .flashJournal, .media, .diskJournal], [Obj.eventCount, Obj.eventLastAt, Obj.eventLastSubject], [0x40000004, 0x40000008]⟩ s_a (execMergePathLost dt_a entry_a s_a) := by
  unfold execMergePathLost
  refine actIf_only (hk3 := fun u1 => ?_) (l := (by decide)) ..
  refine Only.seq (State.raise_only ..) ?_ (by decide)
  refine Only.seq (State.setRxe_only ..) ?_ (by decide)
  exact Only.refl _ _

theorem execMergePathRestored_only (dt_a entry_a s_a) : OnlyR ⟨[.out, .now, .tc, .pinned, .ev, .flashJournal, .media, .diskJournal], [Obj.eventCount, Obj.eventLastAt, Obj.eventLastSubject], [0x40000004, 0x40000008]⟩ s_a (execMergePathRestored dt_a entry_a s_a) := by
  unfold execMergePathRestored
  refine actIf_only (hk3 := fun u1 => ?_) (l := (by decide)) ..
  refine Only.seq (State.raise_only ..) ?_ (by decide)
  refine Only.seq (State.setRxe_only ..) ?_ (by decide)
  exact Only.refl _ _

theorem execAncUnmatched_only (dt_a entry_a s_a) : OnlyR ⟨[.out, .now, .tc, .pinned, .ev, .flashJournal, .media, .diskJournal], [Obj.rxAncUnmatched, Obj.eventCount, Obj.eventLastAt, Obj.eventLastSubject], [0x40000004, 0x40000008]⟩ s_a (execAncUnmatched dt_a entry_a s_a) := by
  unfold execAncUnmatched
  refine actIf_only (hk3 := fun u1 => ?_) (l := (by decide)) ..
  extract_lets +onlyGivenNames x2
  extract_lets +onlyGivenNames x3
  extract_lets +onlyGivenNames x4
  extract_lets +onlyGivenNames x5
  refine Only.seq (State.ancLost_only ..) ?_ (by decide)
  refine Only.seq (State.setRxe_only ..) ?_ (by decide)
  exact Only.refl _ _

theorem execPdvSecond_only (dt_a entry_a s_a) : OnlyR ⟨[.out, .now, .tc, .pinned, .ev, .flashJournal, .media, .diskJournal], [Obj.rxPdvMax, Obj.rxPdvHistogram, Obj.eventCount, Obj.eventLastAt, Obj.eventLastSubject], [0x40000004, 0x40000008]⟩ s_a (execPdvSecond dt_a entry_a s_a) := by
  unfold execPdvSecond
  refine actIf_only (hk3 := fun u1 => ?_) (l := (by decide)) ..
  extract_lets +onlyGivenNames x2
  extract_lets +onlyGivenNames x3
  extract_lets +onlyGivenNames x4
  extract_lets +onlyGivenNames x5
  extract_lets +onlyGivenNames x6
  have hx6 : Only ⟨[.out, .now, .tc, .pinned, .ev, .flashJournal, .media, .diskJournal], [Obj.rxPdvMax, Obj.rxPdvHistogram, Obj.eventCount, Obj.eventLastAt, Obj.eventLastSubject], [0x40000004, 0x40000008]⟩ u1 x6 := by
    subst x6
    refine Only.seq (State.setRxe_only ..) ?_ (by decide)
    exact Only.refl _ _
  clear_value x6
  refine Only.seq (State.capture_only ..) ?_ (by decide)
  refine Only.seq (State.setN_only ..) ?_ (by decide)
  exact hx6

theorem execMpLinkUp_only (dt_a port_a s_a) : OnlyR ⟨[.out, .now, .tc, .pinned, .ev, .flashJournal, .media, .diskJournal], [Obj.portLinkStateB, Obj.portLinkState, Obj.eventCount, Obj.eventLastAt, Obj.eventLastSubject, Obj.txFlowState, Obj.portTxFramesB, Obj.portTxFrames, Obj.portTxBytesB, Obj.portTxBytes], [0x40000004, 0x40000008]⟩ s_a (execMpLinkUp dt_a port_a s_a) := by
  unfold execMpLinkUp
  refine actIf_only (hk3 := fun u1 => ?_) (l := (by decide)) ..
  refine Only.seq (State.refreshTxPort_only ..) ?_ (by decide)
  refine Only.seq (State.raise_only ..) ?_ (by decide)
  refine Only.seq (State.setN_only ..) ?_ (by unfold portIdx; split <;> first | decide | simp [Reach.le])
  exact Only.refl _ _

theorem execMpLinkDown_only (dt_a port_a s_a) : OnlyR ⟨[.out, .now, .tc, .pinned, .ev, .flashJournal, .media, .diskJournal], [Obj.portLinkStateB, Obj.portLinkState, Obj.eventCount, Obj.eventLastAt, Obj.eventLastSubject, Obj.txFlowState, Obj.portTxFramesB, Obj.portTxFrames, Obj.portTxBytesB, Obj.portTxBytes], [0x40000004, 0x40000008]⟩ s_a (execMpLinkDown dt_a port_a s_a) := by
  unfold execMpLinkDown
  refine actIf_only (hk3 := fun u1 => ?_) (l := (by decide)) ..
  refine Only.seq (State.refreshTxPort_only ..) ?_ (by decide)
  refine Only.seq (State.raise_only ..) ?_ (by decide)
  refine Only.seq (State.setN_only ..) ?_ (by unfold portIdx; split <;> first | decide | simp [Reach.le])
  exact Only.refl _ _

theorem State.portCommit_only (s_a old_a) : Only ⟨[.out, .pinned, .ev, .flashJournal, .media, .diskJournal], [Obj.portLinkStateB, Obj.portLinkState, Obj.eventCount, Obj.eventLastAt, Obj.eventLastSubject, Obj.txFlowState, Obj.portTxFramesB, Obj.portTxFrames, Obj.portTxBytesB, Obj.portTxBytes], [0x40000004, 0x40000008]⟩ s_a (State.portCommit s_a old_a) := by
  unfold State.portCommit
  extract_lets +onlyGivenNames x1
  refine Only.foldl (fun u2 x3 => ?_) ?_
  · extract_lets +onlyGivenNames x4
    extract_lets +onlyGivenNames x5
    refine Only.ite ?_ ?_
    · exact Only.refl _ _
    · extract_lets +onlyGivenNames x6
      extract_lets +onlyGivenNames x7
      have hx7 : Only ⟨[.out, .pinned, .ev, .flashJournal, .media, .diskJournal], [Obj.portLinkStateB, Obj.portLinkState, Obj.eventCount, Obj.eventLastAt, Obj.eventLastSubject, Obj.txFlowState, Obj.portTxFramesB, Obj.portTxFrames, Obj.portTxBytesB, Obj.portTxBytes], [0x40000004, 0x40000008]⟩ u2 x7 := by
        subst x7
        refine Only.seq (State.setN_only ..) ?_ (by unfold portIdx; split <;> first | decide | simp [Reach.le])
        exact Only.refl _ _
      clear_value x7
      refine Only.seq (State.refreshTxPort_only ..) ?_ (by decide)
      refine Only.ite ?_ ?_
      · refine Only.seq (State.raise_only ..) ?_ (by decide)
        exact hx7
      · exact hx7
  · exact Only.refl _ _

theorem State.rxRelead_only (s_a old_a e_a) : Only ⟨[.media], [Obj.rxFlowState], []⟩ s_a (State.rxRelead s_a old_a e_a) := by
  unfold State.rxRelead
  extract_lets +onlyGivenNames x1
  extract_lets +onlyGivenNames x2
  refine Only.ite ?_ ?_
  · exact Only.refl _ _
  · refine Only.seq (State.setN_only ..) ?_ (by decide)
    refine Only.seq (State.setRxe_only ..) ?_ (by decide)
    exact Only.refl _ _

theorem State.rxDefaults_only (s_a e_a) : Only ⟨[.objs], [], []⟩ s_a (State.rxDefaults s_a e_a) := by
  unfold State.rxDefaults
  extract_lets +onlyGivenNames x1
  extract_lets +onlyGivenNames x2
  have hx2 : Only ⟨[.objs], [], []⟩ s_a x2 := by
    subst x2
    refine Only.ite ?_ ?_
    · refine Only.foldl (fun u3 x4 => ?_) ?_
      · refine Only.seq (State.toDefault_only ..) ?_ (by simp [Reach.le])
        exact Only.refl _ _
      · exact Only.refl _ _
    · exact Only.refl _ _
  clear_value x2
  refine Only.ite ?_ ?_
  · refine Only.foldl (fun u5 x6 => ?_) ?_
    · refine Only.seq (State.toDefault_only ..) ?_ (by simp [Reach.le])
      exact Only.refl _ _
    · exact hx2
  · exact hx2

theorem State.rxIdle_only (s_a old_a e_a) : Only ⟨[.out, .pinned, .ev, .flashJournal, .sdiRx, .ridge, .media, .diskJournal], [Obj.rxFlowState, Obj.embFormat, Obj.embPayloadId, Obj.embStructure, Obj.eventCount, Obj.eventLastAt, Obj.eventLastSubject, Obj.srcFeedKind, Obj.srcState, Obj.srcReservationStatus, Obj.srcFramesAbandoned, Obj.srcColourLive], [0x40000004, 0x40000008]⟩ s_a (State.rxIdle s_a old_a e_a) := by
  unfold State.rxIdle
  extract_lets +onlyGivenNames x1
  extract_lets +onlyGivenNames x2
  have hx2 : Only ⟨[.out, .pinned, .ev, .flashJournal, .sdiRx, .ridge, .media, .diskJournal], [Obj.rxFlowState, Obj.embFormat, Obj.embPayloadId, Obj.embStructure, Obj.eventCount, Obj.eventLastAt, Obj.eventLastSubject, Obj.srcFeedKind, Obj.srcState, Obj.srcReservationStatus, Obj.srcFramesAbandoned, Obj.srcColourLive], [0x40000004, 0x40000008]⟩ s_a x2 := by
    subst x2
    refine Only.seq (State.clearEmb_only ..) ?_ (by decide)
    refine Only.seq (State.setN_only ..) ?_ (by decide)
    exact Only.refl _ _
  clear_value x2
  extract_lets +onlyGivenNames x3
  have hx3 : Only ⟨[.out, .pinned, .ev, .flashJournal, .sdiRx, .ridge, .media, .diskJournal], [Obj.rxFlowState, Obj.embFormat, Obj.embPayloadId, Obj.embStructure, Obj.eventCount, Obj.eventLastAt, Obj.eventLastSubject, Obj.srcFeedKind, Obj.srcState, Obj.srcReservationStatus, Obj.srcFramesAbandoned, Obj.srcColourLive], [0x40000004, 0x40000008]⟩ s_a x3 := by
    subst x3
    refine Only.ite ?_ ?_
    · refine Only.foldl (fun u4 x5 => ?_) ?_
      · refine Only.seq (State.raise_only ..) ?_ (by decide)
        exact Only.refl _ _
      · exact hx2
    · exact hx2
  clear_value x3
  extract_lets +onlyGivenNames x6
  have hx6 : Only ⟨[.out, .pinned, .ev, .flashJournal, .sdiRx, .ridge, .media, .diskJournal], [Obj.rxFlowState, Obj.embFormat, Obj.embPayloadId, Obj.embStructure, Obj.eventCount, Obj.eventLastAt, Obj.eventLastSubject, Obj.srcFeedKind, Obj.srcState, Obj.srcReservationStatus, Obj.srcFramesAbandoned, Obj.srcColourLive], [0x40000004, 0x40000008]⟩ s_a x6 := by
    subst x6
    refine Only.seq (State.setRxe_only ..) ?_ (by decide)
    exact hx3
  clear_value x6
  refine Only.ite ?_ ?_
  · refine Only.seq (State.refreshSlot_only ..) ?_ (by decide)
    exact hx6
  · exact hx6

theorem State.rxMeet_only (s_a old_a lead_a) : Only ⟨[.out, .pinned, .ev, .flashJournal, .sdiRx, .ridge, .media, .diskJournal], [Obj.rxFlowState, Obj.eventCount, Obj.eventLastAt, Obj.eventLastSubject, Obj.embFormat, Obj.embPayloadId, Obj.embStructure, Obj.srcFeedKind, Obj.srcState, Obj.srcReservationStatus, Obj.srcFramesAbandoned, Obj.srcColourLive, Obj.rxPdvHistogram], [0x40000004, 0x40000008]⟩ s_a (State.rxMeet s_a old_a lead_a) := by
  unfold State.rxMeet
  extract_lets +onlyGivenNames x1
  extract_lets +onlyGivenNames x2
  refine Only.ite ?_ ?_
  · refine Only.seq (State.enterWaiting_only ..) ?_ (by decide)
    refine Only.seq (State.setN_only ..) ?_ (by decide)
    exact Only.refl _ _
  · refine Only.ite ?_ ?_
    · refine Only.foldl (fun u3 x4 => ?_) ?_
      · refine Only.seq (State.setN_only ..) ?_ (by decide)
        exact Only.refl _ _
      · exact Only.refl _ _
    · refine Only.seq (State.enterWaiting_only ..) ?_ (by decide)
      exact Only.refl _ _

theorem State.rxCommit_only (s_a old_a) : Only ⟨[.out, .objs, .pinned, .ev, .flashJournal, .sdiRx, .ridge, .media, .diskJournal], [], [0x40000004, 0x40000008]⟩ s_a (State.rxCommit s_a old_a) := by
  unfold State.rxCommit
  extract_lets +onlyGivenNames x1
  extract_lets +onlyGivenNames x2
  have hx2 : Only ⟨[.out, .objs, .pinned, .ev, .flashJournal, .sdiRx, .ridge, .media, .diskJournal], [], [0x40000004, 0x40000008]⟩ s_a x2 := by
    subst x2
    refine Only.foldl (fun u3 x4 => ?_) ?_
    · refine Only.seq (State.rxRelead_only ..) ?_ (by decide)
      exact Only.refl _ _
    · exact Only.refl _ _
  clear_value x2
  extract_lets +onlyGivenNames x5
  have hx5 : Only ⟨[.out, .objs, .pinned, .ev, .flashJournal, .sdiRx, .ridge, .media, .diskJournal], [], [0x40000004, 0x40000008]⟩ s_a x5 := by
    subst x5
    refine Only.foldl (fun u6 x7 => ?_) ?_
    · refine Only.seq (State.rxIdle_only ..) ?_ (by decide)
      exact Only.refl _ _
    · exact hx2
  clear_value x5
  extract_lets +onlyGivenNames x8
  refine Only.foldl (fun u9 x10 => ?_) ?_
  · refine Only.seq (State.rxDefaults_only ..) ?_ (by decide)
    exact Only.refl _ _
  · refine Only.foldl (fun u11 x12 => ?_) ?_
    · refine Only.seq (State.rxMeet_only ..) ?_ (by decide)
      exact Only.refl _ _
    · exact hx5

end Sys2Proof.Machine
end

