-- ==== Sys2Proof/Laws/OnlyWatershed.lean ====
section
/-!
SUPPORT. What the functions of Machine/Watershed.lean may change (`Only` of Laws/Only.lean).
-/
namespace Sys2Proof.Machine
set_option Elab.async false

theorem State.setRef_only (s_a r_a x_a) : Only ⟨[.ws], [], []⟩ s_a (State.setRef s_a r_a x_a) := by
  unfold State.setRef
  refine Only.seq (Only.upd (r := ⟨[.ws], [], []⟩) (s := s_a) (fun p => by cases p <;> first | exact .inr rfl | exact .inl (by decide))) ?_ (by decide)
  exact Only.refl _ _

theorem State.refHist_only (s_a r_a k_a) : Only ⟨[], [Obj.refHistory], []⟩ s_a (State.refHist s_a r_a k_a) := by
  unfold State.refHist
  refine Only.seq (State.setBitN_only ..) ?_ (by decide)
  exact Only.refl _ _

theorem State.wsHist_only (s_a k_a) : Only ⟨[], [Obj.wsHistory], []⟩ s_a (State.wsHist s_a k_a) := by
  unfold State.wsHist
  refine Only.seq (State.setBitN_only ..) ?_ (by decide)
  exact Only.refl _ _

theorem State.refreshFp_only (s_a n_a) : Only ⟨[.out, .pinned, .ev, .flashJournal, .ws, .diskJournal], [Obj.fpState, Obj.eventCount, Obj.eventLastAt, Obj.eventLastSubject], [0x40000004, 0x40000008]⟩ s_a (State.refreshFp s_a n_a) := by
  unfold State.refreshFp
  extract_lets +onlyGivenNames x1
  extract_lets +onlyGivenNames x2
  subst x2
  extract_lets +onlyGivenNames x3
  have hx3 : Only ⟨[.out, .pinned, .ev, .flashJournal, .ws, .diskJournal], [Obj.fpState, Obj.eventCount, Obj.eventLastAt, Obj.eventLastSubject], [0x40000004, 0x40000008]⟩ s_a x3 := by
    subst x3
    refine Only.seq (State.setN_only ..) ?_ (by decide)
    exact Only.refl _ _
  clear_value x3
  refine Only.ite ?_ ?_
  · refine Only.seq (State.raise_only ..) ?_ (by decide)
    exact hx3
  · refine Only.ite ?_ ?_
    · extract_lets +onlyGivenNames x4
      refine Only.seq (State.raise_only ..) ?_ (by decide)
      refine Only.seq (Only.upd (r := ⟨[.ws], [], []⟩) (s := x3) (fun p => by cases p <;> first | exact .inr rfl | exact .inl (by decide))) ?_ (by decide)
      exact hx3
    · exact hx3

theorem State.refreshFps_only (s_a) : Only ⟨[.out, .pinned, .ev, .flashJournal, .ws, .diskJournal], [Obj.fpState, Obj.eventCount, Obj.eventLastAt, Obj.eventLastSubject], [0x40000004, 0x40000008]⟩ s_a (State.refreshFps s_a) := by
  unfold State.refreshFps
  refine Only.foldl (fun u1 x2 => ?_) ?_
  · refine Only.seq (State.refreshFp_only ..) ?_ (by decide)
    exact Only.refl _ _
  · exact Only.refl _ _

theorem State.setRefState_only (s_a r_a st_a) : Only ⟨[.out, .pinned, .ev, .flashJournal, .ws, .diskJournal], [Obj.refState, Obj.eventCount, Obj.eventLastAt, Obj.eventLastSubject, Obj.refLosses, Obj.refHistory, Obj.fpState], [0x40000004, 0x40000008]⟩ s_a (State.setRefState s_a r_a st_a) := by
  unfold State.setRefState
  extract_lets +onlyGivenNames x1
  refine Only.ite ?_ ?_
  · exact Only.refl _ _
  · extract_lets +onlyGivenNames x2
    have hx2 : Only ⟨[.out, .pinned, .ev, .flashJournal, .ws, .diskJournal], [Obj.refState, Obj.eventCount, Obj.eventLastAt, Obj.eventLastSubject, Obj.refLosses, Obj.refHistory, Obj.fpState], [0x40000004, 0x40000008]⟩ s_a x2 := by
      subst x2
      refine Only.seq (State.setN_only ..) ?_ (by decide)
      exact Only.refl _ _
    clear_value x2
    extract_lets +onlyGivenNames x3
    have hx3 : Only ⟨[.out, .pinned, .ev, .flashJournal, .ws, .diskJournal], [Obj.refState, Obj.eventCount, Obj.eventLastAt, Obj.eventLastSubject, Obj.refLosses, Obj.refHistory, Obj.fpState], [0x40000004, 0x40000008]⟩ s_a x3 := by
      subst x3
      refine Only.ite ?_ ?_
      · refine Only.seq (State.bump_only ..) ?_ (by decide)
        refine Only.seq (State.raise_only ..) ?_ (by decide)
        exact hx2
      · exact hx2
    clear_value x3
    extract_lets +onlyGivenNames x4
    extract_lets +onlyGivenNames x5
    have hx5 : Only ⟨[.out, .pinned, .ev, .flashJournal, .ws, .diskJournal], [Obj.refState, Obj.eventCount, Obj.eventLastAt, Obj.eventLastSubject, Obj.refLosses, Obj.refHistory, Obj.fpState], [0x40000004, 0x40000008]⟩ s_a x5 := by
      subst x5
      split
      · refine Only.seq (State.refHist_only ..) ?_ (by decide)
        refine Only.seq (State.setRef_only ..) ?_ (by decide)
        exact hx3
      · refine Only.seq (State.setRef_only ..) ?_ (by decide)
        exact hx3
      · refine Only.seq (State.refHist_only ..) ?_ (by decide)
        refine Only.seq (State.raise_only ..) ?_ (by decide)
        exact hx3
      · exact hx3
    clear_value x5
    refine Only.seq (State.refreshFps_only ..) ?_ (by decide)
    exact hx5

theorem State.refreshQl_only (s_a r_a) : Only ⟨[.out, .pinned, .ev, .flashJournal, .ws, .diskJournal], [Obj.refQlInForce, Obj.eventCount, Obj.eventLastAt, Obj.eventLastSubject, Obj.refHistory, Obj.refState, Obj.refLosses, Obj.fpState], [0x40000004, 0x40000008]⟩ s_a (State.refreshQl s_a r_a) := by
  unfold State.refreshQl
  extract_lets +onlyGivenNames x1
  subst x1
  refine Only.ite ?_ ?_
  · exact Only.refl _ _
  · extract_lets +onlyGivenNames x2
    have hx2 : Only ⟨[.out, .pinned, .ev, .flashJournal, .ws, .diskJournal], [Obj.refQlInForce, Obj.eventCount, Obj.eventLastAt, Obj.eventLastSubject, Obj.refHistory, Obj.refState, Obj.refLosses, Obj.fpState], [0x40000004, 0x40000008]⟩ s_a x2 := by
      subst x2
      refine Only.seq (State.setN_only ..) ?_ (by decide)
      exact Only.refl _ _
    clear_value x2
    extract_lets +onlyGivenNames x3
    have hx3 : Only ⟨[.out, .pinned, .ev, .flashJournal, .ws, .diskJournal], [Obj.refQlInForce, Obj.eventCount, Obj.eventLastAt, Obj.eventLastSubject, Obj.refHistory, Obj.refState, Obj.refLosses, Obj.fpState], [0x40000004, 0x40000008]⟩ s_a x3 := by
      subst x3
      refine Only.ite ?_ ?_
      · refine Only.seq (State.refHist_only ..) ?_ (by decide)
        refine Only.seq (State.raise_only ..) ?_ (by decide)
        exact hx2
      · exact hx2
    clear_value x3
    split
    · refine Only.ite ?_ ?_
      · refine Only.seq (State.setRefState_only ..) ?_ (by decide)
        exact hx3
      · exact hx3
    · refine Only.ite ?_ ?_
      · exact hx3
      · refine Only.seq (State.setRefState_only ..) ?_ (by decide)
        exact hx3
    · exact hx3

theorem State.refreshRef_only (s_a r_a) : Only ⟨[.out, .pinned, .ev, .flashJournal, .ws, .diskJournal], [Obj.refState, Obj.eventCount, Obj.eventLastAt, Obj.eventLastSubject, Obj.refLosses, Obj.refHistory, Obj.fpState, Obj.ptpState, Obj.ptpGmIdentity, Obj.ptpClockClass, Obj.refQlInForce], [0x40000004, 0x40000008]⟩ s_a (State.refreshRef s_a r_a) := by
  unfold State.refreshRef
  extract_lets +onlyGivenNames x1
  extract_lets +onlyGivenNames x2
  have hx2 : Only ⟨[.out, .pinned, .ev, .flashJournal, .ws, .diskJournal], [Obj.refState, Obj.eventCount, Obj.eventLastAt, Obj.eventLastSubject, Obj.refLosses, Obj.refHistory, Obj.fpState, Obj.ptpState, Obj.ptpGmIdentity, Obj.ptpClockClass, Obj.refQlInForce], [0x40000004, 0x40000008]⟩ s_a x2 := by
    subst x2
    refine Only.seq (State.setRefState_only ..) ?_ (by decide)
    refine Only.seq (State.setRef_only ..) ?_ (by decide)
    exact Only.refl _ _
  clear_value x2
  extract_lets +onlyGivenNames x3
  have hx3 : Only ⟨[.out, .pinned, .ev, .flashJournal, .ws, .diskJournal], [Obj.refState, Obj.eventCount, Obj.eventLastAt, Obj.eventLastSubject, Obj.refLosses, Obj.refHistory, Obj.fpState, Obj.ptpState, Obj.ptpGmIdentity, Obj.ptpClockClass, Obj.refQlInForce], [0x40000004, 0x40000008]⟩ s_a x3 := by
    subst x3
    refine Only.seq (State.setRefState_only ..) ?_ (by decide)
    exact Only.refl _ _
  clear_value x3
  extract_lets +onlyGivenNames x4
  have hx4 : Only ⟨[.out, .pinned, .ev, .flashJournal, .ws, .diskJournal], [Obj.refState, Obj.eventCount, Obj.eventLastAt, Obj.eventLastSubject, Obj.refLosses, Obj.refHistory, Obj.fpState, Obj.ptpState, Obj.ptpGmIdentity, Obj.ptpClockClass, Obj.refQlInForce], [0x40000004, 0x40000008]⟩ s_a x4 := by
    subst x4
    refine Only.ite ?_ ?_
    · refine Only.ite ?_ ?_
      · refine Only.seq (State.setN_only ..) ?_ (by decide)
        exact hx2
      · exact hx2
    · refine Only.ite ?_ ?_
      · refine Only.ite ?_ ?_
        · refine Only.seq (State.setRef_only ..) ?_ (by decide)
          refine Only.seq (State.toDefault_only ..) ?_ (by decide)
          refine Only.seq (State.toDefault_only ..) ?_ (by decide)
          refine Only.seq (State.setN_only ..) ?_ (by decide)
          exact hx3
        · exact hx3
      · exact Only.refl _ _
  clear_value x4
  refine Only.seq (State.refreshQl_only ..) ?_ (by decide)
  exact hx4

theorem State.loseRef_only (s_a r_a) : Only ⟨[.out, .pinned, .ev, .flashJournal, .ws, .diskJournal], [Obj.refState, Obj.eventCount, Obj.eventLastAt, Obj.eventLastSubject, Obj.refLosses, Obj.refHistory, Obj.fpState], [0x40000004, 0x40000008]⟩ s_a (State.loseRef s_a r_a) := by
  unfold State.loseRef
  refine Only.ite ?_ ?_
  · refine Only.seq (State.setRefState_only ..) ?_ (by decide)
    exact Only.refl _ _
  · exact Only.refl _ _

theorem State.goodEdge_only (s_a r_a) : Only ⟨[.ws], [Obj.refPhaseDiff], []⟩ s_a (State.goodEdge s_a r_a) := by
  unfold State.goodEdge
  extract_lets +onlyGivenNames x1
  extract_lets +onlyGivenNames x2
  extract_lets +onlyGivenNames x3
  extract_lets +onlyGivenNames x4
  extract_lets +onlyGivenNames x5
  extract_lets +onlyGivenNames x6
  extract_lets +onlyGivenNames x7
  subst x7
  extract_lets +onlyGivenNames x8
  refine Only.seq (State.setI_only ..) ?_ (by decide)
  refine Only.seq (State.setRef_only ..) ?_ (by decide)
  exact Only.refl _ _

theorem State.setY_only (s_a y_a slope_a) : Only ⟨[.ws], [Obj.wsFreqCorrection], []⟩ s_a (State.setY s_a y_a slope_a) := by
  unfold State.setY
  refine Only.seq (State.setI_only ..) ?_ (by decide)
  refine Only.seq (Only.upd (r := ⟨[.ws], [], []⟩) (s := s_a) (fun p => by cases p <;> first | exact .inr rfl | exact .inl (by decide))) ?_ (by decide)
  exact Only.refl _ _

theorem State.startPull_only (s_a) : Only ⟨[.ws], [], []⟩ s_a (State.startPull s_a) := by
  unfold State.startPull
  refine Only.seq (Only.upd (r := ⟨[.ws], [], []⟩) (s := s_a) (fun p => by cases p <;> first | exact .inr rfl | exact .inl (by decide))) ?_ (by decide)
  exact Only.refl _ _

theorem State.enterWs_only (s_a st_a) : Only ⟨[.out, .pinned, .ev, .flashJournal, .ws, .diskJournal], [Obj.wsState, Obj.wsHistory, Obj.eventCount, Obj.eventLastAt, Obj.eventLastSubject, Obj.wsFreqCorrection], [0x40000004, 0x40000008]⟩ s_a (State.enterWs s_a st_a) := by
  unfold State.enterWs
  extract_lets +onlyGivenNames x1
  refine Only.ite ?_ ?_
  · exact Only.refl _ _
  · extract_lets +onlyGivenNames x2
    have hx2 : Only ⟨[.out, .pinned, .ev, .flashJournal, .ws, .diskJournal], [Obj.wsState, Obj.wsHistory, Obj.eventCount, Obj.eventLastAt, Obj.eventLastSubject, Obj.wsFreqCorrection], [0x40000004, 0x40000008]⟩ s_a x2 := by
      subst x2
      refine Only.seq (State.setN_only ..) ?_ (by decide)
      exact Only.refl _ _
    clear_value x2
    extract_lets +onlyGivenNames x3
    have hx3 : Only ⟨[.out, .pinned, .ev, .flashJournal, .ws, .diskJournal], [Obj.wsState, Obj.wsHistory, Obj.eventCount, Obj.eventLastAt, Obj.eventLastSubject, Obj.wsFreqCorrection], [0x40000004, 0x40000008]⟩ s_a x3 := by
      subst x3
      refine Only.ite ?_ ?_
      · refine Only.seq (State.wsHist_only ..) ?_ (by decide)
        exact hx2
      · exact hx2
    clear_value x3
    split
    · refine Only.seq (State.raise_only ..) ?_ (by decide)
      refine Only.seq (State.wsHist_only ..) ?_ (by decide)
      exact hx3
    · refine Only.seq (State.raise_only ..) ?_ (by decide)
      refine Only.seq (State.startPull_only ..) ?_ (by decide)
      exact hx3
    · refine Only.seq (State.raise_only ..) ?_ (by decide)
      exact hx3
    · extract_lets +onlyGivenNames x4
      extract_lets +onlyGivenNames x5
      extract_lets +onlyGivenNames x6
      extract_lets +onlyGivenNames x7
      have hx7 : Only ⟨[.out, .pinned, .ev, .flashJournal, .ws, .diskJournal], [Obj.wsState, Obj.wsHistory, Obj.eventCount, Obj.eventLastAt, Obj.eventLastSubject, Obj.wsFreqCorrection], [0x40000004, 0x40000008]⟩ s_a x7 := by
        subst x7
        refine Only.seq (Only.upd (r := ⟨[.ws], [], []⟩) (s := x3) (fun p => by cases p <;> first | exact .inr rfl | exact .inl (by decide))) ?_ (by decide)
        exact hx3
      clear_value x7
      refine Only.seq (State.raise_only ..) ?_ (by decide)
      refine Only.seq (State.wsHist_only ..) ?_ (by decide)
      refine Only.seq (State.setY_only ..) ?_ (by decide)
      exact hx7

theorem State.followModel_only (s_a) : Only ⟨[.ws], [Obj.wsFreqCorrection], []⟩ s_a (State.followModel s_a) := by
  unfold State.followModel
  refine Only.ite ?_ ?_
  · refine Only.seq (State.setY_only ..) ?_ (by decide)
    exact Only.refl _ _
  · exact Only.refl _ _

theorem State.watchPhase_only (s_a r_a) : Only ⟨[.out, .pinned, .ev, .flashJournal, .ws, .diskJournal], [Obj.wsState, Obj.wsHistory, Obj.eventCount, Obj.eventLastAt, Obj.eventLastSubject, Obj.wsFreqCorrection], [0x40000004, 0x40000008]⟩ s_a (State.watchPhase s_a r_a) := by
  unfold State.watchPhase
  extract_lets +onlyGivenNames x1
  refine Only.ite ?_ ?_
  · exact Only.refl _ _
  · refine Only.ite ?_ ?_
    · refine Only.ite ?_ ?_
      · refine Only.seq (State.enterWs_only ..) ?_ (by decide)
        exact Only.refl _ _
      · exact Only.refl _ _
    · refine Only.ite ?_ ?_
      · extract_lets +onlyGivenNames x2
        extract_lets +onlyGivenNames x3
        extract_lets +onlyGivenNames x4
        extract_lets +onlyGivenNames x5
        extract_lets +onlyGivenNames x6
        have hx6 : Only ⟨[.out, .pinned, .ev, .flashJournal, .ws, .diskJournal], [Obj.wsState, Obj.wsHistory, Obj.eventCount, Obj.eventLastAt, Obj.eventLastSubject, Obj.wsFreqCorrection], [0x40000004, 0x40000008]⟩ s_a x6 := by
          subst x6
          refine Only.seq (Only.upd (r := ⟨[.ws], [], []⟩) (s := s_a) (fun p => by cases p <;> first | exact .inr rfl | exact .inl (by decide))) ?_ (by decide)
          exact Only.refl _ _
        clear_value x6
        refine Only.ite ?_ ?_
        · refine Only.seq (State.setY_only ..) ?_ (by decide)
          exact hx6
        · exact hx6
      · exact Only.refl _ _

theorem State.takeEdge_only (s_a r_a) : Only ⟨[.out, .pinned, .ev, .flashJournal, .ws, .diskJournal], [Obj.refPhaseDiff, Obj.wsState, Obj.wsHistory, Obj.eventCount, Obj.eventLastAt, Obj.eventLastSubject, Obj.wsFreqCorrection], [0x40000004, 0x40000008]⟩ s_a (State.takeEdge s_a r_a) := by
  unfold State.takeEdge
  refine Only.seq (State.watchPhase_only ..) ?_ (by decide)
  refine Only.seq (State.goodEdge_only ..) ?_ (by decide)
  exact Only.refl _ _

theorem execRefEdge_only (dt_a ref_a width_a s_a) : OnlyR ⟨[.out, .now, .tc, .pinned, .ev, .flashJournal, .ws, .diskJournal], [Obj.refInvalidPulses, Obj.eventCount, Obj.eventLastAt, Obj.eventLastSubject, Obj.refHistory, Obj.refQlInForce, Obj.refState, Obj.refLosses, Obj.fpState, Obj.refPhaseDiff, Obj.wsState, Obj.wsHistory, Obj.wsFreqCorrection], [0x40000004, 0x40000008]⟩ s_a (execRefEdge dt_a ref_a width_a s_a) := by
  unfold execRefEdge
  refine actIf_only (hk3 := fun u1 => ?_) (l := (by decide)) ..
  refine Only.ite ?_ ?_
  · split
    · extract_lets +onlyGivenNames x2
      extract_lets +onlyGivenNames x3
      have hx3 : Only ⟨[.out, .now, .tc, .pinned, .ev, .flashJournal, .ws, .diskJournal], [Obj.refInvalidPulses, Obj.eventCount, Obj.eventLastAt, Obj.eventLastSubject, Obj.refHistory, Obj.refQlInForce, Obj.refState, Obj.refLosses, Obj.fpState, Obj.refPhaseDiff, Obj.wsState, Obj.wsHistory, Obj.wsFreqCorrection], [0x40000004, 0x40000008]⟩ u1 x3 := by
        subst x3
        refine Only.seq (State.setRef_only ..) ?_ (by decide)
        exact Only.refl _ _
      clear_value x3
      refine Only.seq (State.refHist_only ..) ?_ (by decide)
      refine Only.seq (State.raiseLimited_only ..) ?_ (by decide)
      refine Only.seq (State.bump_only ..) ?_ (by decide)
      exact hx3
    · extract_lets +onlyGivenNames x4
      extract_lets +onlyGivenNames x5
      subst x5
      extract_lets +onlyGivenNames x6
      have hx6 : Only ⟨[.out, .now, .tc, .pinned, .ev, .flashJournal, .ws, .diskJournal], [Obj.refInvalidPulses, Obj.eventCount, Obj.eventLastAt, Obj.eventLastSubject, Obj.refHistory, Obj.refQlInForce, Obj.refState, Obj.refLosses, Obj.fpState, Obj.refPhaseDiff, Obj.wsState, Obj.wsHistory, Obj.wsFreqCorrection], [0x40000004, 0x40000008]⟩ u1 x6 := by
        subst x6
        refine Only.seq (State.setRef_only ..) ?_ (by decide)
        exact Only.refl _ _
      clear_value x6
      refine Only.seq (State.takeEdge_only ..) ?_ (by decide)
      refine Only.seq (State.refreshQl_only ..) ?_ (by decide)
      exact hx6
  · refine Only.seq (State.takeEdge_only ..) ?_ (by decide)
    exact Only.refl _ _

theorem execRefLost_only (dt_a ref_a cause_a s_a) : OnlyR ⟨[.out, .now, .tc, .pinned, .ev, .flashJournal, .ws, .diskJournal], [Obj.refHistory, Obj.refState, Obj.eventCount, Obj.eventLastAt, Obj.eventLastSubject, Obj.refLosses, Obj.fpState], [0x40000004, 0x40000008]⟩ s_a (execRefLost dt_a ref_a cause_a s_a) := by
  unfold execRefLost
  refine actIf_only (hk3 := fun u1 => ?_) (l := (by decide)) ..
  extract_lets +onlyGivenNames x2
  extract_lets +onlyGivenNames x3
  have hx3 : Only ⟨[.out, .now, .tc, .pinned, .ev, .flashJournal, .ws, .diskJournal], [Obj.refHistory, Obj.refState, Obj.eventCount, Obj.eventLastAt, Obj.eventLastSubject, Obj.refLosses, Obj.fpState], [0x40000004, 0x40000008]⟩ u1 x3 := by
    subst x3
    refine Only.ite ?_ ?_
    · refine Only.seq (State.refHist_only ..) ?_ (by decide)
      exact Only.refl _ _
    · refine Only.ite ?_ ?_
      · refine Only.seq (State.setRef_only ..) ?_ (by decide)
        exact Only.refl _ _
      · exact Only.refl _ _
  clear_value x3
  refine Only.seq (State.loseRef_only ..) ?_ (by decide)
  exact hx3

theorem execRefSignalBack_only (dt_a ref_a s_a) : OnlyR ⟨[.out, .now, .tc, .pinned, .ev, .flashJournal, .ws, .diskJournal], [Obj.refState, Obj.eventCount, Obj.eventLastAt, Obj.eventLastSubject, Obj.refLosses, Obj.refHistory, Obj.fpState], [0x40000004, 0x40000008]⟩ s_a (execRefSignalBack dt_a ref_a s_a) := by
  unfold execRefSignalBack
  refine actIf_only (hk3 := fun u1 => ?_) (l := (by decide)) ..
  refine Only.seq (State.setRefState_only ..) ?_ (by decide)
  refine Only.seq (State.setRef_only ..) ?_ (by decide)
  exact Only.refl _ _

theorem execRefAvailable_only (dt_a ref_a s_a) : OnlyR ⟨[.out, .now, .tc, .pinned, .ev, .flashJournal, .ws, .diskJournal], [Obj.refState, Obj.eventCount, Obj.eventLastAt, Obj.eventLastSubject, Obj.refLosses, Obj.refHistory, Obj.fpState], [0x40000004, 0x40000008]⟩ s_a (execRefAvailable dt_a ref_a s_a) := by
  unfold execRefAvailable
  refine actIf_only (hk3 := fun u1 => ?_) (l := (by decide)) ..
  refine Only.seq (State.setRefState_only ..) ?_ (by decide)
  exact Only.refl _ _

theorem State.takeMaster_only (s_a r_a masters_a) : Only ⟨[.out, .pinned, .ev, .flashJournal, .ws, .diskJournal], [Obj.ptpState, Obj.ptpGmIdentity, Obj.ptpClockClass, Obj.refState, Obj.eventCount, Obj.eventLastAt, Obj.eventLastSubject, Obj.refLosses, Obj.refHistory, Obj.fpState], [0x40000004, 0x40000008]⟩ s_a (State.takeMaster s_a r_a masters_a) := by
  unfold State.takeMaster
  extract_lets +onlyGivenNames x1
  split
  · refine Only.seq (State.loseRef_only ..) ?_ (by decide)
    refine Only.seq (State.toDefault_only ..) ?_ (by decide)
    refine Only.seq (State.toDefault_only ..) ?_ (by decide)
    refine Only.seq (State.setN_only ..) ?_ (by decide)
    refine Only.seq (State.setRef_only ..) ?_ (by decide)
    exact Only.refl _ _
  · extract_lets +onlyGivenNames x2
    extract_lets +onlyGivenNames x3
    have hx3 : Only ⟨[.out, .pinned, .ev, .flashJournal, .ws, .diskJournal], [Obj.ptpState, Obj.ptpGmIdentity, Obj.ptpClockClass, Obj.refState, Obj.eventCount, Obj.eventLastAt, Obj.eventLastSubject, Obj.refLosses, Obj.refHistory, Obj.fpState], [0x40000004, 0x40000008]⟩ s_a x3 := by
      subst x3
      refine Only.seq (State.setRef_only ..) ?_ (by decide)
      exact Only.refl _ _
    clear_value x3
    extract_lets +onlyGivenNames x4
    have hx4 : Only ⟨[.out, .pinned, .ev, .flashJournal, .ws, .diskJournal], [Obj.ptpState, Obj.ptpGmIdentity, Obj.ptpClockClass, Obj.refState, Obj.eventCount, Obj.eventLastAt, Obj.eventLastSubject, Obj.refLosses, Obj.refHistory, Obj.fpState], [0x40000004, 0x40000008]⟩ s_a x4 := by
      subst x4
      refine Only.seq (State.setN_only ..) ?_ (by decide)
      refine Only.seq (State.setBy_only ..) ?_ (by decide)
      exact hx3
    clear_value x4
    refine Only.ite ?_ ?_
    · exact hx4
    · extract_lets +onlyGivenNames x5
      have hx5 : Only ⟨[.out, .pinned, .ev, .flashJournal, .ws, .diskJournal], [Obj.ptpState, Obj.ptpGmIdentity, Obj.ptpClockClass, Obj.refState, Obj.eventCount, Obj.eventLastAt, Obj.eventLastSubject, Obj.refLosses, Obj.refHistory, Obj.fpState], [0x40000004, 0x40000008]⟩ s_a x5 := by
        subst x5
        refine Only.seq (State.setN_only ..) ?_ (by decide)
        exact hx4
      clear_value x5
      refine Only.ite ?_ ?_
      · refine Only.seq (State.loseRef_only ..) ?_ (by decide)
        exact hx5
      · refine Only.seq (State.loseRef_only ..) ?_ (by decide)
        refine Only.seq (State.raise_only ..) ?_ (by decide)
        exact hx5

theorem execPtpAnnounceTimeout_only (dt_a ref_a s_a) : OnlyR ⟨[.out, .now, .tc, .pinned, .ev, .flashJournal, .ws, .diskJournal], [Obj.ptpState, Obj.ptpGmIdentity, Obj.ptpClockClass, Obj.refState, Obj.eventCount, Obj.eventLastAt, Obj.eventLastSubject, Obj.refLosses, Obj.refHistory, Obj.fpState, Obj.refQlInForce], [0x40000004, 0x40000008]⟩ s_a (execPtpAnnounceTimeout dt_a ref_a s_a) := by
  unfold execPtpAnnounceTimeout
  refine actIf_only (hk3 := fun u1 => ?_) (l := (by decide)) ..
  refine Only.seq (State.refreshQl_only ..) ?_ (by decide)
  refine Only.seq (State.loseRef_only ..) ?_ (by decide)
  refine Only.seq (State.takeMaster_only ..) ?_ (by decide)
  exact Only.refl _ _

theorem State.ptpOffset_only (s_a r_a off_a path_a) : Only ⟨[.out, .pinned, .ev, .flashJournal, .ws, .diskJournal], [Obj.ptpOffsetFromMaster, Obj.ptpMeanPathDelay, Obj.refPhaseDiff, Obj.wsState, Obj.wsHistory, Obj.eventCount, Obj.eventLastAt, Obj.eventLastSubject, Obj.wsFreqCorrection], [0x40000004, 0x40000008]⟩ s_a (State.ptpOffset s_a r_a off_a path_a) := by
  unfold State.ptpOffset
  refine Only.seq (State.watchPhase_only ..) ?_ (by decide)
  refine Only.seq (State.setI_only ..) ?_ (by decide)
  refine Only.seq (State.setI_only ..) ?_ (by decide)
  refine Only.seq (State.setI_only ..) ?_ (by decide)
  exact Only.refl _ _

theorem State.ptpMessage_only (s_a port_a domain_a ipv6_a m_a) : Only ⟨[.out, .pinned, .ev, .flashJournal, .ws, .diskJournal], [Obj.ptpState, Obj.ptpGmIdentity, Obj.ptpClockClass, Obj.refState, Obj.eventCount, Obj.eventLastAt, Obj.eventLastSubject, Obj.refLosses, Obj.refHistory, Obj.fpState, Obj.refQlInForce, Obj.ptpOffsetFromMaster, Obj.ptpMeanPathDelay, Obj.refPhaseDiff, Obj.wsState, Obj.wsHistory, Obj.wsFreqCorrection], [0x40000004, 0x40000008]⟩ s_a (State.ptpMessage s_a port_a domain_a ipv6_a m_a) := by
  unfold State.ptpMessage
  refine Only.foldl (fun u1 x2 => ?_) ?_
  · split
    · refine Only.seq (State.refreshQl_only ..) ?_ (by decide)
      refine Only.seq (State.takeMaster_only ..) ?_ (by decide)
      exact Only.refl _ _
    · refine Only.ite ?_ ?_
      · refine Only.seq (State.ptpOffset_only ..) ?_ (by decide)
        refine Only.seq (State.setRef_only ..) ?_ (by decide)
        exact Only.refl _ _
      · exact Only.refl _ _
    · refine Only.ite ?_ ?_
      · refine Only.seq (State.setN_only ..) ?_ (by decide)
        refine Only.seq (State.ptpOffset_only ..) ?_ (by decide)
        refine Only.seq (State.setRef_only ..) ?_ (by decide)
        exact Only.refl _ _
      · exact Only.refl _ _
  · exact Only.refl _ _

theorem State.stepCounter_only (s_a by__a) : Only ⟨[.out, .tc, .pinned, .ev, .engine, .flashJournal, .ws, .tarn, .diskJournal], [Obj.refPhaseDiff, Obj.wsHistory, Obj.eventCount, Obj.eventLastAt, Obj.eventLastSubject], [0x40000004, 0x40000008]⟩ s_a (State.stepCounter s_a by__a) := by
  unfold State.stepCounter
  extract_lets +onlyGivenNames x1
  have hx1 : Only ⟨[.out, .tc, .pinned, .ev, .engine, .flashJournal, .ws, .tarn, .diskJournal], [Obj.refPhaseDiff, Obj.wsHistory, Obj.eventCount, Obj.eventLastAt, Obj.eventLastSubject], [0x40000004, 0x40000008]⟩ s_a x1 := by
    subst x1
    refine Only.seq (Only.upd (r := ⟨[.tc], [], []⟩) (s := s_a) (fun p => by cases p <;> first | exact .inr rfl | exact .inl (by decide))) ?_ (by decide)
    exact Only.refl _ _
  clear_value x1
  extract_lets +onlyGivenNames x2
  extract_lets +onlyGivenNames x3
  extract_lets +onlyGivenNames x4
  have hx4 : Only ⟨[.out, .tc, .pinned, .ev, .engine, .flashJournal, .ws, .tarn, .diskJournal], [Obj.refPhaseDiff, Obj.wsHistory, Obj.eventCount, Obj.eventLastAt, Obj.eventLastSubject], [0x40000004, 0x40000008]⟩ s_a x4 := by
    subst x4
    refine Only.seq (Only.upd (r := ⟨[.engine, .ws, .tarn], [], []⟩) (s := x1) (fun p => by cases p <;> first | exact .inr rfl | exact .inl (by decide))) ?_ (by decide)
    exact hx1
  clear_value x4
  extract_lets +onlyGivenNames x5
  have hx5 : Only ⟨[.out, .tc, .pinned, .ev, .engine, .flashJournal, .ws, .tarn, .diskJournal], [Obj.refPhaseDiff, Obj.wsHistory, Obj.eventCount, Obj.eventLastAt, Obj.eventLastSubject], [0x40000004, 0x40000008]⟩ s_a x5 := by
    subst x5
    refine Only.foldl (fun u6 x7 => ?_) ?_
    · refine Only.ite ?_ ?_
      · extract_lets +onlyGivenNames x8
        refine Only.seq (State.setI_only ..) ?_ (by decide)
        exact Only.refl _ _
      · exact Only.refl _ _
    · exact hx4
  clear_value x5
  refine Only.seq (State.raise_only ..) ?_ (by decide)
  refine Only.seq (State.wsHist_only ..) ?_ (by decide)
  exact hx5

theorem State.select_only (s_a r_a) : Only ⟨[.out, .tc, .pinned, .ev, .engine, .flashJournal, .ws, .tarn, .diskJournal], [Obj.wsSelectedRef, Obj.wsRefSwitches, Obj.eventCount, Obj.eventLastAt, Obj.eventLastSubject, Obj.wsHistory, Obj.refPhaseDiff, Obj.wsState, Obj.wsFreqCorrection], [0x40000004, 0x40000008]⟩ s_a (State.select s_a r_a) := by
  unfold State.select
  extract_lets +onlyGivenNames x1
  extract_lets +onlyGivenNames x2
  have hx2 : Only ⟨[.out, .tc, .pinned, .ev, .engine, .flashJournal, .ws, .tarn, .diskJournal], [Obj.wsSelectedRef, Obj.wsRefSwitches, Obj.eventCount, Obj.eventLastAt, Obj.eventLastSubject, Obj.wsHistory, Obj.refPhaseDiff, Obj.wsState, Obj.wsFreqCorrection], [0x40000004, 0x40000008]⟩ s_a x2 := by
    subst x2
    refine Only.ite ?_ ?_
    · refine Only.seq (State.raise_only ..) ?_ (by decide)
      refine Only.seq (State.wsHist_only ..) ?_ (by decide)
      refine Only.seq (State.bump_only ..) ?_ (by decide)
      refine Only.seq (State.setN_only ..) ?_ (by decide)
      exact Only.refl _ _
    · exact Only.refl _ _
  clear_value x2
  extract_lets +onlyGivenNames x3
  extract_lets +onlyGivenNames x4
  extract_lets +onlyGivenNames x5
  extract_lets +onlyGivenNames x6
  extract_lets +onlyGivenNames x7
  have hx7 : Only ⟨[.out, .tc, .pinned, .ev, .engine, .flashJournal, .ws, .tarn, .diskJournal], [Obj.wsSelectedRef, Obj.wsRefSwitches, Obj.eventCount, Obj.eventLastAt, Obj.eventLastSubject, Obj.wsHistory, Obj.refPhaseDiff, Obj.wsState, Obj.wsFreqCorrection], [0x40000004, 0x40000008]⟩ s_a x7 := by
    subst x7
    refine Only.seq (Only.upd (r := ⟨[.ws], [], []⟩) (s := x2) (fun p => by cases p <;> first | exact .inr rfl | exact .inl (by decide))) ?_ (by decide)
    exact hx2
  clear_value x7
  extract_lets +onlyGivenNames x8
  have hx8 : Only ⟨[.out, .tc, .pinned, .ev, .engine, .flashJournal, .ws, .tarn, .diskJournal], [Obj.wsSelectedRef, Obj.wsRefSwitches, Obj.eventCount, Obj.eventLastAt, Obj.eventLastSubject, Obj.wsHistory, Obj.refPhaseDiff, Obj.wsState, Obj.wsFreqCorrection], [0x40000004, 0x40000008]⟩ s_a x8 := by
    subst x8
    refine Only.ite ?_ ?_
    · refine Only.seq (State.stepCounter_only ..) ?_ (by decide)
      exact hx7
    · exact hx7
  clear_value x8
  refine Only.ite ?_ ?_
  · refine Only.seq (State.startPull_only ..) ?_ (by decide)
    refine Only.seq (State.enterWs_only ..) ?_ (by decide)
    exact hx8
  · exact hx8

theorem State.pull_only (s_a r_a) : Only ⟨[.out, .pinned, .ev, .flashJournal, .ws, .diskJournal], [Obj.wsState, Obj.wsHistory, Obj.eventCount, Obj.eventLastAt, Obj.eventLastSubject, Obj.wsFreqCorrection], [0x40000004, 0x40000008]⟩ s_a (State.pull s_a r_a) := by
  unfold State.pull
  extract_lets +onlyGivenNames x1
  have hx1 : Only ⟨[.out, .pinned, .ev, .flashJournal, .ws, .diskJournal], [Obj.wsState, Obj.wsHistory, Obj.eventCount, Obj.eventLastAt, Obj.eventLastSubject, Obj.wsFreqCorrection], [0x40000004, 0x40000008]⟩ s_a x1 := by
    subst x1
    refine Only.seq (State.watchPhase_only ..) ?_ (by decide)
    exact Only.refl _ _
  clear_value x1
  extract_lets +onlyGivenNames x2
  extract_lets +onlyGivenNames x3
  extract_lets +onlyGivenNames x4
  refine Only.ite ?_ ?_
  · refine Only.ite ?_ ?_
    · refine Only.seq (State.setY_only ..) ?_ (by decide)
      exact hx1
    · refine Only.seq (State.setY_only ..) ?_ (by decide)
      exact hx1
  · refine Only.seq (State.setY_only ..) ?_ (by decide)
    exact hx1

theorem execWsEvaluation_only (dt_a s_a) : OnlyR ⟨[.out, .now, .tc, .pinned, .ev, .engine, .flashJournal, .ws, .tarn, .diskJournal], [Obj.wsSelectedRef, Obj.wsRefSwitches, Obj.eventCount, Obj.eventLastAt, Obj.eventLastSubject, Obj.wsHistory, Obj.refPhaseDiff, Obj.wsState, Obj.wsFreqCorrection], [0x40000004, 0x40000008]⟩ s_a (execWsEvaluation dt_a s_a) := by
  unfold execWsEvaluation
  refine actIf_only (hk3 := fun u1 => ?_) (l := (by decide)) ..
  extract_lets +onlyGivenNames x2
  extract_lets +onlyGivenNames x3
  extract_lets +onlyGivenNames x4
  have hx4 : Only ⟨[.out, .now, .tc, .pinned, .ev, .engine, .flashJournal, .ws, .tarn, .diskJournal], [Obj.wsSelectedRef, Obj.wsRefSwitches, Obj.eventCount, Obj.eventLastAt, Obj.eventLastSubject, Obj.wsHistory, Obj.refPhaseDiff, Obj.wsState, Obj.wsFreqCorrection], [0x40000004, 0x40000008]⟩ u1 x4 := by
    subst x4
    refine Only.seq (Only.upd (r := ⟨[.ws], [], []⟩) (s := u1) (fun p => by cases p <;> first | exact .inr rfl | exact .inl (by decide))) ?_ (by decide)
    exact Only.refl _ _
  clear_value x4
  split
  · refine Only.seq (State.pull_only ..) ?_ (by decide)
    refine Only.seq (State.select_only ..) ?_ (by decide)
    exact hx4
  · extract_lets +onlyGivenNames x5
    extract_lets +onlyGivenNames x6
    have hx6 : Only ⟨[.out, .now, .tc, .pinned, .ev, .engine, .flashJournal, .ws, .tarn, .diskJournal], [Obj.wsSelectedRef, Obj.wsRefSwitches, Obj.eventCount, Obj.eventLastAt, Obj.eventLastSubject, Obj.wsHistory, Obj.refPhaseDiff, Obj.wsState, Obj.wsFreqCorrection], [0x40000004, 0x40000008]⟩ u1 x6 := by
      subst x6
      refine Only.seq (State.toDefault_only ..) ?_ (by decide)
      exact hx4
    clear_value x6
    refine Only.ite ?_ ?_
    · extract_lets +onlyGivenNames x7
      extract_lets +onlyGivenNames x8
      extract_lets +onlyGivenNames x9
      refine Only.seq (State.setY_only ..) ?_ (by decide)
      refine Only.seq (State.enterWs_only ..) ?_ (by decide)
      exact hx6
    · refine Only.ite ?_ ?_
      · refine Only.seq (State.enterWs_only ..) ?_ (by decide)
        exact hx6
      · refine Only.ite ?_ ?_
        · refine Only.seq (State.followModel_only ..) ?_ (by decide)
          exact hx6
        · exact hx6

theorem execWsLocked_only (dt_a s_a) : OnlyR ⟨[.out, .now, .tc, .pinned, .ev, .flashJournal, .ws, .diskJournal], [Obj.wsState, Obj.wsHistory, Obj.eventCount, Obj.eventLastAt, Obj.eventLastSubject, Obj.wsFreqCorrection], [0x40000004, 0x40000008]⟩ s_a (execWsLocked dt_a s_a) := by
  unfold execWsLocked
  refine actIf_only (hk3 := fun u1 => ?_) (l := (by decide)) ..
  refine Only.seq (State.enterWs_only ..) ?_ (by decide)
  exact Only.refl _ _

theorem State.watchPair_only (s : State) (p : Nat × Nat) : Only ⟨[.out, .pinned, .ev, .flashJournal, .ws, .diskJournal], [Obj.refHistory, Obj.wsHistory, Obj.eventCount, Obj.eventLastAt, Obj.eventLastSubject], [0x40000004, 0x40000008]⟩ s (s.watchPair p) := by
  unfold State.watchPair
  extract_lets +onlyGivenNames known others keep
  have hk : ∀ t l, Only ⟨[.out, .pinned, .ev, .flashJournal, .ws, .diskJournal], [Obj.refHistory, Obj.wsHistory, Obj.eventCount, Obj.eventLastAt, Obj.eventLastSubject], [0x40000004, 0x40000008]⟩ t (keep t l) := fun t l => Only.upd (r := ⟨[.out, .pinned, .ev, .flashJournal, .ws, .diskJournal], [Obj.refHistory, Obj.wsHistory, Obj.eventCount, Obj.eventLastAt, Obj.eventLastSubject], [0x40000004, 0x40000008]⟩) (fun p => by cases p <;> first | exact .inr rfl | exact .inl (by decide))
  clear_value keep known
  refine Only.ite ?_ ?_
  · split
    · exact hk _ _
    · exact (State.refHist_only ..).seq ((State.refHist_only ..).seq ((State.wsHist_only ..).seq
        ((State.raise_only ..).seq (hk _ _))))
  · split
    · exact Only.ite (hk _ _) (Only.refl _ _)
    · exact hk _ _
    · exact Only.refl _ _

theorem State.learn_only (s_a) : Only ⟨[.ws], [Obj.wsHoldoverLearned], []⟩ s_a (State.learn s_a) := by
  unfold State.learn
  extract_lets +onlyGivenNames x1
  extract_lets +onlyGivenNames x2
  extract_lets +onlyGivenNames x3
  extract_lets +onlyGivenNames x4
  have hx4 : Only ⟨[.ws], [Obj.wsHoldoverLearned], []⟩ s_a x4 := by
    subst x4
    refine Only.seq (Only.upd (r := ⟨[.ws], [], []⟩) (s := s_a) (fun p => by cases p <;> first | exact .inr rfl | exact .inl (by decide))) ?_ (by decide)
    exact Only.refl _ _
  clear_value x4
  extract_lets +onlyGivenNames x5
  extract_lets +onlyGivenNames x6
  extract_lets +onlyGivenNames x7
  have hx7 : Only ⟨[.ws], [Obj.wsHoldoverLearned], []⟩ s_a x7 := by
    subst x7
    refine Only.seq (Only.upd (r := ⟨[.ws], [], []⟩) (s := x4) (fun p => by cases p <;> first | exact .inr rfl | exact .inl (by decide))) ?_ (by decide)
    exact hx4
  clear_value x7
  refine Only.seq (State.setN_only ..) ?_ (by decide)
  exact hx7

theorem State.ageModel_only (s_a) : Only ⟨[.ws], [], []⟩ s_a (State.ageModel s_a) := by
  unfold State.ageModel
  refine Only.ite ?_ ?_
  · exact Only.refl _ _
  · refine Only.seq (Only.upd (r := ⟨[.ws], [], []⟩) (s := s_a) (fun p => by cases p <;> first | exact .inr rfl | exact .inl (by decide))) ?_ (by decide)
    exact Only.refl _ _

theorem State.wsSecond_only (s_a) : Only ⟨[.ws], [Obj.wsHoldoverLearned, Obj.wsFreqCorrection], []⟩ s_a (State.wsSecond s_a) := by
  unfold State.wsSecond
  extract_lets +onlyGivenNames x1
  extract_lets +onlyGivenNames x2
  extract_lets +onlyGivenNames x3
  extract_lets +onlyGivenNames x4
  have hx4 : Only ⟨[.ws], [Obj.wsHoldoverLearned, Obj.wsFreqCorrection], []⟩ s_a x4 := by
    subst x4
    refine Only.seq (Only.upd (r := ⟨[.ws], [], []⟩) (s := s_a) (fun p => by cases p <;> first | exact .inr rfl | exact .inl (by decide))) ?_ (by decide)
    exact Only.refl _ _
  clear_value x4
  refine Only.ite ?_ ?_
  · refine Only.seq (State.learn_only ..) ?_ (by decide)
    exact hx4
  · refine Only.ite ?_ ?_
    · refine Only.seq (State.followModel_only ..) ?_ (by decide)
      exact hx4
    · exact hx4

theorem execRefFreqMeasure_only (dt_a diffs_a s_a) : OnlyR ⟨[.out, .now, .tc, .pinned, .ev, .flashJournal, .ws, .diskJournal], [Obj.refFreqDiff, Obj.eventCount, Obj.eventLastAt, Obj.eventLastSubject, Obj.wsHistory, Obj.refHistory, Obj.wsPhaseHistogram, Obj.wsHoldoverLearned, Obj.wsFreqCorrection], [0x40000004, 0x40000008]⟩ s_a (execRefFreqMeasure dt_a diffs_a s_a) := by
  unfold execRefFreqMeasure
  refine actIf_only (hk3 := fun u1 => ?_) (l := (by decide)) ..
  extract_lets +onlyGivenNames x2
  extract_lets +onlyGivenNames x3
  have hx3 : Only ⟨[.out, .now, .tc, .pinned, .ev, .flashJournal, .ws, .diskJournal], [Obj.refFreqDiff, Obj.eventCount, Obj.eventLastAt, Obj.eventLastSubject, Obj.wsHistory, Obj.refHistory, Obj.wsPhaseHistogram, Obj.wsHoldoverLearned, Obj.wsFreqCorrection], [0x40000004, 0x40000008]⟩ u1 x3 := by
    subst x3
    refine Only.seq (Only.upd (r := ⟨[.ws], [], []⟩) (s := u1) (fun p => by cases p <;> first | exact .inr rfl | exact .inl (by decide))) ?_ (by decide)
    exact Only.refl _ _
  clear_value x3
  extract_lets +onlyGivenNames x4
  extract_lets +onlyGivenNames x5
  have hx5 : Only ⟨[.out, .now, .tc, .pinned, .ev, .flashJournal, .ws, .diskJournal], [Obj.refFreqDiff, Obj.eventCount, Obj.eventLastAt, Obj.eventLastSubject, Obj.wsHistory, Obj.refHistory, Obj.wsPhaseHistogram, Obj.wsHoldoverLearned, Obj.wsFreqCorrection], [0x40000004, 0x40000008]⟩ u1 x5 := by
    subst x5
    refine Only.foldl (fun u6 x7 => ?_) ?_
    · extract_lets +onlyGivenNames x8
      extract_lets +onlyGivenNames x9
      refine Only.seq (State.setI_only ..) ?_ (by decide)
      refine Only.seq (State.setRef_only ..) ?_ (by decide)
      exact Only.refl _ _
    · exact hx3
  clear_value x5
  extract_lets +onlyGivenNames x10
  have hx10 : Only ⟨[.out, .now, .tc, .pinned, .ev, .flashJournal, .ws, .diskJournal], [Obj.refFreqDiff, Obj.eventCount, Obj.eventLastAt, Obj.eventLastSubject, Obj.wsHistory, Obj.refHistory, Obj.wsPhaseHistogram, Obj.wsHoldoverLearned, Obj.wsFreqCorrection], [0x40000004, 0x40000008]⟩ u1 x10 := by
    subst x10
    refine Only.foldl (fun u11 x12 => ?_) ?_
    · refine Only.seq (State.watchPair_only ..) ?_ (by decide)
      exact Only.refl _ _
    · exact hx5
  clear_value x10
  extract_lets +onlyGivenNames x13
  have hx13 : Only ⟨[.out, .now, .tc, .pinned, .ev, .flashJournal, .ws, .diskJournal], [Obj.refFreqDiff, Obj.eventCount, Obj.eventLastAt, Obj.eventLastSubject, Obj.wsHistory, Obj.refHistory, Obj.wsPhaseHistogram, Obj.wsHoldoverLearned, Obj.wsFreqCorrection], [0x40000004, 0x40000008]⟩ u1 x13 := by
    subst x13
    refine Only.seq (State.onlyIf_only (hk2 := fun u14 => ?_) (l := (by decide)) ..) ?_ (Reach.le_refl _)
    · refine Only.seq (State.capture_only ..) ?_ (by decide)
      exact Only.refl _ _
    · exact hx10
  clear_value x13
  refine Only.seq (State.wsSecond_only ..) ?_ (by decide)
  refine Only.seq (State.ageModel_only ..) ?_ (by decide)
  exact hx13

theorem State.timeSet_only (s_a ns_a) : Only ⟨[.out, .tc, .pinned, .ev, .engine, .flashJournal, .ws, .tarn, .diskJournal], [Obj.refPhaseDiff, Obj.wsHistory, Obj.eventCount, Obj.eventLastAt, Obj.eventLastSubject], [0x40000004, 0x40000008]⟩ s_a (State.timeSet s_a ns_a) := by
  unfold State.timeSet
  refine Only.seq (State.stepCounter_only ..) ?_ (by decide)
  exact Only.refl _ _

theorem State.dropModel_only (s_a) : Only ⟨[.st, .ws], [Obj.wsHoldoverLearned], []⟩ s_a (State.dropModel s_a) := by
  unfold State.dropModel
  refine Only.seq (State.setN_only ..) ?_ (by decide)
  refine Only.seq (Only.upd (r := ⟨[.st, .ws], [], []⟩) (s := s_a) (fun p => by cases p <;> first | exact .inr rfl | exact .inl (by decide))) ?_ (by decide)
  exact Only.refl _ _

theorem execLoFault_only (dt_a missing_a ppm_a s_a) : OnlyR ⟨[.out, .now, .tc, .pinned, .ev, .st, .flashJournal, .ws, .diskJournal], [Obj.wsLoState, Obj.wsHoldoverLearned, Obj.wsHistory, Obj.eventCount, Obj.eventLastAt, Obj.eventLastSubject, Obj.healthReasons, Obj.healthState], [0x40000004, 0x40000008]⟩ s_a (execLoFault dt_a missing_a ppm_a s_a) := by
  unfold execLoFault
  refine actIf_only (hk3 := fun u1 => ?_) (l := (by decide)) ..
  extract_lets +onlyGivenNames x2
  extract_lets +onlyGivenNames x3
  have hx3 : Only ⟨[.out, .now, .tc, .pinned, .ev, .st, .flashJournal, .ws, .diskJournal], [Obj.wsLoState, Obj.wsHoldoverLearned, Obj.wsHistory, Obj.eventCount, Obj.eventLastAt, Obj.eventLastSubject, Obj.healthReasons, Obj.healthState], [0x40000004, 0x40000008]⟩ u1 x3 := by
    subst x3
    refine Only.seq (Only.upd (r := ⟨[.ws], [], []⟩) (s := u1) (fun p => by cases p <;> first | exact .inr rfl | exact .inl (by decide))) ?_ (by decide)
    exact Only.refl _ _
  clear_value x3
  refine Only.ite ?_ ?_
  · refine Only.seq (State.setReason_only ..) ?_ (by decide)
    refine Only.seq (State.raise_only ..) ?_ (by decide)
    refine Only.seq (State.wsHist_only ..) ?_ (by decide)
    refine Only.seq (State.dropModel_only ..) ?_ (by decide)
    refine Only.seq (State.setN_only ..) ?_ (by decide)
    exact hx3
  · exact hx3

theorem execLoRestored_only (dt_a s_a) : OnlyR ⟨[.out, .now, .tc, .pinned, .ev, .flashJournal, .diskJournal], [Obj.wsLoState, Obj.eventCount, Obj.eventLastAt, Obj.eventLastSubject, Obj.healthReasons, Obj.healthState], [0x40000004, 0x40000008]⟩ s_a (execLoRestored dt_a s_a) := by
  unfold execLoRestored
  refine actIf_only (hk3 := fun u1 => ?_) (l := (by decide)) ..
  refine Only.seq (State.setReason_only ..) ?_ (by decide)
  refine Only.seq (State.raise_only ..) ?_ (by decide)
  refine Only.seq (State.setN_only ..) ?_ (by decide)
  exact Only.refl _ _

theorem execHoldoverReady_only (dt_a s_a) : OnlyR ⟨[.out, .now, .tc, .pinned, .ev, .flashJournal, .ws, .diskJournal], [Obj.eventCount, Obj.eventLastAt, Obj.eventLastSubject], [0x40000004, 0x40000008]⟩ s_a (execHoldoverReady dt_a s_a) := by
  unfold execHoldoverReady
  refine actIf_only (hk3 := fun u1 => ?_) (l := (by decide)) ..
  refine Only.seq (State.raise_only ..) ?_ (by decide)
  refine Only.seq (Only.upd (r := ⟨[.ws], [], []⟩) (s := u1) (fun p => by cases p <;> first | exact .inr rfl | exact .inl (by decide))) ?_ (by decide)
  exact Only.refl _ _

theorem execHoldoverExpired_only (dt_a s_a) : OnlyR ⟨[.out, .now, .tc, .pinned, .ev, .flashJournal, .ws, .diskJournal], [Obj.wsHistory, Obj.eventCount, Obj.eventLastAt, Obj.eventLastSubject], [0x40000004, 0x40000008]⟩ s_a (execHoldoverExpired dt_a s_a) := by
  unfold execHoldoverExpired
  refine actIf_only (hk3 := fun u1 => ?_) (l := (by decide)) ..
  refine Only.seq (State.raise_only ..) ?_ (by decide)
  refine Only.seq (State.wsHist_only ..) ?_ (by decide)
  refine Only.seq (Only.upd (r := ⟨[.ws], [], []⟩) (s := u1) (fun p => by cases p <;> first | exact .inr rfl | exact .inl (by decide))) ?_ (by decide)
  exact Only.refl _ _

theorem State.clearHistory_only (s_a) : Only ⟨[.pinned], [Obj.refHistory, Obj.refLosses, Obj.refInvalidPulses, Obj.wsHistory, Obj.wsRefSwitches], []⟩ s_a (State.clearHistory s_a) := by
  unfold State.clearHistory
  refine Only.foldl (fun u1 x2 => ?_) ?_
  · refine Only.seq (State.clearCounter_only ..) ?_ (by decide)
    refine Only.seq (State.clearCounter_only ..) ?_ (by decide)
    refine Only.seq (State.setN_only ..) ?_ (by decide)
    exact Only.refl _ _
  · refine Only.seq (State.clearCounter_only ..) ?_ (by decide)
    refine Only.seq (State.setN_only ..) ?_ (by decide)
    exact Only.refl _ _

theorem State.clearPhaseHistogram_only (s_a) : Only ⟨[.pinned, .ws], [Obj.wsPhaseHistogram], []⟩ s_a (State.clearPhaseHistogram s_a) := by
  unfold State.clearPhaseHistogram
  refine Only.seq (State.clearCounter_only ..) ?_ (by decide)
  refine Only.seq (Only.upd (r := ⟨[.ws], [], []⟩) (s := s_a) (fun p => by cases p <;> first | exact .inr rfl | exact .inl (by decide))) ?_ (by decide)
  exact Only.refl _ _

theorem State.setFp_only (s_a n_a x_a) : Only ⟨[.ws], [], []⟩ s_a (State.setFp s_a n_a x_a) := by
  unfold State.setFp
  refine Only.seq (Only.upd (r := ⟨[.ws], [], []⟩) (s := s_a) (fun p => by cases p <;> first | exact .inr rfl | exact .inl (by decide))) ?_ (by decide)
  exact Only.refl _ _

theorem State.fpWritten_only (s_a n_a) : Only ⟨[.out, .pinned, .ev, .flashJournal, .ws, .diskJournal], [Obj.fpState, Obj.eventCount, Obj.eventLastAt, Obj.eventLastSubject], [0x40000004, 0x40000008]⟩ s_a (State.fpWritten s_a n_a) := by
  unfold State.fpWritten
  extract_lets +onlyGivenNames x1
  extract_lets +onlyGivenNames x2
  have hx2 : Only ⟨[.out, .pinned, .ev, .flashJournal, .ws, .diskJournal], [Obj.fpState, Obj.eventCount, Obj.eventLastAt, Obj.eventLastSubject], [0x40000004, 0x40000008]⟩ s_a x2 := by
    subst x2
    refine Only.ite ?_ ?_
    · refine Only.seq (State.setFp_only ..) ?_ (by decide)
      exact Only.refl _ _
    · refine Only.seq (State.setFp_only ..) ?_ (by decide)
      exact Only.refl _ _
  clear_value x2
  refine Only.seq (State.refreshFp_only ..) ?_ (by decide)
  exact hx2

theorem State.fpIdle_only (s_a n_a) : Only ⟨[.out], [], []⟩ s_a (State.fpIdle s_a n_a) := by
  unfold State.fpIdle
  refine Only.seq (State.emit_only ..) ?_ (by decide)
  exact Only.refl _ _

theorem execFpPulseEmit_only (dt_a output_a s_a) : OnlyR ⟨[.out, .now, .tc, .ws], [], []⟩ s_a (execFpPulseEmit dt_a output_a s_a) := by
  unfold execFpPulseEmit
  refine actIf_only (hk3 := fun u1 => ?_) (l := (by decide)) ..
  split
  · exact Only.refl _ _
  · refine Only.ite ?_ ?_
    · extract_lets +onlyGivenNames x2
      subst x2
      refine Only.seq (State.emit_only ..) ?_ (by decide)
      refine Only.seq (State.setFp_only ..) ?_ (by decide)
      exact Only.refl _ _
    · exact Only.refl _ _

theorem State.wsWritten_only (s_a index_a sub_a) : Only ⟨[.out, .pinned, .ev, .flashJournal, .ws, .diskJournal], [Obj.refState, Obj.eventCount, Obj.eventLastAt, Obj.eventLastSubject, Obj.refLosses, Obj.refHistory, Obj.fpState, Obj.ptpState, Obj.ptpGmIdentity, Obj.ptpClockClass, Obj.refQlInForce], [0x40000004, 0x40000008]⟩ s_a (State.wsWritten s_a index_a sub_a) := by
  unfold State.wsWritten
  refine Only.ite ?_ ?_
  · refine Only.seq (State.refreshRef_only ..) ?_ (by decide)
    exact Only.refl _ _
  · refine Only.ite ?_ ?_
    · refine Only.ite ?_ ?_
      · refine Only.ite ?_ ?_
        · refine Only.seq (State.fpWritten_only ..) ?_ (by decide)
          exact Only.refl _ _
        · exact Only.refl _ _
      · refine Only.seq (State.fpIdle_only ..) ?_ (by decide)
        refine Only.seq (State.fpWritten_only ..) ?_ (by decide)
        exact Only.refl _ _
    · refine Only.ite ?_ ?_
      · refine Only.seq (State.fpWritten_only ..) ?_ (by decide)
        exact Only.refl _ _
      · refine Only.ite ?_ ?_
        · refine Only.seq (State.fpIdle_only ..) ?_ (by decide)
          exact Only.refl _ _
        · exact Only.refl _ _

end Sys2Proof.Machine
end

