-- ==== Sys2Proof/Laws/OnlyMediaFrame.lean ====
section
/-!
SUPPORT. What the functions of Machine/MediaFrame.lean may change (`Only` of Laws/Only.lean).
-/
namespace Sys2Proof.Machine
set_option Elab.async false

theorem State.answer_only (s_a port_a addr_a) : Only ⟨[.out, .pinned, .ev, .flashJournal, .diskJournal], [Obj.portTxFramesB, Obj.portTxFrames, Obj.eventCount, Obj.eventLastAt, Obj.eventLastSubject, Obj.portTxBytesB, Obj.portTxBytes], [0x40000004, 0x40000008]⟩ s_a (State.answer s_a port_a addr_a) := by
  unfold State.answer
  refine Only.ite ?_ ?_
  · refine Only.seq (State.sendArp_only ..) ?_ (by decide)
    exact Only.refl _ _
  · exact Only.refl _ _

theorem State.query_only (s_a port_a mld_a version_a group_a) : Only ⟨[.out, .pinned, .ev, .flashJournal, .media, .diskJournal], [Obj.portQuerierB, Obj.portQuerier, Obj.eventCount, Obj.eventLastAt, Obj.eventLastSubject, Obj.portTxFramesB, Obj.portTxFrames, Obj.portTxBytesB, Obj.portTxBytes], [0x40000004, 0x40000008]⟩ s_a (State.query s_a port_a mld_a version_a group_a) := by
  unfold State.query
  extract_lets +onlyGivenNames x1
  extract_lets +onlyGivenNames x2
  subst x2
  extract_lets +onlyGivenNames x3
  extract_lets +onlyGivenNames x4
  have hx4 : Only ⟨[.out, .pinned, .ev, .flashJournal, .media, .diskJournal], [Obj.portQuerierB, Obj.portQuerier, Obj.eventCount, Obj.eventLastAt, Obj.eventLastSubject, Obj.portTxFramesB, Obj.portTxFrames, Obj.portTxBytesB, Obj.portTxBytes], [0x40000004, 0x40000008]⟩ s_a x4 := by
    subst x4
    refine Only.seq (State.setN_only ..) ?_ (by unfold portIdx; split <;> first | decide | simp [Reach.le])
    exact Only.refl _ _
  clear_value x4
  extract_lets +onlyGivenNames x5
  subst x5
  extract_lets +onlyGivenNames x6
  extract_lets +onlyGivenNames x7
  have hx7 : Only ⟨[.out, .pinned, .ev, .flashJournal, .media, .diskJournal], [Obj.portQuerierB, Obj.portQuerier, Obj.eventCount, Obj.eventLastAt, Obj.eventLastSubject, Obj.portTxFramesB, Obj.portTxFrames, Obj.portTxBytesB, Obj.portTxBytes], [0x40000004, 0x40000008]⟩ s_a x7 := by
    subst x7
    refine Only.ite ?_ ?_
    · refine Only.seq (State.setPort_only ..) ?_ (by decide)
      exact hx4
    · exact hx4
  clear_value x7
  extract_lets +onlyGivenNames x8
  have hx8 : Only ⟨[.out, .pinned, .ev, .flashJournal, .media, .diskJournal], [Obj.portQuerierB, Obj.portQuerier, Obj.eventCount, Obj.eventLastAt, Obj.eventLastSubject, Obj.portTxFramesB, Obj.portTxFrames, Obj.portTxBytesB, Obj.portTxBytes], [0x40000004, 0x40000008]⟩ s_a x8 := by
    subst x8
    refine Only.ite ?_ ?_
    · refine Only.seq (State.raise_only ..) ?_ (by decide)
      exact hx7
    · exact hx7
  clear_value x8
  refine Only.foldl (fun u9 x10 => ?_) ?_
  · refine Only.seq (State.report_only ..) ?_ (by decide)
    exact Only.refl _ _
  · exact hx8

theorem State.flowPacket_only (s_a port_a mac_a p_a) : Only ⟨[.out, .pinned, .ev, .flashJournal, .sdiRx, .ridge, .media, .diskJournal], [Obj.rxForeign, Obj.eventCount, Obj.eventLastAt, Obj.eventLastSubject, Obj.rxFlowState, Obj.embFormat, Obj.embPayloadId, Obj.embStructure, Obj.srcFeedKind, Obj.srcState, Obj.srcReservationStatus, Obj.srcFramesAbandoned, Obj.srcColourLive, Obj.rxPackets, Obj.rxOutOfOrder, Obj.rxSkewMin, Obj.rxSkewMax, Obj.rxLatePackets, Obj.rxDuplicates, Obj.rxAncUnmatched, Obj.rxBufferOverrun, Obj.rxPeakOccupancy, Obj.portRxDropNoFlowB, Obj.portRxDropNoFlow], [0x40000004, 0x40000008]⟩ s_a (State.flowPacket s_a port_a mac_a p_a) := by
  unfold State.flowPacket
  extract_lets +onlyGivenNames x1
  split
  · refine Only.seq (State.receive_only ..) ?_ (by decide)
    exact Only.refl _ _
  · refine Only.ite ?_ ?_
    · refine Only.seq (State.premeasure_only ..) ?_ (by decide)
      exact Only.refl _ _
    · exact Only.refl _ _
  · refine Only.seq (State.bump_only ..) ?_ (by unfold portIdx; split <;> first | decide | simp [Reach.le])
    exact Only.refl _ _

theorem State.sendDelayReq_only (s_a port_a r_a) : Only ⟨[.out, .pinned, .ev, .flashJournal, .ws, .diskJournal], [Obj.portTxFramesB, Obj.portTxFrames, Obj.eventCount, Obj.eventLastAt, Obj.eventLastSubject, Obj.portTxBytesB, Obj.portTxBytes], [0x40000004, 0x40000008]⟩ s_a (State.sendDelayReq s_a port_a r_a) := by
  unfold State.sendDelayReq
  extract_lets +onlyGivenNames x1
  extract_lets +onlyGivenNames x2
  subst x2
  extract_lets +onlyGivenNames x3
  extract_lets +onlyGivenNames x4
  have hx4 : Only ⟨[.out, .pinned, .ev, .flashJournal, .ws, .diskJournal], [Obj.portTxFramesB, Obj.portTxFrames, Obj.eventCount, Obj.eventLastAt, Obj.eventLastSubject, Obj.portTxBytesB, Obj.portTxBytes], [0x40000004, 0x40000008]⟩ s_a x4 := by
    subst x4
    refine Only.seq (State.setRef_only ..) ?_ (by decide)
    exact Only.refl _ _
  clear_value x4
  refine Only.seq (State.emit_only ..) ?_ (by decide)
  refine Only.seq (State.countTx_only ..) ?_ (by decide)
  exact hx4

theorem State.delayReqs_only (s_a port_a domain_a ipv6_a m_a) : Only ⟨[.out, .pinned, .ev, .flashJournal, .ws, .diskJournal], [Obj.portTxFramesB, Obj.portTxFrames, Obj.eventCount, Obj.eventLastAt, Obj.eventLastSubject, Obj.portTxBytesB, Obj.portTxBytes], [0x40000004, 0x40000008]⟩ s_a (State.delayReqs s_a port_a domain_a ipv6_a m_a) := by
  unfold State.delayReqs
  split
  · refine Only.foldl (fun u1 x2 => ?_) ?_
    · refine Only.seq (State.sendDelayReq_only ..) ?_ (by decide)
      exact Only.refl _ _
    · exact Only.refl _ _
  · exact Only.refl _ _

theorem execMpFrameReceived_only (dt_a port_a f_a s_a) : OnlyR ⟨[.out, .now, .tc, .pinned, .ev, .flashJournal, .sdiRx, .ridge, .media, .ws, .diskJournal], List.append [Obj.portRxDropBadB, Obj.portRxDropBad, Obj.eventCount, Obj.eventLastAt, Obj.eventLastSubject, Obj.portRxFramesB, Obj.portRxFrames, Obj.portRxBytesB, Obj.portRxBytes, Obj.rxForeign, Obj.rxFlowState, Obj.embFormat, Obj.embPayloadId, Obj.embStructure, Obj.srcFeedKind, Obj.srcState] (List.append [Obj.srcReservationStatus, Obj.srcFramesAbandoned, Obj.srcColourLive, Obj.rxPackets, Obj.rxOutOfOrder, Obj.rxSkewMin, Obj.rxSkewMax, Obj.rxLatePackets, Obj.rxDuplicates, Obj.rxAncUnmatched, Obj.rxBufferOverrun, Obj.rxPeakOccupancy, Obj.portRxDropNoFlowB, Obj.portRxDropNoFlow, Obj.portTxFramesB, Obj.portTxFrames] (List.append [Obj.portTxBytesB, Obj.portTxBytes, Obj.txFlowState, Obj.portQuerierB, Obj.portQuerier, Obj.ptpState, Obj.ptpGmIdentity, Obj.ptpClockClass, Obj.refState, Obj.refLosses, Obj.refHistory, Obj.fpState, Obj.refQlInForce, Obj.ptpOffsetFromMaster, Obj.ptpMeanPathDelay, Obj.refPhaseDiff] ([Obj.wsState, Obj.wsHistory, Obj.wsFreqCorrection]))), [0x40000004, 0x40000008]⟩ s_a (execMpFrameReceived dt_a port_a f_a s_a) := by
  unfold execMpFrameReceived
  refine actIf_only (hk3 := fun u1 => ?_) (l := (by decide)) ..
  refine Only.ite ?_ ?_
  · refine Only.seq (State.bump_only ..) ?_ (by unfold portIdx; split <;> first | decide | simp [Reach.le])
    exact Only.refl _ _
  · extract_lets +onlyGivenNames x2
    have hx2 : Only ⟨[.out, .now, .tc, .pinned, .ev, .flashJournal, .sdiRx, .ridge, .media, .ws, .diskJournal], List.append [Obj.portRxDropBadB, Obj.portRxDropBad, Obj.eventCount, Obj.eventLastAt, Obj.eventLastSubject, Obj.portRxFramesB, Obj.portRxFrames, Obj.portRxBytesB, Obj.portRxBytes, Obj.rxForeign, Obj.rxFlowState, Obj.embFormat, Obj.embPayloadId, Obj.embStructure, Obj.srcFeedKind, Obj.srcState] (List.append [Obj.srcReservationStatus, Obj.srcFramesAbandoned, Obj.srcColourLive, Obj.rxPackets, Obj.rxOutOfOrder, Obj.rxSkewMin, Obj.rxSkewMax, Obj.rxLatePackets, Obj.rxDuplicates, Obj.rxAncUnmatched, Obj.rxBufferOverrun, Obj.rxPeakOccupancy, Obj.portRxDropNoFlowB, Obj.portRxDropNoFlow, Obj.portTxFramesB, Obj.portTxFrames] (List.append [Obj.portTxBytesB, Obj.portTxBytes, Obj.txFlowState, Obj.portQuerierB, Obj.portQuerier, Obj.ptpState, Obj.ptpGmIdentity, Obj.ptpClockClass, Obj.refState, Obj.refLosses, Obj.refHistory, Obj.fpState, Obj.refQlInForce, Obj.ptpOffsetFromMaster, Obj.ptpMeanPathDelay, Obj.refPhaseDiff] ([Obj.wsState, Obj.wsHistory, Obj.wsFreqCorrection]))), [0x40000004, 0x40000008]⟩ u1 x2 := by
      subst x2
      refine Only.seq (State.bump_only ..) ?_ (by unfold portIdx; split <;> first | decide | simp [Reach.le])
      refine Only.seq (State.bump_only ..) ?_ (by unfold portIdx; split <;> first | decide | simp [Reach.le])
      exact Only.refl _ _
    clear_value x2
    split
    · refine Only.seq (State.flowPacket_only ..) ?_ (by decide)
      exact hx2
    · refine Only.seq (State.bump_only ..) ?_ (by unfold portIdx; split <;> first | decide | simp [Reach.le])
      exact hx2
    · refine Only.seq (State.answer_only ..) ?_ (by decide)
      exact hx2
    · refine Only.seq (State.answer_only ..) ?_ (by decide)
      exact hx2
    · refine Only.seq (State.resolved_only ..) ?_ (by decide)
      exact hx2
    · refine Only.seq (State.query_only ..) ?_ (by decide)
      exact hx2
    · refine Only.seq (State.delayReqs_only ..) ?_ (by decide)
      refine Only.seq (State.ptpMessage_only ..) ?_ (by decide)
      exact hx2

end Sys2Proof.Machine
end

