-- ==== Sys2Proof/Laws/OnlyCirque.lean ====
section
/-!
SUPPORT. What the functions of Machine/Cirque.lean may change (`Only` of Laws/Only.lean).
-/
namespace Sys2Proof.Machine
set_option Elab.async false

theorem State.setEngine_only (s_a e_a x_a) : Only ⟨[.cq], [], []⟩ s_a (State.setEngine s_a e_a x_a) := by
  unfold State.setEngine
  refine Only.seq (Only.upd (r := ⟨[.cq], [], []⟩) (s := s_a) (fun p => by cases p <;> first | exact .inr rfl | exact .inl (by decide))) ?_ (by decide)
  exact Only.refl _ _

theorem State.setLayer_only (s_a x_a y_a) : Only ⟨[.cq], [], []⟩ s_a (State.setLayer s_a x_a y_a) := by
  unfold State.setLayer
  refine Only.seq (Only.upd (r := ⟨[.cq], [], []⟩) (s := s_a) (fun p => by cases p <;> first | exact .inr rfl | exact .inl (by decide))) ?_ (by decide)
  exact Only.refl _ _

theorem State.setStage_only (s_a x_a y_a) : Only ⟨[.cq], [], []⟩ s_a (State.setStage s_a x_a y_a) := by
  unfold State.setStage
  refine Only.seq (Only.upd (r := ⟨[.cq], [], []⟩) (s := s_a) (fun p => by cases p <;> first | exact .inr rfl | exact .inl (by decide))) ?_ (by decide)
  exact Only.refl _ _

theorem State.gfxOffset_only (s_a x_a pos_a) : Only ⟨[.cq], [], []⟩ s_a (State.gfxOffset s_a x_a pos_a) := by
  unfold State.gfxOffset
  refine Only.seq (State.setLayer_only ..) ?_ (by decide)
  exact Only.refl _ _

theorem State.gfxData_only (s_a x_a b_a) : Only ⟨[.cq], [Obj.layerGfxComplete], []⟩ s_a (State.gfxData s_a x_a b_a) := by
  unfold State.gfxData
  extract_lets +onlyGivenNames x1
  extract_lets +onlyGivenNames x2
  have hx2 : Only ⟨[.cq], [Obj.layerGfxComplete], []⟩ s_a x2 := by
    subst x2
    refine Only.seq (State.setLayer_only ..) ?_ (by decide)
    exact Only.refl _ _
  clear_value x2
  refine Only.seq (State.setB_only ..) ?_ (by decide)
  exact hx2

theorem State.gfxFlip_only (s_a x_a boundary_a) : Only ⟨[.cq], [], []⟩ s_a (State.gfxFlip s_a x_a boundary_a) := by
  unfold State.gfxFlip
  refine Only.seq (State.setLayer_only ..) ?_ (by decide)
  exact Only.refl _ _

theorem State.doFlip_only (s_a x_a te_a) : Only ⟨[.cq], [Obj.layerGfxComplete], []⟩ s_a (State.doFlip s_a x_a te_a) := by
  unfold State.doFlip
  extract_lets +onlyGivenNames x1
  refine Only.seq (State.setB_only ..) ?_ (by decide)
  refine Only.seq (State.setLayer_only ..) ?_ (by decide)
  exact Only.refl _ _

theorem State.tableBits_only (s_a x_a) : Only ⟨[], [Obj.colStageState], []⟩ s_a (State.tableBits s_a x_a) := by
  unfold State.tableBits
  extract_lets +onlyGivenNames x1
  refine Only.seq (State.setN_only ..) ?_ (by decide)
  exact Only.refl _ _

theorem State.shaperData_only (s_a x_a b_a) : Only ⟨[.cq], [Obj.colStageState], []⟩ s_a (State.shaperData s_a x_a b_a) := by
  unfold State.shaperData
  refine Only.seq (State.tableBits_only ..) ?_ (by decide)
  refine Only.seq (State.setStage_only ..) ?_ (by decide)
  exact Only.refl _ _

theorem State.lutOffset_only (s_a x_a pos_a) : Only ⟨[.cq], [], []⟩ s_a (State.lutOffset s_a x_a pos_a) := by
  unfold State.lutOffset
  refine Only.seq (State.setStage_only ..) ?_ (by decide)
  exact Only.refl _ _

theorem State.lutData_only (s_a x_a b_a) : Only ⟨[.cq], [Obj.colStageState], []⟩ s_a (State.lutData s_a x_a b_a) := by
  unfold State.lutData
  extract_lets +onlyGivenNames x1
  refine Only.seq (State.tableBits_only ..) ?_ (by decide)
  refine Only.seq (State.setStage_only ..) ?_ (by decide)
  exact Only.refl _ _

theorem State.tableFlip_only (s_a x_a boundary_a) : Only ⟨[.cq], [], []⟩ s_a (State.tableFlip s_a x_a boundary_a) := by
  unfold State.tableFlip
  refine Only.seq (State.setStage_only ..) ?_ (by decide)
  exact Only.refl _ _

theorem State.doTableFlip_only (s_a x_a te_a) : Only ⟨[.out, .pinned, .ev, .flashJournal, .cq, .diskJournal], [Obj.colStageState, Obj.eventCount, Obj.eventLastAt, Obj.eventLastSubject], [0x40000004, 0x40000008]⟩ s_a (State.doTableFlip s_a x_a te_a) := by
  unfold State.doTableFlip
  extract_lets +onlyGivenNames x1
  refine Only.ite ?_ ?_
  · exact Only.refl _ _
  · extract_lets +onlyGivenNames x2
    refine Only.ite ?_ ?_
    · refine Only.ite ?_ ?_
      · exact Only.refl _ _
      · refine Only.seq (State.raise_only ..) ?_ (by decide)
        refine Only.seq (State.tableBits_only ..) ?_ (by decide)
        refine Only.seq (State.setStage_only ..) ?_ (by decide)
        exact Only.refl _ _
    · extract_lets +onlyGivenNames x3
      have hx3 : Only ⟨[.out, .pinned, .ev, .flashJournal, .cq, .diskJournal], [Obj.colStageState, Obj.eventCount, Obj.eventLastAt, Obj.eventLastSubject], [0x40000004, 0x40000008]⟩ s_a x3 := by
        subst x3
        refine Only.seq (State.tableBits_only ..) ?_ (by decide)
        refine Only.seq (State.setStage_only ..) ?_ (by decide)
        exact Only.refl _ _
      clear_value x3
      refine Only.ite ?_ ?_
      · refine Only.seq (State.raise_only ..) ?_ (by decide)
        exact hx3
      · exact hx3

theorem State.refreshStage_only (s_a c_a x_a te_a) : Only ⟨[.out, .pinned, .ev, .flashJournal, .cq, .diskJournal], [Obj.colStageState, Obj.eventCount, Obj.eventLastAt, Obj.eventLastSubject, Obj.colStageIn, Obj.colStageOut], [0x40000004, 0x40000008]⟩ s_a (State.refreshStage s_a c_a x_a te_a) := by
  unfold State.refreshStage
  extract_lets +onlyGivenNames x1
  have hx1 : Only ⟨[.out, .pinned, .ev, .flashJournal, .cq, .diskJournal], [Obj.colStageState, Obj.eventCount, Obj.eventLastAt, Obj.eventLastSubject, Obj.colStageIn, Obj.colStageOut], [0x40000004, 0x40000008]⟩ s_a x1 := by
    subst x1
    refine Only.seq (State.doTableFlip_only ..) ?_ (by decide)
    exact Only.refl _ _
  clear_value x1
  split
  extract_lets +onlyGivenNames x2
  have hx2 : Only ⟨[.out, .pinned, .ev, .flashJournal, .cq, .diskJournal], [Obj.colStageState, Obj.eventCount, Obj.eventLastAt, Obj.eventLastSubject, Obj.colStageIn, Obj.colStageOut], [0x40000004, 0x40000008]⟩ s_a x2 := by
    subst x2
    refine Only.seq (State.setN_only ..) ?_ (by decide)
    refine Only.seq (State.setN_only ..) ?_ (by decide)
    exact hx1
  clear_value x2
  refine Only.seq (State.setBitN_only ..) ?_ (by decide)
  refine Only.seq (State.setBitN_only ..) ?_ (by decide)
  exact hx2

theorem State.layerNotReady_only (s_a c_a x_a has_a) : Only ⟨[.out, .pinned, .ev, .flashJournal, .cq, .diskJournal], [Obj.layerNotReadyFrames, Obj.eventCount, Obj.eventLastAt, Obj.eventLastSubject, Obj.layerState], [0x40000004, 0x40000008]⟩ s_a (State.layerNotReady s_a c_a x_a has_a) := by
  unfold State.layerNotReady
  extract_lets +onlyGivenNames x1
  extract_lets +onlyGivenNames x2
  extract_lets +onlyGivenNames x3
  extract_lets +onlyGivenNames x4
  extract_lets +onlyGivenNames x5
  have hx5 : Only ⟨[.out, .pinned, .ev, .flashJournal, .cq, .diskJournal], [Obj.layerNotReadyFrames, Obj.eventCount, Obj.eventLastAt, Obj.eventLastSubject, Obj.layerState], [0x40000004, 0x40000008]⟩ s_a x5 := by
    subst x5
    refine Only.seq (State.setLayer_only ..) ?_ (by decide)
    exact Only.refl _ _
  clear_value x5
  extract_lets +onlyGivenNames x6
  have hx6 : Only ⟨[.out, .pinned, .ev, .flashJournal, .cq, .diskJournal], [Obj.layerNotReadyFrames, Obj.eventCount, Obj.eventLastAt, Obj.eventLastSubject, Obj.layerState], [0x40000004, 0x40000008]⟩ s_a x6 := by
    subst x6
    refine Only.seq (State.setN_only ..) ?_ (by decide)
    refine Only.seq (State.bump_only ..) ?_ (by decide)
    exact hx5
  clear_value x6
  extract_lets +onlyGivenNames x7
  have hx7 : Only ⟨[.out, .pinned, .ev, .flashJournal, .cq, .diskJournal], [Obj.layerNotReadyFrames, Obj.eventCount, Obj.eventLastAt, Obj.eventLastSubject, Obj.layerState], [0x40000004, 0x40000008]⟩ s_a x7 := by
    subst x7
    refine Only.ite ?_ ?_
    · exact hx6
    · refine Only.seq (State.raise_only ..) ?_ (by decide)
      exact hx6
  clear_value x7
  refine Only.ite ?_ ?_
  · refine Only.seq (State.raise_only ..) ?_ (by decide)
    exact hx7
  · exact hx7

theorem State.layerReady_only (s_a x_a) : Only ⟨[.out, .pinned, .ev, .flashJournal, .cq, .diskJournal], [Obj.layerState, Obj.eventCount, Obj.eventLastAt, Obj.eventLastSubject], [0x40000004, 0x40000008]⟩ s_a (State.layerReady s_a x_a) := by
  unfold State.layerReady
  extract_lets +onlyGivenNames x1
  extract_lets +onlyGivenNames x2
  have hx2 : Only ⟨[.out, .pinned, .ev, .flashJournal, .cq, .diskJournal], [Obj.layerState, Obj.eventCount, Obj.eventLastAt, Obj.eventLastSubject], [0x40000004, 0x40000008]⟩ s_a x2 := by
    subst x2
    refine Only.seq (State.setN_only ..) ?_ (by decide)
    refine Only.seq (State.setLayer_only ..) ?_ (by decide)
    exact Only.refl _ _
  clear_value x2
  refine Only.ite ?_ ?_
  · refine Only.seq (State.raise_only ..) ?_ (by decide)
    exact hx2
  · exact hx2

theorem State.layerLoss_only (s_a c_a d_a x_a state_a) : Only ⟨[.out, .pinned, .ev, .flashJournal, .ridge, .cq, .diskJournal], [Obj.eventCount, Obj.eventLastAt, Obj.eventLastSubject, Obj.dstState, Obj.dstLossFrames, Obj.layerNotReadyFrames, Obj.layerState], [0x40000004, 0x40000008]⟩ s_a (State.layerLoss s_a c_a d_a x_a state_a) := by
  unfold State.layerLoss
  refine Only.seq (State.layerNotReady_only ..) ?_ (by decide)
  refine Only.seq (State.bump_only ..) ?_ (by decide)
  refine Only.seq (State.setN_only ..) ?_ (by decide)
  refine Only.seq (State.enterLoss_only ..) ?_ (by decide)
  exact Only.refl _ _

theorem State.layerShow_only (s_a d_a x_a slot_a te_a p_a) : Only ⟨[.out, .fresh, .pinned, .ev, .flashJournal, .ridge, .cq, .diskJournal], [Obj.eventCount, Obj.eventLastAt, Obj.eventLastSubject, Obj.dstRepeats, Obj.dstDrops, Obj.dstState, Obj.routeOnAir, Obj.originKind, Obj.latencyLast, Obj.stageBreakdown, Obj.latencyMin, Obj.latencyMax, Obj.dstFormatLive, Obj.layerState], [0x40000004, 0x40000008]⟩ s_a (State.layerShow s_a d_a x_a slot_a te_a p_a) := by
  unfold State.layerShow
  extract_lets +onlyGivenNames x1
  extract_lets +onlyGivenNames x2
  extract_lets +onlyGivenNames x3
  have hx3 : Only ⟨[.out, .fresh, .pinned, .ev, .flashJournal, .ridge, .cq, .diskJournal], [Obj.eventCount, Obj.eventLastAt, Obj.eventLastSubject, Obj.dstRepeats, Obj.dstDrops, Obj.dstState, Obj.routeOnAir, Obj.originKind, Obj.latencyLast, Obj.stageBreakdown, Obj.latencyMin, Obj.latencyMax, Obj.dstFormatLive, Obj.layerState], [0x40000004, 0x40000008]⟩ s_a x3 := by
    subst x3
    refine Only.seq (State.emitLedger_only ..) ?_ (by decide)
    refine Only.seq (State.showFrame_only ..) ?_ (by decide)
    refine Only.seq (State.slip_only ..) ?_ (by decide)
    exact Only.refl _ _
  clear_value x3
  extract_lets +onlyGivenNames x4
  extract_lets +onlyGivenNames x5
  have hx5 : Only ⟨[.out, .fresh, .pinned, .ev, .flashJournal, .ridge, .cq, .diskJournal], [Obj.eventCount, Obj.eventLastAt, Obj.eventLastSubject, Obj.dstRepeats, Obj.dstDrops, Obj.dstState, Obj.routeOnAir, Obj.originKind, Obj.latencyLast, Obj.stageBreakdown, Obj.latencyMin, Obj.latencyMax, Obj.dstFormatLive, Obj.layerState], [0x40000004, 0x40000008]⟩ s_a x5 := by
    subst x5
    refine Only.seq (State.setDst_only ..) ?_ (by decide)
    refine Only.seq (State.setN_only ..) ?_ (by decide)
    exact hx3
  clear_value x5
  refine Only.seq (State.layerReady_only ..) ?_ (by decide)
  refine Only.seq (State.setLayer_only ..) ?_ (by decide)
  exact hx5

theorem State.layerSwitch_only (s_a d_a x_a te_a route_a) : Only ⟨[.ridge, .cq], [], []⟩ s_a (State.layerSwitch s_a d_a x_a te_a route_a) := by
  unfold State.layerSwitch
  extract_lets +onlyGivenNames x1
  extract_lets +onlyGivenNames x2
  extract_lets +onlyGivenNames x3
  refine Only.ite ?_ ?_
  · refine Only.seq (State.setDst_only ..) ?_ (by decide)
    exact Only.refl _ _
  · refine Only.seq (State.setDst_only ..) ?_ (by decide)
    refine Only.seq (State.setLayer_only ..) ?_ (by decide)
    exact Only.refl _ _

theorem State.videoLayer_only (s_a c_a x_a te_a) : Only ⟨[.out, .fresh, .pinned, .ev, .flashJournal, .ridge, .cq, .diskJournal], [Obj.dstModeInForce, Obj.dstColourInForce, Obj.eventCount, Obj.eventLastAt, Obj.eventLastSubject, Obj.dstState, Obj.dstLossFrames, Obj.layerNotReadyFrames, Obj.layerState, Obj.srcLiveFormat, Obj.srcFramesWritten, Obj.srcFeedKind, Obj.srcState, Obj.srcReservationStatus, Obj.srcFramesAbandoned, Obj.srcColourLive, Obj.dstRepeats, Obj.dstDrops, Obj.routeOnAir, Obj.originKind, Obj.latencyLast, Obj.stageBreakdown, Obj.latencyMin, Obj.latencyMax, Obj.dstFormatLive], [0x40000004, 0x40000008]⟩ s_a (State.videoLayer s_a c_a x_a te_a) := by
  unfold State.videoLayer
  extract_lets +onlyGivenNames x1
  extract_lets +onlyGivenNames x2
  extract_lets +onlyGivenNames x3
  have hx3 : Only ⟨[.out, .fresh, .pinned, .ev, .flashJournal, .ridge, .cq, .diskJournal], [Obj.dstModeInForce, Obj.dstColourInForce, Obj.eventCount, Obj.eventLastAt, Obj.eventLastSubject, Obj.dstState, Obj.dstLossFrames, Obj.layerNotReadyFrames, Obj.layerState, Obj.srcLiveFormat, Obj.srcFramesWritten, Obj.srcFeedKind, Obj.srcState, Obj.srcReservationStatus, Obj.srcFramesAbandoned, Obj.srcColourLive, Obj.dstRepeats, Obj.dstDrops, Obj.routeOnAir, Obj.originKind, Obj.latencyLast, Obj.stageBreakdown, Obj.latencyMin, Obj.latencyMax, Obj.dstFormatLive], [0x40000004, 0x40000008]⟩ s_a x3 := by
    subst x3
    refine Only.seq (State.layerSwitch_only ..) ?_ (by decide)
    exact Only.refl _ _
  clear_value x3
  extract_lets +onlyGivenNames x4
  have hx4 : Only ⟨[.out, .fresh, .pinned, .ev, .flashJournal, .ridge, .cq, .diskJournal], [Obj.dstModeInForce, Obj.dstColourInForce, Obj.eventCount, Obj.eventLastAt, Obj.eventLastSubject, Obj.dstState, Obj.dstLossFrames, Obj.layerNotReadyFrames, Obj.layerState, Obj.srcLiveFormat, Obj.srcFramesWritten, Obj.srcFeedKind, Obj.srcState, Obj.srcReservationStatus, Obj.srcFramesAbandoned, Obj.srcColourLive, Obj.dstRepeats, Obj.dstDrops, Obj.routeOnAir, Obj.originKind, Obj.latencyLast, Obj.stageBreakdown, Obj.latencyMin, Obj.latencyMax, Obj.dstFormatLive], [0x40000004, 0x40000008]⟩ s_a x4 := by
    subst x4
    refine Only.seq (State.labelColour_only ..) ?_ (by decide)
    refine Only.seq (State.setN_only ..) ?_ (by decide)
    exact hx3
  clear_value x4
  extract_lets +onlyGivenNames x5
  split
  · refine Only.seq (State.layerLoss_only ..) ?_ (by decide)
    exact hx4
  · extract_lets +onlyGivenNames x6
    have hx6 : Only ⟨[.out, .fresh, .pinned, .ev, .flashJournal, .ridge, .cq, .diskJournal], [Obj.dstModeInForce, Obj.dstColourInForce, Obj.eventCount, Obj.eventLastAt, Obj.eventLastSubject, Obj.dstState, Obj.dstLossFrames, Obj.layerNotReadyFrames, Obj.layerState, Obj.srcLiveFormat, Obj.srcFramesWritten, Obj.srcFeedKind, Obj.srcState, Obj.srcReservationStatus, Obj.srcFramesAbandoned, Obj.srcColourLive, Obj.dstRepeats, Obj.dstDrops, Obj.routeOnAir, Obj.originKind, Obj.latencyLast, Obj.stageBreakdown, Obj.latencyMin, Obj.latencyMax, Obj.dstFormatLive], [0x40000004, 0x40000008]⟩ s_a x6 := by
      subst x6
      refine Only.seq (State.settle_only ..) ?_ (by decide)
      exact hx4
    clear_value x6
    split
    · refine Only.ite ?_ ?_
      · refine Only.seq (State.layerShow_only ..) ?_ (by decide)
        exact hx6
      · refine Only.seq (State.layerLoss_only ..) ?_ (by decide)
        exact hx6
    · refine Only.seq (State.layerLoss_only ..) ?_ (by decide)
      exact hx6

theorem State.layerOff_only (s_a x_a) : Only ⟨[.cq], [Obj.layerState], []⟩ s_a (State.layerOff s_a x_a) := by
  unfold State.layerOff
  refine Only.seq (State.setN_only ..) ?_ (by decide)
  refine Only.seq (State.setLayer_only ..) ?_ (by decide)
  exact Only.refl _ _

theorem State.gfxLayer_only (s_a c_a x_a te_a isStatic_a rebuild_a) : Only ⟨[.out, .pinned, .ev, .flashJournal, .cq, .diskJournal], [Obj.layerGfxComplete, Obj.layerState, Obj.eventCount, Obj.eventLastAt, Obj.eventLastSubject, Obj.layerNotReadyFrames], [0x40000004, 0x40000008]⟩ s_a (State.gfxLayer s_a c_a x_a te_a isStatic_a rebuild_a) := by
  unfold State.gfxLayer
  extract_lets +onlyGivenNames x1
  refine Only.ite ?_ ?_
  · refine Only.ite ?_ ?_
    · refine Only.ite ?_ ?_
      · exact Only.refl _ _
      · refine Only.seq (State.layerReady_only ..) ?_ (by decide)
        refine Only.seq (State.doFlip_only ..) ?_ (by decide)
        exact Only.refl _ _
    · refine Only.seq (State.layerNotReady_only ..) ?_ (by decide)
      exact Only.refl _ _
  · refine Only.seq (State.layerReady_only ..) ?_ (by decide)
    exact Only.refl _ _

theorem State.firnStep_only (s_a c_a e_a te_a rebuilt_a) : Only ⟨[.out, .pinned, .ev, .flashJournal, .cq, .diskJournal], [Obj.cqFirnState, Obj.cqFirnRebuilds, Obj.eventCount, Obj.eventLastAt, Obj.eventLastSubject], [0x40000004, 0x40000008]⟩ s_a (State.firnStep s_a c_a e_a te_a rebuilt_a) := by
  unfold State.firnStep
  extract_lets +onlyGivenNames x1
  extract_lets +onlyGivenNames x2
  refine Only.ite ?_ ?_
  · refine Only.seq (State.setN_only ..) ?_ (by decide)
    refine Only.seq (State.setEngine_only ..) ?_ (by decide)
    exact Only.refl _ _
  · refine Only.ite ?_ ?_
    · refine Only.seq (State.bump_only ..) ?_ (by decide)
      refine Only.seq (State.setN_only ..) ?_ (by decide)
      refine Only.seq (State.setEngine_only ..) ?_ (by decide)
      exact Only.refl _ _
    · extract_lets +onlyGivenNames x3
      extract_lets +onlyGivenNames x4
      refine Only.ite ?_ ?_
      · refine Only.seq (State.setN_only ..) ?_ (by decide)
        refine Only.seq (State.setEngine_only ..) ?_ (by decide)
        exact Only.refl _ _
      · exact Only.refl _ _

theorem State.firnGrants_only (s_a n_a) : Only ⟨[.out, .pinned, .ev, .flashJournal, .cq, .diskJournal], [Obj.eventCount, Obj.eventLastAt, Obj.eventLastSubject, Obj.cqFirnState], [0x40000004, 0x40000008]⟩ s_a (State.firnGrants s_a n_a) := by
  unfold State.firnGrants
  extract_lets +onlyGivenNames x1
  extract_lets +onlyGivenNames x2
  have hx2 : Only ⟨[.out, .pinned, .ev, .flashJournal, .cq, .diskJournal], [Obj.eventCount, Obj.eventLastAt, Obj.eventLastSubject, Obj.cqFirnState], [0x40000004, 0x40000008]⟩ s_a x2 := by
    subst x2
    refine Only.foldl (fun u3 x4 => ?_) ?_
    · refine Only.ite ?_ ?_
      · refine Only.seq (State.raise_only ..) ?_ (by decide)
        refine Only.seq (State.setEngine_only ..) ?_ (by decide)
        exact Only.refl _ _
      · exact Only.refl _ _
    · exact Only.refl _ _
  clear_value x2
  refine Only.foldl (fun u5 x6 => ?_) ?_
  · refine Only.seq (State.setN_only ..) ?_ (by decide)
    exact Only.refl _ _
  · exact hx2

theorem State.engineLayers_only (s_a c_a e_a te_a rebuild_a) : Only ⟨[.out, .fresh, .pinned, .ev, .flashJournal, .ridge, .cq, .diskJournal], [Obj.layerState, Obj.dstModeInForce, Obj.dstColourInForce, Obj.eventCount, Obj.eventLastAt, Obj.eventLastSubject, Obj.dstState, Obj.dstLossFrames, Obj.layerNotReadyFrames, Obj.srcLiveFormat, Obj.srcFramesWritten, Obj.srcFeedKind, Obj.srcState, Obj.srcReservationStatus, Obj.srcFramesAbandoned, Obj.srcColourLive, Obj.dstRepeats, Obj.dstDrops, Obj.routeOnAir, Obj.originKind, Obj.latencyLast, Obj.stageBreakdown, Obj.latencyMin, Obj.latencyMax, Obj.dstFormatLive, Obj.layerGfxComplete, Obj.colStageState, Obj.colStageIn, Obj.colStageOut], [0x40000004, 0x40000008]⟩ s_a (State.engineLayers s_a c_a e_a te_a rebuild_a) := by
  unfold State.engineLayers
  extract_lets +onlyGivenNames x1
  subst x1
  extract_lets +onlyGivenNames x2
  have hx2 : Only ⟨[.out, .fresh, .pinned, .ev, .flashJournal, .ridge, .cq, .diskJournal], [Obj.layerState, Obj.dstModeInForce, Obj.dstColourInForce, Obj.eventCount, Obj.eventLastAt, Obj.eventLastSubject, Obj.dstState, Obj.dstLossFrames, Obj.layerNotReadyFrames, Obj.srcLiveFormat, Obj.srcFramesWritten, Obj.srcFeedKind, Obj.srcState, Obj.srcReservationStatus, Obj.srcFramesAbandoned, Obj.srcColourLive, Obj.dstRepeats, Obj.dstDrops, Obj.routeOnAir, Obj.originKind, Obj.latencyLast, Obj.stageBreakdown, Obj.latencyMin, Obj.latencyMax, Obj.dstFormatLive, Obj.layerGfxComplete, Obj.colStageState, Obj.colStageIn, Obj.colStageOut], [0x40000004, 0x40000008]⟩ s_a x2 := by
    subst x2
    refine Only.foldl (fun u3 x4 => ?_) ?_
    · extract_lets +onlyGivenNames x5
      refine Only.ite ?_ ?_
      · refine Only.seq (State.layerOff_only ..) ?_ (by decide)
        exact Only.refl _ _
      · refine Only.ite ?_ ?_
        · refine Only.seq (State.videoLayer_only ..) ?_ (by decide)
          exact Only.refl _ _
        · refine Only.seq (State.gfxLayer_only ..) ?_ (by decide)
          exact Only.refl _ _
    · exact Only.refl _ _
  clear_value x2
  extract_lets +onlyGivenNames x6
  have hx6 : Only ⟨[.out, .fresh, .pinned, .ev, .flashJournal, .ridge, .cq, .diskJournal], [Obj.layerState, Obj.dstModeInForce, Obj.dstColourInForce, Obj.eventCount, Obj.eventLastAt, Obj.eventLastSubject, Obj.dstState, Obj.dstLossFrames, Obj.layerNotReadyFrames, Obj.srcLiveFormat, Obj.srcFramesWritten, Obj.srcFeedKind, Obj.srcState, Obj.srcReservationStatus, Obj.srcFramesAbandoned, Obj.srcColourLive, Obj.dstRepeats, Obj.dstDrops, Obj.routeOnAir, Obj.originKind, Obj.latencyLast, Obj.stageBreakdown, Obj.latencyMin, Obj.latencyMax, Obj.dstFormatLive, Obj.layerGfxComplete, Obj.colStageState, Obj.colStageIn, Obj.colStageOut], [0x40000004, 0x40000008]⟩ s_a x6 := by
    subst x6
    refine Only.foldl (fun u7 x8 => ?_) ?_
    · refine Only.seq (State.refreshStage_only ..) ?_ (by decide)
      exact Only.refl _ _
    · exact hx2
  clear_value x6
  refine Only.seq (State.refreshStage_only ..) ?_ (by decide)
  exact hx6

theorem State.writeComposite_only (s_a c_a e_a slot_a te_a k_a f_a rebuild_a) : Only ⟨[.out, .pinned, .ev, .flashJournal, .ridge, .diskJournal], [Obj.srcLiveFormat, Obj.srcFramesWritten, Obj.eventCount, Obj.eventLastAt, Obj.eventLastSubject, Obj.srcFramesAbandoned, Obj.cqFramesOut], [0x40000004, 0x40000008]⟩ s_a (State.writeComposite s_a c_a e_a slot_a te_a k_a f_a rebuild_a) := by
  unfold State.writeComposite
  split
  extract_lets +onlyGivenNames x1
  extract_lets +onlyGivenNames x2
  extract_lets +onlyGivenNames x3
  have hx3 : Only ⟨[.out, .pinned, .ev, .flashJournal, .ridge, .diskJournal], [Obj.srcLiveFormat, Obj.srcFramesWritten, Obj.eventCount, Obj.eventLastAt, Obj.eventLastSubject, Obj.srcFramesAbandoned, Obj.cqFramesOut], [0x40000004, 0x40000008]⟩ s_a x3 := by
    subst x3
    refine Only.seq (State.startFrame_only ..) ?_ (by decide)
    exact Only.refl _ _
  clear_value x3
  refine Only.seq (State.bump_only ..) ?_ (by decide)
  exact hx3

theorem State.preroll_only (s_a e_a b_a) : Only ⟨[.cq], [Obj.cqState, Obj.cqFormat], []⟩ s_a (State.preroll s_a e_a b_a) := by
  unfold State.preroll
  extract_lets +onlyGivenNames x1
  extract_lets +onlyGivenNames x2
  extract_lets +onlyGivenNames x3
  extract_lets +onlyGivenNames x4
  refine Only.seq (State.setN_only ..) ?_ (by decide)
  refine Only.seq (State.setN_only ..) ?_ (by decide)
  refine Only.seq (State.setEngine_only ..) ?_ (by decide)
  exact Only.refl _ _

theorem State.engineAssign_only (s_a old_a e_a b_a) : Only ⟨[.cq], [Obj.cqState, Obj.cqFormat], []⟩ s_a (State.engineAssign s_a old_a e_a b_a) := by
  unfold State.engineAssign
  extract_lets +onlyGivenNames x1
  extract_lets +onlyGivenNames x2
  refine Only.ite ?_ ?_
  · exact Only.refl _ _
  · refine Only.ite ?_ ?_
    · refine Only.seq (State.preroll_only ..) ?_ (by decide)
      exact Only.refl _ _
    · split
      · refine Only.seq (State.setN_only ..) ?_ (by decide)
        refine Only.seq (State.setEngine_only ..) ?_ (by decide)
        exact Only.refl _ _
      · extract_lets +onlyGivenNames x3
        have hx3 : Only ⟨[.cq], [Obj.cqState, Obj.cqFormat], []⟩ s_a x3 := by
          subst x3
          refine Only.seq (State.setEngine_only ..) ?_ (by decide)
          exact Only.refl _ _
        clear_value x3
        refine Only.ite ?_ ?_
        · exact hx3
        · refine Only.seq (State.preroll_only ..) ?_ (by decide)
          exact hx3

theorem State.holdMigration_only (s_a e_a) : Only ⟨[.cq], [], []⟩ s_a (State.holdMigration s_a e_a) := by
  unfold State.holdMigration
  refine Only.ite ?_ ?_
  · refine Only.seq (State.setEngine_only ..) ?_ (by decide)
    exact Only.refl _ _
  · exact Only.refl _ _

theorem State.engineStopped_only (s_a e_a) : Only ⟨[.out, .pinned, .ev, .flashJournal, .cq, .diskJournal], [Obj.eventCount, Obj.eventLastAt, Obj.eventLastSubject, Obj.cqState, Obj.cqFormat], [0x40000004, 0x40000008]⟩ s_a (State.engineStopped s_a e_a) := by
  unfold State.engineStopped
  extract_lets +onlyGivenNames x1
  refine Only.ite ?_ ?_
  · exact Only.refl _ _
  · extract_lets +onlyGivenNames x2
    have hx2 : Only ⟨[.out, .pinned, .ev, .flashJournal, .cq, .diskJournal], [Obj.eventCount, Obj.eventLastAt, Obj.eventLastSubject, Obj.cqState, Obj.cqFormat], [0x40000004, 0x40000008]⟩ s_a x2 := by
      subst x2
      refine Only.seq (State.raise_only ..) ?_ (by decide)
      refine Only.seq (State.setEngine_only ..) ?_ (by decide)
      exact Only.refl _ _
    clear_value x2
    refine Only.ite ?_ ?_
    · exact hx2
    · refine Only.seq (State.setN_only ..) ?_ (by decide)
      refine Only.seq (State.setN_only ..) ?_ (by decide)
      refine Only.seq (State.setEngine_only ..) ?_ (by decide)
      exact hx2

theorem State.layerGeometry_only (s_a x_a) : Only ⟨[.out, .pinned, .ev, .flashJournal, .diskJournal], [Obj.layerStepX, Obj.layerStepY, Obj.layerTapsInForce, Obj.eventCount, Obj.eventLastAt, Obj.eventLastSubject], [0x40000004, 0x40000008]⟩ s_a (State.layerGeometry s_a x_a) := by
  unfold State.layerGeometry
  extract_lets +onlyGivenNames x1
  extract_lets +onlyGivenNames x2
  extract_lets +onlyGivenNames x3
  have hx3 : Only ⟨[.out, .pinned, .ev, .flashJournal, .diskJournal], [Obj.layerStepX, Obj.layerStepY, Obj.layerTapsInForce, Obj.eventCount, Obj.eventLastAt, Obj.eventLastSubject], [0x40000004, 0x40000008]⟩ s_a x3 := by
    subst x3
    refine Only.seq (State.setN_only ..) ?_ (by decide)
    refine Only.seq (State.setN_only ..) ?_ (by decide)
    refine Only.seq (State.setN_only ..) ?_ (by decide)
    exact Only.refl _ _
  clear_value x3
  refine Only.ite ?_ ?_
  · refine Only.seq (State.raise_only ..) ?_ (by decide)
    exact hx3
  · exact hx3

theorem State.keptWrites_only (s_a l_a) : Only ⟨[.cq], [], []⟩ s_a (State.keptWrites s_a l_a) := by
  unfold State.keptWrites
  refine Only.foldl (fun u1 x2 => ?_) ?_
  · split
    · refine Only.seq (State.setEngine_only ..) ?_ (by decide)
      exact Only.refl _ _
    · exact Only.refl _ _
  · exact Only.refl _ _

theorem State.layerMoved_only (s_a old_a x_a) : Only ⟨[.ridge, .cq], [], []⟩ s_a (State.layerMoved s_a old_a x_a) := by
  unfold State.layerMoved
  extract_lets +onlyGivenNames x1
  refine Only.ite ?_ ?_
  · refine Only.seq (State.setDst_only ..) ?_ (by decide)
    refine Only.seq (State.setLayer_only ..) ?_ (by decide)
    exact Only.refl _ _
  · refine Only.ite ?_ ?_
    · refine Only.seq (State.setDst_only ..) ?_ (by decide)
      exact Only.refl _ _
    · exact Only.refl _ _

theorem State.layersMeet_only (s_a old_a e_a) : Only ⟨[.out, .pinned, .ev, .flashJournal, .ridge, .cq, .diskJournal], [Obj.layerStepX, Obj.layerStepY, Obj.layerTapsInForce, Obj.eventCount, Obj.eventLastAt, Obj.eventLastSubject], [0x40000004, 0x40000008]⟩ s_a (State.layersMeet s_a old_a e_a) := by
  unfold State.layersMeet
  refine Only.foldl (fun u1 x2 => ?_) ?_
  · extract_lets +onlyGivenNames x3
    have hx3 : Only ⟨[.out, .pinned, .ev, .flashJournal, .ridge, .cq, .diskJournal], [Obj.layerStepX, Obj.layerStepY, Obj.layerTapsInForce, Obj.eventCount, Obj.eventLastAt, Obj.eventLastSubject], [0x40000004, 0x40000008]⟩ u1 x3 := by
      subst x3
      refine Only.seq (State.layerMoved_only ..) ?_ (by decide)
      exact Only.refl _ _
    clear_value x3
    refine Only.ite ?_ ?_
    · exact hx3
    · refine Only.seq (State.layerGeometry_only ..) ?_ (by decide)
      exact hx3
  · exact Only.refl _ _

theorem State.timingMeet_only (s_a old_a e_a b_a) : Only ⟨[.cq], [Obj.cqFormat, Obj.cqState], []⟩ s_a (State.timingMeet s_a old_a e_a b_a) := by
  unfold State.timingMeet
  extract_lets +onlyGivenNames x1
  extract_lets +onlyGivenNames x2
  split
  refine Only.ite ?_ ?_
  · exact Only.refl _ _
  · refine Only.ite ?_ ?_
    · refine Only.seq (State.setN_only ..) ?_ (by decide)
      refine Only.seq (State.setEngine_only ..) ?_ (by decide)
      exact Only.refl _ _
    · refine Only.ite ?_ ?_
      · refine Only.ite ?_ ?_
        · extract_lets +onlyGivenNames x3
          refine Only.seq (State.setN_only ..) ?_ (by decide)
          refine Only.seq (State.setEngine_only ..) ?_ (by decide)
          exact Only.refl _ _
        · refine Only.seq (State.preroll_only ..) ?_ (by decide)
          exact Only.refl _ _
      · exact Only.refl _ _

theorem State.handover_only (s_a b_a) : Only ⟨[.out, .pinned, .ev, .flashJournal, .ridge, .cq, .diskJournal], [Obj.cqState, Obj.cqFormat, Obj.layerStepX, Obj.layerStepY, Obj.layerTapsInForce, Obj.eventCount, Obj.eventLastAt, Obj.eventLastSubject, Obj.srcFeedKind, Obj.srcState, Obj.srcReservationStatus, Obj.srcFramesAbandoned, Obj.srcColourLive], [0x40000004, 0x40000008]⟩ s_a (State.handover s_a b_a) := by
  unfold State.handover
  extract_lets +onlyGivenNames x1
  extract_lets +onlyGivenNames x2
  extract_lets +onlyGivenNames x3
  have hx3 : Only ⟨[.out, .pinned, .ev, .flashJournal, .ridge, .cq, .diskJournal], [Obj.cqState, Obj.cqFormat, Obj.layerStepX, Obj.layerStepY, Obj.layerTapsInForce, Obj.eventCount, Obj.eventLastAt, Obj.eventLastSubject, Obj.srcFeedKind, Obj.srcState, Obj.srcReservationStatus, Obj.srcFramesAbandoned, Obj.srcColourLive], [0x40000004, 0x40000008]⟩ s_a x3 := by
    subst x3
    refine Only.foldl (fun u4 x5 => ?_) ?_
    · extract_lets +onlyGivenNames x6
      refine Only.seq (State.engineAssign_only ..) ?_ (by decide)
      refine Only.seq (State.layersMeet_only ..) ?_ (by decide)
      refine Only.seq (State.setN_only ..) ?_ (by decide)
      refine Only.seq (State.setN_only ..) ?_ (by decide)
      refine Only.seq (State.setEngine_only ..) ?_ (by decide)
      exact Only.refl _ _
    · exact Only.refl _ _
  clear_value x3
  extract_lets +onlyGivenNames x7
  extract_lets +onlyGivenNames x8
  extract_lets +onlyGivenNames x9
  have hx9 : Only ⟨[.out, .pinned, .ev, .flashJournal, .ridge, .cq, .diskJournal], [Obj.cqState, Obj.cqFormat, Obj.layerStepX, Obj.layerStepY, Obj.layerTapsInForce, Obj.eventCount, Obj.eventLastAt, Obj.eventLastSubject, Obj.srcFeedKind, Obj.srcState, Obj.srcReservationStatus, Obj.srcFramesAbandoned, Obj.srcColourLive], [0x40000004, 0x40000008]⟩ s_a x9 := by
    subst x9
    refine Only.seq (State.refreshSlot_only ..) ?_ (by decide)
    refine Only.seq (State.raise_only ..) ?_ (by decide)
    refine Only.seq (State.setN_only ..) ?_ (by decide)
    refine Only.seq (State.setEngine_only ..) ?_ (by decide)
    exact hx3
  clear_value x9
  refine Only.seq (State.timingMeet_only ..) ?_ (by decide)
  refine Only.seq (State.engineAssign_only ..) ?_ (by decide)
  refine Only.seq (State.layersMeet_only ..) ?_ (by decide)
  exact hx9

theorem State.retireWrites_only (s_a e_a slot_a) : Only ⟨[.out, .pinned, .ev, .flashJournal, .ridge, .cq, .diskJournal], [Obj.eventCount, Obj.eventLastAt, Obj.eventLastSubject, Obj.srcFeedKind, Obj.srcState, Obj.srcReservationStatus, Obj.srcFramesAbandoned, Obj.srcColourLive], [0x40000004, 0x40000008]⟩ s_a (State.retireWrites s_a e_a slot_a) := by
  unfold State.retireWrites
  extract_lets +onlyGivenNames x1
  refine Only.ite ?_ ?_
  · exact Only.refl _ _
  · refine Only.seq (State.refreshSlot_only ..) ?_ (by decide)
    refine Only.seq (State.raise_only ..) ?_ (by decide)
    refine Only.seq (State.setEngine_only ..) ?_ (by decide)
    exact Only.refl _ _

theorem State.engineFrame_only (s_a c_a e_a te_a k_a f_a) : Only ⟨[.out, .fresh, .pinned, .ev, .flashJournal, .ridge, .cq, .diskJournal], List.append [Obj.layerState, Obj.dstModeInForce, Obj.dstColourInForce, Obj.eventCount, Obj.eventLastAt, Obj.eventLastSubject, Obj.dstState, Obj.dstLossFrames, Obj.layerNotReadyFrames, Obj.srcLiveFormat, Obj.srcFramesWritten, Obj.srcFeedKind, Obj.srcState, Obj.srcReservationStatus, Obj.srcFramesAbandoned, Obj.srcColourLive] (List.append [Obj.dstRepeats, Obj.dstDrops, Obj.routeOnAir, Obj.originKind, Obj.latencyLast, Obj.stageBreakdown, Obj.latencyMin, Obj.latencyMax, Obj.dstFormatLive, Obj.layerGfxComplete, Obj.colStageState, Obj.colStageIn, Obj.colStageOut, Obj.cqFirnState, Obj.cqFirnRebuilds, Obj.cqFramesOut] ([Obj.cqDiscardedFrames])), [0x40000004, 0x40000008]⟩ s_a (State.engineFrame s_a c_a e_a te_a k_a f_a) := by
  unfold State.engineFrame
  extract_lets +onlyGivenNames x1
  extract_lets +onlyGivenNames x2
  extract_lets +onlyGivenNames x3
  have hx3 : Only ⟨[.out, .fresh, .pinned, .ev, .flashJournal, .ridge, .cq, .diskJournal], List.append [Obj.layerState, Obj.dstModeInForce, Obj.dstColourInForce, Obj.eventCount, Obj.eventLastAt, Obj.eventLastSubject, Obj.dstState, Obj.dstLossFrames, Obj.layerNotReadyFrames, Obj.srcLiveFormat, Obj.srcFramesWritten, Obj.srcFeedKind, Obj.srcState, Obj.srcReservationStatus, Obj.srcFramesAbandoned, Obj.srcColourLive] (List.append [Obj.dstRepeats, Obj.dstDrops, Obj.routeOnAir, Obj.originKind, Obj.latencyLast, Obj.stageBreakdown, Obj.latencyMin, Obj.latencyMax, Obj.dstFormatLive, Obj.layerGfxComplete, Obj.colStageState, Obj.colStageIn, Obj.colStageOut, Obj.cqFirnState, Obj.cqFirnRebuilds, Obj.cqFramesOut] ([Obj.cqDiscardedFrames])), [0x40000004, 0x40000008]⟩ s_a x3 := by
    subst x3
    refine Only.seq (State.setEngine_only ..) ?_ (by decide)
    exact Only.refl _ _
  clear_value x3
  extract_lets +onlyGivenNames x4
  have hx4 : Only ⟨[.out, .fresh, .pinned, .ev, .flashJournal, .ridge, .cq, .diskJournal], List.append [Obj.layerState, Obj.dstModeInForce, Obj.dstColourInForce, Obj.eventCount, Obj.eventLastAt, Obj.eventLastSubject, Obj.dstState, Obj.dstLossFrames, Obj.layerNotReadyFrames, Obj.srcLiveFormat, Obj.srcFramesWritten, Obj.srcFeedKind, Obj.srcState, Obj.srcReservationStatus, Obj.srcFramesAbandoned, Obj.srcColourLive] (List.append [Obj.dstRepeats, Obj.dstDrops, Obj.routeOnAir, Obj.originKind, Obj.latencyLast, Obj.stageBreakdown, Obj.latencyMin, Obj.latencyMax, Obj.dstFormatLive, Obj.layerGfxComplete, Obj.colStageState, Obj.colStageIn, Obj.colStageOut, Obj.cqFirnState, Obj.cqFirnRebuilds, Obj.cqFramesOut] ([Obj.cqDiscardedFrames])), [0x40000004, 0x40000008]⟩ s_a x4 := by
    subst x4
    refine Only.seq (State.firnStep_only ..) ?_ (by decide)
    refine Only.seq (State.engineLayers_only ..) ?_ (by decide)
    exact hx3
  clear_value x4
  split
  · refine Only.seq (State.writeComposite_only ..) ?_ (by decide)
    refine Only.seq (State.retireWrites_only ..) ?_ (by decide)
    exact hx4
  · refine Only.ite ?_ ?_
    · refine Only.seq (State.raise_only ..) ?_ (by decide)
      refine Only.seq (State.bump_only ..) ?_ (by decide)
      exact hx4
    · exact hx4

theorem State.meetHandover_only (s_a e_a) : Only ⟨[.out, .pinned, .ev, .flashJournal, .ridge, .cq, .diskJournal], [Obj.cqState, Obj.cqFormat, Obj.layerStepX, Obj.layerStepY, Obj.layerTapsInForce, Obj.eventCount, Obj.eventLastAt, Obj.eventLastSubject, Obj.srcFeedKind, Obj.srcState, Obj.srcReservationStatus, Obj.srcFramesAbandoned, Obj.srcColourLive], [0x40000004, 0x40000008]⟩ s_a (State.meetHandover s_a e_a) := by
  unfold State.meetHandover
  extract_lets +onlyGivenNames x1
  extract_lets +onlyGivenNames x2
  extract_lets +onlyGivenNames x3
  refine Only.ite ?_ ?_
  · refine Only.seq (State.handover_only ..) ?_ (by decide)
    exact Only.refl _ _
  · exact Only.refl _ _

theorem execEngineAlignmentPoint_only (dt_a engine_a s_a) : OnlyR ⟨[.out, .fresh, .now, .tc, .pinned, .ev, .flashJournal, .ridge, .cq, .diskJournal], List.append [Obj.eventCount, Obj.eventLastAt, Obj.eventLastSubject, Obj.cqState, Obj.cqFormat, Obj.layerStepX, Obj.layerStepY, Obj.layerTapsInForce, Obj.srcFeedKind, Obj.srcState, Obj.srcReservationStatus, Obj.srcFramesAbandoned, Obj.srcColourLive, Obj.layerState, Obj.dstModeInForce, Obj.dstColourInForce] (List.append [Obj.dstState, Obj.dstLossFrames, Obj.layerNotReadyFrames, Obj.srcLiveFormat, Obj.srcFramesWritten, Obj.dstRepeats, Obj.dstDrops, Obj.routeOnAir, Obj.originKind, Obj.latencyLast, Obj.stageBreakdown, Obj.latencyMin, Obj.latencyMax, Obj.dstFormatLive, Obj.layerGfxComplete, Obj.colStageState] ([Obj.colStageIn, Obj.colStageOut, Obj.cqFirnState, Obj.cqFirnRebuilds, Obj.cqFramesOut, Obj.cqDiscardedFrames])), [0x40000004, 0x40000008]⟩ s_a (execEngineAlignmentPoint dt_a engine_a s_a) := by
  unfold execEngineAlignmentPoint
  refine actIf_only (hk3 := fun u1 => ?_) (l := (by decide)) ..
  extract_lets +onlyGivenNames x2
  have hx2 : Only ⟨[.out, .fresh, .now, .tc, .pinned, .ev, .flashJournal, .ridge, .cq, .diskJournal], List.append [Obj.eventCount, Obj.eventLastAt, Obj.eventLastSubject, Obj.cqState, Obj.cqFormat, Obj.layerStepX, Obj.layerStepY, Obj.layerTapsInForce, Obj.srcFeedKind, Obj.srcState, Obj.srcReservationStatus, Obj.srcFramesAbandoned, Obj.srcColourLive, Obj.layerState, Obj.dstModeInForce, Obj.dstColourInForce] (List.append [Obj.dstState, Obj.dstLossFrames, Obj.layerNotReadyFrames, Obj.srcLiveFormat, Obj.srcFramesWritten, Obj.dstRepeats, Obj.dstDrops, Obj.routeOnAir, Obj.originKind, Obj.latencyLast, Obj.stageBreakdown, Obj.latencyMin, Obj.latencyMax, Obj.dstFormatLive, Obj.layerGfxComplete, Obj.colStageState] ([Obj.colStageIn, Obj.colStageOut, Obj.cqFirnState, Obj.cqFirnRebuilds, Obj.cqFramesOut, Obj.cqDiscardedFrames])), [0x40000004, 0x40000008]⟩ u1 x2 := by
    subst x2
    refine Only.seq (State.meetHandover_only ..) ?_ (by decide)
    refine Only.seq (State.engineStopped_only ..) ?_ (by decide)
    exact Only.refl _ _
  clear_value x2
  extract_lets +onlyGivenNames x3
  extract_lets +onlyGivenNames x4
  extract_lets +onlyGivenNames x5
  extract_lets +onlyGivenNames x6
  extract_lets +onlyGivenNames x7
  extract_lets +onlyGivenNames x8
  refine Only.ite ?_ ?_
  · exact hx2
  · refine Only.seq (State.engineFrame_only ..) ?_ (by decide)
    exact hx2

theorem State.cirqueCommit_only (s_a old_a b_a) : Only ⟨[.out, .pinned, .ev, .flashJournal, .ridge, .cq, .diskJournal], [Obj.cqState, Obj.cqFormat, Obj.layerStepX, Obj.layerStepY, Obj.layerTapsInForce, Obj.eventCount, Obj.eventLastAt, Obj.eventLastSubject], [0x40000004, 0x40000008]⟩ s_a (State.cirqueCommit s_a old_a b_a) := by
  unfold State.cirqueCommit
  extract_lets +onlyGivenNames x1
  extract_lets +onlyGivenNames x2
  extract_lets +onlyGivenNames x3
  have hx3 : Only ⟨[.out, .pinned, .ev, .flashJournal, .ridge, .cq, .diskJournal], [Obj.cqState, Obj.cqFormat, Obj.layerStepX, Obj.layerStepY, Obj.layerTapsInForce, Obj.eventCount, Obj.eventLastAt, Obj.eventLastSubject], [0x40000004, 0x40000008]⟩ s_a x3 := by
    subst x3
    refine Only.foldl (fun u4 x5 => ?_) ?_
    · refine Only.seq (State.engineAssign_only ..) ?_ (by decide)
      exact Only.refl _ _
    · exact Only.refl _ _
  clear_value x3
  extract_lets +onlyGivenNames x6
  have hx6 : Only ⟨[.out, .pinned, .ev, .flashJournal, .ridge, .cq, .diskJournal], [Obj.cqState, Obj.cqFormat, Obj.layerStepX, Obj.layerStepY, Obj.layerTapsInForce, Obj.eventCount, Obj.eventLastAt, Obj.eventLastSubject], [0x40000004, 0x40000008]⟩ s_a x6 := by
    subst x6
    refine Only.foldl (fun u7 x8 => ?_) ?_
    · refine Only.ite ?_ ?_
      · exact Only.refl _ _
      · refine Only.seq (State.timingMeet_only ..) ?_ (by decide)
        exact Only.refl _ _
    · exact hx3
  clear_value x6
  extract_lets +onlyGivenNames x9
  have hx9 : Only ⟨[.out, .pinned, .ev, .flashJournal, .ridge, .cq, .diskJournal], [Obj.cqState, Obj.cqFormat, Obj.layerStepX, Obj.layerStepY, Obj.layerTapsInForce, Obj.eventCount, Obj.eventLastAt, Obj.eventLastSubject], [0x40000004, 0x40000008]⟩ s_a x9 := by
    subst x9
    refine Only.foldl (fun u10 x11 => ?_) ?_
    · refine Only.seq (State.layersMeet_only ..) ?_ (by decide)
      exact Only.refl _ _
    · exact hx6
  clear_value x9
  refine Only.foldl (fun u12 x13 => ?_) ?_
  · refine Only.seq (State.holdMigration_only ..) ?_ (by decide)
    exact Only.refl _ _
  · exact hx9

end Sys2Proof.Machine
end

