-- ==== Sys2Proof/Laws/OnlyTarn.lean ====
section
/-!
SUPPORT. What the functions of Machine/Tarn.lean may change (`Only` of Laws/Only.lean).
-/
namespace Sys2Proof.Machine
set_option Elab.async false

theorem State.setTstat_only (s_a p_a k_a v_a) : Only ⟨[.regs], [], []⟩ s_a (State.setTstat s_a p_a k_a v_a) := by
  unfold State.setTstat
  refine Only.seq (State.setRegBit_only ..) ?_ (by simp [Reach.le])
  exact Only.refl _ _

theorem State.setTp_only (s_a p_a x_a) : Only ⟨[.tarn], [], []⟩ s_a (State.setTp s_a p_a x_a) := by
  unfold State.setTp
  refine Only.seq (Only.upd (r := ⟨[.tarn], [], []⟩) (s := s_a) (fun p => by cases p <;> first | exact .inr rfl | exact .inl (by decide))) ?_ (by decide)
  exact Only.refl _ _

theorem State.setSrcState_only (s_a p_a st_a) : Only ⟨[.out, .pinned, .regs, .ev, .flashJournal, .diskJournal], [Obj.eventCount, Obj.eventLastAt, Obj.eventLastSubject], []⟩ s_a (State.setSrcState s_a p_a st_a) := by
  unfold State.setSrcState
  extract_lets +onlyGivenNames x1
  refine Only.ite ?_ ?_
  · exact Only.refl _ _
  · refine Only.seq (State.raise_only ..) ?_ (by decide)
    refine Only.seq (State.setRegField_only ..) ?_ (by simp [Reach.le])
    exact Only.refl _ _

theorem State.refreshSrc_only (s_a p_a) : Only ⟨[.out, .pinned, .regs, .ev, .flashJournal, .diskJournal], [Obj.eventCount, Obj.eventLastAt, Obj.eventLastSubject], []⟩ s_a (State.refreshSrc s_a p_a) := by
  unfold State.refreshSrc
  refine Only.seq (State.setSrcState_only ..) ?_ (by decide)
  exact Only.refl _ _

theorem State.refreshFifo_only (s_a p_a) : Only ⟨[.regs], [], []⟩ s_a (State.refreshFifo s_a p_a) := by
  unfold State.refreshFifo
  extract_lets +onlyGivenNames x1
  refine Only.seq (State.setRegN_only ..) ?_ (by simp [Reach.le])
  exact Only.refl _ _

theorem State.setRate_only (s_a p_a mHz_a) : Only ⟨[.regs], [], []⟩ s_a (State.setRate s_a p_a mHz_a) := by
  unfold State.setRate
  extract_lets +onlyGivenNames x1
  refine Only.seq (State.setRegField_only ..) ?_ (by simp [Reach.le])
  refine Only.seq (State.setRegN_only ..) ?_ (by simp [Reach.le])
  refine Only.seq (State.setRegN_only ..) ?_ (by simp [Reach.le])
  exact Only.refl _ _

theorem State.tarnRate_only (s_a p_a old_a) : Only ⟨[.regs], [], []⟩ s_a (State.tarnRate s_a p_a old_a) := by
  unfold State.tarnRate
  extract_lets +onlyGivenNames x1
  refine Only.ite ?_ ?_
  · refine Only.seq (State.setRegN_only ..) ?_ (by simp [Reach.le])
    refine Only.seq (State.setRegN_only ..) ?_ (by simp [Reach.le])
    exact Only.refl _ _
  · refine Only.ite ?_ ?_
    · refine Only.seq (State.setRegField_only ..) ?_ (by simp [Reach.le])
      refine Only.seq (State.setRegN_only ..) ?_ (by simp [Reach.le])
      refine Only.seq (State.setRegN_only ..) ?_ (by simp [Reach.le])
      exact Only.refl _ _
    · refine Only.ite ?_ ?_
      · exact Only.refl _ _
      · refine Only.seq (State.setRate_only ..) ?_ (by decide)
        exact Only.refl _ _

theorem State.tarnOverrun_only (s_a p_a) : Only ⟨[.out, .pinned, .regs, .ev, .flashJournal, .diskJournal], [Obj.eventCount, Obj.eventLastAt, Obj.eventLastSubject], []⟩ s_a (State.tarnOverrun s_a p_a) := by
  unfold State.tarnOverrun
  refine Only.seq (State.raiseLimited_only ..) ?_ (by decide)
  refine Only.seq (State.setTstat_only ..) ?_ (by decide)
  exact Only.refl _ _

theorem State.realign_only (s_a p_a) : Only ⟨[.fresh, .tarn], [], []⟩ s_a (State.realign s_a p_a) := by
  unfold State.realign
  extract_lets +onlyGivenNames x1
  refine Only.ite ?_ ?_
  · refine Only.seq (State.setTp_only ..) ?_ (by decide)
    exact Only.refl _ _
  · split
    rename_i v2 t3 e4
    have ht3 := Only.mono (b := ⟨[.fresh, .tarn], [], []⟩) (Only.snd e4 (State.drawBytes_only ..)) (by decide)
    extract_lets +onlyGivenNames x5
    refine Only.seq (State.setTp_only ..) ?_ (by decide)
    exact ht3

theorem State.tarnStop_only (s_a p_a) : Only ⟨[.out, .pinned, .regs, .ev, .flashJournal, .tarn, .diskJournal], [Obj.eventCount, Obj.eventLastAt, Obj.eventLastSubject], []⟩ s_a (State.tarnStop s_a p_a) := by
  unfold State.tarnStop
  extract_lets +onlyGivenNames x1
  extract_lets +onlyGivenNames x2
  have hx2 : Only ⟨[.out, .pinned, .regs, .ev, .flashJournal, .tarn, .diskJournal], [Obj.eventCount, Obj.eventLastAt, Obj.eventLastSubject], []⟩ s_a x2 := by
    subst x2
    refine Only.seq (State.setTp_only ..) ?_ (by decide)
    exact Only.refl _ _
  clear_value x2
  refine Only.seq (State.refreshSrc_only ..) ?_ (by decide)
  refine Only.seq (State.setTstat_only ..) ?_ (by decide)
  refine Only.seq (State.setTstat_only ..) ?_ (by decide)
  exact hx2

theorem State.tarnEnable_only (s_a p_a) : Only ⟨[.tarn], [], []⟩ s_a (State.tarnEnable s_a p_a) := by
  unfold State.tarnEnable
  extract_lets +onlyGivenNames x1
  refine Only.ite ?_ ?_
  · exact Only.refl _ _
  · refine Only.ite ?_ ?_
    · refine Only.seq (State.setTp_only ..) ?_ (by decide)
      exact Only.refl _ _
    · refine Only.seq (State.setTp_only ..) ?_ (by decide)
      exact Only.refl _ _

theorem State.tarnCfgErr_only (s_a p_a) : Only ⟨[.out, .pinned, .regs, .ev, .flashJournal, .diskJournal], [Obj.eventCount, Obj.eventLastAt, Obj.eventLastSubject], []⟩ s_a (State.tarnCfgErr s_a p_a) := by
  unfold State.tarnCfgErr
  refine Only.seq (State.raise_only ..) ?_ (by decide)
  refine Only.seq (State.setTstat_only ..) ?_ (by decide)
  exact Only.refl _ _

theorem State.tarnCtrlWrite_only (s_a p_a value_a) : Only ⟨[.out, .pinned, .regs, .ev, .flashJournal, .tarn, .diskJournal], [Obj.eventCount, Obj.eventLastAt, Obj.eventLastSubject], []⟩ s_a (State.tarnCtrlWrite s_a p_a value_a) := by
  unfold State.tarnCtrlWrite
  extract_lets +onlyGivenNames x1
  extract_lets +onlyGivenNames x2
  extract_lets +onlyGivenNames x3
  extract_lets +onlyGivenNames x4
  subst x4
  refine Only.ite ?_ ?_
  · refine Only.ite ?_ ?_
    · refine Only.seq (State.tarnCfgErr_only ..) ?_ (by decide)
      exact Only.refl _ _
    · refine Only.ite ?_ ?_
      · exact Only.refl _ _
      · refine Only.seq (State.tarnStop_only ..) ?_ (by decide)
        refine Only.seq (State.setRegN_only ..) ?_ (by simp [Reach.le])
        exact Only.refl _ _
  · refine Only.ite ?_ ?_
    · refine Only.seq (State.tarnCfgErr_only ..) ?_ (by decide)
      refine Only.seq (State.setRegN_only ..) ?_ (by simp [Reach.le])
      exact Only.refl _ _
    · extract_lets +onlyGivenNames x5
      have hx5 : Only ⟨[.out, .pinned, .regs, .ev, .flashJournal, .tarn, .diskJournal], [Obj.eventCount, Obj.eventLastAt, Obj.eventLastSubject], []⟩ s_a x5 := by
        subst x5
        refine Only.seq (State.tarnRate_only ..) ?_ (by decide)
        refine Only.seq (State.setRegN_only ..) ?_ (by simp [Reach.le])
        exact Only.refl _ _
      clear_value x5
      refine Only.ite ?_ ?_
      · refine Only.seq (State.tarnEnable_only ..) ?_ (by decide)
        exact hx5
      · refine Only.seq (State.refreshSrc_only ..) ?_ (by decide)
        exact hx5

theorem execTarnEnWrite_only (dt_a port_a value_a s_a) : OnlyR ⟨[.out, .now, .tc, .pinned, .regs, .ev, .flashJournal, .tarn, .diskJournal], [Obj.eventCount, Obj.eventLastAt, Obj.eventLastSubject], []⟩ s_a (execTarnEnWrite dt_a port_a value_a s_a) := by
  unfold execTarnEnWrite
  refine actIf_only (hk3 := fun u1 => ?_) (l := (by decide)) ..
  refine Only.seq (State.tarnCtrlWrite_only ..) ?_ (by decide)
  exact Only.refl _ _

theorem State.tarnTrigger_only (s_a) : Only ⟨[.tarn], [], []⟩ s_a (State.tarnTrigger s_a) := by
  unfold State.tarnTrigger
  refine Only.seq (Only.upd (r := ⟨[.tarn], [], []⟩) (s := s_a) (fun p => by cases p <;> first | exact .inr rfl | exact .inl (by decide))) ?_ (by decide)
  exact Only.refl _ _

theorem State.tarnGoWrite_only (s_a value_a) : Only ⟨[.tarn], [], [0x40050008]⟩ s_a (State.tarnGoWrite s_a value_a) := by
  unfold State.tarnGoWrite
  refine Only.ite ?_ ?_
  · extract_lets +onlyGivenNames x1
    have hx1 : Only ⟨[.tarn], [], [0x40050008]⟩ s_a x1 := by
      subst x1
      refine Only.seq (State.setRegN_only ..) ?_ (by decide)
      exact Only.refl _ _
    clear_value x1
    refine Only.ite ?_ ?_
    · exact hx1
    · refine Only.seq (State.tarnTrigger_only ..) ?_ (by decide)
      exact hx1
  · exact Only.refl _ _

theorem execTarnGo_only (dt_a value_a s_a) : OnlyR ⟨[.out, .now, .tc, .tarn], [], [0x40050008]⟩ s_a (execTarnGo dt_a value_a s_a) := by
  unfold execTarnGo
  refine act_only (hk2 := fun u1 => ?_) (l := (by decide)) ..
  refine Only.seq (State.tarnGoWrite_only ..) ?_ (by decide)
  exact Only.refl _ _

theorem execTarnTrigEdge_only (dt_a s_a) : OnlyR ⟨[.out, .now, .tc, .tarn], [], []⟩ s_a (execTarnTrigEdge dt_a s_a) := by
  unfold execTarnTrigEdge
  refine actIf_only (hk3 := fun u1 => ?_) (l := (by decide)) ..
  refine Only.seq (State.tarnTrigger_only ..) ?_ (by decide)
  exact Only.refl _ _

theorem execTarnStarted_only (dt_a s_a) : OnlyR ⟨[.out, .now, .tc, .pinned, .regs, .ev, .flashJournal, .tarn, .diskJournal], [Obj.eventCount, Obj.eventLastAt, Obj.eventLastSubject], []⟩ s_a (execTarnStarted dt_a s_a) := by
  unfold execTarnStarted
  refine actIf_only (hk3 := fun u1 => ?_) (l := (by decide)) ..
  split
  · exact Only.refl _ _
  · extract_lets +onlyGivenNames x2
    extract_lets +onlyGivenNames x3
    extract_lets +onlyGivenNames x4
    have hx4 : Only ⟨[.out, .now, .tc, .pinned, .regs, .ev, .flashJournal, .tarn, .diskJournal], [Obj.eventCount, Obj.eventLastAt, Obj.eventLastSubject], []⟩ u1 x4 := by
      subst x4
      refine Only.seq (Only.upd (r := ⟨[.tarn], [], []⟩) (s := u1) (fun p => by cases p <;> first | exact .inr rfl | exact .inl (by decide))) ?_ (by decide)
      exact Only.refl _ _
    clear_value x4
    extract_lets +onlyGivenNames x5
    have hx5 : Only ⟨[.out, .now, .tc, .pinned, .regs, .ev, .flashJournal, .tarn, .diskJournal], [Obj.eventCount, Obj.eventLastAt, Obj.eventLastSubject], []⟩ u1 x5 := by
      subst x5
      refine Only.seq (State.setRegN_only ..) ?_ (by decide)
      refine Only.seq (State.setRegN_only ..) ?_ (by decide)
      refine Only.seq (State.setRegN_only ..) ?_ (by decide)
      exact hx4
    clear_value x5
    refine Only.foldl (fun u6 x7 => ?_) ?_
    · extract_lets +onlyGivenNames x8
      have hx8 : Only ⟨[.out, .now, .tc, .pinned, .regs, .ev, .flashJournal, .tarn, .diskJournal], [Obj.eventCount, Obj.eventLastAt, Obj.eventLastSubject], []⟩ u6 x8 := by
        subst x8
        refine Only.seq (State.tarnStop_only ..) ?_ (by decide)
        exact Only.refl _ _
      clear_value x8
      extract_lets +onlyGivenNames x9
      extract_lets +onlyGivenNames x10
      have hx10 : Only ⟨[.out, .now, .tc, .pinned, .regs, .ev, .flashJournal, .tarn, .diskJournal], [Obj.eventCount, Obj.eventLastAt, Obj.eventLastSubject], []⟩ u6 x10 := by
        subst x10
        refine Only.ite ?_ ?_
        · refine Only.seq (State.setTp_only ..) ?_ (by decide)
          exact hx8
        · refine Only.seq (State.setTp_only ..) ?_ (by decide)
          exact hx8
      clear_value x10
      refine Only.seq (State.raise_only ..) ?_ (by decide)
      exact hx10
    · exact hx5

theorem State.applyMask_only (s_a p_a tx_a start_a) : Only ⟨[.out, .fresh, .pinned, .regs, .ev, .flashJournal, .tarn, .diskJournal], [Obj.eventCount, Obj.eventLastAt, Obj.eventLastSubject], []⟩ s_a (State.applyMask s_a p_a tx_a start_a) := by
  unfold State.applyMask
  extract_lets +onlyGivenNames x1
  split
  · exact Only.refl _ _
  · refine Only.ite ?_ ?_
    · refine Only.seq (State.setTp_only ..) ?_ (by decide)
      exact Only.refl _ _
    · extract_lets +onlyGivenNames x2
      have hx2 : Only ⟨[.out, .fresh, .pinned, .regs, .ev, .flashJournal, .tarn, .diskJournal], [Obj.eventCount, Obj.eventLastAt, Obj.eventLastSubject], []⟩ s_a x2 := by
        subst x2
        refine Only.seq (State.setTp_only ..) ?_ (by decide)
        exact Only.refl _ _
      clear_value x2
      extract_lets +onlyGivenNames x3
      have hx3 : Only ⟨[.out, .fresh, .pinned, .regs, .ev, .flashJournal, .tarn, .diskJournal], [Obj.eventCount, Obj.eventLastAt, Obj.eventLastSubject], []⟩ s_a x3 := by
        subst x3
        refine Only.seq (State.setRegN_only ..) ?_ (by simp [Reach.le])
        refine Only.seq (State.setRegBit_only ..) ?_ (by simp [Reach.le])
        exact hx2
      clear_value x3
      refine Only.seq (State.raise_only ..) ?_ (by decide)
      refine Only.seq (State.realign_only ..) ?_ (by decide)
      refine Only.seq (State.setRegN_only ..) ?_ (by simp [Reach.le])
      exact hx3

theorem State.tarnFill_only (s_a p_a at__a) : Only ⟨[.regs, .tarn], [], []⟩ s_a (State.tarnFill s_a p_a at__a) := by
  unfold State.tarnFill
  extract_lets +onlyGivenNames x1
  extract_lets +onlyGivenNames x2
  refine Only.seq (State.setRegN_only ..) ?_ (by simp [Reach.le])
  refine Only.seq (State.setTp_only ..) ?_ (by decide)
  exact Only.refl _ _

theorem State.tarnDeliver_only (s_a p_a at__a ratio_a) : Only ⟨[.au, .tarn], [], []⟩ s_a (State.tarnDeliver s_a p_a at__a ratio_a) := by
  unfold State.tarnDeliver
  extract_lets +onlyGivenNames x1
  extract_lets +onlyGivenNames x2
  extract_lets +onlyGivenNames x3
  extract_lets +onlyGivenNames x4
  have hx4 : Only ⟨[.au, .tarn], [], []⟩ s_a x4 := by
    subst x4
    refine Only.seq (State.setTp_only ..) ?_ (by decide)
    exact Only.refl _ _
  clear_value x4
  refine Only.foldl (fun u5 x6 => ?_) ?_
  · refine Only.seq (State.queueWords_only ..) ?_ (by decide)
    exact Only.refl _ _
  · exact hx4

theorem State.tarnCollect_only (s_a p_a samples_a) : Only ⟨[.out, .pinned, .regs, .ev, .flashJournal, .tarn, .diskJournal], [Obj.eventCount, Obj.eventLastAt, Obj.eventLastSubject], []⟩ s_a (State.tarnCollect s_a p_a samples_a) := by
  unfold State.tarnCollect
  extract_lets +onlyGivenNames x1
  extract_lets +onlyGivenNames x2
  extract_lets +onlyGivenNames x3
  extract_lets +onlyGivenNames x4
  refine Only.ite ?_ ?_
  · refine Only.seq (State.tarnOverrun_only ..) ?_ (by decide)
    refine Only.seq (State.bumpReg_only ..) ?_ (by simp [Reach.le])
    exact Only.refl _ _
  · refine Only.seq (State.setTp_only ..) ?_ (by decide)
    exact Only.refl _ _

theorem State.tarnReceive_only (s_a p_a at__a rx_a pdmClip_a) : Only ⟨[.out, .pinned, .regs, .ev, .flashJournal, .au, .tarn, .diskJournal], [Obj.eventCount, Obj.eventLastAt, Obj.eventLastSubject], []⟩ s_a (State.tarnReceive s_a p_a at__a rx_a pdmClip_a) := by
  unfold State.tarnReceive
  extract_lets +onlyGivenNames x1
  extract_lets +onlyGivenNames x2
  extract_lets +onlyGivenNames x3
  extract_lets +onlyGivenNames x4
  extract_lets +onlyGivenNames x5
  extract_lets +onlyGivenNames x6
  have hx6 : Only ⟨[.out, .pinned, .regs, .ev, .flashJournal, .au, .tarn, .diskJournal], [Obj.eventCount, Obj.eventLastAt, Obj.eventLastSubject], []⟩ s_a x6 := by
    subst x6
    refine Only.seq (State.setTp_only ..) ?_ (by decide)
    exact Only.refl _ _
  clear_value x6
  extract_lets +onlyGivenNames x7
  have hx7 : Only ⟨[.out, .pinned, .regs, .ev, .flashJournal, .au, .tarn, .diskJournal], [Obj.eventCount, Obj.eventLastAt, Obj.eventLastSubject], []⟩ s_a x7 := by
    subst x7
    refine Only.ite ?_ ?_
    · refine Only.seq (State.setTstat_only ..) ?_ (by decide)
      exact hx6
    · exact hx6
  clear_value x7
  extract_lets +onlyGivenNames x8
  have hx8 : Only ⟨[.out, .pinned, .regs, .ev, .flashJournal, .au, .tarn, .diskJournal], [Obj.eventCount, Obj.eventLastAt, Obj.eventLastSubject], []⟩ s_a x8 := by
    subst x8
    refine Only.seq (State.tarnFill_only ..) ?_ (by decide)
    refine Only.seq (State.tarnCollect_only ..) ?_ (by decide)
    exact hx7
  clear_value x8
  extract_lets +onlyGivenNames x9
  have hx9 : Only ⟨[.out, .pinned, .regs, .ev, .flashJournal, .au, .tarn, .diskJournal], [Obj.eventCount, Obj.eventLastAt, Obj.eventLastSubject], []⟩ s_a x9 := by
    subst x9
    refine Only.seq (State.tarnDeliver_only ..) ?_ (by decide)
    exact hx8
  clear_value x9
  refine Only.ite ?_ ?_
  · exact hx9
  · refine Only.seq (State.setInLatency_only ..) ?_ (by decide)
    exact hx9

theorem State.tarnRun_only (s_a p_a at__a slots_a) : Only ⟨[.out, .fresh, .pinned, .ev, .flashJournal, .au, .diskJournal], [Obj.aoPathInForce, Obj.aoBindDelay, Obj.aoTapsDeferred, Obj.eventCount, Obj.eventLastAt, Obj.eventLastSubject, Obj.aoClipSamples], [0x40000004, 0x40000008]⟩ s_a (State.tarnRun s_a p_a at__a slots_a) := by
  unfold State.tarnRun
  refine Only.foldl (fun u1 x2 => ?_) ?_
  · refine Only.seq (State.runOut_only ..) ?_ (by decide)
    exact Only.refl _ _
  · exact Only.refl _ _

theorem State.tarnUnderrun_only (s_a p_a) : Only ⟨[.out, .pinned, .regs, .ev, .flashJournal, .diskJournal], [Obj.eventCount, Obj.eventLastAt, Obj.eventLastSubject], []⟩ s_a (State.tarnUnderrun s_a p_a) := by
  unfold State.tarnUnderrun
  refine Only.seq (State.raiseLimited_only ..) ?_ (by decide)
  refine Only.seq (State.setTstat_only ..) ?_ (by decide)
  refine Only.seq (State.bumpReg_only ..) ?_ (by simp [Reach.le])
  exact Only.refl _ _

theorem State.tarnSource_only (s_a p_a at__a slots_a) : Only ⟨[.out, .fresh, .pinned, .regs, .ev, .flashJournal, .au, .tarn, .diskJournal], [Obj.eventCount, Obj.eventLastAt, Obj.eventLastSubject, Obj.aoPathInForce, Obj.aoBindDelay, Obj.aoTapsDeferred, Obj.aoClipSamples], []⟩ s_a (State.tarnSource s_a p_a at__a slots_a).2 := by
  unfold State.tarnSource
  split
  · split
    · refine Only.mk2 ?_
      refine Only.seq (State.setTp_only ..) ?_ (by decide)
      exact Only.refl _ _
    · refine Only.mk2 ?_
      refine Only.seq (State.tarnUnderrun_only ..) ?_ (by decide)
      exact Only.refl _ _
  · split
    · refine Only.mk2 ?_
      refine Only.seq (State.tarnUnderrun_only ..) ?_ (by decide)
      exact Only.refl _ _
    · refine Only.mk2 ?_
      refine Only.seq (State.tarnRun_only ..) ?_ (by decide)
      exact Only.refl _ _

theorem State.tarnWords_only (s_a p_a slots_a samples_a) : Only ⟨[.out], [], []⟩ s_a (State.tarnWords s_a p_a slots_a samples_a) := by
  unfold State.tarnWords
  extract_lets +onlyGivenNames x1
  extract_lets +onlyGivenNames x2
  have hx2 : Only ⟨[.out], [], []⟩ s_a x2 := by
    subst x2
    refine Only.foldl (fun u3 x4 => ?_) ?_
    · refine Only.seq (State.emit_only ..) ?_ (by decide)
      exact Only.refl _ _
    · exact Only.refl _ _
  clear_value x2
  refine Only.ite ?_ ?_
  · exact hx2
  · refine Only.foldl (fun u5 x6 => ?_) ?_
    · refine Only.seq (State.emit_only ..) ?_ (by decide)
      exact Only.refl _ _
    · exact hx2

theorem State.tarnClocks_only (s_a p_a at__a) : Only ⟨[.out], [], []⟩ s_a (State.tarnClocks s_a p_a at__a) := by
  unfold State.tarnClocks
  extract_lets +onlyGivenNames x1
  refine Only.ite ?_ ?_
  · refine Only.seq (State.emit_only ..) ?_ (by decide)
    exact Only.refl _ _
  · exact Only.refl _ _

theorem State.tarnSend_only (s_a p_a at__a) : Only ⟨[.out, .fresh, .pinned, .regs, .ev, .flashJournal, .au, .tarn, .diskJournal], [Obj.eventCount, Obj.eventLastAt, Obj.eventLastSubject, Obj.aoPathInForce, Obj.aoBindDelay, Obj.aoTapsDeferred, Obj.aoClipSamples], []⟩ s_a (State.tarnSend s_a p_a at__a) := by
  unfold State.tarnSend
  extract_lets +onlyGivenNames x1
  refine Only.ite ?_ ?_
  · exact Only.refl _ _
  · extract_lets +onlyGivenNames x2
    extract_lets +onlyGivenNames x3
    have hx3 : Only ⟨[.out, .fresh, .pinned, .regs, .ev, .flashJournal, .au, .tarn, .diskJournal], [Obj.eventCount, Obj.eventLastAt, Obj.eventLastSubject, Obj.aoPathInForce, Obj.aoBindDelay, Obj.aoTapsDeferred, Obj.aoClipSamples], []⟩ s_a x3.2 := by
      subst x3
      refine Only.seq (State.tarnSource_only ..) ?_ (by decide)
      exact Only.refl _ _
    clear_value x3
    refine Only.ite ?_ ?_
    · refine Only.seq (State.tarnWords_only ..) ?_ (by decide)
      exact hx3
    · exact hx3

theorem execTarnFrameStart_only (dt_a port_a rx_a pdmClip_a s_a) : OnlyR ⟨[.out, .fresh, .now, .tc, .pinned, .regs, .ev, .flashJournal, .au, .tarn, .diskJournal], [Obj.eventCount, Obj.eventLastAt, Obj.eventLastSubject, Obj.aoPathInForce, Obj.aoBindDelay, Obj.aoTapsDeferred, Obj.aoClipSamples], []⟩ s_a (execTarnFrameStart dt_a port_a rx_a pdmClip_a s_a) := by
  unfold execTarnFrameStart
  refine actIf_only (hk3 := fun u1 => ?_) (l := (by decide)) ..
  extract_lets +onlyGivenNames x2
  extract_lets +onlyGivenNames x3
  extract_lets +onlyGivenNames x4
  extract_lets +onlyGivenNames x5
  extract_lets +onlyGivenNames x6
  extract_lets +onlyGivenNames x7
  have hx7 : Only ⟨[.out, .fresh, .now, .tc, .pinned, .regs, .ev, .flashJournal, .au, .tarn, .diskJournal], [Obj.eventCount, Obj.eventLastAt, Obj.eventLastSubject, Obj.aoPathInForce, Obj.aoBindDelay, Obj.aoTapsDeferred, Obj.aoClipSamples], []⟩ u1 x7 := by
    subst x7
    refine Only.seq (State.setTp_only ..) ?_ (by decide)
    exact Only.refl _ _
  clear_value x7
  extract_lets +onlyGivenNames x8
  have hx8 : Only ⟨[.out, .fresh, .now, .tc, .pinned, .regs, .ev, .flashJournal, .au, .tarn, .diskJournal], [Obj.eventCount, Obj.eventLastAt, Obj.eventLastSubject, Obj.aoPathInForce, Obj.aoBindDelay, Obj.aoTapsDeferred, Obj.aoClipSamples], []⟩ u1 x8 := by
    subst x8
    refine Only.ite ?_ ?_
    · refine Only.seq (State.raise_only ..) ?_ (by decide)
      exact hx7
    · exact hx7
  clear_value x8
  extract_lets +onlyGivenNames x9
  have hx9 : Only ⟨[.out, .fresh, .now, .tc, .pinned, .regs, .ev, .flashJournal, .au, .tarn, .diskJournal], [Obj.eventCount, Obj.eventLastAt, Obj.eventLastSubject, Obj.aoPathInForce, Obj.aoBindDelay, Obj.aoTapsDeferred, Obj.aoClipSamples], []⟩ u1 x9 := by
    subst x9
    refine Only.ite ?_ ?_
    · refine Only.seq (State.setTstat_only ..) ?_ (by decide)
      refine Only.seq (State.realign_only ..) ?_ (by decide)
      exact hx8
    · exact hx8
  clear_value x9
  extract_lets +onlyGivenNames x10
  have hx10 : Only ⟨[.out, .fresh, .now, .tc, .pinned, .regs, .ev, .flashJournal, .au, .tarn, .diskJournal], [Obj.eventCount, Obj.eventLastAt, Obj.eventLastSubject, Obj.aoPathInForce, Obj.aoBindDelay, Obj.aoTapsDeferred, Obj.aoClipSamples], []⟩ u1 x10 := by
    subst x10
    refine Only.seq (State.tarnClocks_only ..) ?_ (by decide)
    refine Only.seq (State.applyMask_only ..) ?_ (by decide)
    refine Only.seq (State.applyMask_only ..) ?_ (by decide)
    exact hx9
  clear_value x10
  refine Only.seq (State.refreshFifo_only ..) ?_ (by decide)
  refine Only.seq (State.refreshSrc_only ..) ?_ (by decide)
  refine Only.seq (State.tarnSend_only ..) ?_ (by decide)
  refine Only.seq (State.tarnReceive_only ..) ?_ (by decide)
  exact hx10

theorem State.tarnMaskWrite_only (s_a port_a tx_a value_a late_a) : Only ⟨[.regs, .tarn], [], []⟩ s_a (State.tarnMaskWrite s_a port_a tx_a value_a late_a) := by
  unfold State.tarnMaskWrite
  extract_lets +onlyGivenNames x1
  extract_lets +onlyGivenNames x2
  extract_lets +onlyGivenNames x3
  have hx3 : Only ⟨[.regs, .tarn], [], []⟩ s_a x3 := by
    subst x3
    refine Only.seq (State.setRegBit_only ..) ?_ (by simp [Reach.le])
    refine Only.seq (State.setRegN_only ..) ?_ (by simp [Reach.le])
    exact Only.refl _ _
  clear_value x3
  refine Only.seq (State.setTp_only ..) ?_ (by decide)
  exact hx3

theorem execTarnMaskWrite_only (dt_a port_a tx_a value_a late_a s_a) : OnlyR ⟨[.out, .now, .tc, .regs, .tarn], [], []⟩ s_a (execTarnMaskWrite dt_a port_a tx_a value_a late_a s_a) := by
  unfold execTarnMaskWrite
  refine actIf_only (hk3 := fun u1 => ?_) (l := (by decide)) ..
  refine Only.seq (State.tarnMaskWrite_only ..) ?_ (by decide)
  exact Only.refl _ _

theorem execTarnFsEdge_only (dt_a port_a s_a) : OnlyR ⟨[.out, .now, .tc, .pinned, .regs, .ev, .flashJournal, .tarn, .diskJournal], [Obj.eventCount, Obj.eventLastAt, Obj.eventLastSubject], []⟩ s_a (execTarnFsEdge dt_a port_a s_a) := by
  unfold execTarnFsEdge
  refine actIf_only (hk3 := fun u1 => ?_) (l := (by decide)) ..
  extract_lets +onlyGivenNames x2
  extract_lets +onlyGivenNames x3
  extract_lets +onlyGivenNames x4
  extract_lets +onlyGivenNames x5
  extract_lets +onlyGivenNames x6
  have hx6 : Only ⟨[.out, .now, .tc, .pinned, .regs, .ev, .flashJournal, .tarn, .diskJournal], [Obj.eventCount, Obj.eventLastAt, Obj.eventLastSubject], []⟩ u1 x6 := by
    subst x6
    refine Only.seq (State.setTstat_only ..) ?_ (by decide)
    refine Only.seq (State.setTp_only ..) ?_ (by decide)
    exact Only.refl _ _
  clear_value x6
  extract_lets +onlyGivenNames x7
  have hx7 : Only ⟨[.out, .now, .tc, .pinned, .regs, .ev, .flashJournal, .tarn, .diskJournal], [Obj.eventCount, Obj.eventLastAt, Obj.eventLastSubject], []⟩ u1 x7 := by
    subst x7
    refine Only.ite ?_ ?_
    · refine Only.seq (State.raise_only ..) ?_ (by decide)
      exact hx6
    · exact hx6
  clear_value x7
  refine Only.seq (State.refreshSrc_only ..) ?_ (by decide)
  exact hx7

theorem execTarnFsLost_only (dt_a port_a s_a) : OnlyR ⟨[.out, .now, .tc, .pinned, .regs, .ev, .flashJournal, .tarn, .diskJournal], [Obj.eventCount, Obj.eventLastAt, Obj.eventLastSubject], []⟩ s_a (execTarnFsLost dt_a port_a s_a) := by
  unfold execTarnFsLost
  refine actIf_only (hk3 := fun u1 => ?_) (l := (by decide)) ..
  extract_lets +onlyGivenNames x2
  extract_lets +onlyGivenNames x3
  have hx3 : Only ⟨[.out, .now, .tc, .pinned, .regs, .ev, .flashJournal, .tarn, .diskJournal], [Obj.eventCount, Obj.eventLastAt, Obj.eventLastSubject], []⟩ u1 x3 := by
    subst x3
    refine Only.seq (State.setTp_only ..) ?_ (by decide)
    exact Only.refl _ _
  clear_value x3
  refine Only.seq (State.refreshSrc_only ..) ?_ (by decide)
  refine Only.seq (State.raise_only ..) ?_ (by decide)
  refine Only.seq (State.bumpReg_only ..) ?_ (by simp [Reach.le])
  refine Only.seq (State.setTstat_only ..) ?_ (by decide)
  refine Only.seq (State.setTstat_only ..) ?_ (by decide)
  exact hx3

theorem execTarnRateMeasure_only (dt_a port_a milliHertz_a fill_a s_a) : OnlyR ⟨[.out, .now, .tc, .pinned, .regs, .ev, .flashJournal, .tarn, .diskJournal], [Obj.eventCount, Obj.eventLastAt, Obj.eventLastSubject], []⟩ s_a (execTarnRateMeasure dt_a port_a milliHertz_a fill_a s_a) := by
  unfold execTarnRateMeasure
  refine actIf_only (hk3 := fun u1 => ?_) (l := (by decide)) ..
  extract_lets +onlyGivenNames x2
  extract_lets +onlyGivenNames x3
  extract_lets +onlyGivenNames x4
  have hx4 : Only ⟨[.out, .now, .tc, .pinned, .regs, .ev, .flashJournal, .tarn, .diskJournal], [Obj.eventCount, Obj.eventLastAt, Obj.eventLastSubject], []⟩ u1 x4 := by
    subst x4
    refine Only.seq (State.setTp_only ..) ?_ (by decide)
    exact Only.refl _ _
  clear_value x4
  refine Only.ite ?_ ?_
  · refine Only.seq (State.refreshSrc_only ..) ?_ (by decide)
    exact hx4
  · extract_lets +onlyGivenNames x5
    extract_lets +onlyGivenNames x6
    have hx6 : Only ⟨[.out, .now, .tc, .pinned, .regs, .ev, .flashJournal, .tarn, .diskJournal], [Obj.eventCount, Obj.eventLastAt, Obj.eventLastSubject], []⟩ u1 x6 := by
      subst x6
      refine Only.seq (State.setRate_only ..) ?_ (by decide)
      exact hx4
    clear_value x6
    extract_lets +onlyGivenNames x7
    extract_lets +onlyGivenNames x8
    have hx8 : Only ⟨[.out, .now, .tc, .pinned, .regs, .ev, .flashJournal, .tarn, .diskJournal], [Obj.eventCount, Obj.eventLastAt, Obj.eventLastSubject], []⟩ u1 x8 := by
      subst x8
      refine Only.ite ?_ ?_
      · refine Only.seq (State.raise_only ..) ?_ (by decide)
        refine Only.seq (State.setTstat_only ..) ?_ (by decide)
        exact hx6
      · exact hx6
    clear_value x8
    refine Only.seq (State.refreshSrc_only ..) ?_ (by decide)
    exact hx8

theorem State.rxfifoPop_only (s_a p_a) : Only ⟨[.out, .pinned, .regs, .ev, .flashJournal, .tarn, .diskJournal], [Obj.eventCount, Obj.eventLastAt, Obj.eventLastSubject], []⟩ s_a (State.rxfifoPop s_a p_a).2 := by
  unfold State.rxfifoPop
  extract_lets +onlyGivenNames x1
  split
  · refine Only.mk2 ?_
    refine Only.seq (State.refreshFifo_only ..) ?_ (by decide)
    refine Only.seq (State.setTp_only ..) ?_ (by decide)
    exact Only.refl _ _
  · refine Only.mk2 ?_
    refine Only.seq (State.tarnOverrun_only ..) ?_ (by decide)
    exact Only.refl _ _

theorem State.txfifoPush_only (s_a p_a value_a) : Only ⟨[.out, .pinned, .regs, .ev, .flashJournal, .tarn, .diskJournal], [Obj.eventCount, Obj.eventLastAt, Obj.eventLastSubject], []⟩ s_a (State.txfifoPush s_a p_a value_a) := by
  unfold State.txfifoPush
  extract_lets +onlyGivenNames x1
  refine Only.ite ?_ ?_
  · refine Only.seq (State.refreshFifo_only ..) ?_ (by decide)
    refine Only.seq (State.setTp_only ..) ?_ (by decide)
    exact Only.refl _ _
  · refine Only.seq (State.tarnOverrun_only ..) ?_ (by decide)
    exact Only.refl _ _

theorem execTarnRxfifoRead_only (dt_a port_a s_a) : OnlyR ⟨[.out, .now, .tc, .pinned, .regs, .ev, .flashJournal, .tarn, .diskJournal], [Obj.eventCount, Obj.eventLastAt, Obj.eventLastSubject], []⟩ s_a (execTarnRxfifoRead dt_a port_a s_a) := by
  unfold execTarnRxfifoRead
  refine actIf_only (hk3 := fun u1 => ?_) (l := (by decide)) ..
  extract_lets +onlyGivenNames x2
  have hx2 : Only ⟨[.out, .now, .tc, .pinned, .regs, .ev, .flashJournal, .tarn, .diskJournal], [Obj.eventCount, Obj.eventLastAt, Obj.eventLastSubject], []⟩ u1 x2.2 := by
    subst x2
    refine Only.seq (State.rxfifoPop_only ..) ?_ (by decide)
    exact Only.refl _ _
  clear_value x2
  refine Only.seq (State.emit_only ..) ?_ (by decide)
  exact hx2

theorem execTarnTxfifoWrite_only (dt_a port_a value_a s_a) : OnlyR ⟨[.out, .now, .tc, .pinned, .regs, .ev, .flashJournal, .tarn, .diskJournal], [Obj.eventCount, Obj.eventLastAt, Obj.eventLastSubject], []⟩ s_a (execTarnTxfifoWrite dt_a port_a value_a s_a) := by
  unfold execTarnTxfifoWrite
  refine actIf_only (hk3 := fun u1 => ?_) (l := (by decide)) ..
  refine Only.seq (State.txfifoPush_only ..) ?_ (by decide)
  exact Only.refl _ _

theorem execTarnFcntLatch_only (dt_a port_a s_a) : OnlyR ⟨[.out, .now, .tc, .regs], [], []⟩ s_a (execTarnFcntLatch dt_a port_a s_a) := by
  unfold execTarnFcntLatch
  refine actIf_only (hk3 := fun u1 => ?_) (l := (by decide)) ..
  extract_lets +onlyGivenNames x2
  extract_lets +onlyGivenNames x3
  have hx3 : Only ⟨[.out, .now, .tc, .regs], [], []⟩ u1 x3 := by
    subst x3
    refine Only.seq (State.setRegN_only ..) ?_ (by simp [Reach.le])
    exact Only.refl _ _
  clear_value x3
  refine Only.seq (State.emit_only ..) ?_ (by decide)
  refine Only.seq (State.setRegN_only ..) ?_ (by simp [Reach.le])
  exact hx3

end Sys2Proof.Machine
end

