-- ==== Sys2Proof/Laws/OnlyCtl.lean ====
section
/-!
SUPPORT. What the functions of Machine/Ctl.lean may change (`Only` of Laws/Only.lean).
-/
namespace Sys2Proof.Machine
set_option Elab.async false

theorem State.setCtlPort_only (s_a port_a x_a) : Only ⟨[.ctl], [], []⟩ s_a (State.setCtlPort s_a port_a x_a) := by
  unfold State.setCtlPort
  refine Only.seq (Only.upd (r := ⟨[.ctl], [], []⟩) (s := s_a) (fun p => by cases p <;> first | exact .inr rfl | exact .inl (by decide))) ?_ (by decide)
  exact Only.refl _ _

theorem State.cmacIrq_only (s_a port_a k_a) : Only ⟨[.regs], [], []⟩ s_a (State.cmacIrq s_a port_a k_a) := by
  unfold State.cmacIrq
  refine Only.seq (State.setRegBit_only ..) ?_ (by simp [Reach.le])
  exact Only.refl _ _

theorem State.cmacCount_only (s_a port_a off_a) : Only ⟨[.out, .pinned, .regs, .ev, .flashJournal, .diskJournal], [Obj.eventCount, Obj.eventLastAt, Obj.eventLastSubject], []⟩ s_a (State.cmacCount s_a port_a off_a) := by
  unfold State.cmacCount
  extract_lets +onlyGivenNames x1
  have hx1 : Only ⟨[.out, .pinned, .regs, .ev, .flashJournal, .diskJournal], [Obj.eventCount, Obj.eventLastAt, Obj.eventLastSubject], []⟩ s_a x1 := by
    subst x1
    refine Only.seq (State.bumpReg_only ..) ?_ (by simp [Reach.le])
    exact Only.refl _ _
  clear_value x1
  refine Only.ite ?_ ?_
  · refine Only.seq (State.cmacIrq_only ..) ?_ (by decide)
    exact hx1
  · exact hx1

theorem State.ctlDown_only (s_a port_a) : Only ⟨[.out, .pinned, .regs, .ev, .flashJournal, .ctl, .diskJournal], [Obj.eventCount, Obj.eventLastAt, Obj.eventLastSubject], []⟩ s_a (State.ctlDown s_a port_a) := by
  unfold State.ctlDown
  extract_lets +onlyGivenNames x1
  have hx1 : Only ⟨[.out, .pinned, .regs, .ev, .flashJournal, .ctl, .diskJournal], [Obj.eventCount, Obj.eventLastAt, Obj.eventLastSubject], []⟩ s_a x1 := by
    subst x1
    refine Only.seq (State.setRegField_only ..) ?_ (by simp [Reach.le])
    refine Only.seq (State.setRegBit_only ..) ?_ (by simp [Reach.le])
    exact Only.refl _ _
  clear_value x1
  extract_lets +onlyGivenNames x2
  have hx2 : Only ⟨[.out, .pinned, .regs, .ev, .flashJournal, .ctl, .diskJournal], [Obj.eventCount, Obj.eventLastAt, Obj.eventLastSubject], []⟩ s_a x2 := by
    subst x2
    refine Only.seq (State.cmacIrq_only ..) ?_ (by decide)
    refine Only.seq (State.setRegBit_only ..) ?_ (by simp [Reach.le])
    exact hx1
  clear_value x2
  extract_lets +onlyGivenNames x3
  extract_lets +onlyGivenNames x4
  have hx4 : Only ⟨[.out, .pinned, .regs, .ev, .flashJournal, .ctl, .diskJournal], [Obj.eventCount, Obj.eventLastAt, Obj.eventLastSubject], []⟩ s_a x4 := by
    subst x4
    refine Only.seq (State.setCtlPort_only ..) ?_ (by decide)
    exact hx2
  clear_value x4
  refine Only.seq (State.raise_only ..) ?_ (by decide)
  exact hx4

theorem State.ctlLinked_only (s_a port_a speed_a) : Only ⟨[.out, .pinned, .regs, .ev, .flashJournal, .ctl, .diskJournal], [Obj.eventCount, Obj.eventLastAt, Obj.eventLastSubject], []⟩ s_a (State.ctlLinked s_a port_a speed_a) := by
  unfold State.ctlLinked
  extract_lets +onlyGivenNames x1
  extract_lets +onlyGivenNames x2
  extract_lets +onlyGivenNames x3
  have hx3 : Only ⟨[.out, .pinned, .regs, .ev, .flashJournal, .ctl, .diskJournal], [Obj.eventCount, Obj.eventLastAt, Obj.eventLastSubject], []⟩ s_a x3 := by
    subst x3
    refine Only.seq (State.setRegBit_only ..) ?_ (by simp [Reach.le])
    refine Only.seq (State.setRegField_only ..) ?_ (by simp [Reach.le])
    refine Only.seq (State.setRegBit_only ..) ?_ (by simp [Reach.le])
    exact Only.refl _ _
  clear_value x3
  extract_lets +onlyGivenNames x4
  have hx4 : Only ⟨[.out, .pinned, .regs, .ev, .flashJournal, .ctl, .diskJournal], [Obj.eventCount, Obj.eventLastAt, Obj.eventLastSubject], []⟩ s_a x4 := by
    subst x4
    refine Only.seq (State.cmacIrq_only ..) ?_ (by decide)
    refine Only.seq (State.setRegBit_only ..) ?_ (by simp [Reach.le])
    exact hx3
  clear_value x4
  extract_lets +onlyGivenNames x5
  extract_lets +onlyGivenNames x6
  have hx6 : Only ⟨[.out, .pinned, .regs, .ev, .flashJournal, .ctl, .diskJournal], [Obj.eventCount, Obj.eventLastAt, Obj.eventLastSubject], []⟩ s_a x6 := by
    subst x6
    refine Only.seq (State.setCtlPort_only ..) ?_ (by decide)
    exact hx4
  clear_value x6
  extract_lets +onlyGivenNames x7
  have hx7 : Only ⟨[.out, .pinned, .regs, .ev, .flashJournal, .ctl, .diskJournal], [Obj.eventCount, Obj.eventLastAt, Obj.eventLastSubject], []⟩ s_a x7 := by
    subst x7
    refine Only.seq (State.raise_only ..) ?_ (by decide)
    exact hx6
  clear_value x7
  refine Only.ite ?_ ?_
  · refine Only.seq (State.raise_only ..) ?_ (by decide)
    refine Only.seq (State.cmacIrq_only ..) ?_ (by decide)
    refine Only.seq (State.setRegBit_only ..) ?_ (by simp [Reach.le])
    exact hx7
  · exact hx7

theorem execCtlLinkUp_only (dt_a port_a speed_a s_a) : OnlyR ⟨[.out, .now, .tc, .pinned, .regs, .ev, .flashJournal, .ctl, .diskJournal], [Obj.eventCount, Obj.eventLastAt, Obj.eventLastSubject], []⟩ s_a (execCtlLinkUp dt_a port_a speed_a s_a) := by
  unfold execCtlLinkUp
  refine actIf_only (hk3 := fun u1 => ?_) (l := (by decide)) ..
  refine Only.seq (State.ctlLinked_only ..) ?_ (by decide)
  exact Only.refl _ _

theorem execCtlLinkDown_only (dt_a port_a s_a) : OnlyR ⟨[.out, .now, .tc, .pinned, .regs, .ev, .flashJournal, .ctl, .diskJournal], [Obj.eventCount, Obj.eventLastAt, Obj.eventLastSubject], []⟩ s_a (execCtlLinkDown dt_a port_a s_a) := by
  unfold execCtlLinkDown
  refine actIf_only (hk3 := fun u1 => ?_) (l := (by decide)) ..
  refine Only.seq (State.ctlDown_only ..) ?_ (by decide)
  exact Only.refl _ _

theorem execCtlSpeedCycle_only (dt_a port_a s_a) : OnlyR ⟨[.out, .now, .tc, .ctl], [], []⟩ s_a (execCtlSpeedCycle dt_a port_a s_a) := by
  unfold execCtlSpeedCycle
  refine actIf_only (hk3 := fun u1 => ?_) (l := (by decide)) ..
  extract_lets +onlyGivenNames x2
  refine Only.seq (State.setCtlPort_only ..) ?_ (by decide)
  exact Only.refl _ _

theorem State.ctlStep_only (s_a port_a speed_a) : Only ⟨[.out, .pinned, .regs, .ev, .flashJournal, .ctl, .diskJournal], [Obj.eventCount, Obj.eventLastAt, Obj.eventLastSubject], []⟩ s_a (State.ctlStep s_a port_a speed_a) := by
  unfold State.ctlStep
  extract_lets +onlyGivenNames x1
  extract_lets +onlyGivenNames x2
  have hx2 : Only ⟨[.out, .pinned, .regs, .ev, .flashJournal, .ctl, .diskJournal], [Obj.eventCount, Obj.eventLastAt, Obj.eventLastSubject], []⟩ s_a x2 := by
    subst x2
    refine Only.seq (State.ctlDown_only ..) ?_ (by decide)
    exact Only.refl _ _
  clear_value x2
  refine Only.seq (State.setCtlPort_only ..) ?_ (by decide)
  exact hx2

theorem execCtlLoadWindow_only (dt_a port_a rxMbps_a txMbps_a s_a) : OnlyR ⟨[.out, .now, .tc, .pinned, .regs, .ev, .flashJournal, .ctl, .diskJournal], [Obj.eventCount, Obj.eventLastAt, Obj.eventLastSubject], []⟩ s_a (execCtlLoadWindow dt_a port_a rxMbps_a txMbps_a s_a) := by
  unfold execCtlLoadWindow
  refine actIf_only (hk3 := fun u1 => ?_) (l := (by decide)) ..
  extract_lets +onlyGivenNames x2
  have hx2 : Only ⟨[.out, .now, .tc, .pinned, .regs, .ev, .flashJournal, .ctl, .diskJournal], [Obj.eventCount, Obj.eventLastAt, Obj.eventLastSubject], []⟩ u1 x2 := by
    subst x2
    refine Only.seq (State.setRegN_only ..) ?_ (by simp [Reach.le])
    exact Only.refl _ _
  clear_value x2
  refine Only.ite ?_ ?_
  · exact hx2
  · extract_lets +onlyGivenNames x3
    extract_lets +onlyGivenNames x4
    refine Only.ite ?_ ?_
    · refine Only.seq (State.ctlStep_only ..) ?_ (by decide)
      exact hx2
    · refine Only.ite ?_ ?_
      · extract_lets +onlyGivenNames x5
        extract_lets +onlyGivenNames x6
        extract_lets +onlyGivenNames x7
        have hx7 : Only ⟨[.out, .now, .tc, .pinned, .regs, .ev, .flashJournal, .ctl, .diskJournal], [Obj.eventCount, Obj.eventLastAt, Obj.eventLastSubject], []⟩ u1 x7 := by
          subst x7
          refine Only.seq (State.setCtlPort_only ..) ?_ (by decide)
          exact hx2
        clear_value x7
        refine Only.ite ?_ ?_
        · refine Only.seq (State.ctlStep_only ..) ?_ (by decide)
          exact hx7
        · exact hx7
      · refine Only.seq (State.setCtlPort_only ..) ?_ (by decide)
        exact hx2

theorem execCtlTxFrameWait_only (dt_a port_a waitedUs_a s_a) : OnlyR ⟨[.out, .now, .tc, .pinned, .regs, .ev, .flashJournal, .ctl, .diskJournal], [Obj.eventCount, Obj.eventLastAt, Obj.eventLastSubject], []⟩ s_a (execCtlTxFrameWait dt_a port_a waitedUs_a s_a) := by
  unfold execCtlTxFrameWait
  refine actIf_only (hk3 := fun u1 => ?_) (l := (by decide)) ..
  refine Only.seq (State.ctlStep_only ..) ?_ (by decide)
  exact Only.refl _ _

theorem execCtlStepFail_only (dt_a port_a s_a) : OnlyR ⟨[.out, .now, .tc, .pinned, .regs, .ev, .flashJournal, .ctl, .diskJournal], [Obj.eventCount, Obj.eventLastAt, Obj.eventLastSubject], []⟩ s_a (execCtlStepFail dt_a port_a s_a) := by
  unfold execCtlStepFail
  refine actIf_only (hk3 := fun u1 => ?_) (l := (by decide)) ..
  extract_lets +onlyGivenNames x2
  split
  · refine Only.ite ?_ ?_
    · exact Only.refl _ _
    · extract_lets +onlyGivenNames x3
      have hx3 : Only ⟨[.out, .now, .tc, .pinned, .regs, .ev, .flashJournal, .ctl, .diskJournal], [Obj.eventCount, Obj.eventLastAt, Obj.eventLastSubject], []⟩ u1 x3 := by
        subst x3
        refine Only.seq (State.setCtlPort_only ..) ?_ (by decide)
        exact Only.refl _ _
      clear_value x3
      extract_lets +onlyGivenNames x4
      have hx4 : Only ⟨[.out, .now, .tc, .pinned, .regs, .ev, .flashJournal, .ctl, .diskJournal], [Obj.eventCount, Obj.eventLastAt, Obj.eventLastSubject], []⟩ u1 x4 := by
        subst x4
        refine Only.seq (State.setRegBit_only ..) ?_ (by simp [Reach.le])
        refine Only.seq (State.setRegBit_only ..) ?_ (by simp [Reach.le])
        exact hx3
      clear_value x4
      refine Only.seq (State.raise_only ..) ?_ (by decide)
      exact hx4
  · exact Only.refl _ _

theorem State.cmacCtrl_only (s_a port_a value_a) : Only ⟨[.out, .pinned, .regs, .ev, .flashJournal, .ctl, .diskJournal], [Obj.eventCount, Obj.eventLastAt, Obj.eventLastSubject], []⟩ s_a (State.cmacCtrl s_a port_a value_a) := by
  unfold State.cmacCtrl
  extract_lets +onlyGivenNames x1
  have hx1 : Only ⟨[.out, .pinned, .regs, .ev, .flashJournal, .ctl, .diskJournal], [Obj.eventCount, Obj.eventLastAt, Obj.eventLastSubject], []⟩ s_a x1 := by
    subst x1
    refine Only.seq (State.busWrite_only ..) ?_ (by simp [Reach.le])
    exact Only.refl _ _
  clear_value x1
  extract_lets +onlyGivenNames x2
  extract_lets +onlyGivenNames x3
  extract_lets +onlyGivenNames x4
  extract_lets +onlyGivenNames x5
  have hx5 : Only ⟨[.out, .pinned, .regs, .ev, .flashJournal, .ctl, .diskJournal], [Obj.eventCount, Obj.eventLastAt, Obj.eventLastSubject], []⟩ s_a x5 := by
    subst x5
    refine Only.ite ?_ ?_
    · refine Only.seq (State.setCtlPort_only ..) ?_ (by decide)
      exact hx1
    · exact hx1
  clear_value x5
  refine Only.ite ?_ ?_
  · refine Only.seq (State.ctlDown_only ..) ?_ (by decide)
    exact hx5
  · exact hx5

theorem execCmacCtrlWrite_only (dt_a port_a value_a s_a) : OnlyR ⟨[.out, .now, .tc, .pinned, .regs, .ev, .flashJournal, .ctl, .diskJournal], [Obj.eventCount, Obj.eventLastAt, Obj.eventLastSubject], []⟩ s_a (execCmacCtrlWrite dt_a port_a value_a s_a) := by
  unfold execCmacCtrlWrite
  refine act_only (hk2 := fun u1 => ?_) (l := (by decide)) ..
  refine Only.seq (State.cmacCtrl_only ..) ?_ (by decide)
  exact Only.refl _ _

theorem State.ctlStop_only (s_a) : Only ⟨[.out, .pinned, .regs, .ev, .flashJournal, .ctl, .diskJournal], [Obj.eventCount, Obj.eventLastAt, Obj.eventLastSubject], []⟩ s_a (State.ctlStop s_a) := by
  unfold State.ctlStop
  refine Only.seq (State.cmacCtrl_only ..) ?_ (by decide)
  refine Only.seq (State.cmacCtrl_only ..) ?_ (by decide)
  exact Only.refl _ _

theorem State.setMemWord_only (s_a a_a v_a) : Only ⟨[.mem], [], []⟩ s_a (State.setMemWord s_a a_a v_a) := by
  unfold State.setMemWord
  refine Only.seq (State.setMem_only ..) ?_ (by decide)
  exact Only.refl _ _

theorem State.rxData_only (s : State) (port : Nat) (l : List (Nat × List Byte)) : Only ⟨[.mem], [], []⟩ s (s.rxData port l) := by
  induction l generalizing s with
  | nil => exact Only.refl _ s
  | cons x l ih => exact (ih _).seq ((State.setMem_only ..).up)

theorem State.rxStatus_only (s : State) (port slot : Nat) (first : Bool) (l : List (Nat × List Byte)) :
    Only ⟨[.mem], [], []⟩ s (s.rxStatus port slot first l) := by
  induction l generalizing s first with
  | nil => exact Only.refl _ s
  | cons x l ih => exact (ih _ _).seq ((State.setMemWord_only ..).up)

theorem State.ctlDeliver_only (s_a port_a slot_a payload_a) : Only ⟨[.out, .pinned, .regs, .mem, .ev, .flashJournal, .diskJournal], [Obj.eventCount, Obj.eventLastAt, Obj.eventLastSubject], []⟩ s_a (State.ctlDeliver s_a port_a slot_a payload_a) := by
  unfold State.ctlDeliver
  extract_lets +onlyGivenNames x1
  split
  · refine Only.seq (State.raiseLimited_only ..) ?_ (by decide)
    refine Only.seq (State.cmacIrq_only ..) ?_ (by decide)
    refine Only.seq (State.cmacCount_only ..) ?_ (by decide)
    exact Only.refl _ _
  · extract_lets +onlyGivenNames x2
    have hx2 : Only ⟨[.out, .pinned, .regs, .mem, .ev, .flashJournal, .diskJournal], [Obj.eventCount, Obj.eventLastAt, Obj.eventLastSubject], []⟩ s_a x2 := by
      subst x2
      refine Only.seq (State.rxStatus_only ..) ?_ (by decide)
      refine Only.seq (State.rxData_only ..) ?_ (by decide)
      exact Only.refl _ _
    clear_value x2
    extract_lets +onlyGivenNames x3
    have hx3 : Only ⟨[.out, .pinned, .regs, .mem, .ev, .flashJournal, .diskJournal], [Obj.eventCount, Obj.eventLastAt, Obj.eventLastSubject], []⟩ s_a x3 := by
      subst x3
      refine Only.seq (State.setRegN_only ..) ?_ (by simp [Reach.le])
      exact hx2
    clear_value x3
    refine Only.seq (State.cmacIrq_only ..) ?_ (by decide)
    refine Only.seq (State.cmacCount_only ..) ?_ (by decide)
    exact hx3

theorem execCtlFrameReceived_only (dt_a port_a f_a s_a) : OnlyR ⟨[.out, .now, .tc, .pinned, .regs, .mem, .ev, .flashJournal, .diskJournal], [Obj.eventCount, Obj.eventLastAt, Obj.eventLastSubject], []⟩ s_a (execCtlFrameReceived dt_a port_a f_a s_a) := by
  unfold execCtlFrameReceived
  refine actIf_only (hk3 := fun u1 => ?_) (l := (by decide)) ..
  split
  · refine Only.seq (State.cmacCount_only ..) ?_ (by decide)
    exact Only.refl _ _
  · refine Only.seq (State.ctlDeliver_only ..) ?_ (by decide)
    exact Only.refl _ _

theorem State.txStatus_only (s : State) (port q : Nat) (err : Bool) (l : List Nat) : Only ⟨[.mem], [], []⟩ s (s.txStatus port q err l) := by
  induction l generalizing s with
  | nil => exact Only.refl _ s
  | cons x l ih =>
    unfold State.txStatus
    extract_lets +onlyGivenNames d t
    have ht : Only ⟨[.mem], [], []⟩ s t := (State.setMemWord_only ..).up
    clear_value t
    exact (ih _).seq ((State.setMemWord_only ..).seq ht)

theorem execCtlTxFrame_only (dt_a port_a s_a) : OnlyR ⟨[.out, .now, .tc, .pinned, .regs, .mem, .ev, .flashJournal, .diskJournal], [Obj.eventCount, Obj.eventLastAt, Obj.eventLastSubject], []⟩ s_a (execCtlTxFrame dt_a port_a s_a) := by
  unfold execCtlTxFrame
  refine actIf_only (hk3 := fun u1 => ?_) (l := (by decide)) ..
  split
  · exact Only.refl _ _
  · extract_lets +onlyGivenNames x2
    extract_lets +onlyGivenNames x3
    extract_lets +onlyGivenNames x4
    extract_lets +onlyGivenNames x5
    extract_lets +onlyGivenNames x6
    have hx6 : Only ⟨[.out, .now, .tc, .pinned, .regs, .mem, .ev, .flashJournal, .diskJournal], [Obj.eventCount, Obj.eventLastAt, Obj.eventLastSubject], []⟩ u1 x6 := by
      subst x6
      refine Only.ite ?_ ?_
      · refine Only.seq (State.cmacCount_only ..) ?_ (by decide)
        exact Only.refl _ _
      · refine Only.seq (State.emit_only ..) ?_ (by decide)
        refine Only.seq (State.cmacCount_only ..) ?_ (by decide)
        exact Only.refl _ _
    clear_value x6
    extract_lets +onlyGivenNames x7
    have hx7 : Only ⟨[.out, .now, .tc, .pinned, .regs, .mem, .ev, .flashJournal, .diskJournal], [Obj.eventCount, Obj.eventLastAt, Obj.eventLastSubject], []⟩ u1 x7 := by
      subst x7
      refine Only.seq (State.txStatus_only ..) ?_ (by decide)
      exact hx6
    clear_value x7
    extract_lets +onlyGivenNames x8
    extract_lets +onlyGivenNames x9
    have hx9 : Only ⟨[.out, .now, .tc, .pinned, .regs, .mem, .ev, .flashJournal, .diskJournal], [Obj.eventCount, Obj.eventLastAt, Obj.eventLastSubject], []⟩ u1 x9 := by
      subst x9
      refine Only.seq (State.setRegN_only ..) ?_ (by simp [Reach.le])
      exact hx7
    clear_value x9
    refine Only.ite ?_ ?_
    · refine Only.seq (State.cmacIrq_only ..) ?_ (by decide)
      exact hx9
    · exact hx9

theorem State.ctlSettings_only (s_a port_a) : Only ⟨[.out, .pinned, .regs, .ev, .flashJournal, .ctl, .diskJournal], [Obj.eventCount, Obj.eventLastAt, Obj.eventLastSubject], []⟩ s_a (State.ctlSettings s_a port_a) := by
  unfold State.ctlSettings
  extract_lets +onlyGivenNames x1
  refine Only.seq (State.setRegN_only ..) ?_ (by simp [Reach.le])
  refine Only.seq (State.cmacCtrl_only ..) ?_ (by decide)
  exact Only.refl _ _

theorem State.ctlStart_only (s_a port_a) : Only ⟨[.out, .pinned, .regs, .ev, .flashJournal, .ctl, .diskJournal], [Obj.eventCount, Obj.eventLastAt, Obj.eventLastSubject], []⟩ s_a (State.ctlStart s_a port_a) := by
  unfold State.ctlStart
  extract_lets +onlyGivenNames x1
  extract_lets +onlyGivenNames x2
  have hx2 : Only ⟨[.out, .pinned, .regs, .ev, .flashJournal, .ctl, .diskJournal], [Obj.eventCount, Obj.eventLastAt, Obj.eventLastSubject], []⟩ s_a x2 := by
    subst x2
    refine Only.seq (State.setRegN_only ..) ?_ (by simp [Reach.le])
    refine Only.seq (State.setRegN_only ..) ?_ (by simp [Reach.le])
    exact Only.refl _ _
  clear_value x2
  extract_lets +onlyGivenNames x3
  have hx3 : Only ⟨[.out, .pinned, .regs, .ev, .flashJournal, .ctl, .diskJournal], [Obj.eventCount, Obj.eventLastAt, Obj.eventLastSubject], []⟩ s_a x3 := by
    subst x3
    refine Only.ite ?_ ?_
    · exact hx2
    · refine Only.seq (State.setRegN_only ..) ?_ (by simp [Reach.le])
      exact hx2
  clear_value x3
  refine Only.seq (State.ctlSettings_only ..) ?_ (by decide)
  refine Only.seq (State.cmacCtrl_only ..) ?_ (by decide)
  exact hx3

end Sys2Proof.Machine
end

