-- ==== Sys2Proof/Laws/OnlySessions.lean ====
section
/-!
SUPPORT. What the functions of Machine/Sessions.lean may change (`Only` of Laws/Only.lean).
-/
namespace Sys2Proof.Machine
set_option Elab.async false

theorem State.setSession_only (s_a n_a x_a) : Only ⟨[.sessions], [], []⟩ s_a (State.setSession s_a n_a x_a) := by
  unfold State.setSession
  refine Only.seq (Only.upd (r := ⟨[.sessions], [], []⟩) (s := s_a) (fun p => by cases p <;> first | exact .inr rfl | exact .inl (by decide))) ?_ (by decide)
  exact Only.refl _ _

theorem State.sendIn_only (s_a n_a f_a) : Only ⟨[.out, .sessions], [], []⟩ s_a (State.sendIn s_a n_a f_a) := by
  unfold State.sendIn
  split
  · refine Only.seq (State.emit_only ..) ?_ (by decide)
    refine Only.seq (State.setSession_only ..) ?_ (by decide)
    exact Only.refl _ _
  · exact Only.refl _ _

theorem State.respond_only (s_a n_a seq_a type_a status_a detail_a body_a) : Only ⟨[.out, .sessions], [], []⟩ s_a (State.respond s_a n_a seq_a type_a status_a detail_a body_a) := by
  unfold State.respond
  split
  · extract_lets +onlyGivenNames x1
    refine Only.seq (State.emit_only ..) ?_ (by decide)
    refine Only.seq (State.setSession_only ..) ?_ (by decide)
    exact Only.refl _ _
  · exact Only.refl _ _

theorem State.logWrite_only (s_a a_a v_a due_a) : Only ⟨[.tw], [], []⟩ s_a (State.logWrite s_a a_a v_a due_a) := by
  unfold State.logWrite
  refine Only.ite ?_ ?_
  · refine Only.seq (Only.upd (r := ⟨[.tw], [], []⟩) (s := s_a) (fun p => by cases p <;> first | exact .inr rfl | exact .inl (by decide))) ?_ (by decide)
    exact Only.refl _ _
  · exact Only.refl _ _

theorem State.frameWrite_only (s_a w_a) : Only ⟨[.frameWrites, .tw], [], []⟩ s_a (State.frameWrite s_a w_a) := by
  unfold State.frameWrite
  extract_lets +onlyGivenNames x1
  extract_lets +onlyGivenNames x2
  extract_lets +onlyGivenNames x3
  have hx3 : Only ⟨[.frameWrites, .tw], [], []⟩ s_a x3 := by
    subst x3
    refine Only.seq (Only.upd (r := ⟨[.frameWrites], [], []⟩) (s := s_a) (fun p => by cases p <;> first | exact .inr rfl | exact .inl (by decide))) ?_ (by decide)
    exact Only.refl _ _
  clear_value x3
  refine Only.ite ?_ ?_
  · exact hx3
  · refine Only.seq (State.logWrite_only ..) ?_ (by decide)
    exact hx3

theorem State.completeTicket_only (s_a number_a status_a result_a) : Only ⟨[.gate], [], []⟩ s_a (State.completeTicket s_a number_a status_a result_a) := by
  unfold State.completeTicket
  refine Only.seq (Only.upd (r := ⟨[.gate], [], []⟩) (s := s_a) (fun p => by cases p <;> first | exact .inr rfl | exact .inl (by decide))) ?_ (by decide)
  exact Only.refl _ _

theorem State.reply_only (s_a a_a type_a status_a detail_a b_a) : Only ⟨[.out, .mem, .sessions, .gate], [], []⟩ s_a (State.reply s_a a_a type_a status_a detail_a b_a) := by
  unfold State.reply
  split
  · refine Only.seq (State.respond_only ..) ?_ (by decide)
    exact Only.refl _ _
  · split
    · refine Only.seq (State.completeTicket_only ..) ?_ (by decide)
      refine Only.seq (State.setMem_only ..) ?_ (by decide)
      exact Only.refl _ _
    · exact Only.refl _ _
  · exact Only.refl _ _

theorem State.answerFor_only (s_a x_a status_a) : Only ⟨[.out, .mem, .sessions, .frameWrites, .tw, .gate], [], []⟩ s_a (State.answerFor s_a x_a status_a) := by
  unfold State.answerFor
  extract_lets +onlyGivenNames x1
  have hx1 : Only ⟨[.out, .mem, .sessions, .frameWrites, .tw, .gate], [], []⟩ s_a x1 := by
    subst x1
    refine Only.foldl (fun u2 x3 => ?_) ?_
    · refine Only.seq (State.frameWrite_only ..) ?_ (by decide)
      exact Only.refl _ _
    · exact Only.refl _ _
  clear_value x1
  refine Only.ite ?_ ?_
  · refine Only.seq (State.reply_only ..) ?_ (by decide)
    exact hx1
  · split
    · refine Only.seq (State.reply_only ..) ?_ (by decide)
      exact hx1
    · refine Only.seq (State.reply_only ..) ?_ (by decide)
      exact hx1

theorem State.setSalvo_only (s_a n_a x_a) : Only ⟨[.salvos], [], []⟩ s_a (State.setSalvo s_a n_a x_a) := by
  unfold State.setSalvo
  refine Only.seq (Only.upd (r := ⟨[.salvos], [], []⟩) (s := s_a) (fun p => by cases p <;> first | exact .inr rfl | exact .inl (by decide))) ?_ (by decide)
  exact Only.refl _ _

theorem State.unarm_only (s_a n_a) : Only ⟨[.out, .pinned, .ev, .salvos, .flashJournal, .media, .diskJournal], [Obj.rxFlowState, Obj.txFlowState, Obj.portTxFramesB, Obj.portTxFrames, Obj.eventCount, Obj.eventLastAt, Obj.eventLastSubject, Obj.portTxBytesB, Obj.portTxBytes], [0x40000004, 0x40000008]⟩ s_a (State.unarm s_a n_a) := by
  unfold State.unarm
  extract_lets +onlyGivenNames x1
  extract_lets +onlyGivenNames x2
  extract_lets +onlyGivenNames x3
  have hx3 : Only ⟨[.out, .pinned, .ev, .salvos, .flashJournal, .media, .diskJournal], [Obj.rxFlowState, Obj.txFlowState, Obj.portTxFramesB, Obj.portTxFrames, Obj.eventCount, Obj.eventLastAt, Obj.eventLastSubject, Obj.portTxBytesB, Obj.portTxBytes], [0x40000004, 0x40000008]⟩ s_a x3 := by
    subst x3
    refine Only.seq (State.setSalvo_only ..) ?_ (by decide)
    exact Only.refl _ _
  clear_value x3
  extract_lets +onlyGivenNames x4
  extract_lets +onlyGivenNames x5
  have hx5 : Only ⟨[.out, .pinned, .ev, .salvos, .flashJournal, .media, .diskJournal], [Obj.rxFlowState, Obj.txFlowState, Obj.portTxFramesB, Obj.portTxFrames, Obj.eventCount, Obj.eventLastAt, Obj.eventLastSubject, Obj.portTxBytesB, Obj.portTxBytes], [0x40000004, 0x40000008]⟩ s_a x5 := by
    subst x5
    refine Only.foldl (fun u6 x7 => ?_) ?_
    · refine Only.seq (State.setN_only ..) ?_ (by decide)
      exact Only.refl _ _
    · exact hx3
  clear_value x5
  extract_lets +onlyGivenNames x8
  extract_lets +onlyGivenNames x9
  have hx9 : Only ⟨[.out, .pinned, .ev, .salvos, .flashJournal, .media, .diskJournal], [Obj.rxFlowState, Obj.txFlowState, Obj.portTxFramesB, Obj.portTxFrames, Obj.eventCount, Obj.eventLastAt, Obj.eventLastSubject, Obj.portTxBytesB, Obj.portTxBytes], [0x40000004, 0x40000008]⟩ s_a x9 := by
    subst x9
    refine Only.foldl (fun u10 x11 => ?_) ?_
    · refine Only.seq (State.setN_only ..) ?_ (by decide)
      exact Only.refl _ _
    · exact hx5
  clear_value x9
  refine Only.seq (State.syncMembership_only ..) ?_ (by decide)
  exact hx9

theorem State.freeSalvo_only (s_a n_a) : Only ⟨[.out, .pinned, .ev, .salvos, .flashJournal, .media, .diskJournal], [Obj.rxFlowState, Obj.txFlowState, Obj.portTxFramesB, Obj.portTxFrames, Obj.eventCount, Obj.eventLastAt, Obj.eventLastSubject, Obj.portTxBytesB, Obj.portTxBytes], [0x40000004, 0x40000008]⟩ s_a (State.freeSalvo s_a n_a) := by
  unfold State.freeSalvo
  refine Only.seq (State.setSalvo_only ..) ?_ (by decide)
  refine Only.seq (State.unarm_only ..) ?_ (by decide)
  exact Only.refl _ _

theorem State.discardSalvo_only (s_a n_a empty_a) : Only ⟨[.out, .pinned, .ev, .salvos, .engine, .flashJournal, .media, .diskJournal], [Obj.rxFlowState, Obj.txFlowState, Obj.portTxFramesB, Obj.portTxFrames, Obj.eventCount, Obj.eventLastAt, Obj.eventLastSubject, Obj.portTxBytesB, Obj.portTxBytes], [0x40000004, 0x40000008]⟩ s_a (State.discardSalvo s_a n_a empty_a) := by
  unfold State.discardSalvo
  extract_lets +onlyGivenNames x1
  have hx1 : Only ⟨[.out, .pinned, .ev, .salvos, .engine, .flashJournal, .media, .diskJournal], [Obj.rxFlowState, Obj.txFlowState, Obj.portTxFramesB, Obj.portTxFrames, Obj.eventCount, Obj.eventLastAt, Obj.eventLastSubject, Obj.portTxBytesB, Obj.portTxBytes], [0x40000004, 0x40000008]⟩ s_a x1 := by
    subst x1
    refine Only.seq (State.freeSalvo_only ..) ?_ (by decide)
    exact Only.refl _ _
  clear_value x1
  extract_lets +onlyGivenNames x2
  extract_lets +onlyGivenNames x3
  have hx3 : Only ⟨[.out, .pinned, .ev, .salvos, .engine, .flashJournal, .media, .diskJournal], [Obj.rxFlowState, Obj.txFlowState, Obj.portTxFramesB, Obj.portTxFrames, Obj.eventCount, Obj.eventLastAt, Obj.eventLastSubject, Obj.portTxBytesB, Obj.portTxBytes], [0x40000004, 0x40000008]⟩ s_a x3 := by
    subst x3
    refine Only.seq (Only.upd (r := ⟨[.engine], [], []⟩) (s := x1) (fun p => by cases p <;> first | exact .inr rfl | exact .inl (by decide))) ?_ (by decide)
    exact hx1
  clear_value x3
  refine Only.ite ?_ ?_
  · exact hx3
  · refine Only.seq (State.raise_only ..) ?_ (by decide)
    exact hx3

theorem State.discardOwned_only (s_a n_a) : Only ⟨[.out, .pinned, .ev, .salvos, .engine, .flashJournal, .media, .diskJournal], [Obj.rxFlowState, Obj.txFlowState, Obj.portTxFramesB, Obj.portTxFrames, Obj.eventCount, Obj.eventLastAt, Obj.eventLastSubject, Obj.portTxBytesB, Obj.portTxBytes], [0x40000004, 0x40000008]⟩ s_a (State.discardOwned s_a n_a) := by
  unfold State.discardOwned
  refine Only.ite ?_ ?_
  · exact Only.refl _ _
  · refine Only.foldl (fun u1 x2 => ?_) ?_
    · refine Only.ite ?_ ?_
      · exact Only.refl _ _
      · split
        · refine Only.seq (State.discardSalvo_only ..) ?_ (by decide)
          exact Only.refl _ _
        · refine Only.seq (State.discardSalvo_only ..) ?_ (by decide)
          exact Only.refl _ _
        · refine Only.seq (State.setSalvo_only ..) ?_ (by decide)
          exact Only.refl _ _
        · exact Only.refl _ _
    · exact Only.refl _ _

theorem State.endStaging_only (s_a n_a) : Only ⟨[.update], [Obj.updateState], [0x40080014]⟩ s_a (State.endStaging s_a n_a) := by
  unfold State.endStaging
  refine Only.ite ?_ ?_
  · extract_lets +onlyGivenNames x1
    have hx1 : Only ⟨[.update], [Obj.updateState], [0x40080014]⟩ s_a x1 := by
      subst x1
      refine Only.seq (State.setRegN_only ..) ?_ (by decide)
      refine Only.seq (State.setN_only ..) ?_ (by decide)
      exact Only.refl _ _
    clear_value x1
    refine Only.seq (Only.upd (r := ⟨[.update], [], []⟩) (s := x1) (fun p => by cases p <;> first | exact .inr rfl | exact .inl (by decide))) ?_ (by decide)
    exact hx1
  · exact Only.refl _ _

theorem State.dropWaits_only (s_a n_a) : Only ⟨[.sessions], [], []⟩ s_a (State.dropWaits s_a n_a) := by
  unfold State.dropWaits
  refine Only.seq (Only.upd (r := ⟨[.sessions], [], []⟩) (s := s_a) (fun p => by cases p <;> first | exact .inr rfl | exact .inl (by decide))) ?_ (by decide)
  exact Only.refl _ _

theorem State.leaveEngine_only (s_a n_a) : Only ⟨[.salvos, .engine, .gate], [], []⟩ s_a (State.leaveEngine s_a n_a) := by
  unfold State.leaveEngine
  extract_lets +onlyGivenNames x1
  extract_lets +onlyGivenNames x2
  extract_lets +onlyGivenNames x3
  have hx3 : Only ⟨[.salvos, .engine, .gate], [], []⟩ s_a x3 := by
    subst x3
    refine Only.seq (Only.upd (r := ⟨[.salvos, .engine], [], []⟩) (s := s_a) (fun p => by cases p <;> first | exact .inr rfl | exact .inl (by decide))) ?_ (by decide)
    exact Only.refl _ _
  clear_value x3
  refine Only.foldl (fun u4 x5 => ?_) ?_
  · split
    · refine Only.seq (State.completeTicket_only ..) ?_ (by decide)
      exact Only.refl _ _
    · exact Only.refl _ _
  · exact hx3

theorem State.endSession_only (s_a n_a reason_a) : Only ⟨[.out, .pinned, .ev, .sessions, .salvos, .engine, .update, .flashJournal, .gate, .media, .diskJournal], [Obj.rxFlowState, Obj.txFlowState, Obj.portTxFramesB, Obj.portTxFrames, Obj.eventCount, Obj.eventLastAt, Obj.eventLastSubject, Obj.portTxBytesB, Obj.portTxBytes, Obj.updateState], [0x40000004, 0x40000008, 0x40080014]⟩ s_a (State.endSession s_a n_a reason_a) := by
  unfold State.endSession
  split
  · exact Only.refl _ _
  · extract_lets +onlyGivenNames x1
    have hx1 : Only ⟨[.out, .pinned, .ev, .sessions, .salvos, .engine, .update, .flashJournal, .gate, .media, .diskJournal], [Obj.rxFlowState, Obj.txFlowState, Obj.portTxFramesB, Obj.portTxFrames, Obj.eventCount, Obj.eventLastAt, Obj.eventLastSubject, Obj.portTxBytesB, Obj.portTxBytes, Obj.updateState], [0x40000004, 0x40000008, 0x40080014]⟩ s_a x1 := by
      subst x1
      split
      · refine Only.seq (State.sendIn_only ..) ?_ (by decide)
        exact Only.refl _ _
      · exact Only.refl _ _
    clear_value x1
    extract_lets +onlyGivenNames x2
    extract_lets +onlyGivenNames x3
    have hx3 : Only ⟨[.out, .pinned, .ev, .sessions, .salvos, .engine, .update, .flashJournal, .gate, .media, .diskJournal], [Obj.rxFlowState, Obj.txFlowState, Obj.portTxFramesB, Obj.portTxFrames, Obj.eventCount, Obj.eventLastAt, Obj.eventLastSubject, Obj.portTxBytesB, Obj.portTxBytes, Obj.updateState], [0x40000004, 0x40000008, 0x40080014]⟩ s_a x3 := by
      subst x3
      refine Only.seq (State.dropWaits_only ..) ?_ (by decide)
      refine Only.seq (Only.upd (r := ⟨[.sessions], [], []⟩) (s := x1) (fun p => by cases p <;> first | exact .inr rfl | exact .inl (by decide))) ?_ (by decide)
      exact hx1
    clear_value x3
    refine Only.seq (State.raise_only ..) ?_ (by decide)
    refine Only.seq (State.endStaging_only ..) ?_ (by decide)
    refine Only.seq (State.discardOwned_only ..) ?_ (by decide)
    refine Only.seq (State.leaveEngine_only ..) ?_ (by decide)
    exact hx3

theorem State.endSessions_only (s_a reason_a) : Only ⟨[.out, .pinned, .ev, .sessions, .salvos, .engine, .update, .flashJournal, .gate, .media, .diskJournal], [Obj.rxFlowState, Obj.txFlowState, Obj.portTxFramesB, Obj.portTxFrames, Obj.eventCount, Obj.eventLastAt, Obj.eventLastSubject, Obj.portTxBytesB, Obj.portTxBytes, Obj.updateState], [0x40000004, 0x40000008, 0x40080014]⟩ s_a (State.endSessions s_a reason_a) := by
  unfold State.endSessions
  refine Only.foldl (fun u1 x2 => ?_) ?_
  · refine Only.seq (State.endSession_only ..) ?_ (by decide)
    exact Only.refl _ _
  · exact Only.refl _ _

theorem State.endRole_only (s_a role_a reason_a) : Only ⟨[.out, .pinned, .ev, .sessions, .salvos, .engine, .update, .flashJournal, .gate, .media, .diskJournal], [Obj.rxFlowState, Obj.txFlowState, Obj.portTxFramesB, Obj.portTxFrames, Obj.eventCount, Obj.eventLastAt, Obj.eventLastSubject, Obj.portTxBytesB, Obj.portTxBytes, Obj.updateState], [0x40000004, 0x40000008, 0x40080014]⟩ s_a (State.endRole s_a role_a reason_a) := by
  unfold State.endRole
  refine Only.foldl (fun u1 x2 => ?_) ?_
  · refine Only.seq (State.endSession_only ..) ?_ (by decide)
    exact Only.refl _ _
  · exact Only.refl _ _

end Sys2Proof.Machine
end

