-- ==== Sys2Proof/Laws/OnlyStore.lean ====
section
/-!
SUPPORT. What the functions of Machine/Store.lean may change (`Only` of Laws/Only.lean).
-/
namespace Sys2Proof.Machine
set_option Elab.async false

theorem State.setSlot_only (s_a slot_a x_a) : Only ⟨[.st], [], []⟩ s_a (State.setSlot s_a slot_a x_a) := by
  unfold State.setSlot
  refine Only.ite ?_ ?_
  · refine Only.seq (Only.upd (r := ⟨[.st], [], []⟩) (s := s_a) (fun p => by cases p <;> first | exact .inr rfl | exact .inl (by decide))) ?_ (by decide)
    exact Only.refl _ _
  · refine Only.seq (Only.upd (r := ⟨[.st], [], []⟩) (s := s_a) (fun p => by cases p <;> first | exact .inr rfl | exact .inl (by decide))) ?_ (by decide)
    exact Only.refl _ _

theorem State.startSave_only (s_a) : Only ⟨[.st], [], []⟩ s_a (State.startSave s_a) := by
  unfold State.startSave
  extract_lets +onlyGivenNames x1
  extract_lets +onlyGivenNames x2
  extract_lets +onlyGivenNames x3
  have hx3 : Only ⟨[.st], [], []⟩ s_a x3 := by
    subst x3
    refine Only.seq (State.setSlot_only ..) ?_ (by decide)
    exact Only.refl _ _
  clear_value x3
  refine Only.seq (Only.upd (r := ⟨[.st], [], []⟩) (s := x3) (fun p => by cases p <;> first | exact .inr rfl | exact .inl (by decide))) ?_ (by decide)
  exact hx3

theorem State.answerSave_only (s_a x_a status_a) : Only ⟨[.out, .mem, .sessions, .frameWrites, .tw, .gate], [], []⟩ s_a (State.answerSave s_a x_a status_a) := by
  unfold State.answerSave
  extract_lets +onlyGivenNames x1
  have hx1 : Only ⟨[.out, .mem, .sessions, .frameWrites, .tw, .gate], [], []⟩ s_a x1 := by
    subst x1
    refine Only.foldl (fun u2 x3 => ?_) ?_
    · refine Only.seq (State.answerFor_only ..) ?_ (by decide)
      exact Only.refl _ _
    · exact Only.refl _ _
  clear_value x1
  refine Only.foldl (fun u4 x5 => ?_) ?_
  · refine Only.seq (State.completeTicket_only ..) ?_ (by decide)
    exact Only.refl _ _
  · exact hx1

theorem State.endSave_only (s_a ok_a) : Only ⟨[.out, .pinned, .mem, .ev, .sessions, .frameWrites, .tw, .st, .flashJournal, .gate, .diskJournal], [Obj.storeGeneration, Obj.storeLastSavedAt, Obj.eventCount, Obj.eventLastAt, Obj.eventLastSubject, Obj.healthReasons, Obj.healthState], [0x40000004, 0x40000008]⟩ s_a (State.endSave s_a ok_a) := by
  unfold State.endSave
  split
  · exact Only.refl _ _
  · refine Only.ite ?_ ?_
    · extract_lets +onlyGivenNames x1
      have hx1 : Only ⟨[.out, .pinned, .mem, .ev, .sessions, .frameWrites, .tw, .st, .flashJournal, .gate, .diskJournal], [Obj.storeGeneration, Obj.storeLastSavedAt, Obj.eventCount, Obj.eventLastAt, Obj.eventLastSubject, Obj.healthReasons, Obj.healthState], [0x40000004, 0x40000008]⟩ s_a x1 := by
        subst x1
        refine Only.seq (State.setSlot_only ..) ?_ (by decide)
        exact Only.refl _ _
      clear_value x1
      extract_lets +onlyGivenNames x2
      extract_lets +onlyGivenNames x3
      have hx3 : Only ⟨[.out, .pinned, .mem, .ev, .sessions, .frameWrites, .tw, .st, .flashJournal, .gate, .diskJournal], [Obj.storeGeneration, Obj.storeLastSavedAt, Obj.eventCount, Obj.eventLastAt, Obj.eventLastSubject, Obj.healthReasons, Obj.healthState], [0x40000004, 0x40000008]⟩ s_a x3 := by
        subst x3
        refine Only.seq (Only.upd (r := ⟨[.st], [], []⟩) (s := x1) (fun p => by cases p <;> first | exact .inr rfl | exact .inl (by decide))) ?_ (by decide)
        exact hx1
      clear_value x3
      extract_lets +onlyGivenNames x4
      have hx4 : Only ⟨[.out, .pinned, .mem, .ev, .sessions, .frameWrites, .tw, .st, .flashJournal, .gate, .diskJournal], [Obj.storeGeneration, Obj.storeLastSavedAt, Obj.eventCount, Obj.eventLastAt, Obj.eventLastSubject, Obj.healthReasons, Obj.healthState], [0x40000004, 0x40000008]⟩ s_a x4 := by
        subst x4
        refine Only.seq (State.setN_only ..) ?_ (by decide)
        refine Only.seq (State.setN_only ..) ?_ (by decide)
        exact hx3
      clear_value x4
      refine Only.seq (State.raise_only ..) ?_ (by decide)
      refine Only.seq (State.answerSave_only ..) ?_ (by decide)
      exact hx4
    · refine Only.ite ?_ ?_
      · extract_lets +onlyGivenNames x5
        extract_lets +onlyGivenNames x6
        have hx6 : Only ⟨[.out, .pinned, .mem, .ev, .sessions, .frameWrites, .tw, .st, .flashJournal, .gate, .diskJournal], [Obj.storeGeneration, Obj.storeLastSavedAt, Obj.eventCount, Obj.eventLastAt, Obj.eventLastSubject, Obj.healthReasons, Obj.healthState], [0x40000004, 0x40000008]⟩ s_a x6 := by
          subst x6
          refine Only.seq (Only.upd (r := ⟨[.st], [], []⟩) (s := s_a) (fun p => by cases p <;> first | exact .inr rfl | exact .inl (by decide))) ?_ (by decide)
          exact Only.refl _ _
        clear_value x6
        refine Only.seq (State.answerSave_only ..) ?_ (by decide)
        refine Only.seq (State.raise_only ..) ?_ (by decide)
        refine Only.seq (State.setReason_only ..) ?_ (by decide)
        exact hx6
      · refine Only.seq (Only.upd (r := ⟨[.st], [], []⟩) (s := s_a) (fun p => by cases p <;> first | exact .inr rfl | exact .inl (by decide))) ?_ (by decide)
        exact Only.refl _ _

theorem execStoreSaveStart_only (dt_a s_a) : OnlyR ⟨[.out, .now, .tc, .st], [], []⟩ s_a (execStoreSaveStart dt_a s_a) := by
  unfold execStoreSaveStart
  refine actIf_only (hk3 := fun u1 => ?_) (l := (by decide)) ..
  refine Only.seq (State.startSave_only ..) ?_ (by decide)
  exact Only.refl _ _

theorem State.completeSaves_only (s_a) : Only ⟨[.out, .pinned, .mem, .ev, .sessions, .frameWrites, .tw, .st, .flashJournal, .gate, .diskJournal], [Obj.storeGeneration, Obj.storeLastSavedAt, Obj.eventCount, Obj.eventLastAt, Obj.eventLastSubject, Obj.healthReasons, Obj.healthState], [0x40000004, 0x40000008]⟩ s_a (State.completeSaves s_a) := by
  unfold State.completeSaves
  refine Only.seq (State.endSave_only ..) ?_ (by decide)
  exact Only.refl _ _

theorem execHoldoverModelSave_only (dt_a s_a) : OnlyR ⟨[.out, .now, .tc, .st, .ws], [], []⟩ s_a (execHoldoverModelSave dt_a s_a) := by
  unfold execHoldoverModelSave
  refine actIf_only (hk3 := fun u1 => ?_) (l := (by decide)) ..
  refine Only.seq (Only.upd (r := ⟨[.st, .ws], [], []⟩) (s := u1) (fun p => by cases p <;> first | exact .inr rfl | exact .inl (by decide))) ?_ (by decide)
  exact Only.refl _ _

theorem State.addReport_only (s_a a_a reason_a) : Only ⟨[], [Obj.migrationReportCount, Obj.migrationReport], []⟩ s_a (State.addReport s_a a_a reason_a) := by
  unfold State.addReport
  extract_lets +onlyGivenNames x1
  extract_lets +onlyGivenNames x2
  have hx2 : Only ⟨[], [Obj.migrationReportCount, Obj.migrationReport], []⟩ s_a x2 := by
    subst x2
    refine Only.seq (State.setN_only ..) ?_ (by decide)
    exact Only.refl _ _
  clear_value x2
  refine Only.ite ?_ ?_
  · refine Only.seq (State.setBy_only ..) ?_ (by decide)
    exact hx2
  · exact hx2

theorem Only.foldlFst {α β : Type} {r : Reach} {f : State × β → α → State × β} {l : List α} {s : State} {p : State × β}
    (h : ∀ q x, Only r q.1 (f q x).1) (g : Only r s p.1) : Only r s (l.foldl f p).1 := by
  induction l generalizing p with
  | nil => exact g
  | cons x l ih => exact ih ((h p x).seq g (Reach.le_refl r))

theorem State.loadRecords_only (s : State) (version : Nat) (l : List (Nat × Val)) : Only ⟨[.objs], [], []⟩ s (s.loadRecords version l).1 := by
  unfold State.loadRecords
  refine Only.foldlFst (fun q r => ?_) (Only.refl _ s)
  split
  · exact Only.refl _ _
  · split
    · exact (State.addReport_only ..).up
    · split
      · split
        · exact Only.refl _ _
        · exact (State.setVal_only ..).mono ⟨fun _ h => (nomatch h), .inr (by decide), .inl fun _ h => (nomatch h)⟩
      · exact Only.refl _ _

theorem State.loadStore_only (s_a) : Only ⟨[.out, .objs, .pinned, .boot, .ev, .roleKeys, .st, .flashJournal, .ws, .diskJournal], [], [0x40000004, 0x40000008]⟩ s_a (State.loadStore s_a) := by
  unfold State.loadStore
  split
  · extract_lets +onlyGivenNames x1
    extract_lets +onlyGivenNames x2
    have hx2 : Only ⟨[.out, .objs, .pinned, .boot, .ev, .roleKeys, .st, .flashJournal, .ws, .diskJournal], [], [0x40000004, 0x40000008]⟩ s_a x2 := by
      subst x2
      refine Only.seq (Only.upd (r := ⟨[.st], [], []⟩) (s := s_a) (fun p => by cases p <;> first | exact .inr rfl | exact .inl (by decide))) ?_ (by decide)
      exact Only.refl _ _
    clear_value x2
    extract_lets +onlyGivenNames x3
    have hx3 : Only ⟨[.out, .objs, .pinned, .boot, .ev, .roleKeys, .st, .flashJournal, .ws, .diskJournal], [], [0x40000004, 0x40000008]⟩ s_a x3 := by
      subst x3
      refine Only.seq (State.setN_only ..) ?_ (by decide)
      refine Only.seq (State.setN_only ..) ?_ (by decide)
      refine Only.seq (State.setN_only ..) ?_ (by decide)
      exact hx2
    clear_value x3
    refine Only.seq (State.raise_only ..) ?_ (by decide)
    refine Only.seq (State.setReason_only ..) ?_ (by decide)
    exact hx3
  · extract_lets +onlyGivenNames x4
    extract_lets +onlyGivenNames x5
    extract_lets +onlyGivenNames x6
    extract_lets +onlyGivenNames x7
    have hx7 : Only ⟨[.out, .objs, .pinned, .boot, .ev, .roleKeys, .st, .flashJournal, .ws, .diskJournal], [], [0x40000004, 0x40000008]⟩ s_a x7 := by
      subst x7
      refine Only.seq (Only.upd (r := ⟨[.roleKeys, .st, .ws], [], []⟩) (s := s_a) (fun p => by cases p <;> first | exact .inr rfl | exact .inl (by decide))) ?_ (by decide)
      exact Only.refl _ _
    clear_value x7
    extract_lets +onlyGivenNames x8
    have hx8 : Only ⟨[.out, .objs, .pinned, .boot, .ev, .roleKeys, .st, .flashJournal, .ws, .diskJournal], [], [0x40000004, 0x40000008]⟩ s_a x8 := by
      subst x8
      refine Only.seq (State.setN_only ..) ?_ (by decide)
      exact hx7
    clear_value x8
    extract_lets +onlyGivenNames x9
    have hx9 : Only ⟨[.out, .objs, .pinned, .boot, .ev, .roleKeys, .st, .flashJournal, .ws, .diskJournal], [], [0x40000004, 0x40000008]⟩ s_a x9 := by
      subst x9
      refine Only.seq (State.setN_only ..) ?_ (by decide)
      refine Only.seq (State.setN_only ..) ?_ (by decide)
      refine Only.seq (State.setN_only ..) ?_ (by decide)
      exact hx8
    clear_value x9
    extract_lets +onlyGivenNames x10
    have hx10 : Only ⟨[.out, .objs, .pinned, .boot, .ev, .roleKeys, .st, .flashJournal, .ws, .diskJournal], [], [0x40000004, 0x40000008]⟩ s_a x10 := by
      subst x10
      refine Only.ite ?_ ?_
      · refine Only.seq (State.setN_only ..) ?_ (by decide)
        exact hx9
      · exact hx9
    clear_value x10
    extract_lets +onlyGivenNames x11
    have hx11 : Only ⟨[.out, .objs, .pinned, .boot, .ev, .roleKeys, .st, .flashJournal, .ws, .diskJournal], [], [0x40000004, 0x40000008]⟩ s_a x11.1 := by
      subst x11
      refine Only.seq (State.loadRecords_only ..) ?_ (by decide)
      exact hx10
    clear_value x11
    extract_lets +onlyGivenNames x12
    have hx12 : Only ⟨[.out, .objs, .pinned, .boot, .ev, .roleKeys, .st, .flashJournal, .ws, .diskJournal], [], [0x40000004, 0x40000008]⟩ s_a x12 := by
      subst x12
      exact hx11
    clear_value x12
    refine Only.seq (Only.upd (r := ⟨[.boot], [], []⟩) (s := x12) (fun p => by cases p <;> first | exact .inr rfl | exact .inl (by decide))) ?_ (by decide)
    exact hx12

theorem State.refreshProvision_only (s_a) : Only ⟨[.out, .pinned, .ev, .flashJournal, .diskJournal], [Obj.healthReasons, Obj.healthState, Obj.eventCount, Obj.eventLastAt, Obj.eventLastSubject], [0x40000004, 0x40000008]⟩ s_a (State.refreshProvision s_a) := by
  unfold State.refreshProvision
  refine Only.seq (State.setReason_only ..) ?_ (by decide)
  exact Only.refl _ _

end Sys2Proof.Machine
end

