-- ==== Sys2Proof/Laws/OnlyReset.lean ====
section
/-!
SUPPORT. What the functions of Machine/Reset.lean may change (`Only` of Laws/Only.lean).
-/
namespace Sys2Proof.Machine
set_option Elab.async false

theorem State.releaseOutputs_only (s_a) : Only ⟨[.out], [], []⟩ s_a (State.releaseOutputs s_a) := by
  unfold State.releaseOutputs
  extract_lets +onlyGivenNames x1
  have hx1 : Only ⟨[.out], [], []⟩ s_a x1 := by
    subst x1
    refine Only.ite ?_ ?_
    · refine Only.seq (State.emit_only ..) ?_ (by decide)
      exact Only.refl _ _
    · exact Only.refl _ _
  clear_value x1
  extract_lets +onlyGivenNames x2
  have hx2 : Only ⟨[.out], [], []⟩ s_a x2 := by
    subst x2
    refine Only.ite ?_ ?_
    · refine Only.seq (State.emit_only ..) ?_ (by decide)
      exact hx1
    · exact hx1
  clear_value x2
  extract_lets +onlyGivenNames x3
  have hx3 : Only ⟨[.out], [], []⟩ s_a x3 := by
    subst x3
    refine Only.ite ?_ ?_
    · exact hx2
    · refine Only.seq (State.emit_only ..) ?_ (by decide)
      exact hx2
  clear_value x3
  extract_lets +onlyGivenNames x4
  have hx4 : Only ⟨[.out], [], []⟩ s_a x4 := by
    subst x4
    refine Only.foldl (fun u5 x6 => ?_) ?_
    · refine Only.ite ?_ ?_
      · exact Only.refl _ _
      · refine Only.seq (State.emit_only ..) ?_ (by decide)
        exact Only.refl _ _
    · exact hx3
  clear_value x4
  refine Only.foldl (fun u7 x8 => ?_) ?_
  · refine Only.ite ?_ ?_
    · exact Only.refl _ _
    · refine Only.seq (State.emit_only ..) ?_ (by decide)
      exact Only.refl _ _
  · exact hx4

theorem State.fullReset_only (s : State) : Only ⟨List.append [.out, .tc, .objs, .pinned, .regs, .mem, .boot, .ev, .ctlUp, .sessions, .challenges, .lockouts, .roleKeys, .salvos, .frameWrites, .restartWrites] (List.append [.engine, .tw, .st, .update, .osf, .gate, .ctl, .colLast, .scr, .mon, .sdiRx, .sdiTx, .ridge, .cq, .media, .ws] ([.au, .tarn, .sad, .mor, .diskJournal])), [], []⟩ s s.fullReset := by
  unfold State.fullReset
  refine Only.seq (State.setN_only ..) ?_
  exact Only.upd fun p => by cases p <;> first | exact .inr rfl | exact .inl (by decide)

theorem State.enterReset_only (s_a cause_a) : Only ⟨List.append [.out, .tc, .objs, .pinned, .regs, .mem, .boot, .ev, .ctlUp, .sessions, .challenges, .lockouts, .roleKeys, .salvos, .frameWrites, .restartWrites] (List.append [.engine, .tw, .st, .update, .osf, .gate, .ctl, .colLast, .scr, .mon, .sdiRx, .sdiTx, .ridge, .cq, .media, .ws] ([.au, .tarn, .sad, .mor, .diskJournal])), [], []⟩ s_a (State.enterReset s_a cause_a) := by
  unfold State.enterReset
  extract_lets +onlyGivenNames x1
  have hx1 : Only ⟨List.append [.out, .tc, .objs, .pinned, .regs, .mem, .boot, .ev, .ctlUp, .sessions, .challenges, .lockouts, .roleKeys, .salvos, .frameWrites, .restartWrites] (List.append [.engine, .tw, .st, .update, .osf, .gate, .ctl, .colLast, .scr, .mon, .sdiRx, .sdiTx, .ridge, .cq, .media, .ws] ([.au, .tarn, .sad, .mor, .diskJournal])), [], []⟩ s_a x1 := by
    subst x1
    refine Only.seq (State.fullReset_only ..) ?_ (by decide)
    exact Only.refl _ _
  clear_value x1
  refine Only.seq (Only.upd (r := ⟨[.boot], [], []⟩) (s := x1) (fun p => by cases p <;> first | exact .inr rfl | exact .inl (by decide))) ?_ (by decide)
  exact hx1

theorem State.startRom_only (s_a cause_a) : Only ⟨[.out, .tc, .boot], [], []⟩ s_a (State.startRom s_a cause_a) := by
  unfold State.startRom
  extract_lets +onlyGivenNames x1
  have hx1 : Only ⟨[.out, .tc, .boot], [], []⟩ s_a x1 := by
    subst x1
    refine Only.seq (State.emit_only ..) ?_ (by decide)
    exact Only.refl _ _
  clear_value x1
  refine Only.seq (Only.upd (r := ⟨[.tc, .boot], [], []⟩) (s := x1) (fun p => by cases p <;> first | exact .inr rfl | exact .inl (by decide))) ?_ (by decide)
  exact hx1

theorem State.hardRestart_only (s_a cause_a) : Only ⟨List.append [.out, .tc, .objs, .pinned, .regs, .mem, .boot, .ev, .ctlUp, .sessions, .challenges, .lockouts, .roleKeys, .salvos, .frameWrites, .restartWrites] (List.append [.engine, .tw, .st, .update, .osf, .gate, .ctl, .colLast, .scr, .mon, .sdiRx, .sdiTx, .ridge, .cq, .media, .ws] ([.au, .tarn, .sad, .mor, .diskJournal])), [], []⟩ s_a (State.hardRestart s_a cause_a) := by
  unfold State.hardRestart
  extract_lets +onlyGivenNames x1
  have hx1 : Only ⟨List.append [.out, .tc, .objs, .pinned, .regs, .mem, .boot, .ev, .ctlUp, .sessions, .challenges, .lockouts, .roleKeys, .salvos, .frameWrites, .restartWrites] (List.append [.engine, .tw, .st, .update, .osf, .gate, .ctl, .colLast, .scr, .mon, .sdiRx, .sdiTx, .ridge, .cq, .media, .ws] ([.au, .tarn, .sad, .mor, .diskJournal])), [], []⟩ s_a x1 := by
    subst x1
    refine Only.seq (State.startRom_only ..) ?_ (by decide)
    refine Only.seq (State.fullReset_only ..) ?_ (by decide)
    exact Only.refl _ _
  clear_value x1
  refine Only.seq (Only.upd (r := ⟨[.boot], [], []⟩) (s := x1) (fun p => by cases p <;> first | exact .inr rfl | exact .inl (by decide))) ?_ (by decide)
  exact hx1

theorem State.startSoft_only (s_a) : Only ⟨[.out, .pinned, .regs, .boot, .ev, .ctlUp, .sessions, .challenges, .lockouts, .roleKeys, .update, .flashJournal, .gate, .ctl, .scr, .diskJournal], [Obj.updateState, Obj.eventCount, Obj.eventLastAt, Obj.eventLastSubject], []⟩ s_a (State.startSoft s_a) := by
  unfold State.startSoft
  extract_lets +onlyGivenNames x1
  have hx1 : Only ⟨[.out, .pinned, .regs, .boot, .ev, .ctlUp, .sessions, .challenges, .lockouts, .roleKeys, .update, .flashJournal, .gate, .ctl, .scr, .diskJournal], [Obj.updateState, Obj.eventCount, Obj.eventLastAt, Obj.eventLastSubject], []⟩ s_a x1 := by
    subst x1
    refine Only.seq (State.setRegN_only ..) ?_ (by decide)
    refine Only.seq (State.setN_only ..) ?_ (by decide)
    refine Only.seq (State.ctlStop_only ..) ?_ (by decide)
    exact Only.refl _ _
  clear_value x1
  extract_lets +onlyGivenNames x2
  extract_lets +onlyGivenNames x3
  extract_lets +onlyGivenNames x4
  have hx4 : Only ⟨[.out, .pinned, .regs, .boot, .ev, .ctlUp, .sessions, .challenges, .lockouts, .roleKeys, .update, .flashJournal, .gate, .ctl, .scr, .diskJournal], [Obj.updateState, Obj.eventCount, Obj.eventLastAt, Obj.eventLastSubject], []⟩ s_a x4 := by
    subst x4
    refine Only.seq (Only.upd (r := ⟨[.boot, .ctlUp, .sessions, .challenges, .lockouts, .roleKeys, .update, .gate, .scr], [], []⟩) (s := x1) (fun p => by cases p <;> first | exact .inr rfl | exact .inl (by decide))) ?_ (by decide)
    exact hx1
  clear_value x4
  exact hx4

end Sys2Proof.Machine
end

