-- ==== Sys2Proof/Laws/OnlyUpdate.lean ====
section
/-!
SUPPORT. What the functions of Machine/Update.lean may change (`Only` of Laws/Only.lean).
-/
namespace Sys2Proof.Machine
set_option Elab.async false

theorem State.updateNo_only (s_a code_a) : Only ⟨[], [Obj.updateResult], []⟩ s_a (State.updateNo s_a code_a).2 := by
  unfold State.updateNo
  refine Only.mk2 ?_
  refine Only.seq (State.setN_only ..) ?_ (by decide)
  exact Only.refl _ _

theorem State.updateOk_only (s_a) : Only ⟨[], [Obj.updateResult], []⟩ s_a (State.updateOk s_a).2 := by
  unfold State.updateOk
  refine Only.mk2 ?_
  refine Only.seq (State.setN_only ..) ?_ (by decide)
  exact Only.refl _ _

theorem State.setWindow_only (s_a base_a size_a) : Only ⟨[], [], [0x40080010, 0x40080014]⟩ s_a (State.setWindow s_a base_a size_a) := by
  unfold State.setWindow
  refine Only.seq (State.setRegN_only ..) ?_ (by decide)
  refine Only.seq (State.setRegN_only ..) ?_ (by decide)
  exact Only.refl _ _

theorem State.updateRefuse_only (s_a code_a) : Only ⟨[.out, .pinned, .ev, .flashJournal, .diskJournal], [Obj.updateResult, Obj.eventCount, Obj.eventLastAt, Obj.eventLastSubject], [0x40000004, 0x40000008]⟩ s_a (State.updateRefuse s_a code_a).2 := by
  unfold State.updateRefuse
  extract_lets +onlyGivenNames x1
  have hx1 : Only ⟨[.out, .pinned, .ev, .flashJournal, .diskJournal], [Obj.updateResult, Obj.eventCount, Obj.eventLastAt, Obj.eventLastSubject], [0x40000004, 0x40000008]⟩ s_a x1.2 := by
    subst x1
    refine Only.seq (State.updateNo_only ..) ?_ (by decide)
    exact Only.refl _ _
  clear_value x1
  refine Only.mk2 ?_
  refine Only.seq (State.raise_only ..) ?_ (by decide)
  exact hx1

theorem State.updateBegin_only (s_a session_a kind_a) : Only ⟨[.out, .pinned, .flash, .ev, .update, .flashJournal, .diskJournal], [Obj.updateResult, Obj.eventCount, Obj.eventLastAt, Obj.eventLastSubject, Obj.updateState, Obj.updateReceived], [0x40000004, 0x40000008, 0x40080010, 0x40080014]⟩ s_a (State.updateBegin s_a session_a kind_a).2 := by
  unfold State.updateBegin
  split
  · refine Only.seq (State.updateRefuse_only ..) ?_ (by decide)
    exact Only.refl _ _
  · extract_lets +onlyGivenNames x1
    extract_lets +onlyGivenNames x2
    extract_lets +onlyGivenNames x3
    have hx3 : Only ⟨[.out, .pinned, .flash, .ev, .update, .flashJournal, .diskJournal], [Obj.updateResult, Obj.eventCount, Obj.eventLastAt, Obj.eventLastSubject, Obj.updateState, Obj.updateReceived], [0x40000004, 0x40000008, 0x40080010, 0x40080014]⟩ s_a x3 := by
      subst x3
      refine Only.seq (State.setWindow_only ..) ?_ (by decide)
      refine Only.seq (State.erase_only ..) ?_ (by decide)
      exact Only.refl _ _
    clear_value x3
    extract_lets +onlyGivenNames x4
    extract_lets +onlyGivenNames x5
    have hx5 : Only ⟨[.out, .pinned, .flash, .ev, .update, .flashJournal, .diskJournal], [Obj.updateResult, Obj.eventCount, Obj.eventLastAt, Obj.eventLastSubject, Obj.updateState, Obj.updateReceived], [0x40000004, 0x40000008, 0x40080010, 0x40080014]⟩ s_a x5 := by
      subst x5
      refine Only.seq (Only.upd (r := ⟨[.update], [], []⟩) (s := x3) (fun p => by cases p <;> first | exact .inr rfl | exact .inl (by decide))) ?_ (by decide)
      exact hx3
    clear_value x5
    refine Only.seq (State.updateOk_only ..) ?_ (by decide)
    refine Only.seq (State.setN_only ..) ?_ (by decide)
    refine Only.seq (State.setN_only ..) ?_ (by decide)
    exact hx5

theorem State.updateData_only (s_a session_a value_a) : Only ⟨[.flash], [Obj.updateResult, Obj.updateState, Obj.updateReceived], [0x40080010, 0x40080014]⟩ s_a (State.updateData s_a session_a value_a).2 := by
  unfold State.updateData
  extract_lets +onlyGivenNames x1
  extract_lets +onlyGivenNames x2
  extract_lets +onlyGivenNames x3
  split
  · refine Only.seq (State.updateNo_only ..) ?_ (by decide)
    exact Only.refl _ _
  · split
    · refine Only.seq (State.updateNo_only ..) ?_ (by decide)
      exact Only.refl _ _
    · split
      · refine Only.seq (State.updateNo_only ..) ?_ (by decide)
        exact Only.refl _ _
      · extract_lets +onlyGivenNames x4
        have hx4 : Only ⟨[.flash], [Obj.updateResult, Obj.updateState, Obj.updateReceived], [0x40080010, 0x40080014]⟩ s_a x4 := by
          subst x4
          refine Only.seq (State.program_only ..) ?_ (by decide)
          exact Only.refl _ _
        clear_value x4
        split
        · refine Only.seq (State.updateNo_only ..) ?_ (by decide)
          refine Only.seq (State.setN_only ..) ?_ (by decide)
          refine Only.seq (State.setWindow_only ..) ?_ (by decide)
          exact hx4
        · refine Only.seq (State.updateOk_only ..) ?_ (by decide)
          refine Only.seq (State.setN_only ..) ?_ (by decide)
          exact hx4

theorem State.updateCommit_only (s : State) (session : Nat) : Only ⟨[.out, .pinned, .ev, .flashJournal, .diskJournal], [Obj.updateResult, Obj.updateState, Obj.stagedSecurityVersion, Obj.stagedVersion, Obj.eventCount, Obj.eventLastAt, Obj.eventLastSubject], [0x40080014, 0x40080010, 0x40000004, 0x40000008]⟩ s (s.updateCommit session).2 := by
  unfold State.updateCommit
  split
  · exact (State.updateNo_only ..).up
  · extract_lets +onlyGivenNames t base fault
    have ht : Only ⟨[.out, .pinned, .ev, .flashJournal, .diskJournal], [Obj.updateResult, Obj.updateState, Obj.stagedSecurityVersion, Obj.stagedVersion, Obj.eventCount, Obj.eventLastAt, Obj.eventLastSubject], [0x40080014, 0x40080010, 0x40000004, 0x40000008]⟩ s t := (State.setWindow_only ..).up
    clear_value t base fault
    split
    · exact (State.updateNo_only ..).seq ((State.setN_only ..).seq ht)
    · exact (State.updateOk_only ..).seq ((State.raise_only ..).seq ((State.setN_only ..).seq
        ((State.setN_only ..).seq ((State.setN_only ..).seq ht))))

theorem State.updateAbort_only (s_a) : Only ⟨[], [Obj.updateState, Obj.updateResult], [0x40080010, 0x40080014]⟩ s_a (State.updateAbort s_a).2 := by
  unfold State.updateAbort
  extract_lets +onlyGivenNames x1
  split
  · refine Only.seq (State.updateOk_only ..) ?_ (by decide)
    refine Only.seq (State.setN_only ..) ?_ (by decide)
    refine Only.seq (State.setWindow_only ..) ?_ (by decide)
    exact Only.refl _ _
  · refine Only.seq (State.updateNo_only ..) ?_ (by decide)
    exact Only.refl _ _

theorem State.updateActivate_only (s_a) : Only ⟨[.out, .pinned, .ev, .update, .flashJournal, .diskJournal], [Obj.updateResult, Obj.eventCount, Obj.eventLastAt, Obj.eventLastSubject], [0x40000004, 0x40000008]⟩ s_a (State.updateActivate s_a).2 := by
  unfold State.updateActivate
  split
  · refine Only.seq (State.updateRefuse_only ..) ?_ (by decide)
    exact Only.refl _ _
  · extract_lets +onlyGivenNames x1
    subst x1
    extract_lets +onlyGivenNames x2
    extract_lets +onlyGivenNames x3
    extract_lets +onlyGivenNames x4
    extract_lets +onlyGivenNames x5
    extract_lets +onlyGivenNames x6
    have hx6 : Only ⟨[.out, .pinned, .ev, .update, .flashJournal, .diskJournal], [Obj.updateResult, Obj.eventCount, Obj.eventLastAt, Obj.eventLastSubject], [0x40000004, 0x40000008]⟩ s_a x6 := by
      subst x6
      refine Only.seq (Only.upd (r := ⟨[.update], [], []⟩) (s := s_a) (fun p => by cases p <;> first | exact .inr rfl | exact .inl (by decide))) ?_ (by decide)
      exact Only.refl _ _
    clear_value x6
    refine Only.seq (State.updateOk_only ..) ?_ (by decide)
    exact hx6

theorem State.confirm_only (s_a) : Only ⟨[.out, .pinned, .ev, .update, .rollback, .flashJournal, .diskJournal], [Obj.storeHeldSlot, Obj.updateState, Obj.eventCount, Obj.eventLastAt, Obj.eventLastSubject], [0x40000004, 0x40000008]⟩ s_a (State.confirm s_a) := by
  unfold State.confirm
  split
  · refine Only.ite ?_ ?_
    · exact Only.refl _ _
    · extract_lets +onlyGivenNames x1
      extract_lets +onlyGivenNames x2
      extract_lets +onlyGivenNames x3
      extract_lets +onlyGivenNames x4
      have hx4 : Only ⟨[.out, .pinned, .ev, .update, .rollback, .flashJournal, .diskJournal], [Obj.storeHeldSlot, Obj.updateState, Obj.eventCount, Obj.eventLastAt, Obj.eventLastSubject], [0x40000004, 0x40000008]⟩ s_a x4 := by
        subst x4
        refine Only.seq (Only.upd (r := ⟨[.update, .rollback], [], []⟩) (s := s_a) (fun p => by cases p <;> first | exact .inr rfl | exact .inl (by decide))) ?_ (by decide)
        exact Only.refl _ _
      clear_value x4
      refine Only.seq (State.raise_only ..) ?_ (by decide)
      refine Only.seq (State.setN_only ..) ?_ (by decide)
      refine Only.seq (State.setN_only ..) ?_ (by decide)
      exact hx4
  · exact Only.refl _ _

theorem State.trialRestart_only (s_a) : Only ⟨List.append [.out, .tc, .objs, .pinned, .regs, .mem, .boot, .ev, .ctlUp, .sessions, .challenges, .lockouts, .roleKeys, .salvos, .frameWrites, .restartWrites] (List.append [.engine, .tw, .st, .update, .osf, .gate, .ctl, .colLast, .scr, .mon, .sdiRx, .sdiTx, .ridge, .cq, .media, .ws] ([.au, .tarn, .sad, .mor, .diskJournal])), [], []⟩ s_a (State.trialRestart s_a) := by
  unfold State.trialRestart
  extract_lets +onlyGivenNames x1
  extract_lets +onlyGivenNames x2
  extract_lets +onlyGivenNames x3
  extract_lets +onlyGivenNames x4
  have hx4 : Only ⟨List.append [.out, .tc, .objs, .pinned, .regs, .mem, .boot, .ev, .ctlUp, .sessions, .challenges, .lockouts, .roleKeys, .salvos, .frameWrites, .restartWrites] (List.append [.engine, .tw, .st, .update, .osf, .gate, .ctl, .colLast, .scr, .mon, .sdiRx, .sdiTx, .ridge, .cq, .media, .ws] ([.au, .tarn, .sad, .mor, .diskJournal])), [], []⟩ s_a x4 := by
    subst x4
    refine Only.seq (Only.upd (r := ⟨[.update], [], []⟩) (s := s_a) (fun p => by cases p <;> first | exact .inr rfl | exact .inl (by decide))) ?_ (by decide)
    exact Only.refl _ _
  clear_value x4
  refine Only.seq (State.hardRestart_only ..) ?_ (by decide)
  exact hx4

theorem execUpdateNotConfirmed_only (dt_a s_a) : OnlyR ⟨List.append [.out, .now, .tc, .objs, .pinned, .regs, .mem, .boot, .ev, .ctlUp, .sessions, .challenges, .lockouts, .roleKeys, .salvos, .frameWrites] (List.append [.restartWrites, .engine, .tw, .st, .update, .flashJournal, .osf, .gate, .ctl, .colLast, .scr, .mon, .sdiRx, .sdiTx, .ridge, .cq] ([.media, .ws, .au, .tarn, .sad, .mor, .diskJournal])), [], []⟩ s_a (execUpdateNotConfirmed dt_a s_a) := by
  unfold execUpdateNotConfirmed
  refine actIf_only (hk3 := fun u1 => ?_) (l := (by decide)) ..
  refine Only.ite ?_ ?_
  · refine Only.seq (State.trialRestart_only ..) ?_ (by decide)
    exact Only.refl _ _
  · extract_lets +onlyGivenNames x2
    extract_lets +onlyGivenNames x3
    extract_lets +onlyGivenNames x4
    extract_lets +onlyGivenNames x5
    have hx5 : Only ⟨List.append [.out, .now, .tc, .objs, .pinned, .regs, .mem, .boot, .ev, .ctlUp, .sessions, .challenges, .lockouts, .roleKeys, .salvos, .frameWrites] (List.append [.restartWrites, .engine, .tw, .st, .update, .flashJournal, .osf, .gate, .ctl, .colLast, .scr, .mon, .sdiRx, .sdiTx, .ridge, .cq] ([.media, .ws, .au, .tarn, .sad, .mor, .diskJournal])), [], []⟩ u1 x5 := by
      subst x5
      refine Only.seq (Only.upd (r := ⟨[.update], [], []⟩) (s := u1) (fun p => by cases p <;> first | exact .inr rfl | exact .inl (by decide))) ?_ (by decide)
      exact Only.refl _ _
    clear_value x5
    refine Only.seq (State.raise_only ..) ?_ (by decide)
    refine Only.seq (State.setN_only ..) ?_ (by decide)
    exact hx5

end Sys2Proof.Machine
end

