-- ==== Sys2Proof/Laws/OnlyUpland.lean ====
section
/-!
SUPPORT. What the functions of Machine/Upland.lean may change (`Only` of Laws/Only.lean).
-/
namespace Sys2Proof.Machine
set_option Elab.async false

theorem State.stopScree_only (s_a) : Only ⟨[.scr], [], [0x40010000, 0x40010004]⟩ s_a (State.stopScree s_a) := by
  unfold State.stopScree
  extract_lets +onlyGivenNames x1
  have hx1 : Only ⟨[.scr], [], [0x40010000, 0x40010004]⟩ s_a x1 := by
    subst x1
    refine Only.seq (Only.upd (r := ⟨[.scr], [], []⟩) (s := s_a) (fun p => by cases p <;> first | exact .inr rfl | exact .inl (by decide))) ?_ (by decide)
    exact Only.refl _ _
  clear_value x1
  refine Only.seq (State.setRegBit_only ..) ?_ (by decide)
  refine Only.seq (State.setRegBit_only ..) ?_ (by decide)
  exact hx1

theorem State.uplandRestart_only (s_a cause_a pc_a addr_a) : Only ⟨List.append [.out, .tc, .objs, .pinned, .regs, .mem, .boot, .ev, .ctlUp, .sessions, .challenges, .lockouts, .roleKeys, .salvos, .frameWrites, .restartWrites] (List.append [.engine, .tw, .st, .update, .flashJournal, .osf, .gate, .ctl, .colLast, .scr, .mon, .sdiRx, .sdiTx, .ridge, .cq, .media] ([.ws, .au, .tarn, .sad, .mor, .diskJournal])), [], []⟩ s_a (State.uplandRestart s_a cause_a pc_a addr_a) := by
  unfold State.uplandRestart
  extract_lets +onlyGivenNames x1
  have hx1 : Only ⟨List.append [.out, .tc, .objs, .pinned, .regs, .mem, .boot, .ev, .ctlUp, .sessions, .challenges, .lockouts, .roleKeys, .salvos, .frameWrites, .restartWrites] (List.append [.engine, .tw, .st, .update, .flashJournal, .osf, .gate, .ctl, .colLast, .scr, .mon, .sdiRx, .sdiTx, .ridge, .cq, .media] ([.ws, .au, .tarn, .sad, .mor, .diskJournal])), [], []⟩ s_a x1 := by
    subst x1
    refine Only.seq (State.ctlStop_only ..) ?_ (by decide)
    refine Only.seq (State.stopScree_only ..) ?_ (by decide)
    exact Only.refl _ _
  clear_value x1
  extract_lets +onlyGivenNames x2
  have hx2 : Only ⟨List.append [.out, .tc, .objs, .pinned, .regs, .mem, .boot, .ev, .ctlUp, .sessions, .challenges, .lockouts, .roleKeys, .salvos, .frameWrites, .restartWrites] (List.append [.engine, .tw, .st, .update, .flashJournal, .osf, .gate, .ctl, .colLast, .scr, .mon, .sdiRx, .sdiTx, .ridge, .cq, .media] ([.ws, .au, .tarn, .sad, .mor, .diskJournal])), [], []⟩ s_a x2 := by
    subst x2
    refine Only.seq (State.endSessions_only ..) ?_ (by decide)
    exact hx1
  clear_value x2
  extract_lets +onlyGivenNames x3
  have hx3 : Only ⟨List.append [.out, .tc, .objs, .pinned, .regs, .mem, .boot, .ev, .ctlUp, .sessions, .challenges, .lockouts, .roleKeys, .salvos, .frameWrites, .restartWrites] (List.append [.engine, .tw, .st, .update, .flashJournal, .osf, .gate, .ctl, .colLast, .scr, .mon, .sdiRx, .sdiTx, .ridge, .cq, .media] ([.ws, .au, .tarn, .sad, .mor, .diskJournal])), [], []⟩ s_a x3 := by
    subst x3
    refine Only.seq (State.setRegN_only ..) ?_ (by decide)
    refine Only.seq (State.setRegN_only ..) ?_ (by decide)
    exact hx2
  clear_value x3
  extract_lets +onlyGivenNames x4
  have hx4 : Only ⟨List.append [.out, .tc, .objs, .pinned, .regs, .mem, .boot, .ev, .ctlUp, .sessions, .challenges, .lockouts, .roleKeys, .salvos, .frameWrites, .restartWrites] (List.append [.engine, .tw, .st, .update, .flashJournal, .osf, .gate, .ctl, .colLast, .scr, .mon, .sdiRx, .sdiTx, .ridge, .cq, .media] ([.ws, .au, .tarn, .sad, .mor, .diskJournal])), [], []⟩ s_a x4 := by
    subst x4
    refine Only.seq (State.setRegN_only ..) ?_ (by decide)
    exact hx3
  clear_value x4
  extract_lets +onlyGivenNames x5
  have hx5 : Only ⟨List.append [.out, .tc, .objs, .pinned, .regs, .mem, .boot, .ev, .ctlUp, .sessions, .challenges, .lockouts, .roleKeys, .salvos, .frameWrites, .restartWrites] (List.append [.engine, .tw, .st, .update, .flashJournal, .osf, .gate, .ctl, .colLast, .scr, .mon, .sdiRx, .sdiTx, .ridge, .cq, .media] ([.ws, .au, .tarn, .sad, .mor, .diskJournal])), [], []⟩ s_a x5 := by
    subst x5
    refine Only.seq (State.raise_only ..) ?_ (by decide)
    refine Only.seq (State.bumpReg_only ..) ?_ (by decide)
    exact hx4
  clear_value x5
  extract_lets +onlyGivenNames x6
  extract_lets +onlyGivenNames x7
  extract_lets +onlyGivenNames x8
  extract_lets +onlyGivenNames x9
  have hx9 : Only ⟨List.append [.out, .tc, .objs, .pinned, .regs, .mem, .boot, .ev, .ctlUp, .sessions, .challenges, .lockouts, .roleKeys, .salvos, .frameWrites, .restartWrites] (List.append [.engine, .tw, .st, .update, .flashJournal, .osf, .gate, .ctl, .colLast, .scr, .mon, .sdiRx, .sdiTx, .ridge, .cq, .media] ([.ws, .au, .tarn, .sad, .mor, .diskJournal])), [], []⟩ s_a x9 := by
    subst x9
    refine Only.seq (Only.upd (r := ⟨[.boot, .ctlUp, .challenges, .gate], [], []⟩) (s := x5) (fun p => by cases p <;> first | exact .inr rfl | exact .inl (by decide))) ?_ (by decide)
    exact hx5
  clear_value x9
  refine Only.ite ?_ ?_
  · refine Only.seq (State.trialRestart_only ..) ?_ (by decide)
    exact hx9
  · refine Only.ite ?_ ?_
    · refine Only.seq (State.hardRestart_only ..) ?_ (by decide)
      exact hx9
    · exact hx9

theorem execUplandFault_only (dt_a cause_a pc_a addr_a s_a) : OnlyR ⟨List.append [.out, .now, .tc, .objs, .pinned, .regs, .mem, .boot, .ev, .ctlUp, .sessions, .challenges, .lockouts, .roleKeys, .salvos, .frameWrites] (List.append [.restartWrites, .engine, .tw, .st, .update, .flashJournal, .osf, .gate, .ctl, .colLast, .scr, .mon, .sdiRx, .sdiTx, .ridge, .cq] ([.media, .ws, .au, .tarn, .sad, .mor, .diskJournal])), [], []⟩ s_a (execUplandFault dt_a cause_a pc_a addr_a s_a) := by
  unfold execUplandFault
  refine actIf_only (hk3 := fun u1 => ?_) (l := (by decide)) ..
  refine Only.seq (State.uplandRestart_only ..) ?_ (by decide)
  exact Only.refl _ _

theorem execUplandHeartbeatLate_only (dt_a s_a) : OnlyR ⟨[.out, .now, .tc, .pinned, .boot, .ev, .flashJournal, .diskJournal], [Obj.eventCount, Obj.eventLastAt, Obj.eventLastSubject], [0x40000004, 0x40000008]⟩ s_a (execUplandHeartbeatLate dt_a s_a) := by
  unfold execUplandHeartbeatLate
  refine actIf_only (hk3 := fun u1 => ?_) (l := (by decide)) ..
  refine Only.seq (State.raise_only ..) ?_ (by decide)
  refine Only.seq (Only.upd (r := ⟨[.boot], [], []⟩) (s := u1) (fun p => by cases p <;> first | exact .inr rfl | exact .inl (by decide))) ?_ (by decide)
  exact Only.refl _ _

theorem execHeartbeatTimeout_only (dt_a s_a) : OnlyR ⟨List.append [.out, .now, .tc, .objs, .pinned, .regs, .mem, .boot, .ev, .ctlUp, .sessions, .challenges, .lockouts, .roleKeys, .salvos, .frameWrites] (List.append [.restartWrites, .engine, .tw, .st, .update, .flashJournal, .osf, .gate, .ctl, .colLast, .scr, .mon, .sdiRx, .sdiTx, .ridge, .cq] ([.media, .ws, .au, .tarn, .sad, .mor, .diskJournal])), [], []⟩ s_a (execHeartbeatTimeout dt_a s_a) := by
  unfold execHeartbeatTimeout
  refine actIf_only (hk3 := fun u1 => ?_) (l := (by decide)) ..
  refine Only.seq (State.uplandRestart_only ..) ?_ (by decide)
  exact Only.refl _ _

theorem State.heartbeat_only (s_a) : Only ⟨[.out, .pinned, .boot, .ev, .update, .flashJournal, .diskJournal], [Obj.eventCount, Obj.eventLastAt, Obj.eventLastSubject], [0x40000004, 0x40000008]⟩ s_a (State.heartbeat s_a) := by
  unfold State.heartbeat
  refine Only.ite ?_ ?_
  · exact Only.refl _ _
  · extract_lets +onlyGivenNames x1
    extract_lets +onlyGivenNames x2
    extract_lets +onlyGivenNames x3
    have hx3 : Only ⟨[.out, .pinned, .boot, .ev, .update, .flashJournal, .diskJournal], [Obj.eventCount, Obj.eventLastAt, Obj.eventLastSubject], [0x40000004, 0x40000008]⟩ s_a x3 := by
      subst x3
      refine Only.seq (Only.upd (r := ⟨[.boot], [], []⟩) (s := s_a) (fun p => by cases p <;> first | exact .inr rfl | exact .inl (by decide))) ?_ (by decide)
      exact Only.refl _ _
    clear_value x3
    extract_lets +onlyGivenNames x4
    extract_lets +onlyGivenNames x5
    have hx5 : Only ⟨[.out, .pinned, .boot, .ev, .update, .flashJournal, .diskJournal], [Obj.eventCount, Obj.eventLastAt, Obj.eventLastSubject], [0x40000004, 0x40000008]⟩ s_a x5 := by
      subst x5
      refine Only.ite ?_ ?_
      · refine Only.seq (State.raise_only ..) ?_ (by decide)
        refine Only.seq (Only.upd (r := ⟨[.boot], [], []⟩) (s := x3) (fun p => by cases p <;> first | exact .inr rfl | exact .inl (by decide))) ?_ (by decide)
        exact hx3
      · exact hx3
    clear_value x5
    split
    · refine Only.ite ?_ ?_
      · refine Only.seq (State.raise_only ..) ?_ (by decide)
        refine Only.seq (Only.upd (r := ⟨[.update], [], []⟩) (s := x5) (fun p => by cases p <;> first | exact .inr rfl | exact .inl (by decide))) ?_ (by decide)
        exact hx5
      · exact hx5
    · exact hx5

end Sys2Proof.Machine
end

