-- ==== Sys2Proof/Laws/OnlyBus.lean ====
section
/-!
SUPPORT. What the functions of Machine/Bus.lean may change (`Only` of Laws/Only.lean).
-/
namespace Sys2Proof.Machine
set_option Elab.async false

theorem State.colRefuse_only (s_a master_a target_a reason_a a_a write_a) : Only ⟨[.out, .pinned, .ev, .flashJournal, .diskJournal], [Obj.eventCount, Obj.eventLastAt, Obj.eventLastSubject, Obj.colRefused], [0x40020040, 0x40020044, 0x40020048, 0x4002004c, 0x40000004, 0x40000008, 0x40020050]⟩ s_a (State.colRefuse s_a master_a target_a reason_a a_a write_a) := by
  unfold State.colRefuse
  extract_lets +onlyGivenNames x1
  have hx1 : Only ⟨[.out, .pinned, .ev, .flashJournal, .diskJournal], [Obj.eventCount, Obj.eventLastAt, Obj.eventLastSubject, Obj.colRefused], [0x40020040, 0x40020044, 0x40020048, 0x4002004c, 0x40000004, 0x40000008, 0x40020050]⟩ s_a x1 := by
    subst x1
    refine Only.ite ?_ ?_
    · exact Only.refl _ _
    · refine Only.seq (State.setRegN_only ..) ?_ (by decide)
      refine Only.seq (State.setRegN_only ..) ?_ (by decide)
      refine Only.seq (State.setRegN_only ..) ?_ (by decide)
      exact Only.refl _ _
  clear_value x1
  extract_lets +onlyGivenNames x2
  have hx2 : Only ⟨[.out, .pinned, .ev, .flashJournal, .diskJournal], [Obj.eventCount, Obj.eventLastAt, Obj.eventLastSubject, Obj.colRefused], [0x40020040, 0x40020044, 0x40020048, 0x4002004c, 0x40000004, 0x40000008, 0x40020050]⟩ s_a x2 := by
    subst x2
    refine Only.seq (State.setRegBit_only ..) ?_ (by decide)
    refine Only.seq (State.bump_only ..) ?_ (by decide)
    refine Only.seq (State.bumpReg_only ..) ?_ (by decide)
    exact hx1
  clear_value x2
  refine Only.seq (State.raiseLimited_only ..) ?_ (by decide)
  exact hx2

theorem State.cairnRefused_only (s_a target_a reason_a a_a write_a) : Only ⟨List.append [.out, .fresh, .tc, .objs, .pinned, .regs, .mem, .boot, .ev, .ctlUp, .sessions, .challenges, .lockouts, .roleKeys, .salvos, .frameWrites] (List.append [.restartWrites, .engine, .tw, .st, .update, .flashJournal, .osf, .gate, .ctl, .colLast, .scr, .mon, .sdiRx, .sdiTx, .ridge, .cq] ([.media, .ws, .au, .tarn, .sad, .mor, .diskJournal])), [], []⟩ s_a (State.cairnRefused s_a target_a reason_a a_a write_a) := by
  unfold State.cairnRefused
  split
  rename_i v1 t2 e3
  have ht2 := Only.mono (b := ⟨List.append [.out, .fresh, .tc, .objs, .pinned, .regs, .mem, .boot, .ev, .ctlUp, .sessions, .challenges, .lockouts, .roleKeys, .salvos, .frameWrites] (List.append [.restartWrites, .engine, .tw, .st, .update, .flashJournal, .osf, .gate, .ctl, .colLast, .scr, .mon, .sdiRx, .sdiTx, .ridge, .cq] ([.media, .ws, .au, .tarn, .sad, .mor, .diskJournal])), [], []⟩) (Only.snd e3 (State.draw_only ..)) (by decide)
  refine Only.ite ?_ ?_
  · refine Only.seq (State.uplandRestart_only ..) ?_ (by decide)
    refine Only.seq ht2 ?_ (Reach.le_refl _)
    refine Only.seq (State.colRefuse_only ..) ?_ (by decide)
    exact Only.refl _ _
  · refine Only.seq ht2 ?_ (Reach.le_refl _)
    refine Only.seq (State.colRefuse_only ..) ?_ (by decide)
    exact Only.refl _ _

theorem State.apbaseWrite_only (s_a value_a trusted_a) : Only ⟨[.out, .pinned, .ev, .flashJournal, .diskJournal], [Obj.eventCount, Obj.eventLastAt, Obj.eventLastSubject], [0x40020030, 0x40020034, 0x40020050, 0x40000004, 0x40000008]⟩ s_a (State.apbaseWrite s_a value_a trusted_a) := by
  unfold State.apbaseWrite
  extract_lets +onlyGivenNames x1
  refine Only.ite ?_ ?_
  · refine Only.seq (State.setRegN_only ..) ?_ (by decide)
    exact Only.refl _ _
  · refine Only.seq (State.raise_only ..) ?_ (by decide)
    refine Only.seq (State.setRegBit_only ..) ?_ (by decide)
    refine Only.seq (State.setRegBit_only ..) ?_ (by decide)
    exact Only.refl _ _

theorem execColApertureRefused_only (dt_a value_a trusted_a s_a) : OnlyR ⟨[.out, .now, .tc, .pinned, .ev, .flashJournal, .diskJournal], [Obj.eventCount, Obj.eventLastAt, Obj.eventLastSubject], [0x40020030, 0x40020034, 0x40020050, 0x40000004, 0x40000008]⟩ s_a (execColApertureRefused dt_a value_a trusted_a s_a) := by
  unfold execColApertureRefused
  refine act_only (hk2 := fun u1 => ?_) (l := (by decide)) ..
  refine Only.seq (State.apbaseWrite_only ..) ?_ (by decide)
  exact Only.refl _ _

theorem execColFence_only (dt_a _value_a s_a) : OnlyR ⟨[.out, .now, .tc], [], []⟩ s_a (execColFence dt_a _value_a s_a) := by
  unfold execColFence
  refine act_only (hk2 := fun u1 => ?_) (l := (by decide)) ..
  exact Only.refl _ _

theorem State.timerCtrl_only (s_a value_a) : Only ⟨[.regs, .gate], [], []⟩ s_a (State.timerCtrl s_a value_a) := by
  unfold State.timerCtrl
  refine Only.foldl (fun u1 x2 => ?_) ?_
  · extract_lets +onlyGivenNames x3
    extract_lets +onlyGivenNames x4
    refine Only.ite ?_ ?_
    · refine Only.seq (Only.upd (r := ⟨[.gate], [], []⟩) (s := u1) (fun p => by cases p <;> first | exact .inr rfl | exact .inl (by decide))) ?_ (by decide)
      exact Only.refl _ _
    · refine Only.ite ?_ ?_
      · split
        · refine Only.seq (State.setRegN_only ..) ?_ (by simp [Reach.le])
          refine Only.seq (Only.upd (r := ⟨[.gate], [], []⟩) (s := u1) (fun p => by cases p <;> first | exact .inr rfl | exact .inl (by decide))) ?_ (by decide)
          exact Only.refl _ _
        · exact Only.refl _ _
      · exact Only.refl _ _
  · refine Only.seq (State.busWrite_only ..) ?_ (by decide)
    exact Only.refl _ _

theorem execTmwTimerExpiry_only (dt_a timer_a s_a) : OnlyR ⟨[.out, .now, .tc, .regs, .gate], [], []⟩ s_a (execTmwTimerExpiry dt_a timer_a s_a) := by
  unfold execTmwTimerExpiry
  refine actIf_only (hk3 := fun u1 => ?_) (l := (by decide)) ..
  extract_lets +onlyGivenNames x2
  have hx2 : Only ⟨[.out, .now, .tc, .regs, .gate], [], []⟩ u1 x2 := by
    subst x2
    refine Only.seq (State.setRegBit_only ..) ?_ (by decide)
    exact Only.refl _ _
  clear_value x2
  extract_lets +onlyGivenNames x3
  refine Only.ite ?_ ?_
  · refine Only.seq (Only.upd (r := ⟨[.gate], [], []⟩) (s := x2) (fun p => by cases p <;> first | exact .inr rfl | exact .inl (by decide))) ?_ (by decide)
    exact hx2
  · refine Only.seq (State.setRegN_only ..) ?_ (by simp [Reach.le])
    refine Only.seq (Only.upd (r := ⟨[.gate], [], []⟩) (s := x2) (fun p => by cases p <;> first | exact .inr rfl | exact .inl (by decide))) ?_ (by decide)
    exact hx2

theorem State.alarmArm_only (s_a value_a) : Only ⟨[], [], [0x40060070, 0x40060058]⟩ s_a (State.alarmArm s_a value_a) := by
  unfold State.alarmArm
  refine Only.ite ?_ ?_
  · refine Only.seq (State.setRegBit_only ..) ?_ (by decide)
    refine Only.seq (State.setRegBit_only ..) ?_ (by decide)
    refine Only.seq (State.setRegBit_only ..) ?_ (by decide)
    exact Only.refl _ _
  · refine Only.seq (State.setRegBit_only ..) ?_ (by decide)
    exact Only.refl _ _

theorem execTmwAlarmArm_only (dt_a value_a s_a) : OnlyR ⟨[.out, .now, .tc], [], [0x40060070, 0x40060058]⟩ s_a (execTmwAlarmArm dt_a value_a s_a) := by
  unfold execTmwAlarmArm
  refine act_only (hk2 := fun u1 => ?_) (l := (by decide)) ..
  refine Only.seq (State.alarmArm_only ..) ?_ (by decide)
  exact Only.refl _ _

theorem execTmwAlarmFire_only (dt_a s_a) : OnlyR ⟨[.out, .now, .tc], [], [0x40060070, 0x40060058]⟩ s_a (execTmwAlarmFire dt_a s_a) := by
  unfold execTmwAlarmFire
  refine actIf_only (hk3 := fun u1 => ?_) (l := (by decide)) ..
  refine Only.seq (State.setRegBit_only ..) ?_ (by decide)
  refine Only.seq (State.setRegBit_only ..) ?_ (by decide)
  exact Only.refl _ _

theorem State.ptpLatch_only (s_a) : Only ⟨[.gate], [], [0x40060060, 0x40060064, 0x40060068]⟩ s_a (State.ptpLatch s_a).2 := by
  unfold State.ptpLatch
  extract_lets +onlyGivenNames x1
  extract_lets +onlyGivenNames x2
  extract_lets +onlyGivenNames x3
  extract_lets +onlyGivenNames x4
  have hx4 : Only ⟨[.gate], [], [0x40060060, 0x40060064, 0x40060068]⟩ s_a x4 := by
    subst x4
    refine Only.seq (Only.upd (r := ⟨[.gate], [], []⟩) (s := s_a) (fun p => by cases p <;> first | exact .inr rfl | exact .inl (by decide))) ?_ (by decide)
    exact Only.refl _ _
  clear_value x4
  refine Only.mk2 ?_
  refine Only.seq (State.setRegN_only ..) ?_ (by decide)
  refine Only.seq (State.setRegN_only ..) ?_ (by decide)
  refine Only.seq (State.setRegN_only ..) ?_ (by decide)
  exact hx4

theorem execTmwPtpLatch_only (dt_a s_a) : OnlyR ⟨[.out, .now, .tc, .gate], [], [0x40060060, 0x40060064, 0x40060068]⟩ s_a (execTmwPtpLatch dt_a s_a) := by
  unfold execTmwPtpLatch
  refine act_only (hk2 := fun u1 => ?_) (l := (by decide)) ..
  extract_lets +onlyGivenNames x2
  have hx2 : Only ⟨[.out, .now, .tc, .gate], [], [0x40060060, 0x40060064, 0x40060068]⟩ u1 x2.2 := by
    subst x2
    refine Only.seq (State.ptpLatch_only ..) ?_ (by decide)
    exact Only.refl _ _
  clear_value x2
  refine Only.seq (State.emit_only ..) ?_ (by decide)
  exact hx2

theorem State.wdtKick_only (s_a trusted_a) : Only ⟨[.boot], [], []⟩ s_a (State.wdtKick s_a trusted_a) := by
  unfold State.wdtKick
  refine Only.ite ?_ ?_
  · refine Only.seq (Only.upd (r := ⟨[.boot], [], []⟩) (s := s_a) (fun p => by cases p <;> first | exact .inr rfl | exact .inl (by decide))) ?_ (by decide)
    exact Only.refl _ _
  · exact Only.refl _ _

theorem execWdtKick_only (dt_a trusted_a _key_a s_a) : OnlyR ⟨[.out, .now, .tc, .boot], [], []⟩ s_a (execWdtKick dt_a trusted_a _key_a s_a) := by
  unfold execWdtKick
  refine act_only (hk2 := fun u1 => ?_) (l := (by decide)) ..
  refine Only.seq (State.wdtKick_only ..) ?_ (by decide)
  exact Only.refl _ _

theorem State.flashRead_only (s_a a_a n_a) : Only ⟨[.fresh], [], []⟩ s_a (State.flashRead s_a a_a n_a).2 := by
  unfold State.flashRead
  split
  · refine Only.mk2 ?_
    exact Only.refl _ _
  · refine Only.seq (State.drawBytes_only ..) ?_ (by decide)
    exact Only.refl _ _

theorem State.osfGo_only (s_a op_a) : Only ⟨[.osf], [], [0x4008000c, 0x40080000]⟩ s_a (State.osfGo s_a op_a) := by
  unfold State.osfGo
  extract_lets +onlyGivenNames x1
  extract_lets +onlyGivenNames x2
  extract_lets +onlyGivenNames x3
  refine Only.ite ?_ ?_
  · exact Only.refl _ _
  · refine Only.ite ?_ ?_
    · refine Only.seq (State.setRegBit_only ..) ?_ (by decide)
      refine Only.seq (State.setRegBit_only ..) ?_ (by decide)
      refine Only.seq (Only.upd (r := ⟨[.osf], [], []⟩) (s := s_a) (fun p => by cases p <;> first | exact .inr rfl | exact .inl (by decide))) ?_ (by decide)
      exact Only.refl _ _
    · refine Only.seq (State.setRegBit_only ..) ?_ (by decide)
      exact Only.refl _ _

theorem State.osfCmd_only (s_a value_a) : Only ⟨[.osf], [], [0x40080000, 0x4008000c]⟩ s_a (State.osfCmd s_a value_a) := by
  unfold State.osfCmd
  extract_lets +onlyGivenNames x1
  have hx1 : Only ⟨[.osf], [], [0x40080000, 0x4008000c]⟩ s_a x1 := by
    subst x1
    refine Only.seq (State.setRegField_only ..) ?_ (by decide)
    exact Only.refl _ _
  clear_value x1
  refine Only.ite ?_ ?_
  · refine Only.seq (State.osfGo_only ..) ?_ (by decide)
    exact hx1
  · exact hx1

theorem State.setOsfBuf_only (s_a b_a) : Only ⟨[.regs], [], []⟩ s_a (State.setOsfBuf s_a b_a) := by
  unfold State.setOsfBuf
  extract_lets +onlyGivenNames x1
  refine Only.foldl (fun u2 x3 => ?_) ?_
  · refine Only.seq (State.setRegN_only ..) ?_ (by simp [Reach.le])
    exact Only.refl _ _
  · exact Only.refl _ _

theorem execOsfRead_only (dt_a s_a) : OnlyR ⟨[.out, .now, .tc, .osf], [], [0x40080000, 0x4008000c]⟩ s_a (execOsfRead dt_a s_a) := by
  unfold execOsfRead
  refine act_only (hk2 := fun u1 => ?_) (l := (by decide)) ..
  refine Only.seq (State.osfCmd_only ..) ?_ (by decide)
  exact Only.refl _ _

theorem execOsfProgram_only (dt_a s_a) : OnlyR ⟨[.out, .now, .tc, .osf], [], [0x40080000, 0x4008000c]⟩ s_a (execOsfProgram dt_a s_a) := by
  unfold execOsfProgram
  refine act_only (hk2 := fun u1 => ?_) (l := (by decide)) ..
  refine Only.seq (State.osfCmd_only ..) ?_ (by decide)
  exact Only.refl _ _

theorem execOsfErase4k_only (dt_a s_a) : OnlyR ⟨[.out, .now, .tc, .osf], [], [0x40080000, 0x4008000c]⟩ s_a (execOsfErase4k dt_a s_a) := by
  unfold execOsfErase4k
  refine act_only (hk2 := fun u1 => ?_) (l := (by decide)) ..
  refine Only.seq (State.osfCmd_only ..) ?_ (by decide)
  exact Only.refl _ _

theorem execOsfErase64k_only (dt_a s_a) : OnlyR ⟨[.out, .now, .tc, .osf], [], [0x40080000, 0x4008000c]⟩ s_a (execOsfErase64k dt_a s_a) := by
  unfold execOsfErase64k
  refine act_only (hk2 := fun u1 => ?_) (l := (by decide)) ..
  refine Only.seq (State.osfCmd_only ..) ?_ (by decide)
  exact Only.refl _ _

theorem execOsfDone_only (dt_a verifyError_a s_a) : OnlyR ⟨[.out, .fresh, .now, .tc, .regs, .flash, .osf], [], []⟩ s_a (execOsfDone dt_a verifyError_a s_a) := by
  unfold execOsfDone
  refine act_only (hk2 := fun u1 => ?_) (l := (by decide)) ..
  split
  · exact Only.refl _ _
  · extract_lets +onlyGivenNames x2
    have hx2 : Only ⟨[.out, .fresh, .now, .tc, .regs, .flash, .osf], [], []⟩ u1 x2.2 := by
      subst x2
      refine Only.seq (State.flashRead_only ..) ?_ (by decide)
      exact Only.refl _ _
    clear_value x2
    extract_lets +onlyGivenNames x3
    extract_lets +onlyGivenNames x4
    have hx4 : Only ⟨[.out, .fresh, .now, .tc, .regs, .flash, .osf], [], []⟩ u1 x4.2 := by
      subst x4
      split
      · refine Only.seq (State.drawBytes_only ..) ?_ (by decide)
        exact Only.refl _ _
      · refine Only.mk2 ?_
        exact Only.refl _ _
    clear_value x4
    extract_lets +onlyGivenNames x5
    have hx5 : Only ⟨[.out, .fresh, .now, .tc, .regs, .flash, .osf], [], []⟩ u1 x5 := by
      subst x5
      refine Only.seq (State.program_only ..) ?_ (by decide)
      exact hx4
    clear_value x5
    extract_lets +onlyGivenNames x6
    have hx6 : Only ⟨[.out, .fresh, .now, .tc, .regs, .flash, .osf], [], []⟩ u1 x6 := by
      subst x6
      split
      · refine Only.seq (State.setOsfBuf_only ..) ?_ (by decide)
        exact hx2
      · refine Only.ite ?_ ?_
        · refine Only.seq (State.setRegBit_only ..) ?_ (by decide)
          exact hx5
        · exact hx5
      · refine Only.seq (State.erase_only ..) ?_ (by decide)
        exact Only.refl _ _
    clear_value x6
    refine Only.seq (State.setRegBit_only ..) ?_ (by decide)
    refine Only.seq (State.setRegBit_only ..) ?_ (by decide)
    refine Only.seq (State.setRegBit_only ..) ?_ (by decide)
    refine Only.seq (Only.upd (r := ⟨[.osf], [], []⟩) (s := x6) (fun p => by cases p <;> first | exact .inr rfl | exact .inl (by decide))) ?_ (by decide)
    exact hx6

theorem State.busRead_only (s_a addr_a) : Only ⟨[.out, .pinned, .regs, .ev, .flashJournal, .gate, .tarn, .diskJournal], [Obj.eventCount, Obj.eventLastAt, Obj.eventLastSubject], []⟩ s_a (State.busRead s_a addr_a).2 := by
  unfold State.busRead
  split
  · refine Only.seq (State.ptpLatch_only ..) ?_ (by decide)
    exact Only.refl _ _
  · split
    · refine Only.seq (State.rxfifoPop_only ..) ?_ (by decide)
      exact Only.refl _ _
    · split
      · extract_lets +onlyGivenNames x1
        extract_lets +onlyGivenNames x2
        refine Only.mk2 ?_
        refine Only.seq (State.setRegN_only ..) ?_ (by simp [Reach.le])
        exact Only.refl _ _
      · refine Only.mk2 ?_
        exact Only.refl _ _

theorem State.busReg_only (s_a addr_a value_a trusted_a) : Only ⟨[.out, .pinned, .regs, .boot, .ev, .sessions, .flashJournal, .osf, .gate, .ctl, .tarn, .diskJournal], [Obj.eventCount, Obj.eventLastAt, Obj.eventLastSubject], []⟩ s_a (State.busReg s_a addr_a value_a trusted_a) := by
  unfold State.busReg
  extract_lets +onlyGivenNames x1
  refine Only.ite ?_ ?_
  · exact Only.refl _ _
  · refine Only.ite ?_ ?_
    · exact Only.refl _ _
    · refine Only.ite ?_ ?_
      · extract_lets +onlyGivenNames x2
        split
        · refine Only.seq (State.tarnCtrlWrite_only ..) ?_ (by decide)
          exact Only.refl _ _
        · refine Only.seq (State.tarnMaskWrite_only ..) ?_ (by decide)
          exact Only.refl _ _
        · refine Only.seq (State.tarnMaskWrite_only ..) ?_ (by decide)
          exact Only.refl _ _
        · refine Only.seq (State.clearRegs_only ..) ?_ (by decide)
          exact Only.refl _ _
        · refine Only.seq (State.txfifoPush_only ..) ?_ (by decide)
          exact Only.refl _ _
        · refine Only.seq (State.busWrite_only ..) ?_ (by simp [Reach.le])
          exact Only.refl _ _
      · split
        · refine Only.seq (State.evPop_only ..) ?_ (by decide)
          exact Only.refl _ _
        · refine Only.seq (State.evSwraise_only ..) ?_ (by decide)
          exact Only.refl _ _
        · refine Only.seq (State.clearRegs_only ..) ?_ (by decide)
          exact Only.refl _ _
        · refine Only.seq (State.evPinAck_only ..) ?_ (by decide)
          exact Only.refl _ _
        · exact Only.refl _ _
        · refine Only.seq (State.busWrite_only ..) ?_ (by simp [Reach.le])
          exact Only.refl _ _
        · refine Only.seq (State.busWrite_only ..) ?_ (by simp [Reach.le])
          exact Only.refl _ _
        · refine Only.seq (State.busWrite_only ..) ?_ (by simp [Reach.le])
          exact Only.refl _ _
        · refine Only.seq (State.apbaseWrite_only ..) ?_ (by decide)
          exact Only.refl _ _
        · refine Only.seq (State.clearRegs_only ..) ?_ (by decide)
          exact Only.refl _ _
        · refine Only.seq (State.cmacCtrl_only ..) ?_ (by decide)
          exact Only.refl _ _
        · refine Only.seq (State.cmacCtrl_only ..) ?_ (by decide)
          exact Only.refl _ _
        · refine Only.seq (State.clearRegs_only ..) ?_ (by decide)
          exact Only.refl _ _
        · refine Only.seq (State.clearRegs_only ..) ?_ (by decide)
          exact Only.refl _ _
        · refine Only.seq (State.tarnGoWrite_only ..) ?_ (by decide)
          exact Only.refl _ _
        · refine Only.seq (State.timerCtrl_only ..) ?_ (by decide)
          exact Only.refl _ _
        · refine Only.seq (State.alarmArm_only ..) ?_ (by decide)
          exact Only.refl _ _
        · refine Only.seq (State.wdtKick_only ..) ?_ (by decide)
          exact Only.refl _ _
        · refine Only.seq (State.osfCmd_only ..) ?_ (by decide)
          exact Only.refl _ _
        · refine Only.seq (State.busWrite_only ..) ?_ (by simp [Reach.le])
          exact Only.refl _ _

end Sys2Proof.Machine
end

