-- ==== Sys2Proof/Laws/OnlyScree.lean ====
section
/-!
SUPPORT. What the functions of Machine/Scree.lean may change (`Only` of Laws/Only.lean).
-/
namespace Sys2Proof.Machine
set_option Elab.async false

theorem State.loadRegs_only (s : State) (a k : Nat) : Only ⟨[.out, .pinned, .regs, .ev, .flashJournal, .gate, .tarn, .diskJournal], [Obj.eventCount, Obj.eventLastAt, Obj.eventLastSubject], []⟩ s (s.loadRegs a k).2 := by
  induction k generalizing s a with
  | zero => exact Only.refl _ s
  | succ k ih => exact (ih _ _).seq ((State.busRead_only ..).up)

theorem State.busLoad_only (s_a target_a a_a n_a) : Only ⟨[.out, .fresh, .pinned, .regs, .ev, .flashJournal, .gate, .tarn, .diskJournal], [Obj.eventCount, Obj.eventLastAt, Obj.eventLastSubject], []⟩ s_a (State.busLoad s_a target_a a_a n_a).2 := by
  unfold State.busLoad
  split
  · extract_lets +onlyGivenNames x1
    have hx1 : Only ⟨[.out, .fresh, .pinned, .regs, .ev, .flashJournal, .gate, .tarn, .diskJournal], [Obj.eventCount, Obj.eventLastAt, Obj.eventLastSubject], []⟩ s_a x1.2 := by
      subst x1
      refine Only.seq (State.loadRegs_only ..) ?_ (by decide)
      exact Only.refl _ _
    clear_value x1
    refine Only.mk2 ?_
    exact hx1
  · refine Only.seq (State.flashRead_only ..) ?_ (by decide)
    exact Only.refl _ _
  · refine Only.seq (State.drawBytes_only ..) ?_ (by decide)
    exact Only.refl _ _
  · refine Only.mk2 ?_
    exact Only.refl _ _

theorem State.storeReg_only (s_a a_a v_a trusted_a) : Only ⟨[.out, .pinned, .regs, .boot, .ev, .sessions, .flashJournal, .osf, .gate, .ctl, .tarn, .diskJournal], [Obj.eventCount, Obj.eventLastAt, Obj.eventLastSubject], []⟩ s_a (State.storeReg s_a a_a v_a trusted_a) := by
  unfold State.storeReg
  refine Only.ite ?_ ?_
  · refine Only.seq (State.busWrite_only ..) ?_ (by simp [Reach.le])
    exact Only.refl _ _
  · refine Only.seq (State.busReg_only ..) ?_ (by decide)
    exact Only.refl _ _

theorem State.storeRegs_only (s : State) (a : Nat) (trusted : Bool) (l : List (List Byte)) :
    Only ⟨[.out, .pinned, .regs, .boot, .ev, .sessions, .flashJournal, .osf, .gate, .ctl, .tarn, .diskJournal], [Obj.eventCount, Obj.eventLastAt, Obj.eventLastSubject], []⟩ s (s.storeRegs a trusted l) := by
  induction l generalizing s a with
  | nil => exact Only.refl _ s
  | cons w l ih => exact (ih _ _).seq ((State.storeReg_only ..).up)

theorem State.busStore_only (s_a target_a a_a trusted_a b_a) : Only ⟨[.out, .fresh, .pinned, .regs, .mem, .boot, .ev, .sessions, .flashJournal, .osf, .gate, .ctl, .tarn, .diskJournal], [Obj.eventCount, Obj.eventLastAt, Obj.eventLastSubject], []⟩ s_a (State.busStore s_a target_a a_a trusted_a b_a) := by
  unfold State.busStore
  split
  · extract_lets +onlyGivenNames x1
    have hx1 : Only ⟨[.out, .fresh, .pinned, .regs, .mem, .boot, .ev, .sessions, .flashJournal, .osf, .gate, .ctl, .tarn, .diskJournal], [Obj.eventCount, Obj.eventLastAt, Obj.eventLastSubject], []⟩ s_a x1.2 := by
      subst x1
      refine Only.seq (State.drawBytes_only ..) ?_ (by decide)
      exact Only.refl _ _
    clear_value x1
    extract_lets +onlyGivenNames x2
    extract_lets +onlyGivenNames x3
    have hx3 : Only ⟨[.out, .fresh, .pinned, .regs, .mem, .boot, .ev, .sessions, .flashJournal, .osf, .gate, .ctl, .tarn, .diskJournal], [Obj.eventCount, Obj.eventLastAt, Obj.eventLastSubject], []⟩ s_a x3 := by
      subst x3
      refine Only.ite ?_ ?_
      · exact Only.refl _ _
      · exact hx1
    clear_value x3
    extract_lets +onlyGivenNames x4
    have hx4 : Only ⟨[.out, .fresh, .pinned, .regs, .mem, .boot, .ev, .sessions, .flashJournal, .osf, .gate, .ctl, .tarn, .diskJournal], [Obj.eventCount, Obj.eventLastAt, Obj.eventLastSubject], []⟩ s_a x4.2 := by
      subst x4
      refine Only.seq (State.drawBytes_only ..) ?_ (by decide)
      exact hx3
    clear_value x4
    extract_lets +onlyGivenNames x5
    have hx5 : Only ⟨[.out, .fresh, .pinned, .regs, .mem, .boot, .ev, .sessions, .flashJournal, .osf, .gate, .ctl, .tarn, .diskJournal], [Obj.eventCount, Obj.eventLastAt, Obj.eventLastSubject], []⟩ s_a x5.2 := by
      subst x5
      split
      · refine Only.mk2 ?_
        exact hx3
      · refine Only.mk2 ?_
        exact hx4
    clear_value x5
    refine Only.seq (State.storeRegs_only ..) ?_ (by decide)
    exact hx5
  · exact Only.refl _ _
  · refine Only.seq (State.emit_only ..) ?_ (by decide)
    exact Only.refl _ _
  · refine Only.seq (State.setMem_only ..) ?_ (by decide)
    exact Only.refl _ _

theorem State.scrAdvance_only (s_a n_a) : Only ⟨[.regs], [], []⟩ s_a (State.scrAdvance s_a n_a) := by
  unfold State.scrAdvance
  refine Only.seq (State.setRegN_only ..) ?_ (by simp [Reach.le])
  exact Only.refl _ _

theorem State.scrFetch_only {s t : State} {n : Nat} {w : List Nat} (h : s.scrFetch n = .inl (w, t)) : Only ⟨[.out, .fresh, .pinned, .regs, .ev, .flashJournal, .gate, .tarn, .diskJournal], [Obj.eventCount, Obj.eventLastAt, Obj.eventLastSubject], []⟩ s t := by
  unfold State.scrFetch at h
  split at h
  · cases h
  · cases h; exact (State.busLoad_only ..).up

theorem State.scrWord_only (s_a n_a k_a v_a) : Only ⟨[.out, .fresh, .pinned, .regs, .mem, .boot, .ev, .sessions, .flashJournal, .osf, .gate, .ctl, .tarn, .diskJournal], [Obj.eventCount, Obj.eventLastAt, Obj.eventLastSubject], []⟩ s_a (State.scrWord s_a n_a k_a v_a) := by
  unfold State.scrWord
  extract_lets +onlyGivenNames x1
  split
  · refine Only.seq (State.busStore_only ..) ?_ (by decide)
    exact Only.refl _ _
  · exact Only.refl _ _

theorem State.scrWrite_only (s_a n_a bytes_a code_a done_a) : Only ⟨[.out, .fresh, .pinned, .regs, .mem, .boot, .ev, .sessions, .flashJournal, .osf, .gate, .ctl, .tarn, .diskJournal], [Obj.eventCount, Obj.eventLastAt, Obj.eventLastSubject], []⟩ s_a (State.scrWrite s_a n_a bytes_a code_a done_a) := by
  unfold State.scrWrite
  refine Only.seq (State.scrWord_only ..) ?_ (by decide)
  refine Only.seq (State.scrWord_only ..) ?_ (by decide)
  exact Only.refl _ _

theorem State.scrHalt_only (s_a n_a code_a) : Only ⟨[.out, .pinned, .ev, .flashJournal, .scr, .diskJournal], [Obj.eventCount, Obj.eventLastAt, Obj.eventLastSubject], [0x40010004, 0x40010010, 0x40010024, 0x40000004, 0x40000008]⟩ s_a (State.scrHalt s_a n_a code_a) := by
  unfold State.scrHalt
  extract_lets +onlyGivenNames x1
  extract_lets +onlyGivenNames x2
  have hx2 : Only ⟨[.out, .pinned, .ev, .flashJournal, .scr, .diskJournal], [Obj.eventCount, Obj.eventLastAt, Obj.eventLastSubject], [0x40010004, 0x40010010, 0x40010024, 0x40000004, 0x40000008]⟩ s_a x2 := by
    subst x2
    refine Only.seq (Only.upd (r := ⟨[.scr], [], []⟩) (s := s_a) (fun p => by cases p <;> first | exact .inr rfl | exact .inl (by decide))) ?_ (by decide)
    exact Only.refl _ _
  clear_value x2
  extract_lets +onlyGivenNames x3
  extract_lets +onlyGivenNames x4
  have hx4 : Only ⟨[.out, .pinned, .ev, .flashJournal, .scr, .diskJournal], [Obj.eventCount, Obj.eventLastAt, Obj.eventLastSubject], [0x40010004, 0x40010010, 0x40010024, 0x40000004, 0x40000008]⟩ s_a x4 := by
    subst x4
    refine Only.seq (State.setRegBit_only ..) ?_ (by decide)
    refine Only.seq (State.setRegN_only ..) ?_ (by decide)
    exact hx2
  clear_value x4
  refine Only.seq (State.raise_only ..) ?_ (by decide)
  refine Only.seq (State.bumpReg_only ..) ?_ (by decide)
  exact hx4

theorem State.scrFail_only (s_a code_a) : Only ⟨[.out, .fresh, .pinned, .regs, .mem, .boot, .ev, .sessions, .flashJournal, .osf, .gate, .ctl, .scr, .tarn, .diskJournal], [Obj.eventCount, Obj.eventLastAt, Obj.eventLastSubject], []⟩ s_a (State.scrFail s_a code_a) := by
  unfold State.scrFail
  split
  · exact Only.refl _ _
  · refine Only.seq (State.scrHalt_only ..) ?_ (by decide)
    refine Only.seq (State.scrWrite_only ..) ?_ (by decide)
    exact Only.refl _ _

theorem State.scrOffset_only {s t : State} {w : List Nat} {k o : Nat} (h : s.scrOffset w k = .inl (o, t)) : Only ⟨[.out, .fresh, .pinned, .regs, .ev, .flashJournal, .gate, .tarn, .diskJournal], [Obj.eventCount, Obj.eventLastAt, Obj.eventLastSubject], []⟩ s t := by
  unfold State.scrOffset at h
  extract_lets +onlyGivenNames a at h
  clear_value a
  split at h
  · cases h; exact (State.busLoad_only ..).up
  · cases h

theorem State.loadFixed_only (s : State) (target a k : Nat) : Only ⟨[.out, .fresh, .pinned, .regs, .ev, .flashJournal, .gate, .tarn, .diskJournal], [Obj.eventCount, Obj.eventLastAt, Obj.eventLastSubject], []⟩ s (s.loadFixed target a k).2 := by
  induction k generalizing s with
  | zero => exact Only.refl _ s
  | succ k ih => exact (ih _).seq ((State.busLoad_only ..).up)

theorem State.storeFixed_only (s : State) (target a : Nat) (l : List (List Byte)) : Only ⟨[.out, .fresh, .pinned, .regs, .mem, .boot, .ev, .sessions, .flashJournal, .osf, .gate, .ctl, .tarn, .diskJournal], [Obj.eventCount, Obj.eventLastAt, Obj.eventLastSubject], []⟩ s (s.storeFixed target a l) := by
  induction l generalizing s with
  | nil => exact Only.refl _ s
  | cons w l ih => exact (ih _).seq ((State.busStore_only ..).up)

theorem State.burstData_only (s_a w_a target_a src_a off_a n_a) : Only ⟨[.out, .fresh, .pinned, .regs, .ev, .flashJournal, .gate, .tarn, .diskJournal], [Obj.eventCount, Obj.eventLastAt, Obj.eventLastSubject], []⟩ s_a (State.burstData s_a w_a target_a src_a off_a n_a).2 := by
  unfold State.burstData
  split
  · extract_lets +onlyGivenNames x1
    have hx1 : Only ⟨[.out, .fresh, .pinned, .regs, .ev, .flashJournal, .gate, .tarn, .diskJournal], [Obj.eventCount, Obj.eventLastAt, Obj.eventLastSubject], []⟩ s_a x1.2 := by
      subst x1
      refine Only.seq (State.loadFixed_only ..) ?_ (by decide)
      exact Only.refl _ _
    clear_value x1
    refine Only.mk2 ?_
    exact hx1
  · extract_lets +onlyGivenNames x2
    extract_lets +onlyGivenNames x3
    subst x3
    extract_lets +onlyGivenNames x4
    subst x4
    extract_lets +onlyGivenNames x5
    have hx5 : Only ⟨[.out, .fresh, .pinned, .regs, .ev, .flashJournal, .gate, .tarn, .diskJournal], [Obj.eventCount, Obj.eventLastAt, Obj.eventLastSubject], []⟩ s_a x5.2 := by
      subst x5
      refine Only.seq (State.busLoad_only ..) ?_ (by decide)
      exact Only.refl _ _
    clear_value x5
    refine Only.mk2 ?_
    exact hx5

theorem State.scrBurst_only (s : State) (r : ScrRun) (limit : Nat) : Only ⟨[.out, .fresh, .pinned, .regs, .mem, .boot, .ev, .sessions, .flashJournal, .osf, .gate, .ctl, .scr, .tarn, .diskJournal], [Obj.eventCount, Obj.eventLastAt, Obj.eventLastSubject, Obj.colRefused], []⟩ s (s.scrBurst r limit) := by
  unfold State.scrBurst
  extract_lets +onlyGivenNames w k off idx
  have hidx : ∀ o t, idx = .inl (o, t) → Only ⟨[.out, .fresh, .pinned, .regs, .mem, .boot, .ev, .sessions, .flashJournal, .osf, .gate, .ctl, .scr, .tarn, .diskJournal], [Obj.eventCount, Obj.eventLastAt, Obj.eventLastSubject, Obj.colRefused], []⟩ s t := fun o t h => by
    unfold idx at h
    split at h
    · cases h; exact Only.refl _ s
    · exact (State.scrOffset_only h).up
  clear_value idx
  split
  · exact (State.scrFail_only ..).seq ((State.colRefuse_only ..).up)
  · rename_i o t
    refine Only.seq ?_ (hidx o t rfl) (Reach.le_refl _)
    extract_lets +onlyGivenNames src dst n ra wa
    clear_value src dst n ra wa
    split
    · exact (State.scrFail_only ..).seq ((State.colRefuse_only ..).up)
    · extract_lets +onlyGivenNames d
      have hd : Only ⟨[.out, .fresh, .pinned, .regs, .mem, .boot, .ev, .sessions, .flashJournal, .osf, .gate, .ctl, .scr, .tarn, .diskJournal], [Obj.eventCount, Obj.eventLastAt, Obj.eventLastSubject, Obj.colRefused], []⟩ t d.2 := (State.burstData_only ..).up
      clear_value d
      split
      · exact (State.scrFail_only ..).seq ((State.colRefuse_only ..).seq hd)
      · extract_lets +onlyGivenNames b x
        have hx : Only ⟨[.out, .fresh, .pinned, .regs, .mem, .boot, .ev, .sessions, .flashJournal, .osf, .gate, .ctl, .scr, .tarn, .diskJournal], [Obj.eventCount, Obj.eventLastAt, Obj.eventLastSubject, Obj.colRefused], []⟩ t x := by
          unfold x
          exact Only.ite ((State.storeFixed_only ..).seq hd) ((State.busStore_only ..).seq hd)
        clear_value x
        exact Only.seq (t := x) (Only.upd (r := ⟨[.out, .fresh, .pinned, .regs, .mem, .boot, .ev, .sessions, .flashJournal, .osf, .gate, .ctl, .scr, .tarn, .diskJournal], [Obj.eventCount, Obj.eventLastAt, Obj.eventLastSubject, Obj.colRefused], []⟩) (fun p => by cases p <;> first | exact .inr rfl | exact .inl (by decide))) hx

theorem State.scrBursts_only (s : State) (most k : Nat) : Only ⟨[.out, .fresh, .pinned, .regs, .mem, .boot, .ev, .sessions, .flashJournal, .osf, .gate, .ctl, .scr, .tarn, .diskJournal], [Obj.eventCount, Obj.eventLastAt, Obj.eventLastSubject, Obj.colRefused], []⟩ s (s.scrBursts most k) := by
  induction k generalizing s with
  | zero => exact Only.refl _ s
  | succ k ih =>
    unfold State.scrBursts
    split
    · exact Only.refl _ s
    · exact Only.ite (Only.refl _ s) ((ih _).seq ((State.scrBurst_only ..).up))

theorem State.scrWhole_only (s : State) (most k : Nat) : Only ⟨[.out, .fresh, .pinned, .regs, .mem, .boot, .ev, .sessions, .flashJournal, .osf, .gate, .ctl, .scr, .tarn, .diskJournal], [Obj.eventCount, Obj.eventLastAt, Obj.eventLastSubject, Obj.colRefused], []⟩ s (s.scrWhole most k) := by
  induction k generalizing s with
  | zero => exact Only.refl _ s
  | succ k ih =>
    unfold State.scrWhole
    split
    · exact Only.refl _ s
    · next r _ =>
      extract_lets +onlyGivenNames t
      have ht : Only ⟨[.out, .fresh, .pinned, .regs, .mem, .boot, .ev, .sessions, .flashJournal, .osf, .gate, .ctl, .scr, .tarn, .diskJournal], [Obj.eventCount, Obj.eventLastAt, Obj.eventLastSubject, Obj.colRefused], []⟩ s t := (State.scrBursts_only ..).up
      clear_value t
      split
      · exact ht
      · exact Only.ite ((ih _).seq ht) (Only.refl _ s)

theorem State.scrRest_only (s_a) : Only ⟨[.out, .fresh, .pinned, .regs, .mem, .boot, .ev, .sessions, .flashJournal, .osf, .gate, .ctl, .scr, .tarn, .diskJournal], [Obj.eventCount, Obj.eventLastAt, Obj.eventLastSubject, Obj.colRefused], []⟩ s_a (State.scrRest s_a) := by
  unfold State.scrRest
  split
  · exact Only.refl _ _
  · refine Only.seq (State.scrBursts_only ..) ?_ (by decide)
    exact Only.refl _ _

theorem State.scrComplete_only (s_a lateError_a) : Only ⟨[.out, .fresh, .pinned, .regs, .mem, .boot, .ev, .sessions, .flashJournal, .osf, .gate, .ctl, .scr, .tarn, .diskJournal], [Obj.eventCount, Obj.eventLastAt, Obj.eventLastSubject], []⟩ s_a (State.scrComplete s_a lateError_a) := by
  unfold State.scrComplete
  split
  · exact Only.refl _ _
  · extract_lets +onlyGivenNames x1
    extract_lets +onlyGivenNames x2
    extract_lets +onlyGivenNames x3
    extract_lets +onlyGivenNames x4
    subst x4
    extract_lets +onlyGivenNames x5
    extract_lets +onlyGivenNames x6
    subst x6
    extract_lets +onlyGivenNames x7
    have hx7 : Only ⟨[.out, .fresh, .pinned, .regs, .mem, .boot, .ev, .sessions, .flashJournal, .osf, .gate, .ctl, .scr, .tarn, .diskJournal], [Obj.eventCount, Obj.eventLastAt, Obj.eventLastSubject], []⟩ s_a x7.2 := by
      subst x7
      refine Only.seq (State.drawBytes_only ..) ?_ (by decide)
      exact Only.refl _ _
    clear_value x7
    extract_lets +onlyGivenNames x8
    subst x8
    extract_lets +onlyGivenNames x9
    have hx9 : Only ⟨[.out, .fresh, .pinned, .regs, .mem, .boot, .ev, .sessions, .flashJournal, .osf, .gate, .ctl, .scr, .tarn, .diskJournal], [Obj.eventCount, Obj.eventLastAt, Obj.eventLastSubject], []⟩ s_a x9 := by
      subst x9
      refine Only.ite ?_ ?_
      · exact Only.refl _ _
      · split
        · refine Only.seq (State.busStore_only ..) ?_ (by decide)
          exact hx7
        · exact hx7
    clear_value x9
    extract_lets +onlyGivenNames x10
    have hx10 : Only ⟨[.out, .fresh, .pinned, .regs, .mem, .boot, .ev, .sessions, .flashJournal, .osf, .gate, .ctl, .scr, .tarn, .diskJournal], [Obj.eventCount, Obj.eventLastAt, Obj.eventLastSubject], []⟩ s_a x10 := by
      subst x10
      refine Only.seq (State.scrAdvance_only ..) ?_ (by decide)
      refine Only.seq (State.scrWrite_only ..) ?_ (by decide)
      exact hx9
    clear_value x10
    extract_lets +onlyGivenNames x11
    extract_lets +onlyGivenNames x12
    have hx12 : Only ⟨[.out, .fresh, .pinned, .regs, .mem, .boot, .ev, .sessions, .flashJournal, .osf, .gate, .ctl, .scr, .tarn, .diskJournal], [Obj.eventCount, Obj.eventLastAt, Obj.eventLastSubject], []⟩ s_a x12 := by
      subst x12
      refine Only.seq (Only.upd (r := ⟨[.scr], [], []⟩) (s := x10) (fun p => by cases p <;> first | exact .inr rfl | exact .inl (by decide))) ?_ (by decide)
      exact hx10
    clear_value x12
    extract_lets +onlyGivenNames x13
    have hx13 : Only ⟨[.out, .fresh, .pinned, .regs, .mem, .boot, .ev, .sessions, .flashJournal, .osf, .gate, .ctl, .scr, .tarn, .diskJournal], [Obj.eventCount, Obj.eventLastAt, Obj.eventLastSubject], []⟩ s_a x13 := by
      subst x13
      refine Only.seq (State.bumpReg_only ..) ?_ (by decide)
      refine Only.seq (State.setRegBit_only ..) ?_ (by decide)
      exact hx12
    clear_value x13
    extract_lets +onlyGivenNames x14
    have hx14 : Only ⟨[.out, .fresh, .pinned, .regs, .mem, .boot, .ev, .sessions, .flashJournal, .osf, .gate, .ctl, .scr, .tarn, .diskJournal], [Obj.eventCount, Obj.eventLastAt, Obj.eventLastSubject], []⟩ s_a x14 := by
      subst x14
      refine Only.ite ?_ ?_
      · refine Only.seq (State.setRegBit_only ..) ?_ (by decide)
        exact hx13
      · exact hx13
    clear_value x14
    refine Only.ite ?_ ?_
    · refine Only.seq (State.scrHalt_only ..) ?_ (by decide)
      exact hx14
    · exact hx14

theorem execScrTailWrite_only (dt_a channel_a value_a s_a) : OnlyR ⟨[.out, .now, .tc, .regs], [], []⟩ s_a (execScrTailWrite dt_a channel_a value_a s_a) := by
  unfold execScrTailWrite
  refine act_only (hk2 := fun u1 => ?_) (l := (by decide)) ..
  refine Only.ite ?_ ?_
  · refine Only.seq (State.busWrite_only ..) ?_ (by simp [Reach.le])
    exact Only.refl _ _
  · exact Only.refl _ _

theorem execScrDescriptorStart_only (dt : Nat) (s : State) : OnlyR ⟨List.append [.out, .fresh, .now, .tc, .pinned, .regs, .mem, .boot, .ev, .sessions, .flashJournal, .osf, .gate, .ctl, .scr, .tarn] ([.diskJournal]), [Obj.eventCount, Obj.eventLastAt, Obj.eventLastSubject, Obj.colRefused], []⟩ s (execScrDescriptorStart dt s) := by
  unfold execScrDescriptorStart
  refine actIf_only (hk3 := fun t => ?_) (l := by decide +kernel) ..
  split
  · exact Only.refl _ t
  · rename_i n _
    extract_lets +onlyGivenNames src x y
    have hx : Only ⟨List.append [.out, .fresh, .now, .tc, .pinned, .regs, .mem, .boot, .ev, .sessions, .flashJournal, .osf, .gate, .ctl, .scr, .tarn] ([.diskJournal]), [Obj.eventCount, Obj.eventLastAt, Obj.eventLastSubject, Obj.colRefused], []⟩ t x := Only.upd (r := ⟨List.append [.out, .fresh, .now, .tc, .pinned, .regs, .mem, .boot, .ev, .sessions, .flashJournal, .osf, .gate, .ctl, .scr, .tarn] ([.diskJournal]), [Obj.eventCount, Obj.eventLastAt, Obj.eventLastSubject, Obj.colRefused], []⟩) (fun p => by cases p <;> first | exact .inr rfl | exact .inl (by decide))
    clear_value x
    have hy : Only ⟨List.append [.out, .fresh, .now, .tc, .pinned, .regs, .mem, .boot, .ev, .sessions, .flashJournal, .osf, .gate, .ctl, .scr, .tarn] ([.diskJournal]), [Obj.eventCount, Obj.eventLastAt, Obj.eventLastSubject, Obj.colRefused], []⟩ t y := (State.setRegN_only ..).seq hx
    clear_value y
    split
    · exact (State.scrHalt_only ..).seq ((State.colRefuse_only ..).seq hy)
    · rename_i w u h
      refine Only.seq ?_ ((State.scrFetch_only h).seq hy) (Reach.le_refl _)
      extract_lets +onlyGivenNames src z
      have hz : Only ⟨List.append [.out, .fresh, .now, .tc, .pinned, .regs, .mem, .boot, .ev, .sessions, .flashJournal, .osf, .gate, .ctl, .scr, .tarn] ([.diskJournal]), [Obj.eventCount, Obj.eventLastAt, Obj.eventLastSubject, Obj.colRefused], []⟩ u z := Only.upd (r := ⟨List.append [.out, .fresh, .now, .tc, .pinned, .regs, .mem, .boot, .ev, .sessions, .flashJournal, .osf, .gate, .ctl, .scr, .tarn] ([.diskJournal]), [Obj.eventCount, Obj.eventLastAt, Obj.eventLastSubject, Obj.colRefused], []⟩) (fun p => by cases p <;> first | exact .inr rfl | exact .inl (by decide))
      clear_value z
      refine Only.ite ((State.scrFail_only ..).seq hz) (Only.ite hz ((State.scrBursts_only ..).seq hz))

theorem execScrPeriphRequest_only (dt_a periph_a asserted_a s_a) : OnlyR ⟨List.append [.out, .fresh, .now, .tc, .pinned, .regs, .mem, .boot, .ev, .sessions, .flashJournal, .osf, .gate, .ctl, .scr, .tarn] ([.diskJournal]), [Obj.eventCount, Obj.eventLastAt, Obj.eventLastSubject, Obj.colRefused], []⟩ s_a (execScrPeriphRequest dt_a periph_a asserted_a s_a) := by
  unfold execScrPeriphRequest
  refine actIf_only (hk3 := fun u1 => ?_) (l := (by decide)) ..
  split
  · exact Only.refl _ _
  · refine Only.ite ?_ ?_
    · exact Only.refl _ _
    · refine Only.ite ?_ ?_
      · refine Only.seq (State.scrBursts_only ..) ?_ (by decide)
        refine Only.seq (Only.upd (r := ⟨[.scr], [], []⟩) (s := u1) (fun p => by cases p <;> first | exact .inr rfl | exact .inl (by decide))) ?_ (by decide)
        exact Only.refl _ _
      · refine Only.ite ?_ ?_
        · exact Only.refl _ _
        · refine Only.seq (Only.upd (r := ⟨[.scr], [], []⟩) (s := u1) (fun p => by cases p <;> first | exact .inr rfl | exact .inl (by decide))) ?_ (by decide)
          exact Only.refl _ _

theorem execScrDescriptorComplete_only (dt_a lateError_a s_a) : OnlyR ⟨List.append [.out, .fresh, .now, .tc, .pinned, .regs, .mem, .boot, .ev, .sessions, .flashJournal, .osf, .gate, .ctl, .scr, .tarn] ([.diskJournal]), [Obj.eventCount, Obj.eventLastAt, Obj.eventLastSubject, Obj.colRefused], []⟩ s_a (execScrDescriptorComplete dt_a lateError_a s_a) := by
  unfold execScrDescriptorComplete
  refine actIf_only (hk3 := fun u1 => ?_) (l := (by decide)) ..
  refine Only.seq (State.scrComplete_only ..) ?_ (by decide)
  refine Only.seq (State.scrRest_only ..) ?_ (by decide)
  exact Only.refl _ _

theorem execScrHalted_only (dt_a code_a bytesDone_a s_a) : OnlyR ⟨List.append [.out, .fresh, .now, .tc, .pinned, .regs, .mem, .boot, .ev, .sessions, .flashJournal, .osf, .gate, .ctl, .scr, .tarn] ([.diskJournal]), [Obj.eventCount, Obj.eventLastAt, Obj.eventLastSubject, Obj.colRefused], []⟩ s_a (execScrHalted dt_a code_a bytesDone_a s_a) := by
  unfold execScrHalted
  refine actIf_only (hk3 := fun u1 => ?_) (l := (by decide)) ..
  split
  · refine Only.ite ?_ ?_
    · extract_lets +onlyGivenNames x2
      have hx2 : Only ⟨List.append [.out, .fresh, .now, .tc, .pinned, .regs, .mem, .boot, .ev, .sessions, .flashJournal, .osf, .gate, .ctl, .scr, .tarn] ([.diskJournal]), [Obj.eventCount, Obj.eventLastAt, Obj.eventLastSubject, Obj.colRefused], []⟩ u1 x2 := by
        subst x2
        refine Only.seq (State.scrBursts_only ..) ?_ (by decide)
        exact Only.refl _ _
      clear_value x2
      refine Only.seq (State.scrFail_only ..) ?_ (by decide)
      refine Only.seq (State.colRefuse_only ..) ?_ (by decide)
      exact hx2
    · refine Only.ite ?_ ?_
      · extract_lets +onlyGivenNames x3
        have hx3 : Only ⟨List.append [.out, .fresh, .now, .tc, .pinned, .regs, .mem, .boot, .ev, .sessions, .flashJournal, .osf, .gate, .ctl, .scr, .tarn] ([.diskJournal]), [Obj.eventCount, Obj.eventLastAt, Obj.eventLastSubject, Obj.colRefused], []⟩ u1 x3 := by
          subst x3
          refine Only.seq (State.scrWhole_only ..) ?_ (by decide)
          exact Only.refl _ _
        clear_value x3
        split
        · extract_lets +onlyGivenNames x4
          subst x4
          refine Only.seq (State.scrFail_only ..) ?_ (by decide)
          refine Only.seq (State.colRefuse_only ..) ?_ (by decide)
          exact hx3
        · exact hx3
      · exact Only.refl _ _
  · refine Only.ite ?_ ?_
    · split
      · refine Only.seq (State.scrHalt_only ..) ?_ (by decide)
        refine Only.seq (State.colRefuse_only ..) ?_ (by decide)
        exact Only.refl _ _
      · exact Only.refl _ _
    · exact Only.refl _ _

theorem execScrStall_only (dt_a s_a) : OnlyR ⟨List.append [.out, .fresh, .now, .tc, .pinned, .regs, .mem, .boot, .ev, .sessions, .flashJournal, .osf, .gate, .ctl, .scr, .tarn] ([.diskJournal]), [Obj.eventCount, Obj.eventLastAt, Obj.eventLastSubject], []⟩ s_a (execScrStall dt_a s_a) := by
  unfold execScrStall
  refine actIf_only (hk3 := fun u1 => ?_) (l := (by decide)) ..
  refine Only.seq (State.scrFail_only ..) ?_ (by decide)
  exact Only.refl _ _

theorem State.scrAbort_only (s_a channel_a bursts_a) : Only ⟨[.out, .fresh, .pinned, .regs, .mem, .boot, .ev, .sessions, .flashJournal, .osf, .gate, .ctl, .scr, .tarn, .diskJournal], [Obj.eventCount, Obj.eventLastAt, Obj.eventLastSubject, Obj.colRefused], []⟩ s_a (State.scrAbort s_a channel_a bursts_a) := by
  unfold State.scrAbort
  extract_lets +onlyGivenNames x1
  subst x1
  extract_lets +onlyGivenNames x2
  subst x2
  split
  · refine Only.ite ?_ ?_
    · dsimp -zeta only
      refine Only.seq (State.setRegN_only ..) ?_ (by simp [Reach.le])
      refine Only.seq (State.setRegN_only ..) ?_ (by decide)
      exact Only.refl _ _
    · extract_lets +onlyGivenNames x3
      have hx3 : Only ⟨[.out, .fresh, .pinned, .regs, .mem, .boot, .ev, .sessions, .flashJournal, .osf, .gate, .ctl, .scr, .tarn, .diskJournal], [Obj.eventCount, Obj.eventLastAt, Obj.eventLastSubject, Obj.colRefused], []⟩ s_a x3 := by
        subst x3
        refine Only.seq (State.scrBursts_only ..) ?_ (by decide)
        exact Only.refl _ _
      clear_value x3
      split
      · dsimp -zeta only
        refine Only.seq (State.setRegN_only ..) ?_ (by decide)
        refine Only.seq (State.setRegN_only ..) ?_ (by simp [Reach.le])
        refine Only.seq (Only.upd (r := ⟨[.scr], [], []⟩) (s := x3) (fun p => by cases p <;> first | exact .inr rfl | exact .inl (by decide))) ?_ (by decide)
        exact hx3
      · refine Only.ite ?_ ?_
        · dsimp -zeta only
          refine Only.seq (State.setRegN_only ..) ?_ (by decide)
          refine Only.seq (State.setRegN_only ..) ?_ (by simp [Reach.le])
          refine Only.seq (State.scrComplete_only ..) ?_ (by decide)
          exact hx3
        · extract_lets +onlyGivenNames x4
          have hx4 : Only ⟨[.out, .fresh, .pinned, .regs, .mem, .boot, .ev, .sessions, .flashJournal, .osf, .gate, .ctl, .scr, .tarn, .diskJournal], [Obj.eventCount, Obj.eventLastAt, Obj.eventLastSubject, Obj.colRefused], []⟩ s_a x4 := by
            subst x4
            refine Only.seq (State.setRegBit_only ..) ?_ (by decide)
            refine Only.seq (State.scrWrite_only ..) ?_ (by decide)
            exact hx3
          clear_value x4
          extract_lets +onlyGivenNames x5
          extract_lets +onlyGivenNames x6
          have hx6 : Only ⟨[.out, .fresh, .pinned, .regs, .mem, .boot, .ev, .sessions, .flashJournal, .osf, .gate, .ctl, .scr, .tarn, .diskJournal], [Obj.eventCount, Obj.eventLastAt, Obj.eventLastSubject, Obj.colRefused], []⟩ s_a x6 := by
            subst x6
            refine Only.seq (Only.upd (r := ⟨[.scr], [], []⟩) (s := x4) (fun p => by cases p <;> first | exact .inr rfl | exact .inl (by decide))) ?_ (by decide)
            exact hx4
          clear_value x6
          dsimp -zeta only
          refine Only.seq (State.setRegN_only ..) ?_ (by decide)
          refine Only.seq (State.setRegN_only ..) ?_ (by simp [Reach.le])
          refine Only.seq (State.setRegBit_only ..) ?_ (by decide)
          exact hx6
  · extract_lets +onlyGivenNames x7
    refine Only.ite ?_ ?_
    · dsimp -zeta only
      refine Only.seq (State.setRegN_only ..) ?_ (by decide)
      refine Only.seq (State.setRegN_only ..) ?_ (by simp [Reach.le])
      refine Only.seq (Only.upd (r := ⟨[.scr], [], []⟩) (s := s_a) (fun p => by cases p <;> first | exact .inr rfl | exact .inl (by decide))) ?_ (by decide)
      exact Only.refl _ _
    · dsimp -zeta only
      refine Only.seq (State.setRegN_only ..) ?_ (by simp [Reach.le])
      refine Only.seq (State.setRegN_only ..) ?_ (by decide)
      exact Only.refl _ _

theorem execScrAbort_only (dt_a channel_a bursts_a s_a) : OnlyR ⟨List.append [.out, .fresh, .now, .tc, .pinned, .regs, .mem, .boot, .ev, .sessions, .flashJournal, .osf, .gate, .ctl, .scr, .tarn] ([.diskJournal]), [Obj.eventCount, Obj.eventLastAt, Obj.eventLastSubject, Obj.colRefused], []⟩ s_a (execScrAbort dt_a channel_a bursts_a s_a) := by
  unfold execScrAbort
  refine actIf_only (hk3 := fun u1 => ?_) (l := (by decide)) ..
  refine Only.seq (State.scrAbort_only ..) ?_ (by decide)
  exact Only.refl _ _

theorem State.scrClear_only (s_a skip_a) : Only ⟨[.regs, .scr], [], []⟩ s_a (State.scrClear s_a skip_a) := by
  unfold State.scrClear
  refine Only.ite ?_ ?_
  · exact Only.refl _ _
  · extract_lets +onlyGivenNames x1
    extract_lets +onlyGivenNames x2
    extract_lets +onlyGivenNames x3
    have hx3 : Only ⟨[.regs, .scr], [], []⟩ s_a x3 := by
      subst x3
      refine Only.ite ?_ ?_
      · refine Only.seq (State.scrAdvance_only ..) ?_ (by decide)
        exact Only.refl _ _
      · exact Only.refl _ _
    clear_value x3
    refine Only.seq (State.setRegN_only ..) ?_ (by decide)
    refine Only.seq (Only.upd (r := ⟨[.scr], [], []⟩) (s := x3) (fun p => by cases p <;> first | exact .inr rfl | exact .inl (by decide))) ?_ (by decide)
    exact hx3

theorem execScrClear_only (dt_a skip_a s_a) : OnlyR ⟨[.out, .now, .tc, .regs, .scr], [], []⟩ s_a (execScrClear dt_a skip_a s_a) := by
  unfold execScrClear
  refine act_only (hk2 := fun u1 => ?_) (l := (by decide)) ..
  refine Only.seq (State.scrClear_only ..) ?_ (by decide)
  exact Only.refl _ _

theorem State.scrDisable_only (s_a channel_a bursts_a) : Only ⟨[.out, .fresh, .pinned, .regs, .mem, .boot, .ev, .sessions, .flashJournal, .osf, .gate, .ctl, .scr, .tarn, .diskJournal], [Obj.eventCount, Obj.eventLastAt, Obj.eventLastSubject, Obj.colRefused], []⟩ s_a (State.scrDisable s_a channel_a bursts_a) := by
  unfold State.scrDisable
  refine Only.seq (State.setRegBit_only ..) ?_ (by simp [Reach.le])
  refine Only.seq (State.scrAbort_only ..) ?_ (by decide)
  exact Only.refl _ _

theorem execScrChannelDisable_only (dt_a channel_a bursts_a s_a) : OnlyR ⟨List.append [.out, .fresh, .now, .tc, .pinned, .regs, .mem, .boot, .ev, .sessions, .flashJournal, .osf, .gate, .ctl, .scr, .tarn] ([.diskJournal]), [Obj.eventCount, Obj.eventLastAt, Obj.eventLastSubject, Obj.colRefused], []⟩ s_a (execScrChannelDisable dt_a channel_a bursts_a s_a) := by
  unfold execScrChannelDisable
  refine actIf_only (hk3 := fun u1 => ?_) (l := (by decide)) ..
  refine Only.seq (State.scrDisable_only ..) ?_ (by decide)
  exact Only.refl _ _

theorem State.scrReg_only (s_a addr_a v_a) : Only ⟨[.out, .fresh, .pinned, .regs, .mem, .boot, .ev, .sessions, .flashJournal, .osf, .gate, .ctl, .scr, .tarn, .diskJournal], [Obj.eventCount, Obj.eventLastAt, Obj.eventLastSubject, Obj.colRefused], []⟩ s_a (State.scrReg s_a addr_a v_a) := by
  unfold State.scrReg
  extract_lets +onlyGivenNames x1
  extract_lets +onlyGivenNames x2
  extract_lets +onlyGivenNames x3
  refine Only.ite ?_ ?_
  · extract_lets +onlyGivenNames x4
    have hx4 : Only ⟨[.out, .fresh, .pinned, .regs, .mem, .boot, .ev, .sessions, .flashJournal, .osf, .gate, .ctl, .scr, .tarn, .diskJournal], [Obj.eventCount, Obj.eventLastAt, Obj.eventLastSubject, Obj.colRefused], []⟩ s_a x4 := by
      subst x4
      refine Only.seq (State.busWrite_only ..) ?_ (by simp [Reach.le])
      exact Only.refl _ _
    clear_value x4
    refine Only.ite ?_ ?_
    · refine Only.seq (State.scrClear_only ..) ?_ (by decide)
      exact hx4
    · exact hx4
  · refine Only.ite ?_ ?_
    · refine Only.seq (State.scrAbort_only ..) ?_ (by decide)
      exact Only.refl _ _
    · refine Only.ite ?_ ?_
      · refine Only.seq (State.clearRegs_only ..) ?_ (by decide)
        exact Only.refl _ _
      · refine Only.ite ?_ ?_
        · refine Only.ite ?_ ?_
          · refine Only.seq (State.scrDisable_only ..) ?_ (by decide)
            exact Only.refl _ _
          · refine Only.ite ?_ ?_
            · exact Only.refl _ _
            · refine Only.seq (State.busWrite_only ..) ?_ (by simp [Reach.le])
              exact Only.refl _ _
        · refine Only.seq (State.busWrite_only ..) ?_ (by simp [Reach.le])
          exact Only.refl _ _

theorem State.colError_only (s_a r_a a_a target_a reason_a) : Only ⟨List.append [.out, .fresh, .tc, .objs, .pinned, .regs, .mem, .boot, .ev, .ctlUp, .sessions, .challenges, .lockouts, .roleKeys, .salvos, .frameWrites] (List.append [.restartWrites, .engine, .tw, .st, .update, .flashJournal, .osf, .gate, .ctl, .colLast, .scr, .mon, .sdiRx, .sdiTx, .ridge, .cq] ([.media, .ws, .au, .tarn, .sad, .mor, .diskJournal])), [], []⟩ s_a (State.colError s_a r_a a_a target_a reason_a) := by
  unfold State.colError
  refine Only.ite ?_ ?_
  · refine Only.seq (State.cairnRefused_only ..) ?_ (by decide)
    exact Only.refl _ _
  · extract_lets +onlyGivenNames x1
    have hx1 : Only ⟨List.append [.out, .fresh, .tc, .objs, .pinned, .regs, .mem, .boot, .ev, .ctlUp, .sessions, .challenges, .lockouts, .roleKeys, .salvos, .frameWrites] (List.append [.restartWrites, .engine, .tw, .st, .update, .flashJournal, .osf, .gate, .ctl, .colLast, .scr, .mon, .sdiRx, .sdiTx, .ridge, .cq] ([.media, .ws, .au, .tarn, .sad, .mor, .diskJournal])), [], []⟩ s_a x1 := by
      subst x1
      refine Only.seq (State.colRefuse_only ..) ?_ (by decide)
      exact Only.refl _ _
    clear_value x1
    refine Only.ite ?_ ?_
    · refine Only.seq (State.scrFail_only ..) ?_ (by decide)
      exact hx1
    · exact hx1

theorem execColRequest_only (dt_a target_a waiting_a s_a) : OnlyR ⟨List.append [.out, .fresh, .now, .tc, .objs, .pinned, .regs, .mem, .boot, .ev, .ctlUp, .sessions, .challenges, .lockouts, .roleKeys, .salvos] (List.append [.frameWrites, .restartWrites, .engine, .tw, .st, .update, .flashJournal, .osf, .gate, .ctl, .colLast, .scr, .mon, .sdiRx, .sdiTx, .ridge] ([.cq, .media, .ws, .au, .tarn, .sad, .mor, .diskJournal])), [], []⟩ s_a (execColRequest dt_a target_a waiting_a s_a) := by
  unfold execColRequest
  refine act_only (hk2 := fun u1 => ?_) (l := (by decide)) ..
  extract_lets +onlyGivenNames x2
  extract_lets +onlyGivenNames x3
  extract_lets +onlyGivenNames x4
  extract_lets +onlyGivenNames x5
  subst x5
  split
  · exact Only.refl _ _
  · extract_lets +onlyGivenNames x6
    extract_lets +onlyGivenNames x7
    extract_lets +onlyGivenNames x8
    extract_lets +onlyGivenNames x9
    have hx9 : Only ⟨List.append [.out, .fresh, .now, .tc, .objs, .pinned, .regs, .mem, .boot, .ev, .ctlUp, .sessions, .challenges, .lockouts, .roleKeys, .salvos] (List.append [.frameWrites, .restartWrites, .engine, .tw, .st, .update, .flashJournal, .osf, .gate, .ctl, .colLast, .scr, .mon, .sdiRx, .sdiTx, .ridge] ([.cq, .media, .ws, .au, .tarn, .sad, .mor, .diskJournal])), [], []⟩ u1 x9 := by
      subst x9
      refine Only.seq (State.setRegBit_only ..) ?_ (by decide)
      refine Only.seq (Only.upd (r := ⟨[.colLast], [], []⟩) (s := u1) (fun p => by cases p <;> first | exact .inr rfl | exact .inl (by decide))) ?_ (by decide)
      exact Only.refl _ _
    clear_value x9
    extract_lets +onlyGivenNames x10
    have hx10 : Only ⟨List.append [.out, .fresh, .now, .tc, .objs, .pinned, .regs, .mem, .boot, .ev, .ctlUp, .sessions, .challenges, .lockouts, .roleKeys, .salvos] (List.append [.frameWrites, .restartWrites, .engine, .tw, .st, .update, .flashJournal, .osf, .gate, .ctl, .colLast, .scr, .mon, .sdiRx, .sdiTx, .ridge] ([.cq, .media, .ws, .au, .tarn, .sad, .mor, .diskJournal])), [], []⟩ u1 x10 := by
      subst x10
      refine Only.ite ?_ ?_
      · refine Only.seq (State.setRegN_only ..) ?_ (by simp [Reach.le])
        exact hx9
      · exact Only.refl _ _
    clear_value x10
    split
    · refine Only.seq (State.colError_only ..) ?_ (by decide)
      exact hx10
    · refine Only.ite ?_ ?_
      · refine Only.seq (State.colError_only ..) ?_ (by decide)
        exact hx10
      · refine Only.ite ?_ ?_
        · refine Only.seq (State.busStore_only ..) ?_ (by decide)
          exact hx10
        · extract_lets +onlyGivenNames x11
          have hx11 : Only ⟨List.append [.out, .fresh, .now, .tc, .objs, .pinned, .regs, .mem, .boot, .ev, .ctlUp, .sessions, .challenges, .lockouts, .roleKeys, .salvos] (List.append [.frameWrites, .restartWrites, .engine, .tw, .st, .update, .flashJournal, .osf, .gate, .ctl, .colLast, .scr, .mon, .sdiRx, .sdiTx, .ridge] ([.cq, .media, .ws, .au, .tarn, .sad, .mor, .diskJournal])), [], []⟩ u1 x11.2 := by
            subst x11
            refine Only.seq (State.busLoad_only ..) ?_ (by decide)
            exact hx10
          clear_value x11
          refine Only.seq (State.emit_only ..) ?_ (by decide)
          exact hx11

theorem execColPortClockStop_only (dt_a target_a s_a) : OnlyR ⟨[.out, .now, .tc], [], [0x40020004]⟩ s_a (execColPortClockStop dt_a target_a s_a) := by
  unfold execColPortClockStop
  refine actIf_only (hk3 := fun u1 => ?_) (l := (by decide)) ..
  refine Only.seq (State.setRegBit_only ..) ?_ (by decide)
  exact Only.refl _ _

theorem execRegisterWrite_only (dt_a addr_a value_a trusted_a s_a) : OnlyR ⟨List.append [.out, .fresh, .now, .tc, .objs, .pinned, .regs, .mem, .boot, .ev, .ctlUp, .sessions, .challenges, .lockouts, .roleKeys, .salvos] (List.append [.frameWrites, .restartWrites, .engine, .tw, .st, .update, .flashJournal, .osf, .gate, .ctl, .colLast, .scr, .mon, .sdiRx, .sdiTx, .ridge] ([.cq, .media, .ws, .au, .tarn, .sad, .mor, .diskJournal])), [], []⟩ s_a (execRegisterWrite dt_a addr_a value_a trusted_a s_a) := by
  unfold execRegisterWrite
  refine act_only (hk2 := fun u1 => ?_) (l := (by decide)) ..
  extract_lets +onlyGivenNames x2
  split
  · refine Only.ite ?_ ?_
    · refine Only.seq (State.scrReg_only ..) ?_ (by decide)
      exact Only.refl _ _
    · refine Only.seq (State.busReg_only ..) ?_ (by decide)
      exact Only.refl _ _
  · refine Only.seq (State.busStore_only ..) ?_ (by decide)
    exact Only.refl _ _
  · refine Only.ite ?_ ?_
    · refine Only.seq (State.colRefuse_only ..) ?_ (by decide)
      exact Only.refl _ _
    · refine Only.seq (State.cairnRefused_only ..) ?_ (by decide)
      exact Only.refl _ _

theorem execInterruptForward_only (dt_a line_a s_a) : OnlyR ⟨[.out, .now, .tc], [], []⟩ s_a (execInterruptForward dt_a line_a s_a) := by
  unfold execInterruptForward
  refine actIf_only (hk3 := fun u1 => ?_) (l := (by decide)) ..
  refine Only.seq (State.emit_only ..) ?_ (by decide)
  exact Only.refl _ _

theorem State.cacheOp_only (s_a addr_a) : Only ⟨List.append [.out, .fresh, .tc, .objs, .pinned, .regs, .mem, .boot, .ev, .ctlUp, .sessions, .challenges, .lockouts, .roleKeys, .salvos, .frameWrites] (List.append [.restartWrites, .engine, .tw, .st, .update, .flashJournal, .osf, .gate, .ctl, .colLast, .scr, .mon, .sdiRx, .sdiTx, .ridge, .cq] ([.media, .ws, .au, .tarn, .sad, .mor, .diskJournal])), [], []⟩ s_a (State.cacheOp s_a addr_a) := by
  unfold State.cacheOp
  refine Only.ite ?_ ?_
  · exact Only.refl _ _
  · extract_lets +onlyGivenNames x1
    have hx1 : Only ⟨List.append [.out, .fresh, .tc, .objs, .pinned, .regs, .mem, .boot, .ev, .ctlUp, .sessions, .challenges, .lockouts, .roleKeys, .salvos, .frameWrites] (List.append [.restartWrites, .engine, .tw, .st, .update, .flashJournal, .osf, .gate, .ctl, .colLast, .scr, .mon, .sdiRx, .sdiTx, .ridge, .cq] ([.media, .ws, .au, .tarn, .sad, .mor, .diskJournal])), [], []⟩ s_a x1.2 := by
      subst x1
      refine Only.seq (State.draw_only ..) ?_ (by decide)
      exact Only.refl _ _
    clear_value x1
    refine Only.seq (State.uplandRestart_only ..) ?_ (by decide)
    exact hx1

theorem execCacheClean_only (dt_a addr_a s_a) : OnlyR ⟨List.append [.out, .fresh, .now, .tc, .objs, .pinned, .regs, .mem, .boot, .ev, .ctlUp, .sessions, .challenges, .lockouts, .roleKeys, .salvos] (List.append [.frameWrites, .restartWrites, .engine, .tw, .st, .update, .flashJournal, .osf, .gate, .ctl, .colLast, .scr, .mon, .sdiRx, .sdiTx, .ridge] ([.cq, .media, .ws, .au, .tarn, .sad, .mor, .diskJournal])), [], []⟩ s_a (execCacheClean dt_a addr_a s_a) := by
  unfold execCacheClean
  refine act_only (hk2 := fun u1 => ?_) (l := (by decide)) ..
  refine Only.seq (State.cacheOp_only ..) ?_ (by decide)
  exact Only.refl _ _

theorem execCacheInval_only (dt_a addr_a s_a) : OnlyR ⟨List.append [.out, .fresh, .now, .tc, .objs, .pinned, .regs, .mem, .boot, .ev, .ctlUp, .sessions, .challenges, .lockouts, .roleKeys, .salvos] (List.append [.frameWrites, .restartWrites, .engine, .tw, .st, .update, .flashJournal, .osf, .gate, .ctl, .colLast, .scr, .mon, .sdiRx, .sdiTx, .ridge] ([.cq, .media, .ws, .au, .tarn, .sad, .mor, .diskJournal])), [], []⟩ s_a (execCacheInval dt_a addr_a s_a) := by
  unfold execCacheInval
  refine act_only (hk2 := fun u1 => ?_) (l := (by decide)) ..
  refine Only.seq (State.cacheOp_only ..) ?_ (by decide)
  exact Only.refl _ _

theorem execCacheCleanInval_only (dt_a addr_a s_a) : OnlyR ⟨List.append [.out, .fresh, .now, .tc, .objs, .pinned, .regs, .mem, .boot, .ev, .ctlUp, .sessions, .challenges, .lockouts, .roleKeys, .salvos] (List.append [.frameWrites, .restartWrites, .engine, .tw, .st, .update, .flashJournal, .osf, .gate, .ctl, .colLast, .scr, .mon, .sdiRx, .sdiTx, .ridge] ([.cq, .media, .ws, .au, .tarn, .sad, .mor, .diskJournal])), [], []⟩ s_a (execCacheCleanInval dt_a addr_a s_a) := by
  unfold execCacheCleanInval
  refine act_only (hk2 := fun u1 => ?_) (l := (by decide)) ..
  refine Only.seq (State.cacheOp_only ..) ?_ (by decide)
  exact Only.refl _ _

end Sys2Proof.Machine
end

