-- ==== Sys2Proof/Laws/OnlyMemory.lean ====
section
/-!
SUPPORT. What the functions of Machine/Memory.lean may change (`Only` of Laws/Only.lean).
-/
namespace Sys2Proof.Machine
set_option Elab.async false

theorem State.memCorrected_only (s_a memory_a) : Only ⟨[.out, .pinned, .ev, .flashJournal, .diskJournal], [Obj.memCorrected, Obj.eventCount, Obj.eventLastAt, Obj.eventLastSubject], [0x40000004, 0x40000008]⟩ s_a (State.memCorrected s_a memory_a) := by
  unfold State.memCorrected
  refine Only.seq (State.raiseLimited_only ..) ?_ (by decide)
  refine Only.seq (State.bump_only ..) ?_ (by decide)
  exact Only.refl _ _

theorem execMemCorrected_only (dt_a memory_a s_a) : OnlyR ⟨[.out, .now, .tc, .pinned, .ev, .flashJournal, .diskJournal], [Obj.memCorrected, Obj.eventCount, Obj.eventLastAt, Obj.eventLastSubject], [0x40000004, 0x40000008]⟩ s_a (execMemCorrected dt_a memory_a s_a) := by
  unfold execMemCorrected
  refine actIf_only (hk3 := fun u1 => ?_) (l := (by decide)) ..
  refine Only.seq (State.memCorrected_only ..) ?_ (by decide)
  exact Only.refl _ _

theorem State.memLogged_only (s_a memory_a consumer_a addr_a) : Only ⟨[.out, .pinned, .ev, .flashJournal, .diskJournal], [Obj.memUncorrectable, Obj.eventCount, Obj.eventLastAt, Obj.eventLastSubject, Obj.memErrorLog], [0x40000004, 0x40000008]⟩ s_a (State.memLogged s_a memory_a consumer_a addr_a) := by
  unfold State.memLogged
  extract_lets +onlyGivenNames x1
  have hx1 : Only ⟨[.out, .pinned, .ev, .flashJournal, .diskJournal], [Obj.memUncorrectable, Obj.eventCount, Obj.eventLastAt, Obj.eventLastSubject, Obj.memErrorLog], [0x40000004, 0x40000008]⟩ s_a x1 := by
    subst x1
    refine Only.seq (State.bump_only ..) ?_ (by decide)
    exact Only.refl _ _
  clear_value x1
  extract_lets +onlyGivenNames x2
  refine Only.seq (State.raise_only ..) ?_ (by decide)
  refine Only.seq (State.setBy_only ..) ?_ (by decide)
  exact hx1

theorem State.mapFrame_only (s_a slot_a seq_a f_a) : Only ⟨[.ridge], [], []⟩ s_a (State.mapFrame s_a slot_a seq_a f_a) := by
  unfold State.mapFrame
  extract_lets +onlyGivenNames x1
  refine Only.seq (State.setSrc_only ..) ?_ (by decide)
  exact Only.refl _ _

theorem State.relayer_only (s_a d_a pic_a) : Only ⟨[.out, .ridge, .media, .mor], [Obj.dlyStored], []⟩ s_a (State.relayer s_a d_a pic_a) := by
  unfold State.relayer
  split
  · extract_lets +onlyGivenNames x1
    split
    · refine Only.seq (State.amendPic_only ..) ?_ (by decide)
      exact Only.refl _ _
    · exact Only.refl _ _
  · exact Only.refl _ _

theorem State.conceal_only (s_a slot_a seq_a line_a block_a previousBad_a destinations_a) : Only ⟨[.out, .pinned, .ev, .flashJournal, .ridge, .media, .mor, .diskJournal], [Obj.dlyStored, Obj.dstConcealedBlocks, Obj.eventCount, Obj.eventLastAt, Obj.eventLastSubject], [0x40000004, 0x40000008]⟩ s_a (State.conceal s_a slot_a seq_a line_a block_a previousBad_a destinations_a) := by
  unfold State.conceal
  extract_lets +onlyGivenNames x1
  refine Only.foldl (fun u2 x3 => ?_) ?_
  · split
    · refine Only.ite ?_ ?_
      · exact Only.refl _ _
      · extract_lets +onlyGivenNames x4
        refine Only.seq (State.raiseLimited_only ..) ?_ (by decide)
        refine Only.seq (State.bump_only ..) ?_ (by decide)
        refine Only.seq (State.relayer_only ..) ?_ (by decide)
        refine Only.seq (State.repaint_only ..) ?_ (by decide)
        exact Only.refl _ _
    · exact Only.refl _ _
  · exact Only.refl _ _

theorem State.loseSideData_only (s_a slot_a seq_a) : Only ⟨[.out, .pinned, .ev, .flashJournal, .ridge, .diskJournal], [Obj.eventCount, Obj.eventLastAt, Obj.eventLastSubject], [0x40000004, 0x40000008]⟩ s_a (State.loseSideData s_a slot_a seq_a) := by
  unfold State.loseSideData
  extract_lets +onlyGivenNames x1
  extract_lets +onlyGivenNames x2
  have hx2 : Only ⟨[.out, .pinned, .ev, .flashJournal, .ridge, .diskJournal], [Obj.eventCount, Obj.eventLastAt, Obj.eventLastSubject], [0x40000004, 0x40000008]⟩ s_a x2 := by
    subst x2
    refine Only.foldl (fun u3 x4 => ?_) ?_
    · refine Only.seq (State.setDst_only ..) ?_ (by decide)
      exact Only.refl _ _
    · exact Only.refl _ _
  clear_value x2
  extract_lets +onlyGivenNames x5
  have hx5 : Only ⟨[.out, .pinned, .ev, .flashJournal, .ridge, .diskJournal], [Obj.eventCount, Obj.eventLastAt, Obj.eventLastSubject], [0x40000004, 0x40000008]⟩ s_a x5 := by
    subst x5
    refine Only.seq (State.mapFrame_only ..) ?_ (by decide)
    exact hx2
  clear_value x5
  refine Only.ite ?_ ?_
  · exact hx5
  · split
    · refine Only.seq (State.meetSideData_only ..) ?_ (by decide)
      exact hx5
    · exact hx5

theorem State.memConsume_only (s_a memory_a c_a) : Only ⟨List.append [.out, .fresh, .tc, .objs, .pinned, .regs, .mem, .boot, .ev, .ctlUp, .sessions, .challenges, .lockouts, .roleKeys, .salvos, .frameWrites] (List.append [.restartWrites, .engine, .tw, .st, .update, .flashJournal, .osf, .gate, .ctl, .colLast, .scr, .mon, .sdiRx, .sdiTx, .ridge, .cq] ([.media, .ws, .au, .tarn, .sad, .mor, .diskJournal])), [], []⟩ s_a (State.memConsume s_a memory_a c_a) := by
  unfold State.memConsume
  split
  · refine Only.seq (State.conceal_only ..) ?_ (by decide)
    exact Only.refl _ _
  · refine Only.ite ?_ ?_
    · exact Only.refl _ _
    · extract_lets +onlyGivenNames x1
      extract_lets +onlyGivenNames x2
      refine Only.seq (State.conceal_only ..) ?_ (by decide)
      exact Only.refl _ _
  · refine Only.seq (State.loseSideData_only ..) ?_ (by decide)
    exact Only.refl _ _
  · extract_lets +onlyGivenNames x3
    refine Only.seq (State.setRxe_only ..) ?_ (by decide)
    exact Only.refl _ _
  · extract_lets +onlyGivenNames x4
    refine Only.seq (State.setStrip_only ..) ?_ (by decide)
    exact Only.refl _ _
  · extract_lets +onlyGivenNames x5
    extract_lets +onlyGivenNames x6
    refine Only.seq (State.setLayer_only ..) ?_ (by decide)
    exact Only.refl _ _
  · extract_lets +onlyGivenNames x7
    refine Only.ite ?_ ?_
    · refine Only.seq (State.setN_only ..) ?_ (by decide)
      refine Only.seq (State.setEngine_only ..) ?_ (by decide)
      exact Only.refl _ _
    · exact Only.refl _ _
  · refine Only.ite ?_ ?_
    · refine Only.seq (State.setBitN_only ..) ?_ (by decide)
      refine Only.seq (State.setStage_only ..) ?_ (by decide)
      exact Only.refl _ _
    · exact Only.refl _ _
  · refine Only.seq (State.raise_only ..) ?_ (by decide)
    refine Only.seq (State.setReason_only ..) ?_ (by decide)
    exact Only.refl _ _
  · extract_lets +onlyGivenNames x8
    refine Only.seq (State.setPlayer_only ..) ?_ (by decide)
    exact Only.refl _ _
  · refine Only.ite ?_ ?_
    · refine Only.seq (State.uplandRestart_only ..) ?_ (by decide)
      exact Only.refl _ _
    · exact Only.refl _ _
  · refine Only.ite ?_ ?_
    · refine Only.seq (State.uplandRestart_only ..) ?_ (by decide)
      exact Only.refl _ _
    · exact Only.refl _ _
  · refine Only.seq (State.scrFail_only ..) ?_ (by decide)
    exact Only.refl _ _
  · refine Only.seq (State.cmacCount_only ..) ?_ (by decide)
    exact Only.refl _ _
  · extract_lets +onlyGivenNames x9
    have hx9 : Only ⟨List.append [.out, .fresh, .tc, .objs, .pinned, .regs, .mem, .boot, .ev, .ctlUp, .sessions, .challenges, .lockouts, .roleKeys, .salvos, .frameWrites] (List.append [.restartWrites, .engine, .tw, .st, .update, .flashJournal, .osf, .gate, .ctl, .colLast, .scr, .mon, .sdiRx, .sdiTx, .ridge, .cq] ([.media, .ws, .au, .tarn, .sad, .mor, .diskJournal])), [], []⟩ s_a x9 := by
      subst x9
      refine Only.seq (State.setReason_only ..) ?_ (by decide)
      exact Only.refl _ _
    clear_value x9
    refine Only.seq (State.raise_only ..) ?_ (by decide)
    refine Only.seq (Only.upd (r := ⟨[.boot], [], []⟩) (s := x9) (fun p => by cases p <;> first | exact .inr rfl | exact .inl (by decide))) ?_ (by decide)
    exact hx9

theorem execMemUncorrectable_only (dt_a memory_a addr_a c_a s_a) : OnlyR ⟨List.append [.out, .fresh, .now, .tc, .objs, .pinned, .regs, .mem, .boot, .ev, .ctlUp, .sessions, .challenges, .lockouts, .roleKeys, .salvos] (List.append [.frameWrites, .restartWrites, .engine, .tw, .st, .update, .flashJournal, .osf, .gate, .ctl, .colLast, .scr, .mon, .sdiRx, .sdiTx, .ridge] ([.cq, .media, .ws, .au, .tarn, .sad, .mor, .diskJournal])), [], []⟩ s_a (execMemUncorrectable dt_a memory_a addr_a c_a s_a) := by
  unfold execMemUncorrectable
  refine actIf_only (hk3 := fun u1 => ?_) (l := (by decide)) ..
  refine Only.seq (State.memConsume_only ..) ?_ (by decide)
  refine Only.ite ?_ ?_
  · refine Only.seq (State.memLogged_only ..) ?_ (by decide)
    exact Only.refl _ _
  · exact Only.refl _ _

theorem execMemScrubRead_only (dt_a memory_a addr_a r_a passEnd_a s_a) : OnlyR ⟨[.out, .now, .tc, .pinned, .ev, .flashJournal, .diskJournal], [Obj.memCorrected, Obj.eventCount, Obj.eventLastAt, Obj.eventLastSubject, Obj.memUncorrectable, Obj.memErrorLog, Obj.memScrubProgress, Obj.memScrubLastPass], [0x40000004, 0x40000008]⟩ s_a (execMemScrubRead dt_a memory_a addr_a r_a passEnd_a s_a) := by
  unfold execMemScrubRead
  refine actIf_only (hk3 := fun u1 => ?_) (l := (by decide)) ..
  extract_lets +onlyGivenNames x2
  have hx2 : Only ⟨[.out, .now, .tc, .pinned, .ev, .flashJournal, .diskJournal], [Obj.memCorrected, Obj.eventCount, Obj.eventLastAt, Obj.eventLastSubject, Obj.memUncorrectable, Obj.memErrorLog, Obj.memScrubProgress, Obj.memScrubLastPass], [0x40000004, 0x40000008]⟩ u1 x2 := by
    subst x2
    split
    · exact Only.refl _ _
    · refine Only.seq (State.memCorrected_only ..) ?_ (by decide)
      exact Only.refl _ _
    · refine Only.seq (State.memCorrected_only ..) ?_ (by decide)
      exact Only.refl _ _
    · refine Only.seq (State.memLogged_only ..) ?_ (by decide)
      exact Only.refl _ _
  clear_value x2
  refine Only.ite ?_ ?_
  · refine Only.ite ?_ ?_
    · refine Only.seq (State.raise_only ..) ?_ (by decide)
      refine Only.seq (State.setN_only ..) ?_ (by decide)
      refine Only.seq (State.setN_only ..) ?_ (by decide)
      exact hx2
    · refine Only.seq (State.setN_only ..) ?_ (by decide)
      exact hx2
  · exact hx2

end Sys2Proof.Machine
end

