-- ==== Sys2Proof/Laws/OnlyCommit.lean ====
section
/-!
SUPPORT. What the functions of Machine/Commit.lean may change (`Only` of Laws/Only.lean).
-/
namespace Sys2Proof.Machine
set_option Elab.async false

theorem State.markRoutes_only (s_a old_a l_a salvo_a boundary_a) : Only ⟨[.ridge], [Obj.routeTakenAt, Obj.routeSalvo], []⟩ s_a (State.markRoutes s_a old_a l_a salvo_a boundary_a) := by
  unfold State.markRoutes
  refine Only.foldl (fun u1 x2 => ?_) ?_
  · extract_lets +onlyGivenNames x3
    refine Only.ite ?_ ?_
    · refine Only.seq (State.setDst_only ..) ?_ (by decide)
      refine Only.seq (State.setN_only ..) ?_ (by decide)
      refine Only.seq (State.setN_only ..) ?_ (by decide)
      exact Only.refl _ _
    · exact Only.refl _ _
  · exact Only.refl _ _

theorem State.markLabels_only (s_a old_a boundary_a) : Only ⟨[.ridge], [], []⟩ s_a (State.markLabels s_a old_a boundary_a) := by
  unfold State.markLabels
  refine Only.ite ?_ ?_
  · exact Only.refl _ _
  · refine Only.foldl (fun u1 x2 => ?_) ?_
    · extract_lets +onlyGivenNames x3
      refine Only.ite ?_ ?_
      · exact Only.refl _ _
      · refine Only.seq (State.setDst_only ..) ?_ (by decide)
        exact Only.refl _ _
    · exact Only.refl _ _

theorem State.moveStores_only (s_a old_a) : Only ⟨[.ridge], [], []⟩ s_a (State.moveStores s_a old_a) := by
  unfold State.moveStores
  refine Only.foldl (fun u1 x2 => ?_) ?_
  · extract_lets +onlyGivenNames x3
    refine Only.ite ?_ ?_
    · refine Only.seq (State.setSrc_only ..) ?_ (by decide)
      exact Only.refl _ _
    · refine Only.seq (State.setSrc_only ..) ?_ (by decide)
      exact Only.refl _ _
  · exact Only.refl _ _

theorem State.unuseDst_only (s_a d_a) : Only ⟨[.ridge], [Obj.dstState, Obj.dstFormatLive], []⟩ s_a (State.unuseDst s_a d_a) := by
  unfold State.unuseDst
  refine Only.ite ?_ ?_
  · exact Only.refl _ _
  · refine Only.seq (State.setDst_only ..) ?_ (by decide)
    refine Only.seq (State.setN_only ..) ?_ (by decide)
    refine Only.seq (State.setN_only ..) ?_ (by decide)
    exact Only.refl _ _

theorem State.meetCommit_only (s_a old_a changes_a boundary_a) : Only ⟨[.out, .fresh, .objs, .pinned, .regs, .ev, .flashJournal, .sdiRx, .ridge, .cq, .media, .au, .mor, .diskJournal], [], []⟩ s_a (State.meetCommit s_a old_a changes_a boundary_a) := by
  unfold State.meetCommit
  refine Only.ite ?_ ?_
  · exact Only.refl _ _
  · extract_lets +onlyGivenNames x1
    have hx1 : Only ⟨[.out, .fresh, .objs, .pinned, .regs, .ev, .flashJournal, .sdiRx, .ridge, .cq, .media, .au, .mor, .diskJournal], [], []⟩ s_a x1 := by
      subst x1
      refine Only.seq (State.moveStores_only ..) ?_ (by decide)
      exact Only.refl _ _
    clear_value x1
    extract_lets +onlyGivenNames x2
    extract_lets +onlyGivenNames x3
    have hx3 : Only ⟨[.out, .fresh, .objs, .pinned, .regs, .ev, .flashJournal, .sdiRx, .ridge, .cq, .media, .au, .mor, .diskJournal], [], []⟩ s_a x3 := by
      subst x3
      refine Only.foldl (fun u4 x5 => ?_) ?_
      · refine Only.seq (State.refreshLane_only ..) ?_ (by decide)
        exact Only.refl _ _
      · exact hx1
    clear_value x3
    extract_lets +onlyGivenNames x6
    have hx6 : Only ⟨[.out, .fresh, .objs, .pinned, .regs, .ev, .flashJournal, .sdiRx, .ridge, .cq, .media, .au, .mor, .diskJournal], [], []⟩ s_a x6 := by
      subst x6
      refine Only.foldl (fun u7 x8 => ?_) ?_
      · refine Only.seq (State.regroup_only ..) ?_ (by decide)
        exact Only.refl _ _
      · exact hx3
    clear_value x6
    extract_lets +onlyGivenNames x9
    have hx9 : Only ⟨[.out, .fresh, .objs, .pinned, .regs, .ev, .flashJournal, .sdiRx, .ridge, .cq, .media, .au, .mor, .diskJournal], [], []⟩ s_a x9 := by
      subst x9
      refine Only.seq (State.portCommit_only ..) ?_ (by decide)
      refine Only.seq (State.cirqueCommit_only ..) ?_ (by decide)
      exact hx6
    clear_value x9
    extract_lets +onlyGivenNames x10
    have hx10 : Only ⟨[.out, .fresh, .objs, .pinned, .regs, .ev, .flashJournal, .sdiRx, .ridge, .cq, .media, .au, .mor, .diskJournal], [], []⟩ s_a x10 := by
      subst x10
      refine Only.seq (State.txCommit_only ..) ?_ (by decide)
      refine Only.seq (State.rxCommit_only ..) ?_ (by decide)
      exact hx9
    clear_value x10
    extract_lets +onlyGivenNames x11
    have hx11 : Only ⟨[.out, .fresh, .objs, .pinned, .regs, .ev, .flashJournal, .sdiRx, .ridge, .cq, .media, .au, .mor, .diskJournal], [], []⟩ s_a x11 := by
      subst x11
      refine Only.seq (State.refreshSlots_only ..) ?_ (by decide)
      exact hx10
    clear_value x11
    extract_lets +onlyGivenNames x12
    have hx12 : Only ⟨[.out, .fresh, .objs, .pinned, .regs, .ev, .flashJournal, .sdiRx, .ridge, .cq, .media, .au, .mor, .diskJournal], [], []⟩ s_a x12 := by
      subst x12
      refine Only.seq (State.syncMembership_only ..) ?_ (by decide)
      refine Only.seq (State.corniceCommit_only ..) ?_ (by decide)
      exact hx11
    clear_value x12
    extract_lets +onlyGivenNames x13
    have hx13 : Only ⟨[.out, .fresh, .objs, .pinned, .regs, .ev, .flashJournal, .sdiRx, .ridge, .cq, .media, .au, .mor, .diskJournal], [], []⟩ s_a x13 := by
      subst x13
      refine Only.foldl (fun u14 x15 => ?_) ?_
      · refine Only.seq (State.refreshSrc_only ..) ?_ (by decide)
        exact Only.refl _ _
      · exact hx12
    clear_value x13
    extract_lets +onlyGivenNames x16
    have hx16 : Only ⟨[.out, .fresh, .objs, .pinned, .regs, .ev, .flashJournal, .sdiRx, .ridge, .cq, .media, .au, .mor, .diskJournal], [], []⟩ s_a x16 := by
      subst x16
      refine Only.seq (State.morCommit_only ..) ?_ (by decide)
      exact hx13
    clear_value x16
    extract_lets +onlyGivenNames x17
    have hx17 : Only ⟨[.out, .fresh, .objs, .pinned, .regs, .ev, .flashJournal, .sdiRx, .ridge, .cq, .media, .au, .mor, .diskJournal], [], []⟩ s_a x17 := by
      subst x17
      refine Only.foldl (fun u18 x19 => ?_) ?_
      · refine Only.seq (State.unuseDst_only ..) ?_ (by decide)
        exact Only.refl _ _
      · exact hx16
    clear_value x17
    refine Only.foldl (fun u20 x21 => ?_) ?_
    · refine Only.seq (State.refreshSdp_only ..) ?_ (by decide)
      exact Only.refl _ _
    · exact hx17

theorem State.dueWrites_only (s_a b_a) : Only ⟨[.frameWrites], [], []⟩ s_a (State.dueWrites s_a b_a).2 := by
  unfold State.dueWrites
  extract_lets +onlyGivenNames x1
  refine Only.mk2 ?_
  refine Only.seq (Only.upd (r := ⟨[.frameWrites], [], []⟩) (s := s_a) (fun p => by cases p <;> first | exact .inr rfl | exact .inl (by decide))) ?_ (by decide)
  exact Only.refl _ _

theorem State.flips_only (s_a l_a b_a) : Only ⟨[.objs, .cq], [], []⟩ s_a (State.flips s_a l_a b_a) := by
  unfold State.flips
  refine Only.foldl (fun u1 x2 => ?_) ?_
  · extract_lets +onlyGivenNames x3
    extract_lets +onlyGivenNames x4
    refine Only.ite ?_ ?_
    · extract_lets +onlyGivenNames x5
      have hx5 : Only ⟨[.objs, .cq], [], []⟩ u1 x5 := by
        subst x5
        refine Only.seq (State.toDefault_only ..) ?_ (by simp [Reach.le])
        exact Only.refl _ _
      clear_value x5
      refine Only.ite ?_ ?_
      · refine Only.seq (State.gfxFlip_only ..) ?_ (by decide)
        exact hx5
      · exact hx5
    · refine Only.ite ?_ ?_
      · extract_lets +onlyGivenNames x6
        have hx6 : Only ⟨[.objs, .cq], [], []⟩ u1 x6 := by
          subst x6
          refine Only.seq (State.toDefault_only ..) ?_ (by simp [Reach.le])
          exact Only.refl _ _
        clear_value x6
        refine Only.ite ?_ ?_
        · refine Only.seq (State.tableFlip_only ..) ?_ (by decide)
          exact hx6
        · exact hx6
      · exact Only.refl _ _
  · exact Only.refl _ _

theorem State.salvoDone_only (s_a n_a) : Only ⟨[.out, .objs, .pinned, .ev, .salvos, .flashJournal, .ridge, .cq, .diskJournal], [], [0x40000004, 0x40000008]⟩ s_a (State.salvoDone s_a n_a) := by
  unfold State.salvoDone
  extract_lets +onlyGivenNames x1
  extract_lets +onlyGivenNames x2
  have hx2 : Only ⟨[.out, .objs, .pinned, .ev, .salvos, .flashJournal, .ridge, .cq, .diskJournal], [], [0x40000004, 0x40000008]⟩ s_a x2 := by
    subst x2
    refine Only.seq (Only.upd (r := ⟨[.objs], [], []⟩) (s := s_a) (fun p => by cases p <;> first | exact .inr rfl | exact .inl (by decide))) ?_ (by decide)
    exact Only.refl _ _
  clear_value x2
  extract_lets +onlyGivenNames x3
  have hx3 : Only ⟨[.out, .objs, .pinned, .ev, .salvos, .flashJournal, .ridge, .cq, .diskJournal], [], [0x40000004, 0x40000008]⟩ s_a x3 := by
    subst x3
    refine Only.seq (State.flips_only ..) ?_ (by decide)
    refine Only.seq (State.markLabels_only ..) ?_ (by decide)
    refine Only.seq (State.markRoutes_only ..) ?_ (by decide)
    exact hx2
  clear_value x3
  extract_lets +onlyGivenNames x4
  have hx4 : Only ⟨[.out, .objs, .pinned, .ev, .salvos, .flashJournal, .ridge, .cq, .diskJournal], [], [0x40000004, 0x40000008]⟩ s_a x4 := by
    subst x4
    refine Only.seq (State.setSalvo_only ..) ?_ (by decide)
    exact hx3
  clear_value x4
  extract_lets +onlyGivenNames x5
  extract_lets +onlyGivenNames x6
  have hx6 : Only ⟨[.out, .objs, .pinned, .ev, .salvos, .flashJournal, .ridge, .cq, .diskJournal], [], [0x40000004, 0x40000008]⟩ s_a x6 := by
    subst x6
    refine Only.ite ?_ ?_
    · refine Only.seq (Only.upd (r := ⟨[.salvos], [], []⟩) (s := x4) (fun p => by cases p <;> first | exact .inr rfl | exact .inl (by decide))) ?_ (by decide)
      exact hx4
    · exact hx4
  clear_value x6
  extract_lets +onlyGivenNames x7
  refine Only.seq (State.raise_only ..) ?_ (by decide)
  refine Only.seq (State.journal_only ..) ?_ (by decide)
  refine Only.seq (State.bump_only ..) ?_ (by decide)
  exact hx6

theorem State.applyPoint_only (s_a b_a) : Only ⟨[.out, .objs, .pinned, .ev, .salvos, .frameWrites, .flashJournal, .ridge, .cq, .diskJournal], [], [0x40000004, 0x40000008]⟩ s_a (State.applyPoint s_a b_a) := by
  unfold State.applyPoint
  split
  rename_i v1 t2 e3
  have ht2 := Only.mono (b := ⟨[.out, .objs, .pinned, .ev, .salvos, .frameWrites, .flashJournal, .ridge, .cq, .diskJournal], [], [0x40000004, 0x40000008]⟩) (Only.snd e3 (State.dueWrites_only ..)) (by decide)
  extract_lets +onlyGivenNames x4
  have hx4 : Only ⟨[.out, .objs, .pinned, .ev, .salvos, .frameWrites, .flashJournal, .ridge, .cq, .diskJournal], [], [0x40000004, 0x40000008]⟩ s_a x4 := by
    subst x4
    refine Only.seq (Only.upd (r := ⟨[.objs], [], []⟩) (s := t2) (fun p => by cases p <;> first | exact .inr rfl | exact .inl (by decide))) ?_ (by decide)
    exact ht2
  clear_value x4
  extract_lets +onlyGivenNames x5
  have hx5 : Only ⟨[.out, .objs, .pinned, .ev, .salvos, .frameWrites, .flashJournal, .ridge, .cq, .diskJournal], [], [0x40000004, 0x40000008]⟩ s_a x5 := by
    subst x5
    refine Only.seq (State.flips_only ..) ?_ (by decide)
    exact hx4
  clear_value x5
  refine Only.foldl (fun u6 x7 => ?_) ?_
  · refine Only.seq (State.salvoDone_only ..) ?_ (by decide)
    exact Only.refl _ _
  · exact hx5

theorem State.executeBoundary_only (s_a b_a) : Only ⟨[.out, .fresh, .objs, .pinned, .regs, .ev, .salvos, .frameWrites, .flashJournal, .sdiRx, .ridge, .cq, .media, .au, .mor, .diskJournal], [], []⟩ s_a (State.executeBoundary s_a b_a) := by
  unfold State.executeBoundary
  extract_lets +onlyGivenNames x1
  refine Only.seq (State.keptWrites_only ..) ?_ (by decide)
  refine Only.seq (State.meetCommit_only ..) ?_ (by decide)
  refine Only.foldl (fun u2 x3 => ?_) ?_
  · refine Only.seq (State.applyPoint_only ..) ?_ (by decide)
    exact Only.refl _ _
  · exact Only.refl _ _

end Sys2Proof.Machine
end

