-- ==== Sys2Proof/Laws/OnlySalvo.lean ====
section
/-!
SUPPORT. What the functions of Machine/Salvo.lean may change (`Only` of Laws/Only.lean).
-/
namespace Sys2Proof.Machine
set_option Elab.async false

theorem State.replySalvo_only (s_a e_a n_a status_a detail_a change_a boundary_a) : Only ⟨[.out, .mem, .sessions, .gate], [], []⟩ s_a (State.replySalvo s_a e_a n_a status_a detail_a change_a boundary_a) := by
  unfold State.replySalvo
  extract_lets +onlyGivenNames x1
  refine Only.seq (State.reply_only ..) ?_ (by decide)
  exact Only.refl _ _

theorem State.refuseSalvo_only (s_a e_a n_a status_a) : Only ⟨[.out, .mem, .sessions, .gate], [], []⟩ s_a (State.refuseSalvo s_a e_a n_a status_a) := by
  unfold State.refuseSalvo
  refine Only.seq (State.replySalvo_only ..) ?_ (by decide)
  exact Only.refl _ _

theorem State.editSalvo_only (s_a e_a role_a) : Only ⟨[.out, .mem, .sessions, .salvos, .gate], [], []⟩ s_a (State.editSalvo s_a e_a role_a) := by
  unfold State.editSalvo
  extract_lets +onlyGivenNames x1
  extract_lets +onlyGivenNames x2
  split
  · split
    · refine Only.seq (State.refuseSalvo_only ..) ?_ (by decide)
      exact Only.refl _ _
    · refine Only.seq (State.replySalvo_only ..) ?_ (by decide)
      refine Only.seq (State.setSalvo_only ..) ?_ (by decide)
      exact Only.refl _ _
  · split
    · refine Only.seq (State.refuseSalvo_only ..) ?_ (by decide)
      exact Only.refl _ _
    · split
      · refine Only.seq (State.refuseSalvo_only ..) ?_ (by decide)
        exact Only.refl _ _
      · refine Only.seq (State.replySalvo_only ..) ?_ (by decide)
        refine Only.seq (State.setSalvo_only ..) ?_ (by decide)
        exact Only.refl _ _
  · refine Only.seq (State.replySalvo_only ..) ?_ (by decide)
    refine Only.seq (State.setSalvo_only ..) ?_ (by decide)
    exact Only.refl _ _
  · refine Only.seq (State.replySalvo_only ..) ?_ (by decide)
    refine Only.seq (State.setSalvo_only ..) ?_ (by decide)
    exact Only.refl _ _
  · exact Only.refl _ _

theorem State.sendMirror_only (s_a e_a isTake_a state_a candidate_a) : Only ⟨[.out, .engine], [], []⟩ s_a (State.sendMirror s_a e_a isTake_a state_a candidate_a) := by
  unfold State.sendMirror
  extract_lets +onlyGivenNames x1
  refine Only.seq (State.emit_only ..) ?_ (by decide)
  refine Only.seq (Only.upd (r := ⟨[.engine], [], []⟩) (s := s_a) (fun p => by cases p <;> first | exact .inr rfl | exact .inl (by decide))) ?_ (by decide)
  exact Only.refl _ _

theorem State.setMirror_only (s_a n_a m_a) : Only ⟨[.salvos], [], []⟩ s_a (State.setMirror s_a n_a m_a) := by
  unfold State.setMirror
  refine Only.seq (State.setSalvo_only ..) ?_ (by decide)
  exact Only.refl _ _

theorem State.salvoResult_only (s_a n_a code_a detail_a) : Only ⟨[.salvos], [], []⟩ s_a (State.salvoResult s_a n_a code_a detail_a) := by
  unfold State.salvoResult
  refine Only.seq (State.setSalvo_only ..) ?_ (by decide)
  exact Only.refl _ _

theorem State.armDone_only (s_a n_a mirror_a) : Only ⟨[.out, .pinned, .ev, .salvos, .flashJournal, .media, .diskJournal], [Obj.eventCount, Obj.eventLastAt, Obj.eventLastSubject, Obj.rxFlowState, Obj.txFlowState, Obj.portTxFramesB, Obj.portTxFrames, Obj.portTxBytesB, Obj.portTxBytes], [0x40000004, 0x40000008]⟩ s_a (State.armDone s_a n_a mirror_a) := by
  unfold State.armDone
  extract_lets +onlyGivenNames x1
  extract_lets +onlyGivenNames x2
  have hx2 : Only ⟨[.out, .pinned, .ev, .salvos, .flashJournal, .media, .diskJournal], [Obj.eventCount, Obj.eventLastAt, Obj.eventLastSubject, Obj.rxFlowState, Obj.txFlowState, Obj.portTxFramesB, Obj.portTxFrames, Obj.portTxBytesB, Obj.portTxBytes], [0x40000004, 0x40000008]⟩ s_a x2 := by
    subst x2
    refine Only.seq (State.raise_only ..) ?_ (by decide)
    refine Only.seq (State.setSalvo_only ..) ?_ (by decide)
    exact Only.refl _ _
  clear_value x2
  refine Only.ite ?_ ?_
  · refine Only.seq (State.raise_only ..) ?_ (by decide)
    refine Only.seq (State.freeSalvo_only ..) ?_ (by decide)
    exact hx2
  · exact hx2

theorem State.install_only (s_a n_a reads_a pre_a) : Only ⟨[.out, .pinned, .ev, .salvos, .flashJournal, .media, .diskJournal], [Obj.rxFlowState, Obj.txFlowState, Obj.portTxFramesB, Obj.portTxFrames, Obj.eventCount, Obj.eventLastAt, Obj.eventLastSubject, Obj.portTxBytesB, Obj.portTxBytes], [0x40000004, 0x40000008]⟩ s_a (State.install s_a n_a reads_a pre_a) := by
  unfold State.install
  extract_lets +onlyGivenNames x1
  extract_lets +onlyGivenNames x2
  have hx2 : Only ⟨[.out, .pinned, .ev, .salvos, .flashJournal, .media, .diskJournal], [Obj.rxFlowState, Obj.txFlowState, Obj.portTxFramesB, Obj.portTxFrames, Obj.eventCount, Obj.eventLastAt, Obj.eventLastSubject, Obj.portTxBytesB, Obj.portTxBytes], [0x40000004, 0x40000008]⟩ s_a x2 := by
    subst x2
    refine Only.seq (State.setSalvo_only ..) ?_ (by decide)
    exact Only.refl _ _
  clear_value x2
  extract_lets +onlyGivenNames x3
  have hx3 : Only ⟨[.out, .pinned, .ev, .salvos, .flashJournal, .media, .diskJournal], [Obj.rxFlowState, Obj.txFlowState, Obj.portTxFramesB, Obj.portTxFrames, Obj.eventCount, Obj.eventLastAt, Obj.eventLastSubject, Obj.portTxBytesB, Obj.portTxBytes], [0x40000004, 0x40000008]⟩ s_a x3 := by
    subst x3
    refine Only.foldl (fun u4 x5 => ?_) ?_
    · refine Only.ite ?_ ?_
      · exact Only.refl _ _
      · refine Only.seq (State.setPre_only ..) ?_ (by decide)
        exact Only.refl _ _
    · exact hx2
  clear_value x3
  extract_lets +onlyGivenNames x6
  have hx6 : Only ⟨[.out, .pinned, .ev, .salvos, .flashJournal, .media, .diskJournal], [Obj.rxFlowState, Obj.txFlowState, Obj.portTxFramesB, Obj.portTxFrames, Obj.eventCount, Obj.eventLastAt, Obj.eventLastSubject, Obj.portTxBytesB, Obj.portTxBytes], [0x40000004, 0x40000008]⟩ s_a x6 := by
    subst x6
    refine Only.foldl (fun u7 x8 => ?_) ?_
    · refine Only.ite ?_ ?_
      · exact Only.refl _ _
      · refine Only.seq (State.setN_only ..) ?_ (by decide)
        exact Only.refl _ _
    · exact hx3
  clear_value x6
  refine Only.seq (State.syncMembership_only ..) ?_ (by decide)
  refine Only.foldl (fun u9 x10 => ?_) ?_
  · refine Only.ite ?_ ?_
    · exact Only.refl _ _
    · refine Only.seq (State.setN_only ..) ?_ (by decide)
      exact Only.refl _ _
  · exact hx6

theorem State.armStart_only (s_a e_a n_a) : Only ⟨[.out, .pinned, .mem, .ev, .sessions, .salvos, .flashJournal, .gate, .media, .diskJournal], [Obj.armRefusals, Obj.eventCount, Obj.eventLastAt, Obj.eventLastSubject, Obj.rxFlowState, Obj.txFlowState, Obj.portTxFramesB, Obj.portTxFrames, Obj.portTxBytesB, Obj.portTxBytes], [0x40000004, 0x40000008]⟩ s_a (State.armStart s_a e_a n_a).2 := by
  unfold State.armStart
  split
  · extract_lets +onlyGivenNames x1
    have hx1 : Only ⟨[.out, .pinned, .mem, .ev, .sessions, .salvos, .flashJournal, .gate, .media, .diskJournal], [Obj.armRefusals, Obj.eventCount, Obj.eventLastAt, Obj.eventLastSubject, Obj.rxFlowState, Obj.txFlowState, Obj.portTxFramesB, Obj.portTxFrames, Obj.portTxBytesB, Obj.portTxBytes], [0x40000004, 0x40000008]⟩ s_a x1 := by
      subst x1
      refine Only.seq (State.raise_only ..) ?_ (by decide)
      refine Only.seq (State.bump_only ..) ?_ (by decide)
      refine Only.seq (State.salvoResult_only ..) ?_ (by decide)
      exact Only.refl _ _
    clear_value x1
    refine Only.mk2 ?_
    refine Only.seq (State.replySalvo_only ..) ?_ (by decide)
    exact hx1
  · refine Only.mk2 ?_
    refine Only.seq (State.install_only ..) ?_ (by decide)
    exact Only.refl _ _

theorem State.refuseTake_only (s_a e_a n_a code_a) : Only ⟨[.out, .mem, .sessions, .salvos, .gate], [], []⟩ s_a (State.refuseTake s_a e_a n_a code_a) := by
  unfold State.refuseTake
  refine Only.seq (State.refuseSalvo_only ..) ?_ (by decide)
  refine Only.seq (State.salvoResult_only ..) ?_ (by decide)
  exact Only.refl _ _

theorem State.noteLate_only (s_a e_a k_a) : Only ⟨[.sessions], [], []⟩ s_a (State.noteLate s_a e_a k_a) := by
  unfold State.noteLate
  refine Only.seq (Only.upd (r := ⟨[.sessions], [], []⟩) (s := s_a) (fun p => by cases p <;> first | exact .inr rfl | exact .inl (by decide))) ?_ (by decide)
  exact Only.refl _ _

theorem State.acceptTake_only (s_a e_a n_a b_a mirror_a) : Only ⟨[.out, .mem, .sessions, .salvos, .engine, .gate], [], []⟩ s_a (State.acceptTake s_a e_a n_a b_a mirror_a) := by
  unfold State.acceptTake
  extract_lets +onlyGivenNames x1
  extract_lets +onlyGivenNames x2
  extract_lets +onlyGivenNames x3
  have hx3 : Only ⟨[.out, .mem, .sessions, .salvos, .engine, .gate], [], []⟩ s_a x3 := by
    subst x3
    refine Only.seq (State.noteLate_only ..) ?_ (by decide)
    refine Only.seq (Only.upd (r := ⟨[.engine], [], []⟩) (s := s_a) (fun p => by cases p <;> first | exact .inr rfl | exact .inl (by decide))) ?_ (by decide)
    exact Only.refl _ _
  clear_value x3
  extract_lets +onlyGivenNames x4
  extract_lets +onlyGivenNames x5
  have hx5 : Only ⟨[.out, .mem, .sessions, .salvos, .engine, .gate], [], []⟩ s_a x5 := by
    subst x5
    refine Only.seq (State.setSalvo_only ..) ?_ (by decide)
    exact hx3
  clear_value x5
  refine Only.seq (State.replySalvo_only ..) ?_ (by decide)
  exact hx5

theorem State.takeSteps_only (s_a e_a n_a at__a) : Only ⟨[.out, .pinned, .mem, .ev, .sessions, .salvos, .engine, .flashJournal, .gate, .media, .diskJournal], [Obj.rxFlowState, Obj.txFlowState, Obj.portTxFramesB, Obj.portTxFrames, Obj.eventCount, Obj.eventLastAt, Obj.eventLastSubject, Obj.portTxBytesB, Obj.portTxBytes, Obj.staleTakes, Obj.orderConflicts], [0x40000004, 0x40000008]⟩ s_a (State.takeSteps s_a e_a n_a at__a) := by
  unfold State.takeSteps
  extract_lets +onlyGivenNames x1
  refine Only.ite ?_ ?_
  · refine Only.seq (State.refuseTake_only ..) ?_ (by decide)
    refine Only.seq (State.raise_only ..) ?_ (by decide)
    refine Only.seq (State.bump_only ..) ?_ (by decide)
    refine Only.seq (State.unarm_only ..) ?_ (by decide)
    exact Only.refl _ _
  · refine Only.ite ?_ ?_
    · refine Only.seq (State.refuseTake_only ..) ?_ (by decide)
      refine Only.seq (State.raise_only ..) ?_ (by decide)
      refine Only.seq (State.bump_only ..) ?_ (by decide)
      exact Only.refl _ _
    · split
      · refine Only.seq (State.refuseTake_only ..) ?_ (by decide)
        exact Only.refl _ _
      · refine Only.ite ?_ ?_
        · refine Only.seq (State.sendMirror_only ..) ?_ (by decide)
          exact Only.refl _ _
        · refine Only.seq (State.acceptTake_only ..) ?_ (by decide)
          exact Only.refl _ _

theorem State.takeMirrored_only (s_a e_a n_a candidate_a mirror_a at__a) : Only ⟨[.out, .pinned, .mem, .ev, .sessions, .salvos, .engine, .flashJournal, .gate, .media, .diskJournal], [Obj.rxFlowState, Obj.txFlowState, Obj.portTxFramesB, Obj.portTxFrames, Obj.eventCount, Obj.eventLastAt, Obj.eventLastSubject, Obj.portTxBytesB, Obj.portTxBytes, Obj.staleTakes, Obj.orderConflicts], [0x40000004, 0x40000008]⟩ s_a (State.takeMirrored s_a e_a n_a candidate_a mirror_a at__a) := by
  unfold State.takeMirrored
  refine Only.ite ?_ ?_
  · refine Only.seq (State.takeSteps_only ..) ?_ (by decide)
    exact Only.refl _ _
  · split
    · refine Only.seq (State.refuseTake_only ..) ?_ (by decide)
      exact Only.refl _ _
    · refine Only.seq (State.acceptTake_only ..) ?_ (by decide)
      exact Only.refl _ _

theorem State.release_only (s_a e_a n_a) : Only ⟨[.out, .pinned, .mem, .ev, .sessions, .salvos, .flashJournal, .gate, .media, .diskJournal], [Obj.rxFlowState, Obj.txFlowState, Obj.portTxFramesB, Obj.portTxFrames, Obj.eventCount, Obj.eventLastAt, Obj.eventLastSubject, Obj.portTxBytesB, Obj.portTxBytes], [0x40000004, 0x40000008]⟩ s_a (State.release s_a e_a n_a) := by
  unfold State.release
  split
  · refine Only.seq (State.replySalvo_only ..) ?_ (by decide)
    refine Only.seq (State.freeSalvo_only ..) ?_ (by decide)
    exact Only.refl _ _
  · refine Only.seq (State.replySalvo_only ..) ?_ (by decide)
    refine Only.seq (State.unarm_only ..) ?_ (by decide)
    exact Only.refl _ _

theorem State.afterArm_only (s_a e_a n_a mirror_a) : Only ⟨[.out, .pinned, .mem, .ev, .sessions, .salvos, .engine, .flashJournal, .gate, .media, .diskJournal], [Obj.eventCount, Obj.eventLastAt, Obj.eventLastSubject, Obj.rxFlowState, Obj.txFlowState, Obj.portTxFramesB, Obj.portTxFrames, Obj.portTxBytesB, Obj.portTxBytes, Obj.staleTakes, Obj.orderConflicts], [0x40000004, 0x40000008]⟩ s_a (State.afterArm s_a e_a n_a mirror_a) := by
  unfold State.afterArm
  extract_lets +onlyGivenNames x1
  have hx1 : Only ⟨[.out, .pinned, .mem, .ev, .sessions, .salvos, .engine, .flashJournal, .gate, .media, .diskJournal], [Obj.eventCount, Obj.eventLastAt, Obj.eventLastSubject, Obj.rxFlowState, Obj.txFlowState, Obj.portTxFramesB, Obj.portTxFrames, Obj.portTxBytesB, Obj.portTxBytes, Obj.staleTakes, Obj.orderConflicts], [0x40000004, 0x40000008]⟩ s_a x1 := by
    subst x1
    refine Only.seq (State.armDone_only ..) ?_ (by decide)
    exact Only.refl _ _
  clear_value x1
  split
  · refine Only.ite ?_ ?_
    · refine Only.seq (State.takeSteps_only ..) ?_ (by decide)
      exact hx1
    · refine Only.seq (State.refuseSalvo_only ..) ?_ (by decide)
      exact hx1
  · refine Only.seq (State.replySalvo_only ..) ?_ (by decide)
    exact hx1

theorem State.armOp_only (s_a e_a n_a) : Only ⟨[.out, .pinned, .mem, .ev, .sessions, .salvos, .engine, .flashJournal, .gate, .media, .diskJournal], [Obj.eventCount, Obj.eventLastAt, Obj.eventLastSubject, Obj.armRefusals, Obj.rxFlowState, Obj.portTxBytesB, Obj.portTxBytes, Obj.portTxFramesB, Obj.portTxFrames, Obj.txFlowState, Obj.staleTakes, Obj.orderConflicts], [0x40000004, 0x40000008]⟩ s_a (State.armOp s_a e_a n_a) := by
  unfold State.armOp
  split
  rename_i v1 t2 e3
  have ht2 := Only.mono (b := ⟨[.out, .pinned, .mem, .ev, .sessions, .salvos, .engine, .flashJournal, .gate, .media, .diskJournal], [Obj.eventCount, Obj.eventLastAt, Obj.eventLastSubject, Obj.armRefusals, Obj.rxFlowState, Obj.portTxBytesB, Obj.portTxBytes, Obj.portTxFramesB, Obj.portTxFrames, Obj.txFlowState, Obj.staleTakes, Obj.orderConflicts], [0x40000004, 0x40000008]⟩) (Only.snd e3 (State.armStart_only ..)) (by decide)
  refine Only.ite ?_ ?_
  · exact ht2
  · refine Only.ite ?_ ?_
    · refine Only.seq (State.sendMirror_only ..) ?_ (by decide)
      exact ht2
    · refine Only.seq (State.afterArm_only ..) ?_ (by decide)
      exact ht2

theorem State.runOp_only (s_a e_a) : Only ⟨[.out, .pinned, .mem, .ev, .sessions, .salvos, .engine, .flashJournal, .gate, .media, .diskJournal], [Obj.armRefusals, Obj.eventCount, Obj.eventLastAt, Obj.eventLastSubject, Obj.rxFlowState, Obj.txFlowState, Obj.portTxFramesB, Obj.portTxFrames, Obj.portTxBytesB, Obj.portTxBytes, Obj.staleTakes, Obj.orderConflicts], [0x40000004, 0x40000008]⟩ s_a (State.runOp s_a e_a) := by
  unfold State.runOp
  extract_lets +onlyGivenNames x1
  extract_lets +onlyGivenNames x2
  split
  · refine Only.seq (State.refuseSalvo_only ..) ?_ (by decide)
    exact Only.refl _ _
  · split
    · refine Only.seq (State.armOp_only ..) ?_ (by decide)
      exact Only.refl _ _
    · refine Only.ite ?_ ?_
      · refine Only.seq (State.armOp_only ..) ?_ (by decide)
        exact Only.refl _ _
      · refine Only.seq (State.takeSteps_only ..) ?_ (by decide)
        exact Only.refl _ _
    · refine Only.ite ?_ ?_
      · refine Only.seq (State.sendMirror_only ..) ?_ (by decide)
        exact Only.refl _ _
      · refine Only.seq (State.release_only ..) ?_ (by decide)
        refine Only.seq (State.setMirror_only ..) ?_ (by decide)
        exact Only.refl _ _
    · refine Only.ite ?_ ?_
      · refine Only.seq (State.sendMirror_only ..) ?_ (by decide)
        exact Only.refl _ _
      · refine Only.seq (State.release_only ..) ?_ (by decide)
        exact Only.refl _ _
    · refine Only.seq (State.editSalvo_only ..) ?_ (by decide)
      exact Only.refl _ _

theorem State.pump_only (k : Nat) (s : State) : Only ⟨[.out, .pinned, .mem, .ev, .sessions, .salvos, .engine, .flashJournal, .gate, .media, .diskJournal], [Obj.eventCount, Obj.eventLastAt, Obj.eventLastSubject, Obj.armRefusals, Obj.rxFlowState, Obj.portTxBytesB, Obj.portTxBytes, Obj.portTxFramesB, Obj.portTxFrames, Obj.txFlowState, Obj.staleTakes, Obj.orderConflicts], [0x40000004, 0x40000008]⟩ s (State.pump k s) := by
  induction k generalizing s with
  | zero => exact Only.refl _ s
  | succ k ih =>
    unfold State.pump
    split
    · exact (ih _).seq ((State.runOp_only ..).seq (Only.upd (r := ⟨[.out, .pinned, .mem, .ev, .sessions, .salvos, .engine, .flashJournal, .gate, .media, .diskJournal], [Obj.eventCount, Obj.eventLastAt, Obj.eventLastSubject, Obj.armRefusals, Obj.rxFlowState, Obj.portTxBytesB, Obj.portTxBytes, Obj.portTxFramesB, Obj.portTxFrames, Obj.txFlowState, Obj.staleTakes, Obj.orderConflicts], [0x40000004, 0x40000008]⟩) (fun p => by cases p <;> first | exact .inr rfl | exact .inl (by decide))))
    · exact Only.refl _ s

theorem State.toEngine_only (s_a e_a) : Only ⟨[.out, .pinned, .mem, .ev, .sessions, .salvos, .engine, .flashJournal, .gate, .media, .diskJournal], [Obj.armRefusals, Obj.eventCount, Obj.eventLastAt, Obj.eventLastSubject, Obj.rxFlowState, Obj.txFlowState, Obj.portTxFramesB, Obj.portTxFrames, Obj.portTxBytesB, Obj.portTxBytes, Obj.staleTakes, Obj.orderConflicts], [0x40000004, 0x40000008]⟩ s_a (State.toEngine s_a e_a) := by
  unfold State.toEngine
  refine Only.ite ?_ ?_
  · refine Only.seq (Only.upd (r := ⟨[.engine], [], []⟩) (s := s_a) (fun p => by cases p <;> first | exact .inr rfl | exact .inl (by decide))) ?_ (by decide)
    exact Only.refl _ _
  · refine Only.seq (State.runOp_only ..) ?_ (by decide)
    exact Only.refl _ _

theorem State.mirrorEnd_only (s_a mirror_a) : Only ⟨[.out, .pinned, .mem, .ev, .sessions, .salvos, .engine, .flashJournal, .gate, .media, .diskJournal], [Obj.rxFlowState, Obj.txFlowState, Obj.portTxFramesB, Obj.portTxFrames, Obj.eventCount, Obj.eventLastAt, Obj.eventLastSubject, Obj.portTxBytesB, Obj.portTxBytes, Obj.staleTakes, Obj.orderConflicts, Obj.armRefusals], [0x40000004, 0x40000008]⟩ s_a (State.mirrorEnd s_a mirror_a) := by
  unfold State.mirrorEnd
  split
  · exact Only.refl _ _
  · extract_lets +onlyGivenNames x1
    extract_lets +onlyGivenNames x2
    extract_lets +onlyGivenNames x3
    have hx3 : Only ⟨[.out, .pinned, .mem, .ev, .sessions, .salvos, .engine, .flashJournal, .gate, .media, .diskJournal], [Obj.rxFlowState, Obj.txFlowState, Obj.portTxFramesB, Obj.portTxFrames, Obj.eventCount, Obj.eventLastAt, Obj.eventLastSubject, Obj.portTxBytesB, Obj.portTxBytes, Obj.staleTakes, Obj.orderConflicts, Obj.armRefusals], [0x40000004, 0x40000008]⟩ s_a x3 := by
      subst x3
      refine Only.seq (Only.upd (r := ⟨[.engine], [], []⟩) (s := s_a) (fun p => by cases p <;> first | exact .inr rfl | exact .inl (by decide))) ?_ (by decide)
      exact Only.refl _ _
    clear_value x3
    extract_lets +onlyGivenNames x4
    have hx4 : Only ⟨[.out, .pinned, .mem, .ev, .sessions, .salvos, .engine, .flashJournal, .gate, .media, .diskJournal], [Obj.rxFlowState, Obj.txFlowState, Obj.portTxFramesB, Obj.portTxFrames, Obj.eventCount, Obj.eventLastAt, Obj.eventLastSubject, Obj.portTxBytesB, Obj.portTxBytes, Obj.staleTakes, Obj.orderConflicts, Obj.armRefusals], [0x40000004, 0x40000008]⟩ s_a x4 := by
      subst x4
      refine Only.ite ?_ ?_
      · refine Only.seq (State.refuseSalvo_only ..) ?_ (by decide)
        exact hx3
      · refine Only.ite ?_ ?_
        · split
          · refine Only.seq (State.takeMirrored_only ..) ?_ (by decide)
            exact hx3
          · exact hx3
        · split
          · refine Only.seq (State.afterArm_only ..) ?_ (by decide)
            exact hx3
          · refine Only.seq (State.afterArm_only ..) ?_ (by decide)
            exact hx3
          · refine Only.seq (State.release_only ..) ?_ (by decide)
            refine Only.seq (State.setMirror_only ..) ?_ (by decide)
            exact hx3
    clear_value x4
    refine Only.seq (State.pump_only ..) ?_ (by decide)
    exact hx4

theorem execSalvoMirrorAck_only (dt_a n_a s_a) : OnlyR ⟨[.out, .now, .tc, .pinned, .mem, .ev, .sessions, .salvos, .engine, .flashJournal, .gate, .media, .diskJournal], [Obj.rxFlowState, Obj.txFlowState, Obj.portTxFramesB, Obj.portTxFrames, Obj.eventCount, Obj.eventLastAt, Obj.eventLastSubject, Obj.portTxBytesB, Obj.portTxBytes, Obj.staleTakes, Obj.orderConflicts, Obj.armRefusals], [0x40000004, 0x40000008]⟩ s_a (execSalvoMirrorAck dt_a n_a s_a) := by
  unfold execSalvoMirrorAck
  refine actIf_only (hk3 := fun u1 => ?_) (l := (by decide)) ..
  refine Only.seq (State.mirrorEnd_only ..) ?_ (by decide)
  exact Only.refl _ _

theorem execTakeMirrorAck_only (dt_a n_a s_a) : OnlyR ⟨[.out, .now, .tc, .pinned, .mem, .ev, .sessions, .salvos, .engine, .flashJournal, .gate, .media, .diskJournal], [Obj.rxFlowState, Obj.txFlowState, Obj.portTxFramesB, Obj.portTxFrames, Obj.eventCount, Obj.eventLastAt, Obj.eventLastSubject, Obj.portTxBytesB, Obj.portTxBytes, Obj.staleTakes, Obj.orderConflicts, Obj.armRefusals], [0x40000004, 0x40000008]⟩ s_a (execTakeMirrorAck dt_a n_a s_a) := by
  unfold execTakeMirrorAck
  refine actIf_only (hk3 := fun u1 => ?_) (l := (by decide)) ..
  refine Only.seq (State.mirrorEnd_only ..) ?_ (by decide)
  exact Only.refl _ _

end Sys2Proof.Machine
end

