-- ==== Sys2Proof/Laws/OnlyTwin.lean ====
section
/-!
SUPPORT. What the functions of Machine/Twin.lean may change (`Only` of Laws/Only.lean).
-/
namespace Sys2Proof.Machine
set_option Elab.async false

theorem State.raiseTwin_only (s_a source_a) : Only ⟨[.out, .pinned, .ev, .flashJournal, .diskJournal], [Obj.eventCount, Obj.eventLastAt, Obj.eventLastSubject], [0x40000004, 0x40000008]⟩ s_a (State.raiseTwin s_a source_a) := by
  unfold State.raiseTwin
  refine Only.seq (State.raise_only ..) ?_ (by decide)
  exact Only.refl _ _

theorem State.readyStandby_only (s_a) : Only ⟨[.out, .pinned, .ev, .flashJournal, .diskJournal], [Obj.twinReadiness, Obj.twinNotReady, Obj.eventCount, Obj.eventLastAt, Obj.eventLastSubject], [0x40000004, 0x40000008]⟩ s_a (State.readyStandby s_a) := by
  unfold State.readyStandby
  extract_lets +onlyGivenNames x1
  extract_lets +onlyGivenNames x2
  extract_lets +onlyGivenNames x3
  extract_lets +onlyGivenNames x4
  subst x4
  extract_lets +onlyGivenNames x5
  subst x5
  extract_lets +onlyGivenNames x6
  have hx6 : Only ⟨[.out, .pinned, .ev, .flashJournal, .diskJournal], [Obj.twinReadiness, Obj.twinNotReady, Obj.eventCount, Obj.eventLastAt, Obj.eventLastSubject], [0x40000004, 0x40000008]⟩ s_a x6 := by
    subst x6
    refine Only.seq (State.setN_only ..) ?_ (by decide)
    refine Only.seq (State.setN_only ..) ?_ (by decide)
    exact Only.refl _ _
  clear_value x6
  refine Only.ite ?_ ?_
  · refine Only.seq (State.raiseTwin_only ..) ?_ (by decide)
    exact hx6
  · refine Only.ite ?_ ?_
    · refine Only.seq (State.raiseTwin_only ..) ?_ (by decide)
      exact hx6
    · exact hx6

theorem State.readyActive_only (s_a) : Only ⟨[], [Obj.twinReadiness, Obj.twinNotReady, Obj.twinCopyStale], []⟩ s_a (State.readyActive s_a) := by
  unfold State.readyActive
  extract_lets +onlyGivenNames x1
  extract_lets +onlyGivenNames x2
  subst x2
  extract_lets +onlyGivenNames x3
  extract_lets +onlyGivenNames x4
  have hx4 : Only ⟨[], [Obj.twinReadiness, Obj.twinNotReady, Obj.twinCopyStale], []⟩ s_a x4 := by
    subst x4
    refine Only.seq (State.setN_only ..) ?_ (by decide)
    refine Only.seq (State.setN_only ..) ?_ (by decide)
    exact Only.refl _ _
  clear_value x4
  refine Only.optElim (fun x5 => ?_) ?_
  · refine Only.seq (State.setN_only ..) ?_ (by decide)
    exact hx4
  · exact hx4

theorem State.refreshTwin_only (s_a) : Only ⟨[.out, .pinned, .ev, .flashJournal, .diskJournal], [Obj.twinReadiness, Obj.twinNotReady, Obj.eventCount, Obj.eventLastAt, Obj.eventLastSubject, Obj.twinCopyStale, Obj.twinResyncProgress, Obj.twinHealth], [0x40000004, 0x40000008]⟩ s_a (State.refreshTwin s_a) := by
  unfold State.refreshTwin
  extract_lets +onlyGivenNames x1
  have hx1 : Only ⟨[.out, .pinned, .ev, .flashJournal, .diskJournal], [Obj.twinReadiness, Obj.twinNotReady, Obj.eventCount, Obj.eventLastAt, Obj.eventLastSubject, Obj.twinCopyStale, Obj.twinResyncProgress, Obj.twinHealth], [0x40000004, 0x40000008]⟩ s_a x1 := by
    subst x1
    refine Only.ite ?_ ?_
    · refine Only.seq (State.readyStandby_only ..) ?_ (by decide)
      exact Only.refl _ _
    · refine Only.ite ?_ ?_
      · refine Only.seq (State.readyActive_only ..) ?_ (by decide)
        exact Only.refl _ _
      · exact Only.refl _ _
  clear_value x1
  extract_lets +onlyGivenNames x2
  have hx2 : Only ⟨[.out, .pinned, .ev, .flashJournal, .diskJournal], [Obj.twinReadiness, Obj.twinNotReady, Obj.eventCount, Obj.eventLastAt, Obj.eventLastSubject, Obj.twinCopyStale, Obj.twinResyncProgress, Obj.twinHealth], [0x40000004, 0x40000008]⟩ s_a x2 := by
    subst x2
    refine Only.seq (State.setN_only ..) ?_ (by decide)
    exact hx1
  clear_value x2
  refine Only.seq (State.setN_only ..) ?_ (by decide)
  exact hx2

theorem State.startResync_only (s_a) : Only ⟨[.fresh, .tw], [Obj.twinResyncProgress], []⟩ s_a (State.startResync s_a) := by
  unfold State.startResync
  split
  rename_i v1 t2 e3
  have ht2 := Only.mono (b := ⟨[.fresh, .tw], [Obj.twinResyncProgress], []⟩) (Only.snd e3 (State.draw_only ..)) (by decide)
  extract_lets +onlyGivenNames x4
  refine Only.seq (State.setN_only ..) ?_ (by decide)
  refine Only.seq (Only.upd (r := ⟨[.tw], [], []⟩) (s := t2) (fun p => by cases p <;> first | exact .inr rfl | exact .inl (by decide))) ?_ (by decide)
  exact ht2

theorem State.wantResync_only (s_a) : Only ⟨[.fresh, .tw], [Obj.twinResyncProgress], []⟩ s_a (State.wantResync s_a) := by
  unfold State.wantResync
  refine Only.ite ?_ ?_
  · refine Only.seq (State.startResync_only ..) ?_ (by decide)
    exact Only.refl _ _
  · exact Only.refl _ _

theorem State.resyncCause_only (s_a) : Only ⟨[.fresh, .tw], [Obj.twinResyncProgress], []⟩ s_a (State.resyncCause s_a) := by
  unfold State.resyncCause
  refine Only.ite ?_ ?_
  · extract_lets +onlyGivenNames x1
    extract_lets +onlyGivenNames x2
    have hx2 : Only ⟨[.fresh, .tw], [Obj.twinResyncProgress], []⟩ s_a x2 := by
      subst x2
      refine Only.seq (Only.upd (r := ⟨[.tw], [], []⟩) (s := s_a) (fun p => by cases p <;> first | exact .inr rfl | exact .inl (by decide))) ?_ (by decide)
      exact Only.refl _ _
    clear_value x2
    refine Only.ite ?_ ?_
    · refine Only.seq (State.startResync_only ..) ?_ (by decide)
      exact hx2
    · exact hx2
  · refine Only.seq (State.wantResync_only ..) ?_ (by decide)
    exact Only.refl _ _

theorem State.loseMirror_only (s_a) : Only ⟨[.out, .fresh, .pinned, .ev, .tw, .flashJournal, .diskJournal], [Obj.twinResyncProgress, Obj.twinReadiness, Obj.twinNotReady, Obj.eventCount, Obj.eventLastAt, Obj.eventLastSubject, Obj.twinCopyStale, Obj.twinHealth], [0x40000004, 0x40000008]⟩ s_a (State.loseMirror s_a) := by
  unfold State.loseMirror
  extract_lets +onlyGivenNames x1
  extract_lets +onlyGivenNames x2
  have hx2 : Only ⟨[.out, .fresh, .pinned, .ev, .tw, .flashJournal, .diskJournal], [Obj.twinResyncProgress, Obj.twinReadiness, Obj.twinNotReady, Obj.eventCount, Obj.eventLastAt, Obj.eventLastSubject, Obj.twinCopyStale, Obj.twinHealth], [0x40000004, 0x40000008]⟩ s_a x2 := by
    subst x2
    refine Only.seq (Only.upd (r := ⟨[.tw], [], []⟩) (s := s_a) (fun p => by cases p <;> first | exact .inr rfl | exact .inl (by decide))) ?_ (by decide)
    exact Only.refl _ _
  clear_value x2
  refine Only.seq (State.refreshTwin_only ..) ?_ (by decide)
  refine Only.ite ?_ ?_
  · refine Only.seq (State.startResync_only ..) ?_ (by decide)
    exact hx2
  · exact hx2

theorem execArbPatternRecognised_only (dt_a first_a second_a s_a) : OnlyR ⟨[.out, .now, .tc, .pinned, .ev, .tw, .flashJournal, .diskJournal], [Obj.twinArbPattern, Obj.eventCount, Obj.eventLastAt, Obj.eventLastSubject], [0x40000004, 0x40000008]⟩ s_a (execArbPatternRecognised dt_a first_a second_a s_a) := by
  unfold execArbPatternRecognised
  refine actIf_only (hk3 := fun u1 => ?_) (l := (by decide)) ..
  extract_lets +onlyGivenNames x2
  subst x2
  extract_lets +onlyGivenNames x3
  extract_lets +onlyGivenNames x4
  extract_lets +onlyGivenNames x5
  extract_lets +onlyGivenNames x6
  have hx6 : Only ⟨[.out, .now, .tc, .pinned, .ev, .tw, .flashJournal, .diskJournal], [Obj.twinArbPattern, Obj.eventCount, Obj.eventLastAt, Obj.eventLastSubject], [0x40000004, 0x40000008]⟩ u1 x6 := by
    subst x6
    refine Only.seq (State.setN_only ..) ?_ (by decide)
    refine Only.seq (Only.upd (r := ⟨[.tw], [], []⟩) (s := u1) (fun p => by cases p <;> first | exact .inr rfl | exact .inl (by decide))) ?_ (by decide)
    exact Only.refl _ _
  clear_value x6
  refine Only.ite ?_ ?_
  · refine Only.seq (State.raiseTwin_only ..) ?_ (by decide)
    exact hx6
  · refine Only.ite ?_ ?_
    · refine Only.seq (State.raiseTwin_only ..) ?_ (by decide)
      exact hx6
    · exact hx6

theorem execTwinStatusSend_only (dt_a s_a) : OnlyR ⟨[.out, .now, .tc, .pinned, .ev, .tw, .flashJournal, .diskJournal], [Obj.twinReadiness, Obj.twinNotReady, Obj.eventCount, Obj.eventLastAt, Obj.eventLastSubject, Obj.twinCopyStale, Obj.twinResyncProgress, Obj.twinHealth], [0x40000004, 0x40000008]⟩ s_a (execTwinStatusSend dt_a s_a) := by
  unfold execTwinStatusSend
  refine actIf_only (hk3 := fun u1 => ?_) (l := (by decide)) ..
  extract_lets +onlyGivenNames x2
  extract_lets +onlyGivenNames x3
  have hx3 : Only ⟨[.out, .now, .tc, .pinned, .ev, .tw, .flashJournal, .diskJournal], [Obj.twinReadiness, Obj.twinNotReady, Obj.eventCount, Obj.eventLastAt, Obj.eventLastSubject, Obj.twinCopyStale, Obj.twinResyncProgress, Obj.twinHealth], [0x40000004, 0x40000008]⟩ u1 x3 := by
    subst x3
    refine Only.seq (State.refreshTwin_only ..) ?_ (by decide)
    refine Only.seq (Only.upd (r := ⟨[.tw], [], []⟩) (s := u1) (fun p => by cases p <;> first | exact .inr rfl | exact .inl (by decide))) ?_ (by decide)
    exact Only.refl _ _
  clear_value x3
  refine Only.seq (State.emit_only ..) ?_ (by decide)
  exact hx3

theorem State.showPeer_only (s_a) : Only ⟨[], [Obj.twinPeerRole, Obj.twinPeerPattern], []⟩ s_a (State.showPeer s_a) := by
  unfold State.showPeer
  split
  · refine Only.ite ?_ ?_
    · refine Only.seq (State.setN_only ..) ?_ (by decide)
      refine Only.seq (State.setN_only ..) ?_ (by decide)
      exact Only.refl _ _
    · exact Only.refl _ _
  · exact Only.refl _ _

theorem State.takeBlock_only (s_a b_a) : Only ⟨[.out, .fresh, .pinned, .ev, .tw, .flashJournal, .diskJournal], [Obj.twinPeerOffset, Obj.twinPeerRole, Obj.twinPeerPattern, Obj.eventCount, Obj.eventLastAt, Obj.eventLastSubject, Obj.twinResyncProgress, Obj.twinReadiness, Obj.twinNotReady, Obj.twinCopyStale, Obj.twinHealth], [0x40000004, 0x40000008]⟩ s_a (State.takeBlock s_a b_a) := by
  unfold State.takeBlock
  extract_lets +onlyGivenNames x1
  extract_lets +onlyGivenNames x2
  extract_lets +onlyGivenNames x3
  extract_lets +onlyGivenNames x4
  extract_lets +onlyGivenNames x5
  extract_lets +onlyGivenNames x6
  have hx6 : Only ⟨[.out, .fresh, .pinned, .ev, .tw, .flashJournal, .diskJournal], [Obj.twinPeerOffset, Obj.twinPeerRole, Obj.twinPeerPattern, Obj.eventCount, Obj.eventLastAt, Obj.eventLastSubject, Obj.twinResyncProgress, Obj.twinReadiness, Obj.twinNotReady, Obj.twinCopyStale, Obj.twinHealth], [0x40000004, 0x40000008]⟩ s_a x6 := by
    subst x6
    refine Only.seq (Only.upd (r := ⟨[.tw], [], []⟩) (s := s_a) (fun p => by cases p <;> first | exact .inr rfl | exact .inl (by decide))) ?_ (by decide)
    exact Only.refl _ _
  clear_value x6
  extract_lets +onlyGivenNames x7
  have hx7 : Only ⟨[.out, .fresh, .pinned, .ev, .tw, .flashJournal, .diskJournal], [Obj.twinPeerOffset, Obj.twinPeerRole, Obj.twinPeerPattern, Obj.eventCount, Obj.eventLastAt, Obj.eventLastSubject, Obj.twinResyncProgress, Obj.twinReadiness, Obj.twinNotReady, Obj.twinCopyStale, Obj.twinHealth], [0x40000004, 0x40000008]⟩ s_a x7 := by
    subst x7
    refine Only.seq (State.showPeer_only ..) ?_ (by decide)
    refine Only.ite ?_ ?_
    · exact hx6
    · refine Only.seq (State.setVal_only ..) ?_ (by decide)
      exact hx6
  clear_value x7
  extract_lets +onlyGivenNames x8
  extract_lets +onlyGivenNames x9
  extract_lets +onlyGivenNames x10
  have hx10 : Only ⟨[.out, .fresh, .pinned, .ev, .tw, .flashJournal, .diskJournal], [Obj.twinPeerOffset, Obj.twinPeerRole, Obj.twinPeerPattern, Obj.eventCount, Obj.eventLastAt, Obj.eventLastSubject, Obj.twinResyncProgress, Obj.twinReadiness, Obj.twinNotReady, Obj.twinCopyStale, Obj.twinHealth], [0x40000004, 0x40000008]⟩ s_a x10 := by
    subst x10
    refine Only.ite ?_ ?_
    · refine Only.seq (State.raiseTwin_only ..) ?_ (by decide)
      refine Only.seq (Only.upd (r := ⟨[.tw], [], []⟩) (s := x7) (fun p => by cases p <;> first | exact .inr rfl | exact .inl (by decide))) ?_ (by decide)
      exact hx7
    · exact hx7
  clear_value x10
  extract_lets +onlyGivenNames x11
  have hx11 : Only ⟨[.out, .fresh, .pinned, .ev, .tw, .flashJournal, .diskJournal], [Obj.twinPeerOffset, Obj.twinPeerRole, Obj.twinPeerPattern, Obj.eventCount, Obj.eventLastAt, Obj.eventLastSubject, Obj.twinResyncProgress, Obj.twinReadiness, Obj.twinNotReady, Obj.twinCopyStale, Obj.twinHealth], [0x40000004, 0x40000008]⟩ s_a x11 := by
    subst x11
    refine Only.ite ?_ ?_
    · refine Only.seq (State.loseMirror_only ..) ?_ (by decide)
      exact hx10
    · refine Only.seq (State.refreshTwin_only ..) ?_ (by decide)
      exact hx10
  clear_value x11
  refine Only.ite ?_ ?_
  · refine Only.seq (State.refreshTwin_only ..) ?_ (by decide)
    refine Only.seq (State.resyncCause_only ..) ?_ (by decide)
    exact hx11
  · exact hx11

theorem execTwinStatusBlock_only (dt_a b_a s_a) : OnlyR ⟨[.out, .fresh, .now, .tc, .pinned, .ev, .tw, .flashJournal, .diskJournal], [Obj.twinPeerOffset, Obj.twinPeerRole, Obj.twinPeerPattern, Obj.eventCount, Obj.eventLastAt, Obj.eventLastSubject, Obj.twinResyncProgress, Obj.twinReadiness, Obj.twinNotReady, Obj.twinCopyStale, Obj.twinHealth], [0x40000004, 0x40000008]⟩ s_a (execTwinStatusBlock dt_a b_a s_a) := by
  unfold execTwinStatusBlock
  refine actIf_only (hk3 := fun u1 => ?_) (l := (by decide)) ..
  refine Only.seq (State.takeBlock_only ..) ?_ (by decide)
  exact Only.refl _ _

theorem execTwinPeerLost_only (dt_a s_a) : OnlyR ⟨[.out, .now, .tc, .pinned, .ev, .tw, .flashJournal, .diskJournal], [Obj.twinLinkState, Obj.twinPeerRole, Obj.twinPeerPattern, Obj.eventCount, Obj.eventLastAt, Obj.eventLastSubject, Obj.twinReadiness, Obj.twinNotReady, Obj.twinCopyStale, Obj.twinResyncProgress, Obj.twinHealth], [0x40000004, 0x40000008]⟩ s_a (execTwinPeerLost dt_a s_a) := by
  unfold execTwinPeerLost
  refine actIf_only (hk3 := fun u1 => ?_) (l := (by decide)) ..
  extract_lets +onlyGivenNames x2
  have hx2 : Only ⟨[.out, .now, .tc, .pinned, .ev, .tw, .flashJournal, .diskJournal], [Obj.twinLinkState, Obj.twinPeerRole, Obj.twinPeerPattern, Obj.eventCount, Obj.eventLastAt, Obj.eventLastSubject, Obj.twinReadiness, Obj.twinNotReady, Obj.twinCopyStale, Obj.twinResyncProgress, Obj.twinHealth], [0x40000004, 0x40000008]⟩ u1 x2 := by
    subst x2
    refine Only.seq (State.setN_only ..) ?_ (by decide)
    refine Only.seq (State.setN_only ..) ?_ (by decide)
    refine Only.seq (State.setN_only ..) ?_ (by decide)
    exact Only.refl _ _
  clear_value x2
  extract_lets +onlyGivenNames x3
  extract_lets +onlyGivenNames x4
  have hx4 : Only ⟨[.out, .now, .tc, .pinned, .ev, .tw, .flashJournal, .diskJournal], [Obj.twinLinkState, Obj.twinPeerRole, Obj.twinPeerPattern, Obj.eventCount, Obj.eventLastAt, Obj.eventLastSubject, Obj.twinReadiness, Obj.twinNotReady, Obj.twinCopyStale, Obj.twinResyncProgress, Obj.twinHealth], [0x40000004, 0x40000008]⟩ u1 x4 := by
    subst x4
    refine Only.seq (Only.upd (r := ⟨[.tw], [], []⟩) (s := x2) (fun p => by cases p <;> first | exact .inr rfl | exact .inl (by decide))) ?_ (by decide)
    exact hx2
  clear_value x4
  refine Only.seq (State.refreshTwin_only ..) ?_ (by decide)
  refine Only.seq (State.raiseTwin_only ..) ?_ (by decide)
  exact hx4

theorem execTwinPeerFound_only (dt_a s_a) : OnlyR ⟨[.out, .fresh, .now, .tc, .pinned, .ev, .tw, .flashJournal, .diskJournal], [Obj.twinLinkState, Obj.twinPeerRole, Obj.twinPeerPattern, Obj.eventCount, Obj.eventLastAt, Obj.eventLastSubject, Obj.twinResyncProgress, Obj.twinReadiness, Obj.twinNotReady, Obj.twinCopyStale, Obj.twinHealth], [0x40000004, 0x40000008]⟩ s_a (execTwinPeerFound dt_a s_a) := by
  unfold execTwinPeerFound
  refine actIf_only (hk3 := fun u1 => ?_) (l := (by decide)) ..
  extract_lets +onlyGivenNames x2
  have hx2 : Only ⟨[.out, .fresh, .now, .tc, .pinned, .ev, .tw, .flashJournal, .diskJournal], [Obj.twinLinkState, Obj.twinPeerRole, Obj.twinPeerPattern, Obj.eventCount, Obj.eventLastAt, Obj.eventLastSubject, Obj.twinResyncProgress, Obj.twinReadiness, Obj.twinNotReady, Obj.twinCopyStale, Obj.twinHealth], [0x40000004, 0x40000008]⟩ u1 x2 := by
    subst x2
    refine Only.seq (State.showPeer_only ..) ?_ (by decide)
    refine Only.seq (State.setN_only ..) ?_ (by decide)
    exact Only.refl _ _
  clear_value x2
  extract_lets +onlyGivenNames x3
  extract_lets +onlyGivenNames x4
  have hx4 : Only ⟨[.out, .fresh, .now, .tc, .pinned, .ev, .tw, .flashJournal, .diskJournal], [Obj.twinLinkState, Obj.twinPeerRole, Obj.twinPeerPattern, Obj.eventCount, Obj.eventLastAt, Obj.eventLastSubject, Obj.twinResyncProgress, Obj.twinReadiness, Obj.twinNotReady, Obj.twinCopyStale, Obj.twinHealth], [0x40000004, 0x40000008]⟩ u1 x4 := by
    subst x4
    refine Only.seq (State.raiseTwin_only ..) ?_ (by decide)
    refine Only.seq (Only.upd (r := ⟨[.tw], [], []⟩) (s := x2) (fun p => by cases p <;> first | exact .inr rfl | exact .inl (by decide))) ?_ (by decide)
    exact hx2
  clear_value x4
  refine Only.seq (State.refreshTwin_only ..) ?_ (by decide)
  refine Only.seq (State.resyncCause_only ..) ?_ (by decide)
  exact hx4

theorem execMirrorTimeout_only (dt_a n_a s_a) : OnlyR ⟨[.out, .fresh, .now, .tc, .pinned, .mem, .ev, .sessions, .salvos, .engine, .tw, .flashJournal, .gate, .media, .diskJournal], [Obj.twinResyncProgress, Obj.twinReadiness, Obj.twinNotReady, Obj.eventCount, Obj.eventLastAt, Obj.eventLastSubject, Obj.twinCopyStale, Obj.twinHealth, Obj.rxFlowState, Obj.txFlowState, Obj.portTxFramesB, Obj.portTxFrames, Obj.portTxBytesB, Obj.portTxBytes, Obj.staleTakes, Obj.orderConflicts, Obj.armRefusals], [0x40000004, 0x40000008]⟩ s_a (execMirrorTimeout dt_a n_a s_a) := by
  unfold execMirrorTimeout
  refine actIf_only (hk3 := fun u1 => ?_) (l := (by decide)) ..
  refine Only.seq (State.mirrorEnd_only ..) ?_ (by decide)
  refine Only.seq (State.loseMirror_only ..) ?_ (by decide)
  exact Only.refl _ _

theorem execSalvoMirrorReceive_only (dt_a n_a state_a owner_a changes_a s_a) : OnlyR ⟨[.out, .now, .tc, .salvos], [], []⟩ s_a (execSalvoMirrorReceive dt_a n_a state_a owner_a changes_a s_a) := by
  unfold execSalvoMirrorReceive
  refine actIf_only (hk3 := fun u1 => ?_) (l := (by decide)) ..
  extract_lets +onlyGivenNames x2
  extract_lets +onlyGivenNames x3
  extract_lets +onlyGivenNames x4
  refine Only.seq (State.emit_only ..) ?_ (by decide)
  refine Only.seq (State.setSalvo_only ..) ?_ (by decide)
  exact Only.refl _ _

theorem execTakeMirrorReceive_only (dt_a n_a boundary_a s_a) : OnlyR ⟨[.out, .now, .tc, .salvos, .engine], [], []⟩ s_a (execTakeMirrorReceive dt_a n_a boundary_a s_a) := by
  unfold execTakeMirrorReceive
  refine actIf_only (hk3 := fun u1 => ?_) (l := (by decide)) ..
  extract_lets +onlyGivenNames x2
  extract_lets +onlyGivenNames x3
  extract_lets +onlyGivenNames x4
  have hx4 : Only ⟨[.out, .now, .tc, .salvos, .engine], [], []⟩ u1 x4 := by
    subst x4
    refine Only.seq (Only.upd (r := ⟨[.engine], [], []⟩) (s := u1) (fun p => by cases p <;> first | exact .inr rfl | exact .inl (by decide))) ?_ (by decide)
    exact Only.refl _ _
  clear_value x4
  refine Only.seq (State.emit_only ..) ?_ (by decide)
  refine Only.seq (State.setSalvo_only ..) ?_ (by decide)
  exact hx4

theorem State.usePattern_only (s_a) : Only ⟨[.tw], [], []⟩ s_a (State.usePattern s_a) := by
  unfold State.usePattern
  extract_lets +onlyGivenNames x1
  refine Only.ite ?_ ?_
  · exact Only.refl _ _
  · refine Only.seq (Only.upd (r := ⟨[.tw], [], []⟩) (s := s_a) (fun p => by cases p <;> first | exact .inr rfl | exact .inl (by decide))) ?_ (by decide)
    exact Only.refl _ _

theorem State.newRole_only (s_a) : Only ⟨[.out, .pinned, .ev, .tw, .flashJournal, .diskJournal], [Obj.eventCount, Obj.eventLastAt, Obj.eventLastSubject], [0x40000004, 0x40000008]⟩ s_a (State.newRole s_a).2 := by
  unfold State.newRole
  extract_lets +onlyGivenNames x1
  extract_lets +onlyGivenNames x2
  extract_lets +onlyGivenNames x3
  split
  · refine Only.mk2 ?_
    refine Only.seq (Only.upd (r := ⟨[.tw], [], []⟩) (s := s_a) (fun p => by cases p <;> first | exact .inr rfl | exact .inl (by decide))) ?_ (by decide)
    exact Only.refl _ _
  · split
    · split
      · refine Only.mk2 ?_
        refine Only.ite ?_ ?_
        · exact Only.refl _ _
        · refine Only.seq (State.raiseTwin_only ..) ?_ (by decide)
          refine Only.seq (Only.upd (r := ⟨[.tw], [], []⟩) (s := s_a) (fun p => by cases p <;> first | exact .inr rfl | exact .inl (by decide))) ?_ (by decide)
          exact Only.refl _ _
      · refine Only.mk2 ?_
        exact Only.refl _ _
    · split
      · split
        · refine Only.mk2 ?_
          refine Only.seq (Only.upd (r := ⟨[.tw], [], []⟩) (s := s_a) (fun p => by cases p <;> first | exact .inr rfl | exact .inl (by decide))) ?_ (by decide)
          exact Only.refl _ _
        · refine Only.mk2 ?_
          exact Only.refl _ _
      · refine Only.mk2 ?_
        exact Only.refl _ _

theorem State.dualActive_only (s_a) : Only ⟨[.out, .pinned, .ev, .tw, .flashJournal, .diskJournal], [Obj.eventCount, Obj.eventLastAt, Obj.eventLastSubject], [0x40000004, 0x40000008]⟩ s_a (State.dualActive s_a) := by
  unfold State.dualActive
  extract_lets +onlyGivenNames x1
  extract_lets +onlyGivenNames x2
  extract_lets +onlyGivenNames x3
  extract_lets +onlyGivenNames x4
  extract_lets +onlyGivenNames x5
  extract_lets +onlyGivenNames x6
  have hx6 : Only ⟨[.out, .pinned, .ev, .tw, .flashJournal, .diskJournal], [Obj.eventCount, Obj.eventLastAt, Obj.eventLastSubject], [0x40000004, 0x40000008]⟩ s_a x6 := by
    subst x6
    refine Only.seq (Only.upd (r := ⟨[.tw], [], []⟩) (s := s_a) (fun p => by cases p <;> first | exact .inr rfl | exact .inl (by decide))) ?_ (by decide)
    exact Only.refl _ _
  clear_value x6
  refine Only.ite ?_ ?_
  · refine Only.seq (State.raiseTwin_only ..) ?_ (by decide)
    exact hx6
  · exact hx6

theorem State.decideRole_only (s_a) : Only ⟨[.out, .pinned, .ev, .tw, .flashJournal, .diskJournal], [Obj.eventCount, Obj.eventLastAt, Obj.eventLastSubject], [0x40000004, 0x40000008]⟩ s_a (State.decideRole s_a).2 := by
  unfold State.decideRole
  extract_lets +onlyGivenNames x1
  have hx1 : Only ⟨[.out, .pinned, .ev, .tw, .flashJournal, .diskJournal], [Obj.eventCount, Obj.eventLastAt, Obj.eventLastSubject], [0x40000004, 0x40000008]⟩ s_a x1 := by
    subst x1
    refine Only.seq (State.usePattern_only ..) ?_ (by decide)
    exact Only.refl _ _
  clear_value x1
  extract_lets +onlyGivenNames x2
  have hx2 : Only ⟨[.out, .pinned, .ev, .tw, .flashJournal, .diskJournal], [Obj.eventCount, Obj.eventLastAt, Obj.eventLastSubject], [0x40000004, 0x40000008]⟩ s_a x2.2 := by
    subst x2
    refine Only.seq (State.newRole_only ..) ?_ (by decide)
    exact hx1
  clear_value x2
  split
  · extract_lets +onlyGivenNames x3
    extract_lets +onlyGivenNames x4
    have hx4 : Only ⟨[.out, .pinned, .ev, .tw, .flashJournal, .diskJournal], [Obj.eventCount, Obj.eventLastAt, Obj.eventLastSubject], [0x40000004, 0x40000008]⟩ s_a x4 := by
      subst x4
      refine Only.ite ?_ ?_
      · refine Only.seq (State.raiseTwin_only ..) ?_ (by decide)
        exact hx2
      · exact hx2
    clear_value x4
    refine Only.mk2 ?_
    refine Only.seq (Only.upd (r := ⟨[.tw], [], []⟩) (s := x4) (fun p => by cases p <;> first | exact .inr rfl | exact .inl (by decide))) ?_ (by decide)
    exact hx4
  · refine Only.mk2 ?_
    refine Only.seq (State.dualActive_only ..) ?_ (by decide)
    exact hx2

theorem State.announcePort_only (s_a port_a) : Only ⟨[.out, .pinned, .ev, .flashJournal, .diskJournal], [Obj.portTxFramesB, Obj.portTxFrames, Obj.eventCount, Obj.eventLastAt, Obj.eventLastSubject, Obj.portTxBytesB, Obj.portTxBytes], [0x40000004, 0x40000008]⟩ s_a (State.announcePort s_a port_a) := by
  unfold State.announcePort
  refine Only.foldl (fun u1 x2 => ?_) ?_
  · refine Only.ite ?_ ?_
    · refine Only.seq (State.sendArp_only ..) ?_ (by decide)
      exact Only.refl _ _
    · refine Only.seq (State.sendArp_only ..) ?_ (by decide)
      exact Only.refl _ _
  · exact Only.refl _ _

theorem State.announce_only (s_a) : Only ⟨[.out, .pinned, .ev, .flashJournal, .diskJournal], [Obj.portTxFramesB, Obj.portTxFrames, Obj.eventCount, Obj.eventLastAt, Obj.eventLastSubject, Obj.portTxBytesB, Obj.portTxBytes], [0x40000004, 0x40000008]⟩ s_a (State.announce s_a) := by
  unfold State.announce
  refine Only.foldl (fun u1 x2 => ?_) ?_
  · refine Only.seq (State.announcePort_only ..) ?_ (by decide)
    exact Only.refl _ _
  · exact Only.refl _ _

theorem execTwinAnnounce_only (dt_a s_a) : OnlyR ⟨[.out, .now, .tc, .pinned, .ev, .tw, .flashJournal, .diskJournal], [Obj.portTxFramesB, Obj.portTxFrames, Obj.eventCount, Obj.eventLastAt, Obj.eventLastSubject, Obj.portTxBytesB, Obj.portTxBytes], [0x40000004, 0x40000008]⟩ s_a (execTwinAnnounce dt_a s_a) := by
  unfold execTwinAnnounce
  refine actIf_only (hk3 := fun u1 => ?_) (l := (by decide)) ..
  refine Only.seq (State.announce_only ..) ?_ (by decide)
  refine Only.seq (Only.upd (r := ⟨[.tw], [], []⟩) (s := u1) (fun p => by cases p <;> first | exact .inr rfl | exact .inl (by decide))) ?_ (by decide)
  exact Only.refl _ _

theorem State.continueNumber_only (s_a b_a x_a) : Only ⟨[.media], [Obj.txNextSeq, Obj.txSsrcInUse], []⟩ s_a (State.continueNumber s_a b_a x_a) := by
  unfold State.continueNumber
  refine Only.ite ?_ ?_
  · exact Only.refl _ _
  · extract_lets +onlyGivenNames x1
    extract_lets +onlyGivenNames x2
    extract_lets +onlyGivenNames x3
    have hx3 : Only ⟨[.media], [Obj.txNextSeq, Obj.txSsrcInUse], []⟩ s_a x3 := by
      subst x3
      refine Only.seq (State.setN_only ..) ?_ (by decide)
      refine Only.seq (State.setN_only ..) ?_ (by decide)
      exact Only.refl _ _
    clear_value x3
    refine Only.ite ?_ ?_
    · refine Only.seq (State.setTxe_only ..) ?_ (by decide)
      exact hx3
    · exact hx3

theorem State.journalRole_only (s_a role_a) : Only ⟨[.diskJournal], [], []⟩ s_a (State.journalRole s_a role_a) := by
  unfold State.journalRole
  refine Only.seq (State.journal_only ..) ?_ (by decide)
  exact Only.refl _ _

theorem State.discardUnexecuted_only (s_a always_a) : Only ⟨[.out, .pinned, .ev, .salvos, .flashJournal, .media, .diskJournal], [Obj.rxFlowState, Obj.txFlowState, Obj.portTxFramesB, Obj.portTxFrames, Obj.eventCount, Obj.eventLastAt, Obj.eventLastSubject, Obj.portTxBytesB, Obj.portTxBytes], [0x40000004, 0x40000008]⟩ s_a (State.discardUnexecuted s_a always_a) := by
  unfold State.discardUnexecuted
  refine Only.foldl (fun u1 x2 => ?_) ?_
  · extract_lets +onlyGivenNames x3
    refine Only.ite ?_ ?_
    · extract_lets +onlyGivenNames x4
      have hx4 : Only ⟨[.out, .pinned, .ev, .salvos, .flashJournal, .media, .diskJournal], [Obj.rxFlowState, Obj.txFlowState, Obj.portTxFramesB, Obj.portTxFrames, Obj.eventCount, Obj.eventLastAt, Obj.eventLastSubject, Obj.portTxBytesB, Obj.portTxBytes], [0x40000004, 0x40000008]⟩ u1 x4 := by
        subst x4
        refine Only.seq (State.freeSalvo_only ..) ?_ (by decide)
        exact Only.refl _ _
      clear_value x4
      refine Only.ite ?_ ?_
      · refine Only.seq (State.raise_only ..) ?_ (by decide)
        exact hx4
      · exact hx4
    · exact Only.refl _ _
  · exact Only.refl _ _

theorem State.takeover_only (s_a b_a) : Only ⟨[.out, .fresh, .pinned, .ev, .salvos, .tw, .flashJournal, .media, .diskJournal], [Obj.rxFlowState, Obj.txFlowState, Obj.portTxFramesB, Obj.portTxFrames, Obj.eventCount, Obj.eventLastAt, Obj.eventLastSubject, Obj.portTxBytesB, Obj.portTxBytes, Obj.twinRole, Obj.txNextSeq, Obj.txSsrcInUse, Obj.twinTakeoverAt, Obj.twinTakeovers, Obj.twinResyncProgress, Obj.twinReadiness, Obj.twinNotReady, Obj.twinCopyStale, Obj.twinHealth], [0x40000004, 0x40000008]⟩ s_a (State.takeover s_a b_a) := by
  unfold State.takeover
  extract_lets +onlyGivenNames x1
  extract_lets +onlyGivenNames x2
  have hx2 : Only ⟨[.out, .fresh, .pinned, .ev, .salvos, .tw, .flashJournal, .media, .diskJournal], [Obj.rxFlowState, Obj.txFlowState, Obj.portTxFramesB, Obj.portTxFrames, Obj.eventCount, Obj.eventLastAt, Obj.eventLastSubject, Obj.portTxBytesB, Obj.portTxBytes, Obj.twinRole, Obj.txNextSeq, Obj.txSsrcInUse, Obj.twinTakeoverAt, Obj.twinTakeovers, Obj.twinResyncProgress, Obj.twinReadiness, Obj.twinNotReady, Obj.twinCopyStale, Obj.twinHealth], [0x40000004, 0x40000008]⟩ s_a x2 := by
    subst x2
    refine Only.seq (State.discardUnexecuted_only ..) ?_ (by decide)
    exact Only.refl _ _
  clear_value x2
  extract_lets +onlyGivenNames x3
  extract_lets +onlyGivenNames x4
  have hx4 : Only ⟨[.out, .fresh, .pinned, .ev, .salvos, .tw, .flashJournal, .media, .diskJournal], [Obj.rxFlowState, Obj.txFlowState, Obj.portTxFramesB, Obj.portTxFrames, Obj.eventCount, Obj.eventLastAt, Obj.eventLastSubject, Obj.portTxBytesB, Obj.portTxBytes, Obj.twinRole, Obj.txNextSeq, Obj.txSsrcInUse, Obj.twinTakeoverAt, Obj.twinTakeovers, Obj.twinResyncProgress, Obj.twinReadiness, Obj.twinNotReady, Obj.twinCopyStale, Obj.twinHealth], [0x40000004, 0x40000008]⟩ s_a x4 := by
    subst x4
    refine Only.seq (Only.upd (r := ⟨[.salvos], [], []⟩) (s := x2) (fun p => by cases p <;> first | exact .inr rfl | exact .inl (by decide))) ?_ (by decide)
    exact hx2
  clear_value x4
  extract_lets +onlyGivenNames x5
  have hx5 : Only ⟨[.out, .fresh, .pinned, .ev, .salvos, .tw, .flashJournal, .media, .diskJournal], [Obj.rxFlowState, Obj.txFlowState, Obj.portTxFramesB, Obj.portTxFrames, Obj.eventCount, Obj.eventLastAt, Obj.eventLastSubject, Obj.portTxBytesB, Obj.portTxBytes, Obj.twinRole, Obj.txNextSeq, Obj.txSsrcInUse, Obj.twinTakeoverAt, Obj.twinTakeovers, Obj.twinResyncProgress, Obj.twinReadiness, Obj.twinNotReady, Obj.twinCopyStale, Obj.twinHealth], [0x40000004, 0x40000008]⟩ s_a x5 := by
    subst x5
    refine Only.seq (State.journalRole_only ..) ?_ (by decide)
    refine Only.seq (State.setN_only ..) ?_ (by decide)
    exact hx4
  clear_value x5
  extract_lets +onlyGivenNames x6
  have hx6 : Only ⟨[.out, .fresh, .pinned, .ev, .salvos, .tw, .flashJournal, .media, .diskJournal], [Obj.rxFlowState, Obj.txFlowState, Obj.portTxFramesB, Obj.portTxFrames, Obj.eventCount, Obj.eventLastAt, Obj.eventLastSubject, Obj.portTxBytesB, Obj.portTxBytes, Obj.twinRole, Obj.txNextSeq, Obj.txSsrcInUse, Obj.twinTakeoverAt, Obj.twinTakeovers, Obj.twinResyncProgress, Obj.twinReadiness, Obj.twinNotReady, Obj.twinCopyStale, Obj.twinHealth], [0x40000004, 0x40000008]⟩ s_a x6 := by
    subst x6
    refine Only.seq (State.announce_only ..) ?_ (by decide)
    exact hx5
  clear_value x6
  extract_lets +onlyGivenNames x7
  have hx7 : Only ⟨[.out, .fresh, .pinned, .ev, .salvos, .tw, .flashJournal, .media, .diskJournal], [Obj.rxFlowState, Obj.txFlowState, Obj.portTxFramesB, Obj.portTxFrames, Obj.eventCount, Obj.eventLastAt, Obj.eventLastSubject, Obj.portTxBytesB, Obj.portTxBytes, Obj.twinRole, Obj.txNextSeq, Obj.txSsrcInUse, Obj.twinTakeoverAt, Obj.twinTakeovers, Obj.twinResyncProgress, Obj.twinReadiness, Obj.twinNotReady, Obj.twinCopyStale, Obj.twinHealth], [0x40000004, 0x40000008]⟩ s_a x7 := by
    subst x7
    refine Only.foldl (fun u8 x9 => ?_) ?_
    · refine Only.foldl (fun u10 x11 => ?_) ?_
      · refine Only.seq (State.report_only ..) ?_ (by decide)
        exact Only.refl _ _
      · exact Only.refl _ _
    · exact hx6
  clear_value x7
  extract_lets +onlyGivenNames x12
  have hx12 : Only ⟨[.out, .fresh, .pinned, .ev, .salvos, .tw, .flashJournal, .media, .diskJournal], [Obj.rxFlowState, Obj.txFlowState, Obj.portTxFramesB, Obj.portTxFrames, Obj.eventCount, Obj.eventLastAt, Obj.eventLastSubject, Obj.portTxBytesB, Obj.portTxBytes, Obj.twinRole, Obj.txNextSeq, Obj.txSsrcInUse, Obj.twinTakeoverAt, Obj.twinTakeovers, Obj.twinResyncProgress, Obj.twinReadiness, Obj.twinNotReady, Obj.twinCopyStale, Obj.twinHealth], [0x40000004, 0x40000008]⟩ s_a x12 := by
    subst x12
    refine Only.foldl (fun u13 x14 => ?_) ?_
    · refine Only.seq (State.continueNumber_only ..) ?_ (by decide)
      exact Only.refl _ _
    · exact hx7
  clear_value x12
  extract_lets +onlyGivenNames x15
  have hx15 : Only ⟨[.out, .fresh, .pinned, .ev, .salvos, .tw, .flashJournal, .media, .diskJournal], [Obj.rxFlowState, Obj.txFlowState, Obj.portTxFramesB, Obj.portTxFrames, Obj.eventCount, Obj.eventLastAt, Obj.eventLastSubject, Obj.portTxBytesB, Obj.portTxBytes, Obj.twinRole, Obj.txNextSeq, Obj.txSsrcInUse, Obj.twinTakeoverAt, Obj.twinTakeovers, Obj.twinResyncProgress, Obj.twinReadiness, Obj.twinNotReady, Obj.twinCopyStale, Obj.twinHealth], [0x40000004, 0x40000008]⟩ s_a x15 := by
    subst x15
    refine Only.foldl (fun u16 x17 => ?_) ?_
    · refine Only.seq (State.resolve_only ..) ?_ (by decide)
      refine Only.seq (State.setTxe_only ..) ?_ (by decide)
      exact Only.refl _ _
    · exact hx12
  clear_value x15
  extract_lets +onlyGivenNames x18
  have hx18 : Only ⟨[.out, .fresh, .pinned, .ev, .salvos, .tw, .flashJournal, .media, .diskJournal], [Obj.rxFlowState, Obj.txFlowState, Obj.portTxFramesB, Obj.portTxFrames, Obj.eventCount, Obj.eventLastAt, Obj.eventLastSubject, Obj.portTxBytesB, Obj.portTxBytes, Obj.twinRole, Obj.txNextSeq, Obj.txSsrcInUse, Obj.twinTakeoverAt, Obj.twinTakeovers, Obj.twinResyncProgress, Obj.twinReadiness, Obj.twinNotReady, Obj.twinCopyStale, Obj.twinHealth], [0x40000004, 0x40000008]⟩ s_a x18 := by
    subst x18
    refine Only.seq (State.refreshTxAll_only ..) ?_ (by decide)
    exact hx15
  clear_value x18
  extract_lets +onlyGivenNames x19
  extract_lets +onlyGivenNames x20
  have hx20 : Only ⟨[.out, .fresh, .pinned, .ev, .salvos, .tw, .flashJournal, .media, .diskJournal], [Obj.rxFlowState, Obj.txFlowState, Obj.portTxFramesB, Obj.portTxFrames, Obj.eventCount, Obj.eventLastAt, Obj.eventLastSubject, Obj.portTxBytesB, Obj.portTxBytes, Obj.twinRole, Obj.txNextSeq, Obj.txSsrcInUse, Obj.twinTakeoverAt, Obj.twinTakeovers, Obj.twinResyncProgress, Obj.twinReadiness, Obj.twinNotReady, Obj.twinCopyStale, Obj.twinHealth], [0x40000004, 0x40000008]⟩ s_a x20 := by
    subst x20
    refine Only.seq (Only.upd (r := ⟨[.tw], [], []⟩) (s := x18) (fun p => by cases p <;> first | exact .inr rfl | exact .inl (by decide))) ?_ (by decide)
    exact hx18
  clear_value x20
  extract_lets +onlyGivenNames x21
  extract_lets +onlyGivenNames x22
  have hx22 : Only ⟨[.out, .fresh, .pinned, .ev, .salvos, .tw, .flashJournal, .media, .diskJournal], [Obj.rxFlowState, Obj.txFlowState, Obj.portTxFramesB, Obj.portTxFrames, Obj.eventCount, Obj.eventLastAt, Obj.eventLastSubject, Obj.portTxBytesB, Obj.portTxBytes, Obj.twinRole, Obj.txNextSeq, Obj.txSsrcInUse, Obj.twinTakeoverAt, Obj.twinTakeovers, Obj.twinResyncProgress, Obj.twinReadiness, Obj.twinNotReady, Obj.twinCopyStale, Obj.twinHealth], [0x40000004, 0x40000008]⟩ s_a x22 := by
    subst x22
    refine Only.seq (Only.upd (r := ⟨[.salvos], [], []⟩) (s := x20) (fun p => by cases p <;> first | exact .inr rfl | exact .inl (by decide))) ?_ (by decide)
    exact hx20
  clear_value x22
  extract_lets +onlyGivenNames x23
  have hx23 : Only ⟨[.out, .fresh, .pinned, .ev, .salvos, .tw, .flashJournal, .media, .diskJournal], [Obj.rxFlowState, Obj.txFlowState, Obj.portTxFramesB, Obj.portTxFrames, Obj.eventCount, Obj.eventLastAt, Obj.eventLastSubject, Obj.portTxBytesB, Obj.portTxBytes, Obj.twinRole, Obj.txNextSeq, Obj.txSsrcInUse, Obj.twinTakeoverAt, Obj.twinTakeovers, Obj.twinResyncProgress, Obj.twinReadiness, Obj.twinNotReady, Obj.twinCopyStale, Obj.twinHealth], [0x40000004, 0x40000008]⟩ s_a x23 := by
    subst x23
    refine Only.seq (State.bump_only ..) ?_ (by decide)
    refine Only.seq (State.setN_only ..) ?_ (by decide)
    exact hx22
  clear_value x23
  refine Only.seq (State.refreshTwin_only ..) ?_ (by decide)
  refine Only.seq (State.wantResync_only ..) ?_ (by decide)
  refine Only.seq (State.raiseTwin_only ..) ?_ (by decide)
  exact hx23

theorem State.dropWait_only (s_a) : Only ⟨[.out, .mem, .sessions, .engine, .gate], [], []⟩ s_a (State.dropWait s_a) := by
  unfold State.dropWait
  split
  · refine Only.seq (State.refuseSalvo_only ..) ?_ (by decide)
    refine Only.seq (Only.upd (r := ⟨[.engine], [], []⟩) (s := s_a) (fun p => by cases p <;> first | exact .inr rfl | exact .inl (by decide))) ?_ (by decide)
    exact Only.refl _ _
  · exact Only.refl _ _

theorem State.demote_only (s_a b_a) : Only ⟨[.out, .fresh, .pinned, .mem, .ev, .sessions, .salvos, .engine, .tw, .flashJournal, .gate, .media, .diskJournal], [Obj.twinRole, Obj.twinReadiness, Obj.txFlowState, Obj.portTxFramesB, Obj.portTxFrames, Obj.eventCount, Obj.eventLastAt, Obj.eventLastSubject, Obj.portTxBytesB, Obj.portTxBytes, Obj.rxFlowState, Obj.armRefusals, Obj.staleTakes, Obj.orderConflicts, Obj.twinCopyStale, Obj.twinResyncProgress, Obj.twinNotReady, Obj.twinHealth], [0x40000004, 0x40000008]⟩ s_a (State.demote s_a b_a) := by
  unfold State.demote
  extract_lets +onlyGivenNames x1
  have hx1 : Only ⟨[.out, .fresh, .pinned, .mem, .ev, .sessions, .salvos, .engine, .tw, .flashJournal, .gate, .media, .diskJournal], [Obj.twinRole, Obj.twinReadiness, Obj.txFlowState, Obj.portTxFramesB, Obj.portTxFrames, Obj.eventCount, Obj.eventLastAt, Obj.eventLastSubject, Obj.portTxBytesB, Obj.portTxBytes, Obj.rxFlowState, Obj.armRefusals, Obj.staleTakes, Obj.orderConflicts, Obj.twinCopyStale, Obj.twinResyncProgress, Obj.twinNotReady, Obj.twinHealth], [0x40000004, 0x40000008]⟩ s_a x1 := by
    subst x1
    refine Only.seq (State.journalRole_only ..) ?_ (by decide)
    refine Only.seq (State.setN_only ..) ?_ (by decide)
    refine Only.seq (State.setN_only ..) ?_ (by decide)
    exact Only.refl _ _
  clear_value x1
  extract_lets +onlyGivenNames x2
  extract_lets +onlyGivenNames x3
  have hx3 : Only ⟨[.out, .fresh, .pinned, .mem, .ev, .sessions, .salvos, .engine, .tw, .flashJournal, .gate, .media, .diskJournal], [Obj.twinRole, Obj.twinReadiness, Obj.txFlowState, Obj.portTxFramesB, Obj.portTxFrames, Obj.eventCount, Obj.eventLastAt, Obj.eventLastSubject, Obj.portTxBytesB, Obj.portTxBytes, Obj.rxFlowState, Obj.armRefusals, Obj.staleTakes, Obj.orderConflicts, Obj.twinCopyStale, Obj.twinResyncProgress, Obj.twinNotReady, Obj.twinHealth], [0x40000004, 0x40000008]⟩ s_a x3 := by
    subst x3
    refine Only.seq (State.refreshTxAll_only ..) ?_ (by decide)
    refine Only.seq (Only.upd (r := ⟨[.tw], [], []⟩) (s := x1) (fun p => by cases p <;> first | exact .inr rfl | exact .inl (by decide))) ?_ (by decide)
    exact hx1
  clear_value x3
  extract_lets +onlyGivenNames x4
  have hx4 : Only ⟨[.out, .fresh, .pinned, .mem, .ev, .sessions, .salvos, .engine, .tw, .flashJournal, .gate, .media, .diskJournal], [Obj.twinRole, Obj.twinReadiness, Obj.txFlowState, Obj.portTxFramesB, Obj.portTxFrames, Obj.eventCount, Obj.eventLastAt, Obj.eventLastSubject, Obj.portTxBytesB, Obj.portTxBytes, Obj.rxFlowState, Obj.armRefusals, Obj.staleTakes, Obj.orderConflicts, Obj.twinCopyStale, Obj.twinResyncProgress, Obj.twinNotReady, Obj.twinHealth], [0x40000004, 0x40000008]⟩ s_a x4 := by
    subst x4
    refine Only.seq (State.dropWait_only ..) ?_ (by decide)
    refine Only.seq (State.discardUnexecuted_only ..) ?_ (by decide)
    exact hx3
  clear_value x4
  extract_lets +onlyGivenNames x5
  have hx5 : Only ⟨[.out, .fresh, .pinned, .mem, .ev, .sessions, .salvos, .engine, .tw, .flashJournal, .gate, .media, .diskJournal], [Obj.twinRole, Obj.twinReadiness, Obj.txFlowState, Obj.portTxFramesB, Obj.portTxFrames, Obj.eventCount, Obj.eventLastAt, Obj.eventLastSubject, Obj.portTxBytesB, Obj.portTxBytes, Obj.rxFlowState, Obj.armRefusals, Obj.staleTakes, Obj.orderConflicts, Obj.twinCopyStale, Obj.twinResyncProgress, Obj.twinNotReady, Obj.twinHealth], [0x40000004, 0x40000008]⟩ s_a x5 := by
    subst x5
    refine Only.seq (State.pump_only ..) ?_ (by decide)
    exact hx4
  clear_value x5
  extract_lets +onlyGivenNames x6
  extract_lets +onlyGivenNames x7
  extract_lets +onlyGivenNames x8
  have hx8 : Only ⟨[.out, .fresh, .pinned, .mem, .ev, .sessions, .salvos, .engine, .tw, .flashJournal, .gate, .media, .diskJournal], [Obj.twinRole, Obj.twinReadiness, Obj.txFlowState, Obj.portTxFramesB, Obj.portTxFrames, Obj.eventCount, Obj.eventLastAt, Obj.eventLastSubject, Obj.portTxBytesB, Obj.portTxBytes, Obj.rxFlowState, Obj.armRefusals, Obj.staleTakes, Obj.orderConflicts, Obj.twinCopyStale, Obj.twinResyncProgress, Obj.twinNotReady, Obj.twinHealth], [0x40000004, 0x40000008]⟩ s_a x8 := by
    subst x8
    refine Only.seq (Only.upd (r := ⟨[.salvos, .tw], [], []⟩) (s := x5) (fun p => by cases p <;> first | exact .inr rfl | exact .inl (by decide))) ?_ (by decide)
    exact hx5
  clear_value x8
  refine Only.seq (State.refreshTwin_only ..) ?_ (by decide)
  refine Only.seq (State.resyncCause_only ..) ?_ (by decide)
  refine Only.seq (State.raiseTwin_only ..) ?_ (by decide)
  refine Only.seq (State.setN_only ..) ?_ (by decide)
  exact hx8

theorem State.countStale_only (s_a b_a) : Only ⟨[.out, .fresh, .pinned, .ev, .tw, .flashJournal, .diskJournal], [Obj.twinCopyStale, Obj.twinResyncProgress, Obj.twinCopiesDiscarded, Obj.eventCount, Obj.eventLastAt, Obj.eventLastSubject], [0x40000004, 0x40000008]⟩ s_a (State.countStale s_a b_a) := by
  unfold State.countStale
  refine Only.ite ?_ ?_
  · exact Only.refl _ _
  · refine Only.ite ?_ ?_
    · refine Only.seq (State.setN_only ..) ?_ (by decide)
      exact Only.refl _ _
    · extract_lets +onlyGivenNames x1
      have hx1 : Only ⟨[.out, .fresh, .pinned, .ev, .tw, .flashJournal, .diskJournal], [Obj.twinCopyStale, Obj.twinResyncProgress, Obj.twinCopiesDiscarded, Obj.eventCount, Obj.eventLastAt, Obj.eventLastSubject], [0x40000004, 0x40000008]⟩ s_a x1 := by
        subst x1
        refine Only.seq (State.setN_only ..) ?_ (by decide)
        exact Only.refl _ _
      clear_value x1
      extract_lets +onlyGivenNames x2
      have hx2 : Only ⟨[.out, .fresh, .pinned, .ev, .tw, .flashJournal, .diskJournal], [Obj.twinCopyStale, Obj.twinResyncProgress, Obj.twinCopiesDiscarded, Obj.eventCount, Obj.eventLastAt, Obj.eventLastSubject], [0x40000004, 0x40000008]⟩ s_a x2 := by
        subst x2
        refine Only.ite ?_ ?_
        · refine Only.seq (State.resyncCause_only ..) ?_ (by decide)
          exact hx1
        · exact hx1
      clear_value x2
      refine Only.ite ?_ ?_
      · refine Only.seq (State.raiseLimited_only ..) ?_ (by decide)
        refine Only.seq (State.bump_only ..) ?_ (by decide)
        exact hx2
      · exact hx2

theorem State.toggleHealth_only (s_a) : Only ⟨[.out, .tw], [Obj.twinHealth], []⟩ s_a (State.toggleHealth s_a) := by
  unfold State.toggleHealth
  refine Only.ite ?_ ?_
  · extract_lets +onlyGivenNames x1
    refine Only.seq (State.setN_only ..) ?_ (by decide)
    refine Only.seq (State.emit_only ..) ?_ (by decide)
    refine Only.seq (Only.upd (r := ⟨[.tw], [], []⟩) (s := s_a) (fun p => by cases p <;> first | exact .inr rfl | exact .inl (by decide))) ?_ (by decide)
    exact Only.refl _ _
  · refine Only.seq (State.setN_only ..) ?_ (by decide)
    exact Only.refl _ _

end Sys2Proof.Machine
end

