-- ==== Sys2Proof/Laws/OnlyEffects.lean ====
section
/-!
SUPPORT. What the functions of Machine/Effects.lean may change (`Only` of Laws/Only.lean).
-/
namespace Sys2Proof.Machine
set_option Elab.async false

theorem State.octetHold_only (s_a o_a) : Only ⟨[], [Obj.octetPllState], []⟩ s_a (State.octetHold s_a o_a) := by
  unfold State.octetHold
  refine Only.seq (State.setBitN_only ..) ?_ (by decide)
  exact Only.refl _ _

theorem State.sendReady_only (s_a) : Only ⟨[.out, .pinned, .ev, .flashJournal, .sad, .diskJournal], [Obj.eventCount, Obj.eventLastAt, Obj.eventLastSubject, Obj.saddleState, Obj.saddleDownCount], [0x40000004, 0x40000008]⟩ s_a (State.sendReady s_a) := by
  unfold State.sendReady
  refine Only.ite ?_ ?_
  · exact Only.refl _ _
  · refine Only.seq (State.checkReady_only ..) ?_ (by decide)
    refine Only.foldl (fun u1 x2 => ?_) ?_
    · refine Only.seq (State.sendTrain_only ..) ?_ (by decide)
      exact Only.refl _ _
    · exact Only.refl _ _

theorem State.checkPaths_only (s_a) : Only ⟨[.out, .pinned, .ev, .flashJournal, .au, .diskJournal], [Obj.eventCount, Obj.eventLastAt, Obj.eventLastSubject], [0x40000004, 0x40000008]⟩ s_a (State.checkPaths s_a) := by
  unfold State.checkPaths
  refine Only.foldl (fun u1 x2 => ?_) ?_
  · refine Only.seq (State.checkPath_only ..) ?_ (by decide)
    exact Only.refl _ _
  · exact Only.refl _ _

theorem State.wsSetting_only (s_a old_a i_a n_a) : Only ⟨[.out, .pinned, .ev, .flashJournal, .sdiRx, .ridge, .ws, .diskJournal], [Obj.refState, Obj.eventCount, Obj.eventLastAt, Obj.eventLastSubject, Obj.refLosses, Obj.refHistory, Obj.fpState, Obj.ptpState, Obj.ptpGmIdentity, Obj.ptpClockClass, Obj.refQlInForce, Obj.rxState, Obj.rxRate, Obj.rxFormat, Obj.rxPayloadId, Obj.rxStructure, Obj.srcFeedKind, Obj.srcState, Obj.srcReservationStatus, Obj.srcFramesAbandoned, Obj.srcColourLive], [0x40000004, 0x40000008]⟩ s_a (State.wsSetting s_a old_a i_a n_a) := by
  unfold State.wsSetting
  extract_lets +onlyGivenNames x1
  have hx1 : Only ⟨[.out, .pinned, .ev, .flashJournal, .sdiRx, .ridge, .ws, .diskJournal], [Obj.refState, Obj.eventCount, Obj.eventLastAt, Obj.eventLastSubject, Obj.refLosses, Obj.refHistory, Obj.fpState, Obj.ptpState, Obj.ptpGmIdentity, Obj.ptpClockClass, Obj.refQlInForce, Obj.rxState, Obj.rxRate, Obj.rxFormat, Obj.rxPayloadId, Obj.rxStructure, Obj.srcFeedKind, Obj.srcState, Obj.srcReservationStatus, Obj.srcFramesAbandoned, Obj.srcColourLive], [0x40000004, 0x40000008]⟩ s_a x1 := by
    subst x1
    refine Only.seq (State.wsWritten_only ..) ?_ (by decide)
    exact Only.refl _ _
  clear_value x1
  refine Only.ite ?_ ?_
  · refine Only.foldl (fun u2 x3 => ?_) ?_
    · refine Only.seq (State.refreshLane_only ..) ?_ (by decide)
      exact Only.refl _ _
    · exact hx1
  · exact hx1

theorem State.laneSetting_only (s_a i_a n_a) : Only ⟨[.out, .pinned, .ev, .flashJournal, .sdiRx, .ridge, .sad, .diskJournal], [Obj.laneState, Obj.laneTxPreInForce, Obj.laneTxPostInForce, Obj.laneTxMain, Obj.txDriverMode, Obj.rxState, Obj.rxRate, Obj.rxFormat, Obj.rxPayloadId, Obj.rxStructure, Obj.eventCount, Obj.eventLastAt, Obj.eventLastSubject, Obj.srcFeedKind, Obj.srcState, Obj.srcReservationStatus, Obj.srcFramesAbandoned, Obj.srcColourLive, Obj.saddleState, Obj.saddleDownCount, Obj.lanePrbsState, Obj.octetPllState], [0x40000004, 0x40000008]⟩ s_a (State.laneSetting s_a i_a n_a) := by
  unfold State.laneSetting
  refine Only.ite ?_ ?_
  · refine Only.seq (State.laneModeSet_only ..) ?_ (by decide)
    exact Only.refl _ _
  · refine Only.ite ?_ ?_
    · refine Only.ite ?_ ?_
      · refine Only.seq (State.presetTaps_only ..) ?_ (by decide)
        exact Only.refl _ _
      · exact Only.refl _ _
    · refine Only.ite ?_ ?_
      · refine Only.seq (State.prbsGenerator_only ..) ?_ (by decide)
        exact Only.refl _ _
      · refine Only.ite ?_ ?_
        · refine Only.seq (State.prbsSet_only ..) ?_ (by decide)
          exact Only.refl _ _
        · refine Only.ite ?_ ?_
          · refine Only.seq (State.octetHold_only ..) ?_ (by decide)
            exact Only.refl _ _
          · refine Only.ite ?_ ?_
            · refine Only.seq (State.sendReady_only ..) ?_ (by decide)
              exact Only.refl _ _
            · exact Only.refl _ _

theorem State.tarnCtrlObject_only (s_a n_a) : Only ⟨[.out, .pinned, .regs, .ev, .flashJournal, .tarn, .diskJournal], [Obj.eventCount, Obj.eventLastAt, Obj.eventLastSubject, Obj.tarnCtrl], []⟩ s_a (State.tarnCtrlObject s_a n_a) := by
  unfold State.tarnCtrlObject
  extract_lets +onlyGivenNames x1
  have hx1 : Only ⟨[.out, .pinned, .regs, .ev, .flashJournal, .tarn, .diskJournal], [Obj.eventCount, Obj.eventLastAt, Obj.eventLastSubject, Obj.tarnCtrl], []⟩ s_a x1 := by
    subst x1
    refine Only.seq (State.tarnCtrlWrite_only ..) ?_ (by decide)
    exact Only.refl _ _
  clear_value x1
  refine Only.seq (State.setN_only ..) ?_ (by decide)
  exact hx1

theorem State.written_only (s_a old_a i_a n_a) : Only ⟨[.out, .pinned, .regs, .ev, .flashJournal, .ctl, .mon, .sdiRx, .ridge, .ws, .au, .tarn, .sad, .diskJournal], List.append [Obj.laneState, Obj.laneTxPreInForce, Obj.laneTxPostInForce, Obj.laneTxMain, Obj.txDriverMode, Obj.rxState, Obj.rxRate, Obj.rxFormat, Obj.rxPayloadId, Obj.rxStructure, Obj.eventCount, Obj.eventLastAt, Obj.eventLastSubject, Obj.srcFeedKind, Obj.srcState, Obj.srcReservationStatus] (List.append [Obj.srcFramesAbandoned, Obj.srcColourLive, Obj.saddleState, Obj.saddleDownCount, Obj.lanePrbsState, Obj.octetPllState, Obj.refState, Obj.refLosses, Obj.refHistory, Obj.fpState, Obj.ptpState, Obj.ptpGmIdentity, Obj.ptpClockClass, Obj.refQlInForce, Obj.tarnCtrl, Obj.embFormat] ([Obj.embStructure, Obj.embPayloadId, Obj.twinReadiness, Obj.twinNotReady, Obj.twinCopyStale, Obj.twinResyncProgress, Obj.twinHealth, Obj.monHistogram, Obj.monState])), []⟩ s_a (State.written s_a old_a i_a n_a) := by
  unfold State.written
  refine Only.ite ?_ ?_
  · refine Only.seq (State.laneSetting_only ..) ?_ (by decide)
    exact Only.refl _ _
  · refine Only.ite ?_ ?_
    · refine Only.seq (State.wsSetting_only ..) ?_ (by decide)
      exact Only.refl _ _
    · refine Only.ite ?_ ?_
      · refine Only.seq (State.tarnCtrlObject_only ..) ?_ (by decide)
        exact Only.refl _ _
      · refine Only.ite ?_ ?_
        · refine Only.seq (State.tarnMaskWrite_only ..) ?_ (by decide)
          exact Only.refl _ _
        · refine Only.ite ?_ ?_
          · refine Only.seq (State.tarnMaskWrite_only ..) ?_ (by decide)
            exact Only.refl _ _
          · refine Only.ite ?_ ?_
            · refine Only.seq (State.assumed_only ..) ?_ (by decide)
              exact Only.refl _ _
            · refine Only.ite ?_ ?_
              · refine Only.seq (State.checkPaths_only ..) ?_ (by decide)
                exact Only.refl _ _
              · refine Only.ite ?_ ?_
                · refine Only.seq (State.refreshTwin_only ..) ?_ (by decide)
                  exact Only.refl _ _
                · refine Only.ite ?_ ?_
                  · refine Only.seq (State.copyPinMap_only ..) ?_ (by simp [Reach.le])
                    exact Only.refl _ _
                  · refine Only.ite ?_ ?_
                    · refine Only.seq (State.copyPinMode_only ..) ?_ (by decide)
                      exact Only.refl _ _
                    · refine Only.ite ?_ ?_
                      · refine Only.seq (State.ctlSettings_only ..) ?_ (by decide)
                        exact Only.refl _ _
                      · refine Only.ite ?_ ?_
                        · refine Only.seq (State.monWritten_only ..) ?_ (by decide)
                          exact Only.refl _ _
                        · exact Only.refl _ _

theorem State.putNow_only (s_a a_a v_a) : Only ⟨[.out, .pinned, .regs, .ev, .flashJournal, .ctl, .mon, .sdiRx, .ridge, .ws, .au, .tarn, .sad, .diskJournal], List.append [adrIndex a_a, Obj.laneState, Obj.laneTxPreInForce, Obj.laneTxPostInForce, Obj.laneTxMain, Obj.txDriverMode, Obj.rxState, Obj.rxRate, Obj.rxFormat, Obj.rxPayloadId, Obj.rxStructure, Obj.eventCount, Obj.eventLastAt, Obj.eventLastSubject, Obj.srcFeedKind, Obj.srcState] (List.append [Obj.srcReservationStatus, Obj.srcFramesAbandoned, Obj.srcColourLive, Obj.saddleState, Obj.saddleDownCount, Obj.lanePrbsState, Obj.octetPllState, Obj.refState, Obj.refLosses, Obj.refHistory, Obj.fpState, Obj.ptpState, Obj.ptpGmIdentity, Obj.ptpClockClass, Obj.refQlInForce, Obj.tarnCtrl] ([Obj.embFormat, Obj.embStructure, Obj.embPayloadId, Obj.twinReadiness, Obj.twinNotReady, Obj.twinCopyStale, Obj.twinResyncProgress, Obj.twinHealth, Obj.monHistogram, Obj.monState])), []⟩ s_a (State.putNow s_a a_a v_a) := by
  unfold State.putNow
  refine Only.seq (State.written_only ..) ?_ (by simp [Reach.le])
  refine Only.seq (State.setVal_only ..) ?_ (by simp [Reach.le])
  exact Only.refl _ _

end Sys2Proof.Machine
end

