-- ==== Sys2Proof/Laws/OnlyBoot.lean ====
section
/-!
SUPPORT. What the functions of Machine/Boot.lean may change (`Only` of Laws/Only.lean).
-/
namespace Sys2Proof.Machine
set_option Elab.async false

theorem execPowerOn_only (dt_a s_a) : OnlyR ⟨List.append [.out, .now, .tc, .objs, .pinned, .regs, .mem, .boot, .ev, .ctlUp, .sessions, .challenges, .lockouts, .roleKeys, .salvos, .frameWrites] (List.append [.restartWrites, .engine, .tw, .st, .update, .osf, .gate, .ctl, .colLast, .scr, .mon, .sdiRx, .sdiTx, .ridge, .cq, .media] ([.ws, .au, .tarn, .sad, .mor, .diskJournal])), [], []⟩ s_a (execPowerOn dt_a s_a) := by
  unfold execPowerOn
  refine actAlways_only (hk2 := fun u1 => ?_) (l := (by decide)) ..
  extract_lets +onlyGivenNames x2
  have hx2 : Only ⟨List.append [.out, .now, .tc, .objs, .pinned, .regs, .mem, .boot, .ev, .ctlUp, .sessions, .challenges, .lockouts, .roleKeys, .salvos, .frameWrites] (List.append [.restartWrites, .engine, .tw, .st, .update, .osf, .gate, .ctl, .colLast, .scr, .mon, .sdiRx, .sdiTx, .ridge, .cq, .media] ([.ws, .au, .tarn, .sad, .mor, .diskJournal])), [], []⟩ u1 x2 := by
    subst x2
    refine Only.seq (State.enterReset_only ..) ?_ (by decide)
    exact Only.refl _ _
  clear_value x2
  refine Only.seq (Only.upd (r := ⟨[.boot], [], []⟩) (s := x2) (fun p => by cases p <;> first | exact .inr rfl | exact .inl (by decide))) ?_ (by decide)
  exact hx2

theorem State.pulseResets_only (s_a width_a) : Only ⟨[.fresh], [], []⟩ s_a (State.pulseResets s_a width_a).2 := by
  unfold State.pulseResets
  split
  · refine Only.mk2 ?_
    exact Only.refl _ _
  · split
    · refine Only.mk2 ?_
      exact Only.refl _ _
    · extract_lets +onlyGivenNames x1
      have hx1 : Only ⟨[.fresh], [], []⟩ s_a x1.2 := by
        subst x1
        refine Only.seq (State.draw_only ..) ?_ (by decide)
        exact Only.refl _ _
      clear_value x1
      refine Only.mk2 ?_
      exact hx1

theorem execResetNAssert_only (dt_a width_a s_a) : OnlyR ⟨List.append [.out, .fresh, .now, .tc, .objs, .pinned, .regs, .mem, .boot, .ev, .ctlUp, .sessions, .challenges, .lockouts, .roleKeys, .salvos] (List.append [.frameWrites, .restartWrites, .engine, .tw, .st, .update, .osf, .gate, .ctl, .colLast, .scr, .mon, .sdiRx, .sdiTx, .ridge, .cq] ([.media, .ws, .au, .tarn, .sad, .mor, .diskJournal])), [], []⟩ s_a (execResetNAssert dt_a width_a s_a) := by
  unfold execResetNAssert
  refine actAlways_only (hk2 := fun u1 => ?_) (l := (by decide)) ..
  split
  rename_i v2 t3 e4
  have ht3 := Only.mono (b := ⟨List.append [.out, .fresh, .now, .tc, .objs, .pinned, .regs, .mem, .boot, .ev, .ctlUp, .sessions, .challenges, .lockouts, .roleKeys, .salvos] (List.append [.frameWrites, .restartWrites, .engine, .tw, .st, .update, .osf, .gate, .ctl, .colLast, .scr, .mon, .sdiRx, .sdiTx, .ridge, .cq] ([.media, .ws, .au, .tarn, .sad, .mor, .diskJournal])), [], []⟩) (Only.snd e4 (State.pulseResets_only ..)) (by decide)
  refine Only.ite ?_ ?_
  · extract_lets +onlyGivenNames x5
    have hx5 : Only ⟨List.append [.out, .fresh, .now, .tc, .objs, .pinned, .regs, .mem, .boot, .ev, .ctlUp, .sessions, .challenges, .lockouts, .roleKeys, .salvos] (List.append [.frameWrites, .restartWrites, .engine, .tw, .st, .update, .osf, .gate, .ctl, .colLast, .scr, .mon, .sdiRx, .sdiTx, .ridge, .cq] ([.media, .ws, .au, .tarn, .sad, .mor, .diskJournal])), [], []⟩ u1 x5 := by
      subst x5
      refine Only.seq (State.enterReset_only ..) ?_ (by decide)
      exact ht3
    clear_value x5
    refine Only.seq (Only.upd (r := ⟨[.boot], [], []⟩) (s := x5) (fun p => by cases p <;> first | exact .inr rfl | exact .inl (by decide))) ?_ (by decide)
    exact hx5
  · exact ht3

theorem execResetNRelease_only (dt_a straps_a s_a) : OnlyR ⟨[.out, .now, .tc, .boot], [], []⟩ s_a (execResetNRelease dt_a straps_a s_a) := by
  unfold execResetNRelease
  refine actAlways_only (hk2 := fun u1 => ?_) (l := (by decide)) ..
  refine Only.ite ?_ ?_
  · exact Only.refl _ _
  · extract_lets +onlyGivenNames x2
    extract_lets +onlyGivenNames x3
    have hx3 : Only ⟨[.out, .now, .tc, .boot], [], []⟩ u1 x3 := by
      subst x3
      refine Only.seq (Only.upd (r := ⟨[.boot], [], []⟩) (s := u1) (fun p => by cases p <;> first | exact .inr rfl | exact .inl (by decide))) ?_ (by decide)
      exact Only.refl _ _
    clear_value x3
    refine Only.ite ?_ ?_
    · exact hx3
    · refine Only.seq (State.startRom_only ..) ?_ (by decide)
      exact hx3

theorem execRailFault_only (dt_a rail_a microvolts_a lasted_a s_a) : OnlyR ⟨List.append [.out, .now, .tc, .objs, .pinned, .regs, .mem, .boot, .ev, .ctlUp, .sessions, .challenges, .lockouts, .roleKeys, .salvos, .frameWrites] (List.append [.restartWrites, .engine, .tw, .st, .update, .osf, .gate, .ctl, .colLast, .scr, .mon, .sdiRx, .sdiTx, .ridge, .cq, .media] ([.ws, .au, .tarn, .sad, .mor, .diskJournal])), [], []⟩ s_a (execRailFault dt_a rail_a microvolts_a lasted_a s_a) := by
  unfold execRailFault
  refine actAlways_only (hk2 := fun u1 => ?_) (l := (by decide)) ..
  refine Only.ite ?_ ?_
  · refine Only.seq (State.enterReset_only ..) ?_ (by decide)
    exact Only.refl _ _
  · exact Only.refl _ _

theorem execVddAuxLow_only (dt_a microvolts_a s_a) : OnlyR ⟨List.append [.out, .now, .tc, .objs, .pinned, .regs, .mem, .boot, .ev, .ctlUp, .sessions, .challenges, .lockouts, .roleKeys, .salvos, .frameWrites] (List.append [.restartWrites, .engine, .tw, .st, .update, .osf, .gate, .ctl, .colLast, .scr, .mon, .sdiRx, .sdiTx, .ridge, .cq, .media] ([.ws, .au, .tarn, .sad, .mor, .diskJournal])), [], []⟩ s_a (execVddAuxLow dt_a microvolts_a s_a) := by
  unfold execVddAuxLow
  refine actAlways_only (hk2 := fun u1 => ?_) (l := (by decide)) ..
  refine Only.ite ?_ ?_
  · refine Only.seq (State.enterReset_only ..) ?_ (by decide)
    exact Only.refl _ _
  · exact Only.refl _ _

theorem execThermalTrip_only (dt_a temp_a lasted_a s_a) : OnlyR ⟨List.append [.out, .now, .tc, .objs, .pinned, .regs, .mem, .boot, .ev, .ctlUp, .sessions, .challenges, .lockouts, .roleKeys, .salvos, .frameWrites] (List.append [.restartWrites, .engine, .tw, .st, .update, .osf, .gate, .ctl, .colLast, .scr, .mon, .sdiRx, .sdiTx, .ridge, .cq, .media] ([.ws, .au, .tarn, .sad, .mor, .diskJournal])), [], []⟩ s_a (execThermalTrip dt_a temp_a lasted_a s_a) := by
  unfold execThermalTrip
  refine actAlways_only (hk2 := fun u1 => ?_) (l := (by decide)) ..
  refine Only.ite ?_ ?_
  · extract_lets +onlyGivenNames x2
    have hx2 : Only ⟨List.append [.out, .now, .tc, .objs, .pinned, .regs, .mem, .boot, .ev, .ctlUp, .sessions, .challenges, .lockouts, .roleKeys, .salvos, .frameWrites] (List.append [.restartWrites, .engine, .tw, .st, .update, .osf, .gate, .ctl, .colLast, .scr, .mon, .sdiRx, .sdiTx, .ridge, .cq, .media] ([.ws, .au, .tarn, .sad, .mor, .diskJournal])), [], []⟩ u1 x2 := by
      subst x2
      refine Only.seq (State.enterReset_only ..) ?_ (by decide)
      exact Only.refl _ _
    clear_value x2
    refine Only.seq (Only.upd (r := ⟨[.boot], [], []⟩) (s := x2) (fun p => by cases p <;> first | exact .inr rfl | exact .inl (by decide))) ?_ (by decide)
    exact hx2
  · exact Only.refl _ _

theorem execThermalTripRelease_only (dt_a temp_a s_a) : OnlyR ⟨[.out, .now, .tc, .boot], [], []⟩ s_a (execThermalTripRelease dt_a temp_a s_a) := by
  unfold execThermalTripRelease
  refine actAlways_only (hk2 := fun u1 => ?_) (l := (by decide)) ..
  refine Only.ite ?_ ?_
  · extract_lets +onlyGivenNames x2
    extract_lets +onlyGivenNames x3
    have hx3 : Only ⟨[.out, .now, .tc, .boot], [], []⟩ u1 x3 := by
      subst x3
      refine Only.seq (Only.upd (r := ⟨[.boot], [], []⟩) (s := u1) (fun p => by cases p <;> first | exact .inr rfl | exact .inl (by decide))) ?_ (by decide)
      exact Only.refl _ _
    clear_value x3
    refine Only.ite ?_ ?_
    · exact hx3
    · refine Only.seq (State.startRom_only ..) ?_ (by decide)
      exact hx3
  · exact Only.refl _ _

theorem State.avsCommand_only (s_a microvolts_a nacks_a) : Only ⟨[.out, .boot], [], []⟩ s_a (State.avsCommand s_a microvolts_a nacks_a) := by
  unfold State.avsCommand
  extract_lets +onlyGivenNames x1
  have hx1 : Only ⟨[.out, .boot], [], []⟩ s_a x1 := by
    subst x1
    refine Only.foldl (fun u2 x3 => ?_) ?_
    · refine Only.seq (State.emit_only ..) ?_ (by decide)
      exact Only.refl _ _
    · exact Only.refl _ _
  clear_value x1
  refine Only.ite ?_ ?_
  · refine Only.seq (Only.upd (r := ⟨[.boot], [], []⟩) (s := x1) (fun p => by cases p <;> first | exact .inr rfl | exact .inl (by decide))) ?_ (by decide)
    exact hx1
  · refine Only.seq (Only.upd (r := ⟨[.boot], [], []⟩) (s := x1) (fun p => by cases p <;> first | exact .inr rfl | exact .inl (by decide))) ?_ (by decide)
    exact hx1

theorem State.avsStart_only (s_a linear_a nacks_a) : Only ⟨[.out, .boot], [], []⟩ s_a (State.avsStart s_a linear_a nacks_a) := by
  unfold State.avsStart
  refine Only.ite ?_ ?_
  · exact Only.refl _ _
  · extract_lets +onlyGivenNames x1
    have hx1 : Only ⟨[.out, .boot], [], []⟩ s_a x1 := by
      subst x1
      refine Only.seq (State.emit_only ..) ?_ (by decide)
      exact Only.refl _ _
    clear_value x1
    extract_lets +onlyGivenNames x2
    extract_lets +onlyGivenNames x3
    have hx3 : Only ⟨[.out, .boot], [], []⟩ s_a x3 := by
      subst x3
      refine Only.seq (Only.upd (r := ⟨[.boot], [], []⟩) (s := x1) (fun p => by cases p <;> first | exact .inr rfl | exact .inl (by decide))) ?_ (by decide)
      exact hx1
    clear_value x3
    refine Only.ite ?_ ?_
    · refine Only.seq (State.avsCommand_only ..) ?_ (by decide)
      exact hx3
    · exact hx3

theorem execAvsTargetUpdate_only (dt_a microvolts_a s_a) : OnlyR ⟨[.out, .now, .tc, .boot], [], []⟩ s_a (execAvsTargetUpdate dt_a microvolts_a s_a) := by
  unfold execAvsTargetUpdate
  refine actIf_only (hk3 := fun u1 => ?_) (l := (by decide)) ..
  refine Only.seq (Only.upd (r := ⟨[.boot], [], []⟩) (s := u1) (fun p => by cases p <;> first | exact .inr rfl | exact .inl (by decide))) ?_ (by decide)
  exact Only.refl _ _

theorem execAvsStep_only (dt_a nacks_a s_a) : OnlyR ⟨[.out, .now, .tc, .boot], [], []⟩ s_a (execAvsStep dt_a nacks_a s_a) := by
  unfold execAvsStep
  refine actIf_only (hk3 := fun u1 => ?_) (l := (by decide)) ..
  extract_lets +onlyGivenNames x2
  extract_lets +onlyGivenNames x3
  subst x3
  refine Only.seq (State.avsCommand_only ..) ?_ (by decide)
  refine Only.seq (Only.upd (r := ⟨[.boot], [], []⟩) (s := u1) (fun p => by cases p <;> first | exact .inr rfl | exact .inl (by decide))) ?_ (by decide)
  exact Only.refl _ _

theorem State.enterRecovery_only (s_a) : Only ⟨List.append [.out, .tc, .objs, .pinned, .regs, .mem, .boot, .ev, .ctlUp, .sessions, .challenges, .lockouts, .roleKeys, .salvos, .frameWrites, .restartWrites] (List.append [.engine, .tw, .st, .update, .flashJournal, .osf, .gate, .ctl, .colLast, .scr, .mon, .sdiRx, .sdiTx, .ridge, .cq, .media] ([.ws, .au, .tarn, .sad, .mor, .diskJournal])), [], []⟩ s_a (State.enterRecovery s_a) := by
  unfold State.enterRecovery
  extract_lets +onlyGivenNames x1
  have hx1 : Only ⟨List.append [.out, .tc, .objs, .pinned, .regs, .mem, .boot, .ev, .ctlUp, .sessions, .challenges, .lockouts, .roleKeys, .salvos, .frameWrites, .restartWrites] (List.append [.engine, .tw, .st, .update, .flashJournal, .osf, .gate, .ctl, .colLast, .scr, .mon, .sdiRx, .sdiTx, .ridge, .cq, .media] ([.ws, .au, .tarn, .sad, .mor, .diskJournal])), [], []⟩ s_a x1 := by
    subst x1
    refine Only.ite ?_ ?_
    · refine Only.seq (State.startRom_only ..) ?_ (by decide)
      refine Only.seq (State.fullReset_only ..) ?_ (by decide)
      exact Only.refl _ _
    · exact Only.refl _ _
  clear_value x1
  extract_lets +onlyGivenNames x2
  extract_lets +onlyGivenNames x3
  extract_lets +onlyGivenNames x4
  extract_lets +onlyGivenNames x5
  have hx5 : Only ⟨List.append [.out, .tc, .objs, .pinned, .regs, .mem, .boot, .ev, .ctlUp, .sessions, .challenges, .lockouts, .roleKeys, .salvos, .frameWrites, .restartWrites] (List.append [.engine, .tw, .st, .update, .flashJournal, .osf, .gate, .ctl, .colLast, .scr, .mon, .sdiRx, .sdiTx, .ridge, .cq, .media] ([.ws, .au, .tarn, .sad, .mor, .diskJournal])), [], []⟩ s_a x5 := by
    subst x5
    refine Only.seq (Only.upd (r := ⟨[.boot, .ctlUp, .update], [], []⟩) (s := x1) (fun p => by cases p <;> first | exact .inr rfl | exact .inl (by decide))) ?_ (by decide)
    exact hx1
  clear_value x5
  refine Only.seq (State.ctlStart_only ..) ?_ (by decide)
  exact hx5

theorem State.recordStart_only (s_a) : Only ⟨[.out, .pinned, .ev, .flashJournal, .ridge, .mor, .diskJournal], [Obj.lastRestartCause, Obj.morPoolState, Obj.morPoolExtents, Obj.recState, Obj.eventCount, Obj.eventLastAt, Obj.eventLastSubject, Obj.dlyStored, Obj.srcFeedKind, Obj.srcState, Obj.srcReservationStatus, Obj.srcFramesAbandoned, Obj.srcColourLive, Obj.healthReasons, Obj.healthState], [0x40000004, 0x40000008]⟩ s_a (State.recordStart s_a) := by
  unfold State.recordStart
  extract_lets +onlyGivenNames x1
  extract_lets +onlyGivenNames x2
  have hx2 : Only ⟨[.out, .pinned, .ev, .flashJournal, .ridge, .mor, .diskJournal], [Obj.lastRestartCause, Obj.morPoolState, Obj.morPoolExtents, Obj.recState, Obj.eventCount, Obj.eventLastAt, Obj.eventLastSubject, Obj.dlyStored, Obj.srcFeedKind, Obj.srcState, Obj.srcReservationStatus, Obj.srcFramesAbandoned, Obj.srcColourLive, Obj.healthReasons, Obj.healthState], [0x40000004, 0x40000008]⟩ s_a x2 := by
    subst x2
    refine Only.seq (State.flashJournal_only ..) ?_ (by decide)
    refine Only.seq (State.setN_only ..) ?_ (by decide)
    exact Only.refl _ _
  clear_value x2
  extract_lets +onlyGivenNames x3
  have hx3 : Only ⟨[.out, .pinned, .ev, .flashJournal, .ridge, .mor, .diskJournal], [Obj.lastRestartCause, Obj.morPoolState, Obj.morPoolExtents, Obj.recState, Obj.eventCount, Obj.eventLastAt, Obj.eventLastSubject, Obj.dlyStored, Obj.srcFeedKind, Obj.srcState, Obj.srcReservationStatus, Obj.srcFramesAbandoned, Obj.srcColourLive, Obj.healthReasons, Obj.healthState], [0x40000004, 0x40000008]⟩ s_a x3 := by
    subst x3
    refine Only.seq (State.journalRestart_only ..) ?_ (by decide)
    exact hx2
  clear_value x3
  refine Only.ite ?_ ?_
  · refine Only.seq (State.raise_only ..) ?_ (by decide)
    exact hx3
  · exact hx3

theorem State.fallBack_only (s_a) : Only ⟨[.out, .pinned, .boot, .ev, .flashJournal, .diskJournal], [Obj.eventCount, Obj.eventLastAt, Obj.eventLastSubject], [0x40000004, 0x40000008]⟩ s_a (State.fallBack s_a) := by
  unfold State.fallBack
  refine Only.seq (State.raise_only ..) ?_ (by decide)
  refine Only.seq (Only.upd (r := ⟨[.boot], [], []⟩) (s := s_a) (fun p => by cases p <;> first | exact .inr rfl | exact .inl (by decide))) ?_ (by decide)
  exact Only.refl _ _

theorem State.bootControl_only (s_a) : Only ⟨[.out, .pinned, .boot, .ev, .update, .rollback, .owners, .flashJournal, .diskJournal], [Obj.updateState, Obj.eventCount, Obj.eventLastAt, Obj.eventLastSubject], [0x40000004, 0x40000008]⟩ s_a (State.bootControl s_a) := by
  unfold State.bootControl
  extract_lets +onlyGivenNames x1
  refine Only.ite ?_ ?_
  · refine Only.seq (State.setN_only ..) ?_ (by decide)
    refine Only.seq (Only.upd (r := ⟨[.update], [], []⟩) (s := s_a) (fun p => by cases p <;> first | exact .inr rfl | exact .inl (by decide))) ?_ (by decide)
    exact Only.refl _ _
  · refine Only.ite ?_ ?_
    · extract_lets +onlyGivenNames x2
      extract_lets +onlyGivenNames x3
      have hx3 : Only ⟨[.out, .pinned, .boot, .ev, .update, .rollback, .owners, .flashJournal, .diskJournal], [Obj.updateState, Obj.eventCount, Obj.eventLastAt, Obj.eventLastSubject], [0x40000004, 0x40000008]⟩ s_a x3 := by
        subst x3
        refine Only.seq (State.setN_only ..) ?_ (by decide)
        exact Only.refl _ _
      clear_value x3
      extract_lets +onlyGivenNames x4
      have hx4 : Only ⟨[.out, .pinned, .boot, .ev, .update, .rollback, .owners, .flashJournal, .diskJournal], [Obj.updateState, Obj.eventCount, Obj.eventLastAt, Obj.eventLastSubject], [0x40000004, 0x40000008]⟩ s_a x4 := by
        subst x4
        refine Only.seq (Only.upd (r := ⟨[.update, .rollback, .owners, .flashJournal], [], []⟩) (s := x3) (fun p => by cases p <;> first | exact .inr rfl | exact .inl (by decide))) ?_ (by decide)
        exact hx3
      clear_value x4
      refine Only.ite ?_ ?_
      · exact hx4
      · refine Only.seq (State.fallBack_only ..) ?_ (by decide)
        exact hx4
    · refine Only.ite ?_ ?_
      · refine Only.seq (State.fallBack_only ..) ?_ (by decide)
        refine Only.seq (Only.upd (r := ⟨[.update], [], []⟩) (s := s_a) (fun p => by cases p <;> first | exact .inr rfl | exact .inl (by decide))) ?_ (by decide)
        exact Only.refl _ _
      · exact Only.refl _ _

theorem State.loadPatch_only (s_a) : Only ⟨[.boot, .update], [], []⟩ s_a (State.loadPatch s_a) := by
  unfold State.loadPatch
  extract_lets +onlyGivenNames x1
  extract_lets +onlyGivenNames x2
  extract_lets +onlyGivenNames x3
  extract_lets +onlyGivenNames x4
  extract_lets +onlyGivenNames x5
  have hx5 : Only ⟨[.boot, .update], [], []⟩ s_a x5 := by
    subst x5
    refine Only.seq (Only.upd (r := ⟨[.update], [], []⟩) (s := s_a) (fun p => by cases p <;> first | exact .inr rfl | exact .inl (by decide))) ?_ (by decide)
    exact Only.refl _ _
  clear_value x5
  refine Only.seq (Only.upd (r := ⟨[.boot], [], []⟩) (s := x5) (fun p => by cases p <;> first | exact .inr rfl | exact .inl (by decide))) ?_ (by decide)
  exact hx5

theorem State.lostBurns_only (s_a) : Only ⟨[.out, .pinned, .ev, .owners, .flashJournal, .diskJournal], [Obj.eventCount, Obj.eventLastAt, Obj.eventLastSubject], [0x40000004, 0x40000008]⟩ s_a (State.lostBurns s_a) := by
  unfold State.lostBurns
  refine Only.foldl (fun u1 x2 => ?_) ?_
  · refine Only.ite ?_ ?_
    · refine Only.seq (State.raise_only ..) ?_ (by decide)
      refine Only.seq (Only.upd (r := ⟨[.owners], [], []⟩) (s := u1) (fun p => by cases p <;> first | exact .inr rfl | exact .inl (by decide))) ?_ (by decide)
      exact Only.refl _ _
    · exact Only.refl _ _
  · exact Only.refl _ _

theorem State.latchTwin_only (s_a) : Only ⟨[], [Obj.twinPaired, Obj.twinSide, Obj.twinRole], []⟩ s_a (State.latchTwin s_a) := by
  unfold State.latchTwin
  refine Only.ite ?_ ?_
  · refine Only.seq (State.setN_only ..) ?_ (by decide)
    refine Only.seq (State.setN_only ..) ?_ (by decide)
    refine Only.seq (State.setN_only ..) ?_ (by decide)
    exact Only.refl _ _
  · exact Only.refl _ _

theorem State.chooseUpland_only {s t : State} (h : s.chooseUpland = some t) : Only ⟨[.out, .pinned, .boot, .ev, .update, .flashJournal, .diskJournal], [Obj.updateState, Obj.eventCount, Obj.eventLastAt, Obj.eventLastSubject], [0x40000004, 0x40000008]⟩ s t := by
  unfold State.chooseUpland at h
  extract_lets +onlyGivenNames k trial c src u at h
  have hu : Only ⟨[.out, .pinned, .boot, .ev, .update, .flashJournal, .diskJournal], [Obj.updateState, Obj.eventCount, Obj.eventLastAt, Obj.eventLastSubject], [0x40000004, 0x40000008]⟩ s u := by
    unfold u
    exact Only.ite ((State.setN_only ..).seq (Only.upd (r := ⟨[.out, .pinned, .boot, .ev, .update, .flashJournal, .diskJournal], [Obj.updateState, Obj.eventCount, Obj.eventLastAt, Obj.eventLastSubject], [0x40000004, 0x40000008]⟩) (fun p => by cases p <;> first | exact .inr rfl | exact .inl (by decide)))) (Only.refl _ s)
  clear_value u
  split at h
  · cases h; exact Only.refl _ s
  · split at h
    · cases h
    · split at h
      · cases h
        exact (State.fallBack_only ..).seq (Only.seq (t := u) (Only.upd (r := ⟨[.out, .pinned, .boot, .ev, .update, .flashJournal, .diskJournal], [Obj.updateState, Obj.eventCount, Obj.eventLastAt, Obj.eventLastSubject], [0x40000004, 0x40000008]⟩) (fun p => by cases p <;> first | exact .inr rfl | exact .inl (by decide))) hu)
      · cases h

theorem State.releasePerst_only (s_a) : Only ⟨[.out], [], []⟩ s_a (State.releasePerst s_a) := by
  unfold State.releasePerst
  refine Only.foldl (fun u1 x2 => ?_) ?_
  · refine Only.seq (State.emit_only ..) ?_ (by decide)
    exact Only.refl _ _
  · exact Only.refl _ _

theorem State.loadUpland_only (s : State) : Only ⟨List.append [.out, .tc, .objs, .pinned, .regs, .mem, .boot, .ev, .ctlUp, .sessions, .challenges, .lockouts, .roleKeys, .salvos, .frameWrites, .restartWrites] (List.append [.engine, .tw, .st, .update, .flashJournal, .osf, .gate, .ctl, .colLast, .scr, .mon, .sdiRx, .sdiTx, .ridge, .cq, .media] ([.ws, .au, .tarn, .sad, .mor, .diskJournal])), [], []⟩ s s.loadUpland := by
  unfold State.loadUpland
  split
  · rename_i t h
    exact Only.seq (t := t.recordStart) (Only.upd (r := ⟨List.append [.out, .tc, .objs, .pinned, .regs, .mem, .boot, .ev, .ctlUp, .sessions, .challenges, .lockouts, .roleKeys, .salvos, .frameWrites, .restartWrites] (List.append [.engine, .tw, .st, .update, .flashJournal, .osf, .gate, .ctl, .colLast, .scr, .mon, .sdiRx, .sdiTx, .ridge, .cq, .media] ([.ws, .au, .tarn, .sad, .mor, .diskJournal])), [], []⟩) (fun p => by cases p <;> first | exact .inr rfl | exact .inl (by decide)))
      ((State.recordStart_only ..).seq ((State.chooseUpland_only h).up))
  · exact (State.enterRecovery_only ..).seq ((State.recordStart_only ..).up)

theorem execRomStageEnd_only (dt_a avsLinear_a avsNacks_a s_a) : OnlyR ⟨List.append [.out, .now, .tc, .objs, .pinned, .regs, .mem, .boot, .ev, .ctlUp, .sessions, .challenges, .lockouts, .roleKeys, .salvos, .frameWrites] (List.append [.restartWrites, .engine, .tw, .st, .update, .rollback, .owners, .flashJournal, .osf, .gate, .ctl, .colLast, .scr, .mon, .sdiRx, .sdiTx] ([.ridge, .cq, .media, .ws, .au, .tarn, .sad, .mor, .diskJournal])), [], []⟩ s_a (execRomStageEnd dt_a avsLinear_a avsNacks_a s_a) := by
  unfold execRomStageEnd
  refine actIf_only (hk3 := fun u1 => ?_) (l := (by decide)) ..
  extract_lets +onlyGivenNames x2
  have hx2 : Only ⟨List.append [.out, .now, .tc, .objs, .pinned, .regs, .mem, .boot, .ev, .ctlUp, .sessions, .challenges, .lockouts, .roleKeys, .salvos, .frameWrites] (List.append [.restartWrites, .engine, .tw, .st, .update, .rollback, .owners, .flashJournal, .osf, .gate, .ctl, .colLast, .scr, .mon, .sdiRx, .sdiTx] ([.ridge, .cq, .media, .ws, .au, .tarn, .sad, .mor, .diskJournal])), [], []⟩ u1 x2 := by
    subst x2
    refine Only.ite ?_ ?_
    · exact Only.refl _ _
    · refine Only.seq (State.avsStart_only ..) ?_ (by decide)
      exact Only.refl _ _
  clear_value x2
  extract_lets +onlyGivenNames x3
  have hx3 : Only ⟨List.append [.out, .now, .tc, .objs, .pinned, .regs, .mem, .boot, .ev, .ctlUp, .sessions, .challenges, .lockouts, .roleKeys, .salvos, .frameWrites] (List.append [.restartWrites, .engine, .tw, .st, .update, .rollback, .owners, .flashJournal, .osf, .gate, .ctl, .colLast, .scr, .mon, .sdiRx, .sdiTx] ([.ridge, .cq, .media, .ws, .au, .tarn, .sad, .mor, .diskJournal])), [], []⟩ u1 x3 := by
    subst x3
    refine Only.seq (State.lostBurns_only ..) ?_ (by decide)
    refine Only.seq (State.bootControl_only ..) ?_ (by decide)
    exact hx2
  clear_value x3
  refine Only.ite ?_ ?_
  · refine Only.seq (State.enterRecovery_only ..) ?_ (by decide)
    refine Only.seq (State.recordStart_only ..) ?_ (by decide)
    exact hx3
  · extract_lets +onlyGivenNames x4
    have hx4 : Only ⟨List.append [.out, .now, .tc, .objs, .pinned, .regs, .mem, .boot, .ev, .ctlUp, .sessions, .challenges, .lockouts, .roleKeys, .salvos, .frameWrites] (List.append [.restartWrites, .engine, .tw, .st, .update, .rollback, .owners, .flashJournal, .osf, .gate, .ctl, .colLast, .scr, .mon, .sdiRx, .sdiTx] ([.ridge, .cq, .media, .ws, .au, .tarn, .sad, .mor, .diskJournal])), [], []⟩ u1 x4 := by
      subst x4
      refine Only.seq (State.latchTwin_only ..) ?_ (by decide)
      refine Only.seq (State.loadPatch_only ..) ?_ (by decide)
      exact hx3
    clear_value x4
    extract_lets +onlyGivenNames x5
    extract_lets +onlyGivenNames x6
    have hx6 : Only ⟨List.append [.out, .now, .tc, .objs, .pinned, .regs, .mem, .boot, .ev, .ctlUp, .sessions, .challenges, .lockouts, .roleKeys, .salvos, .frameWrites] (List.append [.restartWrites, .engine, .tw, .st, .update, .rollback, .owners, .flashJournal, .osf, .gate, .ctl, .colLast, .scr, .mon, .sdiRx, .sdiTx] ([.ridge, .cq, .media, .ws, .au, .tarn, .sad, .mor, .diskJournal])), [], []⟩ u1 x6 := by
      subst x6
      refine Only.seq (Only.upd (r := ⟨[.boot], [], []⟩) (s := x4) (fun p => by cases p <;> first | exact .inr rfl | exact .inl (by decide))) ?_ (by decide)
      exact hx4
    clear_value x6
    refine Only.ite ?_ ?_
    · refine Only.seq (State.loadUpland_only ..) ?_ (by decide)
      exact hx6
    · exact hx6

theorem execHbmReady_only (dt_a hbms_a s_a) : OnlyR ⟨List.append [.out, .now, .tc, .objs, .pinned, .regs, .mem, .boot, .ev, .ctlUp, .sessions, .challenges, .lockouts, .roleKeys, .salvos, .frameWrites] (List.append [.restartWrites, .engine, .tw, .st, .update, .flashJournal, .osf, .gate, .ctl, .colLast, .scr, .mon, .sdiRx, .sdiTx, .ridge, .cq] ([.media, .ws, .au, .tarn, .sad, .mor, .diskJournal])), [], []⟩ s_a (execHbmReady dt_a hbms_a s_a) := by
  unfold execHbmReady
  refine actIf_only (hk3 := fun u1 => ?_) (l := (by decide)) ..
  refine Only.ite ?_ ?_
  · refine Only.seq (State.loadUpland_only ..) ?_ (by decide)
    refine Only.seq (State.releasePerst_only ..) ?_ (by decide)
    exact Only.refl _ _
  · extract_lets +onlyGivenNames x2
    extract_lets +onlyGivenNames x3
    have hx3 : Only ⟨List.append [.out, .now, .tc, .objs, .pinned, .regs, .mem, .boot, .ev, .ctlUp, .sessions, .challenges, .lockouts, .roleKeys, .salvos, .frameWrites] (List.append [.restartWrites, .engine, .tw, .st, .update, .flashJournal, .osf, .gate, .ctl, .colLast, .scr, .mon, .sdiRx, .sdiTx, .ridge, .cq] ([.media, .ws, .au, .tarn, .sad, .mor, .diskJournal])), [], []⟩ u1 x3 := by
      subst x3
      refine Only.seq (State.setReason_only ..) ?_ (by decide)
      refine Only.seq (Only.upd (r := ⟨[.boot], [], []⟩) (s := u1) (fun p => by cases p <;> first | exact .inr rfl | exact .inl (by decide))) ?_ (by decide)
      exact Only.refl _ _
    clear_value x3
    refine Only.seq (State.loadUpland_only ..) ?_ (by decide)
    exact hx3

theorem State.restoreChecks_only (s_a) : Only ⟨[.out, .pinned, .boot, .ev, .flashJournal, .diskJournal], [Obj.migrationReportCount, Obj.migrationReport, Obj.eventCount, Obj.eventLastAt, Obj.eventLastSubject], [0x40000004, 0x40000008]⟩ s_a (State.restoreChecks s_a) := by
  unfold State.restoreChecks
  extract_lets +onlyGivenNames x1
  extract_lets +onlyGivenNames x2
  extract_lets +onlyGivenNames x3
  extract_lets +onlyGivenNames x4
  extract_lets +onlyGivenNames x5
  have hx5 : Only ⟨[.out, .pinned, .boot, .ev, .flashJournal, .diskJournal], [Obj.migrationReportCount, Obj.migrationReport, Obj.eventCount, Obj.eventLastAt, Obj.eventLastSubject], [0x40000004, 0x40000008]⟩ s_a x5 := by
    subst x5
    refine Only.seq (Only.upd (r := ⟨[.boot], [], []⟩) (s := s_a) (fun p => by cases p <;> first | exact .inr rfl | exact .inl (by decide))) ?_ (by decide)
    exact Only.refl _ _
  clear_value x5
  extract_lets +onlyGivenNames x6
  have hx6 : Only ⟨[.out, .pinned, .boot, .ev, .flashJournal, .diskJournal], [Obj.migrationReportCount, Obj.migrationReport, Obj.eventCount, Obj.eventLastAt, Obj.eventLastSubject], [0x40000004, 0x40000008]⟩ s_a x6 := by
    subst x6
    refine Only.foldl (fun u7 x8 => ?_) ?_
    · refine Only.seq (State.addReport_only ..) ?_ (by decide)
      exact Only.refl _ _
    · exact hx5
  clear_value x6
  refine Only.ite ?_ ?_
  · exact hx6
  · refine Only.seq (State.raise_only ..) ?_ (by decide)
    exact hx6

theorem State.meetLoaded_only (s_a old_a) : Only ⟨[.out, .pinned, .regs, .ev, .flashJournal, .ctl, .mon, .sdiRx, .ridge, .ws, .au, .tarn, .sad, .diskJournal], List.append [Obj.laneState, Obj.laneTxPreInForce, Obj.laneTxPostInForce, Obj.laneTxMain, Obj.txDriverMode, Obj.rxState, Obj.rxRate, Obj.rxFormat, Obj.rxPayloadId, Obj.rxStructure, Obj.eventCount, Obj.eventLastAt, Obj.eventLastSubject, Obj.srcFeedKind, Obj.srcState, Obj.srcReservationStatus] (List.append [Obj.srcFramesAbandoned, Obj.srcColourLive, Obj.saddleState, Obj.saddleDownCount, Obj.lanePrbsState, Obj.octetPllState, Obj.refState, Obj.refLosses, Obj.refHistory, Obj.fpState, Obj.ptpState, Obj.ptpGmIdentity, Obj.ptpClockClass, Obj.refQlInForce, Obj.tarnCtrl, Obj.embFormat] ([Obj.embStructure, Obj.embPayloadId, Obj.twinReadiness, Obj.twinNotReady, Obj.twinCopyStale, Obj.twinResyncProgress, Obj.twinHealth, Obj.monHistogram, Obj.monState])), []⟩ s_a (State.meetLoaded s_a old_a) := by
  unfold State.meetLoaded
  refine Only.foldl (fun u1 x2 => ?_) ?_
  · refine Only.ite ?_ ?_
    · refine Only.seq (State.written_only ..) ?_ (by decide)
      exact Only.refl _ _
    · exact Only.refl _ _
  · exact Only.refl _ _

theorem State.restoreSsrcs_only (s_a) : Only ⟨[.media], [], []⟩ s_a (State.restoreSsrcs s_a) := by
  unfold State.restoreSsrcs
  extract_lets +onlyGivenNames x1
  refine Only.foldl (fun u2 x3 => ?_) ?_
  · refine Only.ite ?_ ?_
    · exact Only.refl _ _
    · refine Only.seq (State.setTxe_only ..) ?_ (by decide)
      exact Only.refl _ _
  · exact Only.refl _ _

theorem State.clearRestart_only (s_a) : Only ⟨[.objs], [], []⟩ s_a (State.clearRestart s_a) := by
  unfold State.clearRestart
  refine Only.foldl (fun u1 x2 => ?_) ?_
  · refine Only.seq (State.toDefault_only ..) ?_ (by simp [Reach.le])
    exact Only.refl _ _
  · exact Only.refl _ _

theorem State.loadSettings_only (s_a) : Only ⟨List.append [.out, .objs, .pinned, .regs, .boot, .ev, .roleKeys, .restartWrites, .st, .flashJournal, .ctl, .mon, .sdiRx, .ridge, .media, .ws] ([.au, .tarn, .sad, .diskJournal]), [], []⟩ s_a (State.loadSettings s_a) := by
  unfold State.loadSettings
  extract_lets +onlyGivenNames x1
  extract_lets +onlyGivenNames x2
  have hx2 : Only ⟨List.append [.out, .objs, .pinned, .regs, .boot, .ev, .roleKeys, .restartWrites, .st, .flashJournal, .ctl, .mon, .sdiRx, .ridge, .media, .ws] ([.au, .tarn, .sad, .diskJournal]), [], []⟩ s_a x2 := by
    subst x2
    refine Only.seq (State.clearRestart_only ..) ?_ (by decide)
    exact Only.refl _ _
  clear_value x2
  extract_lets +onlyGivenNames x3
  extract_lets +onlyGivenNames x4
  have hx4 : Only ⟨List.append [.out, .objs, .pinned, .regs, .boot, .ev, .roleKeys, .restartWrites, .st, .flashJournal, .ctl, .mon, .sdiRx, .ridge, .media, .ws] ([.au, .tarn, .sad, .diskJournal]), [], []⟩ s_a x4 := by
    subst x4
    refine Only.seq (State.loadStore_only ..) ?_ (by decide)
    refine Only.seq (Only.upd (r := ⟨[.restartWrites], [], []⟩) (s := x2) (fun p => by cases p <;> first | exact .inr rfl | exact .inl (by decide))) ?_ (by decide)
    exact hx2
  clear_value x4
  extract_lets +onlyGivenNames x5
  have hx5 : Only ⟨List.append [.out, .objs, .pinned, .regs, .boot, .ev, .roleKeys, .restartWrites, .st, .flashJournal, .ctl, .mon, .sdiRx, .ridge, .media, .ws] ([.au, .tarn, .sad, .diskJournal]), [], []⟩ s_a x5 := by
    subst x5
    refine Only.seq (State.bump_only ..) ?_ (by decide)
    exact hx4
  clear_value x5
  extract_lets +onlyGivenNames x6
  have hx6 : Only ⟨List.append [.out, .objs, .pinned, .regs, .boot, .ev, .roleKeys, .restartWrites, .st, .flashJournal, .ctl, .mon, .sdiRx, .ridge, .media, .ws] ([.au, .tarn, .sad, .diskJournal]), [], []⟩ s_a x6 := by
    subst x6
    refine Only.ite ?_ ?_
    · exact hx5
    · refine Only.seq (State.restoreSsrcs_only ..) ?_ (by decide)
      refine Only.seq (State.meetLoaded_only ..) ?_ (by decide)
      exact hx5
  clear_value x6
  extract_lets +onlyGivenNames x7
  have hx7 : Only ⟨List.append [.out, .objs, .pinned, .regs, .boot, .ev, .roleKeys, .restartWrites, .st, .flashJournal, .ctl, .mon, .sdiRx, .ridge, .media, .ws] ([.au, .tarn, .sad, .diskJournal]), [], []⟩ s_a x7 := by
    subst x7
    refine Only.ite ?_ ?_
    · refine Only.seq (State.formSaddle_only ..) ?_ (by decide)
      exact hx6
    · exact hx6
  clear_value x7
  extract_lets +onlyGivenNames x8
  have hx8 : Only ⟨List.append [.out, .objs, .pinned, .regs, .boot, .ev, .roleKeys, .restartWrites, .st, .flashJournal, .ctl, .mon, .sdiRx, .ridge, .media, .ws] ([.au, .tarn, .sad, .diskJournal]), [], []⟩ s_a x8 := by
    subst x8
    refine Only.ite ?_ ?_
    · refine Only.seq (State.raise_only ..) ?_ (by decide)
      exact hx7
    · exact hx7
  clear_value x8
  extract_lets +onlyGivenNames x9
  refine Only.ite ?_ ?_
  · refine Only.seq (State.startSave_only ..) ?_ (by decide)
    exact hx8
  · exact hx8

theorem State.openControl_only (s_a) : Only ⟨[.out, .pinned, .regs, .ev, .ctlUp, .flashJournal, .ctl, .diskJournal], [Obj.eventCount, Obj.eventLastAt, Obj.eventLastSubject, Obj.healthReasons, Obj.healthState], []⟩ s_a (State.openControl s_a) := by
  unfold State.openControl
  extract_lets +onlyGivenNames x1
  have hx1 : Only ⟨[.out, .pinned, .regs, .ev, .ctlUp, .flashJournal, .ctl, .diskJournal], [Obj.eventCount, Obj.eventLastAt, Obj.eventLastSubject, Obj.healthReasons, Obj.healthState], []⟩ s_a x1 := by
    subst x1
    refine Only.seq (State.refreshProvision_only ..) ?_ (by decide)
    refine Only.seq (State.ctlStart_only ..) ?_ (by decide)
    refine Only.seq (State.ctlStart_only ..) ?_ (by decide)
    exact Only.refl _ _
  clear_value x1
  refine Only.seq (Only.upd (r := ⟨[.ctlUp], [], []⟩) (s := x1) (fun p => by cases p <;> first | exact .inr rfl | exact .inl (by decide))) ?_ (by decide)
  exact hx1

theorem State.enterUpland_only (s_a) : Only ⟨[.boot, .update], [], []⟩ s_a (State.enterUpland s_a) := by
  unfold State.enterUpland
  extract_lets +onlyGivenNames x1
  refine Only.seq (Only.upd (r := ⟨[.boot, .update], [], []⟩) (s := s_a) (fun p => by cases p <;> first | exact .inr rfl | exact .inl (by decide))) ?_ (by decide)
  exact Only.refl _ _

theorem State.bootUpland_only (s_a) : Only ⟨List.append [.out, .objs, .pinned, .regs, .boot, .ev, .ctlUp, .roleKeys, .restartWrites, .st, .update, .flashJournal, .ctl, .mon, .sdiRx, .ridge] ([.media, .ws, .au, .tarn, .sad, .diskJournal]), [], []⟩ s_a (State.bootUpland s_a) := by
  unfold State.bootUpland
  extract_lets +onlyGivenNames x1
  have hx1 : Only ⟨List.append [.out, .objs, .pinned, .regs, .boot, .ev, .ctlUp, .roleKeys, .restartWrites, .st, .update, .flashJournal, .ctl, .mon, .sdiRx, .ridge] ([.media, .ws, .au, .tarn, .sad, .diskJournal]), [], []⟩ s_a x1 := by
    subst x1
    refine Only.seq (State.enterUpland_only ..) ?_ (by decide)
    exact Only.refl _ _
  clear_value x1
  extract_lets +onlyGivenNames x2
  extract_lets +onlyGivenNames x3
  have hx3 : Only ⟨List.append [.out, .objs, .pinned, .regs, .boot, .ev, .ctlUp, .roleKeys, .restartWrites, .st, .update, .flashJournal, .ctl, .mon, .sdiRx, .ridge] ([.media, .ws, .au, .tarn, .sad, .diskJournal]), [], []⟩ s_a x3 := by
    subst x3
    refine Only.seq (Only.upd (r := ⟨[.boot], [], []⟩) (s := x1) (fun p => by cases p <;> first | exact .inr rfl | exact .inl (by decide))) ?_ (by decide)
    exact hx1
  clear_value x3
  extract_lets +onlyGivenNames x4
  have hx4 : Only ⟨List.append [.out, .objs, .pinned, .regs, .boot, .ev, .ctlUp, .roleKeys, .restartWrites, .st, .update, .flashJournal, .ctl, .mon, .sdiRx, .ridge] ([.media, .ws, .au, .tarn, .sad, .diskJournal]), [], []⟩ s_a x4 := by
    subst x4
    refine Only.seq (State.loadSettings_only ..) ?_ (by decide)
    exact hx3
  clear_value x4
  extract_lets +onlyGivenNames x5
  have hx5 : Only ⟨List.append [.out, .objs, .pinned, .regs, .boot, .ev, .ctlUp, .roleKeys, .restartWrites, .st, .update, .flashJournal, .ctl, .mon, .sdiRx, .ridge] ([.media, .ws, .au, .tarn, .sad, .diskJournal]), [], []⟩ s_a x5 := by
    subst x5
    refine Only.ite ?_ ?_
    · exact hx4
    · refine Only.seq (State.releasePerst_only ..) ?_ (by decide)
      exact hx4
  clear_value x5
  extract_lets +onlyGivenNames x6
  have hx6 : Only ⟨List.append [.out, .objs, .pinned, .regs, .boot, .ev, .ctlUp, .roleKeys, .restartWrites, .st, .update, .flashJournal, .ctl, .mon, .sdiRx, .ridge] ([.media, .ws, .au, .tarn, .sad, .diskJournal]), [], []⟩ s_a x6 := by
    subst x6
    refine Only.seq (State.openControl_only ..) ?_ (by decide)
    exact hx5
  clear_value x6
  refine Only.ite ?_ ?_
  · exact hx6
  · refine Only.seq (State.restoreChecks_only ..) ?_ (by decide)
    exact hx6

theorem State.reenterUpland_only (s : State) : Only ⟨List.append [.out, .tc, .objs, .pinned, .regs, .mem, .boot, .ev, .ctlUp, .sessions, .challenges, .lockouts, .roleKeys, .salvos, .frameWrites, .restartWrites] (List.append [.engine, .tw, .st, .update, .flashJournal, .osf, .gate, .ctl, .colLast, .scr, .mon, .sdiRx, .sdiTx, .ridge, .cq, .media] ([.ws, .au, .tarn, .sad, .mor, .diskJournal])), [], []⟩ s s.reenterUpland := by
  unfold State.reenterUpland
  split
  · rename_i t h
    exact (State.openControl_only ..).seq ((State.enterUpland_only ..).seq
      (Only.seq (t := t) (Only.upd (r := ⟨List.append [.out, .tc, .objs, .pinned, .regs, .mem, .boot, .ev, .ctlUp, .sessions, .challenges, .lockouts, .roleKeys, .salvos, .frameWrites, .restartWrites] (List.append [.engine, .tw, .st, .update, .flashJournal, .osf, .gate, .ctl, .colLast, .scr, .mon, .sdiRx, .sdiTx, .ridge, .cq, .media] ([.ws, .au, .tarn, .sad, .mor, .diskJournal])), [], []⟩) (fun p => by cases p <;> first | exact .inr rfl | exact .inl (by decide))) ((State.chooseUpland_only h).up)))
  · exact (State.hardRestart_only ..).seq (Only.upd (r := ⟨List.append [.out, .tc, .objs, .pinned, .regs, .mem, .boot, .ev, .ctlUp, .sessions, .challenges, .lockouts, .roleKeys, .salvos, .frameWrites, .restartWrites] (List.append [.engine, .tw, .st, .update, .flashJournal, .osf, .gate, .ctl, .colLast, .scr, .mon, .sdiRx, .sdiTx, .ridge, .cq, .media] ([.ws, .au, .tarn, .sad, .mor, .diskJournal])), [], []⟩) (fun p => by cases p <;> first | exact .inr rfl | exact .inl (by decide)))

theorem execUplandEntered_only (dt_a s_a) : OnlyR ⟨List.append [.out, .now, .tc, .objs, .pinned, .regs, .mem, .boot, .ev, .ctlUp, .sessions, .challenges, .lockouts, .roleKeys, .salvos, .frameWrites] (List.append [.restartWrites, .engine, .tw, .st, .update, .flashJournal, .osf, .gate, .ctl, .colLast, .scr, .mon, .sdiRx, .sdiTx, .ridge, .cq] ([.media, .ws, .au, .tarn, .sad, .mor, .diskJournal])), [], []⟩ s_a (execUplandEntered dt_a s_a) := by
  unfold execUplandEntered
  refine act_only (hk2 := fun u1 => ?_) (l := (by decide)) ..
  refine Only.ite ?_ ?_
  · refine Only.seq (State.bootUpland_only ..) ?_ (by decide)
    exact Only.refl _ _
  · refine Only.ite ?_ ?_
    · refine Only.seq (State.reenterUpland_only ..) ?_ (by decide)
      exact Only.refl _ _
    · exact Only.refl _ _

theorem State.restoreCommit_only (s_a b_a) : Only ⟨[.out, .fresh, .objs, .pinned, .regs, .boot, .ev, .flashJournal, .sdiRx, .ridge, .cq, .media, .au, .mor, .diskJournal], [], []⟩ s_a (State.restoreCommit s_a b_a) := by
  unfold State.restoreCommit
  extract_lets +onlyGivenNames x1
  extract_lets +onlyGivenNames x2
  extract_lets +onlyGivenNames x3
  extract_lets +onlyGivenNames x4
  have hx4 : Only ⟨[.out, .fresh, .objs, .pinned, .regs, .boot, .ev, .flashJournal, .sdiRx, .ridge, .cq, .media, .au, .mor, .diskJournal], [], []⟩ s_a x4 := by
    subst x4
    refine Only.seq (Only.upd (r := ⟨[.objs, .boot], [], []⟩) (s := s_a) (fun p => by cases p <;> first | exact .inr rfl | exact .inl (by decide))) ?_ (by decide)
    exact Only.refl _ _
  clear_value x4
  extract_lets +onlyGivenNames x5
  have hx5 : Only ⟨[.out, .fresh, .objs, .pinned, .regs, .boot, .ev, .flashJournal, .sdiRx, .ridge, .cq, .media, .au, .mor, .diskJournal], [], []⟩ s_a x5 := by
    subst x5
    refine Only.seq (State.meetCommit_only ..) ?_ (by decide)
    refine Only.seq (State.markRoutes_only ..) ?_ (by decide)
    exact hx4
  clear_value x5
  extract_lets +onlyGivenNames x6
  have hx6 : Only ⟨[.out, .fresh, .objs, .pinned, .regs, .boot, .ev, .flashJournal, .sdiRx, .ridge, .cq, .media, .au, .mor, .diskJournal], [], []⟩ s_a x6 := by
    subst x6
    refine Only.seq (State.raise_only ..) ?_ (by decide)
    exact hx5
  clear_value x6
  refine Only.ite ?_ ?_
  · refine Only.seq (State.raise_only ..) ?_ (by decide)
    exact hx6
  · exact hx6

theorem execWatchdogExpiry_only (dt_a s_a) : OnlyR ⟨List.append [.out, .now, .tc, .objs, .pinned, .regs, .mem, .boot, .ev, .ctlUp, .sessions, .challenges, .lockouts, .roleKeys, .salvos, .frameWrites] (List.append [.restartWrites, .engine, .tw, .st, .update, .osf, .gate, .ctl, .colLast, .scr, .mon, .sdiRx, .sdiTx, .ridge, .cq, .media] ([.ws, .au, .tarn, .sad, .mor, .diskJournal])), [], []⟩ s_a (execWatchdogExpiry dt_a s_a) := by
  unfold execWatchdogExpiry
  refine actIf_only (hk3 := fun u1 => ?_) (l := (by decide)) ..
  refine Only.seq (State.hardRestart_only ..) ?_ (by decide)
  exact Only.refl _ _

theorem State.proceedSoft_only (s_a) : Only ⟨List.append [.out, .pinned, .regs, .mem, .boot, .ev, .ctlUp, .sessions, .challenges, .lockouts, .roleKeys, .salvos, .frameWrites, .engine, .tw, .st] ([.update, .flashJournal, .gate, .ctl, .scr, .media, .diskJournal]), [Obj.storeGeneration, Obj.storeLastSavedAt, Obj.eventCount, Obj.eventLastAt, Obj.eventLastSubject, Obj.healthReasons, Obj.healthState, Obj.rxFlowState, Obj.txFlowState, Obj.portTxFramesB, Obj.portTxFrames, Obj.portTxBytesB, Obj.portTxBytes, Obj.updateState], []⟩ s_a (State.proceedSoft s_a) := by
  unfold State.proceedSoft
  extract_lets +onlyGivenNames x1
  have hx1 : Only ⟨List.append [.out, .pinned, .regs, .mem, .boot, .ev, .ctlUp, .sessions, .challenges, .lockouts, .roleKeys, .salvos, .frameWrites, .engine, .tw, .st] ([.update, .flashJournal, .gate, .ctl, .scr, .media, .diskJournal]), [Obj.storeGeneration, Obj.storeLastSavedAt, Obj.eventCount, Obj.eventLastAt, Obj.eventLastSubject, Obj.healthReasons, Obj.healthState, Obj.rxFlowState, Obj.txFlowState, Obj.portTxFramesB, Obj.portTxFrames, Obj.portTxBytesB, Obj.portTxBytes, Obj.updateState], []⟩ s_a x1 := by
    subst x1
    refine Only.seq (State.completeSaves_only ..) ?_ (by decide)
    exact Only.refl _ _
  clear_value x1
  extract_lets +onlyGivenNames x2
  have hx2 : Only ⟨List.append [.out, .pinned, .regs, .mem, .boot, .ev, .ctlUp, .sessions, .challenges, .lockouts, .roleKeys, .salvos, .frameWrites, .engine, .tw, .st] ([.update, .flashJournal, .gate, .ctl, .scr, .media, .diskJournal]), [Obj.storeGeneration, Obj.storeLastSavedAt, Obj.eventCount, Obj.eventLastAt, Obj.eventLastSubject, Obj.healthReasons, Obj.healthState, Obj.rxFlowState, Obj.txFlowState, Obj.portTxFramesB, Obj.portTxFrames, Obj.portTxBytesB, Obj.portTxBytes, Obj.updateState], []⟩ s_a x2 := by
    subst x2
    refine Only.foldl (fun u3 x4 => ?_) ?_
    · refine Only.seq (State.answerFor_only ..) ?_ (by decide)
      exact Only.refl _ _
    · exact hx1
  clear_value x2
  refine Only.seq (State.startSoft_only ..) ?_ (by decide)
  refine Only.seq (State.endSessions_only ..) ?_ (by decide)
  refine Only.seq (State.completeSaves_only ..) ?_ (by decide)
  refine Only.seq (State.startSave_only ..) ?_ (by decide)
  exact hx2

theorem State.requestSoft_only (s_a a_a) : Only ⟨List.append [.out, .pinned, .regs, .mem, .boot, .ev, .ctlUp, .sessions, .challenges, .lockouts, .roleKeys, .salvos, .frameWrites, .engine, .tw, .st] ([.update, .flashJournal, .gate, .ctl, .scr, .media, .diskJournal]), [Obj.storeGeneration, Obj.storeLastSavedAt, Obj.eventCount, Obj.eventLastAt, Obj.eventLastSubject, Obj.healthReasons, Obj.healthState, Obj.rxFlowState, Obj.txFlowState, Obj.portTxFramesB, Obj.portTxFrames, Obj.portTxBytesB, Obj.portTxBytes, Obj.updateState], []⟩ s_a (State.requestSoft s_a a_a) := by
  unfold State.requestSoft
  extract_lets +onlyGivenNames x1
  extract_lets +onlyGivenNames x2
  have hx2 : Only ⟨List.append [.out, .pinned, .regs, .mem, .boot, .ev, .ctlUp, .sessions, .challenges, .lockouts, .roleKeys, .salvos, .frameWrites, .engine, .tw, .st] ([.update, .flashJournal, .gate, .ctl, .scr, .media, .diskJournal]), [Obj.storeGeneration, Obj.storeLastSavedAt, Obj.eventCount, Obj.eventLastAt, Obj.eventLastSubject, Obj.healthReasons, Obj.healthState, Obj.rxFlowState, Obj.txFlowState, Obj.portTxFramesB, Obj.portTxFrames, Obj.portTxBytesB, Obj.portTxBytes, Obj.updateState], []⟩ s_a x2 := by
    subst x2
    refine Only.seq (Only.upd (r := ⟨[.boot], [], []⟩) (s := s_a) (fun p => by cases p <;> first | exact .inr rfl | exact .inl (by decide))) ?_ (by decide)
    exact Only.refl _ _
  clear_value x2
  refine Only.ite ?_ ?_
  · exact hx2
  · refine Only.seq (State.proceedSoft_only ..) ?_ (by decide)
    exact hx2

theorem State.requestHard_only (s_a a_a) : Only ⟨List.append [.out, .tc, .objs, .pinned, .regs, .mem, .boot, .ev, .ctlUp, .sessions, .challenges, .lockouts, .roleKeys, .salvos, .frameWrites, .restartWrites] (List.append [.engine, .tw, .st, .update, .flashJournal, .osf, .gate, .ctl, .colLast, .scr, .mon, .sdiRx, .sdiTx, .ridge, .cq, .media] ([.ws, .au, .tarn, .sad, .mor, .diskJournal])), [], []⟩ s_a (State.requestHard s_a a_a) := by
  unfold State.requestHard
  extract_lets +onlyGivenNames x1
  have hx1 : Only ⟨List.append [.out, .tc, .objs, .pinned, .regs, .mem, .boot, .ev, .ctlUp, .sessions, .challenges, .lockouts, .roleKeys, .salvos, .frameWrites, .restartWrites] (List.append [.engine, .tw, .st, .update, .flashJournal, .osf, .gate, .ctl, .colLast, .scr, .mon, .sdiRx, .sdiTx, .ridge, .cq, .media] ([.ws, .au, .tarn, .sad, .mor, .diskJournal])), [], []⟩ s_a x1 := by
    subst x1
    refine Only.seq (State.completeSaves_only ..) ?_ (by decide)
    exact Only.refl _ _
  clear_value x1
  extract_lets +onlyGivenNames x2
  have hx2 : Only ⟨List.append [.out, .tc, .objs, .pinned, .regs, .mem, .boot, .ev, .ctlUp, .sessions, .challenges, .lockouts, .roleKeys, .salvos, .frameWrites, .restartWrites] (List.append [.engine, .tw, .st, .update, .flashJournal, .osf, .gate, .ctl, .colLast, .scr, .mon, .sdiRx, .sdiTx, .ridge, .cq, .media] ([.ws, .au, .tarn, .sad, .mor, .diskJournal])), [], []⟩ s_a x2 := by
    subst x2
    refine Only.optElim (fun x3 => ?_) ?_
    · refine Only.seq (State.answerFor_only ..) ?_ (by decide)
      exact hx1
    · exact hx1
  clear_value x2
  refine Only.seq (State.hardRestart_only ..) ?_ (by decide)
  refine Only.seq (State.endSessions_only ..) ?_ (by decide)
  exact hx2

theorem execSoftRestartProceed_only (dt_a s_a) : OnlyR ⟨List.append [.out, .now, .tc, .pinned, .regs, .mem, .boot, .ev, .ctlUp, .sessions, .challenges, .lockouts, .roleKeys, .salvos, .frameWrites, .engine] ([.tw, .st, .update, .flashJournal, .gate, .ctl, .scr, .media, .diskJournal]), [Obj.storeGeneration, Obj.storeLastSavedAt, Obj.eventCount, Obj.eventLastAt, Obj.eventLastSubject, Obj.healthReasons, Obj.healthState, Obj.rxFlowState, Obj.txFlowState, Obj.portTxFramesB, Obj.portTxFrames, Obj.portTxBytesB, Obj.portTxBytes, Obj.updateState], []⟩ s_a (execSoftRestartProceed dt_a s_a) := by
  unfold execSoftRestartProceed
  refine actIf_only (hk3 := fun u1 => ?_) (l := (by decide)) ..
  refine Only.seq (State.proceedSoft_only ..) ?_ (by decide)
  exact Only.refl _ _

theorem State.monitorReason_only (s_a k_a set_a clear_a event_a subject_a) : Only ⟨[.out, .pinned, .ev, .flashJournal, .diskJournal], [Obj.healthReasons, Obj.healthState, Obj.eventCount, Obj.eventLastAt, Obj.eventLastSubject], [0x40000004, 0x40000008]⟩ s_a (State.monitorReason s_a k_a set_a clear_a event_a subject_a) := by
  unfold State.monitorReason
  extract_lets +onlyGivenNames x1
  refine Only.ite ?_ ?_
  · refine Only.seq (State.raise_only ..) ?_ (by decide)
    refine Only.seq (State.setReason_only ..) ?_ (by decide)
    exact Only.refl _ _
  · refine Only.ite ?_ ?_
    · refine Only.seq (State.setReason_only ..) ?_ (by decide)
      exact Only.refl _ _
    · exact Only.refl _ _

theorem execHealthMonitorSample_only (dt_a temp_a margins_a hbmTemps_a s_a) : OnlyR ⟨[.out, .now, .tc, .pinned, .boot, .ev, .flashJournal, .diskJournal], [Obj.junctionTemp, Obj.junctionTempMax, Obj.supplyMargin, Obj.healthReasons, Obj.healthState, Obj.eventCount, Obj.eventLastAt, Obj.eventLastSubject], [0x40000004, 0x40000008]⟩ s_a (execHealthMonitorSample dt_a temp_a margins_a hbmTemps_a s_a) := by
  unfold execHealthMonitorSample
  refine act_only (hk2 := fun u1 => ?_) (l := (by decide)) ..
  extract_lets +onlyGivenNames x2
  extract_lets +onlyGivenNames x3
  have hx3 : Only ⟨[.out, .now, .tc, .pinned, .boot, .ev, .flashJournal, .diskJournal], [Obj.junctionTemp, Obj.junctionTempMax, Obj.supplyMargin, Obj.healthReasons, Obj.healthState, Obj.eventCount, Obj.eventLastAt, Obj.eventLastSubject], [0x40000004, 0x40000008]⟩ u1 x3 := by
    subst x3
    refine Only.seq (State.setI_only ..) ?_ (by decide)
    refine Only.seq (State.setI_only ..) ?_ (by decide)
    exact Only.refl _ _
  clear_value x3
  extract_lets +onlyGivenNames x4
  have hx4 : Only ⟨[.out, .now, .tc, .pinned, .boot, .ev, .flashJournal, .diskJournal], [Obj.junctionTemp, Obj.junctionTempMax, Obj.supplyMargin, Obj.healthReasons, Obj.healthState, Obj.eventCount, Obj.eventLastAt, Obj.eventLastSubject], [0x40000004, 0x40000008]⟩ u1 x4 := by
    subst x4
    refine Only.foldl (fun u5 x6 => ?_) ?_
    · refine Only.seq (State.setI_only ..) ?_ (by decide)
      exact Only.refl _ _
    · exact hx3
  clear_value x4
  extract_lets +onlyGivenNames x7
  extract_lets +onlyGivenNames x8
  have hx8 : Only ⟨[.out, .now, .tc, .pinned, .boot, .ev, .flashJournal, .diskJournal], [Obj.junctionTemp, Obj.junctionTempMax, Obj.supplyMargin, Obj.healthReasons, Obj.healthState, Obj.eventCount, Obj.eventLastAt, Obj.eventLastSubject], [0x40000004, 0x40000008]⟩ u1 x8 := by
    subst x8
    refine Only.seq (Only.upd (r := ⟨[.boot], [], []⟩) (s := x4) (fun p => by cases p <;> first | exact .inr rfl | exact .inl (by decide))) ?_ (by decide)
    exact hx4
  clear_value x8
  extract_lets +onlyGivenNames x9
  have hx9 : Only ⟨[.out, .now, .tc, .pinned, .boot, .ev, .flashJournal, .diskJournal], [Obj.junctionTemp, Obj.junctionTempMax, Obj.supplyMargin, Obj.healthReasons, Obj.healthState, Obj.eventCount, Obj.eventLastAt, Obj.eventLastSubject], [0x40000004, 0x40000008]⟩ u1 x9 := by
    subst x9
    refine Only.seq (State.monitorReason_only ..) ?_ (by decide)
    exact hx8
  clear_value x9
  extract_lets +onlyGivenNames x10
  have hx10 : Only ⟨[.out, .now, .tc, .pinned, .boot, .ev, .flashJournal, .diskJournal], [Obj.junctionTemp, Obj.junctionTempMax, Obj.supplyMargin, Obj.healthReasons, Obj.healthState, Obj.eventCount, Obj.eventLastAt, Obj.eventLastSubject], [0x40000004, 0x40000008]⟩ u1 x10 := by
    subst x10
    refine Only.seq (State.monitorReason_only ..) ?_ (by decide)
    exact hx9
  clear_value x10
  refine Only.seq (State.monitorReason_only ..) ?_ (by decide)
  exact hx10

theorem State.clearHealth_only (s_a) : Only ⟨[.out, .pinned, .ev, .flashJournal, .diskJournal], [Obj.healthReasons, Obj.healthState, Obj.eventCount, Obj.eventLastAt, Obj.eventLastSubject, Obj.junctionTempMax], [0x40000004, 0x40000008]⟩ s_a (State.clearHealth s_a) := by
  unfold State.clearHealth
  refine Only.seq (State.toDefault_only ..) ?_ (by decide)
  refine Only.seq (State.setReason_only ..) ?_ (by decide)
  refine Only.seq (State.setReason_only ..) ?_ (by decide)
  exact Only.refl _ _

end Sys2Proof.Machine
end

