-- ==== Sys2Proof/Laws/OnlyBoundary.lean ====
section
/-!
SUPPORT. What the functions of Machine/Boundary.lean may change (`Only` of Laws/Only.lean).
-/
namespace Sys2Proof.Machine
set_option Elab.async false

theorem State.restoreAt_only (s_a b_a) : Only ⟨[.out, .fresh, .objs, .pinned, .regs, .boot, .ev, .flashJournal, .sdiRx, .ridge, .cq, .media, .au, .mor, .diskJournal], [], []⟩ s_a (State.restoreAt s_a b_a) := by
  unfold State.restoreAt
  refine Only.seq (State.onlyIf_only (hk2 := fun u1 => ?_) (l := (by decide)) ..) ?_ (Reach.le_refl _)
  · refine Only.seq (State.restoreCommit_only ..) ?_ (by decide)
    exact Only.refl _ _
  · exact Only.refl _ _

theorem State.runBoundary_only (s_a b_a) : Only ⟨List.append [.out, .fresh, .objs, .pinned, .regs, .mem, .boot, .ev, .sessions, .salvos, .frameWrites, .engine, .tw, .flashJournal, .gate, .sdiRx] ([.ridge, .cq, .media, .au, .mor, .diskJournal]), [], []⟩ s_a (State.runBoundary s_a b_a) := by
  unfold State.runBoundary
  split
  rename_i v1 t2 e3
  have ht2 : Only ⟨List.append [.out, .fresh, .objs, .pinned, .regs, .mem, .boot, .ev, .sessions, .salvos, .frameWrites, .engine, .tw, .flashJournal, .gate, .sdiRx] ([.ridge, .cq, .media, .au, .mor, .diskJournal]), [], []⟩ s_a t2 := by
    refine Only.snd e3 ?_
    split
    · refine Only.seq (State.decideRole_only ..) ?_ (by decide)
      exact Only.refl _ _
    · refine Only.mk2 ?_
      exact Only.refl _ _
  extract_lets +onlyGivenNames x4
  have hx4 : Only ⟨List.append [.out, .fresh, .objs, .pinned, .regs, .mem, .boot, .ev, .sessions, .salvos, .frameWrites, .engine, .tw, .flashJournal, .gate, .sdiRx] ([.ridge, .cq, .media, .au, .mor, .diskJournal]), [], []⟩ s_a x4 := by
    subst x4
    refine Only.seq (State.executeBoundary_only ..) ?_ (by decide)
    refine Only.seq (State.countStale_only ..) ?_ (by decide)
    exact ht2
  clear_value x4
  extract_lets +onlyGivenNames x5
  have hx5 : Only ⟨List.append [.out, .fresh, .objs, .pinned, .regs, .mem, .boot, .ev, .sessions, .salvos, .frameWrites, .engine, .tw, .flashJournal, .gate, .sdiRx] ([.ridge, .cq, .media, .au, .mor, .diskJournal]), [], []⟩ s_a x5 := by
    subst x5
    split
    · refine Only.seq (State.takeover_only ..) ?_ (by decide)
      exact hx4
    · refine Only.seq (State.demote_only ..) ?_ (by decide)
      exact hx4
    · exact hx4
  clear_value x5
  extract_lets +onlyGivenNames x6
  have hx6 : Only ⟨List.append [.out, .fresh, .objs, .pinned, .regs, .mem, .boot, .ev, .sessions, .salvos, .frameWrites, .engine, .tw, .flashJournal, .gate, .sdiRx] ([.ridge, .cq, .media, .au, .mor, .diskJournal]), [], []⟩ s_a x6 := by
    subst x6
    refine Only.seq (State.restoreAt_only ..) ?_ (by decide)
    exact hx5
  clear_value x6
  refine Only.seq (State.firnGrants_only ..) ?_ (by decide)
  exact hx6

theorem execHouseFrameBoundary_only (dt_a s_a) : OnlyR ⟨List.append [.out, .fresh, .now, .tc, .objs, .pinned, .regs, .mem, .boot, .ev, .sessions, .salvos, .frameWrites, .engine, .tw, .flashJournal] ([.gate, .sdiRx, .ridge, .cq, .media, .au, .mor, .diskJournal]), [], []⟩ s_a (execHouseFrameBoundary dt_a s_a) := by
  unfold execHouseFrameBoundary
  refine actIf_only (hk3 := fun u1 => ?_) (l := (by decide)) ..
  extract_lets +onlyGivenNames x2
  extract_lets +onlyGivenNames x3
  extract_lets +onlyGivenNames x4
  have hx4 : Only ⟨List.append [.out, .fresh, .now, .tc, .objs, .pinned, .regs, .mem, .boot, .ev, .sessions, .salvos, .frameWrites, .engine, .tw, .flashJournal] ([.gate, .sdiRx, .ridge, .cq, .media, .au, .mor, .diskJournal]), [], []⟩ u1 x4 := by
    subst x4
    refine Only.seq (Only.upd (r := ⟨[.engine], [], []⟩) (s := u1) (fun p => by cases p <;> first | exact .inr rfl | exact .inl (by decide))) ?_ (by decide)
    exact Only.refl _ _
  clear_value x4
  extract_lets +onlyGivenNames x5
  have hx5 : Only ⟨List.append [.out, .fresh, .now, .tc, .objs, .pinned, .regs, .mem, .boot, .ev, .sessions, .salvos, .frameWrites, .engine, .tw, .flashJournal] ([.gate, .sdiRx, .ridge, .cq, .media, .au, .mor, .diskJournal]), [], []⟩ u1 x5 := by
    subst x5
    refine Only.ite ?_ ?_
    · refine Only.seq (State.runBoundary_only ..) ?_ (by decide)
      exact hx4
    · refine Only.seq (State.restoreAt_only ..) ?_ (by decide)
      exact hx4
  clear_value x5
  refine Only.seq (State.toggleHealth_only ..) ?_ (by decide)
  refine Only.seq (State.onlyIf_only (hk2 := fun u6 => ?_) (l := (by decide)) ..) ?_ (Reach.le_refl _)
  · refine Only.seq (State.refreshTwin_only ..) ?_ (by decide)
    exact Only.refl _ _
  · exact hx5

end Sys2Proof.Machine
end

