-- ==== Sys2Proof/Laws/OnlyWrites.lean ====
section
/-!
SUPPORT. What the functions of Machine/Writes.lean may change (`Only` of Laws/Only.lean).
-/
namespace Sys2Proof.Machine
set_option Elab.async false

theorem State.clearBeside_only (s_a i_a n_a) : Only ⟨[.pinned, .regs, .mon, .media, .ws, .au], [Obj.refHistory, Obj.refLosses, Obj.refInvalidPulses, Obj.wsHistory, Obj.wsRefSwitches, Obj.wsPhaseHistogram, Obj.monHistogram, Obj.monState, Obj.monPrevious], []⟩ s_a (State.clearBeside s_a i_a n_a) := by
  unfold State.clearBeside
  split
  · refine Only.seq (State.setStrip_only ..) ?_ (by decide)
    exact Only.refl _ _
  · refine Only.seq (State.setBus_only ..) ?_ (by decide)
    exact Only.refl _ _
  · refine Only.seq (State.setAout_only ..) ?_ (by decide)
    exact Only.refl _ _
  · refine Only.seq (State.setRxe_only ..) ?_ (by decide)
    exact Only.refl _ _
  · refine Only.seq (State.clearRegs_only ..) ?_ (by decide)
    exact Only.refl _ _
  · refine Only.foldl (fun u1 x2 => ?_) ?_
    · refine Only.seq (State.setRegN_only ..) ?_ (by simp [Reach.le])
      exact Only.refl _ _
    · exact Only.refl _ _
  · refine Only.seq (State.clearHistory_only ..) ?_ (by decide)
    exact Only.refl _ _
  · refine Only.seq (State.clearPhaseHistogram_only ..) ?_ (by decide)
    exact Only.refl _ _
  · refine Only.seq (State.monClear_only ..) ?_ (by decide)
    exact Only.refl _ _
  · exact Only.refl _ _

theorem State.clearObject_only (s_a i_a n_a) : Only ⟨[.objs, .pinned, .regs, .mon, .media, .ws, .au], [], []⟩ s_a (State.clearObject s_a i_a n_a) := by
  unfold State.clearObject
  extract_lets +onlyGivenNames x1
  have hx1 : Only ⟨[.objs, .pinned, .regs, .mon, .media, .ws, .au], [], []⟩ s_a x1 := by
    subst x1
    refine Only.seq (State.clearCounters_only ..) ?_ (by decide)
    exact Only.refl _ _
  clear_value x1
  extract_lets +onlyGivenNames x2
  have hx2 : Only ⟨[.objs, .pinned, .regs, .mon, .media, .ws, .au], [], []⟩ s_a x2 := by
    subst x2
    refine Only.foldl (fun u3 x4 => ?_) ?_
    · refine Only.foldl (fun u5 x6 => ?_) ?_
      · refine Only.seq (State.clearCounter_only ..) ?_ (by simp [Reach.le])
        exact Only.refl _ _
      · exact Only.refl _ _
    · exact hx1
  clear_value x2
  refine Only.seq (State.clearBeside_only ..) ?_ (by decide)
  exact hx2

theorem State.trigger_only (s_a i_a n_a v_a) : Only ⟨List.append [.out, .fresh, .tc, .objs, .pinned, .regs, .ev, .lockouts, .engine, .st, .update, .rollback, .flashJournal, .mon, .ridge, .cq] ([.media, .ws, .au, .tarn, .sad, .mor, .diskJournal]), [], []⟩ s_a (State.trigger s_a i_a n_a v_a) := by
  unfold State.trigger
  extract_lets +onlyGivenNames x1
  extract_lets +onlyGivenNames x2
  refine Only.ite ?_ ?_
  · refine Only.seq (State.gfxOffset_only ..) ?_ (by decide)
    exact Only.refl _ _
  · refine Only.ite ?_ ?_
    · refine Only.seq (State.gfxData_only ..) ?_ (by decide)
      exact Only.refl _ _
    · refine Only.ite ?_ ?_
      · refine Only.seq (State.shaperData_only ..) ?_ (by decide)
        exact Only.refl _ _
      · refine Only.ite ?_ ?_
        · refine Only.seq (State.lutOffset_only ..) ?_ (by decide)
          exact Only.refl _ _
        · refine Only.ite ?_ ?_
          · refine Only.seq (State.lutData_only ..) ?_ (by decide)
            exact Only.refl _ _
          · refine Only.ite ?_ ?_
            · refine Only.seq (State.timeSet_only ..) ?_ (by decide)
              exact Only.refl _ _
            · refine Only.ite ?_ ?_
              · refine Only.ite ?_ ?_
                · refine Only.seq (State.trainRequest_only ..) ?_ (by decide)
                  exact Only.refl _ _
                · exact Only.refl _ _
              · refine Only.ite ?_ ?_
                · exact Only.refl _ _
                · refine Only.ite ?_ ?_
                  · refine Only.seq (State.dropModel_only ..) ?_ (by decide)
                    exact Only.refl _ _
                  · refine Only.ite ?_ ?_
                    · refine Only.seq (State.slipLane_only ..) ?_ (by decide)
                      exact Only.refl _ _
                    · refine Only.ite ?_ ?_
                      · refine Only.seq (State.saddleRestart_only ..) ?_ (by decide)
                        exact Only.refl _ _
                      · refine Only.ite ?_ ?_
                        · refine Only.seq (State.morFormat_only ..) ?_ (by decide)
                          exact Only.refl _ _
                        · refine Only.ite ?_ ?_
                          · refine Only.seq (State.clipDelete_only ..) ?_ (by decide)
                            exact Only.refl _ _
                          · refine Only.ite ?_ ?_
                            · refine Only.seq (State.clearHealth_only ..) ?_ (by decide)
                              exact Only.refl _ _
                            · refine Only.ite ?_ ?_
                              · refine Only.seq (Only.upd (r := ⟨[.lockouts], [], []⟩) (s := s_a) (fun p => by cases p <;> first | exact .inr rfl | exact .inl (by decide))) ?_ (by decide)
                                exact Only.refl _ _
                              · refine Only.ite ?_ ?_
                                · refine Only.seq (State.evPinAck_only ..) ?_ (by decide)
                                  exact Only.refl _ _
                                · refine Only.ite ?_ ?_
                                  · refine Only.seq (State.confirm_only ..) ?_ (by decide)
                                    exact Only.refl _ _
                                  · refine Only.seq (State.clearObject_only ..) ?_ (by decide)
                                    exact Only.refl _ _

theorem State.applyNow_only (s_a a_a v_a) : Only ⟨List.append [.out, .fresh, .tc, .objs, .pinned, .regs, .ev, .lockouts, .engine, .st, .update, .rollback, .flashJournal, .ctl, .mon, .sdiRx] ([.ridge, .cq, .media, .ws, .au, .tarn, .sad, .mor, .diskJournal]), [], []⟩ s_a (State.applyNow s_a a_a v_a) := by
  unfold State.applyNow
  refine Only.ite ?_ ?_
  · refine Only.seq (State.putNow_only ..) ?_ (by simp [Reach.le])
    exact Only.refl _ _
  · refine Only.seq (State.trigger_only ..) ?_ (by decide)
    exact Only.refl _ _

theorem State.writeKey_only (s_a role_a key_a) : Only ⟨[.out, .pinned, .ev, .roleKeys, .flashJournal, .diskJournal], [Obj.roleKeyChangedAt, Obj.eventCount, Obj.eventLastAt, Obj.eventLastSubject, Obj.healthReasons, Obj.healthState], [0x40000004, 0x40000008]⟩ s_a (State.writeKey s_a role_a key_a) := by
  unfold State.writeKey
  extract_lets +onlyGivenNames x1
  extract_lets +onlyGivenNames x2
  have hx2 : Only ⟨[.out, .pinned, .ev, .roleKeys, .flashJournal, .diskJournal], [Obj.roleKeyChangedAt, Obj.eventCount, Obj.eventLastAt, Obj.eventLastSubject, Obj.healthReasons, Obj.healthState], [0x40000004, 0x40000008]⟩ s_a x2 := by
    subst x2
    refine Only.seq (Only.upd (r := ⟨[.roleKeys], [], []⟩) (s := s_a) (fun p => by cases p <;> first | exact .inr rfl | exact .inl (by decide))) ?_ (by decide)
    exact Only.refl _ _
  clear_value x2
  refine Only.seq (State.refreshProvision_only ..) ?_ (by decide)
  refine Only.seq (State.raise_only ..) ?_ (by decide)
  refine Only.seq (State.setN_only ..) ?_ (by decide)
  exact hx2

theorem State.writeLock_only (s_a on_a) : Only ⟨[.out, .pinned, .ev, .flashJournal, .diskJournal], [Obj.ownerLock, Obj.ownerLockChangedAt, Obj.eventCount, Obj.eventLastAt, Obj.eventLastSubject], [0x40000004, 0x40000008]⟩ s_a (State.writeLock s_a on_a) := by
  unfold State.writeLock
  refine Only.ite ?_ ?_
  · exact Only.refl _ _
  · refine Only.seq (State.raise_only ..) ?_ (by decide)
    refine Only.seq (State.setN_only ..) ?_ (by decide)
    refine Only.seq (State.setB_only ..) ?_ (by decide)
    exact Only.refl _ _

theorem State.programKey_only (s_a hash_a) : Only ⟨[.out, .pinned, .ev, .owners, .flashJournal, .diskJournal], [Obj.eventCount, Obj.eventLastAt, Obj.eventLastSubject], [0x40000004, 0x40000008]⟩ s_a (State.programKey s_a hash_a) := by
  unfold State.programKey
  split
  · refine Only.seq (State.raise_only ..) ?_ (by decide)
    refine Only.seq (Only.upd (r := ⟨[.owners], [], []⟩) (s := s_a) (fun p => by cases p <;> first | exact .inr rfl | exact .inl (by decide))) ?_ (by decide)
    exact Only.refl _ _
  · exact Only.refl _ _

theorem State.revokeKey_only (s_a k_a) : Only ⟨[.out, .pinned, .ev, .owners, .flashJournal, .diskJournal], [Obj.eventCount, Obj.eventLastAt, Obj.eventLastSubject], [0x40000004, 0x40000008]⟩ s_a (State.revokeKey s_a k_a) := by
  unfold State.revokeKey
  refine Only.seq (State.raise_only ..) ?_ (by decide)
  refine Only.seq (Only.upd (r := ⟨[.owners], [], []⟩) (s := s_a) (fun p => by cases p <;> first | exact .inr rfl | exact .inl (by decide))) ?_ (by decide)
  exact Only.refl _ _

/-- What a write that may not be one of these changes. -/
def OnlyW (r : Reach) (s : State) (o : Option Wrote) : Prop := ∀ w, o = some w → Only r s w.state

theorem OnlyW.ite {p : Prop} [Decidable p] {r : Reach} {s : State} {a b : Option Wrote} (h : OnlyW r s a) (g : OnlyW r s b) :
    OnlyW r s (if p then a else b) := by
  split
  · exact h
  · exact g

theorem OnlyW.some {r : Reach} {s : State} {w : Wrote} (h : Only r s w.state) : OnlyW r s (some w) :=
  fun _ e => by cases e; exact h

theorem OnlyW.written {r : Reach} {s : State} {w : Written} {x : After} (h : Only r s w.2) :
    OnlyW r s (Option.some (Written.wrote w x)) := OnlyW.some (by rw [Written.wrote_state]; exact h)

theorem OnlyW.when {p : Prop} [Decidable p] {r : Reach} {s : State} {w : Written} {x : After} (h : Only r s w.2) :
    OnlyW r s (Option.some (if p then Written.wrote w x else s.wrote)) := OnlyW.some (by
  split
  · rw [Written.wrote_state]; exact h
  · exact Only.refl r s)

theorem State.ownWrite_only (s : State) (session a : Nat) (v : Val) : OnlyW ⟨[.out, .pinned, .flash, .ev, .sessions, .roleKeys, .update, .owners, .flashJournal, .diskJournal], [Obj.healthReasons, Obj.healthState, Obj.eventCount, Obj.eventLastAt, Obj.eventLastSubject, Obj.roleKeyChangedAt, Obj.ownerLockChangedAt, Obj.ownerLock, Obj.updateResult, Obj.updateReceived, Obj.updateState, Obj.stagedSecurityVersion, Obj.stagedVersion], [0x40000004, 0x40000008, 0x40080014, 0x40080010]⟩ s (s.ownWrite session a v) := by
  unfold State.ownWrite
  extract_lets +onlyGivenNames i x b
  clear_value i x b
  refine .ite (.some ((State.writeKey_only ..).up)) (.ite (.some ((State.writeLock_only ..).up)) (.ite (.some ((State.programKey_only ..).up))
    (.ite (.some ((State.revokeKey_only ..).up)) (.ite (.some ?_) (.ite (.some (Only.refl _ s)) (.ite (.some (Only.refl _ s))
    (.ite (.written ((State.updateBegin_only ..).up)) (.ite (.written ((State.updateData_only ..).up))
    (.ite (.when ((State.updateCommit_only ..).up)) (.ite (.when ((State.updateActivate_only ..).up))
    (.ite (.when ((State.updateAbort_only ..).up)) ?_)))))))))))
  · exact Only.optElim (fun _ => (State.setSession_only ..).up) (Only.refl _ s)
  · exact fun _ e => by cases e

theorem State.classEffect_only (s_a a_a v_a c_a) : Only ⟨List.append [.out, .fresh, .tc, .objs, .pinned, .regs, .ev, .lockouts, .restartWrites, .engine, .st, .update, .rollback, .flashJournal, .ctl, .mon] ([.sdiRx, .ridge, .cq, .media, .ws, .au, .tarn, .sad, .mor, .diskJournal]), [], []⟩ s_a (State.classEffect s_a a_a v_a c_a) := by
  unfold State.classEffect
  split
  · exact Only.refl _ _
  · refine Only.seq (Only.upd (r := ⟨[.restartWrites], [], []⟩) (s := s_a) (fun p => by cases p <;> first | exact .inr rfl | exact .inl (by decide))) ?_ (by decide)
    exact Only.refl _ _
  · refine Only.seq (State.applyNow_only ..) ?_ (by decide)
    exact Only.refl _ _

theorem State.classWrite_only (s : State) (a : Nat) (v : Val) (k : Commit) : Only ⟨List.append [.out, .fresh, .tc, .objs, .pinned, .regs, .ev, .lockouts, .restartWrites, .engine, .tw, .st, .update, .rollback, .flashJournal, .ctl] ([.mon, .sdiRx, .ridge, .cq, .media, .ws, .au, .tarn, .sad, .mor, .diskJournal]), [], []⟩ s (s.classWrite a v k).state := by
  unfold State.classWrite
  split
  · exact Only.refl _ s
  · split
    · exact Only.refl _ s
    · exact (State.logWrite_only ..).seq ((State.classEffect_only ..).up)

theorem State.writeItem_only (s : State) (session role a : Nat) (value : List Byte) :
    Only ⟨List.append [.out, .fresh, .tc, .objs, .pinned, .regs, .flash, .ev, .sessions, .lockouts, .roleKeys, .restartWrites, .engine, .tw, .st, .update] ([.rollback, .owners, .flashJournal, .ctl, .mon, .sdiRx, .ridge, .cq, .media, .ws, .au, .tarn, .sad, .mor, .diskJournal]), [], []⟩ s (s.writeItem session role a value).state := by
  unfold State.writeItem
  split
  · exact Only.refl _ s
  · split
    · split
      · rw [Written.wrote_state]; exact (State.updateRefuse_only ..).up
      · exact Only.refl _ s
    · split
      · next h => exact (State.ownWrite_only _ _ _ _ _ h).up
      · exact (State.classWrite_only ..).up

theorem State.saveSoon_only (s_a) : Only ⟨[.st], [], []⟩ s_a (State.saveSoon s_a) := by
  unfold State.saveSoon
  refine Only.ite ?_ ?_
  · refine Only.seq (State.startSave_only ..) ?_ (by decide)
    exact Only.refl _ _
  · exact Only.refl _ _

theorem State.activateNow_only (s_a) : Only ⟨List.append [.out, .tc, .objs, .pinned, .regs, .mem, .boot, .ev, .ctlUp, .sessions, .challenges, .lockouts, .roleKeys, .salvos, .frameWrites, .restartWrites] (List.append [.engine, .tw, .st, .update, .flashJournal, .osf, .gate, .ctl, .colLast, .scr, .mon, .sdiRx, .sdiTx, .ridge, .cq, .media] ([.ws, .au, .tarn, .sad, .mor, .diskJournal])), [], []⟩ s_a (State.activateNow s_a) := by
  unfold State.activateNow
  extract_lets +onlyGivenNames x1
  subst x1
  refine Only.seq (State.hardRestart_only ..) ?_ (by decide)
  refine Only.seq (State.endSessions_only ..) ?_ (by decide)
  refine Only.seq (State.completeSaves_only ..) ?_ (by decide)
  exact Only.refl _ _

theorem State.followWrite_only (s_a x_a a_a) : Only ⟨List.append [.out, .tc, .objs, .pinned, .regs, .mem, .boot, .ev, .ctlUp, .sessions, .challenges, .lockouts, .roleKeys, .salvos, .frameWrites, .restartWrites] (List.append [.engine, .tw, .st, .update, .flashJournal, .osf, .gate, .ctl, .colLast, .scr, .mon, .sdiRx, .sdiTx, .ridge, .cq, .media] ([.ws, .au, .tarn, .sad, .mor, .diskJournal])), [], []⟩ s_a (State.followWrite s_a x_a a_a) := by
  unfold State.followWrite
  split
  · exact Only.refl _ _
  · exact Only.refl _ _
  · refine Only.seq (State.emit_only ..) ?_ (by decide)
    refine Only.seq (Only.upd (r := ⟨[.tw], [], []⟩) (s := s_a) (fun p => by cases p <;> first | exact .inr rfl | exact .inl (by decide))) ?_ (by decide)
    exact Only.refl _ _
  · refine Only.seq (State.saveSoon_only ..) ?_ (by decide)
    refine Only.seq (Only.upd (r := ⟨[.st], [], []⟩) (s := s_a) (fun p => by cases p <;> first | exact .inr rfl | exact .inl (by decide))) ?_ (by decide)
    exact Only.refl _ _
  · refine Only.seq (State.endRole_only ..) ?_ (by decide)
    exact Only.refl _ _
  · refine Only.seq (State.activateNow_only ..) ?_ (by decide)
    exact Only.refl _ _
  · refine Only.seq (State.requestSoft_only ..) ?_ (by decide)
    exact Only.refl _ _
  · refine Only.seq (State.requestHard_only ..) ?_ (by decide)
    exact Only.refl _ _

theorem State.finish_only (s_a a_a afters_a) : Only ⟨List.append [.out, .tc, .objs, .pinned, .regs, .mem, .boot, .ev, .ctlUp, .sessions, .challenges, .lockouts, .roleKeys, .salvos, .frameWrites, .restartWrites] (List.append [.engine, .tw, .st, .update, .flashJournal, .osf, .gate, .ctl, .colLast, .scr, .mon, .sdiRx, .sdiTx, .ridge, .cq, .media] ([.ws, .au, .tarn, .sad, .mor, .diskJournal])), [], []⟩ s_a (State.finish s_a a_a afters_a) := by
  unfold State.finish
  extract_lets +onlyGivenNames x1
  extract_lets +onlyGivenNames x2
  extract_lets +onlyGivenNames x3
  extract_lets +onlyGivenNames x4
  have hx4 : Only ⟨List.append [.out, .tc, .objs, .pinned, .regs, .mem, .boot, .ev, .ctlUp, .sessions, .challenges, .lockouts, .roleKeys, .salvos, .frameWrites, .restartWrites] (List.append [.engine, .tw, .st, .update, .flashJournal, .osf, .gate, .ctl, .colLast, .scr, .mon, .sdiRx, .sdiTx, .ridge, .cq, .media] ([.ws, .au, .tarn, .sad, .mor, .diskJournal])), [], []⟩ s_a x4 := by
    subst x4
    refine Only.ite ?_ ?_
    · refine Only.seq (State.answerFor_only ..) ?_ (by decide)
      exact Only.refl _ _
    · exact Only.refl _ _
  clear_value x4
  refine Only.foldl (fun u5 x6 => ?_) ?_
  · refine Only.seq (State.followWrite_only ..) ?_ (by decide)
    exact Only.refl _ _
  · exact hx4

theorem State.writeFor_only (s : State) (asker : Asker) (session role a : Nat) (value : List Byte) :
    Only ⟨List.append [.out, .fresh, .tc, .objs, .pinned, .regs, .mem, .flash, .boot, .ev, .ctlUp, .sessions, .challenges, .lockouts, .roleKeys, .salvos] (List.append [.frameWrites, .restartWrites, .engine, .tw, .st, .update, .rollback, .owners, .flashJournal, .osf, .gate, .ctl, .colLast, .scr, .mon, .sdiRx] ([.sdiTx, .ridge, .cq, .media, .ws, .au, .tarn, .sad, .mor, .diskJournal])), [], []⟩ s (s.writeFor asker session role a value) := by
  unfold State.writeFor
  extract_lets +onlyGivenNames w
  have hw : Only ⟨List.append [.out, .fresh, .tc, .objs, .pinned, .regs, .mem, .flash, .boot, .ev, .ctlUp, .sessions, .challenges, .lockouts, .roleKeys, .salvos] (List.append [.frameWrites, .restartWrites, .engine, .tw, .st, .update, .rollback, .owners, .flashJournal, .osf, .gate, .ctl, .colLast, .scr, .mon, .sdiRx] ([.sdiTx, .ridge, .cq, .media, .ws, .au, .tarn, .sad, .mor, .diskJournal])), [], []⟩ s w.state := (State.writeItem_only ..).up
  clear_value w
  exact Only.ite ((State.reply_only ..).seq hw) ((State.finish_only ..).seq hw)

theorem State.grant_only (s_a a_a at__a) : Only ⟨[.out, .mem, .sessions, .frameWrites, .tw, .gate], [], []⟩ s_a (State.grant s_a a_a at__a) := by
  unfold State.grant
  refine Only.optElim (fun x1 => ?_) ?_
  · refine Only.seq (State.answerFor_only ..) ?_ (by decide)
    exact Only.refl _ _
  · exact Only.refl _ _

theorem State.endThrough_only (s_a x_a) : Only ⟨List.append [.out, .fresh, .tc, .objs, .pinned, .regs, .mem, .ev, .sessions, .lockouts, .frameWrites, .restartWrites, .engine, .tw, .st, .update] ([.rollback, .flashJournal, .gate, .ctl, .mon, .sdiRx, .ridge, .cq, .media, .ws, .au, .tarn, .sad, .mor, .diskJournal]), [], []⟩ s_a (State.endThrough s_a x_a) := by
  unfold State.endThrough
  extract_lets +onlyGivenNames x1
  refine Only.seq (State.grant_only ..) ?_ (by decide)
  refine Only.seq (State.classEffect_only ..) ?_ (by decide)
  exact Only.refl _ _

end Sys2Proof.Machine
end

