-- ==== Sys2Proof/Laws/OnlyTwinCopy.lean ====
section
/-!
SUPPORT. What the functions of Machine/TwinCopy.lean may change (`Only` of Laws/Only.lean).
-/
namespace Sys2Proof.Machine
set_option Elab.async false

theorem execTwinCopySend_only (dt_a s_a) : OnlyR ⟨[.out, .now, .tc, .pinned, .ev, .tw, .flashJournal, .diskJournal], [Obj.twinReadiness, Obj.twinNotReady, Obj.eventCount, Obj.eventLastAt, Obj.eventLastSubject, Obj.twinCopyStale, Obj.twinResyncProgress, Obj.twinHealth], [0x40000004, 0x40000008]⟩ s_a (execTwinCopySend dt_a s_a) := by
  unfold execTwinCopySend
  refine actIf_only (hk3 := fun u1 => ?_) (l := (by decide)) ..
  extract_lets +onlyGivenNames x2
  extract_lets +onlyGivenNames x3
  extract_lets +onlyGivenNames x4
  have hx4 : Only ⟨[.out, .now, .tc, .pinned, .ev, .tw, .flashJournal, .diskJournal], [Obj.twinReadiness, Obj.twinNotReady, Obj.eventCount, Obj.eventLastAt, Obj.eventLastSubject, Obj.twinCopyStale, Obj.twinResyncProgress, Obj.twinHealth], [0x40000004, 0x40000008]⟩ u1 x4 := by
    subst x4
    refine Only.seq (State.emit_only ..) ?_ (by decide)
    exact Only.refl _ _
  clear_value x4
  refine Only.seq (State.refreshTwin_only ..) ?_ (by decide)
  refine Only.seq (Only.upd (r := ⟨[.tw], [], []⟩) (s := x4) (fun p => by cases p <;> first | exact .inr rfl | exact .inl (by decide))) ?_ (by decide)
  exact hx4

theorem execTwinCopyAck_only (dt_a s_a) : OnlyR ⟨[.out, .now, .tc, .pinned, .ev, .salvos, .tw, .flashJournal, .diskJournal], [Obj.twinLastCopyAt, Obj.twinResyncProgress, Obj.eventCount, Obj.eventLastAt, Obj.eventLastSubject, Obj.twinReadiness, Obj.twinNotReady, Obj.twinCopyStale, Obj.twinHealth], [0x40000004, 0x40000008]⟩ s_a (execTwinCopyAck dt_a s_a) := by
  unfold execTwinCopyAck
  refine actIf_only (hk3 := fun u1 => ?_) (l := (by decide)) ..
  split
  · exact Only.refl _ _
  · extract_lets +onlyGivenNames x2
    extract_lets +onlyGivenNames x3
    extract_lets +onlyGivenNames x4
    have hx4 : Only ⟨[.out, .now, .tc, .pinned, .ev, .salvos, .tw, .flashJournal, .diskJournal], [Obj.twinLastCopyAt, Obj.twinResyncProgress, Obj.eventCount, Obj.eventLastAt, Obj.eventLastSubject, Obj.twinReadiness, Obj.twinNotReady, Obj.twinCopyStale, Obj.twinHealth], [0x40000004, 0x40000008]⟩ u1 x4 := by
      subst x4
      refine Only.seq (Only.upd (r := ⟨[.tw], [], []⟩) (s := u1) (fun p => by cases p <;> first | exact .inr rfl | exact .inl (by decide))) ?_ (by decide)
      exact Only.refl _ _
    clear_value x4
    extract_lets +onlyGivenNames x5
    extract_lets +onlyGivenNames x6
    have hx6 : Only ⟨[.out, .now, .tc, .pinned, .ev, .salvos, .tw, .flashJournal, .diskJournal], [Obj.twinLastCopyAt, Obj.twinResyncProgress, Obj.eventCount, Obj.eventLastAt, Obj.eventLastSubject, Obj.twinReadiness, Obj.twinNotReady, Obj.twinCopyStale, Obj.twinHealth], [0x40000004, 0x40000008]⟩ u1 x6 := by
      subst x6
      refine Only.seq (Only.upd (r := ⟨[.salvos], [], []⟩) (s := x4) (fun p => by cases p <;> first | exact .inr rfl | exact .inl (by decide))) ?_ (by decide)
      exact hx4
    clear_value x6
    extract_lets +onlyGivenNames x7
    have hx7 : Only ⟨[.out, .now, .tc, .pinned, .ev, .salvos, .tw, .flashJournal, .diskJournal], [Obj.twinLastCopyAt, Obj.twinResyncProgress, Obj.eventCount, Obj.eventLastAt, Obj.eventLastSubject, Obj.twinReadiness, Obj.twinNotReady, Obj.twinCopyStale, Obj.twinHealth], [0x40000004, 0x40000008]⟩ u1 x7 := by
      subst x7
      refine Only.seq (State.setN_only ..) ?_ (by decide)
      exact hx6
    clear_value x7
    extract_lets +onlyGivenNames x8
    extract_lets +onlyGivenNames x9
    have hx9 : Only ⟨[.out, .now, .tc, .pinned, .ev, .salvos, .tw, .flashJournal, .diskJournal], [Obj.twinLastCopyAt, Obj.twinResyncProgress, Obj.eventCount, Obj.eventLastAt, Obj.eventLastSubject, Obj.twinReadiness, Obj.twinNotReady, Obj.twinCopyStale, Obj.twinHealth], [0x40000004, 0x40000008]⟩ u1 x9 := by
      subst x9
      refine Only.ite ?_ ?_
      · refine Only.seq (State.raiseTwin_only ..) ?_ (by decide)
        refine Only.seq (State.setN_only ..) ?_ (by decide)
        refine Only.seq (Only.upd (r := ⟨[.tw], [], []⟩) (s := x7) (fun p => by cases p <;> first | exact .inr rfl | exact .inl (by decide))) ?_ (by decide)
        exact hx7
      · exact hx7
    clear_value x9
    refine Only.seq (State.refreshTwin_only ..) ?_ (by decide)
    exact hx9

theorem State.keepRestart_only (s_a a_a v_a) : Only ⟨[.restartWrites], [], []⟩ s_a (State.keepRestart s_a a_a v_a) := by
  unfold State.keepRestart
  refine Only.seq (Only.upd (r := ⟨[.restartWrites], [], []⟩) (s := s_a) (fun p => by cases p <;> first | exact .inr rfl | exact .inl (by decide))) ?_ (by decide)
  exact Only.refl _ _

theorem State.keepFrame_only (s_a w_a) : Only ⟨[.frameWrites], [], []⟩ s_a (State.keepFrame s_a w_a) := by
  unfold State.keepFrame
  refine Only.ite ?_ ?_
  · exact Only.refl _ _
  · refine Only.seq (Only.upd (r := ⟨[.frameWrites], [], []⟩) (s := s_a) (fun p => by cases p <;> first | exact .inr rfl | exact .inl (by decide))) ?_ (by decide)
    exact Only.refl _ _

theorem State.takeWrite_only (s_a w_a) : Only ⟨List.append [.out, .fresh, .tc, .objs, .pinned, .regs, .ev, .lockouts, .frameWrites, .restartWrites, .engine, .st, .update, .rollback, .flashJournal, .ctl] ([.mon, .sdiRx, .ridge, .cq, .media, .ws, .au, .tarn, .sad, .mor, .diskJournal]), [], []⟩ s_a (State.takeWrite s_a w_a) := by
  unfold State.takeWrite
  refine Only.ite ?_ ?_
  · exact Only.refl _ _
  · split
    · refine Only.seq (State.keepFrame_only ..) ?_ (by decide)
      exact Only.refl _ _
    · refine Only.seq (State.keepRestart_only ..) ?_ (by decide)
      exact Only.refl _ _
    · refine Only.seq (State.applyNow_only ..) ?_ (by decide)
      exact Only.refl _ _

theorem State.takeSalvo_only (s_a cp_a c_a) : Only ⟨[.salvos, .engine], [], []⟩ s_a (State.takeSalvo s_a cp_a c_a) := by
  unfold State.takeSalvo
  extract_lets +onlyGivenNames x1
  refine Only.ite ?_ ?_
  · exact Only.refl _ _
  · refine Only.ite ?_ ?_
    · refine Only.seq (State.setSalvo_only ..) ?_ (by decide)
      exact Only.refl _ _
    · extract_lets +onlyGivenNames x2
      extract_lets +onlyGivenNames x3
      extract_lets +onlyGivenNames x4
      extract_lets +onlyGivenNames x5
      extract_lets +onlyGivenNames x6
      extract_lets +onlyGivenNames x7
      have hx7 : Only ⟨[.salvos, .engine], [], []⟩ s_a x7 := by
        subst x7
        refine Only.ite ?_ ?_
        · refine Only.seq (Only.upd (r := ⟨[.engine], [], []⟩) (s := s_a) (fun p => by cases p <;> first | exact .inr rfl | exact .inl (by decide))) ?_ (by decide)
          exact Only.refl _ _
        · exact Only.refl _ _
      clear_value x7
      refine Only.seq (State.setSalvo_only ..) ?_ (by decide)
      exact hx7

theorem State.takeExecuted_only (s_a cp_a c_a) : Only ⟨[.salvos], [], []⟩ s_a (State.takeExecuted s_a cp_a c_a) := by
  unfold State.takeExecuted
  extract_lets +onlyGivenNames x1
  refine Only.ite ?_ ?_
  · exact Only.refl _ _
  · refine Only.seq (State.setSalvo_only ..) ?_ (by decide)
    exact Only.refl _ _

theorem State.takeBlockOf_only (s_a b_a) : Only ⟨[.tw], [], []⟩ s_a (State.takeBlockOf s_a b_a) := by
  unfold State.takeBlockOf
  refine Only.ite ?_ ?_
  · exact Only.refl _ _
  · refine Only.ite ?_ ?_
    · refine Only.seq (Only.upd (r := ⟨[.tw], [], []⟩) (s := s_a) (fun p => by cases p <;> first | exact .inr rfl | exact .inl (by decide))) ?_ (by decide)
      exact Only.refl _ _
    · refine Only.seq (Only.upd (r := ⟨[.tw], [], []⟩) (s := s_a) (fun p => by cases p <;> first | exact .inr rfl | exact .inl (by decide))) ?_ (by decide)
      exact Only.refl _ _

theorem State.takeTable_only (s_a x_a) : Only ⟨[.cq], [Obj.colStageState], []⟩ s_a (State.takeTable s_a x_a) := by
  unfold State.takeTable
  extract_lets +onlyGivenNames x1
  extract_lets +onlyGivenNames x2
  extract_lets +onlyGivenNames x3
  split
  · refine Only.seq (State.setLayer_only ..) ?_ (by decide)
    exact Only.refl _ _
  · refine Only.seq (State.setLayer_only ..) ?_ (by decide)
    exact Only.refl _ _
  · refine Only.seq (State.setStage_only ..) ?_ (by decide)
    exact Only.refl _ _
  · refine Only.seq (State.tableBits_only ..) ?_ (by decide)
    refine Only.seq (State.setStage_only ..) ?_ (by decide)
    exact Only.refl _ _
  · refine Only.seq (State.setStage_only ..) ?_ (by decide)
    exact Only.refl _ _
  · refine Only.seq (State.tableBits_only ..) ?_ (by decide)
    refine Only.seq (State.setStage_only ..) ?_ (by decide)
    exact Only.refl _ _
  · exact Only.refl _ _

theorem State.takeResync_only (s_a c_a) : Only ⟨List.append [.out, .fresh, .tc, .objs, .pinned, .regs, .ev, .lockouts, .frameWrites, .restartWrites, .engine, .st, .update, .rollback, .flashJournal, .ctl] ([.mon, .sdiRx, .ridge, .cq, .media, .ws, .au, .tarn, .sad, .mor, .diskJournal]), [], []⟩ s_a (State.takeResync s_a c_a) := by
  unfold State.takeResync
  extract_lets +onlyGivenNames x1
  extract_lets +onlyGivenNames x2
  extract_lets +onlyGivenNames x3
  extract_lets +onlyGivenNames x4
  extract_lets +onlyGivenNames x5
  extract_lets +onlyGivenNames x6
  have hx6 : Only ⟨List.append [.out, .fresh, .tc, .objs, .pinned, .regs, .ev, .lockouts, .frameWrites, .restartWrites, .engine, .st, .update, .rollback, .flashJournal, .ctl] ([.mon, .sdiRx, .ridge, .cq, .media, .ws, .au, .tarn, .sad, .mor, .diskJournal]), [], []⟩ s_a x6 := by
    subst x6
    refine Only.seq (Only.upd (r := ⟨[.objs, .frameWrites, .restartWrites], [], []⟩) (s := s_a) (fun p => by cases p <;> first | exact .inr rfl | exact .inl (by decide))) ?_ (by decide)
    exact Only.refl _ _
  clear_value x6
  extract_lets +onlyGivenNames x7
  extract_lets +onlyGivenNames x8
  have hx8 : Only ⟨List.append [.out, .fresh, .tc, .objs, .pinned, .regs, .ev, .lockouts, .frameWrites, .restartWrites, .engine, .st, .update, .rollback, .flashJournal, .ctl] ([.mon, .sdiRx, .ridge, .cq, .media, .ws, .au, .tarn, .sad, .mor, .diskJournal]), [], []⟩ s_a x8 := by
    subst x8
    refine Only.foldl (fun u9 x10 => ?_) ?_
    · refine Only.seq (State.written_only ..) ?_ (by decide)
      exact Only.refl _ _
    · exact hx6
  clear_value x8
  extract_lets +onlyGivenNames x11
  have hx11 : Only ⟨List.append [.out, .fresh, .tc, .objs, .pinned, .regs, .ev, .lockouts, .frameWrites, .restartWrites, .engine, .st, .update, .rollback, .flashJournal, .ctl] ([.mon, .sdiRx, .ridge, .cq, .media, .ws, .au, .tarn, .sad, .mor, .diskJournal]), [], []⟩ s_a x11 := by
    subst x11
    refine Only.seq (State.meetCommit_only ..) ?_ (by decide)
    exact hx8
  clear_value x11
  extract_lets +onlyGivenNames x12
  have hx12 : Only ⟨List.append [.out, .fresh, .tc, .objs, .pinned, .regs, .ev, .lockouts, .frameWrites, .restartWrites, .engine, .st, .update, .rollback, .flashJournal, .ctl] ([.mon, .sdiRx, .ridge, .cq, .media, .ws, .au, .tarn, .sad, .mor, .diskJournal]), [], []⟩ s_a x12 := by
    subst x12
    refine Only.foldl (fun u13 x14 => ?_) ?_
    · refine Only.seq (State.applyNow_only ..) ?_ (by decide)
      exact Only.refl _ _
    · exact hx11
  clear_value x12
  refine Only.foldl (fun u15 x16 => ?_) ?_
  · refine Only.seq (State.takeTable_only ..) ?_ (by decide)
    exact Only.refl _ _
  · exact hx12

theorem State.applyCopy_only (s_a b_a c_a) : Only ⟨List.append [.out, .fresh, .tc, .objs, .pinned, .regs, .ev, .lockouts, .salvos, .frameWrites, .restartWrites, .engine, .tw, .st, .update, .rollback] ([.flashJournal, .ctl, .mon, .sdiRx, .ridge, .cq, .media, .ws, .au, .tarn, .sad, .mor, .diskJournal]), [], []⟩ s_a (State.applyCopy s_a b_a c_a) := by
  unfold State.applyCopy
  extract_lets +onlyGivenNames x1
  have hx1 : Only ⟨List.append [.out, .fresh, .tc, .objs, .pinned, .regs, .ev, .lockouts, .salvos, .frameWrites, .restartWrites, .engine, .tw, .st, .update, .rollback] ([.flashJournal, .ctl, .mon, .sdiRx, .ridge, .cq, .media, .ws, .au, .tarn, .sad, .mor, .diskJournal]), [], []⟩ s_a x1 := by
    subst x1
    refine Only.ite ?_ ?_
    · refine Only.seq (State.takeResync_only ..) ?_ (by decide)
      exact Only.refl _ _
    · refine Only.foldl (fun u2 x3 => ?_) ?_
      · refine Only.seq (State.takeWrite_only ..) ?_ (by decide)
        exact Only.refl _ _
      · exact Only.refl _ _
  clear_value x1
  extract_lets +onlyGivenNames x4
  have hx4 : Only ⟨List.append [.out, .fresh, .tc, .objs, .pinned, .regs, .ev, .lockouts, .salvos, .frameWrites, .restartWrites, .engine, .tw, .st, .update, .rollback] ([.flashJournal, .ctl, .mon, .sdiRx, .ridge, .cq, .media, .ws, .au, .tarn, .sad, .mor, .diskJournal]), [], []⟩ s_a x4 := by
    subst x4
    refine Only.foldl (fun u5 x6 => ?_) ?_
    · refine Only.seq (State.takeExecuted_only ..) ?_ (by decide)
      exact Only.refl _ _
    · exact hx1
  clear_value x4
  extract_lets +onlyGivenNames x7
  have hx7 : Only ⟨List.append [.out, .fresh, .tc, .objs, .pinned, .regs, .ev, .lockouts, .salvos, .frameWrites, .restartWrites, .engine, .tw, .st, .update, .rollback] ([.flashJournal, .ctl, .mon, .sdiRx, .ridge, .cq, .media, .ws, .au, .tarn, .sad, .mor, .diskJournal]), [], []⟩ s_a x7 := by
    subst x7
    refine Only.foldl (fun u8 x9 => ?_) ?_
    · refine Only.seq (State.takeSalvo_only ..) ?_ (by decide)
      exact Only.refl _ _
    · exact hx4
  clear_value x7
  extract_lets +onlyGivenNames x10
  have hx10 : Only ⟨List.append [.out, .fresh, .tc, .objs, .pinned, .regs, .ev, .lockouts, .salvos, .frameWrites, .restartWrites, .engine, .tw, .st, .update, .rollback] ([.flashJournal, .ctl, .mon, .sdiRx, .ridge, .cq, .media, .ws, .au, .tarn, .sad, .mor, .diskJournal]), [], []⟩ s_a x10 := by
    subst x10
    refine Only.seq (State.setN_only ..) ?_ (by decide)
    refine Only.seq (State.takeBlockOf_only ..) ?_ (by decide)
    exact hx7
  clear_value x10
  refine Only.seq (Only.upd (r := ⟨[.tw], [], []⟩) (s := x10) (fun p => by cases p <;> first | exact .inr rfl | exact .inl (by decide))) ?_ (by decide)
  exact hx10

theorem State.endResync_only (s_a) : Only ⟨[.out, .pinned, .ev, .tw, .flashJournal, .diskJournal], [Obj.twinResyncProgress, Obj.eventCount, Obj.eventLastAt, Obj.eventLastSubject], [0x40000004, 0x40000008]⟩ s_a (State.endResync s_a) := by
  unfold State.endResync
  refine Only.seq (State.raiseTwin_only ..) ?_ (by decide)
  refine Only.seq (State.setN_only ..) ?_ (by decide)
  refine Only.seq (Only.upd (r := ⟨[.tw], [], []⟩) (s := s_a) (fun p => by cases p <;> first | exact .inr rfl | exact .inl (by decide))) ?_ (by decide)
  exact Only.refl _ _

theorem execTwinCopyReceive_only (dt_a c_a s_a) : OnlyR ⟨List.append [.out, .fresh, .now, .tc, .objs, .pinned, .regs, .ev, .lockouts, .salvos, .frameWrites, .restartWrites, .engine, .tw, .st, .update] ([.rollback, .flashJournal, .ctl, .mon, .sdiRx, .ridge, .cq, .media, .ws, .au, .tarn, .sad, .mor, .diskJournal]), [], []⟩ s_a (execTwinCopyReceive dt_a c_a s_a) := by
  unfold execTwinCopyReceive
  refine actIf_only (hk3 := fun u1 => ?_) (l := (by decide)) ..
  extract_lets +onlyGivenNames x2
  extract_lets +onlyGivenNames x3
  have hx3 : Only ⟨List.append [.out, .fresh, .now, .tc, .objs, .pinned, .regs, .ev, .lockouts, .salvos, .frameWrites, .restartWrites, .engine, .tw, .st, .update] ([.rollback, .flashJournal, .ctl, .mon, .sdiRx, .ridge, .cq, .media, .ws, .au, .tarn, .sad, .mor, .diskJournal]), [], []⟩ u1 x3 := by
    subst x3
    refine Only.seq (State.applyCopy_only ..) ?_ (by decide)
    exact Only.refl _ _
  clear_value x3
  extract_lets +onlyGivenNames x4
  have hx4 : Only ⟨List.append [.out, .fresh, .now, .tc, .objs, .pinned, .regs, .ev, .lockouts, .salvos, .frameWrites, .restartWrites, .engine, .tw, .st, .update] ([.rollback, .flashJournal, .ctl, .mon, .sdiRx, .ridge, .cq, .media, .ws, .au, .tarn, .sad, .mor, .diskJournal]), [], []⟩ u1 x4 := by
    subst x4
    refine Only.ite ?_ ?_
    · refine Only.seq (State.endResync_only ..) ?_ (by decide)
      exact hx3
    · exact hx3
  clear_value x4
  refine Only.seq (State.refreshTwin_only ..) ?_ (by decide)
  refine Only.seq (State.emit_only ..) ?_ (by decide)
  exact hx4

theorem State.takeThrough_only (s_a a_a v_a) : Only ⟨List.append [.out, .fresh, .tc, .objs, .pinned, .regs, .ev, .lockouts, .frameWrites, .restartWrites, .engine, .st, .update, .rollback, .flashJournal, .ctl] ([.mon, .sdiRx, .ridge, .cq, .media, .ws, .au, .tarn, .sad, .mor, .diskJournal]), [], []⟩ s_a (State.takeThrough s_a a_a v_a) := by
  unfold State.takeThrough
  refine Only.ite ?_ ?_
  · exact Only.refl _ _
  · split
    · refine Only.seq (State.keepFrame_only ..) ?_ (by decide)
      exact Only.refl _ _
    · refine Only.seq (State.keepRestart_only ..) ?_ (by decide)
      exact Only.refl _ _
    · refine Only.seq (State.applyNow_only ..) ?_ (by decide)
      exact Only.refl _ _

theorem State.takeForwarded_only (s_a words_a) : Only ⟨List.append [.out, .fresh, .tc, .objs, .pinned, .regs, .ev, .lockouts, .frameWrites, .restartWrites, .engine, .st, .update, .rollback, .flashJournal, .ctl] ([.mon, .sdiRx, .ridge, .cq, .media, .ws, .au, .tarn, .sad, .mor, .diskJournal]), [], []⟩ s_a (State.takeForwarded s_a words_a) := by
  unfold State.takeForwarded
  split
  · refine Only.seq (State.emit_only ..) ?_ (by decide)
    refine Only.seq (State.takeThrough_only ..) ?_ (by decide)
    exact Only.refl _ _
  · exact Only.refl _ _

theorem execSaddleMessage_only (dt_a before_a start_a rest_a s_a) : OnlyR ⟨List.append [.out, .fresh, .now, .tc, .objs, .pinned, .regs, .ev, .lockouts, .frameWrites, .restartWrites, .engine, .st, .update, .rollback, .flashJournal] ([.ctl, .mon, .sdiRx, .ridge, .cq, .media, .ws, .au, .tarn, .sad, .mor, .diskJournal]), [], []⟩ s_a (execSaddleMessage dt_a before_a start_a rest_a s_a) := by
  unfold execSaddleMessage
  refine actIf_only (hk3 := fun u1 => ?_) (l := (by decide)) ..
  extract_lets +onlyGivenNames x2
  have hx2 : Only ⟨List.append [.out, .fresh, .now, .tc, .objs, .pinned, .regs, .ev, .lockouts, .frameWrites, .restartWrites, .engine, .st, .update, .rollback, .flashJournal] ([.ctl, .mon, .sdiRx, .ridge, .cq, .media, .ws, .au, .tarn, .sad, .mor, .diskJournal]), [], []⟩ u1 x2 := by
    subst x2
    refine Only.seq (State.hearLines_only ..) ?_ (by decide)
    exact Only.refl _ _
  clear_value x2
  split
  · exact hx2
  · refine Only.ite ?_ ?_
    · refine Only.ite ?_ ?_
      · refine Only.seq (State.takeForwarded_only ..) ?_ (by decide)
        exact hx2
      · exact hx2
    · refine Only.seq (State.raiseLimited_only ..) ?_ (by decide)
      refine Only.seq (State.bump_only ..) ?_ (by decide)
      exact hx2

end Sys2Proof.Machine
end

