-- ==== Sys2Proof/Laws/OnlyIlril.lean ====
section
/-!
SUPPORT. What the functions of Machine/Ilril.lean may change (`Only` of Laws/Only.lean).
-/
namespace Sys2Proof.Machine
set_option Elab.async false

theorem State.setLockouts_only (s_a l_a) : Only ⟨[.lockouts], [], []⟩ s_a (State.setLockouts s_a l_a) := by
  unfold State.setLockouts
  refine Only.seq (Only.upd (r := ⟨[.lockouts], [], []⟩) (s := s_a) (fun p => by cases p <;> first | exact .inr rfl | exact .inl (by decide))) ?_ (by decide)
  exact Only.refl _ _

theorem State.countFailure_only (s_a addr_a role_a) : Only ⟨[.out, .pinned, .ev, .lockouts, .flashJournal, .diskJournal], [Obj.eventCount, Obj.eventLastAt, Obj.eventLastSubject, Obj.authFailures], [0x40000004, 0x40000008]⟩ s_a (State.countFailure s_a addr_a role_a) := by
  unfold State.countFailure
  extract_lets +onlyGivenNames x1
  extract_lets +onlyGivenNames x2
  extract_lets +onlyGivenNames x3
  extract_lets +onlyGivenNames x4
  extract_lets +onlyGivenNames x5
  extract_lets +onlyGivenNames x6
  have hx6 : Only ⟨[.out, .pinned, .ev, .lockouts, .flashJournal, .diskJournal], [Obj.eventCount, Obj.eventLastAt, Obj.eventLastSubject, Obj.authFailures], [0x40000004, 0x40000008]⟩ s_a x6 := by
    subst x6
    refine Only.seq (State.setLockouts_only ..) ?_ (by decide)
    exact Only.refl _ _
  clear_value x6
  extract_lets +onlyGivenNames x7
  have hx7 : Only ⟨[.out, .pinned, .ev, .lockouts, .flashJournal, .diskJournal], [Obj.eventCount, Obj.eventLastAt, Obj.eventLastSubject, Obj.authFailures], [0x40000004, 0x40000008]⟩ s_a x7 := by
    subst x7
    refine Only.seq (State.raise_only ..) ?_ (by decide)
    refine Only.seq (State.bump_only ..) ?_ (by decide)
    exact hx6
  clear_value x7
  refine Only.ite ?_ ?_
  · refine Only.seq (State.raise_only ..) ?_ (by decide)
    exact hx7
  · exact hx7

theorem execLockoutEnd_only (dt_a addr_a s_a) : OnlyR ⟨[.out, .now, .tc, .lockouts], [], []⟩ s_a (execLockoutEnd dt_a addr_a s_a) := by
  unfold execLockoutEnd
  refine actIf_only (hk3 := fun u1 => ?_) (l := (by decide)) ..
  refine Only.seq (State.setLockouts_only ..) ?_ (by decide)
  exact Only.refl _ _

theorem execLockoutTimeReset_only (dt_a addr_a s_a) : OnlyR ⟨[.out, .now, .tc, .lockouts], [], []⟩ s_a (execLockoutTimeReset dt_a addr_a s_a) := by
  unfold execLockoutTimeReset
  refine actIf_only (hk3 := fun u1 => ?_) (l := (by decide)) ..
  refine Only.seq (State.setLockouts_only ..) ?_ (by decide)
  exact Only.refl _ _

theorem State.limitRefused_only (s_a) : Only ⟨[.out, .pinned, .ev, .flashJournal, .diskJournal], [Obj.eventCount, Obj.eventLastAt, Obj.eventLastSubject], [0x40000004, 0x40000008]⟩ s_a (State.limitRefused s_a) := by
  unfold State.limitRefused
  refine Only.seq (State.raiseLimited_only ..) ?_ (by decide)
  exact Only.refl _ _

theorem State.openChallenge_only (s_a m_a h_a) : Only ⟨[.fresh, .challenges], [], []⟩ s_a (State.openChallenge s_a m_a h_a).2 := by
  unfold State.openChallenge
  split
  rename_i v1 t2 e3
  have ht2 := Only.mono (b := ⟨[.fresh, .challenges], [], []⟩) (Only.snd e3 (State.drawBytes_only ..)) (by decide)
  split
  rename_i v4 t5 e6
  have ht5 := Only.mono (b := ⟨[.fresh, .challenges], [], []⟩) (Only.snd e6 (State.draw_only ..)) (by decide)
  extract_lets +onlyGivenNames x7
  extract_lets +onlyGivenNames x8
  extract_lets +onlyGivenNames x9
  extract_lets +onlyGivenNames x10
  refine Only.mk2 ?_
  refine Only.seq (Only.upd (r := ⟨[.challenges], [], []⟩) (s := t5) (fun p => by cases p <;> first | exact .inr rfl | exact .inl (by decide))) ?_ (by decide)
  refine Only.seq ht5 ?_ (Reach.le_refl _)
  exact ht2

theorem State.hello_only (s_a m_a h_a) : Only ⟨[.out, .fresh, .pinned, .ev, .challenges, .flashJournal, .diskJournal], [Obj.eventCount, Obj.eventLastAt, Obj.eventLastSubject], [0x40000004, 0x40000008]⟩ s_a (State.hello s_a m_a h_a).2 := by
  unfold State.hello
  split
  · refine Only.mk2 ?_
    refine Only.ite ?_ ?_
    · refine Only.seq (State.limitRefused_only ..) ?_ (by decide)
      exact Only.refl _ _
    · exact Only.refl _ _
  · split
    rename_i v1 t2 e3
    have ht2 := Only.mono (b := ⟨[.out, .fresh, .pinned, .ev, .challenges, .flashJournal, .diskJournal], [Obj.eventCount, Obj.eventLastAt, Obj.eventLastSubject], [0x40000004, 0x40000008]⟩) (Only.snd e3 (State.openChallenge_only ..)) (by decide)
    refine Only.mk2 ?_
    exact ht2

theorem msgDrop_mem {m : Msg} {i : Nat} (h : msgDrop m = some i) : i ∈ [Obj.dropFragment, Obj.dropMagic, Obj.dropLength] := by
  unfold msgDrop at h
  split at h
  · cases h; decide
  · split at h
    · cases h; decide
    · split at h
      · cases h; decide
      · cases h

theorem State.dropReason_mem {s : State} {m : Msg} {i : Nat} (h : s.dropReason m = some i) :
    i ∈ [Obj.dropFragment, Obj.dropMagic, Obj.dropLength, Obj.dropNoSession, Obj.dropVersion, Obj.dropBinding, Obj.dropTag,
      Obj.dropSequence] := by
  unfold State.dropReason at h
  split at h
  · next g => cases h; exact List.mem_append_left [Obj.dropNoSession, Obj.dropVersion, Obj.dropBinding, Obj.dropTag,
      Obj.dropSequence] (msgDrop_mem g)
  · split at h
    · cases h; decide
    · split at h
      · cases h; decide
      · split at h
        · cases h; decide
        · split at h
          · cases h; decide
          · split at h
            · cases h; decide
            · cases h

theorem State.bump_of_mem {s : State} {l : List Nat} {i n k : Nat} (h : i ∈ l) :
    Only ⟨[.out, .pinned, .ev, .flashJournal, .diskJournal], [Obj.eventCount, Obj.eventLastAt, Obj.eventLastSubject] ++ l,
      [0x40000004, 0x40000008]⟩ s (s.bump i n k) := by
  refine (State.bump_only ..).mono ⟨fun _ => id, .inl fun j hj => ?_, .inl fun _ => id⟩
  simp only [List.mem_cons, List.not_mem_nil, List.mem_append, or_false] at hj ⊢
  rcases hj with rfl | rfl | rfl | rfl <;> simp [h]

theorem execIlrilHello_only (dt : Nat) (m : Msg) (h : Hello) (s : State) : OnlyR ⟨[.out, .fresh, .now, .tc, .pinned, .ev, .challenges, .flashJournal, .diskJournal], [Obj.eventCount, Obj.eventLastAt, Obj.eventLastSubject, Obj.dropFragment, Obj.dropMagic, Obj.dropLength], [0x40000004, 0x40000008]⟩ s (execIlrilHello dt m h s) := by
  unfold execIlrilHello
  refine actIf_only (hk3 := fun t => ?_) (l := by decide +kernel) ..
  split
  · next h => exact (State.bump_of_mem (msgDrop_mem h)).up
  · split
    · next e => exact (State.emit_only ..).seq (Only.snd e ((State.hello_only ..).up))
    · next e => exact (State.emit_only ..).seq (Only.snd e ((State.hello_only ..).up))

theorem State.openSession_only (s_a c_a key_a) : Only ⟨[.out, .pinned, .ev, .sessions, .flashJournal, .diskJournal], [Obj.eventCount, Obj.eventLastAt, Obj.eventLastSubject], [0x40000004, 0x40000008]⟩ s_a (State.openSession s_a c_a key_a).2 := by
  unfold State.openSession
  extract_lets +onlyGivenNames x1
  extract_lets +onlyGivenNames x2
  extract_lets +onlyGivenNames x3
  extract_lets +onlyGivenNames x4
  extract_lets +onlyGivenNames x5
  have hx5 : Only ⟨[.out, .pinned, .ev, .sessions, .flashJournal, .diskJournal], [Obj.eventCount, Obj.eventLastAt, Obj.eventLastSubject], [0x40000004, 0x40000008]⟩ s_a x5 := by
    subst x5
    refine Only.seq (State.raise_only ..) ?_ (by decide)
    refine Only.seq (State.setSession_only ..) ?_ (by decide)
    exact Only.refl _ _
  clear_value x5
  extract_lets +onlyGivenNames x6
  have hx6 : Only ⟨[.out, .pinned, .ev, .sessions, .flashJournal, .diskJournal], [Obj.eventCount, Obj.eventLastAt, Obj.eventLastSubject], [0x40000004, 0x40000008]⟩ s_a x6 := by
    subst x6
    refine Only.ite ?_ ?_
    · refine Only.seq (State.raise_only ..) ?_ (by decide)
      exact hx5
    · exact hx5
  clear_value x6
  refine Only.mk2 ?_
  exact hx6

theorem State.proof_only (s_a m_a handle_a proof_a) : Only ⟨[.out, .fresh, .pinned, .ev, .sessions, .challenges, .lockouts, .flashJournal, .diskJournal], [Obj.eventCount, Obj.eventLastAt, Obj.eventLastSubject, Obj.authFailures], [0x40000004, 0x40000008]⟩ s_a (State.proof s_a m_a handle_a proof_a).2 := by
  unfold State.proof
  split
  · split
    rename_i v1 t2 e3
    have ht2 := Only.mono (b := ⟨[.out, .fresh, .pinned, .ev, .sessions, .challenges, .lockouts, .flashJournal, .diskJournal], [Obj.eventCount, Obj.eventLastAt, Obj.eventLastSubject, Obj.authFailures], [0x40000004, 0x40000008]⟩) (Only.snd e3 (State.drawBytes_only ..)) (by decide)
    refine Only.mk2 ?_
    exact ht2
  · extract_lets +onlyGivenNames x4
    extract_lets +onlyGivenNames x5
    have hx5 : Only ⟨[.out, .fresh, .pinned, .ev, .sessions, .challenges, .lockouts, .flashJournal, .diskJournal], [Obj.eventCount, Obj.eventLastAt, Obj.eventLastSubject, Obj.authFailures], [0x40000004, 0x40000008]⟩ s_a x5 := by
      subst x5
      refine Only.seq (Only.upd (r := ⟨[.challenges], [], []⟩) (s := s_a) (fun p => by cases p <;> first | exact .inr rfl | exact .inl (by decide))) ?_ (by decide)
      exact Only.refl _ _
    clear_value x5
    split
    · refine Only.mk2 ?_
      exact hx5
    · split
      · refine Only.mk2 ?_
        refine Only.seq (State.countFailure_only ..) ?_ (by decide)
        exact hx5
      · extract_lets +onlyGivenNames x6
        have hx6 : Only ⟨[.out, .fresh, .pinned, .ev, .sessions, .challenges, .lockouts, .flashJournal, .diskJournal], [Obj.eventCount, Obj.eventLastAt, Obj.eventLastSubject, Obj.authFailures], [0x40000004, 0x40000008]⟩ s_a x6 := by
          subst x6
          refine Only.seq (State.setLockouts_only ..) ?_ (by decide)
          exact hx5
        clear_value x6
        split
        · refine Only.mk2 ?_
          refine Only.seq (State.limitRefused_only ..) ?_ (by decide)
          exact hx6
        · refine Only.seq (State.openSession_only ..) ?_ (by decide)
          exact hx6

theorem execIlrilProof_only (dt : Nat) (m : Msg) (handle : Nat) (proof : List Byte) (s : State) :
    OnlyR ⟨[.out, .fresh, .now, .tc, .pinned, .ev, .sessions, .challenges, .lockouts, .flashJournal, .diskJournal], [Obj.eventCount, Obj.eventLastAt, Obj.eventLastSubject, Obj.dropFragment, Obj.dropMagic, Obj.dropLength, Obj.dropVersion, Obj.authFailures], [0x40000004, 0x40000008]⟩ s (execIlrilProof dt m handle proof s) := by
  unfold execIlrilProof
  refine actIf_only (hk3 := fun t => ?_) (l := by decide +kernel) ..
  split
  · next h => exact (State.bump_of_mem (msgDrop_mem h)).up
  · refine Only.ite ((State.bump_only ..).up) ?_
    split
    · next e => exact (State.emit_only ..).seq (Only.snd e ((State.proof_only ..).up))
    · next e => exact (State.emit_only ..).seq (Only.snd e ((State.proof_only ..).up))

theorem execChallengeExpiry_only (dt_a handle_a s_a) : OnlyR ⟨[.out, .now, .tc, .challenges], [], []⟩ s_a (execChallengeExpiry dt_a handle_a s_a) := by
  unfold execChallengeExpiry
  refine act_only (hk2 := fun u1 => ?_) (l := (by decide)) ..
  extract_lets +onlyGivenNames x2
  refine Only.seq (Only.upd (r := ⟨[.challenges], [], []⟩) (s := u1) (fun p => by cases p <;> first | exact .inr rfl | exact .inl (by decide))) ?_ (by decide)
  exact Only.refl _ _

theorem State.accept_only {r : Reach} (s_a m_a f_a) (hk2 : ∀ y0, Only r y0 (f_a y0)) (l : Reach.le ⟨[.out, .objs, .pinned, .ev, .sessions, .flashJournal, .diskJournal], [], [0x40000004, 0x40000008]⟩ r) : Only r s_a (State.accept s_a m_a f_a) := by
  unfold State.accept
  split
  · refine Only.seq (State.bump_only ..) ?_ (Reach.le_trans (b := ⟨[.out, .objs, .pinned, .ev, .sessions, .flashJournal, .diskJournal], [], [0x40000004, 0x40000008]⟩) (by simp [Reach.le]) l)
    exact Only.refl _ _
  · exact Only.refl _ _
  · extract_lets +onlyGivenNames x1
    refine Only.ite ?_ ?_
    · extract_lets +onlyGivenNames x2
      have hx2 : Only r s_a x2 := by
        subst x2
        refine Only.seq (State.setSession_only ..) ?_ (Reach.le_trans (b := ⟨[.out, .objs, .pinned, .ev, .sessions, .flashJournal, .diskJournal], [], [0x40000004, 0x40000008]⟩) (by decide) l)
        exact Only.refl _ _
      clear_value x2
      split
      · refine Only.seq (State.emit_only ..) ?_ (Reach.le_trans (b := ⟨[.out, .objs, .pinned, .ev, .sessions, .flashJournal, .diskJournal], [], [0x40000004, 0x40000008]⟩) (by decide) l)
        exact hx2
      · exact hx2
    · refine Only.seq (hk2 ..) ?_ (Reach.le_refl _)
      refine Only.seq (State.setSession_only ..) ?_ (Reach.le_trans (b := ⟨[.out, .objs, .pinned, .ev, .sessions, .flashJournal, .diskJournal], [], [0x40000004, 0x40000008]⟩) (by decide) l)
      exact Only.refl _ _

theorem State.mark_only (s_a n_a seq_a a_a) : Only ⟨[.sessions], [], []⟩ s_a (State.mark s_a n_a seq_a a_a) := by
  unfold State.mark
  refine Only.optElim (fun x1 => ?_) ?_
  · refine Only.seq (State.setSession_only ..) ?_ (by decide)
    exact Only.refl _ _
  · exact Only.refl _ _

theorem State.readItem_only {s : State} {session : Option Nat} {role i n : Nat} {p : List Byte × State}
    (h : s.readItem session role i n = .inr p) : Only ⟨[.out, .pinned, .ev, .flashJournal, .ridge, .diskJournal], [Obj.morJournalCursor, Obj.srcFramesWritten, Obj.eventCount, Obj.eventLastAt, Obj.eventLastSubject, Obj.srcLiveFormat, Obj.srcFeedKind, Obj.srcState, Obj.srcReservationStatus, Obj.srcFramesAbandoned, Obj.srcColourLive], [0x40000004, 0x40000008]⟩ s p.2 := by
  unfold State.readItem at h
  split at h
  · cases h
  · split at h
    · cases h
    split at h
    · cases h
    split at h
    · cases h; exact (State.morJournalRead_only ..).up
    · cases h; exact Only.ite ((State.settle_only ..).up) (Only.refl _ s)

theorem State.doRead_only (s : State) (n seq : Nat) (x : Session) (i sub offset most : Nat) :
    Only ⟨[.out, .pinned, .ev, .sessions, .flashJournal, .ridge, .diskJournal], [Obj.morJournalCursor, Obj.srcFramesWritten, Obj.eventCount, Obj.eventLastAt, Obj.eventLastSubject, Obj.srcLiveFormat, Obj.srcFeedKind, Obj.srcState, Obj.srcReservationStatus, Obj.srcFramesAbandoned, Obj.srcColourLive], [0x40000004, 0x40000008]⟩ s (s.doRead n seq x i sub offset most) := by
  unfold State.doRead
  split
  · exact (State.respond_only ..).up
  · next h => exact Only.ite ((State.respond_only ..).up) ((State.respond_only ..).seq ((State.readItem_only h).up))

theorem State.bulkReadItems_only (s : State) (n seq role room : Nat) (l : List (Nat × Nat)) :
    Only ⟨[.out, .pinned, .ev, .sessions, .flashJournal, .ridge, .diskJournal], [Obj.morJournalCursor, Obj.srcFramesWritten, Obj.eventCount, Obj.eventLastAt, Obj.eventLastSubject, Obj.srcLiveFormat, Obj.srcFeedKind, Obj.srcState, Obj.srcReservationStatus, Obj.srcFramesAbandoned, Obj.srcColourLive], [0x40000004, 0x40000008]⟩ s (s.bulkReadItems n seq role room l).2 := by
  induction l generalizing s room with
  | nil => exact Only.refl _ s
  | cons x l ih =>
    obtain ⟨i, sub⟩ := x
    simp only [State.bulkReadItems]
    split
    · exact (ih _ _).seq (Only.refl _ s)
    · split
      · exact (ih _ _).seq ((State.mark_only ..).up)
      · next h =>
        split
        · exact (ih _ _).seq ((State.mark_only ..).up)
        · exact (ih _ _).seq ((State.readItem_only h).seq ((State.mark_only ..).up))

theorem State.doBulkRead_only (s_a n_a seq_a x_a l_a) : Only ⟨[.out, .pinned, .ev, .sessions, .flashJournal, .ridge, .diskJournal], [Obj.morJournalCursor, Obj.srcLiveFormat, Obj.srcFramesWritten, Obj.eventCount, Obj.eventLastAt, Obj.eventLastSubject, Obj.srcFeedKind, Obj.srcState, Obj.srcReservationStatus, Obj.srcFramesAbandoned, Obj.srcColourLive], [0x40000004, 0x40000008]⟩ s_a (State.doBulkRead s_a n_a seq_a x_a l_a) := by
  unfold State.doBulkRead
  extract_lets +onlyGivenNames x1
  have hx1 : Only ⟨[.out, .pinned, .ev, .sessions, .flashJournal, .ridge, .diskJournal], [Obj.morJournalCursor, Obj.srcLiveFormat, Obj.srcFramesWritten, Obj.eventCount, Obj.eventLastAt, Obj.eventLastSubject, Obj.srcFeedKind, Obj.srcState, Obj.srcReservationStatus, Obj.srcFramesAbandoned, Obj.srcColourLive], [0x40000004, 0x40000008]⟩ s_a x1.2 := by
    subst x1
    refine Only.seq (State.bulkReadItems_only ..) ?_ (by decide)
    exact Only.refl _ _
  clear_value x1
  refine Only.seq (State.respond_only ..) ?_ (by decide)
  exact hx1

theorem State.bulkWriteItems_only (s : State) (n seq role k : Nat) (l : List (Nat × Nat × List Byte)) :
    Only ⟨List.append [.out, .fresh, .tc, .objs, .pinned, .regs, .flash, .ev, .sessions, .lockouts, .roleKeys, .restartWrites, .engine, .tw, .st, .update] ([.rollback, .owners, .flashJournal, .ctl, .mon, .sdiRx, .ridge, .cq, .media, .ws, .au, .tarn, .sad, .mor, .diskJournal]), [], []⟩ s (s.bulkWriteItems n seq role k l).2.2 := by
  induction l generalizing s k with
  | nil => exact Only.refl _ s
  | cons x l ih =>
    obtain ⟨i, sub, value⟩ := x
    simp only [State.bulkWriteItems]
    split
    · exact ih _ _
    · exact (ih _ _).seq ((State.writeItem_only ..).seq ((State.mark_only ..).up))

theorem State.doBulkWrite_only (s_a n_a seq_a x_a l_a) : Only ⟨List.append [.out, .fresh, .tc, .objs, .pinned, .regs, .mem, .flash, .boot, .ev, .ctlUp, .sessions, .challenges, .lockouts, .roleKeys, .salvos] (List.append [.frameWrites, .restartWrites, .engine, .tw, .st, .update, .rollback, .owners, .flashJournal, .osf, .gate, .ctl, .colLast, .scr, .mon, .sdiRx] ([.sdiTx, .ridge, .cq, .media, .ws, .au, .tarn, .sad, .mor, .diskJournal])), [], []⟩ s_a (State.doBulkWrite s_a n_a seq_a x_a l_a) := by
  unfold State.doBulkWrite
  extract_lets +onlyGivenNames x1
  have hx1 : Only ⟨List.append [.out, .fresh, .tc, .objs, .pinned, .regs, .mem, .flash, .boot, .ev, .ctlUp, .sessions, .challenges, .lockouts, .roleKeys, .salvos] (List.append [.frameWrites, .restartWrites, .engine, .tw, .st, .update, .rollback, .owners, .flashJournal, .osf, .gate, .ctl, .colLast, .scr, .mon, .sdiRx] ([.sdiTx, .ridge, .cq, .media, .ws, .au, .tarn, .sad, .mor, .diskJournal])), [], []⟩ s_a x1.2.2 := by
    subst x1
    refine Only.seq (State.bulkWriteItems_only ..) ?_ (by decide)
    exact Only.refl _ _
  clear_value x1
  refine Only.seq (State.finish_only ..) ?_ (by decide)
  exact hx1

theorem State.doFence_only (s_a n_a seq_a x_a scope_a) : Only ⟨[.out, .sessions], [], []⟩ s_a (State.doFence s_a n_a seq_a x_a scope_a) := by
  unfold State.doFence
  extract_lets +onlyGivenNames x1
  extract_lets +onlyGivenNames x2
  extract_lets +onlyGivenNames x3
  extract_lets +onlyGivenNames x4
  have hx4 : Only ⟨[.out, .sessions], [], []⟩ s_a x4 := by
    subst x4
    refine Only.seq (State.setSession_only ..) ?_ (by decide)
    exact Only.refl _ _
  clear_value x4
  refine Only.ite ?_ ?_
  · refine Only.seq (State.respond_only ..) ?_ (by decide)
    exact hx4
  · exact hx4

theorem State.engage_only (s_a n_a seq_a r_a) : Only ⟨[.sessions], [], []⟩ s_a (State.engage s_a n_a seq_a r_a) := by
  unfold State.engage
  split
  · refine Only.seq (State.setSession_only ..) ?_ (by decide)
    exact Only.refl _ _
  · exact Only.refl _ _

theorem State.startReq_only (s_a n_a seq_a r_a) : Only ⟨List.append [.out, .fresh, .tc, .objs, .pinned, .regs, .mem, .flash, .boot, .ev, .ctlUp, .sessions, .challenges, .lockouts, .roleKeys, .salvos] (List.append [.frameWrites, .restartWrites, .engine, .tw, .st, .update, .rollback, .owners, .flashJournal, .osf, .gate, .ctl, .colLast, .scr, .mon, .sdiRx] ([.sdiTx, .ridge, .cq, .media, .ws, .au, .tarn, .sad, .mor, .diskJournal])), [], []⟩ s_a (State.startReq s_a n_a seq_a r_a) := by
  unfold State.startReq
  split
  · exact Only.refl _ _
  · split
    · refine Only.seq (State.respond_only ..) ?_ (by decide)
      exact Only.refl _ _
    · extract_lets +onlyGivenNames x1
      refine Only.ite ?_ ?_
      · refine Only.seq (State.respond_only ..) ?_ (by decide)
        exact Only.refl _ _
      · extract_lets +onlyGivenNames x2
        have hx2 : Only ⟨List.append [.out, .fresh, .tc, .objs, .pinned, .regs, .mem, .flash, .boot, .ev, .ctlUp, .sessions, .challenges, .lockouts, .roleKeys, .salvos] (List.append [.frameWrites, .restartWrites, .engine, .tw, .st, .update, .rollback, .owners, .flashJournal, .osf, .gate, .ctl, .colLast, .scr, .mon, .sdiRx] ([.sdiTx, .ridge, .cq, .media, .ws, .au, .tarn, .sad, .mor, .diskJournal])), [], []⟩ s_a x2 := by
          subst x2
          refine Only.foldl (fun u3 x4 => ?_) ?_
          · refine Only.seq (State.mark_only ..) ?_ (by decide)
            exact Only.refl _ _
          · refine Only.seq (State.engage_only ..) ?_ (by decide)
            exact Only.refl _ _
        clear_value x2
        split
        · refine Only.seq (State.doRead_only ..) ?_ (by decide)
          exact hx2
        · refine Only.seq (State.writeFor_only ..) ?_ (by decide)
          exact hx2
        · refine Only.seq (State.doBulkRead_only ..) ?_ (by decide)
          exact hx2
        · refine Only.seq (State.doBulkWrite_only ..) ?_ (by decide)
          exact hx2
        · refine Only.seq (State.doFence_only ..) ?_ (by decide)
          exact hx2
        · refine Only.seq (State.toEngine_only ..) ?_ (by decide)
          exact hx2
        · refine Only.seq (State.respond_only ..) ?_ (by decide)
          exact hx2
        · refine Only.seq (State.endSession_only ..) ?_ (by decide)
          refine Only.seq (State.respond_only ..) ?_ (by decide)
          exact hx2

theorem State.releaseUpTo_only (k : Nat) (s : State) (n : Nat) : Only ⟨List.append [.out, .fresh, .tc, .objs, .pinned, .regs, .mem, .flash, .boot, .ev, .ctlUp, .sessions, .challenges, .lockouts, .roleKeys, .salvos] (List.append [.frameWrites, .restartWrites, .engine, .tw, .st, .update, .rollback, .owners, .flashJournal, .osf, .gate, .ctl, .colLast, .scr, .mon, .sdiRx] ([.sdiTx, .ridge, .cq, .media, .ws, .au, .tarn, .sad, .mor, .diskJournal])), [], []⟩ s (State.releaseUpTo k s n) := by
  induction k generalizing s with
  | zero => exact Only.refl _ s
  | succ k ih =>
    unfold State.releaseUpTo
    split
    · exact Only.refl _ s
    · extract_lets +onlyGivenNames l
      clear_value l
      split
      · exact Only.refl _ s
      · exact (ih _).seq ((State.startReq_only ..).seq ((State.setSession_only ..).up))

theorem State.releaseHeld_only (s_a n_a) : Only ⟨List.append [.out, .fresh, .tc, .objs, .pinned, .regs, .mem, .flash, .boot, .ev, .ctlUp, .sessions, .challenges, .lockouts, .roleKeys, .salvos] (List.append [.frameWrites, .restartWrites, .engine, .tw, .st, .update, .rollback, .owners, .flashJournal, .osf, .gate, .ctl, .colLast, .scr, .mon, .sdiRx] ([.sdiTx, .ridge, .cq, .media, .ws, .au, .tarn, .sad, .mor, .diskJournal])), [], []⟩ s_a (State.releaseHeld s_a n_a) := by
  unfold State.releaseHeld
  refine Only.seq (State.releaseUpTo_only ..) ?_ (by decide)
  exact Only.refl _ _

theorem State.releaseAll_only (s_a) : Only ⟨List.append [.out, .fresh, .tc, .objs, .pinned, .regs, .mem, .flash, .boot, .ev, .ctlUp, .sessions, .challenges, .lockouts, .roleKeys, .salvos] (List.append [.frameWrites, .restartWrites, .engine, .tw, .st, .update, .rollback, .owners, .flashJournal, .osf, .gate, .ctl, .colLast, .scr, .mon, .sdiRx] ([.sdiTx, .ridge, .cq, .media, .ws, .au, .tarn, .sad, .mor, .diskJournal])), [], []⟩ s_a (State.releaseAll s_a) := by
  unfold State.releaseAll
  refine Only.foldl (fun u1 x2 => ?_) ?_
  · refine Only.seq (State.releaseHeld_only ..) ?_ (by decide)
    exact Only.refl _ _
  · exact Only.refl _ _

theorem State.request_only (s : State) (n seq fenceSeq : Nat) (r : Req) : Only ⟨List.append [.out, .fresh, .tc, .objs, .pinned, .regs, .mem, .flash, .boot, .ev, .ctlUp, .sessions, .challenges, .lockouts, .roleKeys, .salvos] (List.append [.frameWrites, .restartWrites, .engine, .tw, .st, .update, .rollback, .owners, .flashJournal, .osf, .gate, .ctl, .colLast, .scr, .mon, .sdiRx] ([.sdiTx, .ridge, .cq, .media, .ws, .au, .tarn, .sad, .mor, .diskJournal])), [], []⟩ s (s.request n seq fenceSeq r) := by
  unfold State.request
  split
  · exact Only.refl _ s
  · extract_lets +onlyGivenNames y refuse z
    have hr : ∀ c, Only ⟨List.append [.out, .fresh, .tc, .objs, .pinned, .regs, .mem, .flash, .boot, .ev, .ctlUp, .sessions, .challenges, .lockouts, .roleKeys, .salvos] (List.append [.frameWrites, .restartWrites, .engine, .tw, .st, .update, .rollback, .owners, .flashJournal, .osf, .gate, .ctl, .colLast, .scr, .mon, .sdiRx] ([.sdiTx, .ridge, .cq, .media, .ws, .au, .tarn, .sad, .mor, .diskJournal])), [], []⟩ s (refuse c) := fun c => (State.respond_only ..).seq ((State.setSession_only ..).up)
    clear_value refuse y
    refine Only.ite (hr _) (Only.ite (hr _) (Only.ite (hr _) ?_))
    exact Only.ite ((State.setSession_only ..).up) ((State.releaseHeld_only ..).seq ((State.startReq_only ..).seq
      ((State.setSession_only ..).up)))

theorem State.message_only (s_a m_a r_a) : Only ⟨List.append [.out, .fresh, .tc, .objs, .pinned, .regs, .mem, .flash, .boot, .ev, .ctlUp, .sessions, .challenges, .lockouts, .roleKeys, .salvos] (List.append [.frameWrites, .restartWrites, .engine, .tw, .st, .update, .rollback, .owners, .flashJournal, .osf, .gate, .ctl, .colLast, .scr, .mon, .sdiRx] ([.sdiTx, .ridge, .cq, .media, .ws, .au, .tarn, .sad, .mor, .diskJournal])), [], []⟩ s_a (State.message s_a m_a r_a) := by
  unfold State.message
  refine Only.ite ?_ ?_
  · refine Only.seq (State.accept_only (hk2 := fun u1 => ?_) (l := (by decide)) ..) ?_ (Reach.le_refl _)
    · refine Only.seq (State.request_only ..) ?_ (by decide)
      exact Only.refl _ _
    · exact Only.refl _ _
  · exact Only.refl _ _

theorem execIlrilClose_only (dt_a m_a s_a) : OnlyR ⟨List.append [.out, .fresh, .now, .tc, .objs, .pinned, .regs, .mem, .flash, .boot, .ev, .ctlUp, .sessions, .challenges, .lockouts, .roleKeys] (List.append [.salvos, .frameWrites, .restartWrites, .engine, .tw, .st, .update, .rollback, .owners, .flashJournal, .osf, .gate, .ctl, .colLast, .scr, .mon] ([.sdiRx, .sdiTx, .ridge, .cq, .media, .ws, .au, .tarn, .sad, .mor, .diskJournal])), [], []⟩ s_a (execIlrilClose dt_a m_a s_a) := by
  unfold execIlrilClose
  refine act_only (hk2 := fun u1 => ?_) (l := (by decide)) ..
  refine Only.seq (State.message_only ..) ?_ (by decide)
  exact Only.refl _ _

theorem execIlrilKeepalive_only (dt_a m_a s_a) : OnlyR ⟨List.append [.out, .fresh, .now, .tc, .objs, .pinned, .regs, .mem, .flash, .boot, .ev, .ctlUp, .sessions, .challenges, .lockouts, .roleKeys] (List.append [.salvos, .frameWrites, .restartWrites, .engine, .tw, .st, .update, .rollback, .owners, .flashJournal, .osf, .gate, .ctl, .colLast, .scr, .mon] ([.sdiRx, .sdiTx, .ridge, .cq, .media, .ws, .au, .tarn, .sad, .mor, .diskJournal])), [], []⟩ s_a (execIlrilKeepalive dt_a m_a s_a) := by
  unfold execIlrilKeepalive
  refine act_only (hk2 := fun u1 => ?_) (l := (by decide)) ..
  refine Only.seq (State.message_only ..) ?_ (by decide)
  exact Only.refl _ _

theorem execIlrilRead_only (dt_a m_a index_a sub_a offset_a maxLength_a s_a) : OnlyR ⟨List.append [.out, .fresh, .now, .tc, .objs, .pinned, .regs, .mem, .flash, .boot, .ev, .ctlUp, .sessions, .challenges, .lockouts, .roleKeys] (List.append [.salvos, .frameWrites, .restartWrites, .engine, .tw, .st, .update, .rollback, .owners, .flashJournal, .osf, .gate, .ctl, .colLast, .scr, .mon] ([.sdiRx, .sdiTx, .ridge, .cq, .media, .ws, .au, .tarn, .sad, .mor, .diskJournal])), [], []⟩ s_a (execIlrilRead dt_a m_a index_a sub_a offset_a maxLength_a s_a) := by
  unfold execIlrilRead
  refine act_only (hk2 := fun u1 => ?_) (l := (by decide)) ..
  refine Only.seq (State.message_only ..) ?_ (by decide)
  exact Only.refl _ _

theorem execIlrilWrite_only (dt_a m_a index_a sub_a value_a s_a) : OnlyR ⟨List.append [.out, .fresh, .now, .tc, .objs, .pinned, .regs, .mem, .flash, .boot, .ev, .ctlUp, .sessions, .challenges, .lockouts, .roleKeys] (List.append [.salvos, .frameWrites, .restartWrites, .engine, .tw, .st, .update, .rollback, .owners, .flashJournal, .osf, .gate, .ctl, .colLast, .scr, .mon] ([.sdiRx, .sdiTx, .ridge, .cq, .media, .ws, .au, .tarn, .sad, .mor, .diskJournal])), [], []⟩ s_a (execIlrilWrite dt_a m_a index_a sub_a value_a s_a) := by
  unfold execIlrilWrite
  refine act_only (hk2 := fun u1 => ?_) (l := (by decide)) ..
  refine Only.seq (State.message_only ..) ?_ (by decide)
  exact Only.refl _ _

theorem execIlrilBulkRead_only (dt_a m_a items_a s_a) : OnlyR ⟨List.append [.out, .fresh, .now, .tc, .objs, .pinned, .regs, .mem, .flash, .boot, .ev, .ctlUp, .sessions, .challenges, .lockouts, .roleKeys] (List.append [.salvos, .frameWrites, .restartWrites, .engine, .tw, .st, .update, .rollback, .owners, .flashJournal, .osf, .gate, .ctl, .colLast, .scr, .mon] ([.sdiRx, .sdiTx, .ridge, .cq, .media, .ws, .au, .tarn, .sad, .mor, .diskJournal])), [], []⟩ s_a (execIlrilBulkRead dt_a m_a items_a s_a) := by
  unfold execIlrilBulkRead
  refine act_only (hk2 := fun u1 => ?_) (l := (by decide)) ..
  refine Only.seq (State.message_only ..) ?_ (by decide)
  exact Only.refl _ _

theorem execIlrilBulkWrite_only (dt_a m_a items_a s_a) : OnlyR ⟨List.append [.out, .fresh, .now, .tc, .objs, .pinned, .regs, .mem, .flash, .boot, .ev, .ctlUp, .sessions, .challenges, .lockouts, .roleKeys] (List.append [.salvos, .frameWrites, .restartWrites, .engine, .tw, .st, .update, .rollback, .owners, .flashJournal, .osf, .gate, .ctl, .colLast, .scr, .mon] ([.sdiRx, .sdiTx, .ridge, .cq, .media, .ws, .au, .tarn, .sad, .mor, .diskJournal])), [], []⟩ s_a (execIlrilBulkWrite dt_a m_a items_a s_a) := by
  unfold execIlrilBulkWrite
  refine act_only (hk2 := fun u1 => ?_) (l := (by decide)) ..
  refine Only.seq (State.message_only ..) ?_ (by decide)
  exact Only.refl _ _

theorem execIlrilFence_only (dt_a m_a scope_a s_a) : OnlyR ⟨List.append [.out, .fresh, .now, .tc, .objs, .pinned, .regs, .mem, .flash, .boot, .ev, .ctlUp, .sessions, .challenges, .lockouts, .roleKeys] (List.append [.salvos, .frameWrites, .restartWrites, .engine, .tw, .st, .update, .rollback, .owners, .flashJournal, .osf, .gate, .ctl, .colLast, .scr, .mon] ([.sdiRx, .sdiTx, .ridge, .cq, .media, .ws, .au, .tarn, .sad, .mor, .diskJournal])), [], []⟩ s_a (execIlrilFence dt_a m_a scope_a s_a) := by
  unfold execIlrilFence
  refine act_only (hk2 := fun u1 => ?_) (l := (by decide)) ..
  refine Only.seq (State.message_only ..) ?_ (by decide)
  exact Only.refl _ _

theorem execFenceComplete_only (dt_a session_a seq_a s_a) : OnlyR ⟨List.append [.out, .fresh, .now, .tc, .objs, .pinned, .regs, .mem, .flash, .boot, .ev, .ctlUp, .sessions, .challenges, .lockouts, .roleKeys] (List.append [.salvos, .frameWrites, .restartWrites, .engine, .tw, .st, .update, .rollback, .owners, .flashJournal, .osf, .gate, .ctl, .colLast, .scr, .mon] ([.sdiRx, .sdiTx, .ridge, .cq, .media, .ws, .au, .tarn, .sad, .mor, .diskJournal])), [], []⟩ s_a (execFenceComplete dt_a session_a seq_a s_a) := by
  unfold execFenceComplete
  refine actIf_only (hk3 := fun u1 => ?_) (l := (by decide)) ..
  extract_lets +onlyGivenNames x2
  have hx2 : Only ⟨List.append [.out, .fresh, .now, .tc, .objs, .pinned, .regs, .mem, .flash, .boot, .ev, .ctlUp, .sessions, .challenges, .lockouts, .roleKeys] (List.append [.salvos, .frameWrites, .restartWrites, .engine, .tw, .st, .update, .rollback, .owners, .flashJournal, .osf, .gate, .ctl, .colLast, .scr, .mon] ([.sdiRx, .sdiTx, .ridge, .cq, .media, .ws, .au, .tarn, .sad, .mor, .diskJournal])), [], []⟩ u1 x2 := by
    subst x2
    refine Only.optElim (fun x3 => ?_) ?_
    · refine Only.seq (State.setSession_only ..) ?_ (by decide)
      exact Only.refl _ _
    · exact Only.refl _ _
  clear_value x2
  refine Only.seq (State.releaseHeld_only ..) ?_ (by decide)
  refine Only.seq (State.respond_only ..) ?_ (by decide)
  exact hx2

theorem execFenceMissing_only (dt_a session_a seq_a s_a) : OnlyR ⟨[.out, .now, .tc, .sessions], [], []⟩ s_a (execFenceMissing dt_a session_a seq_a s_a) := by
  unfold execFenceMissing
  refine act_only (hk2 := fun u1 => ?_) (l := (by decide)) ..
  split
  · refine Only.seq (State.respond_only ..) ?_ (by decide)
    refine Only.seq (State.setSession_only ..) ?_ (by decide)
    exact Only.refl _ _
  · exact Only.refl _ _

theorem execSessionIdleTimeout_only (dt_a session_a s_a) : OnlyR ⟨[.out, .now, .tc, .pinned, .ev, .sessions, .salvos, .engine, .update, .flashJournal, .gate, .media, .diskJournal], [Obj.rxFlowState, Obj.txFlowState, Obj.portTxFramesB, Obj.portTxFrames, Obj.eventCount, Obj.eventLastAt, Obj.eventLastSubject, Obj.portTxBytesB, Obj.portTxBytes, Obj.updateState], [0x40000004, 0x40000008, 0x40080014]⟩ s_a (execSessionIdleTimeout dt_a session_a s_a) := by
  unfold execSessionIdleTimeout
  refine actIf_only (hk3 := fun u1 => ?_) (l := (by decide)) ..
  refine Only.seq (State.endSession_only ..) ?_ (by decide)
  exact Only.refl _ _

theorem execTcpConnectionClose_only (dt_a session_a s_a) : OnlyR ⟨[.out, .now, .tc, .pinned, .ev, .sessions, .salvos, .engine, .update, .flashJournal, .gate, .media, .diskJournal], [Obj.rxFlowState, Obj.txFlowState, Obj.portTxFramesB, Obj.portTxFrames, Obj.eventCount, Obj.eventLastAt, Obj.eventLastSubject, Obj.portTxBytesB, Obj.portTxBytes, Obj.updateState], [0x40000004, 0x40000008, 0x40080014]⟩ s_a (execTcpConnectionClose dt_a session_a s_a) := by
  unfold execTcpConnectionClose
  refine actIf_only (hk3 := fun u1 => ?_) (l := (by decide)) ..
  refine Only.seq (State.endSession_only ..) ?_ (by decide)
  exact Only.refl _ _

theorem execNotifySend_only (dt_a session_a s_a) : OnlyR ⟨[.out, .now, .tc, .pinned, .ev, .sessions, .flashJournal, .diskJournal], [Obj.eventCount, Obj.eventLastAt, Obj.eventLastSubject], [0x40000004, 0x40000008]⟩ s_a (execNotifySend dt_a session_a s_a) := by
  unfold execNotifySend
  refine actIf_only (hk3 := fun u1 => ?_) (l := (by decide)) ..
  split
  · exact Only.refl _ _
  · extract_lets +onlyGivenNames x2
    extract_lets +onlyGivenNames x3
    extract_lets +onlyGivenNames x4
    have hx4 : Only ⟨[.out, .now, .tc, .pinned, .ev, .sessions, .flashJournal, .diskJournal], [Obj.eventCount, Obj.eventLastAt, Obj.eventLastSubject], [0x40000004, 0x40000008]⟩ u1 x4 := by
      subst x4
      refine Only.seq (State.sendIn_only ..) ?_ (by decide)
      refine Only.seq (State.setSession_only ..) ?_ (by decide)
      exact Only.refl _ _
    clear_value x4
    refine Only.ite ?_ ?_
    · exact hx4
    · refine Only.seq (State.raise_only ..) ?_ (by decide)
      exact hx4

theorem execNotifyResend_only (dt_a session_a s_a) : OnlyR ⟨[.out, .now, .tc, .sessions], [], []⟩ s_a (execNotifyResend dt_a session_a s_a) := by
  unfold execNotifyResend
  refine act_only (hk2 := fun u1 => ?_) (l := (by decide)) ..
  split
  · exact Only.refl _ _
  · refine Only.ite ?_ ?_
    · exact Only.refl _ _
    · refine Only.ite ?_ ?_
      · refine Only.seq (State.emit_only ..) ?_ (by decide)
        refine Only.seq (State.setSession_only ..) ?_ (by decide)
        exact Only.refl _ _
      · extract_lets +onlyGivenNames x2
        refine Only.seq (State.setSession_only ..) ?_ (by decide)
        exact Only.refl _ _

theorem execNotifyAck_only (dt_a m_a notifySeq_a s_a) : OnlyR ⟨[.out, .now, .tc, .objs, .pinned, .ev, .sessions, .flashJournal, .diskJournal], [], [0x40000004, 0x40000008]⟩ s_a (execNotifyAck dt_a m_a notifySeq_a s_a) := by
  unfold execNotifyAck
  refine actIf_only (hk3 := fun u1 => ?_) (l := (by decide)) ..
  refine Only.seq (State.accept_only (hk2 := fun u2 => ?_) (l := (by decide)) ..) ?_ (Reach.le_refl _)
  · refine Only.optElim (fun x3 => ?_) ?_
    · refine Only.ite ?_ ?_
      · refine Only.seq (State.setSession_only ..) ?_ (by decide)
        exact Only.refl _ _
      · exact Only.refl _ _
    · exact Only.refl _ _
  · exact Only.refl _ _

theorem execSalvoOpen_only (dt_a m_a s_a) : OnlyR ⟨List.append [.out, .fresh, .now, .tc, .objs, .pinned, .regs, .mem, .flash, .boot, .ev, .ctlUp, .sessions, .challenges, .lockouts, .roleKeys] (List.append [.salvos, .frameWrites, .restartWrites, .engine, .tw, .st, .update, .rollback, .owners, .flashJournal, .osf, .gate, .ctl, .colLast, .scr, .mon] ([.sdiRx, .sdiTx, .ridge, .cq, .media, .ws, .au, .tarn, .sad, .mor, .diskJournal])), [], []⟩ s_a (execSalvoOpen dt_a m_a s_a) := by
  unfold execSalvoOpen
  refine act_only (hk2 := fun u1 => ?_) (l := (by decide)) ..
  refine Only.seq (State.message_only ..) ?_ (by decide)
  exact Only.refl _ _

theorem execSalvoAdd_only (dt_a m_a n_a index_a sub_a value_a s_a) : OnlyR ⟨List.append [.out, .fresh, .now, .tc, .objs, .pinned, .regs, .mem, .flash, .boot, .ev, .ctlUp, .sessions, .challenges, .lockouts, .roleKeys] (List.append [.salvos, .frameWrites, .restartWrites, .engine, .tw, .st, .update, .rollback, .owners, .flashJournal, .osf, .gate, .ctl, .colLast, .scr, .mon] ([.sdiRx, .sdiTx, .ridge, .cq, .media, .ws, .au, .tarn, .sad, .mor, .diskJournal])), [], []⟩ s_a (execSalvoAdd dt_a m_a n_a index_a sub_a value_a s_a) := by
  unfold execSalvoAdd
  refine act_only (hk2 := fun u1 => ?_) (l := (by decide)) ..
  refine Only.seq (State.message_only ..) ?_ (by decide)
  exact Only.refl _ _

theorem execSalvoRemove_only (dt_a m_a n_a index_a sub_a s_a) : OnlyR ⟨List.append [.out, .fresh, .now, .tc, .objs, .pinned, .regs, .mem, .flash, .boot, .ev, .ctlUp, .sessions, .challenges, .lockouts, .roleKeys] (List.append [.salvos, .frameWrites, .restartWrites, .engine, .tw, .st, .update, .rollback, .owners, .flashJournal, .osf, .gate, .ctl, .colLast, .scr, .mon] ([.sdiRx, .sdiTx, .ridge, .cq, .media, .ws, .au, .tarn, .sad, .mor, .diskJournal])), [], []⟩ s_a (execSalvoRemove dt_a m_a n_a index_a sub_a s_a) := by
  unfold execSalvoRemove
  refine act_only (hk2 := fun u1 => ?_) (l := (by decide)) ..
  refine Only.seq (State.message_only ..) ?_ (by decide)
  exact Only.refl _ _

theorem execSalvoClear_only (dt_a m_a n_a s_a) : OnlyR ⟨List.append [.out, .fresh, .now, .tc, .objs, .pinned, .regs, .mem, .flash, .boot, .ev, .ctlUp, .sessions, .challenges, .lockouts, .roleKeys] (List.append [.salvos, .frameWrites, .restartWrites, .engine, .tw, .st, .update, .rollback, .owners, .flashJournal, .osf, .gate, .ctl, .colLast, .scr, .mon] ([.sdiRx, .sdiTx, .ridge, .cq, .media, .ws, .au, .tarn, .sad, .mor, .diskJournal])), [], []⟩ s_a (execSalvoClear dt_a m_a n_a s_a) := by
  unfold execSalvoClear
  refine act_only (hk2 := fun u1 => ?_) (l := (by decide)) ..
  refine Only.seq (State.message_only ..) ?_ (by decide)
  exact Only.refl _ _

theorem execSalvoArm_only (dt_a m_a n_a s_a) : OnlyR ⟨List.append [.out, .fresh, .now, .tc, .objs, .pinned, .regs, .mem, .flash, .boot, .ev, .ctlUp, .sessions, .challenges, .lockouts, .roleKeys] (List.append [.salvos, .frameWrites, .restartWrites, .engine, .tw, .st, .update, .rollback, .owners, .flashJournal, .osf, .gate, .ctl, .colLast, .scr, .mon] ([.sdiRx, .sdiTx, .ridge, .cq, .media, .ws, .au, .tarn, .sad, .mor, .diskJournal])), [], []⟩ s_a (execSalvoArm dt_a m_a n_a s_a) := by
  unfold execSalvoArm
  refine act_only (hk2 := fun u1 => ?_) (l := (by decide)) ..
  refine Only.seq (State.message_only ..) ?_ (by decide)
  exact Only.refl _ _

theorem execSalvoDisarm_only (dt_a m_a n_a s_a) : OnlyR ⟨List.append [.out, .fresh, .now, .tc, .objs, .pinned, .regs, .mem, .flash, .boot, .ev, .ctlUp, .sessions, .challenges, .lockouts, .roleKeys] (List.append [.salvos, .frameWrites, .restartWrites, .engine, .tw, .st, .update, .rollback, .owners, .flashJournal, .osf, .gate, .ctl, .colLast, .scr, .mon] ([.sdiRx, .sdiTx, .ridge, .cq, .media, .ws, .au, .tarn, .sad, .mor, .diskJournal])), [], []⟩ s_a (execSalvoDisarm dt_a m_a n_a s_a) := by
  unfold execSalvoDisarm
  refine act_only (hk2 := fun u1 => ?_) (l := (by decide)) ..
  refine Only.seq (State.message_only ..) ?_ (by decide)
  exact Only.refl _ _

theorem execSalvoDiscard_only (dt_a m_a n_a s_a) : OnlyR ⟨List.append [.out, .fresh, .now, .tc, .objs, .pinned, .regs, .mem, .flash, .boot, .ev, .ctlUp, .sessions, .challenges, .lockouts, .roleKeys] (List.append [.salvos, .frameWrites, .restartWrites, .engine, .tw, .st, .update, .rollback, .owners, .flashJournal, .osf, .gate, .ctl, .colLast, .scr, .mon] ([.sdiRx, .sdiTx, .ridge, .cq, .media, .ws, .au, .tarn, .sad, .mor, .diskJournal])), [], []⟩ s_a (execSalvoDiscard dt_a m_a n_a s_a) := by
  unfold execSalvoDiscard
  refine act_only (hk2 := fun u1 => ?_) (l := (by decide)) ..
  refine Only.seq (State.message_only ..) ?_ (by decide)
  exact Only.refl _ _

theorem execSalvoTake_only (dt_a m_a n_a implicitArm_a at__a s_a) : OnlyR ⟨List.append [.out, .fresh, .now, .tc, .objs, .pinned, .regs, .mem, .flash, .boot, .ev, .ctlUp, .sessions, .challenges, .lockouts, .roleKeys] (List.append [.salvos, .frameWrites, .restartWrites, .engine, .tw, .st, .update, .rollback, .owners, .flashJournal, .osf, .gate, .ctl, .colLast, .scr, .mon] ([.sdiRx, .sdiTx, .ridge, .cq, .media, .ws, .au, .tarn, .sad, .mor, .diskJournal])), [], []⟩ s_a (execSalvoTake dt_a m_a n_a implicitArm_a at__a s_a) := by
  unfold execSalvoTake
  refine act_only (hk2 := fun u1 => ?_) (l := (by decide)) ..
  refine Only.seq (State.message_only ..) ?_ (by decide)
  exact Only.refl _ _

theorem execStoreSaved_only (dt_a ok_a s_a) : OnlyR ⟨List.append [.out, .fresh, .now, .tc, .objs, .pinned, .regs, .mem, .flash, .boot, .ev, .ctlUp, .sessions, .challenges, .lockouts, .roleKeys] (List.append [.salvos, .frameWrites, .restartWrites, .engine, .tw, .st, .update, .rollback, .owners, .flashJournal, .osf, .gate, .ctl, .colLast, .scr, .mon] ([.sdiRx, .sdiTx, .ridge, .cq, .media, .ws, .au, .tarn, .sad, .mor, .diskJournal])), [], []⟩ s_a (execStoreSaved dt_a ok_a s_a) := by
  unfold execStoreSaved
  refine actIf_only (hk3 := fun u1 => ?_) (l := (by decide)) ..
  refine Only.seq (State.releaseAll_only ..) ?_ (by decide)
  refine Only.seq (State.endSave_only ..) ?_ (by decide)
  exact Only.refl _ _

theorem execWriteThroughAck_only (dt_a s_a) : OnlyR ⟨List.append [.out, .fresh, .now, .tc, .objs, .pinned, .regs, .mem, .flash, .boot, .ev, .ctlUp, .sessions, .challenges, .lockouts, .roleKeys] (List.append [.salvos, .frameWrites, .restartWrites, .engine, .tw, .st, .update, .rollback, .owners, .flashJournal, .osf, .gate, .ctl, .colLast, .scr, .mon] ([.sdiRx, .sdiTx, .ridge, .cq, .media, .ws, .au, .tarn, .sad, .mor, .diskJournal])), [], []⟩ s_a (execWriteThroughAck dt_a s_a) := by
  unfold execWriteThroughAck
  refine actIf_only (hk3 := fun u1 => ?_) (l := (by decide)) ..
  split
  · refine Only.ite ?_ ?_
    · exact Only.refl _ _
    · refine Only.seq (State.releaseAll_only ..) ?_ (by decide)
      refine Only.seq (State.endThrough_only ..) ?_ (by decide)
      refine Only.seq (Only.upd (r := ⟨[.tw], [], []⟩) (s := u1) (fun p => by cases p <;> first | exact .inr rfl | exact .inl (by decide))) ?_ (by decide)
      exact Only.refl _ _
  · exact Only.refl _ _

theorem execWriteThroughTimeout_only (dt_a s_a) : OnlyR ⟨List.append [.out, .fresh, .now, .tc, .objs, .pinned, .regs, .mem, .flash, .boot, .ev, .ctlUp, .sessions, .challenges, .lockouts, .roleKeys] (List.append [.salvos, .frameWrites, .restartWrites, .engine, .tw, .st, .update, .rollback, .owners, .flashJournal, .osf, .gate, .ctl, .colLast, .scr, .mon] ([.sdiRx, .sdiTx, .ridge, .cq, .media, .ws, .au, .tarn, .sad, .mor, .diskJournal])), [], []⟩ s_a (execWriteThroughTimeout dt_a s_a) := by
  unfold execWriteThroughTimeout
  refine actIf_only (hk3 := fun u1 => ?_) (l := (by decide)) ..
  split
  · refine Only.ite ?_ ?_
    · exact Only.refl _ _
    · extract_lets +onlyGivenNames x2
      extract_lets +onlyGivenNames x3
      have hx3 : Only ⟨List.append [.out, .fresh, .now, .tc, .objs, .pinned, .regs, .mem, .flash, .boot, .ev, .ctlUp, .sessions, .challenges, .lockouts, .roleKeys] (List.append [.salvos, .frameWrites, .restartWrites, .engine, .tw, .st, .update, .rollback, .owners, .flashJournal, .osf, .gate, .ctl, .colLast, .scr, .mon] ([.sdiRx, .sdiTx, .ridge, .cq, .media, .ws, .au, .tarn, .sad, .mor, .diskJournal])), [], []⟩ u1 x3 := by
        subst x3
        refine Only.seq (State.endThrough_only ..) ?_ (by decide)
        refine Only.seq (State.loseMirror_only ..) ?_ (by decide)
        refine Only.seq (Only.upd (r := ⟨[.tw], [], []⟩) (s := u1) (fun p => by cases p <;> first | exact .inr rfl | exact .inl (by decide))) ?_ (by decide)
        exact Only.refl _ _
      clear_value x3
      refine Only.seq (State.releaseAll_only ..) ?_ (by decide)
      refine Only.ite ?_ ?_
      · exact hx3
      · refine Only.seq (State.logWrite_only ..) ?_ (by decide)
        exact hx3
  · exact Only.refl _ _

end Sys2Proof.Machine
end

