-- ==== Sys2Proof/Laws/OnlyGate.lean ====
section
/-!
SUPPORT. What the functions of Machine/Gate.lean may change (`Only` of Laws/Only.lean).
-/
namespace Sys2Proof.Machine
set_option Elab.async false

theorem State.gateEnd_only (s_a status_a a1_a a2_a) : Only ⟨[.out], [], []⟩ s_a (State.gateEnd s_a status_a a1_a a2_a) := by
  unfold State.gateEnd
  refine Only.seq (State.emit_only ..) ?_ (by decide)
  exact Only.refl _ _

theorem State.gateOk_only (s_a a1_a a2_a) : Only ⟨[.out], [], []⟩ s_a (State.gateOk s_a a1_a a2_a) := by
  unfold State.gateOk
  refine Only.seq (State.gateEnd_only ..) ?_ (by decide)
  exact Only.refl _ _

theorem State.gateNo_only (s_a code_a a2_a) : Only ⟨[.out], [], []⟩ s_a (State.gateNo s_a code_a a2_a) := by
  unfold State.gateNo
  refine Only.seq (State.gateEnd_only ..) ?_ (by decide)
  exact Only.refl _ _

theorem State.withBuf_only {r : Reach} (s_a b_a f_a) (hk2 : ∀ y0, Only r y0 (f_a y0)) (l : Reach.le ⟨[.out, .pinned, .ev, .flashJournal, .diskJournal], [Obj.eventCount, Obj.eventLastAt, Obj.eventLastSubject], [0x40000004, 0x40000008]⟩ r) : Only r s_a (State.withBuf s_a b_a f_a) := by
  unfold State.withBuf
  refine Only.ite ?_ ?_
  · refine Only.seq (hk2 ..) ?_ (Reach.le_refl _)
    exact Only.refl _ _
  · refine Only.seq (State.gateEnd_only ..) ?_ (Reach.le_trans (b := ⟨[.out, .pinned, .ev, .flashJournal, .diskJournal], [Obj.eventCount, Obj.eventLastAt, Obj.eventLastSubject], [0x40000004, 0x40000008]⟩) (by decide) l)
    refine Only.seq (State.raiseLimited_only ..) ?_ (Reach.le_trans (b := ⟨[.out, .pinned, .ev, .flashJournal, .diskJournal], [Obj.eventCount, Obj.eventLastAt, Obj.eventLastSubject], [0x40000004, 0x40000008]⟩) (by decide) l)
    exact Only.refl _ _

theorem State.putBuf_only (s_a b_a bytes_a) : Only ⟨[.mem], [], []⟩ s_a (State.putBuf s_a b_a bytes_a) := by
  unfold State.putBuf
  refine Only.seq (State.setMem_only ..) ?_ (by decide)
  exact Only.refl _ _

theorem State.withSession_only {r : Reach} (s_a n_a f_a) (hk2 : ∀ y0 y1, Only r y0 (f_a y0 y1)) (l : Reach.le ⟨[.out], [], []⟩ r) : Only r s_a (State.withSession s_a n_a f_a) := by
  unfold State.withSession
  split
  · refine Only.seq (hk2 ..) ?_ (Reach.le_refl _)
    exact Only.refl _ _
  · refine Only.seq (State.gateNo_only ..) ?_ (Reach.le_trans (b := ⟨[.out], [], []⟩) (by decide) l)
    exact Only.refl _ _

theorem State.withOwner_only {r : Reach} (s_a n_a f_a) (hk2 : ∀ y0, Only r y0 (f_a y0)) (l : Reach.le ⟨[.out], [], []⟩ r) : Only r s_a (State.withOwner s_a n_a f_a) := by
  unfold State.withOwner
  refine Only.seq (State.withSession_only (hk2 := fun u1 x2 => ?_) (l := (Reach.le_trans (b := ⟨[.out], [], []⟩) (by decide) l)) ..) ?_ (Reach.le_refl _)
  · refine Only.ite ?_ ?_
    · refine Only.seq (hk2 ..) ?_ (Reach.le_refl _)
      exact Only.refl _ _
    · refine Only.seq (State.gateNo_only ..) ?_ (Reach.le_trans (b := ⟨[.out], [], []⟩) (by decide) l)
      exact Only.refl _ _
  · exact Only.refl _ _

theorem gateCall_only {r : Reach} (dt_a s_a f_a) (hk2 : ∀ y0, Only r y0 (f_a y0)) (l : Reach.le ⟨[.out, .now, .tc], [], []⟩ r) : OnlyR r s_a (gateCall dt_a s_a f_a) := by
  unfold gateCall
  refine actIf_only (hk3 := fun u1 => ?_) (l := (Reach.le_trans (b := ⟨[.out, .now, .tc], [], []⟩) (by decide) l)) ..
  refine Only.seq (hk2 ..) ?_ (Reach.le_refl _)
  exact Only.refl _ _

theorem State.newTicket_only (s_a b_a) : Only ⟨[.gate], [], []⟩ s_a (State.newTicket s_a b_a).2 := by
  unfold State.newTicket
  extract_lets +onlyGivenNames x1
  refine Only.mk2 ?_
  refine Only.seq (Only.upd (r := ⟨[.gate], [], []⟩) (s := s_a) (fun p => by cases p <;> first | exact .inr rfl | exact .inl (by decide))) ?_ (by decide)
  exact Only.refl _ _

theorem execGateVersion_only (dt_a s_a) : OnlyR ⟨[.out, .now, .tc], [], []⟩ s_a (execGateVersion dt_a s_a) := by
  unfold execGateVersion
  refine gateCall_only (hk2 := fun u1 => ?_) (l := (by decide)) ..
  refine Only.seq (State.gateOk_only ..) ?_ (by decide)
  exact Only.refl _ _

theorem execGateHeartbeat_only (dt_a s_a) : OnlyR ⟨[.out, .now, .tc, .pinned, .boot, .ev, .update, .flashJournal, .diskJournal], [Obj.eventCount, Obj.eventLastAt, Obj.eventLastSubject], [0x40000004, 0x40000008]⟩ s_a (execGateHeartbeat dt_a s_a) := by
  unfold execGateHeartbeat
  refine gateCall_only (hk2 := fun u1 => ?_) (l := (by decide)) ..
  refine Only.seq (State.gateOk_only ..) ?_ (by decide)
  refine Only.seq (State.heartbeat_only ..) ?_ (by decide)
  exact Only.refl _ _

theorem execGateRestart_only (dt_a session_a kind_a s_a) : OnlyR ⟨List.append [.out, .now, .tc, .objs, .pinned, .regs, .mem, .boot, .ev, .ctlUp, .sessions, .challenges, .lockouts, .roleKeys, .salvos, .frameWrites] (List.append [.restartWrites, .engine, .tw, .st, .update, .flashJournal, .osf, .gate, .ctl, .colLast, .scr, .mon, .sdiRx, .sdiTx, .ridge, .cq] ([.media, .ws, .au, .tarn, .sad, .mor, .diskJournal])), [], []⟩ s_a (execGateRestart dt_a session_a kind_a s_a) := by
  unfold execGateRestart
  refine gateCall_only (hk2 := fun u1 => ?_) (l := (by decide)) ..
  refine Only.seq (State.withOwner_only (hk2 := fun u2 => ?_) (l := (by decide)) ..) ?_ (Reach.le_refl _)
  · refine Only.ite ?_ ?_
    · refine Only.seq (State.requestSoft_only ..) ?_ (by decide)
      exact Only.refl _ _
    · refine Only.ite ?_ ?_
      · refine Only.seq (State.requestHard_only ..) ?_ (by decide)
        exact Only.refl _ _
      · refine Only.seq (State.gateNo_only ..) ?_ (by decide)
        exact Only.refl _ _
  · exact Only.refl _ _

theorem execGateHbmRegion_only (dt_a s_a) : OnlyR ⟨[.out, .now, .tc], [], []⟩ s_a (execGateHbmRegion dt_a s_a) := by
  unfold execGateHbmRegion
  refine gateCall_only (hk2 := fun u1 => ?_) (l := (by decide)) ..
  refine Only.seq (State.gateOk_only ..) ?_ (by decide)
  exact Only.refl _ _

theorem execGateAuthHello_only (dt : Nat) (m : Msg) (h : Hello) (buf : Buf) (s : State) :
    OnlyR ⟨[.out, .fresh, .now, .tc, .pinned, .mem, .ev, .challenges, .flashJournal, .diskJournal], [Obj.eventCount, Obj.eventLastAt, Obj.eventLastSubject], [0x40000004, 0x40000008]⟩ s (execGateAuthHello dt m h buf s) := by
  unfold execGateAuthHello
  refine gateCall_only (hk2 := fun t => State.withBuf_only (hk2 := fun u => ?_) (l := by decide +kernel) ..) (l := by decide +kernel) ..
  split
  · next e => exact (State.gateNo_only ..).seq (Only.snd e ((State.hello_only ..).up))
  · next e => exact (State.gateOk_only ..).seq ((State.putBuf_only ..).seq (Only.snd e ((State.hello_only ..).up)))

theorem execGateAuthProof_only (dt : Nat) (m : Msg) (handle : Nat) (proof : List Byte) (buf : Buf) (s : State) :
    OnlyR ⟨[.out, .fresh, .now, .tc, .pinned, .mem, .ev, .sessions, .challenges, .lockouts, .flashJournal, .diskJournal], [Obj.eventCount, Obj.eventLastAt, Obj.eventLastSubject, Obj.authFailures], [0x40000004, 0x40000008]⟩ s (execGateAuthProof dt m handle proof buf s) := by
  unfold execGateAuthProof
  refine gateCall_only (hk2 := fun t => State.withBuf_only (hk2 := fun u => ?_) (l := by decide +kernel) ..) (l := by decide +kernel) ..
  split
  · next e => exact (State.gateNo_only ..).seq (Only.snd e ((State.proof_only ..).up))
  · next e => exact (State.gateOk_only ..).seq ((State.putBuf_only ..).seq (Only.snd e ((State.proof_only ..).up)))

theorem State.openBody_only (s_a x_a seq_a b_a) : Only ⟨[.mem], [], []⟩ s_a (State.openBody s_a x_a seq_a b_a) := by
  unfold State.openBody
  refine Only.ite ?_ ?_
  · exact Only.refl _ _
  · extract_lets +onlyGivenNames x1
    split
    · refine Only.seq (State.setMem_only ..) ?_ (by decide)
      exact Only.refl _ _
    · exact Only.refl _ _

theorem execGateMsgOpen_only (dt_a m_a buf_a s_a) : OnlyR ⟨[.out, .now, .tc, .pinned, .mem, .ev, .sessions, .flashJournal, .diskJournal], [Obj.eventCount, Obj.eventLastAt, Obj.eventLastSubject], [0x40000004, 0x40000008]⟩ s_a (execGateMsgOpen dt_a m_a buf_a s_a) := by
  unfold execGateMsgOpen
  refine gateCall_only (hk2 := fun u1 => ?_) (l := (by decide)) ..
  refine Only.seq (State.withBuf_only (hk2 := fun u2 => ?_) (l := (by decide)) ..) ?_ (Reach.le_refl _)
  · refine Only.seq (State.withSession_only (hk2 := fun u3 x4 => ?_) (l := (by decide)) ..) ?_ (Reach.le_refl _)
    · refine Only.ite ?_ ?_
      · refine Only.seq (State.gateNo_only ..) ?_ (by decide)
        exact Only.refl _ _
      · refine Only.ite ?_ ?_
        · refine Only.seq (State.gateNo_only ..) ?_ (by decide)
          exact Only.refl _ _
        · refine Only.seq (State.gateOk_only ..) ?_ (by decide)
          refine Only.seq (State.openBody_only ..) ?_ (by decide)
          refine Only.seq (State.setSession_only ..) ?_ (by decide)
          exact Only.refl _ _
    · exact Only.refl _ _
  · exact Only.refl _ _

theorem State.sealBody_only (s_a x_a b_a) : Only ⟨[.mem], [], []⟩ s_a (State.sealBody s_a x_a b_a) := by
  unfold State.sealBody
  extract_lets +onlyGivenNames x1
  extract_lets +onlyGivenNames x2
  extract_lets +onlyGivenNames x3
  extract_lets +onlyGivenNames x4
  extract_lets +onlyGivenNames x5
  refine Only.ite ?_ ?_
  · extract_lets +onlyGivenNames x6
    refine Only.seq (State.putBuf_only ..) ?_ (by decide)
    exact Only.refl _ _
  · refine Only.seq (State.putBuf_only ..) ?_ (by decide)
    exact Only.refl _ _

theorem execGateMsgSeal_only (dt_a session_a buf_a s_a) : OnlyR ⟨[.out, .now, .tc, .pinned, .mem, .ev, .sessions, .flashJournal, .diskJournal], [Obj.eventCount, Obj.eventLastAt, Obj.eventLastSubject], [0x40000004, 0x40000008]⟩ s_a (execGateMsgSeal dt_a session_a buf_a s_a) := by
  unfold execGateMsgSeal
  refine gateCall_only (hk2 := fun u1 => ?_) (l := (by decide)) ..
  refine Only.seq (State.withBuf_only (hk2 := fun u2 => ?_) (l := (by decide)) ..) ?_ (Reach.le_refl _)
  · refine Only.seq (State.withSession_only (hk2 := fun u3 x4 => ?_) (l := (by decide)) ..) ?_ (Reach.le_refl _)
    · refine Only.ite ?_ ?_
      · refine Only.seq (State.gateNo_only ..) ?_ (by decide)
        exact Only.refl _ _
      · refine Only.seq (State.gateOk_only ..) ?_ (by decide)
        refine Only.seq (State.setSession_only ..) ?_ (by decide)
        refine Only.seq (State.sealBody_only ..) ?_ (by decide)
        exact Only.refl _ _
    · exact Only.refl _ _
  · exact Only.refl _ _

theorem execGateSessionEnd_only (dt_a session_a _reason_a s_a) : OnlyR ⟨[.out, .now, .tc, .pinned, .ev, .sessions, .salvos, .engine, .update, .flashJournal, .gate, .media, .diskJournal], [Obj.rxFlowState, Obj.txFlowState, Obj.portTxFramesB, Obj.portTxFrames, Obj.eventCount, Obj.eventLastAt, Obj.eventLastSubject, Obj.portTxBytesB, Obj.portTxBytes, Obj.updateState], [0x40000004, 0x40000008, 0x40080014]⟩ s_a (execGateSessionEnd dt_a session_a _reason_a s_a) := by
  unfold execGateSessionEnd
  refine gateCall_only (hk2 := fun u1 => ?_) (l := (by decide)) ..
  refine Only.seq (State.withSession_only (hk2 := fun u2 x3 => ?_) (l := (by decide)) ..) ?_ (Reach.le_refl _)
  · refine Only.seq (State.gateOk_only ..) ?_ (by decide)
    refine Only.seq (State.endSession_only ..) ?_ (by decide)
    exact Only.refl _ _
  · exact Only.refl _ _

theorem execGateCeSubmit_only (dt_a session_a r_a buf_a s_a) : OnlyR ⟨List.append [.out, .fresh, .now, .tc, .objs, .pinned, .regs, .mem, .flash, .boot, .ev, .ctlUp, .sessions, .challenges, .lockouts, .roleKeys] (List.append [.salvos, .frameWrites, .restartWrites, .engine, .tw, .st, .update, .rollback, .owners, .flashJournal, .osf, .gate, .ctl, .colLast, .scr, .mon] ([.sdiRx, .sdiTx, .ridge, .cq, .media, .ws, .au, .tarn, .sad, .mor, .diskJournal])), [], []⟩ s_a (execGateCeSubmit dt_a session_a r_a buf_a s_a) := by
  unfold execGateCeSubmit
  refine gateCall_only (hk2 := fun u1 => ?_) (l := (by decide)) ..
  refine Only.seq (State.withBuf_only (hk2 := fun u2 => ?_) (l := (by decide)) ..) ?_ (Reach.le_refl _)
  · refine Only.seq (State.withSession_only (hk2 := fun u3 x4 => ?_) (l := (by decide)) ..) ?_ (Reach.le_refl _)
    · split
      rename_i v5 t6 e7
      have ht6 := Only.mono (b := ⟨List.append [.out, .fresh, .now, .tc, .objs, .pinned, .regs, .mem, .flash, .boot, .ev, .ctlUp, .sessions, .challenges, .lockouts, .roleKeys] (List.append [.salvos, .frameWrites, .restartWrites, .engine, .tw, .st, .update, .rollback, .owners, .flashJournal, .osf, .gate, .ctl, .colLast, .scr, .mon] ([.sdiRx, .sdiTx, .ridge, .cq, .media, .ws, .au, .tarn, .sad, .mor, .diskJournal])), [], []⟩) (Only.snd e7 (State.newTicket_only ..)) (by decide)
      extract_lets +onlyGivenNames x8
      have hx8 : Only ⟨List.append [.out, .fresh, .now, .tc, .objs, .pinned, .regs, .mem, .flash, .boot, .ev, .ctlUp, .sessions, .challenges, .lockouts, .roleKeys] (List.append [.salvos, .frameWrites, .restartWrites, .engine, .tw, .st, .update, .rollback, .owners, .flashJournal, .osf, .gate, .ctl, .colLast, .scr, .mon] ([.sdiRx, .sdiTx, .ridge, .cq, .media, .ws, .au, .tarn, .sad, .mor, .diskJournal])), [], []⟩ u3 x8 := by
        subst x8
        refine Only.seq (State.gateOk_only ..) ?_ (by decide)
        exact ht6
      clear_value x8
      split
      · refine Only.ite ?_ ?_
        · refine Only.seq (State.writeFor_only ..) ?_ (by decide)
          exact hx8
        · refine Only.seq (State.reply_only ..) ?_ (by decide)
          exact hx8
      · refine Only.ite ?_ ?_
        · refine Only.seq (State.reply_only ..) ?_ (by decide)
          exact hx8
        · refine Only.seq (State.toEngine_only ..) ?_ (by decide)
          exact hx8
      · exact hx8
    · exact Only.refl _ _
  · exact Only.refl _ _

theorem execGateCeRead_only (dt index sub : Nat) (buf : Buf) (s : State) : OnlyR ⟨[.out, .now, .tc, .pinned, .mem, .ev, .flashJournal, .ridge, .diskJournal], [Obj.eventCount, Obj.eventLastAt, Obj.eventLastSubject, Obj.morJournalCursor, Obj.srcFramesWritten, Obj.srcLiveFormat, Obj.srcFeedKind, Obj.srcState, Obj.srcReservationStatus, Obj.srcFramesAbandoned, Obj.srcColourLive], [0x40000004, 0x40000008]⟩ s (execGateCeRead dt index sub buf s) := by
  unfold execGateCeRead
  refine gateCall_only (hk2 := fun t => State.withBuf_only (hk2 := fun u => ?_) (l := by decide +kernel) ..) (l := by decide +kernel) ..
  refine Only.ite ((State.gateNo_only ..).up) ?_
  split
  · exact (State.gateNo_only ..).up
  · next h => exact (State.gateOk_only ..).seq ((State.putBuf_only ..).seq ((State.readItem_only h).up))

theorem State.gateWrite_only (s : State) (n a : Nat) (value : List Byte) : Only ⟨List.append [.out, .fresh, .tc, .objs, .pinned, .regs, .mem, .flash, .boot, .ev, .ctlUp, .sessions, .challenges, .lockouts, .roleKeys, .salvos] (List.append [.frameWrites, .restartWrites, .engine, .tw, .st, .update, .rollback, .owners, .flashJournal, .osf, .gate, .ctl, .colLast, .scr, .mon, .sdiRx] ([.sdiTx, .ridge, .cq, .media, .ws, .au, .tarn, .sad, .mor, .diskJournal])), [], []⟩ s (s.gateWrite n a value) := by
  unfold State.gateWrite
  refine State.withSession_only (hk2 := fun t x => ?_) (l := by decide +kernel) ..
  extract_lets +onlyGivenNames w
  have hw : Only ⟨List.append [.out, .fresh, .tc, .objs, .pinned, .regs, .mem, .flash, .boot, .ev, .ctlUp, .sessions, .challenges, .lockouts, .roleKeys, .salvos] (List.append [.frameWrites, .restartWrites, .engine, .tw, .st, .update, .rollback, .owners, .flashJournal, .osf, .gate, .ctl, .colLast, .scr, .mon, .sdiRx] ([.sdiTx, .ridge, .cq, .media, .ws, .au, .tarn, .sad, .mor, .diskJournal])), [], []⟩ t w.state := (State.writeItem_only ..).up
  clear_value w
  exact Only.ite ((State.gateOk_only ..).seq ((State.followWrite_only ..).seq hw)) ((State.gateNo_only ..).seq hw)

theorem execGateKeyWrite_only (dt_a session_a role_a key_a buf_a s_a) : OnlyR ⟨List.append [.out, .fresh, .now, .tc, .objs, .pinned, .regs, .mem, .flash, .boot, .ev, .ctlUp, .sessions, .challenges, .lockouts, .roleKeys] (List.append [.salvos, .frameWrites, .restartWrites, .engine, .tw, .st, .update, .rollback, .owners, .flashJournal, .osf, .gate, .ctl, .colLast, .scr, .mon] ([.sdiRx, .sdiTx, .ridge, .cq, .media, .ws, .au, .tarn, .sad, .mor, .diskJournal])), [], []⟩ s_a (execGateKeyWrite dt_a session_a role_a key_a buf_a s_a) := by
  unfold execGateKeyWrite
  refine gateCall_only (hk2 := fun u1 => ?_) (l := (by decide)) ..
  refine Only.seq (State.withBuf_only (hk2 := fun u2 => ?_) (l := (by decide)) ..) ?_ (Reach.le_refl _)
  · refine Only.seq (State.withOwner_only (hk2 := fun u3 => ?_) (l := (by decide)) ..) ?_ (Reach.le_refl _)
    · refine Only.seq (State.gateWrite_only ..) ?_ (by decide)
      exact Only.refl _ _
    · exact Only.refl _ _
  · exact Only.refl _ _

theorem execGateOwnerLock_only (dt_a session_a lock_a s_a) : OnlyR ⟨List.append [.out, .fresh, .now, .tc, .objs, .pinned, .regs, .mem, .flash, .boot, .ev, .ctlUp, .sessions, .challenges, .lockouts, .roleKeys] (List.append [.salvos, .frameWrites, .restartWrites, .engine, .tw, .st, .update, .rollback, .owners, .flashJournal, .osf, .gate, .ctl, .colLast, .scr, .mon] ([.sdiRx, .sdiTx, .ridge, .cq, .media, .ws, .au, .tarn, .sad, .mor, .diskJournal])), [], []⟩ s_a (execGateOwnerLock dt_a session_a lock_a s_a) := by
  unfold execGateOwnerLock
  refine gateCall_only (hk2 := fun u1 => ?_) (l := (by decide)) ..
  refine Only.seq (State.withOwner_only (hk2 := fun u2 => ?_) (l := (by decide)) ..) ?_ (Reach.le_refl _)
  · refine Only.seq (State.gateWrite_only ..) ?_ (by decide)
    exact Only.refl _ _
  · exact Only.refl _ _

theorem execGateOtpProgram_only (dt_a session_a hash_a buf_a s_a) : OnlyR ⟨List.append [.out, .fresh, .now, .tc, .objs, .pinned, .regs, .mem, .flash, .boot, .ev, .ctlUp, .sessions, .challenges, .lockouts, .roleKeys] (List.append [.salvos, .frameWrites, .restartWrites, .engine, .tw, .st, .update, .rollback, .owners, .flashJournal, .osf, .gate, .ctl, .colLast, .scr, .mon] ([.sdiRx, .sdiTx, .ridge, .cq, .media, .ws, .au, .tarn, .sad, .mor, .diskJournal])), [], []⟩ s_a (execGateOtpProgram dt_a session_a hash_a buf_a s_a) := by
  unfold execGateOtpProgram
  refine gateCall_only (hk2 := fun u1 => ?_) (l := (by decide)) ..
  refine Only.seq (State.withBuf_only (hk2 := fun u2 => ?_) (l := (by decide)) ..) ?_ (Reach.le_refl _)
  · refine Only.seq (State.withOwner_only (hk2 := fun u3 => ?_) (l := (by decide)) ..) ?_ (Reach.le_refl _)
    · refine Only.seq (State.gateWrite_only ..) ?_ (by decide)
      exact Only.refl _ _
    · exact Only.refl _ _
  · exact Only.refl _ _

theorem execGateOtpRevoke_only (dt_a session_a slot_a s_a) : OnlyR ⟨List.append [.out, .fresh, .now, .tc, .objs, .pinned, .regs, .mem, .flash, .boot, .ev, .ctlUp, .sessions, .challenges, .lockouts, .roleKeys] (List.append [.salvos, .frameWrites, .restartWrites, .engine, .tw, .st, .update, .rollback, .owners, .flashJournal, .osf, .gate, .ctl, .colLast, .scr, .mon] ([.sdiRx, .sdiTx, .ridge, .cq, .media, .ws, .au, .tarn, .sad, .mor, .diskJournal])), [], []⟩ s_a (execGateOtpRevoke dt_a session_a slot_a s_a) := by
  unfold execGateOtpRevoke
  refine gateCall_only (hk2 := fun u1 => ?_) (l := (by decide)) ..
  refine Only.seq (State.withOwner_only (hk2 := fun u2 => ?_) (l := (by decide)) ..) ?_ (Reach.le_refl _)
  · refine Only.ite ?_ ?_
    · refine Only.seq (State.gateNo_only ..) ?_ (by decide)
      exact Only.refl _ _
    · refine Only.seq (State.gateWrite_only ..) ?_ (by decide)
      exact Only.refl _ _
  · exact Only.refl _ _

theorem execGateStoreLoad_only (dt_a buf_a s_a) : OnlyR ⟨[.out, .now, .tc, .pinned, .mem, .ev, .flashJournal, .diskJournal], [Obj.eventCount, Obj.eventLastAt, Obj.eventLastSubject], [0x40000004, 0x40000008]⟩ s_a (execGateStoreLoad dt_a buf_a s_a) := by
  unfold execGateStoreLoad
  refine gateCall_only (hk2 := fun u1 => ?_) (l := (by decide)) ..
  refine Only.seq (State.withBuf_only (hk2 := fun u2 => ?_) (l := (by decide)) ..) ?_ (Reach.le_refl _)
  · extract_lets +onlyGivenNames x3
    refine Only.seq (State.gateOk_only ..) ?_ (by decide)
    refine Only.seq (State.putBuf_only ..) ?_ (by decide)
    exact Only.refl _ _
  · exact Only.refl _ _

theorem execGateStoreSave_only (dt_a buf_a s_a) : OnlyR ⟨[.out, .now, .tc, .pinned, .ev, .st, .flashJournal, .gate, .diskJournal], [Obj.eventCount, Obj.eventLastAt, Obj.eventLastSubject], [0x40000004, 0x40000008]⟩ s_a (execGateStoreSave dt_a buf_a s_a) := by
  unfold execGateStoreSave
  refine gateCall_only (hk2 := fun u1 => ?_) (l := (by decide)) ..
  refine Only.seq (State.withBuf_only (hk2 := fun u2 => ?_) (l := (by decide)) ..) ?_ (Reach.le_refl _)
  · extract_lets +onlyGivenNames x3
    refine Only.ite ?_ ?_
    · refine Only.seq (State.gateNo_only ..) ?_ (by decide)
      exact Only.refl _ _
    · split
      rename_i v4 t5 e6
      have ht5 := Only.mono (b := ⟨[.out, .now, .tc, .pinned, .ev, .st, .flashJournal, .gate, .diskJournal], [Obj.eventCount, Obj.eventLastAt, Obj.eventLastSubject], [0x40000004, 0x40000008]⟩) (Only.snd e6 (State.newTicket_only ..)) (by decide)
      refine Only.seq (State.gateOk_only ..) ?_ (by decide)
      refine Only.seq (State.saveSoon_only ..) ?_ (by decide)
      refine Only.seq (Only.upd (r := ⟨[.st], [], []⟩) (s := t5) (fun p => by cases p <;> first | exact .inr rfl | exact .inl (by decide))) ?_ (by decide)
      exact ht5
  · exact Only.refl _ _

theorem execGateTwinPut_only (dt_a buf_a s_a) : OnlyR ⟨[.out, .now, .tc, .pinned, .ev, .tw, .flashJournal, .diskJournal], [Obj.eventCount, Obj.eventLastAt, Obj.eventLastSubject], [0x40000004, 0x40000008]⟩ s_a (execGateTwinPut dt_a buf_a s_a) := by
  unfold execGateTwinPut
  refine gateCall_only (hk2 := fun u1 => ?_) (l := (by decide)) ..
  refine Only.seq (State.withBuf_only (hk2 := fun u2 => ?_) (l := (by decide)) ..) ?_ (Reach.le_refl _)
  · refine Only.ite ?_ ?_
    · refine Only.seq (State.gateNo_only ..) ?_ (by decide)
      exact Only.refl _ _
    · refine Only.seq (State.gateOk_only ..) ?_ (by decide)
      refine Only.seq (Only.upd (r := ⟨[.tw], [], []⟩) (s := u2) (fun p => by cases p <;> first | exact .inr rfl | exact .inl (by decide))) ?_ (by decide)
      exact Only.refl _ _
  · exact Only.refl _ _

theorem execGateTwinGet_only (dt_a buf_a s_a) : OnlyR ⟨[.out, .now, .tc, .pinned, .mem, .ev, .tw, .flashJournal, .diskJournal], [Obj.eventCount, Obj.eventLastAt, Obj.eventLastSubject], [0x40000004, 0x40000008]⟩ s_a (execGateTwinGet dt_a buf_a s_a) := by
  unfold execGateTwinGet
  refine gateCall_only (hk2 := fun u1 => ?_) (l := (by decide)) ..
  refine Only.seq (State.withBuf_only (hk2 := fun u2 => ?_) (l := (by decide)) ..) ?_ (Reach.le_refl _)
  · refine Only.ite ?_ ?_
    · refine Only.seq (State.gateNo_only ..) ?_ (by decide)
      exact Only.refl _ _
    · extract_lets +onlyGivenNames x3
      extract_lets +onlyGivenNames x4
      extract_lets +onlyGivenNames x5
      have hx5 : Only ⟨[.out, .now, .tc, .pinned, .mem, .ev, .tw, .flashJournal, .diskJournal], [Obj.eventCount, Obj.eventLastAt, Obj.eventLastSubject], [0x40000004, 0x40000008]⟩ u2 x5 := by
        subst x5
        refine Only.seq (Only.upd (r := ⟨[.tw], [], []⟩) (s := u2) (fun p => by cases p <;> first | exact .inr rfl | exact .inl (by decide))) ?_ (by decide)
        exact Only.refl _ _
      clear_value x5
      refine Only.seq (State.gateOk_only ..) ?_ (by decide)
      refine Only.seq (State.putBuf_only ..) ?_ (by decide)
      exact hx5
  · exact Only.refl _ _

theorem execGateCrypto_only (dt_a op_a key_a input_a output_a s_a) : OnlyR ⟨[.out, .fresh, .now, .tc, .pinned, .mem, .ev, .flashJournal, .diskJournal], [Obj.eventCount, Obj.eventLastAt, Obj.eventLastSubject], [0x40000004, 0x40000008]⟩ s_a (execGateCrypto dt_a op_a key_a input_a output_a s_a) := by
  unfold execGateCrypto
  refine gateCall_only (hk2 := fun u1 => ?_) (l := (by decide)) ..
  refine Only.seq (State.withBuf_only (hk2 := fun u2 => ?_) (l := (by decide)) ..) ?_ (Reach.le_refl _)
  · refine Only.seq (State.withBuf_only (hk2 := fun u3 => ?_) (l := (by decide)) ..) ?_ (Reach.le_refl _)
    · extract_lets +onlyGivenNames x4
      split
      · refine Only.seq (State.gateOk_only ..) ?_ (by decide)
        refine Only.seq (State.putBuf_only ..) ?_ (by decide)
        exact Only.refl _ _
      · refine Only.seq (State.gateOk_only ..) ?_ (by decide)
        refine Only.seq (State.putBuf_only ..) ?_ (by decide)
        exact Only.refl _ _
      · refine Only.seq (State.gateOk_only ..) ?_ (by decide)
        refine Only.seq (State.putBuf_only ..) ?_ (by decide)
        exact Only.refl _ _
      · extract_lets +onlyGivenNames x5
        refine Only.seq (State.gateOk_only ..) ?_ (by decide)
        refine Only.seq (State.putBuf_only ..) ?_ (by decide)
        exact Only.refl _ _
      · split
        · refine Only.seq (State.gateOk_only ..) ?_ (by decide)
          refine Only.seq (State.putBuf_only ..) ?_ (by decide)
          exact Only.refl _ _
        · refine Only.seq (State.gateNo_only ..) ?_ (by decide)
          exact Only.refl _ _
      · refine Only.seq (State.gateOk_only ..) ?_ (by decide)
        exact Only.refl _ _
      · split
        rename_i v6 t7 e8
        have ht7 := Only.mono (b := ⟨[.out, .fresh, .now, .tc, .pinned, .mem, .ev, .flashJournal, .diskJournal], [Obj.eventCount, Obj.eventLastAt, Obj.eventLastSubject], [0x40000004, 0x40000008]⟩) (Only.snd e8 (State.drawBytes_only ..)) (by decide)
        refine Only.seq (State.gateOk_only ..) ?_ (by decide)
        refine Only.seq (State.putBuf_only ..) ?_ (by decide)
        exact ht7
    · exact Only.refl _ _
  · exact Only.refl _ _

theorem execGateUpdate_only (dt_a session_a op_a buf_a s_a) : OnlyR ⟨List.append [.out, .fresh, .now, .tc, .objs, .pinned, .regs, .mem, .flash, .boot, .ev, .ctlUp, .sessions, .challenges, .lockouts, .roleKeys] (List.append [.salvos, .frameWrites, .restartWrites, .engine, .tw, .st, .update, .rollback, .owners, .flashJournal, .osf, .gate, .ctl, .colLast, .scr, .mon] ([.sdiRx, .sdiTx, .ridge, .cq, .media, .ws, .au, .tarn, .sad, .mor, .diskJournal])), [], []⟩ s_a (execGateUpdate dt_a session_a op_a buf_a s_a) := by
  unfold execGateUpdate
  refine gateCall_only (hk2 := fun u1 => ?_) (l := (by decide)) ..
  refine Only.seq (State.withBuf_only (hk2 := fun u2 => ?_) (l := (by decide)) ..) ?_ (Reach.le_refl _)
  · extract_lets +onlyGivenNames x3
    refine Only.ite ?_ ?_
    · refine Only.ite ?_ ?_
      · refine Only.seq (State.gateOk_only ..) ?_ (by decide)
        refine Only.seq (State.confirm_only ..) ?_ (by decide)
        exact Only.refl _ _
      · exact Only.refl _ _
    · refine Only.ite ?_ ?_
      · refine Only.seq (State.gateOk_only ..) ?_ (by decide)
        refine Only.seq (State.confirm_only ..) ?_ (by decide)
        exact Only.refl _ _
      · refine Only.seq (State.gateWrite_only ..) ?_ (by decide)
        exact Only.refl _ _
  · exact Only.refl _ _

theorem execGateDone_only (dt_a ticket_a s_a) : OnlyR ⟨[.out, .now, .tc, .gate], [], []⟩ s_a (execGateDone dt_a ticket_a s_a) := by
  unfold execGateDone
  refine actIf_only (hk3 := fun u1 => ?_) (l := (by decide)) ..
  split
  · exact Only.refl _ _
  · extract_lets +onlyGivenNames x2
    refine Only.seq (State.emit_only ..) ?_ (by decide)
    refine Only.seq (Only.upd (r := ⟨[.gate], [], []⟩) (s := u1) (fun p => by cases p <;> first | exact .inr rfl | exact .inl (by decide))) ?_ (by decide)
    exact Only.refl _ _

end Sys2Proof.Machine
end

