-- ==== Sys2Proof/Laws/OnlyRows.lean ====
section
/-!
SUPPORT. What the functions of Machine/Rows.lean may change (`Only` of Laws/Only.lean).
-/
namespace Sys2Proof.Machine
set_option Elab.async false

theorem State.writeRow_only (s_a m_a index_a sub_a value_a) : Only ⟨List.append [.out, .fresh, .tc, .objs, .pinned, .regs, .mem, .flash, .boot, .ev, .ctlUp, .sessions, .challenges, .lockouts, .roleKeys, .salvos] (List.append [.frameWrites, .restartWrites, .engine, .tw, .st, .update, .rollback, .owners, .flashJournal, .osf, .gate, .ctl, .colLast, .scr, .mon, .sdiRx] ([.sdiTx, .ridge, .cq, .media, .ws, .au, .tarn, .sad, .mor, .diskJournal])), [], []⟩ s_a (State.writeRow s_a m_a index_a sub_a value_a) := by
  unfold State.writeRow
  refine Only.seq (State.message_only ..) ?_ (by decide)
  exact Only.refl _ _

theorem execDeviceRestartSoft_only (dt_a m_a s_a) : OnlyR ⟨List.append [.out, .fresh, .now, .tc, .objs, .pinned, .regs, .mem, .flash, .boot, .ev, .ctlUp, .sessions, .challenges, .lockouts, .roleKeys] (List.append [.salvos, .frameWrites, .restartWrites, .engine, .tw, .st, .update, .rollback, .owners, .flashJournal, .osf, .gate, .ctl, .colLast, .scr, .mon] ([.sdiRx, .sdiTx, .ridge, .cq, .media, .ws, .au, .tarn, .sad, .mor, .diskJournal])), [], []⟩ s_a (execDeviceRestartSoft dt_a m_a s_a) := by
  unfold execDeviceRestartSoft
  refine act_only (hk2 := fun u1 => ?_) (l := (by decide)) ..
  refine Only.seq (State.writeRow_only ..) ?_ (by decide)
  exact Only.refl _ _

theorem execDeviceRestartHard_only (dt_a m_a s_a) : OnlyR ⟨List.append [.out, .fresh, .now, .tc, .objs, .pinned, .regs, .mem, .flash, .boot, .ev, .ctlUp, .sessions, .challenges, .lockouts, .roleKeys] (List.append [.salvos, .frameWrites, .restartWrites, .engine, .tw, .st, .update, .rollback, .owners, .flashJournal, .osf, .gate, .ctl, .colLast, .scr, .mon] ([.sdiRx, .sdiTx, .ridge, .cq, .media, .ws, .au, .tarn, .sad, .mor, .diskJournal])), [], []⟩ s_a (execDeviceRestartHard dt_a m_a s_a) := by
  unfold execDeviceRestartHard
  refine act_only (hk2 := fun u1 => ?_) (l := (by decide)) ..
  refine Only.seq (State.writeRow_only ..) ?_ (by decide)
  exact Only.refl _ _

theorem execMorJournalRead_only (dt_a m_a s_a) : OnlyR ⟨List.append [.out, .fresh, .now, .tc, .objs, .pinned, .regs, .mem, .flash, .boot, .ev, .ctlUp, .sessions, .challenges, .lockouts, .roleKeys] (List.append [.salvos, .frameWrites, .restartWrites, .engine, .tw, .st, .update, .rollback, .owners, .flashJournal, .osf, .gate, .ctl, .colLast, .scr, .mon] ([.sdiRx, .sdiTx, .ridge, .cq, .media, .ws, .au, .tarn, .sad, .mor, .diskJournal])), [], []⟩ s_a (execMorJournalRead dt_a m_a s_a) := by
  unfold execMorJournalRead
  refine act_only (hk2 := fun u1 => ?_) (l := (by decide)) ..
  refine Only.seq (State.message_only ..) ?_ (by decide)
  exact Only.refl _ _

theorem execMeterClear_only (dt_a m_a index_a sub_a value_a s_a) : OnlyR ⟨List.append [.out, .fresh, .now, .tc, .objs, .pinned, .regs, .mem, .flash, .boot, .ev, .ctlUp, .sessions, .challenges, .lockouts, .roleKeys] (List.append [.salvos, .frameWrites, .restartWrites, .engine, .tw, .st, .update, .rollback, .owners, .flashJournal, .osf, .gate, .ctl, .colLast, .scr, .mon] ([.sdiRx, .sdiTx, .ridge, .cq, .media, .ws, .au, .tarn, .sad, .mor, .diskJournal])), [], []⟩ s_a (execMeterClear dt_a m_a index_a sub_a value_a s_a) := by
  unfold execMeterClear
  refine actIf_only (hk3 := fun u1 => ?_) (l := (by decide)) ..
  refine Only.seq (State.writeRow_only ..) ?_ (by decide)
  exact Only.refl _ _

theorem execCounterClearWrite_only (dt_a m_a index_a sub_a value_a s_a) : OnlyR ⟨List.append [.out, .fresh, .now, .tc, .objs, .pinned, .regs, .mem, .flash, .boot, .ev, .ctlUp, .sessions, .challenges, .lockouts, .roleKeys] (List.append [.salvos, .frameWrites, .restartWrites, .engine, .tw, .st, .update, .rollback, .owners, .flashJournal, .osf, .gate, .ctl, .colLast, .scr, .mon] ([.sdiRx, .sdiTx, .ridge, .cq, .media, .ws, .au, .tarn, .sad, .mor, .diskJournal])), [], []⟩ s_a (execCounterClearWrite dt_a m_a index_a sub_a value_a s_a) := by
  unfold execCounterClearWrite
  refine actIf_only (hk3 := fun u1 => ?_) (l := (by decide)) ..
  refine Only.seq (State.writeRow_only ..) ?_ (by decide)
  exact Only.refl _ _

theorem execMonConfigWrite_only (dt_a m_a index_a sub_a value_a s_a) : OnlyR ⟨List.append [.out, .fresh, .now, .tc, .objs, .pinned, .regs, .mem, .flash, .boot, .ev, .ctlUp, .sessions, .challenges, .lockouts, .roleKeys] (List.append [.salvos, .frameWrites, .restartWrites, .engine, .tw, .st, .update, .rollback, .owners, .flashJournal, .osf, .gate, .ctl, .colLast, .scr, .mon] ([.sdiRx, .sdiTx, .ridge, .cq, .media, .ws, .au, .tarn, .sad, .mor, .diskJournal])), [], []⟩ s_a (execMonConfigWrite dt_a m_a index_a sub_a value_a s_a) := by
  unfold execMonConfigWrite
  refine actIf_only (hk3 := fun u1 => ?_) (l := (by decide)) ..
  refine Only.seq (State.writeRow_only ..) ?_ (by decide)
  exact Only.refl _ _

theorem execLayerGfxOffset_only (dt_a m_a sub_a value_a s_a) : OnlyR ⟨List.append [.out, .fresh, .now, .tc, .objs, .pinned, .regs, .mem, .flash, .boot, .ev, .ctlUp, .sessions, .challenges, .lockouts, .roleKeys] (List.append [.salvos, .frameWrites, .restartWrites, .engine, .tw, .st, .update, .rollback, .owners, .flashJournal, .osf, .gate, .ctl, .colLast, .scr, .mon] ([.sdiRx, .sdiTx, .ridge, .cq, .media, .ws, .au, .tarn, .sad, .mor, .diskJournal])), [], []⟩ s_a (execLayerGfxOffset dt_a m_a sub_a value_a s_a) := by
  unfold execLayerGfxOffset
  refine act_only (hk2 := fun u1 => ?_) (l := (by decide)) ..
  refine Only.seq (State.writeRow_only ..) ?_ (by decide)
  exact Only.refl _ _

theorem execLayerGfxData_only (dt_a m_a sub_a value_a s_a) : OnlyR ⟨List.append [.out, .fresh, .now, .tc, .objs, .pinned, .regs, .mem, .flash, .boot, .ev, .ctlUp, .sessions, .challenges, .lockouts, .roleKeys] (List.append [.salvos, .frameWrites, .restartWrites, .engine, .tw, .st, .update, .rollback, .owners, .flashJournal, .osf, .gate, .ctl, .colLast, .scr, .mon] ([.sdiRx, .sdiTx, .ridge, .cq, .media, .ws, .au, .tarn, .sad, .mor, .diskJournal])), [], []⟩ s_a (execLayerGfxData dt_a m_a sub_a value_a s_a) := by
  unfold execLayerGfxData
  refine act_only (hk2 := fun u1 => ?_) (l := (by decide)) ..
  refine Only.seq (State.writeRow_only ..) ?_ (by decide)
  exact Only.refl _ _

theorem execLayerGfxFlip_only (dt_a m_a sub_a value_a s_a) : OnlyR ⟨List.append [.out, .fresh, .now, .tc, .objs, .pinned, .regs, .mem, .flash, .boot, .ev, .ctlUp, .sessions, .challenges, .lockouts, .roleKeys] (List.append [.salvos, .frameWrites, .restartWrites, .engine, .tw, .st, .update, .rollback, .owners, .flashJournal, .osf, .gate, .ctl, .colLast, .scr, .mon] ([.sdiRx, .sdiTx, .ridge, .cq, .media, .ws, .au, .tarn, .sad, .mor, .diskJournal])), [], []⟩ s_a (execLayerGfxFlip dt_a m_a sub_a value_a s_a) := by
  unfold execLayerGfxFlip
  refine act_only (hk2 := fun u1 => ?_) (l := (by decide)) ..
  refine Only.seq (State.writeRow_only ..) ?_ (by decide)
  exact Only.refl _ _

theorem execColShaperData_only (dt_a m_a sub_a value_a s_a) : OnlyR ⟨List.append [.out, .fresh, .now, .tc, .objs, .pinned, .regs, .mem, .flash, .boot, .ev, .ctlUp, .sessions, .challenges, .lockouts, .roleKeys] (List.append [.salvos, .frameWrites, .restartWrites, .engine, .tw, .st, .update, .rollback, .owners, .flashJournal, .osf, .gate, .ctl, .colLast, .scr, .mon] ([.sdiRx, .sdiTx, .ridge, .cq, .media, .ws, .au, .tarn, .sad, .mor, .diskJournal])), [], []⟩ s_a (execColShaperData dt_a m_a sub_a value_a s_a) := by
  unfold execColShaperData
  refine act_only (hk2 := fun u1 => ?_) (l := (by decide)) ..
  refine Only.seq (State.writeRow_only ..) ?_ (by decide)
  exact Only.refl _ _

theorem execColLutOffset_only (dt_a m_a sub_a value_a s_a) : OnlyR ⟨List.append [.out, .fresh, .now, .tc, .objs, .pinned, .regs, .mem, .flash, .boot, .ev, .ctlUp, .sessions, .challenges, .lockouts, .roleKeys] (List.append [.salvos, .frameWrites, .restartWrites, .engine, .tw, .st, .update, .rollback, .owners, .flashJournal, .osf, .gate, .ctl, .colLast, .scr, .mon] ([.sdiRx, .sdiTx, .ridge, .cq, .media, .ws, .au, .tarn, .sad, .mor, .diskJournal])), [], []⟩ s_a (execColLutOffset dt_a m_a sub_a value_a s_a) := by
  unfold execColLutOffset
  refine act_only (hk2 := fun u1 => ?_) (l := (by decide)) ..
  refine Only.seq (State.writeRow_only ..) ?_ (by decide)
  exact Only.refl _ _

theorem execColLutData_only (dt_a m_a sub_a value_a s_a) : OnlyR ⟨List.append [.out, .fresh, .now, .tc, .objs, .pinned, .regs, .mem, .flash, .boot, .ev, .ctlUp, .sessions, .challenges, .lockouts, .roleKeys] (List.append [.salvos, .frameWrites, .restartWrites, .engine, .tw, .st, .update, .rollback, .owners, .flashJournal, .osf, .gate, .ctl, .colLast, .scr, .mon] ([.sdiRx, .sdiTx, .ridge, .cq, .media, .ws, .au, .tarn, .sad, .mor, .diskJournal])), [], []⟩ s_a (execColLutData dt_a m_a sub_a value_a s_a) := by
  unfold execColLutData
  refine act_only (hk2 := fun u1 => ?_) (l := (by decide)) ..
  refine Only.seq (State.writeRow_only ..) ?_ (by decide)
  exact Only.refl _ _

theorem execColTableFlip_only (dt_a m_a sub_a value_a s_a) : OnlyR ⟨List.append [.out, .fresh, .now, .tc, .objs, .pinned, .regs, .mem, .flash, .boot, .ev, .ctlUp, .sessions, .challenges, .lockouts, .roleKeys] (List.append [.salvos, .frameWrites, .restartWrites, .engine, .tw, .st, .update, .rollback, .owners, .flashJournal, .osf, .gate, .ctl, .colLast, .scr, .mon] ([.sdiRx, .sdiTx, .ridge, .cq, .media, .ws, .au, .tarn, .sad, .mor, .diskJournal])), [], []⟩ s_a (execColTableFlip dt_a m_a sub_a value_a s_a) := by
  unfold execColTableFlip
  refine act_only (hk2 := fun u1 => ?_) (l := (by decide)) ..
  refine Only.seq (State.writeRow_only ..) ?_ (by decide)
  exact Only.refl _ _

theorem execSaddleSlip_only (dt_a m_a sub_a value_a s_a) : OnlyR ⟨List.append [.out, .fresh, .now, .tc, .objs, .pinned, .regs, .mem, .flash, .boot, .ev, .ctlUp, .sessions, .challenges, .lockouts, .roleKeys] (List.append [.salvos, .frameWrites, .restartWrites, .engine, .tw, .st, .update, .rollback, .owners, .flashJournal, .osf, .gate, .ctl, .colLast, .scr, .mon] ([.sdiRx, .sdiTx, .ridge, .cq, .media, .ws, .au, .tarn, .sad, .mor, .diskJournal])), [], []⟩ s_a (execSaddleSlip dt_a m_a sub_a value_a s_a) := by
  unfold execSaddleSlip
  refine act_only (hk2 := fun u1 => ?_) (l := (by decide)) ..
  refine Only.seq (State.writeRow_only ..) ?_ (by decide)
  exact Only.refl _ _

theorem execSaddleTrainRequest_only (dt_a m_a sub_a value_a s_a) : OnlyR ⟨List.append [.out, .fresh, .now, .tc, .objs, .pinned, .regs, .mem, .flash, .boot, .ev, .ctlUp, .sessions, .challenges, .lockouts, .roleKeys] (List.append [.salvos, .frameWrites, .restartWrites, .engine, .tw, .st, .update, .rollback, .owners, .flashJournal, .osf, .gate, .ctl, .colLast, .scr, .mon] ([.sdiRx, .sdiTx, .ridge, .cq, .media, .ws, .au, .tarn, .sad, .mor, .diskJournal])), [], []⟩ s_a (execSaddleTrainRequest dt_a m_a sub_a value_a s_a) := by
  unfold execSaddleTrainRequest
  refine act_only (hk2 := fun u1 => ?_) (l := (by decide)) ..
  refine Only.seq (State.writeRow_only ..) ?_ (by decide)
  exact Only.refl _ _

theorem execClipDelete_only (dt_a m_a sub_a value_a s_a) : OnlyR ⟨List.append [.out, .fresh, .now, .tc, .objs, .pinned, .regs, .mem, .flash, .boot, .ev, .ctlUp, .sessions, .challenges, .lockouts, .roleKeys] (List.append [.salvos, .frameWrites, .restartWrites, .engine, .tw, .st, .update, .rollback, .owners, .flashJournal, .osf, .gate, .ctl, .colLast, .scr, .mon] ([.sdiRx, .sdiTx, .ridge, .cq, .media, .ws, .au, .tarn, .sad, .mor, .diskJournal])), [], []⟩ s_a (execClipDelete dt_a m_a sub_a value_a s_a) := by
  unfold execClipDelete
  refine act_only (hk2 := fun u1 => ?_) (l := (by decide)) ..
  refine Only.seq (State.writeRow_only ..) ?_ (by decide)
  exact Only.refl _ _

theorem execMonClear_only (dt_a m_a sub_a value_a s_a) : OnlyR ⟨List.append [.out, .fresh, .now, .tc, .objs, .pinned, .regs, .mem, .flash, .boot, .ev, .ctlUp, .sessions, .challenges, .lockouts, .roleKeys] (List.append [.salvos, .frameWrites, .restartWrites, .engine, .tw, .st, .update, .rollback, .owners, .flashJournal, .osf, .gate, .ctl, .colLast, .scr, .mon] ([.sdiRx, .sdiTx, .ridge, .cq, .media, .ws, .au, .tarn, .sad, .mor, .diskJournal])), [], []⟩ s_a (execMonClear dt_a m_a sub_a value_a s_a) := by
  unfold execMonClear
  refine act_only (hk2 := fun u1 => ?_) (l := (by decide)) ..
  refine Only.seq (State.writeRow_only ..) ?_ (by decide)
  exact Only.refl _ _

theorem execLatencyClear_only (dt_a m_a sub_a value_a s_a) : OnlyR ⟨List.append [.out, .fresh, .now, .tc, .objs, .pinned, .regs, .mem, .flash, .boot, .ev, .ctlUp, .sessions, .challenges, .lockouts, .roleKeys] (List.append [.salvos, .frameWrites, .restartWrites, .engine, .tw, .st, .update, .rollback, .owners, .flashJournal, .osf, .gate, .ctl, .colLast, .scr, .mon] ([.sdiRx, .sdiTx, .ridge, .cq, .media, .ws, .au, .tarn, .sad, .mor, .diskJournal])), [], []⟩ s_a (execLatencyClear dt_a m_a sub_a value_a s_a) := by
  unfold execLatencyClear
  refine act_only (hk2 := fun u1 => ?_) (l := (by decide)) ..
  refine Only.seq (State.writeRow_only ..) ?_ (by decide)
  exact Only.refl _ _

theorem execRoleKeyChanged_only (dt_a m_a sub_a value_a s_a) : OnlyR ⟨List.append [.out, .fresh, .now, .tc, .objs, .pinned, .regs, .mem, .flash, .boot, .ev, .ctlUp, .sessions, .challenges, .lockouts, .roleKeys] (List.append [.salvos, .frameWrites, .restartWrites, .engine, .tw, .st, .update, .rollback, .owners, .flashJournal, .osf, .gate, .ctl, .colLast, .scr, .mon] ([.sdiRx, .sdiTx, .ridge, .cq, .media, .ws, .au, .tarn, .sad, .mor, .diskJournal])), [], []⟩ s_a (execRoleKeyChanged dt_a m_a sub_a value_a s_a) := by
  unfold execRoleKeyChanged
  refine act_only (hk2 := fun u1 => ?_) (l := (by decide)) ..
  refine Only.seq (State.writeRow_only ..) ?_ (by decide)
  exact Only.refl _ _

theorem execHealthClear_only (dt_a m_a value_a s_a) : OnlyR ⟨List.append [.out, .fresh, .now, .tc, .objs, .pinned, .regs, .mem, .flash, .boot, .ev, .ctlUp, .sessions, .challenges, .lockouts, .roleKeys] (List.append [.salvos, .frameWrites, .restartWrites, .engine, .tw, .st, .update, .rollback, .owners, .flashJournal, .osf, .gate, .ctl, .colLast, .scr, .mon] ([.sdiRx, .sdiTx, .ridge, .cq, .media, .ws, .au, .tarn, .sad, .mor, .diskJournal])), [], []⟩ s_a (execHealthClear dt_a m_a value_a s_a) := by
  unfold execHealthClear
  refine act_only (hk2 := fun u1 => ?_) (l := (by decide)) ..
  refine Only.seq (State.writeRow_only ..) ?_ (by decide)
  exact Only.refl _ _

theorem execWsTimeSet_only (dt_a m_a value_a s_a) : OnlyR ⟨List.append [.out, .fresh, .now, .tc, .objs, .pinned, .regs, .mem, .flash, .boot, .ev, .ctlUp, .sessions, .challenges, .lockouts, .roleKeys] (List.append [.salvos, .frameWrites, .restartWrites, .engine, .tw, .st, .update, .rollback, .owners, .flashJournal, .osf, .gate, .ctl, .colLast, .scr, .mon] ([.sdiRx, .sdiTx, .ridge, .cq, .media, .ws, .au, .tarn, .sad, .mor, .diskJournal])), [], []⟩ s_a (execWsTimeSet dt_a m_a value_a s_a) := by
  unfold execWsTimeSet
  refine act_only (hk2 := fun u1 => ?_) (l := (by decide)) ..
  refine Only.seq (State.writeRow_only ..) ?_ (by decide)
  exact Only.refl _ _

theorem execWsHoldoverReset_only (dt_a m_a value_a s_a) : OnlyR ⟨List.append [.out, .fresh, .now, .tc, .objs, .pinned, .regs, .mem, .flash, .boot, .ev, .ctlUp, .sessions, .challenges, .lockouts, .roleKeys] (List.append [.salvos, .frameWrites, .restartWrites, .engine, .tw, .st, .update, .rollback, .owners, .flashJournal, .osf, .gate, .ctl, .colLast, .scr, .mon] ([.sdiRx, .sdiTx, .ridge, .cq, .media, .ws, .au, .tarn, .sad, .mor, .diskJournal])), [], []⟩ s_a (execWsHoldoverReset dt_a m_a value_a s_a) := by
  unfold execWsHoldoverReset
  refine act_only (hk2 := fun u1 => ?_) (l := (by decide)) ..
  refine Only.seq (State.writeRow_only ..) ?_ (by decide)
  exact Only.refl _ _

theorem execWsHistoryClear_only (dt_a m_a value_a s_a) : OnlyR ⟨List.append [.out, .fresh, .now, .tc, .objs, .pinned, .regs, .mem, .flash, .boot, .ev, .ctlUp, .sessions, .challenges, .lockouts, .roleKeys] (List.append [.salvos, .frameWrites, .restartWrites, .engine, .tw, .st, .update, .rollback, .owners, .flashJournal, .osf, .gate, .ctl, .colLast, .scr, .mon] ([.sdiRx, .sdiTx, .ridge, .cq, .media, .ws, .au, .tarn, .sad, .mor, .diskJournal])), [], []⟩ s_a (execWsHistoryClear dt_a m_a value_a s_a) := by
  unfold execWsHistoryClear
  refine act_only (hk2 := fun u1 => ?_) (l := (by decide)) ..
  refine Only.seq (State.writeRow_only ..) ?_ (by decide)
  exact Only.refl _ _

theorem execSaddleRestart_only (dt_a m_a value_a s_a) : OnlyR ⟨List.append [.out, .fresh, .now, .tc, .objs, .pinned, .regs, .mem, .flash, .boot, .ev, .ctlUp, .sessions, .challenges, .lockouts, .roleKeys] (List.append [.salvos, .frameWrites, .restartWrites, .engine, .tw, .st, .update, .rollback, .owners, .flashJournal, .osf, .gate, .ctl, .colLast, .scr, .mon] ([.sdiRx, .sdiTx, .ridge, .cq, .media, .ws, .au, .tarn, .sad, .mor, .diskJournal])), [], []⟩ s_a (execSaddleRestart dt_a m_a value_a s_a) := by
  unfold execSaddleRestart
  refine act_only (hk2 := fun u1 => ?_) (l := (by decide)) ..
  refine Only.seq (State.writeRow_only ..) ?_ (by decide)
  exact Only.refl _ _

theorem execMorFormat_only (dt_a m_a value_a s_a) : OnlyR ⟨List.append [.out, .fresh, .now, .tc, .objs, .pinned, .regs, .mem, .flash, .boot, .ev, .ctlUp, .sessions, .challenges, .lockouts, .roleKeys] (List.append [.salvos, .frameWrites, .restartWrites, .engine, .tw, .st, .update, .rollback, .owners, .flashJournal, .osf, .gate, .ctl, .colLast, .scr, .mon] ([.sdiRx, .sdiTx, .ridge, .cq, .media, .ws, .au, .tarn, .sad, .mor, .diskJournal])), [], []⟩ s_a (execMorFormat dt_a m_a value_a s_a) := by
  unfold execMorFormat
  refine act_only (hk2 := fun u1 => ?_) (l := (by decide)) ..
  refine Only.seq (State.writeRow_only ..) ?_ (by decide)
  exact Only.refl _ _

theorem execSubscriptionWrite_only (dt_a m_a value_a s_a) : OnlyR ⟨List.append [.out, .fresh, .now, .tc, .objs, .pinned, .regs, .mem, .flash, .boot, .ev, .ctlUp, .sessions, .challenges, .lockouts, .roleKeys] (List.append [.salvos, .frameWrites, .restartWrites, .engine, .tw, .st, .update, .rollback, .owners, .flashJournal, .osf, .gate, .ctl, .colLast, .scr, .mon] ([.sdiRx, .sdiTx, .ridge, .cq, .media, .ws, .au, .tarn, .sad, .mor, .diskJournal])), [], []⟩ s_a (execSubscriptionWrite dt_a m_a value_a s_a) := by
  unfold execSubscriptionWrite
  refine act_only (hk2 := fun u1 => ?_) (l := (by decide)) ..
  refine Only.seq (State.writeRow_only ..) ?_ (by decide)
  exact Only.refl _ _

theorem execPhaseHistogramClear_only (dt_a m_a value_a s_a) : OnlyR ⟨List.append [.out, .fresh, .now, .tc, .objs, .pinned, .regs, .mem, .flash, .boot, .ev, .ctlUp, .sessions, .challenges, .lockouts, .roleKeys] (List.append [.salvos, .frameWrites, .restartWrites, .engine, .tw, .st, .update, .rollback, .owners, .flashJournal, .osf, .gate, .ctl, .colLast, .scr, .mon] ([.sdiRx, .sdiTx, .ridge, .cq, .media, .ws, .au, .tarn, .sad, .mor, .diskJournal])), [], []⟩ s_a (execPhaseHistogramClear dt_a m_a value_a s_a) := by
  unfold execPhaseHistogramClear
  refine act_only (hk2 := fun u1 => ?_) (l := (by decide)) ..
  refine Only.seq (State.writeRow_only ..) ?_ (by decide)
  exact Only.refl _ _

theorem execLockoutClear_only (dt_a m_a value_a s_a) : OnlyR ⟨List.append [.out, .fresh, .now, .tc, .objs, .pinned, .regs, .mem, .flash, .boot, .ev, .ctlUp, .sessions, .challenges, .lockouts, .roleKeys] (List.append [.salvos, .frameWrites, .restartWrites, .engine, .tw, .st, .update, .rollback, .owners, .flashJournal, .osf, .gate, .ctl, .colLast, .scr, .mon] ([.sdiRx, .sdiTx, .ridge, .cq, .media, .ws, .au, .tarn, .sad, .mor, .diskJournal])), [], []⟩ s_a (execLockoutClear dt_a m_a value_a s_a) := by
  unfold execLockoutClear
  refine act_only (hk2 := fun u1 => ?_) (l := (by decide)) ..
  refine Only.seq (State.writeRow_only ..) ?_ (by decide)
  exact Only.refl _ _

theorem execOwnerLockChange_only (dt_a m_a value_a s_a) : OnlyR ⟨List.append [.out, .fresh, .now, .tc, .objs, .pinned, .regs, .mem, .flash, .boot, .ev, .ctlUp, .sessions, .challenges, .lockouts, .roleKeys] (List.append [.salvos, .frameWrites, .restartWrites, .engine, .tw, .st, .update, .rollback, .owners, .flashJournal, .osf, .gate, .ctl, .colLast, .scr, .mon] ([.sdiRx, .sdiTx, .ridge, .cq, .media, .ws, .au, .tarn, .sad, .mor, .diskJournal])), [], []⟩ s_a (execOwnerLockChange dt_a m_a value_a s_a) := by
  unfold execOwnerLockChange
  refine act_only (hk2 := fun u1 => ?_) (l := (by decide)) ..
  refine Only.seq (State.writeRow_only ..) ?_ (by decide)
  exact Only.refl _ _

theorem execOwnerKeyProgram_only (dt_a m_a value_a s_a) : OnlyR ⟨List.append [.out, .fresh, .now, .tc, .objs, .pinned, .regs, .mem, .flash, .boot, .ev, .ctlUp, .sessions, .challenges, .lockouts, .roleKeys] (List.append [.salvos, .frameWrites, .restartWrites, .engine, .tw, .st, .update, .rollback, .owners, .flashJournal, .osf, .gate, .ctl, .colLast, .scr, .mon] ([.sdiRx, .sdiTx, .ridge, .cq, .media, .ws, .au, .tarn, .sad, .mor, .diskJournal])), [], []⟩ s_a (execOwnerKeyProgram dt_a m_a value_a s_a) := by
  unfold execOwnerKeyProgram
  refine act_only (hk2 := fun u1 => ?_) (l := (by decide)) ..
  refine Only.seq (State.writeRow_only ..) ?_ (by decide)
  exact Only.refl _ _

theorem execOwnerKeyRevoke_only (dt_a m_a value_a s_a) : OnlyR ⟨List.append [.out, .fresh, .now, .tc, .objs, .pinned, .regs, .mem, .flash, .boot, .ev, .ctlUp, .sessions, .challenges, .lockouts, .roleKeys] (List.append [.salvos, .frameWrites, .restartWrites, .engine, .tw, .st, .update, .rollback, .owners, .flashJournal, .osf, .gate, .ctl, .colLast, .scr, .mon] ([.sdiRx, .sdiTx, .ridge, .cq, .media, .ws, .au, .tarn, .sad, .mor, .diskJournal])), [], []⟩ s_a (execOwnerKeyRevoke dt_a m_a value_a s_a) := by
  unfold execOwnerKeyRevoke
  refine act_only (hk2 := fun u1 => ?_) (l := (by decide)) ..
  refine Only.seq (State.writeRow_only ..) ?_ (by decide)
  exact Only.refl _ _

theorem execStoreSaveNow_only (dt_a m_a value_a s_a) : OnlyR ⟨List.append [.out, .fresh, .now, .tc, .objs, .pinned, .regs, .mem, .flash, .boot, .ev, .ctlUp, .sessions, .challenges, .lockouts, .roleKeys] (List.append [.salvos, .frameWrites, .restartWrites, .engine, .tw, .st, .update, .rollback, .owners, .flashJournal, .osf, .gate, .ctl, .colLast, .scr, .mon] ([.sdiRx, .sdiTx, .ridge, .cq, .media, .ws, .au, .tarn, .sad, .mor, .diskJournal])), [], []⟩ s_a (execStoreSaveNow dt_a m_a value_a s_a) := by
  unfold execStoreSaveNow
  refine act_only (hk2 := fun u1 => ?_) (l := (by decide)) ..
  refine Only.seq (State.writeRow_only ..) ?_ (by decide)
  exact Only.refl _ _

theorem execUpdateBegin_only (dt_a m_a value_a s_a) : OnlyR ⟨List.append [.out, .fresh, .now, .tc, .objs, .pinned, .regs, .mem, .flash, .boot, .ev, .ctlUp, .sessions, .challenges, .lockouts, .roleKeys] (List.append [.salvos, .frameWrites, .restartWrites, .engine, .tw, .st, .update, .rollback, .owners, .flashJournal, .osf, .gate, .ctl, .colLast, .scr, .mon] ([.sdiRx, .sdiTx, .ridge, .cq, .media, .ws, .au, .tarn, .sad, .mor, .diskJournal])), [], []⟩ s_a (execUpdateBegin dt_a m_a value_a s_a) := by
  unfold execUpdateBegin
  refine act_only (hk2 := fun u1 => ?_) (l := (by decide)) ..
  refine Only.seq (State.writeRow_only ..) ?_ (by decide)
  exact Only.refl _ _

theorem execUpdateData_only (dt_a m_a value_a s_a) : OnlyR ⟨List.append [.out, .fresh, .now, .tc, .objs, .pinned, .regs, .mem, .flash, .boot, .ev, .ctlUp, .sessions, .challenges, .lockouts, .roleKeys] (List.append [.salvos, .frameWrites, .restartWrites, .engine, .tw, .st, .update, .rollback, .owners, .flashJournal, .osf, .gate, .ctl, .colLast, .scr, .mon] ([.sdiRx, .sdiTx, .ridge, .cq, .media, .ws, .au, .tarn, .sad, .mor, .diskJournal])), [], []⟩ s_a (execUpdateData dt_a m_a value_a s_a) := by
  unfold execUpdateData
  refine act_only (hk2 := fun u1 => ?_) (l := (by decide)) ..
  refine Only.seq (State.writeRow_only ..) ?_ (by decide)
  exact Only.refl _ _

theorem execUpdateCommit_only (dt_a m_a value_a s_a) : OnlyR ⟨List.append [.out, .fresh, .now, .tc, .objs, .pinned, .regs, .mem, .flash, .boot, .ev, .ctlUp, .sessions, .challenges, .lockouts, .roleKeys] (List.append [.salvos, .frameWrites, .restartWrites, .engine, .tw, .st, .update, .rollback, .owners, .flashJournal, .osf, .gate, .ctl, .colLast, .scr, .mon] ([.sdiRx, .sdiTx, .ridge, .cq, .media, .ws, .au, .tarn, .sad, .mor, .diskJournal])), [], []⟩ s_a (execUpdateCommit dt_a m_a value_a s_a) := by
  unfold execUpdateCommit
  refine act_only (hk2 := fun u1 => ?_) (l := (by decide)) ..
  refine Only.seq (State.writeRow_only ..) ?_ (by decide)
  exact Only.refl _ _

theorem execUpdateActivate_only (dt_a m_a value_a s_a) : OnlyR ⟨List.append [.out, .fresh, .now, .tc, .objs, .pinned, .regs, .mem, .flash, .boot, .ev, .ctlUp, .sessions, .challenges, .lockouts, .roleKeys] (List.append [.salvos, .frameWrites, .restartWrites, .engine, .tw, .st, .update, .rollback, .owners, .flashJournal, .osf, .gate, .ctl, .colLast, .scr, .mon] ([.sdiRx, .sdiTx, .ridge, .cq, .media, .ws, .au, .tarn, .sad, .mor, .diskJournal])), [], []⟩ s_a (execUpdateActivate dt_a m_a value_a s_a) := by
  unfold execUpdateActivate
  refine act_only (hk2 := fun u1 => ?_) (l := (by decide)) ..
  refine Only.seq (State.writeRow_only ..) ?_ (by decide)
  exact Only.refl _ _

theorem execUpdateAbort_only (dt_a m_a value_a s_a) : OnlyR ⟨List.append [.out, .fresh, .now, .tc, .objs, .pinned, .regs, .mem, .flash, .boot, .ev, .ctlUp, .sessions, .challenges, .lockouts, .roleKeys] (List.append [.salvos, .frameWrites, .restartWrites, .engine, .tw, .st, .update, .rollback, .owners, .flashJournal, .osf, .gate, .ctl, .colLast, .scr, .mon] ([.sdiRx, .sdiTx, .ridge, .cq, .media, .ws, .au, .tarn, .sad, .mor, .diskJournal])), [], []⟩ s_a (execUpdateAbort dt_a m_a value_a s_a) := by
  unfold execUpdateAbort
  refine act_only (hk2 := fun u1 => ?_) (l := (by decide)) ..
  refine Only.seq (State.writeRow_only ..) ?_ (by decide)
  exact Only.refl _ _

theorem execHealthConfirm_only (dt_a m_a value_a s_a) : OnlyR ⟨List.append [.out, .fresh, .now, .tc, .objs, .pinned, .regs, .mem, .flash, .boot, .ev, .ctlUp, .sessions, .challenges, .lockouts, .roleKeys] (List.append [.salvos, .frameWrites, .restartWrites, .engine, .tw, .st, .update, .rollback, .owners, .flashJournal, .osf, .gate, .ctl, .colLast, .scr, .mon] ([.sdiRx, .sdiTx, .ridge, .cq, .media, .ws, .au, .tarn, .sad, .mor, .diskJournal])), [], []⟩ s_a (execHealthConfirm dt_a m_a value_a s_a) := by
  unfold execHealthConfirm
  refine act_only (hk2 := fun u1 => ?_) (l := (by decide)) ..
  refine Only.seq (State.writeRow_only ..) ?_ (by decide)
  exact Only.refl _ _

end Sys2Proof.Machine
end

