-- ==== Sys2Proof/Laws/State.lean ====
section
/-!
SUPPORT. The state read after an update: one lemma for each field that an update leaves, and a reading after a writing for
objects, registers, memory and tables.
-/
set_option Elab.async false
namespace Sys2Proof.Machine

/-! ## Fields that an update leaves -/

@[simp] theorem State.setVal_pending (s : State) (i k : Nat) (v : Val) : (s.setVal i k v).pending = s.pending := rfl
@[simp] theorem State.setVal_out (s : State) (i k : Nat) (v : Val) : (s.setVal i k v).out = s.out := rfl
@[simp] theorem State.setVal_fresh (s : State) (i k : Nat) (v : Val) : (s.setVal i k v).fresh = s.fresh := rfl
@[simp] theorem State.setVal_now (s : State) (i k : Nat) (v : Val) : (s.setVal i k v).now = s.now := rfl
@[simp] theorem State.setVal_tc (s : State) (i k : Nat) (v : Val) : (s.setVal i k v).tc = s.tc := rfl
@[simp] theorem State.setVal_tcRest (s : State) (i k : Nat) (v : Val) : (s.setVal i k v).tcRest = s.tcRest := rfl
@[simp] theorem State.setVal_pinned (s : State) (i k : Nat) (v : Val) : (s.setVal i k v).pinned = s.pinned := rfl
@[simp] theorem State.setVal_regs (s : State) (i k : Nat) (v : Val) : (s.setVal i k v).regs = s.regs := rfl
@[simp] theorem State.setVal_mem (s : State) (i k : Nat) (v : Val) : (s.setVal i k v).mem = s.mem := rfl
@[simp] theorem State.setVal_flash (s : State) (i k : Nat) (v : Val) : (s.setVal i k v).flash = s.flash := rfl
@[simp] theorem State.setVal_boot (s : State) (i k : Nat) (v : Val) : (s.setVal i k v).boot = s.boot := rfl
@[simp] theorem State.setVal_ev (s : State) (i k : Nat) (v : Val) : (s.setVal i k v).ev = s.ev := rfl
@[simp] theorem State.setVal_il (s : State) (i k : Nat) (v : Val) : (s.setVal i k v).il = s.il := rfl
@[simp] theorem State.setVal_ce (s : State) (i k : Nat) (v : Val) : (s.setVal i k v).ce = s.ce := rfl
@[simp] theorem State.setVal_tw (s : State) (i k : Nat) (v : Val) : (s.setVal i k v).tw = s.tw := rfl
@[simp] theorem State.setVal_st (s : State) (i k : Nat) (v : Val) : (s.setVal i k v).st = s.st := rfl
@[simp] theorem State.setVal_up (s : State) (i k : Nat) (v : Val) : (s.setVal i k v).up = s.up := rfl
@[simp] theorem State.setVal_osf (s : State) (i k : Nat) (v : Val) : (s.setVal i k v).osf = s.osf := rfl
@[simp] theorem State.setVal_gate (s : State) (i k : Nat) (v : Val) : (s.setVal i k v).gate = s.gate := rfl
@[simp] theorem State.setVal_ctl (s : State) (i k : Nat) (v : Val) : (s.setVal i k v).ctl = s.ctl := rfl
@[simp] theorem State.setVal_colLast (s : State) (i k : Nat) (v : Val) : (s.setVal i k v).colLast = s.colLast := rfl
@[simp] theorem State.setVal_scr (s : State) (i k : Nat) (v : Val) : (s.setVal i k v).scr = s.scr := rfl
@[simp] theorem State.setVal_mon (s : State) (i k : Nat) (v : Val) : (s.setVal i k v).mon = s.mon := rfl
@[simp] theorem State.setVal_sdiRx (s : State) (i k : Nat) (v : Val) : (s.setVal i k v).sdiRx = s.sdiRx := rfl
@[simp] theorem State.setVal_sdiTx (s : State) (i k : Nat) (v : Val) : (s.setVal i k v).sdiTx = s.sdiTx := rfl
@[simp] theorem State.setVal_ridge (s : State) (i k : Nat) (v : Val) : (s.setVal i k v).ridge = s.ridge := rfl
@[simp] theorem State.setVal_cq (s : State) (i k : Nat) (v : Val) : (s.setVal i k v).cq = s.cq := rfl
@[simp] theorem State.setVal_media (s : State) (i k : Nat) (v : Val) : (s.setVal i k v).media = s.media := rfl
@[simp] theorem State.setVal_ws (s : State) (i k : Nat) (v : Val) : (s.setVal i k v).ws = s.ws := rfl
@[simp] theorem State.setVal_au (s : State) (i k : Nat) (v : Val) : (s.setVal i k v).au = s.au := rfl
@[simp] theorem State.setVal_tarn (s : State) (i k : Nat) (v : Val) : (s.setVal i k v).tarn = s.tarn := rfl
@[simp] theorem State.setVal_sad (s : State) (i k : Nat) (v : Val) : (s.setVal i k v).sad = s.sad := rfl
@[simp] theorem State.setVal_mor (s : State) (i k : Nat) (v : Val) : (s.setVal i k v).mor = s.mor := rfl

@[simp] theorem State.setN_pending (s : State) (i k v : Nat) : (s.setN i k v).pending = s.pending := rfl
@[simp] theorem State.setN_out (s : State) (i k v : Nat) : (s.setN i k v).out = s.out := rfl
@[simp] theorem State.setN_fresh (s : State) (i k v : Nat) : (s.setN i k v).fresh = s.fresh := rfl
@[simp] theorem State.setN_now (s : State) (i k v : Nat) : (s.setN i k v).now = s.now := rfl
@[simp] theorem State.setN_tc (s : State) (i k v : Nat) : (s.setN i k v).tc = s.tc := rfl
@[simp] theorem State.setN_tcRest (s : State) (i k v : Nat) : (s.setN i k v).tcRest = s.tcRest := rfl
@[simp] theorem State.setN_pinned (s : State) (i k v : Nat) : (s.setN i k v).pinned = s.pinned := rfl
@[simp] theorem State.setN_regs (s : State) (i k v : Nat) : (s.setN i k v).regs = s.regs := rfl
@[simp] theorem State.setN_mem (s : State) (i k v : Nat) : (s.setN i k v).mem = s.mem := rfl
@[simp] theorem State.setN_flash (s : State) (i k v : Nat) : (s.setN i k v).flash = s.flash := rfl
@[simp] theorem State.setN_boot (s : State) (i k v : Nat) : (s.setN i k v).boot = s.boot := rfl
@[simp] theorem State.setN_ev (s : State) (i k v : Nat) : (s.setN i k v).ev = s.ev := rfl
@[simp] theorem State.setN_il (s : State) (i k v : Nat) : (s.setN i k v).il = s.il := rfl
@[simp] theorem State.setN_ce (s : State) (i k v : Nat) : (s.setN i k v).ce = s.ce := rfl
@[simp] theorem State.setN_tw (s : State) (i k v : Nat) : (s.setN i k v).tw = s.tw := rfl
@[simp] theorem State.setN_st (s : State) (i k v : Nat) : (s.setN i k v).st = s.st := rfl
@[simp] theorem State.setN_up (s : State) (i k v : Nat) : (s.setN i k v).up = s.up := rfl
@[simp] theorem State.setN_osf (s : State) (i k v : Nat) : (s.setN i k v).osf = s.osf := rfl
@[simp] theorem State.setN_gate (s : State) (i k v : Nat) : (s.setN i k v).gate = s.gate := rfl
@[simp] theorem State.setN_ctl (s : State) (i k v : Nat) : (s.setN i k v).ctl = s.ctl := rfl
@[simp] theorem State.setN_colLast (s : State) (i k v : Nat) : (s.setN i k v).colLast = s.colLast := rfl
@[simp] theorem State.setN_scr (s : State) (i k v : Nat) : (s.setN i k v).scr = s.scr := rfl
@[simp] theorem State.setN_mon (s : State) (i k v : Nat) : (s.setN i k v).mon = s.mon := rfl
@[simp] theorem State.setN_sdiRx (s : State) (i k v : Nat) : (s.setN i k v).sdiRx = s.sdiRx := rfl
@[simp] theorem State.setN_sdiTx (s : State) (i k v : Nat) : (s.setN i k v).sdiTx = s.sdiTx := rfl
@[simp] theorem State.setN_ridge (s : State) (i k v : Nat) : (s.setN i k v).ridge = s.ridge := rfl
@[simp] theorem State.setN_cq (s : State) (i k v : Nat) : (s.setN i k v).cq = s.cq := rfl
@[simp] theorem State.setN_media (s : State) (i k v : Nat) : (s.setN i k v).media = s.media := rfl
@[simp] theorem State.setN_ws (s : State) (i k v : Nat) : (s.setN i k v).ws = s.ws := rfl
@[simp] theorem State.setN_au (s : State) (i k v : Nat) : (s.setN i k v).au = s.au := rfl
@[simp] theorem State.setN_tarn (s : State) (i k v : Nat) : (s.setN i k v).tarn = s.tarn := rfl
@[simp] theorem State.setN_sad (s : State) (i k v : Nat) : (s.setN i k v).sad = s.sad := rfl
@[simp] theorem State.setN_mor (s : State) (i k v : Nat) : (s.setN i k v).mor = s.mor := rfl

@[simp] theorem State.setI_pending (s : State) (i k : Nat) (v : Int) : (s.setI i k v).pending = s.pending := rfl
@[simp] theorem State.setI_out (s : State) (i k : Nat) (v : Int) : (s.setI i k v).out = s.out := rfl
@[simp] theorem State.setI_fresh (s : State) (i k : Nat) (v : Int) : (s.setI i k v).fresh = s.fresh := rfl
@[simp] theorem State.setI_now (s : State) (i k : Nat) (v : Int) : (s.setI i k v).now = s.now := rfl
@[simp] theorem State.setI_tc (s : State) (i k : Nat) (v : Int) : (s.setI i k v).tc = s.tc := rfl
@[simp] theorem State.setI_tcRest (s : State) (i k : Nat) (v : Int) : (s.setI i k v).tcRest = s.tcRest := rfl
@[simp] theorem State.setI_pinned (s : State) (i k : Nat) (v : Int) : (s.setI i k v).pinned = s.pinned := rfl
@[simp] theorem State.setI_regs (s : State) (i k : Nat) (v : Int) : (s.setI i k v).regs = s.regs := rfl
@[simp] theorem State.setI_mem (s : State) (i k : Nat) (v : Int) : (s.setI i k v).mem = s.mem := rfl
@[simp] theorem State.setI_flash (s : State) (i k : Nat) (v : Int) : (s.setI i k v).flash = s.flash := rfl
@[simp] theorem State.setI_boot (s : State) (i k : Nat) (v : Int) : (s.setI i k v).boot = s.boot := rfl
@[simp] theorem State.setI_ev (s : State) (i k : Nat) (v : Int) : (s.setI i k v).ev = s.ev := rfl
@[simp] theorem State.setI_il (s : State) (i k : Nat) (v : Int) : (s.setI i k v).il = s.il := rfl
@[simp] theorem State.setI_ce (s : State) (i k : Nat) (v : Int) : (s.setI i k v).ce = s.ce := rfl
@[simp] theorem State.setI_tw (s : State) (i k : Nat) (v : Int) : (s.setI i k v).tw = s.tw := rfl
@[simp] theorem State.setI_st (s : State) (i k : Nat) (v : Int) : (s.setI i k v).st = s.st := rfl
@[simp] theorem State.setI_up (s : State) (i k : Nat) (v : Int) : (s.setI i k v).up = s.up := rfl
@[simp] theorem State.setI_osf (s : State) (i k : Nat) (v : Int) : (s.setI i k v).osf = s.osf := rfl
@[simp] theorem State.setI_gate (s : State) (i k : Nat) (v : Int) : (s.setI i k v).gate = s.gate := rfl
@[simp] theorem State.setI_ctl (s : State) (i k : Nat) (v : Int) : (s.setI i k v).ctl = s.ctl := rfl
@[simp] theorem State.setI_colLast (s : State) (i k : Nat) (v : Int) : (s.setI i k v).colLast = s.colLast := rfl
@[simp] theorem State.setI_scr (s : State) (i k : Nat) (v : Int) : (s.setI i k v).scr = s.scr := rfl
@[simp] theorem State.setI_mon (s : State) (i k : Nat) (v : Int) : (s.setI i k v).mon = s.mon := rfl
@[simp] theorem State.setI_sdiRx (s : State) (i k : Nat) (v : Int) : (s.setI i k v).sdiRx = s.sdiRx := rfl
@[simp] theorem State.setI_sdiTx (s : State) (i k : Nat) (v : Int) : (s.setI i k v).sdiTx = s.sdiTx := rfl
@[simp] theorem State.setI_ridge (s : State) (i k : Nat) (v : Int) : (s.setI i k v).ridge = s.ridge := rfl
@[simp] theorem State.setI_cq (s : State) (i k : Nat) (v : Int) : (s.setI i k v).cq = s.cq := rfl
@[simp] theorem State.setI_media (s : State) (i k : Nat) (v : Int) : (s.setI i k v).media = s.media := rfl
@[simp] theorem State.setI_ws (s : State) (i k : Nat) (v : Int) : (s.setI i k v).ws = s.ws := rfl
@[simp] theorem State.setI_au (s : State) (i k : Nat) (v : Int) : (s.setI i k v).au = s.au := rfl
@[simp] theorem State.setI_tarn (s : State) (i k : Nat) (v : Int) : (s.setI i k v).tarn = s.tarn := rfl
@[simp] theorem State.setI_sad (s : State) (i k : Nat) (v : Int) : (s.setI i k v).sad = s.sad := rfl
@[simp] theorem State.setI_mor (s : State) (i k : Nat) (v : Int) : (s.setI i k v).mor = s.mor := rfl

@[simp] theorem State.setB_pending (s : State) (i k : Nat) (v : Bool) : (s.setB i k v).pending = s.pending := rfl
@[simp] theorem State.setB_out (s : State) (i k : Nat) (v : Bool) : (s.setB i k v).out = s.out := rfl
@[simp] theorem State.setB_fresh (s : State) (i k : Nat) (v : Bool) : (s.setB i k v).fresh = s.fresh := rfl
@[simp] theorem State.setB_now (s : State) (i k : Nat) (v : Bool) : (s.setB i k v).now = s.now := rfl
@[simp] theorem State.setB_tc (s : State) (i k : Nat) (v : Bool) : (s.setB i k v).tc = s.tc := rfl
@[simp] theorem State.setB_tcRest (s : State) (i k : Nat) (v : Bool) : (s.setB i k v).tcRest = s.tcRest := rfl
@[simp] theorem State.setB_pinned (s : State) (i k : Nat) (v : Bool) : (s.setB i k v).pinned = s.pinned := rfl
@[simp] theorem State.setB_regs (s : State) (i k : Nat) (v : Bool) : (s.setB i k v).regs = s.regs := rfl
@[simp] theorem State.setB_mem (s : State) (i k : Nat) (v : Bool) : (s.setB i k v).mem = s.mem := rfl
@[simp] theorem State.setB_flash (s : State) (i k : Nat) (v : Bool) : (s.setB i k v).flash = s.flash := rfl
@[simp] theorem State.setB_boot (s : State) (i k : Nat) (v : Bool) : (s.setB i k v).boot = s.boot := rfl
@[simp] theorem State.setB_ev (s : State) (i k : Nat) (v : Bool) : (s.setB i k v).ev = s.ev := rfl
@[simp] theorem State.setB_il (s : State) (i k : Nat) (v : Bool) : (s.setB i k v).il = s.il := rfl
@[simp] theorem State.setB_ce (s : State) (i k : Nat) (v : Bool) : (s.setB i k v).ce = s.ce := rfl
@[simp] theorem State.setB_tw (s : State) (i k : Nat) (v : Bool) : (s.setB i k v).tw = s.tw := rfl
@[simp] theorem State.setB_st (s : State) (i k : Nat) (v : Bool) : (s.setB i k v).st = s.st := rfl
@[simp] theorem State.setB_up (s : State) (i k : Nat) (v : Bool) : (s.setB i k v).up = s.up := rfl
@[simp] theorem State.setB_osf (s : State) (i k : Nat) (v : Bool) : (s.setB i k v).osf = s.osf := rfl
@[simp] theorem State.setB_gate (s : State) (i k : Nat) (v : Bool) : (s.setB i k v).gate = s.gate := rfl
@[simp] theorem State.setB_ctl (s : State) (i k : Nat) (v : Bool) : (s.setB i k v).ctl = s.ctl := rfl
@[simp] theorem State.setB_colLast (s : State) (i k : Nat) (v : Bool) : (s.setB i k v).colLast = s.colLast := rfl
@[simp] theorem State.setB_scr (s : State) (i k : Nat) (v : Bool) : (s.setB i k v).scr = s.scr := rfl
@[simp] theorem State.setB_mon (s : State) (i k : Nat) (v : Bool) : (s.setB i k v).mon = s.mon := rfl
@[simp] theorem State.setB_sdiRx (s : State) (i k : Nat) (v : Bool) : (s.setB i k v).sdiRx = s.sdiRx := rfl
@[simp] theorem State.setB_sdiTx (s : State) (i k : Nat) (v : Bool) : (s.setB i k v).sdiTx = s.sdiTx := rfl
@[simp] theorem State.setB_ridge (s : State) (i k : Nat) (v : Bool) : (s.setB i k v).ridge = s.ridge := rfl
@[simp] theorem State.setB_cq (s : State) (i k : Nat) (v : Bool) : (s.setB i k v).cq = s.cq := rfl
@[simp] theorem State.setB_media (s : State) (i k : Nat) (v : Bool) : (s.setB i k v).media = s.media := rfl
@[simp] theorem State.setB_ws (s : State) (i k : Nat) (v : Bool) : (s.setB i k v).ws = s.ws := rfl
@[simp] theorem State.setB_au (s : State) (i k : Nat) (v : Bool) : (s.setB i k v).au = s.au := rfl
@[simp] theorem State.setB_tarn (s : State) (i k : Nat) (v : Bool) : (s.setB i k v).tarn = s.tarn := rfl
@[simp] theorem State.setB_sad (s : State) (i k : Nat) (v : Bool) : (s.setB i k v).sad = s.sad := rfl
@[simp] theorem State.setB_mor (s : State) (i k : Nat) (v : Bool) : (s.setB i k v).mor = s.mor := rfl

@[simp] theorem State.setBy_pending (s : State) (i k : Nat) (v : List Byte) : (s.setBy i k v).pending = s.pending := rfl
@[simp] theorem State.setBy_out (s : State) (i k : Nat) (v : List Byte) : (s.setBy i k v).out = s.out := rfl
@[simp] theorem State.setBy_fresh (s : State) (i k : Nat) (v : List Byte) : (s.setBy i k v).fresh = s.fresh := rfl
@[simp] theorem State.setBy_now (s : State) (i k : Nat) (v : List Byte) : (s.setBy i k v).now = s.now := rfl
@[simp] theorem State.setBy_tc (s : State) (i k : Nat) (v : List Byte) : (s.setBy i k v).tc = s.tc := rfl
@[simp] theorem State.setBy_tcRest (s : State) (i k : Nat) (v : List Byte) : (s.setBy i k v).tcRest = s.tcRest := rfl
@[simp] theorem State.setBy_pinned (s : State) (i k : Nat) (v : List Byte) : (s.setBy i k v).pinned = s.pinned := rfl
@[simp] theorem State.setBy_regs (s : State) (i k : Nat) (v : List Byte) : (s.setBy i k v).regs = s.regs := rfl
@[simp] theorem State.setBy_mem (s : State) (i k : Nat) (v : List Byte) : (s.setBy i k v).mem = s.mem := rfl
@[simp] theorem State.setBy_flash (s : State) (i k : Nat) (v : List Byte) : (s.setBy i k v).flash = s.flash := rfl
@[simp] theorem State.setBy_boot (s : State) (i k : Nat) (v : List Byte) : (s.setBy i k v).boot = s.boot := rfl
@[simp] theorem State.setBy_ev (s : State) (i k : Nat) (v : List Byte) : (s.setBy i k v).ev = s.ev := rfl
@[simp] theorem State.setBy_il (s : State) (i k : Nat) (v : List Byte) : (s.setBy i k v).il = s.il := rfl
@[simp] theorem State.setBy_ce (s : State) (i k : Nat) (v : List Byte) : (s.setBy i k v).ce = s.ce := rfl
@[simp] theorem State.setBy_tw (s : State) (i k : Nat) (v : List Byte) : (s.setBy i k v).tw = s.tw := rfl
@[simp] theorem State.setBy_st (s : State) (i k : Nat) (v : List Byte) : (s.setBy i k v).st = s.st := rfl
@[simp] theorem State.setBy_up (s : State) (i k : Nat) (v : List Byte) : (s.setBy i k v).up = s.up := rfl
@[simp] theorem State.setBy_osf (s : State) (i k : Nat) (v : List Byte) : (s.setBy i k v).osf = s.osf := rfl
@[simp] theorem State.setBy_gate (s : State) (i k : Nat) (v : List Byte) : (s.setBy i k v).gate = s.gate := rfl
@[simp] theorem State.setBy_ctl (s : State) (i k : Nat) (v : List Byte) : (s.setBy i k v).ctl = s.ctl := rfl
@[simp] theorem State.setBy_colLast (s : State) (i k : Nat) (v : List Byte) : (s.setBy i k v).colLast = s.colLast := rfl
@[simp] theorem State.setBy_scr (s : State) (i k : Nat) (v : List Byte) : (s.setBy i k v).scr = s.scr := rfl
@[simp] theorem State.setBy_mon (s : State) (i k : Nat) (v : List Byte) : (s.setBy i k v).mon = s.mon := rfl
@[simp] theorem State.setBy_sdiRx (s : State) (i k : Nat) (v : List Byte) : (s.setBy i k v).sdiRx = s.sdiRx := rfl
@[simp] theorem State.setBy_sdiTx (s : State) (i k : Nat) (v : List Byte) : (s.setBy i k v).sdiTx = s.sdiTx := rfl
@[simp] theorem State.setBy_ridge (s : State) (i k : Nat) (v : List Byte) : (s.setBy i k v).ridge = s.ridge := rfl
@[simp] theorem State.setBy_cq (s : State) (i k : Nat) (v : List Byte) : (s.setBy i k v).cq = s.cq := rfl
@[simp] theorem State.setBy_media (s : State) (i k : Nat) (v : List Byte) : (s.setBy i k v).media = s.media := rfl
@[simp] theorem State.setBy_ws (s : State) (i k : Nat) (v : List Byte) : (s.setBy i k v).ws = s.ws := rfl
@[simp] theorem State.setBy_au (s : State) (i k : Nat) (v : List Byte) : (s.setBy i k v).au = s.au := rfl
@[simp] theorem State.setBy_tarn (s : State) (i k : Nat) (v : List Byte) : (s.setBy i k v).tarn = s.tarn := rfl
@[simp] theorem State.setBy_sad (s : State) (i k : Nat) (v : List Byte) : (s.setBy i k v).sad = s.sad := rfl
@[simp] theorem State.setBy_mor (s : State) (i k : Nat) (v : List Byte) : (s.setBy i k v).mor = s.mor := rfl

@[simp] theorem State.setBitN_pending (s : State) (i k b : Nat) (v : Bool) : (s.setBitN i k b v).pending = s.pending := rfl
@[simp] theorem State.setBitN_out (s : State) (i k b : Nat) (v : Bool) : (s.setBitN i k b v).out = s.out := rfl
@[simp] theorem State.setBitN_fresh (s : State) (i k b : Nat) (v : Bool) : (s.setBitN i k b v).fresh = s.fresh := rfl
@[simp] theorem State.setBitN_now (s : State) (i k b : Nat) (v : Bool) : (s.setBitN i k b v).now = s.now := rfl
@[simp] theorem State.setBitN_tc (s : State) (i k b : Nat) (v : Bool) : (s.setBitN i k b v).tc = s.tc := rfl
@[simp] theorem State.setBitN_tcRest (s : State) (i k b : Nat) (v : Bool) : (s.setBitN i k b v).tcRest = s.tcRest := rfl
@[simp] theorem State.setBitN_pinned (s : State) (i k b : Nat) (v : Bool) : (s.setBitN i k b v).pinned = s.pinned := rfl
@[simp] theorem State.setBitN_regs (s : State) (i k b : Nat) (v : Bool) : (s.setBitN i k b v).regs = s.regs := rfl
@[simp] theorem State.setBitN_mem (s : State) (i k b : Nat) (v : Bool) : (s.setBitN i k b v).mem = s.mem := rfl
@[simp] theorem State.setBitN_flash (s : State) (i k b : Nat) (v : Bool) : (s.setBitN i k b v).flash = s.flash := rfl
@[simp] theorem State.setBitN_boot (s : State) (i k b : Nat) (v : Bool) : (s.setBitN i k b v).boot = s.boot := rfl
@[simp] theorem State.setBitN_ev (s : State) (i k b : Nat) (v : Bool) : (s.setBitN i k b v).ev = s.ev := rfl
@[simp] theorem State.setBitN_il (s : State) (i k b : Nat) (v : Bool) : (s.setBitN i k b v).il = s.il := rfl
@[simp] theorem State.setBitN_ce (s : State) (i k b : Nat) (v : Bool) : (s.setBitN i k b v).ce = s.ce := rfl
@[simp] theorem State.setBitN_tw (s : State) (i k b : Nat) (v : Bool) : (s.setBitN i k b v).tw = s.tw := rfl
@[simp] theorem State.setBitN_st (s : State) (i k b : Nat) (v : Bool) : (s.setBitN i k b v).st = s.st := rfl
@[simp] theorem State.setBitN_up (s : State) (i k b : Nat) (v : Bool) : (s.setBitN i k b v).up = s.up := rfl
@[simp] theorem State.setBitN_osf (s : State) (i k b : Nat) (v : Bool) : (s.setBitN i k b v).osf = s.osf := rfl
@[simp] theorem State.setBitN_gate (s : State) (i k b : Nat) (v : Bool) : (s.setBitN i k b v).gate = s.gate := rfl
@[simp] theorem State.setBitN_ctl (s : State) (i k b : Nat) (v : Bool) : (s.setBitN i k b v).ctl = s.ctl := rfl
@[simp] theorem State.setBitN_colLast (s : State) (i k b : Nat) (v : Bool) : (s.setBitN i k b v).colLast = s.colLast := rfl
@[simp] theorem State.setBitN_scr (s : State) (i k b : Nat) (v : Bool) : (s.setBitN i k b v).scr = s.scr := rfl
@[simp] theorem State.setBitN_mon (s : State) (i k b : Nat) (v : Bool) : (s.setBitN i k b v).mon = s.mon := rfl
@[simp] theorem State.setBitN_sdiRx (s : State) (i k b : Nat) (v : Bool) : (s.setBitN i k b v).sdiRx = s.sdiRx := rfl
@[simp] theorem State.setBitN_sdiTx (s : State) (i k b : Nat) (v : Bool) : (s.setBitN i k b v).sdiTx = s.sdiTx := rfl
@[simp] theorem State.setBitN_ridge (s : State) (i k b : Nat) (v : Bool) : (s.setBitN i k b v).ridge = s.ridge := rfl
@[simp] theorem State.setBitN_cq (s : State) (i k b : Nat) (v : Bool) : (s.setBitN i k b v).cq = s.cq := rfl
@[simp] theorem State.setBitN_media (s : State) (i k b : Nat) (v : Bool) : (s.setBitN i k b v).media = s.media := rfl
@[simp] theorem State.setBitN_ws (s : State) (i k b : Nat) (v : Bool) : (s.setBitN i k b v).ws = s.ws := rfl
@[simp] theorem State.setBitN_au (s : State) (i k b : Nat) (v : Bool) : (s.setBitN i k b v).au = s.au := rfl
@[simp] theorem State.setBitN_tarn (s : State) (i k b : Nat) (v : Bool) : (s.setBitN i k b v).tarn = s.tarn := rfl
@[simp] theorem State.setBitN_sad (s : State) (i k b : Nat) (v : Bool) : (s.setBitN i k b v).sad = s.sad := rfl
@[simp] theorem State.setBitN_mor (s : State) (i k b : Nat) (v : Bool) : (s.setBitN i k b v).mor = s.mor := rfl

@[simp] theorem State.toDefault_pending (s : State) (i k : Nat) : (s.toDefault i k).pending = s.pending := rfl
@[simp] theorem State.toDefault_out (s : State) (i k : Nat) : (s.toDefault i k).out = s.out := rfl
@[simp] theorem State.toDefault_fresh (s : State) (i k : Nat) : (s.toDefault i k).fresh = s.fresh := rfl
@[simp] theorem State.toDefault_now (s : State) (i k : Nat) : (s.toDefault i k).now = s.now := rfl
@[simp] theorem State.toDefault_tc (s : State) (i k : Nat) : (s.toDefault i k).tc = s.tc := rfl
@[simp] theorem State.toDefault_tcRest (s : State) (i k : Nat) : (s.toDefault i k).tcRest = s.tcRest := rfl
@[simp] theorem State.toDefault_pinned (s : State) (i k : Nat) : (s.toDefault i k).pinned = s.pinned := rfl
@[simp] theorem State.toDefault_regs (s : State) (i k : Nat) : (s.toDefault i k).regs = s.regs := rfl
@[simp] theorem State.toDefault_mem (s : State) (i k : Nat) : (s.toDefault i k).mem = s.mem := rfl
@[simp] theorem State.toDefault_flash (s : State) (i k : Nat) : (s.toDefault i k).flash = s.flash := rfl
@[simp] theorem State.toDefault_boot (s : State) (i k : Nat) : (s.toDefault i k).boot = s.boot := rfl
@[simp] theorem State.toDefault_ev (s : State) (i k : Nat) : (s.toDefault i k).ev = s.ev := rfl
@[simp] theorem State.toDefault_il (s : State) (i k : Nat) : (s.toDefault i k).il = s.il := rfl
@[simp] theorem State.toDefault_ce (s : State) (i k : Nat) : (s.toDefault i k).ce = s.ce := rfl
@[simp] theorem State.toDefault_tw (s : State) (i k : Nat) : (s.toDefault i k).tw = s.tw := rfl
@[simp] theorem State.toDefault_st (s : State) (i k : Nat) : (s.toDefault i k).st = s.st := rfl
@[simp] theorem State.toDefault_up (s : State) (i k : Nat) : (s.toDefault i k).up = s.up := rfl
@[simp] theorem State.toDefault_osf (s : State) (i k : Nat) : (s.toDefault i k).osf = s.osf := rfl
@[simp] theorem State.toDefault_gate (s : State) (i k : Nat) : (s.toDefault i k).gate = s.gate := rfl
@[simp] theorem State.toDefault_ctl (s : State) (i k : Nat) : (s.toDefault i k).ctl = s.ctl := rfl
@[simp] theorem State.toDefault_colLast (s : State) (i k : Nat) : (s.toDefault i k).colLast = s.colLast := rfl
@[simp] theorem State.toDefault_scr (s : State) (i k : Nat) : (s.toDefault i k).scr = s.scr := rfl
@[simp] theorem State.toDefault_mon (s : State) (i k : Nat) : (s.toDefault i k).mon = s.mon := rfl
@[simp] theorem State.toDefault_sdiRx (s : State) (i k : Nat) : (s.toDefault i k).sdiRx = s.sdiRx := rfl
@[simp] theorem State.toDefault_sdiTx (s : State) (i k : Nat) : (s.toDefault i k).sdiTx = s.sdiTx := rfl
@[simp] theorem State.toDefault_ridge (s : State) (i k : Nat) : (s.toDefault i k).ridge = s.ridge := rfl
@[simp] theorem State.toDefault_cq (s : State) (i k : Nat) : (s.toDefault i k).cq = s.cq := rfl
@[simp] theorem State.toDefault_media (s : State) (i k : Nat) : (s.toDefault i k).media = s.media := rfl
@[simp] theorem State.toDefault_ws (s : State) (i k : Nat) : (s.toDefault i k).ws = s.ws := rfl
@[simp] theorem State.toDefault_au (s : State) (i k : Nat) : (s.toDefault i k).au = s.au := rfl
@[simp] theorem State.toDefault_tarn (s : State) (i k : Nat) : (s.toDefault i k).tarn = s.tarn := rfl
@[simp] theorem State.toDefault_sad (s : State) (i k : Nat) : (s.toDefault i k).sad = s.sad := rfl
@[simp] theorem State.toDefault_mor (s : State) (i k : Nat) : (s.toDefault i k).mor = s.mor := rfl

@[simp] theorem State.setReg_pending (s : State) (a : Nat) (v : Word) : (s.setReg a v).pending = s.pending := rfl
@[simp] theorem State.setReg_out (s : State) (a : Nat) (v : Word) : (s.setReg a v).out = s.out := rfl
@[simp] theorem State.setReg_fresh (s : State) (a : Nat) (v : Word) : (s.setReg a v).fresh = s.fresh := rfl
@[simp] theorem State.setReg_now (s : State) (a : Nat) (v : Word) : (s.setReg a v).now = s.now := rfl
@[simp] theorem State.setReg_tc (s : State) (a : Nat) (v : Word) : (s.setReg a v).tc = s.tc := rfl
@[simp] theorem State.setReg_tcRest (s : State) (a : Nat) (v : Word) : (s.setReg a v).tcRest = s.tcRest := rfl
@[simp] theorem State.setReg_objs (s : State) (a : Nat) (v : Word) : (s.setReg a v).objs = s.objs := rfl
@[simp] theorem State.setReg_pinned (s : State) (a : Nat) (v : Word) : (s.setReg a v).pinned = s.pinned := rfl
@[simp] theorem State.setReg_mem (s : State) (a : Nat) (v : Word) : (s.setReg a v).mem = s.mem := rfl
@[simp] theorem State.setReg_flash (s : State) (a : Nat) (v : Word) : (s.setReg a v).flash = s.flash := rfl
@[simp] theorem State.setReg_boot (s : State) (a : Nat) (v : Word) : (s.setReg a v).boot = s.boot := rfl
@[simp] theorem State.setReg_ev (s : State) (a : Nat) (v : Word) : (s.setReg a v).ev = s.ev := rfl
@[simp] theorem State.setReg_il (s : State) (a : Nat) (v : Word) : (s.setReg a v).il = s.il := rfl
@[simp] theorem State.setReg_ce (s : State) (a : Nat) (v : Word) : (s.setReg a v).ce = s.ce := rfl
@[simp] theorem State.setReg_tw (s : State) (a : Nat) (v : Word) : (s.setReg a v).tw = s.tw := rfl
@[simp] theorem State.setReg_st (s : State) (a : Nat) (v : Word) : (s.setReg a v).st = s.st := rfl
@[simp] theorem State.setReg_up (s : State) (a : Nat) (v : Word) : (s.setReg a v).up = s.up := rfl
@[simp] theorem State.setReg_osf (s : State) (a : Nat) (v : Word) : (s.setReg a v).osf = s.osf := rfl
@[simp] theorem State.setReg_gate (s : State) (a : Nat) (v : Word) : (s.setReg a v).gate = s.gate := rfl
@[simp] theorem State.setReg_ctl (s : State) (a : Nat) (v : Word) : (s.setReg a v).ctl = s.ctl := rfl
@[simp] theorem State.setReg_colLast (s : State) (a : Nat) (v : Word) : (s.setReg a v).colLast = s.colLast := rfl
@[simp] theorem State.setReg_scr (s : State) (a : Nat) (v : Word) : (s.setReg a v).scr = s.scr := rfl
@[simp] theorem State.setReg_mon (s : State) (a : Nat) (v : Word) : (s.setReg a v).mon = s.mon := rfl
@[simp] theorem State.setReg_sdiRx (s : State) (a : Nat) (v : Word) : (s.setReg a v).sdiRx = s.sdiRx := rfl
@[simp] theorem State.setReg_sdiTx (s : State) (a : Nat) (v : Word) : (s.setReg a v).sdiTx = s.sdiTx := rfl
@[simp] theorem State.setReg_ridge (s : State) (a : Nat) (v : Word) : (s.setReg a v).ridge = s.ridge := rfl
@[simp] theorem State.setReg_cq (s : State) (a : Nat) (v : Word) : (s.setReg a v).cq = s.cq := rfl
@[simp] theorem State.setReg_media (s : State) (a : Nat) (v : Word) : (s.setReg a v).media = s.media := rfl
@[simp] theorem State.setReg_ws (s : State) (a : Nat) (v : Word) : (s.setReg a v).ws = s.ws := rfl
@[simp] theorem State.setReg_au (s : State) (a : Nat) (v : Word) : (s.setReg a v).au = s.au := rfl
@[simp] theorem State.setReg_tarn (s : State) (a : Nat) (v : Word) : (s.setReg a v).tarn = s.tarn := rfl
@[simp] theorem State.setReg_sad (s : State) (a : Nat) (v : Word) : (s.setReg a v).sad = s.sad := rfl
@[simp] theorem State.setReg_mor (s : State) (a : Nat) (v : Word) : (s.setReg a v).mor = s.mor := rfl

@[simp] theorem State.setRegN_pending (s : State) (a v : Nat) : (s.setRegN a v).pending = s.pending := rfl
@[simp] theorem State.setRegN_out (s : State) (a v : Nat) : (s.setRegN a v).out = s.out := rfl
@[simp] theorem State.setRegN_fresh (s : State) (a v : Nat) : (s.setRegN a v).fresh = s.fresh := rfl
@[simp] theorem State.setRegN_now (s : State) (a v : Nat) : (s.setRegN a v).now = s.now := rfl
@[simp] theorem State.setRegN_tc (s : State) (a v : Nat) : (s.setRegN a v).tc = s.tc := rfl
@[simp] theorem State.setRegN_tcRest (s : State) (a v : Nat) : (s.setRegN a v).tcRest = s.tcRest := rfl
@[simp] theorem State.setRegN_objs (s : State) (a v : Nat) : (s.setRegN a v).objs = s.objs := rfl
@[simp] theorem State.setRegN_pinned (s : State) (a v : Nat) : (s.setRegN a v).pinned = s.pinned := rfl
@[simp] theorem State.setRegN_mem (s : State) (a v : Nat) : (s.setRegN a v).mem = s.mem := rfl
@[simp] theorem State.setRegN_flash (s : State) (a v : Nat) : (s.setRegN a v).flash = s.flash := rfl
@[simp] theorem State.setRegN_boot (s : State) (a v : Nat) : (s.setRegN a v).boot = s.boot := rfl
@[simp] theorem State.setRegN_ev (s : State) (a v : Nat) : (s.setRegN a v).ev = s.ev := rfl
@[simp] theorem State.setRegN_il (s : State) (a v : Nat) : (s.setRegN a v).il = s.il := rfl
@[simp] theorem State.setRegN_ce (s : State) (a v : Nat) : (s.setRegN a v).ce = s.ce := rfl
@[simp] theorem State.setRegN_tw (s : State) (a v : Nat) : (s.setRegN a v).tw = s.tw := rfl
@[simp] theorem State.setRegN_st (s : State) (a v : Nat) : (s.setRegN a v).st = s.st := rfl
@[simp] theorem State.setRegN_up (s : State) (a v : Nat) : (s.setRegN a v).up = s.up := rfl
@[simp] theorem State.setRegN_osf (s : State) (a v : Nat) : (s.setRegN a v).osf = s.osf := rfl
@[simp] theorem State.setRegN_gate (s : State) (a v : Nat) : (s.setRegN a v).gate = s.gate := rfl
@[simp] theorem State.setRegN_ctl (s : State) (a v : Nat) : (s.setRegN a v).ctl = s.ctl := rfl
@[simp] theorem State.setRegN_colLast (s : State) (a v : Nat) : (s.setRegN a v).colLast = s.colLast := rfl
@[simp] theorem State.setRegN_scr (s : State) (a v : Nat) : (s.setRegN a v).scr = s.scr := rfl
@[simp] theorem State.setRegN_mon (s : State) (a v : Nat) : (s.setRegN a v).mon = s.mon := rfl
@[simp] theorem State.setRegN_sdiRx (s : State) (a v : Nat) : (s.setRegN a v).sdiRx = s.sdiRx := rfl
@[simp] theorem State.setRegN_sdiTx (s : State) (a v : Nat) : (s.setRegN a v).sdiTx = s.sdiTx := rfl
@[simp] theorem State.setRegN_ridge (s : State) (a v : Nat) : (s.setRegN a v).ridge = s.ridge := rfl
@[simp] theorem State.setRegN_cq (s : State) (a v : Nat) : (s.setRegN a v).cq = s.cq := rfl
@[simp] theorem State.setRegN_media (s : State) (a v : Nat) : (s.setRegN a v).media = s.media := rfl
@[simp] theorem State.setRegN_ws (s : State) (a v : Nat) : (s.setRegN a v).ws = s.ws := rfl
@[simp] theorem State.setRegN_au (s : State) (a v : Nat) : (s.setRegN a v).au = s.au := rfl
@[simp] theorem State.setRegN_tarn (s : State) (a v : Nat) : (s.setRegN a v).tarn = s.tarn := rfl
@[simp] theorem State.setRegN_sad (s : State) (a v : Nat) : (s.setRegN a v).sad = s.sad := rfl
@[simp] theorem State.setRegN_mor (s : State) (a v : Nat) : (s.setRegN a v).mor = s.mor := rfl

@[simp] theorem State.setRegBit_pending (s : State) (a k : Nat) (v : Bool) : (s.setRegBit a k v).pending = s.pending := rfl
@[simp] theorem State.setRegBit_out (s : State) (a k : Nat) (v : Bool) : (s.setRegBit a k v).out = s.out := rfl
@[simp] theorem State.setRegBit_fresh (s : State) (a k : Nat) (v : Bool) : (s.setRegBit a k v).fresh = s.fresh := rfl
@[simp] theorem State.setRegBit_now (s : State) (a k : Nat) (v : Bool) : (s.setRegBit a k v).now = s.now := rfl
@[simp] theorem State.setRegBit_tc (s : State) (a k : Nat) (v : Bool) : (s.setRegBit a k v).tc = s.tc := rfl
@[simp] theorem State.setRegBit_tcRest (s : State) (a k : Nat) (v : Bool) : (s.setRegBit a k v).tcRest = s.tcRest := rfl
@[simp] theorem State.setRegBit_objs (s : State) (a k : Nat) (v : Bool) : (s.setRegBit a k v).objs = s.objs := rfl
@[simp] theorem State.setRegBit_pinned (s : State) (a k : Nat) (v : Bool) : (s.setRegBit a k v).pinned = s.pinned := rfl
@[simp] theorem State.setRegBit_mem (s : State) (a k : Nat) (v : Bool) : (s.setRegBit a k v).mem = s.mem := rfl
@[simp] theorem State.setRegBit_flash (s : State) (a k : Nat) (v : Bool) : (s.setRegBit a k v).flash = s.flash := rfl
@[simp] theorem State.setRegBit_boot (s : State) (a k : Nat) (v : Bool) : (s.setRegBit a k v).boot = s.boot := rfl
@[simp] theorem State.setRegBit_ev (s : State) (a k : Nat) (v : Bool) : (s.setRegBit a k v).ev = s.ev := rfl
@[simp] theorem State.setRegBit_il (s : State) (a k : Nat) (v : Bool) : (s.setRegBit a k v).il = s.il := rfl
@[simp] theorem State.setRegBit_ce (s : State) (a k : Nat) (v : Bool) : (s.setRegBit a k v).ce = s.ce := rfl
@[simp] theorem State.setRegBit_tw (s : State) (a k : Nat) (v : Bool) : (s.setRegBit a k v).tw = s.tw := rfl
@[simp] theorem State.setRegBit_st (s : State) (a k : Nat) (v : Bool) : (s.setRegBit a k v).st = s.st := rfl
@[simp] theorem State.setRegBit_up (s : State) (a k : Nat) (v : Bool) : (s.setRegBit a k v).up = s.up := rfl
@[simp] theorem State.setRegBit_osf (s : State) (a k : Nat) (v : Bool) : (s.setRegBit a k v).osf = s.osf := rfl
@[simp] theorem State.setRegBit_gate (s : State) (a k : Nat) (v : Bool) : (s.setRegBit a k v).gate = s.gate := rfl
@[simp] theorem State.setRegBit_ctl (s : State) (a k : Nat) (v : Bool) : (s.setRegBit a k v).ctl = s.ctl := rfl
@[simp] theorem State.setRegBit_colLast (s : State) (a k : Nat) (v : Bool) : (s.setRegBit a k v).colLast = s.colLast := rfl
@[simp] theorem State.setRegBit_scr (s : State) (a k : Nat) (v : Bool) : (s.setRegBit a k v).scr = s.scr := rfl
@[simp] theorem State.setRegBit_mon (s : State) (a k : Nat) (v : Bool) : (s.setRegBit a k v).mon = s.mon := rfl
@[simp] theorem State.setRegBit_sdiRx (s : State) (a k : Nat) (v : Bool) : (s.setRegBit a k v).sdiRx = s.sdiRx := rfl
@[simp] theorem State.setRegBit_sdiTx (s : State) (a k : Nat) (v : Bool) : (s.setRegBit a k v).sdiTx = s.sdiTx := rfl
@[simp] theorem State.setRegBit_ridge (s : State) (a k : Nat) (v : Bool) : (s.setRegBit a k v).ridge = s.ridge := rfl
@[simp] theorem State.setRegBit_cq (s : State) (a k : Nat) (v : Bool) : (s.setRegBit a k v).cq = s.cq := rfl
@[simp] theorem State.setRegBit_media (s : State) (a k : Nat) (v : Bool) : (s.setRegBit a k v).media = s.media := rfl
@[simp] theorem State.setRegBit_ws (s : State) (a k : Nat) (v : Bool) : (s.setRegBit a k v).ws = s.ws := rfl
@[simp] theorem State.setRegBit_au (s : State) (a k : Nat) (v : Bool) : (s.setRegBit a k v).au = s.au := rfl
@[simp] theorem State.setRegBit_tarn (s : State) (a k : Nat) (v : Bool) : (s.setRegBit a k v).tarn = s.tarn := rfl
@[simp] theorem State.setRegBit_sad (s : State) (a k : Nat) (v : Bool) : (s.setRegBit a k v).sad = s.sad := rfl
@[simp] theorem State.setRegBit_mor (s : State) (a k : Nat) (v : Bool) : (s.setRegBit a k v).mor = s.mor := rfl

@[simp] theorem State.setRegField_pending (s : State) (a l h v : Nat) : (s.setRegField a l h v).pending = s.pending := rfl
@[simp] theorem State.setRegField_out (s : State) (a l h v : Nat) : (s.setRegField a l h v).out = s.out := rfl
@[simp] theorem State.setRegField_fresh (s : State) (a l h v : Nat) : (s.setRegField a l h v).fresh = s.fresh := rfl
@[simp] theorem State.setRegField_now (s : State) (a l h v : Nat) : (s.setRegField a l h v).now = s.now := rfl
@[simp] theorem State.setRegField_tc (s : State) (a l h v : Nat) : (s.setRegField a l h v).tc = s.tc := rfl
@[simp] theorem State.setRegField_tcRest (s : State) (a l h v : Nat) : (s.setRegField a l h v).tcRest = s.tcRest := rfl
@[simp] theorem State.setRegField_objs (s : State) (a l h v : Nat) : (s.setRegField a l h v).objs = s.objs := rfl
@[simp] theorem State.setRegField_pinned (s : State) (a l h v : Nat) : (s.setRegField a l h v).pinned = s.pinned := rfl
@[simp] theorem State.setRegField_mem (s : State) (a l h v : Nat) : (s.setRegField a l h v).mem = s.mem := rfl
@[simp] theorem State.setRegField_flash (s : State) (a l h v : Nat) : (s.setRegField a l h v).flash = s.flash := rfl
@[simp] theorem State.setRegField_boot (s : State) (a l h v : Nat) : (s.setRegField a l h v).boot = s.boot := rfl
@[simp] theorem State.setRegField_ev (s : State) (a l h v : Nat) : (s.setRegField a l h v).ev = s.ev := rfl
@[simp] theorem State.setRegField_il (s : State) (a l h v : Nat) : (s.setRegField a l h v).il = s.il := rfl
@[simp] theorem State.setRegField_ce (s : State) (a l h v : Nat) : (s.setRegField a l h v).ce = s.ce := rfl
@[simp] theorem State.setRegField_tw (s : State) (a l h v : Nat) : (s.setRegField a l h v).tw = s.tw := rfl
@[simp] theorem State.setRegField_st (s : State) (a l h v : Nat) : (s.setRegField a l h v).st = s.st := rfl
@[simp] theorem State.setRegField_up (s : State) (a l h v : Nat) : (s.setRegField a l h v).up = s.up := rfl
@[simp] theorem State.setRegField_osf (s : State) (a l h v : Nat) : (s.setRegField a l h v).osf = s.osf := rfl
@[simp] theorem State.setRegField_gate (s : State) (a l h v : Nat) : (s.setRegField a l h v).gate = s.gate := rfl
@[simp] theorem State.setRegField_ctl (s : State) (a l h v : Nat) : (s.setRegField a l h v).ctl = s.ctl := rfl
@[simp] theorem State.setRegField_colLast (s : State) (a l h v : Nat) : (s.setRegField a l h v).colLast = s.colLast := rfl
@[simp] theorem State.setRegField_scr (s : State) (a l h v : Nat) : (s.setRegField a l h v).scr = s.scr := rfl
@[simp] theorem State.setRegField_mon (s : State) (a l h v : Nat) : (s.setRegField a l h v).mon = s.mon := rfl
@[simp] theorem State.setRegField_sdiRx (s : State) (a l h v : Nat) : (s.setRegField a l h v).sdiRx = s.sdiRx := rfl
@[simp] theorem State.setRegField_sdiTx (s : State) (a l h v : Nat) : (s.setRegField a l h v).sdiTx = s.sdiTx := rfl
@[simp] theorem State.setRegField_ridge (s : State) (a l h v : Nat) : (s.setRegField a l h v).ridge = s.ridge := rfl
@[simp] theorem State.setRegField_cq (s : State) (a l h v : Nat) : (s.setRegField a l h v).cq = s.cq := rfl
@[simp] theorem State.setRegField_media (s : State) (a l h v : Nat) : (s.setRegField a l h v).media = s.media := rfl
@[simp] theorem State.setRegField_ws (s : State) (a l h v : Nat) : (s.setRegField a l h v).ws = s.ws := rfl
@[simp] theorem State.setRegField_au (s : State) (a l h v : Nat) : (s.setRegField a l h v).au = s.au := rfl
@[simp] theorem State.setRegField_tarn (s : State) (a l h v : Nat) : (s.setRegField a l h v).tarn = s.tarn := rfl
@[simp] theorem State.setRegField_sad (s : State) (a l h v : Nat) : (s.setRegField a l h v).sad = s.sad := rfl
@[simp] theorem State.setRegField_mor (s : State) (a l h v : Nat) : (s.setRegField a l h v).mor = s.mor := rfl

@[simp] theorem State.setMemByte_pending (s : State) (a : Nat) (b : Byte) : (s.setMemByte a b).pending = s.pending := rfl
@[simp] theorem State.setMemByte_out (s : State) (a : Nat) (b : Byte) : (s.setMemByte a b).out = s.out := rfl
@[simp] theorem State.setMemByte_fresh (s : State) (a : Nat) (b : Byte) : (s.setMemByte a b).fresh = s.fresh := rfl
@[simp] theorem State.setMemByte_now (s : State) (a : Nat) (b : Byte) : (s.setMemByte a b).now = s.now := rfl
@[simp] theorem State.setMemByte_tc (s : State) (a : Nat) (b : Byte) : (s.setMemByte a b).tc = s.tc := rfl
@[simp] theorem State.setMemByte_tcRest (s : State) (a : Nat) (b : Byte) : (s.setMemByte a b).tcRest = s.tcRest := rfl
@[simp] theorem State.setMemByte_objs (s : State) (a : Nat) (b : Byte) : (s.setMemByte a b).objs = s.objs := rfl
@[simp] theorem State.setMemByte_pinned (s : State) (a : Nat) (b : Byte) : (s.setMemByte a b).pinned = s.pinned := rfl
@[simp] theorem State.setMemByte_regs (s : State) (a : Nat) (b : Byte) : (s.setMemByte a b).regs = s.regs := rfl
@[simp] theorem State.setMemByte_flash (s : State) (a : Nat) (b : Byte) : (s.setMemByte a b).flash = s.flash := rfl
@[simp] theorem State.setMemByte_boot (s : State) (a : Nat) (b : Byte) : (s.setMemByte a b).boot = s.boot := rfl
@[simp] theorem State.setMemByte_ev (s : State) (a : Nat) (b : Byte) : (s.setMemByte a b).ev = s.ev := rfl
@[simp] theorem State.setMemByte_il (s : State) (a : Nat) (b : Byte) : (s.setMemByte a b).il = s.il := rfl
@[simp] theorem State.setMemByte_ce (s : State) (a : Nat) (b : Byte) : (s.setMemByte a b).ce = s.ce := rfl
@[simp] theorem State.setMemByte_tw (s : State) (a : Nat) (b : Byte) : (s.setMemByte a b).tw = s.tw := rfl
@[simp] theorem State.setMemByte_st (s : State) (a : Nat) (b : Byte) : (s.setMemByte a b).st = s.st := rfl
@[simp] theorem State.setMemByte_up (s : State) (a : Nat) (b : Byte) : (s.setMemByte a b).up = s.up := rfl
@[simp] theorem State.setMemByte_osf (s : State) (a : Nat) (b : Byte) : (s.setMemByte a b).osf = s.osf := rfl
@[simp] theorem State.setMemByte_gate (s : State) (a : Nat) (b : Byte) : (s.setMemByte a b).gate = s.gate := rfl
@[simp] theorem State.setMemByte_ctl (s : State) (a : Nat) (b : Byte) : (s.setMemByte a b).ctl = s.ctl := rfl
@[simp] theorem State.setMemByte_colLast (s : State) (a : Nat) (b : Byte) : (s.setMemByte a b).colLast = s.colLast := rfl
@[simp] theorem State.setMemByte_scr (s : State) (a : Nat) (b : Byte) : (s.setMemByte a b).scr = s.scr := rfl
@[simp] theorem State.setMemByte_mon (s : State) (a : Nat) (b : Byte) : (s.setMemByte a b).mon = s.mon := rfl
@[simp] theorem State.setMemByte_sdiRx (s : State) (a : Nat) (b : Byte) : (s.setMemByte a b).sdiRx = s.sdiRx := rfl
@[simp] theorem State.setMemByte_sdiTx (s : State) (a : Nat) (b : Byte) : (s.setMemByte a b).sdiTx = s.sdiTx := rfl
@[simp] theorem State.setMemByte_ridge (s : State) (a : Nat) (b : Byte) : (s.setMemByte a b).ridge = s.ridge := rfl
@[simp] theorem State.setMemByte_cq (s : State) (a : Nat) (b : Byte) : (s.setMemByte a b).cq = s.cq := rfl
@[simp] theorem State.setMemByte_media (s : State) (a : Nat) (b : Byte) : (s.setMemByte a b).media = s.media := rfl
@[simp] theorem State.setMemByte_ws (s : State) (a : Nat) (b : Byte) : (s.setMemByte a b).ws = s.ws := rfl
@[simp] theorem State.setMemByte_au (s : State) (a : Nat) (b : Byte) : (s.setMemByte a b).au = s.au := rfl
@[simp] theorem State.setMemByte_tarn (s : State) (a : Nat) (b : Byte) : (s.setMemByte a b).tarn = s.tarn := rfl
@[simp] theorem State.setMemByte_sad (s : State) (a : Nat) (b : Byte) : (s.setMemByte a b).sad = s.sad := rfl
@[simp] theorem State.setMemByte_mor (s : State) (a : Nat) (b : Byte) : (s.setMemByte a b).mor = s.mor := rfl

@[simp] theorem State.setFlashByte_pending (s : State) (a : Nat) (b : Byte) : (s.setFlashByte a b).pending = s.pending := rfl
@[simp] theorem State.setFlashByte_out (s : State) (a : Nat) (b : Byte) : (s.setFlashByte a b).out = s.out := rfl
@[simp] theorem State.setFlashByte_fresh (s : State) (a : Nat) (b : Byte) : (s.setFlashByte a b).fresh = s.fresh := rfl
@[simp] theorem State.setFlashByte_now (s : State) (a : Nat) (b : Byte) : (s.setFlashByte a b).now = s.now := rfl
@[simp] theorem State.setFlashByte_tc (s : State) (a : Nat) (b : Byte) : (s.setFlashByte a b).tc = s.tc := rfl
@[simp] theorem State.setFlashByte_tcRest (s : State) (a : Nat) (b : Byte) : (s.setFlashByte a b).tcRest = s.tcRest := rfl
@[simp] theorem State.setFlashByte_objs (s : State) (a : Nat) (b : Byte) : (s.setFlashByte a b).objs = s.objs := rfl
@[simp] theorem State.setFlashByte_pinned (s : State) (a : Nat) (b : Byte) : (s.setFlashByte a b).pinned = s.pinned := rfl
@[simp] theorem State.setFlashByte_regs (s : State) (a : Nat) (b : Byte) : (s.setFlashByte a b).regs = s.regs := rfl
@[simp] theorem State.setFlashByte_mem (s : State) (a : Nat) (b : Byte) : (s.setFlashByte a b).mem = s.mem := rfl
@[simp] theorem State.setFlashByte_boot (s : State) (a : Nat) (b : Byte) : (s.setFlashByte a b).boot = s.boot := rfl
@[simp] theorem State.setFlashByte_ev (s : State) (a : Nat) (b : Byte) : (s.setFlashByte a b).ev = s.ev := rfl
@[simp] theorem State.setFlashByte_il (s : State) (a : Nat) (b : Byte) : (s.setFlashByte a b).il = s.il := rfl
@[simp] theorem State.setFlashByte_ce (s : State) (a : Nat) (b : Byte) : (s.setFlashByte a b).ce = s.ce := rfl
@[simp] theorem State.setFlashByte_tw (s : State) (a : Nat) (b : Byte) : (s.setFlashByte a b).tw = s.tw := rfl
@[simp] theorem State.setFlashByte_st (s : State) (a : Nat) (b : Byte) : (s.setFlashByte a b).st = s.st := rfl
@[simp] theorem State.setFlashByte_up (s : State) (a : Nat) (b : Byte) : (s.setFlashByte a b).up = s.up := rfl
@[simp] theorem State.setFlashByte_osf (s : State) (a : Nat) (b : Byte) : (s.setFlashByte a b).osf = s.osf := rfl
@[simp] theorem State.setFlashByte_gate (s : State) (a : Nat) (b : Byte) : (s.setFlashByte a b).gate = s.gate := rfl
@[simp] theorem State.setFlashByte_ctl (s : State) (a : Nat) (b : Byte) : (s.setFlashByte a b).ctl = s.ctl := rfl
@[simp] theorem State.setFlashByte_colLast (s : State) (a : Nat) (b : Byte) : (s.setFlashByte a b).colLast = s.colLast := rfl
@[simp] theorem State.setFlashByte_scr (s : State) (a : Nat) (b : Byte) : (s.setFlashByte a b).scr = s.scr := rfl
@[simp] theorem State.setFlashByte_mon (s : State) (a : Nat) (b : Byte) : (s.setFlashByte a b).mon = s.mon := rfl
@[simp] theorem State.setFlashByte_sdiRx (s : State) (a : Nat) (b : Byte) : (s.setFlashByte a b).sdiRx = s.sdiRx := rfl
@[simp] theorem State.setFlashByte_sdiTx (s : State) (a : Nat) (b : Byte) : (s.setFlashByte a b).sdiTx = s.sdiTx := rfl
@[simp] theorem State.setFlashByte_ridge (s : State) (a : Nat) (b : Byte) : (s.setFlashByte a b).ridge = s.ridge := rfl
@[simp] theorem State.setFlashByte_cq (s : State) (a : Nat) (b : Byte) : (s.setFlashByte a b).cq = s.cq := rfl
@[simp] theorem State.setFlashByte_media (s : State) (a : Nat) (b : Byte) : (s.setFlashByte a b).media = s.media := rfl
@[simp] theorem State.setFlashByte_ws (s : State) (a : Nat) (b : Byte) : (s.setFlashByte a b).ws = s.ws := rfl
@[simp] theorem State.setFlashByte_au (s : State) (a : Nat) (b : Byte) : (s.setFlashByte a b).au = s.au := rfl
@[simp] theorem State.setFlashByte_tarn (s : State) (a : Nat) (b : Byte) : (s.setFlashByte a b).tarn = s.tarn := rfl
@[simp] theorem State.setFlashByte_sad (s : State) (a : Nat) (b : Byte) : (s.setFlashByte a b).sad = s.sad := rfl
@[simp] theorem State.setFlashByte_mor (s : State) (a : Nat) (b : Byte) : (s.setFlashByte a b).mor = s.mor := rfl

@[simp] theorem State.erase_pending (s : State) (a n : Nat) : (s.erase a n).pending = s.pending := rfl
@[simp] theorem State.erase_out (s : State) (a n : Nat) : (s.erase a n).out = s.out := rfl
@[simp] theorem State.erase_fresh (s : State) (a n : Nat) : (s.erase a n).fresh = s.fresh := rfl
@[simp] theorem State.erase_now (s : State) (a n : Nat) : (s.erase a n).now = s.now := rfl
@[simp] theorem State.erase_tc (s : State) (a n : Nat) : (s.erase a n).tc = s.tc := rfl
@[simp] theorem State.erase_tcRest (s : State) (a n : Nat) : (s.erase a n).tcRest = s.tcRest := rfl
@[simp] theorem State.erase_objs (s : State) (a n : Nat) : (s.erase a n).objs = s.objs := rfl
@[simp] theorem State.erase_pinned (s : State) (a n : Nat) : (s.erase a n).pinned = s.pinned := rfl
@[simp] theorem State.erase_regs (s : State) (a n : Nat) : (s.erase a n).regs = s.regs := rfl
@[simp] theorem State.erase_mem (s : State) (a n : Nat) : (s.erase a n).mem = s.mem := rfl
@[simp] theorem State.erase_boot (s : State) (a n : Nat) : (s.erase a n).boot = s.boot := rfl
@[simp] theorem State.erase_ev (s : State) (a n : Nat) : (s.erase a n).ev = s.ev := rfl
@[simp] theorem State.erase_il (s : State) (a n : Nat) : (s.erase a n).il = s.il := rfl
@[simp] theorem State.erase_ce (s : State) (a n : Nat) : (s.erase a n).ce = s.ce := rfl
@[simp] theorem State.erase_tw (s : State) (a n : Nat) : (s.erase a n).tw = s.tw := rfl
@[simp] theorem State.erase_st (s : State) (a n : Nat) : (s.erase a n).st = s.st := rfl
@[simp] theorem State.erase_up (s : State) (a n : Nat) : (s.erase a n).up = s.up := rfl
@[simp] theorem State.erase_osf (s : State) (a n : Nat) : (s.erase a n).osf = s.osf := rfl
@[simp] theorem State.erase_gate (s : State) (a n : Nat) : (s.erase a n).gate = s.gate := rfl
@[simp] theorem State.erase_ctl (s : State) (a n : Nat) : (s.erase a n).ctl = s.ctl := rfl
@[simp] theorem State.erase_colLast (s : State) (a n : Nat) : (s.erase a n).colLast = s.colLast := rfl
@[simp] theorem State.erase_scr (s : State) (a n : Nat) : (s.erase a n).scr = s.scr := rfl
@[simp] theorem State.erase_mon (s : State) (a n : Nat) : (s.erase a n).mon = s.mon := rfl
@[simp] theorem State.erase_sdiRx (s : State) (a n : Nat) : (s.erase a n).sdiRx = s.sdiRx := rfl
@[simp] theorem State.erase_sdiTx (s : State) (a n : Nat) : (s.erase a n).sdiTx = s.sdiTx := rfl
@[simp] theorem State.erase_ridge (s : State) (a n : Nat) : (s.erase a n).ridge = s.ridge := rfl
@[simp] theorem State.erase_cq (s : State) (a n : Nat) : (s.erase a n).cq = s.cq := rfl
@[simp] theorem State.erase_media (s : State) (a n : Nat) : (s.erase a n).media = s.media := rfl
@[simp] theorem State.erase_ws (s : State) (a n : Nat) : (s.erase a n).ws = s.ws := rfl
@[simp] theorem State.erase_au (s : State) (a n : Nat) : (s.erase a n).au = s.au := rfl
@[simp] theorem State.erase_tarn (s : State) (a n : Nat) : (s.erase a n).tarn = s.tarn := rfl
@[simp] theorem State.erase_sad (s : State) (a n : Nat) : (s.erase a n).sad = s.sad := rfl
@[simp] theorem State.erase_mor (s : State) (a n : Nat) : (s.erase a n).mor = s.mor := rfl

@[simp] theorem State.emit_pending (s : State) (o : Out) : (s.emit o).pending = s.pending := rfl
@[simp] theorem State.emit_fresh (s : State) (o : Out) : (s.emit o).fresh = s.fresh := rfl
@[simp] theorem State.emit_now (s : State) (o : Out) : (s.emit o).now = s.now := rfl
@[simp] theorem State.emit_tc (s : State) (o : Out) : (s.emit o).tc = s.tc := rfl
@[simp] theorem State.emit_tcRest (s : State) (o : Out) : (s.emit o).tcRest = s.tcRest := rfl
@[simp] theorem State.emit_objs (s : State) (o : Out) : (s.emit o).objs = s.objs := rfl
@[simp] theorem State.emit_pinned (s : State) (o : Out) : (s.emit o).pinned = s.pinned := rfl
@[simp] theorem State.emit_regs (s : State) (o : Out) : (s.emit o).regs = s.regs := rfl
@[simp] theorem State.emit_mem (s : State) (o : Out) : (s.emit o).mem = s.mem := rfl
@[simp] theorem State.emit_flash (s : State) (o : Out) : (s.emit o).flash = s.flash := rfl
@[simp] theorem State.emit_boot (s : State) (o : Out) : (s.emit o).boot = s.boot := rfl
@[simp] theorem State.emit_ev (s : State) (o : Out) : (s.emit o).ev = s.ev := rfl
@[simp] theorem State.emit_il (s : State) (o : Out) : (s.emit o).il = s.il := rfl
@[simp] theorem State.emit_ce (s : State) (o : Out) : (s.emit o).ce = s.ce := rfl
@[simp] theorem State.emit_tw (s : State) (o : Out) : (s.emit o).tw = s.tw := rfl
@[simp] theorem State.emit_st (s : State) (o : Out) : (s.emit o).st = s.st := rfl
@[simp] theorem State.emit_up (s : State) (o : Out) : (s.emit o).up = s.up := rfl
@[simp] theorem State.emit_osf (s : State) (o : Out) : (s.emit o).osf = s.osf := rfl
@[simp] theorem State.emit_gate (s : State) (o : Out) : (s.emit o).gate = s.gate := rfl
@[simp] theorem State.emit_ctl (s : State) (o : Out) : (s.emit o).ctl = s.ctl := rfl
@[simp] theorem State.emit_colLast (s : State) (o : Out) : (s.emit o).colLast = s.colLast := rfl
@[simp] theorem State.emit_scr (s : State) (o : Out) : (s.emit o).scr = s.scr := rfl
@[simp] theorem State.emit_mon (s : State) (o : Out) : (s.emit o).mon = s.mon := rfl
@[simp] theorem State.emit_sdiRx (s : State) (o : Out) : (s.emit o).sdiRx = s.sdiRx := rfl
@[simp] theorem State.emit_sdiTx (s : State) (o : Out) : (s.emit o).sdiTx = s.sdiTx := rfl
@[simp] theorem State.emit_ridge (s : State) (o : Out) : (s.emit o).ridge = s.ridge := rfl
@[simp] theorem State.emit_cq (s : State) (o : Out) : (s.emit o).cq = s.cq := rfl
@[simp] theorem State.emit_media (s : State) (o : Out) : (s.emit o).media = s.media := rfl
@[simp] theorem State.emit_ws (s : State) (o : Out) : (s.emit o).ws = s.ws := rfl
@[simp] theorem State.emit_au (s : State) (o : Out) : (s.emit o).au = s.au := rfl
@[simp] theorem State.emit_tarn (s : State) (o : Out) : (s.emit o).tarn = s.tarn := rfl
@[simp] theorem State.emit_sad (s : State) (o : Out) : (s.emit o).sad = s.sad := rfl
@[simp] theorem State.emit_mor (s : State) (o : Out) : (s.emit o).mor = s.mor := rfl

@[simp] theorem State.tick_pending (s : State) (dt : Nat) : (s.tick dt).pending = s.pending := rfl
@[simp] theorem State.tick_fresh (s : State) (dt : Nat) : (s.tick dt).fresh = s.fresh := rfl
@[simp] theorem State.tick_objs (s : State) (dt : Nat) : (s.tick dt).objs = s.objs := rfl
@[simp] theorem State.tick_pinned (s : State) (dt : Nat) : (s.tick dt).pinned = s.pinned := rfl
@[simp] theorem State.tick_regs (s : State) (dt : Nat) : (s.tick dt).regs = s.regs := rfl
@[simp] theorem State.tick_mem (s : State) (dt : Nat) : (s.tick dt).mem = s.mem := rfl
@[simp] theorem State.tick_flash (s : State) (dt : Nat) : (s.tick dt).flash = s.flash := rfl
@[simp] theorem State.tick_boot (s : State) (dt : Nat) : (s.tick dt).boot = s.boot := rfl
@[simp] theorem State.tick_ev (s : State) (dt : Nat) : (s.tick dt).ev = s.ev := rfl
@[simp] theorem State.tick_il (s : State) (dt : Nat) : (s.tick dt).il = s.il := rfl
@[simp] theorem State.tick_ce (s : State) (dt : Nat) : (s.tick dt).ce = s.ce := rfl
@[simp] theorem State.tick_tw (s : State) (dt : Nat) : (s.tick dt).tw = s.tw := rfl
@[simp] theorem State.tick_st (s : State) (dt : Nat) : (s.tick dt).st = s.st := rfl
@[simp] theorem State.tick_up (s : State) (dt : Nat) : (s.tick dt).up = s.up := rfl
@[simp] theorem State.tick_osf (s : State) (dt : Nat) : (s.tick dt).osf = s.osf := rfl
@[simp] theorem State.tick_gate (s : State) (dt : Nat) : (s.tick dt).gate = s.gate := rfl
@[simp] theorem State.tick_ctl (s : State) (dt : Nat) : (s.tick dt).ctl = s.ctl := rfl
@[simp] theorem State.tick_colLast (s : State) (dt : Nat) : (s.tick dt).colLast = s.colLast := rfl
@[simp] theorem State.tick_scr (s : State) (dt : Nat) : (s.tick dt).scr = s.scr := rfl
@[simp] theorem State.tick_mon (s : State) (dt : Nat) : (s.tick dt).mon = s.mon := rfl
@[simp] theorem State.tick_sdiRx (s : State) (dt : Nat) : (s.tick dt).sdiRx = s.sdiRx := rfl
@[simp] theorem State.tick_sdiTx (s : State) (dt : Nat) : (s.tick dt).sdiTx = s.sdiTx := rfl
@[simp] theorem State.tick_ridge (s : State) (dt : Nat) : (s.tick dt).ridge = s.ridge := rfl
@[simp] theorem State.tick_cq (s : State) (dt : Nat) : (s.tick dt).cq = s.cq := rfl
@[simp] theorem State.tick_media (s : State) (dt : Nat) : (s.tick dt).media = s.media := rfl
@[simp] theorem State.tick_ws (s : State) (dt : Nat) : (s.tick dt).ws = s.ws := rfl
@[simp] theorem State.tick_au (s : State) (dt : Nat) : (s.tick dt).au = s.au := rfl
@[simp] theorem State.tick_tarn (s : State) (dt : Nat) : (s.tick dt).tarn = s.tarn := rfl
@[simp] theorem State.tick_sad (s : State) (dt : Nat) : (s.tick dt).sad = s.sad := rfl
@[simp] theorem State.tick_mor (s : State) (dt : Nat) : (s.tick dt).mor = s.mor := rfl

@[simp] theorem State.setSession_pending (s : State) (n : Nat) (x : Session) : (s.setSession n x).pending = s.pending := rfl
@[simp] theorem State.setSession_out (s : State) (n : Nat) (x : Session) : (s.setSession n x).out = s.out := rfl
@[simp] theorem State.setSession_fresh (s : State) (n : Nat) (x : Session) : (s.setSession n x).fresh = s.fresh := rfl
@[simp] theorem State.setSession_now (s : State) (n : Nat) (x : Session) : (s.setSession n x).now = s.now := rfl
@[simp] theorem State.setSession_tc (s : State) (n : Nat) (x : Session) : (s.setSession n x).tc = s.tc := rfl
@[simp] theorem State.setSession_tcRest (s : State) (n : Nat) (x : Session) : (s.setSession n x).tcRest = s.tcRest := rfl
@[simp] theorem State.setSession_objs (s : State) (n : Nat) (x : Session) : (s.setSession n x).objs = s.objs := rfl
@[simp] theorem State.setSession_pinned (s : State) (n : Nat) (x : Session) : (s.setSession n x).pinned = s.pinned := rfl
@[simp] theorem State.setSession_regs (s : State) (n : Nat) (x : Session) : (s.setSession n x).regs = s.regs := rfl
@[simp] theorem State.setSession_mem (s : State) (n : Nat) (x : Session) : (s.setSession n x).mem = s.mem := rfl
@[simp] theorem State.setSession_flash (s : State) (n : Nat) (x : Session) : (s.setSession n x).flash = s.flash := rfl
@[simp] theorem State.setSession_boot (s : State) (n : Nat) (x : Session) : (s.setSession n x).boot = s.boot := rfl
@[simp] theorem State.setSession_ev (s : State) (n : Nat) (x : Session) : (s.setSession n x).ev = s.ev := rfl
@[simp] theorem State.setSession_ce (s : State) (n : Nat) (x : Session) : (s.setSession n x).ce = s.ce := rfl
@[simp] theorem State.setSession_tw (s : State) (n : Nat) (x : Session) : (s.setSession n x).tw = s.tw := rfl
@[simp] theorem State.setSession_st (s : State) (n : Nat) (x : Session) : (s.setSession n x).st = s.st := rfl
@[simp] theorem State.setSession_up (s : State) (n : Nat) (x : Session) : (s.setSession n x).up = s.up := rfl
@[simp] theorem State.setSession_osf (s : State) (n : Nat) (x : Session) : (s.setSession n x).osf = s.osf := rfl
@[simp] theorem State.setSession_gate (s : State) (n : Nat) (x : Session) : (s.setSession n x).gate = s.gate := rfl
@[simp] theorem State.setSession_ctl (s : State) (n : Nat) (x : Session) : (s.setSession n x).ctl = s.ctl := rfl
@[simp] theorem State.setSession_colLast (s : State) (n : Nat) (x : Session) : (s.setSession n x).colLast = s.colLast := rfl
@[simp] theorem State.setSession_scr (s : State) (n : Nat) (x : Session) : (s.setSession n x).scr = s.scr := rfl
@[simp] theorem State.setSession_mon (s : State) (n : Nat) (x : Session) : (s.setSession n x).mon = s.mon := rfl
@[simp] theorem State.setSession_sdiRx (s : State) (n : Nat) (x : Session) : (s.setSession n x).sdiRx = s.sdiRx := rfl
@[simp] theorem State.setSession_sdiTx (s : State) (n : Nat) (x : Session) : (s.setSession n x).sdiTx = s.sdiTx := rfl
@[simp] theorem State.setSession_ridge (s : State) (n : Nat) (x : Session) : (s.setSession n x).ridge = s.ridge := rfl
@[simp] theorem State.setSession_cq (s : State) (n : Nat) (x : Session) : (s.setSession n x).cq = s.cq := rfl
@[simp] theorem State.setSession_media (s : State) (n : Nat) (x : Session) : (s.setSession n x).media = s.media := rfl
@[simp] theorem State.setSession_ws (s : State) (n : Nat) (x : Session) : (s.setSession n x).ws = s.ws := rfl
@[simp] theorem State.setSession_au (s : State) (n : Nat) (x : Session) : (s.setSession n x).au = s.au := rfl
@[simp] theorem State.setSession_tarn (s : State) (n : Nat) (x : Session) : (s.setSession n x).tarn = s.tarn := rfl
@[simp] theorem State.setSession_sad (s : State) (n : Nat) (x : Session) : (s.setSession n x).sad = s.sad := rfl
@[simp] theorem State.setSession_mor (s : State) (n : Nat) (x : Session) : (s.setSession n x).mor = s.mor := rfl

@[simp] theorem State.setLockouts_pending (s : State) (l : List Lockout) : (s.setLockouts l).pending = s.pending := rfl
@[simp] theorem State.setLockouts_out (s : State) (l : List Lockout) : (s.setLockouts l).out = s.out := rfl
@[simp] theorem State.setLockouts_fresh (s : State) (l : List Lockout) : (s.setLockouts l).fresh = s.fresh := rfl
@[simp] theorem State.setLockouts_now (s : State) (l : List Lockout) : (s.setLockouts l).now = s.now := rfl
@[simp] theorem State.setLockouts_tc (s : State) (l : List Lockout) : (s.setLockouts l).tc = s.tc := rfl
@[simp] theorem State.setLockouts_tcRest (s : State) (l : List Lockout) : (s.setLockouts l).tcRest = s.tcRest := rfl
@[simp] theorem State.setLockouts_objs (s : State) (l : List Lockout) : (s.setLockouts l).objs = s.objs := rfl
@[simp] theorem State.setLockouts_pinned (s : State) (l : List Lockout) : (s.setLockouts l).pinned = s.pinned := rfl
@[simp] theorem State.setLockouts_regs (s : State) (l : List Lockout) : (s.setLockouts l).regs = s.regs := rfl
@[simp] theorem State.setLockouts_mem (s : State) (l : List Lockout) : (s.setLockouts l).mem = s.mem := rfl
@[simp] theorem State.setLockouts_flash (s : State) (l : List Lockout) : (s.setLockouts l).flash = s.flash := rfl
@[simp] theorem State.setLockouts_boot (s : State) (l : List Lockout) : (s.setLockouts l).boot = s.boot := rfl
@[simp] theorem State.setLockouts_ev (s : State) (l : List Lockout) : (s.setLockouts l).ev = s.ev := rfl
@[simp] theorem State.setLockouts_ce (s : State) (l : List Lockout) : (s.setLockouts l).ce = s.ce := rfl
@[simp] theorem State.setLockouts_tw (s : State) (l : List Lockout) : (s.setLockouts l).tw = s.tw := rfl
@[simp] theorem State.setLockouts_st (s : State) (l : List Lockout) : (s.setLockouts l).st = s.st := rfl
@[simp] theorem State.setLockouts_up (s : State) (l : List Lockout) : (s.setLockouts l).up = s.up := rfl
@[simp] theorem State.setLockouts_osf (s : State) (l : List Lockout) : (s.setLockouts l).osf = s.osf := rfl
@[simp] theorem State.setLockouts_gate (s : State) (l : List Lockout) : (s.setLockouts l).gate = s.gate := rfl
@[simp] theorem State.setLockouts_ctl (s : State) (l : List Lockout) : (s.setLockouts l).ctl = s.ctl := rfl
@[simp] theorem State.setLockouts_colLast (s : State) (l : List Lockout) : (s.setLockouts l).colLast = s.colLast := rfl
@[simp] theorem State.setLockouts_scr (s : State) (l : List Lockout) : (s.setLockouts l).scr = s.scr := rfl
@[simp] theorem State.setLockouts_mon (s : State) (l : List Lockout) : (s.setLockouts l).mon = s.mon := rfl
@[simp] theorem State.setLockouts_sdiRx (s : State) (l : List Lockout) : (s.setLockouts l).sdiRx = s.sdiRx := rfl
@[simp] theorem State.setLockouts_sdiTx (s : State) (l : List Lockout) : (s.setLockouts l).sdiTx = s.sdiTx := rfl
@[simp] theorem State.setLockouts_ridge (s : State) (l : List Lockout) : (s.setLockouts l).ridge = s.ridge := rfl
@[simp] theorem State.setLockouts_cq (s : State) (l : List Lockout) : (s.setLockouts l).cq = s.cq := rfl
@[simp] theorem State.setLockouts_media (s : State) (l : List Lockout) : (s.setLockouts l).media = s.media := rfl
@[simp] theorem State.setLockouts_ws (s : State) (l : List Lockout) : (s.setLockouts l).ws = s.ws := rfl
@[simp] theorem State.setLockouts_au (s : State) (l : List Lockout) : (s.setLockouts l).au = s.au := rfl
@[simp] theorem State.setLockouts_tarn (s : State) (l : List Lockout) : (s.setLockouts l).tarn = s.tarn := rfl
@[simp] theorem State.setLockouts_sad (s : State) (l : List Lockout) : (s.setLockouts l).sad = s.sad := rfl
@[simp] theorem State.setLockouts_mor (s : State) (l : List Lockout) : (s.setLockouts l).mor = s.mor := rfl

@[simp] theorem State.setSalvo_pending (s : State) (n : Nat) (x : Salvo) : (s.setSalvo n x).pending = s.pending := rfl
@[simp] theorem State.setSalvo_out (s : State) (n : Nat) (x : Salvo) : (s.setSalvo n x).out = s.out := rfl
@[simp] theorem State.setSalvo_fresh (s : State) (n : Nat) (x : Salvo) : (s.setSalvo n x).fresh = s.fresh := rfl
@[simp] theorem State.setSalvo_now (s : State) (n : Nat) (x : Salvo) : (s.setSalvo n x).now = s.now := rfl
@[simp] theorem State.setSalvo_tc (s : State) (n : Nat) (x : Salvo) : (s.setSalvo n x).tc = s.tc := rfl
@[simp] theorem State.setSalvo_tcRest (s : State) (n : Nat) (x : Salvo) : (s.setSalvo n x).tcRest = s.tcRest := rfl
@[simp] theorem State.setSalvo_objs (s : State) (n : Nat) (x : Salvo) : (s.setSalvo n x).objs = s.objs := rfl
@[simp] theorem State.setSalvo_pinned (s : State) (n : Nat) (x : Salvo) : (s.setSalvo n x).pinned = s.pinned := rfl
@[simp] theorem State.setSalvo_regs (s : State) (n : Nat) (x : Salvo) : (s.setSalvo n x).regs = s.regs := rfl
@[simp] theorem State.setSalvo_mem (s : State) (n : Nat) (x : Salvo) : (s.setSalvo n x).mem = s.mem := rfl
@[simp] theorem State.setSalvo_flash (s : State) (n : Nat) (x : Salvo) : (s.setSalvo n x).flash = s.flash := rfl
@[simp] theorem State.setSalvo_boot (s : State) (n : Nat) (x : Salvo) : (s.setSalvo n x).boot = s.boot := rfl
@[simp] theorem State.setSalvo_ev (s : State) (n : Nat) (x : Salvo) : (s.setSalvo n x).ev = s.ev := rfl
@[simp] theorem State.setSalvo_il (s : State) (n : Nat) (x : Salvo) : (s.setSalvo n x).il = s.il := rfl
@[simp] theorem State.setSalvo_tw (s : State) (n : Nat) (x : Salvo) : (s.setSalvo n x).tw = s.tw := rfl
@[simp] theorem State.setSalvo_st (s : State) (n : Nat) (x : Salvo) : (s.setSalvo n x).st = s.st := rfl
@[simp] theorem State.setSalvo_up (s : State) (n : Nat) (x : Salvo) : (s.setSalvo n x).up = s.up := rfl
@[simp] theorem State.setSalvo_osf (s : State) (n : Nat) (x : Salvo) : (s.setSalvo n x).osf = s.osf := rfl
@[simp] theorem State.setSalvo_gate (s : State) (n : Nat) (x : Salvo) : (s.setSalvo n x).gate = s.gate := rfl
@[simp] theorem State.setSalvo_ctl (s : State) (n : Nat) (x : Salvo) : (s.setSalvo n x).ctl = s.ctl := rfl
@[simp] theorem State.setSalvo_colLast (s : State) (n : Nat) (x : Salvo) : (s.setSalvo n x).colLast = s.colLast := rfl
@[simp] theorem State.setSalvo_scr (s : State) (n : Nat) (x : Salvo) : (s.setSalvo n x).scr = s.scr := rfl
@[simp] theorem State.setSalvo_mon (s : State) (n : Nat) (x : Salvo) : (s.setSalvo n x).mon = s.mon := rfl
@[simp] theorem State.setSalvo_sdiRx (s : State) (n : Nat) (x : Salvo) : (s.setSalvo n x).sdiRx = s.sdiRx := rfl
@[simp] theorem State.setSalvo_sdiTx (s : State) (n : Nat) (x : Salvo) : (s.setSalvo n x).sdiTx = s.sdiTx := rfl
@[simp] theorem State.setSalvo_ridge (s : State) (n : Nat) (x : Salvo) : (s.setSalvo n x).ridge = s.ridge := rfl
@[simp] theorem State.setSalvo_cq (s : State) (n : Nat) (x : Salvo) : (s.setSalvo n x).cq = s.cq := rfl
@[simp] theorem State.setSalvo_media (s : State) (n : Nat) (x : Salvo) : (s.setSalvo n x).media = s.media := rfl
@[simp] theorem State.setSalvo_ws (s : State) (n : Nat) (x : Salvo) : (s.setSalvo n x).ws = s.ws := rfl
@[simp] theorem State.setSalvo_au (s : State) (n : Nat) (x : Salvo) : (s.setSalvo n x).au = s.au := rfl
@[simp] theorem State.setSalvo_tarn (s : State) (n : Nat) (x : Salvo) : (s.setSalvo n x).tarn = s.tarn := rfl
@[simp] theorem State.setSalvo_sad (s : State) (n : Nat) (x : Salvo) : (s.setSalvo n x).sad = s.sad := rfl
@[simp] theorem State.setSalvo_mor (s : State) (n : Nat) (x : Salvo) : (s.setSalvo n x).mor = s.mor := rfl

@[simp] theorem State.setSrc_pending (s : State) (n : Nat) (x : SrcSlot) : (s.setSrc n x).pending = s.pending := rfl
@[simp] theorem State.setSrc_out (s : State) (n : Nat) (x : SrcSlot) : (s.setSrc n x).out = s.out := rfl
@[simp] theorem State.setSrc_fresh (s : State) (n : Nat) (x : SrcSlot) : (s.setSrc n x).fresh = s.fresh := rfl
@[simp] theorem State.setSrc_now (s : State) (n : Nat) (x : SrcSlot) : (s.setSrc n x).now = s.now := rfl
@[simp] theorem State.setSrc_tc (s : State) (n : Nat) (x : SrcSlot) : (s.setSrc n x).tc = s.tc := rfl
@[simp] theorem State.setSrc_tcRest (s : State) (n : Nat) (x : SrcSlot) : (s.setSrc n x).tcRest = s.tcRest := rfl
@[simp] theorem State.setSrc_objs (s : State) (n : Nat) (x : SrcSlot) : (s.setSrc n x).objs = s.objs := rfl
@[simp] theorem State.setSrc_pinned (s : State) (n : Nat) (x : SrcSlot) : (s.setSrc n x).pinned = s.pinned := rfl
@[simp] theorem State.setSrc_regs (s : State) (n : Nat) (x : SrcSlot) : (s.setSrc n x).regs = s.regs := rfl
@[simp] theorem State.setSrc_mem (s : State) (n : Nat) (x : SrcSlot) : (s.setSrc n x).mem = s.mem := rfl
@[simp] theorem State.setSrc_flash (s : State) (n : Nat) (x : SrcSlot) : (s.setSrc n x).flash = s.flash := rfl
@[simp] theorem State.setSrc_boot (s : State) (n : Nat) (x : SrcSlot) : (s.setSrc n x).boot = s.boot := rfl
@[simp] theorem State.setSrc_ev (s : State) (n : Nat) (x : SrcSlot) : (s.setSrc n x).ev = s.ev := rfl
@[simp] theorem State.setSrc_il (s : State) (n : Nat) (x : SrcSlot) : (s.setSrc n x).il = s.il := rfl
@[simp] theorem State.setSrc_ce (s : State) (n : Nat) (x : SrcSlot) : (s.setSrc n x).ce = s.ce := rfl
@[simp] theorem State.setSrc_tw (s : State) (n : Nat) (x : SrcSlot) : (s.setSrc n x).tw = s.tw := rfl
@[simp] theorem State.setSrc_st (s : State) (n : Nat) (x : SrcSlot) : (s.setSrc n x).st = s.st := rfl
@[simp] theorem State.setSrc_up (s : State) (n : Nat) (x : SrcSlot) : (s.setSrc n x).up = s.up := rfl
@[simp] theorem State.setSrc_osf (s : State) (n : Nat) (x : SrcSlot) : (s.setSrc n x).osf = s.osf := rfl
@[simp] theorem State.setSrc_gate (s : State) (n : Nat) (x : SrcSlot) : (s.setSrc n x).gate = s.gate := rfl
@[simp] theorem State.setSrc_ctl (s : State) (n : Nat) (x : SrcSlot) : (s.setSrc n x).ctl = s.ctl := rfl
@[simp] theorem State.setSrc_colLast (s : State) (n : Nat) (x : SrcSlot) : (s.setSrc n x).colLast = s.colLast := rfl
@[simp] theorem State.setSrc_scr (s : State) (n : Nat) (x : SrcSlot) : (s.setSrc n x).scr = s.scr := rfl
@[simp] theorem State.setSrc_mon (s : State) (n : Nat) (x : SrcSlot) : (s.setSrc n x).mon = s.mon := rfl
@[simp] theorem State.setSrc_sdiRx (s : State) (n : Nat) (x : SrcSlot) : (s.setSrc n x).sdiRx = s.sdiRx := rfl
@[simp] theorem State.setSrc_sdiTx (s : State) (n : Nat) (x : SrcSlot) : (s.setSrc n x).sdiTx = s.sdiTx := rfl
@[simp] theorem State.setSrc_cq (s : State) (n : Nat) (x : SrcSlot) : (s.setSrc n x).cq = s.cq := rfl
@[simp] theorem State.setSrc_media (s : State) (n : Nat) (x : SrcSlot) : (s.setSrc n x).media = s.media := rfl
@[simp] theorem State.setSrc_ws (s : State) (n : Nat) (x : SrcSlot) : (s.setSrc n x).ws = s.ws := rfl
@[simp] theorem State.setSrc_au (s : State) (n : Nat) (x : SrcSlot) : (s.setSrc n x).au = s.au := rfl
@[simp] theorem State.setSrc_tarn (s : State) (n : Nat) (x : SrcSlot) : (s.setSrc n x).tarn = s.tarn := rfl
@[simp] theorem State.setSrc_sad (s : State) (n : Nat) (x : SrcSlot) : (s.setSrc n x).sad = s.sad := rfl
@[simp] theorem State.setSrc_mor (s : State) (n : Nat) (x : SrcSlot) : (s.setSrc n x).mor = s.mor := rfl

@[simp] theorem State.setDst_pending (s : State) (n : Nat) (x : DstSlot) : (s.setDst n x).pending = s.pending := rfl
@[simp] theorem State.setDst_out (s : State) (n : Nat) (x : DstSlot) : (s.setDst n x).out = s.out := rfl
@[simp] theorem State.setDst_fresh (s : State) (n : Nat) (x : DstSlot) : (s.setDst n x).fresh = s.fresh := rfl
@[simp] theorem State.setDst_now (s : State) (n : Nat) (x : DstSlot) : (s.setDst n x).now = s.now := rfl
@[simp] theorem State.setDst_tc (s : State) (n : Nat) (x : DstSlot) : (s.setDst n x).tc = s.tc := rfl
@[simp] theorem State.setDst_tcRest (s : State) (n : Nat) (x : DstSlot) : (s.setDst n x).tcRest = s.tcRest := rfl
@[simp] theorem State.setDst_objs (s : State) (n : Nat) (x : DstSlot) : (s.setDst n x).objs = s.objs := rfl
@[simp] theorem State.setDst_pinned (s : State) (n : Nat) (x : DstSlot) : (s.setDst n x).pinned = s.pinned := rfl
@[simp] theorem State.setDst_regs (s : State) (n : Nat) (x : DstSlot) : (s.setDst n x).regs = s.regs := rfl
@[simp] theorem State.setDst_mem (s : State) (n : Nat) (x : DstSlot) : (s.setDst n x).mem = s.mem := rfl
@[simp] theorem State.setDst_flash (s : State) (n : Nat) (x : DstSlot) : (s.setDst n x).flash = s.flash := rfl
@[simp] theorem State.setDst_boot (s : State) (n : Nat) (x : DstSlot) : (s.setDst n x).boot = s.boot := rfl
@[simp] theorem State.setDst_ev (s : State) (n : Nat) (x : DstSlot) : (s.setDst n x).ev = s.ev := rfl
@[simp] theorem State.setDst_il (s : State) (n : Nat) (x : DstSlot) : (s.setDst n x).il = s.il := rfl
@[simp] theorem State.setDst_ce (s : State) (n : Nat) (x : DstSlot) : (s.setDst n x).ce = s.ce := rfl
@[simp] theorem State.setDst_tw (s : State) (n : Nat) (x : DstSlot) : (s.setDst n x).tw = s.tw := rfl
@[simp] theorem State.setDst_st (s : State) (n : Nat) (x : DstSlot) : (s.setDst n x).st = s.st := rfl
@[simp] theorem State.setDst_up (s : State) (n : Nat) (x : DstSlot) : (s.setDst n x).up = s.up := rfl
@[simp] theorem State.setDst_osf (s : State) (n : Nat) (x : DstSlot) : (s.setDst n x).osf = s.osf := rfl
@[simp] theorem State.setDst_gate (s : State) (n : Nat) (x : DstSlot) : (s.setDst n x).gate = s.gate := rfl
@[simp] theorem State.setDst_ctl (s : State) (n : Nat) (x : DstSlot) : (s.setDst n x).ctl = s.ctl := rfl
@[simp] theorem State.setDst_colLast (s : State) (n : Nat) (x : DstSlot) : (s.setDst n x).colLast = s.colLast := rfl
@[simp] theorem State.setDst_scr (s : State) (n : Nat) (x : DstSlot) : (s.setDst n x).scr = s.scr := rfl
@[simp] theorem State.setDst_mon (s : State) (n : Nat) (x : DstSlot) : (s.setDst n x).mon = s.mon := rfl
@[simp] theorem State.setDst_sdiRx (s : State) (n : Nat) (x : DstSlot) : (s.setDst n x).sdiRx = s.sdiRx := rfl
@[simp] theorem State.setDst_sdiTx (s : State) (n : Nat) (x : DstSlot) : (s.setDst n x).sdiTx = s.sdiTx := rfl
@[simp] theorem State.setDst_cq (s : State) (n : Nat) (x : DstSlot) : (s.setDst n x).cq = s.cq := rfl
@[simp] theorem State.setDst_media (s : State) (n : Nat) (x : DstSlot) : (s.setDst n x).media = s.media := rfl
@[simp] theorem State.setDst_ws (s : State) (n : Nat) (x : DstSlot) : (s.setDst n x).ws = s.ws := rfl
@[simp] theorem State.setDst_au (s : State) (n : Nat) (x : DstSlot) : (s.setDst n x).au = s.au := rfl
@[simp] theorem State.setDst_tarn (s : State) (n : Nat) (x : DstSlot) : (s.setDst n x).tarn = s.tarn := rfl
@[simp] theorem State.setDst_sad (s : State) (n : Nat) (x : DstSlot) : (s.setDst n x).sad = s.sad := rfl
@[simp] theorem State.setDst_mor (s : State) (n : Nat) (x : DstSlot) : (s.setDst n x).mor = s.mor := rfl

@[simp] theorem State.setRxLane_pending (s : State) (n : Nat) (x : SdiRx) : (s.setRxLane n x).pending = s.pending := rfl
@[simp] theorem State.setRxLane_out (s : State) (n : Nat) (x : SdiRx) : (s.setRxLane n x).out = s.out := rfl
@[simp] theorem State.setRxLane_fresh (s : State) (n : Nat) (x : SdiRx) : (s.setRxLane n x).fresh = s.fresh := rfl
@[simp] theorem State.setRxLane_now (s : State) (n : Nat) (x : SdiRx) : (s.setRxLane n x).now = s.now := rfl
@[simp] theorem State.setRxLane_tc (s : State) (n : Nat) (x : SdiRx) : (s.setRxLane n x).tc = s.tc := rfl
@[simp] theorem State.setRxLane_tcRest (s : State) (n : Nat) (x : SdiRx) : (s.setRxLane n x).tcRest = s.tcRest := rfl
@[simp] theorem State.setRxLane_objs (s : State) (n : Nat) (x : SdiRx) : (s.setRxLane n x).objs = s.objs := rfl
@[simp] theorem State.setRxLane_pinned (s : State) (n : Nat) (x : SdiRx) : (s.setRxLane n x).pinned = s.pinned := rfl
@[simp] theorem State.setRxLane_regs (s : State) (n : Nat) (x : SdiRx) : (s.setRxLane n x).regs = s.regs := rfl
@[simp] theorem State.setRxLane_mem (s : State) (n : Nat) (x : SdiRx) : (s.setRxLane n x).mem = s.mem := rfl
@[simp] theorem State.setRxLane_flash (s : State) (n : Nat) (x : SdiRx) : (s.setRxLane n x).flash = s.flash := rfl
@[simp] theorem State.setRxLane_boot (s : State) (n : Nat) (x : SdiRx) : (s.setRxLane n x).boot = s.boot := rfl
@[simp] theorem State.setRxLane_ev (s : State) (n : Nat) (x : SdiRx) : (s.setRxLane n x).ev = s.ev := rfl
@[simp] theorem State.setRxLane_il (s : State) (n : Nat) (x : SdiRx) : (s.setRxLane n x).il = s.il := rfl
@[simp] theorem State.setRxLane_ce (s : State) (n : Nat) (x : SdiRx) : (s.setRxLane n x).ce = s.ce := rfl
@[simp] theorem State.setRxLane_tw (s : State) (n : Nat) (x : SdiRx) : (s.setRxLane n x).tw = s.tw := rfl
@[simp] theorem State.setRxLane_st (s : State) (n : Nat) (x : SdiRx) : (s.setRxLane n x).st = s.st := rfl
@[simp] theorem State.setRxLane_up (s : State) (n : Nat) (x : SdiRx) : (s.setRxLane n x).up = s.up := rfl
@[simp] theorem State.setRxLane_osf (s : State) (n : Nat) (x : SdiRx) : (s.setRxLane n x).osf = s.osf := rfl
@[simp] theorem State.setRxLane_gate (s : State) (n : Nat) (x : SdiRx) : (s.setRxLane n x).gate = s.gate := rfl
@[simp] theorem State.setRxLane_ctl (s : State) (n : Nat) (x : SdiRx) : (s.setRxLane n x).ctl = s.ctl := rfl
@[simp] theorem State.setRxLane_colLast (s : State) (n : Nat) (x : SdiRx) : (s.setRxLane n x).colLast = s.colLast := rfl
@[simp] theorem State.setRxLane_scr (s : State) (n : Nat) (x : SdiRx) : (s.setRxLane n x).scr = s.scr := rfl
@[simp] theorem State.setRxLane_mon (s : State) (n : Nat) (x : SdiRx) : (s.setRxLane n x).mon = s.mon := rfl
@[simp] theorem State.setRxLane_sdiTx (s : State) (n : Nat) (x : SdiRx) : (s.setRxLane n x).sdiTx = s.sdiTx := rfl
@[simp] theorem State.setRxLane_ridge (s : State) (n : Nat) (x : SdiRx) : (s.setRxLane n x).ridge = s.ridge := rfl
@[simp] theorem State.setRxLane_cq (s : State) (n : Nat) (x : SdiRx) : (s.setRxLane n x).cq = s.cq := rfl
@[simp] theorem State.setRxLane_media (s : State) (n : Nat) (x : SdiRx) : (s.setRxLane n x).media = s.media := rfl
@[simp] theorem State.setRxLane_ws (s : State) (n : Nat) (x : SdiRx) : (s.setRxLane n x).ws = s.ws := rfl
@[simp] theorem State.setRxLane_au (s : State) (n : Nat) (x : SdiRx) : (s.setRxLane n x).au = s.au := rfl
@[simp] theorem State.setRxLane_tarn (s : State) (n : Nat) (x : SdiRx) : (s.setRxLane n x).tarn = s.tarn := rfl
@[simp] theorem State.setRxLane_sad (s : State) (n : Nat) (x : SdiRx) : (s.setRxLane n x).sad = s.sad := rfl
@[simp] theorem State.setRxLane_mor (s : State) (n : Nat) (x : SdiRx) : (s.setRxLane n x).mor = s.mor := rfl

@[simp] theorem State.setTxLane_pending (s : State) (n : Nat) (x : SdiTx) : (s.setTxLane n x).pending = s.pending := rfl
@[simp] theorem State.setTxLane_out (s : State) (n : Nat) (x : SdiTx) : (s.setTxLane n x).out = s.out := rfl
@[simp] theorem State.setTxLane_fresh (s : State) (n : Nat) (x : SdiTx) : (s.setTxLane n x).fresh = s.fresh := rfl
@[simp] theorem State.setTxLane_now (s : State) (n : Nat) (x : SdiTx) : (s.setTxLane n x).now = s.now := rfl
@[simp] theorem State.setTxLane_tc (s : State) (n : Nat) (x : SdiTx) : (s.setTxLane n x).tc = s.tc := rfl
@[simp] theorem State.setTxLane_tcRest (s : State) (n : Nat) (x : SdiTx) : (s.setTxLane n x).tcRest = s.tcRest := rfl
@[simp] theorem State.setTxLane_objs (s : State) (n : Nat) (x : SdiTx) : (s.setTxLane n x).objs = s.objs := rfl
@[simp] theorem State.setTxLane_pinned (s : State) (n : Nat) (x : SdiTx) : (s.setTxLane n x).pinned = s.pinned := rfl
@[simp] theorem State.setTxLane_regs (s : State) (n : Nat) (x : SdiTx) : (s.setTxLane n x).regs = s.regs := rfl
@[simp] theorem State.setTxLane_mem (s : State) (n : Nat) (x : SdiTx) : (s.setTxLane n x).mem = s.mem := rfl
@[simp] theorem State.setTxLane_flash (s : State) (n : Nat) (x : SdiTx) : (s.setTxLane n x).flash = s.flash := rfl
@[simp] theorem State.setTxLane_boot (s : State) (n : Nat) (x : SdiTx) : (s.setTxLane n x).boot = s.boot := rfl
@[simp] theorem State.setTxLane_ev (s : State) (n : Nat) (x : SdiTx) : (s.setTxLane n x).ev = s.ev := rfl
@[simp] theorem State.setTxLane_il (s : State) (n : Nat) (x : SdiTx) : (s.setTxLane n x).il = s.il := rfl
@[simp] theorem State.setTxLane_ce (s : State) (n : Nat) (x : SdiTx) : (s.setTxLane n x).ce = s.ce := rfl
@[simp] theorem State.setTxLane_tw (s : State) (n : Nat) (x : SdiTx) : (s.setTxLane n x).tw = s.tw := rfl
@[simp] theorem State.setTxLane_st (s : State) (n : Nat) (x : SdiTx) : (s.setTxLane n x).st = s.st := rfl
@[simp] theorem State.setTxLane_up (s : State) (n : Nat) (x : SdiTx) : (s.setTxLane n x).up = s.up := rfl
@[simp] theorem State.setTxLane_osf (s : State) (n : Nat) (x : SdiTx) : (s.setTxLane n x).osf = s.osf := rfl
@[simp] theorem State.setTxLane_gate (s : State) (n : Nat) (x : SdiTx) : (s.setTxLane n x).gate = s.gate := rfl
@[simp] theorem State.setTxLane_ctl (s : State) (n : Nat) (x : SdiTx) : (s.setTxLane n x).ctl = s.ctl := rfl
@[simp] theorem State.setTxLane_colLast (s : State) (n : Nat) (x : SdiTx) : (s.setTxLane n x).colLast = s.colLast := rfl
@[simp] theorem State.setTxLane_scr (s : State) (n : Nat) (x : SdiTx) : (s.setTxLane n x).scr = s.scr := rfl
@[simp] theorem State.setTxLane_mon (s : State) (n : Nat) (x : SdiTx) : (s.setTxLane n x).mon = s.mon := rfl
@[simp] theorem State.setTxLane_sdiRx (s : State) (n : Nat) (x : SdiTx) : (s.setTxLane n x).sdiRx = s.sdiRx := rfl
@[simp] theorem State.setTxLane_ridge (s : State) (n : Nat) (x : SdiTx) : (s.setTxLane n x).ridge = s.ridge := rfl
@[simp] theorem State.setTxLane_cq (s : State) (n : Nat) (x : SdiTx) : (s.setTxLane n x).cq = s.cq := rfl
@[simp] theorem State.setTxLane_media (s : State) (n : Nat) (x : SdiTx) : (s.setTxLane n x).media = s.media := rfl
@[simp] theorem State.setTxLane_ws (s : State) (n : Nat) (x : SdiTx) : (s.setTxLane n x).ws = s.ws := rfl
@[simp] theorem State.setTxLane_au (s : State) (n : Nat) (x : SdiTx) : (s.setTxLane n x).au = s.au := rfl
@[simp] theorem State.setTxLane_tarn (s : State) (n : Nat) (x : SdiTx) : (s.setTxLane n x).tarn = s.tarn := rfl
@[simp] theorem State.setTxLane_sad (s : State) (n : Nat) (x : SdiTx) : (s.setTxLane n x).sad = s.sad := rfl
@[simp] theorem State.setTxLane_mor (s : State) (n : Nat) (x : SdiTx) : (s.setTxLane n x).mor = s.mor := rfl

@[simp] theorem State.setEngine_pending (s : State) (n : Nat) (x : Engine) : (s.setEngine n x).pending = s.pending := rfl
@[simp] theorem State.setEngine_out (s : State) (n : Nat) (x : Engine) : (s.setEngine n x).out = s.out := rfl
@[simp] theorem State.setEngine_fresh (s : State) (n : Nat) (x : Engine) : (s.setEngine n x).fresh = s.fresh := rfl
@[simp] theorem State.setEngine_now (s : State) (n : Nat) (x : Engine) : (s.setEngine n x).now = s.now := rfl
@[simp] theorem State.setEngine_tc (s : State) (n : Nat) (x : Engine) : (s.setEngine n x).tc = s.tc := rfl
@[simp] theorem State.setEngine_tcRest (s : State) (n : Nat) (x : Engine) : (s.setEngine n x).tcRest = s.tcRest := rfl
@[simp] theorem State.setEngine_objs (s : State) (n : Nat) (x : Engine) : (s.setEngine n x).objs = s.objs := rfl
@[simp] theorem State.setEngine_pinned (s : State) (n : Nat) (x : Engine) : (s.setEngine n x).pinned = s.pinned := rfl
@[simp] theorem State.setEngine_regs (s : State) (n : Nat) (x : Engine) : (s.setEngine n x).regs = s.regs := rfl
@[simp] theorem State.setEngine_mem (s : State) (n : Nat) (x : Engine) : (s.setEngine n x).mem = s.mem := rfl
@[simp] theorem State.setEngine_flash (s : State) (n : Nat) (x : Engine) : (s.setEngine n x).flash = s.flash := rfl
@[simp] theorem State.setEngine_boot (s : State) (n : Nat) (x : Engine) : (s.setEngine n x).boot = s.boot := rfl
@[simp] theorem State.setEngine_ev (s : State) (n : Nat) (x : Engine) : (s.setEngine n x).ev = s.ev := rfl
@[simp] theorem State.setEngine_il (s : State) (n : Nat) (x : Engine) : (s.setEngine n x).il = s.il := rfl
@[simp] theorem State.setEngine_ce (s : State) (n : Nat) (x : Engine) : (s.setEngine n x).ce = s.ce := rfl
@[simp] theorem State.setEngine_tw (s : State) (n : Nat) (x : Engine) : (s.setEngine n x).tw = s.tw := rfl
@[simp] theorem State.setEngine_st (s : State) (n : Nat) (x : Engine) : (s.setEngine n x).st = s.st := rfl
@[simp] theorem State.setEngine_up (s : State) (n : Nat) (x : Engine) : (s.setEngine n x).up = s.up := rfl
@[simp] theorem State.setEngine_osf (s : State) (n : Nat) (x : Engine) : (s.setEngine n x).osf = s.osf := rfl
@[simp] theorem State.setEngine_gate (s : State) (n : Nat) (x : Engine) : (s.setEngine n x).gate = s.gate := rfl
@[simp] theorem State.setEngine_ctl (s : State) (n : Nat) (x : Engine) : (s.setEngine n x).ctl = s.ctl := rfl
@[simp] theorem State.setEngine_colLast (s : State) (n : Nat) (x : Engine) : (s.setEngine n x).colLast = s.colLast := rfl
@[simp] theorem State.setEngine_scr (s : State) (n : Nat) (x : Engine) : (s.setEngine n x).scr = s.scr := rfl
@[simp] theorem State.setEngine_mon (s : State) (n : Nat) (x : Engine) : (s.setEngine n x).mon = s.mon := rfl
@[simp] theorem State.setEngine_sdiRx (s : State) (n : Nat) (x : Engine) : (s.setEngine n x).sdiRx = s.sdiRx := rfl
@[simp] theorem State.setEngine_sdiTx (s : State) (n : Nat) (x : Engine) : (s.setEngine n x).sdiTx = s.sdiTx := rfl
@[simp] theorem State.setEngine_ridge (s : State) (n : Nat) (x : Engine) : (s.setEngine n x).ridge = s.ridge := rfl
@[simp] theorem State.setEngine_media (s : State) (n : Nat) (x : Engine) : (s.setEngine n x).media = s.media := rfl
@[simp] theorem State.setEngine_ws (s : State) (n : Nat) (x : Engine) : (s.setEngine n x).ws = s.ws := rfl
@[simp] theorem State.setEngine_au (s : State) (n : Nat) (x : Engine) : (s.setEngine n x).au = s.au := rfl
@[simp] theorem State.setEngine_tarn (s : State) (n : Nat) (x : Engine) : (s.setEngine n x).tarn = s.tarn := rfl
@[simp] theorem State.setEngine_sad (s : State) (n : Nat) (x : Engine) : (s.setEngine n x).sad = s.sad := rfl
@[simp] theorem State.setEngine_mor (s : State) (n : Nat) (x : Engine) : (s.setEngine n x).mor = s.mor := rfl

@[simp] theorem State.setLayer_pending (s : State) (n : Nat) (x : Layer) : (s.setLayer n x).pending = s.pending := rfl
@[simp] theorem State.setLayer_out (s : State) (n : Nat) (x : Layer) : (s.setLayer n x).out = s.out := rfl
@[simp] theorem State.setLayer_fresh (s : State) (n : Nat) (x : Layer) : (s.setLayer n x).fresh = s.fresh := rfl
@[simp] theorem State.setLayer_now (s : State) (n : Nat) (x : Layer) : (s.setLayer n x).now = s.now := rfl
@[simp] theorem State.setLayer_tc (s : State) (n : Nat) (x : Layer) : (s.setLayer n x).tc = s.tc := rfl
@[simp] theorem State.setLayer_tcRest (s : State) (n : Nat) (x : Layer) : (s.setLayer n x).tcRest = s.tcRest := rfl
@[simp] theorem State.setLayer_objs (s : State) (n : Nat) (x : Layer) : (s.setLayer n x).objs = s.objs := rfl
@[simp] theorem State.setLayer_pinned (s : State) (n : Nat) (x : Layer) : (s.setLayer n x).pinned = s.pinned := rfl
@[simp] theorem State.setLayer_regs (s : State) (n : Nat) (x : Layer) : (s.setLayer n x).regs = s.regs := rfl
@[simp] theorem State.setLayer_mem (s : State) (n : Nat) (x : Layer) : (s.setLayer n x).mem = s.mem := rfl
@[simp] theorem State.setLayer_flash (s : State) (n : Nat) (x : Layer) : (s.setLayer n x).flash = s.flash := rfl
@[simp] theorem State.setLayer_boot (s : State) (n : Nat) (x : Layer) : (s.setLayer n x).boot = s.boot := rfl
@[simp] theorem State.setLayer_ev (s : State) (n : Nat) (x : Layer) : (s.setLayer n x).ev = s.ev := rfl
@[simp] theorem State.setLayer_il (s : State) (n : Nat) (x : Layer) : (s.setLayer n x).il = s.il := rfl
@[simp] theorem State.setLayer_ce (s : State) (n : Nat) (x : Layer) : (s.setLayer n x).ce = s.ce := rfl
@[simp] theorem State.setLayer_tw (s : State) (n : Nat) (x : Layer) : (s.setLayer n x).tw = s.tw := rfl
@[simp] theorem State.setLayer_st (s : State) (n : Nat) (x : Layer) : (s.setLayer n x).st = s.st := rfl
@[simp] theorem State.setLayer_up (s : State) (n : Nat) (x : Layer) : (s.setLayer n x).up = s.up := rfl
@[simp] theorem State.setLayer_osf (s : State) (n : Nat) (x : Layer) : (s.setLayer n x).osf = s.osf := rfl
@[simp] theorem State.setLayer_gate (s : State) (n : Nat) (x : Layer) : (s.setLayer n x).gate = s.gate := rfl
@[simp] theorem State.setLayer_ctl (s : State) (n : Nat) (x : Layer) : (s.setLayer n x).ctl = s.ctl := rfl
@[simp] theorem State.setLayer_colLast (s : State) (n : Nat) (x : Layer) : (s.setLayer n x).colLast = s.colLast := rfl
@[simp] theorem State.setLayer_scr (s : State) (n : Nat) (x : Layer) : (s.setLayer n x).scr = s.scr := rfl
@[simp] theorem State.setLayer_mon (s : State) (n : Nat) (x : Layer) : (s.setLayer n x).mon = s.mon := rfl
@[simp] theorem State.setLayer_sdiRx (s : State) (n : Nat) (x : Layer) : (s.setLayer n x).sdiRx = s.sdiRx := rfl
@[simp] theorem State.setLayer_sdiTx (s : State) (n : Nat) (x : Layer) : (s.setLayer n x).sdiTx = s.sdiTx := rfl
@[simp] theorem State.setLayer_ridge (s : State) (n : Nat) (x : Layer) : (s.setLayer n x).ridge = s.ridge := rfl
@[simp] theorem State.setLayer_media (s : State) (n : Nat) (x : Layer) : (s.setLayer n x).media = s.media := rfl
@[simp] theorem State.setLayer_ws (s : State) (n : Nat) (x : Layer) : (s.setLayer n x).ws = s.ws := rfl
@[simp] theorem State.setLayer_au (s : State) (n : Nat) (x : Layer) : (s.setLayer n x).au = s.au := rfl
@[simp] theorem State.setLayer_tarn (s : State) (n : Nat) (x : Layer) : (s.setLayer n x).tarn = s.tarn := rfl
@[simp] theorem State.setLayer_sad (s : State) (n : Nat) (x : Layer) : (s.setLayer n x).sad = s.sad := rfl
@[simp] theorem State.setLayer_mor (s : State) (n : Nat) (x : Layer) : (s.setLayer n x).mor = s.mor := rfl

@[simp] theorem State.setStage_pending (s : State) (n : Nat) (x : ColStage) : (s.setStage n x).pending = s.pending := rfl
@[simp] theorem State.setStage_out (s : State) (n : Nat) (x : ColStage) : (s.setStage n x).out = s.out := rfl
@[simp] theorem State.setStage_fresh (s : State) (n : Nat) (x : ColStage) : (s.setStage n x).fresh = s.fresh := rfl
@[simp] theorem State.setStage_now (s : State) (n : Nat) (x : ColStage) : (s.setStage n x).now = s.now := rfl
@[simp] theorem State.setStage_tc (s : State) (n : Nat) (x : ColStage) : (s.setStage n x).tc = s.tc := rfl
@[simp] theorem State.setStage_tcRest (s : State) (n : Nat) (x : ColStage) : (s.setStage n x).tcRest = s.tcRest := rfl
@[simp] theorem State.setStage_objs (s : State) (n : Nat) (x : ColStage) : (s.setStage n x).objs = s.objs := rfl
@[simp] theorem State.setStage_pinned (s : State) (n : Nat) (x : ColStage) : (s.setStage n x).pinned = s.pinned := rfl
@[simp] theorem State.setStage_regs (s : State) (n : Nat) (x : ColStage) : (s.setStage n x).regs = s.regs := rfl
@[simp] theorem State.setStage_mem (s : State) (n : Nat) (x : ColStage) : (s.setStage n x).mem = s.mem := rfl
@[simp] theorem State.setStage_flash (s : State) (n : Nat) (x : ColStage) : (s.setStage n x).flash = s.flash := rfl
@[simp] theorem State.setStage_boot (s : State) (n : Nat) (x : ColStage) : (s.setStage n x).boot = s.boot := rfl
@[simp] theorem State.setStage_ev (s : State) (n : Nat) (x : ColStage) : (s.setStage n x).ev = s.ev := rfl
@[simp] theorem State.setStage_il (s : State) (n : Nat) (x : ColStage) : (s.setStage n x).il = s.il := rfl
@[simp] theorem State.setStage_ce (s : State) (n : Nat) (x : ColStage) : (s.setStage n x).ce = s.ce := rfl
@[simp] theorem State.setStage_tw (s : State) (n : Nat) (x : ColStage) : (s.setStage n x).tw = s.tw := rfl
@[simp] theorem State.setStage_st (s : State) (n : Nat) (x : ColStage) : (s.setStage n x).st = s.st := rfl
@[simp] theorem State.setStage_up (s : State) (n : Nat) (x : ColStage) : (s.setStage n x).up = s.up := rfl
@[simp] theorem State.setStage_osf (s : State) (n : Nat) (x : ColStage) : (s.setStage n x).osf = s.osf := rfl
@[simp] theorem State.setStage_gate (s : State) (n : Nat) (x : ColStage) : (s.setStage n x).gate = s.gate := rfl
@[simp] theorem State.setStage_ctl (s : State) (n : Nat) (x : ColStage) : (s.setStage n x).ctl = s.ctl := rfl
@[simp] theorem State.setStage_colLast (s : State) (n : Nat) (x : ColStage) : (s.setStage n x).colLast = s.colLast := rfl
@[simp] theorem State.setStage_scr (s : State) (n : Nat) (x : ColStage) : (s.setStage n x).scr = s.scr := rfl
@[simp] theorem State.setStage_mon (s : State) (n : Nat) (x : ColStage) : (s.setStage n x).mon = s.mon := rfl
@[simp] theorem State.setStage_sdiRx (s : State) (n : Nat) (x : ColStage) : (s.setStage n x).sdiRx = s.sdiRx := rfl
@[simp] theorem State.setStage_sdiTx (s : State) (n : Nat) (x : ColStage) : (s.setStage n x).sdiTx = s.sdiTx := rfl
@[simp] theorem State.setStage_ridge (s : State) (n : Nat) (x : ColStage) : (s.setStage n x).ridge = s.ridge := rfl
@[simp] theorem State.setStage_media (s : State) (n : Nat) (x : ColStage) : (s.setStage n x).media = s.media := rfl
@[simp] theorem State.setStage_ws (s : State) (n : Nat) (x : ColStage) : (s.setStage n x).ws = s.ws := rfl
@[simp] theorem State.setStage_au (s : State) (n : Nat) (x : ColStage) : (s.setStage n x).au = s.au := rfl
@[simp] theorem State.setStage_tarn (s : State) (n : Nat) (x : ColStage) : (s.setStage n x).tarn = s.tarn := rfl
@[simp] theorem State.setStage_sad (s : State) (n : Nat) (x : ColStage) : (s.setStage n x).sad = s.sad := rfl
@[simp] theorem State.setStage_mor (s : State) (n : Nat) (x : ColStage) : (s.setStage n x).mor = s.mor := rfl

@[simp] theorem State.setRxe_pending (s : State) (n : Nat) (x : RxEntry) : (s.setRxe n x).pending = s.pending := rfl
@[simp] theorem State.setRxe_out (s : State) (n : Nat) (x : RxEntry) : (s.setRxe n x).out = s.out := rfl
@[simp] theorem State.setRxe_fresh (s : State) (n : Nat) (x : RxEntry) : (s.setRxe n x).fresh = s.fresh := rfl
@[simp] theorem State.setRxe_now (s : State) (n : Nat) (x : RxEntry) : (s.setRxe n x).now = s.now := rfl
@[simp] theorem State.setRxe_tc (s : State) (n : Nat) (x : RxEntry) : (s.setRxe n x).tc = s.tc := rfl
@[simp] theorem State.setRxe_tcRest (s : State) (n : Nat) (x : RxEntry) : (s.setRxe n x).tcRest = s.tcRest := rfl
@[simp] theorem State.setRxe_objs (s : State) (n : Nat) (x : RxEntry) : (s.setRxe n x).objs = s.objs := rfl
@[simp] theorem State.setRxe_pinned (s : State) (n : Nat) (x : RxEntry) : (s.setRxe n x).pinned = s.pinned := rfl
@[simp] theorem State.setRxe_regs (s : State) (n : Nat) (x : RxEntry) : (s.setRxe n x).regs = s.regs := rfl
@[simp] theorem State.setRxe_mem (s : State) (n : Nat) (x : RxEntry) : (s.setRxe n x).mem = s.mem := rfl
@[simp] theorem State.setRxe_flash (s : State) (n : Nat) (x : RxEntry) : (s.setRxe n x).flash = s.flash := rfl
@[simp] theorem State.setRxe_boot (s : State) (n : Nat) (x : RxEntry) : (s.setRxe n x).boot = s.boot := rfl
@[simp] theorem State.setRxe_ev (s : State) (n : Nat) (x : RxEntry) : (s.setRxe n x).ev = s.ev := rfl
@[simp] theorem State.setRxe_il (s : State) (n : Nat) (x : RxEntry) : (s.setRxe n x).il = s.il := rfl
@[simp] theorem State.setRxe_ce (s : State) (n : Nat) (x : RxEntry) : (s.setRxe n x).ce = s.ce := rfl
@[simp] theorem State.setRxe_tw (s : State) (n : Nat) (x : RxEntry) : (s.setRxe n x).tw = s.tw := rfl
@[simp] theorem State.setRxe_st (s : State) (n : Nat) (x : RxEntry) : (s.setRxe n x).st = s.st := rfl
@[simp] theorem State.setRxe_up (s : State) (n : Nat) (x : RxEntry) : (s.setRxe n x).up = s.up := rfl
@[simp] theorem State.setRxe_osf (s : State) (n : Nat) (x : RxEntry) : (s.setRxe n x).osf = s.osf := rfl
@[simp] theorem State.setRxe_gate (s : State) (n : Nat) (x : RxEntry) : (s.setRxe n x).gate = s.gate := rfl
@[simp] theorem State.setRxe_ctl (s : State) (n : Nat) (x : RxEntry) : (s.setRxe n x).ctl = s.ctl := rfl
@[simp] theorem State.setRxe_colLast (s : State) (n : Nat) (x : RxEntry) : (s.setRxe n x).colLast = s.colLast := rfl
@[simp] theorem State.setRxe_scr (s : State) (n : Nat) (x : RxEntry) : (s.setRxe n x).scr = s.scr := rfl
@[simp] theorem State.setRxe_mon (s : State) (n : Nat) (x : RxEntry) : (s.setRxe n x).mon = s.mon := rfl
@[simp] theorem State.setRxe_sdiRx (s : State) (n : Nat) (x : RxEntry) : (s.setRxe n x).sdiRx = s.sdiRx := rfl
@[simp] theorem State.setRxe_sdiTx (s : State) (n : Nat) (x : RxEntry) : (s.setRxe n x).sdiTx = s.sdiTx := rfl
@[simp] theorem State.setRxe_ridge (s : State) (n : Nat) (x : RxEntry) : (s.setRxe n x).ridge = s.ridge := rfl
@[simp] theorem State.setRxe_cq (s : State) (n : Nat) (x : RxEntry) : (s.setRxe n x).cq = s.cq := rfl
@[simp] theorem State.setRxe_ws (s : State) (n : Nat) (x : RxEntry) : (s.setRxe n x).ws = s.ws := rfl
@[simp] theorem State.setRxe_au (s : State) (n : Nat) (x : RxEntry) : (s.setRxe n x).au = s.au := rfl
@[simp] theorem State.setRxe_tarn (s : State) (n : Nat) (x : RxEntry) : (s.setRxe n x).tarn = s.tarn := rfl
@[simp] theorem State.setRxe_sad (s : State) (n : Nat) (x : RxEntry) : (s.setRxe n x).sad = s.sad := rfl
@[simp] theorem State.setRxe_mor (s : State) (n : Nat) (x : RxEntry) : (s.setRxe n x).mor = s.mor := rfl
@[simp] theorem State.setPre_pending (s : State) (n : Nat) (x : RxEntry) : (s.setPre n x).pending = s.pending := rfl
@[simp] theorem State.setPre_out (s : State) (n : Nat) (x : RxEntry) : (s.setPre n x).out = s.out := rfl
@[simp] theorem State.setPre_fresh (s : State) (n : Nat) (x : RxEntry) : (s.setPre n x).fresh = s.fresh := rfl
@[simp] theorem State.setPre_now (s : State) (n : Nat) (x : RxEntry) : (s.setPre n x).now = s.now := rfl
@[simp] theorem State.setPre_tc (s : State) (n : Nat) (x : RxEntry) : (s.setPre n x).tc = s.tc := rfl
@[simp] theorem State.setPre_tcRest (s : State) (n : Nat) (x : RxEntry) : (s.setPre n x).tcRest = s.tcRest := rfl
@[simp] theorem State.setPre_objs (s : State) (n : Nat) (x : RxEntry) : (s.setPre n x).objs = s.objs := rfl
@[simp] theorem State.setPre_pinned (s : State) (n : Nat) (x : RxEntry) : (s.setPre n x).pinned = s.pinned := rfl
@[simp] theorem State.setPre_regs (s : State) (n : Nat) (x : RxEntry) : (s.setPre n x).regs = s.regs := rfl
@[simp] theorem State.setPre_mem (s : State) (n : Nat) (x : RxEntry) : (s.setPre n x).mem = s.mem := rfl
@[simp] theorem State.setPre_flash (s : State) (n : Nat) (x : RxEntry) : (s.setPre n x).flash = s.flash := rfl
@[simp] theorem State.setPre_boot (s : State) (n : Nat) (x : RxEntry) : (s.setPre n x).boot = s.boot := rfl
@[simp] theorem State.setPre_ev (s : State) (n : Nat) (x : RxEntry) : (s.setPre n x).ev = s.ev := rfl
@[simp] theorem State.setPre_il (s : State) (n : Nat) (x : RxEntry) : (s.setPre n x).il = s.il := rfl
@[simp] theorem State.setPre_ce (s : State) (n : Nat) (x : RxEntry) : (s.setPre n x).ce = s.ce := rfl
@[simp] theorem State.setPre_tw (s : State) (n : Nat) (x : RxEntry) : (s.setPre n x).tw = s.tw := rfl
@[simp] theorem State.setPre_st (s : State) (n : Nat) (x : RxEntry) : (s.setPre n x).st = s.st := rfl
@[simp] theorem State.setPre_up (s : State) (n : Nat) (x : RxEntry) : (s.setPre n x).up = s.up := rfl
@[simp] theorem State.setPre_osf (s : State) (n : Nat) (x : RxEntry) : (s.setPre n x).osf = s.osf := rfl
@[simp] theorem State.setPre_gate (s : State) (n : Nat) (x : RxEntry) : (s.setPre n x).gate = s.gate := rfl
@[simp] theorem State.setPre_ctl (s : State) (n : Nat) (x : RxEntry) : (s.setPre n x).ctl = s.ctl := rfl
@[simp] theorem State.setPre_colLast (s : State) (n : Nat) (x : RxEntry) : (s.setPre n x).colLast = s.colLast := rfl
@[simp] theorem State.setPre_scr (s : State) (n : Nat) (x : RxEntry) : (s.setPre n x).scr = s.scr := rfl
@[simp] theorem State.setPre_mon (s : State) (n : Nat) (x : RxEntry) : (s.setPre n x).mon = s.mon := rfl
@[simp] theorem State.setPre_sdiRx (s : State) (n : Nat) (x : RxEntry) : (s.setPre n x).sdiRx = s.sdiRx := rfl
@[simp] theorem State.setPre_sdiTx (s : State) (n : Nat) (x : RxEntry) : (s.setPre n x).sdiTx = s.sdiTx := rfl
@[simp] theorem State.setPre_ridge (s : State) (n : Nat) (x : RxEntry) : (s.setPre n x).ridge = s.ridge := rfl
@[simp] theorem State.setPre_cq (s : State) (n : Nat) (x : RxEntry) : (s.setPre n x).cq = s.cq := rfl
@[simp] theorem State.setPre_ws (s : State) (n : Nat) (x : RxEntry) : (s.setPre n x).ws = s.ws := rfl
@[simp] theorem State.setPre_au (s : State) (n : Nat) (x : RxEntry) : (s.setPre n x).au = s.au := rfl
@[simp] theorem State.setPre_tarn (s : State) (n : Nat) (x : RxEntry) : (s.setPre n x).tarn = s.tarn := rfl
@[simp] theorem State.setPre_sad (s : State) (n : Nat) (x : RxEntry) : (s.setPre n x).sad = s.sad := rfl
@[simp] theorem State.setPre_mor (s : State) (n : Nat) (x : RxEntry) : (s.setPre n x).mor = s.mor := rfl

@[simp] theorem State.setTxe_pending (s : State) (n : Nat) (x : TxEntry) : (s.setTxe n x).pending = s.pending := rfl
@[simp] theorem State.setTxe_out (s : State) (n : Nat) (x : TxEntry) : (s.setTxe n x).out = s.out := rfl
@[simp] theorem State.setTxe_fresh (s : State) (n : Nat) (x : TxEntry) : (s.setTxe n x).fresh = s.fresh := rfl
@[simp] theorem State.setTxe_now (s : State) (n : Nat) (x : TxEntry) : (s.setTxe n x).now = s.now := rfl
@[simp] theorem State.setTxe_tc (s : State) (n : Nat) (x : TxEntry) : (s.setTxe n x).tc = s.tc := rfl
@[simp] theorem State.setTxe_tcRest (s : State) (n : Nat) (x : TxEntry) : (s.setTxe n x).tcRest = s.tcRest := rfl
@[simp] theorem State.setTxe_objs (s : State) (n : Nat) (x : TxEntry) : (s.setTxe n x).objs = s.objs := rfl
@[simp] theorem State.setTxe_pinned (s : State) (n : Nat) (x : TxEntry) : (s.setTxe n x).pinned = s.pinned := rfl
@[simp] theorem State.setTxe_regs (s : State) (n : Nat) (x : TxEntry) : (s.setTxe n x).regs = s.regs := rfl
@[simp] theorem State.setTxe_mem (s : State) (n : Nat) (x : TxEntry) : (s.setTxe n x).mem = s.mem := rfl
@[simp] theorem State.setTxe_flash (s : State) (n : Nat) (x : TxEntry) : (s.setTxe n x).flash = s.flash := rfl
@[simp] theorem State.setTxe_boot (s : State) (n : Nat) (x : TxEntry) : (s.setTxe n x).boot = s.boot := rfl
@[simp] theorem State.setTxe_ev (s : State) (n : Nat) (x : TxEntry) : (s.setTxe n x).ev = s.ev := rfl
@[simp] theorem State.setTxe_il (s : State) (n : Nat) (x : TxEntry) : (s.setTxe n x).il = s.il := rfl
@[simp] theorem State.setTxe_ce (s : State) (n : Nat) (x : TxEntry) : (s.setTxe n x).ce = s.ce := rfl
@[simp] theorem State.setTxe_tw (s : State) (n : Nat) (x : TxEntry) : (s.setTxe n x).tw = s.tw := rfl
@[simp] theorem State.setTxe_st (s : State) (n : Nat) (x : TxEntry) : (s.setTxe n x).st = s.st := rfl
@[simp] theorem State.setTxe_up (s : State) (n : Nat) (x : TxEntry) : (s.setTxe n x).up = s.up := rfl
@[simp] theorem State.setTxe_osf (s : State) (n : Nat) (x : TxEntry) : (s.setTxe n x).osf = s.osf := rfl
@[simp] theorem State.setTxe_gate (s : State) (n : Nat) (x : TxEntry) : (s.setTxe n x).gate = s.gate := rfl
@[simp] theorem State.setTxe_ctl (s : State) (n : Nat) (x : TxEntry) : (s.setTxe n x).ctl = s.ctl := rfl
@[simp] theorem State.setTxe_colLast (s : State) (n : Nat) (x : TxEntry) : (s.setTxe n x).colLast = s.colLast := rfl
@[simp] theorem State.setTxe_scr (s : State) (n : Nat) (x : TxEntry) : (s.setTxe n x).scr = s.scr := rfl
@[simp] theorem State.setTxe_mon (s : State) (n : Nat) (x : TxEntry) : (s.setTxe n x).mon = s.mon := rfl
@[simp] theorem State.setTxe_sdiRx (s : State) (n : Nat) (x : TxEntry) : (s.setTxe n x).sdiRx = s.sdiRx := rfl
@[simp] theorem State.setTxe_sdiTx (s : State) (n : Nat) (x : TxEntry) : (s.setTxe n x).sdiTx = s.sdiTx := rfl
@[simp] theorem State.setTxe_ridge (s : State) (n : Nat) (x : TxEntry) : (s.setTxe n x).ridge = s.ridge := rfl
@[simp] theorem State.setTxe_cq (s : State) (n : Nat) (x : TxEntry) : (s.setTxe n x).cq = s.cq := rfl
@[simp] theorem State.setTxe_ws (s : State) (n : Nat) (x : TxEntry) : (s.setTxe n x).ws = s.ws := rfl
@[simp] theorem State.setTxe_au (s : State) (n : Nat) (x : TxEntry) : (s.setTxe n x).au = s.au := rfl
@[simp] theorem State.setTxe_tarn (s : State) (n : Nat) (x : TxEntry) : (s.setTxe n x).tarn = s.tarn := rfl
@[simp] theorem State.setTxe_sad (s : State) (n : Nat) (x : TxEntry) : (s.setTxe n x).sad = s.sad := rfl
@[simp] theorem State.setTxe_mor (s : State) (n : Nat) (x : TxEntry) : (s.setTxe n x).mor = s.mor := rfl

@[simp] theorem State.setPort_pending (s : State) (n : Nat) (x : MediaPort) : (s.setPort n x).pending = s.pending := rfl
@[simp] theorem State.setPort_out (s : State) (n : Nat) (x : MediaPort) : (s.setPort n x).out = s.out := rfl
@[simp] theorem State.setPort_fresh (s : State) (n : Nat) (x : MediaPort) : (s.setPort n x).fresh = s.fresh := rfl
@[simp] theorem State.setPort_now (s : State) (n : Nat) (x : MediaPort) : (s.setPort n x).now = s.now := rfl
@[simp] theorem State.setPort_tc (s : State) (n : Nat) (x : MediaPort) : (s.setPort n x).tc = s.tc := rfl
@[simp] theorem State.setPort_tcRest (s : State) (n : Nat) (x : MediaPort) : (s.setPort n x).tcRest = s.tcRest := rfl
@[simp] theorem State.setPort_objs (s : State) (n : Nat) (x : MediaPort) : (s.setPort n x).objs = s.objs := rfl
@[simp] theorem State.setPort_pinned (s : State) (n : Nat) (x : MediaPort) : (s.setPort n x).pinned = s.pinned := rfl
@[simp] theorem State.setPort_regs (s : State) (n : Nat) (x : MediaPort) : (s.setPort n x).regs = s.regs := rfl
@[simp] theorem State.setPort_mem (s : State) (n : Nat) (x : MediaPort) : (s.setPort n x).mem = s.mem := rfl
@[simp] theorem State.setPort_flash (s : State) (n : Nat) (x : MediaPort) : (s.setPort n x).flash = s.flash := rfl
@[simp] theorem State.setPort_boot (s : State) (n : Nat) (x : MediaPort) : (s.setPort n x).boot = s.boot := rfl
@[simp] theorem State.setPort_ev (s : State) (n : Nat) (x : MediaPort) : (s.setPort n x).ev = s.ev := rfl
@[simp] theorem State.setPort_il (s : State) (n : Nat) (x : MediaPort) : (s.setPort n x).il = s.il := rfl
@[simp] theorem State.setPort_ce (s : State) (n : Nat) (x : MediaPort) : (s.setPort n x).ce = s.ce := rfl
@[simp] theorem State.setPort_tw (s : State) (n : Nat) (x : MediaPort) : (s.setPort n x).tw = s.tw := rfl
@[simp] theorem State.setPort_st (s : State) (n : Nat) (x : MediaPort) : (s.setPort n x).st = s.st := rfl
@[simp] theorem State.setPort_up (s : State) (n : Nat) (x : MediaPort) : (s.setPort n x).up = s.up := rfl
@[simp] theorem State.setPort_osf (s : State) (n : Nat) (x : MediaPort) : (s.setPort n x).osf = s.osf := rfl
@[simp] theorem State.setPort_gate (s : State) (n : Nat) (x : MediaPort) : (s.setPort n x).gate = s.gate := rfl
@[simp] theorem State.setPort_ctl (s : State) (n : Nat) (x : MediaPort) : (s.setPort n x).ctl = s.ctl := rfl
@[simp] theorem State.setPort_colLast (s : State) (n : Nat) (x : MediaPort) : (s.setPort n x).colLast = s.colLast := rfl
@[simp] theorem State.setPort_scr (s : State) (n : Nat) (x : MediaPort) : (s.setPort n x).scr = s.scr := rfl
@[simp] theorem State.setPort_mon (s : State) (n : Nat) (x : MediaPort) : (s.setPort n x).mon = s.mon := rfl
@[simp] theorem State.setPort_sdiRx (s : State) (n : Nat) (x : MediaPort) : (s.setPort n x).sdiRx = s.sdiRx := rfl
@[simp] theorem State.setPort_sdiTx (s : State) (n : Nat) (x : MediaPort) : (s.setPort n x).sdiTx = s.sdiTx := rfl
@[simp] theorem State.setPort_ridge (s : State) (n : Nat) (x : MediaPort) : (s.setPort n x).ridge = s.ridge := rfl
@[simp] theorem State.setPort_cq (s : State) (n : Nat) (x : MediaPort) : (s.setPort n x).cq = s.cq := rfl
@[simp] theorem State.setPort_ws (s : State) (n : Nat) (x : MediaPort) : (s.setPort n x).ws = s.ws := rfl
@[simp] theorem State.setPort_au (s : State) (n : Nat) (x : MediaPort) : (s.setPort n x).au = s.au := rfl
@[simp] theorem State.setPort_tarn (s : State) (n : Nat) (x : MediaPort) : (s.setPort n x).tarn = s.tarn := rfl
@[simp] theorem State.setPort_sad (s : State) (n : Nat) (x : MediaPort) : (s.setPort n x).sad = s.sad := rfl
@[simp] theorem State.setPort_mor (s : State) (n : Nat) (x : MediaPort) : (s.setPort n x).mor = s.mor := rfl

@[simp] theorem State.setStrip_pending (s : State) (n : Nat) (x : Strip) : (s.setStrip n x).pending = s.pending := rfl
@[simp] theorem State.setStrip_out (s : State) (n : Nat) (x : Strip) : (s.setStrip n x).out = s.out := rfl
@[simp] theorem State.setStrip_fresh (s : State) (n : Nat) (x : Strip) : (s.setStrip n x).fresh = s.fresh := rfl
@[simp] theorem State.setStrip_now (s : State) (n : Nat) (x : Strip) : (s.setStrip n x).now = s.now := rfl
@[simp] theorem State.setStrip_tc (s : State) (n : Nat) (x : Strip) : (s.setStrip n x).tc = s.tc := rfl
@[simp] theorem State.setStrip_tcRest (s : State) (n : Nat) (x : Strip) : (s.setStrip n x).tcRest = s.tcRest := rfl
@[simp] theorem State.setStrip_objs (s : State) (n : Nat) (x : Strip) : (s.setStrip n x).objs = s.objs := rfl
@[simp] theorem State.setStrip_pinned (s : State) (n : Nat) (x : Strip) : (s.setStrip n x).pinned = s.pinned := rfl
@[simp] theorem State.setStrip_regs (s : State) (n : Nat) (x : Strip) : (s.setStrip n x).regs = s.regs := rfl
@[simp] theorem State.setStrip_mem (s : State) (n : Nat) (x : Strip) : (s.setStrip n x).mem = s.mem := rfl
@[simp] theorem State.setStrip_flash (s : State) (n : Nat) (x : Strip) : (s.setStrip n x).flash = s.flash := rfl
@[simp] theorem State.setStrip_boot (s : State) (n : Nat) (x : Strip) : (s.setStrip n x).boot = s.boot := rfl
@[simp] theorem State.setStrip_ev (s : State) (n : Nat) (x : Strip) : (s.setStrip n x).ev = s.ev := rfl
@[simp] theorem State.setStrip_il (s : State) (n : Nat) (x : Strip) : (s.setStrip n x).il = s.il := rfl
@[simp] theorem State.setStrip_ce (s : State) (n : Nat) (x : Strip) : (s.setStrip n x).ce = s.ce := rfl
@[simp] theorem State.setStrip_tw (s : State) (n : Nat) (x : Strip) : (s.setStrip n x).tw = s.tw := rfl
@[simp] theorem State.setStrip_st (s : State) (n : Nat) (x : Strip) : (s.setStrip n x).st = s.st := rfl
@[simp] theorem State.setStrip_up (s : State) (n : Nat) (x : Strip) : (s.setStrip n x).up = s.up := rfl
@[simp] theorem State.setStrip_osf (s : State) (n : Nat) (x : Strip) : (s.setStrip n x).osf = s.osf := rfl
@[simp] theorem State.setStrip_gate (s : State) (n : Nat) (x : Strip) : (s.setStrip n x).gate = s.gate := rfl
@[simp] theorem State.setStrip_ctl (s : State) (n : Nat) (x : Strip) : (s.setStrip n x).ctl = s.ctl := rfl
@[simp] theorem State.setStrip_colLast (s : State) (n : Nat) (x : Strip) : (s.setStrip n x).colLast = s.colLast := rfl
@[simp] theorem State.setStrip_scr (s : State) (n : Nat) (x : Strip) : (s.setStrip n x).scr = s.scr := rfl
@[simp] theorem State.setStrip_mon (s : State) (n : Nat) (x : Strip) : (s.setStrip n x).mon = s.mon := rfl
@[simp] theorem State.setStrip_sdiRx (s : State) (n : Nat) (x : Strip) : (s.setStrip n x).sdiRx = s.sdiRx := rfl
@[simp] theorem State.setStrip_sdiTx (s : State) (n : Nat) (x : Strip) : (s.setStrip n x).sdiTx = s.sdiTx := rfl
@[simp] theorem State.setStrip_ridge (s : State) (n : Nat) (x : Strip) : (s.setStrip n x).ridge = s.ridge := rfl
@[simp] theorem State.setStrip_cq (s : State) (n : Nat) (x : Strip) : (s.setStrip n x).cq = s.cq := rfl
@[simp] theorem State.setStrip_media (s : State) (n : Nat) (x : Strip) : (s.setStrip n x).media = s.media := rfl
@[simp] theorem State.setStrip_ws (s : State) (n : Nat) (x : Strip) : (s.setStrip n x).ws = s.ws := rfl
@[simp] theorem State.setStrip_tarn (s : State) (n : Nat) (x : Strip) : (s.setStrip n x).tarn = s.tarn := rfl
@[simp] theorem State.setStrip_sad (s : State) (n : Nat) (x : Strip) : (s.setStrip n x).sad = s.sad := rfl
@[simp] theorem State.setStrip_mor (s : State) (n : Nat) (x : Strip) : (s.setStrip n x).mor = s.mor := rfl

@[simp] theorem State.setBus_pending (s : State) (n : Nat) (x : Bus) : (s.setBus n x).pending = s.pending := rfl
@[simp] theorem State.setBus_out (s : State) (n : Nat) (x : Bus) : (s.setBus n x).out = s.out := rfl
@[simp] theorem State.setBus_fresh (s : State) (n : Nat) (x : Bus) : (s.setBus n x).fresh = s.fresh := rfl
@[simp] theorem State.setBus_now (s : State) (n : Nat) (x : Bus) : (s.setBus n x).now = s.now := rfl
@[simp] theorem State.setBus_tc (s : State) (n : Nat) (x : Bus) : (s.setBus n x).tc = s.tc := rfl
@[simp] theorem State.setBus_tcRest (s : State) (n : Nat) (x : Bus) : (s.setBus n x).tcRest = s.tcRest := rfl
@[simp] theorem State.setBus_objs (s : State) (n : Nat) (x : Bus) : (s.setBus n x).objs = s.objs := rfl
@[simp] theorem State.setBus_pinned (s : State) (n : Nat) (x : Bus) : (s.setBus n x).pinned = s.pinned := rfl
@[simp] theorem State.setBus_regs (s : State) (n : Nat) (x : Bus) : (s.setBus n x).regs = s.regs := rfl
@[simp] theorem State.setBus_mem (s : State) (n : Nat) (x : Bus) : (s.setBus n x).mem = s.mem := rfl
@[simp] theorem State.setBus_flash (s : State) (n : Nat) (x : Bus) : (s.setBus n x).flash = s.flash := rfl
@[simp] theorem State.setBus_boot (s : State) (n : Nat) (x : Bus) : (s.setBus n x).boot = s.boot := rfl
@[simp] theorem State.setBus_ev (s : State) (n : Nat) (x : Bus) : (s.setBus n x).ev = s.ev := rfl
@[simp] theorem State.setBus_il (s : State) (n : Nat) (x : Bus) : (s.setBus n x).il = s.il := rfl
@[simp] theorem State.setBus_ce (s : State) (n : Nat) (x : Bus) : (s.setBus n x).ce = s.ce := rfl
@[simp] theorem State.setBus_tw (s : State) (n : Nat) (x : Bus) : (s.setBus n x).tw = s.tw := rfl
@[simp] theorem State.setBus_st (s : State) (n : Nat) (x : Bus) : (s.setBus n x).st = s.st := rfl
@[simp] theorem State.setBus_up (s : State) (n : Nat) (x : Bus) : (s.setBus n x).up = s.up := rfl
@[simp] theorem State.setBus_osf (s : State) (n : Nat) (x : Bus) : (s.setBus n x).osf = s.osf := rfl
@[simp] theorem State.setBus_gate (s : State) (n : Nat) (x : Bus) : (s.setBus n x).gate = s.gate := rfl
@[simp] theorem State.setBus_ctl (s : State) (n : Nat) (x : Bus) : (s.setBus n x).ctl = s.ctl := rfl
@[simp] theorem State.setBus_colLast (s : State) (n : Nat) (x : Bus) : (s.setBus n x).colLast = s.colLast := rfl
@[simp] theorem State.setBus_scr (s : State) (n : Nat) (x : Bus) : (s.setBus n x).scr = s.scr := rfl
@[simp] theorem State.setBus_mon (s : State) (n : Nat) (x : Bus) : (s.setBus n x).mon = s.mon := rfl
@[simp] theorem State.setBus_sdiRx (s : State) (n : Nat) (x : Bus) : (s.setBus n x).sdiRx = s.sdiRx := rfl
@[simp] theorem State.setBus_sdiTx (s : State) (n : Nat) (x : Bus) : (s.setBus n x).sdiTx = s.sdiTx := rfl
@[simp] theorem State.setBus_ridge (s : State) (n : Nat) (x : Bus) : (s.setBus n x).ridge = s.ridge := rfl
@[simp] theorem State.setBus_cq (s : State) (n : Nat) (x : Bus) : (s.setBus n x).cq = s.cq := rfl
@[simp] theorem State.setBus_media (s : State) (n : Nat) (x : Bus) : (s.setBus n x).media = s.media := rfl
@[simp] theorem State.setBus_ws (s : State) (n : Nat) (x : Bus) : (s.setBus n x).ws = s.ws := rfl
@[simp] theorem State.setBus_tarn (s : State) (n : Nat) (x : Bus) : (s.setBus n x).tarn = s.tarn := rfl
@[simp] theorem State.setBus_sad (s : State) (n : Nat) (x : Bus) : (s.setBus n x).sad = s.sad := rfl
@[simp] theorem State.setBus_mor (s : State) (n : Nat) (x : Bus) : (s.setBus n x).mor = s.mor := rfl

@[simp] theorem State.setAout_pending (s : State) (n : Nat) (x : AOut) : (s.setAout n x).pending = s.pending := rfl
@[simp] theorem State.setAout_out (s : State) (n : Nat) (x : AOut) : (s.setAout n x).out = s.out := rfl
@[simp] theorem State.setAout_fresh (s : State) (n : Nat) (x : AOut) : (s.setAout n x).fresh = s.fresh := rfl
@[simp] theorem State.setAout_now (s : State) (n : Nat) (x : AOut) : (s.setAout n x).now = s.now := rfl
@[simp] theorem State.setAout_tc (s : State) (n : Nat) (x : AOut) : (s.setAout n x).tc = s.tc := rfl
@[simp] theorem State.setAout_tcRest (s : State) (n : Nat) (x : AOut) : (s.setAout n x).tcRest = s.tcRest := rfl
@[simp] theorem State.setAout_objs (s : State) (n : Nat) (x : AOut) : (s.setAout n x).objs = s.objs := rfl
@[simp] theorem State.setAout_pinned (s : State) (n : Nat) (x : AOut) : (s.setAout n x).pinned = s.pinned := rfl
@[simp] theorem State.setAout_regs (s : State) (n : Nat) (x : AOut) : (s.setAout n x).regs = s.regs := rfl
@[simp] theorem State.setAout_mem (s : State) (n : Nat) (x : AOut) : (s.setAout n x).mem = s.mem := rfl
@[simp] theorem State.setAout_flash (s : State) (n : Nat) (x : AOut) : (s.setAout n x).flash = s.flash := rfl
@[simp] theorem State.setAout_boot (s : State) (n : Nat) (x : AOut) : (s.setAout n x).boot = s.boot := rfl
@[simp] theorem State.setAout_ev (s : State) (n : Nat) (x : AOut) : (s.setAout n x).ev = s.ev := rfl
@[simp] theorem State.setAout_il (s : State) (n : Nat) (x : AOut) : (s.setAout n x).il = s.il := rfl
@[simp] theorem State.setAout_ce (s : State) (n : Nat) (x : AOut) : (s.setAout n x).ce = s.ce := rfl
@[simp] theorem State.setAout_tw (s : State) (n : Nat) (x : AOut) : (s.setAout n x).tw = s.tw := rfl
@[simp] theorem State.setAout_st (s : State) (n : Nat) (x : AOut) : (s.setAout n x).st = s.st := rfl
@[simp] theorem State.setAout_up (s : State) (n : Nat) (x : AOut) : (s.setAout n x).up = s.up := rfl
@[simp] theorem State.setAout_osf (s : State) (n : Nat) (x : AOut) : (s.setAout n x).osf = s.osf := rfl
@[simp] theorem State.setAout_gate (s : State) (n : Nat) (x : AOut) : (s.setAout n x).gate = s.gate := rfl
@[simp] theorem State.setAout_ctl (s : State) (n : Nat) (x : AOut) : (s.setAout n x).ctl = s.ctl := rfl
@[simp] theorem State.setAout_colLast (s : State) (n : Nat) (x : AOut) : (s.setAout n x).colLast = s.colLast := rfl
@[simp] theorem State.setAout_scr (s : State) (n : Nat) (x : AOut) : (s.setAout n x).scr = s.scr := rfl
@[simp] theorem State.setAout_mon (s : State) (n : Nat) (x : AOut) : (s.setAout n x).mon = s.mon := rfl
@[simp] theorem State.setAout_sdiRx (s : State) (n : Nat) (x : AOut) : (s.setAout n x).sdiRx = s.sdiRx := rfl
@[simp] theorem State.setAout_sdiTx (s : State) (n : Nat) (x : AOut) : (s.setAout n x).sdiTx = s.sdiTx := rfl
@[simp] theorem State.setAout_ridge (s : State) (n : Nat) (x : AOut) : (s.setAout n x).ridge = s.ridge := rfl
@[simp] theorem State.setAout_cq (s : State) (n : Nat) (x : AOut) : (s.setAout n x).cq = s.cq := rfl
@[simp] theorem State.setAout_media (s : State) (n : Nat) (x : AOut) : (s.setAout n x).media = s.media := rfl
@[simp] theorem State.setAout_ws (s : State) (n : Nat) (x : AOut) : (s.setAout n x).ws = s.ws := rfl
@[simp] theorem State.setAout_tarn (s : State) (n : Nat) (x : AOut) : (s.setAout n x).tarn = s.tarn := rfl
@[simp] theorem State.setAout_sad (s : State) (n : Nat) (x : AOut) : (s.setAout n x).sad = s.sad := rfl
@[simp] theorem State.setAout_mor (s : State) (n : Nat) (x : AOut) : (s.setAout n x).mor = s.mor := rfl

@[simp] theorem State.setTp_pending (s : State) (n : Nat) (x : TarnPort) : (s.setTp n x).pending = s.pending := rfl
@[simp] theorem State.setTp_out (s : State) (n : Nat) (x : TarnPort) : (s.setTp n x).out = s.out := rfl
@[simp] theorem State.setTp_fresh (s : State) (n : Nat) (x : TarnPort) : (s.setTp n x).fresh = s.fresh := rfl
@[simp] theorem State.setTp_now (s : State) (n : Nat) (x : TarnPort) : (s.setTp n x).now = s.now := rfl
@[simp] theorem State.setTp_tc (s : State) (n : Nat) (x : TarnPort) : (s.setTp n x).tc = s.tc := rfl
@[simp] theorem State.setTp_tcRest (s : State) (n : Nat) (x : TarnPort) : (s.setTp n x).tcRest = s.tcRest := rfl
@[simp] theorem State.setTp_objs (s : State) (n : Nat) (x : TarnPort) : (s.setTp n x).objs = s.objs := rfl
@[simp] theorem State.setTp_pinned (s : State) (n : Nat) (x : TarnPort) : (s.setTp n x).pinned = s.pinned := rfl
@[simp] theorem State.setTp_regs (s : State) (n : Nat) (x : TarnPort) : (s.setTp n x).regs = s.regs := rfl
@[simp] theorem State.setTp_mem (s : State) (n : Nat) (x : TarnPort) : (s.setTp n x).mem = s.mem := rfl
@[simp] theorem State.setTp_flash (s : State) (n : Nat) (x : TarnPort) : (s.setTp n x).flash = s.flash := rfl
@[simp] theorem State.setTp_boot (s : State) (n : Nat) (x : TarnPort) : (s.setTp n x).boot = s.boot := rfl
@[simp] theorem State.setTp_ev (s : State) (n : Nat) (x : TarnPort) : (s.setTp n x).ev = s.ev := rfl
@[simp] theorem State.setTp_il (s : State) (n : Nat) (x : TarnPort) : (s.setTp n x).il = s.il := rfl
@[simp] theorem State.setTp_ce (s : State) (n : Nat) (x : TarnPort) : (s.setTp n x).ce = s.ce := rfl
@[simp] theorem State.setTp_tw (s : State) (n : Nat) (x : TarnPort) : (s.setTp n x).tw = s.tw := rfl
@[simp] theorem State.setTp_st (s : State) (n : Nat) (x : TarnPort) : (s.setTp n x).st = s.st := rfl
@[simp] theorem State.setTp_up (s : State) (n : Nat) (x : TarnPort) : (s.setTp n x).up = s.up := rfl
@[simp] theorem State.setTp_osf (s : State) (n : Nat) (x : TarnPort) : (s.setTp n x).osf = s.osf := rfl
@[simp] theorem State.setTp_gate (s : State) (n : Nat) (x : TarnPort) : (s.setTp n x).gate = s.gate := rfl
@[simp] theorem State.setTp_ctl (s : State) (n : Nat) (x : TarnPort) : (s.setTp n x).ctl = s.ctl := rfl
@[simp] theorem State.setTp_colLast (s : State) (n : Nat) (x : TarnPort) : (s.setTp n x).colLast = s.colLast := rfl
@[simp] theorem State.setTp_scr (s : State) (n : Nat) (x : TarnPort) : (s.setTp n x).scr = s.scr := rfl
@[simp] theorem State.setTp_mon (s : State) (n : Nat) (x : TarnPort) : (s.setTp n x).mon = s.mon := rfl
@[simp] theorem State.setTp_sdiRx (s : State) (n : Nat) (x : TarnPort) : (s.setTp n x).sdiRx = s.sdiRx := rfl
@[simp] theorem State.setTp_sdiTx (s : State) (n : Nat) (x : TarnPort) : (s.setTp n x).sdiTx = s.sdiTx := rfl
@[simp] theorem State.setTp_ridge (s : State) (n : Nat) (x : TarnPort) : (s.setTp n x).ridge = s.ridge := rfl
@[simp] theorem State.setTp_cq (s : State) (n : Nat) (x : TarnPort) : (s.setTp n x).cq = s.cq := rfl
@[simp] theorem State.setTp_media (s : State) (n : Nat) (x : TarnPort) : (s.setTp n x).media = s.media := rfl
@[simp] theorem State.setTp_ws (s : State) (n : Nat) (x : TarnPort) : (s.setTp n x).ws = s.ws := rfl
@[simp] theorem State.setTp_au (s : State) (n : Nat) (x : TarnPort) : (s.setTp n x).au = s.au := rfl
@[simp] theorem State.setTp_sad (s : State) (n : Nat) (x : TarnPort) : (s.setTp n x).sad = s.sad := rfl
@[simp] theorem State.setTp_mor (s : State) (n : Nat) (x : TarnPort) : (s.setTp n x).mor = s.mor := rfl

@[simp] theorem State.setRef_pending (s : State) (n : Nat) (x : RefPart) : (s.setRef n x).pending = s.pending := rfl
@[simp] theorem State.setRef_out (s : State) (n : Nat) (x : RefPart) : (s.setRef n x).out = s.out := rfl
@[simp] theorem State.setRef_fresh (s : State) (n : Nat) (x : RefPart) : (s.setRef n x).fresh = s.fresh := rfl
@[simp] theorem State.setRef_now (s : State) (n : Nat) (x : RefPart) : (s.setRef n x).now = s.now := rfl
@[simp] theorem State.setRef_tc (s : State) (n : Nat) (x : RefPart) : (s.setRef n x).tc = s.tc := rfl
@[simp] theorem State.setRef_tcRest (s : State) (n : Nat) (x : RefPart) : (s.setRef n x).tcRest = s.tcRest := rfl
@[simp] theorem State.setRef_objs (s : State) (n : Nat) (x : RefPart) : (s.setRef n x).objs = s.objs := rfl
@[simp] theorem State.setRef_pinned (s : State) (n : Nat) (x : RefPart) : (s.setRef n x).pinned = s.pinned := rfl
@[simp] theorem State.setRef_regs (s : State) (n : Nat) (x : RefPart) : (s.setRef n x).regs = s.regs := rfl
@[simp] theorem State.setRef_mem (s : State) (n : Nat) (x : RefPart) : (s.setRef n x).mem = s.mem := rfl
@[simp] theorem State.setRef_flash (s : State) (n : Nat) (x : RefPart) : (s.setRef n x).flash = s.flash := rfl
@[simp] theorem State.setRef_boot (s : State) (n : Nat) (x : RefPart) : (s.setRef n x).boot = s.boot := rfl
@[simp] theorem State.setRef_ev (s : State) (n : Nat) (x : RefPart) : (s.setRef n x).ev = s.ev := rfl
@[simp] theorem State.setRef_il (s : State) (n : Nat) (x : RefPart) : (s.setRef n x).il = s.il := rfl
@[simp] theorem State.setRef_ce (s : State) (n : Nat) (x : RefPart) : (s.setRef n x).ce = s.ce := rfl
@[simp] theorem State.setRef_tw (s : State) (n : Nat) (x : RefPart) : (s.setRef n x).tw = s.tw := rfl
@[simp] theorem State.setRef_st (s : State) (n : Nat) (x : RefPart) : (s.setRef n x).st = s.st := rfl
@[simp] theorem State.setRef_up (s : State) (n : Nat) (x : RefPart) : (s.setRef n x).up = s.up := rfl
@[simp] theorem State.setRef_osf (s : State) (n : Nat) (x : RefPart) : (s.setRef n x).osf = s.osf := rfl
@[simp] theorem State.setRef_gate (s : State) (n : Nat) (x : RefPart) : (s.setRef n x).gate = s.gate := rfl
@[simp] theorem State.setRef_ctl (s : State) (n : Nat) (x : RefPart) : (s.setRef n x).ctl = s.ctl := rfl
@[simp] theorem State.setRef_colLast (s : State) (n : Nat) (x : RefPart) : (s.setRef n x).colLast = s.colLast := rfl
@[simp] theorem State.setRef_scr (s : State) (n : Nat) (x : RefPart) : (s.setRef n x).scr = s.scr := rfl
@[simp] theorem State.setRef_mon (s : State) (n : Nat) (x : RefPart) : (s.setRef n x).mon = s.mon := rfl
@[simp] theorem State.setRef_sdiRx (s : State) (n : Nat) (x : RefPart) : (s.setRef n x).sdiRx = s.sdiRx := rfl
@[simp] theorem State.setRef_sdiTx (s : State) (n : Nat) (x : RefPart) : (s.setRef n x).sdiTx = s.sdiTx := rfl
@[simp] theorem State.setRef_ridge (s : State) (n : Nat) (x : RefPart) : (s.setRef n x).ridge = s.ridge := rfl
@[simp] theorem State.setRef_cq (s : State) (n : Nat) (x : RefPart) : (s.setRef n x).cq = s.cq := rfl
@[simp] theorem State.setRef_media (s : State) (n : Nat) (x : RefPart) : (s.setRef n x).media = s.media := rfl
@[simp] theorem State.setRef_au (s : State) (n : Nat) (x : RefPart) : (s.setRef n x).au = s.au := rfl
@[simp] theorem State.setRef_tarn (s : State) (n : Nat) (x : RefPart) : (s.setRef n x).tarn = s.tarn := rfl
@[simp] theorem State.setRef_sad (s : State) (n : Nat) (x : RefPart) : (s.setRef n x).sad = s.sad := rfl
@[simp] theorem State.setRef_mor (s : State) (n : Nat) (x : RefPart) : (s.setRef n x).mor = s.mor := rfl

@[simp] theorem State.setFp_pending (s : State) (n : Nat) (x : FpOut) : (s.setFp n x).pending = s.pending := rfl
@[simp] theorem State.setFp_out (s : State) (n : Nat) (x : FpOut) : (s.setFp n x).out = s.out := rfl
@[simp] theorem State.setFp_fresh (s : State) (n : Nat) (x : FpOut) : (s.setFp n x).fresh = s.fresh := rfl
@[simp] theorem State.setFp_now (s : State) (n : Nat) (x : FpOut) : (s.setFp n x).now = s.now := rfl
@[simp] theorem State.setFp_tc (s : State) (n : Nat) (x : FpOut) : (s.setFp n x).tc = s.tc := rfl
@[simp] theorem State.setFp_tcRest (s : State) (n : Nat) (x : FpOut) : (s.setFp n x).tcRest = s.tcRest := rfl
@[simp] theorem State.setFp_objs (s : State) (n : Nat) (x : FpOut) : (s.setFp n x).objs = s.objs := rfl
@[simp] theorem State.setFp_pinned (s : State) (n : Nat) (x : FpOut) : (s.setFp n x).pinned = s.pinned := rfl
@[simp] theorem State.setFp_regs (s : State) (n : Nat) (x : FpOut) : (s.setFp n x).regs = s.regs := rfl
@[simp] theorem State.setFp_mem (s : State) (n : Nat) (x : FpOut) : (s.setFp n x).mem = s.mem := rfl
@[simp] theorem State.setFp_flash (s : State) (n : Nat) (x : FpOut) : (s.setFp n x).flash = s.flash := rfl
@[simp] theorem State.setFp_boot (s : State) (n : Nat) (x : FpOut) : (s.setFp n x).boot = s.boot := rfl
@[simp] theorem State.setFp_ev (s : State) (n : Nat) (x : FpOut) : (s.setFp n x).ev = s.ev := rfl
@[simp] theorem State.setFp_il (s : State) (n : Nat) (x : FpOut) : (s.setFp n x).il = s.il := rfl
@[simp] theorem State.setFp_ce (s : State) (n : Nat) (x : FpOut) : (s.setFp n x).ce = s.ce := rfl
@[simp] theorem State.setFp_tw (s : State) (n : Nat) (x : FpOut) : (s.setFp n x).tw = s.tw := rfl
@[simp] theorem State.setFp_st (s : State) (n : Nat) (x : FpOut) : (s.setFp n x).st = s.st := rfl
@[simp] theorem State.setFp_up (s : State) (n : Nat) (x : FpOut) : (s.setFp n x).up = s.up := rfl
@[simp] theorem State.setFp_osf (s : State) (n : Nat) (x : FpOut) : (s.setFp n x).osf = s.osf := rfl
@[simp] theorem State.setFp_gate (s : State) (n : Nat) (x : FpOut) : (s.setFp n x).gate = s.gate := rfl
@[simp] theorem State.setFp_ctl (s : State) (n : Nat) (x : FpOut) : (s.setFp n x).ctl = s.ctl := rfl
@[simp] theorem State.setFp_colLast (s : State) (n : Nat) (x : FpOut) : (s.setFp n x).colLast = s.colLast := rfl
@[simp] theorem State.setFp_scr (s : State) (n : Nat) (x : FpOut) : (s.setFp n x).scr = s.scr := rfl
@[simp] theorem State.setFp_mon (s : State) (n : Nat) (x : FpOut) : (s.setFp n x).mon = s.mon := rfl
@[simp] theorem State.setFp_sdiRx (s : State) (n : Nat) (x : FpOut) : (s.setFp n x).sdiRx = s.sdiRx := rfl
@[simp] theorem State.setFp_sdiTx (s : State) (n : Nat) (x : FpOut) : (s.setFp n x).sdiTx = s.sdiTx := rfl
@[simp] theorem State.setFp_ridge (s : State) (n : Nat) (x : FpOut) : (s.setFp n x).ridge = s.ridge := rfl
@[simp] theorem State.setFp_cq (s : State) (n : Nat) (x : FpOut) : (s.setFp n x).cq = s.cq := rfl
@[simp] theorem State.setFp_media (s : State) (n : Nat) (x : FpOut) : (s.setFp n x).media = s.media := rfl
@[simp] theorem State.setFp_au (s : State) (n : Nat) (x : FpOut) : (s.setFp n x).au = s.au := rfl
@[simp] theorem State.setFp_tarn (s : State) (n : Nat) (x : FpOut) : (s.setFp n x).tarn = s.tarn := rfl
@[simp] theorem State.setFp_sad (s : State) (n : Nat) (x : FpOut) : (s.setFp n x).sad = s.sad := rfl
@[simp] theorem State.setFp_mor (s : State) (n : Nat) (x : FpOut) : (s.setFp n x).mor = s.mor := rfl

@[simp] theorem State.setSl_pending (s : State) (n : Nat) (x : SaddleLane) : (s.setSl n x).pending = s.pending := rfl
@[simp] theorem State.setSl_out (s : State) (n : Nat) (x : SaddleLane) : (s.setSl n x).out = s.out := rfl
@[simp] theorem State.setSl_fresh (s : State) (n : Nat) (x : SaddleLane) : (s.setSl n x).fresh = s.fresh := rfl
@[simp] theorem State.setSl_now (s : State) (n : Nat) (x : SaddleLane) : (s.setSl n x).now = s.now := rfl
@[simp] theorem State.setSl_tc (s : State) (n : Nat) (x : SaddleLane) : (s.setSl n x).tc = s.tc := rfl
@[simp] theorem State.setSl_tcRest (s : State) (n : Nat) (x : SaddleLane) : (s.setSl n x).tcRest = s.tcRest := rfl
@[simp] theorem State.setSl_objs (s : State) (n : Nat) (x : SaddleLane) : (s.setSl n x).objs = s.objs := rfl
@[simp] theorem State.setSl_pinned (s : State) (n : Nat) (x : SaddleLane) : (s.setSl n x).pinned = s.pinned := rfl
@[simp] theorem State.setSl_regs (s : State) (n : Nat) (x : SaddleLane) : (s.setSl n x).regs = s.regs := rfl
@[simp] theorem State.setSl_mem (s : State) (n : Nat) (x : SaddleLane) : (s.setSl n x).mem = s.mem := rfl
@[simp] theorem State.setSl_flash (s : State) (n : Nat) (x : SaddleLane) : (s.setSl n x).flash = s.flash := rfl
@[simp] theorem State.setSl_boot (s : State) (n : Nat) (x : SaddleLane) : (s.setSl n x).boot = s.boot := rfl
@[simp] theorem State.setSl_ev (s : State) (n : Nat) (x : SaddleLane) : (s.setSl n x).ev = s.ev := rfl
@[simp] theorem State.setSl_il (s : State) (n : Nat) (x : SaddleLane) : (s.setSl n x).il = s.il := rfl
@[simp] theorem State.setSl_ce (s : State) (n : Nat) (x : SaddleLane) : (s.setSl n x).ce = s.ce := rfl
@[simp] theorem State.setSl_tw (s : State) (n : Nat) (x : SaddleLane) : (s.setSl n x).tw = s.tw := rfl
@[simp] theorem State.setSl_st (s : State) (n : Nat) (x : SaddleLane) : (s.setSl n x).st = s.st := rfl
@[simp] theorem State.setSl_up (s : State) (n : Nat) (x : SaddleLane) : (s.setSl n x).up = s.up := rfl
@[simp] theorem State.setSl_osf (s : State) (n : Nat) (x : SaddleLane) : (s.setSl n x).osf = s.osf := rfl
@[simp] theorem State.setSl_gate (s : State) (n : Nat) (x : SaddleLane) : (s.setSl n x).gate = s.gate := rfl
@[simp] theorem State.setSl_ctl (s : State) (n : Nat) (x : SaddleLane) : (s.setSl n x).ctl = s.ctl := rfl
@[simp] theorem State.setSl_colLast (s : State) (n : Nat) (x : SaddleLane) : (s.setSl n x).colLast = s.colLast := rfl
@[simp] theorem State.setSl_scr (s : State) (n : Nat) (x : SaddleLane) : (s.setSl n x).scr = s.scr := rfl
@[simp] theorem State.setSl_mon (s : State) (n : Nat) (x : SaddleLane) : (s.setSl n x).mon = s.mon := rfl
@[simp] theorem State.setSl_sdiRx (s : State) (n : Nat) (x : SaddleLane) : (s.setSl n x).sdiRx = s.sdiRx := rfl
@[simp] theorem State.setSl_sdiTx (s : State) (n : Nat) (x : SaddleLane) : (s.setSl n x).sdiTx = s.sdiTx := rfl
@[simp] theorem State.setSl_ridge (s : State) (n : Nat) (x : SaddleLane) : (s.setSl n x).ridge = s.ridge := rfl
@[simp] theorem State.setSl_cq (s : State) (n : Nat) (x : SaddleLane) : (s.setSl n x).cq = s.cq := rfl
@[simp] theorem State.setSl_media (s : State) (n : Nat) (x : SaddleLane) : (s.setSl n x).media = s.media := rfl
@[simp] theorem State.setSl_ws (s : State) (n : Nat) (x : SaddleLane) : (s.setSl n x).ws = s.ws := rfl
@[simp] theorem State.setSl_au (s : State) (n : Nat) (x : SaddleLane) : (s.setSl n x).au = s.au := rfl
@[simp] theorem State.setSl_tarn (s : State) (n : Nat) (x : SaddleLane) : (s.setSl n x).tarn = s.tarn := rfl
@[simp] theorem State.setSl_mor (s : State) (n : Nat) (x : SaddleLane) : (s.setSl n x).mor = s.mor := rfl

@[simp] theorem State.setDrive_pending (s : State) (n : Nat) (x : Drive) : (s.setDrive n x).pending = s.pending := rfl
@[simp] theorem State.setDrive_out (s : State) (n : Nat) (x : Drive) : (s.setDrive n x).out = s.out := rfl
@[simp] theorem State.setDrive_fresh (s : State) (n : Nat) (x : Drive) : (s.setDrive n x).fresh = s.fresh := rfl
@[simp] theorem State.setDrive_now (s : State) (n : Nat) (x : Drive) : (s.setDrive n x).now = s.now := rfl
@[simp] theorem State.setDrive_tc (s : State) (n : Nat) (x : Drive) : (s.setDrive n x).tc = s.tc := rfl
@[simp] theorem State.setDrive_tcRest (s : State) (n : Nat) (x : Drive) : (s.setDrive n x).tcRest = s.tcRest := rfl
@[simp] theorem State.setDrive_objs (s : State) (n : Nat) (x : Drive) : (s.setDrive n x).objs = s.objs := rfl
@[simp] theorem State.setDrive_pinned (s : State) (n : Nat) (x : Drive) : (s.setDrive n x).pinned = s.pinned := rfl
@[simp] theorem State.setDrive_regs (s : State) (n : Nat) (x : Drive) : (s.setDrive n x).regs = s.regs := rfl
@[simp] theorem State.setDrive_mem (s : State) (n : Nat) (x : Drive) : (s.setDrive n x).mem = s.mem := rfl
@[simp] theorem State.setDrive_flash (s : State) (n : Nat) (x : Drive) : (s.setDrive n x).flash = s.flash := rfl
@[simp] theorem State.setDrive_boot (s : State) (n : Nat) (x : Drive) : (s.setDrive n x).boot = s.boot := rfl
@[simp] theorem State.setDrive_ev (s : State) (n : Nat) (x : Drive) : (s.setDrive n x).ev = s.ev := rfl
@[simp] theorem State.setDrive_il (s : State) (n : Nat) (x : Drive) : (s.setDrive n x).il = s.il := rfl
@[simp] theorem State.setDrive_ce (s : State) (n : Nat) (x : Drive) : (s.setDrive n x).ce = s.ce := rfl
@[simp] theorem State.setDrive_tw (s : State) (n : Nat) (x : Drive) : (s.setDrive n x).tw = s.tw := rfl
@[simp] theorem State.setDrive_st (s : State) (n : Nat) (x : Drive) : (s.setDrive n x).st = s.st := rfl
@[simp] theorem State.setDrive_up (s : State) (n : Nat) (x : Drive) : (s.setDrive n x).up = s.up := rfl
@[simp] theorem State.setDrive_osf (s : State) (n : Nat) (x : Drive) : (s.setDrive n x).osf = s.osf := rfl
@[simp] theorem State.setDrive_gate (s : State) (n : Nat) (x : Drive) : (s.setDrive n x).gate = s.gate := rfl
@[simp] theorem State.setDrive_ctl (s : State) (n : Nat) (x : Drive) : (s.setDrive n x).ctl = s.ctl := rfl
@[simp] theorem State.setDrive_colLast (s : State) (n : Nat) (x : Drive) : (s.setDrive n x).colLast = s.colLast := rfl
@[simp] theorem State.setDrive_scr (s : State) (n : Nat) (x : Drive) : (s.setDrive n x).scr = s.scr := rfl
@[simp] theorem State.setDrive_mon (s : State) (n : Nat) (x : Drive) : (s.setDrive n x).mon = s.mon := rfl
@[simp] theorem State.setDrive_sdiRx (s : State) (n : Nat) (x : Drive) : (s.setDrive n x).sdiRx = s.sdiRx := rfl
@[simp] theorem State.setDrive_sdiTx (s : State) (n : Nat) (x : Drive) : (s.setDrive n x).sdiTx = s.sdiTx := rfl
@[simp] theorem State.setDrive_ridge (s : State) (n : Nat) (x : Drive) : (s.setDrive n x).ridge = s.ridge := rfl
@[simp] theorem State.setDrive_cq (s : State) (n : Nat) (x : Drive) : (s.setDrive n x).cq = s.cq := rfl
@[simp] theorem State.setDrive_media (s : State) (n : Nat) (x : Drive) : (s.setDrive n x).media = s.media := rfl
@[simp] theorem State.setDrive_ws (s : State) (n : Nat) (x : Drive) : (s.setDrive n x).ws = s.ws := rfl
@[simp] theorem State.setDrive_au (s : State) (n : Nat) (x : Drive) : (s.setDrive n x).au = s.au := rfl
@[simp] theorem State.setDrive_tarn (s : State) (n : Nat) (x : Drive) : (s.setDrive n x).tarn = s.tarn := rfl
@[simp] theorem State.setDrive_sad (s : State) (n : Nat) (x : Drive) : (s.setDrive n x).sad = s.sad := rfl

@[simp] theorem State.setClip_pending (s : State) (n : Nat) (x : Clip) : (s.setClip n x).pending = s.pending := rfl
@[simp] theorem State.setClip_out (s : State) (n : Nat) (x : Clip) : (s.setClip n x).out = s.out := rfl
@[simp] theorem State.setClip_fresh (s : State) (n : Nat) (x : Clip) : (s.setClip n x).fresh = s.fresh := rfl
@[simp] theorem State.setClip_now (s : State) (n : Nat) (x : Clip) : (s.setClip n x).now = s.now := rfl
@[simp] theorem State.setClip_tc (s : State) (n : Nat) (x : Clip) : (s.setClip n x).tc = s.tc := rfl
@[simp] theorem State.setClip_tcRest (s : State) (n : Nat) (x : Clip) : (s.setClip n x).tcRest = s.tcRest := rfl
@[simp] theorem State.setClip_objs (s : State) (n : Nat) (x : Clip) : (s.setClip n x).objs = s.objs := rfl
@[simp] theorem State.setClip_pinned (s : State) (n : Nat) (x : Clip) : (s.setClip n x).pinned = s.pinned := rfl
@[simp] theorem State.setClip_regs (s : State) (n : Nat) (x : Clip) : (s.setClip n x).regs = s.regs := rfl
@[simp] theorem State.setClip_mem (s : State) (n : Nat) (x : Clip) : (s.setClip n x).mem = s.mem := rfl
@[simp] theorem State.setClip_flash (s : State) (n : Nat) (x : Clip) : (s.setClip n x).flash = s.flash := rfl
@[simp] theorem State.setClip_boot (s : State) (n : Nat) (x : Clip) : (s.setClip n x).boot = s.boot := rfl
@[simp] theorem State.setClip_ev (s : State) (n : Nat) (x : Clip) : (s.setClip n x).ev = s.ev := rfl
@[simp] theorem State.setClip_il (s : State) (n : Nat) (x : Clip) : (s.setClip n x).il = s.il := rfl
@[simp] theorem State.setClip_ce (s : State) (n : Nat) (x : Clip) : (s.setClip n x).ce = s.ce := rfl
@[simp] theorem State.setClip_tw (s : State) (n : Nat) (x : Clip) : (s.setClip n x).tw = s.tw := rfl
@[simp] theorem State.setClip_st (s : State) (n : Nat) (x : Clip) : (s.setClip n x).st = s.st := rfl
@[simp] theorem State.setClip_up (s : State) (n : Nat) (x : Clip) : (s.setClip n x).up = s.up := rfl
@[simp] theorem State.setClip_osf (s : State) (n : Nat) (x : Clip) : (s.setClip n x).osf = s.osf := rfl
@[simp] theorem State.setClip_gate (s : State) (n : Nat) (x : Clip) : (s.setClip n x).gate = s.gate := rfl
@[simp] theorem State.setClip_ctl (s : State) (n : Nat) (x : Clip) : (s.setClip n x).ctl = s.ctl := rfl
@[simp] theorem State.setClip_colLast (s : State) (n : Nat) (x : Clip) : (s.setClip n x).colLast = s.colLast := rfl
@[simp] theorem State.setClip_scr (s : State) (n : Nat) (x : Clip) : (s.setClip n x).scr = s.scr := rfl
@[simp] theorem State.setClip_mon (s : State) (n : Nat) (x : Clip) : (s.setClip n x).mon = s.mon := rfl
@[simp] theorem State.setClip_sdiRx (s : State) (n : Nat) (x : Clip) : (s.setClip n x).sdiRx = s.sdiRx := rfl
@[simp] theorem State.setClip_sdiTx (s : State) (n : Nat) (x : Clip) : (s.setClip n x).sdiTx = s.sdiTx := rfl
@[simp] theorem State.setClip_ridge (s : State) (n : Nat) (x : Clip) : (s.setClip n x).ridge = s.ridge := rfl
@[simp] theorem State.setClip_cq (s : State) (n : Nat) (x : Clip) : (s.setClip n x).cq = s.cq := rfl
@[simp] theorem State.setClip_media (s : State) (n : Nat) (x : Clip) : (s.setClip n x).media = s.media := rfl
@[simp] theorem State.setClip_ws (s : State) (n : Nat) (x : Clip) : (s.setClip n x).ws = s.ws := rfl
@[simp] theorem State.setClip_au (s : State) (n : Nat) (x : Clip) : (s.setClip n x).au = s.au := rfl
@[simp] theorem State.setClip_tarn (s : State) (n : Nat) (x : Clip) : (s.setClip n x).tarn = s.tarn := rfl
@[simp] theorem State.setClip_sad (s : State) (n : Nat) (x : Clip) : (s.setClip n x).sad = s.sad := rfl

@[simp] theorem State.setLine_pending (s : State) (n : Nat) (x : DelayLine) : (s.setLine n x).pending = s.pending := rfl
@[simp] theorem State.setLine_out (s : State) (n : Nat) (x : DelayLine) : (s.setLine n x).out = s.out := rfl
@[simp] theorem State.setLine_fresh (s : State) (n : Nat) (x : DelayLine) : (s.setLine n x).fresh = s.fresh := rfl
@[simp] theorem State.setLine_now (s : State) (n : Nat) (x : DelayLine) : (s.setLine n x).now = s.now := rfl
@[simp] theorem State.setLine_tc (s : State) (n : Nat) (x : DelayLine) : (s.setLine n x).tc = s.tc := rfl
@[simp] theorem State.setLine_tcRest (s : State) (n : Nat) (x : DelayLine) : (s.setLine n x).tcRest = s.tcRest := rfl
@[simp] theorem State.setLine_pinned (s : State) (n : Nat) (x : DelayLine) : (s.setLine n x).pinned = s.pinned := rfl
@[simp] theorem State.setLine_regs (s : State) (n : Nat) (x : DelayLine) : (s.setLine n x).regs = s.regs := rfl
@[simp] theorem State.setLine_mem (s : State) (n : Nat) (x : DelayLine) : (s.setLine n x).mem = s.mem := rfl
@[simp] theorem State.setLine_flash (s : State) (n : Nat) (x : DelayLine) : (s.setLine n x).flash = s.flash := rfl
@[simp] theorem State.setLine_boot (s : State) (n : Nat) (x : DelayLine) : (s.setLine n x).boot = s.boot := rfl
@[simp] theorem State.setLine_ev (s : State) (n : Nat) (x : DelayLine) : (s.setLine n x).ev = s.ev := rfl
@[simp] theorem State.setLine_il (s : State) (n : Nat) (x : DelayLine) : (s.setLine n x).il = s.il := rfl
@[simp] theorem State.setLine_ce (s : State) (n : Nat) (x : DelayLine) : (s.setLine n x).ce = s.ce := rfl
@[simp] theorem State.setLine_tw (s : State) (n : Nat) (x : DelayLine) : (s.setLine n x).tw = s.tw := rfl
@[simp] theorem State.setLine_st (s : State) (n : Nat) (x : DelayLine) : (s.setLine n x).st = s.st := rfl
@[simp] theorem State.setLine_up (s : State) (n : Nat) (x : DelayLine) : (s.setLine n x).up = s.up := rfl
@[simp] theorem State.setLine_osf (s : State) (n : Nat) (x : DelayLine) : (s.setLine n x).osf = s.osf := rfl
@[simp] theorem State.setLine_gate (s : State) (n : Nat) (x : DelayLine) : (s.setLine n x).gate = s.gate := rfl
@[simp] theorem State.setLine_ctl (s : State) (n : Nat) (x : DelayLine) : (s.setLine n x).ctl = s.ctl := rfl
@[simp] theorem State.setLine_colLast (s : State) (n : Nat) (x : DelayLine) : (s.setLine n x).colLast = s.colLast := rfl
@[simp] theorem State.setLine_scr (s : State) (n : Nat) (x : DelayLine) : (s.setLine n x).scr = s.scr := rfl
@[simp] theorem State.setLine_mon (s : State) (n : Nat) (x : DelayLine) : (s.setLine n x).mon = s.mon := rfl
@[simp] theorem State.setLine_sdiRx (s : State) (n : Nat) (x : DelayLine) : (s.setLine n x).sdiRx = s.sdiRx := rfl
@[simp] theorem State.setLine_sdiTx (s : State) (n : Nat) (x : DelayLine) : (s.setLine n x).sdiTx = s.sdiTx := rfl
@[simp] theorem State.setLine_ridge (s : State) (n : Nat) (x : DelayLine) : (s.setLine n x).ridge = s.ridge := rfl
@[simp] theorem State.setLine_cq (s : State) (n : Nat) (x : DelayLine) : (s.setLine n x).cq = s.cq := rfl
@[simp] theorem State.setLine_media (s : State) (n : Nat) (x : DelayLine) : (s.setLine n x).media = s.media := rfl
@[simp] theorem State.setLine_ws (s : State) (n : Nat) (x : DelayLine) : (s.setLine n x).ws = s.ws := rfl
@[simp] theorem State.setLine_au (s : State) (n : Nat) (x : DelayLine) : (s.setLine n x).au = s.au := rfl
@[simp] theorem State.setLine_tarn (s : State) (n : Nat) (x : DelayLine) : (s.setLine n x).tarn = s.tarn := rfl
@[simp] theorem State.setLine_sad (s : State) (n : Nat) (x : DelayLine) : (s.setLine n x).sad = s.sad := rfl

@[simp] theorem State.setRecorder_pending (s : State) (n : Nat) (x : Recorder) : (s.setRecorder n x).pending = s.pending := rfl
@[simp] theorem State.setRecorder_out (s : State) (n : Nat) (x : Recorder) : (s.setRecorder n x).out = s.out := rfl
@[simp] theorem State.setRecorder_fresh (s : State) (n : Nat) (x : Recorder) : (s.setRecorder n x).fresh = s.fresh := rfl
@[simp] theorem State.setRecorder_now (s : State) (n : Nat) (x : Recorder) : (s.setRecorder n x).now = s.now := rfl
@[simp] theorem State.setRecorder_tc (s : State) (n : Nat) (x : Recorder) : (s.setRecorder n x).tc = s.tc := rfl
@[simp] theorem State.setRecorder_tcRest (s : State) (n : Nat) (x : Recorder) : (s.setRecorder n x).tcRest = s.tcRest := rfl
@[simp] theorem State.setRecorder_objs (s : State) (n : Nat) (x : Recorder) : (s.setRecorder n x).objs = s.objs := rfl
@[simp] theorem State.setRecorder_pinned (s : State) (n : Nat) (x : Recorder) : (s.setRecorder n x).pinned = s.pinned := rfl
@[simp] theorem State.setRecorder_regs (s : State) (n : Nat) (x : Recorder) : (s.setRecorder n x).regs = s.regs := rfl
@[simp] theorem State.setRecorder_mem (s : State) (n : Nat) (x : Recorder) : (s.setRecorder n x).mem = s.mem := rfl
@[simp] theorem State.setRecorder_flash (s : State) (n : Nat) (x : Recorder) : (s.setRecorder n x).flash = s.flash := rfl
@[simp] theorem State.setRecorder_boot (s : State) (n : Nat) (x : Recorder) : (s.setRecorder n x).boot = s.boot := rfl
@[simp] theorem State.setRecorder_ev (s : State) (n : Nat) (x : Recorder) : (s.setRecorder n x).ev = s.ev := rfl
@[simp] theorem State.setRecorder_il (s : State) (n : Nat) (x : Recorder) : (s.setRecorder n x).il = s.il := rfl
@[simp] theorem State.setRecorder_ce (s : State) (n : Nat) (x : Recorder) : (s.setRecorder n x).ce = s.ce := rfl
@[simp] theorem State.setRecorder_tw (s : State) (n : Nat) (x : Recorder) : (s.setRecorder n x).tw = s.tw := rfl
@[simp] theorem State.setRecorder_st (s : State) (n : Nat) (x : Recorder) : (s.setRecorder n x).st = s.st := rfl
@[simp] theorem State.setRecorder_up (s : State) (n : Nat) (x : Recorder) : (s.setRecorder n x).up = s.up := rfl
@[simp] theorem State.setRecorder_osf (s : State) (n : Nat) (x : Recorder) : (s.setRecorder n x).osf = s.osf := rfl
@[simp] theorem State.setRecorder_gate (s : State) (n : Nat) (x : Recorder) : (s.setRecorder n x).gate = s.gate := rfl
@[simp] theorem State.setRecorder_ctl (s : State) (n : Nat) (x : Recorder) : (s.setRecorder n x).ctl = s.ctl := rfl
@[simp] theorem State.setRecorder_colLast (s : State) (n : Nat) (x : Recorder) : (s.setRecorder n x).colLast = s.colLast := rfl
@[simp] theorem State.setRecorder_scr (s : State) (n : Nat) (x : Recorder) : (s.setRecorder n x).scr = s.scr := rfl
@[simp] theorem State.setRecorder_mon (s : State) (n : Nat) (x : Recorder) : (s.setRecorder n x).mon = s.mon := rfl
@[simp] theorem State.setRecorder_sdiRx (s : State) (n : Nat) (x : Recorder) : (s.setRecorder n x).sdiRx = s.sdiRx := rfl
@[simp] theorem State.setRecorder_sdiTx (s : State) (n : Nat) (x : Recorder) : (s.setRecorder n x).sdiTx = s.sdiTx := rfl
@[simp] theorem State.setRecorder_ridge (s : State) (n : Nat) (x : Recorder) : (s.setRecorder n x).ridge = s.ridge := rfl
@[simp] theorem State.setRecorder_cq (s : State) (n : Nat) (x : Recorder) : (s.setRecorder n x).cq = s.cq := rfl
@[simp] theorem State.setRecorder_media (s : State) (n : Nat) (x : Recorder) : (s.setRecorder n x).media = s.media := rfl
@[simp] theorem State.setRecorder_ws (s : State) (n : Nat) (x : Recorder) : (s.setRecorder n x).ws = s.ws := rfl
@[simp] theorem State.setRecorder_au (s : State) (n : Nat) (x : Recorder) : (s.setRecorder n x).au = s.au := rfl
@[simp] theorem State.setRecorder_tarn (s : State) (n : Nat) (x : Recorder) : (s.setRecorder n x).tarn = s.tarn := rfl
@[simp] theorem State.setRecorder_sad (s : State) (n : Nat) (x : Recorder) : (s.setRecorder n x).sad = s.sad := rfl

@[simp] theorem State.setPlayer_pending (s : State) (n : Nat) (x : Player) : (s.setPlayer n x).pending = s.pending := rfl
@[simp] theorem State.setPlayer_out (s : State) (n : Nat) (x : Player) : (s.setPlayer n x).out = s.out := rfl
@[simp] theorem State.setPlayer_fresh (s : State) (n : Nat) (x : Player) : (s.setPlayer n x).fresh = s.fresh := rfl
@[simp] theorem State.setPlayer_now (s : State) (n : Nat) (x : Player) : (s.setPlayer n x).now = s.now := rfl
@[simp] theorem State.setPlayer_tc (s : State) (n : Nat) (x : Player) : (s.setPlayer n x).tc = s.tc := rfl
@[simp] theorem State.setPlayer_tcRest (s : State) (n : Nat) (x : Player) : (s.setPlayer n x).tcRest = s.tcRest := rfl
@[simp] theorem State.setPlayer_objs (s : State) (n : Nat) (x : Player) : (s.setPlayer n x).objs = s.objs := rfl
@[simp] theorem State.setPlayer_pinned (s : State) (n : Nat) (x : Player) : (s.setPlayer n x).pinned = s.pinned := rfl
@[simp] theorem State.setPlayer_regs (s : State) (n : Nat) (x : Player) : (s.setPlayer n x).regs = s.regs := rfl
@[simp] theorem State.setPlayer_mem (s : State) (n : Nat) (x : Player) : (s.setPlayer n x).mem = s.mem := rfl
@[simp] theorem State.setPlayer_flash (s : State) (n : Nat) (x : Player) : (s.setPlayer n x).flash = s.flash := rfl
@[simp] theorem State.setPlayer_boot (s : State) (n : Nat) (x : Player) : (s.setPlayer n x).boot = s.boot := rfl
@[simp] theorem State.setPlayer_ev (s : State) (n : Nat) (x : Player) : (s.setPlayer n x).ev = s.ev := rfl
@[simp] theorem State.setPlayer_il (s : State) (n : Nat) (x : Player) : (s.setPlayer n x).il = s.il := rfl
@[simp] theorem State.setPlayer_ce (s : State) (n : Nat) (x : Player) : (s.setPlayer n x).ce = s.ce := rfl
@[simp] theorem State.setPlayer_tw (s : State) (n : Nat) (x : Player) : (s.setPlayer n x).tw = s.tw := rfl
@[simp] theorem State.setPlayer_st (s : State) (n : Nat) (x : Player) : (s.setPlayer n x).st = s.st := rfl
@[simp] theorem State.setPlayer_up (s : State) (n : Nat) (x : Player) : (s.setPlayer n x).up = s.up := rfl
@[simp] theorem State.setPlayer_osf (s : State) (n : Nat) (x : Player) : (s.setPlayer n x).osf = s.osf := rfl
@[simp] theorem State.setPlayer_gate (s : State) (n : Nat) (x : Player) : (s.setPlayer n x).gate = s.gate := rfl
@[simp] theorem State.setPlayer_ctl (s : State) (n : Nat) (x : Player) : (s.setPlayer n x).ctl = s.ctl := rfl
@[simp] theorem State.setPlayer_colLast (s : State) (n : Nat) (x : Player) : (s.setPlayer n x).colLast = s.colLast := rfl
@[simp] theorem State.setPlayer_scr (s : State) (n : Nat) (x : Player) : (s.setPlayer n x).scr = s.scr := rfl
@[simp] theorem State.setPlayer_mon (s : State) (n : Nat) (x : Player) : (s.setPlayer n x).mon = s.mon := rfl
@[simp] theorem State.setPlayer_sdiRx (s : State) (n : Nat) (x : Player) : (s.setPlayer n x).sdiRx = s.sdiRx := rfl
@[simp] theorem State.setPlayer_sdiTx (s : State) (n : Nat) (x : Player) : (s.setPlayer n x).sdiTx = s.sdiTx := rfl
@[simp] theorem State.setPlayer_ridge (s : State) (n : Nat) (x : Player) : (s.setPlayer n x).ridge = s.ridge := rfl
@[simp] theorem State.setPlayer_cq (s : State) (n : Nat) (x : Player) : (s.setPlayer n x).cq = s.cq := rfl
@[simp] theorem State.setPlayer_media (s : State) (n : Nat) (x : Player) : (s.setPlayer n x).media = s.media := rfl
@[simp] theorem State.setPlayer_ws (s : State) (n : Nat) (x : Player) : (s.setPlayer n x).ws = s.ws := rfl
@[simp] theorem State.setPlayer_au (s : State) (n : Nat) (x : Player) : (s.setPlayer n x).au = s.au := rfl
@[simp] theorem State.setPlayer_tarn (s : State) (n : Nat) (x : Player) : (s.setPlayer n x).tarn = s.tarn := rfl
@[simp] theorem State.setPlayer_sad (s : State) (n : Nat) (x : Player) : (s.setPlayer n x).sad = s.sad := rfl

@[simp] theorem State.setMonUnit_pending (s : State) (n : Nat) (x : MonUnit) : (s.setMonUnit n x).pending = s.pending := rfl
@[simp] theorem State.setMonUnit_out (s : State) (n : Nat) (x : MonUnit) : (s.setMonUnit n x).out = s.out := rfl
@[simp] theorem State.setMonUnit_fresh (s : State) (n : Nat) (x : MonUnit) : (s.setMonUnit n x).fresh = s.fresh := rfl
@[simp] theorem State.setMonUnit_now (s : State) (n : Nat) (x : MonUnit) : (s.setMonUnit n x).now = s.now := rfl
@[simp] theorem State.setMonUnit_tc (s : State) (n : Nat) (x : MonUnit) : (s.setMonUnit n x).tc = s.tc := rfl
@[simp] theorem State.setMonUnit_tcRest (s : State) (n : Nat) (x : MonUnit) : (s.setMonUnit n x).tcRest = s.tcRest := rfl
@[simp] theorem State.setMonUnit_objs (s : State) (n : Nat) (x : MonUnit) : (s.setMonUnit n x).objs = s.objs := rfl
@[simp] theorem State.setMonUnit_pinned (s : State) (n : Nat) (x : MonUnit) : (s.setMonUnit n x).pinned = s.pinned := rfl
@[simp] theorem State.setMonUnit_regs (s : State) (n : Nat) (x : MonUnit) : (s.setMonUnit n x).regs = s.regs := rfl
@[simp] theorem State.setMonUnit_mem (s : State) (n : Nat) (x : MonUnit) : (s.setMonUnit n x).mem = s.mem := rfl
@[simp] theorem State.setMonUnit_flash (s : State) (n : Nat) (x : MonUnit) : (s.setMonUnit n x).flash = s.flash := rfl
@[simp] theorem State.setMonUnit_boot (s : State) (n : Nat) (x : MonUnit) : (s.setMonUnit n x).boot = s.boot := rfl
@[simp] theorem State.setMonUnit_ev (s : State) (n : Nat) (x : MonUnit) : (s.setMonUnit n x).ev = s.ev := rfl
@[simp] theorem State.setMonUnit_il (s : State) (n : Nat) (x : MonUnit) : (s.setMonUnit n x).il = s.il := rfl
@[simp] theorem State.setMonUnit_ce (s : State) (n : Nat) (x : MonUnit) : (s.setMonUnit n x).ce = s.ce := rfl
@[simp] theorem State.setMonUnit_tw (s : State) (n : Nat) (x : MonUnit) : (s.setMonUnit n x).tw = s.tw := rfl
@[simp] theorem State.setMonUnit_st (s : State) (n : Nat) (x : MonUnit) : (s.setMonUnit n x).st = s.st := rfl
@[simp] theorem State.setMonUnit_up (s : State) (n : Nat) (x : MonUnit) : (s.setMonUnit n x).up = s.up := rfl
@[simp] theorem State.setMonUnit_osf (s : State) (n : Nat) (x : MonUnit) : (s.setMonUnit n x).osf = s.osf := rfl
@[simp] theorem State.setMonUnit_gate (s : State) (n : Nat) (x : MonUnit) : (s.setMonUnit n x).gate = s.gate := rfl
@[simp] theorem State.setMonUnit_ctl (s : State) (n : Nat) (x : MonUnit) : (s.setMonUnit n x).ctl = s.ctl := rfl
@[simp] theorem State.setMonUnit_colLast (s : State) (n : Nat) (x : MonUnit) : (s.setMonUnit n x).colLast = s.colLast := rfl
@[simp] theorem State.setMonUnit_scr (s : State) (n : Nat) (x : MonUnit) : (s.setMonUnit n x).scr = s.scr := rfl
@[simp] theorem State.setMonUnit_sdiRx (s : State) (n : Nat) (x : MonUnit) : (s.setMonUnit n x).sdiRx = s.sdiRx := rfl
@[simp] theorem State.setMonUnit_sdiTx (s : State) (n : Nat) (x : MonUnit) : (s.setMonUnit n x).sdiTx = s.sdiTx := rfl
@[simp] theorem State.setMonUnit_ridge (s : State) (n : Nat) (x : MonUnit) : (s.setMonUnit n x).ridge = s.ridge := rfl
@[simp] theorem State.setMonUnit_cq (s : State) (n : Nat) (x : MonUnit) : (s.setMonUnit n x).cq = s.cq := rfl
@[simp] theorem State.setMonUnit_media (s : State) (n : Nat) (x : MonUnit) : (s.setMonUnit n x).media = s.media := rfl
@[simp] theorem State.setMonUnit_ws (s : State) (n : Nat) (x : MonUnit) : (s.setMonUnit n x).ws = s.ws := rfl
@[simp] theorem State.setMonUnit_au (s : State) (n : Nat) (x : MonUnit) : (s.setMonUnit n x).au = s.au := rfl
@[simp] theorem State.setMonUnit_tarn (s : State) (n : Nat) (x : MonUnit) : (s.setMonUnit n x).tarn = s.tarn := rfl
@[simp] theorem State.setMonUnit_sad (s : State) (n : Nat) (x : MonUnit) : (s.setMonUnit n x).sad = s.sad := rfl
@[simp] theorem State.setMonUnit_mor (s : State) (n : Nat) (x : MonUnit) : (s.setMonUnit n x).mor = s.mor := rfl

@[simp] theorem State.setCtlPort_pending (s : State) (n : Nat) (x : CtlPort) : (s.setCtlPort n x).pending = s.pending := rfl
@[simp] theorem State.setCtlPort_out (s : State) (n : Nat) (x : CtlPort) : (s.setCtlPort n x).out = s.out := rfl
@[simp] theorem State.setCtlPort_fresh (s : State) (n : Nat) (x : CtlPort) : (s.setCtlPort n x).fresh = s.fresh := rfl
@[simp] theorem State.setCtlPort_now (s : State) (n : Nat) (x : CtlPort) : (s.setCtlPort n x).now = s.now := rfl
@[simp] theorem State.setCtlPort_tc (s : State) (n : Nat) (x : CtlPort) : (s.setCtlPort n x).tc = s.tc := rfl
@[simp] theorem State.setCtlPort_tcRest (s : State) (n : Nat) (x : CtlPort) : (s.setCtlPort n x).tcRest = s.tcRest := rfl
@[simp] theorem State.setCtlPort_objs (s : State) (n : Nat) (x : CtlPort) : (s.setCtlPort n x).objs = s.objs := rfl
@[simp] theorem State.setCtlPort_pinned (s : State) (n : Nat) (x : CtlPort) : (s.setCtlPort n x).pinned = s.pinned := rfl
@[simp] theorem State.setCtlPort_regs (s : State) (n : Nat) (x : CtlPort) : (s.setCtlPort n x).regs = s.regs := rfl
@[simp] theorem State.setCtlPort_mem (s : State) (n : Nat) (x : CtlPort) : (s.setCtlPort n x).mem = s.mem := rfl
@[simp] theorem State.setCtlPort_flash (s : State) (n : Nat) (x : CtlPort) : (s.setCtlPort n x).flash = s.flash := rfl
@[simp] theorem State.setCtlPort_boot (s : State) (n : Nat) (x : CtlPort) : (s.setCtlPort n x).boot = s.boot := rfl
@[simp] theorem State.setCtlPort_ev (s : State) (n : Nat) (x : CtlPort) : (s.setCtlPort n x).ev = s.ev := rfl
@[simp] theorem State.setCtlPort_il (s : State) (n : Nat) (x : CtlPort) : (s.setCtlPort n x).il = s.il := rfl
@[simp] theorem State.setCtlPort_ce (s : State) (n : Nat) (x : CtlPort) : (s.setCtlPort n x).ce = s.ce := rfl
@[simp] theorem State.setCtlPort_tw (s : State) (n : Nat) (x : CtlPort) : (s.setCtlPort n x).tw = s.tw := rfl
@[simp] theorem State.setCtlPort_st (s : State) (n : Nat) (x : CtlPort) : (s.setCtlPort n x).st = s.st := rfl
@[simp] theorem State.setCtlPort_up (s : State) (n : Nat) (x : CtlPort) : (s.setCtlPort n x).up = s.up := rfl
@[simp] theorem State.setCtlPort_osf (s : State) (n : Nat) (x : CtlPort) : (s.setCtlPort n x).osf = s.osf := rfl
@[simp] theorem State.setCtlPort_gate (s : State) (n : Nat) (x : CtlPort) : (s.setCtlPort n x).gate = s.gate := rfl
@[simp] theorem State.setCtlPort_colLast (s : State) (n : Nat) (x : CtlPort) : (s.setCtlPort n x).colLast = s.colLast := rfl
@[simp] theorem State.setCtlPort_scr (s : State) (n : Nat) (x : CtlPort) : (s.setCtlPort n x).scr = s.scr := rfl
@[simp] theorem State.setCtlPort_mon (s : State) (n : Nat) (x : CtlPort) : (s.setCtlPort n x).mon = s.mon := rfl
@[simp] theorem State.setCtlPort_sdiRx (s : State) (n : Nat) (x : CtlPort) : (s.setCtlPort n x).sdiRx = s.sdiRx := rfl
@[simp] theorem State.setCtlPort_sdiTx (s : State) (n : Nat) (x : CtlPort) : (s.setCtlPort n x).sdiTx = s.sdiTx := rfl
@[simp] theorem State.setCtlPort_ridge (s : State) (n : Nat) (x : CtlPort) : (s.setCtlPort n x).ridge = s.ridge := rfl
@[simp] theorem State.setCtlPort_cq (s : State) (n : Nat) (x : CtlPort) : (s.setCtlPort n x).cq = s.cq := rfl
@[simp] theorem State.setCtlPort_media (s : State) (n : Nat) (x : CtlPort) : (s.setCtlPort n x).media = s.media := rfl
@[simp] theorem State.setCtlPort_ws (s : State) (n : Nat) (x : CtlPort) : (s.setCtlPort n x).ws = s.ws := rfl
@[simp] theorem State.setCtlPort_au (s : State) (n : Nat) (x : CtlPort) : (s.setCtlPort n x).au = s.au := rfl
@[simp] theorem State.setCtlPort_tarn (s : State) (n : Nat) (x : CtlPort) : (s.setCtlPort n x).tarn = s.tarn := rfl
@[simp] theorem State.setCtlPort_sad (s : State) (n : Nat) (x : CtlPort) : (s.setCtlPort n x).sad = s.sad := rfl
@[simp] theorem State.setCtlPort_mor (s : State) (n : Nat) (x : CtlPort) : (s.setCtlPort n x).mor = s.mor := rfl

/-! ## Tables -/

@[simp] theorem lookup_put_self {α : Type} (t : Table α) (k : Nat) (v : α) : (put t k v).lookup k = some v := by
  simp [put]

theorem lookup_put_ne {α : Type} (t : Table α) (k k' : Nat) (v : α) (h : k' ≠ k) : (put t k v).lookup k' = t.lookup k' := by
  have e : (k' == k) = false := by simpa using h
  simp only [put, List.lookup, e]
  exact lookup_filter_ne k k' h t

@[simp] theorem look_put_self {α : Type} (t : Table α) (k : Nat) (v d : α) : look (put t k v) k d = v := by
  simp [look]

theorem look_put_ne {α : Type} (t : Table α) (k k' : Nat) (v d : α) (h : k' ≠ k) : look (put t k v) k' d = look t k' d := by
  simp only [look, lookup_put_ne t k k' v h]

@[simp] theorem State.salvo_setSalvo (s : State) (n : Nat) (x : Salvo) : (s.setSalvo n x).salvo n = x := by
  simp [State.salvo, State.setSalvo]

theorem State.salvo_setSalvo_ne (s : State) (n k : Nat) (x : Salvo) (h : k ≠ n) : (s.setSalvo n x).salvo k = s.salvo k := by
  simp only [State.salvo, State.setSalvo]
  exact look_put_ne _ _ _ _ _ h

@[simp] theorem State.salvo_tick (s : State) (n : Nat) (x : Nat) : (s.tick x).salvo n = s.salvo n := rfl

@[simp] theorem State.salvo_emit (s : State) (n : Nat) (x : Out) : (s.emit x).salvo n = s.salvo n := rfl

@[simp] theorem State.src_setSrc (s : State) (n : Nat) (x : SrcSlot) : (s.setSrc n x).src n = x := by
  simp [State.src, State.setSrc]

theorem State.src_setSrc_ne (s : State) (n k : Nat) (x : SrcSlot) (h : k ≠ n) : (s.setSrc n x).src k = s.src k := by
  simp only [State.src, State.setSrc]
  exact look_put_ne _ _ _ _ _ h

@[simp] theorem State.src_tick (s : State) (n : Nat) (x : Nat) : (s.tick x).src n = s.src n := rfl

@[simp] theorem State.src_emit (s : State) (n : Nat) (x : Out) : (s.emit x).src n = s.src n := rfl

@[simp] theorem State.dst_setDst (s : State) (n : Nat) (x : DstSlot) : (s.setDst n x).dst n = x := by
  simp [State.dst, State.setDst]

theorem State.dst_setDst_ne (s : State) (n k : Nat) (x : DstSlot) (h : k ≠ n) : (s.setDst n x).dst k = s.dst k := by
  simp only [State.dst, State.setDst]
  exact look_put_ne _ _ _ _ _ h

@[simp] theorem State.dst_tick (s : State) (n : Nat) (x : Nat) : (s.tick x).dst n = s.dst n := rfl

@[simp] theorem State.dst_emit (s : State) (n : Nat) (x : Out) : (s.emit x).dst n = s.dst n := rfl

@[simp] theorem State.rxLane_setRxLane (s : State) (n : Nat) (x : SdiRx) : (s.setRxLane n x).rxLane n = x := by
  simp [State.rxLane, State.setRxLane]

theorem State.rxLane_setRxLane_ne (s : State) (n k : Nat) (x : SdiRx) (h : k ≠ n) : (s.setRxLane n x).rxLane k = s.rxLane k := by
  simp only [State.rxLane, State.setRxLane]
  exact look_put_ne _ _ _ _ _ h

@[simp] theorem State.rxLane_tick (s : State) (n : Nat) (x : Nat) : (s.tick x).rxLane n = s.rxLane n := rfl

@[simp] theorem State.rxLane_emit (s : State) (n : Nat) (x : Out) : (s.emit x).rxLane n = s.rxLane n := rfl

@[simp] theorem State.txLane_setTxLane (s : State) (n : Nat) (x : SdiTx) : (s.setTxLane n x).txLane n = x := by
  simp [State.txLane, State.setTxLane]

theorem State.txLane_setTxLane_ne (s : State) (n k : Nat) (x : SdiTx) (h : k ≠ n) : (s.setTxLane n x).txLane k = s.txLane k := by
  simp only [State.txLane, State.setTxLane]
  exact look_put_ne _ _ _ _ _ h

@[simp] theorem State.txLane_tick (s : State) (n : Nat) (x : Nat) : (s.tick x).txLane n = s.txLane n := rfl

@[simp] theorem State.txLane_emit (s : State) (n : Nat) (x : Out) : (s.emit x).txLane n = s.txLane n := rfl

@[simp] theorem State.engine_setEngine (s : State) (n : Nat) (x : Engine) : (s.setEngine n x).engine n = x := by
  simp [State.engine, State.setEngine]

theorem State.engine_setEngine_ne (s : State) (n k : Nat) (x : Engine) (h : k ≠ n) : (s.setEngine n x).engine k = s.engine k := by
  simp only [State.engine, State.setEngine]
  exact look_put_ne _ _ _ _ _ h

@[simp] theorem State.engine_tick (s : State) (n : Nat) (x : Nat) : (s.tick x).engine n = s.engine n := rfl

@[simp] theorem State.engine_emit (s : State) (n : Nat) (x : Out) : (s.emit x).engine n = s.engine n := rfl

@[simp] theorem State.layer_setLayer (s : State) (n : Nat) (x : Layer) : (s.setLayer n x).layer n = x := by
  simp [State.layer, State.setLayer]

theorem State.layer_setLayer_ne (s : State) (n k : Nat) (x : Layer) (h : k ≠ n) : (s.setLayer n x).layer k = s.layer k := by
  simp only [State.layer, State.setLayer]
  exact look_put_ne _ _ _ _ _ h

@[simp] theorem State.layer_tick (s : State) (n : Nat) (x : Nat) : (s.tick x).layer n = s.layer n := rfl

@[simp] theorem State.layer_emit (s : State) (n : Nat) (x : Out) : (s.emit x).layer n = s.layer n := rfl

@[simp] theorem State.stage_setStage (s : State) (n : Nat) (x : ColStage) : (s.setStage n x).stage n = x := by
  simp [State.stage, State.setStage]

theorem State.stage_setStage_ne (s : State) (n k : Nat) (x : ColStage) (h : k ≠ n) : (s.setStage n x).stage k = s.stage k := by
  simp only [State.stage, State.setStage]
  exact look_put_ne _ _ _ _ _ h

@[simp] theorem State.stage_tick (s : State) (n : Nat) (x : Nat) : (s.tick x).stage n = s.stage n := rfl

@[simp] theorem State.stage_emit (s : State) (n : Nat) (x : Out) : (s.emit x).stage n = s.stage n := rfl

@[simp] theorem State.rxe_setRxe (s : State) (n : Nat) (x : RxEntry) : (s.setRxe n x).rxe n = x := by
  simp [State.rxe, State.setRxe]

theorem State.rxe_setRxe_ne (s : State) (n k : Nat) (x : RxEntry) (h : k ≠ n) : (s.setRxe n x).rxe k = s.rxe k := by
  simp only [State.rxe, State.setRxe]
  exact look_put_ne _ _ _ _ _ h

@[simp] theorem State.pre_setPre (s : State) (n : Nat) (x : RxEntry) : (s.setPre n x).pre n = x := by
  simp [State.pre, State.setPre]

theorem State.pre_setPre_ne (s : State) (n k : Nat) (x : RxEntry) (h : k ≠ n) : (s.setPre n x).pre k = s.pre k := by
  simp only [State.pre, State.setPre]
  exact look_put_ne _ _ _ _ _ h

@[simp] theorem State.rxe_setPre (s : State) (n k : Nat) (x : RxEntry) : (s.setPre n x).rxe k = s.rxe k := rfl
@[simp] theorem State.pre_setRxe (s : State) (n k : Nat) (x : RxEntry) : (s.setRxe n x).pre k = s.pre k := rfl

@[simp] theorem State.rxe_tick (s : State) (n : Nat) (x : Nat) : (s.tick x).rxe n = s.rxe n := rfl

@[simp] theorem State.rxe_emit (s : State) (n : Nat) (x : Out) : (s.emit x).rxe n = s.rxe n := rfl

@[simp] theorem State.txe_setTxe (s : State) (n : Nat) (x : TxEntry) : (s.setTxe n x).txe n = x := by
  simp [State.txe, State.setTxe]

theorem State.txe_setTxe_ne (s : State) (n k : Nat) (x : TxEntry) (h : k ≠ n) : (s.setTxe n x).txe k = s.txe k := by
  simp only [State.txe, State.setTxe]
  exact look_put_ne _ _ _ _ _ h

@[simp] theorem State.txe_tick (s : State) (n : Nat) (x : Nat) : (s.tick x).txe n = s.txe n := rfl

@[simp] theorem State.txe_emit (s : State) (n : Nat) (x : Out) : (s.emit x).txe n = s.txe n := rfl

@[simp] theorem State.port_setPort (s : State) (n : Nat) (x : MediaPort) : (s.setPort n x).port n = x := by
  simp [State.port, State.setPort]

theorem State.port_setPort_ne (s : State) (n k : Nat) (x : MediaPort) (h : k ≠ n) : (s.setPort n x).port k = s.port k := by
  simp only [State.port, State.setPort]
  exact look_put_ne _ _ _ _ _ h

@[simp] theorem State.port_tick (s : State) (n : Nat) (x : Nat) : (s.tick x).port n = s.port n := rfl

@[simp] theorem State.port_emit (s : State) (n : Nat) (x : Out) : (s.emit x).port n = s.port n := rfl

@[simp] theorem State.strip_setStrip (s : State) (n : Nat) (x : Strip) : (s.setStrip n x).strip n = x := by
  simp [State.strip, State.setStrip]

theorem State.strip_setStrip_ne (s : State) (n k : Nat) (x : Strip) (h : k ≠ n) : (s.setStrip n x).strip k = s.strip k := by
  simp only [State.strip, State.setStrip]
  exact look_put_ne _ _ _ _ _ h

@[simp] theorem State.strip_tick (s : State) (n : Nat) (x : Nat) : (s.tick x).strip n = s.strip n := rfl

@[simp] theorem State.strip_emit (s : State) (n : Nat) (x : Out) : (s.emit x).strip n = s.strip n := rfl

@[simp] theorem State.bus_setBus (s : State) (n : Nat) (x : Bus) : (s.setBus n x).bus n = x := by
  simp [State.bus, State.setBus]

theorem State.bus_setBus_ne (s : State) (n k : Nat) (x : Bus) (h : k ≠ n) : (s.setBus n x).bus k = s.bus k := by
  simp only [State.bus, State.setBus]
  exact look_put_ne _ _ _ _ _ h

@[simp] theorem State.bus_tick (s : State) (n : Nat) (x : Nat) : (s.tick x).bus n = s.bus n := rfl

@[simp] theorem State.bus_emit (s : State) (n : Nat) (x : Out) : (s.emit x).bus n = s.bus n := rfl

@[simp] theorem State.aout_setAout (s : State) (n : Nat) (x : AOut) : (s.setAout n x).aout n = x := by
  simp [State.aout, State.setAout]

theorem State.aout_setAout_ne (s : State) (n k : Nat) (x : AOut) (h : k ≠ n) : (s.setAout n x).aout k = s.aout k := by
  simp only [State.aout, State.setAout]
  exact look_put_ne _ _ _ _ _ h

@[simp] theorem State.aout_tick (s : State) (n : Nat) (x : Nat) : (s.tick x).aout n = s.aout n := rfl

@[simp] theorem State.aout_emit (s : State) (n : Nat) (x : Out) : (s.emit x).aout n = s.aout n := rfl

@[simp] theorem State.tp_setTp (s : State) (n : Nat) (x : TarnPort) : (s.setTp n x).tp n = x := by
  simp [State.tp, State.setTp]

theorem State.tp_setTp_ne (s : State) (n k : Nat) (x : TarnPort) (h : k ≠ n) : (s.setTp n x).tp k = s.tp k := by
  simp only [State.tp, State.setTp]
  exact look_put_ne _ _ _ _ _ h

@[simp] theorem State.tp_tick (s : State) (n : Nat) (x : Nat) : (s.tick x).tp n = s.tp n := rfl

@[simp] theorem State.tp_emit (s : State) (n : Nat) (x : Out) : (s.emit x).tp n = s.tp n := rfl

@[simp] theorem State.ref_setRef (s : State) (n : Nat) (x : RefPart) : (s.setRef n x).ref n = x := by
  simp [State.ref, State.setRef]

theorem State.ref_setRef_ne (s : State) (n k : Nat) (x : RefPart) (h : k ≠ n) : (s.setRef n x).ref k = s.ref k := by
  simp only [State.ref, State.setRef]
  exact look_put_ne _ _ _ _ _ h

@[simp] theorem State.ref_tick (s : State) (n : Nat) (x : Nat) : (s.tick x).ref n = s.ref n := rfl

@[simp] theorem State.ref_emit (s : State) (n : Nat) (x : Out) : (s.emit x).ref n = s.ref n := rfl

@[simp] theorem State.fp_setFp (s : State) (n : Nat) (x : FpOut) : (s.setFp n x).fp n = x := by
  simp [State.fp, State.setFp]

theorem State.fp_setFp_ne (s : State) (n k : Nat) (x : FpOut) (h : k ≠ n) : (s.setFp n x).fp k = s.fp k := by
  simp only [State.fp, State.setFp]
  exact look_put_ne _ _ _ _ _ h

@[simp] theorem State.fp_tick (s : State) (n : Nat) (x : Nat) : (s.tick x).fp n = s.fp n := rfl

@[simp] theorem State.fp_emit (s : State) (n : Nat) (x : Out) : (s.emit x).fp n = s.fp n := rfl

@[simp] theorem State.sl_setSl (s : State) (n : Nat) (x : SaddleLane) : (s.setSl n x).sl n = x := by
  simp [State.sl, State.setSl]

theorem State.sl_setSl_ne (s : State) (n k : Nat) (x : SaddleLane) (h : k ≠ n) : (s.setSl n x).sl k = s.sl k := by
  simp only [State.sl, State.setSl]
  exact look_put_ne _ _ _ _ _ h

@[simp] theorem State.sl_tick (s : State) (n : Nat) (x : Nat) : (s.tick x).sl n = s.sl n := rfl

@[simp] theorem State.sl_emit (s : State) (n : Nat) (x : Out) : (s.emit x).sl n = s.sl n := rfl

@[simp] theorem State.drive_setDrive (s : State) (n : Nat) (x : Drive) : (s.setDrive n x).drive n = x := by
  simp [State.drive, State.setDrive]

theorem State.drive_setDrive_ne (s : State) (n k : Nat) (x : Drive) (h : k ≠ n) : (s.setDrive n x).drive k = s.drive k := by
  simp only [State.drive, State.setDrive]
  exact look_put_ne _ _ _ _ _ h

@[simp] theorem State.drive_tick (s : State) (n : Nat) (x : Nat) : (s.tick x).drive n = s.drive n := rfl

@[simp] theorem State.drive_emit (s : State) (n : Nat) (x : Out) : (s.emit x).drive n = s.drive n := rfl

@[simp] theorem State.clip_setClip (s : State) (n : Nat) (x : Clip) : (s.setClip n x).clip n = x := by
  simp [State.clip, State.setClip]

theorem State.clip_setClip_ne (s : State) (n k : Nat) (x : Clip) (h : k ≠ n) : (s.setClip n x).clip k = s.clip k := by
  simp only [State.clip, State.setClip]
  exact look_put_ne _ _ _ _ _ h

@[simp] theorem State.clip_tick (s : State) (n : Nat) (x : Nat) : (s.tick x).clip n = s.clip n := rfl

@[simp] theorem State.clip_emit (s : State) (n : Nat) (x : Out) : (s.emit x).clip n = s.clip n := rfl

@[simp] theorem State.line_setLine (s : State) (n : Nat) (x : DelayLine) : (s.setLine n x).line n = x := by
  simp [State.line, State.setLine]

theorem State.line_setLine_ne (s : State) (n k : Nat) (x : DelayLine) (h : k ≠ n) : (s.setLine n x).line k = s.line k := by
  simp only [State.line, State.setLine]
  exact look_put_ne _ _ _ _ _ h

@[simp] theorem State.line_tick (s : State) (n : Nat) (x : Nat) : (s.tick x).line n = s.line n := rfl

@[simp] theorem State.line_emit (s : State) (n : Nat) (x : Out) : (s.emit x).line n = s.line n := rfl

@[simp] theorem State.recorder_setRecorder (s : State) (n : Nat) (x : Recorder) : (s.setRecorder n x).recorder n = x := by
  simp [State.recorder, State.setRecorder]

theorem State.recorder_setRecorder_ne (s : State) (n k : Nat) (x : Recorder) (h : k ≠ n) : (s.setRecorder n x).recorder k = s.recorder k := by
  simp only [State.recorder, State.setRecorder]
  exact look_put_ne _ _ _ _ _ h

@[simp] theorem State.recorder_tick (s : State) (n : Nat) (x : Nat) : (s.tick x).recorder n = s.recorder n := rfl

@[simp] theorem State.recorder_emit (s : State) (n : Nat) (x : Out) : (s.emit x).recorder n = s.recorder n := rfl

@[simp] theorem State.player_setPlayer (s : State) (n : Nat) (x : Player) : (s.setPlayer n x).player n = x := by
  simp [State.player, State.setPlayer]

theorem State.player_setPlayer_ne (s : State) (n k : Nat) (x : Player) (h : k ≠ n) : (s.setPlayer n x).player k = s.player k := by
  simp only [State.player, State.setPlayer]
  exact look_put_ne _ _ _ _ _ h

@[simp] theorem State.player_tick (s : State) (n : Nat) (x : Nat) : (s.tick x).player n = s.player n := rfl

@[simp] theorem State.player_emit (s : State) (n : Nat) (x : Out) : (s.emit x).player n = s.player n := rfl

@[simp] theorem State.monUnit_setMonUnit (s : State) (n : Nat) (x : MonUnit) : (s.setMonUnit n x).monUnit n = x := by
  simp [State.monUnit, State.setMonUnit]

theorem State.monUnit_setMonUnit_ne (s : State) (n k : Nat) (x : MonUnit) (h : k ≠ n) : (s.setMonUnit n x).monUnit k = s.monUnit k := by
  simp only [State.monUnit, State.setMonUnit]
  exact look_put_ne _ _ _ _ _ h

@[simp] theorem State.monUnit_tick (s : State) (n : Nat) (x : Nat) : (s.tick x).monUnit n = s.monUnit n := rfl

@[simp] theorem State.monUnit_emit (s : State) (n : Nat) (x : Out) : (s.emit x).monUnit n = s.monUnit n := rfl

@[simp] theorem State.ctlPort_setCtlPort (s : State) (n : Nat) (x : CtlPort) : (s.setCtlPort n x).ctlPort n = x := by
  simp [State.ctlPort, State.setCtlPort]

theorem State.ctlPort_setCtlPort_ne (s : State) (n k : Nat) (x : CtlPort) (h : k ≠ n) : (s.setCtlPort n x).ctlPort k = s.ctlPort k := by
  simp only [State.ctlPort, State.setCtlPort]
  exact look_put_ne _ _ _ _ _ h

@[simp] theorem State.ctlPort_tick (s : State) (n : Nat) (x : Nat) : (s.tick x).ctlPort n = s.ctlPort n := rfl

@[simp] theorem State.ctlPort_emit (s : State) (n : Nat) (x : Out) : (s.emit x).ctlPort n = s.ctlPort n := rfl

@[simp] theorem State.session_setSession (s : State) (n : Nat) (x : Session) : (s.setSession n x).session n = some x := by
  simp [State.session, State.setSession]

theorem State.session_setSession_ne (s : State) (n k : Nat) (x : Session) (h : k ≠ n) :
    (s.setSession n x).session k = s.session k := by
  simp only [State.session, State.setSession]
  exact lookup_put_ne _ _ _ _ h

@[simp] theorem State.session_tick (s : State) (n dt : Nat) : (s.tick dt).session n = s.session n := rfl

@[simp] theorem State.session_emit (s : State) (n : Nat) (o : Out) : (s.emit o).session n = s.session n := rfl

/-! ## Objects -/

theorem adrIndex_adr (i k : Nat) : adrIndex (adr i k) = i := by simp only [adrIndex, adr]; omega

theorem adr_eq (i k j l : Nat) : adr i k = adr j l ↔ i = j ∧ k % 65536 = l % 65536 := by simp only [adr]; omega

theorem State.val_setVal (s : State) (i k a : Nat) (v : Val) :
    Objs.val (s.setVal i k v).objs a = if a = adr i k then v else Objs.val s.objs a := by
  simp only [State.setVal, Objs.val, Objs.set]
  exact storeGet_storeSet _ _ _ _ _

theorem State.n_eq (s : State) (i k : Nat) : s.n i k = (Val.toInt (Objs.val s.objs (adr i k))).toNat := rfl

/-- A number read after an object is set. -/
theorem State.n_setN (s : State) (i k v j l : Nat) :
    (s.setN i k v).n j l = if j = i ∧ l % 65536 = k % 65536 then v else s.n j l := by
  rw [State.n_eq, State.setN, State.val_setVal]
  by_cases h : adr j l = adr i k
  · rw [if_pos h, if_pos ((adr_eq ..).mp h)]; simp [Val.toInt]
  · rw [if_neg h, if_neg (fun e => h ((adr_eq ..).mpr e))]; rfl

@[simp] theorem State.n_setN_self (s : State) (i k v : Nat) : (s.setN i k v).n i k = v := by simp [State.n_setN]

theorem State.n_setN_ne (s : State) (i k v j l : Nat) (h : j ≠ i) : (s.setN i k v).n j l = s.n j l := by
  rw [State.n_setN, if_neg fun e => h e.1]

/-- A signed number read after it is set. -/
theorem State.i_setI (s : State) (i k j l : Nat) (v : Int) :
    (s.setI i k v).i j l = if j = i ∧ l % 65536 = k % 65536 then v else s.i j l := by
  show Val.toInt (Objs.val (s.setVal i k (.num v)).objs (adr j l)) = _
  rw [State.val_setVal]
  by_cases h : adr j l = adr i k
  · rw [if_pos h, if_pos ((adr_eq ..).mp h)]; simp [Val.toInt]
  · rw [if_neg h, if_neg (fun e => h ((adr_eq ..).mpr e))]; rfl

@[simp] theorem State.i_setI_self (s : State) (i k : Nat) (v : Int) : (s.setI i k v).i i k = v := by simp [State.i_setI]

/-- Bytes read after they are set. -/
@[simp] theorem State.by_setBy_self (s : State) (i k : Nat) (v : List Byte) : (s.setBy i k v).by i k = v := by
  show Val.toBytes (Objs.val (s.setVal i k (.bytes v)).objs (adr i k)) = v
  simp [State.val_setVal, Val.toBytes]

@[simp] theorem State.n_tick (s : State) (dt i k : Nat) : (s.tick dt).n i k = s.n i k := rfl
@[simp] theorem State.i_tick (s : State) (dt i k : Nat) : (s.tick dt).i i k = s.i i k := rfl
@[simp] theorem State.b_tick (s : State) (dt i k : Nat) : (s.tick dt).b i k = s.b i k := rfl
@[simp] theorem State.by_tick (s : State) (dt i k : Nat) : (s.tick dt).by i k = s.by i k := rfl
@[simp] theorem State.n_emit (s : State) (o : Out) (i k : Nat) : (s.emit o).n i k = s.n i k := rfl
@[simp] theorem State.i_emit (s : State) (o : Out) (i k : Nat) : (s.emit o).i i k = s.i i k := rfl
@[simp] theorem State.b_emit (s : State) (o : Out) (i k : Nat) : (s.emit o).b i k = s.b i k := rfl
@[simp] theorem State.by_emit (s : State) (o : Out) (i k : Nat) : (s.emit o).by i k = s.by i k := rfl

/-- An object outside a reach reads as before. -/
theorem Only.n {r : Reach} {s t : State} (h : Only r s t) (i k : Nat) (hp : Part.objs ∉ r.parts := by decide)
    (hi : i ∉ r.objs := by decide) : t.n i k = s.n i k := by
  rw [State.n_eq, State.n_eq, h.obj hp _ (by rw [adrIndex_adr]; exact hi)]

/-- A signed object outside a reach reads as before. -/
theorem Only.i {r : Reach} {s t : State} (h : Only r s t) (i k : Nat) (hp : Part.objs ∉ r.parts := by decide)
    (hi : i ∉ r.objs := by decide) : t.i i k = s.i i k := by
  show Val.toInt _ = Val.toInt _
  rw [h.obj hp _ (by rw [adrIndex_adr]; exact hi)]

/-- A part outside a reach is as before. -/
theorem Only.same {r : Reach} {s t : State} (h : Only r s t) (p : Part) (hp : p ∉ r.parts := by decide)
    (ho : p ≠ .objs := by decide) (hr : p ≠ .regs := by decide) : p.same s t := h.part p hp ho hr

/-! ## Registers -/

theorem State.reg_setReg (s : State) (a b : Nat) (v : Word) : (s.setReg a v).reg b = if b = a then v else s.reg b := by
  simp only [State.setReg, State.reg]
  exact storeGet_storeSet _ _ _ _ _

/-- A register read after it is set to a number. -/
theorem State.regN_setRegN (s : State) (a b v : Nat) :
    (s.setRegN a v).regN b = if b = a then v % 2 ^ 32 else s.regN b := by
  simp only [State.regN, State.setRegN, State.reg_setReg]
  split <;> simp

@[simp] theorem State.reg_tick (s : State) (dt a : Nat) : (s.tick dt).reg a = s.reg a := rfl
@[simp] theorem State.regN_tick (s : State) (dt a : Nat) : (s.tick dt).regN a = s.regN a := rfl
@[simp] theorem State.reg_emit (s : State) (o : Out) (a : Nat) : (s.emit o).reg a = s.reg a := rfl
@[simp] theorem State.regN_emit (s : State) (o : Out) (a : Nat) : (s.emit o).regN a = s.regN a := rfl

/-! ## Memory -/

theorem State.memByte_setMemByte (s : State) (a b : Nat) (v : Byte) :
    (s.setMemByte a v).memByte b = if b = a then v else s.memByte b := by
  simp only [State.setMemByte, State.memByte]
  exact storeGet_storeSet _ _ _ _ _

/-- Bytes outside a range that is written read as before. -/
theorem State.memByte_setMem_out (s : State) (a b : Nat) (l : List Byte) (h : b < a ∨ a + l.length ≤ b) :
    (s.setMem a l).memByte b = s.memByte b := by
  induction l generalizing s a with
  | nil => rfl
  | cons x l ih =>
    simp only [List.length_cons] at h
    rw [State.setMem, ih _ _ (by omega), State.memByte_setMemByte, if_neg (by omega)]

/-- Bytes inside it are those that were written. -/
theorem State.memByte_setMem_in (s : State) (a k : Nat) (l : List Byte) (h : k < l.length) :
    (s.setMem a l).memByte (a + k) = l[k] := by
  induction l generalizing s a k with
  | nil => simp at h
  | cons x l ih =>
    cases k with
    | zero =>
      rw [State.setMem, State.memByte_setMem_out _ _ _ _ (by omega), State.memByte_setMemByte, if_pos (by omega)]; rfl
    | succ k =>
      have e : a + (k + 1) = (a + 1) + k := by omega
      rw [State.setMem, e, ih _ _ k (by simpa using h)]; rfl

/-! ## Commands -/

@[simp] theorem State.inReset_tick (s : State) (dt : Nat) : (s.tick dt).inReset = s.inReset := rfl
@[simp] theorem State.live_tick (s : State) (dt : Nat) : (s.tick dt).live = s.live := rfl
@[simp] theorem State.standby_tick (s : State) (dt : Nat) : (s.tick dt).standby = s.standby := rfl
@[simp] theorem State.tick_now (s : State) (dt : Nat) : (s.tick dt).now = s.now + dt := rfl
@[simp] theorem State.tick_out (s : State) (dt : Nat) : (s.tick dt).out = [] := rfl

/-- A command outside reset acts. -/
theorem act_next {dt : Nat} {s : State} {f : State → State} (h : s.inReset = false) : act dt s f = .next (f (s.tick dt)) := by
  simp [act, h]

/-- A command whose condition holds acts. -/
theorem actIf_next {dt : Nat} {s : State} {c : State → Bool} {f : State → State} (h : s.inReset = false)
    (hc : c (s.tick dt) = true) : actIf dt s c f = .next (f (s.tick dt)) := by
  simp [actIf, act_next h, State.onlyIf, hc]

/-- A gate call of a running Upland acts. -/
theorem gateCall_next {dt : Nat} {s : State} {f : State → State} (h : s.inReset = false) (hc : s.boot.uplandRuns = true) :
    gateCall dt s f = .next (f (s.tick dt)) := actIf_next h hc

/-! ## Events -/

/-- The objects after one raise: its count, its time and its subject. -/
theorem State.n_raiseOnce (s : State) (src subj i l : Nat) :
    (s.raiseOnce src subj).n i l =
      (((s.count64 Obj.eventCount src 1).setN Obj.eventLastAt src s.ptp).setN Obj.eventLastSubject src (subj % 0x100000000)).n
        i l := by
  unfold State.raiseOnce
  extract_lets s1 s2 s3 s4 m s5 s6 s7
  have h4 : Only ⟨[.ev], [], [0x40000004, 0x40000008]⟩ s3 s4 := State.evPush_only ..
  have h5 : Only ⟨[.out, .ev], [], []⟩ s4 s5 := .ite (State.assertPin_only ..) (Only.refl _ _)
  have h6 : Only ⟨[.out, .ev], [], []⟩ s5 s6 := .ite (State.assertPin_only ..) (Only.refl _ _)
  have h7 : Only ⟨[.diskJournal], [], []⟩ s6 s7 := State.journal_only ..
  have h8 : Only ⟨[.flashJournal], [], []⟩ s7
      (if (496 ≤ src && src ≤ 503) = true then s7.flashJournal 1 (eventData src subj) else s7) :=
    .ite (State.flashJournal_only ..) (Only.refl _ _)
  rw [h8.n i l (by decide) (by simp), h7.n i l (by decide) (by simp), h6.n i l (by decide) (by simp),
    h5.n i l (by decide) (by simp), h4.n i l (by decide) (by simp)]

theorem State.n_setPinned (s : State) (a i l : Nat) : (s.setPinned a).n i l = s.n i l :=
  (State.setPinned_only s a).n i l (by decide) (by simp)

/-- A raise counts, and leaves its subject and its time; the raise of COUNTER_PINNED that may come with it leaves them. -/
theorem State.raise_reads (s : State) (src subj : Nat) (hp : src % 65536 ≠ Ev.counterPinned) :
    (s.raise src subj).n Obj.eventCount src = min (s.n Obj.eventCount src + 1) 0xFFFFFFFFFFFFFFFF ∧
      (s.raise src subj).n Obj.eventLastSubject src = subj % 0x100000000 ∧ (s.raise src subj).n Obj.eventLastAt src = s.ptp := by
  have hp' : ¬ src % 65536 = Ev.counterPinned % 65536 := hp
  unfold State.raise
  extract_lets a full s1
  split
  · simp +decide [State.n_raiseOnce, State.n_setPinned, State.count64, State.n_setN, hp', s1]
  · simp +decide [State.n_raiseOnce, State.count64, State.n_setN, s1]

/-- Objects other than the three of the event sources keep their values at a raise. -/
theorem State.n_raise (s : State) (src subj i l : Nat) (h : i ≠ Obj.eventCount ∧ i ≠ Obj.eventLastAt ∧ i ≠ Obj.eventLastSubject) :
    (s.raise src subj).n i l = s.n i l :=
  (State.raise_only s src subj).n i l (by decide) (by simp [h.1, h.2.1, h.2.2])

/-- The event objects of another source keep theirs. -/
theorem State.n_raise_other (s : State) (src subj i l : Nat) (h : l % 65536 ≠ src % 65536)
    (hp : l % 65536 ≠ Ev.counterPinned) : (s.raise src subj).n i l = s.n i l := by
  have hp' : ¬ l % 65536 = Ev.counterPinned % 65536 := hp
  unfold State.raise
  extract_lets a full s1
  split
  · simp [State.n_raiseOnce, State.n_setPinned, State.count64, State.n_setN, hp', h, s1]
  · simp [State.n_raiseOnce, State.count64, State.n_setN, h, s1]

theorem State.tc_raise (s : State) (src subj : Nat) : (s.raise src subj).tc = s.tc :=
  congrArg Prod.fst ((State.raise_only s src subj).same .tc)

theorem State.now_raise (s : State) (src subj : Nat) : (s.raise src subj).now = s.now := (State.raise_only s src subj).same .now

theorem State.ptp_raise (s : State) (src subj : Nat) : (s.raise src subj).ptp = s.ptp := by simp [State.ptp, State.tc_raise]

end Sys2Proof.Machine
end

