-- ==== Sys2Proof/WellFormed.lean ====
section
/-!
DEFINITION. Well-formed commands: operands that name things the device has, and values that their wires and registers can
carry. A meaning does not depend on it; a statement about commands from outside may.
-/
namespace Sys2Proof

/-! ## Checks -/

/-- A number of n bits. -/
def bitsOk (n v : Nat) : Bool := decide (v < 2 ^ n)

/-- One of n items. -/
def oneOf (n v : Nat) : Bool := decide (v < n)

/-- An SDI lane (R390). -/
def laneOk (l : Nat) : Bool := oneOf 288 l

/-- A received SDI signal: of a lane, or of an ST2022_6 entry by the subject of R114. -/
def signalOk (l : Nat) : Bool := laneOk l || (decide (65536 ≤ l) && oneOf 8192 (l - 65536))

/-- An octet (R391). -/
def octetOk (o : Nat) : Bool := oneOf 36 o

/-- A source or destination slot (R158). -/
def slotOk (n : Nat) : Bool := oneOf 2048 n

/-- A media port code (R89). -/
def mediaPortOk (p : Nat) : Bool := oneOf 72 (p % 32768) && bitsOk 16 p

/-- An entry of a flow table (R93, R127). -/
def entryOk (e : Nat) : Bool := oneOf 8192 e

/-- A salvo (R187). -/
def salvoOk (n : Nat) : Bool := oneOf 16 n

/-- A session (R451). -/
def sessionOk (n : Nat) : Bool := oneOf 16 n

/-- An IP address (R449). -/
def addrOk (a : List Byte) : Bool := a.length == 4 || a.length == 16

/-- A value on the wire (R448). -/
def valueOk (b : List Byte) : Bool := decide (b.length ≤ 65535)

/-- A 32-byte nonce, proof or key (R454). -/
def bytes32Ok (b : List Byte) : Bool := b.length == 32

/-- A message header (R449 to R451). -/
def msgOk (m : Msg) : Bool :=
  bitsOk 16 m.session && oneOf 2 m.port && addrOk m.addr && bitsOk 16 m.peerPort && bitsOk 64 m.seq && bitsOk 64 m.fenceSeq &&
    bitsOk 8 m.version

/-- A HELLO body (R454). -/
def helloOk (h : Hello) : Bool := bitsOk 8 h.role && bytes32Ok h.nc

/-- Straps (R609). -/
def strapsOk (x : Straps) : Bool := oneOf 2 x.twinSide && oneOf 8 x.avsAddr

/-- A buffer of a gate call: A1 to A5 are 32 bits wide (R522). -/
def bufOk32 (b : Buf) : Bool := bitsOk 32 b.addr && bitsOk 32 b.len

/-- An ST 291-1 packet (R73). -/
def ancOk (p : Anc) : Bool := bitsOk 8 p.did && bitsOk 8 p.sdid && decide (p.data.length ≤ 255)

/-- An embedded audio packet: a group of one of four links, two pairs, four channels (R68). -/
def audioOk (p : AudioPacket) : Bool :=
  oneOf 32 p.groupBit && p.nonAudio.length == 2 && p.samples.length == 4 && p.side.all (oneOf 8)

/-- An RTP packet (R93). -/
def rtpOk (p : Rtp) : Bool :=
  addrOk p.dst && addrOk p.src && bitsOk 16 p.udpPort && bitsOk 7 p.payloadType && bitsOk 32 p.ssrc && bitsOk 32 p.seq &&
    bitsOk 32 p.timestamp && p.side.all (oneOf 8)

/-- An Ethernet frame (R91). -/
def ethOk (f : EthFrame) : Bool :=
  f.dstMac.length == 6 && f.vlans.all (bitsOk 12) && match f.body with
    | .rtp p => rtpOk p
    | .udpOther => true
    | .arpRequest a => a.length == 4
    | .neighbourSolicitation a => a.length == 16
    | .resolution a mac => addrOk a && mac.length == 6
    | .membershipQuery _ _ g => g.isEmpty || addrOk g
    | .ptp d _ _ => bitsOk 8 d

/-- A frame on a control port (R505). -/
def ctlFrameOk (f : CtlFrame) : Bool := f.dst.length == 6 && f.vlans.all (bitsOk 12) && bitsOk 16 f.etherType

/-- A part of a frame: it starts on one link or four (R56, R61, R157). -/
def partOk : FramePart → Bool
  | .start arrivals => arrivals.length == 1 || arrivals.length == 4
  | _ => true

/-- A status block of the peer (R379). -/
def blockOk (b : StatusBlock) : Bool := oneOf 2 b.side && oneOf 3 b.role && oneOf 3 b.pattern && b.macBase.length == 6

/-- A change of a salvo (R187). -/
def changeOk (c : Change) : Bool := oneOf 4096 c.number && bitsOk 32 c.addr

/-- A per-frame copy (R377, R528). -/
def copyOk (c : Copy) : Bool :=
  c.writes.all (fun w => bitsOk 32 w.addr) && c.salvos.all (fun x => salvoOk x.number && oneOf 6 x.state) &&
    c.numbers.all (fun x => entryOk x.entry) && decide (c.block.length ≤ 65536)

/-- What an NVMe completion belongs to (R423). -/
def jobOk : NvmeJob → Bool
  | .recordFrame r => oneOf 64 r
  | .delayStore l _ => oneOf 64 l
  | .playStage p _ => oneOf 64 p
  | .delayStage l _ => oneOf 64 l
  | _ => true

/-- A request at a Col port (R535): a 40-bit address. -/
def colOk (r : ColReq) : Bool := oneOf 6 r.master && bitsOk 40 r.addr

/-- A consumer of a memory error (R555). -/
def consumerOk : MemConsumer → Bool
  | .videoBlock slot _ _ _ _ l => slotOk slot && l.all slotOk
  | .tagBlock slot _ _ _ tag previous l => slotOk slot && bitsOk 32 tag && bitsOk 32 previous && l.all slotOk
  | .sideData slot _ => slotOk slot
  | .receivePacket e _ => entryOk e
  | .corniceBlock ch => oneOf 32768 ch
  | .graphicsBlock l _ => oneOf 256 l
  | .firn e => oneOf 32 e
  | .colourTable x _ => oneOf 256 x
  | .uplandFetch pc => bitsOk 32 pc
  | .uplandLoad pc a => bitsOk 32 pc && bitsOk 32 a
  | .moraineStaging p _ => oneOf 64 p
  | .macRead p => oneOf 2 p
  | _ => true

/-- A request to the commit engine through the gate (R523). -/
def ceOk : CeRequest → Bool
  | .write a v => bitsOk 32 a && valueOk v
  | .salvoOpen => true
  | .salvoAdd n a v => salvoOk n && bitsOk 32 a && valueOk v
  | .salvoRemove n a => salvoOk n && bitsOk 32 a
  | .salvoClear n => salvoOk n
  | .salvoArm n => salvoOk n
  | .salvoDisarm n => salvoOk n
  | .salvoTake n _ _ => salvoOk n
  | .salvoDiscard n => salvoOk n

/-! ## Commands -/

/-- Whether a command is well formed. -/
def Instr.wf : Instr → Bool
  | .powerOn _ => true
  | .resetNAssert _ _ => true
  | .resetNRelease _ straps => strapsOk straps
  | .railFault _ rail _ _ => oneOf 8 rail
  | .vddAuxLow _ _ => true
  | .thermalTrip _ _ _ => true
  | .thermalTripRelease _ _ => true
  | .romStageEnd _ _ _ => true
  | .hbmReady _ hbms => hbms.length == 4
  | .uplandEntered _ => true
  | .avsTargetUpdate _ _ => true
  | .avsStep _ _ => true
  | .deviceRestartSoft _ m => msgOk m
  | .softRestartProceed _ => true
  | .deviceRestartHard _ m => msgOk m
  | .watchdogExpiry _ => true
  | .wdtKick _ _ key => bitsOk 32 key
  | .healthMonitorSample _ _ margins _ => margins.length == 8
  | .healthClear _ m value => msgOk m && valueOk value
  | .ilrilHello _ m h => msgOk m && helloOk h
  | .ilrilProof _ m handle proof => msgOk m && bitsOk 16 handle && bytes32Ok proof
  | .challengeExpiry _ handle => bitsOk 16 handle
  | .lockoutEnd _ addr => addrOk addr
  | .lockoutTimeReset _ addr => addrOk addr
  | .ilrilClose _ m => msgOk m
  | .sessionIdleTimeout _ session => sessionOk session
  | .tcpConnectionClose _ session => sessionOk session
  | .ilrilKeepalive _ m => msgOk m
  | .ilrilRead _ m index sub offset maxLength =>
    msgOk m && bitsOk 16 index && bitsOk 16 sub && bitsOk 32 offset && bitsOk 16 maxLength
  | .ilrilWrite _ m index sub value => msgOk m && bitsOk 16 index && bitsOk 16 sub && valueOk value
  | .ilrilBulkRead _ m items => msgOk m && (items.all fun x => bitsOk 16 x.1 && bitsOk 16 x.2)
  | .ilrilBulkWrite _ m items => msgOk m && (items.all fun x => bitsOk 16 x.1 && bitsOk 16 x.2.1 && valueOk x.2.2)
  | .ilrilFence _ m scope => msgOk m && bitsOk 8 scope
  | .fenceComplete _ session seq => sessionOk session && bitsOk 64 seq
  | .fenceMissing _ session seq => sessionOk session && bitsOk 64 seq
  | .notifySend _ session => sessionOk session
  | .notifyResend _ session => sessionOk session
  | .notifyAck _ m notifySeq => msgOk m && bitsOk 64 notifySeq
  | .salvoOpen _ m => msgOk m
  | .salvoAdd _ m n index sub value => msgOk m && salvoOk n && bitsOk 16 index && bitsOk 16 sub && valueOk value
  | .salvoRemove _ m n index sub => msgOk m && salvoOk n && bitsOk 16 index && bitsOk 16 sub
  | .salvoClear _ m n => msgOk m && salvoOk n
  | .salvoArm _ m n => msgOk m && salvoOk n
  | .salvoMirrorAck _ n => salvoOk n
  | .mirrorTimeout _ n => salvoOk n
  | .salvoDisarm _ m n => msgOk m && salvoOk n
  | .salvoDiscard _ m n => msgOk m && salvoOk n
  | .salvoTake _ m n _ _ => msgOk m && salvoOk n
  | .takeMirrorAck _ n => salvoOk n
  | .houseFrameBoundary _ => true
  | .sdiSignalDetect _ lane _ => laneOk lane
  | .sdiRateSearchStep _ lane => laneOk lane
  | .sdiClockLock _ lane => laneOk lane
  | .sdiLock _ lane _ _ => signalOk lane
  | .sdiClockLoss _ lane => laneOk lane
  | .sdiSignalLoss _ lane _ => laneOk lane
  | .sdiEavTimeout _ lane _ => laneOk lane
  | .sdiRasterMismatch _ lane _ _ => laneOk lane
  | .sdiLineReceived _ lane _ _ => signalOk lane
  | .sdiEdhField _ lane _ _ _ => signalOk lane
  | .sdiAudioPacket _ lane p => signalOk lane && audioOk p
  | .sdiAudioGroupAbsent _ lane groupBit => signalOk lane && oneOf 32 groupBit
  | .sdiAncPacket _ lane p => signalOk lane && ancOk p
  | .sdiTxFrameEmit _ lane => laneOk lane
  | .sdiTxIdleEnd _ lane => laneOk lane
  | .sourceFrameWrite _ slot part => slotOk slot && partOk part
  | .generatorFrameWrite _ slot => slotOk slot
  | .destinationReadStart _ dst => slotOk dst
  | .partialFrame _ dst _ => slotOk dst
  | .engineAlignmentPoint _ engine => oneOf 32 engine
  | .layerGfxOffset _ m sub value => msgOk m && bitsOk 16 sub && valueOk value
  | .layerGfxData _ m sub value => msgOk m && bitsOk 16 sub && valueOk value
  | .layerGfxFlip _ m sub value => msgOk m && bitsOk 16 sub && valueOk value
  | .colShaperData _ m sub value => msgOk m && bitsOk 16 sub && valueOk value
  | .colLutOffset _ m sub value => msgOk m && bitsOk 16 sub && valueOk value
  | .colLutData _ m sub value => msgOk m && bitsOk 16 sub && valueOk value
  | .colTableFlip _ m sub value => msgOk m && bitsOk 16 sub && valueOk value
  | .corniceBlock _ _ => true
  | .auInputRate _ channel _ => oneOf 32768 channel
  | .tapChangeStart _ output => oneOf 32768 output
  | .crossfadeEnd _ output => oneOf 32768 output
  | .meterPeriod _ => true
  | .loudnessUpdate _ group => oneOf 256 group
  | .meterClear _ m index sub value => msgOk m && bitsOk 16 index && bitsOk 16 sub && valueOk value
  | .tarnEnWrite _ port value => oneOf 8 port && bitsOk 32 value
  | .tarnGo _ value => bitsOk 32 value
  | .tarnTrigEdge _ => true
  | .tarnStarted _ => true
  | .tarnFrameStart _ port _ _ => oneOf 8 port
  | .tarnMaskWrite _ port _ value _ => oneOf 8 port && bitsOk 32 value
  | .tarnFsEdge _ port => oneOf 8 port
  | .tarnFsLost _ port => oneOf 8 port
  | .tarnRateMeasure _ port _ _ => oneOf 8 port
  | .tarnRxfifoRead _ port => oneOf 8 port
  | .tarnTxfifoWrite _ port value => oneOf 8 port && bitsOk 32 value
  | .mpFrameReceived _ port f => mediaPortOk port && ethOk f
  | .reportRetransmit _ port group => mediaPortOk port && addrOk group
  | .packetRelease _ entry => entryOk entry
  | .flowLost _ entry => entryOk entry
  | .mergePathLost _ entry => entryOk entry
  | .mergePathRestored _ entry => entryOk entry
  | .ancUnmatched _ entry => entryOk entry
  | .pdvSecond _ entry => entryOk entry
  | .mpLinkUp _ port => mediaPortOk port
  | .mpLinkDown _ port => mediaPortOk port
  | .txPacketDeparture _ entry => entryOk entry
  | .txAudioPacket _ entry => entryOk entry
  | .txAncPackets _ entry _ => entryOk entry
  | .txOpaqueForward _ entry => entryOk entry
  | .txResolveRenew _ entry => entryOk entry
  | .txUnresolved _ entry => entryOk entry
  | .wsEvaluation _ => true
  | .refEdge _ ref _ => oneOf 11 ref
  | .refFreqMeasure _ _ => true
  | .refLost _ ref _ => oneOf 11 ref
  | .refSignalBack _ ref => oneOf 11 ref
  | .refAvailable _ ref => oneOf 11 ref
  | .ptpAnnounceTimeout _ ref => oneOf 11 ref
  | .wsLocked _ => true
  | .wsTimeSet _ m value => msgOk m && valueOk value
  | .loFault _ _ _ => true
  | .loRestored _ => true
  | .holdoverReady _ => true
  | .holdoverModelSave _ => true
  | .holdoverExpired _ => true
  | .wsHoldoverReset _ m value => msgOk m && valueOk value
  | .fpPulseEmit _ output => oneOf 4 output
  | .wsHistoryClear _ m value => msgOk m && valueOk value
  | .arbPatternRecognised _ _ _ => true
  | .twinStatusSend _ => true
  | .twinStatusBlock _ b => blockOk b
  | .twinPeerLost _ => true
  | .twinPeerFound _ => true
  | .twinCopySend _ => true
  | .twinCopyReceive _ c => copyOk c
  | .twinCopyAck _ => true
  | .salvoMirrorReceive _ n state owner changes => salvoOk n && oneOf 6 state && bitsOk 16 owner && changes.all changeOk
  | .takeMirrorReceive _ n _ => salvoOk n
  | .writeThroughAck _ => true
  | .writeThroughTimeout _ => true
  | .twinAnnounce _ => true
  | .ethPllLock _ octet => octetOk octet
  | .laneAligned _ lane => laneOk lane
  | .laneAlignLost _ lane _ => laneOk lane
  | .saddleAutoSlip _ => true
  | .saddleSlip _ m sub value => msgOk m && bitsOk 16 sub && valueOk value
  | .saddleMarker _ lane _ _ _ => laneOk lane
  | .saddleSeed _ lane _ _ => laneOk lane
  | .saddleTrainWord _ lane _ => laneOk lane
  | .saddleTrainStep _ lane _ => laneOk lane
  | .saddleTrainRequest _ m sub value => msgOk m && bitsOk 16 sub && valueOk value
  | .saddleRestart _ m value => msgOk m && valueOk value
  | .markerMissing _ lane => laneOk lane
  | .saddleMessage _ before start rest => before.length ≤ 8 && start.length ≤ 8 && rest.length ≤ 8
  | .spurRefLost _ input => oneOf 4 input
  | .spurRefRestored _ input => oneOf 4 input
  | .octetPllUnlock _ octet _ => octetOk octet
  | .lanePrbsLocked _ lane _ => laneOk lane
  | .lanePrbsLost _ lane _ _ => laneOk lane
  | .morDriveLost _ drive => oneOf 4 drive
  | .morDriveRetry _ drive => oneOf 4 drive
  | .morDriveUp _ drive _ _ _ _ _ => oneOf 4 drive
  | .smartPoll _ drive _ _ => oneOf 4 drive
  | .nvmeCompletion _ drive job _ => oneOf 4 drive && jobOk job
  | .playbackFrameWrite _ p => oneOf 64 p
  | .delayFrameWrite _ l => oneOf 64 l
  | .morFormat _ m value => msgOk m && valueOk value
  | .clipDelete _ m sub value => msgOk m && bitsOk 16 sub && valueOk value
  | .morJournalRead _ m => msgOk m
  | .ctlFrameReceived _ port f => oneOf 2 port && ctlFrameOk f
  | .ctlTxFrame _ port => oneOf 2 port
  | .ctlLinkUp _ port _ => oneOf 2 port
  | .ctlLinkDown _ port => oneOf 2 port
  | .ctlSpeedCycle _ port => oneOf 2 port
  | .ctlLoadWindow _ port _ _ => oneOf 2 port
  | .ctlStepFail _ port => oneOf 2 port
  | .cmacCtrlWrite _ port value => oneOf 2 port && bitsOk 32 value
  | .colRequest _ target waiting => oneOf 6 target && waiting.all colOk
  | .colPortClockStop _ target => oneOf 6 target
  | .colFence _ value => bitsOk 32 value
  | .colApertureRefused _ value _ => bitsOk 32 value
  | .scrTailWrite _ channel value => oneOf 32 channel && bitsOk 32 value
  | .scrDescriptorStart _ => true
  | .scrPeriphRequest _ _ _ => true
  | .scrDescriptorComplete _ _ => true
  | .scrHalted _ _ _ => true
  | .scrStall _ => true
  | .scrAbort _ channel _ => oneOf 32 channel
  | .scrClear _ _ => true
  | .scrChannelDisable _ channel _ => oneOf 32 channel
  | .memCorrected _ _ => true
  | .memUncorrectable _ _ addr c => bitsOk 40 addr && consumerOk c
  | .memScrubRead _ _ addr _ _ => bitsOk 40 addr
  | .monSample _ unit _ => oneOf 32 unit
  | .monPeriod _ unit => oneOf 32 unit
  | .monConfigWrite _ m index sub value => msgOk m && bitsOk 16 index && bitsOk 16 sub && valueOk value
  | .monClear _ m sub value => msgOk m && bitsOk 16 sub && valueOk value
  | .evtPop _ value => bitsOk 32 value
  | .evtSwraise _ value => bitsOk 32 value
  | .evtPinAck _ value => bitsOk 32 value
  | .evtPulseEnd _ pin => oneOf 2 pin
  | .subscriptionWrite _ m value => msgOk m && valueOk value
  | .counterClearWrite _ m index sub value => msgOk m && bitsOk 16 index && bitsOk 16 sub && valueOk value
  | .regCounterClear _ addr value => bitsOk 32 addr && bitsOk 32 value
  | .latencyClear _ m sub value => msgOk m && bitsOk 16 sub && valueOk value
  | .phaseHistogramClear _ m value => msgOk m && valueOk value
  | .gateVersion _ => true
  | .gateHeartbeat _ => true
  | .gateRestart _ session _ => sessionOk session
  | .gateHbmRegion _ => true
  | .gateAuthHello _ m h buf => msgOk m && helloOk h && bufOk32 buf
  | .gateAuthProof _ m handle proof buf => msgOk m && bitsOk 16 handle && bytes32Ok proof && bufOk32 buf
  | .gateMsgOpen _ m buf => msgOk m && bufOk32 buf
  | .gateMsgSeal _ session buf => sessionOk session && bufOk32 buf
  | .gateSessionEnd _ session _ => sessionOk session
  | .gateCeSubmit _ session r buf => sessionOk session && ceOk r && bufOk32 buf
  | .gateCeRead _ index sub buf => bitsOk 16 index && bitsOk 16 sub && bufOk32 buf
  | .gateKeyWrite _ session role key buf => sessionOk session && bitsOk 8 role && valueOk key && bufOk32 buf
  | .gateOwnerLock _ session _ => sessionOk session
  | .gateOtpProgram _ session hash buf => sessionOk session && valueOk hash && bufOk32 buf
  | .gateOtpRevoke _ session slot => sessionOk session && bitsOk 8 slot
  | .gateStoreLoad _ buf => bufOk32 buf
  | .gateStoreSave _ buf => bufOk32 buf
  | .gateTwinPut _ buf => bufOk32 buf
  | .gateTwinGet _ buf => bufOk32 buf
  | .gateCrypto _ _ key input output => valueOk key && bufOk32 input && bufOk32 output
  | .gateUpdate _ session _ buf => sessionOk session && bufOk32 buf
  | .gateDone _ ticket => bitsOk 32 ticket
  | .interruptForward _ _ => true
  | .cacheClean _ addr => bitsOk 32 addr
  | .cacheInval _ addr => bitsOk 32 addr
  | .cacheCleanInval _ addr => bitsOk 32 addr
  | .uplandFault _ _ pc addr => bitsOk 32 pc && bitsOk 32 addr
  | .uplandHeartbeatLate _ => true
  | .heartbeatTimeout _ => true
  | .tmwTimerExpiry _ timer => oneOf 4 timer
  | .tmwAlarmArm _ value => bitsOk 32 value
  | .tmwAlarmFire _ => true
  | .tmwPtpLatch _ => true
  | .tarnFcntLatch _ port => oneOf 8 port
  | .registerWrite _ addr value _ => bitsOk 32 addr && bitsOk 32 value
  | .roleKeyChanged _ m sub value => msgOk m && bitsOk 16 sub && valueOk value
  | .lockoutClear _ m value => msgOk m && valueOk value
  | .ownerLockChange _ m value => msgOk m && valueOk value
  | .ownerKeyProgram _ m value => msgOk m && valueOk value
  | .ownerKeyRevoke _ m value => msgOk m && valueOk value
  | .storeSaveStart _ => true
  | .storeSaved _ _ => true
  | .storeSaveNow _ m value => msgOk m && valueOk value
  | .updateBegin _ m value => msgOk m && valueOk value
  | .updateData _ m value => msgOk m && valueOk value
  | .updateCommit _ m value => msgOk m && valueOk value
  | .updateActivate _ m value => msgOk m && valueOk value
  | .updateAbort _ m value => msgOk m && valueOk value
  | .healthConfirm _ m value => msgOk m && valueOk value
  | .updateNotConfirmed _ => true
  | .osfRead _ => true
  | .osfProgram _ => true
  | .osfErase4k _ => true
  | .osfErase64k _ => true
  | .osfDone _ _ => true
  | .octetPllLock _ octet _ => octetOk octet
  | .laneClockLockLost _ lane => laneOk lane
  | .laneCdrLocked _ lane => laneOk lane
  | .ctlTxFrameWait _ port _ => oneOf 2 port

end Sys2Proof
end

