-- ==== Sys2Proof/Tests/Slice0.lean ====
section
/-!
SUPPORT. Tests: an ill-formed command for each check of WellFormed.lean, the spec's worked examples, and for every statement a
state and operands that meet the hypotheses of each of its clauses.
-/
set_option Elab.async false
namespace Sys2Proof.Tests
open Sys2Proof Sys2Proof.Machine

/-! ## Small states -/

/-- An Owner's session over UDP at Ilril port 0. -/
def boss : Session := { role := 3, encrypted := false, tcp := false, port := 0, addr := [10, 0, 0, 2], peerPort := 9000 }

/-- The first message of that session. -/
def ask : Msg := ⟨0, false, 0, [10, 0, 0, 2], 9000, 1, 0, 1, true, true, true, false⟩

/-- A running device with that session open. -/
def up : State :=
  { State.reset with
    boot := { stage := .running, resetLow := false, datapath := true, started := true, uplandRuns := true }
    il := { ctlUp := true, sessions := [(0, boss)], roleKeys := [(3, List.replicate 32 7)] } }

/-- That device 10 s later, with a trial image that waits for confirmation and a loaded store. -/
def tried : State :=
  { up with
    now := 10000000000
    up := { ctl := { trial := some (1, 1) }, windowEnds := some 10000000000 }
    st := { loaded := some ⟨1, 0, [], [], none⟩ } }

/-- A 720p frame of which 300 lines are written. -/
def still : Frame := ⟨4, 0x3600, 1, 0, [], 0, 300, false, false, none, 0, .frame 7 4, [], 0, false, false, false⟩

/-- That frame as a destination shows it. -/
def onAir : Shown :=
  { pic := .frame 7 4, loss := false, route := 0x1000007, slot := 7, seq := 4, kind := 1, origin := 0, stages := [], read := 0
    align := 0, format := 0x3600, anc := [], store := some (7, 4) }

/-- A PTP master whose interval has run out, and one that still announces. -/
def firstMaster : PtpMaster := ⟨⟨[1], [1], 0, 6, 0, 0, 0, 0⟩, 0, 0⟩
/-- The second master. -/
def otherMaster : PtpMaster := ⟨⟨[2], [2], 0, 6, 0, 0, 0, 0⟩, 0, 5⟩

/-- An open challenge for the Owner's role. -/
def dare : Challenge := ⟨1, 3, false, [], [], 0, [10, 0, 0, 2], 9000, false, 0⟩

/-- An RTP packet of payload type 97 to 239.0.0.1, port 5004. -/
def pkt : Rtp := ⟨[239, 0, 0, 1], [10, 0, 0, 8], 5004, 97, 7, 0, 0, false, 100, [], [], [], [], [], false⟩

/-- A state with numeric objects set. -/
def withN (s : State) (l : List (Nat × Nat × Nat)) : State := l.foldl (fun t x => t.setN x.1 x.2.1 x.2.2) s

/-- Every supply margin at 300. -/
def strong (s : State) : State := withN s ((List.range 8).map fun k => (Obj.supplyMargin, k, 300))

/-- A state with registers set. -/
def withR (s : State) (l : List (Nat × Nat)) : State := l.foldl (fun t x => t.setRegN x.1 x.2) s

/-- The session held as the given one. -/
def withSession (s : State) (x : Session) : State := { s with il := { s.il with sessions := [(0, x)] } }

/-- The line of a Saddle lane 0 that sends words, each a control word or not, from its start (R402, R403). -/
def sent (large : Bool) (words : List (Bool × Nat)) : List Bool :=
  (words.foldl (fun (a : SaddleLane × List Bool) w => ((a.1.code 0 large w.1 w.2).1, a.2 ++ (a.1.code 0 large w.1 w.2).2)) ({}, [])).2

/-- The checks of `Ready`, to be evaluated. -/
def readyB (s : State) (m : Msg) (x : Session) (r : Req) : Bool :=
  decide (s.inReset = false ∧ s.serves m = true ∧ s.dropReason m = none ∧ s.session m.session = some x ∧
    x.seen.contains m.seq = false ∧ m.fenceSeq < m.seq ∧
    (m.fenceSeq = 0 ∨ x.fences.any (fun f => f.seq == m.fenceSeq) = true) ∧
    (∀ f ∈ x.fences, f.complete = true ∧ f.seq ≤ m.seq) ∧ x.outstanding.length < 64 ∧ x.held = [] ∧ r.malformed = false ∧
    x.waitsFor m.seq r = false ∧ s.unserved r = none ∧ ∀ a ∈ s.addressed r, look x.started a 0 ≤ m.seq)

theorem ready_of {s : State} {m : Msg} {x : Session} {r : Req} (h : readyB s m x r = true) : Ready s m x r := by
  obtain ⟨a, b, c, d, e, f, g, h, i, j, k, l, n, o⟩ := of_decide_eq_true h
  exact ⟨a, b, c, d, e, f, g, h, i, j, l, k, n, o⟩

/-- The checks of `Writable` and `Acts`, to be evaluated. -/
def actsB (s : State) (dt : Nat) (m : Msg) (x : Session) (index sub : Nat) (value : List Byte) (v : Val) : Bool :=
  decide (sub < 65536 ∧ readyB s m x (.write index sub value) = true ∧
    (s.tick dt).dictCheck x.role (adr index sub) value = .inr v ∧ (s.tick dt).standCheck (adr index sub) v = none)

theorem writable_of {s : State} {dt : Nat} {m : Msg} {x : Session} {index sub : Nat} {value : List Byte} {v : Val}
    (h : actsB s dt m x index sub value v = true) : Writable s dt m x index sub value v := by
  obtain ⟨a, b, c, d⟩ := of_decide_eq_true h
  exact ⟨a, ready_of b, c, d⟩

theorem acts_of {s : State} {dt : Nat} {m : Msg} {x : Session} {index sub : Nat} {value : List Byte} {v : Val}
    (h : (actsB s dt m x index sub value v && !(s.mirrors && writtenThrough (adr index sub) v)) = true) :
    Acts s dt m x index sub value v := by
  rw [Bool.and_eq_true, Bool.not_eq_true'] at h
  exact ⟨writable_of h.1, h.2⟩

/-- Any 6,150 bytes are a value for a shaper's back table (R263). -/
theorem shaper_dict (b : List Byte) (h : b.length = 6150) :
    (up.tick 0).dictCheck 3 (adr Obj.colShaperData 287) b = .inr (.bytes b) := by
  unfold State.dictCheck
  rw [show dictRow (adrIndex (adr Obj.colShaperData 287)) (adrSub (adr Obj.colShaperData 287)) =
    some ⟨18517, 0, 287, .octets, .wo, 1, .immediate, .bytes [], .lens 6150 6150 1⟩ by decide +kernel]
  have a : (up.tick 0).itemAccess (adr Obj.colShaperData 287) = false := by decide +kernel
  have c : (up.tick 0).itemRange (adr Obj.colShaperData 287) (.bytes b) = true := rfl
  simp [Row.value, decodeVal, Rng.ok, Rng.kept, Val.toBytes, h, a, c]

/-! ## Ill-formed commands are refused -/

/-- The watchdog key has 32 bits (R529), a challenge handle 16 (R454). -/
theorem test_wf_bits :
    (Instr.wdtKick 0 true (2 ^ 32)).wf = false ∧ (Instr.wdtKick 0 true (2 ^ 32 - 1)).wf = true ∧
      (Instr.challengeExpiry 0 65536).wf = false := by decide

/-- Eight rails (R606), 32 engines, 32,768 channels, 256 loudness groups, 11 references, 4 drives, 2 ports. -/
theorem test_wf_numbered :
    (Instr.railFault 0 8 0 0).wf = false ∧ (Instr.engineAlignmentPoint 0 32).wf = false ∧
      (Instr.auInputRate 0 32768 48000).wf = false ∧ (Instr.loudnessUpdate 0 256).wf = false ∧
      (Instr.refAvailable 0 11).wf = false ∧ (Instr.morDriveLost 0 4).wf = false ∧ (Instr.ctlTxFrame 0 2).wf = false ∧
      (Instr.refAvailable 0 10).wf = true := by decide

/-- Lane 288 does not exist (R390); a signal may be of an ST2022_6 entry (R114). -/
theorem test_wf_lane :
    (Instr.sdiClockLock 0 288).wf = false ∧ (Instr.sdiClockLock 0 287).wf = true ∧
      (Instr.sdiAudioGroupAbsent 0 (65536 + 8192) 0).wf = false ∧ (Instr.sdiAudioGroupAbsent 0 (65536 + 8191) 31).wf = true ∧
      (Instr.sdiAudioGroupAbsent 0 0 32).wf = false := by decide

/-- 36 octets (R391), 2,048 slots (R158), 8,192 entries (R93), 16 salvos (R187) and 16 sessions (R451). -/
theorem test_wf_tables :
    (Instr.ethPllLock 0 36).wf = false ∧ (Instr.generatorFrameWrite 0 2048).wf = false ∧
      (Instr.packetRelease 0 8192).wf = false ∧ (Instr.mirrorTimeout 0 16).wf = false ∧
      (Instr.sessionIdleTimeout 0 16).wf = false ∧ (Instr.packetRelease 0 8191).wf = true := by decide

/-- Media port codes are 0 to 71 and 0x8000 to 0x8047 (R89). -/
theorem test_wf_media_port :
    (Instr.mpLinkUp 0 72).wf = false ∧ (Instr.mpLinkUp 0 0x8048).wf = false ∧ (Instr.mpLinkUp 0 0x8047).wf = true := by decide

/-- An address has 4 or 16 bytes (R449), a MAC address 6, a VLAN tag 12 bits. -/
theorem test_wf_addresses :
    (Instr.lockoutEnd 0 [10, 0, 0]).wf = false ∧ (Instr.lockoutEnd 0 [10, 0, 0, 2]).wf = true ∧
      (Instr.ctlFrameReceived 0 0 ⟨false, true, [], 0x800, [1, 0, 94, 0, 0], [], 64, 0⟩).wf = false ∧
      (Instr.ctlFrameReceived 0 0 ⟨false, true, [4096], 0x800, [1, 0, 94, 0, 0, 1], [], 64, 0⟩).wf = false ∧
      (Instr.mpFrameReceived 0 0 ⟨64, true, [], [1, 2, 3, 4, 5, 6], .arpRequest [10, 0, 0]⟩).wf = false ∧
      (Instr.mpFrameReceived 0 0 ⟨64, true, [], [1, 2, 3, 4, 5, 6], .arpRequest [10, 0, 0, 2]⟩).wf = true := by decide

/-- A message header's fields fit their widths (R449), a HELLO's nonce has 32 bytes (R454). -/
theorem test_wf_message :
    (Instr.ilrilClose 0 { ask with port := 2 }).wf = false ∧ (Instr.ilrilClose 0 { ask with seq := 2 ^ 64 }).wf = false ∧
      (Instr.ilrilClose 0 ask).wf = true ∧ (Instr.ilrilHello 0 ask ⟨3, false, [1]⟩).wf = false ∧
      (Instr.ilrilHello 0 ask ⟨256, false, List.replicate 32 0⟩).wf = false ∧
      (Instr.ilrilHello 0 ask ⟨3, false, List.replicate 32 0⟩).wf = true ∧
      (Instr.ilrilProof 0 ask 0 (List.replicate 31 0)).wf = false := by decide +kernel

/-- A value has at most 65,535 bytes (R448). -/
theorem test_wf_value (b : List Byte) (h : b.length = 65536) : (Instr.ownerLockChange 0 ask b).wf = false := by
  simp [Instr.wf, valueOk, h]

/-- The strap balls hold one side and eight AVS addresses (R609); a buffer is 32 bits wide (R522). -/
theorem test_wf_straps_and_buffers :
    (Instr.resetNRelease 0 ⟨true, 2, false, 0, false⟩).wf = false ∧
      (Instr.resetNRelease 0 ⟨true, 1, false, 8, false⟩).wf = false ∧
      (Instr.resetNRelease 0 ⟨true, 1, false, 7, false⟩).wf = true ∧
      (Instr.gateStoreLoad 0 ⟨2 ^ 32, 4⟩).wf = false ∧ (Instr.gateStoreLoad 0 ⟨4, 2 ^ 32⟩).wf = false := by decide

/-- An ancillary packet counts its data in 8 bits (R73); an audio packet has two pairs and four channels (R68). -/
theorem test_wf_packets :
    (Instr.sdiAncPacket 0 0 ⟨9, true, 0, 0, false, 256, 1, 10, [], true⟩).wf = false ∧
      (Instr.sdiAncPacket 0 0 ⟨9, true, 0, 0, false, 1, 1, 10, List.replicate 256 0, true⟩).wf = false ∧
      (Instr.sdiAncPacket 0 0 ⟨9, true, 0, 0, false, 1, 1, 10, List.replicate 255 0, true⟩).wf = true ∧
      (Instr.sdiAudioPacket 0 0 ⟨0, true, .clean, [false], [0, 0, 0, 0], [], 0⟩).wf = false ∧
      (Instr.sdiAudioPacket 0 0 ⟨0, true, .clean, [false, false], [0, 0, 0], [], 0⟩).wf = false ∧
      (Instr.mpFrameReceived 0 0 ⟨64, true, [], [1, 2, 3, 4, 5, 6], .rtp { pkt with payloadType := 128 }⟩).wf = false ∧
      (Instr.mpFrameReceived 0 0 ⟨64, true, [], [1, 2, 3, 4, 5, 6], .rtp pkt⟩).wf = true := by decide +kernel

/-- A frame starts on one link or on four (R56, R61). -/
theorem test_wf_frame_part :
    (Instr.sourceFrameWrite 0 0 (.start [0, 0])).wf = false ∧ (Instr.sourceFrameWrite 0 0 (.start [0])).wf = true ∧
      (Instr.sourceFrameWrite 0 0 (.start [0, 1, 2, 3])).wf = true := by decide

/-- The peer's status block names a side, a role and a pattern (R379); a copy its salvos (R377); a change has a number below 4,096
(R187). -/
theorem test_wf_twin :
    (Instr.twinStatusBlock 0 ⟨2, 0, 0, 0, 0, 0, 0, 0, [], List.replicate 6 0⟩).wf = false ∧
      (Instr.twinStatusBlock 0 ⟨1, 2, 2, 0, 0, 0, 0, 0, [], List.replicate 6 0⟩).wf = true ∧
      (Instr.twinCopyReceive 0 ⟨0, [], [⟨16, 0, 0, 0, none⟩], [], [], [], false, []⟩).wf = false ∧
      (Instr.salvoMirrorReceive 0 0 6 0 []).wf = false ∧
      (Instr.salvoMirrorReceive 0 0 0 0 [⟨4096, 0, .num 0⟩]).wf = false := by decide

/-- 64 recorders (R423); six masters and a 40-bit address at a Col port (R535); the consumers of R555; the gate's requests. -/
theorem test_wf_engines :
    (Instr.nvmeCompletion 0 0 (.recordFrame 64) true).wf = false ∧
      (Instr.colRequest 0 0 [⟨6, true, true, 0, [], 0, false⟩]).wf = false ∧
      (Instr.colRequest 0 0 [⟨5, true, true, 2 ^ 40, [], 0, false⟩]).wf = false ∧
      (Instr.memUncorrectable 0 0 0 (.corniceBlock 32768)).wf = false ∧
      (Instr.gateCeSubmit 0 0 (.salvoArm 16) ⟨0, 0⟩).wf = false := by decide

/-- Four HBM stacks report (R613), eight supply margins are sampled (R484). -/
theorem test_wf_lists :
    (Instr.hbmReady 0 [true, true, true]).wf = false ∧ (Instr.hbmReady 0 [true, true, true, true]).wf = true ∧
      (Instr.healthMonitorSample 0 0 [] []).wf = false := by decide

/-! ## Worked examples of the spec: the expected values are its own -/

/-- spec/02, Harrowgate Opera: the skew limit of a 2160p59.94 group is 3,707 ns. -/
theorem test_skew_limit : fmtCode 7 7 0 = 0x7700 ∧ skewLimit 0x7700 = 3707 := by decide +kernel

/-- spec/03, Tollmere Arena: M of a 2160p60 path with 1,200-byte packets at 10 ms and at the default delay. -/
theorem test_receive_reservation :
    Objs.rxReserve (withN up [(Obj.rxEssence, 4, 1), (Obj.rxVideoFormat, 4, 0x7700), (Obj.rxPort, 4, 4),
      (Obj.rxPacketBytes, 4, 1200), (Obj.rxBufferDelay, 4, 10000000), (Obj.rxSenderType, 4, 2)]).objs 4 = 13662464 ∧
    Objs.rxReserve (withN up [(Obj.rxEssence, 4, 1), (Obj.rxVideoFormat, 4, 0x7700), (Obj.rxPort, 4, 4),
      (Obj.rxPacketBytes, 4, 1200), (Obj.rxSenderType, 4, 2)]).objs 4 = 414549 := by decide +kernel

/-- spec/04, Brantwick Theatre: port charges of the 1080p50 flow (H = 86) and of the audio flow (H = 78). -/
theorem test_port_charges :
    FlowCharge.rate ⟨1, (fmtPayload 0x6600, 1), 1200, flowHeader 1 0xFFFF 4 true, 0⟩ = (2222208000, 1) ∧
    audioPacket 2 8 1 3 0 = 1152 ∧
    FlowCharge.rate ⟨2, (audioPayload 2 8 1 0, 1), 1152, flowHeader 2 0xFFFF 4 false, 0⟩ = (9840000, 1) := by decide +kernel

/-- spec/04, Brantwick Theatre: N_pkt, TRO and the timestamp of the frame aligned at 2,000 s. -/
theorem test_pacing :
    framePackets 0x6600 1200 = 4320 ∧ defaultTro 0x6600 = (43, 1125) ∧ rtpTime (2000, 1) 90000 = 180000000 := by decide +kernel

/-- spec/04, Brantwick Theatre: the group address, and side 1's station address of MPB02. -/
theorem test_mac_addresses :
    groupMac [239, 40, 2, 17] = [0x01, 0x00, 0x5E, 0x28, 0x02, 0x11] ∧
    macPlus [0x02, 0x4A, 0x11, 0xC0, 0x3F, 0x00] (128 + 38) = [0x02, 0x4A, 0x11, 0xC0, 0x3F, 0xA6] := by decide +kernel

/-- spec/12, Wexcombe: entry 0x0100, copied four frames before the takeover, goes on four frames of packets later. -/
theorem test_takeover_packets :
    (withN up [(Obj.txEnable, 256, 1), (Obj.txEssence, 256, 1), (Obj.dstReservedFormat, 40, 0x6600), (Obj.txSource, 256, 40),
      (Obj.txPacketBytes, 256, 1200)]).packetsBetween ⟨256, 5, 200000, 0x6600, tcSec⟩ (tcSec + 80000000 * tcNs) =
      4 * 4320 := by
  decide +kernel

/-- spec/05, Stonefell: T_ld is 14.8296 µs. -/
theorem test_line_period : (fmtLinesPs 0x6700 1 + 50) / 100 = 148296 := by decide +kernel

/-- spec/06: S0012 with video and ancillary data is 0x0300_000C. -/
theorem test_route_value : routeValid 0x0300000C = true ∧ routeSource 0x0300000C = some 12 ∧ routeAnc 0x0300000C = true := by
  decide

/-- spec/06, Corrie Hall: what a 720p50 and a 1080p50 source cost. -/
theorem test_follow_charges :
    fmtPixelRate 0x3600 = 46080000 ∧ fmtPayload 0x3600 = 921600000 ∧ fmtStreamAt 0x3600 50 = 127692800 ∧
      fmtStream 0x6600 = 279756800 := by decide +kernel

/-- spec/07, Ravensholt Festival: the steps and tap counts of V0, V1, V2 and the cropped V2. -/
theorem test_tap_counts :
    (scaleStep 2160 1080, lineTaps 3840 1 131072) = (131072, 3) ∧ (scaleStep 1080 270, lineTaps 1920 1 262144) = (262144, 5) ∧
    (scaleStep 2160 540, lineTaps 3840 1 262144) = (262144, 1) ∧ (scaleStep 1080 540, lineTaps 1920 1 131072) = (131072, 6) := by
  decide +kernel

/-- spec/07, Ravensholt Festival: the phases of column 10 and of row 0 of V1. -/
theorem test_phases :
    scalePos 0 262144 10 = 2719744 ∧ scaleTap 2719744 = (41, 32) ∧ scalePos 0 262144 0 = 98304 ∧ scaleTap 98304 = (1, 32) := by
  decide +kernel

/-- spec/07, Ravensholt Festival: D_c, the bytes of a 1080p surface and G0's stream. -/
theorem test_surface :
    compositeDelay 0x6600 = 144222 ∧ surfaceBytes 0x6600 = 11059200 ∧ surfaceStream 0x6600 = 552960000 := by decide +kernel

/-- spec/09: AI00200 is 0x1000_00C8; Aldmoor: D of 5,728,000 ns and of 24,810,222 ns. -/
theorem test_audio_binding :
    audioRefOk 0x100000C8 = true ∧ refIsAi 0x100000C8 = true ∧ refNo 0x100000C8 = 200 ∧ samplesOf 5728000 96000 = 550 ∧
      samplesOf 24810222 96000 = 2382 := by decide +kernel

/-- spec/10, Tolpen Playhouse: a group of both families triggered at 1,000,000 ns starts at 3,333,333 ns. -/
theorem test_group_start :
    ((withR { up with tc := 1000000 * tcNs } [(Reg.trnGrpctl, 3), (tpReg 0 Tp.ctrl, 57), (tpReg 1 Tp.ctrl, 11)]).tarnGoWrite
      1).tarn.t0.map (· / tcNs) = some 3333333 := by decide +kernel

/-- spec/13, Hollin Moor: SaddleLaneOrder 0x00FA_C4C8 packs the offsets 0, 1, 3, 2, 4, 5, 6 and 7. -/
theorem test_lane_order :
    (List.range 8).map (withN up [(Obj.saddleLaneOrder, 0, 0x00FAC4C8)]).rxOf = [0, 1, 3, 2, 4, 5, 6, 7] := by decide +kernel

/-- spec/14, Glaisdale: extents of the drive, of the delay ring and of the refused record. -/
theorem test_extents :
    driveExtents 1073741824 2000398934016 = 953348 ∧ poolFrame 0x6600 = 5595136 ∧ poolExtents 0x6600 180002 = 480240 ∧
      poolFrame 0x7600 = 22183936 ∧ poolExtents 0x7600 60000 = 634688 := by decide +kernel

/-- spec/19, Askwith Hall: the bursts of an element at source offset 256, and a word stored as 0x1122_3344 read under SWAP 2. -/
theorem test_bursts :
    ([0, 256, 512, 768].map fun off => burstLen [0, 0, 0, 0, 4, 0x13FF, 0, 0, 2] 0x500 0x10200400 off) = [256, 256, 256, 256] ∧
    burstLen [0, 0, 0, 0, 4, 0x13FF, 0, 0, 2] 0 0x10200000 0 = 512 ∧
    ((List.range 4).map fun i => [0x11, 0x22, 0x33, 0x44].getD (swapAt 2 i) 0) = [0x44, 0x33, 0x22, 0x11] := by decide +kernel

/-- spec/20, Lathwaite Studios: the bins of 6,240,000 ns and 26,240,000 ns, and EvtPinState with source 53. -/
theorem test_monitor :
    (Hist.fresh 0 1000000 0 0).bin 6240000 = 7 ∧ (Hist.fresh 0 1000000 0 0).bin 26240000 = 27 ∧
    State.evtPinStateOf { up with ev := { up.ev with pin1 := { asserted := true, cause := some 53 } } } 1 = 0x46B := by
  decide +kernel

/-! ## Codings and pictures: the expected values are hand calculations from the rules -/

/-- R402: an IDLE word (type 0x1E) has 27 zeros at its end, and a stuffed bit after 24 of them; the receiver removes it, and
counts it where it equals the run. -/
theorem test_stuffing :
    let line := [true, false, false, true, true, true, true] ++ List.replicate 24 false ++ [true] ++ List.replicate 3 false
    (stuff ([true, false] ++ lsbBits 32 0x1E) ⟨false, 0⟩).1 = line ∧
      (destuff line ⟨false, 0⟩).1 = [true, false] ++ lsbBits 32 0x1E ∧ (destuff line ⟨false, 0⟩).2.2 = 0 ∧
      (destuff (List.replicate 25 false) ⟨true, 1⟩).2.2 = 1 := by decide +kernel

/-- R402: lane 0 begins with all ones, so its first bit goes out as it is and a zero enters; the descrambler undoes it. -/
theorem test_scrambler :
    scramblerInit 7 = 0x7FFFF8 ∧ scramble [true] (scramblerInit 0) = ([true], 0x7FFFFE) ∧
      (scramble (scramble (lsbBits 32 0x12345678) 0x7FFFF8).1 0x7FFFF8).1 = lsbBits 32 0x12345678 := by decide +kernel

/-- R403: one bit in 64 zeros comes out at places 0, 39 and 58. -/
theorem test_self_scrambler :
    ofBits (selfScramble (lsbBits 64 1) 0).1 = 2 ^ 58 + 2 ^ 39 + 1 ∧
      (selfDescramble (selfScramble (lsbBits 64 0x123456789ABCDEF0) 5).1 5).1 = lsbBits 64 0x123456789ABCDEF0 := by decide +kernel

/-- R158: slot 2047, line 1 and the low 8 bits of frame 0x1FF. -/
theorem test_frame_tag : frameTag 2047 1 0x1FF = 0xFFE001FF := by decide +kernel

/-- R178: a flat field at 12 bits is scaled by 4; RAMP runs from 64 to 940; CHECKER starts with 64. R179: the box at grid index 1
of 720p lies at column 8, lines 328 to 391. -/
theorem test_patterns :
    patternCode 1 0x04080200 0 0x3620 0 5 5 = 256 ∧ patternCode 1 0x04080200 0 0x3600 1 4 5 = 512 ∧
      patternCode 6 0 0 0x3600 0 0 9 = 64 ∧ patternCode 6 0 0 0x3600 0 1279 9 = 940 ∧
      patternCode 7 0 0 0x3600 0 63 63 = 64 ∧ patternCode 7 0 0 0x3600 0 64 0 = 940 ∧
      inBox 0x3600 1 8 328 = true ∧ inBox 0x3600 1 7 328 = false ∧ inBox 0x3600 1 71 391 = true ∧ inBox 0x3600 1 8 392 = false := by
  decide +kernel

/-- R59: pixel (2, 1) of a two-sample interleave is on link 4 at (0, 0); of a square division on link 1 at (2, 1). -/
theorem test_link_pixels : linkPixel 2 2 1 = (3, 0, 0) ∧ linkPixel 1 2 1 = (0, 2, 1) ∧ pixelOfLink 2 3 0 0 = (2, 1) := by decide


/-- The worked example of chapter 8: BT.709 red of codes 250, 409, 960 becomes 458, 384, 739 in an SDR_2020 output. -/
theorem test_colour_stage :
    let v := StageLook.exact { input := 0, output := 1, bypass := false, sdrPeak := 100, hlgPeak := 1000 } (186, -103, 448)
    (outputCode false 64 v.1, outputCode false 512 v.2.1, outputCode false 512 v.2.2) = (458, 384, 739) := by decide +kernel

/-- R296: full scale reads 0, half of it -6.02 dB rounded down, silence -128 dB. R280: +6 dB is a gain between 1.995 and 1.996. -/
theorem test_levels :
    (levelOf fullScale fullScale == 0) = true ∧ (levelOf fullScale (fullScale / 2) == -603) = true ∧
      (levelOf fullScale 0 == -12800) = true ∧ ((1000000 * linearGain 600).floor == 1995262) = true :=
  ⟨by decide +kernel, by decide +kernel, by decide +kernel, by decide +kernel⟩

/-- R289: a third of the way through an equal-power fade the new tap has half its level. -/
theorem test_fade_power : (1000000 * sinPart (1 / 3)).floor = 499999 ∨ (1000000 * sinPart (1 / 3)).floor = 500000 := by
  decide +kernel

/-! ## The hypotheses of the statements are met -/

/-- The hypotheses of StepRunsFrontCommand hold somewhere. -/
theorem witness_StepRunsFrontCommand :
    ∃ (s : State) (c : Instr) (rest : List Instr), s.pending = c :: rest :=
  ⟨{ up with pending := [.gateVersion 5] }, .gateVersion 5, [], by decide +kernel⟩

/-- The hypotheses of StepIdlesOnEmptyQueue hold somewhere. -/
theorem witness_StepIdlesOnEmptyQueue :
    ∃ (s : State), s.pending = [] :=
  ⟨up, by decide +kernel⟩

/-- The hypotheses of StepKeepsSound hold somewhere. -/
theorem witness_StepKeepsSound :
    ∃ (s t : State), s.Sound ∧ step s = .next t :=
  ⟨{ withN up [(Obj.rxState, 287, 2)] with pending := [.sdiClockLock 0 287] }, _, by
  unfold State.Sound State.Canonical; decide +kernel, rfl⟩

/-- The hypotheses of FusesOnlyBurn hold somewhere. -/
theorem witness_FusesOnlyBurn :
    ∃ (s t : State), step s = .next t :=
  ⟨{ up with pending := [.gateOtpRevoke 0 0 3] }, _, rfl⟩

/-- The hypotheses of FlashKept hold somewhere. -/
theorem witness_FlashKept :
    ∃ (c : Instr) (s t : State), familyOf c ∈ [.power, .sdi, .picture, .audio, .tarn, .media, .watershed, .twin, .lane,
    .moraine, .control, .monitor] ∧ exec c s = .next t :=
  ⟨.hbmReady 0 [], up, _, by decide +kernel, rfl⟩

/-- The hypotheses of OwnerKeysKept hold somewhere. -/
theorem witness_OwnerKeysKept :
    ∃ (c : Instr) (s t : State), familyOf c ∈ [.sdi, .picture, .audio, .tarn, .media, .watershed, .twin, .lane, .moraine,
    .control, .bus, .monitor] ∧ exec c s = .next t :=
  ⟨.sdiClockLock 0 287, up, _, by decide +kernel, rfl⟩

/-- The hypotheses of RoutesKept hold somewhere. -/
theorem witness_RoutesKept :
    ∃ (c : Instr) (s t : State), familyOf c ∈ [.sdi, .picture, .audio, .tarn, .watershed, .lane, .moraine, .control] ∧ exec c s
    = .next t :=
  ⟨.destinationReadStart 0 2047, up, _, by decide +kernel, rfl⟩

/-- The hypotheses of CommandFrame hold somewhere. -/
theorem witness_CommandFrame :
    ∃ (c : Instr) (s t : State), exec c s = .next t :=
  ⟨.healthMonitorSample 0 400 [] [], up, _, rfl⟩

/-- The hypotheses of CommandsComplete hold somewhere. -/
theorem witness_CommandsComplete :
    ∃ (c : Instr) (s : State), s.inReset = true ∧ familyOf c ≠ .power :=
  ⟨.sdiClockLock 0 287, State.reset, by decide +kernel⟩

/-- The hypotheses of each clause of SdiReceiveStarts hold somewhere. -/
theorem witness_SdiReceiveStarts :
    (∃ (s : State) (lane lasted : ℕ), s.on ∧ lane < 288 ∧ s.n Obj.rxState lane = 1 ∧ 10000 ≤ lasted) ∧
    (∃ (s : State) (dt lane : ℕ), s.on ∧ lane < 288 ∧ s.n Obj.rxState lane = 2 ∧ (s.rxLane lane).tryAt + 1000000 ≤ s.now + dt) ∧
    (∃ (s : State) (lane : ℕ), s.on ∧ lane < 288 ∧ s.n Obj.rxState lane = 2 ∧ (s.rxLane lane).tryBit < 9) :=
  ⟨⟨withN up [(Obj.rxState, 287, 1)], 287, 10000, by decide +kernel⟩,
   ⟨withN up [(Obj.rxState, 287, 2)], 1000000, 287, by decide +kernel⟩,
   ⟨{ withN up [(Obj.rxState, 287, 2)] with sdiRx := [(287, { tryBit := 8 })] }, 287, by decide +kernel⟩⟩

/-- The hypotheses of each clause of SdiReceiveStops hold somewhere. -/
theorem witness_SdiReceiveStops :
    (∃ (s : State) (lane : ℕ), s.on ∧ lane < 288 ∧ 3 ≤ s.n Obj.rxState lane) ∧
    (∃ (s : State) (lane lasted : ℕ), s.on ∧ lane < 288 ∧ 2 ≤ s.n Obj.rxState lane ∧ 10000 ≤ lasted) ∧
    (∃ (s : State) (lane periods : ℕ), s.on ∧ lane < 288 ∧ s.n Obj.rxState lane = 4 ∧ 16 ≤ periods) ∧
    (∃ (s : State) (lane lines samples : ℕ), s.on ∧ lane < 288 ∧ s.n Obj.rxState lane = 4 ∧ rasterIs ⟨lines, samples,
      rasterInterlaced (fmtRaster (s.n Obj.rxFormat lane)) || fmtRaster (s.n Obj.rxFormat lane) == 5, 0⟩ (s.n Obj.rxRate lane)
      (s.n Obj.rxFormat lane) = false) :=
  ⟨⟨withN up [(Obj.rxState, 287, 3)], 287, by decide +kernel⟩,
   ⟨withN up [(Obj.rxState, 287, 2)], 287, 10000, by decide +kernel⟩,
   ⟨withN up [(Obj.rxState, 287, 4)], 287, 16, by decide +kernel⟩,
   ⟨withN up [(Obj.rxState, 287, 4), (Obj.rxRate, 287, 1), (Obj.rxFormat, 287, 0x3600)], 287, 749, 1980, by decide +kernel⟩⟩

/-- The hypotheses of SdiLocks hold somewhere. -/
theorem witness_SdiLocks :
    ∃ (s : State) (lane : ℕ) (raster : Raster) (pid : Option PayloadId) (f b : ℕ) (mismatch : Bool), s.on ∧ s.rxSt lane = 3 ∧
    s.identifyOn lane (s.signalRates lane) raster pid = (some (f, b), mismatch) :=
  ⟨withN up [(Obj.rxState, 287, 3), (Obj.rxRate, 287, 1)], 287, ⟨750, 1980, false, 0⟩, none, 0x3600, 1, false, by
  decide +kernel⟩

/-- The hypotheses of each clause of SdiChecks hold somewhere. -/
theorem witness_SdiChecks :
    (∃ (s : State) (lane : ℕ) (line : SdiLine), s.on ∧ s.rxSt lane = 4 ∧ s.rxn Obj.rxFormat lane ≠ 0 ∧ line.crcError = true ∧
      fmtRaster (s.rxn Obj.rxFormat lane) ≠ 1 ∧ fmtRaster (s.rxn Obj.rxFormat lane) ≠ 2) ∧
    (∃ (s : State) (lane : ℕ), s.on ∧ s.rxSt lane = 4 ∧ s.quad lane = true) ∧
    (∃ (s : State) (lane : ℕ) (line : SdiLine), s.on ∧ s.rxSt lane = 4 ∧ Objs.rxLead s.objs lane = lane ∧ line.number =
      (firstLines (fmtRaster (s.rxn Obj.rxFormat lane))).1) ∧
    (∃ (s : State) (lane : ℕ) (line : SdiLine), s.on ∧ s.rxSt lane = 4 ∧ line.number = (pidLines (fmtRaster (s.rxn Obj.rxFormat
      lane))).headD 0 ∧ line.pid ≠ (s.rxLane lane).pid) ∧
    (∃ (s : State) (lane : ℕ), s.on ∧ s.rxSt lane = 4 ∧ (fmtRaster (s.rxn Obj.rxFormat lane) = 1 ∨ fmtRaster (s.rxn Obj.rxFormat
      lane) = 2)) ∧
    (∃ (s : State) (lane : ℕ), s.on ∧ s.rxSt lane = 4 ∧ (fmtRaster (s.rxn Obj.rxFormat lane) = 1 ∨ fmtRaster (s.rxn Obj.rxFormat
      lane) = 2)) :=
  ⟨⟨withN up [(Obj.rxState, 287, 4), (Obj.rxRate, 287, 1), (Obj.rxFormat, 287, 0x3600)], 287, ⟨26, true, none⟩, by
    decide +kernel⟩,
   ⟨withN up [(Obj.rxState, 284, 4), (Obj.rxQuad, 284, 1)], 284, by decide +kernel⟩,
   ⟨withN up [(Obj.rxState, 287, 4), (Obj.rxRate, 287, 1), (Obj.rxFormat, 287, 0x3600)], 287, ⟨(firstLines 3).1, false, none⟩,
    by decide +kernel⟩,
   ⟨withN up [(Obj.rxState, 287, 4), (Obj.rxRate, 287, 1), (Obj.rxFormat, 287, 0x3600)], 287, ⟨(pidLines 3).headD 0, false, some
    ⟨0x8A, 0x3600, 0xFFFF, 0, 0⟩⟩, by decide +kernel⟩,
   ⟨withN up [(Obj.rxState, 287, 4), (Obj.rxRate, 287, 1), (Obj.rxFormat, 287, 0x2600)], 287, by decide +kernel⟩,
   ⟨withN up [(Obj.rxState, 287, 4), (Obj.rxRate, 287, 1), (Obj.rxFormat, 287, 0x1700)], 287, by decide +kernel⟩⟩

/-- The hypotheses of each clause of SdiCarriesData hold somewhere. -/
theorem witness_SdiCarriesData :
    (∃ (s : State) (lane : ℕ) (p : AudioPacket), s.on ∧ (∀ k ∈ Objs.rxLanes s.objs (Objs.rxLead s.objs lane), s.rxSt k = 4) ∧
      p.rate48 = true ∧ s.rxn Obj.rxAudioBase (Objs.rxLead s.objs lane) ≠ 0xFFFF ∧ bit (s.rxn Obj.rxAudioGroups (Objs.rxLead
      s.objs lane)) p.groupBit = true ∧ s.carriesGroup lane p.groupBit = true) ∧
    (∃ (s : State) (lane : ℕ) (p : AudioPacket), s.on ∧ (∀ k ∈ Objs.rxLanes s.objs (Objs.rxLead s.objs lane), s.rxSt k = 4) ∧
      p.rate48 = false ∧ s.rxn Obj.rxAudioBase (Objs.rxLead s.objs lane) ≠ 0xFFFF ∧ bit (s.rxn Obj.rxAudioGroups (Objs.rxLead
      s.objs lane)) p.groupBit = true ∧ s.carriesGroup lane p.groupBit = true) ∧
    (∃ (s : State) (dt lane groupBit : ℕ), s.on ∧ bit (s.rxn Obj.rxAudioPresent lane) groupBit = true ∧ look (s.rxLane
      lane).groups groupBit 0 + 2 * fmtPeriodNs (s.rxLane lane).lastFormat ≤ s.now + dt) ∧
    (∃ (s : State) (lane : ℕ), s.on ∧ s.rxSt lane = 4) :=
  ⟨⟨withN up [(Obj.rxState, 287, 4), (Obj.rxRate, 287, 1), (Obj.rxFormat, 287, 0x3600), (Obj.rxAudioBase, 287, 0),
    (Obj.rxAudioGroups, 287, 8)], 287, ⟨3, true, .clean, [false, false], [0, 0, 0, 0], [], 0⟩, by decide +kernel⟩,
   ⟨withN up [(Obj.rxState, 287, 4), (Obj.rxRate, 287, 1), (Obj.rxFormat, 287, 0x3600), (Obj.rxAudioBase, 287, 0),
    (Obj.rxAudioGroups, 287, 8)], 287, ⟨3, false, .clean, [false, false], [0, 0, 0, 0], [], 0⟩, by decide +kernel⟩,
   ⟨withN up [(Obj.rxAudioPresent, 287, 1)], 0, 287, 0, by decide +kernel⟩,
   ⟨withN up [(Obj.rxState, 287, 4), (Obj.rxRate, 287, 1), (Obj.rxFormat, 287, 0x3600)], 287, by decide +kernel⟩⟩

/-- The hypotheses of each clause of SdiTransmits hold somewhere. -/
theorem witness_SdiTransmits :
    (∃ (s : State) (dt lane : ℕ) (x : Shown), s.on ∧ lane < 288 ∧ s.n Obj.laneMode lane = 1 ∧ Objs.txLead s.objs lane = lane ∧
      (s.txLane lane).idleUntil = none ∧ s.n Obj.txSlot lane ≠ 0xFFFF ∧ (s.dst (s.n Obj.txSlot lane)).shown = some x ∧ s.drives
      x.align = true ∧ x.pic ≠ .blanking ∧ x.read + 3200 + laneTxDelay (carriageRate (s.txCarriageOf lane (s.n Obj.txSlot lane))
      (s.n Obj.dstReservedFormat (s.n Obj.txSlot lane))) ≤ (s.tick dt).ptp ∧ s.sdiPll lane (carriageRate (s.txCarriageOf lane
      (s.n Obj.txSlot lane)) (s.n Obj.dstReservedFormat (s.n Obj.txSlot lane))) = true ∧ ((s.txLane lane).ran = true → s.n
      Obj.txRate lane = carriageRate (s.txCarriageOf lane (s.n Obj.txSlot lane)) (s.n Obj.dstReservedFormat (s.n Obj.txSlot
      lane)))) ∧
    (∃ (s : State) (dt lane : ℕ) (x : Shown), s.on ∧ lane < 288 ∧ s.n Obj.laneMode lane = 1 ∧ Objs.txLead s.objs lane = lane ∧
      (s.txLane lane).idleUntil = none ∧ s.n Obj.txSlot lane ≠ 0xFFFF ∧ (s.dst (s.n Obj.txSlot lane)).shown = some x ∧ s.drives
      x.align = true ∧ x.pic = .blanking ∧ x.read + 3200 + laneTxDelay (carriageRate (s.txCarriageOf lane (s.n Obj.txSlot lane))
      (s.n Obj.dstReservedFormat (s.n Obj.txSlot lane))) ≤ (s.tick dt).ptp ∧ s.sdiPll lane (carriageRate (s.txCarriageOf lane
      (s.n Obj.txSlot lane)) (s.n Obj.dstReservedFormat (s.n Obj.txSlot lane))) = true ∧ ((s.txLane lane).ran = true → s.n
      Obj.txRate lane = carriageRate (s.txCarriageOf lane (s.n Obj.txSlot lane)) (s.n Obj.dstReservedFormat (s.n Obj.txSlot
      lane)))) ∧
    (∃ (s : State) (dt lane : ℕ), s.on ∧ s.drives (s.tick dt).tc = true ∧ lane < 288 ∧ s.n Obj.laneMode lane = 1 ∧ Objs.txLead
      s.objs lane = lane ∧ (s.txLane lane).idleUntil = none ∧ s.n Obj.txSlot lane = 0xFFFF ∧ s.n Obj.txIdle lane = 1 ∧ (s.txLane
      lane).ran = true ∧ s.sdiPll lane (s.n Obj.txRate lane) = true) ∧
    (∃ (s : State) (dt lane : ℕ), s.on ∧ lane < 288 ∧ s.n Obj.laneMode lane = 1 ∧ Objs.txLead s.objs lane = lane ∧ (s.txLane
      lane).idleUntil = none ∧ s.n Obj.txSlot lane ≠ 0xFFFF ∧ (s.txLane lane).ran = true ∧ (s.tick dt).txDue lane = true ∧
      (s.tick dt).drives ((s.tick dt).txAlign lane) = true ∧ s.sdiPll lane (carriageRate (s.txCarriageOf lane (s.n Obj.txSlot
      lane)) (s.n Obj.dstReservedFormat (s.n Obj.txSlot lane))) = true ∧ s.n Obj.txRate lane ≠ carriageRate (s.txCarriageOf lane
      (s.n Obj.txSlot lane)) (s.n Obj.dstReservedFormat (s.n Obj.txSlot lane))) ∧
    (∃ (s : State) (dt lane : ℕ), s.on ∧ s.drives (s.tick dt).tc = true ∧ lane < 288 ∧ s.n Obj.laneMode lane = 1 ∧ Objs.txLead
      s.objs lane = lane ∧ (s.txLane lane).idleUntil = none ∧ s.n Obj.txSlot lane = 0xFFFF ∧ (s.txLane lane).ran = false) ∧
    (∃ (s : State) (dt lane u : ℕ), s.on ∧ s.standby = false ∧ (s.txLane lane).idleUntil = some u ∧ u ≤ s.now + dt) ∧
    (∃ (s : State) (dt lane : ℕ), s.on ∧ s.n Obj.twinSdiStandby 0 = 0 ∧ lane < 288 ∧ s.n Obj.laneMode lane = 1 ∧ Objs.txLead
      s.objs lane = lane ∧ (s.txLane lane).idleUntil = none ∧ (s.tick dt).txDue lane = true ∧ (s.tick dt).drives ((s.tick
      dt).txAlign lane) = false) :=
  ⟨⟨{ withN up [(Obj.laneMode, 287, 1), (Obj.txSlot, 287, 9), (Obj.dstReservedFormat, 9, 0x3600), (Obj.octetPllState, 35, 7)]
    with ridge := { dst := [(9, { shown := some onAir })] } }, 1000000, 287, onAir, by decide +kernel⟩,
   ⟨{ withN up [(Obj.laneMode, 287, 1), (Obj.txSlot, 287, 9), (Obj.dstReservedFormat, 9, 0x3600), (Obj.octetPllState, 35, 7)]
    with ridge := { dst := [(9, { shown := some { onAir with pic := .blanking } })] } }, 1000000, 287, { onAir with pic :=
    .blanking }, by decide +kernel⟩,
   ⟨{ withN up [(Obj.laneMode, 287, 1), (Obj.txIdle, 287, 1), (Obj.txRate, 287, 1), (Obj.octetPllState, 35, 7)] with sdiTx :=
    [(287, { ran := true })] }, 0, 287, by decide +kernel⟩,
   ⟨{ withN up [(Obj.laneMode, 287, 1), (Obj.txSlot, 287, 9), (Obj.dstReservedFormat, 9, 0x3600), (Obj.octetPllState, 35, 7)]
    with sdiTx := [(287, { ran := true })] }, 0, 287, by decide +kernel⟩,
   ⟨withN up [(Obj.laneMode, 287, 1)], 0, 287, by decide +kernel⟩,
   ⟨{ up with sdiTx := [(287, { idleUntil := some 5 })] }, 5, 287, 5, by decide +kernel⟩,
   ⟨{ withN up [(Obj.laneMode, 287, 1)] with tw := { roleAt := 5 } }, 0, 287, by decide +kernel⟩⟩

/-- The hypotheses of each clause of PictureWriters hold somewhere. -/
theorem witness_PictureWriters :
    (∃ (s : State) (slot l : ℕ), s.on ∧ Objs.feed s.objs slot = .sdi l ∧ s.slotLocked slot = true ∧ (∀ k ∈ Objs.rxLanes s.objs
      l, (s.rxLane k).pidNext = none)) ∧
    (∃ (s : State) (slot l : ℕ) (f : Frame), s.on ∧ Objs.feed s.objs slot = .sdi l ∧ (s.src slot).frames.find? Frame.open_ =
      some f) ∧
    (∃ (s : State) (slot l : ℕ) (f : Frame), s.on ∧ Objs.feed s.objs slot = .sdi l ∧ (s.src slot).frames.find? Frame.open_ =
      some f) ∧
    (∃ (s : State) (slot l : ℕ) (f : Frame), s.on ∧ Objs.feed s.objs slot = .sdi l ∧ (s.src slot).frames.find? (fun f => f.open_
      && f.finishAt.isNone) = some f) ∧
    (∃ (s : State) (dt slot g k : ℕ), s.on ∧ Objs.feed s.objs slot = .generator g ∧ s.n Obj.srcReservedFormat slot ≠ 0 ∧ k =
      gridIndex (fmtPeriod (s.n Obj.srcReservedFormat slot)) (s.tick dt).tc ∧ (s.src slot).generatorAt ≠ some k) :=
  ⟨⟨{ withN up [(Obj.rxSlot, 287, 7)] with ridge := { src := [(7, { lockedAt := some 0 })] } }, 7, 287, by decide +kernel⟩,
   ⟨{ withN up [(Obj.rxSlot, 287, 7)] with ridge := { src := [(7, { frames := [still] })] } }, 7, 287, still, by
    decide +kernel⟩,
   ⟨{ withN up [(Obj.rxSlot, 287, 7)] with ridge := { src := [(7, { frames := [still] })] } }, 7, 287, still, by
    decide +kernel⟩,
   ⟨{ withN up [(Obj.rxSlot, 287, 7)] with ridge := { src := [(7, { frames := [still] })] } }, 7, 287, still, by
    decide +kernel⟩,
   ⟨withN up [(Obj.srcGenerator, 7, 2), (Obj.srcReservedFormat, 7, 0x3600)], 0, 7, 2, 0, by decide +kernel⟩⟩

/-- The hypotheses of each clause of DestinationReads hold somewhere. -/
theorem witness_DestinationReads :
    (∃ (s : State) (dt d align r : ℕ), s.on ∧ (s.tick dt).reads d = true ∧ (s.tick dt).nextRead d (s.tick dt).ptp = (align, r) ∧
      (∀ x, (s.dst d).shown = some x → x.align ≠ align) ∧ (∀ p ∈ s.routesAhead d, p.1 ≤ align + switchOffset (Objs.sink s.objs
      d) (s.dstFormat d))) ∧
    (∃ (s : State) (dt d align r : ℕ), s.on ∧ (s.tick dt).reads d = true ∧ (s.tick dt).nextRead d (s.tick dt).ptp = (align, r) ∧
      (∀ x, (s.dst d).shown = some x → x.align ≠ align) ∧ (s.dst d).routes = [] ∧ s.n Obj.route d = (s.dst d).route ∧ bit (s.dst
      d).route 11 = true) ∧
    (∃ (s : State) (dt d slot : ℕ) (f : Frame) (align r : ℕ), s.on ∧ (s.tick dt).reads d = true ∧ (s.tick dt).nextRead d (s.tick
      dt).ptp = (align, r) ∧ (∀ x, (s.dst d).shown = some x → x.align ≠ align) ∧ (s.dst d).routes = [] ∧ s.n Obj.route d =
      (s.dst d).route ∧ routeSource (s.dst d).route = some slot ∧ s.slotLocked slot = true ∧ (∀ g ∈ (s.src slot).frames, g.open_
      = true → ∀ w, g.finishAt = some w → (s.tick dt).ptp < w) ∧ s.n Obj.dstAlignMode d = 1 ∧ s.b Obj.dstFollowSource d = false
      ∧ (s.dst d).episode = false ∧ candidate (s.src slot).held (s.n Obj.dstReservedFormat d) r = some f ∧ f.readable r = true) :=
  ⟨⟨withN up [(Obj.txSlot, 287, 9), (Obj.dstReservedFormat, 9, 0x3600)], 0, 9, 0, 663466, by decide +kernel⟩,
   ⟨withN up [(Obj.txSlot, 287, 9), (Obj.dstReservedFormat, 9, 0x3600)], 0, 9, 0, 663466, by decide +kernel⟩,
   ⟨{ withN up [(Obj.txSlot, 287, 9), (Obj.dstReservedFormat, 9, 0x3600), (Obj.route, 9, 0x1000007), (Obj.dstAlignMode, 9, 1)]
    with ridge := { src := [(7, { frames := [{ still with complete := true }], lockedAt := some 0 })], dst := [(9, { route :=
    0x1000007 })] } }, 40000000, 9, 7, { still with complete := true }, 1310720000000, 20663466, by decide +kernel⟩⟩

/-- The hypotheses of each clause of PictureEngines hold somewhere. -/
theorem witness_PictureEngines :
    (∃ (s : State) (d line : ℕ) (x : Shown) (f : Frame), s.on ∧ (s.dst d).shown = some x ∧ x.loss = false ∧ x.store ≠ none ∧
      x.wholePartial = false ∧ (s.src x.slot).frames.find? (fun g => g.seq == x.seq) = some f ∧ f.complete = false ∧ f.lines ≤
      line ∧ (f.finishAt = none ∨ f.abandoned = true)) ∧
    (∃ (s : State) (dt e slot f k te : ℕ), s.on ∧ s.n Obj.cqState e = 2 ∧ (s.engine e).stopping = false ∧ (s.engine e).old =
      none ∧ (s.engine e).writing = slot ∧ slot ≠ 0xFFFF ∧ f = Objs.engineFormat s.objs e ∧ f ≠ 0 ∧ k = alignIndex f (s.n
      Obj.cqTimingOffset e) (s.tick dt).tc ∧ te = alignPoint f (s.n Obj.cqTimingOffset e) k ∧ (s.engine e).from_ ≤ te ∧
      (s.engine e).lastAt ≠ some te) :=
  ⟨⟨{ up with ridge := { src := [(7, { frames := [still] })], dst := [(9, { shown := some onAir })] } }, 9, 300, onAir, still,
    by decide +kernel⟩,
   ⟨{ withN up [(Obj.cqState, 31, 2), (Obj.cqSrcSlot, 31, 7), (Obj.srcReservedFormat, 7, 0x3600)] with cq := { engines := [(31,
    { writing := 7 })] } }, 0, 31, 7, 0x3600, 0, 0, by decide +kernel⟩⟩

/-- The hypotheses of each clause of SessionsOpen hold somewhere. -/
theorem witness_SessionsOpen :
    (∃ (s : State) (dt : ℕ) (m : Msg) (h : Hello), s.awake ∧ s.serves m = true ∧ msgDrop m = none ∧ (s.tick dt).helloRefusal m h
      = none) ∧
    (∃ (s : State) (dt : ℕ) (m : Msg) (h : Hello) (st retry : ℕ), s.awake ∧ s.serves m = true ∧ msgDrop m = none ∧ (s.tick
      dt).helloRefusal m h = some (st, retry)) ∧
    (∃ (s : State) (dt : ℕ) (m : Msg) (handle : ℕ) (c : Challenge) (key : List Byte), s.awake ∧ s.serves m = true ∧ msgDrop m =
      none ∧ m.version = 1 ∧ (s.tick dt).challengeOf m handle = some c ∧ s.keyFor c.role = some key ∧ s.il.sessions.length <
      s.sessionMost) ∧
    (∃ (s : State) (dt : ℕ) (m : Msg) (handle : ℕ) (proof : List Byte) (c : Challenge) (key : List Byte), (s.awake ∧ s.serves m
      = true ∧ msgDrop m = none ∧ m.version = 1 ∧ (s.tick dt).challengeOf m handle = some c ∧ s.keyFor c.role = some key) ∧
      proof ≠ Config.hmac key (c.nd ++ c.nc ++ Config.uniqueId)) ∧
    (∃ (s : State), s.awake) :=
  ⟨⟨up, 0, ask, ⟨3, false, List.replicate 32 1⟩, by decide +kernel⟩,
   ⟨up, 0, ask, ⟨1, false, List.replicate 32 1⟩, Code.roleKeyAbsent, 0, by decide +kernel⟩,
   ⟨{ up with il := { up.il with sessions := [], challenges := [dare] } }, 0, ask, 1, dare, List.replicate 32 7, by
    decide +kernel⟩,
   ⟨{ up with il := { up.il with sessions := [], challenges := [dare] } }, 0, ask, 1, 0 :: Config.hmac (List.replicate 32 7) ([]
    ++ [] ++ Config.uniqueId), dare, List.replicate 32 7, by decide +kernel, List.cons_ne_self 0 _⟩,
   ⟨up, by decide +kernel⟩⟩

/-- The hypotheses of each clause of SessionsEnd hold somewhere. -/
theorem witness_SessionsEnd :
    (∃ (s : State) (dt : ℕ) (addr : List Byte) (x : Lockout) (e : ℕ), s.awake ∧ s.lockout addr = some x ∧ x.until_ = some e ∧ e
      ≤ s.now + dt) ∧
    (∃ (s : State) (dt : ℕ) (addr : List Byte) (x : Lockout), s.awake ∧ s.lockout addr = some x ∧ x.until_ = none ∧
      x.lastFailure + 3600000000000 ≤ s.now + dt) ∧
    (∃ (s : State) (m : Msg) (x : Session), Ready s m x .close) ∧
    (∃ (s : State) (dt n : ℕ) (x : Session), s.awake ∧ s.session n = some x ∧ x.lastRx + 60000000000 ≤ s.now + dt) ∧
    (∃ (s : State) (n : ℕ) (x : Session), s.awake ∧ s.session n = some x ∧ x.tcp = true) ∧
    (∃ (s : State) (m : Msg) (x : Session), Ready s m x .keepalive) :=
  ⟨⟨{ up with il := { up.il with lockouts := [⟨[10, 0, 0, 2], 5, 1, some 30, 0, 3⟩] } }, 30, [10, 0, 0, 2], ⟨[10, 0, 0, 2], 5,
    1, some 30, 0, 3⟩, 30, by decide +kernel⟩,
   ⟨{ up with il := { up.il with lockouts := [⟨[10, 0, 0, 2], 5, 1, none, 0, 3⟩] } }, 3600000000000, [10, 0, 0, 2], ⟨[10, 0, 0,
    2], 5, 1, none, 0, 3⟩, by decide +kernel⟩,
   ⟨up, ask, boss, ready_of (by decide +kernel)⟩,
   ⟨up, 60000000000, 0, boss, by decide +kernel⟩,
   ⟨withSession up { boss with tcp := true }, 0, { boss with tcp := true }, by decide +kernel⟩,
   ⟨up, ask, boss, ready_of (by decide +kernel)⟩⟩

/-- The hypotheses of each clause of RequestsAnswered hold somewhere. -/
theorem witness_RequestsAnswered :
    (∃ (s : State) (m : Msg) (x : Session) (index sub offset most : ℕ), Ready s m x (.read index sub offset most)) ∧
    (∃ (s : State) (dt : ℕ) (m : Msg) (x : Session) (index sub offset most c : ℕ), Ready s m x (.read index sub offset most) ∧
      (s.tick dt).readItem (some m.session) x.role index sub = .inl c) ∧
    (∃ (s : State) (dt : ℕ) (m : Msg) (x : Session) (index sub offset most : ℕ) (b : List Byte) (u : State), Ready s m x (.read
      index sub offset most) ∧ (s.tick dt).readItem (some m.session) x.role index sub = .inr (b, u) ∧ (index < Obj.sessState ∨
      Obj.sessNotifyLost < index)) ∧
    (∃ (s : State) (dt : ℕ) (m : Msg) (x : Session) (index sub : ℕ) (value : List Byte) (v : Val) (r : Row), Acts s dt m x index
      sub value v ∧ dictRow index sub = some r ∧ r.commit = .immediate ∧ (s.tick dt).ownWrite m.session (adr index sub) v =
      none) ∧
    (∃ (s : State) (dt : ℕ) (m : Msg) (x : Session) (index sub : ℕ) (value : List Byte) (v : Val) (w : Wrote), Writable s dt m x
      index sub value v ∧ (s.tick dt).ownWrite m.session (adr index sub) v = some w ∧ w.after = .none) ∧
    (∃ (s : State) (m : Msg) (x : Session) (index sub most : ℕ) (r : Row), Ready s m x (.read index sub 0 most) ∧ dictRow index
      sub = some r ∧ r.access ≠ .wo ∧ r.role ≤ x.role ∧ index ≠ Obj.morJournalRead ∧ (index < 0x2000 ∨ 0x2100 ≤ index) ∧ (index
      < Obj.sessState ∨ Obj.sessNotifyLost < index)) ∧
    (∃ (s : State) (dt : ℕ) (m : Msg) (x : Session) (index sub : ℕ) (value : List Byte) (v : Val) (r : Row), Writable s dt m x
      index sub value v ∧ dictRow index sub = some r ∧ r.commit = .frame ∧ (s.mirrors && writtenThrough (adr index sub) v) =
      false ∧ (s.tick dt).ownWrite m.session (adr index sub) v = none) ∧
    (∃ (s : State) (dt : ℕ) (m : Msg) (x : Session) (index sub : ℕ) (value : List Byte) (v : Val) (r : Row), Writable s dt m x
      index sub value v ∧ dictRow index sub = some r ∧ r.commit = .restart ∧ (s.mirrors && writtenThrough (adr index sub) v) =
      false ∧ v ≠ Objs.val s.objs (adr index sub)) ∧
    (∃ (s : State) (dt : ℕ) (m : Msg) (x : Session) (index sub : ℕ) (value : List Byte) (c : ℕ), Ready s m x (.write index sub
      value) ∧ (s.tick dt).dictCheck x.role (adr index sub) value = .inl c) ∧
    (∃ (s : State) (dt : ℕ) (m : Msg) (x : Session) (index sub : ℕ) (value : List Byte) (v : Val), Writable s dt m x index sub
      value v ∧ s.mirrors = true ∧ writtenThrough (adr index sub) v = true ∧ (s.tick dt).ownWrite m.session (adr index sub) v =
      none) ∧
    (∃ (s : State) (m : Msg) (x : Session) (items : List (ℕ × ℕ)), Ready s m x (.bulkRead items)) ∧
    (∃ (s : State) (dt : ℕ) (m : Msg) (x : Session) (index sub : ℕ) (b : List Byte) (u : State), Ready s m x (.bulkRead [(index,
      sub)]) ∧ look x.started (adr index sub) 0 ≤ m.seq ∧ (s.tick dt).readItem (some m.session) x.role index sub = .inr (b, u) ∧
      (index < Obj.sessState ∨ Obj.sessNotifyLost < index) ∧ b.length + 8 ≤ readRoom x.tcp) ∧
    (∃ (s : State) (dt : ℕ) (m : Msg) (x : Session) (items : List (ℕ × ℕ × List Byte)) (codes : List ℕ), Ready s m x (.bulkWrite
      items) ∧ items.map (fun (i, sub, value) => (s.tick dt).dictCheck x.role (adr i sub) value) = codes.map .inl ∧ (∀ i ∈
      items, look x.started (adr i.1 i.2.1) 0 ≤ m.seq)) ∧
    (∃ (s : State) (dt : ℕ) (m : Msg) (x : Session) (index sub : ℕ) (value : List Byte) (v : Val) (r : Row), Ready s m x
      (.bulkWrite [(index, sub, value)]) ∧ look x.started (adr index sub) 0 ≤ m.seq ∧ (s.tick dt).dictCheck x.role (adr index
      sub) value = .inr v ∧ (s.tick dt).standCheck (adr index sub) v = none ∧ (s.tick dt).ownWrite m.session (adr index sub) v =
      none ∧ sub < 65536 ∧ dictRow index sub = some r ∧ r.commit = .immediate ∧ (s.mirrors && writtenThrough (adr index sub) v)
      = false) ∧
    (∃ (s : State) (dt : ℕ) (m : Msg) (x : Session) (index sub : ℕ) (value : List Byte) (v : Val) (r : Row), Ready s m x
      (.bulkWrite [(index, sub, value)]) ∧ look x.started (adr index sub) 0 ≤ m.seq ∧ (s.tick dt).dictCheck x.role (adr index
      sub) value = .inr v ∧ (s.tick dt).standCheck (adr index sub) v = none ∧ (s.tick dt).ownWrite m.session (adr index sub) v =
      none ∧ sub < 65536 ∧ dictRow index sub = some r ∧ r.commit = .frame ∧ (s.mirrors && writtenThrough (adr index sub) v) =
      false) :=
  ⟨⟨up, ask, boss, Obj.healthState, 0, 5, 65535, ready_of (by decide +kernel)⟩,
   ⟨up, 0, ask, boss, Obj.colShaperData, 0, 0, 65535, Code.access, ready_of (by decide +kernel), by decide +kernel⟩,
   ⟨up, 0, ask, boss, Obj.healthState, 0, 1, 65535, [0, 0], up.tick 0, ready_of (by decide +kernel), rfl, by decide +kernel⟩,
   ⟨up, 0, ask, boss, 0x1650, 3, [0, 1], .num 1, (dictRow 0x1650 3).get (by decide +kernel), acts_of (by decide +kernel), by
    decide +kernel⟩,
   ⟨up, 0, ask, boss, Obj.ownerLock, 0, [1], .num 1, ((up.tick 0).writeLock true).wrote, writable_of (by decide +kernel), by
    decide +kernel⟩,
   ⟨up, ask, boss, Obj.healthState, 0, 65535, (dictRow Obj.healthState 0).get (by decide +kernel), ready_of (by decide +kernel),
    by decide +kernel⟩,
   ⟨up, 0, ask, boss, 0x3002, 2047, [0, 1], .num 1, (dictRow 0x3002 2047).get (by decide +kernel), writable_of (by
    decide +kernel), by decide +kernel⟩,
   ⟨up, 0, ask, boss, 0x1400, 0, [0, 1], .num 1, (dictRow 0x1400 0).get (by decide +kernel), writable_of (by decide +kernel), by
    decide +kernel⟩,
   ⟨up, 0, ask, boss, Obj.route, 2048, [0, 1], Code.noObject, ready_of (by decide +kernel), by decide +kernel⟩,
   ⟨withN up [(Obj.twinPaired, 0, 1), (Obj.twinRole, 0, 1), (Obj.twinLinkState, 0, 1), (Obj.twinReadiness, 0, 1)], 0, ask, boss,
    Obj.layerGfxFlip, 255, [1], .num 1, writable_of (by decide +kernel), by decide +kernel⟩,
   ⟨up, ask, boss, [(0x1000, 0)], ready_of (by decide +kernel)⟩,
   ⟨up, 0, ask, boss, Obj.healthState, 0, [0, 0], up.tick 0, ready_of (by decide +kernel), by decide +kernel, rfl, by
    decide +kernel⟩,
   ⟨up, 0, ask, boss, [(Obj.route, 2048, [0, 1])], [Code.noObject], ready_of (by decide +kernel), by decide +kernel⟩,
   ⟨up, 0, ask, boss, 0x1650, 3, [0, 1], .num 1, (dictRow 0x1650 3).get (by decide +kernel), ready_of (by decide +kernel), by
    decide +kernel⟩,
   ⟨up, 0, ask, boss, 0x3002, 2047, [0, 1], .num 1, (dictRow 0x3002 2047).get (by decide +kernel), ready_of (by decide +kernel),
    by decide +kernel⟩⟩

/-- The hypotheses of each clause of SessionsNotify hold somewhere. -/
theorem witness_SessionsNotify :
    (∃ (s : State) (m : Msg) (x : Session) (scope : ℕ), Ready s m x (.fence scope) ∧ (∀ q ∈ x.outstanding, m.seq ≤ q) ∧ (scope =
      1 → s.othersOutstanding m.session = [])) ∧
    (∃ (s : State) (n seq : ℕ) (x : Session), s.awake ∧ s.fenceReady n seq = true ∧ s.session n = some x) ∧
    (∃ (s : State) (dt n seq : ℕ) (x : Session) (h : Held), s.awake ∧ (s.tick dt).missing n seq = some h ∧ s.session n = some x)
      ∧
    (∃ (s : State) (dt n : ℕ) (x : Session), s.awake ∧ s.il.ctlUp = true ∧ s.session n = some x ∧ x.notifyDue (s.now + dt) =
      true) ∧
    (∃ (s : State) (dt n : ℕ) (x : Session) (u : Unacked), s.awake ∧ s.session n = some x ∧ x.unacked = some u ∧ u.sentAt +
      250000000 ≤ s.now + dt) ∧
    (∃ (s : State) (m : Msg) (x : Session) (u : Unacked), s.awake ∧ s.serves m = true ∧ s.dropReason m = none ∧ s.session
      m.session = some x ∧ x.seen.contains m.seq = false ∧ x.unacked = some u) :=
  ⟨⟨up, ask, boss, 1, ready_of (by decide +kernel), by decide +kernel⟩,
   ⟨withSession up { boss with fences := [⟨1, 0, false, [(0, 0)], 0, []⟩] }, 0, 1, { boss with fences := [⟨1, 0, false, [(0,
    0)], 0, []⟩] }, by decide +kernel⟩,
   ⟨withSession up { boss with held := [⟨3, 2, .keepalive, 0⟩] }, 100000000, 0, 3, { boss with held := [⟨3, 2, .keepalive, 0⟩]
    }, ⟨3, 2, .keepalive, 0⟩, by decide +kernel⟩,
   ⟨withSession up { boss with queue := [(⟨5, 0, 0⟩, 0)] }, 10000000, 0, { boss with queue := [(⟨5, 0, 0⟩, 0)] }, by
    decide +kernel⟩,
   ⟨withSession up { boss with unacked := some ⟨1, 0, [], 0, 4⟩ }, 250000000, 0, { boss with unacked := some ⟨1, 0, [], 0, 4⟩ },
    ⟨1, 0, [], 0, 4⟩, by decide +kernel⟩,
   ⟨withSession up { boss with unacked := some ⟨1, 0, [], 0, 4⟩ }, ask, { boss with unacked := some ⟨1, 0, [], 0, 4⟩ }, ⟨1, 0,
    [], 0, 4⟩, by decide +kernel⟩⟩

/-- The hypotheses of each clause of TablesWritten hold somewhere. -/
theorem witness_TablesWritten :
    (∃ (s : State) (dt : ℕ) (m : Msg) (x : Session) (sub : ℕ) (value : List Byte) (p : ℕ), Acts s dt m x Obj.layerGfxOffset sub
      value (.num p)) ∧
    (∃ (s : State) (dt : ℕ) (m : Msg) (x : Session) (sub : ℕ) (value b : List Byte), Acts s dt m x Obj.layerGfxData sub value
      (.bytes b)) ∧
    (∃ (s : State) (dt : ℕ) (m : Msg) (x : Session) (sub : ℕ) (value : List Byte) (v : Val), Acts s dt m x Obj.layerGfxFlip sub
      value v) ∧
    (∃ (s : State) (dt : ℕ) (m : Msg) (x : Session) (sub : ℕ) (value b : List Byte), Acts s dt m x Obj.colShaperData sub value
      (.bytes b)) ∧
    (∃ (s : State) (dt : ℕ) (m : Msg) (x : Session) (sub : ℕ) (value : List Byte) (p : ℕ), Acts s dt m x Obj.colLutOffset sub
      value (.num p)) ∧
    (∃ (s : State) (dt : ℕ) (m : Msg) (x : Session) (sub : ℕ) (value b : List Byte), Acts s dt m x Obj.colLutData sub value
      (.bytes b)) ∧
    (∃ (s : State) (dt : ℕ) (m : Msg) (x : Session) (sub : ℕ) (value : List Byte) (v : Val), Acts s dt m x Obj.colTableFlip sub
      value v) :=
  ⟨⟨up, 0, ask, boss, 255, [0, 0, 0, 64], 64, acts_of (by decide +kernel)⟩,
   ⟨withN up [(Obj.cqSrcSlot, 31, 7), (Obj.srcReservedFormat, 7, 0x3600)], 0, ask, boss, 255, List.replicate 64 9,
    List.replicate 64 9, acts_of (by decide +kernel)⟩,
   ⟨up, 0, ask, boss, 255, [1], .num 1, acts_of (by decide +kernel)⟩,
   ⟨up, 0, ask, boss, 287, List.replicate 6150 0, List.replicate 6150 0, ⟨⟨by decide, ready_of rfl, shaper_dict _
    List.length_replicate, rfl⟩, rfl⟩⟩,
   ⟨up, 0, ask, boss, 287, [0, 0, 0, 6], 6, acts_of (by decide +kernel)⟩,
   ⟨up, 0, ask, boss, 287, List.replicate 6 9, List.replicate 6 9, acts_of (by decide +kernel)⟩,
   ⟨up, 0, ask, boss, 287, [1], .num 1, acts_of (by decide +kernel)⟩⟩

/-- The hypotheses of each clause of ClearsClear hold somewhere. -/
theorem witness_ClearsClear :
    (∃ (s : State) (dt : ℕ) (m : Msg) (x : Session) (index sub : ℕ) (value : List Byte), meterClears.contains index = true ∧
      Acts s dt m x index sub value (.num 1)) ∧
    (∃ (s : State) (dt : ℕ) (m : Msg) (x : Session) (index sub : ℕ) (value : List Byte), counterClears.contains index = true ∧
      Acts s dt m x index sub value (.num 1)) ∧
    (∃ (s : State) (dt : ℕ) (m : Msg) (x : Session) (sub : ℕ) (value : List Byte), Acts s dt m x Obj.latencyClear sub value
      (.num 1)) ∧
    (∃ (s : State) (dt : ℕ) (m : Msg) (x : Session) (value : List Byte), Acts s dt m x Obj.wsHistoryClear 0 value (.num 1)) ∧
    (∃ (s : State) (dt : ℕ) (m : Msg) (x : Session) (value : List Byte), Acts s dt m x Obj.phaseHistogramClear 0 value (.num 1))
      ∧
    (∃ (s : State) (dt : ℕ) (m : Msg) (x : Session) (value : List Byte), Acts s dt m x Obj.lockoutClear 0 value (.num 1)) ∧
    (∃ (s : State) (dt : ℕ) (m : Msg) (x : Session) (value : List Byte), Acts s dt m x Obj.healthClear 0 value (.num 1)) ∧
    (∃ (s : State) (dt : ℕ) (m : Msg) (x : Session) (sub : ℕ) (value : List Byte), Acts s dt m x Obj.monClear sub value (.num
      1)) ∧
    (∃ (s : State) (dt : ℕ) (m : Msg) (x : Session) (index sub : ℕ) (value : List Byte) (v : Val), (Obj.monKind ≤ index ∧ index
      ≤ Obj.monAlarm) ∧ Acts s dt m x index sub value v) :=
  ⟨⟨up, 0, ask, boss, 20511, 0, [1], by decide +kernel, acts_of (by decide +kernel)⟩,
   ⟨up, 0, ask, boss, 4415, 0, [1], by decide +kernel, acts_of (by decide +kernel)⟩,
   ⟨up, 0, ask, boss, 2047, [1], acts_of (by decide +kernel)⟩,
   ⟨up, 0, ask, boss, [1], acts_of (by decide +kernel)⟩,
   ⟨up, 0, ask, boss, [1], acts_of (by decide +kernel)⟩,
   ⟨up, 0, ask, boss, [1], acts_of (by decide +kernel)⟩,
   ⟨up, 0, ask, boss, [1], acts_of (by decide +kernel)⟩,
   ⟨up, 0, ask, boss, 31, [1], acts_of (by decide +kernel)⟩,
   ⟨up, 0, ask, boss, Obj.monAlarm, 31, [0, 0, 0, 0, 0, 0, 0, 5], .num 5, by decide +kernel, acts_of (by decide +kernel)⟩⟩

/-- The hypotheses of each clause of KeysAndStore hold somewhere. -/
theorem witness_KeysAndStore :
    (∃ (s : State) (dt : ℕ) (m : Msg) (x : Session) (sub : ℕ) (value b : List Byte), Acts s dt m x Obj.roleKey sub value (.bytes
      b)) ∧
    (∃ (s : State) (dt : ℕ) (m : Msg) (x : Session) (value : List Byte) (on : Bool), Acts s dt m x Obj.ownerLock 0 value (.num
      (b2n on)) ∧ s.b Obj.ownerLock 0 ≠ on) ∧
    (∃ (s : State) (dt : ℕ) (m : Msg) (x : Session) (value b : List Byte) (k : ℕ), Acts s dt m x Obj.ownerKeyProgram 0 value
      (.bytes b) ∧ s.emptySlot = some k) ∧
    (∃ (s : State) (dt : ℕ) (m : Msg) (x : Session) (value : List Byte) (k : ℕ), Acts s dt m x Obj.ownerKeyRevoke 0 value (.num
      k)) ∧
    (∃ (s : State) (dt : ℕ) (m : Msg) (x : Session) (value b : List Byte), Acts s dt m x Obj.subscription 0 value (.bytes b)) ∧
    (∃ (s : State) (dt : ℕ) (m : Msg) (x : Session) (value : List Byte), Acts s dt m x Obj.storeSaveNow 0 value (.num 1) ∧
      s.boot.uplandRuns = true ∧ s.st.save = none ∧ (∀ a, s.st.lastStart = some a → a + 1000000000 ≤ s.now + dt)) :=
  ⟨⟨up, 0, ask, boss, 2, List.replicate 32 9, List.replicate 32 9, acts_of (by decide +kernel)⟩,
   ⟨up, 0, ask, boss, [1], true, acts_of (by decide +kernel), by decide +kernel⟩,
   ⟨up, 0, ask, boss, List.replicate 48 9, List.replicate 48 9, 0, acts_of (by decide +kernel), by decide +kernel⟩,
   ⟨{ up with up := { ownerStates := [(2, 1), (3, 1)] } }, 0, ask, boss, [3], 3, acts_of (by decide +kernel)⟩,
   ⟨up, 0, ask, boss, [], [], acts_of (by decide +kernel)⟩,
   ⟨up, 0, ask, boss, [1], acts_of (by decide +kernel), by decide +kernel⟩⟩

/-- The hypotheses of each clause of UpdateRequests hold somewhere. -/
theorem witness_UpdateRequests :
    (∃ (s : State) (dt : ℕ) (m : Msg) (x : Session) (value : List Byte) (kind : ℕ), Acts s dt m x Obj.updateBegin 0 value (.num
      kind) ∧ s.updateChecks 0 = none) ∧
    (∃ (s : State) (dt : ℕ) (m : Msg) (x : Session) (value : List Byte) (kind c : ℕ), Acts s dt m x Obj.updateBegin 0 value
      (.num kind) ∧ s.updateChecks 0 = some c) ∧
    (∃ (s : State) (dt : ℕ) (m : Msg) (x : Session) (value b : List Byte), Acts s dt m x Obj.updateData 0 value (.bytes b) ∧ s.n
      Obj.updateState 0 = 1 ∧ s.up.session = m.session ∧ fromBe (b.take 4) = s.n Obj.updateReceived 0 ∧ s.n Obj.updateReceived 0
      + (b.drop 4).length ≤ imageLimit s.up.kind ∧ (∀ k < (b.drop 4).length, s.flashByte (slotBase s.up.kind s.up.slot + s.n
      Obj.updateReceived 0 + k) = 0xFF)) ∧
    (∃ (s : State) (dt : ℕ) (m : Msg) (x : Session) (value : List Byte), Acts s dt m x Obj.updateCommit 0 value (.num 1) ∧ s.n
      Obj.updateState 0 = 1 ∧ s.up.session = m.session) ∧
    (∃ (s : State) (dt : ℕ) (m : Msg) (x : Session) (value : List Byte), Acts s dt m x Obj.updateActivate 0 value (.num 1) ∧
      s.updateChecks 3 = none) ∧
    (∃ (s : State) (dt : ℕ) (m : Msg) (x : Session) (value : List Byte), Acts s dt m x Obj.updateAbort 0 value (.num 1) ∧ (s.n
      Obj.updateState 0 = 1 ∨ s.n Obj.updateState 0 = 3)) ∧
    (∃ (s : State) (dt : ℕ) (m : Msg) (x : Session) (value : List Byte) (kind slot e : ℕ), Acts s dt m x Obj.healthConfirm 0
      value (.num 1) ∧ s.up.ctl.trial = some (kind, slot) ∧ s.up.windowEnds = some e ∧ s.now + dt ≤ e) :=
  ⟨⟨strong up, 0, ask, boss, [0, 1], 1, acts_of (by decide +kernel), by decide +kernel⟩,
   ⟨withN up [(Obj.updateState, 0, 1)], 0, ask, boss, [0, 1], 1, Code.updateState, acts_of (by decide +kernel), by
    decide +kernel⟩,
   ⟨{ withN up [(Obj.updateState, 0, 1)] with up := { kind := 1, session := 0 } }, 0, ask, boss, [0, 0, 0, 0, 9], [0, 0, 0, 0,
    9], acts_of (by decide +kernel), by decide +kernel⟩,
   ⟨{ withN up [(Obj.updateState, 0, 1)] with up := { kind := 1, session := 0 } }, 0, ask, boss, [1], acts_of (by
    decide +kernel), by decide +kernel⟩,
   ⟨{ strong (withN up [(Obj.updateState, 0, 3)]) with up := { kind := 1, session := 0 } }, 0, ask, boss, [1], acts_of (by
    decide +kernel), by decide +kernel⟩,
   ⟨{ withN up [(Obj.updateState, 0, 3)] with up := { kind := 1, session := 0 } }, 0, ask, boss, [1], acts_of (by
    decide +kernel), by decide +kernel⟩,
   ⟨{ up with up := { ctl := { trial := some (1, 1) }, windowEnds := some 0 } }, 0, ask, boss, [1], 1, 1, 0, acts_of (by
    decide +kernel), by decide +kernel⟩⟩

/-- The hypotheses of each clause of RestartRequests hold somewhere. -/
theorem witness_RestartRequests :
    (∃ (s : State) (dt : ℕ) (m : Msg) (x : Session), Acts s dt m x Obj.deviceRestart 0 (beBytes 2 1) (.num 1) ∧ s.anyPending =
      false) ∧
    (∃ (s : State) (dt : ℕ) (m : Msg) (x : Session), Acts s dt m x Obj.deviceRestart 0 (beBytes 2 1) (.num 1) ∧ s.anyPending =
      true) ∧
    (∃ (s : State) (dt : ℕ) (m : Msg) (x : Session), Acts s dt m x Obj.deviceRestart 0 (beBytes 2 2) (.num 2)) :=
  ⟨⟨up, 0, ask, boss, acts_of (by decide +kernel), by decide +kernel⟩,
   ⟨{ up with ce := { salvos := [(15, { state := .pending })] } }, 0, ask, boss, acts_of (by decide +kernel), by
    decide +kernel⟩,
   ⟨up, 0, ask, boss, acts_of (by decide +kernel)⟩⟩

/-- The hypotheses of each clause of SalvoBuilds hold somewhere. -/
theorem witness_SalvoBuilds :
    (∃ (s : State) (m : Msg) (x : Session) (k : ℕ), Ready s m x (.salvo .open_) ∧ s.standby = false ∧ 1 ≤ x.role ∧ s.openChoice
      = some k) ∧
    (∃ (s : State) (m : Msg) (x : Session) (n index sub : ℕ) (value : List Byte) (v : Val) (k : ℕ) (l : List Change), Ready s m
      x (.salvo (.add n (adr index sub) value)) ∧ s.standby = false ∧ s.ce.wait = none ∧ (s.salvo n).state = .staged ∧ (s.salvo
      n).owner = m.session ∧ addCheck (Objs.overlay s.objs (s.salvo n).changes) x.role (adr index sub) value = .inr v ∧
      addChange (s.salvo n).changes (adr index sub) v = some (k, l)) ∧
    (∃ (s : State) (m : Msg) (x : Session) (n index sub : ℕ), Ready s m x (.salvo (.remove n (adr index sub))) ∧ s.standby =
      false ∧ s.ce.wait = none ∧ (s.salvo n).state = .staged ∧ (s.salvo n).owner = m.session) ∧
    (∃ (s : State) (m : Msg) (x : Session) (n : ℕ), Ready s m x (.salvo (.clear n)) ∧ s.standby = false ∧ s.ce.wait = none ∧
      (s.salvo n).state = .staged ∧ (s.salvo n).owner = m.session) :=
  ⟨⟨up, ask, boss, 0, ready_of (by decide +kernel), by decide +kernel⟩,
   ⟨{ up with ce := { salvos := [(15, { state := .staged, owner := 0, role := 3 })] } }, ask, boss, 15, Obj.route, 2047, [1, 0,
    0, 7], .num 0x1000007, 0, [⟨0, adr Obj.route 2047, .num 0x1000007⟩], ready_of (by decide +kernel), by decide +kernel⟩,
   ⟨{ up with ce := { salvos := [(15, { state := .staged, owner := 0, role := 3 })] } }, ask, boss, 15, Obj.route, 2047,
    ready_of (by decide +kernel), by decide +kernel⟩,
   ⟨{ up with ce := { salvos := [(15, { state := .staged, owner := 0, role := 3 })] } }, ask, boss, 15, ready_of (by
    decide +kernel), by decide +kernel⟩⟩

/-- The hypotheses of each clause of SalvoArms hold somewhere. -/
theorem witness_SalvoArms :
    (∃ (s : State) (dt : ℕ) (m : Msg) (x : Session) (n : ℕ) (reads : List ReadEntry) (pre : List ℕ), Ready s m x (.salvo (.arm
      n)) ∧ s.standby = false ∧ s.mirrors = false ∧ s.ce.wait = none ∧ (s.salvo n).state = .staged ∧ (s.salvo n).owner =
      m.session ∧ m.session < 16 ∧ (s.tick dt).armChecks n (s.salvo n).changes (s.salvo n).role = .passed reads pre) ∧
    (∃ (s : State) (dt : ℕ) (m : Msg) (x : Session) (n code detail : ℕ), Ready s m x (.salvo (.arm n)) ∧ s.standby = false ∧
      s.ce.wait = none ∧ (s.salvo n).state = .staged ∧ (s.salvo n).owner = m.session ∧ (s.tick dt).armChecks n (s.salvo
      n).changes (s.salvo n).role = .refused code detail) ∧
    (∃ (s : State) (m : Msg) (x : Session) (n : ℕ), Ready s m x (.salvo (.disarm n)) ∧ s.standby = false ∧ s.mirrors = false ∧
      s.ce.wait = none ∧ (s.salvo n).state = .armed ∧ (s.salvo n).owner = m.session) ∧
    (∃ (s : State) (m : Msg) (x : Session) (n : ℕ), Ready s m x (.salvo (.discard n)) ∧ s.standby = false ∧ s.mirrors = false ∧
      s.ce.wait = none ∧ (s.salvo n).state ∈ [.staged, .armed, .done] ∧ ((s.salvo n).owner = m.session ∨ x.role = 3)) :=
  ⟨⟨{ up with ce := { salvos := [(15, { state := .staged, owner := 0, role := 3, changes := [⟨0, adr 0x3002 2047, .num 1⟩] })] }
    }, 0, ask, boss, 15, [], [], ready_of (by decide +kernel), by decide +kernel⟩,
   ⟨{ up with ce := { salvos := [(15, { state := .staged, owner := 0, role := 3, changes := [⟨0, adr Obj.route 2047, .num
    0x1000007⟩] })] } }, 0, ask, boss, 15, 72, 4294909952, ready_of (by decide +kernel), by decide +kernel⟩,
   ⟨{ up with ce := { salvos := [(15, { state := .armed, owner := 0, role := 3 })] } }, ask, boss, 15, ready_of (by
    decide +kernel), by decide +kernel⟩,
   ⟨{ up with ce := { salvos := [(15, { state := .done, owner := 0, role := 3 })] } }, ask, boss, 15, ready_of (by
    decide +kernel), by decide +kernel⟩⟩

/-- The hypotheses of each clause of SalvoTakes hold somewhere. -/
theorem witness_SalvoTakes :
    (∃ (s : State) (dt : ℕ) (m : Msg) (x : Session) (n : ℕ) (implicitArm : Bool) (at_ : Option ℕ) (b : ℕ), Ready s m x (.salvo
      (.take n implicitArm at_)) ∧ s.standby = false ∧ s.mirrors = false ∧ s.ce.wait = none ∧ s.boot.softWait = false ∧ 1 ≤
      x.role ∧ (s.salvo n).state = .armed ∧ b = (s.tick dt).takeBoundary at_ ∧ (s.tick dt).readsStale n b = false ∧ (s.tick
      dt).orderConflict ⟨m.session, m.seq, .request m.session m.seq, .take n implicitArm at_⟩ n b = false ∧ (s.tick
      dt).takeTiming at_ b = none) ∧
    (∃ (s : State) (dt n : ℕ) (e : EngineOp) (b sentAt : ℕ), s.awake ∧ s.ce.wait = some ⟨e, false, b, sentAt, false⟩ ∧ e.op =
      .arm n ∧ s.ce.queue = [] ∧ (s.salvo n).owner ≠ 0xFFFF ∧ s.now + dt ≤ sentAt + 2000000) ∧
    (∃ (s : State) (dt n : ℕ) (e : EngineOp) (b sentAt : ℕ), s.awake ∧ s.ce.wait = some ⟨e, false, b, sentAt, false⟩ ∧ e.op =
      .arm n ∧ s.ce.queue = [] ∧ (s.salvo n).owner ≠ 0xFFFF ∧ sentAt + 2000000 ≤ s.now + dt) ∧
    (∃ (s : State) (dt n : ℕ) (implicitArm : Bool) (at_ : Option ℕ) (e : EngineOp) (b sentAt : ℕ), s.awake ∧ s.ce.wait = some
      ⟨e, true, b, sentAt, false⟩ ∧ e.op = .take n implicitArm at_ ∧ s.ce.queue = [] ∧ s.now + dt ≤ sentAt + 2000000 ∧ (s.tick
      dt).takeBoundary at_ = b ∧ (s.tick dt).takeTiming at_ b = none) :=
  ⟨⟨{ up with ce := { salvos := [(15, { state := .armed, owner := 0, role := 3 })] } }, 0, ask, boss, 15, false, none,
    1310720000000, ready_of (by decide +kernel), by decide +kernel⟩,
   ⟨{ up with ce := { salvos := [(15, { state := .arming, owner := 0 })], wait := some ⟨⟨0, 1, .request 0 1, .arm 15⟩, false, 0,
    0, false⟩ } }, 2000000, 15, ⟨0, 1, .request 0 1, .arm 15⟩, 0, 0, by decide +kernel⟩,
   ⟨{ up with ce := { salvos := [(15, { state := .arming, owner := 0 })], wait := some ⟨⟨0, 1, .request 0 1, .arm 15⟩, false, 0,
    0, false⟩ } }, 2000000, 15, ⟨0, 1, .request 0 1, .arm 15⟩, 0, 0, by decide +kernel⟩,
   ⟨{ up with ce := { salvos := [(15, { state := .armed, owner := 0 })], wait := some ⟨⟨0, 1, .request 0 1, .take 15 false
    none⟩, true, 1310720000000, 0, false⟩ } }, 0, 15, false, none, ⟨0, 1, .request 0 1, .take 15 false none⟩, 1310720000000, 0,
    by decide +kernel⟩⟩

/-- The hypotheses of each clause of BoundaryActs hold somewhere. -/
theorem witness_BoundaryActs :
    (∃ (s : State) (dt b : ℕ), s.awake ∧ b = (s.tick dt).boundaryNow ∧ s.ce.lastBoundary < b) ∧
    (∃ (s : State) (dt : ℕ), s.awake ∧ (s.tick dt).boundaryNow ≤ s.ce.lastBoundary) ∧
    (∃ (s : State) (dt b : ℕ), s.on ∧ s.n Obj.twinPaired 0 = 0 ∧ b = (s.tick dt).boundaryNow ∧ s.ce.lastBoundary < b) ∧
    (∃ (s : State) (dt b : ℕ) (w : FrameWrite), s.on ∧ s.n Obj.twinPaired 0 = 0 ∧ s.boot.restoreDue = none ∧ b = (s.tick
      dt).boundaryNow ∧ s.ce.lastBoundary < b ∧ s.ce.frameWrites = [w] ∧ w.due ≤ b ∧ commitOf w.addr = .frame ∧ s.ce.salvos = []
      ∧ adrIndex w.addr ≠ Obj.layerGfxFlip ∧ adrIndex w.addr ≠ Obj.colTableFlip) ∧
    (∃ (s : State) (dt b n : ℕ) (y : Salvo) (k d r : ℕ), s.on ∧ s.n Obj.twinPaired 0 = 0 ∧ s.boot.restoreDue = none ∧ b =
      (s.tick dt).boundaryNow ∧ s.ce.lastBoundary < b ∧ s.ce.frameWrites = [] ∧ s.ce.salvos = [(n, y)] ∧ y.state = .pending ∧
      y.boundary ≤ b ∧ (y.changes.map (·.addr)).Nodup ∧ d < 65536 ∧ (∀ c ∈ y.changes, commitOf c.addr = .take ∨ commitOf c.addr
      = .frame) ∧ ⟨k, adr Obj.route d, .num r⟩ ∈ y.changes ∧ s.n Obj.route d ≠ r) :=
  ⟨⟨up, 40000000, (up.tick 40000000).boundaryNow, by decide +kernel⟩,
   ⟨{ up with ce := { lastBoundary := (up.tick 40000000).boundaryNow } }, 40000000, by decide +kernel⟩,
   ⟨{ up with ce := { salvos := [(15, { state := .pending, boundary := 1, changes := [⟨0, adr Obj.route 2047, .num 0x1000007⟩]
    })] } }, 40000000, (up.tick 40000000).boundaryNow, by decide +kernel⟩,
   ⟨{ up with ce := { frameWrites := [⟨adr 0x3002 2047, .num 1, 1⟩] } }, 40000000, (up.tick 40000000).boundaryNow, ⟨adr 0x3002
    2047, .num 1, 1⟩, by decide +kernel⟩,
   ⟨{ up with ce := { salvos := [(15, { state := .pending, boundary := 1, changes := [⟨0, adr Obj.route 2047, .num 0x1000007⟩]
    })] } }, 40000000, (up.tick 40000000).boundaryNow, 15, { state := .pending, boundary := 1, changes := [⟨0, adr Obj.route
    2047, .num 0x1000007⟩] }, 0, 2047, 0x1000007, by decide +kernel⟩⟩

/-- The hypotheses of each clause of AudioRuns hold somewhere. -/
theorem witness_AudioRuns :
    (∃ (s : State) (dt : ℕ) (inputs : List (ℕ × List ℤ)) (ch : ℕ) (ws : List ℤ), s.on ∧ ch ≤ 32767 ∧ inputs.lookup ch = some ws
      ∧ s.aiDelivers ch = true ∧ Objs.aiRate s.objs ch ≠ 1 ∧ (s.strip ch).queue = [] ∧ ws.length = 16 ∧ (∀ w ∈ ws, -8388608 ≤ w
      ∧ w ≤ 8388607) ∧ s.au.block < (s.tick dt).blockNo) ∧
    (∃ (s : State) (dt ch : ℕ), s.on ∧ ch ≤ 32767 ∧ Objs.aiRate s.objs ch = 1 ∧ (s.strip ch).ratedAt + 1000000000 ≤ s.now + dt)
      ∧
    (∃ (s : State) (dt o : ℕ) (tap : Tap) (a : ℕ), s.on ∧ (s.aout o).due = some (tap, a) ∧ a ≤ (s.tick dt).ptp ∧ (s.aout
      o).fading = false ∧ (s.aout o).waiting = none) ∧
    (∃ (s : State) (dt o : ℕ) (tap : Tap) (a : ℕ), s.on ∧ (s.aout o).due = some (tap, a) ∧ a ≤ (s.tick dt).ptp ∧ (s.aout
      o).old.isSome = true ∧ (s.aout o).fadePos + (onRate (s.aoRate o) (ceilDiv (96000 * a) 1000000000) - (s.aout o).pos) <
      (s.aout o).fadeLen) ∧
    (∃ (s : State) (dt o e : ℕ), s.on ∧ (s.aout o).old.isSome = true ∧ e = (s.aout o).pos + ((s.aout o).fadeLen - (s.aout
      o).fadePos) ∧ 1000000000 * e ≤ 96000 * (s.tick dt).ptp ∧ (∀ d, (s.aout o).due = some d → 1000000000 * onRate (s.aoRate o)
      e ≤ 96000 * d.2)) ∧
    (∃ (s : State) (ch : ℕ) (x : Strip), s.on ∧ (s.au.strips.map (·.1)).Nodup ∧ (∀ p ∈ s.au.strips, p.1 < 65536) ∧ (ch, x) ∈
      s.au.strips) ∧
    (∃ (s : State) (o : ℕ) (x : AOut) (kind v : ℕ), s.on ∧ (s.au.outs.map (·.1)).Nodup ∧ (∀ p ∈ s.au.outs, p.1 < 65536) ∧ (o, x)
      ∈ s.au.outs ∧ x.first = some (kind, (v : Int))) ∧
    (∃ (s : State) (g : ℕ), s.on ∧ g ≤ 255) :=
  ⟨⟨withN up [(Obj.rxEnable, 8191, 1), (Obj.rxEssence, 8191, 2), (Obj.rxAudioRate, 8191, 1), (Obj.rxAudioChannels, 8191, 1),
    (Obj.rxTarget, 8191, 32767), (Obj.rxFlowState, 8191, 4)], 1000000, [(32767, List.replicate 16 (-8388608))], 32767,
    List.replicate 16 (-8388608), by decide +kernel⟩,
   ⟨withN up [(Obj.rxAudioBase, 287, 32764), (Obj.rxAudioGroups, 287, 1)], 1000000000, 32767, by decide +kernel⟩,
   ⟨{ up with au := { outs := [(32767, { due := some ({ source := 5 }, 0) })] } }, 0, 32767, { source := 5 }, 0, by
    decide +kernel⟩,
   ⟨{ up with au := { outs := [(32767, { due := some ({ source := 5 }, 0), old := some {}, fadeLen := 1 })] } }, 0, 32767, {
    source := 5 }, 0, by decide +kernel⟩,
   ⟨{ up with au := { outs := [(32767, { old := some {} })] } }, 0, 32767, 0, by decide +kernel⟩,
   ⟨{ up with au := { strips := [(32767, { latency := 1 })] } }, 32767, { latency := 1 }, by decide +kernel⟩,
   ⟨{ up with au := { outs := [(32767, { first := some (1, 5) })] } }, 32767, { first := some (1, 5) }, 1, 5, by
    decide +kernel⟩,
   ⟨up, 255, by decide +kernel⟩⟩

/-- The hypotheses of each clause of TarnStarts hold somewhere. -/
theorem witness_TarnStarts :
    (∃ (s : State) (p v c : ℕ), s.awake ∧ p < 8 ∧ v < 2 ^ 25 ∧ c = (if tpMode v = 2 then setBit v 3 true else v) ∧ tpMaster c =
      true ∧ bit v 0 = true ∧ tpCfgBad c = false ∧ bit (s.regN (tpReg p Tp.ctrl)) 0 = false ∧ bit (s.regN Reg.trnGrpctl) p =
      false) ∧
    (∃ (s : State) (p v c : ℕ), s.awake ∧ p < 8 ∧ v < 2 ^ 25 ∧ c = (if tpMode v = 2 then setBit v 3 true else v) ∧ bit v 0 =
      true ∧ tpCfgBad c = true ∧ bit (s.regN (tpReg p Tp.ctrl)) 0 = false) ∧
    (∃ (s : State) (v : ℕ), s.awake ∧ bit v 0 = true ∧ bit (s.regN Reg.trnGrpgo) 0 = false) ∧
    (∃ (s : State), s.awake ∧ bit (s.regN Reg.trnGrpgo) 0 = true ∧ bit (s.regN Reg.trnGrpctl) 8 = true ∧ s.tarn.t0 = none) ∧
    (∃ (s : State) (dt a : ℕ), s.awake ∧ s.tarn.t0 = some a ∧ a ≤ (s.tick dt).tc) ∧
    (∃ (s : State) (dt p a : ℕ), s.awake ∧ p < 8 ∧ s.tarnFrameAt p = some a ∧ a ≤ (s.tick dt).tc ∧ (s.tp p).startAt.isSome =
      true) ∧
    (∃ (s : State) (dt p a : ℕ), s.awake ∧ p < 8 ∧ s.tarnFrameAt p = some a ∧ a ≤ (s.tick dt).tc ∧ (s.tp p).startAt = none ∧
      (s.tp p).count < 2 ^ 48 - 1) ∧
    (∃ (s : State) (dt p : ℕ), s.awake ∧ (∀ a, s.tarnFrameAt p = some a → (s.tick dt).tc < a)) ∧
    (∃ (s : State) (dt p : ℕ) (per : Period) (k : ℕ), s.awake ∧ p < 8 ∧ s.tarnOwn p = true ∧ per = tpPeriod (s.regN (tpReg p
      Tp.ctrl)) ∧ s.tarnFrameAt p = some (gridPoint per k) ∧ gridPoint per k ≤ (s.tick dt).tc) ∧
    (∃ (s : State) (dt p c a : ℕ), s.awake ∧ p < 8 ∧ c = s.regN (tpReg p Tp.ctrl) ∧ s.tarnFrameAt p = some a ∧ a ≤ (s.tick
      dt).tc ∧ tpMode c ≠ 2 ∧ bit c 22 = false ∧ (s.tp p).rxPend = none ∧ (s.tp p).rxBytes = [] ∧ (s.tp p).rxFifo.length +
      (enabledSlots c (s.tp p).rxMask).length ≤ 128) ∧
    (∃ (s : State) (dt p c a : ℕ), s.awake ∧ p < 8 ∧ c = s.regN (tpReg p Tp.ctrl) ∧ s.tarnFrameAt p = some a ∧ a ≤ (s.tick
      dt).tc ∧ tpMode c ≠ 2 ∧ bit c 21 = true ∧ (s.tp p).txPend = none ∧ takeTx (bit c 22) (enabledSlots c (s.tp
      p).txMask).length (s.tp p) = none) :=
  ⟨⟨up, 7, 9, 9, by decide +kernel⟩,
   ⟨up, 7, 0x69, 0x69, by decide +kernel⟩,
   ⟨up, 1, by decide +kernel⟩,
   ⟨withR up [(Reg.trnGrpgo, 1), (Reg.trnGrpctl, 256)], by decide +kernel⟩,
   ⟨{ up with tarn := { t0 := some 0 } }, 0, 0, by decide +kernel⟩,
   ⟨{ withR up [(tpReg 7 Tp.ctrl, 9)] with tarn := { ports := [(7, { startAt := some 0 })] } }, 0, 7, 0, by decide +kernel⟩,
   ⟨{ withR up [(tpReg 7 Tp.ctrl, 9), (tpReg 7 Tp.stat, 1)] with tarn := { ports := [(7, { count := 2 ^ 48 - 2 })] } }, 0, 7, 0,
    by decide +kernel⟩,
   ⟨{ withR up [(tpReg 7 Tp.ctrl, 9)] with tarn := { ports := [(7, { startAt := some 1 })] } }, 0, 7, by decide +kernel, fun a h
    => by cases (show some 1 = some a from h); decide +kernel⟩,
   ⟨{ withR up [(tpReg 7 Tp.ctrl, 9), (tpReg 7 Tp.stat, 1)] with tarn := { ports := [(7, { count := 0 })] } }, 0, 7, tpPeriod 9,
    0, by decide +kernel⟩,
   ⟨{ withR up [(tpReg 7 Tp.ctrl, 9), (tpReg 7 Tp.stat, 1)] with tarn := { ports := [(7, { rxFifo := List.replicate 127 0 })] }
    }, 0, 7, 9, 0, by decide +kernel⟩,
   ⟨{ withR up [(tpReg 7 Tp.ctrl, 2097161), (tpReg 7 Tp.stat, 1)] with tarn := { ports := [(7, { count := 0 })] } }, 0, 7,
    2097161, 0, by decide +kernel⟩⟩

/-- The hypotheses of each clause of TarnServes hold somewhere. -/
theorem witness_TarnServes :
    (∃ (s : State) (p : ℕ), s.awake ∧ p < 8) ∧
    (∃ (s : State) (p : ℕ), s.awake ∧ p < 8 ∧ s.tctrlBit p 0 = true ∧ s.tarnOwn p = false) ∧
    (∃ (s : State) (dt p : ℕ), s.awake ∧ p < 8 ∧ s.tstat p 0 = true ∧ s.tstat p 1 = true ∧ s.tarnOwn p = false ∧ (s.tp p).fsAt +
      2000000000 / tpHz (s.regN (tpReg p Tp.ctrl)) ≤ s.now + dt) ∧
    (∃ (s : State) (dt p mHz fill c : ℕ), s.awake ∧ p < 8 ∧ c = s.regN (tpReg p Tp.ctrl) ∧ s.tctrlBit p 0 = true ∧ tpMaster c =
      false ∧ (s.tp p).measured < (s.tick dt).tc / tcSec ∧ fill = s.regN (tpReg p 0x2C) ∧ (s.tp p).rate.isSome = true ∧ nearRate
      (s.tp p).rate mHz = true ∧ mHz < 2 ^ 32) ∧
    (∃ (s : State) (p w : ℕ) (rest : List ℕ), s.awake ∧ p < 8 ∧ (s.tp p).rxFifo = w :: rest) ∧
    (∃ (s : State) (p : ℕ), s.awake ∧ p < 8 ∧ (s.tp p).rxFifo = []) ∧
    (∃ (s : State) (p : ℕ), s.awake ∧ p < 8 ∧ (s.tp p).txFifo.length < 128) ∧
    (∃ (s : State) (p : ℕ), s.awake ∧ p < 8 ∧ 128 ≤ (s.tp p).txFifo.length) ∧
    (∃ (s : State) (p : ℕ), s.awake ∧ p < 8 ∧ (s.tp p).count < 2 ^ 48 ∧ (s.tp p).countPinned = false) :=
  ⟨⟨up, 7, by decide +kernel⟩,
   ⟨withR up [(tpReg 7 Tp.ctrl, 1)], 7, by decide +kernel⟩,
   ⟨withR up [(tpReg 7 Tp.ctrl, 1), (tpReg 7 Tp.stat, 3)], 50000, 7, by decide +kernel⟩,
   ⟨{ withR up [(tpReg 7 Tp.ctrl, 1), (tpReg 7 Tp.stat, 1)] with
    tarn := { ports := [(7, { fsFrom := some 0, fsTo := tcSec, fsFrames := 48000 })] } }, 1000000000, 7, 48000000, 0, 1, by
    decide +kernel⟩,
   ⟨{ up with tarn := { ports := [(7, { rxFifo := [5] })] } }, 7, 5, [], by decide +kernel⟩,
   ⟨up, 7, by decide +kernel⟩,
   ⟨{ up with tarn := { ports := [(7, { txFifo := List.replicate 127 0 })] } }, 7, by decide +kernel⟩,
   ⟨{ up with tarn := { ports := [(7, { txFifo := List.replicate 128 0 })] } }, 7, by decide +kernel⟩,
   ⟨{ up with tarn := { ports := [(7, { count := 2 ^ 48 - 1 })] } }, 7, by decide +kernel⟩⟩

/-- The hypotheses of each clause of MediaReceives hold somewhere. -/
theorem witness_MediaReceives :
    (∃ (s : State) (port : ℕ) (f : EthFrame), s.on ∧ Objs.portMode s.objs port ≠ 0 ∧ s.portN port Obj.portLinkState = 2 ∧
      s.frameTaken port f = false) ∧
    (∃ (s : State) (port : ℕ) (f : EthFrame), s.on ∧ Objs.portMode s.objs port ≠ 0 ∧ s.portN port Obj.portLinkState = 2 ∧
      s.frameTaken port f = true) ∧
    (∃ (s : State) (port : ℕ) (f : EthFrame) (p : Rtp) (e lead : ℕ), s.on ∧ Objs.portMode s.objs port ≠ 0 ∧ s.portN port
      Obj.portLinkState = 2 ∧ s.frameTaken port f = true ∧ f.body = .rtp p ∧ (s.rxTaker port p).map (fun x => x.2) = some (e,
      true) ∧ (multicast p.dst = true ∨ f.dstMac = s.portMacNow port ∧ p.dst ∈ s.portAddrs port) ∧ lead = Objs.rxLeadEntry
      s.objs e ∧ p.payloadType = s.n Obj.rxPayloadType e ∧ s.n Obj.rxFlowState lead = 2) ∧
    (∃ (s : State) (port : ℕ) (f : EthFrame) (p : Rtp), s.on ∧ Objs.portMode s.objs port ≠ 0 ∧ s.portN port Obj.portLinkState =
      2 ∧ s.frameTaken port f = true ∧ f.body = .rtp p ∧ (s.rxTaker port p = none ∨ multicast p.dst = false ∧ (f.dstMac ≠
      s.portMacNow port ∨ p.dst ∉ s.portAddrs port))) ∧
    (∃ (s : State) (port : ℕ) (f : EthFrame) (a : List Byte), s.on ∧ Objs.portMode s.objs port ≠ 0 ∧ s.portN port
      Obj.portLinkState = 2 ∧ s.standby = false ∧ s.frameTaken port f = true ∧ f.body = .arpRequest a ∧ a ∈ s.portAddrs port) ∧
    (∃ (s : State) (port : ℕ), s.on ∧ Objs.portMode s.objs port ≠ 0 ∧ s.portN port Obj.portLinkState ≠ 2) ∧
    (∃ (s : State) (port : ℕ), s.on ∧ Objs.portMode s.objs port ≠ 0 ∧ s.portN port Obj.portLinkState = 2) ∧
    (∃ (s : State) (dt port : ℕ) (g : List Byte) (left a : ℕ), s.on ∧ (s.port port).reports.find? (fun q => q.1 == g) = some (g,
      left, a) ∧ a ≤ (s.tick dt).ptp ∧ s.portN port Obj.portLinkState = 2 ∧ (g.length = 16 ∨ (s.tick dt).groupVersion port false
      ≠ 1)) :=
  ⟨⟨withN up [(Obj.portCountA, 0, 4), (Obj.portMode, 3, 1), (Obj.portLinkState, 3, 2), (Obj.portIpv4Addr, 3, 0x0A000003)], 3,
    ⟨63, true, [], List.replicate 6 0xFF, .udpOther⟩, by decide +kernel⟩,
   ⟨withN up [(Obj.portCountA, 0, 4), (Obj.portMode, 3, 1), (Obj.portLinkState, 3, 2), (Obj.portIpv4Addr, 3, 0x0A000003)], 3,
    ⟨1522, true, [], List.replicate 6 0xFF, .udpOther⟩, by decide +kernel⟩,
   ⟨(withN up [(Obj.portCountA, 0, 4), (Obj.portMode, 3, 1), (Obj.portLinkState, 3, 2), (Obj.portIpv4Addr, 3, 0x0A000003),
    (Obj.rxEnable, 8191, 1), (Obj.rxEssence, 8191, 2), (Obj.rxPort, 8191, 3), (Obj.rxUdpPort, 8191, 5004), (Obj.rxPayloadType,
    8191, 97), (Obj.rxFlowState, 8191, 2)]).setBy Obj.rxDstAddr 8191 [239, 0, 0, 1], 3, ⟨64, true, [], List.replicate 6 0xFF,
    .rtp pkt⟩, pkt, 8191, 8191, by decide +kernel⟩,
   ⟨withN up [(Obj.portCountA, 0, 4), (Obj.portMode, 3, 1), (Obj.portLinkState, 3, 2), (Obj.portIpv4Addr, 3, 0x0A000003)], 3,
    ⟨64, true, [], List.replicate 6 0xFF, .rtp pkt⟩, pkt, by decide +kernel⟩,
   ⟨withN up [(Obj.portCountA, 0, 4), (Obj.portMode, 3, 1), (Obj.portLinkState, 3, 2), (Obj.portIpv4Addr, 3, 0x0A000003)], 3,
    ⟨64, true, [], List.replicate 6 0xFF, .arpRequest [10, 0, 0, 3]⟩, [10, 0, 0, 3], by decide +kernel⟩,
   ⟨withN up [(Obj.portCountA, 0, 4), (Obj.portMode, 3, 1), (Obj.portLinkState, 3, 0), (Obj.portIpv4Addr, 3, 0x0A000003)], 3, by
    decide +kernel⟩,
   ⟨withN up [(Obj.portCountA, 0, 4), (Obj.portMode, 3, 1), (Obj.portLinkState, 3, 2), (Obj.portIpv4Addr, 3, 0x0A000003)], 3, by
    decide +kernel⟩,
   ⟨{ withN up [(Obj.portCountA, 0, 4), (Obj.portMode, 3, 1), (Obj.portLinkState, 3, 2), (Obj.portIpv4Addr, 3, 0x0A000003)] with
    media := { ports := [(3, { reports := [([239, 0, 0, 1], 1, 0)] })] } }, 0, 3, [239, 0, 0, 1], 1, 0, by decide +kernel⟩⟩

/-- The hypotheses of each clause of MediaFlows hold somewhere. -/
theorem witness_MediaFlows :
    (∃ (s : State) (dt e : ℕ) (r : RxPkt) (rest : List RxPkt) (due : ℕ), s.on ∧ s.b Obj.rxEnable e = true ∧ Objs.rxLeadEntry
      s.objs e = e ∧ 3 ≤ s.n Obj.rxFlowState e ∧ (s.rxe e).buffer = r :: rest ∧ due = max (r.arrival + Objs.rxDelay s.objs e)
      (s.rxe e).lastRelease ∧ due ≤ (s.tick dt).ptp) ∧
    (∃ (s : State) (dt e : ℕ), s.on ∧ s.b Obj.rxEnable e = true ∧ Objs.rxLeadEntry s.objs e = e ∧ 3 ≤ s.n Obj.rxFlowState e ∧ (∀
      k ∈ Objs.rxPaths s.objs e, (s.rxe k).lastCopy + s.lossTimeout e ≤ (s.tick dt).ptp)) ∧
    (∃ (s : State) (dt e : ℕ), s.on ∧ (Objs.rxPaths s.objs (Objs.rxLeadEntry s.objs e)).length = 2 ∧ (s.rxe e).pathUp = true ∧
      (s.rxe e).lastCopy + s.lossTimeout e ≤ (s.tick dt).ptp) ∧
    (∃ (s : State) (dt e a : ℕ), s.on ∧ (s.rxe e).pathDownSeen = true ∧ (s.rxe e).restoreFrom = some a ∧ a + 1000000000 ≤
      (s.tick dt).ptp ∧ (s.tick dt).ptp < (s.rxe e).lastCopy + s.lossTimeout e) ∧
    (∃ (s : State), s.on) ∧
    (∃ (s : State) (dt e k : ℕ) (v : ℤ) (rest : List (ℕ × ℤ)), s.on ∧ (s.rxe e).transits = (k, v) :: rest ∧ k < (s.tick dt).ptp
      / 1000000000) :=
  ⟨⟨{ withN up [(Obj.rxEnable, 8191, 1), (Obj.rxEssence, 8191, 2), (Obj.rxFlowState, 8191, 3)] with media := { rx := [(8191, {
    buffer := [⟨0, 0, 8191, [8191], pkt⟩] })] } }, 5000000, 8191, ⟨0, 0, 8191, [8191], pkt⟩, [], max (0 + Objs.rxDelay (withN up
    [(Obj.rxEnable, 8191, 1), (Obj.rxEssence, 8191, 2), (Obj.rxFlowState, 8191, 3)]).objs 8191) 0, by decide +kernel⟩,
   ⟨withN up [(Obj.rxEnable, 8191, 1), (Obj.rxEssence, 8191, 2), (Obj.rxFlowState, 8191, 3)], 1000000000, 8191, by
    decide +kernel⟩,
   ⟨{ withN up [(Obj.rxEnable, 8191, 1), (Obj.rxEnable, 8190, 1), (Obj.rxPartner, 8191, 8190), (Obj.rxPartner, 8190, 8191)] with
    media := { rx := [(8191, { pathUp := true })] } }, 1000000000, 8191, by decide +kernel⟩,
   ⟨{ up with media := { rx := [(8191, { pathDownSeen := true, restoreFrom := some 0, lastCopy := 1000000000 })] } },
    1000000000, 8191, 0, by decide +kernel⟩,
   ⟨up, by decide +kernel⟩,
   ⟨{ up with media := { rx := [(8191, { transits := [(0, 5)] })] } }, 1000000000, 8191, 0, 5, [], by decide +kernel⟩⟩

/-- The hypotheses of each clause of MediaTransmits hold somewhere. -/
theorem witness_MediaTransmits :
    (∃ (s : State) (dt e : ℕ) (x : Shown) (p : ℕ × ℕ), s.on ∧ (s.txe e).held = [] ∧ Objs.txLeadEntry s.objs e = e ∧ s.txRuns e =
      true ∧ (s.n Obj.txEssence e = 1 ∨ s.n Obj.txEssence e = 5) ∧ s.tw.drain = none ∧ s.txShown e = some x ∧ x.pic ≠ .blanking
      ∧ ((s.txe e).frame = none → x.emitted = false ∧ (s.txe e).startAt ≤ x.align) ∧ p = (s.txe e).frame.getD (x.align, 0) ∧
      secNs (s.txSchedule e x.format p.1 p.2) ≤ (s.tick dt).ptp + 50) ∧
    (∃ (s : State) (dt e n : ℕ), s.on ∧ (s.txe e).held = [] ∧ Objs.txLeadEntry s.objs e = e ∧ s.txRuns e = true ∧ (s.n
      Obj.txEssence e = 2 ∨ s.n Obj.txEssence e = 3) ∧ n = packetSamples (s.n Obj.txPacketTime e) (s.n Obj.txAudioRate e) ∧
      1000000000 * (s.txAudioIndex e + n) / s.txAudioHz e + 7000 ≤ (s.tick dt).ptp) ∧
    (∃ (s : State) (dt e : ℕ) (field2 : Bool) (x : Shown), s.on ∧ (s.txe e).held = [] ∧ Objs.txLeadEntry s.objs e = e ∧ s.txRuns
      e = true ∧ s.n Obj.txEssence e = 4 ∧ (s.dst (s.n Obj.txSource e)).shown = some x ∧ (s.tick dt).ancLeaves e x field2 =
      true) ∧
    (∃ (s : State) (dt e : ℕ) (p : Rtp) (a : ℕ) (rest : List (Rtp × ℕ)), s.on ∧ (s.txe e).held = [] ∧ s.txRuns e = true ∧ s.n
      Obj.txEssence e = 6 ∧ (s.txe e).opaque_ = (p, a) :: rest ∧ a + 1200 ≤ (s.tick dt).ptp) ∧
    (∃ (s : State) (dt e : ℕ), s.on ∧ s.standby = false ∧ s.b Obj.txEnable e = true ∧ multicast (s.by Obj.txDstAddr e) = false ∧
      s.by Obj.txDstAddr e ≠ [] ∧ s.portN (s.n Obj.txPort e) Obj.portLinkState = 2 ∧ ((s.txe e).resolveAt.isSome = true ∨ (s.txe
      e).triedAt + 60000000000 ≤ (s.tick dt).ptp)) ∧
    (∃ (s : State) (dt e a : ℕ), s.on ∧ (s.n Obj.txFlowState e = 2 ∨ s.n Obj.txFlowState e = 3) ∧ (s.txe e).unresolvedRaised =
      false ∧ (s.txe e).resolveAt = some a ∧ a + 3000000000 ≤ (s.tick dt).ptp) :=
  ⟨⟨{ withN up [(Obj.txEnable, 8191, 1), (Obj.txEssence, 8191, 1), (Obj.txFlowState, 8191, 3), (Obj.txSource, 8191, 9)] with
    ridge := { dst := [(9, { shown := some onAir })] } }, 40000000, 8191, onAir, (0, 0), by decide +kernel⟩,
   ⟨withN up [(Obj.txEnable, 8191, 1), (Obj.txEssence, 8191, 2), (Obj.txFlowState, 8191, 3), (Obj.txSource, 8191, 9),
    (Obj.txPacketTime, 8191, 3)], 1007000, 8191, 48, by decide +kernel⟩,
   ⟨{ withN up [(Obj.txEnable, 8191, 1), (Obj.txEssence, 8191, 4), (Obj.txFlowState, 8191, 3), (Obj.txSource, 8191, 9),
    (Obj.txEnable, 8190, 1), (Obj.txEssence, 8190, 1), (Obj.txFlowState, 8190, 3), (Obj.txSource, 8190, 9)] with ridge := { dst
    := [(9, { shown := some onAir })] } }, 740000, 8191, false, onAir, by decide +kernel⟩,
   ⟨{ withN up [(Obj.txEnable, 8191, 1), (Obj.txEssence, 8191, 6), (Obj.txFlowState, 8191, 3), (Obj.txSource, 8191, 9)] with
    media := { tx := [(8191, { opaque_ := [(pkt, 0)] })] } }, 1200, 8191, pkt, 0, [], by decide +kernel⟩,
   ⟨(withN up [(Obj.txEnable, 8191, 1), (Obj.txEssence, 8191, 1), (Obj.txFlowState, 8191, 3), (Obj.txSource, 8191, 9),
    (Obj.txPort, 8191, 0), (Obj.portLinkState, 0, 2)]).setBy Obj.txDstAddr 8191 [10, 0, 0, 9], 60000000000, 8191, by
    decide +kernel⟩,
   ⟨{ withN up [(Obj.txEnable, 8191, 1), (Obj.txEssence, 8191, 1), (Obj.txFlowState, 8191, 3), (Obj.txSource, 8191, 9)] with
    media := { tx := [(8191, { resolveAt := some 0 })] } }, 3000000000, 8191, 0, by decide +kernel⟩⟩

/-- The hypotheses of each clause of ReferencesFollow hold somewhere. -/
theorem witness_ReferencesFollow :
    (∃ (s : State) (r w : ℕ), s.awake ∧ refIsPulse r = true ∧ s.b Obj.refEnable r = true ∧ (s.refPeriod r).num ≠ 0 ∧ pulseCode w
      = none) ∧
    (∃ (s : State) (r w : ℕ), s.awake ∧ 2 ≤ r ∧ r ≤ 10 ∧ s.b Obj.refEnable r = true ∧ (s.refPeriod r).num ≠ 0 ∧ (refIsPulse r =
      true → (pulseCode w).isSome = true)) ∧
    (∃ (s : State) (r w c : ℕ), s.awake ∧ refIsPulse r = true ∧ s.b Obj.refEnable r = true ∧ (s.refPeriod r).num ≠ 0 ∧ pulseCode
      w = some c ∧ (s.ref r).code = c ∧ 2 ≤ (s.ref r).codeRun) ∧
    (∃ (s : State) (dt r : ℕ) (c : LossCause), s.awake ∧ r ≤ 10 ∧ (s.tick dt).causeHolds r c = true ∧ 2 ≤ s.n Obj.refState r) ∧
    (∃ (s : State) (dt r : ℕ), s.awake ∧ r ≤ 10 ∧ s.n Obj.refState r = 1 ∧ (s.tick dt).signalBack r = true) ∧
    (∃ (s : State) (dt r : ℕ), s.awake ∧ r ≤ 10 ∧ s.n Obj.refState r = 2 ∧ (s.ref r).qualAt + 1000000000 * s.n
      Obj.refWaitToRestore r ≤ s.now + dt) ∧
    (∃ (s : State) (dt r : ℕ) (b : PtpMaster), (s.awake ∧ r < 2 ∧ 2 ≤ s.n Obj.ptpState r ∧ (s.tick dt).announceLate r = true ∧
      bestMaster ((s.tick dt).announcing r) = some b) ∧ (∀ m, (s.ref r).master = some m → m.who ≠ b.who)) ∧
    (∃ (s : State) (dt r : ℕ), s.awake ∧ r < 2 ∧ 2 ≤ s.n Obj.ptpState r ∧ (s.tick dt).announceLate r = true ∧ (s.tick
      dt).announcing r = []) ∧
    (∃ (s : State) (dt : ℕ) (diffs : List (ℕ × ℤ)) (r : ℕ) (d : ℤ), s.awake ∧ (s.tick dt).tc / tcSec ≠ s.ws.second ∧ (diffs.map
      (·.1)).Nodup ∧ (r, d) ∈ diffs ∧ r ≤ 10 ∧ s.b Obj.refEnable r = true) ∧
    (∃ (s : State) (dt : ℕ), s.awake ∧ (s.tick dt).tc / tcSec ≠ s.ws.second ∧ s.n Obj.wsState 0 = 2) :=
  ⟨⟨withN up [(Obj.refEnable, 5, 1)], 5, 18001, by decide +kernel⟩,
   ⟨withN up [(Obj.refEnable, 10, 1), (Obj.refSdiLane, 10, 287), (Obj.rxFormat, 287, 0x3600)], 10, 0, by decide +kernel⟩,
   ⟨{ withN up [(Obj.refEnable, 5, 1)] with ws := { refs := [(5, { code := 15, codeRun := 2 })] } }, 5, 18000, 15, by
    decide +kernel⟩,
   ⟨withN up [(Obj.refState, 5, 3)], 0, 5, .pulseMissing, by decide +kernel⟩,
   ⟨withN up [(Obj.refState, 10, 1), (Obj.refSdiLane, 10, 287), (Obj.rxState, 287, 4)], 0, 10, by decide +kernel⟩,
   ⟨withN up [(Obj.refState, 10, 2), (Obj.refWaitToRestore, 10, 5)], 5000000000, 10, by decide +kernel⟩,
   ⟨{ withN up [(Obj.ptpState, 1, 2)] with
    ws := { refs := [(1, { masters := [firstMaster, otherMaster], master := some firstMaster })] } }, 0, 1, otherMaster, by
    decide +kernel, fun m h => by cases (show some firstMaster = some m from h); decide⟩,
   ⟨{ withN up [(Obj.ptpState, 1, 2)] with ws := { refs := [(1, { master := some firstMaster })] } }, 0, 1, by decide +kernel⟩,
   ⟨withN up [(Obj.refEnable, 10, 1)], 1000000000, [(10, -5)], 10, -5, by decide +kernel⟩,
   ⟨withN up [(Obj.wsState, 0, 2)], 1000000000, by decide +kernel⟩⟩

/-- The hypotheses of each clause of ClockDisciplined hold somewhere. -/
theorem witness_ClockDisciplined :
    (∃ (s : State) (dt r : ℕ), s.awake ∧ (s.tick dt).evalIndex ≠ s.ws.evalIndex ∧ (s.tick dt).choice = some r) ∧
    (∃ (s : State) (dt : ℕ), s.awake ∧ (s.tick dt).evalIndex ≠ s.ws.evalIndex ∧ (s.tick dt).choice = none ∧ s.n Obj.wsMode 0 ≠ 3
      ∧ (s.n Obj.wsState 0 = 1 ∨ s.n Obj.wsState 0 = 2)) ∧
    (∃ (s : State) (dt : ℕ), s.awake ∧ (s.tick dt).evalIndex ≠ s.ws.evalIndex ∧ s.n Obj.wsMode 0 = 3) ∧
    (∃ (s : State) (dt a : ℕ), s.awake ∧ s.n Obj.wsState 0 = 1 ∧ s.phaseError.natAbs ≤ 100 ∧ s.ws.lockSince = some a ∧ a +
      10000000000 ≤ s.now + dt) ∧
    (∃ (s : State) (missing : ℕ) (ppm : ℤ), s.awake ∧ s.n Obj.wsLoState 0 = 0 ∧ (4 ≤ missing ∨ 200 < ppm.natAbs)) ∧
    (∃ (s : State) (dt : ℕ), s.awake ∧ s.n Obj.wsLoState 0 = 1 ∧ s.ws.loBadAt + 1000000000 ≤ s.now + dt) ∧
    (∃ (s : State) (dt : ℕ) (m : Msg) (x : Session) (value : List Byte) (ns : ℕ), Acts s dt m x Obj.wsTimeSet 0 value (.num ns)) :=
  ⟨⟨withN up [(Obj.wsMode, 0, 1), (Obj.wsManualRef, 0, 5), (Obj.refState, 5, 3)], 100000000, 5, by decide +kernel⟩,
   ⟨withN up [(Obj.wsState, 0, 2)], 100000000, by decide +kernel⟩,
   ⟨withN up [(Obj.wsMode, 0, 3)], 100000000, by decide +kernel⟩,
   ⟨{ withN up [(Obj.wsState, 0, 1), (Obj.wsSelectedRef, 0, 5), (Obj.refPhaseDiff, 5, 100)] with ws := { lockSince := some 0 }
    }, 10000000000, 0, by decide +kernel⟩,
   ⟨up, 4, 0, by decide +kernel⟩,
   ⟨withN up [(Obj.wsLoState, 0, 1)], 1000000000, by decide +kernel⟩,
   ⟨up, 0, ask, boss, List.replicate 10 0, 0, acts_of (by decide +kernel)⟩⟩

/-- The hypotheses of each clause of HoldoverAndPulses hold somewhere. -/
theorem witness_HoldoverAndPulses :
    (∃ (s : State), s.awake ∧ s.ws.ready = false ∧ (if s.ws.wasReady = true then 3600 ≤ s.ws.runLearned else 172800 ≤ s.n
      Obj.wsHoldoverLearned 0)) ∧
    (∃ (s : State) (dt : ℕ), s.on ∧ s.n Obj.wsHoldoverLearned 0 ≠ 0 ∧ s.ws.savedAt + 3600000000000 ≤ s.now + dt) ∧
    (∃ (s : State) (dt : ℕ), s.awake ∧ s.n Obj.wsState 0 = 3 ∧ s.ws.expired = false ∧ s.n Obj.wsHoldoverLimit 0 ≤ (s.tick
      dt).heldFor) ∧
    (∃ (s : State) (dt : ℕ) (m : Msg) (x : Session) (value : List Byte), Acts s dt m x Obj.wsHoldoverReset 0 value (.num 1)) ∧
    (∃ (s : State) (dt n at_ : ℕ) (per : ℚ) (x : FpOut), s.awake ∧ n < 4 ∧ s.b Obj.fpEnable n = true ∧ (s.tick dt).fpNext n =
      some (at_, per, x) ∧ x.spaced at_ per = true) :=
  ⟨⟨withN up [(Obj.wsHoldoverLearned, 0, 172800)], by decide +kernel⟩,
   ⟨withN up [(Obj.wsHoldoverLearned, 0, 1)], 3600000000000, by decide +kernel⟩,
   ⟨withN up [(Obj.wsState, 0, 3), (Obj.wsHoldoverLimit, 0, 1)], 1000000000, by decide +kernel⟩,
   ⟨up, 0, ask, boss, [1], acts_of (by decide +kernel)⟩,
   ⟨withN up [(Obj.fpEnable, 3, 1)], 0, 3, 0, 1310720000000, { rate := 6 }, by decide +kernel⟩⟩

/-- The hypotheses of each clause of TwinLink hold somewhere. -/
theorem witness_TwinLink :
    (∃ (s : State) (dt : ℕ) (a b : ArbLevel) (p : ℕ), s.awake ∧ s.paired = true ∧ (s.tick dt).arbWindow ≠ s.tw.arbFrame ∧ p =
      arbPattern (if (s.tick dt).arbWindow = s.tw.arbFrame + 1 then arbSymbol s.tw.lastFirst s.tw.lastSecond else 0) (arbSymbol
      a b)) ∧
    (∃ (s : State), s.awake ∧ s.linked = true) ∧
    (∃ (s : State), s.awake ∧ s.linked = true) ∧
    (∃ (s : State) (dt : ℕ), s.awake ∧ s.paired = true ∧ s.twinUp = true ∧ s.tw.lastBlockAt + 200000 ≤ s.now + dt) ∧
    (∃ (s : State) (dt a : ℕ), s.awake ∧ s.paired = true ∧ s.twinUp = false ∧ s.now + dt ≤ s.tw.lastBlockAt + 200000 ∧
      s.tw.validSince = some a ∧ a + 1000000 ≤ s.now + dt) :=
  ⟨⟨withN up [(Obj.twinPaired, 0, 1), (Obj.twinRole, 0, 1), (Obj.twinLinkState, 0, 1), (Obj.saddleState, 0, 4)], 40000000,
    .high, .low, 0, by decide +kernel⟩,
   ⟨withN up [(Obj.twinPaired, 0, 1), (Obj.twinRole, 0, 1), (Obj.twinLinkState, 0, 1), (Obj.saddleState, 0, 4)], by
    decide +kernel⟩,
   ⟨{ withN up [(Obj.twinPaired, 0, 1), (Obj.twinRole, 0, 1), (Obj.twinLinkState, 0, 1), (Obj.saddleState, 0, 4)] with tw := {
    sentAt := some 0 } }, by decide +kernel⟩,
   ⟨withN up [(Obj.twinPaired, 0, 1), (Obj.twinRole, 0, 1), (Obj.twinLinkState, 0, 1), (Obj.saddleState, 0, 4)], 200000, by
    decide +kernel⟩,
   ⟨{ withN up [(Obj.twinPaired, 0, 1), (Obj.twinRole, 0, 1), (Obj.twinLinkState, 0, 0), (Obj.saddleState, 0, 4)] with tw := {
    lastBlockAt := 800000, validSince := some 0 } }, 1000000, 0, by decide +kernel⟩⟩

/-- The hypotheses of each clause of TwinCopies hold somewhere. -/
theorem witness_TwinCopies :
    (∃ (s : State) (dt : ℕ), s.awake ∧ (s.tick dt).copyDue = true) ∧
    (∃ (s : State) (dt : ℕ) (c : Copy), s.on ∧ s.linked = true ∧ s.standby = true ∧ (s.tick dt).tc < (s.tick dt).boundaryOf
      c.boundary) ∧
    (∃ (s : State) (dt b k : ℕ) (ends : Bool), s.awake ∧ s.active = true ∧ s.tw.copySent = some (b, k, ends) ∧ (s.tick dt).tc <
      b) ∧
    (∃ (s : State) (n : ℕ), s.awake ∧ s.linked = true ∧ s.standby = true ∧ n < 16) ∧
    (∃ (s : State) (n : ℕ), s.awake ∧ s.linked = true ∧ s.standby = true ∧ n < 16) ∧
    (∃ (s : State) (dt : ℕ) (x : Through) (l : List Through), s.awake ∧ s.noneHeld ∧ s.tw.through = x :: l ∧ writtenThrough
      x.addr x.val = true ∧ s.now + dt ≤ x.sentAt + 2000000) ∧
    (∃ (s : State) (dt : ℕ) (x : Through) (l : List Through), s.awake ∧ s.noneHeld ∧ s.tw.through = x :: l ∧ writtenThrough
      x.addr x.val = true ∧ x.sentAt + 2000000 ≤ s.now + dt) ∧
    (∃ (s : State) (dt : ℕ), s.awake ∧ s.active = true ∧ s.tw.announceLeft ≠ 0 ∧ s.tw.announceAt ≤ s.now + dt) :=
  ⟨⟨withN up [(Obj.twinPaired, 0, 1), (Obj.twinRole, 0, 1), (Obj.twinLinkState, 0, 1), (Obj.saddleState, 0, 4)], 19000000, by
    decide +kernel⟩,
   ⟨withN up [(Obj.twinPaired, 0, 1), (Obj.twinRole, 0, 2), (Obj.twinLinkState, 0, 1), (Obj.saddleState, 0, 4)], 0, ⟨20000000,
    [], [], [], [], [], true, []⟩, by decide +kernel⟩,
   ⟨{ withN up [(Obj.twinPaired, 0, 1), (Obj.twinRole, 0, 1), (Obj.twinLinkState, 0, 1), (Obj.saddleState, 0, 4)] with tw := {
    copySent := some (1, 0, true) } }, 0, 1, 0, true, by decide +kernel⟩,
   ⟨withN up [(Obj.twinPaired, 0, 1), (Obj.twinRole, 0, 2), (Obj.twinLinkState, 0, 1), (Obj.saddleState, 0, 4)], 15, by
    decide +kernel⟩,
   ⟨withN up [(Obj.twinPaired, 0, 1), (Obj.twinRole, 0, 2), (Obj.twinLinkState, 0, 1), (Obj.saddleState, 0, 4)], 15, by
    decide +kernel⟩,
   ⟨{ up with tw := { through := [⟨some ⟨.request 0 1, 0x11, .write 0, 0, []⟩, 0, adr Obj.layerGfxFlip 255, .num 1⟩] } },
    2000000, ⟨some ⟨.request 0 1, 0x11, .write 0, 0, []⟩, 0, adr Obj.layerGfxFlip 255, .num 1⟩, [], by decide +kernel⟩,
   ⟨{ up with tw := { through := [⟨some ⟨.request 0 1, 0x11, .write 0, 0, []⟩, 0, adr Obj.layerGfxFlip 255, .num 1⟩] } },
    2000000, ⟨some ⟨.request 0 1, 0x11, .write 0, 0, []⟩, 0, adr Obj.layerGfxFlip 255, .num 1⟩, [], by decide +kernel⟩,
   ⟨{ withN up [(Obj.twinPaired, 0, 1), (Obj.twinRole, 0, 1), (Obj.twinLinkState, 0, 1), (Obj.saddleState, 0, 4)] with tw := {
    announceLeft := 1 } }, 0, by decide +kernel⟩⟩

/-- The hypotheses of each clause of LanesAlign hold somewhere. -/
theorem witness_LanesAlign :
    (∃ (s : State) (o : ℕ), s.awake ∧ o < 36 ∧ bit (s.n Obj.octetPllState o) 0 = false) ∧
    (∃ (s : State) (o : ℕ) (pll : Pll), s.awake ∧ o < 36 ∧ bit (s.n Obj.octetPllState o) (pllBit pll) = false) ∧
    (∃ (s : State) (o : ℕ) (pll : Pll), s.awake ∧ o < 36 ∧ bit (s.n Obj.octetPllState o) (pllBit pll) = true) ∧
    (∃ (s : State) (i : ℕ), s.awake ∧ i < 4 ∧ s.n Obj.spurRefState i = 1) ∧
    (∃ (s : State) (i : ℕ), s.awake ∧ i < 4 ∧ s.n Obj.spurRefState i = 2) ∧
    (∃ (s : State) (l : ℕ), s.awake ∧ l < 288 ∧ s.n Obj.laneState l = 1) ∧
    (∃ (s : State) (l : ℕ), s.awake ∧ l < 288 ∧ 2 ≤ s.n Obj.laneState l) ∧
    (∃ (s : State) (l : ℕ), s.awake ∧ l < 288 ∧ 2 ≤ s.n Obj.laneMode l ∧ s.n Obj.laneState l = 2) ∧
    (∃ (s : State) (l k : ℕ), s.awake ∧ l < 288 ∧ s.n Obj.laneState l = 3 ∧ 16 ≤ k) ∧
    (∃ (s : State) (l : ℕ), s.awake ∧ l < 288 ∧ s.n Obj.lanePrbsState l = 1) ∧
    (∃ (s : State) (l : ℕ), s.awake ∧ l < 288 ∧ 2 ≤ s.n Obj.lanePrbsState l) :=
  ⟨⟨up, 35, by decide +kernel⟩,
   ⟨up, 35, .sdiM, by decide +kernel⟩,
   ⟨withN up [(Obj.octetPllState, 35, 1)], 35, .eth, by decide +kernel⟩,
   ⟨withN up [(Obj.spurRefState, 3, 1)], 3, by decide +kernel⟩,
   ⟨withN up [(Obj.spurRefState, 3, 2)], 3, by decide +kernel⟩,
   ⟨withN up [(Obj.laneState, 287, 1)], 287, by decide +kernel⟩,
   ⟨withN up [(Obj.laneState, 287, 2)], 287, by decide +kernel⟩,
   ⟨withN up [(Obj.laneState, 287, 2), (Obj.laneMode, 287, 2)], 287, by decide +kernel⟩,
   ⟨withN up [(Obj.laneState, 287, 3)], 287, 16, by decide +kernel⟩,
   ⟨withN up [(Obj.lanePrbsState, 287, 1)], 287, by decide +kernel⟩,
   ⟨withN up [(Obj.lanePrbsState, 287, 2)], 287, by decide +kernel⟩⟩

/-- The hypotheses of each clause of SaddleTrains hold somewhere. -/
theorem witness_SaddleTrains :
    (∃ (s : State) (dt b k : ℕ), s.awake ∧ s.sad.base = some b ∧ s.n Obj.saddleBringUp 0 = 0 ∧ k < 8 ∧ s.n Obj.laneState (b + k)
      = 2 ∧ (s.sl k).slipFrom ≤ s.now + dt ∧ b + 8 ≤ 65536) ∧
    (∃ (s : State) (dt : ℕ) (m : Msg) (x : Session) (k : ℕ) (value : List Byte) (b : ℕ), Acts s dt m x Obj.saddleSlip k value
      (.num 1) ∧ s.sad.base = some b) ∧
    (∃ (s : State) (k : ℕ) (before word : List Bool) (w : RxWord), s.awake ∧ s.hears k = true ∧ (s.heardWords k (before ++
      word)).getLast? = some w ∧ w.valid = true ∧ w.control = true ∧ s.markerOk w.payload = true) ∧
    (∃ (s : State) (k : ℕ) (before word : List Bool) (w : RxWord) (b : ℕ), s.awake ∧ s.hears k = true ∧ (s.heardWords k (before
      ++ word)).getLast? = some w ∧ w.ok = true ∧ w.control = true ∧ s.markerOk w.payload = false ∧ s.sad.base = some b) ∧
    (∃ (s : State) (k : ℕ) (before word : List Bool) (w : RxWord), s.awake ∧ s.hears k = true ∧ s.large = false ∧ (s.heardWords
      k (before ++ word)).getLast? = some w ∧ w.ok = true ∧ w.control = true ∧ w.payload % 256 = 0x4B ∧ bit w.payload 31 =
      false) ∧
    (∃ (s : State) (r : ℕ) (line : List Bool) (w : RxWord) (k : ℕ), s.awake ∧ s.hears r = true ∧ 3 ≤ s.n Obj.saddleState 0 ∧
      (s.heardWords r line).getLast? = some w ∧ w.ok = true ∧ w.control = true ∧ w.payload % 256 = 0x55 ∧ bit w.payload 23 =
      false ∧ k = s.peerLane r) ∧
    (∃ (s : State) (k b : ℕ), s.awake ∧ k < 8 ∧ s.sad.base = some b ∧ s.n Obj.saddleState 0 = 3 ∧ s.n Obj.saddleBringUp 0 = 0 ∧
      (s.sl k).awaiting = false ∧ (s.sl k).rxReady = false) ∧
    (∃ (s : State) (dt : ℕ) (m : Msg) (x : Session) (k : ℕ) (value : List Byte) (v : ℕ), Acts s dt m x Obj.saddleTrainRequest k
      value (.num v) ∧ s.sad.base.isSome = true ∧ s.n Obj.saddleBringUp 0 = 1) ∧
    (∃ (s : State) (dt : ℕ) (m : Msg) (x : Session) (value : List Byte) (b : ℕ), Acts s dt m x Obj.saddleRestart 0 value (.num
      1) ∧ s.sad.base = some b ∧ s.n Obj.saddleState 0 ≠ 0) ∧
    (∃ (s : State) (k : ℕ), s.awake ∧ k < 8 ∧ s.n Obj.saddleState 0 = 4) ∧
    (∃ (s : State) (before head rest : List (List Bool)) (start : ℕ) (words : List ℕ) (bad : Bool), s.awake ∧ s.n
      Obj.saddleState 0 = 4 ∧ messageIn (s.heardRows (messageLines before head rest)) = some (start, words, bad) ∧ (s.messageOk
      start words && !bad) = false) ∧
    (∃ (s : State) (before head rest : List (List Bool)) (start : ℕ) (words : List ℕ), s.on ∧ s.n Obj.saddleState 0 = 4 ∧
      s.paired = true ∧ s.standby = true ∧ messageIn (s.heardRows (messageLines before head rest)) = some (start, words, false)
      ∧ s.messageOk start words = true ∧ field start 8 11 = 4) ∧
    (∃ (s : State) (before head rest : List (List Bool)) (start : ℕ) (words : List ℕ), s.awake ∧ s.n Obj.saddleState 0 = 4 ∧
      messageIn (s.heardRows (messageLines before head rest)) = some (start, words, false) ∧ s.messageOk start words = true ∧
      (field start 8 11 ≠ 4 ∨ s.standby = false)) :=
  ⟨⟨{ withN up [(Obj.laneState, 287, 2)] with sad := { base := some 280, config := 2 } }, 0, 280, 7, by decide +kernel⟩,
   ⟨{ withN up [(Obj.saddleBringUp, 0, 1)] with sad := { base := some 280, config := 2 } }, 0, ask, boss, 7, [1], 280, acts_of
    (by decide +kernel), by decide +kernel⟩,
   ⟨{ withN up [(Obj.laneState, 287, 3)] with sad := { base := some 280, config := 2 } }, 7, [], sent true [(true, 0x833)],
    ⟨true, true, 0x833, 0x833, false⟩, by decide +kernel⟩,
   ⟨{ withN up [(Obj.laneState, 287, 3)] with sad := { base := some 280, config := 2 } }, 7, [], sent true [(true, 0x33)],
    ⟨true, true, 0x33, 0x33, false⟩, 280, by decide +kernel⟩,
   ⟨{ withN up [(Obj.laneState, 287, 3)] with sad := { base := some 280, config := 1 } }, 7, [], sent false [(true, 0x4B)],
    ⟨true, true, 0x4B, 0x4B, false⟩, by decide +kernel⟩,
   ⟨{ withN up [(Obj.laneState, 287, 3), (Obj.saddleState, 0, 3)] with sad := { base := some 280, config := 2 } }, 7, sent true
    [(true, 0x55)], ⟨true, true, 0x55, 0x55, false⟩, ({ withN up [(Obj.laneState, 287, 3), (Obj.saddleState, 0, 3)] with sad :=
    { base := some 280, config := 2 } }).peerLane 7, by decide +kernel⟩,
   ⟨{ withN up [(Obj.saddleState, 0, 3)] with sad := { base := some 280, config := 2 } }, 7, 280, by decide +kernel⟩,
   ⟨{ withN up [(Obj.saddleState, 0, 3), (Obj.saddleBringUp, 0, 1)] with sad := { base := some 280, config := 2 } }, 0, ask,
    boss, 7, [15], 15, acts_of (by decide +kernel), by decide +kernel⟩,
   ⟨{ withN up [(Obj.saddleState, 0, 4)] with sad := { base := some 280, config := 2 } }, 0, ask, boss, [1], 280, acts_of (by
    decide +kernel), by decide +kernel⟩,
   ⟨{ withN up [(Obj.saddleState, 0, 4)] with sad := { base := some 280, config := 2 } }, 7, by decide +kernel⟩,
   ⟨{ withN up [(Obj.saddleState, 0, 4), (Obj.saddleLaneOrder, 0, 0xFAC688)] with sad := { base := some 280, config := 2 } },
    [], [sent true [(true, 0x1078)]], [], 0x1078, [], false, by decide +kernel⟩,
   ⟨{ withN up [(Obj.saddleState, 0, 4), (Obj.saddleLaneOrder, 0, 0xFAC688), (Obj.twinPaired, 0, 1), (Obj.twinRole, 0, 2)] with
    sad := { base := some 280, config := 2 } }, [], [sent true [(true, 0x1478), (false, crc32 (up.wordBytes 0x1478))]], [],
    0x1478, [crc32 (up.wordBytes 0x1478)], by decide +kernel⟩,
   ⟨{ withN up [(Obj.saddleState, 0, 4), (Obj.saddleLaneOrder, 0, 0xFAC688)] with sad := { base := some 280, config := 2 } },
    [], [sent true [(true, 0x1078), (false, crc32 (up.wordBytes 0x1078))]], [], 0x1078, [crc32 (up.wordBytes 0x1078)], by
    decide +kernel⟩⟩

/-- The hypotheses of each clause of DrivesServe hold somewhere. -/
theorem witness_DrivesServe :
    (∃ (s : State) (d : ℕ), s.awake ∧ (s.drive d).present = true) ∧
    (∃ (s : State) (dt d : ℕ), s.awake ∧ s.n Obj.morDriveState d = 2 ∧ (s.drive d).held = true ∧ (s.drive d).triedAt + 100000000
      ≤ s.now + dt) ∧
    (∃ (s : State) (dt d : ℕ), s.awake ∧ s.n Obj.morDriveState d = 2 ∧ (s.drive d).held = false ∧ (s.drive d).triedAt +
      10000000000 ≤ s.now + dt) ∧
    (∃ (s : State) (d : ℕ), s.awake ∧ (s.drive d).present = false ∧ (s.drive d).held = false ∧ d < linkDrives (s.n
      Obj.morLinkMode 0)) ∧
    (∃ (s : State) (d : ℕ) (set : List ℕ), s.awake ∧ (s.drive d).present = false ∧ (s.drive d).held = false ∧ d < linkDrives
      (s.n Obj.morLinkMode 0) ∧ s.mor.poolId = none ∧ d ∈ set) ∧
    (∃ (s : State) (dt d : ℕ), s.awake ∧ (s.drive d).present = true ∧ (s.drive d).nvme = true ∧ (∀ a, (s.drive d).polledAt =
      some a → a + 60000000000 ≤ s.now + dt)) ∧
    (∃ (s : State) (d r : ℕ) (f : MFrame) (l : List (Option MFrame)), s.awake ∧ (s.drive d).present = true ∧ s.poolReady = true
      ∧ (s.recorder r).staged = some f :: l) ∧
    (∃ (s : State) (d : ℕ), s.awake ∧ (s.drive d).present = true ∧ s.poolReady = true) ∧
    (∃ (s : State) (d : ℕ), s.awake ∧ (s.drive d).present = true ∧ s.poolReady = true) :=
  ⟨⟨{ withN up [(Obj.morPoolState, 0, 1), (Obj.morDriveState, 3, 2), (Obj.morLinkMode, 0, 2)] with
    mor := { drives := [(3, { present := true, nvme := true })] } }, 3, by decide +kernel⟩,
   ⟨{ withN up [(Obj.morPoolState, 0, 1), (Obj.morDriveState, 3, 2), (Obj.morLinkMode, 0, 2)] with
    mor := { drives := [(3, { held := true })] } }, 100000000, 3, by decide +kernel⟩,
   ⟨{ withN up [(Obj.morPoolState, 0, 1), (Obj.morDriveState, 3, 2), (Obj.morLinkMode, 0, 2)] with
    mor := { drives := [(3, { held := false })] } }, 10000000000, 3, by decide +kernel⟩,
   ⟨{ withN up [(Obj.morPoolState, 0, 1), (Obj.morDriveState, 3, 2), (Obj.morLinkMode, 0, 2)] with
    mor := { drives := [(3, {  })] } }, 3, by decide +kernel⟩,
   ⟨{ withN up [(Obj.morPoolState, 0, 1), (Obj.morDriveState, 3, 2), (Obj.morLinkMode, 0, 2)] with
    mor := { drives := [(3, {  })] } }, 3, [3], by decide +kernel⟩,
   ⟨{ withN up [(Obj.morPoolState, 0, 1), (Obj.morDriveState, 3, 2), (Obj.morLinkMode, 0, 2)] with
    mor := { drives := [(3, { present := true, nvme := true })] } }, 0, 3, by decide +kernel⟩,
   ⟨{ withN up [(Obj.morPoolState, 0, 1), (Obj.morDriveState, 3, 2), (Obj.morLinkMode, 0, 2)] with
    mor := { drives := [(3, { present := true, nvme := true })], records := [(63, { staged := [some ⟨0, 0, 1, 0, [], .black, []⟩] })] }
    }, 3, 63, ⟨0, 0, 1, 0, [], .black, []⟩, [], by decide +kernel⟩,
   ⟨{ withN up [(Obj.morPoolState, 0, 1), (Obj.morDriveState, 3, 2), (Obj.morLinkMode, 0, 2)] with
    mor := { drives := [(3, { present := true, nvme := true })] } }, 3, by decide +kernel⟩,
   ⟨{ withN up [(Obj.morPoolState, 0, 1), (Obj.morDriveState, 3, 2), (Obj.morLinkMode, 0, 2)] with
    mor := { drives := [(3, { present := true, nvme := true })] } }, 3, by decide +kernel⟩⟩

/-- The hypotheses of each clause of StreamsPlay hold somewhere. -/
theorem witness_StreamsPlay :
    (∃ (s : State) (dt p slot f k n : ℕ) (q : MFrame), s.on ∧ s.b Obj.playEnable p = true ∧ s.poolReady = true ∧ slot = s.n
      Obj.playSlot p ∧ f = s.n Obj.srcReservedFormat slot ∧ f ≠ 0 ∧ k = gridIndex (fmtPeriod f) (s.tick dt).tc ∧ (s.src
      slot).generatorAt ≠ some k ∧ s.b Obj.playRun p = true ∧ (s.player p).start = none ∧ (s.player p).next = n ∧ (s.clip (s.n
      Obj.playClip p)).frames[n]? = some (some q) ∧ (s.player p).fetched.contains n = true) ∧
    (∃ (s : State) (dt l slot f j : ℕ) (q : MFrame), s.on ∧ s.b Obj.dlyEnable l = true ∧ s.poolReady = true ∧ slot = s.n
      Obj.dlySlot l ∧ f = s.n Obj.srcReservedFormat slot ∧ f ≠ 0 ∧ j = alignIndex f (s.n Obj.dstTimingOffset (s.n Obj.dlyDst l))
      (s.tick dt).tc ∧ (s.src slot).generatorAt ≠ some j ∧ s.n Obj.dlyFrames l ≤ j ∧ (s.line l).ring.find? (fun g => g.index ==
      j - s.n Obj.dlyFrames l) = some q ∧ (s.line l).fetched.contains (j - s.n Obj.dlyFrames l) = true) ∧
    (∃ (s : State) (dt : ℕ) (m : Msg) (x : Session) (value : List Byte), Acts s dt m x Obj.morFormat 0 value (.num 1)) ∧
    (∃ (s : State) (dt : ℕ) (m : Msg) (x : Session) (k : ℕ) (value : List Byte), Acts s dt m x Obj.clipDelete k value (.num 1))
      ∧
    (∃ (s : State) (m : Msg) (x : Session) (r : Row), Ready s m x (.read Obj.morJournalRead 0 0 0) ∧ dictRow Obj.morJournalRead
      0 = some r ∧ r.role ≤ x.role) :=
  ⟨⟨{ withN up [(Obj.morPoolState, 0, 1), (Obj.playEnable, 63, 1), (Obj.playRun, 63, 1), (Obj.playSlot, 63, 7), (Obj.playClip,
    63, 5), (Obj.srcReservedFormat, 7, 0x3600)] with
    mor := { clips := [(5, { frames := [some ⟨0, 0, 1, 0, [], .black, []⟩] })], plays := [(63, { fetched := [0] })] } }, 0, 63,
    7, 0x3600, 0, 0, ⟨0, 0, 1, 0, [], .black, []⟩, by decide +kernel⟩,
   ⟨{ withN up [(Obj.morPoolState, 0, 1), (Obj.dlyEnable, 63, 1), (Obj.dlySlot, 63, 7), (Obj.dlyDst, 63, 9), (Obj.dlyFrames, 63,
    1), (Obj.srcReservedFormat, 7, 0x3600)] with
    mor := { delays := [(63, { ring := [⟨0, 0, 1, 0, [], .black, []⟩], fetched := [0] })] } }, 20000000, 63, 7, 0x3600, 1, ⟨0,
    0, 1, 0, [], .black, []⟩, by decide +kernel⟩,
   ⟨up, 0, ask, boss, [1], acts_of (by decide +kernel)⟩,
   ⟨up, 0, ask, boss, 5, [1], acts_of (by decide +kernel)⟩,
   ⟨up, ask, boss, (dictRow Obj.morJournalRead 0).get (by decide +kernel), ready_of (by decide +kernel), by decide +kernel⟩⟩

/-- The hypotheses of each clause of ControlPorts hold somewhere. -/
theorem witness_ControlPorts :
    (∃ (s : State) (p : ℕ) (f : CtlFrame) (off : ℕ), s.awake ∧ s.ctlUp p = true ∧ bit (s.regN (cmac p 0)) 0 = true ∧ bit (s.regN
      (cmac p 0)) 1 = true ∧ s.ctlDrop p f = some off) ∧
    (∃ (s : State) (p : ℕ) (f : CtlFrame) (size : ℕ) (l : List (ℕ × List Byte)), s.awake ∧ s.ctlUp p = true ∧ bit (s.regN (cmac
      p 0)) 0 = true ∧ bit (s.regN (cmac p 0)) 1 = true ∧ s.ctlDrop p f = none ∧ size = max 1 (s.regN (cmac p 0x108)) ∧ s.rxPlan
      p size (f.payload.length + 1) (s.regN (cmac p 0x10C)) f.payload = some l) ∧
    (∃ (s : State) (p q : ℕ) (l : List ℕ), s.awake ∧ s.ctlUp p = true ∧ bit (s.regN (cmac p 0)) 0 = true ∧ bit (s.regN (cmac p
      0)) 2 = true ∧ [7, 6, 5, 4, 3, 2, 1, 0].find? (fun q => (s.txNext p q).isSome) = some q ∧ s.txNext p q = some l ∧
      (s.txBytes p q l).length ≤ 1518) ∧
    (∃ (s : State) (p speed : ℕ), s.awake ∧ s.il.ctlUp = true ∧ bit (s.regN (cmac p 0)) 0 = true ∧ s.ctlUp p = false ∧ 1 ≤ speed
      ∧ speed ≤ 3 ∧ speed = s.ctlSought p) ∧
    (∃ (s : State) (p : ℕ), s.awake ∧ s.ctlUp p = true) ∧
    (∃ (s : State) (dt p : ℕ), s.awake ∧ bit (s.regN (cmac p 0)) 0 = true ∧ s.ctlUp p = false ∧ s.speedMode p = 0 ∧ (s.ctlPort
      p).step = none ∧ (s.ctlPort p).tryAt + 500000000 ≤ s.now + dt) ∧
    (∃ (s : State) (p : ℕ), s.awake ∧ bit (s.regN (cmac p 0)) 0 = true) ∧
    (∃ (s : State) (dt p left sought a : ℕ), s.awake ∧ s.ctlUp p = false ∧ (s.ctlPort p).step = some (left, sought, a) ∧ sought
      ≠ left ∧ a + 1000000000 ≤ s.now + dt) ∧
    (∃ (s : State) (p waited : ℕ), s.awake ∧ s.ctlStepping p = true ∧ s.ctlSpeed p ≠ 1 ∧ 10000 < waited) ∧
    (∃ (s : State) (p : ℕ), s.awake ∧ p < 2) :=
  ⟨⟨withR up [(cmac 1 0, 3), (cmac 1 4, 1)], 1, ⟨true, true, [], 0x800, List.replicate 6 0xFF, [], 64, 64⟩, 0x204, by
    decide +kernel⟩,
   ⟨{ up with mem := [(0x1000000F, 0x80)], regs := [(cmac 1 0, 3), (cmac 1 4, 1), (cmac 1 0x40, 5), (cmac 1 0x44, 0x80000000),
    (cmac 1 0x100, 0x10000000)] }, 1, ⟨false, true, [], 0x800, [0, 0, 0, 0, 0, 5], [], 64, 64⟩, 8, [(0, [])], by
    decide +kernel⟩,
   ⟨{ withR up [(cmac 1 0, 5), (cmac 1 4, 1), (cmac 1 0x1F0, 0x10000000)] with mem := [(0x1000000B, 0xA0)] }, 1, 7, [0], by
    decide +kernel⟩,
   ⟨withR up [(cmac 1 0, 1), (cmac 1 4, 0)], 1, 1, by decide +kernel⟩,
   ⟨withR up [(cmac 1 0, 1), (cmac 1 4, 1)], 1, by decide +kernel⟩,
   ⟨withR up [(cmac 1 0, 1), (cmac 1 4, 0)], 500000000, 1, by decide +kernel⟩,
   ⟨withR up [(cmac 1 0, 1), (cmac 1 4, 0)], 1, by decide +kernel⟩,
   ⟨{ withR up [(cmac 1 0, 1), (cmac 1 4, 0)] with ctl := [(1, { step := some (1, 2, 0) })] }, 1000000000, 1, 1, 2, 0, by
    decide +kernel⟩,
   ⟨withR up [(cmac 1 0, 65), (cmac 1 4, 5)], 1, 10001, by decide +kernel⟩,
   ⟨up, 1, by decide +kernel⟩⟩

/-- The hypotheses of each clause of ColServes hold somewhere. -/
theorem witness_ColServes :
    (∃ (s : State) (target : ℕ) (r : ColReq) (a n : ℕ), s.awake ∧ r.master < 6 ∧ r.data ≠ [] ∧ a = s.busAddr r.master r.addr ∧ n
      = colPiece a r.data.length ∧ colCheck r.master a n r.write (colTrust r) = .inl target ∧ r.targetError = false ∧ target ∈
      [0, 1, 3]) ∧
    (∃ (s : State) (target : ℕ) (r x : ColReq) (a wake : ℕ), s.awake ∧ r.master < 6 ∧ r.data ≠ [] ∧ x.master < 6 ∧ x.data ≠ [] ∧
      a = s.busAddr r.master r.addr ∧ wake = (if bit (s.regN 0x40020004) target then 0 else 2) ∧ colCheck r.master a (colPiece a
      r.data.length) r.write (colTrust r) = .inl target ∧ r.targetError = false ∧ (colTarget (s.busAddr x.master x.addr)).getD 7
      = target ∧ target ∈ [0, 1, 3] ∧ (s.colQos x wake < s.colQos r wake ∨ s.colQos x wake = s.colQos r wake ∧ robin (look
      s.colLast target 5) r.master < robin (look s.colLast target 5) x.master)) ∧
    (∃ (s : State) (target : ℕ) (r : ColReq) (a reason tg : ℕ), s.awake ∧ r.master < 6 ∧ r.master ≠ 1 ∧ (r.master = 0 →
      r.trusted = true) ∧ r.data ≠ [] ∧ a = s.busAddr r.master r.addr ∧ (colTarget a).getD 7 = target ∧ colCheck r.master a
      (colPiece a r.data.length) r.write (colTrust r) = .inr (reason, tg)) ∧
    (∃ (s : State) (target : ℕ), s.awake ∧ target < 6) ∧
    (∃ (s : State), s.awake) ∧
    (∃ (s : State), s.awake) ∧
    (∃ (s : State) (line : ℕ), s.gated ∧ s.lineUp line = true) ∧
    (∃ (s : State) (addr : ℕ), s.awake ∧ colTarget addr = some 1) ∧
    (∃ (s : State) (dt addr : ℕ), s.gated ∧ s.faultStays dt ∧ colTarget addr ≠ some 1) ∧
    (∃ (s : State) (addr : ℕ), s.awake ∧ 0x10000000 ≤ addr ∧ addr + 4 ≤ 0x10800000) ∧
    (∃ (s : State) (k : ℕ), s.awake ∧ k < 4) ∧
    (∃ (s : State) (addr : ℕ), s.awake ∧ 0x40070000 ≤ addr ∧ addr + 4 ≤ 0x40080000) ∧
    (∃ (s : State), s.awake) :=
  ⟨⟨up, 1, ⟨2, false, true, 0x10000000, [1], 0, false⟩, 0x10000000, 1, by decide +kernel⟩,
   ⟨up, 1, ⟨2, false, true, 0x10000000, [1], 0, false⟩, ⟨3, false, true, 0x10000000, [1], 0, false⟩, 0x10000000, 2, by
    decide +kernel⟩,
   ⟨up, 7, ⟨2, false, true, 0, [1], 0, false⟩, 0, 0, 7, by decide +kernel⟩,
   ⟨up, 5, by decide +kernel⟩,
   ⟨up, by decide +kernel⟩,
   ⟨up, by decide +kernel⟩,
   ⟨{ up with gate := { ring := [[]] } }, 7, by decide +kernel⟩,
   ⟨up, 0x10000000, by decide +kernel⟩,
   ⟨up, 0, 0x08000000, by decide +kernel, by unfold State.faultStays; decide +kernel, by decide +kernel⟩,
   ⟨up, 0x107FFFFC, by decide +kernel⟩,
   ⟨up, 3, by decide +kernel⟩,
   ⟨up, 0x40070000, by decide +kernel⟩,
   ⟨up, by decide +kernel⟩⟩

/-- The hypotheses of each clause of ScreeRuns hold somewhere. -/
theorem witness_ScreeRuns :
    (∃ (s : State) (channel : ℕ), s.awake ∧ channel < 16) ∧
    (∃ (s : State) (dt n : ℕ) (w : List ℕ), s.awake ∧ bit (s.regN (scrRg 0)) 0 = true ∧ s.scrHalted = false ∧ s.scr.run = none ∧
      (List.range 16).find? (s.tick dt).scrReady = some n ∧ s.descIn n ∧ w = (chunksOf 4 16 (s.memBytes (s.scrDesc n) 64)).map
      fromLe) ∧
    (∃ (s : State), s.awake ∧ s.scr.run = none) ∧
    (∃ (s : State) (p : ℕ) (r : ScrRun), s.awake ∧ s.boot.stage ≠ .rom ∧ 1 ≤ p ∧ p ≤ 16 ∧ s.periphRequest p = false ∧ s.scr.run
      = some r ∧ dPeriph r.words = p ∧ r.counted = false ∧ r.waitSince = none) ∧
    (∃ (s : State) (r : ScrRun), s.awake ∧ s.scr.run = some r ∧ r.waitSince = none ∧ r.counted = true ∧ r.channel < 16 ∧
      s.descIn r.channel) ∧
    (∃ (s : State) (r : ScrRun), s.awake ∧ s.scr.run = some r ∧ r.waitSince = none ∧ r.counted = true ∧ r.channel < 16 ∧
      s.descIn r.channel ∧ dIndex r.words = 0 ∧ dDstFixed r.words = false ∧ 0x10000000 ≤ dAddr r.words 2 ∧ dAddr r.words 2 +
      dLen r.words ≤ 0x10800000) ∧
    (∃ (s : State) (dt : ℕ) (r : ScrRun) (code : ℕ), s.awake ∧ s.scrHalted = false ∧ s.scr.run = some r ∧ r.channel < 16 ∧
      s.descIn r.channel ∧ (code = 2 ∨ (code = 1 ∨ code = 3) ∧ ((s.tick dt).scrBursts (dTotal r.words) 1).scr.run ≠ none)) ∧
    (∃ (s : State) (dt n : ℕ), s.awake ∧ s.scrHalted = false ∧ s.scr.run = none ∧ bit (s.regN (scrRg 0)) 0 = true ∧ (List.range
      16).find? (s.tick dt).scrReady = some n) ∧
    (∃ (s : State) (dt : ℕ) (r : ScrRun) (a : ℕ), s.awake ∧ s.scr.run = some r ∧ r.waitSince = some a ∧ r.channel < 16 ∧
      s.descIn r.channel ∧ a + s.regField (scrRg 0x18) 0 15 * 1000 ≤ s.now + dt) ∧
    (∃ (s : State) (n : ℕ), s.awake ∧ n < 16 ∧ s.scr.run = none) ∧
    (∃ (s : State) (r : ScrRun) (bursts : ℕ), s.awake ∧ s.scr.run = some r ∧ r.channel < 16 ∧ s.descIn r.channel ∧ (r.counted =
      true ∨ bursts = 0)) ∧
    (∃ (s : State) (n : ℕ), s.awake ∧ s.scrHalted = true ∧ n = s.regField (scrRg 4) 8 11) ∧
    (∃ (s : State) (n : ℕ), s.awake ∧ n < 16 ∧ s.scr.run = none) :=
  ⟨⟨up, 15, by decide +kernel⟩,
   ⟨withR up [(scrRg 0, 1), (scrCh 15 0, 0x10001000), (scrCh 15 0x10, 1), (scrCh 15 0x14, 1)], 0, 15, List.replicate 16 0, by
    decide +kernel⟩,
   ⟨up, by decide +kernel⟩,
   ⟨{ withR up [(scrRg 0, 1), (scrCh 15 0, 0x10001000), (scrCh 15 0x10, 1), (scrCh 15 0x14, 1)] with scr := { run := some ⟨15,
    [0x10000000, 0, 0x100001F8, 0, 4, 0, 0, 0, 1024], 0, none⟩ } }, 16, ⟨15, [0x10000000, 0, 0x100001F8, 0, 4, 0, 0, 0, 1024],
    0, none⟩, by decide +kernel⟩,
   ⟨{ withR up [(scrRg 0, 1), (scrCh 15 0, 0x10001000), (scrCh 15 0x10, 1), (scrCh 15 0x14, 1)] with scr := { run := some ⟨15,
    [], 0, none⟩ } }, ⟨15, [], 0, none⟩, by decide +kernel⟩,
   ⟨{ withR up [(scrRg 0, 1), (scrCh 15 0, 0x10001000), (scrCh 15 0x10, 1), (scrCh 15 0x14, 1)] with scr := { run := some ⟨15,
    [0x10000000, 0, 0x100001F8, 0, 8, 0, 0, 0, 0], 8, none⟩ } }, ⟨15, [0x10000000, 0, 0x100001F8, 0, 8, 0, 0, 0, 0], 8, none⟩,
    by decide +kernel⟩,
   ⟨{ withR up [(scrRg 0, 1), (scrCh 15 0, 0x10001000), (scrCh 15 0x10, 1), (scrCh 15 0x14, 1)] with scr := { run := some ⟨15,
    [], 0, none⟩ } }, 0, ⟨15, [], 0, none⟩, 2, by decide +kernel⟩,
   ⟨withR up [(scrRg 0, 1), (scrCh 15 0, 0x10001000), (scrCh 15 0x10, 1), (scrCh 15 0x14, 1)], 0, 15, by decide +kernel⟩,
   ⟨{ withR up [(scrRg 0, 1), (scrCh 15 0, 0x10001000), (scrCh 15 0x10, 1), (scrCh 15 0x14, 1)] with scr := { run := some ⟨15,
    [], 0, some 0⟩ } }, 65535000, ⟨15, [], 0, some 0⟩, 0, by decide +kernel⟩,
   ⟨up, 15, by decide +kernel⟩,
   ⟨{ withR up [(scrRg 0, 1), (scrCh 15 0, 0x10001000), (scrCh 15 0x10, 1), (scrCh 15 0x14, 1)] with scr := { run := some ⟨15,
    [], 0, none⟩ } }, ⟨15, [], 0, none⟩, 0, by decide +kernel⟩,
   ⟨withR up [(scrRg 4, 2)], 0, by decide +kernel⟩,
   ⟨up, 15, by decide +kernel⟩⟩

/-- The hypotheses of each clause of SwapsBytes hold somewhere. -/
theorem witness_SwapsBytes :
    (∃ (s : State) (r : ScrRun) (w : List ℕ) (src dst n : ℕ), s.awake ∧ s.scr.run = some r ∧ w = r.words ∧ r.moved = 0 ∧
      r.waitSince = none ∧ r.channel < 16 ∧ s.descIn r.channel ∧ dIndex w = 0 ∧ dSrcFixed w = false ∧ dDstFixed w = false ∧ n =
      dLen w ∧ 0 < n ∧ src = dAddr w 0 ∧ dst = dAddr w 2 ∧ 0x10000000 ≤ src ∧ src + n ≤ 0x10800000 ∧ 0x10000000 ≤ dst ∧ dst + n
      ≤ 0x10800000 ∧ src % 512 + n ≤ 512 ∧ dst % 512 + n ≤ 512 ∧ (dst + n ≤ s.scrDesc r.channel + 36 ∨ s.scrDesc r.channel + 44
      ≤ dst) ∧ (dSwap w = 1 → n % 2 = 0) ∧ (2 ≤ dSwap w → n % 4 = 0) ∧ dPeriph w = 0) ∧
    (∃ (s : State) (dt n : ℕ) (w : List ℕ), s.awake ∧ bit (s.regN (scrRg 0)) 0 = true ∧ s.scrHalted = false ∧ s.scr.run = none ∧
      (List.range 16).find? (s.tick dt).scrReady = some n ∧ s.descIn n ∧ w = (chunksOf 4 16 (s.memBytes (s.scrDesc n) 64)).map
      fromLe ∧ (dSwap w = 1 ∧ dElem w % 2 ≠ 0 ∨ 2 ≤ dSwap w ∧ dElem w % 4 ≠ 0)) :=
  ⟨⟨{ withR up [(scrRg 0, 1), (scrCh 15 0, 0x10001000), (scrCh 15 0x10, 1), (scrCh 15 0x14, 1)] with scr := { run := some ⟨15,
    [0x10000000, 0, 0x100001F8, 0, 8, 0, 0, 0, 3], 0, none⟩ } }, ⟨15, [0x10000000, 0, 0x100001F8, 0, 8, 0, 0, 0, 3], 0, none⟩,
    [0x10000000, 0, 0x100001F8, 0, 8, 0, 0, 0, 3], 0x10000000, 0x100001F8, 8, by decide +kernel⟩,
   ⟨{ withR up [(scrRg 0, 1), (scrCh 15 0, 0x10001000), (scrCh 15 0x10, 1), (scrCh 15 0x14, 1)] with mem := [(0x10001010, 2),
    (0x10001020, 2)] }, 0, 15, [0, 0, 0, 0, 2, 0, 0, 0, 2, 0, 0, 0, 0, 0, 0, 0], by decide +kernel⟩⟩

/-- The hypotheses of each clause of MemoryAndEvents hold somewhere. -/
theorem witness_MemoryAndEvents :
    (∃ (s : State) (memory : ℕ), s.awake ∧ memory ≤ 6) ∧
    (∃ (s : State) (memory : ℕ), s.awake ∧ memory ≤ 6) ∧
    (∃ (s : State) (memory slot seq d : ℕ) (x : Shown), (s.awake ∧ memory ≤ 6 ∧ (s.dst d).shown = some x ∧ x.store = some (slot,
      seq)) ∧ (∀ e l, Objs.sink s.objs d = .layer e l → (s.engine e).writing ≠ slot)) ∧
    (∃ (s : State) (memory slot seq d : ℕ) (x : Shown), s.awake ∧ memory ≤ 6 ∧ (s.dst d).shown = some x ∧ x.store = some (slot,
      seq)) ∧
    (∃ (s : State) (memory : ℕ), s.awake ∧ memory ≤ 6) ∧
    (∃ (s : State) (memory : ℕ), s.awake ∧ memory ≤ 6) ∧
    (∃ (s : State) (memory engine : ℕ), s.awake ∧ memory ≤ 6 ∧ s.n Obj.cqFirnState engine = 1) ∧
    (∃ (s : State) (memory : ℕ), s.awake ∧ memory ≤ 6) ∧
    (∃ (s : State) (memory : ℕ), s.awake ∧ memory ≤ 6) ∧
    (∃ (s : State) (memory : ℕ), s.awake ∧ memory ≤ 6) ∧
    (∃ (s : State) (dt memory : ℕ), s.gated ∧ s.faultStays dt ∧ memory ≤ 6) ∧
    (∃ (s : State) (memory : ℕ) (r : ScrRun), s.awake ∧ memory ≤ 6 ∧ s.scr.run = some r ∧ r.channel < 16 ∧ s.descIn r.channel) ∧
    (∃ (s : State) (memory : ℕ), s.awake ∧ memory ≤ 6) ∧
    (∃ (s : State) (memory : ℕ), s.awake ∧ memory ≤ 6) ∧
    (∃ (s : State) (dt u : ℕ), s.awake ∧ s.monStateOf u = 1 ∧ s.n Obj.monPeriod u ≠ 0 ∧ (s.monUnit u).roll ≠ (s.tick
      dt).monIndex u) ∧
    (∃ (s : State) (r : EvRec) (l : List EvRec), s.awake ∧ s.ev.fifo = r :: l ∧ (s.ev.episode = false ∨ 512 < l.length)) ∧
    (∃ (s : State) (r : EvRec) (l : List EvRec), s.awake ∧ s.ev.fifo = r :: l ∧ s.ev.episode = true ∧ l.length ≤ 512) ∧
    (∃ (s : State) (n : ℕ), s.awake ∧ n < 2) ∧
    (∃ (s : State) (dt pin a : ℕ), s.awake ∧ pin < 2 ∧ (s.evPin pin).asserted = true ∧ s.regField Reg.evtPinctl pin pin = 1 ∧
      (s.evPin pin).pulseAt = some a ∧ a + 2000 ≤ s.now + dt) :=
  ⟨⟨up, 6, by decide +kernel⟩,
   ⟨up, 6, by decide +kernel⟩,
   ⟨{ up with ridge := { dst := [(9, { shown := some onAir })] } }, 6, 7, 4, 9, onAir, by decide +kernel, fun e l h => absurd
    ((show Objs.sink up.objs 9 = .none by decide +kernel).symm.trans h) (by simp)⟩,
   ⟨{ up with ridge := { dst := [(9, { shown := some onAir })] } }, 6, 7, 4, 9, onAir, by decide +kernel⟩,
   ⟨{ up with ridge := { src := [(7, { frames := [still] })], dst := [(9, { shown := some onAir })] } }, 6, by decide +kernel⟩,
   ⟨up, 6, by decide +kernel⟩,
   ⟨withN up [(Obj.cqFirnState, 31, 1)], 6, 31, by decide +kernel⟩,
   ⟨up, 6, by decide +kernel⟩,
   ⟨up, 6, by decide +kernel⟩,
   ⟨up, 6, by decide +kernel⟩,
   ⟨up, 0, 6, by decide +kernel, by unfold State.faultStays; decide +kernel, by decide +kernel⟩,
   ⟨{ withR up [(scrRg 0, 1), (scrCh 15 0, 0x10001000), (scrCh 15 0x10, 1), (scrCh 15 0x14, 1)] with scr := { run := some ⟨15,
    [], 0, none⟩ } }, 6, ⟨15, [], 0, none⟩, by decide +kernel⟩,
   ⟨up, 6, by decide +kernel⟩,
   ⟨up, 6, by decide +kernel⟩,
   ⟨withN up [(Obj.monKind, 31, 7), (Obj.monSubject, 31, 5), (Obj.monPeriod, 31, 1)], 1000000000, 31, by decide +kernel⟩,
   ⟨{ up with ev := { fifo := [⟨5, 0, 0⟩] } }, ⟨5, 0, 0⟩, [], by decide +kernel⟩,
   ⟨{ up with ev := { fifo := [⟨5, 0, 0⟩], episode := true } }, ⟨5, 0, 0⟩, [], by decide +kernel⟩,
   ⟨up, 1, by decide +kernel⟩,
   ⟨{ withR up [(Reg.evtPinctl, 2)] with ev := { pin1 := { asserted := true, pulseAt := some 0 } } }, 2000, 1, 0, by
    decide +kernel⟩⟩

/-- The hypotheses of each clause of SoftwareRaises hold somewhere. -/
theorem witness_SoftwareRaises :
    (∃ (s : State), s.awake) ∧
    (∃ (s : State), s.awake) ∧
    (∃ (s : State), s.awake) :=
  ⟨⟨up, by decide +kernel⟩,
   ⟨up, by decide +kernel⟩,
   ⟨up, by decide +kernel⟩⟩

/-- The hypotheses of each clause of AlarmsOnce hold somewhere. -/
theorem witness_AlarmsOnce :
    (∃ (s : State) (u : ℕ) (value v : ℤ), s.awake ∧ s.monStateOf u = 1 ∧ s.monValue u value = some v) ∧
    (∃ (s : State) (dt u : ℕ), s.awake ∧ s.monStateOf u = 1 ∧ s.n Obj.monPeriod u ≠ 0 ∧ (s.monUnit u).roll ≠ (s.tick
      dt).monIndex u) ∧
    (∃ (s : State) (u : ℕ), s.awake ∧ s.n Obj.monPeriod u = 0) ∧
    (∃ (s : State) (dt : ℕ) (m : Msg) (x : Session) (sub : ℕ) (value : List Byte), Acts s dt m x Obj.monClear sub value (.num
      1)) ∧
    (∃ (s : State) (dt : ℕ) (m : Msg) (x : Session) (index sub : ℕ) (value : List Byte) (v : Val), (Obj.monKind ≤ index ∧ index
      < Obj.monPeriod) ∧ Acts s dt m x index sub value v) :=
  ⟨⟨withN up [(Obj.monKind, 31, 7), (Obj.monSubject, 31, 5), (Obj.monPeriod, 31, 0)], 31, 5, 5, by decide +kernel⟩,
   ⟨withN up [(Obj.monKind, 31, 7), (Obj.monSubject, 31, 5), (Obj.monPeriod, 31, 1)], 1000000000, 31, by decide +kernel⟩,
   ⟨up, 31, by decide +kernel⟩,
   ⟨up, 0, ask, boss, 31, [1], acts_of (by decide +kernel)⟩,
   ⟨up, 0, ask, boss, Obj.monKind, 31, [0, 7], .num 7, by decide +kernel, acts_of (by decide +kernel)⟩⟩

/-- The hypotheses of each clause of TimersAndFlash hold somewhere. -/
theorem witness_TimersAndFlash :
    (∃ (s : State) (dt k at_ load : ℕ), s.awake ∧ k < 4 ∧ s.gate.timerStart.lookup k = some (at_, load) ∧ load ≤ (s.tick
      dt).timerTicks k) ∧
    (∃ (s : State), s.awake) ∧
    (∃ (s : State) (dt : ℕ), s.awake ∧ bit (s.regN 0x40060058) 0 = true ∧ (s.tick dt).alarmDue = true) ∧
    (∃ (s : State), s.awake) ∧
    (∃ (s : State), s.awake) ∧
    (∃ (s : State) (addr len : ℕ), s.awake ∧ s.osf = none ∧ addr = s.regField 0x40080004 0 25 ∧ len = s.regField 0x40080008 0 8)
      ∧
    (∃ (s : State) (j : OsfJob), s.awake ∧ s.osf = some j) :=
  ⟨⟨{ up with gate := { timerStart := [(3, (0, 297))] } }, 1000, 3, 0, 297, by decide +kernel⟩,
   ⟨up, by decide +kernel⟩,
   ⟨withR up [(0x40060058, 1)], 0, by decide +kernel⟩,
   ⟨up, by decide +kernel⟩,
   ⟨up, by decide +kernel⟩,
   ⟨withR up [(0x40080004, 0x3FFFFFF), (0x40080008, 256)], 0x3FFFFFF, 256, by decide +kernel⟩,
   ⟨{ up with osf := some ⟨2, 0, 256⟩ }, ⟨2, 0, 256⟩, by decide +kernel⟩⟩

/-- The hypotheses of each clause of GateAnswers hold somewhere. -/
theorem witness_GateAnswers :
    (∃ (s : State), s.gated) ∧
    (∃ (s : State) (session : ℕ) (x : Session), s.gated ∧ s.session session = some x) ∧
    (∃ (s : State) (buf : Buf), s.gated ∧ bufOk buf = true) ∧
    (∃ (s : State) (dt : ℕ) (m : Msg) (handle : ℕ) (buf : Buf) (c : Challenge) (key : List Byte), s.gated ∧ bufOk buf = true ∧
      (s.tick dt).challengeOf m handle = some c ∧ s.keyFor c.role = some key) ∧
    (∃ (s : State) (m : Msg) (buf : Buf) (x : Session), s.gated ∧ bufOk buf = true ∧ s.session m.session = some x) ∧
    (∃ (s : State) (session : ℕ) (buf : Buf) (x : Session), s.gated ∧ bufOk buf = true ∧ s.session session = some x) ∧
    (∃ (s : State) (session : ℕ) (x : Session), s.gated ∧ s.session session = some x) ∧
    (∃ (s : State) (session : ℕ) (buf : Buf) (x : Session) (k : ℕ), s.gated ∧ bufOk buf = true ∧ s.session session = some x ∧ 1
      ≤ x.role ∧ s.standby = false ∧ s.openChoice = some k) ∧
    (∃ (s : State) (dt index sub : ℕ) (buf : Buf) (b : List Byte) (v : State), (s.gated ∧ bufOk buf = true ∧ datapathObject
      index = true) ∧ (s.tick dt).readItem none 3 index sub = .inr (b, v)) ∧
    (∃ (s : State) (ticket : ℕ) (x : Ticket), s.gated ∧ (s.gate.tickets.find? fun x => x.number == ticket && x.done) = some x) ∧
    (∃ (s : State) (buf : Buf), s.gated ∧ bufOk buf = false) :=
  ⟨⟨up, by decide +kernel⟩,
   ⟨up, 0, boss, by decide +kernel⟩,
   ⟨up, ⟨0x107FFFC0, 64⟩, by decide +kernel⟩,
   ⟨{ up with il := { up.il with sessions := [], challenges := [dare] } }, 0, ask, 1, ⟨0x107FFFC0, 64⟩, dare, List.replicate 32
    7, by decide +kernel⟩,
   ⟨up, ask, ⟨0x107FFFC0, 64⟩, boss, by decide +kernel⟩,
   ⟨up, 0, ⟨0x107FFFC0, 64⟩, boss, by decide +kernel⟩,
   ⟨up, 0, boss, by decide +kernel⟩,
   ⟨up, 0, ⟨0x107FFFC0, 64⟩, boss, 0, by decide +kernel⟩,
   ⟨up, 0, 0x1400, 0, ⟨0x107FFFC0, 64⟩, [0, 6], up.tick 0, by decide +kernel, rfl⟩,
   ⟨{ up with gate := { tickets := [⟨1, ⟨0x107FFFC0, 64⟩, true, 0, []⟩] } }, 1, ⟨1, ⟨0x107FFFC0, 64⟩, true, 0, []⟩, by
    decide +kernel⟩,
   ⟨up, ⟨0x107FFFC1, 64⟩, by decide +kernel⟩⟩

/-- The hypotheses of each clause of GateWrites hold somewhere. -/
theorem witness_GateWrites :
    (∃ (s : State) (dt session role : ℕ) (key : List Byte) (buf : Buf) (x : Session) (v : Val), s.gated ∧ bufOk buf = true ∧
      s.session session = some x ∧ x.role = 3 ∧ role < 65536 ∧ (s.tick dt).dictCheck 3 (adr Obj.roleKey role) key = .inr v ∧
      (s.tick dt).standCheck (adr Obj.roleKey role) v = none) ∧
    (∃ (s : State) (dt session : ℕ) (lock : Bool) (x : Session), s.gated ∧ s.session session = some x ∧ x.role = 3 ∧ (s.tick
      dt).dictCheck 3 (adr Obj.ownerLock 0) (beBytes 1 (b2n lock)) = .inr (.num (b2n lock)) ∧ (s.tick dt).standCheck (adr
      Obj.ownerLock 0) (.num (b2n lock)) = none) ∧
    (∃ (s : State) (dt session : ℕ) (hash : List Byte) (buf : Buf) (x : Session) (v : Val) (k : ℕ), s.gated ∧ bufOk buf = true ∧
      s.session session = some x ∧ x.role = 3 ∧ (s.tick dt).dictCheck 3 (adr Obj.ownerKeyProgram 0) hash = .inr v ∧ (s.tick
      dt).standCheck (adr Obj.ownerKeyProgram 0) v = none ∧ s.emptySlot = some k) ∧
    (∃ (s : State) (dt session slot : ℕ) (x : Session), s.gated ∧ s.session session = some x ∧ x.role = 3 ∧ slot ≤ 255 ∧ (s.tick
      dt).dictCheck 3 (adr Obj.ownerKeyRevoke 0) (beBytes 1 slot) = .inr (.num slot) ∧ (s.tick dt).standCheck (adr
      Obj.ownerKeyRevoke 0) (.num slot) = none) ∧
    (∃ (s : State) (dt session kind : ℕ) (buf : Buf) (x : Session), s.gated ∧ bufOk buf = true ∧ s.session session = some x ∧
      (s.tick dt).dictCheck x.role (adr Obj.updateBegin 0) (beBytes 2 kind) = .inr (.num kind) ∧ (s.tick dt).standCheck (adr
      Obj.updateBegin 0) (.num kind) = none ∧ s.updateChecks 0 = none) ∧
    (∃ (s : State) (dt session : ℕ) (buf : Buf) (x : Session), s.gated ∧ bufOk buf = true ∧ s.session session = some x ∧ (s.tick
      dt).dictCheck x.role (adr Obj.updateAbort 0) [1] = .inr (.num 1) ∧ (s.tick dt).standCheck (adr Obj.updateAbort 0) (.num 1)
      = none) ∧
    (∃ (s : State) (dt : ℕ) (buf : Buf) (kind slot e : ℕ), s.gated ∧ bufOk buf = true ∧ s.up.ctl.trial = some (kind, slot) ∧
      s.up.windowEnds = some e ∧ s.now + dt ≤ e) ∧
    (∃ (s : State) (dt : ℕ) (buf : Buf) (kind slot e : ℕ), s.gated ∧ bufOk buf = true ∧ s.up.ctl.trial = some (kind, slot) ∧
      s.up.windowEnds = some e ∧ s.now + dt ≤ e ∧ s.boot.started = true ∧ s.n Obj.healthState 0 ≠ 2 ∧ s.st.loaded.isSome = true
      ∧ (∃ p ∈ s.il.sessions, p.2.openNow + 10000000000 ≤ s.now + dt)) ∧
    (∃ (s : State) (dt : ℕ) (buf : Buf), s.gated ∧ bufOk buf = true ∧ (s.boot.started = false ∨ s.n Obj.healthState 0 = 2 ∨
      s.st.loaded = none ∨ ∀ p ∈ s.il.sessions, s.now + dt < p.2.openNow + 10000000000)) ∧
    (∃ (s : State) (buf : Buf) (b : List Byte), s.gated ∧ bufOk buf = true ∧ b = s.st.loaded.elim [] StoreSlot.bytes) ∧
    (∃ (s : State) (buf : Buf), s.gated ∧ bufOk buf = true ∧ s.b Obj.ownerLock 0 = false) ∧
    (∃ (s : State) (buf : Buf), s.gated ∧ bufOk buf = true) ∧
    (∃ (s : State) (buf : Buf) (b : List Byte), s.gated ∧ bufOk buf = true ∧ b = s.tw.blocks.headD []) ∧
    (∃ (s : State) (op : CryptoOp) (key : List Byte) (input output : Buf) (b : List Byte), (s.gated ∧ bufOk input = true ∧ bufOk
      output = true) ∧ (op = .sha256 ∧ b = Config.sha256 (s.memBytes input.addr input.len) ∨ op = .sha384 ∧ b = Config.sha384
      (s.memBytes input.addr input.len) ∨ op = .hmacSha256 ∧ b = Config.hmac key (s.memBytes input.addr input.len))) :=
  ⟨⟨up, 0, 0, 2, List.replicate 32 9, ⟨0x107FFFC0, 64⟩, boss, .bytes (List.replicate 32 9), by decide +kernel⟩,
   ⟨up, 0, 0, true, boss, by decide +kernel⟩,
   ⟨up, 0, 0, List.replicate 48 9, ⟨0x107FFFC0, 64⟩, boss, .bytes (List.replicate 48 9), 0, by decide +kernel⟩,
   ⟨{ up with up := { ownerStates := [(2, 1), (3, 1)] } }, 0, 0, 3, boss, by decide +kernel⟩,
   ⟨strong up, 0, 0, 2, ⟨0x107FFFC0, 64⟩, boss, by decide +kernel⟩,
   ⟨up, 0, 0, ⟨0x107FFFC0, 64⟩, boss, by decide +kernel⟩,
   ⟨{ up with up := { ctl := { trial := some (1, 1) }, windowEnds := some 0 } }, 0, ⟨0x107FFFC0, 64⟩, 1, 1, 0, by
    decide +kernel⟩,
   ⟨tried, 0, ⟨0x107FFFC0, 64⟩, 1, 1, 10000000000, by decide +kernel⟩,
   ⟨up, 0, ⟨0x107FFFC0, 64⟩, by decide +kernel⟩,
   ⟨up, ⟨0x107FFFC0, 64⟩, [], by decide +kernel⟩,
   ⟨up, ⟨0x107FFFC0, 64⟩, by decide +kernel⟩,
   ⟨up, ⟨0x107FFFC0, 64⟩, by decide +kernel⟩,
   ⟨{ up with tw := { blocks := [[5]] } }, ⟨0x107FFFC0, 64⟩, [5], by decide +kernel⟩,
   ⟨up, .sha256, [], ⟨0x107FFFC0, 64⟩, ⟨0x107FFFC0, 64⟩, Config.sha256 (up.memBytes 0x107FFFC0 64), by decide +kernel, .inl
    ⟨rfl, rfl⟩⟩⟩

/-- The hypotheses of each clause of PowerResets hold somewhere. -/
theorem witness_PowerResets :
    (∃ (width : ℕ), 10000 ≤ width) ∧
    (∃ (width : ℕ), width < 1000) ∧
    (∃ (s : State), s.boot.stage = .reset) ∧
    (∃ (s : State), s.boot.stage ≠ .reset) ∧
    (∃ (s : State) (temp : ℤ), s.boot.held = true ∧ temp ≤ 950) ∧
    (∃ (s : State) (temp : ℤ), (s.boot.held = false ∨ 950 < temp)) ∧
    (∃ (s : State), s.awake ∧ s.boot.softWait = true ∧ s.anyPending = false) ∧
    (∃ (s : State) (dt : ℕ), s.awake ∧ s.boot.wdtRunning = true ∧ s.boot.wdtAt + 100000000 ≤ s.now + dt) :=
  ⟨⟨10000, by decide +kernel⟩,
   ⟨999, by decide +kernel⟩,
   ⟨State.reset, by decide +kernel⟩,
   ⟨up, by decide +kernel⟩,
   ⟨{ up with boot := { up.boot with held := true } }, 950, by decide +kernel⟩,
   ⟨up, 951, by decide +kernel⟩,
   ⟨{ up with boot := { up.boot with softWait := true } }, by decide +kernel⟩,
   ⟨{ up with boot := { up.boot with wdtRunning := true } }, 100000000, by decide +kernel⟩⟩

/-- The hypotheses of each clause of BootStages hold somewhere. -/
theorem witness_BootStages :
    (∃ (s : State), s.awake ∧ s.boot.stage = .rom ∧ s.boot.soft = false ∧ s.up.ctl.trial = none ∧ s.up.ctl.notConfirmed = false)
      ∧
    (∃ (s : State) (k : ℕ), s.awake ∧ s.boot.stage = .bedrock ∧ s.boot.soft = false ∧ s.up.ctl.trial = none ∧ k =
      s.up.ctl.uplandActive) ∧
    (∃ (s : State), s.awake ∧ s.boot.stage = .uplandLoad) ∧
    (∃ (s : State), s.awake ∧ s.boot.avsRunning = true ∧ s.boot.stage ≠ .rom) ∧
    (∃ (s : State) (dt v : ℕ), s.awake ∧ s.boot.avsRunning = true ∧ s.boot.stage ≠ .rom ∧ s.boot.avsMicrovolts ≠
      s.boot.avsTarget ∧ s.boot.avsStepAt + 1000000 ≤ s.now + dt ∧ v = (if s.boot.avsTarget < s.boot.avsMicrovolts then max
      s.boot.avsTarget (s.boot.avsMicrovolts - 5000) else min s.boot.avsTarget (s.boot.avsMicrovolts + 5000))) ∧
    (∃ (s : State), s.awake) ∧
    (∃ (s : State) (dt cause : ℕ), s.gated ∧ s.faultStays dt ∧ 1 ≤ cause ∧ cause ≤ 6) ∧
    (∃ (s : State) (dt cause : ℕ), s.gated ∧ s.up.ctl.trial = none ∧ 1 ≤ cause ∧ cause ≤ 6 ∧ 2 ≤ (s.boot.uplandRestarts.filter
      fun a => s.now + dt < a + 600000000000).length) ∧
    (∃ (s : State) (dt a : ℕ), s.gated ∧ s.boot.heartbeatLate = false ∧ s.boot.heartbeatAt = some a ∧ a + 500000000 ≤ s.now +
      dt) ∧
    (∃ (s : State) (dt : ℕ), s.gated ∧ s.faultStays dt ∧ (∃ a, s.boot.heartbeatAt = some a ∧ a + 1000000000 ≤ s.now + dt ∨
      s.boot.heartbeatAt = none ∧ s.boot.uplandAt + 3000000000 ≤ s.now + dt)) ∧
    (∃ (s : State) (dt : ℕ), s.gated ∧ s.st.save = none ∧ (∀ a, s.st.lastStart = some a → a + 1000000000 ≤ s.now + dt) ∧
      (s.storeDirtyNow = true ∨ s.st.replies ≠ [] ∨ s.st.gateTickets ≠ [])) ∧
    (∃ (s : State) (x : Save), s.awake ∧ s.noneHeld ∧ s.st.save = some x) ∧
    (∃ (s : State) (dt kind slot e : ℕ), s.awake ∧ s.up.ctl.trial = some (kind, slot) ∧ s.up.windowEnds = some e ∧ e ≤ s.now +
      dt) :=
  ⟨⟨{ up with boot := { up.boot with stage := .rom } }, by decide +kernel⟩,
   ⟨{ up with boot := { up.boot with stage := .bedrock } }, 0, by decide +kernel⟩,
   ⟨{ up with boot := { up.boot with stage := .uplandLoad } }, by decide +kernel⟩,
   ⟨{ up with boot := { up.boot with avsRunning := true } }, by decide +kernel⟩,
   ⟨{ up with boot := { up.boot with avsRunning := true, avsMicrovolts := 704000, avsTarget := 700000 } }, 1000000, 700000, by
    decide +kernel⟩,
   ⟨up, by decide +kernel⟩,
   ⟨up, 0, 6, by decide +kernel, by unfold State.faultStays; decide +kernel, by decide +kernel⟩,
   ⟨{ up with boot := { up.boot with uplandRestarts := [0, 0] } }, 599999999999, 1, by decide +kernel⟩,
   ⟨{ up with boot := { up.boot with heartbeatAt := some 0 } }, 500000000, 0, by decide +kernel⟩,
   ⟨{ up with boot := { up.boot with uplandRestarts := [0] } }, 3000000000, by decide +kernel, by
    unfold State.faultStays; decide +kernel, ⟨0, .inr (by decide +kernel)⟩⟩,
   ⟨up, 0, by decide +kernel⟩,
   ⟨{ up with st := { save := some ⟨0, false, ⟨1, 0, [], [], none⟩, 0, [], []⟩ } }, ⟨0, false, ⟨1, 0, [], [], none⟩, 0, [], []⟩,
    by decide +kernel⟩,
   ⟨{ up with up := { ctl := { trial := some (1, 1) }, windowEnds := some 0 } }, 0, 1, 1, 0, by decide +kernel⟩⟩

end Sys2Proof.Tests
end

section
namespace Sys2Proof.Machine
set_option Elab.async false

/-! ## Announcements of a takeover (R384) -/

/-- A port whose link is not up sends no ARP or neighbour discovery message (R150). -/
theorem State.sendArp_of_link_down (s : State) (port kind : Nat) (addr mac dst : List Byte)
    (h : s.portN port Obj.portLinkState ≠ 2) : s.sendArp port kind addr mac dst = s := by
  simp [State.sendArp, h]

/-- Hence it announces nothing. -/
theorem State.announcePort_of_link_down (s : State) (port : Nat) (h : s.portN port Obj.portLinkState ≠ 2) :
    s.announcePort port = s := by
  unfold State.announcePort
  induction s.portAddrs port with
  | nil => rfl
  | cons a l ih => simpa [State.sendArp_of_link_down s port _ _ _ _ h] using ih

/-- Nor does a device all of whose ports have their links down. -/
theorem State.announce_of_links_down (s : State) (h : ∀ p ∈ Objs.ports s.objs, s.portN p Obj.portLinkState ≠ 2) :
    s.announce = s := by
  unfold State.announce
  revert h
  induction Objs.ports s.objs with
  | nil => exact fun _ => rfl
  | cons p l ih =>
    intro h
    rw [List.foldl_cons, s.announcePort_of_link_down p (h p (by simp))]
    exact ih fun q hq => h q (by simp [hq])

/-- TWIN_ANNOUNCE of such a device sends nothing. -/
theorem twinAnnounce_sends_nothing {dt : Nat} {s t : State} (h : ∀ p ∈ Objs.ports s.objs, s.portN p Obj.portLinkState ≠ 2)
    (e : exec (.twinAnnounce dt) s = .next t) : t.out = [] := by
  change execTwinAnnounce dt s = .next t at e
  unfold execTwinAnnounce actIf act State.onlyIf at e
  cases e
  split
  · rfl
  · beta_reduce
    split
    · refine (congrArg State.out (State.announce_of_links_down _ ?_)).trans rfl
      exact h
    · rfl

/-- An active device that still owes one announcement: its media port 0 has a mode and the address 192.0.2.1, and its link is
down. -/
def announcerLinkDown : State :=
  let s := { State.reset with
    boot := { stage := .running, resetLow := false, datapath := true, started := true, uplandRuns := true }
    tw := { announceLeft := 1 } }
  ((s.setN Obj.twinRole 0 1).setN Obj.portMode 0 1).setN Obj.portIpv4Addr 0 0xC0000201

/-- Refutes O44: its clause of TWIN_ANNOUNCE asks for an announcement of every own IPv4 address of every port with a mode, and a port
whose link is down sends none (R150). -/
theorem not_twinCopies : ¬ Obligations.TwinCopies := by
  unfold Obligations.TwinCopies
  rintro ⟨-, -, -, -, -, -, -, announces⟩
  obtain ⟨t, next, -, -, sent⟩ := announces announcerLinkDown 0 (by decide +kernel) (by decide +kernel) (by decide +kernel)
    (by decide +kernel)
  have arp := sent 0 (by decide +kernel) [0xC0, 0, 2, 1] (by decide +kernel) rfl
  have silent : t.out = [] := twinAnnounce_sends_nothing (by decide +kernel) next
  rw [silent] at arp
  cases arp

end Sys2Proof.Machine
end

section
/-!
SUPPORT. Which events a function of the model may raise: `Raises l s t` says that the event objects (R570) of every source
outside l, COUNTER_PINNED aside, read in t as in s.
-/
namespace Sys2Proof.Machine
set_option Elab.async false

/-- The objects of an event source (R570). -/
abbrev eventObjs : List Nat := [Obj.eventCount, Obj.eventLastAt, Obj.eventLastSubject]

/-- No event has been raised but those of the sources l, and COUNTER_PINNED, which any counter may raise (R559). -/
structure Raises (l : List Nat) (s t : State) : Prop where
  kept : ∀ src, src % 65536 ∉ l → src % 65536 ≠ Ev.counterPinned → ∀ i ∈ eventObjs, t.n i src = s.n i src

theorem Raises.refl {l : List Nat} (s : State) : Raises l s s := ⟨fun _ _ _ _ _ => rfl⟩

/-- Outermost first. -/
theorem Raises.seq {a l : List Nat} {s t u : State} (h : Raises a t u) (g : Raises l s t) (sub : a ⊆ l := by decide) :
    Raises l s u :=
  ⟨fun src hl hp i hi => (h.kept src (fun m => hl (sub m)) hp i hi).trans (g.kept src hl hp i hi)⟩

theorem Raises.up {a l : List Nat} {s t : State} (h : Raises a s t) (sub : a ⊆ l := by decide) : Raises l s t :=
  h.seq (.refl s) sub

theorem Raises.ite {l : List Nat} {p : Prop} [Decidable p] {s a b : State} (h : Raises l s a) (g : Raises l s b) :
    Raises l s (if p then a else b) := by
  split
  · exact h
  · exact g

theorem Raises.foldl {α : Type} {l : List Nat} {f : State → α → State} {xs : List α} {s t : State}
    (h : ∀ u x, Raises l u (f u x)) (g : Raises l s t) : Raises l s (xs.foldl f t) := by
  induction xs generalizing t with
  | nil => exact g
  | cons x xs ih => exact ih ((h t x).seq g fun _ => id)

/-- Functions whose reach has no event object raise nothing. -/
theorem Raises.of_only {l : List Nat} {r : Reach} {s t : State} (h : Only r s t) (hp : Part.objs ∉ r.parts := by decide)
    (hi : ∀ i ∈ eventObjs, i ∉ r.objs := by decide) : Raises l s t :=
  ⟨fun src _ _ i hm => h.n i src hp (hi i hm)⟩

/-- Such a function after others. -/
theorem Raises.still {l : List Nat} {r : Reach} {s t u : State} (h : Only r t u) (g : Raises l s t)
    (hp : Part.objs ∉ r.parts := by decide) (hi : ∀ i ∈ eventObjs, i ∉ r.objs := by decide) : Raises l s u :=
  (Raises.of_only h hp hi).seq g fun _ => id

/-- Nor does an update of other parts than objects. -/
theorem Raises.of_objs {l : List Nat} {s t : State} (h : t.objs = s.objs) : Raises l s t :=
  ⟨fun src _ _ i _ => by simp only [State.n_eq, h]⟩

theorem State.raise_raises (s : State) (src subj : Nat) : Raises [src % 65536] s (s.raise src subj) :=
  ⟨fun k hl hp i _ => s.n_raise_other src subj i k (by simpa using hl) hp⟩

theorem State.bump_raises {l : List Nat} (s : State) (i k by_ : Nat) (h : i ∉ eventObjs := by decide) :
    Raises l s (s.bump i k by_) := by
  have set (v) : Raises l s (s.setN i k v) := ⟨fun src _ _ j hj => s.n_setN_ne i k v j src fun e => h (e ▸ hj)⟩
  have pin {u : State} (a) : Raises l u (u.setPinned a) := .of_only (u.setPinned_only a)
  unfold State.bump
  extract_lets a top v
  refine .ite (set _) (.ite (set _) ⟨fun src hl hp j hj => ?_⟩)
  rw [State.n_raise_other _ _ _ _ _ hp hp, (pin a).kept src hl hp j hj, (set top).kept src hl hp j hj]

/-! ## Frame stores and lanes -/

/-- The events of a source slot (R161, R172, R251). -/
abbrev slotEvents : List Nat := [Ev.sourceOverReservation, Ev.srcLocked, Ev.srcUnlocked, Ev.colLabelMismatch]

theorem State.abandonFrame_raises {l : List Nat} (s : State) (slot : Nat) : Raises l s (s.abandonFrame slot) := by
  unfold State.abandonFrame
  split
  · exact (State.bump_raises ..).seq (.of_only (State.setSrc_only ..)) fun _ => id
  · exact .refl s

theorem State.refreshColour_raises (s : State) (slot : Nat) (f : Feed) :
    Raises [Ev.colLabelMismatch] s (s.refreshColour slot f) := by
  unfold State.refreshColour
  extract_lets c t
  have ht : Raises [Ev.colLabelMismatch] s t := .of_only (State.setN_only ..)
  exact .ite (.refl s) (.ite ((State.raise_raises ..).seq ht) ht)

theorem State.refreshSlot_raises (s : State) (slot : Nat) : Raises slotEvents s (s.refreshSlot slot) := by
  unfold State.refreshSlot
  extract_lets f reserved raw excess locked was wasOver s1 s2 s3 s4 x t y s5
  have h1 : Raises slotEvents s s1 := .of_only (State.setN_only ..)
  have h2 : Raises slotEvents s s2 := .still (State.setN_only ..) h1
  have h3 : Raises slotEvents s s3 := .still (State.setN_only ..) h2
  have h4 : Raises slotEvents s s4 := .ite ((State.raise_raises ..).seq h3) h3
  have hlock (u : State) (x) (h : Raises slotEvents s u) : Raises slotEvents s (u.setSrc slot x) :=
    .still (State.setSrc_only ..) h
  have ht : Raises slotEvents s t := (State.abandonFrame_raises (l := []) ..).seq h4
  have h5 : Raises slotEvents s s5 :=
    .ite ((State.raise_raises ..).seq (hlock _ _ h4)) (.ite ((State.raise_raises ..).seq (hlock _ _ ht)) h4)
  exact (State.refreshColour_raises ..).seq h5

theorem State.refreshSlots_raises (s : State) (l : List Nat) : Raises slotEvents s (s.refreshSlots l) :=
  .foldl (fun u slot => u.refreshSlot_raises slot) (.refl s)

theorem State.refreshLaneSlot_raises (s : State) (lane : Nat) : Raises slotEvents s (s.refreshLaneSlot lane) :=
  .ite (.refl s) (s.refreshSlot_raises _)

/-- The events of a receive lane (R54, R58) and of the slot that it feeds. -/
abbrev laneEvents : List Nat := Ev.sdiUnlock :: Ev.sdiPidMismatch :: slotEvents

theorem State.rxDown_raises (s : State) (lane toState : Nat) : Raises laneEvents s (s.rxDown lane toState) := by
  unfold State.rxDown
  extract_lets was s1 s2 x s3 y s4 lead
  have h1 : Raises laneEvents s s1 := .of_only (State.setN_only ..)
  have h2 : Raises laneEvents s s2 := .ite (.still (State.toDefault_only ..) h1) h1
  have h3 : Raises laneEvents s s3 := .ite (.still (State.setRxLane_only ..) h2) h2
  have h4 : Raises laneEvents s s4 :=
    .still (State.setRxLane_only ..) (.still (State.clearIdentified_only ..) h3)
  have h5 : Raises laneEvents s ((s4.nextFrame lead).feedColour lead 0xFFFF) :=
    .still (State.feedColour_only ..) (.still (State.nextFrame_only ..) h4)
  exact .ite ((State.refreshLaneSlot_raises ..).seq ((State.raise_raises ..).seq h5)) h3

theorem State.refreshLane_raises (s : State) (lane : Nat) : Raises laneEvents s (s.refreshLane lane) :=
  .ite (.of_only (State.setN_only ..)) (.ite (s.rxDown_raises lane 0) (.refl s))

theorem State.pidMismatch_raises (s : State) (lane : Nat) (mismatch : Bool) :
    Raises [Ev.sdiPidMismatch] s (s.pidMismatch lane mismatch) :=
  .ite ((State.raise_raises ..).seq (.of_only (State.setRxLane_only ..))) (.refl s)

theorem State.reidentify_raises (s : State) (lane : Nat) (pid : Option PayloadId) :
    Raises [Ev.sdiPidMismatch] s (s.reidentify lane pid) := by
  unfold State.reidentify
  extract_lets x
  split
  · exact (State.pidMismatch_raises ..).seq (.of_only (State.identified_only ..))
  · exact .refl s

theorem State.resettle_raises (s : State) (lane : Nat) : Raises [Ev.sdiPidMismatch] s (s.resettle lane) :=
  .ite (.still (State.setRxLane_only ..) (s.reidentify_raises ..)) (.refl s)

theorem State.meetPids_raises (s : State) (lead : Nat) : Raises slotEvents s (s.meetPids lead) := by
  unfold State.meetPids
  extract_lets p t slot
  have ht : Raises slotEvents s t := .still (State.setLinkOrder_only ..) (.of_only (State.setRxn_only ..))
  exact .ite ht ((State.refreshSlot_raises ..).seq (.still (State.setSrc_only ..) ht))

theorem State.regroup_raises (s : State) (old : Objs) (q : Nat) : Raises laneEvents s (s.regroup old q) := by
  unfold State.regroup
  extract_lets lanes gone t1 t2
  have h1 : Raises laneEvents s t1 := .foldl (fun u _ => .of_only (State.setSrc_only ..)) (.refl s)
  have h2 : Raises laneEvents s t2 :=
    .foldl (fun u k => (State.resettle_raises ..).seq (.of_only (State.setN_only ..))) h1
  exact .foldl (fun u lead => (u.meetPids_raises lead).up) h2

/-! ## The media network -/

theorem portTxIdx_not_event (port i : Nat) (h : i ∉ eventObjs := by decide) (h' : i + 0x10 ∉ eventObjs := by decide) :
    portTxIdx port i ∉ eventObjs := by
  unfold portTxIdx
  split
  · exact h'
  · exact h

theorem State.countTx_raises {l : List Nat} (s : State) (port bytes : Nat) : Raises l s (s.countTx port bytes) :=
  (State.bump_raises _ _ _ _ (portTxIdx_not_event port _)).seq
    (s.bump_raises _ _ _ (portTxIdx_not_event port _)) fun _ => id

theorem State.sendArp_raises {l : List Nat} (s : State) (port kind : Nat) (addr mac dst : List Byte) :
    Raises l s (s.sendArp port kind addr mac dst) :=
  .ite (.refl s) (.still (State.emit_only ..) (s.countTx_raises ..))

theorem State.resolve_raises {l : List Nat} (s : State) (e : Nat) : Raises l s (s.resolve e) :=
  .ite (.refl s) ((State.sendArp_raises ..).seq (.of_only (State.setTxe_only ..)) fun _ => id)

theorem State.meetResolving_raises {l : List Nat} (s : State) (e st : Nat) : Raises l s (s.meetResolving e st) := by
  unfold State.meetResolving
  extract_lets x
  exact .ite (.ite ((State.resolve_raises ..).seq (.of_only (State.setTxe_only ..)) fun _ => id) (.refl s))
    (.ite (.refl s) (.of_only (State.setTxe_only ..)))

/-- The events of a transmit entry (R130, R145). -/
abbrev txEvents : List Nat := [Ev.txStopped, Ev.txPathRestored, Ev.txSending, Ev.txPathDown]

theorem State.setTxState_raises (s : State) (e st : Nat) : Raises txEvents s (s.setTxState e st) := by
  unfold State.setTxState
  extract_lets old t1 t2 t3 t4
  have h1 : Raises txEvents s t1 := (State.meetResolving_raises ..).seq (.of_only (State.setN_only ..)) fun _ => id
  have raised {t u : State} {k : Nat} (c : Prop) [Decidable c] (hu : u = if c then t.raise k e else t)
      (hk : [k % 65536] ⊆ txEvents) (h : Raises txEvents s t) : Raises txEvents s u :=
    hu ▸ .ite ((t.raise_raises k e).seq h hk) h
  have h2 : Raises txEvents s t2 := raised _ rfl (by decide) h1
  have h3 : Raises txEvents s t3 := raised _ rfl (by decide) h2
  have h4 : Raises txEvents s t4 := raised _ rfl (by decide) h3
  exact .ite (.refl s) (raised _ rfl (by decide) h4)

theorem State.refreshTx_raises (s : State) (e : Nat) : Raises txEvents s (s.refreshTx e) := s.setTxState_raises ..

theorem State.refreshTxPort_raises (s : State) (port : Nat) : Raises txEvents s (s.refreshTxPort port) :=
  .foldl (fun u e => u.refreshTx_raises e) (.refl s)

theorem State.readdress_raises {l : List Nat} (s : State) (e : Nat) : Raises l s (s.readdress e) :=
  (State.resolve_raises ..).seq (.of_only (State.setTxe_only ..)) fun _ => id

theorem State.portCommit_raises (s : State) (old : Objs) : Raises (Ev.mpLinkDown :: txEvents) s (s.portCommit old) := by
  unfold State.portCommit
  extract_lets codes
  refine .foldl (fun u p => ?_) (.refl s)
  extract_lets was is up t
  have ht : Raises (Ev.mpLinkDown :: txEvents) u t := by
    refine .of_only (State.setN_only ..) (by simp) ?_
    unfold portIdx
    split <;> decide
  exact .ite (.refl u) ((State.refreshTxPort_raises ..).seq (.ite ((State.raise_raises ..).seq ht) ht))

theorem State.startTx_raises (s : State) (lead boundary : Nat) (redraw : Bool) :
    Raises txEvents s (s.startTx lead boundary redraw) := by
  unfold State.startTx
  extract_lets es t
  have ht : Raises txEvents s t := .of_only (State.chooseSsrc_only ..)
  split
  next v u drawn =>
  have hu : Raises txEvents s u := .still (Only.snd drawn (State.draw_only t)) ht
  extract_lets n paths x w
  have hw : Raises txEvents s w := .still (State.setTxe_only ..) hu
  exact .foldl (fun v e => (State.refreshTx_raises ..).seq
    ((State.readdress_raises (l := []) ..).seq (.of_only (State.setN_only ..)))) hw

theorem State.txContinue_raises (s : State) (old : Objs) (lead from_ boundary : Nat) :
    Raises txEvents s (s.txContinue old lead from_ boundary) := by
  unfold State.txContinue
  extract_lets was y x ssrc left next t
  have ht : Raises txEvents s t := .ite (.refl s) (.of_only (State.setTxe_only ..))
  refine .foldl (fun u e => ?_) ht
  extract_lets v
  have hv : Raises txEvents u v := .still (State.setN_only ..) (.of_only (State.setN_only ..))
  exact .ite hv ((State.refreshTx_raises ..).seq
    ((State.readdress_raises (l := []) ..).seq (.still (State.setTxe_only ..) hv)))

theorem State.txFlowCommit_raises (s : State) (old : Objs) (lead boundary : Nat) :
    Raises txEvents s (s.txFlowCommit old lead boundary) := by
  unfold State.txFlowCommit
  split
  · exact s.startTx_raises ..
  · extract_lets t1 t2
    have h1 : Raises txEvents s t1 := s.txContinue_raises ..
    have h2 : Raises txEvents s t2 := .ite (.still (State.chooseSsrc_only ..) h1) h1
    exact .ite (.still (State.setTxe_only ..) h2) h2

theorem State.txCommit_raises (s : State) (old : Objs) (boundary : Nat) : Raises txEvents s (s.txCommit old boundary) := by
  unfold State.txCommit
  extract_lets touched before s1 flows s2
  have h1 : Raises txEvents s s1 := .foldl (fun u e => .of_only (State.holdTx_only ..)) (.refl s)
  have h2 : Raises txEvents s s2 := .foldl (fun u e => u.txFlowCommit_raises old e boundary) h1
  refine .foldl (fun t e => ?_) h2
  extract_lets was is moved t1 x t2
  have ht1 : Raises txEvents t t1 := .ite (t.readdress_raises e) (.refl t)
  have ht2 : Raises txEvents t t2 := .ite ht1 (.still (State.setN_only ..) (.still (State.setTxe_only ..) ht1))
  exact .still (State.refreshSdp_only ..) ((State.refreshTx_raises ..).seq ht2)

/-- The events of a receive flow (R98, R130) and of the slot that it feeds. -/
abbrev flowEvents : List Nat := Ev.flowReceiving :: Ev.flowLost :: Ev.txOpaqueIdle :: slotEvents

theorem State.refreshRxSlot_raises (s : State) (lead : Nat) : Raises slotEvents s (s.refreshRxSlot lead) :=
  .ite (s.refreshSlot_raises _) (.refl s)

theorem State.setFlow_raises (s : State) (lead st : Nat) : Raises flowEvents s (s.setFlow lead st) := by
  unfold State.setFlow
  extract_lets old t1 t2 c1 c2 t3
  have h1 : Raises flowEvents s t1 := .foldl (fun u e => .of_only (State.setN_only ..)) (.refl s)
  have h2 : Raises flowEvents s t2 := .ite ((State.raise_raises ..).seq h1) h1
  have hc1 : Raises flowEvents s c1 := .still (State.clearEmb_only ..) h2
  have hc2 : Raises flowEvents s c2 := .ite ((State.raise_raises ..).seq hc1) hc1
  have h3 : Raises flowEvents s t3 := .ite (.foldl (fun u x => (u.raise_raises _ x).up) hc2) h2
  exact .ite h3 ((State.refreshRxSlot_raises ..).seq h3)

theorem State.enterWaiting_raises (s : State) (lead : Nat) : Raises flowEvents s (s.enterWaiting lead) :=
  .foldl (fun _ _ => .still (State.toDefault_only ..) (.of_only (State.setRxe_only ..))) (s.setFlow_raises lead 2)

theorem State.rxMeet_raises (s : State) (old : Objs) (lead : Nat) : Raises flowEvents s (s.rxMeet old lead) := by
  unfold State.rxMeet
  extract_lets paths before
  exact .ite ((State.enterWaiting_raises ..).seq (.of_only (State.setN_only ..)))
    (.ite (.foldl (fun u q => .of_only (State.setN_only ..)) (.refl s)) (s.enterWaiting_raises lead))

theorem State.rxIdle_raises (s : State) (old : Objs) (e : Nat) : Raises flowEvents s (s.rxIdle old e) := by
  unfold State.rxIdle
  extract_lets was t1 t2 t3
  have h1 : Raises flowEvents s t1 := .still (State.clearEmb_only ..) (.of_only (State.setN_only ..))
  have h2 : Raises flowEvents s t2 := .ite (.foldl (fun u x => (u.raise_raises _ x).up) h1) h1
  have h3 : Raises flowEvents s t3 := .still (State.setRxe_only ..) h2
  exact .ite ((State.refreshSlot_raises ..).seq h3) h3

/-- The objects that R109 and R121 let an entry read as defaults. -/
abbrev defaultsReach : Reach :=
  ⟨[], [Obj.rxLostPackets, Obj.rxGeometryErr, Obj.rxConcealedFrames, Obj.rxAbandonedFrames, Obj.rxAncUnmatched] ++
    (List.range 12).map (Obj.embFormat + ·), []⟩

theorem State.rxDefaults_reach (s : State) (e : Nat) : Only defaultsReach s (s.rxDefaults e) := by
  have reset (l : List Nat) (r : Reach) (u : State) (h : ∀ i ∈ l, i ∈ r.objs) :
      Only r u (l.foldl (fun v i => v.toDefault i e) u) := by
    induction l generalizing u with
    | nil => exact .refl r u
    | cons i l ih =>
      exact (ih _ fun j hj => h j (by simp [hj])).seq
        ((State.toDefault_only ..).mono ⟨by simp, .inl (by simpa using h i (by simp)), .inl (by simp)⟩) (Reach.le_refl r)
  unfold State.rxDefaults
  extract_lets partner t
  have ht : Only defaultsReach s t := .ite (reset _ _ s fun i hi => List.mem_append_left _ hi) (.refl _ s)
  exact .ite ((reset _ _ t fun i hi => List.mem_append_right _ hi).seq ht (Reach.le_refl _)) ht

theorem State.rxCommit_raises (s : State) (old : Objs) : Raises flowEvents s (s.rxCommit old) := by
  unfold State.rxCommit
  extract_lets touched t1 t2 flows
  have h1 : Raises flowEvents s t1 := .foldl (fun u e => .of_only (u.rxRelead_only old e)) (.refl s)
  have h2 : Raises flowEvents s t2 := .foldl (fun u e => u.rxIdle_raises old e) h1
  have h3 := Raises.foldl (xs := flows) (fun u e => u.rxMeet_raises old e) h2
  exact .foldl (fun u e => .of_only (u.rxDefaults_reach e)) h3

theorem State.report_raises {l : List Nat} (s : State) (port : Nat) (r : List Byte × Bool × List (List Byte)) :
    Raises l s (s.report port r) := by
  unfold State.report
  extract_lets v6 compat version left sources
  exact .ite (.still (State.emit_only ..) (s.countTx_raises ..)) (.refl s)

theorem State.changeReport_raises {l : List Nat} (s : State) (port : Nat) (r : List Byte × Bool × List (List Byte)) :
    Raises l s (s.changeReport port r) :=
  .still (State.setPort_only ..) (s.report_raises port r)

theorem State.syncPort_raises {l : List Nat} (s : State) (port : Nat) : Raises l s (s.syncPort port) :=
  .foldl (fun u r => u.changeReport_raises port r) (.of_only (State.setPort_only ..))

theorem State.syncMembership_raises {l : List Nat} (s : State) : Raises l s s.syncMembership :=
  .foldl (fun u p => u.syncPort_raises p) (.refl s)

/-! ## Audio, engines and streams -/

theorem State.setConverter_raises (s : State) (ch st : Nat) : Raises [Ev.auInputRate] s (s.setConverter ch st) :=
  .ite (.refl s) (.ite (.of_only (State.setN_only ..)) ((State.raise_raises ..).seq (.of_only (State.setN_only ..))))

theorem State.refreshInputs_raises (s : State) (old : Objs) : Raises [Ev.auInputRate] s (s.refreshInputs old) := by
  unfold State.refreshInputs
  extract_lets chs
  refine .foldl (fun t ch => ?_) (.refl s)
  extract_lets f r u1 u2
  have h1 : Raises [Ev.auInputRate] t u1 := .still (State.setN_only ..) (.of_only (State.setN_only ..))
  have h2 : Raises [Ev.auInputRate] t u2 := .still (State.toDefault_only ..) ((State.setConverter_raises ..).seq h1)
  exact .ite (.refl t) (.still (State.setStrip_only ..) (.still (State.toDefault_only ..) h2))

theorem State.corniceCommit_raises (s : State) (old : Objs) (boundary : Nat) :
    Raises [Ev.auInputRate] s (s.corniceCommit old boundary) := by
  unfold State.corniceCommit
  extract_lets s1 touched
  refine .foldl (fun t ch => ?_) (s.refreshInputs_raises old)
  extract_lets x bound rebound u1 u2
  have h1 : Raises [Ev.auInputRate] t u1 := .ite (.of_only (State.setN_only ..)) (.refl t)
  have h2 : Raises [Ev.auInputRate] t u2 :=
    .ite (.still (State.toDefault_only ..) (.still (State.setN_only ..) (.of_only (State.setN_only ..)))) (.refl t)
  exact .ite (.still (State.setAout_only ..) h1) (.still (State.setAout_only ..) h2)

theorem State.setSrcState_raises (s : State) (p st : Nat) : Raises [Ev.tarnSrcState] s (s.setSrcState p st) :=
  .ite (.refl s) ((State.raise_raises ..).seq (.of_only (State.setRegField_only ..) (by simp) (by simp)))

theorem State.refreshSrc_raises (s : State) (p : Nat) : Raises [Ev.tarnSrcState] s (s.refreshSrc p) := s.setSrcState_raises ..

theorem State.layerGeometry_raises (s : State) (x : Nat) : Raises [Ev.cqTapsReduced] s (s.layerGeometry x) := by
  unfold State.layerGeometry
  extract_lets st taps t
  have ht : Raises [Ev.cqTapsReduced] s t :=
    .still (State.setN_only ..) (.still (State.setN_only ..) (.of_only (State.setN_only ..)))
  exact .ite ((State.raise_raises ..).seq ht) ht

theorem State.layersMeet_raises (s : State) (old : Objs) (e : Nat) : Raises [Ev.cqTapsReduced] s (s.layersMeet old e) := by
  unfold State.layersMeet
  refine .foldl (fun u x => ?_) (.refl s)
  extract_lets v
  have hv : Raises [Ev.cqTapsReduced] u v := .of_only (State.layerMoved_only ..)
  exact .ite hv ((State.layerGeometry_raises ..).seq hv)

theorem State.cirqueCommit_raises (s : State) (old : Objs) (b : Nat) : Raises [Ev.cqTapsReduced] s (s.cirqueCommit old b) := by
  unfold State.cirqueCommit
  extract_lets waits held t1 t2 t3
  have h1 : Raises [Ev.cqTapsReduced] s t1 := .foldl (fun u e => .of_only (State.engineAssign_only ..)) (.refl s)
  have h2 : Raises [Ev.cqTapsReduced] s t2 :=
    .foldl (fun u e => .ite (.refl u) (.of_only (State.timingMeet_only ..))) h1
  have h3 : Raises [Ev.cqTapsReduced] s t3 := .foldl (fun u e => u.layersMeet_raises old e) h2
  exact .foldl (fun u e => .of_only (u.holdMigration_only e)) h3

theorem State.endRecord_raises (s : State) (r state : Nat) : Raises [Ev.morRecordEnd] s (s.endRecord r state) := by
  unfold State.endRecord
  extract_lets x t
  exact (State.raise_raises ..).seq
    (.still (State.setN_only ..) (.still (State.setRecorder_only ..) (.of_only (State.setClip_only ..))))

theorem State.drainRecord_raises (s : State) (r : Nat) : Raises [Ev.morRecordEnd] s (s.drainRecord r) := by
  unfold State.drainRecord
  extract_lets x p c t
  have ht : Raises [Ev.morRecordEnd] s t := .still (State.setRecorder_only ..) (.of_only (State.setClip_only ..))
  exact .ite ((State.endRecord_raises ..).seq ht) ht

theorem State.stopRecord_raises (s : State) (r : Nat) : Raises [Ev.morRecordEnd] s (s.stopRecord r) :=
  .ite ((State.drainRecord_raises ..).seq (.of_only (State.setRecorder_only ..))) (.refl s)

theorem State.morCommit_raises (s : State) (old : Objs) (changes : List Change) (boundary : Nat) :
    Raises [Ev.morRecordEnd] s (s.morCommit old changes boundary) := by
  unfold State.morCommit
  extract_lets sets s1 s2
  have h1 : Raises [Ev.morRecordEnd] s s1 := .foldl (fun u l => .ite (.of_only (State.emptyRing_only ..)) (.refl u)) (.refl s)
  have h2 : Raises [Ev.morRecordEnd] s s2 := by
    refine .foldl (fun t r => ?_) h1
    extract_lets moved on u1 u2
    have hu1 : Raises [Ev.morRecordEnd] t u1 := .ite (t.stopRecord_raises r) (.refl t)
    have hu2 : Raises [Ev.morRecordEnd] t u2 := .ite (.still (State.setN_only ..) hu1) hu1
    exact .ite (.still (State.startRecord_only ..) hu2) hu2
  refine .foldl (fun t p => ?_) h2
  extract_lets moved on m t1
  have ht1 : Raises [Ev.morRecordEnd] t t1 := .ite (.refl t) (.of_objs rfl)
  exact .ite (.still (State.startPlay_only ..) ht1) ht1

/-! ## A commit -/

/-- The events of a commit. -/
abbrev commitEvents : List Nat :=
  laneEvents ++ flowEvents ++ txEvents ++
    [Ev.mpLinkDown, Ev.auInputRate, Ev.tarnSrcState, Ev.cqTapsReduced, Ev.morRecordEnd]

theorem State.meetCommit_raises (s : State) (old : Objs) (changes : List Change) (boundary : Nat) :
    Raises commitEvents s (s.meetCommit old changes boundary) := by
  unfold State.meetCommit
  extract_lets t1 lanes t2 t3 t4 t5 t6 t7 t8 t9 t10
  have h1 : Raises commitEvents s t1 := .of_only (State.moveStores_only ..)
  have h2 : Raises commitEvents s t2 := .foldl (fun u l => (u.refreshLane_raises l).up) h1
  have h3 : Raises commitEvents s t3 := .foldl (fun u q => (u.regroup_raises old q).up) h2
  have h4 : Raises commitEvents s t4 := (State.portCommit_raises ..).seq ((State.cirqueCommit_raises ..).seq h3)
  have h5 : Raises commitEvents s t5 := (State.txCommit_raises ..).seq ((State.rxCommit_raises ..).seq h4)
  have h6 : Raises commitEvents s t6 := (State.refreshSlots_raises ..).seq h5
  have h7 : Raises commitEvents s t7 :=
    (State.syncMembership_raises (l := []) ..).seq ((State.corniceCommit_raises ..).seq h6)
  have h8 : Raises commitEvents s t8 := .foldl (fun u p => (u.refreshSrc_raises p).up) h7
  have h9 : Raises commitEvents s t9 := (State.morCommit_raises ..).seq h8
  have h10 : Raises commitEvents s t10 := .foldl (fun u d => .of_only (u.unuseDst_only d)) h9
  exact .ite (.refl s) (.foldl (fun u e => .of_only (u.refreshSdp_only e)) h10)

end Sys2Proof.Machine
end

section
/-!
PROOFS. The house frame boundary (R9, R204, R205, R213).
-/
namespace Sys2Proof.Machine
set_option Elab.async false

/-! ## Rows of the dictionary -/

/-- An element of one of two lists is one of their elements. -/
theorem mem_append_of_mem_ite {α : Type} {c : Prop} [Decidable c] {x : α} {l m n : List α} (h : x ∈ if c then l else m)
    (g : x ∈ m → x ∈ n) : x ∈ l ++ n := by
  split at h
  · exact List.mem_append_left _ h
  · exact List.mem_append_right _ (g h)

theorem mem_dictionary {i : Nat} {r : Row} (h : r ∈ dictChunk i) : r ∈ dictionary := by
  unfold dictionary
  simp only [List.append_assoc]
  unfold dictChunk at h
  iterate 10 refine mem_append_of_mem_ite h fun h => ?_
  exact mem_append_of_mem_ite h id

/-- A row that the dictionary gives for an object is one of its rows, of that index. -/
theorem dictRow_some {i n : Nat} {r : Row} (h : dictRow i n = some r) : r ∈ dictionary ∧ r.index = i := by
  have hp := List.find?_some h
  simp only [Bool.and_eq_true, beq_iff_eq] at hp
  exact ⟨mem_dictionary (List.mem_of_find?_eq_some h), hp.1.1⟩

/-- The commit class of an object is that of a row of its index, or Immediate. -/
theorem commitOf_cases (a : Nat) : commitOf a = .immediate ∨ ∃ r ∈ dictionary, r.index = adrIndex a ∧ commitOf a = r.commit := by
  unfold commitOf
  cases h : dictRow (adrIndex a) (adrSub a) with
  | none => exact .inl rfl
  | some r => exact .inr ⟨r, (dictRow_some h).1, (dictRow_some h).2, rfl⟩

/-- The indices of the objects that take effect at a commit (R8). -/
def committed : List Nat := (dictionary.filter fun r => r.commit == .take || r.commit == .frame).map (·.index)

theorem mem_committed {a : Nat} (h : commitOf a = .take ∨ commitOf a = .frame) : adrIndex a ∈ committed := by
  rcases commitOf_cases a with hi | ⟨r, hr, hx, hc⟩
  · simp [hi] at h
  · refine List.mem_map.2 ⟨r, List.mem_filter.2 ⟨hr, ?_⟩, hx⟩
    rcases h with h | h <;> simp [← hc, h]

/-! ## Lists in order -/

theorem mem_insertBy {α : Type} (le : α → α → Bool) (x y : α) (l : List α) : y ∈ insertBy le x l ↔ y = x ∨ y ∈ l := by
  induction l with
  | nil => simp [insertBy]
  | cons z l ih =>
    unfold insertBy
    split
    · simp
    · simp only [List.mem_cons, ih]; tauto

/-- Sorting keeps the elements of a list. -/
@[simp] theorem mem_sortBy {α : Type} (le : α → α → Bool) (y : α) (l : List α) : y ∈ sortBy le l ↔ y ∈ l := by
  induction l with
  | nil => simp [sortBy]
  | cons x l ih => simp [sortBy, mem_insertBy, ih]

/-! ## What the blocks may change when they meet a commit -/

/-- The objects that the blocks set when they meet a commit. -/
abbrev commitObjs : List Nat :=
  [Obj.rxState, Obj.rxRate, Obj.rxFormat, Obj.rxPayloadId, Obj.rxStructure, Obj.embFormat, Obj.embStructure, Obj.embPayloadId,
    Obj.srcFeedKind, Obj.srcState, Obj.srcReservationStatus, Obj.srcFramesAbandoned, Obj.srcColourLive, Obj.cqState,
    Obj.cqFormat, Obj.layerStepX, Obj.layerStepY, Obj.layerTapsInForce, Obj.portLinkStateB, Obj.portLinkState, Obj.txFlowState,
    Obj.portTxFramesB, Obj.portTxFrames, Obj.portTxBytesB, Obj.portTxBytes, Obj.rxFlowState, Obj.rxPdvHistogram,
    Obj.txSsrcInUse, Obj.txNextSeq, Obj.txFormatLive, Obj.txSdp, Obj.aiFeed, Obj.aiRateIn, Obj.aiConverter,
    Obj.aiRateDeviation, Obj.aiNonAudio, Obj.aoBindState, Obj.aoBindDelay, Obj.aoLipSyncError, Obj.dlyStored, Obj.recState,
    Obj.dstState, Obj.dstFormatLive] ++ eventObjs ++ defaultsReach.objs

/-- What the blocks may change when they meet a commit. -/
abbrev commitReach : Reach :=
  ⟨[.out, .fresh, .pinned, .regs, .ev, .flashJournal, .sdiRx, .ridge, .cq, .media, .au, .mor, .diskJournal], commitObjs, []⟩

theorem State.rxCommit_reach (s : State) (old : Objs) : Only commitReach s (s.rxCommit old) := by
  unfold State.rxCommit
  extract_lets touched t1 t2 flows
  have h1 : Only commitReach s t1 := .foldl (fun u e => (u.rxRelead_only old e).up) (.refl _ s)
  have h2 : Only commitReach s t2 := .foldl (fun u e => (u.rxIdle_only old e).up) h1
  have h3 := Only.foldl (l := flows) (fun u e => (u.rxMeet_only old e).up) h2
  exact .foldl (fun u e => (u.rxDefaults_reach e).up) h3

/-- `State.meetCommit_only` by its objects. -/
theorem State.meetCommit_reach (s : State) (old : Objs) (changes : List Change) (boundary : Nat) :
    Only commitReach s (s.meetCommit old changes boundary) := by
  unfold State.meetCommit
  extract_lets t1 lanes t2 t3 t4 t5 t6 t7 t8 t9 t10
  have h1 : Only commitReach s t1 := (State.moveStores_only ..).up
  have h2 : Only commitReach s t2 := .foldl (fun u l => (u.refreshLane_only l).up) h1
  have h3 : Only commitReach s t3 := .foldl (fun u q => (u.regroup_only old q).up) h2
  have h4 : Only commitReach s t4 := (State.portCommit_only ..).seq ((State.cirqueCommit_only ..).seq h3)
  have h5 : Only commitReach s t5 := (State.txCommit_only ..).seq ((State.rxCommit_reach ..).seq h4)
  have h6 : Only commitReach s t6 := (State.refreshSlots_only ..).seq h5
  have h7 : Only commitReach s t7 := (State.syncMembership_only ..).seq ((State.corniceCommit_only ..).seq h6)
  have h8 : Only commitReach s t8 := .foldl (fun u p => (u.refreshSrc_only p).up) h7
  have h9 : Only commitReach s t9 := (State.morCommit_only ..).seq h8
  have h10 : Only commitReach s t10 := .foldl (fun u d => (u.unuseDst_only d).up) h9
  exact .ite (.refl _ s) (.foldl (fun u e => (u.refreshSdp_only e).up) h10)

/-- A commit sets no object of its own class. -/
theorem committed_kept : ∀ i ∈ committed, i ∉ commitObjs := by decide +kernel

end Sys2Proof.Machine
end

section
namespace Sys2Proof.Machine
set_option Elab.async false

/-! ## Parts outside a reach -/

theorem Only.ceSalvos {r : Reach} {s t : State} (h : Only r s t) (hp : Part.salvos ∉ r.parts := by decide) :
    t.ce.salvos = s.ce.salvos := congrArg Prod.fst (h.same .salvos hp)

theorem Only.salvo {r : Reach} {s t : State} (h : Only r s t) (n : Nat) (hp : Part.salvos ∉ r.parts := by decide) :
    t.salvo n = s.salvo n := by simp only [State.salvo, h.ceSalvos hp]

theorem Only.tcEq {r : Reach} {s t : State} (h : Only r s t) (hp : Part.tc ∉ r.parts := by decide) : t.tc = s.tc :=
  congrArg Prod.fst (h.same .tc hp)

theorem Only.lastBoundary {r : Reach} {s t : State} (h : Only r s t) (hp : Part.engine ∉ r.parts := by decide) :
    t.ce.lastBoundary = s.ce.lastBoundary := by
  have e : Part.engine.same s t := h.part .engine hp (by decide) (by decide)
  unfold Part.same at e
  exact (CommitEngine.mk.inj e).2.2.2.1

/-! ## Configurations overlaid -/

theorem Objs.val_set (c : Objs) (a b : Nat) (v : Val) : Objs.val (Objs.set c a v) b = if b = a then v else Objs.val c b :=
  storeGet_storeSet ..

/-- An object that no change names keeps its value. -/
theorem Objs.val_overlay_of_notMem {c : Objs} {l : List Change} {a : Nat} (h : ∀ x ∈ l, x.addr ≠ a) :
    Objs.val (Objs.overlay c l) a = Objs.val c a := by
  unfold Objs.overlay
  induction l generalizing c with
  | nil => rfl
  | cons x l ih =>
    rw [List.foldl_cons, ih fun y hy => h y (by simp [hy]), Objs.val_set, if_neg fun e => h x (by simp) e.symm]

/-- One that a single change names takes its value. -/
theorem Objs.val_overlay_of_mem {c : Objs} {l : List Change} {x : Change} (h : x ∈ l) (hn : (l.map (·.addr)).Nodup) :
    Objs.val (Objs.overlay c l) x.addr = x.val := by
  unfold Objs.overlay
  induction l generalizing c with
  | nil => cases h
  | cons y l ih =>
    rw [List.map_cons, List.nodup_cons] at hn
    rcases List.mem_cons.1 h with rfl | h
    · exact (Objs.val_overlay_of_notMem (c := Objs.set c x.addr x.val) fun z hz e =>
        hn.1 (List.mem_map.2 ⟨z, hz, e⟩)).trans (by rw [Objs.val_set, if_pos rfl])
    · exact ih h hn.2

/-! ## What becomes due -/

/-- Flips set their own objects alone (R236, R263). -/
theorem State.flips_reach (s : State) (l : List Change) (b : Nat) :
    Only ⟨[.cq], [Obj.layerGfxFlip, Obj.colTableFlip], []⟩ s (s.flips l b) := by
  unfold State.flips
  refine .foldl (fun t c => ?_) (.refl _ s)
  have reset {i : Nat} (k : Nat) (hi : i ∈ [Obj.layerGfxFlip, Obj.colTableFlip]) :
      Only ⟨[.cq], [Obj.layerGfxFlip, Obj.colTableFlip], []⟩ t (t.toDefault i k) :=
    (t.toDefault_only i k).mono (by revert i; decide)
  extract_lets i n u
  split
  · next hi => exact .ite ((State.gfxFlip_only ..).seq (reset n (by simp [hi]))) (reset n (by simp [hi]))
  · split
    · next hi => exact .ite ((State.tableFlip_only ..).seq (reset n (by simp [hi]))) (reset n (by simp [hi]))
    · exact .refl _ t

/-- A salvo after one has been executed. -/
theorem State.salvoDone_salvo (s : State) (n k : Nat) :
    (s.salvoDone n).salvo k =
      if k = n then { s.salvo n with state := .done, reads := [], prejoined := [] } else s.salvo k := by
  unfold State.salvoDone
  extract_lets x t1 t2 t3 y t4 data
  rw [(State.raise_only ..).salvo k (by decide), (State.journal_only ..).salvo k (by decide),
    (State.bump_only ..).salvo k (by simp)]
  have h2 : t2.salvo k = s.salvo k :=
    ((State.flips_reach ..).salvo k).trans (((State.markLabels_only ..).salvo k).trans ((t1.markRoutes_only ..).salvo k))
  have h4 : t4.salvo k = t3.salvo k := by
    unfold t4
    split <;> rfl
  rw [h4]
  split
  · next e => exact e ▸ State.salvo_setSalvo ..
  · next e => exact (look_put_ne t2.ce.salvos n k _ _ e).trans h2

@[simp] theorem State.salvoDone_salvo_self (s : State) (n : Nat) : ((s.salvoDone n).salvo n).state = .done := by
  rw [s.salvoDone_salvo, if_pos rfl]

/-- A salvo that is DONE stays so when others are executed. -/
theorem State.salvoDone_keeps_done {s : State} {n : Nat} (k : Nat) (h : (s.salvo n).state = .done) :
    ((s.salvoDone k).salvo n).state = .done := by
  rw [s.salvoDone_salvo]
  split
  · rfl
  · exact h

theorem State.foldl_salvoDone_keeps_done {s : State} {n : Nat} (l : List (Nat × Salvo)) (h : (s.salvo n).state = .done) :
    ((l.foldl (fun u x => u.salvoDone x.1) s).salvo n).state = .done := by
  induction l generalizing s with
  | nil => exact h
  | cons x l ih => exact ih (State.salvoDone_keeps_done x.1 h)

theorem State.foldl_salvoDone_done {s : State} {x : Nat × Salvo} {l : List (Nat × Salvo)} (h : x ∈ l) :
    ((l.foldl (fun u x => u.salvoDone x.1) s).salvo x.1).state = .done := by
  induction l generalizing s with
  | nil => cases h
  | cons y l ih =>
    rcases List.mem_cons.1 h with rfl | h
    · exact State.foldl_salvoDone_keeps_done l (s.salvoDone_salvo_self _)
    · exact ih h

/-- A salvo that is not FREE is an entry of the table. -/
theorem State.salvo_mem {s : State} {n : Nat} (h : (s.salvo n).state ≠ .free) : (n, s.salvo n) ∈ s.ce.salvos := by
  revert h
  simp only [State.salvo, look]
  induction s.ce.salvos with
  | nil => simp [List.lookup]
  | cons p l ih =>
    obtain ⟨k, v⟩ := p
    by_cases e : n = k
    · subst e; simp [List.lookup]
    · have hk : (n == k) = false := by simpa using e
      simp only [List.lookup, hk]
      exact fun hf => List.mem_cons_of_mem _ (ih hf)

theorem State.mem_dueSalvos {s : State} {n b : Nat} (h : (s.salvo n).state = .pending) (hb : (s.salvo n).boundary ≤ b) :
    (n, s.salvo n) ∈ s.dueSalvos b := by
  have hm := State.salvo_mem (s := s) (n := n) (by simp [h])
  simp [State.dueSalvos, State.heldSalvos, hm, h, hb]

/-! ### One point -/

/-- The state in which the salvos due at a point are executed: the Frame-class writes due there are in force. -/
def State.writesDue (s : State) (b : Nat) : State :=
  let t := (s.dueWrites b).2
  { t with objs := Objs.overlay t.objs (s.dueWrites b).1 }.flips (s.dueWrites b).1 b

theorem State.applyPoint_eq (s : State) (b : Nat) :
    s.applyPoint b = ((s.writesDue b).dueSalvos b).foldl (fun u x => u.salvoDone x.1) (s.writesDue b) := rfl

theorem State.writesDue_salvos (s : State) (b : Nat) : (s.writesDue b).ce.salvos = s.ce.salvos :=
  (State.flips_reach ..).ceSalvos

theorem State.writesDue_salvo (s : State) (b n : Nat) : (s.writesDue b).salvo n = s.salvo n := by
  simp only [State.salvo, s.writesDue_salvos b]

theorem State.applyPoint_keeps_done {s : State} {n : Nat} (b : Nat) (h : (s.salvo n).state = .done) :
    ((s.applyPoint b).salvo n).state = .done := by
  rw [s.applyPoint_eq b]
  exact State.foldl_salvoDone_keeps_done _ (by rwa [s.writesDue_salvo b n])

theorem State.applyPoint_done {s : State} {n b : Nat} (h : (s.salvo n).state = .pending) (hb : (s.salvo n).boundary ≤ b) :
    ((s.applyPoint b).salvo n).state = .done := by
  rw [s.applyPoint_eq b]
  refine State.foldl_salvoDone_done (x := (n, (s.writesDue b).salvo n)) (State.mem_dueSalvos ?_ ?_)
  all_goals rwa [s.writesDue_salvo b n]

/-- Of the Frame-class writes those stay that are due after the point. -/
theorem State.applyPoint_frameWrites (s : State) (b : Nat) :
    (s.applyPoint b).ce.frameWrites = s.ce.frameWrites.filter fun w => b < w.due := by
  rw [s.applyPoint_eq b]
  have hw : (s.writesDue b).ce.frameWrites = s.ce.frameWrites.filter fun w => b < w.due :=
    (State.flips_reach ..).part .frameWrites (by decide) (by decide) (by decide)
  rw [← hw]
  generalize (s.writesDue b).dueSalvos b = l
  generalize s.writesDue b = t
  induction l generalizing t with
  | nil => rfl
  | cons x l ih => exact (ih _).trans ((t.salvoDone_only x.1).same .frameWrites)

end Sys2Proof.Machine
end

section
namespace Sys2Proof.Machine
set_option Elab.async false

/-! ### All points up to a boundary -/

theorem State.foldl_salvoDone_done_or_same (s : State) (n : Nat) (l : List (Nat × Salvo)) :
    ((l.foldl (fun u x => u.salvoDone x.1) s).salvo n).state = .done ∨
      (l.foldl (fun u x => u.salvoDone x.1) s).salvo n = s.salvo n := by
  induction l generalizing s with
  | nil => exact .inr rfl
  | cons x l ih =>
    by_cases e : n = x.1
    · exact .inl (State.foldl_salvoDone_keeps_done l (by rw [s.salvoDone_salvo, if_pos e]))
    · rw [List.foldl_cons]
      rcases ih (s.salvoDone x.1) with h | h
      · exact .inl h
      · exact .inr (h.trans ((s.salvoDone_salvo x.1 n).trans (if_neg e)))

/-- A point executes a salvo or leaves it as it was. -/
theorem State.applyPoint_done_or_same (s : State) (b n : Nat) :
    ((s.applyPoint b).salvo n).state = .done ∨ (s.applyPoint b).salvo n = s.salvo n := by
  rw [s.applyPoint_eq b, ← s.writesDue_salvo b n]
  exact State.foldl_salvoDone_done_or_same ..

theorem State.applyPoints_keep_done {s : State} {n : Nat} (l : List Nat) (h : (s.salvo n).state = .done) :
    ((l.foldl State.applyPoint s).salvo n).state = .done := by
  induction l generalizing s with
  | nil => exact h
  | cons p l ih => exact ih (s.applyPoint_keeps_done p h)

/-- A PENDING salvo is DONE once its boundary is among the points. -/
theorem State.applyPoints_done {s : State} {n : Nat} {l : List Nat} (h : (s.salvo n).state = .pending)
    (hl : (s.salvo n).boundary ∈ l) : ((l.foldl State.applyPoint s).salvo n).state = .done := by
  induction l generalizing s with
  | nil => cases hl
  | cons p l ih =>
    rw [List.foldl_cons]
    rcases List.mem_cons.1 hl with hp | hl
    · exact State.applyPoints_keep_done l (State.applyPoint_done h hp.le)
    · rcases s.applyPoint_done_or_same p n with hd | hs
      · exact State.applyPoints_keep_done l hd
      · exact ih (hs ▸ h) (hs ▸ hl)

theorem State.mem_applyPoints_frameWrites (s : State) (l : List Nat) (w : FrameWrite) :
    w ∈ (l.foldl State.applyPoint s).ce.frameWrites ↔ w ∈ s.ce.frameWrites ∧ ∀ p ∈ l, p < w.due := by
  induction l generalizing s with
  | nil => simp
  | cons p l ih => simp [ih, s.applyPoint_frameWrites p, and_assoc]

theorem State.mem_duePoints_of_salvo {s : State} {n b : Nat} (h : (s.salvo n).state = .pending)
    (hb : (s.salvo n).boundary ≤ b) : (s.salvo n).boundary ∈ s.duePoints b := by
  unfold State.duePoints
  rw [mem_sortBy, List.mem_eraseDups]
  exact List.mem_append_right _ (List.mem_map.2 ⟨_, State.mem_dueSalvos h hb, rfl⟩)

theorem State.mem_duePoints_of_write {s : State} {w : FrameWrite} {b : Nat} (h : w ∈ s.ce.frameWrites) (hb : w.due ≤ b) :
    w.due ∈ s.duePoints b := by
  unfold State.duePoints
  rw [mem_sortBy, List.mem_eraseDups]
  refine List.mem_append_left _ (List.mem_filter.2 ⟨List.mem_map.2 ⟨w, h, rfl⟩, by simpa using hb⟩)

/-- What a boundary leaves after its points: the blocks meet the commit, and kept configurations take the writes. -/
theorem State.executeBoundary_after (s : State) (b : Nat) :
    Only ⟨commitReach.parts, commitReach.objs, []⟩ ((s.duePoints b).foldl State.applyPoint s) (s.executeBoundary b) :=
  (State.keptWrites_only ..).seq (State.meetCommit_reach ..)

/-- At a boundary every PENDING salvo of it or an earlier one is executed. -/
theorem State.executeBoundary_done {s : State} {n b : Nat} (h : (s.salvo n).state = .pending) (hb : (s.salvo n).boundary ≤ b) :
    ((s.executeBoundary b).salvo n).state = .done := by
  rw [(s.executeBoundary_after b).salvo n]
  exact State.applyPoints_done h (State.mem_duePoints_of_salvo h hb)

/-- At a boundary every Frame-class write of it or an earlier one leaves the queue. -/
theorem State.executeBoundary_frameWrites {s : State} {b : Nat} {w : FrameWrite}
    (h : w ∈ (s.executeBoundary b).ce.frameWrites) : w ∈ s.ce.frameWrites ∧ b < w.due := by
  rw [(s.executeBoundary_after b).part .frameWrites (by decide) (by decide) (by decide), s.mem_applyPoints_frameWrites] at h
  obtain ⟨hw, hp⟩ := h
  refine ⟨hw, ?_⟩
  by_contra hb
  exact (hp w.due (State.mem_duePoints_of_write hw (Nat.le_of_not_lt hb))).false

end Sys2Proof.Machine
end

section
namespace Sys2Proof.Machine
set_option Elab.async false

/-! ## The steps of a boundary -/

/-- The new role acts (R382, R383). -/
def State.actRole (s : State) (role : Option Nat) (b : Nat) : State :=
  match role with
  | some 1 => s.takeover b
  | some _ => s.demote b
  | none => s

/-- The role decided at a boundary (R370). -/
def State.roleStep (s : State) : Option Nat × State := if s.paired && s.boot.started then s.decideRole else (none, s)

theorem State.runBoundary_eq (s : State) (b : Nat) :
    s.runBoundary b = ((((s.roleStep.2.countStale b).executeBoundary b).actRole s.roleStep.1 b).restoreAt b).firnGrants
      (gridIndex ((((s.roleStep.2.countStale b).executeBoundary b).actRole s.roleStep.1 b).restoreAt b).house b) := rfl

/-- A boundary is noted as handled. -/
def State.noteBoundary (s : State) (b : Nat) : State := { s with ce := { s.ce with lastBoundary := b } }

/-- A boundary is handled. -/
def State.handleBoundary (s : State) (b : Nat) : State :=
  if s.live then (s.noteBoundary b).runBoundary b else (s.noteBoundary b).restoreAt b

/-- The standing of the pair after a boundary (R369, R380). -/
def State.endBoundary (s : State) : State := (s.onlyIf s.paired State.refreshTwin).toggleHealth

/-- The reach of the end of a boundary. -/
abbrev endReach : Reach :=
  ⟨[.out, .pinned, .ev, .tw, .flashJournal, .diskJournal],
    [Obj.twinReadiness, Obj.twinNotReady, Obj.eventCount, Obj.eventLastAt, Obj.eventLastSubject, Obj.twinCopyStale,
      Obj.twinResyncProgress, Obj.twinHealth], [0x40000004, 0x40000008]⟩

theorem State.endBoundary_only (s : State) : Only endReach s s.endBoundary := by
  unfold State.endBoundary State.onlyIf
  refine (State.toggleHealth_only ..).seq ?_
  split
  · exact (State.refreshTwin_only s).up
  · exact .refl _ s

/-- HOUSE_FRAME_BOUNDARY in a device that has not handled the boundary. -/
theorem houseFrameBoundary_next {s : State} {dt : Nat} (h : s.awake) (hb : s.ce.lastBoundary < (s.tick dt).boundaryNow) :
    exec (.houseFrameBoundary dt) s =
      .next ((s.tick dt).handleBoundary (s.tick dt).boundaryNow).endBoundary :=
  actIf_next (c := fun t => t.ce.lastBoundary < t.boundaryNow) (f := fun t => (t.handleBoundary t.boundaryNow).endBoundary) h
    (decide_eq_true hb)

/-- HOUSE_FRAME_BOUNDARY in one that has. -/
theorem houseFrameBoundary_again {s : State} {dt : Nat} (h : s.awake) (hb : (s.tick dt).boundaryNow ≤ s.ce.lastBoundary) :
    exec (.houseFrameBoundary dt) s = .next (s.tick dt) := by
  have hc : decide ((s.tick dt).ce.lastBoundary < (s.tick dt).boundaryNow) = false := decide_eq_false hb.not_gt
  exact (act_next h).trans (congrArg Host.Outcome.next (if_neg (by simp only [hc, Bool.false_eq_true, not_false_eq_true])))

/-! ## The last boundary handled -/

/-- A standby refuses whatever waits in its engine (R192), and notes no boundary by it. -/
theorem State.pump_standby_lastBoundary (k : Nat) {s : State} (h : s.standby = true) :
    (State.pump k s).ce.lastBoundary = s.ce.lastBoundary := by
  induction k generalizing s with
  | zero => rfl
  | succ k ih =>
    unfold State.pump
    split
    · next e rest _ _ =>
      have hr : State.runOp { s with ce := { s.ce with queue := rest } } e =
          State.refuseSalvo { s with ce := { s.ce with queue := rest } } e e.op.number Code.twinStandby := by
        have hs : State.standby { s with ce := { s.ce with queue := rest } } = true := h
        simp only [State.runOp, State.salvoRefusal, hs, if_true]
      rw [hr, ih]
      · exact (State.refuseSalvo_only ..).lastBoundary
      · refine Eq.trans ?_ h
        simp only [State.standby]
        rw [(State.refuseSalvo_only ..).n Obj.twinRole 0 (by decide) (by decide)]
        rfl
    · rfl

theorem State.dropWait_lastBoundary (s : State) : s.dropWait.ce.lastBoundary = s.ce.lastBoundary := by
  unfold State.dropWait
  split
  · exact (State.refuseSalvo_only ..).lastBoundary
  · rfl

theorem State.demote_lastBoundary (s : State) (b : Nat) : (s.demote b).ce.lastBoundary = s.ce.lastBoundary := by
  unfold State.demote
  extract_lets t1 x t3 t4 t5 y z t6
  have role1 : t1.n Obj.twinRole 0 = 2 := by
    refine ((State.journalRole_only ..).n Obj.twinRole 0).trans ?_
    rw [State.n_setN_ne _ _ _ _ _ _ (by decide), State.n_setN_self]
  have role4 : t4.n Obj.twinRole 0 = t1.n Obj.twinRole 0 :=
    ((State.dropWait_only (t3.discardUnexecuted false)).n Obj.twinRole 0).trans
      (((State.discardUnexecuted_only t3 false).n Obj.twinRole 0 (by decide) (by decide)).trans
        ((State.refreshTxAll_only ..).n Obj.twinRole 0 (by decide) (by decide)))
  have standby4 : t4.standby = true := by rw [State.standby, role4, role1, beq_self_eq_true]
  have last1 : t1.ce.lastBoundary = s.ce.lastBoundary :=
    (State.journalRole_only ..).lastBoundary.trans ((State.setN_only ..).lastBoundary.trans (State.setN_only ..).lastBoundary)
  have last3 : t3.ce.lastBoundary = t1.ce.lastBoundary := by
    unfold t3
    exact (State.refreshTxAll_only ..).lastBoundary
  have last4 : t4.ce.lastBoundary = t3.ce.lastBoundary := by
    unfold t4
    exact (State.dropWait_lastBoundary _).trans (State.discardUnexecuted_only ..).lastBoundary
  have last5 : t5.ce.lastBoundary = t4.ce.lastBoundary := by
    unfold t5
    exact State.pump_standby_lastBoundary _ standby4
  have last6 : t6.ce.lastBoundary = t5.ce.lastBoundary := by
    clear_value t5
    rfl
  rw [(State.refreshTwin_only _).lastBoundary, (State.resyncCause_only _).lastBoundary, (State.raiseTwin_only ..).lastBoundary,
    (State.setN_only ..).lastBoundary, last6, last5, last4, last3, last1]

theorem State.actRole_lastBoundary (s : State) (role : Option Nat) (b : Nat) :
    (s.actRole role b).ce.lastBoundary = s.ce.lastBoundary := by
  unfold State.actRole
  split
  · exact (State.takeover_only ..).lastBoundary
  · exact s.demote_lastBoundary b
  · rfl

theorem State.actRole_frameWrites (s : State) (role : Option Nat) (b : Nat) :
    (s.actRole role b).ce.frameWrites = s.ce.frameWrites := by
  unfold State.actRole
  split
  · exact (State.takeover_only ..).part .frameWrites (by decide) (by decide) (by decide)
  · exact (State.demote_only ..).part .frameWrites (by decide) (by decide) (by decide)
  · rfl

theorem State.roleStep_lastBoundary (s : State) : s.roleStep.2.ce.lastBoundary = s.ce.lastBoundary := by
  unfold State.roleStep
  split
  · exact (State.decideRole_only s).lastBoundary
  · rfl

theorem State.runBoundary_lastBoundary (s : State) (b : Nat) : (s.runBoundary b).ce.lastBoundary = s.ce.lastBoundary := by
  rw [s.runBoundary_eq b]
  calc _ = (((s.roleStep.2.countStale b).executeBoundary b).actRole s.roleStep.1 b).ce.lastBoundary :=
        (State.firnGrants_only ..).lastBoundary.trans (State.restoreAt_only ..).lastBoundary
    _ = (s.roleStep.2.countStale b).ce.lastBoundary :=
        (State.actRole_lastBoundary ..).trans (State.executeBoundary_only ..).lastBoundary
    _ = s.ce.lastBoundary := (State.countStale_only ..).lastBoundary.trans s.roleStep_lastBoundary

theorem State.runBoundary_frameWrites {s : State} {b : Nat} {w : FrameWrite} (h : w ∈ (s.runBoundary b).ce.frameWrites) :
    b < w.due := by
  rw [s.runBoundary_eq b, (State.firnGrants_only ..).part .frameWrites (by decide) (by decide) (by decide),
    (State.restoreAt_only ..).part .frameWrites (by decide) (by decide) (by decide), State.actRole_frameWrites] at h
  exact (State.executeBoundary_frameWrites h).2

theorem State.handleBoundary_lastBoundary (s : State) (b : Nat) : (s.handleBoundary b).ce.lastBoundary = b := by
  unfold State.handleBoundary
  split
  · exact State.runBoundary_lastBoundary ..
  · exact (State.restoreAt_only ..).lastBoundary

/-- Where the essence path runs no write that is due waits any longer. -/
theorem State.handleBoundary_frameWrites {s : State} {b : Nat} {w : FrameWrite} (hl : s.live = true)
    (h : w ∈ (s.handleBoundary b).ce.frameWrites) : b < w.due := by
  unfold State.handleBoundary at h
  rw [if_pos hl] at h
  exact State.runBoundary_frameWrites h

end Sys2Proof.Machine
end

section
namespace Sys2Proof.Machine
set_option Elab.async false

/-! ## Boundaries of an unpaired device -/

theorem State.runBoundary_unpaired {s : State} (h : s.n Obj.twinPaired 0 = 0) (b : Nat) :
    s.runBoundary b = (((s.countStale b).executeBoundary b).restoreAt b).firnGrants
      (gridIndex (((s.countStale b).executeBoundary b).restoreAt b).house b) := by
  have hp : s.paired = false := by simp [State.paired, State.b, Objs.b, show Objs.n s.objs Obj.twinPaired 0 = 0 from h]
  have hr : s.roleStep = (none, s) := by simp [State.roleStep, hp]
  rw [s.runBoundary_eq b, hr]
  rfl

theorem State.restoreAt_none {s : State} (h : s.boot.restoreDue = none) (b : Nat) : s.restoreAt b = s := by
  simp [State.restoreAt, h, State.onlyIf]

/-- The state in which what is due at a boundary takes force in an unpaired device. -/
def State.beforeDue (s : State) (b : Nat) : State := (s.noteBoundary b).countStale b

/-- What comes before that of a boundary. -/
abbrev beforeReach : Reach :=
  ⟨[.out, .fresh, .pinned, .ev, .tw, .engine, .flashJournal, .diskJournal],
    [Obj.twinCopyStale, Obj.twinResyncProgress, Obj.twinCopiesDiscarded, Obj.eventCount, Obj.eventLastAt, Obj.eventLastSubject],
    [0x40000004, 0x40000008]⟩

theorem State.noteBoundary_only (s : State) (b : Nat) : Only ⟨[.engine], [], []⟩ s (s.noteBoundary b) :=
  .upd fun p => by cases p <;> first | exact .inr rfl | exact .inl (by decide)

theorem State.beforeDue_only (s : State) (b : Nat) : Only beforeReach s (s.beforeDue b) :=
  (State.countStale_only ..).seq (s.noteBoundary_only b).up

/-- What comes after it. -/
abbrev afterReach : Reach :=
  ⟨[.out, .pinned, .ev, .tw, .flashJournal, .cq, .diskJournal], Obj.cqFirnState :: endReach.objs, [0x40000004, 0x40000008]⟩

/-- A boundary in an unpaired device without a restore commit: what is due takes force, and little else changes after it. -/
theorem State.handleBoundary_unpaired {s : State} (hl : s.live = true) (hp : s.n Obj.twinPaired 0 = 0)
    (hr : s.boot.restoreDue = none) (b : Nat) :
    ∃ k, s.handleBoundary b = ((s.beforeDue b).executeBoundary b).firnGrants k := by
  have hn : ((s.beforeDue b).executeBoundary b).boot.restoreDue = none := by
    rw [(State.executeBoundary_only ..).part .boot (by decide) (by decide) (by decide),
      (s.beforeDue_only b).part .boot (by decide) (by decide) (by decide), hr]
  refine ⟨gridIndex ((s.beforeDue b).executeBoundary b).house b,
    (if_pos hl).trans ((State.runBoundary_unpaired (s := s.noteBoundary b) hp b).trans ?_)⟩
  rw [show (s.noteBoundary b).countStale b = s.beforeDue b from rfl, State.restoreAt_none hn]

/-- PENDING salvos of a boundary are DONE after it. -/
theorem State.handleBoundary_done {s : State} {n b : Nat} (hl : s.live = true) (hp : s.n Obj.twinPaired 0 = 0)
    (h : (s.salvo n).state = .pending) (hb : (s.salvo n).boundary ≤ b) : ((s.handleBoundary b).salvo n).state = .done := by
  have hs : (s.beforeDue b).salvo n = s.salvo n := (s.beforeDue_only b).salvo n
  have hd := State.executeBoundary_done (s := s.beforeDue b) (hs ▸ h) (hs ▸ hb)
  rw [State.handleBoundary, if_pos hl, State.runBoundary_unpaired (s := s.noteBoundary b) hp b,
    (State.firnGrants_only ..).salvo n, (State.restoreAt_only ..).salvo n]
  exact hd

/-! ## A single write that is due -/

theorem State.heldSalvos_nil {s : State} (h : s.ce.salvos = []) : s.heldSalvos = [] := by
  simp [State.heldSalvos, h, sortBy]

theorem State.dueSalvos_nil {s : State} (h : s.ce.salvos = []) (b : Nat) : s.dueSalvos b = [] := by
  simp [State.dueSalvos, State.heldSalvos_nil h]

theorem State.duePoints_of_write {s : State} {w : FrameWrite} {b : Nat} (hw : s.ce.frameWrites = [w]) (hd : w.due ≤ b)
    (hs : s.ce.salvos = []) : s.duePoints b = [w.due] := by
  simp [State.duePoints, hw, State.dueSalvos_nil hs, hd, sortBy, insertBy, List.eraseDups, List.eraseDupsBy, List.eraseDupsBy.loop]

/-- The value of a write is in force from its boundary on. -/
theorem State.executeBoundary_write {s : State} {w : FrameWrite} {b : Nat} (hw : s.ce.frameWrites = [w]) (hd : w.due ≤ b)
    (hs : s.ce.salvos = []) (hc : commitOf w.addr = .frame) (hg : adrIndex w.addr ≠ Obj.layerGfxFlip)
    (ht : adrIndex w.addr ≠ Obj.colTableFlip) : Objs.val (s.executeBoundary b).objs w.addr = w.val := by
  have hk := committed_kept _ (mem_committed (.inr hc))
  rw [(s.executeBoundary_after b).obj (by decide) w.addr hk, State.duePoints_of_write hw hd hs]
  have hp : s.applyPoint w.due = s.writesDue w.due := by
    rw [s.applyPoint_eq w.due, State.dueSalvos_nil ((s.writesDue_salvos w.due).trans hs)]
    rfl
  have hl : (s.dueWrites w.due).1 = [⟨0, w.addr, w.val⟩] := by simp [State.dueWrites, hw]
  rw [List.foldl_cons, List.foldl_nil, hp, State.writesDue, (State.flips_reach ..).obj (by decide) _ (by simp [hg, ht]), hl]
  exact (Objs.val_set ..).trans (if_pos rfl)

/-! ## A single salvo that is due -/

theorem State.dueSalvos_single {s : State} {n b : Nat} {y : Salvo} (h : s.ce.salvos = [(n, y)]) (hy : y.state = .pending)
    (hb : y.boundary ≤ b) : s.dueSalvos b = [(n, y)] := by
  simp [State.dueSalvos, State.heldSalvos, h, hy, hb, sortBy, insertBy]

theorem State.duePoints_single {s : State} {n b : Nat} {y : Salvo} (h : s.ce.salvos = [(n, y)]) (hy : y.state = .pending)
    (hb : y.boundary ≤ b) (hw : s.ce.frameWrites = []) : s.duePoints b = [y.boundary] := by
  simp [State.duePoints, State.dueSalvos_single h hy hb, hw, sortBy, insertBy, List.eraseDups, List.eraseDupsBy, List.eraseDupsBy.loop]

/-- Without Frame-class writes a point leaves the state to its salvos. -/
theorem State.writesDue_nil {s : State} (h : s.ce.frameWrites = []) (b : Nat) : s.writesDue b = s := by
  have hl : s.dueWrites b = ([], s) := by
    simp only [State.dueWrites, h, List.filter_nil]
    exact Prod.ext rfl (congrArg (fun l : List FrameWrite => ({ s with ce := { s.ce with frameWrites := l } } : State)) h.symm)
  simp only [State.writesDue, hl]
  rfl

/-- A single salvo that is due is executed, and the blocks meet its changes. -/
theorem State.executeBoundary_single {s : State} {n b : Nat} {y : Salvo} (h : s.ce.salvos = [(n, y)]) (hy : y.state = .pending)
    (hb : y.boundary ≤ b) (hw : s.ce.frameWrites = []) :
    s.executeBoundary b = ((s.salvoDone n).meetCommit s.objs y.changes b).keptWrites [] := by
  have hp : s.applyPoint y.boundary = s.salvoDone n := by
    rw [s.applyPoint_eq y.boundary, State.writesDue_nil hw, State.dueSalvos_single h hy le_rfl]
    rfl
  have hl : (s.dueWrites b).1 = [] := by simp [State.dueWrites, hw]
  simp [State.executeBoundary, State.dueSalvos_single h hy hb, State.duePoints_single h hy hb hw, hp, hl]

/-! ### The routes of a salvo -/

/-- A destination's route names a boundary and a salvo (R213). -/
def State.RouteNames (s : State) (d salvo boundary : Nat) : Prop :=
  s.n Obj.routeTakenAt d = boundary / tcNs ∧ s.n Obj.routeSalvo d = salvo

theorem Only.routeNames {r : Reach} {s t : State} {d salvo boundary : Nat} (h : Only r s t)
    (g : s.RouteNames d salvo boundary) (hp : Part.objs ∉ r.parts := by decide)
    (h1 : Obj.routeTakenAt ∉ r.objs := by decide) (h2 : Obj.routeSalvo ∉ r.objs := by decide) :
    t.RouteNames d salvo boundary := ⟨(h.n _ d hp h1).trans g.1, (h.n _ d hp h2).trans g.2⟩

/-- Marks on a route, of any destination. -/
theorem State.RouteNames.mark {s : State} {d salvo boundary : Nat} (k : Nat)
    (h : k % 65536 ≠ d % 65536 → s.RouteNames d salvo boundary) :
    ((s.setN Obj.routeTakenAt k (boundary / tcNs)).setN Obj.routeSalvo k salvo).RouteNames d salvo boundary := by
  unfold State.RouteNames at *
  rw [State.n_setN_ne _ _ _ _ _ _ (by decide), State.n_setN, State.n_setN]
  by_cases e : d % 65536 = k % 65536
  · simp [e]
  · rw [if_neg fun x => e x.2, if_neg fun x => e x.2, State.n_setN_ne _ _ _ _ _ _ (by decide)]
    exact h fun x => e x.symm

/-- What one change does. -/
theorem State.markRoutes_cons (s : State) (old : Objs) (c : Change) (l : List Change) (salvo boundary : Nat) :
    s.markRoutes old (c :: l) salvo boundary = (s.markRoutes old [c] salvo boundary).markRoutes old l salvo boundary := rfl

theorem State.markRoutes_one_keeps {s : State} {d salvo boundary : Nat} (old : Objs) (c : Change)
    (h : s.RouteNames d salvo boundary) : (s.markRoutes old [c] salvo boundary).RouteNames d salvo boundary := by
  unfold State.markRoutes
  rw [List.foldl_cons, List.foldl_nil]
  extract_lets k
  split
  · exact (State.setDst_only ..).routeNames (.mark k fun _ => h)
  · exact h

theorem State.markRoutes_keeps {s : State} {d salvo boundary : Nat} (old : Objs) (l : List Change)
    (h : s.RouteNames d salvo boundary) : (s.markRoutes old l salvo boundary).RouteNames d salvo boundary := by
  induction l generalizing s with
  | nil => exact h
  | cons c l ih => exact ih (State.markRoutes_one_keeps old c h)

/-- A route that changes names the boundary and the salvo. -/
theorem State.markRoutes_marks {s : State} {old : Objs} {l : List Change} {c : Change} {d : Nat} (salvo boundary : Nat)
    (hd : Objs.val old (adr Obj.route d) ≠ Objs.val s.objs (adr Obj.route d)) (h : c ∈ l) (hc : c.addr = adr Obj.route d) :
    (s.markRoutes old l salvo boundary).RouteNames d salvo boundary := by
  induction l generalizing s with
  | nil => cases h
  | cons x l ih =>
    rw [s.markRoutes_cons]
    rcases List.mem_cons.1 h with rfl | h
    · refine State.markRoutes_keeps old l ?_
      unfold State.markRoutes
      rw [List.foldl_cons, List.foldl_nil, hc]
      extract_lets k
      rw [if_pos (by simpa [adrIndex_adr] using hd)]
      exact (State.setDst_only ..).routeNames (.mark k fun e => absurd (show k % 65536 = d % 65536 by simp [k, adrSub, adr]) e)
    · refine ih ?_ h
      rw [(State.markRoutes_only s old [x] salvo boundary).obj (by decide) _ (by rw [adrIndex_adr]; decide)]
      exact hd

end Sys2Proof.Machine
end

section
namespace Sys2Proof.Machine
set_option Elab.async false

/-! ### A salvo executed -/

/-- The values of a salvo are in force, and its routes are marked. -/
def State.salvoInForce (s : State) (n : Nat) : State :=
  let x := s.salvo n
  ((({ s with objs := Objs.overlay s.objs x.changes } : State).markRoutes s.objs x.changes n x.boundary).markLabels s.objs
    x.boundary).flips x.changes x.boundary

/-- A salvo becomes DONE. -/
def State.setDone (s : State) (n : Nat) (x : Salvo) : State :=
  let t := s.setSalvo n { x with state := .done, reads := [], prejoined := [] }
  if t.active then { t with ce := { t.ce with executed := t.ce.executed ++ [(n, x.boundary)] } } else t

theorem State.setDone_only (s : State) (n : Nat) (x : Salvo) : Only ⟨[.salvos], [], []⟩ s (s.setDone n x) := by
  unfold State.setDone
  extract_lets t
  have ht : Only ⟨[.salvos], [], []⟩ s t := State.setSalvo_only ..
  exact .ite (Only.seq (a := ⟨[.salvos], [], []⟩)
    (.upd fun p => by cases p <;> first | exact .inr rfl | exact .inl (by decide)) ht) ht

/-- The rest of a salvo's execution: it is DONE, it is counted and journalled, and its event is raised. -/
theorem State.salvoDone_eq (s : State) (n : Nat) : ∃ data, s.salvoDone n =
    ((((s.salvoInForce n).setDone n (s.salvo n)).bump Obj.takesExecuted 0).journal 2 data).raise Ev.salvoTaken n := ⟨_, rfl⟩

/-- What that rest may change. -/
abbrev doneReach : Reach :=
  ⟨[.salvos, .out, .pinned, .ev, .flashJournal, .diskJournal], Obj.takesExecuted :: eventObjs, [0x40000004, 0x40000008]⟩

theorem State.salvoDone_after (s : State) (n : Nat) : Only doneReach (s.salvoInForce n) (s.salvoDone n) := by
  obtain ⟨data, e⟩ := s.salvoDone_eq n
  rw [e]
  exact (State.raise_only ..).seq ((State.journal_only ..).seq ((State.bump_only ..).seq (State.setDone_only ..).up (by decide)))

/-- The objects of a salvo that is executed, but for marks and flips. -/
theorem State.salvoInForce_val (s : State) (n a : Nat)
    (h : adrIndex a ∉ [Obj.layerGfxFlip, Obj.colTableFlip, Obj.routeTakenAt, Obj.routeSalvo]) :
    Objs.val (s.salvoInForce n).objs a = Objs.val (Objs.overlay s.objs (s.salvo n).changes) a := by
  simp only [List.mem_cons, List.not_mem_nil, or_false, not_or] at h
  obtain ⟨hg, ht, hr, hs⟩ := h
  refine ((State.flips_reach ..).obj (by decide) a (by simp [hg, ht])).trans (((State.markLabels_only ..).obj (by decide) a List.not_mem_nil).trans ?_)
  exact (State.markRoutes_only ..).obj (by decide) a (by simp [hr, hs])

/-- An object of another class keeps its value. -/
theorem State.salvoInForce_n_kept {s : State} {n : Nat}
    (hc : ∀ c ∈ (s.salvo n).changes, commitOf c.addr = .take ∨ commitOf c.addr = .frame) (i k : Nat)
    (h : i ∉ committed := by decide +kernel) (h' : i ∉ [Obj.routeTakenAt, Obj.routeSalvo] := by decide) :
    (s.salvoInForce n).n i k = s.n i k := by
  have hne (j : Nat) (hj : j ∈ committed) : i ≠ j := fun e => h (e ▸ hj)
  have flip : i ≠ Obj.layerGfxFlip ∧ i ≠ Obj.colTableFlip := ⟨hne _ (by decide +kernel), hne _ (by decide +kernel)⟩
  rw [State.n_eq, State.n_eq, s.salvoInForce_val n _ (by simpa [adrIndex_adr, flip] using h')]
  rw [Objs.val_overlay_of_notMem fun c hm e => h ?_]
  have := mem_committed (hc c hm)
  rwa [e, adrIndex_adr] at this

/-! ### Its event -/

theorem Only.ptp {r : Reach} {s t : State} (h : Only r s t) (hp : Part.tc ∉ r.parts := by decide) : t.ptp = s.ptp := by
  rw [State.ptp, h.tcEq hp, State.ptp]

/-- Events that others raise leave a source as it was raised. -/
theorem Raised.after {l : List Nat} {src subj : Nat} {s t u : State} (h : Raised src subj s t) (g : Raises l t u)
    (hp : u.ptp = t.ptp) (hl : src % 65536 ∉ l := by decide) (hc : src % 65536 ≠ Ev.counterPinned := by decide) :
    Raised src subj s u := by
  obtain ⟨count, subject, at_⟩ := h
  exact ⟨(g.kept src hl hc _ (by decide)).trans count, (g.kept src hl hc _ (by decide)).trans subject,
    (g.kept src hl hc _ (by decide)).trans (at_.trans hp.symm)⟩

theorem Raised.before {l : List Nat} {src subj : Nat} {s t u : State} (h : Raised src subj t u) (g : Raises l s t)
    (hl : src % 65536 ∉ l := by decide) (hc : src % 65536 ≠ Ev.counterPinned := by decide) : Raised src subj s u := by
  rw [Raised, g.kept src hl hc _ (by decide)] at h
  exact h

theorem State.salvoDone_raised {s : State} {n : Nat}
    (hc : ∀ c ∈ (s.salvo n).changes, commitOf c.addr = .take ∨ commitOf c.addr = .frame) :
    Raised Ev.salvoTaken n s (s.salvoDone n) := by
  obtain ⟨data, e⟩ := s.salvoDone_eq n
  have hf : Raises [] s (s.salvoInForce n) := ⟨fun src _ _ i hi => by
    have hi' : i ∉ committed ∧ i ∉ [Obj.routeTakenAt, Obj.routeSalvo] := by
      revert i; decide +kernel
    exact State.salvoInForce_n_kept hc i src hi'.1 hi'.2⟩
  have hb : Raises [] s ((((s.salvoInForce n).setDone n (s.salvo n)).bump Obj.takesExecuted 0).journal 2 data) :=
    .still (State.journal_only ..) ((State.bump_raises (l := []) ..).seq (.still (State.setDone_only ..) hf))
  rw [e]
  refine .before ⟨(State.raise_reads _ _ _ (by decide)).1, (State.raise_reads _ _ _ (by decide)).2.1, ?_⟩ hb
  rw [(State.raise_only ..).ptp]
  exact (State.raise_reads _ _ _ (by decide)).2.2

/-! ### Events before and after it -/

theorem State.raiseLimited_raises (s : State) (src scope subj : Nat) :
    Raises [src % 65536] s (s.raiseLimited src scope subj) := by
  unfold State.raiseLimited
  extract_lets hit held s1
  refine .ite (.refl s) (.seq (a := [src % 65536]) (t := s1) ?_ (s.raise_raises src subj) fun _ => id)
  exact .of_objs rfl

theorem State.countStale_raises (s : State) (b : Nat) : Raises [Ev.twinCopyDiscarded] s (s.countStale b) := by
  unfold State.countStale
  refine .ite (.refl s) (.ite (.of_only (State.setN_only ..)) ?_)
  extract_lets t1 t2
  have h1 : Raises [Ev.twinCopyDiscarded] s t1 := .of_only (State.setN_only ..)
  have h2 : Raises [Ev.twinCopyDiscarded] s t2 := .ite (.still (State.resyncCause_only ..) h1) h1
  exact .ite ((State.raiseLimited_raises ..).seq ((State.bump_raises ..).seq h2 fun _ => id)) h2

theorem State.firnGrants_raises (s : State) (n : Nat) : Raises [Ev.cqFirnWait] s (s.firnGrants n) := by
  unfold State.firnGrants
  extract_lets w t
  refine .foldl (fun u p => .of_only (State.setN_only ..)) (.foldl (fun u p => ?_) (.refl s))
  exact .ite ((State.raise_raises ..).seq (.of_only (State.setEngine_only ..))) (.refl u)

end Sys2Proof.Machine
end

section
namespace Sys2Proof.Machine
set_option Elab.async false

/-! ### The boundary of a single salvo -/

/-- A single salvo that is due takes force with the boundary. -/
structure SalvoTaken (n : Nat) (y : Salvo) (d r : Nat) (s t : State) : Prop where
  done : (t.salvo n).state = .done
  route : t.n Obj.route d = r
  names : t.RouteNames d n y.boundary
  raised : Raised Ev.salvoTaken n s t
  unpaired : t.n Obj.twinPaired 0 = s.n Obj.twinPaired 0

theorem SalvoTaken.after {q : Reach} {l : List Nat} {n : Nat} {y : Salvo} {d r : Nat} {s t u : State}
    (h : SalvoTaken n y d r s t) (g : Only q t u) (e : Raises l t u)
    (hp : Part.objs ∉ q.parts ∧ Part.salvos ∉ q.parts ∧ Part.tc ∉ q.parts := by decide)
    (ho : ∀ i ∈ [Obj.route, Obj.routeTakenAt, Obj.routeSalvo, Obj.twinPaired], i ∉ q.objs := by decide)
    (hl : Ev.salvoTaken % 65536 ∉ l := by decide) : SalvoTaken n y d r s u where
  done := by rw [g.salvo n hp.2.1, h.done]
  route := (g.n _ d hp.1 (ho _ (by decide))).trans h.route
  names := g.routeNames h.names hp.1 (ho _ (by decide)) (ho _ (by decide))
  raised := h.raised.after e (g.ptp hp.2.2) hl
  unpaired := (g.n _ 0 hp.1 (ho _ (by decide))).trans h.unpaired

theorem State.salvoDone_taken {s : State} {n : Nat} {y : Salvo} {k d r : Nat} (hy : s.salvo n = y)
    (hc : ∀ c ∈ y.changes, commitOf c.addr = .take ∨ commitOf c.addr = .frame) (hn : (y.changes.map (·.addr)).Nodup)
    (hr : ⟨k, adr Obj.route d, .num r⟩ ∈ y.changes) (hd : s.n Obj.route d ≠ r) :
    SalvoTaken n y d r s (s.salvoDone n) := by
  subst hy
  have overlaid : Objs.val (Objs.overlay s.objs (s.salvo n).changes) (adr Obj.route d) = .num r :=
    Objs.val_overlay_of_mem hr hn
  refine ⟨s.salvoDone_salvo_self n, ?_, ?_, State.salvoDone_raised hc, ?_⟩
  · rw [(s.salvoDone_after n).n Obj.route, State.n_eq, s.salvoInForce_val n _ (by rw [adrIndex_adr]; decide), overlaid]
    rfl
  · refine (s.salvoDone_after n).routeNames ((State.flips_reach ..).routeNames ((State.markLabels_only ..).routeNames ?_))
    refine State.markRoutes_marks n _ (fun e => hd ?_) hr rfl
    rw [State.n_eq, e.trans overlaid]
    rfl
  · rw [(s.salvoDone_after n).n Obj.twinPaired, State.salvoInForce_n_kept hc Obj.twinPaired]

theorem State.endBoundary_unpaired {s : State} (h : s.n Obj.twinPaired 0 = 0) : s.endBoundary = s.toggleHealth := by
  have hp : s.paired = false := by simp [State.paired, State.b, Objs.b, show Objs.n s.objs Obj.twinPaired 0 = 0 from h]
  rw [State.endBoundary, hp]
  rfl

theorem State.handleBoundary_taken {s : State} {n b : Nat} {y : Salvo} {k d r : Nat} (hl : s.live = true)
    (hp : s.n Obj.twinPaired 0 = 0) (hres : s.boot.restoreDue = none) (hw : s.ce.frameWrites = []) (hs : s.ce.salvos = [(n, y)])
    (hy : y.state = .pending) (hb : y.boundary ≤ b) (hn : (y.changes.map (·.addr)).Nodup)
    (hc : ∀ c ∈ y.changes, commitOf c.addr = .take ∨ commitOf c.addr = .frame)
    (hr : ⟨k, adr Obj.route d, .num r⟩ ∈ y.changes) (hd : s.n Obj.route d ≠ r) :
    SalvoTaken n y d r s (s.handleBoundary b).endBoundary := by
  let u := s.beforeDue b
  have hu : Only beforeReach s u := s.beforeDue_only b
  have hus : u.ce.salvos = [(n, y)] := hu.ceSalvos.trans hs
  have huw : u.ce.frameWrites = [] := (hu.part .frameWrites (by decide) (by decide) (by decide)).trans hw
  have before : Raises [Ev.twinCopyDiscarded] s u := (State.countStale_raises ..).seq (.of_only (s.noteBoundary_only b))
  have hd' : u.n Obj.route d ≠ r := by rwa [hu.n Obj.route]
  have hun : u.salvo n = y := by simp [State.salvo, hus, look]
  have done := State.salvoDone_taken hun hc hn hr hd'
  have met := done.after (State.meetCommit_reach _ u.objs y.changes b) (State.meetCommit_raises ..)
  have kept := met.after (State.keptWrites_only _ []) (.of_only (l := []) (State.keptWrites_only ..))
  rw [← State.executeBoundary_single hus hy hb huw] at kept
  obtain ⟨g, e⟩ := State.handleBoundary_unpaired hl hp hres b
  have granted := kept.after (State.firnGrants_only _ g) (State.firnGrants_raises ..)
  have ended := granted.after (State.toggleHealth_only _) (.of_only (l := []) (State.toggleHealth_only ..))
  have hpu : u.n Obj.twinPaired 0 = s.n Obj.twinPaired 0 := hu.n Obj.twinPaired 0
  rw [e, State.endBoundary_unpaired (granted.unpaired.trans (hpu.trans hp))]
  exact ⟨ended.done, ended.route, ended.names, ended.raised.before before, ended.unpaired.trans hpu⟩

/-- The value of a single write that is due is in force after its boundary, and none waits. -/
theorem State.handleBoundary_write {s : State} {w : FrameWrite} {b : Nat} (hl : s.live = true)
    (hp : s.n Obj.twinPaired 0 = 0) (hres : s.boot.restoreDue = none) (hw : s.ce.frameWrites = [w]) (hd : w.due ≤ b)
    (hs : s.ce.salvos = []) (hc : commitOf w.addr = .frame) (hg : adrIndex w.addr ≠ Obj.layerGfxFlip)
    (ht : adrIndex w.addr ≠ Obj.colTableFlip) :
    Objs.val (s.handleBoundary b).endBoundary.objs w.addr = w.val ∧ (s.handleBoundary b).endBoundary.ce.frameWrites = [] := by
  have hu : Only beforeReach s (s.beforeDue b) := s.beforeDue_only b
  have huw := (hu.part .frameWrites (by decide) (by decide) (by decide)).trans hw
  obtain ⟨k, e⟩ := State.handleBoundary_unpaired hl hp hres b
  have after : Only afterReach ((s.beforeDue b).executeBoundary b) (s.handleBoundary b).endBoundary :=
    (State.endBoundary_only _).seq (e ▸ (State.firnGrants_only _ k).up)
  have kept : ∀ i ∈ committed, i ∉ afterReach.objs := by decide +kernel
  constructor
  · rw [after.obj (by decide) w.addr (kept _ (mem_committed (.inr hc)))]
    exact State.executeBoundary_write huw hd (hu.ceSalvos.trans hs) hc hg ht
  · rw [after.part .frameWrites (by decide) (by decide) (by decide)]
    refine List.eq_nil_iff_forall_not_mem.2 fun x hx => ?_
    obtain ⟨hm, hb⟩ := State.executeBoundary_frameWrites hx
    rw [huw, List.mem_singleton] at hm
    exact hb.not_ge (hm ▸ hd)

/-- Settles O33: what is due at a boundary is found among its points, and nothing that follows it undoes what it does. -/
theorem boundaryActs : Obligations.BoundaryActs := by
  unfold Obligations.BoundaryActs
  refine ⟨?_, ?_, ?_, ?_, ?_⟩
  · rintro s dt b hs rfl hb
    refine ⟨_, houseFrameBoundary_next hs hb, ?_, fun hl w hw => ?_⟩
    · rw [(State.endBoundary_only _).lastBoundary, State.handleBoundary_lastBoundary]
    · rw [(State.endBoundary_only _).part .frameWrites (by decide) (by decide) (by decide)] at hw
      exact State.handleBoundary_frameWrites (s := s.tick dt) hl hw
  · exact fun s dt hs hb => ⟨_, houseFrameBoundary_again hs hb, rfl⟩
  · rintro s dt b ⟨hs, hl⟩ hp rfl hb
    refine ⟨_, houseFrameBoundary_next hs hb, fun n hn hd => ?_⟩
    rw [(State.endBoundary_only _).salvo n]
    exact State.handleBoundary_done (s := s.tick dt) hl hp hn hd
  · rintro s dt b w ⟨hs, hl⟩ hp hr rfl hb hw hd hc hv hg ht
    exact ⟨_, houseFrameBoundary_next hs hb, State.handleBoundary_write (s := s.tick dt) hl hp hr hw hd hv hc hg ht⟩
  · rintro s dt b n y k d r ⟨hs, hl⟩ hp hres rfl hb hw hv hy hyb hn - hc hr hd
    have taken := State.handleBoundary_taken (s := s.tick dt) hl hp hres hw hv hy hyb hn hc hr hd
    exact ⟨_, houseFrameBoundary_next hs hb, taken.done, taken.route, taken.names.1, taken.names.2, taken.raised⟩

end Sys2Proof.Machine
end

section
/-!
SUPPORT. What the sessions have no part in: the same state with other sessions (`State.withSessions`) reads, checks and settles
alike.
-/
namespace Sys2Proof.Machine
set_option Elab.async false

/-- The state with other sessions. -/
def State.withSessions (s : State) (l : Table Session) : State := { s with il := { s.il with sessions := l } }

section
variable (s : State) (l : Table Session)

variable {s l} in
/-- Two branches alike in a condition alike. -/
theorem State.ite_withSessions {c c' : Prop} [Decidable c] [Decidable c'] {t a a' : State} (hc : c ↔ c')
    (h : a = s.withSessions l) (h' : a' = t.withSessions l) : (if c then a else a') = (if c' then s else t).withSessions l := by
  rw [if_congr hc h h']
  exact (apply_ite (State.withSessions · l) ..).symm

variable {l} in
theorem State.foldl_withSessions {α : Type} {f : State → α → State}
    (h : ∀ u x, f (u.withSessions l) x = (f u x).withSessions l) (xs : List α) (u : State) :
    xs.foldl f (u.withSessions l) = (xs.foldl f u).withSessions l := by
  induction xs generalizing u with
  | nil => rfl
  | cons x xs ih => rw [List.foldl_cons, h, ih, List.foldl_cons]

/-! ## Images -/

theorem State.flashBytes_withSessions : (s.withSessions l).flashBytes = s.flashBytes := by
  funext a n
  induction n generalizing a with
  | zero => rfl
  | succ n ih => exact congrArg (s.flashByte a :: ·) (ih (a + 1))

theorem State.imageN_withSessions : (s.withSessions l).imageN = s.imageN := by
  unfold State.imageN
  rw [s.flashBytes_withSessions l]

theorem State.headerOk_withSessions (kind base : Nat) : (s.withSessions l).headerOk kind base = s.headerOk kind base := by
  unfold State.headerOk State.imageLength State.imageSigs State.imageBody
  rw [s.flashBytes_withSessions l, s.imageN_withSessions l]

theorem State.sigSigner_withSessions : (s.withSessions l).sigSigner = s.sigSigner := by
  unfold State.sigSigner
  rw [s.flashBytes_withSessions l, s.imageN_withSessions l]
  rfl

theorem State.signedFor_withSessions (kind base : Nat) (r : Bool) :
    (s.withSessions l).signedFor kind base r = s.signedFor kind base r := by
  unfold State.signedFor State.signers State.imageSigs
  rw [s.sigSigner_withSessions l, s.imageN_withSessions l]

theorem State.imageFault_withSessions (kind base : Nat) (r : Bool) :
    (s.withSessions l).imageFault kind base r = s.imageFault kind base r := by
  unfold State.imageFault State.imageSecurity
  rw [s.headerOk_withSessions l, s.signedFor_withSessions l, s.imageN_withSessions l]
  rfl

theorem State.slotVersionOf_withSessions (k : Nat) : (s.withSessions l).slotVersionOf k = s.slotVersionOf k := by
  unfold State.slotVersionOf State.accepted State.imageVersion
  simp only [s.imageFault_withSessions l, s.imageN_withSessions l]

/-! ## Counters and events -/

theorem State.setPinned_withSessions (a : Nat) : (s.withSessions l).setPinned a = (s.setPinned a).withSessions l := by
  unfold State.setPinned
  exact State.ite_withSessions .rfl rfl rfl

theorem State.evPush_withSessions (r : EvRec) : (s.withSessions l).evPush r = (s.evPush r).withSessions l := by
  unfold State.evPush
  exact State.ite_withSessions .rfl rfl (State.ite_withSessions .rfl rfl rfl)

theorem State.setEvPin_withSessions (n : Nat) (p : EvPin) :
    (s.withSessions l).setEvPin n p = (s.setEvPin n p).withSessions l := by
  have set : (if n = 0 then { s.withSessions l with ev := { s.ev with pin0 := p } }
      else { s.withSessions l with ev := { s.ev with pin1 := p } } : State) =
      (if n = 0 then { s with ev := { s.ev with pin0 := p } } else { s with ev := { s.ev with pin1 := p } } : State).withSessions l :=
    State.ite_withSessions .rfl rfl rfl
  unfold State.setEvPin
  exact State.ite_withSessions .rfl (congrArg (State.emit · _) set) set

theorem State.assertPin_withSessions (n src : Nat) : (s.withSessions l).assertPin n src = (s.assertPin n src).withSessions l := by
  unfold State.assertPin
  refine State.ite_withSessions .rfl (s.setEvPin_withSessions l n _) ?_
  change (match (s.evPin n).pulseAt with | some _ => _ | none => _) = _
  cases (s.evPin n).pulseAt with
  | none => exact s.setEvPin_withSessions l n _
  | some t => exact State.ite_withSessions .rfl rfl (s.setEvPin_withSessions l n _)

theorem State.journal_withSessions (kind : Nat) (data : List Byte) :
    (s.withSessions l).journal kind data = (s.journal kind data).withSessions l := by
  unfold State.journal
  exact State.ite_withSessions .rfl rfl rfl

theorem State.raiseOnce_withSessions (src subj : Nat) :
    (s.withSessions l).raiseOnce src subj = (s.raiseOnce src subj).withSessions l := by
  unfold State.raiseOnce
  extract_lets t1 t2 t3 t4 m t5 t6 t7 u1 u2 u3 u4 m' u5 u6 u7
  have h3 : t3 = u3.withSessions l := rfl
  have h4 : t4 = u4.withSessions l := u3.evPush_withSessions l _
  have h5 : t5 = u5.withSessions l := State.ite_withSessions .rfl (by rw [h4]; exact u4.assertPin_withSessions ..) h4
  have h6 : t6 = u6.withSessions l := State.ite_withSessions .rfl (by rw [h5]; exact u5.assertPin_withSessions ..) h5
  have h7 : t7 = u7.withSessions l := (congrArg (State.journal · 1 _) h6).trans (u6.journal_withSessions ..)
  exact State.ite_withSessions .rfl (congrArg (State.flashJournal · 1 _) h7) h7

theorem State.raise_withSessions (src subj : Nat) : (s.withSessions l).raise src subj = (s.raise src subj).withSessions l := by
  unfold State.raise
  extract_lets a full t1 full' v1
  have h : t1 = v1.withSessions l := s.raiseOnce_withSessions ..
  refine State.ite_withSessions .rfl ?_ h
  rw [h, v1.setPinned_withSessions, State.raiseOnce_withSessions]

theorem State.bump_withSessions (i k by_ : Nat) : (s.withSessions l).bump i k by_ = (s.bump i k by_).withSessions l := by
  unfold State.bump
  refine State.ite_withSessions .rfl rfl (State.ite_withSessions .rfl rfl ?_)
  refine (congrArg (State.raise · _ _) (?_ : _ = State.withSessions _ l)).trans (State.raise_withSessions ..)
  exact State.setPinned_withSessions (s.setN i k (counterMax i k)) l _

/-! ## Source slots -/

theorem State.finishFrame_withSessions (slot seq : Nat) :
    (s.withSessions l).finishFrame slot seq = (s.finishFrame slot seq).withSessions l := by
  unfold State.finishFrame
  change (match (s.src slot).frames.find? _ with | some _ => _ | none => _) = _
  cases (s.src slot).frames.find? _ with
  | none => rfl
  | some f => exact State.bump_withSessions (State.setN (s.setSrc slot _) _ _ _) l _ _ _

theorem State.finishTimed_withSessions (slot : Nat) :
    (s.withSessions l).finishTimed slot = (s.finishTimed slot).withSessions l := by
  unfold State.finishTimed
  exact State.foldl_withSessions (fun u n => u.finishFrame_withSessions l slot n) _ s

theorem State.abandonFrame_withSessions (slot : Nat) :
    (s.withSessions l).abandonFrame slot = (s.abandonFrame slot).withSessions l := by
  unfold State.abandonFrame
  change (match (s.src slot).frames.find? _ with | some _ => _ | none => _) = _
  cases (s.src slot).frames.find? _ with
  | none => rfl
  | some f => exact State.bump_withSessions (s.setSrc slot _) l _ _ _

theorem State.refreshColour_withSessions (slot : Nat) (f : Feed) :
    (s.withSessions l).refreshColour slot f = (s.refreshColour slot f).withSessions l := by
  unfold State.refreshColour
  exact State.ite_withSessions .rfl rfl (State.ite_withSessions .rfl ((s.setN Obj.srcColourLive slot _).raise_withSessions l ..) rfl)

theorem State.refreshSlot_withSessions (slot : Nat) :
    (s.withSessions l).refreshSlot slot = (s.refreshSlot slot).withSessions l := by
  unfold State.refreshSlot
  extract_lets f reserved raw excess locked was wasOver t1 t2 t3 t4 x t y t5 f' reserved' raw' excess' locked' was' wasOver' u1 u2 u3
    u4 x' u y' u5
  have lock (a : State) (b : State) (h : a = b.withSessions l) :
      (a.setSrc slot { a.src slot with lockedAt := some a.ptp }).raise Ev.srcLocked slot =
        ((b.setSrc slot { b.src slot with lockedAt := some b.ptp }).raise Ev.srcLocked slot).withSessions l := by
    subst h
    exact State.raise_withSessions (b.setSrc slot _) l _ _
  have unlock (a : State) (b : State) (h : a = b.withSessions l) :
      (a.setSrc slot { a.src slot with lockedAt := none }).raise Ev.srcUnlocked slot =
        ((b.setSrc slot { b.src slot with lockedAt := none }).raise Ev.srcUnlocked slot).withSessions l := by
    subst h
    exact State.raise_withSessions (b.setSrc slot _) l _ _
  have h4 : t4 = u4.withSessions l := State.ite_withSessions .rfl (u3.raise_withSessions l ..) rfl
  have h : t = u.withSessions l := (congrArg (State.abandonFrame · slot) h4).trans (u4.abandonFrame_withSessions l slot)
  have h5 : t5 = u5.withSessions l := State.ite_withSessions .rfl (lock _ _ h4) (State.ite_withSessions .rfl (unlock _ _ h) h4)
  exact (congrArg (State.refreshColour · slot f) h5).trans (u5.refreshColour_withSessions l slot f)

theorem State.settle_withSessions (slot : Nat) : (s.withSessions l).settle slot = (s.settle slot).withSessions l := by
  unfold State.settle
  extract_lets t u
  have h : t = u.withSessions l := s.finishTimed_withSessions ..
  rw [h]
  exact State.ite_withSessions .rfl rfl (State.ite_withSessions .rfl (u.refreshSlot_withSessions l slot) rfl)

end

end Sys2Proof.Machine
end

section
/-!
PROOFS. Requests of sessions: reads, writes and their bulk forms (R463 to R465, R8, R9, R378).
-/
namespace Sys2Proof.Machine
set_option Elab.async false

section
variable (s : State) (l : Table Session)

/-! ## Reads -/

/-- The objects that report a session (R489). -/
def sessionObject (i : Nat) : Bool := Obj.sessState ≤ i && i ≤ Obj.sessNotifyLost

theorem State.systemValue_withSessions (i k : Nat) : (s.withSessions l).systemValue i k = s.systemValue i k := by
  unfold State.systemValue
  rw [s.slotVersionOf_withSessions l]
  rfl

theorem State.storeValue_withSessions (i k : Nat) : (s.withSessions l).storeValue i k = s.storeValue i k := by
  unfold State.storeValue
  rw [s.finishTimed_withSessions l k]
  simp only [s.finishTimed_withSessions l]
  rfl

/-- The subscription of a session, empty where it is not open. -/
def State.subscribed (s : State) (session : Option Nat) : List Byte :=
  (session.bind s.session).elim [] fun x => x.subscription

theorem State.computed_withSessions {session : Option Nat} {i k : Nat} (hi : sessionObject i = false)
    (h : (s.withSessions l).subscribed session = s.subscribed session) :
    (s.withSessions l).computed session i k = s.computed session i k := by
  unfold State.computed
  have hi' : (decide (Obj.sessState ≤ i) && decide (i ≤ Obj.sessNotifyLost)) = false := hi
  rw [hi', s.systemValue_withSessions l, s.storeValue_withSessions l]
  refine if_congr .rfl rfl (if_congr .rfl (congrArg (fun b => some (Val.bytes b)) h) rfl)

theorem State.readVal_withSessions {session : Option Nat} {a : Nat} (hi : sessionObject (adrIndex a) = false)
    (h : (s.withSessions l).subscribed session = s.subscribed session) :
    (s.withSessions l).readVal session a = s.readVal session a := by
  unfold State.readVal
  rw [s.computed_withSessions l hi h]
  rfl

/-- The answer of a read item: its status, or its bytes. -/
def itemAnswer (o : Nat ⊕ (List Byte × State)) : Nat ⊕ List Byte := o.map id Prod.fst

theorem State.readItem_withSessions {n role i k : Nat} (hi : sessionObject i = false)
    (h : (s.withSessions l).subscribed (some n) = s.subscribed (some n)) :
    itemAnswer ((s.withSessions l).readItem (some n) role i k) = itemAnswer (s.readItem (some n) role i k) := by
  unfold State.readItem
  cases dictRow i k with
  | none => rfl
  | some r =>
    have hk : sessionObject (adrIndex (adr i k)) = false := by rwa [adrIndex_adr]
    have hs : ((s.settle k).withSessions l).subscribed (some n) = (s.settle k).subscribed (some n) :=
      h.trans (congrArg (fun t : Table Session => (t.lookup n).elim [] fun x => x.subscription)
        ((State.settle_only s k).part .sessions (by decide) (by decide) (by decide)).symm)
    dsimp only
    rw [s.settle_withSessions l k]
    split
    · rfl
    · split
      · rfl
      · split
        · rfl
        · split
          · exact congrArg (fun v => Sum.inr (encodeVal r.ty v)) ((s.settle k).readVal_withSessions l hk hs)
          · exact congrArg (fun v => Sum.inr (encodeVal r.ty v)) (s.readVal_withSessions l hk h)

/-! ## Checks -/

theorem State.dictCheck_withSessions (role a : Nat) (value : List Byte) :
    (s.withSessions l).dictCheck role a value = s.dictCheck role a value := rfl

theorem State.standCheck_withSessions (a : Nat) (v : Val) : (s.withSessions l).standCheck a v = s.standCheck a v := rfl

end

end Sys2Proof.Machine
end

section
namespace Sys2Proof.Machine
set_option Elab.async false

/-! ## A request begins -/

/-- What a request does once it has begun (R461), by its kind. -/
def State.perform (s : State) (n seq : Nat) (x : Session) (r : Req) : State :=
  match r with
  | .read i sub offset most => s.doRead n seq x i sub offset most
  | .write i sub value => s.writeFor (.request n seq) n x.role (adr i sub) value
  | .bulkRead items => s.doBulkRead n seq x items
  | .bulkWrite items => s.doBulkWrite n seq x items
  | .fence scope => s.doFence n seq x scope
  | .salvo op => s.toEngine ⟨n, seq, .request n seq, op⟩
  | .keepalive => s.respond n seq 0x06 0 0 .none
  | .close => (s.respond n seq 0x05 0 0 .none).endSession n none

/-- The session x once message number seq of it has been heard and has begun: z. -/
structure Session.Begins (x : Session) (now seq : Nat) (z : Session) : Prop where
  devSeq : z.devSeq = x.devSeq
  held : z.held = []
  heard : z.lastRx = now
  subscription : z.subscription = x.subscription
  started : ∀ a, look z.started a 0 ≤ max (look x.started a 0) seq

/-- Message number seq of session n, which was x, has begun in the state t: u. -/
structure Begun (t : State) (n : Nat) (x : Session) (seq : Nat) (u : State) : Prop where
  same : u = t.withSessions u.il.sessions
  session : ∃ z, u.session n = some z ∧ x.Begins t.now seq z

theorem Begun.setSession {t u : State} {n seq : Nat} {x z : Session} (h : u = t.withSessions u.il.sessions)
    (hz : x.Begins t.now seq z) : Begun t n x seq (u.setSession n z) where
  same := by rw [h]; rfl
  session := ⟨z, State.session_setSession .., hz⟩

/-- A message that starts to address something has begun. -/
theorem Begun.mark {t u : State} {n seq : Nat} {x : Session} (h : Begun t n x seq u) (a : Nat) :
    Begun t n x seq (u.mark n seq a) := by
  obtain ⟨hu, z, hz, hb⟩ := h
  unfold State.mark
  rw [hz]
  refine .setSession hu ⟨hb.devSeq, hb.held, hb.heard, hb.subscription, fun b => ?_⟩
  have hs := hb.started b
  by_cases e : b = a
  · subst e
    rw [look_put_self]
    omega
  · rwa [look_put_ne _ _ _ _ _ e]

theorem Begun.marks {t u : State} {n seq : Nat} {x : Session} (h : Begun t n x seq u) (l : List Nat) :
    Begun t n x seq (l.foldl (fun v a => v.mark n seq a) u) := by
  induction l generalizing u with
  | nil => exact h
  | cons a l ih => exact ih (h.mark a)

theorem State.startReq_begins {u : State} {n seq : Nat} {z : Session} {r : Req} (hz : u.session n = some z)
    (ho : u.unserved r = none) (hs : ∀ a ∈ u.addressed r, look z.started a 0 ≤ seq) :
    u.startReq n seq r =
      ((u.addressed r).foldl (fun v a => v.mark n seq a) (u.engage n seq r)).perform n seq z r := by
  have hov : ((u.addressed r).any fun a => z.overtaken seq a) = false := by
    simpa [Session.overtaken] using hs
  unfold State.startReq
  simp only [hz, ho, hov]
  rfl

/-- The session of a message that has been heard, counted and taken up (R459, R461). -/
def Session.taken (x : Session) (now ptp seq : Nat) : Session :=
  let y := (x.heard now ptp).number seq
  { y with
    requests := min (y.requests + 1) 0xFFFFFFFFFFFFFFFF
    outstanding := y.outstanding ++ [seq] }

/-- A message that is new and in order reaches its session. -/
theorem Ready.accept {s : State} {m : Msg} {x : Session} {r : Req} (h : Ready s m x r) (dt : Nat) :
    (s.tick dt).message m r = State.request ((s.tick dt).setSession m.session
      ((x.heard (s.tick dt).now (s.tick dt).ptp).number m.seq)) m.session m.seq m.fenceSeq r := by
  have hs : (s.tick dt).serves m = true := h.served
  have hd : (s.tick dt).dropReason m = none := h.kept
  have hx : (s.tick dt).session m.session = some x := h.session
  simp only [State.message, hs, State.accept, hd, hx, h.new]
  rfl

/-- It starts: nothing refuses or holds it. -/
theorem Ready.starts {s : State} {m : Msg} {x : Session} {r : Req} (h : Ready s m x r) (t : State) (now ptp : Nat) :
    State.request (t.setSession m.session ((x.heard now ptp).number m.seq)) m.session m.seq m.fenceSeq r =
      (((t.setSession m.session ((x.heard now ptp).number m.seq)).setSession m.session (x.taken now ptp m.seq)).startReq
        m.session m.seq r).releaseHeld m.session := by
  let y := x.taken now ptp m.seq
  have malformed : (decide (m.seq ≤ m.fenceSeq) || r.malformed) = false := by
    simp [h.wellFormed, h.fence]
  have passed : (y.fences.any fun f => decide (m.seq < f.seq)) = false :=
    List.any_eq_false.2 fun f hf => by simpa using (h.fences f hf).2
  have busy : ¬ 64 ≤ x.outstanding.length := Nat.not_le.2 h.room
  have held : y.holds m.seq m.fenceSeq = false := by
    have named : (m.fenceSeq != 0 && !(x.fences.any fun f => f.seq == m.fenceSeq)) = false := by
      rcases h.named with e | e <;> simp [e]
    refine Bool.or_eq_false_iff.2 ⟨named, List.any_eq_false.2 fun f hf => ?_⟩
    simp [(h.fences f hf).1]
  have waits : y.waitsFor m.seq r = false := h.idle
  have none : (y.holds m.seq m.fenceSeq || y.waitsFor m.seq r) = false := by rw [held, waits]; rfl
  unfold State.request
  rw [State.session_setSession]
  exact (if_neg (Bool.eq_false_iff.1 malformed)).trans ((if_neg (Bool.eq_false_iff.1 passed)).trans
    ((if_neg busy).trans (if_neg (Bool.eq_false_iff.1 none))))

/-- A message whose session holds none back and that waits for none begins. -/
theorem Ready.message {s : State} {m : Msg} {x : Session} {r : Req} (h : Ready s m x r) (dt : Nat) :
    ∃ u z, Begun (s.tick dt) m.session x m.seq u ∧ z.role = x.role ∧ z.tcp = x.tcp ∧
      (s.tick dt).message m r = (u.perform m.session m.seq z r).releaseHeld m.session := by
  let v := ((s.tick dt).setSession m.session ((x.heard (s.tick dt).now (s.tick dt).ptp).number m.seq)).setSession m.session
    (x.taken (s.tick dt).now (s.tick dt).ptp m.seq)
  have hv : v.session m.session = some (x.taken (s.tick dt).now (s.tick dt).ptp m.seq) := State.session_setSession ..
  refine ⟨(v.addressed r).foldl (fun u a => u.mark m.session m.seq a) (v.engage m.session m.seq r),
    x.taken (s.tick dt).now (s.tick dt).ptp m.seq, ?_, rfl, rfl, ?_⟩
  · refine .marks ?_ _
    unfold State.engage
    rw [hv]
    exact .setSession rfl ⟨rfl, h.free, rfl, rfl, fun a => le_max_left ..⟩
  · rw [h.accept, h.starts, State.startReq_begins hv h.open_ h.order]

end Sys2Proof.Machine
end

section
namespace Sys2Proof.Machine
set_option Elab.async false

/-! ## A request is answered -/

/-- Session n stands ready to answer with the next number of x, and holds no message back. -/
def Answerable (n : Nat) (x : Session) (w : State) : Prop := ∃ z, w.session n = some z ∧ z.devSeq = x.devSeq ∧ z.held = []

theorem Begun.answerable {t u : State} {n seq : Nat} {x : Session} (h : Begun t n x seq u) : Answerable n x u := by
  obtain ⟨-, z, hz, hb⟩ := h
  exact ⟨z, hz, hb.devSeq, hb.held⟩

theorem Only.session {r : Reach} {s t : State} (h : Only r s t) (n : Nat) (hp : Part.sessions ∉ r.parts := by decide) :
    t.session n = s.session n := by
  have e : t.il.sessions = s.il.sessions := h.same .sessions hp
  rw [State.session, e, State.session]

theorem Answerable.after {n : Nat} {x : Session} {w v : State} {r : Reach} (h : Answerable n x w) (g : Only r w v)
    (hp : Part.sessions ∉ r.parts := by decide) : Answerable n x v := by
  rwa [Answerable, g.session n hp]

theorem State.respond_some {w : State} {n : Nat} {z : Session} (h : w.session n = some z) (seq type status detail : Nat)
    (b : Body) : w.respond n seq type status detail b = (w.setSession n { z with
      devSeq := z.devSeq + 1
      sent := ((seq, Out.response n z.devSeq seq type status detail b) :: z.sent).take 64
      outstanding := z.outstanding.filter (· != seq)
      busy := z.busy.filter fun b => b.1 != seq }).emit (.response n z.devSeq seq type status detail b) := by
  rw [State.respond, h]

/-- Nothing is released where no message is held. -/
theorem State.releaseHeld_none {w : State} {n : Nat} {z : Session} (h : w.session n = some z) (hh : z.held = []) :
    w.releaseHeld n = w := by
  rw [State.releaseHeld, h, Option.elim_some, hh]
  rfl

theorem Answerable.releaseHeld {n : Nat} {x : Session} {w : State} (h : Answerable n x w) : w.releaseHeld n = w := by
  obtain ⟨z, hz, -, hh⟩ := h
  exact State.releaseHeld_none hz hh

/-- A response releases nothing then either. -/
theorem Answerable.respond {n : Nat} {x : Session} {w : State} (h : Answerable n x w) (seq type status detail : Nat) (b : Body) :
    (w.respond n seq type status detail b).releaseHeld n = w.respond n seq type status detail b := by
  obtain ⟨z, hz, -, hh⟩ := h
  rw [State.respond_some hz]
  exact State.releaseHeld_none (State.session_setSession ..) hh

/-- The response that a message gets. -/
theorem Answerable.answers {m : Msg} {x : Session} {w : State} (h : Answerable m.session x w) (type status : Nat) (b : Body) :
    answerOf m x type status b ∈ ((w.respond m.session m.seq type status 0 b).releaseHeld m.session).out := by
  rw [h.respond]
  obtain ⟨z, hz, hd, -⟩ := h
  rw [State.respond_some hz, answerOf, ← hd]
  exact List.mem_append_right _ (List.mem_singleton_self _)

/-- What a response may change. -/
abbrev answerReach : Reach := ⟨[.out, .sessions], [], []⟩

theorem Answerable.respond_only {n : Nat} {x : Session} {w : State} (h : Answerable n x w) (seq type status detail : Nat)
    (b : Body) : Only answerReach w ((w.respond n seq type status detail b).releaseHeld n) := by
  rw [h.respond]
  exact State.respond_only ..

theorem Answerable.respond_objs {n : Nat} {x : Session} {w : State} (h : Answerable n x w) (seq type status detail : Nat)
    (b : Body) : ((w.respond n seq type status detail b).releaseHeld n).objs = w.objs := by
  rw [h.respond]
  obtain ⟨z, hz, -, -⟩ := h
  rw [State.respond_some hz]
  rfl

theorem Begun.objs {t u : State} {n seq : Nat} {x : Session} (h : Begun t n x seq u) : u.objs = t.objs := by
  rw [h.same]
  rfl

/-! ## Reads -/

theorem itemAnswer_inr {o : Nat ⊕ (List Byte × State)} {b : List Byte} (h : itemAnswer o = .inr b) : ∃ t, o = .inr (b, t) := by
  match o with
  | .inl c => cases h
  | .inr (b', t) => exact ⟨t, by rw [show b' = b from Sum.inr.inj h]⟩

/-- A read that is refused is refused in every state. -/
theorem State.readItem_refused {s : State} {session : Option Nat} {role i k c : Nat}
    (h : s.readItem session role i k = .inl c) (u : State) (o : Option Nat) : u.readItem o role i k = .inl c := by
  unfold State.readItem at h ⊢
  cases hr : dictRow i k with
  | none => simpa [hr] using h
  | some r =>
    simp only [hr] at h ⊢
    split at h
    · next hw => rwa [if_pos hw]
    · next hw =>
      rw [if_neg hw]
      split at h
      · next hl => rwa [if_pos hl]
      · split at h <;> cases h

/-- A read that is not refused gives a state with the same sessions. -/
theorem Answerable.readItem {n : Nat} {x : Session} {u : State} {session : Option Nat} {role i k : Nat} {p : List Byte × State}
    (hu : Answerable n x u) (h : u.readItem session role i k = .inr p) : Answerable n x p.2 := hu.after (State.readItem_only h)

/-- A READ comes to one response (R463). -/
theorem State.doRead_responds (u : State) (n seq : Nat) (x z : Session) (i k offset most : Nat) (hu : Answerable n x u) :
    ∃ w status body, Answerable n x w ∧ w.session n = u.session n ∧ w.now = u.now ∧
      u.doRead n seq z i k offset most = w.respond n seq 0x10 status 0 body := by
  unfold State.doRead
  split
  · exact ⟨u, _, _, hu, rfl, rfl, rfl⟩
  · next b t h =>
    split
    · exact ⟨u, _, _, hu, rfl, rfl, rfl⟩
    · have ht := State.readItem_only h
      exact ⟨t, _, _, hu.readItem h, ht.session n, ht.part .now (by decide) (by decide) (by decide), rfl⟩

theorem State.doRead_refused {u : State} {n seq : Nat} {z : Session} {i k offset most c : Nat}
    (h : u.readItem (some n) z.role i k = .inl c) : u.doRead n seq z i k offset most = u.respond n seq 0x10 c 0 .none := by
  rw [State.doRead, h]

/-- The bytes that a READ answers: as much from its offset on as fits (R463). -/
def readPart (tcp : Bool) (b : List Byte) (offset most : Nat) : List Byte :=
  (b.drop offset).take (if most = 0 then readRoom tcp else min most (readRoom tcp))

theorem State.doRead_value {u t : State} {n seq : Nat} {z : Session} {i k offset most : Nat} {b : List Byte}
    (h : u.readItem (some n) z.role i k = .inr (b, t)) : u.doRead n seq z i k offset most =
      if b.length < offset ∨ offset ≠ 0 ∧ openWidth i k = false then u.respond n seq 0x10 Code.range 0 .none
      else t.respond n seq 0x10 0 0 (.read b.length (readPart z.tcp b offset most)) := by
  rw [State.doRead, h]
  exact if_congr (by simp) rfl rfl

/-! ## The reads of O23 -/

/-- ILRIL_READ is answered. -/
theorem ilrilRead_answered {s : State} {dt : Nat} {m : Msg} {x : Session} {i k offset most : Nat}
    (h : Ready s m x (.read i k offset most)) : Completes (.ilrilRead dt m i k offset most) s fun t =>
      (∃ status body, answerOf m x 0x10 status body ∈ t.out) ∧
        ∃ y, t.session m.session = some y ∧ y.devSeq = x.devSeq + 1 ∧ y.lastRx = t.now := by
  obtain ⟨u, z, hu, -, -, e⟩ := h.message dt
  refine ⟨(s.tick dt).message m _, act_next h.awake, ?_⟩
  obtain ⟨w, status, body, hw, hs, hn, er⟩ := u.doRead_responds m.session m.seq x z i k offset most hu.answerable
  rw [e, State.perform, er]
  refine ⟨⟨status, body, hw.answers ..⟩, ?_⟩
  rw [hw.respond]
  obtain ⟨hsame, y, hy, hb⟩ := hu
  rw [State.respond_some (hs.trans hy)]
  refine ⟨_, State.session_setSession .., congrArg (· + 1) hb.devSeq, hb.heard.trans ?_⟩
  refine Eq.trans ?_ hn.symm
  rw [hsame]
  rfl

/-- One that fails a check answers its code. -/
theorem ilrilRead_refused {s : State} {dt : Nat} {m : Msg} {x : Session} {i k offset most c : Nat}
    (h : Ready s m x (.read i k offset most)) (hc : (s.tick dt).readItem (some m.session) x.role i k = .inl c) :
    Completes (.ilrilRead dt m i k offset most) s fun t => answerOf m x 0x10 c .none ∈ t.out ∧ t.objs = s.objs := by
  obtain ⟨u, z, hu, hr, -, e⟩ := h.message dt
  refine ⟨(s.tick dt).message m _, act_next h.awake, ?_⟩
  have hc' : u.readItem (some m.session) z.role i k = .inl c := hr ▸ State.readItem_refused hc u _
  rw [e, State.perform, State.doRead_refused hc']
  exact ⟨hu.answerable.answers .., (hu.answerable.respond_objs ..).trans hu.objs⟩

/-- Other sessions than those of the tables read as before. -/
theorem Begun.readItem {t u t' : State} {n seq role i k : Nat} {x : Session} {b : List Byte} (h : Begun t n x seq u)
    (hx : t.session n = some x) (hi : sessionObject i = false) (hr : t.readItem (some n) role i k = .inr (b, t')) :
    ∃ u', u.readItem (some n) role i k = .inr (b, u') := by
  obtain ⟨hsame, z, hz, hb⟩ := h
  refine itemAnswer_inr ?_
  have hs : (t.withSessions u.il.sessions).subscribed (some n) = t.subscribed (some n) := by
    rw [← hsame]
    simp [State.subscribed, hz, hx, hb.subscription]
  rw [hsame, t.readItem_withSessions _ hi hs, hr]
  rfl

/-- One that may be read answers as much from its offset on as fits. -/
theorem ilrilRead_value {s u' : State} {dt : Nat} {m : Msg} {x : Session} {i k offset most : Nat} {b : List Byte}
    (h : Ready s m x (.read i k offset most)) (hc : (s.tick dt).readItem (some m.session) x.role i k = .inr (b, u'))
    (hi : i < Obj.sessState ∨ Obj.sessNotifyLost < i) : Completes (.ilrilRead dt m i k offset most) s fun t =>
      if b.length < offset ∨ offset ≠ 0 ∧ openWidth i k = false then answerOf m x 0x10 Code.range .none ∈ t.out
      else answerOf m x 0x10 0 (.read b.length (readPart x.tcp b offset most)) ∈ t.out := by
  obtain ⟨u, z, hu, hr, ht, e⟩ := h.message dt
  refine ⟨(s.tick dt).message m _, act_next h.awake, ?_⟩
  have hi' : sessionObject i = false := by
    simpa [sessionObject, or_iff_not_imp_left] using hi
  obtain ⟨v, hv⟩ := hu.readItem h.session hi' hc
  rw [← hr] at hv
  rw [e, State.perform, State.doRead_value hv, ht]
  split
  · exact hu.answerable.answers ..
  · exact (hu.answerable.readItem hv).answers ..

/-- One of an object whose value does not change with the read answers its value. -/
theorem ilrilRead_whole {s : State} {dt : Nat} {m : Msg} {x : Session} {i k most : Nat} {r : Row}
    (h : Ready s m x (.read i k 0 most)) (hr : dictRow i k = some r) (ha : r.access ≠ .wo) (hl : r.role ≤ x.role)
    (hj : i ≠ Obj.morJournalRead) (hs : i < 0x2000 ∨ 0x2100 ≤ i) (hi : i < Obj.sessState ∨ Obj.sessNotifyLost < i) :
    Completes (.ilrilRead dt m i k 0 most) s fun t =>
      let b := encodeVal r.ty ((s.tick dt).readVal (some m.session) (adr i k))
      answerOf m x 0x10 0 (.read b.length (b.take (if most = 0 then readRoom x.tcp else min most (readRoom x.tcp)))) ∈ t.out := by
  have slot : ¬ (decide (0x2000 ≤ i) && decide (i < 0x2100)) = true := by
    simp only [Bool.and_eq_true, decide_eq_true_eq, not_and, Nat.not_lt]
    omega
  have hv : (s.tick dt).readItem (some m.session) x.role i k =
      .inr (encodeVal r.ty ((s.tick dt).readVal (some m.session) (adr i k)), s.tick dt) := by
    simp only [State.readItem, hr]
    rw [if_neg (by simpa using ha), if_neg (Nat.not_lt.2 hl), if_neg hj, if_neg slot]
  obtain ⟨t, ht, h⟩ := ilrilRead_value h hv hi
  rw [if_neg (by simp)] at h
  exact ⟨t, ht, h⟩

end Sys2Proof.Machine
end

section
namespace Sys2Proof.Machine
set_option Elab.async false

/-! ## Bulk reads -/

theorem Answerable.mark {n : Nat} {x : Session} {u : State} (h : Answerable n x u) (seq a : Nat) :
    Answerable n x (u.mark n seq a) := by
  obtain ⟨z, hz, hd, hh⟩ := h
  refine ⟨{ z with started := put z.started a (max seq (look z.started a 0)) }, ?_, hd, hh⟩
  rw [State.mark, hz]
  exact State.session_setSession ..

/-- Every item of a BULK_READ is answered. -/
theorem State.bulkReadItems_answers {n : Nat} {x : Session} {u : State} (seq role room : Nat) (l : List (Nat × Nat))
    (h : Answerable n x u) : (u.bulkReadItems n seq role room l).1.length = l.length ∧
      Answerable n x (u.bulkReadItems n seq role room l).2 := by
  induction l generalizing u room with
  | nil => exact ⟨rfl, h⟩
  | cons p l ih =>
    obtain ⟨i, k⟩ := p
    have next {v : State} (hv : Answerable n x v) (rm : Nat) (a : Nat × List Byte) :
        (a :: (v.bulkReadItems n seq role rm l).1).length = ((i, k) :: l).length ∧
          Answerable n x (v.bulkReadItems n seq role rm l).2 := by
      rw [List.length_cons, List.length_cons, (ih rm hv).1]
      exact ⟨rfl, (ih rm hv).2⟩
    have hm := h.mark seq (adr i k)
    unfold State.bulkReadItems
    extract_lets late t nxt
    have ht : Answerable n x t := by
      unfold t
      split
      · exact h
      · exact hm
    split
    · exact next ht room _
    · split
      · exact next ht room _
      · next b v hv =>
        split
        · exact next ht room _
        · exact next (ht.readItem hv) _ _

/-- ILRIL_BULK_READ is answered. -/
theorem ilrilBulkRead_answered {s : State} {dt : Nat} {m : Msg} {x : Session} {items : List (Nat × Nat)}
    (h : Ready s m x (.bulkRead items)) : Completes (.ilrilBulkRead dt m items) s fun t =>
      ∃ l, l.length = items.length ∧ answerOf m x 0x12 0 (.bulkRead l) ∈ t.out := by
  obtain ⟨u, z, hu, -, -, e⟩ := h.message dt
  refine ⟨(s.tick dt).message m _, act_next h.awake, ?_⟩
  obtain ⟨hl, ha⟩ := State.bulkReadItems_answers m.seq z.role (readRoom z.tcp - 8 * items.length) items hu.answerable
  rw [e]
  exact ⟨_, hl, ha.answers ..⟩

/-- A message that begins has not been overtaken at an object at which it had not been before. -/
theorem Begun.overtaken {t u : State} {n seq a : Nat} {x : Session} (h : Begun t n x seq u) (ha : look x.started a 0 ≤ seq) :
    ((u.session n).elim false fun x => x.overtaken seq a) = false := by
  obtain ⟨-, z, hz, hb⟩ := h
  rw [hz]
  exact decide_eq_false (Nat.not_lt.2 ((hb.started a).trans (max_le ha le_rfl)))

/-- A single item that may be read and fits answers its value. -/
theorem ilrilBulkRead_single {s u' : State} {dt : Nat} {m : Msg} {x : Session} {i k : Nat} {b : List Byte}
    (h : Ready s m x (.bulkRead [(i, k)])) (ho : look x.started (adr i k) 0 ≤ m.seq)
    (hv : (s.tick dt).readItem (some m.session) x.role i k = .inr (b, u')) (hi : i < Obj.sessState ∨ Obj.sessNotifyLost < i)
    (hb : b.length + 8 ≤ readRoom x.tcp) :
    Completes (.ilrilBulkRead dt m [(i, k)]) s fun t => answerOf m x 0x12 0 (.bulkRead [(0, b)]) ∈ t.out := by
  obtain ⟨u, z, hu, hr, ht, e⟩ := h.message dt
  refine ⟨(s.tick dt).message m _, act_next h.awake, ?_⟩
  have hi' : sessionObject i = false := by
    simpa [sessionObject, or_iff_not_imp_left] using hi
  obtain ⟨v, hw⟩ := (hu.mark (adr i k)).readItem h.session hi' hv
  have items : u.bulkReadItems m.session m.seq z.role (readRoom z.tcp - 8 * [(i, k)].length) [(i, k)] = ([(0, b)], v) := by
    have room : ¬ readRoom z.tcp - 8 * [(i, k)].length < b.length := by
      rw [ht, List.length_singleton]
      omega
    rw [← hr] at hw
    unfold State.bulkReadItems
    rw [hu.overtaken ho]
    simp only [Bool.false_eq_true, if_false, hw, room]
    rfl
  rw [e, State.perform, State.doBulkRead, items]
  exact ((hu.mark (adr i k)).answerable.readItem hw).answers ..

end Sys2Proof.Machine
end

section
namespace Sys2Proof.Machine
set_option Elab.async false

/-! ## Writes decided -/

theorem State.dictCheck_code {s : State} {role a c : Nat} {value : List Byte} (h : s.dictCheck role a value = .inl c) :
    c ≠ 0 := by
  unfold State.dictCheck at h
  repeat' split at h
  all_goals cases h
  all_goals decide

/-- The objects whose writes act on the device itself. -/
abbrev ownObjs : List Nat :=
  [Obj.roleKey, Obj.ownerLock, Obj.ownerKeyProgram, Obj.ownerKeyRevoke, Obj.subscription, Obj.deviceRestart, Obj.storeSaveNow,
    Obj.updateBegin, Obj.updateData, Obj.updateCommit, Obj.updateActivate, Obj.updateAbort]

theorem ite_some_eq_none {α : Type} {c : Prop} [Decidable c] {w : α} {o : Option α} :
    (if c then some w else o) = none ↔ ¬ c ∧ o = none := by
  split <;> simp [*]

theorem State.ownWrite_eq_none (s : State) (n a : Nat) (v : Val) : s.ownWrite n a v = none ↔ adrIndex a ∉ ownObjs := by
  unfold State.ownWrite
  extract_lets i
  simp [i, ite_some_eq_none]

/-- A write that fails a check of the dictionary is refused. -/
theorem State.writeItem_refused {s : State} {n role a c : Nat} {value : List Byte} (h : s.dictCheck role a value = .inl c) :
    s.writeItem n role a value = s.refused c := by
  rw [State.writeItem, h]

/-- One that passes all of them, of an object that is written by its class. -/
theorem State.writeItem_class {s : State} {n role a : Nat} {value : List Byte} {v : Val} {r : Row}
    (hd : s.dictCheck role a value = .inr v) (hs : s.standCheck a v = none) (ho : adrIndex a ∉ ownObjs)
    (hr : dictRow (adrIndex a) (adrSub a) = some r) : s.writeItem n role a value = s.classWrite a v r.commit := by
  simp only [State.writeItem, hd, hs, (s.ownWrite_eq_none n a v).2 ho, hr, Option.elim_some]

theorem adrSub_adr {i k : Nat} (h : k < 65536) : adrSub (adr i k) = k := by
  simp only [adrSub, adr]
  omega

theorem dictRow_adr {i k : Nat} (h : k < 65536) : dictRow (adrIndex (adr i k)) (adrSub (adr i k)) = dictRow i k := by
  rw [adrIndex_adr, adrSub_adr h]

/-- The checks of a write are those of the state at its time. -/
theorem Begun.writeItem {t u : State} {n seq : Nat} {x : Session} {role i k : Nat} {value : List Byte} {v : Val} {r : Row}
    (h : Begun t n x seq u) (hk : k < 65536) (hd : t.dictCheck role (adr i k) value = .inr v)
    (hs : t.standCheck (adr i k) v = none) (ho : i ∉ ownObjs) (hr : dictRow i k = some r) :
    u.writeItem n role (adr i k) value = u.classWrite (adr i k) v r.commit := by
  refine State.writeItem_class ?_ ?_ (by rwa [adrIndex_adr]) (by rwa [dictRow_adr hk])
  · rwa [h.same, State.dictCheck_withSessions]
  · rwa [h.same, State.standCheck_withSessions]

theorem Begun.mirrors {t u : State} {n seq : Nat} {x : Session} (h : Begun t n x seq u) : u.mirrors = t.mirrors := by
  rw [h.same]
  rfl

/-! ## Writes by class -/

theorem State.classWrite_immediate {s : State} {a : Nat} {v : Val} (h : (s.mirrors && writtenThrough a v) = false) :
    s.classWrite a v .immediate = ⟨0, s.ptp, .none, (s.applyNow a v).logWrite a v 0⟩ :=
  (if_neg (Bool.eq_false_iff.1 h)).trans (if_neg (by decide))

theorem State.classWrite_frame {s : State} {a : Nat} {v : Val} (h : (s.mirrors && writtenThrough a v) = false) :
    s.classWrite a v .frame = ⟨0, s.boundaryAfterDeadline / tcNs, .frame a v, s⟩ :=
  (if_neg (Bool.eq_false_iff.1 h)).trans (if_pos (by decide))

theorem State.classWrite_restart {s : State} {a : Nat} {v : Val} (h : (s.mirrors && writtenThrough a v) = false) :
    s.classWrite a v .restart = ⟨0, 0, .none, (s.classEffect a v .restart).logWrite a v 0⟩ :=
  (if_neg (Bool.eq_false_iff.1 h)).trans (if_neg (by decide))

theorem State.classWrite_through {s : State} {a : Nat} {v : Val} (c : Commit) (h : (s.mirrors && writtenThrough a v) = true) :
    s.classWrite a v c = ⟨0, 0, .through a v, s⟩ := if_pos h

/-! ## Answers by what follows -/

theorem State.finish_none (s : State) (n seq type : Nat) (b : Body) (k : Nat) :
    s.finish ⟨.request n seq, type, b, 0, []⟩ [(k, .none)] = s.respond n seq type 0 0 b := rfl

theorem State.finish_nil (s : State) (n seq type : Nat) (b : Body) :
    s.finish ⟨.request n seq, type, b, 0, []⟩ [] = s.respond n seq type 0 0 b := rfl

theorem State.finish_frame (s : State) (n seq type : Nat) (b : Body) (k a : Nat) (v : Val) :
    s.finish ⟨.request n seq, type, b, 0, []⟩ [(k, .frame a v)] = (s.frameWrite (a, v)).respond n seq type 0 0 b := rfl

theorem State.finish_through (s : State) (n seq type : Nat) (b : Body) (a : Nat) (v : Val) :
    s.finish ⟨.request n seq, type, b, 0, []⟩ [(0, .through a v)] =
      s.followWrite (.through a v) (some ⟨.request n seq, type, b, 0, (After.frameOf (.through a v)).toList⟩) := by
  simp only [State.finish, After.delays, bne_iff_ne, ne_eq, reduceCtorEq, not_false_eq_true, List.filter_cons_of_pos,
    List.filter_nil, sortBy, insertBy, List.getLast?_singleton, Option.some.injEq, List.filterMap, Option.isNone_some,
    Bool.false_eq_true, ↓reduceIte, List.foldl_cons, List.foldl_nil]
  cases After.frameOf (.through a v) <;> rfl

/-- A refused write answers its code. -/
theorem State.writeFor_refused {s : State} {n seq role a : Nat} {value : List Byte} {w : Wrote}
    (h : s.writeItem n role a value = w) (hc : w.status ≠ 0) :
    s.writeFor (.request n seq) n role a value = w.state.respond n seq 0x11 w.status 0 (.write 0) := by
  subst h
  exact if_pos (by simpa using hc)

theorem State.writeFor_accepted {s : State} {n seq role a : Nat} {value : List Byte} {w : Wrote}
    (h : s.writeItem n role a value = w) (hc : w.status = 0) : s.writeFor (.request n seq) n role a value =
      w.state.finish ⟨.request n seq, 0x11, .write w.effectiveAt, 0, []⟩ [(0, w.after)] := by
  subst h
  exact if_neg (by simpa using hc)

/-! ## Values in force -/

/-- The objects that a written one moves. -/
abbrev movedObjs : List Nat :=
  [Obj.laneState, Obj.laneTxPreInForce, Obj.laneTxPostInForce, Obj.laneTxMain, Obj.txDriverMode, Obj.rxState, Obj.rxRate,
    Obj.rxFormat, Obj.rxPayloadId, Obj.rxStructure, Obj.eventCount, Obj.eventLastAt, Obj.eventLastSubject, Obj.srcFeedKind,
    Obj.srcState, Obj.srcReservationStatus, Obj.srcFramesAbandoned, Obj.srcColourLive, Obj.saddleState, Obj.saddleDownCount,
    Obj.lanePrbsState, Obj.octetPllState, Obj.refState, Obj.refLosses, Obj.refHistory, Obj.fpState, Obj.ptpState,
    Obj.ptpGmIdentity, Obj.ptpClockClass, Obj.refQlInForce, Obj.tarnCtrl, Obj.embFormat, Obj.embStructure, Obj.embPayloadId,
    Obj.twinReadiness, Obj.twinNotReady, Obj.twinCopyStale, Obj.twinResyncProgress, Obj.twinHealth, Obj.monHistogram,
    Obj.monState]

/-- None of them is a setting, TarnCtrl aside. -/
theorem setting_not_moved : ∀ r ∈ dictionary, r.access = .rw → 0x2000 ≤ r.index → r.index < 0x7000 → r.index ≠ Obj.tarnCtrl →
    r.index ∉ movedObjs := by decide +kernel

theorem State.written_reach (s : State) (old : Objs) (i n : Nat) :
    Only ⟨[.out, .pinned, .regs, .ev, .flashJournal, .ctl, .mon, .sdiRx, .ridge, .ws, .au, .tarn, .sad, .diskJournal], movedObjs, []⟩
      s (s.written old i n) := State.written_only ..

/-- A setting written is in force (R8). -/
theorem State.applyNow_setting {s : State} {i k : Nat} {v : Val} {r : Row} (hk : k < 65536) (hr : dictRow i k = some r)
    (ha : r.access = .rw) (h2 : 0x2000 ≤ i) (h7 : i < 0x7000) (ht : i ≠ Obj.tarnCtrl) :
    Objs.val (s.applyNow (adr i k) v).objs (adr i k) = v := by
  obtain ⟨hm, rfl⟩ := dictRow_some hr
  have put : s.applyNow (adr r.index k) v = s.putNow (adr r.index k) v := by
    rw [State.applyNow, dictRow_adr hk, hr, Option.elim_some, ha]
    rfl
  have moved : adrIndex (adr r.index k) ∉ movedObjs := by
    rw [adrIndex_adr]
    exact setting_not_moved r hm ha h2 h7 ht
  rw [put, State.putNow, (State.written_reach ..).obj (by decide) _ moved, State.val_setVal, adrIndex_adr, adrSub_adr hk, if_pos rfl]

end Sys2Proof.Machine
end

section
namespace Sys2Proof.Machine
set_option Elab.async false

/-! ## Immediate-class writes -/

/-- The state after an Immediate-class write. -/
def State.actNow (s : State) (a : Nat) (v : Val) : State := (s.applyNow a v).logWrite a v 0

theorem Answerable.actNow {n : Nat} {x : Session} {u : State} (h : Answerable n x u) (a : Nat) (v : Val) :
    Answerable n x (u.actNow a v) := (h.after (State.applyNow_only ..)).after (State.logWrite_only ..)

/-- A setting written is in force, once its answer has been given too. -/
theorem State.actNow_setting {s t : State} {i k : Nat} {v : Val} {r : Row} (hk : k < 65536) (hr : dictRow i k = some r)
    (ht : t.objs = (s.actNow (adr i k) v).objs) (ha : r.access = .rw) (h2 : 0x2000 ≤ i) (h7 : i < 0x7000)
    (hn : i ≠ Obj.tarnCtrl) : Objs.val t.objs (adr i k) = v := by
  rw [ht, State.actNow, (State.logWrite_only ..).obj (by decide) _ List.not_mem_nil, State.applyNow_setting hk hr ha h2 h7 hn]

theorem Begun.ptp {t u : State} {n seq : Nat} {x : Session} (h : Begun t n x seq u) : u.ptp = t.ptp := by
  rw [h.same]
  rfl

theorem notOwn_of_ownWrite {s : State} {n i k : Nat} {v : Val} (h : s.ownWrite n (adr i k) v = none) : i ∉ ownObjs := by
  have := (s.ownWrite_eq_none n (adr i k) v).1 h
  rwa [adrIndex_adr] at this

/-- ILRIL_WRITE of an Immediate-class object takes effect and answers the present. -/
theorem ilrilWrite_immediate {s : State} {dt : Nat} {m : Msg} {x : Session} {i k : Nat} {value : List Byte} {v : Val} {r : Row}
    (h : Acts s dt m x i k value v) (hr : dictRow i k = some r) (hc : r.commit = .immediate)
    (ho : (s.tick dt).ownWrite m.session (adr i k) v = none) : Completes (.ilrilWrite dt m i k value) s fun t =>
      answerOf m x 0x11 0 (.write (s.tick dt).ptp) ∈ t.out ∧
        (r.access = .rw → 0x2000 ≤ i → i < 0x7000 → i ≠ Obj.tarnCtrl → Objs.val t.objs (adr i k) = v) := by
  obtain ⟨⟨hk, ready, hd, hs⟩, alone⟩ := h
  obtain ⟨u, z, hu, hz, -, e⟩ := ready.message dt
  refine ⟨(s.tick dt).message m _, act_next ready.awake, ?_⟩
  have decided := hu.writeItem hk (hz.symm ▸ hd) hs (notOwn_of_ownWrite ho) hr
  rw [hc, State.classWrite_immediate (hu.mirrors ▸ alone), hu.ptp] at decided
  have done : Answerable m.session x (u.actNow (adr i k) v) := hu.answerable.actNow ..
  rw [e, State.perform, State.writeFor_accepted decided rfl, State.finish_none]
  exact ⟨done.answers .., State.actNow_setting hk hr (done.respond_objs ..)⟩

/-! ## Frame-class writes -/

theorem Only.boundaryAfterDeadline {r : Reach} {s t : State} (h : Only r s t) (hp : Part.tc ∉ r.parts := by decide)
    (ho : Part.objs ∉ r.parts := by decide) (hi : Obj.wsHouseRate ∉ r.objs := by decide) :
    t.boundaryAfterDeadline = s.boundaryAfterDeadline := by
  have house : t.house = s.house := congrArg ratePeriod (h.n Obj.wsHouseRate 0 ho hi)
  rw [State.boundaryAfterDeadline, house, h.tcEq hp, State.boundaryAfterDeadline]

theorem State.frameWrite_frameWrites (s : State) (a : Nat) (v : Val) :
    (s.frameWrite (a, v)).ce.frameWrites = s.ce.frameWrites ++ [⟨a, v, s.boundaryAfterDeadline⟩] := by
  unfold State.frameWrite
  extract_lets due t
  split
  · rfl
  · exact (State.logWrite_only ..).part .frameWrites (by decide) (by decide) (by decide)

theorem Answerable.frameWrite {n : Nat} {x : Session} {u : State} (h : Answerable n x u) (w : Nat × Val) :
    Answerable n x (u.frameWrite w) := h.after (State.frameWrite_only ..)

/-- A Frame-class write that has been answered waits for the boundary of R9. -/
theorem Begun.frameWrite {t u : State} {n seq' : Nat} {x : Session} (h : Begun t n x seq' u) (a : Nat) (v : Val)
    (seq type status : Nat) (b : Body) :
    let w := ((u.frameWrite (a, v)).respond n seq type status 0 b).releaseHeld n
    w.boundaryAfterDeadline = u.boundaryAfterDeadline ∧
      w.ce.frameWrites = t.ce.frameWrites ++ [⟨a, v, w.boundaryAfterDeadline⟩] := by
  have answered := (h.answerable.frameWrite (a, v)).respond_only seq type status 0 b
  have due := answered.boundaryAfterDeadline.trans (State.frameWrite_only u (a, v)).boundaryAfterDeadline
  refine ⟨due, ?_⟩
  have waiting : u.ce.frameWrites = t.ce.frameWrites := by
    rw [h.same]
    rfl
  rw [due, answered.part .frameWrites (by decide) (by decide) (by decide), u.frameWrite_frameWrites, waiting]

/-- ILRIL_WRITE of a Frame-class object waits for the boundary of R9, and its answer names that boundary. -/
theorem ilrilWrite_frame {s : State} {dt : Nat} {m : Msg} {x : Session} {i k : Nat} {value : List Byte} {v : Val} {r : Row}
    (h : Writable s dt m x i k value v) (hr : dictRow i k = some r) (hc : r.commit = .frame)
    (alone : (s.mirrors && writtenThrough (adr i k) v) = false) (ho : (s.tick dt).ownWrite m.session (adr i k) v = none) :
    Completes (.ilrilWrite dt m i k value) s fun t =>
      t.ce.frameWrites = s.ce.frameWrites ++ [⟨adr i k, v, t.boundaryAfterDeadline⟩] ∧
        answerOf m x 0x11 0 (.write (t.boundaryAfterDeadline / tcNs)) ∈ t.out := by
  obtain ⟨hk, ready, hd, hs⟩ := h
  obtain ⟨u, z, hu, hz, -, e⟩ := ready.message dt
  refine ⟨(s.tick dt).message m _, act_next ready.awake, ?_⟩
  have decided := hu.writeItem hk (hz.symm ▸ hd) hs (notOwn_of_ownWrite ho) hr
  rw [hc, State.classWrite_frame (hu.mirrors ▸ alone)] at decided
  rw [e, State.perform, State.writeFor_accepted decided rfl, State.finish_frame]
  obtain ⟨due, waits⟩ := hu.frameWrite (adr i k) v m.seq 0x11 0 (.write (u.boundaryAfterDeadline / tcNs))
  refine ⟨waits, ?_⟩
  rw [due]
  exact (hu.answerable.frameWrite _).answers ..

/-! ## Restart-class writes -/

theorem restart_not_own : ∀ r ∈ dictionary, r.commit = .restart → r.index ∉ ownObjs := by decide +kernel

/-- ILRIL_WRITE of a Restart-class object waits for the next start. -/
theorem ilrilWrite_restart {s : State} {dt : Nat} {m : Msg} {x : Session} {i k : Nat} {value : List Byte} {v : Val} {r : Row}
    (h : Writable s dt m x i k value v) (hr : dictRow i k = some r) (hc : r.commit = .restart)
    (alone : (s.mirrors && writtenThrough (adr i k) v) = false) (hv : v ≠ Objs.val s.objs (adr i k)) :
    Completes (.ilrilWrite dt m i k value) s fun t =>
      (adr i k, v) ∈ t.ce.restartWrites ∧ t.objs = s.objs ∧ answerOf m x 0x11 0 (.write 0) ∈ t.out := by
  obtain ⟨hk, ready, hd, hs⟩ := h
  obtain ⟨u, z, hu, hz, -, e⟩ := ready.message dt
  refine ⟨(s.tick dt).message m _, act_next ready.awake, ?_⟩
  obtain ⟨hm, hi⟩ := dictRow_some hr
  have decided := hu.writeItem hk (hz.symm ▸ hd) hs (hi ▸ restart_not_own r hm hc) hr
  rw [hc, State.classWrite_restart (hu.mirrors ▸ alone)] at decided
  rw [e, State.perform, State.writeFor_accepted decided rfl, State.finish_none]
  have logged : Only ⟨[.tw], [], []⟩ (u.classEffect (adr i k) v .restart) _ := State.logWrite_only _ (adr i k) v 0
  have done := (hu.answerable.after (State.classEffect_only u (adr i k) v .restart)).after logged
  refine ⟨?_, ?_, done.answers ..⟩
  · rw [(done.respond_only ..).part .restartWrites (by decide) (by decide) (by decide),
      logged.part .restartWrites (by decide) (by decide) (by decide)]
    refine List.mem_append_right _ ?_
    rw [if_neg (by rwa [hu.objs])]
    exact List.mem_singleton_self _
  · rw [done.respond_objs, State.logWrite]
    split <;> exact hu.objs

/-! ## Writes refused, and writes through -/

/-- ILRIL_WRITE that fails a check answers its code. -/
theorem ilrilWrite_refused {s : State} {dt : Nat} {m : Msg} {x : Session} {i k c : Nat} {value : List Byte}
    (h : Ready s m x (.write i k value)) (hd : (s.tick dt).dictCheck x.role (adr i k) value = .inl c) :
    Completes (.ilrilWrite dt m i k value) s fun t => t.objs = s.objs ∧ answerOf m x 0x11 c (.write 0) ∈ t.out := by
  obtain ⟨u, z, hu, hz, -, e⟩ := h.message dt
  refine ⟨(s.tick dt).message m _, act_next h.awake, ?_⟩
  have hd' : u.dictCheck z.role (adr i k) value = .inl c := by
    rwa [hu.same, State.dictCheck_withSessions, hz]
  rw [e, State.perform, State.writeFor_refused (State.writeItem_refused hd') (State.dictCheck_code hd')]
  exact ⟨(hu.answerable.respond_objs ..).trans hu.objs, hu.answerable.answers ..⟩

/-- ILRIL_WRITE of what is written through goes to the standby, and its answer waits. -/
theorem ilrilWrite_through {s : State} {dt : Nat} {m : Msg} {x : Session} {i k : Nat} {value : List Byte} {v : Val}
    (h : Writable s dt m x i k value v) (hm : s.mirrors = true) (hw : writtenThrough (adr i k) v = true)
    (ho : (s.tick dt).ownWrite m.session (adr i k) v = none) : Completes (.ilrilWrite dt m i k value) s fun t =>
      Out.twinThrough (adr i k) v ∈ t.out ∧ t.objs = s.objs ∧
        ∃ w ∈ t.tw.through, w.addr = adr i k ∧ w.val = v ∧ w.sentAt = t.now ∧ w.answer.isSome = true := by
  obtain ⟨hk, ready, hd, hs⟩ := h
  obtain ⟨u, z, hu, hz, -, e⟩ := ready.message dt
  refine ⟨(s.tick dt).message m _, act_next ready.awake, ?_⟩
  obtain ⟨r, hr⟩ : ∃ r, dictRow i k = some r := by
    cases hr : dictRow i k with
    | some r => exact ⟨r, rfl⟩
    | none => rw [State.dictCheck, dictRow_adr hk, hr] at hd; cases hd
  have decided := hu.writeItem hk (hz.symm ▸ hd) hs (notOwn_of_ownWrite ho) hr
  have through : (u.mirrors && writtenThrough (adr i k) v) = true := by
    rw [hu.mirrors, show (s.tick dt).mirrors = true from hm, hw]
    rfl
  rw [State.classWrite_through _ through] at decided
  rw [e, State.perform, State.writeFor_accepted decided rfl, State.finish_through]
  let y : Answer := ⟨.request m.session m.seq, 0x11, .write 0, 0, (After.frameOf (.through (adr i k) v)).toList⟩
  have sent : Answerable m.session x (u.followWrite (.through (adr i k) v) (some y)) := hu.answerable
  rw [sent.releaseHeld]
  exact ⟨List.mem_append_right _ (List.mem_singleton_self _), hu.objs,
    Through.mk (some y) u.now (adr i k) v, List.mem_append_right _ (List.mem_singleton_self _), rfl, rfl, rfl, rfl⟩

end Sys2Proof.Machine
end

section
namespace Sys2Proof.Machine
set_option Elab.async false

/-! ## Bulk writes -/

/-- An item of a BULK_WRITE whose object the message has not been overtaken at is written as a direct write is. -/
theorem State.bulkWriteItems_cons {u : State} {n seq role k i sub : Nat} {value : List Byte} {w : Wrote}
    (l : List (Nat × Nat × List Byte)) (ho : ((u.session n).elim false fun x => x.overtaken seq (adr i sub)) = false)
    (hw : (u.mark n seq (adr i sub)).writeItem n role (adr i sub) value = w) :
    u.bulkWriteItems n seq role k ((i, sub, value) :: l) =
      (w.status :: (w.state.bulkWriteItems n seq role (k + 1) l).1,
        if w.status = 0 then (k, w.after) :: (w.state.bulkWriteItems n seq role (k + 1) l).2.1
          else (w.state.bulkWriteItems n seq role (k + 1) l).2.1,
        (w.state.bulkWriteItems n seq role (k + 1) l).2.2) := by
  subst hw
  rw [State.bulkWriteItems]
  exact if_neg (Bool.eq_false_iff.1 ho)

/-- Items of a BULK_WRITE all of which fail a check of the dictionary answer its codes and change no object. -/
theorem Begun.bulkWriteItems_refused {t u : State} {n seq role k : Nat} {x : Session} {items : List (Nat × Nat × List Byte)}
    {codes : List Nat} (h : Begun t n x seq u)
    (hc : items.map (fun (i, sub, value) => t.dictCheck role (adr i sub) value) = codes.map .inl)
    (hs : ∀ i ∈ items, look x.started (adr i.1 i.2.1) 0 ≤ seq) :
    ∃ u', Begun t n x seq u' ∧ u.bulkWriteItems n seq role k items = (codes, [], u') := by
  induction items generalizing u k codes with
  | nil =>
    obtain rfl : codes = [] := by simpa using hc.symm
    exact ⟨u, h, rfl⟩
  | cons p items ih =>
    obtain ⟨i, sub, value⟩ := p
    cases codes with
    | nil => simp at hc
    | cons c codes =>
      rw [List.map_cons, List.map_cons, List.cons.injEq] at hc
      obtain ⟨hd, hc⟩ := hc
      have hm := h.mark (adr i sub)
      have hd' : (u.mark n seq (adr i sub)).dictCheck role (adr i sub) value = .inl c := by
        rw [hm.same]
        exact hd
      obtain ⟨u', hu', e⟩ := ih (k := k + 1) hm hc fun j hj => hs j (List.mem_cons_of_mem _ hj)
      refine ⟨u', hu', ?_⟩
      have ho := h.overtaken (a := adr i sub) (hs _ (List.mem_cons_self ..))
      have refused : ((u.mark n seq (adr i sub)).refused c).status ≠ 0 := State.dictCheck_code hd'
      rw [State.bulkWriteItems_cons items ho (State.writeItem_refused hd'), if_neg refused]
      exact congrArg (fun r => (c :: r.1, r.2)) e

/-- ILRIL_BULK_WRITE whose items all fail a check answers their codes. -/
theorem ilrilBulkWrite_refused {s : State} {dt : Nat} {m : Msg} {x : Session} {items : List (Nat × Nat × List Byte)}
    {codes : List Nat} (h : Ready s m x (.bulkWrite items))
    (hc : items.map (fun (i, sub, value) => (s.tick dt).dictCheck x.role (adr i sub) value) = codes.map .inl)
    (hs : ∀ i ∈ items, look x.started (adr i.1 i.2.1) 0 ≤ m.seq) :
    Completes (.ilrilBulkWrite dt m items) s fun t => t.objs = s.objs ∧ answerOf m x 0x13 0 (.bulkWrite codes) ∈ t.out := by
  obtain ⟨u, z, hu, hz, -, e⟩ := h.message dt
  refine ⟨(s.tick dt).message m _, act_next h.awake, ?_⟩
  obtain ⟨u', hu', eb⟩ := hu.bulkWriteItems_refused (k := 0) hc hs
  rw [e, State.perform, State.doBulkWrite, hz, eb, State.finish_nil]
  exact ⟨(hu'.answerable.respond_objs ..).trans hu'.objs, hu'.answerable.answers ..⟩

theorem State.bulkWriteItems_single {u : State} {n seq role k i sub : Nat} {value : List Byte} {w : Wrote}
    (ho : ((u.session n).elim false fun x => x.overtaken seq (adr i sub)) = false)
    (hw : (u.mark n seq (adr i sub)).writeItem n role (adr i sub) value = w) (h0 : w.status = 0) :
    u.bulkWriteItems n seq role k [(i, sub, value)] = ([0], [(k, w.after)], w.state) := by
  rw [State.bulkWriteItems_cons [] ho hw, h0, if_pos rfl]
  rfl

/-- A single Immediate-class item takes effect. -/
theorem ilrilBulkWrite_immediate {s : State} {dt : Nat} {m : Msg} {x : Session} {i k : Nat} {value : List Byte} {v : Val} {r : Row}
    (h : Ready s m x (.bulkWrite [(i, k, value)])) (hl : look x.started (adr i k) 0 ≤ m.seq)
    (hd : (s.tick dt).dictCheck x.role (adr i k) value = .inr v) (hs : (s.tick dt).standCheck (adr i k) v = none)
    (ho : (s.tick dt).ownWrite m.session (adr i k) v = none) (hk : k < 65536) (hr : dictRow i k = some r)
    (hc : r.commit = .immediate) (alone : (s.mirrors && writtenThrough (adr i k) v) = false) :
    Completes (.ilrilBulkWrite dt m [(i, k, value)]) s fun t =>
      answerOf m x 0x13 0 (.bulkWrite [0]) ∈ t.out ∧
        (r.access = .rw → 0x2000 ≤ i → i < 0x7000 → i ≠ Obj.tarnCtrl → Objs.val t.objs (adr i k) = v) := by
  obtain ⟨u, z, hu, hz, -, e⟩ := h.message dt
  refine ⟨(s.tick dt).message m _, act_next h.awake, ?_⟩
  have hm := hu.mark (adr i k)
  have decided := hm.writeItem hk hd hs (notOwn_of_ownWrite ho) hr
  rw [hc, State.classWrite_immediate (hm.mirrors ▸ alone)] at decided
  have done : Answerable m.session x ((u.mark m.session m.seq (adr i k)).actNow (adr i k) v) := hm.answerable.actNow ..
  rw [e, State.perform, State.doBulkWrite, hz, State.bulkWriteItems_single (hu.overtaken hl) decided rfl, State.finish_none]
  exact ⟨done.answers .., State.actNow_setting hk hr (done.respond_objs ..)⟩

/-- A single Frame-class item waits for the boundary of R9. -/
theorem ilrilBulkWrite_frame {s : State} {dt : Nat} {m : Msg} {x : Session} {i k : Nat} {value : List Byte} {v : Val} {r : Row}
    (h : Ready s m x (.bulkWrite [(i, k, value)])) (hl : look x.started (adr i k) 0 ≤ m.seq)
    (hd : (s.tick dt).dictCheck x.role (adr i k) value = .inr v) (hs : (s.tick dt).standCheck (adr i k) v = none)
    (ho : (s.tick dt).ownWrite m.session (adr i k) v = none) (hk : k < 65536) (hr : dictRow i k = some r)
    (hc : r.commit = .frame) (alone : (s.mirrors && writtenThrough (adr i k) v) = false) :
    Completes (.ilrilBulkWrite dt m [(i, k, value)]) s fun t =>
      t.ce.frameWrites = s.ce.frameWrites ++ [⟨adr i k, v, t.boundaryAfterDeadline⟩] ∧
        answerOf m x 0x13 0 (.bulkWrite [0]) ∈ t.out := by
  obtain ⟨u, z, hu, hz, -, e⟩ := h.message dt
  refine ⟨(s.tick dt).message m _, act_next h.awake, ?_⟩
  have hm := hu.mark (adr i k)
  have decided := hm.writeItem hk hd hs (notOwn_of_ownWrite ho) hr
  rw [hc, State.classWrite_frame (hm.mirrors ▸ alone)] at decided
  rw [e, State.perform, State.doBulkWrite, hz, State.bulkWriteItems_single (hu.overtaken hl) decided rfl, State.finish_frame]
  exact ⟨(hm.frameWrite (adr i k) v m.seq 0x13 0 (.bulkWrite [0])).2, (hm.answerable.frameWrite _).answers ..⟩

end Sys2Proof.Machine
end

section
namespace Sys2Proof.Machine
set_option Elab.async false

/-! ## The update machine beside the sessions -/

section
variable (s : State) (l : Table Session)

theorem fst_ite {c c' : Prop} [Decidable c] [Decidable c'] {a a' b b' : Written} (hc : c ↔ c') (h : a.1 = b.1) (h' : a'.1 = b'.1) :
    (if c then a else a').1 = (if c' then b else b').1 := by
  rw [apply_ite Prod.fst, apply_ite Prod.fst]
  exact if_congr hc h h'

theorem State.program_withSessions (a : Nat) (b : List Byte) :
    (s.withSessions l).program a b = (s.program a b).withSessions l := by
  induction b generalizing s a with
  | nil => rfl
  | cons x b ih => exact ih (s.setFlashByte a (s.flashByte a &&& x)) (a + 1)

theorem State.updateBegin_status (n kind : Nat) : (s.updateBegin n kind).1 = (s.updateChecks 0).getD 0 := by
  unfold State.updateBegin
  cases s.updateChecks 0 <;> rfl

theorem State.updateActivate_status : s.updateActivate.1 = (s.updateChecks 3).getD 0 := by
  unfold State.updateActivate
  cases s.updateChecks 3 <;> rfl

theorem State.updateData_withSessions (n : Nat) (b : List Byte) :
    ((s.withSessions l).updateData n b).1 = (s.updateData n b).1 := by
  unfold State.updateData
  refine fst_ite .rfl rfl (fst_ite .rfl rfl (fst_ite .rfl rfl (fst_ite ?_ rfl rfl)))
  rw [State.program_withSessions, State.flashBytes_withSessions]
  rfl

theorem State.updateCommit_withSessions (n : Nat) : ((s.withSessions l).updateCommit n).1 = (s.updateCommit n).1 := by
  unfold State.updateCommit
  refine fst_ite .rfl rfl ?_
  extract_lets t base fault staged t' base' fault' staged'
  have ht : t = t'.withSessions l := rfl
  have length (b : Nat) : (t'.withSessions l).imageLength b = t'.imageLength b := by
    unfold State.imageLength State.imageSigs State.imageBody
    rw [State.imageN_withSessions]
  have hf : fault = fault' := by
    unfold fault
    rw [ht, State.headerOk_withSessions, length, State.imageFault_withSessions]
    rfl
  rw [hf]
  match fault' with
  | some c => exact (rfl : c = c)
  | none => exact (rfl : 0 = 0)

theorem State.updateAbort_withSessions : (s.withSessions l).updateAbort.1 = s.updateAbort.1 := by
  unfold State.updateAbort
  exact fst_ite .rfl rfl rfl

end

/-! ## Writes that act on the device itself -/

/-- A write decided alike in another state, in which session n stands ready to answer. -/
def DecidedAlike (n : Nat) (x : Session) (o o' : Option Wrote) : Prop :=
  ∀ w, o = some w → ∃ w', o' = some w' ∧ w'.status = w.status ∧ w'.effectiveAt = w.effectiveAt ∧ w'.after = w.after ∧
    Answerable n x w'.state

section
variable {n : Nat} {x : Session}

theorem DecidedAlike.ite {c : Prop} [Decidable c] {a a' b b' : Option Wrote} (h : DecidedAlike n x a b)
    (h' : DecidedAlike n x a' b') : DecidedAlike n x (if c then a else a') (if c then b else b') := by
  split
  · exact h
  · exact h'

theorem DecidedAlike.wrote {s t : State} (f : After) (hp : t.ptp = s.ptp) (h : Answerable n x t) :
    DecidedAlike n x (some (s.wrote f)) (some (t.wrote f)) := by
  rintro w e
  cases e
  exact ⟨_, rfl, rfl, hp, rfl, h⟩

theorem DecidedAlike.written {p q : Written} (f : After) (hs : q.1 = p.1) (hp : q.2.ptp = p.2.ptp) (h : Answerable n x q.2) :
    DecidedAlike n x (some (Written.wrote p f)) (some (Written.wrote q f)) := by
  rintro w e
  cases e
  unfold Written.wrote
  rw [hs]
  split
  · exact ⟨_, rfl, rfl, hp, rfl, h⟩
  · exact ⟨_, rfl, rfl, rfl, rfl, h⟩

theorem DecidedAlike.when {c : Prop} [Decidable c] {a a' b b' : Wrote} (h : DecidedAlike n x (some a) (some b))
    (h' : DecidedAlike n x (some a') (some b')) :
    DecidedAlike n x (some (if c then a else a')) (some (if c then b else b')) := by
  split
  · exact h
  · exact h'

end

/-- The sessions have no part in the decision of a write on the device itself. -/
theorem Begun.ownWrite {t u : State} {n seq : Nat} {x : Session} (h : Begun t n x seq u) (a : Nat) (v : Val) :
    DecidedAlike n x (t.ownWrite n a v) (u.ownWrite n a v) := by
  have hu := h.answerable
  have hp := h.ptp
  obtain ⟨l, rfl⟩ : ∃ l, u = t.withSessions l := ⟨_, h.same⟩
  have now {r r' : Reach} {t' u' : State} (g : Only r t t') (g' : Only r' (t.withSessions l) u')
      (hr : Part.tc ∉ r.parts := by decide) (hr' : Part.tc ∉ r'.parts := by decide) : u'.ptp = t'.ptp := by
    rw [g'.ptp hr', g.ptp hr, hp]
  have stay (f : After) : DecidedAlike n x (some (t.wrote f)) (some ((t.withSessions l).wrote f)) := .wrote f hp hu
  unfold State.ownWrite
  extract_lets i k b
  refine .ite (.wrote _ (now (State.writeKey_only ..) (State.writeKey_only ..)) (hu.after (State.writeKey_only ..)))
    (.ite (.wrote _ (now (State.writeLock_only ..) (State.writeLock_only ..)) (hu.after (State.writeLock_only ..)))
    (.ite (.wrote _ (now (State.programKey_only ..) (State.programKey_only ..)) (hu.after (State.programKey_only ..)))
    (.ite (.wrote _ (now (State.revokeKey_only ..) (State.revokeKey_only ..)) (hu.after (State.revokeKey_only ..)))
    (.ite (.wrote _ ?_ ?_) (.ite (stay _) (.ite (stay _) (.ite ?begin (.ite ?data (.ite (.when ?commit (stay _))
    (.ite (.when ?activate (stay _)) (.ite (.when ?abort (stay _)) fun w e => nomatch e)))))))))))
  · have subscribe (s : State) :
        Only ⟨[.sessions], [], []⟩ s ((s.session n).elim s fun z => s.setSession n { z with subscription := b }) :=
      Only.optElim (fun _ => State.setSession_only ..) (.refl _ s)
    exact now (subscribe _) (subscribe _)
  · obtain ⟨z, hz, hd, hh⟩ := hu
    rw [hz]
    exact ⟨_, State.session_setSession .., hd, hh⟩
  case begin =>
    refine .written _ ?_ (now (State.updateBegin_only ..) (State.updateBegin_only ..)) (hu.after (State.updateBegin_only ..))
    rw [State.updateBegin_status, State.updateBegin_status]
    rfl
  case data =>
    exact .written _ (State.updateData_withSessions ..) (now (State.updateData_only ..) (State.updateData_only ..))
      (hu.after (State.updateData_only ..))
  case commit =>
    exact .written _ (State.updateCommit_withSessions ..) (now (State.updateCommit_only ..) (State.updateCommit_only ..))
      (hu.after (State.updateCommit_only ..))
  case activate =>
    refine .written _ ?_ (now (State.updateActivate_only _) (State.updateActivate_only _)) (hu.after (State.updateActivate_only _))
    rw [State.updateActivate_status, State.updateActivate_status]
    rfl
  case abort =>
    exact .written _ (State.updateAbort_withSessions ..) (now (State.updateAbort_only _) (State.updateAbort_only _))
      (hu.after (State.updateAbort_only _))

/-- ILRIL_WRITE that acts on the device itself is answered as it is decided. -/
theorem ilrilWrite_own {s : State} {dt : Nat} {m : Msg} {x : Session} {i k : Nat} {value : List Byte} {v : Val} {w : Wrote}
    (h : Writable s dt m x i k value v) (ho : (s.tick dt).ownWrite m.session (adr i k) v = some w) (hw : w.after = .none) :
    Completes (.ilrilWrite dt m i k value) s fun t =>
      answerOf m x 0x11 w.status (.write (if w.status = 0 then w.effectiveAt else 0)) ∈ t.out := by
  obtain ⟨hk, ready, hd, hs⟩ := h
  obtain ⟨u, z, hu, hz, -, e⟩ := ready.message dt
  refine ⟨(s.tick dt).message m _, act_next ready.awake, ?_⟩
  obtain ⟨w', ho', status, at_, after, done⟩ := hu.ownWrite (adr i k) v w ho
  have decided : u.writeItem m.session z.role (adr i k) value = w' := by
    have hd' : u.dictCheck z.role (adr i k) value = .inr v := by rwa [hu.same, State.dictCheck_withSessions, hz]
    have hs' : u.standCheck (adr i k) v = none := by rwa [hu.same, State.standCheck_withSessions]
    simp only [State.writeItem, hd', hs', ho']
  rw [e, State.perform, ← status, ← at_]
  split
  · next hc =>
    rw [State.writeFor_accepted decided hc, after, hw, State.finish_none, hc]
    exact done.answers ..
  · next hc =>
    rw [State.writeFor_refused decided hc]
    exact done.answers ..

end Sys2Proof.Machine
end

section
namespace Sys2Proof.Machine
set_option Elab.async false

/-- Settles O23: a message that waits for none begins in the state of its time with other sessions, which no check and no read
beside those of sessions looks at; what it does leaves its session ready to answer. -/
theorem requestsAnswered : Obligations.RequestsAnswered := by
  unfold Obligations.RequestsAnswered
  refine ⟨?_, ?_, ?_, ?_, ?_, ?_, ?_, ?_, ?_, ?_, ?_, ?_, ?_, ?_, ?_⟩
  · exact fun s dt m x i k offset most h => ilrilRead_answered h
  · exact fun s dt m x i k offset most c h hc => ilrilRead_refused h hc
  · exact fun s dt m x i k offset most b u h hc hi => ilrilRead_value h hc hi
  · exact fun s dt m x i k value v r h hr hc ho => ilrilWrite_immediate h hr hc ho
  · exact fun s dt m x i k value v w h ho hw => ilrilWrite_own h ho hw
  · exact fun s dt m x i k most r h hr ha hl hj hs hi => ilrilRead_whole h hr ha hl hj hs hi
  · exact fun s dt m x i k value v r h hr hc alone ho => ilrilWrite_frame h hr hc alone ho
  · exact fun s dt m x i k value v r h hr hc alone hv => ilrilWrite_restart h hr hc alone hv
  · exact fun s dt m x i k value c h hd => ilrilWrite_refused h hd
  · exact fun s dt m x i k value v h hm hw ho => ilrilWrite_through h hm hw ho
  · exact fun s dt m x items h => ilrilBulkRead_answered h
  · exact fun s dt m x i k b u h ho hv hi hb => ilrilBulkRead_single h ho hv hi hb
  · exact fun s dt m x items codes h hc hs => ilrilBulkWrite_refused h hc hs
  · exact fun s dt m x i k value v r h hl hd hs ho hk hr hc alone => ilrilBulkWrite_immediate h hl hd hs ho hk hr hc alone
  · exact fun s dt m x i k value v r h hl hd hs ho hk hr hc alone => ilrilBulkWrite_frame h hl hd hs ho hk hr hc alone

end Sys2Proof.Machine
end

section
/-!
SUPPORT. What has been sent stays sent: `OutKept s t` says that the output of t begins with the output of s.
-/
namespace Sys2Proof.Machine
set_option Elab.async false

/-- What a function sends comes after what has been sent before. -/
structure OutKept (s t : State) : Prop where
  out : s.out <+: t.out

theorem OutKept.of_eq {s t : State} (h : t.out = s.out) : OutKept s t := ⟨⟨[], by rw [List.append_nil, h]⟩⟩

theorem OutKept.refl (s : State) : OutKept s s := .of_eq rfl

/-- Outermost first. -/
theorem OutKept.seq {s t u : State} (h : OutKept t u) (g : OutKept s t) : OutKept s u := ⟨g.out.trans h.out⟩

/-- A function whose reach has no output. -/
theorem OutKept.of_only {r : Reach} {s t : State} (h : Only r s t) (hp : Part.out ∉ r.parts := by decide) : OutKept s t :=
  .of_eq (h.same .out hp)

theorem OutKept.ite {p : Prop} [Decidable p] {s a b : State} (h : OutKept s a) (g : OutKept s b) :
    OutKept s (if p then a else b) := by
  split
  · exact h
  · exact g

theorem OutKept.foldl {α : Type} {f : State → α → State} {xs : List α} {s : State} (h : ∀ u x, OutKept u (f u x)) :
    OutKept s (xs.foldl f s) := by
  induction xs generalizing s with
  | nil => exact .refl s
  | cons x xs ih => exact ih.seq (h s x)

theorem OutKept.mem {s t : State} {o : Out} (h : OutKept s t) (ho : o ∈ s.out) : o ∈ t.out := h.out.subset ho

theorem State.mem_emit (s : State) (o : Out) : o ∈ (s.emit o).out := by simp [State.emit]

theorem State.emit_outKept (s : State) (o : Out) : OutKept s (s.emit o) := ⟨⟨[o], rfl⟩⟩

/-! ## Events and counters -/

theorem State.setEvPin_outKept (s : State) (n : Nat) (p : EvPin) : OutKept s (s.setEvPin n p) := by
  unfold State.setEvPin
  extract_lets changed e s1
  have h1 : OutKept s s1 := .ite (.of_eq rfl) (.of_eq rfl)
  exact .ite ((State.emit_outKept ..).seq h1) h1

theorem State.assertPin_outKept (s : State) (n src : Nat) : OutKept s (s.assertPin n src) := by
  unfold State.assertPin
  extract_lets p
  refine .ite (State.setEvPin_outKept ..) ?_
  split
  · exact .ite (.refl s) (State.setEvPin_outKept ..)
  · exact State.setEvPin_outKept ..

theorem State.raiseOnce_outKept (s : State) (src subj : Nat) : OutKept s (s.raiseOnce src subj) := by
  unfold State.raiseOnce
  extract_lets s1 s2 s3 s4 m s5 s6 s7
  have h4 : OutKept s s4 := .seq (.of_only (State.evPush_only ..)) (.of_eq rfl)
  have h5 : OutKept s s5 := .ite ((State.assertPin_outKept ..).seq h4) h4
  have h6 : OutKept s s6 := .ite ((State.assertPin_outKept ..).seq h5) h5
  have h7 : OutKept s s7 := .seq (.of_only (State.journal_only ..)) h6
  exact .ite (.seq (.of_only (State.flashJournal_only ..)) h7) h7

theorem State.raise_outKept (s : State) (src subj : Nat) : OutKept s (s.raise src subj) := by
  unfold State.raise
  extract_lets a full s1
  have h1 : OutKept s s1 := State.raiseOnce_outKept ..
  exact .ite (.seq (State.raiseOnce_outKept ..) (.seq (.of_only (State.setPinned_only ..)) h1)) h1

theorem State.bump_outKept (s : State) (i k by_ : Nat) : OutKept s (s.bump i k by_) := by
  unfold State.bump
  extract_lets a top v
  have set (v) : OutKept s (s.setN i k v) := .of_only (State.setN_only ..) (by simp)
  exact .ite (set _) (.ite (set _) (.seq (State.raise_outKept ..) (.seq (.of_only (State.setPinned_only ..)) (set _))))

/-- A counter counts (R559). -/
theorem State.bump_counted (s : State) (i k : Nat)
    (h : i ≠ Obj.eventCount ∧ i ≠ Obj.eventLastAt ∧ i ≠ Obj.eventLastSubject := by decide) : Counted i k 1 s (s.bump i k) := by
  show (s.bump i k).n i k = min (s.n i k + 1) (counterMax i k)
  unfold State.bump
  extract_lets a top v
  split
  · next hv => rw [State.n_setN_self]; exact (min_eq_left hv).symm
  · next hv =>
    have e : min (s.n i k + 1) (counterMax i k) = top := min_eq_right (Nat.le_of_not_le hv)
    rw [e]
    split
    · exact State.n_setN_self ..
    · rw [State.n_raise _ _ _ _ _ h, State.n_setPinned, State.n_setN_self]

theorem Counted.from_same {i k n : Nat} {s u t : State} (h : Counted i k n u t) (e : u.n i k = s.n i k) : Counted i k n s t := by
  unfold Counted at *
  rwa [e] at h

/-! ## Frames that leave -/

theorem State.setBind_outKept (s : State) (ch st : Nat) : OutKept s (s.setBind ch st) := by
  unfold State.setBind
  extract_lets old t
  have ht : OutKept s t := .of_only (State.setN_only ..)
  refine .ite ht ?_
  split
  · exact (State.raise_outKept ..).seq ht
  · exact (State.raise_outKept ..).seq ht
  · exact (State.raise_outKept ..).seq ht
  · exact ht

theorem State.bindMark_outKept (s : State) (ch emission : Nat) (lost noRoute : Bool) (v : Nat) :
    OutKept s (s.bindMark ch emission lost noRoute v) := by
  have aout (u : State) (x) : OutKept u (u.setAout ch x) := .of_only (State.setAout_only ..)
  unfold State.bindMark
  extract_lets x rate cut toMain newest source path want moves bypass waits
  split
  extract_lets heard t1 t2 y t3
  have h1 : OutKept s t1 := State.setBind_outKept ..
  have h2 : OutKept s t2 := .ite h1 (.seq (.of_only (State.setI_only ..)) h1)
  have h3 : OutKept s t3 := (aout ..).seq h2
  exact .ite ((aout ..).seq h3) h3

theorem State.emitFrame_outKept (s : State) (d code emission : Nat) : OutKept s (s.emitFrame d code emission) := by
  unfold State.emitFrame
  refine .ite (.refl s) (.seq ?_ (.of_only (State.emitLedger_only s d code emission)))
  unfold State.videoMark
  split
  · exact .refl _
  · exact .foldl fun u ch => State.bindMark_outKept ..

end Sys2Proof.Machine
end

section
/-!
SUPPORT. A transmit port or group that may send its next frame, and what each branch of `State.sdiNext` sends.
-/
namespace Sys2Proof.Machine
set_option Elab.async false

/-- A transmit port or group whose next frame may leave: no lane-rate change is under way (R50, R76, R79). -/
structure TxPort (s : State) (lane : Nat) : Prop where
  on : s.on
  small : lane < 288
  mode : s.n Obj.laneMode lane = 1
  lead : Objs.txLead s.objs lane = lane
  free : (s.txLane lane).idleUntil = none

theorem Only.txLane {r : Reach} {s t : State} (h : Only r s t) (l : Nat) (hp : Part.sdiTx ∉ r.parts := by decide) :
    t.txLane l = s.txLane l := by
  have e : t.sdiTx = s.sdiTx := h.same .sdiTx hp
  simp only [State.txLane, e]

/-! ## Which device drives, and when -/

theorem State.txAlign_unbound {s : State} {lane : Nat} (h : s.n Obj.txSlot lane = 0xFFFF) : s.txAlign lane = s.tc := by
  simp [State.txAlign, h]

theorem State.txDue_unbound {s : State} {lane : Nat} (h : s.n Obj.txSlot lane = 0xFFFF) : s.txDue lane = true := by
  simp [State.txDue, h]

theorem State.txAlign_shown {s : State} {lane : Nat} {x : Shown} (h : s.n Obj.txSlot lane ≠ 0xFFFF)
    (hx : (s.dst (s.n Obj.txSlot lane)).shown = some x) : s.txAlign lane = x.align := by
  simp [State.txAlign, h, hx]

theorem State.txDue_shown {s : State} {lane : Nat} {x : Shown} (hx : (s.dst (s.n Obj.txSlot lane)).shown = some x)
    (hd : x.read + 3200 + laneTxDelay (carriageRate (s.txCarriageOf lane (s.n Obj.txSlot lane))
      (s.n Obj.dstReservedFormat (s.n Obj.txSlot lane))) ≤ s.ptp) : s.txDue lane = true := by
  simp [State.txDue, hx, hd]

theorem TxPort.next {s : State} {lane : Nat} (h : TxPort s lane) (dt : Nat) (hd : (s.tick dt).txDue lane = true) :
    exec (.sdiTxFrameEmit dt lane) s = .next (
      if (s.tick dt).drives ((s.tick dt).txAlign lane) then (s.tick dt).sdiNext lane
      else if s.n Obj.twinSdiStandby 0 = 0 then (s.tick dt).txIdleNow lane 3
      else ((s.tick dt).sdiNext lane).setN Obj.txState lane 3) := by
  show execSdiTxFrameEmit dt lane s = _
  rw [execSdiTxFrameEmit, actIf_next h.on.1 (by simp [h.on.2, h.small, h.mode, h.lead, h.free, hd])]
  rfl

/-- The device that drives sends what comes next. -/
theorem TxPort.sends {s : State} {lane : Nat} {P : State → Prop} (h : TxPort s lane) (dt : Nat)
    (hd : (s.tick dt).txDue lane = true) (hv : (s.tick dt).drives ((s.tick dt).txAlign lane) = true)
    (hP : P ((s.tick dt).sdiNext lane)) : Completes (.sdiTxFrameEmit dt lane) s P :=
  ⟨_, by rw [h.next dt hd, if_pos hv], hP⟩

/-- A port without a destination waits for no SAV. -/
theorem TxPort.sends_unbound {s : State} {lane : Nat} {P : State → Prop} (h : TxPort s lane) (dt : Nat)
    (hs : s.n Obj.txSlot lane = 0xFFFF) (hv : s.drives (s.tick dt).tc = true) (hP : P ((s.tick dt).sdiNext lane)) :
    Completes (.sdiTxFrameEmit dt lane) s P :=
  h.sends dt (State.txDue_unbound hs) (by rw [State.txAlign_unbound (s := s.tick dt) hs]; exact hv) hP

/-! ## Electrical idle, BLACK, and a change of lane rate -/

theorem State.txIdleNow_idles (s : State) (lane st : Nat) :
    (s.txIdleNow lane st).n Obj.txState lane = st ∧ Out.sdiIdle lane ∈ (s.txIdleNow lane st).out := by
  refine ⟨?_, State.mem_emit ..⟩
  rw [State.txIdleNow, State.n_emit, (State.setDriver_only ..).n _ _, State.n_setN_self]

theorem State.sdiNext_black {s : State} {lane : Nat} (hs : s.n Obj.txSlot lane = 0xFFFF) (hi : s.n Obj.txIdle lane = 1)
    (hr : (s.txLane lane).ran = true) (hp : s.sdiPll lane (s.n Obj.txRate lane) = true) : s.sdiNext lane = s.txBlack lane := by
  simp [State.sdiNext, hs, hi, hr, hp]

theorem State.sdiNext_neverRan {s : State} {lane : Nat} (hs : s.n Obj.txSlot lane = 0xFFFF)
    (hr : (s.txLane lane).ran = false) : s.sdiNext lane = s.txIdleNow lane 0 := by
  simp [State.sdiNext, hs, hr]

theorem State.txBlack_sends (s : State) (lane : Nat) :
    (s.txBlack lane).n Obj.txState lane = 0 ∧
      Out.sdi (sdiFrame lane .black (s.n Obj.txFormat lane) (driverMode (s.n Obj.txRate lane))
        (s.txDivision lane (s.txLane lane).carriage) (s.txLane lane).pids) ∈ (s.txBlack lane).out := by
  refine ⟨?_, State.mem_emit ..⟩
  unfold State.txBlack
  extract_lets x mode
  have drivers (u : State) (l : List Nat) : Only ⟨[], [Obj.txDriverMode], []⟩ u
      (l.foldl (fun t l => t.setN Obj.txDriverMode l mode) u) := .foldl (fun t l => State.setN_only ..) (Only.refl _ u)
  rw [State.n_emit, (drivers ..).n _ _, State.n_setN_self]

/-- A change of lane rate: the idle frame begins. -/
theorem State.sdiNext_rateChange {s : State} {lane d : Nat} (hd : d = s.n Obj.txSlot lane) (hs : d ≠ 0xFFFF)
    (hr : (s.txLane lane).ran = true)
    (hp : s.sdiPll lane (carriageRate (s.txCarriageOf lane d) (s.n Obj.dstReservedFormat d)) = true)
    (hn : s.n Obj.txRate lane ≠ carriageRate (s.txCarriageOf lane d) (s.n Obj.dstReservedFormat d)) :
    let t := s.sdiNext lane
    t.n Obj.txState lane = 2 ∧ t.n Obj.txRate lane = carriageRate (s.txCarriageOf lane d) (s.n Obj.dstReservedFormat d) ∧
      (t.txLane lane).idleUntil = some (t.now + fmtPeriodNs (s.n Obj.dstReservedFormat d)) ∧ Out.sdiIdle lane ∈ t.out := by
  subst hd
  intro t
  have ht : t = s.sdiNext lane := rfl
  unfold State.sdiNext at ht
  extract_lets d x f carriage rate u u2 at ht
  have locked : s.sdiPll lane rate = true := hp
  have changes : (x.ran && s.n Obj.txRate lane != rate) = true := Bool.and_eq_true_iff.2 ⟨hr, bne_iff_ne.2 hn⟩
  rw [if_neg hs, if_neg (by simp [locked]), if_pos changes] at ht
  have hdrive : Only ⟨[], [Obj.txDriverMode], []⟩ u2 (u2.setDriver lane (driverMode rate)) := State.setDriver_only ..
  have hraise := State.raise_only ((u2.setDriver lane (driverMode rate)).emit (.sdiIdle lane)) Ev.sdiTxRate lane
  rw [ht]
  refine ⟨?_, ?_, ?_, (State.raise_outKept ..).mem (State.mem_emit ..)⟩
  · rw [hraise.n _ _, State.n_emit, hdrive.n _ _]
    show u.n Obj.txState lane = 2
    rw [State.n_setN_ne _ _ _ _ _ _ (by decide), State.n_setN_self]
  · rw [hraise.n _ _, State.n_emit, hdrive.n _ _]
    exact State.n_setN_self ..
  · rw [hraise.txLane, State.txLane_emit, hdrive.txLane, State.txLane_setTxLane, State.now_raise]
    have hnow : (u2.setDriver lane (driverMode rate)).now = u2.now := hdrive.same .now
    exact congrArg (fun n => some (n + fmtPeriodNs f)) hnow.symm

end Sys2Proof.Machine
end

section
namespace Sys2Proof.Machine
set_option Elab.async false

/-! ## An output frame -/

/-- A transmit port reports what it sends: TxState RUNNING, the lane rate and the format (R76). -/
structure SendsFormat (lane rate format : Nat) (t : State) : Prop where
  state : t.n Obj.txState lane = 1
  rate : t.n Obj.txRate lane = rate
  format : t.n Obj.txFormat lane = format

theorem SendsFormat.after {r : Reach} {lane rate format : Nat} {t u : State} (h : SendsFormat lane rate format t) (g : Only r t u)
    (hp : Part.objs ∉ r.parts := by decide)
    (hi : ∀ i ∈ [Obj.txState, Obj.txRate, Obj.txFormat], i ∉ r.objs := by decide) : SendsFormat lane rate format u :=
  ⟨(g.n _ _ hp (hi _ (by simp))).trans h.state, (g.n _ _ hp (hi _ (by simp))).trans h.rate,
   (g.n _ _ hp (hi _ (by simp))).trans h.format⟩

theorem State.report_sendsFormat (s : State) (lane rate format : Nat) :
    SendsFormat lane rate format
      (((s.setN Obj.txState lane 1).setN Obj.txRate lane rate).setN Obj.txFormat lane format) := by
  constructor
  · rw [State.n_setN_ne _ _ _ _ _ _ (by decide), State.n_setN_ne _ _ _ _ _ _ (by decide), State.n_setN_self]
  · rw [State.n_setN_ne _ _ _ _ _ _ (by decide), State.n_setN_self]
  · exact State.n_setN_self ..

/-- Blanking lines leave between two formats (R199). -/
theorem State.txEmit_blanking {s : State} {lane d carriage rate : Nat} {x : Shown} (hx : (s.dst d).shown = some x)
    (hb : x.pic = .blanking) :
    SendsFormat lane rate x.format (s.txEmit lane d carriage rate) ∧
      Out.sdi (blankingFrame lane x.format (driverMode rate)) ∈ (s.txEmit lane d carriage rate).out := by
  unfold State.txEmit
  rw [hx]
  dsimp only
  rw [if_pos hb]
  exact ⟨(((s.report_sendsFormat ..).after (State.setDriver_only ..)).after (State.setTxLane_only ..)).after
      (State.emit_only ..) |>.after (State.emitFrame_only ..),
    (State.emitFrame_outKept ..).mem (State.mem_emit ..)⟩

/-- A picture leaves with what goes with it (R28, R64, R66, R71, R75). -/
theorem State.txEmit_picture {s : State} {lane d carriage rate : Nat} {x : Shown} (hx : (s.dst d).shown = some x)
    (hb : x.pic ≠ .blanking) :
    let t := s.txEmit lane d carriage rate
    SendsFormat lane rate x.format t ∧ (t.txLane lane).ran = true ∧ (t.txLane lane).frame = (s.txLane lane).frame + 1 ∧
      ∃ groups packets, Out.sdi (sdiOutput lane x rate (s.txDivision lane carriage) (s.txPids lane d carriage x.format)
        groups packets) ∈ t.out := by
  intro t
  have ht : t = s.txEmit lane d carriage rate := rfl
  unfold State.txEmit at ht
  split at ht
  · next hnone => exact absurd (hx.symm.trans hnone) nofun
  next x' hsome =>
  obtain rfl : x = x' := Option.some.inj (hx.symm.trans hsome)
  extract_lets mode y pids placed n s1 s2 s3 s4 at ht
  rw [if_neg hb] at ht
  have h1 : SendsFormat lane rate x.format s1 := (s.report_sendsFormat ..).after (State.setDriver_only ..)
  have h2 : SendsFormat lane rate x.format s2 := (h1.after (State.setN_only ..)).after (State.setTxLane_only ..)
  have h34 : Only ⟨[.out, .pinned, .ev, .flashJournal, .diskJournal],
      [Obj.sdiTxAncDropped, Obj.eventCount, Obj.eventLastAt, Obj.eventLastSubject], [0x40000004, 0x40000008]⟩ s3 s4 :=
    .ite (Only.refl _ _) ((State.raise_only ..).seq (State.bump_only ..))
  have o34 : OutKept s3 s4 := .ite (.refl _) ((State.raise_outKept ..).seq (State.bump_outKept ..))
  have htx : t.txLane lane = s2.txLane lane := by
    rw [ht, (State.emitFrame_only ..).txLane, h34.txLane, State.txLane_emit]
  have h02 : Only ⟨[.sdiTx], [Obj.txState, Obj.txRate, Obj.txFormat, Obj.txDriverMode, Obj.txPayloadId], []⟩ s s2 :=
    (State.setTxLane_only ..).seq ((State.setN_only ..).seq ((State.setDriver_only ..).seq ((State.setN_only ..).seq
      ((State.setN_only ..).seq (State.setN_only ..).up))))
  have hdiv : s2.txDivision lane carriage = s.txDivision lane carriage := by
    rw [State.txDivision, State.txDivision, h02.n Obj.txQuadDivision lane]
  rw [htx, State.txLane_setTxLane, ← hdiv, ht]
  exact ⟨((h2.after (State.emit_only ..)).after h34).after (State.emitFrame_only ..), rfl, rfl, _, _,
    ((State.emitFrame_outKept ..).seq o34).mem (State.mem_emit ..)⟩

end Sys2Proof.Machine
end

section
namespace Sys2Proof.Machine
set_option Elab.async false

/-! ## A port with a shown picture -/

/-- Where the lane rate stays, the shown picture leaves. -/
theorem State.sdiNext_emit {s : State} {lane d : Nat} (hd : d = s.n Obj.txSlot lane) (hs : d ≠ 0xFFFF)
    (hp : s.sdiPll lane (carriageRate (s.txCarriageOf lane d) (s.n Obj.dstReservedFormat d)) = true)
    (hr : (s.txLane lane).ran = true →
      s.n Obj.txRate lane = carriageRate (s.txCarriageOf lane d) (s.n Obj.dstReservedFormat d)) :
    s.sdiNext lane =
      s.txEmit lane d (s.txCarriageOf lane d) (carriageRate (s.txCarriageOf lane d) (s.n Obj.dstReservedFormat d)) := by
  subst hd
  have hstays : ((s.txLane lane).ran && s.n Obj.txRate lane !=
      carriageRate (s.txCarriageOf lane (s.n Obj.txSlot lane)) (s.n Obj.dstReservedFormat (s.n Obj.txSlot lane))) = false := by
    simpa using hr
  simp [State.sdiNext, hs, hp, hstays]

/-- Its SAV has left, and this device drives it: the frame leaves (R28, R333, R373). -/
theorem TxPort.sends_shown {s : State} {lane : Nat} {x : Shown} {P : State → Prop} (h : TxPort s lane) (dt : Nat)
    (hs : s.n Obj.txSlot lane ≠ 0xFFFF) (hx : (s.dst (s.n Obj.txSlot lane)).shown = some x) (hv : s.drives x.align = true)
    (hd : x.read + 3200 + laneTxDelay (carriageRate (s.txCarriageOf lane (s.n Obj.txSlot lane))
      (s.n Obj.dstReservedFormat (s.n Obj.txSlot lane))) ≤ (s.tick dt).ptp)
    (hP : P ((s.tick dt).sdiNext lane)) : Completes (.sdiTxFrameEmit dt lane) s P :=
  h.sends dt (State.txDue_shown (s := s.tick dt) hx hd)
    (by rw [State.txAlign_shown (s := s.tick dt) hs hx]; exact hv) hP

/-- A picture's frame carries line numbers and CRC words, or EDH packets (R64). -/
theorem sdiOutput_lineWords (lane : Nat) (x : Shown) (rate division : Nat) (pids : List Nat) (groups : List SdiGroup)
    (packets : List Anc) :
    (sdiOutput lane x rate division pids groups packets).lineWords = true ↔
      (sdiOutput lane x rate division pids groups packets).edhFields = [] := by
  unfold sdiOutput sdiFrame
  extract_lets sd frame
  show (!sd) = true ↔ (if sd = true then [1, 2] else []) = ([] : List Nat)
  cases sd
  · simp
  · simp

/-! ## The idle frame ends -/

theorem sdiTxIdleEnd_ends {s : State} {dt lane u : Nat} (h : s.on) (hb : s.standby = false)
    (hu : (s.txLane lane).idleUntil = some u) (ht : u ≤ s.now + dt) :
    Completes (.sdiTxIdleEnd dt lane) s fun t => t.n Obj.txState lane = 1 ∧ (t.txLane lane).idleUntil = none := by
  refine ⟨_, (actIf_next h.1 (by simp [h.2, hu, ht]) : execSdiTxIdleEnd dt lane s = _), ?_, ?_⟩
  · simp [hb]
  · rw [(State.setN_only ..).txLane, State.txLane_setTxLane]

/-- Settles O17: each clause fixes the branch of `State.sdiNext` that is taken, and what a branch reports and sends stands through the
ledger and the events that follow. -/
theorem sdiTransmits : Obligations.SdiTransmits := by
  unfold Obligations.SdiTransmits
  refine ⟨?picture, ?blanking, ?black, ?rate, ?neverRan, ?idleEnd, ?standby⟩
  case picture =>
    intro s dt lane x on small mode lead free bound hx hv hpic carriage rate hd hp hr
    refine TxPort.sends_shown ⟨on, small, mode, lead, free⟩ dt bound hx hv hd ?_
    rw [State.sdiNext_emit (s := s.tick dt) rfl bound hp hr]
    obtain ⟨h, hran, hframe, groups, packets, hout⟩ :=
      State.txEmit_picture (s := s.tick dt) (lane := lane) (carriage := carriage) (rate := rate) hx hpic
    exact ⟨h.state, h.rate, h.format, hran, hframe, _, hout, rfl, rfl, rfl, rfl, rfl, rfl, rfl, rfl, sdiOutput_lineWords .., rfl⟩
  case blanking =>
    intro s dt lane x on small mode lead free bound hx hv hpic rate hd hp hr
    refine TxPort.sends_shown ⟨on, small, mode, lead, free⟩ dt bound hx hv hd ?_
    rw [State.sdiNext_emit (s := s.tick dt) rfl bound hp hr]
    obtain ⟨h, hout⟩ := State.txEmit_blanking (s := s.tick dt) (lane := lane)
      (carriage := s.txCarriageOf lane (s.n Obj.txSlot lane)) (rate := rate) hx hpic
    exact ⟨h.state, h.format, _, hout, rfl, rfl, rfl, rfl, rfl, rfl, rfl⟩
  case black =>
    intro s dt lane on hv small mode lead free bound hi hr hp
    refine TxPort.sends_unbound ⟨on, small, mode, lead, free⟩ dt bound hv ?_
    rw [State.sdiNext_black (s := s.tick dt) bound hi hr hp]
    obtain ⟨hstate, hout⟩ := (s.tick dt).txBlack_sends lane
    exact ⟨hstate, _, hout, rfl, rfl, rfl, rfl, rfl⟩
  case rate =>
    intro s dt lane on small mode lead free bound hr hd hv f rate hp hn
    exact TxPort.sends ⟨on, small, mode, lead, free⟩ dt hd hv (State.sdiNext_rateChange (s := s.tick dt) rfl bound hr hp hn)
  case neverRan =>
    intro s dt lane on hv small mode lead free bound hr
    refine TxPort.sends_unbound ⟨on, small, mode, lead, free⟩ dt bound hv ?_
    rw [State.sdiNext_neverRan (s := s.tick dt) bound hr]
    exact State.txIdleNow_idles ..
  case idleEnd =>
    exact fun s dt lane u on hb hu ht => sdiTxIdleEnd_ends on hb hu ht
  case standby =>
    intro s dt lane on hidle small mode lead free hd hv
    have port : TxPort s lane := ⟨on, small, mode, lead, free⟩
    exact ⟨_, by rw [port.next dt hd, if_neg (by simp [hv]), if_pos hidle], State.txIdleNow_idles ..⟩

end Sys2Proof.Machine
end

section
/-!
SUPPORT. The entries of the object store by index (`SubsKept`), and the feed of a slot, which is read from them.
-/
namespace Sys2Proof.Machine
set_option Elab.async false

/-! ## Listed objects -/

theorem filterMap_insertSorted {α β : Type} {g : Nat × α → Option β} {k : Nat} {v : α} (h : g (k, v) = none) (l : List (Nat × α)) :
    (insertSorted k v l).filterMap g = l.filterMap g := by
  induction l with
  | nil => simp [insertSorted, h]
  | cons p l ih =>
    rw [insertSorted]
    split
    · rw [List.filterMap_cons, h]
    · rw [List.filterMap_cons, List.filterMap_cons, ih]

theorem Objs.subs_set {a i : Nat} (c : Objs) (v : Val) (h : adrIndex a ≠ i) : Objs.subs (Objs.set c a v) i = Objs.subs c i := by
  have hfilter : (c.filter fun p => p.1 != a).filterMap (fun p => if adrIndex p.1 = i then some (adrSub p.1) else none) =
      c.filterMap fun p => if adrIndex p.1 = i then some (adrSub p.1) else none := by
    rw [List.filterMap_filter]
    refine List.filterMap_congr fun p _ => ?_
    by_cases hp : p.1 = a
    · simp [hp, h]
    · simp [hp]
  unfold Objs.set storeSet
  extract_lets c'
  split
  · exact hfilter
  · exact (filterMap_insertSorted (if_neg h) _).trans hfilter

/-- The store lists the same objects of every index outside l. -/
structure SubsKept (l : List Nat) (s t : State) : Prop where
  kept : ∀ i ∉ l, Objs.subs t.objs i = Objs.subs s.objs i

theorem SubsKept.of_objs {l : List Nat} {s t : State} (h : t.objs = s.objs) : SubsKept l s t := ⟨fun i _ => by rw [h]⟩

/-- Nor does a later update of other parts than objects change it. -/
theorem SubsKept.still {l : List Nat} {s t u : State} (h : SubsKept l s t) (e : u.objs = t.objs) : SubsKept l s u :=
  ⟨fun i hi => by rw [e]; exact h.kept i hi⟩

theorem SubsKept.refl {l : List Nat} (s : State) : SubsKept l s s := .of_objs rfl

/-- Outermost first. -/
theorem SubsKept.seq {a l : List Nat} {s t u : State} (h : SubsKept a t u) (g : SubsKept l s t) (sub : a ⊆ l := by decide) :
    SubsKept l s u :=
  ⟨fun i hi => (h.kept i fun m => hi (sub m)).trans (g.kept i hi)⟩

theorem SubsKept.ite {l : List Nat} {p : Prop} [Decidable p] {s a b : State} (h : SubsKept l s a) (g : SubsKept l s b) :
    SubsKept l s (if p then a else b) := by
  split
  · exact h
  · exact g

theorem State.setN_subsKept (s : State) (i k v : Nat) : SubsKept [i] s (s.setN i k v) :=
  ⟨fun j hj => Objs.subs_set _ _ (by rw [adrIndex_adr]; exact fun e => hj (e ▸ List.mem_singleton_self i))⟩

/-! ## Events and counters -/

theorem State.setEvPin_objs (s : State) (n : Nat) (p : EvPin) : (s.setEvPin n p).objs = s.objs := by
  unfold State.setEvPin
  extract_lets changed e s1
  have h1 : s1.objs = s.objs := (apply_ite State.objs ..).trans (ite_self _)
  split
  · exact h1
  · exact h1

theorem State.assertPin_objs (s : State) (n src : Nat) : (s.assertPin n src).objs = s.objs := by
  unfold State.assertPin
  extract_lets p
  split
  · exact State.setEvPin_objs ..
  · split
    · split
      · rfl
      · exact State.setEvPin_objs ..
    · exact State.setEvPin_objs ..

theorem State.evPush_objs (s : State) (r : EvRec) : (s.evPush r).objs = s.objs := by
  unfold State.evPush
  split
  · rfl
  · extract_lets first s1 s2
    split
    · rfl
    · rfl

theorem State.journal_objs (s : State) (kind : Nat) (data : List Byte) : (s.journal kind data).objs = s.objs := by
  unfold State.journal
  split
  · rfl
  · rfl

theorem State.setPinned_objs (s : State) (a : Nat) : (s.setPinned a).objs = s.objs := by
  unfold State.setPinned
  split
  · rfl
  · rfl

theorem State.raiseOnce_subsKept (s : State) (src subj : Nat) : SubsKept eventObjs s (s.raiseOnce src subj) := by
  unfold State.raiseOnce
  extract_lets s1 s2 s3 s4 m s5 s6 s7
  have h3 : SubsKept eventObjs s s3 := (State.setN_subsKept ..).seq ((State.setN_subsKept ..).seq
    ((State.setN_subsKept s Obj.eventCount src _).seq (.refl s)))
  have h5 : s5.objs = s4.objs := by
    simp only [s5, apply_ite State.objs, State.assertPin_objs, ite_self]
  have h6 : s6.objs = s5.objs := by
    simp only [s6, apply_ite State.objs, State.assertPin_objs, ite_self]
  have h7 : s7.objs = s3.objs := by rw [State.journal_objs, h6, h5, State.evPush_objs]
  have h : SubsKept eventObjs s s7 := h3.still h7
  exact .ite (h.still rfl) h

theorem State.raise_subsKept (s : State) (src subj : Nat) : SubsKept eventObjs s (s.raise src subj) := by
  unfold State.raise
  extract_lets a full s1
  have h1 : SubsKept eventObjs s s1 := State.raiseOnce_subsKept ..
  exact .ite ((State.raiseOnce_subsKept ..).seq (h1.still (State.setPinned_objs ..))) h1

theorem State.bump_subsKept (s : State) (i k by_ : Nat) : SubsKept (i :: eventObjs) s (s.bump i k by_) := by
  unfold State.bump
  extract_lets a top v
  have set (v) : SubsKept (i :: eventObjs) s (s.setN i k v) := (State.setN_subsKept ..).seq (.refl s) (by simp)
  exact .ite (set _) (.ite (set _) ((State.raise_subsKept ..).seq
    ((set _).still (State.setPinned_objs ..)) (by simp)))

/-! ## Source slots -/

/-- The objects that follow a slot's feed (R37, R55, R56, R251), and those of events. -/
abbrev slotObjs : List Nat :=
  [Obj.srcFeedKind, Obj.srcState, Obj.srcReservationStatus, Obj.srcFramesAbandoned, Obj.srcColourLive] ++ eventObjs

theorem State.abandonFrame_subsKept (s : State) (slot : Nat) :
    SubsKept (Obj.srcFramesAbandoned :: eventObjs) s (s.abandonFrame slot) := by
  unfold State.abandonFrame
  split
  · exact (State.bump_subsKept ..).seq (.of_objs rfl)
  · exact .refl s

theorem State.refreshColour_subsKept (s : State) (slot : Nat) (f : Feed) :
    SubsKept (Obj.srcColourLive :: eventObjs) s (s.refreshColour slot f) := by
  unfold State.refreshColour
  extract_lets c t
  have ht : SubsKept (Obj.srcColourLive :: eventObjs) s t := (State.setN_subsKept ..).seq (.refl s)
  exact .ite (.refl s) (.ite ((State.raise_subsKept ..).seq ht) ht)

theorem State.refreshSlot_subsKept (s : State) (slot : Nat) : SubsKept slotObjs s (s.refreshSlot slot) := by
  unfold State.refreshSlot
  extract_lets f reserved raw excess locked was wasOver s1 s2 s3 s4 x t y s5
  have h3 : SubsKept slotObjs s s3 := (State.setN_subsKept ..).seq ((State.setN_subsKept ..).seq
    ((State.setN_subsKept s ..).seq (.refl s)))
  have h4 : SubsKept slotObjs s s4 := .ite ((State.raise_subsKept ..).seq h3) h3
  have store (u : State) (x) (h : SubsKept slotObjs s u) : SubsKept slotObjs s (u.setSrc slot x) :=
    h.still rfl
  have ht : SubsKept slotObjs s t := (State.abandonFrame_subsKept ..).seq h4
  have h5 : SubsKept slotObjs s s5 :=
    .ite ((State.raise_subsKept ..).seq (store _ _ h4)) (.ite ((State.raise_subsKept ..).seq (store _ _ ht)) h4)
  exact (State.refreshColour_subsKept ..).seq h5

/-! ## Feeds -/

/-- The objects that say what feeds a slot (R15). -/
abbrev feedObjs : List Nat :=
  [Obj.rxSlot, Obj.rxEnable, Obj.rxTarget, Obj.rxPartner, Obj.rxEssence, Obj.cqSrcSlot, Obj.srcGenerator, Obj.playEnable,
    Obj.playSlot, Obj.dlyEnable, Obj.dlySlot]

theorem Objs.feed_congr {c c' : Objs} (hs : ∀ i ∈ feedObjs, Objs.subs c' i = Objs.subs c i)
    (hn : ∀ i ∈ feedObjs, ∀ k, Objs.n c' i k = Objs.n c i k) (slot : Nat) : Objs.feed c' slot = Objs.feed c slot := by
  have lead (e : Nat) : Objs.rxLeadEntry c' e = Objs.rxLeadEntry c e := by
    unfold Objs.rxLeadEntry Objs.b
    dsimp only
    rw [hn Obj.rxPartner (by decide), hn Obj.rxEnable (by decide)]
  unfold Objs.feed Objs.feeds
  rw [hn Obj.srcGenerator (by decide)]
  simp only [List.forall_mem_cons] at hs hn
  simp only [Objs.rxEntries, Objs.b, lead, hs, hn]

/-- A refresh of a slot leaves the feed of every slot (R15). -/
theorem State.feed_refreshSlot (s : State) (slot k : Nat) : Objs.feed (s.refreshSlot slot).objs k = Objs.feed s.objs k :=
  Objs.feed_congr (fun i hi => (s.refreshSlot_subsKept slot).kept i (by revert i; decide))
    (fun i hi k => (s.refreshSlot_only slot).n i k (by decide) (by revert i; decide)) k

/-- A refresh of a slot leaves the colour of every slot's pictures (R251). -/
theorem State.srcColourOf_refreshSlot (s : State) (slot k : Nat) :
    Objs.srcColourOf (s.refreshSlot slot).objs k = Objs.srcColourOf s.objs k := by
  have engine (e : Nat) : Objs.n (s.refreshSlot slot).objs Obj.cqOutputColour e = Objs.n s.objs Obj.cqOutputColour e :=
    (s.refreshSlot_only slot).n Obj.cqOutputColour e
  have own : Objs.n (s.refreshSlot slot).objs Obj.srcColour k = Objs.n s.objs Obj.srcColour k :=
    (s.refreshSlot_only slot).n Obj.srcColour k
  simp only [Objs.srcColourOf, s.feed_refreshSlot slot k, engine, own]

/-- A refresh of a slot leaves the pictures of the test generators (R177). -/
theorem State.genPic_refreshSlot (s : State) (slot g index colour : Nat) :
    (s.refreshSlot slot).genPic g index colour = s.genPic g index colour := by
  have h := s.refreshSlot_only slot
  have motion : (s.refreshSlot slot).b Obj.genMotion g = s.b Obj.genMotion g := congrArg (· != 0) (h.n Obj.genMotion g)
  simp only [State.genPic, h.n Obj.genPattern g, h.n Obj.genFlatValue g, motion]

end Sys2Proof.Machine
end

section
/-!
SUPPORT. What a writer does to the frames of its slot (R16, R56, R157).
-/
namespace Sys2Proof.Machine
set_option Elab.async false

theorem Only.src {r : Reach} {s t : State} (h : Only r s t) (slot : Nat) (hp : Part.ridge ∉ r.parts := by decide) :
    t.src slot = s.src slot := by
  have e : t.ridge = s.ridge := h.same .ridge hp
  simp only [State.src, e]

theorem Only.rxLane {r : Reach} {s t : State} (h : Only r s t) (l : Nat) (hp : Part.sdiRx ∉ r.parts := by decide) :
    t.rxLane l = s.rxLane l := by
  have e : t.sdiRx = s.sdiRx := h.same .sdiRx hp
  simp only [State.rxLane, e]

theorem SrcSlot.mem_mapFrame {x : SrcSlot} {f : Frame} {g : Frame → Frame} (h : f ∈ x.frames) :
    g f ∈ (x.mapFrame f.seq g).frames :=
  List.mem_map.2 ⟨f, h, if_pos rfl⟩

/-! ## A frame completes, or is abandoned -/

theorem State.finishFrame_completes {s : State} {slot : Nat} {f : Frame}
    (h : (s.src slot).frames.find? (fun g => g.seq == f.seq && g.open_) = some f) :
    (∃ g ∈ ((s.finishFrame slot f.seq).src slot).frames, g.seq = f.seq ∧ g.complete = true ∧ g.anc = f.anc) ∧
      (s.finishFrame slot f.seq).n Obj.srcLiveFormat slot = f.format ∧
        Counted Obj.srcFramesWritten slot 1 s (s.finishFrame slot f.seq) := by
  unfold State.finishFrame
  rw [h]
  dsimp only
  refine ⟨?_, ?_, ?_⟩
  · rw [(State.bump_only ..).src, (State.setN_only ..).src, State.src_setSrc]
    exact ⟨_, SrcSlot.mem_mapFrame (List.mem_of_find?_eq_some h), rfl, rfl, rfl⟩
  · rw [(State.bump_only ..).n _ _, State.n_setN_self]
  · exact (State.bump_counted ..).from_same (State.n_setN_ne _ _ _ _ _ _ (by decide))

theorem State.abandonFrame_some {s : State} {slot : Nat} {f : Frame}
    (h : (s.src slot).frames.find? (fun f => f.open_ && f.finishAt.isNone) = some f) :
    s.abandonFrame slot =
      (s.setSrc slot ((s.src slot).mapFrame f.seq fun g => { g with abandoned := true })).bump Obj.srcFramesAbandoned slot := by
  simp only [State.abandonFrame, h]

/-- The frame that is being written is the first of its number that is. -/
theorem find?_open_seq {l : List Frame} {f : Frame} (h : l.find? Frame.open_ = some f) :
    l.find? (fun g => g.seq == f.seq && g.open_) = some f := by
  obtain ⟨hopen, before, after, rfl, hb⟩ := List.find?_eq_some_iff_append.1 h
  exact List.find?_eq_some_iff_append.2 ⟨by simp [hopen], before, after, rfl, fun g hg => by simp [hb g hg]⟩

theorem State.endWrite_completes {s : State} {slot : Nat} {f : Frame} (h : (s.src slot).frames.find? Frame.open_ = some f) :
    let t := s.endWrite slot
    (∃ g ∈ (t.src slot).frames, g.seq = f.seq ∧ g.complete = true ∧ g.anc = f.anc) ∧
      t.n Obj.srcLiveFormat slot = f.format ∧ Counted Obj.srcFramesWritten slot 1 s t := by
  simp only [State.endWrite, h]
  exact State.finishFrame_completes (find?_open_seq h)

theorem State.abandonFrame_abandons {s : State} {slot : Nat} {f : Frame}
    (h : (s.src slot).frames.find? (fun f => f.open_ && f.finishAt.isNone) = some f) :
    (∃ g ∈ ((s.abandonFrame slot).src slot).frames, g.seq = f.seq ∧ g.abandoned = true) ∧
      Counted Obj.srcFramesAbandoned slot 1 s (s.abandonFrame slot) := by
  rw [State.abandonFrame_some h]
  refine ⟨?_, State.bump_counted ..⟩
  rw [(State.bump_only ..).src, State.src_setSrc]
  exact ⟨_, SrcSlot.mem_mapFrame (List.mem_of_find?_eq_some h), rfl, rfl⟩

/-! ## A frame begins -/

theorem State.finishFrame_nextSeq (s : State) (slot seq : Nat) :
    ((s.finishFrame slot seq).src slot).nextSeq = (s.src slot).nextSeq := by
  unfold State.finishFrame
  split
  · rw [(State.bump_only ..).src, (State.setN_only ..).src, State.src_setSrc]
    rfl
  · rfl

theorem State.finishTimed_nextSeq (s : State) (slot : Nat) :
    ((s.finishTimed slot).src slot).nextSeq = (s.src slot).nextSeq := by
  unfold State.finishTimed
  generalize ((s.src slot).frames.filter _).map _ = l
  induction l generalizing s with
  | nil => rfl
  | cons seq l ih => exact (ih _).trans (s.finishFrame_nextSeq slot seq)

theorem State.abandonBefore_nextSeq (s : State) (slot w : Nat) :
    ((s.abandonBefore slot w).src slot).nextSeq = (s.src slot).nextSeq := by
  unfold State.abandonBefore
  split
  · rw [(State.bump_only ..).src, State.src_setSrc]
    rfl
  · rfl

/-- A writer's frame is the newest of its slot, with the slot's next number. -/
theorem State.startFrame_begins (s : State) (slot : Nat) (f : Nat → Frame) :
    ((s.startFrame slot f).src slot).nextSeq = (s.src slot).nextSeq + 1 ∧
      ((s.startFrame slot f).src slot).frames.head? = some (f (s.src slot).nextSeq) := by
  have h : (((s.finishTimed slot).abandonBefore slot (f 0).write).src slot).nextSeq = (s.src slot).nextSeq :=
    (State.abandonBefore_nextSeq ..).trans (State.finishTimed_nextSeq ..)
  unfold State.startFrame
  extract_lets t x old
  rw [State.src_setSrc, ← h]
  exact ⟨rfl, rfl⟩

/-- The packets that came before go with the frame (R73). -/
theorem State.ancBegin_head {s : State} {lead slot : Nat} {f : Frame} (h : (s.src slot).frames.head? = some f) :
    ((s.ancBegin lead slot).src slot).nextSeq = (s.src slot).nextSeq ∧
      ((s.ancBegin lead slot).src slot).frames.head? = some { f with anc := (s.rxLane lead).anc } := by
  obtain ⟨rest, hf⟩ := List.head?_eq_some_iff.1 h
  simp only [State.ancBegin, h]
  rw [(State.setRxLane_only ..).src, State.src_setSrc]
  refine ⟨rfl, ?_⟩
  simp [SrcSlot.mapFrame, hf]

/-- Without a payload ID that waits, a frame start changes no identification (R58). -/
theorem State.applyPids_none {s : State} {lead : Nat} (h : ∀ k ∈ Objs.rxLanes s.objs lead, (s.rxLane k).pidNext = none) :
    s.applyPids lead = s := by
  have hall : ((Objs.rxLanes s.objs lead).all fun k => (s.rxLane k).pidNext.isNone) = true :=
    List.all_eq_true.2 fun k hk => by simp [h k hk]
  simp [State.applyPids, hall]

theorem State.beginWrite_begins {s : State} {slot l : Nat} {arrivals : List Nat} (hf : Objs.feed s.objs slot = .sdi l)
    (hl : s.slotLocked slot = true) (hp : ∀ k ∈ Objs.rxLanes s.objs l, (s.rxLane k).pidNext = none) :
    let t := s.beginWrite slot arrivals
    (t.src slot).nextSeq = (s.src slot).nextSeq + 1 ∧
      ∃ f, (t.src slot).frames.head? = some f ∧ f.seq = (s.src slot).nextSeq ∧ f.format = s.sdiFormat l ∧ f.kind = 1 ∧
        f.origin = arrivals.foldl max 0 - laneRxDelay (s.n Obj.rxRate l) ∧ f.complete = false ∧ f.anc = (s.rxLane l).anc ∧
        f.pic = if s.quad l = true then .quad slot f.seq (s.quadDivision l) (s.linkOrder l) else .frame slot f.seq := by
  simp only [State.beginWrite, hf, State.applyPids_none hp, hl, if_true]
  generalize hnew : newFrame _ _ _ _ _ _ _ _ _ = new
  obtain ⟨hseq, hhead⟩ := s.startFrame_begins slot new
  obtain ⟨hseq', hhead'⟩ := State.ancBegin_head (lead := l) hhead
  have hlane : (s.startFrame slot new).rxLane l = s.rxLane l := (State.startFrame_only ..).rxLane l
  rw [hlane] at hhead'
  refine ⟨hseq'.trans hseq, _, hhead', ?_⟩
  subst hnew
  exact ⟨rfl, rfl, rfl, rfl, rfl, rfl, rfl⟩

end Sys2Proof.Machine
end

section
namespace Sys2Proof.Machine
set_option Elab.async false

/-! ## The frames of a test generator -/

/-- A test generator writes the frame of a grid point that it has not written (R177). -/
theorem generatorFrameWrite_writes {s : State} {dt slot g k : Nat} (h : s.on) (hg : Objs.feed s.objs slot = .generator g)
    (hr : s.n Obj.srcReservedFormat slot ≠ 0) (hk : k = gridIndex (fmtPeriod (s.n Obj.srcReservedFormat slot)) (s.tick dt).tc)
    (hnew : (s.src slot).generatorAt ≠ some k) :
    Completes (.generatorFrameWrite dt slot) s fun t =>
      (t.src slot).generatorAt = some k ∧
        ∃ f, (t.src slot).frames.head? = some f ∧ f.format = s.n Obj.srcReservedFormat slot ∧
          f.pic = s.genPic g k (Objs.srcColourOf s.objs slot) ∧ f.kind = 3 ∧
          f.write = gridPoint (fmtPeriod f.format) k / tcNs ∧ f.origin = f.write := by
  subst hk
  refine ⟨_, actIf_next h.1 h.2, ?_⟩
  simp only [State.tick_objs, hg, State.n_tick, State.src_tick, Bool.or_eq_true, decide_eq_true_eq, hr, hnew, or_self, if_false,
    State.genPic_refreshSlot, State.srcColourOf_refreshSlot]
  obtain ⟨-, hhead⟩ := ((s.tick dt).refreshSlot slot).startFrame_begins slot _
  rw [State.src_setSrc]
  exact ⟨rfl, _, hhead, rfl, rfl, rfl, rfl, rfl⟩

/-- Settles O18: the frame that a command begins is the newest of its slot; one that it writes on, completes or abandons is found
by its number. -/
theorem pictureWriters : Obligations.PictureWriters := by
  unfold Obligations.PictureWriters
  refine ⟨?start, ?lines, ?finish, ?abandon, ?generator⟩
  case start =>
    exact fun s dt slot l arrivals on hf hl hp =>
      ⟨_, actIf_next on.1 on.2, State.beginWrite_begins (s := s.tick dt) hf hl hp⟩
  case lines =>
    intro s dt slot l f n on hf ho
    refine ⟨_, actIf_next on.1 on.2, ?_⟩
    simp only [State.src_tick, ho, State.tick_objs, hf, Feed.isSdi, if_true, State.src_setSrc]
    exact ⟨_, SrcSlot.mem_mapFrame (List.mem_of_find?_eq_some ho), rfl, rfl, rfl⟩
  case finish =>
    intro s dt slot l f on hf ho
    refine ⟨_, actIf_next on.1 on.2, ?_⟩
    simp only [State.tick_objs, hf, Feed.isSdi, if_true]
    exact State.endWrite_completes (s := s.tick dt) ho
  case abandon =>
    intro s dt slot l f on hf ho
    obtain ⟨hframe, hcount⟩ := State.abandonFrame_abandons (s := s.tick dt) ho
    have hanc : Only ⟨[.sdiRx], [], []⟩ ((s.tick dt).abandonFrame slot) (((s.tick dt).abandonFrame slot).ancAbandon l) :=
      State.setRxLane_only ..
    refine ⟨((s.tick dt).abandonFrame slot).ancAbandon l, (actIf_next on.1 on.2).trans ?_, ?_, (hanc.n _ _).trans hcount, ?_⟩
    · simp only [State.tick_objs, hf]
    · rw [hanc.src]
      exact hframe
    · rw [State.ancAbandon, State.rxLane_setRxLane]
  case generator =>
    intro s dt slot g k on hg hr hk hnew
    obtain ⟨t, ht, hat, f, hhead, hformat, hpic, hrest⟩ := generatorFrameWrite_writes on hg hr hk hnew
    exact ⟨t, ht, hat, f, hhead, hformat, hpic, fun c x y => by rw [hpic]; rfl, hrest⟩

end Sys2Proof.Machine
end

section
/-!
SUPPORT. The receive objects of a lane number: which object it is, what leaves it as it was, and its counters (R84, R114).
-/
namespace Sys2Proof.Machine
set_option Elab.async false

/-! ## Objects of a lane number -/

/-- The object of a receive function is that of the lanes or that of the ST2022_6 entries. -/
theorem laneIx_notMem {i : Nat} {l : List Nat} (lane : Nat) (h : i ∉ l ∧ embIndex i ∉ l) : laneIx lane i ∉ l := by
  unfold laneIx
  split
  · exact h.1
  · exact h.2

/-- A receive object outside a reach reads as before, of whichever kind the lane number is. -/
theorem Only.rxn {r : Reach} {s t : State} (h : Only r s t) (i lane : Nat) (hp : Part.objs ∉ r.parts := by decide)
    (hi : i ∉ r.objs ∧ embIndex i ∉ r.objs := by decide) : t.rxn i lane = s.rxn i lane :=
  h.n _ _ hp (laneIx_notMem lane hi)

theorem State.rxn_setRxn_self (s : State) (i lane v : Nat) : (s.setRxn i lane v).rxn i lane = v := State.n_setN_self ..

theorem State.rxn_lane {lane : Nat} (s : State) (i : Nat) (h : lane < 65536) : s.rxn i lane = s.n i lane := by
  rw [State.rxn, laneIx, if_pos h]

theorem State.rxSt_lane {lane : Nat} (s : State) (h : lane < 65536) : s.rxSt lane = s.n Obj.rxState lane := if_pos h

@[simp] theorem State.rxn_tick (s : State) (dt i lane : Nat) : (s.tick dt).rxn i lane = s.rxn i lane := rfl
@[simp] theorem State.rxSt_tick (s : State) (dt lane : Nat) : (s.tick dt).rxSt lane = s.rxSt lane := rfl

/-! ## Groups -/

theorem Only.rxLead {r : Reach} {s t : State} (h : Only r s t) (lane : Nat) (hp : Part.objs ∉ r.parts := by decide)
    (hi : Obj.rxQuad ∉ r.objs := by decide) : Objs.rxLead t.objs lane = Objs.rxLead s.objs lane := by
  have e : Objs.n t.objs Obj.rxQuad (quadLead lane) = Objs.n s.objs Obj.rxQuad (quadLead lane) := h.n _ _ hp hi
  unfold Objs.rxLead Objs.b
  rw [e]

theorem Only.quad {r : Reach} {s t : State} (h : Only r s t) (lead : Nat) (hp : Part.objs ∉ r.parts := by decide)
    (hi : Obj.rxQuad ∉ r.objs := by decide) : t.quad lead = s.quad lead := by
  have e : Objs.n t.objs Obj.rxQuad lead = Objs.n s.objs Obj.rxQuad lead := h.n _ _ hp hi
  unfold State.quad Objs.rxLanes Objs.b
  rw [e]

/-! ## Counters of a lane number -/

theorem State.bumpRx_only (s : State) (i lane : Nat) :
    Only ⟨[.out, .pinned, .ev, .flashJournal, .diskJournal],
      [i, embIndex i, Obj.eventCount, Obj.eventLastAt, Obj.eventLastSubject], [0x40000004, 0x40000008]⟩
      s (s.bump (laneIx lane i) lane) :=
  (State.bump_only ..).up (by unfold laneIx; split <;> simp [Reach.le])

theorem State.bumpRx_counted (s : State) (i lane : Nat) (h : i ∉ eventObjs ∧ embIndex i ∉ eventObjs := by decide) :
    Counted (laneIx lane i) lane 1 s (s.bump (laneIx lane i) lane) :=
  s.bump_counted _ _ (by simpa using laneIx_notMem lane h)

theorem Counted.zero {i k : Nat} {s t : State} (h : t.n i k = s.n i k) : Counted i k 0 s t := h

/-- A count stands through what leaves its object as it was. -/
theorem Counted.after {r : Reach} {i k n lane : Nat} {s t u : State} (h : Counted (laneIx lane i) k n s t) (g : Only r t u)
    (hp : Part.objs ∉ r.parts := by decide) (hi : i ∉ r.objs ∧ embIndex i ∉ r.objs := by decide) :
    Counted (laneIx lane i) k n s u :=
  (g.n _ _ hp (laneIx_notMem lane hi)).trans h

/-- A counter of a lane number counts where a check fails. -/
def State.countIf (s : State) (c : Bool) (i lane : Nat) : State := if c then s.bump (laneIx lane i) lane else s

theorem State.countIf_only (s : State) (c : Bool) (i lane : Nat) :
    Only ⟨[.out, .pinned, .ev, .flashJournal, .diskJournal],
      [i, embIndex i, Obj.eventCount, Obj.eventLastAt, Obj.eventLastSubject], [0x40000004, 0x40000008]⟩ s (s.countIf c i lane) :=
  .ite (State.bumpRx_only ..) (Only.refl _ _)

theorem State.countIf_counted (s : State) (c : Bool) (i lane : Nat)
    (h : i ∉ eventObjs ∧ embIndex i ∉ eventObjs := by decide) : Counted (laneIx lane i) lane (b2n c) s (s.countIf c i lane) := by
  cases c
  · exact .zero rfl
  · exact s.bumpRx_counted i lane h

/-- What counts on from a state that reads the counter as before. -/
theorem Counted.since {r : Reach} {i k n lane : Nat} {s t u : State} (h : Counted (laneIx lane i) k n t u) (g : Only r s t)
    (hp : Part.objs ∉ r.parts := by decide) (hi : i ∉ r.objs ∧ embIndex i ∉ r.objs := by decide) :
    Counted (laneIx lane i) k n s u :=
  h.from_same (g.n _ _ hp (laneIx_notMem lane hi))

end Sys2Proof.Machine
end

section
/-!
PROOFS. Receive lock (R53, R54).
-/
namespace Sys2Proof.Machine
set_option Elab.async false

/-- Settles O12: each of the three commands writes what it leaves behind last. -/
theorem sdiReceiveStarts : Obligations.SdiReceiveStarts := by
  unfold Obligations.SdiReceiveStarts
  refine ⟨?detect, ?search, ?lock⟩
  case detect =>
    intro s dt lane lasted on hl hst hlast
    refine ⟨_, (actIf_next on.1 (by simp [on.2, hl, hst, hlast]) : execSdiSignalDetect dt lane lasted s = _), ?_⟩
    have kept := State.setN_only (s.tick dt) Obj.rxState lane 2
    refine ⟨State.n_setN_self .., ?_, ?_⟩
    · rw [State.rxLane_setRxLane, kept.n Obj.rxRateMask lane]
      rfl
    · rw [State.rxLane_setRxLane]
      rfl
  case search =>
    intro s dt lane on hl hst hdue
    refine ⟨_, (actIf_next on.1 (by simp [on.2, hl, hst, hdue]) : execSdiRateSearchStep dt lane s = _), hst, ?_, ?_⟩
    · rw [State.rxLane_setRxLane]
      rfl
    · rw [State.rxLane_setRxLane]
      rfl
  case lock =>
    intro s dt lane on hl hst htry
    refine ⟨_, (actIf_next on.1 (by simp [on.2, hl, hst, htry]) : execSdiClockLock dt lane s = _), ?_, State.n_setN_self ..⟩
    rw [State.n_setN_ne _ _ _ _ _ _ (by decide), State.n_setN_self]

end Sys2Proof.Machine
end

section
namespace Sys2Proof.Machine
set_option Elab.async false

/-! ## A lane leaves its lock -/

theorem rxFormat_defaults_zero : ∀ r ∈ dictionary, r.index = Obj.rxFormat → r.dflt = .num 0 := by decide +kernel

/-- A lane without an identified format reads RxFormat 0 (R84). -/
theorem State.rxFormat_toDefault (s : State) (lane : Nat) : (s.toDefault Obj.rxFormat lane).n Obj.rxFormat lane = 0 := by
  have hdef : objDefault (adr Obj.rxFormat lane) = .num 0 := by
    simp only [objDefault, adrIndex_adr]
    cases h : dictRow Obj.rxFormat (adrSub (adr Obj.rxFormat lane)) with
    | none => rfl
    | some r => exact rxFormat_defaults_zero r (dictRow_some h).1 (dictRow_some h).2
  rw [State.n_eq, State.toDefault, State.val_setVal, if_pos rfl, hdef]
  rfl

theorem State.clearIdentified_format (s : State) (l : Nat) : (s.clearIdentified l).n Obj.rxFormat l = 0 := by
  rw [State.clearIdentified, (State.toDefault_only ..).n _ _, (State.toDefault_only ..).n _ _, State.rxFormat_toDefault]

/-- A lane that moves below LOCKED: its state, its lane rate where it keeps clock lock, and no format where it was LOCKED (R54). -/
theorem State.rxDown_lowers (s : State) (l toState : Nat) :
    let t := s.rxDown l toState
    t.n Obj.rxState l = toState ∧ (3 ≤ toState → t.n Obj.rxRate l = s.n Obj.rxRate l) ∧
      (s.n Obj.rxState l = 4 → t.n Obj.rxFormat l = 0) := by
  intro t
  have ht : t = s.rxDown l toState := rfl
  unfold State.rxDown at ht
  extract_lets was s1 s2 lane2 s3 lane3 s4 lead at ht
  have h12 : Only ⟨[], [Obj.rxRate], []⟩ s1 s2 := .ite (State.toDefault_only ..) (Only.refl _ _)
  have h23 : Only ⟨[.sdiRx], [], []⟩ s2 s3 := .ite (State.setRxLane_only ..) (Only.refl _ _)
  have state3 : s3.n Obj.rxState l = toState := by rw [h23.n _ _, h12.n _ _, State.n_setN_self]
  have rate3 (h : 3 ≤ toState) : s3.n Obj.rxRate l = s.n Obj.rxRate l := by
    have e : s2 = s1 := if_neg (by omega)
    rw [h23.n _ _, e, State.n_setN_ne _ _ _ _ _ _ (by decide)]
  split at ht
  · have h4 : Only ⟨[.out, .pinned, .ev, .flashJournal, .sdiRx, .ridge, .diskJournal],
        [Obj.srcFeedKind, Obj.srcState, Obj.srcReservationStatus, Obj.eventCount, Obj.eventLastAt, Obj.eventLastSubject,
          Obj.srcFramesAbandoned, Obj.srcColourLive], [0x40000004, 0x40000008]⟩ (s3.clearIdentified l) t := by
      rw [ht]
      exact (State.refreshLaneSlot_only ..).seq ((State.raise_only ..).seq ((State.feedColour_only ..).seq
        ((State.nextFrame_only ..).seq (State.setRxLane_only ..).up)))
    have h3 := State.clearIdentified_only s3 l
    refine ⟨?_, fun h => ?_, fun _ => ?_⟩
    · rw [h4.n _ _, h3.n _ _, state3]
    · rw [h4.n _ _, h3.n _ _, rate3 h]
    · rw [h4.n _ _, State.clearIdentified_format]
  · next hwas =>
    rw [ht]
    exact ⟨state3, rate3, fun h => absurd h hwas⟩

/-- Settles O13: all four commands lower the lane by `State.rxDown`. -/
theorem sdiReceiveStops : Obligations.SdiReceiveStops := by
  unfold Obligations.SdiReceiveStops
  refine ⟨?clock, ?signal, ?eav, ?raster⟩
  case clock =>
    intro s dt lane on hl hst
    refine ⟨_, (actIf_next on.1 (by simp [on.2, hl, hst]) : execSdiClockLoss dt lane s = _), ?_⟩
    obtain ⟨hstate, -, hformat⟩ := (s.tick dt).rxDown_lowers lane 2
    have kept := State.rxDown_only (s.tick dt) lane 2
    refine ⟨hstate, ?_, ?_, hformat⟩
    · rw [State.rxLane_setRxLane, kept.n Obj.rxRateMask lane]
      rfl
    · rw [State.rxLane_setRxLane]
      rfl
  case signal =>
    intro s dt lane lasted on hl hst hlast
    obtain ⟨hstate, -, hformat⟩ := (s.tick dt).rxDown_lowers lane 1
    exact ⟨_, (actIf_next on.1 (by simp [on.2, hl, hst, hlast]) : execSdiSignalLoss dt lane lasted s = _), hstate, hformat⟩
  case eav =>
    intro s dt lane periods on hl hst hper
    obtain ⟨hstate, hrate, hformat⟩ := (s.tick dt).rxDown_lowers lane 3
    exact ⟨_, (actIf_next on.1 (by simp [on.2, hl, hst, hper]) : execSdiEavTimeout dt lane periods s = _),
      hstate, hrate le_rfl, hformat hst⟩
  case raster =>
    intro s dt lane lines samples on hl hst hr
    have small : lane < 65536 := by omega
    obtain ⟨hstate, hrate, hformat⟩ := (s.tick dt).rxDown_lowers lane 3
    refine ⟨(s.tick dt).rxDown lane 3, (actIf_next on.1 ?_ : execSdiRasterMismatch dt lane lines samples s = _).trans ?_,
      hstate, hrate le_rfl, hformat hst⟩
    · simp [on.2, State.rxSt_lane _ small, State.rxn_lane _ _ small, small, hst, hr]
    · rw [if_pos small]

end Sys2Proof.Machine
end

section
/-!
PROOFS. Identification of a receive signal, and the checks of its lines (R53, R57, R58, R60, R63 to R65).
-/
namespace Sys2Proof.Machine
set_option Elab.async false

/-! ## A signal is identified -/

/-- What SDI_LOCK leaves of a lane number's identification. -/
structure Identified (lane f b : Nat) (raster : Raster) (pid : Option PayloadId) (t : State) : Prop where
  format : t.rxn Obj.rxFormat lane = f
  lastFormat : (t.rxLane lane).lastFormat = f
  bit : (t.rxLane lane).bit = b
  pid : (t.rxLane lane).pid = pid
  raster : (t.rxLane lane).raster = some raster

theorem State.identified_identifies (s : State) (lane f b : Nat) (mismatch : Bool) (raster : Raster) (pid : Option PayloadId) :
    Identified lane f b raster pid (s.identified lane f b mismatch raster pid) := by
  unfold State.identified
  extract_lets old x
  refine ⟨?_, ?_, ?_, ?_, ?_⟩
  · rw [(State.setRxLane_only ..).rxn _ _, (State.setRxn_only ..).rxn _ _, State.rxn_setRxn_self]
  all_goals rw [State.rxLane_setRxLane]

/-- The mark that allows SDI_PID_MISMATCH again is no part of the identification. -/
theorem Identified.marked {lane f b : Nat} {raster : Raster} {pid : Option PayloadId} {t : State}
    (h : Identified lane f b raster pid t) (m : Bool) :
    Identified lane f b raster pid (t.setRxLane lane { t.rxLane lane with mismatchRaised := m }) := by
  refine ⟨((State.setRxLane_only ..).rxn _ _).trans h.format, ?_, ?_, ?_, ?_⟩
  all_goals rw [State.rxLane_setRxLane]
  · exact h.lastFormat
  · exact h.bit
  · exact h.pid
  · exact h.raster

theorem Identified.after {r : Reach} {lane f b : Nat} {raster : Raster} {pid : Option PayloadId} {t u : State}
    (h : Identified lane f b raster pid t) (g : Only r t u) (hp : Part.objs ∉ r.parts := by decide)
    (hi : Obj.rxFormat ∉ r.objs ∧ embIndex Obj.rxFormat ∉ r.objs := by decide)
    (hl : Part.sdiRx ∉ r.parts := by decide) : Identified lane f b raster pid u := by
  have e := g.rxLane lane hl
  exact ⟨(g.rxn _ _ hp hi).trans h.format, e ▸ h.lastFormat, e ▸ h.bit, e ▸ h.pid, e ▸ h.raster⟩

theorem Identified.pidMismatch {lane f b : Nat} {raster : Raster} {pid : Option PayloadId} {t : State}
    (h : Identified lane f b raster pid t) (mismatch : Bool) :
    Identified lane f b raster pid (t.pidMismatch lane mismatch) := by
  unfold State.pidMismatch
  split
  · exact (h.marked true).after (State.raise_only ..)
  · exact h

/-- A port of one link reports the payload ID of that link (R65). -/
theorem State.meetPids_reports {s : State} {lead : Nat} (h : s.quad lead = false) :
    (s.meetPids lead).rxn Obj.rxPayloadId lead = (s.rxLane lead).pid.elim 0 (·.word) := by
  have hlink : s.linkLane lead 0 = lead := by simp [State.linkLane, h]
  unfold State.meetPids
  extract_lets p t slot x
  have hp : p = (s.rxLane lead).pid := by rw [← hlink]
  have horder (u : State) (hu : u.quad lead = false) : u.setLinkOrder lead = u := by simp [State.setLinkOrder, hu]
  have ht : t.rxn Obj.rxPayloadId lead = (s.rxLane lead).pid.elim 0 (·.word) := by
    rw [← hp, ← State.rxn_setRxn_self s Obj.rxPayloadId lead (p.elim 0 (·.word)),
      ← horder _ (((State.setRxn_only s Obj.rxPayloadId lead _).quad lead).trans h)]
  split
  · exact ht
  · rw [(State.refreshSlot_only ..).rxn _ _, (State.setSrc_only ..).rxn _ _, ht]

/-! ## SDI_LOCK -/

/-- A lane number's state becomes LOCKED: that of an ST2022_6 entry follows from its format (R114). -/
def State.enterLocked (s : State) (lane : Nat) : State := if lane < 65536 then s.setN Obj.rxState lane 4 else s

/-- The lane is identified, SDI_PID_MISMATCH may be raised again, and SDI_LOCK is. -/
def State.lockedAs (s : State) (lane f b : Nat) (mismatch : Bool) (raster : Raster) (pid : Option PayloadId) : State :=
  let t := (s.enterLocked lane).identified lane f b mismatch raster pid
  (t.setRxLane lane { t.rxLane lane with mismatchRaised := false }).raise Ev.sdiLock lane

theorem sdiLock_next {s : State} {dt lane f b : Nat} {raster : Raster} {pid : Option PayloadId} {mismatch : Bool} (on : s.on)
    (hst : s.rxSt lane = 3) (hid : s.identifyOn lane (s.signalRates lane) raster pid = (some (f, b), mismatch)) :
    let t := (s.tick dt).lockedAs lane f b mismatch raster pid
    exec (.sdiLock dt lane raster pid) s = .next ((t.pidMismatch lane mismatch).meetPids (Objs.rxLead t.objs lane)) := by
  have hid' : (s.tick dt).identifyOn lane ((s.tick dt).signalRates lane) raster pid = (some (f, b), mismatch) := hid
  refine (actIf_next on.1 (by simp [on.2, hst]) : execSdiLock dt lane raster pid s = _).trans ?_
  rw [hid']
  rfl

/-- The reach of the entry to LOCKED. -/
abbrev lockReach : Reach :=
  ⟨[.out, .pinned, .ev, .flashJournal, .sdiRx, .diskJournal],
    [Obj.rxFormat, Obj.embFormat, Obj.rxStructure, Obj.embStructure, Obj.eventCount, Obj.eventLastAt, Obj.eventLastSubject],
    [0x40000004, 0x40000008]⟩

theorem State.lockedAs_only (s : State) (lane f b : Nat) (mismatch : Bool) (raster : Raster) (pid : Option PayloadId) :
    Only lockReach (s.enterLocked lane) (s.lockedAs lane f b mismatch raster pid) :=
  (State.raise_only ..).seq ((State.setRxLane_only ..).seq (State.identified_only ..).up)

theorem State.lockedAs_identified (s : State) (lane f b : Nat) (mismatch : Bool) (raster : Raster) (pid : Option PayloadId) :
    Identified lane f b raster pid (s.lockedAs lane f b mismatch raster pid) :=
  ((State.identified_identifies ..).marked false).after (State.raise_only ..)

theorem State.enterLocked_only (s : State) (lane : Nat) : Only ⟨[], [Obj.rxState], []⟩ s (s.enterLocked lane) :=
  .ite (State.setN_only ..) (Only.refl _ _)

theorem State.enterLocked_state {lane : Nat} (s : State) (h : lane < 65536) : (s.enterLocked lane).n Obj.rxState lane = 4 := by
  rw [State.enterLocked, if_pos h, State.n_setN_self]

/-- Settles O14: what identification leaves stands through the events of the lock and the slot that the port feeds. -/
theorem sdiLocks : Obligations.SdiLocks := by
  unfold Obligations.SdiLocks
  intro s dt lane raster pid f b mismatch on hst hid
  refine ⟨_, sdiLock_next on hst hid, ?_⟩
  have locked := (s.tick dt).lockedAs_only lane f b mismatch raster pid
  have mismatched := State.pidMismatch_only ((s.tick dt).lockedAs lane f b mismatch raster pid) lane mismatch
  have met (u : State) (lead : Nat) := State.meetPids_only u lead
  have before := ((s.tick dt).lockedAs_identified lane f b mismatch raster pid).pidMismatch mismatch
  have enter := (s.tick dt).enterLocked_only lane
  have after := before.after (met _ (Objs.rxLead ((s.tick dt).lockedAs lane f b mismatch raster pid).objs lane))
  refine ⟨fun small => ?_, after.format, after.lastFormat, after.bit, after.pid, after.raster, fun hlead hquad => ?_⟩
  · rw [(met _ _).n _ _, mismatched.n _ _, locked.n _ _, State.enterLocked_state _ small]
  · have lead : Objs.rxLead ((s.tick dt).lockedAs lane f b mismatch raster pid).objs lane = lane := by
      rw [locked.rxLead, enter.rxLead]
      exact hlead
    rw [lead, State.meetPids_reports (by rw [mismatched.quad, locked.quad, enter.quad]; exact hquad), before.pid]

end Sys2Proof.Machine
end

section
/-!
PROOFS. The lines, group skew and EDH packets of a receive lane (R58, R60, R63, R64, R65, R73).
-/
namespace Sys2Proof.Machine
set_option Elab.async false

/-! ## Lines -/

/-- A line with a CRC error counts, where the signal has line CRCs (R63). -/
def State.checkCrc (s : State) (lane : Nat) (line : SdiLine) : State :=
  let r := fmtRaster (s.rxn Obj.rxFormat lane)
  if line.crcError && (s.rxn Obj.rxFormat lane != 0 && r != 1 && r != 2) then
    (s.bump (laneIx lane Obj.rxCrcErrLines) lane).raiseLimited Ev.sdiCrcError lane lane
  else s

/-- The lead lane of a group measures the skew (R60). -/
def State.checkSkew (s : State) (lane skew : Nat) : State := if s.quad lane then s.measureSkew lane skew else s

theorem sdiLineReceived_next {s : State} {dt lane skew : Nat} {line : SdiLine} (on : s.on) (hst : s.rxSt lane = 4) :
    exec (.sdiLineReceived dt lane line skew) s =
      .next ((((s.tick dt).checkCrc lane line).checkSkew lane skew).meetLine lane line.number line.pid) :=
  (actIf_next on.1 (by simp [on.2, hst]) : execSdiLineReceived dt lane line skew s = _)

theorem State.checkCrc_only (s : State) (lane : Nat) (line : SdiLine) :
    Only ⟨[.out, .pinned, .ev, .flashJournal, .diskJournal],
      [Obj.rxCrcErrLines, Obj.embCrcErrLines, Obj.eventCount, Obj.eventLastAt, Obj.eventLastSubject], [0x40000004, 0x40000008]⟩
      s (s.checkCrc lane line) :=
  .ite ((State.raiseLimited_only ..).seq (State.bumpRx_only ..).up) (Only.refl _ _)

theorem State.checkSkew_only (s : State) (lane skew : Nat) :
    Only ⟨[.out, .pinned, .ev, .flashJournal, .sdiRx, .ridge, .diskJournal],
      [Obj.rxQuadSkew, Obj.eventCount, Obj.eventLastAt, Obj.eventLastSubject, Obj.srcFeedKind, Obj.srcState,
        Obj.srcReservationStatus, Obj.srcFramesAbandoned, Obj.srcColourLive], [0x40000004, 0x40000008]⟩
      s (s.checkSkew lane skew) :=
  .ite (State.measureSkew_only ..) (Only.refl _ _)

/-- The line has been checked, and is still to be met: what the checks leave as it was. -/
theorem State.lineChecked_only (s : State) (lane skew : Nat) (line : SdiLine) :
    Only ⟨[.out, .pinned, .ev, .flashJournal, .sdiRx, .ridge, .diskJournal],
      [Obj.rxCrcErrLines, Obj.embCrcErrLines, Obj.rxQuadSkew, Obj.eventCount, Obj.eventLastAt, Obj.eventLastSubject,
        Obj.srcFeedKind, Obj.srcState, Obj.srcReservationStatus, Obj.srcFramesAbandoned, Obj.srcColourLive],
      [0x40000004, 0x40000008]⟩ s ((s.checkCrc lane line).checkSkew lane skew) :=
  (State.checkSkew_only ..).seq (State.checkCrc_only ..).up

theorem State.checkCrc_counted {s : State} {lane : Nat} {line : SdiLine} (he : line.crcError = true)
    (hf : s.rxn Obj.rxFormat lane ≠ 0) (h1 : fmtRaster (s.rxn Obj.rxFormat lane) ≠ 1)
    (h2 : fmtRaster (s.rxn Obj.rxFormat lane) ≠ 2) :
    Counted (laneIx lane Obj.rxCrcErrLines) lane 1 s (s.checkCrc lane line) := by
  have hcrc : s.checkCrc lane line = (s.bump (laneIx lane Obj.rxCrcErrLines) lane).raiseLimited Ev.sdiCrcError lane lane := by
    simp [State.checkCrc, he, hf, h1, h2]
  rw [hcrc]
  exact (State.bumpRx_counted ..).after (State.raiseLimited_only ..)

/-- The skew is reported, and of the lane only what R60 notes of it has changed. -/
structure SkewMet (s : State) (lead skew : Nat) (t : State) : Prop where
  skew : t.n Obj.rxQuadSkew lead = skew
  lane : ∃ bad good, t.rxLane lead = { s.rxLane lead with skewBad := bad, skewGood := good }

theorem SkewMet.after {r : Reach} {s t u : State} {lead skew : Nat} (h : SkewMet s lead skew t) (g : Only r t u)
    (hp : Part.objs ∉ r.parts := by decide) (hi : Obj.rxQuadSkew ∉ r.objs := by decide)
    (hl : Part.sdiRx ∉ r.parts := by decide) : SkewMet s lead skew u :=
  ⟨(g.n _ _ hp hi).trans h.skew, g.rxLane lead hl ▸ h.lane⟩

theorem State.measureSkew_met (s : State) (lead skew : Nat) : SkewMet s lead skew (s.measureSkew lead skew) := by
  unfold State.measureSkew
  extract_lets f x s1 s2
  have met1 : SkewMet s lead skew s1 := ⟨State.n_setN_self .., x.skewBad, x.skewGood, rfl⟩
  have marked (bad : Bool) (good : Option Nat) :
      SkewMet s lead skew (s1.setRxLane lead { x with skewBad := bad, skewGood := good }) :=
    ⟨met1.skew, bad, good, State.rxLane_setRxLane ..⟩
  split
  · split
    · exact marked true none
    · exact ((marked true none).after (State.raise_only ..)).after (State.refreshLaneSlot_only ..)
  split
  · split
    · exact marked x.skewBad (some s1.now)
    · split
      · exact (marked false none).after (State.refreshLaneSlot_only ..)
      · exact met1
  · exact met1

/-- The checks of a line leave of its lane all but what R60 notes. -/
theorem State.lineChecked_lane (s : State) (lane skew : Nat) (line : SdiLine) :
    ∃ bad good, ((s.checkCrc lane line).checkSkew lane skew).rxLane lane =
      { s.rxLane lane with skewBad := bad, skewGood := good } := by
  rw [← (s.checkCrc_only lane line).rxLane lane]
  unfold State.checkSkew
  split
  · exact (State.measureSkew_met ..).lane
  · exact ⟨_, _, rfl⟩

/-- The line of the payload ID is not the first line of the frame (R66). -/
theorem pidLine_ne_firstLine : ∀ raster, (pidLines raster).headD 0 ≠ (firstLines raster).1
  | 0 | 1 | 2 | 3 | 4 | 5 => by decide
  | _ + 6 => by simp [pidLines, firstLines]

theorem State.meetLine_first {s : State} {lane line : Nat} {pid : Option PayloadId}
    (hline : line = (firstLines (fmtRaster (s.rxn Obj.rxFormat lane))).1) (hlead : Objs.rxLead s.objs lane = lane) :
    s.meetLine lane line pid = s.nextFrame lane := by
  simp [State.meetLine, hline, hlead]

theorem State.meetLine_pid {s : State} {lane line : Nat} {pid : Option PayloadId}
    (hline : line = (pidLines (fmtRaster (s.rxn Obj.rxFormat lane))).headD 0) (hpid : pid ≠ (s.rxLane lane).pid) :
    s.meetLine lane line pid = s.setRxLane lane { s.rxLane lane with pidNext := some pid } := by
  have hfirst : line ≠ (firstLines (fmtRaster (s.rxn Obj.rxFormat lane))).1 := hline ▸ pidLine_ne_firstLine _
  unfold State.meetLine
  extract_lets r x lead
  rw [if_neg (by simp [r, hfirst]), if_pos (Bool.and_eq_true_iff.2 ⟨decide_eq_true hline, bne_iff_ne.2 hpid⟩)]

/-! ## EDH packets -/

/-- An EDH packet is read: its flags, and a count for each mismatch (R64). -/
def State.readEdh (s : State) (lane w : Nat) (ap ff : Bool) : State :=
  ((s.setRxn Obj.rxEdhFlags lane (field w 0 14)).countIf ap Obj.rxEdhApErrFields lane).countIf ff Obj.rxEdhFfErrFields lane

theorem sdiEdhField_next {s : State} {dt lane w : Nat} {ap ff : Bool} (on : s.on) (hst : s.rxSt lane = 4)
    (hr : fmtRaster (s.rxn Obj.rxFormat lane) = 1 ∨ fmtRaster (s.rxn Obj.rxFormat lane) = 2) :
    exec (.sdiEdhField dt lane (some w) ap ff) s = .next (
      if ap || ff then ((s.tick dt).readEdh lane w ap ff).raiseLimited Ev.sdiEdhError lane lane
      else (s.tick dt).readEdh lane w ap ff) :=
  (actIf_next on.1 (by simp [on.2, hst, hr]) : execSdiEdhField dt lane (some w) ap ff s = _)

theorem State.readEdh_reads (s : State) (lane w : Nat) (ap ff : Bool) :
    (s.readEdh lane w ap ff).rxn Obj.rxEdhFlags lane = field w 0 14 ∧
      Counted (laneIx lane Obj.rxEdhApErrFields) lane (b2n ap) s (s.readEdh lane w ap ff) ∧
      Counted (laneIx lane Obj.rxEdhFfErrFields) lane (b2n ff) s (s.readEdh lane w ap ff) := by
  have flags := State.setRxn_only s Obj.rxEdhFlags lane (field w 0 14)
  refine ⟨?_, ((State.countIf_counted ..).since flags).after (State.countIf_only ..),
    ((State.countIf_counted ..).since (State.countIf_only ..)).since flags⟩
  rw [State.readEdh, (State.countIf_only ..).rxn _ _, (State.countIf_only ..).rxn _ _, State.rxn_setRxn_self]

/-- Settles O15: each clause reads what one of the parts of the command leaves, and the parts after it leave that as it was. -/
theorem sdiChecks : Obligations.SdiChecks := by
  unfold Obligations.SdiChecks
  refine ⟨?crc, ?skew, ?first, ?pid, ?edh, ?absent⟩
  case crc =>
    intro s dt lane line skew on hst hf he h1 h2
    refine ⟨_, sdiLineReceived_next on hst, ?_⟩
    exact ((State.checkCrc_counted (s := s.tick dt) he hf h1 h2).after (State.checkSkew_only ..)).after (State.meetLine_only ..)
  case skew =>
    intro s dt lane line skew on hst hquad
    have hquad' : ((s.tick dt).checkCrc lane line).quad lane = true := ((State.checkCrc_only ..).quad lane).trans hquad
    refine ⟨_, sdiLineReceived_next on hst, ((State.meetLine_only ..).n _ _).trans ?_⟩
    rw [State.checkSkew, if_pos hquad']
    exact (State.measureSkew_met ..).skew
  case first =>
    intro s dt lane line skew on hst hlead hline
    have checked := (s.tick dt).lineChecked_only lane skew line
    obtain ⟨bad, good, hlane⟩ := (s.tick dt).lineChecked_lane lane skew line
    have hfirst := State.meetLine_first (pid := line.pid)
      (hline.trans (by rw [checked.rxn Obj.rxFormat lane, State.rxn_tick])) ((checked.rxLead lane).trans hlead)
    refine ⟨_, (sdiLineReceived_next on hst).trans (congrArg _ hfirst), ?_⟩
    simp [State.nextFrame, hlane]
  case pid =>
    intro s dt lane line skew on hst hline hpid
    have checked := (s.tick dt).lineChecked_only lane skew line
    obtain ⟨bad, good, hlane⟩ := (s.tick dt).lineChecked_lane lane skew line
    have hread := State.meetLine_pid (hline.trans (by rw [checked.rxn Obj.rxFormat lane, State.rxn_tick]))
      (show line.pid ≠ _ by rw [hlane]; exact hpid)
    refine ⟨_, (sdiLineReceived_next on hst).trans (congrArg _ hread), ?_⟩
    simp
  case edh =>
    intro s dt lane w ap ff on hst hr
    obtain ⟨hflags, hap, hff⟩ := (s.tick dt).readEdh_reads lane w ap ff
    have event := State.raiseLimited_only ((s.tick dt).readEdh lane w ap ff) Ev.sdiEdhError lane lane
    refine ⟨_, sdiEdhField_next on hst hr, ?_⟩
    split
    · exact ⟨(event.rxn _ _).trans hflags, hap.after event, hff.after event⟩
    · exact ⟨hflags, hap, hff⟩
  case absent =>
    intro s dt lane ap ff on hst hr
    exact ⟨_, (actIf_next on.1 (by simp [on.2, hst, hr]) : execSdiEdhField dt lane none ap ff s = _), State.n_setN_self ..⟩

end Sys2Proof.Machine
end

section
/-!
PROOFS. Embedded audio and ancillary packets of a receive lane (R67, R69, R70, R73, R74).
-/
namespace Sys2Proof.Machine
set_option Elab.async false

/-! ## Audio groups -/

theorem bit_setBit_self (x k : Nat) (b : Bool) : bit (setBit x k b) k = b := by
  unfold bit setBit
  split
  · next h => exact beq_iff_eq.1 h
  next h =>
  have hx : x.testBit k = !b := Bool.eq_not.2 (by simpa using h)
  cases b
  · have hx : x.testBit k = true := hx
    obtain ⟨y, rfl⟩ : ∃ y, x = 2 ^ k + y := ⟨x - 2 ^ k, by have := Nat.ge_two_pow_of_testBit hx; omega⟩
    rw [Nat.testBit_two_pow_add_eq] at hx
    simpa using hx
  · rw [if_pos rfl, Nat.add_comm, Nat.testBit_two_pow_add_eq, hx]
    rfl

/-- SDI_AUDIO_GROUP leaves the groups of the lane as they were. -/
theorem State.raiseGroup_groups (s : State) (lead : Nat) : ((s.raiseGroup lead).rxLane lead).groups = (s.rxLane lead).groups := by
  unfold State.raiseGroup
  extract_lets x
  split
  · rfl
  · rw [(State.raise_only ..).rxLane, State.rxLane_setRxLane]

theorem State.setPresent_groups (s : State) (lead groupBit : Nat) (present : Bool) :
    ((s.setPresent lead groupBit present).rxLane lead).groups = (s.rxLane lead).groups := by
  unfold State.setPresent
  split
  · rfl
  · rw [State.raiseGroup_groups]
    rfl

/-- A group is as it has been set (R69). -/
theorem State.setPresent_present (s : State) (lead groupBit : Nat) (present : Bool) :
    bit ((s.setPresent lead groupBit present).rxn Obj.rxAudioPresent lead) groupBit = present := by
  unfold State.setPresent
  split
  · next h => exact h
  · rw [(State.raiseGroup_only ..).rxn _ _]
    exact (congrArg (bit · groupBit) (State.n_setN_self ..)).trans (bit_setBit_self ..)

/-! ## Audio packets -/

/-- What counts and raises at the end of an audio packet, by its ECC result (R70). -/
def State.countEcc (s : State) (lead : Nat) : EccResult → State
  | .clean => s
  | .corrected => s.bump (laneIx lead Obj.rxAudioEccCorrected) lead
  | .uncorrectable =>
    (s.bump (laneIx lead Obj.rxAudioUncorrectable) lead).raiseLimited Ev.sdiAudioError lead lead

theorem State.countEcc_only (s : State) (lead : Nat) (ecc : EccResult) :
    Only ⟨[.out, .pinned, .ev, .flashJournal, .diskJournal],
      [Obj.rxAudioEccCorrected, Obj.embAudioEccCorrected, Obj.rxAudioUncorrectable, Obj.embAudioUncorrectable, Obj.eventCount,
        Obj.eventLastAt, Obj.eventLastSubject], [0x40000004, 0x40000008]⟩ s (s.countEcc lead ecc) := by
  cases ecc with
  | clean => exact Only.refl _ _
  | corrected => exact (State.bumpRx_only ..).up
  | uncorrectable => exact (State.raiseLimited_only ..).seq (State.bumpRx_only ..).up

theorem State.countEcc_counted (s : State) (lead : Nat) (ecc : EccResult) :
    Counted (laneIx lead Obj.rxAudioEccCorrected) lead (b2n (ecc = .corrected)) s (s.countEcc lead ecc) ∧
      Counted (laneIx lead Obj.rxAudioUncorrectable) lead (b2n (ecc = .uncorrectable)) s (s.countEcc lead ecc) := by
  cases ecc with
  | clean => exact ⟨.zero rfl, .zero rfl⟩
  | corrected => exact ⟨State.bumpRx_counted .., .zero ((State.bumpRx_only ..).rxn Obj.rxAudioUncorrectable lead)⟩
  | uncorrectable =>
    have event := State.raiseLimited_only (s.bump (laneIx lead Obj.rxAudioUncorrectable) lead) Ev.sdiAudioError lead lead
    exact ⟨.zero ((event.rxn _ _).trans ((State.bumpRx_only ..).rxn Obj.rxAudioEccCorrected lead)),
      (State.bumpRx_counted ..).after event⟩

/-- A packet of a selected group makes it present, now, and is counted by its ECC result (R69, R70). -/
structure AudioTaken (lead : Nat) (p : AudioPacket) (s t : State) : Prop where
  present : bit (t.rxn Obj.rxAudioPresent lead) p.groupBit = true
  last : look (t.rxLane lead).groups p.groupBit 0 = t.now
  corrected : Counted (laneIx lead Obj.rxAudioEccCorrected) lead (b2n (p.ecc = .corrected)) s t
  uncorrectable : Counted (laneIx lead Obj.rxAudioUncorrectable) lead (b2n (p.ecc = .uncorrectable)) s t

theorem State.takeAudio_taken (s : State) (lead : Nat) (p : AudioPacket) : AudioTaken lead p s (s.takeAudio lead p) := by
  have hnow : (s.takeAudio lead p).now = s.now := (State.takeAudio_only ..).same .now
  generalize ht : s.takeAudio lead p = t at hnow ⊢
  unfold State.takeAudio at ht
  extract_lets x t1 t2 base c t3 t4 at ht
  have h24 : Only ⟨[.au], [Obj.aiNonAudio], []⟩ t2 t4 :=
    (State.queueFrames_only ..).seq ((State.setNonAudio_only ..).seq (.ite (State.setInLatency_only ..).up (Only.refl _ _)))
  have h4 : Only ⟨[.out, .pinned, .ev, .flashJournal, .sdiRx, .au, .diskJournal],
      [Obj.rxAudioPresent, Obj.embAudioPresent, Obj.eventCount, Obj.eventLastAt, Obj.eventLastSubject, Obj.aiNonAudio],
      [0x40000004, 0x40000008]⟩ s t4 :=
    h24.seq ((State.setPresent_only ..).seq (State.setRxLane_only ..).up)
  obtain rfl : t4.countEcc lead p.ecc = t := ht
  have ecc := t4.countEcc_only lead p.ecc
  obtain ⟨hcorrected, huncorrectable⟩ := t4.countEcc_counted lead p.ecc
  refine ⟨?_, ?_, hcorrected.since h4, huncorrectable.since h4⟩
  · rw [ecc.rxn _ _, h24.rxn _ _, State.setPresent_present]
  · rw [ecc.rxLane, h24.rxLane, State.setPresent_groups, State.rxLane_setRxLane, look_put_self, hnow]

theorem sdiAudioPacket_next {s : State} {dt lane : Nat} {p : AudioPacket} (on : s.on)
    (hst : ∀ k ∈ Objs.rxLanes s.objs (Objs.rxLead s.objs lane), s.rxSt k = 4)
    (hbase : s.rxn Obj.rxAudioBase (Objs.rxLead s.objs lane) ≠ 0xFFFF)
    (hgroup : bit (s.rxn Obj.rxAudioGroups (Objs.rxLead s.objs lane)) p.groupBit = true)
    (hlink : s.carriesGroup lane p.groupBit = true) :
    exec (.sdiAudioPacket dt lane p) s = .next (
      if p.rate48 then (s.tick dt).takeAudio (Objs.rxLead s.objs lane) p
      else (s.tick dt).setPresent (Objs.rxLead s.objs lane) p.groupBit false) := by
  have hlink' : (s.tick dt).carriesGroup lane p.groupBit = true := hlink
  exact (actIf_next on.1 (by simpa [on.2, hlink', hbase, hgroup] using hst) : execSdiAudioPacket dt lane p s = _)

/-! ## Ancillary packets -/

/-- What an ancillary packet leaves: the two counts of those that are lost, and the packets of the frame (R73, R74). -/
structure AncMet (lead : Nat) (bad lost : Bool) (packets : List Anc) (s t : State) : Prop where
  checksum : Counted (laneIx lead Obj.rxAncChecksumErr) lead (b2n bad) s t
  overflow : Counted (laneIx lead Obj.rxAncOverflow) lead (b2n lost) s t
  anc : (t.rxLane lead).anc = packets

theorem AncMet.after {r : Reach} {lead : Nat} {bad lost : Bool} {packets : List Anc} {s t u : State}
    (h : AncMet lead bad lost packets s t) (g : Only r t u) (hp : Part.objs ∉ r.parts := by decide)
    (hi : ∀ i ∈ [Obj.rxAncChecksumErr, Obj.rxAncOverflow], i ∉ r.objs ∧ embIndex i ∉ r.objs := by decide)
    (hl : Part.sdiRx ∉ r.parts := by decide) : AncMet lead bad lost packets s u :=
  ⟨h.checksum.after g hp (hi _ (by simp)), h.overflow.after g hp (hi _ (by simp)), g.rxLane lead hl ▸ h.anc⟩

/-- SDI_ANC_PACKET on the lead lane of a receive port or group. -/
def State.meetAnc (s : State) (lead : Nat) (p : Anc) : State :=
  let x := s.rxLane lead
  if !p.checksumOk then s.bump (laneIx lead Obj.rxAncChecksumErr) lead
  else if ancGenerated p.did || ancDropped (s.by (laneIx lead Obj.sdiRxAncDrop) lead) p.did p.sdid then s
  else if x.ancFull || ancArea < x.ancBytes + p.size then
    let t := (s.setRxLane lead { x with ancFull := true, ancRaised := true }).bump (laneIx lead Obj.rxAncOverflow) lead
    if x.ancRaised then t else t.raise Ev.sdiAncOverflow lead
  else
    let t := s.setRxLane lead { x with anc := x.anc ++ [p], ancBytes := x.ancBytes + p.size }
    match t.ancFrame lead with
    | some (slot, n) => t.attachAnc slot n p
    | none => t

theorem sdiAncPacket_next {s : State} {dt lane : Nat} {p : Anc} (on : s.on) (hst : s.rxSt lane = 4) :
    exec (.sdiAncPacket dt lane p) s = .next ((s.tick dt).meetAnc (Objs.rxLead s.objs lane) p) :=
  (actIf_next on.1 (by simp [on.2, hst]) : execSdiAncPacket dt lane p s = _)

theorem State.meetAnc_met (s : State) (lead : Nat) (p : Anc) :
    let out := ancGenerated p.did || ancDropped (s.by (laneIx lead Obj.sdiRxAncDrop) lead) p.did p.sdid
    let full := (s.rxLane lead).ancFull || decide (ancArea < (s.rxLane lead).ancBytes + p.size)
    AncMet lead (!p.checksumOk) (p.checksumOk && !out && full)
      (if p.checksumOk && !out && !full then (s.rxLane lead).anc ++ [p] else (s.rxLane lead).anc) s (s.meetAnc lead p) := by
  intro out full
  unfold State.meetAnc
  extract_lets x lost stored
  cases p.checksumOk with
  | false =>
    have count := s.bumpRx_only Obj.rxAncChecksumErr lead
    exact ⟨State.bumpRx_counted .., .zero (count.rxn Obj.rxAncOverflow lead), congrArg SdiRx.anc (count.rxLane lead)⟩
  | true =>
  change AncMet lead false (!out && full) (if (!out && !full) = true then x.anc ++ [p] else x.anc) s
    (if out = true then s else
      if full = true then (if x.ancRaised = true then lost else lost.raise Ev.sdiAncOverflow lead)
      else match stored.ancFrame lead with
        | some (slot, n) => stored.attachAnc slot n p
        | none => stored)
  clear_value out full
  cases out with
  | true => exact ⟨.zero rfl, .zero rfl, rfl⟩
  | false =>
  cases full with
  | true =>
    have mark := s.setRxLane_only lead { x with ancFull := true, ancRaised := true }
    have hlost : AncMet lead false true x.anc s lost := by
      have count := (s.setRxLane lead { x with ancFull := true, ancRaised := true }).bumpRx_only Obj.rxAncOverflow lead
      refine ⟨.zero ((count.rxn _ _).trans (mark.rxn Obj.rxAncChecksumErr lead)), (State.bumpRx_counted ..).since mark, ?_⟩
      rw [count.rxLane, State.rxLane_setRxLane]
    change AncMet lead false true x.anc s (if x.ancRaised = true then lost else lost.raise Ev.sdiAncOverflow lead)
    split
    · exact hlost
    · exact hlost.after (State.raise_only ..)
  | false =>
    have keep := s.setRxLane_only lead { x with anc := x.anc ++ [p], ancBytes := x.ancBytes + p.size }
    have hstored : AncMet lead false false (x.anc ++ [p]) s stored :=
      ⟨.zero (keep.rxn Obj.rxAncChecksumErr lead), .zero (keep.rxn Obj.rxAncOverflow lead),
        congrArg SdiRx.anc (State.rxLane_setRxLane ..)⟩
    change AncMet lead false false (x.anc ++ [p]) s
      (match stored.ancFrame lead with | some (slot, n) => stored.attachAnc slot n p | none => stored)
    split
    · exact hstored.after (State.attachAnc_only ..)
    · exact hstored

/-- Settles O16: each command leaves what its clause says of the port or group, and the events after it leave that as it was. -/
theorem sdiCarriesData : Obligations.SdiCarriesData := by
  unfold Obligations.SdiCarriesData
  refine ⟨?packet, ?otherRate, ?absent, ?anc⟩
  case packet =>
    intro s dt lane p on hst hrate hbase hgroup hlink
    refine ⟨_, (sdiAudioPacket_next on hst hbase hgroup hlink).trans (by rw [if_pos hrate]), ?_⟩
    obtain ⟨present, last, corrected, uncorrectable⟩ := (s.tick dt).takeAudio_taken (Objs.rxLead s.objs lane) p
    exact ⟨present, last, corrected, uncorrectable⟩
  case otherRate =>
    intro s dt lane p on hst hrate hbase hgroup hlink
    exact ⟨_, (sdiAudioPacket_next on hst hbase hgroup hlink).trans (by rw [hrate, if_neg Bool.false_ne_true]),
      State.setPresent_present ..⟩
  case absent =>
    intro s dt lane groupBit on hpresent hdue
    exact ⟨_, (actIf_next on.1 (by simp [on.2, hpresent, hdue]) : execSdiAudioGroupAbsent dt lane groupBit s = _),
      State.setPresent_present ..⟩
  case anc =>
    intro s dt lane p on hst
    obtain ⟨checksum, overflow, anc⟩ := (s.tick dt).meetAnc_met (Objs.rxLead s.objs lane) p
    exact ⟨_, sdiAncPacket_next on hst, checksum, overflow, anc⟩

end Sys2Proof.Machine
end

section
/-!
SUPPORT. What a function leaves of the receive entries: `RxKept g s t` says that g reads the same from every entry of t as from that
of s.
-/
namespace Sys2Proof.Machine
set_option Elab.async false

/-- What g reads from an entry is as before, for every receive entry. -/
structure RxKept {α : Type} (g : RxEntry → α) (s t : State) : Prop where
  kept : ∀ e, g (t.rxe e) = g (s.rxe e)

section
variable {α : Type} {g : RxEntry → α}

theorem RxKept.of_rx {s t : State} (h : t.media.rx = s.media.rx) : RxKept g s t := ⟨fun e => by rw [State.rxe, h, State.rxe]⟩

theorem RxKept.refl (s : State) : RxKept g s s := .of_rx rfl

/-- Outermost first. -/
theorem RxKept.seq {s t u : State} (h : RxKept g t u) (k : RxKept g s t) : RxKept g s u :=
  ⟨fun e => (h.kept e).trans (k.kept e)⟩

theorem RxKept.ite {p : Prop} [Decidable p] {s a b : State} (h : RxKept g s a) (k : RxKept g s b) :
    RxKept g s (if p then a else b) := by
  split
  · exact h
  · exact k

theorem RxKept.foldl {β : Type} {f : State → β → State} {xs : List β} {s t : State} (h : ∀ u x, RxKept g u (f u x))
    (k : RxKept g s t) : RxKept g s (xs.foldl f t) := by
  induction xs generalizing t with
  | nil => exact k
  | cons x xs ih => exact ih ((h t x).seq k)

theorem Only.media {r : Reach} {s t : State} (h : Only r s t) (hp : Part.media ∉ r.parts := by decide) : t.media = s.media :=
  h.same .media hp

/-- A function whose reach has no media part. -/
theorem RxKept.of_only {r : Reach} {s t : State} (h : Only r s t) (hp : Part.media ∉ r.parts := by decide) : RxKept g s t :=
  .of_rx (by rw [h.media hp])

/-- Such a function after others. -/
theorem RxKept.still {r : Reach} {s t u : State} (h : Only r t u) (k : RxKept g s t)
    (hp : Part.media ∉ r.parts := by decide) : RxKept g s u :=
  (RxKept.of_only h hp).seq k

/-- An entry replaced by one from which g reads the same. -/
theorem State.setRxe_rxKept (s : State) (e : Nat) (x : RxEntry) (h : g x = g (s.rxe e) := by rfl) :
    RxKept g s (s.setRxe e x) :=
  ⟨fun k => by
    by_cases hk : k = e
    · rw [hk, State.rxe_setRxe, h]
    · rw [State.rxe_setRxe_ne _ _ _ _ hk]⟩

/-! ## Pictures and packets that destinations show -/

theorem State.renewTx_rxKept (s : State) (d : Nat) (x : Shown) (f : SdiOut → SdiOut) : RxKept g s (s.renewTx d x f) :=
  .foldl (fun _ _ => .of_rx rfl) (.refl s)

theorem State.reshow_rxKept (s : State) (d : Nat) (x : Shown) (f : SdiOut → SdiOut) : RxKept g s (s.reshow d x f) := by
  unfold State.reshow
  extract_lets y t
  have ht : RxKept g s t := .of_only (State.setDst_only ..)
  split
  · exact .still (State.renewRecord_only ..) ht
  · exact .still (State.renewDelay_only ..) ht
  · exact (State.renewTx_rxKept ..).seq ht
  · exact ht

theorem State.repaint_rxKept (s : State) (d : Nat) (x : Shown) : RxKept g s (s.repaint d x) := by
  unfold State.repaint
  extract_lets t
  have ht : RxKept g s t := State.reshow_rxKept ..
  split
  · exact .ite (.still (State.emit_only ..) ht) ht
  · exact ht

theorem State.amendPic_rxKept (s : State) (slot seq : Nat) (f : Pic → Pic) : RxKept g s (s.amendPic slot seq f) := by
  unfold State.amendPic
  split
  · exact .refl s
  · refine .ite (.refl s) ?_
    extract_lets t
    refine .foldl (fun u y => ?_) (.of_only (State.setSrc_only ..))
    split
    · exact .ite (u.repaint_rxKept ..) (.refl u)
    · exact .refl u

theorem State.copyPixels_rxKept (s : State) (slot seq : Nat) (spans : List (Nat × Nat)) :
    RxKept g s (s.copyPixels slot seq spans) :=
  s.amendPic_rxKept ..

theorem State.joinAnc_rxKept (s : State) (d : Nat) (x : Shown) (p : Anc) : RxKept g s (s.joinAnc d x p) := by
  unfold State.joinAnc
  extract_lets y old new t1 t2
  have h1 : RxKept g s t1 := State.reshow_rxKept ..
  have h2 : RxKept g s t2 := State.reshow_rxKept ..
  split
  · extract_lets u
    have hu : RxKept g s u := .still (State.bump_only ..) h1
    exact .ite (.ite (.still (State.emit_only ..) h1) (.ite h1 (.ite (.still (State.raise_only ..) hu) hu))) h1
  · refine .ite ?_ h1
    extract_lets u
    have hu : RxKept g s u := .foldl (fun _ _ => .of_only (State.bump_only ..)) h2
    exact .ite h2 (.ite (.still (State.raise_only ..) hu) hu)
  · exact h1

theorem State.attachAnc_rxKept (s : State) (slot seq : Nat) (p : Anc) : RxKept g s (s.attachAnc slot seq p) := by
  unfold State.attachAnc
  extract_lets t
  refine .foldl (fun u y => ?_) (.of_only (State.setSrc_only ..))
  split
  · exact .ite (u.joinAnc_rxKept ..) (.refl u)
  · exact .refl u

theorem State.ancStore_rxKept (s : State) (lead slot seq : Nat) (l : List Anc) : RxKept g s (s.ancStore lead slot seq l) := by
  unfold State.ancStore
  refine .foldl (fun t p => ?_) (.refl s)
  split
  · exact .refl t
  · refine .ite (.refl t) (.ite ?_ (t.attachAnc_rxKept ..))
    extract_lets u
    have hu : RxKept g t u := .of_only (State.setSrc_only ..)
    exact .ite hu (.still (State.raise_only ..) hu)

end

/-! ## Release (R110 to R117) -/

/-- What the release of packets goes by: the packets that wait, the next number, and the last release. -/
abbrev RxEntry.queue (x : RxEntry) : List RxPkt × Option Nat × Nat := (x.buffer, x.next, x.lastRelease)

theorem State.attachWaiting_rxKept (s : State) (slot seq : Nat) : RxKept RxEntry.queue s (s.attachWaiting slot seq) := by
  unfold State.attachWaiting
  refine .foldl (fun t e => ?_) (.refl s)
  split
  · exact .refl t
  · exact (State.ancStore_rxKept ..).seq (State.setRxe_rxKept ..)

theorem State.deliverAnc_rxKept (s : State) (lead : Nat) (r : RxPkt) : RxKept RxEntry.queue s (s.deliverAnc lead r) := by
  unfold State.deliverAnc
  extract_lets slot w
  split
  · exact s.ancStore_rxKept ..
  · exact .ite (.refl s) (State.setRxe_rxKept ..)

theorem State.endAssembly_rxKept (s : State) (lead : Nat) : RxKept RxEntry.queue s (s.endAssembly lead) := by
  unfold State.endAssembly
  extract_lets x slot f total t
  split
  · exact .refl s
  · extract_lets missing
    have ht : RxKept RxEntry.queue s t := State.setRxe_rxKept ..
    refine .ite (.still (State.finishFrame_only ..) ht) (.ite ?_ ?_)
    · exact .still (State.raiseLimited_only ..) (.still (State.bump_only ..) (.still (State.finishFrame_only ..)
        ((State.copyPixels_rxKept ..).seq ht)))
    · exact .still (State.raise_only ..) (.still (State.bump_only ..) (.still (State.abandonFrame_only ..) ht))

theorem State.beginAssembly_rxKept (s : State) (lead release : Nat) (r : RxPkt) :
    RxKept RxEntry.queue s (s.beginAssembly lead release r) := by
  unfold State.beginAssembly
  extract_lets slot f o seq t1 x t2
  have h1 : RxKept RxEntry.queue s t1 := .of_only (State.startFrame_only ..)
  have h2 : RxKept RxEntry.queue s t2 := (State.setRxe_rxKept ..).seq h1
  exact (State.attachWaiting_rxKept ..).seq h2

theorem State.placeSegments_rxKept (s : State) (lead lost : Nat) (p : Rtp) :
    RxKept RxEntry.queue s (s.placeSegments lead lost p) := by
  unfold State.placeSegments
  extract_lets f good bad t spans add slot x
  have ht : RxKept RxEntry.queue s t :=
    .ite (.refl s) (.still (State.raiseLimited_only ..) (.of_only (State.bump_only ..)))
  split
  · exact ht
  · extract_lets first placed a2 lines u
    have hu : RxKept RxEntry.queue s u := (State.copyPixels_rxKept ..).seq ((State.setRxe_rxKept ..).seq ht)
    exact .still (State.setSrc_only ..) hu

theorem State.deliverVideo_rxKept (s : State) (lead release lost : Nat) (r : RxPkt) :
    RxKept RxEntry.queue s (s.deliverVideo lead release lost r) := by
  unfold State.deliverVideo
  extract_lets p f f2 sameFrame t1 t2 x t3 t4
  have h1 : RxKept RxEntry.queue s t1 := .ite (.refl s) (s.endAssembly_rxKept lead)
  have h2 : RxKept RxEntry.queue s t2 := .ite (.still (State.setFlow_only ..) h1) h1
  have h3 : RxKept RxEntry.queue s t3 := by
    refine .ite ?_ ((State.beginAssembly_rxKept ..).seq h2)
    split
    · exact (State.setRxe_rxKept ..).seq h2
    · exact h2
  have h4 : RxKept RxEntry.queue s t4 := (State.placeSegments_rxKept ..).seq h3
  exact .ite h2 (.ite ((State.endAssembly_rxKept ..).seq h4) h4)

theorem State.endSdi_rxKept (s : State) (lead : Nat) : RxKept RxEntry.queue s (s.endSdi lead) := by
  unfold State.endSdi
  extract_lets slot x t
  split
  · exact .refl s
  · extract_lets missing
    have ht : RxKept RxEntry.queue s t := State.setRxe_rxKept ..
    refine .ite (.still (State.endWrite_only ..) ht) (.ite ?_ ?_)
    · exact .still (State.raiseLimited_only ..) (.still (State.bump_only ..) (.still (State.endWrite_only ..) ht))
    · exact .still (State.raise_only ..) (.still (State.bump_only ..) (.still (State.ancAbandon_only ..)
        (.still (State.abandonFrame_only ..) ht)))

theorem State.beginSdi_rxKept (s : State) (lead release : Nat) (r : RxPkt) :
    RxKept RxEntry.queue s (s.beginSdi lead release r) := by
  unfold State.beginSdi
  extract_lets slot f t1 o t2 seq t3 x
  have h1 : RxKept RxEntry.queue s t1 := .of_only (State.applyPids_only ..)
  have h2 : RxKept RxEntry.queue s t2 := .still (State.setInLatency_only ..) h1
  have h3 : RxKept RxEntry.queue s t3 := .still (State.startFrame_only ..) h2
  clear_value t3
  exact .ite h1 (.still (State.ancBegin_only ..) ((State.setRxe_rxKept ..).seq h3))

theorem State.deliverSdi_rxKept (s : State) (lead release lost : Nat) (r : RxPkt) :
    RxKept RxEntry.queue s (s.deliverSdi lead release lost r) := by
  unfold State.deliverSdi
  extract_lets x t
  have ht : RxKept RxEntry.queue s t := by
    unfold t
    split
    · exact State.setRxe_rxKept ..
    · exact .refl s
  exact .ite ((State.beginSdi_rxKept ..).seq ((State.endSdi_rxKept ..).seq ht)) ht

/-- A packet that has left the buffer leaves the rest of it as it is (R107). -/
theorem State.deliver_rxKept (s : State) (lead release lost : Nat) (r : RxPkt) :
    RxKept RxEntry.queue s (s.deliver lead release lost r) := by
  unfold State.deliver
  split
  · exact s.deliverVideo_rxKept ..
  · exact .of_only (State.deliverAudio_only ..)
  · exact .of_only (State.deliverAudio_only ..)
  · exact s.deliverAnc_rxKept ..
  · exact s.deliverSdi_rxKept ..
  · exact .foldl (fun t e => .ite (.of_rx rfl) (.refl t)) (.refl s)
  · exact .refl s

/-! ## Arrival (R104 to R108, R118, R119) -/

theorem RxEntry.meetNumber_ssrc (x : RxEntry) (q : Nat) : (x.meetNumber q).1.ssrc = x.ssrc := by
  unfold RxEntry.meetNumber
  split
  · rfl
  · rfl

theorem RxEntry.meetCopy_ssrc (x : RxEntry) (e q now : Nat) : (x.meetCopy e q now).1.ssrc = x.ssrc := by
  unfold RxEntry.meetCopy
  split
  · rfl
  · split
    · rfl
    · rfl

theorem RxEntry.meetPacket_ssrc (x : RxEntry) (essence q : Nat) (p : Rtp) : (x.meetPacket essence q p).1.ssrc = x.ssrc := by
  unfold RxEntry.meetPacket
  split
  · extract_lets newer
    exact (apply_ite RxEntry.ssrc ..).trans (ite_self _)
  · split
    · rfl
    · rfl

theorem State.recordSkew_rxKept (s : State) (e : Nat) (v : Int) : RxKept RxEntry.ssrc s (s.recordSkew e v) :=
  .ite (.still (State.setI_only ..) (.of_only (State.setI_only ..)))
    (.still (State.setI_only ..) (.still (State.setI_only ..) (State.setRxe_rxKept ..)))

theorem State.measurePair_rxKept (s : State) (lead e q : Nat) : RxKept RxEntry.ssrc s (s.measurePair lead e q) := by
  unfold State.measurePair
  refine .ite (.refl s) ?_
  extract_lets r
  refine RxKept.seq (t := s.setRxe lead r.1) ?_ (State.setRxe_rxKept _ _ _ (RxEntry.meetCopy_ssrc ..))
  unfold State.recordPair
  split
  · exact (State.recordSkew_rxKept ..).seq (State.recordSkew_rxKept ..)
  · exact .refl _

theorem State.measureTransit_rxKept (s : State) (e q : Nat) (p : Rtp) : RxKept RxEntry.ssrc s (s.measureTransit e q p) :=
  (RxKept.ite (State.setRxe_rxKept ..) (.refl _)).seq (State.setRxe_rxKept _ _ _ (RxEntry.meetPacket_ssrc ..))

theorem State.pathCopy_rxKept (s : State) (e : Nat) (inTime : Bool) : RxKept RxEntry.ssrc s (s.pathCopy e inTime) :=
  State.setRxe_rxKept ..

theorem State.bufferPkt_rxKept (s : State) (lead e q : Nat) (p : Rtp) : RxKept RxEntry.ssrc s (s.bufferPkt lead e q p) := by
  unfold State.bufferPkt
  extract_lets x t1 t2
  have h1 : RxKept RxEntry.ssrc s t1 := State.setRxe_rxKept ..
  have h2 : RxKept RxEntry.ssrc s t2 := .still (State.setN_only ..) h1
  exact .ite (.still (State.raiseLimited_only ..) (.of_only (State.bump_only ..))) ((State.setRxe_rxKept ..).seq h2)

theorem State.bufferCopy_rxKept (s : State) (lead e q : Nat) (p : Rtp) : RxKept RxEntry.ssrc s (s.bufferCopy lead e q p) :=
  .ite ((State.bufferPkt_rxKept ..).seq (.of_only (State.ancLost_only ..))) (s.bufferPkt_rxKept ..)

end Sys2Proof.Machine
end

section
/-!
SUPPORT. Events, counters and flows of the media network (R103, R109, R559, R570).
-/
namespace Sys2Proof.Machine
set_option Elab.async false

/-! ## Events and counters -/

theorem State.raise_raised (s : State) (src subj : Nat) (hp : src % 65536 ≠ Ev.counterPinned := by decide) :
    Raised src subj s (s.raise src subj) := by
  obtain ⟨count, subject, at_⟩ := s.raise_reads src subj hp
  exact ⟨count, subject, at_.trans (s.ptp_raise src subj).symm⟩

/-- A counter object counts on to its largest value (R559). -/
theorem State.bump_counts (s : State) (i k by_ : Nat)
    (h : i ≠ Obj.eventCount ∧ i ≠ Obj.eventLastAt ∧ i ≠ Obj.eventLastSubject := by decide) :
    (s.bump i k by_).n i k = min (s.n i k + by_) (counterMax i k) := by
  unfold State.bump
  extract_lets a top v
  by_cases hv : v ≤ top
  · rw [if_pos hv, State.n_setN_self]
    exact (min_eq_left hv).symm
  · have e : min (s.n i k + by_) (counterMax i k) = top := min_eq_right (Nat.le_of_not_le hv)
    rw [if_neg hv, e]
    split
    · exact State.n_setN_self ..
    · rw [State.n_raise _ _ _ _ _ h, State.n_setPinned, State.n_setN_self]

theorem Only.rxe {r : Reach} {s t : State} (h : Only r s t) (e : Nat) (hp : Part.media ∉ r.parts := by decide) :
    t.rxe e = s.rxe e := by
  rw [State.rxe, h.media hp, State.rxe]

/-- A count stands through what leaves its object as it was. -/
theorem Counted.still {r : Reach} {i k n : Nat} {s t u : State} (h : Counted i k n s t) (g : Only r t u)
    (hp : Part.objs ∉ r.parts := by decide) (hi : i ∉ r.objs := by decide) : Counted i k n s u :=
  (g.n i k hp hi).trans h

/-! ## A flow moves (R103, R109) -/

theorem Objs.lead_mem_rxPaths (c : Objs) (lead : Nat) : lead ∈ Objs.rxPaths c lead := by
  unfold Objs.rxPaths
  extract_lets p
  split
  · exact List.mem_cons_self
  · exact List.mem_cons_self

theorem State.foldl_setN_reads {i k v : Nat} {l : List Nat} {s : State} (h : k ∈ l ∨ s.n i k = v) :
    (l.foldl (fun u e => u.setN i e v) s).n i k = v := by
  induction l generalizing s with
  | nil => exact h.resolve_left List.not_mem_nil
  | cons e l ih =>
    refine ih ?_
    by_cases hk : k = e
    · exact .inr (hk ▸ State.n_setN_self ..)
    · refine h.imp (fun m => (List.mem_cons.1 m).resolve_left hk) fun hs => ?_
      rw [State.n_setN]
      split
      · rfl
      · exact hs

/-- Every entry of a flow in a state. -/
def State.markFlow (s : State) (lead st : Nat) : State :=
  (Objs.rxPaths s.objs lead).foldl (fun u e => u.setN Obj.rxFlowState e st) s

theorem State.markFlow_state (s : State) (lead st : Nat) : (s.markFlow lead st).n Obj.rxFlowState lead = st :=
  State.foldl_setN_reads (.inl (Objs.lead_mem_rxPaths ..))

theorem State.markFlow_only (s : State) (lead st : Nat) : Only ⟨[], [Obj.rxFlowState], []⟩ s (s.markFlow lead st) :=
  .foldl (fun _ _ => State.setN_only ..) (.refl _ s)

/-- What follows the new state of a flow: its events, the signal that it carried, and the slot that it feeds. -/
abbrev flowReach : Reach :=
  ⟨[.out, .pinned, .ev, .flashJournal, .sdiRx, .ridge, .diskJournal],
    [Obj.eventCount, Obj.eventLastAt, Obj.eventLastSubject, Obj.embFormat, Obj.embPayloadId, Obj.embStructure, Obj.srcFeedKind,
      Obj.srcState, Obj.srcReservationStatus, Obj.srcFramesAbandoned, Obj.srcColourLive], [0x40000004, 0x40000008]⟩

theorem State.setFlow_after (s : State) (lead st : Nat) : Only flowReach (s.markFlow lead st) (s.setFlow lead st) := by
  unfold State.setFlow
  extract_lets old t1 t2 c1 c2 t3
  have h2 : Only flowReach t1 t2 := .ite (State.raise_only ..).up (.refl _ _)
  have hc1 : Only flowReach t1 c1 := (State.clearEmb_only ..).seq h2
  have hc2 : Only flowReach t1 c2 := .ite ((State.raise_only ..).seq hc1) hc1
  have h3 : Only flowReach t1 t3 := .ite (.foldl (fun _ _ => (State.raise_only ..).up) hc2) h2
  exact .ite h3 ((State.refreshRxSlot_only ..).seq h3)

theorem State.setFlow_state (s : State) (lead st : Nat) : (s.setFlow lead st).n Obj.rxFlowState lead = st := by
  rw [(s.setFlow_after lead st).n _ _, State.markFlow_state]

/-- A flow that was RECEIVING has come to wait: its signal ends, and it is lost. -/
def State.loseFlow (s : State) (lead : Nat) : State := ((s.markFlow lead 2).clearEmb lead).raise Ev.flowLost lead

theorem State.loseFlow_raised (s : State) (lead : Nat) : Raised Ev.flowLost lead s (s.loseFlow lead) :=
  (State.raise_raised ..).before (l := []) (.still (State.clearEmb_only ..) (.of_only (State.markFlow_only ..)))

theorem State.setFlow_waiting {s : State} {lead : Nat} (h : s.n Obj.rxFlowState lead = 4) :
    s.setFlow lead 2 = ((((s.loseFlow lead).forwarders lead).foldl (fun u x => u.raise Ev.txOpaqueIdle x)
      (s.loseFlow lead)).refreshRxSlot lead) := by
  simp [State.setFlow, State.loseFlow, State.markFlow, h]

/-- The events of the flows that forward it, and of the slot that it feeds, come after its own (R103, R105). -/
theorem State.setFlow_lost {s : State} {lead : Nat} (h : s.n Obj.rxFlowState lead = 4) :
    Raised Ev.flowLost lead s (s.setFlow lead 2) := by
  have idle (t : State) (l : List Nat) : Raises [Ev.txOpaqueIdle] t (l.foldl (fun u x => u.raise Ev.txOpaqueIdle x) t) :=
    .foldl (fun u x => u.raise_raises Ev.txOpaqueIdle x) (.refl t)
  have time (t : State) (l : List Nat) : (l.foldl (fun u x => u.raise Ev.txOpaqueIdle x) t).ptp = t.ptp :=
    (Only.foldl (fun u x => u.raise_only Ev.txOpaqueIdle x) (.refl _ t)).ptp
  rw [State.setFlow_waiting h]
  exact ((s.loseFlow_raised lead).after (idle ..) (time ..)).after (State.refreshRxSlot_raises ..)
    (State.refreshRxSlot_only ..).ptp

/-- An entry that waits for its first packet (R103). -/
def RxEntry.Emptied (x : RxEntry) : Prop := x.buffer = [] ∧ x.ssrc = none

/-- An entry begins to wait. -/
def State.wait (s : State) (e : Nat) : State := (s.setRxe e ((s.rxe e).waiting s.ptp)).toDefault Obj.rxPdvHistogram e

theorem State.wait_only (s : State) (e : Nat) : Only ⟨[.media], [Obj.rxPdvHistogram], []⟩ s (s.wait e) :=
  (State.toDefault_only ..).seq (State.setRxe_only ..).up

theorem State.wait_empties {s : State} {k e : Nat} (h : e = k ∨ (s.rxe e).Emptied) : ((s.wait k).rxe e).Emptied := by
  rw [State.wait, (State.toDefault_only ..).rxe e]
  by_cases hk : e = k
  · rw [hk, State.rxe_setRxe]
    exact ⟨rfl, rfl⟩
  · rw [State.rxe_setRxe_ne _ _ _ _ hk]
    exact h.resolve_left hk

theorem State.foldl_wait_empties {l : List Nat} {s : State} {e : Nat} (h : e ∈ l ∨ (s.rxe e).Emptied) :
    ((l.foldl State.wait s).rxe e).Emptied := by
  induction l generalizing s with
  | nil => exact h.resolve_left List.not_mem_nil
  | cons k l ih =>
    refine ih (h.elim (fun m => ?_) fun x => .inr (State.wait_empties (.inr x)))
    exact (List.mem_cons.1 m).symm.imp_right fun hk => State.wait_empties (.inl hk)

theorem State.enterWaiting_eq (s : State) (lead : Nat) :
    s.enterWaiting lead = (Objs.rxPaths s.objs lead).foldl State.wait (s.setFlow lead 2) := rfl

/-- A flow that waits again: its state, its lead entry, and its event where it was RECEIVING (R103). -/
theorem State.enterWaiting_waits (s : State) (lead : Nat) :
    let t := s.enterWaiting lead
    t.n Obj.rxFlowState lead = 2 ∧ (t.rxe lead).Emptied ∧ (s.n Obj.rxFlowState lead = 4 → Raised Ev.flowLost lead s t) := by
  intro t
  have ht : t = (Objs.rxPaths s.objs lead).foldl State.wait (s.setFlow lead 2) := s.enterWaiting_eq lead
  have kept : Only ⟨[.media], [Obj.rxPdvHistogram], []⟩ (s.setFlow lead 2) t :=
    ht ▸ .foldl (fun u e => u.wait_only e) (.refl _ _)
  refine ⟨?_, ht ▸ State.foldl_wait_empties (.inl (Objs.lead_mem_rxPaths ..)), fun h => ?_⟩
  · rw [kept.n _ _, State.setFlow_state]
  · exact (State.setFlow_lost h).after (l := []) (.of_only kept) kept.ptp

end Sys2Proof.Machine
end

section
/-!
PROOFS. Receive flows: release, loss, merging, ancillary data and delay variation (R103, R107 to R109, R116, R118).
-/
namespace Sys2Proof.Machine
set_option Elab.async false

/-! ## Release -/

/-- The numbers skipped before a packet, and the paths on which it has not come, counted (R108). -/
def State.countLost (s : State) (e lost : Nat) (r : RxPkt) : State :=
  let paths := Objs.rxPaths s.objs e
  let t := if lost = 0 then s else
    paths.foldl (fun u k => u.bump Obj.rxPathLost k lost) (s.bump Obj.rxLostPackets e lost)
  paths.foldl (fun u k => if r.paths.contains k then u else u.bump Obj.rxPathLost k) t

/-- A packet leaves the buffer of its flow (R107). -/
def State.takeOut (s : State) (e due : Nat) (r : RxPkt) (rest : List RxPkt) : State :=
  let t := s.setRxe r.holder { s.rxe r.holder with occupancy := (s.rxe r.holder).occupancy - r.p.bytes }
  t.setRxe e { t.rxe e with buffer := rest, next := some (r.seq + 1), lastRelease := due }

/-- The lowest packet of a buffer is released (R107). -/
def State.rxRelease (s : State) (e due : Nat) (r : RxPkt) (rest : List RxPkt) : State :=
  let lost := (s.rxe e).next.elim 0 fun n => r.seq - n
  let t := ((s.countLost e lost r).takeOut e due r rest).deliver e due lost r
  t.setRxe e { t.rxe e with marker := r.p.marker }

theorem packetRelease_next {s : State} {dt e due : Nat} {r : RxPkt} {rest : List RxPkt} (on : s.on)
    (he : s.b Obj.rxEnable e = true) (hl : Objs.rxLeadEntry s.objs e = e) (hs : 3 ≤ s.n Obj.rxFlowState e)
    (hb : (s.rxe e).buffer = r :: rest) (hd : due = max (r.arrival + Objs.rxDelay s.objs e) (s.rxe e).lastRelease)
    (hp : due ≤ (s.tick dt).ptp) : exec (.packetRelease dt e) s = .next ((s.tick dt).rxRelease e due r rest) := by
  refine (actIf_next on.1 (by simp [on.2, he, hl, hs]) : execPacketRelease dt e s = _).trans (congrArg _ ?_)
  extract_lets x
  have hx : x.buffer = r :: rest := hb
  rw [hx]
  subst hd
  exact if_neg (Nat.not_lt.2 hp)

/-- The counter of a path alone. -/
abbrev pathLostReach : Reach :=
  ⟨[.out, .pinned, .ev, .flashJournal, .diskJournal],
    [Obj.rxPathLost, Obj.eventCount, Obj.eventLastAt, Obj.eventLastSubject], [0x40000004, 0x40000008]⟩

theorem State.countLost_counted (s : State) (e lost : Nat) (r : RxPkt) :
    Counted Obj.rxLostPackets e lost s (s.countLost e lost r) := by
  unfold State.countLost
  extract_lets paths t
  have counted : Counted Obj.rxLostPackets e lost s t := by
    by_cases h : lost = 0
    · rw [show t = s from if_pos h, h]
      exact .zero rfl
    · have each : Only pathLostReach (s.bump Obj.rxLostPackets e lost) t := by
        rw [show t = _ from if_neg h]
        exact .foldl (fun _ _ => State.bump_only ..) (.refl _ _)
      refine Counted.still ?_ each
      exact (State.bump_counts _ Obj.rxLostPackets ..).trans (if_neg h).symm
  refine counted.still (r := pathLostReach) (.foldl (fun u k => ?_) (.refl _ t))
  exact .ite (.refl _ u) (State.bump_only ..)

theorem State.takeOut_queue (s : State) (e due : Nat) (r : RxPkt) (rest : List RxPkt) :
    ((s.takeOut e due r rest).rxe e).queue = (rest, some (r.seq + 1), due) := by
  rw [State.takeOut, State.rxe_setRxe]

theorem State.takeOut_only (s : State) (e due : Nat) (r : RxPkt) (rest : List RxPkt) :
    Only ⟨[.media], [], []⟩ s (s.takeOut e due r rest) :=
  (State.setRxe_only ..).seq (State.setRxe_only ..)

/-- A release takes the packet out of the buffer and counts the numbers that it skips (R107, R108). -/
theorem State.rxRelease_releases (s : State) (e due : Nat) (r : RxPkt) (rest : List RxPkt) :
    let t := s.rxRelease e due r rest
    (t.rxe e).buffer = rest ∧ (t.rxe e).next = some (r.seq + 1) ∧ (t.rxe e).lastRelease = due ∧
      (t.rxe e).marker = r.p.marker ∧ Counted Obj.rxLostPackets e ((s.rxe e).next.elim 0 fun n => r.seq - n) s t := by
  intro t
  have ht : t = s.rxRelease e due r rest := rfl
  unfold State.rxRelease at ht
  extract_lets lost u at ht
  have hqueue : (u.rxe e).queue = (rest, some (r.seq + 1), due) :=
    ((State.deliver_rxKept ..).kept e).trans (State.takeOut_queue ..)
  obtain ⟨hbuffer, hnext, hlast⟩ :
      (u.rxe e).buffer = rest ∧ (u.rxe e).next = some (r.seq + 1) ∧ (u.rxe e).lastRelease = due := by
    simpa using hqueue
  have counted : Counted Obj.rxLostPackets e lost s u :=
    ((s.countLost_counted e lost r).still (State.takeOut_only ..)).still (State.deliver_only ..)
  rw [ht, State.rxe_setRxe]
  exact ⟨hbuffer, hnext, hlast, rfl, counted.still (State.setRxe_only ..)⟩

/-! ## Ancillary packets without a frame, and transits -/

theorem State.ancLost_counted (s : State) (e k : Nat) : Counted Obj.rxAncUnmatched e k s (s.ancLost e k) := by
  unfold State.ancLost
  by_cases h : k = 0
  · rw [if_pos h, h]
    exact .zero rfl
  · rw [if_neg h]
    refine Counted.still ?_ (State.raiseLimited_only ..)
    exact (State.bump_counts _ Obj.rxAncUnmatched ..).trans (if_neg h).symm

/-- Whether waiting packets have found no frame within two frame periods of their arrival (R116). -/
def State.ancOverdue (s : State) (e : Nat) (w : Nat × Nat × List Anc) : Bool :=
  w.1 + 2 * fmtPeriodNs (s.feedFormat (s.n Obj.rxTarget e) (Objs.feed s.objs (s.n Obj.rxTarget e))) ≤ s.ptp

/-- Such packets are dropped and counted. -/
def State.dropOverdue (s : State) (e : Nat) : State :=
  (s.setRxe e { s.rxe e with ancWait := (s.rxe e).ancWait.filter fun w => !s.ancOverdue e w }).ancLost e
    (((s.rxe e).ancWait.filter (s.ancOverdue e)).map fun w => w.2.2.length).sum

theorem State.dropOverdue_drops (s : State) (e : Nat) :
    let t := s.dropOverdue e
    (t.rxe e).ancWait = (s.rxe e).ancWait.filter (fun w => !s.ancOverdue e w) ∧
      Counted Obj.rxAncUnmatched e (((s.rxe e).ancWait.filter (s.ancOverdue e)).map fun w => w.2.2.length).sum s t ∧
      t.ptp = s.ptp := by
  refine ⟨?_, (State.ancLost_counted ..).from_same ((State.setRxe_only ..).n _ _), (State.ancLost_only ..).ptp⟩
  rw [State.dropOverdue, (State.ancLost_only ..).rxe e, State.rxe_setRxe]

/-- The largest of some transits less the smallest (R118). -/
def spread (l : List Int) : Nat := (l.foldl max (l.headD 0) - l.foldl min (l.headD 0)).toNat

theorem le_foldl_max {a b : Int} {l : List Int} (h : a ∈ l ∨ a ≤ b) : a ≤ l.foldl max b := by
  induction l generalizing b with
  | nil => exact h.resolve_left List.not_mem_nil
  | cons x l ih =>
    refine ih (h.elim (fun m => (List.mem_cons.1 m).symm.imp_right fun hx => ?_) fun hb => .inr (le_max_of_le_left hb))
    exact hx ▸ le_max_right ..

theorem foldl_min_le {a b : Int} {l : List Int} (h : a ∈ l ∨ b ≤ a) : l.foldl min b ≤ a := by
  induction l generalizing b with
  | nil => exact h.resolve_left List.not_mem_nil
  | cons x l ih =>
    refine ih (h.elim (fun m => (List.mem_cons.1 m).symm.imp_right fun hx => ?_) fun hb => .inr (min_le_of_left_le hb))
    exact hx ▸ min_le_right ..

/-- No two transits lie further apart than the spread. -/
theorem natAbs_sub_le_spread {a b : Int} {l : List Int} (ha : a ∈ l) (hb : b ∈ l) : (a - b).natAbs ≤ spread l := by
  have a_le : a ≤ l.foldl max (l.headD 0) := le_foldl_max (.inl ha)
  have b_le : b ≤ l.foldl max (l.headD 0) := le_foldl_max (.inl hb)
  have le_a : l.foldl min (l.headD 0) ≤ a := foldl_min_le (.inl ha)
  have le_b : l.foldl min (l.headD 0) ≤ b := foldl_min_le (.inl hb)
  unfold spread
  omega

/-- The oldest second of transits is over: they are taken from the entry, and their spread is recorded (R118). -/
def State.recordSecond (s : State) (e : Nat) : State :=
  let x := s.rxe e
  let k := (x.transits.headD (0, 0)).1
  let v := spread ((x.transits.filter fun a => a.1 == k).map (·.2))
  let u := s.setRxe e { x with transits := x.transits.filter fun a => a.1 != k }
  (u.setN Obj.rxPdvMax e (max (min v 0xFFFFFFFF) (u.n Obj.rxPdvMax e))).capture Obj.rxPdvHistogram e
    (Hist.fresh 1 100 0 x.waitingAt) v

theorem State.recordSecond_records (s : State) (e : Nat) {k : Nat} {v : Int} {rest : List (Nat × Int)}
    (h : (s.rxe e).transits = (k, v) :: rest) :
    let t := s.recordSecond e
    (t.rxe e).transits = rest.filter (fun a => a.1 != k) ∧
      t.n Obj.rxPdvMax e =
        max (min (spread (v :: (rest.filter fun a => a.1 == k).map (·.2))) 0xFFFFFFFF) (s.n Obj.rxPdvMax e) := by
  intro t
  have ht : t = s.recordSecond e := rfl
  unfold State.recordSecond at ht
  dsimp only at ht
  rw [h] at ht
  constructor
  · rw [ht, (State.capture_only ..).rxe e, (State.setN_only ..).rxe e, State.rxe_setRxe]
    simp
  · rw [ht, (State.capture_only ..).n _ _, State.n_setN_self]
    simp [(State.setRxe_only ..).n Obj.rxPdvMax e]

/-! ## The statement -/

/-- An entry changes, and an event says so. -/
theorem State.setRxe_raise (s : State) (e : Nat) (x : RxEntry) (src subj : Nat)
    (hp : src % 65536 ≠ Ev.counterPinned := by decide) :
    let t := (s.setRxe e x).raise src subj
    t.rxe e = x ∧ Raised src subj s t :=
  ⟨((State.raise_only ..).rxe e).trans (State.rxe_setRxe ..),
   (State.raise_raised _ src subj hp).before (l := []) (.of_only (State.setRxe_only ..)) (by simp) hp⟩

@[simp] theorem State.lossTimeout_tick (s : State) (dt e : Nat) : (s.tick dt).lossTimeout e = s.lossTimeout e := rfl

/-- Settles O38: each clause reads what its command leaves in the entry, and what follows leaves that as it was. -/
theorem mediaFlows : Obligations.MediaFlows := by
  unfold Obligations.MediaFlows
  refine ⟨?release, ?lost, ?pathLost, ?pathRestored, ?unmatched, ?second⟩
  case release =>
    intro s dt e r rest due on he hl hs hb hd hp
    exact ⟨_, packetRelease_next on he hl hs hb hd hp, (s.tick dt).rxRelease_releases e due r rest⟩
  case lost =>
    intro s dt e on he hl hs hp
    obtain ⟨state, ⟨buffer, ssrc⟩, raised⟩ := (s.tick dt).enterWaiting_waits e
    refine ⟨_, (actIf_next on.1 ?_ : execFlowLost dt e s = _), state, buffer, ssrc, raised⟩
    simp only [Bool.and_eq_true]
    exact ⟨⟨⟨⟨on.2, he⟩, beq_iff_eq.2 hl⟩, decide_eq_true hs⟩,
      List.all_eq_true.2 fun k hk => decide_eq_true (hp k hk)⟩
  case pathLost =>
    intro s dt e on hpair hup hdue
    obtain ⟨entry, raised⟩ := (s.tick dt).setRxe_raise e _ Ev.mergePathLost e
    exact ⟨_, (actIf_next on.1 (by simp [on.2, hpair, hup, hdue]) : execMergePathLost dt e s = _),
      congrArg RxEntry.pathUp entry, raised⟩
  case pathRestored =>
    intro s dt e a on hdown hfrom hsecond hdue
    obtain ⟨entry, raised⟩ := (s.tick dt).setRxe_raise e _ Ev.mergePathRestored e
    refine ⟨_, (actIf_next on.1 ?_ : execMergePathRestored dt e s = _), congrArg RxEntry.pathUp entry, raised⟩
    simp only [Bool.and_eq_true]
    refine ⟨⟨⟨on.2, hdown⟩, decide_eq_true hdue⟩, ?_⟩
    rw [State.rxe_tick, hfrom, Option.elim_some]
    exact decide_eq_true hsecond
  case unmatched =>
    intro s dt e on
    refine ⟨(s.tick dt).dropOverdue e, (actIf_next on.1 on.2 : execAncUnmatched dt e s = _), ?_⟩
    beta_reduce
    intro late
    obtain ⟨waits, counted, time⟩ := (s.tick dt).dropOverdue_drops e
    have same : late = (s.tick dt).ancOverdue e := by
      funext w
      simp only [late, time]
      rfl
    rw [same]
    exact ⟨waits, counted⟩
  case second =>
    intro s dt e k v rest on ht hk
    obtain ⟨transits, most⟩ := (s.tick dt).recordSecond_records e ht
    refine ⟨_, (actIf_next on.1 (by simp [on.2, ht, hk]) : execPdvSecond dt e s = _), transits, ?_, fun a ha hak => ?_⟩
    · exact (le_max_right ..).trans_eq most.symm
    · refine le_trans (min_le_min_right _ (natAbs_sub_le_spread ?_ List.mem_cons_self)) ((le_max_left ..).trans_eq most.symm)
      exact List.mem_cons_of_mem _ (List.mem_map_of_mem (List.mem_filter.2 ⟨ha, beq_iff_eq.2 hak⟩))

end Sys2Proof.Machine
end

section
/-!
SUPPORT. Frames and packets that arrive on media ports: what counts them, who takes them, and what a new flow begins with (R91 to
R93, R100, R104).
-/
namespace Sys2Proof.Machine
set_option Elab.async false

/-! ## Objects and addresses of a port -/

/-- A port object is that of network A or that of network B. -/
theorem portIdx_notMem {i : Nat} {l : List Nat} (port : Nat) (h : i ∉ l ∧ i + 0x20 ∉ l) : portIdx port i ∉ l := by
  unfold portIdx
  split
  · exact h.2
  · exact h.1

/-- A port object outside a reach reads as before, of whichever network the port is. -/
theorem Only.portObj {r : Reach} {s t : State} (h : Only r s t) (port i k : Nat) (hp : Part.objs ∉ r.parts := by decide)
    (hi : i ∉ r.objs ∧ i + 0x20 ∉ r.objs := by decide) : t.n (portIdx port i) k = s.n (portIdx port i) k :=
  h.n _ _ hp (portIdx_notMem port hi)

theorem Only.by {r : Reach} {s t : State} (h : Only r s t) (i k : Nat) (hp : Part.objs ∉ r.parts := by decide)
    (hi : i ∉ r.objs := by decide) : t.by i k = s.by i k := by
  show Val.toBytes _ = Val.toBytes _
  rw [h.obj hp _ (by rw [adrIndex_adr]; exact hi)]

theorem Only.rxLeadEntry {r : Reach} {s t : State} (h : Only r s t) (e : Nat) (hp : Part.objs ∉ r.parts := by decide)
    (hi : Obj.rxPartner ∉ r.objs ∧ Obj.rxEnable ∉ r.objs := by decide) :
    Objs.rxLeadEntry t.objs e = Objs.rxLeadEntry s.objs e := by
  have partner : Objs.n t.objs Obj.rxPartner e = Objs.n s.objs Obj.rxPartner e := h.n _ _ hp hi.1
  have enabled (k : Nat) : Objs.n t.objs Obj.rxEnable k = Objs.n s.objs Obj.rxEnable k := h.n _ _ hp hi.2
  unfold Objs.rxLeadEntry Objs.b
  dsimp only
  rw [partner, enabled]

/-- The counters of the frames that a port has accepted (R91), and those of events. -/
abbrev countRxReach : Reach :=
  ⟨[.out, .pinned, .ev, .flashJournal, .diskJournal],
    [Obj.portRxFrames, Obj.portRxFramesB, Obj.portRxBytes, Obj.portRxBytesB, Obj.eventCount, Obj.eventLastAt,
      Obj.eventLastSubject], [0x40000004, 0x40000008]⟩

section
variable {s t : State} (h : Only countRxReach s t)
include h

theorem portIndex_of_countRx (port : Nat) : Objs.portIndex t.objs port = Objs.portIndex s.objs port := by
  have split : Objs.n t.objs Obj.portCountA 0 = Objs.n s.objs Obj.portCountA 0 := h.n Obj.portCountA 0
  unfold Objs.portIndex
  rw [split]

theorem identityMac_of_countRx (port : Nat) : t.identityMac port = s.identityMac port := by
  have boot : t.boot = s.boot := h.same .boot
  have tw : t.tw = s.tw := h.same .tw
  unfold State.identityMac State.identityBase
  rw [h.by _ _ (hi := portIdx_notMem port (by decide)), h.by Obj.macBase 0, portIndex_of_countRx h, boot, tw]

theorem portMacNow_of_countRx (port : Nat) : t.portMacNow port = s.portMacNow port := by
  unfold State.portMacNow State.standby State.stationMac
  rw [h.n Obj.twinRole 0, h.by Obj.macBase 0, portIndex_of_countRx h, identityMac_of_countRx h]

theorem portAddrs_of_countRx (port : Nat) : t.portAddrs port = s.portAddrs port := by
  unfold State.portAddrs State.portN
  rw [h.portObj port Obj.portIpv4Addr, h.by _ _ (hi := portIdx_notMem port (by decide)), portMacNow_of_countRx h]

end

/-! ## Frames accepted (R91) -/

/-- A frame that a port has accepted is counted. -/
def State.countRx (s : State) (port bytes : Nat) : State :=
  (s.bump (portIdx port Obj.portRxFrames) (portNo port)).bump (portIdx port Obj.portRxBytes) (portNo port) bytes

/-- What a frame carries. -/
def State.takeBody (s : State) (port : Nat) (f : EthFrame) : State :=
  match f.body with
  | .rtp p => s.flowPacket port f.dstMac p
  | .udpOther => s.bump (portIdx port Obj.portRxDropNoFlow) (portNo port)
  | .arpRequest a => s.answer port a
  | .neighbourSolicitation a => s.answer port a
  | .resolution a mac => s.resolved port a mac
  | .membershipQuery mld v g => s.query port mld v g
  | .ptp d v6 m => (s.ptpMessage port d v6 m).delayReqs port d v6 m

/-- A port with a mode whose link is up. -/
structure RxPort (s : State) (port : Nat) : Prop where
  on : s.on
  mode : Objs.portMode s.objs port ≠ 0
  link : s.portN port Obj.portLinkState = 2

theorem RxPort.next {s : State} {port : Nat} (h : RxPort s port) (dt : Nat) (f : EthFrame) :
    exec (.mpFrameReceived dt port f) s = .next (
      if !(s.tick dt).frameTaken port f then (s.tick dt).bump (portIdx port Obj.portRxDropBad) (portNo port)
      else ((s.tick dt).countRx port f.bytes).takeBody port f) := by
  obtain ⟨⟨awake, live⟩, mode, link⟩ := h
  have link' : (s.tick dt).portN port Obj.portLinkState = 2 := link
  exact (actIf_next awake (by simp [live, mode, link']) : execMpFrameReceived dt port f s = _)

theorem RxPort.refuses {s : State} {port : Nat} (h : RxPort s port) (dt : Nat) {f : EthFrame}
    (hf : s.frameTaken port f = false) :
    exec (.mpFrameReceived dt port f) s = .next ((s.tick dt).bump (portIdx port Obj.portRxDropBad) (portNo port)) := by
  have refused : (s.tick dt).frameTaken port f = false := hf
  rw [h.next, refused]
  rfl

theorem RxPort.accepts {s : State} {port : Nat} (h : RxPort s port) (dt : Nat) {f : EthFrame}
    (hf : s.frameTaken port f = true) :
    exec (.mpFrameReceived dt port f) s = .next (((s.tick dt).countRx port f.bytes).takeBody port f) := by
  have accepted : (s.tick dt).frameTaken port f = true := hf
  rw [h.next, accepted]
  rfl

theorem portIdx_not_event (port i : Nat) (h : i ∉ eventObjs ∧ i + 0x20 ∉ eventObjs := by decide) :
    portIdx port i ≠ Obj.eventCount ∧ portIdx port i ≠ Obj.eventLastAt ∧ portIdx port i ≠ Obj.eventLastSubject := by
  simpa using portIdx_notMem port h

theorem State.bumpPort_counted (s : State) (port i : Nat) (h : i ∉ eventObjs ∧ i + 0x20 ∉ eventObjs := by decide) :
    Counted (portIdx port i) (portNo port) 1 s (s.bump (portIdx port i) (portNo port)) :=
  s.bump_counted _ _ (portIdx_not_event port i h)

/-- The counter of a port object alone. -/
theorem State.bumpPort_only (s : State) (port i by_ : Nat) :
    Only ⟨[.out, .pinned, .ev, .flashJournal, .diskJournal],
      [i, i + 0x20, Obj.eventCount, Obj.eventLastAt, Obj.eventLastSubject], [0x40000004, 0x40000008]⟩
      s (s.bump (portIdx port i) (portNo port) by_) :=
  (State.bump_only ..).up (by unfold portIdx; split <;> simp [Reach.le])

theorem State.countRx_only (s : State) (port bytes : Nat) : Only countRxReach s (s.countRx port bytes) :=
  (State.bumpPort_only ..).seq (State.bumpPort_only ..).up

theorem State.countRx_counted (s : State) (port bytes : Nat) :
    Counted (portIdx port Obj.portRxFrames) (portNo port) 1 s (s.countRx port bytes) :=
  (s.bumpPort_counted port Obj.portRxFrames).still (State.bumpPort_only ..) (hi := portIdx_notMem port (by decide))

theorem State.countRx_subs (s : State) (port bytes : Nat) :
    Objs.subs (s.countRx port bytes).objs Obj.rxEnable = Objs.subs s.objs Obj.rxEnable := by
  have other (i : Nat) (h : i ∉ [Obj.rxEnable] ∧ i + 0x20 ∉ [Obj.rxEnable]) (u : State) (by_ : Nat) :
      Objs.subs (u.bump (portIdx port i) (portNo port) by_).objs Obj.rxEnable = Objs.subs u.objs Obj.rxEnable := by
    refine (u.bump_subsKept _ _ by_).kept _ fun m => ?_
    rcases List.mem_cons.1 m with m | m
    · exact portIdx_notMem port h (List.mem_singleton.2 m.symm)
    · exact absurd m (by decide)
  exact (other Obj.portRxBytes (by decide) _ bytes).trans (other Obj.portRxFrames (by decide) s 1)

/-- What a frame carries leaves the count of frames. -/
theorem State.takeBody_counted {s t : State} {port k : Nat} {f : EthFrame}
    (h : Counted (portIdx port Obj.portRxFrames) k 1 s t) :
    Counted (portIdx port Obj.portRxFrames) k 1 s (t.takeBody port f) := by
  have frames {l : List Nat} (hl : Obj.portRxFrames ∉ l ∧ Obj.portRxFrames + 0x20 ∉ l := by decide) :
      portIdx port Obj.portRxFrames ∉ l := portIdx_notMem port hl
  unfold State.takeBody
  split
  · exact h.still (State.flowPacket_only ..) (hi := frames)
  · exact h.still (State.bumpPort_only ..) (hi := frames)
  · exact h.still (State.answer_only ..) (hi := frames)
  · exact h.still (State.answer_only ..) (hi := frames)
  · exact h.still (State.resolved_only ..) (hi := frames)
  · exact h.still (State.query_only ..) (hi := frames)
  · exact (h.still (State.ptpMessage_only ..) (hi := frames)).still (State.delayReqs_only ..) (hi := frames)

/-! ## The entry that takes a packet (R93, R100) -/

/-- The entries in force and those that salvos have pre-joined, in the order in which `State.rxTaker` asks them, each with the
changes of its salvo. -/
def State.takers (s : State) (port : Nat) (p : Rtp) : List (List Change × Nat × Bool) :=
  let now := Objs.rxEntries s.objs
  let goesOn := fun e => now.contains e && (Objs.rxMatch s.objs port p true e || Objs.rxMatch s.objs port p false e)
  now.map (fun e => ([], e, true)) ++ ((s.ce.salvos.flatMap fun x => x.2.prejoined.map fun e => (x.2.changes, e)).filter
    fun x => !goesOn x.2).map fun x => (x.1, x.2, false)

/-- Whether an entry of `State.takers` matches a packet. -/
def Objs.takes (c : Objs) (port : Nat) (p : Rtp) (specific : Bool) (x : List Change × Nat × Bool) : Bool :=
  Objs.rxMatch (Objs.overlay c x.1) port p specific x.2.1

theorem State.rxTaker_entry (s : State) (port : Nat) (p : Rtp) :
    (s.rxTaker port p).map (·.2) =
      (((s.takers port p).find? (Objs.takes s.objs port p true)).or
        ((s.takers port p).find? (Objs.takes s.objs port p false))).map (·.2) := by
  unfold State.rxTaker
  extract_lets now goesOn all
  have listed : all = (s.takers port p).map fun x => (Objs.overlay s.objs x.1, x.2) := by
    simp only [all, State.takers, State.prejoined, List.map_append, List.map_map, List.filter_map, List.filter_flatMap,
      List.map_flatMap]
    rfl
  rw [listed, List.find?_map, List.find?_map]
  have takes (b : Bool) : ((fun x => Objs.rxMatch x.1 port p b x.2.1) ∘ fun x : List Change × Nat × Bool =>
      (Objs.overlay s.objs x.1, x.2)) = Objs.takes s.objs port p b := rfl
  rw [takes, takes]
  cases (s.takers port p).find? (Objs.takes s.objs port p true) with
  | some x => rfl
  | none => cases (s.takers port p).find? (Objs.takes s.objs port p false) <;> rfl

theorem Objs.val_overlay_congr {c c' : Objs} {a : Nat} (l : List Change) (h : Objs.val c' a = Objs.val c a) :
    Objs.val (Objs.overlay c' l) a = Objs.val (Objs.overlay c l) a := by
  unfold Objs.overlay
  induction l generalizing c c' with
  | nil => exact h
  | cons x l ih =>
    refine ih ?_
    rw [Objs.val_set, Objs.val_set, h]

/-- The objects of a match key (R93). -/
abbrev keyObjs : List Nat := [Obj.rxPort, Obj.rxDstAddr, Obj.rxUdpPort, Obj.rxSrcFilter]

theorem Objs.rxMatch_congr {c c' : Objs} (h : ∀ i ∈ keyObjs, ∀ k, Objs.val c' (adr i k) = Objs.val c (adr i k))
    (l : List Change) (port : Nat) (p : Rtp) (specific : Bool) (e : Nat) :
    Objs.rxMatch (Objs.overlay c' l) port p specific e = Objs.rxMatch (Objs.overlay c l) port p specific e := by
  have key : Objs.rxKey (Objs.overlay c' l) e = Objs.rxKey (Objs.overlay c l) e := by
    have val (i : Nat) (hi : i ∈ keyObjs) := Objs.val_overlay_congr l (h i hi e)
    simp only [Objs.rxKey, Objs.n, Objs.by, val Obj.rxPort (by decide), val Obj.rxDstAddr (by decide),
      val Obj.rxUdpPort (by decide), val Obj.rxSrcFilter (by decide)]
  unfold Objs.rxMatch
  rw [key]

/-- The count of a frame leaves who takes a packet. -/
theorem State.rxTaker_countRx (s : State) (port bytes q : Nat) (p : Rtp) :
    ((s.countRx port bytes).rxTaker q p).map (·.2) = (s.rxTaker q p).map (·.2) := by
  have kept := s.countRx_only port bytes
  have hmatch := Objs.rxMatch_congr (c := s.objs) (c' := (s.countRx port bytes).objs) fun i hi k =>
    kept.obj (by decide) _ (by rw [adrIndex_adr]; revert i; decide)
  have entries : Objs.rxEntries (s.countRx port bytes).objs = Objs.rxEntries s.objs := by
    unfold Objs.rxEntries Objs.b
    rw [s.countRx_subs]
    exact List.filter_congr fun e _ => congrArg (· != 0) (kept.n Obj.rxEnable e)
  have takes (b : Bool) : Objs.takes (s.countRx port bytes).objs q p b = Objs.takes s.objs q p b :=
    funext fun x => hmatch x.1 q p b x.2.1
  have takers : (s.countRx port bytes).takers q p = s.takers q p := by
    unfold State.takers
    rw [entries, kept.ceSalvos]
    simp only [show ∀ b e, Objs.rxMatch (s.countRx port bytes).objs q p b e = Objs.rxMatch s.objs q p b e from
      fun b e => hmatch [] q p b e]
  rw [State.rxTaker_entry, State.rxTaker_entry, takers, takes, takes]

/-! ## Packets of flows (R92, R93, R104) -/

theorem State.flowPacket_taken {s : State} {port e : Nat} {mac : List Byte} {p : Rtp}
    (ht : (s.rxTaker port p).map (·.2) = some (e, true))
    (hd : multicast p.dst = true ∨ mac = s.portMacNow port ∧ p.dst ∈ s.portAddrs port) :
    s.flowPacket port mac p = s.receive e p := by
  obtain ⟨⟨c, e', b⟩, htaker, hx⟩ := Option.map_eq_some_iff.1 ht
  obtain ⟨rfl, rfl⟩ : e' = e ∧ b = true := by simpa using hx
  unfold State.flowPacket
  extract_lets ok
  have hok : ok = true := by simpa [ok] using hd
  rw [hok, if_pos rfl, htaker]

theorem State.flowPacket_dropped {s : State} {port : Nat} {mac : List Byte} {p : Rtp}
    (h : s.rxTaker port p = none ∨ multicast p.dst = false ∧ (mac ≠ s.portMacNow port ∨ p.dst ∉ s.portAddrs port)) :
    s.flowPacket port mac p = s.bump (portIdx port Obj.portRxDropNoFlow) (portNo port) := by
  unfold State.flowPacket
  extract_lets ok
  have none : (if ok = true then s.rxTaker port p else none) = none := by
    rcases h with h | ⟨hm, h⟩
    · rw [h, ite_self]
    · refine if_neg ?_
      simp only [ok, hm, Bool.false_or, Bool.and_eq_true, beq_iff_eq, List.contains_iff_mem]
      exact fun ⟨hmac, hdst⟩ => h.elim (· hmac) (· hdst)
  rw [none]

/-- The count of a frame leaves what becomes of its packet: an entry takes it. -/
theorem State.countRx_flowPacket_taken {s : State} {port e : Nat} (bytes : Nat) {mac : List Byte} {p : Rtp}
    (ht : (s.rxTaker port p).map (·.2) = some (e, true))
    (hd : multicast p.dst = true ∨ mac = s.portMacNow port ∧ p.dst ∈ s.portAddrs port) :
    (s.countRx port bytes).flowPacket port mac p = (s.countRx port bytes).receive e p := by
  have kept := s.countRx_only port bytes
  refine State.flowPacket_taken ((s.rxTaker_countRx ..).trans ht) ?_
  rwa [portMacNow_of_countRx kept, portAddrs_of_countRx kept]

/-- Or it is dropped. -/
theorem State.countRx_flowPacket_dropped {s : State} {port : Nat} (bytes : Nat) {mac : List Byte} {p : Rtp}
    (h : s.rxTaker port p = none ∨ multicast p.dst = false ∧ (mac ≠ s.portMacNow port ∨ p.dst ∉ s.portAddrs port)) :
    (s.countRx port bytes).flowPacket port mac p =
      (s.countRx port bytes).bump (portIdx port Obj.portRxDropNoFlow) (portNo port) := by
  have kept := s.countRx_only port bytes
  refine State.flowPacket_dropped (h.imp (fun none => ?_) fun other => ?_)
  · have same := s.rxTaker_countRx port bytes port p
    rw [none] at same
    exact Option.map_eq_none_iff.1 same
  · rwa [portMacNow_of_countRx kept, portAddrs_of_countRx kept]

/-- The number of an accepted packet (R106). -/
def State.pktNumber (s : State) (lead e : Nat) (p : Rtp) : Nat :=
  let m := seqSpan (s.n Obj.rxEssence e)
  if s.n Obj.rxFlowState lead = 2 then p.seq % m + m else extendSeq m (s.rxe lead).high p.seq

/-- An accepted packet gives its flow the SSRC, and starts one that waits (R103, R104). -/
def State.meetFlow (s : State) (lead e : Nat) (p : Rtp) : State :=
  let t := s.setRxe lead { s.rxe lead with ssrc := some p.ssrc, high := max (s.pktNumber lead e p) (s.rxe lead).high }
  let t := if s.n Obj.rxFlowState lead = 2 then
      t.setFlow lead (if [1, 5].contains (t.n Obj.rxEssence lead) then 3 else 4)
    else t
  if t.n Obj.rxEssence lead = 5 && p.sav && t.n Obj.rxFlowState lead = 3 then t.setFlow lead 4 else t

/-- A copy of a number is counted and measured, and goes into the buffer where it is the first (R106 to R111, R118, R119). -/
def State.takeCopy (s : State) (lead e q : Nat) (p : Rtp) : State :=
  let t := s.bump Obj.rxPackets e
  let n := (t.rxe e).meetNumber q
  let t := t.setRxe e n.1
  let t := if n.2 then t.bump Obj.rxOutOfOrder e else t
  let t := (t.measureTransit e q p).measurePair lead e q
  let late := (t.rxe lead).next.elim false fun n => q < n
  let t := t.pathCopy e !late
  if late then
    let u := t.bump Obj.rxLatePackets e
    if (Objs.rxPaths u.objs lead).length = 1 then u else u.raiseLimited Ev.mergeLate lead lead
  else if (t.rxe lead).buffer.any fun r => r.seq == q then
    let x := t.rxe lead
    (t.setRxe lead { x with buffer := x.buffer.map fun r =>
      if r.seq = q && !r.paths.contains e then { r with paths := e :: r.paths } else r }).bump Obj.rxDuplicates e
  else t.bufferCopy lead e q p

theorem State.acceptPkt_eq (s : State) (lead e : Nat) (p : Rtp) :
    s.acceptPkt lead e p = (s.meetFlow lead e p).takeCopy lead e (s.pktNumber lead e p) p := rfl

/-- What the copies of a flow's numbers change. -/
abbrev copyReach : Reach :=
  ⟨[.out, .pinned, .ev, .flashJournal, .media, .diskJournal],
    [Obj.rxPackets, Obj.rxOutOfOrder, Obj.rxSkewMin, Obj.rxSkewMax, Obj.rxLatePackets, Obj.rxDuplicates, Obj.rxAncUnmatched,
      Obj.rxBufferOverrun, Obj.rxPeakOccupancy, Obj.eventCount, Obj.eventLastAt, Obj.eventLastSubject], [0x40000004, 0x40000008]⟩

theorem State.takeCopy_only (s : State) (lead e q : Nat) (p : Rtp) : Only copyReach s (s.takeCopy lead e q p) := by
  unfold State.takeCopy
  extract_lets t1 n t2 t3 t4 late t5 u x
  have h1 : Only copyReach s t1 := (State.bump_only ..).up
  have h2 : Only copyReach s t2 := (State.setRxe_only ..).seq h1
  have h3 : Only copyReach s t3 := .ite ((State.bump_only ..).seq h2) h2
  have h4 : Only copyReach s t4 := (State.measurePair_only ..).seq ((State.measureTransit_only ..).seq h3)
  have h5 : Only copyReach s t5 := (State.pathCopy_only ..).seq h4
  have hu : Only copyReach s u := (State.bump_only ..).seq h5
  exact .ite (.ite hu ((State.raiseLimited_only ..).seq hu))
    (.ite ((State.bump_only ..).seq ((State.setRxe_only ..).seq h5)) ((State.bufferCopy_only ..).seq h5))

/-- The copies of its numbers leave the SSRC of a flow. -/
theorem State.takeCopy_rxKept (s : State) (lead e q : Nat) (p : Rtp) :
    RxKept RxEntry.ssrc s (s.takeCopy lead e q p) := by
  unfold State.takeCopy
  extract_lets t1 n t2 t3 t4 late t5 u x
  have h1 : RxKept RxEntry.ssrc s t1 := .of_only (State.bump_only ..)
  have h2 : RxKept RxEntry.ssrc s t2 := (State.setRxe_rxKept _ _ _ (RxEntry.meetNumber_ssrc ..)).seq h1
  have h3 : RxKept RxEntry.ssrc s t3 := .ite (.still (State.bump_only ..) h2) h2
  have h4 : RxKept RxEntry.ssrc s t4 := (State.measurePair_rxKept ..).seq ((State.measureTransit_rxKept ..).seq h3)
  have h5 : RxKept RxEntry.ssrc s t5 := (State.pathCopy_rxKept ..).seq h4
  have hu : RxKept RxEntry.ssrc s u := .still (State.bump_only ..) h5
  exact .ite (.ite hu (.still (State.raiseLimited_only ..) hu))
    (.ite (.still (State.bump_only ..) ((State.setRxe_rxKept ..).seq h5)) ((State.bufferCopy_rxKept ..).seq h5))

theorem State.meetFlow_ssrc (s : State) (lead e : Nat) (p : Rtp) : ((s.meetFlow lead e p).rxe lead).ssrc = some p.ssrc := by
  unfold State.meetFlow
  extract_lets x t1 t2
  have h2 : RxKept RxEntry.ssrc t1 t2 := .ite (.of_only (State.setFlow_only ..)) (.refl t1)
  have all : RxKept RxEntry.ssrc t1 (s.meetFlow lead e p) := .ite (.still (State.setFlow_only ..) h2) h2
  exact (all.kept lead).trans (by rw [State.rxe_setRxe])

/-- The state that the first packet of a waiting flow gives it (R103): video begins to synchronise, an ST2022_6 signal with its
first SAV at once. -/
theorem State.meetFlow_state {s : State} {lead : Nat} (e : Nat) (p : Rtp) (h : s.n Obj.rxFlowState lead = 2) :
    (s.meetFlow lead e p).n Obj.rxFlowState lead =
      if s.n Obj.rxEssence lead = 1 ∨ s.n Obj.rxEssence lead = 5 ∧ p.sav = false then 3 else 4 := by
  unfold State.meetFlow
  extract_lets x t1 t2
  have h2 : t2 = t1.setFlow lead (if [1, 5].contains (t1.n Obj.rxEssence lead) then 3 else 4) := if_pos h
  have essence : t2.n Obj.rxEssence lead = s.n Obj.rxEssence lead := by
    rw [h2, (State.setFlow_only ..).n _ _]
    rfl
  have state : t2.n Obj.rxFlowState lead = if s.n Obj.rxEssence lead = 1 ∨ s.n Obj.rxEssence lead = 5 then 3 else 4 := by
    rw [h2, State.setFlow_state]
    simp [show t1.n Obj.rxEssence lead = s.n Obj.rxEssence lead from rfl]
  rw [essence, state]
  by_cases video : s.n Obj.rxEssence lead = 1
  · simp [video, state]
  · by_cases sdi : s.n Obj.rxEssence lead = 5
    · cases hsav : p.sav
      · simp [sdi, state]
      · simp [sdi, State.setFlow_state]
    · simp [video, sdi, state]

/-- A packet of a waiting flow gives it the SSRC and starts it (R103, R104). -/
theorem State.receive_starts {s : State} {e lead : Nat} {p : Rtp} (hl : lead = Objs.rxLeadEntry s.objs e)
    (hp : p.payloadType = s.n Obj.rxPayloadType e) (hs : s.n Obj.rxFlowState lead = 2) :
    ((s.receive e p).rxe lead).ssrc = some p.ssrc ∧ (s.receive e p).n Obj.rxFlowState lead =
      if s.n Obj.rxEssence lead = 1 ∨ s.n Obj.rxEssence lead = 5 ∧ p.sav = false then 3 else 4 := by
  subst hl
  have accepted : s.receive e p = s.acceptPkt (Objs.rxLeadEntry s.objs e) e p := by simp [State.receive, hp, hs]
  rw [accepted, State.acceptPkt_eq]
  exact ⟨((State.takeCopy_rxKept ..).kept _).trans (State.meetFlow_ssrc ..),
    ((State.takeCopy_only ..).n _ _).trans (State.meetFlow_state e p hs)⟩

end Sys2Proof.Machine
end

section
/-!
PROOFS. Media ports: frames received, link states and reports (R90 to R93, R99, R101 to R103).
-/
namespace Sys2Proof.Machine
set_option Elab.async false

/-! ## Link states (R90) -/

/-- A port's link in a state, with its event. -/
def State.setLink (s : State) (port st event : Nat) : State :=
  ((s.setN (portIdx port Obj.portLinkState) (portNo port) st).raise event port).refreshTxPort port

theorem State.setLink_sets (s : State) (port st event : Nat) (hc : event % 65536 ≠ Ev.counterPinned := by decide)
    (hl : event % 65536 ∉ txEvents := by decide) :
    (s.setLink port st event).portN port Obj.portLinkState = st ∧ Raised event port s (s.setLink port st event) := by
  have set := State.setN_only s (portIdx port Obj.portLinkState) (portNo port) st
  constructor
  · rw [State.portN, State.setLink, (State.refreshTxPort_only ..).portObj port Obj.portLinkState,
      (State.raise_only ..).portObj port Obj.portLinkState, State.n_setN_self]
  · have quiet : Raises [] s (s.setN (portIdx port Obj.portLinkState) (portNo port) st) :=
      .of_only set (by simp) fun i hi => by
        have := portIdx_notMem port (i := Obj.portLinkState) (l := eventObjs) (by decide)
        simp only [List.mem_singleton]
        exact fun e => this (e ▸ hi)
    exact (((State.raise_raised _ _ _ hc).before quiet (by simp) hc).after (State.refreshTxPort_raises ..)
      (State.refreshTxPort_only ..).ptp hl hc)

/-! ## Messages -/

theorem State.sendArp_sends {s : State} {port : Nat} (h : s.portN port Obj.portLinkState = 2) (kind : Nat)
    (addr mac dst : List Byte) : Out.arp port kind addr mac dst ∈ (s.sendArp port kind addr mac dst).out := by
  unfold State.sendArp
  extract_lets tag
  rw [if_neg (by simpa using h)]
  exact State.mem_emit ..

/-- A request for an own address is answered with the identity address (R92). -/
theorem State.answer_answers {s t : State} {port : Nat} {a : List Byte} (kept : Only countRxReach s t) (hs : s.standby = false)
    (hl : s.portN port Obj.portLinkState = 2) (ha : a ∈ s.portAddrs port) :
    Out.arp port 1 a (s.identityMac port) [] ∈ (t.answer port a).out := by
  have active : t.standby = false := (congrArg (· == 2) (kept.n Obj.twinRole 0)).trans hs
  have own : a ∈ t.portAddrs port := portAddrs_of_countRx kept port ▸ ha
  have link : t.portN port Obj.portLinkState = 2 := (kept.portObj ..).trans hl
  have sent := State.sendArp_sends link 1 a (t.identityMac port) []
  rw [identityMac_of_countRx kept] at sent
  simpa [State.answer, active, own, identityMac_of_countRx kept] using sent

/-- A report of a group leaves a port whose link is up, unless it speaks IGMPv1 to a group that it leaves (R99). -/
theorem State.report_sends {s : State} {port : Nat} {r : List Byte × Bool × List (List Byte)}
    (hl : s.portN port Obj.portLinkState = 2) (hv : r.1.length = 16 ∨ s.groupVersion port false ≠ 1) :
    ∃ version exclude sources src,
      Out.membership port version r.1 exclude sources src 48 true ∈ (s.report port r).out := by
  unfold State.report
  extract_lets v6 compat version left sources
  have older : (left && !v6 && decide (version = 1)) = false := by
    rcases hv with hv | hv
    · simp [v6, hv]
    · cases h6 : v6
      · simp [version, h6, hv]
      · simp
  rw [if_pos (by simp [hl, older])]
  exact ⟨_, _, _, _, State.mem_emit ..⟩

theorem State.report_port (s : State) (port q : Nat) (r : List Byte × Bool × List (List Byte)) :
    (s.report port r).port q = s.port q := by
  rw [State.port, (State.report_only ..).media, State.port]

/-- What a port still has to repeat after one more report of a group (R101). -/
def MediaPort.repeated (x : MediaPort) (g : List Byte) (left next : Nat) : MediaPort :=
  let rest := x.reports.filter fun q => q.1 != g
  { x with reports := if left ≤ 1 then rest else rest ++ [(g, left - 1, next)] }

theorem MediaPort.repeated_last {x : MediaPort} {g : List Byte} {left : Nat} (next : Nat) (h : left ≤ 1) :
    ∀ q ∈ (x.repeated g left next).reports, q.1 ≠ g := by
  intro q hq
  have hr : q ∈ x.reports.filter fun q => q.1 != g := by simpa [MediaPort.repeated, h] using hq
  simpa using (List.mem_filter.1 hr).2

/-- The record that a port holds for a group, or that it holds none. -/
def MediaPort.record (x : MediaPort) (g : List Byte) : List Byte × Bool × List (List Byte) :=
  (x.records.find? fun r => r.1 == g).getD (g, false, [])

theorem MediaPort.record_group (x : MediaPort) (g : List Byte) : (x.record g).1 = g := by
  unfold MediaPort.record
  cases h : x.records.find? fun r => r.1 == g with
  | none => rfl
  | some r => simpa using List.find?_some h

/-- A due report goes out again (R101). -/
def State.repeatReport (s : State) (port : Nat) (g : List Byte) (left a : Nat) : State :=
  (s.setPort port ((s.port port).repeated g left (a + s.portN port Obj.portReportInterval * 1000000))).report port
    ((s.port port).record g)

theorem reportRetransmit_next {s : State} {dt port left a : Nat} {g : List Byte} (on : s.on)
    (hf : (s.port port).reports.find? (fun q => q.1 == g) = some (g, left, a)) (ha : a ≤ (s.tick dt).ptp) :
    exec (.reportRetransmit dt port g) s = .next ((s.tick dt).repeatReport port g left a) := by
  refine (actIf_next on.1 on.2 : execReportRetransmit dt port g s = _).trans (congrArg _ ?_)
  extract_lets x
  have hx : x.reports.find? (fun q => q.1 == g) = some (g, left, a) := hf
  rw [hx]
  exact if_neg (Nat.not_lt.2 ha)

theorem State.groupVersion_repeated (s : State) (port : Nat) (g : List Byte) (left next : Nat) (v6 : Bool) :
    (s.setPort port ((s.port port).repeated g left next)).groupVersion port v6 = s.groupVersion port v6 := by
  unfold State.groupVersion
  rw [State.port_setPort]
  rfl

theorem State.repeatReport_repeats {s : State} {port left a : Nat} {g : List Byte}
    (hl : s.portN port Obj.portLinkState = 2) (hv : g.length = 16 ∨ s.groupVersion port false ≠ 1) :
    let t := s.repeatReport port g left a
    (∃ version exclude sources src, Out.membership port version g exclude sources src 48 true ∈ t.out) ∧
      (left ≤ 1 → ∀ q ∈ (t.port port).reports, q.1 ≠ g) := by
  let u := s.setPort port ((s.port port).repeated g left (a + s.portN port Obj.portReportInterval * 1000000))
  have group := (s.port port).record_group g
  have sent := State.report_sends (s := u) (r := (s.port port).record g) hl (by rwa [group, State.groupVersion_repeated])
  rw [group] at sent
  refine ⟨sent, fun last => ?_⟩
  rw [State.repeatReport, State.report_port, State.port_setPort]
  exact MediaPort.repeated_last _ last

/-! ## The statement -/

/-- Settles O37: a frame is counted before what it carries acts, which leaves that count; a flow, a link and a report read what
their own operation has left. -/
theorem mediaReceives : Obligations.MediaReceives := by
  unfold Obligations.MediaReceives
  refine ⟨?bad, ?counted, ?starts, ?noFlow, ?answered, ?up, ?down, ?repeated⟩
  case bad =>
    intro s dt port f on hm hl hf
    exact ⟨_, RxPort.refuses ⟨on, hm, hl⟩ dt hf, (s.tick dt).bumpPort_counted port Obj.portRxDropBad⟩
  case counted =>
    intro s dt port f on hm hl hf
    exact ⟨_, RxPort.accepts ⟨on, hm, hl⟩ dt hf, State.takeBody_counted ((s.tick dt).countRx_counted port f.bytes)⟩
  case starts =>
    intro s dt port f p e lead on hm hl hf hb ht hd hlead hp hs
    have kept := (s.tick dt).countRx_only port f.bytes
    refine ⟨_, RxPort.accepts ⟨on, hm, hl⟩ dt hf, ?_⟩
    rw [State.takeBody, hb]
    dsimp only
    rw [State.countRx_flowPacket_taken (s := s.tick dt) f.bytes ht hd]
    obtain ⟨ssrc, state⟩ := State.receive_starts (hlead.trans (kept.rxLeadEntry e).symm)
      (hp.trans (kept.n Obj.rxPayloadType e).symm) ((kept.n Obj.rxFlowState lead).trans hs)
    rw [kept.n Obj.rxEssence lead] at state
    exact ⟨ssrc, state⟩
  case noFlow =>
    intro s dt port f p on hm hl hf hb hd
    have kept := (s.tick dt).countRx_only port f.bytes
    refine ⟨_, RxPort.accepts ⟨on, hm, hl⟩ dt hf, ?_⟩
    rw [State.takeBody, hb]
    dsimp only
    rw [State.countRx_flowPacket_dropped (s := s.tick dt) f.bytes hd]
    exact (State.bumpPort_counted ..).from_same (kept.portObj port Obj.portRxDropNoFlow (portNo port))
  case answered =>
    intro s dt port f a on hm hl hactive hf hb ha
    have kept := (s.tick dt).countRx_only port f.bytes
    refine ⟨_, RxPort.accepts ⟨on, hm, hl⟩ dt hf, ?_⟩
    rw [State.takeBody, hb]
    exact State.answer_answers (s := s.tick dt) kept hactive hl ha
  case up =>
    intro s dt port on hm hl
    have down : (s.tick dt).portN port Obj.portLinkState ≠ 2 := hl
    exact ⟨_, (actIf_next on.1 (by simp [on.2, hm, down]) : execMpLinkUp dt port s = _),
      (s.tick dt).setLink_sets port 2 Ev.mpLinkUp⟩
  case down =>
    intro s dt port on hm hl
    have up : (s.tick dt).portN port Obj.portLinkState = 2 := hl
    exact ⟨_, (actIf_next on.1 (by simp [on.2, hm, up]) : execMpLinkDown dt port s = _),
      (s.tick dt).setLink_sets port 0 Ev.mpLinkDown⟩
  case repeated =>
    intro s dt port g left a on hf ha hl hv
    exact ⟨_, reportRetransmit_next on hf ha, State.repeatReport_repeats (s := s.tick dt) hl hv⟩

end Sys2Proof.Machine
end

section
/-!
SUPPORT. What the parts of a read start leave of the destination slots (R163 to R174, R252).
-/
namespace Sys2Proof.Machine
set_option Elab.async false

theorem Only.dst {r : Reach} {s t : State} (h : Only r s t) (hp : Part.ridge ∉ r.parts := by decide) : t.dst = s.dst := by
  have e : t.ridge = s.ridge := h.same .ridge hp
  funext d
  simp only [State.dst, e]

/-! ## Updates that leave every destination slot -/

@[simp] theorem State.dst_setN (s : State) (i k v : Nat) : (s.setN i k v).dst = s.dst := rfl

@[simp] theorem State.dst_setBy (s : State) (i k : Nat) (v : List Byte) : (s.setBy i k v).dst = s.dst := rfl

@[simp] theorem State.dst_draw (s : State) : s.draw.2.dst = s.dst := rfl

@[simp] theorem State.dst_setSrc (s : State) (slot : Nat) (x : SrcSlot) : (s.setSrc slot x).dst = s.dst := rfl

@[simp] theorem State.dst_raise (s : State) (src subj : Nat) : (s.raise src subj).dst = s.dst := (State.raise_only ..).dst

@[simp] theorem State.dst_bump (s : State) (i k by_ : Nat) : (s.bump i k by_).dst = s.dst :=
  (State.bump_only ..).dst (by simp)

@[simp] theorem State.dst_slip (s : State) (d slot n : Nat) : (s.slip d slot n).dst = s.dst := (State.slip_only ..).dst

@[simp] theorem State.dst_meetSideData (s : State) (slot : Nat) (f : Frame) : (s.meetSideData slot f).dst = s.dst := by
  simp only [State.meetSideData, apply_ite State.dst, State.dst_raise, State.dst_setSrc, ite_self]

theorem State.dst_finishFrame (s : State) (slot seq : Nat) : (s.finishFrame slot seq).dst = s.dst := by
  unfold State.finishFrame
  split
  · simp only [State.dst_bump, State.dst_setN, State.dst_setSrc]
  · rfl

theorem State.dst_finishTimed (s : State) (slot : Nat) : (s.finishTimed slot).dst = s.dst := by
  unfold State.finishTimed
  generalize ((s.src slot).frames.filter _).map _ = l
  induction l generalizing s with
  | nil => rfl
  | cons seq l ih => exact (ih _).trans (s.dst_finishFrame slot seq)

theorem State.dst_abandonFrame (s : State) (slot : Nat) : (s.abandonFrame slot).dst = s.dst := by
  unfold State.abandonFrame
  split
  · rw [State.dst_bump, State.dst_setSrc]
  · rfl

theorem State.dst_refreshSlot (s : State) (slot : Nat) : (s.refreshSlot slot).dst = s.dst := by
  unfold State.refreshSlot
  extract_lets f reserved raw excess locked was wasOver s1 s2 s3 s4 x t y s5
  have h4 : s4.dst = s.dst := by
    simp only [s4, s3, s2, s1, apply_ite State.dst, State.dst_raise, State.dst_setN, ite_self]
  have ht : t.dst = s.dst := (s4.dst_abandonFrame slot).trans h4
  rw [(s5.refreshColour_only slot f).dst]
  simp only [s5, apply_ite State.dst, State.dst_raise, State.dst_setSrc, h4, ht, ite_self]

@[simp] theorem State.dst_settle (s : State) (slot : Nat) : (s.settle slot).dst = s.dst := by
  unfold State.settle
  extract_lets t
  have ht : t.dst = s.dst := s.dst_finishTimed slot
  simp only [apply_ite State.dst, State.dst_refreshSlot, ht, ite_self]

/-- A slot without a timed frame whose time has come is as it was. -/
theorem State.settle_settled {s : State} {slot : Nat}
    (h : ∀ g ∈ (s.src slot).frames, g.open_ = true → ∀ w, g.finishAt = some w → s.ptp < w) : s.settle slot = s := by
  have none_due : ((s.src slot).frames.filter fun f => f.open_ && (f.finishAt.elim false fun t => t ≤ s.ptp)) = [] := by
    refine List.filter_eq_nil_iff.2 fun g hg due => ?_
    obtain ⟨hopen, hdue⟩ := Bool.and_eq_true_iff.1 due
    cases hw : g.finishAt with
    | none => simp [hw] at hdue
    | some w =>
      have hle : w ≤ s.ptp := by simpa [hw] using hdue
      exact absurd (h g hg hopen w hw) (Nat.not_lt.2 hle)
  have still : s.finishTimed slot = s := by rw [State.finishTimed, none_due]; rfl
  simp only [State.settle, still, if_true]

/-! ## Labels and routes -/

/-- A label that comes into force is no longer ahead; the rest of the slot is as it was (R252). -/
theorem State.dst_labelColour (s : State) (d sp : Nat) :
    (s.labelColour d sp).dst d = { s.dst d with labels := (s.dst d).labels.filter fun p => sp < p.1 } := by
  unfold State.labelColour
  extract_lets x t
  have ht : t.dst d = { s.dst d with labels := (s.dst d).labels.filter fun p => sp < p.1 } := State.dst_setDst ..
  rw [← ht]
  split
  · simp only [apply_ite State.dst, (State.txChanged_only ..).dst, State.dst_setN, ite_self]
  · rfl

theorem State.src_labelColour (s : State) (d sp : Nat) : (s.labelColour d sp).src = s.src := by
  have sent (t : State) (v : Nat) : ((t.setN Obj.dstColourInForce d v).txChanged d).src = t.src :=
    funext fun k => (State.txChanged_only ..).src k
  unfold State.labelColour
  extract_lets x t
  have ht : t.src = s.src := rfl
  split
  · simp only [apply_ite State.src, sent, ht, ite_self]
  · exact ht

/-- The last route of a destination is the one that its object Route names (R170, R186). -/
theorem State.routesAhead_last (s : State) (d : Nat) :
    (s.routesAhead d).getLast?.elim (s.dst d).route (·.2) = s.n Obj.route d := by
  unfold State.routesAhead
  extract_lets x now
  split
  · assumption
  · simp [now]

/-- With every boundary behind its switching point, a destination takes the last of its routes (R170). -/
theorem State.switchRoute_route {s : State} {d align : Nat}
    (h : ∀ p ∈ s.routesAhead d, p.1 ≤ align + switchOffset (Objs.sink s.objs d) (s.dstFormat d)) :
    ((s.switchRoute d align).dst d).route = s.n Obj.route d := by
  have last := s.routesAhead_last d
  unfold State.switchRoute
  extract_lets x sp ahead y
  have due : (ahead.filter fun p => p.1 ≤ sp) = ahead := List.filter_eq_self.2 fun p hp => decide_eq_true (h p hp)
  rw [due]
  cases hl : ahead.getLast? with
  | none =>
    rw [show (s.routesAhead d).getLast? = none from hl] at last
    exact last
  | some p =>
    rw [show (s.routesAhead d).getLast? = some p from hl] at last
    dsimp only
    split
    · next same => exact (congrArg DstSlot.route (State.dst_setDst ..)).trans (same.symm.trans last)
    · exact (congrArg DstSlot.route (State.dst_setDst ..)).trans last

/-- A destination without a route ahead switches to none. -/
theorem State.switchRoute_still {s : State} {d : Nat} (hr : (s.dst d).routes = []) (hn : s.n Obj.route d = (s.dst d).route)
    (align : Nat) : s.switchRoute d align = s := by
  have none_ahead : s.routesAhead d = [] := by simp [State.routesAhead, hr, hn]
  simp [State.switchRoute, none_ahead]

/-! ## The route in use -/

/-- Only a switching point changes the route that a destination has in use (R170). -/
structure RouteKept (d : Nat) (s t : State) : Prop where
  kept : (t.dst d).route = (s.dst d).route

section
variable {d : Nat}

theorem RouteKept.of_dst {s t : State} (h : t.dst = s.dst) : RouteKept d s t := ⟨by rw [h]⟩

theorem RouteKept.refl (s : State) : RouteKept d s s := ⟨rfl⟩

/-- Outermost first. -/
theorem RouteKept.seq {s t u : State} (h : RouteKept d t u) (g : RouteKept d s t) : RouteKept d s u := ⟨h.kept.trans g.kept⟩

theorem RouteKept.ite {p : Prop} [Decidable p] {s a b : State} (h : RouteKept d s a) (g : RouteKept d s b) :
    RouteKept d s (if p then a else b) := by
  split
  · exact h
  · exact g

/-- A function that leaves the destination slots, after others. -/
theorem RouteKept.still {s t u : State} (h : u.dst = t.dst) (g : RouteKept d s t) : RouteKept d s u :=
  (RouteKept.of_dst h).seq g

theorem State.setDst_routeKept (s : State) (x : DstSlot) (h : x.route = (s.dst d).route := by rfl) :
    RouteKept d s (s.setDst d x) :=
  ⟨(congrArg DstSlot.route (State.dst_setDst ..)).trans h⟩

theorem State.labelColour_routeKept (s : State) (sp : Nat) : RouteKept d s (s.labelColour d sp) :=
  ⟨by rw [State.dst_labelColour]⟩

theorem State.enterLoss_routeKept (s : State) : RouteKept d s (s.enterLoss d) := by
  unfold State.enterLoss
  extract_lets x fr t
  have ht : RouteKept d s t := State.setDst_routeKept _ _ (by split <;> rfl)
  exact .ite ht (.still (State.dst_raise ..) ht)

theorem State.leaveLoss_routeKept (s : State) : RouteKept d s (s.leaveLoss d) :=
  .ite (.still (State.dst_raise ..) (State.setDst_routeKept ..)) (.refl s)

theorem State.showLoss_routeKept (s : State) (r align : Nat) : RouteKept d s (s.showLoss d r align) := by
  unfold State.showLoss
  extract_lets t x empty t1
  have h1 : RouteKept d s t1 := (State.setDst_routeKept ..).seq s.enterLoss_routeKept
  exact .still (State.dst_bump ..) (.still (State.dst_setN ..) h1)

theorem State.showFrame_routeKept (s : State) (slot : Nat) (f : Frame) (r align : Nat) :
    RouteKept d s (s.showFrame d slot f r align) := by
  unfold State.showFrame
  extract_lets t x first anc y t1
  have h1 : RouteKept d s t1 := (State.setDst_routeKept ..).seq s.leaveLoss_routeKept
  exact .still (State.dst_meetSideData ..) (.still (State.dst_setN ..) h1)

theorem State.timedWindow_routeKept (s : State) (r : Nat) (inHalf : Option Frame) (inQuarter : Bool) :
    RouteKept d s (s.timedWindow d r inHalf inQuarter) := by
  unfold State.timedWindow
  extract_lets x
  split
  · extract_lets t
    have ht : RouteKept d s t := .of_dst rfl
    exact .ite ht (.ite (.still (State.dst_raise ..) ((State.setDst_routeKept ..).seq ht)) (State.setDst_routeKept ..))
  · exact .ite (State.setDst_routeKept ..)
      (.still (State.dst_raise ..) (.still (State.dst_setN ..) (State.setDst_routeKept ..)))

theorem State.timedOut_routeKept (s : State) (r : Nat) : RouteKept d s (s.timedOut d r) :=
  .ite (s.timedWindow_routeKept ..) (.of_dst rfl)

theorem State.timedMissed_routeKept (s : State) : RouteKept d s (s.timedMissed d) :=
  .still (State.dst_setN ..) (State.setDst_routeKept ..)

theorem State.timedStep_routeKept (s : State) (slot r : Nat) : RouteKept d s (s.timedStep d slot r) :=
  .ite (s.timedWindow_routeKept ..) (.of_dst rfl)

theorem State.adopt_routeKept (s : State) (f : Nat) : RouteKept d s (s.adopt d f) :=
  .still (State.txChanged_only ..).dst (.still (State.dst_raise ..) (State.setDst_routeKept ..))

/-- A format that is adopted, or lies outside the rate family, changes no route (R78, R199). -/
theorem State.follow_routeKept (s : State) (slot : Nat) (f : Frame) (r align : Nat) :
    RouteKept d s (s.follow d slot f r align) := by
  unfold State.follow
  extract_lets x want lane out u t
  have hout : RouteKept d s out := .ite (.refl s) (.still (State.dst_raise ..) (State.setDst_routeKept ..))
  have hu : RouteKept d s u := .ite (State.setDst_routeKept ..) (.refl s)
  have begin_ : RouteKept d s (u.beginAdopt d want align) := (State.setDst_routeKept ..).seq hu
  have forgot : RouteKept d s (u.forgetAdopt d) := (State.setDst_routeKept ..).seq hu
  have ht : RouteKept d s t := by
    simp only [t]
    split
    · exact .ite hu begin_
    · exact begin_
  refine .ite ((State.showFrame_routeKept ..).seq (.of_dst (State.dst_slip ..)))
    (.ite ((State.showLoss_routeKept ..).seq hout)
      (.ite ((State.showFrame_routeKept ..).seq (.still (State.dst_slip ..) forgot)) ?_))
  split
  · exact .ite ((State.showFrame_routeKept ..).seq ((State.adopt_routeKept ..).seq ht)) ((State.setDst_routeKept ..).seq ht)
  · exact ht

/-- A read start goes on under the route of its switching point (R163, R170). -/
theorem State.readStart_routeKept (s : State) (r align : Nat) : RouteKept d (s.switchRoute d align) (s.readStart d r align) := by
  unfold State.readStart
  extract_lets s1 s2
  have h1 : RouteKept d (s.switchRoute d align) s1 := State.labelColour_routeKept ..
  refine .still (State.dst_setN ..) ?_
  subst s2
  split
  · exact (State.showLoss_routeKept ..).seq ((State.timedMissed_routeKept ..).seq h1)
  · next slot hslot =>
    extract_lets t u
    have ht : RouteKept d (s.switchRoute d align) t := .still (State.dst_settle ..) h1
    have hu : RouteKept d (s.switchRoute d align) u := (State.timedStep_routeKept ..).seq ht
    refine .ite ((State.showLoss_routeKept ..).seq ((State.timedOut_routeKept ..).seq ht)) ?_
    split
    · exact .ite ((State.showLoss_routeKept ..).seq hu) ((State.follow_routeKept ..).seq hu)
    · exact (State.showLoss_routeKept ..).seq hu

end

end Sys2Proof.Machine
end

section
/-!
PROOFS. The read start of a destination: its new route, its loss picture, its frame in frame-sync mode (R163, R166, R170 to R173).
-/
namespace Sys2Proof.Machine
set_option Elab.async false

/-! ## The command -/

/-- What a read start does for the Moraine stream of its destination, whose latency it takes (R163, notes/assumptions/15.md). -/
def State.streamFrame (s : State) (d r align : Nat) : State :=
  match Objs.sink s.objs d with
  | .record n => (s.emitLedger d 0 r).recordFrame n d align
  | .delay l => (s.emitLedger d 0 r).delayFrame l d align
  | _ => s

theorem destinationReadStart_next {s : State} {dt d align r : Nat} (on : s.on) (hr : (s.tick dt).reads d = true)
    (hn : (s.tick dt).nextRead d (s.tick dt).ptp = (align, r)) (hx : ∀ x, (s.dst d).shown = some x → x.align ≠ align) :
    exec (.destinationReadStart dt d) s = .next (((s.tick dt).readStart d r align).streamFrame d r align) := by
  have once : ((s.dst d).shown.elim true fun x => x.align != align) = true := by
    cases h : (s.dst d).shown with
    | none => rfl
    | some x => simpa using hx x h
  show execDestinationReadStart dt d s = _
  rw [execDestinationReadStart, actIf_next on.1 (by simp [on.2, hr, hn, once])]
  simp only [hn]
  rfl

/-! ## The stream of a destination -/

theorem State.emitLedger_dst {s : State} {d : Nat} {x : Shown} (h : (s.dst d).shown = some x) (code emission : Nat) :
    (s.emitLedger d code emission).dst d = { s.dst d with shown := some { x with emitted := true } } := by
  have marked : (s.markEmitted d x).dst d = { s.dst d with shown := some { x with emitted := true } } := State.dst_setDst ..
  unfold State.emitLedger
  rw [h]
  dsimp only
  split
  · next done =>
    have same : { x with emitted := true } = x := by rw [← done]
    rw [same, ← h]
  · have onAir : (s.putOnAir d x).dst = (s.markEmitted d x).dst := rfl
    rw [← marked]
    split
    · rfl
    · split
      · rw [State.dst_setBy, State.dst_setN, onAir]
      · split
        · rw [State.dst_setN, State.dst_setN, State.dst_setBy, State.dst_setN, onAir]
        · rw [State.dst_setN, State.dst_setN, State.dst_setBy, State.dst_setN, State.dst_draw, onAir]

theorem State.emitLedger_none {s : State} {d : Nat} (h : (s.dst d).shown = none) (code emission : Nat) :
    s.emitLedger d code emission = s := by
  simp only [State.emitLedger, h]

theorem State.emitLedger_routeKept {d : Nat} (s : State) (code emission : Nat) :
    RouteKept d s (s.emitLedger d code emission) := by
  cases h : (s.dst d).shown with
  | none => exact .of_dst (by rw [State.emitLedger_none h])
  | some x => exact ⟨by rw [State.emitLedger_dst h]⟩

theorem State.streamFrame_routeKept {d : Nat} (s : State) (r align : Nat) : RouteKept d s (s.streamFrame d r align) := by
  unfold State.streamFrame
  split
  · exact .still (State.recordFrame_only ..).dst (s.emitLedger_routeKept ..)
  · exact .still (State.delayFrame_only ..).dst (s.emitLedger_routeKept ..)
  · exact .refl s

/-- The output frame stays, emitted or not. -/
theorem State.streamFrame_shown {s : State} {d : Nat} {x : Shown} (h : (s.dst d).shown = some x) (r align : Nat) :
    ∃ done, ((s.streamFrame d r align).dst d).shown = some { x with emitted := done } := by
  have emitted : ((s.emitLedger d 0 r).dst d).shown = some { x with emitted := true } := by rw [State.emitLedger_dst h]
  unfold State.streamFrame
  split
  · exact ⟨true, by rw [(State.recordFrame_only ..).dst, emitted]⟩
  · exact ⟨true, by rw [(State.delayFrame_only ..).dst, emitted]⟩
  · exact ⟨x.emitted, h⟩

/-- The objects that a stream changes (R30, R33 to R35, R429, R432, R559). -/
abbrev streamObjs : List Nat :=
  [Obj.routeOnAir, Obj.originKind, Obj.latencyLast, Obj.stageBreakdown, Obj.latencyMin, Obj.latencyMax, Obj.recLateFrames,
    Obj.recState, Obj.dlyLateFrames, Obj.dlyStored] ++ eventObjs

theorem State.streamFrame_only (s : State) (d r align : Nat) :
    Only ⟨[.out, .fresh, .pinned, .ev, .flashJournal, .ridge, .mor, .diskJournal], streamObjs, [0x40000004, 0x40000008]⟩ s
      (s.streamFrame d r align) := by
  have ledger := (s.emitLedger_only d 0 r).up
    (b := ⟨[.out, .fresh, .pinned, .ev, .flashJournal, .ridge, .mor, .diskJournal], streamObjs, [0x40000004, 0x40000008]⟩)
  unfold State.streamFrame
  split
  · exact (State.recordFrame_only ..).seq ledger
  · exact (State.delayFrame_only ..).seq ledger
  · exact .refl _ s

/-! ## The loss picture -/

theorem State.showLoss_shown (s : State) (d r align : Nat) :
    ∃ x, ((s.showLoss d r align).dst d).shown = some x ∧ x.loss = true ∧ x.read = r ∧ x.align = align ∧
      x.format = s.n Obj.dstReservedFormat d := by
  have format : (s.enterLoss d).n Obj.dstReservedFormat d = s.n Obj.dstReservedFormat d := (State.enterLoss_only ..).n _ _
  unfold State.showLoss
  extract_lets t x empty t1
  rw [State.dst_bump, State.dst_setN, State.dst_setDst]
  exact ⟨_, rfl, rfl, rfl, rfl, format⟩

theorem State.showLoss_counted (s : State) (d r align : Nat) : Counted Obj.dstLossFrames d 1 s (s.showLoss d r align) := by
  unfold State.showLoss
  extract_lets t x empty t1
  exact (State.bump_counted ..).from_same
    ((State.n_setN_ne _ _ _ _ _ _ (by decide)).trans ((State.enterLoss_only ..).n Obj.dstLossFrames d))

theorem State.showLoss_state (s : State) (d r align : Nat) :
    (s.showLoss d r align).n Obj.dstState d = if bit (s.dst d).route 11 then 1 else 3 := by
  have route : ((s.enterLoss d).dst d).route = (s.dst d).route := (State.enterLoss_routeKept s).kept
  unfold State.showLoss
  extract_lets t x empty t1
  rw [(State.bump_only ..).n _ _, State.n_setN_self, ← route]

/-! ## The branches of a read start -/

/-- The route and the label of a read start's switching point (R170, R252). -/
def State.meetRoute (s : State) (d align : Nat) : State :=
  (s.switchRoute d align).labelColour d (align + switchOffset (Objs.sink s.objs d) (s.dstFormat d))

/-- DstFormatLive reports the format of the output frame (R199). -/
def State.reportFormat (s : State) (d : Nat) : State :=
  s.setN Obj.dstFormatLive d ((s.dst d).shown.elim 0 (·.format))

theorem State.reportFormat_n {s : State} {d : Nat} {x : Shown} (h : (s.dst d).shown = some x) :
    (s.reportFormat d).n Obj.dstFormatLive d = x.format := by
  rw [State.reportFormat, State.n_setN_self, h]
  rfl

theorem State.reportFormat_only (s : State) (d : Nat) : Only ⟨[], [Obj.dstFormatLive], []⟩ s (s.reportFormat d) :=
  State.setN_only ..

theorem State.readStart_of_unrouted {s : State} {d align : Nat} (h : routeSource ((s.meetRoute d align).dst d).route = none)
    (r : Nat) : s.readStart d r align = (((s.meetRoute d align).timedMissed d).showLoss d r align).reportFormat d := by
  unfold State.meetRoute at h
  simp only [State.readStart, h]
  rfl

/-- What a destination without a route ahead has met at its switching point: labels alone (R252). -/
structure RouteStands (d : Nat) (s t : State) : Prop where
  only : Only ⟨[.out, .pinned, .ev, .flashJournal, .ridge, .diskJournal], Obj.dstColourInForce :: eventObjs,
    [0x40000004, 0x40000008]⟩ s t
  src : t.src = s.src
  route : (t.dst d).route = (s.dst d).route
  episode : (t.dst d).episode = (s.dst d).episode

theorem State.meetRoute_stands {s : State} {d : Nat} (align : Nat) (hr : (s.dst d).routes = [])
    (hn : s.n Obj.route d = (s.dst d).route) : RouteStands d s (s.meetRoute d align) := by
  rw [State.meetRoute, State.switchRoute_still hr hn]
  exact ⟨(State.labelColour_only ..).up, State.src_labelColour .., by rw [State.dst_labelColour], by rw [State.dst_labelColour]⟩

/-- A destination without a source and without another route ahead shows its loss picture (R172, R173). -/
theorem State.readStart_unrouted {s : State} {d : Nat} (r align : Nat) (hr : (s.dst d).routes = [])
    (hn : s.n Obj.route d = (s.dst d).route) (hb : bit (s.dst d).route 11 = true) :
    let t := s.readStart d r align
    t.n Obj.dstState d = 1 ∧ t.n Obj.dstFormatLive d = s.n Obj.dstReservedFormat d ∧ Counted Obj.dstLossFrames d 1 s t ∧
      ∃ x, (t.dst d).shown = some x ∧ x.loss = true ∧ x.read = r ∧ x.align = align ∧
        x.format = s.n Obj.dstReservedFormat d := by
  have met := State.meetRoute_stands align hr hn
  rw [State.readStart_of_unrouted (by simp [routeSource, met.route, hb])]
  set u := (s.meetRoute d align).timedMissed d
  have route : (u.dst d).route = (s.dst d).route := (State.timedMissed_routeKept _).kept.trans met.route
  have objs (i) (h : i ∉ Obj.dstModeInForce :: Obj.dstColourInForce :: eventObjs := by decide) : u.n i d = s.n i d :=
    ((State.timedMissed_only ..).n i d (by decide) (by simp_all)).trans (met.only.n i d (by decide) (by simp_all))
  obtain ⟨x, hx, hloss, hread, halign, hformat⟩ := u.showLoss_shown d r align
  rw [objs Obj.dstReservedFormat] at hformat
  refine ⟨?_, (State.reportFormat_n hx).trans hformat, ?_, x, hx, hloss, hread, halign, hformat⟩
  · rw [(State.reportFormat_only ..).n _ _, State.showLoss_state, route, if_pos hb]
  · exact ((u.showLoss_counted d r align).from_same (objs _)).still (State.reportFormat_only ..)

/-! ## Frame-sync mode (R166) -/

/-- A destination that does not follow its source sends its reserved format (R198). -/
theorem State.dstFormat_reserved {s : State} {d : Nat} (h : s.b Obj.dstFollowSource d = false) :
    s.dstFormat d = s.n Obj.dstReservedFormat d := by
  simp [State.dstFormat, h]

theorem Only.follows {r : Reach} {s t : State} (h : Only r s t) (d : Nat) (hp : Part.objs ∉ r.parts := by decide)
    (hi : Obj.dstFollowSource ∉ r.objs := by decide) : t.b Obj.dstFollowSource d = s.b Obj.dstFollowSource d :=
  congrArg (· != 0) (h.n Obj.dstFollowSource d hp hi)

theorem State.showFrame_shown {s : State} {d : Nat} (hf : s.b Obj.dstFollowSource d = false) (slot : Nat) (f : Frame)
    (r align : Nat) :
    ∃ x, ((s.showFrame d slot f r align).dst d).shown = some x ∧ x.loss = false ∧ x.pic = f.pic ∧ x.slot = slot ∧
      x.seq = f.seq ∧ x.origin = f.origin ∧ x.read = r ∧ x.align = align ∧ x.format = s.n Obj.dstReservedFormat d := by
  have left := State.leaveLoss_only s d
  have format : (s.leaveLoss d).dstFormat d = s.n Obj.dstReservedFormat d :=
    (State.dstFormat_reserved ((left.follows d).trans hf)).trans (left.n _ _)
  unfold State.showFrame
  extract_lets t x first anc y t1
  rw [State.dst_meetSideData, State.dst_setN, State.dst_setDst]
  exact ⟨y, rfl, rfl, rfl, rfl, rfl, rfl, rfl, rfl, format⟩

theorem State.showFrame_state (s : State) (d slot : Nat) (f : Frame) (r align : Nat) :
    (s.showFrame d slot f r align).n Obj.dstState d = 2 := by
  unfold State.showFrame
  extract_lets t x first anc y t1
  rw [(State.meetSideData_only ..).n _ _, State.n_setN_self]

/-- In frame-sync mode a destination reads the candidate of its source (R166). -/
theorem State.choose_frameSync {s : State} {d slot r : Nat} {f : Frame} (hm : s.n Obj.dstAlignMode d = 1)
    (hf : s.b Obj.dstFollowSource d = false) (hc : candidate (s.src slot).held (s.n Obj.dstReservedFormat d) r = some f)
    (hr : f.readable r = true) : s.choose d slot r = some f := by
  simp [State.choose, hm, State.dstFormat_reserved hf, hc, hr]

theorem State.timedStep_frameSync {s : State} {d : Nat} (hm : s.n Obj.dstAlignMode d = 1) (slot r : Nat) :
    s.timedStep d slot r = s.setN Obj.dstModeInForce d 1 := by
  simp [State.timedStep, hm]

theorem State.follow_fixed {s : State} {d : Nat} (hf : s.b Obj.dstFollowSource d = false) (slot : Nat) (f : Frame)
    (r align : Nat) : s.follow d slot f r align = (s.slip d slot f.seq).showFrame d slot f r align := by
  simp [State.follow, hf]

theorem State.readStart_of_frame {s : State} {d slot r align : Nat} {f : Frame}
    (h : routeSource ((s.meetRoute d align).dst d).route = some slot)
    (hs : (s.meetRoute d align).settle slot = s.meetRoute d align) (hl : (s.meetRoute d align).slotLocked slot = true)
    (hc : ((s.meetRoute d align).timedStep d slot r).choose d slot r = some f)
    (he : (((s.meetRoute d align).timedStep d slot r).dst d).episode = false) :
    s.readStart d r align = (((s.meetRoute d align).timedStep d slot r).follow d slot f r align).reportFormat d := by
  unfold State.meetRoute at *
  simp only [State.readStart, h, hs, hl, hc, he]
  rfl

/-- A destination in frame-sync mode shows the newest frame of its locked source that is past the guard (R163, R166). -/
theorem State.readStart_frameSync {s : State} {d slot r : Nat} {f : Frame} (align : Nat) (hr : (s.dst d).routes = [])
    (hn : s.n Obj.route d = (s.dst d).route) (hslot : routeSource (s.dst d).route = some slot)
    (hl : s.slotLocked slot = true)
    (hw : ∀ g ∈ (s.src slot).frames, g.open_ = true → ∀ w, g.finishAt = some w → s.ptp < w)
    (hm : s.n Obj.dstAlignMode d = 1) (hf : s.b Obj.dstFollowSource d = false) (he : (s.dst d).episode = false)
    (hc : candidate (s.src slot).held (s.n Obj.dstReservedFormat d) r = some f) (hread : f.readable r = true) :
    let t := s.readStart d r align
    t.n Obj.dstState d = 2 ∧ t.n Obj.dstModeInForce d = 1 ∧ t.n Obj.dstFormatLive d = s.n Obj.dstReservedFormat d ∧
      ∃ x, (t.dst d).shown = some x ∧ x.loss = false ∧ x.pic = f.pic ∧ x.slot = slot ∧ x.seq = f.seq ∧
        x.origin = f.origin ∧ x.read = r ∧ x.align = align := by
  have met := State.meetRoute_stands align hr hn
  have mode : (s.meetRoute d align).n Obj.dstAlignMode d = 1 := (met.only.n _ _).trans hm
  have settled : (s.meetRoute d align).settle slot = s.meetRoute d align :=
    State.settle_settled (by rw [met.src, met.only.ptp]; exact hw)
  have locked : (s.meetRoute d align).slotLocked slot = true := by rw [State.slotLocked, met.src]; exact hl
  have step := State.timedStep_frameSync mode slot r
  set u := (s.meetRoute d align).setN Obj.dstModeInForce d 1
  have stepped : Only ⟨[], [Obj.dstModeInForce], []⟩ (s.meetRoute d align) u := State.setN_only ..
  have fixed : u.b Obj.dstFollowSource d = false := (stepped.follows d).trans ((met.only.follows d).trans hf)
  have reserved : u.n Obj.dstReservedFormat d = s.n Obj.dstReservedFormat d := (stepped.n _ _).trans (met.only.n _ _)
  have chosen : u.choose d slot r = some f :=
    State.choose_frameSync ((stepped.n _ _).trans mode) fixed (by rw [reserved, stepped.src, met.src]; exact hc) hread
  have slipped := State.slip_only u d slot f.seq
  obtain ⟨x, hx, hloss, hpic, hxslot, hseq, horigin, hxread, halign, hformat⟩ :=
    State.showFrame_shown ((slipped.follows d).trans fixed) slot f r align
  rw [State.readStart_of_frame (by rw [met.route]; exact hslot) settled locked (by rw [step]; exact chosen)
    (by rw [step]; exact met.episode.trans he), step, State.follow_fixed fixed]
  refine ⟨?_, ?_, ?_, x, hx, hloss, hpic, hxslot, hseq, horigin, hxread, halign⟩
  · rw [(State.reportFormat_only ..).n _ _, State.showFrame_state]
  · rw [(State.reportFormat_only ..).n _ _, (State.showFrame_only ..).n _ _, slipped.n _ _, State.n_setN_self]
  · rw [State.reportFormat_n hx, hformat, slipped.n _ _, reserved]

/-! ## The statement -/

/-- Settles O19: the route of the switching point fixes the branch of `State.readStart`, and neither what a branch does after it nor
the destination's stream touches what the clause reads. -/
theorem destinationReads : Obligations.DestinationReads := by
  unfold Obligations.DestinationReads
  refine ⟨?route, ?loss, ?sync⟩
  case route =>
    intro s dt d align r on hreads hnext hnew hahead
    refine ⟨_, destinationReadStart_next on hreads hnext hnew, ?_⟩
    exact (State.streamFrame_routeKept ..).kept.trans
      ((State.readStart_routeKept ..).kept.trans (State.switchRoute_route (s := s.tick dt) hahead))
  case loss =>
    intro s dt d align r on hreads hnext hnew hroutes hroute hnone
    obtain ⟨hstate, hlive, hcount, x, hx, hloss, hread, halign, hformat⟩ :=
      State.readStart_unrouted (s := s.tick dt) r align hroutes hroute hnone
    have kept := State.streamFrame_only ((s.tick dt).readStart d r align) d r align
    obtain ⟨done, hy⟩ := State.streamFrame_shown hx r align
    exact ⟨_, destinationReadStart_next on hreads hnext hnew, (kept.n _ _).trans hstate, (kept.n _ _).trans hlive,
      hcount.still kept, _, hy, hloss, hread, halign, hformat⟩
  case sync =>
    intro s dt d slot f align r on hreads hnext hnew hroutes hroute hslot hl hw hm hf he hc hread
    obtain ⟨hstate, hmode, hlive, x, hx, hshown⟩ :=
      State.readStart_frameSync (s := s.tick dt) align hroutes hroute hslot hl hw hm hf he hc hread
    have kept := State.streamFrame_only ((s.tick dt).readStart d r align) d r align
    obtain ⟨done, hy⟩ := State.streamFrame_shown hx r align
    exact ⟨_, destinationReadStart_next on hreads hnext hnew, (kept.n _ _).trans hstate, (kept.n _ _).trans hmode,
      (kept.n _ _).trans hlive, _, hy, hshown⟩

end Sys2Proof.Machine
end

section
/-!
SUPPORT. What the layers and stages of an engine frame leave: the engines, and the numbers that slots give next (R222 to R241,
R263).
-/
namespace Sys2Proof.Machine
set_option Elab.async false

theorem Only.engines {r : Reach} {s t : State} (h : Only r s t) (hp : Part.cq ∉ r.parts := by decide) : t.engine = s.engine := by
  have e : t.cq = s.cq := h.same .cq hp
  funext k
  simp only [State.engine, e]

/-- Every engine is as it was, and no slot has begun a frame. -/
structure EnginesStand (s t : State) : Prop where
  engine : t.engine = s.engine
  nextSeq : ∀ slot, (t.src slot).nextSeq = (s.src slot).nextSeq

theorem EnginesStand.refl (s : State) : EnginesStand s s := ⟨rfl, fun _ => rfl⟩

/-- Outermost first. -/
theorem EnginesStand.seq {s t u : State} (h : EnginesStand t u) (g : EnginesStand s t) : EnginesStand s u :=
  ⟨h.engine.trans g.engine, fun slot => (h.nextSeq slot).trans (g.nextSeq slot)⟩

theorem EnginesStand.ite {p : Prop} [Decidable p] {s a b : State} (h : EnginesStand s a) (g : EnginesStand s b) :
    EnginesStand s (if p then a else b) := by
  split
  · exact h
  · exact g

theorem EnginesStand.foldl {α : Type} {f : State → α → State} {xs : List α} {s t : State} (h : ∀ u x, EnginesStand u (f u x))
    (g : EnginesStand s t) : EnginesStand s (xs.foldl f t) := by
  induction xs generalizing t with
  | nil => exact g
  | cons x xs ih => exact ih ((h t x).seq g)

/-- A function whose reach has neither Ridge nor Cirque. -/
theorem EnginesStand.of_only {r : Reach} {s t : State} (h : Only r s t) (hr : Part.ridge ∉ r.parts := by decide)
    (hc : Part.cq ∉ r.parts := by decide) : EnginesStand s t :=
  ⟨h.engines hc, fun slot => by rw [h.src slot hr]⟩

/-- Such a function after others. -/
theorem EnginesStand.still {r : Reach} {s t u : State} (h : Only r t u) (g : EnginesStand s t)
    (hr : Part.ridge ∉ r.parts := by decide) (hc : Part.cq ∉ r.parts := by decide) : EnginesStand s u :=
  (EnginesStand.of_only h hr hc).seq g

theorem State.setDst_enginesStand (s : State) (d : Nat) (x : DstSlot) : EnginesStand s (s.setDst d x) := ⟨rfl, fun _ => rfl⟩

theorem State.setLayer_enginesStand (s : State) (x : Nat) (y : Layer) : EnginesStand s (s.setLayer x y) := ⟨rfl, fun _ => rfl⟩

theorem State.setStage_enginesStand (s : State) (x : Nat) (y : ColStage) : EnginesStand s (s.setStage x y) := ⟨rfl, fun _ => rfl⟩

theorem State.setSrc_enginesStand (s : State) (slot : Nat) (x : SrcSlot) (h : x.nextSeq = (s.src slot).nextSeq := by rfl) :
    EnginesStand s (s.setSrc slot x) :=
  ⟨rfl, fun k => by
    by_cases hk : k = slot
    · rw [hk, State.src_setSrc, h]
    · rw [State.src_setSrc_ne _ _ _ _ hk]⟩

theorem State.raise_enginesStand {s t : State} (src subj : Nat) (h : EnginesStand s t) : EnginesStand s (t.raise src subj) :=
  .still (State.raise_only ..) h

theorem State.setN_enginesStand {s t : State} (i k v : Nat) (h : EnginesStand s t) : EnginesStand s (t.setN i k v) :=
  .still (State.setN_only ..) h (by simp) (by simp)

theorem State.bump_enginesStand {s t : State} (i k by_ : Nat) (h : EnginesStand s t) : EnginesStand s (t.bump i k by_) :=
  .still (State.bump_only ..) h (by simp) (by simp)

/-! ## Source slots -/

theorem State.finishFrame_enginesStand (s : State) (slot seq : Nat) : EnginesStand s (s.finishFrame slot seq) := by
  unfold State.finishFrame
  split
  · exact State.bump_enginesStand _ _ _ (State.setN_enginesStand _ _ _ (State.setSrc_enginesStand ..))
  · exact .refl s

theorem State.finishTimed_enginesStand (s : State) (slot : Nat) : EnginesStand s (s.finishTimed slot) :=
  .foldl (fun u n => u.finishFrame_enginesStand slot n) (.refl s)

theorem State.abandonFrame_enginesStand (s : State) (slot : Nat) : EnginesStand s (s.abandonFrame slot) := by
  unfold State.abandonFrame
  split
  · exact State.bump_enginesStand _ _ _ (State.setSrc_enginesStand ..)
  · exact .refl s

theorem State.refreshSlot_enginesStand (s : State) (slot : Nat) : EnginesStand s (s.refreshSlot slot) := by
  unfold State.refreshSlot
  extract_lets f reserved raw excess locked was wasOver s1 s2 s3 s4 x t y s5
  have h3 : EnginesStand s s3 :=
    State.setN_enginesStand _ _ _ (State.setN_enginesStand _ _ _ (State.setN_enginesStand _ _ _ (.refl s)))
  have h4 : EnginesStand s s4 := .ite (State.raise_enginesStand _ _ h3) h3
  have ht : EnginesStand s t := (State.abandonFrame_enginesStand ..).seq h4
  have h5 : EnginesStand s s5 :=
    .ite (State.raise_enginesStand _ _ ((State.setSrc_enginesStand ..).seq h4))
      (.ite (State.raise_enginesStand _ _ ((State.setSrc_enginesStand ..).seq ht)) h4)
  exact .still (State.refreshColour_only ..) h5

theorem State.settle_enginesStand (s : State) (slot : Nat) : EnginesStand s (s.settle slot) := by
  unfold State.settle
  extract_lets t
  have ht : EnginesStand s t := State.finishTimed_enginesStand ..
  exact .ite (.refl s) (.ite ((State.refreshSlot_enginesStand ..).seq ht) ht)

/-! ## Destinations -/

theorem State.enterLoss_enginesStand (s : State) (d : Nat) : EnginesStand s (s.enterLoss d) := by
  unfold State.enterLoss
  extract_lets x fr t
  have ht : EnginesStand s t := State.setDst_enginesStand ..
  exact .ite ht (State.raise_enginesStand _ _ ht)

theorem State.leaveLoss_enginesStand (s : State) (d : Nat) : EnginesStand s (s.leaveLoss d) :=
  .ite (State.raise_enginesStand _ _ (State.setDst_enginesStand ..)) (.refl s)

theorem State.meetSideData_enginesStand (s : State) (slot : Nat) (f : Frame) : EnginesStand s (s.meetSideData slot f) :=
  .ite (State.raise_enginesStand _ _ (State.setSrc_enginesStand ..)) (.refl s)

theorem State.showFrame_enginesStand (s : State) (d slot : Nat) (f : Frame) (r align : Nat) :
    EnginesStand s (s.showFrame d slot f r align) := by
  unfold State.showFrame
  extract_lets t x first anc y t1
  have h1 : EnginesStand s t1 := (State.setDst_enginesStand ..).seq (State.leaveLoss_enginesStand ..)
  exact (State.meetSideData_enginesStand ..).seq (State.setN_enginesStand _ _ _ h1)

theorem State.labelColour_enginesStand (s : State) (d sp : Nat) : EnginesStand s (s.labelColour d sp) := by
  unfold State.labelColour
  extract_lets x t
  have ht : EnginesStand s t := State.setDst_enginesStand ..
  split
  · exact .ite ht (.still (State.txChanged_only ..) (State.setN_enginesStand _ _ _ ht))
  · exact ht

theorem State.emitLedger_enginesStand (s : State) (d code emission : Nat) : EnginesStand s (s.emitLedger d code emission) := by
  unfold State.emitLedger
  split
  · exact .refl s
  · next x _ =>
    have marked : EnginesStand s (s.markEmitted d x) := State.setDst_enginesStand ..
    refine .ite (.refl s) (.ite marked ?_)
    extract_lets onAir
    have put : EnginesStand s onAir := State.setN_enginesStand _ _ _ (State.setN_enginesStand _ _ _ marked)
    refine .ite (.still (State.setBy_only ..) (State.setN_enginesStand _ _ _ put)) ?_
    split
    next _ u e =>
    have taken : Only ⟨[.fresh], [], []⟩ onAir u := by
      refine Only.snd e ?_
      split
      · exact Only.refl _ _
      · exact State.draw_only _
    exact State.setN_enginesStand _ _ _ (State.setN_enginesStand _ _ _
      (.still (State.setBy_only ..) (State.setN_enginesStand _ _ _ (.still taken put))))

/-! ## Layers and stages -/

theorem State.layerNotReady_enginesStand (s : State) (c : Objs) (x : Nat) (has : Bool) :
    EnginesStand s (s.layerNotReady c x has) := by
  unfold State.layerNotReady
  extract_lets y hold held clear s1 s2 s3
  have h2 : EnginesStand s s2 := State.setN_enginesStand _ _ _ (State.bump_enginesStand _ _ _ (State.setLayer_enginesStand ..))
  have h3 : EnginesStand s s3 := .ite h2 (State.raise_enginesStand _ _ h2)
  exact .ite (State.raise_enginesStand _ _ h3) h3

theorem State.layerReady_enginesStand (s : State) (x : Nat) : EnginesStand s (s.layerReady x) := by
  unfold State.layerReady
  extract_lets y s1
  have h1 : EnginesStand s s1 := State.setN_enginesStand _ _ _ (State.setLayer_enginesStand ..)
  exact .ite (State.raise_enginesStand _ _ h1) h1

theorem State.layerLoss_enginesStand (s : State) (c : Objs) (d x st : Nat) : EnginesStand s (s.layerLoss c d x st) :=
  (State.layerNotReady_enginesStand ..).seq
    (State.bump_enginesStand _ _ _ (State.setN_enginesStand _ _ _ (State.enterLoss_enginesStand ..)))

theorem State.layerShow_enginesStand (s : State) (d x slot te : Nat) (p : Frame × Nat) :
    EnginesStand s (s.layerShow d x slot te p) := by
  unfold State.layerShow
  extract_lets g n t z t1
  have ht : EnginesStand s t :=
    (State.emitLedger_enginesStand ..).seq ((State.showFrame_enginesStand ..).seq (.of_only (State.slip_only ..)))
  have h1 : EnginesStand s t1 := (State.setDst_enginesStand ..).seq (State.setN_enginesStand _ _ _ ht)
  exact (State.layerReady_enginesStand ..).seq ((State.setLayer_enginesStand ..).seq h1)

theorem State.layerSwitch_enginesStand (s : State) (d x te route : Nat) : EnginesStand s (s.layerSwitch d x te route) :=
  .ite (State.setDst_enginesStand ..) ((State.setDst_enginesStand ..).seq (State.setLayer_enginesStand ..))

theorem State.videoLayer_enginesStand (s : State) (c : Objs) (x te : Nat) : EnginesStand s (s.videoLayer c x te) := by
  unfold State.videoLayer
  extract_lets d route s1 s2 f
  have h2 : EnginesStand s s2 :=
    (State.labelColour_enginesStand ..).seq (State.setN_enginesStand _ _ _ (State.layerSwitch_enginesStand ..))
  split
  · exact (State.layerLoss_enginesStand ..).seq h2
  · next slot _ =>
    extract_lets s3
    have h3 : EnginesStand s s3 := (State.settle_enginesStand ..).seq h2
    split
    · exact .ite ((State.layerShow_enginesStand ..).seq h3) ((State.layerLoss_enginesStand ..).seq h3)
    · exact (State.layerLoss_enginesStand ..).seq h3

theorem State.layerOff_enginesStand (s : State) (x : Nat) : EnginesStand s (s.layerOff x) :=
  State.setN_enginesStand _ _ _ (State.setLayer_enginesStand ..)

theorem State.gfxLayer_enginesStand (s : State) (c : Objs) (x te : Nat) (isStatic rebuild : Bool) :
    EnginesStand s (s.gfxLayer c x te isStatic rebuild) := by
  have flipped : EnginesStand s (s.doFlip x te) := .still (State.setB_only ..) (State.setLayer_enginesStand ..)
  exact .ite (.ite (.ite (.refl s) ((State.layerReady_enginesStand ..).seq flipped)) (State.layerNotReady_enginesStand ..))
    (State.layerReady_enginesStand ..)

theorem State.doTableFlip_enginesStand (s : State) (x te : Nat) : EnginesStand s (s.doTableFlip x te) := by
  unfold State.doTableFlip
  extract_lets y lutFull t
  have stage (z : ColStage) : EnginesStand s ((s.setStage x z).tableBits x) :=
    .still (State.tableBits_only ..) (State.setStage_enginesStand ..)
  have ht : EnginesStand s t := stage _
  exact .ite (.refl s) (.ite (.ite (.refl s) (State.raise_enginesStand _ _ (stage _)))
    (.ite (State.raise_enginesStand _ _ ht) ht))

theorem State.refreshStage_enginesStand (s : State) (c : Objs) (x te : Nat) : EnginesStand s (s.refreshStage c x te) := by
  unfold State.refreshStage
  extract_lets t
  have ht : EnginesStand s t := State.doTableFlip_enginesStand ..
  exact .still (State.setBitN_only ..) (.still (State.setBitN_only ..)
    (State.setN_enginesStand _ _ _ (State.setN_enginesStand _ _ _ ht)))

theorem State.engineLayers_enginesStand (s : State) (c : Objs) (e te : Nat) (rebuild : Bool) :
    EnginesStand s (s.engineLayers c e te rebuild) := by
  unfold State.engineLayers
  extract_lets one t1 t2
  have layer (u : State) (l : Nat) : EnginesStand u (one u l) :=
    .ite (State.layerOff_enginesStand ..) (.ite (State.videoLayer_enginesStand ..) (State.gfxLayer_enginesStand ..))
  have h1 : EnginesStand s t1 := .foldl layer (.refl s)
  have h2 : EnginesStand s t2 := .foldl (fun u l => u.refreshStage_enginesStand ..) h1
  exact (State.refreshStage_enginesStand ..).seq h2

end Sys2Proof.Machine
end

section
/-!
PROOFS. Partial frames, and the composite of an alignment point (R169, R222, R225).
-/
namespace Sys2Proof.Machine
set_option Elab.async false

/-! ## Partial frames (R169) -/

theorem State.repaint_shown (s : State) (d : Nat) (x : Shown) : ((s.repaint d x).dst d).shown = some x := by
  have set : ((s.setDst d { s.dst d with shown := some x }).dst d).shown = some x := by rw [State.dst_setDst]
  have reshown (f : SdiOut → SdiOut) : ((s.reshow d x f).dst d).shown = some x := by
    unfold State.reshow
    extract_lets y t
    split
    · rw [(State.renewRecord_only ..).dst, set]
    · rw [(State.renewDelay_only ..).dst, set]
    · rw [(State.renewTx_only ..).dst, set]
    · exact set
  unfold State.repaint
  extract_lets t
  split
  · split
    · exact reshown _
    · exact reshown _
  · exact reshown _

/-- The picture that a reader shows from a line on that its writer has not completed (R169). -/
def State.partialShown (s : State) (x : Shown) (line : Nat) : Shown :=
  { x with pic := .partialOf x.pic ((s.src x.slot).previousPic x.seq) line, wholePartial := true }

theorem partialFrame_next {s : State} {d line : Nat} {x : Shown} {f : Frame} (dt : Nat) (on : s.on)
    (hx : (s.dst d).shown = some x) (hl : x.loss = false) (hs : x.store ≠ none) (hw : x.wholePartial = false)
    (hf : (s.src x.slot).frames.find? (fun g => g.seq == x.seq) = some f) (hc : f.complete = false) (hline : f.lines ≤ line)
    (hstop : f.finishAt = none ∨ f.abandoned = true) :
    exec (.partialFrame dt d line) s = .next
      ((((s.tick dt).repaint d (s.partialShown x line)).bump Obj.dstPartialFrames d).raiseLimited Ev.partialFrame d d) := by
  have reads : ¬(x.loss || x.store.isNone || x.wholePartial) = true := by simp [hl, hs, hw]
  have cut : ¬(f.complete || decide (line < f.lines) || (f.finishAt.isSome && !f.abandoned)) = true := by
    rcases hstop with h | h
    · simp [hc, Nat.not_lt.2 hline, h]
    · simp [hc, Nat.not_lt.2 hline, h]
  show execPartialFrame dt d line s = _
  rw [execPartialFrame, actIf_next on.1 on.2]
  simp only [State.dst_tick, State.src_tick, hx, hf]
  rw [if_neg reads, if_neg cut]
  rfl

/-! ## Where an engine frame goes (R243, R244) -/

/-- What the Firn cache changes of an engine is its Firn surface (R238). -/
theorem State.firnStep_engine (s : State) (c : Objs) (e te : Nat) (rebuilt : Bool) :
    ((s.firnStep c e te rebuilt).engine e).writing = (s.engine e).writing ∧
      ((s.firnStep c e te rebuilt).engine e).stopping = (s.engine e).stopping ∧
      ((s.firnStep c e te rebuilt).engine e).lastAt = (s.engine e).lastAt := by
  have counted (t : State) (v : Nat) :
      ((t.setN Obj.cqFirnState e v).bump Obj.cqFirnRebuilds e).engine e = t.engine e := by
    rw [(State.bump_only ..).engines, (State.setN_only ..).engines]
  have reported (t : State) (v : Nat) : (t.setN Obj.cqFirnState e v).engine e = t.engine e := rfl
  unfold State.firnStep
  extract_lets static_ x swaps stale
  split
  · rw [reported, State.engine_setEngine]
    exact ⟨rfl, rfl, rfl⟩
  · split
    · rw [counted, State.engine_setEngine]
      exact ⟨rfl, rfl, rfl⟩
    · split
      · rw [reported, State.engine_setEngine]
        exact ⟨rfl, rfl, rfl⟩
      · exact ⟨rfl, rfl, rfl⟩

/-- The frame of a running engine goes to the slot that it writes (R222). -/
theorem State.frameSlot_running {s : State} {e : Nat} (h : s.n Obj.cqState e = 2) (hw : (s.engine e).writing ≠ 0xFFFF)
    (hs : (s.engine e).stopping = false) (te f : Nat) : s.frameSlot e te f = some (s.engine e).writing := by
  simp [State.frameSlot, h, hw, hs]

theorem State.retireWrites_writing (s : State) (e : Nat) : s.retireWrites e (s.engine e).writing = s := by
  simp [State.retireWrites]

/-! ## The composite (R222, R225) -/

/-- The composite of an alignment point begins in a slot, and is counted. -/
structure CompositeBegins (e slot k f te : Nat) (s t : State) : Prop where
  lastAt : (t.engine e).lastAt = some te
  counted : Counted Obj.cqFramesOut e 1 s t
  nextSeq : (t.src slot).nextSeq = (s.src slot).nextSeq + 1
  begun : ∃ g layers stage, (t.src slot).frames.head? = some g ∧ g.pic = .composite e k layers stage f ∧ g.format = f ∧
    g.write = te / tcNs + compositeDelay f

theorem State.writeComposite_begins {s : State} {e te : Nat} (h : (s.engine e).lastAt = some te) (c : Objs) (slot k f : Nat)
    (rebuild : Bool) : CompositeBegins e slot k f te s (s.writeComposite c e slot te k f rebuild) := by
  unfold State.writeComposite
  split
  extract_lets w pic t
  have started : Only _ s t := State.startFrame_only ..
  obtain ⟨hseq, hhead⟩ := s.startFrame_begins slot _
  constructor
  · rw [(State.bump_only ..).engines, started.engines, h]
  · exact (State.bump_counted ..).from_same (started.n _ _)
  · rw [(State.bump_only ..).src, hseq]
  · rw [(State.bump_only ..).src, hhead]
    exact ⟨_, _, _, rfl, rfl, rfl, rfl⟩

/-- A running engine composites the frame of an alignment point into the slot that it writes (R222, R225). -/
theorem State.engineFrame_begins {s : State} {e slot : Nat} (h : s.n Obj.cqState e = 2) (hw : (s.engine e).writing = slot)
    (hslot : slot ≠ 0xFFFF) (hs : (s.engine e).stopping = false) (c : Objs) (te k f : Nat) :
    CompositeBegins e slot k f te s (s.engineFrame c e te k f) := by
  unfold State.engineFrame
  extract_lets rebuild x t1 t2
  have one : t1.engine e = { s.engine e with lastAt := some te } := State.engine_setEngine ..
  have stand : EnginesStand t1 (t1.engineLayers c e te rebuild) := State.engineLayers_enginesStand ..
  have layered := State.engineLayers_only t1 c e te rebuild
  have cached := State.firnStep_only (t1.engineLayers c e te rebuild) c e te rebuild
  have state : t2.n Obj.cqState e = 2 := (cached.n _ _).trans ((layered.n _ _).trans h)
  have frames : t2.n Obj.cqFramesOut e = s.n Obj.cqFramesOut e := (cached.n _ _).trans (layered.n _ _)
  have numbers : (t2.src slot).nextSeq = (s.src slot).nextSeq := by
    rw [cached.src, stand.nextSeq]
    rfl
  obtain ⟨writing, stopping, lastAt⟩ := State.firnStep_engine (t1.engineLayers c e te rebuild) c e te rebuild
  rw [stand.engine, one] at writing stopping lastAt
  have writes : (t2.engine e).writing = slot := writing.trans hw
  have goes := State.frameSlot_running state (writes ▸ hslot) (stopping.trans hs) te f
  have stays := t2.retireWrites_writing e
  rw [writes] at goes stays
  rw [goes]
  dsimp only
  rw [stays]
  have begins := State.writeComposite_begins lastAt c slot k f rebuild
  exact ⟨begins.lastAt, begins.counted.from_same frames, begins.nextSeq.trans (congrArg (· + 1) numbers), begins.begun⟩

/-- A running engine that owes nothing meets an alignment point that it has not handled (R222). -/
theorem engineAlignmentPoint_next {s : State} {e f k te : Nat} (dt : Nat) (on : s.on) (h : s.n Obj.cqState e = 2)
    (hs : (s.engine e).stopping = false) (ho : (s.engine e).old = none) (hf : f = Objs.engineFormat s.objs e) (hf0 : f ≠ 0)
    (hk : k = alignIndex f (s.n Obj.cqTimingOffset e) (s.tick dt).tc) (hte : te = alignPoint f (s.n Obj.cqTimingOffset e) k)
    (hfrom : (s.engine e).from_ ≤ te) (hlast : (s.engine e).lastAt ≠ some te) :
    exec (.engineAlignmentPoint dt e) s = .next ((s.tick dt).engineFrame s.objs e te k f) := by
  have stays : (s.tick dt).engineStopped e = s.tick dt := by simp [State.engineStopped, hs]
  have meets : (s.tick dt).meetHandover e = s.tick dt := by simp [State.meetHandover, h]
  have config : (s.tick dt).engineConfig e = s.objs := by simp [State.engineConfig, ho]
  have offset : Objs.n s.objs Obj.cqTimingOffset e = s.n Obj.cqTimingOffset e := rfl
  show execEngineAlignmentPoint dt e s = _
  rw [execEngineAlignmentPoint, actIf_next on.1 (by simp [on.2, h])]
  dsimp only
  rw [stays, meets, config, offset, ← hf, ← hk, ← hte, if_neg (by simp [h, hf0, hlast, Nat.not_lt.2 hfrom])]

/-! ## The statement -/

/-- Settles O20: a partial frame is repainted before it is counted and its event is raised; of what the layers and the Firn cache of
an engine frame do, nothing moves the engine or begins a frame before the composite. -/
theorem pictureEngines : Obligations.PictureEngines := by
  unfold Obligations.PictureEngines
  refine ⟨?partial_, ?composite⟩
  case partial_ =>
    intro s dt d line x f on hx hl hs hw hf hc hline hstop
    refine ⟨_, partialFrame_next dt on hx hl hs hw hf hc hline hstop, ?_, ?_⟩
    · rw [(State.raiseLimited_only ..).dst, State.dst_bump, State.repaint_shown]
      rfl
    · have painted : ((s.tick dt).repaint d (s.partialShown x line)).n Obj.dstPartialFrames d = s.n Obj.dstPartialFrames d :=
        (State.repaint_only ..).n _ _
      have counted := (State.bump_counted _ Obj.dstPartialFrames d).from_same painted
      exact counted.still (State.raiseLimited_only ..)
  case composite =>
    intro s dt e slot f k te on h hs ho hw hslot hf hf0 hk hte hfrom hlast
    have begins := State.engineFrame_begins (s := s.tick dt) h hw hslot hs s.objs te k f
    exact ⟨_, engineAlignmentPoint_next dt on h hs ho hf hf0 hk hte hfrom hlast, begins.lastAt, begins.counted.from_same rfl,
      begins.nextSeq, begins.begun⟩

end Sys2Proof.Machine
end

section
/-!
PROOFS. Salvos (R187 to R207): the operations that sessions ask for, and the acknowledgements of the standby.
-/
namespace Sys2Proof.Machine
set_option Elab.async false

/-! ## A request that has begun -/

/-- The state in which a message has been heard, counted and taken up. -/
def State.takenUp (t : State) (m : Msg) (x : Session) : State :=
  (t.setSession m.session ((x.heard t.now t.ptp).number m.seq)).setSession m.session (x.taken t.now t.ptp m.seq)

/-- The state in which its request starts: its objects are busy, and what it addresses is marked. -/
def State.started (t : State) (m : Msg) (x : Session) (r : Req) : State :=
  ((t.takenUp m x).addressed r).foldl (fun u a => u.mark m.session m.seq a) ((t.takenUp m x).engage m.session m.seq r)

theorem State.session_takenUp (t : State) (m : Msg) (x : Session) :
    (t.takenUp m x).session m.session = some (x.taken t.now t.ptp m.seq) := State.session_setSession ..

theorem State.engage_some {s : State} {n seq : Nat} {r : Req} {x : Session} (h : s.session n = some x) :
    s.engage n seq r = s.setSession n { x with busy := x.busy ++ [(seq, r.objects)] } := by rw [State.engage, h]

/-- A message that waits for none does what its request asks for. -/
theorem Ready.performs {s : State} {m : Msg} {x : Session} {r : Req} (h : Ready s m x r) (dt : Nat) :
    (s.tick dt).message m r = (((s.tick dt).started m x r).perform m.session m.seq
      (x.taken (s.tick dt).now (s.tick dt).ptp m.seq) r).releaseHeld m.session := by
  have starts := State.startReq_begins ((s.tick dt).session_takenUp m x) h.open_ h.order
  exact (h.accept dt).trans ((h.starts ..).trans (congrArg (State.releaseHeld · m.session) starts))

theorem State.started_begun (t : State) (m : Msg) {x : Session} (r : Req) (free : x.held = []) :
    Begun t m.session x m.seq (t.started m x r) := by
  refine .marks ?_ _
  rw [State.engage_some (t.session_takenUp m x)]
  exact .setSession rfl ⟨rfl, free, rfl, rfl, fun a => le_max_left ..⟩

/-- Session n stands in the role and behind the FENCEs of x. -/
def Stands (n : Nat) (x : Session) (u : State) : Prop := ∃ z, u.session n = some z ∧ z.role = x.role ∧ z.fences = x.fences

theorem Stands.mark {n : Nat} {x : Session} {u : State} (h : Stands n x u) (seq a : Nat) : Stands n x (u.mark n seq a) := by
  obtain ⟨z, hz, hr, hf⟩ := h
  rw [State.mark, hz]
  exact ⟨_, State.session_setSession .., hr, hf⟩

theorem State.started_stands (t : State) (m : Msg) (x : Session) (r : Req) : Stands m.session x (t.started m x r) := by
  have engaged : Stands m.session x ((t.takenUp m x).engage m.session m.seq r) := by
    rw [State.engage_some (t.session_takenUp m x)]
    exact ⟨_, State.session_setSession .., rfl, rfl⟩
  unfold State.started
  generalize (t.takenUp m x).engage m.session m.seq r = u at engaged
  induction (t.takenUp m x).addressed r generalizing u with
  | nil => exact engaged
  | cons a l ih => exact ih (u.mark m.session m.seq a) (engaged.mark m.seq a)

/-! ## The engine takes an operation -/

/-- The operation of the engine that a message of a session asks for. -/
abbrev operationOf (m : Msg) (op : SalvoOp) : EngineOp := ⟨m.session, m.seq, .request m.session m.seq, op⟩

theorem State.mustQueue_of_no_wait {s : State} (h : s.ce.wait = none) (e : EngineOp) : s.mustQueue e = false := by
  simp [State.mustQueue, h]

theorem State.mustQueue_open {s : State} {e : EngineOp} (h : e.op = .open_) : s.mustQueue e = false := by
  simp [State.mustQueue, h]

/-- What the engine meets when it takes the operation of a message. -/
structure Operates (t : State) (m : Msg) (x : Session) (u : State) : Prop where
  begun : Begun t m.session x m.seq u
  stands : Stands m.session x u

/-- An operation that does not wait behind another one is handled at once. -/
theorem Ready.operates {s : State} {m : Msg} {x : Session} {op : SalvoOp} (h : Ready s m x (.salvo op)) (dt : Nat)
    (free : op = .open_ ∨ s.ce.wait = none) : ∃ u, Operates (s.tick dt) m x u ∧
      (s.tick dt).message m (.salvo op) = (u.runOp (operationOf m op)).releaseHeld m.session := by
  have begun := (s.tick dt).started_begun m (.salvo op) h.free
  refine ⟨_, ⟨begun, (s.tick dt).started_stands m x _⟩, (h.performs dt).trans (congrArg (State.releaseHeld · m.session) ?_)⟩
  refine if_neg (Bool.eq_false_iff.1 ?_)
  rcases free with open_ | idle
  · exact State.mustQueue_open open_
  · refine State.mustQueue_of_no_wait ?_ _
    rw [begun.same]
    exact idle

theorem Operates.salvo {t u : State} {m : Msg} {x : Session} (h : Operates t m x u) (n : Nat) : u.salvo n = t.salvo n := by
  rw [h.begun.same]
  rfl

theorem Operates.ptp {t u : State} {m : Msg} {x : Session} (h : Operates t m x u) : u.ptp = t.ptp := h.begun.ptp

/-- Nothing refuses an operation that its salvo allows to one who may ask for it (R189, R202). -/
theorem State.salvoRefusal_none {s : State} {e : EngineOp} {role : Nat} (active : s.standby = false)
    (allowed : e.op.allowed (s.salvo e.op.number).state = true)
    (stays : ∀ n implicitArm at_, e.op = .take n implicitArm at_ → s.boot.softWait = false)
    (may : s.mayOperate e role = true) : s.salvoRefusal e role = none := by
  unfold State.salvoRefusal
  extract_lets isTake free
  have restart : (isTake && s.boot.softWait) = false := by
    match ho : e.op with
    | .take n i a => simp [stays n i a ho]
    | .open_ | .add .. | .remove .. | .clear _ | .arm _ | .disarm _ | .discard _ => simp [isTake, ho]
  simp [active, allowed, restart, may]

/-- The operations that build a salvo. -/
def SalvoOp.builds : SalvoOp → Bool
  | .open_ | .add .. | .remove .. | .clear _ => true
  | .arm _ | .disarm _ | .take .. | .discard _ => false

/-- The role of the session that asks for an operation. -/
def State.roleFor (s : State) (e : EngineOp) : Nat := (s.session e.session).elim 0 fun z => z.role

section
variable {s : State} {e : EngineOp} {n : Nat} (h : s.salvoRefusal e (s.roleFor e) = none)
include h

theorem State.runOp_builds (he : e.op.builds = true) : s.runOp e = s.editSalvo e (s.roleFor e) := by
  unfold State.roleFor at h
  match ho : e.op with
  | .open_ | .add .. | .remove .. | .clear _ => simp only [State.runOp, h, ho, State.roleFor]
  | .arm _ | .disarm _ | .take .. | .discard _ => simp [ho, SalvoOp.builds] at he

theorem State.runOp_arm (he : e.op = .arm n) : s.runOp e = s.armOp e n := by
  unfold State.roleFor at h
  simp only [State.runOp, h, he, SalvoOp.number]

theorem State.runOp_disarm (he : e.op = .disarm n) (alone : s.mirrors = false) :
    s.runOp e = (s.setMirror n s.noMirror).release e n := by
  unfold State.roleFor at h
  simp only [State.runOp, h, he, SalvoOp.number, alone, Bool.false_eq_true, if_false]

theorem State.runOp_discard (he : e.op = .discard n) (alone : s.mirrors = false) : s.runOp e = s.release e n := by
  unfold State.roleFor at h
  simp only [State.runOp, h, he, SalvoOp.number, alone, Bool.false_eq_true, if_false]

theorem State.runOp_take {implicitArm : Bool} {at_ : Option Nat} (he : e.op = .take n implicitArm at_)
    (armed : (s.salvo n).state = .armed) : s.runOp e = s.takeSteps e n at_ := by
  unfold State.roleFor at h
  simp only [State.runOp, h, he, SalvoOp.number, armed, reduceCtorEq, if_false]

end

/-- A session in its role asks for an operation that the salvo allows it. -/
structure Permitted (s : State) (x : Session) (e : EngineOp) : Prop where
  active : s.standby = false
  allowed : e.op.allowed (s.salvo e.op.number).state = true
  stays : ∀ n implicitArm at_, e.op = .take n implicitArm at_ → s.boot.softWait = false
  may : s.mayOperate e x.role = true

theorem Operates.role {t u : State} {m : Msg} {x : Session} (op : SalvoOp) (h : Operates t m x u) :
    u.roleFor (operationOf m op) = x.role := by
  obtain ⟨z, hz, role, -⟩ := h.stands
  unfold State.roleFor
  rw [hz]
  exact role

theorem Operates.permitted {t u : State} {m : Msg} {x : Session} {op : SalvoOp} (h : Operates t m x u)
    (p : Permitted t x (operationOf m op)) :
    u.salvoRefusal (operationOf m op) (u.roleFor (operationOf m op)) = none := by
  rw [h.role]
  obtain ⟨active, allowed, stays, may⟩ := p
  rw [h.begun.same]
  exact State.salvoRefusal_none active allowed stays may

/-! ## The answer to an operation -/

section
variable {m : Msg} {x : Session} {w : State} (h : Answerable m.session x w)
include h

/-- The answer says the salvo's state and the number of its changes (R468). -/
theorem Answerable.salvo_answers (op : SalvoOp) (n status change b : Nat) :
    answerOf m x 0x30 status (.salvo n (w.salvo n).state.code (w.salvo n).changes.length change (b / tcNs)) ∈
      ((w.replySalvo (operationOf m op) n status 0 change b).releaseHeld m.session).out := h.answers ..

theorem Answerable.replySalvo_only (op : SalvoOp) (n status detail change b : Nat) :
    Only answerReach w ((w.replySalvo (operationOf m op) n status detail change b).releaseHeld m.session) :=
  h.respond_only ..

/-- A salvo that is replaced and reported. -/
theorem Answerable.salvo_set (op : SalvoOp) (n change : Nat) (y : Salvo) :
    let t := ((w.setSalvo n y).replySalvo (operationOf m op) n 0 0 change 0).releaseHeld m.session
    t.salvo n = y ∧ answerOf m x 0x30 0 (.salvo n y.state.code y.changes.length change 0) ∈ t.out := by
  have hs : Answerable m.session x (w.setSalvo n y) := h
  refine ⟨((hs.replySalvo_only ..).salvo n).trans (State.salvo_setSalvo ..), ?_⟩
  have answer := hs.salvo_answers op n 0 change 0
  rwa [State.salvo_setSalvo, Nat.zero_div] at answer

end

end Sys2Proof.Machine
end

section
namespace Sys2Proof.Machine
set_option Elab.async false

/-! ## Building a salvo (R187 to R189) -/

/-- The owner of a STAGED salvo may change it. -/
theorem Permitted.build {t : State} {m : Msg} {x : Session} {op : SalvoOp} {n : Nat} (builds : op.builds = true)
    (named : op ≠ .open_) (number : op.number = n) (active : t.standby = false) (staged : (t.salvo n).state = .staged)
    (owned : (t.salvo n).owner = m.session) : Permitted t x (operationOf m op) := by
  subst number
  have own : ((t.salvo op.number).owner == m.session) = true := by rw [owned, beq_self_eq_true]
  match op with
  | .open_ => exact absurd rfl named
  | .add .. | .remove .. | .clear _ => exact ⟨active, by rw [staged]; rfl, (fun _ _ _ e => nomatch e), own⟩
  | .arm _ | .disarm _ | .take .. | .discard _ => cases builds

/-- SALVO_OPEN gives the session a salvo. -/
theorem salvoOpen_opens {s : State} {dt : Nat} {m : Msg} {x : Session} {k : Nat} (h : Ready s m x (.salvo .open_))
    (active : s.standby = false) (role : 1 ≤ x.role) (choice : s.openChoice = some k) :
    Completes (.salvoOpen dt m) s fun t =>
      (t.salvo k).state = .staged ∧ (t.salvo k).owner = m.session ∧ (t.salvo k).changes = [] ∧
        answerOf m x 0x30 0 (.salvo k 1 0 0xFFFF 0) ∈ t.out := by
  obtain ⟨u, hu, e⟩ := h.operates dt (.inl rfl)
  refine ⟨(s.tick dt).message m _, act_next h.awake, ?_⟩
  have permitted : Permitted (s.tick dt) x (operationOf m .open_) :=
    ⟨active, rfl, (fun _ _ _ e => nomatch e), decide_eq_true role⟩
  have chosen : u.openChoice = some k := by rw [hu.begun.same]; exact choice
  rw [e, State.runOp_builds (hu.permitted permitted) rfl]
  simp only [State.editSalvo, chosen]
  obtain ⟨set, answer⟩ := hu.begun.answerable.salvo_set .open_ k 0xFFFF
    { ({} : Salvo) with state := .staged, owner := m.session, role := u.roleFor (operationOf m .open_) }
  rw [set]
  exact ⟨rfl, rfl, rfl, answer⟩

/-- A salvo with other changes. -/
def Salvo.having (y : Salvo) (l : List Change) : Salvo := { y with changes := l }

section
variable {s : State} {m : Msg} {x : Session} {n : Nat} (active : s.standby = false) (idle : s.ce.wait = none)
  (staged : (s.salvo n).state = .staged) (owned : (s.salvo n).owner = m.session)
include active idle staged owned

/-- An operation that gives the STAGED salvo of its session other changes. -/
theorem Ready.rebuilds {op : SalvoOp} {change : Nat} {l : List Change} (h : Ready s m x (.salvo op)) (dt : Nat)
    (builds : op.builds = true) (named : op ≠ .open_) (number : op.number = n)
    (edits : ∀ u : State, u.objs = s.objs → u.salvo n = s.salvo n → u.editSalvo (operationOf m op) x.role =
      (u.setSalvo n ((s.salvo n).having l)).replySalvo (operationOf m op) n 0 0 change 0) :
    let t := (s.tick dt).message m (.salvo op)
    (t.salvo n).changes = l ∧ (t.salvo n).state = .staged ∧ answerOf m x 0x30 0 (.salvo n 1 l.length change 0) ∈ t.out := by
  obtain ⟨u, hu, e⟩ := h.operates dt (.inr idle)
  have permitted : Permitted (s.tick dt) x (operationOf m op) := .build builds named number active staged owned
  obtain ⟨set, answer⟩ := hu.begun.answerable.salvo_set op n change ((s.salvo n).having l)
  have code : ((s.salvo n).having l).state.code = 1 := by rw [Salvo.having, staged]; rfl
  intro t
  have ht : t = ((u.setSalvo n ((s.salvo n).having l)).replySalvo (operationOf m op) n 0 0 change 0).releaseHeld m.session := by
    rw [← edits u hu.begun.objs (hu.salvo n), ← hu.role op, ← State.runOp_builds (hu.permitted permitted) builds]
    exact e
  rw [ht, set]
  exact ⟨rfl, staged, code ▸ answer⟩

/-- SALVO_ADD adds a change that passes its checks. -/
theorem salvoAdd_adds {dt index sub k : Nat} {value : List Byte} {v : Val} {l : List Change}
    (h : Ready s m x (.salvo (.add n (adr index sub) value)))
    (passes : addCheck (Objs.overlay s.objs (s.salvo n).changes) x.role (adr index sub) value = .inr v)
    (added : addChange (s.salvo n).changes (adr index sub) v = some (k, l)) :
    Completes (.salvoAdd dt m n index sub value) s fun t =>
      (t.salvo n).changes = l ∧ (t.salvo n).state = .staged ∧ answerOf m x 0x30 0 (.salvo n 1 l.length k 0) ∈ t.out := by
  refine ⟨_, act_next h.awake, h.rebuilds active idle staged owned dt rfl SalvoOp.noConfusion rfl fun u objs salvo => ?_⟩
  simp only [State.editSalvo, SalvoOp.number, objs, salvo, passes, added]
  rfl

/-- SALVO_REMOVE takes the change of an object out. -/
theorem salvoRemove_removes {dt index sub : Nat} (h : Ready s m x (.salvo (.remove n (adr index sub)))) :
    Completes (.salvoRemove dt m n index sub) s fun t =>
      (t.salvo n).changes = ((s.salvo n).changes.filter fun c => c.addr != adr index sub) ∧
        answerOf m x 0x30 0 (.salvo n 1 (t.salvo n).changes.length 0xFFFF 0) ∈ t.out := by
  refine ⟨_, act_next h.awake, ?_⟩
  obtain ⟨changes, -, answer⟩ := h.rebuilds active idle staged owned dt (change := 0xFFFF)
    (l := (s.salvo n).changes.filter fun c => c.addr != adr index sub) rfl SalvoOp.noConfusion rfl fun u _ salvo => by
      simp only [State.editSalvo, SalvoOp.number, salvo]
      rfl
  exact ⟨changes, changes ▸ answer⟩

/-- SALVO_CLEAR takes every change out. -/
theorem salvoClear_clears {dt : Nat} (h : Ready s m x (.salvo (.clear n))) :
    Completes (.salvoClear dt m n) s fun t =>
      (t.salvo n).changes = [] ∧ answerOf m x 0x30 0 (.salvo n 1 0 0xFFFF 0) ∈ t.out := by
  refine ⟨_, act_next h.awake, ?_⟩
  obtain ⟨changes, -, answer⟩ := h.rebuilds active idle staged owned dt (change := 0xFFFF) (l := []) rfl SalvoOp.noConfusion rfl
    fun u _ salvo => by
      simp only [State.editSalvo, SalvoOp.number, salvo]
      rfl
  exact ⟨changes, answer⟩

end

/-- Settles O30: an operation that begins meets the salvos of the state of its time, and its answer reports the salvo that it
leaves. -/
theorem salvoBuilds : Obligations.SalvoBuilds := by
  unfold Obligations.SalvoBuilds
  refine ⟨?_, ?_, ?_, ?_⟩
  · exact fun s dt m x k h active role choice => salvoOpen_opens h active role choice
  · exact fun s dt m x n index sub value v k l h active idle staged owned passes added =>
      salvoAdd_adds active idle staged owned h passes added
  · exact fun s dt m x n index sub h active idle staged owned => salvoRemove_removes active idle staged owned h
  · exact fun s dt m x n h active idle staged owned => salvoClear_clears active idle staged owned h

end Sys2Proof.Machine
end

section
namespace Sys2Proof.Machine
set_option Elab.async false

/-! ## What an ARM installs and gives up (R103, R130, R193) -/

/-- What follows the change of a salvo that is armed or no longer armed: reports, and the states of flows. -/
abbrev armReach : Reach :=
  ⟨[.out, .pinned, .ev, .flashJournal, .media, .diskJournal],
    [Obj.rxFlowState, Obj.txFlowState, Obj.portTxFramesB, Obj.portTxFrames, Obj.eventCount, Obj.eventLastAt, Obj.eventLastSubject,
      Obj.portTxBytesB, Obj.portTxBytes], [0x40000004, 0x40000008]⟩

/-- The salvo that an ARM installs. -/
def Salvo.installed (y : Salvo) (reads : List ReadEntry) (pre : List Nat) : Salvo :=
  { y with state := .arming, reads := reads, prejoined := pre }

theorem State.install_after (s : State) (n : Nat) (reads : List ReadEntry) (pre : List Nat) :
    Only armReach (s.setSalvo n ((s.salvo n).installed reads pre)) (s.install n reads pre) := by
  have state (u : State) (i e v : Nat) (hi : i ∈ armReach.objs) : Only armReach u (u.setN i e v) :=
    (State.setN_only ..).mono ⟨by simp, .inl (by simpa using hi), .inl (by simp)⟩
  unfold State.install
  extract_lets y t1 t2 t3
  have h2 : Only armReach t1 t2 := .foldl (fun u e => .ite (.refl _ u) (State.setPre_only ..).up) (.refl _ t1)
  have h3 : Only armReach t1 t3 := .foldl (fun u e => .ite (.refl _ u) (state _ _ _ _ (by decide))) h2
  exact (State.syncMembership_only _).seq (.foldl (fun u e => .ite (.refl _ u) (state _ _ _ _ (by decide))) h3)

theorem State.install_raises (s : State) (n : Nat) (reads : List ReadEntry) (pre : List Nat) :
    Raises [] s (s.install n reads pre) := by
  unfold State.install
  extract_lets y t1 t2 t3
  have h1 : Raises [] s t1 := .of_objs rfl
  have h2 : Raises [] s t2 := .foldl (fun u e => .ite (.refl u) (.of_only (State.setPre_only ..))) h1
  have h3 : Raises [] s t3 := .foldl (fun u e => .ite (.refl u) (.of_only (State.setN_only ..))) h2
  exact (State.syncMembership_raises (l := []) _).seq (.foldl (fun u e => .ite (.refl u) (.of_only (State.setN_only ..))) h3)

theorem State.install_salvo (s : State) (n : Nat) (reads : List ReadEntry) (pre : List Nat) :
    (s.install n reads pre).salvo n = (s.salvo n).installed reads pre :=
  ((s.install_after n reads pre).salvo n).trans (State.salvo_setSalvo ..)

/-- The salvo that gives up its ARM. -/
def Salvo.released (y : Salvo) : Salvo := { y with state := .staged, reads := [], prejoined := [] }

theorem State.unarm_after (s : State) (n : Nat) : Only armReach (s.setSalvo n (s.salvo n).released) (s.unarm n) := by
  unfold State.unarm
  extract_lets l y t1 idle t2 others t3
  have h2 : Only armReach t1 t2 := .foldl (fun u e => (State.setN_only ..).up) (.refl _ t1)
  exact (State.syncMembership_only _).seq (.foldl (fun u e => (State.setN_only ..).up) h2)

theorem State.unarm_salvo (s : State) (n : Nat) : (s.unarm n).salvo n = (s.salvo n).released :=
  ((s.unarm_after n).salvo n).trans (State.salvo_setSalvo ..)

/-! ## An ARM is decided (R193) -/

/-- The salvo that an ARM has decided. -/
def Salvo.armed (y : Salvo) (at_ mirror : Nat) : Salvo :=
  { y with state := .armed, armedAt := at_, mirror := mirror, result := 0, detail := 0 }

theorem State.armDone_owned {s : State} {n : Nat} (owned : (s.salvo n).owner ≠ 0xFFFF) (mirror : Nat) :
    s.armDone n mirror = (s.setSalvo n ((s.salvo n).armed s.ptp mirror)).raise Ev.salvoArmed n := if_neg owned

theorem State.armDone_salvo {s : State} {n : Nat} (owned : (s.salvo n).owner ≠ 0xFFFF) (mirror : Nat) :
    (s.armDone n mirror).salvo n = (s.salvo n).armed s.ptp mirror := by
  rw [State.armDone_owned owned, (State.raise_only ..).salvo, State.salvo_setSalvo]

theorem State.armDone_raised {s : State} {n : Nat} (owned : (s.salvo n).owner ≠ 0xFFFF) (mirror : Nat) :
    Raised Ev.salvoArmed n s (s.armDone n mirror) := by
  rw [State.armDone_owned owned]
  exact (State.raise_raised ..).before (.of_objs (l := []) rfl)

/-- What a reply may change. -/
abbrev replyReach : Reach := ⟨[.out, .mem, .sessions, .gate], [], []⟩

/-- An ARM that is decided is answered. -/
theorem State.afterArm_arm (s : State) {e : EngineOp} {k : Nat} (he : e.op = .arm k) (n mirror : Nat) :
    s.afterArm e n mirror = (s.armDone n mirror).replySalvo e n 0 0 0xFFFF 0 := by
  simp only [State.afterArm, he]

theorem State.armOp_passed {s : State} {e : EngineOp} {n : Nat} {reads : List ReadEntry} {pre : List Nat}
    (h : s.armChecks n (s.salvo n).changes (s.salvo n).role = .passed reads pre)
    (alone : (s.install n reads pre).mirrors = false) :
    s.armOp e n = (s.install n reads pre).afterArm e n (s.install n reads pre).noMirror := by
  simp [State.armOp, State.armStart, h, alone]

/-- The refusal of an ARM is recorded, counted and raised (R214). -/
def State.refuseArm (s : State) (n code detail : Nat) : State :=
  ((s.salvoResult n code detail).bump Obj.armRefusals 0).raise Ev.salvoRefused n

theorem State.armOp_refused {s : State} {e : EngineOp} {n code detail : Nat}
    (h : s.armChecks n (s.salvo n).changes (s.salvo n).role = .refused code detail) :
    s.armOp e n = (s.refuseArm n code detail).replySalvo e n code detail 0xFFFF 0 := by
  simp only [State.armOp, State.armStart, h]
  rfl

/-- What the refusal of an ARM may change. -/
abbrev refuseReach : Reach :=
  ⟨[.out, .pinned, .ev, .salvos, .flashJournal, .diskJournal], Obj.armRefusals :: eventObjs, [0x40000004, 0x40000008]⟩

theorem State.refuseArm_only (s : State) (n code detail : Nat) : Only refuseReach s (s.refuseArm n code detail) :=
  (State.raise_only ..).seq ((State.bump_only ..).seq (State.salvoResult_only ..).up)

theorem State.refuseArm_salvo (s : State) (n code detail : Nat) :
    (s.refuseArm n code detail).salvo n = { s.salvo n with result := code, detail := detail } := by
  rw [State.refuseArm, (State.raise_only ..).salvo, (State.bump_only ..).salvo, State.salvoResult, State.salvo_setSalvo]

theorem State.refuseArm_counted (s : State) (n code detail : Nat) :
    Counted Obj.armRefusals 0 1 s (s.refuseArm n code detail) :=
  ((State.bump_counted (s.salvoResult n code detail) Obj.armRefusals 0).from_same rfl).still (State.raise_only ..)

theorem State.refuseArm_raised (s : State) (n code detail : Nat) : Raised Ev.salvoRefused n s (s.refuseArm n code detail) :=
  (State.raise_raised ..).before (l := []) ((State.bump_raises (l := []) ..).seq (.of_objs rfl))

end Sys2Proof.Machine
end

section
namespace Sys2Proof.Machine
set_option Elab.async false

/-! ## SALVO_ARM, SALVO_DISARM and SALVO_DISCARD -/

theorem State.armChecks_withSessions (s : State) (l : Table Session) (n : Nat) (changes : List Change) (role : Nat) :
    (s.withSessions l).armChecks n changes role = s.armChecks n changes role := rfl

theorem Operates.armChecks {t u : State} {m : Msg} {x : Session} (h : Operates t m x u) (n : Nat) :
    u.armChecks n (u.salvo n).changes (u.salvo n).role = t.armChecks n (t.salvo n).changes (t.salvo n).role := by
  rw [h.salvo n, h.begun.same, State.armChecks_withSessions]

theorem Operates.raises {s u : State} {dt : Nat} {m : Msg} {x : Session} (h : Operates (s.tick dt) m x u) : Raises [] s u :=
  .of_objs h.begun.objs

theorem Only.mirrors {r : Reach} {s t : State} (h : Only r s t) (hp : Part.objs ∉ r.parts := by decide)
    (hr : Obj.twinRole ∉ r.objs := by decide) (hs : Obj.twinReadiness ∉ r.objs := by decide) : t.mirrors = s.mirrors := by
  rw [State.mirrors, h.n _ _ hp hr, h.n _ _ hp hs, State.mirrors]

/-- The owner asks for an operation that the state of its salvo allows. -/
theorem Permitted.owner {t : State} {m : Msg} {x : Session} {op : SalvoOp} {n : Nat} (hop : op = .arm n ∨ op = .disarm n)
    (active : t.standby = false) (allowed : op.allowed (t.salvo n).state = true) (owned : (t.salvo n).owner = m.session) :
    Permitted t x (operationOf m op) := by
  have own : ((t.salvo n).owner == m.session) = true := by rw [owned, beq_self_eq_true]
  rcases hop with rfl | rfl
  · exact ⟨active, allowed, (fun _ _ _ e => nomatch e), own⟩
  · exact ⟨active, allowed, (fun _ _ _ e => nomatch e), own⟩

section
variable {s : State} {dt : Nat} {m : Msg} {x : Session} {n : Nat} (active : s.standby = false) (idle : s.ce.wait = none)
include active idle

/-- A salvo that passes the checks is ARMED with its read set. -/
theorem salvoArm_arms {reads : List ReadEntry} {pre : List Nat} (h : Ready s m x (.salvo (.arm n))) (alone : s.mirrors = false)
    (staged : (s.salvo n).state = .staged) (owned : (s.salvo n).owner = m.session) (real : m.session < 16)
    (passed : (s.tick dt).armChecks n (s.salvo n).changes (s.salvo n).role = .passed reads pre) :
    Completes (.salvoArm dt m n) s fun t =>
      (t.salvo n).state = .armed ∧ (t.salvo n).reads = reads ∧ (t.salvo n).armedAt = t.ptp ∧ (t.salvo n).result = 0 ∧
        Raised Ev.salvoArmed n s t ∧ answerOf m x 0x30 0 (.salvo n 3 (s.salvo n).changes.length 0xFFFF 0) ∈ t.out := by
  obtain ⟨u, hu, e⟩ := h.operates dt (.inr idle)
  refine ⟨(s.tick dt).message m _, act_next h.awake, ?_⟩
  have permitted : Permitted (s.tick dt) x (operationOf m (.arm n)) :=
    .owner (.inl rfl) active (by rw [State.salvo_tick, staged]; rfl) owned
  have salvo : u.salvo n = s.salvo n := hu.salvo n
  let v := u.install n reads pre
  let w := v.armDone n v.noMirror
  have after := u.install_after n reads pre
  have hv : v.salvo n = (s.salvo n).installed reads pre := salvo ▸ u.install_salvo n reads pre
  have single : v.mirrors = false := by
    rw [after.mirrors]
    show u.mirrors = false
    rw [hu.begun.mirrors]
    exact alone
  have real : (v.salvo n).owner ≠ 0xFFFF := by
    rw [hv]
    show (s.salvo n).owner ≠ 0xFFFF
    omega
  have hw : w.salvo n = ((s.salvo n).installed reads pre).armed v.ptp v.noMirror := hv ▸ State.armDone_salvo real _
  have done : Answerable m.session x w :=
    (hu.begun.answerable.after (State.install_only ..)).after (State.armDone_only ..)
  have runs : u.runOp (operationOf m (.arm n)) = w.replySalvo (operationOf m (.arm n)) n 0 0 0xFFFF 0 := by
    rw [State.runOp_arm (hu.permitted permitted) rfl, State.armOp_passed ((hu.armChecks n).trans passed) single,
      State.afterArm_arm _ rfl]
  have last := done.replySalvo_only (.arm n) n 0 0 0xFFFF 0
  have answer := done.salvo_answers (.arm n) n 0 0xFFFF 0
  rw [hw, Nat.zero_div] at answer
  rw [e, runs]
  beta_reduce
  rw [last.salvo, hw, last.ptp, (State.armDone_only v n v.noMirror).ptp]
  refine ⟨rfl, rfl, rfl, rfl, ?_, answer⟩
  have raised : Raised Ev.salvoArmed n u w := (State.armDone_raised real _).before (u.install_raises n reads pre)
  exact (raised.before hu.raises).after (.of_only (l := []) last) last.ptp

/-- One that fails a check stays STAGED with the code. -/
theorem salvoArm_refuses {code detail : Nat} (h : Ready s m x (.salvo (.arm n))) (staged : (s.salvo n).state = .staged)
    (owned : (s.salvo n).owner = m.session)
    (refused : (s.tick dt).armChecks n (s.salvo n).changes (s.salvo n).role = .refused code detail) :
    Completes (.salvoArm dt m n) s fun t =>
      (t.salvo n).state = .staged ∧ (t.salvo n).result = code ∧ (t.salvo n).detail = detail ∧
        Counted Obj.armRefusals 0 1 s t ∧ Raised Ev.salvoRefused n s t := by
  obtain ⟨u, hu, e⟩ := h.operates dt (.inr idle)
  refine ⟨(s.tick dt).message m _, act_next h.awake, ?_⟩
  have permitted : Permitted (s.tick dt) x (operationOf m (.arm n)) :=
    .owner (.inl rfl) active (by rw [State.salvo_tick, staged]; rfl) owned
  have done : Answerable m.session x (u.refuseArm n code detail) := hu.begun.answerable.after (State.refuseArm_only ..)
  have last := done.replySalvo_only (.arm n) n code detail 0xFFFF 0
  have same : u.n Obj.armRefusals 0 = s.n Obj.armRefusals 0 := congrArg (Objs.n · Obj.armRefusals 0) hu.begun.objs
  rw [e, State.runOp_arm (hu.permitted permitted) rfl, State.armOp_refused ((hu.armChecks n).trans refused)]
  beta_reduce
  rw [last.salvo, State.refuseArm_salvo, hu.salvo n]
  refine ⟨staged, rfl, rfl, ((u.refuseArm_counted n code detail).from_same same).still last, ?_⟩
  exact ((u.refuseArm_raised n code detail).before hu.raises).after
    (.of_only (l := []) last) last.ptp

/-- DISARM makes an ARMED salvo STAGED again. -/
theorem salvoDisarm_stages (h : Ready s m x (.salvo (.disarm n))) (alone : s.mirrors = false)
    (armed : (s.salvo n).state = .armed) (owned : (s.salvo n).owner = m.session) :
    Completes (.salvoDisarm dt m n) s fun t =>
      (t.salvo n).state = .staged ∧ (t.salvo n).changes = (s.salvo n).changes ∧ (t.salvo n).reads = [] ∧
        answerOf m x 0x30 0 (.salvo n 1 (s.salvo n).changes.length 0xFFFF 0) ∈ t.out := by
  obtain ⟨u, hu, e⟩ := h.operates dt (.inr idle)
  refine ⟨(s.tick dt).message m _, act_next h.awake, ?_⟩
  have permitted : Permitted (s.tick dt) x (operationOf m (.disarm n)) :=
    .owner (.inr rfl) active (by rw [State.salvo_tick, armed]; rfl) owned
  have single : u.mirrors = false := hu.begun.mirrors.trans alone
  let w := (u.setMirror n u.noMirror).unarm n
  have hw : w.salvo n = Salvo.released { s.salvo n with mirror := u.noMirror } := by
    rw [show w.salvo n = ((u.setMirror n u.noMirror).salvo n).released from State.unarm_salvo .., State.setMirror,
      State.salvo_setSalvo, hu.salvo n]
    rfl
  have done : Answerable m.session x w :=
    (hu.begun.answerable.after (State.setMirror_only ..)).after (State.unarm_only ..)
  have runs : u.runOp (operationOf m (.disarm n)) = w.replySalvo (operationOf m (.disarm n)) n 0 0 0xFFFF 0 :=
    State.runOp_disarm (hu.permitted permitted) rfl single
  have answer := done.salvo_answers (.disarm n) n 0 0xFFFF 0
  rw [hw, Nat.zero_div] at answer
  rw [e, runs]
  beta_reduce
  rw [(done.replySalvo_only ..).salvo, hw]
  exact ⟨rfl, rfl, rfl, answer⟩

/-- DISCARD makes a salvo FREE. -/
theorem salvoDiscard_frees (h : Ready s m x (.salvo (.discard n))) (alone : s.mirrors = false)
    (ends : (s.salvo n).state ∈ [SalvoState.staged, .armed, .done]) (may : (s.salvo n).owner = m.session ∨ x.role = 3) :
    Completes (.salvoDiscard dt m n) s fun t =>
      t.salvo n = {} ∧ answerOf m x 0x30 0 (.salvo n 0 0 0xFFFF 0) ∈ t.out := by
  obtain ⟨u, hu, e⟩ := h.operates dt (.inr idle)
  refine ⟨(s.tick dt).message m _, act_next h.awake, ?_⟩
  have permitted : Permitted (s.tick dt) x (operationOf m (.discard n)) := by
    refine ⟨active, ?_, (fun _ _ _ e => nomatch e), ?_⟩
    · show SalvoOp.allowed (.discard n) (s.salvo n).state = true
      simpa [SalvoOp.allowed, or_assoc] using ends
    · show ((s.salvo n).owner == m.session || x.role == 3) = true
      simpa using may
  have single : u.mirrors = false := hu.begun.mirrors.trans alone
  have hw : (u.freeSalvo n).salvo n = {} := State.salvo_setSalvo ..
  have done : Answerable m.session x (u.freeSalvo n) := hu.begun.answerable.after (State.freeSalvo_only ..)
  have runs : u.runOp (operationOf m (.discard n)) = (u.freeSalvo n).replySalvo (operationOf m (.discard n)) n 0 0 0xFFFF 0 :=
    State.runOp_discard (hu.permitted permitted) rfl single
  have answer := done.salvo_answers (.discard n) n 0 0xFFFF 0
  rw [hw, Nat.zero_div] at answer
  rw [e, runs]
  beta_reduce
  rw [(done.replySalvo_only ..).salvo, hw]
  exact ⟨rfl, answer⟩

end

/-- Settles O31: sessions have no part in the checks of ARM; what is installed and given up leaves the salvo but for its state, read
set and pre-joins; the answer leaves salvos, counters and events. -/
theorem salvoArms : Obligations.SalvoArms := by
  unfold Obligations.SalvoArms
  refine ⟨?_, ?_, ?_, ?_⟩
  · exact fun s dt m x n reads pre h active alone idle staged owned real passed =>
      salvoArm_arms active idle h alone staged owned real passed
  · exact fun s dt m x n code detail h active idle staged owned refused => salvoArm_refuses active idle h staged owned refused
  · exact fun s dt m x n h active alone idle armed owned => salvoDisarm_stages active idle h alone armed owned
  · exact fun s dt m x n h active alone idle ends may => salvoDiscard_frees active idle h alone ends may

end Sys2Proof.Machine
end

section
namespace Sys2Proof.Machine
set_option Elab.async false

/-! ## A TAKE is accepted (R190, R201) -/

theorem lookup_mapValues {α β : Type} (f : α → β) (l : Table α) (k : Nat) :
    (l.map fun (p : Nat × α) => (p.1, f p.2)).lookup k = (l.lookup k).map f := by
  induction l with
  | nil => rfl
  | cons p l ih =>
    obtain ⟨a, v⟩ := p
    cases hk : k == a with
    | true => simp [List.lookup, hk]
    | false => simpa [List.lookup, hk] using ih

/-- A session whose FENCEs note that a TAKE that they wait for is accepted. -/
def Session.noteLate (z : Session) (w : Nat × Nat) (k : Nat) : Session :=
  { z with fences := z.fences.map fun (f : Fence) => if f.waits.contains w then { f with late := f.late ++ [k] } else f }

theorem State.session_noteLate (s : State) (e : EngineOp) (k n : Nat) :
    (s.noteLate e k).session n = (s.session n).map fun z => z.noteLate (e.slot e.place) k :=
  lookup_mapValues (fun z => Session.noteLate z (e.slot e.place) k) s.il.sessions n

/-- The state in which a TAKE has been accepted, before its answer. -/
def State.taken (s : State) (e : EngineOp) (n b mirror : Nat) : State :=
  let k := s.ce.takes + 1
  let t := { s with ce := { s.ce with takes := k } }.noteLate e k
  t.setSalvo n { t.salvo n with
    state := .pending
    boundary := b
    accepted := k
    takeSession := e.session
    takeSeq := e.place
    mirror := mirror
    result := 0
    detail := 0 }

theorem State.acceptTake_eq (s : State) (e : EngineOp) (n b mirror : Nat) :
    s.acceptTake e n b mirror = (s.taken e n b mirror).replySalvo e n 0 0 0xFFFF b := rfl

/-- The salvo of a TAKE that has been accepted. -/
structure Salvo.Pends (y : Salvo) (old : Salvo) (b accepted mirror : Nat) : Prop where
  state : y.state = .pending
  boundary : y.boundary = b
  accepted : y.accepted = accepted
  mirror : y.mirror = mirror
  changes : y.changes = old.changes

theorem State.taken_pends (s : State) (e : EngineOp) (n b mirror : Nat) :
    ((s.taken e n b mirror).salvo n).Pends (s.salvo n) b (s.ce.takes + 1) mirror := by
  unfold State.taken
  extract_lets k t y
  rw [State.salvo_setSalvo]
  exact ⟨rfl, rfl, rfl, rfl, rfl⟩

theorem Answerable.taken {n : Nat} {x : Session} {u : State} (h : Answerable n x u) (e : EngineOp) (k b mirror : Nat) :
    Answerable n x (u.taken e k b mirror) := by
  obtain ⟨z, hz, hd, hh⟩ := h
  refine ⟨z.noteLate (e.slot e.place) (u.ce.takes + 1), ?_, hd, hh⟩
  exact (State.session_noteLate ..).trans (congrArg (Option.map _) hz)

/-! ## SALVO_TAKE (R201, R202) -/

theorem State.takeSteps_accepts {s : State} {e : EngineOp} {n : Nat} {at_ : Option Nat}
    (fresh : s.readsStale n (s.takeBoundary at_) = false) (ordered : s.orderConflict e n (s.takeBoundary at_) = false)
    (timely : s.takeTiming at_ (s.takeBoundary at_) = none) (alone : s.mirrors = false) :
    s.takeSteps e n at_ = s.acceptTake e n (s.takeBoundary at_) s.noMirror := by
  simp [State.takeSteps, fresh, ordered, timely, alone]

/-- Which TAKE precedes which lies with the FENCEs of the session alone (R212). -/
theorem State.orderConflict_withSessions {s : State} {l : Table Session} {e : EngineOp} {z z' : Session}
    (h : s.session e.session = some z) (h' : (s.withSessions l).session e.session = some z') (fences : z'.fences = z.fences)
    (n b : Nat) : (s.withSessions l).orderConflict e n b = s.orderConflict e n b := by
  have precedes (y : Salvo) : (s.withSessions l).precedes y e = s.precedes y e := by
    rw [State.precedes, h', State.precedes, h, Option.elim_some, Option.elim_some, fences]
  simp only [State.orderConflict, precedes]
  rfl

theorem Operates.orderConflict {t u : State} {m : Msg} {x : Session} (h : Operates t m x u) (hx : t.session m.session = some x)
    (op : SalvoOp) (n b : Nat) : u.orderConflict (operationOf m op) n b = t.orderConflict (operationOf m op) n b := by
  obtain ⟨z, hz, -, fences⟩ := h.stands
  have same := h.begun.same
  rw [same] at hz ⊢
  exact State.orderConflict_withSessions (e := operationOf m op) hx hz fences n b

/-- An ARMED salvo whose reads stand, that no conflict meets and whose boundary is neither too near nor too far is PENDING. -/
theorem salvoTake_pends {s : State} {dt : Nat} {m : Msg} {x : Session} {n : Nat} {implicitArm : Bool} {at_ : Option Nat} {b : Nat}
    (h : Ready s m x (.salvo (.take n implicitArm at_))) (active : s.standby = false) (alone : s.mirrors = false)
    (idle : s.ce.wait = none) (stays : s.boot.softWait = false) (role : 1 ≤ x.role) (armed : (s.salvo n).state = .armed)
    (hb : b = (s.tick dt).takeBoundary at_) (fresh : (s.tick dt).readsStale n b = false)
    (ordered : (s.tick dt).orderConflict (operationOf m (.take n implicitArm at_)) n b = false)
    (timely : (s.tick dt).takeTiming at_ b = none) :
    Completes (.salvoTake dt m n implicitArm at_) s fun t =>
      (t.salvo n).state = .pending ∧ (t.salvo n).boundary = b ∧ (t.salvo n).accepted = s.ce.takes + 1 ∧
        answerOf m x 0x30 0 (.salvo n 4 (s.salvo n).changes.length 0xFFFF (b / tcNs)) ∈ t.out := by
  obtain ⟨u, hu, e⟩ := h.operates dt (.inr idle)
  refine ⟨(s.tick dt).message m _, act_next h.awake, ?_⟩
  let op := SalvoOp.take n implicitArm at_
  have permitted : Permitted (s.tick dt) x (operationOf m op) :=
    ⟨active, by show (_ == _ || _) = true; rw [State.salvo_tick, show op.number = n from rfl, armed]; rfl,
      (fun _ _ _ _ => stays), decide_eq_true role⟩
  have boundary : u.takeBoundary at_ = b := by
    rw [hb, hu.begun.same]
    rfl
  have fresh : u.readsStale n (u.takeBoundary at_) = false := by
    rw [boundary, hu.begun.same]
    exact fresh
  have ordered : u.orderConflict (operationOf m op) n (u.takeBoundary at_) = false := by
    rw [boundary, hu.orderConflict h.session]
    exact ordered
  have timely : u.takeTiming at_ (u.takeBoundary at_) = none := by
    rw [boundary, hu.begun.same]
    exact timely
  let w := u.taken (operationOf m op) n b u.noMirror
  have runs : u.runOp (operationOf m op) = w.replySalvo (operationOf m op) n 0 0 0xFFFF b := by
    rw [State.runOp_take (hu.permitted permitted) rfl ((hu.salvo n).symm ▸ armed),
      State.takeSteps_accepts fresh ordered timely (hu.begun.mirrors.trans alone), boundary]
    exact State.acceptTake_eq ..
  have done : Answerable m.session x w := hu.begun.answerable.taken ..
  have pends := u.taken_pends (operationOf m op) n b u.noMirror
  have takes : u.ce.takes = s.ce.takes := by
    rw [hu.begun.same]
    rfl
  have answer := done.salvo_answers op n 0 0xFFFF b
  rw [pends.state, pends.changes, hu.salvo n] at answer
  rw [e, runs]
  beta_reduce
  rw [(done.replySalvo_only ..).salvo]
  exact ⟨pends.state, pends.boundary, takes ▸ pends.accepted, answer⟩

end Sys2Proof.Machine
end

section
namespace Sys2Proof.Machine
set_option Elab.async false

/-! ## The standby has acknowledged, or its time is up (R206, R207) -/

/-- The engine waits for the standby no more. -/
def State.waitOff (s : State) : State := { s with ce := { s.ce with wait := none } }

/-- The rest of an operation that waited, where none waits behind it. -/
theorem Only.engineRest {r : Reach} {s t : State} (h : Only r s t) (hp : Part.engine ∉ r.parts := by decide) :
    t.ce.wait = s.ce.wait ∧ t.ce.queue = s.ce.queue := by
  have e : Part.engine.same s t := h.part .engine hp (by decide) (by decide)
  obtain ⟨-, -, -, -, wait, queue, -⟩ := CommitEngine.mk.inj e
  exact ⟨wait, queue⟩

/-- The operations that wait behind one are handled. -/
def State.pumpRest (s : State) : State := State.pump s.ce.queue.length s

theorem State.pumpRest_nil {s : State} (h : s.ce.queue = []) : s.pumpRest = s := by
  rw [State.pumpRest, h]
  rfl

section
variable {s : State} {e : EngineOp} {n b sentAt : Nat} (queue : s.ce.queue = [])
include queue

theorem State.mirrorEnd_arm (mirror : Nat) (wait : s.ce.wait = some ⟨e, false, b, sentAt, false⟩) (he : e.op = .arm n) :
    s.mirrorEnd mirror = (s.waitOff.armDone n mirror).replySalvo e n 0 0 0xFFFF 0 := by
  have rest : ((s.waitOff.armDone n mirror).replySalvo e n 0 0 0xFFFF 0).ce.queue = [] := by
    rw [(State.replySalvo_only ..).engineRest.2, (State.armDone_only ..).engineRest.2]
    exact queue
  have goes : s.mirrorEnd mirror = (s.waitOff.afterArm e n mirror).pumpRest := by
    simp only [State.mirrorEnd, wait, he, SalvoOp.number]
    rfl
  rw [goes, State.afterArm_arm _ he, State.pumpRest_nil rest]

theorem State.mirrorEnd_take {implicitArm : Bool} {at_ : Option Nat} (mirror : Nat)
    (wait : s.ce.wait = some ⟨e, true, b, sentAt, false⟩) (he : e.op = .take n implicitArm at_) (same : s.takeBoundary at_ = b)
    (timely : s.takeTiming at_ b = none) :
    s.mirrorEnd mirror = (s.waitOff.taken e n b mirror).replySalvo e n 0 0 0xFFFF b := by
  have rest : ((s.waitOff.taken e n b mirror).replySalvo e n 0 0 0xFFFF b).ce.queue = [] := by
    rw [(State.replySalvo_only ..).engineRest.2]
    exact queue
  have accepted : s.waitOff.takeMirrored e n b mirror at_ = s.waitOff.acceptTake e n b mirror := by
    have same : s.waitOff.takeBoundary at_ = b := same
    have timely : s.waitOff.takeTiming at_ b = none := timely
    simp [State.takeMirrored, same, timely]
  have goes : s.mirrorEnd mirror = (s.waitOff.takeMirrored e n b mirror at_).pumpRest := by
    simp only [State.mirrorEnd, wait, he, SalvoOp.number]
    rfl
  rw [goes, accepted, State.acceptTake_eq, State.pumpRest_nil rest]

end

/-- An ARM that waited for the standby is decided. -/
structure MirroredArm (n mirror : Nat) (s t : State) : Prop where
  state : (t.salvo n).state = .armed
  mirror : (t.salvo n).mirror = mirror
  wait : t.ce.wait = none
  raised : Raised Ev.salvoArmed n s t
  twin : t.tw = s.tw

theorem State.mirrorEnd_armed {s : State} {e : EngineOp} {n b sentAt : Nat} (mirror : Nat)
    (wait : s.ce.wait = some ⟨e, false, b, sentAt, false⟩) (he : e.op = .arm n) (queue : s.ce.queue = [])
    (owned : (s.salvo n).owner ≠ 0xFFFF) : MirroredArm n mirror s (s.mirrorEnd mirror) := by
  rw [State.mirrorEnd_arm queue mirror wait he]
  have last := (s.waitOff.armDone n mirror).replySalvo_only e n 0 0 0xFFFF 0
  have armed := s.waitOff.armDone_only n mirror
  have salvo := (last.salvo n).trans (State.armDone_salvo (s := s.waitOff) owned mirror)
  have raised : Raised Ev.salvoArmed n s (s.waitOff.armDone n mirror) := State.armDone_raised (s := s.waitOff) owned mirror
  exact ⟨by rw [salvo]; rfl, by rw [salvo]; rfl, last.engineRest.1.trans armed.engineRest.1,
    raised.after (.of_only (l := []) last) last.ptp, (last.same .tw).trans (armed.same .tw)⟩

/-- SALVO_MIRROR_ACK lets an ARM go on. -/
theorem salvoMirrorAck_arms {s : State} {dt n : Nat} {e : EngineOp} {b sentAt : Nat} (awake : s.awake)
    (wait : s.ce.wait = some ⟨e, false, b, sentAt, false⟩) (he : e.op = .arm n) (queue : s.ce.queue = [])
    (owned : (s.salvo n).owner ≠ 0xFFFF) (within : s.now + dt ≤ sentAt + 2000000) :
    Completes (.salvoMirrorAck dt n) s fun t =>
      (t.salvo n).state = .armed ∧ (t.salvo n).mirror = 1 ∧ t.ce.wait = none ∧ Raised Ev.salvoArmed n s t := by
  have next : execSalvoMirrorAck dt n s = .next ((s.tick dt).mirrorEnd 1) := by
    refine actIf_next awake ?_
    rw [show (s.tick dt).ce.wait = _ from wait]
    simp only [Option.elim_some, he, SalvoOp.number, beq_self_eq_true, Bool.not_false, Bool.true_and]
    exact decide_eq_true within
  refine ⟨_, next, ?_⟩
  have done := State.mirrorEnd_armed (s := s.tick dt) 1 wait he queue owned
  exact ⟨done.state, done.mirror, done.wait, done.raised⟩

theorem State.loseMirror_lost (s : State) : s.loseMirror.tw.mirrorLost = true := by
  have started (t : State) (h : t.tw.mirrorLost = true) : t.startResync.tw.mirrorLost = true := h
  unfold State.loseMirror
  extract_lets y t
  rw [(State.refreshTwin_only _).part .tw (by decide) (by decide) (by decide)]
  split
  · exact started t rfl
  · rfl

/-- The end of its time lets an ARM go on too. -/
theorem mirrorTimeout_arms {s : State} {dt n : Nat} {e : EngineOp} {b sentAt : Nat} (awake : s.awake)
    (wait : s.ce.wait = some ⟨e, false, b, sentAt, false⟩) (he : e.op = .arm n) (queue : s.ce.queue = [])
    (owned : (s.salvo n).owner ≠ 0xFFFF) (late : sentAt + 2000000 ≤ s.now + dt) :
    Completes (.mirrorTimeout dt n) s fun t =>
      (t.salvo n).state = .armed ∧ (t.salvo n).mirror = 3 ∧ t.ce.wait = none ∧ t.tw.mirrorLost = true := by
  have next : execMirrorTimeout dt n s = .next ((s.tick dt).loseMirror.mirrorEnd 3) := by
    refine actIf_next awake ?_
    rw [show (s.tick dt).ce.wait = _ from wait]
    simp only [Option.elim_some, he, SalvoOp.number, beq_self_eq_true, Bool.true_and]
    exact decide_eq_true late
  refine ⟨_, next, ?_⟩
  have lost := (s.tick dt).loseMirror_only
  have done := State.mirrorEnd_armed (s := (s.tick dt).loseMirror) 3 (lost.engineRest.1.trans wait) he
    (lost.engineRest.2.trans queue) ((lost.salvo n).symm ▸ owned)
  exact ⟨done.state, done.mirror, done.wait, by rw [done.twin]; exact State.loseMirror_lost _⟩

/-- TAKE_MIRROR_ACK lets a TAKE go on. -/
theorem takeMirrorAck_pends {s : State} {dt n : Nat} {implicitArm : Bool} {at_ : Option Nat} {e : EngineOp} {b sentAt : Nat}
    (awake : s.awake) (wait : s.ce.wait = some ⟨e, true, b, sentAt, false⟩) (he : e.op = .take n implicitArm at_)
    (queue : s.ce.queue = []) (within : s.now + dt ≤ sentAt + 2000000) (same : (s.tick dt).takeBoundary at_ = b)
    (timely : (s.tick dt).takeTiming at_ b = none) :
    Completes (.takeMirrorAck dt n) s fun t =>
      (t.salvo n).state = .pending ∧ (t.salvo n).boundary = b ∧ (t.salvo n).mirror = 1 ∧ t.ce.wait = none := by
  have next : execTakeMirrorAck dt n s = .next ((s.tick dt).mirrorEnd 1) := by
    refine actIf_next awake ?_
    rw [show (s.tick dt).ce.wait = _ from wait]
    simp only [Option.elim_some, he, SalvoOp.number, beq_self_eq_true, Bool.true_and]
    exact decide_eq_true within
  refine ⟨_, next, ?_⟩
  rw [State.mirrorEnd_take (s := s.tick dt) queue 1 wait he same timely]
  have last := ((s.tick dt).waitOff.taken e n b 1).replySalvo_only e n 0 0 0xFFFF b
  have pends := (s.tick dt).waitOff.taken_pends e n b 1
  beta_reduce
  rw [last.salvo n, last.engineRest.1]
  exact ⟨pends.state, pends.boundary, pends.mirror, rfl⟩

/-- Settles O32: of a request that has begun the checks of a TAKE see the salvos of the state of its time and the FENCEs of its
session; what waited for the standby goes on as the operation that it is, with nothing behind it. -/
theorem salvoTakes : Obligations.SalvoTakes := by
  unfold Obligations.SalvoTakes
  refine ⟨?_, ?_, ?_, ?_⟩
  · exact fun s dt m x n implicitArm at_ b h active alone idle stays role armed hb fresh ordered timely =>
      salvoTake_pends h active alone idle stays role armed hb fresh ordered timely
  · exact fun s dt n e b sentAt awake wait he queue owned within => salvoMirrorAck_arms awake wait he queue owned within
  · exact fun s dt n e b sentAt awake wait he queue owned late => mirrorTimeout_arms awake wait he queue owned late
  · exact fun s dt n implicitArm at_ e b sentAt awake wait he queue within same timely =>
      takeMirrorAck_pends awake wait he queue within same timely

end Sys2Proof.Machine
end

section
/-!
SUPPORT. What a request does comes after what has been sent before (`OutKept`): the blocks that meet a written value.
-/
namespace Sys2Proof.Machine
set_option Elab.async false

/-- After another function, one whose reach has no output. -/
theorem OutKept.still {r : Reach} {s t u : State} (h : Only r t u) (g : OutKept s t) (hp : Part.out ∉ r.parts := by decide) :
    OutKept s u := (OutKept.of_only h hp).seq g

/-- An update of other parts. -/
theorem OutKept.upd {s t u : State} (g : OutKept s t) (h : u.out = t.out) : OutKept s u := (OutKept.of_eq h).seq g

theorem OutKept.emit {s t : State} (g : OutKept s t) (o : Out) : OutKept s (t.emit o) := (t.emit_outKept o).seq g

theorem OutKept.raise {s t : State} (g : OutKept s t) (src subj : Nat) : OutKept s (t.raise src subj) :=
  (t.raise_outKept src subj).seq g

theorem OutKept.bump {s t : State} (g : OutKept s t) (i k by_ : Nat) : OutKept s (t.bump i k by_) :=
  (t.bump_outKept i k by_).seq g

theorem OutKept.setN {s t : State} (g : OutKept s t) (i k v : Nat) : OutKept s (t.setN i k v) := g.upd (t.setN_out i k v)

theorem OutKept.fold {α : Type} {f : State → α → State} {xs : List α} {s t : State} (h : ∀ u x, OutKept u (f u x))
    (g : OutKept s t) : OutKept s (xs.foldl f t) := (OutKept.foldl h).seq g

theorem OutKept.optElim {α : Type} {o : Option α} {s d : State} {f : α → State} (h : ∀ x, OutKept s (f x))
    (g : OutKept s d) : OutKept s (o.elim d f) := by
  cases o
  · exact g
  · exact h _

theorem State.setReason_outKept (s : State) (k : Nat) (v : Bool) : OutKept s (s.setReason k v) := by
  unfold State.setReason
  extract_lets old s1 new s2
  have h2 : OutKept s s2 := .setN (.of_eq (s.setBitN_out ..)) _ _ _
  exact .ite h2 (h2.raise ..)

/-! ## Frame stores -/

theorem State.abandonFrame_outKept (s : State) (slot : Nat) : OutKept s (s.abandonFrame slot) := by
  unfold State.abandonFrame
  split
  · exact (State.bump_outKept ..).seq (.of_only (State.setSrc_only ..))
  · exact .refl s

theorem State.finishFrame_outKept (s : State) (slot seq : Nat) : OutKept s (s.finishFrame slot seq) := by
  unfold State.finishFrame
  split
  · exact (State.bump_outKept ..).seq (.setN (.of_only (State.setSrc_only ..)) _ _ _)
  · exact .refl s

theorem State.finishTimed_outKept (s : State) (slot : Nat) : OutKept s (s.finishTimed slot) :=
  .foldl fun u n => u.finishFrame_outKept slot n

theorem State.refreshColour_outKept (s : State) (slot : Nat) (f : Feed) : OutKept s (s.refreshColour slot f) := by
  unfold State.refreshColour
  extract_lets c t
  have ht : OutKept s t := (OutKept.refl s).setN ..
  exact .ite (.refl s) (.ite (ht.raise ..) ht)

theorem State.refreshSlot_outKept (s : State) (slot : Nat) : OutKept s (s.refreshSlot slot) := by
  unfold State.refreshSlot
  extract_lets f reserved raw excess locked was wasOver s1 s2 s3 s4 x t y s5
  have h3 : OutKept s s3 := .setN (.setN (.setN (.refl s) _ _ _) _ _ _) _ _ _
  have h4 : OutKept s s4 := .ite (h3.raise ..) h3
  have ht : OutKept s t := (State.abandonFrame_outKept ..).seq h4
  have lock (u : State) (y) (h : OutKept s u) : OutKept s (u.setSrc slot y) := .still (State.setSrc_only ..) h
  have h5 : OutKept s s5 := .ite ((lock _ _ h4).raise ..) (.ite ((lock _ _ ht).raise ..) h4)
  exact (State.refreshColour_outKept ..).seq h5

theorem State.refreshSlots_outKept (s : State) (l : List Nat) : OutKept s (s.refreshSlots l) :=
  .foldl fun u slot => u.refreshSlot_outKept slot

theorem State.settle_outKept (s : State) (slot : Nat) : OutKept s (s.settle slot) :=
  .ite (.refl s) (.ite ((State.refreshSlot_outKept ..).seq (s.finishTimed_outKept slot)) (s.finishTimed_outKept slot))

/-! ## Event pins and paths -/

theorem State.evPinAck_outKept (s : State) (value : Nat) : OutKept s (s.evPinAck value) :=
  .foldl fun u _ => .ite (.refl u) (.ite (State.setEvPin_outKept ..) (State.setEvPin_outKept ..))

theorem State.checkPath_outKept (s : State) (ch : Nat) : OutKept s (s.checkPath ch) := by
  unfold State.checkPath
  extract_lets x rate main y b t
  exact .ite (.ite (.refl s) (.of_only (State.setAout_only ..))) (.still (State.setAout_only ..) (s.raise_outKept ..))

theorem State.checkPaths_outKept (s : State) : OutKept s s.checkPaths := .foldl fun u ch => u.checkPath_outKept ch

/-! ## Moraine -/

theorem State.endRecord_outKept (s : State) (r state : Nat) : OutKept s (s.endRecord r state) := by
  unfold State.endRecord
  extract_lets x y t
  have ht : OutKept s t := .of_only (State.setClip_only ..)
  exact .raise (.setN (.still (State.setRecorder_only ..) ht) _ _ _) _ _

theorem State.poolDown_outKept (s : State) : OutKept s s.poolDown := by
  unfold State.poolDown
  extract_lets running s1 s2 y s3
  have h1 : OutKept s s1 := .foldl fun u r => u.endRecord_outKept r 3
  have h2 : OutKept s s2 := .fold (fun u l => .of_only (State.emptyRing_only ..)) h1
  exact (State.refreshSlots_outKept ..).seq (h2.upd rfl)

theorem State.refreshPool_outKept (s : State) : OutKept s s.refreshPool := by
  unfold State.refreshPool
  extract_lets v y s0 old t u
  have h0 : OutKept s s0 := by
    unfold s0
    split
    · refine .ite (.still (State.journal_only ..) ?_) (.refl s)
      exact .of_eq rfl
    · exact .refl s
  have ht : OutKept s t := h0.setN ..
  have hu : OutKept s u := .ite (.still (State.poolUp_only ..) ht) (.ite ((State.poolDown_outKept t).seq ht) ht)
  exact .ite h0 ((State.setReason_outKept ..).seq (hu.raise ..))

theorem State.morFormat_outKept (s : State) : OutKept s s.morFormat := by
  unfold State.morFormat
  extract_lets set
  split
  next ident t drawn =>
  have ht : OutKept s t := .of_only (Only.snd drawn (State.draw_only s))
  extract_lets y u1 u2 u3 u4
  have h1 : OutKept s u1 := ht.upd rfl
  have h2 : OutKept s u2 := .fold (fun u d => .setN (.of_only (State.setDrive_only ..)) _ _ _) h1
  have h3 : OutKept s u3 := .fold (fun u i => .setN (.setN (.refl u) _ _ _) _ _ _) h2
  exact .setN ((State.refreshPool_outKept u3).seq h3) _ _ _

/-! ## Lanes -/

theorem State.refreshLaneSlot_outKept (s : State) (lane : Nat) : OutKept s (s.refreshLaneSlot lane) :=
  .ite (.refl s) (State.refreshSlot_outKept ..)

theorem State.rxDown_outKept (s : State) (lane toState : Nat) : OutKept s (s.rxDown lane toState) := by
  unfold State.rxDown
  extract_lets was s1 s2 x s3 y s4 lead
  have h1 : OutKept s s1 := (OutKept.refl s).setN ..
  have h2 : OutKept s s2 := .ite (.still (State.toDefault_only ..) h1) h1
  have h3 : OutKept s s3 := .ite (.still (State.setRxLane_only ..) h2) h2
  have h4 : OutKept s s4 := .still (State.setRxLane_only ..) (.still (State.clearIdentified_only ..) h3)
  have h5 : OutKept s ((s4.nextFrame lead).feedColour lead 0xFFFF) :=
    .still (State.feedColour_only ..) (.still (State.nextFrame_only ..) h4)
  exact .ite ((State.refreshLaneSlot_outKept ..).seq (h5.raise ..)) h3

theorem State.refreshLane_outKept (s : State) (lane : Nat) : OutKept s (s.refreshLane lane) :=
  .ite ((OutKept.refl s).setN ..) (.ite (s.rxDown_outKept lane 0) (.refl s))

theorem State.meetPids_outKept (s : State) (lead : Nat) : OutKept s (s.meetPids lead) := by
  unfold State.meetPids
  extract_lets p t slot
  have ht : OutKept s t := .still (State.setLinkOrder_only ..) (.of_only (State.setRxn_only ..))
  exact .ite ht ((State.refreshSlot_outKept ..).seq (.still (State.setSrc_only ..) ht))

theorem State.pidMismatch_outKept (s : State) (lane : Nat) (mismatch : Bool) : OutKept s (s.pidMismatch lane mismatch) :=
  .ite ((State.raise_outKept ..).seq (.of_only (State.setRxLane_only ..))) (.refl s)

theorem State.reidentify_outKept (s : State) (lane : Nat) (pid : Option PayloadId) : OutKept s (s.reidentify lane pid) := by
  unfold State.reidentify
  extract_lets x
  split
  · exact (State.pidMismatch_outKept ..).seq (.of_only (State.identified_only ..))
  · exact .refl s

theorem State.resettle_outKept (s : State) (lane : Nat) : OutKept s (s.resettle lane) :=
  .ite (.still (State.setRxLane_only ..) (s.reidentify_outKept ..)) (.refl s)

theorem State.assumed_outKept (s : State) (lead : Nat) : OutKept s (s.assumed lead) := by
  have ht : OutKept s ((Objs.rxLanes s.objs lead).foldl State.resettle s) := .foldl fun u lane => u.resettle_outKept lane
  exact .ite ht ((State.meetPids_outKept ..).seq ht)

theorem State.laneModeSet_outKept (s : State) (lane : Nat) : OutKept s (s.laneModeSet lane) := by
  unfold State.laneModeSet
  extract_lets m t1 t2 t3
  have h1 : OutKept s t1 := (OutKept.refl s).setN ..
  have h2 : OutKept s t2 := .ite (.still (State.setTaps_only ..) h1) (.still (State.presetTaps_only ..) h1)
  have h3 : OutKept s t3 := .ite h2 (h2.setN ..)
  exact (State.refreshLane_outKept ..).seq h3

/-! ## The Saddle link -/

theorem State.setSaddle_outKept (s : State) (st : Nat) : OutKept s (s.setSaddle st) := by
  unfold State.setSaddle
  extract_lets old t1 t2 y t3
  have h1 : OutKept s t1 := (OutKept.refl s).setN ..
  have h2 : OutKept s t2 := .ite ((h1.bump ..).raise ..) h1
  have h3 : OutKept s t3 := .ite (h2.upd rfl) h2
  exact .ite (.refl s) (.ite (h3.raise ..) h3)

theorem State.sendTrain_outKept (s : State) (k : Nat) : OutKept s (s.sendTrain k) :=
  (State.emit_outKept ..).seq (.of_only (State.setSl_only ..))

theorem State.checkReady_outKept (s : State) : OutKept s s.checkReady := by
  unfold State.checkReady
  extract_lets mine y t
  have ht : OutKept s t := .ite ((State.raise_outKept ..).seq (.of_eq rfl)) (.ite (.of_eq rfl) (.refl s))
  exact .ite ((State.setSaddle_outKept ..).seq ht) ht

theorem State.sendReady_outKept (s : State) : OutKept s s.sendReady :=
  .ite (.refl s) ((State.checkReady_outKept _).seq (.foldl fun u _ => u.sendTrain_outKept _))

theorem State.saddleAlign_outKept (s : State) : OutKept s s.saddleAlign := .ite (s.setSaddle_outKept 1) (.refl s)

theorem State.saddleLaneLost_outKept (s : State) (k : Nat) : OutKept s (s.saddleLaneLost k) := by
  unfold State.saddleLaneLost
  extract_lets x y t
  have ht : OutKept s t := .of_only (State.setSl_only ..)
  have aligned : OutKept s t.saddleAlign := t.saddleAlign_outKept.seq ht
  exact aligned.upd rfl

theorem State.prbsGenerator_outKept (s : State) (lane : Nat) : OutKept s (s.prbsGenerator lane) :=
  .ite s.saddleAlign_outKept (.refl s)

theorem State.slipLane_outKept (s : State) (k : Nat) : OutKept s (s.slipLane k) := by
  unfold State.slipLane
  split
  · exact .refl s
  · extract_lets x t
    have ht : OutKept s t := .of_only (State.setSl_only ..)
    exact .ite ((State.saddleLaneLost_outKept ..).seq (ht.setN ..)) ht

theorem State.trainRequest_outKept (s : State) (r v : Nat) : OutKept s (s.trainRequest r v) :=
  (State.sendTrain_outKept ..).seq (.of_only (State.setSl_only ..))

theorem State.saddleRestart_outKept (s : State) : OutKept s s.saddleRestart := by
  unfold State.saddleRestart
  split
  · exact .refl s
  · extract_lets t1 y t2
    have h1 : OutKept s t1 := .foldl fun u k => .still (State.presetTaps_only ..) (.of_only (State.setSl_only ..))
    have retrain (u : State) (h : OutKept s u) : OutKept s { u with sad := { u.sad with doneRaised := false } } := h.upd rfl
    have h2 : OutKept s t2 := retrain t1 h1
    exact .ite h2 ((State.setSaddle_outKept ..).seq h2)

/-! ## Membership -/

theorem State.countTx_outKept (s : State) (port bytes : Nat) : OutKept s (s.countTx port bytes) :=
  ((OutKept.refl s).bump ..).bump ..

theorem State.report_outKept (s : State) (port : Nat) (r : List Byte × Bool × List (List Byte)) : OutKept s (s.report port r) :=
  .ite ((s.countTx_outKept ..).emit _) (.refl s)

theorem State.changeReport_outKept (s : State) (port : Nat) (r : List Byte × Bool × List (List Byte)) :
    OutKept s (s.changeReport port r) := .still (State.setPort_only ..) (s.report_outKept port r)

theorem State.syncPort_outKept (s : State) (port : Nat) : OutKept s (s.syncPort port) :=
  .fold (fun u r => u.changeReport_outKept port r) (.of_only (State.setPort_only ..))

theorem State.syncMembership_outKept (s : State) : OutKept s s.syncMembership := .foldl fun u p => u.syncPort_outKept p

/-! ## Watershed -/

theorem State.refreshFp_outKept (s : State) (n : Nat) : OutKept s (s.refreshFp n) := by
  unfold State.refreshFp
  extract_lets old new t x
  have ht : OutKept s t := (OutKept.refl s).setN ..
  exact .ite (ht.raise ..) (.ite ((State.raise_outKept ..).seq (ht.upd rfl)) ht)

theorem State.refreshFps_outKept (s : State) : OutKept s s.refreshFps := .foldl fun u n => u.refreshFp_outKept n

theorem State.setRefState_outKept (s : State) (r st : Nat) : OutKept s (s.setRefState r st) := by
  unfold State.setRefState
  extract_lets old t1 t2 y t3
  have h1 : OutKept s t1 := (OutKept.refl s).setN ..
  have h2 : OutKept s t2 := .ite ((h1.raise ..).bump ..) h1
  have h3 : OutKept s t3 := by
    unfold t3
    split
    · exact .still (State.refHist_only ..) (.still (State.setRef_only ..) h2)
    · exact .still (State.setRef_only ..) h2
    · exact .still (State.refHist_only ..) (h2.raise ..)
    · exact h2
  exact .ite (.refl s) ((State.refreshFps_outKept _).seq h3)

theorem State.refreshQl_outKept (s : State) (r : Nat) : OutKept s (s.refreshQl r) := by
  unfold State.refreshQl
  extract_lets new t1 t2
  have h1 : OutKept s t1 := (OutKept.refl s).setN ..
  have h2 : OutKept s t2 := .ite (.still (State.refHist_only ..) (h1.raise ..)) h1
  refine .ite (.refl s) ?_
  split
  · exact .ite ((State.setRefState_outKept ..).seq h2) h2
  · exact .ite h2 ((State.setRefState_outKept ..).seq h2)
  · exact h2

theorem State.refreshRef_outKept (s : State) (r : Nat) : OutKept s (s.refreshRef r) := by
  unfold State.refreshRef
  extract_lets st u1 u2 t
  have h1 : OutKept s u1 := (State.setRefState_outKept ..).seq (.of_only (State.setRef_only ..))
  have h2 : OutKept s u2 := State.setRefState_outKept ..
  have clear : OutKept s ((((u2.setN Obj.ptpState r 0).toDefault Obj.ptpGmIdentity r).toDefault Obj.ptpClockClass r).setRef r {}) :=
    .still (State.setRef_only ..) (.still (State.toDefault_only ..) (.still (State.toDefault_only ..) (h2.setN ..)))
  have ht : OutKept s t := .ite (.ite (h1.setN ..) h1) (.ite (.ite clear h2) (.refl s))
  exact (State.refreshQl_outKept ..).seq ht

theorem State.stepCounter_outKept (s : State) (by_ : Int) : OutKept s (s.stepCounter by_) := by
  unfold State.stepCounter
  extract_lets t1 y z t2 t3
  have h1 : OutKept s t1 := .of_eq rfl
  have h2 : OutKept s t2 := h1.upd rfl
  have h3 : OutKept s t3 := .fold (fun u r => .ite (.of_only (State.setI_only ..)) (.refl u)) h2
  exact .raise (.still (State.wsHist_only ..) h3) _ _

theorem State.timeSet_outKept (s : State) (ns : Nat) : OutKept s (s.timeSet ns) := s.stepCounter_outKept _

theorem State.fpWritten_outKept (s : State) (n : Nat) : OutKept s (s.fpWritten n) :=
  (State.refreshFp_outKept ..).seq (.ite (.of_only (State.setFp_only ..)) (.of_only (State.setFp_only ..)))

theorem State.fpIdle_outKept (s : State) (n : Nat) : OutKept s (s.fpIdle n) := s.emit_outKept _

theorem State.wsWritten_outKept (s : State) (i k : Nat) : OutKept s (s.wsWritten i k) :=
  .ite (s.refreshRef_outKept k) (.ite (.ite (.ite (s.fpWritten_outKept k) (.refl s))
    ((State.fpIdle_outKept ..).seq (s.fpWritten_outKept k)))
    (.ite (s.fpWritten_outKept k) (.ite (s.fpIdle_outKept k) (.refl s))))

theorem State.wsSetting_outKept (s : State) (old : Objs) (i n : Nat) : OutKept s (s.wsSetting old i n) :=
  .ite (.fold (fun u lane => u.refreshLane_outKept lane) (s.wsWritten_outKept i n)) (s.wsWritten_outKept i n)

theorem State.laneSetting_outKept (s : State) (i n : Nat) : OutKept s (s.laneSetting i n) :=
  .ite (s.laneModeSet_outKept n) (.ite (.ite (.of_only (s.presetTaps_only n)) (.refl s)) (.ite (s.prbsGenerator_outKept n)
    (.ite (.of_only (s.prbsSet_only n)) (.ite (.of_only (s.octetHold_only n)) (.ite s.sendReady_outKept (.refl s))))))

/-! ## Tarn ports and control ports -/

theorem State.setSrcState_outKept (s : State) (p st : Nat) : OutKept s (s.setSrcState p st) :=
  .ite (.refl s) ((State.raise_outKept ..).seq (.of_eq (s.setRegField_out ..)))

theorem State.refreshSrc_outKept (s : State) (p : Nat) : OutKept s (s.refreshSrc p) := s.setSrcState_outKept ..

theorem State.tarnStop_outKept (s : State) (p : Nat) : OutKept s (s.tarnStop p) :=
  (State.refreshSrc_outKept ..).seq (.still (State.setTstat_only ..) (.still (State.setTstat_only ..) (.of_only (State.setTp_only ..))))

theorem State.tarnCfgErr_outKept (s : State) (p : Nat) : OutKept s (s.tarnCfgErr p) :=
  (State.raise_outKept ..).seq (.of_only (State.setTstat_only ..))

theorem State.tarnCtrlWrite_outKept (s : State) (p value : Nat) : OutKept s (s.tarnCtrlWrite p value) := by
  unfold State.tarnCtrlWrite
  extract_lets a old v0 v t
  have set (w : Nat) : OutKept s (s.setRegN a w) := .of_eq (s.setRegN_out a w)
  have ht : OutKept s t := .still (State.tarnRate_only ..) (set v)
  exact .ite (.ite (s.tarnCfgErr_outKept p) (.ite (.refl s) ((State.tarnStop_outKept ..).seq (set v))))
    (.ite ((State.tarnCfgErr_outKept ..).seq (set (v - 1)))
      (.ite (.still (State.tarnEnable_only ..) ht) ((State.refreshSrc_outKept ..).seq ht)))

theorem State.tarnCtrlObject_outKept (s : State) (n : Nat) : OutKept s (s.tarnCtrlObject n) :=
  (s.tarnCtrlWrite_outKept ..).setN ..

theorem State.ctlDown_outKept (s : State) (port : Nat) : OutKept s (s.ctlDown port) := by
  unfold State.ctlDown
  extract_lets t1 t2 y t3
  have h1 : OutKept s t1 := .upd (.of_eq (s.setRegBit_out ..)) (State.setRegField_out ..)
  have h2 : OutKept s t2 := .still (State.cmacIrq_only ..) (h1.upd (State.setRegBit_out ..)) (by simp)
  exact .raise (.still (State.setCtlPort_only ..) h2) _ _

theorem State.cmacCtrl_outKept (s : State) (port value : Nat) : OutKept s (s.cmacCtrl port value) := by
  unfold State.cmacCtrl
  extract_lets t1 m started y t2
  have h1 : OutKept s t1 := .of_only (State.busWrite_only ..) (by simp)
  have h2 : OutKept s t2 := .ite (.still (State.setCtlPort_only ..) h1) h1
  exact .ite ((State.ctlDown_outKept ..).seq h2) h2

theorem State.ctlSettings_outKept (s : State) (port : Nat) : OutKept s (s.ctlSettings port) :=
  (s.cmacCtrl_outKept ..).upd (State.setRegN_out ..)

/-! ## The pair -/

theorem State.readyStandby_outKept (s : State) : OutKept s s.readyStandby := by
  unfold State.readyStandby
  extract_lets old bits held new bits' t
  have ht : OutKept s t := .setN (.setN (.refl s) _ _ _) _ _ _
  exact .ite (ht.raise ..) (.ite (ht.raise ..) ht)

theorem State.refreshTwin_outKept (s : State) : OutKept s s.refreshTwin := by
  unfold State.refreshTwin
  extract_lets t1 t2
  have h1 : OutKept s t1 := .ite s.readyStandby_outKept (.ite (.of_only s.readyActive_only) (.refl s))
  exact (h1.setN ..).setN ..

/-! ## A value written -/

theorem State.written_outKept (s : State) (old : Objs) (i n : Nat) : OutKept s (s.written old i n) :=
  .ite (s.laneSetting_outKept i n) (.ite (s.wsSetting_outKept old i n) (.ite (s.tarnCtrlObject_outKept n)
    (.ite (.of_only (State.tarnMaskWrite_only ..)) (.ite (.of_only (State.tarnMaskWrite_only ..)) (.ite (s.assumed_outKept n)
    (.ite s.checkPaths_outKept (.ite s.refreshTwin_outKept (.ite (.of_only (State.copyPinMap_only ..) (by simp))
    (.ite (.of_only (State.copyPinMode_only ..)) (.ite (s.ctlSettings_outKept n)
    (.ite (.of_only (State.monWritten_only ..)) (.refl s))))))))))))

theorem State.putNow_outKept (s : State) (a : Nat) (v : Val) : OutKept s (s.putNow a v) :=
  (State.written_outKept ..).seq (.of_eq (s.setVal_out ..))

end Sys2Proof.Machine
end

section
/-!
SUPPORT. What a request does comes after what has been sent before: answers, sessions, salvos, saves, restarts and updates.
-/
namespace Sys2Proof.Machine
set_option Elab.async false

/-! ## Answers -/

theorem State.sendIn_outKept (s : State) (n : Nat) (f : Nat → Out) : OutKept s (s.sendIn n f) := by
  unfold State.sendIn
  split
  · exact (State.emit_outKept ..).seq (.of_only (State.setSession_only ..))
  · exact .refl s

theorem State.respond_outKept (s : State) (n seq type status detail : Nat) (b : Body) :
    OutKept s (s.respond n seq type status detail b) := by
  unfold State.respond
  split
  · exact (State.emit_outKept ..).seq (.of_only (State.setSession_only ..))
  · exact .refl s

theorem State.reply_outKept (s : State) (a : Asker) (type status detail : Nat) (b : Body) :
    OutKept s (s.reply a type status detail b) := by
  match a with
  | .request n seq => exact s.respond_outKept n seq type status detail b
  | .ticket k =>
    unfold State.reply
    dsimp only
    split
    · exact .still (State.completeTicket_only ..) (.of_only (State.setMem_only ..))
    · exact .refl s
  | .nobody => exact .refl s

theorem State.answerFor_outKept (s : State) (x : Answer) (status : Nat) : OutKept s (s.answerFor x status) := by
  unfold State.answerFor
  extract_lets t
  have ht : OutKept s t := .foldl fun u w => .of_only (State.frameWrite_only ..)
  refine .ite ((State.reply_outKept ..).seq ht) ?_
  split
  · exact (State.reply_outKept ..).seq ht
  · exact (State.reply_outKept ..).seq ht

/-! ## Salvos given up, and sessions that end -/

theorem State.unarm_outKept (s : State) (n : Nat) : OutKept s (s.unarm n) := by
  unfold State.unarm
  extract_lets l y t1 idle t2 others t3
  have h1 : OutKept s t1 := .of_only (State.setSalvo_only ..)
  have h2 : OutKept s t2 := .fold (fun u e => (OutKept.refl u).setN ..) h1
  exact (State.syncMembership_outKept _).seq (.fold (fun u e => (OutKept.refl u).setN ..) h2)

theorem State.freeSalvo_outKept (s : State) (n : Nat) : OutKept s (s.freeSalvo n) :=
  .still (State.setSalvo_only ..) (s.unarm_outKept n)

theorem State.discardSalvo_outKept (s : State) (n : Nat) (empty : Bool) : OutKept s (s.discardSalvo n empty) := by
  unfold State.discardSalvo
  extract_lets t1 y t2
  have h1 : OutKept s t1 := s.freeSalvo_outKept n
  have h2 : OutKept s t2 := h1.upd rfl
  exact .ite h2 (h2.raise ..)

theorem State.discardOwned_outKept (s : State) (n : Nat) : OutKept s (s.discardOwned n) := by
  refine .ite (.refl s) (.foldl fun u p => .ite (.refl u) ?_)
  split
  · exact u.discardSalvo_outKept ..
  · exact u.discardSalvo_outKept ..
  · exact .of_only (State.setSalvo_only ..)
  · exact .refl u

theorem State.endSession_outKept (s : State) (n : Nat) (reason : Option Nat) : OutKept s (s.endSession n reason) := by
  unfold State.endSession
  split
  · exact .refl s
  · extract_lets t1 y t2
    have h1 : OutKept s t1 := by
      unfold t1
      split
      · exact s.sendIn_outKept ..
      · exact .refl s
    have closed : OutKept s { t1 with il := { t1.il with sessions := del t1.il.sessions n } } := h1.upd rfl
    have h2 : OutKept s t2 := .still (State.dropWaits_only ..) closed
    have h3 : OutKept s ((t2.leaveEngine n).discardOwned n) :=
      (State.discardOwned_outKept ..).seq (.still (State.leaveEngine_only ..) h2)
    exact .raise (.still (State.endStaging_only ..) h3) _ _

theorem State.endSessions_outKept (s : State) (reason : Option Nat) : OutKept s (s.endSessions reason) :=
  .foldl fun u n => u.endSession_outKept n reason

theorem State.endRole_outKept (s : State) (role reason : Nat) : OutKept s (s.endRole role reason) :=
  .foldl fun u n => u.endSession_outKept n (some reason)

/-! ## Saves and restarts -/

theorem State.answerSave_outKept (s : State) (x : Save) (status : Nat) : OutKept s (s.answerSave x status) :=
  .fold (fun u n => .of_only (State.completeTicket_only ..)) (.foldl fun u r => u.answerFor_outKept r status)

theorem State.endSave_outKept (s : State) (ok : Bool) : OutKept s (s.endSave ok) := by
  unfold State.endSave
  split
  · exact .refl s
  · next x hx =>
    extract_lets t1 y t2 t3 z t4
    have h1 : OutKept s t1 := .of_only (State.setSlot_only ..)
    have h2 : OutKept s t2 := h1.upd rfl
    have h3 : OutKept s t3 := (h2.setN ..).setN ..
    have h4 : OutKept s t4 := .of_eq rfl
    exact .ite (((State.answerSave_outKept ..).seq h3).raise ..) (.ite ((State.answerSave_outKept ..).seq
      (.raise ((State.setReason_outKept ..).seq h4) _ _)) (.of_eq rfl))

theorem State.releaseOutputs_outKept (s : State) : OutKept s s.releaseOutputs := by
  unfold State.releaseOutputs
  extract_lets t1 t2 t3 t4
  have h1 : OutKept s t1 := .ite (s.emit_outKept _) (.refl s)
  have h2 : OutKept s t2 := .ite (h1.emit _) h1
  have h3 : OutKept s t3 := .ite h2 (h2.emit _)
  have h4 : OutKept s t4 := .fold (fun u n => .ite (.refl u) (u.emit_outKept _)) h3
  exact .fold (fun u d => .ite (.refl u) (u.emit_outKept _)) h4

/-- A full reset takes what has been sent over. -/
theorem State.fullReset_outKept (s : State) : OutKept s s.fullReset := by
  unfold State.fullReset
  extract_lets o blank t
  have ht : OutKept s t := .upd (t := o) s.releaseOutputs_outKept rfl
  have moraine (u : State) (x : Moraine) (h : OutKept s u) : OutKept s { u with mor := x } := h.upd rfl
  exact (moraine t _ ht).setN ..

theorem State.startRom_outKept (s : State) (cause : Nat) : OutKept s (s.startRom cause) :=
  (s.emit_outKept (.pin .armHealth 0 0)).upd rfl

theorem State.hardRestart_outKept (s : State) (cause : Nat) : OutKept s (s.hardRestart cause) := by
  unfold State.hardRestart
  extract_lets t y
  have ht : OutKept s t := (State.startRom_outKept ..).seq s.fullReset_outKept
  have expired (u : State) (b : Boot) (h : OutKept s u) : OutKept s { u with boot := b } := h.upd rfl
  exact expired t _ ht

theorem State.startSoft_outKept (s : State) : OutKept s s.startSoft := by
  unfold State.startSoft
  extract_lets t u
  have stopped : OutKept s s.ctlStop := (State.cmacCtrl_outKept ..).seq (s.cmacCtrl_outKept 0 0)
  have ht : OutKept s t := (stopped.setN ..).upd (State.setRegN_out ..)
  exact ht.upd rfl

end Sys2Proof.Machine
end

section
/-!
SUPPORT. A write comes after what has been sent before: the update machine, the keys, each class of write, and what
follows a write.
-/
namespace Sys2Proof.Machine
set_option Elab.async false

/-! ## The update machine -/

theorem OutKept.updateOk {s t : State} (g : OutKept s t) : OutKept s t.updateOk.2 := .still (State.updateOk_only _) g

theorem OutKept.updateNo {s t : State} (g : OutKept s t) (c : Nat) : OutKept s (t.updateNo c).2 :=
  .still (State.updateNo_only ..) g

theorem State.updateRefuse_outKept (s : State) (c : Nat) : OutKept s (s.updateRefuse c).2 :=
  .raise (.updateNo (.refl s) c) _ _

theorem State.updateBegin_outKept (s : State) (session kind : Nat) : OutKept s (s.updateBegin session kind).2 := by
  unfold State.updateBegin
  split
  · exact s.updateRefuse_outKept _
  · extract_lets slot base t y u
    have ht : OutKept s t := .still (State.setWindow_only ..) (.of_only (State.erase_only ..))
    have hu : OutKept s u := ht.upd rfl
    exact .updateOk ((hu.setN ..).setN ..)

theorem State.updateCommit_outKept (s : State) (session : Nat) : OutKept s (s.updateCommit session).2 := by
  unfold State.updateCommit
  extract_lets t base fault staged
  have ht : OutKept s t := .of_only (State.setWindow_only ..)
  clear_value fault
  split
  · exact .updateNo (.refl s) _
  · cases fault with
    | some c => exact .updateNo (ht.setN ..) _
    | none => exact .updateOk (.raise (.setN (.setN (.setN ht _ _ _) _ _ _) _ _ _) _ _)

theorem State.updateActivate_outKept (s : State) : OutKept s s.updateActivate.2 := by
  unfold State.updateActivate
  split
  · exact s.updateRefuse_outKept _
  · exact .updateOk (.of_eq rfl)

theorem State.confirm_outKept (s : State) : OutKept s s.confirm := by
  unfold State.confirm
  split
  · extract_lets sec y z t
    have ht : OutKept s t := .of_eq rfl
    exact .ite (.refl s) (.raise (.setN (.setN ht _ _ _) _ _ _) _ _)
  · exact .refl s

/-! ## Triggers and settings -/

theorem State.clearHealth_outKept (s : State) : OutKept s s.clearHealth :=
  .still (State.toDefault_only ..) ((State.setReason_outKept ..).seq (s.setReason_outKept ..))

theorem State.trigger_outKept (s : State) (i n : Nat) (v : Val) : OutKept s (s.trigger i n v) :=
  .ite (.of_only (State.gfxOffset_only ..)) <| .ite (.of_only (State.gfxData_only ..)) <|
  .ite (.of_only (State.shaperData_only ..)) <| .ite (.of_only (State.lutOffset_only ..)) <|
  .ite (.of_only (State.lutData_only ..)) <| .ite (s.timeSet_outKept _) <|
  .ite (.ite (s.trainRequest_outKept ..) (.refl s)) <| .ite (.refl s) <| .ite (.of_only s.dropModel_only) <|
  .ite (s.slipLane_outKept n) <| .ite s.saddleRestart_outKept <| .ite s.morFormat_outKept <|
  .ite (.of_only (State.clipDelete_only ..)) <| .ite s.clearHealth_outKept <| .ite (.of_eq rfl) <|
  .ite (s.evPinAck_outKept _) <| .ite s.confirm_outKept (.of_only (State.clearObject_only ..))

theorem State.applyNow_outKept (s : State) (a : Nat) (v : Val) : OutKept s (s.applyNow a v) :=
  .ite (s.putNow_outKept a v) (s.trigger_outKept ..)

theorem State.classEffect_outKept (s : State) (a : Nat) (v : Val) (c : Commit) : OutKept s (s.classEffect a v c) := by
  unfold State.classEffect
  split
  · exact .refl s
  · exact .of_eq rfl
  · exact s.applyNow_outKept a v

/-! ## Keys and locks -/

theorem State.writeKey_outKept (s : State) (role : Nat) (key : List Byte) : OutKept s (s.writeKey role key) := by
  unfold State.writeKey
  extract_lets y t
  have ht : OutKept s t := .of_eq rfl
  exact (State.setReason_outKept ..).seq ((ht.setN ..).raise ..)

theorem State.writeLock_outKept (s : State) (on : Bool) : OutKept s (s.writeLock on) := by
  have put : OutKept s (s.setB Obj.ownerLock 0 on) := (OutKept.refl s).setN ..
  exact .ite (.refl s) ((put.setN ..).raise ..)

theorem State.programKey_outKept (s : State) (hash : List Byte) : OutKept s (s.programKey hash) := by
  unfold State.programKey
  split
  · next k _ =>
    have put (y : Update) : OutKept s { s with up := y } := .of_eq rfl
    exact (put _).raise ..
  · exact .refl s

theorem State.revokeKey_outKept (s : State) (k : Nat) : OutKept s (s.revokeKey k) := by
  have put (y : Update) : OutKept s { s with up := y } := .of_eq rfl
  exact (put _).raise ..

/-! ## One write -/

/-- The writes of an own-effect object keep what has been sent. -/
def WriteKeeps (s : State) (o : Option Wrote) : Prop := ∀ w, o = some w → OutKept s w.state

theorem Written.wrote_outKept {s : State} {p : Written} (h : OutKept s p.2) (x : After) : OutKept s (Written.wrote p x).state := by
  rw [Written.wrote_state]
  exact h

theorem WriteKeeps.some {s : State} {w : Wrote} (h : OutKept s w.state) : WriteKeeps s (some w) := fun _ e => by
  cases e
  exact h

theorem WriteKeeps.ite {s : State} {c : Prop} [Decidable c] {a b : Option Wrote} (ha : WriteKeeps s a) (hb : WriteKeeps s b) :
    WriteKeeps s (if c then a else b) := by
  split
  · exact ha
  · exact hb

theorem WriteKeeps.when {s : State} {c : Prop} [Decidable c] {p : Written} {x : After} (h : OutKept s p.2) :
    WriteKeeps s (Option.some (if c then Written.wrote p x else s.wrote)) := .some (by
  split
  · exact Written.wrote_outKept h x
  · exact .refl s)

theorem State.ownWrite_outKept (s : State) (session a : Nat) (v : Val) : WriteKeeps s (s.ownWrite session a v) := by
  unfold State.ownWrite
  extract_lets +onlyGivenNames i x b
  clear_value i x b
  refine .ite (.some (s.writeKey_outKept ..)) <| .ite (.some (s.writeLock_outKept _)) <| .ite (.some (s.programKey_outKept b)) <|
    .ite (.some (s.revokeKey_outKept x)) <| .ite (.some ?_) <| .ite (.some (.refl s)) <| .ite (.some (.refl s)) <|
    .ite (.some (Written.wrote_outKept (s.updateBegin_outKept session x) _)) <|
    .ite (.some (Written.wrote_outKept (.of_only (State.updateData_only ..)) _)) <|
    .ite (.when (s.updateCommit_outKept session)) <| .ite (.when s.updateActivate_outKept) <|
    .ite (.when (.of_only s.updateAbort_only)) fun _ e => by cases e
  exact .optElim (fun z => .of_only (State.setSession_only ..)) (.refl s)

theorem State.classWrite_outKept (s : State) (a : Nat) (v : Val) (c : Commit) : OutKept s (s.classWrite a v c).state := by
  unfold State.classWrite
  split
  · exact .refl s
  · split
    · exact .refl s
    · exact .still (State.logWrite_only ..) (s.classEffect_outKept a v c)

theorem State.writeItem_outKept (s : State) (session role a : Nat) (value : List Byte) :
    OutKept s (s.writeItem session role a value).state := by
  unfold State.writeItem
  split
  · exact .refl s
  · split
    · split
      · exact Written.wrote_outKept (s.updateRefuse_outKept _) _
      · exact .refl s
    · split
      · next own => exact s.ownWrite_outKept _ _ _ _ own
      · exact s.classWrite_outKept ..

/-! ## What follows a write -/

theorem State.completeSaves_outKept (s : State) : OutKept s s.completeSaves := s.endSave_outKept true

theorem State.proceedSoft_outKept (s : State) : OutKept s s.proceedSoft := by
  unfold State.proceedSoft
  extract_lets t u
  have hu : OutKept s u := .fold (fun v x => v.answerFor_outKept x 0) s.completeSaves_outKept
  have saved : OutKept s u.startSave.completeSaves := (State.completeSaves_outKept _).seq (.still u.startSave_only hu)
  exact (State.startSoft_outKept _).seq ((State.endSessions_outKept ..).seq saved)

theorem State.requestSoft_outKept (s : State) (a : Option Answer) : OutKept s (s.requestSoft a) := by
  unfold State.requestSoft
  extract_lets y t
  have ht : OutKept s t := .of_eq rfl
  exact .ite ht (t.proceedSoft_outKept.seq ht)

theorem State.requestHard_outKept (s : State) (a : Option Answer) : OutKept s (s.requestHard a) := by
  unfold State.requestHard
  extract_lets t u
  have ht : OutKept s t := s.completeSaves_outKept
  have hu : OutKept s u := .optElim (fun x => (t.answerFor_outKept x 0).seq ht) ht
  exact (State.hardRestart_outKept ..).seq ((State.endSessions_outKept ..).seq hu)

theorem State.activateNow_outKept (s : State) : OutKept s s.activateNow :=
  (State.hardRestart_outKept ..).seq ((State.endSessions_outKept ..).seq s.completeSaves_outKept)

theorem State.followWrite_outKept (s : State) (x : After) (a : Option Answer) : OutKept s (s.followWrite x a) := by
  match x with
  | .none => exact .refl s
  | .frame _ _ => exact .refl s
  | .through adr_ v =>
    have put (y : Twin) : OutKept s { s with tw := y } := .of_eq rfl
    exact (put _).emit _
  | .save =>
    have put (y : Store) : OutKept s { s with st := y } := .of_eq rfl
    exact .still (State.saveSoon_only _) (put _)
  | .endRole r => exact s.endRole_outKept r 3
  | .activate => exact s.activateNow_outKept
  | .soft => exact s.requestSoft_outKept a
  | .hard => exact s.requestHard_outKept a

theorem State.finish_outKept (s : State) (a : Answer) (afters : List (Nat × After)) : OutKept s (s.finish a afters) := by
  unfold State.finish
  extract_lets l last b t
  have ht : OutKept s t := .ite (s.answerFor_outKept b 0) (.refl s)
  exact .fold (fun u x => u.followWrite_outKept ..) ht

theorem State.writeFor_outKept (s : State) (asker : Asker) (session role a : Nat) (value : List Byte) :
    OutKept s (s.writeFor asker session role a value) := by
  have hw := s.writeItem_outKept session role a value
  exact .ite ((State.reply_outKept ..).seq hw) ((State.finish_outKept ..).seq hw)

end Sys2Proof.Machine
end

section
/-!
SUPPORT. What the salvo engine does comes after what has been sent before.
-/
namespace Sys2Proof.Machine
set_option Elab.async false

theorem State.replySalvo_outKept (s : State) (e : EngineOp) (n status detail change boundary : Nat) :
    OutKept s (s.replySalvo e n status detail change boundary) := s.reply_outKept ..

theorem State.refuseSalvo_outKept (s : State) (e : EngineOp) (n status : Nat) : OutKept s (s.refuseSalvo e n status) :=
  s.replySalvo_outKept ..

/-- The answer after a salvo is set. -/
theorem State.setSalvo_replySalvo_outKept (s : State) (k : Nat) (x : Salvo) (e : EngineOp) (n status detail change boundary : Nat) :
    OutKept s ((s.setSalvo k x).replySalvo e n status detail change boundary) :=
  (State.replySalvo_outKept ..).seq (.of_only (State.setSalvo_only ..))

theorem State.editSalvo_outKept (s : State) (e : EngineOp) (role : Nat) : OutKept s (s.editSalvo e role) := by
  unfold State.editSalvo
  extract_lets n x
  split
  · split
    · exact s.refuseSalvo_outKept ..
    · exact s.setSalvo_replySalvo_outKept ..
  · split
    · exact s.refuseSalvo_outKept ..
    · split
      · exact s.refuseSalvo_outKept ..
      · exact s.setSalvo_replySalvo_outKept ..
  · exact s.setSalvo_replySalvo_outKept ..
  · exact s.setSalvo_replySalvo_outKept ..
  · exact .refl s

theorem State.sendMirror_outKept (s : State) (e : EngineOp) (isTake : Bool) (state candidate : Nat) :
    OutKept s (s.sendMirror e isTake state candidate) := by
  have put (y : CommitEngine) : OutKept s { s with ce := y } := .of_eq rfl
  exact (put _).emit _

/-! ## ARM -/

theorem State.armDone_outKept (s : State) (n mirror : Nat) : OutKept s (s.armDone n mirror) := by
  unfold State.armDone
  extract_lets x t
  have ht : OutKept s t := .raise (.of_only (State.setSalvo_only ..)) _ _
  exact .ite (((State.freeSalvo_outKept ..).seq ht).raise ..) ht

theorem State.install_outKept (s : State) (n : Nat) (reads : List ReadEntry) (pre : List Nat) :
    OutKept s (s.install n reads pre) := by
  unfold State.install
  extract_lets x t1 t2 t3
  have h1 : OutKept s t1 := .of_only (State.setSalvo_only ..)
  have h2 : OutKept s t2 := .fold (fun u e => .ite (.refl u) (.of_only (State.setPre_only ..))) h1
  have h3 : OutKept s t3 := .fold (fun u e => .ite (.refl u) ((OutKept.refl u).setN ..)) h2
  exact (State.syncMembership_outKept _).seq (.fold (fun u e => .ite (.refl u) ((OutKept.refl u).setN ..)) h3)

theorem State.armStart_outKept (s : State) (e : EngineOp) (n : Nat) : OutKept s (s.armStart e n).2 := by
  unfold State.armStart
  split
  · next code detail _ =>
    have counted : OutKept s ((s.salvoResult n code detail).bump Obj.armRefusals 0) := .bump (.of_only (State.salvoResult_only ..)) _ _ _
    exact (State.replySalvo_outKept ..).seq (counted.raise ..)
  · exact s.install_outKept ..

/-! ## TAKE -/

theorem State.refuseTake_outKept (s : State) (e : EngineOp) (n code : Nat) : OutKept s (s.refuseTake e n code) :=
  (State.refuseSalvo_outKept ..).seq (.of_only (State.salvoResult_only ..))

theorem State.acceptTake_outKept (s : State) (e : EngineOp) (n b mirror : Nat) : OutKept s (s.acceptTake e n b mirror) := by
  unfold State.acceptTake
  extract_lets k y t x u
  have put (z : CommitEngine) : OutKept s { s with ce := z } := .of_eq rfl
  have ht : OutKept s t := .still (State.noteLate_only ..) (put _)
  exact (State.setSalvo_replySalvo_outKept ..).seq ht

theorem State.takeSteps_outKept (s : State) (e : EngineOp) (n : Nat) (at_ : Option Nat) : OutKept s (s.takeSteps e n at_) := by
  unfold State.takeSteps
  extract_lets b
  split
  · exact (State.refuseTake_outKept ..).seq (((s.unarm_outKept n).bump ..).raise ..)
  · split
    · exact (State.refuseTake_outKept ..).seq ((s.bump_outKept ..).raise ..)
    · split
      · exact s.refuseTake_outKept ..
      · exact .ite (s.sendMirror_outKept ..) (s.acceptTake_outKept ..)

/-! ## The engine's operations -/

theorem State.release_outKept (s : State) (e : EngineOp) (n : Nat) : OutKept s (s.release e n) := by
  unfold State.release
  split
  · exact (State.replySalvo_outKept ..).seq (s.freeSalvo_outKept n)
  · exact (State.replySalvo_outKept ..).seq (s.unarm_outKept n)

theorem State.afterArm_outKept (s : State) (e : EngineOp) (n mirror : Nat) : OutKept s (s.afterArm e n mirror) := by
  unfold State.afterArm
  extract_lets t
  have ht : OutKept s t := s.armDone_outKept n mirror
  split
  · exact .ite ((State.takeSteps_outKept ..).seq ht) ((State.refuseSalvo_outKept ..).seq ht)
  · exact (State.replySalvo_outKept ..).seq ht

theorem State.armOp_outKept (s : State) (e : EngineOp) (n : Nat) : OutKept s (s.armOp e n) := by
  have started : OutKept s (s.armStart e n).2 := s.armStart_outKept e n
  exact .ite started (.ite ((State.sendMirror_outKept ..).seq started) ((State.afterArm_outKept ..).seq started))

theorem State.runOp_outKept (s : State) (e : EngineOp) : OutKept s (s.runOp e) := by
  unfold State.runOp
  extract_lets n role
  split
  · exact s.refuseSalvo_outKept ..
  · split
    · exact s.armOp_outKept e n
    · exact .ite (s.armOp_outKept e n) (s.takeSteps_outKept ..)
    · exact .ite (s.sendMirror_outKept ..) ((State.release_outKept ..).seq (.of_only (State.setMirror_only ..)))
    · exact .ite (s.sendMirror_outKept ..) (s.release_outKept ..)
    · exact s.editSalvo_outKept ..

theorem State.toEngine_outKept (s : State) (e : EngineOp) : OutKept s (s.toEngine e) :=
  .ite (.of_eq rfl) (s.runOp_outKept e)

end Sys2Proof.Machine
end

section
/-!
SUPPORT. A held request that starts comes after what has been sent before (R211).
-/
namespace Sys2Proof.Machine
set_option Elab.async false

/-! ## Reads -/

theorem State.readItem_outKept {s t : State} {n : Option Nat} {role i k : Nat} {b : List Byte}
    (h : s.readItem n role i k = .inr (b, t)) : OutKept s t := by
  unfold State.readItem at h
  split at h
  · cases h
  · extract_lets u at h
    split_ifs at h
    · obtain rfl : s.morJournalRead.2 = t := congrArg Prod.snd (Sum.inr.inj h)
      exact .of_only s.morJournalRead_only
    · obtain rfl : u = t := congrArg Prod.snd (Sum.inr.inj h)
      exact .ite (s.settle_outKept k) (.refl s)

theorem State.doRead_outKept (s : State) (n seq : Nat) (x : Session) (i sub offset most : Nat) :
    OutKept s (s.doRead n seq x i sub offset most) := by
  unfold State.doRead
  split
  · exact s.respond_outKept ..
  · next b t read =>
    exact .ite (s.respond_outKept ..) ((State.respond_outKept ..).seq (State.readItem_outKept read))

theorem State.bulkReadItems_outKept (n seq role : Nat) (l : List (Nat × Nat)) (room : Nat) (s : State) :
    OutKept s (s.bulkReadItems n seq role room l).2 := by
  induction l generalizing room s with
  | nil => exact .refl s
  | cons item l ih =>
    obtain ⟨i, sub⟩ := item
    have ht : OutKept s (s.mark n seq (adr i sub)) := .of_only (State.mark_only ..)
    unfold State.bulkReadItems
    extract_lets late t next
    have hu : OutKept s t := .ite (.refl s) ht
    split
    · exact (ih ..).seq hu
    · split
      · exact (ih ..).seq hu
      · next b u read =>
        split
        · exact (ih ..).seq hu
        · exact (ih ..).seq ((State.readItem_outKept read).seq hu)

theorem State.doBulkRead_outKept (s : State) (n seq : Nat) (x : Session) (l : List (Nat × Nat)) :
    OutKept s (s.doBulkRead n seq x l) := (State.respond_outKept ..).seq (State.bulkReadItems_outKept ..)

/-! ## Bulk writes and fences -/

theorem State.bulkWriteItems_outKept (n seq role : Nat) (l : List (Nat × Nat × List Byte)) (k : Nat) (s : State) :
    OutKept s (s.bulkWriteItems n seq role k l).2.2 := by
  induction l generalizing k s with
  | nil => exact .refl s
  | cons item l ih =>
    obtain ⟨i, sub, value⟩ := item
    unfold State.bulkWriteItems
    extract_lets a w
    split
    · exact ih ..
    · have ht : OutKept s (s.mark n seq a) := .of_only (State.mark_only ..)
      exact (ih ..).seq ((State.writeItem_outKept ..).seq ht)

theorem State.doBulkWrite_outKept (s : State) (n seq : Nat) (x : Session) (l : List (Nat × Nat × List Byte)) :
    OutKept s (s.doBulkWrite n seq x l) := (State.finish_outKept ..).seq (State.bulkWriteItems_outKept ..)

theorem State.doFence_outKept (s : State) (n seq : Nat) (x : Session) (scope : Nat) : OutKept s (s.doFence n seq x scope) := by
  unfold State.doFence
  extract_lets below waits f t
  have ht : OutKept s t := .of_only (State.setSession_only ..)
  exact .ite ((State.respond_outKept ..).seq ht) ht

/-! ## Requests that start -/

theorem State.startReq_outKept (s : State) (n seq : Nat) (r : Req) : OutKept s (s.startReq n seq r) := by
  unfold State.startReq
  split
  · exact .refl s
  · next x _ =>
    split
    · exact s.respond_outKept ..
    · extract_lets l t
      have engaged : OutKept s (s.engage n seq r) := .of_only (State.engage_only ..)
      have ht : OutKept s t := .fold (fun u a => .of_only (State.mark_only ..)) engaged
      refine .ite (s.respond_outKept ..) (.seq ?_ ht)
      cases r with
      | read i sub offset most => exact t.doRead_outKept ..
      | write i sub value => exact t.writeFor_outKept ..
      | bulkRead items => exact t.doBulkRead_outKept ..
      | bulkWrite items => exact t.doBulkWrite_outKept ..
      | fence scope => exact t.doFence_outKept ..
      | salvo op => exact t.toEngine_outKept _
      | keepalive => exact t.respond_outKept ..
      | close => exact (State.endSession_outKept ..).seq (t.respond_outKept ..)

theorem State.releaseUpTo_outKept (k n : Nat) (s : State) : OutKept s (State.releaseUpTo k s n) := by
  induction k generalizing s with
  | zero => exact .refl s
  | succ k ih =>
    unfold State.releaseUpTo
    split
    · exact .refl s
    · extract_lets l
      split
      · exact .refl s
      · next h _ =>
        extract_lets t
        have ht : OutKept s t := .of_only (State.setSession_only ..)
        exact (ih _).seq ((State.startReq_outKept ..).seq ht)

theorem State.releaseHeld_outKept (s : State) (n : Nat) : OutKept s (s.releaseHeld n) := State.releaseUpTo_outKept ..

end Sys2Proof.Machine
end

section
/-!
PROOFS. FENCE and NOTIFY (R211, R466, R467, R469, R470, R575).
-/
namespace Sys2Proof.Machine
set_option Elab.async false

/-! ## A FENCE below which nothing is outstanding (R466) -/

theorem State.othersOutstanding_setSession (s : State) (n : Nat) (x : Session) :
    (s.setSession n x).othersOutstanding n = s.othersOutstanding n := by
  have others : (put s.il.sessions n x).filter (fun p => p.1 != n) = s.il.sessions.filter fun p => p.1 != n := by
    simp [put]
  unfold State.othersOutstanding
  rw [show (s.setSession n x).il.sessions = put s.il.sessions n x from rfl, others]
  rfl

/-- A FENCE that waits for nothing. -/
def idleFence (seq scope takes : Nat) : Fence := ⟨seq, scope, true, [], takes, []⟩

theorem State.doFence_idle {s : State} {n seq scope : Nat} {z : Session} (below : ∀ q ∈ z.outstanding, seq ≤ q)
    (others : scope = 1 → s.othersOutstanding n = []) : s.doFence n seq z scope =
      (s.setSession n { z with fences := z.fences ++ [idleFence seq scope s.ce.takes] }).respond n seq 0x20 0 0 .none := by
  have none : z.outstanding.filter (fun q => decide (q < seq)) = [] := List.filter_eq_nil_iff.2 fun q hq => by
    simpa using below q hq
  have waits : ((z.outstanding.filter fun q => decide (q < seq)).map fun q => (n, q)) ++
      (if scope = 1 then s.othersOutstanding n else []) = [] := by
    rw [none]
    split
    · next h => rw [others h]; rfl
    · rfl
  unfold State.doFence
  simp only [waits]
  rfl

theorem ilrilFence_idle {s : State} {dt : Nat} {m : Msg} {x : Session} {scope : Nat} (h : Ready s m x (.fence scope))
    (below : ∀ q ∈ x.outstanding, m.seq ≤ q) (others : scope = 1 → s.othersOutstanding m.session = []) :
    Completes (.ilrilFence dt m scope) s fun t => answerOf m x 0x20 0 .none ∈ t.out ∧
      ∃ y, t.session m.session = some y ∧ ∃ f ∈ y.fences, f.seq = m.seq ∧ f.scope = scope ∧ f.complete = true := by
  refine ⟨(s.tick dt).message m _, act_next h.awake, ?_⟩
  let z := x.taken (s.tick dt).now (s.tick dt).ptp m.seq
  let u := (s.tick dt).started m x (.fence scope)
  let z' := { z with fences := z.fences ++ [idleFence m.seq scope u.ce.takes] }
  let v := u.setSession m.session z'
  have below : ∀ q ∈ z.outstanding, m.seq ≤ q := fun q hq => by
    rcases List.mem_append.1 hq with hq | hq
    · exact below q hq
    · exact (List.mem_singleton.1 hq).symm.le
  have others : scope = 1 → u.othersOutstanding m.session = [] := fun hs => by
    have engaged : u = (s.tick dt |>.takenUp m x).setSession m.session
        { z with busy := z.busy ++ [(m.seq, Req.objects (.fence scope))] } :=
      State.engage_some ((s.tick dt).session_takenUp m x)
    rw [engaged, State.othersOutstanding_setSession, State.takenUp, State.othersOutstanding_setSession,
      State.othersOutstanding_setSession]
    exact others hs
  have runs : u.perform m.session m.seq z (.fence scope) = v.respond m.session m.seq 0x20 0 0 .none :=
    State.doFence_idle below others
  have ready : Answerable m.session x v := ⟨z', State.session_setSession .., rfl, h.free⟩
  rw [h.performs dt, runs]
  refine ⟨ready.answers .., ?_⟩
  rw [ready.respond, State.respond_some (State.session_setSession ..)]
  exact ⟨_, State.session_setSession .., idleFence m.seq scope u.ce.takes, List.mem_append_right _ (List.mem_singleton_self _),
    rfl, rfl, rfl⟩

/-! ## A FENCE that does not come (R467) -/

theorem State.mem_respond {w : State} {n : Nat} {z : Session} (h : w.session n = some z) (seq type status detail : Nat)
    (b : Body) : Out.response n z.devSeq seq type status detail b ∈ (w.respond n seq type status detail b).out := by
  rw [State.respond_some h]
  exact State.mem_emit ..

theorem fenceMissing_refuses {s : State} {dt n seq : Nat} {x : Session} {h : Held} (awake : s.awake)
    (missing : (s.tick dt).missing n seq = some h) (hx : s.session n = some x) : Completes (.fenceMissing dt n seq) s fun t =>
      Out.response n x.devSeq seq h.req.type Code.fenceMissing 0 .none ∈ t.out ∧
        ∃ y, t.session n = some y ∧ ∀ g ∈ y.held, g.seq ≠ seq := by
  let y := { x with held := x.held.filter fun g => g.seq != seq }
  let v := (s.tick dt).setSession n y
  have next : execFenceMissing dt n seq s = .next (v.respond n seq h.req.type Code.fenceMissing 0 .none) := by
    refine (act_next awake).trans ?_
    rw [missing, show (s.tick dt).session n = some x from hx]
  have hv : v.session n = some y := State.session_setSession ..
  refine ⟨_, next, State.mem_respond hv .., ?_⟩
  rw [State.respond_some hv]
  exact ⟨_, State.session_setSession .., fun g hg => by simpa using (List.mem_filter.1 hg).2⟩

/-! ## Notifications (R469, R470, R575) -/

/-- A session whose next NOTIFY has gone out with number k at a time. -/
def Session.notified (x : Session) (now : Nat) : Session :=
  { x with
    queue := x.queue.drop 64
    lost := 0
    unacked := if x.tcp then none else some ⟨x.devSeq, x.lost, (x.queue.take 64).map fun p => p.1, now, 0⟩ }

theorem notifySend_sends {s : State} {dt n : Nat} {x : Session} (awake : s.awake) (up : s.il.ctlUp = true)
    (hx : s.session n = some x) (due : x.notifyDue (s.now + dt) = true) : Completes (.notifySend dt n) s fun t =>
      Out.notify n x.devSeq x.lost ((x.queue.take 64).map (·.1)) ∈ t.out ∧
        ∃ y, t.session n = some y ∧ y.queue = x.queue.drop 64 ∧ y.lost = 0 ∧ y.unacked.isNone = x.tcp := by
  let y := x.notified (s.tick dt).now
  let sent := Out.notify n x.devSeq x.lost ((x.queue.take 64).map (·.1))
  let u := (((s.tick dt).setSession n y).setSession n { y with devSeq := y.devSeq + 1 }).emit sent
  have next : execNotifySend dt n s = .next (if x.lost = 0 then u else u.raise Ev.notifyLost n) := by
    have hx : (s.tick dt).session n = some x := hx
    refine (actIf_next awake ?_).trans ?_
    · rw [hx]
      exact Bool.and_eq_true_iff.2 ⟨up, due⟩
    · rw [hx]
      dsimp only
      rw [State.sendIn, State.session_setSession]
      rfl
  have unacked : y.unacked.isNone = x.tcp := by
    show (if x.tcp then none else some _).isNone = x.tcp
    cases x.tcp <;> rfl
  have hu : u.session n = some { y with devSeq := y.devSeq + 1 } := State.session_setSession ..
  refine ⟨_, next, ?_⟩
  split
  · exact ⟨State.mem_emit .., _, hu, rfl, rfl, unacked⟩
  · exact ⟨(State.raise_outKept ..).mem (State.mem_emit ..), _, ((State.raise_only ..).session n).trans hu, rfl, rfl, unacked⟩

/-- A session whose NOTIFY u goes out again at a time. -/
def Session.resent (x : Session) (u : Unacked) (now : Nat) : Session :=
  { x with unacked := some { u with sentAt := now, resends := u.resends + 1 } }

/-- A session that gives up its NOTIFY u. -/
def Session.givenUp (x : Session) (u : Unacked) : Session :=
  { x with
    unacked := none
    lost := min (x.lost + u.entries.length) 0xFFFF
    lostTotal := min (x.lostTotal + u.entries.length) 0xFFFFFFFFFFFFFFFF }

theorem notifyResend_repeats {s : State} {dt n : Nat} {x : Session} {u : Unacked} (awake : s.awake) (hx : s.session n = some x)
    (hu : x.unacked = some u) (late : u.sentAt + 250000000 ≤ s.now + dt) : Completes (.notifyResend dt n) s fun t =>
      ∃ y, t.session n = some y ∧
        (u.resends < 4 → Out.notify n u.seq u.lost u.entries ∈ t.out ∧
          y.unacked = some { u with sentAt := t.now, resends := u.resends + 1 }) ∧
        (4 ≤ u.resends → y.unacked = none ∧ y.lost = min (x.lost + u.entries.length) 0xFFFF) := by
  have waiting : ((s.tick dt).session n).bind (fun x => x.unacked.map fun u => (x, u)) = some (x, u) := by
    rw [show (s.tick dt).session n = some x from hx, Option.bind_some, hu, Option.map_some]
  have late : ¬ (s.tick dt).now < u.sentAt + 250000000 := Nat.not_lt.2 late
  have next : execNotifyResend dt n s = .next (if u.resends < 4
      then ((s.tick dt).setSession n (x.resent u (s.tick dt).now)).emit (.notify n u.seq u.lost u.entries)
      else (s.tick dt).setSession n (x.givenUp u)) := by
    refine (act_next awake).trans ?_
    rw [waiting]
    dsimp only
    rw [if_neg late]
    rfl
  refine ⟨_, next, ?_⟩
  split
  · next again =>
    exact ⟨_, State.session_setSession .., fun _ => ⟨State.mem_emit .., rfl⟩, fun h => absurd again (Nat.not_lt.2 h)⟩
  · next last => exact ⟨_, State.session_setSession .., fun h => absurd h last, fun _ => ⟨rfl, rfl⟩⟩

/-- A message that is new in its session is acted on (R459). -/
theorem State.accept_new {s : State} {m : Msg} {x : Session} (kept : s.dropReason m = none) (hx : s.session m.session = some x)
    (new : x.seen.contains m.seq = false) (f : State → State) :
    s.accept m f = f (s.setSession m.session ((x.heard s.now s.ptp).number m.seq)) := by
  rw [State.accept, kept, hx]
  simp only [new, Bool.false_eq_true, if_false]

theorem notifyAck_ends {s : State} {dt : Nat} {m : Msg} {x : Session} {u : Unacked} (awake : s.awake) (serves : s.serves m = true)
    (kept : s.dropReason m = none) (hx : s.session m.session = some x) (new : x.seen.contains m.seq = false)
    (hu : x.unacked = some u) :
    Completes (.notifyAck dt m u.seq) s fun t => ∃ y, t.session m.session = some y ∧ y.unacked = none := by
  let z := (x.heard (s.tick dt).now (s.tick dt).ptp).number m.seq
  have acked : z.unacked.elim false (fun y => y.seq == u.seq) = true := by
    rw [show z.unacked = some u from hu]
    exact beq_self_eq_true _
  have next : execNotifyAck dt m u.seq s =
      .next (((s.tick dt).setSession m.session z).setSession m.session { z with unacked := none }) := by
    refine (actIf_next awake serves).trans (congrArg Host.Outcome.next ?_)
    rw [State.accept_new (s := s.tick dt) kept hx new, State.session_setSession, Option.elim_some, if_pos acked]
  exact ⟨_, next, _, State.session_setSession .., rfl⟩

/-! ## A FENCE whose waits have come (R466) -/

/-- The session once its FENCE is complete. -/
def Session.fenceDone (x : Session) (seq : Nat) : Session :=
  { x with fences := x.fences.map fun f => if f.seq = seq then { f with complete := true, waits := [] } else f }

theorem fenceComplete_answers {s : State} {dt n seq : Nat} {x : Session} (awake : s.awake) (ready : s.fenceReady n seq = true)
    (hx : s.session n = some x) : Completes (.fenceComplete dt n seq) s fun t =>
      Out.response n x.devSeq seq 0x20 0 0 .none ∈ t.out := by
  let u := (s.tick dt).setSession n (x.fenceDone seq)
  have next : execFenceComplete dt n seq s = .next ((u.respond n seq 0x20 0 0 .none).releaseHeld n) := by
    refine (actIf_next awake ready).trans ?_
    rw [show (s.tick dt).session n = some x from hx]
    rfl
  have sent := State.mem_respond (w := u) (State.session_setSession ..) seq 0x20 0 0 .none
  exact ⟨_, next, (State.releaseHeld_outKept ..).mem sent⟩

/-- Settles O24: a FENCE answers once nothing below it is outstanding, or fails when it does not come; a NOTIFY goes out,
is repeated and ends. What a completed FENCE releases keeps its answer (`State.releaseHeld_outKept`). -/
theorem sessionsNotify : Obligations.SessionsNotify := by
  unfold Obligations.SessionsNotify
  refine ⟨?_, ?_, ?_, ?_, ?_, ?_⟩
  · exact fun _ _ _ _ _ h below others => ilrilFence_idle h below others
  · exact fun _ _ _ _ _ awake ready hx => fenceComplete_answers awake ready hx
  · exact fun _ _ _ _ _ _ awake missing hx => fenceMissing_refuses awake missing hx
  · exact fun _ _ _ _ awake up hx due => notifySend_sends awake up hx due
  · exact fun _ _ _ _ _ awake hx hu late => notifyResend_repeats awake hx hu late
  · exact fun _ _ _ _ _ awake serves kept hx new hu => notifyAck_ends awake serves kept hx new hu

end Sys2Proof.Machine
end

section
/-!
SUPPORT. What a write into a graphics surface, a shaper or a LUT leaves in the layer or the stage (R236, R263).
-/
namespace Sys2Proof.Machine
set_option Elab.async false

/-! ## Layers and stages outside a reach -/

theorem Only.layer {r : Reach} {s t : State} (h : Only r s t) (x : Nat) (hp : Part.cq ∉ r.parts := by decide) :
    t.layer x = s.layer x := by
  have e : t.cq = s.cq := h.same .cq hp
  rw [State.layer, e, State.layer]

theorem Only.stage {r : Reach} {s t : State} (h : Only r s t) (x : Nat) (hp : Part.cq ∉ r.parts := by decide) :
    t.stage x = s.stage x := by
  have e : t.cq = s.cq := h.same .cq hp
  rw [State.stage, e, State.stage]

/-- The format of a layer's surfaces is that of its engine's source slot (R218). -/
theorem Only.layerFormat {r : Reach} {s t : State} (h : Only r s t) (x : Nat) (hp : Part.cq ∉ r.parts := by decide)
    (ho : Part.objs ∉ r.parts := by decide) (hs : Obj.cqSrcSlot ∉ r.objs := by decide)
    (hf : Obj.srcReservedFormat ∉ r.objs := by decide) : t.layerFormat x = s.layerFormat x := by
  have inForce : Objs.engineFormat t.objs (x / 8) = Objs.engineFormat s.objs (x / 8) := by
    have slot : Objs.n t.objs Obj.cqSrcSlot (x / 8) = Objs.n s.objs Obj.cqSrcSlot (x / 8) := h.n Obj.cqSrcSlot _ ho hs
    have format (k : Nat) : Objs.n t.objs Obj.srcReservedFormat k = Objs.n s.objs Obj.srcReservedFormat k :=
      h.n Obj.srcReservedFormat k ho hf
    simp only [Objs.engineFormat, slot, format]
  unfold State.layerFormat State.engineConfig
  rw [h.engines hp]
  cases (s.engine (x / 8)).old with
  | none => exact inForce
  | some c => rfl

theorem Only.backFull {r : Reach} {s t : State} (h : Only r s t) (x : Nat) (hp : Part.cq ∉ r.parts := by decide)
    (ho : Part.objs ∉ r.parts := by decide) (hs : Obj.cqSrcSlot ∉ r.objs := by decide)
    (hf : Obj.srcReservedFormat ∉ r.objs := by decide) : t.backFull x = s.backFull x := by
  rw [State.backFull, h.layerFormat x hp ho hs hf, h.layer x hp, State.backFull]

/-! ## Surfaces (R236) -/

theorem State.b_setB_self (s : State) (i k : Nat) (v : Bool) : (s.setB i k v).b i k = v := by
  have number : (s.setB i k v).n i k = b2n v := State.n_setN_self ..
  calc (s.setB i k v).b i k = (b2n v != 0) := congrArg (· != 0) number
    _ = v := by cases v <;> rfl

theorem State.gfxOffset_pos (s : State) (x pos : Nat) : ((s.gfxOffset x pos).layer x).pos = pos := by
  rw [State.gfxOffset, State.layer_setLayer]

/-- The layer after bytes have been stored in its back surface. -/
theorem State.gfxData_layer (s : State) (x : Nat) (b : List Byte) :
    ((s.gfxData x b).layer x).back = storeBytes (s.layer x).back (s.layer x).pos b ∧
      ((s.gfxData x b).layer x).pos = (s.layer x).pos + b.length := by
  unfold State.gfxData
  extract_lets y t
  have reported : Only ⟨[], [Obj.layerGfxComplete], []⟩ t (t.setB Obj.layerGfxComplete x (t.backFull x)) := State.setB_only ..
  rw [reported.layer x, State.layer_setLayer]
  exact ⟨rfl, rfl⟩

/-- LayerGfxComplete reports the surface as the bytes leave it. -/
theorem State.gfxData_complete (s : State) (x : Nat) (b : List Byte) :
    (s.gfxData x b).b Obj.layerGfxComplete x = (s.gfxData x b).backFull x := by
  unfold State.gfxData
  extract_lets y t
  have reported : Only ⟨[], [Obj.layerGfxComplete], []⟩ t (t.setB Obj.layerGfxComplete x (t.backFull x)) := State.setB_only ..
  rw [State.b_setB_self, reported.backFull x]

/-! ## Shapers and LUTs (R263) -/

/-- A field set reads back bit by bit. -/
theorem bit_setField {x lo hi v k : Nat} (hl : lo ≤ k) (hh : k ≤ hi) : bit (setField x lo hi v) k = bit v (k - lo) := by
  have low : x % 2 ^ lo < 2 ^ lo := Nat.mod_lt _ (Nat.two_pow_pos lo)
  have pieces : setField x lo hi v =
      2 ^ lo * (2 ^ (hi + 1 - lo) * (x / 2 ^ lo / 2 ^ (hi + 1 - lo)) + v % 2 ^ (hi + 1 - lo)) + x % 2 ^ lo := by
    have whole := Nat.div_add_mod x (2 ^ lo)
    have upper := congrArg (2 ^ lo * ·) (Nat.div_add_mod (x / 2 ^ lo) (2 ^ (hi + 1 - lo)))
    simp only [Nat.mul_add] at upper ⊢
    rw [setField, field, Nat.mul_comm (x / 2 ^ lo % _), Nat.mul_comm (v % _)]
    omega
  rw [bit, pieces, Nat.testBit_two_pow_mul_add _ low, if_neg (Nat.not_lt.2 hl),
    Nat.testBit_two_pow_mul_add _ (Nat.mod_lt _ (Nat.two_pow_pos _)), if_pos (by omega), Nat.testBit_mod_two_pow,
    decide_eq_true (by omega), Bool.true_and, bit]

/-- Bit 3 of ColStageState reports the shaper written in full (R267). -/
theorem State.tableBits_shaperFull (s : State) (x : Nat) :
    bit ((s.tableBits x).n Obj.colStageState x) 3 = (s.stage x).shaperFull := by
  unfold State.tableBits
  extract_lets y
  rw [State.n_setN_self, bit_setField (by decide) (by decide)]
  generalize y.pendingRaised = pending, spansFull y.lutSpans lutBytes = lut
  change bit _ 1 = y.shaperFull
  cases pending <;> cases y.shaperFull <;> cases lut <;> rfl

theorem State.shaperData_shaperBack (s : State) (x : Nat) (b : List Byte) : ((s.shaperData x b).stage x).shaperBack = b := by
  unfold State.shaperData
  rw [(State.tableBits_only ..).stage x, State.stage_setStage]

theorem State.shaperData_reported (s : State) (x : Nat) (b : List Byte) :
    bit ((s.shaperData x b).n Obj.colStageState x) 3 = true := by
  unfold State.shaperData
  rw [State.tableBits_shaperFull, State.stage_setStage]

theorem State.lutOffset_lutPos (s : State) (x pos : Nat) : ((s.lutOffset x pos).stage x).lutPos = pos := by
  rw [State.lutOffset, State.stage_setStage]

/-- The stage after bytes have been stored in the back copy of its LUT. -/
theorem State.lutData_stage (s : State) (x : Nat) (b : List Byte) :
    ((s.lutData x b).stage x).lutBack = storeBytes (s.stage x).lutBack (s.stage x).lutPos b ∧
      ((s.lutData x b).stage x).lutPos = (s.stage x).lutPos + b.length := by
  unfold State.lutData
  extract_lets y
  rw [(State.tableBits_only ..).stage x, State.stage_setStage]
  exact ⟨rfl, rfl⟩

end Sys2Proof.Machine
end

section
/-!
PROOFS. Graphics, shaper and LUT tables (R236, R263).
-/
namespace Sys2Proof.Machine
set_option Elab.async false

/-! ## The rows of the objects -/

/-- The objects through which surfaces and tables are written. -/
abbrev tableObjs : List Nat := [Obj.layerGfxOffset, Obj.layerGfxData, Obj.colShaperData, Obj.colLutOffset, Obj.colLutData]

/-- The objects through which they are flipped. -/
abbrev flipObjs : List Nat := [Obj.layerGfxFlip, Obj.colTableFlip]

theorem tableObjs_row : ∀ r ∈ dictionary, r.index ∈ tableObjs → r.access = .wo ∧ r.commit = .immediate := by decide +kernel

theorem flipObjs_row : ∀ r ∈ dictionary, r.index ∈ flipObjs → r.commit = .frame := by decide +kernel

theorem tables_not_own : ∀ i ∈ tableObjs ++ flipObjs, i ∉ ownObjs := by decide

section
variable {s : State} {dt : Nat} {m : Msg} {x : Session} {i k : Nat} {value : List Byte} {v : Val}

/-- A write that passes the checks is of an object of the dictionary. -/
theorem Writable.row (h : Writable s dt m x i k value v) : ∃ r, dictRow i k = some r := by
  cases hr : dictRow i k with
  | some r => exact ⟨r, rfl⟩
  | none =>
    have unknown := h.dict
    rw [State.dictCheck, dictRow_adr h.small, hr] at unknown
    cases unknown

/-! ## What a write into a table does -/

/-- What a write into a surface or table may change. -/
abbrev tableReach : Reach := ⟨[.cq], [Obj.layerGfxComplete, Obj.colStageState], []⟩

theorem State.trigger_table (u : State) (hi : i ∈ tableObjs) : Only tableReach u (u.trigger i k v) := by
  simp only [List.mem_cons, List.not_mem_nil, or_false] at hi
  obtain rfl | rfl | rfl | rfl | rfl := hi
  · exact (State.gfxOffset_only ..).up
  · exact (State.gfxData_only ..).up
  · exact (State.shaperData_only ..).up
  · exact (State.lutOffset_only ..).up
  · exact (State.lutData_only ..).up

/-- What the log of the next copy and the answer may change besides. -/
abbrev loggedAnswerReach : Reach := ⟨[.out, .sessions, .tw], [], []⟩

/-- A write into a surface or table acts on the state of its time with other sessions, and is answered. -/
theorem Acts.triggers (h : Acts s dt m x i k value v) (hi : i ∈ tableObjs) : Completes (.ilrilWrite dt m i k value) s fun t =>
    (∃ l, Only loggedAnswerReach (((s.tick dt).withSessions l).trigger i k v) t) ∧ Answered m x t := by
  obtain ⟨r, hr⟩ := h.may.row
  obtain ⟨hm, rfl⟩ := dictRow_some hr
  obtain ⟨access, commit⟩ := tableObjs_row r hm hi
  obtain ⟨⟨hk, ready, hd, hs⟩, alone⟩ := h
  obtain ⟨u, z, hu, hz, -, e⟩ := ready.message dt
  refine ⟨(s.tick dt).message m _, act_next ready.awake, ?_⟩
  have decided := hu.writeItem hk (hz.symm ▸ hd) hs (tables_not_own _ (List.mem_append_left _ hi)) hr
  rw [commit, State.classWrite_immediate (hu.mirrors ▸ alone)] at decided
  have acts : u.applyNow (adr r.index k) v = u.trigger r.index k v := by
    rw [State.applyNow, dictRow_adr hk, hr, adrIndex_adr, adrSub_adr hk, Option.elim_some, access]
    rfl
  rw [acts] at decided
  have logged : Only ⟨[.tw], [], []⟩ (u.trigger r.index k v) _ := State.logWrite_only _ (adr r.index k) v 0
  have done := (hu.answerable.after (u.trigger_table hi)).after logged
  rw [e, State.perform, State.writeFor_accepted decided rfl, State.finish_none]
  have answered := done.respond_only m.seq 0x11 0 0 (.write u.ptp)
  refine ⟨⟨u.il.sessions, hu.same ▸ answered.seq (logged.up (b := loggedAnswerReach))⟩, ?_⟩
  rw [Answered, answered.ptp, logged.ptp, (u.trigger_table hi).ptp]
  exact done.answers ..

/-- A flip waits for the boundary of R9. -/
theorem Acts.flips (h : Acts s dt m x i k value v) (hi : i ∈ flipObjs) : Completes (.ilrilWrite dt m i k value) s fun t =>
    t.ce.frameWrites = s.ce.frameWrites ++ [⟨adr i k, v, t.boundaryAfterDeadline⟩] ∧
      answerOf m x 0x11 0 (.write (t.boundaryAfterDeadline / tcNs)) ∈ t.out := by
  obtain ⟨r, hr⟩ := h.may.row
  obtain ⟨hm, rfl⟩ := dictRow_some hr
  have own : (s.tick dt).ownWrite m.session (adr r.index k) v = none := by
    rw [State.ownWrite_eq_none, adrIndex_adr]
    exact tables_not_own _ (List.mem_append_right _ hi)
  exact ilrilWrite_frame h.may hr (flipObjs_row r hm hi) h.alone own

end

/-! ## The statement -/

/-- Settles O25: each command is the write of its object; what it triggers leaves the layer or stage as its clause says, and neither
the log of the next copy nor the answer moves it; a flip is a Frame-class write. -/
theorem tablesWritten : Obligations.TablesWritten := by
  unfold Obligations.TablesWritten
  refine ⟨?_, ?_, ?_, ?_, ?_, ?_, ?_⟩
  · intro s dt m x sub value p h
    obtain ⟨t, next, ⟨l, only⟩, answered⟩ := h.triggers (by decide)
    refine ⟨t, next, ?_, answered⟩
    rw [only.layer sub]
    exact State.gfxOffset_pos ..
  · intro s dt m x sub value b h
    obtain ⟨t, next, ⟨l, only⟩, answered⟩ := h.triggers (by decide)
    let u := (s.tick dt).withSessions l
    have only : Only loggedAnswerReach (u.gfxData sub b) t := only
    obtain ⟨back, pos⟩ := u.gfxData_layer sub b
    refine ⟨t, next, ?_, ?_, ?_, answered⟩
    · rw [only.layer sub]
      exact back
    · rw [only.layer sub]
      exact pos
    · have complete : t.b Obj.layerGfxComplete sub = (u.gfxData sub b).b Obj.layerGfxComplete sub :=
        congrArg (· != 0) (only.n Obj.layerGfxComplete sub)
      rw [complete, State.gfxData_complete, only.backFull sub]
  · exact fun s dt m x sub value v h => h.flips (by decide)
  · intro s dt m x sub value b h
    obtain ⟨t, next, ⟨l, only⟩, answered⟩ := h.triggers (by decide)
    refine ⟨t, next, ?_, ?_, answered⟩
    · rw [only.stage sub]
      exact State.shaperData_shaperBack ..
    · rw [only.n Obj.colStageState sub]
      exact State.shaperData_reported ..
  · intro s dt m x sub value p h
    obtain ⟨t, next, ⟨l, only⟩, answered⟩ := h.triggers (by decide)
    refine ⟨t, next, ?_, answered⟩
    rw [only.stage sub]
    exact State.lutOffset_lutPos ..
  · intro s dt m x sub value b h
    obtain ⟨t, next, ⟨l, only⟩, answered⟩ := h.triggers (by decide)
    obtain ⟨back, pos⟩ := State.lutData_stage ((s.tick dt).withSessions l) sub b
    refine ⟨t, next, ?_, ?_, answered⟩
    · rw [only.stage sub]
      exact back
    · rw [only.stage sub]
      exact pos
  · exact fun s dt m x sub value v h => h.flips (by decide)

end Sys2Proof.Machine
end

section
/-!
SUPPORT. What a function leaves of Cornice: `AuKept g s t` says that g reads the same from Cornice in t as in s.
-/
namespace Sys2Proof.Machine
set_option Elab.async false

/-! ## Folds and tables -/

/-- A fold that meets an element once: what the steps before it keep, its own step turns into what the steps after it keep. -/
theorem foldl_at {σ α : Type} {f : σ → α → σ} {l : List α} {a : α} {P Q : σ → Prop} {s : σ} (mem : a ∈ l) (once : l.Nodup)
    (before : ∀ u, P u → ∀ b ∈ l, b ≠ a → P (f u b)) (own : ∀ u, P u → Q (f u a))
    (after : ∀ u, Q u → ∀ b ∈ l, b ≠ a → Q (f u b)) (h : P s) : Q (l.foldl f s) := by
  obtain ⟨l₁, l₂, rfl⟩ := List.mem_iff_append.1 mem
  obtain ⟨-, -, apart⟩ := List.nodup_append.1 once
  have apart₂ := (List.nodup_cons.1 (List.nodup_append.1 once).2.1).1
  have first : P (l₁.foldl f s) := List.foldlRecOn l₁ f h fun u hu b hb =>
    before u hu b (by simp [hb]) (apart b hb a List.mem_cons_self)
  rw [List.foldl_append, List.foldl_cons]
  exact List.foldlRecOn l₂ f (own _ first) fun u hu b hb => after u hu b (by simp [hb]) fun e => apart₂ (e ▸ hb)

theorem nodup_eraseDups {α : Type} [BEq α] [LawfulBEq α] (l : List α) : l.eraseDups.Nodup := by
  match l with
  | [] => simp
  | a :: l =>
    rw [List.eraseDups_cons, List.nodup_cons]
    refine ⟨?_, nodup_eraseDups _⟩
    simp [List.mem_eraseDups]
termination_by l.length
decreasing_by exact Nat.lt_succ_of_le (List.length_filter_le ..)

/-- An entry of a table with one entry to a number is found. -/
theorem lookup_of_mem {α : Type} {t : Table α} {k : Nat} {v : α} (once : (t.map (·.1)).Nodup) (h : (k, v) ∈ t) :
    t.lookup k = some v := by
  obtain ⟨l₁, l₂, rfl⟩ := List.mem_iff_append.1 h
  rw [List.map_append, List.map_cons] at once
  have apart := (List.nodup_append.1 once).2.2
  exact List.lookup_eq_some_iff.2 ⟨l₁, l₂, rfl, fun p hp =>
    bne_iff_ne.2 (apart p.1 (List.mem_map_of_mem hp) k List.mem_cons_self).symm⟩

/-- Two entries of such a table, of numbers below 65,536, name different subindices. -/
theorem sub_ne_of_ne {α : Type} {t : Table α} {p q : Nat × α} (once : (t.map (·.1)).Nodup) (small : ∀ p ∈ t, p.1 < 65536)
    (hp : p ∈ t) (hq : q ∈ t) (h : p ≠ q) : q.1 % 65536 ≠ p.1 % 65536 := by
  rw [Nat.mod_eq_of_lt (small p hp), Nat.mod_eq_of_lt (small q hq)]
  exact fun e => h (List.inj_on_of_nodup_map once hp hq e.symm)

/-! ## What g reads -/

/-- What g reads from Cornice is as before. -/
structure AuKept {α : Type} (g : Cornice → α) (s t : State) : Prop where
  kept : g t.au = g s.au

section
variable {α : Type} {g : Cornice → α}

theorem AuKept.refl (s : State) : AuKept g s s := ⟨rfl⟩

/-- Outermost first. -/
theorem AuKept.seq {s t u : State} (h : AuKept g t u) (k : AuKept g s t) : AuKept g s u := ⟨h.kept.trans k.kept⟩

theorem AuKept.ite {p : Prop} [Decidable p] {s a b : State} (h : AuKept g s a) (k : AuKept g s b) :
    AuKept g s (if p then a else b) := by
  split
  · exact h
  · exact k

theorem AuKept.foldl {β : Type} {f : State → β → State} {xs : List β} {s : State} (h : ∀ u x, AuKept g u (f u x)) :
    AuKept g s (xs.foldl f s) := List.foldlRecOn xs f (.refl s) fun u hu x _ => (h u x).seq hu

/-- A function whose reach has no Cornice. -/
theorem AuKept.of_only {r : Reach} {s t : State} (h : Only r s t) (hp : Part.au ∉ r.parts := by decide) : AuKept g s t :=
  ⟨congrArg g (h.same .au hp)⟩

/-- Such a function after others. -/
theorem AuKept.still {r : Reach} {s t u : State} (h : Only r t u) (k : AuKept g s t) (hp : Part.au ∉ r.parts := by decide) :
    AuKept g s u := (AuKept.of_only h hp).seq k

end

theorem Only.aout {r : Reach} {s t : State} (h : Only r s t) (ch : Nat) (hp : Part.au ∉ r.parts := by decide) :
    t.aout ch = s.aout ch := (AuKept.of_only (g := fun a => look a.outs ch {}) h hp).kept

theorem Only.strip {r : Reach} {s t : State} (h : Only r s t) (ch : Nat) (hp : Part.au ∉ r.parts := by decide) :
    t.strip ch = s.strip ch := (AuKept.of_only (g := fun a => look a.strips ch {}) h hp).kept

theorem AuKept.strip {s t : State} (h : AuKept Cornice.strips s t) (ch : Nat) : t.strip ch = s.strip ch :=
  congrArg (fun l => look l ch ({} : Strip)) h.kept

theorem AuKept.aout {s t : State} (h : AuKept Cornice.outs s t) (ch : Nat) : t.aout ch = s.aout ch :=
  congrArg (fun l => look l ch ({} : AOut)) h.kept

end Sys2Proof.Machine
end

section
/-!
SUPPORT. Tap changes and crossfades of an output, and the samples that it emits (R285 to R290).
-/
namespace Sys2Proof.Machine
set_option Elab.async false

/-! ## Rates (R276) -/

theorem State.aoReaders_rate {s : State} {ch : Nat} {r : Nat × Nat} (h : r ∈ s.aoReaders ch) : r.1 = 48 ∨ r.1 = 96 := by
  simp only [State.aoReaders, List.mem_append, List.mem_map] at h
  obtain ((⟨-, -, rfl⟩ | ⟨-, -, rfl⟩) | ⟨e, -, rfl⟩) | ⟨-, -, rfl⟩ := h
  · exact .inl rfl
  · exact .inl rfl
  · dsimp only
    split
    · exact .inr rfl
    · exact .inl rfl
  · exact .inr rfl

theorem State.aoRate_cases (s : State) (ch : Nat) : s.aoRate ch = 48 ∨ s.aoRate ch = 96 := by
  unfold State.aoRate
  cases readers : s.aoReaders ch with
  | nil => exact .inr rfl
  | cons r l => exact State.aoReaders_rate (ch := ch) (r := r) (readers ▸ List.mem_cons_self)

/-- A sample of an output's rate at or after an index comes no earlier than the first one. -/
theorem onRate_le {rate c i : Nat} (h : c ≤ i) (sample : i % (96 / rate) = 0) : onRate rate c ≤ i := by
  unfold onRate ceilDiv
  obtain ⟨j, rfl⟩ := Nat.dvd_of_mod_eq_zero sample
  refine Nat.mul_le_mul_left _ ?_
  rcases Nat.eq_zero_or_pos (96 / rate) with zero | pos
  · rw [zero, Nat.div_zero]
    exact Nat.zero_le j
  · rw [← Nat.lt_succ_iff, Nat.div_lt_iff_lt_mul pos, Nat.succ_mul, Nat.mul_comm j]
    omega

theorem le_onRate {rate : Nat} (h : rate = 48 ∨ rate = 96) (e : Nat) : e ≤ onRate rate e := by
  unfold onRate ceilDiv
  rcases h with rfl | rfl
  · omega
  · omega

/-! ## One sample -/

/-- No tap change of an output of a rate is due at an index (R288). -/
def AOut.Undue (x : AOut) (rate i : Nat) : Prop := ∀ d, x.due = some d → i % (96 / rate) = 0 → reached d.2 i = false

/-- A change that is due at a time is not due before the sample at which it starts. -/
theorem AOut.undue_before {x : AOut} {tap : Tap} {a rate i : Nat} (due : x.due = some (tap, a))
    (h : i < onRate rate (ceilDiv (96000 * a) 1000000000)) : x.Undue rate i := by
  rintro d hd sample
  obtain rfl : (tap, a) = d := Option.some.inj (due.symm.trans hd)
  refine decide_eq_false fun late => Nat.not_le.2 h (onRate_le ?_ sample)
  unfold ceilDiv
  omega

section
variable {x : AOut} {n rate i : Nat} {bound : Bool}

theorem AOut.Undue.not_met (undue : x.Undue rate i) :
    ¬ (x.due.elim false (fun d => reached d.2 i) && decide (i % (96 / rate) = 0)) = true := by
  intro h
  obtain ⟨late, sample⟩ := Bool.and_eq_true_iff.1 h
  cases due : x.due with
  | none => simp [due] at late
  | some d =>
    rw [due, Option.elim_some, undue d due (of_decide_eq_true sample)] at late
    exact Bool.false_ne_true late

/-- Without a change that is due, and none that waits for more than the crossfade, a sample leaves the tap. -/
theorem AOut.meet_stays (undue : x.Undue rate i) (h : x.waiting = none ∨ x.fading = true) : x.meet n bound rate i = (x, 0) := by
  unfold AOut.meet
  rw [if_neg undue.not_met]
  rcases h with alone | fading
  · rw [alone]
  · cases x.waiting with
    | none => rfl
    | some t => exact if_pos fading

theorem AOut.meet_starts {t : Tap} (undue : x.Undue rate i) (waiting : x.waiting = some t) (ended : x.fading = false) :
    x.meet n bound rate i = (x.start t n bound, 0) := by
  unfold AOut.meet
  rw [if_neg undue.not_met, waiting]
  exact if_neg (by simp [ended])

end

/-! ## A run of samples -/

@[simp] theorem AOut.skip_zero (x : AOut) : x.skip 0 = x := by simp [AOut.skip]

theorem AOut.skip_skip (x : AOut) (a b : Nat) : (x.skip a).skip b = x.skip (a + b) := by
  rcases Nat.eq_zero_or_pos a with rfl | ha
  · rw [AOut.skip_zero, Nat.zero_add]
  rcases Nat.eq_zero_or_pos b with rfl | hb
  · exact AOut.skip_zero _
  unfold AOut.skip
  cases x.old with
  | none => rfl
  | some o => simp [Nat.pos_iff_ne_zero.1 ha, Nat.pos_iff_ne_zero.1 hb]; omega

theorem AOut.fading_skip (x : AOut) (k : Nat) : (x.skip k).fading = (x.old.isSome && decide (x.fadePos + k < x.fadeLen)) := by
  rcases Nat.eq_zero_or_pos k with rfl | hk
  · rw [AOut.skip_zero]
    rfl
  unfold AOut.skip AOut.fading
  cases x.old with
  | none => rfl
  | some o => simp [Nat.pos_iff_ne_zero.1 hk]

/-- A crossfade that has ended does not begin again. -/
theorem AOut.ended_skip {x : AOut} (h : x.fading = false) (k : Nat) : (x.skip k).fading = false := by
  rw [AOut.fading_skip, Bool.and_eq_false_iff]
  refine (Bool.and_eq_false_iff.1 h).imp_right fun ended => decide_eq_false ?_
  have ended := of_decide_eq_false ended
  omega

theorem AOut.undue_skip {x : AOut} {rate i : Nat} (k : Nat) (h : x.Undue rate i) : (x.skip k).Undue rate i := h

/-- One sample, and those after it. -/
theorem AOut.run_cons (x : AOut) (n : Nat) (bound : Bool) (rate i : Nat) (l : List Nat) :
    let r := x.meet n bound rate i
    let q := AOut.run n bound rate (r.1.skip 1) l
    (AOut.run n bound rate x (i :: l)).1 = q.1 ∧ (AOut.run n bound rate x (i :: l)).2.2 = r.2 + q.2.2 := by
  have one (y : AOut) :
      ({ y with fadePos := if y.old.isSome then min y.fadeLen (y.fadePos + 1) else y.fadePos } : AOut) = y.skip 1 := by
    simp [AOut.skip]
  rw [AOut.run, one]
  exact ⟨rfl, rfl⟩

/-- What stays through a run of k samples: nothing waits, or the crossfade goes on. -/
def AOut.Steady (x : AOut) (k : Nat) : Prop := x.waiting = none ∨ (x.old.isSome = true ∧ x.fadePos + k ≤ x.fadeLen)

theorem AOut.Steady.stays {x : AOut} {k : Nat} (h : x.Steady (k + 1)) : x.waiting = none ∨ x.fading = true :=
  h.imp_right fun ⟨old, within⟩ => Bool.and_eq_true_iff.2 ⟨old, decide_eq_true (by omega)⟩

theorem AOut.Steady.skip {x : AOut} {j k : Nat} (h : x.Steady (j + k)) : (x.skip j).Steady k := by
  refine h.imp_right fun ⟨old, within⟩ => ⟨old, ?_⟩
  unfold AOut.skip
  dsimp only
  split
  · omega
  · omega

section
variable {n rate : Nat} {bound : Bool}

/-- A run that no tap change meets moves the crossfade alone. -/
theorem AOut.run_steady {x : AOut} {l : List Nat} (undue : ∀ i ∈ l, x.Undue rate i) (steady : x.Steady l.length) :
    (AOut.run n bound rate x l).1 = x.skip l.length ∧ (AOut.run n bound rate x l).2.2 = 0 := by
  induction l generalizing x with
  | nil => exact ⟨(AOut.skip_zero x).symm, rfl⟩
  | cons i l ih =>
    obtain ⟨left, waits⟩ := x.run_cons n bound rate i l
    rw [AOut.meet_stays (undue i List.mem_cons_self) steady.stays] at left waits
    rw [List.length_cons, Nat.add_comm] at steady
    obtain ⟨rest, zero⟩ := ih (x := x.skip 1) (fun j hj => undue j (List.mem_cons_of_mem i hj)) steady.skip
    rw [left, waits, rest, zero, AOut.skip_skip, List.length_cons, Nat.add_comm 1]
    exact ⟨rfl, rfl⟩

/-- A run with a change that waits: it waits on, or it has started. -/
theorem AOut.run_waiting {x : AOut} {t : Tap} {l : List Nat} (undue : ∀ i ∈ l, x.Undue rate i) (waiting : x.waiting = some t) :
    (AOut.run n bound rate x l).1 = x.skip l.length ∨ ∃ k, (AOut.run n bound rate x l).1 = (x.start t n bound).skip k := by
  induction l generalizing x with
  | nil => exact .inl (AOut.skip_zero x).symm
  | cons i l ih =>
    have later (j) (hj : j ∈ l) : x.Undue rate j := undue j (List.mem_cons_of_mem i hj)
    obtain ⟨left, -⟩ := x.run_cons n bound rate i l
    cases fading : x.fading with
    | true =>
      rw [AOut.meet_stays (undue i List.mem_cons_self) (.inr fading)] at left
      rw [left, List.length_cons, Nat.add_comm, ← AOut.skip_skip]
      exact ih (x := x.skip 1) later waiting
    | false =>
      rw [AOut.meet_starts (undue i List.mem_cons_self) waiting fading] at left
      obtain ⟨rest, -⟩ := AOut.run_steady (n := n) (bound := bound) (x := (x.start t n bound).skip 1) (l := l) later (.inl rfl)
      exact .inr ⟨1 + l.length, by rw [left, rest, AOut.skip_skip]⟩

end

/-! ## The samples that an output emits -/

/-- An output as far as its tap changes and crossfades go. -/
def AOut.tapping (x : AOut) : AOut :=
  { x with pos := 0, muted := false, meter := {}, sent := [], line := [], first := none }

theorem AOut.tapping_sent (x : AOut) (l : List ((Nat × Nat) × Nat × List (Int × SideBits))) :
    ({ x with sent := l } : AOut).tapping = x.tapping := rfl

theorem State.sent_tapping (s : State) (ch : Nat) (l : List ((Nat × Nat) × Nat × List (Int × SideBits))) :
    AuKept (fun a => (look a.outs ch {}).tapping) s (s.setAout ch { s.aout ch with sent := l }) :=
  ⟨(congrArg AOut.tapping (State.aout_setAout ..)).trans ((s.aout ch).tapping_sent l)⟩

/-- y is x after k samples that no tap change has met. -/
structure AOut.Past (x : AOut) (k : Nat) (y : AOut) : Prop where
  tap : y.tap = x.tap
  waiting : y.waiting = x.waiting
  due : y.due = x.due
  fading : y.fading = (x.skip k).fading

theorem AOut.Past.of_tapping {x y : AOut} {k : Nat} (h : y.tapping = (x.skip k).tapping) : x.Past k y := by
  have past : x.Past k (x.skip k).tapping := ⟨rfl, rfl, rfl, rfl⟩
  obtain ⟨tap, waiting, due, fading⟩ := past
  rw [← h] at tap waiting due fading
  exact ⟨tap, waiting, due, fading⟩

section
variable {α : Type} {g : Cornice → α} {ch : Nat} (sent : ∀ (u : State) l, AuKept g u (u.setAout ch { u.aout ch with sent := l }))
include sent

theorem State.sendWords_keeps (s : State) (r : Nat × Nat) (next : Nat) (ws : List (Int × SideBits)) :
    AuKept g s (s.sendWords ch r next ws) := .still (State.emit_only ..) (sent ..)

theorem State.serveReader_keeps (s : State) (r : Nat × Nat) (target : Nat) (ws : List (Int × SideBits)) :
    AuKept g s (s.serveReader ch r target ws) := by
  unfold State.serveReader
  extract_lets next dither
  exact .ite (.still (State.drawn_only ..) (State.sendWords_keeps sent ..)) (State.sendWords_keeps sent ..)

end

/-- The index of the first sample of a run. -/
def State.runStart (s : State) (ch target : Nat) : Nat :=
  if (s.aout ch).pos + 32 < target then target - 16 else (s.aout ch).pos

/-- The indices of a run. -/
def State.runIndices (s : State) (ch target : Nat) : List Nat :=
  (List.range (target - s.runStart ch target)).map (s.runStart ch target + ·)

/-- An output before the first sample of a run. -/
def State.runFirst (s : State) (ch target : Nat) : AOut := (s.aout ch).skip (s.runStart ch target - (s.aout ch).pos)

/-- The output after a run, what each sample is taken from, and how many tap changes have begun to wait. -/
def State.ran (s : State) (ch target : Nat) : AOut × List Voice × Nat :=
  AOut.run (s.n Obj.aoFadeSamples ch) (s.aoBound ch) (s.aoRate ch) (s.runFirst ch target) (s.runIndices ch target)

theorem State.lt_of_mem_runIndices {s : State} {ch target i : Nat} (h : i ∈ s.runIndices ch target) : i < target := by
  obtain ⟨j, hj, rfl⟩ := List.mem_map.1 h
  have := List.mem_range.1 hj
  omega

/-- The samples passed over and the samples of a run. -/
theorem State.runIndices_length (s : State) (ch target : Nat) :
    s.runStart ch target - (s.aout ch).pos + (s.runIndices ch target).length = target - (s.aout ch).pos := by
  rw [State.runIndices, List.length_map, List.length_range]
  unfold State.runStart
  split
  · omega
  · omega

/-- What follows the samples of a run: their words leave for each kind of reader, the objects follow the tap, and the run's events
are raised. -/
def State.afterRun (s : State) (ch target : Nat) (readers : List (Nat × Nat)) (words : Nat × Nat → List (Int × SideBits))
    (waits : Nat) (was is : Bool) (clips : Nat) : State :=
  ((((readers.foldl (fun u r => u.serveReader ch r target (words r)) s).tapObjects ch).deferred ch waits).muteEvent was is
    ch).clipped ch clips

theorem State.runOut_some {s : State} {ch target : Nat} (h : s.runStart ch target < target) :
    ∃ y readers words was is clips,
      s.runOut ch target = (s.setAout ch y).afterRun ch target readers words (s.ran ch target).2.2 was is clips ∧
        y.tapping = (s.ran ch target).1.tapping := by
  unfold State.runOut
  extract_lets from_ x
  have samples : ¬ target ≤ from_ := Nat.not_le.2 h
  rw [if_neg samples]
  exact ⟨_, _, _, _, _, _, rfl, rfl⟩

theorem State.runOut_none {s : State} {ch target : Nat} (h : target ≤ s.runStart ch target) : s.runOut ch target = s := if_pos h

/-- Without samples the output is what it is after the run of none. -/
theorem State.ran_none {s : State} {ch target : Nat} (h : target ≤ s.runStart ch target) :
    s.ran ch target = (s.aout ch, [], 0) := by
  have empty : s.runIndices ch target = [] := by rw [State.runIndices, Nat.sub_eq_zero_of_le h]; rfl
  have whole : s.runStart ch target - (s.aout ch).pos = 0 := by
    revert h
    unfold State.runStart
    split
    · omega
    · omega
  rw [State.ran, empty, State.runFirst, whole, AOut.skip_zero]
  rfl

section
variable {s : State} {ch target waits clips : Nat} {readers : List (Nat × Nat)} {words : Nat × Nat → List (Int × SideBits)}
  {was is : Bool}

theorem State.afterRun_keeps {α : Type} {g : Cornice → α}
    (sent : ∀ (u : State) l, AuKept g u (u.setAout ch { u.aout ch with sent := l })) :
    AuKept g s (s.afterRun ch target readers words waits was is clips) :=
  .still (State.clipped_only ..) (.still (State.muteEvent_only ..) (.still (State.deferred_only ..)
    (.still (State.tapObjects_only ..) (.foldl fun u r => State.serveReader_keeps sent u r target (words r)))))

/-- Tap changes that begin to wait are counted (R290). -/
theorem State.deferred_counted (s : State) (ch waits : Nat) : Counted Obj.aoTapsDeferred ch waits s (s.deferred ch waits) := by
  unfold State.deferred Counted
  split
  · rfl
  · rw [(State.raiseLimited_only ..).n Obj.aoTapsDeferred ch]
    exact State.bump_counts ..

theorem State.afterRun_counted :
    Counted Obj.aoTapsDeferred ch waits s (s.afterRun ch target readers words waits was is clips) := by
  refine (((State.deferred_counted ..).still (State.muteEvent_only ..)).still (State.clipped_only ..)).from_same ?_
  rw [(State.tapObjects_only ..).n Obj.aoTapsDeferred ch]
  exact (Only.foldl (fun u r => u.serveReader_only ch r ..) (.refl _ s)).n Obj.aoTapsDeferred ch

end

theorem State.runOut_strips (s : State) (ch target : Nat) : AuKept Cornice.strips s (s.runOut ch target) := by
  rcases Nat.lt_or_ge (s.runStart ch target) target with samples | empty
  · obtain ⟨y, _, _, _, _, _, e, -⟩ := State.runOut_some samples
    rw [e]
    exact (State.afterRun_keeps fun _ _ => ⟨rfl⟩).seq ⟨rfl⟩
  · rw [State.runOut_none empty]
    exact .refl s

/-- The output after a run. -/
theorem State.runOut_tapping (s : State) (ch target : Nat) :
    ((s.runOut ch target).aout ch).tapping = (s.ran ch target).1.tapping := by
  rcases Nat.lt_or_ge (s.runStart ch target) target with samples | empty
  · obtain ⟨y, _, _, _, _, _, e, hy⟩ := State.runOut_some samples
    have kept : AuKept (fun a => (look a.outs ch {}).tapping) (s.setAout ch y) (s.runOut ch target) := by
      rw [e]
      exact State.afterRun_keeps fun u l => State.sent_tapping u ch l
    calc ((s.runOut ch target).aout ch).tapping = ((s.setAout ch y).aout ch).tapping := kept.kept
      _ = (s.ran ch target).1.tapping := by rw [State.aout_setAout, hy]
  · rw [State.runOut_none empty, State.ran_none empty]

theorem State.runOut_counted (s : State) (ch target : Nat) :
    Counted Obj.aoTapsDeferred ch (s.ran ch target).2.2 s (s.runOut ch target) := by
  rcases Nat.lt_or_ge (s.runStart ch target) target with samples | empty
  · obtain ⟨y, _, _, _, _, _, e, -⟩ := State.runOut_some samples
    rw [e]
    exact State.afterRun_counted.from_same ((State.setAout_only ..).n Obj.aoTapsDeferred ch)
  · rw [State.runOut_none empty, State.ran_none empty]
    rfl

section
variable {s : State} {ch target : Nat} (undue : ∀ i < target, (s.aout ch).Undue (s.aoRate ch) i)
include undue

/-- A run that no tap change meets. -/
theorem State.runOut_steady (steady : (s.aout ch).Steady (target - (s.aout ch).pos)) :
    (s.aout ch).Past (target - (s.aout ch).pos) ((s.runOut ch target).aout ch) ∧
      (s.runOut ch target).n Obj.aoTapsDeferred ch = s.n Obj.aoTapsDeferred ch := by
  rw [← s.runIndices_length ch target] at steady
  obtain ⟨left, waits⟩ := AOut.run_steady (x := s.runFirst ch target) (n := s.n Obj.aoFadeSamples ch) (bound := s.aoBound ch)
    (l := s.runIndices ch target) (fun i hi => AOut.undue_skip _ (undue i (State.lt_of_mem_runIndices hi))) steady.skip
  have counted := s.runOut_counted ch target
  rw [State.ran, waits] at counted
  refine ⟨.of_tapping ?_, counted⟩
  rw [State.runOut_tapping, State.ran, left, State.runFirst, AOut.skip_skip, State.runIndices_length]

/-- A run with a change that waits. -/
theorem State.runOut_waiting {t : Tap} (waiting : (s.aout ch).waiting = some t) :
    (s.aout ch).Past (target - (s.aout ch).pos) ((s.runOut ch target).aout ch) ∨
      ∃ k, ((s.aout ch).start t (s.n Obj.aoFadeSamples ch) (s.aoBound ch)).Past k ((s.runOut ch target).aout ch) := by
  have run := AOut.run_waiting (x := s.runFirst ch target) (n := s.n Obj.aoFadeSamples ch) (bound := s.aoBound ch)
    (l := s.runIndices ch target) (fun i hi => AOut.undue_skip _ (undue i (State.lt_of_mem_runIndices hi))) waiting
  refine run.imp (fun left => .of_tapping ?_) fun ⟨k, left⟩ => ⟨k, .of_tapping ?_⟩
  · rw [State.runOut_tapping, State.ran, left, State.runFirst, AOut.skip_skip, State.runIndices_length]
  · rw [State.runOut_tapping, State.ran, left]
    rfl

end

/-! ## A tap change begins, and a crossfade ends -/

section
variable {x : AOut} {tap : Tap} {a : Nat} (due : x.due = some (tap, a))
include due

theorem AOut.begin_starts (ended : x.fading = false) (n : Nat) (bound : Bool) :
    (x.begin n bound).1.tap = tap ∧ (x.begin n bound).1.due = none := by
  simp [AOut.begin, AOut.start, due, ended]

theorem AOut.begin_waits (fading : x.fading = true) (n : Nat) (bound : Bool) :
    (x.begin n bound).1.waiting = some tap ∧ (x.begin n bound).1.tap = x.tap ∧ (x.begin n bound).2 = 1 := by
  simp [AOut.begin, due, fading]

end

theorem State.beginTap_aout (s : State) (ch : Nat) :
    (s.beginTap ch).aout ch = ((s.aout ch).begin (s.n Obj.aoFadeSamples ch) (s.aoBound ch)).1 := by
  unfold State.beginTap
  extract_lets r
  rw [(State.deferred_only ..).aout ch, (State.tapObjects_only ..).aout ch, State.aout_setAout]

theorem State.tapObjects_path (s : State) (ch : Nat) :
    (s.tapObjects ch).n Obj.aoPathInForce ch = tapCode (s.aout ch).tap := by
  unfold State.tapObjects
  extract_lets t u
  have hu : u.n Obj.aoPathInForce ch = tapCode t := State.n_setN_self ..
  split
  · exact hu
  · exact (State.n_setN_ne _ _ _ _ _ _ (by decide)).trans hu

theorem State.beginTap_path (s : State) (ch : Nat) :
    (s.beginTap ch).n Obj.aoPathInForce ch = tapCode ((s.beginTap ch).aout ch).tap := by
  rw [State.beginTap_aout]
  unfold State.beginTap
  extract_lets r
  rw [(State.deferred_only ..).n Obj.aoPathInForce ch, State.tapObjects_path, State.aout_setAout]

theorem State.beginTap_counted (s : State) (ch : Nat) : Counted Obj.aoTapsDeferred ch
    ((s.aout ch).begin (s.n Obj.aoFadeSamples ch) (s.aoBound ch)).2 s (s.beginTap ch) := by
  refine (State.deferred_counted ..).from_same ?_
  rw [(State.tapObjects_only ..).n Obj.aoTapsDeferred ch]
  exact (State.setAout_only ..).n Obj.aoTapsDeferred ch

/-- A crossfade that is over is forgotten, and one that runs goes on. -/
theorem State.endFade_alone {s : State} {ch : Nat} (alone : (s.aout ch).waiting = none) :
    ((s.endFade ch).aout ch).waiting = none ∧ ((s.endFade ch).aout ch).tap = (s.aout ch).tap ∧
      ((s.aout ch).fading = false → ((s.endFade ch).aout ch).old = none) := by
  unfold State.endFade
  extract_lets x
  have alone : x.waiting = none := alone
  cases fading : x.fading with
  | true => exact ⟨alone, rfl, nofun⟩
  | false =>
    rw [if_neg Bool.false_ne_true, alone, State.aout_setAout]
    exact ⟨rfl, rfl, fun _ => rfl⟩

/-- A change that waits starts when its crossfade is over. -/
theorem State.endFade_starts {s : State} {ch : Nat} {t : Tap} (waiting : (s.aout ch).waiting = some t)
    (ended : (s.aout ch).fading = false) :
    (s.endFade ch).aout ch = (s.aout ch).start t (s.n Obj.aoFadeSamples ch) (s.aoBound ch) := by
  unfold State.endFade
  extract_lets x
  have waiting : x.waiting = some t := waiting
  rw [if_neg (by rw [ended]; exact Bool.false_ne_true), waiting]
  exact ((State.tapObjects_only ..).aout ch).trans (State.aout_setAout ..)

/-! ## TAP_CHANGE_START (R288, R290) -/

/-- A tap change of an output is due. -/
structure TapDue (s : State) (dt o : Nat) (tap : Tap) (a : Nat) : Prop where
  on : s.on
  due : (s.aout o).due = some (tap, a)
  late : a ≤ (s.tick dt).ptp

/-- The index of the sample at which a tap change starts. -/
def State.changeIndex (s : State) (o a : Nat) : Nat := onRate (s.aoRate o) (ceilDiv (96000 * a) 1000000000)

section
variable {s : State} {dt o a : Nat} {tap : Tap}

theorem TapDue.next (h : TapDue s dt o tap a) :
    exec (.tapChangeStart dt o) s = .next (((s.tick dt).runOut o (s.changeIndex o a)).beginTap o) := by
  obtain ⟨⟨awake, live⟩, due, late⟩ := h
  have next : execTapChangeStart dt o s = _ := actIf_next awake (by simpa [live, due] using late)
  have due : ((s.tick dt).aout o).due = some (tap, a) := due
  refine next.trans ?_
  rw [due]
  rfl

/-- What the output is before its tap change begins, where no other one meets its samples. -/
theorem TapDue.run (h : TapDue s dt o tap a) (steady : (s.aout o).Steady (s.changeIndex o a - (s.aout o).pos)) :
    (s.aout o).Past (s.changeIndex o a - (s.aout o).pos) (((s.tick dt).runOut o (s.changeIndex o a)).aout o) ∧
      ((s.tick dt).runOut o (s.changeIndex o a)).n Obj.aoTapsDeferred o = s.n Obj.aoTapsDeferred o :=
  State.runOut_steady (s := s.tick dt) (fun _ hi => AOut.undue_before h.due hi) steady

/-- A due tap change without a crossfade starts. -/
theorem tapChangeStart_starts (h : TapDue s dt o tap a) (ended : (s.aout o).fading = false) (alone : (s.aout o).waiting = none) :
    Completes (.tapChangeStart dt o) s fun t =>
      (t.aout o).tap = tap ∧ (t.aout o).due = none ∧ t.n Obj.aoPathInForce o = tapCode tap := by
  refine ⟨_, h.next, ?_⟩
  obtain ⟨left, -⟩ := h.run (.inl alone)
  generalize (s.tick dt).runOut o (s.changeIndex o a) = u at left ⊢
  have due : (u.aout o).due = some (tap, a) := left.due.trans h.due
  have ended : (u.aout o).fading = false := left.fading.trans (AOut.ended_skip ended _)
  obtain ⟨tap, taken⟩ := AOut.begin_starts due ended (u.n Obj.aoFadeSamples o) (u.aoBound o)
  rw [State.beginTap_path, State.beginTap_aout, tap, taken]
  exact ⟨rfl, rfl, rfl⟩

/-- A due tap change waits for the crossfade that runs at its sample, and is counted. -/
theorem tapChangeStart_waits (h : TapDue s dt o tap a) (old : (s.aout o).old.isSome = true)
    (runs : (s.aout o).fadePos + (s.changeIndex o a - (s.aout o).pos) < (s.aout o).fadeLen) :
    Completes (.tapChangeStart dt o) s fun t =>
      (t.aout o).waiting = some tap ∧ (t.aout o).tap = (s.aout o).tap ∧ Counted Obj.aoTapsDeferred o 1 s t := by
  refine ⟨_, h.next, ?_⟩
  obtain ⟨left, count⟩ := h.run (.inr ⟨old, runs.le⟩)
  generalize (s.tick dt).runOut o (s.changeIndex o a) = u at left count ⊢
  have due : (u.aout o).due = some (tap, a) := left.due.trans h.due
  have fading : (u.aout o).fading = true := by
    refine left.fading.trans ((AOut.fading_skip ..).trans ?_)
    rw [old, decide_eq_true runs]
    rfl
  obtain ⟨waits, tap, one⟩ := AOut.begin_waits due fading (u.n Obj.aoFadeSamples o) (u.aoBound o)
  rw [State.beginTap_aout, waits, tap, left.tap]
  exact ⟨rfl, rfl, .from_same (one ▸ u.beginTap_counted o) count⟩

end

/-! ## CROSSFADE_END (R289, R290) -/

/-- The index that follows the last sample of a crossfade. -/
def AOut.fadeEnd (x : AOut) : Nat := x.pos + (x.fadeLen - x.fadePos)

theorem crossfadeEnd_next {s : State} {dt o : Nat} (on : s.on) (old : (s.aout o).old.isSome = true)
    (late : 1000000000 * (s.aout o).fadeEnd ≤ 96000 * (s.tick dt).ptp) :
    exec (.crossfadeEnd dt o) s = .next (((s.tick dt).runOut o (onRate (s.aoRate o) (s.aout o).fadeEnd)).endFade o) := by
  have late : 1000000000 * ((s.aout o).pos + ((s.aout o).fadeLen - (s.aout o).fadePos)) ≤ 96000 * (s.tick dt).ptp := late
  exact (actIf_next on.1 (by simp [on.2, old, late]) : execCrossfadeEnd dt o s = _)

theorem crossfadeEnd_ends {s : State} {dt o : Nat} (on : s.on) (old : (s.aout o).old.isSome = true)
    (late : 1000000000 * (s.aout o).fadeEnd ≤ 96000 * (s.tick dt).ptp)
    (undue : ∀ d, (s.aout o).due = some d → 1000000000 * onRate (s.aoRate o) (s.aout o).fadeEnd ≤ 96000 * d.2) :
    Completes (.crossfadeEnd dt o) s fun t =>
      (t.aout o).waiting = none ∧ (t.aout o).tap = (s.aout o).waiting.getD (s.aout o).tap ∧
        ((s.aout o).waiting = none → (t.aout o).old = none) := by
  refine ⟨_, crossfadeEnd_next on old late, ?_⟩
  have enough : (s.aout o).fadeEnd ≤ onRate (s.aoRate o) (s.aout o).fadeEnd := le_onRate (s.aoRate_cases o) _
  generalize onRate (s.aoRate o) (s.aout o).fadeEnd = target at undue enough ⊢
  have undue (i) (hi : i < target) : ((s.tick dt).aout o).Undue ((s.tick dt).aoRate o) i := fun d hd _ =>
    decide_eq_false (by have := undue d hd; omega)
  have ended : ((s.aout o).skip (target - (s.aout o).pos)).fading = false := by
    rw [AOut.fading_skip, Bool.and_eq_false_iff]
    refine .inr (decide_eq_false ?_)
    unfold AOut.fadeEnd at enough
    omega
  cases waiting : (s.aout o).waiting with
  | none =>
    obtain ⟨left, -⟩ := State.runOut_steady (s := s.tick dt) undue (.inl waiting)
    obtain ⟨alone, tap, old⟩ := State.endFade_alone (s := (s.tick dt).runOut o target) (left.waiting.trans waiting)
    exact ⟨alone, tap.trans left.tap, fun _ => old (left.fading.trans ended)⟩
  | some t =>
    rcases State.runOut_waiting (s := s.tick dt) undue waiting with left | ⟨k, left⟩
    · have start := State.endFade_starts (s := (s.tick dt).runOut o target) (left.waiting.trans waiting)
        (left.fading.trans ended)
      beta_reduce
      rw [start]
      exact ⟨rfl, rfl, nofun⟩
    · obtain ⟨alone, tap, -⟩ := State.endFade_alone (s := (s.tick dt).runOut o target) left.waiting
      exact ⟨alone, tap.trans left.tap, nofun⟩

end Sys2Proof.Machine
end

section
/-!
SUPPORT. Blocks, converters, meters and loudness (R274, R277, R291, R296, R297).
-/
namespace Sys2Proof.Machine
set_option Elab.async false

/-! ## What a block leaves of the strips once they have run -/

theorem State.checkPath_strips (s : State) (ch : Nat) : AuKept Cornice.strips s (s.checkPath ch) := by
  unfold State.checkPath
  extract_lets x rate main y b t
  exact .ite (.ite (.refl s) ⟨rfl⟩) (.seq (t := t) ⟨rfl⟩ (.of_only (State.raise_only ..)))

theorem State.outBlock_strips (s : State) (ch : Nat) : AuKept Cornice.strips s (s.outBlock ch) :=
  (State.runOut_strips ..).seq (s.checkPath_strips ch)

theorem State.busBlock_strips (s : State) (m : Nat) : AuKept Cornice.strips s (s.busBlock m) := by
  unfold State.busBlock
  extract_lets x refs gb parts sum muted f0 g f1 eq q clips out t1 t2
  have h2 : AuKept Cornice.strips s t2 := .still (State.muteEvent_only ..) ⟨rfl⟩
  exact .ite h2 (.still (State.raiseLimited_only ..) (.still (State.bump_only ..) h2))

/-! ## The words of a channel (R271, R274) -/

/-- A channel at 96 kHz whose words reach Cornice, none of which wait. -/
structure Delivers (ch : Nat) (s : State) : Prop where
  delivers : s.aiDelivers ch = true
  rate : Objs.aiRate s.objs ch ≠ 1
  queue : (s.strip ch).queue = []

theorem State.stripBlock_input (s : State) (ch : Nat) (words : List Int) (side : List Nat) :
    ((s.stripBlock ch words side).strip ch).input = (words.reverse ++ (s.strip ch).input).take 96000 := by
  unfold State.stripBlock
  exact congrArg Strip.input (State.strip_setStrip ..)

theorem State.inputBlock_strip_ne (s : State) (given : List (Nat × List Int)) {c ch : Nat} (h : ch ≠ c) :
    (s.inputBlock given c).strip ch = s.strip ch := by
  unfold State.inputBlock State.stripBlock
  exact (State.strip_setStrip_ne _ _ _ _ h).trans (State.strip_setStrip_ne _ _ _ _ h)

theorem Delivers.inputBlock {ch c : Nat} {s : State} (h : Delivers ch s) (given : List (Nat × List Int)) (apart : c ≠ ch) :
    Delivers ch (s.inputBlock given c) :=
  ⟨h.delivers, h.rate, by rw [State.inputBlock_strip_ne _ _ apart.symm]; exact h.queue⟩

/-- 24-bit words are taken as they come. -/
theorem map_clampInt_words {ws : List Int} (h : ∀ w ∈ ws, -8388608 ≤ w ∧ w ≤ 8388607) :
    ws.map (clampInt (-8388608) 8388607) = ws := by
  refine (List.map_congr_left fun w hw => ?_).trans (List.map_id ws)
  obtain ⟨low, high⟩ := h w hw
  rw [clampInt, if_neg (by omega), if_neg (by omega), id]

/-- A block takes the 16 words that a channel is given. -/
theorem Delivers.takes {ch : Nat} {s : State} {given : List (Nat × List Int)} {ws : List Int} (h : Delivers ch s)
    (hws : given.lookup ch = some ws) (length : ws.length = 16) (words : ∀ w ∈ ws, -8388608 ≤ w ∧ w ≤ 8388607) :
    ((s.inputBlock given ch).strip ch).input.take 16 = ws.reverse := by
  have all : ((List.range 16).map fun i => ws.getD i 0) = ws := by
    refine List.ext_getElem (by simp [length]) fun i hi hj => ?_
    simp [List.getD_eq_getElem?_getD, hj]
  unfold State.inputBlock
  extract_lets dev step n w side
  rw [State.stripBlock_input]
  have hn : n = 16 := if_neg h.rate
  have hw : w = ws := by
    refine (if_pos h.delivers).trans ?_
    rw [h.queue, hws, Option.getD_some, List.nil_append, map_clampInt_words words, hn, ← length, List.take_length]
  rw [hn, hw, all, List.take_take, List.take_append_of_le_length (by simp [length])]
  exact List.take_of_length_le (by simp [length])

/-- The strips run. -/
def State.takeInputs (s : State) (inputs : List (Nat × List Int)) : State :=
  let given := inputs.filter fun p => p.1 ≤ 32767
  ((given.map (·.1) ++ s.au.strips.map (·.1)).eraseDups).foldl (fun u ch => u.inputBlock given ch) s

theorem corniceBlock_completes {s : State} {dt : Nat} (inputs : List (Nat × List Int)) (on : s.on)
    (due : s.au.block < (s.tick dt).blockNo) :
    Completes (.corniceBlock dt inputs) s
      (AuKept Cornice.strips (((s.tick dt).setBlock (s.tick dt).blockNo).takeInputs inputs)) := by
  have next : execCorniceBlock dt inputs s = _ := actIf_next on.1 (Bool.and_eq_true_iff.2 ⟨on.2, decide_eq_true due⟩)
  refine ⟨_, next, ?_⟩
  exact (AuKept.foldl fun u ch => u.outBlock_strips ch).seq (.foldl fun u m => u.busBlock_strips m)

theorem lookup_filter_fst {α : Type} {p : Nat → Bool} {k : Nat} (h : p k = true) (l : Table α) :
    (l.filter fun q => p q.1).lookup k = l.lookup k := by
  induction l with
  | nil => rfl
  | cons q l ih =>
    obtain ⟨c, v⟩ := q
    by_cases hc : k = c
    · subst hc
      simp [List.filter, h, List.lookup]
    · have hk : (k == c) = false := beq_eq_false_iff_ne.2 hc
      rw [List.filter]
      split
      · simp only [List.lookup, hk, ih]
      · simp only [List.lookup, hk, ih]

theorem State.takeInputs_takes {s : State} {ch : Nat} {inputs : List (Nat × List Int)} {ws : List Int} (h : Delivers ch s)
    (small : ch ≤ 32767) (hws : inputs.lookup ch = some ws) (length : ws.length = 16)
    (words : ∀ w ∈ ws, -8388608 ≤ w ∧ w ≤ 8388607) : ((s.takeInputs inputs).strip ch).input.take 16 = ws.reverse := by
  have given : (inputs.filter fun p => p.1 ≤ 32767).lookup ch = some ws :=
    (lookup_filter_fst (p := fun k => k ≤ 32767) (decide_eq_true small) inputs).trans hws
  unfold State.takeInputs
  extract_lets l
  have mem : ch ∈ (l.map (·.1) ++ s.au.strips.map (·.1)).eraseDups := by
    obtain ⟨l₁, l₂, e, -⟩ := List.lookup_eq_some_iff.1 given
    simp [List.mem_eraseDups, l, e]
  exact foldl_at (P := Delivers ch) (Q := fun u => (u.strip ch).input.take 16 = ws.reverse) mem (nodup_eraseDups _)
    (fun u hu c _ apart => hu.inputBlock l apart) (fun u hu => hu.takes given length words)
    (fun u hu c _ apart => by rw [State.inputBlock_strip_ne _ _ apart.symm]; exact hu) h

/-- CORNICE_BLOCK. -/
theorem corniceBlock_takes {s : State} {dt ch : Nat} {inputs : List (Nat × List Int)} {ws : List Int} (on : s.on)
    (due : s.au.block < (s.tick dt).blockNo) (h : Delivers ch s) (small : ch ≤ 32767) (hws : inputs.lookup ch = some ws)
    (length : ws.length = 16) (words : ∀ w ∈ ws, -8388608 ≤ w ∧ w ≤ 8388607) :
    Completes (.corniceBlock dt inputs) s fun t => (t.strip ch).input.take 16 = ws.reverse := by
  obtain ⟨t, next, kept⟩ := corniceBlock_completes inputs on due
  refine ⟨t, next, ?_⟩
  beta_reduce
  rw [kept.strip ch]
  exact State.takeInputs_takes ⟨h.delivers, h.rate, h.queue⟩ small hws length words

/-! ## AU_INPUT_RATE (R277) -/

theorem State.setConverter_state (s : State) (ch st : Nat) : (s.setConverter ch st).n Obj.aiConverter ch = st := by
  unfold State.setConverter
  split
  · next same => exact same.symm
  · split
    · exact State.n_setN_self ..
    · exact ((State.raise_only ..).n Obj.aiConverter ch).trans (State.n_setN_self ..)

theorem State.setConverter_raised {s : State} {ch st : Nat} (change : st ≠ s.n Obj.aiConverter ch) (fed : st ≠ 0) :
    Raised Ev.auInputRate ch s (s.setConverter ch st) := by
  unfold State.setConverter
  rw [if_neg change, if_neg fed]
  exact (State.raise_raised ..).before (.of_only (l := []) (State.setN_only ..))

/-- The converter's state for a deviation of an input. -/
def converterState (ppb : Int) : Nat := if ppb.natAbs ≤ 500 then 1 else if ppb.natAbs ≤ 1000000 then 2 else 3

theorem converterState_ne_zero (ppb : Int) : converterState ppb ≠ 0 := by
  unfold converterState
  split
  · decide
  · split
    · decide
    · decide

/-- A measured deviation is reported. -/
def State.measureRate (s : State) (ch : Nat) (ppb : Int) : State :=
  (s.setStrip ch { s.strip ch with ratedAt := s.now }).setI Obj.aiRateDeviation ch ppb

theorem auInputRate_next {s : State} {dt ch : Nat} (ppb : Int) (on : s.on) (small : ch ≤ 32767) (rate : Objs.aiRate s.objs ch = 1)
    (due : (s.strip ch).ratedAt + 1000000000 ≤ s.now + dt) :
    exec (.auInputRate dt ch ppb) s = .next (((s.tick dt).measureRate ch ppb).setConverter ch (converterState ppb)) :=
  (actIf_next on.1 (by simp [on.2, small, rate, due]) : execAuInputRate dt ch ppb s = _)

theorem State.measureRate_only (s : State) (ch : Nat) (ppb : Int) :
    Only ⟨[.au], [Obj.aiRateDeviation], []⟩ s (s.measureRate ch ppb) :=
  (State.setI_only ..).seq (State.setStrip_only ..).up

theorem auInputRate_decides {s : State} {dt ch : Nat} (ppb : Int) (on : s.on) (small : ch ≤ 32767)
    (rate : Objs.aiRate s.objs ch = 1) (due : (s.strip ch).ratedAt + 1000000000 ≤ s.now + dt) :
    Completes (.auInputRate dt ch ppb) s fun t =>
      t.i Obj.aiRateDeviation ch = ppb ∧ t.n Obj.aiConverter ch = converterState ppb ∧
        (t.n Obj.aiConverter ch ≠ s.n Obj.aiConverter ch → Raised Ev.auInputRate ch s t) := by
  refine ⟨_, auInputRate_next ppb on small rate due, ?_⟩
  have measured := (s.tick dt).measureRate_only ch ppb
  have before : ((s.tick dt).measureRate ch ppb).n Obj.aiConverter ch = s.n Obj.aiConverter ch := measured.n Obj.aiConverter ch
  beta_reduce
  rw [State.setConverter_state]
  refine ⟨?_, rfl, fun change => ?_⟩
  · exact ((State.setConverter_only ..).i Obj.aiRateDeviation ch).trans (State.i_setI_self ..)
  · have raised := State.setConverter_raised (before ▸ change) (converterState_ne_zero ppb)
    exact (raised.before (.of_only (l := []) measured) : Raised _ _ (s.tick dt) _)

/-! ## Meters (R296) -/

@[simp] theorem Meter.period_peak (m : Meter) (now hold : Nat) : (m.period now hold).peak = 0 := by
  unfold Meter.period
  split
  · rfl
  · rfl

/-- The end of a period for the meter of a strip. -/
def State.meterStrip (hold : Nat) (u : State) (p : Nat × Strip) : State :=
  let m := p.2.meter.period u.now hold
  ((u.setStrip p.1 { u.strip p.1 with meter := m }).setI Obj.aiPeak p.1 (levelOf fullScale p.2.meter.peak)).setI Obj.aiPeakHold
    p.1 (levelOf fullScale m.hold)

/-- The end of a period for the meter of a bus. -/
def State.meterBus (hold : Nat) (u : State) (p : Nat × Bus) : State :=
  let m := p.2.meter.period u.now hold
  (((u.setBus p.1 { u.bus p.1 with meter := m }).setI Obj.busPeak p.1 (levelOf fullScale p.2.meter.peak)).setI Obj.busPeakHold
    p.1 (levelOf fullScale m.hold)).setI Obj.busTruePeakMax p.1 (levelOf fullScale m.truePeak)

/-- The end of a period for the meter of an output. -/
def State.meterOut (hold : Nat) (u : State) (p : Nat × AOut) : State :=
  let m := p.2.meter.period u.now hold
  (((u.setAout p.1 { u.aout p.1 with meter := m }).setI Obj.aoPeak p.1 (levelOf 8388608 p.2.meter.peak)).setI Obj.aoPeakHold
    p.1 (levelOf 8388608 m.hold)).setI Obj.aoTruePeakMax p.1 (levelOf fullScale m.truePeak)

/-- The strips after a period. -/
def State.meterStrips (s : State) (hold : Nat) : State := s.au.strips.foldl (State.meterStrip hold) s

/-- The buses after a period. -/
def State.meterBuses (s : State) (hold : Nat) : State := s.au.buses.foldl (State.meterBus hold) s

/-- The outputs after a period. -/
def State.meterOuts (s : State) (hold : Nat) : State :=
  s.au.outs.foldl (fun u p => (u.meterOut hold p).reportLatency p.1) s

theorem meterPeriod_next {s : State} (dt : Nat) (on : s.on) :
    exec (.meterPeriod dt) s =
      .next ((((s.tick dt).meterStrips (s.n Obj.meterHoldTime 0)).meterBuses (s.n Obj.meterHoldTime 0)).meterOuts
        (s.n Obj.meterHoldTime 0)) :=
  (actIf_next on.1 on.2 : execMeterPeriod dt s = _)

/-! ### Strips -/

theorem State.meterStrip_outs (u : State) (hold : Nat) (p : Nat × Strip) : AuKept Cornice.outs u (u.meterStrip hold p) := ⟨rfl⟩

theorem State.meterStrip_own (u : State) (hold ch : Nat) (x : Strip) :
    (u.meterStrip hold (ch, x)).i Obj.aiPeak ch = levelOf fullScale x.meter.peak ∧
      ((u.meterStrip hold (ch, x)).strip ch).meter.peak = 0 := by
  unfold State.meterStrip
  extract_lets m
  refine ⟨?_, ?_⟩
  · rw [State.i_setI, if_neg fun e => absurd e.1 (by decide), State.i_setI_self]
  · exact (congrArg (fun y : Strip => y.meter.peak) (State.strip_setStrip u ch _)).trans (Meter.period_peak ..)

theorem State.meterStrip_ne (u : State) (hold : Nat) {p : Nat × Strip} {ch : Nat} (h : ch % 65536 ≠ p.1 % 65536) :
    (u.meterStrip hold p).i Obj.aiPeak ch = u.i Obj.aiPeak ch ∧ (u.meterStrip hold p).strip ch = u.strip ch := by
  unfold State.meterStrip
  extract_lets m
  refine ⟨?_, ?_⟩
  · rw [State.i_setI, if_neg fun e => h e.2, State.i_setI, if_neg fun e => h e.2]
    rfl
  · exact State.strip_setStrip_ne u p.1 ch _ fun e => h (e ▸ rfl)

theorem State.meterStrips_outs (s : State) (hold : Nat) : AuKept Cornice.outs s (s.meterStrips hold) :=
  .foldl fun u p => u.meterStrip_outs hold p

/-- What a period reports of a strip, and its meter begins anew. -/
theorem State.meterStrips_reports {s : State} {ch : Nat} {x : Strip} (hold : Nat) (once : (s.au.strips.map (·.1)).Nodup)
    (small : ∀ p ∈ s.au.strips, p.1 < 65536) (h : (ch, x) ∈ s.au.strips) :
    (s.meterStrips hold).i Obj.aiPeak ch = levelOf fullScale x.meter.peak ∧ ((s.meterStrips hold).strip ch).meter.peak = 0 := by
  refine foldl_at (P := fun _ : State => True)
    (Q := fun u : State => u.i Obj.aiPeak ch = levelOf fullScale x.meter.peak ∧ (u.strip ch).meter.peak = 0) h (.of_map _ once)
    (fun _ _ _ _ _ => trivial) (fun u _ => u.meterStrip_own hold ch x) (fun u ⟨level, peak⟩ p hp apart => ?_) trivial
  obtain ⟨sameLevel, sameStrip⟩ := u.meterStrip_ne hold (sub_ne_of_ne once small hp h apart)
  exact ⟨sameLevel.trans level, by rw [sameStrip]; exact peak⟩

/-! ### Buses -/

theorem State.meterBus_only (u : State) (hold : Nat) (p : Nat × Bus) :
    Only ⟨[.au], [Obj.busPeak, Obj.busPeakHold, Obj.busTruePeakMax], []⟩ u (u.meterBus hold p) :=
  (State.setI_only ..).seq ((State.setI_only ..).seq ((State.setI_only ..).seq (State.setBus_only ..).up))

theorem State.meterBuses_only (s : State) (hold : Nat) :
    Only ⟨[.au], [Obj.busPeak, Obj.busPeakHold, Obj.busTruePeakMax], []⟩ s (s.meterBuses hold) :=
  .foldl (fun u p => u.meterBus_only hold p) (.refl _ s)

theorem State.meterBuses_strips (s : State) (hold : Nat) : AuKept Cornice.strips s (s.meterBuses hold) := .foldl fun _ _ => ⟨rfl⟩

theorem State.meterBuses_outs (s : State) (hold : Nat) : AuKept Cornice.outs s (s.meterBuses hold) := .foldl fun _ _ => ⟨rfl⟩

/-! ### Outputs (R291) -/

/-- The latency and the origin of the first sample are reported; a latency that is none is a free value. -/
theorem State.reportLatency_some {s : State} {ch kind : Nat} {v : Int} (h : (s.aout ch).first = some (kind, v)) :
    ∃ lat w, s.reportLatency ch = (State.setN w Obj.aoLatencyLast ch lat).setN Obj.aoOriginKind ch kind ∧
      Only ⟨[.fresh], [], []⟩ (s.setAout ch { s.aout ch with first := none }) w ∧ (0 ≤ v → lat = v.toNat) := by
  unfold State.reportLatency
  rw [h]
  let w := s.setAout ch { s.aout ch with first := none }
  by_cases real : 0 ≤ v
  · exact ⟨v.toNat, w, by simp [real, w], .refl _ w, fun _ => rfl⟩
  · exact ⟨w.draw.1, w.draw.2, by simp [real, w], w.draw_only, fun h => absurd h real⟩

theorem State.reportLatency_none {s : State} {ch : Nat} (h : (s.aout ch).first = none) : s.reportLatency ch = s := by
  unfold State.reportLatency
  rw [h]

/-- What METER_PERIOD reports of an output's first sample reads the same. -/
structure OriginKept (o : Nat) (s t : State) : Prop where
  latency : t.n Obj.aoLatencyLast o = s.n Obj.aoLatencyLast o
  kind : t.n Obj.aoOriginKind o = s.n Obj.aoOriginKind o
  first : (t.aout o).first = (s.aout o).first

theorem OriginKept.seq {o : Nat} {s t u : State} (h : OriginKept o t u) (g : OriginKept o s t) : OriginKept o s u :=
  ⟨h.latency.trans g.latency, h.kind.trans g.kind, h.first.trans g.first⟩

theorem State.reportLatency_ne (s : State) {c o : Nat} (h : o % 65536 ≠ c % 65536) : OriginKept o s (s.reportLatency c) := by
  have apart : o ≠ c := fun e => h (e ▸ rfl)
  cases first : (s.aout c).first with
  | none =>
    rw [State.reportLatency_none first]
    exact ⟨rfl, rfl, rfl⟩
  | some p =>
    obtain ⟨lat, w, e, drawn, -⟩ := State.reportLatency_some (kind := p.1) (v := p.2) first
    have number (i) : w.n i o = s.n i o := drawn.n i o (by decide) List.not_mem_nil
    have out : w.aout o = s.aout o := (drawn.aout o).trans (State.aout_setAout_ne _ _ _ _ apart)
    rw [e]
    refine ⟨?_, ?_, congrArg AOut.first out⟩
    · rw [State.n_setN, if_neg fun e => h e.2, State.n_setN, if_neg fun e => h e.2, number]
    · rw [State.n_setN, if_neg fun e => h e.2, State.n_setN, if_neg fun e => h e.2, number]

theorem State.reportLatency_own {s : State} {o kind v : Nat} (h : (s.aout o).first = some (kind, (v : Int))) :
    (s.reportLatency o).n Obj.aoLatencyLast o = v ∧ (s.reportLatency o).n Obj.aoOriginKind o = kind ∧
      ((s.reportLatency o).aout o).first = none := by
  obtain ⟨lat, w, e, drawn, real⟩ := State.reportLatency_some h
  have out : (w.aout o).first = none := by rw [drawn.aout o, State.aout_setAout]
  rw [e]
  refine ⟨?_, State.n_setN_self .., out⟩
  rw [State.n_setN_ne _ _ _ _ _ _ (by decide), State.n_setN_self]
  exact real (Int.natCast_nonneg v)

/-- The meter of an output has no part in its latency. -/
theorem State.meterOut_origin (u : State) (hold o : Nat) (p : Nat × AOut) : OriginKept o u (u.meterOut hold p) := by
  unfold State.meterOut
  extract_lets m
  have levels (w : State) (a b c : Int) : Only ⟨[], [Obj.aoPeak, Obj.aoPeakHold, Obj.aoTruePeakMax], []⟩ w
      (((w.setI Obj.aoPeak p.1 a).setI Obj.aoPeakHold p.1 b).setI Obj.aoTruePeakMax p.1 c) :=
    (State.setI_only ..).seq ((State.setI_only ..).seq (State.setI_only ..).up)
  refine ⟨(levels ..).n Obj.aoLatencyLast o, (levels ..).n Obj.aoOriginKind o, ?_⟩
  rw [(levels ..).aout o]
  by_cases same : o = p.1
  · rw [same, State.aout_setAout]
  · rw [State.aout_setAout_ne _ _ _ _ same]

/-- What a period leaves of strips when it ends for the outputs. -/
theorem State.meterOuts_strips (s : State) (hold : Nat) : AuKept Cornice.strips s (s.meterOuts hold) := by
  refine .foldl fun u p => .seq (t := u.meterOut hold p) ?_ ⟨rfl⟩
  cases first : ((u.meterOut hold p).aout p.1).first with
  | none =>
    rw [State.reportLatency_none first]
    exact .refl _
  | some q =>
    obtain ⟨lat, w, e, drawn, -⟩ := State.reportLatency_some (kind := q.1) (v := q.2) first
    rw [e]
    exact .still (State.setN_only ..) (.still (State.setN_only ..) (.still drawn ⟨rfl⟩))

theorem State.meterOuts_only (s : State) (hold : Nat) :
    Only ⟨[.fresh, .au], [Obj.aoPeak, Obj.aoPeakHold, Obj.aoTruePeakMax, Obj.aoLatencyLast, Obj.aoOriginKind], []⟩ s
      (s.meterOuts hold) :=
  .foldl (fun u p => (State.reportLatency_only ..).seq ((State.setI_only ..).seq ((State.setI_only ..).seq ((State.setI_only ..).seq
    (State.setAout_only ..).up)))) (.refl _ s)

/-- What a period reports of an output's first sample, and it begins anew. -/
theorem State.meterOuts_reports {s : State} {o kind v : Nat} {x : AOut} (hold : Nat) (once : (s.au.outs.map (·.1)).Nodup)
    (small : ∀ p ∈ s.au.outs, p.1 < 65536) (h : (o, x) ∈ s.au.outs) (first : x.first = some (kind, (v : Int))) :
    (s.meterOuts hold).n Obj.aoLatencyLast o = v ∧ (s.meterOuts hold).n Obj.aoOriginKind o = kind ∧
      ((s.meterOuts hold).aout o).first = none := by
  have found : s.aout o = x := congrArg (·.getD {}) (lookup_of_mem once h)
  have others (u : State) (p) (hp : p ∈ s.au.outs) (apart : p ≠ (o, x)) :
      OriginKept o u ((u.meterOut hold p).reportLatency p.1) :=
    (State.reportLatency_ne _ (sub_ne_of_ne once small hp h apart)).seq (u.meterOut_origin hold o p)
  refine foldl_at (P := fun u : State => (u.aout o).first = some (kind, (v : Int)))
    (Q := fun u : State => u.n Obj.aoLatencyLast o = v ∧ u.n Obj.aoOriginKind o = kind ∧ (u.aout o).first = none) h (.of_map _ once)
    (fun u hu p hp apart => (others u p hp apart).first.trans hu)
    (fun u hu => State.reportLatency_own ((u.meterOut_origin hold o (o, x)).first.trans hu))
    (fun u ⟨latency, origin, new⟩ p hp apart => ?_) (found ▸ first)
  have kept := others u p hp apart
  exact ⟨kept.latency.trans latency, kept.kind.trans origin, kept.first.trans new⟩

/-! ### METER_PERIOD -/

theorem meterPeriod_strip {s : State} {ch : Nat} {x : Strip} (dt : Nat) (on : s.on) (once : (s.au.strips.map (·.1)).Nodup)
    (small : ∀ p ∈ s.au.strips, p.1 < 65536) (h : (ch, x) ∈ s.au.strips) :
    Completes (.meterPeriod dt) s fun t =>
      t.i Obj.aiPeak ch = levelOf fullScale x.meter.peak ∧ (t.strip ch).meter.peak = 0 := by
  refine ⟨_, meterPeriod_next dt on, ?_⟩
  obtain ⟨level, peak⟩ := State.meterStrips_reports (s := s.tick dt) (s.n Obj.meterHoldTime 0) once small h
  rw [(State.meterOuts_only ..).i Obj.aiPeak ch, (State.meterBuses_only ..).i Obj.aiPeak ch, (State.meterOuts_strips ..).strip ch,
    (State.meterBuses_strips ..).strip ch]
  exact ⟨level, peak⟩

theorem meterPeriod_output {s : State} {o kind v : Nat} {x : AOut} (dt : Nat) (on : s.on) (once : (s.au.outs.map (·.1)).Nodup)
    (small : ∀ p ∈ s.au.outs, p.1 < 65536) (h : (o, x) ∈ s.au.outs) (first : x.first = some (kind, (v : Int))) :
    Completes (.meterPeriod dt) s fun t =>
      t.n Obj.aoLatencyLast o = v ∧ t.n Obj.aoOriginKind o = kind ∧ (t.aout o).first = none := by
  refine ⟨_, meterPeriod_next dt on, ?_⟩
  have outs := (((s.tick dt).meterStrips (s.n Obj.meterHoldTime 0)).meterBuses_outs (s.n Obj.meterHoldTime 0)).seq
    ((s.tick dt).meterStrips_outs (s.n Obj.meterHoldTime 0))
  have outs : _ = s.au.outs := outs.kept
  exact State.meterOuts_reports _ (outs ▸ once) (outs ▸ small) (outs ▸ h) first

/-! ## Loudness (R297) -/

theorem loudnessOf_ge (members : List (Nat × List Int)) : -12800 ≤ loudnessOf members := by
  unfold loudnessOf
  extract_lets z v
  split
  · exact le_refl _
  · split
    · exact le_refl _
    · unfold clampInt
      split
      · exact le_refl _
      · split
        · decide
        · omega

/-- The short-term loudness of a group. -/
def State.loudness (s : State) (g : Nat) : Int :=
  let members := (chunksOf 5 24 (s.by Obj.loudMembers g)).filterMap fun c =>
    let w := fromBe (c.drop 4)
    if w = 0 then none else some (w, (s.history (fromBe (c.take 4))).1)
  if members.all fun m => m.2.all (· == 0) then -12800 else loudnessOf members

theorem State.loudness_ge (s : State) (g : Nat) : -12800 ≤ s.loudness g := by
  unfold State.loudness
  extract_lets members
  split
  · exact le_refl _
  · exact loudnessOf_ge members

/-- A group's loudness and its maximum are reported. -/
def State.reportLoudness (s : State) (g : Nat) (v : Int) : State :=
  let u := s.setI Obj.loudShortTerm g v
  u.setI Obj.loudShortTermMax g (max v (u.i Obj.loudShortTermMax g))

/-- Whether a group's loudness exceeds its limit. -/
def State.loudExceeds (s : State) (g : Nat) (v : Int) : Bool := s.i Obj.loudLimit g != 0x7FFF && s.i Obj.loudLimit g < v

/-- A group's loudness meets its limit. -/
def State.meetLimit (u : State) (g : Nat) (v : Int) : State :=
  if u.loudExceeds g v then
    if u.au.loudOver.contains g then u else { u with au := { u.au with loudOver := g :: u.au.loudOver } }.raise Ev.auLoudOver g
  else if u.au.loudOver.contains g && v + 100 ≤ u.i Obj.loudLimit g then
    { u with au := { u.au with loudOver := u.au.loudOver.filter (· != g) } }
  else u

theorem loudnessUpdate_next {s : State} {g : Nat} (dt : Nat) (on : s.on) (small : g ≤ 255) :
    exec (.loudnessUpdate dt g) s = .next (((s.tick dt).reportLoudness g (s.loudness g)).meetLimit g (s.loudness g)) :=
  (actIf_next on.1 (by simp [on.2, small]) : execLoudnessUpdate dt g s = _)

theorem State.reportLoudness_reads (s : State) (g : Nat) (v : Int) :
    (s.reportLoudness g v).i Obj.loudShortTerm g = v ∧
      (s.reportLoudness g v).i Obj.loudShortTermMax g = max v (s.i Obj.loudShortTermMax g) := by
  unfold State.reportLoudness
  extract_lets u
  rw [State.i_setI, if_neg fun e => absurd e.1 (by decide), State.i_setI_self, State.i_setI_self]
  exact ⟨rfl, congrArg (max v) ((State.setI_only ..).i Obj.loudShortTermMax g)⟩

theorem State.reportLoudness_only (s : State) (g : Nat) (v : Int) :
    Only ⟨[], [Obj.loudShortTerm, Obj.loudShortTermMax], []⟩ s (s.reportLoudness g v) :=
  (State.setI_only ..).seq (State.setI_only ..).up

/-- The groups above their limit change. -/
theorem State.withLoudOver_only (s : State) (l : List Nat) :
    Only ⟨[.au], [], []⟩ s { s with au := { s.au with loudOver := l } } :=
  .upd fun p => by cases p <;> first | exact .inr rfl | exact .inl (by decide)

theorem State.meetLimit_only (u : State) (g : Nat) (v : Int) :
    Only ⟨[.out, .pinned, .ev, .flashJournal, .au, .diskJournal], eventObjs, [0x40000004, 0x40000008]⟩ u (u.meetLimit g v) :=
  .ite (.ite (.refl _ u) ((State.raise_only ..).seq (State.withLoudOver_only ..).up))
    (.ite (State.withLoudOver_only ..).up (.refl _ u))

/-- The first excess of a limit is noted and raised. -/
theorem State.meetLimit_raises {u : State} {g : Nat} {v : Int} (limit : u.i Obj.loudLimit g ≠ 0x7FFF)
    (excess : u.i Obj.loudLimit g < v) (first : g ∉ u.au.loudOver) :
    g ∈ (u.meetLimit g v).au.loudOver ∧ Raised Ev.auLoudOver g u (u.meetLimit g v) := by
  have exceeds : u.loudExceeds g v = true := by simp [State.loudExceeds, limit, excess]
  unfold State.meetLimit
  rw [if_pos exceeds, if_neg (by simpa using first)]
  refine ⟨?_, (State.raise_raised ..).before (.of_objs (l := []) rfl)⟩
  rw [show (State.raise _ _ _).au = _ from (State.raise_only ..).same .au]
  exact List.mem_cons_self

theorem loudnessUpdate_reports {s : State} {g : Nat} (dt : Nat) (on : s.on) (small : g ≤ 255) :
    Completes (.loudnessUpdate dt g) s fun t =>
      t.i Obj.loudShortTermMax g = max (t.i Obj.loudShortTerm g) (s.i Obj.loudShortTermMax g) ∧
        -12800 ≤ t.i Obj.loudShortTerm g ∧
        (s.i Obj.loudLimit g ≠ 0x7FFF → s.i Obj.loudLimit g < t.i Obj.loudShortTerm g → g ∉ s.au.loudOver →
          g ∈ t.au.loudOver ∧ Raised Ev.auLoudOver g s t) := by
  refine ⟨_, loudnessUpdate_next dt on small, ?_⟩
  have low := s.loudness_ge g
  generalize s.loudness g = v at low ⊢
  obtain ⟨short, most⟩ := (s.tick dt).reportLoudness_reads g v
  have reported := (s.tick dt).reportLoudness_only g v
  have limit : ((s.tick dt).reportLoudness g v).i Obj.loudLimit g = s.i Obj.loudLimit g := reported.i Obj.loudLimit g
  have ended : ((s.tick dt).reportLoudness g v).au = s.au := reported.same .au
  beta_reduce
  rw [(State.meetLimit_only ..).i Obj.loudShortTerm g, (State.meetLimit_only ..).i Obj.loudShortTermMax g, short, most]
  refine ⟨rfl, low, fun limited excess first => ?_⟩
  obtain ⟨noted, raised⟩ := State.meetLimit_raises (limit ▸ limited) (limit ▸ excess) (ended ▸ first)
  exact ⟨noted, (raised.before (.of_only (l := []) reported) : Raised _ _ (s.tick dt) _)⟩

/-! ## The statement -/

/-- Settles O34: once the strips have run a block leaves them; the samples before a tap change or a crossfade's end meet no other
change; and a period meets each strip and output once. -/
theorem audioRuns : Obligations.AudioRuns := by
  unfold Obligations.AudioRuns
  refine ⟨?_, ?_, ?_, ?_, ?_, ?_, ?_, ?_⟩
  · exact fun s dt inputs ch ws on small hws delivers rate queue length words due =>
      corniceBlock_takes on due ⟨delivers, rate, queue⟩ small hws length words
  · exact fun s dt ch ppb on small rate due => auInputRate_decides ppb on small rate due
  · exact fun s dt o tap a on due late ended alone => tapChangeStart_starts ⟨on, due, late⟩ ended alone
  · exact fun s dt o tap a on due late old runs => tapChangeStart_waits ⟨on, due, late⟩ old runs
  · rintro s dt o e on old rfl late undue
    exact crossfadeEnd_ends on old late undue
  · exact fun s dt ch x on once small h => meterPeriod_strip dt on once small h
  · exact fun s dt o x kind v on once small h first => meterPeriod_output dt on once small h first
  · exact fun s dt g on small => loudnessUpdate_reports dt on small

end Sys2Proof.Machine
end

section
/-!
SUPPORT. Bits of registers: what a write of a bit or of a field leaves of the others.
-/
namespace Sys2Proof.Machine
set_option Elab.async false

/-- A number with a field set, in its three pieces. -/
theorem setField_pieces (x lo hi v : Nat) :
    setField x lo hi v =
      2 ^ lo * (2 ^ (hi + 1 - lo) * (x / 2 ^ lo / 2 ^ (hi + 1 - lo)) + v % 2 ^ (hi + 1 - lo)) + x % 2 ^ lo := by
  have whole := Nat.div_add_mod x (2 ^ lo)
  have upper := congrArg (2 ^ lo * ·) (Nat.div_add_mod (x / 2 ^ lo) (2 ^ (hi + 1 - lo)))
  simp only [Nat.mul_add] at upper ⊢
  rw [setField, field, Nat.mul_comm (x / 2 ^ lo % _), Nat.mul_comm (v % _)]
  omega

/-- The bits below and above a field stay. -/
theorem bit_setField_out {x lo hi v k : Nat} (h : k < lo ∨ (hi < k ∧ lo ≤ hi)) : bit (setField x lo hi v) k = bit x k := by
  have low : x % 2 ^ lo < 2 ^ lo := Nat.mod_lt _ (Nat.two_pow_pos lo)
  have mid : v % 2 ^ (hi + 1 - lo) < 2 ^ (hi + 1 - lo) := Nat.mod_lt _ (Nat.two_pow_pos _)
  rw [bit, setField_pieces, Nat.testBit_two_pow_mul_add _ low]
  rcases h with below | ⟨above, nonempty⟩
  · rw [if_pos below, Nat.testBit_mod_two_pow, decide_eq_true below, Bool.true_and, bit]
  · rw [if_neg (by omega), Nat.testBit_two_pow_mul_add _ mid, if_neg (by omega), Nat.testBit_div_two_pow,
      Nat.testBit_div_two_pow, bit]
    congr 1
    omega

/-- A bit is a field of one bit. -/
theorem setBit_eq_setField (x k : Nat) (b : Bool) : setBit x k b = setField x k k (b2n b) := by
  have single : field x k k = b2n (x.testBit k) := by
    rw [field, Nat.testBit_eq_decide_div_mod_eq, show k + 1 - k = 1 by omega, b2n]
    split
    · next h => exact of_decide_eq_true h
    · next h => have := of_decide_eq_false (Bool.eq_false_iff.2 h); omega
  have room : x.testBit k = true → 2 ^ k ≤ x := Nat.ge_two_pow_of_testBit
  rw [setField, single, show k + 1 - k = 1 by omega, setBit]
  cases hx : x.testBit k <;> cases b <;> simp [b2n]
  exact (Nat.sub_add_cancel (room hx)).symm

theorem bit_setBit_ne {x k j : Nat} (b : Bool) (h : j ≠ k) : bit (setBit x k b) j = bit x j := by
  rw [setBit_eq_setField]
  exact bit_setField_out (by omega)

theorem bit_setBit (x k j : Nat) (b : Bool) : bit (setBit x k b) j = if j = k then b else bit x j := by
  split
  · next h => rw [h, bit_setBit_self]
  · next h => exact bit_setBit_ne b h

/-- A field is its bits. -/
theorem field_congr {x y lo hi : Nat} (h : ∀ k, lo ≤ k → k ≤ hi → bit x k = bit y k) : field x lo hi = field y lo hi := by
  refine Nat.eq_of_testBit_eq fun i => ?_
  simp only [field, Nat.testBit_mod_two_pow, Nat.testBit_div_two_pow]
  by_cases hi' : i < hi + 1 - lo
  · rw [show x.testBit (i + lo) = y.testBit (i + lo) from h (i + lo) (by omega) (by omega)]
  · simp [hi']

theorem field_setField (x lo hi v : Nat) : field (setField x lo hi v) lo hi = v % 2 ^ (hi + 1 - lo) := by
  refine Nat.eq_of_testBit_eq fun i => ?_
  simp only [field, Nat.testBit_mod_two_pow, Nat.testBit_div_two_pow]
  by_cases hi' : i < hi + 1 - lo
  · rw [show (setField x lo hi v).testBit (i + lo) = v.testBit (i + lo - lo) from bit_setField (by omega) (by omega),
      Nat.add_sub_cancel]
  · simp [hi']

/-- A register keeps the low 32 bits of a number. -/
theorem bit_mod_word {j : Nat} (h : j < 32) (x : Nat) : bit (x % 2 ^ 32) j = bit x j := by
  rw [bit, Nat.testBit_mod_two_pow, decide_eq_true h, Bool.true_and, bit]

end Sys2Proof.Machine
end

section
/-!
SUPPORT. What the parts of a Tarn command leave of a port: `TarnKept g k p s t` says that g reads the same from port p in t as in s,
and so do TPn_CTRL and bit k of TPn_STAT.
-/
namespace Sys2Proof.Machine
set_option Elab.async false

/-! ## Registers -/

theorem tpReg_ne {p a b : Nat} (h : a ≠ b) : tpReg p a ≠ tpReg p b := fun e => h (Nat.add_left_cancel e)

/-- The settings of a port stand apart from the status of every port. -/
theorem tpReg_ctrl_ne_stat (p q : Nat) : tpReg p Tp.ctrl ≠ tpReg q Tp.stat := by
  unfold tpReg Tp.ctrl Tp.stat
  omega

/-- The registers of ports stand above those of the block. -/
theorem tpReg_not_low {p a b : Nat} (hb : b < 0x40050100 := by decide) : tpReg p a ≠ b := by
  unfold tpReg
  omega

theorem State.regN_setRegN_self (s : State) (a v : Nat) : (s.setRegN a v).regN a = v % 2 ^ 32 := by
  rw [State.regN_setRegN, if_pos rfl]

theorem State.regN_setRegN_ne (s : State) {a b : Nat} (v : Nat) (h : b ≠ a) : (s.setRegN a v).regN b = s.regN b := by
  rw [State.regN_setRegN, if_neg h]

/-- A register outside a reach reads as before. -/
theorem Only.regN {r : Reach} {s t : State} (h : Only r s t) {a : Nat} (ha : a ∉ r.regs)
    (hp : Part.regs ∉ r.parts := by decide) : t.regN a = s.regN a := by
  rw [State.regN, h.reg hp a ha, State.regN]

/-- A function whose reach has no register of the ports leaves one. -/
theorem Only.tpRegN {r : Reach} {s t : State} (h : Only r s t) (p off : Nat) (hp : Part.regs ∉ r.parts := by decide)
    (low : ∀ a ∈ r.regs, a < 0x40050000 := by decide) : t.regN (tpReg p off) = s.regN (tpReg p off) :=
  h.regN (fun m => absurd (low _ m) (by unfold tpReg; omega)) hp

theorem State.bit_setRegBit (s : State) (a : Nat) {j : Nat} (k : Nat) (b : Bool) (hj : j < 32) :
    bit ((s.setRegBit a k b).regN a) j = if j = k then b else bit (s.regN a) j := by
  rw [State.setRegBit, State.regN_setRegN_self, bit_mod_word hj, bit_setBit]

theorem State.tstat_setTstat (s : State) (p : Nat) {j : Nat} (k : Nat) (b : Bool) (hj : j < 32 := by decide) :
    (s.setTstat p k b).tstat p j = if j = k then b else s.tstat p j := s.bit_setRegBit _ k b hj

@[simp] theorem State.regN_setTp (s : State) (p a : Nat) (x : TarnPort) : (s.setTp p x).regN a = s.regN a := rfl
@[simp] theorem State.tstat_tick (s : State) (dt p k : Nat) : (s.tick dt).tstat p k = s.tstat p k := rfl
@[simp] theorem State.tctrlBit_tick (s : State) (dt p k : Nat) : (s.tick dt).tctrlBit p k = s.tctrlBit p k := rfl
@[simp] theorem State.tarnOwn_tick (s : State) (dt p : Nat) : (s.tick dt).tarnOwn p = s.tarnOwn p := rfl
@[simp] theorem State.tarnFrameAt_tick (s : State) (dt p : Nat) : (s.tick dt).tarnFrameAt p = s.tarnFrameAt p := rfl

/-- A function whose reach has no port. -/
theorem Only.tp {r : Reach} {s t : State} (h : Only r s t) (p : Nat) (hp : Part.tarn ∉ r.parts := by decide) : t.tp p = s.tp p :=
  congrArg (fun x : Tarn => look x.ports p {}) (h.same .tarn hp)

/-! ## What g reads -/

/-- What g reads from a port, its settings and one of its status bits are as before. -/
structure TarnKept {α : Type} (g : TarnPort → α) (k p : Nat) (s t : State) : Prop where
  port : g (t.tp p) = g (s.tp p)
  ctrl : t.regN (tpReg p Tp.ctrl) = s.regN (tpReg p Tp.ctrl)
  stat : t.tstat p k = s.tstat p k

section
variable {α : Type} {g : TarnPort → α} {k p : Nat} {s t u : State}

theorem TarnKept.refl (s : State) : TarnKept g k p s s := ⟨rfl, rfl, rfl⟩

theorem TarnKept.tick (dt : Nat) : TarnKept g k p s (s.tick dt) := ⟨rfl, rfl, rfl⟩

/-- Outermost first. -/
theorem TarnKept.seq (h : TarnKept g k p t u) (e : TarnKept g k p s t) : TarnKept g k p s u :=
  ⟨h.port.trans e.port, h.ctrl.trans e.ctrl, h.stat.trans e.stat⟩

theorem TarnKept.ite {c : Prop} [Decidable c] {a b : State} (h : TarnKept g k p s a) (e : TarnKept g k p s b) :
    TarnKept g k p s (if c then a else b) := by
  split
  · exact h
  · exact e

/-- What can be told from what g reads. -/
theorem TarnKept.comp {β : Type} (f : α → β) (h : TarnKept g k p s t) : TarnKept (f ∘ g) k p s t :=
  ⟨congrArg f h.port, h.ctrl, h.stat⟩

/-- A function whose reach has neither a port nor its registers. -/
theorem TarnKept.of_only {r : Reach} (h : Only r s t) (hp : Part.tarn ∉ r.parts := by decide)
    (hr : Part.regs ∉ r.parts := by decide) (low : ∀ a ∈ r.regs, a < 0x40050000 := by decide) : TarnKept g k p s t :=
  ⟨congrArg g (h.tp p hp), h.tpRegN p _ hr low, congrArg (bit · k) (h.tpRegN p _ hr low)⟩

/-- Such a function after others. -/
theorem TarnKept.still {r : Reach} (h : Only r t u) (e : TarnKept g k p s t) (hp : Part.tarn ∉ r.parts := by decide)
    (hr : Part.regs ∉ r.parts := by decide) (low : ∀ a ∈ r.regs, a < 0x40050000 := by decide) : TarnKept g k p s u :=
  (TarnKept.of_only h hp hr low).seq e

/-- A port written, of which g reads the same. -/
theorem TarnKept.setTp {x : TarnPort} (h : g x = g (s.tp p)) : TarnKept g k p s (s.setTp p x) :=
  ⟨(congrArg g (s.tp_setTp p x)).trans h, rfl, rfl⟩

/-- Another register of the port written. -/
theorem TarnKept.setRegN (off v : Nat) (hc : Tp.ctrl ≠ off := by decide) (hs : Tp.stat ≠ off := by decide) :
    TarnKept g k p s (s.setRegN (tpReg p off) v) :=
  ⟨rfl, s.regN_setRegN_ne v (tpReg_ne hc), congrArg (bit · k) (s.regN_setRegN_ne v (tpReg_ne hs))⟩

/-- Another status bit written. -/
theorem TarnKept.setTstat (j : Nat) (b : Bool) (hk : k ≠ j := by decide) (h32 : k < 32 := by decide) :
    TarnKept g k p s (s.setTstat p j b) :=
  ⟨rfl, s.regN_setRegN_ne _ (tpReg_ne (by decide)), (s.tstat_setTstat p j b h32).trans (if_neg hk)⟩

/-- A counter of the port. -/
theorem TarnKept.bumpReg (off : Nat) (hc : Tp.ctrl ≠ off := by decide) (hs : Tp.stat ≠ off := by decide) :
    TarnKept g k p s (s.bumpReg (tpReg p off)) := by
  have counted := s.bumpReg_only (tpReg p off) 1
  have stays {a : Nat} (h : a ≠ off) : (s.bumpReg (tpReg p off)).regN (tpReg p a) = s.regN (tpReg p a) :=
    counted.regN (by simpa using ⟨tpReg_ne h, tpReg_not_low, tpReg_not_low⟩) (by simp)
  exact ⟨congrArg g (counted.tp p (by simp)), stays hc, congrArg (bit · k) (stays hs)⟩

end

/-! ## The parts of the commands -/

section
variable {α : Type} {g : TarnPort → α} {k : Nat} (s : State) (p : Nat)

theorem State.setSrcState_tarnKept (st : Nat) (h2 : k ≠ 2 := by decide) (h3 : k ≠ 3 := by decide) (h32 : k < 32 := by decide) :
    TarnKept g k p s (s.setSrcState p st) := by
  unfold State.setSrcState
  refine .ite (.refl s) (.still (State.raise_only ..) ⟨rfl, s.regN_setRegN_ne _ (tpReg_ne (by decide)), ?_⟩)
  rw [State.tstat, State.setRegField, State.regN_setRegN_self, bit_mod_word h32, bit_setField_out (by omega), State.tstat]

theorem State.refreshSrc_tarnKept (h2 : k ≠ 2 := by decide) (h3 : k ≠ 3 := by decide) (h32 : k < 32 := by decide) :
    TarnKept g k p s (s.refreshSrc p) := s.setSrcState_tarnKept p _ h2 h3 h32

theorem State.refreshFifo_tarnKept : TarnKept g k p s (s.refreshFifo p) := .setRegN _ _

theorem State.tarnOverrun_tarnKept (h : k ≠ 9 := by decide) (h32 : k < 32 := by decide) :
    TarnKept g k p s (s.tarnOverrun p) := .still (State.raiseLimited_only ..) (.setTstat 9 true h h32)

/-- OVERRUN is set. -/
theorem State.tarnOverrun_sets : (s.tarnOverrun p).tstat p 9 = true :=
  (TarnKept.of_only (g := id) (State.raiseLimited_only ..)).stat.trans (s.tstat_setTstat p 9 true)

end

/-! ## Functions of one port -/

/-- What a function of one port leaves: the group's start instant, the registers of Tarn but the port's status, and the other
ports. -/
structure OwnPort (p : Nat) (s t : State) : Prop where
  t0 : t.tarn.t0 = s.tarn.t0
  regs : ∀ a, 0x40050000 ≤ a → a ≠ tpReg p Tp.stat → t.regN a = s.regN a
  ports : ∀ q, q ≠ p → t.tp q = s.tp q

section
variable {p : Nat} {s t u : State}

theorem OwnPort.refl (s : State) : OwnPort p s s := ⟨rfl, fun _ _ _ => rfl, fun _ _ => rfl⟩

/-- Outermost first. -/
theorem OwnPort.seq (h : OwnPort p t u) (e : OwnPort p s t) : OwnPort p s u :=
  ⟨h.t0.trans e.t0, fun a low apart => (h.regs a low apart).trans (e.regs a low apart),
    fun q apart => (h.ports q apart).trans (e.ports q apart)⟩

theorem OwnPort.ite {c : Prop} [Decidable c] {a b : State} (h : OwnPort p s a) (e : OwnPort p s b) :
    OwnPort p s (if c then a else b) := by
  split
  · exact h
  · exact e

theorem OwnPort.setTp (x : TarnPort) : OwnPort p s (s.setTp p x) :=
  ⟨rfl, fun _ _ _ => rfl, fun q apart => s.tp_setTp_ne p q x apart⟩

theorem OwnPort.setStat (v : Nat) : OwnPort p s (s.setRegN (tpReg p Tp.stat) v) :=
  ⟨rfl, fun _ _ apart => s.regN_setRegN_ne v apart, fun _ _ => rfl⟩

theorem OwnPort.raise (src subj : Nat) : OwnPort p s (s.raise src subj) := by
  have raised := s.raise_only src subj
  exact ⟨congrArg Tarn.t0 (raised.same .tarn), fun a low _ => raised.regN (by simp; omega), fun q _ => raised.tp q⟩

/-- A register of the port. -/
theorem OwnPort.tpReg (h : OwnPort p s t) (off : Nat) (apart : off ≠ Tp.stat := by decide) :
    t.regN (tpReg p off) = s.regN (tpReg p off) := h.regs _ (by unfold Machine.tpReg; omega) (tpReg_ne apart)

theorem State.refreshSrc_ownPort (s : State) (p : Nat) : OwnPort p s (s.refreshSrc p) := by
  unfold State.refreshSrc State.setSrcState
  extract_lets old
  exact .ite (.refl s) ((OwnPort.raise ..).seq (.setStat _))

end

end Sys2Proof.Machine
end

section
/-!
SUPPORT. What the parts of a Tarn frame leave of its port (R304 to R320).
-/
namespace Sys2Proof.Machine
set_option Elab.async false

/-- Where a port stands in its frames. -/
def TarnPort.timing (x : TarnPort) : Option Nat × Nat × Nat × Option Nat := (x.startAt, x.count, x.grid, x.stepAt)

/-- The transmit side of a port. -/
def TarnPort.sending (x : TarnPort) : Option (Nat × Nat × Bool) × Nat × List Nat × List Byte :=
  (x.txPend, x.txMask, x.txFifo, x.txBytes)

/-- The receive side of a port, as far as its FIFO and its mask go. -/
def TarnPort.taking (x : TarnPort) : Option (Nat × Nat × Bool) × Nat × List Nat × List Byte :=
  (x.rxPend, x.rxMask, x.rxFifo, x.rxBytes)

/-! ## Masks and words -/

section
variable {k : Nat} (s : State) (p : Nat)

theorem State.realign_timing : TarnKept TarnPort.timing k p s (s.realign p) := by
  have drawn : TarnKept TarnPort.timing k p s (s.drawBytes (4 - (s.tp p).rxBytes.length)).2 :=
    .of_only (State.drawBytes_only ..)
  unfold State.realign
  extract_lets x
  refine .ite (.setTp rfl) (.seq (.setTp ?_) drawn)
  rfl

/-- Without bytes of a receive word only those of a transmit word go. -/
theorem State.realign_empty {s : State} {p : Nat} (h : (s.tp p).rxBytes = []) :
    s.realign p = s.setTp p { s.tp p with txBytes := [] } := by
  unfold State.realign
  extract_lets x
  exact if_pos (by rw [h]; rfl)

/-- A mask that takes effect, before the words are realigned. -/
def State.maskTaken (s : State) (p : Nat) (tx : Bool) (v : Nat) : State :=
  let x := s.tp p
  let t := s.setTp p (if tx then { x with txPend := none, txMask := v } else { x with rxPend := none, rxMask := v })
  ((t.setRegBit (tpReg p Tp.maskStat) (b2n tx) false).setRegN (tpReg p 0x10) (x.count % 2 ^ 32)).setRegN (tpReg p 0x14)
    (x.count / 2 ^ 32)

theorem State.maskTaken_tarnKept {α : Type} {g : TarnPort → α} (tx : Bool) (v : Nat)
    (h : g (if tx then { s.tp p with txPend := none, txMask := v } else { s.tp p with rxPend := none, rxMask := v }) = g (s.tp p)) :
    TarnKept g k p s (s.maskTaken p tx v) :=
  (TarnKept.setRegN 0x14 _).seq ((TarnKept.setRegN 0x10 _).seq ((TarnKept.setRegN Tp.maskStat _).seq (.setTp h)))

/-- A mask waits on, or takes effect. -/
theorem State.applyMask_some {s : State} {p v a : Nat} {tx late : Bool} (start : Nat)
    (h : (if tx then (s.tp p).txPend else (s.tp p).rxPend) = some (v, a, late)) :
    s.applyMask p tx start =
      if late || tooLate (s.regN (tpReg p Tp.ctrl)) a start then
        s.setTp p (if tx then { s.tp p with txPend := some (v, a, false) } else { s.tp p with rxPend := some (v, a, false) })
      else ((s.maskTaken p tx v).realign p).raise Ev.tarnMaskApplied p := by
  simp only [State.applyMask, h]
  rfl

theorem State.applyMask_none {s : State} {p : Nat} {tx : Bool} (start : Nat)
    (h : (if tx then (s.tp p).txPend else (s.tp p).rxPend) = none) : s.applyMask p tx start = s := by
  simp only [State.applyMask, h]

theorem State.applyMask_timing (tx : Bool) (start : Nat) : TarnKept TarnPort.timing k p s (s.applyMask p tx start) := by
  cases h : if tx then (s.tp p).txPend else (s.tp p).rxPend with
  | none => rw [State.applyMask_none start h]; exact .refl s
  | some w =>
    rw [State.applyMask_some start h]
    refine .ite (.setTp ?_) (.still (State.raise_only ..) ((State.realign_timing ..).seq (s.maskTaken_tarnKept p tx _ ?_)))
    · cases tx <;> rfl
    · cases tx <;> rfl

end

/-! ## The receive side -/

section
variable {k : Nat} (s : State) (p : Nat)

/-- A port that is no PDM port hears the words of its slots. -/
theorem TarnPort.hear_slots {x : TarnPort} {c : Nat} (rx : List Int) (slots : tpMode c ≠ 2) :
    x.hear c rx = ((List.range (tpSlots c)).map fun k => slotReceive (tpSlotWidth c) (sat24 (rx.getD k 0)), false, x) :=
  if_neg slots

/-- A PDM port moves its decimators alone. -/
theorem TarnPort.hear_keeps {α : Type} {g : TarnPort → α} (x : TarnPort) (c : Nat) (rx : List Int)
    (h : ∀ (y : TarnPort) mics hpf, g { y with mics := mics, hpf := hpf } = g y) : g (x.hear c rx).2.2 = g x := by
  by_cases pdm : tpMode c = 2
  · rw [TarnPort.hear, if_pos pdm]
    exact h ..
  · rw [TarnPort.hear_slots rx pdm]

theorem TarnPort.centred_kept {α : Type} {g : TarnPort → α} (x : TarnPort) (a : Nat) (l : Int)
    (h : ∀ (y : TarnPort) since made loop, g { y with since := since, made := made, loop := loop } = g y) :
    g { x.centred a with loop := l } = g x := by
  unfold TarnPort.centred
  split
  · exact h x (some a) 0 l
  · exact h x x.since x.made l

/-- The converter has no part in what g reads. -/
theorem State.tarnFill_tarnKept {α : Type} {g : TarnPort → α} (a : Nat)
    (h : ∀ (y : TarnPort) since made loop, g { y with since := since, made := made, loop := loop } = g y) :
    TarnKept g k p s (s.tarnFill p a) :=
  (TarnKept.setRegN 0x2C _).seq (.setTp ((s.tp p).centred_kept a _ h))

theorem State.tarnDeliver_tarnKept {α : Type} {g : TarnPort → α} (a : Nat) (ratio : Rat)
    (h : ∀ (y : TarnPort) made, g { y with made := made } = g y) : TarnKept g k p s (s.tarnDeliver p a ratio) :=
  .still (.foldl (fun u j => State.queueWords_only ..) (Only.refl ⟨[.au], [], []⟩ _)) (.setTp (h ..))

/-- The words of a frame reach the FIFO, or are lost. -/
theorem State.tarnCollect_tarnKept {α : Type} {g : TarnPort → α} (samples : List Int)
    (h : ∀ (y : TarnPort) f b, g { y with rxFifo := f, rxBytes := b } = g y) (h9 : k ≠ 9 := by decide)
    (h32 : k < 32 := by decide) : TarnKept g k p s (s.tarnCollect p samples) := by
  unfold State.tarnCollect
  exact .ite ((State.tarnOverrun_tarnKept _ _ h9 h32).seq (.bumpReg 0x38)) (.setTp (h ..))

/-- What a frame's microphones and slots deliver, before it reaches the FIFO. -/
def State.tarnHeard (s : State) (p : Nat) (rx : List Int) (clip : Bool) : State :=
  let c := s.regN (tpReg p Tp.ctrl)
  let h := (s.tp p).hear c rx
  let x := h.2.2
  let words := h.1.zipIdx.map fun q => if (s.tp p).rxMask.testBit q.2 then q.1 else 0
  let t := s.setTp p { x with heard := words.zipIdx.map fun q => (q.1 :: x.heard.getD q.2 []).take 64 }
  if tpMode c = 2 && (h.2.1 || clip) then t.setTstat p 13 true else t

/-- The samples of a frame's enabled slots. -/
def State.tarnSamples (s : State) (p : Nat) (rx : List Int) : List Int :=
  let c := s.regN (tpReg p Tp.ctrl)
  let words := ((s.tp p).hear c rx).1.zipIdx.map fun q => if (s.tp p).rxMask.testBit q.2 then q.1 else 0
  (enabledSlots c (s.tp p).rxMask).map fun k => words.getD k 0

/-- After the FIFO the receive side has to do with the converter alone. -/
theorem State.tarnReceive_converts {α : Type} {g : TarnPort → α} (a : Nat) (rx : List Int) (clip : Bool)
    (h : ∀ (y : TarnPort) since made loop, g { y with since := since, made := made, loop := loop } = g y) :
    TarnKept g k p ((s.tarnHeard p rx clip).tarnCollect p (s.tarnSamples p rx)) (s.tarnReceive p a rx clip) := by
  unfold State.tarnReceive
  extract_lets c r mask x words t1 t2 t3 t4
  have filled : TarnKept g k p ((s.tarnHeard p rx clip).tarnCollect p (s.tarnSamples p rx)) t3 := State.tarnFill_tarnKept _ p a h
  have delivered : TarnKept g k p _ t4 := (State.tarnDeliver_tarnKept t3 p a _ fun y m => h y y.since m y.loop).seq filled
  exact .ite delivered (.still (State.setInLatency_only ..) delivered)

/-- What is heard moves the converter's words and the decimators alone. -/
theorem State.tarnHeard_tarnKept {α : Type} {g : TarnPort → α} (rx : List Int) (clip : Bool)
    (h : ∀ (y : TarnPort) mics hpf heard, g { y with mics := mics, hpf := hpf, heard := heard } = g y)
    (h13 : k ≠ 13 := by decide) (h32 : k < 32 := by decide) : TarnKept g k p s (s.tarnHeard p rx clip) := by
  unfold State.tarnHeard
  extract_lets c r x words t
  have heard : TarnKept g k p s t :=
    .setTp ((h x x.mics x.hpf _).trans ((s.tp p).hear_keeps c rx fun y mics hpf => h y mics hpf y.heard))
  exact .ite ((TarnKept.setTstat 13 true h13 h32).seq heard) heard

/-- The receive side of a frame leaves the transmit side and the port's place in its frames. -/
theorem State.tarnReceive_sending (a : Nat) (rx : List Int) (clip : Bool) :
    TarnKept (fun x => (x.timing, x.sending)) 0 p s (s.tarnReceive p a rx clip) :=
  (s.tarnReceive_converts p a rx clip fun _ _ _ _ => rfl).seq
    ((State.tarnCollect_tarnKept _ p _ fun _ _ _ => rfl).seq (s.tarnHeard_tarnKept p rx clip fun _ _ _ _ => rfl))

end

end Sys2Proof.Machine
end

section
/-!
PROOFS. Tarn ports: a port is enabled, and a group of ports starts (R307, R312, R314, R315).
-/
namespace Sys2Proof.Machine
set_option Elab.async false

/-! ## Rates -/

theorem rateHz_bounds (k : Nat) : 44100 ≤ rateHz k ∧ rateHz k ≤ 192000 := by
  unfold rateHz
  split <;> decide

theorem tpHz_bounds (c : Nat) : 44100 ≤ tpHz c ∧ tpHz c ≤ 192000 := by
  unfold tpHz
  split
  · split <;> decide
  · exact rateHz_bounds _

/-! ## Writes of TPn_CTRL -/

/-- The settings that a write of TPn_CTRL gives: a PDM port is master (R306). -/
def tpSettings (v : Nat) : Nat := if tpMode v = 2 then setBit v 3 true else v

theorem bit_tpSettings_en (v : Nat) : bit (tpSettings v) 0 = bit v 0 := by
  unfold tpSettings
  split
  · exact bit_setBit_ne true (by decide)
  · rfl

theorem tpSettings_lt {v : Nat} (h : v < 2 ^ 25) : tpSettings v < 2 ^ 32 := by
  unfold tpSettings setBit
  split_ifs <;> omega

/-- The write takes 25 bits. -/
theorem land_settings {v : Nat} (h : v < 2 ^ 25) : Nat.land v 0x1FFFFFF = v :=
  (Nat.and_two_pow_sub_one_eq_mod v 25).trans (Nat.mod_eq_of_lt h)

/-- A write that sets EN of a port that is off: settings that R307 forbids are taken without it, and others start the port. -/
theorem State.tarnCtrlWrite_en {s : State} {p v : Nat} (small : v < 2 ^ 25) (en : bit v 0 = true)
    (off : bit (s.regN (tpReg p Tp.ctrl)) 0 = false) :
    s.tarnCtrlWrite p v =
      if tpCfgBad (tpSettings v) then (s.setRegN (tpReg p Tp.ctrl) (tpSettings v - 1)).tarnCfgErr p
      else ((s.setRegN (tpReg p Tp.ctrl) (tpSettings v)).tarnRate p (s.regN (tpReg p Tp.ctrl))).tarnEnable p := by
  unfold State.tarnCtrlWrite
  rw [land_settings small]
  show (if bit (s.regN _) 0 = true then _ else if (bit (tpSettings v) 0 && tpCfgBad (tpSettings v)) = true then _ else
    if bit (tpSettings v) 0 = true then _ else _) = _
  rw [off, bit_tpSettings_en, en, if_neg Bool.false_ne_true, if_pos rfl, Bool.true_and]
  rfl

/-- A master's measurement registers read its nominal rate and no deviation. -/
theorem State.tarnRate_master {s : State} {p : Nat} (old : Nat) (h : tpMaster (s.regN (tpReg p Tp.ctrl)) = true) :
    s.tarnRate p old = (s.setRegN (tpReg p 0x24) (tpHz (s.regN (tpReg p Tp.ctrl)) * 1000)).setRegN (tpReg p 0x28) 0 := by
  simp only [State.tarnRate, h]
  rfl

/-- A master outside the start group has its start instant. -/
theorem State.tarnEnable_master {s : State} {p : Nat} (alone : bit (s.regN Reg.trnGrpctl) p = false)
    (h : tpMaster (s.regN (tpReg p Tp.ctrl)) = true) :
    s.tarnEnable p = s.setTp p { s.tp p with startAt := some (s.tarnStart (tpPeriod (s.regN (tpReg p Tp.ctrl)))) } := by
  simp only [State.tarnEnable, alone, h]
  rfl

/-- A master outside the start group is enabled. -/
theorem State.enabled_master {s : State} {p : Nat} (old : Nat) (alone : bit (s.regN Reg.trnGrpctl) p = false)
    (master : tpMaster (s.regN (tpReg p Tp.ctrl)) = true) :
    let c := s.regN (tpReg p Tp.ctrl)
    let t := (s.tarnRate p old).tarnEnable p
    t.regN (tpReg p Tp.ctrl) = c ∧ (t.tp p).startAt = some (t.tarnStart (tpPeriod c)) ∧
      t.regN (tpReg p 0x24) = tpHz c * 1000 ∧ t.regN (tpReg p 0x28) = 0 := by
  intro c t
  have hz : tpHz c * 1000 < 2 ^ 32 := by have := tpHz_bounds c; omega
  have reads (a : Nat) : (s.tarnRate p old).regN a =
      if a = tpReg p 0x28 then 0 else if a = tpReg p 0x24 then tpHz c * 1000 else s.regN a := by
    rw [State.tarnRate_master old master, State.regN_setRegN, State.regN_setRegN, Nat.mod_eq_of_lt hz, Nat.zero_mod]
  have settings : (s.tarnRate p old).regN (tpReg p Tp.ctrl) = c := by
    rw [reads, if_neg (tpReg_ne (by decide)), if_neg (tpReg_ne (by decide))]
  have group : (s.tarnRate p old).regN Reg.trnGrpctl = s.regN Reg.trnGrpctl := by
    rw [reads, if_neg (Ne.symm tpReg_not_low), if_neg (Ne.symm tpReg_not_low)]
  have ht : t = (s.tarnRate p old).setTp p _ := State.tarnEnable_master (by rwa [group]) (by rwa [settings])
  rw [ht, State.tp_setTp, settings]
  refine ⟨settings, rfl, ?_, (reads (tpReg p 0x28)).trans (if_pos rfl)⟩
  exact (reads (tpReg p 0x24)).trans ((if_neg (tpReg_ne (by decide))).trans (if_pos rfl))

/-- CFG_ERR is set and reported. -/
theorem State.tarnCfgErr_reports (s : State) (p : Nat) :
    (s.tarnCfgErr p).regN (tpReg p Tp.ctrl) = s.regN (tpReg p Tp.ctrl) ∧ (s.tarnCfgErr p).tstat p 12 = true ∧
      Raised Ev.tarnCfgErr p s (s.tarnCfgErr p) := by
  have raised : TarnKept id 12 p (s.setTstat p 12 true) (s.tarnCfgErr p) := .of_only (State.raise_only ..)
  have settings : (s.setTstat p 12 true).regN (tpReg p Tp.ctrl) = s.regN (tpReg p Tp.ctrl) :=
    s.regN_setRegN_ne _ (tpReg_ctrl_ne_stat p p)
  exact ⟨raised.ctrl.trans settings, raised.stat.trans (s.tstat_setTstat p 12 true),
    (State.raise_raised ..).before (.of_objs (l := []) rfl)⟩

/-- A write that enables a master (R312, R314). -/
theorem tarnEnWrite_starts {s : State} {dt p v : Nat} (awake : s.awake) (port : p < 8) (small : v < 2 ^ 25)
    (master : tpMaster (tpSettings v) = true) (en : bit v 0 = true) (good : tpCfgBad (tpSettings v) = false)
    (off : bit (s.regN (tpReg p Tp.ctrl)) 0 = false) (alone : bit (s.regN Reg.trnGrpctl) p = false) :
    Completes (.tarnEnWrite dt p v) s fun t =>
      t.regN (tpReg p Tp.ctrl) = tpSettings v ∧ (t.tp p).startAt = some (t.tarnStart (tpPeriod (tpSettings v))) ∧
        t.regN (tpReg p 0x24) = tpHz (tpSettings v) * 1000 ∧ t.regN (tpReg p 0x28) = 0 := by
  refine ⟨_, (actIf_next awake (decide_eq_true port) : execTarnEnWrite dt p v s = _), ?_⟩
  beta_reduce
  rw [State.tarnCtrlWrite_en (s := s.tick dt) small en off, good, if_neg Bool.false_ne_true]
  have taken : ((s.tick dt).setRegN (tpReg p Tp.ctrl) (tpSettings v)).regN (tpReg p Tp.ctrl) = tpSettings v :=
    (State.regN_setRegN_self ..).trans (Nat.mod_eq_of_lt (tpSettings_lt small))
  have group : ((s.tick dt).setRegN (tpReg p Tp.ctrl) (tpSettings v)).regN Reg.trnGrpctl = s.regN Reg.trnGrpctl :=
    State.regN_setRegN_ne _ _ (Ne.symm tpReg_not_low)
  have enabled := State.enabled_master ((s.tick dt).regN (tpReg p Tp.ctrl)) (by rwa [group]) (by rwa [taken])
  rwa [taken] at enabled

/-- A write whose settings R307 forbids. -/
theorem tarnEnWrite_refused {s : State} {dt p v : Nat} (awake : s.awake) (port : p < 8) (small : v < 2 ^ 25)
    (en : bit v 0 = true) (bad : tpCfgBad (tpSettings v) = true) (off : bit (s.regN (tpReg p Tp.ctrl)) 0 = false) :
    Completes (.tarnEnWrite dt p v) s fun t =>
      t.tctrlBit p 0 = false ∧ t.tstat p 12 = true ∧ Raised Ev.tarnCfgErr p s t := by
  refine ⟨_, (actIf_next awake (decide_eq_true port) : execTarnEnWrite dt p v s = _), ?_⟩
  beta_reduce
  rw [State.tarnCtrlWrite_en (s := s.tick dt) small en off, bad, if_pos rfl]
  obtain ⟨settings, reported, raised⟩ := ((s.tick dt).setRegN (tpReg p Tp.ctrl) (tpSettings v - 1)).tarnCfgErr_reports p
  refine ⟨?_, reported, raised.before (.of_objs (l := []) rfl)⟩
  have odd : tpSettings v % 2 = 1 := by
    have := (bit_tpSettings_en v).trans en
    rwa [bit, Nat.testBit_zero, decide_eq_true_iff] at this
  rw [State.tctrlBit, settings, State.regN_setRegN_self, bit, Nat.testBit_zero]
  exact decide_eq_false (by omega)

/-! ## Group start -/

/-- The group and the settings of the ports read the same. -/
structure GroupKept (s t : State) : Prop where
  group : t.regN Reg.trnGrpctl = s.regN Reg.trnGrpctl
  ctrl : ∀ p, t.regN (tpReg p Tp.ctrl) = s.regN (tpReg p Tp.ctrl)

theorem GroupKept.setRegN (s : State) {a : Nat} (v : Nat) (h : a ≠ Reg.trnGrpctl := by decide)
    (low : a < 0x40050100 := by decide) : GroupKept s (s.setRegN a v) :=
  ⟨s.regN_setRegN_ne v h.symm, fun _ => s.regN_setRegN_ne v (tpReg_not_low low)⟩

theorem GroupKept.seq {s t u : State} (h : GroupKept t u) (e : GroupKept s t) : GroupKept s u :=
  ⟨h.group.trans e.group, fun p => (h.ctrl p).trans (e.ctrl p)⟩

theorem GroupKept.members {s t : State} (h : GroupKept s t) : t.tarnMembers = s.tarnMembers := by
  simp only [State.tarnMembers, State.tctrlBit, h.group, h.ctrl]

theorem GroupKept.period {s t : State} (h : GroupKept s t) : t.tarnPeriod = s.tarnPeriod := by
  have settings : (fun p => t.regN (tpReg p Tp.ctrl)) = fun p => s.regN (tpReg p Tp.ctrl) := funext h.ctrl
  unfold State.tarnPeriod
  rw [h.members, settings]

/-- A write of TRN_GRPGO takes the start instant, or waits for the trigger. -/
theorem tarnGo_goes {s : State} {dt v : Nat} (awake : s.awake) (go : bit v 0 = true) (idle : bit (s.regN Reg.trnGrpgo) 0 = false) :
    Completes (.tarnGo dt v) s fun t =>
      t.regN Reg.trnGrpgo = 1 ∧
        t.tarn.t0 = if bit (s.regN Reg.trnGrpctl) 8 then s.tarn.t0 else some (t.tarnStart s.tarnPeriod) := by
  refine ⟨_, (act_next awake : execTarnGo dt v s = _), ?_⟩
  have set : ((s.tick dt).setRegN Reg.trnGrpgo 1).regN Reg.trnGrpgo = 1 := State.regN_setRegN_self ..
  have kept : GroupKept (s.tick dt) ((s.tick dt).setRegN Reg.trnGrpgo 1) := .setRegN _ _
  have next : (s.tick dt).tarnGoWrite v = if bit (s.regN Reg.trnGrpctl) 8 then (s.tick dt).setRegN Reg.trnGrpgo 1
      else ((s.tick dt).setRegN Reg.trnGrpgo 1).tarnTrigger := by
    rw [← State.regN_tick s dt Reg.trnGrpctl, ← kept.group]
    exact if_pos (by rw [go, State.regN_tick, idle]; rfl)
  beta_reduce
  rw [next]
  split
  · exact ⟨set, rfl⟩
  · exact ⟨set, congrArg (fun per => some (s.tick dt |>.tarnStart per)) kept.period⟩

/-- The trigger. -/
theorem tarnTrigEdge_triggers {s : State} {dt : Nat} (awake : s.awake) (go : bit (s.regN Reg.trnGrpgo) 0 = true)
    (armed : bit (s.regN Reg.trnGrpctl) 8 = true) (none : s.tarn.t0 = none) :
    Completes (.tarnTrigEdge dt) s fun t => t.tarn.t0 = some (t.tarnStart s.tarnPeriod) := by
  refine ⟨_, (actIf_next awake ?_ : execTarnTrigEdge dt s = _), rfl⟩
  simp [go, armed, none]

/-- The start of a member of the group. -/
def State.startMember (t0 : Nat) (s : State) (p : Nat) : State :=
  let v := s.tarnStop p
  let x := v.tp p
  let v := if tpMaster (v.regN (tpReg p Tp.ctrl)) then v.setTp p { x with startAt := some t0 }
    else v.setTp p { x with waitFs := some t0 }
  v.raise Ev.tarnStarted p

/-- The group's start instant is over and reported. -/
def State.groupStarted (s : State) (t0 : Nat) : State :=
  let u := { s with tarn := { s.tarn with t0 := none } }
  ((u.setRegN Reg.trnGrpgo 0).setRegN 0x4005000C (t0 / tcNs / 1000000000 % 2 ^ 32)).setRegN 0x40050010 (t0 / tcNs % 1000000000)

theorem tarnStarted_next {s : State} {dt a : Nat} (awake : s.awake) (at_ : s.tarn.t0 = some a) (late : a ≤ (s.tick dt).tc) :
    exec (.tarnStarted dt) s =
      .next (((s.tick dt).groupStarted a).tarnMembers.foldl (State.startMember a) ((s.tick dt).groupStarted a)) := by
  refine (actIf_next awake ?_ : execTarnStarted dt s = _).trans ?_
  · rw [State.tick_tarn, at_]
    exact decide_eq_true late
  · simp only [State.tick_tarn, at_]
    rfl

theorem State.groupStarted_kept (s : State) (t0 : Nat) : GroupKept s (s.groupStarted t0) :=
  (GroupKept.setRegN _ _).seq ((GroupKept.setRegN _ _).seq ((GroupKept.setRegN _ _).seq ⟨rfl, fun _ => rfl⟩))

theorem State.tarnStop_ownPort (s : State) (p : Nat) : OwnPort p s (s.tarnStop p) :=
  (State.refreshSrc_ownPort ..).seq ((OwnPort.setStat _).seq ((OwnPort.setStat _).seq (.setTp _)))

theorem State.startMember_ownPort (s : State) (t0 p : Nat) : OwnPort p s (s.startMember t0 p) := by
  unfold State.startMember
  extract_lets v x w
  have started : OwnPort p s w :=
    .ite ((OwnPort.setTp _).seq (s.tarnStop_ownPort p)) ((OwnPort.setTp _).seq (s.tarnStop_ownPort p))
  exact (OwnPort.raise ..).seq started

theorem State.startMember_ctrl (s : State) (t0 p q : Nat) :
    (s.startMember t0 p).regN (tpReg q Tp.ctrl) = s.regN (tpReg q Tp.ctrl) :=
  (s.startMember_ownPort t0 p).regs _ (by unfold tpReg; omega) (tpReg_ctrl_ne_stat q p)

/-- A master of the group has the group's start instant. -/
theorem State.startMember_startAt {s : State} {p : Nat} (t0 : Nat) (master : tpMaster (s.regN (tpReg p Tp.ctrl)) = true) :
    ((s.startMember t0 p).tp p).startAt = some t0 := by
  have settings : (s.tarnStop p).regN (tpReg p Tp.ctrl) = s.regN (tpReg p Tp.ctrl) :=
    (s.tarnStop_ownPort p).tpReg Tp.ctrl
  unfold State.startMember
  extract_lets v x w
  have started : w = v.setTp p { x with startAt := some t0 } := if_pos (by rwa [settings])
  rw [(State.raise_only ..).tp p, started, State.tp_setTp]

/-- The starts of the members leave the report of the group's start. -/
theorem State.startMembers_report (l : List Nat) (t0 : Nat) (s : State) :
    (l.foldl (State.startMember t0) s).tarn.t0 = s.tarn.t0 ∧
      ∀ a, 0x40050000 ≤ a → a < 0x40050100 → (l.foldl (State.startMember t0) s).regN a = s.regN a :=
  List.foldlRecOn l _
    (motive := fun t : State => t.tarn.t0 = s.tarn.t0 ∧ ∀ a, 0x40050000 ≤ a → a < 0x40050100 → t.regN a = s.regN a)
    ⟨rfl, fun _ _ _ => rfl⟩ fun t ⟨left, regs⟩ p _ =>
      have started := t.startMember_ownPort t0 p
      ⟨started.t0.trans left, fun a low high => (started.regs a low (by unfold tpReg; omega)).trans (regs a low high)⟩

/-- Each master among the members has the group's start instant. -/
theorem State.startMembers_startAt {l : List Nat} {p : Nat} {s : State} (t0 : Nat) (mem : p ∈ l) (once : l.Nodup)
    (master : tpMaster (s.regN (tpReg p Tp.ctrl)) = true) : ((l.foldl (State.startMember t0) s).tp p).startAt = some t0 := by
  refine foldl_at (P := fun t : State => tpMaster (t.regN (tpReg p Tp.ctrl)) = true)
    (Q := fun t : State => (t.tp p).startAt = some t0) mem once (fun t h q _ _ => ?_)
    (fun t h => State.startMember_startAt t0 h) (fun t h q _ apart => ?_) master
  · rwa [t.startMember_ctrl t0 q p]
  · rwa [(t.startMember_ownPort t0 q).ports p apart.symm]

/-- The start instant of a group has come. -/
theorem tarnStarted_starts {s : State} {dt a : Nat} (awake : s.awake) (at_ : s.tarn.t0 = some a) (late : a ≤ (s.tick dt).tc) :
    Completes (.tarnStarted dt) s fun t =>
      t.tarn.t0 = none ∧ t.regN Reg.trnGrpgo = 0 ∧ t.regN 0x4005000C = a / tcNs / 1000000000 % 2 ^ 32 ∧
        t.regN 0x40050010 = a / tcNs % 1000000000 ∧
        ∀ p ∈ s.tarnMembers, tpMaster (s.regN (tpReg p Tp.ctrl)) = true → (t.tp p).startAt = some a := by
  have kept := (s.tick dt).groupStarted_kept a
  obtain ⟨left, regs⟩ := State.startMembers_report s.tarnMembers a ((s.tick dt).groupStarted a)
  refine ⟨_, tarnStarted_next awake at_ late, ?_⟩
  rw [kept.members]
  refine ⟨left, (regs _ (by decide) (by decide)).trans ?_, (regs _ (by decide) (by decide)).trans ?_,
    (regs _ (by decide) (by decide)).trans ?_, fun p mem master => ?_⟩
  · simp [State.groupStarted, State.regN_setRegN]
  · simp [State.groupStarted, State.regN_setRegN]
  · simp only [State.groupStarted, State.regN_setRegN_self]
    omega
  · exact State.startMembers_startAt a mem (List.nodup_range.filter _) (by rwa [kept.ctrl])

end Sys2Proof.Machine
end

section
/-!
SUPPORT. The transmit side of a Tarn frame, and a frame from its start to its end (R304, R314, R316, R320).
-/
namespace Sys2Proof.Machine
set_option Elab.async false

/-! ## The transmit side -/

section
variable (s : State) (p : Nat)

/-- A frame for which the FIFO lacks a sample takes nothing. -/
theorem State.tarnUnderrun_tarnKept {α : Type} {g : TarnPort → α} {k : Nat} (h : k ≠ 8 := by decide)
    (h32 : k < 32 := by decide) : TarnKept g k p s (s.tarnUnderrun p) :=
  .still (State.raiseLimited_only ..) ((TarnKept.setTstat 8 true h h32).seq (.bumpReg 0x34))

/-- UNDERRUN is set. -/
theorem State.tarnUnderrun_sets : (s.tarnUnderrun p).tstat p 8 = true :=
  (TarnKept.of_only (g := id) (State.raiseLimited_only ..)).stat.trans (State.tstat_setTstat _ p 8 true)

theorem takeTx_keeps {pack : Bool} {n : Nat} {x y : TarnPort} {l : List Int} (h : takeTx pack n x = some (l, y)) :
    (y.timing, y.rxFifo) = (x.timing, x.rxFifo) := by
  simp only [takeTx] at h
  split_ifs at h <;> cases h <;> rfl

/-- The words of a frame come from the FIFO, or from Cornice. -/
theorem State.tarnSource_tarnKept (a : Nat) (slots : List Nat) :
    TarnKept (fun x => (x.timing, x.rxFifo)) 0 p s (s.tarnSource p a slots).2 := by
  unfold State.tarnSource
  split
  · split
    · next l x taken => exact .setTp (takeTx_keeps taken)
    · exact s.tarnUnderrun_tarnKept p
  · split
    · exact s.tarnUnderrun_tarnKept p
    · exact .of_only (State.tarnRun_only ..)

/-- The transmit side leaves the receive FIFO and the port's place in its frames. -/
theorem State.tarnSend_tarnKept (a : Nat) : TarnKept (fun x => (x.timing, x.rxFifo)) 0 p s (s.tarnSend p a) := by
  unfold State.tarnSend
  extract_lets c slots r
  have sourced : TarnKept (fun x => (x.timing, x.rxFifo)) 0 p s r.2 := s.tarnSource_tarnKept p a slots
  exact .ite (.refl s) (.ite (.still (State.tarnWords_only ..) sourced) sourced)

end

/-! ## A frame in its parts -/

/-- A frame begins: it is counted, and frame 0 makes the port run (R314, R316). -/
def State.frameBegun (s : State) (p a : Nat) : State :=
  let x := s.tp p
  let y := x.counted (s.regN (tpReg p Tp.ctrl)) a (s.tarnOwn p)
  let t := s.setTp p y
  let t := if y.countPinned && !x.countPinned then t.raise Ev.regCounterPinned (tpReg p Tp.fcntLo) else t
  if x.startAt.isSome then (t.realign p).setTstat p 0 true else t

/-- Its masks take effect, and its clocks leave (R304, R317). -/
def State.frameOpened (s : State) (p a : Nat) : State :=
  (((s.frameBegun p a).applyMask p false a).applyMask p true a).tarnClocks p a

/-- Its words are received and sent (R318 to R322). -/
def State.frameServed (s : State) (p a : Nat) (rx : List Int) (clip : Bool) : State :=
  (((s.tarnReceive p a rx clip).tarnSend p a).refreshSrc p).refreshFifo p

/-- A frame of a port is due. -/
structure FrameDue (s : State) (dt p a : Nat) : Prop where
  awake : s.awake
  port : p < 8
  place : s.tarnFrameAt p = some a
  late : a ≤ (s.tick dt).tc

theorem FrameDue.next {s : State} {dt p a : Nat} (h : FrameDue s dt p a) (rx : List Int) (clip : Bool) :
    exec (.tarnFrameStart dt p rx clip) s = .next (((s.tick dt).frameOpened p a).frameServed p a rx clip) := by
  refine (actIf_next h.awake ?_ : execTarnFrameStart dt p rx clip s = _).trans ?_
  · simp [h.port, h.place, h.late]
  · simp only [State.tarnFrameAt_tick, h.place, Option.getD_some]
    rfl

/-- A frame starts at an enabled port, which runs or whose start has come. -/
theorem State.tarnFrameAt_some {s : State} {p a : Nat} (h : s.tarnFrameAt p = some a) :
    s.tctrlBit p 0 = true ∧ ((s.tp p).startAt.isSome || s.tstat p 0) = true := by
  unfold State.tarnFrameAt at h
  extract_lets x per at h
  cases en : s.tctrlBit p 0 with
  | false => simp [en] at h
  | true =>
    refine ⟨rfl, Bool.not_eq_false _ ▸ fun stands => ?_⟩
    obtain ⟨start, run⟩ := Bool.or_eq_false_iff.1 stands
    have start : (s.tp p).startAt = none := Option.isNone_iff_eq_none.1 (Option.isSome_eq_false_iff.1 start)
    simp [en, x, start, run] at h

/-- Without a frame due nothing happens. -/
theorem tarnFrameStart_idle {s : State} {dt p : Nat} (rx : List Int) (clip : Bool) (awake : s.awake)
    (early : ∀ a, s.tarnFrameAt p = some a → (s.tick dt).tc < a) :
    exec (.tarnFrameStart dt p rx clip) s = .next (s.tick dt) := by
  refine (act_next awake : execTarnFrameStart dt p rx clip s = _).trans (congrArg _ (if_neg ?_))
  beta_reduce
  rw [State.tarnFrameAt_tick]
  cases place : s.tarnFrameAt p with
  | none => simp
  | some a => simpa using fun _ => early a place

/-! ## Its place in the frames of the port -/

section
variable (s : State) (p a : Nat)

/-- A frame that begins is counted and leaves the settings, and frame 0 makes the port run. -/
theorem State.frameBegun_counted :
    ((s.frameBegun p a).tp p).timing = ((s.tp p).counted (s.regN (tpReg p Tp.ctrl)) a (s.tarnOwn p)).timing ∧
      (s.frameBegun p a).regN (tpReg p Tp.ctrl) = s.regN (tpReg p Tp.ctrl) ∧
      (s.frameBegun p a).tstat p 0 = ((s.tp p).startAt.isSome || s.tstat p 0) := by
  unfold State.frameBegun
  extract_lets x y t1 t2
  have counted : TarnKept TarnPort.timing 0 p t1 t2 := .ite (.of_only (State.raise_only ..)) (.refl _)
  have port : (t2.tp p).timing = y.timing := counted.port.trans (congrArg TarnPort.timing (State.tp_setTp ..))
  split
  · next first =>
    have aligned : TarnKept TarnPort.timing 1 p t2 ((t2.realign p).setTstat p 0 true) :=
      (TarnKept.setTstat 0 true).seq (t2.realign_timing p)
    rw [first]
    exact ⟨aligned.port.trans port, aligned.ctrl.trans counted.ctrl, State.tstat_setTstat ..⟩
  · next later =>
    rw [Bool.eq_false_iff.2 later]
    exact ⟨port, counted.ctrl, counted.stat⟩

theorem State.frameOpened_timing : TarnKept TarnPort.timing 0 p (s.frameBegun p a) (s.frameOpened p a) :=
  .still (State.tarnClocks_only ..) ((State.applyMask_timing ..).seq (State.applyMask_timing ..))

theorem State.frameServed_timing (rx : List Int) (clip : Bool) :
    TarnKept TarnPort.timing 0 p s (s.frameServed p a rx clip) :=
  (State.refreshFifo_tarnKept ..).seq ((State.refreshSrc_tarnKept ..).seq
    (((State.tarnSend_tarnKept ..).comp Prod.fst).seq ((s.tarnReceive_sending p a rx clip).comp Prod.fst)))

end

/-- What a frame leaves of its port's settings and place: it runs, and the frame is counted. -/
theorem FrameDue.counted {s : State} {dt p a : Nat} (h : FrameDue s dt p a) (rx : List Int) (clip : Bool) :
    let t := ((s.tick dt).frameOpened p a).frameServed p a rx clip
    (t.tp p).timing = ((s.tp p).counted (s.regN (tpReg p Tp.ctrl)) a (s.tarnOwn p)).timing ∧
      t.regN (tpReg p Tp.ctrl) = s.regN (tpReg p Tp.ctrl) ∧ t.tstat p 0 = true := by
  obtain ⟨port, ctrl, stat⟩ := (s.tick dt).frameBegun_counted p a
  have rest := (((s.tick dt).frameOpened p a).frameServed_timing p a rx clip).seq ((s.tick dt).frameOpened_timing p a)
  exact ⟨rest.port.trans port, rest.ctrl.trans ctrl, rest.stat.trans (stat.trans (State.tarnFrameAt_some h.place).2)⟩

/-- Frame 0 (R314, R316). -/
theorem FrameDue.first {s : State} {dt p a : Nat} (h : FrameDue s dt p a) (rx : List Int) (clip : Bool)
    (start : (s.tp p).startAt.isSome = true) :
    Completes (.tarnFrameStart dt p rx clip) s fun t =>
      (t.tp p).startAt = none ∧ (t.tp p).count = 0 ∧ t.tstat p 0 = true := by
  obtain ⟨timing, -, runs⟩ := h.counted rx clip
  simp only [TarnPort.timing, TarnPort.counted, start, if_true, Prod.mk.injEq] at timing
  obtain ⟨started, count, -⟩ := timing
  exact ⟨_, h.next rx clip, started, count, runs⟩

/-- Later frames count (R324). -/
theorem FrameDue.counts {s : State} {dt p a : Nat} (h : FrameDue s dt p a) (rx : List Int) (clip : Bool)
    (later : (s.tp p).startAt = none) (room : (s.tp p).count < 2 ^ 48 - 1) :
    Completes (.tarnFrameStart dt p rx clip) s fun t => (t.tp p).count = (s.tp p).count + 1 := by
  obtain ⟨timing, -, -⟩ := h.counted rx clip
  have count := congrArg (·.2.1) timing
  refine ⟨_, h.next rx clip, count.trans ?_⟩
  have short : ¬(s.tp p).count = 2 ^ 48 - 1 := room.ne
  simpa [TarnPort.timing, TarnPort.counted, later] using short

/-! ## The next frame of a master (R307, R316) -/

/-- The first multiple of a period at or after a time, from what the time lies between. -/
theorem gridNext_eq {hz k t : Nat} (above : tcSec * k < t * hz) (below : t * hz ≤ tcSec * (k + 1)) :
    gridNext ⟨1, hz⟩ t = k + 1 := by
  have pos : t ≠ 0 := by rintro rfl; omega
  rw [gridNext, if_neg pos, gridIndex, if_neg Nat.one_ne_zero, Nat.sub_add_cancel (Nat.pos_of_ne_zero pos), Nat.mul_one]
  show (t * hz - 1) / tcSec + 1 = k + 1
  rw [Nat.div_eq_of_lt_le (k := k) (by rw [Nat.mul_comm]; omega) (by rw [Nat.mul_comm (k + 1)]; omega)]

/-- Half a period before a multiple of it the next multiple is that one. -/
theorem gridNext_half (hz k : Nat) (pos : 0 < hz) (fast : 2 * hz ≤ tcSec) :
    gridNext ⟨1, hz⟩ (gridPoint ⟨1, hz⟩ k - tcSec / hz / 2) = k := by
  cases k with
  | zero => simp [gridNext, gridPoint]
  | succ k =>
    have half : 2 * (tcSec / hz / 2 * hz) ≤ tcSec := calc
      2 * (tcSec / hz / 2 * hz) = tcSec / hz / 2 * 2 * hz := by ring
      _ ≤ tcSec / hz * hz := Nat.mul_le_mul_right _ (Nat.div_mul_le_self ..)
      _ ≤ tcSec := Nat.div_mul_le_self ..
    have whole := Nat.div_add_mod (tcSec * (k + 1)) hz
    have rest := Nat.mod_lt (tcSec * (k + 1)) pos
    have place : (gridPoint ⟨1, hz⟩ (k + 1) - tcSec / hz / 2) * hz =
        hz * (tcSec * (k + 1) / hz) - tcSec / hz / 2 * hz := by
      rw [gridPoint, Nat.mul_one, Nat.sub_mul, Nat.mul_comm hz]
    rw [Nat.mul_succ] at whole rest place
    refine gridNext_eq ?_ ?_
    · omega
    · rw [Nat.mul_succ]; omega

/-- Where the next frame of a master starts that runs on. -/
theorem State.tarnFrameAt_running {s : State} {p : Nat} (en : s.tctrlBit p 0 = true) (own : s.tarnOwn p = true)
    (runs : s.tstat p 0 = true) (start : (s.tp p).startAt = none) (steady : (s.tp p).stepAt = none) :
    s.tarnFrameAt p = some (gridPoint (tpPeriod (s.regN (tpReg p Tp.ctrl))) (s.tp p).grid) := by
  unfold State.tarnFrameAt
  simp [en, own, runs, start, steady]

/-- The next frame of a master is a period later. -/
theorem FrameDue.goesOn {s : State} {dt p k : Nat} (rx : List Int) (clip : Bool) (own : s.tarnOwn p = true)
    (h : FrameDue s dt p (gridPoint (tpPeriod (s.regN (tpReg p Tp.ctrl))) k)) :
    Completes (.tarnFrameStart dt p rx clip) s fun t =>
      t.tarnFrameAt p = some (gridPoint (tpPeriod (s.regN (tpReg p Tp.ctrl))) (k + 1)) := by
  obtain ⟨timing, ctrl, runs⟩ := h.counted rx clip
  have next := h.next rx clip
  have role := ((execTarnFrameStart_only dt p rx clip s).only _ next).n Obj.twinRole 0
  refine ⟨_, next, ?_⟩
  generalize State.frameServed _ _ _ _ _ = t at timing ctrl runs role ⊢
  simp only [TarnPort.timing, TarnPort.counted, Prod.mk.injEq] at timing
  obtain ⟨started, -, grid, steady⟩ := timing
  have en : t.tctrlBit p 0 = true := by
    rw [State.tctrlBit, ctrl]
    exact (State.tarnFrameAt_some h.place).1
  have own' : t.tarnOwn p = true := by
    rw [← own, State.tarnOwn, ctrl, State.standby, role]
    rfl
  have bounds := tpHz_bounds (s.regN (tpReg p Tp.ctrl))
  have place : (t.tp p).grid = k + 1 :=
    grid.trans (congrArg (· + 1) (gridNext_half _ k (by omega) (by unfold tcSec tcNs; omega)))
  rw [State.tarnFrameAt_running en own' runs started steady, ctrl, place]

end Sys2Proof.Machine
end

section
/-!
PROOFS. Tarn frames: the words received, the words that lack, and the statement (R314 to R320).
-/
namespace Sys2Proof.Machine
set_option Elab.async false

/-! ## The words received (R318, R319) -/

section
variable {s : State} {p : Nat}

/-- Without bytes of a receive word, realigning leaves the receive side. -/
theorem State.realign_taking {k : Nat} (h : (s.tp p).rxBytes = []) : TarnKept TarnPort.taking k p s (s.realign p) := by
  rw [State.realign_empty h]
  exact .setTp rfl

theorem State.applyMask_taking {k : Nat} (start : Nat) (h : (s.tp p).rxBytes = []) :
    TarnKept TarnPort.taking k p s (s.applyMask p true start) := by
  cases pend : (s.tp p).txPend with
  | none => rw [State.applyMask_none (tx := true) start pend]; exact .refl s
  | some w =>
    rw [State.applyMask_some (tx := true) start pend]
    have masked : TarnKept TarnPort.taking k p s (s.maskTaken p true w.1) := s.maskTaken_tarnKept p true _ rfl
    have empty : ((s.maskTaken p true w.1).tp p).rxBytes = [] := (congrArg (·.2.2.2) masked.port).trans h
    exact .ite (.setTp rfl) (.still (State.raise_only ..) ((State.realign_taking empty).seq masked))

theorem State.frameBegun_taking (a : Nat) (h : (s.tp p).rxBytes = []) : TarnKept TarnPort.taking 1 p s (s.frameBegun p a) := by
  unfold State.frameBegun
  extract_lets x y t1 t2
  have counted : TarnKept TarnPort.taking 1 p s t2 :=
    .ite (.still (State.raise_only ..) (.setTp rfl)) (.setTp rfl)
  have empty : (t2.tp p).rxBytes = [] := (congrArg (·.2.2.2) counted.port).trans h
  exact .ite ((TarnKept.setTstat 0 true).seq ((State.realign_taking empty).seq counted)) counted

/-- A frame that opens leaves a receive side without bytes of a word, and without a mask that waits. -/
theorem State.frameOpened_taking (a : Nat) (h : (s.tp p).rxBytes = []) (pend : (s.tp p).rxPend = none) :
    TarnKept TarnPort.taking 1 p s (s.frameOpened p a) := by
  have begun := s.frameBegun_taking a h
  have idle : ((s.frameBegun p a).tp p).rxPend = none := (congrArg (·.1) begun.port).trans pend
  have empty : ((s.frameBegun p a).tp p).rxBytes = [] := (congrArg (·.2.2.2) begun.port).trans h
  rw [State.frameOpened, State.applyMask_none (tx := false) a idle]
  exact .still (State.tarnClocks_only ..) ((State.applyMask_taking a empty).seq begun)

/-- Words that the FIFO has room for are appended as they are. -/
theorem State.tarnCollect_fits {samples : List Int} (plain : bit (s.regN (tpReg p Tp.ctrl)) 22 = false)
    (room : (s.tp p).rxFifo.length + samples.length ≤ 128) :
    ((s.tarnCollect p samples).tp p).rxFifo = (s.tp p).rxFifo ++ samples.map fun v => ofSigned 32 v := by
  unfold State.tarnCollect
  extract_lets c x bytes words
  have whole : words = samples.map fun v => ofSigned 32 v := if_neg (by simp [c, plain])
  rw [if_neg (by simpa [whole] using room), State.tp_setTp, whole]

/-- The samples of a port that is no PDM port are the words of its slots. -/
theorem State.tarnSamples_eq (rx : List Int) (slots : tpMode (s.regN (tpReg p Tp.ctrl)) ≠ 2) :
    s.tarnSamples p rx = (enabledSlots (s.regN (tpReg p Tp.ctrl)) (s.tp p).rxMask).map fun k =>
      slotReceive (tpSlotWidth (s.regN (tpReg p Tp.ctrl))) (sat24 (rx.getD k 0)) := by
  simp only [State.tarnSamples, TarnPort.hear_slots rx slots]
  refine List.map_congr_left fun k enabled => ?_
  obtain ⟨slot, on⟩ := List.mem_filter.1 enabled
  have slot := List.mem_range.1 slot
  simp [List.getD_eq_getElem?_getD, slot, on]

end

/-- A frame's words reach the FIFO. -/
theorem FrameDue.receives {s : State} {dt p a c : Nat} (h : FrameDue s dt p a) (rx : List Int) (clip : Bool)
    (settings : c = s.regN (tpReg p Tp.ctrl)) (slots : tpMode c ≠ 2) (plain : bit c 22 = false)
    (pend : (s.tp p).rxPend = none) (empty : (s.tp p).rxBytes = [])
    (room : (s.tp p).rxFifo.length + (enabledSlots c (s.tp p).rxMask).length ≤ 128) :
    Completes (.tarnFrameStart dt p rx clip) s fun t =>
      (t.tp p).rxFifo = (s.tp p).rxFifo ++ (enabledSlots c (s.tp p).rxMask).map fun k =>
        ofSigned 32 (slotReceive (tpSlotWidth c) (sat24 (rx.getD k 0))) := by
  refine ⟨_, h.next rx clip, ?_⟩
  have opened : TarnKept TarnPort.taking 1 p s ((s.tick dt).frameOpened p a) :=
    (State.frameOpened_taking (s := s.tick dt) a empty pend).seq (.tick dt)
  generalize (s.tick dt).frameOpened p a = u at opened ⊢
  have heard := (u.tarnHeard_tarnKept (k := 1) (g := TarnPort.taking) p rx clip fun _ _ _ _ => rfl).seq opened
  have fifo : ((u.tarnHeard p rx clip).tp p).rxFifo = (s.tp p).rxFifo := congrArg (·.2.2.1) heard.port
  have samples : u.tarnSamples p rx = (enabledSlots c (s.tp p).rxMask).map fun k =>
      slotReceive (tpSlotWidth c) (sat24 (rx.getD k 0)) := by
    rw [State.tarnSamples_eq rx (by rwa [opened.ctrl, ← settings]), opened.ctrl, ← settings,
      show (u.tp p).rxMask = (s.tp p).rxMask from congrArg (·.2.1) opened.port]
  have collected := State.tarnCollect_fits (s := u.tarnHeard p rx clip) (p := p) (samples := u.tarnSamples p rx)
    (by rwa [heard.ctrl, ← settings]) (by rwa [fifo, samples, List.length_map])
  have received : (((u.tarnReceive p a rx clip).tp p).rxFifo) = _ :=
    (u.tarnReceive_converts (k := 1) p a rx clip fun _ _ _ _ => rfl).port.trans collected
  have served : ((u.frameServed p a rx clip).tp p).rxFifo = ((u.tarnReceive p a rx clip).tp p).rxFifo :=
    ((State.refreshFifo_tarnKept ..).seq ((State.refreshSrc_tarnKept ..).seq
      ((State.tarnSend_tarnKept _ p a).comp Prod.snd))).port
  beta_reduce
  rw [served, received, fifo, samples, List.map_map]
  rfl

/-! ## The words that lack (R318, R320) -/

/-- A FIFO lacks a frame where its words, or with packing its bytes, are too few. -/
theorem takeTx_eq_none (pack : Bool) (n : Nat) (x : TarnPort) :
    takeTx pack n x = none ↔
      if pack then (x.txBytes ++ x.txFifo.flatMap (leBytes 4)).length < 3 * n else x.txFifo.length < n := by
  simp only [takeTx]
  split_ifs <;> simp_all

/-- The fewer bytes wait, the more so. -/
theorem takeTx_none_of_le {pack : Bool} {n : Nat} {x y : TarnPort} (fifo : y.txFifo = x.txFifo)
    (bytes : y.txBytes.length ≤ x.txBytes.length) (h : takeTx pack n x = none) : takeTx pack n y = none := by
  rw [takeTx_eq_none] at h ⊢
  rw [List.length_append, fifo] at *
  cases pack
  · exact h
  · exact Nat.lt_of_le_of_lt (Nat.add_le_add_right bytes _) h

/-- The transmit FIFO of a port lacks a frame, and no mask waits. -/
structure TxShort (c m : Nat) (f : List Nat) (p : Nat) (s : State) : Prop where
  ctrl : s.regN (tpReg p Tp.ctrl) = c
  pend : (s.tp p).txPend = none
  mask : (s.tp p).txMask = m
  fifo : (s.tp p).txFifo = f
  lacks : takeTx (bit c 22) (enabledSlots c m).length (s.tp p) = none

section
variable {c m p : Nat} {f : List Nat} {s t : State}

theorem TxShort.of_kept {k : Nat} (h : TxShort c m f p s) (e : TarnKept TarnPort.sending k p s t) : TxShort c m f p t := by
  obtain ⟨port, ctrl, -⟩ := e
  simp only [TarnPort.sending, Prod.mk.injEq] at port
  obtain ⟨pend, mask, fifo, bytes⟩ := port
  exact ⟨ctrl.trans h.ctrl, pend.trans h.pend, mask.trans h.mask, fifo.trans h.fifo,
    takeTx_none_of_le fifo (by rw [bytes]) h.lacks⟩

/-- A port whose transmit bytes go. -/
theorem TxShort.setTp {x : TarnPort} (h : TxShort c m f p s)
    (side : x.sending = ((s.tp p).txPend, (s.tp p).txMask, (s.tp p).txFifo, [])) : TxShort c m f p (s.setTp p x) := by
  simp only [TarnPort.sending, Prod.mk.injEq] at side
  obtain ⟨pend, mask, fifo, bytes⟩ := side
  have port : (s.setTp p x).tp p = x := s.tp_setTp p x
  exact ⟨h.ctrl, by rw [port, pend, h.pend], by rw [port, mask, h.mask], by rw [port, fifo, h.fifo],
    takeTx_none_of_le (by rw [port, fifo]) (by rw [port, bytes]; exact Nat.zero_le _) h.lacks⟩

theorem TxShort.realign (h : TxShort c m f p s) : TxShort c m f p (s.realign p) := by
  have drawn : TarnKept TarnPort.sending 0 p s (s.drawBytes (4 - (s.tp p).rxBytes.length)).2 :=
    .of_only (State.drawBytes_only ..)
  unfold State.realign
  extract_lets x
  split
  · exact h.setTp rfl
  · refine (h.of_kept drawn).setTp ?_
    rfl

theorem TxShort.applyMask (h : TxShort c m f p s) (start : Nat) : TxShort c m f p (s.applyMask p false start) := by
  cases pend : (s.tp p).rxPend with
  | none => rwa [State.applyMask_none (tx := false) start pend]
  | some w =>
    rw [State.applyMask_some (tx := false) start pend]
    split
    · exact h.of_kept (k := 0) (.setTp rfl)
    · have masked : TarnKept TarnPort.sending 0 p s (s.maskTaken p false w.1) := s.maskTaken_tarnKept p false _ rfl
      exact (h.of_kept masked).realign.of_kept (k := 0) (.of_only (State.raise_only ..))

theorem TxShort.frameBegun (h : TxShort c m f p s) (a : Nat) : TxShort c m f p (s.frameBegun p a) := by
  unfold State.frameBegun
  extract_lets x y t1 t2
  have counted : TxShort c m f p t2 :=
    h.of_kept (k := 1) (.ite (.still (State.raise_only ..) (.setTp rfl)) (.setTp rfl))
  split
  · exact counted.realign.of_kept (k := 1) (.setTstat 0 true)
  · exact counted

theorem TxShort.frameOpened (h : TxShort c m f p s) (a : Nat) : TxShort c m f p (s.frameOpened p a) := by
  have masked := (h.frameBegun a).applyMask a
  rw [State.frameOpened, State.applyMask_none (tx := true) a masked.pend]
  exact masked.of_kept (k := 0) (.of_only (State.tarnClocks_only ..))

/-- A frame whose words lack sets UNDERRUN, and the words stay. -/
theorem TxShort.underruns (h : TxShort c m f p s) (a : Nat) (slots : tpMode c ≠ 2) (fed : bit c 21 = true) :
    (s.tarnSend p a).tstat p 8 = true ∧ ((s.tarnSend p a).tp p).txFifo = f := by
  have source : (s.tarnSource p a (enabledSlots c m)).2 = s.tarnUnderrun p := by
    rw [State.tarnSource, State.tctrlBit, State.tctrlBit, h.ctrl, fed, if_pos rfl, h.lacks]
  have sent : TarnKept TarnPort.txFifo 8 p (s.tarnUnderrun p) (s.tarnSend p a) := by
    unfold State.tarnSend
    extract_lets settings listed r
    have hl : listed = enabledSlots c m := by rw [← h.ctrl, ← h.mask]
    have lacked : TarnKept TarnPort.txFifo 8 p (s.tarnUnderrun p) r.2 := by
      rw [show r.2 = s.tarnUnderrun p by rw [← source, ← hl]]
      exact .refl _
    rw [if_neg (show ¬tpMode settings = 2 by rwa [show settings = c from h.ctrl])]
    exact .ite (.still (State.tarnWords_only ..) lacked) lacked
  exact ⟨sent.stat.trans (s.tarnUnderrun_sets p), sent.port.trans ((s.tarnUnderrun_tarnKept (k := 0) p).port.trans h.fifo)⟩

end

/-- A frame that the transmit FIFO lacks (R320). -/
theorem FrameDue.underruns {s : State} {dt p a c : Nat} (h : FrameDue s dt p a) (rx : List Int) (clip : Bool)
    (settings : c = s.regN (tpReg p Tp.ctrl)) (slots : tpMode c ≠ 2) (fed : bit c 21 = true) (pend : (s.tp p).txPend = none)
    (lacks : takeTx (bit c 22) (enabledSlots c (s.tp p).txMask).length (s.tp p) = none) :
    Completes (.tarnFrameStart dt p rx clip) s fun t => t.tstat p 8 = true ∧ (t.tp p).txFifo = (s.tp p).txFifo := by
  refine ⟨_, h.next rx clip, ?_⟩
  have due : TxShort c (s.tp p).txMask (s.tp p).txFifo p (s.tick dt) := ⟨settings.symm, pend, rfl, rfl, lacks⟩
  have heard := (due.frameOpened a).of_kept ((State.tarnReceive_sending _ p a rx clip).comp Prod.snd)
  obtain ⟨sets, keeps⟩ := heard.underruns a slots fed
  have rest : TarnKept TarnPort.txFifo 8 p _ (((s.tick dt).frameOpened p a).frameServed p a rx clip) :=
    (State.refreshFifo_tarnKept ..).seq (State.refreshSrc_tarnKept ..)
  exact ⟨rest.stat.trans sets, rest.port.trans keeps⟩

/-! ## The statement -/

/-- Settles O35: a write or a start reads back what it has set, since what follows it writes other ports and registers; what a
frame counts, receives or lacks stays through its other parts. -/
theorem tarnStarts : Obligations.TarnStarts := by
  unfold Obligations.TarnStarts
  refine ⟨?_, ?_, ?_, ?_, ?_, ?_, ?_, ?_, ?_, ?_, ?_⟩
  · rintro s dt p v c awake port small rfl master en good off alone
    exact tarnEnWrite_starts awake port small master en good off alone
  · rintro s dt p v c awake port small rfl en bad off
    exact tarnEnWrite_refused awake port small en bad off
  · exact fun s dt v awake go idle => tarnGo_goes awake go idle
  · exact fun s dt awake go armed none => tarnTrigEdge_triggers awake go armed none
  · exact fun s dt a awake at_ late => tarnStarted_starts awake at_ late
  · exact fun s dt p rx clip a awake port place late start => FrameDue.first ⟨awake, port, place, late⟩ rx clip start
  · exact fun s dt p rx clip a awake port place late later room =>
      FrameDue.counts ⟨awake, port, place, late⟩ rx clip later room
  · exact fun s dt p rx clip awake early => ⟨_, tarnFrameStart_idle rx clip awake early, rfl⟩
  · rintro s dt p rx clip per k awake port own rfl place late
    exact FrameDue.goesOn rx clip own ⟨awake, port, place, late⟩
  · exact fun s dt p rx clip c a awake port settings place late slots plain pend empty room =>
      FrameDue.receives ⟨awake, port, place, late⟩ rx clip settings slots plain pend empty room
  · exact fun s dt p rx clip c a awake port settings place late slots fed pend lacks =>
      FrameDue.underruns ⟨awake, port, place, late⟩ rx clip settings slots fed pend lacks

end Sys2Proof.Machine
end

section
/-!
PROOFS. Tarn ports: masks, frame sync of slaves, measured rates, FIFO accesses and the frame counter (R312, R313, R317, R321, R324).
-/
namespace Sys2Proof.Machine
set_option Elab.async false

/-! ## Masks (R317) -/

/-- A mask that is written waits. -/
theorem tarnMaskWrite_waits {s : State} {dt p v : Nat} {tx late : Bool} (awake : s.awake) (port : p < 8) :
    Completes (.tarnMaskWrite dt p tx v late) s fun t =>
      t.regN (tpReg p (if tx then Tp.txMask else Tp.rxMask)) = v % 2 ^ 32 ∧
        bit (t.regN (tpReg p Tp.maskStat)) (b2n tx) = true ∧
        (if tx then (t.tp p).txPend else (t.tp p).rxPend) = some (v % 2 ^ 32, t.tc, late) := by
  refine ⟨_, (actIf_next awake (decide_eq_true port) : execTarnMaskWrite dt p tx v late s = _), ?_⟩
  have apart : tpReg p (if tx then Tp.txMask else Tp.rxMask) ≠ tpReg p Tp.maskStat := tpReg_ne (by cases tx <;> decide)
  have flag : b2n tx < 32 := by cases tx <;> decide
  dsimp only [State.tarnMaskWrite]
  rw [State.regN_setTp, State.regN_setTp, State.tp_setTp]
  refine ⟨?_, ?_, ?_⟩
  · rw [State.setRegBit, State.regN_setRegN_ne _ _ apart, State.regN_setRegN_self, Nat.mod_mod]
  · rw [State.bit_setRegBit _ _ _ _ flag, if_pos rfl]
  · cases tx <;> rfl

/-! ## Frame sync (R312, R313) -/

/-- The converter follows, and reports no more than its own state. -/
theorem State.refreshSrc_after {s t : State} {p src subj : Nat} (h : Raised src subj s t)
    (apart : src % 65536 ∉ [Ev.tarnSrcState] := by decide) (hc : src % 65536 ≠ Ev.counterPinned := by decide) :
    Raised src subj s (t.refreshSrc p) :=
  h.after (t.refreshSrc_raises p) (State.refreshSrc_only ..).ptp apart hc

/-- A port at an FS edge (R312, R314, R315). -/
def State.edgeTaken (s : State) (p : Nat) : State :=
  let x := s.tp p
  let start := x.waitFs.elim false fun a => a ≤ s.tc
  let soon := x.startAt.elim false fun a => a ≤ s.tc + halfFrame (s.regN (tpReg p Tp.ctrl))
  (s.setTp p { x with
    fsAt := s.now
    fsFrom := x.fsFrom.orElse fun _ => some s.tc
    fsTo := s.tc
    fsFrames := x.fsFrames + b2n x.fsFrom.isSome
    edges := if start || soon || s.tstat p 0 then x.edges ++ [s.tc] else x.edges
    since := if s.tstat p 0 && !s.tstat p 1 then none else x.since
    startAt := if start then some s.tc else x.startAt
    waitFs := if start then none else x.waitFs }).setTstat p 1 true

theorem tarnFsEdge_next {s : State} {p : Nat} (dt : Nat) (awake : s.awake) (port : p < 8) (en : s.tctrlBit p 0 = true)
    (slave : s.tarnOwn p = false) :
    exec (.tarnFsEdge dt p) s =
      .next ((if s.tstat p 0 && !s.tstat p 1 then ((s.tick dt).edgeTaken p).raise Ev.tarnFsRestored p
        else (s.tick dt).edgeTaken p).refreshSrc p) :=
  (actIf_next awake (by simp [port, en, slave]) : execTarnFsEdge dt p s = _)

/-- The first FS edge at or after the instant that a slave waits for starts it, and FS that is back is reported. -/
theorem tarnFsEdge_takes {s : State} {dt p : Nat} (awake : s.awake) (port : p < 8) (en : s.tctrlBit p 0 = true)
    (slave : s.tarnOwn p = false) :
    Completes (.tarnFsEdge dt p) s fun t =>
      t.tstat p 1 = true ∧ (t.tp p).fsAt = t.now ∧
        (∀ a, (s.tp p).waitFs = some a → a ≤ t.tc → (t.tp p).startAt = some t.tc ∧ (t.tp p).waitFs = none) ∧
        (s.tstat p 0 = true → (t.tp p).edges = (s.tp p).edges ++ [t.tc]) ∧
        (s.tstat p 0 = true → s.tstat p 1 = false → Raised Ev.tarnFsRestored p s t) := by
  refine ⟨_, tarnFsEdge_next dt awake port en slave, ?_⟩
  beta_reduce
  generalize ht : State.refreshSrc _ p = t
  have stays : Only ⟨[.out, .pinned, .regs, .ev, .flashJournal, .diskJournal], eventObjs, []⟩ ((s.tick dt).edgeTaken p) t :=
    ht ▸ (State.refreshSrc_only ..).seq (.ite (State.raise_only ..).up (.refl _ _))
  have status : TarnKept id 1 p ((s.tick dt).edgeTaken p) t :=
    ht ▸ (State.refreshSrc_tarnKept ..).seq (.ite (.of_only (State.raise_only ..)) (.refl _))
  have clock : t.tc = (s.tick dt).tc := stays.tcEq
  have now : t.now = (s.tick dt).now := stays.same .now
  have port : t.tp p = _ := status.port.trans (State.tp_setTp ..)
  refine ⟨status.stat.trans (State.tstat_setTstat _ p 1 true), ?_, fun a waits late => ?_, fun runs => ?_, fun runs lost => ?_⟩
  · rw [port, now]
  · rw [clock] at late ⊢
    rw [port]
    simp [waits, late]
  · rw [port, clock]
    simp [runs]
  · rw [← ht, if_pos (by rw [runs, lost]; rfl)]
    exact State.refreshSrc_after ((State.raise_raised ..).before (.of_objs (l := []) rfl))

/-- A register counter raises COUNTER_PINNED of registers alone (R561). -/
theorem State.bumpReg_raises (s : State) (a by_ : Nat) : Raises [Ev.regCounterPinned] s (s.bumpReg a by_) := by
  unfold State.bumpReg
  extract_lets v count
  have set (v) : Raises [Ev.regCounterPinned] s (s.setRegN a v) := .of_objs rfl
  exact .ite (set _) (.ite (.refl s) ((State.raise_raises ..).seq (set _)))

/-- A slave whose FS is lost: its measurement ends, and the loss is a status of its own and counted. -/
def State.fsLost (s : State) (p : Nat) : State :=
  (((s.setTp p { s.tp p with fsFrom := none, fsFrames := 0 }).setTstat p 1 false).setTstat p 10 true).bumpReg (tpReg p 0x3C)

theorem State.fsLost_raises (s : State) (p : Nat) : Raises [Ev.regCounterPinned] s (s.fsLost p) :=
  (State.bumpReg_raises ..).seq (.of_objs rfl)

theorem State.fsLost_status (s : State) (p : Nat) : (s.fsLost p).tstat p 1 = false ∧ (s.fsLost p).tstat p 10 = true := by
  have counted (u : State) (k : Nat) : (u.bumpReg (tpReg p 0x3C)).tstat p k = u.tstat p k := (TarnKept.bumpReg (g := id) 0x3C).stat
  unfold State.fsLost
  rw [counted, counted, State.tstat_setTstat, State.tstat_setTstat, State.tstat_setTstat]
  exact ⟨rfl, rfl⟩

/-- FS lost for two frame periods is a sticky status and an event. -/
theorem tarnFsLost_reports {s : State} {dt p : Nat} (awake : s.awake) (port : p < 8) (runs : s.tstat p 0 = true)
    (locked : s.tstat p 1 = true) (slave : s.tarnOwn p = false)
    (lost : (s.tp p).fsAt + 2000000000 / tpHz (s.regN (tpReg p Tp.ctrl)) ≤ s.now + dt) :
    Completes (.tarnFsLost dt p) s fun t => t.tstat p 1 = false ∧ t.tstat p 10 = true ∧ Raised Ev.tarnFsLost p s t := by
  have next : exec (.tarnFsLost dt p) s = .next ((((s.tick dt).fsLost p).raise Ev.tarnFsLost p).refreshSrc p) :=
    (actIf_next awake (by simp [port, runs, locked, slave, lost]) : execTarnFsLost dt p s = _)
  obtain ⟨unlocked, sticky⟩ := (s.tick dt).fsLost_status p
  have before : Raises [Ev.regCounterPinned] s ((s.tick dt).fsLost p) := ((s.tick dt).fsLost_raises p).seq (.of_objs rfl)
  have kept (k : Nat) (h2 : k ≠ 2) (h3 : k ≠ 3) (h32 : k < 32) : TarnKept id k p ((s.tick dt).fsLost p) _ :=
    (State.refreshSrc_tarnKept (((s.tick dt).fsLost p).raise Ev.tarnFsLost p) p h2 h3 h32).seq (.of_only (State.raise_only ..))
  exact ⟨_, next, (kept 1 (by decide) (by decide) (by decide)).stat.trans unlocked,
    (kept 10 (by decide) (by decide) (by decide)).stat.trans sticky,
    State.refreshSrc_after ((State.raise_raised ..).before before)⟩

/-! ## Measured rates (R312, R313) -/

theorem clampInt_bounds {lo hi : Int} (x : Int) (h : lo ≤ hi) : lo ≤ clampInt lo hi x ∧ clampInt lo hi x ≤ hi := by
  unfold clampInt
  split_ifs <;> omega

/-- A signed word reads as it was written. -/
theorem toSigned_ofSigned {i : Int} (low : -2147483648 ≤ i) (high : i ≤ 2147483647) : toSigned 32 (ofSigned 32 i) = i := by
  unfold toSigned ofSigned
  split_ifs <;> omega

theorem rateDetected_lt (own mHz : Nat) : rateDetected own mHz < 8 := by
  unfold rateDetected
  cases found : List.find? _ _ with
  | none => decide
  | some k =>
    have supported := List.find?_some found
    exact Nat.lt_of_le_of_lt (of_decide_eq_true (Bool.and_eq_true_iff.1 supported).1) (by decide)

theorem rateDeviation_bounds (c mHz : Nat) : -2147483648 ≤ rateDeviation c mHz ∧ rateDeviation c mHz ≤ 2147483647 :=
  clampInt_bounds _ (by decide)

theorem ofSigned_lt (i : Int) : ofSigned 32 i < 2 ^ 32 := by
  unfold ofSigned
  omega

/-- The measurement registers for a rate. -/
theorem State.setRate_reads (s : State) {p mHz : Nat} (word : mHz < 2 ^ 32) :
    (s.setRate p mHz).regN (tpReg p 0x24) = mHz ∧
      toSigned 32 ((s.setRate p mHz).regN (tpReg p 0x28)) = rateDeviation (s.regN (tpReg p Tp.ctrl)) mHz ∧
      (s.setRate p mHz).regField (tpReg p Tp.stat) 4 6 = rateDetected (field (s.regN (tpReg p Tp.ctrl)) 4 6) mHz := by
  obtain ⟨low, high⟩ := rateDeviation_bounds (s.regN (tpReg p Tp.ctrl)) mHz
  have detected := rateDetected_lt (field (s.regN (tpReg p Tp.ctrl)) 4 6) mHz
  dsimp only [State.setRate, State.setRegField, State.regField]
  refine ⟨?_, ?_, ?_⟩
  · rw [State.regN_setRegN_ne _ _ (tpReg_ne (by decide)), State.regN_setRegN_ne _ _ (tpReg_ne (by decide)),
      State.regN_setRegN_self, Nat.mod_mod, Nat.mod_eq_of_lt word]
  · rw [State.regN_setRegN_ne _ _ (tpReg_ne (by decide)), State.regN_setRegN_self, Nat.mod_eq_of_lt (ofSigned_lt _),
      toSigned_ofSigned low high]
  · rw [State.regN_setRegN_self, field_congr fun k _ hk => bit_mod_word (by omega) _, field_setField]
    exact Nat.mod_eq_of_lt detected

/-- A slave's rate is measured (R312, R313). -/
def State.rateMeasured (s : State) (p mHz : Nat) : State :=
  let c := s.regN (tpReg p Tp.ctrl)
  let old := s.regField (tpReg p Tp.stat) 4 6
  let u := s.setRate p mHz
  let det := rateDetected (field c 4 6) mHz
  let u := if det != 7 && det != field c 4 6 && det != old then (u.setTstat p 11 true).raise Ev.tarnRateChange p else u
  u.refreshSrc p

/-- What follows the registers of the measurement leaves them. -/
theorem State.rateMeasured_reads (s : State) {p mHz : Nat} (word : mHz < 2 ^ 32) :
    (s.rateMeasured p mHz).regN (tpReg p 0x24) = mHz ∧
      toSigned 32 ((s.rateMeasured p mHz).regN (tpReg p 0x28)) = rateDeviation (s.regN (tpReg p Tp.ctrl)) mHz ∧
      (s.rateMeasured p mHz).regField (tpReg p Tp.stat) 4 6 = rateDetected (field (s.regN (tpReg p Tp.ctrl)) 4 6) mHz := by
  obtain ⟨rate, deviation, detected⟩ := s.setRate_reads (p := p) word
  have own : OwnPort p (s.setRate p mHz) (s.rateMeasured p mHz) :=
    (State.refreshSrc_ownPort ..).seq (.ite ((OwnPort.raise ..).seq (.setStat _)) (.refl _))
  have status (k : Nat) (h4 : 4 ≤ k) (h6 : k ≤ 6) : TarnKept id k p (s.setRate p mHz) (s.rateMeasured p mHz) :=
    (State.refreshSrc_tarnKept _ p (by omega) (by omega) (by omega)).seq
      (.ite (.still (State.raise_only ..) (.setTstat 11 true (by omega) (by omega))) (.refl _))
  refine ⟨(own.tpReg 0x24).trans rate, ?_, (field_congr fun k h4 h6 => (status k h4 h6).stat).trans detected⟩
  rw [own.tpReg 0x28, deviation]

/-- The timestamps of a measurement end with a whole second. -/
def State.secondEnded (s : State) (p : Nat) : State :=
  s.setTp p { s.tp p with measured := s.tc / tcSec, fsFrom := (s.tp p).fsFrom.map fun _ => (s.tp p).fsTo, fsFrames := 0 }

/-- A whole second's measurement of a slave. -/
theorem tarnRateMeasure_measures {s : State} {dt p mHz fill : Nat} (awake : s.awake) (port : p < 8)
    (en : s.tctrlBit p 0 = true) (slave : tpMaster (s.regN (tpReg p Tp.ctrl)) = false)
    (due : (s.tp p).measured < (s.tick dt).tc / tcSec) (filled : fill = s.regN (tpReg p 0x2C))
    (given : (s.tp p).rate.isSome = true) (near : nearRate (s.tp p).rate mHz = true) (word : mHz < 2 ^ 32) :
    Completes (.tarnRateMeasure dt p mHz fill) s fun t =>
      t.regN (tpReg p 0x24) = mHz ∧ toSigned 32 (t.regN (tpReg p 0x28)) = rateDeviation (s.regN (tpReg p Tp.ctrl)) mHz ∧
        t.regField (tpReg p Tp.stat) 4 6 = rateDetected (field (s.regN (tpReg p Tp.ctrl)) 4 6) mHz := by
  have next : execTarnRateMeasure dt p mHz fill s = .next (((s.tick dt).secondEnded p).rateMeasured p mHz) :=
    (actIf_next awake (by simp [port, en, due, filled, near])).trans
      (congrArg _ (if_neg (by simp [slave, Option.isNone_eq_false_iff.2 given])))
  exact ⟨_, next, ((s.tick dt).secondEnded p).rateMeasured_reads word⟩

/-! ## FIFO accesses (R321) -/

section
variable {s : State} {dt p : Nat} (awake : s.awake) (port : p < 8)
include awake port

theorem tarnRxfifoRead_takes {w : Nat} {rest : List Nat} (waits : (s.tp p).rxFifo = w :: rest) :
    Completes (.tarnRxfifoRead dt p) s fun t => (t.tp p).rxFifo = rest ∧ Out.readback (tpReg p 0x44) w ∈ t.out := by
  refine ⟨_, (actIf_next awake (decide_eq_true port) : execTarnRxfifoRead dt p s = _), ?_⟩
  have pop : (s.tick dt).rxfifoPop p = (w, ((s.tick dt).setTp p { s.tp p with rxFifo := rest }).refreshFifo p) := by
    simp only [State.rxfifoPop, State.tp_tick, waits]
  have left : ((s.tick dt).setTp p { s.tp p with rxFifo := rest }).tp p = _ := State.tp_setTp ..
  dsimp only
  rw [pop, State.tp_emit]
  refine ⟨?_, State.mem_emit ..⟩
  exact (State.refreshFifo_tarnKept (g := TarnPort.rxFifo) (k := 0) ..).port.trans (congrArg TarnPort.rxFifo left)

theorem tarnRxfifoRead_overruns (empty : (s.tp p).rxFifo = []) :
    Completes (.tarnRxfifoRead dt p) s fun t => t.tstat p 9 = true ∧ Out.readback (tpReg p 0x44) 0 ∈ t.out := by
  refine ⟨_, (actIf_next awake (decide_eq_true port) : execTarnRxfifoRead dt p s = _), ?_⟩
  have pop : (s.tick dt).rxfifoPop p = (0, (s.tick dt).tarnOverrun p) := by
    simp only [State.rxfifoPop, State.tp_tick, empty]
  dsimp only
  rw [pop]
  exact ⟨(s.tick dt).tarnOverrun_sets p, State.mem_emit ..⟩

theorem tarnTxfifoWrite_puts {v : Nat} (room : (s.tp p).txFifo.length < 128) :
    Completes (.tarnTxfifoWrite dt p v) s fun t => (t.tp p).txFifo = (s.tp p).txFifo ++ [v % 2 ^ 32] := by
  refine ⟨_, (actIf_next awake (decide_eq_true port) : execTarnTxfifoWrite dt p v s = _), ?_⟩
  beta_reduce
  rw [show (s.tick dt).txfifoPush p v = _ from if_pos room]
  exact (State.refreshFifo_tarnKept (g := TarnPort.txFifo) (k := 0) ..).port.trans (congrArg TarnPort.txFifo (State.tp_setTp ..))

theorem tarnTxfifoWrite_overruns {v : Nat} (full : 128 ≤ (s.tp p).txFifo.length) :
    Completes (.tarnTxfifoWrite dt p v) s fun t => (t.tp p).txFifo = (s.tp p).txFifo ∧ t.tstat p 9 = true := by
  refine ⟨_, (actIf_next awake (decide_eq_true port) : execTarnTxfifoWrite dt p v s = _), ?_⟩
  beta_reduce
  rw [show (s.tick dt).txfifoPush p v = _ from if_neg (Nat.not_lt.2 full)]
  exact ⟨(State.tarnOverrun_tarnKept (g := TarnPort.txFifo) (k := 0) ..).port, (s.tick dt).tarnOverrun_sets p⟩

/-! ## The frame counter (R324) -/

theorem tarnFcntLatch_latches (word : (s.tp p).count < 2 ^ 48) (unpinned : (s.tp p).countPinned = false) :
    Completes (.tarnFcntLatch dt p) s fun t =>
      t.regN (tpReg p 0x1C) = (s.tp p).count / 2 ^ 32 ∧
        Out.readback (tpReg p Tp.fcntLo) ((s.tp p).count % 2 ^ 32) ∈ t.out := by
  refine ⟨_, (actIf_next awake (decide_eq_true port) : execTarnFcntLatch dt p s = _), ?_⟩
  dsimp only
  refine ⟨?_, State.mem_emit ..⟩
  rw [State.regN_emit, State.regN_setRegN_ne _ _ (tpReg_ne (by decide)), State.regN_setRegN_self, State.tp_tick, unpinned,
    if_neg Bool.false_ne_true, Nat.add_zero]
  exact Nat.mod_eq_of_lt (by omega)

end

/-! ## The statement -/

/-- Settles O36: each command leaves what its clause says of the port, and the converter's state, the FIFO levels and the events
that follow leave that as it was. -/
theorem tarnServes : Obligations.TarnServes := by
  unfold Obligations.TarnServes
  refine ⟨?_, ?_, ?_, ?_, ?_, ?_, ?_, ?_, ?_⟩
  · exact fun s dt p tx v late awake port => tarnMaskWrite_waits awake port
  · exact fun s dt p awake port en slave => tarnFsEdge_takes awake port en slave
  · exact fun s dt p awake port runs locked slave lost => tarnFsLost_reports awake port runs locked slave lost
  · rintro s dt p mHz fill c awake port rfl en slave due filled given near word
    exact tarnRateMeasure_measures awake port en slave due filled given near word
  · exact fun s dt p w rest awake port waits => tarnRxfifoRead_takes awake port waits
  · exact fun s dt p awake port empty => tarnRxfifoRead_overruns awake port empty
  · exact fun s dt p v awake port room => tarnTxfifoWrite_puts awake port room
  · exact fun s dt p v awake port full => tarnTxfifoWrite_overruns awake port full
  · exact fun s dt p awake port word unpinned => tarnFcntLatch_latches awake port word unpinned

end Sys2Proof.Machine
end

section
/-!
SUPPORT. What Watershed keeps beside its objects: what the loop leaves of it as it moves (`LoopKept`), and what a change of state
leaves of a reference (`InputKept`).
-/
namespace Sys2Proof.Machine
set_option Elab.async false

theorem Only.ws {r : Reach} {s t : State} (h : Only r s t) (hp : Part.ws ∉ r.parts := by decide) : t.ws = s.ws := h.same .ws hp

theorem State.setBitN_reads (s : State) (i k j : Nat) (b : Bool) : bit ((s.setBitN i k j b).n i k) j = b := by
  rw [State.setBitN, State.n_setN_self, bit_setBit_self]

/-- A default that is put back stands in the store. -/
theorem State.val_toDefault (s : State) (i k : Nat) : Objs.val (s.toDefault i k).objs (adr i k) = objDefault (adr i k) := by
  rw [State.toDefault, State.val_setVal, if_pos rfl]

/-- An object outside a reach holds the value that it held. -/
theorem Only.val {r : Reach} {s t : State} (h : Only r s t) (i k : Nat) (hp : Part.objs ∉ r.parts := by decide)
    (hi : i ∉ r.objs := by decide) : Objs.val t.objs (adr i k) = Objs.val s.objs (adr i k) :=
  h.obj hp _ (by rwa [adrIndex_adr])

/-! ## The loop -/

/-- What the references keep, whether one has been selected, and the seconds of LOCKED are as they were. -/
structure LoopKept (s t : State) : Prop where
  refs : t.ws.refs = s.ws.refs
  selectedOnce : t.ws.selectedOnce = s.ws.selectedOnce
  runLearned : t.ws.runLearned = s.ws.runLearned

theorem LoopKept.of_ws {s t : State} (h : t.ws = s.ws) : LoopKept s t :=
  ⟨congrArg Ws.refs h, congrArg Ws.selectedOnce h, congrArg Ws.runLearned h⟩

theorem LoopKept.refl (s : State) : LoopKept s s := .of_ws rfl

/-- Outermost first. -/
theorem LoopKept.seq {s t u : State} (h : LoopKept t u) (g : LoopKept s t) : LoopKept s u :=
  ⟨h.refs.trans g.refs, h.selectedOnce.trans g.selectedOnce, h.runLearned.trans g.runLearned⟩

theorem LoopKept.ite {p : Prop} [Decidable p] {s a b : State} (h : LoopKept s a) (g : LoopKept s b) :
    LoopKept s (if p then a else b) := by
  split
  · exact h
  · exact g

theorem LoopKept.foldl {α : Type} {f : State → α → State} {xs : List α} {s : State} (h : ∀ u x, LoopKept u (f u x)) :
    LoopKept s (xs.foldl f s) := by
  induction xs generalizing s with
  | nil => exact .refl s
  | cons x xs ih => exact ih.seq (h s x)

/-- A function whose reach has no part of Watershed, after others. -/
theorem LoopKept.still {r : Reach} {s t u : State} (h : Only r t u) (g : LoopKept s t) (hp : Part.ws ∉ r.parts := by decide) :
    LoopKept s u := (LoopKept.of_ws (h.ws hp)).seq g

theorem LoopKept.ref {s t : State} (h : LoopKept s t) (r : Nat) : t.ref r = s.ref r := by
  rw [State.ref, h.refs, State.ref]

theorem State.refreshFp_loopKept (s : State) (n : Nat) : LoopKept s (s.refreshFp n) := by
  unfold State.refreshFp
  extract_lets old new t x
  have h : LoopKept s t := .of_ws rfl
  exact .ite (.still (State.raise_only ..) h) (.ite (.still (State.raise_only ..) (.seq (t := t) ⟨rfl, rfl, rfl⟩ h)) h)

theorem State.refreshFps_loopKept (s : State) : LoopKept s s.refreshFps := .foldl State.refreshFp_loopKept

theorem State.setY_loopKept (s : State) (y slope : Int) : LoopKept s (s.setY y slope) := ⟨rfl, rfl, rfl⟩

theorem State.startPull_loopKept (s : State) : LoopKept s s.startPull := ⟨rfl, rfl, rfl⟩

theorem State.enterWs_loopKept (s : State) (st : Nat) : LoopKept s (s.enterWs st) := by
  unfold State.enterWs
  extract_lets old t1 t2 n mean w u
  have h2 : LoopKept s t2 := .ite (.still (State.wsHist_only ..) (.of_ws rfl)) (.of_ws rfl)
  refine .ite (.refl s) ?_
  split
  · exact .still (State.raise_only ..) (.still (State.wsHist_only ..) h2)
  · exact .still (State.raise_only ..) (t2.startPull_loopKept.seq h2)
  · exact .still (State.raise_only ..) h2
  · have hu : LoopKept s u := .seq (t := t2) ⟨rfl, rfl, rfl⟩ h2
    exact .still (State.raise_only ..) (.still (State.wsHist_only ..) ((u.setY_loopKept mean 0).seq hu))

theorem State.followModel_loopKept (s : State) : LoopKept s s.followModel := .ite (s.setY_loopKept _ _) (.refl s)

theorem State.watchPhase_loopKept (s : State) (r : Nat) : LoopKept s (s.watchPhase r) := by
  unfold State.watchPhase
  extract_lets x near passed tracking w t
  have h : LoopKept s t := ⟨rfl, rfl, rfl⟩
  exact .ite (.refl s) (.ite (.ite (s.enterWs_loopKept 1) (.refl s)) (.ite (.ite ((t.setY_loopKept _ _).seq h) h) (.refl s)))

theorem State.watchPair_loopKept (s : State) (p : Nat × Nat) : LoopKept s (s.watchPair p) := by
  unfold State.watchPair
  extract_lets known others keep
  have kept (l) : LoopKept s (keep s l) := ⟨rfl, rfl, rfl⟩
  refine .ite ?_ ?_
  · cases known with
    | some a => exact kept _
    | none => exact .still (State.refHist_only ..) (.still (State.refHist_only ..) (.still (State.wsHist_only ..)
        (.still (State.raise_only ..) (kept _))))
  · match known with
    | some (_, some a) => exact .ite (kept _) (.refl s)
    | some (_, none) => exact kept _
    | none => exact .refl s

theorem State.ageModel_loopKept (s : State) : LoopKept s s.ageModel := .ite (.refl s) ⟨rfl, rfl, rfl⟩

theorem State.learn_refs (s : State) : s.learn.ws.refs = s.ws.refs := rfl

/-- A second of the loop leaves the references. -/
theorem State.wsSecond_refs (s : State) : s.wsSecond.ws.refs = s.ws.refs := by
  unfold State.wsSecond
  extract_lets st tracked w t
  split
  · exact t.learn_refs
  · split
    · exact t.followModel_loopKept.refs
    · rfl

theorem State.ref_wsSecond (s : State) (r : Nat) : s.wsSecond.ref r = s.ref r := by
  rw [State.ref, s.wsSecond_refs, State.ref]

/-! ## A reference changes its state (R340) -/

/-- The QL code received and the master of reference r are as they were. -/
structure InputKept (r : Nat) (s t : State) : Prop where
  rxQl : (t.ref r).rxQl = (s.ref r).rxQl
  codeRun : (t.ref r).codeRun = (s.ref r).codeRun
  master : (t.ref r).master = (s.ref r).master

theorem InputKept.of_ref {r : Nat} {s t : State} (h : t.ref r = s.ref r) : InputKept r s t :=
  ⟨congrArg RefPart.rxQl h, congrArg RefPart.codeRun h, congrArg RefPart.master h⟩

theorem InputKept.of_loop {r : Nat} {s t : State} (h : LoopKept s t) : InputKept r s t := .of_ref (h.ref r)

theorem InputKept.refl {r : Nat} (s : State) : InputKept r s s := ⟨rfl, rfl, rfl⟩

/-- Outermost first. -/
theorem InputKept.seq {r : Nat} {s t u : State} (h : InputKept r t u) (g : InputKept r s t) : InputKept r s u :=
  ⟨h.rxQl.trans g.rxQl, h.codeRun.trans g.codeRun, h.master.trans g.master⟩

theorem InputKept.ite {r : Nat} {p : Prop} [Decidable p] {s a b : State} (h : InputKept r s a) (g : InputKept r s b) :
    InputKept r s (if p then a else b) := by
  split
  · exact h
  · exact g

theorem InputKept.still {r : Nat} {p : Reach} {s t u : State} (h : Only p t u) (g : InputKept r s t)
    (hp : Part.ws ∉ p.parts := by decide) : InputKept r s u := (InputKept.of_loop (.of_ws (h.ws hp))).seq g

theorem State.setRef_inputKept (s : State) (r : Nat) {x : RefPart} (ql : x.rxQl = (s.ref r).rxQl := by rfl)
    (run : x.codeRun = (s.ref r).codeRun := by rfl) (master : x.master = (s.ref r).master := by rfl) :
    InputKept r s (s.setRef r x) := by
  constructor
  · rwa [State.ref_setRef]
  · rwa [State.ref_setRef]
  · rwa [State.ref_setRef]

/-- A reference has left its state for another: the loss of an AVAILABLE one is raised and counted. -/
def State.refLeft (s : State) (r st : Nat) : State :=
  if s.n Obj.refState r = 3 then ((s.setN Obj.refState r st).raise Ev.refLost r).bump Obj.refLosses r
  else s.setN Obj.refState r st

section
variable {s : State} {r : Nat}

theorem State.setRefState_lost (h : s.n Obj.refState r ≠ 1) : s.setRefState r 1 =
    (((s.refLeft r 1).setRef r { (s.refLeft r 1).ref r with streak := 0 }).refHist r 0).refreshFps := if_neg h

theorem State.setRefState_qualifying (h : s.n Obj.refState r ≠ 2) : s.setRefState r 2 =
    ((s.refLeft r 2).setRef r { (s.refLeft r 2).ref r with qualAt := (s.refLeft r 2).now, freqs := [] }).refreshFps := if_neg h

theorem State.setRefState_available (h : s.n Obj.refState r ≠ 3) : s.setRefState r 3 =
    (((s.refLeft r 3).raise Ev.refAvailable r).refHist r 1).refreshFps := if_neg h

end

/-- What leaving a state may change, beside the state. -/
abbrev refLeftReach : Reach :=
  ⟨[.out, .pinned, .ev, .flashJournal, .diskJournal], [Obj.refLosses, Obj.eventCount, Obj.eventLastAt, Obj.eventLastSubject],
    [0x40000004, 0x40000008]⟩

/-- What entering one does: it raises what the new state and the frame pulses that follow the reference raise (R340, R358), and
leaves what the reference's input has given. -/
structure RefEnters (r : Nat) (s t : State) : Prop where
  only : Only ⟨[.out, .pinned, .ev, .flashJournal, .ws, .diskJournal], [Obj.fpState, Obj.refHistory, Obj.eventCount,
    Obj.eventLastAt, Obj.eventLastSubject], [0x40000004, 0x40000008]⟩ s t
  raises : Raises [Ev.refAvailable, Ev.fpFlywheel, Ev.fpFollowing] s t
  input : InputKept r s t

section
variable (s : State) (r st : Nat)

theorem State.refLeft_after : Only refLeftReach (s.setN Obj.refState r st) (s.refLeft r st) :=
  .ite ((State.bump_only ..).seq (State.raise_only ..).up) (.refl ..)

theorem State.refLeft_state : (s.refLeft r st).n Obj.refState r = st := by
  rw [(s.refLeft_after r st).n Obj.refState r, State.n_setN_self]

theorem State.refreshFp_raises (n : Nat) : Raises [Ev.fpFlywheel, Ev.fpFollowing] s (s.refreshFp n) := by
  unfold State.refreshFp
  extract_lets old new t x
  have h : Raises [Ev.fpFlywheel, Ev.fpFollowing] s t := .of_only (State.setN_only ..)
  exact .ite ((State.raise_raises ..).seq h) (.ite ((State.raise_raises ..).seq (.seq (a := []) (t := t) (.of_objs rfl) h)) h)

theorem State.refreshFps_raises : Raises [Ev.fpFlywheel, Ev.fpFollowing] s s.refreshFps :=
  .foldl State.refreshFp_raises (.refl s)

variable {s r st}

theorem RefEnters.refl (r : Nat) (s : State) : RefEnters r s s := ⟨.refl _ s, .refl s, .refl s⟩

theorem RefEnters.refreshFps {t : State} (h : RefEnters r s t) : RefEnters r s t.refreshFps :=
  ⟨(State.refreshFps_only t).seq h.only, t.refreshFps_raises.seq h.raises, (InputKept.of_loop t.refreshFps_loopKept).seq h.input⟩

theorem RefEnters.refHist {t : State} (h : RefEnters r s t) (k : Nat) : RefEnters r s (t.refHist r k) :=
  ⟨(State.refHist_only ..).seq h.only, .still (State.refHist_only ..) h.raises, .still (State.refHist_only ..) h.input⟩

theorem State.setRef_refEnters (s : State) (r : Nat) {x : RefPart} (h : InputKept r s (s.setRef r x)) :
    RefEnters r s (s.setRef r x) := ⟨(State.setRef_only ..).up, .of_only (State.setRef_only ..), h⟩

theorem State.refAvailable_refEnters (s : State) (r : Nat) : RefEnters r s (s.raise Ev.refAvailable r) :=
  ⟨(State.raise_only ..).up, (State.raise_raises ..).up, .still (State.raise_only ..) (.refl s)⟩

/-- What follows once it has left the old one. -/
theorem State.setRefState_enters (h : s.n Obj.refState r ≠ st) : RefEnters r (s.refLeft r st) (s.setRefState r st) := by
  unfold State.setRefState
  extract_lets old t1 t2 y t3
  have left : t2 = s.refLeft r st := rfl
  have h3 : RefEnters r t2 t3 := by
    unfold t3
    split
    · exact .refHist (t2.setRef_refEnters r (t2.setRef_inputKept r)) 0
    · exact t2.setRef_refEnters r (t2.setRef_inputKept r)
    · exact (t2.refAvailable_refEnters r).refHist 1
    · exact .refl r t2
  rw [if_neg h, ← left]
  exact h3.refreshFps

end

end Sys2Proof.Machine
end

section
/-!
SUPPORT. What a reference shows in its new state (R339, R340), and what its QL in force does (R338).
-/
namespace Sys2Proof.Machine
set_option Elab.async false

section
variable {s : State} {r st : Nat}

theorem State.setRefState_state : (s.setRefState r st).n Obj.refState r = st := by
  by_cases h : s.n Obj.refState r = st
  · rwa [State.setRefState, if_pos h]
  · rw [(State.setRefState_enters h).only.n Obj.refState r, State.refLeft_state]

theorem State.setRefState_input : InputKept r s (s.setRefState r st) := by
  by_cases h : s.n Obj.refState r = st
  · rw [State.setRefState, if_pos h]
    exact .refl s
  · exact (State.setRefState_enters h).input.seq (.still (State.refLeft_after ..) (.still (State.setN_only ..) (.refl s)))

theorem State.setRefState_raises :
    Raises [Ev.refLost, Ev.refAvailable, Ev.fpFlywheel, Ev.fpFollowing] s (s.setRefState r st) := by
  by_cases h : s.n Obj.refState r = st
  · rw [State.setRefState, if_pos h]
    exact .refl s
  · have set : Raises [Ev.refLost] s (s.setN Obj.refState r st) := .of_only (State.setN_only ..)
    have left : Raises [Ev.refLost] s (s.refLeft r st) :=
      .ite ((State.bump_raises (l := []) ..).seq ((State.raise_raises ..).seq set)) set
    exact (State.setRefState_enters h).raises.seq left.up

/-- The loss of an AVAILABLE reference is counted and raised (R340). -/
theorem State.setRefState_leaves (h : s.n Obj.refState r = 3) (hst : st ≠ 3) :
    Counted Obj.refLosses r 1 s (s.setRefState r st) ∧ Raised Ev.refLost r s (s.setRefState r st) := by
  have enters : RefEnters r (s.refLeft r st) (s.setRefState r st) := State.setRefState_enters fun e => hst (e.symm.trans h)
  have left : s.refLeft r st = ((s.setN Obj.refState r st).raise Ev.refLost r).bump Obj.refLosses r := if_pos h
  have before : Raises [] s (s.setN Obj.refState r st) := .of_only (State.setN_only ..)
  rw [left] at enters
  refine ⟨(Counted.from_same (State.bump_counted ..) ?_).still enters.only, ?_⟩
  · rw [(State.raise_only ..).n Obj.refLosses r, (State.setN_only ..).n Obj.refLosses r]
  · have raised : Raised Ev.refLost r s ((s.setN Obj.refState r st).raise Ev.refLost r) := (State.raise_raised ..).before before
    exact (raised.after (State.bump_raises (l := []) ..) (State.bump_only ..).ptp).after enters.raises enters.only.ptp

/-- A reference that is measured is lost. -/
theorem State.loseRef_measured (h : 2 ≤ s.n Obj.refState r) : s.loseRef r = s.setRefState r 1 := if_pos h

theorem State.loseRef_loses (h : 2 ≤ s.n Obj.refState r) :
    (s.loseRef r).n Obj.refState r = 1 ∧ bit ((s.loseRef r).n Obj.refHistory r) 0 = true ∧
      (s.n Obj.refState r = 3 → Counted Obj.refLosses r 1 s (s.loseRef r) ∧ Raised Ev.refLost r s (s.loseRef r)) := by
  rw [State.loseRef_measured h]
  refine ⟨State.setRefState_state, ?_, fun h3 => State.setRefState_leaves h3 (by decide)⟩
  rw [State.setRefState_lost (by omega), (State.refreshFps_only _).n Obj.refHistory r]
  exact State.setBitN_reads ..

theorem State.loseRef_low (s : State) (r : Nat) : (s.loseRef r).n Obj.refState r ≤ 1 := by
  by_cases h : 2 ≤ s.n Obj.refState r
  · exact (State.loseRef_loses h).1.le
  · rw [State.loseRef, if_neg h]
    omega

theorem State.loseRef_again (s : State) (r : Nat) : (s.loseRef r).loseRef r = s.loseRef r :=
  if_neg (by have := s.loseRef_low r; omega)

theorem State.loseRef_input (s : State) (r : Nat) : InputKept r s (s.loseRef r) := .ite State.setRefState_input (.refl s)

theorem State.loseRef_raises (s : State) (r : Nat) :
    Raises [Ev.refLost, Ev.refAvailable, Ev.fpFlywheel, Ev.fpFollowing] s (s.loseRef r) := .ite State.setRefState_raises (.refl s)

/-- The signal of a lost reference is back: it qualifies from now on. -/
theorem State.setRefState_qualifies (h : s.n Obj.refState r ≠ 2) :
    (s.setRefState r 2).n Obj.refState r = 2 ∧ ((s.setRefState r 2).ref r).qualAt = (s.setRefState r 2).now := by
  refine ⟨State.setRefState_state, ?_⟩
  have now : (s.setRefState r 2).now = (s.refLeft r 2).now := (State.setRefState_enters h).only.same .now
  rw [now, State.setRefState_qualifying h, (State.refreshFps_loopKept _).ref, State.ref_setRef]

/-- A reference with a quality that has qualified is AVAILABLE. -/
theorem State.setRefState_becomesAvailable (h : s.n Obj.refState r ≠ 3) :
    Raised Ev.refAvailable r s (s.setRefState r 3) ∧ bit ((s.setRefState r 3).n Obj.refHistory r) 1 = true := by
  have left : s.refLeft r 3 = s.setN Obj.refState r 3 := if_neg h
  have before : Raises [] s (s.setN Obj.refState r 3) := .of_only (State.setN_only ..)
  rw [State.setRefState_available h, left]
  constructor
  · have raised : Raised Ev.refAvailable r s ((s.setN Obj.refState r 3).raise Ev.refAvailable r) :=
      (State.raise_raised ..).before before
    exact (raised.after (l := []) (.of_only (State.refHist_only ..)) (State.refHist_only ..).ptp).after
      (State.refreshFps_raises _) (State.refreshFps_only _).ptp
  · rw [(State.refreshFps_only _).n Obj.refHistory r]
    exact State.setBitN_reads ..

/-! ## The QL in force (R338) -/

/-- The events of a change of QL. -/
abbrev qlEvents : List Nat := [Ev.refQlChange, Ev.refLost, Ev.refAvailable, Ev.fpFlywheel, Ev.fpFollowing]

/-- The QL in force moves a reference between AVAILABLE and UNUSABLE, through QUALIFYING, and no other. -/
theorem State.refreshQl_low (h : s.n Obj.refState r ≤ 1) : (s.refreshQl r).n Obj.refState r = s.n Obj.refState r := by
  unfold State.refreshQl
  extract_lets new t1 t2
  have h2 : t2.n Obj.refState r = s.n Obj.refState r := by
    have set : t1.n Obj.refState r = s.n Obj.refState r := (State.setN_only ..).n Obj.refState r
    refine (apply_ite (fun u : State => u.n Obj.refState r) ..).trans ?_
    rw [(State.refHist_only ..).n Obj.refState r, (State.raise_only ..).n Obj.refState r, set, ite_self]
  split
  · rfl
  · split
    · next h3 => omega
    · next h4 => omega
    · exact h2

theorem State.refreshQl_input (s : State) (r : Nat) : InputKept r s (s.refreshQl r) := by
  unfold State.refreshQl
  extract_lets new t1 t2
  have h1 : InputKept r s t1 := .still (State.setN_only ..) (.refl s)
  have h2 : InputKept r s t2 := .ite (.still (State.refHist_only ..) (.still (State.raise_only ..) h1)) h1
  refine .ite (.refl s) ?_
  split
  · exact .ite (State.setRefState_input.seq h2) h2
  · exact .ite h2 (State.setRefState_input.seq h2)
  · exact h2

theorem State.refreshQl_raises (s : State) (r : Nat) : Raises qlEvents s (s.refreshQl r) := by
  unfold State.refreshQl
  extract_lets new t1 t2
  have h1 : Raises [Ev.refQlChange] s t1 := .of_only (State.setN_only ..)
  have h2 : Raises qlEvents s t2 :=
    .ite (.still (State.refHist_only ..) ((State.raise_raises ..).seq h1.up)) h1.up
  refine .ite (.refl s) ?_
  split
  · exact .ite (State.setRefState_raises.seq h2) h2
  · exact .ite h2 (State.setRefState_raises.seq h2)
  · exact h2

end

end Sys2Proof.Machine
end

section
/-!
PROOFS. References: edges, quality, loss, return, masters and frequency (R335 to R341, R351, R352, R359).
-/
namespace Sys2Proof.Machine
set_option Elab.async false

/-! ## Edges (R335, R337) -/

/-- The pulse inputs are references 2 to 5 (R334). -/
theorem refIsPulse_bounds {r : Nat} (h : refIsPulse r = true) : 2 ≤ r ∧ r ≤ 5 := by
  simpa [refIsPulse] using h

/-- An edge of an enabled periodic reference is met. -/
structure EdgeMet (s : State) (r : Nat) : Prop where
  awake : s.awake
  low : 2 ≤ r
  high : r ≤ 10
  enabled : s.b Obj.refEnable r = true
  periodic : (s.refPeriod r).num ≠ 0

theorem EdgeMet.of_pulse {s : State} {r : Nat} (awake : s.awake) (pulse : refIsPulse r = true)
    (enabled : s.b Obj.refEnable r = true) (periodic : (s.refPeriod r).num ≠ 0) : EdgeMet s r := by
  obtain ⟨low, high⟩ := refIsPulse_bounds pulse
  exact ⟨awake, low, by omega, enabled, periodic⟩

/-- A QL code as it has been received: the third equal one in a row is the received QL. -/
def RefPart.withCode (x : RefPart) (c : Nat) : RefPart :=
  let run := if x.codeRun != 0 && x.code = c then x.codeRun + 1 else 1
  { x with code := c, codeRun := run, rxQl := if 3 ≤ run then c else x.rxQl }

section
variable {s : State} {dt r w c : Nat}

theorem EdgeMet.cond (h : EdgeMet s r) :
    (2 ≤ r && r ≤ 10 && (s.tick dt).b Obj.refEnable r && ((s.tick dt).refPeriod r).num != 0) = true := by
  have periodic : ((s.tick dt).refPeriod r).num ≠ 0 := h.periodic
  simp [h.low, h.high, h.enabled, periodic]

theorem EdgeMet.invalid (h : EdgeMet s r) (pulse : refIsPulse r = true) (code : pulseCode w = none) :
    exec (.refEdge dt r w) s = .next (((((s.tick dt).setRef r { s.ref r with codeRun := 0 }).bump Obj.refInvalidPulses
      r).raiseLimited Ev.refPulseInvalid r r).refHist r 3) := by
  refine (actIf_next h.awake h.cond : execRefEdge dt r w s = _).trans ?_
  simp only [pulse, code, if_true, State.ref_tick]

theorem EdgeMet.coded (h : EdgeMet s r) (pulse : refIsPulse r = true) (code : pulseCode w = some c) :
    exec (.refEdge dt r w) s = .next ((((s.tick dt).setRef r ((s.ref r).withCode c)).refreshQl r).takeEdge r) := by
  refine (actIf_next h.awake h.cond : execRefEdge dt r w s = _).trans ?_
  simp only [pulse, code, if_true, State.ref_tick]
  rfl

theorem EdgeMet.plain (h : EdgeMet s r) (pulse : refIsPulse r = false) :
    exec (.refEdge dt r w) s = .next ((s.tick dt).takeEdge r) := by
  refine (actIf_next h.awake h.cond : execRefEdge dt r w s = _).trans ?_
  simp only [pulse, Bool.false_eq_true, if_false]

/-- What a change of QL or of the loop's state leaves of a reference's phase. -/
theorem Only.edgePhase {p : Reach} {t u : State} (h : Only p t u) (r : Nat) (tc : Part.tc ∉ p.parts := by decide)
    (objs : Part.objs ∉ p.parts := by decide)
    (own : Obj.refRate ∉ p.objs ∧ Obj.refSdiLane ∉ p.objs ∧ Obj.rxFormat ∉ p.objs ∧ Obj.refOffset ∉ p.objs := by decide) :
    u.edgePhase r = t.edgePhase r := by
  obtain ⟨rate, lane, format, offset⟩ := own
  have period : u.refPeriod r = t.refPeriod r := by
    simp only [State.refPeriod, h.n Obj.refRate r objs rate, h.n Obj.refSdiLane r objs lane, h.n Obj.rxFormat _ objs format]
  simp only [State.edgePhase, period, h.tcEq tc, h.i Obj.refOffset r objs offset]

theorem State.goodEdge_ref (t : State) (r : Nat) : ∃ fit streak off, (t.goodEdge r).ref r =
    { t.ref r with fit := fit, lastValid := some t.tc, streak := streak, off := off } := ⟨_, _, _, State.ref_setRef ..⟩

/-- A valid edge gives the phase difference (R335). -/
theorem State.takeEdge_measures (t : State) (r : Nat) :
    ((t.takeEdge r).ref r).lastValid = some (t.takeEdge r).tc ∧ (t.takeEdge r).i Obj.refPhaseDiff r = t.edgePhase r := by
  obtain ⟨fit, streak, off, edge⟩ := t.goodEdge_ref r
  constructor
  · rw [(t.takeEdge_only r).tcEq, State.takeEdge, ((t.goodEdge r).watchPhase_loopKept r).ref, edge]
  · rw [State.takeEdge, ((t.goodEdge r).watchPhase_only r).i Obj.refPhaseDiff r]
    exact State.i_setI_self ..

/-- A valid edge leaves the QL code that has been received. -/
theorem State.takeEdge_code (t : State) (r : Nat) :
    ((t.takeEdge r).ref r).rxQl = (t.ref r).rxQl ∧ ((t.takeEdge r).ref r).codeRun = (t.ref r).codeRun := by
  obtain ⟨fit, streak, off, edge⟩ := t.goodEdge_ref r
  rw [State.takeEdge, ((t.goodEdge r).watchPhase_loopKept r).ref, edge]
  exact ⟨rfl, rfl⟩

theorem refEdge_invalid (h : EdgeMet s r) (pulse : refIsPulse r = true) (code : pulseCode w = none) :
    Completes (.refEdge dt r w) s fun t =>
      Counted Obj.refInvalidPulses r 1 s t ∧ bit (t.n Obj.refHistory r) 3 = true ∧ t.ref r = { s.ref r with codeRun := 0 } := by
  refine ⟨_, h.invalid pulse code, ?_, State.setBitN_reads .., ?_⟩
  · have counted : Counted Obj.refInvalidPulses r 1 s
        (((s.tick dt).setRef r { s.ref r with codeRun := 0 }).bump Obj.refInvalidPulses r) := (State.bump_counted ..).from_same rfl
    exact (counted.still (State.raiseLimited_only ..)).still (State.refHist_only ..)
  · have kept (u : State) : LoopKept u (((u.bump Obj.refInvalidPulses r).raiseLimited Ev.refPulseInvalid r r).refHist r 3) :=
      .still (State.refHist_only ..) (.still (State.raiseLimited_only ..) (.still (State.bump_only ..) (.refl u)))
    rw [(kept _).ref, State.ref_setRef]

theorem refEdge_valid (h : EdgeMet s r) (code : refIsPulse r = true → (pulseCode w).isSome = true) :
    Completes (.refEdge dt r w) s fun t =>
      (t.ref r).lastValid = some t.tc ∧ t.i Obj.refPhaseDiff r = (s.tick dt).edgePhase r := by
  cases pulse : refIsPulse r with
  | false => exact ⟨_, h.plain pulse, State.takeEdge_measures ..⟩
  | true =>
    obtain ⟨c, hc⟩ := Option.isSome_iff_exists.1 (code pulse)
    refine ⟨_, h.coded pulse hc, ?_⟩
    rw [← (State.setRef_only ..).edgePhase r, ← (State.refreshQl_only ..).edgePhase r]
    exact State.takeEdge_measures ..

theorem refEdge_thirdCode (h : EdgeMet s r) (pulse : refIsPulse r = true) (hc : pulseCode w = some c) (same : (s.ref r).code = c)
    (run : 2 ≤ (s.ref r).codeRun) :
    Completes (.refEdge dt r w) s fun t => (t.ref r).rxQl = c ∧ (t.ref r).codeRun = (s.ref r).codeRun + 1 := by
  refine ⟨_, h.coded pulse hc, ?_⟩
  obtain ⟨ql, codeRun⟩ := State.takeEdge_code (((s.tick dt).setRef r ((s.ref r).withCode c)).refreshQl r) r
  have input := State.refreshQl_input ((s.tick dt).setRef r ((s.ref r).withCode c)) r
  have counts : ((s.ref r).codeRun != 0 && decide ((s.ref r).code = c)) = true := by
    simp [same]
    omega
  have more : ((s.ref r).withCode c).codeRun = (s.ref r).codeRun + 1 := if_pos counts
  have third : ((s.ref r).withCode c).rxQl = c := if_pos (show 3 ≤ ((s.ref r).withCode c).codeRun by omega)
  rw [ql, codeRun, input.rxQl, input.codeRun, State.ref_setRef]
  exact ⟨third, more⟩

end

/-! ## Loss and return (R339, R340) -/

section
variable {s : State} {dt r : Nat} (awake : s.awake) (small : r ≤ 10)
include awake small

theorem refLost_loses {c : LossCause} (holds : (s.tick dt).causeHolds r c = true) (measured : 2 ≤ s.n Obj.refState r) :
    Completes (.refLost dt r c) s fun t =>
      t.n Obj.refState r = 1 ∧ bit (t.n Obj.refHistory r) 0 = true ∧
        (s.n Obj.refState r = 3 → Counted Obj.refLosses r 1 s t ∧ Raised Ev.refLost r s t) := by
  refine ⟨_, (actIf_next awake (by simp [small, holds]) : execRefLost dt r c s = _), ?_⟩
  extract_lets y u
  have only : Only ⟨[.ws], [Obj.refHistory], []⟩ (s.tick dt) u :=
    .ite (State.refHist_only ..).up (.ite (State.setRef_only ..).up (.refl _ _))
  have state : u.n Obj.refState r = s.n Obj.refState r := only.n Obj.refState r
  have before : Raises [] s u := .still only (.of_objs rfl)
  obtain ⟨lost, history, leaves⟩ := State.loseRef_loses (state ▸ measured)
  refine ⟨lost, history, fun available => ?_⟩
  obtain ⟨counted, raised⟩ := leaves (state.trans available)
  exact ⟨counted.from_same (only.n Obj.refLosses r), raised.before before⟩

theorem refSignalBack_qualifies (lost : s.n Obj.refState r = 1) (back : (s.tick dt).signalBack r = true) :
    Completes (.refSignalBack dt r) s fun t => t.n Obj.refState r = 2 ∧ (t.ref r).qualAt = t.now := by
  refine ⟨_, (actIf_next awake (by simp [small, lost, back]) : execRefSignalBack dt r s = _), State.setRefState_qualifies ?_⟩
  rw [(State.setRef_only ..).n Obj.refState r, State.n_tick, lost]
  decide

theorem refAvailable_restores (qualifying : s.n Obj.refState r = 2)
    (waited : (s.ref r).qualAt + 1000000000 * s.n Obj.refWaitToRestore r ≤ s.now + dt) :
    Completes (.refAvailable dt r) s fun t =>
      t.n Obj.refState r = (if s.n Obj.refQlInForce r = 0 then 4 else 3) ∧
        (s.n Obj.refQlInForce r ≠ 0 → Raised Ev.refAvailable r s t ∧ bit (t.n Obj.refHistory r) 1 = true) := by
  refine ⟨_, (actIf_next awake (by simp [small, qualifying, waited]) : execRefAvailable dt r s = _), State.setRefState_state,
    fun quality => ?_⟩
  have before : Raises [] s (s.tick dt) := .of_objs rfl
  obtain ⟨raised, history⟩ : Raised Ev.refAvailable r (s.tick dt) ((s.tick dt).setRefState r 3) ∧ _ :=
    State.setRefState_becomesAvailable (by rw [State.n_tick, qualifying]; decide)
  rw [State.n_tick, if_neg quality]
  exact ⟨raised.before before, history⟩

end

/-! ## Masters (R341) -/

/-- A PTP reference with a new master, before it is lost for it. -/
def State.follows (s : State) (r : Nat) (masters : List PtpMaster) (m : PtpMaster) : State :=
  let t := (((s.setRef r { s.ref r with masters := masters, master := some m, lastMaster := m.who }).setBy Obj.ptpGmIdentity r
    m.set.grandmaster).setN Obj.ptpClockClass r m.set.clockClass).setN Obj.ptpState r 2
  if (s.ref r).lastMaster.isEmpty || (s.ref r).lastMaster = m.who then t else t.raise Ev.ptpGmChange r

/-- A PTP reference without a master, before it is lost for it. -/
def State.masterless (s : State) (r : Nat) : State :=
  (((s.setRef r { s.ref r with masters := [], master := none }).setN Obj.ptpState r 1).toDefault Obj.ptpGmIdentity r).toDefault
    Obj.ptpClockClass r

section
variable {s : State} {dt r : Nat} {masters : List PtpMaster} {m : PtpMaster}

theorem State.takeMaster_other (best : bestMaster masters = some m)
    (other : ((s.ref r).master.elim false fun o => o.who == m.who) = false) :
    s.takeMaster r masters = (s.follows r masters m).loseRef r := by
  unfold State.takeMaster
  simp only [best, other, Bool.false_eq_true, if_false]
  exact (apply_ite (State.loseRef · r) ..).symm

theorem State.takeMaster_none (s : State) (r : Nat) : s.takeMaster r [] = (s.masterless r).loseRef r := rfl

/-- What a change of master brings to a reference besides: it is lost, and its QL follows. -/
def State.masterMoved (s : State) (r : Nat) : State := (s.loseRef r).refreshQl r

theorem State.masterMoved_only (s : State) (r : Nat) : Only ⟨[.out, .pinned, .ev, .flashJournal, .ws, .diskJournal],
    [Obj.refQlInForce, Obj.eventCount, Obj.eventLastAt, Obj.eventLastSubject, Obj.refHistory, Obj.refState, Obj.refLosses,
      Obj.fpState], [0x40000004, 0x40000008]⟩ s (s.masterMoved r) := (State.refreshQl_only ..).seq (State.loseRef_only ..).up

theorem State.masterMoved_input (s : State) (r : Nat) : InputKept r s (s.masterMoved r) :=
  (State.refreshQl_input ..).seq (s.loseRef_input r)

theorem State.masterMoved_raises (s : State) (r : Nat) : Raises qlEvents s (s.masterMoved r) :=
  (State.refreshQl_raises ..).seq (s.loseRef_raises r).up

theorem State.masterMoved_lost (measured : 2 ≤ s.n Obj.refState r) : (s.masterMoved r).n Obj.refState r = 1 :=
  (State.refreshQl_low (s.loseRef_low r)).trans (State.loseRef_loses measured).1

theorem State.follows_only (s : State) (r : Nat) (masters : List PtpMaster) (m : PtpMaster) :
    Only ⟨[.out, .pinned, .ev, .flashJournal, .ws, .diskJournal], [Obj.ptpGmIdentity, Obj.ptpClockClass, Obj.ptpState,
      Obj.eventCount, Obj.eventLastAt, Obj.eventLastSubject], [0x40000004, 0x40000008]⟩ s (s.follows r masters m) := by
  unfold State.follows
  extract_lets y t
  have h : Only ⟨[.ws], [Obj.ptpGmIdentity, Obj.ptpClockClass, Obj.ptpState], []⟩ s t :=
    (State.setN_only ..).seq ((State.setN_only ..).seq ((State.setBy_only ..).seq (State.setRef_only ..).up))
  exact .ite h.up ((State.raise_only ..).seq h.up)

/-- What the reference shows of the new master. -/
theorem State.follows_reads (s : State) (r : Nat) (masters : List PtpMaster) (m : PtpMaster) :
    (s.follows r masters m).n Obj.ptpState r = 2 ∧ ((s.follows r masters m).ref r).master = some m ∧
      (s.follows r masters m).by Obj.ptpGmIdentity r = m.set.grandmaster ∧
      (s.follows r masters m).n Obj.ptpClockClass r = m.set.clockClass := by
  unfold State.follows
  extract_lets y t
  have shown : t.n Obj.ptpState r = 2 ∧ (t.ref r).master = some m ∧ t.by Obj.ptpGmIdentity r = m.set.grandmaster ∧
      t.n Obj.ptpClockClass r = m.set.clockClass := by
    refine ⟨State.n_setN_self .., congrArg RefPart.master (State.ref_setRef ..), ?_, ?_⟩
    · rw [(State.setN_only ..).by Obj.ptpGmIdentity r, (State.setN_only ..).by Obj.ptpGmIdentity r, State.by_setBy_self]
    · rw [(State.setN_only ..).n Obj.ptpClockClass r, State.n_setN_self]
  split
  · exact shown
  · have raised := t.raise_only Ev.ptpGmChange r
    rw [raised.n Obj.ptpState r, raised.by Obj.ptpGmIdentity r, raised.n Obj.ptpClockClass r,
      (LoopKept.of_ws raised.ws).ref]
    exact shown

/-- A grandmaster that follows another is raised (R341). -/
theorem State.follows_raises (known : (s.ref r).lastMaster ≠ []) (other : (s.ref r).lastMaster ≠ m.who) :
    Raised Ev.ptpGmChange r s (s.follows r masters m) := by
  unfold State.follows
  extract_lets y t
  have before : Raises [] s t := .still (State.setN_only ..) (.still (State.setN_only ..) (.still (State.setBy_only ..)
    (.of_only (State.setRef_only ..))))
  rw [if_neg (by simp [known, other])]
  exact (State.raise_raised ..).before before

variable (awake : s.awake) (ptp : r < 2) (has : 2 ≤ s.n Obj.ptpState r) (late : (s.tick dt).announceLate r = true)
include awake ptp has late

theorem ptpAnnounceTimeout_next {v : State} (take : (s.tick dt).takeMaster r ((s.tick dt).announcing r) = v.loseRef r) :
    exec (.ptpAnnounceTimeout dt r) s = .next (v.masterMoved r) := by
  refine (actIf_next awake (by simp [ptp, has, late]) : execPtpAnnounceTimeout dt r s = _).trans ?_
  rw [take, State.loseRef_again, State.masterMoved]

theorem ptpAnnounceTimeout_changes (best : bestMaster ((s.tick dt).announcing r) = some m)
    (other : ∀ o, (s.ref r).master = some o → o.who ≠ m.who) : Completes (.ptpAnnounceTimeout dt r) s fun t =>
      t.n Obj.ptpState r = 2 ∧ (t.ref r).master = some m ∧ t.by Obj.ptpGmIdentity r = m.set.grandmaster ∧
        t.n Obj.ptpClockClass r = m.set.clockClass ∧ (2 ≤ s.n Obj.refState r → t.n Obj.refState r = 1) ∧
        ((s.ref r).lastMaster ≠ [] → (s.ref r).lastMaster ≠ m.who → Raised Ev.ptpGmChange r s t) := by
  have differs : (((s.tick dt).ref r).master.elim false fun o => o.who == m.who) = false := by
    rw [State.ref_tick]
    cases known : (s.ref r).master with
    | none => rfl
    | some o => exact beq_false_of_ne (other o known)
  let v := (s.tick dt).follows r ((s.tick dt).announcing r) m
  refine ⟨v.masterMoved r, ptpAnnounceTimeout_next awake ptp has late (State.takeMaster_other best differs), ?_⟩
  have moved : Only _ v (v.masterMoved r) := v.masterMoved_only r
  obtain ⟨state, master, identity, clockClass⟩ := (s.tick dt).follows_reads r ((s.tick dt).announcing r) m
  refine ⟨(moved.n Obj.ptpState r).trans state, (v.masterMoved_input r).master.trans master,
    (moved.by Obj.ptpGmIdentity r).trans identity, (moved.n Obj.ptpClockClass r).trans clockClass, fun measured => ?_,
    fun known other => ?_⟩
  · exact State.masterMoved_lost (((State.follows_only ..).n Obj.refState r).symm ▸ measured)
  · have raised : Raised Ev.ptpGmChange r (s.tick dt) v := State.follows_raises known other
    exact (raised.before (l := []) (.of_objs rfl)).after (v.masterMoved_raises r) moved.ptp

theorem ptpAnnounceTimeout_ends (none : (s.tick dt).announcing r = []) : Completes (.ptpAnnounceTimeout dt r) s fun t =>
      t.n Obj.ptpState r = 1 ∧ Objs.val t.objs (adr Obj.ptpGmIdentity r) = objDefault (adr Obj.ptpGmIdentity r) ∧
        Objs.val t.objs (adr Obj.ptpClockClass r) = objDefault (adr Obj.ptpClockClass r) ∧
        (2 ≤ s.n Obj.refState r → t.n Obj.refState r = 1) := by
  let v := (s.tick dt).masterless r
  have take : (s.tick dt).takeMaster r ((s.tick dt).announcing r) = v.loseRef r := by rw [none, State.takeMaster_none]
  refine ⟨v.masterMoved r, ptpAnnounceTimeout_next awake ptp has late take, ?_⟩
  have moved : Only _ v (v.masterMoved r) := v.masterMoved_only r
  have reset : Only ⟨[.ws], [Obj.ptpState, Obj.ptpGmIdentity, Obj.ptpClockClass], []⟩ (s.tick dt) v :=
    (State.toDefault_only ..).seq ((State.toDefault_only ..).seq ((State.setN_only ..).seq (State.setRef_only ..).up))
  refine ⟨(moved.n Obj.ptpState r).trans ?_, (moved.val Obj.ptpGmIdentity r).trans ?_,
    (moved.val Obj.ptpClockClass r).trans (State.val_toDefault ..), fun measured => ?_⟩
  · exact ((State.toDefault_only ..).n Obj.ptpState r).trans
      (((State.toDefault_only ..).n Obj.ptpState r).trans (State.n_setN_self ..))
  · exact ((State.toDefault_only ..).val Obj.ptpGmIdentity r).trans (State.val_toDefault ..)
  · exact State.masterMoved_lost ((reset.n Obj.refState r).symm ▸ measured)

end

/-! ## Frequency (R335, R351, R352) -/

/-- A frequency difference that has been measured. -/
def State.takeFreq (u : State) (p : Nat × Int) : State :=
  let x := u.ref p.1
  let lo := u.ws.y + 1000 * p.2
  (u.setRef p.1 { x with lo := some lo, freqs := (lo :: x.freqs).take 10 }).setI Obj.refFreqDiff p.1 p.2

/-- What reference r shows of its frequency. -/
def State.freqShown (s : State) (r : Nat) : Int × Option Int := (s.i Obj.refFreqDiff r, (s.ref r).lo)

theorem State.takeFreq_shown (s : State) (r : Nat) (d : Int) : (s.takeFreq (r, d)).freqShown r = (d, some (s.ws.y + 1000 * d)) :=
  Prod.ext (State.i_setI_self ..) (congrArg RefPart.lo (State.ref_setRef ..))

theorem State.takeFreq_others (s : State) {r : Nat} {p : Nat × Int} (other : r ≠ p.1) (small : r ≤ 10) (small' : p.1 ≤ 10) :
    (s.takeFreq p).freqShown r = s.freqShown r := by
  refine Prod.ext ?_ (congrArg RefPart.lo (State.ref_setRef_ne _ _ _ _ other))
  exact (State.i_setI ..).trans (if_neg (by omega))

theorem State.foldl_takeFreq_others {l : List (Nat × Int)} (s : State) {r : Nat} (other : r ∉ l.map (·.1)) (small : r ≤ 10)
    (all : ∀ p ∈ l, p.1 ≤ 10) : (l.foldl State.takeFreq s).freqShown r = s.freqShown r := by
  induction l generalizing s with
  | nil => rfl
  | cons p l ih =>
    simp only [List.map_cons, List.mem_cons, not_or] at other
    obtain ⟨first, rest⟩ := List.forall_mem_cons.1 all
    exact (ih _ other.2 rest).trans (s.takeFreq_others other.1 small first)

/-- Each reference of a list without repetition shows what has been measured of it. -/
theorem State.foldl_takeFreq_shown {l : List (Nat × Int)} (s : State) {r : Nat} {d : Int} (single : (l.map (·.1)).Nodup)
    (mem : (r, d) ∈ l) (all : ∀ p ∈ l, p.1 ≤ 10) :
    (l.foldl State.takeFreq s).freqShown r = (d, some (s.ws.y + 1000 * d)) := by
  induction l generalizing s with
  | nil => cases mem
  | cons p l ih =>
    obtain ⟨notMem, single⟩ := List.nodup_cons.1 single
    obtain ⟨first, rest⟩ := List.forall_mem_cons.1 all
    rcases List.mem_cons.1 mem with rfl | mem
    · exact (State.foldl_takeFreq_others _ notMem first rest).trans (s.takeFreq_shown r d)
    · exact ih (s.takeFreq p) single mem rest

/-- The differences of enabled references (R335). -/
def State.freqsOf (s : State) (diffs : List (Nat × Int)) : List (Nat × Int) :=
  diffs.filter fun d => d.1 ≤ 10 && s.b Obj.refEnable d.1

/-- The measurements of a whole second. -/
def State.freqsTaken (s : State) (diffs : List (Nat × Int)) : State :=
  (s.freqsOf diffs).foldl State.takeFreq { s with ws := { s.ws with second := s.tc / tcSec } }

/-- What follows them before the loop learns: pairs that disagree, the phase histogram, and the model's age. -/
def State.secondMet (s : State) : State :=
  let t := s.comparable.foldl State.watchPair s
  (t.onlyIf t.selected.isSome fun u =>
    u.capture Obj.wsPhaseHistogram 0 (Hist.fresh 2 100 (-1500) u.ws.histStart) u.phaseError).ageModel

theorem State.freqsTaken_shown {diffs : List (Nat × Int)} (s : State) {r : Nat} {d : Int} (single : (diffs.map (·.1)).Nodup)
    (mem : (r, d) ∈ diffs) (small : r ≤ 10) (enabled : s.b Obj.refEnable r = true) :
    (s.freqsTaken diffs).freqShown r = (d, some (s.ws.y + 1000 * d)) := by
  refine State.foldl_takeFreq_shown _ (single.sublist (List.filter_sublist.map _)) ?_ fun p hp => ?_
  · exact List.mem_filter.2 ⟨mem, by simp [small, enabled]⟩
  · have := (List.mem_filter.1 hp).2
    simp only [Bool.and_eq_true, decide_eq_true_eq] at this
    exact this.1

theorem State.freqsTaken_n (s : State) (diffs : List (Nat × Int)) {i : Nat} (k : Nat) (h : i ≠ Obj.refFreqDiff := by decide) :
    (s.freqsTaken diffs).n i k = s.n i k :=
  (Only.foldl (r := ⟨[.ws], [Obj.refFreqDiff], []⟩) (fun _ _ => (State.setI_only ..).seq (State.setRef_only ..).up)
    (.refl _ _)).n i k (by decide) (by simpa using h)

theorem State.freqsTaken_runLearned (s : State) (diffs : List (Nat × Int)) :
    (s.freqsTaken diffs).ws.runLearned = s.ws.runLearned :=
  List.foldlRecOn (motive := fun u : State => u.ws.runLearned = s.ws.runLearned) _ _ rfl fun _ h _ _ => h

theorem State.secondMet_only (s : State) : Only ⟨[.out, .pinned, .ev, .flashJournal, .ws, .diskJournal], [Obj.refHistory,
    Obj.wsHistory, Obj.wsPhaseHistogram, Obj.eventCount, Obj.eventLastAt, Obj.eventLastSubject], [0x40000004, 0x40000008]⟩
    s s.secondMet := by
  unfold State.secondMet
  extract_lets t
  have pairs : Only ⟨[.out, .pinned, .ev, .flashJournal, .ws, .diskJournal], [Obj.refHistory, Obj.wsHistory, Obj.eventCount,
      Obj.eventLastAt, Obj.eventLastSubject], [0x40000004, 0x40000008]⟩ s t := .foldl State.watchPair_only (.refl _ s)
  exact (State.ageModel_only _).seq (.ite ((State.capture_only ..).seq pairs.up) pairs.up)

theorem State.secondMet_loopKept (s : State) : LoopKept s s.secondMet := by
  unfold State.secondMet
  extract_lets t
  have pairs : LoopKept s t := .foldl State.watchPair_loopKept
  exact (State.ageModel_loopKept _).seq (.ite (.still (State.capture_only ..) pairs) pairs)

/-- A second of LOCKED teaches the model (R352). -/
theorem State.wsSecond_learns {s : State} (locked : s.n Obj.wsState 0 = 2) :
    s.wsSecond.n Obj.wsHoldoverLearned 0 = min (s.n Obj.wsHoldoverLearned 0 + 1) 0xFFFFFFFF ∧
      s.wsSecond.ws.runLearned = s.ws.runLearned + 1 := by
  unfold State.wsSecond
  extract_lets st tracked w t
  rw [if_pos (show st = 2 from locked)]
  exact ⟨State.n_setN_self .., rfl⟩

section
variable {s : State} {dt r : Nat} {diffs : List (Nat × Int)} {d : Int} (awake : s.awake)
  (whole : (s.tick dt).tc / tcSec ≠ s.ws.second)
include awake whole

theorem refFreqMeasure_next :
    exec (.refFreqMeasure dt diffs) s = .next ((s.tick dt).freqsTaken diffs).secondMet.wsSecond :=
  (actIf_next awake (by simpa using whole) : execRefFreqMeasure dt diffs s = _)

theorem refFreqMeasure_records (single : (diffs.map (·.1)).Nodup) (mem : (r, d) ∈ diffs) (small : r ≤ 10)
    (enabled : s.b Obj.refEnable r = true) :
    Completes (.refFreqMeasure dt diffs) s fun t => t.i Obj.refFreqDiff r = d ∧ (t.ref r).lo = some (s.ws.y + 1000 * d) := by
  refine ⟨_, refFreqMeasure_next awake whole, ?_⟩
  have shown := (s.tick dt).freqsTaken_shown single mem small enabled
  constructor
  · rw [(State.wsSecond_only _).i Obj.refFreqDiff r, (State.secondMet_only _).i Obj.refFreqDiff r]
    exact congrArg Prod.fst shown
  · rw [State.ref_wsSecond, (State.secondMet_loopKept _).ref r]
    exact congrArg Prod.snd shown

theorem refFreqMeasure_learns (locked : s.n Obj.wsState 0 = 2) : Completes (.refFreqMeasure dt diffs) s fun t =>
    t.n Obj.wsHoldoverLearned 0 = min (s.n Obj.wsHoldoverLearned 0 + 1) 0xFFFFFFFF ∧ t.ws.runLearned = s.ws.runLearned + 1 := by
  refine ⟨_, refFreqMeasure_next awake whole, ?_⟩
  have met (i : Nat) (h : i ≠ Obj.refFreqDiff := by decide) (h' : i ∉ [Obj.refHistory, Obj.wsHistory, Obj.wsPhaseHistogram,
      Obj.eventCount, Obj.eventLastAt, Obj.eventLastSubject] := by decide) :
      ((s.tick dt).freqsTaken diffs).secondMet.n i 0 = s.n i 0 :=
    ((State.secondMet_only _).n i 0 (by decide) h').trans ((s.tick dt).freqsTaken_n diffs 0 h)
  obtain ⟨learned, run⟩ := State.wsSecond_learns ((met Obj.wsState).trans locked)
  rw [met Obj.wsHoldoverLearned] at learned
  rw [(State.secondMet_loopKept _).runLearned, (s.tick dt).freqsTaken_runLearned] at run
  exact ⟨learned, run⟩

end

/-! ## The statement -/

/-- Settles O40: each command moves its reference as its clause says, and the frame pulses, the QL and the loop that follow leave
what it shows of its state, its input and its frequency. -/
theorem referencesFollow : Obligations.ReferencesFollow := by
  unfold Obligations.ReferencesFollow
  refine ⟨?_, ?_, ?_, ?_, ?_, ?_, ?_, ?_, ?_, ?_⟩
  · exact fun s dt r w awake pulse enabled periodic code => refEdge_invalid (.of_pulse awake pulse enabled periodic) pulse code
  · exact fun s dt r w awake low high enabled periodic code => refEdge_valid ⟨awake, low, high, enabled, periodic⟩ code
  · exact fun s dt r w c awake pulse enabled periodic code same run =>
      refEdge_thirdCode (.of_pulse awake pulse enabled periodic) pulse code same run
  · exact fun s dt r c awake small holds measured => refLost_loses awake small holds measured
  · exact fun s dt r awake small lost back => refSignalBack_qualifies awake small lost back
  · exact fun s dt r awake small qualifying waited => refAvailable_restores awake small qualifying waited
  · exact fun s dt r b awake ptp has late best other => ptpAnnounceTimeout_changes awake ptp has late best other
  · exact fun s dt r awake ptp has late none => ptpAnnounceTimeout_ends awake ptp has late none
  · exact fun s dt diffs r d awake whole single mem small enabled => refFreqMeasure_records awake whole single mem small enabled
  · exact fun s dt diffs awake whole locked => refFreqMeasure_learns awake whole locked

end Sys2Proof.Machine
end

section
/-!
SUPPORT. Steps of the loop and of the counter, and the triggers of Watershed (R331, R345 to R351, R464).
-/
namespace Sys2Proof.Machine
set_option Elab.async false

/-! ## The correction and the state of the loop -/

theorem limitY_bounds (y : Int) : -100000000000000 ≤ limitY y ∧ limitY y ≤ 100000000000000 := clampInt_bounds y (by decide)

/-- The limit takes a correction towards 0. -/
theorem limitY_natAbs_le (y : Int) : (limitY y).natAbs ≤ y.natAbs := by
  unfold limitY clampInt
  split_ifs <;> omega

/-- The correction shown is within ±100 ppm (R331). -/
theorem State.setY_bounded (s : State) (y slope : Int) : ((s.setY y slope).i Obj.wsFreqCorrection 0).natAbs ≤ 100000000000 := by
  rw [State.setY, State.i_setI_self]
  have := limitY_bounds y
  omega

theorem State.enterWs_state (s : State) (st : Nat) : (s.enterWs st).n Obj.wsState 0 = st := by
  unfold State.enterWs
  extract_lets old t1 t2 n mean w u
  have h2 : t2.n Obj.wsState 0 = st := by
    have set : t1.n Obj.wsState 0 = st := State.n_setN_self ..
    refine (apply_ite (fun u : State => u.n Obj.wsState 0) ..).trans ?_
    rw [(State.wsHist_only ..).n Obj.wsState 0, set, ite_self]
  split
  · next h => exact h
  · split
    · rw [(State.raise_only ..).n Obj.wsState 0, (State.wsHist_only ..).n Obj.wsState 0, h2]
    · rw [(State.raise_only ..).n Obj.wsState 0, (State.startPull_only _).n Obj.wsState 0, h2]
    · rw [(State.raise_only ..).n Obj.wsState 0, h2]
    · rw [(State.raise_only ..).n Obj.wsState 0, (State.wsHist_only ..).n Obj.wsState 0, (State.setY_only ..).n Obj.wsState 0]
      exact h2

/-- A loop that acquires is LOCKED (R345). -/
theorem State.enterWs_locks {s : State} (acquiring : s.n Obj.wsState 0 = 1) :
    Raised Ev.wsLocked (s.selected.getD 0) s (s.enterWs 2) := by
  have unlocked : ¬ s.n Obj.wsState 0 = 2 := by omega
  have same : (s.setN Obj.wsState 0 2).selected = s.selected := by
    rw [State.selected, (State.setN_only ..).n Obj.wsSelectedRef 0, State.selected]
  have enters : s.enterWs 2 = (s.setN Obj.wsState 0 2).raise Ev.wsLocked (s.selected.getD 0) := by
    rw [State.enterWs, if_neg unlocked]
    simp only [if_neg unlocked, same]
  rw [enters]
  exact (State.raise_raised ..).before (l := []) (.of_only (State.setN_only ..))

/-- How a loop comes to hold over (R351). -/
theorem State.enterWs_holdover {s : State} (h : s.n Obj.wsState 0 ≠ 3) : ∃ u mean, u.ws.heldSince = s.now ∧ Raises [] s u ∧
    s.enterWs 3 = ((u.setY mean 0).wsHist 1).raise Ev.wsHoldover 0 := by
  unfold State.enterWs
  extract_lets old t1 t2 n mean w u
  have now : t2.now = s.now := (apply_ite State.now ..).trans (by rw [(State.wsHist_only ..).same .now]; exact ite_self _)
  have set : Raises [] s t1 := .of_only (State.setN_only ..)
  have left : Raises [] s t2 := .ite (.still (State.wsHist_only ..) set) set
  exact ⟨u, mean, now, .seq (a := []) (t := t2) (.of_objs rfl) left, if_neg h⟩

/-- A loop that holds over says since when, and raises it. -/
theorem State.enterWs_holds {s : State} (h : s.n Obj.wsState 0 ≠ 3) :
    (s.enterWs 3).ws.heldSince = s.now ∧ bit ((s.enterWs 3).n Obj.wsHistory 0) 1 = true ∧
      Raised Ev.wsHoldover 0 s (s.enterWs 3) := by
  obtain ⟨u, mean, since, before, enters⟩ := State.enterWs_holdover h
  rw [enters]
  refine ⟨?_, ?_, (State.raise_raised ..).before (.still (State.wsHist_only ..) (.still (State.setY_only ..) before))⟩
  · rw [(State.raise_only ..).ws, (State.wsHist_only ..).ws]
    exact since
  · rw [(State.raise_only ..).n Obj.wsHistory 0]
    exact State.setBitN_reads ..

/-! ## Steps of the counter (R348, R350) -/

/-- The counter steps, and the step is raised. -/
theorem State.stepCounter_steps (s : State) (d : Int) : ∃ u, u.tc = ((s.tc : Int) + tcNs * d).toNat ∧
    u.ws.selectedOnce = s.ws.selectedOnce ∧ Raises [] s u ∧ s.stepCounter d = u.raise Ev.timeStep 0 := by
  unfold State.stepCounter
  extract_lets t1 w1 w2 t2 t3
  have phases : Only ⟨[], [Obj.refPhaseDiff], []⟩ t2 t3 := .foldl (fun u r => .ite (State.setI_only ..) (.refl _ u)) (.refl _ t2)
  have history := t3.wsHist_only 4
  refine ⟨t3.wsHist 4, ?_, ?_, .still history (.still phases (.of_objs rfl)), rfl⟩
  · rw [history.tcEq, phases.tcEq]
  · rw [history.ws, phases.ws]
    rfl

theorem State.stepCounter_selectedOnce (s : State) (d : Int) : (s.stepCounter d).ws.selectedOnce = s.ws.selectedOnce := by
  obtain ⟨u, -, once, -, steps⟩ := s.stepCounter_steps d
  rw [steps, (State.raise_only ..).ws, once]

theorem State.stepCounter_raised (s : State) (d : Int) : Raised Ev.timeStep 0 s (s.stepCounter d) := by
  obtain ⟨u, -, -, before, steps⟩ := s.stepCounter_steps d
  rw [steps]
  exact (State.raise_raised ..).before before

theorem State.stepCounter_tc (s : State) (d : Int) : (s.stepCounter d).tc = ((s.tc : Int) + tcNs * d).toNat := by
  obtain ⟨u, stepped, -, -, steps⟩ := s.stepCounter_steps d
  rw [steps, State.tc_raise, stepped]

/-! ## Selection (R345, R347, R348) -/

/-- A reference that is selected anew is shown, counted and raised. -/
def State.switched (s : State) (r : Nat) : State :=
  (((s.setN Obj.wsSelectedRef 0 r).bump Obj.wsRefSwitches 0).wsHist 2).raise Ev.wsRefSwitch r

theorem State.switched_reads (s : State) (r : Nat) :
    (s.switched r).n Obj.wsSelectedRef 0 = r ∧ Counted Obj.wsRefSwitches 0 1 s (s.switched r) := by
  have counted : Counted Obj.wsRefSwitches 0 1 s ((s.setN Obj.wsSelectedRef 0 r).bump Obj.wsRefSwitches 0) :=
    (State.bump_counted ..).from_same ((State.setN_only ..).n Obj.wsRefSwitches 0)
  refine ⟨?_, (counted.still (State.wsHist_only ..)).still (State.raise_only ..)⟩
  unfold State.switched
  rw [(State.raise_only ..).n Obj.wsSelectedRef 0, (State.wsHist_only ..).n Obj.wsSelectedRef 0,
    (State.bump_only ..).n Obj.wsSelectedRef 0, State.n_setN_self]

/-- What a selection does beside it: perhaps a step of the counter, and a pull. -/
theorem State.select_beside (s : State) (r : Nat) {i : Nat} (k : Nat) (h : i ∉ [Obj.eventCount, Obj.eventLastAt,
    Obj.eventLastSubject, Obj.wsHistory, Obj.refPhaseDiff, Obj.wsState, Obj.wsFreqCorrection] := by decide) :
    (s.select r).n i k = (if s.n Obj.wsSelectedRef 0 != r then s.switched r else s).n i k := by
  simp only [List.mem_cons, List.not_mem_nil, or_false, not_or] at h
  unfold State.select
  extract_lets changed t1 x excess step w t2 t3
  have stepped : t3.n i k = t1.n i k := by
    refine (apply_ite (fun u : State => u.n i k) ..).trans ?_
    rw [(State.stepCounter_only ..).n i k (by decide) (by simp [h])]
    exact ite_self _
  split
  · rw [(State.startPull_only _).n i k (by decide) List.not_mem_nil,
      (State.enterWs_only ..).n i k (by decide) (by simp [h]), stepped]
    rfl
  · exact stepped

theorem State.select_once (s : State) (r : Nat) : (s.select r).ws.selectedOnce = true := by
  unfold State.select
  extract_lets changed t1 x excess step w t2 t3
  have once : t3.ws.selectedOnce = true := by
    refine (apply_ite (fun u : State => u.ws.selectedOnce) ..).trans ?_
    rw [State.stepCounter_selectedOnce]
    exact ite_self _
  split
  · exact ((State.startPull_loopKept _).seq (t3.enterWs_loopKept 1)).selectedOnce.trans once
  · exact once

/-- A new choice is acquired. -/
theorem State.select_acquires {s : State} {r : Nat} (other : s.n Obj.wsSelectedRef 0 ≠ r) : (s.select r).n Obj.wsState 0 = 1 := by
  unfold State.select
  extract_lets changed t1 x excess step w t2 t3
  have new : changed = true := bne_iff_ne.2 other
  simp only [new, Bool.true_or, if_true]
  rw [(State.startPull_only _).n Obj.wsState 0, State.enterWs_state]

/-- What a selection shows. -/
theorem State.select_selects (s : State) (r : Nat) : (s.select r).n Obj.wsSelectedRef 0 = r ∧
    (s.n Obj.wsSelectedRef 0 ≠ r → Counted Obj.wsRefSwitches 0 1 s (s.select r)) := by
  obtain ⟨shown, counted⟩ := s.switched_reads r
  have selected := s.select_beside r (i := Obj.wsSelectedRef) 0
  have switches := s.select_beside r (i := Obj.wsRefSwitches) 0
  by_cases same : s.n Obj.wsSelectedRef 0 = r
  · rw [if_neg (by simp [same])] at selected
    exact ⟨selected.trans same, fun other => absurd same other⟩
  · rw [if_pos (bne_iff_ne.2 same)] at selected switches
    exact ⟨selected.trans shown, fun _ => switches.trans counted⟩

/-- An acquiring loop goes on to acquire at a new phase difference. -/
theorem State.watchPhase_acquiring {s : State} (r : Nat) (acquiring : s.n Obj.wsState 0 = 1) :
    (s.watchPhase r).n Obj.wsState 0 = 1 := by
  unfold State.watchPhase
  extract_lets x near passed tracking w t
  rw [if_neg (show ¬ s.n Obj.wsState 0 = 2 by omega), if_pos acquiring]
  split
  · exact acquiring
  · split
    · rw [(State.setY_only ..).n Obj.wsState 0]
      exact acquiring
    · exact acquiring

/-- A pull is a new correction of the loop that has met the phase difference. -/
theorem State.pull_corrects (s : State) (r : Nat) : ∃ y slope, s.pull r = (s.watchPhase r).setY y slope := by
  unfold State.pull
  extract_lets t x f slope
  split
  · split
    · exact ⟨_, _, rfl⟩
    · exact ⟨_, _, rfl⟩
  · exact ⟨_, _, rfl⟩

/-! ## Triggers (R350, R352, R464) -/

/-- A write of a write-only object acts on the state of its time with other sessions, and is answered. -/
theorem Acts.triggered {s : State} {dt : Nat} {m : Msg} {x : Session} {i k : Nat} {value : List Byte} {v : Val} {r : Row}
    {p : Reach} (h : Acts s dt m x i k value v) (row : dictRow i k = some r) (access : r.access = .wo)
    (commit : r.commit = .immediate) (own : i ∉ ownObjs) (reach : ∀ u : State, Only p u (u.trigger i k v))
    (sessions : Part.sessions ∉ p.parts := by decide) :
    ∃ t l, act dt s (fun t => t.writeRow m i k value) = .next t ∧
      Only loggedAnswerReach (((s.tick dt).withSessions l).trigger i k v) t ∧
      answerOf m x 0x11 0 (.write (s.tick dt).ptp) ∈ t.out := by
  obtain ⟨⟨small, ready, dict, stands⟩, alone⟩ := h
  obtain ⟨u, z, begun, role, -, e⟩ := ready.message dt
  refine ⟨(s.tick dt).message m (.write i k value), u.il.sessions, act_next ready.awake, ?_⟩
  have decided := begun.writeItem small (role.symm ▸ dict) stands own row
  rw [commit, State.classWrite_immediate (begun.mirrors ▸ alone), begun.ptp] at decided
  have acts : u.applyNow (adr i k) v = u.trigger i k v := by
    rw [State.applyNow, dictRow_adr small, row, adrIndex_adr, adrSub_adr small, Option.elim_some, access]
    rfl
  rw [acts] at decided
  have logged : Only ⟨[.tw], [], []⟩ (u.trigger i k v) _ := State.logWrite_only _ (adr i k) v 0
  have done := (begun.answerable.after (reach u) sessions).after logged
  rw [e, State.perform, State.writeFor_accepted decided rfl, State.finish_none]
  have answered := done.respond_only m.seq 0x11 0 0 (.write (s.tick dt).ptp)
  exact ⟨begun.same ▸ answered.seq (logged.up (b := loggedAnswerReach)), done.answers ..⟩

end Sys2Proof.Machine
end

section
/-!
PROOFS. The clock loop: selection, lock, holdover, oscillator faults and time set (R329, R331, R342 to R353, R359).
-/
namespace Sys2Proof.Machine
set_option Elab.async false

/-! ## Evaluations (R342, R343) -/

/-- An evaluation has been counted. -/
def State.evaluated (s : State) : State := { s with ws := { s.ws with evalIndex := s.evalIndex } }

/-- Mode 3 chooses no reference (R342). -/
theorem State.choice_freeRun {s : State} (mode : s.n Obj.wsMode 0 = 3) : s.choice = none := by
  rw [State.choice, mode]
  rfl

theorem towardsZero_natAbs_le (y : Int) {k : Int} (h : 0 ≤ k) :
    (if y.natAbs ≤ k.natAbs then 0 else if 0 < y then y - k else y + k).natAbs ≤ y.natAbs := by
  split_ifs <;> omega

section
variable {s : State} {dt r : Nat} (awake : s.awake) (due : (s.tick dt).evalIndex ≠ s.ws.evalIndex)
include awake due

theorem wsEvaluation_selects (choice : (s.tick dt).choice = some r) :
    exec (.wsEvaluation dt) s = .next (((s.tick dt).evaluated.select r).pull r) := by
  refine (actIf_next awake (bne_iff_ne.2 due) : execWsEvaluation dt s = _).trans (congrArg _ ?_)
  extract_lets steps w t
  split
  · next k chosen =>
    obtain rfl : k = r := Option.some.inj (chosen.symm.trans choice)
    rfl
  · next chosen => cases chosen.symm.trans choice

theorem wsEvaluation_holds (choice : (s.tick dt).choice = none) (mode : s.n Obj.wsMode 0 ≠ 3)
    (runs : s.n Obj.wsState 0 = 1 ∨ s.n Obj.wsState 0 = 2) :
    exec (.wsEvaluation dt) s = .next (((s.tick dt).evaluated.toDefault Obj.wsSelectedRef 0).enterWs 3) := by
  refine (actIf_next awake (bne_iff_ne.2 due) : execWsEvaluation dt s = _).trans (congrArg _ ?_)
  extract_lets steps w t st t' y move y2
  split
  · next k chosen => cases chosen.symm.trans choice
  · have other : ¬ t'.n Obj.wsMode 0 = 3 := by
      rw [(State.toDefault_only ..).n Obj.wsMode 0]
      exact mode
    have running : (decide (st = 1) || decide (st = 2)) = true := by
      rcases runs with acquiring | locked
      · exact Bool.or_eq_true_iff.2 (.inl (decide_eq_true acquiring))
      · exact Bool.or_eq_true_iff.2 (.inr (decide_eq_true locked))
    rw [if_neg other, if_pos running]
    rfl

/-- Free run moves the frequency towards that of the oscillator. -/
theorem wsEvaluation_freeRuns (mode : s.n Obj.wsMode 0 = 3) : ∃ y : Int, y.natAbs ≤ s.ws.y.natAbs ∧
    exec (.wsEvaluation dt) s = .next ((((s.tick dt).evaluated.toDefault Obj.wsSelectedRef 0).enterWs 0).setY y 0) := by
  have moves := towardsZero_natAbs_le s.ws.y
    (k := 1000000000 * (((s.tick dt).evalIndex - s.ws.evalIndex : Nat) : Int)) (by omega)
  refine ⟨_, moves, (actIf_next awake (bne_iff_ne.2 due) : execWsEvaluation dt s = _).trans (congrArg _ ?_)⟩
  extract_lets steps w t st t' y move y2
  split
  · next k chosen => cases chosen.symm.trans (State.choice_freeRun mode : (s.tick dt).choice = none)
  · have free : t'.n Obj.wsMode 0 = 3 := by
      rw [(State.toDefault_only ..).n Obj.wsMode 0]
      exact mode
    exact if_pos free

theorem wsEvaluation_chooses (choice : (s.tick dt).choice = some r) : Completes (.wsEvaluation dt) s fun t =>
    t.n Obj.wsSelectedRef 0 = r ∧ (t.i Obj.wsFreqCorrection 0).natAbs ≤ 100000000000 ∧ t.ws.selectedOnce = true ∧
      (s.n Obj.wsSelectedRef 0 ≠ r → Counted Obj.wsRefSwitches 0 1 s t ∧ t.n Obj.wsState 0 = 1) := by
  refine ⟨_, wsEvaluation_selects awake due choice, ?_⟩
  obtain ⟨selected, counted⟩ := (s.tick dt).evaluated.select_selects r
  have once := (s.tick dt).evaluated.select_once r
  have acquires := State.select_acquires (s := (s.tick dt).evaluated) (r := r)
  generalize (s.tick dt).evaluated.select r = u at selected counted once acquires ⊢
  have pulled := u.pull_only r
  obtain ⟨y, slope, corrects⟩ := u.pull_corrects r
  refine ⟨(pulled.n Obj.wsSelectedRef 0).trans selected, ?_, ?_, fun other => ⟨(counted other).still pulled, ?_⟩⟩
  · rw [corrects]
    exact State.setY_bounded ..
  · rw [corrects, (State.setY_loopKept ..).selectedOnce, (u.watchPhase_loopKept r).selectedOnce, once]
  · rw [corrects, (State.setY_only ..).n Obj.wsState 0, State.watchPhase_acquiring r (acquires other)]

theorem wsEvaluation_holdsOver (choice : (s.tick dt).choice = none) (mode : s.n Obj.wsMode 0 ≠ 3)
    (runs : s.n Obj.wsState 0 = 1 ∨ s.n Obj.wsState 0 = 2) : Completes (.wsEvaluation dt) s fun t =>
      t.n Obj.wsState 0 = 3 ∧ t.ws.heldSince = t.now ∧ bit (t.n Obj.wsHistory 0) 1 = true ∧ Raised Ev.wsHoldover 0 s t ∧
        Objs.val t.objs (adr Obj.wsSelectedRef 0) = objDefault (adr Obj.wsSelectedRef 0) := by
  refine ⟨_, wsEvaluation_holds awake due choice mode runs, ?_⟩
  have unselected := (s.tick dt).evaluated.toDefault_only Obj.wsSelectedRef 0
  have default := (s.tick dt).evaluated.val_toDefault Obj.wsSelectedRef 0
  have state : ((s.tick dt).evaluated.toDefault Obj.wsSelectedRef 0).n Obj.wsState 0 = s.n Obj.wsState 0 :=
    unselected.n Obj.wsState 0
  have before : Raises [] s ((s.tick dt).evaluated.toDefault Obj.wsSelectedRef 0) := .still unselected (.of_objs rfl)
  generalize (s.tick dt).evaluated.toDefault Obj.wsSelectedRef 0 = u at default state before ⊢
  obtain ⟨since, history, raised⟩ := State.enterWs_holds (s := u) (by omega)
  have entered := u.enterWs_only 3
  exact ⟨State.enterWs_state .., since.trans (entered.same .now).symm, history, raised.before before,
    (entered.val Obj.wsSelectedRef 0).trans default⟩

theorem wsEvaluation_returns (mode : s.n Obj.wsMode 0 = 3) : Completes (.wsEvaluation dt) s fun t =>
    t.n Obj.wsState 0 = 0 ∧ t.ws.y.natAbs ≤ s.ws.y.natAbs ∧ t.i Obj.wsFreqCorrection 0 = t.ws.y / 1000 := by
  obtain ⟨y, towards, next⟩ := wsEvaluation_freeRuns awake due mode
  refine ⟨_, next, ?_, (limitY_natAbs_le y).trans towards, State.i_setI_self ..⟩
  rw [(State.setY_only ..).n Obj.wsState 0, State.enterWs_state]

end

section
variable {s : State} {dt : Nat}

/-- 10 s within 100 ns lock the loop (R345). -/
theorem wsLocked_locks {a : Nat} (awake : s.awake) (acquiring : s.n Obj.wsState 0 = 1) (near : s.phaseError.natAbs ≤ 100)
    (since : s.ws.lockSince = some a) (waited : a + 10000000000 ≤ s.now + dt) :
    Completes (.wsLocked dt) s fun t => t.n Obj.wsState 0 = 2 ∧ Raised Ev.wsLocked (s.selected.getD 0) s t := by
  have state : (s.tick dt).n Obj.wsState 0 = 1 := acquiring
  have phase : (s.tick dt).phaseError.natAbs ≤ 100 := near
  have held : ((s.tick dt).ws.lockSince.elim false fun a => decide (a + 10000000000 ≤ (s.tick dt).now)) = true := by
    rw [show (s.tick dt).ws.lockSince = some a from since, Option.elim_some]
    exact decide_eq_true waited
  have due := Bool.and_eq_true_iff.2 ⟨Bool.and_eq_true_iff.2 ⟨beq_iff_eq.2 state, decide_eq_true phase⟩, held⟩
  refine ⟨_, (actIf_next awake due : execWsLocked dt s = _), State.enterWs_state .., ?_⟩
  have locks := State.enterWs_locks state
  exact locks.before (l := []) (.of_objs rfl)

/-! ## The oscillator (R329) -/

theorem State.setReason_reads (s : State) (k : Nat) (v : Bool) : bit ((s.setReason k v).n Obj.healthReasons 0) k = v := by
  unfold State.setReason
  extract_lets old t1 new t2
  have set : bit (t2.n Obj.healthReasons 0) k = v := by
    rw [(State.setN_only ..).n Obj.healthReasons 0]
    exact State.setBitN_reads ..
  split
  · exact set
  · rw [(State.raise_only ..).n Obj.healthReasons 0]
    exact set

theorem State.setReason_raises (s : State) (k : Nat) (v : Bool) : Raises [Ev.healthChange] s (s.setReason k v) := by
  unfold State.setReason
  extract_lets old t1 new t2
  have h2 : Raises [Ev.healthChange] s t2 := .still (State.setN_only ..) (.of_only (State.setBitN_only ..))
  exact .ite h2 ((State.raise_raises ..).seq h2)

/-- The holdover model is discarded. -/
theorem State.dropModel_drops (s : State) : s.dropModel.ws.ready = false ∧ s.dropModel.st.model = none ∧
    s.dropModel.n Obj.wsHoldoverLearned 0 = 0 := ⟨rfl, rfl, State.n_setN_self ..⟩

theorem loFault_begins {missing : Nat} {ppm : Int} (awake : s.awake) (well : s.n Obj.wsLoState 0 = 0)
    (bad : 4 ≤ missing ∨ 200 < ppm.natAbs) : Completes (.loFault dt missing ppm) s fun t =>
      t.n Obj.wsLoState 0 = 1 ∧ t.ws.ready = false ∧ t.st.model = none ∧ t.n Obj.wsHoldoverLearned 0 = 0 ∧
        bit (t.n Obj.healthReasons 0) 6 = true ∧ Raised Ev.loFault 0 s t := by
  refine ⟨_, (actIf_next awake (by simpa using bad) : execLoFault dt missing ppm s = _), ?_⟩
  extract_lets w u
  rw [if_pos (show (s.tick dt).n Obj.wsLoState 0 = 0 from well)]
  obtain ⟨unready, none, learned⟩ := (u.setN Obj.wsLoState 0 1).dropModel_drops
  have dropped := (u.setN Obj.wsLoState 0 1).dropModel_only
  have state : (u.setN Obj.wsLoState 0 1).dropModel.n Obj.wsLoState 0 = 1 :=
    (dropped.n Obj.wsLoState 0).trans (State.n_setN_self ..)
  have before : Raises [] s (u.setN Obj.wsLoState 0 1).dropModel := .still dropped (.still (State.setN_only ..) (.of_objs rfl))
  generalize (u.setN Obj.wsLoState 0 1).dropModel = v at unready none learned state before ⊢
  have after : Only ⟨[.out, .pinned, .ev, .flashJournal, .diskJournal], [Obj.healthReasons, Obj.healthState, Obj.wsHistory,
      Obj.eventCount, Obj.eventLastAt, Obj.eventLastSubject], [0x40000004, 0x40000008]⟩ v
      (((v.wsHist 5).raise Ev.loFault 0).setReason 6 true) :=
    (State.setReason_only ..).seq ((State.raise_only ..).seq (State.wsHist_only ..).up)
  refine ⟨(after.n Obj.wsLoState 0).trans state, (congrArg Ws.ready after.ws).trans unready, ?_,
    (after.n Obj.wsHoldoverLearned 0).trans learned, State.setReason_reads .., ?_⟩
  · have store : _ = v.st := after.same .st
    rw [store, none]
  · exact ((State.raise_raised ..).before (.still (State.wsHist_only ..) before)).after (State.setReason_raises ..)
      (State.setReason_only ..).ptp

theorem loRestored_ends (awake : s.awake) (faulty : s.n Obj.wsLoState 0 = 1) (waited : s.ws.loBadAt + 1000000000 ≤ s.now + dt) :
    Completes (.loRestored dt) s fun t =>
      t.n Obj.wsLoState 0 = 0 ∧ bit (t.n Obj.healthReasons 0) 6 = false ∧ Raised Ev.loRestored 0 s t := by
  refine ⟨_, (actIf_next awake (by simp [faulty, waited]) : execLoRestored dt s = _), ?_, State.setReason_reads .., ?_⟩
  · rw [(State.setReason_only ..).n Obj.wsLoState 0, (State.raise_only ..).n Obj.wsLoState 0, State.n_setN_self]
  · have before : Raises [] s ((s.tick dt).setN Obj.wsLoState 0 0) := .still (State.setN_only ..) (.of_objs (t := s.tick dt) rfl)
    exact ((State.raise_raised ..).before before).after (State.setReason_raises ..) (State.setReason_only ..).ptp

/-! ## Time set (R350) -/

theorem wsTimeSet_steps {m : Msg} {x : Session} {value : List Byte} {ns : Nat} (h : Acts s dt m x Obj.wsTimeSet 0 value (.num ns)) :
    Completes (.wsTimeSet dt m value) s fun t =>
      t.tc = (((s.tick dt).tc : Int) + 65536 * ((ns : Int) - (s.tick dt).ptp)).toNat ∧ Raised Ev.timeStep 0 s t ∧
        answerOf m x 0x11 0 (.write (s.tick dt).ptp) ∈ t.out := by
  have row : dictRow Obj.wsTimeSet 0 = some ⟨0x1409, 0, 0, .ptptime, .wo, 2, .immediate, .num 0, .any⟩ := by decide +kernel
  obtain ⟨t, l, next, after, answered⟩ := h.triggered row rfl rfl (by decide) fun u => u.timeSet_only ns
  let u := (s.tick dt).withSessions l
  have after : Only loggedAnswerReach (u.timeSet ns) t := after
  have raised : Raised Ev.timeStep 0 u (u.timeSet ns) := u.stepCounter_raised _
  have before : Raises [] s u := .of_objs rfl
  exact ⟨t, next, after.tcEq.trans (u.stepCounter_tc _), (raised.before before).after (l := []) (.of_only after) after.ptp,
    answered⟩

end

/-! ## The statement -/

/-- Settles O41: an evaluation selects and pulls, holds over, or returns to free run, and each of these shows in what its clause
names; the oscillator's fault drops the model before its events; a time set is the step of the counter. -/
theorem clockDisciplined : Obligations.ClockDisciplined := by
  unfold Obligations.ClockDisciplined
  refine ⟨?_, ?_, ?_, ?_, ?_, ?_, ?_⟩
  · exact fun s dt r awake due choice => wsEvaluation_chooses awake due choice
  · exact fun s dt awake due choice mode runs => wsEvaluation_holdsOver awake due choice mode runs
  · exact fun s dt awake due mode => wsEvaluation_returns awake due mode
  · exact fun s dt a awake acquiring near since waited => wsLocked_locks awake acquiring near since waited
  · exact fun s dt missing ppm awake well bad => loFault_begins awake well bad
  · exact fun s dt awake faulty waited => loRestored_ends awake faulty waited
  · exact fun s dt m x value ns h => wsTimeSet_steps h

end Sys2Proof.Machine
end

section
/-!
PROOFS. The holdover model, its expiry and reset, and frame pulses (R352, R354, R356, R357, R359).
-/
namespace Sys2Proof.Machine
set_option Elab.async false

section
variable {s : State} {dt : Nat}

/-! ## The holdover model (R352, R354) -/

theorem holdoverReady_readies (awake : s.awake) (unready : s.ws.ready = false)
    (learned : if s.ws.wasReady = true then 3600 ≤ s.ws.runLearned else 172800 ≤ s.n Obj.wsHoldoverLearned 0) :
    Completes (.holdoverReady dt) s fun t => t.ws.ready = true ∧ Raised Ev.holdoverReady 0 s t := by
  have enough : (if (s.tick dt).ws.wasReady then decide (3600 ≤ (s.tick dt).ws.runLearned)
      else decide (172800 ≤ (s.tick dt).n Obj.wsHoldoverLearned 0)) = true := by
    split
    · next was =>
      rw [if_pos (show s.ws.wasReady = true from was)] at learned
      exact decide_eq_true learned
    · next was =>
      rw [if_neg (show ¬ s.ws.wasReady = true from was)] at learned
      exact decide_eq_true learned
  have notYet : (!(s.tick dt).ws.ready) = true := Bool.not_eq_true' _ ▸ unready
  refine ⟨_, (actIf_next awake (Bool.and_eq_true_iff.2 ⟨notYet, enough⟩) : execHoldoverReady dt s = _), ?_, ?_⟩
  · rw [(State.raise_only ..).ws]
  · exact (State.raise_raised ..).before (l := []) (.of_objs rfl)

theorem holdoverModelSave_saves (on : s.on) (learned : s.n Obj.wsHoldoverLearned 0 ≠ 0)
    (hour : s.ws.savedAt + 3600000000000 ≤ s.now + dt) : Completes (.holdoverModelSave dt) s fun t =>
      t.ws.savedAt = t.now ∧ t.st.model = some ⟨s.n Obj.wsHoldoverLearned 0, s.ws.ready, s.ws.model⟩ := by
  have hour : (s.tick dt).ws.savedAt + 3600000000000 ≤ (s.tick dt).now := hour
  have due := Bool.and_eq_true_iff.2 ⟨Bool.and_eq_true_iff.2 ⟨(s.live_tick dt).trans on.2,
    bne_iff_ne.2 ((s.n_tick dt ..).symm ▸ learned)⟩, decide_eq_true hour⟩
  exact ⟨_, (actIf_next on.1 due : execHoldoverModelSave dt s = _), rfl, rfl⟩

theorem holdoverExpired_expires (awake : s.awake) (holding : s.n Obj.wsState 0 = 3) (once : s.ws.expired = false)
    (limit : s.n Obj.wsHoldoverLimit 0 ≤ (s.tick dt).heldFor) : Completes (.holdoverExpired dt) s fun t =>
      t.ws.expired = true ∧ bit (t.n Obj.wsHistory 0) 6 = true ∧ Raised Ev.holdoverExpired 0 s t := by
  have notYet : (!(s.tick dt).ws.expired) = true := Bool.not_eq_true' _ ▸ once
  have due : ((s.tick dt).n Obj.wsState 0 == 3 && !(s.tick dt).ws.expired &&
      decide ((s.tick dt).n Obj.wsHoldoverLimit 0 ≤ (s.tick dt).heldFor)) = true := by
    rw [State.n_tick, State.n_tick, holding, notYet, decide_eq_true limit]
    rfl
  refine ⟨_, (actIf_next awake due : execHoldoverExpired dt s = _), ?_, ?_, ?_⟩
  · rw [(State.raise_only ..).ws, (State.wsHist_only ..).ws]
  · rw [(State.raise_only ..).n Obj.wsHistory 0]
    exact State.setBitN_reads ..
  · exact (State.raise_raised ..).before (l := []) (.still (State.wsHist_only ..) (.of_objs rfl))

theorem wsHoldoverReset_drops {m : Msg} {x : Session} {value : List Byte} (h : Acts s dt m x Obj.wsHoldoverReset 0 value (.num 1)) :
    Completes (.wsHoldoverReset dt m value) s fun t =>
      t.ws.ready = false ∧ t.st.model = none ∧ t.n Obj.wsHoldoverLearned 0 = 0 ∧ Answered m x t := by
  have row : dictRow Obj.wsHoldoverReset 0 = some ⟨0x140A, 0, 0, .bool, .wo, 3, .immediate, .num 0, .any⟩ := by decide +kernel
  obtain ⟨t, l, next, after, answered⟩ := h.triggered row rfl rfl (by decide) fun u => u.dropModel_only
  let u := (s.tick dt).withSessions l
  have after : Only loggedAnswerReach u.dropModel t := after
  obtain ⟨unready, none, learned⟩ := u.dropModel_drops
  have store : t.st = u.dropModel.st := after.same .st
  refine ⟨t, next, (congrArg Ws.ready after.ws).trans unready, (congrArg Store.model store).trans none,
    (after.n Obj.wsHoldoverLearned 0).trans learned, ?_⟩
  rw [Answered, after.ptp, u.dropModel_only.ptp]
  exact answered

/-! ## Frame pulses (R356, R357) -/

theorem fpPulseEmit_emits {n at_ : Nat} {per : Rat} {x : FpOut} (awake : s.awake) (small : n < 4)
    (enabled : s.b Obj.fpEnable n = true) (place : (s.tick dt).fpNext n = some (at_, per, x)) (spaced : x.spaced at_ per = true) :
    Completes (.fpPulseEmit dt n) s fun t =>
      (t.fp n).last = some at_ ∧
        Out.pulse n (at_ / 65536) (if s.n Obj.fpWidthMode n = 0 then 2000 + 1000 * (s.tick dt).deviceQl else s.n Obj.fpWidth n)
          (b2n (s.n Obj.fpPolarity n == 0)) ∈ t.out := by
  have active : 1 - (s.tick dt).fpRest n = b2n (s.n Obj.fpPolarity n == 0) := by
    rw [State.fpRest, State.n_tick, bne]
    cases s.n Obj.fpPolarity n == 0 <;> rfl
  refine ⟨_, (actIf_next awake (by simp [small, enabled]) : execFpPulseEmit dt n s = _), ?_⟩
  dsimp only
  simp only [place, spaced, if_true, active]
  refine ⟨?_, State.mem_emit ..⟩
  rw [State.fp_emit, State.fp_setFp]

end

/-! ## The statement -/

/-- Settles O42: each command of the model changes it before its event, a reset is the trigger of its object, and a pulse leaves
with the width of its mode. -/
theorem holdoverAndPulses : Obligations.HoldoverAndPulses := by
  unfold Obligations.HoldoverAndPulses
  refine ⟨?_, ?_, ?_, ?_, ?_⟩
  · exact fun s dt awake unready learned => holdoverReady_readies awake unready learned
  · exact fun s dt on learned hour => holdoverModelSave_saves on learned hour
  · exact fun s dt awake holding once limit => holdoverExpired_expires awake holding once limit
  · exact fun s dt m x value h => wsHoldoverReset_drops h
  · exact fun s dt n at_ per x awake small enabled place spaced => fpPulseEmit_emits awake small enabled place spaced

end Sys2Proof.Machine
end

section
/-!
SUPPORT. What the twin layer leaves once it has told its news: the events that readiness raises (`Raises`), the resync that a cause
starts (R381), and what a status block leaves behind (`BlockTaken`, R379).
-/
namespace Sys2Proof.Machine
set_option Elab.async false

theorem Only.tw {r : Reach} {s t : State} (h : Only r s t) (hp : Part.tw ∉ r.parts := by decide) : t.tw = s.tw := h.same .tw hp

theorem Only.twinUp {r : Reach} {s t : State} (h : Only r s t) (hp : Part.objs ∉ r.parts := by decide)
    (hi : Obj.twinLinkState ∉ r.objs := by decide) : t.twinUp = s.twinUp := by
  rw [State.twinUp, h.n _ _ hp hi, State.twinUp]

theorem Only.active {r : Reach} {s t : State} (h : Only r s t) (hp : Part.objs ∉ r.parts := by decide)
    (hi : Obj.twinRole ∉ r.objs := by decide) : t.active = s.active := by
  rw [State.active, h.n _ _ hp hi, State.active]

theorem Only.imageVersions {r : Reach} {s t : State} (h : Only r s t) (hp : Part.update ∉ r.parts := by decide) :
    t.imageVersions = s.imageVersions := by
  have e : Part.update.same s t := h.same .update hp
  unfold Part.same at e
  simp only [Update.mk.injEq] at e
  simp only [State.imageVersions, e]

/-! ## Events (R380, R389) -/

/-- A twin event is raised with the side as its subject. -/
theorem State.raiseTwin_raised {s u : State} (source : Nat) (side : u.n Obj.twinSide 0 = s.n Obj.twinSide 0)
    (before : Raises [] s u) (hp : source % 65536 ≠ Ev.counterPinned := by decide) :
    Raised source (s.n Obj.twinSide 0) s (u.raiseTwin source) := by
  rw [State.raiseTwin, side]
  exact (State.raise_raised u source _ hp).before before List.not_mem_nil hp

theorem State.readyStandby_raises (s : State) : Raises [Ev.twinReady, Ev.twinNotReady] s s.readyStandby := by
  unfold State.readyStandby
  extract_lets old bits held new bits' t
  have evaluated : Raises [Ev.twinReady, Ev.twinNotReady] s t := .still (State.setN_only ..) (.of_only (State.setN_only ..))
  exact .ite ((State.raise_raises ..).seq evaluated) (.ite ((State.raise_raises ..).seq evaluated) evaluated)

theorem State.refreshTwin_raises (s : State) : Raises [Ev.twinReady, Ev.twinNotReady] s s.refreshTwin := by
  unfold State.refreshTwin
  extract_lets t1 t2
  have ready : Raises [Ev.twinReady, Ev.twinNotReady] s t1 :=
    .ite s.readyStandby_raises (.ite (.of_only s.readyActive_only) (.refl s))
  exact .still (State.setN_only ..) (.still (State.setN_only ..) ready)

/-! ## Resyncs (R381) -/

theorem State.wantResync_starts {s : State} (active : s.active = true) (up : s.twinUp = true) :
    s.wantResync.tw.resyncAt.isSome = true := by
  rw [State.wantResync, active, up]
  cases runs : s.tw.resyncAt with
  | none => rfl
  | some x => exact Option.isSome_of_eq_some runs

/-- A cause finds a resync running on an active device whose link is UP, or starts one. -/
theorem State.resyncCause_starts {s : State} (active : s.active = true) (up : s.twinUp = true) :
    s.resyncCause.tw.resyncAt.isSome = true := by
  have role : s.n Obj.twinRole 0 = 1 := beq_iff_eq.1 active
  have leads : ¬ s.standby = true := by rw [State.standby, role]; decide
  rw [State.resyncCause, if_neg leads]
  exact State.wantResync_starts active up

/-- No cause of a resync ends one that is needed. -/
theorem State.resyncCause_needed {s : State} (needed : s.tw.resyncNeeded = true) : s.resyncCause.tw.resyncNeeded = true := by
  have started (u : State) : u.startResync.tw.resyncNeeded = u.tw.resyncNeeded := rfl
  unfold State.resyncCause State.wantResync
  split
  · dsimp only
    split
    · exact started _
    · rfl
  · split
    · exact (started s).trans needed
    · exact needed

/-! ## A status block (R379) -/

/-- An exchange is complete when the peer's block answers one of the device's own. -/
theorem State.exchanges_answered {s : State} {b : StatusBlock} {out : Nat} (sent : s.tw.sentAt = some out)
    (heard : b.heardAt ≠ 0) :
    s.exchanges b = (s.now, exchangeOffset out s.ptp b) :: s.tw.offsets.filter fun x => s.now < x.1 + 1000000000 := by
  simp only [State.exchanges, sent, if_neg heard]

theorem State.showPeer_shows {s : State} {b : StatusBlock} (block : s.tw.peerBlock = some b) (up : s.twinUp = true) :
    s.showPeer.n Obj.twinPeerRole 0 = b.role ∧ s.showPeer.n Obj.twinPeerPattern 0 = b.pattern := by
  have shown : s.showPeer = (s.setN Obj.twinPeerRole 0 b.role).setN Obj.twinPeerPattern 0 b.pattern := by
    simp only [State.showPeer, block, if_pos up]
  rw [shown, State.n_setN_ne _ _ _ _ _ _ (by decide)]
  exact ⟨State.n_setN_self .., State.n_setN_self ..⟩

/-- In t the block b that came in s is kept with its time, the exchanges up to it give the peer's offset, and it shows the peer. -/
structure BlockTaken (s : State) (b : StatusBlock) (t : State) : Prop where
  block : t.tw.peerBlock = some b
  lastAt : t.tw.lastBlockAt = s.now
  heardAt : t.tw.heardAt = s.ptp
  offset : s.exchanges b ≠ [] → t.i Obj.twinPeerOffset 0 = medianOf (s.exchanges b)
  peer : s.twinUp = true → t.n Obj.twinPeerRole 0 = b.role ∧ t.n Obj.twinPeerPattern 0 = b.pattern

section
variable {s t u : State} {b : StatusBlock}

/-- What follows leaves it, outside these objects. -/
theorem BlockTaken.still {r : Reach} (g : Only r t u) (h : BlockTaken s b t) (tw : Part.tw ∉ r.parts := by decide)
    (objs : Part.objs ∉ r.parts := by decide)
    (kept : ∀ i ∈ [Obj.twinPeerOffset, Obj.twinPeerRole, Obj.twinPeerPattern], i ∉ r.objs := by decide) : BlockTaken s b u := by
  obtain ⟨block, lastAt, heardAt, offset, peer⟩ := h
  rw [← g.tw tw] at block lastAt heardAt
  rw [← g.i _ _ objs (kept _ (by decide))] at offset
  rw [← g.n Obj.twinPeerRole _ objs (kept _ (by decide)), ← g.n Obj.twinPeerPattern _ objs (kept _ (by decide))] at peer
  exact ⟨block, lastAt, heardAt, offset, peer⟩

/-- So does a mark elsewhere in the layer's own state. -/
theorem BlockTaken.marked {w : Twin} (h : BlockTaken s b t) (block : w.peerBlock = t.tw.peerBlock := by rfl)
    (lastAt : w.lastBlockAt = t.tw.lastBlockAt := by rfl) (heardAt : w.heardAt = t.tw.heardAt := by rfl) :
    BlockTaken s b { t with tw := w } :=
  ⟨block.trans h.block, lastAt.trans h.lastAt, heardAt.trans h.heardAt, h.offset, h.peer⟩

theorem BlockTaken.ite {p : Prop} [Decidable p] (h : BlockTaken s b t) (g : BlockTaken s b u) :
    BlockTaken s b (if p then t else u) := by
  split
  · exact h
  · exact g

theorem BlockTaken.startResync (h : BlockTaken s b t) : BlockTaken s b t.startResync :=
  ⟨h.block, h.lastAt, h.heardAt, fun e => (t.startResync_only.i Obj.twinPeerOffset 0).trans (h.offset e),
    fun up => ⟨(t.startResync_only.n Obj.twinPeerRole 0).trans (h.peer up).1,
      (t.startResync_only.n Obj.twinPeerPattern 0).trans (h.peer up).2⟩⟩

theorem BlockTaken.resyncCause (h : BlockTaken s b t) : BlockTaken s b t.resyncCause :=
  .ite (.ite h.marked.startResync h.marked) (.ite h.startResync h)

theorem BlockTaken.refreshTwin (h : BlockTaken s b t) : BlockTaken s b t.refreshTwin := .still t.refreshTwin_only h

theorem BlockTaken.loseMirror (h : BlockTaken s b t) : BlockTaken s b t.loseMirror :=
  .refreshTwin (.ite h.marked.startResync h.marked)

theorem State.takeBlock_taken (s : State) (b : StatusBlock) : BlockTaken s b (s.takeBlock b) := by
  unfold State.takeBlock
  extract_lets mismatch gap offsets lost w1 t1 t2 excess w3 t3 t4
  have shown : BlockTaken s b t2 := by
    have measured : Only ⟨[], [Obj.twinPeerOffset], []⟩ t1
        (if offsets.isEmpty then t1 else t1.setVal Obj.twinPeerOffset 0 (.num (medianOf offsets))) :=
      .ite (.refl _ t1) (State.setVal_only ..)
    have tw : t2.tw = t1.tw := (State.showPeer_only _).tw.trans measured.tw
    refine ⟨by rw [tw], by rw [tw], by rw [tw], fun exchanged => ?_, fun up => ?_⟩
    · rw [(State.showPeer_only _).i Obj.twinPeerOffset 0, if_neg (by simpa using exchanged)]
      exact State.i_setI_self ..
    · exact State.showPeer_shows (by rw [measured.tw]) (measured.twinUp.trans up)
  have timed : BlockTaken s b t3 := .ite (.still (State.raiseTwin_only ..) shown.marked) shown
  have mirrored : BlockTaken s b t4 := .ite timed.loseMirror timed.refreshTwin
  exact .ite mirrored.resyncCause.refreshTwin mirrored

end

end Sys2Proof.Machine
end

section
/-!
PROOFS. The twin link: the arbiter's pattern, status blocks, and the peer lost and found (R366 to R368, R379 to R381).
-/
namespace Sys2Proof.Machine
set_option Elab.async false

section
variable {s : State} {dt : Nat}

/-! ## The arbiter's pattern (R367, R368) -/

/-- The event of a pattern p that follows the pattern old. -/
def State.tellPattern (s : State) (p old : Nat) : State :=
  if p = 0 && old != 0 then s.raiseTwin Ev.twinArbLost
  else if p != 0 && old = 0 then s.raiseTwin Ev.twinArbRestored else s

theorem State.tellPattern_only (s : State) (p old : Nat) : Only ⟨[.out, .pinned, .ev, .flashJournal, .diskJournal], eventObjs,
    [0x40000004, 0x40000008]⟩ s (s.tellPattern p old) :=
  .ite (State.raiseTwin_only ..) (.ite (State.raiseTwin_only ..) (.refl _ s))

theorem State.tellPattern_lost {u : State} {p old : Nat} (side : u.n Obj.twinSide 0 = s.n Obj.twinSide 0) (before : Raises [] s u)
    (lost : p = 0) (had : old ≠ 0) : Raised Ev.twinArbLost (s.n Obj.twinSide 0) s (u.tellPattern p old) := by
  rw [State.tellPattern, if_pos (by simp [lost, had])]
  exact State.raiseTwin_raised _ side before

theorem State.tellPattern_restored {u : State} {p old : Nat} (side : u.n Obj.twinSide 0 = s.n Obj.twinSide 0)
    (before : Raises [] s u) (back : p ≠ 0) (had : old = 0) :
    Raised Ev.twinArbRestored (s.n Obj.twinSide 0) s (u.tellPattern p old) := by
  rw [State.tellPattern, if_neg (by simp [back]), if_pos (by simp [back, had])]
  exact State.raiseTwin_raised _ side before

theorem arbPatternRecognised_shows {a b : ArbLevel} {p : Nat} (awake : s.awake) (paired : s.paired = true)
    (frame : (s.tick dt).arbWindow ≠ s.tw.arbFrame)
    (pattern : p = arbPattern (if (s.tick dt).arbWindow = s.tw.arbFrame + 1 then arbSymbol s.tw.lastFirst s.tw.lastSecond else 0)
      (arbSymbol a b)) :
    Completes (.arbPatternRecognised dt a b) s fun t =>
      t.n Obj.twinArbPattern 0 = p ∧ t.tw.lastFirst = a ∧ t.tw.lastSecond = b ∧ t.tw.arbFrame = (s.tick dt).arbWindow ∧
        (p = 0 → s.n Obj.twinArbPattern 0 ≠ 0 → Raised Ev.twinArbLost (s.n Obj.twinSide 0) s t) ∧
        (p ≠ 0 → s.n Obj.twinArbPattern 0 = 0 → Raised Ev.twinArbRestored (s.n Obj.twinSide 0) s t) := by
  have due : ((s.tick dt).paired && (s.tick dt).arbWindow != (s.tick dt).tw.arbFrame) = true :=
    Bool.and_eq_true_iff.2 ⟨paired, bne_iff_ne.2 frame⟩
  refine ⟨_, (actIf_next awake due : execArbPatternRecognised dt a b s = _), ?_⟩
  extract_lets before p' old w u
  change p = p' at pattern
  subst pattern
  have side : u.n Obj.twinSide 0 = s.n Obj.twinSide 0 := State.n_setN_ne _ _ _ _ _ _ (by decide)
  have set : Raises [] s u := .still (State.setN_only ..) (.of_objs rfl)
  have shown : u.n Obj.twinArbPattern 0 = p' := State.n_setN_self ..
  have first : u.tw.lastFirst = a := rfl
  have second : u.tw.lastSecond = b := rfl
  have window : u.tw.arbFrame = (s.tick dt).arbWindow := rfl
  clear_value u
  have told := u.tellPattern_only p' (s.n Obj.twinArbPattern 0)
  exact ⟨(told.n Obj.twinArbPattern 0).trans shown, (congrArg Twin.lastFirst told.tw).trans first,
    (congrArg Twin.lastSecond told.tw).trans second, (congrArg Twin.arbFrame told.tw).trans window,
    State.tellPattern_lost side set, State.tellPattern_restored side set⟩

/-! ## Status blocks (R379) -/

theorem twinStatusSend_tells (awake : s.awake) (linked : s.linked = true) : Completes (.twinStatusSend dt) s fun t =>
    Out.twinStatus (s.n Obj.twinSide 0) (s.n Obj.twinRole 0) (s.n Obj.twinArbPattern 0) (t.n Obj.twinReadiness 0)
      (t.n Obj.twinNotReady 0) (t.n Obj.twinCopyStale 0) s.tw.heardAt t.ptp s.imageVersions (s.by Obj.macBase 0) ∈ t.out ∧
      t.tw.sentAt = some t.ptp := by
  refine ⟨_, (actIf_next awake linked : execTwinStatusSend dt s = _), ?_⟩
  extract_lets w u
  have evaluated : Only _ _ u := State.refreshTwin_only _
  have side : u.n Obj.twinSide 0 = s.n Obj.twinSide 0 := evaluated.n Obj.twinSide 0
  have role : u.n Obj.twinRole 0 = s.n Obj.twinRole 0 := evaluated.n Obj.twinRole 0
  have pattern : u.n Obj.twinArbPattern 0 = s.n Obj.twinArbPattern 0 := evaluated.n Obj.twinArbPattern 0
  have heard : u.tw.heardAt = s.tw.heardAt := (congrArg Twin.heardAt evaluated.tw).trans rfl
  have images : u.imageVersions = s.imageVersions := evaluated.imageVersions
  have mac : u.by Obj.macBase 0 = s.by Obj.macBase 0 := evaluated.by Obj.macBase 0
  have sent : u.tw.sentAt = some u.ptp := (congrArg Twin.sentAt evaluated.tw).trans (congrArg some evaluated.ptp.symm)
  clear_value u
  refine ⟨?_, sent⟩
  rw [← side, ← role, ← pattern, ← heard, ← images, ← mac]
  exact State.mem_emit ..

theorem twinStatusBlock_takes {b : StatusBlock} (awake : s.awake) (linked : s.linked = true) :
    Completes (.twinStatusBlock dt b) s fun t =>
      t.tw.peerBlock = some b ∧ t.tw.lastBlockAt = t.now ∧ t.tw.heardAt = t.ptp ∧
        (∀ out, s.tw.sentAt = some out → b.heardAt ≠ 0 → t.i Obj.twinPeerOffset 0 =
          medianOf ((t.now, exchangeOffset out t.ptp b) :: s.tw.offsets.filter fun x => t.now < x.1 + 1000000000)) ∧
        (s.twinUp = true → t.n Obj.twinPeerRole 0 = b.role ∧ t.n Obj.twinPeerPattern 0 = b.pattern) := by
  refine ⟨_, (actIf_next awake linked : execTwinStatusBlock dt b s = _), ?_⟩
  obtain ⟨block, lastAt, heardAt, offset, peer⟩ := (s.tick dt).takeBlock_taken b
  have reach := (s.tick dt).takeBlock_only b
  have now : ((s.tick dt).takeBlock b).now = (s.tick dt).now := reach.same .now
  rw [now, reach.ptp]
  refine ⟨block, lastAt, heardAt, fun out sent heard => ?_, peer⟩
  have exchanged : (s.tick dt).exchanges b = _ := State.exchanges_answered sent heard
  rw [exchanged] at offset
  exact offset (List.cons_ne_nil _ _)

/-! ## The peer (R379, R381) -/

theorem twinPeerLost_loses (awake : s.awake) (paired : s.paired = true) (up : s.twinUp = true)
    (silent : s.tw.lastBlockAt + 200000 ≤ s.now + dt) : Completes (.twinPeerLost dt) s fun t =>
      t.n Obj.twinLinkState 0 = 0 ∧ t.n Obj.twinPeerRole 0 = 0xFFFF ∧ t.n Obj.twinPeerPattern 0 = 0xFFFF ∧
        t.tw.resyncAt = none ∧ Raised Ev.twinPeerLost (s.n Obj.twinSide 0) s t := by
  have due : ((s.tick dt).paired && (s.tick dt).twinUp && decide ((s.tick dt).tw.lastBlockAt + 200000 ≤ (s.tick dt).now)) = true :=
    Bool.and_eq_true_iff.2 ⟨Bool.and_eq_true_iff.2 ⟨paired, up⟩, decide_eq_true silent⟩
  refine ⟨_, (actIf_next awake due : execTwinPeerLost dt s = _), ?_⟩
  extract_lets u w v
  have link : u.n Obj.twinLinkState 0 = 0 := by
    rw [State.n_setN_ne _ _ _ _ _ _ (by decide), State.n_setN_ne _ _ _ _ _ _ (by decide), State.n_setN_self]
  have role : u.n Obj.twinPeerRole 0 = 0xFFFF := by
    rw [State.n_setN_ne _ _ _ _ _ _ (by decide), State.n_setN_self]
  have pattern : u.n Obj.twinPeerPattern 0 = 0xFFFF := State.n_setN_self ..
  have down : Only ⟨[], [Obj.twinLinkState, Obj.twinPeerRole, Obj.twinPeerPattern], []⟩ (s.tick dt) u :=
    (State.setN_only ..).seq ((State.setN_only ..).seq (State.setN_only ..).up)
  have side : v.n Obj.twinSide 0 = s.n Obj.twinSide 0 := down.n Obj.twinSide 0
  have before : Raises [] s v := .seq (a := []) (t := u) (.of_objs rfl) (.still down (.of_objs rfl))
  have ended : v.tw.resyncAt = none := rfl
  have told := v.raiseTwin_only Ev.twinPeerLost
  have evaluated := (v.raiseTwin Ev.twinPeerLost).refreshTwin_only
  exact ⟨(evaluated.n Obj.twinLinkState 0).trans ((told.n Obj.twinLinkState 0).trans link),
    (evaluated.n Obj.twinPeerRole 0).trans ((told.n Obj.twinPeerRole 0).trans role),
    (evaluated.n Obj.twinPeerPattern 0).trans ((told.n Obj.twinPeerPattern 0).trans pattern),
    (congrArg Twin.resyncAt (evaluated.tw.trans told.tw)).trans ended,
    (State.raiseTwin_raised _ side before).after (State.refreshTwin_raises _) evaluated.ptp⟩

theorem twinPeerFound_finds {a : Nat} (awake : s.awake) (paired : s.paired = true) (down : s.twinUp = false)
    (heard : s.now + dt ≤ s.tw.lastBlockAt + 200000) (since : s.tw.validSince = some a) (waited : a + 1000000 ≤ s.now + dt) :
    Completes (.twinPeerFound dt) s fun t =>
      t.n Obj.twinLinkState 0 = 1 ∧ t.tw.resyncNeeded = true ∧ Raised Ev.twinPeerFound (s.n Obj.twinSide 0) s t ∧
        (s.active = true → t.tw.resyncAt.isSome = true) := by
  have held : ((s.tick dt).tw.validSince.elim false fun a => decide (a + 1000000 ≤ (s.tick dt).now)) = true := by
    rw [show (s.tick dt).tw.validSince = some a from since, Option.elim_some]
    exact decide_eq_true waited
  have due : ((s.tick dt).paired && !(s.tick dt).twinUp && decide ((s.tick dt).now ≤ (s.tick dt).tw.lastBlockAt + 200000) &&
      ((s.tick dt).tw.validSince.elim false fun a => decide (a + 1000000 ≤ (s.tick dt).now))) = true :=
    Bool.and_eq_true_iff.2 ⟨Bool.and_eq_true_iff.2 ⟨Bool.and_eq_true_iff.2 ⟨paired, Bool.not_eq_true' _ ▸ down⟩,
      decide_eq_true heard⟩, held⟩
  refine ⟨_, (actIf_next awake due : execTwinPeerFound dt s = _), ?_⟩
  extract_lets u w v
  have shown : Only ⟨[], [Obj.twinPeerRole, Obj.twinPeerPattern, Obj.twinLinkState], []⟩ (s.tick dt) u :=
    (State.showPeer_only _).seq (State.setN_only ..).up
  have link : u.n Obj.twinLinkState 0 = 1 := ((State.showPeer_only _).n Obj.twinLinkState 0).trans (State.n_setN_self ..)
  have raised : Raised Ev.twinPeerFound (s.n Obj.twinSide 0) s v := State.raiseTwin_raised _ (shown.n Obj.twinSide 0)
    (.seq (a := []) (t := u) (.of_objs rfl) (.still shown (.of_objs rfl)))
  have told : Only _ _ v := State.raiseTwin_only ..
  have linkUp : v.n Obj.twinLinkState 0 = 1 := (told.n Obj.twinLinkState 0).trans link
  have up : v.twinUp = true := beq_iff_eq.2 linkUp
  have active : v.active = s.active := told.active.trans shown.active
  have needed : v.tw.resyncNeeded = true := (congrArg Twin.resyncNeeded told.tw).trans rfl
  clear_value v
  have evaluated := v.resyncCause.refreshTwin_only
  refine ⟨(evaluated.n Obj.twinLinkState 0).trans ((v.resyncCause_only.n Obj.twinLinkState 0).trans linkUp), ?_, ?_, fun leads => ?_⟩
  · rw [evaluated.tw]
    exact State.resyncCause_needed needed
  · exact (raised.after (l := []) (.of_only v.resyncCause_only) v.resyncCause_only.ptp).after (State.refreshTwin_raises _)
      evaluated.ptp
  · rw [evaluated.tw]
    exact State.resyncCause_starts (active.trans leads) up

end

/-! ## The statement -/

/-- Settles O43: the pattern and the peer's state are set before their events, and what is told or evaluated after that leaves them; a status
block is kept before the resync that it may cause. -/
theorem twinLink : Obligations.TwinLink := by
  unfold Obligations.TwinLink
  refine ⟨?_, ?_, ?_, ?_, ?_⟩
  · exact fun s dt a b p awake paired frame pattern => arbPatternRecognised_shows awake paired frame pattern
  · exact fun s dt awake linked => twinStatusSend_tells awake linked
  · exact fun s dt b awake linked => twinStatusBlock_takes awake linked
  · exact fun s dt awake paired up silent => twinPeerLost_loses awake paired up silent
  · exact fun s dt a awake paired down heard since waited => twinPeerFound_finds awake paired down heard since waited

end Sys2Proof.Machine
end

section
/-!
SUPPORT. Every command answers, keeps the queue, the time and soundness, and changes nothing outside its reach; a step is one command.
-/
namespace Sys2Proof.Machine
set_option Elab.async false

/-- Every command answers a next state, which in a device held in reset is the state of its time, for every command but those of
the power family (R609). -/
theorem exec_answers (c : Instr) (s : State) :
    ∃ t, exec c s = .next t ∧ (s.inReset = true → familyOf c ≠ .power → ∃ dt, t = s.tick dt) := by
  cases c with
  | powerOn | resetNAssert | resetNRelease | railFault | vddAuxLow | thermalTrip | thermalTripRelease =>
    exact ⟨_, rfl, fun _ h => absurd rfl h⟩
  | _ => exact ⟨_, rfl, fun held _ => ⟨_, if_pos held⟩⟩

/-- Commands of the family `power` keep what every step keeps. -/
theorem exec_kept_power {c : Instr} (s : State) (h : familyOf c = .power) : KeptR s (exec c s) := by
  cases c with
  | powerOn => exact execPowerOn_kept ..
  | resetNAssert => exact execResetNAssert_kept ..
  | resetNRelease => exact execResetNRelease_kept ..
  | railFault => exact execRailFault_kept ..
  | vddAuxLow => exact execVddAuxLow_kept ..
  | thermalTrip => exact execThermalTrip_kept ..
  | thermalTripRelease => exact execThermalTripRelease_kept ..
  | romStageEnd => exact execRomStageEnd_kept ..
  | hbmReady => exact execHbmReady_kept ..
  | uplandEntered => exact execUplandEntered_kept ..
  | avsTargetUpdate => exact execAvsTargetUpdate_kept ..
  | avsStep => exact execAvsStep_kept ..
  | softRestartProceed => exact execSoftRestartProceed_kept ..
  | watchdogExpiry => exact execWatchdogExpiry_kept ..
  | wdtKick dt trusted key => exact execWdtKick_kept dt trusted key s
  | healthMonitorSample => exact execHealthMonitorSample_kept ..
  | uplandFault => exact execUplandFault_kept ..
  | uplandHeartbeatLate => exact execUplandHeartbeatLate_kept ..
  | heartbeatTimeout => exact execHeartbeatTimeout_kept ..
  | storeSaveStart => exact execStoreSaveStart_kept ..
  | storeSaved => exact execStoreSaved_kept ..
  | updateNotConfirmed => exact execUpdateNotConfirmed_kept ..
  | _ => nomatch h

/-- Commands of the family `power` change nothing outside their reach. -/
theorem exec_only_power {c : Instr} (s : State) (h : familyOf c = .power) : OnlyR (framePower c) s (exec c s) := by
  cases c with
  | powerOn => exact (execPowerOn_only ..).mono (by dsimp only [framePower]; decide)
  | resetNAssert => exact (execResetNAssert_only ..).mono (by dsimp only [framePower]; decide)
  | resetNRelease => exact (execResetNRelease_only ..).mono (by dsimp only [framePower]; decide)
  | railFault => exact (execRailFault_only ..).mono (by dsimp only [framePower]; decide)
  | vddAuxLow => exact (execVddAuxLow_only ..).mono (by dsimp only [framePower]; decide)
  | thermalTrip => exact (execThermalTrip_only ..).mono (by dsimp only [framePower]; decide)
  | thermalTripRelease => exact (execThermalTripRelease_only ..).mono (by dsimp only [framePower]; decide)
  | romStageEnd => exact (execRomStageEnd_only ..).mono (by dsimp only [framePower]; decide)
  | hbmReady => exact (execHbmReady_only ..).mono (by dsimp only [framePower]; decide)
  | uplandEntered => exact (execUplandEntered_only ..).mono (by dsimp only [framePower]; decide)
  | avsTargetUpdate => exact (execAvsTargetUpdate_only ..).mono (by dsimp only [framePower]; decide)
  | avsStep => exact (execAvsStep_only ..).mono (by dsimp only [framePower]; decide)
  | softRestartProceed => exact (execSoftRestartProceed_only ..).mono (by dsimp only [framePower]; decide)
  | watchdogExpiry => exact (execWatchdogExpiry_only ..).mono (by dsimp only [framePower]; decide)
  | wdtKick dt trusted key => exact (execWdtKick_only dt trusted key s).mono (by dsimp only [framePower]; decide)
  | healthMonitorSample => exact (execHealthMonitorSample_only ..).mono (by dsimp only [framePower]; decide)
  | uplandFault => exact (execUplandFault_only ..).mono (by dsimp only [framePower]; decide)
  | uplandHeartbeatLate => exact (execUplandHeartbeatLate_only ..).mono (by dsimp only [framePower]; decide)
  | heartbeatTimeout => exact (execHeartbeatTimeout_only ..).mono (by dsimp only [framePower]; decide)
  | storeSaveStart => exact (execStoreSaveStart_only ..).mono (by dsimp only [framePower]; decide)
  | storeSaved => exact (execStoreSaved_only ..).mono (by dsimp only [framePower]; decide)
  | updateNotConfirmed => exact (execUpdateNotConfirmed_only ..).mono (by dsimp only [framePower]; decide)
  | _ => nomatch h

/-- Commands of the family `object` keep what every step keeps. -/
theorem exec_kept_object {c : Instr} (s : State) (h : familyOf c = .object) : KeptR s (exec c s) := by
  cases c with
  | deviceRestartSoft => exact execDeviceRestartSoft_kept ..
  | deviceRestartHard => exact execDeviceRestartHard_kept ..
  | healthClear => exact execHealthClear_kept ..
  | layerGfxOffset => exact execLayerGfxOffset_kept ..
  | layerGfxData => exact execLayerGfxData_kept ..
  | layerGfxFlip => exact execLayerGfxFlip_kept ..
  | colShaperData => exact execColShaperData_kept ..
  | colLutOffset => exact execColLutOffset_kept ..
  | colLutData => exact execColLutData_kept ..
  | colTableFlip => exact execColTableFlip_kept ..
  | meterClear => exact execMeterClear_kept ..
  | wsTimeSet => exact execWsTimeSet_kept ..
  | wsHoldoverReset => exact execWsHoldoverReset_kept ..
  | wsHistoryClear => exact execWsHistoryClear_kept ..
  | saddleSlip => exact execSaddleSlip_kept ..
  | saddleTrainRequest => exact execSaddleTrainRequest_kept ..
  | saddleRestart => exact execSaddleRestart_kept ..
  | morFormat => exact execMorFormat_kept ..
  | clipDelete => exact execClipDelete_kept ..
  | morJournalRead => exact execMorJournalRead_kept ..
  | monConfigWrite => exact execMonConfigWrite_kept ..
  | monClear => exact execMonClear_kept ..
  | subscriptionWrite => exact execSubscriptionWrite_kept ..
  | counterClearWrite => exact execCounterClearWrite_kept ..
  | latencyClear => exact execLatencyClear_kept ..
  | phaseHistogramClear => exact execPhaseHistogramClear_kept ..
  | roleKeyChanged => exact execRoleKeyChanged_kept ..
  | lockoutClear => exact execLockoutClear_kept ..
  | ownerLockChange => exact execOwnerLockChange_kept ..
  | ownerKeyProgram => exact execOwnerKeyProgram_kept ..
  | ownerKeyRevoke => exact execOwnerKeyRevoke_kept ..
  | storeSaveNow => exact execStoreSaveNow_kept ..
  | updateBegin => exact execUpdateBegin_kept ..
  | updateData => exact execUpdateData_kept ..
  | updateCommit => exact execUpdateCommit_kept ..
  | updateActivate => exact execUpdateActivate_kept ..
  | updateAbort => exact execUpdateAbort_kept ..
  | healthConfirm => exact execHealthConfirm_kept ..
  | _ => nomatch h

/-- Commands of the family `object` change nothing outside their reach. -/
theorem exec_only_object {c : Instr} (s : State) (h : familyOf c = .object) : OnlyR (frameObject c) s (exec c s) := by
  cases c with
  | deviceRestartSoft => exact (execDeviceRestartSoft_only ..).mono (by dsimp only [frameObject]; decide)
  | deviceRestartHard => exact (execDeviceRestartHard_only ..).mono (by dsimp only [frameObject]; decide)
  | healthClear => exact (execHealthClear_only ..).mono (by dsimp only [frameObject]; decide)
  | layerGfxOffset => exact (execLayerGfxOffset_only ..).mono (by dsimp only [frameObject]; decide)
  | layerGfxData => exact (execLayerGfxData_only ..).mono (by dsimp only [frameObject]; decide)
  | layerGfxFlip => exact (execLayerGfxFlip_only ..).mono (by dsimp only [frameObject]; decide)
  | colShaperData => exact (execColShaperData_only ..).mono (by dsimp only [frameObject]; decide)
  | colLutOffset => exact (execColLutOffset_only ..).mono (by dsimp only [frameObject]; decide)
  | colLutData => exact (execColLutData_only ..).mono (by dsimp only [frameObject]; decide)
  | colTableFlip => exact (execColTableFlip_only ..).mono (by dsimp only [frameObject]; decide)
  | meterClear => exact (execMeterClear_only ..).mono (by dsimp only [frameObject]; decide)
  | wsTimeSet => exact (execWsTimeSet_only ..).mono (by dsimp only [frameObject]; decide)
  | wsHoldoverReset => exact (execWsHoldoverReset_only ..).mono (by dsimp only [frameObject]; decide)
  | wsHistoryClear => exact (execWsHistoryClear_only ..).mono (by dsimp only [frameObject]; decide)
  | saddleSlip => exact (execSaddleSlip_only ..).mono (by dsimp only [frameObject]; decide)
  | saddleTrainRequest => exact (execSaddleTrainRequest_only ..).mono (by dsimp only [frameObject]; decide)
  | saddleRestart => exact (execSaddleRestart_only ..).mono (by dsimp only [frameObject]; decide)
  | morFormat => exact (execMorFormat_only ..).mono (by dsimp only [frameObject]; decide)
  | clipDelete => exact (execClipDelete_only ..).mono (by dsimp only [frameObject]; decide)
  | morJournalRead => exact (execMorJournalRead_only ..).mono (by dsimp only [frameObject]; decide)
  | monConfigWrite => exact (execMonConfigWrite_only ..).mono (by dsimp only [frameObject]; decide)
  | monClear => exact (execMonClear_only ..).mono (by dsimp only [frameObject]; decide)
  | subscriptionWrite => exact (execSubscriptionWrite_only ..).mono (by dsimp only [frameObject]; decide)
  | counterClearWrite => exact (execCounterClearWrite_only ..).mono (by dsimp only [frameObject]; decide)
  | latencyClear => exact (execLatencyClear_only ..).mono (by dsimp only [frameObject]; decide)
  | phaseHistogramClear => exact (execPhaseHistogramClear_only ..).mono (by dsimp only [frameObject]; decide)
  | roleKeyChanged => exact (execRoleKeyChanged_only ..).mono (by dsimp only [frameObject]; decide)
  | lockoutClear => exact (execLockoutClear_only ..).mono (by dsimp only [frameObject]; decide)
  | ownerLockChange => exact (execOwnerLockChange_only ..).mono (by dsimp only [frameObject]; decide)
  | ownerKeyProgram => exact (execOwnerKeyProgram_only ..).mono (by dsimp only [frameObject]; decide)
  | ownerKeyRevoke => exact (execOwnerKeyRevoke_only ..).mono (by dsimp only [frameObject]; decide)
  | storeSaveNow => exact (execStoreSaveNow_only ..).mono (by dsimp only [frameObject]; decide)
  | updateBegin => exact (execUpdateBegin_only ..).mono (by dsimp only [frameObject]; decide)
  | updateData => exact (execUpdateData_only ..).mono (by dsimp only [frameObject]; decide)
  | updateCommit => exact (execUpdateCommit_only ..).mono (by dsimp only [frameObject]; decide)
  | updateActivate => exact (execUpdateActivate_only ..).mono (by dsimp only [frameObject]; decide)
  | updateAbort => exact (execUpdateAbort_only ..).mono (by dsimp only [frameObject]; decide)
  | healthConfirm => exact (execHealthConfirm_only ..).mono (by dsimp only [frameObject]; decide)
  | _ => nomatch h

/-- Commands of the family `session` keep what every step keeps. -/
theorem exec_kept_session {c : Instr} (s : State) (h : familyOf c = .session) : KeptR s (exec c s) := by
  cases c with
  | ilrilHello => exact execIlrilHello_kept ..
  | ilrilProof => exact execIlrilProof_kept ..
  | challengeExpiry => exact execChallengeExpiry_kept ..
  | lockoutEnd => exact execLockoutEnd_kept ..
  | lockoutTimeReset => exact execLockoutTimeReset_kept ..
  | ilrilClose => exact execIlrilClose_kept ..
  | sessionIdleTimeout => exact execSessionIdleTimeout_kept ..
  | tcpConnectionClose => exact execTcpConnectionClose_kept ..
  | ilrilKeepalive => exact execIlrilKeepalive_kept ..
  | ilrilRead => exact execIlrilRead_kept ..
  | ilrilWrite => exact execIlrilWrite_kept ..
  | ilrilBulkRead => exact execIlrilBulkRead_kept ..
  | ilrilBulkWrite => exact execIlrilBulkWrite_kept ..
  | ilrilFence => exact execIlrilFence_kept ..
  | fenceComplete => exact execFenceComplete_kept ..
  | fenceMissing => exact execFenceMissing_kept ..
  | notifySend => exact execNotifySend_kept ..
  | notifyResend => exact execNotifyResend_kept ..
  | notifyAck => exact execNotifyAck_kept ..
  | _ => nomatch h

/-- Commands of the family `session` change nothing outside their reach. -/
theorem exec_only_session {c : Instr} (s : State) (h : familyOf c = .session) : OnlyR (frameSession c) s (exec c s) := by
  cases c with
  | ilrilHello => exact (execIlrilHello_only ..).mono (by dsimp only [frameSession]; decide)
  | ilrilProof => exact (execIlrilProof_only ..).mono (by dsimp only [frameSession]; decide)
  | challengeExpiry => exact (execChallengeExpiry_only ..).mono (by dsimp only [frameSession]; decide)
  | lockoutEnd => exact (execLockoutEnd_only ..).mono (by dsimp only [frameSession]; decide)
  | lockoutTimeReset => exact (execLockoutTimeReset_only ..).mono (by dsimp only [frameSession]; decide)
  | ilrilClose => exact (execIlrilClose_only ..).mono (by dsimp only [frameSession]; decide)
  | sessionIdleTimeout => exact (execSessionIdleTimeout_only ..).mono (by dsimp only [frameSession]; decide)
  | tcpConnectionClose => exact (execTcpConnectionClose_only ..).mono (by dsimp only [frameSession]; decide)
  | ilrilKeepalive => exact (execIlrilKeepalive_only ..).mono (by dsimp only [frameSession]; decide)
  | ilrilRead => exact (execIlrilRead_only ..).mono (by dsimp only [frameSession]; decide)
  | ilrilWrite => exact (execIlrilWrite_only ..).mono (by dsimp only [frameSession]; decide)
  | ilrilBulkRead => exact (execIlrilBulkRead_only ..).mono (by dsimp only [frameSession]; decide)
  | ilrilBulkWrite => exact (execIlrilBulkWrite_only ..).mono (by dsimp only [frameSession]; decide)
  | ilrilFence => exact (execIlrilFence_only ..).mono (by dsimp only [frameSession]; decide)
  | fenceComplete => exact (execFenceComplete_only ..).mono (by dsimp only [frameSession]; decide)
  | fenceMissing => exact (execFenceMissing_only ..).mono (by dsimp only [frameSession]; decide)
  | notifySend => exact (execNotifySend_only ..).mono (by dsimp only [frameSession]; decide)
  | notifyResend => exact (execNotifyResend_only ..).mono (by dsimp only [frameSession]; decide)
  | notifyAck => exact (execNotifyAck_only ..).mono (by dsimp only [frameSession]; decide)
  | _ => nomatch h

/-- Commands of the family `salvo` keep what every step keeps. -/
theorem exec_kept_salvo {c : Instr} (s : State) (h : familyOf c = .salvo) : KeptR s (exec c s) := by
  cases c with
  | salvoOpen => exact execSalvoOpen_kept ..
  | salvoAdd => exact execSalvoAdd_kept ..
  | salvoRemove => exact execSalvoRemove_kept ..
  | salvoClear => exact execSalvoClear_kept ..
  | salvoArm => exact execSalvoArm_kept ..
  | salvoMirrorAck => exact execSalvoMirrorAck_kept ..
  | mirrorTimeout => exact execMirrorTimeout_kept ..
  | salvoDisarm => exact execSalvoDisarm_kept ..
  | salvoDiscard => exact execSalvoDiscard_kept ..
  | salvoTake => exact execSalvoTake_kept ..
  | takeMirrorAck => exact execTakeMirrorAck_kept ..
  | houseFrameBoundary => exact execHouseFrameBoundary_kept ..
  | _ => nomatch h

/-- Commands of the family `salvo` change nothing outside their reach. -/
theorem exec_only_salvo {c : Instr} (s : State) (h : familyOf c = .salvo) : OnlyR (frameSalvo c) s (exec c s) := by
  cases c with
  | salvoOpen => exact (execSalvoOpen_only ..).mono (by dsimp only [frameSalvo]; decide)
  | salvoAdd => exact (execSalvoAdd_only ..).mono (by dsimp only [frameSalvo]; decide)
  | salvoRemove => exact (execSalvoRemove_only ..).mono (by dsimp only [frameSalvo]; decide)
  | salvoClear => exact (execSalvoClear_only ..).mono (by dsimp only [frameSalvo]; decide)
  | salvoArm => exact (execSalvoArm_only ..).mono (by dsimp only [frameSalvo]; decide)
  | salvoMirrorAck => exact (execSalvoMirrorAck_only ..).mono (by dsimp only [frameSalvo]; decide)
  | mirrorTimeout => exact (execMirrorTimeout_only ..).mono (by dsimp only [frameSalvo]; decide)
  | salvoDisarm => exact (execSalvoDisarm_only ..).mono (by dsimp only [frameSalvo]; decide)
  | salvoDiscard => exact (execSalvoDiscard_only ..).mono (by dsimp only [frameSalvo]; decide)
  | salvoTake => exact (execSalvoTake_only ..).mono (by dsimp only [frameSalvo]; decide)
  | takeMirrorAck => exact (execTakeMirrorAck_only ..).mono (by dsimp only [frameSalvo]; decide)
  | houseFrameBoundary => exact (execHouseFrameBoundary_only ..).mono (by dsimp only [frameSalvo]; decide)
  | _ => nomatch h

/-- Commands of the family `sdi` keep what every step keeps. -/
theorem exec_kept_sdi {c : Instr} (s : State) (h : familyOf c = .sdi) : KeptR s (exec c s) := by
  cases c with
  | sdiSignalDetect => exact execSdiSignalDetect_kept ..
  | sdiRateSearchStep => exact execSdiRateSearchStep_kept ..
  | sdiClockLock => exact execSdiClockLock_kept ..
  | sdiLock => exact execSdiLock_kept ..
  | sdiClockLoss => exact execSdiClockLoss_kept ..
  | sdiSignalLoss => exact execSdiSignalLoss_kept ..
  | sdiEavTimeout => exact execSdiEavTimeout_kept ..
  | sdiRasterMismatch => exact execSdiRasterMismatch_kept ..
  | sdiLineReceived => exact execSdiLineReceived_kept ..
  | sdiEdhField => exact execSdiEdhField_kept ..
  | sdiAudioPacket => exact execSdiAudioPacket_kept ..
  | sdiAudioGroupAbsent => exact execSdiAudioGroupAbsent_kept ..
  | sdiAncPacket => exact execSdiAncPacket_kept ..
  | sdiTxFrameEmit => exact execSdiTxFrameEmit_kept ..
  | sdiTxIdleEnd => exact execSdiTxIdleEnd_kept ..
  | _ => nomatch h

/-- Commands of the family `sdi` change nothing outside their reach. -/
theorem exec_only_sdi {c : Instr} (s : State) (h : familyOf c = .sdi) : OnlyR (frameSdi c) s (exec c s) := by
  cases c with
  | sdiSignalDetect => exact (execSdiSignalDetect_only ..).mono (by dsimp only [frameSdi]; decide)
  | sdiRateSearchStep => exact (execSdiRateSearchStep_only ..).mono (by dsimp only [frameSdi]; decide)
  | sdiClockLock => exact (execSdiClockLock_only ..).mono (by dsimp only [frameSdi]; decide)
  | sdiLock => exact (execSdiLock_only ..).mono (by dsimp only [frameSdi]; decide)
  | sdiClockLoss => exact (execSdiClockLoss_only ..).mono (by dsimp only [frameSdi]; decide)
  | sdiSignalLoss => exact (execSdiSignalLoss_only ..).mono (by dsimp only [frameSdi]; decide)
  | sdiEavTimeout => exact (execSdiEavTimeout_only ..).mono (by dsimp only [frameSdi]; decide)
  | sdiRasterMismatch => exact (execSdiRasterMismatch_only ..).mono (by dsimp only [frameSdi]; decide)
  | sdiLineReceived => exact (execSdiLineReceived_only ..).mono (by dsimp only [frameSdi]; decide)
  | sdiEdhField => exact (execSdiEdhField_only ..).mono (by dsimp only [frameSdi]; decide)
  | sdiAudioPacket => exact (execSdiAudioPacket_only ..).mono (by dsimp only [frameSdi]; decide)
  | sdiAudioGroupAbsent => exact (execSdiAudioGroupAbsent_only ..).mono (by dsimp only [frameSdi]; decide)
  | sdiAncPacket => exact (execSdiAncPacket_only ..).mono (by dsimp only [frameSdi]; decide)
  | sdiTxFrameEmit => exact (execSdiTxFrameEmit_only ..).mono (by dsimp only [frameSdi]; decide)
  | sdiTxIdleEnd => exact (execSdiTxIdleEnd_only ..).mono (by dsimp only [frameSdi]; decide)
  | _ => nomatch h

/-- Commands of the family `picture` keep what every step keeps. -/
theorem exec_kept_picture {c : Instr} (s : State) (h : familyOf c = .picture) : KeptR s (exec c s) := by
  cases c with
  | sourceFrameWrite => exact execSourceFrameWrite_kept ..
  | generatorFrameWrite => exact execGeneratorFrameWrite_kept ..
  | destinationReadStart => exact execDestinationReadStart_kept ..
  | partialFrame => exact execPartialFrame_kept ..
  | engineAlignmentPoint => exact execEngineAlignmentPoint_kept ..
  | _ => nomatch h

/-- Commands of the family `picture` change nothing outside their reach. -/
theorem exec_only_picture {c : Instr} (s : State) (h : familyOf c = .picture) : OnlyR (framePicture c) s (exec c s) := by
  cases c with
  | sourceFrameWrite => exact (execSourceFrameWrite_only ..).mono (by dsimp only [framePicture]; decide)
  | generatorFrameWrite => exact (execGeneratorFrameWrite_only ..).mono (by dsimp only [framePicture]; decide)
  | destinationReadStart => exact (execDestinationReadStart_only ..).mono (by dsimp only [framePicture]; decide)
  | partialFrame => exact (execPartialFrame_only ..).mono (by dsimp only [framePicture]; decide)
  | engineAlignmentPoint => exact (execEngineAlignmentPoint_only ..).mono (by dsimp only [framePicture]; decide)
  | _ => nomatch h

/-- Commands of the family `audio` keep what every step keeps. -/
theorem exec_kept_audio {c : Instr} (s : State) (h : familyOf c = .audio) : KeptR s (exec c s) := by
  cases c with
  | corniceBlock => exact execCorniceBlock_kept ..
  | auInputRate => exact execAuInputRate_kept ..
  | tapChangeStart => exact execTapChangeStart_kept ..
  | crossfadeEnd => exact execCrossfadeEnd_kept ..
  | meterPeriod => exact execMeterPeriod_kept ..
  | loudnessUpdate => exact execLoudnessUpdate_kept ..
  | _ => nomatch h

/-- Commands of the family `audio` change nothing outside their reach. -/
theorem exec_only_audio {c : Instr} (s : State) (h : familyOf c = .audio) : OnlyR (frameAudio c) s (exec c s) := by
  cases c with
  | corniceBlock => exact (execCorniceBlock_only ..).mono (by dsimp only [frameAudio]; decide)
  | auInputRate => exact (execAuInputRate_only ..).mono (by dsimp only [frameAudio]; decide)
  | tapChangeStart => exact (execTapChangeStart_only ..).mono (by dsimp only [frameAudio]; decide)
  | crossfadeEnd => exact (execCrossfadeEnd_only ..).mono (by dsimp only [frameAudio]; decide)
  | meterPeriod => exact (execMeterPeriod_only ..).mono (by dsimp only [frameAudio]; decide)
  | loudnessUpdate => exact (execLoudnessUpdate_only ..).mono (by dsimp only [frameAudio]; decide)
  | _ => nomatch h

/-- Commands of the family `tarn` keep what every step keeps. -/
theorem exec_kept_tarn {c : Instr} (s : State) (h : familyOf c = .tarn) : KeptR s (exec c s) := by
  cases c with
  | tarnEnWrite => exact execTarnEnWrite_kept ..
  | tarnGo => exact execTarnGo_kept ..
  | tarnTrigEdge => exact execTarnTrigEdge_kept ..
  | tarnStarted => exact execTarnStarted_kept ..
  | tarnFrameStart => exact execTarnFrameStart_kept ..
  | tarnMaskWrite => exact execTarnMaskWrite_kept ..
  | tarnFsEdge => exact execTarnFsEdge_kept ..
  | tarnFsLost => exact execTarnFsLost_kept ..
  | tarnRateMeasure => exact execTarnRateMeasure_kept ..
  | tarnRxfifoRead => exact execTarnRxfifoRead_kept ..
  | tarnTxfifoWrite => exact execTarnTxfifoWrite_kept ..
  | tarnFcntLatch => exact execTarnFcntLatch_kept ..
  | _ => nomatch h

/-- Commands of the family `tarn` change nothing outside their reach. -/
theorem exec_only_tarn {c : Instr} (s : State) (h : familyOf c = .tarn) : OnlyR (frameTarn c) s (exec c s) := by
  cases c with
  | tarnEnWrite => exact (execTarnEnWrite_only ..).mono (by dsimp only [frameTarn]; decide)
  | tarnGo => exact (execTarnGo_only ..).mono (by dsimp only [frameTarn]; decide)
  | tarnTrigEdge => exact (execTarnTrigEdge_only ..).mono (by dsimp only [frameTarn]; decide)
  | tarnStarted => exact (execTarnStarted_only ..).mono (by dsimp only [frameTarn]; decide)
  | tarnFrameStart => exact (execTarnFrameStart_only ..).mono (by dsimp only [frameTarn]; decide)
  | tarnMaskWrite => exact (execTarnMaskWrite_only ..).mono (by dsimp only [frameTarn]; decide)
  | tarnFsEdge => exact (execTarnFsEdge_only ..).mono (by dsimp only [frameTarn]; decide)
  | tarnFsLost => exact (execTarnFsLost_only ..).mono (by dsimp only [frameTarn]; decide)
  | tarnRateMeasure => exact (execTarnRateMeasure_only ..).mono (by dsimp only [frameTarn]; decide)
  | tarnRxfifoRead => exact (execTarnRxfifoRead_only ..).mono (by dsimp only [frameTarn]; decide)
  | tarnTxfifoWrite => exact (execTarnTxfifoWrite_only ..).mono (by dsimp only [frameTarn]; decide)
  | tarnFcntLatch => exact (execTarnFcntLatch_only ..).mono (by dsimp only [frameTarn]; decide)
  | _ => nomatch h

/-- Commands of the family `media` keep what every step keeps. -/
theorem exec_kept_media {c : Instr} (s : State) (h : familyOf c = .media) : KeptR s (exec c s) := by
  cases c with
  | mpFrameReceived => exact execMpFrameReceived_kept ..
  | reportRetransmit => exact execReportRetransmit_kept ..
  | packetRelease => exact execPacketRelease_kept ..
  | flowLost => exact execFlowLost_kept ..
  | mergePathLost => exact execMergePathLost_kept ..
  | mergePathRestored => exact execMergePathRestored_kept ..
  | ancUnmatched => exact execAncUnmatched_kept ..
  | pdvSecond => exact execPdvSecond_kept ..
  | mpLinkUp => exact execMpLinkUp_kept ..
  | mpLinkDown => exact execMpLinkDown_kept ..
  | txPacketDeparture => exact execTxPacketDeparture_kept ..
  | txAudioPacket => exact execTxAudioPacket_kept ..
  | txAncPackets => exact execTxAncPackets_kept ..
  | txOpaqueForward => exact execTxOpaqueForward_kept ..
  | txResolveRenew => exact execTxResolveRenew_kept ..
  | txUnresolved => exact execTxUnresolved_kept ..
  | _ => nomatch h

/-- Commands of the family `media` change nothing outside their reach. -/
theorem exec_only_media {c : Instr} (s : State) (h : familyOf c = .media) : OnlyR (frameMedia c) s (exec c s) := by
  cases c with
  | mpFrameReceived => exact (execMpFrameReceived_only ..).mono (by dsimp only [frameMedia]; decide)
  | reportRetransmit => exact (execReportRetransmit_only ..).mono (by dsimp only [frameMedia]; decide)
  | packetRelease => exact (execPacketRelease_only ..).mono (by dsimp only [frameMedia]; decide)
  | flowLost => exact (execFlowLost_only ..).mono (by dsimp only [frameMedia]; decide)
  | mergePathLost => exact (execMergePathLost_only ..).mono (by dsimp only [frameMedia]; decide)
  | mergePathRestored => exact (execMergePathRestored_only ..).mono (by dsimp only [frameMedia]; decide)
  | ancUnmatched => exact (execAncUnmatched_only ..).mono (by dsimp only [frameMedia]; decide)
  | pdvSecond => exact (execPdvSecond_only ..).mono (by dsimp only [frameMedia]; decide)
  | mpLinkUp => exact (execMpLinkUp_only ..).mono (by dsimp only [frameMedia]; decide)
  | mpLinkDown => exact (execMpLinkDown_only ..).mono (by dsimp only [frameMedia]; decide)
  | txPacketDeparture => exact (execTxPacketDeparture_only ..).mono (by dsimp only [frameMedia]; decide)
  | txAudioPacket => exact (execTxAudioPacket_only ..).mono (by dsimp only [frameMedia]; decide)
  | txAncPackets => exact (execTxAncPackets_only ..).mono (by dsimp only [frameMedia]; decide)
  | txOpaqueForward => exact (execTxOpaqueForward_only ..).mono (by dsimp only [frameMedia]; decide)
  | txResolveRenew => exact (execTxResolveRenew_only ..).mono (by dsimp only [frameMedia]; decide)
  | txUnresolved => exact (execTxUnresolved_only ..).mono (by dsimp only [frameMedia]; decide)
  | _ => nomatch h

/-- Commands of the family `watershed` keep what every step keeps. -/
theorem exec_kept_watershed {c : Instr} (s : State) (h : familyOf c = .watershed) : KeptR s (exec c s) := by
  cases c with
  | wsEvaluation => exact execWsEvaluation_kept ..
  | refEdge => exact execRefEdge_kept ..
  | refFreqMeasure => exact execRefFreqMeasure_kept ..
  | refLost => exact execRefLost_kept ..
  | refSignalBack => exact execRefSignalBack_kept ..
  | refAvailable => exact execRefAvailable_kept ..
  | ptpAnnounceTimeout => exact execPtpAnnounceTimeout_kept ..
  | wsLocked => exact execWsLocked_kept ..
  | loFault => exact execLoFault_kept ..
  | loRestored => exact execLoRestored_kept ..
  | holdoverReady => exact execHoldoverReady_kept ..
  | holdoverModelSave => exact execHoldoverModelSave_kept ..
  | holdoverExpired => exact execHoldoverExpired_kept ..
  | fpPulseEmit => exact execFpPulseEmit_kept ..
  | _ => nomatch h

/-- Commands of the family `watershed` change nothing outside their reach. -/
theorem exec_only_watershed {c : Instr} (s : State) (h : familyOf c = .watershed) : OnlyR (frameWatershed c) s (exec c s) := by
  cases c with
  | wsEvaluation => exact (execWsEvaluation_only ..).mono (by dsimp only [frameWatershed]; decide)
  | refEdge => exact (execRefEdge_only ..).mono (by dsimp only [frameWatershed]; decide)
  | refFreqMeasure => exact (execRefFreqMeasure_only ..).mono (by dsimp only [frameWatershed]; decide)
  | refLost => exact (execRefLost_only ..).mono (by dsimp only [frameWatershed]; decide)
  | refSignalBack => exact (execRefSignalBack_only ..).mono (by dsimp only [frameWatershed]; decide)
  | refAvailable => exact (execRefAvailable_only ..).mono (by dsimp only [frameWatershed]; decide)
  | ptpAnnounceTimeout => exact (execPtpAnnounceTimeout_only ..).mono (by dsimp only [frameWatershed]; decide)
  | wsLocked => exact (execWsLocked_only ..).mono (by dsimp only [frameWatershed]; decide)
  | loFault => exact (execLoFault_only ..).mono (by dsimp only [frameWatershed]; decide)
  | loRestored => exact (execLoRestored_only ..).mono (by dsimp only [frameWatershed]; decide)
  | holdoverReady => exact (execHoldoverReady_only ..).mono (by dsimp only [frameWatershed]; decide)
  | holdoverModelSave => exact (execHoldoverModelSave_only ..).mono (by dsimp only [frameWatershed]; decide)
  | holdoverExpired => exact (execHoldoverExpired_only ..).mono (by dsimp only [frameWatershed]; decide)
  | fpPulseEmit => exact (execFpPulseEmit_only ..).mono (by dsimp only [frameWatershed]; decide)
  | _ => nomatch h

/-- Commands of the family `twin` keep what every step keeps. -/
theorem exec_kept_twin {c : Instr} (s : State) (h : familyOf c = .twin) : KeptR s (exec c s) := by
  cases c with
  | arbPatternRecognised => exact execArbPatternRecognised_kept ..
  | twinStatusSend => exact execTwinStatusSend_kept ..
  | twinStatusBlock => exact execTwinStatusBlock_kept ..
  | twinPeerLost => exact execTwinPeerLost_kept ..
  | twinPeerFound => exact execTwinPeerFound_kept ..
  | twinCopySend => exact execTwinCopySend_kept ..
  | twinCopyReceive => exact execTwinCopyReceive_kept ..
  | twinCopyAck => exact execTwinCopyAck_kept ..
  | salvoMirrorReceive => exact execSalvoMirrorReceive_kept ..
  | takeMirrorReceive => exact execTakeMirrorReceive_kept ..
  | writeThroughAck => exact execWriteThroughAck_kept ..
  | writeThroughTimeout => exact execWriteThroughTimeout_kept ..
  | twinAnnounce => exact execTwinAnnounce_kept ..
  | _ => nomatch h

/-- Commands of the family `twin` change nothing outside their reach. -/
theorem exec_only_twin {c : Instr} (s : State) (h : familyOf c = .twin) : OnlyR (frameTwin c) s (exec c s) := by
  cases c with
  | arbPatternRecognised => exact (execArbPatternRecognised_only ..).mono (by dsimp only [frameTwin]; decide)
  | twinStatusSend => exact (execTwinStatusSend_only ..).mono (by dsimp only [frameTwin]; decide)
  | twinStatusBlock => exact (execTwinStatusBlock_only ..).mono (by dsimp only [frameTwin]; decide)
  | twinPeerLost => exact (execTwinPeerLost_only ..).mono (by dsimp only [frameTwin]; decide)
  | twinPeerFound => exact (execTwinPeerFound_only ..).mono (by dsimp only [frameTwin]; decide)
  | twinCopySend => exact (execTwinCopySend_only ..).mono (by dsimp only [frameTwin]; decide)
  | twinCopyReceive => exact (execTwinCopyReceive_only ..).mono (by dsimp only [frameTwin]; decide)
  | twinCopyAck => exact (execTwinCopyAck_only ..).mono (by dsimp only [frameTwin]; decide)
  | salvoMirrorReceive => exact (execSalvoMirrorReceive_only ..).mono (by dsimp only [frameTwin]; decide)
  | takeMirrorReceive => exact (execTakeMirrorReceive_only ..).mono (by dsimp only [frameTwin]; decide)
  | writeThroughAck => exact (execWriteThroughAck_only ..).mono (by dsimp only [frameTwin]; decide)
  | writeThroughTimeout => exact (execWriteThroughTimeout_only ..).mono (by dsimp only [frameTwin]; decide)
  | twinAnnounce => exact (execTwinAnnounce_only ..).mono (by dsimp only [frameTwin]; decide)
  | _ => nomatch h

/-- Commands of the family `lane` keep what every step keeps. -/
theorem exec_kept_lane {c : Instr} (s : State) (h : familyOf c = .lane) : KeptR s (exec c s) := by
  cases c with
  | ethPllLock => exact execEthPllLock_kept ..
  | laneAligned => exact execLaneAligned_kept ..
  | laneAlignLost => exact execLaneAlignLost_kept ..
  | saddleAutoSlip => exact execSaddleAutoSlip_kept ..
  | saddleMarker => exact execSaddleMarker_kept ..
  | saddleSeed => exact execSaddleSeed_kept ..
  | saddleTrainWord => exact execSaddleTrainWord_kept ..
  | saddleTrainStep => exact execSaddleTrainStep_kept ..
  | markerMissing => exact execMarkerMissing_kept ..
  | saddleMessage dt before start rest => exact execSaddleMessage_kept dt before start rest s
  | spurRefLost => exact execSpurRefLost_kept ..
  | spurRefRestored => exact execSpurRefRestored_kept ..
  | octetPllUnlock => exact execOctetPllUnlock_kept ..
  | lanePrbsLocked => exact execLanePrbsLocked_kept ..
  | lanePrbsLost => exact execLanePrbsLost_kept ..
  | octetPllLock => exact execOctetPllLock_kept ..
  | laneClockLockLost => exact execLaneClockLockLost_kept ..
  | laneCdrLocked => exact execLaneCdrLocked_kept ..
  | _ => nomatch h

/-- Commands of the family `lane` change nothing outside their reach. -/
theorem exec_only_lane {c : Instr} (s : State) (h : familyOf c = .lane) : OnlyR (frameLane c) s (exec c s) := by
  cases c with
  | ethPllLock => exact (execEthPllLock_only ..).mono (by dsimp only [frameLane]; decide)
  | laneAligned => exact (execLaneAligned_only ..).mono (by dsimp only [frameLane]; decide)
  | laneAlignLost => exact (execLaneAlignLost_only ..).mono (by dsimp only [frameLane]; decide)
  | saddleAutoSlip => exact (execSaddleAutoSlip_only ..).mono (by dsimp only [frameLane]; decide)
  | saddleMarker => exact (execSaddleMarker_only ..).mono (by dsimp only [frameLane]; decide)
  | saddleSeed => exact (execSaddleSeed_only ..).mono (by dsimp only [frameLane]; decide)
  | saddleTrainWord => exact (execSaddleTrainWord_only ..).mono (by dsimp only [frameLane]; decide)
  | saddleTrainStep => exact (execSaddleTrainStep_only ..).mono (by dsimp only [frameLane]; decide)
  | markerMissing => exact (execMarkerMissing_only ..).mono (by dsimp only [frameLane]; decide)
  | saddleMessage dt before start rest => exact (execSaddleMessage_only dt before start rest s).mono (by dsimp only [frameLane]; decide)
  | spurRefLost => exact (execSpurRefLost_only ..).mono (by dsimp only [frameLane]; decide)
  | spurRefRestored => exact (execSpurRefRestored_only ..).mono (by dsimp only [frameLane]; decide)
  | octetPllUnlock => exact (execOctetPllUnlock_only ..).mono (by dsimp only [frameLane]; decide)
  | lanePrbsLocked => exact (execLanePrbsLocked_only ..).mono (by dsimp only [frameLane]; decide)
  | lanePrbsLost => exact (execLanePrbsLost_only ..).mono (by dsimp only [frameLane]; decide)
  | octetPllLock => exact (execOctetPllLock_only ..).mono (by dsimp only [frameLane]; decide)
  | laneClockLockLost => exact (execLaneClockLockLost_only ..).mono (by dsimp only [frameLane]; decide)
  | laneCdrLocked => exact (execLaneCdrLocked_only ..).mono (by dsimp only [frameLane]; decide)
  | _ => nomatch h

/-- Commands of the family `moraine` keep what every step keeps. -/
theorem exec_kept_moraine {c : Instr} (s : State) (h : familyOf c = .moraine) : KeptR s (exec c s) := by
  cases c with
  | morDriveLost => exact execMorDriveLost_kept ..
  | morDriveRetry => exact execMorDriveRetry_kept ..
  | morDriveUp => exact execMorDriveUp_kept ..
  | smartPoll => exact execSmartPoll_kept ..
  | nvmeCompletion => exact execNvmeCompletion_kept ..
  | playbackFrameWrite => exact execPlaybackFrameWrite_kept ..
  | delayFrameWrite => exact execDelayFrameWrite_kept ..
  | _ => nomatch h

/-- Commands of the family `moraine` change nothing outside their reach. -/
theorem exec_only_moraine {c : Instr} (s : State) (h : familyOf c = .moraine) : OnlyR (frameMoraine c) s (exec c s) := by
  cases c with
  | morDriveLost => exact (execMorDriveLost_only ..).mono (by dsimp only [frameMoraine]; decide)
  | morDriveRetry => exact (execMorDriveRetry_only ..).mono (by dsimp only [frameMoraine]; decide)
  | morDriveUp => exact (execMorDriveUp_only ..).mono (by dsimp only [frameMoraine]; decide)
  | smartPoll => exact (execSmartPoll_only ..).mono (by dsimp only [frameMoraine]; decide)
  | nvmeCompletion => exact (execNvmeCompletion_only ..).mono (by dsimp only [frameMoraine]; decide)
  | playbackFrameWrite => exact (execPlaybackFrameWrite_only ..).mono (by dsimp only [frameMoraine]; decide)
  | delayFrameWrite => exact (execDelayFrameWrite_only ..).mono (by dsimp only [frameMoraine]; decide)
  | _ => nomatch h

/-- Commands of the family `control` keep what every step keeps. -/
theorem exec_kept_control {c : Instr} (s : State) (h : familyOf c = .control) : KeptR s (exec c s) := by
  cases c with
  | ctlFrameReceived => exact execCtlFrameReceived_kept ..
  | ctlTxFrame => exact execCtlTxFrame_kept ..
  | ctlLinkUp => exact execCtlLinkUp_kept ..
  | ctlLinkDown => exact execCtlLinkDown_kept ..
  | ctlSpeedCycle => exact execCtlSpeedCycle_kept ..
  | ctlLoadWindow => exact execCtlLoadWindow_kept ..
  | ctlStepFail => exact execCtlStepFail_kept ..
  | cmacCtrlWrite => exact execCmacCtrlWrite_kept ..
  | ctlTxFrameWait => exact execCtlTxFrameWait_kept ..
  | _ => nomatch h

/-- Commands of the family `control` change nothing outside their reach. -/
theorem exec_only_control {c : Instr} (s : State) (h : familyOf c = .control) : OnlyR (frameControl c) s (exec c s) := by
  cases c with
  | ctlFrameReceived => exact (execCtlFrameReceived_only ..).mono (by dsimp only [frameControl]; decide)
  | ctlTxFrame => exact (execCtlTxFrame_only ..).mono (by dsimp only [frameControl]; decide)
  | ctlLinkUp => exact (execCtlLinkUp_only ..).mono (by dsimp only [frameControl]; decide)
  | ctlLinkDown => exact (execCtlLinkDown_only ..).mono (by dsimp only [frameControl]; decide)
  | ctlSpeedCycle => exact (execCtlSpeedCycle_only ..).mono (by dsimp only [frameControl]; decide)
  | ctlLoadWindow => exact (execCtlLoadWindow_only ..).mono (by dsimp only [frameControl]; decide)
  | ctlStepFail => exact (execCtlStepFail_only ..).mono (by dsimp only [frameControl]; decide)
  | cmacCtrlWrite => exact (execCmacCtrlWrite_only ..).mono (by dsimp only [frameControl]; decide)
  | ctlTxFrameWait => exact (execCtlTxFrameWait_only ..).mono (by dsimp only [frameControl]; decide)
  | _ => nomatch h

/-- Commands of the family `bus` keep what every step keeps. -/
theorem exec_kept_bus {c : Instr} (s : State) (h : familyOf c = .bus) : KeptR s (exec c s) := by
  cases c with
  | colRequest => exact execColRequest_kept ..
  | colPortClockStop => exact execColPortClockStop_kept ..
  | colFence dt value => exact execColFence_kept dt value s
  | colApertureRefused => exact execColApertureRefused_kept ..
  | scrTailWrite => exact execScrTailWrite_kept ..
  | scrDescriptorStart => exact execScrDescriptorStart_kept ..
  | scrPeriphRequest => exact execScrPeriphRequest_kept ..
  | scrDescriptorComplete => exact execScrDescriptorComplete_kept ..
  | scrHalted => exact execScrHalted_kept ..
  | scrStall => exact execScrStall_kept ..
  | scrAbort => exact execScrAbort_kept ..
  | scrClear => exact execScrClear_kept ..
  | scrChannelDisable => exact execScrChannelDisable_kept ..
  | regCounterClear => exact execRegCounterClear_kept ..
  | interruptForward => exact execInterruptForward_kept ..
  | cacheClean => exact execCacheClean_kept ..
  | cacheInval => exact execCacheInval_kept ..
  | cacheCleanInval => exact execCacheCleanInval_kept ..
  | tmwTimerExpiry => exact execTmwTimerExpiry_kept ..
  | tmwAlarmArm => exact execTmwAlarmArm_kept ..
  | tmwAlarmFire => exact execTmwAlarmFire_kept ..
  | tmwPtpLatch => exact execTmwPtpLatch_kept ..
  | registerWrite => exact execRegisterWrite_kept ..
  | osfRead => exact execOsfRead_kept ..
  | osfProgram => exact execOsfProgram_kept ..
  | osfErase4k => exact execOsfErase4k_kept ..
  | osfErase64k => exact execOsfErase64k_kept ..
  | osfDone => exact execOsfDone_kept ..
  | _ => nomatch h

/-- Commands of the family `bus` change nothing outside their reach. -/
theorem exec_only_bus {c : Instr} (s : State) (h : familyOf c = .bus) : OnlyR (frameBus c) s (exec c s) := by
  cases c with
  | colRequest => exact (execColRequest_only ..).mono (by dsimp only [frameBus]; decide)
  | colPortClockStop => exact (execColPortClockStop_only ..).mono (by dsimp only [frameBus]; decide)
  | colFence dt value => exact (execColFence_only dt value s).mono (by dsimp only [frameBus]; decide)
  | colApertureRefused => exact (execColApertureRefused_only ..).mono (by dsimp only [frameBus]; decide)
  | scrTailWrite => exact (execScrTailWrite_only ..).mono (by dsimp only [frameBus]; decide)
  | scrDescriptorStart => exact (execScrDescriptorStart_only ..).mono (by dsimp only [frameBus]; decide)
  | scrPeriphRequest => exact (execScrPeriphRequest_only ..).mono (by dsimp only [frameBus]; decide)
  | scrDescriptorComplete => exact (execScrDescriptorComplete_only ..).mono (by dsimp only [frameBus]; decide)
  | scrHalted => exact (execScrHalted_only ..).mono (by dsimp only [frameBus]; decide)
  | scrStall => exact (execScrStall_only ..).mono (by dsimp only [frameBus]; decide)
  | scrAbort => exact (execScrAbort_only ..).mono (by dsimp only [frameBus]; decide)
  | scrClear => exact (execScrClear_only ..).mono (by dsimp only [frameBus]; decide)
  | scrChannelDisable => exact (execScrChannelDisable_only ..).mono (by dsimp only [frameBus]; decide)
  | regCounterClear => exact (execRegCounterClear_only ..).mono (by dsimp only [frameBus]; decide)
  | interruptForward => exact (execInterruptForward_only ..).mono (by dsimp only [frameBus]; decide)
  | cacheClean => exact (execCacheClean_only ..).mono (by dsimp only [frameBus]; decide)
  | cacheInval => exact (execCacheInval_only ..).mono (by dsimp only [frameBus]; decide)
  | cacheCleanInval => exact (execCacheCleanInval_only ..).mono (by dsimp only [frameBus]; decide)
  | tmwTimerExpiry => exact (execTmwTimerExpiry_only ..).mono (by dsimp only [frameBus]; decide)
  | tmwAlarmArm => exact (execTmwAlarmArm_only ..).mono (by dsimp only [frameBus]; decide)
  | tmwAlarmFire => exact (execTmwAlarmFire_only ..).mono (by dsimp only [frameBus]; decide)
  | tmwPtpLatch => exact (execTmwPtpLatch_only ..).mono (by dsimp only [frameBus]; decide)
  | registerWrite => exact (execRegisterWrite_only ..).mono (by dsimp only [frameBus]; decide)
  | osfRead => exact (execOsfRead_only ..).mono (by dsimp only [frameBus]; decide)
  | osfProgram => exact (execOsfProgram_only ..).mono (by dsimp only [frameBus]; decide)
  | osfErase4k => exact (execOsfErase4k_only ..).mono (by dsimp only [frameBus]; decide)
  | osfErase64k => exact (execOsfErase64k_only ..).mono (by dsimp only [frameBus]; decide)
  | osfDone => exact (execOsfDone_only ..).mono (by dsimp only [frameBus]; decide)
  | _ => nomatch h

/-- Commands of the family `monitor` keep what every step keeps. -/
theorem exec_kept_monitor {c : Instr} (s : State) (h : familyOf c = .monitor) : KeptR s (exec c s) := by
  cases c with
  | memCorrected => exact execMemCorrected_kept ..
  | memUncorrectable => exact execMemUncorrectable_kept ..
  | memScrubRead => exact execMemScrubRead_kept ..
  | monSample => exact execMonSample_kept ..
  | monPeriod => exact execMonPeriod_kept ..
  | evtPop dt value => exact execEvtPop_kept dt value s
  | evtSwraise => exact execEvtSwraise_kept ..
  | evtPinAck => exact execEvtPinAck_kept ..
  | evtPulseEnd => exact execEvtPulseEnd_kept ..
  | _ => nomatch h

/-- Commands of the family `monitor` change nothing outside their reach. -/
theorem exec_only_monitor {c : Instr} (s : State) (h : familyOf c = .monitor) : OnlyR (frameMonitor c) s (exec c s) := by
  cases c with
  | memCorrected => exact (execMemCorrected_only ..).mono (by dsimp only [frameMonitor]; decide)
  | memUncorrectable => exact (execMemUncorrectable_only ..).mono (by dsimp only [frameMonitor]; decide)
  | memScrubRead => exact (execMemScrubRead_only ..).mono (by dsimp only [frameMonitor]; decide)
  | monSample => exact (execMonSample_only ..).mono (by dsimp only [frameMonitor]; decide)
  | monPeriod => exact (execMonPeriod_only ..).mono (by dsimp only [frameMonitor]; decide)
  | evtPop dt value => exact (execEvtPop_only dt value s).mono (by dsimp only [frameMonitor]; decide)
  | evtSwraise => exact (execEvtSwraise_only ..).mono (by dsimp only [frameMonitor]; decide)
  | evtPinAck => exact (execEvtPinAck_only ..).mono (by dsimp only [frameMonitor]; decide)
  | evtPulseEnd => exact (execEvtPulseEnd_only ..).mono (by dsimp only [frameMonitor]; decide)
  | _ => nomatch h

/-- Commands of the family `gate` keep what every step keeps. -/
theorem exec_kept_gate {c : Instr} (s : State) (h : familyOf c = .gate) : KeptR s (exec c s) := by
  cases c with
  | gateVersion => exact execGateVersion_kept ..
  | gateHeartbeat => exact execGateHeartbeat_kept ..
  | gateRestart => exact execGateRestart_kept ..
  | gateHbmRegion => exact execGateHbmRegion_kept ..
  | gateAuthHello => exact execGateAuthHello_kept ..
  | gateAuthProof => exact execGateAuthProof_kept ..
  | gateMsgOpen => exact execGateMsgOpen_kept ..
  | gateMsgSeal => exact execGateMsgSeal_kept ..
  | gateSessionEnd dt session reason => exact execGateSessionEnd_kept dt session reason s
  | gateCeSubmit => exact execGateCeSubmit_kept ..
  | gateCeRead => exact execGateCeRead_kept ..
  | gateKeyWrite => exact execGateKeyWrite_kept ..
  | gateOwnerLock => exact execGateOwnerLock_kept ..
  | gateOtpProgram => exact execGateOtpProgram_kept ..
  | gateOtpRevoke => exact execGateOtpRevoke_kept ..
  | gateStoreLoad => exact execGateStoreLoad_kept ..
  | gateStoreSave => exact execGateStoreSave_kept ..
  | gateTwinPut => exact execGateTwinPut_kept ..
  | gateTwinGet => exact execGateTwinGet_kept ..
  | gateCrypto => exact execGateCrypto_kept ..
  | gateUpdate => exact execGateUpdate_kept ..
  | gateDone => exact execGateDone_kept ..
  | _ => nomatch h

/-- Commands of the family `gate` change nothing outside their reach. -/
theorem exec_only_gate {c : Instr} (s : State) (h : familyOf c = .gate) : OnlyR (frameGate c) s (exec c s) := by
  cases c with
  | gateVersion => exact (execGateVersion_only ..).mono (by dsimp only [frameGate]; decide)
  | gateHeartbeat => exact (execGateHeartbeat_only ..).mono (by dsimp only [frameGate]; decide)
  | gateRestart => exact (execGateRestart_only ..).mono (by dsimp only [frameGate]; decide)
  | gateHbmRegion => exact (execGateHbmRegion_only ..).mono (by dsimp only [frameGate]; decide)
  | gateAuthHello => exact (execGateAuthHello_only ..).mono (by dsimp only [frameGate]; decide)
  | gateAuthProof => exact (execGateAuthProof_only ..).mono (by dsimp only [frameGate]; decide)
  | gateMsgOpen => exact (execGateMsgOpen_only ..).mono (by dsimp only [frameGate]; decide)
  | gateMsgSeal => exact (execGateMsgSeal_only ..).mono (by dsimp only [frameGate]; decide)
  | gateSessionEnd dt session reason => exact (execGateSessionEnd_only dt session reason s).mono (by dsimp only [frameGate]; decide)
  | gateCeSubmit => exact (execGateCeSubmit_only ..).mono (by dsimp only [frameGate]; decide)
  | gateCeRead => exact (execGateCeRead_only ..).mono (by dsimp only [frameGate]; decide)
  | gateKeyWrite => exact (execGateKeyWrite_only ..).mono (by dsimp only [frameGate]; decide)
  | gateOwnerLock => exact (execGateOwnerLock_only ..).mono (by dsimp only [frameGate]; decide)
  | gateOtpProgram => exact (execGateOtpProgram_only ..).mono (by dsimp only [frameGate]; decide)
  | gateOtpRevoke => exact (execGateOtpRevoke_only ..).mono (by dsimp only [frameGate]; decide)
  | gateStoreLoad => exact (execGateStoreLoad_only ..).mono (by dsimp only [frameGate]; decide)
  | gateStoreSave => exact (execGateStoreSave_only ..).mono (by dsimp only [frameGate]; decide)
  | gateTwinPut => exact (execGateTwinPut_only ..).mono (by dsimp only [frameGate]; decide)
  | gateTwinGet => exact (execGateTwinGet_only ..).mono (by dsimp only [frameGate]; decide)
  | gateCrypto => exact (execGateCrypto_only ..).mono (by dsimp only [frameGate]; decide)
  | gateUpdate => exact (execGateUpdate_only ..).mono (by dsimp only [frameGate]; decide)
  | gateDone => exact (execGateDone_only ..).mono (by dsimp only [frameGate]; decide)
  | _ => nomatch h

/-- A command keeps what every step keeps: the queue, its time, and soundness. -/
theorem exec_kept (c : Instr) (s : State) : KeptR s (exec c s) := by
  cases family : familyOf c with
  | power => exact exec_kept_power s family
  | object => exact exec_kept_object s family
  | session => exact exec_kept_session s family
  | salvo => exact exec_kept_salvo s family
  | sdi => exact exec_kept_sdi s family
  | picture => exact exec_kept_picture s family
  | audio => exact exec_kept_audio s family
  | tarn => exact exec_kept_tarn s family
  | media => exact exec_kept_media s family
  | watershed => exact exec_kept_watershed s family
  | twin => exact exec_kept_twin s family
  | lane => exact exec_kept_lane s family
  | moraine => exact exec_kept_moraine s family
  | control => exact exec_kept_control s family
  | bus => exact exec_kept_bus s family
  | monitor => exact exec_kept_monitor s family
  | gate => exact exec_kept_gate s family

/-- A command changes nothing outside its reach. -/
theorem exec_only (c : Instr) (s : State) : OnlyR (frameOf c) s (exec c s) := by
  unfold frameOf
  cases family : familyOf c with
  | power => exact exec_only_power s family
  | object => exact exec_only_object s family
  | session => exact exec_only_session s family
  | salvo => exact exec_only_salvo s family
  | sdi => exact exec_only_sdi s family
  | picture => exact exec_only_picture s family
  | audio => exact exec_only_audio s family
  | tarn => exact exec_only_tarn s family
  | media => exact exec_only_media s family
  | watershed => exact exec_only_watershed s family
  | twin => exact exec_only_twin s family
  | lane => exact exec_only_lane s family
  | moraine => exact exec_only_moraine s family
  | control => exact exec_only_control s family
  | bus => exact exec_only_bus s family
  | monitor => exact exec_only_monitor s family
  | gate => exact exec_only_gate s family

/-- A command taken from the queue of a sound state meets a sound state. -/
theorem State.Sound.withPending {s : State} (h : s.Sound) (l : List Instr) : ({ s with pending := l } : State).Sound := h

/-- A step idles or is the front command on the rest of the queue. -/
theorem step_cases (s : State) :
    s.pending = [] ∧ step s = .next s ∨ ∃ c l, s.pending = c :: l ∧ step s = exec c { s with pending := l } := by
  unfold step
  cases s.pending with
  | nil => exact .inl ⟨rfl, rfl⟩
  | cons c l => exact .inr ⟨c, l, rfl, rfl⟩

/-- Settles O1: the definition of a step, at a queue with a front. -/
theorem stepRunsFrontCommand : Obligations.StepRunsFrontCommand := by
  intro s c rest h
  simp [step, h]

/-- Settles O2: the definition of a step, at an empty queue. -/
theorem stepIdlesOnEmptyQueue : Obligations.StepIdlesOnEmptyQueue := by
  intro s h
  simp [step, h]

/-- Settles O3: a command answers and keeps the queue and the time, and a step takes its command from the queue before. -/
theorem stepAnswers : Obligations.StepAnswers := by
  intro s
  obtain ⟨empty, idle⟩ | ⟨c, l, queue, runs⟩ := step_cases s
  · exact ⟨s, idle, by rw [empty]; rfl, Nat.le_refl _⟩
  · obtain ⟨t, answers, -⟩ := exec_answers c { s with pending := l }
    have kept := (exec_kept c _).kept t answers
    exact ⟨t, runs.trans answers, by rw [kept.pending, queue]; rfl, kept.now⟩

/-- Settles O5: every command keeps a sound state sound, and taking it from the queue changes nothing that soundness is about. -/
theorem stepKeepsSound : Obligations.StepKeepsSound := by
  intro s t sound stepped
  obtain ⟨-, idle⟩ | ⟨c, l, -, runs⟩ := step_cases s
  · cases idle.symm.trans stepped
    exact sound
  · exact ((exec_kept c _).kept t (runs.symm.trans stepped)).sound (sound.withPending l)

/-- Settles O10: each command changes nothing outside its reach. -/
theorem commandFrame : Obligations.CommandFrame := fun c s => (exec_only c s).only

/-- Settles O11: every command answers, keeps the queue and the time, and stays within its reach. -/
theorem commandsComplete : Obligations.CommandsComplete := by
  intro c s
  obtain ⟨t, answers, held⟩ := exec_answers c s
  have kept := (exec_kept c s).kept t answers
  exact ⟨t, answers, kept.pending, kept.now, (exec_only c s).only t answers, held⟩

end Sys2Proof.Machine
end

section
/-!
SUPPORT. A message that a session holds starts when an answer that it waited for is given (R211, R467), at STORE_SAVED and at
WRITE_THROUGH_ACK too: what it changes then changes at a command of another family.
-/
namespace Sys2Proof.Machine
set_option Elab.async false

/-- An Owner session that holds one message, number 5, that nothing holds back any more. -/
def holder (r : Req) : Session :=
  { role := 3
    encrypted := false
    tcp := true
    port := 0
    addr := []
    peerPort := 0
    outstanding := [5]
    held := [⟨5, 0, r, 0⟩] }

/-- A running, provisioned device whose session 1 holds one message. -/
def heldOne (r : Req) : State :=
  { State.reset with
    boot := { stage := .running, resetLow := false, started := true, uplandRuns := true }
    il := {
      ctlUp := true
      roleKeys := [(3, [1])]
      sessions := [(1, holder r)] } }

/-- That device during a save, with an update of session 1 under way: the held message programs the byte 1 at its start. -/
def savingUpdate : State :=
  { (heldOne (.write Obj.updateData 0 [0, 0, 0, 0, 1])).setN Obj.updateState 0 1 with
    st := { save := some ⟨0, false, ⟨1, 0, [], [], none⟩, 0, [], []⟩ }
    up := { session := 1 } }

/-- That device with a write that waits for the standby: the held message burns an owner key. -/
def ackedKey : State :=
  { heldOne (.write Obj.ownerKeyProgram 0 (List.replicate 48 1)) with
    tw := { through := [⟨none, 0, adr Obj.layerGfxOffset 0, .num 0⟩] } }

/-- Refutes O7: a held UPDATE_DATA starts at STORE_SAVED, a command of the family `power`, and programs a byte of the flash. -/
theorem not_flashKept : ¬ Obligations.FlashKept := by
  unfold Obligations.FlashKept
  intro h
  have same := h (.storeSaved 0 true) savingUpdate _ (by decide) rfl 0x1000000
  exact absurd same (by decide +kernel)

/-- Refutes O8: a held OWNER_KEY_PROGRAM starts at WRITE_THROUGH_ACK, a command of the family `twin`, and burns a key's hash. -/
theorem not_ownerKeysKept : ¬ Obligations.OwnerKeysKept := by
  unfold Obligations.OwnerKeysKept
  intro h
  obtain ⟨hashes, -⟩ := h (.writeThroughAck 0) ackedKey _ (by decide) rfl
  exact absurd hashes (by decide +kernel)

end Sys2Proof.Machine
end

section
/-!
SUPPORT. The state after reset (R478).
-/
namespace Sys2Proof.Machine
set_option Elab.async false

/-- The state after reset lists nothing and holds nothing, so it is sound. -/
theorem State.reset_sound : State.reset.Sound := by
  unfold State.Sound State.Canonical
  decide +kernel

/-- Settles O4: no table lists an entry after reset, so everything reads as its default. -/
theorem resetState : Obligations.ResetState := by
  unfold Obligations.ResetState
  refine ⟨fun a => ?_, fun a => ?_, fun a => ?_, fun n => ?_, fun n => ?_, ?_, State.reset_sound⟩ <;> rfl

end Sys2Proof.Machine
end

section
/-!
SUPPORT. Fuses only burn (R492, R525): `Burns s t` says that what is burned in s stays burned in t. Where a function leaves the owner
key slots and the fuse security version alone, its reach says so; the functions that burn are taken one by one.
-/
namespace Sys2Proof.Machine
set_option Elab.async false

/-- The fuses of t are those of s, some burned further. -/
structure Burns (s t : State) : Prop where
  hashes : ∀ k, look s.up.ownerHashes k [] ≠ [] → look t.up.ownerHashes k [] = look s.up.ownerHashes k []
  states : ∀ k, look s.up.ownerStates k 0 ≤ look t.up.ownerStates k 0
  version : s.up.rollback ≤ t.up.rollback

theorem Burns.refl (s : State) : Burns s s := ⟨fun _ _ => rfl, fun _ => Nat.le_refl _, Nat.le_refl _⟩

theorem Burns.seq {s t u : State} (h : Burns t u) (g : Burns s t) : Burns s u where
  hashes k burned := by
    have kept := g.hashes k burned
    exact (h.hashes k (kept ▸ burned)).trans kept
  states k := (g.states k).trans (h.states k)
  version := g.version.trans h.version

/-- Where a reach has no fuses, they stay as they are. -/
theorem Burns.of_only {r : Reach} {s t : State} (h : Only r s t) (owners : Part.owners ∉ r.parts := by decide)
    (rollback : Part.rollback ∉ r.parts := by decide) : Burns s t := by
  obtain ⟨hashes, states⟩ := Prod.mk.inj (h.part .owners owners (by decide) (by decide))
  have version : t.up.rollback = s.up.rollback := h.part .rollback rollback (by decide) (by decide)
  exact ⟨fun k _ => by rw [hashes], fun k => by rw [states], version.ge⟩

theorem Burns.still {r : Reach} {s t u : State} (h : Only r t u) (g : Burns s t) (owners : Part.owners ∉ r.parts := by decide)
    (rollback : Part.rollback ∉ r.parts := by decide) : Burns s u := (Burns.of_only h owners rollback).seq g

/-- A state with the same update part. -/
theorem Burns.upd {s t u : State} (g : Burns s t) (same : u.up = t.up) : Burns s u :=
  ⟨same ▸ g.hashes, same ▸ g.states, same ▸ g.version⟩

theorem Burns.ite {p : Prop} [Decidable p] {s a b : State} (h : Burns s a) (g : Burns s b) : Burns s (if p then a else b) := by
  split
  · exact h
  · exact g

theorem Burns.foldl {α : Type} {f : State → α → State} {xs : List α} {s t : State} (h : ∀ u x, Burns u (f u x))
    (g : Burns s t) : Burns s (xs.foldl f t) := by
  induction xs generalizing t with
  | nil => exact g
  | cons x xs ih => exact ih ((h t x).seq g)

/-! ## The functions that burn -/

/-- A slot's state set to a value that is not below it. -/
theorem Burns.setState {s : State} {k v : Nat} (h : look s.up.ownerStates k 0 ≤ v) :
    Burns s { s with up := { s.up with ownerStates := put s.up.ownerStates k v } } where
  hashes _ _ := rfl
  states j := by
    show look s.up.ownerStates j 0 ≤ look (put s.up.ownerStates k v) j 0
    by_cases same : j = k
    · subst same
      rw [look_put_self]
      exact h
    · rw [look_put_ne _ _ _ _ _ same]
  version := Nat.le_refl _

theorem State.confirm_burns (s : State) : Burns s s.confirm := by
  unfold State.confirm
  split
  · refine .ite (.refl s) (.still (State.raise_only ..) (.still (State.setN_only ..) (.still (State.setN_only ..) ?_)))
    exact ⟨fun _ _ => rfl, fun _ => Nat.le_refl _, Nat.le_max_left ..⟩
  · exact .refl s

theorem State.lostBurns_burns (s : State) : Burns s s.lostBurns := by
  refine .foldl (fun t k => ?_) (.refl s)
  split
  · next lost =>
    have unused : look t.up.ownerStates k 0 = 0 := of_decide_eq_true (Bool.and_eq_true_iff.1 lost).1
    exact .still (State.raise_only ..) (.setState (unused.le.trans (Nat.zero_le _)))
  · exact .refl t

theorem State.bootControl_burns (s : State) : Burns s s.bootControl := by
  unfold State.bootControl
  refine .ite (.still (State.setN_only ..) ?_) (.ite (.ite ?_ (.still (State.fallBack_only ..) ?_))
    (.ite (.still (State.fallBack_only ..) ?_) (.refl s)))
  all_goals exact ⟨fun _ _ => rfl, fun _ => Nat.le_refl _, Nat.le_refl _⟩

theorem State.emptySlot_empty {s : State} {k : Nat} (h : s.emptySlot = some k) :
    look s.up.ownerStates k 0 = 0 ∧ look s.up.ownerHashes k [] = [] := by
  simpa using List.find?_some h

theorem State.programKey_burns (s : State) (hash : List Byte) : Burns s (s.programKey hash) := by
  unfold State.programKey
  split
  · next k slot =>
    obtain ⟨unused, empty⟩ := State.emptySlot_empty slot
    refine .still (State.raise_only ..) (.seq (.setState (unused.le.trans (Nat.zero_le 1))) (t := { s with up := { s.up with
      ownerHashes := put s.up.ownerHashes k hash } }) ⟨fun j burned => ?_, fun _ => Nat.le_refl _, Nat.le_refl _⟩)
    exact look_put_ne _ _ _ _ _ fun same => burned (same ▸ empty)
  · exact .refl s

theorem State.canRevoke_active {s : State} {k : Nat} (h : s.canRevoke k = true) : look s.up.ownerStates k 0 = 1 := by
  unfold State.canRevoke at h
  exact beq_iff_eq.1 (Bool.and_eq_true_iff.1 h).1

theorem State.revokeKey_burns {s : State} {k : Nat} (h : s.canRevoke k = true) : Burns s (s.revokeKey k) :=
  .still (State.raise_only ..) (.setState ((State.canRevoke_active h).le.trans (by decide)))

theorem State.chapterCode_of_standCheck {s : State} {a : Nat} {v : Val} (h : s.standCheck a v = none) :
    s.chapterCode a v = none := by
  unfold State.standCheck at h
  split_ifs at h <;> split at h <;> first | assumption | cases h

/-- A write of OwnerKeyRevoke that stands names a slot that can be revoked. -/
theorem State.standCheck_revoke {s : State} {a : Nat} {v : Val} (h : s.standCheck a v = none)
    (index : adrIndex a = Obj.ownerKeyRevoke) : s.canRevoke (Val.toInt v).toNat = true := by
  have code : s.chapterCode a v = if s.canRevoke (Val.toInt v).toNat then none else some Code.otpLastKey := by
    unfold State.chapterCode
    rw [index]
    rfl
  have stands := code.symm.trans (State.chapterCode_of_standCheck h)
  by_contra stays
  rw [if_neg stays] at stands
  cases stands

theorem State.trigger_burns (s : State) (i n : Nat) (v : Val) : Burns s (s.trigger i n v) := by
  unfold State.trigger
  extract_lets x b
  refine .ite (.of_only (State.gfxOffset_only ..)) (.ite (.of_only (State.gfxData_only ..)) (.ite (.of_only (State.shaperData_only ..))
    (.ite (.of_only (State.lutOffset_only ..)) (.ite (.of_only (State.lutData_only ..)) (.ite (.of_only (State.timeSet_only ..))
    (.ite (.ite (.of_only (State.trainRequest_only ..)) (.refl s)) (.ite (.refl s) (.ite (.of_only (State.dropModel_only ..))
    (.ite (.of_only (State.slipLane_only ..)) (.ite (.of_only (State.saddleRestart_only ..)) (.ite (.of_only (State.morFormat_only ..))
    (.ite (.of_only (State.clipDelete_only ..)) (.ite (.of_only (State.clearHealth_only ..)) (.ite ?_
    (.ite (.of_only (State.evPinAck_only ..)) (.ite (State.confirm_burns s) (.of_only (State.clearObject_only ..))))))))))))))))))
  exact ⟨fun _ _ => rfl, fun _ => Nat.le_refl _, Nat.le_refl _⟩

theorem State.applyNow_burns (s : State) (a : Nat) (v : Val) : Burns s (s.applyNow a v) :=
  .ite (.of_only (State.putNow_only ..) (by simp) (by simp)) (State.trigger_burns ..)

/-! ## Writes -/

theorem State.classEffect_burns (s : State) (a : Nat) (v : Val) (c : Commit) : Burns s (s.classEffect a v c) := by
  unfold State.classEffect
  split
  · exact .refl s
  · exact ⟨fun _ _ => rfl, fun _ => Nat.le_refl _, Nat.le_refl _⟩
  · exact State.applyNow_burns ..

theorem State.classWrite_burns (s : State) (a : Nat) (v : Val) (c : Commit) : Burns s (s.classWrite a v c).state := by
  unfold State.classWrite
  split
  · exact .refl s
  · split
    · exact .refl s
    · exact .still (State.logWrite_only ..) (State.classEffect_burns ..)

/-- A write that may act on the device itself burns fuses at most. -/
def BurnsW (s : State) (o : Option Wrote) : Prop := ∀ w, o = some w → Burns s w.state

theorem BurnsW.ite {p : Prop} [Decidable p] {s : State} {a b : Option Wrote} (h : p → BurnsW s a) (g : BurnsW s b) :
    BurnsW s (if p then a else b) := by
  split
  · next holds => exact h holds
  · exact g

theorem BurnsW.some {s : State} {w : Wrote} (h : Burns s w.state) : BurnsW s (some w) := fun _ e => by cases e; exact h

theorem BurnsW.written {s : State} {w : Written} {x : After} (h : Burns s w.2) : BurnsW s (Option.some (Written.wrote w x)) :=
  .some (by rw [Written.wrote_state]; exact h)

theorem BurnsW.when {p : Prop} [Decidable p] {s : State} {w : Written} {x : After} (h : Burns s w.2) :
    BurnsW s (Option.some (if p then Written.wrote w x else s.wrote)) := by
  split
  · exact .written h
  · exact .some (.refl s)

/-- A write that acts on the device itself, where it stands. -/
theorem State.ownWrite_burns {s : State} {session a : Nat} {v : Val} (stands : s.standCheck a v = none) :
    BurnsW s (s.ownWrite session a v) := by
  unfold State.ownWrite
  extract_lets i x b
  exact .ite (fun _ => .some (.of_only (State.writeKey_only ..))) (.ite (fun _ => .some (.of_only (State.writeLock_only ..)))
    (.ite (fun _ => .some (State.programKey_burns ..)) (.ite (fun index => .some (State.revokeKey_burns (State.standCheck_revoke stands index)))
    (.ite (fun _ => .some (.of_only (Only.optElim (fun _ => State.setSession_only ..) (Only.refl _ s))))
    (.ite (fun _ => .some (.refl s)) (.ite (fun _ => .some (.refl s))
    (.ite (fun _ => .written (.of_only (State.updateBegin_only ..))) (.ite (fun _ => .written (.of_only (State.updateData_only ..)))
    (.ite (fun _ => .when (.of_only (State.updateCommit_only ..))) (.ite (fun _ => .when (.of_only (State.updateActivate_only ..)))
    (.ite (fun _ => .when (.of_only (State.updateAbort_only ..))) fun _ e => nomatch e)))))))))))

theorem State.writeItem_burns (s : State) (session role a : Nat) (value : List Byte) :
    Burns s (s.writeItem session role a value).state := by
  unfold State.writeItem
  split
  · exact .refl s
  · split
    · split
      · rw [Written.wrote_state]
        exact .of_only (State.updateRefuse_only ..)
      · exact .refl s
    · next stands =>
      split
      · next own => exact State.ownWrite_burns stands _ own
      · exact State.classWrite_burns ..

theorem State.writeFor_burns (s : State) (asker : Asker) (session role a : Nat) (value : List Byte) :
    Burns s (s.writeFor asker session role a value) :=
  .ite (.still (State.reply_only ..) (State.writeItem_burns ..)) (.still (State.finish_only ..) (State.writeItem_burns ..))

theorem State.bulkWriteItems_burns (s : State) (n seq role k : Nat) (l : List (Nat × Nat × List Byte)) :
    Burns s (s.bulkWriteItems n seq role k l).2.2 := by
  induction l generalizing s k with
  | nil => exact .refl s
  | cons x l ih =>
    obtain ⟨i, sub, value⟩ := x
    simp only [State.bulkWriteItems]
    split
    · exact ih ..
    · exact (ih ..).seq ((State.writeItem_burns ..).seq (.of_only (State.mark_only ..)))

theorem State.doBulkWrite_burns (s : State) (n seq : Nat) (x : Session) (l : List (Nat × Nat × List Byte)) :
    Burns s (s.doBulkWrite n seq x l) := .still (State.finish_only ..) (State.bulkWriteItems_burns ..)

theorem State.endThrough_burns (s : State) (x : Through) : Burns s (s.endThrough x) :=
  .still (State.grant_only ..) (State.classEffect_burns ..)

/-! ## Requests -/

theorem State.startReq_burns (s : State) (n seq : Nat) (r : Req) : Burns s (s.startReq n seq r) := by
  unfold State.startReq
  split
  · exact .refl s
  · split
    · exact .of_only (State.respond_only ..)
    · extract_lets l t
      have ht : Burns s t := .foldl (fun u a => .of_only (State.mark_only ..)) (.of_only (State.engage_only ..))
      clear_value t
      refine .ite (.of_only (State.respond_only ..)) ?_
      split
      · exact .still (State.doRead_only ..) ht
      · exact (State.writeFor_burns ..).seq ht
      · exact .still (State.doBulkRead_only ..) ht
      · exact (State.doBulkWrite_burns ..).seq ht
      · exact .still (State.doFence_only ..) ht
      · exact .still (State.toEngine_only ..) ht
      · exact .still (State.respond_only ..) ht
      · exact .still (State.endSession_only ..) (.still (State.respond_only ..) ht)

theorem State.releaseUpTo_burns (k : Nat) (s : State) (n : Nat) : Burns s (State.releaseUpTo k s n) := by
  induction k generalizing s with
  | zero => exact .refl s
  | succ k ih =>
    unfold State.releaseUpTo
    split
    · exact .refl s
    · dsimp only
      split
      · exact .refl s
      · exact (ih _).seq ((State.startReq_burns ..).seq (.of_only (State.setSession_only ..)))

theorem State.releaseHeld_burns (s : State) (n : Nat) : Burns s (s.releaseHeld n) := State.releaseUpTo_burns ..

theorem State.releaseAll_burns (s : State) : Burns s s.releaseAll := .foldl State.releaseHeld_burns (.refl s)

theorem State.request_burns (s : State) (n seq fenceSeq : Nat) (r : Req) : Burns s (s.request n seq fenceSeq r) := by
  unfold State.request
  split
  · exact .refl s
  · extract_lets y refuse z
    have refused (c) : Burns s (refuse c) := .still (State.respond_only ..) (.of_only (State.setSession_only ..))
    refine .ite (refused _) (.ite (refused _) (.ite (refused _) (.ite (.of_only (State.setSession_only ..)) ?_)))
    exact (State.releaseHeld_burns ..).seq ((State.startReq_burns ..).seq (.of_only (State.setSession_only ..)))

theorem State.accept_burns (s : State) (m : Msg) (f : State → State) (h : ∀ u, Burns u (f u)) : Burns s (s.accept m f) := by
  unfold State.accept
  split
  · exact .of_only (State.bump_only ..) (by simp) (by simp)
  · exact .refl s
  · dsimp only
    refine .ite ?_ ((h _).seq (.of_only (State.setSession_only ..)))
    split
    · exact .still (State.emit_only ..) (.of_only (State.setSession_only ..))
    · exact .of_only (State.setSession_only ..)

theorem State.message_burns (s : State) (m : Msg) (r : Req) : Burns s (s.message m r) :=
  .ite (State.accept_burns s m _ fun _ => State.request_burns ..) (.refl s)

/-! ## The twin link -/

theorem State.takeWrite_burns (s : State) (w : CopyWrite) : Burns s (s.takeWrite w) := by
  unfold State.takeWrite
  refine .ite (.refl s) ?_
  split
  · exact .of_only (State.keepFrame_only ..)
  · exact .of_only (State.keepRestart_only ..)
  · exact State.applyNow_burns ..

theorem State.takeResync_burns (s : State) (c : Copy) : Burns s (s.takeResync c) := by
  unfold State.takeResync
  extract_lets old next local_ waits ce t1 touched t2 t3 t4
  have h1 : Burns s t1 := .upd (.refl s) rfl
  have h2 : Burns s t2 := .foldl (fun u a => .of_only (State.written_only ..)) h1
  have h3 : Burns s t3 := .still (State.meetCommit_only ..) h2
  have h4 : Burns s t4 := .foldl (fun u w => State.applyNow_burns ..) h3
  exact .foldl (fun u x => .of_only (State.takeTable_only ..)) h4

theorem State.applyCopy_burns (s : State) (b : Nat) (c : Copy) : Burns s (s.applyCopy b c) := by
  unfold State.applyCopy
  extract_lets t1 t2 t3 t4
  have h1 : Burns s t1 := .ite (State.takeResync_burns ..) (.foldl State.takeWrite_burns (.refl s))
  have h2 : Burns s t2 := .foldl (fun u x => .of_only (State.takeExecuted_only ..)) h1
  have h3 : Burns s t3 := .foldl (fun u x => .of_only (State.takeSalvo_only ..)) h2
  have h4 : Burns s t4 := .still (State.setN_only ..) (.still (State.takeBlockOf_only ..) h3)
  exact .upd h4 rfl

theorem State.takeForwarded_burns (s : State) (words : List Nat) : Burns s (s.takeForwarded words) := by
  unfold State.takeForwarded State.takeThrough
  split
  · refine .still (State.emit_only ..) (.ite (.refl s) ?_)
    split
    · exact .of_only (State.keepFrame_only ..)
    · exact .of_only (State.keepRestart_only ..)
    · exact State.applyNow_burns ..
  · exact .refl s

/-! ## The service gate -/

theorem State.withSession_burns (s : State) (n : Nat) (f : State → Session → State) (h : ∀ u x, Burns u (f u x)) :
    Burns s (s.withSession n f) := by
  unfold State.withSession
  split
  · exact h ..
  · exact .of_only (State.gateNo_only ..)

theorem State.withOwner_burns (s : State) (n : Nat) (f : State → State) (h : ∀ u, Burns u (f u)) : Burns s (s.withOwner n f) :=
  State.withSession_burns _ _ _ fun u _ => .ite (h u) (.of_only (State.gateNo_only ..))

theorem State.withBuf_burns (s : State) (b : Buf) (f : State → State) (h : ∀ u, Burns u (f u)) : Burns s (s.withBuf b f) :=
  .ite (h s) (.still (State.gateEnd_only ..) (.of_only (State.raiseLimited_only ..)))

theorem State.gateWrite_burns (s : State) (n a : Nat) (value : List Byte) : Burns s (s.gateWrite n a value) :=
  State.withSession_burns _ _ _ fun _ _ => .ite
    (.still (State.gateOk_only ..) (.still (State.followWrite_only ..) (State.writeItem_burns ..)))
    (.still (State.gateNo_only ..) (State.writeItem_burns ..))

/-! ## The commands that burn -/

/-- A command burns fuses at most. -/
structure BurnsR (s : State) (o : Result) : Prop where
  burns : ∀ t, o = .next t → Burns s t

theorem BurnsR.of_only {r : Reach} {s : State} {o : Result} (h : OnlyR r s o) (owners : Part.owners ∉ r.parts := by decide)
    (rollback : Part.rollback ∉ r.parts := by decide) : BurnsR s o := ⟨fun t e => .of_only (h.only t e) owners rollback⟩

theorem act_burns (dt : Nat) (s : State) (f : State → State) (h : ∀ u, Burns u (f u)) : BurnsR s (act dt s f) := by
  refine ⟨fun t e => ?_⟩
  cases e
  have ticked : Burns s (s.tick dt) := .of_only (s.tick_only dt)
  exact .ite ticked ((h _).seq ticked)

theorem actIf_burns (dt : Nat) (s : State) (c : State → Bool) (f : State → State) (h : ∀ u, Burns u (f u)) :
    BurnsR s (actIf dt s c f) := act_burns dt s _ fun u => .ite (h u) (.refl u)

theorem gateCall_burns (dt : Nat) (s : State) (f : State → State) (h : ∀ u, Burns u (f u)) : BurnsR s (gateCall dt s f) :=
  actIf_burns dt s _ f h

theorem execRomStageEnd_burns (dt : Nat) (avsLinear : Bool) (avsNacks : Nat) (s : State) :
    BurnsR s (execRomStageEnd dt avsLinear avsNacks s) := by
  refine actIf_burns _ _ _ _ fun t => ?_
  extract_lets u1 u2 u3 b u4
  have h1 : Burns t u1 := .ite (.refl t) (.of_only (State.avsStart_only ..))
  have h2 : Burns t u2 := (State.lostBurns_burns _).seq ((State.bootControl_burns _).seq h1)
  have h3 : Burns t u3 := .still (State.latchTwin_only ..) (.still (State.loadPatch_only ..) h2)
  have h4 : Burns t u4 := .upd h3 rfl
  exact .ite (.still (State.enterRecovery_only ..) (.still (State.recordStart_only ..) h2))
    (.ite (.still (State.loadUpland_only ..) h4) h4)

theorem execTwinCopyReceive_burns (dt : Nat) (c : Copy) (s : State) : BurnsR s (execTwinCopyReceive dt c s) := by
  refine actIf_burns _ _ _ _ fun t => ?_
  extract_lets again u1 u2
  have h1 : Burns t u1 := State.applyCopy_burns ..
  have h2 : Burns t u2 := .ite (.still (State.endResync_only ..) h1) h1
  exact .still (State.refreshTwin_only ..) (.still (State.emit_only ..) h2)

theorem execSaddleMessage_burns (dt : Nat) (before start rest : List (List Bool)) (s : State) :
    BurnsR s (execSaddleMessage dt before start rest s) := by
  refine actIf_burns _ _ _ _ fun t => ?_
  extract_lets u
  have heard : Burns t u := .of_only (State.hearLines_only ..)
  clear_value u
  split
  · exact heard
  · exact .ite (.ite ((State.takeForwarded_burns ..).seq heard) heard)
      (.still (State.raiseLimited_only ..) (.still (State.bump_only ..) heard (by simp) (by simp)))

theorem execFenceComplete_burns (dt session seq : Nat) (s : State) : BurnsR s (execFenceComplete dt session seq s) := by
  refine actIf_burns _ _ _ _ fun t => (State.releaseHeld_burns ..).seq (.still (State.respond_only ..) ?_)
  exact .of_only (Only.optElim (fun _ => State.setSession_only ..) (Only.refl _ t))

theorem execStoreSaved_burns (dt : Nat) (ok : Bool) (s : State) : BurnsR s (execStoreSaved dt ok s) :=
  actIf_burns _ _ _ _ fun _ => (State.releaseAll_burns _).seq (.of_only (State.endSave_only ..))

theorem execWriteThroughAck_burns (dt : Nat) (s : State) : BurnsR s (execWriteThroughAck dt s) := by
  refine actIf_burns _ _ _ _ fun t => ?_
  split
  · refine .ite (.refl t) ((State.releaseAll_burns _).seq ((State.endThrough_burns ..).seq ?_))
    exact ⟨fun _ _ => rfl, fun _ => Nat.le_refl _, Nat.le_refl _⟩
  · exact .refl t

theorem execWriteThroughTimeout_burns (dt : Nat) (s : State) : BurnsR s (execWriteThroughTimeout dt s) := by
  refine actIf_burns _ _ _ _ fun t => ?_
  split
  · next x l _ =>
    have ended : Burns t (({ t with tw := { t.tw with through := l } } : State).loseMirror.endThrough x) :=
      (State.endThrough_burns ..).seq (.still (State.loseMirror_only ..)
        ⟨fun _ _ => rfl, fun _ => Nat.le_refl _, Nat.le_refl _⟩)
    exact .ite (.refl t) ((State.releaseAll_burns _).seq (.ite ended (.still (State.logWrite_only ..) ended)))
  · exact .refl t

theorem execGateCeSubmit_burns (dt session : Nat) (r : CeRequest) (buf : Buf) (s : State) :
    BurnsR s (execGateCeSubmit dt session r buf s) := by
  refine gateCall_burns _ _ _ fun t => State.withBuf_burns _ _ _ fun u => State.withSession_burns _ _ _ fun v x => ?_
  have asked : Burns v ((v.newTicket buf).2.gateOk (v.newTicket buf).1) :=
    .still (State.gateOk_only ..) ⟨fun _ _ => rfl, fun _ => Nat.le_refl _, Nat.le_refl _⟩
  dsimp only
  split
  · exact .ite ((State.writeFor_burns ..).seq asked) (.still (State.reply_only ..) asked)
  · exact .ite (.still (State.reply_only ..) asked) (.still (State.toEngine_only ..) asked)
  · exact asked

theorem execGateUpdate_burns (dt session : Nat) (op : UpdateOp) (buf : Buf) (s : State) :
    BurnsR s (execGateUpdate dt session op buf s) := by
  refine gateCall_burns _ _ _ fun t => State.withBuf_burns _ _ _ fun u => ?_
  have confirmed : Burns u u.confirm.gateOk := .still (State.gateOk_only ..) u.confirm_burns
  exact .ite (.ite confirmed (.refl u)) (.ite confirmed (State.gateWrite_burns ..))

/-- A message reaches the device: what a request of a session does. -/
theorem message_act_burns (dt : Nat) (s : State) (m : Msg) (r : Req) : BurnsR s (act dt s fun t => t.message m r) :=
  act_burns _ _ _ fun _ => State.message_burns ..

/-- A message that reaches the device where a condition holds. -/
theorem row_actIf_burns (dt : Nat) (s : State) (c : Bool) (m : Msg) (i n : Nat) (value : List Byte) :
    BurnsR s (actIf dt s (fun _ => c) fun t => t.writeRow m i n value) := actIf_burns _ _ _ _ fun _ => State.message_burns ..

theorem exec_burns_session {c : Instr} (s : State) (h : familyOf c = .session) : BurnsR s (exec c s) := by
  cases c with
  | ilrilClose | ilrilKeepalive | ilrilRead | ilrilWrite | ilrilBulkRead | ilrilBulkWrite | ilrilFence =>
    exact message_act_burns ..
  | fenceComplete => exact execFenceComplete_burns ..
  | ilrilHello | ilrilProof | challengeExpiry | lockoutEnd | lockoutTimeReset | sessionIdleTimeout | tcpConnectionClose | fenceMissing
  | notifySend | notifyResend | notifyAck => exact .of_only (exec_only ..) (of_decide_eq_true rfl) (of_decide_eq_true rfl)
  | _ => nomatch h

theorem exec_burns_salvo {c : Instr} (s : State) (h : familyOf c = .salvo) : BurnsR s (exec c s) := by
  cases c with
  | salvoOpen | salvoAdd | salvoRemove | salvoClear | salvoArm | salvoDisarm | salvoDiscard | salvoTake =>
    exact message_act_burns ..
  | salvoMirrorAck | mirrorTimeout | takeMirrorAck | houseFrameBoundary =>
    exact .of_only (exec_only ..) (of_decide_eq_true rfl) (of_decide_eq_true rfl)
  | _ => nomatch h

theorem exec_burns_object {c : Instr} (s : State) (h : familyOf c = .object) : BurnsR s (exec c s) := by
  cases c with
  | meterClear dt m i n value | counterClearWrite dt m i n value | monConfigWrite dt m i n value =>
    exact row_actIf_burns dt s _ m i n value
  | deviceRestartSoft | deviceRestartHard | morJournalRead | layerGfxOffset | layerGfxData | layerGfxFlip | colShaperData
  | colLutOffset | colLutData | colTableFlip | saddleSlip | saddleTrainRequest | clipDelete | monClear | latencyClear
  | roleKeyChanged | healthClear | wsTimeSet | wsHoldoverReset | wsHistoryClear | saddleRestart | morFormat | subscriptionWrite
  | phaseHistogramClear | lockoutClear | ownerLockChange | ownerKeyProgram | ownerKeyRevoke | storeSaveNow | updateBegin
  | updateData | updateCommit | updateActivate | updateAbort | healthConfirm => exact message_act_burns ..
  | _ => nomatch h

theorem exec_burns_gate {c : Instr} (s : State) (h : familyOf c = .gate) : BurnsR s (exec c s) := by
  cases c with
  | gateKeyWrite | gateOtpProgram =>
    exact gateCall_burns _ _ _ fun _ => State.withBuf_burns _ _ _ fun _ => State.withOwner_burns _ _ _ fun _ => State.gateWrite_burns ..
  | gateOwnerLock => exact gateCall_burns _ _ _ fun _ => State.withOwner_burns _ _ _ fun _ => State.gateWrite_burns ..
  | gateOtpRevoke =>
    exact gateCall_burns _ _ _ fun _ => State.withOwner_burns _ _ _ fun _ =>
      .ite (.of_only (State.gateNo_only ..)) (State.gateWrite_burns ..)
  | gateCeSubmit => exact execGateCeSubmit_burns ..
  | gateUpdate => exact execGateUpdate_burns ..
  | gateVersion | gateHeartbeat | gateRestart | gateHbmRegion | gateAuthHello | gateAuthProof | gateMsgOpen | gateMsgSeal
  | gateSessionEnd | gateCeRead | gateStoreLoad | gateStoreSave | gateTwinPut | gateTwinGet | gateCrypto | gateDone =>
    exact .of_only (exec_only ..) (of_decide_eq_true rfl) (of_decide_eq_true rfl)
  | _ => nomatch h

/-- Every command burns fuses at most. -/
theorem exec_burns (c : Instr) (s : State) : BurnsR s (exec c s) := by
  cases c with
  | romStageEnd => exact execRomStageEnd_burns ..
  | twinCopyReceive => exact execTwinCopyReceive_burns ..
  | saddleMessage dt before start rest => exact execSaddleMessage_burns dt before start rest s
  | storeSaved => exact execStoreSaved_burns ..
  | writeThroughAck => exact execWriteThroughAck_burns ..
  | writeThroughTimeout => exact execWriteThroughTimeout_burns ..
  | ilrilClose | ilrilKeepalive | ilrilRead | ilrilWrite | ilrilBulkRead | ilrilBulkWrite | ilrilFence | fenceComplete =>
    exact exec_burns_session s rfl
  | salvoOpen | salvoAdd | salvoRemove | salvoClear | salvoArm | salvoDisarm | salvoDiscard | salvoTake =>
    exact exec_burns_salvo s rfl
  | meterClear | counterClearWrite | monConfigWrite | deviceRestartSoft | deviceRestartHard | morJournalRead | layerGfxOffset
  | layerGfxData | layerGfxFlip | colShaperData | colLutOffset | colLutData | colTableFlip | saddleSlip | saddleTrainRequest
  | clipDelete | monClear | latencyClear | roleKeyChanged | healthClear | wsTimeSet | wsHoldoverReset | wsHistoryClear
  | saddleRestart | morFormat | subscriptionWrite | phaseHistogramClear | lockoutClear | ownerLockChange | ownerKeyProgram
  | ownerKeyRevoke | storeSaveNow | updateBegin | updateData | updateCommit | updateActivate | updateAbort | healthConfirm =>
    exact exec_burns_object s rfl
  | gateKeyWrite | gateOtpProgram | gateOwnerLock | gateOtpRevoke | gateCeSubmit | gateUpdate => exact exec_burns_gate s rfl
  | _ => exact .of_only (exec_only ..) (of_decide_eq_true rfl) (of_decide_eq_true rfl)

/-- Settles O6: every command burns fuses at most, and an idle step changes nothing. -/
theorem fusesOnlyBurn : Obligations.FusesOnlyBurn := by
  intro s t stepped
  obtain ⟨-, idle⟩ | ⟨c, l, -, runs⟩ := step_cases s
  · cases idle.symm.trans stepped
    exact ⟨fun _ _ => rfl, fun _ => Nat.le_refl _, Nat.le_refl _⟩
  · obtain ⟨hashes, states, version⟩ := (exec_burns c _).burns t (runs.symm.trans stepped)
    exact ⟨hashes, states, version⟩

end Sys2Proof.Machine
end

section
/-!
SUPPORT. Spur lanes (R394, R407, R408, R414, R416): the bits of an octet's PLLs, and the events of the Saddle link.
-/
namespace Sys2Proof.Machine
set_option Elab.async false

/-- Counting leaves the other objects as they are. -/
theorem State.n_bump_ne (s : State) (i k by_ j l : Nat) (h : j ∉ i :: eventObjs := by decide) :
    (s.bump i k by_).n j l = s.n j l := (s.bump_only i k by_).n j l (by simp) (by simpa using h)

/-! ## Octets -/

theorem State.setBitN_bit (s : State) (i n m k : Nat) (b : Bool) :
    bit ((s.setBitN i n k b).n i m) k = if m % 65536 = n % 65536 then b else bit (s.n i m) k := by
  unfold State.setBitN
  rw [State.n_setN]
  by_cases same : m % 65536 = n % 65536
  · rw [if_pos ⟨rfl, same⟩, if_pos same, bit_setBit_self]
  · rw [if_neg fun e => same e.2, if_neg same]

/-- A bit of every object in a list set: it reads so where it has been set, and where it read so before. -/
theorem State.foldl_setBitN_bit {i k n : Nat} {b : Bool} {l : List Nat} {s : State} (h : n ∈ l ∨ bit (s.n i n) k = b) :
    bit ((l.foldl (fun u o => u.setBitN i o k b) s).n i n) k = b := by
  induction l generalizing s with
  | nil => exact h.resolve_left List.not_mem_nil
  | cons o l ih =>
    refine ih ?_
    rw [State.setBitN_bit]
    split
    · exact .inr rfl
    · next other =>
      refine h.imp (fun member => ?_) id
      exact (List.mem_cons.1 member).resolve_left fun same => other (same ▸ rfl)

theorem State.foldl_setBitN_only (s : State) (i k : Nat) (b : Bool) (l : List Nat) :
    Only ⟨[], [i], []⟩ s (l.foldl (fun u o => u.setBitN i o k b) s) :=
  Only.foldl (fun _ _ => State.setBitN_only ..) (Only.refl _ s)

theorem State.mem_octetsOf {s : State} {o i : Nat} (small : o < 36) (reference : s.n Obj.octetRef o = i) : o ∈ s.octetsOf i :=
  List.mem_filter.2 ⟨List.mem_range.2 small, beq_iff_eq.2 reference⟩

/-! ## The Saddle link's events -/

/-- The events of the link's state (R408). -/
abbrev saddleEvents : List Nat := [Ev.saddleDown, Ev.saddleUp]

/-- An update of other parts than objects, after others. -/
theorem Raises.upd {l : List Nat} {s t u : State} (g : Raises l s t) (h : u.objs = t.objs) : Raises l s u :=
  ⟨fun src hl hp i hi => (congrArg (fun o => (Val.toInt (Objs.val o (adr i src))).toNat) h).trans (g.kept src hl hp i hi)⟩

/-- What is raised after time has passed is raised. -/
theorem Raised.of_tick {src subj dt : Nat} {s t : State} (h : Raised src subj (s.tick dt) t) : Raised src subj s t := h

theorem State.setSaddle_raises (s : State) (st : Nat) : Raises saddleEvents s (s.setSaddle st) := by
  unfold State.setSaddle
  extract_lets old t1 t2 sad t3
  have h1 : Raises saddleEvents s t1 := .of_only (State.setN_only ..)
  have h2 : Raises saddleEvents s t2 := .ite ((State.raise_raises ..).seq ((State.bump_raises (l := []) ..).seq h1)) h1
  have h3 : Raises saddleEvents s t3 := .ite (h2.upd rfl) h2
  exact .ite (.refl s) (.ite ((State.raise_raises ..).seq h3) h3)

theorem State.setSaddle_reads (s : State) (st : Nat) : (s.setSaddle st).n Obj.saddleState 0 = st := by
  unfold State.setSaddle
  extract_lets old t1 t2 sad t3
  have h1 : t1.n Obj.saddleState 0 = st := State.n_setN_self ..
  have h2 : t2.n Obj.saddleState 0 = st := by
    dsimp only [t2]
    split
    · exact ((State.raise_only ..).n ..).trans (((State.bump_only t1 ..).n ..).trans h1)
    · exact h1
  have h3 : t3.n Obj.saddleState 0 = st := by
    dsimp only [t3]
    split <;> exact h2
  split
  · assumption
  · split
    · exact ((State.raise_only ..).n ..).trans h3
    · exact h3

/-- A lane that is lost takes the link to ALIGN at most from TRAIN on. -/
theorem State.saddleLaneLost_raises (s : State) (k : Nat) : Raises saddleEvents s (s.saddleLaneLost k) := by
  unfold State.saddleLaneLost
  extract_lets x y t
  have lane : Raises saddleEvents s t := .of_only (State.setSl_only ..)
  have align : Raises saddleEvents t t.saddleAlign := .ite (State.setSaddle_raises ..) (.refl t)
  exact (align.seq lane).upd rfl

theorem State.saddleLaneLost_down {s : State} (k : Nat) (down : s.n Obj.saddleState 0 = 0) :
    (s.saddleLaneLost k).n Obj.saddleState 0 = 0 := by
  unfold State.saddleLaneLost
  extract_lets x y t
  have lane : t.n Obj.saddleState 0 = 0 := ((State.setSl_only ..).n ..).trans down
  have align : t.saddleAlign = t := if_neg (by rw [lane]; decide)
  exact (congrArg (State.n · Obj.saddleState 0) align).trans lane

theorem State.checkAligned_raises (s : State) : Raises saddleEvents s s.checkAligned := by
  unfold State.checkAligned
  split
  · exact .refl s
  · exact .ite (State.setSaddle_raises ..) (.refl s)

section
variable {s : State} {dt : Nat}

/-! ## PLLs and references -/

theorem State.pllLocked_locks (s : State) (o : Nat) (p : Pll) : bit ((s.pllLocked o p).n Obj.octetPllState o) (pllBit p) = true := by
  unfold State.pllLocked
  extract_lets t u
  have locked : bit (t.n Obj.octetPllState o) (pllBit p) = true := State.setBitN_reads ..
  have lanes : Only ⟨[.sad], [], []⟩ u (eight.foldl (fun v k => v.setSl k {}) u) :=
    Only.foldl (fun _ _ => State.setSl_only ..) (Only.refl _ _)
  split
  · exact (congrArg (bit · (pllBit p)) ((lanes.n ..).trans ((State.setSaddle_only t 1).n ..))).trans locked
  · exact locked

theorem State.pllLocked_align {s : State} {o : Nat} (saddle : s.octetSaddle o = true) (down : s.n Obj.saddleState 0 = 0) :
    (s.pllLocked o .eth).n Obj.saddleState 0 = 1 := by
  unfold State.pllLocked
  extract_lets t u
  have lanes : Only ⟨[.sad], [], []⟩ u (eight.foldl (fun v k => v.setSl k {}) u) :=
    Only.foldl (fun _ _ => State.setSl_only ..) (Only.refl _ _)
  have still : t.n Obj.saddleState 0 = 0 := ((State.setBitN_only s ..).n ..).trans down
  have octet : t.octetSaddle o = true := saddle
  rw [if_pos (by simp [octet, still])]
  exact (lanes.n ..).trans (State.setSaddle_reads ..)

theorem ethPllLock_locks {o : Nat} (awake : s.awake) (small : o < 36) (open_ : bit (s.n Obj.octetPllState o) 0 = false) :
    Completes (.ethPllLock dt o) s fun t =>
      bit (t.n Obj.octetPllState o) 0 = true ∧
        (s.octetSaddle o = true → s.n Obj.saddleState 0 = 0 → t.n Obj.saddleState 0 = 1) :=
  ⟨_, (actIf_next awake (by simp [small, open_]) : execEthPllLock dt o s = _), State.pllLocked_locks _ o .eth,
    State.pllLocked_align (s := s.tick dt)⟩

theorem octetPllLock_locks {o : Nat} {pll : Pll} (awake : s.awake) (small : o < 36)
    (open_ : bit (s.n Obj.octetPllState o) (pllBit pll) = false) :
    Completes (.octetPllLock dt o pll) s fun t => bit (t.n Obj.octetPllState o) (pllBit pll) = true :=
  ⟨_, (actIf_next awake (by simp [small, open_]) : execOctetPllLock dt o pll s = _), State.pllLocked_locks _ o pll⟩

/-- The ports of an octet whose Ethernet PLL has lost lock go down. -/
def State.portsDown (s : State) (o : Nat) : State :=
  (s.octetPorts o).foldl (fun v p =>
    if v.portN p Obj.portLinkState = 2 then
      ((v.setN (portIdx p Obj.portLinkState) (portNo p) 0).raise Ev.mpLinkDown p).refreshTxPort p
    else v) s

/-- The eight lanes of the Saddle link lost at once. -/
def State.lanesLost (s : State) : State := eight.foldl (fun v k => v.saddleLaneLost k) s

/-- What an unlocked PLL takes with it, after its bit and its event. -/
def State.pllDown (s : State) (o : Nat) (pll : Pll) : State :=
  match pll with
  | .eth => if (s.portsDown o).octetSaddle o then ((s.portsDown o).setSaddle 0).lanesLost else s.portsDown o
  | p => s.idleSdiLanes o p

theorem portIdx_cases (p i : Nat) : portIdx p i = i + 0x20 ∨ portIdx p i = i := by
  unfold portIdx
  split
  · exact .inl rfl
  · exact .inr rfl

theorem State.portsDown_raises (s : State) (o : Nat) : Raises (Ev.mpLinkDown :: txEvents) s (s.portsDown o) := by
  refine .foldl (fun u p => .ite ?_ (.refl u)) (.refl s)
  refine (State.refreshTxPort_raises ..).seq ((State.raise_raises ..).seq (.of_only (State.setN_only ..) List.not_mem_nil ?_))
  rcases portIdx_cases p Obj.portLinkState with e | e <;> rw [e] <;> decide

theorem State.portsDown_only (s : State) (o : Nat) : Only ⟨[.out, .pinned, .ev, .flashJournal, .media, .diskJournal],
    [Obj.portLinkStateB, Obj.portLinkState, Obj.txFlowState, Obj.portTxFramesB, Obj.portTxFrames, Obj.portTxBytesB, Obj.portTxBytes,
      Obj.eventCount, Obj.eventLastAt, Obj.eventLastSubject], [0x40000004, 0x40000008]⟩ s (s.portsDown o) := by
  refine Only.foldl (fun u p => .ite ?_ (.refl _ u)) (.refl _ s)
  refine Only.seq (State.refreshTxPort_only ..) (Only.seq (State.raise_only ..) (Only.mono (State.setN_only ..) ?_) (by decide)) (by decide)
  rcases portIdx_cases p Obj.portLinkState with e | e <;> rw [e] <;> exact of_decide_eq_true rfl

theorem State.lanesLost_raises (s : State) : Raises saddleEvents s s.lanesLost :=
  .foldl (fun u k => u.saddleLaneLost_raises k) (.refl s)

theorem State.lanesLost_only (s : State) : Only ⟨[.out, .pinned, .ev, .flashJournal, .sad, .diskJournal],
    [Obj.saddleState, Obj.saddleDownCount, Obj.eventCount, Obj.eventLastAt, Obj.eventLastSubject], [0x40000004, 0x40000008]⟩ s
    s.lanesLost := Only.foldl (fun u k => u.saddleLaneLost_only k) (.refl _ s)

theorem State.foldl_lanesLost_down {s : State} (l : List Nat) (down : s.n Obj.saddleState 0 = 0) :
    (l.foldl (fun v k => v.saddleLaneLost k) s).n Obj.saddleState 0 = 0 := by
  induction l generalizing s with
  | nil => exact down
  | cons k l ih => exact ih (State.saddleLaneLost_down k down)

theorem State.lanesLost_down {s : State} (down : s.n Obj.saddleState 0 = 0) : s.lanesLost.n Obj.saddleState 0 = 0 :=
  State.foldl_lanesLost_down eight down

theorem State.pllDown_raises (s : State) (o : Nat) (pll : Pll) :
    Raises (saddleEvents ++ Ev.mpLinkDown :: txEvents) s (s.pllDown o pll) := by
  cases pll with
  | eth =>
    have ports : Raises (saddleEvents ++ Ev.mpLinkDown :: txEvents) s (s.portsDown o) := (s.portsDown_raises o).up
    exact .ite ((State.lanesLost_raises _).seq ((State.setSaddle_raises ..).seq ports)) ports
  | _ => exact .of_only (State.idleSdiLanes_only ..)

theorem State.pllDown_only (s : State) (o : Nat) (pll : Pll) : Only ⟨[.out, .pinned, .ev, .flashJournal, .media, .sad, .diskJournal],
    [Obj.portLinkStateB, Obj.portLinkState, Obj.txFlowState, Obj.portTxFramesB, Obj.portTxFrames, Obj.portTxBytesB, Obj.portTxBytes,
      Obj.txState, Obj.txDriverMode, Obj.saddleState, Obj.saddleDownCount, Obj.eventCount, Obj.eventLastAt, Obj.eventLastSubject],
    [0x40000004, 0x40000008]⟩ s (s.pllDown o pll) := by
  cases pll with
  | eth => exact .ite ((State.lanesLost_only _).seq ((State.setSaddle_only ..).seq (s.portsDown_only o).up)) (s.portsDown_only o).up
  | _ => exact (State.idleSdiLanes_only ..).up

theorem State.pllDown_saddle {s : State} {o : Nat} (saddle : s.octetSaddle o = true) :
    (s.pllDown o .eth).n Obj.saddleState 0 = 0 := by
  have still : (s.portsDown o).octetSaddle o = true := by
    rw [State.octetSaddle, (s.portsDown_only o).same .sad]
    exact saddle
  exact (congrArg (State.n · Obj.saddleState 0) (if_pos still)).trans (State.lanesLost_down (State.setSaddle_reads ..))

theorem octetPllUnlock_unlocks {o : Nat} {pll : Pll} (awake : s.awake) (small : o < 36)
    (locked : bit (s.n Obj.octetPllState o) (pllBit pll) = true) :
    Completes (.octetPllUnlock dt o pll) s fun t =>
      bit (t.n Obj.octetPllState o) (pllBit pll) = false ∧ Raised Ev.octetPllUnlock o s t ∧
        (pll = .eth → s.octetSaddle o = true → t.n Obj.saddleState 0 = 0) := by
  let u := ((s.tick dt).setBitN Obj.octetPllState o (pllBit pll) false).raise Ev.octetPllUnlock o
  have acts : execOctetPllUnlock dt o pll s = .next (u.pllDown o pll) := by
    refine (actIf_next awake (by simp [small, locked])).trans ?_
    cases pll <;> rfl
  have cleared : bit (u.n Obj.octetPllState o) (pllBit pll) = false :=
    (congrArg (bit · (pllBit pll)) ((State.raise_only ..).n ..)).trans (State.setBitN_reads ..)
  have raised : Raised Ev.octetPllUnlock o s u :=
    .of_tick ((State.raise_raised ..).before (l := []) (.of_only ((s.tick dt).setBitN_only ..)))
  refine ⟨_, acts, ?_, raised.after (u.pllDown_raises o pll) (u.pllDown_only o pll).ptp, ?_⟩
  · exact (congrArg (bit · (pllBit pll)) ((u.pllDown_only o pll).n ..)).trans cleared
  · rintro rfl saddle
    exact State.pllDown_saddle ((congrArg (· == some (8 * o)) (congrArg Saddle.base
      ((State.raise_only ..).same .sad))).trans saddle)

theorem spurRefLost_holds {i : Nat} (awake : s.awake) (small : i < 4) (present : s.n Obj.spurRefState i = 1) :
    Completes (.spurRefLost dt i) s fun t =>
      t.n Obj.spurRefState i = 2 ∧ bit (t.n Obj.healthReasons 0) 8 = true ∧ Raised Ev.spurRefLost i s t ∧
        ∀ o < 36, s.n Obj.octetRef o = i → bit (t.n Obj.octetPllState o) 3 = true := by
  refine ⟨_, (actIf_next awake (by simp [small, present]) : execSpurRefLost dt i s = _), ?_⟩
  have told : Only _ ((s.tick dt).setN Obj.spurRefState i 2) _ := State.raise_only _ Ev.spurRefLost i
  have raised : Raised Ev.spurRefLost i s (((s.tick dt).setN Obj.spurRefState i 2).raise Ev.spurRefLost i) :=
    .of_tick ((State.raise_raised ..).before (l := []) (.of_only ((s.tick dt).setN_only ..)))
  have lost := (told.n Obj.spurRefState i).trans (State.n_setN_self ..)
  generalize ((s.tick dt).setN Obj.spurRefState i 2).raise Ev.spurRefLost i = v at raised lost
  have health := v.setReason_only 8 true
  have held := (v.setReason 8 true).foldl_setBitN_only Obj.octetPllState 3 true ((s.tick dt).octetsOf i)
  exact ⟨(held.n ..).trans ((health.n ..).trans lost), (congrArg (bit · 8) (held.n ..)).trans (v.setReason_reads 8 true),
    (raised.after (v.setReason_raises 8 true) health.ptp).after (l := []) (.of_only held) held.ptp,
    fun o octet reference => State.foldl_setBitN_bit (.inl (State.mem_octetsOf octet reference))⟩

theorem spurRefRestored_releases {i : Nat} (awake : s.awake) (small : i < 4) (lost : s.n Obj.spurRefState i = 2) :
    Completes (.spurRefRestored dt i) s fun t =>
      t.n Obj.spurRefState i = 1 ∧ Raised Ev.spurRefRestored i s t ∧
        ∀ o < 36, s.n Obj.octetRef o = i → bit (t.n Obj.octetPllState o) 3 = false := by
  refine ⟨_, (actIf_next awake (by simp [small, lost]) : execSpurRefRestored dt i s = _), ?_⟩
  extract_lets was u v
  have back : Only _ _ _ := (s.tick dt).setN_only Obj.spurRefState i 1
  have released : Only _ _ u := State.foldl_setBitN_only ((s.tick dt).setN Obj.spurRefState i 1) Obj.octetPllState 3 false
    ((s.tick dt).octetsOf i)
  have health : Only _ u v := State.setReason_only ..
  have present : v.n Obj.spurRefState i = 1 := (health.n ..).trans ((released.n ..).trans (State.n_setN_self ..))
  have free (o : Nat) (octet : o < 36) (reference : s.n Obj.octetRef o = i) : bit (v.n Obj.octetPllState o) 3 = false :=
    (congrArg (bit · 3) (health.n ..)).trans (State.foldl_setBitN_bit (.inl (State.mem_octetsOf octet reference)))
  have before : Raises [Ev.healthChange] (s.tick dt) v := (State.setReason_raises ..).seq (.still released (.of_only back))
  rw [if_pos (show was from lost)]
  exact ⟨((State.raise_only ..).n ..).trans present, .of_tick ((State.raise_raised ..).before before), fun o octet reference =>
    (congrArg (bit · 3) ((State.raise_only ..).n ..)).trans (free o octet reference)⟩

/-! ## Lanes -/

theorem laneCdrLocked_sets {l : Nat} (awake : s.awake) (small : l < 288) (searching : s.n Obj.laneState l = 1) :
    Completes (.laneCdrLocked dt l) s fun t => t.n Obj.laneState l = 2 :=
  ⟨_, (actIf_next awake (by simp [small, searching]) : execLaneCdrLocked dt l s = _), State.n_setN_self ..⟩

/-- What a lost lane takes with it: the alignment of the Saddle link, where it is one of its lanes. -/
def State.laneGone (s : State) (l : Nat) : State :=
  match s.saddleOffset l with
  | some k => s.saddleLaneLost k
  | none => s

theorem State.laneGone_only (s : State) (l : Nat) : Only ⟨[.out, .pinned, .ev, .flashJournal, .sad, .diskJournal],
    [Obj.saddleState, Obj.saddleDownCount, Obj.eventCount, Obj.eventLastAt, Obj.eventLastSubject], [0x40000004, 0x40000008]⟩ s
    (s.laneGone l) := by
  unfold State.laneGone
  split
  · exact State.saddleLaneLost_only ..
  · exact .refl _ s

theorem State.laneGone_raises (s : State) (l : Nat) : Raises saddleEvents s (s.laneGone l) := by
  unfold State.laneGone
  split
  · exact State.saddleLaneLost_raises ..
  · exact .refl s

theorem laneClockLockLost_sets {l : Nat} (awake : s.awake) (small : l < 288) (locked : 2 ≤ s.n Obj.laneState l) :
    Completes (.laneClockLockLost dt l) s fun t => t.n Obj.laneState l = 1 :=
  ⟨((s.tick dt).setN Obj.laneState l 1).laneGone l,
    (actIf_next awake (by simp [small, locked]) : execLaneClockLockLost dt l s = _),
    ((State.laneGone_only ..).n ..).trans (State.n_setN_self ..)⟩

theorem laneAligned_aligns {l : Nat} (awake : s.awake) (small : l < 288) (mode : 2 ≤ s.n Obj.laneMode l)
    (locked : s.n Obj.laneState l = 2) :
    Completes (.laneAligned dt l) s fun t => t.n Obj.laneState l = 3 ∧ Raised Ev.laneAligned l s t := by
  refine ⟨_, (actIf_next awake (by simp [small, mode, locked]) : execLaneAligned dt l s = _), ?_⟩
  extract_lets u
  have told : Only _ _ u := State.raise_only ..
  have aligned : u.n Obj.laneState l = 3 := (told.n ..).trans (State.n_setN_self ..)
  have raised : Raised Ev.laneAligned l s u :=
    .of_tick ((State.raise_raised ..).before (l := []) (.of_only ((s.tick dt).setN_only ..)))
  clear_value u
  split
  · next k _ =>
    have lane := u.setSl_only k { u.sl k with slips := 0 }
    have checked := (u.setSl k { u.sl k with slips := 0 }).checkAligned_only
    exact ⟨(checked.n ..).trans ((lane.n ..).trans aligned),
      (raised.after (l := []) (.of_only lane) lane.ptp).after (State.checkAligned_raises _) checked.ptp⟩
  · exact ⟨aligned, raised⟩

theorem laneAlignLost_counts {l k : Nat} (awake : s.awake) (small : l < 288) (aligned : s.n Obj.laneState l = 3) (many : 16 ≤ k) :
    Completes (.laneAlignLost dt l k) s fun t =>
      t.n Obj.laneState l = 2 ∧ Counted Obj.laneHdrErrors l k s t ∧ Raised Ev.laneAlignLost l s t := by
  have lost : Only ⟨[], [Obj.laneState], []⟩ (s.tick dt) ((s.tick dt).setN Obj.laneState l 2) := State.setN_only ..
  have counted := ((s.tick dt).setN Obj.laneState l 2).bump_counts Obj.laneHdrErrors l k
  have state : (((s.tick dt).setN Obj.laneState l 2).bump Obj.laneHdrErrors l k).n Obj.laneState l = 2 :=
    (State.n_bump_ne ..).trans (State.n_setN_self ..)
  have before : Raises [] (s.tick dt) (((s.tick dt).setN Obj.laneState l 2).bump Obj.laneHdrErrors l k) :=
    (State.bump_raises (l := []) ..).seq (.of_only lost)
  refine ⟨State.laneGone ((((s.tick dt).setN Obj.laneState l 2).bump Obj.laneHdrErrors l k).raise Ev.laneAlignLost l) l,
    (actIf_next awake (by simp [small, aligned, many]) : execLaneAlignLost dt l k s = _), ?_⟩
  generalize ((s.tick dt).setN Obj.laneState l 2).bump Obj.laneHdrErrors l k = v at counted state before
  have told := v.raise_only Ev.laneAlignLost l
  have gone := (v.raise Ev.laneAlignLost l).laneGone_only l
  refine ⟨(gone.n ..).trans ((told.n ..).trans state), ?_,
    (Raised.of_tick ((v.raise_raised ..).before before)).after (State.laneGone_raises ..) gone.ptp⟩
  rw [Counted, if_neg (by omega)]
  exact (gone.n ..).trans ((told.n ..).trans (counted.trans (congrArg (fun v => min (v + k) _) (lost.n ..))))

/-! ## PRBS checkers -/

theorem lanePrbsLocked_locks {l : Nat} {inverted : Bool} (awake : s.awake) (small : l < 288)
    (seeking : s.n Obj.lanePrbsState l = 1) :
    Completes (.lanePrbsLocked dt l inverted) s fun t =>
      t.n Obj.lanePrbsState l = (if inverted then 3 else 2) ∧ Raised Ev.lanePrbsLocked l s t :=
  ⟨_, (actIf_next awake (by simp [small, seeking]) : execLanePrbsLocked dt l inverted s = _),
    ((State.raise_only ..).n ..).trans (State.n_setN_self ..),
    .of_tick ((State.raise_raised ..).before (l := []) (.of_only ((s.tick dt).setN_only ..)))⟩

theorem lanePrbsLost_counts {l bits errors : Nat} (awake : s.awake) (small : l < 288) (locked : 2 ≤ s.n Obj.lanePrbsState l) :
    Completes (.lanePrbsLost dt l bits errors) s fun t =>
      t.n Obj.lanePrbsBits l = min (s.n Obj.lanePrbsBits l + bits) (counterMax Obj.lanePrbsBits l) ∧
        t.n Obj.lanePrbsErrors l = min (s.n Obj.lanePrbsErrors l + errors) (counterMax Obj.lanePrbsErrors l) ∧
        (errors ≤ 32 → t.n Obj.lanePrbsState l = s.n Obj.lanePrbsState l) ∧
        (32 < errors → t.n Obj.lanePrbsState l = 1 ∧ Counted Obj.lanePrbsLosses l 1 s t ∧ Raised Ev.lanePrbsLost l s t) := by
  refine ⟨_, (actIf_next awake (by simp [small, locked]) : execLanePrbsLost dt l bits errors s = _), ?_⟩
  extract_lets u
  have counts : u.n Obj.lanePrbsBits l = min (s.n Obj.lanePrbsBits l + bits) (counterMax Obj.lanePrbsBits l) :=
    (State.n_bump_ne ..).trans ((s.tick dt).bump_counts Obj.lanePrbsBits l bits)
  have errs : u.n Obj.lanePrbsErrors l = min (s.n Obj.lanePrbsErrors l + errors) (counterMax Obj.lanePrbsErrors l) :=
    (State.bump_counts _ Obj.lanePrbsErrors l errors).trans (congrArg (fun v => min (v + errors) _) (State.n_bump_ne ..))
  have state : u.n Obj.lanePrbsState l = s.n Obj.lanePrbsState l :=
    (State.n_bump_ne ..).trans (State.n_bump_ne ..)
  have losses : u.n Obj.lanePrbsLosses l = s.n Obj.lanePrbsLosses l :=
    (State.n_bump_ne ..).trans (State.n_bump_ne ..)
  have before : Raises [] (s.tick dt) u := (State.bump_raises (l := []) ..).seq (State.bump_raises (l := []) ..)
  clear_value u
  split
  · next many =>
    have searching := u.setN_only Obj.lanePrbsState l 1
    have told := ((u.setN Obj.lanePrbsState l 1).bump Obj.lanePrbsLosses l).raise_only Ev.lanePrbsLost l
    refine ⟨?_, ?_, fun few => absurd many (by omega), fun _ => ⟨?_, ?_, ?_⟩⟩
    · exact (told.n ..).trans ((State.n_bump_ne ..).trans ((searching.n ..).trans counts))
    · exact (told.n ..).trans ((State.n_bump_ne ..).trans ((searching.n ..).trans errs))
    · exact (told.n ..).trans ((State.n_bump_ne ..).trans (State.n_setN_self ..))
    · exact ((State.bump_counted _ Obj.lanePrbsLosses l).from_same ((searching.n ..).trans losses)).still told
    · exact .of_tick ((State.raise_raised ..).before (l := [])
        ((State.bump_raises (l := []) ..).seq (.still searching before)))
  · next few => exact ⟨counts, errs, fun _ => state, fun many => absurd many few⟩

end

/-! ## The statement -/

/-- Settles O45: each command sets its bit or its state before its event, and what the Saddle link makes of it leaves both. -/
theorem lanesAlign : Obligations.LanesAlign := by
  unfold Obligations.LanesAlign
  refine ⟨?_, ?_, ?_, ?_, ?_, ?_, ?_, ?_, ?_, ?_, ?_⟩
  · exact fun s dt o awake small open_ => ethPllLock_locks awake small open_
  · exact fun s dt o pll awake small open_ => octetPllLock_locks awake small open_
  · exact fun s dt o pll awake small locked => octetPllUnlock_unlocks awake small locked
  · exact fun s dt i awake small present => spurRefLost_holds awake small present
  · exact fun s dt i awake small lost => spurRefRestored_releases awake small lost
  · exact fun s dt l awake small searching => laneCdrLocked_sets awake small searching
  · exact fun s dt l awake small locked => laneClockLockLost_sets awake small locked
  · exact fun s dt l awake small mode locked => laneAligned_aligns awake small mode locked
  · exact fun s dt l k awake small aligned many => laneAlignLost_counts awake small aligned many
  · exact fun s dt l inverted awake small seeking => lanePrbsLocked_locks awake small seeking
  · exact fun s dt l bits errors awake small locked => lanePrbsLost_counts awake small locked

end Sys2Proof.Machine
end

section
/-!
SUPPORT. Moraine's drives (R423, R424, R427, R429): what the pool's state leaves of the drives, and the events that it raises.
-/
namespace Sys2Proof.Machine
set_option Elab.async false

/-! ## The drives and the pool -/

/-- The drives, the pool's identity, its drive set and its journal's size are as they were. -/
structure PoolKept (s t : State) : Prop where
  drives : t.mor.drives = s.mor.drives
  poolId : t.mor.poolId = s.mor.poolId
  pool : t.mor.pool = s.mor.pool
  disk : t.mor.diskJournalBytes = s.mor.diskJournalBytes

theorem PoolKept.refl (s : State) : PoolKept s s := ⟨rfl, rfl, rfl, rfl⟩

theorem PoolKept.seq {s t u : State} (h : PoolKept t u) (g : PoolKept s t) : PoolKept s u :=
  ⟨h.drives.trans g.drives, h.poolId.trans g.poolId, h.pool.trans g.pool, h.disk.trans g.disk⟩

/-- Where a reach has no part of Moraine but its journal, all the rest of it is as it was. -/
theorem Only.morRest {r : Reach} {s t : State} (h : Only r s t) (hp : Part.mor ∉ r.parts := by decide) :
    ({ t.mor with journal := [], journalSeq := 0 } : Moraine) = { s.mor with journal := [], journalSeq := 0 } :=
  h.part .mor hp (by decide) (by decide)

/-- Where a reach has no part of Moraine but its journal, the drives and the pool are as they were. -/
theorem PoolKept.of_only {r : Reach} {s t : State} (h : Only r s t) (hp : Part.mor ∉ r.parts := by decide) : PoolKept s t := by
  have drives := congrArg Moraine.drives (h.morRest hp)
  have poolId := congrArg Moraine.poolId (h.morRest hp)
  have pool := congrArg Moraine.pool (h.morRest hp)
  have disk := congrArg Moraine.diskJournalBytes (h.morRest hp)
  exact ⟨drives, poolId, pool, disk⟩

theorem Only.clips {r : Reach} {s t : State} (h : Only r s t) (hp : Part.mor ∉ r.parts := by decide) : t.mor.clips = s.mor.clips := by
  have clips := congrArg Moraine.clips (h.morRest hp)
  exact clips

theorem PoolKept.still {r : Reach} {s t u : State} (h : Only r t u) (g : PoolKept s t) (hp : Part.mor ∉ r.parts := by decide) :
    PoolKept s u := (PoolKept.of_only h hp).seq g

theorem PoolKept.ite {p : Prop} [Decidable p] {s a b : State} (h : PoolKept s a) (g : PoolKept s b) :
    PoolKept s (if p then a else b) := by
  split
  · exact h
  · exact g

theorem PoolKept.foldl {α : Type} {f : State → α → State} {xs : List α} {s t : State} (h : ∀ u x, PoolKept u (f u x))
    (g : PoolKept s t) : PoolKept s (xs.foldl f t) := by
  induction xs generalizing t with
  | nil => exact g
  | cons x xs ih => exact ih ((h t x).seq g)

theorem PoolKept.drive {s t : State} (h : PoolKept s t) (d : Nat) : t.drive d = s.drive d :=
  congrArg (fun l : Table Drive => look l d {}) h.drives

theorem State.endRecord_poolKept (s : State) (r state : Nat) : PoolKept s (s.endRecord r state) :=
  .still (State.raise_only ..) (.still (State.setN_only ..) ⟨rfl, rfl, rfl, rfl⟩)

theorem State.emptyRing_poolKept (s : State) (l : Nat) : PoolKept s (s.emptyRing l) := ⟨rfl, rfl, rfl, rfl⟩

theorem State.poolDown_poolKept (s : State) : PoolKept s s.poolDown := by
  unfold State.poolDown
  extract_lets running s1 s2 mor s3
  have h1 : PoolKept s s1 := .foldl (fun u r => u.endRecord_poolKept r 3) (.refl s)
  have h2 : PoolKept s s2 := .foldl State.emptyRing_poolKept h1
  have h3 : PoolKept s s3 := .seq (t := s2) ⟨rfl, rfl, rfl, rfl⟩ h2
  exact .still (State.refreshSlots_only ..) h3

theorem State.poolUp_poolKept (s : State) : PoolKept s s.poolUp :=
  .foldl (fun u p => ⟨rfl, rfl, rfl, rfl⟩) (.of_only (State.setN_only ..))

theorem State.refreshPool_poolKept (s : State) : PoolKept s s.refreshPool := by
  unfold State.refreshPool
  extract_lets v mor s0 old t u
  have h0 : PoolKept s s0 := by
    dsimp only [s0]
    split
    · exact .ite (.still (State.journal_only ..) ⟨rfl, rfl, rfl, rfl⟩) (.refl s)
    · exact .refl s
  have ht : PoolKept s t := .still (State.setN_only ..) h0
  have hu : PoolKept s u := .ite (t.poolUp_poolKept.seq ht) (.ite (t.poolDown_poolKept.seq ht) ht)
  exact .ite h0 (.still (State.setReason_only ..) (.still (State.raise_only ..) hu))

/-! ## The pool's events -/

/-- The events of the pool (R427) and of what stops with it (R161, R434). -/
abbrev poolEvents : List Nat := Ev.morPoolState :: Ev.morRecordEnd :: Ev.healthChange :: slotEvents

theorem State.poolDown_raises (s : State) : Raises poolEvents s s.poolDown := by
  unfold State.poolDown
  extract_lets running s1 s2 mor s3
  have h1 : Raises poolEvents s s1 := .foldl (fun u r => (u.endRecord_raises r 3).up) (.refl s)
  have h2 : Raises poolEvents s s2 := .foldl (fun u l => .of_only (State.emptyRing_only ..)) h1
  exact (State.refreshSlots_raises ..).seq (h2.upd rfl)

theorem State.refreshPool_raises (s : State) : Raises poolEvents s s.refreshPool := by
  unfold State.refreshPool
  extract_lets v mor s0 old t u
  have h0 : Raises poolEvents s s0 := by
    dsimp only [s0]
    split
    · exact .ite (.still (State.journal_only ..) (.upd (.refl s) rfl)) (.refl s)
    · exact .refl s
  have ht : Raises poolEvents s t := .still (State.setN_only ..) h0
  have hu : Raises poolEvents s u := .ite (.still (State.poolUp_only ..) ht) (.ite (t.poolDown_raises.seq ht) ht)
  exact .ite h0 ((State.setReason_raises ..).seq ((State.raise_raises ..).seq hu))

/-! ## Drives -/

theorem State.mem_emit_raise (s : State) (o : Out) (src subj : Nat) : o ∈ ((s.emit o).raise src subj).out :=
  (State.raise_outKept ..).mem (State.mem_emit ..)

/-- A drive that is lost (R424). -/
structure DriveLost (d : Nat) (s t : State) : Prop where
  present : (t.drive d).present = false
  held : (t.drive d).held = true
  state : t.n Obj.morDriveState d = 2
  link : t.n Obj.morDriveLink d = 0
  raised : Raised Ev.morDriveLost d s t
  reset : Out.pin .pciePerst d 0 ∈ t.out

theorem DriveLost.refreshPool {d : Nat} {s t : State} (h : DriveLost d s t) : DriveLost d s t.refreshPool where
  present := (congrArg Drive.present (t.refreshPool_poolKept.drive d)).trans h.present
  held := (congrArg Drive.held (t.refreshPool_poolKept.drive d)).trans h.held
  state := (t.refreshPool_only.n ..).trans h.state
  link := (t.refreshPool_only.n ..).trans h.link
  raised := h.raised.after t.refreshPool_raises t.refreshPool_only.ptp
  reset := t.refreshPool_outKept.mem h.reset

theorem State.driveLost_loses (s : State) (d : Nat) : DriveLost d s (s.driveLost d) := by
  unfold State.driveLost
  extract_lets x t1 t2 t3 ready hit u
  have told : Only ⟨[.out, .pinned, .ev, .flashJournal, .diskJournal],
      [Obj.eventCount, Obj.eventLastAt, Obj.eventLastSubject], [0x40000004, 0x40000008]⟩ t2
      ((t2.emit (.pin .pciePerst d 0)).raise Ev.morDriveLost d) := (State.raise_only ..).seq ((State.emit_only ..).up)
  have before : Raises [] s ((t1.setN Obj.morDriveState d 2).setN Obj.morDriveLink d 0) :=
    .still (State.setN_only ..) (.still (State.setN_only ..) (.of_objs rfl))
  have drive := ((PoolKept.of_only told).drive d).trans (State.drive_setDrive s d _)
  have lost : DriveLost d s t3 := {
    present := congrArg Drive.present drive
    held := congrArg Drive.held drive
    state := (told.n ..).trans ((State.n_setN_ne _ _ _ _ _ _ (by decide)).trans (State.n_setN_self ..))
    link := (told.n ..).trans (State.n_setN_self ..)
    raised := (State.raise_raised ..).before (l := []) (before.upd rfl)
    reset := State.mem_emit_raise .. }
  have refreshed : DriveLost d s u := lost.refreshPool
  split
  · exact { refreshed with }
  · exact refreshed

section
variable {s : State} {dt d : Nat}

theorem morDriveLost_loses (awake : s.awake) (present : (s.drive d).present = true) :
    Completes (.morDriveLost dt d) s fun t =>
      (t.drive d).present = false ∧ (t.drive d).held = true ∧ t.n Obj.morDriveState d = 2 ∧ t.n Obj.morDriveLink d = 0 ∧
        Raised Ev.morDriveLost d s t ∧ Out.pin .pciePerst d 0 ∈ t.out := by
  obtain ⟨gone, held, state, link, raised, reset⟩ := (s.tick dt).driveLost_loses d
  exact ⟨_, (actIf_next awake present : execMorDriveLost dt d s = _), gone, held, state, link, .of_tick raised, reset⟩

theorem morDriveRetry_releases (awake : s.awake) (lost : s.n Obj.morDriveState d = 2) (held : (s.drive d).held = true)
    (waited : (s.drive d).triedAt + 100000000 ≤ s.now + dt) :
    Completes (.morDriveRetry dt d) s fun t =>
      (t.drive d).held = false ∧ (t.drive d).triedAt = t.now ∧ Out.pin .pciePerst d 1 ∈ t.out := by
  refine ⟨_, (actIf_next awake (by simp [lost]) : execMorDriveRetry dt d s = _), ?_⟩
  extract_lets x
  rw [if_pos (show x.held = true from held), if_pos (show x.triedAt + 100000000 ≤ (s.tick dt).now from waited)]
  exact ⟨congrArg Drive.held (State.drive_setDrive ..), congrArg Drive.triedAt (State.drive_setDrive ..), State.mem_emit ..⟩

theorem morDriveRetry_resets (awake : s.awake) (lost : s.n Obj.morDriveState d = 2) (free : (s.drive d).held = false)
    (waited : (s.drive d).triedAt + 10000000000 ≤ s.now + dt) :
    Completes (.morDriveRetry dt d) s fun t =>
      (t.drive d).held = true ∧ (t.drive d).triedAt = t.now ∧ Out.pin .pciePerst d 0 ∈ t.out := by
  refine ⟨_, (actIf_next awake (by simp [lost]) : execMorDriveRetry dt d s = _), ?_⟩
  extract_lets x
  rw [if_neg (show ¬x.held = true from Bool.not_eq_true _ ▸ free),
    if_pos (show x.triedAt + 10000000000 ≤ (s.tick dt).now from waited)]
  exact ⟨congrArg Drive.held (State.drive_setDrive ..), congrArg Drive.triedAt (State.drive_setDrive ..), State.mem_emit ..⟩

/-- A drive that has come up, as its link and its capacity are read. -/
def State.driveSeen (s : State) (d rate width capacity : Nat) (lbl : Option (Nat × List Nat)) : State :=
  ((s.setDrive d { s.drive d with present := true, nvme := true, label := lbl, polledAt := none }).setN Obj.morDriveLink d
    (rate % 16 + 16 * (width % 32))).setN Obj.morDriveCapacity d capacity

theorem State.driveSeen_present (s : State) (d rate width capacity : Nat) (lbl : Option (Nat × List Nat)) :
    ((s.driveSeen d rate width capacity lbl).drive d).present = true := congrArg Drive.present (s.drive_setDrive d _)

/-- Its state and its event, and what the pool makes of it. -/
def State.driveUp (s : State) (d state : Nat) (lost : Bool) : State :=
  (if lost then (s.setN Obj.morDriveState d state).raise Ev.morDriveUp d else s.setN Obj.morDriveState d state).refreshPool

/-- The state that it takes by its label (R424). -/
def State.driveSettled (s : State) (d : Nat) (lbl : Option (Nat × List Nat)) (lost : Bool) : State :=
  s.driveUp d (if (lbl.map (·.1)).isSome && lbl.map (·.1) == s.mor.poolId && s.mor.pool.contains d then 1 else 3) lost

theorem State.driveUp_only (s : State) (d state : Nat) (lost : Bool) : Only ⟨[.out, .pinned, .ev, .flashJournal, .ridge, .mor, .diskJournal],
    [Obj.morDriveState, Obj.morPoolState, Obj.morPoolExtents, Obj.recState, Obj.eventCount, Obj.eventLastAt, Obj.eventLastSubject,
      Obj.dlyStored, Obj.srcFeedKind, Obj.srcState, Obj.srcReservationStatus, Obj.srcFramesAbandoned, Obj.srcColourLive,
      Obj.healthReasons, Obj.healthState], [0x40000004, 0x40000008]⟩ s (s.driveUp d state lost) :=
  (State.refreshPool_only _).seq (.ite ((State.raise_only ..).seq (State.setN_only ..).up) (State.setN_only ..).up)

theorem State.driveUp_poolKept (s : State) (d state : Nat) (lost : Bool) : PoolKept s (s.driveUp d state lost) :=
  (State.refreshPool_poolKept _).seq (.ite (.still (State.raise_only ..) (.of_only (State.setN_only ..))) (.of_only (State.setN_only ..)))

theorem State.driveUp_state (s : State) (d state : Nat) (lost : Bool) : (s.driveUp d state lost).n Obj.morDriveState d = state := by
  refine ((State.refreshPool_only _).n ..).trans ?_
  split
  · exact ((State.raise_only ..).n ..).trans (State.n_setN_self ..)
  · exact State.n_setN_self ..

theorem State.driveUp_raised (s : State) (d state : Nat) : Raised Ev.morDriveUp d s (s.driveUp d state true) :=
  ((State.raise_raised ..).before (l := []) (.of_only (s.setN_only ..))).after (State.refreshPool_raises _)
    (State.refreshPool_only _).ptp

theorem morDriveUp_unlabelled {rate width capacity : Nat} (awake : s.awake) (absent : (s.drive d).present = false)
    (free : (s.drive d).held = false) (linked : d < linkDrives (s.n Obj.morLinkMode 0)) :
    Completes (.morDriveUp dt d rate width capacity true none) s fun t =>
      (t.drive d).present = true ∧ t.n Obj.morDriveState d = 3 ∧ t.n Obj.morDriveCapacity d = capacity ∧
        t.n Obj.morDriveLink d = rate % 16 + 16 * (width % 32) ∧
        (s.n Obj.morDriveState d = 2 → Raised Ev.morDriveUp d s t) := by
  let u := (s.tick dt).driveSeen d rate width capacity none
  have acts : execMorDriveUp dt d rate width capacity true none s = .next (u.driveSettled d none (s.n Obj.morDriveState d == 2)) :=
    actIf_next awake (by simp [absent, free, linked])
  have unlabelled : u.driveSettled d none (s.n Obj.morDriveState d == 2) = u.driveUp d 3 (s.n Obj.morDriveState d == 2) :=
    congrArg (u.driveUp d · _) (if_neg Bool.false_ne_true)
  rw [unlabelled] at acts
  have up := u.driveUp_only d 3 (s.n Obj.morDriveState d == 2)
  refine ⟨_, acts, (congrArg Drive.present ((u.driveUp_poolKept ..).drive d)).trans (State.driveSeen_present ..), u.driveUp_state ..,
    (up.n ..).trans (State.n_setN_self ..), (up.n ..).trans ((State.n_setN_ne _ _ _ _ _ _ (by decide)).trans (State.n_setN_self ..)),
    fun lost => ?_⟩
  rw [beq_iff_eq.2 lost]
  exact .of_tick (dt := dt) ((u.driveUp_raised d 3).before (l := []) (.still (State.setN_only ..) (.still (State.setN_only ..) (.of_objs rfl))))

theorem morDriveUp_labelled {rate width capacity ident : Nat} {set : List Nat} (awake : s.awake)
    (absent : (s.drive d).present = false) (free : (s.drive d).held = false) (linked : d < linkDrives (s.n Obj.morLinkMode 0))
    (noPool : s.mor.poolId = none) (member : d ∈ set) :
    Completes (.morDriveUp dt d rate width capacity true (some (ident, set))) s fun t =>
      t.n Obj.morDriveState d = 1 ∧ t.mor.poolId = some ident ∧ t.mor.pool = set := by
  let seen := (s.tick dt).driveSeen d rate width capacity (some (ident, set))
  let u := seen.formPool ident set
  let lost := s.n Obj.morDriveState d == 2
  have formed : (if seen.mor.poolId.isNone then seen.formPool ident set else seen) = u :=
    if_pos (Option.isNone_iff_eq_none.2 noPool)
  have mine : (((some (ident, set)).map fun p : Nat × List Nat => p.1).isSome &&
      (some (ident, set)).map (fun p : Nat × List Nat => p.1) == u.mor.poolId && u.mor.pool.contains d) = true := by
    simp [u, State.formPool, member]
  have acts : execMorDriveUp dt d rate width capacity true (some (ident, set)) s = .next (u.driveUp d 1 lost) := by
    refine (actIf_next awake (by simp [absent, free, linked])).trans (congrArg Host.Outcome.next ?_)
    exact (congrArg (State.driveSettled · d (some (ident, set)) lost) formed).trans (congrArg (u.driveUp d · lost) (if_pos mine))
  have kept := u.driveUp_poolKept d 1 lost
  exact ⟨_, acts, u.driveUp_state .., kept.poolId, kept.pool⟩

theorem smartPoll_reads {warning used : Nat} (awake : s.awake) (present : (s.drive d).present = true) (nvme : (s.drive d).nvme = true)
    (due : ∀ a, (s.drive d).polledAt = some a → a + 60000000000 ≤ s.now + dt) :
    Completes (.smartPoll dt d warning used) s fun t =>
      t.n Obj.morDriveHealth d = warning % 256 + 256 * (used % 256) ∧ (t.drive d).polledAt = some t.now ∧
        (warning % 256 ≠ 0 → warning % 256 ≠ field (s.n Obj.morDriveHealth d) 0 7 → Raised Ev.morDriveWarning d s t) := by
  have polls : ((s.drive d).polledAt.elim true fun a => decide (a + 60000000000 ≤ s.now + dt)) = true := by
    cases at_ : (s.drive d).polledAt with
    | none => rfl
    | some a =>
      rw [Option.elim_some]
      exact decide_eq_true (due a at_)
  refine ⟨_, (actIf_next awake (by simp only [State.drive_tick, present, nvme, State.tick_now, Bool.and_self, Bool.true_and]; exact polls) :
    execSmartPoll dt d warning used s = _), ?_⟩
  extract_lets old x u
  have health : u.n Obj.morDriveHealth d = warning % 256 + 256 * (used % 256) := State.n_setN_self ..
  have polled : (u.drive d).polledAt = some (s.tick dt).now := congrArg Drive.polledAt (State.drive_setDrive (s.tick dt) d _)
  have before : Raises [] (s.tick dt) u := .still ((s.tick dt).setDrive d _ |>.setN_only ..) (.of_objs rfl)
  have now : u.now = (s.tick dt).now := rfl
  clear_value u
  have told := u.raise_only Ev.morDriveWarning d
  split
  · exact ⟨(told.n ..).trans health, (congrArg Drive.polledAt ((PoolKept.of_only told).drive d)).trans
      (polled.trans (congrArg some (now.symm.trans (told.same .now).symm))), fun _ _ => .of_tick ((State.raise_raised ..).before before)⟩
  · next quiet =>
    exact ⟨health, polled.trans (congrArg some now.symm), fun some_ new => absurd (by simp [some_]; exact new) quiet⟩

/-! ## Completions -/

theorem State.clip_frames_endRecord (s : State) (r state c : Nat) : ((s.endRecord r state).clip c).frames = (s.clip c).frames := by
  have told : Only ⟨[.out, .pinned, .ev, .flashJournal, .diskJournal],
      [Obj.recState, Obj.eventCount, Obj.eventLastAt, Obj.eventLastSubject], [0x40000004, 0x40000008]⟩
      ((s.setClip (s.recorder r).clip { s.clip (s.recorder r).clip with state := state }).setRecorder r {}) (s.endRecord r state) :=
    (State.raise_only ..).seq ((State.setN_only ..).up)
  have clips : (s.endRecord r state).mor.clips = put s.mor.clips (s.recorder r).clip { s.clip (s.recorder r).clip with state := state } :=
    told.clips
  unfold State.clip
  rw [clips]
  by_cases same : c = (s.recorder r).clip
  · subst same
    rw [look_put_self]
    rfl
  · rw [look_put_ne _ _ _ _ _ same]

theorem State.drainRecord_frames (s : State) (r : Nat) :
    ((s.drainRecord r).clip (s.recorder r).clip).frames =
      (s.clip (s.recorder r).clip).frames ++ (drainMissing (s.recorder r).staged).1 := by
  unfold State.drainRecord
  extract_lets x p c t
  have drained : (t.clip x.clip).frames = c.frames ++ p.1 := congrArg Clip.frames (look_put_self s.mor.clips x.clip _ _)
  split
  · exact (t.clip_frames_endRecord r 2 x.clip).trans drained
  · exact drained

theorem State.recordStored_frames {r : Nat} {f : MFrame} {l : List (Option MFrame)} (staged : (s.recorder r).staged = some f :: l) :
    ((s.recordStored r d true).clip (s.recorder r).clip).frames =
      (s.clip (s.recorder r).clip).frames ++ [some f] ++ (drainMissing l).1 := by
  let x := s.recorder r
  let t := (s.setClip x.clip { s.clip x.clip with frames := (s.clip x.clip).frames ++ [some f] }).setRecorder r { x with staged := l }
  have stored : s.recordStored r d true = t.drainRecord r := by
    unfold State.recordStored
    dsimp only
    rw [staged]
    rfl
  have recorder : t.recorder r = { x with staged := l } := State.recorder_setRecorder ..
  have frames : (t.clip x.clip).frames = (s.clip x.clip).frames ++ [some f] := congrArg Clip.frames (look_put_self s.mor.clips x.clip _ _)
  have drained := t.drainRecord_frames r
  rw [recorder] at drained
  rw [stored]
  exact drained.trans (congrArg (· ++ _) frames)

theorem nvmeCompletion_records {r : Nat} {f : MFrame} {l : List (Option MFrame)} (awake : s.awake)
    (present : (s.drive d).present = true) (ready : s.poolReady = true) (staged : (s.recorder r).staged = some f :: l) :
    Completes (.nvmeCompletion dt d (.recordFrame r) true) s fun t =>
      (t.clip (s.recorder r).clip).frames =
        (s.clip (s.recorder r).clip).frames ++ [some f] ++ (drainMissing l).1 := by
  refine ⟨_, (actIf_next awake (Bool.and_eq_true_iff.2 ⟨present, ready⟩) : execNvmeCompletion dt d (.recordFrame r) true s = _), ?_⟩
  exact State.recordStored_frames (s := s.tick dt) staged

theorem nvmeCompletion_stages {p frame : Nat} (awake : s.awake) (present : (s.drive d).present = true) (ready : s.poolReady = true) :
    Completes (.nvmeCompletion dt d (.playStage p frame) true) s fun t =>
      (t.player p).fetched = (frame :: (s.player p).fetched.filter (· != frame)).take 4 :=
  ⟨_, (actIf_next awake (Bool.and_eq_true_iff.2 ⟨present, ready⟩) : execNvmeCompletion dt d (.playStage p frame) true s = _),
    congrArg Player.fetched (look_put_self ..)⟩

theorem nvmeCompletion_loses (awake : s.awake) (present : (s.drive d).present = true) (ready : s.poolReady = true) :
    Completes (.nvmeCompletion dt d .metadata false) s fun t =>
      t.n Obj.morDriveState d = 2 ∧ Raised Ev.morDriveLost d s t := by
  have lost := (s.tick dt).driveLost_loses d
  have acts : execNvmeCompletion dt d .metadata false s = .next ((s.tick dt).driveLost d) :=
    (actIf_next awake (Bool.and_eq_true_iff.2 ⟨present, ready⟩)).trans (congrArg Host.Outcome.next (if_neg Bool.false_ne_true))
  exact ⟨_, acts, lost.state, lost.raised.of_tick⟩

end

/-! ## The statement -/

/-- Settles O47: each command changes the drive, the clip or the playback before its event, and what the pool's state makes of
it leaves the drives and the pool. -/
theorem drivesServe : Obligations.DrivesServe := by
  unfold Obligations.DrivesServe
  refine ⟨?_, ?_, ?_, ?_, ?_, ?_, ?_, ?_, ?_⟩
  · exact fun s dt d awake present => morDriveLost_loses awake present
  · exact fun s dt d awake lost held waited => morDriveRetry_releases awake lost held waited
  · exact fun s dt d awake lost free waited => morDriveRetry_resets awake lost free waited
  · exact fun s dt d rate width capacity awake absent free linked => morDriveUp_unlabelled awake absent free linked
  · exact fun s dt d rate width capacity ident set awake absent free linked noPool member =>
      morDriveUp_labelled awake absent free linked noPool member
  · exact fun s dt d warning used awake present nvme due => smartPoll_reads awake present nvme due
  · exact fun s dt d r f l awake present ready staged => nvmeCompletion_records awake present ready staged
  · exact fun s dt d p frame awake present ready => nvmeCompletion_stages awake present ready
  · exact fun s dt d awake present ready => nvmeCompletion_loses awake present ready

end Sys2Proof.Machine
end

section
/-!
SUPPORT. Moraine's streams (R431, R433, R435, R436): the frame that a stream writes into its slot, and the empty pool of a format.
-/
namespace Sys2Proof.Machine
set_option Elab.async false

/-! ## The frame that a stream writes -/

/-- The frame that is written is the newest of its slot, which has been written at its grid point. -/
theorem State.writeStored_writes (s : State) (slot k w kind origin : Nat) (stages : List (Nat × Nat)) (pic : Pic) (anc : List Anc) :
    let t := s.writeStored slot k w kind origin stages pic anc
    (t.src slot).generatorAt = some k ∧ ∃ g, (t.src slot).frames.head? = some g ∧ g.format = s.n Obj.srcReservedFormat slot ∧
      g.kind = kind ∧ g.origin = origin ∧ g.stages = stages ∧ g.write = w ∧ g.pic = pic ∧ g.anc = anc := by
  intro t
  have src : t.src slot = { ((s.refreshSlot slot).startFrame slot (newFrame (s.n Obj.srcReservedFormat slot) kind origin stages w
    (fun _ => pic) 0 (some (w + fmtPeriodNs (s.n Obj.srcReservedFormat slot))) anc)).src slot with generatorAt := some k } :=
    State.src_setSrc ..
  rw [src]
  exact ⟨rfl, _, (State.startFrame_begins ..).2, rfl, rfl, rfl, rfl, rfl, rfl, rfl⟩

theorem Only.player {r : Reach} {s t : State} (h : Only r s t) (p : Nat) (hp : Part.mor ∉ r.parts := by decide) :
    t.player p = s.player p := by
  have plays := congrArg Moraine.plays (h.morRest hp)
  exact congrArg (fun l : Table Player => look l p {}) plays

theorem Only.dlyLive {r : Reach} {s t : State} (h : Only r s t) (hp : Part.mor ∉ r.parts := by decide) :
    t.mor.dlyLive = s.mor.dlyLive := by
  have live := congrArg Moraine.dlyLive (h.morRest hp)
  exact live

section
variable {s : State} {dt : Nat}

/-- A playback that has taken a staged frame of its clip. -/
def State.played (s : State) (p n : Nat) (q : MFrame) : State :=
  let x := s.player p
  let t := s.setPlayer p { x with start := none, next := n + 1 }
  (t.setPlayer p { t.player p with last := some (n, q), fetched := x.fetched.filter (· != n) }).setN Obj.playPosition p n

theorem State.played_player (s : State) (p n : Nat) (q : MFrame) :
    ((s.played p n q).player p).next = n + 1 ∧ ((s.played p n q).player p).last = some (n, q) := by
  have position (u : State) : (u.setN Obj.playPosition p n).player p = u.player p := (State.setN_only ..).player p
  simp [State.played, position]

theorem State.playFrame_eq {p slot k w n : Nat} {q : MFrame} (frame : (s.clip (s.n Obj.playClip p)).frames[n]? = some (some q))
    (staged : (s.player p).fetched.contains n = true) : s.playFrame p slot k w n = (s.played p n q).playWrite p slot k w q := by
  have inside : ¬ (s.clip (s.n Obj.playClip p)).frames.length ≤ n := fun out => by
    rw [List.getElem?_eq_none out] at frame
    cases frame
  have here (loop : Bool) (m : Nat) : (if loop && (s.clip (s.n Obj.playClip p)).frames.length ≤ n then m else n) = n :=
    if_neg fun both => inside (of_decide_eq_true (Bool.and_eq_true_iff.1 both).2)
  unfold State.playFrame
  dsimp only
  rw [here, frame]
  exact if_pos (Bool.or_eq_true_iff.2 (.inl staged))

theorem State.playWrite_player (s : State) (p slot k w j : Nat) (q : MFrame) : (s.playWrite p slot k w q).player j = s.player j :=
  (State.writeStored_only ..).player j

theorem State.playWrite_writes (s : State) (p slot k w : Nat) (q : MFrame) :
    let t := s.playWrite p slot k w q
    (t.src slot).generatorAt = some k ∧ ∃ g, (t.src slot).frames.head? = some g ∧ g.pic = q.pic ∧
      g.format = s.n Obj.srcReservedFormat slot ∧ g.anc = q.anc ∧ g.write = w := by
  let live := if s.mor.playLive.contains p then s.mor.playLive else p :: s.mor.playLive
  obtain ⟨at_, g, head, format, -, -, -, write, pic, anc⟩ :=
    State.writeStored_writes { s with mor := { s.mor with playLive := live } } slot k w 3 w [] q.pic q.anc
  exact ⟨at_, g, head, pic, format, anc, write⟩

/-- A playback plays the staged frame of its clip (R435). -/
theorem State.playFrame_plays {p slot k w n : Nat} {q : MFrame} (frame : (s.clip (s.n Obj.playClip p)).frames[n]? = some (some q))
    (staged : (s.player p).fetched.contains n = true) :
    let t := s.playFrame p slot k w n
    t.n Obj.playPosition p = n ∧ (t.player p).next = n + 1 ∧ (t.player p).last = some (n, q) ∧
      (t.src slot).generatorAt = some k ∧
      ∃ g, (t.src slot).frames.head? = some g ∧ g.pic = q.pic ∧ g.format = s.n Obj.srcReservedFormat slot ∧ g.anc = q.anc ∧
        g.write = w := by
  rw [State.playFrame_eq frame staged]
  intro t
  have player : t.player p = (s.played p n q).player p := State.playWrite_player ..
  obtain ⟨next, last⟩ := s.played_player p n q
  obtain ⟨at_, g, head, pic, format, anc, write⟩ := (s.played p n q).playWrite_writes p slot k w q
  have reserved : (s.played p n q).n Obj.srcReservedFormat slot = s.n Obj.srcReservedFormat slot :=
    State.n_setN_ne _ _ _ _ _ _ (by decide)
  exact ⟨((State.playWrite_only ..).n ..).trans (State.n_setN_self ..), (congrArg Player.next player).trans next,
    (congrArg Player.last player).trans last, at_, g, head, pic, format.trans reserved, anc, write⟩

theorem playbackFrameWrite_plays {p slot f k n : Nat} {q : MFrame} (on : s.on) (enabled : s.b Obj.playEnable p = true)
    (ready : s.poolReady = true) (hslot : slot = s.n Obj.playSlot p) (hf : f = s.n Obj.srcReservedFormat slot) (reserved : f ≠ 0)
    (hk : k = gridIndex (fmtPeriod f) (s.tick dt).tc) (new : (s.src slot).generatorAt ≠ some k) (runs : s.b Obj.playRun p = true)
    (started : (s.player p).start = none) (next : (s.player p).next = n)
    (frame : (s.clip (s.n Obj.playClip p)).frames[n]? = some (some q)) (staged : (s.player p).fetched.contains n = true) :
    Completes (.playbackFrameWrite dt p) s fun t =>
      t.n Obj.playPosition p = n ∧ (t.player p).next = n + 1 ∧ (t.player p).last = some (n, q) ∧
        (t.src slot).generatorAt = some k ∧
        ∃ g, (t.src slot).frames.head? = some g ∧ g.pic = q.pic ∧ g.format = f ∧ g.anc = q.anc ∧
          g.write = gridPoint (fmtPeriod f) k / 65536 := by
  subst hslot hf hk next
  obtain ⟨awake, live⟩ := on
  have due : ((s.tick dt).live && (s.tick dt).b Obj.playEnable p && (s.tick dt).poolReady) = true :=
    Bool.and_eq_true_iff.2 ⟨Bool.and_eq_true_iff.2 ⟨live, enabled⟩, ready⟩
  refine ⟨_, (actIf_next awake due : execPlaybackFrameWrite dt p s = _), ?_⟩
  extract_lets slot f k w x t y
  have waits : ¬ (decide (f = 0) || decide (((s.tick dt).src slot).generatorAt = some k)) = true := by
    simp only [Bool.or_eq_true, decide_eq_true_eq, not_or]
    exact ⟨reserved, new⟩
  have going : ¬ (!t.b Obj.playRun p) = true := by
    rw [show t.b Obj.playRun p = true from runs]
    decide
  have none_ : y.start = none := started
  rw [if_neg waits, if_neg going, none_]
  exact t.playFrame_plays frame staged

theorem delayFrameWrite_delays {l slot f j : Nat} {q : MFrame} (on : s.on) (enabled : s.b Obj.dlyEnable l = true)
    (ready : s.poolReady = true) (hslot : slot = s.n Obj.dlySlot l) (hf : f = s.n Obj.srcReservedFormat slot) (reserved : f ≠ 0)
    (hj : j = alignIndex f (s.n Obj.dstTimingOffset (s.n Obj.dlyDst l)) (s.tick dt).tc) (new : (s.src slot).generatorAt ≠ some j)
    (back : s.n Obj.dlyFrames l ≤ j) (kept : (s.line l).ring.find? (fun g => g.index == j - s.n Obj.dlyFrames l) = some q)
    (staged : (s.line l).fetched.contains (j - s.n Obj.dlyFrames l) = true) :
    Completes (.delayFrameWrite dt l) s fun t =>
      l ∈ t.mor.dlyLive ∧ (t.src slot).generatorAt = some j ∧
        ∃ g, (t.src slot).frames.head? = some g ∧ g.pic = q.pic ∧ g.kind = q.kind ∧ g.origin = q.origin ∧
          g.stages = q.stages ++ [(6, q.read)] := by
  subst hslot hf hj
  obtain ⟨awake, live⟩ := on
  have due : ((s.tick dt).live && (s.tick dt).b Obj.dlyEnable l && (s.tick dt).poolReady) = true :=
    Bool.and_eq_true_iff.2 ⟨Bool.and_eq_true_iff.2 ⟨live, enabled⟩, ready⟩
  refine ⟨_, (actIf_next awake due : execDelayFrameWrite dt l s = _), ?_⟩
  extract_lets slot f off j w x t k y others mor u v
  have waits : ¬ (decide (f = 0) || decide (((s.tick dt).src slot).generatorAt = some j)) = true := by
    simp only [Bool.or_eq_true, decide_eq_true_eq, not_or]
    exact ⟨reserved, new⟩
  have found : (y.ring.find? fun g => g.index == k && decide (t.n Obj.dlyFrames l ≤ j)) = some q := by
    have within : decide (t.n Obj.dlyFrames l ≤ j) = true := decide_eq_true back
    simp only [within, Bool.and_true]
    exact kept
  have fetched : y.fetched.contains k = true := staged
  rw [if_neg waits, found]
  dsimp only
  rw [if_pos fetched]
  have wrote := v.writeStored_only slot j w q.kind q.origin (q.stages ++ [(6, q.read)]) q.pic q.anc
  obtain ⟨at_, g, head, -, kind, origin, stages, -, pic, -⟩ :=
    v.writeStored_writes slot j w q.kind q.origin (q.stages ++ [(6, q.read)]) q.pic q.anc
  refine ⟨?_, at_, g, head, pic, kind, origin, stages⟩
  rw [wrote.dlyLive]
  exact List.mem_cons_self

/-! ## A format (R425) -/

theorem State.foldl_emptyRing_clips (s : State) (l : List Nat) : (l.foldl State.emptyRing s).mor.clips = s.mor.clips := by
  induction l generalizing s with
  | nil => rfl
  | cons k l ih => exact ih _

/-- Where nothing records, the clips stay as they are as the pool goes down. -/
theorem State.poolDown_clips (none_ : s.mor.records = []) : s.poolDown.mor.clips = s.mor.clips := by
  unfold State.poolDown
  extract_lets running s1 s2 mor s3
  have idle : s1 = s := by
    dsimp only [s1, running]
    rw [none_]
    rfl
  have clips : s2.mor.clips = s1.mor.clips := State.foldl_emptyRing_clips ..
  exact (State.refreshSlots_only ..).clips.trans (clips.trans (congrArg (fun v => v.mor.clips) idle))

theorem State.poolUp_clips (s : State) : s.poolUp.mor.clips = s.mor.clips := by
  unfold State.poolUp
  extract_lets t
  generalize (Objs.plays t.objs).filter _ = l
  have kept (u : State) : (l.foldl (fun v p => v.startPlay p v.ptp) u).mor.clips = u.mor.clips := by
    induction l generalizing u with
    | nil => rfl
    | cons p l ih => exact ih _
  exact kept t

theorem State.refreshPool_clips (none_ : s.mor.records = []) : s.refreshPool.mor.clips = s.mor.clips := by
  unfold State.refreshPool
  extract_lets v mor s0 old t u
  have h0 : s0.mor.clips = s.mor.clips ∧ s0.mor.records = s.mor.records := by
    dsimp only [s0]
    split
    · split
      · have logs (u : State) (b : List Byte) : (u.journal 4 b).mor.records = u.mor.records := by
          have records := congrArg Moraine.records ((u.journal_only 4 b).morRest)
          exact records
        exact ⟨(State.journal_only ..).clips, logs ..⟩
      · exact ⟨rfl, rfl⟩
    · exact ⟨rfl, rfl⟩
  have ht : t.mor.clips = s.mor.clips ∧ t.mor.records = [] := ⟨h0.1, h0.2.trans none_⟩
  have hu : u.mor.clips = s.mor.clips := by
    dsimp only [u]
    split
    · exact t.poolUp_clips.trans ht.1
    · split
      · exact (State.poolDown_clips ht.2).trans ht.1
      · exact ht.1
  split
  · exact h0.1
  · exact (State.setReason_only ..).clips.trans ((State.raise_only ..).clips.trans hu)

/-- What a pool stores: its drives, its journal's size, its clips and records. -/
def Moraine.stored (m : Moraine) : List Nat × Nat × Table Clip × Table Recorder :=
  (m.pool, m.diskJournalBytes, m.clips, m.records)

/-- The drives of a new pool are labelled, and no delay line or record holds anything. -/
def State.labelled (s : State) (ident : Nat) (set : List Nat) : State :=
  (List.range 64).foldl (fun v i => (v.setN Obj.dlyStored i 0).setN Obj.recState i 0)
    (set.foldl (fun v d => (v.setDrive d { v.drive d with label := some (ident, set) }).setN Obj.morDriveState d 1) s)

theorem State.foldl_stored {α : Type} {f : State → α → State} (h : ∀ u x, (f u x).mor.stored = u.mor.stored) (l : List α) (s : State) :
    (l.foldl f s).mor.stored = s.mor.stored := by
  induction l generalizing s with
  | nil => rfl
  | cons x l ih => exact (ih _).trans (h s x)

theorem State.labelled_stored (s : State) (ident : Nat) (set : List Nat) : (s.labelled ident set).mor.stored = s.mor.stored := by
  unfold State.labelled
  refine (State.foldl_stored ?_ ..).trans (State.foldl_stored ?_ ..)
  · exact fun u i => rfl
  · exact fun u d => rfl

theorem State.morFormat_formats (s : State) :
    s.morFormat.mor.pool = (List.range 4).filter (fun d => (s.drive d).present && (s.drive d).nvme) ∧
      s.morFormat.mor.clips = [] ∧ s.morFormat.mor.diskJournalBytes = s.n Obj.morJournalBytes 0 := by
  let set := (List.range 4).filter fun d => (s.drive d).present && (s.drive d).nvme
  let fresh : State := { s.draw.2 with mor := { s.draw.2.mor with
    poolId := if set.isEmpty then none else some s.draw.1
    pool := set
    diskId := some s.draw.1
    diskJournalBytes := s.n Obj.morJournalBytes 0
    clips := []
    journal := []
    journalSeq := 0
    delays := []
    records := []
    plays := [] } }
  let u := fresh.labelled s.draw.1 set
  have formats : s.morFormat = u.refreshPool.setN Obj.morPoolExtents 0 u.refreshPool.poolExtents := rfl
  have stored : u.mor.stored = (set, s.n Obj.morJournalBytes 0, [], []) := fresh.labelled_stored ..
  have kept := u.refreshPool_poolKept
  have clips : u.refreshPool.mor.clips = u.mor.clips :=
    State.refreshPool_clips (congrArg (fun x => x.2.2.2) stored)
  rw [formats]
  exact ⟨kept.pool.trans (congrArg (fun x => x.1) stored), clips.trans (congrArg (fun x => x.2.2.1) stored),
    kept.disk.trans (congrArg (fun x => x.2.1) stored)⟩

theorem morFormat_formats {m : Msg} {x : Session} {value : List Byte} (h : Acts s dt m x Obj.morFormat 0 value (.num 1)) :
    Completes (.morFormat dt m value) s fun t =>
      t.mor.pool = (List.range 4).filter (fun d => (s.drive d).present && (s.drive d).nvme) ∧ t.mor.clips = [] ∧
        t.mor.diskJournalBytes = s.n Obj.morJournalBytes 0 ∧ Answered m x t := by
  have row : dictRow Obj.morFormat 0 = some ⟨0x1802, 0, 0, .bool, .wo, 3, .immediate, .num 0, .any⟩ := by decide +kernel
  obtain ⟨t, l, next, after, answered⟩ := h.triggered row rfl rfl (by decide) fun u => u.morFormat_only
  let u := (s.tick dt).withSessions l
  have after : Only loggedAnswerReach u.morFormat t := after
  obtain ⟨pool, clips, disk⟩ := u.morFormat_formats
  have kept : PoolKept u.morFormat t := .of_only after
  refine ⟨t, next, kept.pool.trans pool, after.clips.trans clips, kept.disk.trans disk, ?_⟩
  rw [Answered, after.ptp, u.morFormat_only.ptp]
  exact answered

theorem lookup_del_self {α : Type} (t : Table α) (k : Nat) : (del t k).lookup k = none := by
  rw [List.lookup_eq_none_iff]
  intro p hp
  have other := (List.mem_filter.1 hp).2
  rw [bne_iff_ne] at other
  exact bne_iff_ne.2 fun e => other e.symm

/-- What has been deleted reads as the default. -/
theorem look_del_self {α : Type} (t : Table α) (k : Nat) (d : α) : look (del t k) k d = d := by
  rw [look, lookup_del_self]
  rfl

/-- Each row of CLIP_DELETE is a write-only object that takes effect at once. -/
theorem clipDelete_row : ∀ r ∈ dictionary, r.index = Obj.clipDelete → r.access = .wo ∧ r.commit = .immediate := by decide +kernel

theorem clipDelete_deletes {m : Msg} {x : Session} {k : Nat} {value : List Byte} (h : Acts s dt m x Obj.clipDelete k value (.num 1)) :
    Completes (.clipDelete dt m k value) s fun t => t.clip k = {} ∧ Answered m x t := by
  obtain ⟨r, row⟩ := h.may.row
  obtain ⟨member, index⟩ := dictRow_some row
  obtain ⟨access, commit⟩ := clipDelete_row r member index
  obtain ⟨t, l, next, after, answered⟩ := h.triggered row access commit (by decide) fun u => u.clipDelete_only k
  let u := (s.tick dt).withSessions l
  have after : Only loggedAnswerReach (u.clipDelete k) t := after
  have empty : (u.clipDelete k).clip k = {} := look_del_self ..
  refine ⟨t, next, ?_, ?_⟩
  · rw [State.clip, after.clips]
    exact empty
  · rw [Answered, after.ptp, (u.clipDelete_only k).ptp]
    exact answered

/-! ## The journal is read (R444) -/

theorem State.readItem_journal (u : State) {session : Option Nat} {role : Nat} {r : Row} (row : dictRow Obj.morJournalRead 0 = some r)
    (may : r.role ≤ role) : u.readItem session role Obj.morJournalRead 0 = .inr u.morJournalRead := by
  have readable : ∀ r ∈ dictionary, r.index = Obj.morJournalRead → ¬ (r.access == .wo) = true := by decide +kernel
  obtain ⟨member, index⟩ := dictRow_some row
  rw [State.readItem, row]
  dsimp only
  rw [if_neg (readable r member index), if_neg (Nat.not_lt.2 may), if_pos rfl]

theorem morJournalRead_reads {m : Msg} {x : Session} {r : Row} (h : Ready s m x (.read Obj.morJournalRead 0 0 0))
    (row : dictRow Obj.morJournalRead 0 = some r) (may : r.role ≤ x.role) : Completes (.morJournalRead dt m) s fun t =>
      answerOf m x 0x10 0 (.read s.morJournalRead.1.length (s.morJournalRead.1.take (readRoom x.tcp))) ∈ t.out ∧
        t.n Obj.morJournalCursor 0 = s.morJournalRead.2.n Obj.morJournalCursor 0 := by
  obtain ⟨u, z, begun, role, tcp, e⟩ := h.message dt
  refine ⟨(s.tick dt).message m _, act_next h.awake, ?_⟩
  have item : u.readItem (some m.session) z.role Obj.morJournalRead 0 = .inr (u.morJournalRead.1, u.morJournalRead.2) :=
    u.readItem_journal row (role.symm ▸ may)
  have bytes : u.morJournalRead.1 = s.morJournalRead.1 := by
    rw [begun.same]
    rfl
  have cursor : u.morJournalRead.2.n Obj.morJournalCursor 0 = s.morJournalRead.2.n Obj.morJournalCursor 0 := by
    rw [begun.same]
    unfold State.morJournalRead
    dsimp only
    have same : ((s.tick dt).withSessions u.il.sessions).mor.journal = s.mor.journal := rfl
    have from_ : ((s.tick dt).withSessions u.il.sessions).n Obj.morJournalCursor 0 = s.n Obj.morJournalCursor 0 := rfl
    rw [same, from_]
    cases ((s.mor.journal.reverse.dropWhile fun r => r.seq < s.n Obj.morJournalCursor 0).take 1024).getLast? with
    | some r => rfl
    | none => rfl
  have done : Answerable m.session x u.morJournalRead.2 := begun.answerable.readItem item
  rw [e, State.perform, State.doRead_value item, if_neg (by simp)]
  refine ⟨?_, ?_⟩
  · have answers := done.answers (m := m) 0x10 0 (.read u.morJournalRead.1.length (readPart z.tcp u.morJournalRead.1 0 0))
    rw [bytes, tcp] at answers
    rw [bytes, tcp]
    exact answers
  · exact ((done.respond_only ..).n Obj.morJournalCursor 0).trans cursor

end

end Sys2Proof.Machine
end

section
/-!
PROOFS. Moraine's streams: playback, delay lines, format, clips and journal (R425, R431, R433, R435 to R437, R444).
-/
namespace Sys2Proof.Machine
set_option Elab.async false

/-- Settles O48: a stream writes the stored frame that it holds staged, a format and a deletion are the triggers of their objects, and
the journal is read as an item whose cursor moves with it. -/
theorem streamsPlay : Obligations.StreamsPlay := by
  unfold Obligations.StreamsPlay
  refine ⟨?_, ?_, ?_, ?_, ?_⟩
  · exact fun s dt p slot f k n q on enabled ready hslot hf reserved hk new runs started next frame staged =>
      playbackFrameWrite_plays on enabled ready hslot hf reserved hk new runs started next frame staged
  · exact fun s dt l slot f j q on enabled ready hslot hf reserved hj new back kept staged =>
      delayFrameWrite_delays on enabled ready hslot hf reserved hj new back kept staged
  · exact fun s dt m x value h => morFormat_formats h
  · exact fun s dt m x k value h => clipDelete_deletes h
  · exact fun s dt m x r h row may => morJournalRead_reads h row may

end Sys2Proof.Machine
end

section
/-!
SUPPORT. Writes of registers over the bus (R7, R520).
-/
namespace Sys2Proof.Machine
set_option Elab.async false

/-! ## A write of a register over the bus -/

/-- A word of the registers of the blocks. -/
theorem colCheck_register {a : Nat} (low : 0x40000000 ≤ a) (high : a + 4 ≤ 0x40090000) (trusted : Bool) :
    colCheck 0 a 4 true trusted = .inl 2 := by
  have target (b : Nat) (l : 0x40000000 ≤ b) (h : b < 0x40090000) : colTarget b = some 2 := by
    rw [colTarget, if_neg, if_neg, if_pos]
    · simp [l, h]
    · simp only [Bool.and_eq_true, decide_eq_true_eq]
      omega
    · simp only [Bool.and_eq_true, decide_eq_true_eq]
      omega
  rw [colCheck, target a low (by omega)]
  dsimp only
  have last : colTarget (a + 4 - 1) = some 2 := target _ (by omega) (by omega)
  have may : untrustedOk 0 2 a 4 true = true := decide_eq_true high
  rw [last, may, if_neg (by decide), if_neg (by cases trusted <;> decide)]

/-- A write of a register outside Scree reaches it. -/
theorem registerWrite_next {s : State} {a : Nat} (awake : s.awake) (low : 0x40000000 ≤ a) (high : a + 4 ≤ 0x40090000)
    (other : ¬ (0x40010000 ≤ a ∧ a < 0x40020000)) (word : a / 4 * 4 = a) (dt value : Nat) (trusted : Bool) :
    exec (.registerWrite dt a value trusted) s = .next ((s.tick dt).busReg a value trusted) := by
  have here : (s.tick dt).busAddr 0 a = a := if_neg (by simp only [Bool.and_eq_true, decide_eq_true_eq]; omega)
  have outside : ¬ (decide (0x40010000 ≤ a) && decide (a < 0x40020000)) = true := by
    simp only [Bool.and_eq_true, decide_eq_true_eq]
    exact other
  refine (act_next awake : execRegisterWrite dt a value trusted s = _).trans (congrArg Host.Outcome.next ?_)
  rw [here]
  dsimp only
  rw [colCheck_register low high, if_neg outside, word]
  rfl

/-- A write of a register whose every bit is RW gives it the value. -/
theorem State.busWrite_whole (s : State) {a : Nat} {r : RegRow} (row : regRow a = some r) (rw_ : r.rw = 0xFFFFFFFF) (w1c : r.w1c = 0)
    (v : Nat) : (s.busWrite a v).regN a = v % 2 ^ 32 := by
  have kept : Nat.land (s.regN a) (0xFFFFFFFF - Nat.lor 0xFFFFFFFF 0) = 0 := Nat.and_zero _
  have given : Nat.land v 0xFFFFFFFF = v % 2 ^ 32 := Nat.and_two_pow_sub_one_eq_mod v 32
  have cleared : Nat.land (Nat.land (s.regN a) 0) (0xFFFFFFFF - Nat.land v 0xFFFFFFFF) = 0 := by
    rw [show Nat.land (s.regN a) 0 = 0 from Nat.and_zero _]
    exact Nat.zero_and _
  unfold State.busWrite
  rw [row]
  dsimp only
  rw [rw_, w1c, kept, cleared, given, State.regN_setRegN_self, Nat.zero_add, Nat.add_zero, Nat.mod_mod]

end Sys2Proof.Machine
end

section
/-!
PROOFS. Software raises (R573).
-/
namespace Sys2Proof.Machine
set_option Elab.async false

section
variable {s : State} {dt : Nat}

/-- What a write of EVT_SWRAISE does at its time (R573). -/
theorem State.evSwraise_raises (s : State) (dt value : Nat) :
    if 56 ≤ field value 0 8 ∧ field value 0 8 ≤ 63 then
      Raised (field value 0 8) (s.regN Reg.evtSwsubj) s ((s.tick dt).evSwraise value)
    else (s.tick dt).evSwraise value = (s.tick dt).setRegBit Reg.evtStat 17 true := by
  have same : ((56 ≤ field value 0 8 && field value 0 8 ≤ 63 : Bool) = true) = (56 ≤ field value 0 8 ∧ field value 0 8 ≤ 63) := by
    simp only [Bool.and_eq_true, decide_eq_true_eq]
  unfold State.evSwraise
  dsimp only
  by_cases named : 56 ≤ field value 0 8 ∧ field value 0 8 ≤ 63
  · rw [if_pos named, if_pos (same.symm ▸ named)]
    have low : field value 0 8 % 65536 = field value 0 8 := Nat.mod_eq_of_lt (by omega)
    have other : field value 0 8 % 65536 ≠ Ev.counterPinned := by
      rw [low]
      unfold Ev.counterPinned
      omega
    exact Raised.of_tick ((s.tick dt).raise_raised (hp := other) ..)
  · rw [if_neg named, if_neg (same.symm ▸ named)]

/-- The source and its field are of the low 32 bits. -/
theorem field_mod_word (value : Nat) : field (value % 2 ^ 32) 0 8 = field value 0 8 := by
  unfold field
  omega

theorem registerWrite_swraise (awake : s.awake) (value : Nat) (trusted : Bool) :
    Completes (.registerWrite dt 0x40000020 value trusted) s fun t =>
      if 56 ≤ field value 0 8 ∧ field value 0 8 ≤ 63 then Raised (field value 0 8) (s.regN Reg.evtSwsubj) s t
      else t = (s.tick dt).setRegBit Reg.evtStat 17 true := by
  refine ⟨_, registerWrite_next awake (by decide) (by decide) (by decide) (by decide) .., ?_⟩
  have raises := s.evSwraise_raises dt (value % 2 ^ 32)
  have reg : (s.tick dt).busReg 0x40000020 value trusted = (s.tick dt).evSwraise (value % 2 ^ 32) := by cases trusted <;> rfl
  rw [field_mod_word] at raises
  rw [reg]
  exact raises

theorem registerWrite_swsubj (awake : s.awake) (value : Nat) (trusted : Bool) :
    Completes (.registerWrite dt Reg.evtSwsubj value trusted) s fun t => t.regN Reg.evtSwsubj = value % 2 ^ 32 := by
  refine ⟨_, registerWrite_next awake (by decide) (by decide) (by decide) (by decide) .., ?_⟩
  have reg : (s.tick dt).busReg Reg.evtSwsubj value trusted = (s.tick dt).busWrite Reg.evtSwsubj (value % 2 ^ 32) := by
    cases trusted <;> rfl
  rw [reg]
  have row : regRow Reg.evtSwsubj = some ⟨0x40000024, 0, 0xFFFFFFFF, 0, false⟩ := by decide +kernel
  exact (State.busWrite_whole _ row rfl rfl _).trans (Nat.mod_mod ..)

end

/-- Settles O54: a write of EVT_SWRAISE raises what it names or is refused, by command and over the bus. -/
theorem softwareRaises : Obligations.SoftwareRaises := by
  unfold Obligations.SoftwareRaises
  refine ⟨?_, ?_, ?_⟩
  · exact fun s dt value awake => ⟨_, (act_next awake : execEvtSwraise dt value s = _), s.evSwraise_raises dt value⟩
  · exact fun s dt value trusted awake => registerWrite_swraise awake value trusted
  · exact fun s dt value trusted awake => registerWrite_swsubj awake value trusted

end Sys2Proof.Machine
end

section
/-!
SUPPORT. A write of an object that takes effect at once (R462, R463), and what a histogram reads after a sample (R567).
-/
namespace Sys2Proof.Machine
set_option Elab.async false

/-- A write that takes effect at once acts on the state of its time with other sessions, and is answered. -/
theorem Acts.immediate {s : State} {dt : Nat} {m : Msg} {x : Session} {i k : Nat} {value : List Byte} {v : Val}
    (h : Acts s dt m x i k value v) (commit : ∀ r ∈ dictionary, r.index = i → r.commit = .immediate) (own : i ∉ ownObjs) :
    ∃ l, Only loggedAnswerReach (((s.tick dt).withSessions l).applyNow (adr i k) v) ((s.tick dt).writeRow m i k value) ∧
      answerOf m x 0x11 0 (.write (s.tick dt).ptp) ∈ ((s.tick dt).writeRow m i k value).out := by
  obtain ⟨r, row⟩ := h.may.row
  obtain ⟨member, index⟩ := dictRow_some row
  obtain ⟨⟨small, ready, dict, stands⟩, alone⟩ := h
  obtain ⟨u, z, begun, role, -, e⟩ := ready.message dt
  have decided := begun.writeItem small (role.symm ▸ dict) stands own row
  rw [commit r member index, State.classWrite_immediate (begun.mirrors ▸ alone), begun.ptp] at decided
  have logged : Only ⟨[.tw], [], []⟩ (u.applyNow (adr i k) v) _ := State.logWrite_only _ (adr i k) v 0
  have done := (begun.answerable.after (State.applyNow_only u (adr i k) v)).after logged
  refine ⟨u.il.sessions, ?_⟩
  rw [State.writeRow, e, State.perform, State.writeFor_accepted decided rfl, State.finish_none]
  have answered := done.respond_only m.seq 0x11 0 0 (.write (s.tick dt).ptp)
  exact ⟨begun.same ▸ answered.seq (logged.up (b := loggedAnswerReach)), done.answers ..⟩

/-- Such a write of a setting. -/
theorem State.applyNow_rw (u : State) {i k : Nat} (v : Val) {r : Row} (small : k < 65536) (row : dictRow i k = some r)
    (access : r.access = .rw) : u.applyNow (adr i k) v = (u.setVal i k v).written u.objs i k := by
  rw [State.applyNow, dictRow_adr small, row, Option.elim_some, access, State.putNow, adrIndex_adr, adrSub_adr small]
  rfl

/-- Such a write of a trigger. -/
theorem State.applyNow_wo (u : State) {i k : Nat} (v : Val) {r : Row} (small : k < 65536) (row : dictRow i k = some r)
    (access : r.access = .wo) : u.applyNow (adr i k) v = u.trigger i k v := by
  rw [State.applyNow, dictRow_adr small, row, Option.elim_some, access, adrIndex_adr, adrSub_adr small]
  rfl

theorem Only.monUnit {r : Reach} {s t : State} (h : Only r s t) (u : Nat) (hp : Part.mon ∉ r.parts := by decide) :
    t.monUnit u = s.monUnit u := by
  rw [State.monUnit, h.same .mon hp, State.monUnit]

/-- A histogram that has taken a sample. -/
theorem State.capture_reads (s : State) (i k : Nat) (start : Hist) (v : Int) (h : i ∉ eventObjs := by decide) :
    (s.capture i k start v).by i k = (((Hist.decode (s.by i k)).getD start).add v).1.encode := by
  unfold State.capture
  extract_lets hist r t
  have reads : t.by i k = r.1.encode := s.by_setBy_self i k _
  split
  · exact (((State.raise_only ..).by i k (by decide) h).trans ((State.setPinned_only ..).by i k (by decide) List.not_mem_nil)).trans reads
  · exact reads

theorem State.capture_raises (s : State) (i k : Nat) (start : Hist) (v : Int) (h : i ∉ eventObjs := by decide) :
    Raises [] s (s.capture i k start v) := by
  unfold State.capture
  extract_lets hist r t
  have set : Raises [] s t := .of_only (s.setBy_only i k _) List.not_mem_nil fun j hj m => h (List.mem_singleton.1 m ▸ hj)
  have pinned : Raises [] s (t.setPinned (adr i k)) := .still (t.setPinned_only _) set
  have raised (u : State) : Raises [] u (u.raise Ev.counterPinned (adr i k)) := by
    refine ⟨fun src _ other j hj => (u.raise_raises Ev.counterPinned (adr i k)).kept src ?_ other j hj⟩
    exact fun m => other (List.mem_singleton.1 m)
  exact .ite ((raised _).seq pinned) set

end Sys2Proof.Machine
end

section
/-!
PROOFS. The alarm of a capture unit (R567 to R569).
-/
namespace Sys2Proof.Machine
set_option Elab.async false

section
variable {s : State} {dt : Nat}

/-- A command whose condition does not hold only takes time. -/
theorem actIf_idle {c : State → Bool} {f : State → State} (awake : s.inReset = false) (idle : c (s.tick dt) = false) :
    actIf dt s c f = .next (s.tick dt) := by
  simp [actIf, act_next awake, State.onlyIf, idle]

/-- A unit that has captured a sample. -/
def State.sampled (s : State) (u : Nat) (v : Int) : State :=
  let c := s.capture Obj.monHistogram u (s.monFresh u s.ptp) v
  let x := c.monUnit u
  if c.i Obj.monAlarm u < v && !x.alarmed then (c.setMonUnit u { x with alarmed := true }).raise Ev.monAlarm u else c

theorem monSample_next {u : Nat} {value v : Int} (awake : s.awake) (captures : s.monStateOf u = 1)
    (sample : s.monValue u value = some v) : execMonSample dt u value s = .next ((s.tick dt).sampled u v) := by
  refine (actIf_next awake (decide_eq_true captures) : execMonSample dt u value s = _).trans ?_
  have sample : (s.tick dt).monValue u value = some v := sample
  rw [sample]
  rfl

theorem monSample_alarms {u : Nat} {value v : Int} (awake : s.awake) (captures : s.monStateOf u = 1)
    (sample : s.monValue u value = some v) : Completes (.monSample dt u value) s fun t =>
      t.by Obj.monHistogram u =
          (((Hist.decode (s.by Obj.monHistogram u)).getD (s.monFresh u t.ptp)).add v).1.encode ∧
        if s.i Obj.monAlarm u < v ∧ (s.monUnit u).alarmed = false then
          Raised Ev.monAlarm u s t ∧ (t.monUnit u).alarmed = true
        else t.n Obj.eventCount Ev.monAlarm = s.n Obj.eventCount Ev.monAlarm ∧ t.monUnit u = s.monUnit u := by
  refine ⟨_, (monSample_next awake captures sample : exec (.monSample dt u value) s = _), ?_⟩
  unfold State.sampled
  extract_lets c x
  have captured : Only _ (s.tick dt) c := State.capture_only ..
  have reads : c.by Obj.monHistogram u =
      (((Hist.decode (s.by Obj.monHistogram u)).getD (s.monFresh u (s.tick dt).ptp)).add v).1.encode := State.capture_reads ..
  have kept : Raises [] (s.tick dt) c := State.capture_raises ..
  have unit_ : c.monUnit u = s.monUnit u := captured.monUnit u
  have alarm : c.i Obj.monAlarm u = s.i Obj.monAlarm u := captured.i Obj.monAlarm u
  have ptp : c.ptp = (s.tick dt).ptp := captured.ptp
  have same : (decide (c.i Obj.monAlarm u < v) && !x.alarmed) = true ↔ s.i Obj.monAlarm u < v ∧ (s.monUnit u).alarmed = false := by
    dsimp only [x]
    rw [alarm, unit_, Bool.and_eq_true, decide_eq_true_eq, Bool.not_eq_true']
  by_cases due : s.i Obj.monAlarm u < v ∧ (s.monUnit u).alarmed = false
  · rw [if_pos (same.2 due)]
    beta_reduce
    rw [if_pos due]
    have marked : Raises [] (s.tick dt) (c.setMonUnit u { x with alarmed := true }) := .still (c.setMonUnit_only u _) kept
    refine ⟨?_, Raised.of_tick ((State.raise_raised ..).before marked), ?_⟩
    · rw [(State.raise_only ..).ptp, (State.setMonUnit_only ..).ptp, ptp, (State.raise_only ..).by Obj.monHistogram u,
        (State.setMonUnit_only ..).by Obj.monHistogram u]
      exact reads
    · rw [(State.raise_only ..).monUnit u, State.monUnit_setMonUnit]
  · rw [if_neg fun h => due (same.1 h)]
    beta_reduce
    rw [if_neg due, ptp]
    exact ⟨reads, kept.kept Ev.monAlarm (by decide) (by decide) _ (by decide), unit_⟩

theorem monPeriod_rearms {u : Nat} (awake : s.awake) (captures : s.monStateOf u = 1) (period : s.n Obj.monPeriod u ≠ 0)
    (rolls : (s.monUnit u).roll ≠ (s.tick dt).monIndex u) : Completes (.monPeriod dt u) s fun t => (t.monUnit u).alarmed = false := by
  have due : (decide ((s.tick dt).monStateOf u = 1) && (s.tick dt).n Obj.monPeriod u != 0 &&
      ((s.tick dt).monUnit u).roll != (s.tick dt).monIndex u) = true :=
    Bool.and_eq_true_iff.2 ⟨Bool.and_eq_true_iff.2 ⟨decide_eq_true captures, bne_iff_ne.2 period⟩, bne_iff_ne.2 rolls⟩
  refine ⟨_, (actIf_next awake due : execMonPeriod dt u s = _), ?_⟩
  extract_lets k t1 a t2 t3
  beta_reduce
  rw [(State.raise_only ..).monUnit u, State.monUnit_setMonUnit]

theorem monPeriod_idle {u : Nat} (awake : s.awake) (never : s.n Obj.monPeriod u = 0) :
    Completes (.monPeriod dt u) s fun t => t = s.tick dt := by
  have idle : (decide ((s.tick dt).monStateOf u = 1) && (s.tick dt).n Obj.monPeriod u != 0 &&
      ((s.tick dt).monUnit u).roll != (s.tick dt).monIndex u) = false := by
    have zero : ((s.tick dt).n Obj.monPeriod u != 0) = false := bne_eq_false_iff_eq.2 never
    rw [zero, Bool.and_false, Bool.false_and]
  exact ⟨_, (actIf_idle awake idle : execMonPeriod dt u s = _), rfl⟩

theorem State.monRestart_rearms (s : State) (u : Nat) : ((s.monRestart u).monUnit u).alarmed = false := by
  unfold State.monRestart
  rw [State.monUnit_setMonUnit]

/-- The rows of a unit's settings that restart it, and of its clear. -/
theorem monSettings_rows : ∀ r ∈ dictionary, (Obj.monKind ≤ r.index ∧ r.index < Obj.monPeriod → r.access = .rw ∧ r.commit = .immediate) ∧
    (r.index = Obj.monClear → r.access = .wo ∧ r.commit = .immediate) := by decide +kernel

theorem monClear_rearms {m : Msg} {x : Session} {sub : Nat} {value : List Byte} (h : Acts s dt m x Obj.monClear sub value (.num 1)) :
    Completes (.monClear dt m sub value) s fun t => (t.monUnit sub).alarmed = false := by
  obtain ⟨r, row⟩ := h.may.row
  obtain ⟨member, index⟩ := dictRow_some row
  obtain ⟨l, after, -⟩ := h.immediate (fun r member index => ((monSettings_rows r member).2 index).2) (by decide)
  rw [State.applyNow_wo _ _ h.may.small row ((monSettings_rows r member).2 index).1] at after
  refine ⟨_, act_next h.may.ready.awake, ?_⟩
  have clears : (((s.tick dt).withSessions l).trigger Obj.monClear sub (.num 1)) = ((s.tick dt).withSessions l).monClear sub := rfl
  rw [clears] at after
  have cleared : (((s.tick dt).withSessions l).monClear sub).monUnit sub = _ := (State.toDefault_only ..).monUnit sub
  exact (congrArg MonUnit.alarmed ((after.monUnit sub).trans cleared)).trans (State.monRestart_rearms ..)

theorem State.written_mon (s : State) (old : Objs) {i : Nat} (n : Nat) (low : Obj.monKind ≤ i) (high : i < Obj.monPeriod) :
    s.written old i n = s.monRestart n := by
  unfold Obj.monKind at low
  unfold Obj.monPeriod at high
  obtain rfl | rfl | rfl | rfl | rfl : i = 0x7010 ∨ i = 0x7011 ∨ i = 0x7012 ∨ i = 0x7013 ∨ i = 0x7014 := by omega
  all_goals rfl

theorem monConfigWrite_rearms {m : Msg} {x : Session} {index sub : Nat} {value : List Byte} {v : Val} (low : Obj.monKind ≤ index)
    (high : index < Obj.monPeriod) (h : Acts s dt m x index sub value v) :
    Completes (.monConfigWrite dt m index sub value) s fun t => (t.monUnit sub).alarmed = false := by
  obtain ⟨r, row⟩ := h.may.row
  obtain ⟨member, rfl⟩ := dictRow_some row
  have own : ∀ i ∈ ownObjs, ¬ (Obj.monKind ≤ i ∧ i < Obj.monPeriod) := by decide
  have rows (q : Row) (member : q ∈ dictionary) (same : q.index = r.index) : q.access = .rw ∧ q.commit = .immediate :=
    (monSettings_rows q member).1 ⟨same ▸ low, same ▸ high⟩
  obtain ⟨l, after, -⟩ := h.immediate (fun q member same => (rows q member same).2) fun m => own _ m ⟨low, high⟩
  rw [State.applyNow_rw _ _ h.may.small row (rows r member rfl).1, State.written_mon _ _ _ low high] at after
  have setting : (decide (Obj.monKind ≤ r.index) && decide (r.index ≤ Obj.monAlarm)) = true :=
    Bool.and_eq_true_iff.2 ⟨decide_eq_true low, decide_eq_true (Nat.le_succ_of_le (Nat.le_of_lt high))⟩
  refine ⟨_, (actIf_next h.may.ready.awake setting : execMonConfigWrite dt m r.index sub value s = _), ?_⟩
  beta_reduce
  rw [after.monUnit sub]
  exact State.monRestart_rearms ..

end

/-! ## The statement -/

/-- Settles O55: a sample marks its unit as it raises MON_ALARM, and a roll or a restart unmarks it. -/
theorem alarmsOnce : Obligations.AlarmsOnce := by
  unfold Obligations.AlarmsOnce
  refine ⟨?_, ?_, ?_, ?_, ?_⟩
  · exact fun s dt u value v awake captures sample => monSample_alarms awake captures sample
  · exact fun s dt u awake captures period rolls => monPeriod_rearms awake captures period rolls
  · exact fun s dt u awake never => monPeriod_idle awake never
  · exact fun s dt m x sub value h => monClear_rearms h
  · exact fun s dt m x index sub value v low high h => monConfigWrite_rearms low high h

end Sys2Proof.Machine
end

section
/-!
SUPPORT. Sessions that end (R460): what an end raises, answers and leaves of the table of sessions.
-/
namespace Sys2Proof.Machine
set_option Elab.async false

section
variable {s : State}

/-! ## What the end of a session raises -/

theorem State.unarm_raises {l : List Nat} (s : State) (n : Nat) : Raises l s (s.unarm n) := by
  unfold State.unarm
  extract_lets pre y t1 idle t2 others t3
  have h1 : Raises l s t1 := .of_only (State.setSalvo_only ..)
  have h2 : Raises l s t2 := .foldl (fun u e => .of_only (u.setN_only Obj.rxFlowState e 0)) h1
  have h3 : Raises l s t3 := .foldl (fun u e => .of_only (u.setN_only Obj.txFlowState e 0)) h2
  exact (State.syncMembership_raises _).seq h3 fun _ => id

theorem State.discardSalvo_raises (s : State) (n : Nat) (empty : Bool) :
    Raises [Ev.salvoSessionDiscard] s (s.discardSalvo n empty) := by
  unfold State.discardSalvo
  extract_lets t1 y t2
  have h1 : Raises [Ev.salvoSessionDiscard] s t1 := .still (State.setSalvo_only ..) (s.unarm_raises n)
  have h2 : Raises [Ev.salvoSessionDiscard] s t2 := h1.upd rfl
  exact .ite h2 ((State.raise_raises ..).seq h2)

theorem State.discardOwned_raises (s : State) (n : Nat) : Raises [Ev.salvoSessionDiscard] s (s.discardOwned n) := by
  refine .ite (.refl s) (.foldl (fun u p => .ite (.refl u) ?_) (.refl s))
  split
  · exact u.discardSalvo_raises ..
  · exact u.discardSalvo_raises ..
  · exact .of_only (State.setSalvo_only ..)
  · exact .refl u

/-- Session n without an entry, before its end is raised. -/
def State.left (s : State) (n : Nat) (reason : Option Nat) : State :=
  let t := match reason with
    | some r => s.sendIn n fun k => .close n k r
    | none => s
  let t := { t with il := { t.il with sessions := del t.il.sessions n } }.dropWaits n
  ((t.leaveEngine n).discardOwned n).endStaging n

theorem State.endSession_some {n : Nat} {x : Session} (h : s.session n = some x) (reason : Option Nat) :
    s.endSession n reason = (s.left n reason).raise Ev.sessionClosed n := by
  unfold State.endSession
  rw [h]
  rfl

theorem State.left_raises (s : State) (n : Nat) (reason : Option Nat) : Raises [Ev.salvoSessionDiscard] s (s.left n reason) := by
  unfold State.left
  extract_lets t1 y t2
  have h1 : Raises [Ev.salvoSessionDiscard] s t1 := by
    unfold t1
    split
    · exact .of_only (State.sendIn_only ..)
    · exact .refl s
  have closed : Raises [Ev.salvoSessionDiscard] s { t1 with il := { t1.il with sessions := del t1.il.sessions n } } := h1.upd rfl
  have h2 : Raises [Ev.salvoSessionDiscard] s t2 := .still (State.dropWaits_only ..) closed
  have h3 : Raises [Ev.salvoSessionDiscard] s ((t2.leaveEngine n).discardOwned n) :=
    (State.discardOwned_raises ..).seq (.still (State.leaveEngine_only ..) h2)
  exact .still (State.endStaging_only ..) h3

/-- The end of a session is raised (R460). -/
theorem State.endSession_raised {n : Nat} {x : Session} (h : s.session n = some x) (reason : Option Nat) :
    Raised Ev.sessionClosed n s (s.endSession n reason) := by
  rw [State.endSession_some h]
  exact (State.raise_raised ..).before (s.left_raises n reason)

/-- What the end of a session may raise. -/
abbrev closeEvents : List Nat := [Ev.sessionClosed, Ev.salvoSessionDiscard]

theorem State.endSession_raises (s : State) (n : Nat) (reason : Option Nat) : Raises closeEvents s (s.endSession n reason) := by
  cases h : s.session n with
  | none =>
    unfold State.endSession
    rw [h]
    exact .refl s
  | some x =>
    rw [State.endSession_some h]
    exact (State.raise_raises ..).seq ((s.left_raises n reason).seq (.refl s))

theorem State.endSessions_raises (s : State) (reason : Option Nat) : Raises closeEvents s (s.endSessions reason) :=
  .foldl (fun u n => u.endSession_raises n reason) (.refl s)

theorem State.endRole_raises (s : State) (role reason : Nat) : Raises closeEvents s (s.endRole role reason) :=
  .foldl (fun u n => u.endSession_raises n (some reason)) (.refl s)

/-! ## The sessions that are left -/

/-- The numbers and roles of the sessions. -/
def State.members (s : State) : List (Nat × Nat) := s.il.sessions.map fun p => (p.1, p.2.role)

theorem Only.members {r : Reach} {s t : State} (h : Only r s t) (hp : Part.sessions ∉ r.parts := by decide) :
    t.members = s.members := by
  have same : t.il.sessions = s.il.sessions := h.same .sessions hp
  rw [State.members, same, State.members]

/-- The sessions that the end of one leaves are as before, their waits aside. -/
theorem State.left_sessions (s : State) (n : Nat) (reason : Option Nat) : ∃ f : Session → Session,
    (∀ y, (f y).role = y.role ∧ (f y).held = y.held) ∧
      (s.left n reason).il.sessions = (del s.il.sessions n).map fun p => (p.1, f p.2) := by
  unfold State.left
  extract_lets t1 y t2
  have gone : del t1.il.sessions n = del s.il.sessions n := by
    unfold t1
    cases reason with
    | none => rfl
    | some r =>
      dsimp only
      unfold State.sendIn
      cases s.session n with
      | none => rfl
      | some x => simp [State.emit, State.setSession, put, del]
  refine ⟨fun z => { z with fences := z.fences.map fun (f : Fence) => { f with waits := f.waits.filterMap (State.waitLeft
    { t1 with il := { t1.il with sessions := del t1.il.sessions n } } n) } }, fun _ => ⟨rfl, rfl⟩, ?_⟩
  have kept : (((t2.leaveEngine n).discardOwned n).endStaging n).il.sessions = t2.il.sessions :=
    ((State.endStaging_only ..).same .sessions).trans
      (((State.discardOwned_only ..).same .sessions).trans ((State.leaveEngine_only ..).same .sessions))
  rw [kept, ← gone]
  rfl

theorem State.left_members (s : State) (n : Nat) (reason : Option Nat) :
    (s.left n reason).members = s.members.filter fun p => p.1 != n := by
  obtain ⟨f, same, sessions⟩ := s.left_sessions n reason
  unfold State.members
  rw [sessions, del, List.map_map, List.filter_map]
  exact List.map_congr_left fun p _ => Prod.ext rfl (same p.2).1

theorem State.session_none_iff {n : Nat} : s.session n = none ↔ ∀ p ∈ s.members, p.1 ≠ n := by
  unfold State.session State.members
  rw [List.lookup_eq_none_iff, List.forall_mem_map]
  exact forall₂_congr fun p _ => bne_iff_ne.trans ne_comm

theorem State.endSession_members (s : State) (n : Nat) (reason : Option Nat) :
    (s.endSession n reason).members = s.members.filter fun p => p.1 != n := by
  cases h : s.session n with
  | none =>
    unfold State.endSession
    rw [h]
    exact (List.filter_eq_self.2 fun p hp => bne_iff_ne.2 (State.session_none_iff.1 h p hp)).symm
  | some x => rw [State.endSession_some h, (State.raise_only ..).members, State.left_members]

theorem State.endSession_session (s : State) (n : Nat) (reason : Option Nat) : (s.endSession n reason).session n = none := by
  rw [State.session_none_iff, State.endSession_members]
  intro p hp
  exact bne_iff_ne.1 (List.mem_filter.1 hp).2

/-- The sessions that an end of several leaves. -/
theorem State.foldl_endSession_members (s : State) (l : List Nat) (reason : Option Nat) :
    (l.foldl (fun t n => t.endSession n reason) s).members = s.members.filter fun p => !l.contains p.1 := by
  induction l generalizing s with
  | nil => exact (List.filter_eq_self.2 fun _ _ => rfl).symm
  | cons n l ih =>
    rw [List.foldl_cons, ih, State.endSession_members, List.filter_filter]
    refine List.filter_congr fun p _ => ?_
    rw [List.contains_cons, Bool.not_or, Bool.and_comm]
    rfl

/-- An end of all sessions leaves none. -/
theorem State.endSessions_none (s : State) (reason : Option Nat) : (s.endSessions reason).il.sessions = [] := by
  have none_ : (s.endSessions reason).members = [] := by
    rw [State.endSessions, State.foldl_endSession_members, List.filter_eq_nil_iff]
    intro p hp
    obtain ⟨q, hq, rfl⟩ := List.mem_map.1 hp
    have member : q.1 ∈ s.il.sessions.map fun (p : Nat × Session) => p.1 := List.mem_map_of_mem hq
    simp [member]
  exact List.map_eq_nil_iff.1 none_

/-- An end of a role's sessions leaves none of the role. -/
theorem State.endRole_none (s : State) (role reason : Nat) : ∀ p ∈ (s.endRole role reason).il.sessions, p.2.role ≠ role := by
  intro p hp same
  have member : (p.1, p.2.role) ∈ (s.endRole role reason).members := List.mem_map.2 ⟨p, hp, rfl⟩
  rw [State.endRole, State.foldl_endSession_members, List.mem_filter] at member
  obtain ⟨before, kept⟩ := member
  obtain ⟨q, hq, e⟩ := List.mem_map.1 before
  obtain ⟨number, role_⟩ := Prod.mk.inj e
  have ended : p.1 ∈ (s.il.sessions.filter fun (p : Nat × Session) => p.2.role == role).map fun (p : Nat × Session) => p.1 :=
    List.mem_map.2 ⟨q, List.mem_filter.2 ⟨hq, beq_iff_eq.2 (role_.trans same)⟩, number⟩
  rw [List.contains_iff_mem.2 ended] at kept
  cases kept

end
end Sys2Proof.Machine
end

section
/-!
PROOFS. Sessions: HELLO, PROOF and challenges (R454 to R457).
-/
namespace Sys2Proof.Machine
set_option Elab.async false

section
variable {s : State} {dt : Nat} {m : Msg}

/-- A HELLO that is not dropped (R454). -/
theorem ilrilHello_next {h : Hello} (awake : s.awake) (served : s.serves m = true) (kept : msgDrop m = none) :
    execIlrilHello dt m h s = .next (match (s.tick dt).hello m h with
      | (.refused st retry, u) => u.emit (.refuse m.port m.addr h.nc st retry)
      | (.challenge c, u) => u.emit (.challenge m.port m.addr c.nc c.nd Config.uniqueId c.handle)) := by
  refine (actIf_next awake served : execIlrilHello dt m h s = _).trans ?_
  rw [kept] <;> rfl

theorem State.hello_opens {h : Hello} (free : s.helloRefusal m h = none) :
    s.hello m h = (.challenge (s.openChallenge m h).1, (s.openChallenge m h).2) := by
  rw [State.hello, free]

theorem State.hello_refuses {h : Hello} {st retry : Nat} (refused : s.helloRefusal m h = some (st, retry)) :
    s.hello m h = (.refused st retry, if st = Code.sessionLimit then s.limitRefused else s) := by
  rw [State.hello, refused]

theorem ilrilHello_opens {h : Hello} (awake : s.awake) (served : s.serves m = true) (kept : msgDrop m = none)
    (free : (s.tick dt).helloRefusal m h = none) : Completes (.ilrilHello dt m h) s fun t =>
      ∃ c ∈ t.il.challenges, c.role = h.role ∧ c.nc = h.nc ∧ c.addr = m.addr ∧ c.openedAt = t.now ∧
        Out.challenge m.port m.addr h.nc c.nd Config.uniqueId c.handle ∈ t.out := by
  refine ⟨_, (ilrilHello_next awake served kept : exec (.ilrilHello dt m h) s = _), ?_⟩
  rw [State.hello_opens free]
  exact ⟨((s.tick dt).openChallenge m h).1, List.mem_append_right _ (List.mem_singleton_self _), rfl, rfl, rfl, rfl, State.mem_emit ..⟩

theorem ilrilHello_refuses {h : Hello} {st retry : Nat} (awake : s.awake) (served : s.serves m = true) (kept : msgDrop m = none)
    (refused : (s.tick dt).helloRefusal m h = some (st, retry)) : Completes (.ilrilHello dt m h) s fun t =>
      t.il.challenges = s.il.challenges ∧ Out.refuse m.port m.addr h.nc st retry ∈ t.out := by
  refine ⟨_, (ilrilHello_next awake served kept : exec (.ilrilHello dt m h) s = _), ?_⟩
  rw [State.hello_refuses refused]
  refine ⟨?_, State.mem_emit ..⟩
  have same : ((s.tick dt).limitRefused).il.challenges = s.il.challenges := (State.raiseLimited_only ..).same .challenges
  show (ite _ _ _ : State).il.challenges = _
  split
  · exact same
  · rfl

/-- A PROOF that is not dropped (R455). -/
theorem ilrilProof_next {handle : Nat} {proof : List Byte} (awake : s.awake) (served : s.serves m = true) (kept : msgDrop m = none)
    (version : m.version = 1) : execIlrilProof dt m handle proof s = .next (match (s.tick dt).proof m handle proof with
      | (.refused st nc, u) => u.emit (.refuse m.port m.addr nc st 0)
      | (.welcome n role flags p, u) => u.emit (.welcome n role flags p)) := by
  refine (actIf_next awake served : execIlrilProof dt m handle proof s = _).trans ?_
  have current : ¬ (m.version != 1) = true := by simp [version]
  rw [kept]
  dsimp only
  rw [if_neg current] <;> rfl

/-- What a right proof of an open challenge answers and leaves. -/
theorem State.openSession_opens (s : State) (c : Challenge) (key : List Byte) :
    let t := (s.openSession c key).2
    Raised Ev.sessionOpened s.freeSession s t ∧
      (∃ x, t.session s.freeSession = some x ∧ x.role = c.role ∧ x.addr = c.addr ∧ x.openedAt = t.ptp ∧ x.devSeq = 1) ∧
      ∃ flags, (s.openSession c key).1 =
        .welcome s.freeSession c.role flags (Config.hmac key (c.nc ++ c.nd ++ Config.uniqueId)) := by
  unfold State.openSession
  extract_lets n enc open_ x t1 t2
  have open1 : t1.session n = some x := ((State.raise_only ..).session n).trans (State.session_setSession ..)
  have raised1 : Raised Ev.sessionOpened n s t1 := (State.raise_raised ..).before (l := []) (.of_objs rfl)
  have ptp1 : t1.ptp = s.ptp := (State.raise_only ..).ptp
  have h2 : t2.session n = some x ∧ Raised Ev.sessionOpened n s t2 ∧ t2.ptp = s.ptp := by
    unfold t2
    split
    · exact ⟨((State.raise_only ..).session n).trans open1, raised1.after (State.raise_raises ..) (State.raise_only ..).ptp,
        ((State.raise_only ..).ptp).trans ptp1⟩
    · exact ⟨open1, raised1, ptp1⟩
  obtain ⟨open2, raised2, ptp2⟩ := h2
  exact ⟨raised2, ⟨x, open2, rfl, rfl, ptp2.symm, rfl⟩, _, rfl⟩

/-- The challenge of a proof is used up (R455). -/
def State.proved (s : State) (handle : Nat) : State :=
  { s with il := { s.il with challenges := s.il.challenges.filter fun x => x.handle != handle } }

/-- A right proof opens a session. -/
theorem State.proof_right {handle : Nat} {c : Challenge} {key : List Byte} (challenge : s.challengeOf m handle = some c)
    (keyed : s.keyFor c.role = some key) (room : s.il.sessions.length < s.sessionMost) :
    s.proof m handle (Config.hmac key (c.nd ++ c.nc ++ Config.uniqueId)) =
      ((s.proved handle).setLockouts ((s.proved handle).otherLockouts m.addr)).openSession c key := by
  let v := (s.proved handle).setLockouts ((s.proved handle).otherLockouts m.addr)
  have keyed : (s.proved handle).keyFor c.role = some key := keyed
  have room : ¬ v.sessionMost ≤ v.il.sessions.length := Nat.not_le.2 room
  rw [State.proof, challenge]
  change (match (s.proved handle).keyFor c.role with | none => _ | some key => _) = _
  rw [keyed]
  dsimp only
  rw [if_neg (by simp)]
  exact if_neg room

/-- A wrong proof counts as a failure. -/
theorem State.proof_wrong {handle : Nat} {proof : List Byte} {c : Challenge} {key : List Byte}
    (challenge : s.challengeOf m handle = some c) (keyed : s.keyFor c.role = some key)
    (wrong : proof ≠ Config.hmac key (c.nd ++ c.nc ++ Config.uniqueId)) :
    s.proof m handle proof = (.refused Code.authFailed c.nc, (s.proved handle).countFailure m.addr c.role) := by
  have keyed : (s.proved handle).keyFor c.role = some key := keyed
  rw [State.proof, challenge]
  change (match (s.proved handle).keyFor c.role with | none => _ | some key => _) = _
  rw [keyed]
  exact if_pos (bne_iff_ne.2 wrong)

theorem ilrilProof_opens {handle : Nat} {c : Challenge} {key : List Byte} (awake : s.awake) (served : s.serves m = true)
    (kept : msgDrop m = none) (version : m.version = 1) (challenge : (s.tick dt).challengeOf m handle = some c)
    (keyed : s.keyFor c.role = some key) (room : s.il.sessions.length < s.sessionMost) :
    Completes (.ilrilProof dt m handle (Config.hmac key (c.nd ++ c.nc ++ Config.uniqueId))) s fun t =>
      Raised Ev.sessionOpened s.freeSession s t ∧
        (∃ x, t.session s.freeSession = some x ∧ x.role = c.role ∧ x.addr = c.addr ∧ x.openedAt = t.ptp ∧ x.devSeq = 1) ∧
        ∃ flags, Out.welcome s.freeSession c.role flags (Config.hmac key (c.nc ++ c.nd ++ Config.uniqueId)) ∈ t.out := by
  let v := ((s.tick dt).proved handle).setLockouts (((s.tick dt).proved handle).otherLockouts m.addr)
  have right : (s.tick dt).proof m handle (Config.hmac key (c.nd ++ c.nc ++ Config.uniqueId)) = v.openSession c key :=
    State.proof_right challenge keyed room
  obtain ⟨raised, ⟨x, opened⟩, flags, welcome⟩ := v.openSession_opens c key
  refine ⟨_, (ilrilProof_next awake served kept version : exec (.ilrilProof dt m handle _) s = _), ?_⟩
  rw [right, show v.openSession c key = ((v.openSession c key).1, (v.openSession c key).2) from rfl, welcome]
  exact ⟨raised, ⟨x, opened⟩, flags, State.mem_emit ..⟩

theorem State.countFailure_fails (s : State) (addr : List Byte) (role : Nat) :
    let t := s.countFailure addr role
    t.il.sessions = s.il.sessions ∧ Counted Obj.authFailures 0 1 s t ∧ Raised Ev.authFailure role s t := by
  unfold State.countFailure
  extract_lets x failures locks step y t1 t2 t
  unfold t
  have counted2 : Counted Obj.authFailures 0 1 s t2 := by
    have counted : Counted Obj.authFailures 0 1 t1 (t1.bump Obj.authFailures 0) := State.bump_counted ..
    exact (counted.still (State.raise_only ..)).from_same rfl
  have raised2 : Raised Ev.authFailure role s t2 :=
    (State.raise_raised ..).before (l := []) ((State.bump_raises (l := []) ..).seq (.of_objs rfl))
  have sessions2 : t2.il.sessions = s.il.sessions :=
    ((State.raise_only ..).same .sessions).trans ((State.bump_only ..).same .sessions)
  split
  · exact ⟨((State.raise_only ..).same .sessions).trans sessions2, counted2.still (State.raise_only ..),
      raised2.after (State.raise_raises ..) (State.raise_only ..).ptp⟩
  · exact ⟨sessions2, counted2, raised2⟩

theorem ilrilProof_fails {handle : Nat} {proof : List Byte} {c : Challenge} {key : List Byte} (awake : s.awake)
    (served : s.serves m = true) (kept : msgDrop m = none) (version : m.version = 1)
    (challenge : (s.tick dt).challengeOf m handle = some c) (keyed : s.keyFor c.role = some key)
    (wrong : proof ≠ Config.hmac key (c.nd ++ c.nc ++ Config.uniqueId)) : Completes (.ilrilProof dt m handle proof) s fun t =>
      t.il.sessions = s.il.sessions ∧ Counted Obj.authFailures 0 1 s t ∧ Raised Ev.authFailure c.role s t ∧
        Out.refuse m.port m.addr c.nc Code.authFailed 0 ∈ t.out := by
  obtain ⟨sessions, counted, raised⟩ := ((s.tick dt).proved handle).countFailure_fails m.addr c.role
  refine ⟨_, (ilrilProof_next awake served kept version : exec (.ilrilProof dt m handle _) s = _), ?_⟩
  rw [State.proof_wrong challenge keyed wrong]
  exact ⟨sessions, counted, raised, State.mem_emit ..⟩

theorem challengeExpiry_expires {handle : Nat} (awake : s.awake) : Completes (.challengeExpiry dt handle) s fun t =>
    ∀ c ∈ t.il.challenges, c.handle = handle → t.now < c.openedAt + 2000000000 := by
  refine ⟨_, (act_next awake : execChallengeExpiry dt handle s = _), ?_⟩
  intro c hc same
  have kept := (List.mem_filter.1 hc).2
  rw [same, bne_self_eq_false, Bool.false_or] at kept
  exact of_decide_eq_true kept

end

/-- Settles O21: a HELLO or PROOF that is not dropped comes to what the refusals, the key and the proof decide, and an expiry
leaves no challenge past its time. -/
theorem sessionsOpen : Obligations.SessionsOpen := by
  unfold Obligations.SessionsOpen
  refine ⟨?_, ?_, ?_, ?_, ?_⟩
  · exact fun s dt m h awake served kept free => ilrilHello_opens awake served kept free
  · exact fun s dt m h st retry awake served kept refused => ilrilHello_refuses awake served kept refused
  · exact fun s dt m handle c key awake served kept version challenge keyed room =>
      ilrilProof_opens awake served kept version challenge keyed room
  · exact fun s dt m handle proof c key awake served kept version challenge keyed wrong =>
      ilrilProof_fails awake served kept version challenge keyed wrong
  · exact fun s dt handle awake => challengeExpiry_expires awake

end Sys2Proof.Machine
end

section
/-!
PROOFS. Sessions: lock-outs, ends and KEEPALIVE (R457, R460).
-/
namespace Sys2Proof.Machine
set_option Elab.async false

section
variable {s : State} {dt : Nat} {m : Msg} {x : Session}

/-! ## Lock-outs (R457) -/

/-- A change of the lock-outs of one address reads as the change of its lock-out. -/
theorem State.lockout_map {addr : List Byte} {x : Lockout} (h : s.lockout addr = some x) (f : Lockout → Lockout)
    (same : ∀ y, (f y).addr = y.addr) :
    (s.setLockouts (s.il.lockouts.map fun x => if x.addr == addr then f x else x)).lockout addr = some (f x) := by
  have e (y : Lockout) : (if y.addr == addr then f y else y).addr = y.addr := by
    split
    · exact same y
    · rfl
  have same_ : (fun y : Lockout => y.addr == addr) ∘ (fun y => if y.addr == addr then f y else y) = fun y => y.addr == addr :=
    funext fun y => congrArg (· == addr) (e y)
  have found : (x.addr == addr) = true := List.find?_some (p := fun y : Lockout => y.addr == addr) h
  change (s.il.lockouts.map _).find? _ = _
  rw [List.find?_map, same_]
  have h : s.il.lockouts.find? (fun y => y.addr == addr) = some x := h
  rw [h, Option.map_some, if_pos found]

theorem lockoutEnd_ends {addr : List Byte} {x : Lockout} {e : Nat} (awake : s.awake) (locked : s.lockout addr = some x)
    (until_ : x.until_ = some e) (past : e ≤ s.now + dt) : Completes (.lockoutEnd dt addr) s fun t =>
      t.lockout addr = some { x with until_ := none, failures := 0 } := by
  have locked : (s.tick dt).lockout addr = some x := locked
  have due : ((s.tick dt).lockout addr).elim false (fun x => x.until_.elim false fun e => decide (e ≤ (s.tick dt).now)) = true := by
    rw [locked, Option.elim_some, until_, Option.elim_some]
    exact decide_eq_true past
  exact ⟨_, (actIf_next awake due : execLockoutEnd dt addr s = _), State.lockout_map locked _ fun _ => rfl⟩

theorem lockoutTimeReset_resets {addr : List Byte} {x : Lockout} (awake : s.awake) (locked : s.lockout addr = some x)
    (free : x.until_ = none) (past : x.lastFailure + 3600000000000 ≤ s.now + dt) :
    Completes (.lockoutTimeReset dt addr) s fun t => t.lockout addr = some { x with step := 0 } := by
  have locked : (s.tick dt).lockout addr = some x := locked
  have due : ((s.tick dt).lockout addr).elim false (fun x => x.until_.isNone && decide (x.lastFailure + 3600000000000 ≤
      (s.tick dt).now)) = true := by
    have past : x.lastFailure + 3600000000000 ≤ (s.tick dt).now := past
    rw [locked, Option.elim_some, free, Option.isNone_none, Bool.true_and]
    exact decide_eq_true past
  exact ⟨_, (actIf_next awake due : execLockoutTimeReset dt addr s = _), State.lockout_map locked _ fun _ => rfl⟩

/-! ## Sessions that end (R460) -/

/-- What ends a session says so before. -/
theorem State.endSession_closes {n r : Nat} {x : Session} (h : s.session n = some x) :
    Out.close n x.devSeq r ∈ (s.endSession n (some r)).out := by
  have told : Out.close n x.devSeq r ∈ (s.sendIn n fun k => .close n k r).out := by
    rw [State.sendIn, h]
    exact State.mem_emit ..
  have closed : OutKept (s.sendIn n fun k => .close n k r) (s.left n (some r)) :=
    .still (State.endStaging_only ..) ((State.discardOwned_outKept ..).seq
      (.still (State.leaveEngine_only ..) (.still (State.dropWaits_only ..) (.of_eq rfl))))
  rw [State.endSession_some h]
  exact (State.raise_outKept ..).mem (closed.mem told)

theorem sessionIdleTimeout_ends {n : Nat} (awake : s.awake) (open_ : s.session n = some x) (idle : x.lastRx + 60000000000 ≤ s.now + dt) :
    Completes (.sessionIdleTimeout dt n) s fun t =>
      t.session n = none ∧ Out.close n x.devSeq 2 ∈ t.out ∧ Raised Ev.sessionClosed n s t := by
  have open_ : (s.tick dt).session n = some x := open_
  have due : ((s.tick dt).session n).elim false (fun x => decide (x.lastRx + 60000000000 ≤ (s.tick dt).now)) = true := by
    rw [open_, Option.elim_some]
    exact decide_eq_true idle
  exact ⟨_, (actIf_next awake due : execSessionIdleTimeout dt n s = _), State.endSession_session .., State.endSession_closes open_,
    Raised.of_tick (State.endSession_raised open_ _)⟩

theorem tcpConnectionClose_ends {n : Nat} (awake : s.awake) (open_ : s.session n = some x) (tcp : x.tcp = true) :
    Completes (.tcpConnectionClose dt n) s fun t => t.session n = none ∧ Raised Ev.sessionClosed n s t := by
  have open_ : (s.tick dt).session n = some x := open_
  have due : ((s.tick dt).session n).elim false (fun x => x.tcp) = true := by
    rw [open_]
    exact tcp
  exact ⟨_, (actIf_next awake due : execTcpConnectionClose dt n s = _), State.endSession_session ..,
    Raised.of_tick (State.endSession_raised open_ _)⟩

/-- Nothing is released where no session is. -/
theorem State.releaseHeld_gone {n : Nat} (h : s.session n = none) : s.releaseHeld n = s := by
  rw [State.releaseHeld, h]
  rfl

theorem ilrilClose_closes (h : Ready s m x .close) : Completes (.ilrilClose dt m) s fun t =>
    t.session m.session = none ∧ answerOf m x 0x05 0 .none ∈ t.out ∧ Raised Ev.sessionClosed m.session s t := by
  obtain ⟨u, z, begun, -, -, e⟩ := h.message dt
  refine ⟨(s.tick dt).message m .close, act_next h.awake, ?_⟩
  obtain ⟨y, open_⟩ : ∃ y, (u.respond m.session m.seq 0x05 0 0 .none).session m.session = some y := by
    obtain ⟨y, open_, begins⟩ := begun.session
    rw [State.respond_some open_]
    exact ⟨_, State.session_setSession ..⟩
  have gone : ((u.respond m.session m.seq 0x05 0 0 .none).endSession m.session none).session m.session = none :=
    State.endSession_session ..
  have answered := begun.answerable.answers (m := m) 0x05 0 .none
  rw [begun.answerable.respond] at answered
  rw [e, State.perform, State.releaseHeld_gone gone]
  refine ⟨gone, (State.endSession_outKept ..).mem answered, ?_⟩
  have responded : Raises [] u (u.respond m.session m.seq 0x05 0 0 .none) := .of_only (State.respond_only ..)
  exact ((State.endSession_raised open_ none).before responded).before (l := []) (.of_objs begun.objs)

theorem ilrilKeepalive_keeps (h : Ready s m x .keepalive) : Completes (.ilrilKeepalive dt m) s fun t =>
    answerOf m x 0x06 0 .none ∈ t.out ∧ ∃ y, t.session m.session = some y ∧ y.lastRx = t.now ∧ y.devSeq = x.devSeq + 1 := by
  obtain ⟨u, z, begun, -, -, e⟩ := h.message dt
  refine ⟨(s.tick dt).message m .keepalive, act_next h.awake, ?_⟩
  rw [e, State.perform]
  refine ⟨begun.answerable.answers .., ?_⟩
  rw [begun.answerable.respond]
  obtain ⟨same, y, open_, begins⟩ := begun
  rw [State.respond_some open_]
  refine ⟨_, State.session_setSession .., begins.heard.trans ?_, congrArg (· + 1) begins.devSeq⟩
  rw [same]
  rfl

end

/-- Settles O22: a lock-out changes in its own entry, an end of a session removes its entry and raises SESSION_CLOSED, and a
KEEPALIVE is answered by the session it keeps. -/
theorem sessionsEnd : Obligations.SessionsEnd := by
  unfold Obligations.SessionsEnd
  refine ⟨?_, ?_, ?_, ?_, ?_, ?_⟩
  · exact fun s dt addr x e awake locked until_ past => lockoutEnd_ends awake locked until_ past
  · exact fun s dt addr x awake locked free past => lockoutTimeReset_resets awake locked free past
  · exact fun s dt m x h => ilrilClose_closes h
  · exact fun s dt n x awake open_ idle => sessionIdleTimeout_ends awake open_ idle
  · exact fun s dt n x awake open_ tcp => tcpConnectionClose_ends awake open_ tcp
  · exact fun s dt m x h => ilrilKeepalive_keeps h

end Sys2Proof.Machine
end

section
/-!
PROOFS. Restarts on request (R524, R619, R620): a save that is under way is completed first, and what waits for it is answered first.
-/
namespace Sys2Proof.Machine
set_option Elab.async false

/-- An Owner session whose request 5, STORE_SAVE_NOW, waits for the save that is under way. -/
def saver : Session :=
  { role := 3
    encrypted := false
    tcp := true
    port := 0
    addr := []
    peerPort := 0
    seen := [5]
    high := 5
    outstanding := [5]
    busy := [(5, [adr Obj.storeSaveNow 0])] }

/-- A running, provisioned device in that save. -/
def savingForSession : State :=
  { State.reset with
    boot := { stage := .running, resetLow := false, started := true, uplandRuns := true }
    st := { save := some ⟨0, false, ⟨1, 0, [], [], none⟩, 0, [⟨.request 1 5, 0x11, .write 0, 0, []⟩], []⟩ }
    il := {
      ctlUp := true
      roleKeys := [(3, [1])]
      sessions := [(1, saver)] } }

/-- Its next message. -/
def restartMsg : Msg := ⟨1, true, 0, [], 0, 6, 0, 1, true, true, true, false⟩

theorem restart_acts : Acts savingForSession 0 restartMsg saver Obj.deviceRestart 0 (beBytes 2 2) (.num 2) where
  may := {
    small := by decide
    ready := {
      awake := by decide +kernel
      served := by decide +kernel
      kept := by decide +kernel
      session := rfl
      new := by decide +kernel
      fence := by decide
      named := .inl rfl
      fences := fun _ h => nomatch h
      room := by decide
      free := rfl
      idle := by decide +kernel
      wellFormed := rfl
      open_ := by decide +kernel
      order := by decide +kernel }
    dict := by decide +kernel
    stands := by decide +kernel }
  alone := by decide +kernel

/-- Refutes O29: a HARD restart first completes the save that is under way and answers its request, so that the answer to the restart
has not the next number of the session. -/
theorem not_restartRequests : ¬ Obligations.RestartRequests := by
  unfold Obligations.RestartRequests
  rintro ⟨-, -, hard⟩
  obtain ⟨t, ran, -, -, -, -, answered⟩ := hard savingForSession 0 restartMsg saver restart_acts
  have result : exec (.deviceRestartHard 0 restartMsg) savingForSession =
      .next ((savingForSession.tick 0).writeRow restartMsg Obj.deviceRestart 0 (beBytes 2 2)) := act_next restart_acts.may.ready.awake
  rw [result] at ran
  cases ran
  exact absurd answered (by decide +kernel)

end Sys2Proof.Machine
end

section
/-!
SUPPORT. Writes that act on the device itself (R464): the state in which one is decided, and a session that holds no message while
sessions end.
-/
namespace Sys2Proof.Machine
set_option Elab.async false

section
variable {s : State} {dt : Nat} {m : Msg} {x : Session} {i k : Nat} {value : List Byte} {v : Val}

/-- A write that acts on the device itself is decided in a state in which its request has begun. -/
theorem Acts.owned (h : Acts s dt m x i k value v) : ∃ u, Begun (s.tick dt) m.session x m.seq u ∧
    ∀ w, u.ownWrite m.session (adr i k) v = some w →
      (w.status = 0 → (s.tick dt).writeRow m i k value =
        (w.state.finish ⟨.request m.session m.seq, 0x11, .write w.effectiveAt, 0, []⟩ [(0, w.after)]).releaseHeld m.session) ∧
      (w.status ≠ 0 → (s.tick dt).writeRow m i k value =
        (w.state.respond m.session m.seq 0x11 w.status 0 (.write 0)).releaseHeld m.session) := by
  obtain ⟨⟨small, ready, dict, stands⟩, alone⟩ := h
  obtain ⟨u, z, begun, role, -, e⟩ := ready.message dt
  refine ⟨u, begun, fun w own => ?_⟩
  have decided : u.writeItem m.session z.role (adr i k) value = w := by
    have dict' : u.dictCheck z.role (adr i k) value = .inr v := by rwa [begun.same, State.dictCheck_withSessions, role]
    have stands' : u.standCheck (adr i k) v = none := by rwa [begun.same, State.standCheck_withSessions]
    simp only [State.writeItem, dict', stands', own]
  rw [State.writeRow, e, State.perform]
  exact ⟨fun c => by rw [State.writeFor_accepted decided c], fun c => by rw [State.writeFor_refused decided c]⟩

/-- What follows an end of a role's sessions (R486): it comes after the answer. -/
theorem State.finish_endRole (s : State) (n seq type role : Nat) (b : Body) :
    s.finish ⟨.request n seq, type, b, 0, []⟩ [(0, .endRole role)] = (s.respond n seq type 0 0 b).endRole role 3 := rfl

/-- What follows an activation (R589): the restart comes after the answer. -/
theorem State.finish_activate (s : State) (n seq type : Nat) (b : Body) :
    s.finish ⟨.request n seq, type, b, 0, []⟩ [(0, .activate)] = (s.respond n seq type 0 0 b).activateNow := rfl

/-- What follows a save (R498): the save answers. -/
theorem State.finish_save (s : State) (n seq type : Nat) (b : Body) : s.finish ⟨.request n seq, type, b, 0, []⟩ [(0, .save)] =
    { s with st := { s.st with replies := s.st.replies ++ [(⟨.request n seq, type, b, 0, []⟩ : Answer)] } }.saveSoon := by
  simp [State.finish, After.delays, After.frameOf, sortBy, insertBy, State.followWrite]

/-! ## Sessions that hold no message -/

/-- No entry of session n holds a message. -/
def Unheld (n : Nat) (s : State) : Prop := ∀ p ∈ s.il.sessions, p.1 = n → p.2.held = []

theorem mem_of_lookup {α : Type} {l : Table α} {n : Nat} {y : α} (h : l.lookup n = some y) : (n, y) ∈ l := by
  obtain ⟨l₁, l₂, rfl, -⟩ := List.lookup_eq_some_iff.1 h
  exact List.mem_append_right _ (List.mem_cons_self ..)

theorem Unheld.releaseHeld {n : Nat} (h : Unheld n s) : s.releaseHeld n = s := by
  cases open_ : s.session n with
  | none => exact State.releaseHeld_gone open_
  | some y => exact State.releaseHeld_none open_ (h (n, y) (mem_of_lookup open_) rfl)

theorem Unheld.after {n : Nat} {t : State} {r : Reach} (h : Unheld n s) (g : Only r s t) (hp : Part.sessions ∉ r.parts := by decide) :
    Unheld n t := by
  have same : t.il.sessions = s.il.sessions := g.same .sessions hp
  rwa [Unheld, same]

theorem Answerable.respond_unheld {n : Nat} {w : State} (h : Answerable n x w) (seq type status detail : Nat) (b : Body) :
    Unheld n (w.respond n seq type status detail b) := by
  obtain ⟨z, open_, -, held⟩ := h
  rw [State.respond_some open_]
  intro p hp same
  obtain rfl | ⟨-, other⟩ := List.mem_cons.1 hp |>.imp_right List.mem_filter.1
  · exact held
  · exact absurd same (bne_iff_ne.1 other)

theorem Unheld.endSession {n : Nat} (h : Unheld n s) (l : Nat) (reason : Option Nat) : Unheld n (s.endSession l reason) := by
  cases open_ : s.session l with
  | none =>
    unfold State.endSession
    rw [open_]
    exact h
  | some y =>
    rw [State.endSession_some open_]
    refine Unheld.after ?_ (State.raise_only ..)
    obtain ⟨f, same, sessions⟩ := s.left_sessions l reason
    rw [Unheld, sessions]
    intro p hp number
    obtain ⟨q, hq, rfl⟩ := List.mem_map.1 hp
    exact (same q.2).2.trans (h q (List.mem_filter.1 hq).1 number)

theorem Unheld.endRole {n : Nat} (h : Unheld n s) (role reason : Nat) : Unheld n (s.endRole role reason) := by
  unfold State.endRole
  generalize ((s.il.sessions.filter _).map _) = l
  induction l generalizing s with
  | nil => exact h
  | cons l ls ih => exact ih (h.endSession l _)

end
end Sys2Proof.Machine
end

section
/-!
PROOFS. Role keys, owner lock and slots, subscriptions and SAVE_NOW (R486, R491, R492, R494, R498).
-/
namespace Sys2Proof.Machine
set_option Elab.async false

section
variable {s : State} {dt : Nat} {m : Msg} {x : Session} {value : List Byte}

/-- A write that acts on the device itself and that nothing follows is answered. -/
theorem Acts.owned_plain {i k : Nat} {v : Val} (h : Acts s dt m x i k value v) {f : State → State} {r : Reach}
    (own : ∀ u, u.ownWrite m.session (adr i k) v = some (f u).wrote) (only : ∀ u, Only r u (f u))
    (sessions : Part.sessions ∉ r.parts := by decide) :
    ∃ l, Only answerReach (f ((s.tick dt).withSessions l)) ((s.tick dt).writeRow m i k value) ∧
      Answered m x ((s.tick dt).writeRow m i k value) := by
  obtain ⟨u, begun, decided⟩ := h.owned
  obtain ⟨accepted, -⟩ := decided _ (own u)
  have done : Answerable m.session x (f u) := begun.answerable.after (only u) sessions
  have e : (s.tick dt).writeRow m i k value = ((f u).respond m.session m.seq 0x11 0 0 (.write (f u).ptp)).releaseHeld m.session :=
    accepted rfl
  have after := done.respond_only m.seq 0x11 0 0 (.write (f u).ptp)
  refine ⟨u.il.sessions, ?_, ?_⟩
  · rw [e, ← begun.same]
    exact after
  · rw [Answered, e, after.ptp]
    exact done.answers ..

/-! ## Role keys (R486) -/

theorem State.writeKey_writes (s : State) (role : Nat) (key : List Byte) :
    (s.writeKey role key).il.roleKeys = keysAfter s.il.roleKeys role key ∧
      (s.writeKey role key).n Obj.roleKeyChangedAt role = s.ptp := by
  unfold State.writeKey
  extract_lets y t
  refine ⟨((State.refreshProvision_only ..).same .roleKeys).trans ((State.raise_only ..).same .roleKeys), ?_⟩
  rw [(State.refreshProvision_only ..).n Obj.roleKeyChangedAt, (State.raise_only ..).n Obj.roleKeyChangedAt, State.n_setN_self]
  rfl

theorem roleKeyChanged_changes {sub : Nat} {b : List Byte} (h : Acts s dt m x Obj.roleKey sub value (.bytes b)) :
    Completes (.roleKeyChanged dt m sub value) s fun t =>
      t.il.roleKeys = keysAfter s.il.roleKeys sub b ∧ t.n Obj.roleKeyChangedAt sub = t.ptp ∧
        (∀ p ∈ t.il.sessions, p.2.role ≠ sub) ∧ Answered m x t := by
  obtain ⟨u, begun, decided⟩ := h.owned
  have own : u.ownWrite m.session (adr Obj.roleKey sub) (.bytes b) = some ((u.writeKey sub b).wrote (.endRole sub)) := by
    unfold State.ownWrite
    rw [adrIndex_adr, adrSub_adr h.may.small]
    rfl
  obtain ⟨accepted, -⟩ := decided _ own
  let w := u.writeKey sub b
  let a := w.respond m.session m.seq 0x11 0 0 (.write w.ptp)
  have wrote : Only _ u w := State.writeKey_only ..
  have done : Answerable m.session x w := begun.answerable.after wrote
  have answered : answerOf m x 0x11 0 (.write w.ptp) ∈ a.out := by
    have answers := done.answers (m := m) 0x11 0 (.write w.ptp)
    rwa [done.respond] at answers
  have e : (s.tick dt).writeRow m Obj.roleKey sub value = (a.endRole sub 3).releaseHeld m.session := accepted rfl
  have held : Unheld m.session a := done.respond_unheld _ _ _ _ _
  rw [(held.endRole sub 3).releaseHeld] at e
  have ended : Only _ a (a.endRole sub 3) := State.endRole_only ..
  have responded : Only _ w a := State.respond_only ..
  obtain ⟨keys, at_⟩ := u.writeKey_writes sub b
  have before : u.il.roleKeys = s.il.roleKeys := by
    rw [begun.same]
    rfl
  have ptp : (a.endRole sub 3).ptp = w.ptp := ended.ptp.trans responded.ptp
  refine ⟨a.endRole sub 3, (act_next h.may.ready.awake).trans (congrArg Host.Outcome.next e), ?_⟩
  refine ⟨(ended.same .roleKeys).trans ((responded.same .roleKeys).trans (keys.trans (before ▸ rfl))), ?_,
    State.endRole_none _ _ _, ?_⟩
  · rw [ptp, wrote.ptp, ended.n Obj.roleKeyChangedAt, responded.n Obj.roleKeyChangedAt]
    exact at_
  · rw [Answered, ptp]
    exact (State.endRole_outKept ..).mem answered

/-! ## The owner lock and the owner's keys (R491, R492) -/

theorem Only.owners {r : Reach} {s t : State} (h : Only r s t) (hp : Part.owners ∉ r.parts := by decide) :
    t.up.ownerHashes = s.up.ownerHashes ∧ t.up.ownerStates = s.up.ownerStates := Prod.mk.inj (h.same .owners hp)

theorem Only.b {r : Reach} {s t : State} (h : Only r s t) (i k : Nat) (hp : Part.objs ∉ r.parts := by decide)
    (hi : i ∉ r.objs := by decide) : t.b i k = s.b i k := congrArg (· != 0) (h.n i k hp hi)

theorem State.writeLock_writes (s : State) {on : Bool} (other : s.b Obj.ownerLock 0 ≠ on) :
    let t := s.writeLock on
    t.b Obj.ownerLock 0 = on ∧ t.n Obj.ownerLockChangedAt 0 = t.ptp ∧ Raised Ev.ownerLockChange (b2n on) s t := by
  intro t
  have e : t = ((s.setB Obj.ownerLock 0 on).setN Obj.ownerLockChangedAt 0 s.ptp).raise Ev.ownerLockChange (b2n on) :=
    if_neg (by simpa using other)
  rw [e]
  refine ⟨?_, ?_, (State.raise_raised ..).before (l := []) (.still (State.setN_only ..) (.of_only (State.setB_only ..)))⟩
  · rw [(State.raise_only ..).b Obj.ownerLock, (State.setN_only ..).b Obj.ownerLock]
    exact State.b_setB_self ..
  · rw [(State.raise_only ..).n Obj.ownerLockChangedAt, (State.raise_only ..).ptp, State.n_setN_self]
    rfl

theorem ownerLockChange_changes {on : Bool} (h : Acts s dt m x Obj.ownerLock 0 value (.num (b2n on))) (other : s.b Obj.ownerLock 0 ≠ on) :
    Completes (.ownerLockChange dt m value) s fun t =>
      t.b Obj.ownerLock 0 = on ∧ t.n Obj.ownerLockChangedAt 0 = t.ptp ∧ Raised Ev.ownerLockChange (b2n on) s t ∧ Answered m x t := by
  obtain ⟨l, after, answered⟩ := h.owned_plain (f := fun u => u.writeLock on) (fun u => by cases on <;> rfl)
    fun u => u.writeLock_only on
  obtain ⟨lock, at_, raised⟩ := ((s.tick dt).withSessions l).writeLock_writes other
  refine ⟨(s.tick dt).writeRow m Obj.ownerLock 0 value, act_next h.may.ready.awake, (after.b Obj.ownerLock 0).trans lock, ?_,
    (raised.before (l := []) (.of_objs rfl)).after (l := []) (.of_only after) after.ptp, answered⟩
  exact (after.n Obj.ownerLockChangedAt 0).trans (at_.trans after.ptp.symm)

theorem ownerKeyProgram_burns {b : List Byte} {k : Nat} (h : Acts s dt m x Obj.ownerKeyProgram 0 value (.bytes b))
    (empty : s.emptySlot = some k) : Completes (.ownerKeyProgram dt m value) s fun t =>
      look t.up.ownerHashes k [] = b ∧ look t.up.ownerStates k 0 = 1 ∧ Raised Ev.ownerKeyChange k s t ∧ Answered m x t := by
  obtain ⟨l, after, answered⟩ := h.owned_plain (f := fun u => u.programKey b) (fun u => rfl) fun u => u.programKey_only b
  let u := (s.tick dt).withSessions l
  let burned : State := { u with up := { u.up with
    ownerHashes := put u.up.ownerHashes k b
    ownerStates := put u.up.ownerStates k 1 } }
  have burns : u.programKey b = burned.raise Ev.ownerKeyChange k := by
    have empty : u.emptySlot = some k := empty
    rw [State.programKey, empty]
  have after : Only answerReach (u.programKey b) _ := after
  rw [burns] at after
  obtain ⟨hashes, states⟩ := after.owners
  obtain ⟨hashes', states'⟩ := (burned.raise_only Ev.ownerKeyChange k).owners
  have raised : Raised Ev.ownerKeyChange k s (burned.raise Ev.ownerKeyChange k) := (State.raise_raised ..).before (l := []) (.of_objs rfl)
  refine ⟨(s.tick dt).writeRow m Obj.ownerKeyProgram 0 value, act_next h.may.ready.awake, ?_, ?_, raised.after (l := []) (.of_only after) after.ptp, answered⟩
  · rw [hashes.trans hashes']
    exact look_put_self ..
  · rw [states.trans states']
    exact look_put_self ..

theorem ownerKeyRevoke_revokes {k : Nat} (h : Acts s dt m x Obj.ownerKeyRevoke 0 value (.num k)) :
    Completes (.ownerKeyRevoke dt m value) s fun t =>
      look t.up.ownerStates k 0 = 2 ∧ Raised Ev.ownerKeyChange k s t ∧ Answered m x t := by
  obtain ⟨l, after, answered⟩ := h.owned_plain (f := fun u => u.revokeKey k) (fun u => rfl) fun u => u.revokeKey_only k
  let u := (s.tick dt).withSessions l
  let revoked : State := { u with up := { u.up with ownerStates := put u.up.ownerStates k 2 } }
  have after : Only answerReach (revoked.raise Ev.ownerKeyChange k) _ := after
  have raised : Raised Ev.ownerKeyChange k s (revoked.raise Ev.ownerKeyChange k) :=
    (State.raise_raised ..).before (l := []) (.of_objs rfl)
  refine ⟨(s.tick dt).writeRow m Obj.ownerKeyRevoke 0 value, act_next h.may.ready.awake, ?_, raised.after (l := []) (.of_only after) after.ptp, answered⟩
  rw [after.owners.2.trans (revoked.raise_only Ev.ownerKeyChange k).owners.2]
  exact look_put_self ..

/-! ## Subscriptions and saves (R494, R498) -/

theorem subscriptionWrite_subscribes {b : List Byte} (h : Acts s dt m x Obj.subscription 0 value (.bytes b)) :
    Completes (.subscriptionWrite dt m value) s fun t =>
      (∃ y, t.session m.session = some y ∧ y.subscription = b) ∧ Answered m x t := by
  obtain ⟨u, begun, decided⟩ := h.owned
  obtain ⟨z, open_, begins⟩ := begun.session
  let w := u.setSession m.session { z with subscription := b }
  have own : u.ownWrite m.session (adr Obj.subscription 0) (.bytes b) = some w.wrote := by
    unfold State.ownWrite
    rw [adrIndex_adr, open_]
    rfl
  obtain ⟨accepted, -⟩ := decided _ own
  have opened : w.session m.session = some { z with subscription := b } := State.session_setSession ..
  have done : Answerable m.session x w := ⟨_, opened, begins.devSeq, begins.held⟩
  have e : (s.tick dt).writeRow m Obj.subscription 0 value =
      (w.respond m.session m.seq 0x11 0 0 (.write w.ptp)).releaseHeld m.session := accepted rfl
  refine ⟨_, (act_next h.may.ready.awake).trans (congrArg Host.Outcome.next e), ?_, ?_⟩
  · rw [done.respond, State.respond_some opened]
    exact ⟨_, State.session_setSession .., rfl⟩
  · rw [Answered, (done.respond_only ..).ptp]
    exact done.answers ..

theorem State.setSlot_replies (s : State) (k : Nat) (x : Option StoreSlot) : (s.setSlot k x).st.replies = s.st.replies := by
  unfold State.setSlot
  split <;> rfl

theorem storeSaveNow_saves (h : Acts s dt m x Obj.storeSaveNow 0 value (.num 1)) (runs : s.boot.uplandRuns = true)
    (free : s.st.save = none) (due : ∀ a, s.st.lastStart = some a → a + 1000000000 ≤ s.now + dt) :
    Completes (.storeSaveNow dt m value) s fun t =>
      t.st.lastStart = some t.now ∧
        ∃ y, t.st.save = some y ∧ y.slot = s.saveSlot ∧ ⟨.request m.session m.seq, 0x11, .write t.ptp, 0, []⟩ ∈ y.replies := by
  obtain ⟨u, begun, decided⟩ := h.owned
  obtain ⟨accepted, -⟩ := decided (u.wrote .save) rfl
  obtain ⟨l, same⟩ : ∃ l, u = (s.tick dt).withSessions l := ⟨_, begun.same⟩
  subst same
  let u := (s.tick dt).withSessions l
  let asked : Answer := ⟨.request m.session m.seq, 0x11, .write u.ptp, 0, []⟩
  let v : State := { u with st := { u.st with replies := u.st.replies ++ [asked] } }
  have ready : (v.boot.uplandRuns && v.st.save.isNone && v.st.lastStart.elim true fun a => decide (a + 1000000000 ≤ v.now)) = true := by
    have runs : v.boot.uplandRuns = true := runs
    have free : v.st.save = none := free
    rw [runs, free, Option.isNone_none, Bool.true_and, Bool.true_and]
    cases last : v.st.lastStart with
    | none => rfl
    | some a =>
      rw [Option.elim_some]
      exact decide_eq_true (due a last)
  have saves : v.saveSoon = v.startSave := if_pos ready
  have held : Answerable m.session x v.startSave := by
    have same : Answerable m.session x v := begun.answerable
    exact same.after (State.startSave_only ..)
  have e : (s.tick dt).writeRow m Obj.storeSaveNow 0 value = v.startSave := by
    rw [accepted rfl]
    show (State.finish u ⟨.request m.session m.seq, 0x11, .write u.ptp, 0, []⟩ [(0, .save)]).releaseHeld m.session = _
    rw [State.finish_save]
    show v.saveSoon.releaseHeld m.session = _
    rw [saves, held.releaseHeld]
  refine ⟨v.startSave, (act_next h.may.ready.awake).trans (congrArg Host.Outcome.next e), ?_⟩
  have slot : v.saveSlot = s.saveSlot := rfl
  have told : asked ∈ v.st.replies := List.mem_append_right _ (List.mem_singleton_self asked)
  refine ⟨rfl, _, rfl, slot, ?_⟩
  rw [State.setSlot_replies, (State.startSave_only ..).ptp]
  exact told

end

/-- Settles O27: each write acts in the state in which its request begins; only its answer, and for a role key the end of the role's
sessions, comes after. -/
theorem keysAndStore : Obligations.KeysAndStore := by
  unfold Obligations.KeysAndStore
  refine ⟨?_, ?_, ?_, ?_, ?_, ?_⟩
  · exact fun s dt m x sub value b h => roleKeyChanged_changes h
  · exact fun s dt m x value on h other => ownerLockChange_changes h other
  · exact fun s dt m x value b k h empty => ownerKeyProgram_burns h empty
  · exact fun s dt m x value k h => ownerKeyRevoke_revokes h
  · exact fun s dt m x value b h => subscriptionWrite_subscribes h
  · exact fun s dt m x value h runs free due => storeSaveNow_saves h runs free due

end Sys2Proof.Machine
end

section
/-!
SUPPORT. The bytes of the flash (R579, R600): what a program and an erase leave of them.
-/
namespace Sys2Proof.Machine
set_option Elab.async false

section
variable {s : State}

theorem State.flashByte_setFlashByte (s : State) (a c : Nat) (b : Byte) :
    (s.setFlashByte a b).flashByte c = if c = a then b else s.flashByte c := storeGet_storeSet ..

/-- A byte outside a program's range stays. -/
theorem State.flashByte_program_out (s : State) {a c : Nat} (b : List Byte) (out : ¬ (a ≤ c ∧ c < a + b.length)) :
    (s.program a b).flashByte c = s.flashByte c := by
  induction b generalizing s a with
  | nil => rfl
  | cons y b ih =>
    rw [List.length_cons] at out
    rw [State.program, ih _ (by omega), State.flashByte_setFlashByte, if_neg (by omega)]

/-- A program clears the bits that its bytes clear (notes/assumptions/9.md). -/
theorem State.flashByte_program (s : State) (a k : Nat) (b : List Byte) (inside : k < b.length) :
    (s.program a b).flashByte (a + k) = s.flashByte (a + k) &&& b[k] := by
  induction b generalizing s a k with
  | nil => cases inside
  | cons y b ih =>
    rw [State.program]
    cases k with
    | zero =>
      rw [State.flashByte_program_out _ _ (by omega), State.flashByte_setFlashByte]
      exact if_pos rfl
    | succ k =>
      have here : a + (k + 1) = a + 1 + k := by omega
      rw [here, ih _ _ k (Nat.lt_of_succ_lt_succ inside), State.flashByte_setFlashByte, if_neg (by omega)]
      rfl

/-- An erase sets its range to 0xFF (notes/assumptions/9.md). -/
theorem State.flashByte_erase (s : State) (a n c : Nat) :
    (s.erase a n).flashByte c = if a ≤ c ∧ c < a + n then 0xFF else s.flashByte c := by
  unfold State.flashByte State.erase storeGet
  dsimp only
  by_cases inside : a ≤ c ∧ c < a + n
  · have gone : (s.flash.filter fun c => !(decide (a ≤ c.1) && decide (c.1 < a + n))).lookup c = none := by
      rw [List.lookup_eq_none_iff]
      intro p hp
      have outside := (List.mem_filter.1 hp).2
      simp only [bne_iff_ne]
      rintro rfl
      simp [inside] at outside
    rw [if_pos inside, gone]
    rfl
  · have kept : (!(decide (a ≤ c) && decide (c < a + n))) = true := by
      simp only [Bool.not_eq_true', Bool.and_eq_false_iff, decide_eq_false_iff_not]
      omega
    rw [if_neg inside, lookup_filter_fst (p := fun c => !(decide (a ≤ c) && decide (c < a + n))) kept]

theorem State.flashBytes_length (s : State) (a n : Nat) : (s.flashBytes a n).length = n := by
  induction n generalizing a with
  | zero => rfl
  | succ n ih => rw [State.flashBytes, List.length_cons, ih]

theorem State.flashBytes_getElem (s : State) (a n k : Nat) (h : k < (s.flashBytes a n).length) :
    (s.flashBytes a n)[k] = s.flashByte (a + k) := by
  induction n generalizing a k with
  | zero => cases h
  | succ n ih =>
    cases k with
    | zero => rfl
    | succ k =>
      have next := ih (a + 1) k (Nat.lt_of_succ_lt_succ h)
      rw [Nat.add_assoc, Nat.add_comm 1 k] at next
      exact next

/-- A program of erased bytes stands as it was given. -/
theorem State.program_erased (s : State) (a : Nat) (b : List Byte) (erased : ∀ k < b.length, s.flashByte (a + k) = 0xFF) :
    (s.program a b).flashBytes a b.length = b := by
  refine List.ext_getElem (State.flashBytes_length ..) fun k h inside => ?_
  have ones (y : Byte) : 0xFF &&& y = y := BitVec.allOnes_and
  rw [State.flashBytes_getElem, State.flashByte_program s a k b inside, erased k inside, ones]

/-! ## Images (R580, R581) -/

/-- Two states in which every image reads alike: the same flash and the same update machine. -/
structure ImagesAlike (s t : State) : Prop where
  flash : t.flash = s.flash
  up : t.up = s.up

variable {t : State}

theorem State.flashBytes_congr (flash : t.flash = s.flash) : t.flashBytes = s.flashBytes := by
  funext a n
  induction n generalizing a with
  | zero => rfl
  | succ n ih => rw [State.flashBytes, State.flashBytes, ih, State.flashByte, flash, State.flashByte]

theorem ImagesAlike.flashBytes (h : ImagesAlike s t) : t.flashBytes = s.flashBytes := State.flashBytes_congr h.flash

theorem ImagesAlike.imageN (h : ImagesAlike s t) : t.imageN = s.imageN := by
  unfold State.imageN
  rw [h.flashBytes]

theorem ImagesAlike.imageLength (h : ImagesAlike s t) (base : Nat) : t.imageLength base = s.imageLength base := by
  unfold State.imageLength State.imageSigs State.imageBody
  rw [h.imageN]

theorem ImagesAlike.headerOk (h : ImagesAlike s t) (kind base : Nat) : t.headerOk kind base = s.headerOk kind base := by
  unfold State.headerOk State.imageLength State.imageSigs State.imageBody
  rw [h.flashBytes, h.imageN]

theorem ImagesAlike.sigSigner (h : ImagesAlike s t) : t.sigSigner = s.sigSigner := by
  unfold State.sigSigner State.signerKey
  rw [h.flashBytes, h.imageN, h.up]

theorem ImagesAlike.signedFor (h : ImagesAlike s t) (kind base : Nat) (r : Bool) : t.signedFor kind base r = s.signedFor kind base r := by
  unfold State.signedFor State.signers State.imageSigs
  rw [h.sigSigner, h.imageN]

theorem ImagesAlike.imageFault (h : ImagesAlike s t) (kind base : Nat) (r : Bool) : t.imageFault kind base r = s.imageFault kind base r := by
  unfold State.imageFault State.imageSecurity State.bedrockVersionNow
  rw [h.headerOk, h.signedFor, h.imageN, h.up]

end
end Sys2Proof.Machine
end

section
/-!
PROOFS. Firmware update requests (R584 to R589, R591).
-/
namespace Sys2Proof.Machine
set_option Elab.async false

section
variable {s : State} {dt : Nat} {m : Msg} {x : Session} {value : List Byte}

/-- A request of the update machine is decided in its state with other sessions, and answers its status. -/
theorem Acts.owned_update {i k : Nat} {v : Val} (h : Acts s dt m x i k value v) {f : State → Written} {r : Reach}
    (own : ∀ u, u.ownWrite m.session (adr i k) v = some (Written.wrote (f u) .none)) (only : ∀ u, Only r u (f u).2)
    (sessions : Part.sessions ∉ r.parts := by decide) :
    ∃ l, Only answerReach (f ((s.tick dt).withSessions l)).2 ((s.tick dt).writeRow m i k value) ∧
      ((f ((s.tick dt).withSessions l)).1 = 0 → Answered m x ((s.tick dt).writeRow m i k value)) ∧
      ((f ((s.tick dt).withSessions l)).1 ≠ 0 →
        answerOf m x 0x11 (f ((s.tick dt).withSessions l)).1 (.write 0) ∈ ((s.tick dt).writeRow m i k value).out) := by
  obtain ⟨u, begun, decided⟩ := h.owned
  obtain ⟨accepted, refused⟩ := decided _ (own u)
  have done : Answerable m.session x (f u).2 := begun.answerable.after (only u) sessions
  refine ⟨u.il.sessions, ?_⟩
  rw [← begun.same]
  by_cases status : (f u).1 = 0
  · have plain : Written.wrote (f u) .none = (f u).2.wrote := if_pos status
    rw [plain] at accepted
    have e : (s.tick dt).writeRow m i k value =
        ((f u).2.respond m.session m.seq 0x11 0 0 (.write (f u).2.ptp)).releaseHeld m.session := accepted rfl
    have after := done.respond_only m.seq 0x11 0 0 (.write (f u).2.ptp)
    rw [e]
    refine ⟨after, fun _ => ?_, fun other => absurd status other⟩
    rw [Answered, after.ptp]
    exact done.answers ..
  · have code : Written.wrote (f u) .none = (f u).2.refused (f u).1 := if_neg status
    rw [code] at refused
    have e : (s.tick dt).writeRow m i k value =
        ((f u).2.respond m.session m.seq 0x11 (f u).1 0 (.write 0)).releaseHeld m.session := refused status
    rw [e]
    exact ⟨done.respond_only .., fun zero => absurd zero status, fun _ => done.answers ..⟩

/-! ## UPDATE_BEGIN (R584 to R586) -/

theorem State.updateChecks_nonzero {k c : Nat} (h : s.updateChecks k = some c) : c ≠ 0 := by
  have branch {p : Prop} [Decidable p] {a : Nat} {o : Option Nat} (ha : a ≠ 0) (ho : o = some c → c ≠ 0)
      (e : (if p then some a else o) = some c) : c ≠ 0 := by
    split at e
    · cases e
      exact ha
    · exact ho e
  unfold State.updateChecks at h
  extract_lets recovery at h
  exact branch (by decide) (branch (by decide) (branch (by decide) (branch (by decide) fun e => by cases e))) h

theorem State.updateOk_reads (s : State) : s.updateOk.2.n Obj.updateResult 0 = 0 := State.n_setN_self ..

theorem State.updateBegin_begins {session kind : Nat} (free : s.updateChecks 0 = none) :
    let w := s.updateBegin session kind
    w.1 = 0 ∧ w.2.n Obj.updateState 0 = 1 ∧ w.2.n Obj.updateReceived 0 = 0 ∧ w.2.n Obj.updateResult 0 = 0 ∧
      w.2.up.session = session ∧ w.2.up.slot = s.targetSlot kind ∧
      ∀ a, slotBase kind (s.targetSlot kind) ≤ a → a < slotBase kind (s.targetSlot kind) + slotSize kind → w.2.flashByte a = 0xFF := by
  intro w
  let slot := s.targetSlot kind
  let base := slotBase kind slot
  let t := (s.erase base (slotSize kind)).setWindow base (slotSize kind)
  let u : State := { t with up := { t.up with kind := kind, slot := slot, session := session } }
  let v := (u.setN Obj.updateState 0 1).setN Obj.updateReceived 0 0
  have e : w = v.updateOk := by
    unfold w State.updateBegin
    rw [free]
  rw [e]
  have ok : Only _ v v.updateOk.2 := State.updateOk_only v
  refine ⟨rfl, ?_, ?_, v.updateOk_reads, rfl, rfl, fun a low high => ?_⟩
  · rw [ok.n Obj.updateState, State.n_setN_ne _ _ _ _ _ _ (by decide), State.n_setN_self]
  · rw [ok.n Obj.updateReceived, State.n_setN_self]
  · have flash : v.updateOk.2.flash = (s.erase base (slotSize kind)).flash := rfl
    rw [State.flashByte, flash]
    exact (s.flashByte_erase base (slotSize kind) a).trans (if_pos ⟨low, high⟩)

theorem Only.flashByte {r : Reach} {s t : State} (h : Only r s t) (a : Nat) (hp : Part.flash ∉ r.parts := by decide) :
    t.flashByte a = s.flashByte a := by
  rw [State.flashByte, h.same .flash hp, State.flashByte]

/-- Where a reach has no part of the update machine, its session, kind, slot and boot control are as they were. -/
theorem Only.updating {r : Reach} {s t : State} (h : Only r s t) (hp : Part.update ∉ r.parts := by decide) :
    t.up.session = s.up.session ∧ t.up.kind = s.up.kind ∧ t.up.slot = s.up.slot ∧ t.up.ctl = s.up.ctl ∧
      t.up.activating = s.up.activating := by
  have same : ({ t.up with rollback := 0, ownerHashes := [], ownerStates := [], journal := [], journalSeq := 0 } : Update) =
    { s.up with rollback := 0, ownerHashes := [], ownerStates := [], journal := [], journalSeq := 0 } := h.same .update hp
  have session := congrArg Update.session same
  have kind := congrArg Update.kind same
  have slot := congrArg Update.slot same
  have ctl := congrArg Update.ctl same
  have activating := congrArg Update.activating same
  exact ⟨session, kind, slot, ctl, activating⟩

theorem updateBegin_begins {kind : Nat} (h : Acts s dt m x Obj.updateBegin 0 value (.num kind)) (free : s.updateChecks 0 = none) :
    Completes (.updateBegin dt m value) s fun t =>
      t.n Obj.updateState 0 = 1 ∧ t.n Obj.updateReceived 0 = 0 ∧ t.n Obj.updateResult 0 = 0 ∧ t.up.session = m.session ∧
        t.up.slot = s.targetSlot kind ∧ Answered m x t ∧
        ∀ a, slotBase kind t.up.slot ≤ a → a < slotBase kind t.up.slot + slotSize kind → t.flashByte a = 0xFF := by
  obtain ⟨l, after, answered, -⟩ := h.owned_update (f := fun u => u.updateBegin m.session kind) (fun u => rfl)
    fun u => u.updateBegin_only m.session kind
  have free : ((s.tick dt).withSessions l).updateChecks 0 = none := free
  obtain ⟨ok, state, received, result, session, slot, erased⟩ := State.updateBegin_begins (session := m.session) (kind := kind) free
  obtain ⟨session', -, slot', -⟩ := after.updating
  have target : ((s.tick dt).withSessions l).targetSlot kind = s.targetSlot kind := rfl
  refine ⟨(s.tick dt).writeRow m Obj.updateBegin 0 value, act_next h.may.ready.awake, (after.n Obj.updateState 0).trans state,
    (after.n Obj.updateReceived 0).trans received, (after.n Obj.updateResult 0).trans result, session'.trans session,
    slot'.trans (slot.trans target), answered ok, ?_⟩
  rw [slot', slot]
  exact fun a low high => (after.flashByte a).trans (erased a low high)

theorem updateBegin_refuses {kind c : Nat} (h : Acts s dt m x Obj.updateBegin 0 value (.num kind)) (refused : s.updateChecks 0 = some c) :
    Completes (.updateBegin dt m value) s fun t =>
      t.n Obj.updateResult 0 = c ∧ t.n Obj.updateState 0 = s.n Obj.updateState 0 ∧ Raised Ev.updateRefused c s t ∧
        answerOf m x 0x11 c (.write 0) ∈ t.out := by
  obtain ⟨l, after, -, answered⟩ := h.owned_update (f := fun u => u.updateBegin m.session kind) (fun u => rfl)
    fun u => u.updateBegin_only m.session kind
  let u := (s.tick dt).withSessions l
  have refuses : u.updateBegin m.session kind = (c, (u.setN Obj.updateResult 0 c).raise Ev.updateRefused c) := by
    have refused : u.updateChecks 0 = some c := refused
    rw [State.updateBegin, refused]
    rfl
  have after : Only answerReach (u.updateBegin m.session kind).2 _ := after
  have answered : (u.updateBegin m.session kind).1 ≠ 0 → _ := answered
  rw [refuses] at after answered
  have raised : Raised Ev.updateRefused c s ((u.setN Obj.updateResult 0 c).raise Ev.updateRefused c) :=
    (State.raise_raised ..).before (l := []) (.still (State.setN_only ..) (.of_objs rfl))
  refine ⟨(s.tick dt).writeRow m Obj.updateBegin 0 value, act_next h.may.ready.awake, ?_, ?_,
    raised.after (l := []) (.of_only after) after.ptp, ?_⟩
  · rw [after.n Obj.updateResult, (State.raise_only ..).n Obj.updateResult, State.n_setN_self]
  · rw [after.n Obj.updateState, (State.raise_only ..).n Obj.updateState, (State.setN_only ..).n Obj.updateState]
    rfl
  · exact answered (State.updateChecks_nonzero refused)

/-! ## UPDATE_DATA (R587) -/

theorem State.updateData_programs {session : Nat} {b : List Byte} (receives : s.n Obj.updateState 0 = 1) (own : s.up.session = session)
    (continues : fromBe (b.take 4) = s.n Obj.updateReceived 0)
    (fits : s.n Obj.updateReceived 0 + (b.drop 4).length ≤ imageLimit s.up.kind)
    (erased : ∀ k < (b.drop 4).length, s.flashByte (slotBase s.up.kind s.up.slot + s.n Obj.updateReceived 0 + k) = 0xFF) :
    let w := s.updateData session b
    w.1 = 0 ∧ w.2.n Obj.updateReceived 0 = s.n Obj.updateReceived 0 + (b.drop 4).length ∧
      w.2.flashBytes (slotBase s.up.kind s.up.slot + s.n Obj.updateReceived 0) (b.drop 4).length = b.drop 4 := by
  intro w
  let base := slotBase s.up.kind s.up.slot
  let from_ := s.n Obj.updateReceived 0
  let t := s.program (base + from_) (b.drop 4)
  let v := t.setN Obj.updateReceived 0 (from_ + (b.drop 4).length)
  have stands : t.flashBytes (base + from_) (b.drop 4).length = b.drop 4 := s.program_erased _ _ erased
  have e : w = v.updateOk := by
    unfold w State.updateData
    dsimp only
    rw [continues, if_neg (by simp [receives, own]), if_neg (by simp), if_neg (Nat.not_lt.2 fits), if_neg]
    · simp only [bne_iff_ne, ne_eq, not_not]
      exact stands
  rw [e]
  have ok : Only _ v v.updateOk.2 := State.updateOk_only v
  have flash : v.updateOk.2.flashBytes = t.flashBytes :=
    ImagesAlike.flashBytes (s := t) ⟨rfl, rfl⟩
  refine ⟨rfl, ?_, ?_⟩
  · rw [ok.n Obj.updateReceived, State.n_setN_self]
  · rw [flash]
    exact stands

theorem updateData_programs {b : List Byte} (h : Acts s dt m x Obj.updateData 0 value (.bytes b)) (receives : s.n Obj.updateState 0 = 1)
    (own : s.up.session = m.session) (continues : fromBe (b.take 4) = s.n Obj.updateReceived 0)
    (fits : s.n Obj.updateReceived 0 + (b.drop 4).length ≤ imageLimit s.up.kind)
    (erased : ∀ k < (b.drop 4).length, s.flashByte (slotBase s.up.kind s.up.slot + s.n Obj.updateReceived 0 + k) = 0xFF) :
    Completes (.updateData dt m value) s fun t =>
      t.n Obj.updateReceived 0 = s.n Obj.updateReceived 0 + (b.drop 4).length ∧
        t.flashBytes (slotBase s.up.kind s.up.slot + s.n Obj.updateReceived 0) (b.drop 4).length = b.drop 4 ∧ Answered m x t := by
  obtain ⟨l, after, answered, -⟩ := h.owned_update (f := fun u => u.updateData m.session b) (fun u => rfl)
    fun u => u.updateData_only m.session b
  let u := (s.tick dt).withSessions l
  obtain ⟨ok, received, stands⟩ := State.updateData_programs (s := u) (b := b) receives own continues fits erased
  have after : Only answerReach (u.updateData m.session b).2 _ := after
  have bytes (a n : Nat) : ((s.tick dt).writeRow m Obj.updateData 0 value).flashBytes a n = (u.updateData m.session b).2.flashBytes a n :=
    congrFun (congrFun (State.flashBytes_congr (after.same .flash)) a) n
  refine ⟨(s.tick dt).writeRow m Obj.updateData 0 value, act_next h.may.ready.awake, (after.n Obj.updateReceived 0).trans received,
    (bytes ..).trans stands, answered ok⟩

/-! ## UPDATE_COMMIT (R588) -/

/-- What a commit finds wrong with the image that has been received. -/
def State.commitFault (s : State) : Option Nat :=
  let base := slotBase s.up.kind s.up.slot
  if s.headerOk s.up.kind base && s.imageLength base != s.n Obj.updateReceived 0 then some 0xD6
  else s.imageFault s.up.kind base (s.boot.stage == .recovery)

/-- An image that is staged. -/
def State.stages (s : State) : State :=
  let base := slotBase s.up.kind s.up.slot
  let t := ((s.setWindow 0 0).setN Obj.stagedVersion 0 (s.imageVersion base)).setN Obj.stagedSecurityVersion 0 (s.imageSecurity base)
  (t.setN Obj.updateState 0 3).raise Ev.updateStaged s.up.kind

theorem State.stages_stages (s : State) : s.stages.n Obj.updateState 0 = 3 ∧
    s.stages.n Obj.stagedVersion 0 = s.imageVersion (slotBase s.up.kind s.up.slot) ∧ Raised Ev.updateStaged s.up.kind s s.stages := by
  unfold State.stages
  extract_lets base t
  refine ⟨?_, ?_, ?_⟩
  · rw [(State.raise_only ..).n Obj.updateState, State.n_setN_self]
  · rw [(State.raise_only ..).n Obj.stagedVersion, (State.setN_only ..).n Obj.stagedVersion, (State.setN_only ..).n Obj.stagedVersion,
      State.n_setN_self]
  · have blank : Raises [] s (s.setWindow 0 0) := .of_objs rfl
    exact (State.raise_raised ..).before (l := []) (.still (State.setN_only ..) (.still (State.setN_only ..)
      (.still (State.setN_only ..) blank)))

theorem State.imageFault_nonzero {kind base c : Nat} {r : Bool} (h : s.imageFault kind base r = some c) : c ≠ 0 := by
  have branch {p : Prop} [Decidable p] {a : Nat} {o : Option Nat} (ha : a ≠ 0) (ho : o = some c → c ≠ 0)
      (e : (if p then some a else o) = some c) : c ≠ 0 := by
    split at e
    · cases e
      exact ha
    · exact ho e
  exact branch (by decide) (branch (by decide) (branch (by decide) (branch (by decide) fun e => by cases e))) h

theorem State.updateCommit_eq {session : Nat} (receives : s.n Obj.updateState 0 = 1) (own : s.up.session = session) :
    s.updateCommit session = match s.commitFault with
      | some c => ((s.setWindow 0 0).setN Obj.updateState 0 0).updateNo c
      | none => s.stages.updateOk := by
  have alike : ImagesAlike s (s.setWindow 0 0) := ⟨rfl, rfl⟩
  have fault : (if (s.setWindow 0 0).headerOk s.up.kind (slotBase s.up.kind s.up.slot) &&
      (s.setWindow 0 0).imageLength (slotBase s.up.kind s.up.slot) != (s.setWindow 0 0).n Obj.updateReceived 0 then some 0xD6
      else (s.setWindow 0 0).imageFault s.up.kind (slotBase s.up.kind s.up.slot) ((s.setWindow 0 0).boot.stage == .recovery)) =
      s.commitFault := by
    rw [alike.headerOk, alike.imageLength, alike.imageFault]
    rfl
  unfold State.updateCommit
  rw [if_neg (by simp [receives, own])]
  extract_lets t base f staged
  have same : f = s.commitFault := fault
  rw [same]
  cases s.commitFault with
  | some c => rfl
  | none =>
    have version : t.imageVersion base = s.imageVersion base := congrFun (congrFun (congrFun alike.imageN base) 8) 4
    have security : t.imageSecurity base = s.imageSecurity base := congrFun (congrFun (congrFun alike.imageN base) 12) 1
    dsimp only [staged]
    rw [version, security]
    rfl

theorem updateCommit_checks (h : Acts s dt m x Obj.updateCommit 0 value (.num 1)) (receives : s.n Obj.updateState 0 = 1)
    (own : s.up.session = m.session) : Completes (.updateCommit dt m value) s fun t =>
      let base := slotBase s.up.kind s.up.slot
      let fault := s.imageFault s.up.kind base (s.boot.stage == .recovery)
      (s.imageLength base = s.n Obj.updateReceived 0 → fault = none →
        t.n Obj.updateState 0 = 3 ∧ t.n Obj.stagedVersion 0 = s.imageVersion base ∧ Raised Ev.updateStaged s.up.kind s t ∧
          Answered m x t) ∧
        (∀ c, s.imageLength base = s.n Obj.updateReceived 0 ∨ s.headerOk s.up.kind base = false → fault = some c →
          t.n Obj.updateState 0 = 0 ∧ t.n Obj.updateResult 0 = c ∧ answerOf m x 0x11 c (.write 0) ∈ t.out) := by
  obtain ⟨l, after, answered, refused⟩ := h.owned_update (f := fun u => u.updateCommit m.session) (fun u => rfl)
    fun u => u.updateCommit_only m.session
  let u := (s.tick dt).withSessions l
  have alike : ImagesAlike s u := ⟨rfl, rfl⟩
  have decided := u.updateCommit_eq receives own
  have after : Only answerReach (u.updateCommit m.session).2 _ := after
  have answered : (u.updateCommit m.session).1 = 0 → _ := answered
  have refused : (u.updateCommit m.session).1 ≠ 0 → answerOf m x 0x11 (u.updateCommit m.session).1 (.write 0) ∈ _ := refused
  refine ⟨(s.tick dt).writeRow m Obj.updateCommit 0 value, act_next h.may.ready.awake, fun length sound => ?_, fun c met fault => ?_⟩
  · have none_ : u.commitFault = none := by
      unfold State.commitFault
      dsimp only
      rw [if_neg]
      · exact (alike.imageFault ..).trans sound
      · have length : u.imageLength (slotBase u.up.kind u.up.slot) = u.n Obj.updateReceived 0 := (alike.imageLength _).trans length
        rw [length, bne_self_eq_false, Bool.and_false]
        decide
    rw [none_] at decided
    rw [decided] at after answered
    have staged := u.stages_stages
    have ok : Only _ u.stages u.stages.updateOk.2 := State.updateOk_only _
    obtain ⟨state, version, raised⟩ := staged
    have named : u.imageVersion (slotBase u.up.kind u.up.slot) = s.imageVersion (slotBase s.up.kind s.up.slot) :=
      congrFun (congrFun (congrFun alike.imageN _) 8) 4
    refine ⟨(after.n Obj.updateState 0).trans ((ok.n Obj.updateState 0).trans state),
      (after.n Obj.stagedVersion 0).trans ((ok.n Obj.stagedVersion 0).trans (version.trans named)), ?_, answered rfl⟩
    have raised : Raised Ev.updateStaged s.up.kind s u.stages := raised.before (l := []) (.of_objs rfl)
    exact (raised.after (l := []) (.of_only ok) ok.ptp).after (l := []) (.of_only after) after.ptp
  · have some_ : u.commitFault = some c := by
      unfold State.commitFault
      dsimp only
      rw [if_neg]
      · exact (alike.imageFault ..).trans fault
      · have length := alike.imageLength (slotBase s.up.kind s.up.slot)
        have header := alike.headerOk s.up.kind (slotBase s.up.kind s.up.slot)
        have received : u.n Obj.updateReceived 0 = s.n Obj.updateReceived 0 := rfl
        show ¬ (u.headerOk s.up.kind (slotBase s.up.kind s.up.slot) && u.imageLength (slotBase s.up.kind s.up.slot) !=
          u.n Obj.updateReceived 0) = true
        rw [length, header, received, Bool.and_eq_true, bne_iff_ne]
        exact fun both => met.elim both.2 fun bad => absurd both.1 (by rw [bad]; decide)
    rw [some_] at decided
    rw [decided] at after refused
    let v := (u.setWindow 0 0).setN Obj.updateState 0 0
    have no : Only _ v (v.updateNo c).2 := State.updateNo_only ..
    have ended : (v.updateNo c).2.n Obj.updateState 0 = 0 := (no.n Obj.updateState 0).trans (State.n_setN_self ..)
    have told : (v.updateNo c).2.n Obj.updateResult 0 = c := State.n_setN_self ..
    exact ⟨(after.n Obj.updateState 0).trans ended, (after.n Obj.updateResult 0).trans told, refused (State.imageFault_nonzero fault)⟩

/-! ## UPDATE_ACTIVATE and UPDATE_ABORT (R589) -/

theorem State.endSession_ctl (s : State) (n : Nat) (reason : Option Nat) :
    (s.endSession n reason).up.ctl = s.up.ctl ∧ (s.endSession n reason).up.activating = s.up.activating := by
  have staging (u : State) : (u.endStaging n).up.ctl = u.up.ctl ∧ (u.endStaging n).up.activating = u.up.activating := by
    unfold State.endStaging
    split
    · exact ⟨rfl, rfl⟩
    · exact ⟨rfl, rfl⟩
  cases open_ : s.session n with
  | none =>
    unfold State.endSession
    rw [open_]
    exact ⟨rfl, rfl⟩
  | some x =>
    rw [State.endSession_some open_]
    unfold State.left
    extract_lets t1 y t2
    have same1 : t1.up = s.up := by
      unfold t1
      cases reason with
      | none => rfl
      | some r =>
        dsimp only
        unfold State.sendIn
        cases s.session n <;> rfl
    obtain ⟨-, -, -, raised, raised'⟩ := (((t2.leaveEngine n).discardOwned n).endStaging n |>.raise_only Ev.sessionClosed n).updating
    obtain ⟨staged, staged'⟩ := staging ((t2.leaveEngine n).discardOwned n)
    obtain ⟨-, -, -, owned, owned'⟩ := ((t2.leaveEngine n).discardOwned_only n).updating
    obtain ⟨-, -, -, left, left'⟩ := (t2.leaveEngine_only n).updating
    have same2 : t2.up = s.up := same1
    rw [same2] at left left'
    exact ⟨raised.trans (staged.trans (owned.trans left)), raised'.trans (staged'.trans (owned'.trans left'))⟩

theorem State.endSessions_ctl (s : State) (reason : Option Nat) :
    (s.endSessions reason).up.ctl = s.up.ctl ∧ (s.endSessions reason).up.activating = s.up.activating := by
  unfold State.endSessions
  generalize s.il.sessions.map _ = l
  induction l generalizing s with
  | nil => exact ⟨rfl, rfl⟩
  | cons n l ih => exact ⟨(ih _).1.trans (s.endSession_ctl n reason).1, (ih _).2.trans (s.endSession_ctl n reason).2⟩

/-- A HARD restart begins the ROM stage, and boot control stays (R609, R620). -/
theorem State.hardRestart_restarts (s : State) (cause : Nat) : let t := s.hardRestart cause
    t.boot.stage = .rom ∧ t.boot.cause = cause ∧ t.il.sessions = [] ∧ t.tc = 0 ∧ t.up.ctl = s.up.ctl ∧
      t.up.activating = s.up.activating := ⟨rfl, rfl, rfl, rfl, rfl, rfl⟩

theorem updateActivate_activates (h : Acts s dt m x Obj.updateActivate 0 value (.num 1)) (free : s.updateChecks 3 = none) :
    Completes (.updateActivate dt m value) s fun t =>
      t.boot.stage = .rom ∧ t.boot.cause = (if s.boot.stage = .recovery then 7 else 5) ∧ t.up.activating = true ∧
        t.up.ctl.trial = some (s.up.kind, s.up.slot) ∧ t.il.sessions = [] ∧
        answerOf m x 0x11 0 (.write (s.tick dt).ptp) ∈ t.out := by
  obtain ⟨u, begun, decided⟩ := h.owned
  obtain ⟨l, same⟩ : ∃ l, u = (s.tick dt).withSessions l := ⟨_, begun.same⟩
  subst same
  let u := (s.tick dt).withSessions l
  have accepts : u.updateActivate.1 = 0 := by
    have free : u.updateChecks 3 = none := free
    rw [State.updateActivate_status, free]
    rfl
  let w := u.updateActivate.2
  have own : u.ownWrite m.session (adr Obj.updateActivate 0) (.num 1) = some (w.wrote .activate) :=
    congrArg some ((if_pos accepts : Written.wrote u.updateActivate .activate = _))
  obtain ⟨accepted, -⟩ := decided _ own
  let a := w.respond m.session m.seq 0x11 0 0 (.write w.ptp)
  have done : Answerable m.session x w := begun.answerable.after (State.updateActivate_only u)
  have answered : answerOf m x 0x11 0 (.write w.ptp) ∈ a.out := by
    have answers := done.answers (m := m) 0x11 0 (.write w.ptp)
    rwa [done.respond] at answers
  have e : (s.tick dt).writeRow m Obj.updateActivate 0 value = a.activateNow.releaseHeld m.session := accepted rfl
  let v := a.completeSaves.endSessions (some 4)
  have stage : a.boot.stage = s.boot.stage :=
    congrArg Boot.stage ((State.respond_only ..).same .boot |>.trans ((State.updateActivate_only u).same .boot))
  have restarts : a.activateNow = v.hardRestart (if s.boot.stage = .recovery then 7 else 5) := by
    unfold State.activateNow
    rw [stage]
  obtain ⟨rom, cause, gone, -, ctl, activating⟩ := v.hardRestart_restarts (if s.boot.stage = .recovery then 7 else 5)
  rw [← restarts] at rom cause gone ctl activating
  have nobody : a.activateNow.session m.session = none := by
    rw [State.session, gone]
    rfl
  rw [State.releaseHeld_gone nobody] at e
  obtain ⟨ended, ended'⟩ := a.completeSaves.endSessions_ctl (some 4)
  obtain ⟨-, -, -, saved, saved'⟩ := a.completeSaves_only.updating
  obtain ⟨-, -, -, told, told'⟩ := (w.respond_only m.session m.seq 0x11 0 0 (.write w.ptp)).updating
  have named : w.up.ctl.trial = some (s.up.kind, s.up.slot) ∧ w.up.activating = true := by
    have free : u.updateChecks 3 = none := free
    unfold w State.updateActivate
    rw [free]
    exact ⟨rfl, rfl⟩
  have ptp : w.ptp = (s.tick dt).ptp := (State.updateActivate_only u).ptp
  refine ⟨a.activateNow, (act_next h.may.ready.awake).trans (congrArg Host.Outcome.next e), rom, cause, ?_, ?_, gone, ?_⟩
  · exact activating.trans (ended'.trans (saved'.trans (told'.trans named.2)))
  · exact (congrArg BootControl.trial (ctl.trans (ended.trans (saved.trans told)))).trans named.1
  · rw [← ptp]
    exact a.activateNow_outKept.mem answered

theorem updateAbort_aborts (h : Acts s dt m x Obj.updateAbort 0 value (.num 1))
    (running : s.n Obj.updateState 0 = 1 ∨ s.n Obj.updateState 0 = 3) : Completes (.updateAbort dt m value) s fun t =>
      t.n Obj.updateState 0 = 0 ∧ t.n Obj.updateResult 0 = 0 ∧ Answered m x t := by
  obtain ⟨l, after, answered, -⟩ := h.owned_update (f := fun u => u.updateAbort) (fun u => rfl) fun u => u.updateAbort_only
  let u := (s.tick dt).withSessions l
  let v := (u.setWindow 0 0).setN Obj.updateState 0 0
  have aborts : u.updateAbort = v.updateOk := by
    have running : u.n Obj.updateState 0 = 1 ∨ u.n Obj.updateState 0 = 3 := running
    unfold State.updateAbort
    exact if_pos (by simpa using running)
  have after : Only answerReach u.updateAbort.2 _ := after
  rw [aborts] at after
  have answered : u.updateAbort.1 = 0 → _ := answered
  have ok : Only _ v v.updateOk.2 := State.updateOk_only v
  refine ⟨(s.tick dt).writeRow m Obj.updateAbort 0 value, act_next h.may.ready.awake, ?_, ?_, answered (aborts ▸ rfl)⟩
  · rw [after.n Obj.updateState, ok.n Obj.updateState, State.n_setN_self]
  · exact (after.n Obj.updateResult 0).trans v.updateOk_reads

/-! ## HEALTH_CONFIRM (R591) -/

/-- A device that has confirmed its trial image. -/
def State.confirmed (s : State) (kind slot : Nat) : State :=
  { s with up := { s.up with
    ctl := { s.up.ctl with
      patchActive := if kind = 1 then slot else s.up.ctl.patchActive
      uplandActive := if kind = 2 then slot else s.up.ctl.uplandActive
      trial := none
      prior := none }
    rollback := max s.up.rollback (s.imageSecurity (slotBase kind slot))
    windowEnds := none
    trialRuns := false } }

theorem State.confirm_eq {kind slot e : Nat} (trial : s.up.ctl.trial = some (kind, slot)) (window : s.up.windowEnds = some e)
    (within : s.now ≤ e) : s.confirm =
      (((s.confirmed kind slot).setN Obj.storeHeldSlot 0 2).setN Obj.updateState 0 0).raise Ev.updateConfirmed kind := by
  unfold State.confirm
  rw [trial, window]
  exact if_neg (Nat.not_lt.2 within)

theorem State.confirm_confirms {kind slot e : Nat} (trial : s.up.ctl.trial = some (kind, slot)) (window : s.up.windowEnds = some e)
    (within : s.now ≤ e) : let t := s.confirm
    t.up.ctl.trial = none ∧ t.n Obj.updateState 0 = 0 ∧ s.imageSecurity (slotBase kind slot) ≤ t.up.rollback ∧
      (kind = 1 → t.up.ctl.patchActive = slot) ∧ (kind = 2 → t.up.ctl.uplandActive = slot) ∧ Raised Ev.updateConfirmed kind s t := by
  rw [State.confirm_eq trial window within]
  let t := s.confirmed kind slot
  have raised := ((t.setN Obj.storeHeldSlot 0 2).setN Obj.updateState 0 0).raise_only Ev.updateConfirmed kind
  obtain ⟨-, -, -, kept, -⟩ := raised.updating
  refine ⟨congrArg BootControl.trial kept, ?_, ?_, fun first => ?_, fun second => ?_, ?_⟩
  · rw [raised.n Obj.updateState, State.n_setN_self]
  · rw [raised.same .rollback]
    exact Nat.le_max_right ..
  · exact (congrArg BootControl.patchActive kept).trans (if_pos first)
  · exact (congrArg BootControl.uplandActive kept).trans (if_pos second)
  · exact (State.raise_raised ..).before (l := []) (.still (State.setN_only ..) (.still (State.setN_only ..) (.of_objs rfl)))

theorem healthConfirm_confirms {kind slot e : Nat} (h : Acts s dt m x Obj.healthConfirm 0 value (.num 1))
    (trial : s.up.ctl.trial = some (kind, slot)) (window : s.up.windowEnds = some e) (within : s.now + dt ≤ e) :
    Completes (.healthConfirm dt m value) s fun t =>
      t.up.ctl.trial = none ∧ t.n Obj.updateState 0 = 0 ∧ s.imageSecurity (slotBase kind slot) ≤ t.up.rollback ∧
        (kind = 1 → t.up.ctl.patchActive = slot) ∧ (kind = 2 → t.up.ctl.uplandActive = slot) ∧
        Raised Ev.updateConfirmed kind s t ∧ Answered m x t := by
  have row : ∀ r ∈ dictionary, r.index = Obj.healthConfirm → r.access = .wo ∧ r.commit = .immediate := by decide +kernel
  obtain ⟨r, given⟩ := h.may.row
  obtain ⟨member, index⟩ := dictRow_some given
  obtain ⟨t, l, next, after, answered⟩ := h.triggered given (row r member index).1 (row r member index).2 (by decide)
    fun u => u.confirm_only
  let u := (s.tick dt).withSessions l
  have after : Only loggedAnswerReach u.confirm t := after
  obtain ⟨none_, state, burned, first, second, raised⟩ := State.confirm_confirms (s := u) trial window within
  have alike : ImagesAlike s u := ⟨rfl, rfl⟩
  have security : u.imageSecurity (slotBase kind slot) = s.imageSecurity (slotBase kind slot) :=
    congrFun (congrFun (congrFun alike.imageN _) 12) 1
  obtain ⟨-, -, -, ctl, -⟩ := after.updating
  have rollback : t.up.rollback = u.confirm.up.rollback := after.same .rollback
  have raised : Raised Ev.updateConfirmed kind s u.confirm := raised.before (l := []) (.of_objs rfl)
  refine ⟨t, next, ?_, (after.n Obj.updateState 0).trans state, ?_, ?_, ?_, raised.after (l := []) (.of_only after) after.ptp, ?_⟩
  · rw [ctl]
    exact none_
  · rw [rollback, ← security]
    exact burned
  · rw [ctl]
    exact first
  · rw [ctl]
    exact second
  · rw [Answered, after.ptp, u.confirm_only.ptp]
    exact answered

end

/-- Settles O28: each request is decided by the update machine in the state in which it begins, and answers what was decided; an
activation restarts the device after its answer. -/
theorem updateRequests : Obligations.UpdateRequests := by
  unfold Obligations.UpdateRequests
  refine ⟨?_, ?_, ?_, ?_, ?_, ?_, ?_⟩
  · exact fun s dt m x value kind h free => updateBegin_begins h free
  · exact fun s dt m x value kind c h refused => updateBegin_refuses h refused
  · exact fun s dt m x value b h receives own continues fits erased => updateData_programs h receives own continues fits erased
  · exact fun s dt m x value h receives own => updateCommit_checks h receives own
  · exact fun s dt m x value h free => updateActivate_activates h free
  · exact fun s dt m x value h running => updateAbort_aborts h running
  · exact fun s dt m x value kind slot e h trial window within => healthConfirm_confirms h trial window within

end Sys2Proof.Machine
end

section
/-!
SUPPORT. The buffer of the flash controller (R600): what has been written into its words is read from them.
-/
namespace Sys2Proof.Machine
set_option Elab.async false

section
variable {s : State}

/-! ## Little-endian words -/

theorem fromLe_lt (b : List Byte) : fromLe b < 256 ^ b.length := by
  induction b with
  | nil => exact Nat.one_pos
  | cons x b ih =>
    have e : fromLe (x :: b) = x.toNat + fromLe b * 256 := rfl
    have := x.isLt
    rw [e, List.length_cons, pow_succ]
    omega

/-- The bytes of a word are those that it was made of. -/
theorem leBytes_fromLe (b : List Byte) : leBytes b.length (fromLe b) = b := by
  induction b with
  | nil => rfl
  | cons x b ih =>
    have e : fromLe (x :: b) = x.toNat + fromLe b * 256 := rfl
    have low := x.isLt
    have first : BitVec.ofNat 8 (x.toNat + fromLe b * 256) = x := by
      apply BitVec.eq_of_toNat_eq
      rw [BitVec.toNat_ofNat]
      omega
    have rest : (x.toNat + fromLe b * 256) / 256 = fromLe b := by omega
    rw [List.length_cons, leBytes, e, first, rest, ih]

/-- A list is the words that it is cut into. -/
theorem flatMap_words (l : List Byte) (n : Nat) :
    ((List.range n).flatMap fun k => (l.drop (4 * k)).take 4) = l.take (4 * n) := by
  induction n with
  | zero => rfl
  | succ n ih => rw [List.range_succ, List.flatMap_append, ih, List.flatMap_singleton, Nat.mul_succ, List.take_add]

/-! ## The buffer -/

/-- A run of words written one after another reads as it was written. -/
theorem State.regN_words (s : State) (base : Nat) (v : Nat → Nat) {n k : Nat} (inside : k < n) :
    ((List.range n).foldl (fun t k => t.setRegN (base + 4 * k) (v k)) s).regN (base + 4 * k) = v k % 2 ^ 32 := by
  induction n with
  | zero => cases inside
  | succ n ih =>
    rw [List.range_succ, List.foldl_append, List.foldl_cons, List.foldl_nil]
    by_cases last : k = n
    · subst last
      exact State.regN_setRegN_self ..
    · rw [State.regN_setRegN_ne _ _ (by omega), ih (by omega)]

theorem leBytes_length (n x : Nat) : (leBytes n x).length = n := by
  induction n generalizing x with
  | zero => rfl
  | succ n ih => rw [leBytes, List.length_cons, ih]

theorem State.osfBuf_length (s : State) {n : Nat} (small : n ≤ 256) : (s.osfBuf n).length = n := by
  unfold State.osfBuf
  rw [List.length_take, List.length_flatMap]
  simp only [leBytes_length, List.map_const', List.length_range, List.sum_replicate, smul_eq_mul]
  omega

/-- A buffer that has been filled reads what filled it (R600). -/
theorem State.osfBuf_setOsfBuf (s : State) (b : List Byte) (small : b.length ≤ 256) : (s.setOsfBuf b).osfBuf b.length = b := by
  have fills (all : List Byte) (e : all = b ++ (s.osfBuf 256).drop b.length) : s.setOsfBuf b =
      (List.range 64).foldl (fun t k => t.setRegN (0x40080100 + 4 * k) (fromLe ((all.drop (4 * k)).take 4))) s := by
    rw [State.setOsfBuf, e]
  generalize filled : b ++ (s.osfBuf 256).drop b.length = all at fills
  have fills := fills all rfl
  have whole : all.length = 256 := by
    rw [← filled, List.length_append, List.length_drop, s.osfBuf_length (Nat.le_refl _)]
    omega
  have words : ((List.range 64).flatMap fun k => leBytes 4 ((s.setOsfBuf b).regN (0x40080100 + 4 * k))) =
      (List.range 64).flatMap fun k => (all.drop (4 * k)).take 4 := by
    refine List.flatMap_congr fun k hk => ?_
    have inside : k < 64 := List.mem_range.1 hk
    have length : ((all.drop (4 * k)).take 4).length = 4 := by
      rw [List.length_take, List.length_drop, whole]
      omega
    have word : (s.setOsfBuf b).regN (0x40080100 + 4 * k) = fromLe ((all.drop (4 * k)).take 4) := by
      have small := fromLe_lt ((all.drop (4 * k)).take 4)
      rw [length] at small
      rw [fills, s.regN_words 0x40080100 (fun k => fromLe ((all.drop (4 * k)).take 4)) inside]
      exact Nat.mod_eq_of_lt small
    have back := leBytes_fromLe ((all.drop (4 * k)).take 4)
    rw [length] at back
    rw [word, back]
  unfold State.osfBuf
  have cut : all.take (4 * 64) = all := List.take_of_length_le (Nat.le_of_eq whole)
  rw [words, flatMap_words, cut, ← filled, List.take_left]

end
end Sys2Proof.Machine
end

section
/-!
PROOFS. Timers, the watchdog and the flash controller (R527, R529, R600).
-/
namespace Sys2Proof.Machine
set_option Elab.async false

section
variable {s : State} {dt : Nat}

/-! ## Bits of registers -/

theorem State.regN_setRegBit_ne (s : State) {a b : Nat} (k : Nat) (v : Bool) (h : b ≠ a := by decide) :
    (s.setRegBit a k v).regN b = s.regN b := s.regN_setRegN_ne _ h

theorem State.bit_setRegBit_self (s : State) (a k : Nat) (v : Bool) (h : k < 32 := by decide) :
    bit ((s.setRegBit a k v).regN a) k = v := (s.bit_setRegBit a k v h).trans (if_pos rfl)

theorem State.bit_setRegBit_ne (s : State) (a : Nat) {j : Nat} (k : Nat) (v : Bool) (h : j < 32 := by decide) (other : j ≠ k := by decide) :
    bit ((s.setRegBit a k v).regN a) j = bit (s.regN a) j := (s.bit_setRegBit a k v h).trans (if_neg other)

/-! ## Timers and the alarm (R527) -/

theorem tmwTimerExpiry_expires {k at_ load : Nat} (awake : s.awake) (small : k < 4) (runs : s.gate.timerStart.lookup k = some (at_, load))
    (past : load ≤ (s.tick dt).timerTicks k) : Completes (.tmwTimerExpiry dt k) s fun t =>
      bit (t.regN 0x40060070) k = true ∧
        if bit (s.regN (tmw k 0x18)) 0 = true then t.gate.timerStart.lookup k = some (t.now, s.regN (tmw k 0x10))
        else t.gate.timerStart.lookup k = none ∧ t.regN (tmw k 0x14) = 0 := by
  have runs : (s.tick dt).gate.timerStart.lookup k = some (at_, load) := runs
  have due : (decide (k < 4) && ((s.tick dt).gate.timerStart.lookup k).elim false fun x => decide (x.2 ≤ (s.tick dt).timerTicks k)) = true := by
    rw [runs, Option.elim_some, decide_eq_true small, Bool.true_and]
    exact decide_eq_true past
  refine ⟨_, (actIf_next awake due : execTmwTimerExpiry dt k s = _), ?_⟩
  extract_lets u g
  have away (off : Nat) (low : off < 0x20) : tmw k off ≠ 0x40060070 := by
    unfold tmw
    omega
  have mode : u.regN (tmw k 0x18) = s.regN (tmw k 0x18) := State.regN_setRegN_ne _ _ (away _ (by decide))
  have reload : u.regN (tmw k 0x10) = s.regN (tmw k 0x10) := State.regN_setRegN_ne _ _ (away _ (by decide))
  have set : bit (u.regN 0x40060070) k = true := State.bit_setRegBit_self _ _ _ _ (by omega)
  rw [mode, reload]
  by_cases periodic : bit (s.regN (tmw k 0x18)) 0 = true
  · rw [if_pos periodic]
    beta_reduce
    rw [if_pos periodic]
    exact ⟨set, lookup_put_self ..⟩
  · rw [if_neg periodic]
    beta_reduce
    rw [if_neg periodic]
    refine ⟨?_, ?_, State.regN_setRegN_self ..⟩
    · rw [State.regN_setRegN_ne _ _ (away _ (by decide)).symm]
      exact set
    · exact lookup_del_self g k

theorem tmwAlarmArm_arms {value : Nat} (awake : s.awake) : Completes (.tmwAlarmArm dt value) s fun t =>
    if bit value 0 = true ∧ (s.tick dt).alarmDue = true then
      bit (t.regN 0x40060070) 4 = true ∧ bit (t.regN 0x40060070) 5 = true ∧ bit (t.regN 0x40060058) 0 = false
    else bit (t.regN 0x40060058) 0 = bit value 0 ∧ t.regN 0x40060070 = s.regN 0x40060070 := by
  refine ⟨_, (act_next awake : execTmwAlarmArm dt value s = _), ?_⟩
  unfold State.alarmArm
  beta_reduce
  by_cases late : bit value 0 = true ∧ (s.tick dt).alarmDue = true
  · rw [if_pos late, if_pos (Bool.and_eq_true_iff.2 late)]
    refine ⟨?_, ?_, State.bit_setRegBit_self ..⟩
    · exact (congrArg (bit · 4) (State.regN_setRegBit_ne ..)).trans
        ((State.bit_setRegBit_ne ..).trans (State.bit_setRegBit_self ..))
    · exact (congrArg (bit · 5) (State.regN_setRegBit_ne ..)).trans (State.bit_setRegBit_self ..)
  · rw [if_neg late, if_neg fun both => late (Bool.and_eq_true_iff.1 both)]
    exact ⟨State.bit_setRegBit_self .., State.regN_setRegBit_ne ..⟩

theorem tmwAlarmFire_fires (awake : s.awake) (armed : bit (s.regN 0x40060058) 0 = true) (due : (s.tick dt).alarmDue = true) :
    Completes (.tmwAlarmFire dt) s fun t => bit (t.regN 0x40060070) 4 = true ∧ bit (t.regN 0x40060058) 0 = false := by
  refine ⟨_, (actIf_next awake (Bool.and_eq_true_iff.2 ⟨armed, due⟩) : execTmwAlarmFire dt s = _), ?_, State.bit_setRegBit_self ..⟩
  exact (congrArg (bit · 4) (State.regN_setRegBit_ne ..)).trans (State.bit_setRegBit_self ..)

theorem tmwPtpLatch_latches (awake : s.awake) : Completes (.tmwPtpLatch dt) s fun t =>
    Out.readback 0x40060060 (t.ptp % 1000000000) ∈ t.out ∧ t.regN 0x40060064 = t.ptp / 1000000000 % 2 ^ 32 ∧
      t.regN 0x40060068 = t.ptp / 1000000000 / 2 ^ 32 % 65536 := by
  refine ⟨_, (act_next awake : execTmwPtpLatch dt s = _), State.mem_emit .., ?_, ?_⟩
  · exact (State.regN_setRegN_ne _ _ (by decide)).trans ((State.regN_setRegN_self ..).trans (Nat.mod_mod ..))
  · exact (State.regN_setRegN_self ..).trans (Nat.mod_eq_of_lt (by omega))

theorem wdtKick_kicks {trusted : Bool} {key : Nat} (awake : s.awake) : Completes (.wdtKick dt trusted key) s fun t =>
    if trusted = true ∧ s.boot.wdtRunning = true then t.boot.wdtAt = t.now else t = s.tick dt := by
  refine ⟨_, (act_next awake : execWdtKick dt trusted key s = _), ?_⟩
  have same : (trusted && (s.tick dt).boot.wdtRunning) = true ↔ trusted = true ∧ s.boot.wdtRunning = true := Bool.and_eq_true_iff
  by_cases runs : trusted = true ∧ s.boot.wdtRunning = true
  · have kicks : (s.tick dt).wdtKick trusted = _ := if_pos (same.2 runs)
    rw [kicks]
    beta_reduce
    rw [if_pos runs]
  · have idles : (s.tick dt).wdtKick trusted = s.tick dt := if_neg fun both => runs (same.1 both)
    rw [idles]
    beta_reduce
    rw [if_neg runs]

/-! ## The flash controller (R600) -/

/-- The operation that a command of the flash controller starts: an erase is aligned to its size. -/
def osfJob (op addr len : Nat) : OsfJob :=
  match op with
  | 3 => ⟨3, addr / 4096 * 4096, 4096⟩
  | 4 => ⟨4, 65536 * (addr / 65536), 65536⟩
  | k => ⟨k, addr, len⟩

/-- Whether it may start: a read always, a program or an erase inside the window, a program inside 256 bytes. -/
def State.osfMay (s : State) (op addr len : Nat) : Bool :=
  op = 1 || (s.inWindow (osfJob op addr len).addr (osfJob op addr len).len && (op != 2 || addr % 256 + len ≤ 256))

/-- The flash controller at the start of an operation. -/
def State.osfBegun (s : State) (j : OsfJob) : State :=
  ({ s with osf := some j }.setRegBit 0x4008000C 0 true).setRegBit 0x40080000 31 true

theorem State.osfGo_eq {op : Nat} (idle : s.osf = none) (low : op ≠ 0) (high : op ≤ 4) : s.osfGo op =
    let addr := s.regField 0x40080004 0 25
    let len := s.regField 0x40080008 0 8
    if s.osfMay op addr len = true then s.osfBegun (osfJob op addr len) else s.setRegBit 0x4008000C 2 true := by
  have valid : ¬ (s.osf.isSome || decide (op = 0) || decide (4 < op)) = true := by
    rw [idle]
    simp only [Option.isSome_none, Bool.false_or, Bool.or_eq_true, decide_eq_true_eq]
    omega
  exact if_neg valid

/-- A command of an idle flash controller starts its operation or sets WIN_REJECT. -/
theorem State.osfCmd_does {op addr len : Nat} (idle : s.osf = none) (low : op ≠ 0) (high : op ≤ 4) (command : State → State)
    (goes : command s = (s.setRegField 0x40080000 0 2 (0x80000000 + op)).osfGo op) (hAddr : addr = s.regField 0x40080004 0 25)
    (hLen : len = s.regField 0x40080008 0 8) :
    if s.osfMay op addr len = true then
      (command s).osf = some (osfJob op addr len) ∧ bit ((command s).regN 0x4008000C) 0 = true
    else (command s).osf = none ∧ bit ((command s).regN 0x4008000C) 2 = true ∧ (command s).flash = s.flash := by
  let t := s.setRegField 0x40080000 0 2 (0x80000000 + op)
  have reg (a : Nat) (h : a ≠ 0x40080000) : t.regN a = s.regN a := State.regN_setRegN_ne _ _ h
  have hAddr : t.regField 0x40080004 0 25 = addr := by rw [State.regField, reg _ (by decide), hAddr, State.regField]
  have hLen : t.regField 0x40080008 0 8 = len := by rw [State.regField, reg _ (by decide), hLen, State.regField]
  have window (a n : Nat) : t.inWindow a n = s.inWindow a n := by
    rw [State.inWindow, reg _ (by decide), reg _ (by decide), State.inWindow]
  have may : t.osfMay op addr len = s.osfMay op addr len := by rw [State.osfMay, window, State.osfMay]
  have done : command s = if s.osfMay op addr len = true then t.osfBegun (osfJob op addr len) else t.setRegBit 0x4008000C 2 true := by
    refine goes.trans ((State.osfGo_eq (s := t) idle low high).trans ?_)
    dsimp only
    rw [hAddr, hLen, may]
  by_cases starts : s.osfMay op addr len = true
  · rw [if_pos starts] at done ⊢
    rw [done]
    exact ⟨rfl, (congrArg (bit · 0) (State.regN_setRegBit_ne ..)).trans (State.bit_setRegBit_self ..)⟩
  · rw [if_neg starts] at done ⊢
    rw [done]
    exact ⟨idle, State.bit_setRegBit_self .., rfl⟩

theorem osf_commands {addr len : Nat} (awake : s.awake) (idle : s.osf = none) (hAddr : addr = s.regField 0x40080004 0 25)
    (hLen : len = s.regField 0x40080008 0 8) :
    (Completes (.osfRead dt) s fun t => t.osf = some ⟨1, addr, len⟩ ∧ bit (t.regN 0x4008000C) 0 = true) ∧
    (Completes (.osfProgram dt) s fun t =>
      if s.inWindow addr len = true ∧ addr % 256 + len ≤ 256 then
        t.osf = some ⟨2, addr, len⟩ ∧ bit (t.regN 0x4008000C) 0 = true
      else t.osf = none ∧ bit (t.regN 0x4008000C) 2 = true ∧ t.flash = s.flash) ∧
    (Completes (.osfErase4k dt) s fun t =>
      if s.inWindow (addr / 4096 * 4096) 4096 = true then
        t.osf = some ⟨3, addr / 4096 * 4096, 4096⟩ ∧ bit (t.regN 0x4008000C) 0 = true
      else t.osf = none ∧ bit (t.regN 0x4008000C) 2 = true ∧ t.flash = s.flash) ∧
    Completes (.osfErase64k dt) s fun t =>
      if s.inWindow (addr / 65536 * 65536) 65536 = true then
        t.osf = some ⟨4, addr / 65536 * 65536, 65536⟩ ∧ bit (t.regN 0x4008000C) 0 = true
      else t.osf = none ∧ bit (t.regN 0x4008000C) 2 = true ∧ t.flash = s.flash := by
  have idle : (s.tick dt).osf = none := idle
  have does (op : Nat) (low : op ≠ 0) (high : op ≤ 4)
      (goes : (s.tick dt).osfCmd (0x80000000 + op) = ((s.tick dt).setRegField 0x40080000 0 2 (0x80000000 + op)).osfGo op) :=
    State.osfCmd_does (s := s.tick dt) idle low high (State.osfCmd · (0x80000000 + op)) goes hAddr hLen
  have program : (s.tick dt).osfMay 2 addr len = true ↔ s.inWindow addr len = true ∧ addr % 256 + len ≤ 256 := by
    show (decide (2 = 1) || (s.inWindow addr len && (2 != 2 || decide (addr % 256 + len ≤ 256)))) = true ↔ _
    simp
  have erase4 : (s.tick dt).osfMay 3 addr len = s.inWindow (addr / 4096 * 4096) 4096 := Bool.and_true _
  have erase64 : (s.tick dt).osfMay 4 addr len = s.inWindow (addr / 65536 * 65536) 65536 := by
    rw [Nat.mul_comm]
    exact Bool.and_true _
  have read := does 1 (by decide) (by decide) rfl
  have programs := does 2 (by decide) (by decide) rfl
  have erases := does 3 (by decide) (by decide) rfl
  have clears := does 4 (by decide) (by decide) rfl
  rw [if_congr program rfl rfl] at programs
  rw [erase4] at erases
  rw [erase64, osfJob, Nat.mul_comm 65536] at clears
  exact ⟨⟨_, (act_next awake : execOsfRead dt s = _), read⟩, ⟨_, (act_next awake : execOsfProgram dt s = _), programs⟩,
    ⟨_, (act_next awake : execOsfErase4k dt s = _), erases⟩, ⟨_, (act_next awake : execOsfErase64k dt s = _), clears⟩⟩

/-- What an operation of the flash controller has done at its end. -/
def State.osfEnd (s : State) (j : OsfJob) (e : Bool) : State :=
  match j.op with
  | 1 => let r := s.flashRead j.addr j.len; r.2.setOsfBuf r.1
  | 2 =>
    let b := s.osfBuf j.len
    let r := if e then s.drawBytes j.len else (b, s)
    let v := r.2.program j.addr r.1
    if e || v.flashBytes j.addr j.len != b then v.setRegBit 0x4008000C 3 true else v
  | _ => s.erase j.addr j.len

/-- The flash controller after an operation. -/
def State.osfDone (u : State) : State :=
  (({ u with osf := none }.setRegBit 0x4008000C 0 false).setRegBit 0x4008000C 1 true).setRegBit 0x40080000 31 false

theorem State.osfDone_bits (u : State) : u.osfDone.osf = none ∧ bit (u.osfDone.regN 0x4008000C) 0 = false ∧
    bit (u.osfDone.regN 0x4008000C) 1 = true ∧ bit (u.osfDone.regN 0x4008000C) 3 = bit (u.regN 0x4008000C) 3 ∧
      u.osfDone.flash = u.flash := by
  refine ⟨rfl, ?_, ?_, ?_, rfl⟩
  · exact (congrArg (bit · 0) (State.regN_setRegBit_ne ..)).trans
      ((State.bit_setRegBit_ne ..).trans (State.bit_setRegBit_self ..))
  · exact (congrArg (bit · 1) (State.regN_setRegBit_ne ..)).trans (State.bit_setRegBit_self ..)
  · exact (congrArg (bit · 3) (State.regN_setRegBit_ne ..)).trans ((State.bit_setRegBit_ne ..).trans (State.bit_setRegBit_ne ..))

theorem State.osfDone_osfBuf (u : State) (n : Nat) : u.osfDone.osfBuf n = u.osfBuf n := by
  have word (k : Nat) : u.osfDone.regN (0x40080100 + 4 * k) = u.regN (0x40080100 + 4 * k) :=
    (State.regN_setRegBit_ne _ _ _ (by omega)).trans
      ((State.regN_setRegBit_ne _ _ _ (by omega)).trans (State.regN_setRegBit_ne _ _ _ (by omega)))
  unfold State.osfBuf
  simp only [word]

/-- What a read, a program and an erase have done at their end. -/
theorem State.osfEnd_ends (s : State) (j : OsfJob) (e : Bool) :
    (j.op = 1 → j.len ≤ 256 → flashPlain j.addr j.len = true →
      (s.osfEnd j e).osfBuf j.len = s.flashBytes j.addr j.len ∧ (s.osfEnd j e).flash = s.flash) ∧
    (j.op = 2 → j.len ≤ 256 → e = false → (s.osfEnd j e).flash = (s.program j.addr (s.osfBuf j.len)).flash) ∧
    (j.op = 2 → e = true → bit ((s.osfEnd j e).regN 0x4008000C) 3 = true) ∧
    (j.op ≠ 1 → j.op ≠ 2 → (s.osfEnd j e).flash = (s.erase j.addr j.len).flash) := by
  obtain ⟨op, addr, len⟩ := j
  refine ⟨?_, ?_, ?_, ?_⟩
  · rintro rfl small plain
    have read : s.flashRead addr len = (s.flashBytes addr len, s) := if_pos plain
    have ends : s.osfEnd ⟨1, addr, len⟩ e = s.setOsfBuf (s.flashBytes addr len) := by
      unfold State.osfEnd
      dsimp only
      rw [read]
      rfl
    rw [ends]
    have length : (s.flashBytes addr len).length = len := s.flashBytes_length ..
    have fills := s.osfBuf_setOsfBuf (s.flashBytes addr len) (length.symm ▸ small)
    rw [length] at fills
    exact ⟨fills, (State.setOsfBuf_only ..).same .flash⟩
  · rintro rfl - rfl
    let v := s.program addr (s.osfBuf len)
    have ends : s.osfEnd ⟨2, addr, len⟩ false =
        if (false || v.flashBytes addr len != s.osfBuf len) = true then v.setRegBit 0x4008000C 3 true else v := rfl
    rw [ends]
    split <;> rfl
  · rintro rfl rfl
    unfold State.osfEnd
    dsimp only
    rw [if_pos (by simp)]
    exact State.bit_setRegBit_self ..
  · intro notRead notProgram
    unfold State.osfEnd
    dsimp only
    split
    · exact absurd rfl notRead
    · exact absurd rfl notProgram
    · rfl

theorem osfDone_next {e : Bool} {j : OsfJob} (awake : s.awake) (runs : s.osf = some j) :
    execOsfDone dt e s = .next (((s.tick dt).osfEnd j e).osfDone) := by
  have runs : (s.tick dt).osf = some j := runs
  refine (act_next awake : execOsfDone dt e s = _).trans ?_
  rw [runs]
  rfl

theorem osfDone_ends {e : Bool} {j : OsfJob} (awake : s.awake) (runs : s.osf = some j) : Completes (.osfDone dt e) s fun t =>
    t.osf = none ∧ bit (t.regN 0x4008000C) 0 = false ∧ bit (t.regN 0x4008000C) 1 = true ∧
      (j.op = 1 → j.len ≤ 256 → flashPlain j.addr j.len = true →
        t.osfBuf j.len = s.flashBytes j.addr j.len ∧ t.flash = s.flash) ∧
      (j.op = 2 → j.len ≤ 256 → e = false →
        ∀ a, t.flashByte a = if j.addr ≤ a ∧ a < j.addr + j.len then
          s.flashByte a &&& (s.osfBuf j.len).getD (a - j.addr) 0 else s.flashByte a) ∧
      (j.op = 2 → e = true → bit (t.regN 0x4008000C) 3 = true) ∧
      (j.op ≠ 1 → j.op ≠ 2 →
        ∀ a, t.flashByte a = if j.addr ≤ a ∧ a < j.addr + j.len then 0xFF else s.flashByte a) := by
  have ends := (s.tick dt).osfEnd_ends j e
  obtain ⟨read, program, verify, erase⟩ := ends
  obtain ⟨idle, busy, done, failed, flash⟩ := ((s.tick dt).osfEnd j e).osfDone_bits
  have byte {u : State} (same : ((s.tick dt).osfEnd j e).flash = u.flash) (a : Nat) :
      (((s.tick dt).osfEnd j e).osfDone).flashByte a = u.flashByte a := by
    rw [State.flashByte, flash, same, State.flashByte]
  refine ⟨_, (osfDone_next awake runs : exec (.osfDone dt e) s = _), idle, busy, done, fun op small plain => ?_,
    fun op small noError a => ?_, fun op error => ?_, fun notRead notProgram a => ?_⟩
  · obtain ⟨buffer, kept⟩ := read op small plain
    have bytes : (s.tick dt).flashBytes = s.flashBytes := State.flashBytes_congr rfl
    rw [State.osfDone_osfBuf, buffer, bytes]
    exact ⟨rfl, flash.trans kept⟩
  · rw [byte (program op small noError)]
    have length : ((s.tick dt).osfBuf j.len).length = j.len := State.osfBuf_length _ small
    have buffer : (s.tick dt).osfBuf j.len = s.osfBuf j.len := rfl
    by_cases inside : j.addr ≤ a ∧ a < j.addr + j.len
    · obtain ⟨k, rfl⟩ := Nat.exists_eq_add_of_le inside.1
      have low : k < ((s.tick dt).osfBuf j.len).length := by omega
      rw [if_pos inside, State.flashByte_program _ _ _ _ low, Nat.add_sub_cancel_left, ← buffer,
        List.getD_eq_getElem _ _ low]
      rfl
    · rw [if_neg inside, State.flashByte_program_out _ _ (by rwa [length])]
      rfl
  · exact failed.trans (verify op error)
  · rw [byte (erase notRead notProgram), State.flashByte_erase]
    rfl

end

/-- Settles O56: a register command acts on its bits, and an operation of the flash controller changes its own range at its end. -/
theorem timersAndFlash : Obligations.TimersAndFlash := by
  unfold Obligations.TimersAndFlash
  refine ⟨?_, ?_, ?_, ?_, ?_, ?_, ?_⟩
  · exact fun s dt k at_ load awake small runs past => tmwTimerExpiry_expires awake small runs past
  · exact fun s dt value awake => tmwAlarmArm_arms awake
  · exact fun s dt awake armed due => tmwAlarmFire_fires awake armed due
  · exact fun s dt awake => tmwPtpLatch_latches awake
  · exact fun s dt trusted key awake => wdtKick_kicks awake
  · exact fun s dt addr len awake idle hAddr hLen => osf_commands awake idle hAddr hLen
  · exact fun s dt e j awake runs => osfDone_ends awake runs

end Sys2Proof.Machine
end

section

/-! PROOFS. Power, resets and restarts (chapter 22): O59. Every clause names the state that the command
leaves; what a reset keeps and clears is read off once, in `State.enterReset_enters`. -/

namespace Sys2Proof.Machine

set_option Elab.async false

/-- What a reset leaves: registers at their reset values, no memory, no session; flash, fuses and boot control kept. -/
theorem State.enterReset_enters (s : State) (cause : Nat) : let t := s.enterReset cause
    t.boot.stage = .reset ∧ t.boot.cause = cause ∧ t.flash = s.flash ∧ (∀ a, t.reg a = regReset a) ∧ t.mem = [] ∧
      t.il.sessions = [] ∧ t.up.ownerHashes = s.up.ownerHashes ∧ t.up.ownerStates = s.up.ownerStates ∧
      t.up.rollback = s.up.rollback ∧ t.up.ctl = s.up.ctl :=
  ⟨rfl, rfl, rfl, fun _ => rfl, rfl, rfl, rfl, rfl, rfl, rfl⟩

theorem powerOn_resets (s : State) (dt : Nat) :
    Completes (.powerOn dt) s fun t =>
      t.boot.stage = .reset ∧ t.boot.cause = 0 ∧ t.boot.held = false ∧ t.flash = s.flash ∧ (∀ a, t.reg a = regReset a) ∧
        t.mem = [] ∧ t.il.sessions = [] ∧ t.up.ownerHashes = s.up.ownerHashes ∧ t.up.ownerStates = s.up.ownerStates ∧
        t.up.rollback = s.up.rollback ∧ t.up.ctl = s.up.ctl := by
  obtain ⟨stage, cause, flash, regs, mem, sessions, hashes, states, rollback, ctl⟩ := (s.tick dt).enterReset_enters 0
  exact ⟨_, rfl, stage, cause, rfl, flash, regs, mem, sessions, hashes, states, rollback, ctl⟩

theorem resetNAssert_resets (s : State) (dt width : Nat) (long : 10000 ≤ width) :
    Completes (.resetNAssert dt width) s fun t =>
      t.boot.stage = .reset ∧ t.boot.cause = 1 ∧ t.flash = s.flash ∧ (∀ a, t.reg a = regReset a) ∧ t.mem = [] ∧
        t.il.sessions = [] ∧ t.up.ownerHashes = s.up.ownerHashes := by
  have pulse : (s.tick dt).pulseResets width = (true, s.tick dt) := by
    rw [State.pulseResets, if_neg (by omega), if_pos long]
  obtain ⟨stage, cause, flash, regs, mem, sessions, hashes, _⟩ := (s.tick dt).enterReset_enters 1
  refine ⟨{ (s.tick dt).enterReset 1 with boot := { ((s.tick dt).enterReset 1).boot with resetLow := true } }, ?_,
    stage, cause, flash, regs, mem, sessions, hashes⟩
  change execResetNAssert dt width s = _
  rw [execResetNAssert, actAlways, pulse]
  rfl

theorem resetNAssert_ignored (s : State) (dt width : Nat) (short : width < 1000) :
    Completes (.resetNAssert dt width) s fun t => t = s.tick dt := by
  have pulse : (s.tick dt).pulseResets width = (false, s.tick dt) := by rw [State.pulseResets, if_pos short]
  refine ⟨_, ?_, rfl⟩
  change execResetNAssert dt width s = _
  rw [execResetNAssert, actAlways, pulse]
  rfl

/-- The ROM stage starts with the given cause, at torn 0, and releases HEALTH. -/
theorem State.startRom_starts (s : State) (cause : Nat) : let t := s.startRom cause
    t.boot.stage = .rom ∧ t.boot.cause = cause ∧ t.tc = 0 ∧ Out.pin .armHealth 0 0 ∈ t.out :=
  ⟨rfl, rfl, rfl, s.mem_emit _⟩

theorem resetNRelease_starts (s : State) (dt : Nat) (straps : Straps) (low : s.boot.stage = .reset) :
    Completes (.resetNRelease dt straps) s fun t =>
      t.boot.straps = straps ∧ t.boot.resetLow = false ∧
        if s.boot.held = true then t.boot.stage = .reset
        else t.boot.stage = .rom ∧ t.boot.cause = s.boot.cause ∧ t.tc = 0 ∧ Out.pin .armHealth 0 0 ∈ t.out := by
  let u := { s.tick dt with boot := { (s.tick dt).boot with straps := straps, resetLow := false } }
  have latched : exec (.resetNRelease dt straps) s = .next (if u.boot.held then u else u.startRom u.boot.cause) :=
    congrArg Host.Outcome.next (if_neg (by rw [show (s.tick dt).boot.stage = .reset from low]; decide))
  refine ⟨_, latched, ?_⟩
  rcases held : s.boot.held with _ | _
  · rw [if_neg (show ¬u.boot.held = true by rw [show u.boot.held = false from held]; decide), if_neg Bool.false_ne_true]
    exact ⟨rfl, rfl, u.startRom_starts u.boot.cause⟩
  · rw [if_pos (show u.boot.held = true from held), if_pos rfl]
    exact ⟨rfl, rfl, low⟩

theorem resetNRelease_ignored (s : State) (dt : Nat) (straps : Straps) (up : s.boot.stage ≠ .reset) :
    Completes (.resetNRelease dt straps) s fun t => t = s.tick dt :=
  ⟨_, congrArg Host.Outcome.next (if_pos (bne_iff_ne.mpr up)), rfl⟩

/-- A command that puts the device into the state t under a condition, and else does nothing. -/
theorem resets_if {s t : State} {dt : Nat} {c : Instr} {b : Bool} {P : Prop} [Decidable P] {q : State → Prop}
    (holds : b = true ↔ P) (runs : exec c s = .next (if b then t else s.tick dt)) (reset : q t) :
    Completes c s fun t => if P then q t else t = s.tick dt := by
  refine ⟨_, runs, ?_⟩
  by_cases h : P
  · simpa only [if_pos (holds.mpr h), if_pos h] using reset
  · simp only [if_neg (mt holds.mp h), if_neg h]

theorem both_decided {p q : Prop} [Decidable p] [Decidable q] : (decide p && decide q) = true ↔ p ∧ q := by
  rw [Bool.and_eq_true, decide_eq_true_iff, decide_eq_true_iff]

theorem railFault_resets (s : State) (dt rail microvolts lasted : Nat) :
    Completes (.railFault dt rail microvolts lasted) s fun t =>
      if 100 * microvolts < 95 * s.railMinimum rail ∧ 10000 ≤ lasted then
        t.boot.stage = .reset ∧ t.boot.cause = 0 ∧ t.il.sessions = [] ∧ t.flash = s.flash
      else t = s.tick dt :=
  resets_if (q := fun t => t.boot.stage = .reset ∧ t.boot.cause = 0 ∧ t.il.sessions = [] ∧ t.flash = s.flash)
    both_decided rfl ⟨rfl, rfl, rfl, rfl⟩

theorem vddAuxLow_resets (s : State) (dt microvolts : Nat) :
    Completes (.vddAuxLow dt microvolts) s fun t =>
      if microvolts < 2900000 then t.boot.stage = .reset ∧ t.boot.cause = 0 ∧ t.il.sessions = [] ∧ t.flash = s.flash
      else t = s.tick dt :=
  resets_if (t := (s.tick dt).enterReset 0) (b := decide (microvolts < 2900000))
    (q := fun t => t.boot.stage = .reset ∧ t.boot.cause = 0 ∧ t.il.sessions = [] ∧ t.flash = s.flash) decide_eq_true_iff
    (congrArg Host.Outcome.next (by simp only [decide_eq_true_eq])) ⟨rfl, rfl, rfl, rfl⟩

theorem thermalTrip_resets (s : State) (dt : Nat) (temp : Int) (lasted : Nat) :
    Completes (.thermalTrip dt temp lasted) s fun t =>
      if 1150 < temp ∧ 10000000 ≤ lasted then
        t.boot.stage = .reset ∧ t.boot.cause = 0 ∧ t.boot.held = true ∧ t.il.sessions = []
      else t = s.tick dt :=
  resets_if (q := fun t => t.boot.stage = .reset ∧ t.boot.cause = 0 ∧ t.boot.held = true ∧ t.il.sessions = [])
    both_decided rfl ⟨rfl, rfl, rfl, rfl⟩

theorem thermalTripRelease_starts (s : State) (dt : Nat) (temp : Int) (held : s.boot.held = true) (cool : temp ≤ 950) :
    Completes (.thermalTripRelease dt temp) s fun t =>
      t.boot.held = false ∧ t.boot.straps = s.boot.straps ∧
        if s.boot.resetLow = true then t.boot.stage = s.boot.stage else t.boot.stage = .rom ∧ t.boot.cause = s.boot.cause := by
  let u := { s.tick dt with boot := { (s.tick dt).boot with held := false } }
  have released : exec (.thermalTripRelease dt temp) s = .next (if u.boot.resetLow then u else u.startRom u.boot.cause) :=
    congrArg Host.Outcome.next (if_pos (Bool.and_eq_true_iff.mpr ⟨held, decide_eq_true cool⟩))
  refine ⟨_, released, ?_⟩
  rcases low : s.boot.resetLow with _ | _
  · rw [if_neg (show ¬u.boot.resetLow = true by rw [show u.boot.resetLow = false from low]; decide), if_neg Bool.false_ne_true]
    exact ⟨rfl, rfl, rfl, rfl⟩
  · rw [if_pos (show u.boot.resetLow = true from low), if_pos rfl]
    exact ⟨rfl, rfl, rfl⟩

theorem thermalTripRelease_ignored (s : State) (dt : Nat) (temp : Int) (not : s.boot.held = false ∨ 950 < temp) :
    Completes (.thermalTripRelease dt temp) s fun t => t = s.tick dt := by
  refine ⟨_, congrArg Host.Outcome.next (if_neg fun both => ?_), rfl⟩
  obtain ⟨held, cool⟩ := Bool.and_eq_true_iff.mp both
  rcases not with free | hot
  · exact Bool.false_ne_true (free.symm.trans held)
  · exact absurd (of_decide_eq_true cool) (Int.not_le.mpr hot)

theorem softRestartProceed_starts (s : State) (dt : Nat) (awake : s.awake) (waits : s.boot.softWait = true)
    (none : s.anyPending = false) :
    Completes (.softRestartProceed dt) s fun t =>
      t.boot.stage = .rom ∧ t.boot.cause = 2 ∧ t.boot.soft = true ∧ t.boot.softWait = false ∧ t.il.sessions = [] :=
  ⟨(s.tick dt).proceedSoft, (actIf_next awake (Bool.and_eq_true_iff.mpr ⟨waits, (congrArg (!·) none : _)⟩) :
    execSoftRestartProceed dt s = _), rfl, rfl, rfl, rfl, rfl⟩

theorem watchdogExpiry_restarts (s : State) (dt : Nat) (awake : s.awake) (runs : s.boot.wdtRunning = true)
    (past : s.boot.wdtAt + 100000000 ≤ s.now + dt) :
    Completes (.watchdogExpiry dt) s fun t =>
      t.boot.stage = .rom ∧ t.boot.cause = 4 ∧ t.boot.wdtExpired = true ∧ t.tc = 0 ∧ t.il.sessions = [] ∧
        t.boot.straps = s.boot.straps ∧ t.flash = s.flash := by
  have past : (s.tick dt).boot.wdtAt + 100000000 ≤ (s.tick dt).now := past
  exact ⟨(s.tick dt).hardRestart 4, (actIf_next awake (Bool.and_eq_true_iff.mpr ⟨runs, decide_eq_true past⟩) :
    execWatchdogExpiry dt s = _), rfl, rfl, rfl, rfl, rfl, rfl, rfl⟩

/-- Settles O59: a reset leaves a state that depends on the one before it only in what it keeps. -/
theorem powerResets : Obligations.PowerResets :=
  ⟨powerOn_resets, resetNAssert_resets, resetNAssert_ignored, resetNRelease_starts, resetNRelease_ignored, railFault_resets,
    vddAuxLow_resets, thermalTrip_resets, thermalTripRelease_starts, thermalTripRelease_ignored, softRestartProceed_starts,
    watchdogExpiry_restarts⟩

end Sys2Proof.Machine

end

section

/-! SUPPORT. The health reasons, and the stop of Upland at a fault (R530, R616): what the faults of the Upland processor,
the memory errors of R555 and the cache instructions share. -/

namespace Sys2Proof.Machine

set_option Elab.async false

/-! ## Health reasons (R613) -/

theorem State.setReason_bit_ne (s : State) {k j : Nat} (v : Bool) (h : j ≠ k) :
    bit ((s.setReason k v).n Obj.healthReasons 0) j = bit (s.n Obj.healthReasons 0) j := by
  unfold State.setReason
  extract_lets old t1 new t2
  have set : bit (t2.n Obj.healthReasons 0) j = bit (s.n Obj.healthReasons 0) j := by
    rw [(State.setN_only ..).n Obj.healthReasons 0]
    exact (congrArg (bit · j) (State.n_setN_self ..)).trans (bit_setBit_ne v h)
  split
  · exact set
  · rw [(State.raise_only ..).n Obj.healthReasons 0]
    exact set

/-! ## The stop of the Upland processor -/

theorem Raises.regs {l : List Nat} {s t u : State} {parts : List Part} {regs : List Nat} (g : Raises l s t)
    (h : Only ⟨parts, [], regs⟩ t u) (hp : Part.objs ∉ parts := by decide) : Raises l s u :=
  .still h g hp fun _ _ => List.not_mem_nil

theorem State.ctlDown_raises (s : State) (port : Nat) : Raises [Ev.ctlLinkDown] s (s.ctlDown port) := by
  let t := (s.setRegBit (cmac port 4) 0 false).setRegField (cmac port 4) 1 2 0
  have h1 : Raises [Ev.ctlLinkDown] s t := ((Raises.refl s).regs (State.setRegBit_only ..)).regs (State.setRegField_only ..)
  have h2 : Raises [Ev.ctlLinkDown] s ((t.setRegBit (cmac port 4) 8 true).cmacIrq port 3) :=
    .still (State.cmacIrq_only ..) (h1.regs (State.setRegBit_only ..))
  exact (State.raise_raises ..).seq (.still (State.setCtlPort_only ..) h2)

theorem State.cmacCtrl_raises (s : State) (port value : Nat) : Raises [Ev.ctlLinkDown] s (s.cmacCtrl port value) := by
  unfold State.cmacCtrl
  extract_lets t m started x u
  have h0 : Raises [Ev.ctlLinkDown] s t := (Raises.refl s).regs (s.busWrite_only ..)
  have h1 : Raises [Ev.ctlLinkDown] s u := .ite (.still (State.setCtlPort_only ..) h0) h0
  exact .ite ((State.ctlDown_raises ..).seq h1) h1

theorem State.ctlStop_raises (s : State) : Raises [Ev.ctlLinkDown] s s.ctlStop :=
  (State.cmacCtrl_raises ..).seq (s.cmacCtrl_raises 0 0)

/-- Upland's fault recorded in the fault registers, counted and raised, its sessions ended: before the processor stops. -/
def State.faulted (s : State) (cause pc addr : Nat) : State :=
  let t := s.stopScree.ctlStop.endSessions none
  let t := ((t.setRegN 0x400600A0 cause).setRegN 0x400600A4 pc).setRegN 0x400600A8 (if 2 ≤ cause && cause ≤ 4 then addr else 0)
  (t.bumpReg 0x40060090).raise Ev.uplandFault cause

/-- The times of the restarts of Upland within the last 600 s, this one included (R530). -/
def State.recentRestarts (s : State) : List Nat :=
  s.now :: s.boot.uplandRestarts.filter fun a => s.now < a + 600000000000

/-- Upland stopped, and about to start again. -/
def State.uplandOff (s : State) : State :=
  { s with
    il := { s.il with ctlUp := false, challenges := [] }
    gate := { ptpSec := s.gate.ptpSec, timerStart := s.gate.timerStart, nextTicket := s.gate.nextTicket }
    boot := { s.boot with
      uplandRuns := false
      uplandAt := s.now
      heartbeatAt := none
      heartbeatLate := false
      uplandRestarting := true
      uplandRestarts := s.recentRestarts } }

/-- A fault stops Upland, unless a trial fails with it or it is the third within 600 s (R530, R593). -/
theorem State.uplandRestart_eq (s : State) (cause pc addr : Nat) : s.uplandRestart cause pc addr =
    let t := s.faulted cause pc addr
    if t.up.ctl.trial.isSome && t.up.trialRuns then t.uplandOff.trialRestart
    else if 3 ≤ t.recentRestarts.length then t.uplandOff.hardRestart 4 else t.uplandOff := rfl

theorem State.faulted_keeps (s : State) (cause pc addr : Nat) : let t := s.faulted cause pc addr
    t.now = s.now ∧ t.boot = s.boot ∧ t.up.ctl = s.up.ctl ∧ t.il.sessions = [] := by
  let t := s.stopScree.ctlStop
  let u := t.endSessions none
  let w := ((u.setRegN 0x400600A0 cause).setRegN 0x400600A4 pc).setRegN 0x400600A8 (if 2 ≤ cause && cause ≤ 4 then addr else 0)
  have h1 := s.stopScree_only
  have h2 := s.stopScree.ctlStop_only
  have h3 := t.endSessions_only none
  have h4 := w.bumpReg_only 0x40060090 1
  have h5 := (w.bumpReg 0x40060090).raise_only Ev.uplandFault cause
  refine ⟨?_, ?_, ?_, ?_⟩
  · exact (h5.same .now).trans ((h4.same .now).trans ((h3.same .now).trans ((h2.same .now).trans (h1.same .now))))
  · exact (h5.same .boot).trans ((h4.same .boot).trans ((h3.same .boot).trans ((h2.same .boot).trans (h1.same .boot))))
  · exact h5.updating.2.2.2.1.trans (h4.updating.2.2.2.1.trans ((t.endSessions_ctl none).1.trans
      (h2.updating.2.2.2.1.trans h1.updating.2.2.2.1)))
  · exact (h5.same .sessions).trans ((h4.same .sessions).trans (t.endSessions_none none))

/-- The fault registers give the cause, the program counter and, for a bus error, the address (R530). -/
theorem State.faulted_regs (s : State) (cause pc addr : Nat) (small : cause < 2 ^ 32) : let t := s.faulted cause pc addr
    t.regN 0x400600A0 = cause ∧ t.regN 0x400600A4 = pc % 2 ^ 32 ∧
      t.regN 0x400600A8 = if 2 ≤ cause ∧ cause ≤ 4 then addr % 2 ^ 32 else 0 := by
  let u := s.stopScree.ctlStop.endSessions none
  let last := if 2 ≤ cause && cause ≤ 4 then addr else 0
  let w := ((u.setRegN 0x400600A0 cause).setRegN 0x400600A4 pc).setRegN 0x400600A8 last
  have kept {a : Nat} (ha : a ∉ ([0x40060090, 0x40000004, 0x40000008] : List Nat) := by decide) :
      (s.faulted cause pc addr).regN a = w.regN a :=
    (((w.bumpReg 0x40060090).raise_only Ev.uplandFault cause).regN (fun h => ha (List.mem_cons_of_mem _ h))).trans
      ((w.bumpReg_only 0x40060090 1).regN ha)
  have lastIs : last % 2 ^ 32 = if 2 ≤ cause ∧ cause ≤ 4 then addr % 2 ^ 32 else 0 := by
    unfold last
    by_cases h : 2 ≤ cause ∧ cause ≤ 4
    · rw [if_pos h, if_pos (by simpa using h)]
    · rw [if_neg h, if_neg (by simpa using h)]
      rfl
  refine ⟨(kept).trans ?_, (kept).trans ?_, (kept).trans ((State.regN_setRegN_self ..).trans lastIs)⟩
  · exact (State.regN_setRegN_ne _ _ (by decide)).trans ((State.regN_setRegN_ne _ _ (by decide)).trans
      ((State.regN_setRegN_self ..).trans (Nat.mod_eq_of_lt small)))
  · exact (State.regN_setRegN_ne _ _ (by decide)).trans (State.regN_setRegN_self ..)

theorem State.faulted_raised (s : State) (cause pc addr : Nat) : Raised Ev.uplandFault cause s (s.faulted cause pc addr) := by
  let u := s.stopScree.ctlStop.endSessions none
  let w := ((u.setRegN 0x400600A0 cause).setRegN 0x400600A4 pc).setRegN 0x400600A8 (if 2 ≤ cause && cause ≤ 4 then addr else 0)
  let l := [Ev.ctlLinkDown, Ev.sessionClosed, Ev.salvoSessionDiscard, Ev.regCounterPinned]
  have h1 : Raises l s s.stopScree := .of_only s.stopScree_only
  have h2 : Raises l s s.stopScree.ctlStop := (State.ctlStop_raises _).seq h1
  have h3 : Raises l s u := (State.endSessions_raises ..).seq h2
  have h4 : Raises l s w := h3.upd rfl
  exact (State.raise_raised ..).before ((w.bumpReg_raises 0x40060090 1).seq h4)

/-- A fault that stops Upland and restarts nothing else. -/
theorem State.uplandRestart_stops (s : State) {cause : Nat} (pc addr : Nat) (small : cause < 2 ^ 32)
    (trial : s.up.ctl.trial = none) (recent : s.recentRestarts.length < 3) : let t := s.uplandRestart cause pc addr
    UplandStopped cause s t ∧ t.regN 0x400600A4 = pc % 2 ^ 32 ∧
      t.regN 0x400600A8 = if 2 ≤ cause ∧ cause ≤ 4 then addr % 2 ^ 32 else 0 := by
  obtain ⟨now, boot, ctl, sessions⟩ := s.faulted_keeps cause pc addr
  obtain ⟨reg, regPc, regAddr⟩ := s.faulted_regs cause pc addr small
  have few : ¬ 3 ≤ (s.faulted cause pc addr).recentRestarts.length := by
    rw [State.recentRestarts, now, boot, ← State.recentRestarts]
    omega
  have stops : s.uplandRestart cause pc addr = (s.faulted cause pc addr).uplandOff := by
    rw [State.uplandRestart_eq]
    dsimp only
    rw [ctl, trial, Option.isSome_none, Bool.false_and, if_neg Bool.false_ne_true, if_neg few]
  rw [stops]
  exact ⟨⟨rfl, rfl, sessions, reg, (s.faulted_raised cause pc addr)⟩, regPc, regAddr⟩

/-- The third fault within 600 s restarts the device (R530). -/
theorem State.uplandRestart_third (s : State) {cause : Nat} (pc addr : Nat)
    (trial : s.up.ctl.trial = none) (recent : 3 ≤ s.recentRestarts.length) :
    s.uplandRestart cause pc addr = (s.faulted cause pc addr).uplandOff.hardRestart 4 := by
  obtain ⟨now, boot, ctl, -⟩ := s.faulted_keeps cause pc addr
  have many : 3 ≤ (s.faulted cause pc addr).recentRestarts.length := by
    rw [State.recentRestarts, now, boot, ← State.recentRestarts]
    exact recent
  rw [State.uplandRestart_eq]
  dsimp only
  rw [ctl, trial, Option.isSome_none, Bool.false_and, if_neg Bool.false_ne_true, if_pos many]

/-- Under R530's conditions a fault at dt stops Upland. -/
theorem State.faultStays.stops {s : State} {dt : Nat} (h : s.faultStays dt) {cause : Nat} (pc addr : Nat) (small : cause < 2 ^ 32) :
    let t := (s.tick dt).uplandRestart cause pc addr
    UplandStopped cause s t ∧ t.regN 0x400600A4 = pc % 2 ^ 32 ∧
      t.regN 0x400600A8 = if 2 ≤ cause ∧ cause ≤ 4 then addr % 2 ^ 32 else 0 := by
  obtain ⟨trial, few⟩ := h
  exact (s.tick dt).uplandRestart_stops pc addr small trial (Nat.succ_lt_succ few)

end Sys2Proof.Machine

end

section

/-! PROOFS. The start of the device (R583, R608, R611): the ROM stage, the HBM, the entry of Upland and AVS. -/

namespace Sys2Proof.Machine

set_option Elab.async false

/-! ## AVS (R611) -/

/-- A PMBus command sent up to three times while it is not acknowledged. -/
def State.avsSent (s : State) (microvolts nacks : Nat) : State :=
  (List.range (min (nacks + 1) 3)).foldl (fun u _ => u.emit (.pmbus u.avsAddress 0x21 microvolts)) s

theorem State.avsSent_only (s : State) (microvolts nacks : Nat) : Only ⟨[.out], [], []⟩ s (s.avsSent microvolts nacks) :=
  Only.foldl (fun u _ => u.emit_only _) (.refl _ _)

theorem State.avsSent_sends (s : State) (microvolts nacks : Nat) :
    Out.pmbus s.avsAddress 0x21 microvolts ∈ (s.avsSent microvolts nacks).out := by
  obtain ⟨k, times⟩ : ∃ k, min (nacks + 1) 3 = k + 1 := ⟨min nacks 2, by omega⟩
  let u := (List.range k).foldl (fun u _ => u.emit (.pmbus u.avsAddress 0x21 microvolts)) s
  have sent : s.avsSent microvolts nacks = u.emit (.pmbus u.avsAddress 0x21 microvolts) := by
    rw [State.avsSent, times, List.range_succ, List.foldl_append]
    rfl
  have before : Only ⟨[.out], [], []⟩ s u := Only.foldl (fun u _ => u.emit_only _) (.refl _ _)
  have boot : u.boot = s.boot := before.same .boot
  have address : u.avsAddress = s.avsAddress := by rw [State.avsAddress, boot, State.avsAddress]
  rw [sent, ← address]
  exact u.mem_emit _

theorem State.avsCommand_eq (s : State) (microvolts nacks : Nat) : s.avsCommand microvolts nacks =
    let t := s.avsSent microvolts nacks
    if nacks < 3 then { t with boot := { t.boot with avsMicrovolts := microvolts } }
    else { t with boot := { t.boot with avsRunning := false } } := rfl

theorem State.avsCommand_sends (s : State) (microvolts nacks : Nat) :
    Out.pmbus s.avsAddress 0x21 microvolts ∈ (s.avsCommand microvolts nacks).out := by
  rw [State.avsCommand_eq]
  dsimp only
  split <;> exact s.avsSent_sends ..

/-- What the device does with a command that is acknowledged, and with one that is not. -/
theorem State.avsCommand_boot (s : State) (microvolts nacks : Nat) : (s.avsCommand microvolts nacks).boot =
    if nacks < 3 then { s.boot with avsMicrovolts := microvolts } else { s.boot with avsRunning := false } := by
  have boot : (s.avsSent microvolts nacks).boot = s.boot := (s.avsSent_only ..).same .boot
  rw [State.avsCommand_eq]
  dsimp only
  split <;> simp only [boot]

theorem avsTargetUpdate_sets (s : State) (dt microvolts : Nat) (awake : s.awake) (runs : s.boot.avsRunning = true)
    (started : s.boot.stage ≠ .rom) :
    Completes (.avsTargetUpdate dt microvolts) s fun t => t.boot.avsTarget = max 700000 (min 800000 microvolts) :=
  ⟨_, (actIf_next awake (Bool.and_eq_true_iff.mpr ⟨runs, bne_iff_ne.mpr started⟩) : execAvsTargetUpdate dt microvolts s = _), rfl⟩

theorem avsStep_steps (s : State) (dt nacks v : Nat) (awake : s.awake) (runs : s.boot.avsRunning = true)
    (started : s.boot.stage ≠ .rom) (apart : s.boot.avsMicrovolts ≠ s.boot.avsTarget)
    (past : s.boot.avsStepAt + 1000000 ≤ s.now + dt)
    (hv : v = (if s.boot.avsTarget < s.boot.avsMicrovolts then max s.boot.avsTarget (s.boot.avsMicrovolts - 5000)
      else min s.boot.avsTarget (s.boot.avsMicrovolts + 5000))) :
    Completes (.avsStep dt nacks) s fun t =>
      Out.pmbus s.avsAddress 0x21 v ∈ t.out ∧
        if nacks < 3 then t.boot.avsMicrovolts = v ∧ t.boot.avsRunning = true
        else t.boot.avsMicrovolts = s.boot.avsMicrovolts ∧ t.boot.avsRunning = false := by
  have past : (s.tick dt).boot.avsStepAt + 1000000 ≤ (s.tick dt).now := past
  have due := Bool.and_eq_true_iff.mpr ⟨Bool.and_eq_true_iff.mpr ⟨Bool.and_eq_true_iff.mpr ⟨runs, bne_iff_ne.mpr started⟩,
    bne_iff_ne.mpr apart⟩, decide_eq_true past⟩
  let u := { s.tick dt with boot := { (s.tick dt).boot with avsStepAt := (s.tick dt).now } }
  have step : execAvsStep dt nacks s = .next (u.avsCommand v nacks) := (actIf_next awake due).trans (by rw [hv]; rfl)
  refine ⟨_, step, u.avsCommand_sends .., ?_⟩
  rw [u.avsCommand_boot]
  by_cases acked : nacks < 3
  · rw [if_pos acked, if_pos acked]
    exact ⟨rfl, runs⟩
  · rw [if_neg acked, if_neg acked]
    exact ⟨rfl, rfl⟩

/-- AVS at a start sends its commands, and keeps the straps and whether the start is SOFT. -/
theorem State.avsStart_keeps (s : State) (linear : Bool) (nacks : Nat) :
    (s.avsStart linear nacks).boot.soft = s.boot.soft ∧ (s.avsStart linear nacks).boot.straps = s.boot.straps := by
  unfold State.avsStart
  split
  · exact ⟨rfl, rfl⟩
  · split
    · rw [State.avsCommand_boot]
      split <;> exact ⟨rfl, rfl⟩
    · exact ⟨rfl, rfl⟩

theorem State.avsStart_starts (s : State) {linear : Bool} {nacks : Nat} (enabled : s.boot.straps.avsEn = true)
    (lin : linear = true) (acked : nacks < 3) : (s.avsStart linear nacks).boot.avsMicrovolts = 750000 ∧
      Out.pmbus s.avsAddress 0x21 750000 ∈ (s.avsStart linear nacks).out := by
  let t := s.emit (.pmbus s.avsAddress 0x20 0)
  let u := { t with boot := { t.boot with avsRunning := linear, avsTarget := 750000 } }
  have start : s.avsStart linear nacks = u.avsCommand 750000 nacks :=
    (if_neg (by rw [enabled]; decide)).trans (if_pos lin)
  rw [start, u.avsCommand_boot, if_pos acked]
  exact ⟨rfl, u.avsCommand_sends ..⟩

/-! ## What the acceptance of an image depends on (R582) -/

/-- Images are judged alike: the same flash, signers, security version and Bedrock version. -/
structure JudgesAlike (s t : State) : Prop where
  flash : t.flash = s.flash
  signer : t.signerKey = s.signerKey
  rollback : t.up.rollback = s.up.rollback
  bedrock : t.bedrockVersionNow = s.bedrockVersionNow

theorem JudgesAlike.refl (s : State) : JudgesAlike s s := ⟨rfl, rfl, rfl, rfl⟩

theorem State.tick_judges (s : State) (dt : Nat) : JudgesAlike s (s.tick dt) := ⟨rfl, rfl, rfl, rfl⟩

theorem JudgesAlike.trans {s t u : State} (h : JudgesAlike s t) (g : JudgesAlike t u) : JudgesAlike s u :=
  ⟨g.flash.trans h.flash, g.signer.trans h.signer, g.rollback.trans h.rollback, g.bedrock.trans h.bedrock⟩

theorem JudgesAlike.accepted {s t : State} (h : JudgesAlike s t) : t.accepted = s.accepted := by
  have bytes : t.flashBytes = s.flashBytes := State.flashBytes_congr h.flash
  have number : t.imageN = s.imageN := by unfold State.imageN; rw [bytes]
  have signer : t.sigSigner = s.sigSigner := by unfold State.sigSigner; rw [bytes, number, h.signer]
  have header : t.headerOk = s.headerOk := by
    unfold State.headerOk State.imageLength State.imageSigs State.imageBody
    rw [bytes, number]
  have signed : t.signedFor = s.signedFor := by
    unfold State.signedFor State.signers State.imageSigs
    rw [signer, number]
  unfold State.accepted State.imageFault State.imageSecurity
  rw [header, signed, number, h.rollback, h.bedrock]

theorem Only.judges {r : Reach} {s t : State} (h : Only r s t) (flash : Part.flash ∉ r.parts := by decide)
    (update : Part.update ∉ r.parts := by decide) (rollback : Part.rollback ∉ r.parts := by decide)
    (owners : Part.owners ∉ r.parts := by decide) : JudgesAlike s t := by
  have same : ({ t.up with rollback := 0, ownerHashes := [], ownerStates := [], journal := [], journalSeq := 0 } : Update) =
    { s.up with rollback := 0, ownerHashes := [], ownerStates := [], journal := [], journalSeq := 0 } := h.same .update update
  have runs := congrArg Update.patchRuns same
  have version := congrArg Update.patchVersion same
  have slots : (t.up.ownerHashes, t.up.ownerStates) = (s.up.ownerHashes, s.up.ownerStates) := h.same .owners owners
  dsimp only at runs version
  obtain ⟨hashes, states⟩ := Prod.mk.inj slots
  refine ⟨h.same .flash flash, ?_, h.same .rollback rollback, ?_⟩
  · unfold State.signerKey
    rw [hashes, states]
  · rw [State.bedrockVersionNow, runs, version, State.bedrockVersionNow]

/-- A burn that a power loss left without its state makes the slot REVOKED, and so no signer (R492). -/
theorem State.lostBurns_judges (s : State) : JudgesAlike s s.lostBurns := by
  have step (u : State) (k : Nat) : JudgesAlike u
      (if look u.up.ownerStates k 0 = 0 && look u.up.ownerHashes k [] != [] then
        { u with up := { u.up with ownerStates := put u.up.ownerStates k 2 } }.raise Ev.ownerKeyChange k else u) := by
    split
    · next lost =>
      have empty : look u.up.ownerStates k 0 = 0 := of_decide_eq_true (Bool.and_eq_true_iff.mp lost).1
      let w := { u with up := { u.up with ownerStates := put u.up.ownerStates k 2 } }
      have burned : JudgesAlike u w := by
        refine ⟨rfl, ?_, rfl, rfl⟩
        have active (j : Nat) : (look (put u.up.ownerStates k 2) j 0 == 1) = (look u.up.ownerStates j 0 == 1) := by
          by_cases same : j = k
          · subst same
            rw [look_put_self, empty]
            decide
          · rw [look_put_ne _ _ _ _ _ same]
        funext signer hash
        unfold State.signerKey
        simp only [w, active]
      exact burned.trans (w.raise_only Ev.ownerKeyChange k).judges
    · exact .refl u
  unfold State.lostBurns
  generalize List.range 4 = l
  induction l generalizing s with
  | nil => exact .refl s
  | cons k l ih => exact (step s k).trans (ih _)

theorem State.lostBurns_outKept (s : State) : OutKept s s.lostBurns :=
  .foldl fun u _ => .ite ((State.raise_outKept ..).seq (.of_eq rfl)) (.refl u)

/-! ## The ROM stage (R583) -/

theorem State.bootControl_idle {s : State} (trial : s.up.ctl.trial = none) (told : s.up.ctl.notConfirmed = false) :
    s.bootControl = s := by
  have none_ : s.up.ctl.trial.isSome = false := by rw [trial]; rfl
  have first : ¬ (s.up.ctl.trial.isSome && s.up.activating) = true := by rw [none_]; exact Bool.false_ne_true
  exact (if_neg first).trans ((if_neg (by rw [none_]; exact Bool.false_ne_true)).trans
    (if_neg (by rw [told]; exact Bool.false_ne_true)))

/-- Recovery, but for the settings of its control port. -/
def State.recovering (s : State) : State :=
  { s with
    up := { s.up with patchRuns := false, patchVersion := 0 }
    boot := { s.boot with stage := .recovery, stageAt := s.now, wdtRunning := false }
    il := { s.il with ctlUp := true } }

theorem State.enterRecovery_eq {s : State} (hard : s.boot.soft = false) : s.enterRecovery = s.recovering.ctlStart 0 := by
  have t : (if s.boot.soft then s.fullReset.startRom s.boot.cause else s) = s := if_neg (by rw [hard]; decide)
  unfold State.enterRecovery
  rw [t]
  rfl

/-- A start that is not SOFT enters recovery with its control port up and the watchdog stopped (R584). -/
theorem State.enterRecovery_enters {s : State} (hard : s.boot.soft = false) :
    s.enterRecovery.boot = s.recovering.boot ∧ s.enterRecovery.il.ctlUp = true ∧
      s.enterRecovery.n Obj.healthReasons 0 = s.n Obj.healthReasons 0 := by
  rw [State.enterRecovery_eq hard]
  have only := s.recovering.ctlStart_only 0
  exact ⟨only.same .boot, only.same .ctlUp, only.n Obj.healthReasons 0⟩

theorem State.loadPatch_loads {s : State} (trial : s.up.ctl.trial = none) :
    s.loadPatch.up.patchRuns = s.accepted 1 s.up.ctl.patchActive := by
  have slot : s.patchSlot = s.up.ctl.patchActive := by
    unfold State.patchSlot
    rw [trial]
  rw [← slot]
  rfl

theorem State.latchTwin_latches {s : State} (present : s.boot.straps.twinPresent = true) (hard : s.boot.soft = false) :
    s.latchTwin.n Obj.twinPaired 0 = 1 ∧ s.latchTwin.n Obj.twinRole 0 = 2 ∧
      s.latchTwin.n Obj.twinSide 0 = s.boot.straps.twinSide % 2 := by
  have latch : s.latchTwin = ((s.setN Obj.twinPaired 0 1).setN Obj.twinSide 0 (s.boot.straps.twinSide % 2)).setN Obj.twinRole 0 2 :=
    if_pos (by rw [present, hard]; rfl)
  rw [latch]
  refine ⟨?_, State.n_setN_self .., ?_⟩
  · rw [State.n_setN_ne _ _ _ _ _ _ (by decide), State.n_setN_ne _ _ _ _ _ _ (by decide), State.n_setN_self]
  · rw [State.n_setN_ne _ _ _ _ _ _ (by decide), State.n_setN_self]

/-- The ROM's stage up to what boot control decides: AVS, and the owner key slots. -/
def State.romRun (s : State) (linear : Bool) (nacks : Nat) : State := (s.avsStart linear nacks).lostBurns

/-- Bedrock, with its patch and the straps of the twin, and the watchdog. -/
def State.bedrock (s : State) : State :=
  let u := s.loadPatch.latchTwin
  { u with boot := { u.boot with stage := .bedrock, stageAt := u.now, wdtRunning := true, wdtAt := u.now } }

section
variable {s : State} {dt : Nat}

theorem State.romRun_boot (s : State) (linear : Bool) (nacks : Nat) :
    (s.romRun linear nacks).boot = (s.avsStart linear nacks).boot := (State.lostBurns_only _).same .boot

theorem State.romRun_ctl (s : State) (linear : Bool) (nacks : Nat) : (s.romRun linear nacks).up.ctl = s.up.ctl :=
  ((s.avsStart linear nacks).lostBurns_only).updating.2.2.2.1.trans (s.avsStart_only linear nacks).updating.2.2.2.1

theorem State.romRun_judges (s : State) (linear : Bool) (nacks : Nat) : JudgesAlike s (s.romRun linear nacks) :=
  (s.avsStart_only linear nacks).judges.trans (State.lostBurns_judges _)

theorem State.loadPatch_keeps (s : State) : s.loadPatch.boot.soft = s.boot.soft ∧ s.loadPatch.boot.straps = s.boot.straps ∧
    s.loadPatch.boot.avsMicrovolts = s.boot.avsMicrovolts ∧ s.loadPatch.out = s.out := ⟨rfl, rfl, rfl, rfl⟩

theorem State.bedrock_soft (s : State) : s.bedrock.boot.soft = s.boot.soft := by
  have same : s.loadPatch.latchTwin.boot = s.loadPatch.boot := s.loadPatch.latchTwin_only.same .boot
  have soft : s.loadPatch.latchTwin.boot.soft = s.loadPatch.boot.soft := congrArg Boot.soft same
  exact soft

/-- What the ROM's stage does once boot control has been read. -/
def State.leaveRom (s : State) : State :=
  if s.up.ctl.recover then s.recordStart.enterRecovery else if s.bedrock.boot.soft then s.bedrock.loadUpland else s.bedrock

theorem State.leaveRom_eq {s : State} (hard : s.boot.soft = false) :
    s.leaveRom = if s.up.ctl.recover = true then s.recordStart.enterRecovery else s.bedrock := by
  rw [State.leaveRom, s.bedrock_soft, hard, if_neg Bool.false_ne_true]

theorem execRomStageEnd_eq (s : State) (dt : Nat) (linear : Bool) (nacks : Nat) : execRomStageEnd dt linear nacks s =
    actIf dt s (fun t => t.boot.stage == .rom) fun t =>
      (if t.boot.soft then t else t.avsStart linear nacks).bootControl.lostBurns.leaveRom := rfl

theorem romStageEnd_next {linear : Bool} {nacks : Nat} (awake : s.awake) (rom : s.boot.stage = .rom)
    (hard : s.boot.soft = false) (trial : s.up.ctl.trial = none) (told : s.up.ctl.notConfirmed = false) :
    execRomStageEnd dt linear nacks s = .next (if s.up.ctl.recover = true
      then ((s.tick dt).romRun linear nacks).recordStart.enterRecovery else ((s.tick dt).romRun linear nacks).bedrock) := by
  have kept : ((s.tick dt).avsStart linear nacks).up.ctl = s.up.ctl := ((s.tick dt).avsStart_only linear nacks).updating.2.2.2.1
  have control := State.bootControl_idle (s := (s.tick dt).avsStart linear nacks)
    ((congrArg BootControl.trial kept).trans trial) ((congrArg BootControl.notConfirmed kept).trans told)
  have avs : (if (s.tick dt).boot.soft = true then s.tick dt else (s.tick dt).avsStart linear nacks) =
      (s.tick dt).avsStart linear nacks := if_neg (by rw [show (s.tick dt).boot.soft = false from hard]; decide)
  have soft : ((s.tick dt).romRun linear nacks).boot.soft = false := by
    rw [State.romRun_boot, ((s.tick dt).avsStart_keeps linear nacks).1]
    exact hard
  have leaves := State.leaveRom_eq soft
  rw [(s.tick dt).romRun_ctl] at leaves
  rw [execRomStageEnd_eq]
  have due : ((s.tick dt).boot.stage == .rom) = true := beq_iff_eq.mpr rom
  refine (actIf_next awake due).trans (congrArg Host.Outcome.next ?_)
  rw [avs, control]
  exact leaves

theorem romStageEnd_ends (linear : Bool) (nacks : Nat) (awake : s.awake) (rom : s.boot.stage = .rom)
    (hard : s.boot.soft = false) (trial : s.up.ctl.trial = none) (told : s.up.ctl.notConfirmed = false) :
    Completes (.romStageEnd dt linear nacks) s fun t =>
      if s.up.ctl.recover = true then t.boot.stage = .recovery ∧ t.il.ctlUp = true ∧ t.boot.wdtRunning = false
      else t.boot.stage = .bedrock ∧ t.boot.wdtRunning = true ∧ t.boot.wdtAt = t.now ∧
        t.up.patchRuns = s.accepted 1 s.up.ctl.patchActive ∧
        (s.boot.straps.twinPresent = true →
          t.n Obj.twinPaired 0 = 1 ∧ t.n Obj.twinRole 0 = 2 ∧ t.n Obj.twinSide 0 = s.boot.straps.twinSide % 2) ∧
        (s.boot.straps.avsEn = true → linear = true → nacks < 3 →
          t.boot.avsMicrovolts = 750000 ∧ Out.pmbus s.avsAddress 0x21 750000 ∈ t.out) := by
  refine ⟨_, romStageEnd_next awake rom hard trial told, ?_⟩
  obtain ⟨soft, straps⟩ := (s.tick dt).avsStart_keeps linear nacks
  have boot := (s.tick dt).romRun_boot linear nacks
  have ctl : ((s.tick dt).romRun linear nacks).up.ctl = s.up.ctl := (s.tick dt).romRun_ctl linear nacks
  have judges : JudgesAlike s ((s.tick dt).romRun linear nacks) :=
    (s.tick_judges dt).trans ((s.tick dt).romRun_judges linear nacks)
  have out : OutKept ((s.tick dt).avsStart linear nacks) ((s.tick dt).romRun linear nacks) := State.lostBurns_outKept _
  generalize (s.tick dt).romRun linear nacks = u at boot ctl judges out ⊢
  have uHard : u.boot.soft = false := (congrArg Boot.soft boot).trans (soft.trans hard)
  have uStraps : u.boot.straps = s.boot.straps := (congrArg Boot.straps boot).trans straps
  by_cases recover : s.up.ctl.recover = true
  · rw [if_pos recover, if_pos recover]
    have same : u.recordStart.boot = u.boot := u.recordStart_only.same .boot
    have stays : u.recordStart.boot.soft = false := (congrArg Boot.soft same).trans uHard
    obtain ⟨stage, up, -⟩ := State.enterRecovery_enters stays
    exact ⟨congrArg Boot.stage stage, up, congrArg Boot.wdtRunning stage⟩
  · rw [if_neg recover, if_neg recover]
    have twin := u.loadPatch.latchTwin_only
    refine ⟨rfl, rfl, rfl, ?_, ?_, ?_⟩
    · have loads := State.loadPatch_loads ((congrArg BootControl.trial ctl).trans trial)
      rw [ctl, judges.accepted] at loads
      have patch : u.bedrock.up.patchRuns = u.loadPatch.up.patchRuns :=
        congrArg Update.patchRuns (show u.loadPatch.latchTwin.up = u.loadPatch.up by unfold State.latchTwin; split <;> rfl)
      exact patch.trans loads
    · intro present
      have latches := State.latchTwin_latches (s := u.loadPatch) ((congrArg Straps.twinPresent uStraps).trans present) uHard
      exact latches.imp_right (And.imp_right fun side => side.trans (congrArg (·.twinSide % 2) uStraps))
    · intro enabled lin acked
      obtain ⟨volts, sent⟩ := (s.tick dt).avsStart_starts enabled lin acked
      have twinBoot : u.loadPatch.latchTwin.boot = u.loadPatch.boot := twin.same .boot
      have twinOut : u.loadPatch.latchTwin.out = u.out := twin.same .out
      refine ⟨?_, ?_⟩
      · exact (congrArg Boot.avsMicrovolts twinBoot).trans ((congrArg Boot.avsMicrovolts boot).trans volts)
      · change _ ∈ u.loadPatch.latchTwin.out
        rw [twinOut]
        exact out.mem sent

/-! ## The HBM, and the choice of the Upland image (R583, R584) -/

/-- The pool's state has a health reason of its own. -/
theorem State.refreshPool_reason (s : State) {k : Nat} (h : k ≠ 7) :
    bit (s.refreshPool.n Obj.healthReasons 0) k = bit (s.n Obj.healthReasons 0) k := by
  unfold State.refreshPool
  extract_lets v y s0 old t u
  have h0 : s0.n Obj.healthReasons 0 = s.n Obj.healthReasons 0 := by
    unfold s0
    split
    · split
      · rw [(State.journal_only ..).n Obj.healthReasons 0]
        rfl
      · rfl
    · rfl
  have h1 : t.n Obj.healthReasons 0 = s.n Obj.healthReasons 0 := ((State.setN_only ..).n Obj.healthReasons 0).trans h0
  have h2 : u.n Obj.healthReasons 0 = s.n Obj.healthReasons 0 := by
    unfold u
    split
    · rw [t.poolUp_only.n Obj.healthReasons 0, h1]
    · split
      · rw [t.poolDown_only.n Obj.healthReasons 0, h1]
      · exact h1
  split
  · rw [h0]
  · rw [State.setReason_bit_ne _ _ h, (State.raise_only ..).n Obj.healthReasons 0, h2]

theorem State.recordStart_reason (s : State) {k : Nat} (h : k ≠ 7) :
    bit (s.recordStart.n Obj.healthReasons 0) k = bit (s.n Obj.healthReasons 0) k := by
  unfold State.recordStart
  extract_lets c t u
  have h1 : t.n Obj.healthReasons 0 = s.n Obj.healthReasons 0 :=
    ((State.flashJournal_only ..).n Obj.healthReasons 0).trans ((State.setN_only ..).n Obj.healthReasons 0)
  have h2 : bit (u.n Obj.healthReasons 0) k = bit (s.n Obj.healthReasons 0) k :=
    (State.refreshPool_reason _ h).trans (congrArg (bit · k) h1)
  split
  · rw [(State.raise_only ..).n Obj.healthReasons 0, h2]
  · exact h2

/-- Boot control names the other Upland slot. -/
def State.otherUpland (s : State) : State :=
  { s with up := { s.up with ctl := { s.up.ctl with uplandActive := 1 - s.up.ctl.uplandActive } } }

/-- The Upland image of a start without a trial: the active slot's, the other's, or none. -/
theorem State.chooseUpland_eq {s : State} (trial : s.up.ctl.trial = none) : s.chooseUpland =
    if s.accepted 2 s.up.ctl.uplandActive = true then some s
    else if s.accepted 2 (1 - s.up.ctl.uplandActive) = true then some s.otherUpland.fallBack else none := by
  have slot : s.uplandSlot = s.up.ctl.uplandActive := by
    unfold State.uplandSlot
    rw [trial]
  unfold State.chooseUpland
  simp only [slot, trial, Option.elim_none, Bool.false_and, Bool.false_eq_true, if_false, State.otherUpland]

/-- The state in which an image is loaded, once it has been chosen. -/
def State.uplandLoading (s : State) : State :=
  let u := s.recordStart
  { u with boot := { u.boot with stage := .uplandLoad, stageAt := u.now } }

theorem State.uplandLoading_loads (s : State) : s.uplandLoading.boot.stage = .uplandLoad ∧
    s.uplandLoading.boot.hbmFailed = s.boot.hbmFailed ∧
    bit (s.uplandLoading.n Obj.healthReasons 0) 1 = bit (s.n Obj.healthReasons 0) 1 := by
  have same : s.recordStart.boot = s.boot := s.recordStart_only.same .boot
  have failed : s.recordStart.boot.hbmFailed = s.boot.hbmFailed := congrArg Boot.hbmFailed same
  exact ⟨rfl, failed, s.recordStart_reason (by decide)⟩

theorem State.fallBack_keeps (s : State) : s.fallBack.boot.hbmFailed = s.boot.hbmFailed ∧
    s.fallBack.n Obj.healthReasons 0 = s.n Obj.healthReasons 0 := by
  let u := { s with boot := { s.boot with cause := 6, fellBack := true } }
  have same : s.fallBack.boot = u.boot := (u.raise_only Ev.updateFallback 0).same .boot
  exact ⟨(congrArg Boot.hbmFailed same :), (u.raise_only Ev.updateFallback 0).n Obj.healthReasons 0⟩

theorem State.loadUpland_some {s t : State} (h : s.chooseUpland = some t) : s.loadUpland = t.uplandLoading := by
  unfold State.loadUpland
  split
  · next u e =>
    cases h.symm.trans e
    rfl
  · next e => cases h.symm.trans e

theorem State.loadUpland_none {s : State} (h : s.chooseUpland = none) : s.loadUpland = s.recordStart.enterRecovery := by
  unfold State.loadUpland
  split
  · next u e => cases h.symm.trans e
  · rfl

/-- What loading an image, or recovery where none is accepted, leaves of the state of the start. -/
theorem State.loadUpland_loads {s : State} (trial : s.up.ctl.trial = none) (hard : s.boot.soft = false) :
    s.loadUpland.boot.stage = (if (s.accepted 2 s.up.ctl.uplandActive || s.accepted 2 (1 - s.up.ctl.uplandActive)) = true
      then .uplandLoad else .recovery) ∧
    s.loadUpland.boot.hbmFailed = s.boot.hbmFailed ∧
    bit (s.loadUpland.n Obj.healthReasons 0) 1 = bit (s.n Obj.healthReasons 0) 1 := by
  have choice := State.chooseUpland_eq trial
  cases named : s.accepted 2 s.up.ctl.uplandActive with
  | true =>
    rw [if_pos named] at choice
    rw [State.loadUpland_some choice, Bool.true_or, if_pos rfl]
    exact s.uplandLoading_loads
  | false =>
    rw [if_neg (by rw [named]; exact Bool.false_ne_true)] at choice
    rw [Bool.false_or]
    cases other : s.accepted 2 (1 - s.up.ctl.uplandActive) with
    | true =>
      rw [if_pos other] at choice
      obtain ⟨stage, failed, reason⟩ := s.otherUpland.fallBack.uplandLoading_loads
      obtain ⟨failed', reason'⟩ := s.otherUpland.fallBack_keeps
      rw [State.loadUpland_some choice, if_pos rfl, stage, failed, reason, failed', reason']
      exact ⟨rfl, rfl, rfl⟩
    | false =>
      rw [if_neg (by rw [other]; exact Bool.false_ne_true)] at choice
      have same : s.recordStart.boot = s.boot := s.recordStart_only.same .boot
      obtain ⟨boot, -, reasons⟩ := State.enterRecovery_enters (s := s.recordStart) ((congrArg Boot.soft same).trans hard)
      rw [State.loadUpland_none choice, boot, reasons, if_neg Bool.false_ne_true]
      exact ⟨rfl, (congrArg Boot.hbmFailed same :), s.recordStart_reason (by decide)⟩

theorem hbmReady_loads (hbms : List Bool) (k : Nat) (awake : s.awake) (bedrock : s.boot.stage = .bedrock)
    (hard : s.boot.soft = false) (trial : s.up.ctl.trial = none) (hk : k = s.up.ctl.uplandActive) :
    Completes (.hbmReady dt hbms) s fun t =>
      (t.boot.stage = if (s.accepted 2 k || s.accepted 2 (1 - k)) = true then .uplandLoad else .recovery) ∧
        (false ∈ hbms ∨ hbms.length ≠ 4 → t.boot.hbmFailed = true ∧ bit (t.n Obj.healthReasons 0) 1 = true) := by
  subst hk
  have due : ((s.tick dt).boot.stage == .bedrock) = true := beq_iff_eq.mpr bedrock
  let failed := { s.tick dt with boot := { (s.tick dt).boot with hbmFailed := true } }
  have next : execHbmReady dt hbms s = .next (if (hbms.all id && hbms.length = 4) = true then (s.tick dt).releasePerst.loadUpland
      else (failed.setReason 1 true).loadUpland) := actIf_next awake due
  refine ⟨_, next, ?_⟩
  by_cases good : (hbms.all id && hbms.length = 4) = true
  · rw [if_pos good]
    have only := (s.tick dt).releasePerst_only
    have ctl : (s.tick dt).releasePerst.up.ctl = s.up.ctl := only.updating.2.2.2.1
    have boot : (s.tick dt).releasePerst.boot = (s.tick dt).boot := only.same .boot
    have judges : JudgesAlike s (s.tick dt).releasePerst := (s.tick_judges dt).trans only.judges
    obtain ⟨stage, -⟩ := State.loadUpland_loads ((congrArg BootControl.trial ctl).trans trial) ((congrArg Boot.soft boot).trans hard)
    rw [judges.accepted, ctl] at stage
    refine ⟨stage, fun bad => ?_⟩
    obtain ⟨all, four⟩ := Bool.and_eq_true_iff.mp good
    rcases bad with bad | bad
    · exact absurd (List.all_eq_true.mp all false bad) Bool.false_ne_true
    · exact absurd (of_decide_eq_true four) bad
  · rw [if_neg good]
    have only := failed.setReason_only 1 true
    have ctl : (failed.setReason 1 true).up.ctl = s.up.ctl := only.updating.2.2.2.1
    have boot : (failed.setReason 1 true).boot = failed.boot := only.same .boot
    have before : JudgesAlike s failed := ⟨rfl, rfl, rfl, rfl⟩
    have judges : JudgesAlike s (failed.setReason 1 true) := before.trans only.judges
    obtain ⟨stage, hbm, reason⟩ :=
      State.loadUpland_loads ((congrArg BootControl.trial ctl).trans trial) ((congrArg Boot.soft boot).trans hard)
    rw [judges.accepted, ctl] at stage
    exact ⟨stage, fun _ => ⟨hbm.trans (congrArg Boot.hbmFailed boot), reason.trans (failed.setReason_reads 1 true)⟩⟩

end

end Sys2Proof.Machine

end

section

/-! PROOFS. The entry of Upland, its faults and heartbeats, the health monitors, the store and a trial's end
(R484, R498, R530, R593, R613, R616): O60. -/

namespace Sys2Proof.Machine

set_option Elab.async false

/-! ## The entry of Upland (R583) -/

/-- The stage of the start and Upland's times are as they were, and no time has passed. -/
structure EntryKept (s t : State) : Prop where
  stage : t.boot.stage = s.boot.stage
  runs : t.boot.uplandRuns = s.boot.uplandRuns
  at_ : t.boot.uplandAt = s.boot.uplandAt
  beat : t.boot.heartbeatAt = s.boot.heartbeatAt
  now : t.now = s.now

section
variable {s t u : State}

theorem EntryKept.refl (s : State) : EntryKept s s := ⟨rfl, rfl, rfl, rfl, rfl⟩

theorem EntryKept.trans (h : EntryKept s t) (g : EntryKept t u) : EntryKept s u :=
  ⟨g.stage.trans h.stage, g.runs.trans h.runs, g.at_.trans h.at_, g.beat.trans h.beat, g.now.trans h.now⟩

theorem EntryKept.of_only {r : Reach} (h : Only r s t) (boot : Part.boot ∉ r.parts := by decide)
    (now : Part.now ∉ r.parts := by decide) : EntryKept s t := by
  have same : t.boot = s.boot := h.same .boot boot
  exact ⟨(congrArg Boot.stage same :), (congrArg Boot.uplandRuns same :), (congrArg Boot.uplandAt same :),
    (congrArg Boot.heartbeatAt same :), h.same .now now⟩

theorem EntryKept.after {r : Reach} (g : EntryKept s t) (h : Only r t u) (boot : Part.boot ∉ r.parts := by decide)
    (now : Part.now ∉ r.parts := by decide) : EntryKept s u := g.trans (.of_only h boot now)

theorem EntryKept.ite {p : Prop} [Decidable p] (h : EntryKept s t) (g : EntryKept s u) : EntryKept s (if p then t else u) := by
  split
  · exact h
  · exact g

theorem State.loadStore_entry (s : State) : EntryKept s s.loadStore := by
  unfold State.loadStore
  split
  · extract_lets +onlyGivenNames st t1 t2
    have h1 : EntryKept s t1 := ⟨rfl, rfl, rfl, rfl, rfl⟩
    clear_value t1
    have h2 : EntryKept s t2 := ((h1.after (State.setN_only ..)).after (State.setN_only ..)).after (State.setN_only ..)
    clear_value t2
    exact (h2.after (State.setReason_only ..)).after (State.raise_only ..)
  · extract_lets +onlyGivenNames st il ws t1 t2 t3 t4 p
    have h1 : EntryKept s t1 := ⟨rfl, rfl, rfl, rfl, rfl⟩
    clear_value t1
    have h2 : EntryKept s t2 := h1.after (State.setN_only ..)
    clear_value t2
    have h3 : EntryKept s t3 := ((h2.after (State.setN_only ..)).after (State.setN_only ..)).after (State.setN_only ..)
    clear_value t3
    have h4 : EntryKept s t4 := .ite (h3.after (State.setN_only ..)) h3
    clear_value t4
    have h5 : EntryKept s p.1 := h4.after (State.loadRecords_only ..)
    exact h5.trans ⟨rfl, rfl, rfl, rfl, rfl⟩

theorem State.loadSettings_entry (s : State) : EntryKept s s.loadSettings := by
  unfold State.loadSettings
  extract_lets +onlyGivenNames old t1 ce t2 t3 t4 t5 t6 migrated
  have h1 : EntryKept s t1 := .of_only s.clearRestart_only
  have emptied : EntryKept t1 { t1 with ce := { t1.ce with restartWrites := [] } } := ⟨rfl, rfl, rfl, rfl, rfl⟩
  have h2 : EntryKept s t2 := (h1.trans emptied).trans (State.loadStore_entry _)
  clear_value t2
  have h3 : EntryKept s t3 := h2.after (State.bump_only ..)
  clear_value t3
  have h4 : EntryKept s t4 := .ite h3 ((h3.after (State.meetLoaded_only ..)).after (State.restoreSsrcs_only ..))
  clear_value t4
  have h5 : EntryKept s t5 := .ite (h4.after (State.formSaddle_only ..)) h4
  clear_value t5
  have h6 : EntryKept s t6 := .ite (h5.after (State.raise_only ..)) h5
  clear_value t6
  exact .ite (h6.after t6.startSave_only) h6

theorem State.restoreChecks_entry (s : State) : EntryKept s s.restoreChecks := by
  unfold State.restoreChecks
  extract_lets +onlyGivenNames boot now l r t1 t2
  have h1 : EntryKept s t1 := ⟨rfl, rfl, rfl, rfl, rfl⟩
  clear_value t1
  have h2 : EntryKept s t2 := h1.after (Only.foldl (r := ⟨[], [Obj.migrationReportCount, Obj.migrationReport], []⟩)
    (fun u a => u.addReport_only a 3) (.refl _ _))
  clear_value t2
  exact .ite h2 (h2.after (State.raise_only ..))

/-- Upland entered: it runs from now on, without a heartbeat yet, and the settings are restored. -/
def State.entered (s : State) : State := { s.enterUpland with boot := { s.enterUpland.boot with stage := .restore, stageAt := s.now } }

theorem State.bootUpland_enters (s : State) : EntryKept s.entered s.bootUpland ∧ s.bootUpland.il.ctlUp = true := by
  have loaded := s.entered.loadSettings_entry
  let t := s.entered.loadSettings
  let u := if t.boot.soft || t.boot.hbmFailed then t else t.releasePerst
  have perst : EntryKept s.entered u := .ite loaded (loaded.after t.releasePerst_only)
  have control : EntryKept s.entered u.openControl := perst.after u.openControl_only
  have up : u.openControl.il.ctlUp = true := rfl
  have boots : s.bootUpland = if u.openControl.boot.hbmFailed then u.openControl else u.openControl.restoreChecks := rfl
  rw [boots]
  split
  · exact ⟨control, up⟩
  · have restored : u.openControl.restoreChecks.il.ctlUp = u.openControl.il.ctlUp := u.openControl.restoreChecks_only.same .ctlUp
    exact ⟨control.trans (State.restoreChecks_entry _), restored.trans up⟩

variable {dt : Nat}

theorem uplandEntered_enters (awake : s.awake) (load : s.boot.stage = .uplandLoad) :
    Completes (.uplandEntered dt) s fun t =>
      t.boot.stage = .restore ∧ t.boot.uplandRuns = true ∧ t.boot.uplandAt = t.now ∧ t.boot.heartbeatAt = none ∧
        t.il.ctlUp = true := by
  have due : ((s.tick dt).boot.stage == .uplandLoad) = true := beq_iff_eq.mpr load
  have next : execUplandEntered dt s = .next (s.tick dt).bootUpland :=
    (act_next awake).trans (congrArg Host.Outcome.next (if_pos due))
  obtain ⟨kept, up⟩ := (s.tick dt).bootUpland_enters
  exact ⟨_, next, kept.stage, kept.runs, kept.at_.trans kept.now.symm, kept.beat, up⟩

end

end Sys2Proof.Machine

end

section

/-! PROOFS. Health monitors, Upland's faults and heartbeats, the store and a trial's end (R484, R498, R530, R593, R613): O60. -/

namespace Sys2Proof.Machine

set_option Elab.async false

section
variable {s : State} {dt : Nat}

/-! ## Health monitors (R613) -/

theorem State.monitorReason_sets (s : State) (k : Nat) {set : Bool} (clear : Bool) (event subject : Nat) (h : set = true) :
    bit ((s.monitorReason k set clear event subject).n Obj.healthReasons 0) k = true := by
  subst h
  unfold State.monitorReason
  extract_lets was
  cases before : was with
  | false =>
    rw [if_pos (by decide), (State.raise_only ..).n Obj.healthReasons 0]
    exact State.setReason_reads ..
  | true =>
    rw [if_neg (by decide), if_neg (by simp)]
    exact before

theorem State.monitorReason_clears (s : State) (k : Nat) {set clear : Bool} (event subject : Nat) (cool : set = false)
    (held : clear = true) : bit ((s.monitorReason k set clear event subject).n Obj.healthReasons 0) k = false := by
  subst cool held
  unfold State.monitorReason
  extract_lets was
  rw [if_neg (by simp)]
  cases before : was with
  | false =>
    rw [if_neg (by decide)]
    exact before
  | true =>
    rw [if_pos (by decide)]
    exact State.setReason_reads ..

theorem State.monitorReason_bit_ne (s : State) {k j : Nat} (set clear : Bool) (event subject : Nat) (h : j ≠ k) :
    bit ((s.monitorReason k set clear event subject).n Obj.healthReasons 0) j = bit (s.n Obj.healthReasons 0) j := by
  unfold State.monitorReason
  extract_lets was
  split
  · rw [(State.raise_only ..).n Obj.healthReasons 0]
    exact State.setReason_bit_ne _ _ h
  · split
    · exact State.setReason_bit_ne _ _ h
    · rfl

/-- The supply margins as a sample sets them. -/
def State.setMargins (s : State) (l : List (Int × Nat)) : State :=
  l.foldl (fun v (x : Int × Nat) => v.setI Obj.supplyMargin x.2 x.1) s

theorem State.setMargins_only (s : State) (l : List (Int × Nat)) : Only ⟨[], [Obj.supplyMargin], []⟩ s (s.setMargins l) :=
  Only.foldl (fun u x => u.setI_only Obj.supplyMargin x.2 x.1) (.refl _ _)

theorem State.setMargins_out {s : State} {l : List (Int × Nat)} {k : Nat} (small : k < 65536)
    (out : ∀ x ∈ l, x.2 < 65536 ∧ x.2 ≠ k) : (s.setMargins l).i Obj.supplyMargin k = s.i Obj.supplyMargin k := by
  induction l generalizing s with
  | nil => rfl
  | cons x l ih =>
    obtain ⟨near, apart⟩ := out x (List.mem_cons_self ..)
    have rest := ih (s := s.setI Obj.supplyMargin x.2 x.1) fun y hy => out y (List.mem_cons_of_mem _ hy)
    rw [State.setMargins, List.foldl_cons, ← State.setMargins, rest, State.i_setI, if_neg fun h => by omega]

theorem State.setMargins_reads {s : State} {l : List Int} {j k : Nat} {m : Int} (bound : j + l.length ≤ 65536)
    (at_ : l[k]? = some m) : (s.setMargins (l.zipIdx j)).i Obj.supplyMargin (j + k) = m := by
  induction l generalizing s j k with
  | nil => cases at_
  | cons x l ih =>
    rw [List.length_cons] at bound
    rw [List.zipIdx_cons, State.setMargins, List.foldl_cons, ← State.setMargins]
    cases k with
    | zero =>
      cases at_
      rw [Nat.add_zero, State.setMargins_out (by omega)]
      · exact State.i_setI_self ..
      · intro y hy
        obtain ⟨low, high, -⟩ := List.mem_zipIdx hy
        omega
    | succ k =>
      have next := ih (s := s.setI Obj.supplyMargin j x) (j := j + 1) (k := k) (by omega) at_
      rwa [Nat.add_right_comm] at next

/-- The sample's measured values. -/
def State.sensed (s : State) (temp : Int) (margins : List Int) : State :=
  ((s.setI Obj.junctionTemp 0 temp).setI Obj.junctionTempMax 0 (max temp (s.i Obj.junctionTempMax 0))).setMargins
    (margins.take 8).zipIdx

/-- The times since when the monitors hold. -/
def State.timed (s : State) (temp : Int) (low : Option Nat) (hbmTemps : List Int) : State :=
  { s with boot := { s.boot with
    thermalCool := since s.now s.boot.thermalCool (temp ≤ 970)
    limitCool := since s.now s.boot.limitCool (temp ≤ 1000)
    supplyGood := since s.now s.boot.supplyGood low.isNone
    refreshDoubled := hbmTemps.map fun x => decide (850 < x) } }

/-- The three monitors on a state with its times. -/
def State.monitored (s : State) (temp : Int) (low : Option Nat) : State :=
  let u := s.monitorReason 2 (1000 < temp) (Machine.heldFor s.now s.boot.thermalCool 60000000000) Ev.thermalHigh 2
  let u := u.monitorReason 3 (1050 < temp) (Machine.heldFor u.now u.boot.limitCool 60000000000) Ev.thermalHigh 3
  u.monitorReason 4 low.isSome (Machine.heldFor u.now u.boot.supplyGood 10000000000) Ev.supplyLow (low.getD 0)

theorem State.monitored_only (s : State) (temp : Int) (low : Option Nat) :
    Only ⟨[.out, .pinned, .ev, .flashJournal, .diskJournal], [Obj.healthReasons, Obj.healthState, Obj.eventCount,
      Obj.eventLastAt, Obj.eventLastSubject], [0x40000004, 0x40000008]⟩ s (s.monitored temp low) :=
  (State.monitorReason_only ..).seq ((State.monitorReason_only ..).seq (State.monitorReason_only ..))

theorem State.monitored_sets (s : State) (temp : Int) (low : Option Nat) :
    (1000 < temp → bit ((s.monitored temp low).n Obj.healthReasons 0) 2 = true) ∧
    (1050 < temp → bit ((s.monitored temp low).n Obj.healthReasons 0) 3 = true) ∧
    (low.isSome = true → bit ((s.monitored temp low).n Obj.healthReasons 0) 4 = true) := by
  unfold State.monitored
  extract_lets u v
  refine ⟨fun hot => ?_, fun hot => ?_, fun weak => State.monitorReason_sets _ _ _ _ _ weak⟩
  · rw [State.monitorReason_bit_ne _ _ _ _ _ (by decide), State.monitorReason_bit_ne _ _ _ _ _ (by decide)]
    exact State.monitorReason_sets _ _ _ _ _ (decide_eq_true hot)
  · rw [State.monitorReason_bit_ne _ _ _ _ _ (by decide)]
    exact State.monitorReason_sets _ _ _ _ _ (decide_eq_true hot)

theorem State.monitored_clears (s : State) {temp : Int} (low : Option Nat) (cool : temp ≤ 1000)
    (held : Machine.heldFor s.now s.boot.thermalCool 60000000000 = true) :
    bit ((s.monitored temp low).n Obj.healthReasons 0) 2 = false := by
  unfold State.monitored
  extract_lets u v
  rw [State.monitorReason_bit_ne _ _ _ _ _ (by decide), State.monitorReason_bit_ne _ _ _ _ _ (by decide)]
  exact State.monitorReason_clears _ _ _ _ (decide_eq_false (Int.not_lt.mpr cool)) held

theorem healthMonitorSample_monitors (temp : Int) (margins hbmTemps : List Int) (awake : s.awake) :
    Completes (.healthMonitorSample dt temp margins hbmTemps) s fun t =>
      t.i Obj.junctionTemp 0 = temp ∧ t.i Obj.junctionTempMax 0 = max temp (s.i Obj.junctionTempMax 0) ∧
        (∀ k m, k < 8 → margins[k]? = some m → t.i Obj.supplyMargin k = m) ∧
        (1000 < temp → bit (t.n Obj.healthReasons 0) 2 = true) ∧ (1050 < temp → bit (t.n Obj.healthReasons 0) 3 = true) ∧
        ((∃ m ∈ margins, m < 300) → bit (t.n Obj.healthReasons 0) 4 = true) ∧
        (∀ a, temp ≤ 970 → s.boot.thermalCool = some a → a + 60000000000 ≤ s.now + dt →
          bit (t.n Obj.healthReasons 0) 2 = false) := by
  let low := margins.findIdx? fun m => m < 300
  let u := (s.tick dt).sensed temp margins
  let v := u.timed temp low hbmTemps
  have next : execHealthMonitorSample dt temp margins hbmTemps s = .next (v.monitored temp low) := act_next awake
  have only := v.monitored_only temp low
  have margins_ := State.setMargins_only (((s.tick dt).setI Obj.junctionTemp 0 temp).setI Obj.junctionTempMax 0
    (max temp (s.i Obj.junctionTempMax 0))) (margins.take 8).zipIdx
  obtain ⟨warm, hot, weak⟩ := v.monitored_sets temp low
  refine ⟨_, next, ?_, ?_, fun k m hk at_ => ?_, warm, hot, fun ⟨m, hm, under⟩ => weak ?_, fun a cool since_ past => ?_⟩
  · refine (only.i Obj.junctionTemp 0).trans ((margins_.i Obj.junctionTemp 0).trans ?_)
    rw [State.i_setI, if_neg fun h => absurd h.1 (by decide), State.i_setI_self]
  · exact (only.i Obj.junctionTempMax 0).trans ((margins_.i Obj.junctionTempMax 0).trans (State.i_setI_self ..))
  · have taken : (margins.take 8)[k]? = some m := by rw [List.getElem?_take_of_lt hk, at_]
    have reads := State.setMargins_reads (s := ((s.tick dt).setI Obj.junctionTemp 0 temp).setI Obj.junctionTempMax 0
      (max temp (s.i Obj.junctionTempMax 0))) (j := 0) (by rw [List.length_take]; omega) taken
    rw [Nat.zero_add] at reads
    exact (only.i Obj.supplyMargin k).trans reads
  · exact List.findIdx?_isSome.trans (List.any_eq_true.mpr ⟨m, hm, decide_eq_true under⟩)
  · refine v.monitored_clears low (by omega) ?_
    have same : u.boot = s.boot := (margins_.same .boot :)
    have now : v.now = s.now + dt := (margins_.same .now :)
    have kept : v.boot.thermalCool = some a := by
      change since u.now u.boot.thermalCool (decide (temp ≤ 970)) = some a
      rw [decide_eq_true cool, same, since_]
      rfl
    rw [Machine.heldFor, kept, now, Option.elim_some]
    exact decide_eq_true past

end

end Sys2Proof.Machine

end

section

/-! PROOFS. Upland's faults and heartbeats, the store and a trial's end (R498, R530, R593): O60. -/

namespace Sys2Proof.Machine

set_option Elab.async false

section
variable {s : State} {dt : Nat}

/-! ## Faults and heartbeats (R530) -/

theorem uplandFault_next {cause : Nat} (pc addr : Nat) (gated : s.gated) (low : 1 ≤ cause) (high : cause ≤ 6) :
    execUplandFault dt cause pc addr s = .next ((s.tick dt).uplandRestart cause pc addr) :=
  actIf_next gated.1 (Bool.and_eq_true_iff.mpr ⟨Bool.and_eq_true_iff.mpr ⟨gated.2, decide_eq_true low⟩, decide_eq_true high⟩)

theorem uplandFault_stops {cause : Nat} (pc addr : Nat) (gated : s.gated) (stays : s.faultStays dt) (low : 1 ≤ cause)
    (high : cause ≤ 6) :
    Completes (.uplandFault dt cause pc addr) s fun t =>
      UplandStopped cause s t ∧ t.regN 0x400600A4 = pc % 2 ^ 32 ∧
        t.regN 0x400600A8 = if 2 ≤ cause ∧ cause ≤ 4 then addr % 2 ^ 32 else 0 :=
  ⟨_, uplandFault_next pc addr gated low high, stays.stops pc addr (by omega)⟩

theorem uplandFault_restarts {cause : Nat} (pc addr : Nat) (gated : s.gated) (trial : s.up.ctl.trial = none) (low : 1 ≤ cause)
    (high : cause ≤ 6) (third : 2 ≤ (s.boot.uplandRestarts.filter fun a => s.now + dt < a + 600000000000).length) :
    Completes (.uplandFault dt cause pc addr) s fun t => t.boot.stage = .rom ∧ t.boot.cause = 4 := by
  have restarts := (s.tick dt).uplandRestart_third (cause := cause) pc addr trial (Nat.succ_le_succ third)
  refine ⟨_, (uplandFault_next pc addr gated low high).trans (congrArg Host.Outcome.next restarts), ?_⟩
  exact ⟨rfl, rfl⟩

theorem uplandHeartbeatLate_tells {a : Nat} (gated : s.gated) (once : s.boot.heartbeatLate = false)
    (beat : s.boot.heartbeatAt = some a) (past : a + 500000000 ≤ s.now + dt) :
    Completes (.uplandHeartbeatLate dt) s fun t => t.boot.heartbeatLate = true ∧ Raised Ev.uplandHeartbeatLate 0 s t := by
  have age : (s.tick dt).hbAge = (s.now + dt - a) / 1000000 := by
    have beat : (s.tick dt).boot.heartbeatAt = some a := beat
    rw [State.hbAge, if_pos (show (s.tick dt).boot.uplandRuns = true from gated.2), beat]
    rfl
  have late : 500 ≤ (s.tick dt).hbAge := by
    rw [age]
    omega
  have due : (!(s.tick dt).boot.heartbeatLate && decide (500 ≤ (s.tick dt).hbAge)) = true :=
    Bool.and_eq_true_iff.mpr ⟨(congrArg (!·) once :), decide_eq_true late⟩
  let u := { s.tick dt with boot := { (s.tick dt).boot with heartbeatLate := true } }
  have next : execUplandHeartbeatLate dt s = .next (u.raise Ev.uplandHeartbeatLate 0) := actIf_next gated.1 due
  have boot : (u.raise Ev.uplandHeartbeatLate 0).boot = u.boot := (u.raise_only Ev.uplandHeartbeatLate 0).same .boot
  have raised := (u.raise_raised Ev.uplandHeartbeatLate 0).before (l := []) (s := s) (.of_objs rfl)
  exact ⟨_, next, (congrArg Boot.heartbeatLate boot :), raised⟩

theorem heartbeatTimeout_stops (gated : s.gated) (stays : s.faultStays dt)
    (silent : ∃ a, s.boot.heartbeatAt = some a ∧ a + 1000000000 ≤ s.now + dt ∨
      s.boot.heartbeatAt = none ∧ s.boot.uplandAt + 3000000000 ≤ s.now + dt) :
    Completes (.heartbeatTimeout dt) s fun t => UplandStopped 7 s t := by
  have next : execHeartbeatTimeout dt s = .next ((s.tick dt).uplandRestart 7 0 0) := by
    refine actIf_next gated.1 (Bool.and_eq_true_iff.mpr ⟨gated.2, ?_⟩)
    obtain ⟨a, ⟨beat, past⟩ | ⟨beat, past⟩⟩ := silent
    · have beat : (s.tick dt).boot.heartbeatAt = some a := beat
      rw [beat]
      exact decide_eq_true past
    · have beat : (s.tick dt).boot.heartbeatAt = none := beat
      rw [beat]
      exact decide_eq_true past
  exact ⟨_, next, (stays.stops 0 0 (by omega)).1⟩

/-! ## Saves (R498) -/

theorem State.setSlot_reads (s : State) (slot : Nat) (x : Option StoreSlot) :
    (if slot = 0 then (s.setSlot slot x).st.slotA else (s.setSlot slot x).st.slotB) = x := by
  unfold State.setSlot
  split <;> rfl

/-- A save that starts takes the settings as they are, and its slot is erased (R498). -/
theorem State.startSave_starts (s : State) : (∃ x, s.startSave.st.save = some x ∧ x.slot = s.saveSlot ∧ x.retried = false ∧
      x.content = s.snapshot (s.n Obj.storeGeneration 0 + 1)) ∧
    (if s.saveSlot = 0 then s.startSave.st.slotA else s.startSave.st.slotB) = none :=
  ⟨⟨_, rfl, rfl, rfl, rfl⟩, s.setSlot_reads s.saveSlot none⟩

theorem storeSaveStart_starts (gated : s.gated) (idle : s.st.save = none)
    (rested : ∀ a, s.st.lastStart = some a → a + 1000000000 ≤ s.now + dt)
    (needed : s.storeDirtyNow = true ∨ s.st.replies ≠ [] ∨ s.st.gateTickets ≠ []) :
    Completes (.storeSaveStart dt) s fun t =>
      (∃ x, t.st.save = some x ∧ x.slot = s.saveSlot ∧ x.retried = false ∧
        x.content = s.snapshot (s.n Obj.storeGeneration 0 + 1)) ∧
        (if s.saveSlot = 0 then t.st.slotA else t.st.slotB) = none := by
  have rested : ∀ a, (s.tick dt).st.lastStart = some a → a + 1000000000 ≤ (s.tick dt).now := rested
  have waited : ((s.tick dt).st.lastStart.elim true fun a => decide (a + 1000000000 ≤ (s.tick dt).now)) = true := by
    cases since : (s.tick dt).st.lastStart with
    | none => rfl
    | some a =>
      rw [Option.elim_some]
      exact decide_eq_true (rested a since)
  have wanted : (s.storeDirtyNow || !s.st.replies.isEmpty || !s.st.gateTickets.isEmpty) = true := by
    simp only [Bool.or_eq_true, Bool.not_eq_true', List.isEmpty_eq_false_iff, or_assoc]
    exact needed
  have free : s.st.save.isNone = true := by rw [idle]; rfl
  have next : execStoreSaveStart dt s = .next (s.tick dt).startSave := actIf_next gated.1
    (Bool.and_eq_true_iff.mpr ⟨Bool.and_eq_true_iff.mpr ⟨Bool.and_eq_true_iff.mpr ⟨gated.2, free⟩, waited⟩, wanted⟩)
  exact ⟨_, next, (s.tick dt).startSave_starts⟩

/-! ## The sessions, none of which holds a message -/

theorem State.setSession_noneHeld {n : Nat} {x : Session} (h : s.noneHeld) (hx : x.held = []) : (s.setSession n x).noneHeld := by
  intro p hp
  obtain rfl | hp := List.mem_cons.mp hp
  · exact hx
  · exact h p (List.mem_filter.mp hp).1

theorem noneHeld_after {t : State} {r : Reach} (h : s.noneHeld) (g : Only r s t) (hp : Part.sessions ∉ r.parts := by decide) :
    t.noneHeld := by
  have same : t.il.sessions = s.il.sessions := g.same .sessions hp
  intro p
  rw [same]
  exact h p

theorem State.respond_noneHeld (h : s.noneHeld) (n seq type status detail : Nat) (b : Body) :
    (s.respond n seq type status detail b).noneHeld := by
  cases open_ : s.session n with
  | none =>
    unfold State.respond
    rw [open_]
    exact h
  | some x =>
    rw [State.respond_some open_]
    exact State.setSession_noneHeld h (h (n, x) (mem_of_lookup open_))

theorem State.reply_noneHeld (h : s.noneHeld) (a : Asker) (type status detail : Nat) (b : Body) :
    (s.reply a type status detail b).noneHeld := by
  unfold State.reply
  cases a with
  | request n seq => exact State.respond_noneHeld h _ _ _ _ _ _
  | nobody => exact h
  | ticket k =>
    dsimp only
    split
    · exact noneHeld_after (noneHeld_after h (State.setMem_only ..)) (State.completeTicket_only ..)
    · exact h

theorem State.answerFor_noneHeld (h : s.noneHeld) (x : Answer) (status : Nat) : (s.answerFor x status).noneHeld := by
  unfold State.answerFor
  extract_lets t
  have h1 : t.noneHeld := noneHeld_after h (Only.foldl (r := ⟨[.frameWrites, .tw], [], []⟩) (fun u c => u.frameWrite_only c) (.refl _ _))
  split
  · exact State.reply_noneHeld h1 _ _ _ _ _
  · split <;> exact State.reply_noneHeld h1 _ _ _ _ _

theorem State.answerSave_noneHeld (h : s.noneHeld) (x : Save) (status : Nat) : (s.answerSave x status).noneHeld := by
  have answers (l : List Answer) : ∀ {u : State}, u.noneHeld → (l.foldl (fun (u : State) r => u.answerFor r status) u).noneHeld := by
    induction l with
    | nil => exact id
    | cons r l ih => exact fun hu => ih (State.answerFor_noneHeld hu r status)
  have tickets (l : List Nat) (k : Nat) (b : List Byte) : ∀ {u : State}, u.noneHeld →
      (l.foldl (fun (u : State) n => u.completeTicket n k b) u).noneHeld := by
    induction l with
    | nil => exact id
    | cons n l ih => exact fun hu => ih (u := State.completeTicket _ n k b) hu
  exact tickets _ _ _ (answers _ h)

theorem State.releaseAll_noneHeld (h : s.noneHeld) : s.releaseAll = s := by
  have one (n : Nat) : s.releaseHeld n = s := Unheld.releaseHeld fun p hp _ => h p hp
  unfold State.releaseAll
  induction s.il.sessions.map fun (p : Nat × Session) => p.1 with
  | nil => rfl
  | cons n l ih => rw [List.foldl_cons, one, ih]

/-! ## The end of a save (R498) -/

/-- A save that ends well. -/
def State.saved (s : State) (x : Save) : State :=
  let t := s.setSlot x.slot (some x.content)
  let t := { t with st := { t.st with
    save := none
    last := x.slot
    current := some x.content } }
  (t.setN Obj.storeGeneration 0 x.content.generation).setN Obj.storeLastSavedAt 0 t.ptp

/-- A save that has failed twice. -/
def State.unsaved (s : State) : State :=
  ({ s with st := { s.st with save := none } }.setReason 5 true).raise Ev.storeSaveFailed 0

theorem State.endSave_eq {x : Save} (h : s.st.save = some x) (ok : Bool) : s.endSave ok =
    if ok = true then ((s.saved x).answerSave x 0).raise Ev.storeSaved (x.content.generation % 2 ^ 32)
    else if x.retried = true then s.unsaved.answerSave x 0xC5
    else { s with st := { s.st with save := some { x with retried := true } } } := by
  unfold State.endSave
  split
  · next e => cases e.symm.trans h
  · next y e =>
    cases e.symm.trans h
    rfl

theorem Raised.mod {src subj : Nat} {s t : State} (h : Raised src (subj % 2 ^ 32) s t) : Raised src subj s t := by
  obtain ⟨count, subject, at_⟩ := h
  exact ⟨count, subject.trans (Nat.mod_mod ..), at_⟩

theorem State.saved_only (s : State) (x : Save) : Only ⟨[.st], [Obj.storeGeneration, Obj.storeLastSavedAt], []⟩ s (s.saved x) := by
  let t := s.setSlot x.slot (some x.content)
  have h2 : Only ⟨[.st], [], []⟩ t { t with st := { t.st with save := none, last := x.slot, current := some x.content } } :=
    Only.upd fun p => by cases p <;> first | exact .inr rfl | exact .inl (by decide)
  exact (State.setN_only ..).seq ((State.setN_only ..).seq (h2.seq (s.setSlot_only ..).up))

theorem State.saved_ends (s : State) (x : Save) :
    let t := ((s.saved x).answerSave x 0).raise Ev.storeSaved (x.content.generation % 2 ^ 32)
    t.st.save = none ∧ (if x.slot = 0 then t.st.slotA else t.st.slotB) = some x.content ∧
      t.n Obj.storeGeneration 0 = x.content.generation ∧ Raised Ev.storeSaved x.content.generation s t := by
  intro t
  have told := (s.saved x).answerSave_only x 0
  have last := ((s.saved x).answerSave x 0).raise_only Ev.storeSaved (x.content.generation % 2 ^ 32)
  have st : t.st = (s.saved x).st := (last.same .st).trans (told.same .st)
  have slot : (if x.slot = 0 then (s.saved x).st.slotA else (s.saved x).st.slotB) = some x.content := s.setSlot_reads ..
  have generation : (s.saved x).n Obj.storeGeneration 0 = x.content.generation :=
    (State.n_setN_ne _ _ _ _ _ _ (by decide)).trans (State.n_setN_self ..)
  have before : Raises [] s ((s.saved x).answerSave x 0) := .still told (.of_only (s.saved_only x))
  refine ⟨(congrArg Store.save st :), ?_, ?_, ((State.raise_raised ..).before before).mod⟩
  · rw [st]
    exact slot
  · exact (last.n Obj.storeGeneration 0).trans ((told.n Obj.storeGeneration 0).trans generation)

theorem State.unsaved_ends (s : State) (x : Save) : let t := s.unsaved.answerSave x 0xC5
    t.st.save = none ∧ bit (t.n Obj.healthReasons 0) 5 = true ∧ Raised Ev.storeSaveFailed 0 s t := by
  intro t
  let u := { s with st := { s.st with save := none } }
  have told := s.unsaved.answerSave_only x 0xC5
  have raised := (u.setReason 5 true).raise_only Ev.storeSaveFailed 0
  have reason := u.setReason_only 5 true
  have st : t.st = u.st := (told.same .st).trans ((raised.same .st).trans (reason.same .st))
  have before : Raises [Ev.healthChange] s (u.setReason 5 true) := (u.setReason_raises 5 true).seq (.of_objs rfl)
  refine ⟨(congrArg Store.save st :), ?_, ?_⟩
  · rw [told.n Obj.healthReasons 0]
    exact (congrArg (bit · 5) (raised.n Obj.healthReasons 0)).trans (u.setReason_reads 5 true)
  · exact ((State.raise_raised ..).before before).after (l := []) (.of_only told) told.ptp

theorem State.endSave_noneHeld {x : Save} (none_ : s.noneHeld) (h : s.st.save = some x) (ok : Bool) : (s.endSave ok).noneHeld := by
  rw [State.endSave_eq h]
  split
  · exact noneHeld_after (State.answerSave_noneHeld (noneHeld_after none_ (s.saved_only x)) x 0) (State.raise_only ..)
  · split
    · let u := { s with st := { s.st with save := none } }
      have hu : u.noneHeld := none_
      have told : s.unsaved.noneHeld := noneHeld_after (noneHeld_after hu (u.setReason_only 5 true)) (State.raise_only ..)
      exact State.answerSave_noneHeld told x _
    · exact none_

theorem storeSaved_ends {x : Save} (ok : Bool) (awake : s.awake) (none_ : s.noneHeld) (hx : s.st.save = some x) :
    Completes (.storeSaved dt ok) s fun t =>
      if ok = true then
        t.st.save = none ∧ (if x.slot = 0 then t.st.slotA else t.st.slotB) = some x.content ∧
          t.n Obj.storeGeneration 0 = x.content.generation ∧ Raised Ev.storeSaved x.content.generation s t
      else if x.retried = true then
        t.st.save = none ∧ bit (t.n Obj.healthReasons 0) 5 = true ∧ Raised Ev.storeSaveFailed 0 s t
      else t.st.save = some { x with retried := true } := by
  have running : (s.tick dt).st.save.isSome = true := Option.isSome_of_eq_some hx
  have held := State.endSave_noneHeld (s := s.tick dt) none_ hx ok
  have next : execStoreSaved dt ok s = .next ((s.tick dt).endSave ok) :=
    (actIf_next awake running).trans (congrArg Host.Outcome.next (State.releaseAll_noneHeld held))
  have ends := State.endSave_eq (s := s.tick dt) hx ok
  have tick : Raises [] s (s.tick dt) := .of_objs rfl
  refine ⟨(s.tick dt).endSave ok, next, ?_⟩
  by_cases good : ok = true
  · rw [if_pos good] at ends
    rw [if_pos good, ends]
    obtain ⟨save, slot, generation, raised⟩ := (s.tick dt).saved_ends x
    exact ⟨save, slot, generation, raised.before tick⟩
  · rw [if_neg good] at ends
    rw [if_neg good]
    by_cases again : x.retried = true
    · rw [if_pos again] at ends
      rw [if_pos again, ends]
      obtain ⟨save, reason, raised⟩ := (s.tick dt).unsaved_ends x
      exact ⟨save, reason, raised.before tick⟩
    · rw [if_neg again] at ends
      rw [if_neg again, ends]

/-! ## The end of a trial (R593) -/

/-- Boot control after a failed trial names the prior slot again. -/
theorem BootControl.failTrial_fails {c : BootControl} {kind slot : Nat} (h : c.trial = some (kind, slot)) :
    c.failTrial.trial = none ∧ (kind = 1 → c.failTrial.patchActive = c.prior.getD c.patchActive) ∧
      (kind = 2 → c.failTrial.uplandActive = c.prior.getD c.uplandActive) := by
  unfold BootControl.failTrial
  rw [h]
  exact ⟨rfl, fun e => if_pos e, fun e => if_pos e⟩

/-- A trial's window ends without its confirmation, and the device does not restart for it. -/
def State.trialLost (s : State) : State :=
  { s with up := { s.up with
      ctl := { s.up.ctl.failTrial with notConfirmed := true }
      windowEnds := none
      trialRuns := false } }.setN Obj.updateState 0 0

theorem State.trialRestart_restarts {s : State} {kind slot : Nat} (h : s.up.ctl.trial = some (kind, slot)) :
    s.trialRestart.boot.stage = .rom ∧ s.trialRestart.up.ctl.trial = none ∧ s.trialRestart.up.ctl.recover = s.romRecovery := by
  have restarts := ({ s with up := { s.up with
    ctl := { s.up.ctl.failTrial with recover := s.romRecovery, notConfirmed := !s.romRecovery }
    trialRuns := false } } : State).hardRestart_restarts 3
  obtain ⟨stage, -, -, -, ctl, -⟩ := restarts
  exact ⟨stage, (congrArg BootControl.trial ctl).trans (BootControl.failTrial_fails h).1, (congrArg BootControl.recover ctl :)⟩

theorem updateNotConfirmed_ends {kind slot e : Nat} (awake : s.awake) (trial : s.up.ctl.trial = some (kind, slot))
    (window : s.up.windowEnds = some e) (past : e ≤ s.now + dt) :
    Completes (.updateNotConfirmed dt) s fun t =>
      t.up.ctl.trial = none ∧
        if s.n Obj.updatePolicy 0 = 1 then t.boot.stage = .rom ∧ t.up.ctl.recover = true
        else t.up.ctl.notConfirmed = true ∧ t.boot.stage = s.boot.stage ∧ t.n Obj.updateState 0 = 0 ∧
          (kind = 1 → t.up.ctl.patchActive = s.up.ctl.prior.getD s.up.ctl.patchActive) ∧
          (kind = 2 → t.up.ctl.uplandActive = s.up.ctl.prior.getD s.up.ctl.uplandActive) ∧
          Raised Ev.updateNotConfirmed kind s t := by
  have named : (s.tick dt).up.ctl.trial.isSome = true := Option.isSome_of_eq_some trial
  have over_ : ((s.tick dt).up.windowEnds.elim false fun e => decide (e ≤ (s.tick dt).now)) = true := by
    rw [show (s.tick dt).up.windowEnds = some e from window, Option.elim_some]
    exact decide_eq_true past
  have kindIs : ((s.tick dt).up.ctl.trial.elim 0 fun (p : Nat × Nat) => p.1) = kind := by
    rw [show (s.tick dt).up.ctl.trial = some (kind, slot) from trial]
    rfl
  have next : execUpdateNotConfirmed dt s = .next (if (s.tick dt).romRecovery = true then (s.tick dt).trialRestart
      else (s.tick dt).trialLost.raise Ev.updateNotConfirmed ((s.tick dt).up.ctl.trial.elim 0 fun (p : Nat × Nat) => p.1)) :=
    actIf_next awake (Bool.and_eq_true_iff.mpr ⟨named, over_⟩)
  rw [kindIs] at next
  by_cases policy : s.n Obj.updatePolicy 0 = 1
  · have recovery : (s.tick dt).romRecovery = true := beq_iff_eq.mpr policy
    obtain ⟨stage, gone, recover⟩ := State.trialRestart_restarts (s := s.tick dt) trial
    rw [if_pos recovery] at next
    refine ⟨_, next, ?_⟩
    beta_reduce
    rw [if_pos policy]
    exact ⟨gone, stage, recover.trans recovery⟩
  · have recovery : ¬ (s.tick dt).romRecovery = true := fun h => policy (beq_iff_eq.mp h)
    obtain ⟨gone, patch, upland⟩ := BootControl.failTrial_fails (c := s.up.ctl) trial
    have only := (s.tick dt).trialLost.raise_only Ev.updateNotConfirmed kind
    have ctl : _ = (s.tick dt).trialLost.up.ctl := only.updating.2.2.2.1
    have boot : _ = (s.tick dt).trialLost.boot := only.same .boot
    have before : Raises [] s (s.tick dt).trialLost := .still (State.setN_only ..) (.of_objs rfl)
    rw [if_neg recovery] at next
    refine ⟨_, next, ?_⟩
    beta_reduce
    rw [if_neg policy, ctl, boot]
    exact ⟨gone, rfl, rfl, (only.n Obj.updateState 0).trans (State.n_setN_self ..), patch, upland,
      (State.raise_raised ..).before before⟩

/-- Settles O60, stage by stage: `romStageEnd_ends`, `hbmReady_loads` and `uplandEntered_enters` for the start, `avsStep_steps` for
AVS, `State.uplandRestart_stops` for Upland's faults, and `State.endSave_eq` for the store. -/
theorem bootStages : Obligations.BootStages := by
  refine ⟨fun s dt linear nacks => romStageEnd_ends linear nacks, fun s dt hbms k => hbmReady_loads hbms k,
    fun s dt => uplandEntered_enters, avsTargetUpdate_sets, avsStep_steps,
    fun s dt temp margins hbmTemps => healthMonitorSample_monitors temp margins hbmTemps,
    fun s dt cause pc addr => uplandFault_stops pc addr, fun s dt cause pc addr => uplandFault_restarts pc addr,
    fun s dt a => uplandHeartbeatLate_tells, fun s dt => heartbeatTimeout_stops, fun s dt => storeSaveStart_starts,
    fun s dt x ok => storeSaved_ends ok, fun s dt kind slot e => updateNotConfirmed_ends⟩

end

end Sys2Proof.Machine

end

section

/-! SUPPORT. Buffers, and the calls of the service gate (R522): what a buffer reads after it is written, and what a call
comes to on an accepted buffer and an open session. -/

namespace Sys2Proof.Machine

set_option Elab.async false

section
variable {s : State}

/-! ## Buffers -/

/-- A buffer reads as much of a result as it takes. -/
theorem State.memByte_putBuf (s : State) {buf : Buf} {b : List Byte} {i : Nat} (inside : i < min b.length buf.len) :
    (s.putBuf buf b).memByte (buf.addr + i) = b.getD i 0 := by
  have short : i < (b.take buf.len).length := by rw [List.length_take]; omega
  have long : i < b.length := by omega
  rw [State.putBuf, State.memByte_setMem_in _ _ _ _ short, List.getElem_take, List.getD_eq_getElem _ _ long]

/-! ## Calls of the gate (R522) -/

theorem State.withBuf_ok {buf : Buf} (ok : bufOk buf = true) (f : State → State) : s.withBuf buf f = f s := if_pos ok

/-- A refused buffer (R522). -/
theorem State.withBuf_bad {buf : Buf} (bad : bufOk buf = false) (f : State → State) :
    Out.gate 2 0 0 ∈ (s.withBuf buf f).out ∧ (s.withBuf buf f).mem = s.mem := by
  have refuses : s.withBuf buf f = (s.raiseLimited Ev.gateBufferRefused 0 0).gateEnd 2 0 0 :=
    if_neg (by rw [bad]; exact Bool.false_ne_true)
  rw [refuses]
  exact ⟨State.mem_emit .., (State.raiseLimited_only ..).same .mem⟩

theorem State.withSession_some {n : Nat} {x : Session} (h : s.session n = some x) (f : State → Session → State) :
    s.withSession n f = f s x := by
  unfold State.withSession
  rw [h]

/-- An Owner session's call. -/
theorem State.withOwner_owner {n : Nat} {x : Session} (h : s.session n = some x) (owner : x.role = 3) (f : State → State) :
    s.withOwner n f = f s := (State.withSession_some h _).trans (if_pos owner)

theorem State.withOwner_other {n : Nat} {x : Session} (h : s.session n = some x) (other : x.role ≠ 3) (f : State → State) :
    s.withOwner n f = s.gateNo Code.roleTooLow := (State.withSession_some h _).trans (if_neg other)

theorem State.gateOk_answers (s : State) (a1 a2 : Nat) : Out.gate 0 a1 a2 ∈ (s.gateOk a1 a2).out := s.mem_emit _

theorem State.gateNo_answers (s : State) (code a2 : Nat) : Out.gate 3 code a2 ∈ (s.gateNo code a2).out := s.mem_emit _

variable {dt : Nat}

/-! ## Versions, heartbeat and restart (R523, R530) -/

/-- The first heartbeat of a restarted Upland, after its time has been taken. -/
def State.beat (s : State) : State :=
  let t := { s with boot := { s.boot with heartbeatAt := some s.now, heartbeatLate := false } }
  if s.boot.heartbeatAt.isNone && t.boot.uplandRestarting then
    { t with boot := { t.boot with uplandRestarting := false } }.raise Ev.uplandRestarted 0
  else t

/-- A trial whose window begins (R590). -/
def State.beginTrial (s : State) (kind : Nat) : State :=
  { s with up := { s.up with windowEnds := some (s.now + 1000000000 * s.up.windowLength) } }.raise Ev.updateTrialStarted kind

theorem State.heartbeat_trial {kind slot : Nat} (runs : s.boot.uplandRuns = true) (trial : s.beat.up.ctl.trial = some (kind, slot)) :
    s.heartbeat = if (s.beat.up.trialRuns && s.beat.up.windowEnds.isNone) = true then s.beat.beginTrial kind else s.beat := by
  unfold State.heartbeat
  rw [if_neg (by rw [runs]; decide)]
  change (match s.beat.up.ctl.trial with | some (_, _) => _ | none => s.beat) = _
  rw [trial]
  rfl

theorem State.heartbeat_plain (runs : s.boot.uplandRuns = true) (trial : s.beat.up.ctl.trial = none) : s.heartbeat = s.beat := by
  unfold State.heartbeat
  rw [if_neg (by rw [runs]; decide)]
  change (match s.beat.up.ctl.trial with | some (_, _) => _ | none => s.beat) = _
  rw [trial]

/-- What the first part of a heartbeat does. -/
theorem State.beat_beats (s : State) : s.beat.boot.heartbeatAt = some s.beat.now ∧ s.beat.boot.heartbeatLate = false ∧
    (s.boot.heartbeatAt = none → s.boot.uplandRestarting = true →
      s.beat.boot.uplandRestarting = false ∧ Raised Ev.uplandRestarted 0 s s.beat) ∧
    Raises [Ev.uplandRestarted] s s.beat ∧ Only ⟨[.out, .pinned, .boot, .ev, .flashJournal, .diskJournal], [Obj.eventCount,
      Obj.eventLastAt, Obj.eventLastSubject], [0x40000004, 0x40000008]⟩ s s.beat := by
  let t := { s with boot := { s.boot with heartbeatAt := some s.now, heartbeatLate := false } }
  let u := { t with boot := { t.boot with uplandRestarting := false } }
  have only : Only ⟨[.boot], [], []⟩ s t := Only.upd fun p => by cases p <;> first | exact .inr rfl | exact .inl (by decide)
  have only' : Only ⟨[.boot], [], []⟩ s u := Only.upd fun p => by cases p <;> first | exact .inr rfl | exact .inl (by decide)
  have raise := u.raise_only Ev.uplandRestarted 0
  have boot : (u.raise Ev.uplandRestarted 0).boot = u.boot := raise.same .boot
  have now : (u.raise Ev.uplandRestarted 0).now = u.now := raise.same .now
  by_cases first : (s.boot.heartbeatAt.isNone && t.boot.uplandRestarting) = true
  · have e : s.beat = u.raise Ev.uplandRestarted 0 := if_pos first
    rw [e, boot, now]
    exact ⟨rfl, rfl, fun _ _ => ⟨rfl, (State.raise_raised ..).before (l := []) (.of_objs rfl)⟩,
      (State.raise_raises ..).seq (.of_objs rfl), raise.seq only'.up⟩
  · have e : s.beat = t := if_neg first
    rw [e]
    refine ⟨rfl, rfl, fun silent restarting => absurd ?_ first, .of_objs rfl, only.up⟩
    rw [silent]
    exact restarting

theorem Only.window {r : Reach} {s t : State} (h : Only r s t) (hp : Part.update ∉ r.parts := by decide) :
    t.up.windowEnds = s.up.windowEnds ∧ t.up.trialRuns = s.up.trialRuns ∧ t.up.windowLength = s.up.windowLength := by
  have same : ({ t.up with rollback := 0, ownerHashes := [], ownerStates := [], journal := [], journalSeq := 0 } : Update) =
    { s.up with rollback := 0, ownerHashes := [], ownerStates := [], journal := [], journalSeq := 0 } := h.same .update hp
  exact ⟨(congrArg Update.windowEnds same :), (congrArg Update.trialRuns same :), (congrArg Update.windowLength same :)⟩

theorem gateHeartbeat_beats (gated : s.gated) : Completes (.gateHeartbeat dt) s fun t =>
    Out.gate 0 0 0 ∈ t.out ∧ t.boot.heartbeatAt = some t.now ∧ t.boot.heartbeatLate = false ∧
      (s.boot.heartbeatAt = none → s.boot.uplandRestarting = true →
        t.boot.uplandRestarting = false ∧ Raised Ev.uplandRestarted 0 s t) ∧
      ∀ kind slot, s.up.ctl.trial = some (kind, slot) → s.up.trialRuns = true → s.up.windowEnds = none →
        t.up.windowEnds = some (t.now + 1000000000 * s.up.windowLength) ∧ Raised Ev.updateTrialStarted kind s t := by
  let w := s.tick dt
  have next : execGateHeartbeat dt s = .next w.heartbeat.gateOk := gateCall_next gated.1 gated.2
  have runs : w.boot.uplandRuns = true := gated.2
  obtain ⟨beat, late, restarted, raises, only⟩ := w.beat_beats
  have restarted : s.boot.heartbeatAt = none → s.boot.uplandRestarting = true →
    w.beat.boot.uplandRestarting = false ∧ Raised Ev.uplandRestarted 0 s w.beat := restarted
  have raises : Raises [Ev.uplandRestarted] s w.beat := raises.seq (.of_objs rfl)
  obtain ⟨ends, trials, length⟩ := only.window
  have ctl : w.beat.up.ctl = s.up.ctl := only.updating.2.2.2.1
  cases trial : s.up.ctl.trial with
  | none =>
    have plain := State.heartbeat_plain runs ((congrArg BootControl.trial ctl).trans trial)
    rw [plain] at next
    exact ⟨_, next, State.gateOk_answers .., beat, late, restarted, fun _ _ e => nomatch e⟩
  | some p =>
    obtain ⟨kind, slot⟩ := p
    have windowed := State.heartbeat_trial runs ((congrArg BootControl.trial ctl).trans trial)
    rw [ends, trials] at windowed
    by_cases begins : (w.up.trialRuns && w.up.windowEnds.isNone) = true
    · rw [if_pos begins] at windowed
      rw [windowed] at next
      let v := { w.beat with up := { w.beat.up with windowEnds := some (w.beat.now + 1000000000 * w.beat.up.windowLength) } }
      have raise := v.raise_only Ev.updateTrialStarted kind
      have boot : (w.beat.beginTrial kind).boot = w.beat.boot := raise.same .boot
      have now : (w.beat.beginTrial kind).now = w.beat.now := raise.same .now
      have windowIs : (w.beat.beginTrial kind).up.windowEnds = some (w.beat.now + 1000000000 * w.beat.up.windowLength) :=
        raise.window.1
      have began : Raised Ev.updateTrialStarted kind s (w.beat.beginTrial kind) :=
        (State.raise_raised ..).before (l := [Ev.uplandRestarted]) (raises.upd rfl)
      have after : Raises [Ev.updateTrialStarted] w.beat (w.beat.beginTrial kind) := (State.raise_raises ..).seq (.of_objs rfl)
      refine ⟨(w.beat.beginTrial kind).gateOk, next, State.gateOk_answers .., ?_, ?_, fun silent restarting => ?_,
        fun kind' slot' same _ _ => ?_⟩
      · exact (congrArg Boot.heartbeatAt boot).trans (beat.trans (congrArg some now.symm))
      · exact (congrArg Boot.heartbeatLate boot).trans late
      · obtain ⟨over_, raised⟩ := restarted silent restarting
        have still : Raised Ev.uplandRestarted 0 s (w.beat.beginTrial kind) := raised.after after raise.ptp
        exact ⟨(congrArg Boot.uplandRestarting boot).trans over_, still⟩
      · cases same
        refine ⟨?_, began⟩
        rw [length, ← now] at windowIs
        exact windowIs
    · rw [if_neg begins] at windowed
      rw [windowed] at next
      refine ⟨_, next, State.gateOk_answers .., beat, late, restarted, fun _ _ _ runs free => absurd ?_ begins⟩
      exact Bool.and_eq_true_iff.mpr ⟨runs, (congrArg Option.isNone free :)⟩

/-- A restart that an Owner session asks for (R524). -/
theorem gateRestart_restarts {session : Nat} {x : Session} (kind : Nat) (gated : s.gated) (open_ : s.session session = some x) :
    Completes (.gateRestart dt session kind) s fun t =>
      if x.role ≠ 3 then Out.gate 3 Code.roleTooLow 0 ∈ t.out
      else if kind = 1 then s.anyPending = false → t.boot.stage = .rom ∧ t.boot.cause = 2 ∧ t.boot.soft = true
      else if kind = 2 then t.boot.stage = .rom ∧ t.boot.cause = 3 ∧ t.il.sessions = []
      else Out.gate 3 Code.range 0 ∈ t.out := by
  let w := s.tick dt
  let f (u : State) : State := if kind = 1 then u.requestSoft none else if kind = 2 then u.requestHard none else u.gateNo Code.range
  have next : execGateRestart dt session kind s = .next (w.withOwner session f) := gateCall_next gated.1 gated.2
  have open_ : w.session session = some x := open_
  by_cases owner : x.role = 3
  · rw [State.withOwner_owner open_ owner] at next
    refine ⟨f w, next, ?_⟩
    beta_reduce
    rw [if_neg (show ¬ x.role ≠ 3 from not_not_intro owner)]
    by_cases soft : kind = 1
    · rw [if_pos soft, show f w = w.requestSoft none from if_pos soft]
      intro free
      let v := { w with boot := { w.boot with softWait := true, softReplies := w.boot.softReplies ++ [] } }
      have pending : ¬ v.anyPending = true := fun h => Bool.false_ne_true (free.symm.trans h)
      have proceeds : w.requestSoft none = v.proceedSoft := if_neg pending
      rw [proceeds]
      exact ⟨rfl, rfl, rfl⟩
    · rw [if_neg soft, show f w = if kind = 2 then w.requestHard none else w.gateNo Code.range from if_neg soft]
      by_cases hard : kind = 2
      · rw [if_pos hard, if_pos hard]
        exact ⟨rfl, rfl, rfl⟩
      · rw [if_neg hard, if_neg hard]
        exact State.gateNo_answers ..
  · rw [State.withOwner_other open_ owner] at next
    refine ⟨w.gateNo Code.roleTooLow, next, ?_⟩
    beta_reduce
    rw [if_pos (show x.role ≠ 3 from owner)]
    exact State.gateNo_answers ..

/-! ## Sessions over the gate (R454 to R460, R523) -/

theorem gateAuthHello_answers (m : Msg) (h : Hello) {buf : Buf} (gated : s.gated) (ok : bufOk buf = true) :
    Completes (.gateAuthHello dt m h buf) s fun t =>
      match (s.tick dt).helloRefusal m h with
      | some (st, retry) => Out.gate 3 st retry ∈ t.out
      | none => (∃ n, Out.gate 0 n 0 ∈ t.out) ∧
          ∃ c ∈ t.il.challenges, c.nc = h.nc ∧ c.role = h.role ∧ c.addr = m.addr ∧ c.openedAt = t.now := by
  refine ⟨_, (gateCall_next gated.1 gated.2 : execGateAuthHello dt m h buf s = _), ?_⟩
  rw [State.withBuf_ok ok]
  cases refusal : (s.tick dt).helloRefusal m h with
  | some p =>
    rw [State.hello_refuses refusal]
    exact State.gateNo_answers ..
  | none =>
    rw [State.hello_opens refusal]
    let c := ((s.tick dt).openChallenge m h).1
    let u := ((s.tick dt).openChallenge m h).2
    let body := c.nc ++ c.nd ++ Config.uniqueId ++ beBytes 2 c.handle ++ zeros 2
    have challenges : (u.putBuf buf body).il.challenges = u.il.challenges := (u.putBuf_only buf body).same .challenges
    have now : (u.putBuf buf body).now = u.now := (u.putBuf_only buf body).same .now
    refine ⟨⟨_, State.gateOk_answers ..⟩, c, ?_, rfl, rfl, rfl, now.symm⟩
    change c ∈ (u.putBuf buf body).il.challenges
    rw [challenges]
    exact List.mem_append_right _ (List.mem_singleton_self _)

theorem gateAuthProof_answers {m : Msg} {handle : Nat} (proof : List Byte) {buf : Buf} {c : Challenge} {key : List Byte}
    (gated : s.gated) (ok : bufOk buf = true) (challenge : (s.tick dt).challengeOf m handle = some c)
    (keyed : s.keyFor c.role = some key) :
    Completes (.gateAuthProof dt m handle proof buf) s fun t =>
      if proof ≠ Config.hmac key (c.nd ++ c.nc ++ Config.uniqueId) then
        Out.gate 3 Code.authFailed 0 ∈ t.out ∧ Counted Obj.authFailures 0 1 s t ∧ Raised Ev.authFailure c.role s t
      else s.il.sessions.length < s.sessionMost →
        Out.gate 0 s.freeSession 0 ∈ t.out ∧ Raised Ev.sessionOpened s.freeSession s t ∧
          ∃ y, t.session s.freeSession = some y ∧ y.role = c.role := by
  have call : execGateAuthProof dt m handle proof buf s = _ := gateCall_next gated.1 gated.2
  rw [State.withBuf_ok ok] at call
  by_cases wrong : proof ≠ Config.hmac key (c.nd ++ c.nc ++ Config.uniqueId)
  · rw [State.proof_wrong challenge keyed wrong] at call
    obtain ⟨-, counted, raised⟩ := ((s.tick dt).proved handle).countFailure_fails m.addr c.role
    refine ⟨_, call, ?_⟩
    beta_reduce
    rw [if_pos wrong]
    exact ⟨State.gateNo_answers .., counted, raised⟩
  · by_cases room : s.il.sessions.length < s.sessionMost
    · let v := ((s.tick dt).proved handle).setLockouts (((s.tick dt).proved handle).otherLockouts m.addr)
      obtain ⟨raised, ⟨x, opened, role, -⟩, flags, welcome⟩ := v.openSession_opens c key
      have right : (s.tick dt).proof m handle proof = (.welcome s.freeSession c.role flags
          (Config.hmac key (c.nc ++ c.nd ++ Config.uniqueId)), (v.openSession c key).2) := by
        rw [not_not.mp wrong, State.proof_right challenge keyed room]
        exact Prod.ext welcome rfl
      rw [right] at call
      let body := beBytes 2 s.freeSession ++ beBytes 1 c.role ++ beBytes 1 flags ++ beBytes 2 60 ++ zeros 2 ++
        Config.hmac key (c.nc ++ c.nd ++ Config.uniqueId)
      have only := (v.openSession c key).2.putBuf_only buf body
      have raised : Raised Ev.sessionOpened s.freeSession s (v.openSession c key).2 := raised
      have told : Raised Ev.sessionOpened s.freeSession s ((v.openSession c key).2.putBuf buf body) :=
        raised.after (l := []) (.of_only only) only.ptp
      refine ⟨_, call, ?_⟩
      beta_reduce
      rw [if_neg wrong]
      exact fun _ => ⟨State.gateOk_answers .., told, x, (only.session s.freeSession).trans opened, role⟩
    · refine ⟨_, call, ?_⟩
      beta_reduce
      rw [if_neg wrong]
      exact fun h => absurd h room

theorem gateMsgOpen_answers {m : Msg} {buf : Buf} {x : Session} (gated : s.gated) (ok : bufOk buf = true)
    (open_ : s.session m.session = some x) :
    Completes (.gateMsgOpen dt m buf) s fun t =>
      if m.tagOk = false then Out.gate 3 Obj.dropTag 0 ∈ t.out
      else if m.seq = 0 ∨ m.seq + 63 < x.high then Out.gate 3 Obj.dropSequence 0 ∈ t.out
      else Out.gate 0 0 0 ∈ t.out ∧ t.session m.session = some ((x.heard t.now t.ptp).number m.seq) := by
  have open_ : (s.tick dt).session m.session = some x := open_
  have call : execGateMsgOpen dt m buf s = _ := gateCall_next gated.1 gated.2
  rw [State.withBuf_ok ok, State.withSession_some open_] at call
  by_cases tag : m.tagOk = false
  · rw [if_pos (by rw [tag]; rfl)] at call
    refine ⟨_, call, ?_⟩
    beta_reduce
    rw [if_pos tag]
    exact State.gateNo_answers ..
  · rw [if_neg (by simpa using tag)] at call
    by_cases old : m.seq = 0 ∨ m.seq + 63 < x.high
    · rw [if_pos (by simpa using old)] at call
      refine ⟨_, call, ?_⟩
      beta_reduce
      rw [if_neg tag, if_pos old]
      exact State.gateNo_answers ..
    · rw [if_neg (by simpa using old)] at call
      let u := (s.tick dt).setSession m.session ((x.heard (s.tick dt).now (s.tick dt).ptp).number m.seq)
      have only := u.openBody_only x m.seq buf
      have now : (u.openBody x m.seq buf).now = u.now := only.same .now
      refine ⟨(u.openBody x m.seq buf).gateOk, call, ?_⟩
      beta_reduce
      rw [if_neg tag, if_neg old]
      refine ⟨State.gateOk_answers .., ?_⟩
      change (u.openBody x m.seq buf).session m.session = some ((x.heard (u.openBody x m.seq buf).now (u.openBody x m.seq buf).ptp).number m.seq)
      rw [only.session m.session, now, only.ptp]
      exact State.session_setSession ..

theorem gateMsgSeal_answers {session : Nat} {buf : Buf} {x : Session} (gated : s.gated) (ok : bufOk buf = true)
    (open_ : s.session session = some x) :
    Completes (.gateMsgSeal dt session buf) s fun t =>
      if buf.len < 44 then Out.gate 3 Code.malformed 0 ∈ t.out
      else Out.gate 0 0 0 ∈ t.out ∧ t.session session = some { x with devSeq := x.devSeq + 1 } := by
  have open_ : (s.tick dt).session session = some x := open_
  have call : execGateMsgSeal dt session buf s = _ := gateCall_next gated.1 gated.2
  rw [State.withBuf_ok ok, State.withSession_some open_] at call
  by_cases short : buf.len < 44
  · rw [if_pos short] at call
    refine ⟨_, call, ?_⟩
    beta_reduce
    rw [if_pos short]
    exact State.gateNo_answers ..
  · rw [if_neg short] at call
    refine ⟨_, call, ?_⟩
    beta_reduce
    rw [if_neg short]
    exact ⟨State.gateOk_answers .., State.session_setSession ..⟩

theorem gateSessionEnd_ends {session : Nat} (reason : Nat) {x : Session} (gated : s.gated) (open_ : s.session session = some x) :
    Completes (.gateSessionEnd dt session reason) s fun t =>
      Out.gate 0 0 0 ∈ t.out ∧ t.session session = none ∧ Raised Ev.sessionClosed session s t := by
  have open_ : (s.tick dt).session session = some x := open_
  have next : execGateSessionEnd dt session reason s = .next ((s.tick dt).endSession session none).gateOk :=
    (gateCall_next gated.1 gated.2).trans (congrArg Host.Outcome.next (State.withSession_some open_ _))
  have closed := State.endSession_raised (s := s.tick dt) open_ none
  have raised : Raised Ev.sessionClosed session s ((s.tick dt).endSession session none) := closed
  exact ⟨((s.tick dt).endSession session none).gateOk, next, State.gateOk_answers .., State.endSession_session (s.tick dt) session none, raised⟩

end

end Sys2Proof.Machine

end

section

/-! PROOFS. Salvos, objects and tickets over the service gate (R523, R524), and refused buffers (R522): O57. -/

namespace Sys2Proof.Machine

set_option Elab.async false

section
variable {s : State} {dt : Nat}

/-- An answer for a ticket goes into its buffer, and the ticket is done (R524). -/
theorem State.reply_ticket {k : Nat} {z : Ticket} (type status detail : Nat) (b : Body)
    (found : (s.gate.tickets.find? fun x => x.number == k) = some z) : s.reply (.ticket k) type status detail b =
      (s.putBuf z.buf (responseBytes 0 status detail b)).completeTicket k (if status = 0 then 0 else 3) (beBytes 2 status) := by
  unfold State.reply
  dsimp only
  rw [found]
  rfl

/-- A ticket that is given stands until it is done. -/
theorem State.newTicket_found (s : State) (buf : Buf) : ∃ z,
    ((s.newTicket buf).2.gate.tickets.find? fun x => x.number == s.gate.nextTicket) = some z := by
  refine Option.isSome_iff_exists.mp (List.find?_isSome.mpr ⟨⟨s.gate.nextTicket, buf, false, 0, []⟩, ?_, beq_self_eq_true _⟩)
  exact List.mem_append_right _ (List.mem_singleton_self _)

/-- The salvo that an OPEN over the gate begins. -/
def gateSalvo (session role : Nat) : Salvo := { ({} : Salvo) with state := .staged, owner := session, role := role }

/-- The operation of an OPEN over the gate. -/
def gateOpen (session high ticket : Nat) : EngineOp := ⟨session, high + 1, .ticket ticket, .open_⟩

theorem State.toEngine_open {u : State} {session high ticket k : Nat} {x : Session} (open_ : u.session session = some x)
    (role : 1 ≤ x.role) (active : u.standby = false) (choice : u.openChoice = some k) :
    u.toEngine (gateOpen session high ticket) =
      (u.setSalvo k (gateSalvo session x.role)).replySalvo (gateOpen session high ticket) k 0 0 0xFFFF 0 := by
  have now : u.mustQueue (gateOpen session high ticket) = false := Bool.and_false _
  have roleIs : u.roleFor (gateOpen session high ticket) = x.role := by
    rw [State.roleFor, show u.session (gateOpen session high ticket).session = some x from open_]
    rfl
  have free : u.salvoRefusal (gateOpen session high ticket) (u.roleFor (gateOpen session high ticket)) = none := by
    rw [roleIs]
    exact State.salvoRefusal_none active rfl (fun _ _ _ e => nomatch e) (decide_eq_true role)
  rw [State.toEngine, now, if_neg Bool.false_ne_true, State.runOp_builds free rfl, roleIs]
  unfold State.editSalvo
  dsimp only [gateOpen]
  rw [choice]
  rfl

theorem gateCeSubmit_opens {session k : Nat} {buf : Buf} {x : Session} (gated : s.gated) (ok : bufOk buf = true)
    (open_ : s.session session = some x) (role : 1 ≤ x.role) (active : s.standby = false) (choice : s.openChoice = some k) :
    Completes (.gateCeSubmit dt session .salvoOpen buf) s fun t =>
      Out.gate 0 s.gate.nextTicket 0 ∈ t.out ∧ (t.salvo k).state = .staged ∧ (t.salvo k).owner = session ∧
        ∃ y ∈ t.gate.tickets, y.number = s.gate.nextTicket ∧ y.done = true ∧ y.status = 0 := by
  let n := s.gate.nextTicket
  let u := ((s.tick dt).newTicket buf).2.gateOk n
  let v := u.setSalvo k (gateSalvo session x.role)
  have open_ : (s.tick dt).session session = some x := open_
  have call : execGateCeSubmit dt session .salvoOpen buf s = .next (u.toEngine (gateOpen session x.high n)) :=
    (gateCall_next gated.1 gated.2).trans (congrArg Host.Outcome.next
      ((State.withBuf_ok ok _).trans (State.withSession_some open_ _)))
  obtain ⟨z, found⟩ := (s.tick dt).newTicket_found buf
  have found : (v.gate.tickets.find? fun x => x.number == n) = some z := found
  have answer : u.toEngine (gateOpen session x.high n) =
      (v.putBuf z.buf (responseBytes 0 0 0 (.salvo k 1 0 0xFFFF 0))).completeTicket n 0 (beBytes 2 0) := by
    rw [State.toEngine_open (u := u) open_ role active choice]
    have code : (v.salvo k).state.code = 1 ∧ (v.salvo k).changes.length = 0 := by
      rw [State.salvo_setSalvo]
      exact ⟨rfl, rfl⟩
    change v.reply (.ticket n) 0x30 0 0 (.salvo k (v.salvo k).state.code (v.salvo k).changes.length 0xFFFF (0 / tcNs)) = _
    rw [code.1, code.2, Nat.zero_div, State.reply_ticket _ _ _ _ found, if_pos rfl]
  rw [answer] at call
  have only := v.putBuf_only z.buf (responseBytes 0 0 0 (.salvo k 1 0 0xFFFF 0))
  have out : (v.putBuf z.buf (responseBytes 0 0 0 (.salvo k 1 0 0xFFFF 0))).out = v.out := only.same .out
  have gate : (v.putBuf z.buf (responseBytes 0 0 0 (.salvo k 1 0 0xFFFF 0))).gate = v.gate := only.same .gate
  have salvo : (v.putBuf z.buf (responseBytes 0 0 0 (.salvo k 1 0 0xFFFF 0))).salvo k = gateSalvo session x.role :=
    (only.salvo k).trans (State.salvo_setSalvo ..)
  refine ⟨_, call, ?_, ?_, ?_, ⟨n, buf, true, 0, beBytes 2 0⟩, ?_, rfl, rfl, rfl⟩
  · change Out.gate 0 n 0 ∈ (v.putBuf z.buf (responseBytes 0 0 0 (.salvo k 1 0 0xFFFF 0))).out
    rw [out]
    exact State.gateOk_answers ..
  · exact congrArg Salvo.state salvo
  · exact congrArg Salvo.owner salvo
  · refine List.mem_map.mpr ⟨⟨n, buf, false, 0, []⟩, ?_, if_pos rfl⟩
    rw [gate]
    exact List.mem_append_right _ (List.mem_singleton_self _)

theorem gateCeRead_reads {index sub : Nat} {buf : Buf} {b : List Byte} {v : State} (gated : s.gated) (ok : bufOk buf = true)
    (object : datapathObject index = true) (read : (s.tick dt).readItem none 3 index sub = .inr (b, v)) :
    Completes (.gateCeRead dt index sub buf) s fun t =>
      Out.gate 0 b.length 0 ∈ t.out ∧ ∀ i, i < min b.length buf.len → t.memByte (buf.addr + i) = b.getD i 0 := by
  have call : execGateCeRead dt index sub buf s = _ := gateCall_next gated.1 gated.2
  rw [State.withBuf_ok ok, if_neg (by rw [object]; decide), read] at call
  exact ⟨_, call, State.gateOk_answers .., fun i inside => v.memByte_putBuf inside⟩

theorem gateDone_tells {ticket : Nat} {x : Ticket} (gated : s.gated)
    (found : (s.gate.tickets.find? fun x => x.number == ticket && x.done) = some x) :
    Completes (.gateDone dt ticket) s fun t =>
      Out.interrupt 7 ∈ t.out ∧ (∃ r, t.gate.ring = s.gate.ring ++ [r]) ∧ ∀ y ∈ t.gate.tickets, y.number ≠ ticket := by
  have found : ((s.tick dt).gate.tickets.find? fun x => x.number == ticket && x.done) = some x := found
  have call : execGateDone dt ticket s = _ := actIf_next gated.1 gated.2
  rw [found] at call
  exact ⟨_, call, State.mem_emit .., ⟨_, rfl⟩, fun y hy => bne_iff_ne.mp (List.mem_filter.mp hy).2⟩

/-- A buffer outside Upland SRAM is refused, and memory stays (R522). -/
theorem gate_refuses_buffer {f : State → State} {c : Instr} {buf : Buf} (gated : s.gated) (bad : bufOk buf = false)
    (call : exec c s = gateCall dt s fun t => t.withBuf buf f) :
    Completes c s fun t => Out.gate 2 0 0 ∈ t.out ∧ t.mem = s.mem :=
  ⟨_, call.trans (gateCall_next gated.1 gated.2), (s.tick dt).withBuf_bad bad f⟩

end

/-- Settles O57, call by call, on an accepted buffer (`State.withBuf_ok`) and an open session (`State.withSession_some`). -/
theorem gateAnswers : Obligations.GateAnswers := by
  refine ⟨fun s dt gated => ⟨⟨_, gateCall_next gated.1 gated.2, State.gateOk_answers ..⟩,
      ⟨_, gateCall_next gated.1 gated.2, State.gateOk_answers ..⟩, gateHeartbeat_beats gated⟩,
    fun s dt session x kind => gateRestart_restarts kind, fun s dt m h buf => gateAuthHello_answers m h,
    fun s dt m handle proof buf c key => gateAuthProof_answers proof, fun s dt m buf x => gateMsgOpen_answers,
    fun s dt session buf x => gateMsgSeal_answers, fun s dt session reason x => gateSessionEnd_ends reason,
    fun s dt session buf x k => gateCeSubmit_opens, fun s dt index sub buf b v => gateCeRead_reads,
    fun s dt ticket x => gateDone_tells, fun s dt buf index sub gated bad =>
      ⟨gate_refuses_buffer gated bad rfl, gate_refuses_buffer gated bad rfl, gate_refuses_buffer gated bad rfl⟩⟩

end Sys2Proof.Machine

end

section

/-! PROOFS. What the service gate writes (R486, R491, R492, R497, R498, R523, R525, R526, R528, R585, R586, R591, R592): O58. A write
over the gate is decided as one of its session; only its answer goes to Upland. -/

namespace Sys2Proof.Machine

set_option Elab.async false

section
variable {s : State} {dt : Nat}

/-! ## A session's write over the gate -/

/-- A write that passes R464 and acts on the device itself. -/
theorem State.gateWrite_own {n a : Nat} {value : List Byte} {x : Session} {v : Val} {w : Wrote} (open_ : s.session n = some x)
    (dict : s.dictCheck x.role a value = .inr v) (stands : s.standCheck a v = none) (own : s.ownWrite n a v = some w) :
    s.gateWrite n a value =
      if w.status = 0 then (w.state.followWrite w.after none).gateOk else w.state.gateNo w.status := by
  have decided : s.writeItem n x.role a value = w := by
    unfold State.writeItem
    rw [dict]
    dsimp only
    rw [stands]
    dsimp only
    rw [own]
  unfold State.gateWrite
  rw [State.withSession_some open_]
  dsimp only
  rw [decided]

theorem State.gateWrite_accepted {n a : Nat} {value : List Byte} {x : Session} {v : Val} {w : Wrote} (open_ : s.session n = some x)
    (dict : s.dictCheck x.role a value = .inr v) (stands : s.standCheck a v = none) (own : s.ownWrite n a v = some w)
    (accepted : w.status = 0) : s.gateWrite n a value = (w.state.followWrite w.after none).gateOk :=
  (State.gateWrite_own open_ dict stands own).trans (if_pos accepted)

theorem State.gateWrite_refused {n a : Nat} {value : List Byte} {x : Session} {v : Val} {w : Wrote} (open_ : s.session n = some x)
    (dict : s.dictCheck x.role a value = .inr v) (stands : s.standCheck a v = none) (own : s.ownWrite n a v = some w)
    (refused : w.status ≠ 0) : s.gateWrite n a value = w.state.gateNo w.status :=
  (State.gateWrite_own open_ dict stands own).trans (if_neg refused)

/-- One that nothing follows. -/
theorem State.gateWrite_plain {n a : Nat} {value : List Byte} {x : Session} {v : Val} {u : State} (open_ : s.session n = some x)
    (dict : s.dictCheck x.role a value = .inr v) (stands : s.standCheck a v = none) (own : s.ownWrite n a v = some u.wrote) :
    s.gateWrite n a value = u.gateOk :=
  State.gateWrite_accepted open_ dict stands own rfl

/-! ## Keys and fuses (R486, R491, R492) -/

theorem State.refreshProvision_raises (s : State) : Raises [Ev.healthChange] s s.refreshProvision := s.setReason_raises 9 s.unprovisioned

theorem State.writeKey_raised (s : State) (role : Nat) (key : List Byte) : Raised Ev.roleKeyChanged role s (s.writeKey role key) := by
  unfold State.writeKey
  extract_lets y t
  have before : Raises [] s (t.setN Obj.roleKeyChangedAt role t.ptp) := .still (State.setN_only ..) (.of_objs rfl)
  let w := (t.setN Obj.roleKeyChangedAt role t.ptp).raise Ev.roleKeyChanged role
  have raised : Raised Ev.roleKeyChanged role s w := (State.raise_raised ..).before before
  exact raised.after w.refreshProvision_raises w.refreshProvision_only.ptp

theorem gateKeyWrite_writes {session role : Nat} {key : List Byte} {buf : Buf} {x : Session} {v : Val} (gated : s.gated)
    (ok : bufOk buf = true) (open_ : s.session session = some x) (owner : x.role = 3) (small : role < 65536)
    (dict : (s.tick dt).dictCheck 3 (adr Obj.roleKey role) key = .inr v)
    (stands : (s.tick dt).standCheck (adr Obj.roleKey role) v = none) :
    Completes (.gateKeyWrite dt session role key buf) s fun t =>
      Out.gate 0 0 0 ∈ t.out ∧ t.il.roleKeys = keysAfter s.il.roleKeys role (Val.toBytes v) ∧ Raised Ev.roleKeyChanged role s t ∧
        ∀ n y, t.session n = some y → y.role ≠ role := by
  have open_ : (s.tick dt).session session = some x := open_
  let w := (s.tick dt).writeKey role (Val.toBytes v)
  have own : (s.tick dt).ownWrite session (adr Obj.roleKey role) v = some (w.wrote (.endRole role)) := by
    unfold State.ownWrite
    rw [adrIndex_adr, adrSub_adr small]
    rfl
  have call : execGateKeyWrite dt session role key buf s = _ := gateCall_next gated.1 gated.2
  rw [State.withBuf_ok ok, State.withOwner_owner open_ owner,
    State.gateWrite_accepted open_ (by rw [owner]; exact dict) stands own rfl] at call
  have ended := w.endRole_only role 3
  refine ⟨(w.endRole role 3).gateOk, call, State.gateOk_answers .., ?_, ?_, fun n y found => ?_⟩
  · exact (ended.same .roleKeys).trans ((s.tick dt).writeKey_writes role (Val.toBytes v)).1
  · have raised : Raised Ev.roleKeyChanged role s w := (s.tick dt).writeKey_raised role (Val.toBytes v)
    have told : Raised Ev.roleKeyChanged role s (w.endRole role 3) := raised.after (w.endRole_raises role 3) ended.ptp
    exact told
  · exact w.endRole_none role 3 (n, y) (mem_of_lookup found)

theorem gateOwnerLock_locks {session : Nat} {lock : Bool} {x : Session} (gated : s.gated) (open_ : s.session session = some x)
    (owner : x.role = 3) (dict : (s.tick dt).dictCheck 3 (adr Obj.ownerLock 0) (beBytes 1 (b2n lock)) = .inr (.num (b2n lock)))
    (stands : (s.tick dt).standCheck (adr Obj.ownerLock 0) (.num (b2n lock)) = none) :
    Completes (.gateOwnerLock dt session lock) s fun t => Out.gate 0 0 0 ∈ t.out ∧ t.b Obj.ownerLock 0 = lock := by
  have open_ : (s.tick dt).session session = some x := open_
  have own : (s.tick dt).ownWrite session (adr Obj.ownerLock 0) (.num (b2n lock)) = some ((s.tick dt).writeLock lock).wrote := by
    cases lock <;> rfl
  have call : execGateOwnerLock dt session lock s = _ := gateCall_next gated.1 gated.2
  rw [State.withOwner_owner open_ owner, State.gateWrite_plain open_ (by rw [owner]; exact dict) stands own] at call
  refine ⟨_, call, State.gateOk_answers .., ?_⟩
  change ((s.tick dt).writeLock lock).b Obj.ownerLock 0 = lock
  by_cases other : (s.tick dt).b Obj.ownerLock 0 = lock
  · rw [State.writeLock, if_pos (by rw [other]; exact beq_self_eq_true lock)]
    exact other
  · exact (State.writeLock_writes _ other).1

theorem gateOtpProgram_burns {session k : Nat} {hash : List Byte} {buf : Buf} {x : Session} {v : Val} (gated : s.gated)
    (ok : bufOk buf = true) (open_ : s.session session = some x) (owner : x.role = 3)
    (dict : (s.tick dt).dictCheck 3 (adr Obj.ownerKeyProgram 0) hash = .inr v)
    (stands : (s.tick dt).standCheck (adr Obj.ownerKeyProgram 0) v = none) (empty : s.emptySlot = some k) :
    Completes (.gateOtpProgram dt session hash buf) s fun t =>
      Out.gate 0 0 0 ∈ t.out ∧ look t.up.ownerHashes k [] = Val.toBytes v ∧ look t.up.ownerStates k 0 = 1 ∧
        Raised Ev.ownerKeyChange k s t := by
  have open_ : (s.tick dt).session session = some x := open_
  let u := s.tick dt
  let burned : State := { u with up := { u.up with
    ownerHashes := put u.up.ownerHashes k (Val.toBytes v)
    ownerStates := put u.up.ownerStates k 1 } }
  have burns : u.programKey (Val.toBytes v) = burned.raise Ev.ownerKeyChange k := by
    have empty : u.emptySlot = some k := empty
    rw [State.programKey, empty]
  have own : u.ownWrite session (adr Obj.ownerKeyProgram 0) v = some (burned.raise Ev.ownerKeyChange k).wrote := by
    rw [← burns]
    rfl
  have call : execGateOtpProgram dt session hash buf s = _ := gateCall_next gated.1 gated.2
  rw [State.withBuf_ok ok, State.withOwner_owner open_ owner, State.gateWrite_plain open_ (by rw [owner]; exact dict) stands own] at call
  obtain ⟨hashes, states⟩ := (burned.raise_only Ev.ownerKeyChange k).owners
  have raised : Raised Ev.ownerKeyChange k s (burned.raise Ev.ownerKeyChange k) := (State.raise_raised ..).before (l := []) (.of_objs rfl)
  refine ⟨_, call, State.gateOk_answers .., ?_, ?_, raised⟩
  · exact (congrArg (look · k []) hashes).trans (look_put_self ..)
  · exact (congrArg (look · k 0) states).trans (look_put_self ..)

theorem gateOtpRevoke_revokes {session slot : Nat} {x : Session} (gated : s.gated) (open_ : s.session session = some x)
    (owner : x.role = 3) (small : slot ≤ 255)
    (dict : (s.tick dt).dictCheck 3 (adr Obj.ownerKeyRevoke 0) (beBytes 1 slot) = .inr (.num slot))
    (stands : (s.tick dt).standCheck (adr Obj.ownerKeyRevoke 0) (.num slot) = none) :
    Completes (.gateOtpRevoke dt session slot) s fun t =>
      Out.gate 0 0 0 ∈ t.out ∧ look t.up.ownerStates slot 0 = 2 ∧ Raised Ev.ownerKeyChange slot s t := by
  have open_ : (s.tick dt).session session = some x := open_
  let u := s.tick dt
  let revoked : State := { u with up := { u.up with ownerStates := put u.up.ownerStates slot 2 } }
  have own : u.ownWrite session (adr Obj.ownerKeyRevoke 0) (.num slot) = some (revoked.raise Ev.ownerKeyChange slot).wrote := rfl
  have call : execGateOtpRevoke dt session slot s = _ := gateCall_next gated.1 gated.2
  rw [State.withOwner_owner open_ owner, if_neg (Nat.not_lt.mpr small),
    State.gateWrite_plain open_ (by rw [owner]; exact dict) stands own] at call
  have states := (revoked.raise_only Ev.ownerKeyChange slot).owners.2
  have raised : Raised Ev.ownerKeyChange slot s (revoked.raise Ev.ownerKeyChange slot) :=
    (State.raise_raised ..).before (l := []) (.of_objs rfl)
  exact ⟨_, call, State.gateOk_answers .., (congrArg (look · slot 0) states).trans (look_put_self ..), raised⟩

/-! ## Updates (R585, R586, R591, R592) -/

/-- A call of GATE_UPDATE that is a session's write. -/
theorem gateUpdate_writes (session : Nat) {op : UpdateOp} {buf : Buf} (gated : s.gated) (ok : bufOk buf = true)
    (plain : op ≠ .selfConfirm ∧ op ≠ .confirm) : execGateUpdate dt session op buf s =
      .next ((s.tick dt).gateWrite session (adr (updateWrite op).1 0) (updateWrite op).2) := by
  have call : execGateUpdate dt session op buf s = _ := gateCall_next gated.1 gated.2
  rw [call, State.withBuf_ok ok, if_neg plain.1, if_neg plain.2]

theorem State.updateBegin_kind {session kind : Nat} (free : s.updateChecks 0 = none) :
    (s.updateBegin session kind).2.up.kind = kind := by
  unfold State.updateBegin
  rw [free]
  rfl

theorem gateUpdate_begins {session kind : Nat} {buf : Buf} {x : Session} (gated : s.gated) (ok : bufOk buf = true)
    (open_ : s.session session = some x)
    (dict : (s.tick dt).dictCheck x.role (adr Obj.updateBegin 0) (beBytes 2 kind) = .inr (.num kind))
    (stands : (s.tick dt).standCheck (adr Obj.updateBegin 0) (.num kind) = none) (free : s.updateChecks 0 = none) :
    Completes (.gateUpdate dt session (.begin_ kind) buf) s fun t =>
      Out.gate 0 0 0 ∈ t.out ∧ t.n Obj.updateState 0 = 1 ∧ t.up.session = session ∧ t.up.kind = kind ∧
        ∀ a, slotBase kind (s.targetSlot kind) ≤ a → a < slotBase kind (s.targetSlot kind) + slotSize kind →
          t.flashByte a = 0xFF := by
  have open_ : (s.tick dt).session session = some x := open_
  have free : (s.tick dt).updateChecks 0 = none := free
  obtain ⟨good, state, -, -, owner, -, erased⟩ := State.updateBegin_begins (session := session) (kind := kind) free
  have named := State.updateBegin_kind (session := session) (kind := kind) free
  have wrote : Written.wrote ((s.tick dt).updateBegin session kind) .none = ((s.tick dt).updateBegin session kind).2.wrote :=
    if_pos good
  have own : (s.tick dt).ownWrite session (adr Obj.updateBegin 0) (.num kind) = some ((s.tick dt).updateBegin session kind).2.wrote :=
    congrArg some wrote
  have call := gateUpdate_writes (dt := dt) session (op := .begin_ kind) gated ok ⟨nofun, nofun⟩
  rw [show (s.tick dt).gateWrite session (adr (updateWrite (.begin_ kind)).1 0) (updateWrite (.begin_ kind)).2 = _ from
    State.gateWrite_plain open_ dict stands own] at call
  exact ⟨_, call, State.gateOk_answers .., state, owner, named, erased⟩

theorem gateUpdate_aborts {session : Nat} {buf : Buf} {x : Session} (gated : s.gated) (ok : bufOk buf = true)
    (open_ : s.session session = some x)
    (dict : (s.tick dt).dictCheck x.role (adr Obj.updateAbort 0) [1] = .inr (.num 1))
    (stands : (s.tick dt).standCheck (adr Obj.updateAbort 0) (.num 1) = none) :
    Completes (.gateUpdate dt session .abort buf) s fun t =>
      if s.n Obj.updateState 0 = 1 ∨ s.n Obj.updateState 0 = 3 then
        Out.gate 0 0 0 ∈ t.out ∧ t.n Obj.updateState 0 = 0 ∧ t.regN 0x40080014 = 0
      else Out.gate 3 0xD3 0 ∈ t.out ∧ t.n Obj.updateState 0 = s.n Obj.updateState 0 := by
  have open_ : (s.tick dt).session session = some x := open_
  let u := s.tick dt
  have call := gateUpdate_writes (dt := dt) session (op := .abort) gated ok ⟨nofun, nofun⟩
  have own : u.ownWrite session (adr Obj.updateAbort 0) (.num 1) = some (Written.wrote u.updateAbort .none) := rfl
  by_cases running : s.n Obj.updateState 0 = 1 ∨ s.n Obj.updateState 0 = 3
  · let v := (u.setWindow 0 0).setN Obj.updateState 0 0
    have aborts : u.updateAbort = v.updateOk := by
      have running : u.n Obj.updateState 0 = 1 ∨ u.n Obj.updateState 0 = 3 := running
      unfold State.updateAbort
      exact if_pos (by simpa using running)
    rw [aborts] at own
    rw [show u.gateWrite session (adr (updateWrite .abort).1 0) (updateWrite .abort).2 = _ from
      State.gateWrite_plain (u := v.updateOk.2) open_ dict stands own] at call
    have window : v.updateOk.2.regN 0x40080014 = 0 := (u.setRegN 0x40080010 0).regN_setRegN_self 0x40080014 0
    have state : v.updateOk.2.n Obj.updateState 0 = 0 := (v.updateOk_only.n Obj.updateState 0).trans (State.n_setN_self ..)
    refine ⟨_, call, ?_⟩
    beta_reduce
    rw [if_pos running]
    exact ⟨State.gateOk_answers .., state, window⟩
  · have refuses : u.updateAbort = u.updateNo 0xD3 := by
      have running : ¬ (u.n Obj.updateState 0 = 1 ∨ u.n Obj.updateState 0 = 3) := running
      unfold State.updateAbort
      exact if_neg (by simpa using running)
    rw [refuses] at own
    rw [show u.gateWrite session (adr (updateWrite .abort).1 0) (updateWrite .abort).2 = _ from
      State.gateWrite_refused (w := (u.updateNo 0xD3).2.refused 0xD3) open_ dict stands own (show 0xD3 ≠ 0 by decide)] at call
    refine ⟨_, call, ?_⟩
    beta_reduce
    rw [if_neg running]
    exact ⟨State.gateNo_answers .., u.n_setN_ne Obj.updateResult 0 0xD3 Obj.updateState 0 (by decide)⟩

/-- A trial Upland confirms its image. -/
theorem State.confirm_fuses {kind slot e : Nat} (trial : s.up.ctl.trial = some (kind, slot)) (window : s.up.windowEnds = some e)
    (within : s.now ≤ e) : s.confirm.up.ctl.prior = none ∧
      s.confirm.up.rollback = max s.up.rollback (s.imageSecurity (slotBase kind slot)) := by
  rw [State.confirm_eq trial window within]
  have raised := (((s.confirmed kind slot).setN Obj.storeHeldSlot 0 2).setN Obj.updateState 0 0).raise_only Ev.updateConfirmed kind
  exact ⟨(congrArg BootControl.prior raised.updating.2.2.2.1 :), raised.same .rollback⟩

theorem gateUpdate_confirms {session kind slot e : Nat} {buf : Buf} (gated : s.gated) (ok : bufOk buf = true)
    (trial : s.up.ctl.trial = some (kind, slot)) (window : s.up.windowEnds = some e) (within : s.now + dt ≤ e) :
    Completes (.gateUpdate dt session .confirm buf) s fun t =>
      Out.gate 0 0 0 ∈ t.out ∧ t.up.ctl.trial = none ∧ t.up.ctl.prior = none ∧ t.n Obj.updateState 0 = 0 ∧
        (kind = 1 → t.up.ctl.patchActive = slot) ∧ (kind = 2 → t.up.ctl.uplandActive = slot) ∧
        t.up.rollback = max s.up.rollback (s.imageSecurity (slotBase kind slot)) ∧ Raised Ev.updateConfirmed kind s t := by
  obtain ⟨over_, state, -, patch, upland, raised⟩ := State.confirm_confirms (s := s.tick dt) trial window within
  obtain ⟨prior, rollback⟩ := State.confirm_fuses (s := s.tick dt) trial window within
  have security : (s.tick dt).imageSecurity = s.imageSecurity := by
    have alike : ImagesAlike s (s.tick dt) := ⟨rfl, rfl⟩
    unfold State.imageSecurity
    rw [alike.imageN]
  rw [security] at rollback
  have raised : Raised Ev.updateConfirmed kind s (s.tick dt).confirm := raised
  have call : execGateUpdate dt session .confirm buf s = _ := gateCall_next gated.1 gated.2
  rw [State.withBuf_ok ok, if_neg nofun, if_pos rfl] at call
  exact ⟨_, call, State.gateOk_answers .., over_, prior, state, patch, upland, rollback, raised⟩

theorem State.selfConfirms_iff : s.selfConfirms = true ↔ s.boot.started = true ∧ s.n Obj.healthState 0 ≠ 2 ∧
    s.st.loaded.isSome = true ∧ ∃ p ∈ s.il.sessions, p.2.openNow + 10000000000 ≤ s.now := by
  simp only [State.selfConfirms, Bool.and_eq_true, bne_iff_ne, List.any_eq_true, decide_eq_true_eq, and_assoc, ne_eq]

/-- The shipped Upland confirms itself where R592's conditions hold. -/
theorem gateUpdate_selfConfirm {session : Nat} {buf : Buf} (gated : s.gated) (ok : bufOk buf = true) :
    execGateUpdate dt session .selfConfirm buf s =
      .next (if (s.tick dt).selfConfirms = true then (s.tick dt).confirm.gateOk else s.tick dt) := by
  have call : execGateUpdate dt session .selfConfirm buf s = _ := gateCall_next gated.1 gated.2
  rw [call, State.withBuf_ok ok, if_pos rfl]

theorem gateUpdate_selfConfirms {session kind slot e : Nat} {buf : Buf} (gated : s.gated) (ok : bufOk buf = true)
    (trial : s.up.ctl.trial = some (kind, slot)) (window : s.up.windowEnds = some e) (within : s.now + dt ≤ e)
    (started : s.boot.started = true) (healthy : s.n Obj.healthState 0 ≠ 2) (loaded : s.st.loaded.isSome = true)
    (stood : ∃ p ∈ s.il.sessions, p.2.openNow + 10000000000 ≤ s.now + dt) :
    Completes (.gateUpdate dt session .selfConfirm buf) s fun t =>
      Out.gate 0 0 0 ∈ t.out ∧ t.up.ctl.trial = none ∧ t.n Obj.updateState 0 = 0 ∧ Raised Ev.updateConfirmed kind s t := by
  have may : (s.tick dt).selfConfirms = true := State.selfConfirms_iff.mpr ⟨started, healthy, loaded, stood⟩
  obtain ⟨over_, state, -, -, -, raised⟩ := State.confirm_confirms (s := s.tick dt) trial window within
  have raised : Raised Ev.updateConfirmed kind s (s.tick dt).confirm := raised
  have call := gateUpdate_selfConfirm (dt := dt) (session := session) gated ok
  rw [if_pos may] at call
  exact ⟨_, call, State.gateOk_answers .., over_, state, raised⟩

theorem gateUpdate_waits {session : Nat} {buf : Buf} (gated : s.gated) (ok : bufOk buf = true)
    (lacks : s.boot.started = false ∨ s.n Obj.healthState 0 = 2 ∨ s.st.loaded = none ∨
      ∀ p ∈ s.il.sessions, s.now + dt < p.2.openNow + 10000000000) :
    Completes (.gateUpdate dt session .selfConfirm buf) s fun t => t = s.tick dt := by
  have may : ¬ (s.tick dt).selfConfirms = true := by
    rw [State.selfConfirms_iff]
    rintro ⟨started, healthy, loaded, p, member, stood⟩
    rcases lacks with off | ill | none_ | short
    · exact Bool.false_ne_true (off.symm.trans started)
    · exact healthy ill
    · exact Bool.false_ne_true ((congrArg Option.isSome none_).symm.trans loaded)
    · exact Nat.not_le.mpr (short p member) stood
  have call := gateUpdate_selfConfirm (dt := dt) (session := session) gated ok
  rw [if_neg may] at call
  exact ⟨_, call, rfl⟩

/-! ## The store (R497, R498, R526) -/

theorem gateStoreLoad_gives {buf : Buf} {b : List Byte} (gated : s.gated) (ok : bufOk buf = true)
    (hb : b = s.st.loaded.elim [] StoreSlot.bytes) :
    Completes (.gateStoreLoad dt buf) s fun t =>
      Out.gate 0 b.length 0 ∈ t.out ∧ ∀ i, i < min b.length buf.len → t.memByte (buf.addr + i) = b.getD i 0 := by
  have call : execGateStoreLoad dt buf s = .next (((s.tick dt).putBuf buf b).gateOk b.length) :=
    (gateCall_next gated.1 gated.2).trans (congrArg Host.Outcome.next ((State.withBuf_ok ok _).trans (by rw [hb]; rfl)))
  exact ⟨_, call, State.gateOk_answers .., fun i inside => (s.tick dt).memByte_putBuf inside⟩

theorem State.setSlot_gateTickets (s : State) (k : Nat) (x : Option StoreSlot) : (s.setSlot k x).st.gateTickets = s.st.gateTickets := by
  unfold State.setSlot
  split <;> rfl

/-- A ticket that a save will complete. -/
def State.ticketedSave (s : State) (buf : Buf) : State :=
  let v := (s.newTicket buf).2
  { v with st := { v.st with gateTickets := v.st.gateTickets ++ [s.gate.nextTicket] } }

theorem gateStoreSave_saves {buf : Buf} (gated : s.gated) (ok : bufOk buf = true) (unlocked : s.b Obj.ownerLock 0 = false) :
    Completes (.gateStoreSave dt buf) s fun t =>
      Out.gate 0 s.gate.nextTicket 0 ∈ t.out ∧
        (s.st.save = none → s.st.lastStart = none →
          ∃ x, t.st.save = some x ∧ s.gate.nextTicket ∈ x.tickets ∧ x.slot = s.saveSlot) := by
  have unlocked : (s.tick dt).b Obj.ownerLock 0 = false := unlocked
  let v := (s.tick dt).ticketedSave buf
  have call : execGateStoreSave dt buf s = .next (v.saveSoon.gateOk s.gate.nextTicket) := by
    refine (gateCall_next gated.1 gated.2).trans (congrArg Host.Outcome.next ((State.withBuf_ok ok _).trans (if_neg ?_)))
    rw [unlocked, Bool.false_and]
    exact Bool.false_ne_true
  refine ⟨_, call, State.gateOk_answers .., fun free first => ?_⟩
  have ready : (v.boot.uplandRuns && v.st.save.isNone && v.st.lastStart.elim true fun a => decide (a + 1000000000 ≤ v.now)) = true := by
    have runs : v.boot.uplandRuns = true := gated.2
    have free : v.st.save = none := free
    have first : v.st.lastStart = none := first
    rw [runs, free, first]
    rfl
  have saves : v.saveSoon = v.startSave := if_pos ready
  have told : s.gate.nextTicket ∈ v.st.gateTickets := List.mem_append_right _ (List.mem_singleton_self _)
  rw [saves]
  refine ⟨_, rfl, ?_, rfl⟩
  change s.gate.nextTicket ∈ (v.setSlot v.saveSlot none).st.gateTickets
  rw [State.setSlot_gateTickets]
  exact told

/-! ## The twin's block and cryptography (R523, R528) -/

theorem State.memBytes_congr {t : State} (mem : t.mem = s.mem) (a n : Nat) : t.memBytes a n = s.memBytes a n := by
  induction n generalizing a with
  | zero => rfl
  | succ n ih => rw [State.memBytes, ih, State.memByte, mem, State.memBytes, State.memByte]

theorem gateTwinPut_puts {buf : Buf} (gated : s.gated) (ok : bufOk buf = true) :
    Completes (.gateTwinPut dt buf) s fun t =>
      if 65536 < buf.len then Out.gate 3 Code.range 0 ∈ t.out ∧ t.tw = s.tw
      else Out.gate 0 0 0 ∈ t.out ∧ t.tw.block = s.memBytes buf.addr buf.len ∧ t.tw.blockNew = 1 := by
  have call : execGateTwinPut dt buf s = _ := gateCall_next gated.1 gated.2
  rw [State.withBuf_ok ok] at call
  have bytes := State.memBytes_congr (show (s.tick dt).mem = s.mem from rfl) buf.addr buf.len
  by_cases long : 65536 < buf.len
  · rw [if_pos long] at call
    refine ⟨_, call, ?_⟩
    beta_reduce
    rw [if_pos long]
    exact ⟨State.gateNo_answers .., rfl⟩
  · rw [if_neg long] at call
    refine ⟨_, call, ?_⟩
    beta_reduce
    rw [if_neg long]
    exact ⟨State.gateOk_answers .., bytes, rfl⟩

theorem gateTwinGet_takes {buf : Buf} {b : List Byte} (gated : s.gated) (ok : bufOk buf = true) (hb : b = s.tw.blocks.headD []) :
    Completes (.gateTwinGet dt buf) s fun t =>
      if s.standby = true then
        Out.gate 0 b.length s.tw.blocksLost ∈ t.out ∧ t.tw.blocks = s.tw.blocks.drop 1 ∧ t.tw.blocksLost = 0 ∧
          ∀ i, i < min b.length buf.len → t.memByte (buf.addr + i) = b.getD i 0
      else Out.gate 3 Code.access 0 ∈ t.out ∧ t.tw = s.tw := by
  let w := s.tick dt
  let v := { w with tw := { w.tw with
    blocks := w.tw.blocks.drop 1
    blocksLost := 0 } }
  have call : execGateTwinGet dt buf s = .next (if (!w.standby) = true then w.gateNo Code.access
      else (v.putBuf buf (s.tw.blocks.headD [])).gateOk (s.tw.blocks.headD []).length s.tw.blocksLost) :=
    (gateCall_next gated.1 gated.2).trans (congrArg Host.Outcome.next (State.withBuf_ok ok _))
  rw [← hb] at call
  by_cases standby : s.standby = true
  · have stands : ¬ (!w.standby) = true := by rw [show w.standby = true from standby]; decide
    rw [if_neg stands] at call
    have tw : (v.putBuf buf b).tw = v.tw := (v.putBuf_only buf b).same .tw
    refine ⟨_, call, ?_⟩
    beta_reduce
    rw [if_pos standby]
    exact ⟨State.gateOk_answers .., (congrArg Twin.blocks tw :), (congrArg Twin.blocksLost tw :), fun i inside => v.memByte_putBuf inside⟩
  · have active : (!w.standby) = true := by rw [show w.standby = false from Bool.eq_false_iff.mpr standby]; rfl
    rw [if_pos active] at call
    refine ⟨_, call, ?_⟩
    beta_reduce
    rw [if_neg standby]
    exact ⟨State.gateNo_answers .., rfl⟩

theorem gateCrypto_hashes {op : CryptoOp} {key : List Byte} {input output : Buf} {b : List Byte} (gated : s.gated)
    (ok : bufOk input = true) (ok' : bufOk output = true)
    (hb : op = .sha256 ∧ b = Config.sha256 (s.memBytes input.addr input.len) ∨
      op = .sha384 ∧ b = Config.sha384 (s.memBytes input.addr input.len) ∨
        op = .hmacSha256 ∧ b = Config.hmac key (s.memBytes input.addr input.len)) :
    Completes (.gateCrypto dt op key input output) s fun t =>
      Out.gate 0 0 0 ∈ t.out ∧ ∀ i, i < min b.length output.len → t.memByte (output.addr + i) = b.getD i 0 := by
  have call : execGateCrypto dt op key input output s = _ := gateCall_next gated.1 gated.2
  rw [State.withBuf_ok ok, State.withBuf_ok ok'] at call
  have result : execGateCrypto dt op key input output s = .next (((s.tick dt).putBuf output b).gateOk) := by
    have bytes : (s.tick dt).getBuf input = s.memBytes input.addr input.len :=
      State.memBytes_congr (s := s) (t := s.tick dt) rfl input.addr input.len
    rw [bytes] at call
    obtain ⟨rfl, rfl⟩ | ⟨rfl, rfl⟩ | ⟨rfl, rfl⟩ := hb
    · exact call
    · exact call
    · exact call
  exact ⟨_, result, State.gateOk_answers .., fun i inside => (s.tick dt).memByte_putBuf inside⟩

end

/-- Settles O58: a write over the gate is decided as `State.gateWrite_own` says, and what the store, the twin and the engine
give goes into the buffer (`State.memByte_putBuf`). -/
theorem gateWrites : Obligations.GateWrites := by
  refine ⟨fun s dt session role key buf x v => gateKeyWrite_writes, fun s dt session lock x => gateOwnerLock_locks,
    fun s dt session hash buf x v k => gateOtpProgram_burns, fun s dt session slot x => gateOtpRevoke_revokes,
    fun s dt session kind buf x => gateUpdate_begins, fun s dt session buf x => gateUpdate_aborts,
    fun s dt session buf kind slot e => gateUpdate_confirms, fun s dt session buf kind slot e => gateUpdate_selfConfirms,
    fun s dt session buf => gateUpdate_waits, fun s dt buf b => gateStoreLoad_gives, fun s dt buf => gateStoreSave_saves,
    fun s dt buf => gateTwinPut_puts, fun s dt buf b => gateTwinGet_takes,
    fun s dt op key input output b => gateCrypto_hashes⟩

end Sys2Proof.Machine

end

section

/-! SUPPORT. Registers of the control ports (R503 to R515): what the steps of a port leave of its registers and of its link. -/

namespace Sys2Proof.Machine

set_option Elab.async false

section
variable {s t : State} {p : Nat}

/-! ## Fields of a register -/

theorem State.regField_setRegField (s : State) (a lo hi v : Nat) (h : hi < 32 := by decide) :
    (s.setRegField a lo hi v).regField a lo hi = v % 2 ^ (hi + 1 - lo) := by
  unfold State.regField State.setRegField
  rw [State.regN_setRegN_self, field_congr fun k _ high => bit_mod_word (by omega) _, field_setField]

theorem State.regField_setRegBit_ne (s : State) {a k lo hi : Nat} (b : Bool) (h : hi < 32 ∧ (k < lo ∨ hi < k) := by decide) :
    (s.setRegBit a k b).regField a lo hi = s.regField a lo hi :=
  field_congr fun j low high => (s.bit_setRegBit a k b (by omega)).trans (if_neg (by omega))

theorem State.bit_setRegField_ne (s : State) {a k lo hi : Nat} (v : Nat) (h : k < 32 ∧ (k < lo ∨ hi < k ∧ lo ≤ hi) := by decide) :
    bit ((s.setRegField a lo hi v).regN a) k = bit (s.regN a) k := by
  unfold State.setRegField
  rw [State.regN_setRegN_self, bit_mod_word h.1, bit_setField_out h.2]

theorem State.setRegN_regs (s : State) (a v : Nat) : Only ⟨[.regs], [], []⟩ s (s.setRegN a v) :=
  (s.setRegN_only a v).up (by simp [Reach.le])

theorem State.setRegBit_regs (s : State) (a k : Nat) (b : Bool) : Only ⟨[.regs], [], []⟩ s (s.setRegBit a k b) :=
  (s.setRegBit_only a k b).up (by simp [Reach.le])

theorem State.setRegField_regs (s : State) (a lo hi v : Nat) : Only ⟨[.regs], [], []⟩ s (s.setRegField a lo hi v) :=
  (s.setRegField_only a lo hi v).up (by simp [Reach.le])

/-! ## Counters -/

theorem State.regN_bumpReg_self (s : State) {a : Nat} (room : field (s.regN a) 0 30 < 0x7FFFFFFF) :
    (s.bumpReg a).regN a = s.regN a + 1 := by
  have small : s.regN a < 2 ^ 32 := (s.reg a).isLt
  have bumps : s.bumpReg a = s.setRegN a (s.regN a + 1) := if_pos room
  rw [bumps, State.regN_setRegN_self]
  unfold field at room
  omega

theorem cmac_ne {a b : Nat} (h : a ≠ b) : cmac p a ≠ cmac p b := by
  unfold cmac
  omega

/-- No register of a control port is one of the event registers. -/
theorem cmac_apart (off : Nat) (l : List Nat) (h : ∀ a ∈ l, a < 0x40030000) : cmac p off ∉ l := fun m => by
  have low := h _ m
  unfold cmac at low
  omega

theorem State.regN_raise_cmac (s : State) (src subj off : Nat) : (s.raise src subj).regN (cmac p off) = s.regN (cmac p off) :=
  (s.raise_only src subj).regN (cmac_apart off _ (by decide))

theorem State.regN_cmacIrq (s : State) (k : Nat) {off : Nat} (h : off ≠ 0x14) :
    (s.cmacIrq p k).regN (cmac p off) = s.regN (cmac p off) := s.regN_setRegBit_ne k true (cmac_ne h)

theorem State.regN_bumpReg_cmac (s : State) {off off' : Nat} (h : off ≠ off') :
    (s.bumpReg (cmac p off')).regN (cmac p off) = s.regN (cmac p off) := by
  refine (s.bumpReg_only (cmac p off') 1).regN ?_
    (show Part.regs ∉ [Part.out, .pinned, .ev, .flashJournal, .diskJournal] by decide)
  rw [List.mem_cons, not_or]
  exact ⟨cmac_ne h, cmac_apart off _ (by decide)⟩

theorem State.regN_cmacCount (s : State) {off off' : Nat} (h : off ≠ off') (irq : off ≠ 0x14) :
    (s.cmacCount p off').regN (cmac p off) = s.regN (cmac p off) := by
  unfold State.cmacCount
  extract_lets t
  have bumped : t.regN (cmac p off) = s.regN (cmac p off) := s.regN_bumpReg_cmac h
  split
  · rw [State.regN_cmacIrq _ _ irq, bumped]
  · exact bumped

/-- A counter of a control port counts one more. -/
theorem State.regN_cmacCount_self (s : State) {off : Nat} (irq : off ≠ 0x14) (room : field (s.regN (cmac p off)) 0 30 < 0x7FFFFFFF) :
    (s.cmacCount p off).regN (cmac p off) = s.regN (cmac p off) + 1 := by
  unfold State.cmacCount
  extract_lets t
  have bumped : t.regN (cmac p off) = s.regN (cmac p off) + 1 := s.regN_bumpReg_self room
  split
  · rw [State.regN_cmacIrq _ _ irq, bumped]
  · exact bumped

/-! ## The link of a port -/

theorem Only.ctlPort {r : Reach} (h : Only r s t) (hp : Part.ctl ∉ r.parts := by decide) : t.ctlPort p = s.ctlPort p := by
  have same : t.ctl = s.ctl := h.same .ctl hp
  rw [State.ctlPort, same, State.ctlPort]

theorem State.ctlUp_congr (h : t.regN (cmac p 4) = s.regN (cmac p 4)) : t.ctlUp p = s.ctlUp p := congrArg (bit · 0) h

theorem State.ctlSpeed_congr (h : t.regN (cmac p 4) = s.regN (cmac p 4)) : t.ctlSpeed p = s.ctlSpeed p := congrArg (field · 1 2) h

/-- What the loss of a link leaves (R506). -/
structure LinkDown (p : Nat) (s t : State) : Prop where
  up : t.ctlUp p = false
  speed : t.ctlSpeed p = 0
  port : t.ctlPort p = { s.ctlPort p with trying := 1, tryAt := s.now, lowSince := none }
  now : t.now = s.now
  regs : ∀ off, off ≠ 4 → off ≠ 0x14 → t.regN (cmac p off) = s.regN (cmac p off)
  raised : Raised Ev.ctlLinkDown p s t

/-- The status register of a port whose link has been lost, and its interrupt. -/
def State.unlinked (s : State) (p : Nat) : State :=
  (((s.setRegBit (cmac p 4) 0 false).setRegField (cmac p 4) 1 2 0).setRegBit (cmac p 4) 8 true).cmacIrq p 3

theorem State.unlinked_only (s : State) (p : Nat) : Only ⟨[.regs], [], []⟩ s (s.unlinked p) :=
  (State.cmacIrq_only ..).seq ((State.setRegBit_regs ..).seq ((State.setRegField_regs ..).seq (State.setRegBit_regs ..)))

theorem State.unlinked_link (s : State) (p : Nat) : (s.unlinked p).ctlUp p = false ∧ (s.unlinked p).ctlSpeed p = 0 := by
  let t0 := s.setRegBit (cmac p 4) 0 false
  let t1 := t0.setRegField (cmac p 4) 1 2 0
  let t2 := t1.setRegBit (cmac p 4) 8 true
  have last : (s.unlinked p).regN (cmac p 4) = t2.regN (cmac p 4) := t2.regN_cmacIrq 3 (by decide)
  rw [State.ctlUp_congr last, State.ctlSpeed_congr last]
  have lower : bit (t2.regN (cmac p 4)) 0 = bit (t1.regN (cmac p 4)) 0 := State.bit_setRegBit_ne ..
  exact ⟨lower.trans ((t0.bit_setRegField_ne 0).trans (State.bit_setRegBit_self ..)),
    (t1.regField_setRegBit_ne true).trans (t0.regField_setRegField (cmac p 4) 1 2 0)⟩

theorem State.unlinked_regs (s : State) {off : Nat} (h4 : off ≠ 4) (h14 : off ≠ 0x14) :
    (s.unlinked p).regN (cmac p off) = s.regN (cmac p off) := by
  have c4 := cmac_ne (p := p) h4
  exact (State.regN_cmacIrq _ 3 h14).trans ((State.regN_setRegBit_ne _ 8 true c4).trans
    ((State.regN_setRegN_ne _ _ c4).trans (s.regN_setRegBit_ne 0 false c4)))

theorem State.ctlDown_loses (s : State) (p : Nat) : LinkDown p s (s.ctlDown p) := by
  let v := s.unlinked p
  let u := v.setCtlPort p { v.ctlPort p with trying := 1, tryAt := v.now, lowSince := none }
  have down : s.ctlDown p = u.raise Ev.ctlLinkDown p := rfl
  have raise := u.raise_only Ev.ctlLinkDown p
  have now : v.now = s.now := (s.unlinked_only p).same .now
  have uNow : (u.raise Ev.ctlLinkDown p).now = v.now := raise.same .now
  have before : Raises [] s u := .still (v.setCtlPort_only ..) (.of_only (s.unlinked_only p))
  have raised := (u.raise_raised Ev.ctlLinkDown p).before before
  have regs (off : Nat) : (u.raise Ev.ctlLinkDown p).regN (cmac p off) = v.regN (cmac p off) := u.regN_raise_cmac ..
  have port : (u.raise Ev.ctlLinkDown p).ctlPort p = { v.ctlPort p with trying := 1, tryAt := v.now, lowSince := none } :=
    raise.ctlPort.trans (State.ctlPort_setCtlPort ..)
  rw [now, (s.unlinked_only p).ctlPort] at port
  obtain ⟨up, speed⟩ := s.unlinked_link p
  rw [down]
  exact ⟨(State.ctlUp_congr (regs 4)).trans up, (State.ctlSpeed_congr (regs 4)).trans speed, port, uNow.trans now,
    fun off h4 h14 => (regs off).trans (s.unlinked_regs h4 h14), raised⟩

/-- A step to another rate: the link goes down and the rate is sought (R509). -/
theorem State.ctlStep_steps (s : State) (p speed : Nat) : (s.ctlStep p speed).ctlUp p = false ∧
    ((s.ctlStep p speed).ctlPort p).step = some (s.ctlSpeed p, speed, s.now) ∧ (s.ctlStep p speed).now = s.now ∧
    ∀ off, off ≠ 4 → off ≠ 0x14 → (s.ctlStep p speed).regN (cmac p off) = s.regN (cmac p off) := by
  have down := s.ctlDown_loses p
  have port : (s.ctlStep p speed).ctlPort p = { (s.ctlDown p).ctlPort p with step := some (s.ctlSpeed p, speed, (s.ctlDown p).now) } :=
    State.ctlPort_setCtlPort ..
  rw [port, down.now]
  exact ⟨down.up, rfl, down.now, down.regs⟩

end

end Sys2Proof.Machine

end

section

/-! PROOFS. O49: control ports (R503 to R515): frames, links and rate stepping. -/

namespace Sys2Proof.Machine

set_option Elab.async false

section
variable {s : State} {dt p : Nat}

/-! ## Receive (R505 to R509) -/

/-- A port that receives: its link is up, EN and RX_EN are 1. -/
theorem ctlFrameReceived_next {f : CtlFrame} (awake : s.awake) (up : s.ctlUp p = true) (en : bit (s.regN (cmac p 0)) 0 = true)
    (rx : bit (s.regN (cmac p 0)) 1 = true) : execCtlFrameReceived dt p f s =
      .next (match s.ctlDrop p f with
        | some off => (s.tick dt).cmacCount p off
        | none => (s.tick dt).ctlDeliver p ((s.ctlSlot p f.dst).getD 31) f.payload) := by
  have up : (s.tick dt).ctlUp p = true := up
  refine actIf_next awake ?_
  rw [up]
  exact Bool.and_eq_true_iff.mpr ⟨Bool.and_eq_true_iff.mpr ⟨rfl, en⟩, rx⟩

theorem State.ctlDrop_counter {f : CtlFrame} {off : Nat} (h : s.ctlDrop p f = some off) : off ≠ 0x14 := by
  unfold State.ctlDrop at h
  split_ifs at h <;> cases h <;> decide

theorem ctlFrameReceived_drops {f : CtlFrame} {off : Nat} (awake : s.awake) (up : s.ctlUp p = true)
    (en : bit (s.regN (cmac p 0)) 0 = true) (rx : bit (s.regN (cmac p 0)) 1 = true) (drop : s.ctlDrop p f = some off) :
    Completes (.ctlFrameReceived dt p f) s fun t =>
      t.mem = s.mem ∧ (field (s.regN (cmac p off)) 0 30 < 0x7FFFFFFF → t.regN (cmac p off) = s.regN (cmac p off) + 1) := by
  have call := ctlFrameReceived_next (dt := dt) (f := f) awake up en rx
  rw [drop] at call
  exact ⟨_, call, ((s.tick dt).cmacCount_only p off).same .mem, (s.tick dt).regN_cmacCount_self (State.ctlDrop_counter drop)⟩

/-- The descriptors that a frame takes do not depend on the time. -/
theorem State.rxPlan_tick (s : State) (dt p size fuel i : Nat) (b : List Byte) :
    (s.tick dt).rxPlan p size fuel i b = s.rxPlan p size fuel i b := by
  induction fuel generalizing i b with
  | zero => rfl
  | succ fuel ih =>
    have desc : (s.tick dt).rxDesc p i = s.rxDesc p i := rfl
    have word (a : Nat) : (s.tick dt).memWord a = s.memWord a := rfl
    simp only [State.rxPlan, desc, word, ih]

theorem ctlFrameReceived_delivers {f : CtlFrame} {size : Nat} {l : List (Nat × List Byte)} (awake : s.awake) (up : s.ctlUp p = true)
    (en : bit (s.regN (cmac p 0)) 0 = true) (rx : bit (s.regN (cmac p 0)) 1 = true) (taken : s.ctlDrop p f = none)
    (ring : size = max 1 (s.regN (cmac p 0x108)))
    (plan : s.rxPlan p size (f.payload.length + 1) (s.regN (cmac p 0x10C)) f.payload = some l) :
    Completes (.ctlFrameReceived dt p f) s fun t =>
      t.mem = (((s.tick dt).rxData p l).rxStatus p ((s.ctlSlot p f.dst).getD 31) true l).mem ∧
        t.regN (cmac p 0x10C) = (s.regN (cmac p 0x10C) + l.length) % size ∧ bit (t.regN (cmac p 0x14)) 0 = true := by
  have call := ctlFrameReceived_next (dt := dt) (f := f) awake up en rx
  rw [taken] at call
  let u := ((s.tick dt).rxData p l).rxStatus p ((s.ctlSlot p f.dst).getD 31) true l
  let v := u.setRegN (cmac p 0x10C) ((s.regN (cmac p 0x10C) + l.length) % size)
  have deliver : (s.tick dt).ctlDeliver p ((s.ctlSlot p f.dst).getD 31) f.payload = (v.cmacCount p 0x200).cmacIrq p 0 := by
    unfold State.ctlDeliver
    have plan : (s.tick dt).rxPlan p (max 1 ((s.tick dt).regN (cmac p 0x108))) (f.payload.length + 1)
        ((s.tick dt).regN (cmac p 0x10C)) f.payload = some l := by
      rw [State.rxPlan_tick]
      exact ring ▸ plan
    have ring : max 1 ((s.tick dt).regN (cmac p 0x108)) = size := ring.symm
    dsimp only
    rw [plan, ring]
    rfl
  dsimp only at call
  rw [deliver] at call
  have counted : Only _ v (v.cmacCount p 0x200) := v.cmacCount_only p 0x200
  have irq : Only _ (v.cmacCount p 0x200) ((v.cmacCount p 0x200).cmacIrq p 0) := State.cmacIrq_only ..
  refine ⟨_, call, (irq.same .mem).trans (counted.same .mem), ?_, ?_⟩
  · rw [State.regN_cmacIrq _ _ (by decide), State.regN_cmacCount _ (by decide) (by decide), State.regN_setRegN_self]
    have small : size < 2 ^ 32 := by
      have := (s.reg (cmac p 0x108)).isLt
      rw [ring]
      exact max_lt (by decide) this
    exact Nat.mod_eq_of_lt ((Nat.mod_lt _ (by omega)).trans small)
  · exact State.bit_setRegBit_self ..

/-! ## Transmit (R510) -/

theorem State.txPlan_tick (s : State) (dt p q size fuel i : Nat) : (s.tick dt).txPlan p q size fuel i = s.txPlan p q size fuel i := by
  induction fuel generalizing i with
  | zero => rfl
  | succ fuel ih =>
    have word : (s.tick dt).memWord ((s.tick dt).txDesc p q i + 8) = s.memWord (s.txDesc p q i + 8) := rfl
    simp only [State.txPlan, word, ih]

theorem State.txNext_tick (s : State) (dt p q : Nat) : (s.tick dt).txNext p q = s.txNext p q := State.txPlan_tick ..

theorem State.txBytes_tick (s : State) (dt p q : Nat) (l : List Nat) : (s.tick dt).txBytes p q l = s.txBytes p q l := by
  have bytes (a n : Nat) : (s.tick dt).memBytes a n = s.memBytes a n := State.memBytes_congr (s := s) (t := s.tick dt) rfl a n
  have desc (i : Nat) : (s.tick dt).txDesc p q i = s.txDesc p q i := rfl
  have addr (a : Nat) : (s.tick dt).descAddr a = s.descAddr a := rfl
  have word (a : Nat) : (s.tick dt).memWord a = s.memWord a := rfl
  simp only [State.txBytes, bytes, desc, addr, word]

/-- A frame that has been sent: counted, on the wire, its descriptors written and its ring advanced (R510). -/
def State.txSent (s : State) (p q : Nat) (l : List Nat) : State :=
  let u := ((s.cmacCount p 0x224).emit (.ctlFrame p (s.txWire p (s.txBytes p q l)))).txStatus p q false l
  u.setRegN (cmac p (0x18C + 0x10 * q))
    ((u.regN (cmac p (0x18C + 0x10 * q)) + l.length) % max 1 (u.regN (cmac p (0x188 + 0x10 * q))))

theorem State.txSent_sends (s : State) {p q : Nat} (l : List Nat) (small : q < 8) :
    Out.ctlFrame p (s.txWire p (s.txBytes p q l)) ∈ (s.txSent p q l).out ∧
      (s.txSent p q l).regN (cmac p (0x18C + 0x10 * q)) =
        (s.regN (cmac p (0x18C + 0x10 * q)) + l.length) % max 1 (s.regN (cmac p (0x188 + 0x10 * q))) := by
  let v := (s.cmacCount p 0x224).emit (.ctlFrame p (s.txWire p (s.txBytes p q l)))
  have status : Only ⟨[.mem], [], []⟩ v (v.txStatus p q false l) := v.txStatus_only p q false l
  have regs {off : Nat} (count : off ≠ 0x224) (irq : off ≠ 0x14) :
      (v.txStatus p q false l).regN (cmac p off) = s.regN (cmac p off) :=
    (status.regN List.not_mem_nil).trans (s.regN_cmacCount count irq)
  have out : (v.txStatus p q false l).out = v.out := status.same .out
  constructor
  · change Out.ctlFrame p _ ∈ (v.txStatus p q false l).out
    rw [out]
    exact State.mem_emit ..
  · refine (State.regN_setRegN_self ..).trans ?_
    rw [regs (by omega) (by omega), regs (by omega) (by omega)]
    have ring := (s.reg (cmac p (0x188 + 0x10 * q))).isLt
    exact Nat.mod_eq_of_lt ((Nat.mod_lt _ (by omega)).trans (max_lt (by decide) ring))

theorem ctlTxFrame_sends {q : Nat} {l : List Nat} (awake : s.awake) (up : s.ctlUp p = true) (en : bit (s.regN (cmac p 0)) 0 = true)
    (tx : bit (s.regN (cmac p 0)) 2 = true)
    (highest : [7, 6, 5, 4, 3, 2, 1, 0].find? (fun q => (s.txNext p q).isSome) = some q) (ready : s.txNext p q = some l)
    (fits : (s.txBytes p q l).length ≤ 1518) :
    Completes (.ctlTxFrame dt p) s fun t =>
      Out.ctlFrame p (s.txWire p (s.txBytes p q l)) ∈ t.out ∧
        t.regN (cmac p (0x18C + 0x10 * q)) =
          (s.regN (cmac p (0x18C + 0x10 * q)) + l.length) % max 1 (s.regN (cmac p (0x188 + 0x10 * q))) := by
  have small : q < 8 := by
    have among := List.mem_of_find?_eq_some highest
    simp only [List.mem_cons, List.not_mem_nil, or_false] at among
    omega
  let u := (s.tick dt).txSent p q l
  let irq := l.any fun i => bit ((s.tick dt).memWord ((s.tick dt).txDesc p q i + 8)) 28
  have next : execCtlTxFrame dt p s = .next (if irq then u.cmacIrq p 2 else u) := by
    have up : (s.tick dt).ctlUp p = true := up
    have due : ((s.tick dt).ctlUp p && bit ((s.tick dt).regN (cmac p 0)) 0 && bit ((s.tick dt).regN (cmac p 0)) 2) = true := by
      rw [up]
      exact Bool.and_eq_true_iff.mpr ⟨Bool.and_eq_true_iff.mpr ⟨rfl, en⟩, tx⟩
    have found : [7, 6, 5, 4, 3, 2, 1, 0].find? (fun q => ((s.tick dt).txNext p q).isSome) = some q := by
      simp only [State.txNext_tick]
      exact highest
    have list : ((s.tick dt).txNext p q).getD [] = l := by
      rw [State.txNext_tick, ready]
      rfl
    have fits : ¬ 1518 < ((s.tick dt).txBytes p q l).length := Nat.not_lt.mpr (by rw [State.txBytes_tick]; exact fits)
    have excess : decide (1518 < ((s.tick dt).txBytes p q l).length) = false := decide_eq_false fits
    refine (actIf_next awake due).trans ?_
    rw [found]
    dsimp only
    rw [list, if_neg fits, excess]
    rfl
  obtain ⟨sent, head⟩ := (s.tick dt).txSent_sends (p := p) l small
  rw [State.txBytes_tick] at sent
  refine ⟨_, next, ?_⟩
  split
  · exact ⟨sent, (u.regN_cmacIrq 2 (by omega)).trans head⟩
  · exact ⟨sent, head⟩

end

end Sys2Proof.Machine

end

section

/-! PROOFS. O49, continued: the links of the control ports and rate stepping (R503, R504, R512, R515). -/

namespace Sys2Proof.Machine

set_option Elab.async false

section
variable {s : State} {dt p : Nat}

/-! ## The link comes up (R503) -/

/-- A bit of the status register above the link's own fields leaves the link as it is. -/
theorem State.link_setRegBit (s : State) {k : Nat} (b : Bool) (high : 3 ≤ k := by decide) :
    (s.setRegBit (cmac p 4) k b).ctlUp p = s.ctlUp p ∧ (s.setRegBit (cmac p 4) k b).ctlSpeed p = s.ctlSpeed p :=
  ⟨(s.bit_setRegBit (cmac p 4) k b (by decide)).trans (if_neg (by omega)), s.regField_setRegBit_ne b (by omega)⟩

theorem State.link_cmacIrq (s : State) (k : Nat) : (s.cmacIrq p k).ctlUp p = s.ctlUp p ∧ (s.cmacIrq p k).ctlSpeed p = s.ctlSpeed p :=
  have same := s.regN_cmacIrq (p := p) k (off := 4) (by decide)
  ⟨State.ctlUp_congr same, State.ctlSpeed_congr same⟩

theorem State.link_raise (s : State) (src subj : Nat) :
    (s.raise src subj).ctlUp p = s.ctlUp p ∧ (s.raise src subj).ctlSpeed p = s.ctlSpeed p :=
  have same := s.regN_raise_cmac (p := p) src subj 4
  ⟨State.ctlUp_congr same, State.ctlSpeed_congr same⟩

/-- The status register of a port whose link has come up, and its interrupt. -/
def State.linkSet (s : State) (p speed : Nat) (stepped : Bool) : State :=
  ((((s.setRegBit (cmac p 4) 0 true).setRegField (cmac p 4) 1 2 speed).setRegBit (cmac p 4) 3 stepped).setRegBit (cmac p 4) 8
    true).cmacIrq p 3

theorem State.linkSet_only (s : State) (p speed : Nat) (stepped : Bool) : Only ⟨[.regs], [], []⟩ s (s.linkSet p speed stepped) :=
  (State.cmacIrq_only ..).seq ((State.setRegBit_regs ..).seq ((State.setRegBit_regs ..).seq ((State.setRegField_regs ..).seq
    (State.setRegBit_regs ..))))

theorem State.linkSet_link (s : State) {p speed : Nat} (stepped : Bool) (code : speed ≤ 3) :
    (s.linkSet p speed stepped).ctlUp p = true ∧ (s.linkSet p speed stepped).ctlSpeed p = speed := by
  let t0 := s.setRegBit (cmac p 4) 0 true
  let t1 := t0.setRegField (cmac p 4) 1 2 speed
  let t2 := t1.setRegBit (cmac p 4) 3 stepped
  let t3 := t2.setRegBit (cmac p 4) 8 true
  obtain ⟨upIrq, speedIrq⟩ := t3.link_cmacIrq (p := p) 3
  obtain ⟨up8, speed8⟩ := t2.link_setRegBit (p := p) (k := 8) true
  obtain ⟨up3, speed3⟩ := t1.link_setRegBit (p := p) (k := 3) stepped
  have up1 : t1.ctlUp p = t0.ctlUp p := t0.bit_setRegField_ne speed
  have speed1 : t1.ctlSpeed p = speed := (t0.regField_setRegField (cmac p 4) 1 2 speed).trans (Nat.mod_eq_of_lt (by omega))
  exact ⟨upIrq.trans (up8.trans (up3.trans (up1.trans (State.bit_setRegBit_self ..)))),
    speedIrq.trans (speed8.trans (speed3.trans speed1))⟩

theorem State.ctlLinked_links (s : State) {p speed : Nat} (code : speed ≤ 3) :
    (s.ctlLinked p speed).ctlUp p = true ∧ (s.ctlLinked p speed).ctlSpeed p = speed ∧
      ((s.ctlLinked p speed).ctlPort p).lastSpeed = speed ∧ Raised Ev.ctlLinkUp p s (s.ctlLinked p speed) := by
  unfold State.ctlLinked
  extract_lets x stepped t0 t1 changed t2 t3
  obtain ⟨up, rate⟩ := s.linkSet_link (p := p) stepped code
  have status : t1 = s.linkSet p speed stepped := rfl
  have statusOnly : Only ⟨[.regs], [], []⟩ s t1 := status ▸ s.linkSet_only p speed stepped
  rw [← status] at up rate
  clear_value t1
  obtain ⟨upRaise, rateRaise⟩ := t2.link_raise (p := p) Ev.ctlLinkUp p
  have up3 : t3.ctlUp p = true := upRaise.trans up
  have rate3 : t3.ctlSpeed p = speed := rateRaise.trans rate
  have port3 : t3.ctlPort p = { x with lastSpeed := speed, step := none, lowSince := none } :=
    (t2.raise_only Ev.ctlLinkUp p).ctlPort.trans (State.ctlPort_setCtlPort ..)
  have before : Raises [] s t2 := .still (t1.setCtlPort_only ..) (.of_only statusOnly)
  have raised : Raised Ev.ctlLinkUp p s t3 := (t2.raise_raised Ev.ctlLinkUp p).before before
  clear_value t3
  split
  · let u0 := t3.setRegBit (cmac p 4) 10 true
    let u1 := u0.cmacIrq p 4
    have only : Only ⟨[.regs], [], []⟩ t3 u1 := (u0.cmacIrq_only ..).seq (t3.setRegBit_regs ..)
    have told := u1.raise_only Ev.ctlSpeedChange p
    obtain ⟨up10, rate10⟩ := t3.link_setRegBit (p := p) (k := 10) true
    obtain ⟨upIrq, rateIrq⟩ := u0.link_cmacIrq (p := p) 4
    obtain ⟨upTold, rateTold⟩ := u1.link_raise (p := p) Ev.ctlSpeedChange p
    have after : Raises [Ev.ctlSpeedChange] t3 (u1.raise Ev.ctlSpeedChange p) :=
      (u1.raise_raises Ev.ctlSpeedChange p).seq ((Raises.of_only only : Raises [] t3 u1).up (by decide))
    refine ⟨upTold.trans (upIrq.trans (up10.trans up3)), rateTold.trans (rateIrq.trans (rate10.trans rate3)), ?_,
      raised.after after ?_⟩
    · rw [told.ctlPort, only.ctlPort, port3]
    · exact told.ptp.trans only.ptp
  · refine ⟨up3, rate3, ?_, raised⟩
    rw [port3]

theorem State.ctlEnabled (en : bit (s.regN (cmac p 0)) 0 = true) : s.regField (cmac p 0) 0 0 = 1 := by
  unfold State.regField field
  unfold bit at en
  rw [Nat.testBit_zero, decide_eq_true_iff] at en
  omega

theorem ctlLinkUp_links {speed : Nat} (awake : s.awake) (powered : s.il.ctlUp = true) (en : bit (s.regN (cmac p 0)) 0 = true)
    (down : s.ctlUp p = false) (some_ : 1 ≤ speed) (code : speed ≤ 3) (sought : speed = s.ctlSought p) :
    Completes (.ctlLinkUp dt p speed) s fun t =>
      t.ctlUp p = true ∧ t.ctlSpeed p = speed ∧ (t.ctlPort p).lastSpeed = speed ∧ Raised Ev.ctlLinkUp p s t := by
  have due : ((s.tick dt).il.ctlUp && (s.tick dt).regField (cmac p 0) 0 0 = 1 && !(s.tick dt).ctlUp p &&
      speed == (s.tick dt).ctlSought p && 1 ≤ speed : Bool) = true := by
    have powered : (s.tick dt).il.ctlUp = true := powered
    have en : (s.tick dt).regField (cmac p 0) 0 0 = 1 := State.ctlEnabled en
    have down : (s.tick dt).ctlUp p = false := down
    have sought : (s.tick dt).ctlSought p = speed := sought.symm
    rw [powered, en, down, sought, decide_eq_true some_, beq_self_eq_true]
    rfl
  have call : execCtlLinkUp dt p speed s = _ := actIf_next awake due
  exact ⟨_, call, (s.tick dt).ctlLinked_links code⟩

/-! ## Without a link (R503, R506) -/

theorem ctlLinkDown_downs (awake : s.awake) (up : s.ctlUp p = true) :
    Completes (.ctlLinkDown dt p) s fun t =>
      t.ctlUp p = false ∧ t.ctlSpeed p = 0 ∧ (t.ctlPort p).trying = 1 ∧ Raised Ev.ctlLinkDown p s t := by
  have call : execCtlLinkDown dt p s = _ := actIf_next awake up
  have down := (s.tick dt).ctlDown_loses p
  exact ⟨_, call, down.up, down.speed, congrArg CtlPort.trying down.port, down.raised⟩

theorem ctlSpeedCycle_tries (awake : s.awake) (en : bit (s.regN (cmac p 0)) 0 = true) (down : s.ctlUp p = false)
    (auto : s.speedMode p = 0) (free : (s.ctlPort p).step = none) (past : (s.ctlPort p).tryAt + 500000000 ≤ s.now + dt) :
    Completes (.ctlSpeedCycle dt p) s fun t =>
      (t.ctlPort p).trying = (s.ctlPort p).trying % 3 + 1 ∧ (t.ctlPort p).tryAt = t.now := by
  have due : ((s.tick dt).regField (cmac p 0) 0 0 = 1 && !(s.tick dt).ctlUp p && (s.tick dt).speedMode p = 0 &&
      ((s.tick dt).ctlPort p).step.isNone && ((s.tick dt).ctlPort p).tryAt + 500000000 ≤ (s.tick dt).now : Bool) = true := by
    have en : (s.tick dt).regField (cmac p 0) 0 0 = 1 := State.ctlEnabled en
    have down : (s.tick dt).ctlUp p = false := down
    have auto : (s.tick dt).speedMode p = 0 := auto
    have free : ((s.tick dt).ctlPort p).step = none := free
    have past : ((s.tick dt).ctlPort p).tryAt + 500000000 ≤ (s.tick dt).now := past
    rw [en, down, auto, free, decide_eq_true past]
    rfl
  have call : execCtlSpeedCycle dt p s = _ := actIf_next awake due
  refine ⟨_, call, ?_⟩
  beta_reduce
  rw [State.ctlPort_setCtlPort]
  exact ⟨rfl, rfl⟩

/-! ## Rate stepping (R504) -/

/-- What the load of a window asks of a port that steps. -/
def State.ctlLoaded (u : State) (p l : Nat) : State :=
  let v := u.ctlSpeed p
  if v != 1 && 70 * speedMbps v < 100 * l then u.ctlStep p 1
  else if l < u.regField (cmac p 0xC) 0 15 then
    let x := u.ctlPort p
    let since := x.lowSince.getD (u.now - 100000000)
    let u := u.setCtlPort p { x with lowSince := some since }
    if v < 3 && 1000000000 * u.regField (cmac p 0xC) 16 31 ≤ u.now - since then u.ctlStep p (v + 1) else u
  else u.setCtlPort p { u.ctlPort p with lowSince := none }

theorem State.ctlStep_regs (s : State) {p speed off : Nat} (h4 : off ≠ 4) (h14 : off ≠ 0x14) :
    (s.ctlStep p speed).regN (cmac p off) = s.regN (cmac p off) := by
  obtain ⟨-, -, -, regs⟩ := s.ctlStep_steps p speed
  exact regs off h4 h14

theorem State.ctlLoaded_regs (u : State) {p l off : Nat} (h4 : off ≠ 4) (h14 : off ≠ 0x14) :
    (u.ctlLoaded p l).regN (cmac p off) = u.regN (cmac p off) := by
  unfold State.ctlLoaded
  extract_lets v x since w
  split
  · exact u.ctlStep_regs h4 h14
  · split
    · split
      · exact w.ctlStep_regs h4 h14
      · rfl
    · rfl

theorem ctlLoadWindow_loads {rx tx : Nat} (awake : s.awake) (en : bit (s.regN (cmac p 0)) 0 = true) :
    Completes (.ctlLoadWindow dt p rx tx) s fun t =>
      t.regN (cmac p 0x10) = rx % 65536 + 65536 * (tx % 65536) ∧
        (s.ctlStepping p = true → s.ctlSpeed p ≠ 1 → 70 * speedMbps (s.ctlSpeed p) < 100 * max rx tx →
          t.ctlUp p = false ∧ (t.ctlPort p).step = some (s.ctlSpeed p, 1, t.now)) := by
  let u := (s.tick dt).setRegN (cmac p 0x10) (rx % 65536 + 65536 * (tx % 65536))
  have en : (s.tick dt).regField (cmac p 0) 0 0 = 1 := State.ctlEnabled en
  have next : execCtlLoadWindow dt p rx tx s = .next (if !u.ctlStepping p then u else u.ctlLoaded p (max rx tx)) :=
    actIf_next awake (decide_eq_true en)
  have load : u.regN (cmac p 0x10) = rx % 65536 + 65536 * (tx % 65536) :=
    (State.regN_setRegN_self ..).trans (Nat.mod_eq_of_lt (by omega))
  have regs {off : Nat} (h : off ≠ 0x10) : u.regN (cmac p off) = s.regN (cmac p off) := State.regN_setRegN_ne _ _ (cmac_ne h)
  have speed : u.ctlSpeed p = s.ctlSpeed p := State.ctlSpeed_congr (regs (by decide))
  have stepping : u.ctlStepping p = s.ctlStepping p := by
    unfold State.ctlStepping State.speedMode State.regField
    rw [regs (by decide), State.ctlUp_congr (regs (by decide))]
  refine ⟨_, next, ?_, fun steps notTop heavy => ?_⟩
  · split
    · exact load
    · exact (u.ctlLoaded_regs (by decide) (by decide)).trans load
  · have heavy : (s.ctlSpeed p != 1 && 70 * speedMbps (s.ctlSpeed p) < 100 * max rx tx : Bool) = true :=
      Bool.and_eq_true_iff.mpr ⟨bne_iff_ne.mpr notTop, decide_eq_true heavy⟩
    obtain ⟨up, step, now, -⟩ := u.ctlStep_steps p 1
    have loaded : u.ctlLoaded p (max rx tx) = u.ctlStep p 1 := by
      unfold State.ctlLoaded
      dsimp only
      rw [speed, if_pos heavy]
    rw [stepping, steps, if_neg (by decide), loaded, step, speed, now]
    exact ⟨up, rfl⟩

theorem ctlStepFail_fails {left sought a : Nat} (awake : s.awake) (down : s.ctlUp p = false)
    (step : (s.ctlPort p).step = some (left, sought, a)) (other : sought ≠ left) (past : a + 1000000000 ≤ s.now + dt) :
    Completes (.ctlStepFail dt p) s fun t =>
      (t.ctlPort p).step = some (left, left, t.now) ∧ bit (t.regN (cmac p 0)) 6 = false ∧
        bit (t.regN (cmac p 4)) 9 = true ∧ Raised Ev.ctlStepFail p s t := by
  let x := (s.tick dt).ctlPort p
  let v := (s.tick dt).setCtlPort p { x with step := some (left, left, (s.tick dt).now) }
  let u := (v.setRegBit (cmac p 0) 6 false).setRegBit (cmac p 4) 9 true
  have next : execCtlStepFail dt p s = .next (u.raise Ev.ctlStepFail p) := by
    have down : (!(s.tick dt).ctlUp p) = true := congrArg not down
    have step : ((s.tick dt).ctlPort p).step = some (left, sought, a) := step
    have waits : ¬ (decide (sought = left) || decide ((s.tick dt).now < a + 1000000000)) = true := by
      have past : ¬ (s.tick dt).now < a + 1000000000 := Nat.not_lt.mpr past
      rw [decide_eq_false other, decide_eq_false past]
      decide
    refine (actIf_next awake down).trans ?_
    dsimp only
    rw [step]
    dsimp only
    rw [if_neg waits]
  have only : Only ⟨[.regs], [], []⟩ v u := (State.setRegBit_regs ..).seq (v.setRegBit_regs ..)
  have raise := u.raise_only Ev.ctlStepFail p
  have before : Raises [] s u := .regs (.regs (.of_objs rfl : Raises [] s v) (v.setRegBit_only ..)) (State.setRegBit_only ..)
  refine ⟨_, next, ?_, ?_, ?_, (u.raise_raised Ev.ctlStepFail p).before before⟩
  · have now : (u.raise Ev.ctlStepFail p).now = (s.tick dt).now := (raise.same .now).trans (only.same .now)
    rw [raise.ctlPort, only.ctlPort, State.ctlPort_setCtlPort, now]
  · rw [State.regN_raise_cmac, State.regN_setRegBit_ne _ 9 true (cmac_ne (by decide))]
    exact State.bit_setRegBit_self ..
  · rw [State.regN_raise_cmac]
    exact State.bit_setRegBit_self ..

theorem ctlTxFrameWait_steps {waited : Nat} (awake : s.awake) (steps : s.ctlStepping p = true) (notTop : s.ctlSpeed p ≠ 1)
    (long : 10000 < waited) :
    Completes (.ctlTxFrameWait dt p waited) s fun t =>
      t.ctlUp p = false ∧ (t.ctlPort p).step = some (s.ctlSpeed p, 1, t.now) := by
  have due : ((s.tick dt).ctlStepping p && (s.tick dt).ctlSpeed p != 1 && decide (10000 < waited)) = true := by
    have steps : (s.tick dt).ctlStepping p = true := steps
    have notTop : ((s.tick dt).ctlSpeed p != 1) = true := bne_iff_ne.mpr notTop
    rw [steps, notTop, decide_eq_true long]
    rfl
  have call : execCtlTxFrameWait dt p waited s = _ := actIf_next awake due
  obtain ⟨up, step, now, -⟩ := (s.tick dt).ctlStep_steps p 1
  refine ⟨_, call, up, ?_⟩
  rw [step, now]
  rfl

/-! ## A write of CMAC_CTRL (R512) -/

theorem even_of_bit {x : Nat} (h : bit x 0 = false) : x % 2 = 0 := by
  unfold bit at h
  rw [Nat.testBit_zero, decide_eq_false_iff_not] at h
  omega

theorem State.busWrite_congr {t : State} {a : Nat} (v : Nat) (same : t.regN a = s.regN a) :
    (t.busWrite a v).regN a = (s.busWrite a v).regN a := by
  unfold State.busWrite
  cases regRow a with
  | none => exact same
  | some r =>
    dsimp only
    rw [same, State.regN_setRegN_self, State.regN_setRegN_self]

theorem regRow_cmacCtrl (small : p < 2) : ∃ r, regRow (cmac p 0) = some r ∧ r.rw = 0x1F7 ∧ r.w1c = 0 := by
  have cases : p = 0 ∨ p = 1 := by omega
  obtain rfl | rfl := cases
  · exact ⟨⟨0x40030000, 0x80, 0x1F7, 0, false⟩, by decide +kernel, rfl, rfl⟩
  · exact ⟨⟨0x40040000, 0x80, 0x1F7, 0, false⟩, by decide +kernel, rfl, rfl⟩

/-- A write that clears EN leaves the port disabled. -/
theorem State.busWrite_disables (s : State) {v : Nat} (small : p < 2) (off : bit v 0 = false) :
    bit ((s.busWrite (cmac p 0) v).regN (cmac p 0)) 0 = false := by
  obtain ⟨r, row, rw_, w1c⟩ := regRow_cmacCtrl small
  have kept : bit (Nat.land (s.regN (cmac p 0)) (0xFFFFFFFF - Nat.lor 0x1F7 0)) 0 = false := by
    refine (Nat.testBit_and ..).trans ?_
    rw [show Nat.testBit (0xFFFFFFFF - Nat.lor 0x1F7 0) 0 = false by decide, Bool.and_false]
  have given : bit (Nat.land v 0x1F7) 0 = false := by
    refine (Nat.testBit_and ..).trans ?_
    rw [show v.testBit 0 = false from off, Bool.false_and]
  have cleared : Nat.land (Nat.land (s.regN (cmac p 0)) 0) (0xFFFFFFFF - Nat.land v 0xFFFFFFFF) = 0 := by
    rw [show Nat.land (s.regN (cmac p 0)) 0 = 0 from Nat.and_zero _]
    exact Nat.zero_and _
  unfold State.busWrite
  rw [row]
  dsimp only
  rw [rw_, w1c, cleared, State.regN_setRegN_self, bit_mod_word (by decide), bit, Nat.testBit_zero, decide_eq_false_iff_not]
  have := even_of_bit kept
  have := even_of_bit given
  omega

theorem State.cmacCtrl_controls (s : State) {p : Nat} (v : Nat) (small : p < 2) :
    (s.cmacCtrl p v).regN (cmac p 0) = (s.busWrite (cmac p 0) v).regN (cmac p 0) ∧
      (bit v 0 = false → bit ((s.cmacCtrl p v).regN (cmac p 0)) 0 = false ∧ (s.cmacCtrl p v).ctlUp p = false) := by
  let t := s.busWrite (cmac p 0) v
  let started := !bit (s.regN (cmac p 0)) 0 && bit (t.regN (cmac p 0)) 0
  let u := if started then t.setCtlPort p { t.ctlPort p with trying := 1, tryAt := t.now } else t
  let drops := u.ctlUp p && (!bit (u.regN (cmac p 0)) 0 || (t.speedMode p != 0 && t.speedMode p != u.ctlSpeed p))
  have ends : s.cmacCtrl p v = if drops then u.ctlDown p else u := rfl
  have same : u.regN (cmac p 0) = t.regN (cmac p 0) := by
    unfold u
    split <;> rfl
  have down := u.ctlDown_loses p
  have ctrl : (s.cmacCtrl p v).regN (cmac p 0) = t.regN (cmac p 0) := by
    rw [ends]
    split
    · exact (down.regs 0 (by decide) (by decide)).trans same
    · exact same
  refine ⟨ctrl, fun off => ?_⟩
  have disabled : bit (t.regN (cmac p 0)) 0 = false := s.busWrite_disables small off
  rw [ctrl]
  refine ⟨disabled, ?_⟩
  rw [ends]
  cases up : u.ctlUp p with
  | true =>
    have lost : drops = true := by
      unfold drops
      rw [up, same, disabled]
      rfl
    rw [if_pos lost]
    exact down.up
  | false =>
    have stays : drops = false := by
      unfold drops
      rw [up]
      rfl
    rw [stays]
    exact up

theorem cmacCtrlWrite_controls {v : Nat} (awake : s.awake) (small : p < 2) :
    Completes (.cmacCtrlWrite dt p v) s fun t =>
      t.regN (cmac p 0) = (s.busWrite (cmac p 0) v).regN (cmac p 0) ∧
        (bit v 0 = false → bit (t.regN (cmac p 0)) 0 = false ∧ t.ctlUp p = false) := by
  have call : execCmacCtrlWrite dt p v s = _ := act_next awake
  obtain ⟨ctrl, off⟩ := (s.tick dt).cmacCtrl_controls v small
  have same : ((s.tick dt).busWrite (cmac p 0) v).regN (cmac p 0) = (s.busWrite (cmac p 0) v).regN (cmac p 0) :=
    State.busWrite_congr v rfl
  exact ⟨_, call, ctrl.trans same, off⟩

end

/-- Settles O49: the steps of a control port's frames, links and rates, clause by clause. -/
theorem controlPorts : Obligations.ControlPorts := by
  unfold Obligations.ControlPorts
  refine ⟨?_, ?_, ?_, ?_, ?_, ?_, ?_, ?_, ?_, ?_⟩
  · exact fun s dt p f off => ctlFrameReceived_drops
  · exact fun s dt p f size l => ctlFrameReceived_delivers
  · exact fun s dt p q l => ctlTxFrame_sends
  · exact fun s dt p speed => ctlLinkUp_links
  · exact fun s dt p => ctlLinkDown_downs
  · exact fun s dt p => ctlSpeedCycle_tries
  · exact fun s dt p rx tx => ctlLoadWindow_loads
  · exact fun s dt p left sought a => ctlStepFail_fails
  · exact fun s dt p waited => ctlTxFrameWait_steps
  · exact fun s dt p v => cmacCtrlWrite_controls

end Sys2Proof.Machine

end

section

/-! PROOFS. O50: the requests that Col grants and refuses (R533 to R541). -/

namespace Sys2Proof.Machine

set_option Elab.async false

section
variable {s t : State} {dt target : Nat} {r x : ColReq}

/-! ## Bytes of memory -/

theorem fromLe_leBytes (n x : Nat) : fromLe (leBytes n x) = x % 256 ^ n := by
  induction n generalizing x with
  | zero => exact (Nat.mod_one x).symm
  | succ n ih =>
    have head : fromLe (leBytes (n + 1) x) = (BitVec.ofNat 8 x).toNat + fromLe (leBytes n (x / 256)) * 256 := rfl
    have cut : x % 256 ^ (n + 1) = x % 256 + 256 * (x / 256 % 256 ^ n) := by rw [pow_succ', Nat.mod_mul]
    rw [head, ih, BitVec.toNat_ofNat, cut, Nat.mul_comm 256]

/-- What has been written is what is read. -/
theorem State.memBytes_setMem (s : State) (a : Nat) (b : List Byte) : (s.setMem a b).memBytes a b.length = b := by
  induction b generalizing s a with
  | nil => rfl
  | cons x b ih =>
    have first : ((s.setMemByte a x).setMem (a + 1) b).memByte a = x := by
      rw [State.memByte_setMem_out _ _ _ _ (by omega), State.memByte_setMemByte, if_pos rfl]
    rw [List.length_cons, State.setMem, State.memBytes, first, ih]

theorem State.memWord_setMem (s : State) (a v : Nat) : (s.setMem a (leBytes 4 v)).memWord a = v % 2 ^ 32 := by
  have read := s.memBytes_setMem a (leBytes 4 v)
  rw [leBytes_length] at read
  rw [State.memWord, read]
  exact fromLe_leBytes 4 v

/-! ## The request that a port grants -/

/-- Whether a request waits at a target. -/
def State.waitsFor (s : State) (target : Nat) (r : ColReq) : Bool :=
  r.master < 6 && !r.data.isEmpty && (colTarget (s.busAddr r.master r.addr)).getD 7 == target

/-- The fabric cycles that a port takes to start its clock (R538). -/
def State.colWake (s : State) (target : Nat) : Nat := if bit (s.regN 0x40020004) target then 0 else 2

/-- A port that has granted a request, before its access. -/
def State.granted (s : State) (target : Nat) (r : ColReq) : State :=
  if target < 6 then
    let v := { s with colLast := put s.colLast target r.master }.setRegBit 0x40020004 target true
    v.setRegN (0x40020060 + 4 * target) (max (min 0xFFFF (r.waited + s.colWake target)) (v.regN (0x40020060 + 4 * target)))
  else s

/-- A request accepted by the target reads or writes its piece. -/
def State.accessed (s : State) (target a n : Nat) (r : ColReq) : State :=
  if r.write then s.busStore target a (colTrust r) (r.data.take n)
  else (s.busLoad target a n).2.emit (.col target (s.busLoad target a n).1)

/-- A request that waits alone is granted. -/
theorem State.colWinner_one (s : State) {wake : Nat} (waits : s.waitsFor target r = true) :
    s.colWinner target wake ([r].filter (s.waitsFor target)) = some r := by
  rw [List.filter_cons_of_pos waits]
  rfl

/-- Of two the one of the higher effective QoS is granted, and of equals the next by round-robin (R535, R536). -/
theorem State.colWinner_two (s : State) {wake : Nat} (first : s.waitsFor target r = true) (second : s.waitsFor target x = true)
    (wins : s.colQos x wake < s.colQos r wake ∨ s.colQos x wake = s.colQos r wake ∧
      robin (look s.colLast target 5) r.master < robin (look s.colLast target 5) x.master) :
    s.colWinner target wake ([r, x].filter (s.waitsFor target)) = some r ∧
      s.colWinner target wake ([x, r].filter (s.waitsFor target)) = some r := by
  rw [List.filter_cons_of_pos first, List.filter_cons_of_pos second, List.filter_cons_of_pos second, List.filter_cons_of_pos first]
  have loses : ¬ (decide (s.colQos r wake < s.colQos x wake) || decide (s.colQos r wake = s.colQos x wake) &&
      decide (robin (look s.colLast target 5) x.master < robin (look s.colLast target 5) r.master)) = true := by
    simp only [Bool.or_eq_true, Bool.and_eq_true, decide_eq_true_eq]
    omega
  have beats : (decide (s.colQos x wake < s.colQos r wake) || decide (s.colQos x wake = s.colQos r wake) &&
      decide (robin (look s.colLast target 5) r.master < robin (look s.colLast target 5) x.master)) = true := by
    simp only [Bool.or_eq_true, Bool.and_eq_true, decide_eq_true_eq]
    exact wins
  exact ⟨if_neg loses, if_pos beats⟩

theorem State.waitsFor_of (master : r.master < 6) (data : r.data ≠ [])
    (here : (colTarget (s.busAddr r.master r.addr)).getD 7 = target) : s.waitsFor target r = true := by
  unfold State.waitsFor
  rw [decide_eq_true master, here, beq_self_eq_true, List.isEmpty_eq_false_iff.mpr data]
  rfl

theorem colTarget_of_check {master a n tg : Nat} {write trusted : Bool} (check : colCheck master a n write trusted = .inl tg) :
    colTarget a = some tg := by
  unfold colCheck at check
  split at check
  · cases check
  next found => split_ifs at check; cases check; exact found

variable {a n tg reason : Nat} {waiting : List ColReq}

theorem colRequest_accepts (awake : s.awake)
    (wins : s.colWinner target (s.colWake target) (waiting.filter (s.waitsFor target)) = some r)
    (at_ : a = s.busAddr r.master r.addr) (check : colCheck r.master a (colPiece a r.data.length) r.write (colTrust r) = .inl tg)
    (answers : r.targetError = false) :
    execColRequest dt target waiting s =
      .next (((s.tick dt).granted target r).accessed tg a (colPiece a r.data.length) r) := by
  have wins : (s.tick dt).colWinner target ((s.tick dt).colWake target) (waiting.filter ((s.tick dt).waitsFor target)) = some r := wins
  have at_ : (s.tick dt).busAddr r.master r.addr = a := at_.symm
  refine (act_next awake : execColRequest dt target waiting s = _).trans (congrArg Host.Outcome.next ?_)
  change (match (s.tick dt).colWinner target ((s.tick dt).colWake target) (waiting.filter ((s.tick dt).waitsFor target)) with
    | none => _
    | some r => _) = _
  rw [wins]
  dsimp only
  rw [at_, check]
  dsimp only
  rw [answers, if_neg Bool.false_ne_true]
  rfl

theorem colRequest_refuses (awake : s.awake)
    (wins : s.colWinner target (s.colWake target) (waiting.filter (s.waitsFor target)) = some r)
    (at_ : a = s.busAddr r.master r.addr)
    (check : colCheck r.master a (colPiece a r.data.length) r.write (colTrust r) = .inr (reason, tg)) :
    execColRequest dt target waiting s = .next (((s.tick dt).granted target r).colError r a tg reason) := by
  have wins : (s.tick dt).colWinner target ((s.tick dt).colWake target) (waiting.filter ((s.tick dt).waitsFor target)) = some r := wins
  have at_ : (s.tick dt).busAddr r.master r.addr = a := at_.symm
  refine (act_next awake : execColRequest dt target waiting s = _).trans (congrArg Host.Outcome.next ?_)
  change (match (s.tick dt).colWinner target ((s.tick dt).colWake target) (waiting.filter ((s.tick dt).waitsFor target)) with
    | none => _
    | some r => _) = _
  rw [wins]
  dsimp only
  rw [at_, check]
  rfl

theorem State.granted_only (s : State) (target : Nat) (r : ColReq) : Only ⟨[.regs, .colLast], [], []⟩ s (s.granted target r) := by
  unfold State.granted
  split
  · extract_lets v
    have last : Only ⟨[.regs, .colLast], [], []⟩ s { s with colLast := put s.colLast target r.master } :=
      Only.upd fun q => by cases q <;> first | exact .inr rfl | exact .inl (by decide)
    exact (State.setRegN_regs ..).seq ((State.setRegBit_regs ..).seq last)
  · exact .refl _ _

theorem State.granted_last (s : State) (r : ColReq) (small : target < 6) : look (s.granted target r).colLast target 5 = r.master := by
  rw [State.granted, if_pos small]
  exact look_put_self ..

/-- The memories and the HBM. -/
theorem State.accessed_memory (s : State) {a n : Nat} (memory : tg ∈ [0, 1, 3]) :
    s.accessed tg a n r = if r.write then s.setMem a (r.data.take n) else s.emit (.col tg (s.memBytes a n)) := by
  simp only [List.mem_cons, List.not_mem_nil, or_false] at memory
  obtain rfl | rfl | rfl := memory <;> rfl

theorem State.accessed_last (s : State) {a n : Nat} (memory : tg ∈ [0, 1, 3]) : (s.accessed tg a n r).colLast = s.colLast := by
  rw [s.accessed_memory memory]
  split
  · exact (s.setMem_only ..).same .colLast
  · rfl

/-! ## The requests of the spec -/

theorem colRequest_moves (awake : s.awake) (master : r.master < 6) (data : r.data ≠ []) (at_ : a = s.busAddr r.master r.addr)
    (piece : n = colPiece a r.data.length) (check : colCheck r.master a n r.write (colTrust r) = .inl target)
    (answers : r.targetError = false) (memory : target ∈ [0, 1, 3]) :
    Completes (.colRequest dt target [r]) s fun t =>
      if r.write then ∀ b, t.memByte b = if a ≤ b ∧ b < a + n then r.data.getD (b - a) 0 else s.memByte b
      else Out.col target (s.memBytes a n) ∈ t.out ∧ t.mem = s.mem := by
  subst piece
  have waits : s.waitsFor target r = true := State.waitsFor_of master data (by rw [← at_, colTarget_of_check check]; rfl)
  have call : execColRequest dt target [r] s = _ := colRequest_accepts awake (s.colWinner_one waits) at_ check answers
  rw [State.accessed_memory _ memory] at call
  let u := (s.tick dt).granted target r
  have mem : u.mem = s.mem := ((s.tick dt).granted_only target r).same .mem
  refine ⟨_, call, ?_⟩
  split
  · intro b
    have short : colPiece a r.data.length ≤ r.data.length := Nat.min_le_left ..
    generalize colPiece a r.data.length = n at short ⊢
    have length : (r.data.take n).length = n := List.length_take_of_le short
    split
    next inside =>
      obtain ⟨k, rfl⟩ := Nat.exists_eq_add_of_le inside.1
      have small : k < n := by omega
      rw [State.memByte_setMem_in _ _ _ _ (small.trans_eq length.symm), Nat.add_sub_cancel_left, List.getElem_take,
        List.getD_eq_getElem _ _ (small.trans_le short)]
    next outside =>
      rw [State.memByte_setMem_out _ _ _ _ (by omega)]
      exact congrArg (storeGet memDefault · b) mem
  · refine ⟨?_, mem⟩
    rw [State.memBytes_congr mem]
    exact State.mem_emit ..

theorem colRequest_arbitrates {wake : Nat} (awake : s.awake) (master : r.master < 6) (data : r.data ≠ []) (other : x.master < 6)
    (otherData : x.data ≠ []) (at_ : a = s.busAddr r.master r.addr)
    (cycles : wake = if bit (s.regN 0x40020004) target then 0 else 2)
    (check : colCheck r.master a (colPiece a r.data.length) r.write (colTrust r) = .inl target) (answers : r.targetError = false)
    (there : (colTarget (s.busAddr x.master x.addr)).getD 7 = target) (memory : target ∈ [0, 1, 3])
    (wins : s.colQos x wake < s.colQos r wake ∨ s.colQos x wake = s.colQos r wake ∧
      robin (look s.colLast target 5) r.master < robin (look s.colLast target 5) x.master) :
    (Completes (.colRequest dt target [r, x]) s fun t => look t.colLast target 5 = r.master) ∧
      Completes (.colRequest dt target [x, r]) s fun t => look t.colLast target 5 = r.master := by
  subst cycles
  have small : target < 6 := by
    simp only [List.mem_cons, List.not_mem_nil, or_false] at memory
    omega
  have waits : s.waitsFor target r = true := State.waitsFor_of master data (by rw [← at_, colTarget_of_check check]; rfl)
  obtain ⟨first, second⟩ := s.colWinner_two waits (State.waitsFor_of other otherData there) wins
  have one : execColRequest dt target [r, x] s = _ := colRequest_accepts awake first at_ check answers
  have two : execColRequest dt target [x, r] s = _ := colRequest_accepts awake second at_ check answers
  have last : look (((s.tick dt).granted target r).accessed target a (colPiece a r.data.length) r).colLast target 5 = r.master := by
    rw [State.accessed_last _ memory]
    exact (s.tick dt).granted_last r small
  exact ⟨⟨_, one, last⟩, _, two, last⟩

/-- A refusal latched, where none has been (R541). -/
def State.colLatch (s : State) (master target reason a : Nat) (write : Bool) : State :=
  if bit (s.regN 0x40020048) 31 then s
  else ((s.setRegN 0x40020040 (a % 2 ^ 32)).setRegN 0x40020044 (a / 2 ^ 32 % 65536)).setRegN 0x40020048
    (master + 16 * target + 256 * b2n write + 1024 * reason + 2 ^ 31)

theorem State.colLatch_only (s : State) (master target reason a : Nat) (write : Bool) :
    Only ⟨[.regs], [], []⟩ s (s.colLatch master target reason a write) := by
  unfold State.colLatch
  split
  · exact .refl _ _
  · exact (State.setRegN_regs ..).seq ((State.setRegN_regs ..).seq (State.setRegN_regs ..))

theorem State.colRefuse_refuses (s : State) (master target reason a : Nat) (write : Bool) :
    let t := s.colRefuse master target reason a write
    t.mem = s.mem ∧ Counted Obj.colRefused master 1 s t ∧ bit (t.regN 0x40020050) 0 = true ∧
      (bit (s.regN 0x40020048) 31 = false → t.regN 0x40020040 = a % 2 ^ 32) := by
  let u := s.colLatch master target reason a write
  let v := u.bumpReg 0x4002004C
  let w := v.bump Obj.colRefused master
  let y := w.setRegBit 0x40020050 0 true
  have refuses : s.colRefuse master target reason a write = y.raiseLimited Ev.colAccessRefused 0 master := rfl
  have latch : Only ⟨[.regs], [], []⟩ s u := s.colLatch_only ..
  have total := u.bumpReg_only 0x4002004C 1
  have count := v.bump_only Obj.colRefused master 1
  have line := w.setRegBit_regs 0x40020050 0 true
  have raise := y.raiseLimited_only Ev.colAccessRefused 0 master
  have before : v.n Obj.colRefused master = s.n Obj.colRefused master := (total.n ..).trans (latch.n ..)
  rw [refuses]
  refine ⟨?_, ?_, ?_, fun free => ?_⟩
  · exact (raise.same .mem).trans ((line.same .mem).trans ((count.same .mem).trans ((total.same .mem).trans (latch.same .mem))))
  · exact (((v.bump_counted Obj.colRefused master).still line).still raise).from_same before
  · rw [raise.regN (by decide)]
    exact State.bit_setRegBit_self ..
  · have latched : u.regN 0x40020040 = a % 2 ^ 32 := by
      rw [show u = _ from if_neg (by rw [free]; decide), State.regN_setRegN_ne _ _ (by decide), State.regN_setRegN_ne _ _ (by decide),
        State.regN_setRegN_self, Nat.mod_mod]
    rw [raise.regN (by decide), State.regN_setRegBit_ne _ 0 true (by decide), count.regN (by decide), total.regN (by decide)]
    exact latched

theorem State.granted_regs (s : State) {off : Nat} (status : off ≠ 0x40020004) (wait : ∀ k < 6, off ≠ 0x40020060 + 4 * k) :
    (s.granted target r).regN off = s.regN off := by
  unfold State.granted
  split
  next small => exact (State.regN_setRegN_ne _ _ (wait target small)).trans (State.regN_setRegBit_ne _ target true status)
  · rfl

theorem colRequest_refused (awake : s.awake) (master : r.master < 6) (other : r.master ≠ 1)
    (bedrock : r.master = 0 → r.trusted = true) (data : r.data ≠ []) (at_ : a = s.busAddr r.master r.addr)
    (here : (colTarget a).getD 7 = target)
    (check : colCheck r.master a (colPiece a r.data.length) r.write (colTrust r) = .inr (reason, tg)) :
    Completes (.colRequest dt target [r]) s fun t =>
      t.mem = s.mem ∧ Counted Obj.colRefused r.master 1 s t ∧ bit (t.regN 0x40020050) 0 = true ∧
        (bit (s.regN 0x40020048) 31 = false → t.regN 0x40020040 = a % 2 ^ 32) := by
  have waits : s.waitsFor target r = true := State.waitsFor_of master data (at_ ▸ here)
  have call : execColRequest dt target [r] s = _ := colRequest_refuses awake (s.colWinner_one waits) at_ check
  let u := (s.tick dt).granted target r
  have error : u.colError r a tg reason = u.colRefuse r.master tg reason a r.write := by
    have trusted : ¬ (decide (r.master = 0) && !r.trusted) = true := by
      by_cases zero : r.master = 0
      · rw [bedrock zero, Bool.not_true, Bool.and_false]
        decide
      · rw [decide_eq_false zero, Bool.false_and]
        decide
    rw [State.colError, if_neg trusted, if_neg other]
  rw [error] at call
  have grant : Only _ (s.tick dt) u := (s.tick dt).granted_only target r
  obtain ⟨mem, counted, line, latched⟩ := u.colRefuse_refuses r.master tg reason a r.write
  have valid : u.regN 0x40020048 = s.regN 0x40020048 := (s.tick dt).granted_regs (by decide) (by decide)
  exact ⟨_, call, mem.trans (grant.same .mem), counted.from_same (grant.n ..), line, valid ▸ latched⟩

end

end Sys2Proof.Machine

end

section

/-! PROOFS. O50, continued: the clocks, the aperture, the caches and the registers of Col (R517, R520, R521, R538 to R542, R560). -/

namespace Sys2Proof.Machine

set_option Elab.async false

section
variable {s : State} {dt : Nat}

/-! ## Clocks, the aperture, interrupts and caches -/

theorem colPortClockStop_stops {target : Nat} (awake : s.awake) (small : target < 6) :
    Completes (.colPortClockStop dt target) s fun t => bit (t.regN 0x40020004) target = false := by
  have call : execColPortClockStop dt target s = _ := actIf_next awake (decide_eq_true small)
  refine ⟨_, call, ?_⟩
  exact (s.tick dt).bit_setRegBit_self 0x40020004 target false (by omega)

/-- What a refused write of COL_APBASE leaves (R542). -/
def State.apbaseRefused (s : State) : State := (s.setRegBit 0x40020034 0 true).setRegBit 0x40020050 1 true

theorem colApertureRefused_bounds {value : Nat} {trusted : Bool} (awake : s.awake) :
    Completes (.colApertureRefused dt value trusted) s fun t =>
      if trusted = true ∨ (Config.hbmRegion ≤ field value 0 9 ∧ field value 0 9 ≤ Config.hbmRegion + 15) then
        t.regN 0x40020030 = field value 0 9
      else t.regN 0x40020030 = s.regN 0x40020030 ∧ bit (t.regN 0x40020034) 0 = true ∧ Raised Ev.colApertureRefused 0 s t := by
  have call : execColApertureRefused dt value trusted s = _ := act_next awake
  have same : ((trusted || (decide (Config.hbmRegion ≤ field value 0 9) && decide (field value 0 9 ≤ Config.hbmRegion + 15))) = true) =
      (trusted = true ∨ (Config.hbmRegion ≤ field value 0 9 ∧ field value 0 9 ≤ Config.hbmRegion + 15)) := by
    simp only [Bool.or_eq_true, Bool.and_eq_true, decide_eq_true_eq]
  refine ⟨_, call, ?_⟩
  unfold State.apbaseWrite
  dsimp only
  by_cases inside : trusted = true ∨ (Config.hbmRegion ≤ field value 0 9 ∧ field value 0 9 ≤ Config.hbmRegion + 15)
  · rw [if_pos inside, if_pos (same.symm ▸ inside), State.regN_setRegN_self]
    unfold field
    omega
  · rw [if_neg inside, if_neg (same.symm ▸ inside)]
    let u := (s.tick dt).apbaseRefused
    have raise := u.raise_only Ev.colApertureRefused 0
    have only : Only ⟨[.regs], [], []⟩ (s.tick dt) u := (State.setRegBit_regs ..).seq (State.setRegBit_regs ..)
    have before : Raises [] s u := .still only (.of_objs rfl)
    refine ⟨?_, ?_, (u.raise_raised Ev.colApertureRefused 0).before before⟩
    · refine (raise.regN (by decide)).trans ((State.regN_setRegBit_ne _ 1 true (by decide)).trans ?_)
      exact State.regN_setRegBit_ne _ 0 true (by decide)
    · have status : (u.raise Ev.colApertureRefused 0).regN 0x40020034 = ((s.tick dt).setRegBit 0x40020034 0 true).regN 0x40020034 :=
        (raise.regN (by decide)).trans (State.regN_setRegBit_ne _ 1 true (by decide))
      have set : bit (((s.tick dt).setRegBit 0x40020034 0 true).regN 0x40020034) 0 = true := State.bit_setRegBit_self ..
      exact (congrArg (bit · 0) status).trans set

theorem interruptForward_forwards {line : Nat} (gated : s.gated) (asserted : s.lineUp line = true) :
    Completes (.interruptForward dt line) s fun t => Out.interrupt line ∈ t.out := by
  have due : ((s.tick dt).boot.uplandRuns && (s.tick dt).lineUp line) = true := Bool.and_eq_true_iff.mpr ⟨gated.2, asserted⟩
  have call : execInterruptForward dt line s = _ := actIf_next gated.1 due
  exact ⟨_, call, State.mem_emit ..⟩

theorem State.cacheOp_line (s : State) {addr : Nat} (line : colTarget addr = some 1) : s.cacheOp addr = s := by
  rw [State.cacheOp, line]
  rfl

/-- A cache instruction outside Upland SRAM stops Upland with ALIGN (R520). -/
theorem State.faultStays.cacheOp_stops (stays : s.faultStays dt) (runs : s.boot.uplandRuns = true) {addr : Nat}
    (other : colTarget addr ≠ some 1) : UplandStopped 4 s ((s.tick dt).cacheOp addr) := by
  let d := (s.tick dt).draw
  have faults : (s.tick dt).cacheOp addr = d.2.uplandRestart 4 (d.1 % 2 ^ 32) addr := by
    have runs : (s.tick dt).boot.uplandRuns = true := runs
    rw [State.cacheOp, runs, if_neg]
    simp only [Bool.not_true, Bool.or_false, decide_eq_true_eq]
    exact other
  obtain ⟨trial, few⟩ := stays
  obtain ⟨⟨runs, restarts, sessions, cause, raised⟩, -⟩ :=
    d.2.uplandRestart_stops (cause := 4) (d.1 % 2 ^ 32) addr (by decide) trial (Nat.succ_lt_succ few)
  rw [faults]
  exact ⟨runs, restarts, sessions, cause, raised⟩

/-! ## Registers and memory that Upland writes -/

theorem colTarget_upland {a : Nat} (low : 0x10000000 ≤ a) (high : a < 0x10800000) : colTarget a = some 1 := by
  rw [colTarget, if_neg, if_pos]
  · simp only [Bool.and_eq_true, decide_eq_true_eq]
    exact ⟨low, high⟩
  · simp only [Bool.and_eq_true, decide_eq_true_eq]
    omega

theorem State.busAddr_low (s : State) {a : Nat} (low : a < 0x90000000) : s.busAddr 0 a = a :=
  if_neg (by simp only [Bool.and_eq_true, decide_eq_true_eq]; omega)

theorem registerWrite_sram {addr value : Nat} {trusted : Bool} (awake : s.awake) (low : 0x10000000 ≤ addr)
    (high : addr + 4 ≤ 0x10800000) :
    Completes (.registerWrite dt addr value trusted) s fun t =>
      t.memWord addr = value % 2 ^ 32 ∧ ∀ b, b < addr ∨ addr + 4 ≤ b → t.memByte b = s.memByte b := by
  have check : colCheck 0 addr 4 true trusted = .inl 1 := by
    have last : colTarget (addr + 4 - 1) = some 1 := colTarget_upland (by omega) (by omega)
    rw [colCheck, colTarget_upland low (by omega)]
    dsimp only
    have may : untrustedOk 0 1 addr 4 true = true := rfl
    rw [last, may, if_neg (by decide), if_neg (by cases trusted <;> decide)]
  have next : execRegisterWrite dt addr value trusted s = .next ((s.tick dt).setMem addr (leBytes 4 value)) := by
    refine (act_next awake).trans (congrArg Host.Outcome.next ?_)
    rw [State.busAddr_low _ (by omega)]
    dsimp only
    rw [check]
    rfl
  refine ⟨_, next, State.memWord_setMem .., fun b outside => ?_⟩
  exact (State.memByte_setMem_out _ _ _ _ (by rw [leBytes_length]; exact outside))

/-- A register that takes every bit of a write. -/
theorem registerWrite_whole {a value : Nat} {trusted : Bool} (awake : s.awake) (low : 0x40000000 ≤ a) (high : a + 4 ≤ 0x40090000)
    (other : ¬ (0x40010000 ≤ a ∧ a < 0x40020000)) (word : a / 4 * 4 = a)
    (plain : (s.tick dt).busReg a value trusted = (s.tick dt).busWrite a (value % 2 ^ 32))
    (row : regRow a = some ⟨a, 0, 0xFFFFFFFF, 0, false⟩) :
    Completes (.registerWrite dt a value trusted) s fun t => t.regN a = value % 2 ^ 32 := by
  refine ⟨_, registerWrite_next awake low high other word .., ?_⟩
  rw [plain]
  exact (State.busWrite_whole _ row rfl rfl _).trans (Nat.mod_mod ..)

theorem registerWrite_load {k value : Nat} {trusted : Bool} (awake : s.awake) (small : k < 4) :
    Completes (.registerWrite dt (tmw k 0x10) value trusted) s fun t => t.regN (tmw k 0x10) = value % 2 ^ 32 := by
  have timer : k = 0 ∨ k = 1 ∨ k = 2 ∨ k = 3 := by omega
  refine registerWrite_whole awake ?_ ?_ ?_ ?_ ?_ ?_
  any_goals unfold tmw; omega
  · obtain rfl | rfl | rfl | rfl := timer <;> cases trusted <;> rfl
  · obtain rfl | rfl | rfl | rfl := timer <;> decide +kernel

/-- The trusted key store takes nothing from Upland (R517). -/
theorem registerWrite_keyStore {addr value : Nat} (awake : s.awake) (low : 0x40070000 ≤ addr) (high : addr + 4 ≤ 0x40080000) :
    Completes (.registerWrite dt addr value false) s fun t => t = s.tick dt := by
  have next : execRegisterWrite dt addr value false s = .next (s.tick dt) := by
    refine (act_next awake).trans (congrArg Host.Outcome.next ?_)
    rw [State.busAddr_low _ (by omega)]
    dsimp only
    rw [colCheck_register (by omega) (by omega), if_neg (by simp only [Bool.and_eq_true, decide_eq_true_eq]; omega)]
    refine if_pos ?_
    have first : 0x40070000 ≤ addr / 4 * 4 := by omega
    have last : addr / 4 * 4 < 0x40080000 := by omega
    rw [decide_eq_true first, decide_eq_true last]
    rfl
  exact ⟨_, next, rfl⟩

/-! ## Clear registers (R560) -/

theorem State.regN_clears (s : State) (l : List Nat) (a : Nat) :
    (l.foldl (fun t a => t.setRegN a 0) s).regN a = if a ∈ l then 0 else s.regN a := by
  induction l generalizing s with
  | nil => rfl
  | cons b l ih =>
    rw [List.foldl_cons, ih, State.regN_setRegN]
    by_cases later : a ∈ l
    · rw [if_pos later, if_pos (List.mem_cons_of_mem _ later)]
    · simp only [later, List.mem_cons, or_false, if_false, Nat.zero_mod]

theorem regCounterClear_clears {addr value : Nat} (awake : s.awake) :
    Completes (.regCounterClear dt addr value) s fun t =>
      (∀ a, a ∉ clearRange addr → t.regN a = s.regN a) ∧
        if bit value 0 = true then ∀ a ∈ clearRange addr, t.regN a = 0 else t = s.tick dt := by
  have call : execRegCounterClear dt addr value s = _ := act_next awake
  refine ⟨_, call, ?_⟩
  unfold State.clearRegs
  split
  · exact ⟨fun a out => (State.regN_clears ..).trans (if_neg out), fun a in_ => (State.regN_clears ..).trans (if_pos in_)⟩
  · exact ⟨fun _ _ => rfl, rfl⟩

end

/-- Settles O50: what Col grants, refuses and forwards, clause by clause. -/
theorem colServes : Obligations.ColServes := by
  unfold Obligations.ColServes
  refine ⟨?_, ?_, ?_, ?_, ?_, ?_, ?_, ?_, ?_, ?_, ?_, ?_, ?_⟩
  · exact fun s dt target r a n => colRequest_moves
  · exact fun s dt target r x a wake => colRequest_arbitrates
  · exact fun s dt target r a reason tg => colRequest_refused
  · exact fun s dt target => colPortClockStop_stops
  · exact fun s dt value awake => ⟨_, (act_next awake : execColFence dt value s = _), rfl⟩
  · exact fun s dt value trusted => colApertureRefused_bounds
  · exact fun s dt line => interruptForward_forwards
  · intro s dt addr awake line
    have same := (s.tick dt).cacheOp_line line
    exact ⟨⟨_, (act_next awake : execCacheClean dt addr s = _), same⟩, ⟨_, (act_next awake : execCacheInval dt addr s = _), same⟩,
      _, (act_next awake : execCacheCleanInval dt addr s = _), same⟩
  · intro s dt addr gated stays other
    have stops := stays.cacheOp_stops gated.2 other
    exact ⟨⟨_, (act_next gated.1 : execCacheClean dt addr s = _), stops⟩,
      ⟨_, (act_next gated.1 : execCacheInval dt addr s = _), stops⟩, _, (act_next gated.1 : execCacheCleanInval dt addr s = _), stops⟩
  · exact fun s dt addr value trusted => registerWrite_sram
  · exact fun s dt k value trusted => registerWrite_load
  · exact fun s dt addr value => registerWrite_keyStore
  · exact fun s dt addr value => regCounterClear_clears

end Sys2Proof.Machine

end

section

/-! SUPPORT. The Scree engine (R544 to R551): what it writes of a descriptor, and what a halt leaves. -/

namespace Sys2Proof.Machine

set_option Elab.async false

section
variable {s t : State} {n k code : Nat}

/-! ## Registers of the engine -/

theorem field_mod_word32 {x lo hi : Nat} (h : hi < 32) : field (x % 2 ^ 32) lo hi = field x lo hi :=
  field_congr fun _ _ high => bit_mod_word (by omega) _

theorem field_setField_out {x lo hi v lo' hi' : Nat} (h : lo ≤ hi ∧ (hi' < lo ∨ hi < lo')) :
    field (setField x lo hi v) lo' hi' = field x lo' hi' :=
  field_congr fun _ low high => bit_setField_out (by omega)

/-- A register of a channel is none of the engine's own. -/
theorem scrCh_ne {off own : Nat} (small : own < 0x100) : scrCh n off ≠ scrRg own := by
  unfold scrCh scrRg
  omega

/-- Two registers of one channel. -/
theorem scrCh_ne_off {off off' : Nat} (other : off ≠ off') : scrCh n off ≠ scrCh n off' := by
  unfold scrCh
  omega

/-- No register of the engine is one of the event registers. -/
theorem scrRg_apart (off : Nat) (l : List Nat) (h : ∀ a ∈ l, a < 0x40010000) : scrRg off ∉ l := fun m => by
  have low := h _ m
  unfold scrRg at low
  omega

theorem scrCh_apart (off : Nat) (l : List Nat) (h : ∀ a ∈ l, a < 0x40010000) : scrCh n off ∉ l := fun m => by
  have low := h _ m
  unfold scrCh at low
  omega

/-- A register of a channel lies below the blocks behind Scree. -/
theorem scrCh_apart_above {off : Nat} (channel : n < 16) (small : off < 0x20) (l : List Nat)
    (h : ∀ a ∈ l, a < 0x40010000 ∨ 0x40010300 ≤ a) : scrCh n off ∉ l := fun m => by
  have apart := h _ m
  unfold scrCh at apart
  omega

/-- The registers that a channel's next descriptor stands in. -/
theorem State.scrDesc_congr (h : ∀ off < 0x20, t.regN (scrCh n off) = s.regN (scrCh n off)) : t.scrDesc n = s.scrDesc n := by
  unfold State.scrDesc State.scrHead State.regField
  rw [h _ (by decide), h _ (by decide), h _ (by decide)]

theorem State.scrHead_congr (h : ∀ off < 0x20, t.regN (scrCh n off) = s.regN (scrCh n off)) : t.scrHead n = s.scrHead n := by
  unfold State.scrHead State.regField
  rw [h _ (by decide)]

/-- A counter of the engine leaves the channels and the engine's other registers. -/
theorem State.bumpReg_regs (s : State) {own a : Nat} (other : a ≠ scrRg own) (apart : ∀ b ∈ [0x40000004, 0x40000008], a ≠ b) :
    (s.bumpReg (scrRg own)).regN a = s.regN a := by
  refine (s.bumpReg_only (scrRg own) 1).regN ?_ (show Part.regs ∉ [Part.out, .pinned, .ev, .flashJournal, .diskJournal] by decide)
  rw [List.mem_cons, not_or]
  exact ⟨other, fun m => apart _ m rfl⟩

/-! ## Memory that the engine reaches -/

/-- A range of Upland SRAM is open to Scree (R518, R533). -/
theorem colCheck_scree {a n : Nat} (low : 0x10000000 ≤ a) (some_ : 0 < n) (high : a + n ≤ 0x10800000) (write : Bool) :
    colCheck 1 a n write false = .inl 1 := by
  have last : colTarget (a + n - 1) = some 1 := colTarget_upland (by omega) (by omega)
  have may : untrustedOk 1 1 a n write = true := rfl
  rw [colCheck, colTarget_upland low (by omega)]
  dsimp only
  rw [last, may, if_neg (by decide), if_neg (by decide)]

theorem State.scrWord_sram (s : State) {v : Nat} (low : 0x10000000 ≤ s.scrDesc n + 4 * k) (high : s.scrDesc n + 4 * k + 4 ≤ 0x10800000) :
    s.scrWord n k v = s.setMem (s.scrDesc n + 4 * k) (leBytes 4 v) := by
  unfold State.scrWord
  dsimp only
  rw [colCheck_scree low (by decide) high]
  rfl

theorem State.memWord_setMem_out (s : State) {a b v : Nat} (apart : b + 4 ≤ a ∨ a + 4 ≤ b) :
    (s.setMem a (leBytes 4 v)).memWord b = s.memWord b := by
  unfold State.memWord
  simp only [State.memBytes]
  rw [State.memByte_setMem_out, State.memByte_setMem_out, State.memByte_setMem_out, State.memByte_setMem_out]
  all_goals rw [leBytes_length]; omega

/-- Words 9 and 10 of a descriptor have been written (R549, R550), and nothing else. -/
structure WordsWritten (d status bytes : Nat) (s t : State) : Prop where
  only : Only ⟨[.mem], [], []⟩ s t
  status : t.memWord (d + 36) = status % 2 ^ 32
  bytes : t.memWord (d + 40) = bytes % 2 ^ 32
  memory : ∀ b, b < d + 36 ∨ d + 44 ≤ b → t.memByte b = s.memByte b

theorem State.scrWrite_writes {bytes : Nat} (s : State) (inside : s.descIn n) (done : Bool) :
    WordsWritten (s.scrDesc n) (code % 256 + if done then 2 ^ 31 else 0) bytes s (s.scrWrite n bytes code done) := by
  obtain ⟨low, high⟩ := inside
  let d := s.scrDesc n
  let v := code % 256 + if done then 2 ^ 31 else 0
  let u := s.setMem (d + 40) (leBytes 4 bytes)
  have first : s.scrWord n 10 bytes = u := s.scrWord_sram (by omega) (by omega)
  have desc : u.scrDesc n = d := State.scrDesc_congr fun off _ => (s.setMem_only ..).regN List.not_mem_nil
  have write : s.scrWrite n bytes code done = u.setMem (d + 36) (leBytes 4 v) := by
    rw [State.scrWrite, first, u.scrWord_sram (by rw [desc]; omega) (by rw [desc]; omega), desc]
  rw [write]
  refine ⟨(State.setMem_only ..).seq (s.setMem_only ..), State.memWord_setMem .., ?_, fun b out => ?_⟩
  · exact (u.memWord_setMem_out (by omega)).trans (s.memWord_setMem ..)
  · rw [State.memByte_setMem_out _ _ _ _ (by rw [leBytes_length]; omega),
      State.memByte_setMem_out _ _ _ _ (by rw [leBytes_length]; omega)]

theorem State.memWord_congr (mem : t.mem = s.mem) (a : Nat) : t.memWord a = s.memWord a :=
  congrArg fromLe (State.memBytes_congr mem a 4)

theorem State.memByte_congr (mem : t.mem = s.mem) (a : Nat) : t.memByte a = s.memByte a := congrArg (storeGet memDefault · a) mem

/-! ## A halt (R550) -/

/-- The status register of an engine halted on a channel. -/
def haltStatus (x n code : Nat) : Nat := setField (setField (setField (setField x 0 0 0) 1 1 1) 8 11 n) 12 19 code

theorem haltStatus_fields (x : Nat) (channel : n < 16) (small : code < 256) :
    bit (haltStatus x n code) 1 = true ∧ field (haltStatus x n code) 8 11 = n ∧ field (haltStatus x n code) 12 19 = code := by
  unfold haltStatus
  refine ⟨?_, ?_, ?_⟩
  · rw [bit_setField_out (by decide), bit_setField_out (by decide), bit_setField (by decide) (by decide)]
    rfl
  · rw [field_setField_out (by decide), field_setField]
    exact Nat.mod_eq_of_lt channel
  · rw [field_setField]
    exact Nat.mod_eq_of_lt small

/-- What a halt leaves (R550): the engine stands on the channel's descriptor with the code; memory and the channels' registers
are as before. -/
structure Halts (n code : Nat) (s t : State) : Prop where
  halted : HaltedBy n code s t
  mem : t.mem = s.mem
  channels : ∀ m off, t.regN (scrCh m off) = s.regN (scrCh m off)

theorem State.scrHalt_halts (s : State) (channel : n < 16) (small : code < 256) : Halts n code s (s.scrHalt n code) := by
  let t0 : State := { s with scr := { s.scr with run := none, removed := false } }
  let t1 := t0.setRegN (scrRg 4) (haltStatus (t0.regN (scrRg 4)) n code)
  let t2 := t1.setRegBit (scrRg 0x10) 16 true
  let t3 := t2.bumpReg (scrRg 0x24)
  have halt : s.scrHalt n code = t3.raise Ev.scrHalted n := rfl
  have raise := t3.raise_only Ev.scrHalted n
  have count := t2.bumpReg_only (scrRg 0x24) 1
  have status : Only ⟨[.regs], [], []⟩ t0 t2 := (State.setRegBit_regs ..).seq (State.setRegN_regs ..)
  have own : (t3.raise Ev.scrHalted n).regN (scrRg 4) = haltStatus (t0.regN (scrRg 4)) n code % 2 ^ 32 := by
    rw [raise.regN (scrRg_apart 4 _ (by decide)), t2.bumpReg_regs (by decide) (by decide),
      State.regN_setRegBit_ne _ 16 true (by decide), State.regN_setRegN_self]
  have channels (m off : Nat) : (t3.raise Ev.scrHalted n).regN (scrCh m off) = s.regN (scrCh m off) := by
    have apart : ∀ b ∈ [0x40000004, 0x40000008], scrCh m off ≠ b := fun b at_ same => scrCh_apart off _ (by decide) (same ▸ at_)
    rw [raise.regN (scrCh_apart off _ (by decide)), t2.bumpReg_regs (scrCh_ne (by decide)) apart,
      State.regN_setRegBit_ne _ 16 true (scrCh_ne (by decide)), State.regN_setRegN_ne _ _ (scrCh_ne (by decide))]
    rfl
  have before : Raises [Ev.regCounterPinned] s t3 :=
    (t2.bumpReg_raises (scrRg 0x24) 1).seq ((Raises.still status (.of_objs rfl) : Raises [] s t2).up (by decide))
  obtain ⟨halted, name, cause⟩ := haltStatus_fields (t0.regN (scrRg 4)) channel small
  rw [halt]
  refine ⟨⟨?_, ?_, ?_, ?_, State.scrHead_congr fun off _ => channels n off, (t3.raise_raised Ev.scrHalted n).before before⟩, ?_, channels⟩
  · have run : (t3.raise Ev.scrHalted n).scr = t0.scr := (raise.same .scr).trans ((count.same .scr).trans (status.same .scr))
    rw [run]
  · rw [State.scrHalted, own, bit_mod_word (by decide)]
    exact halted
  · rw [State.regField, own, field_mod_word32 (by decide)]
    exact name
  · rw [State.regField, own, field_mod_word32 (by decide)]
    exact cause
  · exact (raise.same .mem).trans ((count.same .mem).trans (status.same .mem))

theorem HaltedBy.since {u : State} (h : HaltedBy n code t u) (channels : ∀ off < 0x20, t.regN (scrCh n off) = s.regN (scrCh n off))
    {l : List Nat} (raises : Raises l s t) (other : Ev.scrHalted % 65536 ∉ l := by decide) : HaltedBy n code s u := by
  obtain ⟨run, halted, name, cause, head, raised⟩ := h
  exact ⟨run, halted, name, cause, head.trans (State.scrHead_congr channels), raised.before raises other⟩

/-- The running descriptor ends with a code (R550): in words 9 and 10, and in the status. -/
structure Fails (r : ScrRun) (code : Nat) (s t : State) : Prop where
  halted : HaltedBy r.channel code s t
  status : t.memWord (s.scrDesc r.channel + 36) = code
  bytes : t.memWord (s.scrDesc r.channel + 40) = r.moved % 2 ^ 32

theorem State.scrFail_fails (s : State) {r : ScrRun} (run : s.scr.run = some r) (channel : r.channel < 16) (inside : s.descIn r.channel)
    (small : code < 256) : Fails r code s (s.scrFail code) := by
  let u := s.scrWrite r.channel r.moved code false
  have fail : s.scrFail code = u.scrHalt r.channel code := by
    rw [State.scrFail, run]
  have writes := s.scrWrite_writes (code := code) (bytes := r.moved) inside false
  have halts := u.scrHalt_halts channel small
  rw [fail]
  refine ⟨halts.halted.since (fun off _ => writes.only.regN List.not_mem_nil) (Raises.of_only writes.only : Raises [] s u), ?_, ?_⟩
  · rw [State.memWord_congr halts.mem, writes.status, if_neg Bool.false_ne_true]
    omega
  · rw [State.memWord_congr halts.mem]
    exact writes.bytes

end

end Sys2Proof.Machine

end

section

/-! PROOFS. O51: descriptors that start and that end with an error (R544, R546 to R550). -/

namespace Sys2Proof.Machine

set_option Elab.async false

section
variable {s t : State} {dt n code : Nat} {r : ScrRun} {w : List Nat}

/-! ## Refusals and bursts -/

theorem State.colRefuse_raises (s : State) (master target reason a : Nat) (write : Bool) :
    Raises [Ev.regCounterPinned, Ev.colAccessRefused] s (s.colRefuse master target reason a write) := by
  let u := s.colLatch master target reason a write
  let v := u.bumpReg 0x4002004C
  let x := v.bump Obj.colRefused master
  have latched : Raises [] s u := .of_only (s.colLatch_only ..)
  have counts : Raises [Ev.regCounterPinned] s v := (u.bumpReg_raises _ 1).seq (latched.up (by decide))
  have refused : Raises [Ev.regCounterPinned, Ev.colAccessRefused] s x := (v.bump_raises (l := []) Obj.colRefused master 1).seq (counts.up (by decide))
  exact (State.raiseLimited_raises ..).seq (.still (x.setRegBit_regs 0x40020050 0 true) refused)

/-- A refusal leaves the channels of Scree as they are. -/
theorem State.colRefuse_channels (s : State) (master target reason a : Nat) (write : Bool) (channel : n < 16) {off : Nat}
    (small : off < 0x20) : (s.colRefuse master target reason a write).regN (scrCh n off) = s.regN (scrCh n off) :=
  (s.colRefuse_only master target reason a write).regN (scrCh_apart_above channel small _ (by decide))

/-- No burst moves where none may. -/
theorem State.scrBursts_zero (s : State) (k : Nat) : s.scrBursts 0 k = s := by
  cases k with
  | zero => rfl
  | succ k =>
    unfold State.scrBursts
    split
    · rfl
    · exact if_pos (by rw [Nat.min_zero]; exact Nat.zero_le _)

/-- No burst moves once every byte has. -/
theorem State.scrBursts_counted (s : State) (run : s.scr.run = some r) (counted : r.counted = true) (k : Nat) :
    s.scrBursts (dTotal r.words) k = s := by
  cases k with
  | zero => rfl
  | succ k =>
    unfold State.scrBursts
    rw [run]
    exact if_pos (by rw [Nat.min_self]; exact of_decide_eq_true counted)

theorem State.scrRest_counted (s : State) (run : s.scr.run = some r) (counted : r.counted = true) : s.scrRest = s := by
  unfold State.scrRest
  rw [run]
  exact s.scrBursts_counted run counted _

/-- No whole burst fits into no bytes. -/
theorem State.scrWhole_zero (s : State) (run : s.scr.run = some r) (moves : (s.scrBursts (dTotal r.words) 1).scr.run ≠ none) (k : Nat) :
    s.scrWhole 0 k = s := by
  cases k with
  | zero => rfl
  | succ k =>
    unfold State.scrWhole
    rw [run]
    dsimp only
    obtain ⟨x, moved⟩ := Option.ne_none_iff_exists'.mp moves
    rw [moved]
    refine if_neg ?_
    simp only [Bool.and_eq_true, decide_eq_true_eq]
    omega

/-- An access refused ends the running descriptor (R541, R550). -/
theorem State.refused_fails (s : State) (target reason a : Nat) (write : Bool) (run : s.scr.run = some r) (channel : r.channel < 16)
    (inside : s.descIn r.channel) (small : code < 256) :
    HaltedBy r.channel code s ((s.colRefuse 1 target reason a write).scrFail code) ∧
      ((s.colRefuse 1 target reason a write).scrFail code).memWord (s.scrDesc r.channel + 36) = code := by
  let u := s.colRefuse 1 target reason a write
  have only := s.colRefuse_only 1 target reason a write
  have channels (off : Nat) (low : off < 0x20) : u.regN (scrCh r.channel off) = s.regN (scrCh r.channel off) :=
    s.colRefuse_channels 1 target reason a write channel low
  have desc : u.scrDesc r.channel = s.scrDesc r.channel := State.scrDesc_congr channels
  have run : u.scr.run = some r := (congrArg Scree.run (only.same .scr)).trans run
  have fails := u.scrFail_fails run channel (by rw [State.descIn, desc]; exact inside) small
  exact ⟨fails.halted.since channels (State.colRefuse_raises ..), desc ▸ fails.status⟩

/-! ## A descriptor starts (R544) -/

theorem State.scrFetch_sram (s : State) (inside : s.descIn n) :
    s.scrFetch n = .inl ((chunksOf 4 16 (s.memBytes (s.scrDesc n) 64)).map fromLe, s) := by
  unfold State.scrFetch
  rw [colCheck_scree inside.1 (by decide) inside.2]
  rfl

/-- The engine has chosen a channel. -/
def State.scrChosen (s : State) (n : Nat) : State :=
  { s with scr := { s.scr with lastDone := none } }.setRegN (scrRg 4) (setField (setField (s.regN (scrRg 4)) 0 0 1) 4 7 n)

theorem State.scrChosen_regs (s : State) {a : Nat} (other : a ≠ scrRg 4) : (s.scrChosen n).regN a = s.regN a :=
  State.regN_setRegN_ne _ _ other

/-- The chosen channel's descriptor is fetched and begins. -/
def State.scrBegin (u : State) (n : Nat) : State :=
  match u.scrFetch n with
  | .inr (reason, target) => (u.colRefuse 1 target reason (u.scrDesc n) false).scrHalt n 8
  | .inl (w, t) =>
    let v : State := { t with scr := { t.scr with run := some ⟨n, w, 0, none⟩ } }
    if paramFault w then v.scrFail 4 else if dPeriph w = 0 then v else v.scrBursts (dTotal w) 1

theorem scrDescriptorStart_next (awake : s.awake) (enabled : bit (s.regN (scrRg 0)) 0 = true) (runs : s.scrHalted = false)
    (idle : s.scr.run = none) (ready : (List.range 16).find? (s.tick dt).scrReady = some n) (inside : s.descIn n)
    (words : w = (chunksOf 4 16 (s.memBytes (s.scrDesc n) 64)).map fromLe) :
    let u := (s.tick dt).scrChosen n
    let v : State := { u with scr := { u.scr with run := some ⟨n, w, 0, none⟩ } }
    execScrDescriptorStart dt s =
      .next (if paramFault w then v.scrFail 4 else if dPeriph w = 0 then v else v.scrBursts (dTotal w) 1) := by
  intro u v
  have due : (bit ((s.tick dt).regN (scrRg 0)) 0 && !(s.tick dt).scrHalted && (s.tick dt).scr.run.isNone) = true := by
    have runs : (s.tick dt).scrHalted = false := runs
    have idle : (s.tick dt).scr.run = none := idle
    rw [runs, idle, Bool.not_false, Option.isNone_none, Bool.and_true, Bool.and_true]
    exact enabled
  have desc : u.scrDesc n = s.scrDesc n := State.scrDesc_congr fun _ _ => (s.tick dt).scrChosen_regs (scrCh_ne (by decide))
  have fetch : u.scrFetch n = .inl (w, u) := by
    rw [u.scrFetch_sram (by rw [State.descIn, desc]; exact inside), desc, words, State.memBytes_congr (s := s) (t := u) rfl]
  have begins : execScrDescriptorStart dt s = .next (u.scrBegin n) := by
    refine (actIf_next awake due).trans (congrArg Host.Outcome.next ?_)
    rw [ready]
    rfl
  rw [begins, State.scrBegin, fetch]

theorem scrDescriptorStart_starts (awake : s.awake) (enabled : bit (s.regN (scrRg 0)) 0 = true) (runs : s.scrHalted = false)
    (idle : s.scr.run = none) (ready : (List.range 16).find? (s.tick dt).scrReady = some n) (inside : s.descIn n)
    (words : w = (chunksOf 4 16 (s.memBytes (s.scrDesc n) 64)).map fromLe) :
    Completes (.scrDescriptorStart dt) s fun t =>
      if paramFault w = true then HaltedBy n 4 s t ∧ t.memWord (s.scrDesc n + 36) = 4 ∧ t.memWord (s.scrDesc n + 40) = 0
      else dPeriph w = 0 → t.scr.run = some ⟨n, w, 0, none⟩ ∧ t.regField (scrRg 4) 4 7 = n ∧
        bit (t.regN (scrRg 4)) 0 = true := by
  let u := (s.tick dt).scrChosen n
  let v : State := { u with scr := { u.scr with run := some ⟨n, w, 0, none⟩ } }
  have channel : n < 16 := List.mem_range.mp (List.mem_of_find?_eq_some ready)
  have regs (off : Nat) (_ : off < 0x20) : v.regN (scrCh n off) = s.regN (scrCh n off) :=
    (s.tick dt).scrChosen_regs (scrCh_ne (by decide))
  have desc : v.scrDesc n = s.scrDesc n := State.scrDesc_congr regs
  refine ⟨_, scrDescriptorStart_next awake enabled runs idle ready inside words, ?_⟩
  beta_reduce
  by_cases fault : paramFault w = true
  · rw [if_pos fault, if_pos fault]
    have fails := v.scrFail_fails (r := ⟨n, w, 0, none⟩) (code := 4) rfl channel (by rw [State.descIn, desc]; exact inside) (by decide)
    exact ⟨fails.halted.since regs (Raises.of_objs rfl : Raises [] s v), desc ▸ fails.status, desc ▸ fails.bytes⟩
  · rw [if_neg fault, if_neg fault]
    intro free
    rw [if_pos free]
    have status : v.regN (scrRg 4) = setField (setField (s.regN (scrRg 4)) 0 0 1) 4 7 n % 2 ^ 32 := State.regN_setRegN_self ..
    refine ⟨rfl, ?_, ?_⟩
    · rw [State.regField, status, field_mod_word32 (by decide), field_setField]
      exact Nat.mod_eq_of_lt channel
    · rw [status, bit_mod_word (by decide), bit_setField_out (by decide), bit_setField (by decide) (by decide)]
      rfl

/-! ## A peripheral's request (R548) -/

theorem scrPeriphRequest_idle {p : Nat} {asserted : Bool} (awake : s.awake) (idle : s.scr.run = none) :
    Completes (.scrPeriphRequest dt p asserted) s fun t => t = s.tick dt := by
  have idle : (s.tick dt).scr.run = none := idle
  refine ⟨_, (act_next awake : execScrPeriphRequest dt p asserted s = _), ?_⟩
  beta_reduce
  rw [idle]
  exact ite_self _

theorem scrPeriphRequest_withdrawn {p : Nat} (awake : s.awake) (started : s.boot.stage ≠ .rom) (low : 1 ≤ p) (high : p ≤ 16)
    (withdrawn : s.periphRequest p = false) (run : s.scr.run = some r) (names : dPeriph r.words = p) (left : r.counted = false)
    (flows : r.waitSince = none) :
    Completes (.scrPeriphRequest dt p false) s fun t => t.scr.run = some { r with waitSince := some t.now } := by
  let u := s.tick dt
  have due : (1 ≤ p && p ≤ 16 && false == u.periphRequest p && u.boot.stage != .rom : Bool) = true := by
    have withdrawn : u.periphRequest p = false := withdrawn
    have started : (u.boot.stage != .rom) = true := bne_iff_ne.mpr started
    rw [decide_eq_true low, decide_eq_true high, withdrawn, started]
    rfl
  have call : execScrPeriphRequest dt p false s = .next { u with scr := { u.scr with run := some { r with waitSince := some u.now } } } := by
    have run : u.scr.run = some r := run
    refine (actIf_next awake due).trans (congrArg Host.Outcome.next ?_)
    dsimp only
    rw [run]
    dsimp only
    rw [names, left, flows, if_neg (by rw [bne_self_eq_false]; decide)]
    rfl
  exact ⟨_, call, rfl⟩

/-! ## Errors of a target, and a stall (R548, R550) -/

theorem scrHalted_ends (awake : s.awake) (runs : s.scrHalted = false) (run : s.scr.run = some r) (channel : r.channel < 16)
    (inside : s.descIn r.channel)
    (cause : code = 2 ∨ (code = 1 ∨ code = 3) ∧ ((s.tick dt).scrBursts (dTotal r.words) 1).scr.run ≠ none) :
    Completes (.scrHalted dt code 0) s fun t => HaltedBy r.channel code s t ∧ t.memWord (s.scrDesc r.channel + 36) = code := by
  let u := s.tick dt
  have run : u.scr.run = some r := run
  have due : (!u.scrHalted) = true := congrArg not runs
  have zero (k : Nat) : min 0 (k - 1) = 0 := Nat.zero_min _
  have call : execScrHalted dt code 0 s = _ := actIf_next awake due
  obtain rfl | ⟨read, moves⟩ := cause
  · dsimp only at call
    rw [run] at call
    dsimp only at call
    rw [if_pos rfl, zero, u.scrBursts_zero] at call
    exact ⟨_, call, u.refused_fails _ 2 _ true run channel inside (by decide)⟩
  · have small : code < 256 := by omega
    have whole := u.scrWhole_zero run moves (dTotal r.words)
    have read : (decide (code = 1) || decide (code = 3)) = true := by
      simp only [Bool.or_eq_true, decide_eq_true_eq]
      exact read
    have other : code ≠ 2 := by
      rintro rfl
      cases read
    dsimp only at call
    rw [run] at call
    dsimp only at call
    rw [if_neg other, if_pos read, zero, whole, run] at call
    exact ⟨_, call, u.refused_fails _ 2 _ false run channel inside small⟩

theorem scrHalted_fetch (awake : s.awake) (runs : s.scrHalted = false) (idle : s.scr.run = none)
    (enabled : bit (s.regN (scrRg 0)) 0 = true) (ready : (List.range 16).find? (s.tick dt).scrReady = some n) :
    Completes (.scrHalted dt 8 0) s fun t => HaltedBy n 8 s t ∧ t.mem = s.mem := by
  let u := s.tick dt
  let v := u.colRefuse 1 ((colTarget (u.scrDesc n)).getD 7) 2 (u.scrDesc n) false
  have channel : n < 16 := List.mem_range.mp (List.mem_of_find?_eq_some ready)
  have call : execScrHalted dt 8 0 s = .next (v.scrHalt n 8) := by
    have due : (!u.scrHalted) = true := congrArg not runs
    have idle : u.scr.run = none := idle
    have fetch : (decide (8 = 8) && bit (u.regN (scrRg 0)) 0) = true := enabled
    refine (actIf_next awake due).trans (congrArg Host.Outcome.next ?_)
    dsimp only
    rw [idle]
    dsimp only
    rw [if_pos fetch, ready]
  have halts := v.scrHalt_halts (code := 8) channel (by decide)
  have halted : HaltedBy n 8 u (v.scrHalt n 8) :=
    halts.halted.since (fun off low => u.colRefuse_channels _ _ _ _ _ channel low) (State.colRefuse_raises ..)
  exact ⟨_, call, halted, halts.mem.trans ((u.colRefuse_only ..).same .mem)⟩

theorem scrStall_stalls {a : Nat} (awake : s.awake) (run : s.scr.run = some r) (waits : r.waitSince = some a)
    (channel : r.channel < 16) (inside : s.descIn r.channel) (past : a + s.regField (scrRg 0x18) 0 15 * 1000 ≤ s.now + dt) :
    Completes (.scrStall dt) s fun t => HaltedBy r.channel 6 s t ∧ t.memWord (s.scrDesc r.channel + 36) = 6 := by
  let u := s.tick dt
  have run : u.scr.run = some r := run
  have due : (u.scr.run.elim false fun r => r.waitSince.elim false fun a =>
      decide (a + u.regField (scrRg 0x18) 0 15 * 1000 ≤ u.now)) = true := by
    have past : a + u.regField (scrRg 0x18) 0 15 * 1000 ≤ u.now := past
    rw [run, Option.elim_some, waits, Option.elim_some]
    exact decide_eq_true past
  have call : execScrStall dt s = _ := actIf_next awake due
  have fails := u.scrFail_fails (code := 6) run channel inside (by decide)
  exact ⟨_, call, fails.halted, fails.status⟩

end

end Sys2Proof.Machine

end

section

/-! PROOFS. O51, continued: completion, aborts, CLEAR and TAIL (R544, R549 to R552). -/

namespace Sys2Proof.Machine

set_option Elab.async false

section
variable {s t : State} {dt n code : Nat} {r : ScrRun}

/-! ## TAIL (R544) -/

theorem regRow_scrTail : ∀ n < 16, regRow (scrCh n 0x10) = some ⟨scrCh n 0x10, 0, 0xFF, 0, false⟩ := by decide +kernel

theorem State.busWrite_tail (s : State) (v : Nat) (channel : n < 16) : (s.busWrite (scrCh n 0x10) v).scrTail n = field v 0 7 := by
  have kept : Nat.land (s.regN (scrCh n 0x10)) (0xFFFFFFFF - Nat.lor 0xFF 0) % 2 ^ 8 = 0 :=
    (Nat.and_mod_two_pow ..).trans (Nat.and_zero _)
  have given : Nat.land v 0xFF = v % 2 ^ 8 := Nat.and_two_pow_sub_one_eq_mod v 8
  have cleared : Nat.land (Nat.land (s.regN (scrCh n 0x10)) 0) (0xFFFFFFFF - Nat.land v 0xFFFFFFFF) = 0 := by
    rw [show Nat.land (s.regN (scrCh n 0x10)) 0 = 0 from Nat.and_zero _]
    exact Nat.zero_and _
  unfold State.busWrite
  rw [regRow_scrTail n channel]
  dsimp only
  rw [State.scrTail, State.regField, State.regN_setRegN_self, field_mod_word32 (by decide), cleared, given]
  unfold field
  generalize Nat.land _ _ = kept at *
  omega

theorem scrTailWrite_writes {value : Nat} (awake : s.awake) (channel : n < 16) :
    Completes (.scrTailWrite dt n value) s fun t => t.scrTail n = field value 0 7 := by
  have call : execScrTailWrite dt n value s = _ := act_next awake
  rw [if_pos channel] at call
  exact ⟨_, call, (s.tick dt).busWrite_tail value channel⟩

/-! ## Completion (R549) -/

/-- A descriptor that has moved every byte, with its words written, HEAD past it and its count. -/
def State.completed (s : State) (r : ScrRun) (late : Bool) : State :=
  let t := (s.scrWrite r.channel r.moved (if late then 5 else 0) true).scrAdvance r.channel
  let t := { t with scr := { t.scr with run := none, lastDone := some r.channel } }
  let t := (t.setRegBit (scrRg 4) 0 false).bumpReg (scrRg 0x20)
  if bit (dw r.words 8) 3 then t.setRegBit (scrRg 0x10) r.channel true else t

/-- What the completion of a descriptor leaves. -/
structure Completed (r : ScrRun) (code : Nat) (s t : State) : Prop where
  run : t.scr.run = none
  done : t.scr.lastDone = some r.channel
  head : t.regN (scrCh r.channel 0x0C) = (s.scrHead r.channel + 1) % max 1 (s.regField (scrCh r.channel 8) 0 8)
  status : t.memWord (s.scrDesc r.channel + 36) = code % 256 + 2 ^ 31
  bytes : t.memWord (s.scrDesc r.channel + 40) = r.moved % 2 ^ 32
  irq : bit (dw r.words 8) 3 = true → bit (t.regN (scrRg 0x10)) r.channel = true
  sticky : bit (t.regN (scrRg 0x10)) 17 = bit (s.regN (scrRg 0x10)) 17
  channel : ∀ off, off ≠ 0x0C → t.regN (scrCh r.channel off) = s.regN (scrCh r.channel off)
  memory : ∀ b, b < s.scrDesc r.channel + 36 ∨ s.scrDesc r.channel + 44 ≤ b → t.memByte b = s.memByte b
  raises : Raises [Ev.regCounterPinned] s t

theorem State.completed_completes (s : State) (late : Bool) (channel : r.channel < 16) (inside : s.descIn r.channel) :
    Completed r (if late then 5 else 0) s (s.completed r late) := by
  let n := r.channel
  let code := if late then 5 else 0
  let x := s.scrWrite n r.moved code true
  let y := x.scrAdvance n
  let y1 : State := { y with scr := { y.scr with run := none, lastDone := some n } }
  let z := y1.setRegBit (scrRg 4) 0 false
  let u := z.bumpReg (scrRg 0x20)
  let t := if bit (dw r.words 8) 3 then u.setRegBit (scrRg 0x10) n true else u
  have completes : s.completed r late = t := rfl
  have writes : WordsWritten (s.scrDesc n) (code % 256 + 2 ^ 31) r.moved s x := s.scrWrite_writes inside true
  have regs (a : Nat) : x.regN a = s.regN a := writes.only.regN List.not_mem_nil
  have advance : Only ⟨[.regs], [], []⟩ x y := State.setRegN_regs ..
  have busy : Only ⟨[.regs], [], []⟩ y1 z := State.setRegBit_regs ..
  have count := z.bumpReg_only (scrRg 0x20) 1
  have set : Only ⟨[.regs], [], []⟩ u t := by
    unfold t
    split
    · exact State.setRegBit_regs ..
    · exact .refl _ _
  have mem : t.mem = x.mem := (set.same .mem).trans ((count.same .mem).trans ((busy.same .mem).trans (advance.same .mem)))
  have scr : t.scr = y1.scr := (set.same .scr).trans ((count.same .scr).trans (busy.same .scr))
  have ofChannel (off : Nat) : t.regN (scrCh n off) = y.regN (scrCh n off) := by
    have apart : ∀ b ∈ [0x40000004, 0x40000008], scrCh n off ≠ b := fun b at_ same => scrCh_apart off _ (by decide) (same ▸ at_)
    have ends : t.regN (scrCh n off) = u.regN (scrCh n off) := by
      unfold t
      split
      · exact State.regN_setRegBit_ne _ n true (scrCh_ne (by decide))
      · rfl
    exact ends.trans ((z.bumpReg_regs (scrCh_ne (by decide)) apart).trans (State.regN_setRegBit_ne _ 0 false (scrCh_ne (by decide))))
  have pins : u.regN (scrRg 0x10) = s.regN (scrRg 0x10) :=
    (z.bumpReg_regs (by decide) (by decide)).trans ((State.regN_setRegBit_ne _ 0 false (by decide)).trans
      ((State.regN_setRegN_ne _ _ (scrCh_ne (by decide)).symm).trans (regs _)))
  have before : Raises [] s z :=
    .still busy (.upd (.still advance (.of_only writes.only)) rfl)
  have raises : Raises [Ev.regCounterPinned] s t := .still set ((z.bumpReg_raises (scrRg 0x20) 1).seq (before.up (by decide)))
  rw [completes]
  refine ⟨congrArg Scree.run scr, congrArg Scree.lastDone scr, ?_, ?_, ?_, fun asked => ?_, ?_, fun off other => ?_, fun b out => ?_, raises⟩
  · have head : x.scrHead n = s.scrHead n := State.scrHead_congr fun off _ => regs _
    have size : x.regField (scrCh n 8) 0 8 = s.regField (scrCh n 8) 0 8 := congrArg (field · 0 8) (regs _)
    have advanced : y.regN (scrCh n 0x0C) = _ := State.regN_setRegN_self ..
    rw [ofChannel, advanced, head, size]
    refine Nat.mod_eq_of_lt ((Nat.mod_lt _ (by omega)).trans_le ?_)
    unfold State.regField field
    omega
  · rw [State.memWord_congr mem, writes.status]
    omega
  · rw [State.memWord_congr mem]
    exact writes.bytes
  · unfold t
    rw [if_pos asked]
    exact u.bit_setRegBit_self (scrRg 0x10) n true (by omega)
  · have ends : bit (t.regN (scrRg 0x10)) 17 = bit (u.regN (scrRg 0x10)) 17 := by
      unfold t
      split
      · exact u.bit_setRegBit_ne (scrRg 0x10) n true (by decide) (by omega)
      · rfl
    rw [ends, pins]
  · exact (ofChannel off).trans ((State.regN_setRegN_ne _ _ (scrCh_ne_off other)).trans (regs _))
  · rw [State.memByte_congr mem]
    exact writes.memory b out

theorem scrDescriptorComplete_next {late : Bool} (awake : s.awake) (run : s.scr.run = some r) (flows : r.waitSince = none)
    (counted : r.counted = true) : execScrDescriptorComplete dt late s = .next ((s.tick dt).scrComplete late) := by
  have run : (s.tick dt).scr.run = some r := run
  have due : ((s.tick dt).scr.run.elim false fun r => r.waitSince.isNone && (dPeriph r.words == 0 || r.counted)) = true := by
    rw [run, Option.elim_some, flows, counted, Bool.or_true]
    rfl
  refine (actIf_next awake due).trans (congrArg Host.Outcome.next ?_)
  rw [State.scrRest_counted _ run counted]

/-- The state in which the bytes of the last beat are undefined (R550), of a descriptor without an index or a FIXED side. -/
def State.beatLost (s : State) (r : ScrRun) : State :=
  let n4 := min 32 (dElem r.words)
  match colCheck 1 (dAddr r.words 2 + (dElem r.words - n4)) n4 true false with
  | .inl t => (s.drawBytes n4).2.busStore t (dAddr r.words 2 + (dElem r.words - n4)) false (s.drawBytes n4).1
  | .inr _ => (s.drawBytes n4).2

theorem State.scrComplete_clean (s : State) (run : s.scr.run = some r) : s.scrComplete false = s.completed r false := by
  simp only [State.scrComplete, run, State.completed, Bool.not_false, if_true, Bool.false_eq_true, if_false]

theorem State.scrComplete_late (s : State) (run : s.scr.run = some r) (plain : dIndex r.words = 0) (moves : dDstFixed r.words = false) :
    s.scrComplete true = ((s.beatLost r).completed r true).scrHalt r.channel 5 := by
  have none1 : ((0 : Nat) = 1) = False := by decide
  have none2 : ((0 : Nat) = 2) = False := by decide
  cases check : colCheck 1 (dAddr r.words 2 + (dElem r.words - min 32 (dElem r.words))) (min 32 (dElem r.words)) true false <;>
    simp only [State.scrComplete, run, State.completed, State.beatLost, plain, moves, none1, none2, Bool.not_true, if_true,
      Bool.false_eq_true, if_false, Nat.add_zero, check]

theorem scrDescriptorComplete_completes (awake : s.awake) (run : s.scr.run = some r) (flows : r.waitSince = none)
    (counted : r.counted = true) (channel : r.channel < 16) (inside : s.descIn r.channel) :
    Completes (.scrDescriptorComplete dt false) s fun t =>
      t.scr.run = none ∧ t.scr.lastDone = some r.channel ∧
        t.regN (scrCh r.channel 0x0C) = (s.scrHead r.channel + 1) % max 1 (s.regField (scrCh r.channel 8) 0 8) ∧
        t.memWord (s.scrDesc r.channel + 36) = 2 ^ 31 ∧ t.memWord (s.scrDesc r.channel + 40) = r.moved % 2 ^ 32 ∧
        (bit (dw r.words 8) 3 = true → bit (t.regN (scrRg 0x10)) r.channel = true) ∧
        ∀ b, b < s.scrDesc r.channel + 36 ∨ s.scrDesc r.channel + 44 ≤ b → t.memByte b = s.memByte b := by
  have call := scrDescriptorComplete_next (dt := dt) (late := false) awake run flows counted
  rw [(s.tick dt).scrComplete_clean run] at call
  have done : Completed r 0 (s.tick dt) _ := (s.tick dt).completed_completes false channel inside
  exact ⟨_, call, done.run, done.done, done.head, done.status, done.bytes, done.irq, done.memory⟩

theorem State.beatLost_only (s : State) (plain : dIndex r.words = 0)
    (low : 0x10000000 ≤ dAddr r.words 2) (high : dAddr r.words 2 + dLen r.words ≤ 0x10800000) :
    Only ⟨[.fresh, .mem], [], []⟩ s (s.beatLost r) := by
  have elem : dElem r.words = dLen r.words := if_pos plain
  have drawn (k : Nat) : Only ⟨[.fresh, .mem], [], []⟩ s (s.drawBytes k).2 := .upd fun q => by
    cases q <;> first | exact .inr rfl | exact .inl (by decide)
  unfold State.beatLost
  extract_lets n4
  have at_ : 0x10000000 ≤ dAddr r.words 2 + (dElem r.words - n4) ∧ dAddr r.words 2 + (dElem r.words - n4) ≤ 0x10800000 := by omega
  generalize dAddr r.words 2 + (dElem r.words - n4) = a at at_ ⊢
  split
  next tg check =>
    have sram : tg = 1 := by
      have target := colTarget_of_check check
      by_cases last : a < 0x10800000
      · rw [colTarget_upland at_.1 last] at target
        exact (Option.some.inj target).symm
      · have top : a = 0x10800000 := by omega
        rw [top] at target
        cases target
    subst sram
    exact ((s.drawBytes n4).2.setMem_only a _).seq (drawn n4)
  · exact drawn n4

theorem scrDescriptorComplete_late (awake : s.awake) (run : s.scr.run = some r) (flows : r.waitSince = none)
    (counted : r.counted = true) (channel : r.channel < 16) (inside : s.descIn r.channel) (plain : dIndex r.words = 0)
    (moves : dDstFixed r.words = false) (low : 0x10000000 ≤ dAddr r.words 2) (high : dAddr r.words 2 + dLen r.words ≤ 0x10800000) :
    Completes (.scrDescriptorComplete dt true) s fun t =>
      t.scr.run = none ∧ t.scrHalted = true ∧ t.regField (scrRg 4) 8 11 = r.channel ∧ t.regField (scrRg 4) 12 19 = 5 ∧
        t.regN (scrCh r.channel 0x0C) = (s.scrHead r.channel + 1) % max 1 (s.regField (scrCh r.channel 8) 0 8) ∧
        t.memWord (s.scrDesc r.channel + 36) = 2 ^ 31 + 5 ∧ Raised Ev.scrHalted r.channel s t := by
  have call := scrDescriptorComplete_next (dt := dt) (late := true) awake run flows counted
  rw [(s.tick dt).scrComplete_late run plain moves] at call
  let u := (s.tick dt).beatLost r
  have lost : Only _ (s.tick dt) u := (s.tick dt).beatLost_only plain low high
  have regs (a : Nat) : u.regN a = s.regN a := lost.regN List.not_mem_nil
  have desc : u.scrDesc r.channel = s.scrDesc r.channel := State.scrDesc_congr fun off _ => regs _
  have headIs : u.scrHead r.channel = s.scrHead r.channel := State.scrHead_congr fun off _ => regs _
  have size : u.regField (scrCh r.channel 8) 0 8 = s.regField (scrCh r.channel 8) 0 8 := congrArg (field · 0 8) (regs _)
  have done : Completed r 5 u (u.completed r true) := u.completed_completes true channel (by rw [State.descIn, desc]; exact inside)
  have halts := (u.completed r true).scrHalt_halts (code := 5) channel (by decide)
  obtain ⟨idle, halted, name, cause, -, raised⟩ := halts.halted
  have before : Raises [Ev.regCounterPinned] s (u.completed r true) :=
    done.raises.seq ((Raises.still lost (.of_objs rfl) : Raises [] s u).up (l := [Ev.regCounterPinned]) (by decide))
  refine ⟨_, call, idle, halted, name, cause, ?_, ?_, raised.before before⟩
  · rw [halts.channels, done.head, headIs, size]
  · rw [State.memWord_congr halts.mem, ← desc, done.status]
    rfl

end

end Sys2Proof.Machine

end

section

/-! PROOFS. O51, continued: aborts, CLEAR and channels disabled (R550 to R552). -/

namespace Sys2Proof.Machine

set_option Elab.async false

section
variable {s t : State} {dt n bursts : Nat} {r : ScrRun}

/-! ## Aborts (R551) -/

/-- What has not started of a channel is dropped. -/
def State.scrDropped (s : State) (n : Nat) : State := s.setRegN (scrCh n 0x0C) (s.scrTail n)

theorem State.scrDropped_head (s : State) (n : Nat) : (s.scrDropped n).scrHead n = s.scrTail n := by
  have head : (s.scrDropped n).regN (scrCh n 0x0C) = s.scrTail n % 2 ^ 32 := State.regN_setRegN_self ..
  rw [State.scrHead, State.regField, head, field_mod_word32 (by decide)]
  unfold State.scrTail State.regField field
  omega

theorem State.scrDropped_own (s : State) {off : Nat} (own : off < 0x100) : (s.scrDropped n).regN (scrRg off) = s.regN (scrRg off) :=
  State.regN_setRegN_ne _ _ (scrCh_ne own).symm

/-- Whether the engine stands halted on a channel's descriptor. -/
def State.haltedOn (s : State) (n : Nat) : Bool := s.scrHalted && s.regField (scrRg 4) 8 11 = n

theorem State.scrAbort_idle (s : State) (idle : s.scr.run = none) : s.scrAbort n bursts =
    if s.haltedOn n then ({ s with scr := { s.scr with removed := true } }.scrDropped n).setRegN (scrRg 0x0C) 3
    else (s.setRegN (scrRg 0x0C) (if s.scr.lastDone = some n then 2 else 3)).scrDropped n := by
  unfold State.scrAbort
  rw [idle]
  rfl

theorem State.scrAbort_drops (s : State) (idle : s.scr.run = none) :
    let t := s.scrAbort n bursts
    t.scrHead n = s.scrTail n ∧ t.scrHalted = s.scrHalted ∧
      t.regN (scrRg 0x0C) = if s.scrHalted = true ∧ s.regField (scrRg 4) 8 11 = n then 3
        else if s.scr.lastDone = some n then 2 else 3 := by
  intro t
  have abort : t = _ := s.scrAbort_idle idle
  have same : s.haltedOn n = true ↔ s.scrHalted = true ∧ s.regField (scrRg 4) 8 11 = n := by
    rw [State.haltedOn, Bool.and_eq_true, decide_eq_true_eq]
  by_cases hit : s.haltedOn n = true
  · rw [abort, if_pos hit, if_pos (same.mp hit)]
    let u : State := { s with scr := { s.scr with removed := true } }
    have head : ((u.scrDropped n).setRegN (scrRg 0x0C) 3).scrHead n = (u.scrDropped n).scrHead n :=
      State.scrHead_congr fun off _ => State.regN_setRegN_ne _ _ (scrCh_ne (by decide))
    have status : ((u.scrDropped n).setRegN (scrRg 0x0C) 3).regN (scrRg 4) = s.regN (scrRg 4) :=
      (State.regN_setRegN_ne _ _ (by decide)).trans (u.scrDropped_own (by decide))
    exact ⟨head.trans (u.scrDropped_head n), congrArg (bit · 1) status, State.regN_setRegN_self ..⟩
  · rw [abort, if_neg hit, if_neg fun halted => hit (same.mpr halted)]
    let u := s.setRegN (scrRg 0x0C) (if s.scr.lastDone = some n then 2 else 3)
    have tail : u.scrTail n = s.scrTail n := congrArg (field · 0 7) (State.regN_setRegN_ne _ _ (scrCh_ne (by decide)))
    have status : (u.scrDropped n).regN (scrRg 4) = s.regN (scrRg 4) :=
      (u.scrDropped_own (by decide)).trans (State.regN_setRegN_ne _ _ (by decide))
    refine ⟨(u.scrDropped_head n).trans tail, congrArg (bit · 1) status, ?_⟩
    rw [u.scrDropped_own (by decide), State.regN_setRegN_self]
    split <;> rfl

theorem scrAbort_idles (awake : s.awake) (channel : n < 16) (idle : s.scr.run = none) :
    Completes (.scrAbort dt n bursts) s fun t =>
      t.scrHead n = s.scrTail n ∧ t.scrHalted = s.scrHalted ∧
        t.regN (scrRg 0x0C) = if s.scrHalted = true ∧ s.regField (scrRg 4) 8 11 = n then 3
          else if s.scr.lastDone = some n then 2 else 3 := by
  have call : execScrAbort dt n bursts s = _ := actIf_next awake (decide_eq_true channel)
  exact ⟨_, call, (s.tick dt).scrAbort_drops idle⟩

/-- A descriptor that runs ends with ABORT in words 9 and 10. -/
def State.scrEnded (s : State) (r : ScrRun) : State :=
  let u := (s.scrWrite r.channel r.moved 7 false).setRegBit (scrRg 4) 0 false
  { u with scr := { u.scr with run := none } }.setRegBit (scrRg 0x10) 17 true

theorem State.scrAbort_running (s : State) (run : s.scr.run = some r) (boundary : r.counted = true ∨ bursts = 0) :
    s.scrAbort r.channel bursts =
      if r.counted then ((s.scrComplete false).scrDropped r.channel).setRegN (scrRg 0x0C) 2
      else ((s.scrEnded r).scrDropped r.channel).setRegN (scrRg 0x0C) 1 := by
  have still : s.scrBursts (dTotal r.words) bursts = s := by
    rcases boundary with counted | rfl
    · exact s.scrBursts_counted run counted bursts
    · rfl
  unfold State.scrAbort
  rw [run]
  dsimp only
  rw [if_neg (by rw [bne_self_eq_false]; decide), still, run]
  rfl

theorem State.scrEnded_ends (s : State) (inside : s.descIn r.channel) :
    (s.scrEnded r).scr.run = none ∧ bit ((s.scrEnded r).regN (scrRg 0x10)) 17 = true ∧
      (s.scrEnded r).memWord (s.scrDesc r.channel + 36) = 7 ∧ (s.scrEnded r).scrTail r.channel = s.scrTail r.channel := by
  let u := s.scrWrite r.channel r.moved 7 false
  let v := u.setRegBit (scrRg 4) 0 false
  let x : State := { v with scr := { v.scr with run := none } }
  have ended : s.scrEnded r = x.setRegBit (scrRg 0x10) 17 true := rfl
  have writes : WordsWritten (s.scrDesc r.channel) 7 r.moved s u := s.scrWrite_writes (code := 7) inside false
  have last : Only ⟨[.regs], [], []⟩ x (x.setRegBit (scrRg 0x10) 17 true) := State.setRegBit_regs ..
  have busy : Only ⟨[.regs], [], []⟩ u v := State.setRegBit_regs ..
  have mem : (x.setRegBit (scrRg 0x10) 17 true).mem = u.mem := (last.same .mem).trans (busy.same .mem)
  rw [ended]
  refine ⟨congrArg Scree.run (last.same .scr), State.bit_setRegBit_self .., ?_, ?_⟩
  · rw [State.memWord_congr mem]
    exact writes.status
  · refine congrArg (field · 0 7) ?_
    have first : x.regN (scrCh r.channel 0x10) = u.regN (scrCh r.channel 0x10) := u.regN_setRegBit_ne 0 false (scrCh_ne (by decide))
    exact (x.regN_setRegBit_ne 17 true (scrCh_ne (by decide))).trans (first.trans (writes.only.regN List.not_mem_nil))

/-- What an abort leaves of the state that it drops: its result, with HEAD at TAIL. -/
theorem State.dropped_result (s : State) (n v : Nat) :
    let t := (s.scrDropped n).setRegN (scrRg 0x0C) v
    t.scr = s.scr ∧ t.mem = s.mem ∧ t.scrHead n = s.scrTail n ∧ t.regN (scrRg 0x0C) = v % 2 ^ 32 ∧
      t.regN (scrRg 0x10) = s.regN (scrRg 0x10) := by
  intro t
  have head : t.scrHead n = (s.scrDropped n).scrHead n :=
    State.scrHead_congr fun off _ => State.regN_setRegN_ne _ _ (scrCh_ne (by decide))
  have pins : t.regN (scrRg 0x10) = (s.scrDropped n).regN (scrRg 0x10) := State.regN_setRegN_ne _ _ (by decide)
  exact ⟨rfl, rfl, head.trans (s.scrDropped_head n), State.regN_setRegN_self .., pins.trans (s.scrDropped_own (by decide))⟩

theorem scrAbort_ends (awake : s.awake) (run : s.scr.run = some r) (channel : r.channel < 16) (inside : s.descIn r.channel)
    (boundary : r.counted = true ∨ bursts = 0) :
    Completes (.scrAbort dt r.channel bursts) s fun t =>
      t.scr.run = none ∧ t.scrHead r.channel = s.scrTail r.channel ∧
        if r.counted = true then t.regN (scrRg 0x0C) = 2 ∧ bit (t.regN (scrRg 0x10)) 17 = bit (s.regN (scrRg 0x10)) 17
        else t.regN (scrRg 0x0C) = 1 ∧ bit (t.regN (scrRg 0x10)) 17 = true ∧ t.memWord (s.scrDesc r.channel + 36) = 7 := by
  have call : execScrAbort dt r.channel bursts s = _ := actIf_next awake (decide_eq_true channel)
  let u := s.tick dt
  have run : u.scr.run = some r := run
  rw [u.scrAbort_running run boundary] at call
  refine ⟨_, call, ?_⟩
  beta_reduce
  by_cases counted : r.counted = true
  · rw [if_pos counted, if_pos counted, u.scrComplete_clean run]
    have done : Completed r 0 u (u.completed r false) := u.completed_completes false channel inside
    obtain ⟨scr, -, head, result, pins⟩ := (u.completed r false).dropped_result r.channel 2
    have tail : (u.completed r false).scrTail r.channel = s.scrTail r.channel := congrArg (field · 0 7) (done.channel 0x10 (by decide))
    exact ⟨(congrArg Scree.run scr).trans done.run, head.trans tail, result, (congrArg (bit · 17) pins).trans done.sticky⟩
  · rw [if_neg counted, if_neg counted]
    obtain ⟨idle, sticky, status, tail⟩ := u.scrEnded_ends inside
    obtain ⟨scr, mem, head, result, pins⟩ := (u.scrEnded r).dropped_result r.channel 1
    exact ⟨(congrArg Scree.run scr).trans idle, head.trans tail, result, (congrArg (bit · 17) pins).trans sticky,
      (State.memWord_congr mem _).trans status⟩

theorem scrChannelDisable_disables (awake : s.awake) (channel : n < 16) (idle : s.scr.run = none) :
    Completes (.scrChannelDisable dt n bursts) s fun t =>
      bit (t.regN (scrCh n 0x14)) 0 = false ∧ t.scrHead n = s.scrTail n := by
  have call : execScrChannelDisable dt n bursts s = _ := actIf_next awake (decide_eq_true channel)
  obtain ⟨head, -, -⟩ := (s.tick dt).scrAbort_drops (n := n) (bursts := bursts) idle
  have same : ((s.tick dt).scrDisable n bursts).scrHead n = ((s.tick dt).scrAbort n bursts).scrHead n :=
    congrArg (field · 0 7) (State.regN_setRegBit_ne _ 0 false (scrCh_ne_off (by decide)))
  exact ⟨_, call, State.bit_setRegBit_self .., same.trans head⟩

/-! ## CLEAR (R550) -/

/-- The status register of an engine that runs again. -/
def clearStatus (x : Nat) : Nat := setField (setField (setField x 1 1 0) 8 11 0) 12 19 0

theorem clearStatus_fields (x : Nat) : bit (clearStatus x) 1 = false ∧ field (clearStatus x) 12 19 = 0 := by
  unfold clearStatus
  rw [bit_setField_out (by decide), bit_setField_out (by decide), bit_setField (by decide) (by decide), field_setField]
  exact ⟨rfl, rfl⟩

theorem scrClear_clears {skip : Bool} (awake : s.awake) (halted : s.scrHalted = true) (named : n = s.regField (scrRg 4) 8 11) :
    Completes (.scrClear dt skip) s fun t =>
      t.scrHalted = false ∧ t.regField (scrRg 4) 12 19 = 0 ∧
        t.regN (scrCh n 0x0C) =
          if skip = true ∧ s.regField (scrRg 4) 12 19 ≠ 5 ∧ s.scr.removed = false then
            (s.scrHead n + 1) % max 1 (s.regField (scrCh n 8) 0 8)
          else s.regN (scrCh n 0x0C) := by
  subst named
  let u := s.tick dt
  let n := s.regField (scrRg 4) 8 11
  let passed := if skip && field (u.regN (scrRg 4)) 12 19 != 5 && !u.scr.removed then u.scrAdvance n else u
  let v : State := { passed with scr := { passed.scr with removed := false } }
  have call : execScrClear dt skip s = .next (v.setRegN (scrRg 4) (clearStatus (u.regN (scrRg 4)))) := by
    have halted : ¬ (!u.scrHalted) = true := by
      rw [show u.scrHalted = true from halted]
      decide
    exact (act_next awake).trans (congrArg Host.Outcome.next (if_neg halted))
  have status : (v.setRegN (scrRg 4) (clearStatus (u.regN (scrRg 4)))).regN (scrRg 4) = _ := State.regN_setRegN_self ..
  obtain ⟨runs, cause⟩ := clearStatus_fields (u.regN (scrRg 4))
  refine ⟨_, call, ?_, ?_, ?_⟩
  · rw [State.scrHalted, status, bit_mod_word (by decide)]
    exact runs
  · rw [State.regField, status, field_mod_word32 (by decide)]
    exact cause
  · rw [State.regN_setRegN_ne _ _ (scrCh_ne (by decide))]
    change passed.regN (scrCh n 0x0C) = _
    have same : (skip && field (u.regN (scrRg 4)) 12 19 != 5 && !u.scr.removed) = true ↔
        skip = true ∧ s.regField (scrRg 4) 12 19 ≠ 5 ∧ s.scr.removed = false := by
      rw [Bool.and_eq_true, Bool.and_eq_true, bne_iff_ne, Bool.not_eq_true', and_assoc]
      rfl
    unfold passed
    by_cases skips : (skip && field (u.regN (scrRg 4)) 12 19 != 5 && !u.scr.removed) = true
    · rw [if_pos skips, if_pos (same.mp skips)]
      refine (State.regN_setRegN_self ..).trans (Nat.mod_eq_of_lt ((Nat.mod_lt _ (by omega)).trans_le ?_))
      unfold State.regField field
      omega
    · rw [if_neg skips, if_neg fun all => skips (same.mpr all)]
      rfl

end

/-- Settles O51: the commands of the Scree engine, clause by clause. -/
theorem screeRuns : Obligations.ScreeRuns := by
  unfold Obligations.ScreeRuns
  refine ⟨?_, ?_, ?_, ?_, ?_, ?_, ?_, ?_, ?_, ?_, ?_, ?_, ?_⟩
  · exact fun s dt channel value => scrTailWrite_writes
  · exact fun s dt n w => scrDescriptorStart_starts
  · exact fun s dt p asserted => scrPeriphRequest_idle
  · exact fun s dt p r => scrPeriphRequest_withdrawn
  · exact fun s dt r => scrDescriptorComplete_completes
  · exact fun s dt r => scrDescriptorComplete_late
  · exact fun s dt r code => scrHalted_ends
  · exact fun s dt n => scrHalted_fetch
  · exact fun s dt r a => scrStall_stalls
  · exact fun s dt n bursts => scrAbort_idles
  · exact fun s dt r bursts => scrAbort_ends
  · exact fun s dt n skip => scrClear_clears
  · exact fun s dt n bursts => scrChannelDisable_disables

end Sys2Proof.Machine

end

section

/-! PROOFS. O52: a descriptor with SWAP that moves one burst (R545 to R549; the burst moves at completion: log entry 37). -/

namespace Sys2Proof.Machine

set_option Elab.async false

section
variable {s t : State} {dt n src dst : Nat} {r : ScrRun} {w : List Nat}

theorem State.memBytes_getD (s : State) (a : Nat) {i n : Nat} (inside : i < n) : (s.memBytes a n).getD i 0 = s.memByte (a + i) := by
  induction n generalizing a i with
  | zero => cases inside
  | succ n ih =>
    rw [State.memBytes]
    cases i with
    | zero => rfl
    | succ i =>
      rw [List.getD_cons_succ, ih (a + 1) (by omega)]
      congr 1
      omega

/-- The bytes of a transfer of one element, as they are written (R547). -/
def State.swapped (s : State) (mode src n : Nat) : List Byte :=
  (List.range n).map fun i => (s.memBytes src n).getD (swapAt mode i) 0

theorem State.swapped_length (s : State) (mode src n : Nat) : (s.swapped mode src n).length = n := by
  rw [State.swapped, List.length_map, List.length_range]

theorem State.swapped_getElem (s : State) (mode src n : Nat) {i : Nat} (inside : i < (s.swapped mode src n).length) :
    (s.swapped mode src n)[i] = (s.memBytes src n).getD (swapAt mode i) 0 := by
  simp only [State.swapped, List.getElem_map, List.getElem_range]

/-- A mode moves a byte within its half-word or word. -/
theorem swapAt_lt {mode i n : Nat} (inside : i < n) (halves : mode = 1 → n % 2 = 0) (words : 2 ≤ mode → n % 4 = 0) :
    swapAt mode i < n := by
  unfold swapAt
  split
  · have := halves rfl
    omega
  · have := words (by decide)
    omega
  · have := words (by decide)
    omega
  · exact inside

/-- A descriptor that moves one burst between ranges of Upland SRAM. -/
structure OneBurst (w : List Nat) (src dst n : Nat) : Prop where
  plain : dIndex w = 0
  reads : dSrcFixed w = false
  writes : dDstFixed w = false
  length : dLen w = n
  some_ : 0 < n
  source : dAddr w 0 = src
  target : dAddr w 2 = dst
  sourceLow : 0x10000000 ≤ src
  sourceHigh : src + n ≤ 0x10800000
  targetLow : 0x10000000 ≤ dst
  targetHigh : dst + n ≤ 0x10800000
  sourceRow : src % 512 + n ≤ 512
  targetRow : dst % 512 + n ≤ 512

theorem OneBurst.elem (h : OneBurst w src dst n) : dElem w = n := (if_pos h.plain).trans h.length

theorem OneBurst.total (h : OneBurst w src dst n) : dTotal w = n := (if_pos h.plain).trans h.length

theorem OneBurst.burst (h : OneBurst w src dst n) : burstLen w src dst 0 = n := by
  obtain ⟨source, target⟩ := And.intro h.sourceRow h.targetRow
  unfold burstLen
  rw [h.reads, h.writes, h.elem]
  simp only [Bool.false_eq_true, if_false, Bool.or_false, Nat.add_zero, Nat.sub_zero]
  omega

theorem State.burstData_one (s : State) (h : OneBurst w src dst n) :
    s.burstData w 1 src 0 n = (s.swapped (dSwap w) src n, s) := by
  have top : (if dSwap w = 0 then 0 + n else min (dElem w) ((0 + n + 3) / 4 * 4)) = n := by
    rw [h.elem]
    split <;> omega
  have bottom : (if dSwap w = 0 then 0 else 0 / 4 * 4) = 0 := ite_self _
  unfold State.burstData
  rw [h.reads, if_neg Bool.false_ne_true]
  dsimp only
  rw [top, bottom]
  simp only [Nat.zero_add, Nat.sub_zero, Nat.add_zero]
  rfl

/-- The state after the one burst. -/
def State.bursted (s : State) (r : ScrRun) (src dst n : Nat) : State :=
  let t := s.setMem dst (s.swapped (dSwap r.words) src n)
  { t with scr := { t.scr with run := some { r with moved := n } } }

theorem State.scrBurst_one (s : State) (h : OneBurst r.words src dst n) (start : r.moved = 0) : s.scrBurst r n = s.bursted r src dst n := by
  have zero1 : ((0 : Nat) = 1) = False := by decide
  have zero2 : ((0 : Nat) = 2) = False := by decide
  have readable := colCheck_scree h.sourceLow h.some_ h.sourceHigh false
  have writable := colCheck_scree h.targetLow h.some_ h.targetHigh true
  have all : (s.swapped (dSwap r.words) src n).take n = s.swapped (dSwap r.words) src n := by
    rw [List.take_of_length_le (by rw [s.swapped_length])]
  unfold State.scrBurst
  simp only [h.plain, start, h.source, h.target, h.reads, h.writes, if_true, zero1, zero2, if_false, Bool.false_eq_true, Nat.mul_zero,
    Nat.add_zero, h.burst, readable, s.burstData_one h, writable, all, s.swapped_length, Nat.zero_add]
  rfl

theorem State.scrBursts_moves (s : State) (run : s.scr.run = some r) {most : Nat} (more : ¬ min (dTotal r.words) most ≤ r.moved) (k : Nat) :
    s.scrBursts most (k + 1) = (s.scrBurst r (most - r.moved)).scrBursts most k := by
  rw [State.scrBursts, run]
  exact if_neg more

theorem State.scrRest_one (s : State) (run : s.scr.run = some r) (h : OneBurst r.words src dst n) (start : r.moved = 0) :
    s.scrRest = s.bursted r src dst n := by
  have more : ¬ min (dTotal r.words) (dTotal r.words) ≤ r.moved := by
    have := h.some_
    rw [h.total, start]
    omega
  obtain ⟨k, count⟩ : ∃ k, n = k + 1 := ⟨n - 1, by have := h.some_; omega⟩
  have rest : s.scrRest = (s.scrBurst r (dTotal r.words - r.moved)).scrBursts (dTotal r.words) k := by
    unfold State.scrRest
    rw [run]
    dsimp only
    rw [show s.scrBursts (dTotal r.words) (dTotal r.words) = s.scrBursts (dTotal r.words) (k + 1) by rw [h.total, count]]
    exact s.scrBursts_moves run more k
  have counted : ScrRun.counted { r with moved := n } = true := decide_eq_true (Nat.le_of_eq h.total)
  have still := (s.bursted r src dst n).scrBursts_counted (r := { r with moved := n }) rfl counted k
  rw [rest, start, Nat.sub_zero, h.total, s.scrBurst_one h start]
  rwa [show dTotal ({ r with moved := n } : ScrRun).words = n from h.total] at still

/-- The bytes of the target after the burst (R547). -/
theorem State.memByte_bursted (s : State) {i : Nat} (inside : i < n) (halves : dSwap r.words = 1 → n % 2 = 0)
    (words : 2 ≤ dSwap r.words → n % 4 = 0) :
    (s.bursted r src dst n).memByte (dst + i) = s.memByte (src + swapAt (dSwap r.words) i) := by
  have long : i < (s.swapped (dSwap r.words) src n).length := by
    rw [s.swapped_length]
    exact inside
  refine (s.memByte_setMem_in dst i _ long).trans ?_
  rw [s.swapped_getElem, s.memBytes_getD src (swapAt_lt inside halves words)]

theorem scrDescriptorComplete_swaps (awake : s.awake) (run : s.scr.run = some r) (start : r.moved = 0) (flows : r.waitSince = none)
    (channel : r.channel < 16) (inside : s.descIn r.channel) (h : OneBurst r.words src dst n)
    (apart : dst + n ≤ s.scrDesc r.channel + 36 ∨ s.scrDesc r.channel + 44 ≤ dst) (halves : dSwap r.words = 1 → n % 2 = 0)
    (words : 2 ≤ dSwap r.words → n % 4 = 0) (free : dPeriph r.words = 0) :
    Completes (.scrDescriptorComplete dt false) s fun t =>
      (∀ i, i < n → t.memByte (dst + i) = s.memByte (src + swapAt (dSwap r.words) i)) ∧
      ∀ b, (b < dst ∨ dst + n ≤ b) → (b < s.scrDesc r.channel + 36 ∨ s.scrDesc r.channel + 44 ≤ b) → t.memByte b = s.memByte b := by
  let u := s.tick dt
  let x : ScrRun := { r with moved := n }
  let v := u.bursted r src dst n
  have run : u.scr.run = some r := run
  have call : execScrDescriptorComplete dt false s = .next (v.completed x false) := by
    have due : (u.scr.run.elim false fun r => r.waitSince.isNone && (dPeriph r.words == 0 || r.counted)) = true := by
      rw [run, Option.elim_some, flows, free]
      rfl
    refine (actIf_next awake due).trans (congrArg Host.Outcome.next ?_)
    rw [u.scrRest_one run h start]
    exact v.scrComplete_clean (r := x) rfl
  have regs (a : Nat) : v.regN a = s.regN a := (u.setMem_only ..).regN List.not_mem_nil
  have desc : v.scrDesc r.channel = s.scrDesc r.channel := State.scrDesc_congr fun off _ => regs _
  have done : Completed x 0 v (v.completed x false) := v.completed_completes false channel (by rw [State.descIn, desc]; exact inside)
  have memory := done.memory
  rw [show v.scrDesc x.channel = s.scrDesc r.channel from desc] at memory
  refine ⟨_, call, fun i small => ?_, fun b out status => ?_⟩
  · rw [memory _ (by omega)]
    exact u.memByte_bursted small halves words
  · rw [memory b status]
    exact u.memByte_setMem_out dst b _ (by rw [u.swapped_length]; exact out)

/-- A length that the mode forbids is a fault of the descriptor (R547). -/
theorem paramFault_swap (forbids : dSwap w = 1 ∧ dElem w % 2 ≠ 0 ∨ 2 ≤ dSwap w ∧ dElem w % 4 ≠ 0) : paramFault w = true := by
  unfold paramFault
  simp only [Bool.or_eq_true, Bool.and_eq_true, beq_iff_eq, bne_iff_ne, decide_eq_true_eq]
  rcases forbids with half | word
  · exact .inl (.inr half)
  · exact .inr word

end

/-- Settles O52: the bytes that each mode of SWAP writes, and the lengths that it forbids. -/
theorem swapsBytes : Obligations.SwapsBytes := by
  unfold Obligations.SwapsBytes
  refine ⟨?_, ?_⟩
  · rintro s dt r w src dst n awake run rfl start flows channel inside plain reads writes length some_ source target sourceLow
      sourceHigh targetLow targetHigh sourceRow targetRow apart halves words free
    have one : OneBurst r.words src dst n := ⟨plain, reads, writes, length.symm, some_, source.symm, target.symm, sourceLow, sourceHigh,
      targetLow, targetHigh, sourceRow, targetRow⟩
    obtain ⟨t, call, bytes, rest⟩ :=
      scrDescriptorComplete_swaps (dt := dt) awake run start flows channel inside one apart halves words free
    refine ⟨t, call, fun mode i small => ?_, fun mode i small => ?_, fun mode i j small low => ?_, fun mode i j small low => ?_, rest⟩
    · rw [bytes i small, mode]
      rfl
    · have even := halves mode
      simp only [Nat.add_assoc]
      rw [bytes (2 * i) small, bytes (2 * i + 1) (by omega), mode]
      have first : swapAt 1 (2 * i) = 2 * i + 1 := show 2 * i / 2 * 2 + (1 - 2 * i % 2) = 2 * i + 1 by omega
      have second : swapAt 1 (2 * i + 1) = 2 * i := show (2 * i + 1) / 2 * 2 + (1 - (2 * i + 1) % 2) = 2 * i by omega
      rw [first, second]
      exact ⟨rfl, rfl⟩
    · have whole := words (by omega)
      have at_ : swapAt 2 (4 * i + j) = 4 * i + (3 - j) := show (4 * i + j) / 4 * 4 + (3 - (4 * i + j) % 4) = _ by omega
      simp only [Nat.add_assoc]
      rw [bytes (4 * i + j) (by omega), mode, at_]
    · have whole := words (by omega)
      have lower : swapAt 3 (4 * i + j) = 4 * i + (2 + j) := show (4 * i + j) / 4 * 4 + (4 * i + j + 2) % 4 = _ by omega
      have upper : swapAt 3 (4 * i + (2 + j)) = 4 * i + j :=
        show (4 * i + (2 + j)) / 4 * 4 + (4 * i + (2 + j) + 2) % 4 = _ by omega
      simp only [Nat.add_assoc]
      rw [bytes (4 * i + j) (by omega), bytes (4 * i + (2 + j)) (by omega), mode, lower, upper]
      exact ⟨rfl, rfl⟩
  · intro s dt n w awake enabled runs idle ready inside words forbids
    obtain ⟨t, call, starts⟩ := scrDescriptorStart_starts (dt := dt) awake enabled runs idle ready inside words
    rw [if_pos (paramFault_swap forbids)] at starts
    exact ⟨t, call, starts.1⟩

end Sys2Proof.Machine

end

section

/-! PROOFS. O53: memory errors and what their readers do (R554 to R556). -/

namespace Sys2Proof.Machine

set_option Elab.async false

section
variable {s t : State} {dt memory addr : Nat} {c : MemConsumer}

/-! ## Errors counted and logged -/

theorem memCorrected_counts (awake : s.awake) (small : memory ≤ 6) :
    Completes (.memCorrected dt memory) s fun t => Counted Obj.memCorrected memory 1 s t := by
  have call : execMemCorrected dt memory s = _ := actIf_next awake (decide_eq_true small)
  have counted : Counted Obj.memCorrected memory 1 s ((s.tick dt).bump Obj.memCorrected memory) := (s.tick dt).bump_counted ..
  exact ⟨_, call, counted.still (State.raiseLimited_only ..)⟩

/-- What an uncorrectable error leaves before its reader acts (R555, R557). -/
structure Logged (memory : Nat) (s t : State) : Prop where
  only : Only ⟨[.out, .pinned, .ev, .flashJournal, .diskJournal], [Obj.memUncorrectable, Obj.eventCount, Obj.eventLastAt,
    Obj.eventLastSubject, Obj.memErrorLog], [0x40000004, 0x40000008]⟩ s t
  counted : Counted Obj.memUncorrectable memory 1 s t
  raised : Raised Ev.memUncorrectable memory s t
  raises : Raises [Ev.memUncorrectable] s t

theorem State.memLogged_logs (s : State) (memory consumer addr : Nat) : Logged memory s (s.memLogged memory consumer addr) := by
  have only := s.memLogged_only memory consumer addr
  suffices rest : Counted Obj.memUncorrectable memory 1 s (s.memLogged memory consumer addr) ∧
      Raised Ev.memUncorrectable memory s (s.memLogged memory consumer addr) ∧
        Raises [Ev.memUncorrectable] s (s.memLogged memory consumer addr) by
    obtain ⟨counted, raised, raises⟩ := rest
    exact ⟨only, counted, raised, raises⟩
  unfold State.memLogged
  extract_lets t entry
  let u := t.setBy Obj.memErrorLog 0 ((entry ++ t.by Obj.memErrorLog 0).take 384)
  have counted : Counted Obj.memUncorrectable memory 1 s t := s.bump_counted ..
  have log : Only ⟨[], [Obj.memErrorLog], []⟩ t u := t.setBy_only ..
  have before : Raises [] s u := .still log (s.bump_raises ..)
  exact ⟨(counted.still log).still (u.raise_only ..), (u.raise_raised ..).before before, (u.raise_raises ..).seq (before.up (by decide))⟩

theorem Logged.since (h : Logged memory (s.tick dt) t) : Raises [Ev.memUncorrectable] s t :=
  h.raises.seq ((Raises.of_objs rfl : Raises [] s (s.tick dt)).up (by decide))

/-- A reader of a bad codeword, once the error has been logged. -/
theorem memUncorrectable_next (awake : s.awake) (small : memory ≤ 6) (fails : codeFails c = true) :
    execMemUncorrectable dt memory addr c s = .next (((s.tick dt).memLogged memory (consumerCode c) addr).memConsume memory c) :=
  (actIf_next awake (decide_eq_true small)).trans (congrArg (Host.Outcome.next ∘ (State.memConsume · memory c)) (if_pos fails))

/-! ## Readers of the data paths (R555) -/

theorem memUncorrectable_packet {entry seq : Nat} (awake : s.awake) (small : memory ≤ 6) :
    Completes (.memUncorrectable dt memory addr (.receivePacket entry seq)) s fun t =>
      Counted Obj.memUncorrectable memory 1 s t ∧ Raised Ev.memUncorrectable memory s t ∧
        (t.rxe entry).buffer = (s.rxe entry).buffer.filter fun r => r.seq != seq := by
  let u := (s.tick dt).memLogged memory 3 addr
  have log : Logged memory (s.tick dt) u := (s.tick dt).memLogged_logs memory 3 addr
  have call : execMemUncorrectable dt memory addr (.receivePacket entry seq) s =
      .next (u.setRxe entry { u.rxe entry with buffer := (u.rxe entry).buffer.filter fun r => r.seq != seq }) :=
    memUncorrectable_next awake small rfl
  let v := u.setRxe entry { u.rxe entry with buffer := (u.rxe entry).buffer.filter fun r => r.seq != seq }
  have set : Only _ u v := u.setRxe_only entry _
  have counted : Counted Obj.memUncorrectable memory 1 (s.tick dt) v := log.counted.still set
  have raised : Raised Ev.memUncorrectable memory (s.tick dt) v := log.raised.after (l := []) (.of_only set) set.ptp
  refine ⟨v, call, counted, raised, ?_⟩
  rw [State.rxe_setRxe, log.only.rxe entry]
  rfl

theorem memUncorrectable_graphics {layer offset : Nat} (awake : s.awake) (small : memory ≤ 6) :
    Completes (.memUncorrectable dt memory addr (.graphicsBlock layer offset)) s fun t =>
      (t.layer layer).front =
        (s.layer layer).front.filter fun c => !(offset / 64 * 64 ≤ c.1 && c.1 < offset / 64 * 64 + 64) := by
  let u := (s.tick dt).memLogged memory 5 addr
  have log : Logged memory (s.tick dt) u := (s.tick dt).memLogged_logs memory 5 addr
  have call : execMemUncorrectable dt memory addr (.graphicsBlock layer offset) s =
      .next (u.setLayer layer { u.layer layer with
        front := (u.layer layer).front.filter fun c => !(offset / 64 * 64 ≤ c.1 && c.1 < offset / 64 * 64 + 64) }) :=
    memUncorrectable_next awake small rfl
  refine ⟨_, call, ?_⟩
  beta_reduce
  rw [State.layer_setLayer, log.only.layer layer]
  rfl

theorem memUncorrectable_firn {engine : Nat} (awake : s.awake) (small : memory ≤ 6) (shows : s.n Obj.cqFirnState engine = 1) :
    Completes (.memUncorrectable dt memory addr (.firn engine)) s fun t => t.n Obj.cqFirnState engine = 2 := by
  let u := (s.tick dt).memLogged memory 6 addr
  have log := (s.tick dt).memLogged_logs memory 6 addr
  have shows : u.n Obj.cqFirnState engine = 1 := (log.only.n ..).trans shows
  have acts : u.memConsume memory (.firn engine) = _ := if_pos shows
  refine ⟨_, memUncorrectable_next awake small rfl, ?_⟩
  rw [show (s.tick dt).memLogged memory (consumerCode (.firn engine)) addr = u from rfl, acts]
  exact State.n_setN_self ..

theorem memUncorrectable_table {stage : Nat} (awake : s.awake) (small : memory ≤ 6) :
    Completes (.memUncorrectable dt memory addr (.colourTable stage true)) s fun t =>
      (t.stage stage).failed = true ∧ bit (t.n Obj.colStageState stage) 0 = true := by
  let u := (s.tick dt).memLogged memory 7 addr
  let v := u.setStage stage { u.stage stage with failed := true }
  have call : execMemUncorrectable dt memory addr (.colourTable stage true) s = .next (v.setBitN Obj.colStageState stage 0 true) :=
    memUncorrectable_next awake small rfl
  refine ⟨_, call, ?_, State.setBitN_reads ..⟩
  rw [(v.setBitN_only Obj.colStageState stage 0 true).stage stage, State.stage_setStage]

theorem memUncorrectable_staging {play frame : Nat} (awake : s.awake) (small : memory ≤ 6) :
    Completes (.memUncorrectable dt memory addr (.moraineStaging play frame)) s fun t =>
      (t.player play).fetched = (s.player play).fetched.filter fun x => x != frame := by
  let u := (s.tick dt).memLogged memory 9 addr
  have log : Logged memory (s.tick dt) u := (s.tick dt).memLogged_logs memory 9 addr
  have call : execMemUncorrectable dt memory addr (.moraineStaging play frame) s =
      .next (u.setPlayer play { u.player play with fetched := (u.player play).fetched.filter fun x => x != frame }) :=
    memUncorrectable_next awake small rfl
  refine ⟨_, call, ?_⟩
  beta_reduce
  rw [State.player_setPlayer, log.only.player play]
  rfl

/-! ## Readers of the control part (R555) -/

theorem memUncorrectable_commit (awake : s.awake) (small : memory ≤ 6) :
    Completes (.memUncorrectable dt memory addr .commitTable) s fun t =>
      bit (t.n Obj.healthReasons 0) 0 = true ∧ Raised Ev.ctrlMemRepaired memory s t := by
  let u := (s.tick dt).memLogged memory 8 addr
  let v := u.setReason 0 true
  have log := (s.tick dt).memLogged_logs memory 8 addr
  have before : Raises [Ev.healthChange, Ev.memUncorrectable] s v :=
    (u.setReason_raises 0 true).seq (log.since.up (l := [Ev.healthChange, Ev.memUncorrectable]) (by decide))
  refine ⟨_, memUncorrectable_next awake small rfl, ?_, (v.raise_raised Ev.ctrlMemRepaired memory).before before⟩
  have reasons : (v.raise Ev.ctrlMemRepaired memory).n Obj.healthReasons 0 = v.n Obj.healthReasons 0 := (v.raise_only ..).n ..
  exact (congrArg (bit · 0) reasons).trans (u.setReason_reads 0 true)

/-- The health that the reasons give (R484). -/
theorem State.setReason_health (s : State) (k : Nat) (v : Bool) :
    (s.setReason k v).n Obj.healthState 0 = healthOf ((s.setReason k v).n Obj.healthReasons 0) := by
  unfold State.setReason
  extract_lets old t1 new t2
  have state : t2.n Obj.healthState 0 = new := State.n_setN_self ..
  have reasons : t2.n Obj.healthReasons 0 = t1.n Obj.healthReasons 0 := (t1.setN_only Obj.healthState 0 new).n ..
  split
  · rw [state, reasons]
  · rw [(State.raise_only ..).n Obj.healthState 0, (State.raise_only ..).n Obj.healthReasons 0, state, reasons]

theorem memUncorrectable_bedrock (awake : s.awake) (small : memory ≤ 6) :
    Completes (.memUncorrectable dt memory addr .bedrock) s fun t =>
      t.boot.ctrlMemLost = true ∧ bit (t.n Obj.healthReasons 0) 1 = true ∧ t.n Obj.healthState 0 = 2 ∧
        Raised Ev.ctrlMemLost memory s t := by
  let u := (s.tick dt).memLogged memory 12 addr
  let v := u.setReason 1 true
  let x : State := { v with boot := { v.boot with ctrlMemLost := true } }
  have log := (s.tick dt).memLogged_logs memory 12 addr
  have before : Raises [Ev.healthChange, Ev.memUncorrectable] s x :=
    ((u.setReason_raises 1 true).seq (log.since.up (l := [Ev.healthChange, Ev.memUncorrectable]) (by decide))).upd rfl
  have raise := x.raise_only Ev.ctrlMemLost memory
  have lost : bit (v.n Obj.healthReasons 0) 1 = true := u.setReason_reads 1 true
  have reasons : (x.raise Ev.ctrlMemLost memory).n Obj.healthReasons 0 = v.n Obj.healthReasons 0 := raise.n ..
  have health : (x.raise Ev.ctrlMemLost memory).n Obj.healthState 0 = v.n Obj.healthState 0 := raise.n ..
  have critical : v.n Obj.healthState 0 = 2 := by
    rw [u.setReason_health, healthOf, if_pos (Bool.or_eq_true_iff.mpr (.inl lost))]
  refine ⟨_, memUncorrectable_next awake small rfl, ?_, (congrArg (bit · 1) reasons).trans lost, health.trans critical,
    (x.raise_raised Ev.ctrlMemLost memory).before before⟩
  exact congrArg Boot.ctrlMemLost (raise.same .boot)

/-- A fault of Upland after a logged error stops it (R530, R555). -/
theorem State.faultStays.logged_stops (stays : s.faultStays dt) (runs : s.boot.uplandRuns = true) {cause pc a : Nat}
    (small : cause < 2 ^ 32) :
    let u := (s.tick dt).memLogged memory 10 addr
    u.boot.uplandRuns = true ∧ UplandStopped cause s (u.uplandRestart cause pc a) := by
  intro u
  have log := (s.tick dt).memLogged_logs memory 10 addr
  have boot : u.boot = s.boot := log.only.same .boot
  have now : u.now = (s.tick dt).now := log.only.same .now
  obtain ⟨-, -, -, ctl, -⟩ := log.only.updating
  obtain ⟨trial, few⟩ := stays
  have recent : u.recentRestarts.length < 3 := by
    rw [State.recentRestarts, now, boot]
    exact Nat.succ_lt_succ few
  obtain ⟨⟨off, restarts, sessions, reg, raised⟩, -⟩ :=
    u.uplandRestart_stops (cause := cause) pc a small ((congrArg _ ctl).trans trial) recent
  exact ⟨(congrArg Boot.uplandRuns boot).trans runs, off, restarts, sessions, reg, raised.before log.since⟩

theorem memUncorrectable_upland {pc a : Nat} (gated : s.gated) (stays : s.faultStays dt) (small : memory ≤ 6) :
    (Completes (.memUncorrectable dt memory addr (.uplandFetch pc)) s fun t => UplandStopped 1 s t) ∧
      Completes (.memUncorrectable dt memory addr (.uplandLoad pc a)) s fun t => UplandStopped 2 s t := by
  let u := (s.tick dt).memLogged memory 10 addr
  obtain ⟨runs, fetch⟩ := stays.logged_stops (memory := memory) (addr := addr) gated.2 (cause := 1) (pc := pc % 2 ^ 32) (a := 0) (by decide)
  obtain ⟨-, load⟩ := stays.logged_stops (memory := memory) (addr := addr) gated.2 (cause := 2) (pc := pc % 2 ^ 32) (a := a % 2 ^ 32)
    (by decide)
  have fetches : u.memConsume memory (.uplandFetch pc) = _ := if_pos runs
  have loads : u.memConsume memory (.uplandLoad pc a) = _ := if_pos runs
  have one : execMemUncorrectable dt memory addr (.uplandFetch pc) s = .next (u.memConsume memory (.uplandFetch pc)) :=
    memUncorrectable_next gated.1 small rfl
  have two : execMemUncorrectable dt memory addr (.uplandLoad pc a) s = .next (u.memConsume memory (.uplandLoad pc a)) :=
    memUncorrectable_next gated.1 small rfl
  rw [fetches] at one
  rw [loads] at two
  exact ⟨⟨_, one, fetch⟩, _, two, load⟩

theorem memUncorrectable_scree {r : ScrRun} (awake : s.awake) (small : memory ≤ 6) (run : s.scr.run = some r)
    (channel : r.channel < 16) (inside : s.descIn r.channel) :
    Completes (.memUncorrectable dt memory addr .screeRead) s fun t => HaltedBy r.channel 1 s t := by
  let u := (s.tick dt).memLogged memory 11 addr
  have log := (s.tick dt).memLogged_logs memory 11 addr
  have regs (off : Nat) (low : off < 0x20) : u.regN (scrCh r.channel off) = s.regN (scrCh r.channel off) :=
    log.only.regN (scrCh_apart off _ (by decide))
  have desc : u.scrDesc r.channel = s.scrDesc r.channel := State.scrDesc_congr regs
  have run : u.scr.run = some r := (congrArg Scree.run (log.only.same .scr)).trans run
  have fails := u.scrFail_fails (code := 1) run channel (by rw [State.descIn, desc]; exact inside) (by decide)
  exact ⟨_, memUncorrectable_next awake small rfl, fails.halted.since regs log.since⟩

/-! ## The scrubber (R556) -/

/-- What the scrubber does of its progress. -/
def State.scrubbed (t : State) (memory addr : Nat) (passEnd : Bool) : State :=
  if memory < 4 then
    if passEnd then ((t.setN Obj.memScrubProgress 0 0).setN Obj.memScrubLastPass 0 t.ptp).raise Ev.memScrubPass memory
    else t.setN Obj.memScrubProgress 0 (scrubPercent addr)
  else t

theorem State.scrubbed_only (t : State) (memory addr : Nat) (passEnd : Bool) :
    Only ⟨[.out, .pinned, .ev, .flashJournal, .diskJournal], [Obj.memScrubProgress, Obj.memScrubLastPass, Obj.eventCount,
      Obj.eventLastAt, Obj.eventLastSubject], [0x40000004, 0x40000008]⟩ t (t.scrubbed memory addr passEnd) := by
  unfold State.scrubbed
  split
  · split
    · exact (State.raise_only ..).seq ((State.setN_only ..).seq ((t.setN_only ..).up))
    · exact (t.setN_only ..).up
  · exact .refl _ _

theorem State.scrubbed_raises (t : State) (memory addr : Nat) (passEnd : Bool) :
    Raises [Ev.memScrubPass] t (t.scrubbed memory addr passEnd) := by
  unfold State.scrubbed
  have first : Raises [] t (t.setN Obj.memScrubProgress 0 0) := .of_only (t.setN_only ..)
  exact .ite (.ite ((State.raise_raises ..).seq ((Raises.still (State.setN_only ..) first).up (by decide))) (.of_only (t.setN_only ..))) (.refl t)

theorem memScrubRead_scrubs {r : ScrubResult} {passEnd : Bool} (awake : s.awake) (small : memory ≤ 6) :
    Completes (.memScrubRead dt memory addr r passEnd) s fun t =>
      (r = .correctable ∨ r = .correctableOverwritten → Counted Obj.memCorrected memory 1 s t) ∧
      (r = .uncorrectable → Counted Obj.memUncorrectable memory 1 s t ∧ Raised Ev.memUncorrectable memory s t) ∧
      (memory < 4 → if passEnd = true then
          t.n Obj.memScrubProgress 0 = 0 ∧ t.n Obj.memScrubLastPass 0 = t.ptp ∧ Raised Ev.memScrubPass memory s t
        else t.n Obj.memScrubProgress 0 = scrubPercent addr) := by
  let u := match r with
    | .good => s.tick dt
    | .correctable => (s.tick dt).memCorrected memory
    | .correctableOverwritten => (s.tick dt).memCorrected memory
    | .uncorrectable => (s.tick dt).memLogged memory 0 addr
  have call : execMemScrubRead dt memory addr r passEnd s = .next (u.scrubbed memory addr passEnd) :=
    actIf_next awake (decide_eq_true small)
  have only := u.scrubbed_only memory addr passEnd
  have corrected : Counted Obj.memCorrected memory 1 s ((s.tick dt).memCorrected memory) :=
    Counted.still ((s.tick dt).bump_counted ..) (State.raiseLimited_only ..)
  have correctedRaises : Raises [Ev.memCorrected, Ev.memUncorrectable] (s.tick dt) ((s.tick dt).memCorrected memory) :=
    (State.raiseLimited_raises ..).seq ((s.tick dt).bump_raises ..)
  have log := (s.tick dt).memLogged_logs memory 0 addr
  have raises : Raises [Ev.memCorrected, Ev.memUncorrectable] (s.tick dt) u := by
    unfold u
    cases r with
    | good => exact .refl _
    | correctable => exact correctedRaises
    | correctableOverwritten => exact correctedRaises
    | uncorrectable => exact log.raises.up (by decide)
  refine ⟨_, call, fun correctable => ?_, fun uncorrectable => ?_, fun hbm => ?_⟩
  · rcases correctable with rfl | rfl
    · exact corrected.still only
    · exact corrected.still only
  · subst uncorrectable
    exact ⟨Counted.still (s := s) log.counted only, log.raised.after (u.scrubbed_raises memory addr passEnd) only.ptp⟩
  · unfold State.scrubbed
    rw [if_pos hbm]
    cases passEnd with
    | true =>
      let v := u.setN Obj.memScrubProgress 0 0
      let x := v.setN Obj.memScrubLastPass 0 u.ptp
      have raise := x.raise_only Ev.memScrubPass memory
      have last : Only ⟨[], [Obj.memScrubLastPass], []⟩ v x := v.setN_only ..
      have before : Raises [Ev.memCorrected, Ev.memUncorrectable] (s.tick dt) x :=
        .still last (.still (u.setN_only Obj.memScrubProgress 0 0) raises)
      refine ⟨?_, ?_, Raised.of_tick ((x.raise_raised Ev.memScrubPass memory).before before)⟩
      · exact (raise.n Obj.memScrubProgress 0).trans ((last.n ..).trans (State.n_setN_self ..))
      · exact (raise.n Obj.memScrubLastPass 0).trans ((State.n_setN_self ..).trans (raise.ptp.trans last.ptp).symm)
    | false => exact State.n_setN_self ..

end

end Sys2Proof.Machine

end

section

/-! PROOFS. O53, continued: blocks of video concealed, and side data lost (R175, R176, R555). -/

namespace Sys2Proof.Machine

set_option Elab.async false

section
variable {s t : State} {dt memory addr slot seq line block d : Nat}

/-! ## What a destination feeds -/

/-- The objects that say what a destination feeds. -/
abbrev sinkObjs : List Nat :=
  [Obj.txSlot, Obj.txEnable, Obj.txSource, Obj.txEssence, Obj.txPartner, Obj.layerDstSlot, Obj.recEnable, Obj.recDst, Obj.dlyEnable,
    Obj.dlyDst]

theorem Objs.sink_congr {c c' : Objs} (hs : ∀ i ∈ sinkObjs, Objs.subs c' i = Objs.subs c i)
    (hn : ∀ i ∈ sinkObjs, ∀ k, Objs.n c' i k = Objs.n c i k) (d : Nat) : Objs.sink c' d = Objs.sink c d := by
  have enabled {i : Nat} (h : i ∈ sinkObjs) (k : Nat) : Objs.b c' i k = Objs.b c i k := congrArg (· != 0) (hn i h k)
  have lead (e : Nat) : Objs.txLeadEntry c' e = Objs.txLeadEntry c e := by
    unfold Objs.txLeadEntry
    rw [hn Obj.txPartner (by decide)]
    dsimp only
    rw [enabled (i := Obj.txEnable) (by decide)]
  unfold Objs.sink Objs.sinks Objs.txEntries
  simp only [hs Obj.txSlot (by decide), hs Obj.txEnable (by decide), hs Obj.layerDstSlot (by decide), hs Obj.recEnable (by decide),
    hs Obj.dlyEnable (by decide), hn Obj.txSlot (by decide), hn Obj.txSource (by decide), hn Obj.txEssence (by decide),
    hn Obj.layerDstSlot (by decide), hn Obj.recDst (by decide), hn Obj.dlyDst (by decide), enabled (i := Obj.txEnable) (by decide),
    enabled (i := Obj.recEnable) (by decide), enabled (i := Obj.dlyEnable) (by decide), lead]

theorem State.memLogged_subsKept (s : State) (memory consumer addr : Nat) :
    SubsKept (Obj.memUncorrectable :: Obj.memErrorLog :: eventObjs) s (s.memLogged memory consumer addr) := by
  unfold State.memLogged
  extract_lets t entry
  have counted : SubsKept (Obj.memUncorrectable :: eventObjs) s t := s.bump_subsKept ..
  have log (b : List Byte) : SubsKept [Obj.memErrorLog] t (t.setBy Obj.memErrorLog 0 b) :=
    ⟨fun j hj => Objs.subs_set _ _ (by rw [adrIndex_adr]; exact fun e => hj (e ▸ List.mem_singleton_self _))⟩
  exact (State.raise_subsKept ..).seq ((log _).seq ⟨fun i hi => counted.kept i fun m => hi (by revert m; simp only [List.mem_cons]; tauto)⟩)

theorem foldl_objs {α : Type} {f : State → α → State} (h : ∀ u x, (f u x).objs = u.objs) (l : List α) (s : State) :
    (l.foldl f s).objs = s.objs := by
  induction l generalizing s with
  | nil => rfl
  | cons x l ih => exact (ih _).trans (h s x)

theorem State.repaint_subsKept (s : State) (d : Nat) (x : Shown) : SubsKept [Obj.dlyStored] s (s.repaint d x) := by
  have shown (f : SdiOut → SdiOut) : SubsKept [Obj.dlyStored] s (s.reshow d x f) := by
    unfold State.reshow
    extract_lets y t
    have set : SubsKept [Obj.dlyStored] s t := .of_objs rfl
    split
    next r _ =>
      refine set.still ?_
      unfold State.renewRecord
      extract_lets z one c
      split
      · rfl
      · rfl
    next l _ => exact (State.setN_subsKept ..).seq (set.still rfl)
    · refine set.still ?_
      unfold State.renewTx
      refine foldl_objs ?_ _ _
      exact fun _ _ => rfl
    · exact set
  unfold State.repaint
  extract_lets t
  split
  · exact .ite ((shown _).still rfl) (shown _)
  · exact shown _

/-! ## The slot of a destination -/

theorem State.reshow_ridge (s : State) (d : Nat) (x : Shown) (f : SdiOut → SdiOut) :
    (s.reshow d x f).ridge = (s.setDst d { s.dst d with shown := some x }).ridge := by
  unfold State.reshow
  extract_lets y t
  split
  · exact (t.renewRecord_only ..).same .ridge
  · exact (t.renewDelay_only ..).same .ridge
  · exact (t.renewTx_only ..).same .ridge
  · rfl

theorem State.repaint_ridge (s : State) (d : Nat) (x : Shown) :
    (s.repaint d x).ridge = (s.setDst d { s.dst d with shown := some x }).ridge := by
  unfold State.repaint
  extract_lets t
  have ridge : t.ridge = (s.setDst d { s.dst d with shown := some x }).ridge := s.reshow_ridge ..
  split
  · split
    · exact ridge
    · exact ridge
  · exact ridge

theorem State.repaint_dst_ne (s : State) {k d : Nat} (x : Shown) (other : d ≠ k) : (s.repaint k x).dst d = s.dst d := by
  have ridge := s.repaint_ridge k x
  rw [State.dst, ridge]
  exact s.dst_setDst_ne k d _ other

/-- Every entry of a destination shows the same frame. -/
def State.alone (s : State) (d : Nat) (x : Shown) : Prop := ∀ y ∈ s.ridge.dst, y.1 = d → y.2.shown = some x

theorem State.repaint_alone (s : State) (d : Nat) (x : Shown) : (s.repaint d x).alone d x := by
  intro y among key
  rw [s.repaint_ridge] at among
  rcases List.mem_cons.mp among with rfl | rest
  · rfl
  · have other := (List.mem_filter.mp rest).2
    rw [key, bne_self_eq_false] at other
    cases other

/-- A composite that changes leaves a destination that shows a frame of another slot. -/
theorem State.amendPic_dst (s : State) {other : Nat} {x : Shown} (f : Pic → Pic) (alone : s.alone d x)
    (apart : x.store ≠ some (other, seq)) : (s.amendPic other seq f).dst d = s.dst d := by
  unfold State.amendPic
  split
  · rfl
  next g _ =>
    split
    · rfl
    · extract_lets t
      have list : t.alone d x := alone
      have start : t.dst d = s.dst d := rfl
      unfold State.alone at list
      generalize t.ridge.dst = l at list
      clear_value t
      induction l generalizing t with
      | nil => exact start
      | cons y l ih =>
        rw [List.foldl_cons]
        refine ih _ ?_ fun z among => list z (List.mem_cons_of_mem _ among)
        split
        next z showing =>
          split
          next reads =>
            have key : d ≠ y.1 := by
              rintro rfl
              rw [list y (List.mem_cons_self ..) rfl] at showing
              cases showing
              exact apart reads
            exact (t.repaint_dst_ne _ key).trans start
          · exact start
        · exact start

theorem State.relayer_dst (s : State) {x : Shown} (pic : Pic) (alone : s.alone d x)
    (apart : ∀ e l, Objs.sink s.objs d = .layer e l → ∀ q, x.store ≠ some ((s.engine e).writing, q)) :
    (s.relayer d pic).dst d = s.dst d := by
  unfold State.relayer
  split
  next e l sink =>
    extract_lets other
    split
    · exact s.amendPic_dst _ alone (apart e l sink _)
    · rfl
  · rfl

/-! ## Blocks concealed (R175) -/

/-- The picture that stands in the place of a block that fails. -/
def State.spare (s : State) (slot seq : Nat) (previousBad : Bool) : Pic :=
  if previousBad then .black else (s.src slot).previousPic seq

theorem State.conceal_one (s : State) {previousBad : Bool} {x : Shown} (showing : (s.dst d).shown = some x)
    (reads : x.store = some (slot, seq)) :
    s.conceal slot seq line block previousBad [d] =
      (((s.repaint d { x with pic := .concealed x.pic (s.spare slot seq previousBad) line block }).relayer d
        (.concealed x.pic (s.spare slot seq previousBad) line block)).bump Obj.dstConcealedBlocks d).raiseLimited Ev.memConceal d d := by
  unfold State.conceal
  dsimp only
  rw [List.foldl_cons, List.foldl_nil, showing]
  dsimp only
  rw [if_neg (by rw [reads, bne_self_eq_false]; decide)]
  rfl

theorem State.conceal_counts (s : State) {previousBad : Bool} {x : Shown} (showing : (s.dst d).shown = some x)
    (reads : x.store = some (slot, seq)) :
    Counted Obj.dstConcealedBlocks d 1 s (s.conceal slot seq line block previousBad [d]) := by
  rw [s.conceal_one showing reads]
  refine Counted.from_same (Counted.still (State.bump_counted ..) (State.raiseLimited_only ..)) ?_
  exact ((State.relayer_only ..).n ..).trans ((State.repaint_only ..).n ..)

theorem State.conceal_shows (s : State) {previousBad : Bool} {x : Shown} (showing : (s.dst d).shown = some x)
    (reads : x.store = some (slot, seq)) (apart : ∀ e l, Objs.sink s.objs d = .layer e l → (s.engine e).writing ≠ slot) :
    ∃ y, ((s.conceal slot seq line block previousBad [d]).dst d).shown = some y ∧
      y.pic = .concealed x.pic (s.spare slot seq previousBad) line block := by
  let y : Shown := { x with pic := .concealed x.pic (s.spare slot seq previousBad) line block }
  let t := s.repaint d y
  have painted := s.repaint_only d y
  have sink : Objs.sink t.objs d = Objs.sink s.objs d :=
    Objs.sink_congr (fun i hi => (s.repaint_subsKept d y).kept i (by revert i; decide))
      (fun i hi k => painted.n i k (by decide) (by revert i; decide)) d
  have kept : (t.relayer d y.pic).dst d = t.dst d := t.relayer_dst y.pic (s.repaint_alone d y) fun e l feeds q stored => by
    have engine : t.engine e = s.engine e := congrFun painted.engines e
    have same : some (slot, seq) = some ((t.engine e).writing, q) := reads.symm.trans stored
    rw [engine] at same
    exact apart e l (sink.symm.trans feeds) (Prod.mk.inj (Option.some.inj same)).1.symm
  refine ⟨y, ?_, rfl⟩
  rw [s.conceal_one showing reads, (State.raiseLimited_only ..).dst, State.dst_bump, kept]
  exact s.repaint_shown d y

theorem memUncorrectable_block {previousBad : Bool} {x : Shown} (awake : s.awake) (small : memory ≤ 6)
    (showing : (s.dst d).shown = some x) (reads : x.store = some (slot, seq))
    (apart : ∀ e l, Objs.sink s.objs d = .layer e l → (s.engine e).writing ≠ slot) :
    Completes (.memUncorrectable dt memory addr (.videoBlock slot seq line block previousBad [d])) s fun t =>
      Counted Obj.dstConcealedBlocks d 1 s t ∧
        ∃ y, (t.dst d).shown = some y ∧
          y.pic = .concealed x.pic (if previousBad = true then .black else (s.src slot).previousPic seq) line block := by
  let u := (s.tick dt).memLogged memory 1 addr
  have log : Logged memory (s.tick dt) u := (s.tick dt).memLogged_logs memory 1 addr
  have dst : u.dst = s.dst := log.only.dst
  have showing : (u.dst d).shown = some x := by rw [dst, showing]
  have sink : Objs.sink u.objs d = Objs.sink s.objs d :=
    Objs.sink_congr (fun i hi => ((s.tick dt).memLogged_subsKept memory 1 addr).kept i (by revert i; decide))
      (fun i hi k => log.only.n i k (by decide) (by revert i; decide)) d
  have spare : u.spare slot seq previousBad = if previousBad = true then .black else (s.src slot).previousPic seq := by
    rw [State.spare, log.only.src slot, State.src_tick]
  obtain ⟨y, shows, pic⟩ := u.conceal_shows (line := line) (block := block) (previousBad := previousBad) showing reads
    fun e l feeds => by
      rw [show u.engine e = s.engine e from congrFun log.only.engines e]
      exact apart e l (sink.symm.trans feeds)
  have call : execMemUncorrectable dt memory addr (.videoBlock slot seq line block previousBad [d]) s =
      .next (u.conceal slot seq line block previousBad [d]) := memUncorrectable_next awake small rfl
  refine ⟨_, call, ?_, y, shows, spare ▸ pic⟩
  exact (u.conceal_counts showing reads).from_same (log.only.n Obj.dstConcealedBlocks d)

theorem memUncorrectable_tag {tag previousTag : Nat} {x : Shown} (awake : s.awake) (small : memory ≤ 6)
    (showing : (s.dst d).shown = some x) (reads : x.store = some (slot, seq)) :
    Completes (.memUncorrectable dt memory addr (.tagBlock slot seq line block tag previousTag [d])) s fun t =>
      t.n Obj.memUncorrectable memory = s.n Obj.memUncorrectable memory ∧
        Counted Obj.dstConcealedBlocks d (b2n (tag != frameTag slot line seq)) s t := by
  let u := s.tick dt
  have call : execMemUncorrectable dt memory addr (.tagBlock slot seq line block tag previousTag [d]) s =
      .next (u.memConsume memory (.tagBlock slot seq line block tag previousTag [d])) := actIf_next awake (decide_eq_true small)
  refine ⟨_, call, ?_⟩
  by_cases right : tag = frameTag slot line seq
  · have still : u.memConsume memory (.tagBlock slot seq line block tag previousTag [d]) = u := if_pos right
    rw [still, right, bne_self_eq_false]
    exact ⟨rfl, rfl⟩
  · let prev := (u.src slot).frames.find? fun f => f.complete && f.seq < seq
    let bad := prev.elim true fun f => previousTag != frameTag slot line f.seq
    have acts : u.memConsume memory (.tagBlock slot seq line block tag previousTag [d]) = u.conceal slot seq line block bad [d] :=
      if_neg right
    rw [acts, bne_iff_ne.mpr right]
    exact ⟨(u.conceal_only ..).n Obj.memUncorrectable memory, u.conceal_counts (x := x) showing reads⟩

end

end Sys2Proof.Machine

end

section

/-! PROOFS. O53, continued: side data lost, capture periods, the event FIFO and the pins (R176, R568, R572, R574, R576). -/

namespace Sys2Proof.Machine

set_option Elab.async false

section
variable {s t : State} {dt memory addr slot seq : Nat}

/-! ## The side-data area of a frame (R176) -/

/-- Whether a destination reads a stored frame that is no loss picture. -/
def DstSlot.reads (y : DstSlot) (slot seq : Nat) : Bool := y.shown.elim false fun x => !x.loss && x.store == some (slot, seq)

/-- A destination that shows the frame without its stored packets. -/
def DstSlot.bare (y : DstSlot) : DstSlot := { y with shown := y.shown.map fun x => { x with anc := [], first := false } }

/-- The destinations of a list show their frames without stored packets. -/
def State.bared (s : State) (l : Table DstSlot) : State := l.foldl (fun u y => u.setDst y.1 y.2.bare) s

theorem State.bared_src (s : State) (l : Table DstSlot) : (s.bared l).src = s.src := by
  induction l generalizing s with
  | nil => rfl
  | cons y l ih => exact ih _

theorem State.bared_dst_ne (s : State) {l : Table DstSlot} {d : Nat} (out : d ∉ l.map (·.1)) : (s.bared l).dst d = s.dst d := by
  induction l generalizing s with
  | nil => rfl
  | cons y l ih =>
    rw [List.map_cons, List.mem_cons, not_or] at out
    exact (ih _ out.2).trans (s.dst_setDst_ne _ _ _ out.1)

theorem State.bared_dst (s : State) {l : Table DstSlot} {d : Nat} {z : DstSlot} (among : (d, z) ∈ l) (single : (l.map (·.1)).Nodup) :
    (s.bared l).dst d = z.bare := by
  induction l generalizing s with
  | nil => cases among
  | cons y l ih =>
    rw [List.map_cons, List.nodup_cons] at single
    rcases List.mem_cons.mp among with rfl | later
    · exact (State.bared_dst_ne _ single.1).trans (s.dst_setDst ..)
    · exact ih _ later single.2

/-- The frames of a number have lost their side data. -/
def State.metaLost (s : State) (slot seq : Nat) : Prop := ∀ f ∈ (s.src slot).frames, f.seq = seq → f.metaBad = true

theorem State.mapFrame_metaLost (s : State) (slot seq : Nat) : (s.mapFrame slot seq fun f => { f with metaBad := true }).metaLost slot seq := by
  unfold State.metaLost State.mapFrame
  dsimp only
  rw [State.src_setSrc]
  intro f among number
  obtain ⟨g, -, rfl⟩ := List.mem_map.mp among
  by_cases here : g.seq = seq
  · rw [if_pos here]
  · rw [if_neg here] at number
    exact absurd number here

theorem State.meetSideData_metaLost (s : State) {k : Nat} (f : Frame) (lost : s.metaLost slot seq) : (s.meetSideData k f).metaLost slot seq := by
  unfold State.meetSideData
  split
  · let u := s.setSrc k ((s.src k).mapFrame f.seq fun g => { g with metaRaised := true })
    unfold State.metaLost
    rw [(u.raise_only Ev.frameMetaError k).src slot]
    by_cases here : slot = k
    · subst here
      rw [State.src_setSrc]
      intro g among number
      obtain ⟨h, stored, rfl⟩ := List.mem_map.mp among
      by_cases changed : h.seq = f.seq
      · rw [if_pos changed] at number ⊢
        exact lost h stored number
      · rw [if_neg changed] at number ⊢
        exact lost h stored number
    · rw [State.src_setSrc_ne _ _ _ _ here]
      exact lost
  · exact lost

/-- The state in which the frame's side data are lost, before its event. -/
def State.sideLost (s : State) (slot seq : Nat) : State :=
  (s.bared (s.ridge.dst.filter fun y => y.2.reads slot seq)).mapFrame slot seq fun f => { f with metaBad := true }

theorem State.loseSideData_cases (s : State) (slot seq : Nat) :
    s.loseSideData slot seq = s.sideLost slot seq ∨ ∃ f, s.loseSideData slot seq = (s.sideLost slot seq).meetSideData slot f := by
  unfold State.loseSideData
  extract_lets reading t u
  have lost : u = s.sideLost slot seq := rfl
  clear_value u
  subst lost
  split
  · exact .inl rfl
  · split
    next f _ => exact .inr ⟨f, rfl⟩
    · exact .inl rfl

theorem State.loseSideData_loses (s : State) (slot seq : Nat) : (s.loseSideData slot seq).metaLost slot seq := by
  have lost : (s.sideLost slot seq).metaLost slot seq := State.mapFrame_metaLost _ _ _
  obtain same | ⟨f, same⟩ := s.loseSideData_cases slot seq
  · rw [same]
    exact lost
  · rw [same]
    exact State.meetSideData_metaLost _ f lost

theorem State.loseSideData_dst (s : State) (slot seq : Nat) :
    (s.loseSideData slot seq).dst = (s.bared (s.ridge.dst.filter fun y => y.2.reads slot seq)).dst := by
  obtain same | ⟨f, same⟩ := s.loseSideData_cases slot seq
  · rw [same]
    rfl
  · rw [same, State.dst_meetSideData]
    rfl

theorem memUncorrectable_sideData (awake : s.awake) (small : memory ≤ 6) :
    Completes (.memUncorrectable dt memory addr (.sideData slot seq)) s fun t =>
      (∀ f ∈ (t.src slot).frames, f.seq = seq → f.metaBad = true) ∧
        ∀ d x, (s.dst d).shown = some x → x.loss = false → x.store = some (slot, seq) → (s.ridge.dst.map (·.1)).Nodup →
          ∃ y, (t.dst d).shown = some y ∧ y.anc = [] := by
  let u := (s.tick dt).memLogged memory 2 addr
  have log : Logged memory (s.tick dt) u := (s.tick dt).memLogged_logs memory 2 addr
  have ridge : u.ridge = s.ridge := log.only.same .ridge
  have call : execMemUncorrectable dt memory addr (.sideData slot seq) s = .next (u.loseSideData slot seq) :=
    memUncorrectable_next awake small rfl
  refine ⟨_, call, u.loseSideData_loses slot seq, fun d x showing whole reads single => ?_⟩
  have stored : ∃ z, s.ridge.dst.lookup d = some z ∧ z.shown = some x := by
    unfold State.dst look at showing
    cases entry : s.ridge.dst.lookup d with
    | none =>
      rw [entry] at showing
      cases showing
    | some z =>
      rw [entry] at showing
      exact ⟨z, rfl, showing⟩
  obtain ⟨z, entry, shows⟩ := stored
  have reading : z.reads slot seq = true := by
    rw [DstSlot.reads, shows, Option.elim_some, whole, reads, beq_self_eq_true]
    rfl
  have among : (d, z) ∈ u.ridge.dst.filter fun y => y.2.reads slot seq := by
    rw [ridge]
    exact List.mem_filter.mpr ⟨mem_of_lookup entry, reading⟩
  have keys : ((u.ridge.dst.filter fun y => y.2.reads slot seq).map (·.1)).Nodup := by
    rw [ridge]
    exact single.sublist (List.filter_sublist.map _)
  refine ⟨{ x with anc := [], first := false }, ?_, rfl⟩
  rw [u.loseSideData_dst, u.bared_dst among keys, DstSlot.bare, shows]
  rfl

/-! ## Capture periods (R568) -/

theorem monPeriod_rolls {u : Nat} (awake : s.awake) (captures : s.monStateOf u = 1) (period : s.n Obj.monPeriod u ≠ 0)
    (rolls : (s.monUnit u).roll ≠ (s.tick dt).monIndex u) :
    Completes (.monPeriod dt u) s fun t =>
      t.by Obj.monPrevious u = s.by Obj.monHistogram u ∧
        t.by Obj.monHistogram u =
          (s.monFresh u ((s.tick dt).monIndex u * (1000000000 * s.n Obj.monPeriod u))).encode ∧
        (t.monUnit u).roll = (s.tick dt).monIndex u ∧ Raised Ev.monPeriod u s t := by
  have due : (decide ((s.tick dt).monStateOf u = 1) && (s.tick dt).n Obj.monPeriod u != 0 &&
      ((s.tick dt).monUnit u).roll != (s.tick dt).monIndex u) = true :=
    Bool.and_eq_true_iff.2 ⟨Bool.and_eq_true_iff.2 ⟨decide_eq_true captures, bne_iff_ne.2 period⟩, bne_iff_ne.2 rolls⟩
  refine ⟨_, (actIf_next awake due : execMonPeriod dt u s = _), ?_⟩
  extract_lets k t1 a t2 t3
  beta_reduce
  let v := t3.setMonUnit u ⟨false, k⟩
  have raise := v.raise_only Ev.monPeriod u
  have roll : Only ⟨[], [Obj.monPrevious], []⟩ (s.tick dt) t1 := State.setBy_only ..
  have pins : Only ⟨[.pinned], [], []⟩ t1 t2 := .upd fun q => by cases q <;> first | exact .inr rfl | exact .inl (by decide)
  have fresh : Only ⟨[], [Obj.monHistogram], []⟩ t2 t3 := State.setBy_only ..
  have unit_ : Only _ t3 v := t3.setMonUnit_only u _
  have begun : Only ⟨[.pinned], [Obj.monPrevious], []⟩ (s.tick dt) t2 :=
    pins.seq (roll.up : Only ⟨[.pinned], [Obj.monPrevious], []⟩ (s.tick dt) t1)
  have start : t2.monFresh u (k * (1000000000 * t2.n Obj.monPeriod u)) = s.monFresh u (k * (1000000000 * s.n Obj.monPeriod u)) := by
    unfold State.monFresh
    dsimp only
    rw [begun.n Obj.monLayout, begun.n Obj.monWidth, begun.i Obj.monOrigin, begun.n Obj.monPeriod]
    rfl
  have before : Raises [] s v := .still unit_ (.still fresh (.still begun (.of_objs rfl)))
  refine ⟨?_, ?_, ?_, (v.raise_raised Ev.monPeriod u).before before⟩
  · rw [raise.by Obj.monPrevious, unit_.by Obj.monPrevious, fresh.by Obj.monPrevious, pins.by Obj.monPrevious]
    exact State.by_setBy_self ..
  · rw [raise.by Obj.monHistogram, unit_.by Obj.monHistogram]
    exact (State.by_setBy_self ..).trans (congrArg Hist.encode start)
  · rw [raise.monUnit u, State.monUnit_setMonUnit]

end

end Sys2Proof.Machine

end

section

/-! PROOFS. O53, continued: the event FIFO and the event pins (R572, R574, R576). -/

namespace Sys2Proof.Machine

set_option Elab.async false

section
variable {s t : State} {dt n value : Nat}

/-! ## Pins (R576) -/

theorem State.evPin_setEvPin (s : State) (small : n < 2) (p : EvPin) : (s.setEvPin n p).evPin n = p := by
  have cases : n = 0 ∨ n = 1 := by omega
  unfold State.setEvPin
  extract_lets changed e u
  have set : u.evPin n = p := by
    unfold u
    obtain rfl | rfl := cases <;> rfl
  split
  · exact set
  · exact set

theorem State.evPin_setEvPin_ne (s : State) {k : Nat} (small : n < 2) (other : k < 2 ∧ k ≠ n) (p : EvPin) :
    (s.setEvPin n p).evPin k = s.evPin k := by
  have cases : n = 0 ∧ k = 1 ∨ n = 1 ∧ k = 0 := by omega
  unfold State.setEvPin
  extract_lets changed e u
  have kept : u.evPin k = s.evPin k := by
    unfold u
    obtain ⟨rfl, rfl⟩ | ⟨rfl, rfl⟩ := cases <;> rfl
  split
  · exact kept
  · exact kept

/-- What an acknowledgement does of one pin. -/
def State.ackOne (s : State) (value n : Nat) : State :=
  if !bit value n then s
  else if s.regField Reg.evtPinctl n n = 0 then s.evAckPin n
  else s.setEvPin n { s.evPin n with cause := none }

theorem State.ackOne_only (s : State) (value n : Nat) : Only ⟨[.out, .ev], [], []⟩ s (s.ackOne value n) := by
  unfold State.ackOne
  split
  · exact .refl _ _
  · split
    · exact s.setEvPin_only ..
    · exact s.setEvPin_only ..

theorem State.ackOne_ne (s : State) {k : Nat} (small : n < 2) (other : k < 2 ∧ k ≠ n) : (s.ackOne value n).evPin k = s.evPin k := by
  unfold State.ackOne
  split
  · rfl
  · split
    · exact s.evPin_setEvPin_ne small other _
    · exact s.evPin_setEvPin_ne small other _

/-- A pin acknowledged has no cause, and in LEVEL mode it is released. -/
theorem State.ackOne_acknowledges (s : State) (small : n < 2) :
    if bit value n = true then
      ((s.ackOne value n).evPin n).cause = none ∧
        ((s.ackOne value n).evPin n).asserted = if s.regField Reg.evtPinctl n n = 0 then false else (s.evPin n).asserted
    else (s.ackOne value n).evPin n = s.evPin n := by
  by_cases acknowledged : bit value n = true
  · rw [if_pos acknowledged, State.ackOne, if_neg (by rw [acknowledged]; decide)]
    by_cases level : s.regField Reg.evtPinctl n n = 0
    · rw [if_pos level, if_pos level, State.evAckPin, s.evPin_setEvPin small]
      exact ⟨rfl, rfl⟩
    · rw [if_neg level, if_neg level, s.evPin_setEvPin small]
      exact ⟨rfl, rfl⟩
  · rw [if_neg acknowledged, State.ackOne, if_pos (by rw [Bool.eq_false_iff.mpr acknowledged]; rfl)]

theorem evtPinAck_acknowledges (awake : s.awake) (small : n < 2) :
    Completes (.evtPinAck dt value) s fun t =>
      if bit value n = true then
        (t.evPin n).cause = none ∧
          (t.evPin n).asserted = if s.regField Reg.evtPinctl n n = 0 then false else (s.evPin n).asserted
      else t.evPin n = s.evPin n := by
  let u := s.tick dt
  have call : execEvtPinAck dt value s = .next ((u.ackOne value 0).ackOne value 1) := act_next awake
  refine ⟨_, call, ?_⟩
  have cases : n = 0 ∨ n = 1 := by omega
  obtain rfl | rfl := cases
  · beta_reduce
    have later : ((u.ackOne value 0).ackOne value 1).evPin 0 = (u.ackOne value 0).evPin 0 :=
      State.ackOne_ne _ (by decide) (by decide)
    rw [later]
    exact u.ackOne_acknowledges (by decide)
  · have pin : (u.ackOne value 0).evPin 1 = s.evPin 1 := u.ackOne_ne (by decide) (by decide)
    have mode : (u.ackOne value 0).regField Reg.evtPinctl 1 1 = s.regField Reg.evtPinctl 1 1 :=
      congrArg (field · 1 1) ((u.ackOne_only value 0).regN List.not_mem_nil)
    have acks := (u.ackOne value 0).ackOne_acknowledges (n := 1) (value := value) (by decide)
    rw [pin, mode] at acks
    exact acks

theorem evtPulseEnd_ends {pin a : Nat} (awake : s.awake) (small : pin < 2) (asserted : (s.evPin pin).asserted = true)
    (pulse : s.regField Reg.evtPinctl pin pin = 1) (started : (s.evPin pin).pulseAt = some a) (past : a + 2000 ≤ s.now + dt) :
    Completes (.evtPulseEnd dt pin) s fun t => (t.evPin pin).asserted = false ∧ Out.pin .evtN pin 1 ∈ t.out := by
  let u := s.tick dt
  have asserted : (u.evPin pin).asserted = true := asserted
  have due : (pin < 2 && (u.evPin pin).asserted && u.regField Reg.evtPinctl pin pin = 1 &&
      ((u.evPin pin).pulseAt.elim false fun a => decide (a + 2000 ≤ u.now)) : Bool) = true := by
    have pulse : u.regField Reg.evtPinctl pin pin = 1 := pulse
    have started : (u.evPin pin).pulseAt = some a := started
    have past : a + 2000 ≤ u.now := past
    rw [asserted, pulse, started, Option.elim_some, decide_eq_true past, decide_eq_true small]
    rfl
  have call : execEvtPulseEnd dt pin s = .next (u.setEvPin pin { u.evPin pin with asserted := false }) := actIf_next awake due
  refine ⟨_, call, ?_, ?_⟩
  · rw [u.evPin_setEvPin small]
  · unfold State.setEvPin
    rw [asserted]
    exact State.mem_emit ..

/-! ## The event FIFO (R572, R574) -/

/-- The FIFO has room and no overflow episode runs. -/
def State.roomy (s : State) (most : Nat) : Prop := s.ev.episode = false ∧ s.ev.fifo.length ≤ most

theorem State.setEvPin_roomy (s : State) (p : EvPin) {most : Nat} (room : s.roomy most) : (s.setEvPin n p).roomy most := by
  unfold State.setEvPin
  extract_lets changed e u
  have kept : u.roomy most := by
    unfold u
    split
    · exact room
    · exact room
  split
  · exact kept
  · exact kept

theorem State.assertPin_roomy (s : State) (source : Nat) {most : Nat} (room : s.roomy most) : (s.assertPin n source).roomy most := by
  unfold State.assertPin
  extract_lets p
  split
  · exact s.setEvPin_roomy _ room
  · split
    · split
      · exact room
      · exact s.setEvPin_roomy _ room
    · exact s.setEvPin_roomy _ room

theorem State.evPush_roomy (s : State) (r : EvRec) {most : Nat} (room : s.roomy most) (small : most < 1024) :
    (s.evPush r).roomy (most + 1) := by
  obtain ⟨episode, length⟩ := room
  unfold State.evPush
  rw [if_pos (by omega)]
  refine ⟨episode, ?_⟩
  rw [List.length_append]
  exact Nat.succ_le_succ length

theorem State.roomy_of_ev {most : Nat} (same : t.ev = s.ev) (room : s.roomy most) : t.roomy most := by
  rw [State.roomy, same]
  exact room

theorem State.raiseOnce_roomy (s : State) (source subject : Nat) {most : Nat} (room : s.roomy most) (small : most < 1024) :
    (s.raiseOnce source subject).roomy (most + 1) := by
  unfold State.raiseOnce
  extract_lets s1 s2 s3 s4 m s5 s6 s7
  have h3 : s3.roomy most := State.roomy_of_ev (show s3.ev = s.ev from rfl) room
  have h4 : s4.roomy (most + 1) := s3.evPush_roomy _ h3 small
  have h5 : s5.roomy (most + 1) := by
    unfold s5
    split
    · exact s4.assertPin_roomy _ h4
    · exact h4
  have h6 : s6.roomy (most + 1) := by
    unfold s6
    split
    · exact s5.assertPin_roomy _ h5
    · exact h5
  have h7 : s7.roomy (most + 1) := State.roomy_of_ev ((s6.journal_only ..).same .ev) h6
  split
  · exact State.roomy_of_ev ((s7.flashJournal_only ..).same .ev) h7
  · exact h7

theorem State.raise_roomy (s : State) (source subject : Nat) {most : Nat} (room : s.roomy most) (small : most < 1023) :
    (s.raise source subject).ev.episode = false := by
  unfold State.raise
  extract_lets a full s1
  have h1 : s1.roomy (most + 1) := s.raiseOnce_roomy source subject room (by omega)
  split
  · have pinned : (s1.setPinned a).roomy (most + 1) := by
      unfold State.setPinned
      split
      · exact h1
      · exact h1
    exact (State.raiseOnce_roomy _ _ _ pinned (by omega)).1
  · exact h1.1

/-- The head record has left the FIFO, and Upland has taken it. -/
def State.evTaken (s : State) (r : EvRec) (l : List EvRec) : State :=
  { s with
    ev := { s.ev with fifo := l, droppedUnseen := if s.il.ctlUp then 0 else s.ev.droppedUnseen }
    il := { s.il with sessions := if s.il.ctlUp then
        s.il.sessions.map fun (p : Nat × Session) => (p.1, p.2.takeRecord r s.ev.droppedUnseen s.now)
      else s.il.sessions } }

theorem State.evPop_head (s : State) {r : EvRec} {l : List EvRec} (head : s.ev.fifo = r :: l) :
    s.evPop =
      if s.ev.episode && l.length ≤ 512 then
        { s.evTaken r l with ev := { (s.evTaken r l).ev with episode := false, episodeDrops := 0 } }.raise Ev.eventFifoOverflow
          s.ev.episodeDrops
      else s.evTaken r l := by
  unfold State.evPop
  rw [head]
  rfl

theorem evtPop_takes {r : EvRec} {l : List EvRec} (awake : s.awake) (head : s.ev.fifo = r :: l)
    (goes : s.ev.episode = false ∨ 512 < l.length) :
    Completes (.evtPop dt value) s fun t =>
      t.ev.fifo = l ∧ t.il.sessions =
        if s.il.ctlUp = true then
          s.il.sessions.map fun (p : Nat × Session) => (p.1, p.2.takeRecord r s.ev.droppedUnseen t.now)
        else s.il.sessions := by
  let u := s.tick dt
  have call : execEvtPop dt value s = .next u.evPop := act_next awake
  have stays : ¬ (u.ev.episode && l.length ≤ 512 : Bool) = true := by
    rw [Bool.and_eq_true, decide_eq_true_eq]
    rintro ⟨episode, few⟩
    rcases goes with none_ | many
    · exact Bool.false_ne_true (none_.symm.trans episode)
    · omega
  rw [u.evPop_head head, if_neg stays] at call
  exact ⟨_, call, rfl, rfl⟩

theorem evtPop_ends {r : EvRec} {l : List EvRec} (awake : s.awake) (head : s.ev.fifo = r :: l) (episode : s.ev.episode = true)
    (few : l.length ≤ 512) :
    Completes (.evtPop dt value) s fun t => t.ev.episode = false ∧ Raised Ev.eventFifoOverflow s.ev.episodeDrops s t := by
  let u := s.tick dt
  let v : State := { u.evTaken r l with ev := { (u.evTaken r l).ev with episode := false, episodeDrops := 0 } }
  have call : execEvtPop dt value s = .next u.evPop := act_next awake
  have ends : (u.ev.episode && l.length ≤ 512 : Bool) = true := Bool.and_eq_true_iff.mpr ⟨episode, decide_eq_true few⟩
  rw [u.evPop_head head, if_pos ends] at call
  have before : Raises [] s v := .of_objs rfl
  exact ⟨_, call, v.raise_roomy _ _ (most := 512) ⟨rfl, few⟩ (by decide),
    (v.raise_raised Ev.eventFifoOverflow s.ev.episodeDrops).before before⟩

end

/-- Settles O53: what memory errors, capture periods, the event FIFO and the event pins do, clause by clause. -/
theorem memoryAndEvents : Obligations.MemoryAndEvents := by
  unfold Obligations.MemoryAndEvents
  refine ⟨?_, ?_, ?_, ?_, ?_, ?_, ?_, ?_, ?_, ?_, ?_, ?_, ?_, ?_, ?_, ?_, ?_, ?_, ?_⟩
  · exact fun s dt memory => memCorrected_counts
  · exact fun s dt memory addr entry seq => memUncorrectable_packet
  · exact fun s dt memory addr slot seq line block previousBad d x => memUncorrectable_block
  · exact fun s dt memory addr slot seq line block tag previousTag d x => memUncorrectable_tag
  · exact fun s dt memory addr slot seq => memUncorrectable_sideData
  · exact fun s dt memory addr layer offset => memUncorrectable_graphics
  · exact fun s dt memory addr engine => memUncorrectable_firn
  · exact fun s dt memory addr stage => memUncorrectable_table
  · exact fun s dt memory addr => memUncorrectable_commit
  · exact fun s dt memory addr play frame => memUncorrectable_staging
  · exact fun s dt memory addr pc a => memUncorrectable_upland
  · exact fun s dt memory addr r => memUncorrectable_scree
  · exact fun s dt memory addr => memUncorrectable_bedrock
  · exact fun s dt memory addr r passEnd => memScrubRead_scrubs
  · exact fun s dt u => monPeriod_rolls
  · exact fun s dt value r l => evtPop_takes
  · exact fun s dt value r l => evtPop_ends
  · exact fun s dt value n => evtPinAck_acknowledges
  · exact fun s dt pin a => evtPulseEnd_ends

end Sys2Proof.Machine

end
